-- ==== Sys2Proof/Word.lean ====
section
/-! DEFINITION. The words the KN2560 works in: bytes of packets and charts, 32-bit fabric words and
registers, sparse tables keyed by a number. Plain data only. -/

namespace Sys2Proof

/-- A byte of a packet, chart, image or record. -/
abbrev Byte := BitVec 8

/-- A 32-bit word: a fabric word in Q5.27 (R92), a register, a mask. -/
abbrev Word := BitVec 32

/-- A sparse table: entries with strictly rising keys, none equal to what an unlisted key reads as. -/
abbrev Tbl (α : Type) := List (Nat × α)

end Sys2Proof
end

