-- ==== Sys2Proof/Syntax.lean ====
section
/-! DEFINITION. The commands of the KN2560, one constructor per row of spec/opcode_table.json.
A host command carries who sent it and its payload bytes; an event carries what the outside world
decides about it. -/

namespace Sys2Proof

/-- The five host contexts (R21, Table 2-1). -/
inductive Ctx where
  | h0 | h1 | h2 | h3 | h4
  deriving DecidableEq, Repr

/-- Who issued a packet and how: its context, its TAG byte, and whether it is a version 1 packet
(R24, R26, R43). -/
structure Issue where
  ctx : Ctx
  tag : Byte
  v1 : Bool
  deriving DecidableEq, Repr

/-- What a port hands to ingress gather (Table 5-2). `fabric` is a word of a converter chain, which
arrives as a fabric word (R93). -/
inductive PortFormat where
  | int16 | int24 | int32 | float32 | fabric
  deriving DecidableEq, Repr

/-- The standard requests that the USB protocol sequencer answers itself (R255), and, by bRequest, the class requests of
an interface that have no row of their own: those that only read, of audio control, HID and DFU, and HID's that write. R255
passes these to the CP; their place beside the standard requests is the model's (DESIGN CHOICE, log entry 120). -/
inductive UsbRequest where
  | getDescriptor | getStatus | setAddress | setFeature | clearFeature | getConfiguration
  | getInterface | setSel | setIsochDelay
  | classGet (request : Byte)
  | classSet (request : Byte)
  deriving DecidableEq, Repr

/-- Declarations of the neighbour that MSRP registers (R313, R314): a Domain of a class with its
priority and VID, a Talker Advertise or Talker Failed, a Listener Ready, Ready Failed or Asking Failed. -/
inductive MsrpKind where
  | domain (classA : Bool) (priority : BitVec 3) (vid : BitVec 12)
  | talkerAdvertise | talkerFailed
  | listenerReady | listenerReadyFailed | listenerAskingFailed
  deriving DecidableEq, Repr

/-- An entity as an ADP message describes it (R319, DISC_READ of Table 13-12). -/
structure DiscEntry where
  entityId : BitVec 64
  modelId : BitVec 64
  capabilities : BitVec 32
  talkerSources : BitVec 16
  listenerSinks : BitVec 16
  grandmaster : BitVec 64
  source : BitVec 48
  validTime : BitVec 5
  availableIndex : BitVec 32
  deriving DecidableEq, Repr

/-- AEM commands (R320). `other` is any command of AEM that the list of R320 does not hold. -/
inductive AemCommand where
  | acquireEntity (release : Bool)
  | lockEntity (unlock : Bool)
  | entityAvailable
  | readDescriptor (type index : BitVec 16)
  | getStreamFormat (input : Bool) (k : Fin 32)
  | setStreamFormat (input : Bool) (k : Fin 32) (format : Byte) (rate : Byte) (channels : Byte)
  | getStreamInfo (input : Bool) (k : Fin 32)
  | setStreamInfo (input : Bool) (k : Fin 32) (streamId : BitVec 64) (dest : BitVec 48)
  | startStreaming (input : Bool) (k : Fin 32)
  | stopStreaming (input : Bool) (k : Fin 32)
  | getAvbInfo | getAsPath
  | getCounters (type index : BitVec 16)
  | getClockSource (d : Fin 8)
  | setClockSource (d : Fin 8) (alt : Byte)
  | registerUnsolicited | deregisterUnsolicited
  | other (code : BitVec 15)
  deriving DecidableEq, Repr

/-- A command of the block: a host command taken by the CP from a context, or a step of the part
itself. One constructor per row of the table, in its order. -/
inductive Instr where
  /-- HELLO (R22). Opens a USB or network context, or re-applies the compatibility level of an open context. -/
  | hello (o : Issue) (p : List Byte)
  /-- BYE (R41). Closes H2-H4; on H0 or H1 releases the moorings and restores the subscription mask, and the context stays open. -/
  | bye (o : Issue) (p : List Byte)
  /-- GET_INFO (R41). Returns the device ID, firmware and security versions, the chart in use and the previous log number. -/
  | getInfo (o : Issue) (p : List Byte)
  /-- GET_STATE (R374). Returns the device state code, the SHELTER, PROBATION and SETTINGS_FALLBACK flags and the period count. -/
  | getState (o : Issue) (p : List Byte)
  /-- CLAIM (R34). Claims ownership of listed resources, for all of them or for none. -/
  | claim (o : Issue) (p : List Byte)
  /-- RELEASE (R34). Releases ownership of listed resources held by the issuer. -/
  | release (o : Issue) (p : List Byte)
  /-- FORCE_RELEASE (R34). The supervisor makes listed resources unowned whoever owns them. -/
  | forceRelease (o : Issue) (p : List Byte)
  /-- GET_MOORINGS (R32). Returns the owner code of every instance of a resource class. -/
  | getMoorings (o : Issue) (p : List Byte)
  /-- SET_SUPERVISOR (R36). The present supervisor makes another open context supervisor. -/
  | setSupervisor (o : Issue) (p : List Byte)
  /-- IRQ_ASSIGN (R40). The supervisor changes the set of contexts assigned to an IRQ pin. -/
  | irqAssign (o : Issue) (p : List Byte)
  /-- GET_LOG_NUMBER (R29). Returns the log number assigned to this command. -/
  | getLogNumber (o : Issue) (p : List Byte)
  /-- ECHO (R454). Returns its payload unchanged. -/
  | echo (o : Issue) (p : List Byte)
  /-- RESET (R41). With the correct key, the supervisor resets the part within 1 ms of the reply. -/
  | reset (o : Issue) (p : List Byte)
  /-- EVENT_READ (R39). Returns the oldest event records without removing them. -/
  | eventRead (o : Issue) (p : List Byte)
  /-- EVENT_ACK (R39). Removes acknowledged events from the queue, oldest first. -/
  | eventAck (o : Issue) (p : List Byte)
  /-- EVENT_SUBSCRIBE (R37). Sets the context's event group subscription mask. -/
  | eventSubscribe (o : Issue) (p : List Byte)
  /-- EVENT_STATUS (R38). Returns the entries held, the subscription mask and the count of a pending EVENT_LOST. -/
  | eventStatus (o : Issue) (p : List Byte)
  /-- EVENT_FLUSH (R42). Discards every queued entry, EVENT_LOST included, without changing SEQ. -/
  | eventFlush (o : Issue) (p : List Byte)
  /-- CHART_INFO (R455). Returns the slot state, chart header figures, overlay states and the supported format range. -/
  | chartInfo (o : Issue) (p : List Byte)
  /-- OVERLAY_ACTIVATE (R75). Starts or joins the activation of an overlay, as Table 4-10 and the admission rules decide. -/
  | overlayActivate (o : Issue) (p : List Byte)
  /-- OVERLAY_DEACTIVATE (R75). Starts or joins the deactivation of an overlay. -/
  | overlayDeactivate (o : Issue) (p : List Byte)
  /-- OVERLAY_SWITCH (R77). Starts a make-before-break switch from an active overlay to an inactive one. -/
  | overlaySwitch (o : Issue) (p : List Byte)
  /-- OVERLAY_STATUS (R74). Returns the state of every overlay. -/
  | overlayStatus (o : Issue) (p : List Byte)
  /-- BINDING_SET (R81). The supervisor enables or disables an event binding. -/
  | bindingSet (o : Issue) (p : List Byte)
  /-- BINDING_LIST (R81). Returns binding records with their present enables. -/
  | bindingList (o : Issue) (p : List Byte)
  /-- SET_VARIANT (R83). The supervisor requests the reduced variant, or the full chart when the margin allows. -/
  | setVariant (o : Issue) (p : List Byte)
  /-- CHART_WRITE_OPEN (R72). Erases the slot not in use, sets it to writing and opens a write session. -/
  | chartWriteOpen (o : Issue) (p : List Byte)
  /-- CHART_WRITE_DATA (R85). Writes chart bytes at the next offset of the open session. -/
  | chartWriteData (o : Issue) (p : List Byte)
  /-- CHART_WRITE_CLOSE (R72). Checks the written chart and marks the slot valid or invalid. -/
  | chartWriteClose (o : Issue) (p : List Byte)
  /-- CHART_SELECT (R86). Selects a valid slot at the next reset, or now with fades, a base load and mooring reset. -/
  | chartSelect (o : Issue) (p : List Byte)
  /-- CHART_READ (R459). Returns bytes read from a chart slot. -/
  | chartRead (o : Issue) (p : List Byte)
  /-- SET_PARAM (R120). Commits a new target and ramp time to a parameter slot. -/
  | setParam (o : Issue) (p : List Byte)
  /-- SET_PARAM_BLOCK (R142). Commits several parameter writes together under one log number. -/
  | setParamBlock (o : Issue) (p : List Byte)
  /-- GET_PARAM (R115). Returns target, present value, stored ramp time, kind and remaining ramp periods of slots. -/
  | getParam (o : Issue) (p : List Byte)
  /-- SET_RAMP_TIME (R119). Changes a slot's stored ramp time only. -/
  | setRampTime (o : Issue) (p : List Byte)
  /-- BQ_WRITE (R125). Writes the coefficients of an inactive biquad bank, latched at the next tick. -/
  | bqWrite (o : Issue) (p : List Byte)
  /-- BQ_SELECT (R127). Selects a biquad bank instantly or by crossfade, or queues or cancels a selection. -/
  | bqSelect (o : Issue) (p : List Byte)
  /-- BQ_READ (R127). Returns a section's banks, active bank, selection state and queue. -/
  | bqRead (o : Issue) (p : List Byte)
  /-- DELAY_SET (R129). Changes a delay line's D0, instantly or by crossfade, or queues the change. -/
  | delaySet (o : Issue) (p : List Byte)
  /-- DELAY_READ (R129). Returns a delay line's layout, D0 in force and queued D0. -/
  | delayRead (o : Issue) (p : List Byte)
  /-- LIMITER_SET (R142). Changes a limiter's flags, threshold, attack and release from the next tick. -/
  | limiterSet (o : Issue) (p : List Byte)
  /-- LIMITER_READ (R132). Returns a limiter's settings, bound sinks and gain reductions. -/
  | limiterRead (o : Issue) (p : List Byte)
  /-- PROTECT_SET (R137). The supervisor changes ENABLED, T_MAX and X_MAX of a protection instance, clearing a fault when it enables. -/
  | protectSet (o : Issue) (p : List Byte)
  /-- PROTECT_READ (R134). Returns Re, coil temperature, gains, excursion and fault state of a protection instance. -/
  | protectRead (o : Issue) (p : List Byte)
  /-- METER_READ (R140). Returns meter readings and resets this context's peak since read. -/
  | meterRead (o : Issue) (p : List Byte)
  /-- CLIP_READ (R141). Returns the context's clip counts for berths, and clears them when asked. -/
  | clipRead (o : Issue) (p : List Byte)
  /-- ENGINE_STATUS (R109). Returns the engine status record and clears ACC_SAT_LANES. -/
  | engineStatus (o : Issue) (p : List Byte)
  /-- CLOCK_STATUS (R143). Returns the reference, the PLL modes, disciplines and steering. -/
  | clockStatus (o : Issue) (p : List Byte)
  /-- DOMAIN_STATUS (R151). Returns a domain's state, rate, reference, offset and counts. -/
  | domainStatus (o : Issue) (p : List Byte)
  /-- DOMAIN_SET_REF (R152). Changes the reference alternative of a domain at the next tick. -/
  | domainSetRef (o : Issue) (p : List Byte)
  /-- DOMAIN_SET_RATE (R152). Changes the rate of a domain at the next tick. -/
  | domainSetRate (o : Issue) (p : List Byte)
  /-- PLL_DISCIPLINE (R145). The supervisor disciplines a PLL to a domain or sets it free. -/
  | pllDiscipline (o : Issue) (p : List Byte)
  /-- ASRC_STATUS (R154). Returns a rate-stage engine's domain, direction, channels and ratio. -/
  | asrcStatus (o : Issue) (p : List Byte)
  /-- CONVOY_STATUS (R159). Returns member states, timeline index and the context's convoy counters. -/
  | convoyStatus (o : Issue) (p : List Byte)
  /-- CONVOY_SET_MODE (R163). Switches a convoy between independent and lockstep mode at the next tick. -/
  | convoySetMode (o : Issue) (p : List Byte)
  /-- SAI_STATUS (R247). Returns an SAI port's state, format, role, masks and counters. -/
  | saiStatus (o : Issue) (p : List Byte)
  /-- SAI_SLOT_MASK (R230). Writes both shadow slot masks of an SAI port. -/
  | saiSlotMask (o : Issue) (p : List Byte)
  /-- SPDIF_RX_STATUS (R236). Returns the receiver's lock state, rate, validity mode and counters. -/
  | spdifRxStatus (o : Issue) (p : List Byte)
  /-- SPDIF_CS_READ (R240). Returns the stored or sent channel-status blocks. -/
  | spdifCsRead (o : Issue) (p : List Byte)
  /-- SPDIF_CS_WRITE (R243). Loads the transmitter's channel-status block. -/
  | spdifCsWrite (o : Issue) (p : List Byte)
  /-- SPDIF_USER_READ (R240). Returns the stored or sent user-bit blocks. -/
  | spdifUserRead (o : Issue) (p : List Byte)
  /-- SPDIF_USER_WRITE (R243). Loads the transmitter's user-bit block. -/
  | spdifUserWrite (o : Issue) (p : List Byte)
  /-- SPDIF_VALIDITY_SET (R239). Sets the receiver validity mode and the transmitted V bit. -/
  | spdifValiditySet (o : Issue) (p : List Byte)
  /-- USB_STATUS (R271). Returns a USB port's state, speed, link state, settings and counters. -/
  | usbStatus (o : Issue) (p : List Byte)
  /-- USB_CONNECT (R250). Connects or disconnects a USB port by command. -/
  | usbConnect (o : Issue) (p : List Byte)
  /-- USB_HID_SEND (R267). Sets or clears HID report bits by command. -/
  | usbHidSend (o : Issue) (p : List Byte)
  /-- USB_REMOTE_WAKE (R253). Signals remote wake on a suspended port whose host enabled it. -/
  | usbRemoteWake (o : Issue) (p : List Byte)
  /-- USB_STREAM_STATUS (R261). Returns a streaming interface's setting, format, overlay and member state. -/
  | usbStreamStatus (o : Issue) (p : List Byte)
  /-- NET_STATUS (R296). Returns the MAC status record. -/
  | netStatus (o : Issue) (p : List Byte)
  /-- NET_COUNTERS (R294). Returns one counter group record captured at one instant. -/
  | netCounters (o : Issue) (p : List Byte)
  /-- NET_MDIO (R278). Makes one MDIO read or write and answers after completion. -/
  | netMdio (o : Issue) (p : List Byte)
  /-- GPTP_STATUS (R299). Returns gPTP state, identities, offset, delay and time. -/
  | gptpStatus (o : Issue) (p : List Byte)
  /-- GPTP_SET (R324). The supervisor sets priorities and asymmetry, and BMCA runs again. -/
  | gptpSet (o : Issue) (p : List Byte)
  /-- STREAM_STATUS (R315). Returns a stream's state, format, identifiers and counters. -/
  | streamStatus (o : Issue) (p : List Byte)
  /-- STREAM_CONNECT (R315). Connects a stream, or changes the destination, stream_id or PTO of a connected one. -/
  | streamConnect (o : Issue) (p : List Byte)
  /-- STREAM_DISCONNECT (R315). Disconnects a stream, withdrawing declarations and deactivating its overlay. -/
  | streamDisconnect (o : Issue) (p : List Byte)
  /-- CRF_STATUS (R309). Returns the state and counters of the CRF talker or a CRF listener. -/
  | crfStatus (o : Issue) (p : List Byte)
  /-- MSRP_STATUS (R313). Returns the class priorities, VIDs, boundaries and idleSlopes. -/
  | msrpStatus (o : Issue) (p : List Byte)
  /-- DISC_READ (R319). Returns entries of the discovery table. -/
  | discRead (o : Issue) (p : List Byte)
  /-- DISC_STATUS (R319). Returns the discovery table status, optionally clearing DISC_FULL. -/
  | discStatus (o : Issue) (p : List Byte)
  /-- CAPTURE_STATUS (R195). Returns a capture channel's settings, modulator, overload count and DC estimate. -/
  | captureStatus (o : Issue) (p : List Byte)
  /-- PGA_SET (R172). Sets a new PGA target that latches at the next tick. -/
  | pgaSet (o : Issue) (p : List Byte)
  /-- DCB_SET (R186). Changes a DC blocker's corner and host freeze. -/
  | dcbSet (o : Issue) (p : List Byte)
  /-- DELAY_TRIM_SET (R190). Changes a channel's delay trim with a 64-period crossfade. -/
  | delayTrimSet (o : Issue) (p : List Byte)
  /-- MICBIAS_SET (R173). Switches a mic bias output and sets its voltage code. -/
  | micbiasSet (o : Issue) (p : List Byte)
  /-- MICBIAS_STATUS (R175). Returns a mic bias output's state, code, measured voltage and faults. -/
  | micbiasStatus (o : Issue) (p : List Byte)
  /-- RELAY_STATUS (R176). Returns relay calibration state, the modulator map and rotation figures. -/
  | relayStatus (o : Issue) (p : List Byte)
  /-- RELAY_SUSPEND (R183). Suspends or resumes relay calibration of a set of inputs. -/
  | relaySuspend (o : Issue) (p : List Byte)
  /-- RELAY_START (R177). Starts a relay rotation by command. -/
  | relayStart (o : Issue) (p : List Byte)
  /-- THRESHOLD_ARM (R192). Arms a capture threshold detector in TEST or RECOVERY. -/
  | thresholdArm (o : Issue) (p : List Byte)
  /-- THRESHOLD_DISARM (R192). Disarms one or all threshold detectors. -/
  | thresholdDisarm (o : Issue) (p : List Byte)
  /-- RELAY_CORRECTIONS (R176). Returns a modulator's corrections, role and calibration age. -/
  | relayCorrections (o : Issue) (p : List Byte)
  /-- OUTPUT_STATUS (R201). Returns an output's state, flags, gate, foldback and fault figures. -/
  | outputStatus (o : Issue) (p : List Byte)
  /-- OUTPUT_ENABLE (R205). Enables an output with its start sequence, or disables it with a stop ramp. -/
  | outputEnable (o : Issue) (p : List Byte)
  /-- RESTORE_OUTPUTS (R210). The supervisor restores outputs muted by SHELTER when AUTO_RESTORE is clear. -/
  | restoreOutputs (o : Issue) (p : List Byte)
  /-- SET_AUTO_RESTORE (R210). The supervisor sets or clears AUTO_RESTORE until reset. -/
  | setAutoRestore (o : Issue) (p : List Byte)
  /-- JACK_STATUS (R217). Returns a jack's state, class, pole switch, button and measurements. -/
  | jackStatus (o : Issue) (p : List Byte)
  /-- BUTTON_WINDOWS_SET (R220). Sets a jack's button debounce and window limits from the next scan. -/
  | buttonWindowsSet (o : Issue) (p : List Byte)
  /-- SPK_FAULT_CLEAR (R211). Clears a latched class-D over-current fault and restarts SPK if enabled. -/
  | spkFaultClear (o : Issue) (p : List Byte)
  /-- JACK_RECLASSIFY (R218). Mutes a present jack's output and runs classification again. -/
  | jackReclassify (o : Issue) (p : List Byte)
  /-- AUX_STATUS (R342). Returns an aux DAC channel's state, range, codes, queue and counters. -/
  | auxStatus (o : Issue) (p : List Byte)
  /-- AUX_CONFIG (R337). Sets an aux channel's range, load timer and slew. -/
  | auxConfig (o : Issue) (p : List Byte)
  /-- AUX_ENABLE (R338). Enables or disables a set of aux DAC channels. -/
  | auxEnable (o : Issue) (p : List Byte)
  /-- AUX_WRITE (R329). Commits shadow codes to aux channels, loaded at their next tick. -/
  | auxWrite (o : Issue) (p : List Byte)
  /-- AUX_TIMER_SET (R332). The supervisor sets the source and divisor of TMR1 to TMR3 and restarts its count. -/
  | auxTimerSet (o : Issue) (p : List Byte)
  /-- AUX_QUEUE_CONFIG (R333). Sets a queue's mode, pace source, low mark and divisor. -/
  | auxQueueConfig (o : Issue) (p : List Byte)
  /-- AUX_QUEUE_WRITE (R335). Appends entries to a STREAM queue, or writes a stopped CYCLE queue. -/
  | auxQueueWrite (o : Issue) (p : List Byte)
  /-- AUX_QUEUE_CONTROL (R333). Stops, starts or stops and flushes an aux queue. -/
  | auxQueueControl (o : Issue) (p : List Byte)
  /-- AUX_READBACK_SET (R341). The supervisor selects the channels of the two readback multiplexers. -/
  | auxReadbackSet (o : Issue) (p : List Byte)
  /-- MEAS_STATUS (R360). Returns converter and sequence states and the context's measurement counters. -/
  | measStatus (o : Issue) (p : List Byte)
  /-- MEAS_SCAN_SET (R347). Defines the host scan's channel mask and trigger source. -/
  | measScanSet (o : Issue) (p : List Byte)
  /-- MEAS_SCAN_CONTROL (R347). Stops, arms, runs once or flushes the host scan. -/
  | measScanControl (o : Issue) (p : List Byte)
  /-- MEAS_SCAN_READ (R348). Returns and removes the oldest host scan records. -/
  | measScanRead (o : Issue) (p : List Byte)
  /-- MEAS_LATEST (R348). Returns the latest record of each channel without removing it. -/
  | measLatest (o : Issue) (p : List Byte)
  /-- MEAS_INJ_SET (R349). Defines an unarmed injected sequence. -/
  | measInjSet (o : Issue) (p : List Byte)
  /-- MEAS_INJ_CONTROL (R349). Disarms, arms or triggers an injected sequence. -/
  | measInjControl (o : Issue) (p : List Byte)
  /-- MEAS_INJ_READ (R350). Returns the results of an injected sequence's last completion. -/
  | measInjRead (o : Issue) (p : List Byte)
  /-- MEAS_CALIBRATE (R356). The supervisor requests calibration of one or both converters. -/
  | measCalibrate (o : Issue) (p : List Byte)
  /-- MEAS_CAL_READ (R356). Returns a converter's calibration corrections and history. -/
  | measCalRead (o : Issue) (p : List Byte)
  /-- POWER_STATUS (R385). Returns state, reset cause, supply readings, warnings and self-test results. -/
  | powerStatus (o : Issue) (p : List Byte)
  /-- POWER_STATE_SET (R375). The supervisor requests DOZE, SLEEP, RECOVERY or ACTIVE. -/
  | powerStateSet (o : Issue) (p : List Byte)
  /-- SPEED_STATUS (R388). Returns the margin, limiting monitor, VCORE, variant and monitor speeds. -/
  | speedStatus (o : Issue) (p : List Byte)
  /-- HULL_SUMMARY (R396). Returns the hull-log lifetime figures. -/
  | hullSummary (o : Issue) (p : List Byte)
  /-- HULL_READ (R395). Returns records of a hull-log ring, newest first. -/
  | hullRead (o : Issue) (p : List Byte)
  /-- HULL_PREDICT (R399). Returns the end-of-life prediction. -/
  | hullPredict (o : Issue) (p : List Byte)
  /-- HULL_SET_HORIZON (R400). The supervisor sets the prediction horizon and writes the summary. -/
  | hullSetHorizon (o : Issue) (p : List Byte)
  /-- HULL_FLUSH (R401). The supervisor writes the hull-log summary now. -/
  | hullFlush (o : Issue) (p : List Byte)
  /-- FW_STATUS (R411). Returns session state, image flags, versions and counters. -/
  | fwStatus (o : Issue) (p : List Byte)
  /-- FW_BEGIN (R411). Opens an update session in RECEIVING. -/
  | fwBegin (o : Issue) (p : List Byte)
  /-- FW_WRITE_DATA (R413). Delivers one 512-byte chunk of an image block. -/
  | fwWriteData (o : Issue) (p : List Byte)
  /-- FW_VERIFY (R416). Verifies a downloaded image in place. -/
  | fwVerify (o : Issue) (p : List Byte)
  /-- FW_ACTIVATE (R418). Requests handover to the verified image through the gangway. -/
  | fwActivate (o : Issue) (p : List Byte)
  /-- FW_CONFIRM (R424). Confirms the image in PROBATION. -/
  | fwConfirm (o : Issue) (p : List Byte)
  /-- FW_ABORT (R417). Abandons the update session, writing ABORTED where the region was touched. -/
  | fwAbort (o : Issue) (p : List Byte)
  /-- SETTINGS_STATUS (R428). Returns the settings copy in force or retained and the item counts. -/
  | settingsStatus (o : Issue) (p : List Byte)
  /-- SETTINGS_SAVE (R427). Writes the named kinds of settings to the copy not in force. -/
  | settingsSave (o : Issue) (p : List Byte)
  /-- SETTINGS_DISCARD_OLD (R430). Erases both settings copies and ends the retention. -/
  | settingsDiscardOld (o : Issue) (p : List Byte)
  /-- SETTINGS_ERASE (R430). Erases both settings copies when no copy is retained. -/
  | settingsErase (o : Issue) (p : List Byte)
  /-- SET_AUTO_CONFIRM (R423). Sets or clears AUTO_CONFIRM. -/
  | setAutoConfirm (o : Issue) (p : List Byte)
  /-- KEY_STATUS (R407). Returns the vendor key slot states and the chart key status. -/
  | keyStatus (o : Issue) (p : List Byte)
  /-- CHART_KEY_PROGRAM (R410). The supervisor programs the one-time chart key slot. -/
  | chartKeyProgram (o : Issue) (p : List Byte)
  /-- PACKET_RECEIVED (R27). A transport delivers a packet, which is checked in order and answered at once or held. -/
  | packetReceived (c : Ctx) (bytes : List Byte)
  /-- COMMAND_TAKE (R30). The CP takes the next waiting command in cyclic context order and gives it the next log number. -/
  | commandTake
  /-- IRQ_REASSERT (R40). After an acknowledgement leaves an enabled event pending, the pin is driven again at least 1 µs later. -/
  | irqReassert (pin : Fin 2)
  /-- H4_LINK_TIMEOUT (R22). The link stays down for more than 2 s and H4 closes. -/
  | h4LinkTimeout
  /-- BINDING_EXECUTE (R82). A fired binding is executed as a command of no context after the command in progress. -/
  | bindingExecute
  /-- TW_ADDRESS_MATCH (R47). A two-wire address byte matching the port opens a transaction. -/
  | twAddressMatch (port : Fin 2) (addr : BitVec 7) (read : Bool)
  /-- TW_POINTER_WRITE (R49). Two acknowledged pointer bytes set the window pointer. -/
  | twPointerWrite (port : Fin 2) (hi lo : Byte)
  /-- COMMAND_DOOR_WRITE (R54). A data byte written into the command door updates the door and the fill mark, or is refused while busy or past a page boundary. -/
  | commandDoorWrite (port : Fin 2) (b : Byte)
  /-- DOOR_COMMIT (R54). Writing 0x01 to DOOR_COMMIT while READY hands the door packet to the CP. -/
  | doorCommit (port : Fin 2) (b : Byte)
  /-- ERROR_CLEAR (R55). Writing 1 to DOOR_STATUS ERROR clears ERROR and ERR_CAUSE. -/
  | errorClear (port : Fin 2) (b : Byte)
  /-- IRQ_MASK_WRITE (R53). IRQ_MASK takes the bytes written in one transaction when byte 3 is acknowledged. -/
  | irqMaskWrite (port : Fin 2) (b : Byte)
  /-- EVENT_ACK_REGISTER_WRITE (R39). Writing COUNT to the EVENT_ACK register acknowledges that many events. -/
  | eventAckRegisterWrite (port : Fin 2) (b : Byte)
  /-- REGISTER_WRITE_DISCARDED (R52). A write to an undefined, reserved or read-only address is acknowledged and discarded. -/
  | registerWriteDiscarded (port : Fin 2) (b : Byte)
  /-- REPLY_CONSUME (R56). Transfer of the reply's last byte consumes the reply and clears REPLY_VALID. A read
transfers `n` bytes, the last of them followed by the controller's not-acknowledge where `nak` is set (R50). -/
  | replyConsume (port : Fin 2) (n : Nat) (nak : Bool)
  /-- EVENT_DOOR_REFRESH (R57). At a START or STOP the event door is refreshed from the queue. -/
  | eventDoorRefresh (port : Fin 2) (start : Bool)
  /-- TW_ACK_SLOT_CONDITION (R58). A START or STOP in a read acknowledge slot acts as not-acknowledge followed by that condition. -/
  | twAckSlotCondition (port : Fin 2) (start : Bool)
  /-- TW_BYTE_ABORT (R59). A START or STOP inside a byte aborts the transaction and sets ERROR cause 1. -/
  | twByteAbort (port : Fin 2) (start : Bool)
  /-- TW_BUS_STALL (R60). No SCL edge for 25 to 30 ms in an open transaction abandons it with ERROR cause 2. -/
  | twBusStall (port : Fin 2)
  /-- TW_WAKE_MATCH (R63). An address match in SLEEP is not acknowledged and wakes the part. -/
  | twWakeMatch (port : Fin 2) (addr : BitVec 7)
  /-- TW_LOADER_READY (R64). 2 ms after reset release the ports start acknowledging their addresses with BUSY set. -/
  | twLoaderReady
  /-- FABRIC_TICK (R13). At each fabric-period tick the pending swap, latches, berth exchange and egress scatter happen and the lanes start. -/
  | fabricTick
  /-- NOP (R97). Does nothing. -/
  | nop (l : Fin 8)
  /-- CLR (R97). Clears an accumulator. -/
  | clr (l : Fin 8) (acc : BitVec 2)
  /-- MAC (R95). Adds a berth word times a multiplier to an accumulator. -/
  | mac (l : Fin 8) (src : BitVec 10) (par : BitVec 12) (acc : BitVec 2) (unity : Bool)
  /-- MACS (R96). Multiplies and accumulates, stores the accumulator to a berth and clears it. -/
  | macs (l : Fin 8) (src : BitVec 10) (par : BitVec 12) (dst : BitVec 10) (acc : BitVec 2) (aux : Byte) (unity : Bool)
  /-- STO (R96). Stores an accumulator to a berth with a shift. -/
  | sto (l : Fin 8) (dst : BitVec 10) (acc : BitVec 2) (aux : Byte)
  /-- BQ (R462). Passes one sample through a biquad section and advances its state. -/
  | bq (l : Fin 8) (src : BitVec 10) (par : BitVec 12) (dst : BitVec 10) (acc : BitVec 2) (inAcc outAcc : Bool)
  /-- DLW (R97). Writes a word into a delay line at the current period's slot. -/
  | dlw (l : Fin 8) (src : BitVec 10) (line : BitVec 7)
  /-- DLR (R97). Adds a delay-line tap times a multiplier to an accumulator. -/
  | dlr (l : Fin 8) (par : BitVec 12) (acc : BitVec 2) (unity : Bool) (line : BitVec 7) (offset : BitVec 16)
  /-- XF (R462). Stores the crossfade of two berths at the pair's position. -/
  | xf (l : Fin 8) (src par dst : BitVec 10) (pair : Byte)
  /-- MTR (R140). Gives a meter its sample for the period. -/
  | mtr (l : Fin 8) (src : BitVec 10) (meter : Byte)
  /-- LIM (R97). Binds a sink to a limiter or protection instance while in the Near bank. -/
  | lim (l : Fin 8) (par : BitVec 6) (dst : BitVec 10) (protect : Bool)
  /-- FEN (R101). Starts a wait until a named lane completes a target word. -/
  | fen (l : Fin 8) (lane : BitVec 3) (word : BitVec 10)
  /-- FEN_RELEASE (R101). The fenced lane resumes 1 cost unit after the named lane completes the target word. -/
  | fenRelease (l : Fin 8)
  /-- END (R100). The lane finishes its period. -/
  | endWord (l : Fin 8)
  /-- WORD_FETCH_FAULT (R107). A fetched word with a reserved opcode or parity error stops the lane and posts ENGINE_FAULT. -/
  | wordFetchFault (l : Fin 8)
  /-- SOURCE_WORD_LAND (R93). Ingress gather converts a port sample and writes it into a source berth. -/
  | sourceWordLand (berth : Fin 256) (sample : Word) (line : List Bool)
  /-- DYNAMICS_SINK (R130). The dynamics stage delays, limits, protects, clamps and converts a sink after its final store lands. -/
  | dynamicsSink (k : Fin 256)
  /-- LOAD_START (R17). The engine loader starts a queued load from a copy of the present Near bank. -/
  | loadStart
  /-- LOAD_COMPLETE (R73). A Far-bank load completes and awaits its swap at the next permitted tick. -/
  | loadComplete
  /-- PARAM_RAMP_END (R117). A parameter slot's ramp reaches its last period and the target stands. -/
  | paramRampEnd (slot : Fin 4096)
  /-- OVERLAY_GATE_RAMP_END (R75). An overlay's gate ramp ends, making it ACTIVE or starting its removal load. -/
  | overlayGateRampEnd (ov : Fin 64)
  /-- CHAIN_RAMP_END (R113). A chain-lane route ramp of f reaches mute or unity. -/
  | chainRampEnd (route : Fin 64)
  /-- BQ_CROSSFADE_END (R127). A biquad bank crossfade ends and any queued selection takes effect. -/
  | bqCrossfadeEnd (sec : Fin 512)
  /-- DELAY_CHANGE_END (R129). A delay-line D0 crossfade ends and any queued change takes effect. -/
  | delayChangeEnd (line : Fin 128)
  /-- CLIP_INTERVAL_END (R141). At the end of a 100 ms interval with clip events CLIP_ALERT is posted. -/
  | clipIntervalEnd
  /-- PROTECT_ESTIMATE (R135). Every 100 ms a protection instance estimates Re and temperature and updates G_t. -/
  | protectEstimate (i : Fin 2)
  /-- PROTECT_DEGRADED (R138). 10 ms with no paired result while switching puts the instance into DEGRADED. -/
  | protectDegraded (i : Fin 2)
  /-- PROTECT_DEGRADED_END (R138). 100 ms of gapless results returns the instance from DEGRADED. -/
  | protectDegradedEnd (i : Fin 2)
  /-- REFERENCE_LOSS (R146). The reference shows no edge for 1 µs and both PLLs become UNLOCKED. -/
  | referenceLoss
  /-- REFERENCE_RESTORE (R146). Reference edges return and both PLLs relock and resume their modes. -/
  | referenceRestore
  /-- DOMAIN_REF_VALID (R151). A domain's reference becomes valid and the domain enters ACQUIRING. -/
  | domainRefValid (d : Fin 8)
  /-- DOMAIN_LOCK (R151). Tracker error within ±2 ppm for 5 ms makes the domain LOCKED and convoys re-align. -/
  | domainLock (d : Fin 8) (offset : Int)
  /-- DOMAIN_UNLOCK (R156). A domain leaves LOCKED and its converted convoys mute. -/
  | domainUnlock (d : Fin 8) (cause : Fin 3) (offset : Int)
  /-- CONVOY_MUTE_RAMP_END (R156). The 32-period mute ramp of an unlocked domain's convoys ends and FIFOs are emptied. -/
  | convoyMuteRampEnd (c : Fin 128)
  /-- MEMBER_SAMPLE_ARRIVAL (R160). A sample arrives at a convoy member, placed by time or order, or discarded as late or overflowing. -/
  | memberSampleArrival (c : Fin 128) (m : Fin 8) (index : Nat) (sample : List Word)
  /-- MEMBER_READ (R160). A member's sample is read, which may underrun it or start its fade in. -/
  | memberRead (c : Fin 128) (m : Fin 8)
  /-- MEMBER_FADE_END (R160). A member's 32-sample fade ends in SILENT then ALIGNING, or in RUNNING. -/
  | memberFadeEnd (c : Fin 128) (m : Fin 8)
  /-- RESYNC_POINT (R162). At a resync point a BLOCKED member returns to ALIGNING. -/
  | resyncPoint (c : Fin 128)
  /-- EGRESS_MEMBER_TAKE (R164). A port takes a sample from an egress member, which underruns when empty. -/
  | egressMemberTake (c : Fin 128) (m : Fin 8)
  /-- PGA_STEP (R172). The PGA moves one 0.5 dB step at a zero crossing or after 2 ms. -/
  | pgaStep (input : Fin 8)
  /-- MICBIAS_RAMP_END (R173). A mic bias ramp up or voltage change ends. -/
  | micbiasRampEnd (o : Fin 2)
  /-- MICBIAS_SETTLE_END (R174). 25 ms after a mic bias output is enabled its inputs start to fade in. -/
  | micbiasSettleEnd (o : Fin 2)
  /-- MICBIAS_OVERCURRENT (R175). Load current above 8 mA for 1 ms turns the output off. -/
  | micbiasOvercurrent (o : Fin 2)
  /-- RELAY_ROTATION_TRIGGER (R177). Start-up delay, the 10-minute timer or the temperature check starts a rotation. -/
  | relayRotationTrigger (trigger : Fin 3) (t22 : Int)
  /-- RELAY_STEP_START (R178). A relay step starts VREFCAL calibration of the relief modulator. -/
  | relayStepStart
  /-- RELAY_VREFCAL_END (R182). The relief's calibration ends, retiring it on failure or connecting it to the input. -/
  | relayVrefcalEnd (gain offset noise : Int)
  /-- RELAY_SETTLE_END (R178). The 200 ms settle ends and the estimate window begins. -/
  | relaySettleEnd
  /-- RELAY_ESTIMATE_END (R179). The estimate window ends and corrections are loaded. -/
  | relayEstimateEnd (usable : Nat) (level gain offset delay : Int)
  /-- RELAY_VERIFY_END (R180). The verify window passes and freezes blockers, or fails and retries or aborts. -/
  | relayVerifyEnd (usable : Nat) (rms mean : Int)
  /-- RELAY_CROSSFADE_END (R178). The 64-period crossfade ends and the modulator map changes. -/
  | relayCrossfadeEnd
  /-- CHAIN_RESTART_END (R185). 128 periods after a response change the channel starts fading in. -/
  | chainRestartEnd (ch : Fin 16)
  /-- PDM_WAKE_END (R189). MIC_WAKE ms after a PDM clock starts its channels fade in. -/
  | pdmWakeEnd (port : Fin 4)
  /-- TRIM_CROSSFADE_END (R190). The 64-period delay trim crossfade ends. -/
  | trimCrossfadeEnd (ch : Fin 16)
  /-- THRESHOLD_BLOCK (R192). Each 1 ms block an armed detector compares its peak and fires after the hold time. -/
  | thresholdBlock (ch : Fin 16) (peak : Int)
  /-- MODULATOR_OVERLOAD (R193). A 1 ms block with an overload is counted and INPUT_OVERLOAD posted at most once per 100 ms. -/
  | modulatorOverload (ch : Fin 16)
  /-- OUTPUT_GATE_RAMP_END (R201). An output gate ramp ends, making the output PLAYING, MUTED or CLAMPED. -/
  | outputGateRampEnd (o : Fin 4)
  /-- SERVO_END (R206). The 5 ms DC servo ends, the clamp releases and the gate ramp starts. -/
  | servoEnd (o : Fin 4) (residual : Int)
  /-- OUTPUT_LOAD_RAMP_END (R200). The mute ramp for a load that changes an output's entry ends and the swap may proceed. -/
  | outputLoadRampEnd (o : Fin 4)
  /-- SUPPLY_WARNING (R369). A warning on AVDD18 or VIN12 enters SHELTER. -/
  | supplyWarning (rail : Fin 2) (below : Bool)
  /-- SHELTER_END (R370). Both rails recover for 2 ms and SHELTER ends with restore. -/
  | shelterEnd
  /-- SPK_OVERCURRENT (R211). Half-bridge current above 4.0 A stops SPK within 200 ns. -/
  | spkOvercurrent
  /-- SPK_RESTART_TIMER (R211). 250 ms after an unlatched over-current SPK restarts. -/
  | spkRestartTimer
  /-- PVDD_UVLO (R212). A PVDD rail falls through 4.5 V and its channel stops. -/
  | pvddUvlo (ch : Fin 2)
  /-- PVDD_RECOVER (R212). A PVDD rail stays above 4.53 V for 2 ms and its channel restarts. -/
  | pvddRecover (ch : Fin 2)
  /-- CLASSD_THERMAL_CHECK (R213). Every 100 ms CH21 governs foldback, shutdown and recovery of SPK. -/
  | classdThermalCheck (t21 : Int)
  /-- HP_OVERCURRENT (R214). Headphone driver current above 250 mA for 5 µs faults that output. -/
  | hpOvercurrent (o : Fin 2)
  /-- JDET_ABSENT (R216). JDET crosses to absent and the headphone driver is muted in hardware. -/
  | jdetAbsent (j : Fin 2)
  /-- JDET_PRESENT (R217). JDET crosses to present and debounce starts or restarts. -/
  | jdetPresent (j : Fin 2)
  /-- JACK_DEBOUNCE_END (R217). The insertion debounce ends and classification starts or waits for AUX15. -/
  | jackDebounceEnd (j : Fin 2)
  /-- CLASSIFY_TIP_END (R217). The tip load measurement ends and the CTIA measurement starts. -/
  | classifyTipEnd (j : Fin 2) (zt : Nat)
  /-- CLASSIFY_CTIA_END (R217). The CTIA measurement ends and the OMTP measurement starts. -/
  | classifyCtiaEnd (j : Fin 2) (va : Nat)
  /-- CLASSIFY_DECIDE (R218). The class is decided, the jack becomes PRESENT and JACK_INSERTED is posted. -/
  | classifyDecide (j : Fin 2) (vb : Nat)
  /-- JACK_REMOVAL_CONFIRM (R219). JDET stays absent for the debounce time and the jack becomes EMPTY. -/
  | jackRemovalConfirm (j : Fin 2)
  /-- BUTTON_SCAN (R220). Every 1 ms the microphone line is scanned and button presses and releases decided. -/
  | buttonScan (j : Fin 2) (line bias : Nat)
  /-- SAI_MASK_TRANSFER (R230). The shadow masks reach the BCLK domain and become active at a frame start. -/
  | saiMaskTransfer (port : Fin 6) (early : Bool)
  /-- SAI_FRAME_START (R232). A target port's frame-start edge ends a frame and checks the BCLK count. -/
  | saiFrameStart (port : Fin 6) (bclks : Nat) (slots : List Word)
  /-- SAI_CLOCK_LOSS (R233). No BCLK edge for two frames puts a target port in CLOCK_LOST. -/
  | saiClockLoss (port : Fin 6)
  /-- SAI_CLOCK_RETURN (R233). After BCLK returns the first complete frame returns the port to RUNNING. -/
  | saiClockReturn (port : Fin 6) (slots : List Word)
  /-- SPDIF_LOCK_ACQUIRE (R236). The receiver classifies a rate and locks on two B preambles 192 frames apart. -/
  | spdifLockAcquire (rate : Fin 7)
  /-- SPDIF_LOCK_LOSS (R236). The receiver loses lock and its convoy underruns. -/
  | spdifLockLoss (cause : Fin 4)
  /-- SPDIF_AUTO_RATE (R237). On lock at a new allowed rate the domain rate changes as a command of no context. -/
  | spdifAutoRate
  /-- SPDIF_SUBFRAME (R238). A received subframe is checked for parity and validity and its sample passed. -/
  | spdifSubframe (ch : Fin 2) (audio : BitVec 24) (v u c parityOk biphaseOk : Bool)
  /-- SPDIF_BLOCK_END (R240). A complete 192-frame block of C and U bits is stored or discarded. -/
  | spdifBlockEnd (clean : Bool)
  /-- SPDIF_NONPCM_EXIT (R241). 8,192 frames without sync words and a PCM block end NON_PCM. -/
  | spdifNonpcmExit
  /-- SPDIF_TX_BLOCK_START (R243). At a B preamble the transmitter starts a block with the blocks written in full. -/
  | spdifTxBlockStart
  /-- VBUS_CHANGE (R250). VBUS crosses 4.0 V and the port connects or disconnects. -/
  | vbusChange (port : Fin 2) (up : Bool)
  /-- USB_STANDARD_REQUEST (R255). The protocol sequencer answers a standard request itself. -/
  | usbStandardRequest (port : Fin 2) (request : UsbRequest) (recipient : Fin 3) (value index length : BitVec 16)
  /-- SET_CONFIGURATION (R255). The CP executes a SET_CONFIGURATION request. -/
  | setConfiguration (port : Fin 2) (cfg : Byte)
  /-- SET_INTERFACE (R261). Selects an alternate setting as a command of no context, with overlay actions. -/
  | setInterface (port : Fin 2) (ifc alt : Byte)
  /-- USB_LINK_POWER_REQUEST (R251). An L1, U1 or U2 request is accepted or refused. -/
  | usbLinkPowerRequest (port : Fin 2) (kind : Fin 3)
  /-- USB_SUSPEND (R252). Suspend or U3 takes the port's members to IDLE. -/
  | usbSuspend (port : Fin 2)
  /-- USB_RESUME (R252). Resume signalling returns a suspended port, waking the part if needed. -/
  | usbResume (port : Fin 2)
  /-- USB_BUS_RESET (R268). A bus reset discards held commands and replies, closes the context and returns interfaces to setting 0. -/
  | usbBusReset (port : Fin 2) (speed : Fin 3)
  /-- USB_REMOTE_WAKE_SIGNAL (R253). A wake condition on a suspended port signals remote wake. -/
  | usbRemoteWakeSignal (port : Fin 2)
  /-- UAC_SAMPLING_FREQ_SET (R263). SET CUR of the sampling-frequency control changes the domain rate or stalls. -/
  | uacSamplingFreqSet (port : Fin 2) (entity : Byte) (hz : Nat)
  /-- UAC_FEATURE_UNIT_SET (R266). A volume or mute request writes its parameter slot as a command of no context. -/
  | uacFeatureUnitSet (port : Fin 2) (unit channel : Byte) (isMute : Bool) (value : BitVec 16)
  /-- USB_FEEDBACK_UPDATE (R264). Every 1 ms the feedback value F is recomputed. -/
  | usbFeedbackUpdate (port i : Fin 2) (rm fill lost : Nat)
  /-- USB_CAPTURE_INTERVAL (R265). Each service interval a capture interface sends the accumulator's samples. -/
  | usbCaptureInterval (port i : Fin 2)
  /-- HID_REPORT_SEND (R267). At the next 1 ms interval after a change a HID report is sent. -/
  | hidReportSend (port : Fin 2)
  /-- USB_VENDOR_TRANSFER (R268). A bulk OUT transfer delivers one command packet for H2 or H3. -/
  | usbVendorTransfer (port : Fin 2) (read : Nat) (bytes : List Byte)
  /-- USB_RECONNECT (R259). After a chart select a disconnected port reconnects no sooner than 200 ms later. -/
  | usbReconnect (port : Fin 2)
  /-- DFU_DETACH (R269). An accepted detach re-enumerates the port in DFU mode at the next bus reset. -/
  | dfuDetach (port : Fin 2)
  /-- DFU_DNLOAD (R432). A DFU download request writes one image block or ends the download. -/
  | dfuDnload (port : Fin 2) (block : BitVec 16) (data : List Byte)
  /-- DFU_MANIFEST_RESET (R432). The bus reset after manifestation starts activation or resets the part in HARBOUR. -/
  | dfuManifestReset (port : Fin 2)
  /-- DFU_ABORT (R432). Aborts the DFU session as FW_ABORT. -/
  | dfuAbort (port : Fin 2)
  /-- DFU_CLRSTATUS (R432). Returns the port to dfuIDLE keeping the session. -/
  | dfuClrstatus (port : Fin 2)
  /-- LINK_SYNC_ACQUIRED (R276). The PCS acquires synchronisation and the link enters NEGOTIATING. -/
  | linkSyncAcquired
  /-- LINK_UP (R276). The link conditions hold for 10 ms and the link is UP. -/
  | linkUp (partner : Fin 3)
  /-- LINK_DOWN (R277). The link returns to DOWN, dropping transmit queues and any pause. -/
  | linkDown (cause : Fin 4) (partner : Fin 3)
  /-- FRAME_RECEIVED (R280). A received frame is classified, counted and delivered or discarded. -/
  | frameReceived (frame : List Byte) (codeError fcsValid prompt : Bool) (now : Nat)
  /-- PAUSE_END (R291). The pause time expires and transmission may resume. -/
  | pauseEnd
  /-- TX_FRAME_START (R286). At a frame start the head frame of the first eligible queue is sent. -/
  | txFrameStart (gap heldA heldB : Nat)
  /-- TX_LATE_DISCARD (R289). A held stream frame whose presentation time passes is discarded. -/
  | txLateDiscard (now : Nat)
  /-- MDIO_COMPLETE (R278). An MDIO operation completes and its command is answered. -/
  | mdioComplete (driven : Bool) (data : BitVec 16)
  /-- COUNTER_HALF_FOLD_END (R295). The 100 ms fold of bit-31 changes ends and NET_COUNTER_HALF is posted. -/
  | counterHalfFoldEnd (g : Fin 5)
  /-- GPTP_PDELAY_COMPLETE (R298). A Pdelay exchange completes or fails and asCapable is updated. -/
  | gptpPdelayComplete (ok : Bool) (delay : Nat)
  /-- GPTP_SYNC_RECEIVED (R302). A Sync message updates the offset, possibly stepping time or qualifying SLAVE. -/
  | gptpSyncReceived (offset : Int) (now : Nat)
  /-- GPTP_ANNOUNCE_RECEIVED (R301). An Announce message feeds BMCA and may change the grandmaster. -/
  | gptpAnnounceReceived (priority1 clockClass accuracy : Byte) (variance : BitVec 16) (priority2 : Byte) (gm : BitVec 64) (steps : BitVec 16)
  /-- GPTP_SYNC_TIMEOUT (R299). syncReceiptTimeout expires and the part leaves SLAVE. -/
  | gptpSyncTimeout
  /-- GPTP_ANNOUNCE_TIMEOUT (R299). 3 s with no Announce makes the part GRANDMASTER. -/
  | gptpAnnounceTimeout
  /-- MSRP_DECLARATION_RECEIVED (R314). A received MSRP declaration changes registrations and stream states. -/
  | msrpDeclarationReceived (kind : MsrpKind) (stream : BitVec 64) (leave : Bool)
  /-- TALKER_BLOCK (R306). A talker block's last sample is written and the block is stamped and queued, segmented if needed. -/
  | talkerBlock (t : Fin 32) (now : Nat)
  /-- CRF_FRAME_SEND (R309). A CRF frame is sent when its last sample has passed. -/
  | crfFrameSend (now : Nat)
  /-- ACMP_COMMAND (R317). An ACMP connect or disconnect is executed as a command of no context. -/
  | acmpCommand (kind : Fin 4) (stream : Fin 32) (streamId : BitVec 64) (dest : BitVec 48) (controller : BitVec 64)
  /-- ADP_ADVERTISE (R318). ENTITY_AVAILABLE is sent on its interval or on a change. -/
  | adpAdvertise
  /-- ADP_RECEIVED (R319). A received ADP message enters, refreshes or removes a discovery entry. -/
  | adpReceived (departing : Bool) (e : DiscEntry)
  /-- DISC_ENTRY_EXPIRE (R319). A discovery entry expires without refresh. -/
  | discEntryExpire (entity : BitVec 64)
  /-- AEM_COMMAND (R320). An AECP AEM command is executed or refused. -/
  | aemCommand (controller : BitVec 64) (seq : BitVec 16) (cmd : AemCommand)
  /-- AECP_VENDOR_FRAGMENT (R323). A vendor-unique fragment is assembled, or a reply fragment fetched. -/
  | aecpVendorFragment (controller : BitVec 64) (seq : BitVec 16) (kind : Fin 2) (index count : Nat) (data : List Byte)
  /-- AUX_TIMER_TICK (R329). A timer tick loads committed shadows of its channels into their targets. -/
  | auxTimerTick (timer : Fin 4)
  /-- AUX_SLEW_STEP (R331). Each slew interval the present code moves towards the target. -/
  | auxSlewStep (ch : Fin 16)
  /-- AUX_QUEUE_PACE_TICK (R334). A pace tick takes the next queue entry as target, or underruns. -/
  | auxQueuePaceTick (q : Fin 3)
  /-- AUX_RANGE_HOLD_END (R337). The hold driver hands over to the new range at the equivalent code. -/
  | auxRangeHoldEnd (ch : Fin 12)
  /-- VAUX_WARNING (R339). VAUX below 4.40 V holds the aux DAC and mic bias. -/
  | vauxWarning
  /-- VAUX_RESET (R340). VAUX below 4.10 V turns the aux DAC and mic bias off. -/
  | vauxReset
  /-- VAUX_RECOVER (R340). VAUX stays above 4.43 V for 2 ms and held or off channels resume. -/
  | vauxRecover
  /-- PAIRED_CLOCK_TICK (R351). The 48 kHz paired clock starts a paired block, abandoning an unfinished one. -/
  | pairedClockTick
  /-- SAR_CONVERSION_DONE (R345). A conversion completes, its record is written and the next work is chosen. -/
  | sarConversionDone (conv : Fin 2) (code trim code2 trim2 : Int) (offset : Nat)
  /-- SYSTEM_SEQUENCE_DUE (R346). A system sequence falls due and runs or waits. -/
  | systemSequenceDue (seq : Fin 7)
  /-- HOST_SCAN_TRIGGER (R347). A host scan trigger starts, waits or is counted as overrun. -/
  | hostScanTrigger (source : Fin 8)
  /-- INJECTED_TRIGGER (R349). An armed injected sequence's trigger runs it or is counted as overrun. -/
  | injectedTrigger (j : Fin 4)
  /-- MTRIG_EDGE (R359). A recognised MTRIG edge triggers the sequences that name it. -/
  | mtrigEdge (rising : Bool)
  /-- SAR_CALIBRATION_START (R356). A scheduled or requested calibration of a converter starts. -/
  | sarCalibrationStart (conv : Fin 2)
  /-- SAR_CALIBRATION_END (R356). A calibration ends, applying coefficients or failing the converter. -/
  | sarCalibrationEnd (conv : Fin 2) (offset gain : Int)
  /-- PLAUSIBILITY_CHECK (R352). A plausibility sequence compares both converters and may fail or suspect them. -/
  | plausibilityCheck
  /-- POWER_ON (R363). Supplies rise and the part is held in POR. -/
  | powerOn (core ioB vusb : Bool)
  /-- RESET_N_LOW (R364). RESET_N held low for 1 µs resets the part. -/
  | resetNLow
  /-- SUPPLY_RESET_LEVEL (R365). AVDD18 or VIN12 below its reset level resets the part. -/
  | supplyResetLevel (rail : Fin 2)
  /-- WATCHDOG_EXPIRE (R366). The CP watchdog expires and the part resets with cause 5. -/
  | watchdogExpire
  /-- RESET_RELEASE (R379). Reset release samples the pins, chooses the reference and starts the loader. -/
  | resetRelease (tw0 tw1 : BitVec 2) (compat testEn : Bool) (ioA33 ioB33 : Bool)
  /-- REFERENCE_SELECT (R143). After 100 µs of watching MCLK_IN the reference is chosen. -/
  | referenceSelect (edges : Nat)
  /-- IMAGE_CHECK_DONE (R380). The loader's image checks end in BOOT or HARBOUR. -/
  | imageCheckDone
  /-- CHART_SLOT_SELECT (R70). At boot the loader selects and checks the chart slots. -/
  | chartSlotSelect
  /-- SELF_TEST_END (R381). The start-up self-test ends and failures are recorded. -/
  | selfTestEnd (sar : BitVec 2) (reliefFired : Bool) (words : Fin 3)
  /-- BOOT_COMPLETE (R379). The first tick runs the base chart and the part enters ACTIVE or TEST. -/
  | bootComplete (us : Nat)
  /-- POWER_TRANSITION_PROCEED (R375). After its wait, a requested state transition proceeds. -/
  | powerTransitionProceed
  /-- WAKE_SOURCE (R378). A wake source ends SLEEP and the part returns to ACTIVE within 350 µs. -/
  | wakeSource (source : Fin 3)
  /-- THERMAL_WARNING (R383). CH20 crosses 115 °C or falls below 110 °C and THERMAL is posted. -/
  | thermalWarning (t20 : Int)
  /-- THERMAL_SHUTDOWN (R383). The die reaches 135 °C and all pins go to their fault states. -/
  | thermalShutdown
  /-- THERMAL_RECOVER (R383). The die falls below 120 °C after shutdown and the tick restarts. -/
  | thermalRecover (t20 : Int)
  /-- MARGIN_INTERVAL (R390). Every 1 ms the margin is computed and VCORE steps, re-plans or risk events decided. -/
  | marginInterval (si : List Nat) (t20 t21 : Int) (vcoreMv : Nat) (spkMicroamps : Nat)
  /-- REPLAN (R391). A re-plan to the reduced variant executes as a command of no context. -/
  | replan
  /-- HULL_HOURLY (R395). Each power-on hour an hourly record and the summary are written. -/
  | hullHourly
  /-- HULL_PREDICTION_RECOMPUTE (R399). After each daily record the end-of-life prediction is recomputed. -/
  | hullPredictionRecompute
  /-- NVM_SECTOR_ERASE (R404). A sector erase completes, or is stopped on SHELTER and repeated. -/
  | nvmSectorErase (ok : Bool)
  /-- FW_BLOCK_WRITE_DONE (R413). An image block's write and read-back complete. -/
  | fwBlockWriteDone (differs1 differs2 : Bool)
  /-- FW_VERIFY_DONE (R416). Verification ends, writing VERIFIED or returning the session to DOWNLOAD. -/
  | fwVerifyDone (bad : List Nat)
  /-- FW_ACTIVATE_PROCEED (R418). Activation conditions hold, the gangway is written and control passes to the loader, or 2 s expire with TIMEOUT. -/
  | fwActivateProceed (expired : Bool)
  /-- GANGWAY_TAKE (R421). The new image reads the gangway block and the CP absence ends. -/
  | gangwayTake (preambleOk copyOk : Bool)
  /-- SEQUENCER_RELOAD (R422). A sequencer marked RELOAD_NOW reloads at its safe point. -/
  | sequencerReload (seq : Fin 4)
  /-- PROBATION_HEALTHY (R423). 60 s of healthy time confirms the image automatically. -/
  | probationHealthy
  /-- SETTINGS_SAVE_DONE (R427). The settings copy's last row is written and it becomes the copy in force. -/
  | settingsSaveDone (ok : Bool)
  /-- FABRIC_PLL_RELOCK (R86). After CHART_SELECT now to a chart of the other rate family stops the tick and changes the fabric PLL, the PLL relocks and the new base chart starts on the first tick. -/
  | fabricPllRelock
  /-- NVM_ROW_WRITE_DONE (R404). An NVM row write completes within 40 µs, ending a command or internal write that waited on it and letting SHELTER start no further row. -/
  | nvmRowWriteDone (ok : Bool)
  /-- MEASUREMENT_TRACKER_LOCK (R355). The measurement tracker comparing PLL48 with the fabric PLL locks, and exposed SAR channels fade in from 0 over 32 fabric periods. -/
  | measurementTrackerLock
  /-- STREAM_RECEIVE_TIMEOUT (R315). A listener that has accepted no frame for 10 ms leaves RECEIVING and posts STREAM_STATE. -/
  | streamReceiveTimeout (l : Fin 32)
  /-- MRP_LEAVE_TIMER_EXPIRE (R313). An MRP leave or leaveAll timer expires and a registration such as Listener Ready or Talker Advertise is removed, changing the declarations and stream states that depend on it. -/
  | mrpLeaveTimerExpire (kind : MsrpKind) (stream : BitVec 64)
  /-- DFU_DETACH_TIMEOUT (R269). wDetachTimeOut of 1,000 ms passes after an accepted DFU_DETACH with no bus reset, and the detach lapses. -/
  | dfuDetachTimeout (port : Fin 2)
  /-- WATCHDOG_COUNTER_CLEAR (R366). After 10 s in ACTIVE or TEST, the retained watchdog-reset counter clears. -/
  | watchdogCounterClear
  deriving DecidableEq, Repr

end Sys2Proof
end

