-- ==== Sys2Proof/Machine/Tbl.lean ====
section
/-! DEFINITION. Sparse tables in one canonical form: keys strictly rising, and no entry equal to what an
unlisted key reads as, so that equal tables are equal data. -/

namespace Sys2Proof.Machine

/-- The value at a key; `d` where the table lists none. -/
def tget {α : Type} (d : α) : Tbl α → Nat → α
  | [], _ => d
  | (k, v) :: r, i => if i = k then v else if i < k then d else tget d r i

/-- Put a value at a key, keeping the canonical form: the default removes the entry. -/
def tset {α : Type} [DecidableEq α] (d : α) : Tbl α → Nat → α → Tbl α
  | [], i, w => if w = d then [] else [(i, w)]
  | (k, v) :: r, i, w =>
    if i < k then (if w = d then (k, v) :: r else (i, w) :: (k, v) :: r)
    else if i = k then (if w = d then r else (i, w) :: r)
    else (k, v) :: tset d r i w

/-- Keys strictly rising above a bound, no entry the default. -/
def tblWfFrom {α : Type} [DecidableEq α] (d : α) : Nat → Tbl α → Bool
  | _, [] => true
  | lo, (k, v) :: r => decide (lo ≤ k) && !decide (v = d) && tblWfFrom d (k + 1) r

/-- The canonical form. -/
def tblWf {α : Type} [DecidableEq α] (d : α) (t : Tbl α) : Bool := tblWfFrom d 0 t

/-- Replace the value at a key by a function of it. -/
def tmod {α : Type} [DecidableEq α] (d : α) (t : Tbl α) (i : Nat) (f : α → α) : Tbl α :=
  tset d t i (f (tget d t i))

/-- Add one to a counter of a given width, wrapping. -/
def tincr (w : Nat) (t : Tbl Nat) (i : Nat) : Tbl Nat := tset 0 t i ((tget 0 t i + 1) % 2 ^ w)

/-- Add one to a counter that saturates at its greatest value. -/
def tincrSat (w : Nat) (t : Tbl Nat) (i : Nat) : Tbl Nat := tset 0 t i (min (tget 0 t i + 1) (2 ^ w - 1))

/-- Apply a function at every key of a list, in its order. -/
def tmodAll {α : Type} [DecidableEq α] (d : α) (t : Tbl α) (ks : List Nat) (f : Nat → α → α) : Tbl α :=
  ks.foldl (fun u k => tset d u k (f k (tget d u k))) t

/-- Apply a function to every entry listed. -/
def tmapKeys {α : Type} [DecidableEq α] (d : α) (t : Tbl α) (f : Nat → α → α) : Tbl α :=
  (t.map (fun e => (e.1, f e.1 e.2))).filter (fun e => !decide (e.2 = d))

end Sys2Proof.Machine
end

