-- ==== Sys2Proof/Machine/Operands.lean ====
section
/-! DEFINITION. Fields of packets, charts, records and frames: little-endian numbers at byte offsets (R4),
two's-complement where signed, and the network's big-endian ones. A byte past the end reads as 0; LENGTH
has been checked before a field is read (R454). -/

namespace Sys2Proof.Machine

/-- The byte at an offset. -/
def u8 (p : List Byte) (i : Nat) : Nat := (p.getD i 0).toNat

/-- A little-endian field of `n` bytes (R4). -/
def uN (p : List Byte) (i : Nat) : Nat → Nat
  | 0 => 0
  | n + 1 => u8 p i + 256 * uN p (i + 1) n

def u16 (p : List Byte) (i : Nat) : Nat := uN p i 2
def u32 (p : List Byte) (i : Nat) : Nat := uN p i 4
def u48 (p : List Byte) (i : Nat) : Nat := uN p i 6
def u64 (p : List Byte) (i : Nat) : Nat := uN p i 8

/-- A number of `w` bits read as two's complement. -/
def signed (w n : Nat) : Int := if n < 2 ^ (w - 1) then (n : Int) else (n : Int) - (2 ^ w : Nat)

/-- The low `w` bits of an integer. -/
def unsigned (w : Nat) (x : Int) : Nat := (x % (2 ^ w : Nat)).toNat

def s8 (p : List Byte) (i : Nat) : Int := signed 8 (u8 p i)
def s16 (p : List Byte) (i : Nat) : Int := signed 16 (u16 p i)
def s32 (p : List Byte) (i : Nat) : Int := signed 32 (u32 p i)

/-- A big-endian field of `n` bytes, as Ethernet frames and ECDSA fix them. -/
def beN (p : List Byte) (i : Nat) : Nat → Nat
  | 0 => 0
  | n + 1 => u8 p i * 256 ^ n + beN p (i + 1) n

/-- `n` bytes from an offset. -/
def bytesAt (p : List Byte) (i n : Nat) : List Byte := (p.drop i).take n

/-- A number as `n` bytes, low byte first. -/
def leN : Nat → Nat → List Byte
  | 0, _ => []
  | n + 1, x => BitVec.ofNat 8 x :: leN n (x / 256)

def b1 (x : Nat) : List Byte := leN 1 x
def b2 (x : Nat) : List Byte := leN 2 x
def b4 (x : Nat) : List Byte := leN 4 x
def b6 (x : Nat) : List Byte := leN 6 x
def b8 (x : Nat) : List Byte := leN 8 x

def sb1 (x : Int) : List Byte := leN 1 (unsigned 8 x)
def sb2 (x : Int) : List Byte := leN 2 (unsigned 16 x)
def sb4 (x : Int) : List Byte := leN 4 (unsigned 32 x)

/-- Zero bytes, as reserved fields read (R5). -/
def zeros (n : Nat) : List Byte := List.replicate n 0

/-- A list cut or filled with zeros to `n` bytes. -/
def fit (n : Nat) (l : List Byte) : List Byte := l.take n ++ zeros (n - l.length)

/-- Bit `i` of a number. -/
def bit (x i : Nat) : Bool := x.testBit i

/-- A flag as 0 or 1. -/
def flag (b : Bool) : Nat := if b then 1 else 0

/-- Bits [hi:lo] of a number. -/
def bits (x hi lo : Nat) : Nat := x / 2 ^ lo % 2 ^ (hi + 1 - lo)

/-- Number of bits set among the lowest `n`. -/
def popcount (x : Nat) : Nat → Nat
  | 0 => 0
  | n + 1 => popcount x n + flag (bit x n)

/-- Indices below `n` whose bit is set, rising. -/
def bitsOf (x n : Nat) : List Nat := (List.range n).filter (bit x)

/-- A mask with the named bits set. -/
def maskOf (l : List Nat) : Nat := l.foldl (fun a i => a ||| 2 ^ i) 0

/-- A mask of the first `n` flags, bit i for flag i. -/
def maskBy (n : Nat) (f : Nat → Bool) : Nat := maskOf ((List.range n).filter f)

/-- All bytes of a range are zero: a reserved field is 0 (R458). -/
def zeroAt (p : List Byte) (i n : Nat) : Bool := uN p i n == 0

/-- The quotient rounded to the nearest, ties away from zero, of an integer by a positive number. -/
def divNear (x : Int) (d : Nat) : Int :=
  if x < 0 then -(((-x).toNat * 2 + d) / (2 * d) : Nat) else ((x.toNat * 2 + d) / (2 * d) : Nat)

/-- Quotient rounded up. -/
def ceilDiv (x d : Nat) : Nat := (x + d - 1) / d

/-- Limit an integer to a range. -/
def clampInt (lo hi x : Int) : Int := if x < lo then lo else if hi < x then hi else x

/-- A list without its first element equal to `x`. -/
def dropOne {α : Type} [DecidableEq α] (x : α) : List α → List α
  | [] => []
  | y :: r => if y = x then r else y :: dropOne x r

/-- A list without any element equal to `x`. -/
def without {α : Type} [DecidableEq α] (x : α) (l : List α) : List α := l.filter (fun y => !decide (y = x))

/-- A list with `x` added when it is not there. -/
def withElem {α : Type} [DecidableEq α] (x : α) (l : List α) : List α := if x ∈ l then l else l ++ [x]

end Sys2Proof.Machine
end

