-- ==== Sys2Proof/Machine/Flags.lean ====
section
/-! DEFINITION. Status codes (Table 2-4), saturation, rounding and the sign conventions of fabric words. -/

namespace Sys2Proof.Machine

def stOk : Nat := 0x00
def stBusy : Nat := 0x01
def stBadCrc : Nat := 0x02
def stBadLength : Nat := 0x03
def stUnknownOpcode : Nat := 0x04
def stBadParam : Nat := 0x05
def stNotOwner : Nat := 0x06
def stConflict : Nat := 0x07
def stNoCapacity : Nat := 0x08
def stWrongState : Nat := 0x09
def stQueued : Nat := 0x0A
def stDenied : Nat := 0x0B
def stNvmError : Nat := 0x0C
def stVersionRejected : Nat := 0x0D
def stTimeout : Nat := 0x0E

/-- A fabric word as a signed number in units of 2^-27 (R92). -/
def wordInt (w : Word) : Int := w.toInt

/-- Saturate an integer to a fabric word (R96): the word, and whether it saturated. -/
def satWord (x : Int) : Word × Bool :=
  if x < -(2 ^ 31 : Int) then (BitVec.ofInt 32 (-(2 ^ 31 : Int)), true)
  else if (2 ^ 31 : Int) - 1 < x then (BitVec.ofInt 32 ((2 ^ 31 : Int) - 1), true)
  else (BitVec.ofInt 32 x, false)

/-- Saturate an integer to a 48-bit accumulator (R94, R95): the accumulator, and whether it saturated. -/
def satAcc (x : Int) : BitVec 48 × Bool :=
  if x < -(2 ^ 47 : Int) then (BitVec.ofInt 48 (-(2 ^ 47 : Int)), true)
  else if (2 ^ 47 : Int) - 1 < x then (BitVec.ofInt 48 ((2 ^ 47 : Int) - 1), true)
  else (BitVec.ofInt 48 x, false)

/-- First refusal of a list of conditions in order: a condition that holds refuses (R458). -/
def firstRefusal : List (Bool × Nat) → Option Nat
  | [] => none
  | (c, st) :: r => if c then some st else firstRefusal r

end Sys2Proof.Machine
end

