-- ==== Sys2Proof/Machine/Crypto.lean ====
section
/-! DEFINITION. The checks of packets, charts and images: CRC-16/CCITT-FALSE (R25), CRC-8 (R44), CRC-32C,
SHA-256 and ECDSA on P-256. The specification names the last three by their standards only, and the
constants and steps here are those standards' (PRESUMED, log entry 20). -/

namespace Sys2Proof.Machine

/-! ## Cyclic checks -/

/-- One bit of the CRC of R25, most significant first, polynomial 0x1021. -/
def crc16Bit (c : Nat) : Nat := if bit c 15 then ((c * 2) ^^^ 0x1021) % 65536 else (c * 2) % 65536

/-- One byte of the CRC of R25. -/
def crc16Byte (c : Nat) (b : Byte) : Nat :=
  crc16Bit (crc16Bit (crc16Bit (crc16Bit (crc16Bit (crc16Bit (crc16Bit (crc16Bit (c ^^^ (b.toNat * 256)))))))))

/-- The packet CRC of version 2 (R25). -/
def crc16 (l : List Byte) : Nat := l.foldl crc16Byte 0xFFFF

/-- One bit of the CRC-8 of R44, polynomial 0x07. -/
def crc8Bit (c : Nat) : Nat := if bit c 7 then ((c * 2) ^^^ 0x07) % 256 else (c * 2) % 256

/-- One byte of the CRC-8. -/
def crc8Byte (c : Nat) (b : Byte) : Nat :=
  crc8Bit (crc8Bit (crc8Bit (crc8Bit (crc8Bit (crc8Bit (crc8Bit (crc8Bit (c ^^^ b.toNat))))))))

/-- The packet CRC of version 1 (R44). -/
def crc8 (l : List Byte) : Nat := l.foldl crc8Byte 0

/-- One bit of CRC-32C, reflected, polynomial 0x82F63B78. PRESUMED: Castagnoli's usual form. -/
def crc32cBit (c : Nat) : Nat := if bit c 0 then (c / 2) ^^^ 0x82F63B78 else c / 2

/-- One byte of CRC-32C. -/
def crc32cByte (c : Nat) (b : Byte) : Nat :=
  crc32cBit (crc32cBit (crc32cBit (crc32cBit (crc32cBit (crc32cBit (crc32cBit (crc32cBit (c ^^^ b.toNat))))))))

/-- CRC-32C, initial and final value all ones. -/
def crc32c (l : List Byte) : Nat := l.foldl crc32cByte 0xFFFFFFFF ^^^ 0xFFFFFFFF

/-! ## SHA-256 (FIPS 180-4) -/

/-- The first 64 primes, whose roots give the constants of SHA-256. -/
def primes64 : List Nat :=
  [2, 3, 5, 7, 11, 13, 17, 19, 23, 29, 31, 37, 41, 43, 47, 53, 59, 61, 67, 71, 73, 79, 83, 89, 97, 101,
   103, 107, 109, 113, 127, 131, 137, 139, 149, 151, 157, 163, 167, 173, 179, 181, 191, 193, 197, 199,
   211, 223, 227, 229, 233, 239, 241, 251, 257, 263, 269, 271, 277, 281, 283, 293, 307, 311]

/-- The greatest r with r^k ≤ x, found bit by bit from 2^n down. -/
def rootBits (k x : Nat) : Nat → Nat → Nat
  | 0, r => r
  | n + 1, r => if (r + 2 ^ n) ^ k ≤ x then rootBits k x n (r + 2 ^ n) else rootBits k x n r

/-- The first 32 bits of the fraction of the square root. -/
def sqrtFrac (q : Nat) : BitVec 32 := BitVec.ofNat 32 (rootBits 2 (q * 2 ^ 64) 40 0)

/-- The first 32 bits of the fraction of the cube root. -/
def cbrtFrac (q : Nat) : BitVec 32 := BitVec.ofNat 32 (rootBits 3 (q * 2 ^ 96) 40 0)

/-- Round constants. -/
def shaK : List (BitVec 32) := primes64.map cbrtFrac

/-- Initial hash value. -/
def shaH0 : List (BitVec 32) := (primes64.take 8).map sqrtFrac

/-- Message padding: a one bit, zeros, and the length in bits as 8 big-endian bytes. -/
def shaPad (l : List Byte) : List Byte :=
  l ++ [0x80] ++ zeros ((119 - l.length % 64) % 64) ++ (b8 (l.length * 8)).reverse

/-- The 16 words of a block. -/
def shaWords (blk : List Byte) : List (BitVec 32) :=
  (List.range 16).map (fun i => BitVec.ofNat 32 (beN blk (4 * i) 4))

/-- Extend the message schedule by `n` words; the newest word is first. -/
def shaExtend : Nat → List (BitVec 32) → List (BitVec 32)
  | 0, w => w
  | n + 1, w =>
    let a := w.getD 14 0
    let b := w.getD 1 0
    let s0 := a.rotateRight 7 ^^^ a.rotateRight 18 ^^^ (a >>> 3)
    let s1 := b.rotateRight 17 ^^^ b.rotateRight 19 ^^^ (b >>> 10)
    shaExtend n ((w.getD 15 0 + s0 + w.getD 6 0 + s1) :: w)

/-- One round on the eight working variables. -/
def shaRound (v : List (BitVec 32)) (kw : BitVec 32 × BitVec 32) : List (BitVec 32) :=
  let a := v.getD 0 0
  let b := v.getD 1 0
  let c := v.getD 2 0
  let e := v.getD 4 0
  let f := v.getD 5 0
  let g := v.getD 6 0
  let s1 := e.rotateRight 6 ^^^ e.rotateRight 11 ^^^ e.rotateRight 25
  let ch := (e &&& f) ^^^ (~~~e &&& g)
  let t1 := v.getD 7 0 + s1 + ch + kw.1 + kw.2
  let s0 := a.rotateRight 2 ^^^ a.rotateRight 13 ^^^ a.rotateRight 22
  let maj := (a &&& b) ^^^ (a &&& c) ^^^ (b &&& c)
  [t1 + s0 + maj, a, b, c, v.getD 3 0 + t1, e, f, g]

/-- Compress one block into the hash value. -/
def shaBlock (h : List (BitVec 32)) (blk : List Byte) : List (BitVec 32) :=
  let w := (shaExtend 48 (shaWords blk).reverse).reverse
  List.zipWith (· + ·) h ((shaK.zip w).foldl shaRound h)

/-- Compress `n` blocks. -/
def shaBlocks : Nat → List Byte → List (BitVec 32) → List (BitVec 32)
  | 0, _, h => h
  | n + 1, l, h => shaBlocks n (l.drop 64) (shaBlock h (l.take 64))

/-- SHA-256 of a byte string, as 32 bytes. -/
def sha256 (l : List Byte) : List Byte :=
  let p := shaPad l
  (shaBlocks (p.length / 64) p shaH0).flatMap (fun w => (b4 w.toNat).reverse)

/-! ## ECDSA on P-256 (FIPS 186) -/

def p256p : Nat := 0xFFFFFFFF00000001000000000000000000000000FFFFFFFFFFFFFFFFFFFFFFFF
def p256n : Nat := 0xFFFFFFFF00000000FFFFFFFFFFFFFFFFBCE6FAADA7179E84F3B9CAC2FC632551
def p256b : Nat := 0x5AC635D8AA3A93E7B3EBBD55769886BC651D06B0CC53B0F63BCE3C3E27D2604B
def p256gx : Nat := 0x6B17D1F2E12C4247F8BCE6E563A440F277037D812DEB33A0F4A13945D898C296
def p256gy : Nat := 0x4FE342E2FE1A7F9B8EE7EB4A7C0F9E162BCE33576B315ECECBB6406837BF51F5

/-- x^e modulo m over the `n` bits of e. -/
def powMod (m x e : Nat) : Nat → Nat → Nat
  | 0, r => r
  | n + 1, r => powMod m x e n (let q := r * r % m; if bit e n then q * x % m else q)

/-- The inverse modulo a prime below 2^256. -/
def invMod (m x : Nat) : Nat := powMod m x (m - 2) 256 1

/-- The sum of two affine points; none is the point at infinity. -/
def p256Add : Option (Nat × Nat) → Option (Nat × Nat) → Option (Nat × Nat)
  | none, q => q
  | q, none => q
  | some (x1, y1), some (x2, y2) =>
    let p := p256p
    if x1 = x2 ∧ (y1 + y2) % p = 0 then none
    else
      let l := if x1 = x2 then (3 * x1 * x1 + (p - 3)) * invMod p (2 * y1 % p) % p
        else (y2 + p - y1) * invMod p ((x2 + p - x1) % p) % p
      let x3 := (l * l + 2 * p - x1 - x2) % p
      some (x3, (l * (x1 + p - x3) + p - y1) % p)

/-- k times a point over the `n` bits of k. -/
def p256Mul (k : Nat) (q : Nat × Nat) : Nat → Option (Nat × Nat) → Option (Nat × Nat)
  | 0, r => r
  | n + 1, r =>
    let d := p256Add r r
    p256Mul k q n (if bit k n then p256Add d (some q) else d)

/-- A point lies on the curve, with both coordinates in range. -/
def p256OnCurve (x y : Nat) : Bool :=
  decide (x < p256p) && decide (y < p256p)
    && ((y * y) % p256p == (x * x * x + (p256p - 3) * x + p256b) % p256p)

/-- The signature (r, s) of a digest is valid under the public key (x, y). -/
def ecdsaValid (key : Nat × Nat) (digest : List Byte) (r s : Nat) : Bool :=
  let e := beN digest 0 32
  decide (0 < r) && decide (r < p256n) && decide (0 < s) && decide (s < p256n) && p256OnCurve key.1 key.2
    && (let w := invMod p256n s
        match p256Add (p256Mul (e * w % p256n) (p256gx, p256gy) 256 none) (p256Mul (r * w % p256n) key 256 none) with
        | none => false
        | some (x, _) => x % p256n == r)

end Sys2Proof.Machine
end

