-- ==== Sys2Proof/Machine/Numeric.lean ====
section
/-! DEFINITION. The arithmetic laws of chapters 5 and 6: rounding to nearest with ties to even, levels in
dB, the ramp law of R117, and fixed-point logarithm and exponential for the laws that the manual gives in
real numbers. -/

namespace Sys2Proof.Machine

/-! ## Rounding -/

/-- x / d rounded to nearest, ties to even. -/
def rneDiv (x : Int) (d : Nat) : Int :=
  let q := x / (d : Int)
  let r := (x % (d : Int)).toNat
  if 2 * r < d then q else if d < 2 * r then q + 1 else if q % 2 = 0 then q else q + 1

/-- x / 2^k rounded to nearest, ties to even (R93, R95, R96). -/
def rneShift (x : Int) (k : Nat) : Int := rneDiv x (2 ^ k)

/-- The exact Q5.27 product rounded to 27 fraction bits (R95). -/
def mulQ27 (a b : Int) : Int := rneShift (a * b) 27

/-- A store's shift of AUX (R96): positive shifts left, a right shift rounds ties to even. -/
def shiftAux (x : Int) (aux : Byte) : Int :=
  let k := aux.toInt
  if 0 ≤ k then x * 2 ^ k.toNat else rneShift x (-k).toNat

/-! ## Levels in dB -/

/-- The greatest w below 2^n with (2w − 1)^m · den ≤ num, found bit by bit: the nearest integer to
(num / den)^(1/m) / 2. -/
def nearestBits (m num den : Nat) : Nat → Nat → Nat
  | 0, w => w
  | n + 1, w =>
    let c := w + 2 ^ n
    if (2 * c - 1) ^ m * den ≤ num then nearestBits m num den n c else nearestBits m num den n w

/-- The word nearest to 10^(x / 2000) × 2^27, x in 0.01 dB: (2w)^2000 near 2^56000 · 10^x. -/
def dbWord (x : Int) : Nat :=
  let g := Nat.gcd x.natAbs 2000
  let m := 2000 / g
  let e := x.natAbs / g
  if x < 0 then nearestBits m (2 ^ (28 * m)) (10 ^ e) 32 0 else nearestBits m (2 ^ (28 * m) * 10 ^ e) 1 32 0

/-- The magnitude counts as −144 dB (R117): 2^27 × 10^−7.2 lies between 8 and 9. -/
def atFloor (v : Nat) : Bool := decide (v ≤ 8)

/-- The fifth power of a magnitude over 2^27, or of 10^−7.2, as numerator and denominator. -/
def level5 (v : Nat) : Nat × Nat := if atFloor v then (1, 10 ^ 36) else (v ^ 5, 2 ^ 135)

/-- Ramp period k of n between two magnitudes, linear in dB (R117): the word nearest to
2^27 · A^((n − k)/n) · B^(k/n). -/
def dbRamp (a b k n : Nat) : Nat :=
  let g := Nat.gcd k n
  let n1 := n / g
  let k1 := k / g
  if atFloor a || atFloor b then
    let la := level5 a
    let lb := level5 b
    nearestBits (5 * n1) (2 ^ (140 * n1) * la.1 ^ (n1 - k1) * lb.1 ^ k1) (la.2 ^ (n1 - k1) * lb.2 ^ k1) 32 0
  else nearestBits n1 (2 ^ n1 * a ^ (n1 - k1) * b ^ k1) 1 32 0

/-- A word of a sign and a magnitude. -/
def signedWord (neg : Bool) (v : Nat) : Word := if neg then -(BitVec.ofNat 32 v) else BitVec.ofNat 32 v

/-- One part of a gain ramp, whose ends do not differ in sign: a target of 0 is given exactly. The sign is
that of the target, or of the start where the target is 0 (log entry 31). -/
def gainPart (a b : Word) (k n : Nat) : Word :=
  if k = n then b
  else signedWord (if b = 0 then a.toInt < 0 else b.toInt < 0) (dbRamp a.toInt.natAbs b.toInt.natAbs k n)

/-- Ramp period k of n of a gain or gate slot (R117). -/
def gainRamp (a b : Word) (k n : Nat) : Word :=
  if n ≤ k then b
  else if a ≠ 0 ∧ b ≠ 0 ∧ (decide (a.toInt < 0)) ≠ decide (b.toInt < 0) then
    let h := ceilDiv n 2
    if k ≤ h then gainPart a 0 k h else gainPart 0 b (k - h) (n - h)
  else gainPart a b k n

/-- Ramp period k of n of a position slot (R117): linear in value, ties to even. -/
def positionRamp (a b : Word) (k n : Nat) : Word :=
  if n ≤ k then b
  else BitVec.ofInt 32 (rneDiv (a.toInt * ((n : Int) - k) + b.toInt * k) n)

/-- 1.0 in Q5.27. -/
def unity : Word := 0x08000000

/-! ## Logarithm and exponential in fixed point -/

/-- Fraction bits of log2 of m / 2^63, 2^63 ≤ m < 2^64, most significant first. -/
def log2Frac : Nat → Nat → Nat → Nat
  | 0, _, r => r
  | n + 1, m, r =>
    let q := m * m / 2 ^ 63
    if 2 ^ 64 ≤ q then log2Frac n (q / 2) (2 * r + 1) else log2Frac n q (2 * r)

/-- log2 x × 2^40, rounded down; 0 for 0. -/
def log2Q40 (x : Nat) : Nat :=
  if x = 0 then 0
  else
    let e := Nat.log2 x
    let m := if e ≤ 63 then x * 2 ^ (63 - e) else x / 2 ^ (e - 63)
    e * 2 ^ 40 + log2Frac 40 m 0

/-- 20 log10 of a ratio of two magnitudes, in 10^−6 dB; the denominator is a power of two. -/
def dbMicro (x e : Nat) : Int := ((log2Q40 x : Int) - (e : Int) * 2 ^ 40) * 6020599913 / (1000 * 2 ^ 40)

/-- Terms of e^−y from the n-th on, y in Q80: 1 − y/n · (…). -/
def expTerms (y : Nat) : Nat → Nat → Nat
  | 0, _ => 2 ^ 80
  | f + 1, n => 2 ^ 80 - y * expTerms y f (n + 1) / (n * 2 ^ 80)

/-- e^−y × 2^80 for y in Q80 below 1. -/
def expNeg (y : Nat) : Nat := expTerms y 26 1

/-- e^−(a/b) × 2^80 for a/b below 1. -/
def expNegRatio (a b : Nat) : Nat := expNeg (a * 2 ^ 80 / b)

/-- 2^27 × 10^(−a / 20·10^6), a in 10^−6 dB of attenuation, rounded to nearest. -/
def attenWord (a : Nat) : Nat :=
  let z := a * 210552207169949173680322 / 2 ^ 20
  let f := z % 2 ^ 80
  (expNeg (f * 837963523372001241319908 / 2 ^ 80) + 2 ^ (52 + z / 2 ^ 80)) / 2 ^ (53 + z / 2 ^ 80)

/-- The gain word of a gain of at most 0 in 10^−6 dB (R132). -/
def gainWord (g : Int) : Word := BitVec.ofNat 32 (attenWord (-g).toNat)

/-- A magnitude over 2^27 in 0.01 dB, nearest; −14,400 for 0. -/
def centiDb (w : Nat) : Int := if w = 0 then -14400 else max (-14400) (divNear (dbMicro w 27) 10000)

/-! ## Sine -/

/-- Terms of sin x / x from the n-th on, y = x² in Q80: 1 − y/(2n(2n + 1)) · (…). -/
def sineTerms (y : Nat) : Nat → Nat → Nat
  | 0, _ => 2 ^ 80
  | f + 1, n => 2 ^ 80 - y * sineTerms y f (n + 1) / (2 * n * (2 * n + 1) * 2 ^ 80)

/-- sin x × 2^60 for x in Q80 up to a quarter of a turn. -/
def sineQuarter (x : Nat) : Nat := x * sineTerms (x * x / 2 ^ 80) 16 1 / 2 ^ 100

/-- sin (2π · num / den) × 2^60. -/
def sineQ60 (num den : Nat) : Int :=
  let t := 4 * (num % den)
  let x := (t % den) * 7595904947272677161575987 / (4 * den)
  let quarter := 7595904947272677161575987 / 4
  match t / den with
  | 0 => sineQuarter x
  | 1 => sineQuarter (quarter - x)
  | 2 => -(sineQuarter x : Int)
  | _ => -(sineQuarter (quarter - x) : Int)

/-- cos (2π · num / den) × 2^60. -/
def cosineQ60 (num den : Nat) : Int := sineQ60 (4 * num + den) (4 * den)

end Sys2Proof.Machine
end

