-- ==== Sys2Proof/Config.lean ====
section
/-! DEFINITION. What the specification leaves open (free values: constants with no body, so that no
proof can see them) and the fixed figures of the part. -/

namespace Sys2Proof.Config

/-- Whether a stated minimum interval between two events of one kind has passed when the next occasion
arises. The model has no clock beside the fabric period count, so this is a free value (R457),
applied to the counter of free draws. -/
opaque elapsed : Nat → Bool

/-- Which way the last place of an internal figure falls where a law is given in real numbers and no
internal precision is stated (R117 gives its own rounding and does not use this). Free. -/
opaque roundUp : Nat → Bool

/-- A random draw for dither (R139: two independent uniform values), per draw counter. Free. -/
opaque dither : Nat → BitVec 32

/-- A measured or analogue figure that the outside world decides and no command supplies
(a residual offset, a factory correction, a supply reading before any conversion). Free. -/
opaque reading : Nat → BitVec 32

/-- A value that the specification leaves open in a reply or a record: which draw, and which field of it.
Free. -/
opaque answer : Nat → Nat → BitVec 32

/-- The factory calibration of the speed monitors (R393): 0 S0 in 0.01 M ops/s, 1 KV in 0.001 /V, 2 KT in
ppm/°C; and that of modulator m (R176): 16 + 3m gain, 17 + 3m offset, 18 + 3m delay;
and 96 the calibrated value of VREFCAL in µV (R352). Free: each part has its own. -/
opaque factory : Nat → BitVec 32

/-- Content that the specification leaves to the image, the factory or a standard it only names. Free. -/
opaque content : Nat → BitVec 8

/-- Coefficients of a second-order low-pass in Q3.29, b0, b1, b2, a1, a2 by index: its corner in 0.1 Hz, its quality
factor in 0.001 (0 for Linkwitz-Riley) and the fabric rate in Hz. The manual names the filters and states no discrete
form of them (R136). Free. -/
opaque lowPass : Nat → Nat → Nat → Nat → BitVec 32

/-- The rate that a tracker forms, as an offset in 0.01 ppm: its bandwidth code, the timestamps received with the fabric
period of each, newest first, and a draw. The manual states what it tracks and no discrete form (R153). Free. -/
opaque trackRate : Nat → List (Nat × Nat) → BitVec 32 → BitVec 32

/-- A sample of a rate-stage channel: the samples that went in, newest first, the ratio in Q4.28, and a draw. The manual
states limits of the conversion and no filter (R155). Free. -/
opaque rateStage : List (BitVec 32) → Nat → BitVec 32 → BitVec 32

/-- What a modulator and its sinc stage make of the signal at the relief tap in a fabric period: which modulator, the
signal, and a draw. Its own error is the part's (R168, R182). Free. -/
opaque modulator : Nat → BitVec 32 → BitVec 32 → BitVec 32

/-- A sample of a capture chain after its delay equaliser and filter response: the response F0 to F7, the delay beside the
common padding in 1/65,536 of a fabric period, the samples that went in, newest first, and a draw. The manual states limits
of the responses and no coefficients (R184, R190). Free. -/
opaque captureFilter : Nat → Int → List (BitVec 32) → BitVec 32 → BitVec 32

/-- Bytes of the part's built-in USB descriptors that the manual does not state: the vendor ID at 0 and 1, then by
descriptor (R258). Free: they are the part's own. -/
opaque usbRom : Nat → BitVec 8

/-- Where a descriptor of a type and index stands in a chart's AEM bytes, and its length: the structure of the entity model
is IEEE 1722.1's (R320). Free. -/
opaque aemPlace : List (BitVec 8) → Nat → Nat → Option (Nat × Nat)

/-- DEVICE_ID of silicon revision B1 (R2). -/
def deviceId : Nat := 0x256000B1

end Sys2Proof.Config
end

