-- ==== Sys2Proof/Machine/State.lean ====
section
/-! DEFINITION. The state of the KN2560 as plain data: every register, queue, buffer, counter, mode and
pin that the specification gives the part, and the queue of commands that wait. -/

namespace Sys2Proof.Machine

/-! ## Host contexts -/

/-- An event record (R37, Table 2-7). -/
structure Event where
  code : Nat
  inst : Nat
  seq : Nat
  stamp : Nat
  log : Nat
  data : Nat
  deriving DecidableEq, Repr

/-- A reply packet (R26, R461): status as its code of Table 2-4, log 0 for a command not executed. -/
structure Reply where
  v1 : Bool
  opcode : Nat
  tag : Byte
  status : Nat
  log : Nat
  result : List Byte
  deriving DecidableEq, Repr

/-- A packet that has passed the checks of Table 2-3 and waits to be executed (R30), or one that has failed them and
waits to be answered after the packets before it (R460). -/
structure Held where
  v1 : Bool
  opcode : Nat
  tag : Byte
  payload : List Byte
  /-- At H4, the controller entity and sequence_id that brought it (R322, R323). -/
  source : Option (BitVec 64 × BitVec 16)
  /-- The status of the check that it failed. -/
  failed : Option Nat
  deriving DecidableEq, Repr

/-- One host context (R21, R22, R37, R42, R43). -/
structure CtxState where
  isOpen : Bool
  level1 : Bool
  mask : Nat
  queue : List Event
  seq : Nat
  held : List Held
  /-- Replies placed for the host: at H2 and H3 those that wait to be read (R268), at H4 the one kept
  for fetching (R323). The reply of H0 or H1 stands in its port's reply door. -/
  replies : List Reply
  deriving DecidableEq, Repr

/-- A context as reset leaves H2, H3 and H4: closed, with the default mask and an empty queue (R42). -/
def CtxState.closed : CtxState :=
  { isOpen := false, level1 := false, mask := 0xFFFE, queue := [], seq := 0, held := [], replies := [] }

/-- An event's subject under R37: none, or the resources it concerns. -/
inductive Concern where
  | none
  | res (ids : List Nat)
  deriving DecidableEq, Repr

/-- An event raised while the CP is absent, recorded by hardware (Table 18-7). -/
structure Raised where
  code : Nat
  inst : Nat
  stamp : Nat
  log : Nat
  data : Nat
  concern : Concern
  /-- The contexts it may go to. -/
  sel : List Nat
  deriving DecidableEq, Repr

/-- A binding that has fired and waits to be executed (R82): its index, the event's code and instance. -/
structure Fired where
  index : Nat
  code : Nat
  inst : Nat
  deriving DecidableEq, Repr

/-- The contexts and what the CP keeps about them. -/
structure HostState where
  ctxs : Tbl CtxState
  /-- Next global log number (R29). -/
  log : Nat
  /-- The log number has wrapped since reset (R29, GET_INFO). -/
  logWrapped : Bool
  /-- The context served last (R30), 0 to 4. -/
  served : Nat
  supervisor : Ctx
  /-- Owner code by resource ID (R32). -/
  owners : Tbl Nat
  /-- Contexts assigned to IRQ_A and IRQ_B, bit n for Hn (R40). -/
  irqSetA : Nat
  irqSetB : Nat
  /-- The pins, true while driven low (R40). -/
  irqA : Bool
  irqB : Bool
  /-- A pin released by an acknowledgement that left an event pending (R40). -/
  irqHoldA : Bool
  irqHoldB : Bool
  fired : List Fired
  /-- The CP is absent during an activation (R418), with the events raised meanwhile. -/
  absent : Bool
  raised : List Raised
  raisedLost : Nat
  /-- Packets that reach H4 while the CP is absent, checked after the absence (R460, Table 18-7). -/
  late : List (Option (BitVec 64 × BitVec 16) × List Byte)
  /-- The controller and sequence_id whose packet H4 executes. -/
  vendor : Option (BitVec 64 × BitVec 16)
  /-- The controller entity whose HELLO opened H4 (R22, R321). -/
  h4Controller : Option (BitVec 64)
  deriving DecidableEq, Repr

/-! ## Two-wire ports -/

/-- A two-wire port and its register window (chapter 3). -/
structure TwPort where
  /-- Address pins as sampled (Table 3-1) and the address latched from them (R46). -/
  pins : BitVec 2
  addr : BitVec 7
  /-- The port acknowledges its address (R63, R64). -/
  served : Bool
  /-- An open transaction: none, write (pointer bytes taken so far, first data byte still to come,
  later bytes refused after a page end), read, or a read that the controller has ended with a not-acknowledge (R50). -/
  txn : Nat
  ptrBytes : Nat
  firstByte : Bool
  pageEnd : Bool
  pointer : BitVec 16
  errCause : Nat
  error : Bool
  busy : Bool
  replyValid : Bool
  irqMask : BitVec 32
  /-- Bytes written to IRQ_MASK in the open transaction (R53). -/
  staged : List (Nat × Byte)
  door : Tbl Byte
  fill : Nat
  reply : Option Reply
  eventDoor : List Event
  /-- The 32-bit register captured at its byte 0 in the open read (R53): its address and value. -/
  capture : Option (Nat × Nat)
  /-- The acknowledge answer to the last byte received, and the bytes of the last read. -/
  acked : Bool
  readBytes : List Byte
  deriving DecidableEq, Repr

/-- A port at reset (Tables 3-4, 3-6): BUSY set, everything else clear. -/
def TwPort.reset : TwPort :=
  { pins := 0, addr := 0, served := false, txn := 0, ptrBytes := 0, firstByte := false, pageEnd := false,
    pointer := 0, errCause := 0, error := false, busy := true, replyValid := false, irqMask := 0x0000FFFE,
    staged := [], door := [], fill := 0, reply := none, eventDoor := [], capture := none,
    acked := false, readBytes := [] }

/-! ## Charts and overlays -/

/-- A section of a chart (Table 4-2). -/
structure ChartSection where
  type : Nat
  index : Nat
  data : List Byte
  deriving DecidableEq, Repr

/-- A chart as its header and sections give it (Tables 4-1, 4-2). -/
structure Chart where
  format : Nat
  chartId : Nat
  revision : Nat
  rate : Nat
  flags : Nat
  requiredSi : Nat
  reducedSi : Nat
  sections : List ChartSection
  deriving DecidableEq, Repr

/-- A chart slot of NVM: its slot record (Table 4-6a) and the chart bytes. -/
structure ChartSlot where
  state : Nat
  generation : Nat
  length : Nat
  bytes : Tbl Byte
  deriving DecidableEq, Repr

/-- Who asked for a deferred effect: a context's command, or a command of no context. -/
structure Waiter where
  ctx : Ctx
  log : Nat
  deriving DecidableEq, Repr

/-- The cause that OVERLAY_CHANGED gives (Table 4-12): its code, the binding index or 0xFF, the log number. -/
structure OvCause where
  code : Nat
  binding : Nat
  log : Nat
  deriving DecidableEq, Repr

/-- An activation queued behind a removal swap (R78). -/
structure QueuedAct where
  waiter : Option Waiter
  cut : Bool
  ramp : Nat
  cause : OvCause
  deriving DecidableEq, Repr

/-- An activation that a USB interface's setting asks for, once the overlay of its setting before has left (R261). -/
structure Follow where
  /-- The overlay that leaves, and the one to enter. -/
  old : Nat
  ov : Nat
  port : Nat
  ifc : Nat
  req : QueuedAct
  deriving DecidableEq, Repr

/-- An overlay (R74, Table 4-9) with the transition it is in. -/
structure Overlay where
  st : Nat
  cut : Bool
  ramp : Nat
  cause : OvCause
  waiters : List Waiter
  queued : List QueuedAct
  deriving DecidableEq, Repr

/-- An overlay out of service. -/
def Overlay.inactive : Overlay :=
  { st := 0, cut := false, ramp := 0, cause := { code := 0, binding := 0xFF, log := 0 }, waiters := [],
    queued := [] }

/-- A switch in progress (R77): phase 0 loading, 1 crossfading, 2 removing. -/
structure Switch where
  src : Nat
  dst : Nat
  cut : Bool
  ramp : Nat
  phase : Nat
  waiter : Option Waiter
  cause : OvCause
  deriving DecidableEq, Repr

/-- What a load of the engine loader places or takes away (R17, R75, R77, R83, R86, R108). -/
inductive LoadWhat where
  | activate (ov : Nat)
  | remove (ov : Nat)
  | switchIn (src dst : Nat)
  | switchOut (src dst : Nat)
  | variant (reduced : Bool)
  | base
  | rebuild
  deriving DecidableEq, Repr

/-- The load in progress (R17, R73, R113, R200). -/
structure Load where
  what : LoadWhat
  complete : Bool
  /-- Chain-lane routes and outputs whose mute ramps this load started, and those it still waits for. -/
  muted : List Nat
  mutedOuts : List Nat
  routes : List Nat
  outs : List Nat
  deriving DecidableEq, Repr

/-- A chain-lane route (Table 5-11). -/
structure Route where
  source : Nat
  sink : Nat
  gain : Nat
  enabled : Bool
  deriving DecidableEq, Repr

/-- A route entry that nothing has written. -/
def Route.off : Route := { source := 0, sink := 0, gain := 0, enabled := false }

/-- One of the two banks (R104): 8,192 words of 64 bits, the words with a parity error, the chain-lane
route table, and the settings of KIND 0x08 and 0x09 that its load brings. -/
structure Bank where
  words : Tbl (BitVec 64)
  parity : List Nat
  routes : Tbl Route
  asrc : Tbl (List Byte)
  entries : Tbl (List Byte)
  deriving DecidableEq, Repr

/-- A bank of NOP words. -/
def Bank.empty : Bank := { words := [], parity := [], routes := [], asrc := [], entries := [] }

/-- A change of variant in progress (R83). -/
structure VariantChange where
  reduced : Bool
  cause : Nat
  log : Nat
  waiter : Option Waiter
  /-- The variant load has been queued. -/
  loading : Bool
  deriving DecidableEq, Repr

/-- CHART_SELECT "now" in progress (R86): phase 0 fading out, 1 loading or waiting for the PLL,
2 fading in. -/
structure Select where
  slot : Nat
  chart : Chart
  waiter : Waiter
  phase : Nat
  relock : Bool
  /-- The chart replaces the entity section (R316). -/
  entity : Bool
  /-- Period k of n of the fade under way (R86). -/
  k : Nat
  n : Nat
  deriving DecidableEq, Repr

/-- A chart write session (R85). -/
structure WriteSession where
  owner : Ctx
  slot : Nat
  length : Nat
  written : Nat
  deriving DecidableEq, Repr

/-- Charts, overlays, bindings, variant and the engine loader (chapter 4). -/
structure ChartState where
  slotA : ChartSlot
  slotB : ChartSlot
  chart : Option Chart
  inUse : Nat
  overlays : Tbl Overlay
  switches : List Switch
  /-- Present enables of the bindings that differ from the chart's (R81): 1 disabled, 2 enabled. -/
  enables : Tbl Nat
  reduced : Bool
  change : Option VariantChange
  select : Option Select
  session : Option WriteSession
  near : Bank
  far : Bank
  /-- The physical bank that is Near, and SWAP_COUNT (Table 5-9). -/
  nearBank : Nat
  swapCount : Nat
  load : Option Load
  loads : List LoadWhat
  /-- Activations that follow another overlay's removal swap (R261). -/
  follows : List Follow
  /-- A CHART_MISSING in the present start (R423). -/
  missing : Bool
  deriving DecidableEq, Repr

/-! ## The engine -/

/-- A lane (R94, R100, R105-R109). -/
structure Lane where
  pos : Nat
  ended : Bool
  faulted : Bool
  /-- The fence it waits at: the named lane and the target word (R101). -/
  wait : Option (Nat × Nat)
  a0 : BitVec 48
  a1 : BitVec 48
  a2 : BitVec 48
  a3 : BitVec 48
  accSat : Bool
  overrun : Nat
  faultWord : Nat
  faultSince : Bool
  deriving DecidableEq, Repr

/-- A lane at reset: stopped, accumulators 0. -/
def Lane.reset : Lane :=
  { pos := 0, ended := true, faulted := false, wait := none, a0 := 0, a1 := 0, a2 := 0, a3 := 0,
    accSat := false, overrun := 0, faultWord := 0xFFFF, faultSince := false }

/-- A sink berth (R90, R103, R105, Table 6-6). -/
structure Sink where
  /-- The word stored, whether its final store has landed in this period, and by which lane. -/
  word : BitVec 32
  landed : Bool
  lane : Nat
  /-- The output of the dynamics stage in this period, and whether it has completed. -/
  out : BitVec 32
  done : Bool
  /-- The word that egress delivers, and the words its egress FIFO holds, oldest first; none where a port in
  the fabric domain has not set it (R11). -/
  egress : BitVec 32
  fifo : Option (List (BitVec 32))
  /-- The look-ahead delay store, oldest first (R132). -/
  delay : List (BitVec 32)
  deriving DecidableEq, Repr

/-- A sink at reset (R89, R90). -/
def Sink.reset : Sink :=
  { word := 0, landed := false, lane := 0, out := 0, done := false, egress := 0, fifo := none, delay := [] }

/-- A chain-lane route's ramp factor f (R113): its present value, the ramp it is in, period k of n, and the
ramp that the next tick starts (true to 1.0, false to mute). -/
structure RouteRamp where
  present : BitVec 32
  start : BitVec 32
  target : BitVec 32
  k : Nat
  n : Nat
  pend : Option Bool
  deriving DecidableEq, Repr

/-- A route at 1.0. -/
def RouteRamp.steady : RouteRamp :=
  { present := 0x08000000, start := 0x08000000, target := 0x08000000, k := 0, n := 0, pend := none }

/-- The engine (chapter 5). -/
structure EngineState where
  /-- The tick runs, and the engine has halted (R108). -/
  ticking : Bool
  halted : Bool
  /-- Fabric periods since the first tick, of which PERIOD_COUNT is the low 32 bits (R109), and that the first
  tick has come. -/
  period : Nat
  started : Bool
  lanes : Tbl Lane
  /-- Landing half: the words that have landed in this period. -/
  landing : Tbl (Option (BitVec 32))
  working : Tbl (BitVec 32)
  work : Tbl (BitVec 32)
  sinks : Tbl Sink
  ramps : Tbl RouteRamp
  /-- ENGINE_OVERRUN (R106): periods and lanes since the last event, and the period of that event. -/
  overruns : Nat
  overrunLanes : Nat
  overrunAt : Option Nat
  /-- Overrun periods for the hull log (Table 17-5). -/
  overrunTotal : Nat
  /-- Boundary ingress FIFOs of ports in the fabric domain, by source berth, oldest word first (R11). -/
  ingress : Tbl (Option (List (BitVec 32)))
  /-- Engine faults, oldest first: the age of each over the ticks since in 1/28,224,000 s, with whether the tick has stopped
  since (R108); and the words already posted (R107). -/
  faults : List (Nat × Bool)
  faultedWords : List Nat
  deriving DecidableEq, Repr

/-! ## Parameters, filters and dynamics -/

/-- A parameter slot (R115, R117): a ramp runs while n is not 0, and presents period k of n from `start`. -/
structure Slot where
  target : BitVec 32
  rampMs : Nat
  present : BitVec 32
  start : BitVec 32
  k : Nat
  n : Nat
  /-- The commit that the next tick latches: target, ramp time in ms, and log number (R15). -/
  pending : Option (BitVec 32 × Nat × Nat)
  deriving DecidableEq, Repr

/-- A slot that no write group names (R115). -/
def Slot.reset : Slot :=
  { target := 0, rampMs := 0, present := 0, start := 0, k := 0, n := 0, pending := none }

/-- A bank selection in progress (R126, R127): the incoming bank, crossfade period k of n (n 0 when
instant), and whether a tick has latched it. -/
structure Selection where
  toB : Bool
  k : Nat
  n : Nat
  latched : Bool
  /-- The change time in ms, and whether it is a crossfade. -/
  ms : Nat
  fade : Bool
  deriving DecidableEq, Repr

/-- A queued selection or D0 change (R127, R129). -/
structure QueuedSel where
  toB : Bool
  d0 : Nat
  ms : Nat
  fade : Bool
  waiter : Waiter
  deriving DecidableEq, Repr

/-- A biquad section (R123). Coefficients in the order b0, b1, b2, a1, a2. -/
structure Section where
  bankA : List (BitVec 32)
  bankB : List (BitVec 32)
  activeB : Bool
  x1 : BitVec 32
  x2 : BitVec 32
  ya1 : BitVec 48
  ya2 : BitVec 48
  yb1 : BitVec 48
  yb2 : BitVec 48
  pendA : Option (List (BitVec 32))
  pendB : Option (List (BitVec 32))
  sel : Option Selection
  queued : Option QueuedSel
  deriving DecidableEq, Repr

/-- A section that no write group names. -/
def Section.reset : Section :=
  { bankA := [0, 0, 0, 0, 0], bankB := [0, 0, 0, 0, 0], activeB := false, x1 := 0, x2 := 0, ya1 := 0,
    ya2 := 0, yb1 := 0, yb2 := 0, pendA := none, pendB := none, sel := none, queued := none }

/-- A delay line (R128, R129, Table 6-5). A line absent from the chart has length 0. -/
structure DelayLine where
  base : Nat
  len : Nat
  /-- The D0 the DLR words read at, the one before a change, and the change in progress. -/
  d0 : Nat
  old : Nat
  maxOffset : Nat
  xfade : Nat
  sel : Option Selection
  queued : Option QueuedSel
  deriving DecidableEq, Repr

/-- A delay line absent from the chart. -/
def DelayLine.absent : DelayLine :=
  { base := 0, len := 0, d0 := 0, old := 0, maxOffset := 0, xfade := 0, sel := none, queued := none }

/-- A limiter (R132, Table 6-7). Its gain is kept in units of 10^-6 dB. -/
structure Limiter where
  present : Bool
  threshold : Int
  lookahead : Nat
  attack : Nat
  release : Nat
  enabled : Bool
  gain : Int
  /-- Settings that the next tick latches (R142): flags, threshold, attack, release. -/
  pending : Option (Nat × Int × Nat × Nat)
  /-- Largest reduction since each context's last read, 0.01 dB, by context number. -/
  largest : Tbl Nat
  /-- It has taken its step in the present period. -/
  stepped : Bool
  deriving DecidableEq, Repr

/-- A limiter absent from the chart. -/
def Limiter.absent : Limiter :=
  { present := false, threshold := 0, lookahead := 0, attack := 0, release := 0, enabled := false,
    gain := 0, pending := none, largest := [], stepped := false }

/-- The memory of a second-order low-pass: its last two inputs and outputs, the latest first. -/
structure LowPass where
  x1 : Int
  x2 : Int
  y1 : Int
  y2 : Int
  deriving DecidableEq, Repr

def LowPass.zero : LowPass := { x1 := 0, x2 := 0, y1 := 0, y2 := 0 }

/-- A speaker protection instance (R134-R138, Table 6-8). Gains in 0.01 dB, temperatures in 0.1 °C. -/
structure Protect where
  present : Bool
  entry : List Byte
  enabled : Bool
  tMax : Nat
  xMax : Nat
  re : Nat
  temp : Int
  /-- G_t: its present value and the start of its spread in 10^-6 dB, its target in 0.01 dB (−14,400 for
  mute), and period k of n of the spread (R135). G_x in 10^-6 dB, the peak predicted excursion in µm. -/
  gtNow : Int
  gtStart : Int
  gt : Int
  gtK : Nat
  gtN : Nat
  gx : Int
  excursion : Nat
  /-- Periods in a row in which the leaving word has exceeded X_MAX (R136). -/
  exOver : Nat
  /-- The last two inputs and outputs of the low-band filter and of the excursion model (R136). -/
  band : LowPass
  cone : LowPass
  /-- Low bands and predicted excursions of the words in the sink's window, oldest first (R136). -/
  lows : List Int
  exc : List Nat
  /-- Falling peaks of the predicted excursion in the last 100 ms, with their periods (Table 6-12). -/
  peaks : List (Nat × Nat)
  /-- The pilot that is being added: the period and the phase, in 2^-32 of a turn, at which it started (R134). -/
  pilot : Option (Nat × Nat)
  /-- Synchronous demodulation since the last estimate: voltage with cosine and sine, current likewise (R134). -/
  demod : Int × Int × Int × Int
  /-- An estimate has been made since the entry was loaded (Table 6-9). -/
  estimated : Bool
  /-- PROTECT_SET awaiting the tick: FLAGS, T_MAX, X_MAX (R15). -/
  pending : Option (Nat × Nat × Nat)
  degraded : Bool
  fault : Nat
  outside : Nat
  outsideHigh : Bool
  limiting : Bool
  exLimiting : Bool
  /-- SPK_PROT_LIMIT has been posted before (its least interval counts from then). -/
  limitPosted : Bool
  deriving DecidableEq, Repr

/-- An instance absent from the chart. -/
def Protect.absent : Protect :=
  { present := false, entry := [], enabled := false, tMax := 0, xMax := 0, re := 0, temp := 0,
    gtNow := 0, gtStart := 0, gt := 0, gtK := 0, gtN := 0, gx := 0, excursion := 0, exOver := 0, band := LowPass.zero,
    cone := LowPass.zero, lows := [], exc := [], peaks := [], pilot := none, demod := (0, 0, 0, 0),
    estimated := false, pending := none, degraded := false, fault := 0, outside := 0, outsideHigh := false,
    limiting := false, exLimiting := false, limitPosted := false }

/-- A meter (R140, Table 6-11). MS is kept in units of 2^-32 of a squared fabric LSB. -/
structure Meter where
  present : Bool
  tc : Nat
  hold : Nat
  decay : Nat
  ms : Nat
  peak : Nat
  /-- Periods since the held peak was set. -/
  age : Nat
  since : Tbl Nat
  deriving DecidableEq, Repr

/-- A meter absent from the chart. -/
def Meter.absent : Meter :=
  { present := false, tc := 0, hold := 0, decay := 0, ms := 0, peak := 0, age := 0, since := [] }

/-- Parameters, filters, delay lines, dynamics, meters and clip counts (chapter 6). -/
structure ParamState where
  slots : Tbl Slot
  sections : Tbl Section
  lines : Tbl DelayLine
  pool : Tbl (BitVec 32)
  limiters : Tbl Limiter
  protects : Tbl Protect
  meters : Tbl Meter
  /-- Clip counts, by context × 1,024 + berth (R141). -/
  clips : Tbl Nat
  /-- Berths with a clip event in the present interval, and the periods it has lasted. -/
  clipped : List Nat
  clipPos : Nat
  deriving DecidableEq, Repr

/-! ## Clocks and convoys -/

/-- A PLL (R144-R146, Table 7-1): mode, disciplined domain or 0xFF, bandwidth code, steering in 0.01 ppm,
and the mode it returns to after a loss of the reference. -/
structure Pll where
  mode : Nat
  domain : Nat
  bw : Nat
  /-- Present steering in 0.01 ppm, and what has come of the next step of it: 1,000 a period, at 10 ppm/s (R145). -/
  steer : Int
  slew : Nat
  resume : Nat
  /-- A discipline that the next tick puts in force: domain, bandwidth, log number of the command (R166). -/
  pending : Option (Nat × Nat × Nat)
  deriving DecidableEq, Repr

/-- A PLL in FREE mode. -/
def Pll.free : Pll := { mode := 0, domain := 0xFF, bw := 0, steer := 0, slew := 0, resume := 0, pending := none }

/-- A clock domain (R151, R152, Table 7-6). -/
structure Domain where
  st : Nat
  rate : Nat
  alt : Nat
  refValid : Bool
  offset : Int
  /-- Rate code and offset when it was last LOCKED, with which the engines convert through a mute (R156). -/
  held : Option (Nat × Int)
  locks : Nat
  unlocks : Nat
  pendAlt : Option Nat
  pendRate : Option Nat
  /-- Log number of the command behind the change (R37). -/
  pendLog : Nat
  /-- gPTP times of the timestamps received, each with its fabric period, newest first (R153). -/
  stamps : List (Nat × Nat)
  deriving DecidableEq, Repr

/-- A domain that is OFF. -/
def Domain.off : Domain :=
  { st := 0, rate := 0, alt := 0, refValid := false, offset := 0, held := none, locks := 0, unlocks := 0,
    pendAlt := none, pendRate := none, pendLog := 0, stamps := [] }

/-- A convoy member (R159, Table 7-10): state, held samples (timeline index and one word per channel,
in order), fade sample k of 32, and whether it goes to IDLE at the fade's end. -/
structure Member where
  st : Nat
  fifo : List (Nat × List (BitVec 32))
  fade : Nat
  /-- Go to IDLE, not SILENT, when the fade ends (R165). -/
  toIdle : Bool
  /-- The ramp's factor in the last sample, and the level it started from. -/
  level : BitVec 32
  start : BitVec 32
  /-- The port's words that its last read gave, one per channel, before the ramp. -/
  last : List (BitVec 32)
  /-- Timed kind: the index after the last sample of the previous frame since ALIGNING (R308). -/
  cont : Option Int
  /-- What has gone into the rate stage: the words of a sample with the ramp's factor, newest first (R155). -/
  hist : List (List (BitVec 32) × BitVec 32)
  /-- Samples of it that went in since the last tick. -/
  fresh : Nat
  deriving DecidableEq, Repr

/-- A member whose port does not run. -/
def Member.idle : Member :=
  { st := 0, fifo := [], fade := 0, toIdle := false, level := 0, start := 0, last := [], cont := none, hist := [], fresh := 0 }

/-- A convoy (R159-R167). -/
structure Convoy where
  lockstep : Bool
  pendMode : Option Bool
  index : Nat
  /-- Reads of the present index made by the members, bit n for member n. -/
  read : Nat
  members : Tbl Member
  /-- Samples held for members that no swap has added yet: member number, port, sub-index and channels (R80, R165). -/
  early : List ((Nat × Nat × Nat × Nat) × List (List (BitVec 32)))
  /-- Per-context counters by context × 8 + 0 UNDERRUN, 1 OVERFLOW, 2 LATE, 3 BLOCKED, 4 mutes. -/
  counts : Tbl Nat
  /-- Mute ramp of R156: 0 none, 1 ramping in period k of 32, 2 muted until relock. -/
  mute : Nat
  muteK : Nat
  /-- CONVOY_MUTED folding (R167): posted before, mutes since, members to be restored. -/
  posted : Bool
  folded : Nat
  toRestore : Nat
  deriving DecidableEq, Repr

/-- A convoy that no swap has added. -/
def Convoy.absent : Convoy :=
  { lockstep := false, pendMode := none, index := 0, read := 0, members := [], early := [], counts := [], mute := 0,
    muteK := 0, posted := false, folded := 0, toRestore := 0 }

/-- Clock generation, domains, rate stage and convoys (chapter 7). -/
structure ClockState where
  mclk : Bool
  lost : Bool
  pll48 : Pll
  pll44 : Pll
  domains : Tbl Domain
  convoys : Tbl Convoy
  deriving DecidableEq, Repr

/-! ## Capture -/

/-- A capture channel (R168-R193). -/
structure Capture where
  pga : Nat
  pgaTarget : Nat
  pgaPending : Option Nat
  dcb : Nat
  hostFreeze : Bool
  relayFreeze : Bool
  /-- Settings that the next tick applies: DCB code and host freeze (R186), trim (R190). -/
  dcbPending : Option (Nat × Bool)
  trim : Int
  trimOld : Int
  trimK : Nat
  trimPending : Option Int
  /-- The DC estimate (R186): a fabric word with 16 more fraction bits, 48 bits in all, as a signed number. -/
  e : Int
  /-- Why it delivers 0: bit 0 chain restart (R185), bit 1 PDM wake (R189), bit 2 mic bias settle (R174);
  then a fade-in of 64 periods, period k. -/
  silent : Nat
  /-- Periods since the chain restarted. -/
  restartK : Nat
  /-- A PDM channel's samples before its delay equaliser, newest first (R188, R190). -/
  hist : List (BitVec 32)
  fadeK : Nat
  overload : Nat
  overloadFold : Nat
  overloadPosted : Bool
  /-- Threshold detector (R192): armed, below side, level in 0.01 dBFS, hold in ms, run in blocks. -/
  armed : Bool
  below : Bool
  level : Int
  hold : Nat
  run : Nat
  deriving DecidableEq, Repr

/-- A channel at reset: disabled, settings 0, not fading. -/
def Capture.reset : Capture :=
  { pga := 0, pgaTarget := 0, pgaPending := none, dcb := 0, hostFreeze := false, relayFreeze := false,
    dcbPending := none, trim := 0, trimOld := 0, trimK := 0, trimPending := none, e := 0, silent := 0, restartK := 0, hist := [],
    fadeK := 64, overload := 0, overloadFold := 0, overloadPosted := false, armed := false, below := false,
    level := 0, hold := 0, run := 0 }

/-- A mic bias output (R173-R175): state of Table 8-11, code, faults since reset, on before a VAUX reset. -/
structure MicBias where
  st : Nat
  code : Nat
  faults : Nat
  wasOn : Bool
  /-- Less than 25 ms since it was enabled, or started again (R174). -/
  settling : Bool
  deriving DecidableEq, Repr

/-- A modulator (R176, R182): corrections, retired, whether a VREFCAL calibration has run, and whether a delay
correction has been estimated; before that the factory figures stand. -/
structure Modulator where
  gain : Int
  offset : Int
  delay : Int
  retired : Bool
  calibrated : Bool
  delaySet : Bool
  /-- Gain and offset of its VREFCAL calibration (R181). -/
  calGain : Int
  calOffset : Int
  /-- Its chain's samples after the correction stage, newest first (R168). -/
  hist : List (BitVec 32)
  deriving DecidableEq, Repr

/-- Work that beat 9 of a relay step applies (Table 8-5). -/
inductive RelayQueued where
  | suspend (input : Nat) (on : Bool) (w : Waiter)
  | dcb (input code : Nat) (freeze : Bool) (w : Waiter)
  | trim (input : Nat) (t : Int) (w : Waiter)
  deriving DecidableEq, Repr

/-- Relay calibration (R177-R183). Beat 0 is no step. -/
structure Relay where
  rotating : Bool
  stopped : Bool
  trigger : Nat
  input : Nat
  beat : Nat
  restarts : Nat
  failures : Nat
  stepsDone : Nat
  /-- Inputs still to come in this rotation; resume at beat 3 (the relief keeps its calibration). -/
  todo : List Nat
  calibratedRelief : Bool
  /-- SHELTER ended the step; the rotation resumes with this input. -/
  held : Bool
  relief : Option Nat
  /-- Modulator serving each input (R176). -/
  map : Tbl Nat
  suspended : Nat
  queued : List RelayQueued
  rotations : Nat
  early : Nat
  startTemp : Int
  started : Bool
  crossK : Nat
  /-- The settle of beat 3 leads back to the verify window (Table 8-5). -/
  toVerify : Bool
  /-- Difference of the last verify window, 0.01 dBFS (RELAY_STEP_DONE). -/
  verify : Int
  deriving DecidableEq, Repr

/-- Capture (chapter 8). -/
structure CaptureState where
  chans : Tbl Capture
  micA : MicBias
  micB : MicBias
  mods : Tbl Modulator
  relay : Relay
  /-- The self-test has armed the detector of M8's chain (R381). -/
  reliefArmed : Bool
  deriving DecidableEq, Repr

/-! ## Outputs and jacks -/

/-- An output (R201, Table 9-4): its state, and its gate as a gain slot that ramps to mute or unity. -/
structure Output where
  st : Nat
  enabled : Bool
  gate : Slot
  /-- What follows when the gate reaches mute: 0 MUTED, 1 CLAMPED, 2 FAULT, 3 reclassify, 4 a load's
  swap, 5 MUTED where a load waits for it too (SHELTER). -/
  after : Nat
  /-- Enable or disable that the next tick takes up (R205). -/
  pending : Option Bool
  /-- The ramp the next tick starts: to unity, its time in ms (tenths), and the cause. -/
  rampPending : Option (Bool × Nat)
  /-- Cause that OUTPUT_STATE gives for the change under way (Table 9-15). -/
  cause : Nat
  log : Nat
  awaiting : Bool
  /-- It played, came up or was being restored when SHELTER began, and comes back over the restore ramp (R210). -/
  resumes : Bool
  /-- HP and LOUT: drivers running unclamped. SPK: switching. -/
  driving : Bool
  lastFault : Nat
  faults : Nat
  residual : Int
  deriving DecidableEq, Repr

/-- An output in its power-up state (R203): CLAMPED with the gate at mute. -/
def Output.reset : Output :=
  { st := 0, enabled := false, gate := Slot.reset, after := 0, pending := none, rampPending := none,
    cause := 0, log := 0, awaiting := false, resumes := false, driving := false, lastFault := 0, faults := 0, residual := 0 }

/-- A jack (R217, Table 9-10). -/
structure Jack where
  st : Nat
  class_ : Nat
  held : Nat
  /-- The class held before belongs to a removal not yet reported (R219), or to a reclassification. -/
  returning : Bool
  present : Bool
  pole : Nat
  /-- Beat of Table 9-11: 0 none, 2 waiting for AUX15, 3 tip, 5 CTIA, 6 OMTP. -/
  beat : Nat
  zt : Nat
  va : Nat
  vb : Nat
  /-- Who waits for a reclassification. -/
  reclassify : List Waiter
  button : Nat
  cand : Nat
  candMs : Nat
  pressedMs : Nat
  /-- Scans outside the pressed window since the first of them. -/
  outMs : Nat
  debounceMs : Nat
  u0 : Nat
  u1 : Nat
  u2 : Nat
  u3 : Nat
  insertions : Nat
  deriving DecidableEq, Repr

/-- An empty jack. -/
def Jack.empty : Jack :=
  { st := 0, class_ := 0, held := 0, returning := false, present := false, pole := 0, beat := 0, zt := 0,
    va := 0, vb := 0, reclassify := [], button := 0xFF, cand := 0xFF, candMs := 0, pressedMs := 0,
    outMs := 0, debounceMs := 0, u0 := 0, u1 := 0, u2 := 0, u3 := 0, insertions := 0 }

/-- Outputs, pop suppression and jacks (chapter 9). -/
structure OutputState where
  outs : Tbl Output
  autoRestore : Bool
  pump : Bool
  /-- SPK protection: foldback in 0.01 dB, the over-currents of the last 10 s, oldest first, kept as engine faults are,
  latched, lockout of L and R, restart after over-temperature, and the restart timer running. -/
  foldback : Nat
  overcurrents : List (Nat × Bool)
  latched : Bool
  lockL : Bool
  lockR : Bool
  overTemp : Bool
  restartWait : Bool
  /-- Each channel of SPK has its own gate on top of the output's, for its rail's lockout (R212), and a ramp of it to
  unity that the next tick starts. -/
  gateL : Slot
  gateR : Slot
  riseL : Bool
  riseR : Bool
  jackA : Jack
  jackB : Jack
  deriving DecidableEq, Repr

/-! ## Serial audio and S/PDIF -/

/-- An SAI port (R230-R233): 0 disabled, 1 starting, 2 running, 3 CLOCK_LOST. -/
structure Sai where
  st : Nat
  txMask : Nat
  rxMask : Nat
  shadowTx : Nat
  shadowRx : Nat
  /-- A command has written the shadow masks and no tick has latched it. -/
  commit : Bool
  /-- Masks, transmit and receive, in transfer into the BCLK domain; transferred and due at the next frame-start edge;
  transferred too late for that edge and due at the one after it. -/
  moving : Option (Nat × Nat)
  dueNow : Option (Nat × Nat)
  dueLater : Option (Nat × Nat)
  /-- Per-context counters by context × 2 + 0 SYNC_ERROR, 1 clock losses. -/
  counts : Tbl Nat
  errFold : Nat
  errPosted : Bool
  /-- The word of each slot of the frame being sent; none where DO is released (R229, R231). -/
  sent : List (Option (BitVec 32))
  /-- Output pins: 0 high-impedance, 1 driven, 2 held low (R223, Table 10-9). -/
  drive : Nat
  /-- FD role, starting: a tick has come (R234). CLOCK_LOST: a frame-start edge has come since BCLK returned (R233). -/
  ticked : Bool
  resync : Bool
  deriving DecidableEq, Repr

/-- A disabled port. -/
def Sai.off : Sai :=
  { st := 0, txMask := 0, rxMask := 0, shadowTx := 0, shadowRx := 0, commit := false, moving := none,
    dueNow := none, dueLater := none, counts := [], errFold := 0, errPosted := false, sent := [], drive := 0, ticked := false, resync := false }

/-- A channel of the S/PDIF receiver (R238, R239). -/
structure SpdifChan where
  lastValid : BitVec 24
  previous : BitVec 24
  /-- Successive invalid samples; ramp: 0 none, 1 to mute, 2 muted, 3 to unity; its sample k. -/
  invalid : Nat
  ramp : Nat
  k : Nat
  /-- The ramp's factor in the last sample, and the one it started from. -/
  level : BitVec 32
  start : BitVec 32
  out : BitVec 32
  /-- The subframe that waits for the one that follows it (R238): audio, V, parity good. -/
  held : Option (BitVec 24 × Bool × Bool)
  deriving DecidableEq, Repr

/-- A channel that has received nothing. -/
def SpdifChan.reset : SpdifChan :=
  { lastValid := 0, previous := 0, invalid := 0, ramp := 0, k := 0, level := 0x08000000, start := 0x08000000,
    out := 0, held := none }

/-- The S/PDIF receiver and transmitter (R236-R245). -/
structure Spdif where
  rxState : Nat
  rxRate : Nat
  validity : Nat
  validityTx : Nat
  lossCause : Nat
  chanA : SpdifChan
  chanB : SpdifChan
  nonPcm : Bool
  /-- The cause of SPDIF_NONPCM: 1 channel-status bit 1, 2 sync words. -/
  nonPcmCause : Nat
  sawPa : Bool
  framesSincePa : Nat
  /-- C and U bits of the block being received, per channel, newest last, and an error in it. -/
  cA : List Bool
  cB : List Bool
  uA : List Bool
  uB : List Bool
  blockBad : Bool
  storedCA : List Byte
  storedCB : List Byte
  storedUA : List Byte
  storedUB : List Byte
  stored : Nat
  csPosted : Bool
  /-- Per-context counters by context × 8 + 0 PARITY, 1 biphase, 2 losses, 3 INVALID, 4 discarded. -/
  counts : Tbl Nat
  writtenCA : List Byte
  writtenCB : List Byte
  writtenUA : List Byte
  writtenUB : List Byte
  sentCA : List Byte
  sentCB : List Byte
  sentUA : List Byte
  sentUB : List Byte
  sent : Nat
  /-- The last locked rate since the port was enabled (R244), and whether DIRECT copies. -/
  lastRate : Option Nat
  copying : Bool
  /-- Subframes copied by DIRECT: audio, V, U, C of the last; none while DIRECT sends zero samples. -/
  direct : Option (BitVec 24 × Bool × Bool × Bool)
  /-- Biphase errors of the block in progress (R236). -/
  biphase : Nat
  /-- A lock at another rate asks for a change of the domain's rate (R237). -/
  autoDue : Bool
  /-- SPDIF_OUT: 0 high-impedance, 1 driven, 2 held low (R223, Table 10-9). -/
  drive : Nat
  /-- The transmitter has started at a B preamble (R234). -/
  txStarted : Bool
  /-- The last frame sent that is not copied: audio fields in bits 4 to 27 and V (R242 to R244). -/
  frame : Option (List (BitVec 24) × Bool)
  deriving DecidableEq, Repr

/-- Serial audio (chapter 10). -/
structure SerialState where
  sais : Tbl Sai
  spdif : Spdif
  deriving DecidableEq, Repr

/-! ## USB -/

/-- A streaming interface of a USB port (R261, R264, R265). -/
structure UsbStream where
  alt : Nat
  /-- Last F (16.16), the updates of it since the setting began, and the capture accumulator in 1/8,000 samples. -/
  f : Nat
  ms : Nat
  acc : Nat
  sent : Nat
  /-- The overlay of the setting has been taken out of service: data is discarded until the next SET_INTERFACE (R261). -/
  discard : Bool
  deriving DecidableEq, Repr

/-- An interface at setting 0. -/
def UsbStream.zero : UsbStream := { alt := 0, f := 0, ms := 0, acc := 0, sent := 0, discard := false }

/-- A feature-unit control (R266): volume in 1/256 dB, mute. -/
structure Feature where
  volume : Int
  mute : Bool
  deriving DecidableEq, Repr

/-- A request that the CP is to execute, held while it does not run (R255). -/
inductive UsbHeld where
  | setConfiguration (cfg : Byte)
  | setInterface (ifc alt : Byte)
  | frequency (entity : Byte) (hz : Nat)
  | feature (unit channel : Byte) (isMute : Bool) (value : BitVec 16)
  | classRequest (get : Bool) (request : Byte) (value index length : BitVec 16)
  | dfuDetach
  | dfuDnload (block : Nat) (data : List Byte)
  | dfuAbort
  | dfuClrstatus
  deriving DecidableEq, Repr

/-- A USB port (chapter 11). -/
structure Usb where
  vbus : Bool
  /-- 0 detached, 1 attached, 2 configured, 3 suspended, 4 DFU mode (Table 11-8). -/
  st : Nat
  before : Nat
  speed : Nat
  link : Nat
  cfg : Nat
  addr : Nat
  streams : Tbl UsbStream
  wakeEnabled : Bool
  wakeSignalled : Bool
  /-- A wake condition of R253 has come and has not been signalled. -/
  wakeDue : Bool
  byCommand : Bool
  reconnect : Bool
  hid : Nat
  reports : List Nat
  /-- DFU: detach accepted, bStatus, whether the port is in DFU mode, manifested, and bState. -/
  detach : Bool
  dfuStatus : Nat
  dfuMode : Bool
  manifested : Bool
  dfuState : Nat
  features : Tbl Feature
  halted : Nat
  delay : Nat
  /-- Per-context counters by context × 4 + 0 bus resets, 1 lost packets, 2 stalled requests. -/
  counts : Tbl Nat
  /-- The last control request: 0 completed, 1 stalled, 2 NAKed, and its data stage. -/
  handshake : Nat
  dataStage : List Byte
  /-- The request that is NAKed until the CP executes it. -/
  waiting : Option UsbHeld
  /-- The interface of the last Function Wake device notification (R253). -/
  functionWake : Option Nat
  deriving DecidableEq, Repr

/-- A detached port. -/
def Usb.reset : Usb :=
  { vbus := false, st := 0, before := 0, speed := 0, link := 0, cfg := 0, addr := 0, streams := [],
    wakeEnabled := false, wakeSignalled := false, wakeDue := false, byCommand := false, reconnect := false, hid := 0,
    reports := [], detach := false, dfuStatus := 0, dfuMode := false, manifested := false, dfuState := 0,
    features := [], halted := 0, delay := 0, counts := [], handshake := 0, dataStage := [],
    waiting := none, functionWake := none }

/-! ## Network -/

/-- A frame waiting in a transmit queue (R286, R289): its bytes without FCS, and its presentation time. -/
structure TxFrame where
  bytes : List Byte
  tagged : Bool
  /-- 0 gPTP, 1 MSRP, ADP, ACMP, AECP, 2 stream or CRF. -/
  kind : Nat
  /-- The talker it belongs to, 64 the CRF talker, 0xFF none. -/
  stream : Nat
  time : Nat
  deriving DecidableEq, Repr

/-- The MAC (chapter 12). -/
structure Mac where
  /-- 0 DOWN, 1 NEGOTIATING, 2 UP. -/
  link : Nat
  downCause : Nat
  partner : Nat
  ups : Nat
  downs : Nat
  phyReleased : Bool
  pause : Bool
  pauseQuanta : Nat
  pausePosted : Bool
  /-- Counters by group × 16 + index, HALF bytes likewise (R294, R295). -/
  counts : Tbl Nat
  halves : Tbl Nat
  /-- Counters marked in the fold of each group, and whether a fold runs. -/
  folds : Tbl Nat
  folding : Tbl Nat
  queueA : List TxFrame
  queueB : List TxFrame
  queueC : List TxFrame
  /-- Credit of queues A and B in 10⁻¹⁰ bit (R311); which queue sent last, 0 none or C, 1 A, 2 B, and how long its frame
  takes, in 0.1 ns. -/
  creditA : Int
  creditB : Int
  sending : Nat
  sendTime : Nat
  /-- The frame sent last. -/
  wire : List Byte
  /-- The receive FIFO (R285): frames that have been counted and wait for their delivery, each with its gPTP time. -/
  rxFifo : List (List Byte × Nat)
  mdio : Option (Waiter × Issue × List Byte)
  deriving DecidableEq, Repr

/-- gPTP (R297-R302). -/
structure Gptp where
  st : Nat
  asCapable : Bool
  good : Nat
  bad : Nat
  priority1 : Nat
  priority2 : Nat
  asymmetry : Int
  gm : BitVec 64
  gmVector : Nat
  steps : Nat
  offset : Int
  delay : Nat
  time : Nat
  qualify : Nat
  timeouts : Nat
  stepCount : Nat
  /-- The next offset is the first against a new grandmaster (R301). -/
  firstOffset : Bool
  /-- A grandmaster is known from Announce messages, and they are still expected. -/
  announces : Bool
  /-- Fabric periods since the last Sync that the part sent, and Syncs since its last Announce (Table 13-1). -/
  syncAge : Nat
  syncs : Nat
  deriving DecidableEq, Repr

/-- A stream (R303-R317), talkers 0 to 31 and listeners 32 to 63. -/
structure Stream where
  st : Nat
  connected : Bool
  byCommand : Bool
  acmp : Nat
  streamId : BitVec 64
  dest : BitVec 48
  pto : Nat
  pendPto : Option Nat
  seq : Nat
  /-- Sequence number expected next by a listener, and a frame since ALIGNING (R308). -/
  expected : Option Nat
  mr : Option Bool
  toggle : Bool
  /-- Samples that a talker's member has given and no block has taken, oldest first (R306). -/
  block : List (List (BitVec 32))
  /-- Fabric periods since a CRF listener accepted a frame. -/
  quiet : Nat
  waiters : List Waiter
  cause : Nat
  /-- Log number of the command that connects it (R37). -/
  log : Nat
  /-- Per-context counters by context × 8 + 0 frames, 1 FORMAT_MISMATCH, 2 SEQ_GAP, 3 UNSYNC,
  4 MR_RESTART. -/
  counts : Tbl Nat
  fmtFold : Nat
  fmtPosted : Bool
  deriving DecidableEq, Repr

/-- A disconnected stream. -/
def Stream.off : Stream :=
  { st := 0, connected := false, byCommand := false, acmp := 0, streamId := 0, dest := 0, pto := 0xFFFFFFFF,
    pendPto := none, seq := 0, expected := none, mr := none, toggle := false, block := [], quiet := 0, waiters := [], cause := 0, log := 0, counts := [],
    fmtFold := 0, fmtPosted := false }

/-- A discovery entry (R319). -/
structure Disc where
  e : DiscEntry
  deriving DecidableEq, Repr

/-- A controller's stored AECP state (R322, R323). -/
structure Aecp where
  controller : BitVec 64
  lastSeq : Option (BitVec 16)
  response : List Byte
  assembly : List Byte
  frags : Nat
  reply : List Byte
  deriving DecidableEq, Repr

/-- A declaration of the part (R313, R314): a Domain of a class, and the attributes of its talkers and listeners with what R311
and R314 put into them. -/
inductive Declaration where
  | domain (classId prio vid : Nat)
  | talkerAdvertise (id : BitVec 64) (dest : BitVec 48) (vid prio maxFrame frames : Nat)
  | talkerFailed (id : BitVec 64) (dest : BitVec 48) (vid prio maxFrame frames code : Nat)
  | listenerReady (id : BitVec 64)
  | listenerAskingFailed (id : BitVec 64)
  deriving DecidableEq, Repr

/-- What of the network waits for the CP (R322, Table 18-7). -/
inductive NetHeld where
  | aem (controller : BitVec 64) (seq : BitVec 16) (cmd : AemCommand)
  | acmp (kind stream : Nat) (streamId : BitVec 64) (dest : BitVec 48) (controller : BitVec 64)
  | adp (departing : Bool) (e : DiscEntry)
  | advertise
  deriving DecidableEq, Repr

/-- Network time, streams and discovery (chapter 13). -/
structure NetState where
  mac : Mac
  gptp : Gptp
  streams : Tbl Stream
  /-- CRF talker 0 and listeners 1 and 2. -/
  crfs : Tbl Stream
  /-- Priority and VID in force of classes A and B, and boundaries (R310, R313). -/
  prioA : Nat
  prioB : Nat
  vidA : Nat
  vidB : Nat
  boundA : Bool
  boundB : Bool
  disc : List Disc
  discFull : Nat
  discFullFold : Nat
  discFullPosted : Bool
  discAdded : Nat
  discRemoved : Nat
  discPosted : Bool
  available : Nat
  aecp : List Aecp
  /-- AEM ACQUIRE and LOCK while H4 is closed (R321), and registered controllers. -/
  acquired : Option (BitVec 64)
  locked : Option (BitVec 64)
  unsolicited : List (BitVec 64)
  /-- Registered for a stream_id: 0 Talker Advertise, 1 Talker Failed, 2 Listener Ready, 3 Ready Failed, 4 Asking
  Failed; and for the Domains of classes A and B, 5 and 6 with stream_id 0. Those that a Leave has begun to end. -/
  regs : List (Nat × BitVec 64)
  leaving : List (Nat × BitVec 64)
  /-- What the part's MSRP frames have declared last (R313, R314). -/
  declared : List Declaration
  /-- What waits for the CP, oldest first (R322, Table 18-7). -/
  waiting : List NetHeld
  deriving DecidableEq, Repr

/-! ## Auxiliary DAC -/

/-- A channel of the auxiliary DAC (R326-R340). -/
structure Aux where
  enabled : Bool
  driving : Bool
  /-- An enable or disable that the next TMR0 tick takes up (R338). -/
  pendEnable : Option Bool
  range : Nat
  pendRange : Option Nat
  timer : Nat
  slew : Nat
  present : Nat
  target : Nat
  shadow : Option Nat
  /-- The hold driver is in force, with the range to come and its converted codes. -/
  hold : Option (Nat × Nat × Nat)
  deriving DecidableEq, Repr

/-- A channel at reset (R338): off, code 0, RANGE 0, TMR0. -/
def Aux.reset : Aux :=
  { enabled := false, driving := false, pendEnable := none, range := 0, pendRange := none, timer := 0,
    slew := 0, present := 0, target := 0, shadow := none, hold := none }

/-- A queue of AUX10, AUX11 or AUX15 (R333-R336). -/
structure AuxQueue where
  running : Bool
  cycle : Bool
  source : Nat
  n : Nat
  lowMark : Nat
  entries : List Nat
  pos : Nat
  /-- Fabric ticks that its divider has counted since its last pace tick (R333). -/
  ticks : Nat
  underrunPosted : Bool
  /-- UNDERRUN per context. -/
  counts : Tbl Nat
  deriving DecidableEq, Repr

/-- A queue at reset: stopped and empty. -/
def AuxQueue.reset : AuxQueue :=
  { running := false, cycle := false, source := 1, n := 16, lowMark := 0, entries := [], pos := 0,
    ticks := 0, underrunPosted := false, counts := [] }

/-- The auxiliary DAC (chapter 14). -/
structure AuxState where
  chans : Tbl Aux
  queues : Tbl AuxQueue
  /-- Source (0 OFF, 1 aux clock, 2 fabric tick) and N of TMR1 to TMR3. -/
  timers : Tbl (Nat × Nat)
  /-- Fabric ticks that each of them has counted since its last tick (R332). -/
  timerCounts : Tbl Nat
  muxA : Nat
  muxB : Nat
  /-- VAUX below warning or below reset, and a fault that makes the channels off (R339, R340). -/
  vauxLow : Bool
  vauxReset : Bool
  fault : Bool
  /-- Channels that AUX_FAULT has reported as made off and not yet as recovered. -/
  offMask : Nat
  deriving DecidableEq, Repr

/-! ## Measurement converters -/

/-- A result record (R353, Table 15-5). -/
structure MRecord where
  channel : Nat
  source : Nat
  code : Int
  value : Int
  stamp : Nat
  offset : Nat
  flags : Nat
  index : Nat
  deriving DecidableEq, Repr

/-- A conversion in progress (R353): its source code, channel and index, the period of its acquisition, whether
the tick stood then, whether its record carries OVERRUN, and whether the run that started it goes on (R350). -/
structure Conversion where
  source : Nat
  channel : Nat
  index : Nat
  stamp : Nat
  stopped : Bool
  overrun : Bool
  live : Bool
  deriving DecidableEq, Repr

/-- A converter: 0 running, 2 SUSPECT, 3 FAILED; its calibration, and the conversion in progress. -/
structure Sar where
  st : Nat
  calRequested : Bool
  calRunning : Bool
  /-- A calibration has ended since reset (R356). -/
  calOnce : Bool
  calFor : List Waiter
  restarts : Nat
  gain : Int
  offset : Int
  calTemp : Int
  diff : Int
  busy : Option Conversion
  deriving DecidableEq, Repr

/-- A converter in service. -/
def Sar.reset : Sar :=
  { st := 0, calRequested := false, calRunning := false, calOnce := false, calFor := [], restarts := 0, gain := 0, offset := 0,
    calTemp := 0, diff := 0, busy := none }

/-- An injected sequence (R349, R350). -/
structure Inj where
  conv : Nat
  channels : List Nat
  source : Nat
  notify : Bool
  armed : Bool
  overrun : Bool
  pending : List MRecord
  results : List MRecord
  completions : Nat
  doneFold : Nat
  donePosted : Bool
  deriving DecidableEq, Repr

/-- A sequence that nothing has defined. -/
def Inj.reset : Inj :=
  { conv := 0, channels := [], source := 7, notify := false, armed := false, overrun := false, pending := [],
    results := [], completions := 0, doneFold := 0, donePosted := false }

/-- The measurement converters (chapter 15). -/
structure MeasState where
  ma : Sar
  mb : Sar
  /-- Host scan: mask, source, interval, 0 stopped 1 armed 2 running, buffer, channels left, the OVERRUN flags of the
  next scan's first record and of the running scan's, a trigger that waits. -/
  mask : Nat
  source : Nat
  interval : Nat
  scan : Nat
  single : Bool
  buffer : List MRecord
  left : List Nat
  scanIndex : Nat
  scanOverrun : Bool
  scanMark : Bool
  scanWaits : Bool
  /-- An injected trigger has paused the host scan, the system sequence in progress (R349). -/
  scanPaused : Bool
  sysPaused : Bool
  /-- The injected sequence that runs, with channels left. -/
  running : Option Nat
  injLeft : List Nat
  injIndex : Nat
  injs : Tbl Inj
  /-- Paired block: pairs left, and a pair owed before the next injected sequence starts. -/
  pairs : List Nat
  owed : Bool
  /-- System sequences that wait (Table 15-3, 0 to 6), and the one in progress as its number plus 1, with the
  channels left. -/
  systems : List Nat
  sysLeft : List Nat
  sysKind : Nat
  sysIndex : Nat
  latest : Tbl MRecord
  /-- The latest record of each channel that the housekeeping sequence gave (R385). -/
  house : Tbl MRecord
  /-- Successive differences beyond the limit; the difference of the last sequence in codes, and the converters that its
  check fails, bit 0 MA and bit 1 MB; and a plausibility sequence that waits for its evaluation. -/
  plausFails : Nat
  plausDiff : Int
  plausBad : Nat
  plausCheck : Bool
  /-- A plausibility comparison has been evaluated since reset (R381). -/
  plausOnce : Bool
  /-- Per-context counters by context × 8 + 0 REG_OVERRUN, 1-4 INJ_OVERRUN, 5 PAIRED_LATE, 6 CAL_ABORTED,
  7 SCAN_LOST. -/
  counts : Tbl Nat
  overFold : Tbl Nat
  overPosted : Tbl Nat
  lostFold : Nat
  lostPosted : Bool
  /-- The measurement tracker is locked; the exposed channels' fade, 0 to 32 periods (R355). -/
  trackerLocked : Bool
  fade : Nat
  /-- Boundary FIFOs of the exposed channels, 0 to 9 in the order of Table 15-6, oldest word first, and the words that
  have entered their rate-stage channels, newest first (R355). -/
  expoFifo : Tbl (List (BitVec 32))
  expoHist : Tbl (List (BitVec 32))
  deriving DecidableEq, Repr

/-! ## Power -/

/-- The device states (Table 16-5). -/
inductive Dev where
  | off | por | loader | harbour | boot | active | doze | sleep | test | recovery
  deriving DecidableEq, Repr

/-- A requested transition that waits (R375): the target code of Table 16-11 and its command. -/
structure Transition where
  target : Nat
  waiter : Waiter
  /-- Loads in progress and queued at the commit, and SWAP_COUNT then (R375). -/
  loads : Nat
  swaps : Nat
  /-- Output mutes have started (R376, R377). -/
  muting : Bool
  deriving DecidableEq, Repr

/-- Power, supervision and start-up (chapter 16). -/
structure PowerState where
  dev : Dev
  shelter : Bool
  /-- A warning holds on AVDD18, VIN12. -/
  warnAvdd : Bool
  warnVin : Bool
  /-- It warned in the present shelter. -/
  sawAvdd : Bool
  sawVin : Bool
  warnCounts : Tbl Nat
  /-- BROWNOUT_WARN of SLEEP, posted at the wake: rail and DATA (R373). -/
  unposted : List (Nat × Nat)
  cause : Nat
  wake : Nat
  /-- Watchdog resets counted in retained RAM, and that this start has spent 10 s in ACTIVE or TEST (R366). -/
  watchdog : Nat
  settled : Bool
  compat : Bool
  testEn : Bool
  bankA33 : Bool
  bankB33 : Bool
  /-- IOVDD_B and VUSB33 are present (R362, R363). -/
  ioB : Bool
  vusb : Bool
  refChosen : Bool
  selfTest : Nat
  failedChains : Nat
  /-- The start-up self-test has ended (R381). -/
  selfTested : Bool
  bootUs : Nat
  thermalWarn : Bool
  thermalShut : Bool
  /-- VCORE code, (V − 0.72 V) / 10 mV (R367). -/
  vcore : Nat
  transition : Option Transition
  harbourCause : Nat
  /-- A RESET command has been answered and resets the part (R41), or an activation in HARBOUR does (R431): its
  cause is not stated. -/
  resetDue : Bool
  resetOther : Bool
  deriving DecidableEq, Repr

/-! ## Margin and hull log -/

/-- A hull-log record (R395, Table 17-5). Its CRC stands as whether it passes (R398). -/
structure HullRecord where
  whole : Bool
  kind : Nat
  flags : Nat
  vcore : Nat
  limit : Nat
  endHour : Nat
  siMin : Nat
  siMean : Nat
  marginMin : Nat
  tjMax : Int
  tjMean : Int
  stress : Nat
  brown : Nat × Nat × Nat
  overrun : Nat
  monitored : Nat
  deriving DecidableEq, Repr

/-- The span being accounted for the next hourly record. -/
structure HullSpan where
  intervals : Nat
  flags : Nat
  vcore : Nat
  limit : Nat
  siMin : Nat
  siSum : Nat
  marginMin : Nat
  tjMax : Int
  tjSum : Int
  stress : Nat
  brown : Nat × Nat × Nat
  overrun : Nat
  deriving DecidableEq, Repr

/-- A span at its start. -/
def HullSpan.start : HullSpan :=
  { intervals := 0, flags := 0, vcore := 0, limit := 0, siMin := 0xFFFF, siSum := 0, marginMin := 0xFFFF,
    tjMax := -400, tjSum := 0, stress := 0, brown := (0, 0, 0), overrun := 0 }

/-- The lifetime figures as the summary copy in force holds them (R395, R396): after a power loss they are all
that is left. The VCORE is that in force at the write. -/
structure HullStored where
  seq : Nat
  hours : Nat
  stress : Nat
  brownCounts : Tbl Nat
  vcore : Nat
  replanFlag : Option Nat
  horizon : Nat
  erases : Tbl Nat
  deriving DecidableEq, Repr

/-- The end-of-life prediction (R399, HULL_PREDICT of Table 17-6). -/
structure Prediction where
  st : Nat
  points : Nat
  hour : Nat
  early : Nat
  late : Nat
  n : Nat
  sigma : Nat
  tp : Int
  target : Nat
  deriving DecidableEq, Repr

/-- The speed margin and the hull log (chapter 17). -/
structure HullState where
  /-- SI of the monitors in the last 10 intervals, newest first, 0.1 M ops/s; the window margin at the end of
  the last of them, 0.001, and its limiting monitor (R387, R388). -/
  sis : List (List Nat)
  window : Nat
  limiting : Nat
  vcoreMv : Nat
  /-- Intervals since the last VCORE step, since the window margin was below 1.45, below 1.15. -/
  sinceStep : Nat
  since145 : Nat
  since115 : Nat
  replanPosted : Bool
  replanDue : Bool
  /-- Intervals since the last SPEED_RISK. -/
  sinceRisk : Nat
  riskCount : Nat
  riskMin : Nat
  since102 : Nat
  /-- Smallest 1 ms margin since each context's last SPEED_STATUS. -/
  smallest : Tbl Nat
  /-- Summary (R396): hours, and class-D stress in µA·ms at 85 °C. -/
  hours : Nat
  stress : Nat
  stressPosted : Nat
  brownCounts : Tbl Nat
  /-- The two summary copies; none where a copy fails its CRC (R394, R398). -/
  sumA : Option HullStored
  sumB : Option HullStored
  replanFlag : Option Nat
  horizon : Nat
  restarted : Bool
  /-- Erase counts by sector, and the level of NVM_WEAR posted by region. -/
  erases : Tbl Nat
  wearPosted : Tbl Nat
  /-- The rings, newest first, and the place of the next record of each kind (Table 17-4). -/
  ringPlaces : Tbl Nat
  hourly : List HullRecord
  daily : List HullRecord
  weekly : List HullRecord
  sinceDaily : Nat
  sinceWeekly : Nat
  span : HullSpan
  prediction : Prediction
  horizonArmed : Bool
  /-- A recomputation of the prediction is due (R399). -/
  predictDue : Bool
  deriving DecidableEq, Repr

/-! ## Firmware and settings -/

/-- The firmware image region (R406, R414). The image programmed at manufacture is held as `factory`:
its bytes are not the model's, and it passes its own checks. -/
structure Image where
  factory : Bool
  /-- Block 0 and the later blocks as written, by block number. -/
  blocks : Tbl (List Byte)
  dlDone : Bool
  verified : Bool
  confirmed : Bool
  aborted : Bool
  deriving DecidableEq, Repr

/-- The header fields of the image that runs (Table 18-3). -/
structure ImageInfo where
  fwVersion : Nat
  security : Nat
  keySlot : Nat
  reloadNow : Nat
  chartMin : Nat
  chartMax : Nat
  settingsFormat : Nat
  settingsMin : Nat
  gangwayFormat : Nat
  gangwayMin : Nat
  revoke : Nat
  deriving DecidableEq, Repr

/-- Who waits for a write or a verification, and how it hears of the end: nobody, a context by COMMAND_DONE, a
context by the reply to its command (R401, R431), or a USB port in DFU mode (R432). -/
inductive Asker where
  | own
  | host (w : Waiter)
  | reply (o : Issue) (opcode log : Nat)
  | dfu (port : Nat)
  deriving DecidableEq, Repr

/-- A complete block that awaits its write (R413). -/
structure FwJob where
  block : Nat
  bytes : List Byte
  asker : Asker
  deriving DecidableEq, Repr

/-- The update session (R411, Table 18-4). -/
structure Session where
  st : Nat
  owner : Option Ctx
  header : List Byte
  /-- Chunks collected, by block × 8 + chunk. -/
  chunks : Tbl (List Byte)
  written : List Nat
  jobs : List FwJob
  firstBad : Nat
  verifyFor : Asker
  deriving DecidableEq, Repr

/-- A session in IDLE. -/
def Session.idle : Session :=
  { st := 0, owner := none, header := [], chunks := [], written := [], jobs := [], firstBad := 0xFFFF,
    verifyFor := .own }

/-- A settings item (R426): its KIND, INDEX and DATA. -/
structure SettingsItem where
  kind : Nat
  index : Nat
  data : List Byte
  deriving DecidableEq, Repr

/-- A settings copy (R425). -/
structure SettingsCopy where
  valid : Bool
  format : Nat
  sequence : Nat
  chartId : Nat
  items : List SettingsItem
  deriving DecidableEq, Repr

/-- A copy that is absent. -/
def SettingsCopy.absent : SettingsCopy :=
  { valid := false, format := 0, sequence := 0, chartId := 0, items := [] }

/-- A command or an internal write that waits for NVM (R371, R404): what it does when it is done. -/
inductive NvmJob where
  | chartErase (w : Waiter) (slot length : Nat)
  | chartClose (w : Waiter) (slot status : Nat)
  | settingsErase (w : Waiter)
  | settingsSave (w : Waiter) (items : List SettingsItem)
  | confirm (w : Option Waiter) (log : Nat)
  | chartKey (w : Waiter) (x y : Nat)
  | hullSummary (asker : Asker) (horizon : Option Nat)
  | hullRecord (r : HullRecord)
  /-- The loader's and the start's own: VERIFIED, a slot record that is marked invalid, the security counter (R414, R70,
  R408). -/
  | imageVerified
  | slotInvalid (slot : Nat)
  | counter
  deriving DecidableEq, Repr

/-- A step of such a write: the erase of one sector, one row, or the last row of a settings copy, which holds its header. -/
inductive NvmStep where
  | erase (sector : Nat)
  | row
  | save
  deriving DecidableEq, Repr

/-- The gangway block (R420, Table 18-8). -/
structure Gangway where
  format : Nat
  log : Nat
  supervisor : Ctx
  opens : Nat
  levels : Nat
  reduced : Bool
  fromVersion : Nat
  chartId : Nat
  deriving DecidableEq, Repr

/-- Firmware update, settings, keys and NVM (chapter 18). -/
structure FwState where
  image : Image
  running : ImageInfo
  session : Session
  probation : Bool
  healthy : Nat
  suppressed : Bool
  autoConfirm : Bool
  counter : Nat
  counterLeft : Nat
  /-- Vendor key slots: X and Y, or none; revoked slots; the chart key. -/
  keys : Tbl (Nat × Nat)
  revoked : Nat
  chartKey : Option (Nat × Nat)
  copyA : SettingsCopy
  copyB : SettingsCopy
  /-- 0 in force, 1 migrated awaiting confirmation, 2 defaults with a copy retained, 3 defaults. -/
  setState : Nat
  setCopy : Nat
  setSeq : Nat
  applied : Nat
  skipped : Nat
  fallback : Bool
  fallbackCause : Nat
  jobs : List NvmJob
  /-- An activation that waits: who hears of its end, and its log number (R418, R432). -/
  activate : Option (Option Waiter × Nat)
  gangway : Option Gangway
  gangwayOutcome : Nat
  /-- Sequencers that wait to reload (R422), bits as RELOAD_NOW. -/
  reload : Nat
  /-- Firmware version of the code that each sequencer of Table 1-4 runs, 4 the engine loader (R18). -/
  seqCode : Tbl Nat
  /-- Steps left of the oldest job, and whether the first of them is under way (R404). -/
  steps : List NvmStep
  begun : Bool
  deriving DecidableEq, Repr

/-! ## The whole part -/

/-- The KN2560, and the queue of commands that wait, first in, first out. -/
structure State where
  host : HostState
  tw0 : TwPort
  tw1 : TwPort
  cs : ChartState
  eng : EngineState
  par : ParamState
  clk : ClockState
  cap : CaptureState
  out : OutputState
  ser : SerialState
  usbA : Usb
  usbB : Usb
  net : NetState
  aux : AuxState
  meas : MeasState
  pwr : PowerState
  hull : HullState
  fw : FwState
  /-- The counter of free draws (model's own). -/
  free : Nat
  pending : List Instr
  deriving DecidableEq, Repr

/-- Why the block stops. The specification stops it nowhere: a step of the part that cannot come about
changes nothing, so no command raises a fault. -/
inductive Fault where
  /-- Reserved: raised by no command. Safe: nothing ends in it. -/
  | none
  deriving DecidableEq, Repr

/-- Why a command has no meaning. -/
inductive Refusal where
  /-- Raised by exec's arm of a command that has no meaning yet, with its mnemonic. Safe. -/
  | notModelled (mnemonic : String)
  deriving DecidableEq, Repr

/-! ## Reset -/

/-- Host contexts at reset: H0 and H1 open (R22), log 1 (R29), H0 supervisor (R36), IRQ_A to H0 and IRQ_B
to H1 (R40), everything unowned until the chart places the moorings (R32, R35). -/
def HostState.reset : HostState :=
  { ctxs := [(0, { CtxState.closed with isOpen := true }), (1, { CtxState.closed with isOpen := true })],
    log := 1, logWrapped := false, served := 4, supervisor := .h0, owners := [], irqSetA := 1, irqSetB := 2, irqA := false,
    irqB := false, irqHoldA := false, irqHoldB := false, fired := [], absent := false, raised := [],
    raisedLost := 0, late := [], vendor := none, h4Controller := none }

/-- A chart slot that holds nothing: STATE erased. -/
def ChartSlot.erased : ChartSlot := { state := 0xFF, generation := 0, length := 0, bytes := [] }

/-- No chart, no overlay, banks of NOP, the full chart's variant (R83, R104). -/
def ChartState.reset : ChartState :=
  { slotA := ChartSlot.erased, slotB := ChartSlot.erased, chart := none, inUse := 0, overlays := [],
    switches := [], enables := [], reduced := false, change := none, select := none, session := none,
    near := Bank.empty, far := Bank.empty, nearBank := 0, swapCount := 0, load := none, loads := [], follows := [],
    missing := false }

/-- The tick stopped, PERIOD_COUNT 0, berths 0 (R89), counters 0 (R109). -/
def EngineState.reset : EngineState :=
  { ticking := false, halted := false, period := 0, started := false, lanes := [], landing := [],
    working := [], work := [], sinks := [], ramps := [], overruns := 0, overrunLanes := 0,
    overrunAt := none, overrunTotal := 0, ingress := [], faults := [], faultedWords := [] }

/-- Parameters and their kin at 0 (R115, R128, R140). -/
def ParamState.reset : ParamState :=
  { slots := [], sections := [], lines := [], pool := [], limiters := [], protects := [], meters := [],
    clips := [], clipped := [], clipPos := 0 }

/-- Both PLLs FREE, no domain enabled. -/
def ClockState.reset : ClockState :=
  { mclk := false, lost := false, pll48 := Pll.free, pll44 := Pll.free, domains := [], convoys := [] }

/-- A mic bias output that is off. -/
def MicBias.off : MicBias := { st := 0, code := 0, faults := 0, wasOn := false, settling := false }

/-- A modulator with its factory calibration, whose corrections count as 0 here. -/
def Modulator.factory : Modulator :=
  { gain := 0, offset := 0, delay := 0, retired := false, calibrated := false, delaySet := false, calGain := 0,
    calOffset := 0, hist := [] }

/-- Relay calibration at reset (R176): IN k on Mk, M8 the relief. -/
def Relay.reset : Relay :=
  { rotating := false, stopped := false, trigger := 0, input := 0, beat := 0, restarts := 0, failures := 0,
    stepsDone := 0, todo := [], calibratedRelief := false, held := false, relief := some 8,
    map := [(0, 0), (1, 1), (2, 2), (3, 3), (4, 4), (5, 5), (6, 6), (7, 7)], suspended := 0, queued := [],
    rotations := 0, early := 0, startTemp := 0, started := false, crossK := 0, toVerify := false, verify := 0 }

/-- Capture at reset. -/
def CaptureState.reset : CaptureState :=
  { chans := [], micA := MicBias.off, micB := MicBias.off, mods := [], relay := Relay.reset, reliefArmed := false }

/-- Outputs in their power-up states (R203), AUTO_RESTORE set (R210), jacks empty. -/
def OutputState.reset : OutputState :=
  { outs := [], autoRestore := true, pump := false, foldback := 0, overcurrents := [], latched := false,
    lockL := false, lockR := false, overTemp := false, restartWait := false, gateL := Slot.reset, gateR := Slot.reset,
    riseL := false, riseR := false, jackA := Jack.empty, jackB := Jack.empty }

/-- A block of 24 zero bytes (R240, R243). -/
def zeros24 : List Byte := List.replicate 24 0

/-- The S/PDIF receiver without a signal, the transmitter's blocks all zero (R243). -/
def Spdif.reset : Spdif :=
  { rxState := 0, rxRate := 0xFF, validity := 0, validityTx := 0, lossCause := 0, chanA := SpdifChan.reset,
    chanB := SpdifChan.reset, nonPcm := false, nonPcmCause := 0, sawPa := false, framesSincePa := 0, cA := [], cB := [],
    uA := [], uB := [], blockBad := false, storedCA := zeros24, storedCB := zeros24, storedUA := zeros24,
    storedUB := zeros24, stored := 0, csPosted := false, counts := [], writtenCA := zeros24,
    writtenCB := zeros24, writtenUA := zeros24, writtenUB := zeros24, sentCA := zeros24, sentCB := zeros24,
    sentUA := zeros24, sentUB := zeros24, sent := 0, lastRate := none, copying := false, direct := none,
    biphase := 0, autoDue := false, drive := 0, txStarted := false, frame := none }

/-- Serial audio at reset: every port disabled (R223). -/
def SerialState.reset : SerialState := { sais := [], spdif := Spdif.reset }

/-- The MAC at reset: link DOWN, counters 0 (R294), ETH_PHY_RSTN low (R279). -/
def Mac.reset : Mac :=
  { link := 0, downCause := 0, partner := 0, ups := 0, downs := 0, phyReleased := false, pause := false,
    pauseQuanta := 0, pausePosted := false, counts := [], halves := [], folds := [], folding := [],
    queueA := [], queueB := [], queueC := [], creditA := 0, creditB := 0, sending := 0, sendTime := 0, wire := [],
    rxFifo := [], mdio := none }

/-- gPTP at reset: DISABLED, priorities 248 (Table 13-1), time 0 (R301). -/
def Gptp.reset : Gptp :=
  { st := 0, asCapable := false, good := 0, bad := 0, priority1 := 248, priority2 := 248, asymmetry := 0,
    gm := 0, gmVector := 0, steps := 0, offset := 0, delay := 0, time := 0, qualify := 0, timeouts := 0,
    stepCount := 0, firstOffset := false, announces := false, syncAge := 0, syncs := 0 }

/-- The network at reset (Table 13-8 for the classes). -/
def NetState.reset : NetState :=
  { mac := Mac.reset, gptp := Gptp.reset, streams := [], crfs := [], prioA := 3, prioB := 2, vidA := 2,
    vidB := 2, boundA := false, boundB := false, disc := [], discFull := 0, discFullFold := 0,
    discFullPosted := false, discAdded := 0, discRemoved := 0, discPosted := false, available := 0,
    aecp := [], acquired := none, locked := none, unsolicited := [], regs := [], leaving := [], declared := [],
    waiting := [] }

/-- The auxiliary DAC at reset: TMR1 to TMR3 OFF (R332), readback off (R341). AUX12, AUX13 are fixed in
RANGE 2, AUX14 and AUX15 in RANGE 1 (Table 14-2). -/
def AuxState.reset : AuxState :=
  { chans := [(12, { Aux.reset with range := 2 }), (13, { Aux.reset with range := 2 }),
      (14, { Aux.reset with range := 1 }), (15, { Aux.reset with range := 1 })],
    queues := [], timers := [], timerCounts := [], muxA := 0xFF, muxB := 0xFF, vauxLow := false, vauxReset := false,
    fault := false, offMask := 0 }

/-- The measurement converters at reset. -/
def MeasState.reset : MeasState :=
  { ma := Sar.reset, mb := Sar.reset, mask := 0, source := 7, interval := 0, scan := 0, single := false,
    buffer := [], left := [], scanIndex := 0, scanOverrun := false, scanMark := false, scanWaits := false, scanPaused := false,
    sysPaused := false, running := none,
    injLeft := [], injIndex := 0, injs := [], pairs := [], owed := false, systems := [], sysLeft := [],
    sysKind := 0, sysIndex := 0, latest := [], house := [], plausFails := 0, plausDiff := 0, plausBad := 0, plausCheck := false, plausOnce := false, counts := [],
    overFold := [], overPosted := [], lostFold := 0, lostPosted := false, trackerLocked := false, fade := 0,
    expoFifo := [], expoHist := [] }

/-- Power-on (R363): POR with reset cause 0, VCORE at 0.80 V (R367), no wake source. -/
def PowerState.reset : PowerState :=
  { dev := .por, shelter := false, warnAvdd := false, warnVin := false, sawAvdd := false, sawVin := false,
    warnCounts := [], unposted := [], cause := 0, wake := 0xFF, watchdog := 0, settled := false, compat := false, testEn := false,
    bankA33 := false, bankB33 := false, ioB := true, vusb := true, refChosen := false, selfTest := 0, failedChains := 0,
    selfTested := false, bootUs := 0,
    thermalWarn := false, thermalShut := false, vcore := 8, transition := none, harbourCause := 0,
    resetDue := false, resetOther := false }

/-- A prediction with no data. -/
def Prediction.noData : Prediction :=
  { st := 0, points := 0, hour := 0xFFFFFFFF, early := 0xFFFFFFFF, late := 0xFFFFFFFF, n := 0, sigma := 0,
    tp := 0, target := 0 }

/-- A new summary (R398, R400): counts 0, VCORE 0.80 V, horizon 17,520 hours. -/
def HullStored.new : HullStored :=
  { seq := 0, hours := 0, stress := 0, brownCounts := [], vcore := 8, replanFlag := none, horizon := 17520, erases := [] }

/-- The hull log of a new part: no summary, empty rings, horizon 17,520 hours (R400), boot VCORE 0.80 V. -/
def HullState.reset : HullState :=
  { sis := [], window := 0xFFFF, limiting := 0, vcoreMv := 800, sinceStep := 60000, since145 := 0, since115 := 60000,
    replanPosted := false, replanDue := false, sinceRisk := 10000, riskCount := 0, riskMin := 0xFFFF,
    since102 := 10000, smallest := [], hours := 0, stress := 0, stressPosted := 0, brownCounts := [],
    sumA := none, sumB := none, replanFlag := none, horizon := 17520, restarted := false, erases := [], wearPosted := [],
    ringPlaces := [], hourly := [], daily := [], weekly := [], sinceDaily := 0, sinceWeekly := 0, span := HullSpan.start,
    prediction := Prediction.noData, horizonArmed := true, predictDue := false }

/-- The image programmed at manufacture: confirmed, chart format 3 only (R455), settings and gangway
format 1. -/
def ImageInfo.factory : ImageInfo :=
  { fwVersion := 0, security := 0, keySlot := 0, reloadNow := 0, chartMin := 3, chartMax := 3,
    settingsFormat := 1, settingsMin := 1, gangwayFormat := 1, gangwayMin := 1, revoke := 0 }

/-- The image region as manufactured. -/
def Image.factoryImage : Image :=
  { factory := true, blocks := [], dlDone := true, verified := true, confirmed := true, aborted := false }

/-- Firmware, settings and keys of a new part (R408, R423, R425). -/
def FwState.reset : FwState :=
  { image := Image.factoryImage, running := ImageInfo.factory, session := Session.idle, probation := false,
    healthy := 0, suppressed := false, autoConfirm := true, counter := 0, counterLeft := 64, keys := [],
    revoked := 0, chartKey := none, copyA := SettingsCopy.absent, copyB := SettingsCopy.absent,
    setState := 3, setCopy := 0xFF, setSeq := 0, applied := 0, skipped := 0, fallback := false,
    fallbackCause := 0, jobs := [], activate := none, gangway := none, gangwayOutcome := 0xFF, reload := 0,
    seqCode := [], steps := [], begun := false }

/-- The part right after a power-on reset, before reset release, with nothing waiting. -/
def State.reset : State :=
  { host := HostState.reset, tw0 := TwPort.reset, tw1 := TwPort.reset, cs := ChartState.reset,
    eng := EngineState.reset, par := ParamState.reset, clk := ClockState.reset, cap := CaptureState.reset,
    out := OutputState.reset, ser := SerialState.reset, usbA := Usb.reset, usbB := Usb.reset,
    net := NetState.reset, aux := AuxState.reset, meas := MeasState.reset, pwr := PowerState.reset,
    hull := HullState.reset, fw := FwState.reset, free := 0, pending := [] }

end Sys2Proof.Machine
end

