-- ==== Sys2Proof/Machine/Chart.lean ====
section
/-! DEFINITION. The chart as bytes (chapter 4): header, section table, segments of write groups, and the
sections that the rest of the part consults. -/

namespace Sys2Proof.Machine

/-- One entry of a write group (Table 4-5): its kind, the instance it writes (for KIND 0x01, lane × 1,024 +
word) and its bytes. -/
structure SegEntry where
  kind : Nat
  inst : Nat
  bytes : List Byte
  deriving DecidableEq, Repr

/-- Bytes of one entry, by KIND. -/
def entrySize (kind : Nat) : Nat :=
  match kind with
  | 1 => 8
  | 2 => 8
  | 3 => 48
  | 4 => 16
  | 5 => 32
  | 6 => 8
  | 7 => 8
  | 8 => 4
  | 9 => 64
  | _ => 0

/-- The entries of a group: `n` of them from instance `inst`. -/
def groupEntries (kind : Nat) (size : Nat) : Nat → Nat → List Byte → List SegEntry
  | 0, _, _ => []
  | n + 1, inst, l =>
    { kind := kind, inst := inst, bytes := l.take size } :: groupEntries kind size n (inst + 1) (l.drop size)

/-- The entries of a segment, or none when it does not end with KIND 0x00 inside its bytes or holds an
unknown KIND. The first argument is fuel. -/
def segEntries : Nat → List Byte → Option (List SegEntry)
  | 0, _ => none
  | f + 1, l =>
    match l with
    | [] => none
    | _ =>
      let kind := u8 l 0
      if kind = 0 then some []
      else
        let size := entrySize kind
        let n := u16 l 2
        let start := u32 l 4
        let first := if kind = 1 then bits start 18 16 * 1024 + start % 1024 else start
        if size = 0 ∨ l.length < 8 + n * size then none
        else (segEntries f (l.drop (8 + n * size))).map (groupEntries kind size n first (l.drop 8) ++ ·)

/-- The entries of a segment; a chart in force has passed its checks, so the parse succeeds there. -/
def segment (l : List Byte) : List SegEntry := (segEntries (l.length + 1) l).getD []

/-- The data of the section of a type and index. -/
def Chart.sec (c : Chart) (t i : Nat) : Option (List Byte) :=
  (c.sections.find? (fun x => x.type == t && x.index == i)).map (·.data)

/-- Section data, empty when absent. -/
def Chart.secD (c : Chart) (t i : Nat) : List Byte := (c.sec t i).getD []

/-- The base segment. -/
def Chart.base (c : Chart) : List SegEntry := segment (c.secD 1 0)

/-- The record of an overlay (Table 4-4). -/
def Chart.ov (c : Chart) (n : Nat) : Option (List Byte) := c.sec 2 n

def Chart.hasOv (c : Chart) (n : Nat) : Bool := (c.ov n).isSome

/-- Overlays of the chart, rising. -/
def Chart.ovs (c : Chart) : List Nat := (List.range 64).filter c.hasOv

def Chart.ovSeg (c : Chart) (n : Nat) : List SegEntry := segment ((c.secD 2 n).drop 1856)
def Chart.ovCut (c : Chart) (n : Nat) : Bool := bit (u8 (c.secD 2 n) 1) 0
def Chart.ovRamp (c : Chart) (n : Nat) : Nat := u16 (c.secD 2 n) 2
def Chart.ovGate (c : Chart) (n : Nat) : Nat := u16 (c.secD 2 n) 4

/-- First byte of each reservation bitmap in an overlay record (Table 4-4a): 0 words, 1 berths, 2 slots,
3 sections, 4 delay lines, 5 limiters, 6 meters, 7 ASRC channels, 8 routes, 9 external ports. -/
def reserveOffset : List Nat := [24, 1048, 1176, 1688, 1752, 1768, 1776, 1808, 1840, 1848]

/-- An overlay reserves instance `k` of a resource (Table 4-4a). -/
def Chart.reserves (c : Chart) (n r k : Nat) : Bool :=
  bit (u8 (c.secD 2 n) (reserveOffset.getD r 0 + k / 8)) (k % 8)

/-- The resource that entries of a KIND write, and the instances of Table 4-4a. -/
def kindResource (kind : Nat) : Option (Nat × Nat) :=
  match kind with
  | 1 => some (0, 8192)
  | 2 => some (2, 4096)
  | 3 => some (3, 512)
  | 4 => some (4, 128)
  | 5 => some (5, 64)
  | 6 => some (6, 256)
  | 7 => some (8, 64)
  | 8 => some (7, 256)
  | _ => none

/-- Exclusion masks (Table 4-3). -/
def Chart.exclusions (c : Chart) : List Nat :=
  let d := c.secD 3 0
  (List.range (u16 d 0)).map (fun i => u64 d (8 + 8 * i))

/-- Switchable pairs, the lower number first. -/
def Chart.pairs (c : Chart) : List (Nat × Nat) :=
  let d := c.secD 3 0
  (List.range (u16 d 2)).map (fun i => (u8 d (8 + 8 * u16 d 0 + 2 * i), u8 d (9 + 8 * u16 d 0 + 2 * i)))

/-- Two overlays are members of one exclusion group. -/
def Chart.excluded (c : Chart) (a b : Nat) : Bool := c.exclusions.any (fun m => bit m a && bit m b)

/-- Two overlays are a switchable pair (R65). -/
def Chart.switchable (c : Chart) (a b : Nat) : Bool := c.pairs.any (fun q => q == (min a b, max a b))

/-- Number of event bindings. -/
def Chart.bindings (c : Chart) : Nat := u16 (c.secD 4 0) 0

/-- A binding record (Table 4-7). -/
def Chart.binding (c : Chart) (i : Nat) : List Byte := bytesAt (c.secD 4 0) (8 + 16 * i) 16

/-- Moorings entries: resource ID and owner code (Table 4-3). -/
def Chart.moorings (c : Chart) : List (Nat × Nat) :=
  let d := c.secD 5 0
  (List.range (u16 d 0)).map (fun i => (u16 d (4 + 4 * i), u8 d (6 + 4 * i)))

/-- The owner code a chart gives a resource, or 0xFF. -/
def Chart.defaultOwner (c : Chart) (id : Nat) : Nat :=
  ((c.moorings.find? (fun m => m.1 == id)).map (·.2)).getD 0xFF

/-- Group byte of a parameter slot, biquad section or limiter (PARAM_GROUPS). -/
def Chart.slotGroup (c : Chart) (k : Nat) : Nat := u8 (c.secD 8 0) k
def Chart.sectionGroup (c : Chart) (k : Nat) : Nat := u8 (c.secD 8 0) (4096 + k)
def Chart.limiterGroup (c : Chart) (k : Nat) : Nat := u8 (c.secD 8 0) (4608 + k)

/-- FORBID of the reduced variant (Table 4-6), and its segment. -/
def Chart.hasReduced (c : Chart) : Bool := (c.sec 9 0).isSome
def Chart.forbids (c : Chart) (n : Nat) : Bool := bit (u64 (c.secD 9 0) 0) n
def Chart.reducedSeg (c : Chart) : List SegEntry := segment ((c.secD 9 0).drop 8)

/-- Every entry that any segment of the chart holds. -/
def Chart.entries (c : Chart) : List SegEntry :=
  c.base ++ c.ovs.flatMap c.ovSeg ++ c.reducedSeg

/-- Alternate-setting records of a descriptor set (Table 11-4). -/
def altRecords (d : List Byte) : List (List Byte) := (List.range (u16 d 2)).map (fun i => bytesAt d (40 + 8 * i) 8)

/-- A talker, listener or CRF record (Tables 13-4 to 13-6). -/
def talkerRec (d : List Byte) (t : Nat) : List Byte := bytesAt d (64 + 32 * t) 32
def listenerRec (d : List Byte) (l : Nat) : List Byte := bytesAt d (1088 + 32 * l) 32
def crfRec (d : List Byte) (k : Nat) : List Byte := bytesAt d (2112 + 32 * k) 32

/-- Fabric rate in Hz by code (Table 4-1). -/
def rateHz (code : Nat) : Nat := [44100, 48000, 88200, 96000, 176400, 192000].getD code 48000

/-- Read a chart from its bytes: header fields and section table as they stand, no check made. -/
def readChart (l : List Byte) : Chart :=
  { format := u16 l 4, chartId := u32 l 8, revision := u32 l 12, rate := u8 l 20, flags := u8 l 22,
    requiredSi := u32 l 24, reducedSi := u32 l 28,
    sections := (List.range (u8 l 21)).map (fun i =>
      let e := bytesAt l (u32 l 32 + 16 * i) 16
      { type := u16 e 0, index := u8 e 2, data := bytesAt l (u32 e 4) (u32 e 8) }) }

/-- The bytes of a table of bytes from an offset; an unlisted byte reads as erased. -/
def tblBytes (t : Tbl Byte) (i n : Nat) : List Byte := (List.range n).map (fun k => tget 0xFF t (i + k))

/-- A slot's chart bytes. -/
def ChartSlot.chartBytes (c : ChartSlot) : List Byte := tblBytes c.bytes 0 c.length

end Sys2Proof.Machine
end

