-- ==== Sys2Proof/Machine/Opcodes.lean ====
section
/-! DEFINITION. What the tables of commands give each opcode: its payload's length (R454), its reserved
bytes (R458), whether it is supervisor only, needs a chart (R459), writes NVM (R371) or is admitted in
HARBOUR (R23, R431). -/

namespace Sys2Proof.Machine

/-- How long a payload is (R454): of fixed size, of a length within a range, or a fixed part with a count
of entries (fixed part, entry size, offset and size of the count). -/
inductive LengthRule where
  | fixed (n : Nat)
  | range (lo hi : Nat)
  | counted (base per offset size : Nat)
  | undefined
  deriving DecidableEq, Repr

/-- The payload rule of an opcode (Tables 2-8, 2-10, 4-11, 6-12, 7-12, 8-11, 9-14, 10-7, 11-8, 13-12, 14-7,
15-8, 16-11, 17-6, 18-12); `undefined` for an opcode that the manual does not define. -/
def lengthRule (op : Nat) : LengthRule :=
  match op with
  | 0x0101 => .fixed 4
  | 0x0102 => .fixed 0
  | 0x0103 => .fixed 0
  | 0x0104 => .fixed 0
  | 0x0105 => .counted 2 2 0 1
  | 0x0106 => .counted 2 2 0 1
  | 0x0107 => .counted 2 2 0 1
  | 0x0108 => .fixed 2
  | 0x0109 => .fixed 4
  | 0x010A => .fixed 4
  | 0x010B => .fixed 0
  | 0x010C => .range 0 1020
  | 0x010D => .fixed 4
  | 0x0201 => .fixed 2
  | 0x0202 => .fixed 2
  | 0x0203 => .fixed 2
  | 0x0204 => .fixed 0
  | 0x0205 => .fixed 0
  | 0x0301 => .fixed 4
  | 0x0302 => .fixed 4
  | 0x0303 => .fixed 4
  | 0x0304 => .fixed 6
  | 0x0305 => .fixed 0
  | 0x0306 => .fixed 4
  | 0x0307 => .fixed 2
  | 0x0308 => .fixed 4
  | 0x0309 => .fixed 8
  | 0x030A => .range 9 1024
  | 0x030B => .fixed 0
  | 0x030C => .fixed 4
  | 0x030D => .fixed 10
  | 0x0401 => .fixed 12
  | 0x0402 => .counted 4 12 0 1
  | 0x0403 => .fixed 4
  | 0x0404 => .fixed 4
  | 0x0405 => .fixed 24
  | 0x0406 => .fixed 8
  | 0x0407 => .fixed 4
  | 0x0408 => .fixed 8
  | 0x0409 => .fixed 4
  | 0x040A => .fixed 8
  | 0x040B => .fixed 4
  | 0x040C => .fixed 8
  | 0x040D => .fixed 4
  | 0x040E => .fixed 2
  | 0x040F => .fixed 8
  | 0x0410 => .fixed 0
  | 0x0501 => .fixed 0
  | 0x0502 => .fixed 4
  | 0x0503 => .fixed 4
  | 0x0504 => .fixed 4
  | 0x0505 => .fixed 4
  | 0x0506 => .fixed 4
  | 0x0507 => .fixed 4
  | 0x0508 => .fixed 4
  | 0x0601 => .fixed 4
  | 0x0602 => .fixed 12
  | 0x0603 => .fixed 4
  | 0x0604 => .fixed 4
  | 0x0605 => .fixed 48
  | 0x0606 => .fixed 4
  | 0x0607 => .fixed 48
  | 0x0608 => .fixed 4
  | 0x0701 => .fixed 4
  | 0x0702 => .fixed 4
  | 0x0703 => .fixed 4
  | 0x0704 => .fixed 4
  | 0x0705 => .fixed 4
  | 0x0801 => .fixed 0
  | 0x0802 => .fixed 4
  | 0x0803 => .fixed 8
  | 0x0804 => .fixed 0
  | 0x0805 => .fixed 8
  | 0x0806 => .fixed 4
  | 0x0807 => .fixed 20
  | 0x0808 => .fixed 4
  | 0x0809 => .fixed 4
  | 0x080A => .fixed 0
  | 0x080B => .fixed 4
  | 0x080C => .fixed 4
  | 0x0901 => .fixed 4
  | 0x0902 => .fixed 4
  | 0x0903 => .fixed 4
  | 0x0904 => .fixed 4
  | 0x0905 => .fixed 4
  | 0x0906 => .fixed 4
  | 0x0907 => .fixed 0
  | 0x0908 => .fixed 4
  | 0x0909 => .fixed 0
  | 0x090A => .fixed 8
  | 0x090B => .fixed 4
  | 0x090C => .fixed 4
  | 0x0A01 => .fixed 4
  | 0x0A02 => .fixed 4
  | 0x0A03 => .fixed 0
  | 0x0A04 => .fixed 4
  | 0x0A05 => .fixed 4
  | 0x0A06 => .fixed 12
  | 0x0A07 => .fixed 0
  | 0x0A08 => .fixed 4
  | 0x0B01 => .fixed 4
  | 0x0B02 => .fixed 4
  | 0x0B03 => .fixed 4
  | 0x0B04 => .counted 4 4 0 1
  | 0x0B05 => .fixed 8
  | 0x0B06 => .fixed 8
  | 0x0B07 => .counted 4 2 2 2
  | 0x0B08 => .fixed 4
  | 0x0B09 => .fixed 4
  | 0x0C01 => .fixed 4
  | 0x0C02 => .fixed 12
  | 0x0C03 => .fixed 4
  | 0x0C04 => .fixed 4
  | 0x0C05 => .fixed 4
  | 0x0C06 => .fixed 12
  | 0x0C07 => .fixed 4
  | 0x0C08 => .fixed 4
  | 0x0C09 => .fixed 4
  | 0x0C0A => .fixed 4
  | 0x0D01 => .fixed 0
  | 0x0D02 => .fixed 4
  | 0x0D03 => .fixed 0
  | 0x0D04 => .fixed 0
  | 0x0D05 => .fixed 4
  | 0x0D06 => .fixed 0
  | 0x0D07 => .fixed 4
  | 0x0D08 => .fixed 0
  | 0x0E01 => .fixed 0
  | 0x0E02 => .fixed 0
  | 0x0E03 => .fixed 520
  | 0x0E04 => .fixed 0
  | 0x0E05 => .fixed 0
  | 0x0E06 => .fixed 0
  | 0x0E07 => .fixed 0
  | 0x0E08 => .fixed 0
  | 0x0E09 => .fixed 4
  | 0x0E0A => .fixed 0
  | 0x0E0B => .fixed 0
  | 0x0E0C => .fixed 4
  | 0x0E0D => .fixed 0
  | 0x0E0E => .fixed 64
  | _ => .undefined

/-- The opcode is defined in the manual (check 5 of Table 2-3). -/
def opcodeDefined (op : Nat) : Bool := !decide (lengthRule op = .undefined)

/-- LENGTH is valid for the opcode (R454). -/
def payloadValid (op : Nat) (p : List Byte) : Bool :=
  match lengthRule op with
  | .fixed n => p.length == n
  | .range lo hi => decide (lo ≤ p.length) && decide (p.length ≤ hi)
  | .counted base per off size => p.length == base + per * uN p off size
  | .undefined => false

/-- Bytes of result data that an opcode and payload can call for, where they can exceed 255 (R44). -/
def resultCalled (op : Nat) (p : List Byte) : Nat :=
  match op with
  | 0x0108 => if u8 p 0 = 3 then 257 else 0
  | 0x010C => p.length
  | 0x0201 => 4 + 16 * u8 p 0
  | 0x0307 => 4 + 16 * u8 p 1
  | 0x030D => u16 p 8
  | 0x0403 => 16 * u16 p 2
  | 0x040E => 12 * u8 p 1
  | 0x040F => 2 * u16 p 2
  | 0x080B => 4 + 48 * u8 p 2
  | 0x0C04 => 4 + 16 * u8 p 0
  | 0x0C05 => 16 * u8 p 1
  | 0x0D05 => 4 + 32 * u8 p 1
  | _ => 0

/-- Check 6 of Table 2-3: LENGTH for the opcode, with the bound of version 1 (R44, R454). -/
def lengthOk (v1 : Bool) (op : Nat) (p : List Byte) : Bool :=
  payloadValid op p && (!v1 || decide (resultCalled op p ≤ 255))

/-- Reserved byte ranges of a payload: offset and number of bytes. -/
def reservedRanges (op : Nat) : List (Nat × Nat) :=
  match op with
  | 0x0101 => [(1, 3)]
  | 0x0105 => [(1, 1)]
  | 0x0106 => [(1, 1)]
  | 0x0107 => [(1, 1)]
  | 0x0108 => [(1, 1)]
  | 0x0109 => [(1, 3)]
  | 0x010A => [(2, 2)]
  | 0x010D => [(2, 2)]
  | 0x0201 => [(1, 1)]
  | 0x0202 => [(1, 1)]
  | 0x0301 => [(1, 3)]
  | 0x0304 => [(3, 1)]
  | 0x0306 => [(2, 2)]
  | 0x0308 => [(1, 3)]
  | 0x0309 => [(1, 3)]
  | 0x030A => [(4, 4)]
  | 0x030C => [(2, 2)]
  | 0x030D => [(1, 3)]
  | 0x0401 => [(3, 1), (10, 2)]
  | 0x0402 => [(1, 3)]
  | 0x0405 => [(3, 1)]
  | 0x0406 => [(6, 2)]
  | 0x0407 => [(2, 2)]
  | 0x0408 => [(1, 1)]
  | 0x0409 => [(1, 3)]
  | 0x040B => [(1, 3)]
  | 0x040C => [(6, 2)]
  | 0x040D => [(1, 3)]
  | 0x040F => [(5, 3)]
  | 0x0502 => [(1, 3)]
  | 0x0503 => [(2, 2)]
  | 0x0504 => [(2, 2)]
  | 0x0505 => [(3, 1)]
  | 0x0506 => [(1, 3)]
  | 0x0507 => [(2, 2)]
  | 0x0508 => [(2, 2)]
  | 0x0601 => [(2, 2)]
  | 0x0602 => [(1, 3)]
  | 0x0603 => [(1, 3)]
  | 0x0604 => [(1, 3)]
  | 0x0606 => [(1, 3)]
  | 0x0608 => [(2, 2)]
  | 0x0701 => [(2, 2)]
  | 0x0702 => [(2, 2)]
  | 0x0703 => [(3, 1)]
  | 0x0704 => [(1, 3)]
  | 0x0705 => [(2, 2)]
  | 0x0802 => [(1, 3)]
  | 0x0803 => [(6, 2)]
  | 0x0805 => [(2, 2)]
  | 0x0806 => [(2, 2)]
  | 0x0807 => [(1, 1)]
  | 0x0808 => [(1, 3)]
  | 0x0809 => [(2, 2)]
  | 0x080B => [(3, 1)]
  | 0x080C => [(1, 3)]
  | 0x0901 => [(1, 3)]
  | 0x0902 => [(2, 2)]
  | 0x0903 => [(3, 1)]
  | 0x0904 => [(1, 1)]
  | 0x0905 => [(3, 1)]
  | 0x0906 => [(1, 3)]
  | 0x0908 => [(2, 2)]
  | 0x090A => [(6, 2)]
  | 0x090B => [(1, 3)]
  | 0x090C => [(1, 3)]
  | 0x0A01 => [(1, 3)]
  | 0x0A02 => [(2, 2)]
  | 0x0A04 => [(1, 3)]
  | 0x0A05 => [(1, 3)]
  | 0x0A06 => [(10, 2)]
  | 0x0A08 => [(1, 3)]
  | 0x0B01 => [(2, 2)]
  | 0x0B03 => [(3, 1)]
  | 0x0B04 => [(1, 3)]
  | 0x0B05 => [(2, 2)]
  | 0x0B07 => [(1, 1)]
  | 0x0B08 => [(2, 2)]
  | 0x0B09 => [(2, 2)]
  | 0x0C01 => [(1, 3)]
  | 0x0C02 => [(5, 3)]
  | 0x0C03 => [(1, 3)]
  | 0x0C04 => [(1, 3)]
  | 0x0C05 => [(2, 2)]
  | 0x0C06 => [(9, 3)]
  | 0x0C07 => [(2, 2)]
  | 0x0C08 => [(1, 3)]
  | 0x0C09 => [(1, 3)]
  | 0x0C0A => [(1, 3)]
  | 0x0D02 => [(1, 1)]
  | 0x0E03 => [(3, 5)]
  | 0x0E09 => [(1, 3)]
  | 0x0E0C => [(1, 3)]
  | _ => []

/-- Every reserved field of the payload is 0 (R458; entries of SET_PARAM_BLOCK are checked one by one). -/
def reservedZero (op : Nat) (p : List Byte) : Bool := (reservedRanges op).all (fun r => zeroAt p r.1 r.2)

/-- Commands marked supervisor only. -/
def supervisorOnly (op : Nat) : Bool :=
  op ∈ [0x0107, 0x0109, 0x010A, 0x010D, 0x0306, 0x0308, 0x0309, 0x030A, 0x030B, 0x030C, 0x0408, 0x040C, 0x0505,
   0x0805, 0x090A, 0x090B, 0x0A03, 0x0A04, 0x0B05, 0x0B09, 0x0C09, 0x0D02, 0x0D07, 0x0D08, 0x0E0E]

/-- Commands that R459 names: answered WRONG_STATE with no chart in force. NET_MDIO as a write changes the
ETH port, AUX_ENABLE only when it enables, and PLL_DISCIPLINE only when it names a domain. -/
def needsChart (op : Nat) (p : List Byte) : Bool :=
  if op = 0x0803 then u8 p 0 == 1
  else if op = 0x0B03 then u8 p 2 == 1
  else if op = 0x0505 then u8 p 1 != 0xFF
  else op ∈ [0x0302, 0x0303, 0x0304, 0x0305, 0x0306, 0x0307, 0x0308, 0x0401, 0x0402, 0x0403, 0x0404, 0x0405, 0x0406,
   0x0407, 0x0408, 0x0409, 0x040A, 0x040B, 0x040C, 0x040D, 0x040E, 0x040F, 0x0502, 0x0503, 0x0504, 0x0506,
   0x0507, 0x0508, 0x0602, 0x0605, 0x0607, 0x0608, 0x0702, 0x0703, 0x0704, 0x0705, 0x0806, 0x0807, 0x0808, 0x0902,
   0x0903, 0x0904, 0x0A02, 0x0A07]

/-- Commands that HARBOUR admits (R23, R431). -/
def harbourAdmits (op : Nat) : Bool :=
  op ∈ [0x0101, 0x0103, 0x0104, 0x010C, 0x010D, 0x0E01, 0x0E02, 0x0E03, 0x0E04, 0x0E05, 0x0E07, 0x0E08, 0x0E0D]

/-- Commands whose execution always needs an NVM write (R371). -/
def alwaysWritesNvm (op : Nat) : Bool :=
  op ∈ [0x0309, 0x030A, 0x030B, 0x030C, 0x0D07, 0x0D08, 0x0E04, 0x0E06, 0x0E09, 0x0E0A, 0x0E0B, 0x0E0E]

end Sys2Proof.Machine
end

