-- ==== Sys2Proof/Machine/Ops.lean ====
section
/-! DEFINITION. The shared operations of the block: contexts, moorings, events and their queues, interrupt
pins, log numbers, replies, and the execution of a command by the CP. -/

namespace Sys2Proof.Machine

/-! ## Contexts and moorings -/

def ctxNum : Ctx → Nat
  | .h0 => 0
  | .h1 => 1
  | .h2 => 2
  | .h3 => 3
  | .h4 => 4

def ctxOf (n : Nat) : Ctx :=
  match n with
  | 0 => .h0
  | 1 => .h1
  | 2 => .h2
  | 3 => .h3
  | _ => .h4

def ctxGet (s : State) (n : Nat) : CtxState := tget CtxState.closed s.host.ctxs n

def ctxMod (s : State) (n : Nat) (f : CtxState → CtxState) : State :=
  { s with host := { s.host with ctxs := tmod CtxState.closed s.host.ctxs n f } }

def isOpen (s : State) (n : Nat) : Bool := (ctxGet s n).isOpen

/-- Owner code of a resource (R32); a resource nothing has placed is unowned. -/
def ownerOf (s : State) (id : Nat) : Nat := tget 0xFF s.host.owners id

def setOwner (s : State) (id owner : Nat) : State :=
  { s with host := { s.host with owners := tset 0xFF s.host.owners id owner } }

/-- The mooring check of R33: the context owns the resource or it is shared. -/
def canChange (s : State) (c : Ctx) (id : Nat) : Bool := ownerOf s id == ctxNum c || ownerOf s id == 0xFE

/-- The mooring check for a member of a parameter group; a member of no group is shared (R33). -/
def canChangeGroup (s : State) (c : Ctx) (group : Nat) : Bool :=
  group == 0xFF || canChange s c (0x0300 + group)

/-- Instances of a resource class (Table 2-5), 0 for an unknown class. -/
def classInstances (cls : Nat) : Nat :=
  match cls with
  | 1 => 29
  | 2 => 64
  | 3 => 256
  | 4 => 2
  | 5 => 8
  | 6 => 16
  | 7 => 2
  | 8 => 64
  | 9 => 1
  | 10 => 1
  | 11 => 1
  | _ => 0

/-- A resource ID names an instance of Table 2-5. -/
def resourceValid (id : Nat) : Bool := decide (id % 256 < classInstances (id / 256))

/-- Every resource ID of Table 2-5, class by class. -/
def allResources : List Nat :=
  (List.range 12).flatMap (fun c => (List.range (classInstances c)).map (fun i => 256 * c + i))

/-! ## Free draws -/

/-- Has a stated least interval passed? A free value, since the model keeps no time (log entry 8). -/
def drawElapsed (s : State) : Bool × State := (Config.elapsed s.free, { s with free := s.free + 1 })

/-- A figure that the outside or an unstated precision decides. -/
def drawReading (s : State) : BitVec 32 × State := (Config.reading s.free, { s with free := s.free + 1 })

/-- Which way the last place of an internal figure falls. -/
def drawRound (s : State) : Bool × State := (Config.roundUp s.free, { s with free := s.free + 1 })

/-! ## Interrupt pins (R40) -/

/-- The groups that a context enables on its pin: IRQ_MASK of H0 and H1, every group elsewhere (Table 3-6). -/
def irqMaskOf (s : State) (n : Nat) : Nat :=
  if n = 0 then s.tw0.irqMask.toNat else if n = 1 then s.tw1.irqMask.toNat else 0xFFFE

/-- A context holds an event that its IRQ_MASK enables. -/
def irqWanted (s : State) (n : Nat) : Bool :=
  (ctxGet s n).queue.any (fun e => bit (irqMaskOf s n % 65536) (e.code / 256) && e.code / 256 != 0)

/-- A context of a pin's set wants the pin. -/
def pinWanted (s : State) (set : Nat) : Bool := (List.range 5).any (fun n => bit set n && irqWanted s n)

/-- The pins follow the queues in this state; elsewhere they are released (R40). -/
def pinsServed (s : State) : Bool :=
  !s.pwr.thermalShut && s.pwr.dev ∈ [Dev.active, Dev.doze, Dev.test, Dev.recovery, Dev.harbour]

/-- Bring both pins to what R40 says; a pin held after an acknowledgement stays released, and so does IRQ_B, of bank B, without
IOVDD_B (Table 16-1). -/
def refreshPins (s : State) : State :=
  let a := pinsServed s && pinWanted s s.host.irqSetA
  let b := pinsServed s && s.pwr.ioB && pinWanted s s.host.irqSetB
  { s with host := { s.host with
      irqA := a && !s.host.irqHoldA, irqHoldA := a && s.host.irqHoldA,
      irqB := b && !s.host.irqHoldB, irqHoldB := b && s.host.irqHoldB } }

/-! ## Events -/

/-- R38: enter an event in a queue, or count it in an EVENT_LOST. -/
def enqueue (q : List Event) (e : Event) : List Event :=
  if q.length < 63 then q ++ [e]
  else
    match q.getLast? with
    | some l =>
      if l.code = 0x0201 then q.dropLast ++ [{ l with data := min (l.data + 1) 0xFFFFFFFF }]
      else q ++ [{ e with code := 0x0201, inst := 0, data := 1 }]
    | none => [e]

/-- R37: the event goes to this context. -/
def eventFor (s : State) (code : Nat) (cn : Concern) (n : Nat) : Bool :=
  let c := ctxGet s n
  c.isOpen && bit c.mask (code / 256)
    && (match cn with
        | .none => true
        | .res ids => n == ctxNum s.host.supervisor
            || ids.any (fun i => ownerOf s i == n || ownerOf s i == 0xFE || ownerOf s i == 0xFF))

/-- Post an event to one context: it takes the context's next SEQ (R37, R38). -/
def enterEvent (code inst stamp log data : Nat) (s : State) (n : Nat) : State :=
  ctxMod s n (fun c =>
    { c with
      queue := enqueue c.queue { code := code, inst := inst, seq := c.seq, stamp := stamp, log := log, data := data }
      seq := (c.seq + 1) % 256 })

/-- A binding is enabled (R81): as the chart says, unless BINDING_SET has changed it. -/
def bindingEnabled (s : State) (c : Chart) (i : Nat) : Bool :=
  match tget 0 s.cs.enables i with
  | 1 => false
  | 2 => true
  | _ => bit (u8 (c.binding i) 6) 0

/-- A binding matches an event (R81). -/
def bindingMatches (b : List Byte) (code inst data : Nat) : Bool :=
  u16 b 0 == code && (u8 b 2 == inst || u8 b 2 == 0xFF) && (data &&& u32 b 8) == u32 b 12

/-- R81: bindings that fire on an event wait for the CP. None fires in TEST, RECOVERY or HARBOUR (R382). -/
def fireBindings (code inst data : Nat) (s : State) : State :=
  match s.cs.chart with
  | none => s
  | some c =>
    if s.pwr.dev ∈ [Dev.test, Dev.recovery, Dev.harbour] then s
    else
      let hits := (List.range c.bindings).filter
        (fun i => bindingEnabled s c i && bindingMatches (c.binding i) code inst data)
      { s with host := { s.host with
          fired := s.host.fired ++ hits.map (fun i => { index := i, code := code, inst := inst }) } }

/-- PERIOD_COUNT, which STAMP carries (R109). -/
def stampOf (s : State) : Nat := s.eng.period % 2 ^ 32

/-- Put an event into the queues of the contexts of `sel` that R37 gives it to, match the bindings and
bring the pins up to date. -/
def deliver (sel : List Nat) (code inst stamp log data : Nat) (cn : Concern) (s : State) : State :=
  refreshPins (fireBindings code inst data
    ((sel.filter (eventFor s code cn)).foldl (enterEvent code inst stamp log data) s))

/-- Raise an event for the contexts of `sel`. None is posted in HARBOUR (R431); while the CP is absent the
hardware keeps up to 32 of them (Table 18-7). -/
def postSel (sel : List Nat) (code inst log data : Nat) (cn : Concern) (s : State) : State :=
  if s.pwr.dev = .harbour then s
  else if s.host.absent then
    if s.host.raised.length < 32 then
      { s with host := { s.host with raised := s.host.raised ++
          [{ code := code, inst := inst, stamp := stampOf s, log := log, data := data, concern := cn, sel := sel }] } }
    else { s with host := { s.host with raisedLost := s.host.raisedLost + 1 } }
  else deliver sel code inst (stampOf s) log data cn s

/-- Raise an event for every context (R37). -/
def post (code inst log data : Nat) (cn : Concern) (s : State) : State :=
  postSel [0, 1, 2, 3, 4] code inst log data cn s

/-- COMMAND_DONE for a command that was answered QUEUED (R28). -/
def complete (w : Waiter) (status : Nat) (s : State) : State :=
  postSel [ctxNum w.ctx] 0x0106 0 w.log status .none s

/-- COMMAND_DONE for each of several commands, in order. -/
def completeAll (ws : List Waiter) (status : Nat) (s : State) : State :=
  ws.foldl (fun t w => complete w status t) s

/-- Remove acknowledged entries, oldest first (R39); a pin that a still pending event wants is released
until IRQ_REASSERT (R40). -/
def ackEvents (n count : Nat) (s : State) : State :=
  let k := min count (ctxGet s n).queue.length
  if k = 0 then s
  else
    let s1 := ctxMod s n (fun c => { c with queue := c.queue.drop k })
    refreshPins { s1 with host := { s1.host with
      irqHoldA := s1.host.irqHoldA || (s.host.irqA && bit s.host.irqSetA n && pinWanted s1 s1.host.irqSetA)
      irqHoldB := s1.host.irqHoldB || (s.host.irqB && bit s.host.irqSetB n && pinWanted s1 s1.host.irqSetB) } }

/-! ## Replies -/

/-- The bytes of a reply (R26, R44, R461). -/
def replyBytes (r : Reply) : List Byte :=
  if r.v1 then
    let b := b1 0x6B ++ b1 0x10 ++ b1 (r.opcode / 256 % 16 * 16 + r.opcode % 16) ++ [r.tag] ++ b1 r.status
      ++ b1 r.result.length ++ r.result
    b ++ b1 (crc8 b)
  else
    let b := b1 0x6B ++ b1 0x20 ++ b2 r.opcode ++ [r.tag] ++ b1 r.status ++ b2 (4 + r.result.length)
      ++ b4 r.log ++ r.result
    b ++ b2 (crc16 b)

/-- The CP places a reply (R56, R268, R323): at H0 and H1 BUSY clears and REPLY_VALID sets. -/
def placeReply (n : Nat) (r : Reply) (s : State) : State :=
  if n = 0 then { s with tw0 := { s.tw0 with reply := some r, replyValid := true, busy := false } }
  else if n = 1 then { s with tw1 := { s.tw1 with reply := some r, replyValid := true, busy := false } }
  else if n = 4 then ctxMod s n (fun c => { c with replies := [r] })
  else ctxMod s n (fun c => { c with replies := c.replies ++ [r] })

/-- The last reply placed at a context. -/
def lastReply (s : State) (n : Nat) : Option Reply :=
  if n = 0 then s.tw0.reply else if n = 1 then s.tw1.reply else (ctxGet s n).replies.getLast?

/-! ## Execution of a command -/

/-- The log number after one (R29). -/
def nextLog (n : Nat) : Nat := if n = 0xFFFFFFFF then 1 else n + 1

/-! ## The part's states -/

/-- The fabric tick can run in this device state (Table 16-5). -/
def fabricStates (s : State) : Bool := s.pwr.dev ∈ [Dev.active, Dev.test, Dev.recovery]

/-- Fabric rate of the chart in force, in Hz. -/
def fabricHz (s : State) : Nat :=
  match s.cs.chart with
  | some c => rateHz c.rate
  | none => 48000

/-- Fabric periods of a time in ms, rounded up (R117). -/
def periodsOfMs (s : State) (ms : Nat) : Nat := ceilDiv (ms * fabricHz s) 1000

/-- A KIND 0x09 entry as the Near bank has it (R147); an instance that nothing wrote reads as zeros. -/
def entryOf (s : State) (inst : Nat) : List Byte := tget [] s.cs.near.entries inst

/-- The Near bank holds an entry for the instance. -/
def hasEntry (s : State) (inst : Nat) : Bool := !decide (tget [] s.cs.near.entries inst = [])

/-- An external port is enabled in the Near bank: byte 0 bit 0 of its entry. -/
def portEnabled (s : State) (inst : Nat) : Bool := bit (u8 (entryOf s inst) 0) 0

/-- The CP runs (Table 16-5, R55, R418). -/
def cpPresent (s : State) : Bool :=
  !s.host.absent && s.pwr.dev ∈ [Dev.harbour, Dev.active, Dev.doze, Dev.test, Dev.recovery]

/-- A USB port's vendor transport has room for a reply: up to four wait to be read (R268). -/
def replyRoom (s : State) (n : Nat) : Nat := if n = 2 ∨ n = 3 then 4 - (ctxGet s n).replies.length else 4

/-- A transport's packets for this context are checked and held, whatever the CP does (R460). H4 does not exist in
HARBOUR (R23), and a USB port NAKs while four replies wait (R268). -/
def packetsTaken (s : State) (c : Ctx) : Bool :=
  cpPresent s && !(s.pwr.dev == .harbour && c == .h4) && replyRoom s (ctxNum c) != 0

/-- The context whose command is answered by a reply when NVM has done its work (R401, R431). -/
def replyWaiter (a : Asker) : Option Nat :=
  match a with
  | .reply o _ _ => some (ctxNum o.ctx)
  | .own => none
  | .host _ => none
  | .dfu _ => none

/-- The context's command has been taken, and its reply is still to come: it waits for an MDIO operation (R324), or for
NVM. -/
def replyOwedTo (s : State) (n : Nat) : Bool :=
  let waits := fun a => replyWaiter a == some n
  s.net.mac.mdio.any (fun m => ctxNum m.1.ctx == n)
    || s.fw.jobs.any (fun j => match j with
      | .hullSummary a _ => waits a
      | _ => false)
    || s.fw.session.jobs.any (fun j => waits j.asker) || (s.fw.session.st == 4 && waits s.fw.session.verifyFor)

/-- A command is in progress: it has been taken, and neither answered nor QUEUED (R29). -/
def commandInProgress (s : State) : Bool := (List.range 5).any (replyOwedTo s)

/-- The CP takes commands: it executes one at a time (R29). -/
def cpRuns (s : State) : Bool := cpPresent s && !commandInProgress s

/-! ## What the CP executes for itself -/

/-- The clocks of serial ports run in this state (R234); not in a fault that puts their pins in the fault state (R204,
Table 9-7). -/
def serialAlive (s : State) : Bool :=
  (fabricStates s || s.pwr.dev == .doze) && !s.eng.halted && !s.pwr.thermalShut

/-- R237: a lock at rate code `code` asks for a change of the receiver's domain: AUTO_RATE is set, the receiver is the
reference in force, and the domain allows the rate and does not have it. -/
def rateAsked (s : State) (code : Nat) : Bool :=
  let d := u8 (entryOf s 9) 2
  let e := entryOf s (32 + d)
  let q := tget Domain.off s.clk.domains d
  bit (u8 (entryOf s 9) 0) 1 && u8 e (8 + 2 * q.alt) == 3 && decide (code ≤ 11) && bit (u16 e 2) code
    && q.pendRate.getD q.rate != code

/-- The change of rate of R237 is due. -/
def autoRateDue (s : State) : Bool :=
  serialAlive s && portEnabled s 9 && s.ser.spdif.rxState == 2 && s.ser.spdif.autoDue && rateAsked s s.ser.spdif.rxRate

/-- A re-plan that has been decided can be executed (R391): not before DOZE ends, and not while a variant changes or a chart
is selected. -/
def replanReady (s : State) : Bool :=
  s.hull.replanDue && fabricStates s && (s.cs.chart.map (·.hasReduced)).getD false && !s.cs.reduced && s.cs.change.isNone
    && s.cs.select.isNone

/-- The CP has work of no context, which it executes after the command in progress and before the next context's turn: fired
bindings (R82), the change of rate of R237, a re-plan (R391). -/
def ownDue (s : State) : Bool := !decide (s.host.fired = []) || autoRateDue s || replanReady s

/-- The CP serves this context. -/
def cpServes (s : State) (c : Ctx) : Bool :=
  packetsTaken s c && !commandInProgress s && !ownDue s

/-- The command takes the next log number (R29). -/
def takeLog (s : State) : State :=
  { s with
    host := { s.host with log := nextLog s.host.log, logWrapped := s.host.logWrapped || s.host.log == 0xFFFFFFFF }
    free := s.free + 1 }

/-- A value that the specification leaves open in the reply of the command in progress: free. -/
def openValue (s : State) (k : Nat) : Nat := (Config.answer s.free k).toNat

/-- Chunk `chunk` of `block` is the last that the block waits for (R413). -/
def completesBlock (s : State) (p : List Byte) : Bool :=
  (List.range 8).all (fun k => k == u8 p 2 || !decide (tget [] s.fw.session.chunks (u16 p 0 * 8 + k) = []))

/-- NVM writes are held: by SHELTER, or by a warning in LOADER, BOOT or HARBOUR (R371, R373). -/
def nvmHeld (s : State) : Bool :=
  s.pwr.shelter || ((s.pwr.warnAvdd || s.pwr.warnVin) && s.pwr.dev ∈ [Dev.loader, Dev.boot, Dev.harbour])

/-- The execution of the command needs an NVM write (R371). -/
def needsNvm (s : State) (op : Nat) (p : List Byte) : Bool :=
  alwaysWritesNvm op || (op == 0x0E03 && completesBlock s p)
    || (op == 0x0E07 && (s.fw.session.st ∈ [2, 3, 5]))

/-- What an accepted command answers: the state, its status and its result data. -/
structure Done where
  s : State
  status : Nat
  result : List Byte

def ok (s : State) : Done := { s := s, status := stOk, result := [] }
def okWith (r : List Byte) (s : State) : Done := { s := s, status := stOk, result := r }
def queuedDone (s : State) : Done := { s := s, status := stQueued, result := [] }
def refuse (st : Nat) (s : State) : Done := { s := s, status := st, result := [] }

/-- Steps 1 to 5 of R458 as far as they do not need the command's own chapter. -/
def refusal (op : Nat) (c : Ctx) (p : List Byte) (s : State) : Option Nat :=
  firstRefusal
    [(s.pwr.dev == .harbour && !harbourAdmits op, stWrongState),
     (!isOpen s (ctxNum c) && op != 0x0101, stWrongState),
     (supervisorOnly op && s.host.supervisor != c, stDenied),
     (s.cs.chart.isNone && needsChart op p, stWrongState),
     (!reservedZero op p, stBadParam)]

/-- The reply to a command. -/
def replyTo (op : Nat) (o : Issue) (status log : Nat) (result : List Byte) : Reply :=
  { v1 := o.v1, opcode := op, tag := o.tag, status := status, log := log, result := result }

/-- A packet that fails a check is answered with LOG 0 and has no effect (R27). -/
def answerUnexecuted (op : Nat) (o : Issue) (status : Nat) (s : State) : State :=
  placeReply (ctxNum o.ctx) (replyTo op o status 0 []) s

/-- The CP takes a command (R27, R29, R458). `check` gives the refusal of the command's own chapter, if any, and
`run` what it does under its log number, its reply included. A command that the CP cannot take now leaves the
state as it is: the CP does not run, or the command needs an NVM write that is held (R371, R373). -/
def hostTake (op : Nat) (o : Issue) (p : List Byte) (check : State → Option Nat) (run : Nat → State → State)
    (s : State) : State :=
  if !cpServes s o.ctx then s
  else if o.v1 && decide (15 < op % 256) then s
  else if o.v1 && !(ctxGet s (ctxNum o.ctx)).level1 then answerUnexecuted op o stWrongState s
  else if !lengthOk o.v1 op p then answerUnexecuted op o stBadLength s
  else if nvmHeld s && needsNvm s op p then s
  else
    let log := s.host.log
    let t := takeLog s
    match (refusal op o.ctx p t).or (check t) with
    | some st => placeReply (ctxNum o.ctx) (replyTo op o st log []) t
    | none => run log t

/-- The reply to an accepted command, placed on what it did. -/
def answered (op : Nat) (o : Issue) (log : Nat) (d : Done) : State :=
  placeReply (ctxNum o.ctx) (replyTo op o d.status log d.result) d.s

/-- The CP takes and executes a command that it answers at once: `act` is its effect. -/
def hostRun (op : Nat) (o : Issue) (p : List Byte) (check : State → Option Nat) (act : Nat → State → Done)
    (s : State) : State :=
  hostTake op o p check (fun log t => answered op o log (act log t)) s

/-- The meaning of a host command. -/
def hostCommand (op : Nat) (o : Issue) (p : List Byte) (check : State → Option Nat) (act : Nat → State → Done)
    (s : State) : Host.Outcome State Fault Refusal :=
  .next (hostRun op o p check act s)

/-- No refusal of its own. -/
def noCheck (_ : State) : Option Nat := none

/-- A command that only reads: its result data. -/
def reads (f : State → List Byte) (_ : Nat) (s : State) : Done := okWith (f s) s

/-- An effect that the part has on its own, when its condition holds; otherwise the state stays. -/
def whenever (cond : State → Bool) (act : State → State) (s : State) : Host.Outcome State Fault Refusal :=
  .next (if cond s then act s else s)

end Sys2Proof.Machine
end

