-- ==== Sys2Proof/Machine/Engine.lean ====
section
/-! DEFINITION. Berths, lanes and the instruction words of the Falwen engine (chapter 5). Each word's command
runs only when the lane stands at that very word in the Near bank. -/

namespace Sys2Proof.Machine

/-! ## Berths and clip events -/

/-- A clip event on a berth (R141): every context's count, and the present interval's set. -/
def clipEvent (b : Nat) (s : State) : State :=
  { s with par := { s.par with
      clips := (List.range 5).foldl (fun t c => tincrSat 16 t (c * 1024 + b)) s.par.clips
      clipped := withElem b s.par.clipped } }

/-- A clip event when a condition holds. -/
def clipIf (c : Bool) (b : Nat) (s : State) : State := if c then clipEvent b s else s

/-- The word that an instruction reads from a berth (R88, R89). -/
def readBerth (s : State) (a : Nat) : Word := if a < 256 then tget 0 s.eng.working a else tget 0 s.eng.work a

def sinkGet (s : State) (k : Nat) : Sink := tget Sink.reset s.eng.sinks k

def sinkMod (s : State) (k : Nat) (f : Sink → Sink) : State :=
  { s with eng := { s.eng with sinks := tmod Sink.reset s.eng.sinks k f } }

/-- R96: store an accumulator value to a work or sink berth, with the shift of AUX. -/
def storeBerth (l dst : Nat) (x : Int) (aux : Byte) (s : State) : State :=
  let w := satWord (shiftAux x aux)
  let t := clipIf w.2 dst s
  if dst < 512 then sinkMod t (dst - 256) (fun k => { k with word := w.1, landed := true, lane := l })
  else { t with eng := { t.eng with work := tset 0 t.eng.work dst w.1 } }

/-! ## Lanes -/

def laneGet (s : State) (l : Nat) : Lane := tget Lane.reset s.eng.lanes l

def laneMod (s : State) (l : Nat) (f : Lane → Lane) : State :=
  { s with eng := { s.eng with lanes := tmod Lane.reset s.eng.lanes l f } }

def accGet (a : Lane) (i : BitVec 2) : BitVec 48 :=
  match i.toNat with
  | 0 => a.a0
  | 1 => a.a1
  | 2 => a.a2
  | _ => a.a3

def accSet (i : BitVec 2) (v : BitVec 48) (a : Lane) : Lane :=
  match i.toNat with
  | 0 => { a with a0 := v }
  | 1 => { a with a1 := v }
  | 2 => { a with a2 := v }
  | _ => { a with a3 := v }

/-- Put an exact sum into an accumulator: it saturates, and the saturation sets ACC_SAT (R94). -/
def accPut (i : BitVec 2) (x : Int) (a : Lane) : Lane :=
  let v := satAcc x
  accSet i v.1 { a with accSat := a.accSat || v.2 }

/-- An instruction word (Table 5-3). -/
def encodeWord (op src par dst acc aux arg : Nat) : BitVec 64 :=
  BitVec.ofNat 64 (op * 2 ^ 58 + src * 2 ^ 48 + par * 2 ^ 36 + dst * 2 ^ 26 + acc * 2 ^ 24 + aux * 2 ^ 16 + arg)

def wordOp (w : BitVec 64) : Nat := bits w.toNat 63 58
def wordSrc (w : BitVec 64) : Nat := bits w.toNat 57 48
def wordPar (w : BitVec 64) : Nat := bits w.toNat 47 36
def wordDst (w : BitVec 64) : Nat := bits w.toNat 35 26
def wordAcc (w : BitVec 64) : Nat := bits w.toNat 25 24
def wordAux (w : BitVec 64) : Nat := bits w.toNat 23 16
def wordArg (w : BitVec 64) : Nat := bits w.toNat 15 0

/-- Opcodes of Table 5-4. -/
def opcodeKnown (op : Nat) : Bool :=
  op ∈ [0x00, 0x01, 0x02, 0x03, 0x04, 0x08, 0x0C, 0x0D, 0x10, 0x14, 0x18, 0x20, 0x3F]

/-- A word of a bank; a word nothing has written is NOP. -/
def bankWord (b : Bank) (l w : Nat) : BitVec 64 := tget 0 b.words (l * 1024 + w)

/-- The lane is executing: the tick runs, and the lane neither has ended nor waits nor stands on a fault. -/
def laneRuns (s : State) (l : Nat) : Bool :=
  let a := laneGet s l
  s.eng.ticking && !a.ended && !a.faulted && a.wait.isNone

/-- A fabric period in 1/28,224,000 s, which every fabric rate divides. -/
def periodUnits (s : State) : Nat := 28224000 / fabricHz s

/-- Happenings grow older by a fabric period. -/
def ageTimes (s : State) (l : List (Nat × Bool)) : List (Nat × Bool) := l.map (fun f => (f.1 + periodUnits s, f.2))

/-- Those of the last 10 s, oldest first (R108, R211). The fabric periods tell while the tick has run since; of those before a
stop of the tick it is free how many of the oldest are over 10 s old, unless the periods alone say so. -/
def recentTimes (s : State) (l : List (Nat × Bool)) : List (Nat × Bool) :=
  let fs := l.filter (fun f => decide (f.1 < 282240000))
  fs.drop ((Config.reading s.free).toNat % ((fs.filter (·.2)).length + 1))

/-- The tick stops. No tick closes the period, so nothing of it is abandoned for want of time (R106). What the lanes
and the dynamics stage have not finished is dropped (DESIGN CHOICE, log entry 98). -/
def stopTick (s : State) : State :=
  { s with
    out := { s.out with overcurrents := s.out.overcurrents.map (fun t => (t.1, true)) }
    eng := { s.eng with
      ticking := false
      faults := s.eng.faults.map (fun f => (f.1, true))
      lanes := tmapKeys Lane.reset s.eng.lanes (fun _ a => { a with ended := true, wait := none })
      sinks := tmapKeys Sink.reset s.eng.sinks (fun _ x => { x with landed := x.landed && x.done }) } }

/-- The lane stands at this word of the Near bank, and the word has no parity error. -/
def laneAt (s : State) (l : Nat) (w : BitVec 64) : Bool :=
  laneRuns s l && bankWord s.cs.near l (laneGet s l).pos == w
    && !decide (l * 1024 + (laneGet s l).pos ∈ s.cs.near.parity)

/-- The word is complete: the next one, or the end after word 1,023 (R100). -/
def advance (a : Lane) : Lane := { a with pos := a.pos + 1, ended := decide (1023 ≤ a.pos) }

/-- Execute the word that a lane stands at. -/
def runWord (l : Nat) (w : BitVec 64) (act : State → State) (s : State) : Host.Outcome State Fault Refusal :=
  .next (if laneAt s l w then laneMod (act s) l advance else s)

def uFlag (b : Bool) : Nat := if b then 0x8000 else 0

/-- The present value of a parameter slot. -/
def slotGet (s : State) (k : Nat) : Slot := tget Slot.reset s.par.slots k

/-- The multiplier of R95. -/
def multiplier (s : State) (unityBit : Bool) (par : Nat) : Int :=
  if unityBit then 2 ^ 27 else (slotGet s par).present.toInt

/-- MAC's effect (R95): the rounded product is added to the accumulator. -/
def macEffect (l : Nat) (acc : BitVec 2) (x m : Int) (s : State) : State :=
  laneMod s l (fun a => accPut acc ((accGet a acc).toInt + mulQ27 x m) a)

/-- R97: no effect. -/
def execNop (l : Fin 8) (s : State) : Host.Outcome State Fault Refusal := runWord l.val 0 id s

/-- R97: A[ACC] becomes 0. -/
def execClr (l : Fin 8) (acc : BitVec 2) (s : State) : Host.Outcome State Fault Refusal :=
  runWord l.val (encodeWord 0x01 0 0 0 acc.toNat 0 0) (fun s => laneMod s l.val (accSet acc 0)) s

/-- R95: A[ACC] + word(SRC) × m. -/
def execMac (l : Fin 8) (src : BitVec 10) (par : BitVec 12) (acc : BitVec 2) (unity : Bool) (s : State) :
    Host.Outcome State Fault Refusal :=
  runWord l.val (encodeWord 0x02 src.toNat par.toNat 0 acc.toNat 0 (uFlag unity))
    (fun s => macEffect l.val acc (readBerth s src.toNat).toInt (multiplier s unity par.toNat) s) s

/-- R96, R97: as MAC, then store with shift AUX, then clear. -/
def execMacs (l : Fin 8) (src : BitVec 10) (par : BitVec 12) (dst : BitVec 10) (acc : BitVec 2) (aux : Byte)
    (unity : Bool) (s : State) : Host.Outcome State Fault Refusal :=
  runWord l.val (encodeWord 0x03 src.toNat par.toNat dst.toNat acc.toNat aux.toNat (uFlag unity))
    (fun s =>
      let t := macEffect l.val acc (readBerth s src.toNat).toInt (multiplier s unity par.toNat) s
      laneMod (storeBerth l.val dst.toNat (accGet (laneGet t l.val) acc).toInt aux t) l.val (accSet acc 0)) s

/-- R96, R97: store A[ACC] with shift AUX; the accumulator is unchanged. -/
def execSto (l : Fin 8) (dst : BitVec 10) (acc : BitVec 2) (aux : Byte) (s : State) :
    Host.Outcome State Fault Refusal :=
  runWord l.val (encodeWord 0x04 0 0 dst.toNat acc.toNat aux.toNat 0)
    (fun s => storeBerth l.val dst.toNat (accGet (laneGet s l.val) acc).toInt aux s) s

/-! ## Biquad sections (R123, R126, R462) -/

def sectionGet (s : State) (k : Nat) : Section := tget Section.reset s.par.sections k

def sectionMod (s : State) (k : Nat) (f : Section → Section) : State :=
  { s with par := { s.par with sections := tmod Section.reset s.par.sections k f } }

/-- A Q3.29 coefficient times a Q5.27 or Q21.27 value, rounded to 27 fraction bits. -/
def coefProduct (c : BitVec 32) (x : Int) : Int := rneShift (c.toInt * x) 29

/-- One bank's output: the five rounded products summed exactly and saturated once (R462). -/
def bankOutput (c : List (BitVec 32)) (x x1 x2 : Word) (y1 y2 : BitVec 48) : BitVec 48 × Bool :=
  satAcc (coefProduct (c.getD 0 0) x.toInt + coefProduct (c.getD 1 0) x1.toInt
    + coefProduct (c.getD 2 0) x2.toInt - coefProduct (c.getD 3 0) y1.toInt - coefProduct (c.getD 4 0) y2.toInt)

/-- The section's output for a sample and its state after it: during a crossfade both banks are computed
and weighed by k/N; otherwise the active bank alone (R126). The flag tells a saturation. -/
def sectionSample (q : Section) (x : Word) : BitVec 48 × Section × Bool :=
  let oa := bankOutput q.bankA x q.x1 q.x2 q.ya1 q.ya2
  let ob := bankOutput q.bankB x q.x1 q.x2 q.yb1 q.yb2
  let q1 := { q with x1 := x, x2 := q.x1 }
  let fading := match q.sel with
    | some f => if f.latched && decide (f.k ≤ f.n) && f.n != 0 then some f else none
    | none => none
  match fading with
  | some f =>
    let yin := if f.toB then ob.1.toInt else oa.1.toInt
    let yout := if f.toB then oa.1.toInt else ob.1.toInt
    let y := BitVec.ofInt 48 (rneDiv (yout * ((f.n : Int) - f.k) + yin * f.k) f.n)
    (y, { q1 with ya1 := oa.1, ya2 := q.ya1, yb1 := ob.1, yb2 := q.yb1 }, oa.2 || ob.2)
  | none =>
    let useB := match q.sel with
      | some f => if f.latched && decide (f.n < f.k) then f.toB else q.activeB
      | none => q.activeB
    if useB then (ob.1, { q1 with yb1 := ob.1, yb2 := q.yb1 }, ob.2)
    else (oa.1, { q1 with ya1 := oa.1, ya2 := q.ya1 }, oa.2)

/-- R97, R462: one sample through a biquad section. -/
def execBq (l : Fin 8) (src : BitVec 10) (par : BitVec 12) (dst : BitVec 10) (acc : BitVec 2)
    (inAcc outAcc : Bool) (s : State) : Host.Outcome State Fault Refusal :=
  runWord l.val (encodeWord 0x08 src.toNat par.toNat dst.toNat acc.toNat (flag inAcc + 2 * flag outAcc) 0)
    (fun s =>
      let x := if inAcc then (satWord (accGet (laneGet s l.val) acc).toInt).1 else readBerth s src.toNat
      let r := sectionSample (sectionGet s par.toNat) x
      let t := laneMod (sectionMod s par.toNat (fun _ => r.2.1)) l.val (fun a => { a with accSat := a.accSat || r.2.2 })
      if outAcc then laneMod t l.val (fun a => accPut acc ((accGet a acc).toInt + r.1.toInt) a)
      else storeBerth l.val dst.toNat r.1.toInt 0 t) s

/-! ## Delay lines (R97, R128, R129) -/

def lineGet (s : State) (k : Nat) : DelayLine := tget DelayLine.absent s.par.lines k

def lineMod (s : State) (k : Nat) (f : DelayLine → DelayLine) : State :=
  { s with par := { s.par with lines := tmod DelayLine.absent s.par.lines k f } }

/-- The place in the pool of a line's slot of `d` periods ago. -/
def lineSlot (s : State) (q : DelayLine) (d : Nat) : Nat :=
  if q.len = 0 then q.base else q.base + (s.eng.period + (q.len - d % q.len)) % q.len

/-- The word of a line at a delay. -/
def lineTap (s : State) (q : DelayLine) (d : Nat) : Word := tget 0 s.par.pool (lineSlot s q d)

/-- R97: word(SRC) goes to the slot of the current period. -/
def execDlw (l : Fin 8) (src : BitVec 10) (line : BitVec 7) (s : State) : Host.Outcome State Fault Refusal :=
  runWord l.val (encodeWord 0x0C src.toNat 0 0 0 line.toNat 0)
    (fun s =>
      let q := lineGet s line.toNat
      if q.len = 0 then s
      else { s with par := { s.par with pool := tset 0 s.par.pool (lineSlot s q 0) (readBerth s src.toNat) } }) s

/-- The tap of a DLR word: during a change of D0 the old and the new tap are weighed by k/N (R129). -/
def delayTap (s : State) (q : DelayLine) (offset : Nat) : Int :=
  match q.sel with
  | some f =>
    if f.latched && decide (f.k ≤ f.n) && f.n != 0 then
      rneDiv ((lineTap s q (q.old + offset)).toInt * ((f.n : Int) - f.k)
        + (lineTap s q (q.d0 + offset)).toInt * f.k) f.n
    else (lineTap s q ((if f.latched then q.d0 else q.old) + offset)).toInt
  | none => (lineTap s q (q.d0 + offset)).toInt

/-- R97: A[ACC] + tap × m. -/
def execDlr (l : Fin 8) (par : BitVec 12) (acc : BitVec 2) (unity : Bool) (line : BitVec 7)
    (offset : BitVec 16) (s : State) : Host.Outcome State Fault Refusal :=
  runWord l.val (encodeWord 0x0D 0 par.toNat 0 acc.toNat (line.toNat + 128 * flag unity) offset.toNat)
    (fun s => macEffect l.val acc (delayTap s (lineGet s line.toNat) offset.toNat)
      (multiplier s unity par.toNat) s) s

/-! ## Crossfade pairs, meters, bindings, fences -/

/-- R121, R462: (1 − g) · word(SRC) + g · word(PAR), rounded once, then stored. -/
def execXf (l : Fin 8) (src par dst : BitVec 10) (pair : Byte) (s : State) : Host.Outcome State Fault Refusal :=
  runWord l.val (encodeWord 0x10 src.toNat par.toNat dst.toNat 0 0 pair.toNat)
    (fun s =>
      let g := (slotGet s (3840 + pair.toNat)).present.toInt
      let x := rneShift ((2 ^ 27 - g) * (readBerth s src.toNat).toInt + g * (readBerth s par.toNat).toInt) 27
      storeBerth l.val dst.toNat x 0 s) s

def meterGet (s : State) (k : Nat) : Meter := tget Meter.absent s.par.meters k

def meterMod (s : State) (k : Nat) (f : Meter → Meter) : State :=
  { s with par := { s.par with meters := tmod Meter.absent s.par.meters k f } }

/-- The mean square after a sample (R140), in 2^-32 of a squared LSB; `up` decides the last place. -/
def meanSquare (ms x tc hz : Nat) (up : Bool) : Nat :=
  let a := 2 ^ 80 - expNegRatio 1000 (tc * hz)
  let x2 := x * x * 2 ^ 32
  if ms ≤ x2 then ms + ((x2 - ms) * a / 2 ^ 80 + flag (up && decide ((x2 - ms) * a % 2 ^ 80 ≠ 0)))
  else ms - ((ms - x2) * a / 2 ^ 80 + flag (up && decide ((ms - x2) * a % 2 ^ 80 ≠ 0)))

/-- The held peak now: held for HOLD ms from the sample that set it, then decaying at DECAY (R140). -/
def heldPeak (m : Meter) (hz : Nat) : Nat :=
  let h := m.hold * hz / 1000
  if m.age ≤ h then m.peak else m.peak * attenWord (m.decay * 100000 * (m.age - h) / hz) / 2 ^ 27

/-- R140: the meter takes its sample. A larger sample than the held peak restarts the hold. -/
def meterSample (m : Meter) (x hz : Nat) (up : Bool) : Meter :=
  { m with
    ms := meanSquare m.ms x m.tc hz up
    peak := if heldPeak m hz < x then x else m.peak
    age := if heldPeak m hz < x then 0 else m.age
    since := (List.range 5).foldl (fun t c => tset 0 t c (max (tget 0 t c) x)) m.since }

/-- R140: meter PAR takes word(SRC). -/
def execMtr (l : Fin 8) (src : BitVec 10) (meter : Byte) (s : State) : Host.Outcome State Fault Refusal :=
  runWord l.val (encodeWord 0x14 src.toNat meter.toNat 0 0 0 0)
    (fun s =>
      let r := drawRound s
      meterMod r.2 meter.toNat (fun m =>
        if m.present then meterSample m (readBerth s src.toNat).toInt.natAbs (fabricHz s) r.1 else m)) s

/-- R97: the binding is the Near bank's; executing the word does nothing. -/
def execLim (l : Fin 8) (par : BitVec 6) (dst : BitVec 10) (protect : Bool) (s : State) :
    Host.Outcome State Fault Refusal :=
  runWord l.val (encodeWord 0x18 0 par.toNat dst.toNat 0 (flag protect) 0) id s

/-- R101: the named lane has completed the target word in this period. -/
def fenceMet (s : State) (lane word : Nat) : Bool :=
  let a := laneGet s lane
  a.ended || a.faulted || decide (word < a.pos)

/-- R101: the lane waits until the named lane has completed the target word. -/
def execFen (l : Fin 8) (lane : BitVec 3) (word : BitVec 10) (s : State) : Host.Outcome State Fault Refusal :=
  .next (if laneAt s l.val (encodeWord 0x20 0 0 0 0 lane.toNat word.toNat) then
      if fenceMet s lane.toNat word.toNat then laneMod s l.val advance
      else laneMod s l.val (fun a => { a with wait := some (lane.toNat, word.toNat) })
    else s)

/-- R101: the fence completes once its condition holds. -/
def execFenRelease (l : Fin 8) (s : State) : Host.Outcome State Fault Refusal :=
  .next (match (laneGet s l.val).wait with
    | some (lane, word) =>
      if s.eng.ticking && fenceMet s lane word then laneMod s l.val (fun a => advance { a with wait := none }) else s
    | none => s)

/-- R100: the lane has finished this period. -/
def execEndWord (l : Fin 8) (s : State) : Host.Outcome State Fault Refusal :=
  .next (if laneAt s l.val (encodeWord 0x3F 0 0 0 0 0 0) then
      laneMod s l.val (fun a => { a with ended := true })
    else s)

end Sys2Proof.Machine
end

