-- ==== Sys2Proof/Machine/Nvm.lean ====
section
/-! DEFINITION. Non-volatile memory (R371, R403, R404): what waits for it, in order, and its erase counts; and the
accounting of supply warnings (R368, R373). -/

namespace Sys2Proof.Machine

/-! ## Sectors (Table 18-1) -/

/-- First sector of a region; the ninth entry ends the last. -/
def regionStart (r : Nat) : Nat := [0, 0x10, 0x190, 0x210, 0x290, 0x2B0, 0x2D0, 0x2F0, 0x300].getD r 0x300

def regionSectors (r : Nat) : List Nat := (List.range (regionStart (r + 1) - regionStart r)).map (fun k => regionStart r + k)

def regionOf (sector : Nat) : Nat := ((List.range 8).find? (fun r => decide (sector < regionStart (r + 1)))).getD 7

/-- The highest erase count of any sector of a region (R396). -/
def regionErases (t : Tbl Nat) (r : Nat) : Nat := ((t.filter (fun e => regionOf e.1 == r)).map (·.2)).foldl max 0

/-- An erase adds one to its sector's count, and NVM_WEAR is posted at 8,000 and at 10,000 (R396, R404). -/
def countErase (sector : Nat) (s : State) : State :=
  let r := regionOf sector
  let n := tget 0 s.hull.erases sector + 1
  let s1 := { s with hull := { s.hull with erases := tset 0 s.hull.erases sector n } }
  let level := if 10000 ≤ n then 2 else flag (decide (8000 ≤ n))
  if level ≤ tget 0 s.hull.wearPosted r then s1
  else
    post 0x0D09 r 0 (min n 0xFFFF + 65536 * level) .none
      { s1 with hull := { s1.hull with wearPosted := tset 0 s1.hull.wearPosted r level } }

/-! ## Writes that wait -/

/-- The settings copy that a save writes: the one not in force, A where none is (R427). -/
def saveTarget (s : State) : Nat := if s.fw.setCopy = 0 then 1 else 0

/-- Rows of a settings copy: a header of 32 bytes, and an item of 8 bytes with its data padded to 4 (R404, R425, R426). -/
def copyRows (items : List SettingsItem) : Nat :=
  ceilDiv (32 + (items.map (fun x => 8 + (x.data.length + 3) / 4 * 4)).foldl (· + ·) 0) 256

/-- A settings copy is written: its sectors erased, the rows of its items, and last the row with its header (R427). -/
def copySteps (s : State) (items : List SettingsItem) : List NvmStep :=
  (regionSectors (4 + saveTarget s)).map NvmStep.erase ++ List.replicate (copyRows items - 1) .row ++ [.save]

/-- The items of the settings copy in force. -/
def copyItems (s : State) : List SettingsItem := if s.fw.setCopy = 0 then s.fw.copyA.items else s.fw.copyB.items

/-- The summary copy in force: the valid one with the higher sequence number (R394). -/
def storedHull (h : HullState) : HullStored :=
  match h.sumA, h.sumB with
  | some a, some b => if a.seq < b.seq then b else a
  | some a, none => a
  | none, some b => b
  | none, none => HullStored.new

/-- A summary copy passes its CRC. -/
def summaryOk (h : HullState) : Bool := h.sumA.isSome || h.sumB.isSome

/-- The summary copy that the next write takes: the one not in force, the first where none is (R394). -/
def summaryTarget (h : HullState) : Nat :=
  match h.sumA, h.sumB with
  | some a, some b => if a.seq < b.seq then 0 else 1
  | some _, none => 1
  | _, _ => 0

/-- First sector of a hull-log ring: 1 hourly, 2 daily, 3 weekly (Table 17-4). -/
def ringSector (kind : Nat) : Nat := [0, 0x2D4, 0x2DC, 0x2EC].getD kind 0x2D4

/-- A sector of 4 KiB holds 128 records; its erase goes before the first of them. The records that it held stay until they
are replaced (DESIGN CHOICE, log entry 124). -/
def recordSteps (s : State) (kind : Nat) : List NvmStep :=
  let p := tget 0 s.hull.ringPlaces kind
  (if p % 128 = 0 then [NvmStep.erase (ringSector kind + p / 128)] else []) ++ [.row]

/-- What a job asks of the NVM, in order. -/
def jobSteps (s : State) (j : NvmJob) : List NvmStep :=
  match j with
  | .chartErase _ slot _ => (regionSectors (2 + slot)).map NvmStep.erase
  | .settingsErase _ => (regionSectors 4 ++ regionSectors 5).map NvmStep.erase
  | .settingsSave _ items => copySteps s items
  | .confirm _ _ => (if s.fw.setState = 1 then copySteps s (copyItems s) else []) ++ [.row]
  | .hullSummary _ _ => [.erase (0x2D0 + 2 * summaryTarget s.hull), .erase (0x2D1 + 2 * summaryTarget s.hull), .row]
  | .hullRecord r => recordSteps s r.kind
  | _ => [.row]

/-- The oldest job begins, or goes on after SHELTER. -/
def nvmStart (s : State) : State :=
  match s.fw.jobs with
  | [] => s
  | j :: _ =>
    if nvmHeld s then s
    else if s.fw.steps = [] then { s with fw := { s.fw with steps := jobSteps s j, begun := true } }
    else { s with fw := { s.fw with begun := true } }

/-- A write joins those that wait. -/
def askNvm (j : NvmJob) (s : State) : State := nvmStart { s with fw := { s.fw with jobs := s.fw.jobs ++ [j] } }

/-- The hull-log summary is to be written (R395). -/
def askSummary (s : State) : State := askNvm (.hullSummary .own none) s

/-- The write of a firmware block (R413) that SHELTER finds in its erase starts again; where it stands is free. -/
def blockShelter (s : State) : State :=
  match s.fw.session.jobs with
  | [] => s
  | j :: _ => let d := drawElapsed s; if d.1 then countErase (16 + j.block) d.2 else d.2

/-- SHELTER is entered: an erase stops and will be repeated, a row under way completes (R369, R404). -/
def nvmShelter (s : State) : State :=
  match s.fw.begun, s.fw.steps with
  | true, .erase k :: _ => countErase k { s with fw := { s.fw with begun := false } }
  | true, _ => s
  | false, _ => blockShelter s

/-! ## Supply warnings -/

def spanMod (s : State) (f : HullSpan → HullSpan) : State := { s with hull := { s.hull with span := f s.hull.span } }

/-- The three warning counts of a span saturate at 255 (Table 17-5). -/
def addBrown (rail : Nat) (b : Nat × Nat × Nat) : Nat × Nat × Nat :=
  (min (b.1 + flag (rail == 0)) 255, min (b.2.1 + flag (rail == 1)) 255, min (b.2.2 + flag (rail == 2)) 255)

/-- BROWNOUT_WARN; in SLEEP it waits for the wake, and before ACTIVE or TEST the event system does not run (R373). -/
def postBrown (rail data : Nat) (s : State) : State :=
  if s.pwr.dev = .sleep then { s with pwr := { s.pwr with unposted := s.pwr.unposted ++ [(rail, data)] } }
  else if s.pwr.dev = .loader ∨ s.pwr.dev = .boot then s
  else post 0x0D01 rail 0 data .none s

/-- A warning crossing adds one to the rail's brown-out count (R368). -/
def countBrown (rail : Nat) (s : State) : State :=
  let s1 := spanMod s (fun q => { q with brown := addBrown rail q.brown })
  { s1 with
    hull := { s1.hull with brownCounts := tincrSat 32 s1.hull.brownCounts rail }
    pwr := { s1.pwr with warnCounts := tincrSat 32 s1.pwr.warnCounts rail } }

end Sys2Proof.Machine
end

