-- ==== Sys2Proof/Machine/Hosts.lean ====
section
/-! DEFINITION. Host contexts (chapter 2): the commands of groups 0x01 and 0x02, the packet checks, opening
and closing of contexts, and the moorings. -/

namespace Sys2Proof.Machine

/-! ## Moorings and supervisor -/

/-- DATA of MOORING_CHANGED (Table 2-11). -/
def mooringData (id new old : Nat) : Nat := id + 65536 * new + 16777216 * old

/-- Change the owner of a resource; a change posts MOORING_CHANGED to the supervisor (R35). -/
def changeOwner (log id new : Nat) (s : State) : State :=
  let old := ownerOf s id
  if old = new then s
  else postSel [ctxNum s.host.supervisor] 0x0103 (id % 256) log (mooringData id new old) .none (setOwner s id new)

/-- Every resource that a context owns becomes unowned (R35), in rising resource ID, the order of the events
(DESIGN CHOICE, log entry 91). -/
def releaseAll (n log : Nat) (s : State) : State :=
  (allResources.filter (fun id => ownerOf s id == n)).foldl (fun t id => changeOwner log id 0xFF t) s

/-- A context that opens becomes owner of every unowned resource whose chart default owner it is (R35), in the order
of the chart's MOORINGS section (DESIGN CHOICE, log entry 91). -/
def claimDefaults (n log : Nat) (s : State) : State :=
  match s.cs.chart with
  | none => s
  | some c =>
    (c.moorings.filter (fun m => m.2 == n && ownerOf s m.1 == 0xFF)).foldl
      (fun t m => changeOwner log m.1 n t) s

/-- Place the moorings from a chart (R35): an open default owner owns, shared is shared, the rest is unowned. The
events follow the rising resource ID (DESIGN CHOICE, log entry 91). -/
def placeMoorings (c : Chart) (log : Nat) (s : State) : State :=
  allResources.foldl (fun t id =>
    let d := c.defaultOwner id
    changeOwner log id (if d = 0xFE then 0xFE else if d < 5 ∧ isOpen t d then d else 0xFF) t) s

/-- Make a context supervisor; a change posts SUPERVISOR_CHANGED to every open context (R36). -/
def makeSupervisor (c : Ctx) (log : Nat) (s : State) : State :=
  if s.host.supervisor = c then s
  else
    let old := ctxNum s.host.supervisor
    post 0x0105 (ctxNum c) log old .none { s with host := { s.host with supervisor := c } }

/-- What a closing context leaves behind elsewhere: its chart write session ends (R85), and its update
session is abandoned (Table 18-4). -/
def abandonSessions (c : Ctx) (s : State) : State :=
  let s1 := match s.cs.session with
    | some w => if w.owner = c then { s with cs := { s.cs with session := none } } else s
    | none => s
  if s1.fw.session.owner = some c then
    if s1.fw.session.st ≤ 1 then { s1 with fw := { s1.fw with session := Session.idle } }
    else { s1 with fw := { s1.fw with session := { s1.fw.session with owner := none } } }
  else s1

/-- Close H2, H3 or H4 (R22, R35, R36, R42): the cause is that of CONTEXT_CLOSED. The closing context
receives none of the events. -/
def closeContext (n cause log : Nat) (s : State) : State :=
  if !isOpen s n then s
  else
    let s1 := ctxMod s n (fun c => { c with isOpen := false, level1 := false, mask := 0xFFFE, queue := [], seq := 0 })
    let s2 := if n = 4 then { s1 with host := { s1.host with h4Controller := none } } else s1
    let s3 := abandonSessions (ctxOf n) (refreshPins s2)
    let s4 := if s3.host.supervisor = ctxOf n then makeSupervisor .h0 log s3 else s3
    post 0x0102 n log cause .none (releaseAll n log s4)

/-! ## Group 0x01 -/

def helloCheck (o : Issue) (p : List Byte) (_ : State) : Option Nat :=
  firstRefusal [(decide (1 < u8 p 0), stBadParam),
    (u8 p 0 == 1 && decide (2 ≤ ctxNum o.ctx), stBadParam)]

/-- R22, R35, R42, R43: a closed context opens at level 0 and takes its default moorings; an open one only
takes the level. CONTEXT_OPENED is posted before the MOORING_CHANGED events (DESIGN CHOICE, log entry 91). -/
def helloDo (o : Issue) (p : List Byte) (log : Nat) (s : State) : Done :=
  let n := ctxNum o.ctx
  let t := if isOpen s n then ctxMod s n (fun c => { c with level1 := u8 p 0 == 1 })
    else
      let s1 := ctxMod s n (fun c =>
        { c with isOpen := true, level1 := u8 p 0 == 1, mask := 0xFFFE, queue := [], seq := 0 })
      let s1 := if n = 4 then { s1 with host := { s1.host with h4Controller := s1.host.vendor.map (·.1) } } else s1
      claimDefaults n log (post 0x0101 n log (u8 p 0) .none s1)
  okWith (b4 Config.deviceId ++ b4 t.fw.running.fwVersion ++ b1 n ++ b1 (ctxNum t.host.supervisor)
    ++ b1 (u8 p 0) ++ zeros 1) t

def execHello (o : Issue) (p : List Byte) (s : State) : Host.Outcome State Fault Refusal :=
  hostCommand 0x0101 o p (helloCheck o p) (helloDo o p) s

/-- R41: H2 to H4 close; H0 and H1 release their moorings, take the default mask and stay open. -/
def byeDo (o : Issue) (log : Nat) (s : State) : Done :=
  let n := ctxNum o.ctx
  if 2 ≤ n then ok (closeContext n 0 log s)
  else ok (ctxMod (releaseAll n log s) n (fun c => { c with mask := 0xFFFE }))

def execBye (o : Issue) (p : List Byte) (s : State) : Host.Outcome State Fault Refusal :=
  hostCommand 0x0102 o p noCheck (byeDo o) s

/-- The log number before a command's own (GET_INFO). -/
def logBefore (s : State) (log : Nat) : Nat :=
  if log = 1 then (if s.host.logWrapped then 0xFFFFFFFF else 0) else log - 1

def getInfoDo (log : Nat) (s : State) : Done :=
  okWith (b4 Config.deviceId ++ b4 s.fw.running.fwVersion ++ b4 s.fw.running.security
    ++ b1 (if s.cs.chart.isSome then s.cs.inUse else openValue s 0) ++ zeros 3
    ++ b4 (match s.cs.chart with | some c => c.chartId | none => openValue s 1)
    ++ b4 (logBefore s log)) s

def execGetInfo (o : Issue) (p : List Byte) (s : State) : Host.Outcome State Fault Refusal :=
  hostCommand 0x0103 o p noCheck getInfoDo s

/-- Codes of Table 2-9, with 0x07 for SLEEP as POWER_STATE gives it; a state that has none reads 0. -/
def devCode (d : Dev) : Nat :=
  match d with
  | .harbour => 1
  | .boot => 2
  | .active => 3
  | .doze => 4
  | .test => 5
  | .recovery => 6
  | .sleep => 7
  | .off => 0
  | .por => 0
  | .loader => 0

def getStateResult (s : State) : List Byte :=
  b1 (devCode s.pwr.dev)
    ++ b1 (flag s.pwr.shelter + 2 * flag s.fw.probation + 4 * flag s.fw.fallback)
    ++ zeros 2 ++ b4 (stampOf s)

def execGetState (o : Issue) (p : List Byte) (s : State) : Host.Outcome State Fault Refusal :=
  hostCommand 0x0104 o p noCheck (reads getStateResult) s

/-- The IDs that CLAIM and its kin list. -/
def listedIds (p : List Byte) : List Nat := (List.range (u8 p 0)).map (fun i => u16 p (2 + 2 * i))

/-- A count outside 1 to 64 (Table 2-8). -/
def idCountCheck (p : List Byte) (_ : State) : Option Nat :=
  firstRefusal [(u8 p 0 == 0 || decide (64 < u8 p 0), stBadParam)]

/-- Table 2-6: the outcome of a mooring command for one resource, by its present owner. -/
def claimStatus (s : State) (c : Ctx) (id : Nat) : Nat :=
  let w := ownerOf s id
  if !resourceValid id || w == 0xFE then stBadParam
  else if w == 0xFF || w == ctxNum c then stOk else stConflict

def releaseStatus (s : State) (c : Ctx) (id : Nat) : Nat :=
  let w := ownerOf s id
  if !resourceValid id || w == 0xFE then stBadParam else if w == ctxNum c then stOk else stNotOwner

def forceStatus (s : State) (id : Nat) : Nat :=
  if !resourceValid id || ownerOf s id == 0xFE then stBadParam else stOk

/-- R34: all or none, and the reply names the first resource that failed. -/
def mooringCommand (p : List Byte) (statusOf : Nat → Nat) (effect : Nat → State → State) (s : State) : Done :=
  let ids := listedIds p
  match (List.range ids.length).find? (fun i => statusOf (ids.getD i 0) != stOk) with
  | some i =>
    let st := statusOf (ids.getD i 0)
    { s := s, status := st, result := b1 i ++ b1 st }
  | none => okWith (b1 0xFF ++ b1 stOk) (ids.foldl (fun t id => effect id t) s)

def claimDo (o : Issue) (p : List Byte) (log : Nat) (s : State) : Done :=
  mooringCommand p (claimStatus s o.ctx) (fun id => changeOwner log id (ctxNum o.ctx)) s

def execClaim (o : Issue) (p : List Byte) (s : State) : Host.Outcome State Fault Refusal :=
  hostCommand 0x0105 o p (idCountCheck p) (claimDo o p) s

def releaseDo (o : Issue) (p : List Byte) (log : Nat) (s : State) : Done :=
  mooringCommand p (releaseStatus s o.ctx) (fun id => changeOwner log id 0xFF) s

def execRelease (o : Issue) (p : List Byte) (s : State) : Host.Outcome State Fault Refusal :=
  hostCommand 0x0106 o p (idCountCheck p) (releaseDo o p) s

/-- A forced release also posts MOORING_LOST to the former owner (R35). -/
def forceOne (log id : Nat) (s : State) : State :=
  let w := ownerOf s id
  if w < 5 then
    postSel [w] 0x0104 (id % 256) log (id + 65536 * ctxNum s.host.supervisor) .none (changeOwner log id 0xFF s)
  else s

def forceReleaseDo (p : List Byte) (log : Nat) (s : State) : Done :=
  mooringCommand p (forceStatus s) (forceOne log) s

def execForceRelease (o : Issue) (p : List Byte) (s : State) : Host.Outcome State Fault Refusal :=
  hostCommand 0x0107 o p (idCountCheck p) (forceReleaseDo p) s

def getMooringsCheck (p : List Byte) (_ : State) : Option Nat :=
  firstRefusal [(classInstances (u8 p 0) == 0, stBadParam)]

def getMooringsResult (p : List Byte) (s : State) : List Byte :=
  let n := classInstances (u8 p 0)
  b1 n ++ (List.range n).map (fun i => BitVec.ofNat 8 (ownerOf s (256 * u8 p 0 + i)))

def execGetMoorings (o : Issue) (p : List Byte) (s : State) : Host.Outcome State Fault Refusal :=
  hostCommand 0x0108 o p (getMooringsCheck p) (reads (getMooringsResult p)) s

def setSupervisorCheck (p : List Byte) (s : State) : Option Nat :=
  firstRefusal [(decide (4 < u8 p 0), stBadParam), (!isOpen s (u8 p 0), stWrongState)]

def setSupervisorDo (p : List Byte) (log : Nat) (s : State) : Done := ok (makeSupervisor (ctxOf (u8 p 0)) log s)

def execSetSupervisor (o : Issue) (p : List Byte) (s : State) : Host.Outcome State Fault Refusal :=
  hostCommand 0x0109 o p (setSupervisorCheck p) (setSupervisorDo p) s

def irqAssignCheck (p : List Byte) (_ : State) : Option Nat :=
  firstRefusal [(decide (1 < u8 p 0), stBadParam), (decide (31 < u8 p 1), stBadParam)]

/-- R40: the pin takes its new set, and both pins follow. -/
def irqAssignDo (p : List Byte) (_ : Nat) (s : State) : Done :=
  ok (refreshPins (if u8 p 0 = 0 then { s with host := { s.host with irqSetA := u8 p 1 } }
    else { s with host := { s.host with irqSetB := u8 p 1 } }))

def execIrqAssign (o : Issue) (p : List Byte) (s : State) : Host.Outcome State Fault Refusal :=
  hostCommand 0x010A o p (irqAssignCheck p) (irqAssignDo p) s

def getLogNumberDo (log : Nat) (s : State) : Done := okWith (b4 log) s

def execGetLogNumber (o : Issue) (p : List Byte) (s : State) : Host.Outcome State Fault Refusal :=
  hostCommand 0x010B o p noCheck getLogNumberDo s

def execEcho (o : Issue) (p : List Byte) (s : State) : Host.Outcome State Fault Refusal :=
  hostCommand 0x010C o p noCheck (reads (fun _ => p)) s

def resetCheck (p : List Byte) (_ : State) : Option Nat := firstRefusal [(u16 p 0 != 0xA5C3, stBadParam)]

/-- R41: the reset follows the reply; RESET_RELEASE carries it out (log entry 6). -/
def resetDo (_ : Nat) (s : State) : Done := ok { s with pwr := { s.pwr with resetDue := true } }

def execReset (o : Issue) (p : List Byte) (s : State) : Host.Outcome State Fault Refusal :=
  hostCommand 0x010D o p (resetCheck p) resetDo s

/-! ## Group 0x02 -/

/-- An event record (Table 2-7). -/
def eventBytes (e : Event) : List Byte :=
  b2 e.code ++ b1 e.inst ++ b1 e.seq ++ b4 e.stamp ++ b4 e.log ++ b4 e.data

def eventReadCheck (p : List Byte) (_ : State) : Option Nat :=
  firstRefusal [(u8 p 0 == 0 || decide (63 < u8 p 0), stBadParam)]

def eventReadResult (o : Issue) (p : List Byte) (s : State) : List Byte :=
  let q := (ctxGet s (ctxNum o.ctx)).queue.take (u8 p 0)
  b1 q.length ++ zeros 3 ++ q.flatMap eventBytes

def execEventRead (o : Issue) (p : List Byte) (s : State) : Host.Outcome State Fault Refusal :=
  hostCommand 0x0201 o p (eventReadCheck p) (reads (eventReadResult o p)) s

def eventAckCheck (p : List Byte) (_ : State) : Option Nat :=
  firstRefusal [(u8 p 0 == 0 || decide (64 < u8 p 0), stBadParam)]

def eventAckDo (o : Issue) (p : List Byte) (_ : Nat) (s : State) : Done :=
  let t := ackEvents (ctxNum o.ctx) (u8 p 0) s
  okWith (b1 (ctxGet t (ctxNum o.ctx)).queue.length) t

def execEventAck (o : Issue) (p : List Byte) (s : State) : Host.Outcome State Fault Refusal :=
  hostCommand 0x0202 o p (eventAckCheck p) (eventAckDo o p) s

def eventSubscribeCheck (p : List Byte) (_ : State) : Option Nat := firstRefusal [(bit (u8 p 0) 0, stBadParam)]

def eventSubscribeDo (o : Issue) (p : List Byte) (_ : Nat) (s : State) : Done :=
  ok (ctxMod s (ctxNum o.ctx) (fun c => { c with mask := u16 p 0 }))

def execEventSubscribe (o : Issue) (p : List Byte) (s : State) : Host.Outcome State Fault Refusal :=
  hostCommand 0x0203 o p (eventSubscribeCheck p) (eventSubscribeDo o p) s

/-- DATA of the newest EVENT_LOST in a queue, else 0 (log entry 12). -/
def lostCount (q : List Event) : Nat := ((q.reverse.find? (fun e => e.code == 0x0201)).map (·.data)).getD 0

def eventStatusResult (o : Issue) (s : State) : List Byte :=
  let c := ctxGet s (ctxNum o.ctx)
  b1 c.queue.length ++ zeros 1 ++ b2 c.mask ++ b4 (lostCount c.queue)

def execEventStatus (o : Issue) (p : List Byte) (s : State) : Host.Outcome State Fault Refusal :=
  hostCommand 0x0204 o p noCheck (reads (eventStatusResult o)) s

/-- R42: every entry is discarded, EVENT_LOST included; SEQ does not change. -/
def eventFlushDo (o : Issue) (_ : Nat) (s : State) : Done :=
  let n := ctxNum o.ctx
  okWith (b1 (ctxGet s n).queue.length) (refreshPins (ctxMod s n (fun c => { c with queue := [] })))

def execEventFlush (o : Issue) (p : List Byte) (s : State) : Host.Outcome State Fault Refusal :=
  hostCommand 0x0205 o p noCheck (eventFlushDo o) s

/-! ## Packets (R24, R27, R43, R44, R461) -/

/-- Commands that a context holds awaiting execution (Table 2-1). -/
def heldLimit (n : Nat) : Nat := if n < 2 then 1 else 4

/-- The version of a packet that passes check 1: true for version 1. -/
def packetVersion (b : List Byte) : Option Bool :=
  if u8 b 0 != 0x4B then none
  else if u8 b 1 / 16 == 1 then some true
  else if u8 b 1 / 16 == 2 then some false
  else none

/-- OPCODE as its version 2 number (R44). -/
def packetOpcode (v1 : Bool) (b : List Byte) : Nat :=
  if v1 then u8 b 2 / 16 * 256 + u8 b 2 % 16 else u16 b 2

def packetTag (v1 : Bool) (b : List Byte) : Byte := if v1 then b.getD 3 0 else b.getD 4 0

def packetLength (v1 : Bool) (b : List Byte) : Nat := if v1 then u8 b 5 else u16 b 6

def packetPayload (v1 : Bool) (b : List Byte) : List Byte :=
  if v1 then bytesAt b 6 (u8 b 5) else bytesAt b 8 (u16 b 6)

def packetTotal (v1 : Bool) (b : List Byte) : Nat := packetLength v1 b + (if v1 then 7 else 10)

/-- Check 3: the CRC of the packet's version. -/
def packetCrcOk (v1 : Bool) (b : List Byte) : Bool :=
  let n := packetLength v1 b
  if v1 then u8 b (6 + n) == crc8 (b.take (6 + n)) else u16 b (8 + n) == crc16 (b.take (8 + n))

/-- The reply to a packet that was not executed (R26, R27, R461). -/
def failReply (h : Held) (st : Nat) : Reply :=
  { v1 := h.v1, opcode := h.opcode, tag := h.tag, status := st, log := 0, result := [] }

/-- The packets of a context that await execution (Table 2-1). -/
def commandsHeld (c : CtxState) : List Held := c.held.filter (fun h => h.failed.isNone)

/-- The answer to a packet that has failed a check (R27): it leaves after the replies to the packets before it (R30,
R460). -/
def failPacket (n st : Nat) (h : Held) (s : State) : State :=
  if decide ((ctxGet s n).held = []) && !replyOwedTo s n then placeReply n (failReply h st) s
  else ctxMod s n (fun c => { c with held := c.held ++ [{ h with failed := some st }] })

/-- A packet arrives at a context, `delivered` bytes of it, and is checked in the order of Table 2-3. The
bytes are those the transport holds; a two-wire door holds all of its bytes (R54). -/
def takePacket (source : Option (BitVec 64 × BitVec 16)) (n : Nat) (b : List Byte) (delivered : Nat) (s : State) : State :=
  match packetVersion b with
  | none =>
    failPacket n stBadParam
      { v1 := false, opcode := 0, tag := (b.take delivered).getD 4 0, payload := [], source := source, failed := none } s
  | some v1 =>
    let op := packetOpcode v1 b
    let fail := fun st => failPacket n st
      { v1 := v1, opcode := op, tag := packetTag v1 b, payload := [], source := source, failed := none } s
    if decide (1024 < packetLength v1 b) || delivered != packetTotal v1 b then fail stBadLength
    else if !packetCrcOk v1 b then fail stBadCrc
    else if v1 && !(ctxGet s n).level1 then fail stWrongState
    else if !opcodeDefined op then fail stUnknownOpcode
    else if !lengthOk v1 op (packetPayload v1 b) then fail stBadLength
    else if decide (heldLimit n ≤ (commandsHeld (ctxGet s n)).length) then fail stBusy
    else ctxMod s n (fun c =>
      { c with held := c.held ++ [{ v1 := v1, opcode := op, tag := packetTag v1 b, payload := packetPayload v1 b,
                                    source := source, failed := none }] })

/-- A packet that a two-wire door, a USB port or a transport without a source brings. -/
def receivePacket (n : Nat) (b : List Byte) (delivered : Nat) (s : State) : State := takePacket none n b delivered s

/-- R27: a transport delivers a packet. During a CP absence a USB port takes none, and one for H4 is checked
after it (Table 18-7). -/
def execPacketReceived (c : Ctx) (bytes : List Byte) (s : State) : Host.Outcome State Fault Refusal :=
  .next (if packetsTaken s c then receivePacket (ctxNum c) bytes bytes.length s
    else if s.host.absent && c == .h4 then
      { s with host := { s.host with late := s.host.late ++ [(none, bytes)] } }
    else s)

/-- R40: a pin released by an acknowledgement is driven again when an enabled event still waits. -/
def execIrqReassert (pin : Fin 2) (s : State) : Host.Outcome State Fault Refusal :=
  .next (refreshPins (if pin = 0 then { s with host := { s.host with irqHoldA := false } }
    else { s with host := { s.host with irqHoldB := false } }))

/-- R22, R277: H4 closes when the link has stayed out of UP for more than 2 s. -/
def execH4LinkTimeout (s : State) : Host.Outcome State Fault Refusal :=
  whenever (fun s => s.net.mac.link != 2 && isOpen s 4) (closeContext 4 3 0) s

end Sys2Proof.Machine
end

