-- ==== Sys2Proof/Machine/Params.lean ====
section
/-! DEFINITION. Parameter slots, biquad selections, delay changes, limiter and protection settings, meters and
clip counters: the commands of group 0x04 and the ends of their ramps (chapter 6). -/

namespace Sys2Proof.Machine

/-! ## What the chart holds -/

/-- Some segment of the chart in force writes an entry of this KIND and instance. -/
def chartHas (s : State) (kind inst : Nat) : Bool :=
  match s.cs.chart with
  | some c => c.entries.any (fun e => e.kind == kind && e.inst == inst)
  | none => false

/-- XF words among some entries: pair, SRC berth, PAR berth (R121). -/
def xfWords (es : List SegEntry) : List (Nat × Nat × Nat) :=
  (es.filter (fun e => e.kind == 1 && u64 e.bytes 0 / 2 ^ 58 == 0x10)).map (fun e =>
    let w := BitVec.ofNat 64 (u64 e.bytes 0)
    (wordArg w % 256, wordSrc w, wordPar w % 1024))

/-- XF words of the chart. -/
def chartXfs (c : Chart) : List (Nat × Nat × Nat) := xfWords c.entries

/-- Junctions of the chart: XF words of the base chart between two work berths, one of which an overlay writes. -/
def junctions (c : Chart) : List (Nat × Nat × Nat) :=
  (xfWords (c.base ++ c.reducedSeg)).filter (fun x => decide (512 ≤ x.2.1) && decide (512 ≤ x.2.2)
    && c.ovs.any (fun n => c.reserves n 1 x.2.1 || c.reserves n 1 x.2.2))

/-- Kind of a parameter slot (Table 6-1): 0 gain, 1 position, 2 gate. -/
def slotKind (s : State) (k : Nat) : Nat :=
  match s.cs.chart with
  | none => 0
  | some c =>
    if c.ovs.any (fun n => c.ovGate n == k) then 2
    else if decide (3840 ≤ k) && (chartXfs c).any (fun x => x.1 + 3840 == k) then 1
    else 0

def ovGet (s : State) (n : Nat) : Overlay := tget Overlay.inactive s.cs.overlays n

/-- The slot lies in the reservation of an overlay that is INACTIVE, LOADING or UNLOADING (R120). -/
def slotOutOfService (s : State) (k : Nat) : Bool :=
  match s.cs.chart with
  | none => false
  | some c => c.ovs.any (fun n => c.reserves n 2 k && ((ovGet s n).st ∈ [0, 1, 5]))

/-- The position slot of a junction whose overlays are in HANDOVER (R120). -/
def slotInHandover (s : State) (k : Nat) : Bool :=
  match s.cs.chart with
  | none => false
  | some c => (junctions c).any (fun x => x.1 + 3840 == k
      && c.ovs.any (fun n => (ovGet s n).st == 6 && (c.reserves n 1 x.2.1 || c.reserves n 1 x.2.2)))

/-- The group byte of a slot, section or limiter of the chart in force; none without a chart. -/
def groupOfSlot (s : State) (k : Nat) : Nat := (s.cs.chart.map (fun c => c.slotGroup k)).getD 0xFF
def groupOfSection (s : State) (k : Nat) : Nat := (s.cs.chart.map (fun c => c.sectionGroup k)).getD 0xFF
def groupOfLimiter (s : State) (k : Nat) : Nat := (s.cs.chart.map (fun c => c.limiterGroup k)).getD 0xFF

/-! ## SET_PARAM and its kin (R117-R120) -/

/-- A SET_PARAM payload's target word (Table 6-13). -/
def paramTarget (e : List Byte) : Word :=
  if u8 e 2 = 1 then (if s32 e 4 ≤ -14400 then 0 else BitVec.ofNat 32 (dbWord (s32 e 4)))
  else BitVec.ofNat 32 (u32 e 4)

/-- The refusal of a SET_PARAM payload, in the order of R120. -/
def paramCheck (c : Ctx) (e : List Byte) (s : State) : Option Nat :=
  let k := u16 e 0
  let f := u8 e 2
  firstRefusal
    [(decide (4095 < k) || decide (2 < f) || u8 e 3 != 0 || u16 e 10 != 0
        || (decide (1000 < u16 e 8) && u16 e 8 != 0xFFFF)
        || (f == 1 && decide (2408 < s32 e 4)) || (f == 2 && decide (0x08000000 < u32 e 4)), stBadParam),
     (!canChangeGroup s c (groupOfSlot s k), stNotOwner),
     (slotKind s k == 2, stBadParam),
     (slotOutOfService s k, stWrongState),
     (slotKind s k == 1 && slotInHandover s k, stWrongState),
     ((slotKind s k == 1) != (f == 2), stBadParam)]

def slotMod (s : State) (k : Nat) (f : Slot → Slot) : State :=
  { s with par := { s.par with slots := tmod Slot.reset s.par.slots k f } }

/-- Commit a target and a ramp time, 0xFFFF for the stored one (R119); the next tick latches it (R15). -/
def commitSlot (k : Nat) (target : Word) (ms log : Nat) (s : State) : State :=
  slotMod s k (fun q =>
    { q with target := target, pending := some (target, if ms = 0xFFFF then q.rampMs else ms, log) })

/-- Log number `a` is the higher of the two, which wrap at 2^32 (R29). -/
def laterLog (a b : Nat) : Bool := a != b && decide ((a + 2 ^ 32 - b) % 2 ^ 32 < 2 ^ 31)

/-- A commit of the engine loader at a swap: one of a higher log number that waits for the same tick keeps its
place (R15, R73, R118). -/
def loaderCommit (k : Nat) (target : Word) (ms log : Nat) (s : State) : State :=
  match (slotGet s k).pending with
  | some (_, _, l) => if laterLog l log then s else commitSlot k target ms log s
  | none => commitSlot k target ms log s

def paramEffect (log : Nat) (e : List Byte) (s : State) : State :=
  commitSlot (u16 e 0) (paramTarget e) (u16 e 8) log s

def setParamDo (p : List Byte) (log : Nat) (s : State) : Done := ok (paramEffect log p s)

def execSetParam (o : Issue) (p : List Byte) (s : State) : Host.Outcome State Fault Refusal :=
  hostCommand 0x0401 o p (paramCheck o.ctx p) (setParamDo p) s

/-- The entries of SET_PARAM_BLOCK. -/
def blockEntries (p : List Byte) : List (List Byte) := (List.range (u8 p 0)).map (fun i => bytesAt p (4 + 12 * i) 12)

def blockCountCheck (p : List Byte) (_ : State) : Option Nat :=
  firstRefusal [(u8 p 0 == 0 || decide (84 < u8 p 0), stBadParam)]

/-- R142: all entries or none, in their order. -/
def setParamBlockDo (o : Issue) (p : List Byte) (log : Nat) (s : State) : Done :=
  let es := blockEntries p
  match (List.range es.length).find? (fun i => (paramCheck o.ctx (es.getD i []) s).isSome) with
  | some i =>
    let st := (paramCheck o.ctx (es.getD i []) s).getD stBadParam
    { s := s, status := st, result := b1 i ++ b1 st }
  | none => okWith (b1 0xFF ++ b1 stOk) (es.foldl (fun t e => paramEffect log e t) s)

def execSetParamBlock (o : Issue) (p : List Byte) (s : State) : Host.Outcome State Fault Refusal :=
  hostCommand 0x0402 o p (blockCountCheck p) (setParamBlockDo o p) s

def getParamCheck (p : List Byte) (_ : State) : Option Nat :=
  firstRefusal [(u16 p 2 == 0 || decide (63 < u16 p 2) || decide (4096 < u16 p 0 + u16 p 2), stBadParam)]

/-- A GET_PARAM record: the target includes commits that no tick has latched yet (R31). -/
def slotRecord (s : State) (k : Nat) : List Byte :=
  let q := slotGet s k
  b4 q.target.toNat ++ b4 q.present.toNat ++ b2 q.rampMs ++ b1 (slotKind s k) ++ zeros 1 ++ b4 (q.n - q.k)

def getParamResult (p : List Byte) (s : State) : List Byte :=
  (List.range (u16 p 2)).flatMap (fun i => slotRecord s (u16 p 0 + i))

def execGetParam (o : Issue) (p : List Byte) (s : State) : Host.Outcome State Fault Refusal :=
  hostCommand 0x0403 o p (getParamCheck p) (reads (getParamResult p)) s

/-- R120: SET_RAMP_TIME is subject to the first two items only. -/
def setRampTimeCheck (o : Issue) (p : List Byte) (s : State) : Option Nat :=
  firstRefusal
    [(decide (4095 < u16 p 0) || decide (1000 < u16 p 2), stBadParam),
     (!canChangeGroup s o.ctx (groupOfSlot s (u16 p 0)), stNotOwner),
     (slotKind s (u16 p 0) == 2, stBadParam),
     (slotOutOfService s (u16 p 0), stWrongState)]

def setRampTimeDo (p : List Byte) (_ : Nat) (s : State) : Done :=
  ok (slotMod s (u16 p 0) (fun q => { q with rampMs := u16 p 2 }))

def execSetRampTime (o : Issue) (p : List Byte) (s : State) : Host.Outcome State Fault Refusal :=
  hostCommand 0x0404 o p (setRampTimeCheck o p) (setRampTimeDo p) s

/-- R117: the tick after the last ramp period has come, and the ramp has ended. -/
def execParamRampEnd (slot : Fin 4096) (s : State) : Host.Outcome State Fault Refusal :=
  whenever (fun s => (slotGet s slot.val).n != 0 && decide ((slotGet s slot.val).n < (slotGet s slot.val).k))
    (fun s => slotMod s slot.val (fun q => { q with k := 0, n := 0, present := q.present })) s

/-! ## Biquad sections (R123-R127) -/

def coefsAt (p : List Byte) (i : Nat) : List (BitVec 32) :=
  (List.range 5).map (fun k => BitVec.ofNat 32 (u32 p (i + 4 * k)))

/-- The poles lie inside the unit circle (R124). -/
def polesInside (c : List (BitVec 32)) : Bool :=
  let a1 := (c.getD 3 0).toInt
  let a2 := (c.getD 4 0).toInt
  decide (a2.natAbs < 2 ^ 29) && decide ((a1.natAbs : Int) < 2 ^ 29 + a2)

/-- The bank that counts as active: the incoming one of a selection in progress (R127). -/
def countsActive (q : Section) : Bool :=
  match q.sel with
  | some f => f.toB
  | none => q.activeB

/-- BQ_WRITE names a bank that is active, takes part in a selection or is named by a queued one (R125). -/
def bankBusy (q : Section) (toB : Bool) : Bool :=
  q.sel.isSome || q.activeB == toB || (match q.queued with | some r => r.toB == toB | none => false)

def bqWriteCheck (o : Issue) (p : List Byte) (s : State) : Option Nat :=
  firstRefusal
    [(!chartHas s 3 (u16 p 0) || decide (1 < u8 p 2), stBadParam),
     (!canChangeGroup s o.ctx (groupOfSection s (u16 p 0)), stNotOwner),
     (!polesInside (coefsAt p 4), stBadParam),
     (bankBusy (sectionGet s (u16 p 0)) (u8 p 2 == 1), stWrongState)]

def bqWriteDo (p : List Byte) (_ : Nat) (s : State) : Done :=
  ok (sectionMod s (u16 p 0) (fun q =>
    if u8 p 2 = 1 then { q with pendB := some (coefsAt p 4) } else { q with pendA := some (coefsAt p 4) }))

def execBqWrite (o : Issue) (p : List Byte) (s : State) : Host.Outcome State Fault Refusal :=
  hostCommand 0x0405 o p (bqWriteCheck o p) (bqWriteDo p) s

/-- A selection as committed, before a tick latches it. -/
def newSelection (s : State) (toB fade : Bool) (ms : Nat) : Selection :=
  { toB := toB, k := 0, n := if fade then periodsOfMs s ms else 0, latched := false, ms := ms, fade := fade }

def bqSelectCheck (o : Issue) (p : List Byte) (s : State) : Option Nat :=
  firstRefusal
    [(!chartHas s 3 (u16 p 0) || decide (1 < u8 p 2) || decide (1 < u8 p 3)
        || (u8 p 3 == 0 && u16 p 4 != 0) || (u8 p 3 == 1 && (u16 p 4 == 0 || decide (1000 < u16 p 4))), stBadParam),
     (!canChangeGroup s o.ctx (groupOfSection s (u16 p 0)), stNotOwner)]

/-- COMMAND_DONE with CONFLICT for a queued request that is replaced or cancelled. -/
def dropQueued (r : Option QueuedSel) (s : State) : State :=
  match r with
  | some r => complete r.waiter stConflict s
  | none => s

/-- R127 and Table 6-2: start, queue, replace or cancel a selection. After the latching tick of an instant selection, when
none is in progress and a queued one still waits for its tick, Table 6-2 applies to the queue (DESIGN CHOICE, log entry
122). -/
def bqSelectDo (o : Issue) (p : List Byte) (log : Nat) (s : State) : Done :=
  let k := u16 p 0
  let q := sectionGet s k
  let toB := u8 p 2 == 1
  if q.sel.isNone && q.queued.isNone then
    if q.activeB == toB then ok s
    else ok (sectionMod s k (fun q => { q with sel := some (newSelection s toB (u8 p 3 == 1) (u16 p 4)) }))
  else if countsActive q == toB then ok (dropQueued q.queued (sectionMod s k (fun q => { q with queued := none })))
  else
    queuedDone (dropQueued q.queued (sectionMod s k (fun q =>
      { q with queued := some { toB := toB, d0 := 0, ms := u16 p 4, fade := u8 p 3 == 1, waiter := { ctx := o.ctx, log := log } } })))

def execBqSelect (o : Issue) (p : List Byte) (s : State) : Host.Outcome State Fault Refusal :=
  hostCommand 0x0406 o p (bqSelectCheck o p) (bqSelectDo o p) s

def bqReadCheck (p : List Byte) (s : State) : Option Nat :=
  firstRefusal [(!chartHas s 3 (u16 p 0), stBadParam)]

def coefBytes (c : List (BitVec 32)) : List Byte := c.flatMap (fun x => b4 x.toNat)

def selRemaining : Option Selection → Nat
  | some f => f.n - f.k
  | none => 0

/-- BQ_READ's record; coefficients include those that no tick has latched yet (R31). -/
def bqReadResult (p : List Byte) (s : State) : List Byte :=
  let q := sectionGet s (u16 p 0)
  b1 (flag (countsActive q)) ++ b1 (flag q.sel.isSome)
    ++ b1 (match q.queued with | some r => flag r.toB | none => 0xFF)
    ++ b1 (match q.queued with | some r => flag r.fade | none => 0)
    ++ b4 (selRemaining q.sel) ++ coefBytes (q.pendA.getD q.bankA) ++ coefBytes (q.pendB.getD q.bankB)

def execBqRead (o : Issue) (p : List Byte) (s : State) : Host.Outcome State Fault Refusal :=
  hostCommand 0x0407 o p (bqReadCheck p) (reads (bqReadResult p)) s

/-- The incoming bank takes the outgoing bank's y1 and y2 (R126). -/
def copyHistory (q : Section) (toB : Bool) : Section :=
  if toB then { q with yb1 := q.ya1, yb2 := q.ya2 } else { q with ya1 := q.yb1, ya2 := q.yb2 }

/-- A tick latches a selection (R126): an instant one is over with it; a crossfade is in period 1. -/
def latchSelection (q : Section) (f : Selection) : Section :=
  let q1 := copyHistory q f.toB
  if f.n = 0 then { q1 with activeB := f.toB, sel := none }
  else { q1 with sel := some { f with latched := true, k := 1 } }

/-- A queued selection takes effect as if it had been committed just before this tick (R127). -/
def startQueued (k : Nat) (s : State) : State :=
  match (sectionGet s k).queued with
  | some r =>
    complete r.waiter stOk (sectionMod s k (fun q =>
      let q1 := { q with queued := none }
      if q.activeB == r.toB then q1 else latchSelection q1 (newSelection s r.toB r.fade r.ms)))
  | none => s

/-- R126, R127: the tick after the last period of a crossfade has come. -/
def execBqCrossfadeEnd (sec : Fin 512) (s : State) : Host.Outcome State Fault Refusal :=
  .next (match (sectionGet s sec.val).sel with
    | some f =>
      if f.latched && decide (f.n < f.k) then
        startQueued sec.val (sectionMod s sec.val (fun q => { q with activeB := f.toB, sel := none }))
      else s
    | none => s)

/-! ## Delay lines (R129) -/

def delaySetCheck (p : List Byte) (s : State) : Option Nat :=
  let q := lineGet s (u8 p 0)
  firstRefusal
    [(!chartHas s 4 (u8 p 0) || (decide (1000 < u16 p 2) && u16 p 2 != 0xFFFF)
        || decide (q.len ≤ u32 p 4 + q.maxOffset), stBadParam)]

/-- A change of D0 starts: the new D0 is in force from the commit. -/
def startDelay (s : State) (k d0 ms : Nat) : State :=
  lineMod s k (fun q => { q with old := q.d0, d0 := d0, sel := some (newSelection s true (ms != 0) ms) })

/-- R129: as Table 6-2, with the D0 in force in place of the active bank; so too while only a queued change waits (DESIGN
CHOICE, log entry 122). -/
def delaySetDo (o : Issue) (p : List Byte) (log : Nat) (s : State) : Done :=
  let k := u8 p 0
  let q := lineGet s k
  let ms := if u16 p 2 = 0xFFFF then q.xfade else u16 p 2
  if q.sel.isNone && q.queued.isNone then
    if q.d0 = u32 p 4 then ok s else ok (startDelay s k (u32 p 4) ms)
  else if q.d0 = u32 p 4 then ok (dropQueued q.queued (lineMod s k (fun q => { q with queued := none })))
  else
    queuedDone (dropQueued q.queued (lineMod s k (fun q =>
      { q with queued := some { toB := true, d0 := u32 p 4, ms := ms, fade := ms != 0, waiter := { ctx := o.ctx, log := log } } })))

def execDelaySet (o : Issue) (p : List Byte) (s : State) : Host.Outcome State Fault Refusal :=
  hostCommand 0x0408 o p (delaySetCheck p) (delaySetDo o p) s

def delayReadCheck (p : List Byte) (s : State) : Option Nat := firstRefusal [(!chartHas s 4 (u8 p 0), stBadParam)]

def delayReadResult (p : List Byte) (s : State) : List Byte :=
  let q := lineGet s (u8 p 0)
  b4 q.base ++ b4 q.len ++ b4 q.d0 ++ b2 q.maxOffset ++ b1 (flag q.sel.isSome) ++ zeros 1
    ++ b4 (match q.queued with | some r => r.d0 | none => 0xFFFFFFFF)

def execDelayRead (o : Issue) (p : List Byte) (s : State) : Host.Outcome State Fault Refusal :=
  hostCommand 0x0409 o p (delayReadCheck p) (reads (delayReadResult p)) s

/-- A tick latches a change of D0. -/
def latchDelay (q : DelayLine) (f : Selection) : DelayLine :=
  if f.n = 0 then { q with sel := none, old := q.d0 } else { q with sel := some { f with latched := true, k := 1 } }

/-- A queued D0 takes effect as if it had been committed just before this tick. -/
def startQueuedDelay (k : Nat) (s : State) : State :=
  match (lineGet s k).queued with
  | some r =>
    let t := lineMod s k (fun q => { q with queued := none })
    complete r.waiter stOk (if (lineGet t k).d0 = r.d0 then t
      else
        let u := startDelay t k r.d0 r.ms
        lineMod u k (fun q => match q.sel with | some f => latchDelay q f | none => q))
  | none => s

/-- R129: the tick after the last period of a change has come. -/
def execDelayChangeEnd (line : Fin 128) (s : State) : Host.Outcome State Fault Refusal :=
  .next (match (lineGet s line.val).sel with
    | some f =>
      if f.latched && decide (f.n < f.k) then
        startQueuedDelay line.val (lineMod s line.val (fun q => { q with sel := none, old := q.d0 }))
      else s
    | none => s)

/-! ## Limiters -/

def limiterGet (s : State) (k : Nat) : Limiter := tget Limiter.absent s.par.limiters k

def limiterMod (s : State) (k : Nat) (f : Limiter → Limiter) : State :=
  { s with par := { s.par with limiters := tmod Limiter.absent s.par.limiters k f } }

/-- LIM words of a bank: sink number, kind and number of what it binds (R97). -/
def limWords (b : Bank) : List (Nat × Bool × Nat) :=
  (b.words.filter (fun e => wordOp e.2 == 0x18)).map (fun e =>
    (wordDst e.2 - 256, bit (wordAux e.2) 0, wordPar e.2 % 64))

/-- Sinks bound to a limiter in the Near bank. -/
def limiterSinks (s : State) (k : Nat) : List Nat :=
  ((limWords s.cs.near).filter (fun x => !x.2.1 && x.2.2 == k)).map (·.1)

/-- The limiter a sink is bound to, and the protection instance. -/
def sinkLimiter (s : State) (k : Nat) : Option Nat :=
  ((limWords s.cs.near).find? (fun x => x.1 == k && !x.2.1)).map (·.2.2)

def sinkProtect (s : State) (k : Nat) : Option Nat :=
  ((limWords s.cs.near).find? (fun x => x.1 == k && x.2.1)).map (fun x => x.2.2 % 2)

def limiterSetCheck (o : Issue) (p : List Byte) (s : State) : Option Nat :=
  firstRefusal
    [(!decide (u8 p 0 < 64) || !chartHas s 5 (u8 p 0) || decide (1 < u8 p 1)
        || decide (s16 p 2 < -4000) || decide (0 < s16 p 2)
        || decide (u16 p 4 < 5) || decide (5000 < u16 p 4)
        || decide (u16 p 6 < 1) || decide (5000 < u16 p 6), stBadParam),
     (!canChangeGroup s o.ctx (groupOfLimiter s (u8 p 0)), stNotOwner)]

def limiterSetDo (p : List Byte) (_ : Nat) (s : State) : Done :=
  ok (limiterMod s (u8 p 0) (fun q => { q with pending := some (u8 p 1, s16 p 2, u16 p 4, u16 p 6) }))

def execLimiterSet (o : Issue) (p : List Byte) (s : State) : Host.Outcome State Fault Refusal :=
  hostCommand 0x040A o p (limiterSetCheck o p) (limiterSetDo p) s

def limiterReadCheck (p : List Byte) (s : State) : Option Nat :=
  firstRefusal [(!decide (u8 p 0 < 64) || !chartHas s 5 (u8 p 0), stBadParam)]

/-- The gain reduction of a limiter in 0.01 dB. -/
def reductionOf (g : Int) : Nat := (divNear (-g) 10000).toNat

/-- LIMITER_READ's record; the read starts this context's largest reduction anew. -/
def limiterReadDo (o : Issue) (p : List Byte) (_ : Nat) (s : State) : Done :=
  let k := u8 p 0
  let q := limiterGet s k
  let v := q.pending.getD (flag q.enabled, q.threshold, q.attack, q.release)
  okWith (sb2 v.2.1 ++ b2 q.lookahead ++ b2 v.2.2.1 ++ b2 v.2.2.2 ++ b1 v.1 ++ b1 (limiterSinks s k).length
      ++ b2 (reductionOf q.gain) ++ b2 (tget 0 q.largest (ctxNum o.ctx)))
    (limiterMod s k (fun q => { q with largest := tset 0 q.largest (ctxNum o.ctx) 0 }))

def execLimiterRead (o : Issue) (p : List Byte) (s : State) : Host.Outcome State Fault Refusal :=
  hostCommand 0x040B o p (limiterReadCheck p) (limiterReadDo o p) s

/-! ## Speaker protection (R134-R138) -/

def protectGet (s : State) (i : Nat) : Protect := tget Protect.absent s.par.protects i

def protectMod (s : State) (i : Nat) (f : Protect → Protect) : State :=
  { s with par := { s.par with protects := tmod Protect.absent s.par.protects i f } }

def protectSetCheck (p : List Byte) (s : State) : Option Nat :=
  firstRefusal
    [(decide (1 < u8 p 0) || !chartHas s 5 (64 + u8 p 0) || decide (3 < u8 p 1)
        || decide (u16 p 2 < 600) || decide (1800 < u16 p 2), stBadParam)]

/-- PROTECT_SET changes ENABLED, T_MAX and X_MAX and leaves PILOT_ON as it is; the next tick latches it (R15, R142). -/
def protectSetDo (p : List Byte) (_ : Nat) (s : State) : Done :=
  ok (protectMod s (u8 p 0) (fun q => { q with pending := some (u8 p 1, u16 p 2, u16 p 4) }))

/-- PROTECT_SET takes force. R137: ENABLED set ends a latched fault, and G_x and G_t restart at 0 dB. An instance that was
disabled without a fault goes on from the G_x and G_t that it had, which PROTECT_READ shows meanwhile (DESIGN CHOICE, log
entry 122). -/
def latchProtect (q : Protect) : Protect :=
  match q.pending with
  | none => q
  | some (f, t, x) =>
    let q1 := { q with enabled := bit f 0, tMax := t, xMax := x, pending := none }
    if bit f 0 ∧ q.fault ≠ 0 then
      { q1 with fault := 0, outside := 0, gtNow := 0, gtStart := 0, gt := 0, gtK := 0, gtN := 0, gx := 0,
                demod := (0, 0, 0, 0) }
    else q1

def execProtectSet (o : Issue) (p : List Byte) (s : State) : Host.Outcome State Fault Refusal :=
  hostCommand 0x040C o p (protectSetCheck p) (protectSetDo p) s

def protectReadCheck (p : List Byte) (s : State) : Option Nat :=
  firstRefusal [(decide (1 < u8 p 0) || !chartHas s 5 (64 + u8 p 0), stBadParam)]

/-- The class-D temperature of CH21 in 0.1 °C; free before its first result. -/
def classDTemp (s : State) : Int :=
  match s.meas.latest.find? (fun x => x.1 == 21) with
  | some x => divNear x.2.value 100
  | none => signed 16 (openValue s 0 % 65536)

/-- PROTECT_READ's record: the coil's temperature is CH21's until the first estimate (Table 6-9), the excursion is the
peak of the last 100 ms, and settings that no tick has latched yet are shown (R31). -/
def protectReadResult (p : List Byte) (s : State) : List Byte :=
  let q0 := protectGet s (u8 p 0)
  let q := latchProtect q0
  let peak := (q.peaks.filter (fun x => decide (s.eng.period < x.1 + fabricHz s / 10))).foldl (fun m x => max m x.2) 0
  b2 q.re ++ sb2 (if q.estimated then q.temp else classDTemp s) ++ b2 (reductionOf q0.gtNow) ++ b2 (reductionOf q0.gx)
    ++ b2 (min peak 0xFFFF)
    ++ b1 (flag q.enabled + 2 * flag q.degraded + 4 * flag (q.fault != 0) + 8 * flag q.limiting
        + 16 * flag q.exLimiting)
    ++ b1 q.fault ++ zeros 4

def execProtectRead (o : Issue) (p : List Byte) (s : State) : Host.Outcome State Fault Refusal :=
  hostCommand 0x040D o p (protectReadCheck p) (reads (protectReadResult p)) s

/-- A channel of SPK switches, 0 left and 1 right (R134, R138, R212). -/
def spkSwitching (s : State) (i : Nat) : Bool :=
  (tget Output.reset s.out.outs 3).driving && !(if i = 0 then s.out.lockL else s.out.lockR)

/-- G_t takes a new target, spread linearly in dB over `n` periods (R135). -/
def retarget (q : Protect) (target : Int) (n : Nat) : Protect :=
  { q with gt := target, gtStart := q.gtNow, gtK := 0, gtN := n }

/-- The target of G_t after an estimate, and whether it ramps to mute (R135). -/
def gtLaw (q : Protect) (t : Int) : Int × Bool :=
  if (q.tMax : Int) + 100 < t then (-14400, true)
  else if q.gt ≤ -14400 ∧ (q.tMax : Int) - 100 ≤ t then (-14400, false)
  else if q.gt ≤ -14400 then (-2000, false)
  else if (q.tMax : Int) - 50 < t then (min q.gt (max (-2000) (q.gt - 10)), false)
  else if t < (q.tMax : Int) - 100 then (min 0 (q.gt + 2), false)
  else (q.gt, false)

/-- SPK_PROT_LIMIT, no more than once per second per instance (Table 6-14). -/
def postLimit (i data : Nat) (s : State) : State :=
  if data = 0 then s
  else
    let d := if (protectGet s i).limitPosted then drawElapsed s else (true, s)
    if d.1 then
      post 0x0410 i 0 data .none (protectMod d.2 i (fun q => { q with limitPosted := true }))
    else d.2

/-- The coil temperature of a resistance (R134), in 0.1 °C; free where the entry gives no such figure. -/
def coilTemp (e : List Byte) (re : Nat) (open_ : BitVec 32) : Int :=
  if u16 e 0 = 0 ∨ u16 e 4 = 0 then signed 16 (open_.toNat % 65536)
  else s16 e 2 + divNear (((re : Int) - u16 e 0) * 10000000) (u16 e 0 * u16 e 4)

/-- The resistance that a coil temperature gives (R134, PILOT_ON clear). -/
def reOfTemp (e : List Byte) (t : Int) : Nat :=
  (divNear ((u16 e 0 : Int) * (10000000 + u16 e 4 * (t - s16 e 2))) 10000000).toNat

/-- Three successive estimates outside the window (R137): mute over 1 ms, and the fault is latched. -/
def protectFault (i : Nat) (s : State) : State :=
  let q := protectGet s i
  let cause := if q.outsideHigh then 2 else 1
  post 0x0411 i 0 (cause + 65536 * q.re) .none
    (protectMod s i (fun q => { retarget q (-14400) (periodsOfMs s 1) with fault := cause }))

/-- An instance makes estimates: it is enabled, has latched no fault, and its channel of SPK switches (R134, R137). -/
def estimating (s : State) (i : Nat) : Bool :=
  let q := protectGet s i
  q.present && q.enabled && q.fault == 0 && spkSwitching s i

/-- A paired result of an instance's channel (Table 6-9): voltage in µV and current in µA, demodulated at PILOT_HZ at the
instant of its conversion, `at_` of `unit` to the second (R134, R351). Where no estimate is made the demodulation starts anew. -/
def protectPair (i : Nat) (v a : Int) (at_ unit : Nat) (s : State) : State :=
  let f := u16 (protectGet s i).entry 10
  let c := cosineQ60 (at_ * f) (10 * unit)
  let x := sineQ60 (at_ * f) (10 * unit)
  let on := estimating s i
  protectMod s i (fun q => { q with demod :=
    if on then (q.demod.1 + v * c, q.demod.2.1 + v * x, q.demod.2.2.1 + a * c, q.demod.2.2.2 + a * x)
    else (0, 0, 0, 0) })

/-- The ratio of the voltage amplitude to the current amplitude at PILOT_HZ, in mΩ (R134); free where no current was
found. -/
def demodRatio (d : Int × Int × Int × Int) (open_ : BitVec 32) : Nat :=
  let v := (d.1 * d.1 + d.2.1 * d.2.1).toNat
  let a := (d.2.2.1 * d.2.2.1 + d.2.2.2 * d.2.2.2).toNat
  if a = 0 then open_.toNat % 65536 else min 0xFFFF (nearestBits 2 (4000000 * v) a 32 0)

/-- R134, R135, R137: the estimate of every 100 ms, while the channel of SPK switches. With PILOT_ON clear the resistance
follows from CH21. -/
def execProtectEstimate (i : Fin 2) (s : State) : Host.Outcome State Fault Refusal :=
  whenever (fun s => estimating s i.val)
    (fun s =>
      let q := protectGet s i.val
      let d := drawReading s
      let pilot := bit (u8 q.entry 26) 1
      let r := if pilot then demodRatio q.demod d.1 else reOfTemp q.entry (classDTemp s)
      let t := if pilot then coilTemp q.entry r d.1 else classDTemp s
      let low := decide (r * 100 < u8 q.entry 22 * u16 q.entry 0)
      let high := decide (u8 q.entry 23 * u16 q.entry 0 < r * 100)
      let q1 := { q with re := r, temp := t, estimated := true, demod := (0, 0, 0, 0)
                         outside := if low || high then q.outside + 1 else 0, outsideHigh := high }
      if 3 ≤ q1.outside then protectFault i.val (protectMod d.2 i.val (fun _ => q1))
      else if q.degraded then protectMod d.2 i.val (fun _ => q1)
      else
        let g := gtLaw q1 t
        let q2 := retarget q1 g.1 (if g.2 && decide (q.gt ≠ -14400) then periodsOfMs s 10 else periodsOfMs s 100)
        let starts := decide (g.1 < 0) && !q.limiting
        let mutes := g.1 == -14400 && q.gt != -14400
        postLimit i.val (flag starts + 4 * flag mutes)
          (protectMod d.2 i.val (fun _ => { q2 with limiting := decide (g.1 < 0) }))) s

/-- G_t stays where it is. -/
def holdGt (q : Protect) : Protect := { q with gt := divNear q.gtNow 10000, gtStart := q.gtNow, gtK := 0, gtN := 0 }

/-- G_t falls to FALLBACK_ATTEN over 10 ms, or stays lower; the mute of a latched fault goes on (R137, R138). -/
def fallBack (n : Nat) (q : Protect) : Protect :=
  if q.fault ≠ 0 then q
  else if s16 q.entry 24 * 10000 < q.gtNow then retarget q (s16 q.entry 24) n
  else holdGt q

/-- R138: the channel of SPK switches and no paired result has come for 10 ms. -/
def execProtectDegraded (i : Fin 2) (s : State) : Host.Outcome State Fault Refusal :=
  whenever (fun s => (protectGet s i.val).present && (protectGet s i.val).enabled
      && !(protectGet s i.val).degraded && spkSwitching s i.val)
    (fun s => post 0x0412 i.val 0 1 .none (protectMod s i.val (fun q =>
      fallBack (periodsOfMs s 10) { q with degraded := true }))) s

/-- R138: after 100 ms of results without a gap, the law of R135 resumes from the present value; a latched fault stays
at mute (R137). -/
def execProtectDegradedEnd (i : Fin 2) (s : State) : Host.Outcome State Fault Refusal :=
  whenever (fun s => (protectGet s i.val).degraded)
    (fun s => post 0x0412 i.val 0 0 .none (protectMod s i.val (fun q =>
      if q.fault = 0 then holdGt { q with degraded := false } else { q with degraded := false }))) s

/-! ## Meters, clip counters, engine status -/

def meterReadCheck (p : List Byte) (s : State) : Option Nat :=
  firstRefusal [(u8 p 1 == 0 || decide (84 < u8 p 1)
    || !(List.range (u8 p 1)).all (fun i => decide (u8 p 0 + i < 256) && chartHas s 6 (u8 p 0 + i)), stBadParam)]

/-- The RMS reading in 0.01 dBFS (R140). -/
def rmsReading (ms : Nat) : Int := if ms = 0 then -14400 else max (-14400) (divNear (dbMicro ms 86) 20000)

/-- METER_READ: the records, and this context's peak since read starts anew. -/
def meterReadDo (o : Issue) (p : List Byte) (_ : Nat) (s : State) : Done :=
  let ks := (List.range (u8 p 1)).map (u8 p 0 + ·)
  okWith (ks.flatMap (fun k =>
      let m := meterGet s k
      b4 (tget 0 m.since (ctxNum o.ctx)) ++ b4 (heldPeak m (fabricHz s)) ++ sb2 (rmsReading m.ms) ++ zeros 2))
    (ks.foldl (fun t k => meterMod t k (fun m => { m with since := tset 0 m.since (ctxNum o.ctx) 0 })) s)

def execMeterRead (o : Issue) (p : List Byte) (s : State) : Host.Outcome State Fault Refusal :=
  hostCommand 0x040E o p (meterReadCheck p) (meterReadDo o p) s

def clipReadCheck (p : List Byte) (_ : State) : Option Nat :=
  firstRefusal [(u16 p 2 == 0 || decide (510 < u16 p 2) || decide (1024 < u16 p 0 + u16 p 2)
    || decide (1 < u8 p 4), stBadParam)]

/-- CLIP_READ (R141): with the clear bit, this context's counts of the range start anew. -/
def clipReadDo (o : Issue) (p : List Byte) (_ : Nat) (s : State) : Done :=
  let ks := (List.range (u16 p 2)).map (fun i => ctxNum o.ctx * 1024 + u16 p 0 + i)
  okWith (ks.flatMap (fun k => b2 (tget 0 s.par.clips k)))
    (if u8 p 4 = 1 then { s with par := { s.par with clips := ks.foldl (fun t k => tset 0 t k 0) s.par.clips } }
      else s)

def execClipRead (o : Issue) (p : List Byte) (s : State) : Host.Outcome State Fault Refusal :=
  hostCommand 0x040F o p (clipReadCheck p) (clipReadDo o p) s

/-- R141: the end of a 100 ms interval posts CLIP_ALERT when a clip event occurred in it. -/
def execClipIntervalEnd (s : State) : Host.Outcome State Fault Refusal :=
  whenever (fun s => decide (fabricHz s / 10 < s.par.clipPos))
    (fun s =>
      let bs := s.par.clipped
      let t := { s with par := { s.par with clipped := [], clipPos := s.par.clipPos - fabricHz s / 10 } }
      if bs = [] then t
      else post 0x0401 0 0 (bs.foldl min 1023 + 65536 * bs.length) .none t) s

/-- The engine status record (Table 5-9). LOADING is clear once the load is complete and waits for its swap (DESIGN
CHOICE, log entry 97). -/
def engineRecord (s : State) : List Byte :=
  let lanes := (List.range 8).map (laneGet s)
  b4 (stampOf s) ++ b1 s.cs.nearBank
    ++ b1 ((match s.cs.load with
        | some l => if l.complete then 2 else 1
        | none => 0) + 4 * flag (s.eng.ramps.any (fun e => e.2.n != 0)))
    ++ b1 (maskBy 8 (fun i => (laneGet s i).faultSince)) ++ b1 (maskBy 8 (fun i => (laneGet s i).accSat))
    ++ lanes.flatMap (fun a => b4 a.overrun) ++ lanes.flatMap (fun a => b2 a.faultWord)
    ++ b4 s.cs.swapCount ++ zeros 4

/-- ENGINE_STATUS clears ACC_SAT_LANES (Table 5-9). -/
def engineStatusDo (_ : Nat) (s : State) : Done :=
  okWith (engineRecord s)
    { s with eng := { s.eng with lanes := tmapKeys Lane.reset s.eng.lanes (fun _ a => { a with accSat := false }) } }

def execEngineStatus (o : Issue) (p : List Byte) (s : State) : Host.Outcome State Fault Refusal :=
  hostCommand 0x0410 o p noCheck engineStatusDo s

end Sys2Proof.Machine
end

