-- ==== Sys2Proof/Machine/AuxDac.lean ====
section
/-! DEFINITION. The auxiliary DAC (chapter 14) and the mic bias outputs that two of its channels drive
(R173 to R175). -/

namespace Sys2Proof.Machine

/-! ## Access -/

def auxGet (s : State) (c : Nat) : Aux := tget Aux.reset s.aux.chans c

def auxMod (s : State) (c : Nat) (f : Aux → Aux) : State :=
  { s with aux := { s.aux with chans := tmod Aux.reset s.aux.chans c f } }

/-- The queue of a channel, by the channel's number: AUX10, AUX11 and AUX15 have one. -/
def hasQueue (c : Nat) : Bool := c ∈ [10, 11, 15]

def queueGet (s : State) (c : Nat) : AuxQueue := tget AuxQueue.reset s.aux.queues c

def queueMod (s : State) (c : Nat) (f : AuxQueue → AuxQueue) : State :=
  { s with aux := { s.aux with queues := tmod AuxQueue.reset s.aux.queues c f } }

/-- The channels are held (Table 14-5). -/
def auxHeld (s : State) : Bool := s.pwr.shelter || s.aux.vauxLow || s.pwr.dev == .sleep

/-- Full scale of a range in mV (Table 14-1). -/
def auxSpan (r : Nat) : Nat := if r = 0 then 1200 else if r = 1 then 2400 else 4800

/-- R326: what a channel drives at a code in a range, in 1/4,096 mV. -/
def auxLevel (r code : Nat) : Nat := code * auxSpan r

/-- R337: the code of the new range whose voltage is nearest, the lower one on a tie, at most 4,095. -/
def convertCode (old new code : Nat) : Nat :=
  min 4095 ((2 * auxLevel old code + auxSpan new - 1) / (2 * auxSpan new))

/-! ## Loads -/

/-- A load of a target (R330, R331): one that leaves the target unchanged does nothing; in a range hold it goes to the code
that the hold leaves. A mic bias output's ramp takes its channel to the target (R173). -/
def auxLoad (c code : Nat) (s : State) : State :=
  auxMod s c (fun a =>
    match a.hold with
    | some h => { a with hold := some (h.1, h.2.1, code) }
    | none =>
      if code = a.target then a else { a with target := code, present := if a.slew = 0 ∧ c ≠ 12 ∧ c ≠ 13 then code else a.present })

/-- The range that a channel has, or will have after its hold. -/
def auxRange (a : Aux) : Nat := (a.hold.map (·.1)).getD a.range

/-- R337: a range change on a channel that is off takes effect at once, with no hold. -/
def auxSettle (a : Aux) : Aux :=
  match a.hold, a.pendRange with
  | some h, _ => { a with hold := none, pendRange := none, range := h.1, present := h.2.1, target := h.2.2 }
  | none, some r =>
    { a with pendRange := none, range := r, present := convertCode a.range r a.present
             target := convertCode a.range r a.target }
  | none, none => a

/-- The enable or disable that a TMR0 tick takes up (R338). -/
def auxTakeEnable (s : State) (c : Nat) : State :=
  auxMod s c (fun a =>
    match a.pendEnable with
    | some on =>
      let b := { a with driving := on, pendEnable := none }
      if on then b else auxSettle b
    | none => a)

/-- The range change of a load tick (R337): the hold driver takes over, and the shadow of the same tick is
a code of the new range. -/
def auxTakeRange (a : Aux) (r : Nat) (load : Option Nat) : Aux :=
  let target := (a.hold.map (fun h => h.2.2)).getD a.target
  { a with hold := some (r, convertCode a.range r a.present, load.getD (convertCode (auxRange a) r target)), pendRange := none }

/-- A channel's load tick (R329, R337). -/
def auxTakeLoad (s : State) (c : Nat) : State :=
  match (auxGet s c).pendRange with
  | some r => auxMod s c (fun a => { auxTakeRange a r a.shadow with shadow := none })
  | none =>
    match (auxGet s c).shadow with
    | some x => auxLoad c x (auxMod s c (fun a => { a with shadow := none }))
    | none => s

/-- The channel loads on this timer now: AUX15, and another channel whose queue runs, is loaded by its queue (Table
14-2). -/
def auxOnTimer (s : State) (t c : Nat) : Bool :=
  (auxGet s c).timer == t && c != 15 && !(hasQueue c && (queueGet s c).running)

/-- The source of a timer runs (R332): TMR0's always. -/
def timerRuns (s : State) (t : Nat) : Bool :=
  t == 0 || (tget (0, 1) s.aux.timers t).1 == 1 || ((tget (0, 1) s.aux.timers t).1 == 2 && s.eng.ticking)

/-- The timer ticks now: one that counts fabric ticks has counted N (R332). -/
def timerTicks (s : State) (t : Nat) : Bool :=
  timerRuns s t && (t == 0 || (tget (0, 1) s.aux.timers t).1 != 2
    || decide ((tget (0, 1) s.aux.timers t).2 ≤ tget 0 s.aux.timerCounts t))

/-- A tick of a timer that counts fabric ticks takes N of them. -/
def timerSpend (t : Nat) (s : State) : State :=
  if t ≠ 0 ∧ (tget (0, 1) s.aux.timers t).1 = 2 then
    let n := tget 0 s.aux.timerCounts t - (tget (0, 1) s.aux.timers t).2
    { s with aux := { s.aux with timerCounts := tset 0 s.aux.timerCounts t n } }
  else s

/-- What a timer's tick serves. -/
def timerServe (t : Nat) (s : State) : State :=
  let s1 := if t = 0 then (List.range 16).foldl auxTakeEnable s else s
  ((List.range 16).filter (auxOnTimer s1 t)).foldl auxTakeLoad s1

/-- R329, R332, R339: a timer's tick loads its channels; during a hold it is counted and nothing is served. -/
def execAuxTimerTick (timer : Fin 4) (s : State) : Host.Outcome State Fault Refusal :=
  whenever (fun s => timerTicks s timer.val)
    (fun s => if auxHeld s then timerSpend timer.val s else timerServe timer.val (timerSpend timer.val s)) s

/-- The fabric tick is counted by the timers and the queue paces that it feeds (R332, R333); a stopped queue's divider
counts on within its period. -/
def auxFabricTick (s : State) : State :=
  let count := fun (t : Tbl Nat) (k : Nat) => if (tget (0, 1) s.aux.timers k).1 = 2 then tset 0 t k (tget 0 t k + 1) else t
  { s with aux := { s.aux with
    timerCounts := [1, 2, 3].foldl count s.aux.timerCounts
    queues := tmapKeys AuxQueue.reset s.aux.queues (fun _ q =>
      if q.source = 2 then { q with ticks := if q.running then q.ticks + 1 else (q.ticks + 1) % max 1 q.n } else q) } }

/-- R331: one step of the slew limiter. -/
def slewStep (a : Aux) : Aux :=
  let m := a.slew % 32
  { a with present := if a.present < a.target then min a.target (a.present + m) else max a.target (a.present - m) }

def execAuxSlewStep (ch : Fin 16) (s : State) : Host.Outcome State Fault Refusal :=
  whenever (fun s => !auxHeld s && (auxGet s ch.val).hold.isNone && (auxGet s ch.val).slew != 0
      && (auxGet s ch.val).present != (auxGet s ch.val).target)
    (fun s => auxMod s ch.val slewStep) s

/-- R337: the hold is over and the channel drives in its new range at the equivalent code. -/
def execAuxRangeHoldEnd (ch : Fin 12) (s : State) : Host.Outcome State Fault Refusal :=
  whenever (fun s => (auxGet s ch.val).hold.isSome)
    (fun s => auxMod s ch.val (fun a =>
      match a.hold with
      | some h => { a with hold := none, range := h.1, target := h.2.2, present := if a.slew = 0 then h.2.2 else h.2.1 }
      | none => a)) s

/-! ## Queues -/

/-- Channel of a queue: 0 AUX10, 1 AUX11, 2 AUX15. -/
def queueChannel (q : Nat) : Nat := if q = 2 then 15 else 10 + q

/-- The next entry of a queue and the queue after it (R334). -/
def queueTake (q : AuxQueue) : Option (Nat × AuxQueue) :=
  if q.cycle then
    match q.entries[q.pos]? with
    | some x => some (x, { q with pos := if q.pos + 1 < q.entries.length then q.pos + 1 else 0, underrunPosted := false })
    | none => none
  else
    match q.entries with
    | x :: r => some (x, { q with entries := r, underrunPosted := false })
    | [] => none

/-- An underrun of a STREAM queue: counted, and posted once until entries are taken again (R334). -/
def queueUnderrun (c : Nat) (s : State) : State :=
  let q := queueGet s c
  let t := queueMod s c (fun q =>
    { q with underrunPosted := true, counts := (List.range 5).foldl (fun u x => tincrSat 32 u x) q.counts })
  if q.underrunPosted then t else post 0x0B03 c 0 (auxGet s c).target (.res [0x0600 + c]) t

/-- What a pace tick gives its channel: the queue is its load source, so that a range change takes effect here (R337). -/
def paceLoad (c : Nat) (load : Option Nat) (s : State) : State :=
  match (auxGet s c).pendRange, load with
  | some r, l => auxMod s c (fun a => auxTakeRange a r l)
  | none, some x => auxLoad c x s
  | none, none => s

/-- The running queue's divider has come to a pace tick (R333): from the fabric tick, it has counted N. -/
def paceDue (s : State) (c : Nat) : Bool :=
  let q := queueGet s c
  q.running && (q.source == 1 || (s.eng.ticking && decide (q.n ≤ q.ticks)))

/-- A pace tick from the fabric tick takes N of them. -/
def paceSpend (c : Nat) (s : State) : State :=
  queueMod s c (fun q => { q with ticks := if q.source = 2 then q.ticks - q.n else q.ticks })

/-- What a pace tick serves (R333, R334). -/
def paceServe (c : Nat) (s : State) : State :=
  match queueTake (queueGet s c) with
  | some (x, r) =>
    let t := paceLoad c (some x) (queueMod s c (fun _ => r))
    if !r.cycle && r.entries.length == r.lowMark then post 0x0B02 c 0 r.entries.length (.res [0x0600 + c]) t else t
  | none => if (queueGet s c).cycle then paceLoad c none s else queueUnderrun c (paceLoad c none s)

/-- R333, R334, R339: a pace tick of a queue; during a hold it is counted and nothing is served. -/
def execAuxQueuePaceTick (q : Fin 3) (s : State) : Host.Outcome State Fault Refusal :=
  let c := queueChannel q.val
  whenever (fun s => paceDue s c) (fun s => if auxHeld s then paceSpend c s else paceServe c (paceSpend c s)) s

/-! ## The jack stimulus (R336) -/

/-- Entry k of 64 of one cycle of the 100 mV peak sine about a DC level in mV: the nearest code of RANGE 1. -/
def stimulusCode (dc k : Nat) : Nat :=
  let uv := (dc : Int) * 1000 + divNear (100000 * sineQ60 k 64) (2 ^ 60)
  min 4095 (divNear (uv * 4096) 2400000).toNat

/-- The DC level of a beat in mV: 1.8 V on the microphone line (Table 9-11). For the tip the specification gives none, and
the level is free within what the range lets the sine have (DESIGN CHOICE, log entry 67). -/
def stimulusDc (s : State) (tip : Bool) : Nat := if tip then 100 + openValue s 15 % 2200 else 1800

/-- AUX15 can drive: Table 14-5 neither makes it off nor holds it. -/
def stimulusCan (s : State) : Bool := !auxHeld s && !s.aux.vauxReset && !s.aux.fault

/-- AUX15 plays one cycle of the stimulus of a beat (R217, R336). -/
def auxStimulus (tip : Bool) (s : State) : State :=
  let t := queueMod s 15 (fun q =>
    { q with running := true, cycle := true, source := 1, n := 16, pos := 0, ticks := 0,
             entries := (List.range 64).map (stimulusCode (stimulusDc s tip)) })
  auxMod { t with free := t.free + 1 } 15 (fun a => { a with enabled := true, driving := true })

/-! ### The jacks that it serves -/

def jackGet (s : State) (j : Nat) : Jack := if j = 0 then s.out.jackA else s.out.jackB

def jackMod (s : State) (j : Nat) (f : Jack → Jack) : State :=
  if j = 0 then { s with out := { s.out with jackA := f s.out.jackA } }
  else { s with out := { s.out with jackB := f s.out.jackB } }

/-- AUX15 serves a classification (R217). -/
def aux15Busy (s : State) : Bool := decide (3 ≤ s.out.jackA.beat) || decide (3 ≤ s.out.jackB.beat)

/-- A jack that waits for AUX15 starts beat 2 of Table 9-11, once AUX15 can drive: it drives the tip. -/
def serveJack (s : State) (j : Nat) : State :=
  if (jackGet s j).st = 2 ∧ (jackGet s j).beat = 2 ∧ aux15Busy s = false ∧ stimulusCan s = true then
    auxStimulus true (jackMod s j (fun q => { q with beat := 3, pole := 0 }))
  else s

def serveJacks (s : State) : State := serveJack (serveJack s 0) 1

/-- A classification that AUX15 cannot serve goes back to beat 2 and waits there: in SHELTER (R217), and as in SHELTER
while another condition of Table 14-5 holds AUX15 or makes it off (DESIGN CHOICE, log entry 123). -/
def jacksBack (s : State) : State :=
  let back := fun (q : Jack) => if 3 ≤ q.beat then { q with beat := 2, pole := 0 } else q
  jackMod (jackMod s 0 back) 1 back

/-- Between classifications the queue is stopped and the channel off. -/
def auxStimulusEnd (s : State) : State :=
  auxMod (queueMod s 15 (fun q => { q with running := false })) 15 (fun a => { a with enabled := false, driving := false })

/-! ## Mic bias (R173 to R175) -/

def micGet (s : State) (o : Nat) : MicBias := if o = 0 then s.cap.micA else s.cap.micB

def micMod (s : State) (o : Nat) (f : MicBias → MicBias) : State :=
  if o = 0 then { s with cap := { s.cap with micA := f s.cap.micA } }
  else { s with cap := { s.cap with micB := f s.cap.micB } }

def capGet (s : State) (c : Nat) : Capture := tget Capture.reset s.cap.chans c

def capMod (s : State) (c : Nat) (f : Capture → Capture) : State :=
  { s with cap := { s.cap with chans := tmod Capture.reset s.cap.chans c f } }

/-- The code of RANGE 2 whose voltage is nearest to that of a mic bias code (log entry 42). -/
def micAuxCode (code : Nat) : Nat := ((1800 + 100 * code) * 4096 * 2 + 4800) / 9600

/-- The mic bias output runs. -/
def micOn (s : State) (o : Nat) : Bool := (micGet s o).st == 1 || (micGet s o).st == 2

/-- Inputs whose port entry names a mic bias output. -/
def micInputs (s : State) (o : Nat) : List Nat := (List.range 8).filter (fun i => u8 (entryOf s (17 + i)) 5 == o + 1)

/-- A reason for delivering 0 holds (1 chain restart, 2 PDM wake, 4 mic bias settle), or has passed: when none is left
the channel fades in. -/
def addSilence (why : Nat) (c : Capture) : Capture := { c with silent := c.silent ||| why, fadeK := 0 }
def endSilence (why : Nat) (c : Capture) : Capture := { c with silent := c.silent - (c.silent &&& why), fadeK := 0 }

/-- R174: the inputs of an output deliver 0 from now. -/
def micMute (o : Nat) (s : State) : State :=
  (micInputs s o).foldl (fun t i => capMod t i (addSilence 4)) (micMod s o (fun m => { m with settling := true }))

/-- R173: the output goes to the voltage of a code; its channel loads it at the next TMR0 tick (Table 14-2). -/
def micGoTo (o code : Nat) (s : State) : State :=
  auxMod (micMod s o (fun m => { m with st := 1, code := code })) (12 + o) (fun a => { a with shadow := some (micAuxCode code) })

/-- R173, R174: the output starts from 0 V, its channel driving from the next TMR0 tick. -/
def micStart (o code : Nat) (s : State) : State :=
  micMute o (auxMod (micGoTo o code s) (12 + o) (fun a => { a with enabled := true, pendEnable := some true }))

/-- The output is off and discharged, in the state given. -/
def micStop (o st : Nat) (s : State) : State :=
  auxMod (micMod s o (fun m => { m with st := st })) (12 + o)
    (fun a => { a with enabled := false, driving := false, pendEnable := none, shadow := none, present := 0, target := 0 })

/-- MICBIAS_FAULT (Table 8-12). -/
def postMicFault (o cause : Nat) (s : State) : State := post 0x0906 o 0 cause (.res [0x060C + o]) s

/-- R173: the ramp that began at the load ends; also that of a change of voltage. While the aux DAC is held the output holds too (R175). -/
def execMicbiasRampEnd (o : Fin 2) (s : State) : Host.Outcome State Fault Refusal :=
  whenever (fun s => (micGet s o.val).st == 1 && !auxHeld s && (auxGet s (12 + o.val)).shadow.isNone)
    (fun s => auxMod (micMod s o.val (fun m => { m with st := 2 })) (12 + o.val) (fun a => { a with present := a.target })) s

/-- R174: the 25 ms are over and the inputs fade in. -/
def execMicbiasSettleEnd (o : Fin 2) (s : State) : Host.Outcome State Fault Refusal :=
  whenever (fun s => (micGet s o.val).settling)
    (fun s => (micInputs s o.val).foldl (fun t i =>
      capMod t i (fun c => if bit c.silent 2 then endSilence 4 c else c))
      (micMod s o.val (fun m => { m with settling := false }))) s

/-- Table 8-3: more than 8 mA for 1 ms. -/
def execMicbiasOvercurrent (o : Fin 2) (s : State) : Host.Outcome State Fault Refusal :=
  whenever (fun s => micOn s o.val)
    (fun s => postMicFault o.val 1 (micMod (micStop o.val 3 s) o.val (fun m => { m with faults := m.faults + 1 }))) s

/-! ## Off and fault states (R339, R340) -/

/-- R204, Table 9-7: a fault that makes the aux DAC off holds: the engine has halted, the die is in thermal
shutdown, or an output is in FAULT for another cause than PVDD under-voltage. -/
def auxFaultHolds (s : State) : Bool :=
  s.eng.halted || s.pwr.thermalShut
    || (List.range 4).any (fun o =>
        (tget Output.reset s.out.outs o).st == 6
          && (o != 3 || s.out.latched || s.out.restartWait || s.out.overTemp))

/-- Channels that drive. -/
def auxDriving (s : State) : Nat := maskBy 16 (fun c => (auxGet s c).driving)

/-- AUX_FAULT (Table 14-8). -/
def postAuxFault (mask cause : Nat) (s : State) : State :=
  post 0x0B01 0 0 (mask + 65536 * cause) (.res ((bitsOf mask 16).map (0x0600 + ·))) s

/-- Every channel goes off and the queues stop; those of AUX10 and AUX11 empty (R340). A channel off has its range change at
once. -/
def auxAllOff (s : State) : State :=
  let t := (List.range 16).foldl (fun t c => auxMod t c (fun a =>
    auxSettle { a with enabled := false, driving := false, pendEnable := none })) s
  [10, 11, 15].foldl (fun t c => queueMod t c (fun q =>
    if c = 15 then { q with running := false } else { q with running := false, entries := [], pos := 0 })) t

/-- The aux DAC goes off for a cause: 1 a fault, 2 a VAUX reset. -/
def auxGoOff (cause : Nat) (s : State) : State :=
  let mask := auxDriving s
  jacksBack (postAuxFault mask cause { auxAllOff s with aux := { (auxAllOff s).aux with offMask := s.aux.offMask ||| mask } })

/-- AUX14 drives again, a classification that waits goes on, and AUX_FAULT says so, when nothing keeps the channels off. -/
def auxResume (s : State) : State :=
  if s.aux.fault || s.aux.vauxReset then s
  else
    let t := auxMod s 14 (fun a => { a with enabled := true, driving := true })
    serveJacks (postAuxFault s.aux.offMask 0 { t with aux := { t.aux with offMask := 0 } })

/-- The aux DAC and mic bias follow the faults of Table 9-7. -/
def auxFollow (s : State) : State :=
  let f := auxFaultHolds s
  if f == s.aux.fault then s
  else if f then
    let t := { s with aux := { s.aux with fault := true } }
    let u := [0, 1].foldl (fun t o => if micOn t o then micStop o 0 t else t) (auxGoOff 1 t)
    u
  else auxResume { s with aux := { s.aux with fault := false } }

/-- D of R328 in mV: what the HPA and HPB entries state, else 900. -/
def detRef (s : State) : Nat :=
  let a := u16 (entryOf s 25) 18
  let b := u16 (entryOf s 26) 18
  if a ≠ 0 then a else if b ≠ 0 then b else 900

/-- The code of AUX14 (R328). -/
def detCode (d : Nat) : Nat := (2 * d * 4096 + 2400) / 4800

/-- After a swap AUX14 loads the code of the reference in force at the next TMR0 tick (R328). -/
def refreshDetRef (s : State) : State :=
  let x := detCode (detRef s)
  auxMod s 14 (fun a => { a with shadow := if a.target = x then none else some x })

/-- Table 14-5, R368: below the warning level every channel is held, and the crossing is counted and posted. -/
def execVauxWarning (s : State) : Host.Outcome State Fault Refusal :=
  whenever (fun s => s.pwr.dev != .off && s.pwr.dev != .por)
    (fun s => postBrown 2 1 (countBrown 2 (jacksBack { s with aux := { s.aux with vauxLow := true } }))) s

/-- Tables 8-3 and 14-5: below the reset level the channels and both mic bias outputs go off. -/
def execVauxReset (s : State) : Host.Outcome State Fault Refusal :=
  whenever (fun s => s.pwr.dev != .off && s.pwr.dev != .por && !s.aux.vauxReset)
    (fun s =>
      let was := [0, 1].filter (micOn s)
      let t := auxGoOff 2 { s with aux := { s.aux with vauxLow := true, vauxReset := true } }
      was.foldl (fun t o => postMicFault o 2
        (micMod (micStop o 4 t) o (fun m => { m with wasOn := true, faults := m.faults + 1 }))) t) s

/-- VAUX has stayed above 4.43 V for 2 ms: the hold ends, AUX14 resumes and the mic bias outputs that were
on restart (R340, Table 8-3). -/
def execVauxRecover (s : State) : Host.Outcome State Fault Refusal :=
  whenever (fun s => s.aux.vauxLow)
    (fun s =>
      let was := s.aux.vauxReset
      let t := postBrown 2 0 { s with aux := { s.aux with vauxLow := false, vauxReset := false } }
      if !was then serveJacks t
      else
        ([0, 1].filter (fun o => (micGet s o).wasOn)).foldl (fun t o =>
          let u := micMod t o (fun m => { m with wasOn := false })
          if t.aux.fault then u else postMicFault o 0 (micStart o (micGet u o).code u)) (auxResume t)) s

/-! ## Group 0x0B -/

/-- R342 for one channel that a command changes: BAD_PARAM or WRONG_STATE of the channel's role. -/
def auxReserved (c : Nat) : Bool := decide (12 ≤ c ∧ c ≤ 14) || decide (15 < c)

/-- AUX15 is the supervisor's in TEST and RECOVERY (R382): no table gives the status of another context's command, which is
DENIED here (DESIGN CHOICE, log entry 125). -/
def auxDenied (s : State) (c : Ctx) (ch : Nat) : Bool :=
  ch == 15 && (s.pwr.dev ∈ [Dev.test, Dev.recovery]) && s.host.supervisor != c

/-- AUX15 is the host's only in TEST and RECOVERY. -/
def auxClosed (s : State) (c : Nat) : Bool := c == 15 && !(s.pwr.dev ∈ [Dev.test, Dev.recovery])

def auxStateCode (s : State) (c : Nat) : Nat :=
  let a := auxGet s c
  if s.aux.fault || s.aux.vauxReset then 4
  else if !a.driving then 0
  else if a.hold.isSome then 2
  else if auxHeld s then 3
  else 1

def auxStatusCheck (p : List Byte) (_ : State) : Option Nat :=
  firstRefusal [(decide (15 < u8 p 0) || decide (1 < u8 p 1), stBadParam)]

/-- AUX_STATUS; in a range hold the codes are those of the new range, which the load tick has given (Table 14-6). -/
def auxStatusDo (o : Issue) (p : List Byte) (_ : Nat) (s : State) : Done :=
  let c := u8 p 0
  let a := auxGet s c
  let q := queueGet s c
  let n := ctxNum o.ctx
  let codes := (a.hold.map (·.2)).getD (a.present, a.target)
  okWith (b1 (auxStateCode s c) ++ b1 (a.pendRange.getD (auxRange a))
      ++ b1 (if hasQueue c && (q.running || c == 15) then 4 else a.timer) ++ b1 a.slew ++ b2 codes.1 ++ b2 codes.2
      ++ b2 (a.shadow.getD 0xFFFF) ++ b1 (if hasQueue c then flag q.running else 0xFF)
      ++ b1 (if hasQueue c then flag q.cycle else 0) ++ b2 (if hasQueue c then q.entries.length else 0) ++ zeros 2
      ++ b4 (tget 0 q.counts n))
    (if u8 p 1 = 1 ∧ hasQueue c = true then queueMod s c (fun q => { q with counts := tset 0 q.counts n 0 }) else s)

def execAuxStatus (o : Issue) (p : List Byte) (s : State) : Host.Outcome State Fault Refusal :=
  hostCommand 0x0B01 o p (auxStatusCheck p) (auxStatusDo o p) s

def auxConfigCheck (o : Issue) (p : List Byte) (s : State) : Option Nat :=
  let c := u8 p 0
  firstRefusal
    [(auxDenied s o.ctx c, stDenied),
     (auxReserved c || decide (2 < u8 p 1) || decide (3 < u8 p 2) || (hasQueue c && u8 p 2 != 0)
        || (c == 15 && u8 p 1 != 1) || (u8 p 3 % 32 == 0 && u8 p 3 != 0), stBadParam),
     (!canChange s o.ctx (0x0600 + c), stNotOwner),
     (auxClosed s c, stWrongState)]

/-- R337, R342: timer and SLEW at the commit, RANGE at the next load tick, or at once when the channel is
off. -/
def auxConfigDo (p : List Byte) (_ : Nat) (s : State) : Done :=
  ok (auxMod s (u8 p 0) (fun a =>
    let b := { a with timer := u8 p 2, slew := u8 p 3 }
    if u8 p 1 = auxRange a then { b with pendRange := none }
    else if a.driving then { b with pendRange := some (u8 p 1) }
    else { b with pendRange := none, range := u8 p 1, present := convertCode a.range (u8 p 1) a.present,
                  target := convertCode a.range (u8 p 1) a.target }))

def execAuxConfig (o : Issue) (p : List Byte) (s : State) : Host.Outcome State Fault Refusal :=
  hostCommand 0x0B02 o p (auxConfigCheck o p) (auxConfigDo p) s

/-- Enabling is not possible now (R342): TEST and RECOVERY run with no chart. -/
def auxBarred (s : State) : Bool :=
  s.aux.vauxReset || s.aux.fault || (s.cs.chart.isNone && !(s.pwr.dev ∈ [Dev.test, Dev.recovery]))

def auxEnableCheck (o : Issue) (p : List Byte) (s : State) : Option Nat :=
  let cs := bitsOf (u16 p 0) 16
  firstRefusal
    [(cs.any (auxDenied s o.ctx), stDenied),
     (cs.any auxReserved || decide (1 < u8 p 2), stBadParam),
     (cs.any (fun c => !canChange s o.ctx (0x0600 + c)), stNotOwner),
     (cs.any (auxClosed s) || (u8 p 2 == 1 && auxBarred s), stWrongState)]

/-- R338: the next TMR0 tick takes it up; a disabled channel stops its queue. -/
def auxEnableDo (p : List Byte) (_ : Nat) (s : State) : Done :=
  let on := u8 p 2 == 1
  ok ((bitsOf (u16 p 0) 16).foldl (fun t c =>
    let u := auxMod t c (fun a => { a with enabled := on, pendEnable := some on })
    if !on && hasQueue c then queueMod u c (fun q => { q with running := false }) else u) s)

def execAuxEnable (o : Issue) (p : List Byte) (s : State) : Host.Outcome State Fault Refusal :=
  hostCommand 0x0B03 o p (auxEnableCheck o p) (auxEnableDo p) s

/-- The status of one entry of AUX_WRITE. -/
def auxEntryStatus (o : Issue) (s : State) (c rsv code : Nat) : Option Nat :=
  firstRefusal
    [(auxDenied s o.ctx c, stDenied),
     (auxReserved c || rsv != 0 || decide (4095 < code), stBadParam),
     (!canChange s o.ctx (0x0600 + c), stNotOwner),
     (auxClosed s c || (hasQueue c && (queueGet s c).running), stWrongState)]

def auxWriteEntry (o : Issue) (p : List Byte) (s : State) (i : Nat) : Option Nat :=
  auxEntryStatus o s (u8 p (4 + 4 * i)) (u8 p (5 + 4 * i)) (u16 p (6 + 4 * i))

def auxWriteCheck (p : List Byte) (_ : State) : Option Nat :=
  firstRefusal [(u8 p 0 == 0 || decide (12 < u8 p 0), stBadParam)]

/-- R329, R342: all entries or none; the result names the first that fails. -/
def auxWriteDo (o : Issue) (p : List Byte) (_ : Nat) (s : State) : Done :=
  match (List.range (u8 p 0)).find? (fun i => (auxWriteEntry o p s i).isSome) with
  | some i =>
    let st := (auxWriteEntry o p s i).getD stBadParam
    { s := s, status := st, result := b1 i ++ b1 st }
  | none =>
    okWith (b1 0xFF ++ b1 stOk)
      ((List.range (u8 p 0)).foldl (fun t i =>
        auxMod t (u8 p (4 + 4 * i)) (fun a => { a with shadow := some (u16 p (6 + 4 * i)) })) s)

def execAuxWrite (o : Issue) (p : List Byte) (s : State) : Host.Outcome State Fault Refusal :=
  hostCommand 0x0B04 o p (auxWriteCheck p) (auxWriteDo o p) s

def auxTimerSetCheck (p : List Byte) (_ : State) : Option Nat :=
  firstRefusal
    [(u8 p 0 == 0 || decide (3 < u8 p 0) || decide (2 < u8 p 1)
        || (u8 p 1 != 0 && (u32 p 4 == 0 || decide (65536 < u32 p 4))), stBadParam)]

/-- R332: the timer's count restarts. -/
def auxTimerSetDo (p : List Byte) (_ : Nat) (s : State) : Done :=
  ok { s with aux := { s.aux with timers := tset (0, 1) s.aux.timers (u8 p 0) (u8 p 1, u32 p 4)
                                  timerCounts := tset 0 s.aux.timerCounts (u8 p 0) 0 } }

def execAuxTimerSet (o : Issue) (p : List Byte) (s : State) : Host.Outcome State Fault Refusal :=
  hostCommand 0x0B05 o p (auxTimerSetCheck p) (auxTimerSetDo p) s

/-- N of a queue's pace (R333). -/
def paceOk (source n : Nat) : Bool :=
  (source == 1 && decide (16 ≤ n ∧ n ≤ 65536)) || (source == 2 && decide (1 ≤ n ∧ n ≤ 256))

def auxQueueConfigCheck (o : Issue) (p : List Byte) (s : State) : Option Nat :=
  let c := u8 p 0
  firstRefusal
    [(auxDenied s o.ctx c, stDenied),
     (!hasQueue c || decide (1 < u8 p 1) || !paceOk (u8 p 2) (u32 p 4), stBadParam),
     (!canChange s o.ctx (0x0600 + c), stNotOwner),
     (auxClosed s c || (queueGet s c).running, stWrongState)]

def auxQueueConfigDo (p : List Byte) (_ : Nat) (s : State) : Done :=
  ok (queueMod s (u8 p 0) (fun q =>
    { q with cycle := u8 p 1 == 1, source := u8 p 2, lowMark := u8 p 3, n := u32 p 4, pos := 0, ticks := 0 }))

def execAuxQueueConfig (o : Issue) (p : List Byte) (s : State) : Host.Outcome State Fault Refusal :=
  hostCommand 0x0B06 o p (auxQueueConfigCheck o p) (auxQueueConfigDo p) s

def auxQueueWriteCheck (o : Issue) (p : List Byte) (s : State) : Option Nat :=
  let c := u8 p 0
  let n := u16 p 2
  firstRefusal
    [(auxDenied s o.ctx c, stDenied),
     (!hasQueue c || n == 0 || decide (256 < n) || (List.range n).any (fun i => decide (4095 < u16 p (4 + 2 * i))), stBadParam),
     (!canChange s o.ctx (0x0600 + c), stNotOwner),
     (auxClosed s c || ((queueGet s c).cycle && (queueGet s c).running), stWrongState)]

/-- R335. -/
def auxQueueWriteDo (p : List Byte) (_ : Nat) (s : State) : Done :=
  let c := u8 p 0
  let n := u16 p 2
  let xs := (List.range n).map (fun i => u16 p (4 + 2 * i))
  let q := queueGet s c
  if q.cycle then okWith (b2 (256 - n)) (queueMod s c (fun q => { q with entries := xs, pos := 0 }))
  else if 256 < q.entries.length + n then
    { s := s, status := stWrongState, result := b2 (256 - q.entries.length) }
  else okWith (b2 (256 - q.entries.length - n)) (queueMod s c (fun q => { q with entries := q.entries ++ xs }))

def execAuxQueueWrite (o : Issue) (p : List Byte) (s : State) : Host.Outcome State Fault Refusal :=
  hostCommand 0x0B07 o p (auxQueueWriteCheck o p) (auxQueueWriteDo p) s

def auxQueueControlCheck (o : Issue) (p : List Byte) (s : State) : Option Nat :=
  let c := u8 p 0
  firstRefusal
    [(auxDenied s o.ctx c, stDenied),
     (!hasQueue c || decide (2 < u8 p 1), stBadParam),
     (!canChange s o.ctx (0x0600 + c), stNotOwner),
     (auxClosed s c, stWrongState)]

def auxQueueControlDo (p : List Byte) (_ : Nat) (s : State) : Done :=
  ok (queueMod s (u8 p 0) (fun q =>
    match u8 p 1 with
    | 0 => { q with running := false }
    | 1 => { q with running := true, pos := if q.running then q.pos else 0 }
    | _ => { q with running := false, entries := [], pos := 0 }))

def execAuxQueueControl (o : Issue) (p : List Byte) (s : State) : Host.Outcome State Fault Refusal :=
  hostCommand 0x0B08 o p (auxQueueControlCheck o p) (auxQueueControlDo p) s

def auxReadbackSetCheck (p : List Byte) (_ : State) : Option Nat :=
  let bad := fun x => decide (15 < x) && x != 0xFF
  firstRefusal [(bad (u8 p 0) || bad (u8 p 1), stBadParam)]

def auxReadbackSetDo (p : List Byte) (_ : Nat) (s : State) : Done :=
  ok { s with aux := { s.aux with muxA := u8 p 0, muxB := u8 p 1 } }

def execAuxReadbackSet (o : Issue) (p : List Byte) (s : State) : Host.Outcome State Fault Refusal :=
  hostCommand 0x0B09 o p (auxReadbackSetCheck p) (auxReadbackSetDo p) s

end Sys2Proof.Machine
end

