-- ==== Sys2Proof/Machine/UsbPort.lean ====
section
/-! DEFINITION. What other units do to a USB port: HID bits and wake conditions (R253, R267). -/

namespace Sys2Proof.Machine

def usbGet (s : State) (p : Nat) : Usb := if p = 0 then s.usbA else s.usbB

def usbMod (s : State) (p : Nat) (f : Usb → Usb) : State :=
  if p = 0 then { s with usbA := f s.usbA } else { s with usbB := f s.usbB }

/-- Entry of a port (Table 11-5). -/
def usbEntry (s : State) (p : Nat) : List Byte := entryOf s p

/-- A port's descriptor section of the chart in force (R256). -/
def usbSet (s : State) (p : Nat) : List Byte := (s.cs.chart.map (fun c => c.secD 6 p)).getD []

/-- Wire number of streaming interface i: 0, 1 playback, 2, 3 capture. -/
def usbIf (s : State) (p i : Nat) : Nat := if usbSet s p = [] then 0xFF else u8 (usbSet s p) (28 + i)

/-- Streaming interface i of a port. -/
def usbStream (s : State) (p i : Nat) : UsbStream := tget UsbStream.zero (usbGet s p).streams i

def usbStreamMod (s : State) (p i : Nat) (f : UsbStream → UsbStream) : State :=
  usbMod s p (fun u => { u with streams := tmod UsbStream.zero u.streams i f })

def usbAlt (s : State) (p i : Nat) : Nat := (usbStream s p i).alt

/-- The alternate-setting record of an interface and setting at the present speed (Table 11-4). -/
def usbRecord (s : State) (p i alt : Nat) : Option (List Byte) :=
  (altRecords (usbSet s p)).find? (fun r =>
    u8 r 0 == usbIf s p i && u8 r 1 == alt && bit (u8 r 2) (if (usbGet s p).speed = 3 then 1 else 0))

/-- The overlay that an interface holds: 0xFF for none or the base chart. -/
def usbOverlay (s : State) (p i : Nat) : Nat :=
  match usbRecord s p i (usbAlt s p i) with
  | some r => if usbAlt s p i = 0 then 0xFF else u8 r 5
  | none => 0xFF

/-- An overlay goes out of service while interfaces are at settings that name it: their data is discarded until the next
SET_INTERFACE (R261). -/
def usbDiscard (n : Nat) (s : State) : State :=
  [0, 1].foldl (fun t p => (List.range 4).foldl (fun u i =>
    if usbAlt u p i ≠ 0 ∧ usbOverlay u p i = n then usbStreamMod u p i (fun x => { x with discard := true }) else u) t) s

/-- The bits of the input report change, and a report waits to be sent (R267). -/
def hidChange (p bits : Nat) (s : State) : State :=
  usbMod s p (fun u =>
    if u.hid = bits then u
    else if u.st = 2 ∨ u.st = 3 then { u with hid := bits, reports := u.reports ++ [bits] }
    else { u with hid := bits })

/-- Set or clear a bit of the report. -/
def hidBit (p k : Nat) (on : Bool) (s : State) : State :=
  let h := (usbGet s p).hid
  hidChange p (if on then h ||| 2 ^ k else h - 2 ^ k * flag (bit h k)) s

/-- Ports that report the buttons of a jack (HID_JACKS). -/
def hidPorts (s : State) (j : Nat) : List Nat :=
  [0, 1].filter (fun p => portEnabled s p && bit (u8 (usbEntry s p) 0) 6 && bit (u8 (usbEntry s p) 2) j)

/-- A wake condition on a suspended port whose host has enabled remote wake; others are ignored (R253). -/
def wakeDue (p : Nat) (s : State) : State :=
  usbMod s p (fun u => if u.st = 3 ∧ u.wakeEnabled = true then { u with wakeDue := true } else u)

/-- JACK_INSERTED or JACK_REMOVED of a jack in HID_JACKS, with REMOTE_WAKE_JACK set; a button press with
REMOTE_WAKE_BUTTON set (`k` is the bit of FLAGS). -/
def jackWakes (j k : Nat) (s : State) : State :=
  ([0, 1].filter (fun p => bit (u8 (usbEntry s p) 0) k && bit (u8 (usbEntry s p) 2) j)).foldl (fun t p => wakeDue p t) s

end Sys2Proof.Machine
end

