-- ==== Sys2Proof/Machine/Outputs.lean ====
section
/-! DEFINITION. Outputs, their gates and start sequences, SHELTER mutes and restores, class-D protection, and
the jacks (chapter 9). Outputs are 0 HPA, 1 HPB, 2 LOUT, 3 SPK; jacks 0 A and 1 B. -/

namespace Sys2Proof.Machine

def outGet (s : State) (o : Nat) : Output := tget Output.reset s.out.outs o

def outMod (s : State) (o : Nat) (f : Output → Output) : State :=
  { s with out := { s.out with outs := tmod Output.reset s.out.outs o f } }

/-- The port entry of an output (Table 9-3). -/
def outEntry (s : State) (o : Nat) : List Byte := entryOf s (25 + o)

/-- The output's port is in the Near bank. -/
def outPresent (s : State) (o : Nat) : Bool := portEnabled s (25 + o)

/-- JACK_MODE of a jack; 0 means that it is not detected (R215). -/
def jackMode (s : State) (j : Nat) : Nat := u8 (outEntry s j) 3

/-- A headphone output is gated by its jack (R205, R215). -/
def jackGated (s : State) (o : Nat) : Bool := decide (o < 2) && bit (u8 (outEntry s o) 0) 1 && jackMode s o != 0

/-- The jack lets the output run: PRESENT with class 1 to 4 (R205). -/
def jackGateOpen (s : State) (o : Nat) : Bool :=
  !jackGated s o || ((jackGet s o).st == 3 && decide (1 ≤ (jackGet s o).class_) && decide ((jackGet s o).class_ ≤ 4))

/-- The context that moors the jack is at level 1 (R45, R202). -/
def jackLevel1 (s : State) (j : Nat) : Bool :=
  let w := ownerOf s (0x0400 + j)
  decide (w < 5) && (ctxGet s w).level1

/-- Start and stop ramp in 0.1 ms (Table 9-5). -/
def startTenths (s : State) (o : Nat) : Nat := if o < 2 ∧ jackLevel1 s o then 200 else 80

/-- OUTPUT_STATE (R222). -/
def postOutState (o st cause log : Nat) (s : State) : State :=
  post 0x0A05 o log (st + 256 * cause) (.res [0x0119 + o]) s

/-- A rail's lockout holds SPK in FAULT, whatever its other channel does (R212). -/
def railHeld (s : State) (o : Nat) : Bool := o == 3 && (s.out.lockL || s.out.lockR)

/-- The state of Table 9-4 that an output is in. `Output.st` of SPK is what the channels that no lockout stops do. -/
def outState (s : State) (o : Nat) : Nat := if railHeld s o then 6 else (outGet s o).st

/-- The charge pump serves any HP or LOUT output that is driven or starting (R206). -/
def refreshPump (s : State) : State :=
  { s with out := { s.out with
      pump := (List.range 3).any (fun o => (outGet s o).driving || (outGet s o).st == 1) } }

/-- The output enters PLAYING, MUTED or CLAMPED, and OUTPUT_STATE is posted. -/
def enterOut (o st : Nat) (s : State) : State :=
  let q := outGet s o
  let s1 := refreshPump (outMod s o (fun q => { q with st := st }))
  auxFollow (if railHeld s o then s1 else postOutState o st q.cause q.log s1)

/-- A gate at mute with no ramp. -/
def gateMute (g : Slot) : Slot := { g with target := 0, present := 0, start := 0, k := 0, n := 0 }

/-- A gate at unity with no ramp. -/
def gateOpen (g : Slot) : Slot := { g with target := unity, present := unity, start := unity, k := 0, n := 0 }

/-- The channels' own gates as SPK starts: open, but for a channel that is locked out (R212). -/
def openChannels (s : State) : State :=
  { s with out := { s.out with
      gateL := if s.out.lockL then gateMute s.out.gateL else gateOpen s.out.gateL
      gateR := if s.out.lockR then gateMute s.out.gateR else gateOpen s.out.gateR
      riseL := false, riseR := false } }

/-- Ask for a ramp of the gate from the next tick (R201). -/
def askRamp (o : Nat) (up : Bool) (tenths after cause log : Nat) (s : State) : State :=
  outMod s o (fun q => { q with rampPending := some (up, tenths), after := after, cause := cause, log := log })

/-- Something keeps both channels of SPK from switching (R211 to R213). -/
def spkHeld (s : State) : Bool :=
  (s.out.lockL && s.out.lockR) || s.out.latched || s.out.overTemp || s.out.restartWait

/-- Run the start sequence (R206, R207). HP and LOUT wait for their servo; SPK switches at once and ramps. In DOZE and
SLEEP the output waits MUTED for the return to ACTIVE (R208). -/
def startOutput (o tenths cause log : Nat) (s : State) : State :=
  if !fabricStates s then
    (if (outGet s o).st = 5 then s else enterOut o 5 (outMod s o (fun q => { q with cause := cause, log := log })))
  else if o = 3 then
    if spkHeld s then outMod s o (fun q => { q with st := 6, cause := cause, log := log })
    else auxFollow (askRamp o true tenths 0 cause log
      (openChannels (outMod s o (fun q => { q with st := 1, driving := true, gate := gateMute q.gate }))))
  else
    auxFollow <| refreshPump (outMod s o (fun q => { q with st := 1, cause := cause, log := log, gate := gateMute q.gate, rampPending := none }))

/-- The output is driven no more: driver off and clamped, or switching stopped. -/
def stopDriving (o : Nat) (s : State) : State :=
  refreshPump (outMod s o (fun q => { q with driving := false, gate := gateMute q.gate, rampPending := none, after := 0 }))

/-- The output becomes CLAMPED, which is not enabled unless an enable waits for the next tick (R205, Table 9-4). -/
def clampOutput (o : Nat) (s : State) : State :=
  enterOut o 0 (stopDriving o (outMod s o (fun q => { q with awaiting := false, resumes := false, enabled := q.pending == some true })))

/-- An enable that a tick takes up (R205, R210). During SHELTER the output goes on the restore list. -/
def takeEnable (o : Nat) (s : State) : State :=
  let q := outGet s o
  if !outPresent s o then outMod s o (fun q => { q with enabled := false })
  else if q.st = 0 ∨ (q.st = 6 ∧ o ≠ 3) then
    if s.pwr.shelter then enterOut o 5 (outMod s o (fun q => { q with awaiting := true, resumes := false, cause := 0 }))
    else if !jackGateOpen s o then enterOut o 5 (outMod s o (fun q => { q with cause := 0 }))
    else startOutput o (startTenths s o) 0 q.log s
  else if q.st = 4 ∧ q.after = 1 then
    if s.pwr.shelter then outMod s o (fun q => { q with awaiting := true, after := 0 })
    else askRamp o true (startTenths s o) 0 0 q.log s
  else s

/-- A disable that a tick takes up (R205). The ramp of an over-temperature goes on to FAULT (Table 9-9). -/
def takeDisable (o : Nat) (s : State) : State :=
  let q := outGet s o
  if q.st = 0 then s
  else if q.st = 6 ∧ o = 3 then outMod s o (fun q => { q with awaiting := false })
  else if q.st = 1 ∨ q.st = 5 ∨ q.st = 6 then clampOutput o (outMod s o (fun q => { q with cause := 0 }))
  else if q.after = 2 then outMod s o (fun q => { q with awaiting := false })
  else askRamp o false (startTenths s o) 1 0 q.log (outMod s o (fun q => { q with awaiting := false }))

/-- A gate whose ramp of n periods starts at a tick (R117). -/
def startGate (g : Slot) (target : Word) (n : Nat) : Slot :=
  { g with target := target, start := g.present, k := 1, n := n, present := gainRamp g.present target 1 n }

/-- A load waits to swap for this output, which stays at mute until then (R200). -/
def loadHolds (s : State) (o : Nat) : Bool := s.cs.load.any (fun l => decide (o ∈ l.mutedOuts))

/-- A ramp that a tick starts (R117, R201). One to unity that a waiting load holds goes to mute over its 1 ms (R200). -/
def takeRamp (o : Nat) (s : State) : State :=
  let q := outGet s o
  match q.rampPending with
  | none => s
  | some (up, tenths) =>
    if up && loadHolds s o then
      let g := if q.gate.present = 0 then gateMute q.gate else startGate q.gate 0 (ceilDiv (10 * fabricHz s) 10000)
      outMod s o (fun q => { q with gate := g, rampPending := none, after := 4, st := 4 })
    else
      let g := startGate q.gate (if up then unity else 0) (ceilDiv (tenths * fabricHz s) 10000)
      outMod s o (fun q => { q with gate := g, rampPending := none, st := if up then 2 else 4 })

/-- R212: a channel of SPK whose rail has recovered ramps up over 10 ms; the output ramps with it. -/
def takeRises (s : State) : State :=
  if s.out.riseL || s.out.riseR then
    let n := ceilDiv (100 * fabricHz s) 10000
    let t := if (outGet s 3).st = 3 then outMod s 3 (fun q => { q with st := 2, cause := 4, log := 0 }) else s
    { t with out := { t.out with
        gateL := if t.out.riseL then startGate t.out.gateL unity n else t.out.gateL
        gateR := if t.out.riseR then startGate t.out.gateR unity n else t.out.gateR
        riseL := false, riseR := false } }
  else s

/-- One tick of a gate: the ramp advances; k passes n at the tick after the last period. -/
def stepGate (g : Slot) : Slot :=
  if g.n = 0 ∨ g.n < g.k then g
  else { g with k := g.k + 1, present := gainRamp g.start g.target (g.k + 1) g.n }

/-- A gate's ramp advances at a tick, and so do the gates of SPK's channels. -/
def stepOutput (s : State) (o : Nat) : State :=
  let t := outMod s o (fun q => { q with gate := stepGate q.gate })
  if o = 3 then { t with out := { t.out with gateL := stepGate t.out.gateL, gateR := stepGate t.out.gateR } } else t

/-- R208: an output ramps to mute before DOZE or SLEEP; one in STARTING abandons its sequence, and the ramp of an
over-temperature goes on. -/
def restOutput (s : State) (o : Nat) : State :=
  let q := outGet s o
  if q.after = 2 then s
  else if q.st = 1 then enterOut o 5 (stopDriving o (outMod s o (fun q => { q with cause := 6, log := 0 })))
  else if q.st = 2 ∨ q.st = 3 ∨ (q.st = 4 ∧ q.rampPending.any (·.1)) then askRamp o false (startTenths s o) 0 6 0 s
  else s

/-- The mutes before DOZE or SLEEP have started: an output that starts after them mutes at once. -/
def restingOutputs (s : State) : Bool := s.pwr.dev == .active && s.pwr.transition.any (·.muting)

/-- The enable or disable that a tick latches. -/
def latchEnable (s : State) (o : Nat) : State :=
  match (outGet s o).pending with
  | some true => takeEnable o (outMod s o (fun q => { q with pending := none }))
  | some false => takeDisable o (outMod s o (fun q => { q with pending := none }))
  | none => s

/-- What a tick latches for an output: an enable or disable, and a ramp. The gate of an output that starts at this tick
ramps from the next (R207). -/
def tickOutput (s : State) (o : Nat) : State :=
  let s1 := latchEnable s o
  let s2 := if restingOutputs s1 then restOutput s1 o else s1
  let s3 := if (outGet s o).st ≠ 1 ∧ (outGet s2 o).st = 1 then s2 else takeRamp o s2
  if o = 3 then takeRises s3 else s3

/-- The gate's ramp is over: the tick after its last period has come. -/
def gateDone (g : Slot) : Bool := g.n != 0 && decide (g.n < g.k)

/-! ## Jack sequence -/

/-- AUX15 stops when its classification is over (R336), also one that SHELTER or a hold has put back to beat 2. -/
def endStimulus (j : Nat) (s : State) : State :=
  if 3 ≤ (jackGet s j).beat ∨ ((jackGet s j).beat = 2 ∧ aux15Busy s = false) then auxStimulusEnd s else s

/-- R267: on a removal mute the bits that the jack set are cleared. -/
def hidRelease (j : Nat) (s : State) : State :=
  let b := (jackGet s j).button
  if b < 4 then (hidPorts s j).foldl (fun t p => hidBit p b false t) s else s

/-- The jack has no button pressed, and its scan starts anew (R220); the HID bits that it set are cleared (R267). -/
def releaseButton (j : Nat) (s : State) : State :=
  jackMod (hidRelease j s) j (fun q => { q with button := 0xFF, cand := 0xFF, candMs := 0 })

/-- The jack enters CLASSIFYING, where no button is scanned, and waits for AUX15. -/
def classify (j : Nat) (s : State) : State :=
  serveJacks (jackMod (releaseButton j s) j (fun q => { q with st := 2, beat := 2 }))

/-- R218: class and pole switch position from the tip load in Ω and the two line voltages in mV. -/
def decideClass (zt va vb : Nat) : Nat × Nat :=
  if 1000 < zt then (4, 0)
  else if zt < 8 ∨ 600 ≤ zt then (5, 0)
  else if va < 100 ∧ vb < 100 then (1, 0)
  else if 300 ≤ va ∧ va ≤ 1600 ∧ vb < 100 then (2, 1)
  else if 300 ≤ vb ∧ vb ≤ 1600 ∧ va < 100 then (3, 2)
  else (5, 0)

/-- A jack event (R222); an insertion or a removal is a wake condition of a suspended USB port (R253). -/
def postJack (code j data log : Nat) (s : State) : State := jackWakes j 3 (post code j log data (.res [0x0400 + j]) s)

/-- A reclassification that the plug's removal cuts short ends with WRONG_STATE (DESIGN CHOICE, log entry 41). -/
def dropReclassify (j : Nat) (s : State) : State :=
  completeAll (jackGet s j).reclassify stWrongState (jackMod s j (fun q => { q with reclassify := [] }))

/-- The output is in the fault that the next insertion ends (R214), and no fault of the whole part holds it there. -/
def headphoneFault (s : State) (o : Nat) : Bool :=
  (outGet s o).st == 6 && (outGet s o).lastFault == 1 && !s.eng.halted && !s.pwr.thermalShut

/-- Beats 8 and 9 of Table 9-11, and an insertion that ends a headphone fault (R214). In DOZE a driven output waits at mute
for the return to ACTIVE (R208). -/
def jackStarts (j : Nat) (inserted : Bool) (s : State) : State :=
  let q := outGet s j
  let ends := inserted && headphoneFault s j
  let cause := if ends then 4 else 1
  let named := outMod s j (fun q => { q with cause := cause, log := 0 })
  if !q.enabled then (if ends then clampOutput j named else s)
  else if !jackGateOpen s j then (if ends then enterOut j 5 named else s)
  else if ends || (jackGated s j && ((q.st == 5 && !q.awaiting) || q.st == 4)) then
    if s.pwr.shelter then
      let t := outMod named j (fun q => { q with awaiting := true })
      if q.st = 6 then enterOut j 5 t else t
    else if q.driving then (if fabricStates s then askRamp j true (startTenths s j) 0 cause 0 s else s)
    else startOutput j (startTenths s j) cause 0 s
  else s

/-- Beat 7 of Table 9-11: the class is decided and the events are posted (R218, R219). -/
def decideJack (j vb : Nat) (s : State) : State :=
  let q := jackGet s j
  let d := decideClass q.zt q.va vb
  let log := (q.reclassify.head?.map (·.log)).getD 0
  let s1 := jackMod (endStimulus j s) j (fun q =>
    { q with st := 3, beat := 0, vb := vb, class_ := d.1, pole := d.2, held := d.1, reclassify := [], returning := false })
  let s2 := if q.held ≠ 0 ∧ q.held ≠ d.1 then postJack 0x0A02 j q.held log s1 else s1
  let s3 := if q.held = d.1 then s2
    else postJack 0x0A01 j (d.1 + 256 * d.2 + 65536 * min q.zt 0xFFFF) log
      (jackMod s2 j (fun q => { q with insertions := q.insertions + 1 }))
  serveJacks (jackStarts j q.reclassify.isEmpty (completeAll q.reclassify stOk s3))

/-- R216: the removal mute in hardware; the output clamps and is MUTED if enabled. -/
def removalMute (j : Nat) (s : State) : State :=
  let q := outGet s j
  if q.st = 0 ∨ q.st = 6 then s
  else
    let s1 := stopDriving j (outMod s j (fun q => { q with cause := 1, log := 0, awaiting := false, pending := q.pending }))
    if q.enabled then (if q.st = 5 then s1 else enterOut j 5 s1) else enterOut j 0 s1

/-! ## Ramps, servo, SHELTER -/

/-- A reclassification of the output's jack waits for the output to be at mute. -/
def reclassifyWaits (s : State) (o : Nat) : Bool :=
  decide (o < 2) && (jackGet s o).st == 3 && !(jackGet s o).reclassify.isEmpty

/-- A reclassification that has waited for the output's stop ramp runs from beat 2 (Table 9-12). -/
def reclassifyNow (j : Nat) (s : State) : State := if reclassifyWaits s j then classify j s else s

/-- A load waits no more for the mute of an output. -/
def loadWaitsNot (o : Nat) (s : State) : State :=
  { s with cs := { s.cs with load := s.cs.load.map (fun l => { l with outs := without o l.outs }) } }

/-- A channel's gate still rises (R212). -/
def channelRises (s : State) (o : Nat) : Bool :=
  o == 3 && (s.out.riseL || s.out.riseR || s.out.gateL.n != 0 || s.out.gateR.n != 0)

/-- R201: a gate ramp has ended, and what it was for follows. -/
def gateRampEnd (o : Nat) (s : State) : State :=
  let q := outGet s o
  let s1 := outMod s o (fun q => { q with gate := { q.gate with k := 0, n := 0 } })
  if q.gate.target ≠ 0 then (if channelRises s o then s1 else enterOut o 3 s1)
  else
    match q.after with
    | 1 => reclassifyNow o (clampOutput o s1)
    | 3 => reclassifyNow o (enterOut o 5 (stopDriving o s1))
    | 4 => s1
    | _ =>
      let s1 := loadWaitsNot o s1
      let s2 := outMod s1 o (fun q => { q with after := 0 })
      reclassifyNow o (enterOut o 5 (if o = 3 || reclassifyWaits s2 o then stopDriving o s2 else s2))

/-- R206: the servo has trimmed the offset and the clamp releases; the gate ramps from the next tick. -/
def execServoEnd (o : Fin 4) (residual : Int) (s : State) : Host.Outcome State Fault Refusal :=
  whenever (fun s => decide (o.val < 3) && (outGet s o.val).st == 1)
    (fun s =>
      let q := outGet s o.val
      askRamp o.val true (startTenths s o.val) 0 q.cause q.log
        (outMod s o.val (fun q => { q with driving := true, residual := residual }))) s

/-- A jack of an output that waits at mute for a reclassification is classified again (Table 9-12). -/
def muteReclassify (o : Nat) (s : State) : State :=
  if reclassifyWaits s o then classify o (enterOut o 5 (stopDriving o s)) else s

/-- R200: a load's mute ramp of an output has ended; the swap waits for it no more. -/
def execOutputLoadRampEnd (o : Fin 4) (s : State) : Host.Outcome State Fault Refusal :=
  whenever (fun s => gateDone (outGet s o.val).gate && (outGet s o.val).after == 4)
    (fun s => muteReclassify o.val (loadWaitsNot o.val
      (outMod s o.val (fun q => { q with gate := { q.gate with k := 0, n := 0 } })))) s

/-- R209: SHELTER starts for one output. A ramp up that waits for its tick does not start, and the ramp of an
over-temperature, which is as short, goes on to FAULT. An output in STARTING comes back by its start sequence, over the
restore ramp if a restore was bringing it back. -/
def shelterOutput (s : State) (o : Nat) : State :=
  let q := outGet s o
  if q.after = 2 then s
  else if q.st = 1 then
    enterOut o 5 (stopDriving o (outMod s o (fun q => { q with cause := 2, log := 0, awaiting := q.enabled })))
  else if q.st = 2 ∨ q.st = 3 ∨ q.st = 4 then
    let back := q.enabled && (q.st != 4 || q.awaiting || q.after == 4 || q.after == 5 || q.rampPending.any (·.1))
    askRamp o false 10 (if q.st ≠ 4 then 0 else if q.after = 4 then 5 else q.after) 2 0
      (outMod s o (fun q => { q with awaiting := back, resumes := back }))
  else if q.st = 5 ∧ q.rampPending.any (·.1) then
    outMod s o (fun q => { q with rampPending := none, awaiting := q.enabled, resumes := q.enabled, cause := 2, log := 0 })
  else s

/-- R209: every output mutes; a running classification goes back to beat 2 (R217). -/
def outputsShelter (s : State) : State := jacksBack ((List.range 4).foldl shelterOutput s)

/-- R210: one output that waits is restored: SPK over the restore ramp where it played or came up before SHELTER. -/
def restoreOutput (log : Nat) (s : State) (o : Nat) : State :=
  let q := outGet s o
  if !q.awaiting then s
  else
    let s1 := outMod s o (fun q => { q with awaiting := false })
    if !q.enabled || !jackGateOpen s o then s1
    else if o = 3 then startOutput 3 (if q.resumes then 100 else 80) 3 log s1
    else if q.driving then askRamp o true 100 0 3 log s1
    else startOutput o (startTenths s o) 3 log s1

def restoreOutputs (log : Nat) (s : State) : State := (List.range 4).foldl (restoreOutput log) s

/-- The outputs' part of the end of SHELTER (R210, R217). -/
def outputsAfterShelter (s : State) : State := serveJacks (if s.out.autoRestore then restoreOutputs 0 s else s)

/-- R208: outputs ramp to mute before DOZE or SLEEP. -/
def outputsRest (s : State) : State := (List.range 4).foldl restOutput s

/-- Every gate is at rest, so that a transition can go on (R376). -/
def outputsAtRest (s : State) : Bool :=
  (List.range 4).all (fun o => !((outGet s o).st ∈ [1, 2, 3, 4]) && (outGet s o).rampPending.isNone)

/-- R208: at SLEEP, HP and LOUT are clamped and the charge pump stops. -/
def outputsSleep (s : State) : State :=
  refreshPump ((List.range 4).foldl (fun s o => outMod s o (fun q => { q with driving := false })) s)

/-- R208: enabled outputs run their start sequence when the part returns to ACTIVE. -/
def outputsWake (s : State) : State :=
  (List.range 4).foldl (fun s o =>
    let q := outGet s o
    if q.enabled && q.st == 5 && !q.awaiting && jackGateOpen s o then
      if s.pwr.shelter then outMod s o (fun q => { q with awaiting := true })
      else startOutput o (startTenths s o) 6 0 s
    else s) s

/-! ## Faults -/

/-- OUTPUT_FAULT (Table 9-7). -/
def postOutFault (o cause : Nat) (s : State) : State := post 0x0A04 o 0 cause (.res [0x0119 + o]) s

/-- An output goes to its fault state without a ramp (R204), and OUTPUT_FAULT is posted. A reclassification that waited for
its mute ramp runs. -/
def faultOutput (o cause : Nat) (s : State) : State :=
  reclassifyNow o (auxFollow (refreshPump (postOutFault o cause (outMod (stopDriving o s) o (fun q =>
    { q with st := 6, lastFault := cause, faults := q.faults + 1, awaiting := false, resumes := false })))))

/-- Table 9-9: the over-temperature ramp has ended, and SPK is in FAULT. -/
def overTempFault (o : Nat) (s : State) : State :=
  faultOutput o 5 { s with out := { s.out with overTemp := true } }

/-- R201: the gate ramp's end; the mute ramp of a load is concluded by OUTPUT_LOAD_RAMP_END. A class-D
over-temperature ramp ends in FAULT (Table 9-9). -/
def outputRampOver (o : Nat) (s : State) : State :=
  if !gateDone (outGet s o).gate || (outGet s o).after == 4 then s
  else if (outGet s o).after = 2 ∧ (outGet s o).gate.target = 0 then overTempFault o s
  else gateRampEnd o s

/-- The channels of SPK that have risen are at unity. -/
def settleChannels (s : State) : State :=
  let settle := fun (g : Slot) => if gateDone g then { g with k := 0, n := 0 } else g
  { s with out := { s.out with gateL := settle s.out.gateL, gateR := settle s.out.gateR } }

/-- R212: a channel's own ramp is over, and SPK plays where its gate has no ramp of its own. -/
def channelsOver (s : State) : State :=
  let t := settleChannels s
  let q := outGet t 3
  if q.st = 2 ∧ q.gate.n = 0 ∧ q.rampPending.isNone ∧ !channelRises t 3 then enterOut 3 3 t else t

/-- A gate ramp of the output, or of one of SPK's channels, is over. -/
def rampOver (o : Nat) (s : State) : Bool :=
  (gateDone (outGet s o).gate && (outGet s o).after != 4)
    || (o == 3 && (gateDone s.out.gateL || gateDone s.out.gateR))

/-- R201, R212: a gate ramp's end. -/
def execOutputGateRampEnd (o : Fin 4) (s : State) : Host.Outcome State Fault Refusal :=
  whenever (rampOver o.val)
    (fun s => outputRampOver o.val (if o.val = 3 then channelsOver s else s)) s

/-- SPK leaves FAULT when nothing holds it there: it restarts when enabled (R211-R213). -/
def spkRecover (tenths : Nat) (s : State) : State :=
  if s.eng.halted || s.pwr.thermalShut || spkHeld s then auxFollow s
  else if (outGet s 3).st ≠ 6 then s
  else if (outGet s 3).enabled then
    if s.pwr.shelter then enterOut 3 5 (outMod s 3 (fun q => { q with awaiting := true, resumes := false, cause := 4, log := 0 }))
    else startOutput 3 tenths 4 0 s
  else clampOutput 3 (outMod s 3 (fun q => { q with cause := 4, log := 0 }))

/-- R211: the 250 ms are over. -/
def execSpkRestartTimer (s : State) : Host.Outcome State Fault Refusal :=
  whenever (fun s => s.out.restartWait)
    (fun s => spkRecover 80 { s with out := { s.out with restartWait := false } }) s

/-- R211: SPK stops and restarts after 250 ms; the third over-current within 10 s latches the fault. -/
def spkOvercurrent (s : State) : State :=
  let l := recentTimes s s.out.overcurrents ++ [(0, false)]
  let t := { s with free := s.free + 1 }
  if 3 ≤ l.length then
    faultOutput 3 3 { t with out := { t.out with overcurrents := l, latched := true, restartWait := false } }
  else faultOutput 3 2 { t with out := { t.out with overcurrents := l, restartWait := true } }

def execSpkOvercurrent (s : State) : Host.Outcome State Fault Refusal :=
  whenever (fun s => (outGet s 3).driving) spkOvercurrent s

/-- R214: 250 mA for 5 µs. -/
def execHpOvercurrent (o : Fin 2) (s : State) : Host.Outcome State Fault Refusal :=
  whenever (fun s => (outGet s o.val).driving) (faultOutput o.val 1) s

/-- The lockout of one rail, 0 left and 1 right. -/
def setLock (ch : Nat) (on : Bool) (s : State) : State :=
  if ch = 0 then { s with out := { s.out with lockL := on } } else { s with out := { s.out with lockR := on } }

def railLocked (s : State) (ch : Nat) : Bool := if ch = 0 then s.out.lockL else s.out.lockR

/-- A channel stops at once: its own gate is at mute (R212). -/
def stopChannel (ch : Nat) (s : State) : State :=
  if ch = 0 then { s with out := { s.out with gateL := gateMute s.out.gateL, riseL := false } }
  else { s with out := { s.out with gateR := gateMute s.out.gateR, riseR := false } }

/-- SPK has no channel left that may switch: the output stops as in a fault. -/
def stopBoth (s : State) : State :=
  if spkHeld s && ((outGet s 3).driving || (outGet s 3).st == 1) then
    outMod (stopDriving 3 s) 3 (fun q => { q with st := 6, awaiting := false, resumes := false })
  else s

/-- R212: a PVDD rail below 4.5 V stops the channel that it feeds, and SPK is in FAULT. -/
def execPvddUvlo (ch : Fin 2) (s : State) : Host.Outcome State Fault Refusal :=
  whenever (fun s => s.pwr.dev != .off && s.pwr.dev != .por)
    (fun s =>
      if railLocked s ch.val then s
      else auxFollow (postOutFault 3 4 (outMod (stopBoth (stopChannel ch.val (setLock ch.val true s))) 3
        (fun q => { q with lastFault := 4, faults := q.faults + 1 })))) s

/-- The lockout of a rail is over: its channel restarts over 10 ms where SPK is enabled. Where SPK rests, it leaves FAULT
with the last lockout. -/
def channelReturns (ch : Nat) (s : State) : State :=
  let q := outGet s 3
  if q.st = 6 then spkRecover 100 s
  else if q.driving then
    (if ch = 0 then { s with out := { s.out with riseL := true } } else { s with out := { s.out with riseR := true } })
  else if railHeld s 3 then s
  else enterOut 3 q.st (outMod s 3 (fun q => { q with cause := 4, log := 0 }))

/-- R212: the rail has stayed above 4.53 V for 2 ms. -/
def execPvddRecover (ch : Fin 2) (s : State) : Host.Outcome State Fault Refusal :=
  whenever (fun s => railLocked s ch.val) (fun s => channelReturns ch.val (setLock ch.val false s)) s

/-- SPK_THERMAL (R222). -/
def postSpkThermal (on : Bool) (t21 : Int) (s : State) : State :=
  post 0x0A06 0 0 (flag on + 65536 * unsigned 16 t21) (.res [0x011C]) s

/-- R213 and Table 9-9, checked every 100 ms; at 125 °C the gate ramps to mute over 1.0 ms, and an SPK that does not
switch is in FAULT at once. -/
def execClassdThermalCheck (t21 : Int) (s : State) : Host.Outcome State Fault Refusal :=
  whenever (fun s => fabricStates s || s.pwr.dev == .doze)
    (fun s =>
      let f := s.out.foldback
      if 1250 ≤ t21 then
        if s.out.overTemp then s
        else if !(outGet s 3).driving then overTempFault 3 s
        else if (outGet s 3).after = 2 then s
        else askRamp 3 false 10 2 4 0 s
      else if 1150 ≤ t21 then
        let t := { s with out := { s.out with foldback := min 1200 (f + 50) } }
        if f = 0 then postSpkThermal true t21 t else t
      else if 1100 ≤ t21 then s
      else if s.out.overTemp then spkRecover 100 { s with out := { s.out with overTemp := false, foldback := 1200 } }
      else
        let t := { s with out := { s.out with foldback := f - 10 } }
        if f ≠ 0 ∧ f ≤ 10 then postSpkThermal false t21 t else t) s

/-! ## Jack events -/

/-- R215: the detect comparators, and the jack sequence with them, run. -/
def jackAlive (s : State) : Bool :=
  s.pwr.dev != .off && s.pwr.dev != .por && !s.eng.halted && !s.pwr.thermalShut

/-- The detect comparator of a jack runs, and its jack is detected (R215). -/
def jackDetected (j : Nat) (s : State) : Bool := jackAlive s && jackMode s j != 0

/-- R217: JDET goes to present. -/
def jdetPresent (j : Nat) (s : State) : State :=
  jackMod s j (fun q =>
    if q.st = 0 then { q with present := true, st := 1 }
    else if q.st = 4 then { q with present := true, st := 1, returning := true }
    else { q with present := true })

/-- R216, R219, Table 9-12: JDET goes to absent. -/
def jdetAbsent (j : Nat) (s : State) : State :=
  let q := jackGet s j
  let mutes := fun (t : State) => if q.present then removalMute j t else t
  let gone := jackMod (releaseButton j s) j (fun q => { q with present := false })
  if q.st = 1 ∨ q.st = 2 then
    serveJacks (dropReclassify j (mutes (jackMod (endStimulus j gone) j (fun q =>
      { q with st := 0, beat := 0, pole := 0, class_ := 0, held := 0, returning := false }))))
  else if q.st = 3 then dropReclassify j (removalMute j (jackMod gone j (fun q => { q with st := 4 })))
  else gone

/-- R215: a jack that a swap gives JACK_MODE 0 is detected no more: its sequence ends, EMPTY without an event (DESIGN CHOICE,
log entry 123). -/
def swapJack (s : State) (j : Nat) : State :=
  if jackMode s j = 0 ∧ (jackGet s j).st ≠ 0 then
    serveJacks (dropReclassify j (jackMod (endStimulus j (releaseButton j s)) j (fun q =>
      { q with st := 0, beat := 0, pole := 0, class_ := 0, held := 0, returning := false, present := false })))
  else s

/-- A beat of the jack sequence runs; one that falls due in a CP absence runs at its end (Table 18-7). -/
def beatsRun (s : State) : Bool := jackAlive s && !s.host.absent && s.pwr.dev != .sleep

/-- R217: the debounce time is over with the plug in. -/
def execJackDebounceEnd (j : Fin 2) (s : State) : Host.Outcome State Fault Refusal :=
  whenever (fun s => beatsRun s && (jackGet s j.val).st == 1) (classify j.val) s

/-- Beats 3 and 4: the tip load is measured. -/
def execClassifyTipEnd (j : Fin 2) (zt : Nat) (s : State) : Host.Outcome State Fault Refusal :=
  whenever (fun s => beatsRun s && (jackGet s j.val).beat == 3)
    (fun s => auxStimulus false (jackMod s j.val (fun q => { q with beat := 5, zt := zt, pole := 1 }))) s

/-- Beats 5 and 6: the line voltage in the CTIA position is measured. -/
def execClassifyCtiaEnd (j : Fin 2) (va : Nat) (s : State) : Host.Outcome State Fault Refusal :=
  whenever (fun s => beatsRun s && (jackGet s j.val).beat == 5)
    (fun s => auxStimulus false (jackMod s j.val (fun q => { q with beat := 6, va := va, pole := 2 }))) s

/-- Beat 7: the class is decided. -/
def execClassifyDecide (j : Fin 2) (vb : Nat) (s : State) : Host.Outcome State Fault Refusal :=
  whenever (fun s => beatsRun s && (jackGet s j.val).beat == 6) (decideJack j.val vb) s

/-- R219: JDET has stayed absent for the debounce time. -/
def execJackRemovalConfirm (j : Fin 2) (s : State) : Host.Outcome State Fault Refusal :=
  whenever (fun s => beatsRun s && (jackGet s j.val).st == 4)
    (fun s =>
      let h := (jackGet s j.val).held
      postJack 0x0A02 j.val h 0 (jackMod s j.val (fun q => { q with st := 0, class_ := 0, held := 0, pole := 0 }))) s

/-! ## Group 0x0A -/

def outNumberCheck (p : List Byte) (_ : State) : Option Nat := firstRefusal [(decide (3 < u8 p 0), stBadParam)]

def outputStatusResult (p : List Byte) (s : State) : List Byte :=
  let o := u8 p 0
  let q := outGet s o
  b1 (outState s o)
    ++ b1 (flag q.enabled + 2 * flag (outPresent s o) + 4 * flag (jackGateOpen s o)
        + 8 * flag (o == 3 && s.out.foldback != 0) + 16 * flag q.awaiting)
    ++ b1 q.lastFault ++ b1 (u8 (outEntry s o) 1) ++ b2 (-centiDb q.gate.present.toNat).toNat
    ++ b2 (if o = 3 then s.out.foldback else 0) ++ b4 q.faults ++ sb2 q.residual ++ zeros 2

def execOutputStatus (o : Issue) (p : List Byte) (s : State) : Host.Outcome State Fault Refusal :=
  hostCommand 0x0A01 o p (outNumberCheck p) (reads (outputStatusResult p)) s

def outputEnableCheck (o : Issue) (p : List Byte) (s : State) : Option Nat :=
  firstRefusal
    [(decide (3 < u8 p 0) || decide (1 < u8 p 1), stBadParam),
     (!canChange s o.ctx (0x0119 + u8 p 0), stNotOwner),
     (u8 p 1 == 1 && !outPresent s (u8 p 0), stWrongState)]

/-- R205: the next tick takes it up. A repeat changes nothing. -/
def outputEnableDo (p : List Byte) (log : Nat) (s : State) : Done :=
  let on := u8 p 1 == 1
  if (outGet s (u8 p 0)).enabled == on then ok s
  else ok (outMod s (u8 p 0) (fun q => { q with enabled := on, pending := some on, log := log, cause := 0 }))

def execOutputEnable (o : Issue) (p : List Byte) (s : State) : Host.Outcome State Fault Refusal :=
  hostCommand 0x0A02 o p (outputEnableCheck o p) (outputEnableDo p) s

def restoreOutputsCheck (s : State) : Option Nat := firstRefusal [(s.pwr.shelter, stWrongState)]

def restoreOutputsDo (log : Nat) (s : State) : Done := ok (restoreOutputs log s)

def execRestoreOutputs (o : Issue) (p : List Byte) (s : State) : Host.Outcome State Fault Refusal :=
  hostCommand 0x0A03 o p restoreOutputsCheck restoreOutputsDo s

def setAutoRestoreCheck (p : List Byte) (_ : State) : Option Nat := firstRefusal [(decide (1 < u8 p 0), stBadParam)]

def setAutoRestoreDo (p : List Byte) (_ : Nat) (s : State) : Done :=
  ok { s with out := { s.out with autoRestore := u8 p 0 == 1 } }

def execSetAutoRestore (o : Issue) (p : List Byte) (s : State) : Host.Outcome State Fault Refusal :=
  hostCommand 0x0A04 o p (setAutoRestoreCheck p) (setAutoRestoreDo p) s

def jackNumberCheck (p : List Byte) (_ : State) : Option Nat := firstRefusal [(decide (1 < u8 p 0), stBadParam)]

/-- Debounce of insertion and removal in ms (R45, R217). -/
def jackDebounce (s : State) (j : Nat) : Nat := if jackLevel1 s j then 100 else 40

def jackStatusResult (p : List Byte) (s : State) : List Byte :=
  let q := jackGet s (u8 p 0)
  b1 q.st ++ b1 q.class_ ++ b1 q.pole ++ b1 q.button ++ b2 (min q.zt 0xFFFF) ++ b2 q.va ++ b2 q.vb
    ++ b1 (jackDebounce s (u8 p 0)) ++ zeros 1 ++ b4 q.insertions

def execJackStatus (o : Issue) (p : List Byte) (s : State) : Host.Outcome State Fault Refusal :=
  hostCommand 0x0A05 o p (jackNumberCheck p) (reads (jackStatusResult p)) s

/-- Window limits lie in 1 to 1,000 and ascend. -/
def windowsOk (p : List Byte) (i : Nat) : Bool :=
  decide (1 ≤ u16 p i) && decide (u16 p i < u16 p (i + 2)) && decide (u16 p (i + 2) < u16 p (i + 4))
    && decide (u16 p (i + 4) < u16 p (i + 6)) && decide (u16 p (i + 6) ≤ 1000)

def buttonWindowsSetCheck (o : Issue) (p : List Byte) (s : State) : Option Nat :=
  firstRefusal
    [(decide (1 < u8 p 0) || decide (u8 p 1 < 5) || decide (100 < u8 p 1) || !windowsOk p 2, stBadParam),
     (!canChange s o.ctx (0x0400 + u8 p 0), stNotOwner)]

def buttonWindowsSetDo (p : List Byte) (_ : Nat) (s : State) : Done :=
  ok (jackMod s (u8 p 0) (fun q =>
    { q with debounceMs := u8 p 1, u0 := u16 p 2, u1 := u16 p 4, u2 := u16 p 6, u3 := u16 p 8 }))

def execButtonWindowsSet (o : Issue) (p : List Byte) (s : State) : Host.Outcome State Fault Refusal :=
  hostCommand 0x0A06 o p (buttonWindowsSetCheck o p) (buttonWindowsSetDo p) s

def spkFaultClearCheck (o : Issue) (s : State) : Option Nat :=
  firstRefusal [(!canChange s o.ctx 0x011C, stNotOwner), (!s.out.latched, stWrongState)]

def spkFaultClearDo (_ : Nat) (s : State) : Done := ok (spkRecover 80 { s with out := { s.out with latched := false } })

def execSpkFaultClear (o : Issue) (p : List Byte) (s : State) : Host.Outcome State Fault Refusal :=
  hostCommand 0x0A07 o p (spkFaultClearCheck o) spkFaultClearDo s

def jackReclassifyCheck (o : Issue) (p : List Byte) (s : State) : Option Nat :=
  firstRefusal
    [(decide (1 < u8 p 0), stBadParam),
     (!canChange s o.ctx (0x0400 + u8 p 0), stNotOwner),
     ((jackGet s (u8 p 0)).st != 3, stWrongState)]

/-- R219, Table 9-12: the output mutes over its stop ramp, then beats 2 to 9 run. Another that comes before beat 2 waits with
the first. -/
def jackReclassifyDo (o : Issue) (p : List Byte) (log : Nat) (s : State) : Done :=
  let j := u8 p 0
  let s1 := jackMod s j (fun q => { q with reclassify := q.reclassify ++ [{ ctx := o.ctx, log := log }] })
  let q := outGet s j
  if reclassifyWaits s j then queuedDone s1
  else if q.st ∈ [2, 3, 4] then
    if q.after = 4 ∨ q.after = 5 then
      (if q.rampPending.isNone && q.gate.n == 0 && q.gate.present == 0 then queuedDone (muteReclassify j s1)
       else queuedDone s1)
    else queuedDone (askRamp j false (startTenths s j) (if q.after = 1 then 1 else 3) 1 log s1)
  else if q.st = 1 then
    queuedDone (classify j (enterOut j 5 (stopDriving j (outMod s1 j (fun q => { q with cause := 0, log := log })))))
  else queuedDone (classify j (if q.driving then stopDriving j s1 else s1))

def execJackReclassify (o : Issue) (p : List Byte) (s : State) : Host.Outcome State Fault Refusal :=
  hostCommand 0x0A08 o p (jackReclassifyCheck o p) (jackReclassifyDo o p) s

end Sys2Proof.Machine
end

