-- ==== Sys2Proof/Machine/StreamRec.lean ====
section
/-! DEFINITION. The records of the streams in the chart in force (R303, R324), the streams as State holds them, and what
becomes of streams that wait for an overlay whose activation is abandoned (R315). -/

namespace Sys2Proof.Machine

def netMod (s : State) (f : NetState → NetState) : State := { s with net := f s.net }

/-! ## Records -/

/-- The AVB_ENTITY section of the chart in force (R303). -/
def entitySection (s : State) : Option (List Byte) := s.cs.chart.bind (fun c => c.sec 7 0)
def entityData (s : State) : List Byte := (entitySection s).getD []

/-- Record of stream n: talkers 0 to 31, listeners 32 to 63. -/
def streamRec (s : State) (n : Nat) : List Byte :=
  if n < 32 then talkerRec (entityData s) n else listenerRec (entityData s) (n - 32)

/-- CRF record: the talker 0, listeners 1 and 2. -/
def crfRecord (s : State) (k : Nat) : List Byte := crfRec (entityData s) k

def recEnabled (r : List Byte) : Bool := bit (u8 r 0) 0
def recClassB (r : List Byte) : Bool := bit (u8 r 0) 1
def recBypass (r : List Byte) : Bool := bit (u8 r 0) 2

/-- The stream is in the entity section and ENABLED (R324). -/
def streamDefined (s : State) (n : Nat) : Bool :=
  decide (n < 64) && (entitySection s).isSome && recEnabled (streamRec s n)

def streamGet (s : State) (n : Nat) : Stream := tget Stream.off s.net.streams n
def streamMod (s : State) (n : Nat) (f : Stream → Stream) : State :=
  netMod s (fun v => { v with streams := tmod Stream.off v.streams n f })

/-- An activation has been abandoned or refused: the streams that waited for the overlay stay disconnected, and those who wait
for them learn so (R315). The events carry the log number of what has caused it (R37). -/
def streamsRefused (ov status log : Nat) (s : State) : State :=
  (List.range 64).foldl (fun t n =>
    let q := streamGet t n
    if q.st = 1 ∧ u8 (streamRec t n) 1 = ov then
      completeAll q.waiters status (post 0x0802 n log (256 * q.cause) (.res [0x0800 + n])
        (streamMod t n (fun q => { q with st := 0, waiters := [], byCommand := false, acmp := 0, block := [] })))
    else t) s

end Sys2Proof.Machine
end

