-- ==== Sys2Proof/Machine/Overlays.lean ====
section
/-! DEFINITION. Overlays and their transitions, event bindings, and the change of variant (chapter 4). A
transition asks the engine loader for loads; Loader.lean carries them out. -/

namespace Sys2Proof.Machine

def ovMod (s : State) (n : Nat) (f : Overlay → Overlay) : State :=
  { s with cs := { s.cs with overlays := tmod Overlay.inactive s.cs.overlays n f } }

/-- OVERLAY_CHANGED (Table 4-12). -/
def ovChanged (n st : Nat) (c : OvCause) (s : State) : State :=
  post 0x0301 n c.log (st + 256 * c.code + 65536 * c.binding) (.res [0x0200 + n]) s

/-- The overlay enters a state that OVERLAY_CHANGED reports. -/
def enterOv (n st : Nat) (s : State) : State :=
  ovChanged n st (ovGet s n).cause (ovMod s n (fun q => { q with st := st }))

/-- The overlay is a side of a switch in progress (R77). -/
def inSwitch (s : State) (n : Nat) : Bool := s.cs.switches.any (fun w => w.src == n || w.dst == n)

/-- Overlays that count towards the limit of 16 (R74): the two of one switch count as one. -/
def serviceCount (s : State) : Nat :=
  ((List.range 64).filter (fun n => (ovGet s n).st != 0)).length - s.cs.switches.length

/-- The reduced variant is in force, or a change to it has been accepted (R83). -/
def reducing (s : State) : Bool :=
  s.cs.reduced || (match s.cs.change with | some c => c.reduced | none => false)

/-- The reduced variant does not admit the overlay (R83). -/
def forbidden (s : State) (n : Nat) : Bool :=
  match s.cs.chart with
  | some c => reducing s && c.forbids n
  | none => false

/-- Some overlay in service other than `keep` shares an exclusion group with this one (R65). -/
def conflicts (s : State) (n keep : Nat) : Bool :=
  match s.cs.chart with
  | some c => (List.range 64).any (fun m => m != n && m != keep && (ovGet s m).st != 0 && c.excluded n m)
  | none => false

/-- The refusal of a full activation (R83, R84); `keep` is the overlay it takes over from, 64 for none. -/
def admitRefusal (s : State) (n keep : Nat) : Option Nat :=
  firstRefusal
    [(forbidden s n, stNoCapacity),
     (conflicts s n keep, stConflict),
     (keep == 64 && decide (16 ≤ serviceCount s), stNoCapacity)]

/-! ## Ramps of gates and of chain-lane routes -/

/-- The gate of an overlay starts to ramp at the next tick; in CUT mode it steps (R75, R76). -/
def gateTo (n : Nat) (up cut : Bool) (ramp : Nat) (s : State) : State :=
  match s.cs.chart with
  | some c => commitSlot (c.ovGate n) (if up then unity else 0) (if cut then 0 else ramp) 0 s
  | none => s

def rampMod (s : State) (k : Nat) (f : RouteRamp → RouteRamp) : State :=
  { s with eng := { s.eng with ramps := tmod RouteRamp.steady s.eng.ramps k f } }

def rampGet (s : State) (k : Nat) : RouteRamp := tget RouteRamp.steady s.eng.ramps k

/-- Ask for a ramp of routes' f from the next tick (R113). -/
def askRoutes (up : Bool) (ks : List Nat) (s : State) : State :=
  ks.foldl (fun t k => rampMod t k (fun r => { r with pend := some up })) s

/-- Chain-lane routes of an overlay that are enabled in the Near bank (R114). -/
def overlayRoutes (s : State) (n : Nat) : List Nat :=
  match s.cs.chart with
  | some c => ((c.ovSeg n).filter (fun e => e.kind == 7 && (tget Route.off s.cs.near.routes e.inst).enabled)).map (·.inst)
  | none => []

/-- A slot's ramp is over and no commit waits. -/
def slotSettled (q : Slot) : Bool := q.pending.isNone && (q.n == 0 || decide (q.n < q.k))

/-- A route is at mute. -/
def routeMuted (s : State) (k : Nat) : Bool :=
  let r := rampGet s k
  r.target == 0 && r.pend.isNone && (r.n == 0 || decide (r.n < r.k))

def gateSlot (s : State) (n : Nat) : Nat := (s.cs.chart.map (fun c => c.ovGate n)).getD 0

def gateSettled (s : State) (n : Nat) : Bool := slotSettled (slotGet s (gateSlot s n))

/-- A ramp that has ended is forgotten. -/
def clearRamp (k : Nat) (s : State) : State :=
  slotMod s k (fun q => if q.n < q.k then { q with k := 0, n := 0 } else q)

/-! ## Activation, deactivation, switch -/

def askLoad (w : LoadWhat) (s : State) : State := { s with cs := { s.cs with loads := s.cs.loads ++ [w] } }

/-- A full activation starts (R75). -/
def startActivation (n : Nat) (q : QueuedAct) (ws : List Waiter) (s : State) : State :=
  askLoad (.activate n) (ovMod s n (fun v =>
    { v with st := 1, cut := q.cut, ramp := q.ramp, cause := q.cause, waiters := ws, queued := [] }))

/-- The chart in force has the overlay. -/
def hasOverlay (s : State) (n : Nat) : Bool :=
  match s.cs.chart with
  | some c => decide (n < 64) && c.hasOv n
  | none => false

/-- The refusal of an activation as Table 4-10, R83 and R84 give it; where the chart has no such overlay, R79
gives it NO_CAPACITY. -/
def activateRefusal (s : State) (n : Nat) : Option Nat :=
  let v := ovGet s n
  firstRefusal
    [(!hasOverlay s n, stNoCapacity),
     (v.st == 6 || inSwitch s n, stWrongState),
     ((v.st == 4 || v.st == 5) && forbidden s n, stNoCapacity)]
  |>.or (if v.st = 0 then admitRefusal s n 64 else none)

def optList (w : Option Waiter) : List Waiter := w.toList

/-- The gate turns round (R78, Table 4-10): the transition under way is superseded. -/
def reverseOverlay (n st : Nat) (q : QueuedAct) (s : State) : State :=
  let s1 := completeAll (ovGet s n).waiters stConflict s
  let s2 := enterOv n st (ovMod s1 n (fun v =>
    { v with cut := q.cut, ramp := q.ramp, cause := q.cause, waiters := optList q.waiter }))
  askRoutes (st == 2) (overlayRoutes s n) (gateTo n (st == 2) q.cut q.ramp s2)

/-- Table 4-10, ACTIVATE: the status and the effect of an activation that is not refused. -/
def activateOverlay (n : Nat) (q : QueuedAct) (s : State) : Nat × State :=
  match (ovGet s n).st with
  | 0 => (stQueued, startActivation n q (optList q.waiter) s)
  | 3 => (stOk, s)
  | 4 => (stQueued, reverseOverlay n 2 q s)
  | 5 => (stQueued, ovMod s n (fun v => { v with queued := v.queued ++ [q] }))
  | _ => (stQueued, ovMod s n (fun v => { v with waiters := v.waiters ++ optList q.waiter }))

def deactivateRefusal (s : State) (n : Nat) : Option Nat :=
  firstRefusal [((ovGet s n).st == 6 || inSwitch s n, stWrongState)]

/-- A load that is dropped before its swap: the routes and outputs that it muted come back (R200). -/
def dropLoad (s : State) : State :=
  match s.cs.load with
  | none => s
  | some l =>
    let s1 := askRoutes true l.muted { s with cs := { s.cs with load := none } }
    l.mutedOuts.foldl (fun t o => if (outGet t o).after = 4 then askRamp o true (startTenths t o) 0 5 0 t else t) s1

/-- An activation is abandoned before its swap (Table 4-10). -/
def abandonActivation (n : Nat) (s : State) : State :=
  let s1 := match s.cs.load with
    | some l => if l.what = LoadWhat.activate n then dropLoad s else s
    | none => s
  { s1 with cs := { s1.cs with loads := s1.cs.loads.filter (fun w => !decide (w = LoadWhat.activate n)) } }

/-- A deactivation starts: the gate and the overlay's routes ramp to mute from the next tick (R75, R114). -/
def startDeactivation (n : Nat) (q : QueuedAct) (s : State) : State :=
  askRoutes false (overlayRoutes s n) (gateTo n false q.cut q.ramp (enterOv n 4 (ovMod s n (fun v =>
    { v with cut := q.cut, ramp := q.ramp, cause := q.cause, waiters := optList q.waiter }))))

/-- The activations of an overlay that are queued, or under way, are given up: those who wait for them learn so, and the streams
that wait for the overlay (R315). -/
def giveUp (n log : Nat) (ws : List Waiter) (s : State) : State := streamsRefused n stConflict log (completeAll ws stConflict s)

/-- Table 4-10, DEACTIVATE. -/
def deactivateOverlay (n : Nat) (q : QueuedAct) (s : State) : Nat × State :=
  let v := ovGet s n
  match v.st with
  | 0 => (stOk, s)
  | 1 =>
    let s1 := giveUp n q.cause.log v.waiters (abandonActivation n s)
    (stOk, usbDiscard n (enterOv n 0 (ovMod s1 n (fun v => { v with cause := q.cause, waiters := [], queued := [] }))))
  | 2 => (stQueued, reverseOverlay n 4 q s)
  | 3 => (stQueued, startDeactivation n q s)
  | _ =>
    (stQueued, giveUp n q.cause.log (v.queued.flatMap (fun a => optList a.waiter))
      (ovMod s n (fun v => { v with waiters := v.waiters ++ optList q.waiter, queued := [] })))

/-- The refusal of a switch, in the order of R77, R83 and R84. -/
def switchRefusal (s : State) (a b : Nat) : Option Nat :=
  match s.cs.chart with
  | none => some stWrongState
  | some c =>
    firstRefusal
      [(a != b && c.excluded a b && !c.switchable a b, stConflict),
       ((ovGet s a).st != 3 || (ovGet s b).st != 0 || inSwitch s a || inSwitch s b, stWrongState)]
    |>.or (admitRefusal s b a)

/-- An accepted switch (R77): one load places B while A stays in service. -/
def startSwitch (a b : Nat) (q : QueuedAct) (s : State) : State :=
  let s1 := ovMod (ovMod s b (fun v => { v with st := 1, cut := q.cut, ramp := q.ramp, cause := q.cause, waiters := [] }))
    a (fun v => { v with cause := q.cause })
  askLoad (.switchIn a b) { s1 with cs := { s1.cs with switches := s1.cs.switches ++
    [{ src := a, dst := b, cut := q.cut, ramp := q.ramp, phase := 0, waiter := q.waiter, cause := q.cause }] } }

/-! ## Ends of ramps -/

/-- A gate's ramp is over (R75, R77): the overlay is ACTIVE, or its removal is asked for, or the switch
goes on to remove A. -/
def concludeOverlay (n : Nat) (s : State) : State :=
  let v := ovGet s n
  if v.st = 2 then
    completeAll v.waiters stOk (enterOv n 3 (ovMod (clearRamp (gateSlot s n) s) n (fun v => { v with waiters := [] })))
  else if v.st = 4 then
    let s1 := clearRamp (gateSlot s n) s
    if (overlayRoutes s n).all (routeMuted s) then askLoad (.remove n) (ovMod s1 n (fun v => { v with st := 5 }))
    else s1
  else
    match s.cs.switches.find? (fun w => (w.src == n || w.dst == n) && w.phase == 1) with
    | some w =>
      if gateSettled s w.src && gateSettled s w.dst then
        let s1 := clearRamp (gateSlot s w.dst) (clearRamp (gateSlot s w.src) s)
        let s2 := ovMod s1 w.src (fun v => { v with st := 5 })
        askLoad (.switchOut w.src w.dst) { s2 with cs := { s2.cs with
          switches := s2.cs.switches.map (fun x => if x.src = w.src then { x with phase := 2 } else x) } }
      else s
    | none => s

/-- The gate's ramp of an overlay in transition is over. -/
def gateRampOver (s : State) (n : Nat) : Bool := ((ovGet s n).st ∈ [2, 4, 6]) && gateSettled s n

/-- R75, R77: the tick after a gate's last ramp period has come. -/
def execOverlayGateRampEnd (ov : Fin 64) (s : State) : Host.Outcome State Fault Refusal :=
  whenever (fun s => gateRampOver s ov.val) (concludeOverlay ov.val) s

/-- R113, R114: the ramp of a route's f has ended; a load or a deactivation that waited for it goes on. -/
def chainRampEnd (k : Nat) (s : State) : State :=
  let s1 := rampMod s k (fun r => { r with k := 0, n := 0 })
  let s2 := { s1 with cs := { s1.cs with load := s1.cs.load.map (fun l => { l with routes := without k l.routes }) } }
  ((List.range 64).filter (fun n => (ovGet s2 n).st == 4 && decide (k ∈ overlayRoutes s2 n) && gateSettled s2 n)).foldl
    (fun t n => concludeOverlay n t) s2

def execChainRampEnd (route : Fin 64) (s : State) : Host.Outcome State Fault Refusal :=
  whenever (fun s => (rampGet s route.val).n != 0 && decide ((rampGet s route.val).n < (rampGet s route.val).k))
    (chainRampEnd route.val) s

/-! ## Commands -/

/-- Fields of OVERLAY_ACTIVATE and its kin: the mode, and the ramp or 0xFFFF. A ramp of 1,001 to 65,534 ms is out of
range, as a chart's is (DESIGN CHOICE, log entry 95). -/
def modeBad (mode ramp : Nat) : Bool := decide (2 < mode) || (decide (1000 < ramp) && ramp != 0xFFFF)

/-- What a command asks: its mode with the chart's default (R75, R76), its ramp, and who waits. -/
def ovRequest (s : State) (o : Issue) (n mode ramp log : Nat) : QueuedAct :=
  { waiter := some { ctx := o.ctx, log := log }
    cut := mode == 1 || (mode == 2 && (s.cs.chart.map (fun c => c.ovCut n)).getD false)
    ramp := if ramp = 0xFFFF then (s.cs.chart.map (fun c => c.ovRamp n)).getD 0 else ramp
    cause := { code := 0, binding := 0xFF, log := log } }

/-- Status and effect as a command's outcome. -/
def doneOf (r : Nat × State) : Done := { s := r.2, status := r.1, result := [] }

def overlayActivateCheck (o : Issue) (p : List Byte) (s : State) : Option Nat :=
  firstRefusal
    [(!hasOverlay s (u8 p 0) || modeBad (u8 p 1) (u16 p 2), stBadParam),
     (!canChange s o.ctx (0x0200 + u8 p 0), stNotOwner)]
  |>.or (activateRefusal s (u8 p 0))

def overlayActivateDo (o : Issue) (p : List Byte) (log : Nat) (s : State) : Done :=
  doneOf (activateOverlay (u8 p 0) (ovRequest s o (u8 p 0) (u8 p 1) (u16 p 2) log) s)

def execOverlayActivate (o : Issue) (p : List Byte) (s : State) : Host.Outcome State Fault Refusal :=
  hostCommand 0x0302 o p (overlayActivateCheck o p) (overlayActivateDo o p) s

def overlayDeactivateCheck (o : Issue) (p : List Byte) (s : State) : Option Nat :=
  firstRefusal
    [(!hasOverlay s (u8 p 0) || modeBad (u8 p 1) (u16 p 2), stBadParam),
     (!canChange s o.ctx (0x0200 + u8 p 0), stNotOwner)]
  |>.or (deactivateRefusal s (u8 p 0))

def overlayDeactivateDo (o : Issue) (p : List Byte) (log : Nat) (s : State) : Done :=
  doneOf (deactivateOverlay (u8 p 0) (ovRequest s o (u8 p 0) (u8 p 1) (u16 p 2) log) s)

def execOverlayDeactivate (o : Issue) (p : List Byte) (s : State) : Host.Outcome State Fault Refusal :=
  hostCommand 0x0303 o p (overlayDeactivateCheck o p) (overlayDeactivateDo o p) s

def overlaySwitchCheck (o : Issue) (p : List Byte) (s : State) : Option Nat :=
  firstRefusal
    [(!hasOverlay s (u8 p 0) || !hasOverlay s (u8 p 1) || modeBad (u8 p 2) (u16 p 4), stBadParam),
     (!canChange s o.ctx (0x0200 + u8 p 0) || !canChange s o.ctx (0x0200 + u8 p 1), stNotOwner)]
  |>.or (switchRefusal s (u8 p 0) (u8 p 1))

def overlaySwitchDo (o : Issue) (p : List Byte) (log : Nat) (s : State) : Done :=
  queuedDone (startSwitch (u8 p 0) (u8 p 1) (ovRequest s o (u8 p 1) (u8 p 2) (u16 p 4) log) s)

def execOverlaySwitch (o : Issue) (p : List Byte) (s : State) : Host.Outcome State Fault Refusal :=
  hostCommand 0x0304 o p (overlaySwitchCheck o p) (overlaySwitchDo o p) s

def overlayStatusResult (s : State) : List Byte :=
  (List.range 64).flatMap (fun n => b1 (if hasOverlay s n then (ovGet s n).st else 0xFF))

def execOverlayStatus (o : Issue) (p : List Byte) (s : State) : Host.Outcome State Fault Refusal :=
  hostCommand 0x0305 o p noCheck (reads overlayStatusResult) s

def bindingCount (s : State) : Nat := (s.cs.chart.map (fun c => c.bindings)).getD 0

def bindingSetCheck (p : List Byte) (s : State) : Option Nat :=
  firstRefusal [(decide (bindingCount s ≤ u8 p 0) || decide (1 < u8 p 1), stBadParam)]

def bindingSetDo (p : List Byte) (_ : Nat) (s : State) : Done :=
  ok { s with cs := { s.cs with enables := tset 0 s.cs.enables (u8 p 0) (1 + u8 p 1) } }

def execBindingSet (o : Issue) (p : List Byte) (s : State) : Host.Outcome State Fault Refusal :=
  hostCommand 0x0306 o p (bindingSetCheck p) (bindingSetDo p) s

def bindingListCheck (p : List Byte) (_ : State) : Option Nat :=
  firstRefusal [(u8 p 1 == 0 || decide (63 < u8 p 1), stBadParam)]

/-- A binding record with FLAGS bit 0 showing the present enable; reserved fields read 0 (R5). -/
def bindingRecord (s : State) (c : Chart) (i : Nat) : List Byte :=
  let b := c.binding i
  b.take 6 ++ b1 (2 * flag (bit (u8 b 6) 1) + flag (bindingEnabled s c i)) ++ zeros 1 ++ b.drop 8

def bindingListResult (p : List Byte) (s : State) : List Byte :=
  match s.cs.chart with
  | none => zeros 4
  | some c =>
    let k := min (u8 p 1) (c.bindings - u8 p 0)
    b1 k ++ zeros 3 ++ (List.range k).flatMap (fun i => bindingRecord s c (u8 p 0 + i))

def execBindingList (o : Issue) (p : List Byte) (s : State) : Host.Outcome State Fault Refusal :=
  hostCommand 0x0307 o p (bindingListCheck p) (reads (bindingListResult p)) s

/-! ## Bindings (R82) -/

/-- What a binding asks for, in the mode of its FLAGS and with the RAMP of TARGET. -/
def bindingRequest (c : Chart) (b : List Byte) (index log : Nat) : QueuedAct :=
  { waiter := none, cut := bit (u8 b 6) 1, ramp := c.ovRamp (u8 b 4)
    cause := { code := 1, binding := index, log := log } }

/-- The status that the equivalent command would have received, and the effect. -/
def bindingOutcome (b : List Byte) (q : QueuedAct) (s : State) : Nat × (State → State) :=
  let n := u8 b 4
  let give := fun (r : Option Nat) (f : State → Nat × State) =>
    match r with
    | some st => (st, id)
    | none => ((f s).1, fun t => (f t).2)
  if !hasOverlay s n then (stBadParam, id)
  else
    match u8 b 3 with
    | 1 => give (activateRefusal s n) (activateOverlay n q)
    | 2 => give (deactivateRefusal s n) (deactivateOverlay n q)
    | 3 =>
      if hasOverlay s (u8 b 5) then
        give (switchRefusal s (u8 b 5) n) (fun t => (stQueued, startSwitch (u8 b 5) n q t))
      else (stBadParam, id)
    | _ => (stBadParam, id)

/-- R82: the oldest fired binding is executed as a command of no context. -/
def bindingExecute (s : State) : State :=
  match s.host.fired, s.cs.chart with
  | f :: r, some c =>
    let log := s.host.log
    let s1 := takeLog { s with host := { s.host with fired := r } }
    let b := c.binding f.index
    let e := bindingOutcome b (bindingRequest c b f.index log) s1
    e.2 (post 0x0302 f.index log (e.1 + 256 * f.code + 16777216 * f.inst) (.res [0x0200 + u8 b 4]) s1)
  | _, _ => { s with host := { s.host with fired := [] } }

def execBindingExecute (s : State) : Host.Outcome State Fault Refusal :=
  whenever (fun s => cpRuns s && !decide (s.host.fired = [])) bindingExecute s

/-! ## The variant (R83) -/

/-- R83: forbidden overlays are deactivated as they can be, and once all are INACTIVE the load is asked for. -/
def variantStep (s : State) : State :=
  match s.cs.change, s.cs.chart with
  | some v, some c =>
    if v.loading then s
    else
      let ns := if v.reduced then c.ovs.filter c.forbids else []
      let s1 := ns.foldl (fun t n =>
        if ((ovGet t n).st ∈ [1, 2, 3]) && !inSwitch t n then
          (deactivateOverlay n { waiter := none, cut := c.ovCut n, ramp := c.ovRamp n
                                 cause := { code := 2, binding := 0xFF, log := v.log } } t).2
        else t) s
      if ns.all (fun n => (ovGet s1 n).st == 0) then
        askLoad (.variant v.reduced) { s1 with cs := { s1.cs with change := some { v with loading := true } } }
      else s1
  | _, _ => s

/-- A change of variant is accepted (R83, R391): cause 0 command, 1 speed re-plan. A re-plan that was decided before is
none of the variant that comes. -/
def startVariant (reduced : Bool) (cause log : Nat) (w : Option Waiter) (s : State) : State :=
  variantStep { s with
    hull := { s.hull with replanDue := false }
    cs := { s.cs with change := some { reduced := reduced, cause := cause, log := log, waiter := w, loading := false } } }

end Sys2Proof.Machine
end

