-- ==== Sys2Proof/Machine/Banks.lean ====
section
/-! DEFINITION. What write groups make of a bank (chapters 4, 5): timetable words, routes, rate-stage channels
and KIND 0x09 entries, of the base chart, the reduced variant and overlays. -/

namespace Sys2Proof.Machine

/-- A route entry (Table 5-11). -/
def readRoute (e : List Byte) : Route :=
  { source := u16 e 0, sink := u16 e 2, gain := u16 e 4, enabled := bit (u8 e 6) 0 }

/-- One entry written into a bank; a word rewritten has its parity right again (R108). -/
def writeBank (b : Bank) (e : SegEntry) : Bank :=
  match e.kind with
  | 1 => { b with words := tset 0 b.words e.inst (BitVec.ofNat 64 (u64 e.bytes 0)), parity := without e.inst b.parity }
  | 7 => { b with routes := tset Route.off b.routes e.inst (readRoute e.bytes) }
  | 8 => { b with asrc := tset [] b.asrc e.inst e.bytes }
  | 9 => { b with entries := tset [] b.entries e.inst e.bytes }
  | _ => b

/-- One entry taken out of a bank: its word becomes NOP, its route, channel or port goes (R75). -/
def eraseBank (b : Bank) (e : SegEntry) : Bank :=
  match e.kind with
  | 1 => { b with words := tset 0 b.words e.inst 0, parity := without e.inst b.parity }
  | 7 => { b with routes := tset Route.off b.routes e.inst Route.off }
  | 8 => { b with asrc := tset [] b.asrc e.inst [] }
  | 9 => { b with entries := tset [] b.entries e.inst [] }
  | _ => b

def writeAll (es : List SegEntry) (b : Bank) : Bank := es.foldl writeBank b
def eraseAll (es : List SegEntry) (b : Bank) : Bank := es.foldl eraseBank b

/-- Base entries whose instances the reduced segment replaces. -/
def replacedBase (c : Chart) : List SegEntry :=
  c.base.filter (fun e => c.reducedSeg.any (fun r => r.kind == e.kind && r.inst == e.inst))

/-- Entries of a variant (R83): its own, or those of the base that come back. -/
def variantEntries (c : Chart) (reduced : Bool) : List SegEntry := if reduced then c.reducedSeg else replacedBase c

/-- A bank built from the chart: the base, the variant in force, and overlays. -/
def buildBank (c : Chart) (reduced : Bool) (ovs : List Nat) : Bank :=
  let b := writeAll c.base Bank.empty
  let b1 := if reduced then writeAll c.reducedSeg b else b
  ovs.foldl (fun b n => writeAll (c.ovSeg n) b) b1

/-- The entries that hold for a set of overlays, later ones first. -/
def setEntries (c : Chart) (reduced : Bool) (ovs : List Nat) : List SegEntry :=
  ovs.flatMap c.ovSeg ++ (if reduced then c.reducedSeg else []) ++
    c.base.filter (fun e => !(reduced && c.reducedSeg.any (fun r => r.kind == e.kind && r.inst == e.inst)))

/-- Rate codes (Table 7-5) in Hz, and their family: true for 44.1 kHz. -/
def rateTable : List Nat := [8000, 11025, 16000, 22050, 24000, 32000, 44100, 48000, 88200, 96000, 176400, 192000]
def codeHz (c : Nat) : Nat := rateTable.getD c 0
def family44 (hz : Nat) : Bool := hz % 11025 == 0

/-- The fabric PLL (R144): 0 PLL48, 1 PLL44. -/
def fabricPllOf (rate : Nat) : Nat := flag (family44 (rateHz rate))

/-- A domain's entry (Table 7-2), the clock-tree entry (Table 7-3), a convoy's entry (Table 7-9). -/
def domEntry (b : Bank) (d : Nat) : List Byte := tget [] b.entries (32 + d)
def treeEntry (b : Bank) : List Byte := tget [] b.entries 40
def convoyEntry (b : Bank) (k : Nat) : List Byte := tget [] b.entries (64 + k)
def portBytes (b : Bank) (i : Nat) : List Byte := tget [] b.entries i

/-- An entry's byte 0 bit 0. -/
def enabledIn (b : Bank) (i : Nat) : Bool := bit (u8 (portBytes b i) 0) 0

/-- The domain that the chart disciplines a PLL to, 0xFF for FREE: the fabric PLL, the side PLL. -/
def treeDomain (b : Bank) (fabric : Bool) : Nat :=
  if treeEntry b = [] then 0xFF else u8 (treeEntry b) (if fabric then 0 else 2)

/-- Kind and index of the alternative of a domain entry (Table 7-4). -/
def altKind (e : List Byte) (a : Nat) : Nat × Nat := (u8 e (8 + 2 * a), u8 e (9 + 2 * a))

/-- The chart in force has an entry of this kind and instance, in any segment. -/
def inChart (s : State) (kind inst : Nat) : Bool :=
  match s.cs.chart with
  | some c => c.entries.any (fun x => x.kind == kind && x.inst == inst)
  | none => false

/-- An entry of KIND 0x09: the Near bank's, or else the first of the chart in force. -/
def anyEntry (s : State) (inst : Nat) : List Byte :=
  match portBytes s.cs.near inst, s.cs.chart with
  | [], some c => ((c.entries.find? (fun x => x.kind == 9 && x.inst == inst)).map (·.bytes)).getD []
  | e, _ => e

/-- A convoy's parts (Table 7-9). -/
def convoyEgress (e : List Byte) : Bool := bit (u8 e 0) 3
def convoyBypass (e : List Byte) : Bool := bit (u8 e 0) 2
def convoyMembers (e : List Byte) : Nat := u8 e 2

/-- A member's port, sub-index and channels. -/
def memberOf (e : List Byte) (m : Nat) : Nat × Nat × Nat := (u8 e (8 + 4 * m), u8 e (9 + 4 * m), u8 e (10 + 4 * m))

/-- Channels of a convoy, and of its members before one. -/
def channelsBefore (e : List Byte) (m : Nat) : Nat := ((List.range m).map (fun i => (memberOf e i).2.2)).foldl (· + ·) 0
def convoyChannels (e : List Byte) : Nat := channelsBefore e (convoyMembers e)

/-- Enabled convoys of a bank. -/
def convoysOf (b : Bank) : List Nat := (List.range 128).filter (fun k => bit (u8 (convoyEntry b k) 0) 0)

/-- The convoys and member places that a port and sub-index fill, in one direction. -/
def membersOf (b : Bank) (port sub : Nat) (egress : Bool) : List (Nat × Nat) :=
  (convoysOf b).flatMap (fun k =>
    let e := convoyEntry b k
    if convoyEgress e == egress then
      ((List.range (convoyMembers e)).filter (fun m => (memberOf e m).1 == port && (memberOf e m).2.1 == sub)).map
        (fun m => (k, m))
    else [])

/-- Berths from a first one. -/
def berthRun (first n : Nat) : List Nat := (List.range n).map (first + ·)

/-- Source berths that ports in the fabric domain write (R110): analogue inputs, PDM microphones, SAI in the
FD role. -/
def fdSources (b : Bank) : List Nat :=
  ((berthRun 17 8).filter (fun i => portBytes b i ≠ [])).map (fun i => u16 (portBytes b i) 6)
  ++ ((berthRun 11 4).filter (fun i => portBytes b i ≠ [])).flatMap (fun i =>
      [u16 (portBytes b i) 6, u16 (portBytes b i) 8].filter (· ≠ 0xFFFF))
  ++ (berthRun 3 6).flatMap (fun i =>
      let e := portBytes b i
      if bit (u8 e 0) 2 && bit (u8 e 16) 1 then berthRun (u16 e 18) (u8 e 2) else [])

/-- The bank with the ports that are enabled alone. -/
def portsOn (b : Bank) : Bank := { b with entries := b.entries.filter (fun e => bit (u8 e.2 0) 0) }

/-- Source berths of enabled ports in the fabric domain (R11). -/
def fdSourcesOn (b : Bank) : List Nat := fdSources (portsOn b)

/-- Sink berths that SAI ports in the FD role read. -/
def fdSaiSinks (b : Bank) : List Nat :=
  (berthRun 3 6).flatMap (fun i =>
    let e := portBytes b i
    if bit (u8 e 0) 2 && bit (u8 e 16) 0 then berthRun (u16 e 20) (u8 e 2) else [])

/-- Sink berths that ports in the fabric domain read (R110). -/
def fdSinks (b : Bank) : List Nat :=
  ((berthRun 25 4).filter (fun i => portBytes b i ≠ [])).flatMap (fun i => [u16 (portBytes b i) 4, u16 (portBytes b i) 6])
  ++ fdSaiSinks b

/-- A word enters a boundary FIFO of 4 words (R11). -/
def pushFifo (w : BitVec 32) (l : List (BitVec 32)) : List (BitVec 32) := if l.length < 4 then l ++ [w] else l

/-- A word enters the ingress FIFO of a source berth, where a port in the fabric domain has one. -/
def pushIngress (a : Nat) (w : BitVec 32) (s : State) : State :=
  { s with eng := { s.eng with ingress := tset none s.eng.ingress a ((tget none s.eng.ingress a).map (pushFifo w)) } }

/-- The oldest word of an ingress FIFO leaves it. -/
def popIngress (a : Nat) (s : State) : Option (BitVec 32) × State :=
  match tget none s.eng.ingress a with
  | some (w :: r) => (some w, { s with eng := { s.eng with ingress := tset none s.eng.ingress a (some r) } })
  | _ => (none, s)

/-- The oldest word of a sink's egress FIFO leaves it for the port. -/
def popSink (k : Nat) (s : State) : BitVec 32 × State :=
  match (sinkGet s k).fifo with
  | some (w :: r) => (w, sinkMod s k (fun q => { q with fifo := some r }))
  | _ => (0, s)

/-- Exposures of the measurement entry (Table 15-6): which of its ten channels are enabled. -/
def exposed (e : List Byte) : List Nat :=
  if bit (u8 e 0) 0 then
    (List.range 10).filter (fun i => bit (u8 e 1) (if i < 4 then i else 4 + (i - 4) / 2))
  else []

/-- Every source berth that an entry or convoy writes, once for each writer. -/
def sourceWriters (b : Bank) : List Nat :=
  fdSources b
  ++ (convoysOf b).flatMap (fun k =>
      let e := convoyEntry b k
      if convoyEgress e then [] else berthRun (u16 e 40) (convoyChannels e))
  ++ (exposed (portBytes b 29)).map (fun i => u16 (portBytes b 29) (4 + 2 * i))

/-- No element twice. -/
def distinct : List Nat → Bool
  | [] => true
  | x :: r => !decide (x ∈ r) && distinct r

end Sys2Proof.Machine
end

