-- ==== Sys2Proof/Machine/ChartCheck.lean ====
section
/-! DEFINITION. The checks of a chart (R67 to R71, R99 and the rules that add to it), made when it is written
and when it is loaded at boot. -/

namespace Sys2Proof.Machine

/-! ## Header, sections, signature -/

/-- Fields of the header (Table 4-1) and the bounds of R67; reserved fields are ignored (R5). -/
def headerOk (l : List Byte) : Bool :=
  u32 l 0 == 0x48434E4B && u16 l 6 == 64 && decide (u8 l 20 ≤ 5) && u8 l 21 != 0
    && decide (u32 l 16 ≤ 524288) && decide (u32 l 16 ≤ l.length)
    && decide (64 ≤ u32 l 32) && decide (u32 l 32 + 16 * u8 l 21 ≤ u32 l 16)

/-- Type, index, offset, length and CRC of the entries of the section table (Table 4-2). -/
def sectionTable (l : List Byte) : List (Nat × Nat × Nat × Nat × Nat) :=
  (List.range (u8 l 21)).map (fun i =>
    let e := bytesAt l (u32 l 32 + 16 * i) 16
    (u16 e 0, u8 e 2, u32 e 4, u32 e 8, u32 e 12))

/-- Two stretches do not overlap. -/
def apart (a n b m : Nat) : Bool := decide (a + n ≤ b) || decide (b + m ≤ a) || n == 0 || m == 0

/-- A condition on every pair of elements, the earlier first. -/
def pairwise {α : Type} (f : α → α → Bool) : List α → Bool
  | [] => true
  | x :: r => r.all (f x) && pairwise f r

/-- R67: sections lie in the chart on 8-byte boundaries and do not overlap. -/
def placesOk (l : List Byte) : Bool :=
  (sectionTable l).all (fun e => e.2.2.1 % 8 == 0 && decide (64 ≤ e.2.2.1) && decide (e.2.2.1 + e.2.2.2.1 ≤ u32 l 16))
    && pairwise (fun a b => apart a.2.2.1 a.2.2.2.1 b.2.2.1 b.2.2.2.1) (sectionTable l)

/-- Offset of the signature section, or the chart's end (R71, BODY_CRC). -/
def bodyEnd (l : List Byte) : Nat :=
  match (sectionTable l).find? (fun e => e.1 == 0xFF) with
  | some e => e.2.2.1
  | none => u32 l 16

/-- Header, section and body CRCs (R70). -/
def crcsOk (l : List Byte) : Bool :=
  crc32c (l.take 60) == u32 l 60
    && (sectionTable l).all (fun e => crc32c (bytesAt l e.2.2.1 e.2.2.2.1) == e.2.2.2.2)
    && crc32c (bytesAt l 64 (bodyEnd l - 64)) == u32 l 36

/-- R71: with a chart key, a signed chart whose signature is valid; without one, any chart. -/
def signatureOk (key : Option (Nat × Nat)) (l : List Byte) : Bool :=
  match key with
  | none => true
  | some k =>
    bit (u8 l 22) 0 &&
      (match (sectionTable l).find? (fun e => e.1 == 0xFF) with
      | some e => ecdsaValid k (sha256 (l.take e.2.2.1)) (beN l e.2.2.1 32) (beN l (e.2.2.1 + 32) 32)
      | none => false)

/-- R68: the sections of a chart, by Table 4-3. -/
def countOf (c : Chart) (t : Nat) : Nat := (c.sections.filter (fun x => x.type == t)).length

/-- R68: the numbers and types of the sections. FLAGS of the header that disagree with the sections present are no fault of the
chart, and REDUCED is not looked at (DESIGN CHOICE, log entry 122). -/
def sectionsOk (l : List Byte) (c : Chart) : Bool :=
  [1, 3, 4, 5, 8].all (fun t => countOf c t == 1)
    && decide (countOf c 7 ≤ 1) && decide (countOf c 9 ≤ 1) && decide (countOf c 0xFF ≤ 1)
    && c.sections.all (fun x => x.type ∈ [1, 2, 3, 4, 5, 6, 7, 8, 9, 0xFF])
    && distinct ((c.sections.filter (fun x => x.type == 2)).map (·.index))
    && distinct ((c.sections.filter (fun x => x.type == 6)).map (·.index))
    && (c.sections.filter (fun x => x.type == 6)).all (fun x => decide (x.index ≤ 1) && decide (x.data.length ≤ 16384))
    && (countOf c 0xFF == 0 || ((c.sections.getLast?).map (·.type) == some 0xFF
        && (sectionTable l).all (fun e => e.1 == 0xFF || decide (e.2.2.1 + e.2.2.2.1 ≤ bodyEnd l))))

/-- The contents that Table 4-3 gives the sections: counts within bounds, records whole. -/
def overlayRecordOk (x : ChartSection) : Bool :=
  let d := x.data
  decide (1857 ≤ d.length) && decide (x.index < 64) && u8 d 0 == x.index
    && decide (u16 d 2 ≤ 1000) && decide (u16 d 4 ≤ 4095) && (segEntries (d.length + 1) (d.drop 1856)).isSome

def contentsOk (c : Chart) : Bool :=
  (segEntries ((c.secD 1 0).length + 1) (c.secD 1 0)).isSome
    && (c.sections.filter (fun x => x.type == 2)).all overlayRecordOk
    && (let d := c.secD 3 0
        decide (u16 d 0 ≤ 256) && decide (u16 d 2 ≤ 256) && decide (8 + 8 * u16 d 0 + 2 * u16 d 2 ≤ d.length)
          && c.pairs.all (fun q => decide (q.1 < q.2) && decide (q.2 < 64)))
    && (let d := c.secD 4 0
        decide (u16 d 0 ≤ 128) && decide (8 + 16 * u16 d 0 ≤ d.length))
    && decide (4 + 4 * u16 (c.secD 5 0) 0 ≤ (c.secD 5 0).length)
    && decide (4672 ≤ (c.secD 8 0).length)
    && (!c.hasReduced || (segEntries ((c.secD 9 0).length + 1) ((c.secD 9 0).drop 8)).isSome)
    && ((c.sec 7 0).isNone || (decide (2208 ≤ (c.secD 7 0).length) && decide ((c.secD 7 0).length ≤ 65536)))

/-! ## Reservations (R69) -/

/-- The berth a word stores to, if it stores. -/
def storeOf (w : BitVec 64) : Option Nat :=
  if wordOp w ∈ [0x03, 0x04, 0x10] || (wordOp w == 0x08 && !bit (wordAux w) 1) then some (wordDst w) else none

/-- An instance that an entry writes exists, and only the base segment writes the clock and measurement
entries (R147, R354). -/
def instanceOk (isBase : Bool) (e : SegEntry) : Bool :=
  match kindResource e.kind with
  | some (_, n) => decide (e.inst < n) || (e.kind == 5 && decide (e.inst < 66))
  | none => decide (e.inst < 29) || (isBase && (e.inst == 29 || (decide (32 ≤ e.inst) && decide (e.inst ≤ 40))))
      || (decide (64 ≤ e.inst) && decide (e.inst < 192))

/-- The berths that an entry writes (R65): the store of a timetable word, the sink of an enabled route, the
source berths of a port, of an ingress convoy or of the measurement entry's exposures (R354). -/
def entryBerths (e : SegEntry) : List Nat :=
  let d := e.bytes
  if e.kind = 1 then (storeOf (BitVec.ofNat 64 (u64 d 0))).toList
  else if e.kind = 7 then (if bit (u8 d 6) 0 then [u16 d 2] else [])
  else if e.kind = 9 then
    (if e.inst = 29 then (exposed d).map (fun i => u16 d (4 + 2 * i))
     else if e.inst < 64 then fdSources { Bank.empty with entries := [(e.inst, d)] }
     else if bit (u8 d 0) 0 && !convoyEgress d then berthRun (u16 d 40) (convoyChannels d) else [])
  else []

/-- An overlay's entry lies inside its reservation, with the berths it writes; protection entries need port 28
(R131). -/
def insideOk (c : Chart) (n : Nat) (e : SegEntry) : Bool :=
  instanceOk false e && (entryBerths e).all (c.reserves n 1) &&
    (if e.kind = 9 then decide (64 ≤ e.inst) || c.reserves n 9 e.inst
     else if e.kind = 5 ∧ 64 ≤ e.inst then c.reserves n 9 28
     else match kindResource e.kind with
      | some (r, _) => c.reserves n r e.inst
      | none => false)

/-- An entry of the base or of the reduced variant lies outside every reservation, with the berths it writes;
the base alone may write the instances that R147 and R354 keep to it. -/
def outsideOk (c : Chart) (isBase : Bool) (e : SegEntry) : Bool :=
  instanceOk isBase e && c.ovs.all (fun n => (entryBerths e).all (fun a => !c.reserves n 1 a) &&
    if e.kind = 9 then decide (32 ≤ e.inst) || !c.reserves n 9 e.inst
    else if e.kind = 5 ∧ 64 ≤ e.inst then !c.reserves n 9 28
    else match kindResource e.kind with
      | some (r, _) => !c.reserves n r e.inst
      | none => true)

def reservationsOk (c : Chart) : Bool :=
  c.ovs.all (fun n => (c.ovSeg n).all (insideOk c n)) && c.base.all (outsideOk c true)
    && c.reducedSeg.all (outsideOk c false)

/-! ## Instruction words (R98, R99) -/

def sourceOrWork (a : Nat) : Bool := decide (a < 256) || (decide (512 ≤ a) && decide (a < 1024))
def sinkOrWork (a : Nat) : Bool := decide (256 ≤ a) && decide (a < 1024)
def shiftOk (x : Nat) : Bool := decide (x ≤ 8) || (decide (0xF8 ≤ x) && decide (x ≤ 0xFF))

/-- A word has a defined opcode and its fields keep to Table 5-5. -/
def wordOk (w : BitVec 64) : Bool :=
  let src := wordSrc w; let par := wordPar w; let dst := wordDst w
  let acc := wordAcc w; let aux := wordAux w; let arg := wordArg w
  let unityOk := arg == 0 || (arg == 0x8000 && par == 0)
  match wordOp w with
  | 0x00 => w == 0
  | 0x3F => src == 0 && par == 0 && dst == 0 && acc == 0 && aux == 0 && arg == 0
  | 0x01 => src == 0 && par == 0 && dst == 0 && aux == 0 && arg == 0
  | 0x02 => sourceOrWork src && dst == 0 && aux == 0 && unityOk
  | 0x03 => sourceOrWork src && sinkOrWork dst && shiftOk aux && unityOk
  | 0x04 => src == 0 && par == 0 && sinkOrWork dst && shiftOk aux && arg == 0
  | 0x08 => (if bit aux 0 then src == 0 else sourceOrWork src) && decide (par < 512)
      && (if bit aux 1 then dst == 0 else sinkOrWork dst) && decide (aux < 4) && arg == 0
  | 0x0C => sourceOrWork src && par == 0 && dst == 0 && acc == 0 && decide (aux < 128) && arg == 0
  | 0x0D => src == 0 && dst == 0 && (!bit aux 7 || par == 0)
  | 0x10 => sourceOrWork src && decide (par < 1024) && sourceOrWork par && sinkOrWork dst && acc == 0 && aux == 0
      && decide (arg < 256)
  | 0x14 => sourceOrWork src && decide (par < 256) && dst == 0 && acc == 0 && aux == 0 && arg == 0
  | 0x18 => src == 0 && decide (256 ≤ dst) && decide (dst < 512) && acc == 0 && arg == 0
      && (aux == 0 && decide (par < 64) || aux == 1 && decide (par < 2))
  | 0x20 => src == 0 && par == 0 && dst == 0 && acc == 0 && decide (aux < 8) && decide (arg < 1024)
  | _ => false

/-- Numbers that words of one opcode use, once for each word. -/
def usesOf (b : Bank) (op : Nat) (f : BitVec 64 → Nat) : List Nat :=
  (b.words.filter (fun e => wordOp e.2 == op)).map (fun e => f e.2)

/-- Enabled routes of a bank. Only these must name an eligible source and sink (R110; DESIGN CHOICE, log entry 101). -/
def routesOn (b : Bank) : List Route := (b.routes.filter (fun e => e.2.enabled)).map (·.2)

/-- Every sink with a writer, once for each writer. -/
def sinkWriters (b : Bank) : List Nat :=
  b.words.filterMap (fun e => match storeOf e.2 with
    | some d => if d < 512 then some d else none
    | none => none)
  ++ (routesOn b).map (·.sink)

/-- Slots that words and routes of a bank name as a multiplier (R95, R112); a route whose ENABLED is clear is a
route too (R111, R116). -/
def multiplierSlots (b : Bank) : List Nat :=
  b.words.filterMap (fun e =>
    if (wordOp e.2 ∈ [0x02, 0x03] && !bit (wordArg e.2) 15) || (wordOp e.2 == 0x0D && !bit (wordAux e.2) 7) then
      some (wordPar e.2)
    else none)
  ++ b.routes.map (·.2.gain)

/-! ## Fences -/

/-- FEN words of a bank: lane, word, named lane, target word. -/
def fences (b : Bank) : List (Nat × Nat × Nat × Nat) :=
  (b.words.filter (fun e => wordOp e.2 == 0x20)).map (fun e =>
    (e.1 / 1024, e.1 % 1024, wordAux e.2 % 8, wordArg e.2))

/-- One round of what a completion needs: for each lane, one more than the last word that must complete. The
fences that count are those at a word before it (R99). -/
def fenceRound (fs : List (Nat × Nat × Nat × Nat)) (need : List Nat) : List Nat :=
  fs.foldl (fun n f => if f.2.1 + 1 < n.getD f.1 0 then n.set f.2.2.1 (max (n.getD f.2.2.1 0) (f.2.2.2 + 1)) else n) need

def fenceRounds (fs : List (Nat × Nat × Nat × Nat)) : Nat → List Nat → List Nat
  | 0, n => n
  | k + 1, n => fenceRounds fs k (fenceRound fs n)

/-- No fence on its own lane, and no fence whose target needs the fence itself (R99). -/
def fencesOk (b : Bank) : Bool :=
  let fs := fences b
  fs.all (fun f => f.1 != f.2.2.1 &&
    decide ((fenceRounds fs (fs.length + 1) ((List.replicate 8 0).set f.2.2.1 (f.2.2.2 + 1))).getD f.1 0 ≤ f.2.1))

/-! ## Parameters, sections, lines, dynamics -/

/-- Entries of a kind, by instance. -/
def entriesOfKind (es : List SegEntry) (k : Nat) : List SegEntry := es.filter (fun e => e.kind == k)

def isPosition (c : Chart) (k : Nat) : Bool := decide (3840 ≤ k) && (chartXfs c).any (fun x => x.1 + 3840 == k)
def isGate (c : Chart) (k : Nat) : Bool := c.ovs.any (fun n => c.ovGate n == k)

/-- Ranges of parameter, biquad, delay-line, limiter, protection and meter entries (R116, R124, R128, R456). -/
def paramEntryOk (c : Chart) (e : SegEntry) : Bool :=
  let d := e.bytes
  match e.kind with
  | 1 => wordOk (BitVec.ofNat 64 (u64 d 0))
  | 2 => decide (u16 d 4 ≤ 1000)
      && (!isPosition c e.inst || decide (u32 d 0 ≤ 0x08000000)) && (!isGate c e.inst || u32 d 0 == 0)
  | 3 => polesInside (coefsAt d 0) && polesInside (coefsAt d 20) && decide (u8 d 40 ≤ 1) && zeroAt d 41 7
  | 4 => decide (1 ≤ u32 d 4) && decide (u32 d 0 + u32 d 4 ≤ 524288) && decide (u32 d 8 + u16 d 12 < u32 d 4)
      && decide (u16 d 14 ≤ 1000)
  | 5 =>
    if e.inst < 64 then
      decide (-4000 ≤ s16 d 0) && decide (s16 d 0 ≤ 0) && decide (u16 d 2 * 1000 ≤ 2 * rateHz c.rate)
        && decide (5 ≤ u16 d 4) && decide (u16 d 4 ≤ 5000) && decide (1 ≤ u16 d 6) && decide (u16 d 6 ≤ 5000)
        && decide (u8 d 8 ≤ 1) && zeroAt d 9 23
    else
      decide (600 ≤ u16 d 6) && decide (u16 d 6 ≤ 1800) && decide (100 ≤ u16 d 10) && decide (u16 d 10 ≤ 300)
        && decide (-6000 ≤ s16 d 12) && decide (s16 d 12 ≤ -3000) && decide (40 ≤ u16 d 14) && decide (u16 d 14 ≤ 400)
        && decide (-4000 ≤ s16 d 24) && decide (s16 d 24 ≤ 0) && decide (u8 d 26 < 4) && zeroAt d 27 5
  | 6 => decide (1 ≤ u16 d 0) && decide (u16 d 0 ≤ 10000) && decide (u16 d 2 ≤ 10000) && decide (1 ≤ u16 d 4)
      && decide (u16 d 4 ≤ 1000) && zeroAt d 6 2
  | 7 => decide (u16 d 0 < 256) && decide (256 ≤ u16 d 2) && decide (u16 d 2 < 512) && decide (u16 d 4 ≤ 4095)
  | 8 => (decide (u8 d 0 < 128) || u8 d 0 == 0xFF) && decide (u8 d 1 < 128)
  | _ => true

/-- The resources that a set's words name are in the chart, whichever segment gives them, and DLR offsets keep
to their line, which the set's entries give first (R98, R99). -/
def namedOk (c : Chart) (es : List SegEntry) (b : Bank) : Bool :=
  let all := es ++ c.entries
  let has := fun k i => all.any (fun e => e.kind == k && e.inst == i)
  b.words.all (fun e =>
    let w := e.2
    match wordOp w with
    | 0x08 => has 3 (wordPar w)
    | 0x0C => has 4 (wordAux w)
    | 0x0D =>
      match all.find? (fun e => e.kind == 4 && e.inst == wordAux w % 128) with
      | some l => decide (wordArg w ≤ u16 l.bytes 12) && decide (u32 l.bytes 8 + wordArg w < u32 l.bytes 4)
      | none => false
    | 0x14 => has 6 (wordPar w)
    | 0x18 => if bit (wordAux w) 0 then has 5 (64 + wordPar w) else has 5 (wordPar w)
    | _ => true)

/-- Delay lines of a set do not overlap in the pool (R128). -/
def linesApart (es : List SegEntry) : Bool :=
  pairwise (fun a b => a.inst == b.inst || apart (u32 a.bytes 0) (u32 a.bytes 4) (u32 b.bytes 0) (u32 b.bytes 4))
    (entriesOfKind es 4)

/-- LIM bindings of a set (R99, R131). -/
def bindingsOk (b : Bank) : Bool :=
  let ls := limWords b
  let spk := portBytes b 28
  distinct ((ls.filter (fun x => !x.2.1)).map (·.1)) && distinct ((ls.filter (fun x => x.2.1)).map (·.1))
    && (List.range 64).all (fun k => decide ((ls.filter (fun x => !x.2.1 && x.2.2 == k)).length ≤ 8))
    && distinct ((ls.filter (fun x => x.2.1)).map (·.2.2))
    && ls.all (fun x => !x.2.1 || (spk ≠ [] && x.1 + 256 == u16 spk (4 + 2 * (x.2.2 % 2))))
    && ls.all (fun x => !(routesOn b).any (fun r => r.sink == x.1 + 256))

/-- Words and routes of a set (R7, R90, R99, R110, R116). -/
def wordsOk (c : Chart) (es : List SegEntry) (b : Bank) : Bool :=
  distinct (sinkWriters b) && bindingsOk b
    && distinct (usesOf b 0x08 wordPar) && distinct (usesOf b 0x0C wordAux)
    && distinct (usesOf b 0x10 wordArg) && distinct (usesOf b 0x14 wordPar)
    && namedOk c es b && linesApart es && fencesOk b
    && (routesOn b).all (fun r => decide (r.source ∈ fdSources b) && decide (r.sink ∈ fdSinks b))
    && (multiplierSlots b).all (fun k => !isPosition c k)

/-- R116 over the whole chart: gates are of one overlay each and are no position slots. -/
def gatesOk (c : Chart) : Bool := distinct (c.ovs.map c.ovGate) && (c.ovs.map c.ovGate).all (fun k => !isPosition c k)

/-! ## Clocks, rate stage, convoys (R149, R150, R154, R158) -/

/-- An alternative lies in Table 7-4. -/
def altOk (a : Nat × Nat) : Bool :=
  match a.1 with
  | 0 => a.2 == 0
  | 1 => decide (a.2 < 32)
  | 2 => decide (a.2 < 2)
  | 3 => a.2 == 0
  | 4 => decide (a.2 < 6)
  | _ => false

/-- The domain carries a convoy that passes through the rate stage. -/
def domainConverted (b : Bank) (d : Nat) : Bool :=
  (convoysOf b).any (fun k => u8 (convoyEntry b k) 1 == d && !convoyBypass (convoyEntry b k))

/-- The chart disciplines a domain's family PLL to it. -/
def disciplined (c : Chart) (b : Bank) (d : Nat) : Bool :=
  let fab := family44 (codeHz (u8 (domEntry b d) 1)) == family44 (rateHz c.rate)
  treeDomain b fab == d

/-- LOCAL is the alternative in force of the domain, which is not OFF (R147). -/
def domainLocal (b : Bank) (d : Nat) : Bool := enabledIn b (32 + d) && (altKind (domEntry b d) (u8 (domEntry b d) 4)).1 == 0

/-- R150: the domain runs at the fabric rate and is LOCAL or disciplines the fabric PLL. -/
def domainSynchronous (c : Chart) (b : Bank) (d : Nat) : Bool :=
  codeHz (u8 (domEntry b d) 1) == rateHz c.rate && (domainLocal b d || treeDomain b true == d)

def domainOk (c : Chart) (b : Bank) (d : Nat) : Bool :=
  let e := domEntry b d
  e = [] ||
    (decide (u8 e 1 ≤ 11) && bit (u16 e 2) (u8 e 1) && decide (u16 e 2 < 4096)
      && decide (1 ≤ u8 e 5) && decide (u8 e 5 ≤ 4) && decide (u8 e 4 < u8 e 5) && decide (u8 e 6 ≤ 2)
      && (List.range (u8 e 5)).all (fun a => altOk (altKind e a))
      && (!domainConverted b d || (bitsOf (u16 e 2) 12).all (fun r =>
          decide (rateHz c.rate ≤ 8 * codeHz r) && decide (codeHz r ≤ 8 * rateHz c.rate))))

/-- The clock tree names domains of the right family (R145, R149). One that names a domain which is not ENABLED is refused
(DESIGN CHOICE, log entry 122). -/
def treeOk (c : Chart) (b : Bank) : Bool :=
  [true, false].all (fun fab =>
    let d := treeDomain b fab
    d == 0xFF || (decide (d < 8) && enabledIn b (32 + d)
      && (family44 (codeHz (u8 (domEntry b d) 1)) == (family44 (rateHz c.rate) == fab))))

/-- References other than LOCAL are the alternative in force of one enabled domain each. -/
def referencesOk (b : Bank) : Bool :=
  let ds := (List.range 8).filter (fun d => enabledIn b (32 + d) && !domainLocal b d)
  distinct (ds.map (fun d =>
    let a := altKind (domEntry b d) (u8 (domEntry b d) 4)
    256 * a.1 + a.2))

def convoyOk (c : Chart) (b : Bank) (k : Nat) : Bool :=
  let e := convoyEntry b k
  let n := convoyChannels e
  decide (u8 e 1 < 8) && decide (1 ≤ u8 e 2) && decide (u8 e 2 ≤ 8)
    && decide (8 ≤ u8 e 3) && decide (u8 e 3 ≤ 16) && decide (96 ≤ u16 e 4) && decide (u16 e 4 ≤ 1024)
    && decide (64 ≤ u16 e 6) && decide (u16 e 6 + 32 ≤ u16 e 4)
    && (List.range (convoyMembers e)).all (fun m => decide (1 ≤ (memberOf e m).2.2) && decide ((memberOf e m).2.2 ≤ 64))
    && decide (n ≤ 128)
    && (if convoyEgress e then decide (256 ≤ u16 e 40) && decide (u16 e 40 + n ≤ 512) else decide (u16 e 40 + n ≤ 256))
    && (!convoyBypass e || (domainSynchronous c b (u8 e 1)
          && u16 (domEntry b (u8 e 1)) 2 == 2 ^ u8 (domEntry b (u8 e 1)) 1))

/-- Members of enabled convoys, as numbers: direction, port and sub-index. -/
def memberKeys (b : Bank) : List Nat :=
  (convoysOf b).flatMap (fun k =>
    let e := convoyEntry b k
    (List.range (convoyMembers e)).map (fun m =>
      65536 * flag (convoyEgress e) + 256 * (memberOf e m).1 + (memberOf e m).2.1))

/-- Sinks that egress convoys read. -/
def convoySinks (b : Bank) : List Nat :=
  (convoysOf b).flatMap (fun k =>
    let e := convoyEntry b k
    if convoyEgress e then berthRun (u16 e 40) (convoyChannels e) else [])

/-- Rate-stage channels in use: instance, convoy, channel. -/
def asrcUsed (b : Bank) : List (Nat × Nat × Nat) :=
  (b.asrc.filter (fun e => bit (u8 e.2 2) 0 && u8 e.2 0 != 0xFF)).map (fun e => (e.1, u8 e.2 0, u8 e.2 1))

/-- R154: engines of one domain and direction, one channel for each channel of a converted convoy, none for a
bypassing one. -/
def asrcOk (b : Bank) : Bool :=
  let us := asrcUsed b
  pairwise (fun a d => a.1 / 16 != d.1 / 16
      || (u8 (convoyEntry b a.2.1) 1 == u8 (convoyEntry b d.2.1) 1
          && convoyEgress (convoyEntry b a.2.1) == convoyEgress (convoyEntry b d.2.1))) us
    && (convoysOf b).all (fun k =>
        let e := convoyEntry b k
        if convoyBypass e then !us.any (fun u => u.2.1 == k)
        else (List.range (convoyChannels e)).all (fun ch => (us.filter (fun u => u.2.1 == k && u.2.2 == ch)).length == 1))

def clocksOk (c : Chart) (b : Bank) : Bool :=
  (List.range 8).all (domainOk c b) && treeOk c b && referencesOk b
    && (convoysOf b).all (convoyOk c b) && distinct (memberKeys b) && distinct (convoySinks b)
    && decide (((convoysOf b).map (fun k => u16 (convoyEntry b k) 4 * convoyChannels (convoyEntry b k))).foldl (· + ·) 0 ≤ 131072)
    && asrcOk b

/-! ## Port entries -/

/-- Analogue input (Table 8-9). -/
def inputOk (e : List Byte) : Bool :=
  decide (u8 e 1 ≤ 2) && decide (u8 e 2 ≤ 96) && decide (u8 e 3 ≤ 7) && decide (u8 e 4 ≤ 5)
    && decide (u8 e 5 ≤ 2) && decide (u16 e 6 < 256) && decide (-1024 ≤ s16 e 8) && decide (s16 e 8 ≤ 1024)

/-- The PDM clock is one of Table 8-7. -/
def osrOk (rate osr : Nat) : Bool :=
  decide (osr ≤ 3) && decide (768000 ≤ rateHz rate * 2 ^ (osr + 4)) && decide (rateHz rate * 2 ^ (osr + 4) ≤ 6144000)

/-- PDM port (Table 8-10). -/
def pdmOk (rate : Nat) (e : List Byte) : Bool :=
  osrOk rate (u8 e 1) && decide (u8 e 2 ≤ 7) && decide (u8 e 3 ≤ 5) && decide (u8 e 4 ≤ 7)
    && decide (u8 e 5 ≤ 100)
    && (decide (u16 e 6 < 256) || (u16 e 6 == 0xFFFF && !bit (u8 e 0) 1))
    && (decide (u16 e 8 < 256) || (u16 e 8 == 0xFFFF && !bit (u8 e 0) 2))
    && decide (-1024 ≤ s16 e 10) && decide (s16 e 10 ≤ 1024) && decide (-1024 ≤ s16 e 12) && decide (s16 e 12 ≤ 1024)

def sinkField (x : Nat) : Bool := decide (256 ≤ x) && decide (x < 512)

/-- Output (Table 9-3): o 0, 1 headphones, 2 LOUT, 3 SPK. -/
def outputEntryOk (o : Nat) (e : List Byte) : Bool :=
  decide (u8 e 1 ≤ 7) && sinkField (u16 e 4) && sinkField (u16 e 6) &&
    (match o with
    | 2 => decide (u8 e 2 ≤ 1)
    | 3 => decide (u8 e 2 ≤ 3) && decide (u8 e 3 ≤ 1)
    | _ => decide (u8 e 2 ≤ 2) && decide (u8 e 3 ≤ 2) && decide (u8 e 8 ≤ 2)
        && decide (5 ≤ u8 e 9) && decide (u8 e 9 ≤ 100) && windowsOk e 10
        && (u16 e 18 == 0 || (decide (200 ≤ u16 e 18) && decide (u16 e 18 ≤ 1600))))

/-- Frequency of a PLL in units that its divisors keep whole: 98.304 MHz or 90.3168 MHz, in Hz. -/
def pllHz (p44 : Bool) : Nat := if p44 then 90316800 else 98304000

/-- BCLK of a controller divides its PLL and stays within 49.152 MHz (R226). -/
def bclkOk (hz slots width : Nat) : Bool :=
  decide (hz * slots * width ≤ 49152000) && pllHz (family44 hz) % (hz * slots * width) == 0

/-- SAI port (R224 to R226). -/
def saiOk (c : Chart) (b : Bank) (i : Nat) (e : List Byte) : Bool :=
  let f := u8 e 0
  let n := u8 e 2
  let d := u8 e 7
  let mems := fun eg => membersOf b i 0 eg
  let memberFits := fun (eg : Bool) (on : Bool) =>
    if on then (match mems eg with
      | [x] => (memberOf (convoyEntry b x.1) x.2).2.2 == n
      | _ => false)
    else true
  decide (u8 e 1 ≤ 2) && decide (2 ≤ n) && decide (n ≤ 32) && (u8 e 1 == 2 || n == 2)
    && (u8 e 3 ∈ [16, 24, 32]) && (u8 e 4 ∈ [16, 24, 32]) && decide (u8 e 4 ≤ u8 e 3)
    && decide (u8 e 5 ≤ 1) && (u8 e 1 == 2 || u8 e 5 == 1) && decide (u8 e 6 ≤ 1)
    && (u8 e 1 != 0 || u8 e 6 == 1) && (u8 e 1 != 1 || u8 e 6 == 0)
    && decide (u32 e 8 < 2 ^ n) && decide (u32 e 12 < 2 ^ n)
    && (if bit f 2 then
          bit f 1 && d == 0xFF
            && (if bit (u8 e 16) 1 then decide (u16 e 18 + n ≤ 256) else u16 e 18 == 0xFFFF)
            && (if bit (u8 e 16) 0 then decide (256 ≤ u16 e 20) && decide (u16 e 20 + n ≤ 512) else u16 e 20 == 0xFFFF)
            && bclkOk (rateHz c.rate) n (u8 e 3)
        else
          decide (d < 8) && u16 e 18 == 0xFFFF && u16 e 20 == 0xFFFF
            && memberFits true (bit (u8 e 16) 0) && memberFits false (bit (u8 e 16) 1)
            && (!bit f 1 || ((domainLocal b d || disciplined c b d)
                && (bitsOf (u16 (domEntry b d) 2) 12).all (fun r => bclkOk (codeHz r) n (u8 e 3)))))

/-- S/PDIF entries (R242, R244, R245). -/
def spdifInOk (b : Bank) (e : List Byte) : Bool :=
  decide (u8 e 1 ≤ 2) && decide (u8 e 2 < 8)
    && (membersOf b 9 0 false).all (fun x => (memberOf (convoyEntry b x.1) x.2).2.2 == 2)

def spdifOutOk (c : Chart) (b : Bank) (e : List Byte) : Bool :=
  let direct := bit (u8 e 0) 1
  decide (u8 e 1 ≤ 1) && (decide (u8 e 2 < 8) || (direct && u8 e 2 == 0xFF))
    && (u8 e 3 ∈ [16, 24])
    && (membersOf b 10 0 true).all (fun x => (memberOf (convoyEntry b x.1) x.2).2.2 == 2)
    && (if direct then enabledIn b 9 && (membersOf b 10 0 true).isEmpty
        else domainLocal b (u8 e 2) || disciplined c b (u8 e 2))

/-- USB port entry (R260). -/
def usbEntryOk (c : Chart) (b : Bank) (i : Nat) (e : List Byte) : Bool :=
  decide (u8 e 1 < 8) && domainLocal b (u8 e 1)
    && (portBytes b (1 - i) = [] || u8 (portBytes b (1 - i)) 1 != u8 e 1)
    && decide (u8 e 2 < 4) && decide (s16 e 4 < s16 e 6) && decide (s16 e 6 ≤ 0)
    && (List.range 8).all (fun k =>
        let slot := u16 e (10 + 4 * k)
        slot == 0xFFFF || (decide (u8 e (9 + 4 * k) ≤ 32) && decide (slot ≤ 4095) && !isPosition c slot && !isGate c slot))

/-- ETH port entry (R274). -/
def ethEntryOk (e : List Byte) : Bool :=
  decide (u8 e 1 ≤ 1) && decide (u8 e 2 ≤ 2) && (decide (u8 e 3 < 32) || u8 e 3 == 0xFF)
    && decide (u8 e 4 ≤ 3) && decide (u8 e 5 ≤ 1) && !bit (u8 e 6) 0 && decide (u8 e 12 ≤ 8)
    && (List.range (u8 e 12)).all (fun k =>
        decide (1 ≤ u16 e (14 + 2 * k) % 4096) && decide (u16 e (14 + 2 * k) % 4096 < 4095))
    && decide (u8 e 30 ≤ 4) && (List.range (u8 e 30)).all (fun k => bit (u8 e (32 + 6 * k)) 0)

/-- Measurement entry (R354). -/
def measEntryOk (b : Bank) (e : List Byte) : Bool :=
  let xs := exposed e
  xs.all (fun i => decide (u16 e (4 + 2 * i) < 256))
    && distinct (xs.map (fun i => u8 e (24 + i)))
    && xs.all (fun i =>
        let a := u8 e (24 + i)
        u8 (tget [] b.asrc a) 0 == 0xFF && (asrcUsed b).all (fun u => u.1 / 16 != a / 16))

/-- The checks of one entry, by its instance; reserved fields are ignored (R5). -/
def portOk (c : Chart) (b : Bank) (i : Nat) (e : List Byte) : Bool :=
    (if i < 2 then usbEntryOk c b i e
     else if i = 2 then ethEntryOk e
     else if i < 9 then saiOk c b i e
     else if i = 9 then spdifInOk b e
     else if i = 10 then spdifOutOk c b e
     else if i < 15 then pdmOk c.rate e
     else if i < 17 then true
     else if i < 25 then inputOk e
     else if i < 29 then outputEntryOk (i - 25) e
     else if i = 29 then measEntryOk b e
     else true)

def portsOk (c : Chart) (b : Bank) : Bool :=
  b.entries.all (fun e => portOk c b e.1 e.2)
    && distinct (sourceWriters b)
    && (let a := u16 (portBytes b 25) 18
        let d := u16 (portBytes b 26) 18
        a == 0 || d == 0 || a == d)

/-! ## Every set of overlays in service together (R66, R99) -/

/-- An overlay joins a set: no member shares an exclusion group with it, but for one partner of a switchable
pair, whose pair is alone; a pair counts as one towards 16. -/
def joinsSet (c : Chart) (acc : List Nat) (n : Nat) : Bool :=
  let partners := acc.filter (fun m => c.excluded n m)
  let paired := acc.filter (fun m => acc.any (fun k => k != m && c.excluded m k))
  match partners with
  | [] => decide (acc.length - paired.length / 2 < 16)
  | [m] => c.switchable n m && !decide (m ∈ paired)
  | _ => false

/-- A condition on every permitted set; the first list holds overlays still to choose. -/
def everySet (c : Chart) (f : List Nat → Bool) : List Nat → List Nat → Bool
  | [], acc => f acc
  | n :: r, acc => everySet c f r acc && (!joinsSet c acc n || everySet c f r (acc ++ [n]))

/-- The checks over one set in one variant. -/
def setOk (c : Chart) (reduced : Bool) (ns : List Nat) : Bool :=
  let b := buildBank c reduced ns
  wordsOk c (setEntries c reduced ns) b && clocksOk c b && portsOk c b

/-! ## Descriptor sets and entity section (R257, R304) -/

/-- Descriptors of a set, cut by their length bytes. The first argument is fuel. -/
def descriptors : Nat → List Byte → List (List Byte)
  | 0, _ => []
  | f + 1, l =>
    match l with
    | [] => []
    | _ => if u8 l 0 < 2 then [] else l.take (u8 l 0) :: descriptors f (l.drop (u8 l 0))

def descSet (d : List Byte) (off len : Nat) : List (List Byte) := descriptors (len + 1) (bytesAt d off len)

/-- A streaming alternate setting: interface, setting, subslot size, resolution. -/
structure AltDesc where
  ifc : Nat
  alt : Nat
  subslot : Nat
  bitRes : Nat
  deriving DecidableEq, Repr

/-- Streaming alternate settings of a configuration set (UAC 2.0 layouts, PRESUMED). -/
def streamingAlts (ds : List (List Byte)) : List AltDesc :=
  (ds.foldl (fun (a : List AltDesc × Bool) d =>
    if u8 d 1 = 4 then
      if u8 d 5 = 1 ∧ u8 d 6 = 2 ∧ u8 d 3 ≠ 0 then
        ({ ifc := u8 d 2, alt := u8 d 3, subslot := 0, bitRes := 0 } :: a.1, true)
      else (a.1, false)
    else if a.2 then
      match a.1 with
      | x :: r =>
        if u8 d 1 = 0x24 ∧ u8 d 2 = 2 then ({ x with subslot := u8 d 4, bitRes := u8 d 5 } :: r, true)
        else a
      | [] => a
    else a) ([], false)).1

/-- An interface descriptor with its endpoint descriptors. -/
structure IfDesc where
  ifc : Nat
  alt : Nat
  kind : List Byte
  eps : List (List Byte)
  deriving DecidableEq, Repr

/-- The interfaces of a configuration set, each with class, subclass and protocol (USB layouts, PRESUMED). -/
def interfaces (ds : List (List Byte)) : List IfDesc :=
  ds.foldl (fun (a : List IfDesc) d =>
    if u8 d 1 = 4 then { ifc := u8 d 2, alt := u8 d 3, kind := bytesAt d 5 3, eps := [] } :: a
    else if u8 d 1 = 5 then
      match a with
      | x :: r => { x with eps := x.eps ++ [d] } :: r
      | [] => a
    else a) []

/-- An endpoint by address, the bits of bmAttributes that a mask keeps, and bInterval; 0 asks for no interval. -/
def endpointIs (addr mask attr interval : Nat) (e : List Byte) : Bool :=
  u8 e 2 == addr && (u8 e 3 &&& mask) == attr && (interval == 0 || u8 e 6 == interval)

/-- The endpoints are these, each once. -/
def endpointsAre (want : List (List Byte → Bool)) (eps : List (List Byte)) : Bool :=
  eps.length == want.length && want.all (fun w => eps.any w)

/-- Isochronous asynchronous data each 125 µs, and explicit feedback each 1 ms (Table 11-2). -/
def isoData (addr : Nat) : List Byte → Bool := endpointIs addr 0x3F 0x05 1
def isoFeedback (addr : Nat) : List Byte → Bool := endpointIs addr 0x33 0x11 4

/-- An interface has a role of Table 11-2, its class and its endpoints; setting 0 of a stream has none. -/
def roleOk (d : List Byte) (x : IfDesc) : Bool :=
  let stream := x.kind == [1, 2, 0x20]
  x.ifc != 0xFF &&
    if x.ifc = u8 d 28 ∨ x.ifc = u8 d 29 then
      let k := if x.ifc = u8 d 28 then 1 else 2
      stream && (if x.alt = 0 then x.eps == [] else endpointsAre [isoData k, isoFeedback (0x80 + k)] x.eps)
    else if x.ifc = u8 d 30 ∨ x.ifc = u8 d 31 then
      let k := if x.ifc = u8 d 30 then 0x83 else 0x84
      stream && (if x.alt = 0 then x.eps == [] else endpointsAre [isoData k] x.eps)
    else if x.ifc = u8 d 32 then x.kind == [1, 1, 0x20] && x.eps == []
    else if x.ifc = u8 d 33 then x.kind.take 2 == [3, 0] && endpointsAre [endpointIs 0x85 3 3 4] x.eps
    else if x.ifc = u8 d 34 then x.kind.take 1 == [0xFF] && endpointsAre [endpointIs 0x06 3 2 0, endpointIs 0x86 3 2 0] x.eps
    else x.ifc == u8 d 35 && x.kind == [0xFE, 1, 1] && x.eps == []

/-- The KIND 0x09 entry that a record means in a variant: that of its overlay, or else of the base chart. -/
def recEntry (c : Chart) (reduced : Bool) (overlay inst : Nat) : List Byte :=
  (((setEntries c reduced (if overlay < 64 then [overlay] else [])).find? (fun e =>
    e.kind == 9 && e.inst == inst)).map (·.bytes)).getD []

/-- A record agrees with its setting and its convoy member (R257). -/
def recordOk (c : Chart) (reduced : Bool) (port : Nat) (d : List Byte) (r : List Byte) : Bool :=
  let conv := recEntry c reduced (u8 r 5) (64 + u8 r 6)
  let entry := recEntry c reduced (u8 r 5) port
  let capture := u8 r 0 == u8 d 30 || u8 r 0 == u8 d 31
  (capture || u8 r 0 == u8 d 28 || u8 r 0 == u8 d 29) && u8 r 0 != 0xFF && u8 r 2 % 4 != 0 && decide (1 ≤ u8 r 1) && decide (u8 r 1 ≤ 15) && decide (u8 r 3 ≤ 3)
    && decide (1 ≤ u8 r 4) && decide (u8 r 4 ≤ 32) && decide (u8 r 6 < 128)
    && decide (u8 r 7 < convoyMembers conv) && memberOf conv (u8 r 7) == (port, u8 r 0, u8 r 4)
    && convoyEgress conv == capture && u8 conv 1 == u8 entry 1

/-- A setting has one record for its speed, with FORMAT's sizes. -/
def altDescOk (d : List Byte) (speed : Nat) (x : AltDesc) : Bool :=
  match (altRecords d).filter (fun r => u8 r 0 == x.ifc && u8 r 1 == x.alt && bit (u8 r 2) speed) with
  | [r] => (x.subslot, x.bitRes) == ([(2, 16), (3, 24), (4, 32), (4, 32)].getD (u8 r 3) (0, 0))
  | _ => false

/-- The SuperSpeed capability of the BOS descriptor: bU1DevExitLat at byte 7, wU2DevExitLat at bytes 8 and 9 (PRESUMED). -/
def bosOk (bos : List (List Byte)) : Bool :=
  let caps := bos.filter (fun x => u8 x 1 == 0x10 && u8 x 2 == 3)
  !decide (caps = []) && caps.all (fun x => decide (8 ≤ u8 x 7) && decide (180 ≤ u16 x 8))

/-- A configuration set begins with its configuration descriptor, which says that the device is self-powered. -/
def configOk (ds : List (List Byte)) : Bool :=
  ds.head?.any (fun x => u8 x 1 == 2 && bit (u8 x 7) 6)

/-- The widest high-speed setting of an interface. -/
def widest (d : List Byte) (ifc : Nat) : Nat :=
  ((altRecords d).filter (fun r => u8 r 0 == ifc && bit (u8 r 2) 0)).foldl (fun a r => max a (u8 r 4)) 0

/-- R257. A set without a SuperSpeed configuration serves a port that does not use SuperSpeed. -/
def usbSetOk (c : Chart) (reduced : Bool) (port : Nat) (d : List Byte) : Bool :=
  let hs := descSet d (u16 d 12) (u16 d 14)
  let ss := descSet d (u16 d 8) (u16 d 10)
  let ah := streamingAlts hs
  let as_ := streamingAlts ss
  let bos := descSet d (u16 d 16) (u16 d 18)
  u16 d 0 == 1 && decide (u16 d 2 ≤ 64) && (altRecords d).all (recordOk c reduced port d)
    && ah.all (altDescOk d 0) && as_.all (altDescOk d 1)
    && (altRecords d).all (fun r =>
        (!bit (u8 r 2) 0 || (ah.filter (fun x => x.ifc == u8 r 0 && x.alt == u8 r 1)).length == 1)
          && (!bit (u8 r 2) 1 || (as_.filter (fun x => x.ifc == u8 r 0 && x.alt == u8 r 1)).length == 1))
    && decide (widest d (u8 d 28) + widest d (u8 d 29) ≤ 32) && decide (widest d (u8 d 30) + widest d (u8 d 31) ≤ 32)
    && bosOk bos && configOk hs
    && (configOk ss || (ss == [] && !bit (u8 (recEntry c reduced 0xFF port) 0) 1)) && (interfaces hs ++ interfaces ss).all (roleOk d)

/-- Bytes per channel sample of an AAF format. -/
def aafBytes (f : Nat) : Nat := [0, 4, 4, 3, 2].getD f 0

/-- The convoy entry that a record names under its OVERLAY, and the rates its domain allows in Hz. -/
def recConvoy (c : Chart) (reduced : Bool) (r : List Byte) : List Byte := recEntry c reduced (u8 r 1) (64 + u8 r 2)

def recRates (c : Chart) (reduced : Bool) (r : List Byte) : List Nat :=
  (bitsOf (u16 (recEntry c reduced (u8 r 1) (32 + u8 (recConvoy c reduced r) 1)) 2) 12).map codeHz

/-- Largest frame of the ETH entry (Table 12-2). -/
def maxLen (e : List Byte) : Nat := [1518, 1522, 2000].getD (u8 e 2) 1522

def recMemberOk (c : Chart) (reduced : Bool) (r : List Byte) (sub : Nat) (egress : Bool) : Bool :=
  let e := recConvoy c reduced r
  (decide (u8 r 1 < 64) || u8 r 1 == 0xFF) && decide (u8 r 2 < 128) && decide (u8 r 3 < convoyMembers e) && memberOf e (u8 r 3) == (2, sub, u8 r 5) && convoyEgress e == egress
    && decide (1 ≤ u8 r 4) && decide (u8 r 4 ≤ 4) && decide (1 ≤ u8 r 5) && decide (u8 r 5 ≤ 64)
    && (recRates c reduced r).all (fun hz => hz != 11025 && hz != 22050)

/-- The AEM descriptors lie in the section, behind the records (Table 13-3). -/
def aemPlaceOk (d : List Byte) : Bool :=
  (u16 d 38 == 0 || decide (2208 ≤ u16 d 36)) && decide (u16 d 36 + u16 d 38 ≤ d.length)

def avbOk (c : Chart) (reduced : Bool) (d : List Byte) : Bool :=
  let ts := (List.range 32).filter (fun t => bit (u8 (talkerRec d t) 0) 0)
  let ls := (List.range 32).filter (fun l => bit (u8 (listenerRec d l) 0) 0)
  let eth := recEntry c reduced 0xFF 2
  let defPto := fun (r : List Byte) => if bit (u8 r 0) 1 then u32 d 32 else u32 d 28
  u16 d 0 == 1 && decide (2 ≤ u8 d 26) && decide (u8 d 26 ≤ 31) && aemPlaceOk d
    && ts.all (fun t =>
        let r := talkerRec d t
        recMemberOk c reduced r t true && decide (1 ≤ u16 r 6) && decide (u16 r 6 ≤ 256)
          && bit (u8 r 8) 0 && (decide (u32 r 16 ≤ 50000) || u32 r 16 == 0xFFFFFFFF)
          && (recRates c reduced r).all (fun hz => decide (ceilDiv (hz * (if bit (u8 r 0) 1 then 250 else 125)) 1000000 ≤ u16 r 6))
          && decide (u8 r 5 * aafBytes (u8 r 4) ≤ maxLen eth - 46))
    && ls.all (fun l =>
        let r := listenerRec d l
        recMemberOk c reduced r l false && decide (-1000000 ≤ s32 r 24) && decide (s32 r 24 ≤ 1000000)
          && (recRates c reduced r).all (fun hz =>
              decide (((defPto r : Int) * 1000 + s32 r 24) * hz ≤ (u16 (recConvoy c reduced r) 4 : Int) * 1000000000)))
    && (List.range 3).all (fun k =>
        let r := crfRec d k
        !bit (u8 r 0) 0 || ((k != 0 || decide (u8 r 1 < 8) || u8 r 1 == 0xFF)
          && decide (1 ≤ u16 r 2) && decide (1 ≤ u8 r 4) && decide (u8 r 4 ≤ 16)))
    && decide ((ts.map (fun t => u8 (talkerRec d t) 5)).foldl (· + ·) 0 ≤ 128)
    && decide ((ls.map (fun l => u8 (listenerRec d l) 5)).foldl (· + ·) 0 ≤ 128)

/-! ## The whole check -/

/-- R69 and the checks of R99 and of the rules that add to it. -/
def contentOk (l : List Byte) : Bool :=
  let c := readChart l
  headerOk l && placesOk l && sectionsOk l c && contentsOk c && reservationsOk c
    && c.entries.all (paramEntryOk c) && gatesOk c
    && everySet c (setOk c false) c.ovs []
    && (!c.hasReduced || everySet c (setOk c true) (c.ovs.filter (fun n => !c.forbids n)) [])
    && [false, true].all (fun reduced => (reduced && !c.hasReduced)
      || ([0, 1].all (fun i => (c.sec 6 i).isNone || usbSetOk c reduced i (c.secD 6 i))
        && ((c.sec 7 0).isNone || avbOk c reduced (c.secD 7 0))))

/-- The first check that a chart fails, as CHART_FALLBACK codes it (Table 4-12): 1 CRC, 2 signature, 3 FORMAT,
4 content. -/
def chartFailure (s : State) (l : List Byte) : Option Nat :=
  if !(decide (64 ≤ l.length) && decide (u32 l 16 ≤ l.length) && crcsOk l) then some 1
  else if !signatureOk s.fw.chartKey l then some 2
  else if decide (u16 l 4 < s.fw.running.chartMin) || decide (s.fw.running.chartMax < u16 l 4) then some 3
  else if !contentOk l then some 4
  else none

/-- The status of CHART_WRITE_CLOSE for a failed check. -/
def failureStatus (f : Nat) : Nat :=
  match f with
  | 1 => stBadCrc
  | 4 => stBadParam
  | _ => stVersionRejected

end Sys2Proof.Machine
end

