-- ==== Sys2Proof/Machine/Clocks.lean ====
section
/-! DEFINITION. The reference, the PLLs, the clock domains and the rate stage (chapter 7, R143 to R157). -/

namespace Sys2Proof.Machine

/-! ## Access -/

def domGet (s : State) (d : Nat) : Domain := tget Domain.off s.clk.domains d

def domMod (s : State) (d : Nat) (f : Domain → Domain) : State :=
  { s with clk := { s.clk with domains := tmod Domain.off s.clk.domains d f } }

def convGet (s : State) (k : Nat) : Convoy := tget Convoy.absent s.clk.convoys k

def convMod (s : State) (k : Nat) (f : Convoy → Convoy) : State :=
  { s with clk := { s.clk with convoys := tmod Convoy.absent s.clk.convoys k f } }

def memGet (s : State) (k m : Nat) : Member := tget Member.idle (convGet s k).members m

def memMod (s : State) (k m : Nat) (f : Member → Member) : State :=
  convMod s k (fun c => { c with members := tmod Member.idle c.members m f })

/-- PLL 0 is PLL48, 1 PLL44. -/
def pllGet (s : State) (p : Nat) : Pll := if p = 0 then s.clk.pll48 else s.clk.pll44

def pllMod (s : State) (p : Nat) (f : Pll → Pll) : State :=
  if p = 0 then { s with clk := { s.clk with pll48 := f s.clk.pll48 } }
  else { s with clk := { s.clk with pll44 := f s.clk.pll44 } }

/-- Entry of a convoy in the Near bank, and the enabled convoys there. -/
def nearConvoy (s : State) (k : Nat) : List Byte := convoyEntry s.cs.near k
def convoyOn (s : State) (k : Nat) : Bool := bit (u8 (nearConvoy s k) 0) 0
def convoyDomain (s : State) (k : Nat) : Nat := u8 (nearConvoy s k) 1

/-- Convoys of a domain that pass through the rate stage. -/
def convertedConvoys (s : State) (d : Nat) : List Nat :=
  (convoysOf s.cs.near).filter (fun k => convoyDomain s k == d && !convoyBypass (nearConvoy s k))

/-- The fabric PLL of the chart in force. -/
def fabricPll (s : State) : Nat := (s.cs.chart.map (fun c => fabricPllOf c.rate)).getD 0

/-! ## Mutes of convoys (R156, R160, R167) -/

/-- The members of a mask that have not returned to RUNNING are noted, and CONVOY_MUTED is posted no more
than once per 100 ms, with the mutes folded into it; `log` is the log number of the command behind it, or 0. -/
def postMuted (k members cause log : Nat) (s : State) : State :=
  let s1 := convMod s k (fun c => { c with toRestore := c.toRestore ||| members, folded := c.folded + 1 })
  let d := if (convGet s k).posted then drawElapsed s1 else (true, s1)
  if d.1 then
    post 0x0505 k log (members + 256 * cause + 65536 * min (convGet d.2 k).folded 0xFFFF) (.res [0x0500 + convoyDomain s k])
      (convMod d.2 k (fun c => { c with folded := 0, posted := true }))
  else d.2

/-- One more in a counter of a convoy, in every context's copy (R166). -/
def convCount (k i : Nat) (s : State) : State :=
  convMod s k (fun c => { c with counts := (List.range 5).foldl (fun t x => tincrSat 32 t (8 * x + i)) c.counts })

/-- Members of a convoy that are not IDLE. -/
def activeMembers (s : State) (k : Nat) : Nat :=
  maskBy (convoyMembers (nearConvoy s k)) (fun m => (memGet s k m).st != 0)

/-- A converted convoy of a domain that leaves LOCKED ramps to mute from the next tick (R156). -/
def muteConvoy (log : Nat) (s : State) (k : Nat) : State :=
  if (convGet s k).mute ≠ 0 then s
  else postMuted k (activeMembers s k) 3 log (convCount k 4 (convMod s k (fun c => { c with mute := 1, muteK := 0 })))

/-! ## PLLs -/

/-- PLL_STATE (Table 7-13). -/
def postPll (p log : Nat) (s : State) : State :=
  let q := pllGet s p
  post 0x0502 p log (q.mode + 256 * q.domain) .none s

/-- A PLL takes a mode; while it is UNLOCKED the mode is the one it resumes (R146). -/
def setPllMode (p mode log : Nat) (s : State) : State :=
  let q := pllGet s p
  if q.mode = 3 then pllMod s p (fun q => { q with resume := mode })
  else if q.mode = mode then s
  else postPll p log (pllMod s p (fun q => { q with mode := mode }))

/-- A PLL can track the domain: one of its family, LOCKED, within ±500 ppm (R144, R145). -/
def trackable (s : State) (p d : Nat) : Bool :=
  (domGet s d).st == 2 && family44 (codeHz (domGet s d).rate) == (p == 1)
    && decide (-50000 ≤ (domGet s d).offset) && decide ((domGet s d).offset ≤ 50000)

/-- The PLLs follow a domain's state, rate and measured offset (R145): to HOLDOVER when they can no longer track it, to
DISCIPLINED when they can again, which for an offset that has come back within ±500 ppm needs no new lock (DESIGN CHOICE, log
entry 122). `log` is the log number of the command behind it, or 0. -/
def pllsFollow (d log : Nat) (s : State) : State :=
  [0, 1].foldl (fun t p =>
    let q := pllGet t p
    let m := if q.mode = 3 then q.resume else q.mode
    if q.domain = d ∧ d < 8 then
      if trackable t p d ∧ m = 2 then setPllMode p 1 log t
      else if !trackable t p d ∧ m = 1 then setPllMode p 2 log t
      else t
    else t) s

/-- A discipline that a tick puts in force (R145, R166). The steering stays where it is, and goes on from there. -/
def takeDiscipline (p : Nat) (s : State) : State :=
  match (pllGet s p).pending with
  | none => s
  | some (d, bw, log) =>
    let s1 := pllMod s p (fun q => { q with pending := none, domain := d, bw := bw })
    let mode := if d = 0xFF then 0 else if trackable s1 p d then 1 else 2
    let s2 := setPllMode p mode log s1
    if (pllGet s p).domain ≠ d ∧ (pllGet s p).mode = (pllGet s2 p).mode then postPll p log s2 else s2

/-- Where a PLL steers to (Table 7-1): 0 in FREE, in DISCIPLINED the reference of its domain, which the tracker measures
against the fabric PLL; HOLDOVER and UNLOCKED hold. -/
def steerTarget (s : State) (p : Nat) : Int :=
  let q := pllGet s p
  match q.mode with
  | 0 => 0
  | 1 => clampInt (-50000) 50000 ((pllGet s (fabricPll s)).steer + (domGet s q.domain).offset)
  | _ => q.steer

/-- A period of a PLL's steering: a step of 0.01 ppm towards its target when 10 ppm/s allows one. Whether the loop takes it
then is free, since its law is not stated. -/
def tickSteer (s : State) (p : Nat) : State :=
  let q := pllGet s p
  let x := steerTarget s p
  if x = q.steer then s
  else if q.slew + 1000 < fabricHz s then pllMod s p (fun q => { q with slew := q.slew + 1000 })
  else
    let d := drawRound s
    if d.1 then pllMod d.2 p (fun q => { q with slew := 0, steer := if q.steer < x then q.steer + 1 else q.steer - 1 })
    else d.2

/-! ## Domains -/

/-- The alternative in force of a domain: its kind and index. -/
def domAlt (s : State) (d : Nat) : Nat × Nat := altKind (domEntry s.cs.near d) (domGet s d).alt

/-- The rate is in the domain's ALLOWED_RATES. -/
def rateAllowed (s : State) (d rate : Nat) : Bool := decide (rate ≤ 11) && bit (u16 (domEntry s.cs.near d) 2) rate

/-- gPTP is synchronised: SLAVE or MASTER. -/
def synced (s : State) : Bool := s.net.gptp.st ∈ [3, 4]

/-- The condition of Table 7-4 as the part knows it: a stream RECEIVING with gPTP synchronised, the S/PDIF receiver in
lock, an SAI port in target mode with its frames arriving. A receiver with AUTO_RATE locked at a rate that the domain may
not take leaves it UNLOCKED (R237). -/
def refPossible (s : State) (d : Nat) (a : Nat × Nat) : Bool :=
  match a.1 with
  | 0 => !s.clk.lost
  | 1 => (tget Stream.off s.net.streams (32 + a.2)).st == 3 && synced s
  | 2 => (tget Stream.off s.net.crfs (1 + a.2)).st == 3 && synced s
  | 3 =>
    let q := s.ser.spdif
    q.rxState == 2 && (q.rxRate == (domGet s d).rate || !bit (u8 (entryOf s 9) 0) 1 || rateAllowed s d q.rxRate)
  | _ => (tget Sai.off s.ser.sais a.2).st == 2 && !bit (u8 (entryOf s (3 + a.2)) 0) 1

/-- DOMAIN_UNLOCKED (Table 7-13), the mute of its converted convoys, and the PLLs' HOLDOVER. -/
def leaveLocked (d cause log : Nat) (s : State) : State :=
  pllsFollow d log ((convertedConvoys s d).foldl (muteConvoy log)
    (post 0x0504 d log cause (.res [0x0500 + d]) s))

/-- The domain becomes UNLOCKED: cause 1 reference invalid, 2 tracker error, 3 offset; the events carry the log number of the
command that causes it, or 0 (R37). -/
def unlockFor (d cause log : Nat) (s : State) : State :=
  let was := (domGet s d).st
  if was ≠ 1 ∧ was ≠ 2 then s
  else
    let s1 := domMod s d (fun q => { q with st := 3, refValid := q.refValid && cause != 1, unlocks := q.unlocks + 1
                                            stamps := if cause = 1 then [] else q.stamps
                                            held := if was = 2 then some (q.rate, q.offset) else q.held })
    if was = 2 then leaveLocked d cause log s1 else s1

/-- No command has unlocked the domain. -/
def unlockDomain (d cause : Nat) (s : State) : State := unlockFor d cause 0 s

/-- Domains whose reference in force is invalid are UNLOCKED (R148, Table 7-6). -/
def dropInvalid (s : State) : State :=
  (List.range 8).foldl (fun t d => if refPossible t d (domAlt t d) then t else unlockDomain d 1 t) s

/-- A convoy re-aligns as if its members had underrun (R156). -/
def realign (s : State) (k : Nat) : State :=
  convMod s k (fun c => { c with mute := 0, muteK := 0, members := tmapKeys Member.idle c.members (fun _ m =>
    if m.st = 0 then m else { m with st := 1, fade := 0, level := 0, start := 0, cont := none }) })

/-- R151, R156: the domain is LOCKED and its convoys re-align; PLLs track it within ±500 ppm (R145). -/
def lockDomain (d : Nat) (offset : Int) (s : State) : State :=
  let q := domGet s d
  let s1 := domMod s d (fun q => { q with st := 2, offset := offset, locks := q.locks + 1 })
  pllsFollow d 0 ((convertedConvoys s d).foldl realign
    (post 0x0503 d 0 (q.rate + 256 * q.alt) (.res [0x0500 + d]) s1))

/-- A timestamp of a stream reaches the trackers of the domains that it is the reference of (R153): at most 64 are kept. -/
def noteStamps (kind i : Nat) (times : List Nat) (s : State) : State :=
  (List.range 8).foldl (fun t d =>
    if domAlt t d = (kind, i) ∧ (domGet t d).st ≠ 0 then
      domMod t d (fun q => { q with stamps := ((times.reverse.map (fun x => (x, t.eng.period))) ++ q.stamps).take 64 })
    else t) s

/-- The offset of a LOCAL reference against the fabric PLL, which the steering of the two PLLs gives exactly, to the tracker's
0.01 ppm (R151). -/
def localOffset (s : State) (d : Nat) : Int :=
  let own := (pllGet s (flag (family44 (codeHz (domGet s d).rate)))).steer
  let fab := (pllGet s (fabricPll s)).steer
  divNear ((own - fab) * 100000000) (100000000 + fab).toNat

/-- What the tracker measures of a domain's reference (R151, R153), within the ±1,000 ppm of a LOCKED domain: what a wire
carries is a free figure. -/
def measureOffset (d : Nat) (s : State) : Int × State :=
  let a := domAlt s d
  if a.1 = 0 then (localOffset s d, s)
  else
    let r := drawReading s
    let w := if a.1 = 1 ∨ a.1 = 2 then Config.trackRate (u8 (domEntry s.cs.near d) 6) (domGet s d).stamps r.1 else r.1
    (clampInt (-100000) 100000 w.toInt, r.2)

/-- The tracker of a domain with a valid reference measures; of a LOCKED one, the ratio is kept, and the PLLs follow (R145,
R151). -/
def tickTracker (s : State) (d : Nat) : State :=
  let q := domGet s d
  if q.st = 1 ∨ q.st = 2 then
    let r := measureOffset d s
    let s1 := domMod r.2 d (fun q => { q with offset := r.1 })
    if q.st = 2 then pllsFollow d 0 (domMod s1 d (fun q => { q with held := some (q.rate, q.offset) })) else s1
  else s

/-- A change of alternative or rate that a tick puts in force (R152). A domain that is OFF stays OFF (Table 7-6). -/
def takeDomain (s : State) (d : Nat) : State :=
  let q := domGet s d
  if q.pendAlt.isNone && q.pendRate.isNone then s
  else
    let s1 := domMod s d (fun q => { q with
      alt := q.pendAlt.getD q.alt, rate := q.pendRate.getD q.rate, pendAlt := none, pendRate := none
      stamps := if q.pendAlt.isSome then [] else q.stamps })
    if q.st = 0 then s1
    else
      let valid := refPossible s1 d (domAlt s1 d) && (q.refValid || q.pendAlt.isSome)
      let s2 := domMod s1 d (fun q => { q with refValid := valid, st := if valid then 1 else 3
                                               unlocks := q.unlocks + flag (!valid && q.st != 3) })
      let s3 := domMod s2 d (fun x => { x with held := if q.st = 2 then some (q.rate, q.offset) else x.held })
      if q.st = 2 then leaveLocked d 4 q.pendLog s3 else s3

/-- Clock-domain effects that a tick latches. -/
def tickClocks (s : State) : State :=
  let s1 := (List.range 8).foldl tickTracker
    ((List.range 8).foldl takeDomain (takeDiscipline 1 (takeDiscipline 0 (dropInvalid s))))
  tickSteer (tickSteer s1 0) 1

/-- The domains and disciplines of a base chart that starts: UNLOCKED until the reference is valid (Table 7-6),
PLLs as the clock tree says. -/
def startClocks (s : State) : State :=
  let s1 := (List.range 8).foldl (fun t d =>
    let e := domEntry t.cs.near d
    domMod t d (fun q =>
      if bit (u8 e 0) 0 then
        { Domain.off with st := 3, rate := u8 e 1, alt := u8 e 4, locks := q.locks, unlocks := q.unlocks + 1 }
      else { Domain.off with rate := u8 e 1, alt := u8 e 4, locks := q.locks, unlocks := q.unlocks })) s
  [true, false].foldl (fun t fab =>
    let p := if fab then fabricPll t else 1 - fabricPll t
    let e := treeEntry t.cs.near
    let d := treeDomain t.cs.near fab
    takeDiscipline p (pllMod t p (fun q => { q with pending := some (d, u8 e (if fab then 1 else 3), 0) }))) s1

/-! ## Events -/

/-- R146: no edge for 1 µs. Both PLLs are UNLOCKED, and so is every domain. -/
def referenceLoss (s : State) : State :=
  let s1 := post 0x0501 0 0 1 .none { s with clk := { s.clk with lost := true } }
  let s2 := [0, 1].foldl (fun t p =>
    postPll p 0 (pllMod t p (fun q => { q with resume := if q.mode = 3 then q.resume else q.mode, mode := 3 }))) s1
  (List.range 8).foldl (fun t d => unlockDomain d 1 t) s2

def execReferenceLoss (s : State) : Host.Outcome State Fault Refusal :=
  whenever (fun s => s.pwr.refChosen && !s.clk.lost) referenceLoss s

/-- R146: edges return; the PLLs resume their modes, in HOLDOVER where their domain is not LOCKED. -/
def referenceRestore (s : State) : State :=
  let s1 := [0, 1].foldl (fun t p =>
    postPll p 0 (pllMod t p (fun q => { q with mode := q.resume }))) { s with clk := { s.clk with lost := false } }
  post 0x0501 0 0 0 .none s1

def execReferenceRestore (s : State) : Host.Outcome State Fault Refusal :=
  whenever (fun s => s.clk.lost) referenceRestore s

/-- Table 7-6: the reference of an UNLOCKED domain is valid. -/
def execDomainRefValid (d : Fin 8) (s : State) : Host.Outcome State Fault Refusal :=
  whenever (fun s => (domGet s d.val).st == 3 && refPossible s d.val (domAlt s d.val))
    (fun s => domMod s d.val (fun q => { q with st := 1, refValid := true })) s

/-- The reference in force has stayed valid, which lock requires (R148), at the domain's own rate where the S/PDIF
receiver names one. -/
def lockPossible (s : State) (d : Nat) : Bool :=
  (domGet s d).refValid && refPossible s d (domAlt s d)
    && ((domAlt s d).1 != 3 || s.ser.spdif.rxRate == (domGet s d).rate)

/-- R151: the tracker's error has stayed within ±2 ppm for 5 ms. The ratio of a LOCAL domain is known exactly, that of an
AVTP or CRF reference is what the tracker makes of its timestamps (R153), and of another reference it is `offset`. -/
def execDomainLock (d : Fin 8) (offset : Int) (s : State) : Host.Outcome State Fault Refusal :=
  whenever (fun s => (domGet s d.val).st == 1 && lockPossible s d.val && decide (-100000 ≤ offset) && decide (offset ≤ 100000))
    (fun s =>
      let r := if (domAlt s d.val).1 < 3 then measureOffset d.val s else (offset, s)
      lockDomain d.val r.1 r.2) s

/-- R151: a cause of Table 7-6 takes the domain out of ACQUIRING or LOCKED; the third is an offset beyond ±1,000 ppm. -/
def execDomainUnlock (d : Fin 8) (cause : Fin 3) (offset : Int) (s : State) : Host.Outcome State Fault Refusal :=
  whenever (fun s => ((domGet s d.val).st == 2 || ((domGet s d.val).st == 1 && cause == 0))
      && (cause != 2 || decide (100000 < offset.natAbs)))
    (fun s => unlockDomain d.val (1 + cause.val) (if cause = 2 then domMod s d.val (fun q => { q with offset := offset }) else s)) s

/-! ## Commands -/

/-- The discipline that a PLL has, or that is committed (R31). -/
def pllDomain (q : Pll) : Nat := (q.pending.map (·.1)).getD q.domain

def clockStatusResult (s : State) : List Byte :=
  b1 (flag s.clk.mclk) ++ b1 (flag s.clk.lost) ++ b1 s.clk.pll48.mode ++ b1 s.clk.pll44.mode
    ++ b1 (pllDomain s.clk.pll48) ++ b1 (pllDomain s.clk.pll44) ++ b1 (fabricPll s) ++ zeros 1
    ++ sb4 s.clk.pll48.steer ++ sb4 s.clk.pll44.steer

def execClockStatus (o : Issue) (p : List Byte) (s : State) : Host.Outcome State Fault Refusal :=
  hostCommand 0x0501 o p noCheck (reads clockStatusResult) s

/-- The domain is in the chart; and it is not OFF. -/
def domainInChart (s : State) (d : Nat) : Bool := decide (d < 8) && inChart s 9 (32 + d)
def domainOn (s : State) (d : Nat) : Bool := decide (d < 8) && enabledIn s.cs.near (32 + d)

def domainStatusCheck (p : List Byte) (s : State) : Option Nat := firstRefusal [(!domainInChart s (u8 p 0), stBadParam)]

/-- R150 of the state in force. -/
def domainSync (s : State) (d : Nat) : Bool :=
  codeHz (domGet s d).rate == fabricHz s && ((domAlt s d).1 == 0 || treeDomain s.cs.near true == d)

/-- Engines that serve a domain. -/
def enginesOf (s : State) (d : Nat) : Nat :=
  maskOf (((asrcUsedNear s).filter (fun u => convoyDomain s u.2.1 == d)).map (fun u => u.1 / 16))
where
  asrcUsedNear (s : State) : List (Nat × Nat × Nat) :=
    (s.cs.near.asrc.filter (fun e => bit (u8 e.2 2) 0 && u8 e.2 0 != 0xFF)).map (fun e => (e.1, u8 e.2 0, u8 e.2 1))

def domainStatusResult (p : List Byte) (s : State) : List Byte :=
  let d := u8 p 0
  let q := domGet s d
  let alt := q.pendAlt.getD q.alt
  let a := altKind (domEntry s.cs.near d) alt
  b1 q.st ++ b1 (q.pendRate.getD q.rate) ++ b1 alt ++ b1 a.1 ++ b1 a.2 ++ b1 (flag (domainSync s d)) ++ zeros 2
    ++ sb4 q.offset ++ b4 q.locks ++ b4 q.unlocks ++ b2 (enginesOf s d) ++ zeros 2

def execDomainStatus (o : Issue) (p : List Byte) (s : State) : Host.Outcome State Fault Refusal :=
  hostCommand 0x0502 o p (domainStatusCheck p) (reads (domainStatusResult p)) s

def domainSetRefCheck (o : Issue) (p : List Byte) (s : State) : Option Nat :=
  firstRefusal
    [(!domainInChart s (u8 p 0) || decide (u8 (domEntry s.cs.near (u8 p 0)) 5 ≤ u8 p 1), stBadParam),
     (!canChange s o.ctx (0x0500 + u8 p 0), stNotOwner)]

/-- A change of alternative is committed: the next tick puts it in force, and one already in force changes nothing (R152). -/
def commitAlt (d alt log : Nat) (s : State) : State :=
  let q := domGet s d
  if q.pendAlt.getD q.alt = alt then s else domMod s d (fun q => { q with pendAlt := some alt, pendLog := log })

def domainSetRefDo (p : List Byte) (log : Nat) (s : State) : Done := ok (commitAlt (u8 p 0) (u8 p 1) log s)

def execDomainSetRef (o : Issue) (p : List Byte) (s : State) : Host.Outcome State Fault Refusal :=
  hostCommand 0x0503 o p (domainSetRefCheck o p) (domainSetRefDo p) s

/-- A change of rate is committed (R152). -/
def commitRate (d rate log : Nat) (s : State) : State :=
  let q := domGet s d
  if q.pendRate.getD q.rate = rate then s else domMod s d (fun q => { q with pendRate := some rate, pendLog := log })

def domainSetRateCheck (o : Issue) (p : List Byte) (s : State) : Option Nat :=
  firstRefusal
    [(!domainInChart s (u8 p 0) || !rateAllowed s (u8 p 0) (u8 p 1), stBadParam),
     (!canChange s o.ctx (0x0500 + u8 p 0), stNotOwner)]

def domainSetRateDo (p : List Byte) (log : Nat) (s : State) : Done := ok (commitRate (u8 p 0) (u8 p 1) log s)

def execDomainSetRate (o : Issue) (p : List Byte) (s : State) : Host.Outcome State Fault Refusal :=
  hostCommand 0x0504 o p (domainSetRateCheck o p) (domainSetRateDo p) s

/-- The rate that a domain has, or that is committed (R31). -/
def domainRate (s : State) (d : Nat) : Nat := (domGet s d).pendRate.getD (domGet s d).rate

def pllDisciplineCheck (p : List Byte) (s : State) : Option Nat :=
  firstRefusal
    [(decide (1 < u8 p 0) || decide (2 < u8 p 2)
      || (u8 p 1 != 0xFF && (!domainOn s (u8 p 1) || family44 (codeHz (domainRate s (u8 p 1))) != (u8 p 0 == 1))),
      stBadParam)]

def pllDisciplineDo (p : List Byte) (log : Nat) (s : State) : Done :=
  ok (pllMod s (u8 p 0) (fun q => { q with pending := some (u8 p 1, u8 p 2, log) }))

def execPllDiscipline (o : Issue) (p : List Byte) (s : State) : Host.Outcome State Fault Refusal :=
  hostCommand 0x0505 o p (pllDisciplineCheck p) (pllDisciplineDo p) s

/-- Enabled channels of an engine in the Near bank: channel and convoy. -/
def engineChannels (s : State) (e : Nat) : List (Nat × Nat) :=
  (s.cs.near.asrc.filter (fun x => x.1 / 16 == e && bit (u8 x.2 2) 0 && u8 x.2 0 != 0xFF)).map
    (fun x => (x.1 % 16, u8 x.2 0))

/-- No segment of the chart in force assigns a channel of the engine (R166). -/
def engineAbsent (s : State) (e : Nat) : Bool :=
  match s.cs.chart with
  | some c => !c.entries.any (fun x => x.kind == 8 && x.inst / 16 == e)
  | none => true

def asrcStatusCheck (p : List Byte) (s : State) : Option Nat :=
  firstRefusal [(decide (15 < u8 p 0) || engineAbsent s (u8 p 0), stBadParam)]

/-- The ratio of input rate to output rate in Q4.28, from the nominal rate and the measured offset; of a domain that has left
LOCKED, the last one (R156). -/
def ratioQ28 (s : State) (d : Nat) (egress : Bool) : Nat :=
  let q := domGet s d
  let r := if q.st = 2 then (q.rate, q.offset) else q.held.getD (q.rate, q.offset)
  let dom := ((codeHz r.1 : Int) * (100000000 + r.2)).toNat
  let fab := fabricHz s * 100000000
  if dom = 0 then 0
  else (divNear (((if egress then fab else dom) * 2 ^ 28 : Nat) : Int) (if egress then dom else fab)).toNat

def asrcStatusResult (p : List Byte) (s : State) : List Byte :=
  let chs := engineChannels s (u8 p 0)
  match chs with
  | [] => b1 0xFF ++ b1 0xFF ++ zeros 10
  | x :: _ =>
    let e := nearConvoy s x.2
    b1 (u8 e 1) ++ b1 (flag (convoyEgress e)) ++ b2 (maskOf (chs.map (·.1)))
      ++ b4 (ratioQ28 s (u8 e 1) (convoyEgress e)) ++ zeros 4

def execAsrcStatus (o : Issue) (p : List Byte) (s : State) : Host.Outcome State Fault Refusal :=
  hostCommand 0x0506 o p (asrcStatusCheck p) (reads (asrcStatusResult p)) s

end Sys2Proof.Machine
end

