-- ==== Sys2Proof/Machine/Convoys.lean ====
section
/-! DEFINITION. Convoys and their members: samples that arrive and are read, fades, lockstep, resync points
(chapter 7, R158 to R167). -/

namespace Sys2Proof.Machine

/-! ## Members -/

/-- A member of a timed kind: an AVTP stream of port 2 (R159). -/
def memberTimed (s : State) (k m : Nat) : Bool := (memberOf (nearConvoy s k) m).1 == 2

def convoyDepth (s : State) (k : Nat) : Nat := u16 (nearConvoy s k) 4
def convoyNominal (s : State) (k : Nat) : Nat := u16 (nearConvoy s k) 6

/-- The member exists in a convoy of the Near bank. -/
def memberOn (s : State) (k m : Nat) : Bool := convoyOn s k && decide (m < convoyMembers (nearConvoy s k))

/-- Members that are RUNNING or in FADE_IN. -/
def soundingMembers (s : State) (k : Nat) : List Nat :=
  (List.range (convoyMembers (nearConvoy s k))).filter (fun m => (memGet s k m).st ∈ [2, 3])

/-- A member starts to fade out from its present level (R160, R163). -/
def startFadeOut (k m : Nat) (s : State) : State :=
  memMod s k m (fun q => { q with st := 4, fade := 0, start := if q.st = 3 then unity else q.level })

/-- A member starts to fade in. -/
def startFadeIn (k m : Nat) (s : State) : State :=
  memMod s k m (fun q => { q with st := 2, fade := 0, start := 0, level := 0 })

/-- The members that go with one that fades out: in lockstep, every one that sounds (R163). -/
def fadeGroup (s : State) (k m : Nat) : List Nat :=
  if (convGet s k).lockstep then withElem m (soundingMembers s k) else [m]

/-- A member falls out: its group fades out, and CONVOY_MUTED is posted. -/
def dropMember (k m cause : Nat) (s : State) : State :=
  let g := fadeGroup s k m
  postMuted k (maskOf g) cause 0 (g.foldl (fun t x => startFadeOut k x t) s)

/-- The member is ready (R161, R162): it fades in, or is HELD in lockstep. -/
def memberReady (k m : Nat) (s : State) : State :=
  if (convGet s k).lockstep then memMod s k m (fun q => { q with st := 7 }) else startFadeIn k m s

/-- Words of a sample that no one supplied: free, one for each channel. -/
def freeWords (n : Nat) (s : State) : List (BitVec 32) × State :=
  ((List.range n).map (fun i => Config.reading (s.free + i)), { s with free := s.free + n })

/-- The port of a member runs: it leaves IDLE (R165). In DOZE and SLEEP it does so at the return to ACTIVE (R376). -/
def startMember (k m : Nat) (s : State) : State :=
  if s.pwr.dev = .doze ∨ s.pwr.dev = .sleep then s
  else memMod s k m (fun q => if q.st = 0 then { Member.idle with st := 1 } else { q with toIdle := false })

/-- The port of a member stops (R165): IDLE after FADE_OUT. -/
def stopMember (k m : Nat) (s : State) : State :=
  let q := memGet s k m
  if q.st = 0 then s
  else if q.st = 2 ∨ q.st = 3 then
    let g := fadeGroup s k m
    memMod (g.foldl (fun t x => startFadeOut k x t) s) k m (fun q => { q with toIdle := true })
  else if q.st = 4 then memMod s k m (fun q => { q with toIdle := true })
  else memMod s k m (fun _ => Member.idle)

/-- Start the members that a port and sub-index fill. -/
def startMembers (port sub : Nat) (egress : Bool) (s : State) : State :=
  (membersOf s.cs.near port sub egress).foldl (fun t x => startMember x.1 x.2 t) s

/-- A member underruns for a reason of its port (R307, S/PDIF lock loss). A mute that R156 has started is not started
again (R165). -/
def portUnderrun (port sub : Nat) (s : State) : State :=
  (membersOf s.cs.near port sub false).foldl (fun t x =>
    if (memGet t x.1 x.2).st ∈ [2, 3] then
      let u := convCount x.1 0 t
      if (convGet u x.1).mute = 0 then dropMember x.1 x.2 1 u else u
    else t) s

/-! ## Arrival (R159, R160, R162) -/

/-- The earliest sample that a timed member in ALIGNING holds lies more than DEPTH ahead of the timeline (R162). -/
def tooFarAhead (s : State) (k : Nat) (q : Member) : Bool :=
  !q.fifo.isEmpty && q.fifo.all (fun x => decide ((convGet s k).index + convoyDepth s k < x.1))

/-- A member discards what it holds and is BLOCKED until the next resync point (R162). -/
def blockMember (k m : Nat) (s : State) : State :=
  postMuted k (2 ^ m) 4 0 (convCount k 3 (memMod s k m (fun q => { q with st := 6, fifo := [] })))

/-- A sample goes into a member's FIFO; a timed member that aligns looks at the earliest it holds. -/
def holdSample (k m index : Nat) (timed : Bool) (sample : List (BitVec 32)) (s : State) : State :=
  let t := memMod s k m (fun q => { q with fifo := q.fifo ++ [(if timed then index else q.fifo.length, sample)] })
  if timed && (memGet t k m).st == 1 && tooFarAhead t k (memGet t k m) then blockMember k m t else t

/-- A sample arrives: late and overflowing ones are discarded, an untimed one goes behind the others, a timed
one to its index. The write side of an egress convoy does not overflow (R164). From the end of the mute of R156 until
relock the FIFOs stay empty. -/
def sampleArrives (k m index : Nat) (sample : List (BitVec 32)) (s : State) : State :=
  let q := memGet s k m
  let c := convGet s k
  let timed := memberTimed s k m && !convoyEgress (nearConvoy s k)
  if c.mute = 2 then s
  else if timed && decide (index < c.index) then convCount k 2 s
  else if !convoyEgress (nearConvoy s k) && decide (convoyDepth s k ≤ q.fifo.length) then
    if q.st = 2 ∨ q.st = 3 then dropMember k m 2 (convCount k 1 s) else s
  else if timed && q.st == 6 then s
  else holdSample k m index timed sample s

/-- What is held for a member that no swap has added yet. -/
def earlyOf (c : Convoy) (key : Nat × Nat × Nat × Nat) : List (List (BitVec 32)) :=
  ((c.early.find? (fun x => x.1 == key)).map (·.2)).getD []

/-- A sample of a port before the swap that adds its member is held, up to the DEPTH of the convoy's entry e, for that swap
(R80, R165). -/
def earlySample (k m : Nat) (e : List Byte) (sample : List (BitVec 32)) (s : State) : State :=
  let key := (m, memberOf e m)
  convMod s k (fun c =>
    if u16 e 4 ≤ (earlyOf c key).length then c
    else { c with early := (key, earlyOf c key ++ [sample]) :: c.early.filter (fun x => x.1 != key) })

/-- An entry of the chart joins an untimed ingress member of an enabled port to convoy k, and no swap has added it yet. -/
def memberAwaits (s : State) (k m : Nat) (e : List Byte) : Bool :=
  bit (u8 e 0) 0 && !convoyEgress e && (memberOf e m).1 != 2 && portEnabled s (memberOf e m).1
    && !(memberOn s k m && memberOf (nearConvoy s k) m == memberOf e m)

/-- The members that wait for a swap: convoy, member number and the convoy's entry. -/
def waitingMembers (s : State) : List (Nat × Nat × List Byte) :=
  match s.cs.chart with
  | none => []
  | some c => (c.entries.filter (fun x => x.kind == 9 && decide (64 ≤ x.inst) && decide (x.inst < 192))).flatMap (fun x =>
      ((List.range (convoyMembers x.bytes)).filter (fun m => memberAwaits s (x.inst - 64) m x.bytes)).map
        (fun m => (x.inst - 64, m, x.bytes)))

/-- A sample of a port and sub-index: to the members of convoys that are in service, and of those that wait. -/
def portSample (port sub : Nat) (sample : List (BitVec 32)) (s : State) : State :=
  let s1 := (membersOf s.cs.near port sub false).foldl (fun t x =>
    if (memGet t x.1 x.2).st = 0 then t else sampleArrives x.1 x.2 0 sample t) s
  ((waitingMembers s).filter (fun x => (memberOf x.2.2 x.2.1).1 == port && (memberOf x.2.2 x.2.1).2.1 == sub)).foldl
    (fun t x => earlySample x.1 x.2.1 x.2.2 sample t) s1

/-- One channel of what went into the rate stage, newest first. -/
def stageInput (hist : List (List (BitVec 32) × BitVec 32)) (c : Nat) : List (BitVec 32) :=
  hist.map (fun h => BitVec.ofInt 32 (mulQ27 (h.1.getD c 0).toInt h.2.toInt))

/-- A sample out of the rate stage (R155): 0 where only zeros have gone in, one word within the ripple of Table 7-8 where only
that word has, the word's rounding apart, else free but for what it depends on. -/
def stageSample (input : List (BitVec 32)) (ratio : Nat) (s : State) : BitVec 32 × State :=
  if input.all (· == 0) then (0, s)
  else
    let r := drawReading s
    let y := Config.rateStage input ratio r.1
    let x := input.headD 0
    let most : Int := x.toInt.natAbs * 57582 / 100000000 + 1
    (if input.length == 384 && input.all (· == x) then (satWord (clampInt (x.toInt - most) (x.toInt + most) y.toInt)).1 else y,
      r.2)

/-- A frame goes into the rate stage, which keeps twice its delay of 24 samples at 8:1 (R155). -/
def pushHist (words : List (BitVec 32)) (level : BitVec 32) (q : Member) : Member :=
  { q with
    hist := if level = 0 ∧ q.hist.all (fun h => h.2 == 0) then [] else ((words, level) :: q.hist).take 384
    fresh := q.fresh + 1 }

/-- What a read of an ingress member gives goes into the rate stage; what an egress member gives goes to its port. -/
def enterStage (s : State) (k : Nat) (words : List (BitVec 32)) (level : BitVec 32) (q : Member) : Member :=
  if convoyEgress (nearConvoy s k) then q else pushHist words level q

/-- The rate stage writes a sample of an egress member at the domain's rate (R155, R164). -/
def stageWrites (k m : Nat) (s : State) : State :=
  let ratio := ratioQ28 s (convoyDomain s k) true
  let r := (List.range (memberOf (nearConvoy s k) m).2.2).foldl (fun (acc : List (BitVec 32) × State) c =>
    let x := stageSample (stageInput (memGet s k m).hist c) ratio acc.2
    (acc.1 ++ [x.1], x.2)) ([], s)
  sampleArrives k m 0 r.1 r.2

/-- R160: a sample arrives at a member whose port runs, or at one that waits for its swap. What reaches an egress member
through the rate stage is what the stage makes of the fabric's words. -/
def execMemberSampleArrival (c : Fin 128) (m : Fin 8) (index : Nat) (sample : List Word) (s : State) :
    Host.Outcome State Fault Refusal :=
  .next (
      if !(memberOn s c.val m.val && (memGet s c.val m.val).st != 0
          && sample.length == (memberOf (nearConvoy s c.val) m.val).2.2) then
        match (waitingMembers s).find? (fun x =>
            x.1 == c.val && x.2.1 == m.val && sample.length == (memberOf x.2.2 m.val).2.2) with
        | some x => earlySample c.val m.val x.2.2 sample s
        | none => s
      else if convoyEgress (nearConvoy s c.val) && !convoyBypass (nearConvoy s c.val) then stageWrites c.val m.val s
      else sampleArrives c.val m.val index sample s)

/-! ## Fades -/

/-- The last of the 32 samples has been read. -/
def fadeDue (q : Member) : Bool := (q.st == 2 || q.st == 4) && decide (32 ≤ q.fade)

/-- CONVOY_RESTORED when the last muted member is RUNNING again (R167). A muted member that goes IDLE keeps the others waiting
until it runs again (DESIGN CHOICE, log entry 122). -/
def checkRestored (k : Nat) (s : State) : State :=
  let ms := (convGet s k).toRestore
  if ms ≠ 0 ∧ (bitsOf ms 8).all (fun m => (memGet s k m).st == 3) then
    post 0x0506 k 0 ms (.res [0x0500 + convoyDomain s k]) (convMod s k (fun c => { c with toRestore := 0 }))
  else s

/-- R160: a fade in ends in RUNNING, a fade out in SILENT, or in IDLE where the port has stopped. -/
def fadeEnds (k m : Nat) (s : State) : State :=
  let q := memGet s k m
  if q.st = 2 then checkRestored k (memMod s k m (fun q => { q with st := 3, fade := 0, level := unity }))
  else if q.toIdle then memMod s k m (fun _ => Member.idle)
  else memMod s k m (fun q => { q with st := 5, fade := 0, level := 0, last := [] })

def execMemberFadeEnd (c : Fin 128) (m : Fin 8) (s : State) : Host.Outcome State Fault Refusal :=
  whenever (fun s => memberOn s c.val m.val && fadeDue (memGet s c.val m.val)) (fadeEnds c.val m.val) s

/-! ## Reads -/

/-- The oldest sample of an untimed member, or the timed one at the index; the rest stays held. -/
def takeSample (timed : Bool) (index : Nat) (f : List (Nat × List (BitVec 32))) :
    Option (List (BitVec 32)) × List (Nat × List (BitVec 32)) :=
  if timed then ((f.find? (fun x => x.1 == index)).map (·.2), f.filter (fun x => decide (index < x.1)))
  else match f with
    | [] => (none, [])
    | x :: r => (some x.2, r)

/-- The member reads its sample, with the next step of its fade. -/
def readSample (k m : Nat) (s : State) : State :=
  let q := memGet s k m
  let t := takeSample (memberTimed s k m && !convoyEgress (nearConvoy s k)) (convGet s k).index q.fifo
  let w := match t.1 with
    | some x => (x, s)
    | none => freeWords (memberOf (nearConvoy s k) m).2.2 s
  let fade := if q.st = 3 then 0 else q.fade + 1
  let level := if q.st = 3 then unity else gainRamp q.start (if q.st = 2 then unity else 0) fade 32
  memMod w.2 k m (fun q => enterStage s k w.1 level { q with fifo := t.2, last := w.1, fade := fade, level := level })

/-- Samples of an untimed member beyond NOMINAL are discarded, oldest first (R161). -/
def trimTo (n : Nat) (f : List (Nat × List (BitVec 32))) : List (Nat × List (BitVec 32)) := f.drop (f.length - n)

/-- An ALIGNING member looks whether it is ready (R161, R162); a convoy muted by R156 waits for the relock. -/
def tryAlign (k m : Nat) (s : State) : State :=
  let q := memGet s k m
  if (convGet s k).mute ≠ 0 then s
  else if memberTimed s k m && !convoyEgress (nearConvoy s k) then
    if tooFarAhead s k q then blockMember k m s
    else if q.fifo.any (fun x => x.1 == (convGet s k).index) then memberReady k m s else s
  else if decide (convoyNominal s k ≤ q.fifo.length) then
    memberReady k m (memMod s k m (fun q => { q with fifo := trimTo (convoyNominal s k) q.fifo }))
  else s

/-- A member that gives nothing at this index. -/
def readNothing (k m : Nat) (s : State) : State := memMod s k m (fun q => enterStage s k [] 0 { q with last := [], level := 0 })

/-- One read of an ingress member (R160 to R163). -/
def readMember (k m : Nat) (s : State) : State :=
  let s0 := if fadeDue (memGet s k m) then fadeEnds k m s else s
  let s1 := if (memGet s0 k m).st = 5 then memMod s0 k m (fun q => { q with st := 1, cont := none }) else s0
  let s2 := if (memGet s1 k m).st = 1 then tryAlign k m s1 else s1
  let q := memGet s2 k m
  match q.st with
  | 2 => readSample k m s2
  | 4 => readSample k m s2
  | 3 =>
    let s3 := readSample k m s2
    if (memGet s3 k m).fifo.length ≤ 32 ∧ (convGet s3 k).mute = 0 then dropMember k m 1 (convCount k 0 s3) else s3
  | 7 =>
    if memberTimed s2 k m then
      readNothing k m (memMod s2 k m (fun q => { q with fifo := q.fifo.filter (fun x => decide ((convGet s2 k).index < x.1)) }))
    else readNothing k m (memMod s2 k m (fun q => { q with fifo := trimTo (convoyNominal s2 k) q.fifo }))
  | _ => readNothing k m s2

/-- Lockstep: when every member that is not IDLE is HELD, all fade in at the next index; a timed member that
holds no sample for it keeps the convoy waiting (R163, R165). -/
def lockstepStart (k : Nat) (s : State) : State :=
  let ms := (List.range (convoyMembers (nearConvoy s k))).filter (fun m => (memGet s k m).st != 0)
  if (convGet s k).lockstep && !ms.isEmpty && ms.all (fun m =>
      (memGet s k m).st == 7 && (!memberTimed s k m || (memGet s k m).fifo.any (fun x => x.1 == (convGet s k).index))) then
    ms.foldl (fun t m => startFadeIn k m t) s
  else s

/-- The members whose reads the index waits for: those that are not IDLE, or all where every one is. -/
def indexMembers (s : State) (k : Nat) : Nat :=
  if activeMembers s k = 0 then 2 ^ convoyMembers (nearConvoy s k) - 1 else activeMembers s k

/-- When all of them have read, or written, the sample at the present index, the index advances (R159). -/
def settleIndex (k : Nat) (s : State) : State :=
  let c := convGet s k
  if c.read ≠ 0 ∧ c.read &&& indexMembers s k = indexMembers s k then
    lockstepStart k (convMod s k (fun c => { c with read := 0, index := c.index + 1 }))
  else s

/-- The member has read, or written, the sample at the present index. -/
def markRead (k m : Nat) (s : State) : State := settleIndex k (convMod s k (fun c => { c with read := c.read ||| 2 ^ m }))

/-- The member has not yet read at the present index. -/
def mayRead (s : State) (k m : Nat) (egress : Bool) : Bool :=
  memberOn s k m && convoyEgress (nearConvoy s k) == egress && !bit (convGet s k).read m

/-- The members that a port and sub-index fill stop; the index no longer waits for one that is IDLE. -/
def stopMembers (port sub : Nat) (egress : Bool) (s : State) : State :=
  (membersOf s.cs.near port sub egress).foldl (fun t x => settleIndex x.1 (stopMember x.1 x.2 t)) s

/-- R160: an ingress member reads at the timeline index. -/
def execMemberRead (c : Fin 128) (m : Fin 8) (s : State) : Host.Outcome State Fault Refusal :=
  whenever (fun s => mayRead s c.val m.val false) (fun s => markRead c.val m.val (readMember c.val m.val s)) s

/-- R164: a port takes a sample of an egress member; an empty FIFO gives zero samples, and the member is
SILENT until it has refilled to NOMINAL. In a LOCKSTEP convoy this leaves the other members RUNNING, since no FADE_OUT takes
place, and the member then waits in HELD for all of them (DESIGN CHOICE, log entry 122). -/
def takeEgress (k m : Nat) (s : State) : State :=
  let s0 := if fadeDue (memGet s k m) then fadeEnds k m s else s
  let s1 := if (memGet s0 k m).st = 5 then memMod s0 k m (fun q => { q with st := 1, cont := none }) else s0
  let s2 := if (memGet s1 k m).st = 1 then tryAlign k m s1 else s1
  let q := memGet s2 k m
  if q.st ∈ [2, 3, 4] then
    if q.fifo.isEmpty then
      readNothing k m (postMuted k (2 ^ m) 1 0 (convCount k 0 (memMod s2 k m (fun q =>
        if q.toIdle then Member.idle else { q with st := 5, fade := 0 }))))
    else readSample k m s2
  else if q.st = 7 then readNothing k m (memMod s2 k m (fun q => { q with fifo := trimTo (convoyNominal s2 k) q.fifo }))
  else readNothing k m s2

/-- A sample of a float or integer format under the ramp of its member; a float in a ramp is free. -/
def rampSample (float : Bool) (level w : BitVec 32) (s : State) : BitVec 32 × State :=
  if level = unity then (w, s)
  else if level = 0 then (0, s)
  else if float then drawReading s
  else (BitVec.ofInt 32 (mulQ27 w.toInt level.toInt), s)

/-- The sample that a member gives its port: zeros when it does not sound. -/
def memberSample (float : Bool) (k m : Nat) (s : State) : List (BitVec 32) × State :=
  let q := memGet s k m
  let n := (memberOf (nearConvoy s k) m).2.2
  (List.range n).foldl (fun acc i =>
    let r := rampSample float q.level (q.last.getD i 0) acc.2
    (acc.1 ++ [r.1], r.2)) ([], s)

/-- R162: at a resync point the BLOCKED members of a convoy return to ALIGNING. -/
def execResyncPoint (c : Fin 128) (s : State) : Host.Outcome State Fault Refusal :=
  whenever (fun s => convoyOn s c.val && (convGet s c.val).index % 2 ^ u8 (nearConvoy s c.val) 3 == 0)
    (fun s => convMod s c.val (fun q => { q with members := tmapKeys Member.idle q.members (fun _ m =>
      if m.st = 6 then { m with st := 1, cont := none } else m) })) s

/-- R156: the mute ramp is over; until relock the sources read 0, and the FIFOs are empty. -/
def execConvoyMuteRampEnd (c : Fin 128) (s : State) : Host.Outcome State Fault Refusal :=
  whenever (fun s => (convGet s c.val).mute == 1 && decide (32 < (convGet s c.val).muteK))
    (fun s => settleIndex c.val <| convMod s c.val (fun q => { q with mute := 2, members := tmapKeys Member.idle q.members (fun _ m =>
      if m.st = 0 then m else if m.toIdle then Member.idle
      else { m with st := 5, fifo := [], fade := 0, level := 0, last := [], hist := [] }) })) s

/-! ## Modes, swaps, ticks -/

/-- CONVOY_SET_MODE at the tick (R163). -/
def takeMode (s : State) (k : Nat) : State :=
  match (convGet s k).pendMode with
  | none => s
  | some up =>
    let s1 := convMod s k (fun c => { c with pendMode := none, lockstep := up })
    let ms := List.range (convoyMembers (nearConvoy s k))
    if up = (convGet s k).lockstep then s1
    else if up then
      if ms.all (fun m => (memGet s k m).st == 3) then s1
      else
        let g := soundingMembers s1 k
        convMod (g.foldl (fun t m => startFadeOut k m t) s1) k (fun c => { c with toRestore := c.toRestore ||| maskOf g })
    else (ms.filter (fun m => (memGet s k m).st == 7)).foldl (fun t m => startFadeIn k m t) s1

/-- What a tick does to a convoy: a mode takes force, and the mute ramp of R156 advances. -/
def tickConvoy (s : State) (k : Nat) : State :=
  let s1 := takeMode s k
  if (convGet s1 k).mute = 1 then convMod s1 k (fun c => { c with muteK := c.muteK + 1 }) else s1

/-- A member whose port runs starts at the swap that adds it (R165): an untimed ingress member for which NOMINAL samples are
held fades in on them, any other aligns. -/
def swapMember (k m : Nat) (s : State) : State :=
  let q := memGet s k m
  if s.pwr.dev = .doze ∨ s.pwr.dev = .sleep then s
  else if q.st ≠ 0 then startMember k m s
  else
    let l := if (convGet s k).mute = 0 then earlyOf (convGet s k) (m, memberOf (nearConvoy s k) m) else []
    let f := (List.range l.length).map (fun i => (i, l.getD i []))
    let s1 := memMod s k m (fun _ => { Member.idle with st := 1, fifo := f })
    if memberTimed s1 k m || convoyEgress (nearConvoy s1 k) then s1 else tryAlign k m s1

/-- An entry without its reserved bits (R5, Table 7-9). -/
def convoyShape (e : List Byte) : List Nat :=
  [u8 e 0 % 16, u8 e 1, u8 e 2, u8 e 3, u16 e 4, u16 e 6, u16 e 40]
    ++ (List.range (convoyMembers e)).flatMap (fun m => [u8 e (8 + 4 * m), u8 e (9 + 4 * m), u8 e (10 + 4 * m)])

/-- What stays of a convoy whose entry changes from e to f: its timeline, the members that both have, and the mute of R156 where
the domain and BYPASS are the same. -/
def keptConvoy (e f : List Byte) (fresh : Nat) (c : Convoy) : Convoy :=
  let kept := c.members.filter (fun x => decide (x.1 < convoyMembers f) && memberOf e x.1 == memberOf f x.1)
  let same := u8 e 1 == u8 f 1 && convoyBypass e == convoyBypass f
  { c with lockstep := bit (u8 f 0) 1, members := kept, toRestore := c.toRestore &&& maskOf (kept.map (·.1))
           read := c.read &&& maskOf (kept.map (·.1)), mute := if same then c.mute else fresh, muteK := if same then c.muteK else 0 }

/-- Convoys after a swap (R165): one that is new starts, one that changes keeps the members that it still has, and one that is
gone leaves from whatever state it is in, its FIFOs discarded (R80). `running` tells whether a member's port runs. -/
def swapConvoy (old : Bank) (running : Nat → Nat → Bool → Bool) (s : State) (k : Nat) : State :=
  let was := bit (u8 (convoyEntry old k) 0) 0
  let now := convoyOn s k
  let e := nearConvoy s k
  if !now then
    (if was then convMod s k (fun c => { Convoy.absent with counts := c.counts, pendMode := c.pendMode, early := c.early }) else s)
  else if was && convoyShape (convoyEntry old k) == convoyShape e then s
  else
    let fresh := if convoyBypass e || (domGet s (u8 e 1)).st == 2 then 0 else 2
    let s1 := convMod s k (fun c =>
      if was then keptConvoy (convoyEntry old k) e fresh c
      else { Convoy.absent with
        lockstep := bit (u8 e 0) 1, counts := c.counts, pendMode := c.pendMode, early := c.early, mute := fresh })
    let s2 := (List.range (convoyMembers e)).foldl (fun t m =>
      let q := memberOf e m
      if running q.1 q.2.1 (convoyEgress e) then swapMember k m t else t) s1
    let added := (List.range (convoyMembers e)).map (fun m => (m, memberOf e m))
    settleIndex k (convMod s2 k (fun c => { c with early := c.early.filter (fun x => !decide (x.1 ∈ added)) }))

/-! ## Commands -/

/-- A convoy of the chart in force, whether or not its overlay is in service. One whose entry has ENABLED clear counts as absent
(DESIGN CHOICE, log entry 122). -/
def convoyInChart (s : State) (k : Nat) : Bool := decide (k < 128) && bit (u8 (anyEntry s (64 + k)) 0) 0

def convoyStatusCheck (p : List Byte) (s : State) : Option Nat :=
  firstRefusal [(!convoyInChart s (u8 p 0) || decide (1 < u8 p 1), stBadParam)]

/-- FLAGS with the mode in force or committed; the reserved bits read 0 (R5). -/
def convoyFlags (s : State) (k : Nat) : Nat :=
  let f := u8 (anyEntry s (64 + k)) 0 % 16
  let c := convGet s k
  f - 2 * flag (bit f 1) + 2 * flag (c.pendMode.getD (if convoyOn s k then c.lockstep else bit f 1))

/-- CONVOY_STATUS: with the clear bit this context's counters start anew (R166). -/
def convoyStatusDo (o : Issue) (p : List Byte) (_ : Nat) (s : State) : Done :=
  let k := u8 p 0
  let e := anyEntry s (64 + k)
  let c := convGet s k
  let n := 8 * ctxNum o.ctx
  okWith (b1 (u8 e 1) ++ b1 (convoyFlags s k) ++ b1 (convoyMembers e) ++ zeros 1
      ++ (List.range 8).flatMap (fun m => b1 (if m < convoyMembers e then (memGet s k m).st else 0xFF))
      ++ b4 c.index ++ (List.range 5).flatMap (fun i => b4 (tget 0 c.counts (n + i))))
    (if u8 p 1 = 1 then convMod s k (fun c => { c with counts := (List.range 5).foldl (fun t i => tset 0 t (n + i) 0) c.counts })
      else s)

def execConvoyStatus (o : Issue) (p : List Byte) (s : State) : Host.Outcome State Fault Refusal :=
  hostCommand 0x0507 o p (convoyStatusCheck p) (convoyStatusDo o p) s

def convoySetModeCheck (o : Issue) (p : List Byte) (s : State) : Option Nat :=
  firstRefusal
    [(!convoyInChart s (u8 p 0) || decide (1 < u8 p 1), stBadParam),
     (!canChange s o.ctx (0x0500 + u8 (anyEntry s (64 + u8 p 0)) 1), stNotOwner)]

/-- R163: the next tick takes the mode; of a convoy that is not in service, the first tick after its swap (log entry 100). -/
def convoySetModeDo (p : List Byte) (_ : Nat) (s : State) : Done :=
  ok (convMod s (u8 p 0) (fun c => { c with pendMode := some (u8 p 1 == 1) }))

def execConvoySetMode (o : Issue) (p : List Byte) (s : State) : Host.Outcome State Fault Refusal :=
  hostCommand 0x0508 o p (convoySetModeCheck o p) (convoySetModeDo p) s

end Sys2Proof.Machine
end

