-- ==== Sys2Proof/Machine/Capture.lean ====
section
/-! DEFINITION. Capture: channels, PGA, DC blockers, mic bias commands, relay calibration, threshold
detectors and overload (chapter 8). Channels 0 to 7 are IN0 to IN7, 8 + 2p + m microphone m of PDMp. -/

namespace Sys2Proof.Machine

/-! ## Channels and their port entries -/

/-- KIND 0x09 instance of a channel's port (R195). -/
def capInst (ch : Nat) : Nat := if ch < 8 then 17 + ch else 11 + (ch - 8) / 2

def capMic (ch : Nat) : Nat := (ch - 8) % 2

/-- Fields of a port entry that concern a channel (Tables 8-9, 8-10). -/
def capBerth (e : List Byte) (ch : Nat) : Nat := if ch < 8 then u16 e 6 else u16 e (6 + 2 * capMic ch)
def capTrim (e : List Byte) (ch : Nat) : Int := if ch < 8 then s16 e 8 else s16 e (10 + 2 * capMic ch)
def capDcb (e : List Byte) (ch : Nat) : Nat := if ch < 8 then u8 e 4 else u8 e 3
def capFrozen (e : List Byte) (ch : Nat) : Bool := if ch < 8 then bit (u8 e 0) 2 else bit (u8 e 0) (3 + capMic ch)
def capResponse (e : List Byte) (ch : Nat) : Nat := if ch < 8 then u8 e 3 else u8 e 2

/-- The port is enabled, and a microphone's own bit is set (R189). -/
def capRuns (e : List Byte) (ch : Nat) : Bool :=
  bit (u8 e 0) 0 && (decide (ch < 8) || bit (u8 e 0) (1 + capMic ch))

def capEntry (s : State) (ch : Nat) : List Byte := entryOf s (capInst ch)

/-- Resource of a channel's port (R195). -/
def capResource (ch : Nat) : Nat := 0x0100 + capInst ch

/-! ## The DC blocker (R186) -/

/-- An exact quotient, or one whose last place is free where it is not exact (log entry 43). -/
def freeDiv (x : Int) (d : Nat) (s : State) : Int × State :=
  if x % (d : Int) = 0 then (x / (d : Int), s)
  else
    let r := drawRound s
    (x / (d : Int) + (if r.1 then 1 else 0), r.2)

/-- Corner in mHz: 0.5, 1, 2, 4 or 8 Hz. -/
def dcbCorner (code : Nat) : Nat := 250 * 2 ^ code

/-- α × 2^80, with α = 1 − exp(−2π fc / fs). -/
def dcbAlpha (code hz : Nat) : Nat := 2 ^ 80 - expNegRatio (dcbCorner code * 6283185307179586) (hz * 10 ^ 18)

/-- One word through the blocker: what it delivers, whether it saturated, and the state with its estimate. -/
def dcBlock (ch : Nat) (x : Word) (s : State) : (Word × Bool) × State :=
  let c := capGet s ch
  if c.dcb = 0 then ((x, false), s)
  else
    let y := freeDiv (x.toInt * 65536 - c.e) 65536 s
    let out := satWord y.1
    if c.hostFreeze || c.relayFreeze then (out, y.2)
    else
      let d := freeDiv ((x.toInt * 65536 - c.e) * dcbAlpha c.dcb (fabricHz s)) (2 ^ 80) y.2
      (out, capMod d.2 ch (fun c => { c with e := clampInt (-(2 ^ 47)) (2 ^ 47 - 1) (c.e + d.1) }))

/-! ## Relay calibration (R176 to R183) -/

def relayMod (s : State) (f : Relay → Relay) : State := { s with cap := { s.cap with relay := f s.cap.relay } }

def modGet (s : State) (m : Nat) : Modulator := tget Modulator.factory s.cap.mods m

def modMod (s : State) (m : Nat) (f : Modulator → Modulator) : State :=
  { s with cap := { s.cap with mods := tmod Modulator.factory s.cap.mods m f } }

/-- Modulator that serves an input (R176). -/
def servedBy (s : State) (k : Nat) : Nat := tget 0 s.cap.relay.map k

/-! ## The capture chain (R168) -/

/-- Gain, offset and delay corrections of a modulator: its own, or the factory's (R176, R178). -/
def modGain (q : Modulator) (m : Nat) : Int := if q.calibrated then q.gain else (Config.factory (16 + 3 * m)).toInt
def modOffset (q : Modulator) (m : Nat) : Int := if q.calibrated then q.offset else (Config.factory (17 + 3 * m)).toInt
def modDelay (q : Modulator) (m : Nat) : Int :=
  if q.delaySet then q.delay else signed 16 ((Config.factory (18 + 3 * m)).toNat % 65536)

/-- Samples that a chain keeps: more than twice the longest group delay of Table 8-6. -/
def chainLength : Nat := 128

/-- Elements 4 to 6 of Table 8-1: the modulator and its sinc stage convert the signal at the relief tap, and the correction
stage scales and shifts it. -/
def chainFeed (m : Nat) (tap : Word) (s : State) : State :=
  let r := drawReading s
  modMod r.2 m (fun q =>
    let x := divNear ((Config.modulator m tap r.1).toInt * (100000000 + modGain q m)) 100000000 + modOffset q m
    { q with hist := ((satWord x).1 :: q.hist).take chainLength })

/-- The passband ripple of a response at DC (Table 8-6), as a part of the word in 10^−8, rounded up. -/
def responseRipple (response : Nat) : Nat := [57582, 115196, 57582, 115196, 115196, 230524, 1157946, 11514].getD response 0

/-- Elements 7 and 8: the delay equaliser, whose common padding all chains share, and the response. A delay beside the padding
moves the chain by its whole fabric periods (R190), and the rest of it goes with the response. A chain at zero state gives 0,
one full of ones or of zeros gives the word of that density (R185, R188), and one full of one word gives it within the ripple of
Table 8-6 at DC, the word's rounding apart. -/
def chainOut (response : Nat) (delay : Int) (hist : List (BitVec 32)) (s : State) : Word × State :=
  let full := fun (w : Word) => hist.length == chainLength && hist.all (· == w)
  if hist.all (· == 0) then (0, s)
  else if full 0x08000000 then (0x08000000, s)
  else if full 0xF8000000 then (0xF8000000, s)
  else
    let r := drawReading s
    let whole := delay.toNat / 65536
    let y := Config.captureFilter response (delay - 65536 * (whole : Int)) (hist.drop whole) r.1
    let x := hist.headD 0
    let most : Int := x.toInt.natAbs * responseRipple response / 100000000 + 1
    (if full x then (satWord (clampInt (x.toInt - most) (x.toInt + most) y.toInt)).1 else y, r.2)

/-- R190: the chain at the channel's trim, or in the crossfade from the old delay to the new. -/
def trimmedOut (response : Nat) (c : Capture) (corr : Int) (hist : List (BitVec 32)) (s : State) : Word × State :=
  let new := chainOut response (64 * c.trim + corr) hist s
  if c.trimK = 0 ∨ 64 < c.trimK then new
  else
    let old := chainOut response (64 * c.trimOld + corr) hist new.2
    (BitVec.ofInt 32 (rneDiv (old.1.toInt * (64 - c.trimK : Nat) + new.1.toInt * (c.trimK : Nat)) 64), old.2)

/-- One modulator's chain for input `ch`, up to and with the DC blocker. -/
def modulatorWord (ch m : Nat) (s : State) : (Word × Bool) × State :=
  let q := modGet s m
  let r := trimmedOut (capResponse (entryOf s (capInst ch)) ch) (capGet s ch) (modDelay q m) q.hist s
  dcBlock ch r.1 r.2

/-- The PGA's gain on the signal between the pins (R171): CODE × 0.5 dB, as twice CODE × 0.25 dB. -/
def pgaSignal (code : Nat) (x : Word) : Word :=
  let g : Int := dbWord (25 * (code : Int))
  (satWord (mulQ27 (mulQ27 x.toInt g) g)).1

/-- The relief serves the input beside its modulator: from beat 3 on (Table 8-4). -/
def reliefOn (s : State) (k : Nat) : Option Nat :=
  if s.cap.relay.input = k ∧ 3 ≤ s.cap.relay.beat then s.cap.relay.relief else none

/-- An analogue channel: its modulator's chain, with the relief's beside it, and the mixture of beat 8 (R178). -/
def analogueWord (ch : Nat) (pins : Word) (s : State) : (Word × Bool) × State :=
  let tap := pgaSignal (capGet s ch).pga pins
  let mo := servedBy s ch
  let s1 := chainFeed mo tap s
  match reliefOn s ch with
  | none => modulatorWord ch mo s1
  | some mr =>
    let a := modulatorWord ch mo (chainFeed mr tap s1)
    if s.cap.relay.beat = 8 then
      let b := modulatorWord ch mr a.2
      let j := min s.cap.relay.crossK 64
      ((BitVec.ofInt 32 (rneDiv (a.1.1.toInt * (64 - j : Nat) + b.1.1.toInt * (j : Nat)) 64), a.1.2 || b.1.2), b.2)
    else a

/-- The places in a fabric period, in periods of the fabric PLL, where a microphone is sampled (R187, R188): microphone A
after each falling edge of PDMn_CLK, B after each rising one, SAMPLE_DELAY later. A rising edge stands at the tick. -/
def pdmPlaces (e : List Byte) (ch steps : Nat) : List Nat :=
  let osr := 16 * 2 ^ u8 e 1
  let cycle := steps / osr
  (List.range osr).map (fun j => j * cycle + (if capMic ch = 0 then cycle / 2 else 0) + u8 e 4)

/-- Periods of the fabric PLL in a fabric period: 98.304 MHz, or 90.3168 MHz (R144). -/
def pllSteps (hz : Nat) : Nat := if hz = 0 then 0 else (if hz % 11025 = 0 then 90316800 else 98304000) / hz

/-- R188: the density of ones at the sampling places, from −2^27 to +2^27. `line` is PDMn_DAT in each period of the PLL. -/
def pdmDensity (e : List Byte) (ch steps : Nat) (line : List Bool) : Word :=
  let places := pdmPlaces e ch steps
  let ones := (places.filter (fun i => line.getD i false)).length
  BitVec.ofInt 32 (2 ^ 27 * (2 * (ones : Int) - places.length) / (places.length : Int))

/-- A PDM channel, up to and with the DC blocker. -/
def pdmWord (ch : Nat) (line : List Bool) (s : State) : (Word × Bool) × State :=
  let e := entryOf s (capInst ch)
  let x := pdmDensity e ch (pllSteps (fabricHz s)) line
  let s1 := capMod s ch (fun c => { c with hist := (x :: c.hist).take chainLength })
  let r := trimmedOut (capResponse e ch) (capGet s1 ch) 0 (capGet s1 ch).hist s1
  dcBlock ch r.1 r.2

/-- A channel's word lands as 0 while it is silent or its microphone is disabled (R174, R185, R189). -/
def captureGate (ch : Nat) (w : Word) (s : State) : Word :=
  if capRuns (capEntry s ch) ch && (capGet s ch).silent == 0 then w else 0

/-- What a channel gives its ingress FIFO in a period (R168), under its fade-in: from the signal between the pins of an
analogue input, at the full scale of its mode (Table 8-2), or from PDMn_DAT. -/
def captureWord (ch : Nat) (pins : Word) (line : List Bool) (s : State) : (Word × Bool) × State :=
  if !capRuns (capEntry s ch) ch then ((0, false), s)
  else
    let r := if ch < 8 then analogueWord ch pins s else pdmWord ch line s
    let c := capGet s ch
    if c.silent ≠ 0 then ((0, false), r.2)
    else if c.fadeK < 64 then
      (((BitVec.ofInt 32 (mulQ27 r.1.1.toInt (gainRamp 0 unity c.fadeK 64).toInt)), r.1.2), r.2)
    else r

/-! ## Eligibility and steps -/

/-- An input is eligible: enabled in the Near bank, RELAY_ALLOWED and not suspended (R177). -/
def relayEligible (s : State) (k : Nat) : Bool :=
  portEnabled s (17 + k) && bit (u8 (entryOf s (17 + k)) 0) 1 && !bit s.cap.relay.suspended k

/-- The step is in beats 1 to 6 on this input; in beats 7 to 9 on it. -/
def relayEarly (s : State) (k : Nat) : Bool :=
  s.cap.relay.input == k && decide (1 ≤ s.cap.relay.beat) && decide (s.cap.relay.beat ≤ 6)
def relayLate (s : State) (k : Nat) : Bool := s.cap.relay.input == k && decide (7 ≤ s.cap.relay.beat)

/-- A relay event (R196). -/
def postRelay (code inst data : Nat) (s : State) : State := post code inst 0 data (.res [0x0900]) s

/-- The rotation is over, and RELAY_ROTATION_DONE says with how many steps. -/
def endRotation (completed : Bool) (s : State) : State :=
  let r := s.cap.relay
  postRelay 0x0903 0 (r.stepsDone + 256 * r.trigger)
    (relayMod s (fun r => { r with rotating := false, todo := [], beat := 0, held := false,
                                   rotations := if completed then (r.rotations + 1) % 2 ^ 32 else r.rotations }))

/-- A modulator has the corrections of its own VREFCAL calibration alone, and the factory's delay (R178, R181). -/
def vrefcalOnly (q : Modulator) : Modulator :=
  if q.calibrated then { q with gain := q.calGain, offset := q.calOffset, delay := 0, delaySet := false } else q

/-- A step ends before beat 8 (R181): the relief stays, with its calibration when beat 2 has passed. -/
def endStep (s : State) : State :=
  let t := match s.cap.relay.relief with
    | some m => if 3 ≤ s.cap.relay.beat then modMod s m vrefcalOnly else s
    | none => s
  relayMod t (fun r => { r with beat := 0, early := (r.early + 1) % 2 ^ 32, toVerify := false,
                                calibratedRelief := r.calibratedRelief || decide (3 ≤ r.beat) })

/-- A step on input k ends with RELAY_STEP_ABORTED (Table 8-12). -/
def abortStep (cause : Nat) (s : State) : State :=
  postRelay 0x0902 s.cap.relay.input (cause + 256 * s.cap.relay.relief.getD 0xFF) (endStep s)

/-- Table 8-5: the window in progress and its settle restart; the third restart in a step ends it. -/
def relayDisturb (k : Nat) (s : State) : State :=
  if !relayEarly s k then s
  else if s.cap.relay.beat = 4 ∨ s.cap.relay.beat = 6 then
    if s.cap.relay.restarts = 2 then abortStep 3 s
    else relayMod s (fun r => { r with beat := 3, restarts := r.restarts + 1, toVerify := decide (r.beat = 6) })
  else s

/-- SHELTER ends a step of beats 1 to 6; the rotation resumes with the same input (Table 8-5). -/
def relayShelter (s : State) : State :=
  if relayEarly s s.cap.relay.input then
    relayMod (abortStep 4 s) (fun r => { r with todo := r.input :: r.todo, held := true })
  else s

/-- DOZE or SLEEP ends a step of beats 1 to 6 and the rotation (Table 8-5). -/
def relayRest (s : State) : State :=
  if !s.cap.relay.rotating then s
  else if relayLate s s.cap.relay.input then s
  else endRotation false (if relayEarly s s.cap.relay.input then abortStep 6 s else s)

/-- A swap that takes away or changes the entry of the input in step (Table 8-5). -/
def relaySwap (changed : List Nat) (s : State) : State :=
  if changed.any (relayEarly s) then abortStep 5 s else s

/-- R177: a rotation starts; one with no eligible input ends at once. -/
def startRotation (trigger : Nat) (t22 : Int) (s : State) : State :=
  let t := relayMod s (fun r => { r with rotating := true, trigger := trigger, stepsDone := 0, beat := 0,
                                         todo := List.range 8, startTemp := t22, started := true, calibratedRelief := false })
  if (List.range 8).any (relayEligible t) then t else endRotation true t

/-- R177: start-up delay, the 10-minute timer, or a check that finds CH22 more than 5.0 °C away. No rotation starts in
TEST or RECOVERY (R382), nor once DOZE or SLEEP has been requested (Table 8-5). -/
def execRelayRotationTrigger (trigger : Fin 3) (t22 : Int) (s : State) : Host.Outcome State Fault Refusal :=
  whenever (fun s => s.pwr.dev == .active && s.pwr.transition.isNone && s.cs.chart.isSome && !s.cap.relay.rotating && !s.cap.relay.stopped
      && (trigger != 2 || (s.cap.relay.started && decide (50 < (t22 - s.cap.relay.startTemp).natAbs))))
    (startRotation trigger.val t22) s

/-- R178 beats 1 and 10, R181: the next eligible input's step starts, at beat 3 when the relief keeps its
calibration; with none left the rotation ends. -/
def execRelayStepStart (s : State) : Host.Outcome State Fault Refusal :=
  whenever (fun s => s.cap.relay.rotating && s.cap.relay.beat == 0 && !s.pwr.shelter && fabricStates s)
    (fun s =>
      match s.cap.relay.todo.find? (relayEligible s) with
      | some k => relayMod s (fun r =>
          { r with input := k, beat := if r.calibratedRelief then 3 else 1, todo := r.todo.filter (fun i => decide (k < i)),
                   restarts := 0, failures := 0, toVerify := false, held := false })
      | none => endRotation true s) s

/-- R182: the relief is retired; with no relief left, relay calibration stops. The idle modulator of a disabled input never
becomes the relief, so that none is left then (DESIGN CHOICE, log entry 122). -/
def retireRelief (m cause : Nat) (s : State) : State :=
  let t := modMod s m (fun q => { q with retired := true })
  let u := endStep (relayMod t (fun r => { r with relief := none, stopped := true, calibratedRelief := false }))
  endRotation false (postRelay 0x0904 m cause (relayMod u (fun r => { r with calibratedRelief := false })))

/-- R182: what a VREFCAL calibration fails by, in the order of Table 8-12, 0 for nothing: an offset beyond 0.5 % of full
scale, a gain beyond ±0.5 dB (a correction in 0.01 ppm), noise above −110 dBFS (in 0.01 dBFS). -/
def vrefcalFailure (gain offset noise : Int) : Nat :=
  if 671088 < offset.natAbs then 1
  else if 5925372 < gain ∨ gain < -5593912 then 2
  else if -11000 < noise then 3
  else 0

/-- Beats 1 to 3: the corrections that VREFCAL asks for, and the noise it finds. -/
def execRelayVrefcalEnd (gain offset noise : Int) (s : State) : Host.Outcome State Fault Refusal :=
  whenever (fun s => s.cap.relay.beat == 1)
    (fun s =>
      match s.cap.relay.relief with
      | none => s
      | some m =>
        if vrefcalFailure gain offset noise ≠ 0 then retireRelief m (vrefcalFailure gain offset noise) s
        else relayMod (modMod s m (fun q => vrefcalOnly { q with calGain := gain, calOffset := offset, calibrated := true }))
          (fun r => { r with beat := 3, calibratedRelief := true })) s

/-- Beat 3: the 200 ms settle is over and its window starts. -/
def execRelaySettleEnd (s : State) : Host.Outcome State Fault Refusal :=
  whenever (fun s => s.cap.relay.beat == 3)
    (fun s => relayMod s (fun r => { r with beat := if r.toVerify then 6 else 4, toVerify := false })) s

/-- R180: beats 4 to 6 run once more after a failed window; a second failure ends the step. -/
def failWindow (s : State) : State :=
  if s.cap.relay.failures = 0 then relayMod s (fun r => { r with failures := 1, beat := 4 }) else abortStep 1 s

/-- R179: a window needs 250 ms of usable samples, out of no more than 2,000 ms. -/
def windowEnough (usable : Nat) : Bool := decide (250 ≤ usable)

/-- Beats 4 and 5 (R179): with a usable signal below −70 dBFS RMS (in 0.01 dBFS) the window covers the offset only; the
gain is VREFCAL's and the delay the factory's. -/
def execRelayEstimateEnd (usable : Nat) (level gain offset delay : Int) (s : State) :
    Host.Outcome State Fault Refusal :=
  whenever (fun s => s.cap.relay.beat == 4)
    (fun s =>
      if !windowEnough usable then failWindow s
      else
        match s.cap.relay.relief with
        | none => s
        | some m =>
          relayMod (modMod s m (fun q =>
              if level < -7000 then { vrefcalOnly q with offset := offset }
              else { q with gain := gain, offset := offset, delay := delay, delaySet := true }))
            (fun r => { r with beat := 6 })) s

/-- Beats 6 and 7 (R180): RMS below −110 dBFS and mean below −120 dBFS, both in 0.01 dBFS; both blockers
freeze. -/
def execRelayVerifyEnd (usable : Nat) (rms mean : Int) (s : State) : Host.Outcome State Fault Refusal :=
  whenever (fun s => s.cap.relay.beat == 6)
    (fun s =>
      let t := relayMod s (fun r => { r with verify := rms })
      if windowEnough usable && decide (rms < -11000) && decide (mean < -12000) then
        capMod (relayMod t (fun r => { r with beat := 7 })) t.cap.relay.input (fun c => { c with relayFreeze := true })
      else failWindow t) s

/-- What beat 9 applies of the commands answered QUEUED (Table 8-5). -/
def applyQueued (s : State) (q : RelayQueued) : State :=
  match q with
  | .suspend i on w =>
    complete w stOk (relayMod s (fun r =>
      { r with suspended := if on then r.suspended ||| 2 ^ i else r.suspended - 2 ^ i * flag (bit r.suspended i) }))
  | .dcb i code fr w =>
    complete w stOk (capMod s i (fun c => { c with dcb := code, hostFreeze := fr }))
  | .trim i t w =>
    complete w stOk (capMod s i (fun c => { c with trimPending := some t }))

/-- Beat 9 (R178): the map changes, the blocker is released to the host's setting, and the old modulator
becomes the relief. -/
def execRelayCrossfadeEnd (s : State) : Host.Outcome State Fault Refusal :=
  whenever (fun s => s.cap.relay.beat == 8 && decide (64 < s.cap.relay.crossK))
    (fun s =>
      match s.cap.relay.relief with
      | none => s
      | some mr =>
        let k := s.cap.relay.input
        let mo := servedBy s k
        let t := relayMod s (fun r =>
          { r with map := tset 0 r.map k mr, relief := some mo, beat := 0, crossK := 0, stepsDone := r.stepsDone + 1,
                   calibratedRelief := false, queued := [] })
        let u := capMod t k (fun c => { c with relayFreeze := false })
        let v := postRelay 0x0901 k (mr + 256 * mo + 65536 * unsigned 16 s.cap.relay.verify) u
        s.cap.relay.queued.foldl applyQueued v) s

/-! ## PGA, fades, thresholds, overload -/

/-- R172: one step of 0.5 dB towards the target; it disturbs a relay step on the input. -/
def execPgaStep (input : Fin 8) (s : State) : Host.Outcome State Fault Refusal :=
  whenever (fun s => portEnabled s (17 + input.val) && fabricStates s && (capGet s input.val).silent == 0
      && (capGet s input.val).pga != (capGet s input.val).pgaTarget)
    (fun s => relayDisturb input.val (capMod s input.val (fun c =>
      { c with pga := if c.pga < c.pgaTarget then c.pga + 1 else c.pga - 1 }))) s

/-- R185: the 128 periods of 0 after a restart are over; the channel fades in. -/
def execChainRestartEnd (ch : Fin 16) (s : State) : Host.Outcome State Fault Refusal :=
  whenever (fun s => bit (capGet s ch.val).silent 0 && decide (128 ≤ (capGet s ch.val).restartK))
    (fun s => capMod s ch.val (endSilence 1)) s

/-- R189: MIC_WAKE is over for a port's channels. -/
def execPdmWakeEnd (port : Fin 4) (s : State) : Host.Outcome State Fault Refusal :=
  let a := 8 + 2 * port.val
  whenever (fun s => bit (capGet s a).silent 1 || bit (capGet s (a + 1)).silent 1)
    (fun s => [a, a + 1].foldl (fun t ch =>
      capMod t ch (fun c => if bit c.silent 1 then endSilence 2 c else c)) s) s

/-- R190: the crossfade from the old delay to the new is over. -/
def execTrimCrossfadeEnd (ch : Fin 16) (s : State) : Host.Outcome State Fault Refusal :=
  whenever (fun s => decide (64 < (capGet s ch.val).trimK))
    (fun s => capMod s ch.val (fun c => { c with trimK := 0, trimOld := c.trim })) s

/-- The detectors work in these states (R192). -/
def thresholdStates (s : State) : Bool := s.pwr.dev ∈ [Dev.boot, Dev.test, Dev.recovery]

/-- R192: one 1 ms block, with its peak in 0.01 dBFS. -/
def execThresholdBlock (ch : Fin 16) (peak : Int) (s : State) : Host.Outcome State Fault Refusal :=
  whenever (fun s => thresholdStates s && (capGet s ch.val).armed)
    (fun s =>
      let c := capGet s ch.val
      let hit := if c.below then decide (peak < c.level) else decide (c.level < peak)
      let n := if hit then c.run + 1 else 0
      if c.hold ≤ n then
        post 0x0907 ch.val 0 (unsigned 16 peak + 65536 * flag c.below) (.res [capResource ch.val])
          (capMod s ch.val (fun c => { c with armed := false, run := 0 }))
      else capMod s ch.val (fun c => { c with run := n })) s

/-- R193: a 1 ms block with an overload. -/
def execModulatorOverload (ch : Fin 16) (s : State) : Host.Outcome State Fault Refusal :=
  whenever (fun s => capRuns (capEntry s ch.val) ch.val)
    (fun s =>
      let t := capMod s ch.val (fun c =>
        { c with overload := min (c.overload + 1) 0xFFFFFFFF, overloadFold := min (c.overloadFold + 1) 0xFFFFFFFF })
      let d := if (capGet s ch.val).overloadPosted then drawElapsed t else (true, t)
      if d.1 then
        post 0x0905 ch.val 0 (capGet d.2 ch.val).overloadFold (.res [capResource ch.val])
          (capMod d.2 ch.val (fun c => { c with overloadFold := 0, overloadPosted := true }))
      else d.2) s

/-! ## What a tick and a swap do -/

/-- R15, R172, R186, R190 at a tick for one channel: committed settings are latched and fades advance. -/
def tickCapture (s : State) (ch : Nat) : State :=
  capMod s ch (fun c =>
    let c1 := { c with
      pgaTarget := c.pgaPending.getD c.pgaTarget, pgaPending := none
      dcb := (c.dcbPending.map Prod.fst).getD c.dcb
      hostFreeze := (c.dcbPending.map Prod.snd).getD c.hostFreeze, dcbPending := none
      fadeK := if c.silent = 0 ∧ c.fadeK < 64 then c.fadeK + 1 else c.fadeK
      restartK := if bit c.silent 0 then c.restartK + 1 else c.restartK }
    match c.trimPending with
    | some t => { c1 with trimOld := c.trim, trim := t, trimK := 1, trimPending := none }
    | none => { c1 with trimK := if c.trimK = 0 ∨ 64 < c.trimK then c.trimK else c.trimK + 1 })

/-- Beats 7 and 8 of Table 8-4 at a tick. -/
def tickRelay (s : State) : State :=
  relayMod s (fun r =>
    if r.beat = 7 then { r with beat := 8, crossK := 1 }
    else if r.beat = 8 then { r with crossK := min (r.crossK + 1) 65 }
    else r)

/-- R174: an input that names an output within its 25 ms delivers 0; one that no longer does is not held by it. -/
def swapMicBias (a b : List Byte) (fresh : Bool) (s : State) (ch : Nat) : State :=
  let settling := fun (e : List Byte) => (u8 e 5 == 1 && s.cap.micA.settling) || (u8 e 5 == 2 && s.cap.micB.settling)
  if 8 ≤ ch ∨ (!fresh && u8 a 5 == u8 b 5) then s
  else if settling b then capMod s ch (addSilence 4)
  else capMod s ch (fun c => if bit c.silent 2 then endSilence 4 c else c)

/-- R185: a chain restarts from zero state, and delivers 0 for 128 periods. -/
def restartChain (s : State) (ch : Nat) : State :=
  let t := capMod s ch (fun c => { addSilence 1 c with e := 0, hist := [], restartK := 0 })
  if ch < 8 then modMod t (servedBy s ch) (fun q => { q with hist := [] }) else t

/-- R185, R189: a channel whose entry a swap has changed. A new port, or a new response or oversampling
ratio, restarts the chain from zero state; a PDM clock that starts gives MIC_WAKE; fields that changed are in
force. -/
def swapCapture (old : Nat → List Byte) (s : State) (ch : Nat) : State :=
  let a := old (capInst ch)
  let b := capEntry s ch
  let fresh := bit (u8 b 0) 0 && !bit (u8 a 0) 0
  let restart := fresh || capResponse a ch != capResponse b ch || (decide (8 ≤ ch) && u8 a 1 != u8 b 1)
  if a = b ∨ bit (u8 b 0) 0 = false then s
  else
    let s1 := capMod s ch (fun c =>
      let c0 := if fresh then { c with silent := 0 } else c
      let c1 := if fresh || (decide (ch < 8) && u8 a 2 != u8 b 2) then { c0 with pga := u8 b 2 * flag (decide (ch < 8)), pgaTarget := u8 b 2 * flag (decide (ch < 8)), pgaPending := none } else c0
      let c2 := if fresh || capDcb a ch != capDcb b ch then { c1 with dcb := capDcb b ch, dcbPending := none } else c1
      let c3 := if fresh || capFrozen a ch != capFrozen b ch then { c2 with hostFreeze := capFrozen b ch } else c2
      if fresh || capTrim a ch != capTrim b ch then { c3 with trim := capTrim b ch, trimOld := capTrim b ch, trimK := 0, trimPending := none } else c3)
    let s2 := if fresh && decide (8 ≤ ch) then capMod s1 ch (fun c => { addSilence 2 c with e := 0, hist := [] })
      else if restart then restartChain s1 ch else s1
    swapMicBias a b fresh s2 ch

/-- The captured channels' part of a swap. -/
def swapCaptures (old : Nat → List Byte) (s : State) : State :=
  relaySwap ((List.range 8).filter (fun k => !decide (old (17 + k) = entryOf s (17 + k))))
    ((List.range 16).foldl (swapCapture old) s)

/-- R186, R190: a chart load starts every channel from its entry. What a step of relay calibration holds stays: the step runs on,
and only a change of its input's entry ends it (R181, Table 8-5). -/
def startCaptures (s : State) : State :=
  let fresh := fun (c : Capture) =>
    { Capture.reset with
      overload := c.overload, overloadFold := c.overloadFold, overloadPosted := c.overloadPosted, relayFreeze := c.relayFreeze }
  let chans := tmapKeys Capture.reset s.cap.chans (fun _ c => fresh c)
  (List.range 16).foldl (swapCapture (fun _ => [])) { s with cap := { s.cap with chans := chans } }

/-- R189: the PDM clocks start again at the end of DOZE or SLEEP. -/
def wakeCaptures (s : State) : State :=
  ((List.range 8).map (8 + ·)).foldl (fun t ch =>
    if bit (u8 (capEntry t ch) 0) 0 then capMod t ch (addSilence 2) else t) s

/-! ## Group 0x09 -/

/-- The channel's port is in the chart (R195). -/
def capInChart (s : State) (ch : Nat) : Bool := chartHas s 9 (capInst ch)

def captureStatusCheck (p : List Byte) (s : State) : Option Nat :=
  firstRefusal [(decide (15 < u8 p 0) || !capInChart s (u8 p 0), stBadParam)]

/-- The DC estimate as a fabric word; the place below it is free. -/
def estimateWord (s : State) (e : Int) : Int :=
  if e % 65536 = 0 then e / 65536 else e / 65536 + (if Config.roundUp s.free then 1 else 0)

def captureStatusResult (p : List Byte) (s : State) : List Byte :=
  let ch := u8 p 0
  let c := capGet s ch
  let e := capEntry s ch
  let analogue := decide (ch < 8)
  let freeze := (c.dcbPending.map Prod.snd).getD c.hostFreeze
  b1 (flag (capRuns e ch)) ++ b1 (if analogue then u8 e 1 else 0xFF) ++ b1 (c.pgaPending.getD c.pgaTarget) ++ b1 c.pga
    ++ b1 (capResponse e ch) ++ b1 ((c.dcbPending.map Prod.fst).getD c.dcb)
    ++ b1 (flag freeze + 2 * flag c.relayFreeze + 4 * flag (analogue && bit s.cap.relay.suspended ch)
        + 8 * flag (analogue && bit (u8 e 0) 1))
    ++ b1 (if analogue then servedBy s ch else 0xFF) ++ sb2 (c.trimPending.getD c.trim) ++ zeros 2 ++ b4 c.overload
    ++ sb4 (estimateWord s c.e)

def execCaptureStatus (o : Issue) (p : List Byte) (s : State) : Host.Outcome State Fault Refusal :=
  hostCommand 0x0901 o p (captureStatusCheck p) (reads (captureStatusResult p)) s

/-- R195 for a command that changes a channel; `bad` is what else is BAD_PARAM. -/
def capChangeCheck (o : Issue) (ch : Nat) (bad : Bool) (s : State) : Option Nat :=
  firstRefusal
    [(decide (15 < ch) || bad || !capInChart s ch, stBadParam),
     (!canChange s o.ctx (capResource ch), stNotOwner),
     (!portEnabled s (capInst ch), stWrongState)]

def pgaSetCheck (o : Issue) (p : List Byte) (s : State) : Option Nat :=
  capChangeCheck o (u8 p 0) (decide (7 < u8 p 0) || decide (96 < u8 p 1)) s

def pgaSetDo (p : List Byte) (_ : Nat) (s : State) : Done :=
  ok (capMod s (u8 p 0) (fun c => { c with pgaPending := some (u8 p 1) }))

def execPgaSet (o : Issue) (p : List Byte) (s : State) : Host.Outcome State Fault Refusal :=
  hostCommand 0x0902 o p (pgaSetCheck o p) (pgaSetDo p) s

def dcbSetCheck (o : Issue) (p : List Byte) (s : State) : Option Nat :=
  capChangeCheck o (u8 p 0) (decide (5 < u8 p 1) || decide (1 < u8 p 2)) s

def queueRelay (q : RelayQueued) (s : State) : Done := queuedDone (relayMod s (fun r => { r with queued := r.queued ++ [q] }))

/-- R186 and Table 8-5. -/
def dcbSetDo (o : Issue) (p : List Byte) (log : Nat) (s : State) : Done :=
  let ch := u8 p 0
  if decide (ch < 8) && relayLate s ch then queueRelay (.dcb ch (u8 p 1) (u8 p 2 == 1) { ctx := o.ctx, log := log }) s
  else ok (capMod s ch (fun c => { c with dcbPending := some (u8 p 1, u8 p 2 == 1) }))

def execDcbSet (o : Issue) (p : List Byte) (s : State) : Host.Outcome State Fault Refusal :=
  hostCommand 0x0903 o p (dcbSetCheck o p) (dcbSetDo o p) s

def delayTrimSetCheck (o : Issue) (p : List Byte) (s : State) : Option Nat :=
  capChangeCheck o (u8 p 0) (decide (s16 p 2 < -1024) || decide (1024 < s16 p 2)) s

/-- R190 and Table 8-5. -/
def delayTrimSetDo (o : Issue) (p : List Byte) (log : Nat) (s : State) : Done :=
  let ch := u8 p 0
  if decide (ch < 8) && relayLate s ch then queueRelay (.trim ch (s16 p 2) { ctx := o.ctx, log := log }) s
  else
    let t := capMod s ch (fun c => { c with trimPending := some (s16 p 2) })
    ok (if ch < 8 then relayDisturb ch t else t)

def execDelayTrimSet (o : Issue) (p : List Byte) (s : State) : Host.Outcome State Fault Refusal :=
  hostCommand 0x0904 o p (delayTrimSetCheck o p) (delayTrimSetDo o p) s

def micbiasSetCheck (o : Issue) (p : List Byte) (s : State) : Option Nat :=
  firstRefusal
    [(decide (1 < u8 p 0) || decide (1 < u8 p 1) || decide (11 < u8 p 2), stBadParam),
     (!canChange s o.ctx (0x060C + u8 p 0), stNotOwner),
     (u8 p 1 == 1 && auxBarred s, stWrongState)]

/-- R173, R195: a repeat changes nothing, and a change of voltage mutes no input. -/
def micbiasSetDo (p : List Byte) (_ : Nat) (s : State) : Done :=
  let b := u8 p 0
  if u8 p 1 = 0 then ok (if micOn s b then micStop b 0 s else s)
  else if micOn s b = false then ok (micStart b (u8 p 2) s)
  else if (micGet s b).code = u8 p 2 then ok s
  else ok (micGoTo b (u8 p 2) s)

def execMicbiasSet (o : Issue) (p : List Byte) (s : State) : Host.Outcome State Fault Refusal :=
  hostCommand 0x0905 o p (micbiasSetCheck o p) (micbiasSetDo p) s

def micbiasStatusCheck (p : List Byte) (_ : State) : Option Nat := firstRefusal [(decide (1 < u8 p 0), stBadParam)]

/-- The newest record of a measurement channel, in the unit of its value. -/
def latestValue (s : State) (ch : Nat) : Option Int :=
  (s.meas.latest.find? (fun e => e.1 == ch)).map (fun e => e.2.value)

/-- The voltage measured on CH29 or CH30 in mV; free where nothing has been measured. -/
def micMillivolts (s : State) (o : Nat) : Nat :=
  match latestValue s (29 + o) with
  | some v => (divNear v 1000).toNat
  | none => openValue s 0

def micbiasStatusResult (p : List Byte) (s : State) : List Byte :=
  let m := micGet s (u8 p 0)
  b1 m.st ++ b1 m.code ++ b2 (micMillivolts s (u8 p 0)) ++ b4 m.faults

def execMicbiasStatus (o : Issue) (p : List Byte) (s : State) : Host.Outcome State Fault Refusal :=
  hostCommand 0x0906 o p (micbiasStatusCheck p) (reads (micbiasStatusResult p)) s

/-- RELAY_STATUS; the seconds since the last start are time, which the model does not keep: free. -/
def relayStatusResult (s : State) : List Byte :=
  let r := s.cap.relay
  b1 (if r.stopped then 2 else flag r.rotating) ++ b1 (r.relief.getD 0xFF) ++ b1 (if r.beat = 0 then 0xFF else r.input)
    ++ b1 r.beat ++ (List.range 8).flatMap (fun k => b1 (if portEnabled s (17 + k) then servedBy s k else 0xFF))
    ++ b2 (maskBy 9 (fun m => (modGet s m).retired)) ++ b1 r.suspended ++ zeros 1 ++ b4 r.rotations ++ b4 r.early
    ++ b4 (openValue s 0) ++ sb2 r.startTemp ++ zeros 2

def execRelayStatus (o : Issue) (p : List Byte) (s : State) : Host.Outcome State Fault Refusal :=
  hostCommand 0x0907 o p noCheck (reads relayStatusResult) s

def relaySuspendCheck (o : Issue) (p : List Byte) (s : State) : Option Nat :=
  firstRefusal [(decide (1 < u8 p 1), stBadParam), (!canChange s o.ctx 0x0900, stNotOwner)]

/-- R183 and Table 8-5: an input in beats 7 to 9 waits for beat 9, one in beats 1 to 6 loses its step. Naming it to resume, not
to suspend, does not end its step (DESIGN CHOICE, log entry 122). -/
def relaySuspendDo (o : Issue) (p : List Byte) (log : Nat) (s : State) : Done :=
  let on := u8 p 1 == 1
  let ks := bitsOf (u8 p 0) 8
  let late := ks.filter (relayLate s)
  let now := maskOf (ks.filter (fun k => !relayLate s k))
  let t := if on && ks.any (relayEarly s) then abortStep 2 s else s
  let u := relayMod t (fun r => { r with suspended := if on then r.suspended ||| now else r.suspended - (r.suspended &&& now) })
  match late with
  | k :: _ => queueRelay (.suspend k on { ctx := o.ctx, log := log }) u
  | [] => ok u

def execRelaySuspend (o : Issue) (p : List Byte) (s : State) : Host.Outcome State Fault Refusal :=
  hostCommand 0x0908 o p (relaySuspendCheck o p) (relaySuspendDo o p) s

/-- In TEST and RECOVERY no rotation starts (R382): the command is WRONG_STATE there too (DESIGN CHOICE, log entry 125). -/
def relayStartCheck (o : Issue) (s : State) : Option Nat :=
  firstRefusal
    [(!canChange s o.ctx 0x0900, stNotOwner),
     (s.cap.relay.rotating || s.cap.relay.stopped || (s.pwr.dev ∈ [Dev.test, Dev.recovery]), stWrongState)]

/-- R177: by command; the temperature at the start is CH22's newest record, free before any. -/
def relayStartDo (_ : Nat) (s : State) : Done :=
  match latestValue s 22 with
  | some v => ok (startRotation 3 (divNear v 100) s)
  | none =>
    let d := drawReading s
    ok (startRotation 3 (signed 16 (d.1.toNat % 65536)) d.2)

def execRelayStart (o : Issue) (p : List Byte) (s : State) : Host.Outcome State Fault Refusal :=
  hostCommand 0x0909 o p (relayStartCheck o) relayStartDo s

def thresholdArmCheck (p : List Byte) (s : State) : Option Nat :=
  firstRefusal
    [(decide (15 < u8 p 0) || decide (1 < u8 p 1) || decide (s16 p 2 < -14400) || decide (0 < s16 p 2)
        || u16 p 4 == 0 || decide (10000 < u16 p 4) || !capInChart s (u8 p 0), stBadParam),
     (!(s.pwr.dev ∈ [Dev.test, Dev.recovery]) || !portEnabled s (capInst (u8 p 0)), stWrongState)]

def thresholdArmDo (p : List Byte) (_ : Nat) (s : State) : Done :=
  ok (capMod s (u8 p 0) (fun c =>
    { c with armed := true, below := u8 p 1 == 1, level := s16 p 2, hold := u16 p 4, run := 0 }))

def execThresholdArm (o : Issue) (p : List Byte) (s : State) : Host.Outcome State Fault Refusal :=
  hostCommand 0x090A o p (thresholdArmCheck p) (thresholdArmDo p) s

def thresholdDisarmCheck (p : List Byte) (s : State) : Option Nat :=
  firstRefusal
    [(u8 p 0 != 0xFF && (decide (15 < u8 p 0) || !capInChart s (u8 p 0)), stBadParam),
     (u8 p 0 != 0xFF && !portEnabled s (capInst (u8 p 0)), stWrongState)]

/-- R192: detectors are disarmed without an event. -/
def disarm (chs : List Nat) (s : State) : State :=
  chs.foldl (fun t c => capMod t c (fun q => { q with armed := false, run := 0 })) s

/-- At ACTIVE every detector is disarmed, that of M8's chain with them (R192, R381). -/
def disarmAll (s : State) : State :=
  let t := disarm (List.range 16) s
  { t with cap := { t.cap with reliefArmed := false } }

def thresholdDisarmDo (p : List Byte) (_ : Nat) (s : State) : Done :=
  ok (disarm (if u8 p 0 = 0xFF then List.range 16 else [u8 p 0]) s)

def execThresholdDisarm (o : Issue) (p : List Byte) (s : State) : Host.Outcome State Fault Refusal :=
  hostCommand 0x090B o p (thresholdDisarmCheck p) (thresholdDisarmDo p) s

def relayCorrectionsCheck (p : List Byte) (_ : State) : Option Nat := firstRefusal [(decide (8 < u8 p 0), stBadParam)]

/-- The input that a modulator serves, if any. -/
def servedInput (s : State) (m : Nat) : Option Nat :=
  (List.range 8).find? (fun k => servedBy s k == m && portEnabled s (17 + k))

/-- RELAY_CORRECTIONS; factory figures and the age of a calibration are free. -/
def relayCorrectionsResult (p : List Byte) (s : State) : List Byte :=
  let m := u8 p 0
  let q := modGet s m
  sb4 (modGain q m) ++ sb4 (modOffset q m) ++ sb2 (modDelay q m)
    ++ b1 (if q.retired then 3 else if s.cap.relay.relief = some m then 1 else if (servedInput s m).isSome then 0 else 2)
    ++ b1 ((servedInput s m).getD 0xFF) ++ b4 (if q.calibrated then openValue s 3 else 0xFFFFFFFF)

def execRelayCorrections (o : Issue) (p : List Byte) (s : State) : Host.Outcome State Fault Refusal :=
  hostCommand 0x090C o p (relayCorrectionsCheck p) (reads (relayCorrectionsResult p)) s

end Sys2Proof.Machine
end

