-- ==== Sys2Proof/Machine/Serial.lean ====
section
/-! DEFINITION. The serial audio ports SAI0 to SAI5 and the S/PDIF receiver and transmitter (chapter 10). -/

namespace Sys2Proof.Machine

/-! ## SAI ports -/

def saiGet (s : State) (n : Nat) : Sai := tget Sai.off s.ser.sais n

def saiMod (s : State) (n : Nat) (f : Sai → Sai) : State :=
  { s with ser := { s.ser with sais := tmod Sai.off s.ser.sais n f } }

/-- A port's entry (Table 10-1) and its parts. -/
def saiEntry (s : State) (n : Nat) : List Byte := entryOf s (3 + n)
def saiController (e : List Byte) : Bool := bit (u8 e 0) 1
def saiFd (e : List Byte) : Bool := bit (u8 e 0) 2
def saiSlots (e : List Byte) : Nat := u8 e 2

/-- Resource of a port (R247). -/
def saiResource (n : Nat) : Nat := 0x0103 + n

/-- More in a counter, in every context's copy: `per` counters a context. -/
def addAll (per i n : Nat) (t : Tbl Nat) : Tbl Nat :=
  (List.range 5).foldl (fun u x => tset 0 u (per * x + i) (min (tget 0 u (per * x + i) + n) 0xFFFFFFFF)) t

/-- One more in a counter, in every context's copy. -/
def countAll (per i : Nat) (t : Tbl Nat) : Tbl Nat := (List.range 5).foldl (fun u x => tincrSat 32 u (per * x + i)) t

/-- A context's counters start anew (R166). -/
def clearFor (per n : Nat) (t : Tbl Nat) : Tbl Nat := (List.range per).foldl (fun u i => tset 0 u (per * n + i) 0) t

/-- The masks have reached the BCLK domain: they are due at the next frame-start edge, or at the one after it. -/
def masksArrive (early : Bool) (q : Sai) : Sai :=
  if early then { q with dueNow := q.moving, dueLater := none, moving := none }
  else { q with dueLater := q.moving, moving := none }

/-- R230: the masks reach the BCLK domain, early enough for the next frame-start edge or not. -/
def execSaiMaskTransfer (port : Fin 6) (early : Bool) (s : State) : Host.Outcome State Fault Refusal :=
  whenever (fun s => (saiGet s port.val).moving.isSome) (fun s => saiMod s port.val (masksArrive early)) s

/-- R230 at a frame-start edge. -/
def takeMasks (q : Sai) : Sai :=
  let m := q.dueNow.getD (q.txMask, q.rxMask)
  { q with txMask := m.1, rxMask := m.2, dueNow := q.dueLater, dueLater := none }

/-- Masks that have not yet taken force. -/
def masksPending (q : Sai) : Bool := q.commit || q.moving.isSome || q.dueNow.isSome || q.dueLater.isSome

/-- R232: the count is wrong. -/
def syncError (n : Nat) (s : State) : State :=
  let t := saiMod s n (fun q => { q with counts := countAll 2 0 q.counts, errFold := min (q.errFold + 1) 0xFFFFFFFF })
  let d := if (saiGet s n).errPosted then drawElapsed t else (true, t)
  if d.1 then
    post 0x0601 n 0 (saiGet d.2 n).errFold (.res [saiResource n])
      (saiMod d.2 n (fun q => { q with errFold := 0, errPosted := true }))
  else d.2

/-- A TDM frame is complete: its slots go to the port's ingress members, or in the FD role to the ingress FIFOs of its
berths; 0 in a disabled slot (R229, R231). DOZE discards it (Table 10-9). -/
def saiReceive (n : Nat) (slots : List Word) (s : State) : State :=
  let q := saiGet s n
  let e := saiEntry s n
  let sample := (List.range (saiSlots e)).map (fun c => if bit q.rxMask c then slots.getD c 0 else 0)
  if s.pwr.dev = .doze then s
  else if saiFd e then
    if bit (u8 e 16) 1 then (List.range (saiSlots e)).foldl (fun t c => pushIngress (u16 e 18 + c) (sample.getD c 0) t) s else s
  else portSample (3 + n) 0 sample s

/-- The words of the frame that an edge starts: each slot's from its egress FIFO in the FD role, else the sample that the
port's egress member gives (R229, R164). In DOZE a port sends 0 (Table 10-9). -/
def saiTake (n : Nat) (s : State) : List Word × State :=
  let e := saiEntry s n
  if s.pwr.dev = .doze then ([], s)
  else if saiFd e then
    if bit (u8 e 16) 0 then
      (List.range (saiSlots e)).foldl (fun (a : List Word × State) c =>
        let r := popSink (u16 e 20 + c - 256) a.2
        (a.1 ++ [r.1], r.2)) ([], s)
    else ([], s)
  else
    match membersOf s.cs.near (3 + n) 0 true with
    | (k, m) :: _ =>
      if mayRead s k m true then
        let w := memberSample false k m (takeEgress k m s)
        (w.1, markRead k m w.2)
      else ([], s)
    | [] => ([], s)

/-- What DO carries in each slot: the word, 0 in a disabled slot, or nothing where TX_HIZ releases the pin (R231). -/
def saiSlotsOut (e : List Byte) (txMask : Nat) (words : List Word) : List (Option Word) :=
  (List.range (saiSlots e)).map (fun c =>
    if bit txMask c then some (words.getD c 0) else if bit (u8 e 0) 5 then none else some 0)

/-- A frame-start edge: the masks that are due take force, and the frame's samples leave for the wire (R229, R230). -/
def saiEdge (n : Nat) (s : State) : State :=
  let w := saiTake n (saiMod s n takeMasks)
  saiMod w.2 n (fun q => { q with sent := saiSlotsOut (saiEntry s n) q.txMask w.1 })

/-- The first frame-start edge of a port: it runs, and its members leave IDLE. -/
def saiRuns (n : Nat) (s : State) : State :=
  startMembers (3 + n) 0 true (startMembers (3 + n) 0 false (saiMod s n (fun q => { q with st := 2, resync := false })))

/-- SAI_CLOCK (Table 10-8). -/
def postSaiClock (n lost : Nat) (s : State) : State := post 0x0602 n 0 lost (.res [saiResource n]) s

/-- R233: the first complete frame after BCLK has returned is taken, and the port is RUNNING. -/
def saiReturn (n : Nat) (slots : List Word) (s : State) : State :=
  postSaiClock n 0 (saiReceive n slots (saiRuns n s))

/-- The BCLK cycles of a frame are those of its slots; a controller port counts none (R232). -/
def frameWhole (e : List Byte) (bclks : Nat) : Bool := saiController e || bclks == saiSlots e * u8 e 3

/-- R229 to R233: a frame-start edge, with the BCLK cycles counted since the last one and the words received. A port in the
FD role places its first one after a tick (R234). -/
def execSaiFrameStart (port : Fin 6) (bclks : Nat) (slots : List Word) (s : State) :
    Host.Outcome State Fault Refusal :=
  whenever (fun s => serialAlive s && (saiGet s port.val).st != 0
      && ((saiGet s port.val).st != 1 || !saiFd (saiEntry s port.val) || (saiGet s port.val).ticked))
    (fun s =>
      let n := port.val
      let q := saiGet s n
      let whole := frameWhole (saiEntry s n) bclks
      saiEdge n (
        if q.st = 1 then saiRuns n s
        else if q.st = 3 then
          if !q.resync then saiMod s n (fun q => { q with resync := true })
          else if whole then saiReturn n slots s
          else syncError n s
        else if whole then saiReceive n slots s
        else syncError n s)) s

/-- R233: a target port sees no BCLK. Domains whose reference it is go UNLOCKED (R148). -/
def execSaiClockLoss (port : Fin 6) (s : State) : Host.Outcome State Fault Refusal :=
  whenever (fun s => serialAlive s && ((saiGet s port.val).st == 1 || (saiGet s port.val).st == 2)
      && !saiController (saiEntry s port.val))
    (fun s => dropInvalid (postSaiClock port.val 1
      (saiMod s port.val (fun q => { q with st := 3, resync := false, counts := countAll 2 1 q.counts })))) s

/-- R233: the first complete TDM frame after BCLK has returned, with its words; the edge that ends it starts the next. -/
def execSaiClockReturn (port : Fin 6) (slots : List Word) (s : State) : Host.Outcome State Fault Refusal :=
  whenever (fun s => serialAlive s && (saiGet s port.val).st == 3)
    (fun s =>
      let s1 := if (saiGet s port.val).resync then s else saiEdge port.val s
      saiEdge port.val (saiReturn port.val slots s1)) s

/-- A tick latches SAI_SLOT_MASK and starts the transfer (R230). -/
def tickSai (s : State) (n : Nat) : State :=
  let s1 := if (saiGet s n).st = 1 then saiMod s n (fun q => { q with ticked := true }) else s
  if (saiGet s1 n).commit then
    saiMod s1 n (fun q => { q with commit := false, moving := some (q.shadowTx, q.shadowRx) })
  else s1

/-- The output pins of SAI port n, and of SPDIF_OUT as n = 6, stay high-impedance: in the fault states of Table 9-6, after
an engine halt until a reset (Table 9-7), and in bank B without IOVDD_B (Table 16-1). -/
def pinsBarred (s : State) (n : Nat) : Bool := s.eng.halted || s.pwr.thermalShut || (decide (3 ≤ n) && !s.pwr.ioB)

/-- What an enabled port's pins do: driven, held low in SLEEP (Table 10-9), or high-impedance. -/
def pinState (s : State) (n : Nat) : Nat := if pinsBarred s n then 0 else if s.pwr.dev = .sleep then 2 else 1

/-- SPDIF_OUT follows its entry and its bank. -/
def spdifPins (s : State) : State :=
  { s with ser := { s.ser with spdif := { s.ser.spdif with drive := flag (portEnabled s 10) * pinState s 6 } } }

/-- The pins of every enabled port follow their bank. -/
def serialPins (s : State) : State :=
  spdifPins ((List.range 6).foldl (fun t n => saiMod t n (fun q =>
    if q.st = 0 then q
    else { q with drive := pinState s n, sent := if pinState s n = 1 then q.sent else [] })) s)

/-- A swap that changes a port's entry (R223, R230). -/
def swapSai (old : Nat → List Byte) (s : State) (n : Nat) : State :=
  let e := saiEntry s n
  if old (3 + n) = e then s
  else if bit (u8 e 0) 0 = false then saiMod s n (fun q => { Sai.off with counts := q.counts, errPosted := q.errPosted })
  else saiMod s n (fun q =>
    { q with st := if bit (u8 (old (3 + n)) 0) 0 then q.st else 1, drive := pinState s n, txMask := u32 e 8, rxMask := u32 e 12,
             shadowTx := u32 e 8, shadowRx := u32 e 12, commit := false, moving := none, dueNow := none, dueLater := none })

/-- R204, Table 9-6: the output pins of serial ports are high-impedance in a fault. -/
def serialFault (s : State) : State :=
  let s1 := (List.range 6).foldl (fun t n => saiMod t n (fun q => { q with drive := 0, sent := [] })) s
  { s1 with ser := { s1.ser with spdif := { s1.ser.spdif with drive := 0, frame := none, txStarted := false } } }

/-- The pins of enabled ports are driven again, after SLEEP or a fault that has ended; the ports start anew (R234). -/
def serialDrive (s : State) : State :=
  spdifPins ((List.range 6).foldl (fun t n => saiMod t n (fun q =>
    if q.st = 0 then q else { q with drive := pinState s n, st := 1, ticked := false, resync := false })) s)

/-- SAI and S/PDIF lines come to rest at a low level (Table 10-9): a port starts anew after the wake, with the masks that
were to move, and the receiver acquires. -/
def serialRest (s : State) : State :=
  let s1 := (List.range 6).foldl (fun t n => saiMod t n (fun q =>
    if q.st = 0 then q
    else { q with st := 1, drive := if pinsBarred s n then 0 else 2, sent := [], ticked := false, resync := false })) s
  { s1 with ser := { s1.ser with spdif := { s1.ser.spdif with
      rxState := min s1.ser.spdif.rxState 1, rxRate := 0xFF, copying := false, direct := none, frame := none, txStarted := false
      drive := if pinsBarred s 6 then 0 else 2 * flag (portEnabled s1 10) } } }

/-! ## S/PDIF receiver -/

def spdifMod (s : State) (f : Spdif → Spdif) : State := { s with ser := { s.ser with spdif := f s.ser.spdif } }

def rxEntry (s : State) : List Byte := entryOf s 9
def txEntry (s : State) : List Byte := entryOf s 10
def txDirect (s : State) : Bool := portEnabled s 10 && bit (u8 (txEntry s) 0) 1

/-- An event of the receiver (R248). -/
def postSpdif (code data : Nat) (s : State) : State := post code 0 0 data (.res [0x0109]) s

def spdifCount (i : Nat) (s : State) : State := spdifMod s (fun q => { q with counts := countAll 8 i q.counts })

/-- R236: a rate is classified and two B preambles have come; `rate` counts from 32 kHz. -/
def execSpdifLockAcquire (rate : Fin 7) (s : State) : Host.Outcome State Fault Refusal :=
  whenever (fun s => serialAlive s && portEnabled s 9 && s.ser.spdif.rxState != 2)
    (fun s =>
      let code := 5 + rate.val
      postSpdif 0x0603 (1 + 256 * code) (startMembers 9 0 false (spdifMod s (fun q =>
        { q with rxState := 2, rxRate := code, biphase := 0, autoDue := rateAsked s code, lastRate := some code, stored := 0, cA := [], cB := [], uA := [], uB := [],
                 blockBad := false, chanA := { q.chanA with held := none }, chanB := { q.chanB with held := none },
                 sawPa := false })))) s

/-- While DIRECT does not copy, it sends zero samples with V = 1 (R244). -/
def directRests (s : State) : State :=
  spdifMod s (fun q => if q.copying then q else { q with direct := none, frame := some ([0, 0], true) })

/-- R236: lock is lost, by the cause of Table 10-8. The block in progress is discarded, every domain that has the receiver
as its reference goes UNLOCKED, and the member underruns where R156 has not muted it (R165). -/
def spdifLose (cause : Nat) (s : State) : State :=
  let s1 := spdifCount 4 (spdifCount 2 (spdifMod s (fun q =>
    { q with rxState := if cause = 1 then 0 else 1, rxRate := 0xFF, lossCause := cause, cA := [], cB := [],
             uA := [], uB := [], copying := false, autoDue := false })))
  let s2 := if txDirect s1 then directRests s1 else s1
  portUnderrun 9 0 (dropInvalid (postSpdif 0x0603 (256 * 0xFF + 65536 * cause) s2))

/-- A biphase error of the block in progress is counted. -/
def biphaseError (s : State) : State :=
  spdifCount 1 (spdifMod s (fun q => { q with blockBad := true, biphase := q.biphase + 1 }))

/-- R236: the cause is `cause` + 1; biphase errors lose lock with the fourth of a block, which is the one that comes now. -/
def execSpdifLockLoss (cause : Fin 4) (s : State) : Host.Outcome State Fault Refusal :=
  whenever (fun s => serialAlive s && portEnabled s 9 && s.ser.spdif.rxState == 2
      && (cause != 2 || s.ser.spdif.biphase == 3))
    (fun s => spdifLose (1 + cause.val) (if cause = 2 then biphaseError s else s)) s

/-- R237: at a lock at another allowed rate the domain's rate changes, as a command of no context with a log
number, once the CP runs (R82). -/
def execSpdifAutoRate (s : State) : Host.Outcome State Fault Refusal :=
  whenever (fun s => cpRuns s && autoRateDue s)
    (fun s => commitRate (u8 (rxEntry s) 2) s.ser.spdif.rxRate s.host.log
      (takeLog (spdifMod s (fun q => { q with autoDue := false })))) s

/-- A ramp of 32 samples starts from the present level (R239). -/
def rampFrom (up : Bool) (c : SpdifChan) : SpdifChan :=
  if up then { c with ramp := 3, k := 0, start := 0, level := 0 } else { c with ramp := 1, k := 0, start := c.level }

/-- The next sample of a channel's ramp. -/
def rampStep (c : SpdifChan) : SpdifChan :=
  if c.ramp = 1 then
    { c with k := c.k + 1, level := gainRamp c.start 0 (c.k + 1) 32, ramp := if c.k + 1 = 32 then 2 else 1 }
  else if c.ramp = 3 then
    { c with k := c.k + 1, level := gainRamp c.start unity (c.k + 1) 32, ramp := if c.k + 1 = 32 then 0 else 3 }
  else c

/-- A 24-bit sample times the channel's level, as a 32-bit number. -/
def atLevel (a : BitVec 24) (level : Word) : Word := BitVec.ofInt 32 (mulQ27 a.toInt level.toInt)

/-- R239: what a channel delivers for a subframe. -/
def spdifPass (mode : Nat) (nonPcm : Bool) (a : BitVec 24) (v parityOk : Bool) (c : SpdifChan) : SpdifChan :=
  if nonPcm then { c with out := 0, level := 0, ramp := 2, k := 0, previous := a, invalid := 0 }
  else if mode = 0 then
    let x := if parityOk then a else c.previous
    let c1 := rampStep (if c.ramp = 1 ∨ c.ramp = 2 then rampFrom true c else c)
    { c1 with out := atLevel x c1.level, previous := x, lastValid := if v then c.lastValid else x, invalid := 0 }
  else if v || !parityOk then
    let n := c.invalid + 1
    if mode = 2 ∧ n ≤ 48 ∧ c.ramp ≠ 2 then
      let c1 := rampStep c
      { c1 with out := atLevel c.lastValid c1.level, invalid := n, previous := a }
    else
      let c1 := rampStep (if c.ramp = 0 ∨ c.ramp = 3 then rampFrom false c else c)
      { c1 with out := atLevel c.lastValid c1.level, invalid := n, previous := a }
  else
    let c1 := rampStep (if c.ramp = 1 ∨ c.ramp = 2 then rampFrom true c else c)
    { c1 with out := atLevel a c1.level, invalid := 0, previous := a, lastValid := a }

def chanGet (s : State) (ch : Nat) : SpdifChan := if ch = 0 then s.ser.spdif.chanA else s.ser.spdif.chanB

def chanMod (s : State) (ch : Nat) (f : SpdifChan → SpdifChan) : State :=
  spdifMod s (fun q => if ch = 0 then { q with chanA := f q.chanA } else { q with chanB := f q.chanB })

/-- R241: the receiver enters NON_PCM. -/
def enterNonPcm (cause : Nat) (s : State) : State :=
  if s.ser.spdif.nonPcm then s
  else postSpdif 0x0605 (1 + 256 * cause) (spdifMod s (fun q => { q with nonPcm := true, nonPcmCause := cause }))

/-- R241: sync words Pa and Pb in two subframes that follow each other. -/
def watchSync (audio : BitVec 24) (s : State) : State :=
  let top := audio.toNat / 256
  let pair := s.ser.spdif.sawPa && top == 0x4E1F
  let t := spdifMod s (fun q =>
    { q with sawPa := top == 0xF872, framesSincePa := if pair then 0 else q.framesSincePa })
  if pair then enterNonPcm 2 t else t

/-- The subframe of a channel one frame ago is passed; with channel B the frame's sample arrives at the
member (R238). -/
def passHeld (ch : Nat) (s : State) : State :=
  match (chanGet s ch).held with
  | none => s
  | some (a, v, p) =>
    let mode := s.ser.spdif.validity
    let s1 := if v || (!p && mode != 0) then spdifCount 3 s else s
    let s2 := chanMod s1 ch (spdifPass mode s.ser.spdif.nonPcm a v p)
    if ch = 0 ∨ s.pwr.dev = .doze then s2
    else portSample 9 0 [s2.ser.spdif.chanA.out, s2.ser.spdif.chanB.out] s2

/-- R236 to R241, R244: a subframe with its audio field, V, U and C. The fourth biphase error of a block loses lock. What is
passed is the subframe of a frame ago, so that sync words zero the output from the subframe that carries Pa. -/
def execSpdifSubframe (ch : Fin 2) (audio : BitVec 24) (v u c parityOk biphaseOk : Bool) (s : State) :
    Host.Outcome State Fault Refusal :=
  whenever (fun s => serialAlive s && portEnabled s 9 && s.ser.spdif.rxState == 2)
    (fun s =>
      let s1 := if parityOk then s else spdifCount 0 s
      let s2 := if biphaseOk then s1 else biphaseError s1
      if 4 ≤ s2.ser.spdif.biphase then spdifLose 3 s2
      else
      let s3 := spdifMod s2 (fun q =>
        if ch = 0 then { q with cA := q.cA ++ [c], uA := q.uA ++ [u], framesSincePa := q.framesSincePa + 1 }
        else { q with cB := q.cB ++ [c], uB := q.uB ++ [u] })
      let s4 := if s3.ser.spdif.copying then spdifMod s3 (fun q => { q with direct := some (audio, v, u, c) }) else s3
      let s5 := watchSync audio (passHeld ch.val s4)
      chanMod s5 ch.val (fun q => { q with held := some (audio, v, parityOk) })) s

/-- 192 bits as 24 bytes: bit k at byte k / 8, bit k mod 8 (R240). -/
def blockBytes (l : List Bool) : List Byte :=
  (List.range 24).map (fun i => BitVec.ofNat 8 (maskBy 8 (fun j => l.getD (8 * i + j) false)))

/-- R240: the block is stored; a change of channel A's status is posted no more than once per 100 ms. -/
def storeBlock (s : State) : State :=
  let q := s.ser.spdif
  let a := blockBytes q.cA
  let t := spdifMod s (fun q =>
    { q with storedCA := a, storedCB := blockBytes q.cB, storedUA := blockBytes q.uA, storedUB := blockBytes q.uB,
             stored := (q.stored + 1) % 2 ^ 32 })
  let t1 :=
    if a = q.storedCA then t
    else
      let d := if q.csPosted then drawElapsed t else (true, t)
      if d.1 then postSpdif 0x0604 (u32 a 0) (spdifMod d.2 (fun q => { q with csPosted := true })) else d.2
  let t2 := if bit (u8 a 0) 1 then enterNonPcm 1 t1 else t1
  if t2.ser.spdif.copying then
    spdifMod t2 (fun q => { q with sentCA := q.storedCA, sentCB := q.storedCB, sentUA := q.storedUA, sentUB := q.storedUB,
                                   sent := (q.sent + 1) % 2 ^ 32 })
  else t2

/-- R240: the 192 frames are over and the next B preamble stands; DIRECT returns to copying there (R244). -/
def execSpdifBlockEnd (clean : Bool) (s : State) : Host.Outcome State Fault Refusal :=
  whenever (fun s => serialAlive s && portEnabled s 9 && s.ser.spdif.rxState == 2)
    (fun s =>
      let q := s.ser.spdif
      let good := clean && !q.blockBad && q.cA.length == 192 && q.cB.length == 192
      let t := if good then storeBlock s else spdifCount 4 s
      spdifMod t (fun q =>
        { q with cA := [], cB := [], uA := [], uB := [], blockBad := false, biphase := 0, copying := txDirect t
                 frame := if txDirect t then none else q.frame })) s

/-- R241: no pair for 8,192 frames and the latest block is PCM; both channels ramp to unity. -/
def execSpdifNonpcmExit (s : State) : Host.Outcome State Fault Refusal :=
  whenever (fun s => s.ser.spdif.nonPcm && decide (8192 ≤ s.ser.spdif.framesSincePa) && !bit (u8 s.ser.spdif.storedCA 0) 1)
    (fun s => postSpdif 0x0605 (256 * s.ser.spdif.nonPcmCause) (spdifMod s (fun q =>
      { q with nonPcm := false, nonPcmCause := 0, chanA := rampFrom true q.chanA, chanB := rampFrom true q.chanB }))) s

/-! ## S/PDIF transmitter -/

/-- IEC 60958-3 code of a sampling frequency, bits 24 to 27 low bit first (log entry 44). -/
def csRate (hz : Nat) : Nat :=
  match hz with
  | 44100 => 0
  | 48000 => 2
  | 32000 => 3
  | 88200 => 8
  | 96000 => 10
  | 176400 => 12
  | 192000 => 14
  | _ => 1

/-- IEC 60958-3 code of a word length, bits 32 to 35. -/
def csWord (w : Nat) : Nat := if w = 24 then 11 else 2

/-- R243: the fields that AUTO_CS overrides. -/
def autoCs (hz word : Nat) (l : List Byte) : List Byte :=
  withBytes (withBytes (withBytes l 0 (u8 l 0 / 4 * 4)) 3 (u8 l 3 / 16 * 16 + csRate hz)) 4 (u8 l 4 / 16 * 16 + csWord word)
where
  withBytes (l : List Byte) (i x : Nat) : List Byte := l.set i (BitVec.ofNat 8 x)

/-- R243: a B preamble of the transmitter; from here on the blocks written completely are sent. -/
def execSpdifTxBlockStart (s : State) : Host.Outcome State Fault Refusal :=
  whenever (fun s => serialAlive s && portEnabled s 10 && !s.ser.spdif.copying)
    (fun s =>
      let e := txEntry s
      let hz := if txDirect s then codeHz (s.ser.spdif.lastRate.getD 7) else codeHz (domGet s (u8 e 2)).rate
      let f := fun l => if bit (u8 e 0) 2 then autoCs hz (u8 e 3) l else l
      spdifMod s (fun q =>
        { q with sentCA := f q.writtenCA, sentCB := f q.writtenCB, sentUA := q.writtenUA, sentUB := q.writtenUB,
                 sent := (q.sent + 1) % 2 ^ 32, txStarted := true
                 frame := if txDirect s then some ([0, 0], true) else q.frame })) s

/-- A swap that changes an S/PDIF entry (R223, R247). -/
def swapSpdif (old : Nat → List Byte) (s : State) : State :=
  let e := rxEntry s
  let t :=
    if old 9 = e then s
    else spdifMod s (fun q =>
      let fresh := !bit (u8 (old 9) 0) 0 || !bit (u8 e 0) 0
      let q1 := { q with validity := u8 e 1 }
      if fresh then
        { q1 with rxState := flag (bit (u8 e 0) 0), rxRate := 0xFF, chanA := SpdifChan.reset, chanB := SpdifChan.reset,
                  nonPcm := false, sawPa := false, framesSincePa := 0, cA := [], cB := [], uA := [], uB := [],
                  lastRate := none, copying := false, direct := none }
      else q1)
  let u := if old 10 = txEntry s then t
    else spdifPins (spdifMod t (fun q =>
      { q with validityTx := u8 (txEntry s) 1, copying := false, direct := none, frame := none, txStarted := false }))
  if txDirect s && u.ser.spdif.txStarted then directRests u else u

/-- A member's port runs after a swap or a wake: SAI once it has a frame start, the receiver in lock, the
transmitter when it is enabled. -/
def serialRunning (s : State) (port : Nat) : Bool :=
  if port = 9 then s.ser.spdif.rxState == 2
  else if port = 10 then portEnabled s 10
  else (saiGet s (port - 3)).st == 2 || (saiGet s (port - 3)).st == 3

/-! ## Group 0x06 -/

/-- A command naming a port absent from the chart, or not enabled in the Near bank, is WRONG_STATE (R247). -/
def saiStatusCheck (p : List Byte) (s : State) : Option Nat :=
  firstRefusal [(decide (5 < u8 p 0) || decide (1 < u8 p 1), stBadParam), (!portEnabled s (3 + u8 p 0), stWrongState)]

/-- SAI_STATUS; the measured frame rate is the outside's: free. -/
def saiStatusDo (o : Issue) (p : List Byte) (_ : Nat) (s : State) : Done :=
  let n := u8 p 0
  let q := saiGet s n
  let e := saiEntry s n
  let c := 2 * ctxNum o.ctx
  okWith (b1 q.st ++ b1 (u8 e 1) ++ b1 (u8 e 2) ++ b1 (u8 e 3)
      ++ b1 (if saiFd e then 2 else flag (saiController e)) ++ b1 (u8 e 7) ++ b1 (flag (masksPending q)) ++ zeros 1
      ++ b4 q.txMask ++ b4 q.rxMask ++ b4 (openValue s 0) ++ b4 (tget 0 q.counts c) ++ b4 (tget 0 q.counts (c + 1)))
    (if u8 p 1 = 1 then saiMod s n (fun q => { q with counts := clearFor 2 (ctxNum o.ctx) q.counts }) else s)

def execSaiStatus (o : Issue) (p : List Byte) (s : State) : Host.Outcome State Fault Refusal :=
  hostCommand 0x0601 o p (saiStatusCheck p) (saiStatusDo o p) s

/-- R247, R458: a port absent from the chart comes with the fields, before the mooring; one not enabled after it. -/
def saiSlotMaskCheck (o : Issue) (p : List Byte) (s : State) : Option Nat :=
  let n := u8 p 0
  let e := anyEntry s (3 + n)
  let lim := 2 ^ saiSlots e
  firstRefusal
    [(decide (5 < n) || (!decide (e = []) && (decide (lim ≤ u32 p 4) || decide (lim ≤ u32 p 8))), stBadParam),
     (!inChart s 9 (3 + n), stWrongState),
     (!canChange s o.ctx (saiResource n), stNotOwner),
     (!portEnabled s (3 + n), stWrongState)]

def saiSlotMaskDo (p : List Byte) (_ : Nat) (s : State) : Done :=
  ok (saiMod s (u8 p 0) (fun q => { q with shadowTx := u32 p 4, shadowRx := u32 p 8, commit := true }))

def execSaiSlotMask (o : Issue) (p : List Byte) (s : State) : Host.Outcome State Fault Refusal :=
  hostCommand 0x0602 o p (saiSlotMaskCheck o p) (saiSlotMaskDo p) s

/-- R247: a receiver that is absent from the chart, or not enabled, is WRONG_STATE. -/
def spdifRxStatusCheck (p : List Byte) (s : State) : Option Nat :=
  firstRefusal [(decide (1 < u8 p 0), stBadParam), (!portEnabled s 9, stWrongState)]

def spdifRxStatusDo (o : Issue) (p : List Byte) (_ : Nat) (s : State) : Done :=
  let q := s.ser.spdif
  let n := 8 * ctxNum o.ctx
  okWith (b1 q.rxState ++ b1 q.rxRate ++ b1 q.validity
      ++ b1 (flag q.nonPcm + 2 * flag (bit (u8 q.storedCA 0) 1) + 4 * flag (bit (u8 (rxEntry s) 0) 1))
      ++ b4 (openValue s 0) ++ (List.range 5).flatMap (fun i => b4 (tget 0 q.counts (n + i))))
    (if u8 p 0 = 1 then spdifMod s (fun q => { q with counts := clearFor 8 (ctxNum o.ctx) q.counts }) else s)

def execSpdifRxStatus (o : Issue) (p : List Byte) (s : State) : Host.Outcome State Fault Refusal :=
  hostCommand 0x0603 o p (spdifRxStatusCheck p) (spdifRxStatusDo o p) s

/-- R247 for the receiver (0) or the transmitter (1) that the command names. -/
def spdifReadCheck (p : List Byte) (s : State) : Option Nat :=
  firstRefusal [(decide (1 < u8 p 0), stBadParam), (!portEnabled s (9 + u8 p 0), stWrongState)]

def spdifCsReadResult (p : List Byte) (s : State) : List Byte :=
  let q := s.ser.spdif
  if u8 p 0 = 0 then b4 q.stored ++ q.storedCA ++ q.storedCB else b4 q.sent ++ q.sentCA ++ q.sentCB

def execSpdifCsRead (o : Issue) (p : List Byte) (s : State) : Host.Outcome State Fault Refusal :=
  hostCommand 0x0604 o p (spdifReadCheck p) (reads (spdifCsReadResult p)) s

/-- R247 for the transmitter. -/
def spdifTxCheck (o : Issue) (s : State) : Option Nat :=
  firstRefusal [(!inChart s 9 10, stWrongState), (!canChange s o.ctx 0x010A, stNotOwner), (!portEnabled s 10, stWrongState)]

def spdifCsWriteDo (p : List Byte) (_ : Nat) (s : State) : Done :=
  ok (spdifMod s (fun q => { q with writtenCA := bytesAt p 0 24, writtenCB := bytesAt p 24 24 }))

def execSpdifCsWrite (o : Issue) (p : List Byte) (s : State) : Host.Outcome State Fault Refusal :=
  hostCommand 0x0605 o p (spdifTxCheck o) (spdifCsWriteDo p) s

def spdifUserReadResult (p : List Byte) (s : State) : List Byte :=
  let q := s.ser.spdif
  if u8 p 0 = 0 then b4 q.stored ++ q.storedUA ++ q.storedUB else b4 q.sent ++ q.sentUA ++ q.sentUB

def execSpdifUserRead (o : Issue) (p : List Byte) (s : State) : Host.Outcome State Fault Refusal :=
  hostCommand 0x0606 o p (spdifReadCheck p) (reads (spdifUserReadResult p)) s

def spdifUserWriteDo (p : List Byte) (_ : Nat) (s : State) : Done :=
  ok (spdifMod s (fun q => { q with writtenUA := bytesAt p 0 24, writtenUB := bytesAt p 24 24 }))

def execSpdifUserWrite (o : Issue) (p : List Byte) (s : State) : Host.Outcome State Fault Refusal :=
  hostCommand 0x0607 o p (spdifTxCheck o) (spdifUserWriteDo p) s

def spdifValiditySetCheck (o : Issue) (p : List Byte) (s : State) : Option Nat :=
  let rx := u8 p 0 != 0xFF
  let tx := u8 p 1 != 0xFF
  firstRefusal
    [((rx && decide (2 < u8 p 0)) || (tx && decide (1 < u8 p 1)), stBadParam),
     ((rx && !inChart s 9 9) || (tx && !inChart s 9 10), stWrongState),
     ((rx && !canChange s o.ctx 0x0109) || (tx && !canChange s o.ctx 0x010A), stNotOwner),
     ((rx && !portEnabled s 9) || (tx && !portEnabled s 10), stWrongState)]

def spdifValiditySetDo (p : List Byte) (_ : Nat) (s : State) : Done :=
  ok (spdifMod s (fun q =>
    { q with validity := if u8 p 0 = 0xFF then q.validity else u8 p 0
             validityTx := if u8 p 1 = 0xFF then q.validityTx else u8 p 1 }))

def execSpdifValiditySet (o : Issue) (p : List Byte) (s : State) : Host.Outcome State Fault Refusal :=
  hostCommand 0x0608 o p (spdifValiditySetCheck o p) (spdifValiditySetDo p) s

end Sys2Proof.Machine
end

