-- ==== Sys2Proof/Machine/Usb.lean ====
section
/-! DEFINITION. The USB device ports A and B (chapter 11) and the headset buttons that they report (R220).
The DFU download itself is in Dfu.lean. -/

namespace Sys2Proof.Machine

/-! ## Descriptors, interfaces, members -/

/-- The port presents the built-in descriptors (R258), or is in DFU mode. -/
def usbBuiltin (s : State) (p : Nat) : Bool :=
  s.cs.chart.isNone || s.pwr.dev == .harbour || (usbGet s p).speed == 1 || usbSet s p == [] || (usbGet s p).dfuMode

/-- Ports work in these states (Table 16-5). -/
def usbAlive (s : State) : Bool := s.pwr.dev ∈ [Dev.harbour, Dev.active, Dev.doze, Dev.test, Dev.recovery, Dev.sleep]

/-- Domain of a port, its rate in Hz. -/
def usbDomain (s : State) (p : Nat) : Nat := u8 (usbEntry s p) 1
def usbHz (s : State) (p : Nat) : Nat := codeHz (domGet s (usbDomain s p)).rate

/-- The port carries the rate of its domain at its speed: above 96 kHz at SuperSpeed only (Table 11-6). -/
def usbRateFits (s : State) (p : Nat) : Bool := (usbGet s p).speed == 3 || decide (usbHz s p ≤ 96000)

/-- An interface streams: a non-zero setting whose data is not discarded (R261), at a rate that the port carries (R262). -/
def usbStreams (s : State) (p i : Nat) : Bool := usbAlt s p i != 0 && !(usbStream s p i).discard && usbRateFits s p

/-- The member of a port's interface runs after a swap: it streams, on a configured port. -/
def usbRunning (s : State) (p sub : Nat) : Bool :=
  (usbGet s p).st == 2 && (List.range 4).any (fun i => usbIf s p i == sub && usbStreams s p i)

/-- Start or stop the member of an interface. -/
def usbStart (p i : Nat) (s : State) : State :=
  if usbStreams s p i then startMembers p (usbIf s p i) (decide (2 ≤ i)) s else s
def usbStop (p i : Nat) (s : State) : State := stopMembers p (usbIf s p i) (decide (2 ≤ i)) s

/-! ## States -/

/-- Events of a port (R272). -/
def postUsb (code p log data : Nat) (s : State) : State := post code p log data (.res [0x0100 + p]) s

/-- USB_STATE (Table 11-9). -/
def postUsbState (p cause log : Nat) (s : State) : State :=
  postUsb 0x0701 p log ((usbGet s p).st + 256 * (usbGet s p).speed + 65536 * cause) s

/-- R258, R270: the port may connect, not without VUSB33 (Table 16-1). With no chart and in HARBOUR it presents its built-in
functions. -/
def usbMayConnect (s : State) (p : Nat) : Bool :=
  usbAlive s && s.pwr.vusb && (usbGet s p).vbus && !(usbGet s p).byCommand && !(usbGet s p).reconnect
    && (portEnabled s p || s.cs.chart.isNone || s.pwr.dev == .harbour)

/-- Another interface of the port holds the overlay at a setting that names it. -/
def usbHeldElsewhere (s : State) (p i n : Nat) : Bool := (List.range 4).any (fun j => j != i && usbOverlay s p j == n)

/-- A request of no context (R261). -/
def usbRequest (s : State) (n log : Nat) : QueuedAct :=
  let c := s.cs.chart
  { waiter := none, cut := (c.map (fun c => c.ovCut n)).getD false, ramp := (c.map (fun c => c.ovRamp n)).getD 0
    cause := { code := 0, binding := 0xFF, log := log } }

/-- The overlay that an interface leaves is deactivated, as far as its state allows. -/
def usbLeave (n log : Nat) (s : State) : Nat × State :=
  match deactivateRefusal s n with
  | some st => (st, s)
  | none => deactivateOverlay n (usbRequest s n log) s

/-- The activation that an interface's setting waits for, behind the removal swap of the overlay of the setting before. -/
def usbPending (s : State) (p i : Nat) : Option Follow := s.cs.follows.find? (fun f => f.port == p && f.ifc == i)

def usbForget (p i : Nat) (s : State) : State :=
  { s with cs := { s.cs with follows := s.cs.follows.filter (fun f => !(f.port == p && f.ifc == i)) } }

/-- R261: an interface returns to setting 0, which gives up an activation that it waits for; the status of its overlay action. -/
def usbZero (p i log : Nat) (s : State) : Nat × State :=
  if usbAlt s p i = 0 then (stOk, s)
  else
    let n := usbOverlay s p i
    let s1 := usbForget p i (usbStreamMod (usbStop p i s) p i (fun x => { x with alt := 0, discard := false }))
    if n = 0xFF ∨ usbHeldElsewhere s p i n = true then (stOk, s1) else usbLeave n log s1

def usbToZero (p log : Nat) (s : State) (i : Nat) : State := (usbZero p i log s).2

def usbAllZero (p log : Nat) (s : State) : State := (List.range 4).foldl (usbToZero p log) s

/-- The port disconnects (R250); its interfaces return to setting 0. -/
def usbDetach (p cause log : Nat) (s : State) : State :=
  if (usbGet s p).st = 0 then s
  else
    postUsbState p cause log (usbMod (usbAllZero p log s) p (fun u =>
      { u with st := 0, before := 0, speed := 0, link := 0, cfg := 0, addr := 0, reports := [], halted := 0,
               wakeEnabled := false, wakeSignalled := false, wakeDue := false, detach := false, dfuMode := false,
               manifested := false, dfuState := 0, dfuStatus := 0, waiting := none }))

/-- The port may run at SuperSpeed: its entry has SS_ENABLED, or there is none, with the built-in functions (R250, R258). -/
def ssAllowed (s : State) (p : Nat) : Bool :=
  s.cs.chart.isNone || s.pwr.dev == .harbour || bit (u8 (usbEntry s p) 0) 1

def usbAttach (p cause log : Nat) (s : State) : State :=
  postUsbState p cause log (usbMod s p (fun u =>
    if s.pwr.dev = .harbour then { u with st := 4, dfuMode := true, dfuState := 2 } else { u with st := 1 }))

/-- The port connects or disconnects as R250 has it; one that loses SS_ENABLED connects again at high speed. -/
def usbFollow (p cause log : Nat) (s : State) : State :=
  if !usbMayConnect s p then usbDetach p cause log s
  else if (usbGet s p).st = 0 then usbAttach p cause log s
  else if (usbGet s p).speed = 3 ∧ ssAllowed s p = false then usbAttach p cause log (usbDetach p cause log s)
  else s

/-- R22, R250: VBUS rises above 4.0 V, or is lost. -/
def vbusChange (p : Nat) (up : Bool) (s : State) : State :=
  let s1 := usbMod s p (fun u => { u with vbus := up })
  let s2 := if !up && (usbGet s p).vbus then closeContext (2 + p) 2 0 s1 else s1
  let s3 := if up then s2 else ctxMod s2 (2 + p) (fun c => { c with held := [], replies := [] })
  usbFollow p 0 0 s3

/-- R22, R268, R269: a bus reset; the speed of the link is 1 full, 2 high, 3 Super. -/
def usbBusReset (p speed : Nat) (s : State) : State :=
  let u := usbGet s p
  let dfu := s.pwr.dev == .harbour || u.detach || (u.dfuMode && !u.manifested)
  let s1 := ctxMod (usbAllZero p 0 s) (2 + p) (fun c => { c with held := [], replies := [] })
  let s2 := usbMod s1 p (fun u =>
    { u with st := if dfu then 4 else 1, before := 0, speed := speed, link := 0, cfg := 0, addr := 0, reports := [],
             halted := 0, wakeEnabled := false, wakeSignalled := false, wakeDue := false, detach := false, dfuMode := dfu,
             dfuState := if dfu then 2 else 0, dfuStatus := 0, counts := countAll 4 0 u.counts, waiting := none })
  closeContext (2 + p) 1 0 (postUsbState p (if dfu && !u.dfuMode then 5 else 1) 0 s2)

/-- R252: suspend or U3. -/
def execUsbSuspend (port : Fin 2) (s : State) : Host.Outcome State Fault Refusal :=
  whenever (fun s => usbAlive s && (usbGet s port.val).st != 0 && (usbGet s port.val).st != 3)
    (fun s =>
      let p := port.val
      let s1 := (List.range 4).foldl (fun t i => if usbAlt t p i = 0 then t else usbStop p i t) s
      postUsbState p 2 0 (usbMod s1 p (fun u => { u with before := u.st, st := 3, link := 4 }))) s

/-- R252: resume; every member of an interface at a non-zero setting starts in ALIGNING. -/
def usbResume (p : Nat) (s : State) : State :=
  let s1 := postUsbState p 3 0 (usbMod s p (fun u =>
    { u with st := u.before, link := 0, wakeSignalled := false, wakeDue := false }))
  (List.range 4).foldl (fun t i => if usbAlt t p i = 0 then t else usbStart p i t) s1

/-- R253: a wake condition has come, and the port signals remote wake. At SuperSpeed it leaves U3 and sends a Function
Wake notification for interface 0. -/
def execUsbRemoteWakeSignal (port : Fin 2) (s : State) : Host.Outcome State Fault Refusal :=
  whenever (fun s => (usbGet s port.val).st == 3 && (usbGet s port.val).wakeEnabled && (usbGet s port.val).wakeDue)
    (fun s =>
      if (usbGet s port.val).speed = 3 then
        usbMod (usbResume port.val s) port.val (fun u => { u with functionWake := some 0 })
      else usbMod s port.val (fun u => { u with wakeSignalled := true, wakeDue := false })) s

/-- R251: L1 (0), U1 (1) or U2 (2) is accepted only with LPM set and all streaming interfaces at setting 0. -/
def execUsbLinkPowerRequest (port : Fin 2) (kind : Fin 3) (s : State) : Host.Outcome State Fault Refusal :=
  whenever (fun s => usbAlive s && (usbGet s port.val).st != 0 && (usbGet s port.val).st != 3)
    (fun s =>
      let p := port.val
      let accept := bit (u8 (usbEntry s p) 0) 2 && (List.range 4).all (fun i => usbAlt s p i == 0)
        && (usbGet s p).speed == (if kind = 0 then 2 else 3)
      usbMod s p (fun u => if accept then { u with link := kind.val + 1, handshake := 0 }
        else { u with link := 0, handshake := if kind = 0 then 2 else 1 })) s

/-- R259: 200 ms have passed and the new set is in force. -/
def execUsbReconnect (port : Fin 2) (s : State) : Host.Outcome State Fault Refusal :=
  whenever (fun s => (usbGet s port.val).reconnect && s.cs.select.isNone)
    (fun s => usbFollow port.val 4 0 (usbMod s port.val (fun u => { u with reconnect := false }))) s

/-! ## Control requests -/

/-- Handshake of the last request: 0 completed, 1 stalled, 2 NAKed. -/
def usbAnswer (p : Nat) (data : List Byte) (s : State) : State :=
  usbMod s p (fun u => { u with handshake := 0, dataStage := data, link := 0 })

def usbStall (p : Nat) (s : State) : State :=
  usbMod s p (fun u => { u with handshake := 1, dataStage := [], link := 0, counts := countAll 4 2 u.counts })

def usbNak (p : Nat) (s : State) : State := usbMod s p (fun u => { u with handshake := 2, dataStage := [] })

/-- R255: the port NAKs a request until the CP has executed it. -/
def usbHold (p : Nat) (h : UsbHeld) (s : State) : State := usbNak p (usbMod s p (fun u => { u with waiting := some h }))

/-- A new setup stage ends the request before it. -/
def usbSetup (p : Nat) (s : State) : State := usbMod s p (fun u => { u with waiting := none })

/-- A run of descriptors and the one at an index, by their length bytes. -/
def nthDescriptor (l : List Byte) (n : Nat) : Option (List Byte) := (descriptors (l.length + 1) l)[n]?

/-- A descriptor of the chart's set: type and index as in wValue. The layouts are USB's own (PRESUMED). -/
def chartDescriptor (s : State) (p type index : Nat) : Option (List Byte) :=
  let d := usbSet s p
  let part := fun o => if u16 d (o + 2) = 0 then none else some (bytesAt d (u16 d o) (u16 d (o + 2)))
  match type with
  | 1 => part 4
  | 2 => part (if (usbGet s p).speed = 3 then 8 else 12)
  | 3 => nthDescriptor (bytesAt d (u16 d 20) (u16 d 22)) index
  | 7 => if (usbGet s p).speed = 2 then part 12 else none
  | 15 => part 16
  | 0x22 => part 24
  | _ => none

/-- `n` bytes of the part's own descriptors, from place `k`. -/
def romBytes (k n : Nat) : List Byte := (List.range n).map (fun i => Config.usbRom (k + i))

/-- The device is in DFU mode: its built-in descriptors say so (R258, R269). -/
def usbInDfu (s : State) (p : Nat) : Bool := s.pwr.dev == .harbour || (usbGet s p).dfuMode

/-- A bulk endpoint of the vendor interface, EP6 (Table 11-2), with its companion at SuperSpeed. -/
def romBulk (speed address : Nat) : List Byte :=
  [7, 5] ++ b1 address ++ [2] ++ b2 ([64, 64, 512, 1024].getD speed 64) ++ [0]
    ++ if speed = 3 then [6, 0x30] ++ romBytes 90 1 ++ zeros 3 else []

/-- The two built-in interfaces: the vendor interface, and DFU with its functional descriptor (R258, R269). -/
def romInterfaces (s : State) (p : Nat) : List Byte :=
  let speed := (usbGet s p).speed
  [9, 4, 0, 0, 2, 0xFF] ++ romBytes 80 2 ++ [0] ++ romBulk speed 0x06 ++ romBulk speed 0x86
    ++ [9, 4, 1, 0, 0, 0xFE, 1] ++ b1 (1 + flag (usbInDfu s p)) ++ [0]
    ++ [9, 0x21, 5] ++ b2 1000 ++ b2 4096 ++ b2 0x0110

/-- The built-in configuration, self-powered. -/
def romConfiguration (s : State) (p type : Nat) : List Byte :=
  let body := romInterfaces s p
  [9] ++ b1 type ++ b2 (9 + body.length) ++ [2, 1, 0, 0xC0] ++ romBytes 70 1 ++ body

/-- A built-in descriptor (R258). The layouts are USB's own (PRESUMED, log entry 120). -/
def builtinDescriptor (s : State) (p type index : Nat) : Option (List Byte) :=
  match type with
  | 1 => some ([18, 1] ++ romBytes 2 6 ++ romBytes 0 2 ++ b2 (if usbInDfu s p then 0x25DF else 0x2560) ++ romBytes 8 5 ++ [1])
  | 2 => some (romConfiguration s p 2)
  | 3 => some (romBytes (256 * (index + 1)) (Config.usbRom (255 - index)).toNat)
  | 6 => if (usbGet s p).speed = 3 then none else some ([10, 6] ++ romBytes 13 6 ++ [1, 0])
  | 7 => if (usbGet s p).speed = 3 then none else some (romConfiguration s p 7)
  | 15 => some (romBytes 128 (Config.usbRom 127).toNat)
  | 0x21 => some ([9, 0x21, 5] ++ b2 1000 ++ b2 4096 ++ b2 0x0110)
  | 0x22 => some (romBytes 65536 (Config.usbRom 126).toNat)
  | _ => none

/-- GET_DESCRIPTOR: the set in force, cut at wLength. -/
def usbGetDescriptor (p type index length : Nat) (s : State) : State :=
  if usbBuiltin s p ∨ (type = 0x22 ∧ u16 (usbSet s p) 26 = 0) then
    match builtinDescriptor s p type index with
    | some d => usbAnswer p (d.take length) s
    | none => usbStall p s
  else
    match chartDescriptor s p type index with
    | some d => usbAnswer p (d.take length) s
    | none => usbStall p s

/-- Bit of an endpoint in the halt mask. -/
def endpointBit (index : Nat) : Nat := index % 16 + 16 * (index / 128 % 2)

/-- SET_FEATURE and CLEAR_FEATURE: remote wake of the device, FUNCTION_SUSPEND of an interface, halt of an
endpoint, and the U1 and U2 enables, which the part does not use. -/
def usbFeature (p recipient value index : Nat) (on : Bool) (s : State) : State :=
  match recipient, value with
  | 0, 1 => usbAnswer p [] (usbMod s p (fun u => { u with wakeEnabled := on }))
  | 0, 48 => usbAnswer p [] s
  | 0, 49 => usbAnswer p [] s
  | 1, 0 => usbAnswer p [] (usbMod s p (fun u => { u with wakeEnabled := on && bit index 9 }))
  | 2, 0 => usbAnswer p [] (usbMod s p (fun u =>
      { u with halted := if on then u.halted ||| 2 ^ endpointBit index
                         else u.halted - 2 ^ endpointBit index * flag (bit u.halted (endpointBit index)) }))
  | _, _ => usbStall p s

/-- R255: a standard request that the protocol sequencer answers by itself; `recipient` is 0 device, 1 interface,
2 endpoint. -/
def usbStandard (p : Nat) (request : UsbRequest) (recipient v index n : Nat) (s : State) : State :=
  let u := usbGet s p
  match request with
  | .getDescriptor => usbGetDescriptor p (v / 256) (v % 256) n s
  | .getStatus =>
    usbAnswer p ((match recipient with
      | 0 => b2 (1 + 2 * flag (u.wakeEnabled && u.speed != 3))
      | 1 => b2 (if u.speed = 3 then 1 + 2 * flag u.wakeEnabled else 0)
      | _ => b2 (flag (bit u.halted (endpointBit index)))).take n) s
  | .setAddress => usbAnswer p [] (usbMod s p (fun u => { u with addr := v % 128 }))
  | .setFeature => usbFeature p recipient v index true s
  | .clearFeature => usbFeature p recipient v index false s
  | .getConfiguration => usbAnswer p ((b1 u.cfg).take n) s
  | .getInterface =>
    if u.cfg = 0 then usbStall p s
    else
      match (List.range 4).find? (fun i => usbIf s p i == index) with
      | some i => usbAnswer p ((b1 (usbAlt s p i)).take n) s
      | none => usbAnswer p ((zeros 1).take n) s
  | .setSel => usbAnswer p [] s
  | .setIsochDelay => usbAnswer p [] (usbMod s p (fun u => { u with delay := v }))
  | .classGet _ => s
  | .classSet _ => s

/-- A request that the CP executes: it is NAKed and held while the CP does not run (R255). -/
def cpRequest (p : Nat) (h : UsbHeld) (act : State → State) (s : State) : State :=
  if !(usbAlive s && (usbGet s p).st != 0 && (usbGet s p).st != 3) then s
  else if !cpRuns s then usbHold p h s
  else act (usbSetup p s)

/-- Rates that the sampling-frequency control offers, by code (R263, Table 11-6). -/
def usbRates (s : State) (p : Nat) : List Nat :=
  (List.range 12).filter (fun c => rateAllowed s (usbDomain s p) c
    && ((usbGet s p).speed == 3 || decide (codeHz c ≤ 96000)))

/-- GET of the clock source entity: CUR and RANGE of the sampling frequency, and CUR of the valid control (R263). The
parameter blocks are UAC 2.0's (PRESUMED). -/
def clockGet (s : State) (p request control : Nat) : Option (List Byte) :=
  match control, request with
  | 1, 1 => some (b4 (usbHz s p))
  | 1, 2 => some (b2 (usbRates s p).length ++ (usbRates s p).flatMap (fun c => b4 (codeHz c) ++ b4 (codeHz c) ++ b4 0))
  | 2, 1 => some (b1 (flag ((domGet s (usbDomain s p)).st == 2)))
  | _, _ => none

/-- FU_MAP record i (Table 11-5): unit, channel, slot. -/
def fuRecord (s : State) (p i : Nat) : Nat × Nat × Nat :=
  let e := usbEntry s p
  (u8 e (8 + 4 * i), u8 e (9 + 4 * i), u16 e (10 + 4 * i))

/-- The FU_MAP record of a control of the chart's feature units. -/
def fuFind (s : State) (p unit channel : Nat) : Option Nat :=
  (List.range 8).find? (fun i => !usbBuiltin s p && (fuRecord s p i).1 == unit
    && (fuRecord s p i).2.1 == channel && (fuRecord s p i).2.2 != 0xFFFF)

def fuGet (s : State) (p r : Nat) : Feature := tget { volume := 0, mute := false } (usbGet s p).features r

/-- GET of a mapped control: its own mute and volume, and the volume's range in steps of 128 (R266). -/
def featureGet (s : State) (p unit channel request control : Nat) : Option (List Byte) :=
  (fuFind s p unit channel).bind (fun r =>
    let e := usbEntry s p
    match control, request with
    | 1, 1 => some (b1 (flag (fuGet s p r).mute))
    | 2, 1 => some (sb2 (clampInt (s16 e 4) (s16 e 6) (fuGet s p r).volume))
    | 2, 2 => some (b2 1 ++ sb2 (s16 e 4) ++ sb2 (s16 e 6) ++ b2 128)
    | _, _ => none)

/-- Interface numbers of the roles without streams (Table 11-3): 0 audio control, 1 HID, 2 vendor, 3 DFU. The built-in set has
the vendor interface at 0 and DFU at 1 (PRESUMED, log entry 120). -/
def usbRole (s : State) (p k : Nat) : Nat :=
  if usbBuiltin s p then [0xFF, 0xFF, 0, 1].getD k 0xFF else u8 (usbSet s p) (32 + k)

/-- GETSTATUS and GETSTATE of DFU 1.1; bwPollTimeout is 10 ms while a block is written and 100 ms during manifestation
(R432). Upload is not supported (R249). -/
def dfuGet (s : State) (p request : Nat) : Option (List Byte) :=
  let u := usbGet s p
  let poll := if u.dfuState = 4 then 10 else if u.dfuState = 7 then 100 else 0
  match request with
  | 3 => some (b1 u.dfuStatus ++ b1 poll ++ zeros 2 ++ b1 u.dfuState ++ zeros 1)
  | 5 => some (b1 u.dfuState)
  | _ => none

/-- What a class request of an interface reads; none where it is stalled. HID has an input report only, no boot protocol
(Table 11-1). -/
def classRead (s : State) (p request value index : Nat) : Option (List Byte) :=
  let ifc := index % 256
  if ifc = 0xFF then none
  else if ifc = usbRole s p 3 then dfuGet s p request
  else if usbBuiltin s p then none
  else if ifc = usbRole s p 0 then
    if index / 256 = u8 (usbSet s p) 36 then clockGet s p request (value / 256)
    else featureGet s p (index / 256) (value % 256) request (value / 256)
  else if ifc = usbRole s p 1 ∧ request = 1 ∧ value / 256 = 1 then some (b1 (usbGet s p).hid)
  else none

/-- A class request without a row of its own. Whether the part supports the idle rate of HID is open: free. -/
def usbClass (p : Nat) (get : Bool) (request value index n : Nat) (s : State) : State :=
  let idle := index % 256 = usbRole s p 1 ∧ usbBuiltin s p = false ∧ request = (if get then 2 else 0x0A)
  if idle then
    let t := { s with free := s.free + 1 }
    if openValue s 0 % 2 = 0 then usbStall p t else usbAnswer p (if get then (b1 (openValue s 1 % 256)).take n else []) t
  else
    match if get then classRead s p request value index else none with
    | some d => usbAnswer p (d.take n) s
    | none => usbStall p s

/-- R255: the protocol sequencer answers a standard request by itself; a class request passes to the CP. -/
def execUsbStandardRequest (port : Fin 2) (request : UsbRequest) (recipient : Fin 3) (value index length : BitVec 16)
    (s : State) : Host.Outcome State Fault Refusal :=
  let p := port.val
  .next (match request with
    | .classGet r => cpRequest p (.classRequest true r value index length)
        (usbClass p true r.toNat value.toNat index.toNat length.toNat) s
    | .classSet r => cpRequest p (.classRequest false r value index length)
        (usbClass p false r.toNat value.toNat index.toNat length.toNat) s
    | _ =>
      if usbAlive s && (usbGet s p).st != 0 && (usbGet s p).st != 3 then
        usbStandard p request recipient.val value.toNat index.toNat length.toNat (usbSetup p s)
      else s)

/-- bConfigurationValue of the set in force; 1 for the built-in one (PRESUMED). -/
def usbConfigValue (s : State) (p : Nat) : Nat :=
  if usbBuiltin s p then 1 else ((chartDescriptor s p 2 0).map (fun d => u8 d 5)).getD 1

/-- R255: SET_CONFIGURATION; every interface is at setting 0 after it. -/
def setConfigurationDo (p cfg : Nat) (s : State) : State :=
  if cfg ≠ 0 ∧ cfg ≠ usbConfigValue s p then usbStall p s
  else
    let s1 := usbAllZero p 0 s
    usbAnswer p [] (usbMod s1 p (fun u =>
      { u with cfg := cfg, halted := 0, st := if u.st = 4 then 4 else if cfg = 0 then 1 else 2 }))

def execSetConfiguration (port : Fin 2) (cfg : Byte) (s : State) : Host.Outcome State Fault Refusal :=
  .next (cpRequest port.val (.setConfiguration cfg) (setConfigurationDo port.val cfg.toNat) s)

/-- USB_ALT_CHANGED (Table 11-9). -/
def postAlt (p i alt status : Nat) (stalled : Bool) (log : Nat) (s : State) : State :=
  postUsb 0x0702 p log (i + 256 * alt + 65536 * status + 16777216 * flag stalled) s

/-- R261: the overlay action of a new setting: its status, and its effect when it does not stall. The
interface's previous overlay counts as out of service, and the activation follows its removal swap. An interface whose setting
still waits for an activation has that overlay's predecessor as its previous one. -/
def usbEnter (p i n log : Nat) (s : State) : Nat × State :=
  let pend := usbPending s p i
  let old := (pend.map (·.old)).getD (usbOverlay s p i)
  let away := old != 0xFF && old != n
  let l := fun (s : State) => if away && pend.isNone then (usbLeave old log (usbForget p i s)).2 else usbForget p i s
  if n = 0xFF ∨ (ovGet s n).st ∈ [1, 2, 3, 6] then (stOk, l s)
  else
    let without := if away then tset Overlay.inactive s.cs.overlays old Overlay.inactive else s.cs.overlays
    match activateRefusal { s with cs := { s.cs with overlays := without } } n with
    | some st => (st, s)
    | none =>
      let t := l s
      if away ∧ (ovGet t old).st ≠ 0 then
        (stQueued, { t with cs := { t.cs with follows := t.cs.follows ++
          [{ old := old, ov := n, port := p, ifc := i, req := usbRequest t n log }] } })
      else activateOverlay n (usbRequest t n log) t

/-- The statuses of R261 that stall a request. -/
def usbStalls (status : Nat) : Bool := status == stConflict || status == stNoCapacity || status == stWrongState

/-- The nominal F of a rate in 16.16 (R264). -/
def nominalF (hz : Nat) : Nat := (divNear ((hz : Int) * 65536) 8000).toNat

/-- R261 for a streaming interface. At a rate that the port cannot carry at its speed (Table 11-6) the request stalls
(DESIGN CHOICE, log entry 126). -/
def usbSetAlt (p i alt log : Nat) (s : State) : State :=
  let s0 := if usbAlt s p i = 0 then s else usbStop p i s
  if alt = 0 then
    let z := usbZero p i log s
    postAlt p i 0 z.1 false log (usbAnswer p [] z.2)
  else
    match usbRecord s p i alt with
    | none => postAlt p i alt stBadParam true log (usbStall p s)
    | some r =>
      let n := u8 r 5
      let e := if usbRateFits s p then usbEnter p i n log s0 else (stWrongState, s0)
      if usbStalls e.1 then postAlt p i alt e.1 true log (usbStall p s)
      else
        let t := usbStreamMod e.2 p i (fun x =>
          { x with alt := alt, f := nominalF (usbHz s p), ms := 0, acc := 0, discard := false })
        postAlt p i alt e.1 false log (usbAnswer p [] (usbStart p i t))

/-- R255, R261: SET_INTERFACE, a command of no context with a log number. -/
def setInterfaceDo (p ifc alt : Nat) (s : State) : State :=
  if (usbGet s p).cfg = 0 then usbStall p s
  else
    match (List.range 4).find? (fun i => !usbBuiltin s p && usbIf s p i == ifc && ifc != 0xFF) with
    | some i => usbSetAlt p i alt s.host.log (takeLog s)
    | none => if alt = 0 then usbAnswer p [] s else usbStall p s

def execSetInterface (port : Fin 2) (ifc alt : Byte) (s : State) : Host.Outcome State Fault Refusal :=
  .next (cpRequest port.val (.setInterface ifc alt) (setInterfaceDo port.val ifc.toNat alt.toNat) s)

/-- A rate that the sampling-frequency control offers (R263, Table 11-6): its code. -/
def usbRate (s : State) (p hz : Nat) : Option Nat := (usbRates s p).find? (fun c => codeHz c == hz)

/-- R263: SET CUR of the sampling frequency of the clock source entity CLOCK_ID (Table 11-3). -/
def frequencyDo (p entity hz : Nat) (s : State) : State :=
  if usbBuiltin s p ∨ entity ≠ u8 (usbSet s p) 36 then usbStall p s
  else
    let log := s.host.log
    let t := takeLog s
    match usbRate s p hz with
    | some c => postUsb 0x0703 p log c (usbAnswer p [] (commitRate (usbDomain s p) c log t))
    | none =>
      let code := ((List.range 12).find? (fun c => codeHz c == hz)).getD 0xFF
      postUsb 0x0703 p log (code + 256) (usbStall p t)

def execUacSamplingFreqSet (port : Fin 2) (entity : Byte) (hz : Nat) (s : State) : Host.Outcome State Fault Refusal :=
  .next (cpRequest port.val (.frequency entity hz) (frequencyDo port.val entity.toNat hz) s)

/-- A level of 1/256 dB as the word that SET_PARAM's dB format gives, through 0.01 dB (log entry 45). -/
def volumeWord (v : Int) : Word := paramTarget (zeros 2 ++ b1 1 ++ zeros 1 ++ sb4 (divNear (v * 100) 256))

/-- R266: the slot takes the value with its stored ramp time, where it is in service. -/
def volumeCommit (slot : Nat) (w : Word) (log : Nat) (s : State) : State :=
  if slotOutOfService s slot || slotInHandover s slot then s else commitSlot slot w 0xFFFF log s

/-- R266: a volume or mute request on a mapped control; USB_VOLUME tells each change. -/
def featureDo (p unit channel : Nat) (isMute : Bool) (value : BitVec 16) (s : State) : State :=
  match fuFind s p unit channel with
  | none => usbStall p s
  | some r =>
    let log := s.host.log
    let e := usbEntry s p
    let old := fuGet s p r
    let new : Feature := if isMute then { old with mute := value.toNat % 256 != 0 }
      else { old with volume := clampInt (s16 e 4) (s16 e 6) value.toInt }
    let w := if new.mute then 0 else volumeWord (clampInt (s16 e 4) (s16 e 6) new.volume)
    let t := usbMod (takeLog s) p (fun u => { u with features := tset { volume := 0, mute := false } u.features r new })
    let t1 := usbAnswer p [] (volumeCommit (fuRecord s p r).2.2 w log t)
    if new = old then t1 else postUsb 0x0704 p log (r + 256 * flag new.mute + 65536 * unsigned 16 new.volume) t1

def execUacFeatureUnitSet (port : Fin 2) (unit channel : Byte) (isMute : Bool) (value : BitVec 16) (s : State) :
    Host.Outcome State Fault Refusal :=
  .next (cpRequest port.val (.feature unit channel isMute value)
    (featureDo port.val unit.toNat channel.toNat isMute value) s)

/-! ## Streaming -/

/-- R264: F in 16.16, from Rm in 0.001 Hz and the average fill in 1/256 sample. Updates come every 1 ms, so that Rm is the
nominal rate for the first 1,000 of them. -/
def feedbackF (hz nominal rm fill : Nat) : Nat :=
  let f := divNear ((rm : Int) * 65536 + ((nominal * 256 : Nat) - (fill : Int)) * 8000000) 8000000
  let mid : Int := nominalF hz
  (clampInt (mid - 8192) (mid + 8192) f).toNat

/-- R264; `lost` of the interface's packets were lost or in error in that 1 ms (Table 11-8). -/
def execUsbFeedbackUpdate (port i : Fin 2) (rm fill lost : Nat) (s : State) : Host.Outcome State Fault Refusal :=
  let p := port.val
  whenever (fun s => (usbGet s p).st == 2 && usbAlt s p i.val != 0 && usbRateFits s p)
    (fun s =>
      let k := ((usbRecord s p i.val (usbAlt s p i.val)).map (fun r => u8 r 6)).getD 0
      let s := usbMod s p (fun u => { u with counts := addAll 4 1 lost u.counts })
      usbStreamMod s p i.val (fun x =>
        { x with f := feedbackF (usbHz s p) (convoyNominal s k) (if x.ms < 1000 then usbHz s p * 1000 else rm) fill
                 ms := min (x.ms + 1) 1000 })) s

/-- R265: the samples per channel that a service interval carries. -/
def execUsbCaptureInterval (port i : Fin 2) (s : State) : Host.Outcome State Fault Refusal :=
  let p := port.val
  whenever (fun s => (usbGet s p).st == 2 && usbAlt s p (2 + i.val) != 0 && usbRateFits s p)
    (fun s => usbStreamMod s p (2 + i.val) (fun x =>
      { x with sent := (x.acc + usbHz s p) / 8000, acc := (x.acc + usbHz s p) % 8000 })) s

/-- R267: the oldest report that waits is sent. During a CP absence reports wait (Table 18-7). -/
def execHidReportSend (port : Fin 2) (s : State) : Host.Outcome State Fault Refusal :=
  whenever (fun s => !s.host.absent && (usbGet s port.val).st == 2 && !decide ((usbGet s port.val).reports = []))
    (fun s => usbMod s port.val (fun u => { u with reports := u.reports.drop 1 })) s

/-- R269: DFU_DETACH; stalled unless the port's context is open and owns or shares firmware update. -/
def dfuDetachDo (p : Nat) (s : State) : State :=
  if (usbGet s p).st = 4 then usbStall p s
  else if isOpen s (2 + p) && canChange s (ctxOf (2 + p)) 0x0B00 then
    usbAnswer p [] (usbMod s p (fun u => { u with detach := true }))
  else usbStall p s

def execDfuDetach (port : Fin 2) (s : State) : Host.Outcome State Fault Refusal :=
  .next (cpRequest port.val .dfuDetach (dfuDetachDo port.val) s)

/-- R269: 1,000 ms without a bus reset. -/
def execDfuDetachTimeout (port : Fin 2) (s : State) : Host.Outcome State Fault Refusal :=
  whenever (fun s => (usbGet s port.val).detach) (fun s => usbMod s port.val (fun u => { u with detach := false })) s

/-! ## Headset buttons (R220) -/

/-- The mic bias output that a jack's entry names is on (MICBIAS 1 or 2). -/
def jackBiasOn (s : State) (j : Nat) : Bool :=
  let m := u8 (outEntry s j) 8
  (m == 1 && (micGet s 0).st == 2) || (m == 2 && (micGet s 1).st == 2)

/-- Window limits in force: those of BUTTON_WINDOWS_SET, else the entry's; and the debounce in ms. -/
def buttonLimits (s : State) (j : Nat) : List Nat :=
  let q := jackGet s j
  let e := outEntry s j
  if q.debounceMs = 0 then [u16 e 10, u16 e 12, u16 e 14, u16 e 16] else [q.u0, q.u1, q.u2, q.u3]
def buttonDebounce (s : State) (j : Nat) : Nat :=
  if (jackGet s j).debounceMs = 0 then u8 (outEntry s j) 9 else (jackGet s j).debounceMs

/-- The window of a scan: the first limit above the ratio, 0xFF for none. -/
def buttonWindow (limits : List Nat) (line bias : Nat) : Nat :=
  ((List.range limits.length).find? (fun k => decide (line * 1000 < limits.getD k 0 * bias))).getD 0xFF

/-- BUTTON (R222): the window, with bit 8 at a press and the time held at a release. -/
def postButton (j data : Nat) (s : State) : State := post 0x0A03 j 0 data (.res [0x0400 + j]) s

def buttonRelease (j : Nat) (s : State) : State :=
  let q := jackGet s j
  if q.button = 0xFF then s
  else
    (hidPorts s j).foldl (fun t p => hidBit p q.button false t)
      (postButton j (q.button + 65536 * min q.pressedMs 0xFFFF)
        (jackMod s j (fun q => { q with button := 0xFF, pressedMs := 0 })))

def buttonPress (j w : Nat) (s : State) : State :=
  if w = 0xFF then s
  else
    (hidPorts s j).foldl (fun t p => hidBit p w true t)
      (jackWakes j 4 (postButton j (w + 256) (jackMod s j (fun q => { q with button := w, pressedMs := 0 }))))

/-- The buttons of a jack are scanned (R220). -/
def buttonsScanned (s : State) (j : Nat) : Bool :=
  (jackGet s j).st == 3 && ((jackGet s j).class_ == 2 || (jackGet s j).class_ == 3) && jackMode s j != 0 && jackBiasOn s j

/-- R220: one scan each ms, of the microphone line and the mic bias voltage in one unit. -/
def execButtonScan (j : Fin 2) (line bias : Nat) (s : State) : Host.Outcome State Fault Refusal :=
  whenever (fun s => buttonsScanned s j.val)
    (fun s =>
      let n := j.val
      let w := buttonWindow (buttonLimits s n) line bias
      let s1 := jackMod s n (fun q =>
        { q with cand := w, candMs := if q.cand = w then q.candMs + 1 else 0, pressedMs := min (q.pressedMs + 1) 0xFFFF })
      let q := jackGet s1 n
      if w = q.button then s1
      else if q.button ≠ 0xFF then
        -- a release needs only that the ratio stays outside the pressed window
        let out := if (jackGet s n).cand = q.button then 0 else q.outMs + 1
        let s2 := jackMod s1 n (fun q => { q with outMs := out })
        if buttonDebounce s n ≤ out then
          let s3 := buttonRelease n (jackMod s2 n (fun q => { q with outMs := 0 }))
          if buttonDebounce s n ≤ q.candMs then buttonPress n w s3 else s3
        else s2
      else if buttonDebounce s n ≤ q.candMs then buttonPress n w s1
      else s1) s

/-! ## Group 0x07 -/

def usbStatusCheck (p : List Byte) (_ : State) : Option Nat :=
  firstRefusal [(decide (1 < u8 p 0) || decide (1 < u8 p 1), stBadParam)]

def usbStatusDo (o : Issue) (p : List Byte) (_ : Nat) (s : State) : Done :=
  let n := u8 p 0
  let u := usbGet s n
  let c := 4 * ctxNum o.ctx
  okWith (b1 u.st ++ b1 u.speed ++ b1 u.link ++ b1 u.cfg ++ (List.range 4).flatMap (fun i => b1 (usbAlt s n i))
      ++ b1 (flag u.wakeEnabled + 2 * flag (isOpen s (2 + n)) + 4 * flag u.byCommand) ++ b1 (domainRate s (usbDomain s n))
      ++ zeros 2 ++ b4 (usbStream s n 0).f ++ b4 (usbStream s n 1).f
      ++ b4 (tget 0 u.counts c) ++ b4 (tget 0 u.counts (c + 1)) ++ b4 (tget 0 u.counts (c + 2)))
    (if u8 p 1 = 1 then usbMod s n (fun u => { u with counts := clearFor 4 (ctxNum o.ctx) u.counts }) else s)

def execUsbStatus (o : Issue) (p : List Byte) (s : State) : Host.Outcome State Fault Refusal :=
  hostCommand 0x0701 o p (usbStatusCheck p) (usbStatusDo o p) s

/-- R271 for a command that changes a port. -/
def usbChangeCheck (o : Issue) (n : Nat) (bad wrong : Bool) (s : State) : Option Nat :=
  firstRefusal
    [(decide (1 < n) || bad, stBadParam),
     (!canChange s o.ctx (0x0100 + n), stNotOwner),
     (!portEnabled s n || wrong, stWrongState)]

def usbConnectCheck (o : Issue) (p : List Byte) (s : State) : Option Nat :=
  usbChangeCheck o (u8 p 0) (decide (1 < u8 p 1)) false s

def usbConnectDo (p : List Byte) (log : Nat) (s : State) : Done :=
  ok (usbFollow (u8 p 0) 4 log (usbMod s (u8 p 0) (fun u => { u with byCommand := u8 p 1 == 0 })))

def execUsbConnect (o : Issue) (p : List Byte) (s : State) : Host.Outcome State Fault Refusal :=
  hostCommand 0x0702 o p (usbConnectCheck o p) (usbConnectDo p) s

def usbHidSendCheck (o : Issue) (p : List Byte) (s : State) : Option Nat :=
  usbChangeCheck o (u8 p 0) (decide (4 < u8 p 1) || decide (2 < u8 p 2)) (!bit (u8 (usbEntry s (u8 p 0)) 0) 6) s

def usbHidSendDo (p : List Byte) (_ : Nat) (s : State) : Done :=
  let n := u8 p 0
  let k := u8 p 1
  match u8 p 2 with
  | 0 => ok (hidBit n k false s)
  | 1 => ok (hidBit n k true s)
  | _ => ok (hidBit n k false (hidBit n k true s))

def execUsbHidSend (o : Issue) (p : List Byte) (s : State) : Host.Outcome State Fault Refusal :=
  hostCommand 0x0703 o p (usbHidSendCheck o p) (usbHidSendDo p) s

def usbRemoteWakeCheck (o : Issue) (p : List Byte) (s : State) : Option Nat :=
  usbChangeCheck o (u8 p 0) false ((usbGet s (u8 p 0)).st != 3 || !(usbGet s (u8 p 0)).wakeEnabled) s

def usbRemoteWakeDo (p : List Byte) (_ : Nat) (s : State) : Done := ok (wakeDue (u8 p 0) s)

def execUsbRemoteWake (o : Issue) (p : List Byte) (s : State) : Host.Outcome State Fault Refusal :=
  hostCommand 0x0704 o p (usbRemoteWakeCheck o p) (usbRemoteWakeDo p) s

def usbStreamStatusCheck (p : List Byte) (_ : State) : Option Nat :=
  firstRefusal [(decide (1 < u8 p 0) || decide (3 < u8 p 1), stBadParam)]

/-- USB_STREAM_STATUS; at setting 0 there is no record, and the fields of one are 0 and 0xFF. The samples of the
last second are time, which the model does not keep: free. -/
def usbStreamStatusResult (p : List Byte) (s : State) : List Byte :=
  let n := u8 p 0
  let i := u8 p 1
  match usbRecord s n i (usbAlt s n i) with
  | some r => b1 (usbAlt s n i) ++ b1 (u8 r 3) ++ b1 (u8 r 4) ++ b1 (u8 r 5) ++ b1 (u8 r 6)
      ++ b1 (memGet s (u8 r 6) (u8 r 7)).st ++ zeros 2 ++ b4 (openValue s 0)
  | none => b1 (usbAlt s n i) ++ zeros 2 ++ b1 0xFF ++ b1 (openValue s 1) ++ zeros 3 ++ b4 0

def execUsbStreamStatus (o : Issue) (p : List Byte) (s : State) : Host.Outcome State Fault Refusal :=
  hostCommand 0x0705 o p (usbStreamStatusCheck p) (reads (usbStreamStatusResult p)) s

end Sys2Proof.Machine
end

