-- ==== Sys2Proof/Machine/Net.lean ====
section
/-! DEFINITION. The MAC: counters, transmit queues, frames sent, PAUSE, PHY management and the reports of the
port (chapter 12). Received frames are in Frames.lean, with the streams they carry. -/

namespace Sys2Proof.Machine

/-! ## Access -/

def macMod (s : State) (f : Mac → Mac) : State := { s with net := { s.net with mac := f s.net.mac } }

/-- The ETH port entry (Table 12-2). -/
def ethEntry (s : State) : List Byte := entryOf s 2
def ethMode (s : State) : Nat := u8 (ethEntry s) 1
def pauseHonor (s : State) : Bool := bit (u8 (ethEntry s) 0) 1
def mdioEnabled (s : State) : Bool := portEnabled s 2 && bit (u8 (ethEntry s) 0) 3
def ethMaxLen (s : State) : Nat := maxLen (ethEntry s)

/-- Data rate of the link in bit/s (Table 12-1). -/
def ethRate (s : State) : Nat := if ethMode s = 1 then 2500000000 else 1000000000

/-- The port works in these states (Table 16-5, R277). -/
def netAlive (s : State) : Bool := portEnabled s 2 && s.pwr.dev ∈ [Dev.active, Dev.doze, Dev.test, Dev.recovery]

def linkUp (s : State) : Bool := s.net.mac.link == 2

/-- The station address in use, in transmission order (R275); the factory one is a free value. -/
def stationAddress (s : State) : List Byte :=
  let a := bytesAt (ethEntry s) 6 6
  if uN a 0 6 = 0 then (List.range 6).map Config.content else a

/-- ETH_PHY_RSTN is low in the fault states of the part (R279), and then as the port has it. -/
def phyReset (low : Bool) (s : State) : State := macMod s (fun m => { m with phyReleased := !low && portEnabled s 2 })

/-- Events of the port concern external port 2 (R296, R325), with the log number of the command that caused them (R37). -/
def postEthFor (log code inst data : Nat) (s : State) : State := post code inst log data (.res [0x0102]) s

def postEth (code inst data : Nat) (s : State) : State := postEthFor 0 code inst data s

/-! ## Counters (R294, R295) -/

/-- Counters of a group (Tables 12-7 to 12-11). -/
def groupSize (g : Nat) : Nat := [9, 14, 6, 13, 4].getD g 0

def macCounter (s : State) (g i : Nat) : Nat := tget 0 s.net.mac.counts (16 * g + i)

/-- Bit 31 of a counter has set: HALF advances, and NET_COUNTER_HALF is posted, or folded for 100 ms. -/
def halfSet (g i : Nat) (s : State) : State :=
  let s1 := macMod s (fun m => { m with halves := tset 0 m.halves (16 * g + i) ((tget 0 m.halves (16 * g + i) + 1) % 256) })
  if tget 0 s.net.mac.folding g = 1 then
    macMod s1 (fun m => { m with folds := tset 0 m.folds g (tget 0 m.folds g ||| 2 ^ i) })
  else postEth 0x0881 g (2 ^ i) (macMod s1 (fun m => { m with folding := tset 0 m.folding g 1, folds := tset 0 m.folds g 0 }))

/-- Add to a counter of the port. -/
def macAdd (g i n : Nat) (s : State) : State :=
  let old := macCounter s g i
  let new := (old + n) % 2 ^ 32
  let s1 := macMod s (fun m => { m with counts := tset 0 m.counts (16 * g + i) new })
  if !bit old 31 && bit new 31 then halfSet g i s1 else s1

def macCount (g i : Nat) (s : State) : State := macAdd g i 1 s

/-- R295: 100 ms after NET_COUNTER_HALF. What has folded is posted, which starts the next 100 ms. -/
def halfFoldEnd (g : Nat) (s : State) : State :=
  let f := tget 0 s.net.mac.folds g
  if f = 0 then macMod s (fun m => { m with folding := tset 0 m.folding g 0 })
  else postEth 0x0881 g f (macMod s (fun m => { m with folds := tset 0 m.folds g 0 }))

def execCounterHalfFoldEnd (g : Fin 5) (s : State) : Host.Outcome State Fault Refusal :=
  whenever (fun s => tget 0 s.net.mac.folding g.val == 1) (halfFoldEnd g.val) s

/-! ## Transmit queues (R286 to R289) -/

/-- A control frame is offered to queue C: gPTP, or MSRP and IEEE 1722.1. -/
def offerControl (kind : Nat) (dest : List Byte) (type : Nat) (body : List Byte) (s : State) : State :=
  let f := dest ++ stationAddress s ++ b1 (type / 256) ++ b1 type ++ body
  if !linkUp s then s
  else if ethMaxLen s < f.length + 4 then macCount 4 0 s
  else if 32 ≤ s.net.mac.queueC.length then macCount 4 3 s
  else macMod s (fun m => { m with queueC := m.queueC ++
    [{ bytes := f, tagged := false, kind := kind, stream := 0xFF, time := 0 }] })

/-- A number as `n` bytes, high byte first. -/
def beBytes (n x : Nat) : List Byte := (leN n x).reverse

/-- A field of a message that the specification leaves open: free. -/
def freeField (n : Nat) (s : State) : List Byte × State :=
  ((List.range n).map (fun i => BitVec.ofNat 8 (Config.answer s.free (64 + i)).toNat), { s with free := s.free + 1 })

/-- clockIdentity (Table 13-1). -/
def clockIdentity (s : State) : BitVec 64 :=
  let a := stationAddress s
  BitVec.ofNat 64 (beN (a.take 3 ++ [0xFF, 0xFE] ++ a.drop 3) 0 8)

/-- A gPTP message of the part enters queue C (R286, R297): its type and logMessageInterval, what of its body is given, and how
many bytes of it are the outside's. The layout is IEEE 802.1AS's (PRESUMED, log entry 127); domain 0, port 1. -/
def gptpSend (type interval : Nat) (given : List Byte) (n : Nat) (s : State) : State :=
  let f := freeField (17 + n) s
  offerControl 0 [0x01, 0x80, 0xC2, 0x00, 0x00, 0x0E] 0x88F7
    (b1 (16 + type) ++ [0x12] ++ beBytes 2 (34 + given.length + n) ++ zeros 2 ++ f.1.take 14 ++ beBytes 8 (clockIdentity s).toNat
      ++ [0, 1] ++ (f.1.drop 14).take 3 ++ b1 interval ++ given ++ f.1.drop 17) f.2

/-- Pdelay_Req, of a new exchange (R298). -/
def sendPdelayReq (s : State) : State := gptpSend 2 0 [] 20 s

/-- The answer to a neighbour's Pdelay_Req: Pdelay_Resp and its follow-up. -/
def answerPdelay (s : State) : State := gptpSend 10 0x7F [] 20 (gptpSend 3 0x7F [] 20 s)

/-- Sync and its Follow_Up, every 125 ms (Table 13-1). -/
def sendSync (s : State) : State := gptpSend 8 0xFD [] 42 (gptpSend 0 0xFD [] 10 s)

/-- Announce, every 1 s, with the settings of Table 13-1 and the part's own path. -/
def sendAnnounce (s : State) : State :=
  let g := s.net.gptp
  let u := freeField 3 s
  gptpSend 11 0 (zeros 10 ++ u.1 ++ b1 g.priority1 ++ b1 (if g.priority1 = 255 then 255 else 248) ++ [0xFE, 0x43, 0x6A]
    ++ b1 g.priority2 ++ beBytes 8 (clockIdentity s).toNat ++ zeros 2 ++ [0xA0] ++ [0, 8, 0, 8]
    ++ beBytes 8 (clockIdentity s).toNat) 0 u.2

/-- Stream frames wait in queue A or B in the order they come. -/
def offerStream (classB : Bool) (fs : List TxFrame) (s : State) : State :=
  macMod s (fun m => if classB then { m with queueB := m.queueB ++ fs } else { m with queueA := m.queueA ++ fs })

/-- One more frame of a stream, in every context's copy (R324). -/
def streamCount (n i : Nat) (s : State) : State :=
  netMod s (fun v => { v with streams := tmod Stream.off v.streams n (fun q =>
    { q with counts := (List.range 5).foldl (fun t x => tincrSat 32 t (8 * x + i)) q.counts }) })

def crfCount (n i : Nat) (s : State) : State :=
  netMod s (fun v => { v with crfs := tmod Stream.off v.crfs n (fun q =>
    { q with counts := (List.range 5).foldl (fun t x => tincrSat 32 t (8 * x + i)) q.counts }) })

/-- Individual, broadcast or other group address, as index 0, 2 or 1 of three counters. -/
def addressKind (f : List Byte) : Nat :=
  if beN f 0 6 = 0xFFFFFFFFFFFF then 2 else if bit (u8 f 0) 0 then 1 else 0

/-- R286, R287: a frame is sent, padded to 64 bytes with its FCS. -/
def sendFrame (f : TxFrame) (s : State) : State :=
  let b := if f.bytes.length < 60 then f.bytes ++ zeros (60 - f.bytes.length) else f.bytes
  let s1 := macMod s (fun m => { m with wire := b })
  let s2 := macCount 3 (2 + addressKind b) (macCount 3 1 (macAdd 3 0 (b.length + 4) s1))
  let s3 := if f.tagged then macCount 3 5 s2 else s2
  let s4 := if f.bytes.length < 60 then macCount 3 6 s3 else s3
  match f.kind with
  | 0 => macCount 3 10 s4
  | 1 => macCount 3 11 s4
  | _ => macCount 3 7 (if f.stream < 32 then streamCount f.stream 0 s4 else crfCount 0 0 s4)

/-- Time that a frame takes on the link, in 0.1 ns: preamble, frame and FCS (IEEE 802.3, log entry 50). -/
def frameTime (s : State) (f : TxFrame) : Nat := (8 + max (f.bytes.length + 4) 64) * 80000000000 / ethRate s

/-- The head of queue `k` is sent. -/
def sendHead (k : Nat) (q : List TxFrame) (put : List TxFrame → Mac → Mac) (s : State) : State :=
  match q with
  | [] => macMod s (fun m => { m with sending := 0, sendTime := 0 })
  | f :: r => sendFrame f (macMod s (fun m => { put r m with sending := k, sendTime := frameTime s f }))

/-- R286: the head of the first eligible queue of A, B and C; A and B are eligible while their credit is 0 or more. -/
def frameStart (s : State) : State :=
  let m := s.net.mac
  if decide (0 ≤ m.creditA) && !m.queueA.isEmpty then sendHead 1 m.queueA (fun r m => { m with queueA := r }) s
  else if decide (0 ≤ m.creditB) && !m.queueB.isEmpty then sendHead 2 m.queueB (fun r m => { m with queueB := r }) s
  else sendHead 3 m.queueC (fun r m => { m with queueC := r }) s

/-- A queue that empties sets a positive credit to 0 (R311). -/
def emptied (q : List TxFrame) (credit : Int) : Int := if q.isEmpty then min credit 0 else credit

/-- R289: stream frames whose presentation time gPTP time has reached are discarded, even during a pause. -/
def lateDiscard (now : Nat) (s : State) : State :=
  let late := fun (q : List TxFrame) => (q.filter (fun f => decide (f.time ≤ now))).length
  let keep := fun (q : List TxFrame) => q.filter (fun f => !decide (f.time ≤ now))
  macAdd 4 1 (late s.net.mac.queueA + late s.net.mac.queueB)
    (macMod s (fun m =>
      { m with queueA := keep m.queueA, queueB := keep m.queueB
               creditA := emptied (keep m.queueA) m.creditA, creditB := emptied (keep m.queueB) m.creditB }))

def execTxLateDiscard (now : Nat) (s : State) : Host.Outcome State Fault Refusal := .next (lateDiscard now s)

/-! ## PAUSE (R290, R291) -/

/-- NET_PAUSE, no more than once per second (Table 12-14). -/
def postPause (data : Nat) (s : State) : State :=
  let d := if s.net.mac.pausePosted then drawElapsed s else (true, s)
  if d.1 then postEth 0x0882 0 data (macMod d.2 (fun m => { m with pausePosted := true })) else d.2

/-- A pause in force ends; `zero`: by a frame with q = 0. -/
def endPause (zero : Bool) (s : State) : State :=
  if s.net.mac.pause then postPause (256 * flag zero) (macMod s (fun m => { m with pause := false, pauseQuanta := 0 }))
  else s

/-- A valid PAUSE frame with quanta field q, when PAUSE is honoured. -/
def pauseFrame (q : Nat) (s : State) : State :=
  if !pauseHonor s then s
  else if q = 0 then endPause true s
  else if s.net.mac.pause then macMod s (fun m => { m with pauseQuanta := q })
  else postPause 1 (macCount 3 12 (macMod s (fun m => { m with pause := true, pauseQuanta := q })))

/-- R291: the time of the pause has passed. -/
def execPauseEnd (s : State) : Host.Outcome State Fault Refusal := whenever (fun s => s.net.mac.pause) (endPause false) s

/-! ## Commands -/

/-- Remaining pause in ns: a free value no greater than the whole pause. -/
def pauseLeft (s : State) : Nat :=
  if s.net.mac.pause then openValue s 0 % (s.net.mac.pauseQuanta * 512 * 1000000000 / ethRate s + 1) else 0

/-- MAC status record (Table 12-13). -/
def netStatusResult (s : State) : List Byte :=
  let m := s.net.mac
  let e := ethEntry s
  b1 m.link ++ b1 (u8 e 1) ++ b1 m.downCause
    ++ b1 (flag (pauseHonor s) + 2 * flag m.pause + 4 * flag (bit (u8 e 0) 2) + 8 * flag m.mdio.isSome)
    ++ b2 (if e = [] then 0 else ethMaxLen s) ++ stationAddress s ++ b4 (pauseLeft s) ++ b4 m.ups ++ b4 m.downs
    ++ b1 (u8 e 3) ++ b1 m.partner ++ zeros 6

def execNetStatus (o : Issue) (p : List Byte) (s : State) : Host.Outcome State Fault Refusal :=
  hostCommand 0x0801 o p noCheck (reads netStatusResult) s

def netCountersCheck (p : List Byte) (_ : State) : Option Nat := firstRefusal [(decide (4 < u8 p 0), stBadParam)]

/-- Counter group record (Table 12-12). -/
def netCountersResult (p : List Byte) (s : State) : List Byte :=
  let g := u8 p 0
  let n := groupSize g
  b1 g ++ b1 n ++ zeros 2 ++ b4 (stampOf s)
    ++ (List.range 16).flatMap (fun i => b4 (if i < n then macCounter s g i else 0))
    ++ (List.range 16).flatMap (fun i => b1 (if i < n then tget 0 s.net.mac.halves (16 * g + i) else 0))

def execNetCounters (o : Issue) (p : List Byte) (s : State) : Host.Outcome State Fault Refusal :=
  hostCommand 0x0802 o p (netCountersCheck p) (reads (netCountersResult p)) s

/-- Ranges of an MDIO operation: Clause 22 has registers 0 to 31 and no MMD, Clause 45 MMDs 0 to 31. -/
def mdioRangeBad (s : State) (p : List Byte) : Bool :=
  decide (1 < u8 p 0) || (if u8 (ethEntry s) 5 = 1 then decide (31 < u8 p 1) else u8 p 1 != 0 || decide (31 < u16 p 2))

def netMdioCheck (o : Issue) (p : List Byte) (s : State) : Option Nat :=
  firstRefusal
    [(mdioRangeBad s p, stBadParam),
     (u8 p 0 == 1 && !canChange s o.ctx 0x0102, stNotOwner),
     (!mdioEnabled s, stWrongState)]

/-- R278, R324: the operation starts, and the command is answered when it completes. -/
def netMdioRun (o : Issue) (p : List Byte) (log : Nat) (s : State) : State :=
  macMod s (fun m => { m with mdio := some ({ ctx := o.ctx, log := log }, o, p) })

def execNetMdio (o : Issue) (p : List Byte) (s : State) : Host.Outcome State Fault Refusal :=
  .next (hostTake 0x0803 o p (netMdioCheck o p) (netMdioRun o p) s)

/-- R278: the reply to the MDIO command. A read whose turnaround bit the PHY does not drive low returns 0xFFFF. -/
def mdioComplete (driven : Bool) (data : BitVec 16) (s : State) : State :=
  match s.net.mac.mdio with
  | none => s
  | some (w, o, p) =>
    let failed := u8 p 0 == 0 && !driven
    let d := if u8 p 0 = 1 then u16 p 4 else if failed then 0xFFFF else data.toNat
    answered 0x0803 o w.log (okWith (b2 d ++ b1 (flag failed) ++ zeros 1) (macMod s (fun m => { m with mdio := none })))


end Sys2Proof.Machine
end

