-- ==== Sys2Proof/Machine/Streams.lean ====
section
/-! DEFINITION. Streams: their records, states and declarations, connection and disconnection, the blocks of
talkers and their segments, CRF frames, and MSRP (chapter 13, R303 to R316; R292, R293). -/

namespace Sys2Proof.Machine

/-! ## CRF streams, and fields of records -/

def crfGet (s : State) (k : Nat) : Stream := tget Stream.off s.net.crfs k
def crfMod (s : State) (k : Nat) (f : Stream → Stream) : State :=
  netMod s (fun v => { v with crfs := tmod Stream.off v.crfs k f })

/-- The convoy member of a record. -/
def recPlace (r : List Byte) : Nat × Nat := (u8 r 2, u8 r 3)

/-- Nominal rate of the stream in Hz: that of its convoy's domain. -/
def streamHz (s : State) (n : Nat) : Nat := codeHz (domGet s (convoyDomain s (recPlace (streamRec s n)).1)).rate

/-- stream_id of a talker: the station address in use, then UNIQUE_ID (Table 13-4). -/
def talkerId (s : State) (unique : Nat) : BitVec 64 := BitVec.ofNat 64 (beN (stationAddress s) 0 6 * 65536 + unique)

def streamIdOf (s : State) (n : Nat) : BitVec 64 :=
  if n < 32 then talkerId s (u16 (streamRec s n) 14) else (streamGet s n).streamId

def crfIdOf (s : State) (k : Nat) : BitVec 64 :=
  if k = 0 then talkerId s (u16 (crfRecord s 0) 12) else (crfGet s k).streamId

/-- Default presentation-time offset of a class, µs (Table 13-3). -/
def classPto (s : State) (classB : Bool) : Nat := u32 (entityData s) (if classB then 32 else 28)

/-- Presentation-time offset in force of a talker, µs. -/
def talkerPto (s : State) (t : Nat) : Nat :=
  let q := (streamGet s t).pto
  if q = 0xFFFFFFFF then classPto s (recClassB (streamRec s t)) else q

/-! ## Segments and reservations (R292, R311, R312) -/

/-- Samples of each frame of a block of `n` samples of `u` bytes. -/
def segments (maxlen n u : Nat) : List Nat :=
  let p := maxlen - 46
  let m := p / u
  if n * u ≤ p then [n]
  else if m = 0 then []
  else
    let k := ceilDiv n m
    (List.range k).map (fun i => if i < n % k then ceilDiv n k else n / k)

/-- Bytes per sample of a talker's block. -/
def sampleBytes (r : List Byte) : Nat := u8 r 5 * aafBytes (u8 r 4)

def slopeOf (maxFrame frames : Nat) (classB : Bool) : Nat := (maxFrame + 42) * 8 * frames * (if classB then 4000 else 8000)

/-- MaxFrameSize and MaxIntervalFrames of a talker (R311). -/
def talkerTSpec (s : State) (t : Nat) : Nat × Nat :=
  let r := streamRec s t
  let g := segments (ethMaxLen s) (u16 r 6) (sampleBytes r)
  (24 + g.foldl max 0 * sampleBytes r, g.length)

def crfTSpec (s : State) : Nat × Nat := (20 + 8 * u8 (crfRecord s 0) 4, 1)

/-- idleSlope of a talker in bit/s. -/
def talkerSlope (s : State) (t : Nat) : Nat :=
  slopeOf (talkerTSpec s t).1 (talkerTSpec s t).2 (recClassB (streamRec s t))

def crfSlope (s : State) : Nat := slopeOf (crfTSpec s).1 (crfTSpec s).2 (recClassB (crfRecord s 0))

/-- Sum of the idleSlopes of the connected talkers of a class. -/
def classSlope (s : State) (classB : Bool) : Nat :=
  (((List.range 32).filter (fun t => (streamGet s t).st != 0 && recClassB (streamRec s t) == classB)).map (talkerSlope s)).foldl
      (· + ·) 0
    + (if (crfGet s 0).st != 0 && recClassB (crfRecord s 0) == classB then crfSlope s else 0)

/-- R312: a further reservation stays within 75 % of the link data rate. -/
def slopeFits (s : State) (more : Nat) : Bool :=
  decide ((classSlope s false + classSlope s true + more) * 4 ≤ ethRate s * 3)

/-- R311: a queue's credit after its frame has taken `sent` of the time at sendSlope, and the queue has then been empty for
`empty` and has held a frame that waits for `held`, all in 0.1 ns. -/
def shapedCredit (rate idle sent empty held : Nat) (credit : Int) : Int :=
  let c := credit - ((rate : Int) - idle) * sent
  let d := if empty = 0 then c else if 0 ≤ c then 0 else min 0 (c + idle * empty)
  d + idle * held

/-- The credits at a frame start that comes `gap` after the end of the frame before; `heldA` and `heldB` say how long
queues A and B have held a frame that waits. Time inside an honoured pause is not counted: the credit holds its value. -/
def shapeQueues (gap heldA heldB : Nat) (s : State) : State :=
  let m := s.net.mac
  let credit := fun (k held idle : Nat) (c : Int) =>
    let sent := if m.sending = k then m.sendTime else 0
    let rest := m.sendTime + gap - sent
    let held := min held rest
    shapedCredit (ethRate s) idle sent (rest - held) held c
  macMod s (fun m =>
    { m with creditA := credit 1 heldA (classSlope s false) m.creditA
             creditB := credit 2 heldB (classSlope s true) m.creditB })

/-! ## States (R302, R314, Table 13-9) -/

def classBoundary (s : State) (classB : Bool) : Bool := if classB then s.net.boundB else s.net.boundA
def classPrio (s : State) (classB : Bool) : Nat := if classB then s.net.prioB else s.net.prioA
def classVid (s : State) (classB : Bool) : Nat := if classB then s.net.vidB else s.net.vidA

/-- An attribute is registered for a stream_id. -/
def registered (s : State) (kind : Nat) (id : BitVec 64) : Bool := decide ((kind, id) ∈ s.net.regs)

/-- The state of a connected talker or listener. -/
def connectedState (s : State) (talker : Bool) (r : List Byte) (id : BitVec 64) (now : Nat) : Nat :=
  if !linkUp s || !synced s || classBoundary s (recClassB r) then 4
  else if talker then (if recBypass r || registered s 2 id || registered s 3 id then 3 else 2)
  else if now = 3 then 3 else 2

/-- A media clock loses its reference: cause 1 of Table 7-13. -/
def dropReference (kind i log : Nat) (s : State) : State :=
  (List.range 8).foldl (fun t d => if domAlt t d = (kind, i) then unlockFor d 1 log t else t) s

/-- A stream enters a state; STREAM_STATE (Table 13-13), with the log number of the command that causes it. Samples that no
block holds go when a talker leaves STREAMING (R302). -/
def enterStream (n st cause log : Nat) (s : State) : State :=
  let was := (streamGet s n).st
  if was = st then s
  else
    let s1 := post 0x0802 n log (st + 256 * cause) (.res [0x0800 + n])
      (streamMod s n (fun q => { q with st := st, cause := cause, block := [] }))
    if was = 3 ∧ 32 ≤ n then dropReference 1 (n - 32) log s1 else s1

/-- The same of a CRF stream; CRF_STATE. -/
def enterCrf (k st log : Nat) (s : State) : State :=
  let was := (crfGet s k).st
  if was = st then s
  else
    let s1 := postEthFor log 0x0807 k st (crfMod s k (fun q => { q with st := st }))
    if was = 3 ∧ k ≠ 0 then dropReference 2 (k - 1) log s1 else s1

/-- A connected stream takes the state that R314 gives. -/
def refreshStream (cause log : Nat) (s : State) (n : Nat) : State :=
  let q := streamGet s n
  if q.connected then
    enterStream n (connectedState s (decide (n < 32)) (streamRec s n) (streamIdOf s n) q.st) cause log s
  else s

def refreshCrf (log : Nat) (s : State) (k : Nat) : State :=
  let q := crfGet s k
  if q.connected then enterCrf k (connectedState s (k == 0) (crfRecord s k) (crfIdOf s k) q.st) log s else s

def refreshStreams (cause log : Nat) (s : State) : State :=
  [0, 1, 2].foldl (refreshCrf log) ((List.range 64).foldl (refreshStream cause log) s)

/-! ## Connecting (R315, R316) -/

/-- The member of a stream starts or stops; its sub-index is the record's. -/
def streamStart (n : Nat) (s : State) : State := startMembers 2 (n % 32) (decide (n < 32)) s
def streamStop (n : Nat) (s : State) : State := stopMembers 2 (n % 32) (decide (n < 32)) s

/-- Steps 2 and 3 of R315: the stream is connected, and those who wait for it learn so. A PTO that was given while it waited
is in force (R306). -/
def connectNow (n cause log : Nat) (s : State) : State :=
  let ws := (streamGet s n).waiters
  let s1 := streamMod s n (fun q => { q with
    connected := true, waiters := [], expected := none, mr := none, block := [], pto := q.pendPto.getD q.pto, pendPto := none })
  completeAll ws stOk (streamStart n
    (enterStream n (connectedState s1 (decide (n < 32)) (streamRec s1 n) (streamIdOf s1 n) 0) cause log s1))

/-- A request of the network for an overlay: the chart's default mode. -/
def streamRequest (s : State) (ov log : Nat) : QueuedAct :=
  let c := s.cs.chart
  { waiter := none, cut := (c.map (fun c => c.ovCut ov)).getD false, ramp := (c.map (fun c => c.ovRamp ov)).getD 0
    cause := { code := 0, binding := 0xFF, log := log } }

/-- Its overlay's load has been swapped in. -/
def ovPlaced (s : State) (n : Nat) : Bool := n == 0xFF || (ovGet s n).st ∈ [2, 3, 4, 6]

/-- R312, R315: connect a stream that is DISCONNECTED: OK, or the status that refuses it. -/
def connectStream (n cause log : Nat) (ws : List Waiter) (s : State) : Nat × State :=
  let ov := u8 (streamRec s n) 1
  if decide (n < 32) && !slopeFits s (talkerSlope s n) then (stNoCapacity, s)
  else if ov = 0xFF ∨ (ovGet s ov).st ∈ [2, 3, 6] then
    (stOk, connectNow n cause log (streamMod s n (fun q => { q with waiters := ws })))
  else
    let wait := fun (t : State) =>
      let t1 := streamMod t n (fun q => { q with waiters := ws, log := log })
      if ovPlaced t ov then connectNow n cause log t1 else enterStream n 1 cause log t1
    if (ovGet s ov).st = 1 then (stOk, wait s)
    else
      match activateRefusal s ov with
      | some st => (st, s)
      | none => (stOk, wait (activateOverlay ov (streamRequest s ov log) s).2)

/-- Another stream that is connected, or connecting, names the overlay. -/
def overlayNamed (s : State) (n ov : Nat) : Bool :=
  (List.range 64).any (fun m => m != n && (streamGet s m).st != 0 && u8 (streamRec s m) 1 == ov)

/-- The disconnection of R315; `leave` false at the removal swap of the overlay itself (R316). -/
def disconnectStream (n cause log : Nat) (leave : Bool) (s : State) : State :=
  let q := streamGet s n
  if q.st = 0 then s
  else
    let ov := u8 (streamRec s n) 1
    let s1 := streamStop n (streamMod s n (fun q =>
      { q with connected := false, byCommand := false, acmp := 0, waiters := [], expected := none, mr := none
               pto := q.pendPto.getD q.pto, pendPto := none }))
    let s2 := enterStream n 0 cause log (completeAll q.waiters stConflict s1)
    if !leave || ov == 0xFF || overlayNamed s2 n ov || (ovGet s2 ov).st == 0 then s2
    else
      match deactivateRefusal s2 ov with
      | some _ => s2
      | none => (deactivateOverlay ov (streamRequest s2 ov log) s2).2

/-- An overlay has been swapped in: the streams that waited for it are connected. -/
def streamsPlaced (ov : Nat) (s : State) : State :=
  (List.range 64).foldl (fun t n =>
    if (streamGet t n).st = 1 ∧ u8 (streamRec t n) 1 = ov then
      connectNow n (streamGet t n).cause (streamGet t n).log t else t) s

/-- R316: the removal swap of an overlay disconnects the connected streams that name it. -/
def streamsRemoved (ov log : Nat) (s : State) : State :=
  (List.range 64).foldl (fun t n =>
    if (streamGet t n).connected = true ∧ u8 (streamRec t n) 1 = ov then disconnectStream n 6 log false t else t) s

/-- Every stream is disconnected (R86, R316). -/
def streamsEnd (log : Nat) (s : State) : State :=
  let s1 := (List.range 64).foldl (fun t n => disconnectStream n 0 log false t) s
  [0, 1, 2].foldl (fun t k => enterCrf k 0 log (crfMod t k (fun q => { q with connected := false }))) s1

/-- A stream as the entity section of a new chart defines it; counters go on. -/
def freshStream (dest : List Byte) (id : Nat) (pto : Nat) (q : Stream) : Stream :=
  { Stream.off with dest := BitVec.ofNat 48 (beN dest 0 6), streamId := BitVec.ofNat 64 id, pto := pto, counts := q.counts }

/-- The streams of a chart that comes into force: disconnected, with their records' addresses. An ENABLED CRF
stream is connected (log entry 52). -/
def startStreams (s : State) : State :=
  let d := entityData s
  let s1 := (List.range 64).foldl (fun t n =>
    let r := streamRec s n
    streamMod t n (fun q => if n < 32 then freshStream (bytesAt r 8 6) 0 (u32 r 16) q
      else freshStream (bytesAt r 16 6) (u64 r 8) 0xFFFFFFFF q)) s
  [0, 1, 2].foldl (fun t k =>
    let r := crfRec d k
    let t1 := crfMod t k (fun q => freshStream (bytesAt r 6 6) (if k = 0 then 0 else u64 r 12) 0xFFFFFFFF q)
    if recEnabled r && (k != 0 || slopeFits t1 (crfSlope t1)) then
      refreshCrf 0 (crfMod t1 k (fun q => { q with connected := true })) k
    else t1) s1

/-- Which members of port 2 run after a swap (R165). -/
def streamRunning (s : State) (sub : Nat) (egress : Bool) : Bool :=
  (streamGet s (if egress then sub else 32 + sub)).connected

/-! ## Talkers -/

/-- R306: a talker in STREAMING collects the samples of its member; otherwise they are discarded (R302). -/
def giveTalker (k m : Nat) (s : State) : State :=
  let e := memberOf (nearConvoy s k) m
  if e.1 = 2 ∧ e.2.1 < 32 ∧ (streamGet s e.2.1).st = 3 then
    let w := memberSample (u8 (streamRec s e.2.1) 4 == 1) k m s
    streamMod w.2 e.2.1 (fun q => { q with block := q.block ++ [w.1] })
  else s

/-- R242, R243: the S/PDIF transmitter sends a frame of its member: each word at the top of the audio field, and V as
VALIDITY_TX sets it; V is 1 with the zero samples of a member that does not sound. -/
def giveSpdif (k m : Nat) (s : State) : State :=
  if (memberOf (nearConvoy s k) m).1 = 10 then
    let w := memberSample false k m s
    let shift := if u8 (txEntry s) 3 = 16 then 256 else 1
    let sounds := decide ((memGet s k m).st ∈ [2, 3, 4])
    spdifMod w.2 (fun q => { q with
      frame := some (w.1.map (fun x => BitVec.ofInt 24 (x.toInt * shift)), !sounds || q.validityTx == 1) })
  else s

/-- The port of the member takes its samples at its frame-start edges (R229). -/
def saiMember (s : State) (k m : Nat) : Bool :=
  decide (3 ≤ (memberOf (nearConvoy s k) m).1) && decide ((memberOf (nearConvoy s k) m).1 ≤ 8)

/-- The member's port takes samples now: SPDIF_OUT from the B preamble at which it starts, and not in SLEEP (R234); a stream
while the fabric runs (R277). -/
def portTakes (s : State) (k m : Nat) : Bool :=
  let port := (memberOf (nearConvoy s k) m).1
  !saiMember s k m && (port != 10 || (serialAlive s && s.ser.spdif.txStarted)) && (port != 2 || s.eng.ticking)

/-- R164: a port other than an SAI port takes a sample of an egress member. -/
def execEgressMemberTake (c : Fin 128) (m : Fin 8) (s : State) : Host.Outcome State Fault Refusal :=
  whenever (fun s => mayRead s c.val m.val true && portTakes s c.val m.val)
    (fun s => markRead c.val m.val (giveSpdif c.val m.val (giveTalker c.val m.val (takeEgress c.val m.val s)))) s

/-- nsr codes (R305). -/
def nsrTable : List (Nat × Nat) :=
  [(8000, 1), (24000, 10), (16000, 2), (32000, 3), (44100, 4), (48000, 5), (88200, 6), (96000, 7), (176400, 8), (192000, 9)]
def nsrOf (hz : Nat) : Nat := ((nsrTable.find? (fun x => x.1 == hz)).map (·.2)).getD 0

/-- bit_depth of a format (R305). -/
def formatDepth (f : Nat) : Nat := [0, 32, 32, 24, 16].getD f 0

/-- Ethernet header and VLAN tag of a class (R286). -/
def streamHeader (s : State) (dest : BitVec 48) (classB : Bool) : List Byte :=
  beBytes 6 dest.toNat ++ stationAddress s ++ [0x81, 0x00]
    ++ beBytes 2 (classPrio s classB % 8 * 8192 + classVid s classB % 4096) ++ [0x22, 0xF0]

/-- AAF header of IEEE 1722 (R305; layout of the standard, log entry 51). -/
def aafHeader (s : State) (t seq stamp len : Nat) : List Byte :=
  let r := streamRec s t
  [0x02] ++ b1 (0x81 + 8 * flag (streamGet s t).toggle) ++ b1 seq ++ zeros 1 ++ beBytes 8 (streamIdOf s t).toNat
    ++ beBytes 4 stamp ++ b1 ([0, 1, 2, 3, 4].getD (u8 r 4) 0) ++ beBytes 2 (nsrOf (streamHz s t) * 4096 + u8 r 5)
    ++ b1 (formatDepth (u8 r 4)) ++ beBytes 2 len ++ zeros 2

/-- Samples packed channel by channel in network byte order (R305). -/
def packSamples (f : Nat) (l : List (List Word)) : List Byte :=
  l.flatMap (fun x => x.flatMap (fun w => beBytes (aafBytes f) w.toNat))

/-- Time of a sample offset in ns, to the nearest, halves up (R293). -/
def offsetNs (o hz : Nat) : Nat := (o * 1000000000 * 2 + hz) / (2 * hz)

/-- The frames of a block: its segments in order (R292, R293). -/
def blockFrames (s : State) (t time : Nat) : List Nat → Nat → Nat → List (List Word) → List TxFrame
  | [], _, _, _ => []
  | n :: rest, seq, off, l =>
    let r := streamRec s t
    let at_ := time + offsetNs off (streamHz s t)
    { bytes := streamHeader s (streamGet s t).dest (recClassB r) ++ aafHeader s t seq at_ (n * sampleBytes r)
        ++ packSamples (u8 r 4) (l.take n)
      tagged := true, kind := 2, stream := t, time := at_ } :: blockFrames s t time rest ((seq + 1) % 256) (off + n) (l.drop n)

/-- A talker's block is complete: SPF samples of a STREAMING talker, whose frames stop with the fabric (R277). -/
def blockReady (s : State) (t : Nat) : Bool :=
  s.eng.ticking && (streamGet s t).st == 3 && decide (u16 (streamRec s t) 6 ≤ (streamGet s t).block.length) && streamHz s t != 0

/-- R306, R292, R293: the block whose first sample has the gPTP time `now` is stamped and queued. -/
def sendBlock (t now : Nat) (s0 : State) : State :=
  let s := streamMod s0 t (fun q => { q with pto := q.pendPto.getD q.pto, pendPto := none })
  let r := streamRec s t
  let q := streamGet s t
  let g := segments (ethMaxLen s) (u16 r 6) (sampleBytes r)
  let fs := blockFrames s t (now + talkerPto s t * 1000) g q.seq 0 q.block
  let s1 := streamMod s t (fun q => { q with block := q.block.drop (u16 r 6), seq := (q.seq + g.length) % 256 })
  match g with
  | [] => macCount 4 0 s1
  | [_] => offerStream (recClassB r) fs s1
  | _ => offerStream (recClassB r) fs (macAdd 3 9 g.length (macCount 3 8 s1))

def execTalkerBlock (t : Fin 32) (now : Nat) (s : State) : Host.Outcome State Fault Refusal :=
  whenever (fun s => blockReady s t.val) (sendBlock t.val now) s

/-- R305: mr toggles at each change of the domain's rate. -/
def toggleRates (old : State) (s : State) : State :=
  (List.range 32).foldl (fun t n =>
    if (streamGet t n).connected && streamHz old n != streamHz t n then
      streamMod t n (fun q => { q with toggle := !q.toggle })
    else t) s

/-! ## The CRF talker (R309) -/

/-- Rate of the CRF talker's timeline, Hz: DOMAIN, or the fabric for 0xFF. -/
def crfHz (s : State) : Nat :=
  let d := u8 (crfRecord s 0) 1
  if d = 0xFF then fabricHz s else codeHz (domGet s d).rate

/-- A CRF frame (layout of IEEE 1722, log entry 51); `now` is the gPTP time of its first sample. -/
def crfFrame (s : State) (now : Nat) : TxFrame :=
  let r := crfRecord s 0
  let q := crfGet s 0
  let time := fun (j : Nat) => now + offsetNs (j * u16 r 2) (crfHz s) + classPto s (recClassB r) * 1000
  { bytes := streamHeader s q.dest (recClassB r) ++ [0x04, 0x80] ++ b1 q.seq ++ [0x01] ++ beBytes 8 (crfIdOf s 0).toNat
      ++ beBytes 4 (crfHz s) ++ beBytes 2 (8 * u8 r 4) ++ beBytes 2 (u16 r 2)
      ++ (List.range (u8 r 4)).flatMap (fun j => beBytes 8 (time j))
    tagged := true, kind := 2, stream := 64, time := time 0 }

/-- A CRF frame whose length exceeds MAXLEN is not segmentable (R288). -/
def sendCrf (now : Nat) (s : State) : State :=
  let f := crfFrame s now
  let s1 := crfMod s 0 (fun q => { q with seq := (q.seq + 1) % 256 })
  if ethMaxLen s < f.bytes.length + 4 then macCount 4 0 s1 else offerStream (recClassB (crfRecord s 0)) [f] s1

/-- R277, R309: the timeline is the tick's, which stops in DOZE. -/
def execCrfFrameSend (now : Nat) (s : State) : Host.Outcome State Fault Refusal :=
  whenever (fun s => s.eng.ticking && (crfGet s 0).st == 3 && crfHz s != 0) (sendCrf now) s

/-! ## MSRP (R310, R313, R314) -/

/-- The attribute that a declaration registers; Domains count as 5 and 6. -/
def attributeOf (k : MsrpKind) (id : BitVec 64) : Nat × BitVec 64 :=
  match k with
  | .domain classA _ _ => (if classA then 5 else 6, 0)
  | .talkerAdvertise => (0, id)
  | .talkerFailed => (1, id)
  | .listenerReady => (2, id)
  | .listenerReadyFailed => (3, id)
  | .listenerAskingFailed => (4, id)

/-- Attributes that one registration replaces: those of the same stream_id and side. -/
def replaces (a b : Nat × BitVec 64) : Bool :=
  a.2 == b.2 && (if a.1 < 2 then decide (b.1 < 2) else if a.1 < 5 then decide (2 ≤ b.1) && decide (b.1 < 5) else a.1 == b.1)

/-- Priority and VID of a class are those of the neighbour's Domain; the class is a boundary while the priority
differs (R310, R313). -/
def setDomain (classA : Bool) (prio vid : Nat) (bound : Bool) (s : State) : State :=
  netMod s (fun v => if classA then { v with prioA := prio, vidA := vid, boundA := bound }
    else { v with prioB := prio, vidB := vid, boundB := bound })

/-- MSRP_DOMAIN (Table 13-13). -/
def postDomain (classA : Bool) (prio vid : Nat) (bound : Bool) (s : State) : State :=
  postEth 0x0806 (flag (!classA)) (prio + 256 * flag bound + 65536 * vid) s

/-- A Domain of the neighbour is registered: a boundary where its priority differs from the one in force, resolved
where it agrees. -/
def registerDomain (classA : Bool) (prio vid : Nat) (s : State) : State :=
  let differs := prio != classPrio s (!classA)
  let s1 := setDomain classA prio vid differs s
  if differs || classBoundary s (!classA) then postDomain classA prio vid differs s1 else s1

/-- A declaration is received: a Leave starts the leave timer, anything else registers (R314). -/
def receiveDeclaration (k : MsrpKind) (id : BitVec 64) (leave : Bool) (s : State) : State :=
  let a := attributeOf k id
  if leave then
    if a ∈ s.net.regs then netMod s (fun v => { v with leaving := withElem a v.leaving }) else s
  else
    let s1 := netMod s (fun v => { v with
      regs := v.regs.filter (fun b => !replaces a b) ++ [a], leaving := v.leaving.filter (fun b => !replaces a b) })
    let s2 := match k with
      | .domain classA prio vid => registerDomain classA prio.toNat vid.toNat s1
      | _ => s1
    refreshStreams 3 0 s2

def execMsrpDeclarationReceived (kind : MsrpKind) (stream : BitVec 64) (leave : Bool) (s : State) :
    Host.Outcome State Fault Refusal :=
  whenever linkUp (receiveDeclaration kind stream leave) s

/-- The leave timer of an attribute expires: it is no longer registered, and a class takes the values of
Table 13-8 again. -/
def endRegistration (k : MsrpKind) (id : BitVec 64) (s : State) : State :=
  let a := attributeOf k id
  let s1 := netMod s (fun v => { v with regs := without a v.regs, leaving := without a v.leaving })
  let s2 := match k with
    | .domain classA _ _ =>
      let prio := if classA then 3 else 2
      let s3 := setDomain classA prio 2 false s1
      if classBoundary s (!classA) then postDomain classA prio 2 false s3 else s3
    | _ => s1
  refreshStreams 3 0 s2

def execMrpLeaveTimerExpire (kind : MsrpKind) (stream : BitVec 64) (s : State) : Host.Outcome State Fault Refusal :=
  whenever (fun s => decide (attributeOf kind stream ∈ s.net.leaving)) (endRegistration kind stream) s

/-! ### What the part declares (R313, R314) -/

/-- A connected talker declares Talker Advertise, and Talker Failed with code 8 at a boundary of its class. -/
def talkerDeclares (s : State) (id : BitVec 64) (dest : BitVec 48) (classB : Bool) (tspec : Nat × Nat) : Declaration :=
  if classBoundary s classB then .talkerFailed id dest (classVid s classB) (classPrio s classB) tspec.1 tspec.2 8
  else .talkerAdvertise id dest (classVid s classB) (classPrio s classB) tspec.1 tspec.2

/-- A connected listener declares by its talker's registration and its class; with MSRP_BYPASS nothing. -/
def listenerDeclares (s : State) (r : List Byte) (id : BitVec 64) : List Declaration :=
  if recBypass r then []
  else if classBoundary s (recClassB r) || registered s 1 id then [.listenerAskingFailed id]
  else if registered s 0 id then [.listenerReady id]
  else []

def streamDeclares (s : State) (n : Nat) : List Declaration :=
  let r := streamRec s n
  if (streamGet s n).connected = false then []
  else if n < 32 then [talkerDeclares s (streamIdOf s n) (streamGet s n).dest (recClassB r) (talkerTSpec s n)]
  else listenerDeclares s r (streamIdOf s n)

def crfDeclares (s : State) (k : Nat) : List Declaration :=
  let r := crfRecord s k
  if (crfGet s k).connected = false then []
  else if k = 0 then [talkerDeclares s (crfIdOf s 0) (crfGet s 0).dest (recClassB r) (crfTSpec s)]
  else listenerDeclares s r (crfIdOf s k)

/-- All that the part declares. It follows connections, registrations and Domains at once, whatever the gPTP state (R302,
R316); the frames that carry it are of the MRP timers. -/
def declarations (s : State) : List Declaration :=
  [.domain 6 s.net.prioA s.net.vidA, .domain 5 s.net.prioB s.net.vidB]
    ++ (List.range 64).flatMap (streamDeclares s) ++ [0, 1, 2].flatMap (crfDeclares s)

/-- What the part declares has changed since its last MSRP frame: one goes to queue C with the declarations of now (R286, R313).
Its content is of IEEE 802.1Q and free here; the MRP join timer ends no later than at the next frame start (DESIGN CHOICE, log
entry 127). -/
def declareMsrp (s : State) : State :=
  let l := declarations s
  if l = s.net.declared then s
  else
    let f := freeField 45 s
    netMod (offerControl 1 [0x01, 0x80, 0xC2, 0x00, 0x00, 0x0E] 0x22EA ([0] ++ f.1) f.2) (fun v => { v with declared := l })

/-- R286, R291, R311: a frame starts while the link is UP and no pause is in force. -/
def execTxFrameStart (gap heldA heldB : Nat) (s : State) : Host.Outcome State Fault Refusal :=
  whenever (fun s => linkUp s && !s.net.mac.pause)
    (fun s => frameStart (shapeQueues gap heldA heldB (declareMsrp s))) s

/-! ## Commands -/

def streamStatusCheck (p : List Byte) (s : State) : Option Nat :=
  firstRefusal [(!streamDefined s (u8 p 0) || decide (1 < u8 p 1), stBadParam)]

/-- Per-context counters of a stream, and the same cleared for one context. -/
def clearCounts (o : Issue) (c : Tbl Nat) : Tbl Nat :=
  (List.range 5).foldl (fun t i => tset 0 t (8 * ctxNum o.ctx + i) 0) c

def streamStatusDo (o : Issue) (p : List Byte) (_ : Nat) (s : State) : Done :=
  let n := u8 p 0
  let q := streamGet s n
  let r := streamRec s n
  okWith (b1 q.st ++ b1 (flag (recClassB r)) ++ b1 (u8 r 4) ++ b1 (u8 r 5) ++ b8 (streamIdOf s n).toNat
      ++ beBytes 6 q.dest.toNat ++ zeros 2 ++ b4 q.acmp
      ++ (List.range 5).flatMap (fun i => b4 (tget 0 q.counts (8 * ctxNum o.ctx + i)))
      ++ b4 (if n < 32 then talkerSlope s n else 0))
    (if u8 p 1 = 1 then streamMod s n (fun q => { q with counts := clearCounts o q.counts }) else s)

def execStreamStatus (o : Issue) (p : List Byte) (s : State) : Host.Outcome State Fault Refusal :=
  hostCommand 0x0806 o p (streamStatusCheck p) (streamStatusDo o p) s

/-- Fields of STREAM_CONNECT: a talker's destination is a group address, and its stream_id 0. -/
def connectFieldsBad (p : List Byte) : Bool :=
  (u32 p 16 != 0xFFFFFFFF && decide (50000 < u32 p 16))
    || (decide (u8 p 0 < 32) && (u64 p 8 != 0 || (u48 p 2 != 0 && !bit (u8 p 2) 0)))

def streamConnectCheck (o : Issue) (p : List Byte) (s : State) : Option Nat :=
  firstRefusal
    [(!streamDefined s (u8 p 0) || connectFieldsBad p, stBadParam),
     (!canChange s o.ctx (0x0800 + u8 p 0), stNotOwner)]

/-- What STREAM_CONNECT or ACMP names takes its new value (R316); a talker's PTO at its next block. -/
def nameStream (n dest : Nat) (id : BitVec 64) (pto : Nat) (s : State) : State :=
  streamMod s n (fun q =>
    { q with
      dest := if dest = 0 then q.dest else BitVec.ofNat 48 dest
      streamId := if id = 0 ∨ n < 32 then q.streamId else id
      expected := if id = 0 ∨ id = q.streamId then q.expected else none
      mr := if id = 0 ∨ id = q.streamId then q.mr else none
      pto := if q.st = 0 ∧ pto ≠ 0xFFFFFFFF then pto else q.pto
      pendPto := if q.st ≠ 0 ∧ pto ≠ 0xFFFFFFFF then some pto else q.pendPto })

/-- R315, R316, R324. -/
def streamConnectDo (o : Issue) (p : List Byte) (log : Nat) (s : State) : Done :=
  let n := u8 p 0
  let w : Waiter := { ctx := o.ctx, log := log }
  let st := (streamGet s n).st
  let s1 := nameStream n (beN p 2 6) (BitVec.ofNat 64 (u64 p 8)) (u32 p 16) s
  if st = 0 then
    let r := connectStream n 0 log [w] s1
    if r.1 = stOk then queuedDone (streamMod r.2 n (fun q => { q with byCommand := true }))
    else queuedDone (complete w r.1 r.2)
  else
    let s2 := refreshStream 0 log (streamMod s1 n (fun q => { q with byCommand := true })) n
    if st = 1 then queuedDone (streamMod s2 n (fun q => { q with waiters := q.waiters ++ [w] }))
    else queuedDone (complete w stOk s2)

def execStreamConnect (o : Issue) (p : List Byte) (s : State) : Host.Outcome State Fault Refusal :=
  hostCommand 0x0807 o p (streamConnectCheck o p) (streamConnectDo o p) s

def streamDisconnectCheck (o : Issue) (p : List Byte) (s : State) : Option Nat :=
  firstRefusal [(!streamDefined s (u8 p 0), stBadParam), (!canChange s o.ctx (0x0800 + u8 p 0), stNotOwner)]

/-- The command connection ends; a talker stays connected while its ACMP count is non-zero (R315). -/
def streamDisconnectDo (o : Issue) (p : List Byte) (log : Nat) (s : State) : Done :=
  let n := u8 p 0
  let w : Waiter := { ctx := o.ctx, log := log }
  let s1 := streamMod s n (fun q => { q with byCommand := false })
  queuedDone (complete w stOk
    (if n < 32 ∧ (streamGet s n).acmp ≠ 0 then s1 else disconnectStream n 0 log true s1))

def execStreamDisconnect (o : Issue) (p : List Byte) (s : State) : Host.Outcome State Fault Refusal :=
  hostCommand 0x0808 o p (streamDisconnectCheck o p) (streamDisconnectDo o p) s

def crfDefined (s : State) (k : Nat) : Bool := decide (k < 3) && (entitySection s).isSome && recEnabled (crfRecord s k)

def crfStatusCheck (p : List Byte) (s : State) : Option Nat :=
  firstRefusal [(!crfDefined s (u8 p 0) || decide (1 < u8 p 1), stBadParam)]

def crfStatusDo (o : Issue) (p : List Byte) (_ : Nat) (s : State) : Done :=
  let k := u8 p 0
  let q := crfGet s k
  okWith (b1 q.st ++ zeros 7 ++ b8 (crfIdOf s k).toNat ++ beBytes 6 q.dest.toNat ++ zeros 2
      ++ (List.range 2).flatMap (fun i => b4 (tget 0 q.counts (8 * ctxNum o.ctx + i))))
    (if u8 p 1 = 1 then crfMod s k (fun q => { q with counts := clearCounts o q.counts }) else s)

def execCrfStatus (o : Issue) (p : List Byte) (s : State) : Host.Outcome State Fault Refusal :=
  hostCommand 0x0809 o p (crfStatusCheck p) (crfStatusDo o p) s

def msrpStatusResult (s : State) : List Byte :=
  let v := s.net
  b1 v.prioA ++ b1 v.prioB ++ b2 v.vidA ++ b2 v.vidB ++ b1 (flag v.boundA + 2 * flag v.boundB) ++ zeros 1
    ++ b4 (classSlope s false) ++ b4 (classSlope s true)

def execMsrpStatus (o : Issue) (p : List Byte) (s : State) : Host.Outcome State Fault Refusal :=
  hostCommand 0x080A o p noCheck (reads msrpStatusResult) s

/-- R315: no frame accepted for 10 ms. -/
def execStreamReceiveTimeout (l : Fin 32) (s : State) : Host.Outcome State Fault Refusal :=
  whenever (fun s => (streamGet s (32 + l.val)).st == 3)
    (fun s => enterStream (32 + l.val) 2 (streamGet s (32 + l.val)).cause 0 s) s

end Sys2Proof.Machine
end

