-- ==== Sys2Proof/Machine/Frames.lean ====
section
/-! DEFINITION. Received frames: their classes and counters, delivery by type, stream frames placed on a convoy's
timeline, CRF frames (R280 to R285, R307 to R309). -/

namespace Sys2Proof.Machine

/-! ## Fields -/

/-- TPID 0x8100: a VLAN tag that the port recognises (R283). -/
def frameTagged (f : List Byte) : Bool := beN f 12 2 == 0x8100
def frameVid (f : List Byte) : Nat := beN f 14 2 % 4096

/-- EtherType or length, and what follows it, with the tag and the FCS removed. -/
def frameType (f : List Byte) : Nat := beN f (if frameTagged f then 16 else 12) 2
def frameBody (f : List Byte) : List Byte := (f.take (f.length - 4)).drop (if frameTagged f then 18 else 14)

/-- Size bin of an accepted frame (Table 12-7). -/
def sizeBin (n : Nat) : Nat :=
  if n ≤ 64 then 0 else if n ≤ 127 then 1 else if n ≤ 255 then 2 else if n ≤ 511 then 3 else if n ≤ 1023 then 4
  else if n ≤ 1518 then 5 else 6

/-- R282: the destination address is one that the port accepts. -/
def addressAccepted (s : State) (f : List Byte) : Bool :=
  let d := beN f 0 6
  let e := ethEntry s
  d == beN (stationAddress s) 0 6
    || d ∈ [0xFFFFFFFFFFFF, 0x0180C200000E, 0x0180C2000001, 0x91E0F0010000]
    || (List.range 32).any (fun l => (streamGet s (32 + l)).connected && (streamGet s (32 + l)).dest.toNat == d)
    || [1, 2].any (fun k => (crfGet s k).connected && (crfGet s k).dest.toNat == d)
    || (List.range (u8 e 30)).any (fun i => beN e (32 + 6 * i) 6 == d)

/-- R283: an untagged or priority-tagged frame, or a VID of the accepted set. -/
def vidAccepted (s : State) (f : List Byte) : Bool :=
  let e := ethEntry s
  !frameTagged f || frameVid f == 0 || frameVid f == s.net.vidA || frameVid f == s.net.vidB
    || (List.range (u8 e 12)).any (fun i => u16 e (14 + 2 * i) % 4096 == frameVid f)

/-- stream_id of an IEEE 1722 stream frame. -/
def bodyStream (b : List Byte) : BitVec 64 := BitVec.ofNat 64 (beN b 4 8)

/-- The connected listener, or CRF listener, of a stream_id. -/
def listenerFor (s : State) (b : List Byte) : Option Nat :=
  (List.range 32).find? (fun l => (streamGet s (32 + l)).connected && (streamGet s (32 + l)).streamId == bodyStream b)

def crfListenerFor (s : State) (b : List Byte) : Option Nat :=
  [1, 2].find? (fun k => (crfGet s k).connected && (crfGet s k).streamId == bodyStream b)

/-! ## Listeners (R307, R308) -/

/-- STREAM_FORMAT_ERROR, no more than once per second for a stream. -/
def postFormatError (inst : Nat) (cn : Concern) (q : Stream) (put : (Stream → Stream) → State → State) (s : State) :
    State :=
  let s1 := put (fun x => { x with fmtFold := x.fmtFold + 1 }) s
  let d := if q.fmtPosted then drawElapsed s1 else (true, s1)
  if d.1 then post 0x0803 inst 0 (q.fmtFold + 1) cn (put (fun x => { x with fmtFold := 0, fmtPosted := true }) d.2)
  else d.2

/-- R307: the frame is an AAF frame, and its format, nsr, channels and bit depth are the listener's. -/
def formatMatches (s : State) (n : Nat) (b : List Byte) : Bool :=
  let r := streamRec s n
  u8 b 0 == 0x02 && u8 b 16 == u8 r 4 && beN b 17 2 / 4096 == nsrOf (streamHz s n) && beN b 17 2 % 1024 == u8 r 5
    && decide (1 ≤ u8 b 19) && decide (u8 b 19 ≤ 8 * aafBytes (u8 r 4))

/-- Samples of a frame, each one word per channel. -/
def frameSamples (r : List Byte) (b : List Byte) : List (List Word) :=
  let w := aafBytes (u8 r 4)
  let u := sampleBytes r
  (List.range (min (beN b 20 2) (b.length - 24) / u)).map (fun i =>
    (List.range (u8 r 5)).map (fun c => BitVec.ofNat 32 (beN b (24 + i * u + c * w) w)))

/-- R308: the full gPTP time nearest to the present one. -/
def extendTime (stamp now : Nat) : Int := (now : Int) + signed 32 (((stamp : Int) - now) % (2 ^ 32 : Nat)).toNat

/-- The timeline index of a presentation time; `now` is the gPTP time of the convoy's present index. -/
def indexOf (s : State) (n k : Nat) (time : Int) (now : Nat) : Int :=
  ((convGet s k).index : Int) + divNear ((time - now) * streamHz s n) 1000000000

/-- A sample goes to its index; one before the timeline's start is late. -/
def placeSample (k m : Nat) (index : Int) (sample : List Word) (s : State) : State :=
  if index < 0 then convCount k 2 s else sampleArrives k m index.toNat sample s

/-- R308: the samples of an accepted frame at consecutive indices. A frame with tv 0 continues after the one
before, and is discarded when there is none since ALIGNING. -/
def placeFrame (n : Nat) (b : List Byte) (now : Nat) (s : State) : State :=
  let r := streamRec s n
  let km := recPlace r
  let first : Option Int :=
    if bit (u8 b 1) 0 then some (indexOf s n km.1 (extendTime (beN b 12 4) now + s32 r 24) now)
    else (memGet s km.1 km.2).cont
  match first with
  | none => s
  | some i =>
    let l := frameSamples r b
    let s1 := (List.range l.length).foldl (fun t (j : Nat) => placeSample km.1 km.2 (i + (j : Int)) (l.getD j []) t) s
    memMod s1 km.1 km.2 (fun q => if q.st = 0 then q else { q with cont := some (i + l.length) })

/-- R302, R307, R316: an AAF frame of a connected listener. -/
def listenerFrame (l : Nat) (b : List Byte) (now : Nat) (s : State) : State :=
  let n := 32 + l
  if !synced s then streamCount n 3 s
  else if !formatMatches s n b then
    postFormatError n (.res [0x0800 + n]) (streamGet s n) (fun f t => streamMod t n f) (streamCount n 1 s)
  else
    let q := streamGet s n
    let seq := u8 b 2
    let mr := bit (u8 b 1) 3
    let s1 := streamCount n 0 s
    let s2 := if q.expected = none ∨ q.expected = some seq then s1 else streamCount n 2 s1
    let s3 := if q.mr = none ∨ q.mr = some mr then s2 else portUnderrun 2 l (streamCount n 4 s2)
    let s4 := streamMod s3 n (fun q => { q with expected := some ((seq + 1) % 256), mr := some mr })
    let s5 := if q.st = 2 then enterStream n 3 q.cause 0 s4 else s4
    let s6 := if bit (u8 b 1) 0 then noteStamps 1 l [(extendTime (beN b 12 4) now).toNat] s5 else s5
    placeFrame n b now s6

/-- The timestamps of a CRF frame: eight bytes each (R309). -/
def crfTimes (b : List Byte) : List Nat :=
  (List.range (min (beN b 16 2) (b.length - 20) / 8)).map (fun i => beN b (20 + 8 * i) 8)

/-- R309: a CRF frame of a connected CRF listener; its timestamps feed the tracker of the domain that names it. -/
def crfFrameReceived (k : Nat) (b : List Byte) (s : State) : State :=
  if !synced s then crfCount k 3 s
  else if u8 b 0 != 0x04 || u8 b 3 != 1 || beN b 12 4 / 2 ^ 29 != 0 then
    postFormatError (63 + k) (.res [0x0102]) (crfGet s k) (fun f t => crfMod t k f) (crfCount k 1 s)
  else
    let s1 := crfMod (crfCount k 0 s) k (fun q => { q with quiet := 0 })
    let s2 := if (crfGet s k).st = 2 then enterCrf k 3 0 s1 else s1
    noteStamps 2 (k - 1) (crfTimes b) s2

/-! ## Delivery (R284) -/

/-- A gPTP message: the sequencer answers a Pdelay_Req of domain 0 (R297, R298). What the others do has rows of its own. -/
def gptpFrame (b : List Byte) (s : State) : State := if u8 b 0 % 16 = 2 ∧ u8 b 4 = 0 then answerPdelay s else s

/-- Deliver an accepted frame by its type: its outcome counter in group 1, and its effect. -/
def deliverFrame (f : List Byte) (now : Nat) (s : State) : State :=
  let b := frameBody f
  let sub := u8 b 0
  match frameType f with
  | 0x88F7 => gptpFrame b (macCount 1 6 s)
  | 0x22EA => macCount 1 7 s
  | 0x22F0 =>
    if sub = 0x02 ∨ sub = 0x04 then
      match listenerFor s b, crfListenerFor s b with
      | some l, some k => if sub = 0x02 then listenerFrame l b now (macCount 1 5 s) else crfFrameReceived k b (macCount 1 5 s)
      | some l, none => listenerFrame l b now (macCount 1 5 s)
      | none, some k => crfFrameReceived k b (macCount 1 5 s)
      | none, none => macCount 1 13 s
    else if sub ∈ [0xFA, 0xFB, 0xFC] then macCount 1 8 s
    else macCount 1 13 s
  | 0x8808 => if beN b 0 2 = 1 then pauseFrame (beN b 2 2) (macCount 1 9 s) else macCount 1 10 s
  | _ => macCount 1 13 s

/-- Counters of a frame in group 0 and group 1 that do not depend on its outcome (Tables 12-7, 12-8). -/
def countAccepted (f : List Byte) (s : State) : State :=
  let s1 := macCount 1 (1 + addressKind f) (macAdd 1 0 f.length (macCount 0 (sizeBin f.length) s))
  if frameTagged f then macCount 1 4 s1 else s1

/-- A frame leaves the receive FIFO: it is filtered and delivered (R282 to R284). -/
def passFrame (f : List Byte) (now : Nat) (s : State) : State :=
  if !addressAccepted s f then macCount 1 11 s
  else if !vidAccepted s f then macCount 1 12 s
  else deliverFrame f now s

/-- Bytes of the receive FIFO that frames take. -/
def rxFill (s : State) : Nat := (s.net.mac.rxFifo.map (fun x => x.1.length)).foldl (· + ·) 0

/-- The frames of the receive FIFO are delivered, oldest first. -/
def drainRx (s : State) : State :=
  s.net.mac.rxFifo.foldl (fun t x => passFrame x.1 x.2 t) (macMod s (fun m => { m with rxFifo := [] }))

/-- R285: the receive FIFO of 32 KiB. With a prompt delivery those that wait are delivered and then this frame; without, it
waits, and one that does not fit whole is discarded whole. -/
def fifoFrame (f : List Byte) (prompt : Bool) (now : Nat) (s : State) : State :=
  if prompt then passFrame f now (drainRx s)
  else if 32768 < rxFill s + f.length then macCount 2 4 s
  else macMod s (fun m => { m with rxFifo := m.rxFifo ++ [(f, now)] })

/-- R280: the classification, which stops at its first outcome. When the port delivers what the FIFO holds is not stated:
`prompt` tells that it has by this frame's end (DESIGN CHOICE, log entry 127). -/
def receiveFrame (f : List Byte) (codeError fcsValid prompt : Bool) (now : Nat) (s : State) : State :=
  let n := f.length
  if codeError then macCount 2 3 s
  else if n ≤ 63 then (if fcsValid then macCount 0 7 s else macCount 2 1 s)
  else if ethMaxLen s < n then (if fcsValid then macCount 0 8 s else macCount 2 2 s)
  else if !fcsValid then macCount 2 0 s
  else
    fifoFrame f prompt now (countAccepted f s)

/-- R277, R280: frames are received while the link is UP. -/
def execFrameReceived (frame : List Byte) (codeError fcsValid prompt : Bool) (now : Nat) (s : State) :
    Host.Outcome State Fault Refusal :=
  whenever (fun s => linkUp s && !frame.isEmpty) (receiveFrame frame codeError fcsValid prompt now) s

/-- A CRF listener that has accepted no frame for 10 ms leaves RECEIVING; counted at the fabric tick, as no row
tells it (log entry 53). -/
def tickCrf (s : State) (k : Nat) : State :=
  if (crfGet s k).st = 3 then
    let s1 := crfMod s k (fun q => { q with quiet := q.quiet + 1 })
    if fabricHz s ≤ 100 * (crfGet s1 k).quiet then enterCrf k 2 0 s1 else s1
  else s

end Sys2Proof.Machine
end

