-- ==== Sys2Proof/Machine/Gptp.lean ====
section
/-! DEFINITION. The link's states, gPTP, and the ENTITY_AVAILABLE messages that follow them (R276, R277, R279, R297
to R302, R318). -/

namespace Sys2Proof.Machine

def gptpMod (s : State) (f : Gptp → Gptp) : State := { s with net := { s.net with gptp := f s.net.gptp } }

/-- entity_id: ENTITY_ID, or the clockIdentity (R318). -/
def entityId (s : State) : BitVec 64 :=
  let e := u64 (entityData s) 4
  if e = 0 then clockIdentity s else BitVec.ofNat 64 e

/-! ## ADP messages (R318) -/

/-- An ADPDU of the part's own entity (layout of IEEE 1722.1, log entry 51): message 0 ENTITY_AVAILABLE,
1 ENTITY_DEPARTING. available_index advances at each message. -/
def adpSend (message : Nat) (s : State) : State :=
  if !linkUp s || (entitySection s).isNone then s
  else
    let d := entityData s
    let caps := freeField 4 s
    let more := freeField 24 caps.2
    let s1 := netMod more.2 (fun v => { v with available := (v.available + 1) % 2 ^ 32 })
    let count := fun (f : Nat → List Byte) => ((List.range 32).filter (fun i => recEnabled (f i))).length
    offerControl 1 [0x91, 0xE0, 0xF0, 0x01, 0x00, 0x00] 0x22F0
      ([0xFA] ++ b1 message ++ b1 (u8 d 26 * 8) ++ b1 56 ++ beBytes 8 (entityId s).toNat ++ beBytes 8 (u64 d 12)
        ++ caps.1 ++ beBytes 2 (count (talkerRec d)) ++ more.1.take 2 ++ beBytes 2 (count (listenerRec d))
        ++ (more.1.drop 2).take 6 ++ beBytes 4 s1.net.available ++ beBytes 8 s.net.gptp.gm.toNat ++ zeros 4
        ++ (more.1.drop 8).take 12 ++ zeros 4) s1

/-- R318: a planned leaving of UP sends ENTITY_DEPARTING while the link still allows it. -/
def departing (s : State) : State :=
  let n := s.net.mac.queueC.length
  let t := adpSend 1 s
  match t.net.mac.queueC.drop n with
  | [] => t
  | f :: _ => sendFrame f (macMod t (fun m => { m with queueC := m.queueC.take n }))

/-- Something of the network that the CP executes waits while the CP does not run (R322, Table 18-7). -/
def netHold (h : NetHeld) (s : State) : State := netMod s (fun v => { v with waiting := v.waiting ++ [h] })

/-- What the CP executes at once, or when it runs again. -/
def netServe (h : NetHeld) (act : State → State) (s : State) : State := if cpRuns s then act s else netHold h s

/-- The network reaches the CP: the link is UP and the CP is there, or absent for an activation. -/
def netReaches (s : State) : Bool := linkUp s && (cpPresent s || s.host.absent)

def execAdpAdvertise (s : State) : Host.Outcome State Fault Refusal :=
  whenever (fun s => netReaches s && (entitySection s).isSome) (netServe .advertise (adpSend 0)) s

/-! ## States (R299, Table 13-2) -/

/-- gPTP takes a state; GPTP_STATE (Table 13-13), and the streams follow (R302, R314). -/
def enterGptp (st cause log : Nat) (s : State) : State :=
  if s.net.gptp.st = st then s
  else refreshStreams (if cause = 1 then 5 else 4) log
    (postEthFor log 0x0801 0 (st + 256 * cause) (gptpMod s (fun g => { g with st := st })))

/-- A new grandmaster identity, which ENTITY_AVAILABLE tells (R318). -/
def setGrandmaster (id : BitVec 64) (steps : Nat) (s : State) : State :=
  let s1 := gptpMod s (fun g => { g with gm := id, steps := steps })
  if s.net.gptp.gm = id then s1 else adpSend 0 s1

/-- The part becomes grandmaster: its time goes on without a step (R301), and an asCapable port announces it. -/
def becomeGrandmaster (log : Nat) (s : State) : State :=
  let s1 := enterGptp 4 7 log (setGrandmaster (clockIdentity s) 0 (gptpMod s (fun g =>
    { g with offset := 0, qualify := 0, firstOffset := false, syncAge := 0, syncs := 0 })))
  if s1.net.gptp.asCapable then sendAnnounce s1 else s1

/-- The messages of a grandmaster's asCapable port by the intervals of Table 13-1, counted in fabric periods (log entry 127). -/
def tickGptp (s : State) : State :=
  let g := s.net.gptp
  if !(linkUp s && g.asCapable && g.st == 4) then s
  else if 8 * (g.syncAge + 1) < fabricHz s then gptpMod s (fun g => { g with syncAge := g.syncAge + 1 })
  else
    let s1 := sendSync (gptpMod s (fun g => { g with syncAge := 0, syncs := (g.syncs + 1) % 8 }))
    if s1.net.gptp.syncs = 0 then sendAnnounce s1 else s1

/-- No grandmaster is known. -/
def becomeListening (cause log : Nat) (s : State) : State :=
  enterGptp 1 cause log (gptpMod s (fun g => { g with qualify := 0, firstOffset := false }))

/-- A priority vector, most significant part first (IEEE 802.1AS). -/
def priorityVector (p1 cls accuracy variance p2 : Nat) (id : BitVec 64) : Nat :=
  ((((p1 * 256 + cls) * 256 + accuracy) * 65536 + variance) * 256 + p2) * 2 ^ 64 + id.toNat

/-- The part's own vector (Table 13-1). -/
def ownVector (s : State) : Nat :=
  let g := s.net.gptp
  priorityVector g.priority1 (if g.priority1 = 255 then 255 else 248) 0xFE 0x436A g.priority2 (clockIdentity s)

/-- BMCA selects the part: it is grandmaster-capable, and its vector is the better one. -/
def selectsSelf (s : State) : Bool := s.net.gptp.priority1 != 255 && decide (ownVector s < s.net.gptp.gmVector)

/-- Another clock is selected (R299, R301): its identity is the low 64 bits of its vector. -/
def followClock (steps log : Nat) (s : State) : State :=
  let g := s.net.gptp
  let id := BitVec.ofNat 64 g.gmVector
  let fresh := g.gm != id
  let s1 := setGrandmaster id steps s
  if g.st = 1 ∨ g.st = 4 then enterGptp 2 4 log (gptpMod s1 (fun x => { x with qualify := 0 }))
  else if g.st = 2 then (if fresh then gptpMod s1 (fun x => { x with qualify := 0 }) else s1)
  else if fresh then gptpMod s1 (fun x => { x with firstOffset := true })
  else s1

/-- BMCA over the clock that Announce messages give. -/
def runBmca (steps log : Nat) (s : State) : State :=
  if selectsSelf s then (if s.net.gptp.st = 4 then s else becomeGrandmaster log s) else followClock steps log s

/-- BMCA runs again with priorities that have changed (R297, R324). -/
def rerunBmca (log : Nat) (s : State) : State :=
  let g := s.net.gptp
  if g.announces then (if g.st ∈ [1, 2, 3, 4] ∧ g.asCapable = true then runBmca g.steps log s else s)
  else if g.st = 4 ∧ g.priority1 = 255 then becomeListening 4 log (setGrandmaster 0 0 s)
  else s

/-- R297, R299, R301: an Announce message of domain 0, used by an asCapable port. -/
def execGptpAnnounceReceived (priority1 clockClass accuracy : Byte) (variance : BitVec 16) (priority2 : Byte)
    (gm : BitVec 64) (steps : BitVec 16) (s : State) : Host.Outcome State Fault Refusal :=
  whenever (fun s => linkUp s && s.net.gptp.asCapable && s.net.gptp.st != 0)
    (fun s => runBmca (steps.toNat + 1) 0 (gptpMod s (fun g =>
      { g with
        announces := true
        gmVector := priorityVector priority1.toNat clockClass.toNat accuracy.toNat variance.toNat priority2.toNat gm }))) s

/-- R299: 3 s with no Announce. A part that may not be grandmaster listens. -/
def announceTimeout (s : State) : State :=
  let s1 := gptpMod s (fun g => { g with announces := false })
  if s.net.gptp.priority1 = 255 then becomeListening 4 0 (setGrandmaster 0 0 s1) else becomeGrandmaster 0 s1

def execGptpAnnounceTimeout (s : State) : Host.Outcome State Fault Refusal :=
  whenever (fun s => linkUp s && s.net.gptp.st ∈ [1, 2, 3]) announceTimeout s

/-- asCapable is lost (R298, Table 13-2). -/
def loseCapable (s : State) : State :=
  let g := s.net.gptp
  let s1 := gptpMod s (fun g => { g with asCapable := false, good := 0 })
  if !g.asCapable then s1
  else if g.st = 2 ∨ g.st = 3 ∨ (g.st = 4 ∧ g.announces) then becomeListening 2 0 s1
  else s1

/-- R298: a Pdelay exchange completes with a delay in ns, or fails. -/
def pdelayComplete (okay : Bool) (delay : Nat) (s : State) : State :=
  let g := s.net.gptp
  if !okay then
    let s1 := gptpMod s (fun g => { g with bad := g.bad + 1, good := 0 })
    if 3 ≤ g.bad + 1 then loseCapable s1 else s1
  else
    let s1 := gptpMod s (fun g => { g with bad := 0, delay := delay })
    if 800 < delay then loseCapable s1
    else gptpMod s1 (fun g => { g with good := g.good + 1, asCapable := g.asCapable || decide (3 ≤ g.good + 1) })

/-- The next exchange's request enters queue C with the end of the one before: the second between them is time (log entry 127). -/
def execGptpPdelayComplete (ok : Bool) (delay : Nat) (s : State) : Host.Outcome State Fault Refusal :=
  whenever (fun s => linkUp s) (fun s => sendPdelayReq (pdelayComplete ok delay s)) s

/-- R302: gPTP time is set to the grandmaster's in one step. -/
def stepTime (s : State) : State :=
  let s1 := gptpMod s (fun g => { g with stepCount := g.stepCount + 1, qualify := 0, firstOffset := false })
  if s.net.gptp.st = 2 then postEth 0x0801 0 (2 + 256 * 5) s1 else enterGptp 2 5 0 s1

/-- R299 to R302: a Sync gives the offset from the grandmaster in ns, and gPTP time after it. ASYMMETRY corrects the timestamps
(R300): by the sign of IEEE 802.1AS it comes off the offset, and the two directions of a Pdelay exchange cancel it (PRESUMED,
log entry 127). -/
def syncReceived (measured : Int) (now : Nat) (s : State) : State :=
  let offset := measured - s.net.gptp.asymmetry
  let s1 := gptpMod s (fun g => { g with offset := offset, time := now })
  if offset < -1000 ∨ 1000 < offset then stepTime s1
  else
    let s2 := gptpMod s1 (fun g => { g with firstOffset := false })
    if s.net.gptp.st = 3 then s2
    else if offset < -100 ∨ 100 < offset then gptpMod s2 (fun g => { g with qualify := 0 })
    else
      let s3 := gptpMod s2 (fun g => { g with qualify := g.qualify + 1 })
      if 8 ≤ s3.net.gptp.qualify then enterGptp 3 6 0 s3 else s3

def execGptpSyncReceived (offset : Int) (now : Nat) (s : State) : Host.Outcome State Fault Refusal :=
  whenever (fun s => linkUp s && s.net.gptp.st ∈ [2, 3]) (syncReceived offset now) s

/-- R299: syncReceiptTimeout. -/
def execGptpSyncTimeout (s : State) : Host.Outcome State Fault Refusal :=
  whenever (fun s => linkUp s && s.net.gptp.st ∈ [2, 3])
    (fun s =>
      let s1 := gptpMod s (fun g => { g with timeouts := g.timeouts + 1, qualify := 0 })
      if s.net.gptp.st = 3 then becomeListening 3 0 s1 else s1) s

/-- The entity section of a chart that comes into force gives the priorities, and a chart without one leaves the defaults
(Tables 13-1, 13-3); BMCA runs again. -/
def startGptp (log : Nat) (s : State) : State :=
  let p := match entitySection s with
    | none => (248, 248)
    | some d => (u8 d 2, u8 d 3)
  rerunBmca log (gptpMod s (fun g => { g with priority1 := p.1, priority2 := p.2 }))

/-! ## The link (R276, R277) -/

/-- NET_LINK (Table 12-14). -/
def postLink (up : Bool) (cause log : Nat) (s : State) : State := postEthFor log 0x0880 0 (flag up + 256 * ethMode s + 65536 * cause) s

/-- R277, R298, R299: the link enters DOWN. -/
def linkGoesDown (cause log : Nat) (s : State) : State :=
  let m := s.net.mac
  if m.link = 0 then s
  else
    let held := m.queueA.length + m.queueB.length + m.queueC.length
    let s1 := macAdd 4 2 held (macMod s (fun m =>
      { m with link := 0, downCause := cause, downs := m.downs + 1, queueA := [], queueB := [], queueC := [], rxFifo := []
               creditA := min m.creditA 0, creditB := min m.creditB 0, sending := 0, sendTime := 0 }))
    let s2 := if cause = 1 then macCount 2 5 s1 else s1
    let s3 := endPause false (postLink false cause log s2)
    enterGptp 0 1 log (gptpMod (netMod s3 (fun v => { v with declared := [] })) (fun g =>
      { g with asCapable := false, good := 0, bad := 0, qualify := 0, firstOffset := false, announces := false }))

/-- R276: code-group synchronisation. -/
def execLinkSyncAcquired (s : State) : Host.Outcome State Fault Refusal :=
  whenever (fun s => netAlive s && s.net.mac.link == 0)
    (fun s => macMod s (fun m => { m with link := 1 })) s

/-- R276, R299, R318: the conditions of the mode have held for 10 ms. In SGMII the PHY reports 1,000 Mbit/s full
duplex. -/
def linkComesUp (partner : Nat) (s : State) : State :=
  let s1 := macMod s (fun m => { m with link := 2, ups := m.ups + 1, partner := if ethMode s = 0 then partner else 0 })
  adpSend 0 (sendPdelayReq (enterGptp 1 1 0 (postLink true 0 0 s1)))

def execLinkUp (partner : Fin 3) (s : State) : Host.Outcome State Fault Refusal :=
  whenever (fun s => netAlive s && s.net.mac.link == 1 && (ethMode s != 0 || partner == 1)) (linkComesUp partner.val) s

/-- R276, R277: causes 1 to 4 of NET_LINK. -/
def execLinkDown (cause : Fin 4) (partner : Fin 3) (s : State) : Host.Outcome State Fault Refusal :=
  whenever (fun s => s.net.mac.link != 0)
    (fun s => linkGoesDown (1 + cause.val) 0 (macMod s (fun m => { m with partner := if ethMode s = 0 then partner.val else 0 }))) s

/-- R277, R279, R291: the port after a swap: the PHY's reset, the link of a port that is gone, and PAUSE. -/
def swapPort (old : Bank) (log : Nat) (s : State) : State :=
  let was := enabledIn old 2
  let now := portEnabled s 2
  let s1 := if now then phyReset (s.eng.halted || s.pwr.thermalShut) s
    else if was then
      let d := departing { s with cs := { s.cs with near := old } }
      linkGoesDown 5 log (phyReset true { d with cs := s.cs })
    else s
  if pauseHonor s1 then s1 else endPause false s1

/-- A swap has changed the station address in use, and with it the identities that follow from it (R275, Table 13-1): a
grandmaster's own, and the entity's, which ENTITY_AVAILABLE tells (R318) unless CHART_SELECT is to tell the new entity after its
step 5. -/
def swapIdentity (old : Bank) (s : State) : State :=
  let before := { s with cs := { s.cs with near := old } }
  let own := s.net.gptp.st == 4 && s.net.gptp.gm != clockIdentity s
  let s1 := if own then gptpMod s (fun g => { g with gm := clockIdentity s }) else s
  if (own || entityId before != entityId s) && !s.cs.select.any (·.entity) then adpSend 0 s1 else s1

/-- What a swap does to the network. -/
def swapNet (old : Bank) (log : Nat) (s : State) : State := swapIdentity old (swapPort old log s)

/-! ## Commands -/

/-- gPTP time in ns: a free time not before the last one known. -/
def gptpNow (s : State) : Nat := s.net.gptp.time + openValue s 0

def gptpStatusResult (s : State) : List Byte :=
  let g := s.net.gptp
  b1 g.st ++ b1 (flag g.asCapable + 2 * flag (g.priority1 != 255)) ++ b1 g.priority1 ++ b1 g.priority2
    ++ b8 g.gm.toNat ++ b8 (clockIdentity s).toNat ++ sb4 g.offset ++ b4 g.delay ++ b2 g.steps ++ zeros 2
    ++ b8 (gptpNow s) ++ b4 g.timeouts ++ b4 g.stepCount

def execGptpStatus (o : Issue) (p : List Byte) (s : State) : Host.Outcome State Fault Refusal :=
  hostCommand 0x0804 o p noCheck (reads gptpStatusResult) s

def gptpSetCheck (p : List Byte) (_ : State) : Option Nat :=
  firstRefusal [(decide (s32 p 4 < -10000) || decide (10000 < s32 p 4), stBadParam)]

/-- R324: the settings take effect at once, and BMCA runs again. -/
def gptpSetDo (p : List Byte) (log : Nat) (s : State) : Done :=
  ok (rerunBmca log (gptpMod s (fun g => { g with priority1 := u8 p 0, priority2 := u8 p 1, asymmetry := s32 p 4 })))

def execGptpSet (o : Issue) (p : List Byte) (s : State) : Host.Outcome State Fault Refusal :=
  hostCommand 0x0805 o p (gptpSetCheck p) (gptpSetDo p) s

end Sys2Proof.Machine
end

