-- ==== Sys2Proof/Machine/Discovery.lean ====
section
/-! DEFINITION. The discovery table, ACMP, AEM commands and the vendor-unique transport (R317 to R323). -/

namespace Sys2Proof.Machine

/-! ## The discovery table (R319) -/

/-- DISC_CHANGED, no more than once per second, with what has changed since the one before. -/
def discChanged (added removed : Nat) (s : State) : State :=
  let s1 := netMod s (fun v => { v with discAdded := v.discAdded + added, discRemoved := v.discRemoved + removed })
  let d := if s.net.discPosted then drawElapsed s1 else (true, s1)
  if d.1 then
    post 0x0804 0 0 (d.2.net.discAdded % 65536 + 65536 * (d.2.net.discRemoved % 65536)) .none
      (netMod d.2 (fun v => { v with discAdded := 0, discRemoved := 0, discPosted := true }))
  else d.2

/-- A new entity finds the table full: DISC_FULL at the first refusal, then no more than once per 10 s. -/
def discRefused (s : State) : State :=
  let s1 := netMod s (fun v => { v with discFull := min (v.discFull + 1) 0xFFFFFFFF, discFullFold := v.discFullFold + 1 })
  let d := if s.net.discFullPosted then drawElapsed s1 else (true, s1)
  if d.1 then
    post 0x0805 0 0 d.2.net.discFullFold .none (netMod d.2 (fun v => { v with discFullFold := 0, discFullPosted := true }))
  else d.2

/-- Entries in ascending entity_id. -/
def discInsert (e : DiscEntry) : List Disc → List Disc
  | [] => [{ e := e }]
  | x :: r => if e.entityId < x.e.entityId then { e := e } :: x :: r else x :: discInsert e r

def discWithout (id : BitVec 64) (l : List Disc) : List Disc := l.filter (fun x => x.e.entityId != id)

def discFind (s : State) (id : BitVec 64) : Option DiscEntry :=
  (s.net.disc.find? (fun x => x.e.entityId == id)).map (·.e)

def setDisc (l : List Disc) (s : State) : State := netMod s (fun v => { v with disc := l })

/-- An ADP message of another entity. -/
def adpReceived (departing : Bool) (e : DiscEntry) (s : State) : State :=
  let rest := discWithout e.entityId s.net.disc
  match discFind s e.entityId with
  | some old =>
    if departing then discChanged 0 1 (setDisc rest s)
    else
      let s1 := setDisc (discInsert e rest) s
      if e.availableIndex < old.availableIndex then discChanged 1 1 s1 else s1
  | none =>
    if departing then s
    else if 2048 ≤ s.net.disc.length then discRefused s
    else discChanged 1 0 (setDisc (discInsert e s.net.disc) s)

def execAdpReceived (departing : Bool) (e : DiscEntry) (s : State) : Host.Outcome State Fault Refusal :=
  whenever (fun s => netReaches s && e.entityId != entityId s) (netServe (.adp departing e) (adpReceived departing e)) s

/-- R319: valid_time × 2 s without a refresh. -/
def execDiscEntryExpire (entity : BitVec 64) (s : State) : Host.Outcome State Fault Refusal :=
  whenever (fun s => (discFind s entity).isSome)
    (fun s => discChanged 0 1 (setDisc (discWithout entity s.net.disc) s)) s

def discReadCheck (p : List Byte) (_ : State) : Option Nat :=
  firstRefusal [(u8 p 2 == 0 || decide (20 < u8 p 2), stBadParam)]

/-- An entry of 48 bytes; the time to its expiry is the outside's, at most valid_time × 2 s. -/
def discBytes (s : State) (i : Nat) (e : DiscEntry) : List Byte :=
  b8 e.entityId.toNat ++ b8 e.modelId.toNat ++ b4 e.capabilities.toNat ++ b2 e.talkerSources.toNat
    ++ b2 e.listenerSinks.toNat ++ b8 e.grandmaster.toNat ++ beBytes 6 e.source.toNat ++ b1 e.validTime.toNat ++ zeros 1
    ++ b4 e.availableIndex.toNat ++ b2 (openValue s i % (2 * e.validTime.toNat + 1)) ++ zeros 2

def discReadResult (p : List Byte) (s : State) : List Byte :=
  let l := ((s.net.disc.drop (u16 p 0)).take (u8 p 2)).map (·.e)
  b1 l.length ++ zeros 3 ++ (List.range l.length).flatMap (fun i => ((l[i]?).map (discBytes s i)).getD [])

def execDiscRead (o : Issue) (p : List Byte) (s : State) : Host.Outcome State Fault Refusal :=
  hostCommand 0x080B o p (discReadCheck p) (reads (discReadResult p)) s

def discStatusCheck (p : List Byte) (_ : State) : Option Nat := firstRefusal [(decide (1 < u8 p 0), stBadParam)]

def discStatusDo (p : List Byte) (_ : Nat) (s : State) : Done :=
  okWith (b2 s.net.disc.length ++ zeros 2 ++ b4 s.net.discFull ++ b4 s.net.available ++ b8 (entityId s).toNat)
    (if u8 p 0 = 1 then netMod s (fun v => { v with discFull := 0 }) else s)

def execDiscStatus (o : Issue) (p : List Byte) (s : State) : Host.Outcome State Fault Refusal :=
  hostCommand 0x080C o p (discStatusCheck p) (discStatusDo p) s

/-! ## ACMP (R317) -/

/-- Shared or unowned: what a command of no context may change. -/
def openMooring (s : State) (id : Nat) : Bool := ownerOf s id == 0xFE || ownerOf s id == 0xFF

/-- ACMP statuses (IEEE 1722.1, log entry 51). -/
def acmpOk : Nat := 0
def acmpUnknown (talker : Bool) : Nat := if talker then 2 else 1
def acmpNoBandwidth : Nat := 5
def acmpNotAuthorized : Nat := 16
def acmpNotSupported : Nat := 31

/-- An ACMP response (layout of IEEE 1722.1); fields that the row does not carry are free. -/
def acmpSend (kind status : Nat) (id : BitVec 64) (dest : BitVec 48) (controller : BitVec 64) (count : Nat) (s : State) : State :=
  let more := freeField 28 s
  offerControl 1 [0x91, 0xE0, 0xF0, 0x01, 0x00, 0x00] 0x22F0
    ([0xFC] ++ b1 ([7, 9, 1, 3].getD kind 0) ++ beBytes 2 (status % 32 * 2048 + 44) ++ beBytes 8 id.toNat
      ++ beBytes 8 controller.toNat ++ more.1.take 20 ++ beBytes 6 dest.toNat ++ beBytes 2 count
      ++ (more.1.drop 20).take 8) more.2

/-- What an ACMP command does to a stream: its status, and the state. -/
def acmpEffect (kind n : Nat) (id : BitVec 64) (dest : BitVec 48) (log : Nat) (s : State) : Nat × State :=
  let q := streamGet s n
  if !streamDefined s n then (acmpUnknown (decide (n < 32)), s)
  else if !openMooring s (0x0800 + n) then (acmpNotAuthorized, s)
  else if kind = 0 ∨ kind = 2 then
    let s1 := if kind = 0 then nameStream n dest.toNat id 0xFFFFFFFF s else s
    let s2 := fun t => if kind = 2 then streamMod t n (fun q => { q with acmp := q.acmp + 1 }) else t
    if q.st ≠ 0 then (acmpOk, refreshStream 1 log (s2 s1) n)
    else if decide (n < 32) && !slopeFits s (talkerSlope s n) then (acmpNoBandwidth, s)
    else
      let r := connectStream n 1 log [] s1
      if r.1 = stOk then (acmpOk, s2 r.2) else (acmpNotSupported, r.2)
  else
    let s1 := streamMod s n (fun q => { q with acmp := q.acmp - 1 })
    if kind = 3 ∧ (1 < q.acmp ∨ q.byCommand = true) then (acmpOk, s1)
    else (acmpOk, disconnectStream n 1 log true s1)

/-- R317: in the listener's role the part sends the talker CONNECT_TX or DISCONNECT_TX; the talker's response gives the
row's stream_id and destination. The talker's identity is not the row's, and is free. -/
def acmpToTalker (kind n : Nat) (controller : BitVec 64) (s : State) : State :=
  if kind < 2 ∧ streamDefined s n = true ∧ openMooring s (0x0800 + n) = true then
    let more := freeField 36 s
    offerControl 1 [0x91, 0xE0, 0xF0, 0x01, 0x00, 0x00] 0x22F0
      ([0xFC] ++ b1 (2 * kind) ++ beBytes 2 44 ++ zeros 8 ++ beBytes 8 controller.toNat ++ more.1.take 8
        ++ beBytes 8 (entityId s).toNat ++ (more.1.drop 8).take 2 ++ beBytes 2 (n % 32) ++ zeros 8 ++ (more.1.drop 10).take 8)
      more.2
  else s

/-- R317: executed as a command of no context, with a log number; then the response. -/
def acmpCommand (kind n : Nat) (id : BitVec 64) (dest : BitVec 48) (controller : BitVec 64) (s : State) : State :=
  let r := acmpEffect kind n id dest s.host.log (acmpToTalker kind n controller (takeLog s))
  let q := streamGet r.2 n
  acmpSend kind r.1 (streamIdOf r.2 n) q.dest controller q.acmp r.2

def execAcmpCommand (kind : Fin 4) (stream : Fin 32) (streamId : BitVec 64) (dest : BitVec 48) (controller : BitVec 64)
    (s : State) : Host.Outcome State Fault Refusal :=
  let n := stream.val + if kind.val < 2 then 32 else 0
  whenever (fun s => netReaches s && (entitySection s).isSome)
    (netServe (.acmp kind.val n streamId dest controller) (acmpCommand kind.val n streamId dest controller)) s

/-! ## AECP (R320 to R323) -/

def aecpGet (s : State) (c : BitVec 64) : Aecp :=
  (s.net.aecp.find? (fun a => a.controller == c)).getD
    { controller := c, lastSeq := none, response := [], assembly := [], frags := 0, reply := [] }

def aecpMod (c : BitVec 64) (f : Aecp → Aecp) (s : State) : State :=
  let a := f (aecpGet s c)
  netMod s (fun v => { v with aecp := v.aecp.filter (fun x => x.controller != c) ++ [a] })

/-- An AECPDU (layout of IEEE 1722.1): message type, status, and what follows sequence_id. The controller's address
is not the row's; it is free. -/
def aecpBytes (s : State) (message status : Nat) (c : BitVec 64) (seq : BitVec 16) (body : List Byte) : List Byte :=
  [0xFB] ++ b1 message ++ beBytes 2 (status % 32 * 2048 + (10 + body.length) % 2048) ++ beBytes 8 (entityId s).toNat
    ++ beBytes 8 c.toNat ++ beBytes 2 seq.toNat ++ body

/-- A response is sent to its controller (R322) and kept for a repeated sequence_id. -/
def aecpSend (c : BitVec 64) (bytes : List Byte) (s : State) : State :=
  let a := freeField 6 s
  offerControl 1 a.1 0x22F0 bytes a.2

def aecpRespond (c : BitVec 64) (seq : BitVec 16) (bytes : List Byte) (s : State) : State :=
  aecpSend c bytes (aecpMod c (fun a => { a with lastSeq := some seq, response := bytes }) s)

/-- R321: while H4 is open, only its controller's commands are executed. -/
def foreign (s : State) (c : BitVec 64) : Bool := isOpen s 4 && s.host.h4Controller != some c

/-- AEM statuses (IEEE 1722.1, log entry 51). -/
def aemSuccess : Nat := 0
def aemNotImplemented : Nat := 1
def aemNoDescriptor : Nat := 2
def aemLocked : Nat := 3
def aemAcquired : Nat := 4
def aemBadArguments : Nat := 7
def aemNotSupported : Nat := 11

/-- The mooring rule for an AEM command: H4's moorings while H4 is open, else R317's. -/
def aemMay (s : State) (id : Nat) : Bool := if isOpen s 4 then canChange s .h4 id else openMooring s id

/-- ACQUIRE and LOCK of another controller stand against a command that changes something (IEEE 1722.1), while H4 is closed: the
commands of H4's controller are H4's, under its moorings (R321). -/
def aemHeld (s : State) (c : BitVec 64) : Option Nat :=
  if isOpen s 4 then none else
  match s.net.acquired, s.net.locked with
  | some a, l => if a != c then some aemAcquired else match l with
    | some b => if b != c then some aemLocked else none
    | none => none
  | none, some b => if b != c then some aemLocked else none
  | none, none => none

/-- Stream of a STREAM_INPUT or STREAM_OUTPUT. -/
def aemStream (input : Bool) (k : Nat) : Nat := if input then 32 + k else k

/-- A command on a stream: it exists, is not held, and the mooring rule admits it. -/
def aemOnStream (c : BitVec 64) (n : Nat) (act : State → Nat × State) (s : State) : Nat × State :=
  match aemHeld s c with
  | some st => (st, s)
  | none =>
    if !streamDefined s n then (aemNoDescriptor, s)
    else if !aemMay s (0x0800 + n) then (aemNotSupported, s)
    else act s

/-- SET_STREAM_FORMAT: the record's own format, at an allowed rate; a rate change is DOMAIN_SET_RATE (R320). -/
def aemSetFormat (n log : Nat) (format nsr channels : Byte) (s : State) : Nat × State :=
  let r := streamRec s n
  let d := convoyDomain s (recPlace r).1
  let hz := ((nsrTable.find? (fun x => x.2 == nsr.toNat)).map (·.1)).getD 0
  match (List.range 12).find? (fun i => codeHz i == hz) with
  | some code =>
    if u8 r 4 != format.toNat || u8 r 5 != channels.toNat || !rateAllowed s d code then (aemNotSupported, s)
    else if codeHz (domGet s d).rate = hz ∧ (domGet s d).pendRate = none then (aemSuccess, s)
    else if !aemMay s (0x0500 + d) then (aemNotSupported, s)
    else (aemSuccess, commitRate d code log s)
  | none => (aemBadArguments, s)

/-- START_STREAMING acts as STREAM_CONNECT. -/
def aemStart (n log : Nat) (s : State) : Nat × State :=
  if (streamGet s n).st ≠ 0 then (aemSuccess, streamMod s n (fun q => { q with byCommand := true }))
  else
    let r := connectStream n 2 log [] s
    if r.1 = stOk then (aemSuccess, streamMod r.2 n (fun q => { q with byCommand := true })) else (aemNotSupported, r.2)

/-- STOP_STREAMING acts as STREAM_DISCONNECT. -/
def aemStop (n log : Nat) (s : State) : Nat × State :=
  let s1 := streamMod s n (fun q => { q with byCommand := false })
  (aemSuccess, if n < 32 ∧ (streamGet s n).acmp ≠ 0 then s1 else disconnectStream n 2 log true s1)

/-- SET_CLOCK_SOURCE is DOMAIN_SET_REF. -/
def aemSetClock (c : BitVec 64) (d alt log : Nat) (s : State) : Nat × State :=
  match aemHeld s c with
  | some st => (st, s)
  | none =>
    if !domainInChart s d then (aemNoDescriptor, s)
    else if u8 (domEntry s.cs.near d) 5 ≤ alt then (aemBadArguments, s)
    else if !aemMay s (0x0500 + d) then (aemNotSupported, s)
    else (aemSuccess, commitAlt d alt log s)

/-- The counters of a descriptor (R320), by their place in the block: H4's copy of a stream's (R324), the port's (R294), a
domain's. The places are IEEE 1722.1's (PRESUMED, log entry 51); none where there is no such descriptor. -/
def aemCounters (s : State) (type index : Nat) : Option (List (Nat × Nat)) :=
  let stream := fun (n i : Nat) => tget 0 (streamGet s n).counts (32 + i)
  let n := 32 + index
  if type = 5 ∧ index < 32 ∧ streamDefined s n = true then
    some [(3, stream n 2), (4, stream n 4), (8, stream n 1), (11, stream n 0)]
  else if type = 6 ∧ index < 32 ∧ streamDefined s index = true then some [(4, stream index 0)]
  else if type = 9 ∧ index = 0 then
    some [(0, s.net.mac.ups), (1, s.net.mac.downs), (2, macCounter s 3 1),
      (3, ((List.range 7).map (macCounter s 0)).foldl (· + ·) 0), (4, macCounter s 2 0)]
  else if type = 0x24 ∧ domainInChart s index = true then some [(0, (domGet s index).locks), (1, (domGet s index).unlocks)]
  else none

/-- The effect of an AEM command (R320): its status and the state. -/
def aemEffect (c : BitVec 64) (log : Nat) (cmd : AemCommand) (s : State) : Nat × State :=
  match cmd with
  | .acquireEntity release =>
    if !isOpen s 4 && s.net.acquired.isSome && s.net.acquired != some c then (aemAcquired, s)
    else (aemSuccess, netMod s (fun v => { v with acquired := if release then none else some c }))
  | .lockEntity unlock =>
    if !isOpen s 4 && s.net.locked.isSome && s.net.locked != some c then (aemLocked, s)
    else (aemSuccess, netMod s (fun v => { v with locked := if unlock then none else some c }))
  | .entityAvailable => (aemSuccess, s)
  | .readDescriptor type index =>
    let d := entityData s
    (if (Config.aemPlace (bytesAt d (u16 d 36) (u16 d 38)) type.toNat index.toNat).isSome then aemSuccess else aemNoDescriptor, s)
  | .getStreamFormat input k => if streamDefined s (aemStream input k.val) then (aemSuccess, s) else (aemNoDescriptor, s)
  | .setStreamFormat input k format rate channels =>
    aemOnStream c (aemStream input k.val) (aemSetFormat (aemStream input k.val) log format rate channels) s
  | .getStreamInfo input k => if streamDefined s (aemStream input k.val) then (aemSuccess, s) else (aemNoDescriptor, s)
  | .setStreamInfo input k id dest =>
    aemOnStream c (aemStream input k.val)
      (fun s => (aemSuccess, refreshStream 2 log (nameStream (aemStream input k.val) dest.toNat id 0xFFFFFFFF s)
        (aemStream input k.val))) s
  | .startStreaming input k => aemOnStream c (aemStream input k.val) (aemStart (aemStream input k.val) log) s
  | .stopStreaming input k => aemOnStream c (aemStream input k.val) (aemStop (aemStream input k.val) log) s
  | .getAvbInfo => (aemSuccess, s)
  | .getAsPath => (aemSuccess, s)
  | .getCounters type index => (if (aemCounters s type.toNat index.toNat).isSome then aemSuccess else aemNoDescriptor, s)
  | .getClockSource d => if domainInChart s d.val then (aemSuccess, s) else (aemNoDescriptor, s)
  | .setClockSource d alt => aemSetClock c d.val alt.toNat log s
  | .registerUnsolicited => (aemSuccess, netMod s (fun v => { v with unsolicited := withElem c v.unsolicited }))
  | .deregisterUnsolicited => (aemSuccess, netMod s (fun v => { v with unsolicited := without c v.unsolicited }))
  | .other _ => (aemNotImplemented, s)

/-! ### Responses: command types, descriptor types and layouts are IEEE 1722.1's (PRESUMED, log entry 51) -/

def aemCode (cmd : AemCommand) : Nat :=
  match cmd with
  | .acquireEntity _ => 0x00
  | .lockEntity _ => 0x01
  | .entityAvailable => 0x02
  | .readDescriptor _ _ => 0x04
  | .setStreamFormat _ _ _ _ _ => 0x08
  | .getStreamFormat _ _ => 0x09
  | .setStreamInfo _ _ _ _ => 0x0E
  | .getStreamInfo _ _ => 0x0F
  | .setClockSource _ _ => 0x16
  | .getClockSource _ => 0x17
  | .startStreaming _ _ => 0x22
  | .stopStreaming _ _ => 0x23
  | .registerUnsolicited => 0x24
  | .deregisterUnsolicited => 0x25
  | .getAvbInfo => 0x27
  | .getAsPath => 0x28
  | .getCounters _ _ => 0x29
  | .other code => code.toNat

/-- A descriptor's type and index. -/
def aemHead (type index : Nat) : List Byte := beBytes 2 type ++ beBytes 2 index
def aemStreamHead (input : Bool) (k : Nat) : List Byte := aemHead (if input then 5 else 6) k

/-- The stream format of a record at the rate in force: AAF PCM of IEEE 1722. -/
def aemFormat (s : State) (n : Nat) : List Byte :=
  let r := streamRec s n
  [0x02] ++ b1 (nsrOf (streamHz s n)) ++ b1 (u8 r 4) ++ b1 (formatDepth (u8 r 4))
    ++ beBytes 4 (u8 r 5 * 2 ^ 22 + (if n < 32 then u16 r 6 % 1024 else 0) * 2 ^ 12)

/-- Some bytes of a list replaced, where it holds them all. -/
def patched (at_ : Nat) (new l : List Byte) : List Byte :=
  if at_ + new.length ≤ l.length then l.take at_ ++ new ++ l.drop (at_ + new.length) else l

/-- The part fills in the dynamic fields of a descriptor as it reads: format and class of a stream, the clock source of a
domain, the gPTP identity of the interface (R320). -/
def aemFilled (s : State) (type index : Nat) (d : List Byte) : List Byte :=
  match type with
  | 5 => let n := aemStream true index
         patched 72 (beBytes 2 (beN d 72 2 / 8 * 8 + beN d 72 2 % 2 + (if recClassB (streamRec s n) then 4 else 2)))
           (patched 74 (aemFormat s n) d)
  | 6 => let n := aemStream false index
         patched 72 (beBytes 2 (beN d 72 2 / 8 * 8 + beN d 72 2 % 2 + (if recClassB (streamRec s n) then 4 else 2)))
           (patched 74 (aemFormat s n) d)
  | 9 => patched 78 (beBytes 8 (clockIdentity s).toNat) d
  | 0x24 => patched 70 (beBytes 2 (domGet s index).alt) d
  | _ => d

/-- A descriptor of the chart's AEM bytes. -/
def aemDescriptor (s : State) (type index : Nat) : Option (List Byte) :=
  let d := entityData s
  let all := bytesAt d (u16 d 36) (u16 d 38)
  (Config.aemPlace all type index).map (fun x => aemFilled s type index (bytesAt all x.1 x.2))

/-- GET_STREAM_INFO: flags, format, stream_id, latency, destination, failure and VID. -/
def aemStreamInfo (s : State) (n : Nat) : List Byte :=
  let q := streamGet s n
  let b := recClassB (streamRec s n)
  beBytes 4 (0xD2000000 + 0x04000000 * flag q.connected + flag b) ++ aemFormat s n ++ beBytes 8 (streamIdOf s n).toNat
    ++ zeros 4 ++ beBytes 6 q.dest.toNat ++ zeros 10 ++ beBytes 2 (classVid s b) ++ zeros 2

/-- The valid flags of counters, and the block of 32. -/
def counterBlock (l : List (Nat × Nat)) : List Byte :=
  beBytes 4 ((l.map (fun x => 2 ^ x.1)).foldl (· + ·) 0)
    ++ (List.range 32).flatMap (fun i => beBytes 4 (((l.find? (fun x => x.1 == i)).map (·.2)).getD 0))

/-- The path from the grandmaster, its clock first: the part alone as grandmaster, none while no clock is known; the identities
between are Announce's, which its row does not carry: free. -/
def asPath (s : State) : List Byte × State :=
  let g := s.net.gptp
  if g.st = 4 then (beBytes 2 0 ++ beBytes 2 1 ++ beBytes 8 (clockIdentity s).toNat, s)
  else if g.st = 2 ∨ g.st = 3 then
    let n := min (max 1 g.steps) 128
    let f := freeField (8 * (n - 1)) s
    (beBytes 2 0 ++ beBytes 2 n ++ beBytes 8 g.gm.toNat ++ f.1, f.2)
  else (zeros 4, s)

/-- What follows the command type in a response. Free where the standard's content is not in this specification. -/
def aemBody (cmd : AemCommand) (s : State) : List Byte × State :=
  match cmd with
  | .acquireEntity release =>
    (beBytes 4 (if release then 0x80000000 else 0) ++ beBytes 8 (s.net.acquired.getD 0).toNat ++ aemHead 0 0, s)
  | .lockEntity unlock => (beBytes 4 (flag unlock) ++ beBytes 8 (s.net.locked.getD 0).toNat ++ aemHead 0 0, s)
  | .entityAvailable => ([], s)
  | .readDescriptor type index =>
    (zeros 4 ++ (aemDescriptor s type.toNat index.toNat).getD (aemHead type.toNat index.toNat), s)
  | .setStreamFormat input k _ _ _ | .getStreamFormat input k =>
    (aemStreamHead input k.val ++ aemFormat s (aemStream input k.val), s)
  | .setStreamInfo input k _ _ | .getStreamInfo input k =>
    (aemStreamHead input k.val ++ aemStreamInfo s (aemStream input k.val), s)
  | .setClockSource d alt => (aemHead 0x24 d.val ++ beBytes 2 ((domGet s d.val).pendAlt.getD alt.toNat) ++ zeros 2, s)
  | .getClockSource d => (aemHead 0x24 d.val ++ beBytes 2 ((domGet s d.val).pendAlt.getD (domGet s d.val).alt) ++ zeros 2, s)
  | .startStreaming input k | .stopStreaming input k => (aemStreamHead input k.val, s)
  | .registerUnsolicited => ([], s)
  | .deregisterUnsolicited => ([], s)
  | .getAvbInfo =>
    (aemHead 9 0 ++ beBytes 8 s.net.gptp.gm.toNat ++ beBytes 4 s.net.gptp.delay ++ [0]
      ++ b1 (flag s.net.gptp.asCapable + 6) ++ beBytes 2 2 ++ [6] ++ b1 s.net.prioA ++ beBytes 2 s.net.vidA
      ++ [5] ++ b1 s.net.prioB ++ beBytes 2 s.net.vidB, s)
  | .getAsPath => asPath s
  | .getCounters type index =>
    (aemHead type.toNat index.toNat ++ counterBlock ((aemCounters s type.toNat index.toNat).getD []), s)
  | .other _ => freeField 16 s

/-- An AEM response: message type 1, the command's type and its body. -/
def aemRespond (c : BitVec 64) (seq : BitVec 16) (cmd : AemCommand) (status : Nat) (s : State) : State :=
  let body := aemBody cmd s
  aecpRespond c seq (aecpBytes body.2 1 status c seq (beBytes 2 (aemCode cmd) ++ body.1)) body.2

/-- The command changes something that registered controllers are told of. -/
def aemChanges (cmd : AemCommand) : Bool :=
  match cmd with
  | .acquireEntity _ => true
  | .lockEntity _ => true
  | .setStreamFormat _ _ _ _ _ => true
  | .setStreamInfo _ _ _ _ => true
  | .setClockSource _ _ => true
  | .startStreaming _ _ => true
  | .stopStreaming _ _ => true
  | _ => false

/-- An unsolicited notification to every registered controller but the one whose command it is (R320; IEEE 1722.1, log entry 51):
the response of the command with the u bit, under a sequence_id of its own, free. -/
def aemNotify (c : BitVec 64) (cmd : AemCommand) (s : State) : State :=
  (s.net.unsolicited.filter (fun x => x != c)).foldl (fun t x =>
    let body := aemBody cmd t
    let q := freeField 2 body.2
    aecpSend x (aecpBytes q.2 1 aemSuccess x (BitVec.ofNat 16 (beN q.1 0 2)) (beBytes 2 (0x8000 + aemCode cmd) ++ body.1)) q.2) s

/-- R320 to R322. -/
def aemCommand (c : BitVec 64) (seq : BitVec 16) (cmd : AemCommand) (s : State) : State :=
  if (aecpGet s c).lastSeq = some seq then aecpSend c (aecpGet s c).response s
  else if foreign s c then aemRespond c seq cmd aemLocked s
  else
    let r := aemEffect c s.host.log cmd (takeLog s)
    let t := aemRespond c seq cmd r.1 r.2
    if r.1 = aemSuccess ∧ aemChanges cmd = true then aemNotify c cmd t else t

def execAemCommand (controller : BitVec 64) (seq : BitVec 16) (cmd : AemCommand) (s : State) :
    Host.Outcome State Fault Refusal :=
  whenever (fun s => netReaches s && (entitySection s).isSome)
    (netServe (.aem controller seq cmd) (aemCommand controller seq cmd)) s

/-- The CP executes what has waited longest (R322, Table 18-7). -/
def serveNet (s : State) : State :=
  match s.net.waiting with
  | [] => s
  | h :: r =>
    let t := netMod s (fun v => { v with waiting := r })
    match h with
    | .aem c seq cmd => aemCommand c seq cmd t
    | .acmp kind n id dest c => acmpCommand kind n id dest c t
    | .adp departing e => adpReceived departing e t
    | .advertise => adpSend 0 t

/-! ## The vendor-unique transport (R323) -/

/-- A vendor-unique response: kind 2 reply fragment, 3 fragment accepted, with its FRAG byte and RESULT. -/
def vendorBytes (s : State) (c : BitVec 64) (seq : BitVec 16) (kind frag result : Nat) (data : List Byte) : List Byte :=
  aecpBytes s 7 0 c seq (bytesAt (entityData s) 20 6 ++ b1 kind ++ b1 frag ++ b2 data.length ++ b1 result ++ zeros 3 ++ data)

/-- Fragment `i` of a reply. -/
def replyFragment (s : State) (c : BitVec 64) (seq : BitVec 16) (i : Nat) (reply : List Byte) : List Byte :=
  vendorBytes s c seq 2 (i % 16 * 16 + ceilDiv reply.length 500 % 16) 0 (bytesAt reply (500 * i) 500)

/-- The reply to a controller's command is kept, and its fragment 0 sent. -/
def vendorReply (c : BitVec 64) (seq : BitVec 16) (r : Reply) (s : State) : State :=
  let b := replyBytes r
  aecpRespond c seq (replyFragment s c seq 0 b) (aecpMod c (fun a => { a with reply := b }) s)

/-- A reply that the command of a controller has waited for is sent when it is placed (R322). -/
def vendorFlush (s : State) : State :=
  match s.host.vendor, lastReply s 4 with
  | some v, some r => vendorReply v.1 v.2 r { s with host := { s.host with vendor := none } }
  | _, _ => s

/-- The answer to a packet that failed a check, now that those before it have left (R460). -/
def answerFailed (n : Nat) (s : State) (h : Held) : State :=
  match h.source with
  | some v => vendorReply v.1 v.2 (failReply h (h.failed.getD stOk)) s
  | none => placeReply n (failReply h (h.failed.getD stOk)) s

/-- The packets of a context that failed a check and have none before them that awaits execution are answered. -/
def answerFailures (s : State) (n : Nat) : State :=
  if replyOwedTo s n then s
  else
    let lead := ((ctxGet s n).held.takeWhile (fun h => h.failed.isSome)).take (replyRoom s n)
    lead.foldl (answerFailed n) (ctxMod s n (fun c => { c with held := c.held.drop lead.length }))

/-- A reply has been placed: it goes to its controller, and the packets behind it that failed a check are answered. -/
def flushReplies (s : State) : State := (List.range 5).foldl answerFailures (vendorFlush s)

/-- R278: the MDIO operation ends, and with it the command. -/
def execMdioComplete (driven : Bool) (data : BitVec 16) (s : State) : Host.Outcome State Fault Refusal :=
  .next (flushReplies (mdioComplete driven data s))

/-- R268: a bulk OUT transfer on EP6 delivers a packet, unless four replies wait: then EP6 OUT NAKs. `read` of the replies have been
read by bulk IN transfers since the transfer before (DESIGN CHOICE, log entry 46). -/
def execUsbVendorTransfer (port : Fin 2) (read : Nat) (bytes : List Byte) (s : State) : Host.Outcome State Fault Refusal :=
  let n := 2 + port.val
  whenever (fun s => (usbGet s port.val).st == 2 || (usbGet s port.val).st == 4)
    (fun s =>
      let s1 := ctxMod s n (fun c => { c with replies := c.replies.drop read })
      let s2 := if cpPresent s1 then flushReplies s1 else s1
      if packetsTaken s2 (ctxOf n) then receivePacket n bytes bytes.length s2 else s2) s

/-- A packet of H4 is checked (R27): a check that fails answers at once, otherwise H4 holds it. -/
def vendorPacket (c : BitVec 64) (seq : BitVec 16) (bytes : List Byte) (s : State) : State :=
  let n := (ctxGet s 4).held.length
  let s1 := takePacket (some (c, seq)) 4 bytes bytes.length s
  if (ctxGet s1 4).held.length = n then
    match lastReply s1 4 with
    | some r => vendorReply c seq r s1
    | none => s1
  else s1

/-- The fragment continues the assembly in order. -/
def fragmentInOrder (a : Aecp) (index count : Nat) (data : List Byte) : Bool :=
  decide (1 ≤ count) && decide (count ≤ 3) && decide (index < count) && decide (data.length ≤ 500)
    && (index == 0 || index == a.frags)

/-- DENIED to a packet that is not executed (R321): in the packet's own version, with its opcode and tag (R461). -/
def deniedReply (b : List Byte) : Reply :=
  match packetVersion b with
  | some v1 => { v1 := v1, opcode := packetOpcode v1 b, tag := packetTag v1 b, status := stDenied, log := 0, result := [] }
  | none => { v1 := false, opcode := 0, tag := b.getD 4 0, status := stDenied, log := 0, result := [] }

/-- A command fragment. -/
def vendorCommand (c : BitVec 64) (seq : BitVec 16) (index count : Nat) (data : List Byte) (s : State) : State :=
  let a := aecpGet s c
  if !fragmentInOrder a index count data then
    aecpRespond c seq (vendorBytes s c seq 3 (index % 16 * 16 + count % 16) 1 [])
      (aecpMod c (fun a => { a with assembly := [], frags := 0 }) s)
  else
    let got := if index = 0 then data else a.assembly ++ data
    if index + 1 < count then
      aecpRespond c seq (vendorBytes s c seq 3 (index * 16 + count) 0 [])
        (aecpMod c (fun a => { a with assembly := got, frags := index + 1 }) s)
    else
      let s1 := aecpMod c (fun a => { a with assembly := [], frags := 0, lastSeq := some seq, response := [] }) s
      if foreign s c then vendorReply c seq (deniedReply got) s1
      else if s.host.absent then { s1 with host := { s1.host with late := s1.host.late ++ [(some (c, seq), got)] } }
      else vendorPacket c seq got s1

/-- R322, R323: a fragment of a controller. -/
def vendorFragment (c : BitVec 64) (seq : BitVec 16) (fetch : Bool) (index count : Nat) (data : List Byte) (s : State) :
    State :=
  let a := aecpGet s c
  if a.lastSeq = some seq then (if a.response = [] then s else aecpSend c a.response s)
  else if !fetch then vendorCommand c seq index count data s
  else if foreign s c then
    aecpRespond c seq (replyFragment s c seq 0 (replyBytes
      { v1 := false, opcode := 0, tag := 0, status := stDenied, log := 0, result := [] })) s
  else aecpRespond c seq (replyFragment s c seq index a.reply) s

def execAecpVendorFragment (controller : BitVec 64) (seq : BitVec 16) (kind : Fin 2) (index count : Nat)
    (data : List Byte) (s : State) : Host.Outcome State Fault Refusal :=
  whenever (fun s => linkUp s && (entitySection s).isSome && (cpPresent s || s.host.absent))
    (vendorFragment controller seq (kind == 1) index count data) s

end Sys2Proof.Machine
end

