-- ==== Sys2Proof/Machine/Meas.lean ====
section
/-! DEFINITION. The measurement converters: the four kinds of work and who goes first, records, the host scan,
injected sequences, paired blocks, plausibility and calibration (chapter 15). -/

namespace Sys2Proof.Machine

/-! ## Access -/

def measMod (s : State) (f : MeasState → MeasState) : State := { s with meas := f s.meas }

def sarGet (s : State) (c : Nat) : Sar := if c = 0 then s.meas.ma else s.meas.mb

def sarMod (s : State) (c : Nat) (f : Sar → Sar) : State :=
  if c = 0 then measMod s (fun m => { m with ma := f m.ma }) else measMod s (fun m => { m with mb := f m.mb })

def injGet (s : State) (j : Nat) : Inj := tget Inj.reset s.meas.injs j

def injMod (s : State) (j : Nat) (f : Inj → Inj) : State := measMod s (fun m => { m with injs := tmod Inj.reset m.injs j f })

/-- The converters are on (R358): not before reset release, nor in SLEEP. -/
def sarAlive (s : State) : Bool := !decide (s.pwr.dev ∈ [Dev.off, Dev.por, Dev.sleep])

def sarFailed (s : State) (c : Nat) : Bool := (sarGet s c).st == 3
def sarFree (s : State) (c : Nat) : Bool := !sarFailed s c && (sarGet s c).busy.isNone

/-- Both converters are free for a pair. -/
def bothFree (s : State) : Bool := sarFree s 0 && sarFree s 1

/-- The measurement entry (Table 15-6). -/
def measEntry (s : State) : List Byte := entryOf s 29

/-- One more in a counter of Table 15-8, in every context's copy (R360). -/
def measCount (i : Nat) (s : State) : State :=
  measMod s (fun m => { m with counts := (List.range 5).foldl (fun t x => tincrSat 32 t (8 * x + i)) m.counts })

/-! ## The choice of work (R345, R346) -/

/-- A conversion starts. -/
def sarStart (c source channel index : Nat) (overrun : Bool) (s : State) : State :=
  let x : Conversion :=
    { source := source, channel := channel, index := index, stamp := stampOf s, stopped := !s.eng.ticking, overrun := overrun
      live := true }
  sarMod s c (fun q => { q with busy := some x })

/-- The converter that a sequence's conversions use: the named one, or the other when that has FAILED (R352). -/
def injConv (s : State) (j : Nat) : Nat :=
  let c := (injGet s j).conv
  if sarFailed s c then 1 - c else c

/-- A waiting pair goes before the next injected sequence when one is owed (R351). -/
def pairFirst (s : State) : Bool := s.meas.owed && !s.meas.pairs.isEmpty

/-- The next conversion of the injected sequence that runs. -/
def startInjected (s : State) : State :=
  match s.meas.running, s.meas.injLeft with
  | some j, ch :: r =>
    if sarFree s (injConv s j) && !pairFirst s then
      measMod (sarStart (injConv s j) (2 + j) ch s.meas.injIndex false s)
        (fun m => { m with injLeft := r, injIndex := m.injIndex + 1 })
    else s
  | _, _ => s

/-- The channels of pair p (R351): CH0 with CH1, CH2 with CH3, then the exposed AIN pairs. -/
def pairChannels (p : Nat) : Nat × Nat := if p < 2 then (2 * p, 2 * p + 1) else (8 + 2 * p, 9 + 2 * p)

/-- The pairs of a block. -/
def blockPairs (s : State) : List Nat :=
  [0, 1] ++ (if bit (u8 (measEntry s) 0) 0 then ([2, 3, 4].filter (fun p => bit (u8 (measEntry s) 1) (p + 2))) else [])

/-- The next pair of the block, on both converters at once. -/
def startPair (s : State) : State :=
  match s.meas.pairs with
  | [] => s
  | p :: r =>
    if bothFree s && (s.meas.running.isNone || s.meas.owed) then
      let i := (blockPairs s).length - (r.length + 1)
      measMod (sarStart 1 6 (pairChannels p).2 i false (sarStart 0 6 (pairChannels p).1 i false s))
        (fun m => { m with pairs := r, owed := false })
    else s

/-- Injected or paired work waits or runs: no calibration starts, and what it has paused stays paused. -/
def higherWaits (s : State) : Bool := s.meas.running.isSome || !s.meas.pairs.isEmpty

/-- Higher work needs this converter (R345): a paired block needs both, an injected sequence its own. -/
def convHeld (s : State) (c : Nat) : Bool := !s.meas.pairs.isEmpty || s.meas.running.any (fun j => injConv s j == c)

/-- A calibration has the converter, or waits for it and is the next to start: no regular conversion starts on it (R345). One
converter calibrates at a time; of two that wait MA's is served first. While an injected sequence runs none starts (R357). -/
def calHolds (s : State) (c : Nat) : Bool :=
  (sarGet s c).calRunning
    || ((sarGet s c).calRequested && s.meas.running.isNone && !sarFailed s c && !(sarGet s (1 - c)).calRunning && !(c == 1 && s.meas.ma.calRequested))

/-- The first converter, MA before MB, that may take a regular conversion. -/
def regularConv (s : State) : Option Nat := [0, 1].find? (fun c => sarFree s c && !calHolds s c && !convHeld s c)

/-- Channels of a system sequence (Table 15-3). -/
def systemChannels (s : State) (q : Nat) : List Nat :=
  match q with
  | 0 => [20, 21, 22, 23, 24, 25, 26, 27]
  | 1 => [24]
  | 2 => [8, 29]
  | 3 => [9, 30]
  | 4 => [29, 30]
  | 5 => if (jackGet s 0).beat = 3 then [10] else [8]
  | _ => if (jackGet s 1).beat = 3 then [11] else [9]

/-- A conversion of this source is in progress. -/
def sourceBusy (s : State) (source : Nat) : Bool :=
  [0, 1].any (fun c => match (sarGet s c).busy with | some q => q.source == source | none => false)

/-- A system sequence that waits is taken up: when no other is in progress, and the host scan does not run or has
paused at a channel boundary (R347). -/
def takeSystem (s : State) : State :=
  match s.meas.systems with
  | [] => s
  | q :: r =>
    if s.meas.sysKind = 0 ∧ (s.meas.scan ≠ 2 ∨ (higherWaits s && !sourceBusy s 0) = true) then
      measMod s (fun m => { m with systems := r, sysKind := q + 1, sysLeft := systemChannels s q, sysIndex := 0, sysPaused := false })
    else s

/-- The next regular conversion: of the system sequence in progress, else of the host scan. One that an injected trigger
paused goes on when no higher work waits (R349). -/
def startRegular (s : State) : State :=
  if s.meas.sysKind ≠ 0 then
    match s.meas.sysLeft with
    | [] => s
    | ch :: r =>
      let go := fun (t : State) => measMod t (fun m => { m with sysLeft := r, sysIndex := m.sysIndex + 1 })
      if s.meas.sysPaused then s
      else if s.meas.sysKind = 2 then
        if bothFree s && [0, 1].all (fun c => !calHolds s c && !convHeld s c) then
          go (sarStart 1 7 ch s.meas.sysIndex false (sarStart 0 7 ch s.meas.sysIndex false s))
        else s
      else
        match regularConv s with
        | some c => go (sarStart c 1 ch s.meas.sysIndex false s)
        | none => s
  else if s.meas.scan = 2 ∧ s.meas.scanPaused = false then
    match s.meas.left, regularConv s with
    | ch :: r, some c =>
      measMod (sarStart c 0 ch s.meas.scanIndex s.meas.scanMark s)
        (fun m => { m with left := r, scanIndex := m.scanIndex + 1, scanMark := false })
    | _, _ => s
  else s

/-- What an injected trigger paused resumes once no higher work waits (R349). -/
def resumeRegular (s : State) : State :=
  if higherWaits s then s else measMod s (fun m => { m with scanPaused := false, sysPaused := false })

/-- The free converters take the work that R345 gives them. -/
def sarNext (s : State) : State :=
  if !sarAlive s then s else startRegular (startRegular (takeSystem (resumeRegular (startPair (startInjected s)))))

/-! ## Coding (R344, Table 15-1) -/

/-- The channel's coding is bipolar. -/
def sarBipolar (ch : Nat) : Bool := decide (ch ≤ 7) || ch == 10 || ch == 11

/-- Full scale in the unit of the channel's value; of a temperature, the span from −40 °C. -/
def sarFullScale (ch : Nat) : Nat :=
  [20000000, 5000000, 20000000, 5000000, 2000000, 2000000, 2000000, 2000000, 3000000, 3000000, 300000, 300000,
   2400000, 2400000, 2400000, 2400000, 2400000, 2400000, 4800000, 4800000, 200000, 200000, 200000, 1200000,
   2400000, 2400000, 7200000, 19200000, 2400000, 3600000, 3600000, 2400000].getD ch 2400000

/-- A code of the channel's coding. -/
def sarCodeOf (ch : Nat) (code : Int) : Int :=
  if sarBipolar ch then clampInt (-8192) 8191 code else clampInt 0 16383 code

/-- The value of a code: scaled to the unit, with the converter's own corrections and the factory's, which the row gives. -/
def sarValue (q : Sar) (ch : Nat) (code trim : Int) : Int :=
  let x := (code * 1000 + q.offset) * (100000000 + q.gain)
  divNear (x * sarFullScale ch) (100000000000 * (if sarBipolar ch then 8192 else 16384))
    - (if 20 ≤ ch ∧ ch ≤ 22 then 40000 else 0) + trim

/-! ## Records (R348, R353) -/

/-- The record of a completed conversion. -/
def sarRecord (s : State) (c : Nat) (q : Conversion) (code value : Int) (offset : Nat) : MRecord :=
  { channel := q.channel, source := q.source, code := code, value := value, stamp := q.stamp, offset := offset
    flags := c + 2 * flag q.stopped + 4 * flag ((sarGet s c).st == 2) + 8 * flag q.overrun, index := q.index }

/-- MEAS_SCAN_FULL, no more than once per 100 ms. -/
def scanLost (s : State) : State :=
  let s1 := measCount 7 (measMod s (fun m => { m with lostFold := m.lostFold + 1 }))
  let d := if s.meas.lostPosted then drawElapsed s1 else (true, s1)
  if d.1 then
    post 0x0C05 0 0 d.2.meas.lostFold (.res [0x0700]) (measMod d.2 (fun m => { m with lostFold := 0, lostPosted := true }))
  else d.2

/-- A record of the host scan enters the buffer of 256. -/
def bufferRecord (r : MRecord) (s : State) : State :=
  if 256 ≤ s.meas.buffer.length then scanLost (measMod s (fun m => { m with buffer := m.buffer.drop 1 ++ [r] }))
  else measMod s (fun m => { m with buffer := m.buffer ++ [r] })

/-- No record yet. -/
def noRecord : MRecord :=
  { channel := 0, source := 0, code := 0, value := 0, stamp := 0, offset := 0, flags := 0, index := 0 }

/-- Every result replaces the latest record of its channel. -/
def keepLatest (r : MRecord) (s : State) : State :=
  measMod s (fun m => { m with latest := tset noRecord m.latest r.channel r })

/-- MEAS_INJ_DONE, no more than once per ms for a sequence. -/
def postInjDone (j : Nat) (s : State) : State :=
  let s1 := injMod s j (fun q => { q with doneFold := q.doneFold + 1 })
  let d := if (injGet s j).donePosted then drawElapsed s1 else (true, s1)
  if d.1 then
    post 0x0C02 1 0 (j + 256 * min (injGet d.2 j).doneFold 0xFFFF) (.res [0x0701])
      (injMod d.2 j (fun q => { q with doneFold := 0, donePosted := true }))
  else d.2

/-- A result of the run of an injected sequence; with the last one its buffer is replaced and the sequence ends (R350). -/
def injRecord (j : Nat) (r : MRecord) (s : State) : State :=
  let s1 := injMod s j (fun q => { q with pending := q.pending ++ [r] })
  if s.meas.running = some j ∧ s.meas.injLeft = [] then
    let s2 := injMod s1 j (fun q => { q with results := q.pending, pending := [], completions := q.completions + 1 })
    let s3 := measMod s2 (fun m => { m with running := none, owed := !m.pairs.isEmpty })
    if (injGet s j).notify then postInjDone j s3 else s3
  else s1

/-- The host scan starts: its channels in ascending order, the first record with the OVERRUN of triggers since the last
one began (R347). -/
def scanBegin (s : State) : State :=
  measMod s (fun m => { m with scan := 2, left := bitsOf m.mask 32, scanIndex := 0, scanWaits := false, scanMark := m.scanOverrun
                               scanOverrun := false, scanPaused := false })

/-- The end of the host scan: a CONTINUOUS one starts again, after a system sequence that waits (R347). -/
def scanEnds (s : State) : State :=
  if s.meas.scan = 2 ∧ s.meas.left = [] ∧ sourceBusy s 0 = false then
    if s.meas.single then measMod s (fun m => { m with scan := 0, single := false })
    else if s.meas.source = 0 ∧ s.meas.mask ≠ 0 then
      if s.meas.systems = [] then scanBegin s else measMod s (fun m => { m with scan := 1, scanWaits := true })
    else measMod s (fun m => { m with scan := 1 })
  else s

/-- The end of a system sequence; a host scan that waited for it starts. -/
def systemEnds (s : State) : State :=
  if s.meas.sysKind ≠ 0 ∧ s.meas.sysLeft = [] ∧ sourceBusy s 1 = false ∧ sourceBusy s 7 = false then
    let s1 := measMod s (fun m => { m with sysKind := 0, sysPaused := false
                                           plausCheck := m.plausCheck || (m.sysKind == 2 && !sarFailed s 0 && !sarFailed s 1) })
    if s.meas.scanWaits then scanBegin s1 else s1
  else s

/-- A value of 2.4 V full scale in codes. -/
def codesOf (uv : Int) : Int := divNear (uv * 16384) 2400000

/-- A plausibility value of VREFCAL outside ±0.5 % of its calibrated value, or of ground outside ±8 codes. -/
def plausOutside (ch : Nat) (v : Int) : Bool :=
  let ref : Int := (Config.factory 96).toNat
  if ch = 28 then decide (ref < 200 * (v - ref)) || decide (200 * (v - ref) < -ref)
  else decide (codesOf v < -8) || decide (8 < codesOf v)

/-- R352: the two values of a plausibility conversion. The difference of CH24 is taken, and the sequence goes on with CH28
and CH31 when it is the third beyond the limit. -/
def plausPair (ch : Nat) (a b : Int) (s : State) : State :=
  if ch = 24 then
    let diff := codesOf (a - b)
    let third := decide (2 ≤ s.meas.plausFails) && (decide (diff < -24) || decide (24 < diff)) && s.meas.sysLeft.isEmpty
    measMod s (fun m => { m with plausDiff := diff, plausBad := 0, sysLeft := if third then [28, 31] else m.sysLeft })
  else
    measMod s (fun m => { m with plausBad := m.plausBad ||| (flag (plausOutside ch a) + 2 * flag (plausOutside ch b)) })

/-! ## Exposure (R355) -/

/-- The place of a channel among the ten of Table 15-6. -/
def exposureOf (ch : Nat) : Nat := if ch < 4 then ch else ch - 8

/-- A paired result of an exposed channel enters its boundary FIFO, its full scale at 0 dBFS. -/
def exposeResult (ch : Nat) (code : Int) (s : State) : State :=
  let i := exposureOf ch
  if i ∈ exposed (measEntry s) then
    let w : Word := BitVec.ofInt 32 (code * (if sarBipolar ch then 2 ^ 14 else 2 ^ 13))
    measMod s (fun m => { m with expoFifo := tset [] m.expoFifo i (pushFifo w (tget [] m.expoFifo i)) })
  else s

/-- The period in which a record of this STAMP was acquired: the latest whose count it is. -/
def stampPeriod (s : State) (stamp : Nat) : Nat := s.eng.period - (s.eng.period + 2 ^ 32 - stamp % 2 ^ 32) % 2 ^ 32

/-- The two results of a pair go to speaker protection, at the instant that STAMP and OFFSET give, and to the exposures. -/
def pairResults (ch : Nat) (code code2 v v2 : Int) (stamp offset : Nat) (s : State) : State :=
  let t := exposeResult (ch + 1) code2 (exposeResult ch code s)
  if ch < 4 then
    protectPair (ch / 2) v v2 (stampPeriod s stamp * 1000000000 + offset * fabricHz s) (fabricHz s * 1000000000) t
  else t

/-- CH20 has moved more than 10 °C since a converter's last calibration: another is requested (R356). -/
def tempCals (r : MRecord) (s : State) : State :=
  let moved := fun (q : Sar) => q.calOnce && decide (100 < (divNear r.value 100 - q.calTemp).natAbs)
  if r.channel = 20 then
    [0, 1].foldl (fun t c => if moved (sarGet t c) then sarMod t c (fun q => { q with calRequested := true }) else t) s
  else s

/-- What a completed conversion's record goes to; one of a run that was disarmed is the latest of its channel and no more. -/
def fileRecord (live : Bool) (r : MRecord) (s : State) : State :=
  let s1 := tempCals r (keepLatest r s)
  if r.source = 0 then bufferRecord r s1
  else if r.source = 1 ∧ s.meas.sysKind = 1 then measMod s1 (fun m => { m with house := tset noRecord m.house r.channel r })
  else if 2 ≤ r.source ∧ r.source ≤ 5 ∧ live = true then injRecord (r.source - 2) r s1
  else s1

/-- OVERRUN of an injected sequence goes with its next result (R349). -/
def injMark (q : Conversion) (s : State) : Conversion × State :=
  if 2 ≤ q.source ∧ q.source ≤ 5 then
    ({ q with overrun := (injGet s (q.source - 2)).overrun }, injMod s (q.source - 2) (fun x => { x with overrun := false }))
  else (q, s)

/-- What CH18 and CH19 read of a channel that drives (R341): its output within the errors of R449 and R450, offset,
full scale, linearity and load of the channel, and the converter's. -/
def readbackCode (s : State) (ch : Nat) (code : Int) : Int :=
  let k := if ch = 18 then s.aux.muxA else s.aux.muxB
  let a := auxGet s k
  if (ch = 18 ∨ ch = 19) ∧ k < 16 ∧ a.driving then
    let uv : Nat := auxLevel a.range a.present * 1000 / 4096
    let near : Nat := 9000 + uv * 55 / 10000 + auxSpan a.range * 2000 / 4096 + 586
    clampInt (divNear (((uv : Int) - near) * 16384) 4800000) (divNear (((uv : Int) + near) * 16384) 4800000) code
  else code

/-- R344, R345, R353: a conversion is complete, with its code and the factory's correction of its value. A pair and a
plausibility conversion end on both converters at once; the second code and correction are MB's. -/
def conversionDone (c : Nat) (code trim code2 trim2 : Int) (offset : Nat) (s : State) : State :=
  match (sarGet s c).busy with
  | none => s
  | some q =>
    let n := sarCodeOf q.channel (readbackCode s q.channel code)
    let v := sarValue (sarGet s c) q.channel n trim
    let m := injMark q (sarMod s c (fun x => { x with busy := none }))
    let s2 := fileRecord q.live (sarRecord s c m.1 n v offset) m.2
    if q.source = 6 ∨ q.source = 7 then
      match s.meas.mb.busy with
      | none => sarNext s2
      | some q2 =>
        let n2 := sarCodeOf q2.channel code2
        let v2 := sarValue s.meas.mb q2.channel n2 trim2
        let s3 := fileRecord true (sarRecord s 1 q2 n2 v2 offset) (sarMod s2 1 (fun x => { x with busy := none }))
        let s4 := if q.source = 7 then plausPair q.channel v v2 s3 else pairResults q.channel n n2 v v2 q.stamp offset s3
        sarNext (systemEnds s4)
    else sarNext (scanEnds (systemEnds s2))

/-- R345: the conversion of a converter ends; a pair's is told by MA's. -/
def execSarConversionDone (conv : Fin 2) (code trim code2 trim2 : Int) (offset : Nat) (s : State) :
    Host.Outcome State Fault Refusal :=
  whenever (fun s => match (sarGet s conv.val).busy with
      | some q => conv.val == 0 || !(q.source == 6 || q.source == 7)
      | none => false)
    (conversionDone conv.val code trim code2 trim2 offset) s

/-! ## Triggers -/

/-- MEAS_OVERRUN, no more than once per 100 ms for an instance. -/
def postOverrun (i : Nat) (s : State) : State :=
  let s1 := measMod s (fun m => { m with overFold := tset 0 m.overFold i (tget 0 m.overFold i + 1) })
  let d := if tget 0 s.meas.overPosted i = 1 then drawElapsed s1 else (true, s1)
  if d.1 then
    post 0x0C01 i 0 (tget 0 d.2.meas.overFold i) (.res [if i = 0 then 0x0700 else 0x0701])
      (measMod d.2 (fun m => { m with overFold := tset 0 m.overFold i 0, overPosted := tset 0 m.overPosted i 1 }))
  else d.2

/-- A host trigger that is ignored (R347). -/
def scanOverruns (s : State) : State := postOverrun 0 (measCount 0 (measMod s (fun m => { m with scanOverrun := true })))

/-- A trigger of the host scan. -/
def scanTrigger (s : State) : State :=
  if s.meas.scan = 2 then scanOverruns s
  else if s.meas.sysKind ≠ 0 then
    (if s.meas.scanWaits then scanOverruns s else measMod s (fun m => { m with scanWaits := true }))
  else sarNext (scanEnds (scanBegin s))

/-- The source gives triggers now: a timer that ticks, and the fabric tick while it runs (Table 15-8). -/
def triggerRuns (s : State) (src : Nat) : Bool :=
  if 4 ≤ src ∧ src ≤ 6 then timerRuns s (src - 3) else src != 8 || s.eng.ticking

/-- R347: a trigger of the source that the armed scan names. -/
def execHostScanTrigger (source : Fin 8) (s : State) : Host.Outcome State Fault Refusal :=
  whenever (fun s => sarAlive s && s.meas.scan != 0 && s.meas.source == source.val && source.val != 0 && source.val != 7
      && triggerRuns s source.val)
    scanTrigger s

/-- COMMAND_DONE of a calibration follows the last one it asked for; a status other than OK is not stated: free. -/
def calDone (c : Nat) (passed : Bool) (s : State) : State :=
  let ws := (sarGet s c).calFor
  let s1 := sarMod s c (fun q => { q with calFor := [] })
  let ended := ws.filter (fun w => !decide (w ∈ (sarGet s1 (1 - c)).calFor))
  completeAll ended (if passed then stOk else 1 + openValue s 0 % 14) s1

/-- MEAS_CAL (Table 15-9). -/
def postCal (c cause : Nat) (s : State) : State := post 0x0C03 c 0 (cause + 65536 * (sarGet s c).restarts) .none s

/-- R357: an injected trigger abandons a calibration, which restarts; after 16 restarts the request ends. -/
def abandonCal (c : Nat) (s : State) : State :=
  if !(sarGet s c).calRunning then s
  else
    let s1 := measCount 6 (sarMod s c (fun q => { q with calRunning := false }))
    if 16 ≤ (sarGet s c).restarts then
      calDone c false (sarMod (postCal c 3 s1) c (fun q => { q with calRequested := false, restarts := 0 }))
    else sarMod s1 c (fun q => { q with restarts := q.restarts + 1 })

/-- R349: a trigger of an armed sequence pauses the regular sequences in progress. One that names no channel yet converts nothing. -/
def injTrigger (j : Nat) (s : State) : State :=
  if s.meas.running.isSome then
    postOverrun (1 + j) (measCount (1 + j) (injMod s j (fun q => { q with overrun := true })))
  else if (injGet s j).channels = [] then s
  else
    let s1 := abandonCal 1 (abandonCal 0 s)
    sarNext (injMod (measMod s1 (fun m => { m with running := some j, injLeft := (injGet s j).channels, injIndex := 0
                                                   scanPaused := m.scan == 2, sysPaused := m.sysKind != 0 })) j
      (fun q => { q with pending := [] }))

def execInjectedTrigger (j : Fin 4) (s : State) : Host.Outcome State Fault Refusal :=
  whenever (fun s => sarAlive s && (injGet s j.val).armed && (injGet s j.val).source != 7
      && triggerRuns s (injGet s j.val).source) (injTrigger j.val) s

/-- R359: an edge of MTRIG. The injected sequences that name it come first, the lower-numbered before the others. -/
def mtrigEdge (src : Nat) (s : State) : State :=
  let s1 := (List.range 4).foldl (fun t j =>
    if (injGet s j).armed ∧ (injGet s j).source = src then injTrigger j t else t) s
  if s.meas.scan ≠ 0 ∧ s.meas.source = src then scanTrigger s1 else s1

def execMtrigEdge (rising : Bool) (s : State) : Host.Outcome State Fault Refusal :=
  whenever sarAlive (mtrigEdge (if rising then 2 else 3)) s

/-! ## Paired blocks (R351) -/

/-- The paired clock runs, and both converters are in service. -/
def pairedRuns (s : State) : Bool :=
  sarAlive s && (spkSwitching s 0 || spkSwitching s 1 || bit (u8 (measEntry s) 0) 0) && !sarFailed s 0 && !sarFailed s 1

/-- A tick of the paired clock: an unfinished block is abandoned and counted, and a new one starts. -/
def pairedTick (s : State) : State :=
  let late := !s.meas.pairs.isEmpty || sourceBusy s 6
  sarNext (measMod (if late then measCount 5 s else s) (fun m => { m with pairs := blockPairs s }))

def execPairedClockTick (s : State) : Host.Outcome State Fault Refusal := whenever pairedRuns pairedTick s

/-! ## System sequences (R346, R347) -/

/-- The condition of Table 15-3 under which a sequence falls due. -/
def systemDue (s : State) (q : Nat) : Bool :=
  match q with
  | 0 => true
  | 1 => !sarFailed s 0 && !sarFailed s 1
  | 2 => buttonsScanned s 0
  | 3 => buttonsScanned s 1
  | 4 => micOn s 0 || micOn s 1
  | 5 => decide ((jackGet s 0).beat ∈ [3, 5, 6])
  | _ => decide ((jackGet s 1).beat ∈ [3, 5, 6])

def execSystemSequenceDue (seq : Fin 7) (s : State) : Host.Outcome State Fault Refusal :=
  whenever (fun s => sarAlive s && systemDue s seq.val)
    (fun s => sarNext (measMod s (fun m => { m with systems := m.systems ++ [seq.val] }))) s

/-! ## Plausibility (R352) -/

/-- MEAS_PLAUSIBILITY (Table 15-9). -/
def postPlausibility (what : Nat) (diff : Int) (s : State) : State :=
  post 0x0C04 0 0 (what + 65536 * unsigned 16 diff) .none s

/-- A converter FAILS: its work moves to the other, and paired blocks and plausibility sequences stop. -/
def failSar (c : Nat) (diff : Int) (s : State) : State :=
  if sarFailed s c then s
  else
    systemEnds (postPlausibility (1 + c) diff (measMod (sarMod s c (fun q => { q with st := 3 }))
      (fun m => { m with pairs := [], owed := false, trackerLocked := false, systems := m.systems.filter (fun q => q != 1)
                         sysLeft := if m.sysKind = 2 then [] else m.sysLeft, plausCheck := false })))

/-- A plausibility failure: a calibration follows it (R356). -/
def failAndCalibrate (c : Nat) (diff : Int) (s : State) : State :=
  sarMod (failSar c diff s) c (fun q => { q with calRequested := true })

/-- Both are SUSPECT, and a calibration of each is requested. -/
def suspectBoth (diff : Int) (s : State) : State :=
  postPlausibility 3 diff ([0, 1].foldl (fun t c => sarMod t c (fun q => { q with st := 2, calRequested := true })) s)

/-- The evaluation of a plausibility sequence. -/
def plausibility (s : State) : State :=
  let diff := s.meas.plausDiff
  let okA := !bit s.meas.plausBad 0
  let okB := !bit s.meas.plausBad 1
  let s1 := measMod s (fun m => { m with plausCheck := false, plausOnce := true, ma := { m.ma with diff := diff }, mb := { m.mb with diff := diff } })
  if -24 ≤ diff ∧ diff ≤ 24 then measMod s1 (fun m => { m with plausFails := 0 })
  else if s.meas.plausFails + 1 < 3 then measMod s1 (fun m => { m with plausFails := m.plausFails + 1 })
  else
    let s2 := measMod s1 (fun m => { m with plausFails := 0 })
    let s3 := if okA then s2 else failAndCalibrate 0 diff s2
    let s4 := if okB then s3 else failAndCalibrate 1 diff s3
    sarNext (if okA && okB then suspectBoth diff s4 else s4)

def execPlausibilityCheck (s : State) : Host.Outcome State Fault Refusal :=
  whenever (fun s => sarAlive s && s.meas.plausCheck) plausibility s

/-! ## Calibration (R356, R357) -/

/-- A calibration starts, one converter at a time, when the converter is free and no injected or paired work waits (R345,
R357). -/
def execSarCalibrationStart (conv : Fin 2) (s : State) : Host.Outcome State Fault Refusal :=
  whenever (fun s => sarAlive s && !s.meas.ma.calRunning && !s.meas.mb.calRunning && !higherWaits s
      && (sarGet s conv.val).busy.isNone)
    (fun s => sarMod s conv.val (fun q => { q with calRequested := true, calRunning := true })) s

/-- CH20 in 0.1 °C; free where nothing has been measured. -/
def coreTemp (s : State) : Int :=
  match latestValue s 20 with
  | some v => divNear v 100
  | none => signed 16 (openValue s 1 % 65536)

/-- The cause of MEAS_CAL: 1 an offset beyond ±32 codes, 2 a gain beyond ±1 % of the factory value. -/
def calCause (offset gain : Int) : Nat :=
  if offset < -32000 ∨ 32000 < offset then 1 else if gain < -1000000 ∨ 1000000 < gain then 2 else 0

/-- A calibration ends with an offset in 0.001 code and a gain in 0.01 ppm. -/
def calEnds (c : Nat) (offset gain : Int) (s : State) : State :=
  let cause := calCause offset gain
  let was := (sarGet s c).st
  let s1 := postCal c cause s
  let s2 := sarMod s1 c (fun q => { q with calRequested := false, calRunning := false, calOnce := true, restarts := 0 })
  let s3 :=
    if cause = 0 then
      let s4 := sarMod s2 c (fun q => { q with st := 0, gain := gain, offset := offset, calTemp := coreTemp s })
      if was = 3 ∨ (was = 2 ∧ (sarGet s4 (1 - c)).st ≠ 2) then postPlausibility 0 (sarGet s c).diff s4 else s4
    else failSar c (sarGet s c).diff s2
  sarNext (calDone c (cause == 0) s3)

/-- Paired blocks pause a calibration between steps (R356). -/
def execSarCalibrationEnd (conv : Fin 2) (offset gain : Int) (s : State) : Host.Outcome State Fault Refusal :=
  whenever (fun s => (sarGet s conv.val).calRunning && (sarGet s conv.val).busy.isNone && s.meas.pairs.isEmpty)
    (calEnds conv.val offset gain) s

/-! ## SLEEP (R358) and the exposures' tracker (R355) -/

/-- SLEEP turns both converters off: what is in progress ends there, and armed work stays armed. The tracker of the
exposures, which follows a clock that stops, has to lock again. -/
def measRest (s : State) : State :=
  measMod s (fun m =>
    let off := fun (q : Sar) => { q with busy := none, calRunning := false }
    { m with ma := off m.ma, mb := off m.mb, running := none, injLeft := [], pairs := [], owed := false
             systems := [], sysLeft := [], sysKind := 0, plausCheck := false, left := []
             scan := if m.scan = 2 then (if m.single then 0 else 1) else m.scan, single := false, scanWaits := false
             scanPaused := false, sysPaused := false
             injs := tmapKeys Inj.reset m.injs (fun _ q => { q with pending := [] })
             trackerLocked := false, fade := 0, expoFifo := [], expoHist := [] })

/-- A CONTINUOUS scan that is armed runs. -/
def scanGoesOn (s : State) : State :=
  if s.meas.scan = 1 ∧ s.meas.source = 0 ∧ s.meas.mask ≠ 0 ∧ s.meas.scanWaits = false then scanTrigger s else s

/-- R355: the tracker that compares PLL48 with the fabric PLL locks; the exposed channels fade in. -/
def execMeasurementTrackerLock (s : State) : Host.Outcome State Fault Refusal :=
  whenever (fun s => bit (u8 (measEntry s) 0) 0 && !s.meas.trackerLocked && !sarFailed s 0 && !sarFailed s 1)
    (fun s => measMod s (fun m => { m with trackerLocked := true })) s

/-- A period of the fade of the exposed channels. -/
def tickMeas (s : State) : State :=
  if s.meas.trackerLocked then (if s.meas.fade < 32 then measMod s (fun m => { m with fade := m.fade + 1 }) else s)
  else if 0 < s.meas.fade then measMod s (fun m => { m with fade := m.fade - 1 }) else s

/-- The factor of an exposed channel in this period, under the ramp law of gain slots. -/
def exposureLevel (s : State) : Word :=
  if s.meas.trackerLocked then gainRamp 0 unity s.meas.fade 32
  else if s.meas.fade = 0 then 0 else gainRamp unity 0 (32 - s.meas.fade) 32

/-- Ingress gather leaves the nominal 2 words of an exposure's FIFO; the others enter its rate-stage channel. -/
def gatherExposure (i : Nat) (s : State) : State :=
  let l := tget [] s.meas.expoFifo i
  let n := l.length - 2
  measMod s (fun m => { m with
    expoFifo := tset [] m.expoFifo i (l.drop n)
    expoHist := tset [] m.expoHist i (((l.take n).reverse ++ tget [] m.expoHist i).take 384) })

/-- R355: the word of an exposed channel: what the rate stage makes of its results at 48 kHz, under the fade. -/
def exposureWord (i : Nat) (s : State) : Word × State :=
  let t := gatherExposure i s
  let r := stageSample (tget [] t.meas.expoHist i) (divNear ((48000 * 2 ^ 28 : Nat) : Int) (fabricHz s)).toNat t
  (BitVec.ofInt 32 (mulQ27 r.1.toInt (exposureLevel s).toInt), r.2)

/-! ## Commands -/

def measStatusCheck (p : List Byte) (_ : State) : Option Nat := firstRefusal [(decide (1 < u8 p 0), stBadParam)]

def sarCode (q : Sar) : Nat := if q.st = 3 then 3 else if q.calRunning then 1 else q.st

def measStatusDo (o : Issue) (p : List Byte) (_ : Nat) (s : State) : Done :=
  let m := s.meas
  let n := 8 * ctxNum o.ctx
  okWith (b1 (sarCode m.ma) ++ b1 (sarCode m.mb) ++ b1 m.scan ++ b1 (maskBy 4 (fun j => (injGet s j).armed))
      ++ (List.range 8).flatMap (fun i => b4 (tget 0 m.counts (n + i))) ++ b2 m.buffer.length ++ zeros 2)
    (if u8 p 0 = 1 then measMod s (fun m => { m with counts := (List.range 8).foldl (fun t i => tset 0 t (n + i) 0) m.counts })
      else s)

def execMeasStatus (o : Issue) (p : List Byte) (s : State) : Host.Outcome State Fault Refusal :=
  hostCommand 0x0C01 o p (measStatusCheck p) (measStatusDo o p) s

/-- A timer named as source is OFF (R360). -/
def timerOff (s : State) (src : Nat) : Bool := decide (4 ≤ src) && decide (src ≤ 6) && (tget (0, 1) s.aux.timers (src - 3)).1 == 0

def measScanSetCheck (o : Issue) (p : List Byte) (s : State) : Option Nat :=
  firstRefusal
    [(decide (7 < u8 p 4) || (u8 p 4 == 1 && (decide (u32 p 8 < 10) || decide (1000000 < u32 p 8))) || timerOff s (u8 p 4),
      stBadParam),
     (!canChange s o.ctx 0x0700, stNotOwner)]

def measScanSetDo (p : List Byte) (_ : Nat) (s : State) : Done :=
  ok (scanGoesOn (measMod s (fun m => { m with mask := u32 p 0, source := u8 p 4, interval := u32 p 8 })))

def execMeasScanSet (o : Issue) (p : List Byte) (s : State) : Host.Outcome State Fault Refusal :=
  hostCommand 0x0C02 o p (measScanSetCheck o p) (measScanSetDo p) s

def measScanControlCheck (o : Issue) (p : List Byte) (s : State) : Option Nat :=
  firstRefusal [(decide (3 < u8 p 0), stBadParam), (!canChange s o.ctx 0x0700, stNotOwner)]

/-- Stop, arm (a CONTINUOUS scan starts at once), a single scan, or flush (R347). -/
def measScanControlDo (p : List Byte) (_ : Nat) (s : State) : Done :=
  match u8 p 0 with
  | 0 => ok (measMod s (fun m => { m with scan := 0, single := false, left := [], scanWaits := false }))
  | 1 =>
    if s.meas.scan = 2 then ok (measMod s (fun m => { m with single := false }))
    else
      ok (scanGoesOn (measMod s (fun m => { m with scan := 1, single := false })))
  | 2 => ok (scanTrigger (if s.meas.scan = 0 then measMod s (fun m => { m with single := true }) else s))
  | _ => ok (measMod s (fun m => { m with buffer := [] }))

def execMeasScanControl (o : Issue) (p : List Byte) (s : State) : Host.Outcome State Fault Refusal :=
  hostCommand 0x0C03 o p (measScanControlCheck o p) (measScanControlDo p) s

/-- A result record (Table 15-5). -/
def recordBytes (r : MRecord) : List Byte :=
  b1 r.channel ++ b1 r.source ++ sb2 r.code ++ sb4 r.value ++ b4 r.stamp ++ b2 r.offset ++ b1 r.flags ++ b1 r.index

def measScanReadCheck (o : Issue) (p : List Byte) (s : State) : Option Nat :=
  firstRefusal [(u8 p 0 == 0 || decide (63 < u8 p 0), stBadParam), (!canChange s o.ctx 0x0700, stNotOwner)]

def measScanReadDo (p : List Byte) (_ : Nat) (s : State) : Done :=
  let l := s.meas.buffer.take (u8 p 0)
  okWith (b1 l.length ++ zeros 3 ++ l.flatMap recordBytes) (measMod s (fun m => { m with buffer := m.buffer.drop (u8 p 0) }))

def execMeasScanRead (o : Issue) (p : List Byte) (s : State) : Host.Outcome State Fault Refusal :=
  hostCommand 0x0C04 o p (measScanReadCheck o p) (measScanReadDo p) s

def measLatestCheck (p : List Byte) (_ : State) : Option Nat :=
  firstRefusal [(u8 p 1 == 0 || decide (32 < u8 p 0 + u8 p 1), stBadParam)]

def measLatestResult (p : List Byte) (s : State) : List Byte :=
  (List.range (u8 p 1)).flatMap (fun i => recordBytes (tget noRecord s.meas.latest (u8 p 0 + i)))

def execMeasLatest (o : Issue) (p : List Byte) (s : State) : Host.Outcome State Fault Refusal :=
  hostCommand 0x0C05 o p (measLatestCheck p) (reads (measLatestResult p)) s

/-- The channels that MEAS_INJ_SET names. -/
def injChannels (p : List Byte) : List Nat := (List.range (u8 p 2)).map (fun i => u8 p (4 + i))

def measInjSetCheck (o : Issue) (p : List Byte) (s : State) : Option Nat :=
  firstRefusal
    [(decide (3 < u8 p 0) || decide (1 < u8 p 1) || u8 p 2 == 0 || decide (4 < u8 p 2) || decide (u8 p 3 < 2)
        || decide (8 < u8 p 3) || decide (1 < u8 p 8) || (injChannels p).any (fun c => decide (31 < c))
        || timerOff s (u8 p 3), stBadParam),
     (!canChange s o.ctx 0x0701, stNotOwner),
     ((injGet s (u8 p 0)).armed, stWrongState)]

def measInjSetDo (p : List Byte) (_ : Nat) (s : State) : Done :=
  ok (injMod s (u8 p 0) (fun q => { q with
    conv := u8 p 1, channels := injChannels p, source := u8 p 3, notify := u8 p 8 == 1 }))

def execMeasInjSet (o : Issue) (p : List Byte) (s : State) : Host.Outcome State Fault Refusal :=
  hostCommand 0x0C06 o p (measInjSetCheck o p) (measInjSetDo p) s

def measInjControlCheck (o : Issue) (p : List Byte) (s : State) : Option Nat :=
  firstRefusal
    [(decide (3 < u8 p 0) || decide (2 < u8 p 1), stBadParam),
     (!canChange s o.ctx 0x0701, stNotOwner),
     (u8 p 1 == 2 && !(injGet s (u8 p 0)).armed, stWrongState)]

/-- A conversion of the sequence goes on to its end and counts for no run (R350). -/
def orphan (j : Nat) (q : Sar) : Sar :=
  { q with busy := q.busy.map (fun x => if x.source = 2 + j then { x with live := false } else x) }

/-- A sequence converts only while it is armed (R349): disarmed, it starts no further conversion. -/
def disarmSeq (j : Nat) (s : State) : State :=
  let s1 := measMod (injMod s j (fun q => { q with armed := false })) (fun m => { m with ma := orphan j m.ma, mb := orphan j m.mb })
  if s.meas.running = some j then
    sarNext (injMod (measMod s1 (fun m => { m with running := none, injLeft := [], owed := !m.pairs.isEmpty })) j
      (fun q => { q with pending := [] }))
  else s1

def measInjControlDo (p : List Byte) (_ : Nat) (s : State) : Done :=
  match u8 p 1 with
  | 0 => ok (disarmSeq (u8 p 0) s)
  | 1 => ok (injMod s (u8 p 0) (fun q => { q with armed := true }))
  | _ => ok (injTrigger (u8 p 0) s)

def execMeasInjControl (o : Issue) (p : List Byte) (s : State) : Host.Outcome State Fault Refusal :=
  hostCommand 0x0C07 o p (measInjControlCheck o p) (measInjControlDo p) s

def measInjReadCheck (p : List Byte) (_ : State) : Option Nat := firstRefusal [(decide (3 < u8 p 0), stBadParam)]

def measInjReadResult (p : List Byte) (s : State) : List Byte :=
  b4 (injGet s (u8 p 0)).completions ++ (injGet s (u8 p 0)).results.flatMap recordBytes

def execMeasInjRead (o : Issue) (p : List Byte) (s : State) : Host.Outcome State Fault Refusal :=
  hostCommand 0x0C08 o p (measInjReadCheck p) (reads (measInjReadResult p)) s

def measCalibrateCheck (p : List Byte) (_ : State) : Option Nat :=
  firstRefusal [(u8 p 0 == 0 || decide (3 < u8 p 0), stBadParam)]

/-- R356: the calibrations are requested; COMMAND_DONE follows the last of them. -/
def measCalibrateDo (o : Issue) (p : List Byte) (log : Nat) (s : State) : Done :=
  let w : Waiter := { ctx := o.ctx, log := log }
  queuedDone ((bitsOf (u8 p 0) 2).foldl (fun t c =>
    sarMod t c (fun q => { q with calRequested := true, calFor := q.calFor ++ [w] })) s)

def execMeasCalibrate (o : Issue) (p : List Byte) (s : State) : Host.Outcome State Fault Refusal :=
  hostCommand 0x0C09 o p (measCalibrateCheck p) (measCalibrateDo o p) s

def measCalReadCheck (p : List Byte) (_ : State) : Option Nat := firstRefusal [(decide (1 < u8 p 0), stBadParam)]

/-- The time since the last calibration is the outside's. -/
def measCalReadResult (p : List Byte) (s : State) : List Byte :=
  let q := sarGet s (u8 p 0)
  sb4 q.offset ++ sb4 q.gain ++ b4 (openValue s 0) ++ sb2 q.calTemp ++ sb2 q.diff

def execMeasCalRead (o : Issue) (p : List Byte) (s : State) : Host.Outcome State Fault Refusal :=
  hostCommand 0x0C0A o p (measCalReadCheck p) (reads (measCalReadResult p)) s

end Sys2Proof.Machine
end

