-- ==== Sys2Proof/Machine/Loader.lean ====
section
/-! DEFINITION. The engine loader: loads of the Far bank, what a swap puts in force and what follows it, the
start of a base chart, the rebuild after an engine fault, and CHART_SELECT now (chapters 1, 4, 5). -/

namespace Sys2Proof.Machine

/-! ## What a load makes of the Far bank -/

/-- Overlays whose work the Near bank holds (Table 4-9): every one in service but those LOADING. -/
def placed (s : State) : List Nat := (List.range 64).filter (fun n => (ovGet s n).st ∈ [2, 3, 4, 5, 6])

/-- The Far bank that a load ends with (R17, R75, R77, R83, R86): the Near bank's copy with its changes, or a
bank built from the chart (R108). -/
def targetBank (s : State) (c : Chart) (w : LoadWhat) : Bank :=
  match w with
  | .activate n => writeAll (c.ovSeg n) s.cs.near
  | .switchIn _ b => writeAll (c.ovSeg b) s.cs.near
  | .remove n => eraseAll (c.ovSeg n) s.cs.near
  | .switchOut a _ => eraseAll (c.ovSeg a) s.cs.near
  | .variant r => writeAll (variantEntries c r) (if r then s.cs.near else eraseAll c.reducedSeg s.cs.near)
  | .rebuild => buildBank c s.cs.reduced (placed s)
  | .base => (s.cs.select.map (fun q => buildBank q.chart false [])).getD s.cs.near

/-- The initial contents that an entry gives a slot, section, line, limiter, protection instance or meter
(R115, R123, R128, R132, R140). -/
def initEntry (s : State) (e : SegEntry) : State :=
  let b := e.bytes
  match e.kind with
  | 2 =>
    let w := BitVec.ofNat 32 (u32 b 0)
    slotMod s e.inst (fun _ => { Slot.reset with target := w, present := w, rampMs := u16 b 4 })
  | 3 =>
    sectionMod (dropQueued (sectionGet s e.inst).queued s) e.inst (fun _ =>
      { Section.reset with bankA := coefsAt b 0, bankB := coefsAt b 20, activeB := u8 b 40 == 1 })
  | 4 =>
    let first := u32 b 0
    let len := u32 b 4
    let s1 := lineMod (dropQueued (lineGet s e.inst).queued s) e.inst (fun _ =>
      { DelayLine.absent with
        base := first, len := len, d0 := u32 b 8, old := u32 b 8, maxOffset := u16 b 12, xfade := u16 b 14 })
    { s1 with par := { s1.par with
        pool := s1.par.pool.filter (fun x => !(decide (first ≤ x.1) && decide (x.1 < first + len))) } }
  | 5 =>
    if e.inst < 64 then
      limiterMod s e.inst (fun _ => { Limiter.absent with
        present := true, threshold := s16 b 0, lookahead := u16 b 2, attack := u16 b 4, release := u16 b 6
        enabled := bit (u8 b 8) 0 })
    else
      protectMod s (e.inst - 64) (fun _ => { Protect.absent with
        present := true, entry := b, enabled := bit (u8 b 26) 0, tMax := u16 b 6, xMax := u16 b 8, re := u16 b 0
        temp := classDTemp s })
  | 6 => meterMod s e.inst (fun _ => { Meter.absent with present := true, tc := u16 b 0, hold := u16 b 2, decay := u16 b 4 })
  | _ => s

/-- What an entry of a variant replaces (Table 4-6): values and coefficients, while histories, delay-line contents,
gains, readings (R104) and a limiter's LOOKAHEAD (R133) stay. -/
def replaceEntry (s : State) (e : SegEntry) : State :=
  let b := e.bytes
  match e.kind with
  | 3 => sectionMod s e.inst (fun q => { q with bankA := coefsAt b 0, bankB := coefsAt b 20 })
  | 4 => lineMod s e.inst (fun q =>
      { q with base := u32 b 0, len := u32 b 4, d0 := u32 b 8, old := u32 b 8, maxOffset := u16 b 12, xfade := u16 b 14 })
  | 5 =>
    if e.inst < 64 then
      limiterMod s e.inst (fun q => { q with
        present := true, threshold := s16 b 0, lookahead := if q.present then q.lookahead else u16 b 2
        attack := u16 b 4, release := u16 b 6, enabled := bit (u8 b 8) 0 })
    else
      protectMod s (e.inst - 64) (fun q => { q with
        present := true, entry := b, enabled := bit (u8 b 26) 0, tMax := u16 b 6, xMax := u16 b 8 })
  | 6 => meterMod s e.inst (fun q => { q with present := true, tc := u16 b 0, hold := u16 b 2, decay := u16 b 4 })
  | _ => initEntry s e

/-- Work and sink berths of an overlay's reservation (R89). -/
def reservedBerths (c : Chart) (n : Nat) : List Nat :=
  ((List.range 768).map (256 + ·)).filter (fun a => c.reserves n 1 a)

/-- A sink berth that is written 0; the egress FIFO of an enabled port runs on (R11, R89). -/
def emptySink (x : Sink) : Sink := { Sink.reset with fifo := x.fifo }

/-- A work or sink berth is written 0. -/
def zeroBerth (s : State) (a : Nat) : State :=
  if a < 512 then sinkMod s (a - 256) emptySink
  else { s with eng := { s.eng with work := tset 0 s.eng.work a 0 } }

/-- The loader initialises what an overlay reserves, its gate at mute (R75, R89, R115, Table 4-8). -/
def initOverlay (c : Chart) (n : Nat) (s : State) : State :=
  let s1 := ((List.range 4096).filter (fun k => c.reserves n 2 k)).foldl (fun t k => slotMod t k (fun _ => Slot.reset)) s
  let s2 := slotMod ((c.ovSeg n).foldl initEntry s1) (c.ovGate n) (fun q => { q with target := 0, present := 0 })
  (reservedBerths c n).foldl zeroBerth s2

/-- Routes that differ between two banks (R113). -/
def changedRoutes (a b : Bank) : List Nat :=
  (List.range 64).filter (fun k => tget Route.off a.routes k != tget Route.off b.routes k)

def routeOn (b : Bank) (k : Nat) : Bool := (tget Route.off b.routes k).enabled

/-- Outputs whose RESPONSE, FULL_SCALE, GAIN or PWM differs, or whose port is gone (R200). -/
def changedOutputs (a b : Bank) : List Nat :=
  (List.range 4).filter (fun o =>
    let x := portBytes a (25 + o)
    let y := portBytes b (25 + o)
    bit (u8 x 0) 0 && (!bit (u8 y 0) 0 || u8 x 1 != u8 y 1 || u8 x 2 != u8 y 2 || (o == 3 && u8 x 3 != u8 y 3)))

/-- The output sounds, or is about to, and no ramp to mute of another cause than a reclassification is under way. -/
def outSounds (s : State) (o : Nat) : Bool :=
  let q := outGet s o
  q.after != 2 && (q.st == 2 || q.st == 3 || (q.st == 4 && (q.after == 3 || q.rampPending.any (·.1))))

/-- A load starts: the mute ramps of changed routes and outputs start at the first tick after it (R113, R200). -/
def startLoad (c : Chart) (w : LoadWhat) (s : State) : State :=
  let target := targetBank s c w
  let rs := (changedRoutes s.cs.near target).filter (routeOn s.cs.near)
  let os := (changedOutputs s.cs.near target).filter (fun o => (outGet s o).enabled)
  let s1 := { s with cs := { s.cs with
    far := if w = .rebuild then Bank.empty else s.cs.near
    load := some { what := w, complete := false, muted := rs, mutedOuts := os, routes := rs, outs := os } } }
  let s2 := match w with
    | .activate n => initOverlay c n s1
    | .switchIn _ b => initOverlay c b s1
    | _ => s1
  let s3 := askRoutes false (rs.filter (fun k => (rampGet s2 k).target != 0 || (rampGet s2 k).pend == some true)) s2
  (os.filter (outSounds s)).foldl (fun t o => askRamp o false 10 4 5 0 t) s3

/-- The load that starts next: during CHART_SELECT now only the new base (R86), and a rebuild (R108). -/
def nextLoad (s : State) : Option LoadWhat :=
  if s.cs.load.isSome then none
  else if s.cs.select.isSome then
    (if .rebuild ∈ s.cs.loads then some .rebuild else if .base ∈ s.cs.loads then some .base else none)
  else s.cs.loads.head?

/-- A rebuild that is asked for or under way (R108). -/
def rebuilds (s : State) : List LoadWhat :=
  if .rebuild ∈ s.cs.loads ∨ s.cs.load.map (·.what) = some .rebuild then [.rebuild] else []

/-- R17: the engine loader starts the load at the head of its queue. -/
def execLoadStart (s : State) : Host.Outcome State Fault Refusal :=
  .next (match nextLoad s, s.cs.chart.or (s.cs.select.map (·.chart)) with
    | some w, some c =>
      if s.eng.halted then s
      else startLoad c w { s with cs := { s.cs with loads := s.cs.loads.erase w } }
    | _, _ => s)

/-- R73: the Far bank is written. -/
def execLoadComplete (s : State) : Host.Outcome State Fault Refusal :=
  .next (match s.cs.load, s.cs.chart.or (s.cs.select.map (·.chart)) with
    | some l, some c =>
      if l.complete then s
      else { s with cs := { s.cs with far := targetBank s c l.what, load := some { l with complete := true } } }
    | _, _ => s)

/-! ## What follows the Near bank -/

/-- A member's port runs (R165). -/
def memberRunning (s : State) (port sub : Nat) (egress : Bool) : Bool :=
  if port < 2 then usbRunning s port sub
  else if port = 2 then streamRunning s sub egress
  else serialRunning s port

/-- R11: an ingress FIFO stays only while the enabled port that writes it does. -/
def swapIngress (old : Bank) (s : State) : State :=
  { s with eng := { s.eng with ingress := s.eng.ingress.filter (fun e =>
      decide (e.1 ∈ fdSourcesOn old) && decide (e.1 ∈ fdSourcesOn s.cs.near)) } }

/-- R200, R205: an output whose port the swap has taken away is CLAMPED. -/
def swapOutput (old : Bank) (s : State) (o : Nat) : State :=
  if bit (u8 (portBytes old (25 + o)) 0) 0 && !outPresent s o && (outGet s o).st != 0 then
    clampOutput o (outMod s o (fun q => { q with pending := none, cause := 5, log := 0 }))
  else s

/-- Convoys, ports, outputs and the network follow a change of the Near bank (R79, R165, R223, R250). -/
def followBank (old : Bank) (log : Nat) (s : State) : State :=
  let oldEntry := portBytes old
  let s1 := (List.range 128).foldl (swapConvoy old (memberRunning s)) s
  let s2 := swapSpdif oldEntry ((List.range 6).foldl (swapSai oldEntry) s1)
  let s3 := swapNet old log (swapCaptures oldEntry (swapIngress old ((List.range 4).foldl (swapOutput old) s2)))
  usbFollow 1 4 log (usbFollow 0 4 log (refreshDetRef (swapJack (swapJack s3 0) 1)))

/-- The look-ahead of the limiter that a bank binds to a sink. -/
def lookaheadIn (b : Bank) (s : State) (k : Nat) : Nat :=
  match (limWords b).find? (fun x => x.1 == k && !x.2.1) with
  | some x => (limiterGet s x.2.2).lookahead
  | none => 0

/-- R131: a sink whose look-ahead changes restarts its delay store filled with 0, and so do the low bands of its words. -/
def restartDelays (old : Bank) (s : State) : State :=
  let same := fun (k : Nat) => lookaheadIn old s k == lookaheadIn s.cs.near s k
  { s with
    eng := { s.eng with sinks := tmapKeys Sink.reset s.eng.sinks (fun k x => if same k then x else { x with delay := [] }) }
    par := { s.par with protects := tmapKeys Protect.absent s.par.protects (fun i q =>
      if (limWords s.cs.near).any (fun x => x.2.1 && x.2.2 % 2 == i && !same x.1) then { q with lows := [], exc := [] } else q) } }

/-- R113: from the swap, each changed route of the new Near bank ramps from mute to 1.0. -/
def raiseRoutes (old : Bank) (s : State) : State :=
  (changedRoutes old s.cs.near).foldl (fun t k => rampMod t k (fun _ =>
    if routeOn s.cs.near k then
      { RouteRamp.steady with present := 0, start := 0, target := 0, pend := some true }
    else RouteRamp.steady)) s

/-- R200: the outputs that a load muted ramp up again where their port is still present. -/
def raiseOutputs (os : List Nat) (s : State) : State :=
  os.foldl (fun t o =>
    if !outPresent t o || (outGet t o).after != 4 then t
    else if t.pwr.shelter then
      enterOut o 5 (outMod (if o = 3 then stopDriving o t else t) o
        (fun q => { q with awaiting := q.enabled, resumes := q.enabled, after := 0, cause := 5, log := 0 }))
    else askRamp o true (startTenths t o) 0 5 0 t) s

/-- The exchange of the banks (R104). -/
def exchangeBanks (s : State) : State :=
  { s with cs := { s.cs with
      near := s.cs.far, far := s.cs.near, nearBank := 1 - s.cs.nearBank
      swapCount := (s.cs.swapCount + 1) % 2 ^ 32, load := none } }

/-! ## Junctions (R122) -/

/-- A word of a bank stores to the berth. -/
def writesBerth (w : BitVec 64) (a : Nat) : Bool :=
  wordDst w == a && (wordOp w ∈ [0x03, 0x04, 0x10] || (wordOp w == 0x08 && !bit (wordAux w) 1))

def bankWrites (b : Bank) (a : Nat) : Bool := b.words.any (fun e => writesBerth e.2 a)

/-- The word of a position: 1.0 for the PAR berth, 0 for the SRC berth. -/
def towards (par : Bool) : Word := if par then unity else 0

/-- R122, item 1: every junction that the incoming overlay feeds ramps to the input it writes. -/
def junctionSwitch (c : Chart) (b ms log : Nat) (s : State) : State :=
  (junctions c).foldl (fun t x =>
    if c.reserves b 1 x.2.1 then loaderCommit (3840 + x.1) (towards false) ms log t
    else if c.reserves b 1 x.2.2 then loaderCommit (3840 + x.1) (towards true) ms log t
    else t) s

/-- R122, item 2: a junction whose other input has no writer is set to the activated overlay's input. -/
def junctionSet (c : Chart) (n log : Nat) (s : State) : State :=
  (junctions c).foldl (fun t x =>
    if c.reserves n 1 x.2.1 && !bankWrites s.cs.near x.2.2 then loaderCommit (3840 + x.1) (towards false) 0 log t
    else if c.reserves n 1 x.2.2 && !bankWrites s.cs.near x.2.1 then loaderCommit (3840 + x.1) (towards true) 0 log t
    else t) s

/-! ## What each load's swap does -/

/-- The activation swap (R75, R76). -/
def activationSwap (c : Chart) (n : Nat) (s : State) : State :=
  let v := ovGet s n
  let s1 := junctionSet c n v.cause.log s
  let now := v.cut || v.ramp == 0
  let s2 := gateTo n true now v.ramp s1
  streamsPlaced n (if now then
      completeAll v.waiters stOk (enterOv n 3 (ovMod s2 n (fun v => { v with waiters := [] })))
    else enterOv n 2 s2)

/-- Words in the egress FIFOs of a removed overlay's sinks are discarded (R75, R80). -/
def discardFifos (c : Chart) (n : Nat) (s : State) : State :=
  ((reservedBerths c n).filter (fun a => decide (256 ≤ a) && decide (a < 512))).foldl (fun t a => sinkMod t (a - 256) (fun x => { x with fifo := none })) s

/-- An activation that a removal swap lets start is admitted anew (R78, R261). -/
def readmit (n : Nat) (qs : List QueuedAct) (s : State) : State :=
  match qs with
  | [] => s
  | q :: _ =>
    let ws := qs.flatMap (fun a => optList a.waiter)
    match activateRefusal s n with
    | some st => streamsRefused n st q.cause.log (completeAll ws st s)
    | none =>
      if (ovGet s n).st = 0 then startActivation n q ws s
      else (activateOverlay n q s).2

/-- The removal swap (R75, R78, R316). -/
def removalSwap (c : Chart) (n : Nat) (s : State) : State :=
  let v := ovGet s n
  let s1 := discardFifos c n (enterOv n 0 (ovMod s n (fun v => { v with waiters := [], queued := [] })))
  let s2 := readmit n v.queued (streamsRemoved n v.cause.log (usbDiscard n (completeAll v.waiters stOk s1)))
  let mine := s2.cs.follows.filter (fun f => f.old == n)
  mine.foldl (fun t f => readmit f.ov [f.req] t)
    { s2 with cs := { s2.cs with follows := s2.cs.follows.filter (fun f => f.old != n) } }

/-- The swap that places B (R77, step 2): both overlays are in HANDOVER, and three ramps start. -/
def switchInSwap (c : Chart) (a b : Nat) (s : State) : State :=
  match s.cs.switches.find? (fun w => w.src == a && w.dst == b) with
  | none => s
  | some w =>
    let ms := if w.cut then 0 else w.ramp
    let s1 := { s with cs := { s.cs with
      switches := s.cs.switches.map (fun x => if x.src = a then { x with phase := 1 } else x) } }
    let s2 := enterOv b 6 (enterOv a 6 s1)
    streamsPlaced b (gateTo b true w.cut ms (gateTo a false w.cut ms (junctionSwitch c b ms w.cause.log s2)))

/-- The swap that removes A (R77, step 4). -/
def switchOutSwap (c : Chart) (a b : Nat) (s : State) : State :=
  let w := s.cs.switches.find? (fun w => w.src == a && w.dst == b)
  let s1 := { s with cs := { s.cs with switches := s.cs.switches.filter (fun x => x.src != a) } }
  let s2 := usbDiscard a (discardFifos c a (enterOv a 0 (enterOv b 3 s1)))
  streamsRemoved a ((w.map (·.cause.log)).getD 0) (match w.bind (·.waiter) with | some x => complete x stOk s2 | none => s2)

/-- The variant's swap (R83, R392). -/
def variantSwap (c : Chart) (r : Bool) (s : State) : State :=
  let v := s.cs.change
  let cause := (v.map (·.cause)).getD 0
  let w := v.bind (·.waiter)
  let es := (variantEntries c r).filter (fun e => decide (2 ≤ e.kind) && decide (e.kind ≤ 6))
  let s1 := es.foldl replaceEntry { s with cs := { s.cs with reduced := r, change := none } }
  let s2 := askSummary { s1 with hull := { s1.hull with replanFlag := if r then some c.chartId else none } }
  let s3 := post 0x0303 (flag r) ((v.map (·.log)).getD 0) cause .none s2
  match w with
  | some x => complete x stOk s3
  | none => s3

/-- The rebuild's swap ends the faults (R107, R108). FAULT_WORD keeps its last index (DESIGN CHOICE, log entry 96). -/
def rebuildSwap (s : State) : State :=
  { s with eng := { s.eng with
      faultedWords := [], lanes := tmapKeys Lane.reset s.eng.lanes (fun _ a => { a with faultSince := false }) } }

/-! ## A base chart comes into force -/

/-- Slots, sections, lines, limiters, instances and meters as a chart gives them, its overlays' included (R115); work
and sink berths are 0 (R89, R123, R128, R140). While the tick runs on, the words that have landed are read in the
period that begins (R88), and boundary FIFOs of enabled ports run on (R11). -/
def freshParams (c : Chart) (reduced : Bool) (s : State) : State :=
  let s0 := s.par.lines.foldl (fun t x => dropQueued x.2.queued t)
    (s.par.sections.foldl (fun t x => dropQueued x.2.queued t) s)
  let s1 := { s0 with
    par := { s0.par with slots := [], sections := [], lines := [], pool := [], limiters := [], protects := [], meters := [] }
    eng := { s0.eng with 
      landing := if s0.eng.ticking then s0.eng.landing else []
      sinks := if s0.eng.ticking then tmapKeys Sink.reset s0.eng.sinks (fun _ x => emptySink x) else []
      ingress := if s0.eng.ticking then s0.eng.ingress else []
      working := [], work := [], ramps := [], faultedWords := [] } }
  ((c.ovs.flatMap c.ovSeg ++ c.base ++ if reduced then c.reducedSeg else []).filter (fun e =>
    decide (2 ≤ e.kind) && decide (e.kind ≤ 6))).foldl initEntry s1

/-- Clocks, captures, streams and network time of a base chart that comes into force. Streams start anew with a new entity
section only (R316). -/
def startBase (old : Bank) (fresh : Bool) (log : Nat) (s : State) : State :=
  let s0 := startCaptures (startClocks s)
  let s1 := startGptp log (if fresh then startStreams s0 else s0)
  let s2 := { s1 with meas := { s1.meas with trackerLocked := false, fade := 0 } }
  followBank old log s2

/-- A chart comes into force in the Near bank, with no overlay in service (R35, R86, Table 16-8). -/
def placeChart (c : Chart) (slot : Nat) (reduced : Bool) (log : Nat) (old : Bank) (s : State) : State :=
  let bank := buildBank c reduced []
  let fresh := s.cs.chart.isNone || entityData s != c.secD 7 0
  let s1 := { s with
    hull := { s.hull with replanDue := false }
    cs := { s.cs with
      chart := some c, inUse := slot, overlays := [], switches := [], enables := [], reduced := reduced, change := none
      near := bank, far := old, load := none, loads := [], follows := [], missing := false } }
  placeMoorings c log (startBase old fresh log (freshParams c reduced s1))

/-- The re-plan flag of the hull log names the chart: it starts in the reduced variant, which only SET_VARIANT leaves (R391,
R392). -/
def startsReduced (s : State) (c : Chart) : Bool := c.hasReduced && s.hull.replanFlag == some c.chartId

/-! ## CHART_SELECT now (R86) -/

/-- Fabric periods of the fades of steps 1 and 4. -/
def selectPeriods (s : State) : Nat := periodsOfMs s 5

/-- The factor that the fades of R86 apply to the base chart's sinks. -/
def selectFactor (s : State) : Word :=
  match s.cs.select with
  | none => unity
  | some q =>
    match q.phase with
    | 0 => gainRamp unity 0 q.k q.n
    | 1 => 0
    | _ => gainRamp 0 unity q.k q.n

/-- Step 1 for one overlay in service: it fades to mute over 5 ms; what is under way for it is superseded. -/
def fadeOverlay (log : Nat) (s : State) (n : Nat) : State :=
  let v := ovGet s n
  let cause := { code := 3, binding := 0xFF, log := log }
  if v.st = 0 then s
  else
    let ws := if v.st = 4 ∨ v.st = 5 then [] else v.waiters
    let s1 := giveUp n log (ws ++ v.queued.flatMap (fun a => optList a.waiter)) s
    let s2 := ovMod s1 n (fun v => { v with
      cause := cause, cut := false, ramp := 5, queued := [], waiters := if v.st = 4 ∨ v.st = 5 then v.waiters else [] })
    if v.st = 1 then enterOv n 0 s2
    else if v.st = 5 then s2
    else
      let s3 := if v.st = 4 then s2 else enterOv n 4 s2
      askRoutes false (overlayRoutes s3 n) (gateTo n false false 5 s3)

/-- Step 1: loads, switches and a change of variant under way give way to the new chart. -/
def fadeAll (log : Nat) (s : State) : State :=
  let s1 := completeAll (s.cs.switches.flatMap (fun w => optList w.waiter)
    ++ (s.cs.change.bind (·.waiter)).toList) stConflict (dropLoad s)
  (List.range 64).foldl (fadeOverlay log)
    { s1 with cs := { s1.cs with loads := rebuilds s, switches := [], change := none, follows := [] } }

/-- R259: the port's descriptor set differs in the chart to come. -/
def descriptorsDiffer (s : State) (c : Chart) (p : Nat) : Bool := usbSet s p != c.secD 6 p

/-- R259, step 1 of R86: a port whose descriptor set changes disconnects until after step 5. -/
def selectDetach (c : Chart) (log : Nat) (s : State) (p : Nat) : State :=
  if (usbGet s p).st ≠ 0 ∧ descriptorsDiffer s c p then
    usbMod (usbDetach p 4 log s) p (fun u => { u with reconnect := true })
  else s

/-- R316, step 1: a chart that replaces the entity section disconnects every stream, and the entity departs. -/
def selectEntity (c : Chart) (log : Nat) (s : State) : State :=
  if entityData s = c.secD 7 0 then s else adpSend 1 (streamsEnd log s)

/-- CHART_SELECT now is accepted: step 1. With the tick stopped there is nothing to fade. -/
def beginSelect (slot : Nat) (c : Chart) (w : Waiter) (s : State) : State :=
  let s1 := fadeAll w.log ([0, 1].foldl (selectDetach c w.log) (selectEntity c w.log s))
  let q : Select :=
    { slot := slot, chart := c, waiter := w, relock := decide (s.cs.chart.map (·.rate) ≠ some c.rate),
      entity := entityData s != c.secD 7 0, phase := flag s.cs.chart.isNone, k := 0, n := selectPeriods s }
  { s1 with cs := { s1.cs with select := some q } }

/-- Every overlay is INACTIVE at the new chart's start (Table 4-12, cause 3), and the streams that name one are disconnected
(R316). -/
def overlaysOut (log : Nat) (s : State) : State :=
  (List.range 64).foldl (fun t n =>
    if (ovGet t n).st = 0 then t
    else
      let v := ovGet t n
      let st := if v.st = 1 then stConflict else stOk
      let t1 := giveUp n log (v.queued.flatMap (fun a => optList a.waiter))
        (ovMod t n (fun v => { v with waiters := [], queued := [] }))
      streamsRemoved n log (completeAll v.waiters st (enterOv n 0 t1))) s

/-- R259: an interface of a port that stayed connected, a suspended one too, re-applies its setting under the new chart; nothing
stalls, and the data of a setting whose overlay is refused is discarded. -/
def reapplyAlt (p log : Nat) (s : State) (i : Nat) : State :=
  let alt := usbAlt s p i
  if alt = 0 ∨ ¬((usbGet s p).st = 2 ∨ (usbGet s p).st = 3) then s
  else
    match usbRecord s p i alt with
    | none => s
    | some r =>
      let e := usbEnter p i (u8 r 5) log s
      let t := usbStreamMod e.2 p i (fun x => { x with discard := usbStalls e.1 })
      if (usbGet s p).st = 2 then usbStart p i t else t

/-- Steps 2 and 3: the new base chart is in force. -/
def selectPlace (q : Select) (old : Bank) (s : State) : State :=
  let s0 := overlaysOut q.waiter.log s
  let s1 := placeChart q.chart q.slot (startsReduced s q.chart) q.waiter.log old
    (if q.entity then streamsEnd q.waiter.log s0 else s0)
  let s2 := { s1 with cs := { s1.cs with select := some { q with phase := 2, k := 0, n := selectPeriods s1 } } }
  [0, 1].foldl (fun t p => (List.range 4).foldl (reapplyAlt p q.waiter.log) t) s2

/-- Step 5, after the fade in: COMMAND_DONE, and what waits for it (R259, R316, R392). -/
def selectDone (q : Select) (s : State) : State :=
  let s1 := complete q.waiter stOk { s with cs := { s.cs with select := none } }
  let s2 := if s1.hull.replanFlag.isSome && s1.hull.replanFlag != some q.chart.chartId then
      askSummary { s1 with hull := { s1.hull with replanFlag := none } }
    else s1
  let s3 := { s2 with hull := { s2.hull with predictDue := true } }
  if q.entity then adpSend 0 s3 else s3

/-- The fade of step 1 is over: its last period is behind, and every gate is at mute. -/
def fadeOver (q : Select) (s : State) : Bool :=
  decide (q.n < q.k) && (List.range 64).all (fun n => (ovGet s n).st == 0 || gateSettled s n)

/-- What a tick does to CHART_SELECT now. The swap of its load is the tick's own. -/
def tickSelect (s : State) : State :=
  match s.cs.select with
  | none => s
  | some q =>
    let s1 := { s with cs := { s.cs with select := some { q with k := q.k + 1 } } }
    let q1 := { q with k := q.k + 1 }
    if q.phase = 0 then
      if fadeOver q1 s1 then
        let s2 := { s1 with cs := { s1.cs with select := some { q1 with phase := 1 } } }
        if q.relock then stopTick s2 else askLoad .base s2
      else s1
    else if q.phase = 2 then (if q.n < q1.k then selectDone q s1 else s1)
    else s

/-- R86: after a change of the fabric rate the fabric PLL has relocked, and the new base starts on the first
tick. So does the first chart that a part without one selects. SWAP_COUNT and NEAR_BANK stay as they are (DESIGN
CHOICE, log entry 99). -/
def execFabricPllRelock (s : State) : Host.Outcome State Fault Refusal :=
  .next (match s.cs.select with
    | some q =>
      if q.phase = 1 ∧ q.relock ∧ fabricStates s ∧ s.eng.halted = false ∧ s.pwr.thermalShut = false then
        let s1 := selectPlace q s.cs.near s
        { s1 with eng := { s1.eng with ticking := true } }
      else s
    | none => s)

/-! ## The swap -/

/-- A route that a load waits for is at mute. -/
def loadReady (s : State) : Bool :=
  match s.cs.load with
  | some l => l.complete && l.routes.all (routeMuted s)
      && l.outs.all (fun o =>
          let q := outGet s o
          q.rampPending.isNone && (q.st != 2 && q.st != 3) && (q.st != 4 || (q.gate.target == 0 && slotSettled q.gate)))
  | none => false

/-- Beat 0 (a) of Table 1-3: a pending swap takes effect (R17, R73, R104, R113). -/
def swapNow (s : State) : State :=
  match s.cs.load, s.cs.chart with
  | some l, some c =>
    if !loadReady s then s
    else if l.what = .base then
      match s.cs.select with
      | some q =>
        raiseOutputs l.mutedOuts (raiseRoutes s.cs.near (selectPlace q s.cs.near (exchangeBanks s)))
      | none => { s with cs := { s.cs with load := none } }
    else
      let old := s.cs.near
      let s1 := restartDelays old (raiseRoutes old (exchangeBanks s))
      let s2 := match l.what with
        | .activate n => activationSwap c n s1
        | .remove n => removalSwap c n s1
        | .switchIn a b => switchInSwap c a b s1
        | .switchOut a b => switchOutSwap c a b s1
        | .variant r => variantSwap c r s1
        | .base => s1
        | .rebuild => rebuildSwap s1
      raiseOutputs l.mutedOuts (followBank old 0 s2)
  | _, _ => s

end Sys2Proof.Machine
end

