-- ==== Sys2Proof/Machine/Samples.lean ====
section
/-! DEFINITION. Samples at the edges of the fabric: ingress conversion and landing words, the chain lane, the
dynamics stage with limiters and speaker protection, and conversion at the sinks (chapters 5, 6). -/

namespace Sys2Proof.Machine

/-! ## Port samples (Table 5-2) -/

/-- A binary32 value as a fabric word, and whether it counts a clip event. -/
def floatWord (x : Word) : Word × Bool :=
  let e := bits x.toNat 30 23
  let m := bits x.toNat 22 0
  let neg := bit x.toNat 31
  if e = 255 ∧ m ≠ 0 then (0, true)
  else if 131 ≤ e then (if neg then 0x80000000 else 0x7FFFFFFF, true)
  else
    let n : Int := if e = 0 then m else m + 2 ^ 23
    let v := if 123 ≤ e then n * 2 ^ (e - 123) else rneShift n (123 - max e 1)
    (BitVec.ofInt 32 (if neg then -v else v), false)

/-- R93: a port sample as a fabric word, and whether it counts a clip event. -/
def portWord (f : PortFormat) (x : Word) : Word × Bool :=
  match f with
  | .int16 => (BitVec.ofInt 32 (signed 16 (x.toNat % 2 ^ 16) * 2 ^ 12), false)
  | .int24 => (BitVec.ofInt 32 (signed 24 (x.toNat % 2 ^ 24) * 2 ^ 4), false)
  | .int32 => (BitVec.ofInt 32 (rneShift x.toInt 4), false)
  | .float32 => floatWord x
  | .fabric => (x, false)

/-! ## Formats of sinks -/

/-- A data word of 16, 24 or 32 bits. -/
def widthFormat (w : Nat) : PortFormat := if w = 16 then .int16 else if w = 24 then .int24 else .int32

/-- Format and dither of a port's samples: USB by the interface's setting, AVTP by the talker's record, SAI and
S/PDIF by the port entry (R139). -/
def portFormat (s : State) (port sub : Nat) : PortFormat × Bool :=
  let e := entryOf s port
  if port < 2 then
    let r := ((List.range 4).find? (fun i => usbIf s port i == sub)).bind (fun i => usbRecord s port i (usbAlt s port i))
    ([PortFormat.int16, .int24, .int32, .float32].getD (u8 (r.getD []) 3) .int16, bit (u8 e 0) 5)
  else if port = 2 then
    let r := streamRec s sub
    ([PortFormat.int16, .float32, .int32, .int24, .int16].getD (u8 r 4) .int16, bit (u8 r 0) 3)
  else if port = 10 then (widthFormat (u8 e 3), bit (u8 e 0) 3)
  else (widthFormat (u8 e 4), bit (u8 e 0) 6)

/-- The convoy, member and channel whose berth this is. -/
def convoyBerth (s : State) (egress : Bool) (a : Nat) : Option (Nat × Nat × Nat) :=
  (convoysOf s.cs.near).findSome? (fun k =>
    let e := convoyEntry s.cs.near k
    let first := u16 e 40
    if convoyEgress e == egress && decide (first ≤ a) && decide (a < first + convoyChannels e) then
      ((List.range (convoyMembers e)).find? (fun m => decide (a - first < channelsBefore e (m + 1)))).map
        (fun m => (k, m, a - first - channelsBefore e m))
    else none)

/-- The SAI port in the FD role that writes a source berth (R110, Table 10-1). -/
def fdSaiSource (s : State) (a : Nat) : Option Nat :=
  (berthRun 3 6).find? (fun i =>
    let e := entryOf s i
    bit (u8 e 0) 0 && bit (u8 e 0) 2 && bit (u8 e 16) 1 && decide (a ∈ berthRun (u16 e 18) (u8 e 2)))

/-- The SAI port in the FD role that reads a sink berth (R110, Table 10-1). -/
def fdSaiSink (s : State) (a : Nat) : Option Nat :=
  (berthRun 3 6).find? (fun i =>
    let e := entryOf s i
    bit (u8 e 0) 0 && bit (u8 e 0) 2 && bit (u8 e 16) 0 && decide (a ∈ berthRun (u16 e 20) (u8 e 2)))

/-- Format and dither of a sink (Table 6-10); a converter path, or no port, takes the fabric word. -/
def sinkFormat (s : State) (a : Nat) : PortFormat × Bool :=
  match convoyBerth s true a with
  | some x =>
    let m := memberOf (convoyEntry s.cs.near x.1) x.2.1
    portFormat s m.1 m.2.1
  | none => ((fdSaiSink s a).map (fun i => portFormat s i 0)).getD (.fabric, false)

/-- A clamped word w as binary32 of w × 2^−27, ties to even. -/
def wordFloat (w : Int) : Word :=
  let n := w.natAbs
  if n = 0 then 0
  else
    let e := Nat.log2 n
    let m : Int := if e ≤ 23 then (n * 2 ^ (23 - e) : Nat) else rneShift n (e - 23)
    BitVec.ofInt 32 ((if w < 0 then 2 ^ 31 else 0) + ((e : Int) + 100) * 2 ^ 23 + (m - 2 ^ 23))

/-- Triangular dither in 2^−32 of an LSB (R139), a sum of two draws of ±0.5 LSB. -/
def ditherDraw (s : State) : Int × State :=
  (((Config.dither s.free).toNat : Int) + (Config.dither (s.free + 1)).toNat - 2 ^ 32, { s with free := s.free + 2 })

/-- An integer conversion: `sh` bits fewer, limited to the code range. -/
def toCode (sh : Nat) (top : Int) (dither : Bool) (w : Int) (s : State) : Word × State :=
  let d := if dither then ditherDraw s else (0, s)
  (BitVec.ofInt 32 (clampInt (-top) (top - 1) (rneShift (w * 2 ^ 32 + d.1 * 2 ^ sh) (32 + sh))), d.2)

/-- Step 6 of Table 6-6 (Table 6-10) for a clamped word. -/
def convertSink (f : PortFormat × Bool) (w : Int) (s : State) : Word × State :=
  match f.1 with
  | .int16 => toCode 12 (2 ^ 15) f.2 w s
  | .int24 => toCode 4 (2 ^ 23) f.2 w s
  | .int32 => (BitVec.ofInt 32 (min (w * 2 ^ 4) (2 ^ 31 - 1)), s)
  | .float32 => (wordFloat w, s)
  | .fabric => (BitVec.ofInt 32 w, s)

/-! ## The chain lane (R112) -/

/-- A product with `q` fraction bits in a sink's format, rounded once and saturated at 0 dBFS of the format; the
flag tells a saturation. -/
def chainConvert (f : PortFormat) (x : Int) (q : Nat) : Word × Bool :=
  let give := fun (frac : Nat) (limit : Int) =>
    let v := rneShift x (q - frac)
    let top : Int := 2 ^ frac
    (BitVec.ofInt 32 (clampInt (-top) limit v), decide (top < v) || decide (v < -top))
  match f with
  | .int16 => give 15 (2 ^ 15 - 1)
  | .int24 => give 23 (2 ^ 23 - 1)
  | .int32 => give 31 (2 ^ 31 - 1)
  | .float32 => let r := give 27 (2 ^ 27); (wordFloat r.1.toInt, r.2)
  | .fabric => give 27 (2 ^ 27)

/-- A word enters a sink's egress FIFO. A converter takes one in the same period, so that the fill stays; an SAI port takes
one at its frame-start edge (R11, R229). -/
def pushEgress (sai : Bool) (w : Word) (x : Sink) : Sink :=
  { x with egress := w, fifo := x.fifo.map (fun l => if sai then pushFifo w l else (l ++ [w]).drop 1) }

/-- R112, R8: one route delivers a source word, with its gain, its f and the fades of R86. -/
def chainDeliver (a : Nat) (w : Word) (s : State) (k : Nat) : State :=
  let r := tget Route.off s.cs.near.routes k
  if r.enabled && r.source == a then
    let x := w.toInt * (slotGet s r.gain).present.toInt * (rampGet s k).present.toInt * (selectFactor s).toInt
    let v := chainConvert (sinkFormat s r.sink).1 x 108
    sinkMod (clipIf v.2 r.sink s) (r.sink - 256) (pushEgress (fdSaiSink s r.sink).isSome v.1)
  else s

/-! ## Source words land (R88, R93) -/

/-- The capture channel that writes a berth. -/
def captureOf (s : State) (a : Nat) : Option Nat :=
  (List.range 16).find? (fun ch => bit (u8 (capEntry s ch) 0) 0 && capBerth (capEntry s ch) ch == a)

/-- The exposed measurement channel that writes a berth (R355). -/
def exposureAt (s : State) (a : Nat) : Option Nat :=
  (exposed (entryOf s 29)).find? (fun i => u16 (entryOf s 29) (4 + 2 * i) == a)

/-- The factor of a convoy's mute (R156): 1.0, its ramp over 32 periods, or 0 until relock. -/
def muteFactor (c : Convoy) : Word := if c.mute = 0 then unity else if c.mute = 1 then gainRamp unity 0 c.muteK 32 else 0

/-- The level of a member's channels (Table 7-10). -/
def memberLevel (q : Member) : Word := if q.st ∈ [2, 3, 4] then q.level else 0

/-- Format of the samples that a port gives the fabric (R93): USB by the interface's setting, AVTP by the listener's
record, 24 bits from the S/PDIF receiver (R238), SAI by WORD (R228). -/
def ingressFormat (s : State) (port sub : Nat) : PortFormat :=
  if port = 2 then (portFormat s 2 (32 + sub)).1 else if port = 9 then .int24 else (portFormat s port sub).1

/-- One channel of a converted convoy's history as fabric words, newest first. -/
def fabricInput (f : PortFormat) (hist : List (List Word × Word)) (c : Nat) : List Word :=
  hist.map (fun h => BitVec.ofInt 32 (mulQ27 (portWord f (h.1.getD c 0)).1.toInt h.2.toInt))

/-- What a convoy's berth takes. In a BYPASS convoy it is the member's last sample under its fade, rounded once; through
the rate stage it is what the stage makes of the member's samples under their fades (R155), with the convoy's mute on the
fabric side of it (R156). -/
def convoyWord (s : State) (x : Nat × Nat × Nat) : (Word × Bool) × State :=
  let e := nearConvoy s x.1
  let m := memberOf e x.2.1
  let f := ingressFormat s m.1 m.2.1
  let q := memGet s x.1 x.2.1
  let mute := (muteFactor (convGet s x.1)).toInt
  if convoyBypass e then
    let p := portWord f (q.last.getD x.2.2 0)
    let g := (memberLevel q).toInt * mute
    ((BitVec.ofInt 32 (rneShift (p.1.toInt * g) 54), p.2 && g != 0), s)
  else
    let r := stageSample (fabricInput f q.hist x.2.2) (ratioQ28 s (u8 e 1) false) s
    ((BitVec.ofInt 32 (mulQ27 r.1.toInt mute), false), r.2)

/-- The clip events of the port samples that went into a converted ingress member's rate stage since the last tick: one for each
sample that saturates, on its channel's source berth (R93). -/
def gatherClips (k m : Nat) (s : State) : State :=
  let e := nearConvoy s k
  let x := memberOf e m
  let f := ingressFormat s x.1 x.2.1
  let q := memGet s k m
  let in1 := (q.hist.take q.fresh).filter (fun h => h.2 != 0)
  let s1 := (List.range x.2.2).foldl (fun t c =>
    in1.foldl (fun u h => clipIf (portWord f (h.1.getD c 0)).2 (u16 e 40 + channelsBefore e m + c) u) t) s
  memMod s1 k m (fun q => { q with fresh := 0 })

/-- R93 at the tick: what the rate stages took in since the last one. -/
def gatherConvoy (s : State) (k : Nat) : State :=
  let e := nearConvoy s k
  if convoyEgress e || convoyBypass e then s
  else (List.range (convoyMembers e)).foldl (fun t m => gatherClips k m t) s

/-- A word from an ingress FIFO of the fabric domain (R11): a capture channel's own, which enters as it is; one of an SAI
port in the FD role, in the port's format. Nothing lands from a FIFO that is empty or that no tick has set. -/
def fdWord (a : Nat) (sample : Word) (line : List Bool) (s : State) : Option (Word × Bool) × State :=
  match captureOf s a with
  | some ch =>
    let r := captureWord ch sample line s
    let p := popIngress a (pushIngress a r.1.1 r.2)
    (p.1.map (fun w => (captureGate ch w s, r.1.2)), p.2)
  | none =>
    match fdSaiSource s a with
    | some i =>
      let p := popIngress a s
      (p.1.map (portWord (portFormat s i 0).1), p.2)
    | none => (none, s)

/-- The word that lands, if one does, and whether it counts a clip event. -/
def landedWord (a : Nat) (sample : Word) (line : List Bool) (s : State) : Option (Word × Bool) × State :=
  match convoyBerth s false a with
  | some x => let r := convoyWord s x; (some r.1, r.2)
  | none =>
    match exposureAt s a with
    | some i => let r := exposureWord i s; (some (r.1, false), r.2)
    | none => fdWord a sample line s

/-- R6, R14, R93, R112: a source word lands, and the routes that read it deliver it. -/
def landSource (a : Nat) (sample : Word) (line : List Bool) (s : State) : State :=
  let r := landedWord a sample line s
  match r.1 with
  | none => r.2
  | some w =>
    let t := clipIf w.2 a r.2
    (List.range 64).foldl (chainDeliver a w.1)
      { t with eng := { t.eng with landing := tset none t.eng.landing a (some w.1) } }

/-- The operands are what the pins give in this period: the signal of an analogue input, or PDMn_DAT in each period of the
fabric PLL (R168, R188). Every other berth takes its word from its port's FIFO. -/
def execSourceWordLand (berth : Fin 256) (sample : Word) (line : List Bool) (s : State) :
    Host.Outcome State Fault Refusal :=
  whenever (fun s => s.eng.ticking && decide (berth.val ∈ sourceWriters s.cs.near)) (landSource berth.val sample line) s

/-- A bound source whose writer delivers 0 whether or not a word lands: a member that does not sound, an
unlocked exposure, a silent channel (Table 7-10, R156, R355, R185). -/
def restsAtZero (s : State) (a : Nat) : Bool :=
  match captureOf s a with
  | some ch => !capRuns (capEntry s ch) ch || (capGet s ch).silent != 0
  | none =>
    match convoyBerth s false a with
    | some x =>
      (convGet s x.1).mute == 2 || (memberLevel (memGet s x.1 x.2.1) == 0
        && (convoyBypass (nearConvoy s x.1) || (memGet s x.1 x.2.1).hist.isEmpty))
    | none => if (exposureAt s a).isSome then exposureLevel s == 0 else (fdSaiSource s a).isNone

/-! ## Speaker protection (R134 to R138) -/

/-- A gain in 10^-6 dB as a word; −144 dB and below is mute. -/
def attenOf (g : Int) : Int := if g ≤ -144000000 then 0 else (gainWord g).toInt

/-- The gain that keeps a predicted excursion within X_MAX, in 10^-6 dB. -/
def excursionGain (xMax p : Nat) : Int :=
  if p ≤ xMax then 0 else if xMax = 0 then -144000000 else max (-144000000) (dbMicro xMax 0 - dbMicro p 0)

/-- The least of some gains, and 0. -/
def leastGain (gs : List Int) : Int := gs.foldl min 0

/-- Towards a target at or above, exponentially over `tau` ms of a rate; `up` decides the last place. -/
def riseGain (g target : Int) (tau hz : Nat) (up : Bool) : Int :=
  let gap := (target - g).toNat * expNegRatio 1000 (tau * hz)
  min target (target - ((gap / 2 ^ 80 + flag (!up && gap % 2 ^ 80 != 0) : Nat) : Int))

/-- b0, b1, b2, a1, a2 of a second-order low-pass in Q3.29: its poles lie inside the unit circle and its gain at 0 Hz is
1; within that the coefficients are free (R136). -/
def lowPassCoefs (corner q hz : Nat) : List Int :=
  let c := fun (k : Nat) => (Config.lowPass corner q hz k).toInt
  let a2 := clampInt (1 - 2 ^ 29) (2 ^ 29 - 1) (c 4)
  let a1 := clampInt (1 - 2 ^ 29 - a2) (2 ^ 29 + a2 - 1) (c 3)
  [c 0, c 1, 2 ^ 29 + a1 + a2 - c 0 - c 1, a1, a2]

/-- One sample through a second-order low-pass. -/
def lowPassStep (coef : List Int) (f : LowPass) (x : Int) : Int × LowPass :=
  let b := fun (k : Nat) => coef.getD k 0
  let y := rneShift (b 0 * x + b 1 * f.x1 + b 2 * f.x2 - b 3 * f.y1 - b 4 * f.y2) 29
  (y, { x1 := x, x2 := f.x1, y1 := y, y2 := f.y1 })

/-- SPK's volts at 0 dBFS in mV, by the GAIN in force (R198, Table 9-2). -/
def spkMillivolts (s : State) : Nat := [4000, 5660, 8000, 11310].getD (u8 (entryOf s 28) 2) 0

/-- The peaks of the last `span` periods after a new one: those that a later one exceeds are forgotten. -/
def pushPeak (now span x : Nat) (ps : List (Nat × Nat)) : List (Nat × Nat) :=
  ps.filter (fun p => decide (now < p.1 + span) && decide (x < p.2)) ++ [(now, x)]

/-- One word enters the low band at XOVER_HZ and the excursion that it predicts through the model at F0 and Q (R136);
`up` decides the last place. -/
def bandsStep (k look : Nat) (up : Bool) (s : State) (q : Protect) : Protect :=
  let hz := fabricHz s
  let low := lowPassStep (lowPassCoefs (10 * u16 q.entry 14) 0 hz) q.band (sinkGet s k).word.toInt
  let cone := lowPassStep (lowPassCoefs (u16 q.entry 16) (u16 q.entry 18) hz) q.cone low.1
  let x := u16 q.entry 20 * spkMillivolts s * cone.1.natAbs / (1000 * 2 ^ 27) + flag up
  let win := q.exc ++ [x]
  let lows := q.lows ++ [low.1]
  { q with exc := win.drop (win.length - (look + 1)), lows := lows.drop (lows.length - (look + 1)), band := low.2
           cone := cone.2, excursion := x, peaks := pushPeak s.eng.period (hz / 10) x q.peaks }

/-- G_x of an enabled instance after one word (R136). Its fall within the look-ahead is free between the gain that the
window needs and the one that the leaving word allows; with a look-ahead below 0.25 ms the leaving word may exceed X_MAX
for up to 0.25 ms. Its rise is exponential in dB (DESIGN CHOICE, log entry 122). -/
def excursionStep (look hz : Nat) (draw : BitVec 32) (up : Bool) (q : Protect) : Protect :=
  let need := leastGain (q.exc.map (excursionGain q.xMax))
  let allowed := excursionGain q.xMax (q.exc.headD 0)
  let late := decide (look * 4000 < hz) && decide (q.exOver < hz / 4000)
  let leaving := if late then q.gx else min q.gx allowed
  let gx := if need < q.gx then need + (draw.toNat % ((leaving - need).toNat + 1) : Nat) else riseGain q.gx need 100 hz up
  { q with gx := gx, exOver := if allowed < gx then q.exOver + 1 else 0, exLimiting := decide (gx < 0) }

/-- An instance takes a word of its sink; a disabled one keeps its G_x (R136, R138). -/
def stepExcursion (i k : Nat) (s : State) : State :=
  let e := drawReading s
  let u := drawRound e.2
  let look := lookaheadIn s.cs.near s k
  let q := bandsStep k look u.1 s (protectGet s i)
  if q.enabled then
    let q1 := excursionStep look (fabricHz s) e.1 u.1 q
    postLimit i (2 * flag (q1.exLimiting && !q.exLimiting)) (protectMod u.2 i (fun _ => q1))
  else protectMod u.2 i (fun _ => q)

/-- The low band of the word that stands `j` places before the newest of the window (R136). -/
def lowBand (q : Protect) (j : Nat) : Int := q.lows.reverse.getD j 0

/-- Step 2 of Table 6-6 with given gains: G_t × (high band + G_x × low band); with G_x at 1 it is G_t times the word. -/
def bandGain (low w gx gt : Int) : Int :=
  if gx = 0 then mulQ27 w (attenOf gt) else mulQ27 (w - low + mulQ27 low (attenOf gx)) (attenOf gt)

/-- Step 2 of Table 6-6 for the word that leaves a delay of `look` periods. -/
def protectWord (i look : Nat) (w : Int) (s : State) : Int :=
  let q := protectGet s i
  if q.present && q.enabled then bandGain (lowBand q look) w q.gx q.gtNow else w

/-- The pilot of an instance is added (R134, R137). -/
def pilotOn (q : Protect) : Bool := q.present && q.enabled && q.fault == 0 && bit (u8 q.entry 26) 1

/-- Step 4 of Table 6-6: a sine at PILOT_HZ and PILOT_LEVEL (R134); the phase it starts at and the last place are free. -/
def pilotSample (i : Nat) (s : State) : Int × State :=
  let q := protectGet s i
  if pilotOn q then
    let d := drawReading s
    let u := drawRound d.2
    let at_ := q.pilot.getD (s.eng.period, d.1.toNat)
    let hz := 10 * fabricHz s
    let sine := sineQ60 (at_.2 * hz + (s.eng.period - at_.1) * u16 q.entry 10 * 2 ^ 32) (2 ^ 32 * hz)
    (attenWord (-(s16 q.entry 12) * 10000).toNat * sine / 2 ^ 60 + flag u.1,
      protectMod u.2 i (fun q => { q with pilot := some at_ }))
  else (0, protectMod s i (fun q => { q with pilot := none }))

/-! ## The dynamics stage (R130) -/

/-- Steps 2 to 6 of Table 6-6 for a word that leaves step 1, with the gain of step 3; the fades of R86 act on the
sink before the clamp. -/
def finishSink (k : Nat) (gain : Int) (w : Word) (s : State) : State :=
  let p := sinkProtect s k
  let a := match p with | some i => protectWord i (lookaheadIn s.cs.near s k) w.toInt s | none => w.toInt
  let g := if gain = 0 then a else mulQ27 a (gainWord gain).toInt
  let b := match p with | some i => pilotSample i s | none => (0, s)
  let x := mulQ27 (g + b.1) (selectFactor s).toInt
  let c := clampInt (-(2 ^ 27)) (2 ^ 27) x
  let r := convertSink (sinkFormat s (256 + k)) c (clipIf (c != x) (256 + k) b.2)
  sinkMod r.2 k (fun q => { q with out := r.1, done := true })

/-- The undelayed word feeds the detectors of protection. -/
def detectSink (k : Nat) (s : State) : State :=
  match sinkProtect s k with
  | some i => if (protectGet s i).present then stepExcursion i k s else s
  | none => s

/-- R103, R130: the dynamics stage takes a sink whose final store has landed. A sink of a limiter is completed
with its fellows, since they share one gain (R132). -/
def execDynamicsSink (k : Fin 256) (s : State) : Host.Outcome State Fault Refusal :=
  whenever (fun s => s.eng.ticking && (sinkGet s k.val).landed && !(sinkGet s k.val).done)
    (fun s =>
      let t := detectSink k.val s
      match sinkLimiter s k.val with
      | some l =>
        if (limiterGet s l).present then sinkMod t k.val (fun q => { q with done := true })
        else finishSink k.val 0 (sinkGet s k.val).word t
      | none => finishSink k.val 0 (sinkGet s k.val).word t) s

/-! ## Limiters (R132) -/

/-- A delay store of L words: what is missing is 0 (R131). -/
def delayWords (q : Sink) (look : Nat) : List (BitVec 32) :=
  List.replicate (look - q.delay.length) 0 ++ q.delay.drop (q.delay.length - look)

/-- The required gain of a word in 10^-6 dB; `up` decides the last place of its level. -/
def requiredGain (threshold : Int) (up : Bool) (w : Nat) : Int :=
  if w = 0 then 0 else min 0 (threshold * 10000 - dbMicro w 27 - flag up)

/-- N_A of R132. -/
def attackPeriods (attack hz : Nat) : Nat := max 1 ((2 * attack * hz + 100000) / 200000)

/-- One step of a limiter's gain over its window, pairs of k_w and r_w. -/
def limiterGain (q : Limiter) (hz : Nat) (up : Bool) (win : List (Nat × Int)) : Int :=
  let na := attackPeriods q.attack hz
  let short := decide (na ≤ q.lookahead + 1)
  let g := q.gain
  let props := (win.filter (fun x => decide (x.2 < g) && (!short || decide (x.1 ≤ na)))).map (fun x =>
    let d : Int := if short then x.1 else (x.1 : Int) + na - q.lookahead - 1
    g + (x.2 - g) / d + flag (up && (x.2 - g) % d != 0))
  match props with
  | p :: r => r.foldl min p
  | [] => if win.all (fun x => decide (g ≤ x.2)) then riseGain g (leastGain (win.map (·.2))) q.release hz up else g

/-- G_t after `j` more periods of its spread (R135). -/
def gtAhead (q : Protect) (j : Nat) : Int :=
  if q.gtN = 0 then q.gtNow
  else q.gtStart + divNear ((q.gt * 10000 - q.gtStart) * (min (q.gtK + j) q.gtN : Nat)) q.gtN

/-- G_x after `j` more periods: while it falls it is free between the present gain and the one that the window needs
(R136); `d` is a free figure, `up` decides the last place. -/
def gxAhead (q : Protect) (hz j : Nat) (up : Bool) (d : BitVec 32) : Int :=
  let need := leastGain (q.exc.map (excursionGain q.xMax))
  if j = 0 then q.gx
  else if need < q.gx then need + (d.toNat % ((q.gx - need).toNat + 1) : Nat)
  else (List.range j).foldl (fun g _ => riseGain g need 100 hz up) q.gx

/-- The magnitude of a word of the window that stands `j` places before the newest, after the protection gains that
will apply to it when it leaves a delay of `look` periods (R132, step 1). -/
def guardedWord (s : State) (k look j : Nat) (up : Bool) (d : BitVec 32) (w : Word) : Nat :=
  match sinkProtect s k with
  | some i =>
    let q := protectGet s i
    if q.present && q.enabled then
      (bandGain (lowBand q j) w.toInt (gxAhead q (fabricHz s) (look - j) up d) (gtAhead q (look - j))).natAbs
    else w.toInt.natAbs
  | none => w.toInt.natAbs

/-- A limiter's step at the end of the period's work, and the completion of its sinks. -/
def limiterStep (s : State) (l : Nat) : State :=
  let q := limiterGet s l
  let ks := (limiterSinks s l).filter (fun k => (sinkGet s k).landed && (sinkGet s k).done)
  if !q.present || ks.isEmpty then s
  else
    let u := drawRound s
    let win := ks.flatMap (fun k =>
      let ws := delayWords (sinkGet s k) q.lookahead ++ [(sinkGet s k).word]
      (List.range ws.length).map (fun i => (i + 1, requiredGain q.threshold u.1
        (guardedWord s k q.lookahead (q.lookahead - i) u.1 (Config.reading (s.free + 1 + 400 * k + i)) (ws.getD i 0)))))
    let g := if q.enabled then limiterGain q (fabricHz s) u.1 win else 0
    let t := limiterMod { u.2 with free := s.free + 1 + 400 * 256 } l (fun q => { q with
      gain := g, stepped := true
      largest := (List.range 5).foldl (fun m c => tset 0 m c (max (tget 0 m c) (reductionOf g))) q.largest })
    ks.foldl (fun t k =>
      let ws := delayWords (sinkGet t k) q.lookahead ++ [(sinkGet t k).word]
      sinkMod (finishSink k g (ws.headD 0) t) k (fun x => { x with delay := ws.drop 1 })) t

/-- Limiters with a sink in the Near bank. -/
def boundLimiters (s : State) : List Nat :=
  ((limWords s.cs.near).filter (fun x => !x.2.1)).foldl (fun r x => withElem x.2.2 r) []

def limitersStep (s : State) : State := (boundLimiters s).foldl limiterStep s

end Sys2Proof.Machine
end

