-- ==== Sys2Proof/Machine/Tick.lean ====
section
/-! DEFINITION. The fabric-period tick (R13) and faults of fetched words (R107, R108). -/

namespace Sys2Proof.Machine

/-! ## The period that ends -/

/-- A lane that is abandoned for want of time (R105, R106): it has neither ended nor stopped on a fault. -/
def laneAbandoned (s : State) (l : Nat) : Bool := !(laneGet s l).ended && !(laneGet s l).faulted

/-- Lanes that add to OVERRUN for this period (R106); one that is stopped on a fault adds nothing. -/
def overrunLanes (s : State) : List Nat :=
  (List.range 8).filter (fun l => !(laneGet s l).faulted && (laneAbandoned s l
    || s.eng.sinks.any (fun x => x.2.landed && !x.2.done && x.2.lane == l)))

/-- The period that ends is an overrun period (R106). -/
def overrunPeriod (s : State) : Bool :=
  (List.range 8).any (laneAbandoned s) || s.eng.sinks.any (fun x => x.2.landed && !x.2.done)

/-- ENGINE_OVERRUN at the first overrun period, then no more than once per 10 ms (R106, Table 5-10). -/
def postEngineOverrun (s : State) : State :=
  let due := match s.eng.overrunAt with
    | none => true
    | some t => decide (t + ceilDiv (fabricHz s) 100 ≤ s.eng.period)
  if due then
    post 0x0480 s.eng.overrunLanes 0 s.eng.overruns .none
      { s with
        hull := { s.hull with span := { s.hull.span with flags := s.hull.span.flags ||| 4 } }
        eng := { s.eng with overruns := 0, overrunLanes := 0, overrunAt := some s.eng.period } }
  else s

/-- R106: an overrun period, and the lanes that add to their counters. -/
def countOverruns (s : State) : State :=
  if !overrunPeriod s then s
  else
    let ls := overrunLanes s
    let s1 := ls.foldl (fun t l => laneMod t l (fun a => { a with overrun := min (a.overrun + 1) 0xFFFFFFFF })) s
    postEngineOverrun { s1 with
      hull := { s1.hull with span := { s1.hull.span with overrun := min (s1.hull.span.overrun + 1) 0xFFFF } }
      eng := { s1.eng with
        overruns := min (s1.eng.overruns + 1) 0xFFFFFFFF
        overrunLanes := s1.eng.overrunLanes ||| maskOf ls
        overrunTotal := s1.eng.overrunTotal + 1 } }

/-- PERIOD_COUNT starts at 0 at the first tick after reset (R109), and what counts within 10 s grows older (R108, R211). -/
def nextPeriod (s : State) : State :=
  { s with
    out := { s.out with overcurrents := ageTimes s s.out.overcurrents }
    eng := { s.eng with
      started := true, period := if s.eng.started then s.eng.period + 1 else 0, faults := ageTimes s s.eng.faults } }

/-- Ramps of f advance (R113). -/
def stepRoute (r : RouteRamp) : RouteRamp :=
  if r.n = 0 ∨ r.n < r.k then r else { r with k := r.k + 1, present := gainRamp r.start r.target (r.k + 1) r.n }

/-- A ramp of f that this tick starts, over 1 ms (R113). -/
def latchRoute (n : Nat) (r : RouteRamp) : RouteRamp :=
  match r.pend with
  | none => r
  | some up =>
    let target := if up then unity else 0
    { r with start := r.present, target := target, k := 1, n := n, pend := none, present := gainRamp r.present target 1 n }

def routePeriods (s : State) : Nat := ceilDiv (fabricHz s) 1000

def mapRoutes (f : RouteRamp → RouteRamp) (s : State) : State :=
  { s with eng := { s.eng with ramps := tmapKeys RouteRamp.steady s.eng.ramps (fun _ r => f r) } }

/-! ## What the tick latches (R15, beat 0 (b)) -/

/-- A slot's value in the new period (R117, R118). -/
def latchSlot (s : State) (k : Nat) (q : Slot) : Slot :=
  let ramp := if slotKind s k = 1 then positionRamp else gainRamp
  match q.pending with
  | some (target, ms, _) =>
    let n := periodsOfMs s ms
    if n = 0 then { q with present := target, k := 0, n := 0, pending := none }
    else { q with start := q.present, k := 1, n := n, pending := none, present := ramp q.present target 1 n }
  | none => if q.n = 0 ∨ q.n < q.k then q else { q with k := q.k + 1, present := ramp q.start q.target (q.k + 1) q.n }

def latchSlots (s : State) : State :=
  { s with par := { s.par with slots := tmapKeys Slot.reset s.par.slots (latchSlot s) } }

/-- A section's selection in the new period (R126, R127). -/
def advanceSection (q : Section) : Section :=
  match q.sel with
  | some f => if f.latched then { q with sel := some { f with k := f.k + 1 } } else latchSelection q f
  | none => q

/-- A section at the tick: written banks, a queued selection whose predecessor was instant, and the selection. -/
def latchSectionAt (s : State) (k : Nat) : State :=
  let q := sectionGet s k
  let s1 := sectionMod s k (fun q =>
    { q with bankA := q.pendA.getD q.bankA, bankB := q.pendB.getD q.bankB, pendA := none, pendB := none })
  if q.sel.isNone && q.queued.isSome then startQueued k s1 else sectionMod s1 k advanceSection

/-- A change of D0 in the new period (R129). -/
def advanceLine (q : DelayLine) : DelayLine :=
  match q.sel with
  | some f => if f.latched then { q with sel := some { f with k := f.k + 1 } } else latchDelay q f
  | none => q

def latchLineAt (s : State) (k : Nat) : State :=
  let q := lineGet s k
  if q.sel.isNone && q.queued.isSome then startQueuedDelay k s else lineMod s k advanceLine

/-- LIMITER_SET takes force (R142). -/
def latchLimiter (q : Limiter) : Limiter :=
  match q.pending with
  | some (f, t, a, r) =>
    { q with enabled := bit f 0, threshold := t, attack := a, release := r, pending := none, stepped := false }
  | none => { q with stepped := false }

/-- G_t moves linearly in dB over its spread (R135). -/
def advanceGt (q : Protect) : Protect :=
  if q.gtK < q.gtN then
    { q with gtK := q.gtK + 1
             gtNow := q.gtStart + divNear ((q.gt * 10000 - q.gtStart) * ((q.gtK : Int) + 1)) q.gtN }
  else q

/-- Everything of chapter 6 that a tick latches or advances. -/
def tickParams (s : State) : State :=
  let s1 := latchSlots s
  let s2 := (s1.par.sections.map (·.1)).foldl latchSectionAt s1
  let s3 := (s2.par.lines.map (·.1)).foldl latchLineAt s2
  { s3 with par := { s3.par with
      limiters := tmapKeys Limiter.absent s3.par.limiters (fun _ q => latchLimiter q)
      protects := tmapKeys Protect.absent s3.par.protects (fun _ q => advanceGt (latchProtect q))
      meters := tmapKeys Meter.absent s3.par.meters (fun _ q => if q.present then { q with age := q.age + 1 } else q)
      clipPos := s3.par.clipPos + 1 } }

/-- Clocks, convoys, capture, outputs, serial ports, streams and exposures at the tick. -/
def tickPorts (s : State) : State :=
  let s1 := mapRoutes (latchRoute (routePeriods s)) s
  let s2 := (List.range 4).foldl tickOutput s1
  let s3 := toggleRates s2 (tickClocks s2)
  let s4 := (convoysOf s3.cs.near).foldl tickConvoy ((convoysOf s3.cs.near).foldl gatherConvoy s3)
  let s5 := tickRelay ((List.range 16).foldl tickCapture s4)
  let s6 := (List.range 6).foldl tickSai s5
  tickGptp (auxFabricTick (tickMeas (tickCrf (tickCrf s6 1) 2)))

/-! ## Berths -/

/-- Beat 0 (c): the halves exchange (R13, R88). A source bound to a port whose word did not land reads a free word,
unless its writer rests at 0. -/
def exchangeHalves (s : State) : State :=
  let read := fun (a : Nat) => match tget none s.eng.landing a with
    | some w => w
    | none => if restsAtZero s a then 0 else Config.reading (s.free + a)
  { s with
    eng := { s.eng with
      working := (sourceWriters s.cs.near).foldl (fun t a => tset 0 t a (read a)) [], landing := [] }
    free := s.free + 256 }

/-- What a sink gives to egress (R90, R105, Table 5-8): this period's output, the previous one again, or 0 where
nothing writes it. A chain-lane sink keeps what its route last gave. -/
def egressOf (bank : Bank) (k : Nat) (x : Sink) : Word :=
  if x.done then x.out
  else if bankWrites bank (256 + k) || bank.routes.any (fun r => r.2.enabled && r.2.sink == 256 + k) then x.egress
  else 0

/-- Beat 0 (d) for one sink: a port in the fabric domain takes the word through its FIFO (R11), whose fill of 2 is set
at the port's first tick. -/
def scatterSink (bank : Bank) (ports sais : List Nat) (fill : List Word) (k : Nat) (x : Sink) : Sink :=
  let chained := bank.routes.any (fun r => r.2.enabled && r.2.sink == 256 + k)
  let w := egressOf bank k x
  let y := { x with landed := false, done := false }
  if 256 + k ∈ ports then
    let z := { y with fifo := some (y.fifo.getD fill) }
    if chained then { z with egress := w } else pushEgress (decide (256 + k ∈ sais)) w z
  else { y with egress := w, fifo := none }

/-- R11: the ingress FIFOs of ports in the fabric domain that have none yet are set to a fill of 2. -/
def setIngress (s : State) : State :=
  let bare := (fdSourcesOn s.cs.near).filter (fun a => tget none s.eng.ingress a == none)
  let filled := bare.foldl
    (fun t a => tset none t a (some [Config.reading (s.free + 2 * a), Config.reading (s.free + 2 * a + 1)])) s.eng.ingress
  { s with eng := { s.eng with ingress := filled }, free := s.free + 512 }

/-- A member of an egress convoy takes its channels' words: a BYPASS convoy into its FIFO (R150, R164), another into the rate
stage, as fabric words under the convoy's mute (R155, R156). -/
def scatterMember (k : Nat) (s : State) (m : Nat) : State :=
  let e := nearConvoy s k
  let words := (List.range (memberOf e m).2.2).map (fun c => (sinkGet s (u16 e 40 + channelsBefore e m + c - 256)).egress)
  if (memGet s k m).st = 0 then s
  else if convoyBypass e then sampleArrives k m 0 words s
  else
    let f := (portFormat s (memberOf e m).1 (memberOf e m).2.1).1
    memMod s k m (pushHist (words.map (fun w => (portWord f w).1)) (muteFactor (convGet s k)))

/-- Beat 0 (d): egress scatter of the words completed in the period that `bank` ran. -/
def scatter (bank : Bank) (s : State) : State :=
  let ports := fdSinks (portsOn s.cs.near)
  let sais := fdSaiSinks (portsOn s.cs.near)
  let keys := ports.foldl (fun r a => withElem (a - 256) r) (s.eng.sinks.map (·.1))
  let fill := fun (k : Nat) => [Config.reading (s.free + 2 * k), Config.reading (s.free + 2 * k + 1)]
  let s0 := { s with free := s.free + 512 }
  let s1 := keys.foldl (fun t k => sinkMod t k (scatterSink bank ports sais (fill k) k)) s0
  ((convoysOf s1.cs.near).filter (fun k => convoyEgress (nearConvoy s1 k))).foldl
    (fun t k => (List.range (convoyMembers (nearConvoy t k))).foldl (scatterMember k) t) s1

/-- Beat 1: every lane starts at word 0 with its accumulators at 0 (R94, R100). -/
def startLanes (s : State) : State :=
  (List.range 8).foldl (fun t l => laneMod t l (fun a =>
    { a with pos := 0, ended := false, faulted := false, wait := none, a0 := 0, a1 := 0, a2 := 0, a3 := 0 })) s

/-- R76: a gate that has stepped, or had no time to ramp, ends its transition at this tick. -/
def settleGates (s : State) : State :=
  ((List.range 64).filter (fun n => ((ovGet s n).st ∈ [2, 4, 6]) && gateSettled s n && (slotGet s (gateSlot s n)).n == 0)).foldl
    (fun t n => concludeOverlay n t) s

/-- R13, R105: the tick. -/
def fabricTick (s : State) : State :=
  let s1 := nextPeriod (limitersStep s)
  let s2 := countOverruns s1
  let s3 := (List.range 4).foldl stepOutput (mapRoutes stepRoute s2)
  let bank := s3.cs.near
  let s4 := tickPorts (tickParams (swapNow s3))
  let s5 := startLanes (setIngress (scatter bank (exchangeHalves s4)))
  tickSelect (variantStep (settleGates s5))

def execFabricTick (s : State) : Host.Outcome State Fault Refusal := whenever (fun s => s.eng.ticking) fabricTick s

/-! ## Word fetch faults (R107, R108) -/

/-- Outputs, ports and aux DAC go to their fault states, and the tick stops until a reset (R108, Table 9-7). -/
def haltEngine (s : State) : State :=
  let s1 := phyReset true (serialFault (stopTick { s with eng := { s.eng with halted := true } }))
  auxFollow ((List.range 4).foldl (fun t o => faultOutput o 6 t) s1)

/-- ENGINE_FAULT (Table 5-10). Healthy time in PROBATION restarts (R423). -/
def postEngineFault (l word cause count : Nat) (s : State) : State :=
  post 0x0481 l 0 (word + 65536 * cause + 16777216 * min count 255) .none
    { s with fw := { s.fw with healthy := 0 } }

/-- R108: the rebuild goes before every other load, and a load in progress restarts after it. -/
def askRebuild (s : State) : State :=
  match s.cs.load with
  | some l =>
    if l.what = .rebuild then s
    else { s with cs := { s.cs with load := none, loads := .rebuild :: l.what :: s.cs.loads } }
  | none => if .rebuild ∈ s.cs.loads then s else { s with cs := { s.cs with loads := .rebuild :: s.cs.loads } }

/-- The lane stops at the word it fetches; the word's first fault is posted and starts the rebuild, and a third
fault in 10 s halts the engine instead. -/
def fetchFault (l : Nat) (s : State) : State :=
  let pos := (laneGet s l).pos
  let addr := l * 1024 + pos
  let reserved := !opcodeKnown (wordOp (bankWord s.cs.near l pos))
  let near := if reserved then s.cs.near else { s.cs.near with parity := withElem addr s.cs.near.parity }
  let s1 := laneMod { s with cs := { s.cs with near := near } } l (fun a =>
    { a with faulted := true, faultWord := pos, faultSince := true })
  if addr ∈ s.eng.faultedWords then s1
  else
    let fs := recentTimes s s.eng.faults ++ [(0, false)]
    let s2 := { s1 with free := s1.free + 1, eng := { s1.eng with faults := fs, faultedWords := withElem addr s1.eng.faultedWords } }
    if 3 ≤ fs.length then postEngineFault l pos 3 fs.length (haltEngine s2)
    else askRebuild (postEngineFault l pos (if reserved then 1 else 2) fs.length s2)

/-- R107: the lane fetches a word with a reserved opcode or a parity error. That a word's parity has failed is the
outside's to say. -/
def execWordFetchFault (l : Fin 8) (s : State) : Host.Outcome State Fault Refusal :=
  whenever (fun s => laneRuns s l.val) (fetchFault l.val) s

end Sys2Proof.Machine
end

