-- ==== Sys2Proof/Machine/Charts.lean ====
section
/-! DEFINITION. Chart slots: information, the write session, selection and reading (R71, R72, R85, R86, R455).
SET_VARIANT stands with the speed margin. -/

namespace Sys2Proof.Machine

def chartSlot (s : State) (n : Nat) : ChartSlot := if n = 0 then s.cs.slotA else s.cs.slotB

def setChartSlot (s : State) (n : Nat) (f : ChartSlot → ChartSlot) : State :=
  if n = 0 then { s with cs := { s.cs with slotA := f s.cs.slotA } } else { s with cs := { s.cs with slotB := f s.cs.slotB } }

/-- A slot holds the chart in force. -/
def slotInUse (s : State) (n : Nat) : Bool := s.cs.chart.isSome && s.cs.inUse == n

/-- A slot that may not be written (R72): the one in use, and the one that a CHART_SELECT "now" under way puts in
use. -/
def slotBarred (s : State) (n : Nat) : Bool := slotInUse s n || (s.cs.select.map (fun q => q.slot == n)).getD false

/-- Bytes of a chart in a slot: 512 KiB less the slot record (R67, Table 4-6a). -/
def slotBytes : Nat := 524272

/-! ## CHART_INFO -/

def chartInfoCheck (p : List Byte) (_ : State) : Option Nat :=
  firstRefusal [(decide (1 < u8 p 0) && u8 p 0 != 0xFF, stBadParam)]

/-- The overlays of the chart in force that are not INACTIVE. -/
def overlaysOn (s : State) : Nat := maskBy 64 (fun n => (ovGet s n).st != 0)

/-- Table 4-11. Where a slot holds no valid chart, what the table reports of a chart is open, and so is the running
state of a chart that does not run (log entry 60). -/
def chartInfoResult (p : List Byte) (s : State) : List Byte :=
  let n := if u8 p 0 = 0xFF then s.cs.inUse else u8 p 0
  let q := chartSlot s n
  let none_ := u8 p 0 == 0xFF && s.cs.chart.isNone
  let held := q.state == 0x3C && !none_
  let c := readChart q.chartBytes
  let fig := fun (k x : Nat) => if held then x else openValue s k
  let run := fun (k x : Nat) => if slotInUse s n then x else openValue s k
  b1 (if none_ then openValue s 0 else q.state) ++ b1 (flag (slotInUse s n)) ++ b2 (fig 1 c.format) ++ b4 (fig 2 c.chartId)
    ++ b4 (fig 3 c.revision) ++ b4 (fig 4 q.generation) ++ b1 (fig 5 c.rate) ++ b1 (fig 6 c.ovs.length)
    ++ b1 (fig 7 c.bindings) ++ b1 (run 8 (flag s.cs.reduced)) ++ b8 (run 9 (overlaysOn s)) ++ b4 (fig 10 c.requiredSi)
    ++ b4 (fig 11 c.reducedSi) ++ b2 s.fw.running.chartMin ++ b2 s.fw.running.chartMax

def execChartInfo (o : Issue) (p : List Byte) (s : State) : Host.Outcome State Fault Refusal :=
  hostCommand 0x0301 o p (chartInfoCheck p) (reads (chartInfoResult p)) s

/-! ## The write session (R72, R85) -/

def chartWriteOpenCheck (p : List Byte) (s : State) : Option Nat :=
  firstRefusal
    [(decide (1 < u8 p 0) || decide (slotBytes < u32 p 4), stBadParam),
     (slotBarred s (u8 p 0), stWrongState)]

/-- The slot is erased from here on, and its session opens when it is (log entry 61). -/
def chartWriteOpenDo (o : Issue) (p : List Byte) (log : Nat) (s : State) : Done :=
  let s1 := setChartSlot { s with cs := { s.cs with session := none } } (u8 p 0) (fun _ => ChartSlot.erased)
  queuedDone (askNvm (.chartErase { ctx := o.ctx, log := log } (u8 p 0) (u32 p 4)) s1)

def execChartWriteOpen (o : Issue) (p : List Byte) (s : State) : Host.Outcome State Fault Refusal :=
  hostCommand 0x0309 o p (chartWriteOpenCheck p) (chartWriteOpenDo o p) s

/-- The issuer has the session. -/
def writesChart (s : State) (c : Ctx) : Bool := (s.cs.session.map (fun w => w.owner == c)).getD false

def chartWriteDataCheck (o : Issue) (p : List Byte) (s : State) : Option Nat :=
  match s.cs.session with
  | none => some stWrongState
  | some w => firstRefusal
      [(w.owner != o.ctx, stWrongState),
       (u32 p 0 != w.written, stBadParam),
       (decide (w.length < w.written + (p.length - 8)), stBadLength)]

def chartWriteDataDo (p : List Byte) (_ : Nat) (s : State) : Done :=
  match s.cs.session with
  | none => ok s
  | some w =>
    let d := p.drop 8
    let n := w.written + d.length
    let s1 := setChartSlot s w.slot (fun q =>
      { q with bytes := (List.range d.length).foldl (fun t k => tset 0xFF t (w.written + k) (d.getD k 0)) q.bytes })
    okWith (b4 n) { s1 with cs := { s1.cs with session := some { w with written := n } } }

def execChartWriteData (o : Issue) (p : List Byte) (s : State) : Host.Outcome State Fault Refusal :=
  hostCommand 0x030A o p (chartWriteDataCheck o p) (chartWriteDataDo p) s

def chartWriteCloseCheck (o : Issue) (s : State) : Option Nat := firstRefusal [(!writesChart s o.ctx, stWrongState)]

/-- R72: the chart is checked as R70 does, and the slot record written accordingly. -/
def chartWriteCloseDo (o : Issue) (log : Nat) (s : State) : Done :=
  match s.cs.session with
  | none => ok s
  | some w =>
    let st := ((chartFailure s (chartSlot s w.slot).chartBytes).map failureStatus).getD stOk
    queuedDone (askNvm (.chartClose { ctx := o.ctx, log := log } w.slot st)
      { s with cs := { s.cs with session := none } })

def execChartWriteClose (o : Issue) (p : List Byte) (s : State) : Host.Outcome State Fault Refusal :=
  hostCommand 0x030B o p (chartWriteCloseCheck o) (chartWriteCloseDo o) s

/-- The erase of a later CHART_WRITE_OPEN waits. -/
def eraseWaits (s : State) : Bool := s.fw.jobs.any (fun j => match j with
  | .chartErase _ _ _ => true
  | _ => false)

/-- The erase of CHART_WRITE_OPEN is done: STATE is writing, and the session is open, unless a later
CHART_WRITE_OPEN has ended it (R85). The slot's GENERATION is 0 until a CHART_SELECT gives it one (DESIGN CHOICE, log entry
122). -/
def chartEraseDone (w : Waiter) (slot length : Nat) (s : State) : State :=
  let s1 := setChartSlot s slot (fun _ => { ChartSlot.erased with state := 0x5A, length := length })
  complete w stOk { s1 with cs := { s1.cs with
    session := if isOpen s (ctxNum w.ctx) && !eraseWaits s then some { owner := w.ctx, slot := slot, length := length, written := 0 }
      else none } }

/-- CHART_WRITE_CLOSE is over (R72, R85, Table 4-12): the slot is valid, or invalid where the close failed. A slot
that a later CHART_WRITE_OPEN has erased stays so. -/
def chartCloseDone (w : Waiter) (slot status : Nat) (s : State) : State :=
  let s1 := setChartSlot s slot (fun q =>
    if q.state = 0x5A then { q with state := if status = stOk then 0x3C else 0x00 } else q)
  complete w status (post 0x0306 slot w.log status .none s1)

/-! ## CHART_SELECT (R86) and CHART_READ -/

def chartSelectCheck (p : List Byte) (s : State) : Option Nat :=
  firstRefusal
    [(decide (1 < u8 p 0) || decide (1 < u8 p 1), stBadParam),
     ((chartSlot s (u8 p 0)).state != 0x3C, stWrongState),
     (u8 p 1 == 1 && s.cs.select.isSome, stWrongState)]

/-- R86: the slot's GENERATION becomes one more than the other slot's. -/
def selectSlot (n : Nat) (s : State) : State :=
  setChartSlot s n (fun q => { q with generation := ((chartSlot s (1 - n)).generation + 1) % 2 ^ 32 })

def chartSelectDo (o : Issue) (p : List Byte) (log : Nat) (s : State) : Done :=
  let s1 := selectSlot (u8 p 0) s
  if u8 p 1 = 0 then ok s1
  else
    queuedDone (beginSelect (u8 p 0) (readChart (chartSlot s1 (u8 p 0)).chartBytes) { ctx := o.ctx, log := log } s1)

def execChartSelect (o : Issue) (p : List Byte) (s : State) : Host.Outcome State Fault Refusal :=
  hostCommand 0x030C o p (chartSelectCheck p) (chartSelectDo o p) s

def chartReadCheck (p : List Byte) (_ : State) : Option Nat :=
  firstRefusal [(decide (1 < u8 p 0) || u16 p 8 == 0 || decide (1016 < u16 p 8)
    || decide (slotBytes < u32 p 4 + u16 p 8), stBadParam)]

def chartReadResult (p : List Byte) (s : State) : List Byte := tblBytes (chartSlot s (u8 p 0)).bytes (u32 p 4) (u16 p 8)

def execChartRead (o : Issue) (p : List Byte) (s : State) : Host.Outcome State Fault Refusal :=
  hostCommand 0x030D o p (chartReadCheck p) (reads (chartReadResult p)) s

end Sys2Proof.Machine
end

