-- ==== Sys2Proof/Machine/Margin.lean ====
section
/-! DEFINITION. The speed monitors, the margin and its actions, class-D stress, the accounting of the hull log's
present span, and SET_VARIANT (R83, R387-R393, R397). -/

namespace Sys2Proof.Machine

/-! ## Margin (R387, R388) -/

/-- The requirement of a monitor in 0.01 M ops/s (Table 17-1); `full` takes REQUIRED_SI whatever variant runs. -/
def requirement (s : State) (full : Bool) (m : Nat) : Nat :=
  if 10 < m then 20000
  else
    match s.cs.chart with
    | some c => if s.cs.reduced && !full then c.reducedSi else c.requiredSi
    | none => 0

/-- SI / REQ of a monitor in 0.001, rounded down; SI in 0.1 M ops/s. -/
def monitorMargin (s : State) (full : Bool) (si : List Nat) (m : Nat) : Nat :=
  let r := requirement s full m
  if r = 0 then 0xFFFF else min (si.getD m 0 * 10000 / r) 0xFFFF

/-- The smallest margin over the 14 monitors, and the first monitor that gives it. -/
def marginOf (s : State) (full : Bool) (si : List Nat) : Nat × Nat :=
  (List.range 14).foldl (fun b m =>
    let x := monitorMargin s full si m
    if x < b.1 then (x, m) else b) (0xFFFF, 0)

/-- The smallest margin of the last 10 intervals. -/
def windowMargin (s : State) (full : Bool) : Nat :=
  (s.hull.sis.map (fun si => (marginOf s full si).1)).foldl min 0xFFFF

/-! ## Normalised speed (R393) -/

/-- S0 in 0.01 M ops/s, KV in 0.001 /V, KT in ppm/°C, as the factory left them. -/
def s0 : Nat := (Config.factory 0).toNat
def kv : Nat := (Config.factory 1).toNat % 65536
def kt : Nat := (Config.factory 2).toNat % 65536

/-- (1 + KV (V − 0.80 V)) in 10^−6 and (1 − KT (T − 85 °C)) in 10^−7; V in mV, T in 0.1 °C. -/
def speedAtV (mv : Nat) : Int := 1000000 + kv * ((mv : Int) - 800)
def speedAtT (t : Int) : Int := 10000000 - kt * (t - 850)

/-- SI_N in 0.1 M ops/s, its last place free. -/
def siNorm (si mv : Nat) (t : Int) (up : Bool) : Nat :=
  let d := speedAtV mv * speedAtT t
  if d ≤ 0 then 0xFFFF else min (si * 10 ^ 13 / d.toNat + flag up) 0xFFFF

/-- The smallest SI_N of an interval and its monitor. -/
def slowest (free : Nat) (si : List Nat) (mv : Nat) (t : Int) : Nat × Nat :=
  (List.range 14).foldl (fun b m =>
    let x := siNorm (si.getD m 0) mv t (Config.roundUp (free + m))
    if x < b.1 then (x, m) else b) (0xFFFF, 0)

/-! ## Accounting (R395, R397) -/

/-- The states in which power-on time accrues and the margin rules act, SLEEP apart (R391, R395). -/
def accounts (s : State) : Bool := s.pwr.dev ∈ [Dev.active, Dev.doze, Dev.test, Dev.recovery]

def accountSpan (si : List Nat) (t20 : Int) (mv margin : Nat) (s : State) : State :=
  let n := slowest s.free si mv t20
  let s1 := { s with free := s.free + 14 }
  spanMod s1 (fun q => { q with
    intervals := q.intervals + 1, flags := q.flags ||| flag s.cs.reduced
    vcore := max q.vcore s.pwr.vcore, siMin := min q.siMin n.1, limit := if n.1 < q.siMin then n.2 else q.limit
    siSum := q.siSum + n.1, marginMin := min q.marginMin margin, tjMax := max q.tjMax t20, tjSum := q.tjSum + t20 })

/-- 2^((T − 85 °C) / 10 °C) × 2^80, T in 0.1 °C. -/
def stressFactor (t : Int) : Nat :=
  let e := t - 850
  let k := (e / 100).toNat
  let f := (e % 100).toNat
  let frac := if f = 0 then 2 ^ 80 else 2 * expNeg ((100 - f) * 837963523372001241319908 / 100)
  if 0 ≤ e then frac * 2 ^ k else frac / 2 ^ (-(e / 100)).toNat

/-- µA·ms in one mA·h, and the rating of 400,000 A·h in µA·ms. -/
def stressUnit : Nat := 3600000000
def stressRating : Nat := 400000000 * stressUnit

/-- R397: the interval's stress, its last place free, and CLASSD_STRESS at 50 %, 80 % and 100 %. -/
def accountStress (t21 : Int) (microamps : Nat) (s : State) : State :=
  if !(spkSwitching s 0 || spkSwitching s 1) then s
  else
    let d := drawRound s
    let x := microamps * stressFactor t21 / 2 ^ 80 + flag d.1
    let total := d.2.hull.stress + x
    let s1 := spanMod { d.2 with hull := { d.2.hull with stress := total } } (fun q => { q with stress := q.stress + x })
    [50, 80, 100].foldl (fun t k =>
      if stressRating * k ≤ total * 100 ∧ t.hull.stressPosted < k then
        post 0x0D0A 0 0 k .none { t with hull := { t.hull with stressPosted := k } }
      else t) s1

/-! ## The actions of Table 17-2 (R390) -/

/-- One VCORE step of 10 mV (R367). -/
def stepVcore (v : Nat) (s : State) : State :=
  let old := s.pwr.vcore
  post 0x0D05 0 0 (v + 256 * old + 65536 * s.hull.window) .none
    { s with pwr := { s.pwr with vcore := v }, hull := { s.hull with sinceStep := 0 } }

/-- The first two rows: 0.92 V is code 20, 0.80 V code 8. -/
def actVcore (s : State) : State :=
  let v := s.pwr.vcore
  if s.hull.window < 1300 ∧ v < 20 ∧ 20 ≤ s.hull.sinceStep then stepVcore (v + 1) s
  else if 60000 ≤ s.hull.since145 ∧ 8 < v ∧ s.cs.reduced = false ∧ 60000 ≤ s.hull.sinceStep then stepVcore (v - 1) s
  else s

/-- SPEED_REPLAN (Table 17-7). -/
def postReplan (outcome log : Nat) (s : State) : State :=
  post 0x0D06 s.hull.limiting log (outcome + 65536 * s.hull.window) .none s

/-- The re-plan rows, on the VCORE before a step of this interval. -/
def actReplan (v : Nat) (s : State) : State :=
  if 1150 ≤ s.hull.window ∨ v ≠ 20 ∨ s.cs.reduced = true then s
  else
    let outcome := if 10 < s.hull.limiting then 3 else if (s.cs.chart.map (·.hasReduced)).getD false then 1 else 2
    if outcome = 1 then { s with hull := { s.hull with replanDue := s.hull.replanDue || s.cs.change.isNone } }
    else if s.hull.replanPosted then s
    else postReplan outcome 0 { s with hull := { s.hull with replanPosted := true } }

/-- The last row: SPEED_RISK. -/
def actRisk (margin : Nat) (s : State) : State :=
  if 1020 ≤ margin then s
  else
    let s1 := { s with hull := { s.hull with
      riskCount := min (s.hull.riskCount + 1) 0xFFFF, riskMin := min s.hull.riskMin margin } }
    if s1.hull.sinceRisk < 10000 then s1
    else
      spanMod (post 0x0D07 s1.hull.limiting 0 (s1.hull.riskMin + 65536 * s1.hull.riskCount) .none
        { s1 with hull := { s1.hull with sinceRisk := 0, riskCount := 0, riskMin := 0xFFFF } })
        (fun q => { q with flags := q.flags ||| 8 })

/-- A count of intervals that a condition restarts. -/
def countUp (keep : Bool) (n top : Nat) : Nat := if keep then min (n + 1) top else 0

/-- The margin of the interval that ends, and the counts the rows look at. -/
def noteMargin (m : Nat × Nat) (s : State) : State :=
  let w := windowMargin s false
  let h := s.hull
  let since115 := countUp (decide (1150 ≤ w)) h.since115 60000
  { s with hull := { h with
      window := w, limiting := m.2, sinceStep := min (h.sinceStep + 1) 60000
      since145 := countUp (decide (1450 ≤ w)) h.since145 60000, since115 := since115
      replanPosted := h.replanPosted && decide (since115 < 60000)
      since102 := countUp (decide (1020 ≤ m.1)) h.since102 10000
      sinceRisk := min (h.sinceRisk + 1) 10000
      smallest := tmodAll 0xFFFF h.smallest [0, 1, 2, 3, 4] (fun _ x => min x m.1) } }

/-- R388, R390: the interval ends. With no chart there is no margin. -/
def actMargin (si : List Nat) (s : State) : State :=
  if s.cs.chart.isNone then s
  else
    let m := marginOf s false si
    let s1 := noteMargin m s
    actRisk m.1 (actReplan s.pwr.vcore (actVcore s1))

/-- Healthy time of PROBATION, in ms (R423). -/
def healthyMs (s : State) : State :=
  if s.fw.probation && (s.pwr.dev ∈ [Dev.active, Dev.doze]) then
    { s with fw := { s.fw with healthy := s.fw.healthy + 1 } }
  else s

/-- What the 1 ms interval brings, outside a CP absence (Table 18-7). -/
def marginInterval (si : List Nat) (t20 t21 : Int) (mv microamps : Nat) (s : State) : State :=
  let s1 := { s with hull := { s.hull with sis := (si :: s.hull.sis).take 10, vcoreMv := mv } }
  if s.host.absent || !accounts s then s1
  else
    let margin := if s.cs.chart.isSome then (marginOf s1 false si).1 else 0xFFFF
    healthyMs (actMargin si (accountStress t21 microamps (accountSpan si t20 mv margin s1)))

/-- R387: the monitors run except in OFF, POR and SLEEP. -/
def execMarginInterval (si : List Nat) (t20 t21 : Int) (vcoreMv spkMicroamps : Nat) (s : State) :
    Host.Outcome State Fault Refusal :=
  whenever (fun s => !(s.pwr.dev ∈ [Dev.off, Dev.por, Dev.sleep]))
    (marginInterval ((List.range 14).map (fun m => si.getD m 0)) t20 t21 vcoreMv spkMicroamps) s

/-! ## The re-plan and SET_VARIANT -/

/-- R391: the re-plan runs after the command in progress, under a log number. -/
def execReplan (s : State) : Host.Outcome State Fault Refusal :=
  whenever (fun s => cpRuns s && replanReady s)
    (fun s => startVariant true 1 s.host.log none (postReplan 1 s.host.log (takeLog s))) s

/-- R83: the window margin with REQUIRED_SI must be shown to be 1.30 or more. -/
def fullAllowed (s : State) : Bool := !decide (s.hull.sis = []) && decide (1300 ≤ windowMargin s true)

/-- R83. A variant is refused with WRONG_STATE while a CHART_SELECT now runs too (DESIGN CHOICE, log entry 94). -/
def setVariantCheck (p : List Byte) (s : State) : Option Nat :=
  firstRefusal
    [(decide (1 < u8 p 0), stBadParam),
     (s.cs.change.isSome || s.cs.select.isSome, stWrongState),
     (u8 p 0 == 1 && !((s.cs.chart.map (·.hasReduced)).getD false), stNoCapacity),
     (u8 p 0 == 0 && s.cs.reduced && !fullAllowed s, stWrongState)]

def setVariantDo (o : Issue) (p : List Byte) (log : Nat) (s : State) : Done :=
  if u8 p 0 = flag s.cs.reduced then ok s
  else queuedDone (startVariant (u8 p 0 == 1) 0 log (some { ctx := o.ctx, log := log }) s)

def execSetVariant (o : Issue) (p : List Byte) (s : State) : Host.Outcome State Fault Refusal :=
  hostCommand 0x0308 o p (setVariantCheck p) (setVariantDo o p) s

/-! ## SPEED_STATUS -/

/-- Table 17-6. Without a chart there is no margin, and what goes with one is open. -/
def speedStatusResult (n : Nat) (s : State) : List Byte :=
  let h := s.hull
  let c := s.cs.chart.isSome
  let si := h.sis.headD []
  let last := !decide (h.sis = [])
  b2 (if c then h.window else 0xFFFF) ++ b1 (if c then h.limiting else openValue s 0) ++ b1 s.pwr.vcore
    ++ b2 (if last then h.vcoreMv else openValue s 1) ++ b1 (flag s.cs.reduced)
    ++ b1 (flag h.replanFlag.isSome + 2 * flag (decide (h.since102 < 10000)))
    ++ b4 (if c then requirement s false 0 else openValue s 2)
    ++ (List.range 14).flatMap (fun m => b2 (if last then si.getD m 0 else openValue s (3 + m)))
    ++ b2 (tget 0xFFFF h.smallest n) ++ zeros 2

def speedStatusDo (o : Issue) (_ : Nat) (s : State) : Done :=
  let n := ctxNum o.ctx
  okWith (speedStatusResult n s) { s with hull := { s.hull with smallest := tset 0xFFFF s.hull.smallest n 0xFFFF } }

def execSpeedStatus (o : Issue) (p : List Byte) (s : State) : Host.Outcome State Fault Refusal :=
  hostCommand 0x0D03 o p noCheck (speedStatusDo o) s

end Sys2Proof.Machine
end

