-- ==== Sys2Proof/Machine/Hull.lean ====
section
/-! DEFINITION. The hull log: its records, the summary, the end-of-life prediction, and their commands (R394-R396,
R399-R402). -/

namespace Sys2Proof.Machine

/-! ## Records (R395, Table 17-5) -/

/-- A quotient whose last place is free, draw k of the step. -/
def openDiv (s : State) (k x d : Nat) : Nat := x / d + flag (x % d != 0 && Config.roundUp (s.free + k))
def openDivInt (s : State) (k : Nat) (x : Int) (d : Nat) : Int :=
  x / (d : Int) + flag (x % (d : Int) != 0 && Config.roundUp (s.free + k))

/-- SI_INVALID: the monitors ran for too few minutes. -/
def siInvalid (kind monitored : Nat) : Bool := decide (monitored < if kind = 1 then 5 else 60)

/-- The hourly record of the span that ends. Without a single interval its means are open, and so is TJ_MAX where no warning
has recorded one (R383). -/
def hourlyRecord (s : State) : HullRecord :=
  let q := s.hull.span
  let m := q.intervals / 60000
  let some_ := decide (0 < q.intervals)
  { whole := true, kind := 1, flags := q.flags % 16 + 16 * flag (siInvalid 1 m), vcore := q.vcore, limit := q.limit
    endHour := s.hull.hours, siMin := q.siMin
    siMean := if some_ then openDiv s 0 q.siSum q.intervals else openValue s 0 % 65536
    marginMin := q.marginMin, tjMax := if some_ || decide (-400 < q.tjMax) then q.tjMax else signed 16 (openValue s 1 % 65536)
    tjMean := if some_ then openDivInt s 1 q.tjSum q.intervals else signed 16 (openValue s 2 % 65536)
    stress := openDiv s 2 q.stress stressUnit, brown := q.brown, overrun := q.overrun, monitored := m }

/-- The sum over records of a figure, each counted for the minutes it was monitored. -/
def weighed (rs : List HullRecord) (f : HullRecord → Int) : Int := (rs.map (fun r => f r * r.monitored)).foldl (· + ·) 0

/-- An interval of the record's span was monitored, so that it has figures of its own. -/
def measured (r : HullRecord) : Bool := r.siMin != 0xFFFF || decide (0 < r.monitored)

/-- A daily (kind 2) or weekly (kind 3) record combines the records it covers. -/
def combine (s : State) (kind : Nat) (rs : List HullRecord) : HullRecord :=
  let total := (rs.map (·.monitored)).foldl (· + ·) 0
  let si := (rs.map (·.siMin)).foldl min 0xFFFF
  let hot := (rs.filter measured).map (·.tjMax)
  let add := fun (f : Nat × Nat × Nat → Nat) => min ((rs.map (fun r => f r.brown)).foldl (· + ·) 0) 255
  { whole := true, kind := kind
    flags := (rs.map (fun r => r.flags % 16)).foldl (· ||| ·) 0 + 16 * flag (siInvalid kind total)
    vcore := (rs.map (·.vcore)).foldl max 0
    limit := ((rs.find? (fun r => r.siMin == si)).map (·.limit)).getD 0
    endHour := s.hull.hours, siMin := si
    siMean := if total = 0 then openValue s 3 % 65536 else (openDivInt s 3 (weighed rs (fun r => r.siMean)) total).toNat
    marginMin := (rs.map (·.marginMin)).foldl min 0xFFFF
    tjMax := if hot = [] then signed 16 (openValue s 5 % 65536) else hot.foldl max (-400)
    tjMean := if total = 0 then signed 16 (openValue s 4 % 65536) else openDivInt s 4 (weighed rs (fun r => r.tjMean)) total
    stress := (rs.map (·.stress)).foldl (· + ·) 0
    brown := (add (·.1), add (·.2.1), add (·.2.2))
    overrun := min ((rs.map (·.overrun)).foldl (· + ·) 0) 0xFFFF, monitored := total }

/-- A ring and its capacity: 1 hourly, 2 daily, 3 weekly (Table 17-4), newest first. -/
def ringOf (s : State) (kind : Nat) : List HullRecord :=
  if kind = 1 then s.hull.hourly else if kind = 2 then s.hull.daily else s.hull.weekly

/-- The records of a ring; one that fails its CRC is skipped (R398). -/
def hullRing (s : State) (kind : Nat) : List HullRecord := (ringOf s kind).filter (·.whole)
def ringSize (kind : Nat) : Nat := if kind = 1 then 1024 else if kind = 2 then 2048 else 512

/-- Records of a kind that wait for their write, newest first. -/
def waitingRecords (s : State) (kind : Nat) : List HullRecord :=
  (s.fw.jobs.filterMap (fun j => match j with
    | .hullRecord r => if r.kind = kind then some r else none
    | _ => none)).reverse

/-- The last n records of a kind, written or waiting. -/
def lastRecords (s : State) (kind n : Nat) : List HullRecord := (waitingRecords s kind ++ hullRing s kind).take n

/-- A record is written into its ring, which replaces its oldest when full (R394). -/
def recordWritten (r : HullRecord) (s : State) : State :=
  let l := (r :: ringOf s r.kind).take (ringSize r.kind)
  let p := tset 0 s.hull.ringPlaces r.kind ((tget 0 s.hull.ringPlaces r.kind + 1) % ringSize r.kind)
  let h := { s.hull with ringPlaces := p }
  if r.kind = 1 then { s with hull := { h with hourly := l } }
  else if r.kind = 2 then { s with hull := { h with daily := l, predictDue := h.predictDue || r.whole } }
  else { s with hull := { h with weekly := l } }

/-- After every 24 hourly records a daily one, after every 7 daily records a weekly one. -/
def dailyDue (s : State) : State :=
  if s.hull.sinceDaily < 24 then s
  else
    let s1 := askNvm (.hullRecord (combine s 2 (lastRecords s 1 24)))
      { s with hull := { s.hull with sinceDaily := 0, sinceWeekly := s.hull.sinceWeekly + 1 } }
    if s1.hull.sinceWeekly < 7 then s1
    else
      askNvm (.hullRecord (combine s1 3 (lastRecords s1 2 7))) { s1 with hull := { s1.hull with sinceWeekly := 0 } }

/-- R395: a whole hour of power-on time. -/
def hullHour (s : State) : State :=
  let s1 := { s with hull := { s.hull with hours := s.hull.hours + 1 } }
  let s2 := askNvm (.hullRecord (hourlyRecord s1))
    { s1 with hull := { s1.hull with span := HullSpan.start, sinceDaily := s1.hull.sinceDaily + 1 } }
  let s3 := askSummary (dailyDue s2)
  { s3 with free := s3.free + 8 }

def execHullHourly (s : State) : Host.Outcome State Fault Refusal :=
  whenever (fun s => !s.host.absent && (accounts s || s.pwr.dev == .sleep)) hullHour s

/-! ## The summary (R396) -/

/-- A summary copy is written: it holds the lifetime figures as they stand. -/
def summaryWritten (horizon : Option Nat) (s : State) : State :=
  let h := { s.hull with horizon := horizon.getD s.hull.horizon }
  let copy : HullStored :=
    { seq := (storedHull h).seq + 1, hours := h.hours, stress := h.stress, brownCounts := h.brownCounts, vcore := s.pwr.vcore
      replanFlag := h.replanFlag, horizon := h.horizon, erases := h.erases }
  { s with hull := if summaryTarget h = 0 then { h with sumA := some copy } else { h with sumB := some copy } }

/-- Table 17-6. -/
def hullSummaryResult (s : State) : List Byte :=
  let h := s.hull
  b4 h.hours ++ b4 (openDiv s 0 h.stress stressUnit) ++ b2 (openDiv s 1 (h.stress * 10000) stressRating)
    ++ b1 (storedHull h).vcore ++ b1 (flag h.restarted)
    ++ b4 (tget 0 h.brownCounts 0) ++ b4 (tget 0 h.brownCounts 1) ++ b4 (tget 0 h.brownCounts 2)
    ++ b4 s0 ++ b2 kv ++ b2 kt
    ++ (List.range 8).flatMap (fun r => b2 (min (regionErases h.erases r) 0xFFFF))
    ++ b4 h.horizon

def execHullSummary (o : Issue) (p : List Byte) (s : State) : Host.Outcome State Fault Refusal :=
  hostCommand 0x0D04 o p noCheck (reads hullSummaryResult) s

/-! ## HULL_READ -/

def recordBody (r : HullRecord) : List Byte :=
  b1 r.kind ++ b1 r.flags ++ b1 r.vcore ++ b1 r.limit ++ b4 r.endHour ++ b2 r.siMin ++ b2 r.siMean ++ b2 r.marginMin
    ++ sb2 r.tjMax ++ sb2 r.tjMean ++ b4 r.stress ++ b1 r.brown.1 ++ b1 r.brown.2.1 ++ b1 r.brown.2.2 ++ zeros 1
    ++ b2 r.overrun ++ b2 r.monitored

def hullRecordBytes (r : HullRecord) : List Byte := recordBody r ++ b2 (crc16 (recordBody r))

def hullReadCheck (p : List Byte) (_ : State) : Option Nat :=
  firstRefusal [(decide (2 < u8 p 0) || u8 p 1 == 0 || decide (31 < u8 p 1), stBadParam)]

def hullReadResult (p : List Byte) (s : State) : List Byte :=
  let l := ((hullRing s (1 + u8 p 0)).drop (u16 p 2)).take (u8 p 1)
  b1 l.length ++ zeros 3 ++ l.flatMap hullRecordBytes

def execHullRead (o : Issue) (p : List Byte) (s : State) : Host.Outcome State Fault Refusal :=
  hostCommand 0x0D05 o p (hullReadCheck p) (reads (hullReadResult p)) s

/-! ## The prediction (R399) -/

/-- A point: END_HOUR, SI_MIN_N in 0.01 M ops/s, weight. -/
def allPoints (s : State) : List (Nat × Nat × Nat) :=
  let valid := fun (r : HullRecord) => !bit r.flags 4
  let first := ((hullRing s 2).getLast?.map (·.endHour)).getD 0
  ((hullRing s 2).filter valid).map (fun r => (r.endHour, r.siMin * 10, 1))
    ++ (((hullRing s 3).filter (fun r => valid r && decide (r.endHour < first))).map (fun r => (r.endHour, r.siMin * 10, 7)))

/-- Step 2: points whose d is below 0.5 M ops/s are left out. -/
def usedPoints (s : State) : List (Nat × Nat × Nat) := (allPoints s).filter (fun q => decide (q.2.1 + 50 ≤ s0))

/-- 2^(z / 2^40) × 2^16. -/
def exp2Q16 (z : Int) : Nat :=
  let k := z / 2 ^ 40
  let f := (z % 2 ^ 40).toNat
  let m := if f = 0 then 2 ^ 80 else 2 * expNeg ((2 ^ 40 - f) * 837963523372001241319908 / 2 ^ 40)
  if 0 ≤ k then m * 2 ^ (min k 64).toNat / 2 ^ 64 else m / 2 ^ (64 + min (-k).toNat 128)

def sumOf (l : List (Nat × Nat × Nat)) (f : Nat × Nat × Nat → Int) : Int := (l.map (fun q => f q * q.2.2)).foldl (· + ·) 0

/-- Step 4: the slope n and log2 A of the weighted least-squares line, in 2^−40. -/
def fitLine (l : List (Nat × Nat × Nat)) : Int × Int :=
  let x := fun (q : Nat × Nat × Nat) => ((log2Q40 q.1 : Nat) : Int)
  let y := fun (q : Nat × Nat × Nat) => ((log2Q40 (s0 - q.2.1) : Nat) : Int)
  let w := sumOf l (fun _ => 1)
  let sx := sumOf l x
  let sy := sumOf l y
  let num := w * sumOf l (fun q => x q * y q) - sx * sy
  let den := w * sumOf l (fun q => x q * x q) - sx * sx
  let n := clampInt (2 ^ 40 / 10) (2 ^ 40 * 6 / 10) (num * 2 ^ 40 / den)
  (n, (sy * 2 ^ 40 - n * sx) / (w * 2 ^ 40))

/-- Step 5: σ in 0.01 M ops/s × 2^16. -/
def fitSigma (l : List (Nat × Nat × Nat)) (fit : Int × Int) : Nat :=
  let dev := fun (q : Nat × Nat × Nat) =>
    ((q.2.1 : Int) - s0) * 65536 + exp2Q16 (fit.2 + fit.1 * (log2Q40 q.1 : Nat) / 2 ^ 40)
  Nat.sqrt (sumOf l (fun q => dev q * dev q) / sumOf l (fun _ => 1)).toNat

/-- T_P: the highest TJ_MAX of the daily records of the last 30 days. -/
def hottest (s : State) : Int :=
  (((hullRing s 2).filter (fun r => decide (s.hull.hours < r.endHour + 720))).map (·.tjMax)).foldl max (-400)

/-- Step 6: SI_T in 0.01 M ops/s. -/
def siTarget (s : State) : Nat :=
  let r := max 20000 ((s.cs.chart.map (·.requiredSi)).getD 0)
  let d := speedAtV 920 * speedAtT (hottest s)
  if d ≤ 0 then 0xFFFFFFFF else openDiv s 0 (11 * r * 10 ^ 12) d.toNat

/-- Step 7: the hour at which S0 − y reaches x, in 0.01 M ops/s × 2^16; not before the present. -/
def hourOf (s : State) (k : Nat) (fit : Int × Int) (x : Int) : Nat :=
  if x ≤ 0 then s.hull.hours
  else
    let z := (((log2Q40 x.toNat : Nat) : Int) - 16 * 2 ^ 40 - fit.2) * 2 ^ 40 / fit.1
    max s.hull.hours (min (openDiv s k (exp2Q16 z) 65536) 0xFFFFFFFF)

/-- Steps 3 to 8. -/
def predict (s : State) : Prediction :=
  let l := usedPoints s
  let ts := l.map (·.1)
  let out := { Prediction.noData with points := l.length }
  if l.length < 30 ∨ ts.foldl max 0 - ts.foldl min 0xFFFFFFFF < 720 then
    { out with st := if (allPoints s).length < 30 then 0 else 2 }
  else
    let fit := fitLine l
    let sigma := fitSigma l fit
    let target := siTarget s
    let x := ((s0 : Int) - target) * 65536
    let band := ((sigma * 1645 / 1000 : Nat) : Int)
    let hour := hourOf s 1 fit x
    { st := if s.hull.hours + 175200 < hour then 2 else 1, points := l.length, hour := hour
      early := hourOf s 2 fit (x - band), late := hourOf s 3 fit (x + band)
      n := openDiv s 4 (fit.1.toNat * 1000) (2 ^ 40), sigma := openDiv s 5 sigma 65536, tp := hottest s, target := target }

/-- R399, R400: the recomputation, and HULL_HORIZON. -/
def recompute (s : State) : State :=
  let q := predict s
  let s1 := { s with hull := { s.hull with prediction := q, predictDue := false }, free := s.free + 8 }
  let ahead := q.early - s.hull.hours
  if q.n = 0 then s1
  else if s.hull.horizon + 720 < ahead then { s1 with hull := { s1.hull with horizonArmed := true } }
  else if q.st = 1 ∧ ahead ≤ s.hull.horizon ∧ s.hull.horizonArmed = true then
    post 0x0D08 0 0 ahead .none { s1 with hull := { s1.hull with horizonArmed := false } }
  else s1

def execHullPredictionRecompute (s : State) : Host.Outcome State Fault Refusal :=
  whenever (fun s => s.hull.predictDue && !s.host.absent && accounts s) recompute s

/-- Table 17-6. Where no line was fitted, what goes with one is open. -/
def hullPredictResult (s : State) : List Byte :=
  let q := s.hull.prediction
  let fitted := q.n != 0
  let hour := fun (x : Nat) => b4 (if q.st = 1 then x else 0xFFFFFFFF)
  b1 q.st ++ zeros 1 ++ b2 q.points ++ b4 s.hull.hours ++ hour q.hour ++ hour q.early ++ hour q.late
    ++ b2 (if fitted then q.n else openValue s 0) ++ b2 (if fitted then q.sigma else openValue s 1)
    ++ (if fitted then sb2 q.tp else b2 (openValue s 2)) ++ zeros 2 ++ b4 (if fitted then q.target else openValue s 3)

def execHullPredict (o : Issue) (p : List Byte) (s : State) : Host.Outcome State Fault Refusal :=
  hostCommand 0x0D06 o p noCheck (reads hullPredictResult) s

/-! ## HULL_SET_HORIZON and HULL_FLUSH: answered once the summary is written (R401) -/

def hullSetHorizonCheck (p : List Byte) (_ : State) : Option Nat :=
  firstRefusal [(decide (u32 p 0 < 720) || decide (87600 < u32 p 0), stBadParam)]

def hullSetHorizonRun (o : Issue) (p : List Byte) (log : Nat) (s : State) : State :=
  askNvm (.hullSummary (.reply o 0x0D07 log) (some (u32 p 0))) s

def execHullSetHorizon (o : Issue) (p : List Byte) (s : State) : Host.Outcome State Fault Refusal :=
  .next (hostTake 0x0D07 o p (hullSetHorizonCheck p) (hullSetHorizonRun o p) s)

def hullFlushRun (o : Issue) (log : Nat) (s : State) : State := askNvm (.hullSummary (.reply o 0x0D08 log) none) s

def execHullFlush (o : Issue) (p : List Byte) (s : State) : Host.Outcome State Fault Refusal :=
  .next (hostTake 0x0D08 o p noCheck (hullFlushRun o) s)

end Sys2Proof.Machine
end

