-- ==== Sys2Proof/Machine/Settings.lean ====
section
/-! DEFINITION. The settings store (R425-R430): what a copy holds, its saving, its use at a start, and its
commands. -/

namespace Sys2Proof.Machine

def settingsCopy (s : State) (n : Nat) : SettingsCopy := if n = 0 then s.fw.copyA else s.fw.copyB

def setCopyOf (s : State) (n : Nat) (c : SettingsCopy) : State :=
  if n = 0 then { s with fw := { s.fw with copyA := c } } else { s with fw := { s.fw with copyB := c } }

/-! ## What a save captures (R427, Table 18-10) -/

/-- A slot or section of the base chart, outside every overlay's reservation. -/
def outsideOverlays (c : Chart) (r k : Nat) : Bool := !c.ovs.any (fun n => c.reserves n r k)

def baseInstances (c : Chart) (kind r : Nat) : List Nat :=
  (c.base.filter (fun e => e.kind == kind && outsideOverlays c r e.inst)).map (·.inst)

def wordBytes (l : List (BitVec 32)) : List Byte := l.flatMap (fun w => b4 w.toNat)

/-- The present target values of a kind. -/
def settingsItems (s : State) (kind : Nat) : List SettingsItem :=
  let item := fun (i : Nat) (d : List Byte) => ({ kind := kind, index := i, data := d } : SettingsItem)
  match kind, s.cs.chart with
  | 1, some c => ((baseInstances c 2 2).filter (fun k => slotKind s k != 2)).map (fun k =>
      let q := tget Slot.reset s.par.slots k
      item k (b4 q.target.toNat ++ b2 q.rampMs ++ zeros 2))
  | 2, some _ => ((List.range 8).filter (capInChart s)).map (fun i =>
      let q := capGet s i
      item i (b1 (q.pgaPending.getD q.pgaTarget) ++ zeros 3))
  | 3, some c => (baseInstances c 3 3).map (fun k =>
      let q := sectionGet s k
      let toB := match q.queued with | some r => r.toB | none => countsActive q
      item k (wordBytes (q.pendA.getD q.bankA) ++ wordBytes (q.pendB.getD q.bankB) ++ b1 (flag toB) ++ zeros 7))
  | 4, some _ => ((List.range 16).filter (capInChart s)).map (fun i =>
      let q := capGet s i
      item i (sb2 (q.trimPending.getD q.trim) ++ zeros 2))
  | 5, some _ => [0, 1].map (fun j =>
      item j (b1 (buttonDebounce s j) ++ zeros 1 ++ (buttonLimits s j).flatMap b2 ++ zeros 2))
  | 6, _ => [item 0 (b1 s.net.gptp.priority1 ++ b1 s.net.gptp.priority2 ++ zeros 2 ++ sb4 s.net.gptp.asymmetry)]
  | 7, _ => [item 0 (b4 (flag s.fw.autoConfirm))]
  | _, _ => []

/-- The items of the kinds that a mask names, bit k − 1 for KIND k. -/
def capturedItems (s : State) (mask : Nat) : List SettingsItem :=
  ((List.range 7).filter (bit mask)).flatMap (fun k => settingsItems s (k + 1))

/-- The target copy is written and in force (R427). With no chart in use its CHART_ID is open. -/
def copyWritten (items : List SettingsItem) (s : State) : State :=
  let n := saveTarget s
  let seq := (s.fw.setSeq + 1) % 2 ^ 32
  let s1 := setCopyOf s n
    { valid := true, format := s.fw.running.settingsFormat, sequence := seq
      chartId := match s.cs.chart with | some c => c.chartId | none => openValue s 0
      items := items }
  { s1 with fw := { s1.fw with setCopy := n, setSeq := seq, setState := 0 }, free := s1.free + 1 }

/-- Both copies are erased, and a retention ends (R430). -/
def copiesErased (s : State) : State :=
  { s with fw := { s.fw with
      copyA := SettingsCopy.absent, copyB := SettingsCopy.absent, setState := 3, setCopy := 0xFF, fallback := false } }

/-! ## At a start (R428, R429) -/

/-- The candidate: the valid copy with the higher SEQUENCE. -/
def candidate (s : State) : Option Nat :=
  match s.fw.copyA.valid, s.fw.copyB.valid with
  | false, false => none
  | true, false => some 0
  | false, true => some 1
  | true, true => some (flag (decide (s.fw.copyA.sequence < s.fw.copyB.sequence)))

/-- An item names something of the chart and holds a value that its command would take. -/
def itemFits (s : State) (it : SettingsItem) : Bool :=
  let d := it.data
  match it.kind, s.cs.chart with
  | 1, some c => chartHas s 2 it.index && outsideOverlays c 2 it.index && slotKind s it.index != 2
  | 2, some _ => decide (it.index < 8) && capInChart s it.index && decide (u8 d 0 ≤ 96)
  | 3, some c => chartHas s 3 it.index && outsideOverlays c 3 it.index
      && polesInside (coefsAt d 0) && polesInside (coefsAt d 20)
  | 4, some _ => decide (it.index < 16) && capInChart s it.index && decide (-1024 ≤ s16 d 0) && decide (s16 d 0 ≤ 1024)
  | 5, some _ => decide (it.index < 2)
  | 6, _ => it.index == 0
  | 7, _ => it.index == 0
  | _, _ => false

/-- R428: gPTP and options always apply, the other items only under the chart of the save. -/
def itemApplies (s : State) (copy : SettingsCopy) (it : SettingsItem) : Bool :=
  itemFits s it && (decide (6 ≤ it.kind) || s.cs.chart.map (·.chartId) == some copy.chartId)

/-- An item takes effect without a ramp. -/
def applyItem (s : State) (it : SettingsItem) : State :=
  let d := it.data
  match it.kind with
  | 1 =>
    let w := BitVec.ofNat 32 (u32 d 0)
    slotMod s it.index (fun _ => { Slot.reset with target := w, present := w, rampMs := u16 d 4 })
  | 2 => capMod s it.index (fun q => { q with pga := u8 d 0, pgaTarget := u8 d 0, pgaPending := none })
  | 3 => sectionMod s it.index (fun q =>
      { q with bankA := coefsAt d 0, bankB := coefsAt d 20, activeB := u8 d 40 == 1 })
  | 4 => capMod s it.index (fun q => { q with trim := s16 d 0, trimOld := s16 d 0, trimPending := none })
  | 5 => jackMod s it.index (fun q =>
      { q with debounceMs := u8 d 0, u0 := u16 d 2, u1 := u16 d 4, u2 := u16 d 6, u3 := u16 d 8 })
  | 6 => gptpMod s (fun g => { g with priority1 := u8 d 0, priority2 := u8 d 1, asymmetry := s32 d 4 })
  | 7 => { s with fw := { s.fw with autoConfirm := bit (u8 d 0) 0 } }
  | _ => s

def applyCopy (copy : SettingsCopy) (s : State) : State :=
  let good := copy.items.filter (itemApplies s copy)
  let s1 := good.foldl applyItem s
  { s1 with fw := { s1.fw with applied := good.length, skipped := copy.items.length - good.length } }

/-- SETTINGS_FALLBACK (Table 18-13). -/
def postFallback (copy cause format : Nat) (s : State) : State :=
  post 0x0E02 copy 0 (cause + 65536 * format) (.res [0x0A00]) s

/-- SETTINGS_LOAD: the candidate is applied, migrated or retained (R428, R429). Automatic confirmation is
suppressed while a fallback of cause 1 is in force, and after a CHART_MISSING of this start (R423). -/
def settingsLoad (s : State) : State :=
  let seq := max (if s.fw.copyA.valid then s.fw.copyA.sequence else 0) (if s.fw.copyB.valid then s.fw.copyB.sequence else 0)
  let s0 := { s with fw := { s.fw with
    setSeq := seq, applied := 0, skipped := 0, autoConfirm := true, fallback := false, fallbackCause := 0
    suppressed := s.cs.missing } }
  match candidate s0 with
  | none =>
    postFallback 0xFF 2 0 { s0 with fw := { s0.fw with setState := 3, setCopy := 0xFF, fallbackCause := 2 } }
  | some n =>
    let c := settingsCopy s0 n
    let r := s0.fw.running
    if c.format = r.settingsFormat then
      applyCopy c { s0 with fw := { s0.fw with setState := 0, setCopy := n } }
    else if r.settingsMin ≤ c.format ∧ c.format < r.settingsFormat then
      applyCopy c { s0 with fw := { s0.fw with setState := 1, setCopy := n } }
    else
      postFallback n 1 c.format
        { s0 with fw := { s0.fw with setState := 2, setCopy := n, fallback := true, fallbackCause := 1, suppressed := true } }

/-- The firmware's own options as a start would read them (R421). -/
def loadOptions (s : State) : State :=
  let found := (candidate s).bind (fun n =>
    let c := settingsCopy s n
    if s.fw.running.settingsMin ≤ c.format ∧ c.format ≤ s.fw.running.settingsFormat then
      c.items.find? (fun it => it.kind == 7)
    else none)
  { s with fw := { s.fw with autoConfirm := match found with | some it => bit (u8 it.data 0) 0 | none => true } }

/-! ## Commands -/

/-- R33 for the settings store. -/
def settingsOwned (o : Issue) (s : State) : Bool := canChange s o.ctx 0x0A00

def settingsStatusResult (s : State) : List Byte :=
  let f := s.fw
  let c := settingsCopy s f.setCopy
  let fig := fun (k x : Nat) => if f.setCopy = 0xFF then openValue s k else x
  b1 f.setState ++ b1 f.setCopy ++ b2 (fig 0 c.format) ++ b4 (fig 1 c.sequence) ++ b4 (fig 2 c.chartId) ++ b2 f.applied
    ++ b2 f.skipped ++ b2 f.running.settingsFormat ++ b2 f.running.settingsMin

def execSettingsStatus (o : Issue) (p : List Byte) (s : State) : Host.Outcome State Fault Refusal :=
  hostCommand 0x0E08 o p noCheck (reads settingsStatusResult) s

def settingsSaveCheck (o : Issue) (p : List Byte) (s : State) : Option Nat :=
  firstRefusal [(decide (127 < u8 p 0), stBadParam), (!settingsOwned o s, stNotOwner),
    (s.fw.probation || s.fw.setState == 2, stWrongState)]

def settingsSaveDo (o : Issue) (p : List Byte) (log : Nat) (s : State) : Done :=
  queuedDone (askNvm (.settingsSave { ctx := o.ctx, log := log } (capturedItems s (u8 p 0))) s)

def execSettingsSave (o : Issue) (p : List Byte) (s : State) : Host.Outcome State Fault Refusal :=
  hostCommand 0x0E09 o p (settingsSaveCheck o p) (settingsSaveDo o p) s

def settingsDiscardOldCheck (o : Issue) (s : State) : Option Nat :=
  firstRefusal [(!settingsOwned o s, stNotOwner), (s.fw.setState != 2, stWrongState)]

def settingsEraseDo (o : Issue) (log : Nat) (s : State) : Done :=
  queuedDone (askNvm (.settingsErase { ctx := o.ctx, log := log }) s)

def execSettingsDiscardOld (o : Issue) (p : List Byte) (s : State) : Host.Outcome State Fault Refusal :=
  hostCommand 0x0E0A o p (settingsDiscardOldCheck o) (settingsEraseDo o) s

def settingsEraseCheck (o : Issue) (s : State) : Option Nat :=
  firstRefusal [(!settingsOwned o s, stNotOwner), (s.fw.setState == 2, stWrongState)]

def execSettingsErase (o : Issue) (p : List Byte) (s : State) : Host.Outcome State Fault Refusal :=
  hostCommand 0x0E0B o p (settingsEraseCheck o) (settingsEraseDo o) s

end Sys2Proof.Machine
end

