-- ==== Sys2Proof/Machine/Firmware.lean ====
section
/-! DEFINITION. The firmware image and update sessions: the commands of group 0x0E that concern them, confirmation
and keys (R406-R417, R423, R424). -/

namespace Sys2Proof.Machine

/-! ## Block 0 (Table 18-3) -/

def blockCount (b : List Byte) : Nat := u16 b 16

def imageInfo (b : List Byte) : ImageInfo :=
  { fwVersion := u32 b 8, security := u32 b 12, keySlot := u8 b 18, reloadNow := u8 b 19, chartMin := u16 b 20
    chartMax := u16 b 22, settingsFormat := u16 b 24, settingsMin := u16 b 26, gangwayFormat := u16 b 28
    gangwayMin := u16 b 30, revoke := u8 b 32 }

def blockEntry (b : List Byte) (k : Nat) : Nat := u32 b (128 + 4 * k)

/-- Check 1 of Table 18-5. -/
def headerShape (b : List Byte) : Bool :=
  u32 b 0 == 0x4D494E4B && u16 b 4 == 1 && u32 b 124 == crc32c (b.take 124) && decide (2 ≤ blockCount b)
    && decide (blockCount b ≤ 383) && zeroAt b 33 3 && zeroAt b 40 84 && zeroAt b 1660 4 && zeroAt b 1728 2368

def vendorKey (s : State) (n : Nat) : Option (Nat × Nat) :=
  if n < 4 then (s.fw.keys.find? (fun e => e.1 == n)).map (·.2) else none

/-- Check 2. -/
def headerKey (s : State) (b : List Byte) : Bool :=
  (vendorKey s (u8 b 18)).isSome && !bit s.fw.revoked (u8 b 18) && !bit (u8 b 32) (u8 b 18)

/-- R407: the signature over bytes 0 to 1,663. -/
def signatureHolds (s : State) (b : List Byte) : Bool :=
  match vendorKey s (u8 b 18) with
  | some k => ecdsaValid k (sha256 (b.take 1664)) (beN b 1664 32) (beN b 1696 32)
  | none => false

/-- Check 5: the image runs the chart in use; skipped without a chart and in HARBOUR. -/
def headerChart (s : State) (b : List Byte) : Bool :=
  match s.cs.chart with
  | some c => s.pwr.dev == .harbour || (decide (u16 b 20 ≤ c.format) && decide (c.format ≤ u16 b 22))
  | none => true

/-- R412: the first check that fails gives the status. -/
def headerCheck (s : State) (b : List Byte) : Option Nat :=
  firstRefusal
    [(!headerShape b, stBadParam), (!headerKey s b, stVersionRejected), (!signatureHolds s b, stVersionRejected),
     (decide (u32 b 12 < s.fw.counter), stVersionRejected), (!headerChart s b, stVersionRejected)]

/-! ## Shared steps -/

def fwMod (s : State) (f : FwState → FwState) : State := { s with fw := f s.fw }
def sessMod (s : State) (f : Session → Session) : State := fwMod s (fun w => { w with session := f w.session })

/-- FW_STATE (Table 18-13). -/
def postFwState (cause log : Nat) (s : State) : State :=
  post 0x0E01 0 log (s.fw.session.st + 256 * flag s.fw.probation + 65536 * cause) (.res [0x0B00]) s

/-- The log number behind a request. -/
def askerLog (a : Asker) : Nat :=
  match a with
  | .own => 0
  | .host w => w.log
  | .reply _ _ log => log
  | .dfu _ => 0

/-- bStatus of a DFU request whose write or verification ends with a status (Table 18-11, DFU 1.1). -/
def dfuCode (verify : Bool) (status : Nat) : Nat := if status = stOk then 0 else if verify then 7 else 3

/-- A port in DFU mode hears of the end: dfuDNLOAD-IDLE after a block, dfuIDLE after manifestation, else dfuERROR. -/
def dfuDone (p : Nat) (verify : Bool) (status : Nat) (s : State) : State :=
  usbMod s p (fun u => { u with
    dfuStatus := dfuCode verify status, dfuState := if status ≠ stOk then 10 else if verify then 2 else 5
    manifested := u.manifested || (verify && status == stOk), handshake := 0 })

/-- Who asked hears of the end; `data` is the result data of a reply that waited (R431). -/
def finishAsk (a : Asker) (verify : Bool) (status : Nat) (data : List Byte) (s : State) : State :=
  match a with
  | .own => s
  | .host w => complete w status s
  | .reply o op log => placeReply (ctxNum o.ctx) (replyTo op o status log data) s
  | .dfu p => dfuDone p verify status s

/-- Who asks with a command: it waits for COMMAND_DONE, or in HARBOUR for its reply (R431). -/
def askerOf (o : Issue) (op log : Nat) (s : State) : Asker :=
  if s.pwr.dev = .harbour then .reply o op log else .host { ctx := o.ctx, log := log }

/-- An accepted command that is answered QUEUED, or in HARBOUR when it is done. -/
def deferred (op : Nat) (o : Issue) (log : Nat) (result : List Byte) (s : State) : State :=
  if s.pwr.dev = .harbour then s
  else placeReply (ctxNum o.ctx) (replyTo op o stQueued log result) s

/-- R33 for firmware update, which is shared in HARBOUR (R431). -/
def fwOwned (c : Ctx) (s : State) : Bool := s.pwr.dev == .harbour || canChange s c 0x0B00

/-- The session belongs to the context (R411). -/
def fwHolds (c : Ctx) (s : State) : Bool := s.fw.session.owner == some c

/-! ## FW_STATUS and FW_BEGIN -/

/-- FW_VERSION in the image region. -/
def regionVersion (s : State) : Nat :=
  match s.fw.image.blocks.find? (fun e => e.1 == 0) with
  | some e => u32 e.2 8
  | none => s.fw.running.fwVersion

def fwStatusResult (s : State) : List Byte :=
  let f := s.fw
  let i := f.image
  b1 f.session.st
    ++ b1 (flag f.probation + 2 * flag i.dlDone + 4 * flag i.verified + 8 * flag i.confirmed + 16 * flag f.autoConfirm
        + 32 * flag f.suppressed)
    ++ b1 (match f.session.owner with | some c => ctxNum c | none => 0xFF)
    ++ b1 (if s.pwr.dev = .harbour then s.pwr.harbourCause else 0)
    ++ b4 f.running.fwVersion ++ b4 f.running.security ++ b4 f.counter
    ++ b2 (if f.session.header = [] then openValue s 0 else blockCount f.session.header)
    ++ b2 f.session.written.length ++ b2 f.session.firstBad ++ b2 (min (f.healthy / 1000) 0xFFFF) ++ b4 (regionVersion s)
    ++ b1 f.counterLeft ++ b1 (if f.gangwayOutcome = 0xFF then openValue s 1 else f.gangwayOutcome) ++ zeros 2

def execFwStatus (o : Issue) (p : List Byte) (s : State) : Host.Outcome State Fault Refusal :=
  hostCommand 0x0E01 o p noCheck (reads fwStatusResult) s

/-- A session that nobody owns any more also gives way to FW_BEGIN (Table 18-4). -/
def fwBeginAllowed (s : State) : Bool :=
  (s.fw.session.st ∈ [0, 6]) || (s.fw.session.owner.isNone && s.fw.session.st != 4)

def fwBeginCheck (o : Issue) (s : State) : Option Nat :=
  firstRefusal [(!fwOwned o.ctx s, stNotOwner), (!fwBeginAllowed s, stWrongState)]

def fwBegin (c : Ctx) (log : Nat) (s : State) : State :=
  postFwState 0 log (sessMod s (fun _ => { Session.idle with st := 1, owner := some c }))

def fwBeginDo (o : Issue) (log : Nat) (s : State) : Done := ok (fwBegin o.ctx log s)

def execFwBegin (o : Issue) (p : List Byte) (s : State) : Host.Outcome State Fault Refusal :=
  hostCommand 0x0E02 o p (fwBeginCheck o) (fwBeginDo o) s

/-! ## Blocks (R412, R413) -/

/-- Block 0 is accepted: the status sector is erased, which makes the image invalid, and block 0 is to be
written. -/
def acceptHeader (b : List Byte) (a : Asker) (s : State) : State :=
  let s1 := countErase 399 (fwMod s (fun f => { f with image :=
    { f.image with factory := false, dlDone := false, verified := false, confirmed := false, aborted := false } }))
  postFwState 1 (askerLog a) (sessMod s1 (fun q => { q with
    st := 2, header := b, written := [], jobs := [{ block := 0, bytes := b, asker := a }], firstBad := 0xFFFF }))

/-- A complete block: its refusal, or none where it is accepted. A block 0 that comes again must be the block 0 that
was accepted (log entry 63). -/
def blockRefusal (s : State) (k : Nat) (b : List Byte) : Option Nat :=
  let q := s.fw.session
  if q.st = 1 then headerCheck s b
  else if k = 0 then (if b = q.header then none else some stBadParam)
  else if crc32c b = blockEntry q.header k then none else some stBadParam

/-- A refused block 0 closes the session; any other refused block is discarded. -/
def blockRefused (log : Nat) (s : State) : State :=
  if s.fw.session.st = 1 then postFwState 0 log (sessMod s (fun _ => Session.idle)) else s

def blockAccepted (k : Nat) (b : List Byte) (a : Asker) (s : State) : State :=
  if s.fw.session.st = 1 then acceptHeader b a s
  else sessMod s (fun q => { q with jobs := q.jobs ++ [{ block := k, bytes := b, asker := a }] })

def fwWriteDataCheck (o : Issue) (p : List Byte) (s : State) : Option Nat :=
  let q := s.fw.session
  firstRefusal
    [(decide (7 < u8 p 2) || (q.st == 2 && decide (blockCount q.header ≤ u16 p 0)), stBadParam),
     (!fwOwned o.ctx s, stNotOwner),
     (!fwHolds o.ctx s || !(q.st ∈ [1, 2]) || (q.st == 1 && u16 p 0 != 0), stWrongState),
     (decide (2 ≤ q.jobs.length), stBusy)]

def blocksWritten (s : State) : Nat := s.fw.session.written.length

/-- The chunks of a block, and the table without them. -/
def blockChunks (s : State) (k : Nat) : List Byte :=
  (List.range 8).flatMap (fun c => tget [] s.fw.session.chunks (k * 8 + c))
def dropChunks (k : Nat) (s : State) : State :=
  sessMod s (fun q => { q with chunks := (List.range 8).foldl (fun t c => tset [] t (k * 8 + c) []) q.chunks })

/-- R413: the chunk is held; the one that completes its block decides over the block. -/
def fwWriteDataRun (o : Issue) (p : List Byte) (log : Nat) (s : State) : State :=
  let k := u16 p 0
  let last := completesBlock s p
  let s1 := sessMod s (fun q => { q with chunks := tset [] q.chunks (k * 8 + u8 p 2) (bytesAt p 8 512) })
  let reply := fun (st mark : Nat) (t : State) =>
    placeReply (ctxNum o.ctx) (replyTo 0x0E03 o st log (b2 (blocksWritten t) ++ b1 mark ++ zeros 1)) t
  if !last then reply stOk 0 s1
  else
    let b := blockChunks s1 k
    let s2 := dropChunks k s1
    match blockRefusal s2 k b with
    | some st =>
      let t := blockRefused log s2
      if s2.fw.session.st = 1 then placeReply (ctxNum o.ctx) (replyTo 0x0E03 o st log []) t else reply st 1 t
    | none =>
      let t := blockAccepted k b (askerOf o 0x0E03 log s2) s2
      deferred 0x0E03 o log (b2 (blocksWritten t) ++ zeros 2) t

def execFwWriteData (o : Issue) (p : List Byte) (s : State) : Host.Outcome State Fault Refusal :=
  .next (hostTake 0x0E03 o p (fwWriteDataCheck o p) (fwWriteDataRun o p) s)

/-- DOWNLOAD ends when every block has been written: DL_DONE. The watchdog counter clears (R380). -/
def downloadDone (log : Nat) (s : State) : State :=
  let q := s.fw.session
  if q.st = 2 ∧ (List.range (blockCount q.header)).all (fun k => k ∈ q.written) then
    let s1 := fwMod s (fun f => { f with
      image := { f.image with dlDone := true }, session := { f.session with st := 3 } })
    postFwState 2 log { s1 with pwr := { s1.pwr with watchdog := 0 } }
  else s

/-- The oldest block has been erased, written and read back (R413): a second difference leaves it unwritten. -/
def blockWriteDone (bad : Bool) (s : State) : State :=
  match s.fw.session.jobs with
  | [] => s
  | j :: r =>
    let s1 := countErase (16 + j.block) (sessMod s (fun q => { q with
      jobs := r, written := if bad then without j.block q.written else withElem j.block q.written }))
    let s2 := if bad then s1
      else fwMod s1 (fun f => { f with image := { f.image with blocks := tset [] f.image.blocks j.block j.bytes } })
    downloadDone (askerLog j.asker)
      (finishAsk j.asker false (if bad then stNvmError else stOk) (b2 (blocksWritten s2) ++ zeros 2) s2)

def execFwBlockWriteDone (differs1 differs2 : Bool) (s : State) : Host.Outcome State Fault Refusal :=
  whenever (fun s => !decide (s.fw.session.jobs = []) && !nvmHeld s)
    (fun s => flushReplies (blockWriteDone (differs1 && differs2) s)) s

/-! ## VERIFY (R416) -/

def fwVerifyCheck (o : Issue) (s : State) : Option Nat :=
  firstRefusal [(!fwOwned o.ctx s, stNotOwner), (!fwHolds o.ctx s || s.fw.session.st != 3, stWrongState)]

def startVerify (a : Asker) (s : State) : State :=
  postFwState 0 (askerLog a) (sessMod s (fun q => { q with st := 4, verifyFor := a, firstBad := 0xFFFF }))

def fwVerifyRun (o : Issue) (log : Nat) (s : State) : State :=
  deferred 0x0E04 o log [] (startVerify (askerOf o 0x0E04 log s) s)

def execFwVerify (o : Issue) (p : List Byte) (s : State) : Host.Outcome State Fault Refusal :=
  .next (hostTake 0x0E04 o p (fwVerifyCheck o) (fwVerifyRun o) s)

/-- A stored block fails against its table entry; block 0 fails by its header CRC or its signature. -/
def storedBad (s : State) (k : Nat) : Bool :=
  let b := tget [] s.fw.image.blocks k
  if k = 0 then !(u32 b 124 == crc32c (b.take 124) && signatureHolds s b)
  else crc32c b != blockEntry (tget [] s.fw.image.blocks 0) k

/-- Blocks that fail VERIFY, those of the margin read among them, rising. -/
def failingBlocks (s : State) (bad : List Nat) : List Nat :=
  (List.range (blockCount s.fw.session.header)).filter (fun k => decide (k ∈ bad) || storedBad s k)

def verifyDone (bad : List Nat) (s : State) : State :=
  let a := s.fw.session.verifyFor
  match failingBlocks s bad with
  | [] =>
    let s1 := fwMod s (fun f => { f with
      image := { f.image with verified := true }, session := { f.session with st := 5, verifyFor := .own } })
    postFwState 3 (askerLog a) (finishAsk a true stOk [] s1)
  | k :: r =>
    let s1 := sessMod s (fun q => { q with
      st := 2, verifyFor := .own, firstBad := k, written := q.written.filter (fun x => !decide (x ∈ k :: r)) })
    postFwState 4 (askerLog a) (finishAsk a true stNvmError [] s1)

def execFwVerifyDone (bad : List Nat) (s : State) : Host.Outcome State Fault Refusal :=
  whenever (fun s => s.fw.session.st == 4 && !nvmHeld s) (fun s => flushReplies (verifyDone bad s)) s

/-! ## FW_ABORT (R417), FW_ACTIVATE (R418) -/

/-- In IDLE and INVALID it changes nothing, whoever asks. -/
def fwAbortCheck (o : Issue) (s : State) : Option Nat :=
  firstRefusal
    [(!fwOwned o.ctx s, stNotOwner),
     (!(s.fw.session.st ∈ [0, 6]) && (!fwHolds o.ctx s || s.fw.session.st == 4), stWrongState)]

/-- Blocks that wait for their write, and an activation that waits, end with the session (log entry 63). -/
def dropSessionWork (s : State) : State :=
  let s1 := s.fw.session.jobs.foldl (fun t j => finishAsk j.asker false stConflict [] t) s
  match s1.fw.activate with
  | some (some w, _) => complete w stConflict (fwMod s1 (fun f => { f with activate := none }))
  | _ => fwMod s1 (fun f => { f with activate := none })

def fwAbort (log : Nat) (s : State) : State :=
  if s.fw.session.st ∈ [0, 6] then s
  else if s.fw.session.st = 1 then postFwState 8 log (sessMod s (fun _ => Session.idle))
  else
    postFwState 8 log (fwMod (dropSessionWork s) (fun f => { f with
      image := { f.image with aborted := true }, session := { Session.idle with st := 6 } }))

def fwAbortDo (_ : Issue) (log : Nat) (s : State) : Done := ok (fwAbort log s)

def execFwAbort (o : Issue) (p : List Byte) (s : State) : Host.Outcome State Fault Refusal :=
  hostCommand 0x0E07 o p (fwAbortCheck o) (fwAbortDo o) s

def fwActivateCheck (o : Issue) (s : State) : Option Nat :=
  firstRefusal
    [(!fwOwned o.ctx s, stNotOwner),
     (!fwHolds o.ctx s || s.fw.session.st != 5 || s.fw.activate.isSome, stWrongState)]

/-- In HARBOUR the answer is OK and the part resets (R431). -/
def fwActivateDo (o : Issue) (log : Nat) (s : State) : Done :=
  if s.pwr.dev = .harbour then ok { s with pwr := { s.pwr with resetDue := true, resetOther := true } }
  else queuedDone (fwMod s (fun f => { f with activate := some (some { ctx := o.ctx, log := log }, log) }))

def execFwActivate (o : Issue) (p : List Byte) (s : State) : Host.Outcome State Fault Refusal :=
  hostCommand 0x0E05 o p (fwActivateCheck o) (fwActivateDo o) s

/-! ## Confirmation (R423, R424) -/

def fwConfirmCheck (o : Issue) (s : State) : Option Nat := firstRefusal [(!fwOwned o.ctx s, stNotOwner)]

def fwConfirmDo (o : Issue) (log : Nat) (s : State) : Done :=
  if s.fw.probation then queuedDone (askNvm (.confirm (some { ctx := o.ctx, log := log }) log) s) else ok s

def execFwConfirm (o : Issue) (p : List Byte) (s : State) : Host.Outcome State Fault Refusal :=
  hostCommand 0x0E06 o p (fwConfirmCheck o) (fwConfirmDo o) s

def confirming (s : State) : Bool := s.fw.jobs.any (fun j => match j with
  | .confirm _ _ => true
  | _ => false)

/-- R423: 60 s of healthy time; the part confirms as a command of no context, outside SHELTER (R371). -/
def execProbationHealthy (s : State) : Host.Outcome State Fault Refusal :=
  whenever (fun s => s.fw.probation && cpRuns s && (s.pwr.dev ∈ [Dev.active, Dev.doze]) && !s.pwr.shelter)
    (fun s =>
      let s1 := fwMod s (fun f => { f with healthy := max f.healthy 60000 })
      if s1.fw.autoConfirm && !s1.fw.suppressed && !confirming s1 then
        askNvm (.confirm none s1.host.log) (takeLog s1)
      else s1) s

/-- The counter advances and keys are revoked (R408, R409). -/
def advanceCounter (f : FwState) : FwState :=
  let f1 := { f with revoked := f.revoked ||| f.running.revoke % 16 }
  if f.counter < f.running.security ∧ 0 < f.counterLeft then
    { f1 with counter := f.running.security, counterLeft := f.counterLeft - 1 }
  else f1

/-- Steps 2 and 3 are done. -/
def confirmDone (w : Option Waiter) (log : Nat) (s : State) : State :=
  let told := fun (t : State) => match w with | some x => complete x stOk t | none => t
  if !s.fw.probation then told s
  else
    let s1 := fwMod s (fun f => advanceCounter
      { f with probation := false, healthy := 0, image := { f.image with confirmed := true } })
    postFwState (if w.isSome then 6 else 7) log (told s1)

def setAutoConfirmCheck (o : Issue) (p : List Byte) (s : State) : Option Nat :=
  firstRefusal [(decide (1 < u8 p 0), stBadParam), (!fwOwned o.ctx s, stNotOwner)]

def setAutoConfirmDo (p : List Byte) (_ : Nat) (s : State) : Done :=
  ok (fwMod s (fun f => { f with autoConfirm := u8 p 0 == 1 }))

def execSetAutoConfirm (o : Issue) (p : List Byte) (s : State) : Host.Outcome State Fault Refusal :=
  hostCommand 0x0E0C o p (setAutoConfirmCheck o p) (setAutoConfirmDo p) s

/-! ## Keys (R407, R410) -/

/-- A number as n bytes, high byte first. -/
def keyBytes (n x : Nat) : List Byte := (leN n x).reverse

def keyStatusResult (s : State) : List Byte :=
  (List.range 4).flatMap (fun n =>
      b1 (if (vendorKey s n).isNone then 0 else if bit s.fw.revoked n then 2 else 1))
    ++ b1 (flag s.fw.chartKey.isSome) ++ zeros 3
    ++ (match s.fw.chartKey with
      | some k => sha256 (keyBytes 32 k.1 ++ keyBytes 32 k.2)
      | none => zeros 32)

def execKeyStatus (o : Issue) (p : List Byte) (s : State) : Host.Outcome State Fault Refusal :=
  hostCommand 0x0E0D o p noCheck (reads keyStatusResult) s

/-- The key slot is programmed, or is about to be. -/
def chartKeyTaken (s : State) : Bool := s.fw.chartKey.isSome || s.fw.jobs.any (fun j => match j with
  | .chartKey _ _ _ => true
  | _ => false)

def chartKeyProgramCheck (p : List Byte) (s : State) : Option Nat :=
  firstRefusal [(!p256OnCurve (beN p 0 32) (beN p 32 32), stBadParam), (chartKeyTaken s, stWrongState)]

def chartKeyProgramDo (o : Issue) (p : List Byte) (log : Nat) (s : State) : Done :=
  queuedDone (askNvm (.chartKey { ctx := o.ctx, log := log } (beN p 0 32) (beN p 32 32)) s)

def execChartKeyProgram (o : Issue) (p : List Byte) (s : State) : Host.Outcome State Fault Refusal :=
  hostCommand 0x0E0E o p (chartKeyProgramCheck p) (chartKeyProgramDo o p) s

end Sys2Proof.Machine
end

