-- ==== Sys2Proof/Machine/NvmDone.lean ====
section
/-! DEFINITION. Steps of NVM writes that end (R404): an erase, a row, the rows of a settings copy; and what their jobs
then do. -/

namespace Sys2Proof.Machine

/-- An erased sector of a settings copy makes that copy absent, one of a summary copy that copy invalid (R398, R405, R427). -/
def eraseLoses (sector : Nat) (s : State) : State :=
  if regionOf sector = 4 then setCopyOf s 0 SettingsCopy.absent
  else if regionOf sector = 5 then setCopyOf s 1 SettingsCopy.absent
  else if sector = 0x2D0 ∨ sector = 0x2D1 then { s with hull := { s.hull with sumA := none } }
  else if sector = 0x2D2 ∨ sector = 0x2D3 then { s with hull := { s.hull with sumB := none } }
  else s

/-- An erase is over: it is counted, and has lost what the sector held. -/
def eraseEffect (sector : Nat) (s : State) : State := eraseLoses sector (countErase sector s)

/-- What a finished step has done: the copy that a save or a confirmation wrote is in force. -/
def stepEffect (j : NvmJob) (st : NvmStep) (ok : Bool) (s : State) : State :=
  match st, j with
  | .erase k, _ => eraseEffect k s
  | .save, .settingsSave _ items => if ok then copyWritten items s else s
  | .save, .confirm _ _ => if ok then copyWritten (copyItems s) s else s
  | _, _ => s

/-- What the part's own small writes of the start do (R70, R408, R414). -/
def ownEffect (j : NvmJob) (s : State) : State :=
  match j with
  | .imageVerified => fwMod s (fun f => { f with image := { f.image with verified := true } })
  | .slotInvalid n => setChartSlot s n (fun q => if q.state = 0x3C then { q with state := 0 } else q)
  | .counter => fwMod s advanceCounter
  | _ => s

/-- Such a write is made before the start goes on; one that is held waits with the others (R371, R373). -/
def ownWrite (j : NvmJob) (s : State) : State := if nvmHeld s then askNvm j s else ownEffect j s

/-- A job has ended well. -/
def jobDone (j : NvmJob) (s : State) : State :=
  match j with
  | .chartErase w slot length => chartEraseDone w slot length s
  | .chartClose w slot status => chartCloseDone w slot status s
  | .settingsErase w => complete w stOk (copiesErased s)
  | .settingsSave w _ => complete w stOk s
  | .confirm w log => confirmDone w log s
  | .chartKey w x y => complete w stOk (fwMod s (fun f => { f with chartKey := some (x, y) }))
  | .hullSummary a horizon => finishAsk a false stOk [] (summaryWritten horizon s)
  | .hullRecord r => recordWritten r s
  | .imageVerified => ownEffect j s
  | .slotInvalid _ => ownEffect j s
  | .counter => ownEffect j s

/-- A job has ended with NVM_ERROR. -/
def jobFailed (j : NvmJob) (s : State) : State :=
  match j with
  | .chartErase w _ _ => complete w stNvmError s
  | .chartClose w slot _ => chartCloseDone w slot stNvmError s
  | .settingsErase w => complete w stNvmError s
  | .settingsSave w _ => complete w stNvmError s
  | .confirm (some w) _ => complete w stNvmError s
  | .confirm none _ => s
  | .chartKey w _ _ => complete w stNvmError s
  | .hullSummary a _ => finishAsk a false stNvmError [] s
  | .hullRecord _ => s
  | .imageVerified => s
  | .slotInvalid _ => s
  | .counter => s

/-- The step under way ends; the next step or the next job begins. -/
def nvmStepDone (ok : Bool) (s : State) : State :=
  match s.fw.jobs, s.fw.steps with
  | j :: r, st :: rest =>
    let s1 := stepEffect j st ok s
    if ok && !decide (rest = []) then nvmStart (fwMod s1 (fun f => { f with steps := rest, begun := false }))
    else
      let s2 := fwMod s1 (fun f => { f with jobs := r, steps := [], begun := false })
      nvmStart (if ok then jobDone j s2 else jobFailed j s2)
  | _, _ => s

/-- The step under way is of this kind. -/
def underWay (s : State) (f : NvmStep → Bool) : Bool := s.fw.begun && ((s.fw.steps.head?.map f).getD false)

def isErase (st : NvmStep) : Bool := match st with
  | .erase _ => true
  | _ => false

/-- R404: an erase that SHELTER has stopped is repeated from the start, and ends only then. -/
def execNvmSectorErase (ok : Bool) (s : State) : Host.Outcome State Fault Refusal :=
  whenever (fun s => underWay s isErase) (fun s => flushReplies (nvmStepDone ok s)) s

/-- R404, R369: a row that SHELTER finds in progress still completes. -/
def execNvmRowWriteDone (ok : Bool) (s : State) : Host.Outcome State Fault Refusal :=
  whenever (fun s => underWay s (fun st => st == .row)) (fun s => flushReplies (nvmStepDone ok s)) s

/-- R427: the last row of a settings copy. -/
def execSettingsSaveDone (ok : Bool) (s : State) : Host.Outcome State Fault Refusal :=
  whenever (fun s => underWay s (fun st => st == .save)) (fun s => flushReplies (nvmStepDone ok s)) s

end Sys2Proof.Machine
end

