-- ==== Sys2Proof/Machine/TwoWire.lean ====
section
/-! DEFINITION. The two-wire ports (chapter 3): transactions, the pointer, the register window and the doors.
A data byte of a write transaction acts only where the pointer stands at the register that its command names. -/

namespace Sys2Proof.Machine

def twGet (s : State) (p : Fin 2) : TwPort := if p = 0 then s.tw0 else s.tw1

def twSet (s : State) (p : Fin 2) (t : TwPort) : State :=
  if p = 0 then { s with tw0 := t } else { s with tw1 := t }

def twMod (s : State) (p : Fin 2) (f : TwPort → TwPort) : State := twSet s p (f (twGet s p))

/-- Target address of a port by its pins (Table 3-1). -/
def twAddress (p : Fin 2) (pins : BitVec 2) : BitVec 7 := BitVec.ofNat 7 (0x48 + 4 * p.val + pins.toNat)

/-- R57: the event door takes copies of the oldest 16 entries. -/
def refreshDoor (s : State) (p : Fin 2) : State :=
  twMod s p (fun t => { t with eventDoor := (ctxGet s p.val).queue.take 16 })

/-- The open transaction ends; staged bytes of IRQ_MASK are discarded (R53). -/
def endTxn (t : TwPort) : TwPort :=
  { t with txn := 0, ptrBytes := 0, firstByte := false, pageEnd := false, staged := [], capture := none }

/-- A START or STOP: the transaction ends and the event door is refreshed. -/
def twCondition (s : State) (p : Fin 2) : State := refreshDoor (twMod s p endTxn) p

/-- Set ERROR with a cause (Table 3-4). -/
def twError (cause : Nat) (t : TwPort) : TwPort := { t with error := true, errCause := cause }

/-- The port answers: not before the loader is ready (R64), and TW1, of bank B, not without IOVDD_B (Table 16-1). -/
def twPowered (s : State) (p : Fin 2) : Bool := (twGet s p).served && (p == 0 || s.pwr.ioB)

/-- R47, R49: START and an address byte. The port acknowledges its own address while it serves the window,
which it does not in SLEEP (R63). -/
def execTwAddressMatch (port : Fin 2) (addr : BitVec 7) (read : Bool) (s : State) :
    Host.Outcome State Fault Refusal :=
  .next (if s.pwr.dev = .sleep ∨ twPowered s port = false then
      twMod s port (fun t => { endTxn t with acked := false })
    else
      let s1 := twCondition s port
      twMod s1 port (fun t =>
        if addr = t.addr then
          { t with txn := if read then 2 else 1, firstByte := true, acked := true
                   readBytes := if read then [] else t.readBytes }
        else { t with acked := false }))

/-- The window logic runs: it is stopped in SLEEP (R63). -/
def twServes (s : State) : Bool := s.pwr.dev != .sleep

/-- R49: two pointer bytes of a write transaction, high byte first. -/
def execTwPointerWrite (port : Fin 2) (hi lo : Byte) (s : State) : Host.Outcome State Fault Refusal :=
  whenever (fun s => twServes s && (twGet s port).txn == 1 && (twGet s port).ptrBytes == 0)
    (fun s => twMod s port (fun t =>
      { t with pointer := BitVec.ofNat 16 (hi.toNat * 256 + lo.toNat), ptrBytes := 2, acked := true })) s

/-- A data byte can come now: a write transaction with its pointer given. -/
def twWriting (t : TwPort) : Bool := t.txn == 1 && t.ptrBytes == 2

/-- The address that the next data byte goes to. -/
def twAt (t : TwPort) : Nat := t.pointer.toNat

/-- The byte is acknowledged: the pointer advances (R49). -/
def twAccept (t : TwPort) : TwPort := { t with pointer := t.pointer + 1, firstByte := false, acked := true }

/-- The byte is not acknowledged and has no effect. -/
def twRefuse (cause : Nat) (t : TwPort) : TwPort := { twError cause t with firstByte := false, acked := false }

/-- R51: the byte lies past the end of its write page. -/
def twPastPage (t : TwPort) : Bool := t.pageEnd || (!t.firstByte && twAt t % 64 == 0)

/-- A data byte to an address in [lo, hi]: nothing when the pointer is elsewhere; refused past the page
(R51); otherwise what the register does with it. A byte past its page while BUSY is set loads cause 3, the page's:
the page is looked at before BUSY (DESIGN CHOICE, log entry 92). -/
def twData (port : Fin 2) (lo hi : Nat) (act : TwPort → State → State) (s : State) : State :=
  let t := twGet s port
  if !twServes s || !twWriting t || decide (twAt t < lo) || decide (hi < twAt t) then s
  else if twPastPage t then twMod s port (fun u => { twRefuse 3 u with pageEnd := true })
  else act t s

/-- R54, R55: a byte into the command door, refused while BUSY. -/
def execCommandDoorWrite (port : Fin 2) (b : Byte) (s : State) : Host.Outcome State Fault Refusal :=
  .next (twData port 0x1000 0x140F (fun t s =>
    if t.busy then twMod s port (twRefuse 4)
    else twMod s port (fun u =>
      { twAccept u with door := tset 0 u.door (twAt t - 0x1000) b, fill := max u.fill (twAt t - 0x1000 + 1) })) s)

/-- The command door's bytes. -/
def doorBytes (t : TwPort) : List Byte := (List.range 1040).map (tget 0 t.door)

/-- R54: a commit sets BUSY, clears the fill mark and hands the packet to the CP. -/
def commitDoor (port : Fin 2) (s : State) : State :=
  let t := twGet s port
  receivePacket port.val (doorBytes t) t.fill (twMod s port (fun u => { u with busy := true, fill := 0 }))

/-- R53, R54, R55: a byte to DOOR_COMMIT. Byte 0 is refused while BUSY or REPLY_VALID, and 0x01 commits. -/
def execDoorCommit (port : Fin 2) (b : Byte) (s : State) : Host.Outcome State Fault Refusal :=
  .next (twData port 0x0008 0x000B (fun t s =>
    if twAt t = 0x0008 then
      if t.busy || t.replyValid then twMod s port (twRefuse 4)
      else if b = 1 then commitDoor port (twMod s port twAccept)
      else twMod s port twAccept
    else twMod s port twAccept) s)

/-- Table 3-4: writing 1 to ERROR clears ERROR and ERR_CAUSE. -/
def execErrorClear (port : Fin 2) (b : Byte) (s : State) : Host.Outcome State Fault Refusal :=
  .next (twData port 0x0004 0x0007 (fun t s =>
    if twAt t = 0x0004 ∧ b.getLsbD 4 then
      twMod s port (fun u => { twAccept u with error := false, errCause := 0 })
    else twMod s port twAccept) s)

/-- IRQ_MASK with the staged bytes put in; reserved bits read 0 (R5, R53). -/
def stagedMask (t : TwPort) (last : Byte) : BitVec 32 :=
  let byteOf := fun i => ((t.staged.lookup i).map (·.toNat)).getD (t.irqMask.toNat / 256 ^ i % 256)
  BitVec.ofNat 32 ((byteOf 0 + 256 * byteOf 1 + 65536 * byteOf 2 + 16777216 * last.toNat) &&& 0x0000FFFE)

/-- R53: bytes to IRQ_MASK take effect as a whole when byte 3 is acknowledged. -/
def execIrqMaskWrite (port : Fin 2) (b : Byte) (s : State) : Host.Outcome State Fault Refusal :=
  .next (twData port 0x000C 0x000F (fun t s =>
    if twAt t = 0x000F then
      refreshPins (twMod s port (fun u => { twAccept u with irqMask := stagedMask u b, staged := [] }))
    else twMod s port (fun u => { twAccept u with staged := (twAt t - 0x000C, b) :: u.staged })) s)

/-- R39, R53, R55: a byte to EVENT_ACK. Byte 0 is refused while BUSY; 65 to 255 act as 64, 0 is discarded. -/
def execEventAckRegisterWrite (port : Fin 2) (b : Byte) (s : State) : Host.Outcome State Fault Refusal :=
  .next (twData port 0x0014 0x0017 (fun t s =>
    if twAt t = 0x0014 then
      if t.busy then twMod s port (twRefuse 4)
      else ackEvents port.val (min b.toNat 64) (twMod s port twAccept)
    else twMod s port twAccept) s)

/-- An address whose write changes nothing (R52, R53). -/
def twDiscards (a : Nat) : Bool :=
  !(decide (0x1000 ≤ a) && decide (a ≤ 0x140F))
    && !(a == 0x0004) && !(a == 0x0008) && !(decide (0x000C ≤ a) && decide (a ≤ 0x000F)) && !(a == 0x0014)

/-- R52: a byte to an undefined, reserved or read-only address is acknowledged and discarded. -/
def execRegisterWriteDiscarded (port : Fin 2) (_ : Byte) (s : State) : Host.Outcome State Fault Refusal :=
  .next (if twDiscards (twAt (twGet s port)) then twData port 0 0xFFFF (fun _ s => twMod s port twAccept) s else s)

/-- Bytes of the present reply packet, and where it is consumed (R56). -/
def twReplyBytes (t : TwPort) : List Byte :=
  match t.reply with
  | some r => replyBytes r
  | none => []

/-- A 32-bit register of the window (Tables 3-3 to 3-8). -/
def twRegister (s : State) (p : Fin 2) (a : Nat) : Nat :=
  let t := twGet s p
  let q := (ctxGet s p.val).queue
  match a with
  | 0x0000 => Config.deviceId
  | 0x0004 => flag (!t.busy && !t.replyValid) + 2 * flag t.replyValid + 4 * flag t.busy + 8 * flag (q.length != 0)
      + 16 * flag t.error + 256 * t.errCause
  | 0x000C => t.irqMask.toNat
  | 0x0010 => q.length + 256 * flag (q.any (fun e => e.code == 0x0201))
  | _ => 0

/-- The byte that a read transfers at an address, with the register captured by the open read (R53). Reply door bytes
past the present reply read 0 (DESIGN CHOICE, log entry 93). -/
def twByte (s : State) (p : Fin 2) (cap : Option (Nat × Nat)) (a : Nat) : Byte :=
  let t := twGet s p
  if a < 0x0018 then
    let reg := a / 4 * 4
    let v := match cap with
      | some (r, v) => if r = reg then v else twRegister s p reg
      | none => twRegister s p reg
    BitVec.ofNat 8 (v / 256 ^ (a % 4))
  else if 0x1000 ≤ a ∧ a ≤ 0x140F then tget 0 t.door (a - 0x1000)
  else if 0x2000 ≤ a ∧ a ≤ 0x240F then (twReplyBytes t).getD (a - 0x2000) 0
  else if 0x3000 ≤ a ∧ a ≤ 0x30FF then (t.eventDoor.flatMap eventBytes).getD (a - 0x3000) 0
  else 0

/-- One byte of a read is transferred (R50, R53, R56). -/
def twReadByte (p : Fin 2) (s : State) : State :=
  let t := twGet s p
  let a := twAt t
  let cap := if a < 0x0018 ∧ a % 4 = 0 then some (a, twRegister s p a) else t.capture
  let consumed := t.replyValid && a + 1 == 0x2000 + (twReplyBytes t).length
  twMod s p (fun u =>
    { u with pointer := u.pointer + 1, capture := cap, readBytes := u.readBytes ++ [twByte s p cap a]
             replyValid := u.replyValid && !consumed })

/-- `n` bytes of a read are transferred. -/
def twReadBytes (p : Fin 2) : Nat → State → State
  | 0, s => s
  | n + 1, s => twReadBytes p n (twReadByte p s)

/-- R50: the controller's not-acknowledge ends the read; the port waits for STOP or START. -/
def twReadEnds (p : Fin 2) (nak : Bool) (s : State) : State :=
  if nak then twMod s p (fun t => { t with txn := 3 }) else s

/-- R49, R50, R56: an open read transfers `n` bytes, and the controller acknowledges all, or all but the last (`nak`);
the reply is consumed when its last byte is one of them. -/
def execReplyConsume (port : Fin 2) (n : Nat) (nak : Bool) (s : State) : Host.Outcome State Fault Refusal :=
  whenever (fun s => twServes s && (twGet s port).txn == 2)
    (fun s => twReadEnds port (nak && decide (0 < n)) (twReadBytes port n s)) s

/-- R57: a START or STOP between bytes ends the transaction and refreshes the event door. -/
def execEventDoorRefresh (port : Fin 2) (_ : Bool) (s : State) : Host.Outcome State Fault Refusal :=
  whenever (fun s => twPowered s port && s.pwr.dev != .sleep) (fun s => twCondition s port) s

/-- R58: a START or STOP in the acknowledge slot of a read byte: the byte counts as transferred. -/
def execTwAckSlotCondition (port : Fin 2) (_ : Bool) (s : State) : Host.Outcome State Fault Refusal :=
  whenever (fun s => twServes s && (twGet s port).txn == 2) (fun s => twCondition (twReadByte port s) port) s

/-- R59: a START or STOP inside a byte aborts the open transaction with ERROR cause 1. -/
def execTwByteAbort (port : Fin 2) (_ : Bool) (s : State) : Host.Outcome State Fault Refusal :=
  whenever (fun s => twServes s && ((twGet s port).txn == 1 || (twGet s port).txn == 2))
    (fun s => twCondition (twMod s port (twError 1)) port) s

/-- R60: no edge of SCL for 25 to 30 ms abandons the open transaction with ERROR cause 2. -/
def execTwBusStall (port : Fin 2) (s : State) : Host.Outcome State Fault Refusal :=
  whenever (fun s => twServes s && (twGet s port).txn != 0) (fun s => twMod s port (fun t => endTxn (twError 2 t))) s

/-- R64: 2 ms after reset release the ports start to acknowledge their addresses, with BUSY set. -/
def execTwLoaderReady (s : State) : Host.Outcome State Fault Refusal :=
  whenever (fun s => s.pwr.dev == .loader)
    (fun s => { s with tw0 := { s.tw0 with served := true }, tw1 := { s.tw1 with served := true } }) s

end Sys2Proof.Machine
end

