-- ==== Sys2Proof/Machine/Power.lean ====
section
/-! DEFINITION. Power states (chapter 16): SHELTER, DOZE, SLEEP and the wake, thermal warning and shutdown, and the
commands of group 0x0D that concern them (R362 to R386). -/

namespace Sys2Proof.Machine

def pwrMod (s : State) (f : PowerState → PowerState) : State := { s with pwr := f s.pwr }

/-! ## SHELTER (R369 to R373) -/

/-- The states in which a warning on AVDD18 or VIN12 shelters. -/
def shelterStates (s : State) : Bool := s.pwr.dev ∈ [Dev.active, Dev.doze, Dev.test, Dev.recovery]

/-- SHELTER is entered for a rail (R369). The aux DAC is held while it lasts. -/
def enterShelter (rail : Nat) (s : State) : State :=
  let s1 := postBrown rail 257 (pwrMod s (fun p =>
    { p with shelter := true, sawAvdd := p.sawAvdd || p.warnAvdd, sawVin := p.sawVin || p.warnVin }))
  nvmShelter (relayShelter (outputsShelter (spanMod s1 (fun q => { q with flags := q.flags ||| 2 }))))

/-- A rail is below its warning level, and has warned since the last recovery of both. -/
def noteWarning (rail : Nat) (s : State) : State :=
  pwrMod s (fun p => if rail = 0 then { p with warnAvdd := true, sawAvdd := true }
    else { p with warnVin := true, sawVin := true })

/-- R369, R373: a warning crossing on AVDD18 (0) or VIN12 (1). -/
def supplyWarning (rail : Nat) (s : State) : State :=
  let s1 := countBrown rail (noteWarning rail s)
  if shelterStates s ∧ s.pwr.shelter = false then enterShelter rail s1
  else
    let s2 := postBrown rail 1 s1
    if shelterStates s then s2 else nvmShelter s2

def supervised (s : State) : Bool := s.pwr.dev != .off && s.pwr.dev != .por

/-- Rails whose warnings are to be reported as recovered. -/
def sawRails (s : State) : List Nat := (if s.pwr.sawAvdd then [0] else []) ++ (if s.pwr.sawVin then [1] else [])

/-- R370, R373: both rails have recovered. -/
def shelterEnd (s : State) : State :=
  let s1 := (sawRails s).foldl (fun t r => postBrown r 0 t)
    (pwrMod s (fun p => { p with shelter := false, warnAvdd := false, warnVin := false, sawAvdd := false, sawVin := false }))
  nvmStart (if s.pwr.shelter then outputsAfterShelter s1 else s1)

def execShelterEnd (s : State) : Host.Outcome State Fault Refusal :=
  whenever (fun s => supervised s && (s.pwr.shelter || s.pwr.warnAvdd || s.pwr.warnVin)) shelterEnd s

/-- A rail has recovered from its warning for itself (R368): with the other one, a SHELTER ends. -/
def railRecovers (rail : Nat) (s : State) : State :=
  if !(if rail = 0 then s.pwr.warnAvdd else s.pwr.warnVin) then s
  else
    let s1 := pwrMod s (fun p => if rail = 0 then { p with warnAvdd := false } else { p with warnVin := false })
    if s1.pwr.warnAvdd || s1.pwr.warnVin then s1 else shelterEnd s1

/-- R368, R369, R373: AVDD18 (0) or VIN12 (1) falls below its warning level, or has recovered from it. -/
def execSupplyWarning (rail : Fin 2) (below : Bool) (s : State) : Host.Outcome State Fault Refusal :=
  whenever supervised (if below then supplyWarning rail.val else railRecovers rail.val) s

/-- Rails whose warning holds now. -/
def warnedRails (s : State) : List Nat := (if s.pwr.warnAvdd then [0] else []) ++ (if s.pwr.warnVin then [1] else [])

/-- A warning that still holds when the part reaches ACTIVE or TEST enters SHELTER then; one on the other rail extends
it (R373). -/
def shelterIfWarned (s : State) : State :=
  match warnedRails s with
  | [] => s
  | r :: rest => rest.foldl (fun t q => postBrown q 1 t) (enterShelter r s)

/-! ## The fabric and the ports stop and start (R376, R377) -/

/-- The tick runs where a chart, an engine that has not halted and the die's temperature allow it. -/
def resumeTick (s : State) : State :=
  { s with eng := { s.eng with ticking := s.cs.chart.isSome && !s.eng.halted && !s.pwr.thermalShut } }

/-- Every convoy member is IDLE with its FIFO emptied (R376, step 5). -/
def membersIdle (s : State) : State :=
  let cs := tmapKeys Convoy.absent s.clk.convoys (fun _ c => { c with members := [], read := 0 })
  { s with clk := { s.clk with convoys := cs } }

/-- Members whose port runs start as at a swap that adds them (R165, R376). -/
def membersStart (s : State) : State :=
  (convoysOf s.cs.near).foldl (fun t k =>
    let e := nearConvoy t k
    (List.range (convoyMembers e)).foldl (fun t m =>
      let q := memberOf e m
      if memberRunning t q.1 q.2.1 (convoyEgress e) then startMember k m t else t) t) s

/-- Each analogue channel delivers 0 for 128 periods and then fades in (R376). -/
def analogueRestart (s : State) : State :=
  (List.range 8).foldl (fun t ch =>
    if bit (u8 (capEntry t ch) 0) 0 then
      capMod t ch (fun c => { addSilence 1 c with restartK := 0 })
    else t) s

/-- What leaving DOZE and SLEEP have in common (R376, R378). -/
def returnToActive (s : State) : State :=
  let asleep := s.pwr.dev == .sleep
  let s0 := if asleep then serialDrive s else s
  let s1 := resumeTick (pwrMod (disarmAll s0) (fun p => { p with dev := .active, transition := none }))
  let s2 := outputsWake (analogueRestart (wakeCaptures (membersStart s1)))
  serveJacks (if asleep then scanGoesOn s2 else s2)

/-! ## Transitions (R375 to R377) -/

/-- Bytes of the payload's key for a target (Table 16-11). -/
def powerKey (target : Nat) : Nat := if target = 6 then 0x5A3C else 0

/-- Transitions that POWER_STATE_SET makes (Table 16-6). -/
def transitionListed (d : Dev) (target : Nat) : Bool :=
  (d == .active && decide (target ∈ [4, 6, 7])) || (d == .doze && decide (target ∈ [3, 7]))

/-- Each USB port is detached or suspended. -/
def usbResting (s : State) : Bool := [0, 1].all (fun p => (usbGet s p).st == 0 || (usbGet s p).st == 3)

def powerStateSetCheck (p : List Byte) (s : State) : Option Nat :=
  let t := u8 p 0
  firstRefusal
    [(!decide (t ∈ [3, 4, 6, 7]) || u16 p 2 != powerKey t, stBadParam),
     (t != devCode s.pwr.dev
        && (!transitionListed s.pwr.dev t || s.pwr.transition.isSome || (t == 7 && (s.pwr.shelter || !usbResting s))),
      stWrongState)]

/-- A target equal to the present state changes nothing. A request for DOZE or SLEEP ends a relay step that has not
reached beat 7, and the rotation (Table 8-5). -/
def powerStateSetDo (o : Issue) (p : List Byte) (log : Nat) (s : State) : Done :=
  let t := u8 p 0
  if t = devCode s.pwr.dev then ok s
  else
    let tr : Transition :=
      { target := t, waiter := { ctx := o.ctx, log := log }, loads := s.cs.loads.length + flag s.cs.load.isSome
        swaps := s.cs.swapCount, muting := false }
    let s1 := pwrMod s (fun p => { p with transition := some tr })
    queuedDone (if s.pwr.dev = .active ∧ (t = 4 ∨ t = 7) then relayRest s1 else s1)

def execPowerStateSet (o : Issue) (p : List Byte) (s : State) : Host.Outcome State Fault Refusal :=
  hostCommand 0x0D02 o p (powerStateSetCheck p) (powerStateSetDo o p) s

/-- The wait of R375 is over: the loads of the commit have swapped, no relay step is in beats 7 to 9, and no
CHART_SELECT "now" runs. Out of DOZE, where no swap can come, nothing of that is waited for. -/
def waitOver (s : State) (t : Transition) : Bool :=
  s.pwr.dev == .doze
    || (((s.cs.load.isNone && decide (s.cs.loads = []))
          || decide (t.loads ≤ (s.cs.swapCount + 2 ^ 32 - t.swaps) % 2 ^ 32))
        && !relayLate s s.cap.relay.input && s.cs.select.isNone)

/-- POWER_STATE (Table 16-12). -/
def postPowerState (prev cause log : Nat) (s : State) : State :=
  post 0x0D02 (devCode s.pwr.dev) log (prev + 256 * cause) .none s

/-- The state has been reached: COMMAND_DONE, then POWER_STATE. -/
def transitionDone (t : Transition) (prev : Nat) (s : State) : State :=
  postPowerState prev 0 t.waiter.log (complete t.waiter stOk s)

/-- Outputs that a SHELTER has taken off keep waiting for the return to ACTIVE only. -/
def dropAwaiting (s : State) : State := (List.range 4).foldl (fun t o => outMod t o (fun q => { q with awaiting := false })) s

/-- The fabric's last tick is behind: DOZE (R376, steps 3 to 5). -/
def enterDoze (t : Transition) (s : State) : State :=
  let s1 := membersIdle (stopTick (relayRest (dropAwaiting s)))
  transitionDone t 3 (pwrMod s1 (fun p => { p with dev := .doze, transition := none }))

/-- A classification that AUX15 served goes back to its beat 2 (R217). -/
def jacksRest (s : State) : State :=
  let back := fun (q : Jack) => if 3 ≤ q.beat then { q with beat := 2, pole := 0 } else q
  auxStimulusEnd (jackMod (jackMod s 0 back) 1 back)

/-- SLEEP (R377). COMMAND_DONE is posted just before the CP stops. -/
def enterSleep (t : Transition) (s : State) : State :=
  let s1 := complete t.waiter stOk (outputsSleep (relayRest (dropAwaiting s)))
  let s2 := linkGoesDown 5 t.waiter.log (departing (membersIdle (stopTick (measRest (serialRest (jacksRest s1))))))
  refreshPins (twMod (twMod (pwrMod s2 (fun p => { p with dev := .sleep, transition := none })) 0 endTxn) 1 endTxn)

/-- NVM writes that wait have completed (R377, step 2). -/
def nvmIdle (s : State) : Bool := decide (s.fw.jobs = []) && decide (s.fw.session.jobs = [])

/-- The mutes, and the hull-log summary before SLEEP (R395), have been asked for. -/
def transitionMute (t : Transition) (s : State) : State :=
  let s1 := pwrMod s (fun p => { p with transition := some { t with muting := true } })
  let s2 := if t.target = 7 then askSummary s1 else s1
  if s.pwr.dev = .active then outputsRest (relayRest s2) else s2

/-- What a transition still waits for once its mutes have started. SHELTER excludes SLEEP (R377). -/
def restReady (t : Transition) (s : State) : Bool :=
  outputsAtRest s && waitOver s t && (t.target != 7 || (nvmIdle s && !s.pwr.shelter && usbResting s))

def transitionStep (t : Transition) (s : State) : State :=
  if t.muting then (if t.target = 7 then enterSleep t s else enterDoze t s)
  else if t.target = 3 then transitionDone t 4 (returnToActive s)
  else if t.target = 6 then transitionDone t 3 (pwrMod s (fun p => { p with dev := .recovery, transition := none }))
  else transitionMute t s

/-- R375: the transition proceeds as far as it can. -/
def execPowerTransitionProceed (s : State) : Host.Outcome State Fault Refusal :=
  .next (match s.pwr.transition with
    | some t =>
      if cpRuns s && waitOver s t && (!t.muting || restReady t s) && !(t.target == 7 && s.pwr.shelter) then
        transitionStep t s
      else s
    | none => s)

/-- What the core regulator makes, in mV (R367): 0.72 V and 10 mV a step, and 0.65 V in SLEEP, which keeps the setting for
the wake. -/
def vcoreSupplied (s : State) : Nat := if s.pwr.dev = .sleep then 650 else 720 + 10 * s.pwr.vcore

/-! ## The wake (R63, R378) -/

/-- The warnings of SLEEP are posted at the wake; one that still holds is posted as the SHELTER that it enters. -/
def postSlept (s : State) : State :=
  let l := (warnedRails s).foldl (fun l r => (l.reverse.erase (r, 1)).reverse) s.pwr.unposted
  l.foldl (fun t e => postBrown e.1 e.2 t) (pwrMod s (fun p => { p with unposted := [] }))

/-- The part reaches ACTIVE: 1 two-wire address, 2 jack, 3 USB. -/
def wake (cause : Nat) (s : State) : State :=
  let s1 := returnToActive (pwrMod s (fun p => { p with wake := cause }))
  nvmStart (refreshPins (shelterIfWarned (postSlept (postPowerState 7 cause 0 s1))))

/-- The part has such a wake source (R378): a two-wire port, a jack that is detected, a USB port that is suspended or one that
is detached and enabled. -/
def wakePossible (s : State) (source : Nat) : Bool :=
  match source with
  | 0 => twPowered s 0 || twPowered s 1
  | 1 => jackDetected 0 s || jackDetected 1 s
  | _ => [0, 1].any (fun p => (usbGet s p).st == 3 || ((usbGet s p).st == 0 && portEnabled s p && s.pwr.vusb))

def execWakeSource (source : Fin 3) (s : State) : Host.Outcome State Fault Refusal :=
  whenever (fun s => s.pwr.dev == .sleep && wakePossible s source.val) (wake (source.val + 1)) s

/-- A happening that wakes the part from SLEEP (R378). -/
def wakeFor (cause : Nat) (s : State) : State := if s.pwr.dev = .sleep then wake cause s else s

/-- R217; a change of JDET wakes the part from SLEEP (R215). -/
def execJdetPresent (j : Fin 2) (s : State) : Host.Outcome State Fault Refusal :=
  whenever (jackDetected j.val) (fun s => wakeFor 2 (jdetPresent j.val s)) s

/-- R216, R219; a change of JDET wakes the part from SLEEP (R215). -/
def execJdetAbsent (j : Fin 2) (s : State) : Host.Outcome State Fault Refusal :=
  whenever (jackDetected j.val) (fun s => wakeFor 2 (jdetAbsent j.val s)) s

/-- R22, R250; VBUS that rises on a detached port whose entry is enabled wakes the part (R378). -/
def execVbusChange (port : Fin 2) (up : Bool) (s : State) : Host.Outcome State Fault Refusal :=
  .next (vbusChange port.val up
    (if up && s.pwr.vusb && (usbGet s port.val).st == 0 && portEnabled s port.val then wakeFor 3 s else s))

/-- R22, R252, R268, R269: a bus reset, at speed `speed` + 1. A port without SS_ENABLED has none at SuperSpeed (R250). -/
def execUsbBusReset (port : Fin 2) (speed : Fin 3) (s : State) : Host.Outcome State Fault Refusal :=
  whenever (fun s => usbAlive s && (usbGet s port.val).st != 0 && (speed != 2 || ssAllowed s port.val))
    (fun s => usbBusReset port.val (speed.val + 1) (wakeFor 3 s)) s

/-- R252: resume signalling, which wakes the part from SLEEP. -/
def execUsbResume (port : Fin 2) (s : State) : Host.Outcome State Fault Refusal :=
  whenever (fun s => usbAlive s && (usbGet s port.val).st == 3) (fun s => usbResume port.val (wakeFor 3 s)) s

/-- R63: the port recognises its own address, does not acknowledge it, and wakes the part. -/
def execTwWakeMatch (port : Fin 2) (addr : BitVec 7) (s : State) : Host.Outcome State Fault Refusal :=
  whenever (fun s => s.pwr.dev == .sleep && twPowered s port && (twGet s port).addr == addr)
    (fun s => wake 1 (twMod s port (fun t => { t with acked := false }))) s

/-! ## Temperature (R383, Table 16-9) -/

/-- THERMAL. -/
def postThermal (what : Nat) (t20 : Int) (s : State) : State := post 0x0D03 0 0 (what + 65536 * unsigned 16 t20) .none s

/-- The hull log's accounting records the temperature of a warning, in the span's TJ_MAX (Table 17-5). -/
def recordHeat (t20 : Int) (s : State) : State :=
  if accounts s && s.pwr.thermalWarn then spanMod s (fun q => { q with tjMax := max q.tjMax t20 }) else s

/-- A housekeeping result of CH20, in 0.1 °C (Table 16-9). -/
def thermalWarning (t20 : Int) (s : State) : State :=
  recordHeat t20 (
    if 1150 ≤ t20 ∧ s.pwr.thermalWarn = false then postThermal 1 t20 (pwrMod s (fun p => { p with thermalWarn := true }))
    else if t20 < 1100 ∧ s.pwr.thermalWarn = true then postThermal 0 t20 (pwrMod s (fun p => { p with thermalWarn := false }))
    else s)

def execThermalWarning (t20 : Int) (s : State) : Host.Outcome State Fault Refusal :=
  whenever (fun s => shelterStates s || s.pwr.dev == .boot) (thermalWarning t20) s

/-- An output goes to its fault state for the die's temperature; OUTPUT_FAULT comes with the recovery. -/
def thermalOutput (s : State) (o : Nat) : State :=
  refreshPump (outMod (stopDriving o s) o (fun q => { q with st := 6, lastFault := 7, awaiting := false, pending := none }))

/-- 135 °C: the pins are in their fault states, the interrupt pins are released and the tick stops. -/
def thermalShutdown (s : State) : State :=
  refreshPins (auxFollow ((List.range 4).foldl thermalOutput
    (phyReset true (serialFault (stopTick (pwrMod s (fun p => { p with thermalShut := true })))))))

def execThermalShutdown (s : State) : Host.Outcome State Fault Refusal :=
  whenever (fun s => supervised s && s.pwr.dev != .sleep && !s.pwr.thermalShut) thermalShutdown s

/-- Outputs return CLAMPED; an engine that has halted keeps its own faults. -/
def thermalReturn (s : State) (o : Nat) : State :=
  if s.eng.halted then s
  else enterOut o 0 (outMod s o (fun q => { q with enabled := false, cause := 4, log := 0 }))

/-- OUTPUT_FAULT with cause 7. -/
def thermalFault (s : State) (o : Nat) : State := postOutFault o 7 (outMod s o (fun q => { q with faults := q.faults + 1 }))

/-- Below 120 °C the tick runs again where the device state has one. -/
def thermalRecover (t20 : Int) (s : State) : State :=
  let s1 := pwrMod s (fun p => { p with thermalShut := false })
  let s2 := if s.eng.halted then s1 else phyReset false (serialDrive (if fabricStates s1 then resumeTick s1 else s1))
  let s3 := auxFollow ((List.range 4).foldl thermalReturn s2)
  refreshPins (postThermal 2 t20 ((List.range 4).foldl thermalFault s3))

def execThermalRecover (t20 : Int) (s : State) : Host.Outcome State Fault Refusal :=
  whenever (fun s => s.pwr.thermalShut && decide (t20 < 1200)) (thermalRecover t20) s

/-! ## POWER_STATUS -/

/-- A measured voltage in mV, from the latest housekeeping result of a channel (R385); open where there is none. -/
def railMv (s : State) (k ch : Nat) : Nat :=
  match s.meas.house.find? (fun e => e.1 == ch) with
  | some e => (divNear e.2.value 1000).toNat
  | none => openValue s k

/-- Table 16-11. -/
def powerStatusResult (s : State) : List Byte :=
  let p := s.pwr
  let w := fun (r : Nat) => b4 (tget 0 p.warnCounts r)
  b1 (devCode p.dev) ++ b1 (flag p.shelter + 2 * flag p.thermalWarn) ++ b1 p.cause ++ b1 p.wake ++ b2 (railMv s 2 25)
    ++ b2 (railMv s 3 24) ++ b2 (railMv s 4 26) ++ b2 (railMv s 5 27) ++ b2 (railMv s 6 23) ++ sb2 (coreTemp s) ++ w 0 ++ w 1 ++ w 2 ++ b2 p.failedChains ++ b1 p.selfTest
    ++ b1 p.watchdog ++ b4 p.bootUs

def execPowerStatus (o : Issue) (p : List Byte) (s : State) : Host.Outcome State Fault Refusal :=
  hostCommand 0x0D01 o p noCheck (reads powerStatusResult) s

end Sys2Proof.Machine
end

