-- ==== Sys2Proof/Machine/Startup.lean ====
section
/-! DEFINITION. Resets and the start (R363 to R366, R379 to R381, R70, R143, R414): what a reset keeps, the loader's
checks, HARBOUR, chart slot selection, the self-test and the end of BOOT. -/

namespace Sys2Proof.Machine

/-! ## Resets (R365, R405) -/

/-- A row that a reset cuts short: a record that fails its check where it was a ring record (R398); what else it would have
written has not been. -/
def tornRow (j : NvmJob) (s : State) : State :=
  match j with
  | .hullRecord r => recordWritten { r with whole := false } s
  | _ => s

/-- The erase that a reset cuts short has lost what the sector held, and counts (R404); whether a row that it cuts short is
whole is free (R405). -/
def cutStep (s : State) : State :=
  match s.fw.begun, s.fw.steps, s.fw.jobs with
  | true, .erase k :: _, _ =>
    eraseLoses k { s with hull := { s.hull with erases := tset 0 s.hull.erases k (tget 0 s.hull.erases k + 1) } }
  | true, _ :: _, j :: _ => let d := drawRound s; if d.1 then nvmStepDone true d.2 else tornRow j d.2
  | _, _, _ => s

/-- Hull-log writes of the part's own that wait in retained RAM. -/
def ownHullJob (j : NvmJob) : Bool :=
  match j with
  | .hullRecord _ => true
  | .hullSummary .own _ => true
  | _ => false

/-- NVM, and in retained RAM the writes that a reset other than power-on leaves waiting. -/
def keptFw (cause : Nat) (f : FwState) : FwState :=
  { FwState.reset with
    image := f.image, running := f.running, counter := f.counter, counterLeft := f.counterLeft, keys := f.keys
    revoked := f.revoked, chartKey := f.chartKey, copyA := f.copyA, copyB := f.copyB
    jobs := if cause = 0 then [] else f.jobs.filter ownHullJob }

/-- The records of a ring that no record of the next one covers yet. -/
def uncovered (ring next : List HullRecord) : Nat :=
  let last := (next.map (·.endHour)).foldl max 0
  (ring.filter (fun r => r.whole && decide (last < r.endHour))).length

/-- R395: power-on leaves the hull log with what its summary and rings hold; any other reset keeps the accounting. -/
def keptHull (cause : Nat) (h : HullState) : HullState :=
  let nvm := { HullState.reset with
    sumA := h.sumA, sumB := h.sumB, ringPlaces := h.ringPlaces, hourly := h.hourly, daily := h.daily, weekly := h.weekly
    restarted := h.restarted, stressPosted := h.stressPosted, wearPosted := h.wearPosted }
  let q := storedHull h
  if cause = 0 then
    { nvm with
      hours := q.hours, stress := q.stress, brownCounts := q.brownCounts, replanFlag := q.replanFlag, horizon := q.horizon
      erases := q.erases, sinceDaily := uncovered h.hourly (h.daily.filter (·.whole))
      sinceWeekly := uncovered h.daily (h.weekly.filter (·.whole)) }
  else
    { nvm with
      sinceDaily := h.sinceDaily, sinceWeekly := h.sinceWeekly
      hours := h.hours, stress := h.stress, brownCounts := h.brownCounts, replanFlag := h.replanFlag
      horizon := h.horizon, erases := h.erases, span := h.span, prediction := h.prediction
      horizonArmed := h.horizonArmed }

/-- The watchdog counter is in retained RAM; a supply level that the outside holds stays as it is. -/
def keptPwr (cause : Nat) (p : PowerState) : PowerState :=
  let q := { PowerState.reset with ioB := p.ioB, vusb := p.vusb }
  if cause = 0 then q
  else { q with cause := cause, watchdog := p.watchdog, warnAvdd := p.warnAvdd, warnVin := p.warnVin
                sawAvdd := p.warnAvdd, sawVin := p.warnVin }

/-- A reset by a cause of Table 16-2: the part is in POR, with NVM and, except at power-on, retained RAM. -/
def resetPart (cause : Nat) (s0 : State) : State :=
  let s := cutStep s0
  let level := decide (cause ≠ 0)
  let slot := fun (q : ChartSlot) => q
  { State.reset with
    cs := { ChartState.reset with slotA := slot s.cs.slotA, slotB := slot s.cs.slotB }
    out := { OutputState.reset with lockL := level && s.out.lockL, lockR := level && s.out.lockR }
    usbA := { Usb.reset with vbus := level && s.usbA.vbus }
    usbB := { Usb.reset with vbus := level && s.usbB.vbus }
    aux := { AuxState.reset with vauxLow := level && s.aux.vauxLow, vauxReset := level && s.aux.vauxReset }
    pwr := keptPwr cause s.pwr
    hull := keptHull cause s.hull
    fw := keptFw cause s.fw
    free := s.free
    pending := s.pending }

/-- A reset whose cause the specification does not state: a free one of Table 16-2 other than power-on. -/
def resetOpen (s : State) : State := resetPart (1 + openValue s 0 % 5) { s with free := s.free + 1 }

/-- IOVDD_B and VUSB33 are present or absent (Table 16-1): bank B's pins and the USB ports follow, and without IOVDD_B an open
transaction on TW1 ends. -/
def ioRails (ioB vusb : Bool) (s : State) : State :=
  let s1 := serialPins (pwrMod s (fun p => { p with ioB := ioB, vusb := vusb }))
  let s2 := if ioB then s1 else twMod s1 1 (fun t => { endTxn t with acked := false })
  refreshPins (usbFollow 1 0 0 (usbFollow 0 0 0 s2))

/-- R363: with `core`, VIN12, AVDD18 and IOVDD_A rise, and the part is held in POR; else only IOVDD_B and VUSB33, which bring
their functions into service or take them out (R362). -/
def execPowerOn (core ioB vusb : Bool) (s : State) : Host.Outcome State Fault Refusal :=
  .next (if core then pwrMod (resetPart 0 s) (fun p => { p with ioB := ioB, vusb := vusb }) else ioRails ioB vusb s)

/-- R364. -/
def execResetNLow (s : State) : Host.Outcome State Fault Refusal := whenever supervised (resetPart 1) s

/-- R365, Table 16-3: AVDD18 (0) or VIN12 (1). -/
def execSupplyResetLevel (rail : Fin 2) (s : State) : Host.Outcome State Fault Refusal :=
  whenever supervised (resetPart (3 + rail.val)) s

/-- R366: a watchdog reset before 10 s in ACTIVE or TEST is counted. The counter is a byte of POWER_STATUS. -/
def watchdogExpire (s : State) : State :=
  resetPart 5 (pwrMod s (fun p => { p with watchdog := if p.settled then p.watchdog else min (p.watchdog + 1) 255 }))

def execWatchdogExpire (s : State) : Host.Outcome State Fault Refusal :=
  whenever (fun s => s.pwr.dev ∈ [Dev.loader, Dev.harbour, Dev.boot, Dev.active, Dev.doze, Dev.test, Dev.recovery])
    watchdogExpire s

/-- R366: 10 s in ACTIVE or TEST. -/
def execWatchdogCounterClear (s : State) : Host.Outcome State Fault Refusal :=
  whenever (fun s => s.pwr.dev ∈ [Dev.active, Dev.test])
    (fun s => pwrMod s (fun p => { p with watchdog := 0, settled := true })) s

/-! ## Reset release (R379, beats 1 to 3) -/

/-- The pins are sampled and the loader starts. COMPAT puts H0 and H1 at level 1 (R43). -/
def release (tw0 tw1 : BitVec 2) (compat testEn ioA33 ioB33 : Bool) (s : State) : State :=
  let s1 := twMod (twMod s 0 (fun t => { t with pins := tw0, addr := twAddress 0 tw0 })) 1
    (fun t => { t with pins := tw1, addr := twAddress 1 tw1 })
  let s2 := [0, 1].foldl (fun t n => ctxMod t n (fun c => { c with level1 := compat })) s1
  pwrMod s2 (fun p =>
    { p with dev := .loader, compat := compat, testEn := testEn, bankA33 := ioA33, bankB33 := ioB33 })

/-- A RESET command that has been answered resets the part first (R41). -/
def execResetRelease (tw0 tw1 : BitVec 2) (compat testEn : Bool) (ioA33 ioB33 : Bool) (s : State) :
    Host.Outcome State Fault Refusal :=
  let t := if !s.pwr.resetDue then s
    else if s.pwr.resetOther then resetOpen s
    else resetPart 2 s
  .next (if t.pwr.dev = .por then release tw0 tw1 compat testEn ioA33 ioB33 t else t)

/-- R143: 64 rising edges of MCLK_IN in 100 µs make it the reference. -/
def execReferenceSelect (edges : Nat) (s : State) : Host.Outcome State Fault Refusal :=
  whenever (fun s => s.pwr.dev == .loader && !s.pwr.refChosen)
    (fun s =>
      let t := pwrMod s (fun p => { p with refChosen := true })
      { t with clk := { t.clk with mclk := decide (64 ≤ edges) } }) s

/-! ## The loader's checks (R379 beat 4, R380, R414) -/

/-- Block 0 as stored. -/
def storedHeader (s : State) : List Byte := tget [] s.fw.image.blocks 0

/-- The image passes its header and block CRC checks. -/
def imageWhole (s : State) : Bool :=
  s.fw.image.factory
    || (headerShape (storedHeader s)
      && (List.range (blockCount (storedHeader s))).all (fun k => k == 0
        || crc32c (tget [] s.fw.image.blocks k) == blockEntry (storedHeader s) k))

/-- The signature holds, with a key that has not been revoked. -/
def imageSigned (s : State) : Bool :=
  s.fw.image.factory || (headerKey s (storedHeader s) && signatureHolds s (storedHeader s))

/-- Why the loader enters HARBOUR, if it does (R380, R414): a complete image that has not been verified is verified
now, and a failure of any kind is then cause 3 (Table 18-6). `margin` is what the margin read of that VERIFY finds. -/
def harbourCause (margin : Bool) (s : State) : Option Nat :=
  let i := s.fw.image
  if 3 ≤ s.pwr.watchdog then some 4
  else if i.aborted || !i.dlDone then some 1
  else if !i.verified then (if imageWhole s && imageSigned s && margin then none else some 3)
  else if !imageWhole s then some 1
  else if !imageSigned s then some 2
  else none

/-- AUX14 drives the jack reference of 900 mV until a chart says otherwise (R328, Table 14-5); where VAUX or a fault makes it
off, from when it resumes (R340). -/
def startDetRef (s : State) : State :=
  let x := detCode 900
  auxMod s 14 (fun a => { a with enabled := true, driving := !s.aux.vauxReset && !s.aux.fault, present := x, target := x })

/-- BUSY clears on both two-wire ports (R55), but where a command committed before still waits for its reply (Table 3-4). -/
def clearBusy (s : State) : State :=
  let waits := fun n => !decide ((ctxGet s n).held = []) || replyOwedTo s n
  twMod (twMod s 0 (fun t => { t with busy := t.busy && waits 0 })) 1 (fun t => { t with busy := t.busy && waits 1 })
def setBusy (s : State) : State := twMod (twMod s 0 (fun t => { t with busy := true })) 1 (fun t => { t with busy := true })

/-- HARBOUR (R380). -/
def enterHarbour (cause : Nat) (s : State) : State :=
  let s1 := clearBusy (startDetRef (pwrMod s (fun p => { p with dev := .harbour, harbourCause := cause })))
  refreshPins (usbFollow 1 0 0 (usbFollow 0 0 0 s1))

/-- BOOT: the image runs, in PROBATION unless it has been confirmed; VCORE is raised to that of the hull log (R367). -/
def enterBoot (s : State) : State :=
  let i := s.fw.image
  let info := if i.factory then ImageInfo.factory else imageInfo (storedHeader s)
  let f1 := { s.fw with
    running := info, seqCode := (List.range 5).foldl (fun t k => tset 0 t k info.fwVersion) s.fw.seqCode
    probation := !i.confirmed, healthy := 0 }
  let s1 := if i.verified then { s with fw := f1 } else ownWrite .imageVerified { s with fw := f1 }
  let s2 := if i.confirmed then ownWrite .counter s1 else s1
  startDetRef (pwrMod s2 (fun p => { p with dev := .boot, vcore := max p.vcore (storedHull s.hull).vcore }))

def imageCheckDone (s : State) : State :=
  let d := drawRound s
  match harbourCause d.1 s with
  | some c => enterHarbour c d.2
  | none => enterBoot d.2

def execImageCheckDone (s : State) : Host.Outcome State Fault Refusal :=
  whenever (fun s => s.pwr.dev == .loader && s.pwr.refChosen) imageCheckDone s

/-! ## Chart slots (R70) -/

/-- Valid slots, the one with the higher GENERATION first, A first where they are equal. -/
def slotOrder (s : State) : List Nat :=
  let valid := fun (n : Nat) => (chartSlot s n).state == 0x3C
  (if s.cs.slotA.generation < s.cs.slotB.generation then [1, 0] else [0, 1]).filter valid

/-- The check that a slot's chart fails. -/
def slotFailure (s : State) (n : Nat) : Option Nat := chartFailure s (chartSlot s n).chartBytes

/-- The base chart of a slot is written into a bank (Table 16-8, beat 7). -/
def bootChart (n : Nat) (s : State) : State :=
  let c := readChart (chartSlot s n).chartBytes
  placeChart c n (startsReduced s c) 0 Bank.empty s

/-- A slot that fails is marked invalid. -/
def markInvalid (n : Nat) (s : State) : State := ownWrite (.slotInvalid n) s

/-- CHART_MISSING, to H0 alone. -/
def chartMissing (s : State) : State :=
  postSel [0] 0x0305 0 0 0 .none { s with cs := { s.cs with missing := true } }

def chartSlotSelect (s : State) : State :=
  match slotOrder s with
  | [] => chartMissing s
  | a :: rest =>
    match slotFailure s a with
    | none => bootChart a s
    | some f =>
      let s1 := markInvalid a s
      match rest with
      | [] => chartMissing s1
      | b :: _ =>
        if slotFailure s1 b = none then post 0x0304 b 0 f .none (bootChart b s1) else chartMissing (markInvalid b s1)

/-- R192, R381: the self-test arms the detectors of the nine chains above −23 dBFS with a hold of 5 ms. -/
def armSelfTest (s : State) : State :=
  let s1 := (List.range 8).foldl (fun t ch => capMod t ch (fun c =>
    { c with armed := true, below := false, level := -2300, hold := 5, run := 0 })) s
  { s1 with cap := { s1.cap with reliefArmed := true } }

/-- R70; the self-test follows it (Table 16-8). -/
def execChartSlotSelect (s : State) : Host.Outcome State Fault Refusal :=
  whenever (fun s => s.pwr.dev == .boot && s.cs.chart.isNone && !s.cs.missing) (fun s => armSelfTest (chartSlotSelect s)) s

/-! ## Self-test (R381) -/

/-- The self-test ends: SARs that fail it, whether the detector of M8's chain has fired, and bank words: 0 good, 1 written
again, 2 a second failure. A chain whose detector has not fired fails. -/
def selfTestEnd (sar : BitVec 2) (reliefFired : Bool) (words : Nat) (s : State) : State :=
  let d := drawReading s
  let s1 := (bitsOf sar.toNat 2).foldl (fun t c => failSar c (signed 16 (d.1.toNat % 65536)) t) d.2
  let failed := maskBy 9 (fun m => if m = 8 then s1.cap.reliefArmed && !reliefFired else (capGet s1 m).armed)
  let s2 := pwrMod s1 (fun p => { p with
    selfTested := true, selfTest := flag (sarFailed s1 0 || sarFailed s1 1) + 2 * flag (failed != 0) + 4 * flag (words != 0)
    failedChains := failed })
  if words = 2 then haltEngine s2 else s2

/-- Both SARs have calibrated and compared, where neither has FAILED (R381). -/
def sarsTested (s : State) : Bool :=
  s.meas.ma.calOnce && s.meas.mb.calOnce && (s.meas.plausOnce || sarFailed s 0 || sarFailed s 1)

def execSelfTestEnd (sar : BitVec 2) (reliefFired : Bool) (words : Fin 3) (s : State) : Host.Outcome State Fault Refusal :=
  whenever (fun s => s.pwr.dev == .boot && !s.pwr.selfTested && (s.cs.chart.isSome || s.cs.missing) && sarsTested s)
    (selfTestEnd sar reliefFired words.val) s

/-! ## The end of BOOT (R379, beat 9) -/

/-- R398: neither summary copy has passed its CRC, and a new summary starts. -/
def newSummary (s : State) : State :=
  if summaryOk s.hull then s
  else
    let hours := ((hullRing s 1 ++ hullRing s 2 ++ hullRing s 3).map (·.endHour)).foldl max 0
    askSummary (pwrMod { s with hull := { s.hull with
      hours := hours, stress := 0, brownCounts := [], erases := [], replanFlag := none, horizon := 17520
      stressPosted := 0, wearPosted := [], restarted := true } }
      (fun p => { p with vcore := 8 }))

/-- HULL_RESET, after STARTED. -/
def postHullReset (was : Bool) (s : State) : State := if was then s else post 0x0D0B 0 0 s.hull.hours .none s

/-- STARTED (Table 16-12). -/
def postStarted (s : State) : State :=
  post 0x0D04 (devCode s.pwr.dev) 0 (s.pwr.cause + 256 * s.pwr.selfTest + 65536 * s.pwr.watchdog) .none s

/-- VARIANT_CHANGED of a chart that starts in the reduced variant (R392). -/
def postStartVariant (s : State) : State := if s.cs.reduced then post 0x0303 1 0 1 .none s else s

/-- ACTIVE, or TEST, `us` µs after reset release. -/
def bootComplete (us : Nat) (s : State) : State :=
  let s0 := if s.pwr.testEn then s else disarmAll s
  let s1 := newSummary (settingsLoad s0)
  let s2 := clearBusy (resumeTick (pwrMod s1 (fun p =>
    { p with dev := if p.testEn then .test else .active, bootUs := min us 0xFFFFFFFF })))
  let s3 := postStartVariant (postHullReset (summaryOk s.hull) (postStarted s2))
  let s4 := usbFollow 1 0 0 (usbFollow 0 0 0 s3)
  refreshPins (nvmStart (shelterIfWarned s4))

def execBootComplete (us : Nat) (s : State) : Host.Outcome State Fault Refusal :=
  whenever (fun s => s.pwr.dev == .boot && (s.cs.chart.isSome || s.cs.missing) && s.pwr.selfTested) (bootComplete us) s

end Sys2Proof.Machine
end

