-- ==== Sys2Proof/Machine/Activate.lean ====
section
/-! DEFINITION. Activation of a verified image: the wait, the gangway block, the CP absence and its end, and the
sequencers' reload (R418 to R422). -/

namespace Sys2Proof.Machine

/-! ## The wait (R418) -/

/-- A chart or settings write that is in progress. -/
def writesChartOrSettings (j : NvmJob) : Bool :=
  match j with
  | .chartErase _ _ _ => true
  | .chartClose _ _ _ => true
  | .settingsErase _ => true
  | .settingsSave _ _ => true
  | .confirm _ _ => true
  | .chartKey _ _ _ => false
  | .hullSummary _ _ => false
  | .hullRecord _ => false
  | .imageVerified => false
  | .slotInvalid _ => true
  | .counter => false

/-- Nothing that an activation waits for is in progress. -/
def activationClear (s : State) : Bool :=
  !(List.range 64).any (fun n => decide ((ovGet s n).st ∈ [1, 2, 4, 5, 6])) && s.cs.load.isNone && decide (s.cs.loads = [])
    && s.cs.change.isNone && s.cs.select.isNone && !relayLate s s.cap.relay.input && !s.fw.jobs.any writesChartOrSettings

/-! ## The gangway block (R420, Table 18-8) -/

/-- What the running firmware writes: the preamble's fields. The body is the state itself. -/
def gangwayBlock (s : State) : Gangway :=
  { format := s.fw.running.gangwayFormat, log := s.host.log, supervisor := s.host.supervisor
    opens := maskBy 5 (isOpen s), levels := maskBy 5 (fun n => (ctxGet s n).level1), reduced := s.cs.reduced
    fromVersion := s.fw.running.fwVersion
    chartId := match s.cs.chart with | some c => c.chartId | none => openValue s 0 }

/-- Steps 2 to 4: the CP is absent from here on. -/
def beginAbsence (s : State) : State :=
  let s1 := fwMod s (fun f => { f with gangway := some (gangwayBlock s) })
  setBusy { s1 with host := { s1.host with absent := true }, free := s1.free + 1 }

/-- The command that asked, if one did, hears of the end. -/
def tellActivate (w : Option Waiter) (status : Nat) (s : State) : State :=
  match w with
  | some x => complete x status s
  | none => s

/-- 2 s have passed without the conditions holding together: nothing changes (R418, Table 18-13). -/
def activateTimeout (w : Option Waiter) (log : Nat) (s : State) : State :=
  postFwState 9 log (tellActivate w stTimeout (fwMod s (fun f => { f with activate := none })))

/-- R418: the activation proceeds, or its 2 s expire. -/
def execFwActivateProceed (expired : Bool) (s : State) : Host.Outcome State Fault Refusal :=
  .next (match s.fw.activate with
    | some (w, log) =>
      if !cpRuns s || s.fw.session.st != 5 then s
      else if activationClear s then beginAbsence s
      else if expired then activateTimeout w log s
      else s
    | none => s)

/-! ## The end of the absence (R418 to R421) -/

/-- The new image runs: PROBATION, the session IDLE, its sequencers marked (R422). -/
def startImage (whole : Bool) (s : State) : State :=
  let info := imageInfo (storedHeader s)
  fwMod s (fun f => { f with
    running := info, probation := true, healthy := 0, session := Session.idle, activate := none, gangway := none
    gangwayOutcome := flag (!whole), reload := info.reloadNow % 16 })

/-- What the body of the block held is lost: event queues and masks, queued selections and a relay rotation. -/
def dropBody (s : State) : State :=
  let s1 := { s with host := { s.host with
    ctxs := tmapKeys CtxState.closed s.host.ctxs (fun _ c => { c with queue := [], mask := 0xFFFE }) } }
  let s2 := s1.par.sections.foldl (fun t x => dropQueued x.2.queued t) s1
  let s3 := s2.par.lines.foldl (fun t x => dropQueued x.2.queued t) s2
  let par := { s3.par with
    sections := tmapKeys Section.reset s3.par.sections (fun _ q => { q with queued := none })
    lines := tmapKeys DelayLine.absent s3.par.lines (fun _ q => { q with queued := none }) }
  relayMod { s3 with par := par } (fun r => { r with rotating := false, todo := [], beat := 0, held := false, queued := [] })

/-- The preamble alone is taken (R421). -/
def preambleOnly (s : State) : State :=
  let s1 := dropBody (loadOptions s)
  match s1.cs.chart with
  | some c => placeMoorings c 0 s1
  | none => s1

/-- Events that hardware could not record count as lost in every open context (Table 18-7, R38). -/
def addLost (k : Nat) (s : State) (n : Nat) : State :=
  if !isOpen s n || k == 0 then s
  else ctxMod s n (fun c =>
    let e : Event := { code := 0x0201, inst := 0, seq := c.seq, stamp := stampOf s, log := 0, data := min k 0xFFFFFFFF }
    let q := match c.queue.getLast? with
      | some l => if l.code = 0x0201 then c.queue.dropLast ++ [{ l with data := min (l.data + k) 0xFFFFFFFF }]
        else if c.queue.length < 64 then c.queue ++ [e] else c.queue
      | none => [e]
    { c with queue := q, seq := (c.seq + k) % 256 })

/-- The events that hardware recorded are posted with their STAMP, in order. -/
def deliverRaised (s : State) : State :=
  let rs := s.host.raised
  let k := s.host.raisedLost
  let s1 := { s with host := { s.host with raised := [], raisedLost := 0 } }
  let s2 := rs.foldl (fun t r => deliver r.sel r.code r.inst r.stamp r.log r.data r.concern t) s1
  refreshPins ((List.range 5).foldl (addLost k) s2)

/-- A packet that has reached H4 meanwhile is checked now. -/
def takeLate (s : State) (e : Option (BitVec 64 × BitVec 16) × List Byte) : State :=
  match e.1 with
  | some v => vendorPacket v.1 v.2 e.2 s
  | none => takePacket none 4 e.2 e.2.length s

def deliverLate (s : State) : State :=
  let l := s.host.late
  l.foldl takeLate { s with host := { s.host with late := [] } }

/-- GANGWAY (Table 18-13). -/
def postGangway (whole : Bool) (format log : Nat) (s : State) : State :=
  post 0x0E03 0 log (flag (!whole) + 65536 * format) (.res [0x0B00]) s

/-- The new image has read the block: the CP is back. -/
def endAbsence (g : Gangway) (w : Option Waiter) (log : Nat) (s : State) : State :=
  let info := imageInfo (storedHeader s)
  let whole := decide (info.gangwayMin ≤ g.format) && decide (g.format ≤ info.gangwayFormat)
  let s1 := startImage whole s
  let s2 := clearBusy { s1 with host := { s1.host with absent := false } }
  let s3 := deliverLate (deliverRaised (if whole then s2 else preambleOnly s2))
  nvmStart (postGangway whole g.format log (postFwState 5 log (tellActivate w stOk s3)))

/-- R418, R421: a block that fails its check during the copy, or a preamble that fails its CRC, resets the part. -/
def execGangwayTake (preambleOk copyOk : Bool) (s : State) : Host.Outcome State Fault Refusal :=
  .next (match s.fw.gangway, s.fw.activate with
    | some g, some (w, log) =>
      if !s.host.absent then s
      else if preambleOk && copyOk then endAbsence g w log s
      else resetOpen s
    | _, _ => s)

/-- A USB port stands at a safe point: suspended, or right after a bus reset, with no address (Table 1-4). -/
def usbSafe (u : Usb) : Bool := u.st == 3 || ((u.st == 1 || u.st == 4) && u.addr == 0 && u.cfg == 0)

/-- The safe reload point of a sequencer (Table 1-4): 0 USB A, 1 USB B, 2 MAC/AVTP, 3 SAR. A gPTP message is one row, so
that every point between rows is between messages. -/
def safePoint (seq : Nat) (s : State) : Bool :=
  match seq with
  | 0 => usbSafe s.usbA
  | 1 => usbSafe s.usbB
  | 2 => true
  | _ => s.meas.running.isNone && decide (s.meas.left = []) && decide (s.meas.sysLeft = []) && decide (s.meas.pairs = [])
    && s.meas.ma.busy.isNone && s.meas.mb.busy.isNone

/-- R18, R422: a marked sequencer reloads from the new image at its safe point. -/
def execSequencerReload (seq : Fin 4) (s : State) : Host.Outcome State Fault Refusal :=
  whenever (fun s => bit s.fw.reload seq.val && safePoint seq.val s)
    (fun s => fwMod s (fun f =>
      { f with reload := f.reload - 2 ^ seq.val, seqCode := tset 0 f.seqCode seq.val f.running.fwVersion })) s

end Sys2Proof.Machine
end

