-- ==== Sys2Proof/Machine/Dfu.lean ====
section
/-! DEFINITION. DFU downloads: the requests of a port in DFU mode and the update session they map onto (R432,
Table 18-11). State and status codes are those of USB DFU 1.1. -/

namespace Sys2Proof.Machine

/-- A request that a port in DFU mode takes (R269). -/
def dfuOnly (p : Nat) (act : State → State) (s : State) : State :=
  if (usbGet s p).st = 4 then act s else usbStall p s

/-- The port goes to dfuERROR with a status, and the request is stalled. -/
def dfuError (p status : Nat) (s : State) : State :=
  usbStall p (usbMod s p (fun u => { u with dfuState := 10, dfuStatus := status }))

/-- The download's context: the port's own (R432). -/
def dfuCtx (p : Nat) : Ctx := ctxOf (2 + p)

/-- The first DFU_DNLOAD opens the session, as FW_BEGIN. -/
def dfuOpens (s : State) (p : Nat) : Bool := s.fw.session.owner != some (dfuCtx p) || decide (s.fw.session.st ∈ [0, 6])

/-- Block k of 4,096 bytes, complete as it comes (R412, R413); `data` is accepted before its write is done. -/
def dfuBlock (p k : Nat) (data : List Byte) (s : State) : State :=
  let q := s.fw.session
  if !decide (q.st ∈ [1, 2]) || (q.st == 1 && k != 0) then dfuError p 15 s
  else if q.st = 2 ∧ blockCount q.header ≤ k then dfuError p 8 s
  else if 2 ≤ q.jobs.length then usbHold p (.dfuDnload k data) s
  else
    match blockRefusal s k data with
    | some _ => dfuError p (if q.st = 1 then 2 else 7) (blockRefused 0 s)
    | none =>
      let s1 := blockAccepted k data (.dfu p) (dropChunks k s)
      if nvmHeld s1 then usbNak p (usbMod s1 p (fun u => { u with dfuState := 4, dfuStatus := 0 }))
      else usbAnswer p [] (usbMod s1 p (fun u => { u with dfuState := 4, dfuStatus := 0 }))

/-- wLength 0: the download ends and manifestation runs VERIFY. -/
def dfuEnd (p : Nat) (s : State) : State :=
  if s.fw.session.owner = some (dfuCtx p) ∧ s.fw.session.st = 3 then
    usbAnswer p [] (usbMod (startVerify (.dfu p) s) p (fun u => { u with dfuState := 7, dfuStatus := 0 }))
  else dfuError p 9 s

/-- DFU_DNLOAD. -/
def dfuDnload (p k : Nat) (data : List Byte) (s : State) : State :=
  if !decide ((usbGet s p).dfuState ∈ [2, 5]) then dfuError p 14 s
  else if data = [] then dfuEnd p s
  else if data.length ≠ 4096 then dfuError p 15 s
  else if !dfuOpens s p then dfuBlock p k data s
  else if fwBeginAllowed s then dfuBlock p k data (fwBegin (dfuCtx p) 0 s)
  else dfuError p 15 s

def execDfuDnload (port : Fin 2) (block : BitVec 16) (data : List Byte) (s : State) : Host.Outcome State Fault Refusal :=
  .next (cpRequest port.val (.dfuDnload block.toNat data) (dfuOnly port.val (dfuDnload port.val block.toNat data)) s)

/-- The port re-enumerates with its runtime descriptors. -/
def dfuRuntime (p : Nat) (s : State) : State :=
  postUsbState p 1 0 (usbMod s p (fun u => { u with
    st := 1, dfuMode := false, manifested := false, dfuState := 0, dfuStatus := 0 }))

/-- R432: the bus reset after manifestation starts activation as a command of no context; in HARBOUR it resets the
part. The bus reset's other effects are those of USB_BUS_RESET. -/
def dfuManifestReset (p : Nat) (s : State) : State :=
  if s.pwr.dev = .harbour then
    pwrMod (usbMod s p (fun u => { u with manifested := false })) (fun q => { q with resetDue := true, resetOther := true })
  else
    let s1 := if (usbGet s p).dfuMode then dfuRuntime p s else usbMod s p (fun u => { u with manifested := false })
    if s1.fw.session.st = 5 ∧ s1.fw.activate.isNone then fwMod (takeLog s1) (fun f => { f with activate := some (none, s1.host.log) })
    else s1

def execDfuManifestReset (port : Fin 2) (s : State) : Host.Outcome State Fault Refusal :=
  whenever (fun s => cpRuns s && (usbGet s port.val).manifested) (dfuManifestReset port.val) s

/-- The port is in dfuIDLE without an error. -/
def dfuIdle (p : Nat) (s : State) : State := usbMod s p (fun u => { u with dfuState := 2, dfuStatus := 0 })

/-- DFU_ABORT is FW_ABORT; it is refused during VERIFY. -/
def dfuAbort (p : Nat) (s : State) : State :=
  if s.fw.session.owner ≠ some (dfuCtx p) then usbAnswer p [] (dfuIdle p s)
  else if s.fw.session.st = 4 then usbStall p s
  else usbAnswer p [] (dfuIdle p (fwAbort 0 s))

def execDfuAbort (port : Fin 2) (s : State) : Host.Outcome State Fault Refusal :=
  .next (cpRequest port.val .dfuAbort (dfuOnly port.val (dfuAbort port.val)) s)

/-- R432: the session is kept, so that the host can send a block again. -/
def dfuClear (p : Nat) (s : State) : State := usbAnswer p [] (dfuIdle p s)

def execDfuClrstatus (port : Fin 2) (s : State) : Host.Outcome State Fault Refusal :=
  .next (cpRequest port.val .dfuClrstatus (dfuOnly port.val (dfuClear port.val)) s)

/-! ## Requests that have waited for the CP (R255) -/

/-- What the CP does for a request that was held. -/
def usbServe (p : Nat) (h : UsbHeld) (s : State) : State :=
  match h with
  | .setConfiguration cfg => setConfigurationDo p cfg.toNat s
  | .setInterface ifc alt => setInterfaceDo p ifc.toNat alt.toNat s
  | .frequency entity hz => frequencyDo p entity.toNat hz s
  | .feature unit channel isMute value => featureDo p unit.toNat channel.toNat isMute value s
  | .classRequest get r value index length => usbClass p get r.toNat value.toNat index.toNat length.toNat s
  | .dfuDetach => dfuDetachDo p s
  | .dfuDnload k data => dfuOnly p (dfuDnload p k data) s
  | .dfuAbort => dfuOnly p (dfuAbort p) s
  | .dfuClrstatus => dfuOnly p (dfuClear p) s

/-- The request of a port that the CP can execute now; a block waits while two others are being written. -/
def usbDue (s : State) (p : Nat) : Option UsbHeld :=
  (usbGet s p).waiting.filter (fun h => match h with
    | .dfuDnload _ _ => decide (s.fw.session.jobs.length < 2)
    | _ => true)

/-- The CP executes the requests that wait, of USB A and then of USB B (DESIGN CHOICE, log entry 121). -/
def serveUsb (s : State) (p : Nat) : State :=
  match usbDue s p with
  | some h => usbServe p h (usbSetup p s)
  | none => s

end Sys2Proof.Machine
end

