-- ==== Sys2Proof/Machine/CommandTake.lean ====
section
/-! DEFINITION. The CP's turn: which waiting command it takes next, and its execution by opcode (R30, R82, R371). -/

namespace Sys2Proof.Machine

/-- The meaning of each opcode (Tables 2-8, 2-10, 4-11, 5-9, 6-12, 7-12, 8-11, 9-14, 10-7, 11-8, 13-12, 14-7, 15-8,
16-11, 17-6, 18-12). An opcode that no table defines never waits (R27). -/
def hostDispatch (op : Nat) (o : Issue) (p : List Byte) (s : State) : Host.Outcome State Fault Refusal :=
  match op with
  | 0x0101 => execHello o p s
  | 0x0102 => execBye o p s
  | 0x0103 => execGetInfo o p s
  | 0x0104 => execGetState o p s
  | 0x0105 => execClaim o p s
  | 0x0106 => execRelease o p s
  | 0x0107 => execForceRelease o p s
  | 0x0108 => execGetMoorings o p s
  | 0x0109 => execSetSupervisor o p s
  | 0x010A => execIrqAssign o p s
  | 0x010B => execGetLogNumber o p s
  | 0x010C => execEcho o p s
  | 0x010D => execReset o p s
  | 0x0201 => execEventRead o p s
  | 0x0202 => execEventAck o p s
  | 0x0203 => execEventSubscribe o p s
  | 0x0204 => execEventStatus o p s
  | 0x0205 => execEventFlush o p s
  | 0x0301 => execChartInfo o p s
  | 0x0302 => execOverlayActivate o p s
  | 0x0303 => execOverlayDeactivate o p s
  | 0x0304 => execOverlaySwitch o p s
  | 0x0305 => execOverlayStatus o p s
  | 0x0306 => execBindingSet o p s
  | 0x0307 => execBindingList o p s
  | 0x0308 => execSetVariant o p s
  | 0x0309 => execChartWriteOpen o p s
  | 0x030A => execChartWriteData o p s
  | 0x030B => execChartWriteClose o p s
  | 0x030C => execChartSelect o p s
  | 0x030D => execChartRead o p s
  | 0x0401 => execSetParam o p s
  | 0x0402 => execSetParamBlock o p s
  | 0x0403 => execGetParam o p s
  | 0x0404 => execSetRampTime o p s
  | 0x0405 => execBqWrite o p s
  | 0x0406 => execBqSelect o p s
  | 0x0407 => execBqRead o p s
  | 0x0408 => execDelaySet o p s
  | 0x0409 => execDelayRead o p s
  | 0x040A => execLimiterSet o p s
  | 0x040B => execLimiterRead o p s
  | 0x040C => execProtectSet o p s
  | 0x040D => execProtectRead o p s
  | 0x040E => execMeterRead o p s
  | 0x040F => execClipRead o p s
  | 0x0410 => execEngineStatus o p s
  | 0x0501 => execClockStatus o p s
  | 0x0502 => execDomainStatus o p s
  | 0x0503 => execDomainSetRef o p s
  | 0x0504 => execDomainSetRate o p s
  | 0x0505 => execPllDiscipline o p s
  | 0x0506 => execAsrcStatus o p s
  | 0x0507 => execConvoyStatus o p s
  | 0x0508 => execConvoySetMode o p s
  | 0x0601 => execSaiStatus o p s
  | 0x0602 => execSaiSlotMask o p s
  | 0x0603 => execSpdifRxStatus o p s
  | 0x0604 => execSpdifCsRead o p s
  | 0x0605 => execSpdifCsWrite o p s
  | 0x0606 => execSpdifUserRead o p s
  | 0x0607 => execSpdifUserWrite o p s
  | 0x0608 => execSpdifValiditySet o p s
  | 0x0701 => execUsbStatus o p s
  | 0x0702 => execUsbConnect o p s
  | 0x0703 => execUsbHidSend o p s
  | 0x0704 => execUsbRemoteWake o p s
  | 0x0705 => execUsbStreamStatus o p s
  | 0x0801 => execNetStatus o p s
  | 0x0802 => execNetCounters o p s
  | 0x0803 => execNetMdio o p s
  | 0x0804 => execGptpStatus o p s
  | 0x0805 => execGptpSet o p s
  | 0x0806 => execStreamStatus o p s
  | 0x0807 => execStreamConnect o p s
  | 0x0808 => execStreamDisconnect o p s
  | 0x0809 => execCrfStatus o p s
  | 0x080A => execMsrpStatus o p s
  | 0x080B => execDiscRead o p s
  | 0x080C => execDiscStatus o p s
  | 0x0901 => execCaptureStatus o p s
  | 0x0902 => execPgaSet o p s
  | 0x0903 => execDcbSet o p s
  | 0x0904 => execDelayTrimSet o p s
  | 0x0905 => execMicbiasSet o p s
  | 0x0906 => execMicbiasStatus o p s
  | 0x0907 => execRelayStatus o p s
  | 0x0908 => execRelaySuspend o p s
  | 0x0909 => execRelayStart o p s
  | 0x090A => execThresholdArm o p s
  | 0x090B => execThresholdDisarm o p s
  | 0x090C => execRelayCorrections o p s
  | 0x0A01 => execOutputStatus o p s
  | 0x0A02 => execOutputEnable o p s
  | 0x0A03 => execRestoreOutputs o p s
  | 0x0A04 => execSetAutoRestore o p s
  | 0x0A05 => execJackStatus o p s
  | 0x0A06 => execButtonWindowsSet o p s
  | 0x0A07 => execSpkFaultClear o p s
  | 0x0A08 => execJackReclassify o p s
  | 0x0B01 => execAuxStatus o p s
  | 0x0B02 => execAuxConfig o p s
  | 0x0B03 => execAuxEnable o p s
  | 0x0B04 => execAuxWrite o p s
  | 0x0B05 => execAuxTimerSet o p s
  | 0x0B06 => execAuxQueueConfig o p s
  | 0x0B07 => execAuxQueueWrite o p s
  | 0x0B08 => execAuxQueueControl o p s
  | 0x0B09 => execAuxReadbackSet o p s
  | 0x0C01 => execMeasStatus o p s
  | 0x0C02 => execMeasScanSet o p s
  | 0x0C03 => execMeasScanControl o p s
  | 0x0C04 => execMeasScanRead o p s
  | 0x0C05 => execMeasLatest o p s
  | 0x0C06 => execMeasInjSet o p s
  | 0x0C07 => execMeasInjControl o p s
  | 0x0C08 => execMeasInjRead o p s
  | 0x0C09 => execMeasCalibrate o p s
  | 0x0C0A => execMeasCalRead o p s
  | 0x0D01 => execPowerStatus o p s
  | 0x0D02 => execPowerStateSet o p s
  | 0x0D03 => execSpeedStatus o p s
  | 0x0D04 => execHullSummary o p s
  | 0x0D05 => execHullRead o p s
  | 0x0D06 => execHullPredict o p s
  | 0x0D07 => execHullSetHorizon o p s
  | 0x0D08 => execHullFlush o p s
  | 0x0E01 => execFwStatus o p s
  | 0x0E02 => execFwBegin o p s
  | 0x0E03 => execFwWriteData o p s
  | 0x0E04 => execFwVerify o p s
  | 0x0E05 => execFwActivate o p s
  | 0x0E06 => execFwConfirm o p s
  | 0x0E07 => execFwAbort o p s
  | 0x0E08 => execSettingsStatus o p s
  | 0x0E09 => execSettingsSave o p s
  | 0x0E0A => execSettingsDiscardOld o p s
  | 0x0E0B => execSettingsErase o p s
  | 0x0E0C => execSetAutoConfirm o p s
  | 0x0E0D => execKeyStatus o p s
  | 0x0E0E => execChartKeyProgram o p s
  | _ => .next s

/-- The context's next command can be taken now: it is passed over where it needs an NVM write that is held (R371). -/
def takeable (s : State) (n : Nat) : Bool :=
  match (ctxGet s n).held with
  | [] => false
  | h :: _ => h.failed.isNone && cpServes s (ctxOf n) && !(nvmHeld s && needsNvm s h.opcode h.payload)

/-- R30: the turn starts with the context after the one served last. -/
def turnOrder (s : State) : List Nat := (List.range 5).map (fun k => (s.host.served + 1 + k) % 5)

/-- The command leaves its queue. At H4 its reply goes to the controller that sent it (R323). -/
def takeHeld (n : Nat) (h : Held) (s : State) : State :=
  let s1 := ctxMod s n (fun c => { c with held := c.held.drop 1, replies := if n = 4 then [] else c.replies })
  { s1 with host := { s1.host with served := n, vendor := if n = 4 then h.source else s1.host.vendor } }

/-- H4 has been opened by another controller since the packet came: it is refused without execution (R22, R321). -/
def foreignHeld (n : Nat) (h : Held) (s : State) : Bool := n == 4 && h.source.any (fun v => foreign s v.1)

def runHeld (n : Nat) (h : Held) (s : State) : Host.Outcome State Fault Refusal :=
  if foreignHeld n h s then .next (flushReplies (placeReply n (failReply h stDenied) (takeHeld n h s)))
  else match hostDispatch h.opcode { ctx := ctxOf n, tag := h.tag, v1 := h.v1 } h.payload (takeHeld n h s) with
  | .next t => .next (flushReplies t)
  | .fault f => .fault f
  | .refused r => .refused r

/-- USB requests that the CP held while it did not run go first, after its own work (R82, R261). -/
def usbFirst (s : State) : Bool :=
  cpRuns s && !ownDue s && [0, 1].any (fun p => (usbDue s p).isSome)

/-- So does what has waited on the network (R322, Table 18-7). -/
def netFirst (s : State) : Bool := cpRuns s && !ownDue s && !s.net.waiting.isEmpty

/-- R30: the CP takes the next waiting command. Work of no context goes before it (R82), and so do held USB requests (R255) and
what waits on the network (DESIGN CHOICE, log entry 121). -/
def execCommandTake (s : State) : Host.Outcome State Fault Refusal :=
  if usbFirst s then .next (serveUsb (serveUsb s 0) 1)
  else if netFirst s then .next (serveNet s)
  else match (turnOrder s).find? (takeable s) with
  | none => .next s
  | some n =>
    match (ctxGet s n).held with
    | [] => .next s
    | h :: _ => runHeld n h s

end Sys2Proof.Machine
end

