-- ==== Sys2Proof/Machine/Dispatch.lean ====
section
/-! DEFINITION. One arm per command: a direct call of its meaning. -/

namespace Sys2Proof.Machine

/-- The effect of a command on everything but the queue of waiting commands. -/
def exec (i : Instr) (s : State) : Host.Outcome State Fault Refusal :=
  match i with
  | .hello o p => Sys2Proof.Machine.execHello o p s
  | .bye o p => Sys2Proof.Machine.execBye o p s
  | .getInfo o p => Sys2Proof.Machine.execGetInfo o p s
  | .getState o p => Sys2Proof.Machine.execGetState o p s
  | .claim o p => Sys2Proof.Machine.execClaim o p s
  | .release o p => Sys2Proof.Machine.execRelease o p s
  | .forceRelease o p => Sys2Proof.Machine.execForceRelease o p s
  | .getMoorings o p => Sys2Proof.Machine.execGetMoorings o p s
  | .setSupervisor o p => Sys2Proof.Machine.execSetSupervisor o p s
  | .irqAssign o p => Sys2Proof.Machine.execIrqAssign o p s
  | .getLogNumber o p => Sys2Proof.Machine.execGetLogNumber o p s
  | .echo o p => Sys2Proof.Machine.execEcho o p s
  | .reset o p => Sys2Proof.Machine.execReset o p s
  | .eventRead o p => Sys2Proof.Machine.execEventRead o p s
  | .eventAck o p => Sys2Proof.Machine.execEventAck o p s
  | .eventSubscribe o p => Sys2Proof.Machine.execEventSubscribe o p s
  | .eventStatus o p => Sys2Proof.Machine.execEventStatus o p s
  | .eventFlush o p => Sys2Proof.Machine.execEventFlush o p s
  | .chartInfo o p => Sys2Proof.Machine.execChartInfo o p s
  | .overlayActivate o p => Sys2Proof.Machine.execOverlayActivate o p s
  | .overlayDeactivate o p => Sys2Proof.Machine.execOverlayDeactivate o p s
  | .overlaySwitch o p => Sys2Proof.Machine.execOverlaySwitch o p s
  | .overlayStatus o p => Sys2Proof.Machine.execOverlayStatus o p s
  | .bindingSet o p => Sys2Proof.Machine.execBindingSet o p s
  | .bindingList o p => Sys2Proof.Machine.execBindingList o p s
  | .setVariant o p => Sys2Proof.Machine.execSetVariant o p s
  | .chartWriteOpen o p => Sys2Proof.Machine.execChartWriteOpen o p s
  | .chartWriteData o p => Sys2Proof.Machine.execChartWriteData o p s
  | .chartWriteClose o p => Sys2Proof.Machine.execChartWriteClose o p s
  | .chartSelect o p => Sys2Proof.Machine.execChartSelect o p s
  | .chartRead o p => Sys2Proof.Machine.execChartRead o p s
  | .setParam o p => Sys2Proof.Machine.execSetParam o p s
  | .setParamBlock o p => Sys2Proof.Machine.execSetParamBlock o p s
  | .getParam o p => Sys2Proof.Machine.execGetParam o p s
  | .setRampTime o p => Sys2Proof.Machine.execSetRampTime o p s
  | .bqWrite o p => Sys2Proof.Machine.execBqWrite o p s
  | .bqSelect o p => Sys2Proof.Machine.execBqSelect o p s
  | .bqRead o p => Sys2Proof.Machine.execBqRead o p s
  | .delaySet o p => Sys2Proof.Machine.execDelaySet o p s
  | .delayRead o p => Sys2Proof.Machine.execDelayRead o p s
  | .limiterSet o p => Sys2Proof.Machine.execLimiterSet o p s
  | .limiterRead o p => Sys2Proof.Machine.execLimiterRead o p s
  | .protectSet o p => Sys2Proof.Machine.execProtectSet o p s
  | .protectRead o p => Sys2Proof.Machine.execProtectRead o p s
  | .meterRead o p => Sys2Proof.Machine.execMeterRead o p s
  | .clipRead o p => Sys2Proof.Machine.execClipRead o p s
  | .engineStatus o p => Sys2Proof.Machine.execEngineStatus o p s
  | .clockStatus o p => Sys2Proof.Machine.execClockStatus o p s
  | .domainStatus o p => Sys2Proof.Machine.execDomainStatus o p s
  | .domainSetRef o p => Sys2Proof.Machine.execDomainSetRef o p s
  | .domainSetRate o p => Sys2Proof.Machine.execDomainSetRate o p s
  | .pllDiscipline o p => Sys2Proof.Machine.execPllDiscipline o p s
  | .asrcStatus o p => Sys2Proof.Machine.execAsrcStatus o p s
  | .convoyStatus o p => Sys2Proof.Machine.execConvoyStatus o p s
  | .convoySetMode o p => Sys2Proof.Machine.execConvoySetMode o p s
  | .saiStatus o p => Sys2Proof.Machine.execSaiStatus o p s
  | .saiSlotMask o p => Sys2Proof.Machine.execSaiSlotMask o p s
  | .spdifRxStatus o p => Sys2Proof.Machine.execSpdifRxStatus o p s
  | .spdifCsRead o p => Sys2Proof.Machine.execSpdifCsRead o p s
  | .spdifCsWrite o p => Sys2Proof.Machine.execSpdifCsWrite o p s
  | .spdifUserRead o p => Sys2Proof.Machine.execSpdifUserRead o p s
  | .spdifUserWrite o p => Sys2Proof.Machine.execSpdifUserWrite o p s
  | .spdifValiditySet o p => Sys2Proof.Machine.execSpdifValiditySet o p s
  | .usbStatus o p => Sys2Proof.Machine.execUsbStatus o p s
  | .usbConnect o p => Sys2Proof.Machine.execUsbConnect o p s
  | .usbHidSend o p => Sys2Proof.Machine.execUsbHidSend o p s
  | .usbRemoteWake o p => Sys2Proof.Machine.execUsbRemoteWake o p s
  | .usbStreamStatus o p => Sys2Proof.Machine.execUsbStreamStatus o p s
  | .netStatus o p => Sys2Proof.Machine.execNetStatus o p s
  | .netCounters o p => Sys2Proof.Machine.execNetCounters o p s
  | .netMdio o p => Sys2Proof.Machine.execNetMdio o p s
  | .gptpStatus o p => Sys2Proof.Machine.execGptpStatus o p s
  | .gptpSet o p => Sys2Proof.Machine.execGptpSet o p s
  | .streamStatus o p => Sys2Proof.Machine.execStreamStatus o p s
  | .streamConnect o p => Sys2Proof.Machine.execStreamConnect o p s
  | .streamDisconnect o p => Sys2Proof.Machine.execStreamDisconnect o p s
  | .crfStatus o p => Sys2Proof.Machine.execCrfStatus o p s
  | .msrpStatus o p => Sys2Proof.Machine.execMsrpStatus o p s
  | .discRead o p => Sys2Proof.Machine.execDiscRead o p s
  | .discStatus o p => Sys2Proof.Machine.execDiscStatus o p s
  | .captureStatus o p => Sys2Proof.Machine.execCaptureStatus o p s
  | .pgaSet o p => Sys2Proof.Machine.execPgaSet o p s
  | .dcbSet o p => Sys2Proof.Machine.execDcbSet o p s
  | .delayTrimSet o p => Sys2Proof.Machine.execDelayTrimSet o p s
  | .micbiasSet o p => Sys2Proof.Machine.execMicbiasSet o p s
  | .micbiasStatus o p => Sys2Proof.Machine.execMicbiasStatus o p s
  | .relayStatus o p => Sys2Proof.Machine.execRelayStatus o p s
  | .relaySuspend o p => Sys2Proof.Machine.execRelaySuspend o p s
  | .relayStart o p => Sys2Proof.Machine.execRelayStart o p s
  | .thresholdArm o p => Sys2Proof.Machine.execThresholdArm o p s
  | .thresholdDisarm o p => Sys2Proof.Machine.execThresholdDisarm o p s
  | .relayCorrections o p => Sys2Proof.Machine.execRelayCorrections o p s
  | .outputStatus o p => Sys2Proof.Machine.execOutputStatus o p s
  | .outputEnable o p => Sys2Proof.Machine.execOutputEnable o p s
  | .restoreOutputs o p => Sys2Proof.Machine.execRestoreOutputs o p s
  | .setAutoRestore o p => Sys2Proof.Machine.execSetAutoRestore o p s
  | .jackStatus o p => Sys2Proof.Machine.execJackStatus o p s
  | .buttonWindowsSet o p => Sys2Proof.Machine.execButtonWindowsSet o p s
  | .spkFaultClear o p => Sys2Proof.Machine.execSpkFaultClear o p s
  | .jackReclassify o p => Sys2Proof.Machine.execJackReclassify o p s
  | .auxStatus o p => Sys2Proof.Machine.execAuxStatus o p s
  | .auxConfig o p => Sys2Proof.Machine.execAuxConfig o p s
  | .auxEnable o p => Sys2Proof.Machine.execAuxEnable o p s
  | .auxWrite o p => Sys2Proof.Machine.execAuxWrite o p s
  | .auxTimerSet o p => Sys2Proof.Machine.execAuxTimerSet o p s
  | .auxQueueConfig o p => Sys2Proof.Machine.execAuxQueueConfig o p s
  | .auxQueueWrite o p => Sys2Proof.Machine.execAuxQueueWrite o p s
  | .auxQueueControl o p => Sys2Proof.Machine.execAuxQueueControl o p s
  | .auxReadbackSet o p => Sys2Proof.Machine.execAuxReadbackSet o p s
  | .measStatus o p => Sys2Proof.Machine.execMeasStatus o p s
  | .measScanSet o p => Sys2Proof.Machine.execMeasScanSet o p s
  | .measScanControl o p => Sys2Proof.Machine.execMeasScanControl o p s
  | .measScanRead o p => Sys2Proof.Machine.execMeasScanRead o p s
  | .measLatest o p => Sys2Proof.Machine.execMeasLatest o p s
  | .measInjSet o p => Sys2Proof.Machine.execMeasInjSet o p s
  | .measInjControl o p => Sys2Proof.Machine.execMeasInjControl o p s
  | .measInjRead o p => Sys2Proof.Machine.execMeasInjRead o p s
  | .measCalibrate o p => Sys2Proof.Machine.execMeasCalibrate o p s
  | .measCalRead o p => Sys2Proof.Machine.execMeasCalRead o p s
  | .powerStatus o p => Sys2Proof.Machine.execPowerStatus o p s
  | .powerStateSet o p => Sys2Proof.Machine.execPowerStateSet o p s
  | .speedStatus o p => Sys2Proof.Machine.execSpeedStatus o p s
  | .hullSummary o p => Sys2Proof.Machine.execHullSummary o p s
  | .hullRead o p => Sys2Proof.Machine.execHullRead o p s
  | .hullPredict o p => Sys2Proof.Machine.execHullPredict o p s
  | .hullSetHorizon o p => Sys2Proof.Machine.execHullSetHorizon o p s
  | .hullFlush o p => Sys2Proof.Machine.execHullFlush o p s
  | .fwStatus o p => Sys2Proof.Machine.execFwStatus o p s
  | .fwBegin o p => Sys2Proof.Machine.execFwBegin o p s
  | .fwWriteData o p => Sys2Proof.Machine.execFwWriteData o p s
  | .fwVerify o p => Sys2Proof.Machine.execFwVerify o p s
  | .fwActivate o p => Sys2Proof.Machine.execFwActivate o p s
  | .fwConfirm o p => Sys2Proof.Machine.execFwConfirm o p s
  | .fwAbort o p => Sys2Proof.Machine.execFwAbort o p s
  | .settingsStatus o p => Sys2Proof.Machine.execSettingsStatus o p s
  | .settingsSave o p => Sys2Proof.Machine.execSettingsSave o p s
  | .settingsDiscardOld o p => Sys2Proof.Machine.execSettingsDiscardOld o p s
  | .settingsErase o p => Sys2Proof.Machine.execSettingsErase o p s
  | .setAutoConfirm o p => Sys2Proof.Machine.execSetAutoConfirm o p s
  | .keyStatus o p => Sys2Proof.Machine.execKeyStatus o p s
  | .chartKeyProgram o p => Sys2Proof.Machine.execChartKeyProgram o p s
  | .packetReceived c bytes => Sys2Proof.Machine.execPacketReceived c bytes s
  | .commandTake => Sys2Proof.Machine.execCommandTake s
  | .irqReassert pin => Sys2Proof.Machine.execIrqReassert pin s
  | .h4LinkTimeout => Sys2Proof.Machine.execH4LinkTimeout s
  | .bindingExecute => Sys2Proof.Machine.execBindingExecute s
  | .twAddressMatch port addr read => Sys2Proof.Machine.execTwAddressMatch port addr read s
  | .twPointerWrite port hi lo => Sys2Proof.Machine.execTwPointerWrite port hi lo s
  | .commandDoorWrite port b => Sys2Proof.Machine.execCommandDoorWrite port b s
  | .doorCommit port b => Sys2Proof.Machine.execDoorCommit port b s
  | .errorClear port b => Sys2Proof.Machine.execErrorClear port b s
  | .irqMaskWrite port b => Sys2Proof.Machine.execIrqMaskWrite port b s
  | .eventAckRegisterWrite port b => Sys2Proof.Machine.execEventAckRegisterWrite port b s
  | .registerWriteDiscarded port b => Sys2Proof.Machine.execRegisterWriteDiscarded port b s
  | .replyConsume port n nak => Sys2Proof.Machine.execReplyConsume port n nak s
  | .eventDoorRefresh port start => Sys2Proof.Machine.execEventDoorRefresh port start s
  | .twAckSlotCondition port start => Sys2Proof.Machine.execTwAckSlotCondition port start s
  | .twByteAbort port start => Sys2Proof.Machine.execTwByteAbort port start s
  | .twBusStall port => Sys2Proof.Machine.execTwBusStall port s
  | .twWakeMatch port addr => Sys2Proof.Machine.execTwWakeMatch port addr s
  | .twLoaderReady => Sys2Proof.Machine.execTwLoaderReady s
  | .fabricTick => Sys2Proof.Machine.execFabricTick s
  | .nop l => Sys2Proof.Machine.execNop l s
  | .clr l acc => Sys2Proof.Machine.execClr l acc s
  | .mac l src par acc unity => Sys2Proof.Machine.execMac l src par acc unity s
  | .macs l src par dst acc aux unity => Sys2Proof.Machine.execMacs l src par dst acc aux unity s
  | .sto l dst acc aux => Sys2Proof.Machine.execSto l dst acc aux s
  | .bq l src par dst acc inAcc outAcc => Sys2Proof.Machine.execBq l src par dst acc inAcc outAcc s
  | .dlw l src line => Sys2Proof.Machine.execDlw l src line s
  | .dlr l par acc unity line offset => Sys2Proof.Machine.execDlr l par acc unity line offset s
  | .xf l src par dst pair => Sys2Proof.Machine.execXf l src par dst pair s
  | .mtr l src meter => Sys2Proof.Machine.execMtr l src meter s
  | .lim l par dst protect => Sys2Proof.Machine.execLim l par dst protect s
  | .fen l lane word => Sys2Proof.Machine.execFen l lane word s
  | .fenRelease l => Sys2Proof.Machine.execFenRelease l s
  | .endWord l => Sys2Proof.Machine.execEndWord l s
  | .wordFetchFault l => Sys2Proof.Machine.execWordFetchFault l s
  | .sourceWordLand berth sample line => Sys2Proof.Machine.execSourceWordLand berth sample line s
  | .dynamicsSink k => Sys2Proof.Machine.execDynamicsSink k s
  | .loadStart => Sys2Proof.Machine.execLoadStart s
  | .loadComplete => Sys2Proof.Machine.execLoadComplete s
  | .paramRampEnd slot => Sys2Proof.Machine.execParamRampEnd slot s
  | .overlayGateRampEnd ov => Sys2Proof.Machine.execOverlayGateRampEnd ov s
  | .chainRampEnd route => Sys2Proof.Machine.execChainRampEnd route s
  | .bqCrossfadeEnd sec => Sys2Proof.Machine.execBqCrossfadeEnd sec s
  | .delayChangeEnd line => Sys2Proof.Machine.execDelayChangeEnd line s
  | .clipIntervalEnd => Sys2Proof.Machine.execClipIntervalEnd s
  | .protectEstimate k => Sys2Proof.Machine.execProtectEstimate k s
  | .protectDegraded k => Sys2Proof.Machine.execProtectDegraded k s
  | .protectDegradedEnd k => Sys2Proof.Machine.execProtectDegradedEnd k s
  | .referenceLoss => Sys2Proof.Machine.execReferenceLoss s
  | .referenceRestore => Sys2Proof.Machine.execReferenceRestore s
  | .domainRefValid d => Sys2Proof.Machine.execDomainRefValid d s
  | .domainLock d offset => Sys2Proof.Machine.execDomainLock d offset s
  | .domainUnlock d cause offset => Sys2Proof.Machine.execDomainUnlock d cause offset s
  | .convoyMuteRampEnd c => Sys2Proof.Machine.execConvoyMuteRampEnd c s
  | .memberSampleArrival c m index sample => Sys2Proof.Machine.execMemberSampleArrival c m index sample s
  | .memberRead c m => Sys2Proof.Machine.execMemberRead c m s
  | .memberFadeEnd c m => Sys2Proof.Machine.execMemberFadeEnd c m s
  | .resyncPoint c => Sys2Proof.Machine.execResyncPoint c s
  | .egressMemberTake c m => Sys2Proof.Machine.execEgressMemberTake c m s
  | .pgaStep input => Sys2Proof.Machine.execPgaStep input s
  | .micbiasRampEnd o => Sys2Proof.Machine.execMicbiasRampEnd o s
  | .micbiasSettleEnd o => Sys2Proof.Machine.execMicbiasSettleEnd o s
  | .micbiasOvercurrent o => Sys2Proof.Machine.execMicbiasOvercurrent o s
  | .relayRotationTrigger trigger t22 => Sys2Proof.Machine.execRelayRotationTrigger trigger t22 s
  | .relayStepStart => Sys2Proof.Machine.execRelayStepStart s
  | .relayVrefcalEnd gain offset noise => Sys2Proof.Machine.execRelayVrefcalEnd gain offset noise s
  | .relaySettleEnd => Sys2Proof.Machine.execRelaySettleEnd s
  | .relayEstimateEnd usable level gain offset delay => Sys2Proof.Machine.execRelayEstimateEnd usable level gain offset delay s
  | .relayVerifyEnd usable rms mean => Sys2Proof.Machine.execRelayVerifyEnd usable rms mean s
  | .relayCrossfadeEnd => Sys2Proof.Machine.execRelayCrossfadeEnd s
  | .chainRestartEnd ch => Sys2Proof.Machine.execChainRestartEnd ch s
  | .pdmWakeEnd port => Sys2Proof.Machine.execPdmWakeEnd port s
  | .trimCrossfadeEnd ch => Sys2Proof.Machine.execTrimCrossfadeEnd ch s
  | .thresholdBlock ch peak => Sys2Proof.Machine.execThresholdBlock ch peak s
  | .modulatorOverload ch => Sys2Proof.Machine.execModulatorOverload ch s
  | .outputGateRampEnd o => Sys2Proof.Machine.execOutputGateRampEnd o s
  | .servoEnd o residual => Sys2Proof.Machine.execServoEnd o residual s
  | .outputLoadRampEnd o => Sys2Proof.Machine.execOutputLoadRampEnd o s
  | .supplyWarning rail below => Sys2Proof.Machine.execSupplyWarning rail below s
  | .shelterEnd => Sys2Proof.Machine.execShelterEnd s
  | .spkOvercurrent => Sys2Proof.Machine.execSpkOvercurrent s
  | .spkRestartTimer => Sys2Proof.Machine.execSpkRestartTimer s
  | .pvddUvlo ch => Sys2Proof.Machine.execPvddUvlo ch s
  | .pvddRecover ch => Sys2Proof.Machine.execPvddRecover ch s
  | .classdThermalCheck t21 => Sys2Proof.Machine.execClassdThermalCheck t21 s
  | .hpOvercurrent o => Sys2Proof.Machine.execHpOvercurrent o s
  | .jdetAbsent j => Sys2Proof.Machine.execJdetAbsent j s
  | .jdetPresent j => Sys2Proof.Machine.execJdetPresent j s
  | .jackDebounceEnd j => Sys2Proof.Machine.execJackDebounceEnd j s
  | .classifyTipEnd j zt => Sys2Proof.Machine.execClassifyTipEnd j zt s
  | .classifyCtiaEnd j va => Sys2Proof.Machine.execClassifyCtiaEnd j va s
  | .classifyDecide j vb => Sys2Proof.Machine.execClassifyDecide j vb s
  | .jackRemovalConfirm j => Sys2Proof.Machine.execJackRemovalConfirm j s
  | .buttonScan j line bias => Sys2Proof.Machine.execButtonScan j line bias s
  | .saiMaskTransfer port early => Sys2Proof.Machine.execSaiMaskTransfer port early s
  | .saiFrameStart port bclks slots => Sys2Proof.Machine.execSaiFrameStart port bclks slots s
  | .saiClockLoss port => Sys2Proof.Machine.execSaiClockLoss port s
  | .saiClockReturn port slots => Sys2Proof.Machine.execSaiClockReturn port slots s
  | .spdifLockAcquire rate => Sys2Proof.Machine.execSpdifLockAcquire rate s
  | .spdifLockLoss cause => Sys2Proof.Machine.execSpdifLockLoss cause s
  | .spdifAutoRate => Sys2Proof.Machine.execSpdifAutoRate s
  | .spdifSubframe ch audio v u c parityOk biphaseOk => Sys2Proof.Machine.execSpdifSubframe ch audio v u c parityOk biphaseOk s
  | .spdifBlockEnd clean => Sys2Proof.Machine.execSpdifBlockEnd clean s
  | .spdifNonpcmExit => Sys2Proof.Machine.execSpdifNonpcmExit s
  | .spdifTxBlockStart => Sys2Proof.Machine.execSpdifTxBlockStart s
  | .vbusChange port up => Sys2Proof.Machine.execVbusChange port up s
  | .usbStandardRequest port request recipient value index length => Sys2Proof.Machine.execUsbStandardRequest port request recipient value index length s
  | .setConfiguration port cfg => Sys2Proof.Machine.execSetConfiguration port cfg s
  | .setInterface port ifc alt => Sys2Proof.Machine.execSetInterface port ifc alt s
  | .usbLinkPowerRequest port kind => Sys2Proof.Machine.execUsbLinkPowerRequest port kind s
  | .usbSuspend port => Sys2Proof.Machine.execUsbSuspend port s
  | .usbResume port => Sys2Proof.Machine.execUsbResume port s
  | .usbBusReset port speed => Sys2Proof.Machine.execUsbBusReset port speed s
  | .usbRemoteWakeSignal port => Sys2Proof.Machine.execUsbRemoteWakeSignal port s
  | .uacSamplingFreqSet port entity hz => Sys2Proof.Machine.execUacSamplingFreqSet port entity hz s
  | .uacFeatureUnitSet port unit channel isMute value => Sys2Proof.Machine.execUacFeatureUnitSet port unit channel isMute value s
  | .usbFeedbackUpdate port itf rm fill lost => Sys2Proof.Machine.execUsbFeedbackUpdate port itf rm fill lost s
  | .usbCaptureInterval port itf => Sys2Proof.Machine.execUsbCaptureInterval port itf s
  | .hidReportSend port => Sys2Proof.Machine.execHidReportSend port s
  | .usbVendorTransfer port read bytes => Sys2Proof.Machine.execUsbVendorTransfer port read bytes s
  | .usbReconnect port => Sys2Proof.Machine.execUsbReconnect port s
  | .dfuDetach port => Sys2Proof.Machine.execDfuDetach port s
  | .dfuDnload port block data => Sys2Proof.Machine.execDfuDnload port block data s
  | .dfuManifestReset port => Sys2Proof.Machine.execDfuManifestReset port s
  | .dfuAbort port => Sys2Proof.Machine.execDfuAbort port s
  | .dfuClrstatus port => Sys2Proof.Machine.execDfuClrstatus port s
  | .linkSyncAcquired => Sys2Proof.Machine.execLinkSyncAcquired s
  | .linkUp partner => Sys2Proof.Machine.execLinkUp partner s
  | .linkDown cause partner => Sys2Proof.Machine.execLinkDown cause partner s
  | .frameReceived frame codeError fcsValid prompt now => Sys2Proof.Machine.execFrameReceived frame codeError fcsValid prompt now s
  | .pauseEnd => Sys2Proof.Machine.execPauseEnd s
  | .txFrameStart gap heldA heldB => Sys2Proof.Machine.execTxFrameStart gap heldA heldB s
  | .txLateDiscard now => Sys2Proof.Machine.execTxLateDiscard now s
  | .mdioComplete driven data => Sys2Proof.Machine.execMdioComplete driven data s
  | .counterHalfFoldEnd g => Sys2Proof.Machine.execCounterHalfFoldEnd g s
  | .gptpPdelayComplete ok delay => Sys2Proof.Machine.execGptpPdelayComplete ok delay s
  | .gptpSyncReceived offset now => Sys2Proof.Machine.execGptpSyncReceived offset now s
  | .gptpAnnounceReceived priority1 clockClass accuracy variance priority2 gm steps => Sys2Proof.Machine.execGptpAnnounceReceived priority1 clockClass accuracy variance priority2 gm steps s
  | .gptpSyncTimeout => Sys2Proof.Machine.execGptpSyncTimeout s
  | .gptpAnnounceTimeout => Sys2Proof.Machine.execGptpAnnounceTimeout s
  | .msrpDeclarationReceived kind stream leave => Sys2Proof.Machine.execMsrpDeclarationReceived kind stream leave s
  | .talkerBlock t now => Sys2Proof.Machine.execTalkerBlock t now s
  | .crfFrameSend now => Sys2Proof.Machine.execCrfFrameSend now s
  | .acmpCommand kind stream streamId dest controller => Sys2Proof.Machine.execAcmpCommand kind stream streamId dest controller s
  | .adpAdvertise => Sys2Proof.Machine.execAdpAdvertise s
  | .adpReceived departing e => Sys2Proof.Machine.execAdpReceived departing e s
  | .discEntryExpire entity => Sys2Proof.Machine.execDiscEntryExpire entity s
  | .aemCommand controller seq cmd => Sys2Proof.Machine.execAemCommand controller seq cmd s
  | .aecpVendorFragment controller seq kind index count data => Sys2Proof.Machine.execAecpVendorFragment controller seq kind index count data s
  | .auxTimerTick timer => Sys2Proof.Machine.execAuxTimerTick timer s
  | .auxSlewStep ch => Sys2Proof.Machine.execAuxSlewStep ch s
  | .auxQueuePaceTick q => Sys2Proof.Machine.execAuxQueuePaceTick q s
  | .auxRangeHoldEnd ch => Sys2Proof.Machine.execAuxRangeHoldEnd ch s
  | .vauxWarning => Sys2Proof.Machine.execVauxWarning s
  | .vauxReset => Sys2Proof.Machine.execVauxReset s
  | .vauxRecover => Sys2Proof.Machine.execVauxRecover s
  | .pairedClockTick => Sys2Proof.Machine.execPairedClockTick s
  | .sarConversionDone conv code trim code2 trim2 offset => Sys2Proof.Machine.execSarConversionDone conv code trim code2 trim2 offset s
  | .systemSequenceDue seq => Sys2Proof.Machine.execSystemSequenceDue seq s
  | .hostScanTrigger source => Sys2Proof.Machine.execHostScanTrigger source s
  | .injectedTrigger j => Sys2Proof.Machine.execInjectedTrigger j s
  | .mtrigEdge rising => Sys2Proof.Machine.execMtrigEdge rising s
  | .sarCalibrationStart conv => Sys2Proof.Machine.execSarCalibrationStart conv s
  | .sarCalibrationEnd conv offset gain => Sys2Proof.Machine.execSarCalibrationEnd conv offset gain s
  | .plausibilityCheck => Sys2Proof.Machine.execPlausibilityCheck s
  | .powerOn core ioB vusb => Sys2Proof.Machine.execPowerOn core ioB vusb s
  | .resetNLow => Sys2Proof.Machine.execResetNLow s
  | .supplyResetLevel rail => Sys2Proof.Machine.execSupplyResetLevel rail s
  | .watchdogExpire => Sys2Proof.Machine.execWatchdogExpire s
  | .resetRelease tw0 tw1 compat testEn ioA33 ioB33 => Sys2Proof.Machine.execResetRelease tw0 tw1 compat testEn ioA33 ioB33 s
  | .referenceSelect edges => Sys2Proof.Machine.execReferenceSelect edges s
  | .imageCheckDone => Sys2Proof.Machine.execImageCheckDone s
  | .chartSlotSelect => Sys2Proof.Machine.execChartSlotSelect s
  | .selfTestEnd sar reliefFired words => Sys2Proof.Machine.execSelfTestEnd sar reliefFired words s
  | .bootComplete us => Sys2Proof.Machine.execBootComplete us s
  | .powerTransitionProceed => Sys2Proof.Machine.execPowerTransitionProceed s
  | .wakeSource source => Sys2Proof.Machine.execWakeSource source s
  | .thermalWarning t20 => Sys2Proof.Machine.execThermalWarning t20 s
  | .thermalShutdown => Sys2Proof.Machine.execThermalShutdown s
  | .thermalRecover t20 => Sys2Proof.Machine.execThermalRecover t20 s
  | .marginInterval si t20 t21 vcoreMv spkMicroamps => Sys2Proof.Machine.execMarginInterval si t20 t21 vcoreMv spkMicroamps s
  | .replan => Sys2Proof.Machine.execReplan s
  | .hullHourly => Sys2Proof.Machine.execHullHourly s
  | .hullPredictionRecompute => Sys2Proof.Machine.execHullPredictionRecompute s
  | .nvmSectorErase ok => Sys2Proof.Machine.execNvmSectorErase ok s
  | .fwBlockWriteDone differs1 differs2 => Sys2Proof.Machine.execFwBlockWriteDone differs1 differs2 s
  | .fwVerifyDone bad => Sys2Proof.Machine.execFwVerifyDone bad s
  | .fwActivateProceed expired => Sys2Proof.Machine.execFwActivateProceed expired s
  | .gangwayTake preambleOk copyOk => Sys2Proof.Machine.execGangwayTake preambleOk copyOk s
  | .sequencerReload seq => Sys2Proof.Machine.execSequencerReload seq s
  | .probationHealthy => Sys2Proof.Machine.execProbationHealthy s
  | .settingsSaveDone ok => Sys2Proof.Machine.execSettingsSaveDone ok s
  | .fabricPllRelock => Sys2Proof.Machine.execFabricPllRelock s
  | .nvmRowWriteDone ok => Sys2Proof.Machine.execNvmRowWriteDone ok s
  | .measurementTrackerLock => Sys2Proof.Machine.execMeasurementTrackerLock s
  | .streamReceiveTimeout l => Sys2Proof.Machine.execStreamReceiveTimeout l s
  | .mrpLeaveTimerExpire kind stream => Sys2Proof.Machine.execMrpLeaveTimerExpire kind stream s
  | .dfuDetachTimeout port => Sys2Proof.Machine.execDfuDetachTimeout port s
  | .watchdogCounterClear => Sys2Proof.Machine.execWatchdogCounterClear s

end Sys2Proof.Machine
end

