-- ==== Sys2Proof/Safety.lean ====
section
/-! DEFINITION. The terms in which claims about the block are stated: when the CP takes a command and turns none of it
away, what a reply is, and what holds of the host part in every state that the block can reach. -/

namespace Sys2Proof.Machine

/-- The CP takes this command of a context now: it serves the context, the packet's version and LENGTH are valid
(Table 2-3, R43, R454), and no NVM write that the command needs is held (R371, R373). -/
def Taken (op : Nat) (o : Issue) (p : List Byte) (s : State) : Prop :=
  cpServes s o.ctx = true
  ∧ (o.v1 = true → op % 256 ≤ 15 ∧ (ctxGet s (ctxNum o.ctx)).level1 = true)
  ∧ lengthOk o.v1 op p = true
  ∧ (nvmHeld s && needsNvm s op p) = false

/-- The CP takes the command and neither R458 nor the command's own chapter (`check`) refuses it. The state is the one
in which the command has its log number. -/
def Accepted (op : Nat) (o : Issue) (p : List Byte) (check : State → Option Nat) (s : State) : Prop :=
  Taken op o p s ∧ refusal op o.ctx p (takeLog s) = none ∧ check (takeLog s) = none

/-- The outcome in which the command has left `u`, and its reply with this status and result data has been placed at
its context under its log number. -/
def answerOn (op : Nat) (o : Issue) (s : State) (status : Nat) (result : List Byte) (u : State) :
    Host.Outcome State Fault Refusal :=
  .next (placeReply (ctxNum o.ctx) (replyTo op o status s.host.log result) u)

/-- The command leaves `t`: its reply stands at its context with this status and result data, under the log number
that was next, and the next log number has moved on (R26, R29). -/
def Replied (op : Nat) (o : Issue) (s : State) (status : Nat) (result : List Byte) (t : State) : Prop :=
  lastReply t (ctxNum o.ctx) = some (replyTo op o status s.host.log result) ∧ t.host.log = nextLog s.host.log

/-- The waiter that a command leaves behind when it is answered QUEUED (R28). -/
def waiterOf (o : Issue) (s : State) : Waiter := { ctx := o.ctx, log := s.host.log }

/-- A queue within R38: at most 63 entries, or 64 of which the newest is EVENT_LOST. -/
def queueOk (q : List Event) : Bool :=
  decide (q.length ≤ 63) || (q.length == 64 && (q.getLast?.map (·.code)) == some 0x0201)

/-- What holds of the host part in every state that the block can reach. -/
structure HostInv (h : HostState) : Prop where
  /-- Equal contexts are equal data. -/
  ctxsWf : tblWf CtxState.closed h.ctxs = true
  /-- Every event queue is within R38. -/
  queues : ∀ n, queueOk (tget CtxState.closed h.ctxs n).queue = true
  /-- The next log number is never 0 and has 32 bits (R29). -/
  logLow : 1 ≤ h.log
  logHigh : h.log ≤ 0xFFFFFFFF
  /-- Hardware keeps at most 32 events during a CP absence (Table 18-7). -/
  raisedMax : h.raised.length ≤ 32
  /-- H0 and H1 are open (R22). -/
  open0 : (tget CtxState.closed h.ctxs 0).isOpen = true
  open1 : (tget CtxState.closed h.ctxs 1).isOpen = true
  /-- Equal moorings are equal data. -/
  ownersWf : tblWf 0xFF h.owners = true

/-- Nothing but the host part, the two-wire reply doors and the draw counter differs. -/
def OnlyHost (s t : State) : Prop := t = { s with host := t.host, tw0 := t.tw0, tw1 := t.tw1, free := t.free }

/-- A write transaction of a two-wire port stands with its pointer in [lo, hi] and within its write page (R49, R51), and
the window logic runs (R63). -/
def WindowWrite (port : Fin 2) (lo hi : Nat) (s : State) : Prop :=
  s.pwr.dev ≠ .sleep ∧ (twGet s port).txn = 1 ∧ (twGet s port).ptrBytes = 2 ∧ lo ≤ (twGet s port).pointer.toNat
  ∧ (twGet s port).pointer.toNat ≤ hi ∧ (twGet s port).pageEnd = false
  ∧ ((twGet s port).firstByte = true ∨ (twGet s port).pointer.toNat % 64 ≠ 0)

/-- The tables of clock domains, convoys and members are canonical. -/
def ClocksWf (s : State) : Prop :=
  tblWf Domain.off s.clk.domains = true ∧ tblWf Convoy.absent s.clk.convoys = true
  ∧ ∀ k, tblWf Member.idle (convGet s k).members = true

/-- What every command of a context is made of: its opcode, its issue, its payload, and the refusal that its own
chapter adds to those of R458. Steps of the part and of the outside have none of these. -/
def hostRow (i : Instr) : Option (Nat × Issue × List Byte × (State → Option Nat)) :=
  match i with
  | .hello o p => some (0x0101, o, p, helloCheck o p)
  | .bye o p => some (0x0102, o, p, noCheck)
  | .getInfo o p => some (0x0103, o, p, noCheck)
  | .getState o p => some (0x0104, o, p, noCheck)
  | .claim o p => some (0x0105, o, p, idCountCheck p)
  | .release o p => some (0x0106, o, p, idCountCheck p)
  | .forceRelease o p => some (0x0107, o, p, idCountCheck p)
  | .getMoorings o p => some (0x0108, o, p, getMooringsCheck p)
  | .setSupervisor o p => some (0x0109, o, p, setSupervisorCheck p)
  | .irqAssign o p => some (0x010A, o, p, irqAssignCheck p)
  | .getLogNumber o p => some (0x010B, o, p, noCheck)
  | .echo o p => some (0x010C, o, p, noCheck)
  | .reset o p => some (0x010D, o, p, resetCheck p)
  | .eventRead o p => some (0x0201, o, p, eventReadCheck p)
  | .eventAck o p => some (0x0202, o, p, eventAckCheck p)
  | .eventSubscribe o p => some (0x0203, o, p, eventSubscribeCheck p)
  | .eventStatus o p => some (0x0204, o, p, noCheck)
  | .eventFlush o p => some (0x0205, o, p, noCheck)
  | .chartInfo o p => some (0x0301, o, p, chartInfoCheck p)
  | .overlayActivate o p => some (0x0302, o, p, overlayActivateCheck o p)
  | .overlayDeactivate o p => some (0x0303, o, p, overlayDeactivateCheck o p)
  | .overlaySwitch o p => some (0x0304, o, p, overlaySwitchCheck o p)
  | .overlayStatus o p => some (0x0305, o, p, noCheck)
  | .bindingSet o p => some (0x0306, o, p, bindingSetCheck p)
  | .bindingList o p => some (0x0307, o, p, bindingListCheck p)
  | .setVariant o p => some (0x0308, o, p, setVariantCheck p)
  | .chartWriteOpen o p => some (0x0309, o, p, chartWriteOpenCheck p)
  | .chartWriteData o p => some (0x030A, o, p, chartWriteDataCheck o p)
  | .chartWriteClose o p => some (0x030B, o, p, chartWriteCloseCheck o)
  | .chartSelect o p => some (0x030C, o, p, chartSelectCheck p)
  | .chartRead o p => some (0x030D, o, p, chartReadCheck p)
  | .setParam o p => some (0x0401, o, p, paramCheck o.ctx p)
  | .setParamBlock o p => some (0x0402, o, p, blockCountCheck p)
  | .getParam o p => some (0x0403, o, p, getParamCheck p)
  | .setRampTime o p => some (0x0404, o, p, setRampTimeCheck o p)
  | .bqWrite o p => some (0x0405, o, p, bqWriteCheck o p)
  | .bqSelect o p => some (0x0406, o, p, bqSelectCheck o p)
  | .bqRead o p => some (0x0407, o, p, bqReadCheck p)
  | .delaySet o p => some (0x0408, o, p, delaySetCheck p)
  | .delayRead o p => some (0x0409, o, p, delayReadCheck p)
  | .limiterSet o p => some (0x040A, o, p, limiterSetCheck o p)
  | .limiterRead o p => some (0x040B, o, p, limiterReadCheck p)
  | .protectSet o p => some (0x040C, o, p, protectSetCheck p)
  | .protectRead o p => some (0x040D, o, p, protectReadCheck p)
  | .meterRead o p => some (0x040E, o, p, meterReadCheck p)
  | .clipRead o p => some (0x040F, o, p, clipReadCheck p)
  | .engineStatus o p => some (0x0410, o, p, noCheck)
  | .clockStatus o p => some (0x0501, o, p, noCheck)
  | .domainStatus o p => some (0x0502, o, p, domainStatusCheck p)
  | .domainSetRef o p => some (0x0503, o, p, domainSetRefCheck o p)
  | .domainSetRate o p => some (0x0504, o, p, domainSetRateCheck o p)
  | .pllDiscipline o p => some (0x0505, o, p, pllDisciplineCheck p)
  | .asrcStatus o p => some (0x0506, o, p, asrcStatusCheck p)
  | .convoyStatus o p => some (0x0507, o, p, convoyStatusCheck p)
  | .convoySetMode o p => some (0x0508, o, p, convoySetModeCheck o p)
  | .saiStatus o p => some (0x0601, o, p, saiStatusCheck p)
  | .saiSlotMask o p => some (0x0602, o, p, saiSlotMaskCheck o p)
  | .spdifRxStatus o p => some (0x0603, o, p, spdifRxStatusCheck p)
  | .spdifCsRead o p => some (0x0604, o, p, spdifReadCheck p)
  | .spdifCsWrite o p => some (0x0605, o, p, spdifTxCheck o)
  | .spdifUserRead o p => some (0x0606, o, p, spdifReadCheck p)
  | .spdifUserWrite o p => some (0x0607, o, p, spdifTxCheck o)
  | .spdifValiditySet o p => some (0x0608, o, p, spdifValiditySetCheck o p)
  | .usbStatus o p => some (0x0701, o, p, usbStatusCheck p)
  | .usbConnect o p => some (0x0702, o, p, usbConnectCheck o p)
  | .usbHidSend o p => some (0x0703, o, p, usbHidSendCheck o p)
  | .usbRemoteWake o p => some (0x0704, o, p, usbRemoteWakeCheck o p)
  | .usbStreamStatus o p => some (0x0705, o, p, usbStreamStatusCheck p)
  | .netStatus o p => some (0x0801, o, p, noCheck)
  | .netCounters o p => some (0x0802, o, p, netCountersCheck p)
  | .netMdio o p => some (0x0803, o, p, netMdioCheck o p)
  | .gptpStatus o p => some (0x0804, o, p, noCheck)
  | .gptpSet o p => some (0x0805, o, p, gptpSetCheck p)
  | .streamStatus o p => some (0x0806, o, p, streamStatusCheck p)
  | .streamConnect o p => some (0x0807, o, p, streamConnectCheck o p)
  | .streamDisconnect o p => some (0x0808, o, p, streamDisconnectCheck o p)
  | .crfStatus o p => some (0x0809, o, p, crfStatusCheck p)
  | .msrpStatus o p => some (0x080A, o, p, noCheck)
  | .discRead o p => some (0x080B, o, p, discReadCheck p)
  | .discStatus o p => some (0x080C, o, p, discStatusCheck p)
  | .captureStatus o p => some (0x0901, o, p, captureStatusCheck p)
  | .pgaSet o p => some (0x0902, o, p, pgaSetCheck o p)
  | .dcbSet o p => some (0x0903, o, p, dcbSetCheck o p)
  | .delayTrimSet o p => some (0x0904, o, p, delayTrimSetCheck o p)
  | .micbiasSet o p => some (0x0905, o, p, micbiasSetCheck o p)
  | .micbiasStatus o p => some (0x0906, o, p, micbiasStatusCheck p)
  | .relayStatus o p => some (0x0907, o, p, noCheck)
  | .relaySuspend o p => some (0x0908, o, p, relaySuspendCheck o p)
  | .relayStart o p => some (0x0909, o, p, relayStartCheck o)
  | .thresholdArm o p => some (0x090A, o, p, thresholdArmCheck p)
  | .thresholdDisarm o p => some (0x090B, o, p, thresholdDisarmCheck p)
  | .relayCorrections o p => some (0x090C, o, p, relayCorrectionsCheck p)
  | .outputStatus o p => some (0x0A01, o, p, outNumberCheck p)
  | .outputEnable o p => some (0x0A02, o, p, outputEnableCheck o p)
  | .restoreOutputs o p => some (0x0A03, o, p, restoreOutputsCheck)
  | .setAutoRestore o p => some (0x0A04, o, p, setAutoRestoreCheck p)
  | .jackStatus o p => some (0x0A05, o, p, jackNumberCheck p)
  | .buttonWindowsSet o p => some (0x0A06, o, p, buttonWindowsSetCheck o p)
  | .spkFaultClear o p => some (0x0A07, o, p, spkFaultClearCheck o)
  | .jackReclassify o p => some (0x0A08, o, p, jackReclassifyCheck o p)
  | .auxStatus o p => some (0x0B01, o, p, auxStatusCheck p)
  | .auxConfig o p => some (0x0B02, o, p, auxConfigCheck o p)
  | .auxEnable o p => some (0x0B03, o, p, auxEnableCheck o p)
  | .auxWrite o p => some (0x0B04, o, p, auxWriteCheck p)
  | .auxTimerSet o p => some (0x0B05, o, p, auxTimerSetCheck p)
  | .auxQueueConfig o p => some (0x0B06, o, p, auxQueueConfigCheck o p)
  | .auxQueueWrite o p => some (0x0B07, o, p, auxQueueWriteCheck o p)
  | .auxQueueControl o p => some (0x0B08, o, p, auxQueueControlCheck o p)
  | .auxReadbackSet o p => some (0x0B09, o, p, auxReadbackSetCheck p)
  | .measStatus o p => some (0x0C01, o, p, measStatusCheck p)
  | .measScanSet o p => some (0x0C02, o, p, measScanSetCheck o p)
  | .measScanControl o p => some (0x0C03, o, p, measScanControlCheck o p)
  | .measScanRead o p => some (0x0C04, o, p, measScanReadCheck o p)
  | .measLatest o p => some (0x0C05, o, p, measLatestCheck p)
  | .measInjSet o p => some (0x0C06, o, p, measInjSetCheck o p)
  | .measInjControl o p => some (0x0C07, o, p, measInjControlCheck o p)
  | .measInjRead o p => some (0x0C08, o, p, measInjReadCheck p)
  | .measCalibrate o p => some (0x0C09, o, p, measCalibrateCheck p)
  | .measCalRead o p => some (0x0C0A, o, p, measCalReadCheck p)
  | .powerStatus o p => some (0x0D01, o, p, noCheck)
  | .powerStateSet o p => some (0x0D02, o, p, powerStateSetCheck p)
  | .speedStatus o p => some (0x0D03, o, p, noCheck)
  | .hullSummary o p => some (0x0D04, o, p, noCheck)
  | .hullRead o p => some (0x0D05, o, p, hullReadCheck p)
  | .hullPredict o p => some (0x0D06, o, p, noCheck)
  | .hullSetHorizon o p => some (0x0D07, o, p, hullSetHorizonCheck p)
  | .hullFlush o p => some (0x0D08, o, p, noCheck)
  | .fwStatus o p => some (0x0E01, o, p, noCheck)
  | .fwBegin o p => some (0x0E02, o, p, fwBeginCheck o)
  | .fwWriteData o p => some (0x0E03, o, p, fwWriteDataCheck o p)
  | .fwVerify o p => some (0x0E04, o, p, fwVerifyCheck o)
  | .fwActivate o p => some (0x0E05, o, p, fwActivateCheck o)
  | .fwConfirm o p => some (0x0E06, o, p, fwConfirmCheck o)
  | .fwAbort o p => some (0x0E07, o, p, fwAbortCheck o)
  | .settingsStatus o p => some (0x0E08, o, p, noCheck)
  | .settingsSave o p => some (0x0E09, o, p, settingsSaveCheck o p)
  | .settingsDiscardOld o p => some (0x0E0A, o, p, settingsDiscardOldCheck o)
  | .settingsErase o p => some (0x0E0B, o, p, settingsEraseCheck o)
  | .setAutoConfirm o p => some (0x0E0C, o, p, setAutoConfirmCheck o p)
  | .keyStatus o p => some (0x0E0D, o, p, noCheck)
  | .chartKeyProgram o p => some (0x0E0E, o, p, chartKeyProgramCheck p)
  | _ => none

/-- The run of the block neither faults nor is refused. -/
def Safe (s : State) : Prop := ∃ t, step s = .next t

end Sys2Proof.Machine
end

