-- ==== Sys2Proof/Certificates/Slice0/Obligations.lean ====
section
/-! DEFINITION. The statements for the provers. A statement of a command's own effect concludes that exec answers a
next state, under conditions on the state and the operands alone. Rule and table numbers in a docstring say where the
stated effects come from; what is stated of them is what the Lean says. -/

section Statements

open Sys2Proof Sys2Proof.Machine

/-! ## The step -/

/-- The command at the front of the queue is executed on the queue's rest. -/
def Obligations.StepRunsFrontCommand : Prop :=
  ∀ (i : Instr) (l : List Instr) (s : State), s.pending = i :: l → step s = exec i { s with pending := l }

/-- On an empty queue the block idles (the model's choice, log entry 2). -/
def Obligations.EmptyQueueIdles : Prop := ∀ s : State, s.pending = [] → step s = .next s

/-- Every command answers a next state in every state, and no step of the block faults or is refused: a command that
cannot take place leaves the state as it is, or answers its issuer with a status. -/
def Obligations.EveryCommandCompletes : Prop :=
  (∀ (i : Instr) (s : State), ∃ t, exec i s = .next t) ∧ ∀ s : State, Safe s

/-- R29, R36, R40: what reset leaves of the host part and of the event system, as the rules give it; the part stands in
POR (R363) and nothing waits. -/
def Obligations.ResetLeavesHostPart : Prop :=
  State.reset.host.log = 1 ∧ State.reset.host.supervisor = .h0
  ∧ State.reset.host.irqSetA = 1 ∧ State.reset.host.irqSetB = 2
  ∧ State.reset.host.irqA = false ∧ State.reset.host.irqB = false
  ∧ (∀ n, (ctxGet State.reset n).queue = [] ∧ (ctxGet State.reset n).seq = 0 ∧ (ctxGet State.reset n).mask = 0xFFFE)
  ∧ (∀ n, isOpen State.reset n = decide (n < 2))
  ∧ State.reset.eng.period = 0 ∧ (∀ n, ownerOf State.reset n = 0xFF)
  ∧ State.reset.pwr.dev = .por ∧ State.reset.pending = []

/-- The invariant of the host part holds at reset. -/
def Obligations.HostInvariantAtReset : Prop := HostInv State.reset.host

/-- Every step keeps the invariant of the host part: no event queue ever holds more than 64 entries (R38), the next log
number is never 0 (R29), at most 32 events are kept during a CP absence (Table 18-7), H0 and H1 stay open (R22). -/
def Obligations.HostInvariantKept : Prop := ∀ s t : State, HostInv s.host → step s = .next t → HostInv t.host

/-! ## Contexts, log numbers and events (chapter 2) -/

/-- R38: how an event enters a queue, or is counted; it takes the context's SEQ either way, and no queue ever holds more
than 64 entries. -/
def Obligations.QueueTakesOrCountsEvents : Prop :=
  ∀ (q : List Event) (e : Event),
    (q.length < 63 → enqueue q e = q ++ [e])
    ∧ (∀ l, q.getLast? = some l → 63 ≤ q.length → l.code = 0x0201 →
        enqueue q e = q.dropLast ++ [{ l with data := min (l.data + 1) 0xFFFFFFFF }])
    ∧ (∀ l, q.getLast? = some l → 63 ≤ q.length → l.code ≠ 0x0201 →
        enqueue q e = q ++ [{ code := 0x0201, inst := 0, seq := e.seq, stamp := e.stamp, log := e.log, data := 1 }])
    ∧ (queueOk q = true → queueOk (enqueue q e) = true ∧ (enqueue q e).length ≤ 64)
    ∧ (∀ (code inst stamp log data n : Nat) (s : State), tblWf CtxState.closed s.host.ctxs = true →
        (ctxGet (enterEvent code inst stamp log data s n) n).queue = enqueue (ctxGet s n).queue
          { code := code, inst := inst, seq := (ctxGet s n).seq, stamp := stamp, log := log, data := data }
        ∧ (ctxGet (enterEvent code inst stamp log data s n) n).seq = ((ctxGet s n).seq + 1) % 256)

/-- R37: an event posted while the CP serves is put, with the context's SEQ, into the queue of every open context whose
mask holds its group and which is the supervisor, or owns, or finds shared or unowned, a resource that the event
concerns; and into no other. SEQ moves on by one modulo 256. -/
def Obligations.EventGoesToItsContexts : Prop :=
  ∀ (code inst log data n : Nat) (cn : Concern) (s : State), HostInv s.host → s.pwr.dev ≠ .harbour →
    s.host.absent = false → n < 5 →
    (eventFor s code cn n = true →
      (ctxGet (post code inst log data cn s) n).queue
        = enqueue (ctxGet s n).queue
          { code := code, inst := inst, seq := (ctxGet s n).seq, stamp := s.eng.period % 2 ^ 32, log := log, data := data }
      ∧ (ctxGet (post code inst log data cn s) n).seq = ((ctxGet s n).seq + 1) % 256)
    ∧ (eventFor s code cn n = false → ctxGet (post code inst log data cn s) n = ctxGet s n)

/-- The commands of groups 0x01 and 0x02 that only read answer their fields and change nothing but the log number and
the reply door (Tables 2-8 and 2-10, R29, R32, R39, R41, R374). With no chart the slot and the CHART_ID of GET_INFO are
open (log entry 18). -/
def Obligations.SystemReadsAnswer : Prop :=
  ∀ (o : Issue) (p : List Byte) (s : State),
    (∀ c, s.cs.chart = some c → Accepted 0x0103 o p noCheck s →
      exec (.getInfo o p) s = answerOn 0x0103 o s 0
        (b4 0x256000B1 ++ b4 s.fw.running.fwVersion ++ b4 s.fw.running.security ++ b1 s.cs.inUse ++ [0, 0, 0]
          ++ b4 c.chartId ++ b4 (if s.host.log = 1 then (if s.host.logWrapped then 0xFFFFFFFF else 0)
            else s.host.log - 1)) (takeLog s))
    ∧ (s.cs.chart = none → Accepted 0x0103 o p noCheck s →
      ∃ slot id, exec (.getInfo o p) s = answerOn 0x0103 o s 0
        (b4 0x256000B1 ++ b4 s.fw.running.fwVersion ++ b4 s.fw.running.security ++ b1 slot ++ [0, 0, 0]
          ++ b4 id ++ b4 (if s.host.log = 1 then (if s.host.logWrapped then 0xFFFFFFFF else 0)
            else s.host.log - 1)) (takeLog s))
    ∧ (Accepted 0x0104 o p noCheck s →
      exec (.getState o p) s = answerOn 0x0104 o s 0
        (b1 (devCode s.pwr.dev) ++ b1 (flag s.pwr.shelter + 2 * flag s.fw.probation + 4 * flag s.fw.fallback)
          ++ [0, 0] ++ b4 (s.eng.period % 2 ^ 32)) (takeLog s))
    ∧ (Accepted 0x0108 o p (getMooringsCheck p) s →
      exec (.getMoorings o p) s = answerOn 0x0108 o s 0
        (b1 (classInstances (u8 p 0)) ++ (List.range (classInstances (u8 p 0))).map
          (fun i => BitVec.ofNat 8 (ownerOf s (256 * u8 p 0 + i)))) (takeLog s))
    ∧ (Accepted 0x010B o p noCheck s → exec (.getLogNumber o p) s = answerOn 0x010B o s 0 (b4 s.host.log) (takeLog s))
    ∧ (Accepted 0x010C o p noCheck s → exec (.echo o p) s = answerOn 0x010C o s 0 p (takeLog s))
    ∧ (Accepted 0x0201 o p (eventReadCheck p) s →
      exec (.eventRead o p) s = answerOn 0x0201 o s 0
        (b1 (((ctxGet s (ctxNum o.ctx)).queue.take (u8 p 0)).length) ++ [0, 0, 0]
          ++ ((ctxGet s (ctxNum o.ctx)).queue.take (u8 p 0)).flatMap (fun e =>
            b2 e.code ++ b1 e.inst ++ b1 e.seq ++ b4 e.stamp ++ b4 e.log ++ b4 e.data)) (takeLog s))
    ∧ (Accepted 0x0204 o p noCheck s →
      exec (.eventStatus o p) s = answerOn 0x0204 o s 0
        (b1 (ctxGet s (ctxNum o.ctx)).queue.length ++ [0] ++ b2 (ctxGet s (ctxNum o.ctx)).mask
          ++ b4 (lostCount (ctxGet s (ctxNum o.ctx)).queue)) (takeLog s))

/-- HELLO opens a closed context at its level with the default mask, or gives an open one its level; BYE leaves H0 and H1
open with the default mask and closes H2 to H4 (R22, R41, R42, R43). -/
def Obligations.HelloOpensByeCloses : Prop :=
  ∀ (o : Issue) (p : List Byte) (s : State), HostInv s.host →
    (Accepted 0x0101 o p (helloCheck o p) s → isOpen s (ctxNum o.ctx) = true →
      exec (.hello o p) s = answerOn 0x0101 o s 0
        (b4 0x256000B1 ++ b4 s.fw.running.fwVersion ++ b1 (ctxNum o.ctx) ++ b1 (ctxNum s.host.supervisor)
          ++ b1 (u8 p 0) ++ [0])
        (ctxMod (takeLog s) (ctxNum o.ctx) (fun c => { c with level1 := u8 p 0 == 1 })))
    ∧ (Accepted 0x0101 o p (helloCheck o p) s → isOpen s (ctxNum o.ctx) = false →
      ∃ t, exec (.hello o p) s = .next t ∧ Replied 0x0101 o s 0
          (b4 0x256000B1 ++ b4 s.fw.running.fwVersion ++ b1 (ctxNum o.ctx) ++ b1 (ctxNum s.host.supervisor)
            ++ b1 (u8 p 0) ++ [0]) t
        ∧ isOpen t (ctxNum o.ctx) = true ∧ (ctxGet t (ctxNum o.ctx)).level1 = (u8 p 0 == 1)
        ∧ (ctxGet t (ctxNum o.ctx)).mask = 0xFFFE ∧ OnlyHost s t)
    ∧ (Accepted 0x0102 o p noCheck s → ctxNum o.ctx < 2 →
      ∃ t, exec (.bye o p) s = .next t ∧ Replied 0x0102 o s 0 [] t
        ∧ isOpen t (ctxNum o.ctx) = true ∧ (ctxGet t (ctxNum o.ctx)).mask = 0xFFFE ∧ OnlyHost s t
        ∧ (∀ id ∈ allResources, ownerOf s id = ctxNum o.ctx → ownerOf t id = 0xFF))
    ∧ (Accepted 0x0102 o p noCheck s → 2 ≤ ctxNum o.ctx →
      ∃ t, exec (.bye o p) s = .next t ∧ Replied 0x0102 o s 0 [] t ∧ isOpen t (ctxNum o.ctx) = false
        ∧ (∀ id ∈ allResources, ownerOf s id = ctxNum o.ctx → ownerOf t id = 0xFF))

/-- R34, Table 2-6: a mooring command whose every listed resource succeeds changes the owner of each and of no other; one
that fails for a resource changes nothing and reports the first that failed, in the order of the list (the model's choice
where several fail, log entry 4). -/
def Obligations.MooringCommandsAllOrNone : Prop :=
  ∀ (o : Issue) (p : List Byte) (s : State), HostInv s.host →
    (Accepted 0x0105 o p (idCountCheck p) s → (∀ id ∈ listedIds p, claimStatus s o.ctx id = 0) →
      ∃ t, exec (.claim o p) s = .next t ∧ Replied 0x0105 o s 0 [0xFF, 0] t ∧ OnlyHost s t
        ∧ (∀ id, ownerOf t id = if id ∈ listedIds p then ctxNum o.ctx else ownerOf s id))
    ∧ (Accepted 0x0106 o p (idCountCheck p) s → (∀ id ∈ listedIds p, releaseStatus s o.ctx id = 0) →
      ∃ t, exec (.release o p) s = .next t ∧ Replied 0x0106 o s 0 [0xFF, 0] t ∧ OnlyHost s t
        ∧ (∀ id, ownerOf t id = if id ∈ listedIds p then 0xFF else ownerOf s id))
    ∧ (Accepted 0x0107 o p (idCountCheck p) s → (∀ id ∈ listedIds p, forceStatus s id = 0) →
      ∃ t, exec (.forceRelease o p) s = .next t ∧ Replied 0x0107 o s 0 [0xFF, 0] t ∧ OnlyHost s t
        ∧ (∀ id, ownerOf t id = if id ∈ listedIds p ∧ ownerOf s id < 5 then 0xFF else ownerOf s id))
    ∧ (∀ i < (listedIds p).length, Accepted 0x0105 o p (idCountCheck p) s →
      claimStatus s o.ctx ((listedIds p).getD i 0) ≠ 0 → (∀ j < i, claimStatus s o.ctx ((listedIds p).getD j 0) = 0) →
      exec (.claim o p) s = answerOn 0x0105 o s (claimStatus s o.ctx ((listedIds p).getD i 0))
        (b1 i ++ b1 (claimStatus s o.ctx ((listedIds p).getD i 0))) (takeLog s))
    ∧ (∀ i < (listedIds p).length, Accepted 0x0106 o p (idCountCheck p) s →
      releaseStatus s o.ctx ((listedIds p).getD i 0) ≠ 0 →
      (∀ j < i, releaseStatus s o.ctx ((listedIds p).getD j 0) = 0) →
      exec (.release o p) s = answerOn 0x0106 o s (releaseStatus s o.ctx ((listedIds p).getD i 0))
        (b1 i ++ b1 (releaseStatus s o.ctx ((listedIds p).getD i 0))) (takeLog s))
    ∧ (∀ i < (listedIds p).length, Accepted 0x0107 o p (idCountCheck p) s →
      forceStatus s ((listedIds p).getD i 0) ≠ 0 → (∀ j < i, forceStatus s ((listedIds p).getD j 0) = 0) →
      exec (.forceRelease o p) s = answerOn 0x0107 o s (forceStatus s ((listedIds p).getD i 0))
        (b1 i ++ b1 (forceStatus s ((listedIds p).getD i 0))) (takeLog s))

/-- The other commands of groups 0x01 and 0x02 (R36, R37, R39, R40, R41, R42): a new supervisor, the set of a pin, a reset
that is due, the mask, and the oldest entries or all of them removed, SEQ kept. -/
def Obligations.SystemCommandsTakeEffect : Prop :=
  ∀ (o : Issue) (p : List Byte) (s : State), HostInv s.host →
    (Accepted 0x0109 o p (setSupervisorCheck p) s →
      ∃ t, exec (.setSupervisor o p) s = .next t ∧ Replied 0x0109 o s 0 [] t ∧ OnlyHost s t
        ∧ t.host.supervisor = ctxOf (u8 p 0) ∧ t.host.owners = s.host.owners)
    ∧ (Accepted 0x010A o p (irqAssignCheck p) s →
      ∃ t, exec (.irqAssign o p) s = .next t ∧ Replied 0x010A o s 0 [] t ∧ OnlyHost s t
        ∧ (t.host.irqSetA, t.host.irqSetB)
          = if u8 p 0 = 0 then (u8 p 1, s.host.irqSetB) else (s.host.irqSetA, u8 p 1))
    ∧ (Accepted 0x010D o p (resetCheck p) s →
      exec (.reset o p) s = answerOn 0x010D o s 0 []
        { (takeLog s) with pwr := { s.pwr with resetDue := true } })
    ∧ (Accepted 0x0202 o p (eventAckCheck p) s →
      ∃ t, exec (.eventAck o p) s = .next t
        ∧ Replied 0x0202 o s 0 (b1 ((ctxGet s (ctxNum o.ctx)).queue.length - u8 p 0)) t ∧ OnlyHost s t
        ∧ (ctxGet t (ctxNum o.ctx)).queue = (ctxGet s (ctxNum o.ctx)).queue.drop (u8 p 0)
        ∧ (ctxGet t (ctxNum o.ctx)).seq = (ctxGet s (ctxNum o.ctx)).seq)
    ∧ (Accepted 0x0203 o p (eventSubscribeCheck p) s →
      exec (.eventSubscribe o p) s = answerOn 0x0203 o s 0 []
        (ctxMod (takeLog s) (ctxNum o.ctx) (fun c => { c with mask := u16 p 0 })))
    ∧ (Accepted 0x0205 o p noCheck s →
      ∃ t, exec (.eventFlush o p) s = .next t
        ∧ Replied 0x0205 o s 0 (b1 (ctxGet s (ctxNum o.ctx)).queue.length) t ∧ OnlyHost s t
        ∧ (ctxGet t (ctxNum o.ctx)).queue = [] ∧ (ctxGet t (ctxNum o.ctx)).seq = (ctxGet s (ctxNum o.ctx)).seq)

/-- R27, R458: a command of a context (groups 0x01 to 0x0E) that the CP takes and that a refusal of R458 or
of its own chapter turns away has no effect: the state keeps all but the next log number, and the reply carries the first
status that refuses it. While the CP does not serve the context, the command stays without any effect. -/
def Obligations.RefusedCommandHasNoEffect : Prop :=
  ∀ (i : Instr) (s : State) (op : Nat) (o : Issue) (p : List Byte) (check : State → Option Nat),
    hostRow i = some (op, o, p, check) →
    (Taken op o p s → ∀ st, (refusal op o.ctx p (takeLog s)).or (check (takeLog s)) = some st →
      exec i s = answerOn op o s st [] (takeLog s))
    ∧ (cpServes s o.ctx = false → exec i s = .next s)

/-- A packet that passes the checks of Table 2-3 waits at its context behind those that came before. One whose CRC fails
has no effect and is answered BAD_CRC with log number 0: at once where the context waits for no reply, else when the
replies before it have left (R27, R30, R460). -/
def Obligations.PacketIsHeldOrAnswered : Prop :=
  ∀ (c : Ctx) (b : List Byte) (v1 : Bool) (s : State), packetsTaken s c = true → packetVersion b = some v1 →
    packetLength v1 b ≤ 1024 → b.length = packetTotal v1 b →
    (packetCrcOk v1 b = false → (ctxGet s (ctxNum c)).held = [] → replyOwedTo s (ctxNum c) = false →
      exec (.packetReceived c b) s = .next (placeReply (ctxNum c)
        { v1 := v1, opcode := packetOpcode v1 b, tag := packetTag v1 b, status := 2, log := 0, result := [] } s))
    ∧ (packetCrcOk v1 b = false → (ctxGet s (ctxNum c)).held ≠ [] ∨ replyOwedTo s (ctxNum c) = true →
      exec (.packetReceived c b) s = .next (ctxMod s (ctxNum c) (fun x => { x with held := x.held ++
        [{ v1 := v1, opcode := packetOpcode v1 b, tag := packetTag v1 b, payload := [], source := none
           failed := some 2 }] })))
    ∧ (packetCrcOk v1 b = true → (v1 = true → (ctxGet s (ctxNum c)).level1 = true) →
      opcodeDefined (packetOpcode v1 b) = true → lengthOk v1 (packetOpcode v1 b) (packetPayload v1 b) = true →
      (commandsHeld (ctxGet s (ctxNum c))).length < heldLimit (ctxNum c) →
      exec (.packetReceived c b) s = .next (ctxMod s (ctxNum c) (fun x => { x with held := x.held ++
        [{ v1 := v1, opcode := packetOpcode v1 b, tag := packetTag v1 b, payload := packetPayload v1 b, source := none
           failed := none }] })))

/-- Where nothing goes before the commands, the CP takes the first takeable context's oldest command in the cyclic order
after the context served last, and executes it by its opcode; then the replies that waited for it leave (R30, R323). A
command whose context another controller has opened since is answered DENIED without execution (R22). Held USB
requests, and then what waits on the network, go before the commands (the model's choice, log entry 121). -/
def Obligations.CommandTakeServesInTurn : Prop :=
  (∀ (n : Nat) (h : Held) (l : List Held) (s : State), usbFirst s = false → netFirst s = false →
    (turnOrder s).find? (takeable s) = some n → (ctxGet s n).held = h :: l →
    (foreignHeld n h s = false →
      ∃ t, hostDispatch h.opcode { ctx := ctxOf n, tag := h.tag, v1 := h.v1 } h.payload (takeHeld n h s) = .next t
        ∧ exec .commandTake s = .next (flushReplies t))
    ∧ (foreignHeld n h s = true →
      exec .commandTake s = .next (flushReplies (placeReply n (failReply h 11) (takeHeld n h s)))))
  ∧ (∀ s : State, usbFirst s = true → exec .commandTake s = .next (serveUsb (serveUsb s 0) 1))
  ∧ (∀ s : State, usbFirst s = false → netFirst s = true → exec .commandTake s = .next (serveNet s))

/-- After the 1 µs a pin is driven again while an event that its set enables still waits (R40). H4 closes when the link
has not come back UP, with its queue empty, its moorings unowned and no supervision (R22, R36). The oldest fired binding is
executed under the next log number: BINDING_FIRED says the status that its request gets, and then the request takes
effect (R82). -/
def Obligations.HostStepsOfThePart : Prop :=
  (∀ (s : State), (exec (.irqReassert 0) s = .next (refreshPins { s with host := { s.host with irqHoldA := false } }))
    ∧ (exec (.irqReassert 1) s = .next (refreshPins { s with host := { s.host with irqHoldB := false } })))
  ∧ (∀ s : State, HostInv s.host → s.net.mac.link ≠ 2 → isOpen s 4 = true →
      ∃ t, exec .h4LinkTimeout s = .next t ∧ isOpen t 4 = false ∧ (ctxGet t 4).queue = []
        ∧ (s.host.supervisor = .h4 → t.host.supervisor = .h0)
        ∧ (∀ id ∈ allResources, ownerOf s id = 4 → ownerOf t id = 0xFF))
  ∧ (∀ (s u : State) (f : Fired) (r : List Fired) (c : Chart) (b : List Byte) (e : Nat × (State → State)),
      s.host.fired = f :: r → s.cs.chart = some c → cpRuns s = true →
      u = takeLog { s with host := { s.host with fired := r } } → b = c.binding f.index →
      e = bindingOutcome b (bindingRequest c b f.index s.host.log) u →
      exec .bindingExecute s = .next (e.2 (post 0x0302 f.index s.host.log (e.1 + 256 * f.code + 16777216 * f.inst)
        (.res [0x0200 + u8 b 4]) u)))
  ∧ (∀ (s : State) (f : Fired) (r : List Fired) (c : Chart), s.host.fired = f :: r → s.cs.chart = some c →
      cpRuns s = true → hasOverlay s (u8 (c.binding f.index) 4) = true → u8 (c.binding f.index) 3 = 2 →
      (ovGet s (u8 (c.binding f.index) 4)).st = 3 → inSwitch s (u8 (c.binding f.index) 4) = false →
      ∃ t, exec .bindingExecute s = .next t ∧ (ovGet t (u8 (c.binding f.index) 4)).st = 4
        ∧ t.host.log = nextLog s.host.log)

/-! ## Two-wire ports (chapter 3) -/

/-- R47, R49, R57: an address byte opens a transaction at the port whose address it is and
which serves its window and has its supply (R362), and at no other; two pointer bytes set the pointer, and the port's other state stays. -/
def Obligations.TwoWireTransactionOpens : Prop :=
  ∀ (port : Fin 2) (a : BitVec 7) (hi lo : Byte) (read : Bool) (s : State),
    (s.pwr.dev ≠ .sleep → twPowered s port = true → (twGet s port).addr = a →
      ∃ t, exec (.twAddressMatch port a read) s = .next t
        ∧ (twGet t port).txn = (if read then 2 else 1) ∧ (twGet t port).acked = true ∧ (twGet t port).ptrBytes = 0
        ∧ (twGet t port).pointer = (twGet s port).pointer
        ∧ (twGet t port).eventDoor = (ctxGet s port.val).queue.take 16
        ∧ t = twSet s port (twGet t port))
    ∧ (s.pwr.dev ≠ .sleep → twPowered s port = true → (twGet s port).addr ≠ a →
      ∃ t, exec (.twAddressMatch port a read) s = .next t ∧ (twGet t port).txn = 0 ∧ (twGet t port).acked = false
        ∧ t = twSet s port (twGet t port))
    ∧ (s.pwr.dev = .sleep ∨ twPowered s port = false →
      ∃ t, exec (.twAddressMatch port a read) s = .next t ∧ (twGet t port).txn = 0 ∧ (twGet t port).acked = false
        ∧ t = twSet s port (twGet t port))
    ∧ (s.pwr.dev ≠ .sleep → (twGet s port).txn = 1 → (twGet s port).ptrBytes = 0 →
      exec (.twPointerWrite port hi lo) s = .next (twSet s port { twGet s port with
        pointer := BitVec.ofNat 16 (hi.toNat * 256 + lo.toNat), ptrBytes := 2, acked := true }))

/-- What a data byte does at the register where the pointer stands, within its write page (R49, R52 to R55). It is
acknowledged and the pointer advances, but for a door byte or an EVENT_ACK while BUSY and a DOOR_COMMIT while BUSY or
REPLY_VALID, which are refused with ERROR cause 4 and have no other effect. -/
def Obligations.TwoWireWritesTakeEffect : Prop :=
  ∀ (port : Fin 2) (b : Byte) (s : State),
    (WindowWrite port 0x1000 0x140F s → (twGet s port).busy = false →
      exec (.commandDoorWrite port b) s = .next (twSet s port { twGet s port with
        pointer := (twGet s port).pointer + 1, firstByte := false, acked := true
        door := tset 0 (twGet s port).door ((twGet s port).pointer.toNat - 0x1000) b
        fill := max (twGet s port).fill ((twGet s port).pointer.toNat - 0x1000 + 1) }))
    ∧ (WindowWrite port 0x1000 0x140F s → (twGet s port).busy = true →
      exec (.commandDoorWrite port b) s = .next (twSet s port { twGet s port with
        error := true, errCause := 4, firstByte := false, acked := false }))
    ∧ (WindowWrite port 0x0008 0x0008 s → (twGet s port).busy = false → (twGet s port).replyValid = false → b = 1 →
      exec (.doorCommit port b) s = .next (takePacket none port.val ((List.range 1040).map (tget 0 (twGet s port).door))
        (twGet s port).fill (twSet s port { twGet s port with
          pointer := (twGet s port).pointer + 1, firstByte := false, acked := true, busy := true, fill := 0 })))
    ∧ (WindowWrite port 0x0008 0x0008 s → (twGet s port).busy = true ∨ (twGet s port).replyValid = true →
      exec (.doorCommit port b) s = .next (twSet s port { twGet s port with
        error := true, errCause := 4, firstByte := false, acked := false }))
    ∧ (WindowWrite port 0x0008 0x000B s → (twGet s port).busy = false → (twGet s port).replyValid = false →
      (b ≠ 1 ∨ (twGet s port).pointer.toNat ≠ 0x0008) →
      exec (.doorCommit port b) s = .next (twSet s port { twGet s port with
        pointer := (twGet s port).pointer + 1, firstByte := false, acked := true }))
    ∧ (WindowWrite port 0x0004 0x0007 s → (b.getLsbD 4 = false ∨ (twGet s port).pointer.toNat ≠ 0x0004) →
      exec (.errorClear port b) s = .next (twSet s port { twGet s port with
        pointer := (twGet s port).pointer + 1, firstByte := false, acked := true }))
    ∧ (WindowWrite port 0x0004 0x0004 s → b.getLsbD 4 = true →
      exec (.errorClear port b) s = .next (twSet s port { twGet s port with
        pointer := (twGet s port).pointer + 1, firstByte := false, acked := true, error := false, errCause := 0 }))
    ∧ (WindowWrite port 0x000C 0x000E s →
      exec (.irqMaskWrite port b) s = .next (twSet s port { twGet s port with
        pointer := (twGet s port).pointer + 1, firstByte := false, acked := true
        staged := ((twGet s port).pointer.toNat - 0x000C, b) :: (twGet s port).staged }))
    ∧ (WindowWrite port 0x000F 0x000F s →
      exec (.irqMaskWrite port b) s = .next (refreshPins (twSet s port { twGet s port with
        pointer := (twGet s port).pointer + 1, firstByte := false, acked := true
        irqMask := stagedMask (twGet s port) b, staged := [] })))
    ∧ (WindowWrite port 0x0014 0x0014 s → (twGet s port).busy = false → HostInv s.host →
      ∃ t, exec (.eventAckRegisterWrite port b) s = .next t
        ∧ (ctxGet t port.val).queue = (ctxGet s port.val).queue.drop (min b.toNat 64)
        ∧ (twGet t port).acked = true ∧ OnlyHost s t)
    ∧ (WindowWrite port 0x0014 0x0014 s → (twGet s port).busy = true →
      exec (.eventAckRegisterWrite port b) s = .next (twSet s port { twGet s port with
        error := true, errCause := 4, firstByte := false, acked := false }))
    ∧ (WindowWrite port 0x0015 0x0017 s →
      exec (.eventAckRegisterWrite port b) s = .next (twSet s port { twGet s port with
        pointer := (twGet s port).pointer + 1, firstByte := false, acked := true }))
    ∧ (WindowWrite port 0x0000 0xFFFF s → twDiscards (twGet s port).pointer.toNat = true →
      exec (.registerWriteDiscarded port b) s = .next (twSet s port { twGet s port with
        pointer := (twGet s port).pointer + 1, firstByte := false, acked := true }))

/-- A read transfers bytes from the pointer on and consumes the reply with its last byte; a not-acknowledge ends the
transfer until a STOP or START; both of these, and a stalled bus, end a transaction (R50, R56 to R60). -/
def Obligations.TwoWireReadsAndEnds : Prop :=
  ∀ (port : Fin 2) (start : Bool) (s : State),
    (s.pwr.dev ≠ .sleep → (twGet s port).txn = 2 →
      ∃ t, exec (.replyConsume port 1 false) s = .next t
        ∧ (twGet t port).pointer = (twGet s port).pointer + 1 ∧ (twGet t port).txn = 2
        ∧ (∀ r, (twGet s port).reply = some r → (twGet s port).replyValid = true →
            ((twGet t port).replyValid = false ↔ (twGet s port).pointer.toNat + 1 = 0x2000 + (replyBytes r).length))
        ∧ (0x3000 ≤ (twGet s port).pointer.toNat → (twGet s port).pointer.toNat ≤ 0x30FF →
            (twGet t port).readBytes = (twGet s port).readBytes ++
              [(((twGet s port).eventDoor.flatMap eventBytes).getD ((twGet s port).pointer.toNat - 0x3000) 0)])
        ∧ t = twSet s port (twGet t port))
    ∧ (∀ n nak, s.pwr.dev ≠ .sleep → (twGet s port).txn = 2 → ∃ t, exec (.replyConsume port n nak) s = .next t
        ∧ (twGet t port).readBytes.length = (twGet s port).readBytes.length + n
        ∧ (twGet t port).txn = if nak ∧ 0 < n then 3 else 2)
    ∧ (twPowered s port = true → s.pwr.dev ≠ .sleep →
      ∃ t, exec (.eventDoorRefresh port start) s = .next t ∧ (twGet t port).txn = 0 ∧ (twGet t port).staged = []
        ∧ (twGet t port).eventDoor = (ctxGet s port.val).queue.take 16 ∧ t = twSet s port (twGet t port))
    ∧ (s.pwr.dev ≠ .sleep → (twGet s port).txn = 2 →
      ∃ t, exec (.twAckSlotCondition port start) s = .next t ∧ (twGet t port).txn = 0
        ∧ (twGet t port).pointer = (twGet s port).pointer + 1
        ∧ (twGet t port).readBytes.length = (twGet s port).readBytes.length + 1 ∧ t = twSet s port (twGet t port))
    ∧ (s.pwr.dev ≠ .sleep → (twGet s port).txn = 1 ∨ (twGet s port).txn = 2 →
      ∃ t, exec (.twByteAbort port start) s = .next t ∧ (twGet t port).txn = 0 ∧ (twGet t port).error = true
        ∧ (twGet t port).errCause = 1 ∧ (twGet t port).pointer = (twGet s port).pointer ∧ t = twSet s port (twGet t port))
    ∧ (s.pwr.dev ≠ .sleep → (twGet s port).txn ≠ 0 →
      ∃ t, exec (.twBusStall port) s = .next t ∧ (twGet t port).txn = 0 ∧ (twGet t port).error = true
        ∧ (twGet t port).errCause = 2 ∧ t = twSet s port (twGet t port))
    ∧ (s.pwr.dev = .loader → exec .twLoaderReady s = .next { s with
        tw0 := { s.tw0 with served := true }, tw1 := { s.tw1 with served := true } })

/-! ## Charts and overlays (chapter 4) -/

/-- What CHART_INFO of a slot with a valid chart, OVERLAY_STATUS, BINDING_LIST and CHART_READ answer (Table 4-11, R74, R81,
R459); they change nothing else. The variant and the overlays on of a slot that is not in use are open (log entry 60),
and so are the chart's fields of a slot without a valid chart. -/
def Obligations.ChartReadsAnswer : Prop :=
  ∀ (o : Issue) (p : List Byte) (c : Chart) (s : State),
    (Accepted 0x0301 o p (chartInfoCheck p) s → u8 p 0 < 2 → (chartSlot s (u8 p 0)).state = 0x3C →
      ∃ d v on, exec (.chartInfo o p) s = answerOn 0x0301 o s 0
          (b1 0x3C ++ b1 (flag (slotInUse s (u8 p 0))) ++ b2 d.format ++ b4 d.chartId ++ b4 d.revision
            ++ b4 (chartSlot s (u8 p 0)).generation ++ b1 d.rate ++ b1 d.ovs.length ++ b1 d.bindings ++ b1 v ++ b8 on
            ++ b4 d.requiredSi ++ b4 d.reducedSi ++ b2 s.fw.running.chartMin ++ b2 s.fw.running.chartMax) (takeLog s)
        ∧ d = readChart (chartSlot s (u8 p 0)).chartBytes
        ∧ (slotInUse s (u8 p 0) = true → v = flag s.cs.reduced ∧ on = overlaysOn s))
    ∧ (Accepted 0x0301 o p (chartInfoCheck p) s →
      ∃ r, exec (.chartInfo o p) s = answerOn 0x0301 o s 0 r (takeLog s) ∧ r.length = 40)
    ∧ (Accepted 0x0305 o p noCheck s →
      exec (.overlayStatus o p) s = answerOn 0x0305 o s 0
        ((List.range 64).flatMap (fun n => b1 (if hasOverlay s n then (ovGet s n).st else 0xFF))) (takeLog s))
    ∧ (s.cs.chart = some c → Accepted 0x0307 o p (bindingListCheck p) s →
      exec (.bindingList o p) s = answerOn 0x0307 o s 0
        (b1 (min (u8 p 1) (c.bindings - u8 p 0)) ++ [0, 0, 0]
          ++ (List.range (min (u8 p 1) (c.bindings - u8 p 0))).flatMap (fun i =>
            (c.binding (u8 p 0 + i)).take 6
              ++ b1 (2 * flag (bit (u8 (c.binding (u8 p 0 + i)) 6) 1) + flag (bindingEnabled s c (u8 p 0 + i)))
              ++ [0] ++ (c.binding (u8 p 0 + i)).drop 8)) (takeLog s))
    ∧ (Accepted 0x030D o p (chartReadCheck p) s →
      exec (.chartRead o p) s = answerOn 0x030D o s 0
        ((List.range (u16 p 8)).map (fun k => tget 0xFF (chartSlot s (u8 p 0)).bytes (u32 p 4 + k))) (takeLog s))

/-- What an accepted overlay command does in each state of its overlay (Table 4-10, R75, R77). ACTIVATE: an INACTIVE overlay
becomes LOADING and asks for its load; a LOADING or FADING_IN one takes one more waiter; an ACTIVE one is answered OK and
stays; a FADING_OUT one turns round to FADING_IN; an UNLOADING one queues the request. DEACTIVATE: an INACTIVE overlay
stays; a LOADING one becomes INACTIVE; a FADING_IN or ACTIVE one becomes FADING_OUT; a FADING_OUT or UNLOADING one takes
one more waiter. SWITCH: the incoming overlay becomes LOADING and asks for the load that places it. The states of the
other overlays stay. -/
def Obligations.OverlayCommandsStartTransitions : Prop :=
  ∀ (o : Issue) (p : List Byte) (s : State), tblWf Overlay.inactive s.cs.overlays = true →
    (Accepted 0x0302 o p (overlayActivateCheck o p) s → (ovGet s (u8 p 0)).st = 0 →
      ∃ t, exec (.overlayActivate o p) s = .next t ∧ Replied 0x0302 o s 10 [] t
        ∧ (ovGet t (u8 p 0)).st = 1 ∧ (ovGet t (u8 p 0)).waiters = [waiterOf o s]
        ∧ (∀ n, n ≠ u8 p 0 → ovGet t n = ovGet s n) ∧ t.cs.loads = s.cs.loads ++ [.activate (u8 p 0)]
        ∧ OnlyHost { s with cs := t.cs } t)
    ∧ (Accepted 0x0302 o p (overlayActivateCheck o p) s → (ovGet s (u8 p 0)).st = 3 →
      exec (.overlayActivate o p) s = answerOn 0x0302 o s 0 [] (takeLog s))
    ∧ (Accepted 0x0302 o p (overlayActivateCheck o p) s → (ovGet s (u8 p 0)).st = 1 ∨ (ovGet s (u8 p 0)).st = 2 →
      exec (.overlayActivate o p) s = answerOn 0x0302 o s 10 []
        (ovMod (takeLog s) (u8 p 0) (fun v => { v with waiters := v.waiters ++ [waiterOf o s] })))
    ∧ (Accepted 0x0302 o p (overlayActivateCheck o p) s → (ovGet s (u8 p 0)).st = 4 →
      ∃ t, exec (.overlayActivate o p) s = .next t ∧ Replied 0x0302 o s 10 [] t
        ∧ (ovGet t (u8 p 0)).st = 2 ∧ (ovGet t (u8 p 0)).waiters = [waiterOf o s]
        ∧ (∀ n, n ≠ u8 p 0 → ovGet t n = ovGet s n)
        ∧ OnlyHost { s with cs := t.cs, par := t.par, eng := t.eng } t)
    ∧ (Accepted 0x0302 o p (overlayActivateCheck o p) s → (ovGet s (u8 p 0)).st = 5 →
      exec (.overlayActivate o p) s = answerOn 0x0302 o s 10 []
        (ovMod (takeLog s) (u8 p 0) (fun v =>
          { v with queued := v.queued ++ [ovRequest s o (u8 p 0) (u8 p 1) (u16 p 2) s.host.log] })))
    ∧ (Accepted 0x0303 o p (overlayDeactivateCheck o p) s → (ovGet s (u8 p 0)).st = 1 →
      ∃ t, exec (.overlayDeactivate o p) s = .next t ∧ Replied 0x0303 o s 0 [] t
        ∧ (ovGet t (u8 p 0)).st = 0 ∧ (ovGet t (u8 p 0)).waiters = []
        ∧ (∀ n, n ≠ u8 p 0 → ovGet t n = ovGet s n) ∧ .activate (u8 p 0) ∉ t.cs.loads)
    ∧ (Accepted 0x0303 o p (overlayDeactivateCheck o p) s → (ovGet s (u8 p 0)).st = 2 →
      ∃ t, exec (.overlayDeactivate o p) s = .next t ∧ Replied 0x0303 o s 10 [] t
        ∧ (ovGet t (u8 p 0)).st = 4 ∧ (ovGet t (u8 p 0)).waiters = [waiterOf o s]
        ∧ (∀ n, n ≠ u8 p 0 → ovGet t n = ovGet s n)
        ∧ OnlyHost { s with cs := t.cs, par := t.par, eng := t.eng } t)
    ∧ (Accepted 0x0303 o p (overlayDeactivateCheck o p) s → (ovGet s (u8 p 0)).st = 4 ∨ (ovGet s (u8 p 0)).st = 5 →
      ∃ t, exec (.overlayDeactivate o p) s = .next t ∧ Replied 0x0303 o s 10 [] t
        ∧ (ovGet t (u8 p 0)).st = (ovGet s (u8 p 0)).st
        ∧ (ovGet t (u8 p 0)).waiters = (ovGet s (u8 p 0)).waiters ++ [waiterOf o s] ∧ (ovGet t (u8 p 0)).queued = []
        ∧ (∀ n, n ≠ u8 p 0 → ovGet t n = ovGet s n) ∧ OnlyHost { s with cs := t.cs, net := t.net } t)
    ∧ (Accepted 0x0303 o p (overlayDeactivateCheck o p) s → (ovGet s (u8 p 0)).st = 0 →
      exec (.overlayDeactivate o p) s = answerOn 0x0303 o s 0 [] (takeLog s))
    ∧ (Accepted 0x0303 o p (overlayDeactivateCheck o p) s → (ovGet s (u8 p 0)).st = 3 →
      ∃ t, exec (.overlayDeactivate o p) s = .next t ∧ Replied 0x0303 o s 10 [] t
        ∧ (ovGet t (u8 p 0)).st = 4 ∧ (ovGet t (u8 p 0)).waiters = [waiterOf o s]
        ∧ (∀ n, n ≠ u8 p 0 → ovGet t n = ovGet s n)
        ∧ OnlyHost { s with cs := t.cs, par := t.par, eng := t.eng } t)
    ∧ (Accepted 0x0304 o p (overlaySwitchCheck o p) s →
      ∃ t, exec (.overlaySwitch o p) s = .next t ∧ Replied 0x0304 o s 10 [] t
        ∧ (ovGet t (u8 p 1)).st = 1 ∧ (ovGet t (u8 p 0)).st = 3
        ∧ (∀ n, n ≠ u8 p 0 → n ≠ u8 p 1 → ovGet t n = ovGet s n)
        ∧ t.cs.loads = s.cs.loads ++ [.switchIn (u8 p 0) (u8 p 1)]
        ∧ (∃ w, t.cs.switches = s.cs.switches ++ [w] ∧ w.src = u8 p 0 ∧ w.dst = u8 p 1 ∧ w.phase = 0
          ∧ w.waiter = some (waiterOf o s))
        ∧ OnlyHost { s with cs := t.cs } t)

/-- A binding's enable is set (R81); a change to the variant in force is OK and one to the other is QUEUED and begins (R83).
CHART_WRITE_OPEN ends the session, erases the slot and is QUEUED with the erase; CHART_WRITE_DATA puts its bytes at the
next offset; CHART_WRITE_CLOSE ends the session and is QUEUED with the slot record to write, whose status is OK exactly
for a chart that passes the checks (R72, R85). CHART_SELECT for the next reset gives the slot the next GENERATION; one
for now is QUEUED and begins, and no load but a rebuild, and no switch, outlives it (R86, R108). -/
def Obligations.ChartCommandsTakeEffect : Prop :=
  ∀ (o : Issue) (p : List Byte) (w : WriteSession) (s : State),
    (Accepted 0x0306 o p (bindingSetCheck p) s →
      exec (.bindingSet o p) s = answerOn 0x0306 o s 0 []
        { (takeLog s) with cs := { s.cs with enables := tset 0 s.cs.enables (u8 p 0) (1 + u8 p 1) } })
    ∧ (Accepted 0x0308 o p (setVariantCheck p) s → u8 p 0 = flag s.cs.reduced →
      exec (.setVariant o p) s = answerOn 0x0308 o s 0 [] (takeLog s))
    ∧ (Accepted 0x0308 o p (setVariantCheck p) s → u8 p 0 ≠ flag s.cs.reduced →
      ∃ t, exec (.setVariant o p) s = .next t ∧ Replied 0x0308 o s 10 [] t
        ∧ (∃ v, t.cs.change = some v ∧ v.reduced = (u8 p 0 == 1) ∧ v.cause = 0 ∧ v.waiter = some (waiterOf o s))
        ∧ t.cs.reduced = s.cs.reduced)
    ∧ (Accepted 0x0309 o p (chartWriteOpenCheck p) s →
      ∃ t, exec (.chartWriteOpen o p) s = .next t ∧ Replied 0x0309 o s 10 [] t
        ∧ t.cs.session = none ∧ chartSlot t (u8 p 0) = ChartSlot.erased
        ∧ t.fw.jobs = s.fw.jobs ++ [.chartErase (waiterOf o s) (u8 p 0) (u32 p 4)]
        ∧ OnlyHost { s with cs := t.cs, fw := t.fw } t)
    ∧ (s.cs.session = some w → Accepted 0x030A o p (chartWriteDataCheck o p) s →
      ∃ t, exec (.chartWriteData o p) s = .next t
        ∧ Replied 0x030A o s 0 (b4 (w.written + (p.length - 8))) t
        ∧ t.cs.session = some { w with written := w.written + (p.length - 8) }
        ∧ (tblWf 0xFF (chartSlot s w.slot).bytes = true → ∀ k,
            tget 0xFF (chartSlot t w.slot).bytes k
              = if w.written ≤ k ∧ k < w.written + (p.length - 8) then p.getD (8 + (k - w.written)) 0
                else tget 0xFF (chartSlot s w.slot).bytes k)
        ∧ OnlyHost { s with cs := t.cs } t)
    ∧ (s.cs.session = some w → Accepted 0x030B o p (chartWriteCloseCheck o) s →
      ∃ t st, exec (.chartWriteClose o p) s = .next t ∧ Replied 0x030B o s 10 [] t
        ∧ t.cs.session = none ∧ t.fw.jobs = s.fw.jobs ++ [.chartClose (waiterOf o s) w.slot st]
        ∧ (st = 0 ↔ chartFailure s (chartSlot s w.slot).chartBytes = none)
        ∧ OnlyHost { s with cs := t.cs, fw := t.fw } t)
    ∧ (Accepted 0x030C o p (chartSelectCheck p) s → u8 p 1 = 0 →
      exec (.chartSelect o p) s = answerOn 0x030C o s 0 []
        (setChartSlot (takeLog s) (u8 p 0) (fun q =>
          { q with generation := ((chartSlot s (1 - u8 p 0)).generation + 1) % 2 ^ 32 })))
    ∧ (Accepted 0x030C o p (chartSelectCheck p) s → u8 p 1 = 1 →
      ∃ t q, exec (.chartSelect o p) s = .next t ∧ Replied 0x030C o s 10 [] t ∧ t.cs.select = some q
        ∧ q.slot = u8 p 0 ∧ q.waiter = waiterOf o s ∧ (∀ l ∈ t.cs.loads, l = .rebuild) ∧ t.cs.switches = [])

/-- The load at the head of the queue starts on a copy of the Near bank, or a rebuild on an empty one, and the Near bank stays
in force; the load's end leaves the Far bank as the load makes it (R17, R73, R108). A gate at unity makes a FADING_IN
overlay ACTIVE; one at mute, with the overlay's routes at mute, has a FADING_OUT overlay's removal asked for (R75, R114).
A route's ramp ends, and the load waits for it no more (R113). -/
def Obligations.LoaderStepsTakeEffect : Prop :=
  ∀ (s : State) (c : Chart),
    (∀ w r, s.cs.chart = some c → s.cs.load = none → s.cs.select = none → s.cs.loads = w :: r → s.eng.halted = false →
      ∃ t l, exec .loadStart s = .next t ∧ t.cs.load = some l ∧ l.what = w ∧ l.complete = false
        ∧ t.cs.loads = r ∧ t.cs.near = s.cs.near ∧ t.cs.overlays = s.cs.overlays
        ∧ t.cs.far = (if w = .rebuild then Bank.empty else s.cs.near))
    ∧ (∀ l, s.cs.chart = some c → s.cs.load = some l → l.complete = false →
      exec .loadComplete s = .next { s with cs := { s.cs with
        far := targetBank s c l.what, load := some { l with complete := true } } })
    ∧ (∀ ov : Fin 64, (ovGet s ov.val).st = 2 → gateSettled s ov.val = true →
      ∃ t, exec (.overlayGateRampEnd ov) s = .next t ∧ (ovGet t ov.val).st = 3 ∧ (ovGet t ov.val).waiters = []
        ∧ t.cs.loads = s.cs.loads ∧ t.eng = s.eng)
    ∧ (∀ ov : Fin 64, (ovGet s ov.val).st = 4 → gateSettled s ov.val = true →
      (overlayRoutes s ov.val).all (routeMuted s) = true →
      ∃ t, exec (.overlayGateRampEnd ov) s = .next t ∧ (ovGet t ov.val).st = 5
        ∧ t.cs.loads = s.cs.loads ++ [.remove ov.val] ∧ t.host = s.host)
    ∧ (∀ k : Fin 64, tblWf RouteRamp.steady s.eng.ramps = true → (rampGet s k.val).n ≠ 0 →
      (rampGet s k.val).n < (rampGet s k.val).k →
      ∃ t, exec (.chainRampEnd k) s = .next t ∧ (rampGet t k.val).n = 0
        ∧ (rampGet t k.val).present = (rampGet s k.val).present
        ∧ t.cs.load.map (·.routes) = s.cs.load.map (fun l => without k.val l.routes))

/-! ## The engine (chapter 5) -/

/-- What NOP, CLR, MAC, STO, DLW, DLR, MTR and LIM do where a lane stands at their word (R94, R95, R97, R100, R130, R140):
the rounded product is added with saturation, the store shifted and saturated, the line's word of this period written, a
tap of a line with no change of D0 in progress weighed and added, a meter's peak raised by its word; then the lane goes on
to the next word, or has ended after word 1,023. LIM only goes on, since the loader has read it. -/
def Obligations.LaneWordsTakeEffect : Prop :=
  ∀ (l : Fin 8) (src : BitVec 10) (par : BitVec 12) (dst : BitVec 10) (acc : BitVec 2) (aux : Byte) (line : BitVec 7)
    (offset : BitVec 16) (meter : Byte) (p6 : BitVec 6) (u : Bool) (s : State),
    (laneAt s l.val 0 = true → exec (.nop l) s = .next (laneMod s l.val advance))
    ∧ (laneAt s l.val (encodeWord 0x01 0 0 0 acc.toNat 0 0) = true →
      exec (.clr l acc) s = .next (laneMod (laneMod s l.val (accSet acc 0)) l.val advance))
    ∧ (laneAt s l.val (encodeWord 0x02 src.toNat par.toNat 0 acc.toNat 0 (if u then 0x8000 else 0)) = true →
      exec (.mac l src par acc u) s = .next (laneMod (laneMod s l.val (fun a => accPut acc ((accGet a acc).toInt
        + rneDiv ((readBerth s src.toNat).toInt * (if u then 2 ^ 27 else (slotGet s par.toNat).present.toInt)) (2 ^ 27)) a))
          l.val advance))
    ∧ (laneAt s l.val (encodeWord 0x04 0 0 dst.toNat acc.toNat aux.toNat 0) = true →
      exec (.sto l dst acc aux) s = .next (laneMod
        (storeBerth l.val dst.toNat (accGet (laneGet s l.val) acc).toInt aux s) l.val advance))
    ∧ (laneAt s l.val (encodeWord 0x0C src.toNat 0 0 0 line.toNat 0) = true → (lineGet s line.toNat).len ≠ 0 →
      exec (.dlw l src line) s = .next (laneMod { s with par := { s.par with
        pool := tset 0 s.par.pool (lineSlot s (lineGet s line.toNat) 0) (readBerth s src.toNat) } } l.val advance))
    ∧ (laneAt s l.val (encodeWord 0x0D 0 par.toNat 0 acc.toNat (line.toNat + 128 * flag u) offset.toNat) = true →
      (lineGet s line.toNat).sel = none →
      exec (.dlr l par acc u line offset) s = .next (laneMod (laneMod s l.val (fun a => accPut acc ((accGet a acc).toInt
        + rneDiv ((lineTap s (lineGet s line.toNat) ((lineGet s line.toNat).d0 + offset.toNat)).toInt
          * (if u then 2 ^ 27 else (slotGet s par.toNat).present.toInt)) (2 ^ 27)) a)) l.val advance))
    ∧ (laneAt s l.val (encodeWord 0x14 src.toNat meter.toNat 0 0 0 0) = true → (meterGet s meter.toNat).present = true →
      ∃ t, exec (.mtr l src meter) s = .next t ∧ (meterGet t meter.toNat).present = true
        ∧ (meterGet t meter.toNat).peak = (if heldPeak (meterGet s meter.toNat) (fabricHz s)
            < (readBerth s src.toNat).toInt.natAbs then (readBerth s src.toNat).toInt.natAbs
          else (meterGet s meter.toNat).peak)
        ∧ laneGet t l.val = advance (laneGet s l.val))
    ∧ (laneAt s l.val (encodeWord 0x18 0 p6.toNat dst.toNat 0 (flag u) 0) = true →
      exec (.lim l p6 dst u) s = .next (laneMod s l.val advance))

/-- R96, R121, R126, R462: MACS, XF and BQ: the accumulator with its product is stored and cleared; the crossfade is
rounded once and stored; the section takes its sample and its output is stored or added. -/
def Obligations.StoringWordsTakeEffect : Prop :=
  ∀ (l : Fin 8) (src : BitVec 10) (par : BitVec 12) (p10 dst : BitVec 10) (acc : BitVec 2) (aux : Byte) (u v : Bool)
    (s : State),
    (laneAt s l.val (encodeWord 0x03 src.toNat par.toNat dst.toNat acc.toNat aux.toNat (if u then 0x8000 else 0)) = true →
      ∃ a, a = accPut acc ((accGet (laneGet s l.val) acc).toInt
          + rneDiv ((readBerth s src.toNat).toInt * (if u then 2 ^ 27 else (slotGet s par.toNat).present.toInt)) (2 ^ 27))
          (laneGet s l.val)
        ∧ exec (.macs l src par dst acc aux u) s = .next (laneMod (laneMod (storeBerth l.val dst.toNat (accGet a acc).toInt aux
          (laneMod s l.val (fun _ => a))) l.val (accSet acc 0)) l.val advance))
    ∧ (laneAt s l.val (encodeWord 0x10 src.toNat p10.toNat dst.toNat 0 0 aux.toNat) = true →
      exec (.xf l src p10 dst aux) s = .next (laneMod (storeBerth l.val dst.toNat
        (rneDiv ((2 ^ 27 - (slotGet s (3840 + aux.toNat)).present.toInt) * (readBerth s src.toNat).toInt
          + (slotGet s (3840 + aux.toNat)).present.toInt * (readBerth s p10.toNat).toInt) (2 ^ 27)) 0 s) l.val advance))
    ∧ (laneAt s l.val (encodeWord 0x08 src.toNat par.toNat dst.toNat acc.toNat (flag u + 2 * flag v) 0) = true →
      ∃ x y q b, x = (if u then (satWord (accGet (laneGet s l.val) acc).toInt).1 else readBerth s src.toNat)
        ∧ (y, q, b) = sectionSample (sectionGet s par.toNat) x
        ∧ exec (.bq l src par dst acc u v) s = .next (laneMod
          (if v then laneMod (laneMod (sectionMod s par.toNat (fun _ => q)) l.val (fun a => { a with accSat := a.accSat || b }))
              l.val (fun a => accPut acc ((accGet a acc).toInt + y.toInt) a)
            else storeBerth l.val dst.toNat y.toInt 0
              (laneMod (sectionMod s par.toNat (fun _ => q)) l.val (fun a => { a with accSat := a.accSat || b })))
          l.val advance))

/-- R100, R101: a fence waits until the named lane has completed its word in this period, or has stopped; END ends the
lane. Nothing else changes. -/
def Obligations.FencesAndEnd : Prop :=
  ∀ (l : Fin 8) (lane : BitVec 3) (word : BitVec 10) (s : State),
    (laneAt s l.val (encodeWord 0x20 0 0 0 0 lane.toNat word.toNat) = true → fenceMet s lane.toNat word.toNat = true →
      exec (.fen l lane word) s = .next (laneMod s l.val advance))
    ∧ (laneAt s l.val (encodeWord 0x20 0 0 0 0 lane.toNat word.toNat) = true → fenceMet s lane.toNat word.toNat = false →
      exec (.fen l lane word) s = .next (laneMod s l.val (fun a => { a with wait := some (lane.toNat, word.toNat) })))
    ∧ (s.eng.ticking = true → (laneGet s l.val).wait = some (lane.toNat, word.toNat) →
      fenceMet s lane.toNat word.toNat = true →
      exec (.fenRelease l) s = .next (laneMod s l.val (fun a => advance { a with wait := none })))
    ∧ (s.eng.ticking = true → (laneGet s l.val).wait = some (lane.toNat, word.toNat) →
      fenceMet s lane.toNat word.toNat = false → exec (.fenRelease l) s = .next s)
    ∧ (laneAt s l.val (encodeWord 0x3F 0 0 0 0 0 0) = true →
      exec (.endWord l) s = .next (laneMod s l.val (fun a => { a with ended := true })))
    ∧ (fenceMet s lane.toNat word.toNat = true ↔ (laneGet s lane.toNat).ended = true ∨ (laneGet s lane.toNat).faulted = true
      ∨ word.toNat < (laneGet s lane.toNat).pos)

/-- R94, R100, R105: at the tick every lane starts at word 0 of its stream with its four accumulators at
0, not waiting, not ended and not stopped by a fault. -/
def Obligations.TickStartsLanes : Prop :=
  ∀ s : State, s.eng.ticking = true →
    ∃ t, exec .fabricTick s = .next t
      ∧ (∀ l < 8, (laneGet t l).pos = 0 ∧ (laneGet t l).ended = false ∧ (laneGet t l).faulted = false
        ∧ (laneGet t l).wait = none ∧ (laneGet t l).a0 = 0 ∧ (laneGet t l).a1 = 0 ∧ (laneGet t l).a2 = 0
        ∧ (laneGet t l).a3 = 0)

/-- R109: the fabric period count is 0 after the first tick since reset and rises by one at each further tick. -/
def Obligations.TickCountsPeriods : Prop :=
  ∀ s t : State, s.eng.ticking = true → exec .fabricTick s = .next t →
    t.eng.started = true ∧ t.eng.period = (if s.eng.started then s.eng.period + 1 else 0)

/-- R93, Table 5-2: integer samples of ports reach the fabric exactly, 32-bit ones to nearest; a fabric word as it is. -/
def Obligations.IngressConversion : Prop :=
  ∀ x : Word,
    (portWord .int16 x).1.toInt = (x.truncate 16).toInt * 2 ^ 12
    ∧ (portWord .int24 x).1.toInt = (x.truncate 24).toInt * 2 ^ 4
    ∧ (portWord .int32 x).1.toInt = rneDiv x.toInt 16
    ∧ (portWord .fabric x) = (x, false)
    ∧ (x.extractLsb' 23 8 = 0xFF#8 → x.extractLsb' 0 23 ≠ 0#23 → portWord .float32 x = (0, true))

/-- R95, R96: rounding to nearest with ties to even: the result is at most half a unit away, and even at exactly half. -/
def Obligations.RoundingIsNearestTiesToEven : Prop :=
  ∀ (x : Int) (k : Nat), 0 < k →
    2 * (rneShift x k * 2 ^ k - x).natAbs ≤ 2 ^ k
    ∧ (2 * (rneShift x k * 2 ^ k - x).natAbs = 2 ^ k → rneShift x k % 2 = 0)

/-- R94, R96: an accumulator and a fabric word hold the exact sum where it fits, else the nearest end of the range. -/
def Obligations.SaturationIsExact : Prop :=
  ∀ x : Int,
    (satAcc x).1.toInt = max (-2 ^ 47) (min (2 ^ 47 - 1) x) ∧ ((satAcc x).2 = true ↔ x < -2 ^ 47 ∨ 2 ^ 47 - 1 < x)
    ∧ (satWord x).1.toInt = max (-2 ^ 31) (min (2 ^ 31 - 1) x) ∧ ((satWord x).2 = true ↔ x < -2 ^ 31 ∨ 2 ^ 31 - 1 < x)

/-- A source word lands in the landing half and leaves the working half and the other berths alone (R88). A berth of a
BYPASS convoy takes its member's last sample, converted from its port's format, under the member's fade and the convoy's
mute, rounded once (R93, R156); a berth of an SAI port in the FD role takes the oldest word of its ingress FIFO (R11). The
dynamics stage takes a sink whose final store has landed; one with no limiter, no protection and no port gives its clamped
word (R103, R130). A lane that fetches a faulty word stops there; its first fault asks for the rebuild, and a third within
10 s halts the engine instead (R107, R108). -/
def Obligations.SampleAndFaultSteps : Prop :=
  ∀ s : State,
    (∀ (a : Fin 256) (w : Word) line, s.eng.ticking = true → a.val ∈ sourceWriters s.cs.near →
      ∃ t, exec (.sourceWordLand a w line) s = .next t ∧ t.eng.working = s.eng.working ∧ t.eng.work = s.eng.work
        ∧ (tblWf none s.eng.landing = true → ∀ b, b ≠ a.val → tget none t.eng.landing b = tget none s.eng.landing b))
    ∧ (∀ (a : Fin 256) (w : Word) line k m c, s.eng.ticking = true → a.val ∈ sourceWriters s.cs.near →
      convoyBerth s false a.val = some (k, m, c) → convoyBypass (nearConvoy s k) = true →
      tblWf none s.eng.landing = true →
      ∃ t, exec (.sourceWordLand a w line) s = .next t ∧ tget none t.eng.landing a.val = some (BitVec.ofInt 32 (rneShift
        ((portWord (ingressFormat s (memberOf (nearConvoy s k) m).1 (memberOf (nearConvoy s k) m).2.1)
          ((memGet s k m).last.getD c 0)).1.toInt
          * ((memberLevel (memGet s k m)).toInt * (muteFactor (convGet s k)).toInt)) 54)))
    ∧ (∀ (a : Fin 256) (w : Word) line i x r, s.eng.ticking = true → a.val ∈ sourceWriters s.cs.near →
      convoyBerth s false a.val = none → exposureAt s a.val = none → captureOf s a.val = none →
      fdSaiSource s a.val = some i → tget none s.eng.ingress a.val = some (x :: r) →
      tblWf none s.eng.landing = true → tblWf none s.eng.ingress = true →
      ∃ t, exec (.sourceWordLand a w line) s = .next t
        ∧ tget none t.eng.landing a.val = some (portWord (portFormat s i 0).1 x).1
        ∧ tget none t.eng.ingress a.val = some r)
    ∧ (∀ k : Fin 256, s.eng.ticking = true → (sinkGet s k.val).landed = true → (sinkGet s k.val).done = false →
      ∃ t, exec (.dynamicsSink k) s = .next t ∧ (sinkGet t k.val).done = true
        ∧ (sinkLimiter s k.val = none → sinkProtect s k.val = none → s.cs.select = none →
          (sinkFormat s (256 + k.val)).1 = .fabric →
          (sinkGet t k.val).out = BitVec.ofInt 32 (max (-2 ^ 27) (min (2 ^ 27) (sinkGet s k.val).word.toInt))))
    ∧ (∀ l : Fin 8, laneRuns s l.val = true →
      ∃ t, exec (.wordFetchFault l) s = .next t ∧ (laneGet t l.val).faulted = true
        ∧ (laneGet t l.val).faultWord = (laneGet s l.val).pos ∧ (laneGet t l.val).faultSince = true
        ∧ (l.val * 1024 + (laneGet s l.val).pos ∉ s.eng.faultedWords → 2 ≤ (recentTimes s s.eng.faults).length →
          t.eng.halted = true ∧ t.eng.ticking = false)
        ∧ (l.val * 1024 + (laneGet s l.val).pos ∉ s.eng.faultedWords → (recentTimes s s.eng.faults).length < 2 → s.cs.load = none →
          .rebuild ∈ t.cs.loads ∧ t.eng.ticking = true))

/-! ## Parameters, filters and dynamics (chapter 6) -/

/-- What GET_PARAM, BQ_READ, DELAY_READ, LIMITER_READ, PROTECT_READ, METER_READ, CLIP_READ and ENGINE_STATUS answer (Table
6-12, Table 5-9, R31). LIMITER_READ starts its context's largest reduction anew, METER_READ its context's peaks of the
meters read, CLIP_READ with its clear bit its context's counts of the range, and ENGINE_STATUS the ACC_SAT bits; nothing
else changes. -/
def Obligations.ParameterReadsAnswer : Prop :=
  ∀ (o : Issue) (p : List Byte) (s : State),
    (Accepted 0x0403 o p (getParamCheck p) s →
      exec (.getParam o p) s = answerOn 0x0403 o s 0
        ((List.range (u16 p 2)).flatMap (fun i =>
          b4 (slotGet s (u16 p 0 + i)).target.toNat ++ b4 (slotGet s (u16 p 0 + i)).present.toNat
            ++ b2 (slotGet s (u16 p 0 + i)).rampMs ++ b1 (slotKind s (u16 p 0 + i)) ++ [0]
            ++ b4 ((slotGet s (u16 p 0 + i)).n - (slotGet s (u16 p 0 + i)).k))) (takeLog s))
    ∧ (Accepted 0x0407 o p (bqReadCheck p) s →
      exec (.bqRead o p) s = answerOn 0x0407 o s 0
        (b1 (flag (countsActive (sectionGet s (u16 p 0)))) ++ b1 (flag (sectionGet s (u16 p 0)).sel.isSome)
          ++ b1 (((sectionGet s (u16 p 0)).queued.map (fun r => flag r.toB)).getD 0xFF)
          ++ b1 (((sectionGet s (u16 p 0)).queued.map (fun r => flag r.fade)).getD 0)
          ++ b4 (selRemaining (sectionGet s (u16 p 0)).sel)
          ++ coefBytes ((sectionGet s (u16 p 0)).pendA.getD (sectionGet s (u16 p 0)).bankA)
          ++ coefBytes ((sectionGet s (u16 p 0)).pendB.getD (sectionGet s (u16 p 0)).bankB)) (takeLog s))
    ∧ (Accepted 0x0409 o p (delayReadCheck p) s →
      exec (.delayRead o p) s = answerOn 0x0409 o s 0
        (b4 (lineGet s (u8 p 0)).base ++ b4 (lineGet s (u8 p 0)).len ++ b4 (lineGet s (u8 p 0)).d0
          ++ b2 (lineGet s (u8 p 0)).maxOffset ++ b1 (flag (lineGet s (u8 p 0)).sel.isSome) ++ [0]
          ++ b4 (((lineGet s (u8 p 0)).queued.map (·.d0)).getD 0xFFFFFFFF)) (takeLog s))
    ∧ (Accepted 0x040B o p (limiterReadCheck p) s → (limiterGet s (u8 p 0)).pending = none →
      exec (.limiterRead o p) s = answerOn 0x040B o s 0
        (sb2 (limiterGet s (u8 p 0)).threshold ++ b2 (limiterGet s (u8 p 0)).lookahead ++ b2 (limiterGet s (u8 p 0)).attack
          ++ b2 (limiterGet s (u8 p 0)).release ++ b1 (flag (limiterGet s (u8 p 0)).enabled)
          ++ b1 (limiterSinks s (u8 p 0)).length ++ b2 (reductionOf (limiterGet s (u8 p 0)).gain)
          ++ b2 (tget 0 (limiterGet s (u8 p 0)).largest (ctxNum o.ctx)))
        (limiterMod (takeLog s) (u8 p 0) (fun q => { q with largest := tset 0 q.largest (ctxNum o.ctx) 0 })))
    ∧ (∀ f, Accepted 0x040B o p (limiterReadCheck p) s → (limiterGet s (u8 p 0)).pending = some f →
      exec (.limiterRead o p) s = answerOn 0x040B o s 0
        (sb2 f.2.1 ++ b2 (limiterGet s (u8 p 0)).lookahead ++ b2 f.2.2.1 ++ b2 f.2.2.2 ++ b1 f.1
          ++ b1 (limiterSinks s (u8 p 0)).length ++ b2 (reductionOf (limiterGet s (u8 p 0)).gain)
          ++ b2 (tget 0 (limiterGet s (u8 p 0)).largest (ctxNum o.ctx)))
        (limiterMod (takeLog s) (u8 p 0) (fun q => { q with largest := tset 0 q.largest (ctxNum o.ctx) 0 })))
    ∧ (∀ q, Accepted 0x040D o p (protectReadCheck p) s → q = latchProtect (protectGet s (u8 p 0)) →
      exec (.protectRead o p) s = answerOn 0x040D o s 0
        (b2 q.re ++ sb2 (if q.estimated then q.temp else classDTemp (takeLog s))
          ++ b2 (reductionOf (protectGet s (u8 p 0)).gtNow) ++ b2 (reductionOf (protectGet s (u8 p 0)).gx)
          ++ b2 (min (((q.peaks.filter (fun x => decide (s.eng.period < x.1 + fabricHz s / 10))).map (·.2)).foldl max 0)
            0xFFFF)
          ++ b1 (flag q.enabled + 2 * flag q.degraded + 4 * flag (q.fault != 0) + 8 * flag q.limiting
            + 16 * flag q.exLimiting)
          ++ b1 q.fault ++ [0, 0, 0, 0]) (takeLog s))
    ∧ (Accepted 0x040E o p (meterReadCheck p) s →
      exec (.meterRead o p) s = answerOn 0x040E o s 0
        ((List.range (u8 p 1)).flatMap (fun i =>
          b4 (tget 0 (meterGet s (u8 p 0 + i)).since (ctxNum o.ctx)) ++ b4 (heldPeak (meterGet s (u8 p 0 + i)) (fabricHz s))
            ++ sb2 (rmsReading (meterGet s (u8 p 0 + i)).ms) ++ [0, 0]))
        ((List.range (u8 p 1)).foldl (fun t i =>
          meterMod t (u8 p 0 + i) (fun m => { m with since := tset 0 m.since (ctxNum o.ctx) 0 })) (takeLog s)))
    ∧ (Accepted 0x040F o p (clipReadCheck p) s →
      ∃ t, exec (.clipRead o p) s = .next t
        ∧ Replied 0x040F o s 0 ((List.range (u16 p 2)).flatMap (fun i =>
          b2 (tget 0 s.par.clips (ctxNum o.ctx * 1024 + u16 p 0 + i)))) t
        ∧ (u8 p 4 = 0 → t.par = s.par)
        ∧ (u8 p 4 = 1 → tblWf 0 s.par.clips = true → ∀ k, tget 0 t.par.clips k
            = if ctxNum o.ctx * 1024 + u16 p 0 ≤ k ∧ k < ctxNum o.ctx * 1024 + u16 p 0 + u16 p 2 then 0
              else tget 0 s.par.clips k)
        ∧ OnlyHost { s with par := { s.par with clips := t.par.clips } } t)
    ∧ (Accepted 0x0410 o p noCheck s →
      exec (.engineStatus o p) s = answerOn 0x0410 o s 0
        (b4 (s.eng.period % 2 ^ 32) ++ b1 s.cs.nearBank
          ++ b1 ((s.cs.load.map (fun l => if l.complete then 2 else 1)).getD 0
            + 4 * flag (s.eng.ramps.any (fun e => e.2.n != 0)))
          ++ b1 (maskBy 8 (fun i => (laneGet s i).faultSince)) ++ b1 (maskBy 8 (fun i => (laneGet s i).accSat))
          ++ (List.range 8).flatMap (fun l => b4 (laneGet s l).overrun)
          ++ (List.range 8).flatMap (fun l => b2 (laneGet s l).faultWord) ++ b4 s.cs.swapCount ++ [0, 0, 0, 0])
        { (takeLog s) with eng := { s.eng with
          lanes := tmapKeys Lane.reset s.eng.lanes (fun _ a => { a with accSat := false }) } })

/-- R119: an accepted SET_PARAM commits its target, as a word, a level in 0.01 dB or a position, under its log number with
its ramp time, the stored one for 0xFFFF; SET_PARAM_BLOCK commits every entry in order, or none and names the first that
fails; SET_RAMP_TIME stores a time. Nothing else changes. -/
def Obligations.ParameterCommitsTakeEffect : Prop :=
  ∀ (o : Issue) (p : List Byte) (s : State),
    (Accepted 0x0401 o p (paramCheck o.ctx p) s →
      exec (.setParam o p) s = answerOn 0x0401 o s 0 []
        (slotMod (takeLog s) (u16 p 0) (fun q => { q with
          target := paramTarget p
          pending := some (paramTarget p, if u16 p 8 = 0xFFFF then q.rampMs else u16 p 8, s.host.log) })))
    ∧ (Accepted 0x0402 o p (blockCountCheck p) s → (∀ e ∈ blockEntries p, paramCheck o.ctx e s = none) →
      exec (.setParamBlock o p) s = answerOn 0x0402 o s 0 [0xFF, 0]
        ((blockEntries p).foldl (fun t e => slotMod t (u16 e 0) (fun q => { q with
          target := paramTarget e
          pending := some (paramTarget e, if u16 e 8 = 0xFFFF then q.rampMs else u16 e 8, s.host.log) })) (takeLog s)))
    ∧ (∀ i st, i < (blockEntries p).length → Accepted 0x0402 o p (blockCountCheck p) s →
      paramCheck o.ctx ((blockEntries p).getD i []) s = some st →
      (∀ j < i, paramCheck o.ctx ((blockEntries p).getD j []) s = none) →
      exec (.setParamBlock o p) s = answerOn 0x0402 o s st (b1 i ++ b1 st) (takeLog s))
    ∧ (Accepted 0x0404 o p (setRampTimeCheck o p) s →
      exec (.setRampTime o p) s = answerOn 0x0404 o s 0 []
        (slotMod (takeLog s) (u16 p 0) (fun q => { q with rampMs := u16 p 2 })))

/-- BQ_WRITE gives the named bank its coefficients for the next tick (R125). BQ_SELECT and DELAY_SET start where no change is
in progress, are OK without effect where they name what is in force and nothing is queued, are queued behind a change in
progress, replace a queued request, which ends with CONFLICT, or cancel it (R127, R129, Table 6-2; while only a queued request
waits, the model's choice, log entry 122). -/
def Obligations.FilterAndDelayCommandsTakeEffect : Prop :=
  ∀ (o : Issue) (p : List Byte) (s : State),
    (Accepted 0x0405 o p (bqWriteCheck o p) s →
      exec (.bqWrite o p) s = answerOn 0x0405 o s 0 []
        (sectionMod (takeLog s) (u16 p 0) (fun q =>
          if u8 p 2 = 1 then { q with pendB := some (coefsAt p 4) } else { q with pendA := some (coefsAt p 4) })))
    ∧ (Accepted 0x0406 o p (bqSelectCheck o p) s → (sectionGet s (u16 p 0)).sel = none →
      (sectionGet s (u16 p 0)).queued = none → (sectionGet s (u16 p 0)).activeB = (u8 p 2 == 1) →
      exec (.bqSelect o p) s = answerOn 0x0406 o s 0 [] (takeLog s))
    ∧ (Accepted 0x0406 o p (bqSelectCheck o p) s → (sectionGet s (u16 p 0)).sel = none →
      (sectionGet s (u16 p 0)).queued = none → (sectionGet s (u16 p 0)).activeB ≠ (u8 p 2 == 1) →
      exec (.bqSelect o p) s = answerOn 0x0406 o s 0 []
        (sectionMod (takeLog s) (u16 p 0) (fun q => { q with sel := some {
          toB := u8 p 2 == 1, k := 0, n := if u8 p 3 = 1 then ceilDiv (u16 p 4 * fabricHz s) 1000 else 0
          latched := false, ms := u16 p 4, fade := u8 p 3 == 1 } })))
    ∧ (Accepted 0x0406 o p (bqSelectCheck o p) s → (sectionGet s (u16 p 0)).sel ≠ none →
      (sectionGet s (u16 p 0)).queued = none → countsActive (sectionGet s (u16 p 0)) = (u8 p 2 == 1) →
      exec (.bqSelect o p) s = answerOn 0x0406 o s 0 [] (sectionMod (takeLog s) (u16 p 0) (fun q => { q with queued := none })))
    ∧ (Accepted 0x0406 o p (bqSelectCheck o p) s → (sectionGet s (u16 p 0)).sel ≠ none →
      (sectionGet s (u16 p 0)).queued = none → countsActive (sectionGet s (u16 p 0)) ≠ (u8 p 2 == 1) →
      exec (.bqSelect o p) s = answerOn 0x0406 o s 10 []
        (sectionMod (takeLog s) (u16 p 0) (fun q => { q with queued := some {
          toB := u8 p 2 == 1, d0 := 0, ms := u16 p 4, fade := u8 p 3 == 1, waiter := waiterOf o s } })))
    ∧ (∀ r, Accepted 0x0406 o p (bqSelectCheck o p) s → (sectionGet s (u16 p 0)).queued = some r →
      exec (.bqSelect o p) s
        = (if countsActive (sectionGet s (u16 p 0)) = (u8 p 2 == 1) then
            answerOn 0x0406 o s 0 [] (complete r.waiter 7
              (sectionMod (takeLog s) (u16 p 0) (fun q => { q with queued := none })))
          else answerOn 0x0406 o s 10 [] (complete r.waiter 7
            (sectionMod (takeLog s) (u16 p 0) (fun q => { q with queued := some {
              toB := u8 p 2 == 1, d0 := 0, ms := u16 p 4, fade := u8 p 3 == 1, waiter := waiterOf o s } })))))
    ∧ (Accepted 0x0408 o p (delaySetCheck p) s → (lineGet s (u8 p 0)).sel = none → (lineGet s (u8 p 0)).queued = none →
      (lineGet s (u8 p 0)).d0 = u32 p 4 → exec (.delaySet o p) s = answerOn 0x0408 o s 0 [] (takeLog s))
    ∧ (Accepted 0x0408 o p (delaySetCheck p) s → (lineGet s (u8 p 0)).sel = none → (lineGet s (u8 p 0)).queued = none →
      (lineGet s (u8 p 0)).d0 ≠ u32 p 4 → tblWf DelayLine.absent s.par.lines = true →
      ∃ t, exec (.delaySet o p) s = .next t ∧ Replied 0x0408 o s 0 [] t
        ∧ (lineGet t (u8 p 0)).d0 = u32 p 4 ∧ (lineGet t (u8 p 0)).old = (lineGet s (u8 p 0)).d0
        ∧ (lineGet t (u8 p 0)).sel.isSome = true
        ∧ OnlyHost { s with par := { s.par with lines := t.par.lines } } t)
    ∧ (Accepted 0x0408 o p (delaySetCheck p) s → (lineGet s (u8 p 0)).sel ≠ none → (lineGet s (u8 p 0)).queued = none →
      (lineGet s (u8 p 0)).d0 ≠ u32 p 4 →
      exec (.delaySet o p) s = answerOn 0x0408 o s 10 []
        (lineMod (takeLog s) (u8 p 0) (fun q => { q with queued := some {
          toB := true, d0 := u32 p 4, ms := if u16 p 2 = 0xFFFF then (lineGet s (u8 p 0)).xfade else u16 p 2
          fade := (if u16 p 2 = 0xFFFF then (lineGet s (u8 p 0)).xfade else u16 p 2) != 0, waiter := waiterOf o s } })))
    ∧ (Accepted 0x0408 o p (delaySetCheck p) s → (lineGet s (u8 p 0)).sel ≠ none → (lineGet s (u8 p 0)).queued = none →
      (lineGet s (u8 p 0)).d0 = u32 p 4 →
      exec (.delaySet o p) s = answerOn 0x0408 o s 0 [] (lineMod (takeLog s) (u8 p 0) (fun q => { q with queued := none })))
    ∧ (∀ r, Accepted 0x0408 o p (delaySetCheck p) s → (lineGet s (u8 p 0)).queued = some r →
      (lineGet s (u8 p 0)).d0 = u32 p 4 →
      exec (.delaySet o p) s = answerOn 0x0408 o s 0 [] (complete r.waiter 7
        (lineMod (takeLog s) (u8 p 0) (fun q => { q with queued := none }))))
    ∧ (∀ r, Accepted 0x0408 o p (delaySetCheck p) s → (lineGet s (u8 p 0)).queued = some r →
      (lineGet s (u8 p 0)).d0 ≠ u32 p 4 →
      exec (.delaySet o p) s = answerOn 0x0408 o s 10 [] (complete r.waiter 7
        (lineMod (takeLog s) (u8 p 0) (fun q => { q with queued := some {
          toB := true, d0 := u32 p 4, ms := if u16 p 2 = 0xFFFF then (lineGet s (u8 p 0)).xfade else u16 p 2
          fade := (if u16 p 2 = 0xFFFF then (lineGet s (u8 p 0)).xfade else u16 p 2) != 0, waiter := waiterOf o s } }))))

/-- The settings of an accepted LIMITER_SET and PROTECT_SET are answered OK and wait for the next tick, at which they take
force (R15, R142). Nothing else changes. -/
def Obligations.DynamicsCommandsTakeEffect : Prop :=
  ∀ (o : Issue) (p : List Byte) (s : State),
    (Accepted 0x040A o p (limiterSetCheck o p) s →
      exec (.limiterSet o p) s = answerOn 0x040A o s 0 []
        (limiterMod (takeLog s) (u8 p 0) (fun q => { q with pending := some (u8 p 1, s16 p 2, u16 p 4, u16 p 6) })))
    ∧ (Accepted 0x040C o p (protectSetCheck p) s →
      exec (.protectSet o p) s = answerOn 0x040C o s 0 []
        (protectMod (takeLog s) (u8 p 0) (fun q => { q with pending := some (u8 p 1, u16 p 2, u16 p 4) })))

/-- Ramps, bank selections and changes of D0 end (R117, R127, R129), and the clip interval, with CLIP_ALERT where a berth has
clipped (R141). Speaker protection takes the coil estimate: from the demodulated pairs with PILOT_ON set, from the class-D
temperature with it clear (R134); an estimate within the window latches no fault (R137). In the degraded mode G_t falls to
FALLBACK_ATTEN, or stays lower, and it resumes from where it stands (R138). -/
def Obligations.ParameterStepsTakeEffect : Prop :=
  ∀ s : State,
    (∀ k : Fin 4096, (slotGet s k.val).n ≠ 0 → (slotGet s k.val).n < (slotGet s k.val).k →
      exec (.paramRampEnd k) s = .next (slotMod s k.val (fun q => { q with k := 0, n := 0 })))
    ∧ (∀ (k : Fin 512) f, (sectionGet s k.val).sel = some f → f.latched = true → f.n < f.k →
      (sectionGet s k.val).queued = none → tblWf Section.reset s.par.sections = true →
      exec (.bqCrossfadeEnd k) s = .next (sectionMod s k.val (fun q => { q with activeB := f.toB, sel := none })))
    ∧ (∀ (k : Fin 128) f, (lineGet s k.val).sel = some f → f.latched = true → f.n < f.k →
      (lineGet s k.val).queued = none → tblWf DelayLine.absent s.par.lines = true →
      exec (.delayChangeEnd k) s = .next (lineMod s k.val (fun q => { q with sel := none, old := q.d0 })))
    ∧ (fabricHz s / 10 < s.par.clipPos → s.par.clipped = [] →
      exec .clipIntervalEnd s = .next { s with par := { s.par with
        clipped := [], clipPos := s.par.clipPos - fabricHz s / 10 } })
    ∧ (fabricHz s / 10 < s.par.clipPos → s.par.clipped ≠ [] →
      exec .clipIntervalEnd s = .next (post 0x0401 0 0 (s.par.clipped.foldl min 1023 + 65536 * s.par.clipped.length) .none
        { s with par := { s.par with clipped := [], clipPos := s.par.clipPos - fabricHz s / 10 } }))
    ∧ (∀ (i : Fin 2), (protectGet s i.val).present = true → (protectGet s i.val).enabled = true →
      (protectGet s i.val).fault = 0 → spkSwitching s i.val = true → tblWf Protect.absent s.par.protects = true →
      ∃ t re, exec (.protectEstimate i) s = .next t ∧ (protectGet t i.val).re = re ∧ (protectGet t i.val).estimated = true
        ∧ re = (if bit (u8 (protectGet s i.val).entry 26) 1 then demodRatio (protectGet s i.val).demod (drawReading s).1
            else reOfTemp (protectGet s i.val).entry (classDTemp s))
        ∧ (bit (u8 (protectGet s i.val).entry 26) 1 = false → (protectGet t i.val).temp = classDTemp s)
        ∧ (u8 (protectGet s i.val).entry 22 * u16 (protectGet s i.val).entry 0 ≤ re * 100 →
            re * 100 ≤ u8 (protectGet s i.val).entry 23 * u16 (protectGet s i.val).entry 0 →
            (protectGet t i.val).outside = 0 ∧ (protectGet t i.val).fault = 0)
        ∧ OnlyHost { s with par := { s.par with protects := t.par.protects } } t)
    ∧ (∀ i : Fin 2, (protectGet s i.val).present = true → (protectGet s i.val).enabled = true →
      (protectGet s i.val).degraded = false → (protectGet s i.val).fault = 0 → spkSwitching s i.val = true →
      tblWf Protect.absent s.par.protects = true →
      ∃ t, exec (.protectDegraded i) s = .next t ∧ (protectGet t i.val).degraded = true
        ∧ (protectGet t i.val).gt = (if s16 (protectGet s i.val).entry 24 * 10000 < (protectGet s i.val).gtNow
            then s16 (protectGet s i.val).entry 24 else divNear (protectGet s i.val).gtNow 10000)
        ∧ OnlyHost { s with par := { s.par with protects := t.par.protects } } t)
    ∧ (∀ i : Fin 2, (protectGet s i.val).degraded = true → (protectGet s i.val).fault = 0 →
      tblWf Protect.absent s.par.protects = true →
      ∃ t, exec (.protectDegradedEnd i) s = .next t ∧ (protectGet t i.val).degraded = false
        ∧ (protectGet t i.val).gt = divNear (protectGet s i.val).gtNow 10000
        ∧ OnlyHost { s with par := { s.par with protects := t.par.protects } } t)
    ∧ (∀ i : Fin 2, (protectGet s i.val).degraded = true → (protectGet s i.val).fault ≠ 0 →
      tblWf Protect.absent s.par.protects = true →
      ∃ t, exec (.protectDegradedEnd i) s = .next t
        ∧ protectGet t i.val = { protectGet s i.val with degraded := false }
        ∧ OnlyHost { s with par := { s.par with protects := t.par.protects } } t)

/-! ## Clocks and convoys (chapter 7) -/

/-- What the read commands of group 0x05 answer (Table 7-12): CLOCK_STATUS reads its fields and each PLL's
present steering; DOMAIN_STATUS reads the committed alternative and rate;
ASRC_STATUS reads 0xFF for an engine without channels; CONVOY_STATUS reads its context's counters and, with its clear bit,
sets them to 0. Nothing else changes.

R145, R152, R163, R166: a domain's alternative and rate, a PLL's discipline and a convoy's mode are committed for the
next tick, with the log number of the command; an alternative or rate already committed or in force changes nothing. -/
def Obligations.ClockReadsAndCommitsTakeEffect : Prop :=
  (∀ (o : Issue) (p : List Byte) (s : State),
    (Accepted 0x0501 o p noCheck s →
      exec (.clockStatus o p) s = answerOn 0x0501 o s 0
        (b1 (flag s.clk.mclk) ++ b1 (flag s.clk.lost) ++ b1 s.clk.pll48.mode ++ b1 s.clk.pll44.mode
          ++ b1 (pllDomain s.clk.pll48) ++ b1 (pllDomain s.clk.pll44) ++ b1 (fabricPll s) ++ [0]
          ++ sb4 s.clk.pll48.steer ++ sb4 s.clk.pll44.steer) (takeLog s))
    ∧ (Accepted 0x0502 o p (domainStatusCheck p) s →
      exec (.domainStatus o p) s = answerOn 0x0502 o s 0
        (b1 (domGet s (u8 p 0)).st ++ b1 (domainRate s (u8 p 0))
          ++ b1 ((domGet s (u8 p 0)).pendAlt.getD (domGet s (u8 p 0)).alt)
          ++ b1 (altKind (domEntry s.cs.near (u8 p 0)) ((domGet s (u8 p 0)).pendAlt.getD (domGet s (u8 p 0)).alt)).1
          ++ b1 (altKind (domEntry s.cs.near (u8 p 0)) ((domGet s (u8 p 0)).pendAlt.getD (domGet s (u8 p 0)).alt)).2
          ++ b1 (flag (domainSync s (u8 p 0))) ++ [0, 0]
          ++ sb4 (domGet s (u8 p 0)).offset ++ b4 (domGet s (u8 p 0)).locks ++ b4 (domGet s (u8 p 0)).unlocks
          ++ b2 (enginesOf s (u8 p 0)) ++ [0, 0]) (takeLog s))
    ∧ (Accepted 0x0506 o p (asrcStatusCheck p) s → engineChannels s (u8 p 0) = [] →
      exec (.asrcStatus o p) s = answerOn 0x0506 o s 0 [0xFF, 0xFF, 0, 0, 0, 0, 0, 0, 0, 0, 0, 0] (takeLog s))
    ∧ (∀ x r, Accepted 0x0506 o p (asrcStatusCheck p) s → engineChannels s (u8 p 0) = x :: r →
      exec (.asrcStatus o p) s = answerOn 0x0506 o s 0
        (b1 (convoyDomain s x.2) ++ b1 (flag (convoyEgress (nearConvoy s x.2)))
          ++ b2 (maskOf ((x :: r).map (·.1))) ++ b4 (ratioQ28 s (convoyDomain s x.2) (convoyEgress (nearConvoy s x.2)))
          ++ [0, 0, 0, 0]) (takeLog s))
    ∧ (Accepted 0x0507 o p (convoyStatusCheck p) s →
      exec (.convoyStatus o p) s = answerOn 0x0507 o s 0
        (b1 (u8 (anyEntry s (64 + u8 p 0)) 1) ++ b1 (convoyFlags s (u8 p 0))
          ++ b1 (convoyMembers (anyEntry s (64 + u8 p 0))) ++ [0]
          ++ (List.range 8).flatMap (fun m => b1 (if m < convoyMembers (anyEntry s (64 + u8 p 0)) then
            (memGet s (u8 p 0) m).st else 0xFF))
          ++ b4 (convGet s (u8 p 0)).index
          ++ (List.range 5).flatMap (fun i => b4 (tget 0 (convGet s (u8 p 0)).counts (8 * ctxNum o.ctx + i))))
        (if u8 p 1 = 1 then convMod (takeLog s) (u8 p 0) (fun c => { c with
            counts := (List.range 5).foldl (fun t i => tset 0 t (8 * ctxNum o.ctx + i) 0) c.counts })
          else takeLog s)))
  ∧ (∀ (o : Issue) (p : List Byte) (s : State),
    (Accepted 0x0503 o p (domainSetRefCheck o p) s →
      (domGet s (u8 p 0)).pendAlt.getD (domGet s (u8 p 0)).alt ≠ u8 p 1 →
      exec (.domainSetRef o p) s = answerOn 0x0503 o s 0 []
        (domMod (takeLog s) (u8 p 0) (fun q => { q with pendAlt := some (u8 p 1), pendLog := s.host.log })))
    ∧ (Accepted 0x0503 o p (domainSetRefCheck o p) s →
      (domGet s (u8 p 0)).pendAlt.getD (domGet s (u8 p 0)).alt = u8 p 1 →
      exec (.domainSetRef o p) s = answerOn 0x0503 o s 0 [] (takeLog s))
    ∧ (Accepted 0x0504 o p (domainSetRateCheck o p) s →
      (domGet s (u8 p 0)).pendRate.getD (domGet s (u8 p 0)).rate ≠ u8 p 1 →
      exec (.domainSetRate o p) s = answerOn 0x0504 o s 0 []
        (domMod (takeLog s) (u8 p 0) (fun q => { q with pendRate := some (u8 p 1), pendLog := s.host.log })))
    ∧ (Accepted 0x0504 o p (domainSetRateCheck o p) s →
      (domGet s (u8 p 0)).pendRate.getD (domGet s (u8 p 0)).rate = u8 p 1 →
      exec (.domainSetRate o p) s = answerOn 0x0504 o s 0 [] (takeLog s))
    ∧ (Accepted 0x0505 o p (pllDisciplineCheck p) s →
      exec (.pllDiscipline o p) s = answerOn 0x0505 o s 0 []
        (pllMod (takeLog s) (u8 p 0) (fun q => { q with pending := some (u8 p 1, u8 p 2, s.host.log) })))
    ∧ (Accepted 0x0508 o p (convoySetModeCheck o p) s →
      exec (.convoySetMode o p) s = answerOn 0x0508 o s 0 []
        (convMod (takeLog s) (u8 p 0) (fun c => { c with pendMode := some (u8 p 1 == 1) }))))

/-- R146, R151, Table 7-6: a loss of the reference unlocks both PLLs and every domain that is ACQUIRING or LOCKED; its
return gives the PLLs the modes they resume. An UNLOCKED domain whose reference is possible becomes ACQUIRING; a lock
makes it LOCKED and counts it, with the offset that the PLLs' steering gives a LOCAL reference, and the one given of an SAI or
S/PDIF reference; an unlock makes it UNLOCKED, from ACQUIRING with cause 0 only, and counts it, cause 2 being an offset beyond
±1,000 ppm. No other domain moves at a lock or an unlock. -/
def Obligations.ClockEventsMoveDomains : Prop :=
  ∀ s : State, ClocksWf s →
    (s.pwr.refChosen = true → s.clk.lost = false →
      ∃ t, exec .referenceLoss s = .next t ∧ t.clk.lost = true ∧ t.clk.pll48.mode = 3 ∧ t.clk.pll44.mode = 3
        ∧ (∀ d < 8, (domGet s d).st = 1 ∨ (domGet s d).st = 2 → (domGet t d).st = 3))
    ∧ (s.clk.lost = true →
      ∃ t, exec .referenceRestore s = .next t ∧ t.clk.lost = false ∧ t.clk.pll48.mode = s.clk.pll48.resume
        ∧ t.clk.pll44.mode = s.clk.pll44.resume ∧ t.clk.domains = s.clk.domains
        ∧ OnlyHost { s with clk := t.clk } t)
    ∧ (∀ d : Fin 8, (domGet s d.val).st = 3 → refPossible s d.val (domAlt s d.val) = true →
      exec (.domainRefValid d) s = .next (domMod s d.val (fun q => { q with st := 1, refValid := true })))
    ∧ (∀ (d : Fin 8) (off : Int), (domGet s d.val).st = 1 → lockPossible s d.val = true → -100000 ≤ off → off ≤ 100000 →
      ∃ t, exec (.domainLock d off) s = .next t ∧ (domGet t d.val).st = 2
        ∧ (3 ≤ (domAlt s d.val).1 → (domGet t d.val).offset = off)
        ∧ ((domAlt s d.val).1 = 0 → (domGet t d.val).offset = localOffset s d.val)
        ∧ (domGet t d.val).locks = (domGet s d.val).locks + 1
        ∧ (∀ e, e ≠ d.val → domGet t e = domGet s e))
    ∧ (∀ (d : Fin 8) (cause : Fin 3) (off : Int), (domGet s d.val).st = 2 ∨ ((domGet s d.val).st = 1 ∧ cause = 0) →
      (cause = 2 → 100000 < off.natAbs) →
      ∃ t, exec (.domainUnlock d cause off) s = .next t ∧ (domGet t d.val).st = 3
        ∧ (domGet t d.val).offset = (if cause = 2 then off else (domGet s d.val).offset)
        ∧ (domGet t d.val).unlocks = (domGet s d.val).unlocks + 1
        ∧ (∀ e, e ≠ d.val → domGet t e = domGet s e))

/-- R156, R159 to R165: an untimed sample that arrives goes behind those held, a timed one is held at its index, unless
the convoy is muted, its FIFO is full or the sample is late; one of a member that waits for its swap is held up to DEPTH. A
RUNNING untimed member with more than 33 samples gives the oldest and goes on RUNNING; a read by the last member that is not
IDLE moves the timeline index on. An egress member gives the oldest sample it holds. A fade in ends RUNNING, a fade out SILENT or IDLE;
BLOCKED members align again at a resync point; the end of a mute leaves the members SILENT and empty. -/
def Obligations.ConvoyStepsTakeEffect : Prop :=
  ∀ (c : Fin 128) (m : Fin 8) (s : State), ClocksWf s →
    (∀ i (x : List Word), memberOn s c.val m.val = true → (memGet s c.val m.val).st ≠ 0 →
      x.length = (memberOf (nearConvoy s c.val) m.val).2.2 → memberTimed s c.val m.val = false →
      convoyEgress (nearConvoy s c.val) = false → (convGet s c.val).mute ≠ 2 →
      (memGet s c.val m.val).fifo.length < convoyDepth s c.val →
      exec (.memberSampleArrival c m i x) s = .next (memMod s c.val m.val (fun q =>
        { q with fifo := q.fifo ++ [((memGet s c.val m.val).fifo.length, x)] })))
    ∧ (∀ i (x : List Word), memberOn s c.val m.val = true → (memGet s c.val m.val).st ∈ [2, 3, 4, 5, 7] →
      x.length = (memberOf (nearConvoy s c.val) m.val).2.2 → memberTimed s c.val m.val = true →
      convoyEgress (nearConvoy s c.val) = false → (convGet s c.val).mute ≠ 2 → (convGet s c.val).index ≤ i →
      (memGet s c.val m.val).fifo.length < convoyDepth s c.val →
      exec (.memberSampleArrival c m i x) s = .next (memMod s c.val m.val (fun q => { q with fifo := q.fifo ++ [(i, x)] })))
    ∧ (∀ i (x : List Word) y, memberOn s c.val m.val = false →
      (waitingMembers s).find? (fun y => y.1 == c.val && y.2.1 == m.val && x.length == (memberOf y.2.2 m.val).2.2) = some y →
      exec (.memberSampleArrival c m i x) s = .next (convMod s c.val (fun q =>
        if u16 y.2.2 4 ≤ (earlyOf q (m.val, memberOf y.2.2 m.val)).length then q
        else { q with early := ((m.val, memberOf y.2.2 m.val), earlyOf q (m.val, memberOf y.2.2 m.val) ++ [x])
                        :: q.early.filter (fun z => z.1 != (m.val, memberOf y.2.2 m.val)) })))
    ∧ (∀ x r, mayRead s c.val m.val false = true → memberTimed s c.val m.val = false → (memGet s c.val m.val).st = 3 →
      (memGet s c.val m.val).fifo = x :: r → 32 < r.length →
      ∃ t, exec (.memberRead c m) s = .next t ∧ (memGet t c.val m.val).last = x.2 ∧ (memGet t c.val m.val).fifo = r
        ∧ (memGet t c.val m.val).st = 3
        ∧ (convGet t c.val).index = (convGet s c.val).index
          + (if ((convGet s c.val).read ||| 2 ^ m.val) &&& indexMembers s c.val = indexMembers s c.val then 1 else 0))
    ∧ (mayRead s c.val m.val false = true → (memGet s c.val m.val).toIdle = false →
      ∃ t, exec (.memberRead c m) s = .next t
        ∧ (convGet t c.val).index = (convGet s c.val).index
          + (if ((convGet s c.val).read ||| 2 ^ m.val) &&& indexMembers s c.val = indexMembers s c.val then 1 else 0))
    ∧ (∀ x r, mayRead s c.val m.val true = true → portTakes s c.val m.val = true → (memGet s c.val m.val).st = 3 →
      (memGet s c.val m.val).fifo = x :: r →
      ∃ t, exec (.egressMemberTake c m) s = .next t ∧ (memGet t c.val m.val).last = x.2
        ∧ (memGet t c.val m.val).fifo = r)
    ∧ (memberOn s c.val m.val = true → (memGet s c.val m.val).st = 2 → 32 ≤ (memGet s c.val m.val).fade →
      ∃ t, exec (.memberFadeEnd c m) s = .next t ∧ (memGet t c.val m.val).st = 3 ∧ (memGet t c.val m.val).level = unity)
    ∧ (memberOn s c.val m.val = true → (memGet s c.val m.val).st = 4 → 32 ≤ (memGet s c.val m.val).fade →
      ∃ t, exec (.memberFadeEnd c m) s = .next t
        ∧ (memGet t c.val m.val).st = (if (memGet s c.val m.val).toIdle then 0 else 5))
    ∧ (convoyOn s c.val = true → (convGet s c.val).index % 2 ^ u8 (nearConvoy s c.val) 3 = 0 →
      ∃ t, exec (.resyncPoint c) s = .next t
        ∧ (∀ n, (memGet s c.val n).st = 6 → (memGet t c.val n).st = 1)
        ∧ (∀ n, (memGet s c.val n).st ≠ 6 → memGet t c.val n = memGet s c.val n)
        ∧ OnlyHost { s with clk := t.clk } t)
    ∧ ((convGet s c.val).mute = 1 → 32 < (convGet s c.val).muteK →
      ∃ t, exec (.convoyMuteRampEnd c) s = .next t ∧ (convGet t c.val).mute = 2
        ∧ (∀ n, (memGet s c.val n).st ≠ 0 → (memGet s c.val n).toIdle = false →
          (memGet t c.val n).st = 5 ∧ (memGet t c.val n).fifo = [])
        ∧ OnlyHost { s with clk := t.clk } t)

/-! ## Capture (chapter 8) -/

/-- What the read commands of group 0x09 answer (Table 8-11): settings as committed, factory corrections where a modulator
has none of its own; none changes anything but the log number and the reply. The DC estimate's last place, a voltage
never measured, the seconds since a start and the age of a calibration are open.

R172, R173, R177, R183, R186, R190, R192, Table 8-5: the commands that change capture. DCB_SET, DELAY_TRIM_SET and the
suspension of one input wait for beat 9 while that input is in beats 7 to 9 of a relay step; a change of delay disturbs
an earlier step, a suspension ends it. A mic bias output that starts mutes its inputs, a change of voltage does not. -/
def Obligations.CaptureReadsAndCommandsTakeEffect : Prop :=
  (∀ (o : Issue) (p : List Byte) (s : State),
    (Accepted 0x0901 o p (captureStatusCheck p) s →
      ∃ w : Int, (w = (capGet s (u8 p 0)).e / 65536
          ∨ ((capGet s (u8 p 0)).e % 65536 ≠ 0 ∧ w = (capGet s (u8 p 0)).e / 65536 + 1))
        ∧ exec (.captureStatus o p) s = answerOn 0x0901 o s 0
          (b1 (flag (capRuns (capEntry s (u8 p 0)) (u8 p 0)))
            ++ b1 (if u8 p 0 < 8 then u8 (capEntry s (u8 p 0)) 1 else 0xFF)
            ++ b1 ((capGet s (u8 p 0)).pgaPending.getD (capGet s (u8 p 0)).pgaTarget) ++ b1 (capGet s (u8 p 0)).pga
            ++ b1 (capResponse (capEntry s (u8 p 0)) (u8 p 0))
            ++ b1 (((capGet s (u8 p 0)).dcbPending.map Prod.fst).getD (capGet s (u8 p 0)).dcb)
            ++ b1 (flag (((capGet s (u8 p 0)).dcbPending.map Prod.snd).getD (capGet s (u8 p 0)).hostFreeze)
              + 2 * flag (capGet s (u8 p 0)).relayFreeze
              + 4 * flag (decide (u8 p 0 < 8) && bit s.cap.relay.suspended (u8 p 0))
              + 8 * flag (decide (u8 p 0 < 8) && bit (u8 (capEntry s (u8 p 0)) 0) 1))
            ++ b1 (if u8 p 0 < 8 then servedBy s (u8 p 0) else 0xFF)
            ++ sb2 ((capGet s (u8 p 0)).trimPending.getD (capGet s (u8 p 0)).trim) ++ [0, 0]
            ++ b4 (capGet s (u8 p 0)).overload ++ sb4 w) (takeLog s))
    ∧ (∀ v, Accepted 0x0906 o p (micbiasStatusCheck p) s → latestValue s (29 + u8 p 0) = some v →
      exec (.micbiasStatus o p) s = answerOn 0x0906 o s 0
        (b1 (micGet s (u8 p 0)).st ++ b1 (micGet s (u8 p 0)).code ++ b2 (divNear v 1000).toNat
          ++ b4 (micGet s (u8 p 0)).faults) (takeLog s))
    ∧ (Accepted 0x0906 o p (micbiasStatusCheck p) s →
      ∃ mv, exec (.micbiasStatus o p) s = answerOn 0x0906 o s 0
        (b1 (micGet s (u8 p 0)).st ++ b1 (micGet s (u8 p 0)).code ++ b2 mv ++ b4 (micGet s (u8 p 0)).faults) (takeLog s))
    ∧ (Accepted 0x0907 o p noCheck s →
      ∃ seconds, exec (.relayStatus o p) s = answerOn 0x0907 o s 0
        (b1 (if s.cap.relay.stopped then 2 else flag s.cap.relay.rotating) ++ b1 (s.cap.relay.relief.getD 0xFF)
          ++ b1 (if s.cap.relay.beat = 0 then 0xFF else s.cap.relay.input) ++ b1 s.cap.relay.beat
          ++ (List.range 8).flatMap (fun k => b1 (if portEnabled s (17 + k) then servedBy s k else 0xFF))
          ++ b2 (maskBy 9 (fun m => (modGet s m).retired)) ++ b1 s.cap.relay.suspended ++ [0] ++ b4 s.cap.relay.rotations
          ++ b4 s.cap.relay.early ++ b4 seconds ++ sb2 s.cap.relay.startTemp ++ [0, 0]) (takeLog s))
    ∧ (Accepted 0x090C o p (relayCorrectionsCheck p) s →
      ∃ age, exec (.relayCorrections o p) s = answerOn 0x090C o s 0
          (sb4 (modGain (modGet s (u8 p 0)) (u8 p 0)) ++ sb4 (modOffset (modGet s (u8 p 0)) (u8 p 0))
            ++ sb2 (modDelay (modGet s (u8 p 0)) (u8 p 0))
            ++ b1 (if (modGet s (u8 p 0)).retired then 3 else if s.cap.relay.relief = some (u8 p 0) then 1
              else if (servedInput s (u8 p 0)).isSome then 0 else 2)
            ++ b1 ((servedInput s (u8 p 0)).getD 0xFF) ++ b4 age) (takeLog s)
        ∧ ((modGet s (u8 p 0)).calibrated = false → age = 0xFFFFFFFF)
        ∧ ((modGet s (u8 p 0)).calibrated = true →
          modGain (modGet s (u8 p 0)) (u8 p 0) = (modGet s (u8 p 0)).gain
          ∧ modOffset (modGet s (u8 p 0)) (u8 p 0) = (modGet s (u8 p 0)).offset)))
  ∧ (∀ (o : Issue) (p : List Byte) (s : State),
    (Accepted 0x0902 o p (pgaSetCheck o p) s →
      exec (.pgaSet o p) s = answerOn 0x0902 o s 0 []
        (capMod (takeLog s) (u8 p 0) (fun c => { c with pgaPending := some (u8 p 1) })))
    ∧ (Accepted 0x0903 o p (dcbSetCheck o p) s → 8 ≤ u8 p 0 ∨ relayLate s (u8 p 0) = false →
      exec (.dcbSet o p) s = answerOn 0x0903 o s 0 []
        (capMod (takeLog s) (u8 p 0) (fun c => { c with dcbPending := some (u8 p 1, u8 p 2 == 1) })))
    ∧ (Accepted 0x0903 o p (dcbSetCheck o p) s → u8 p 0 < 8 → relayLate s (u8 p 0) = true →
      exec (.dcbSet o p) s = answerOn 0x0903 o s 10 []
        (relayMod (takeLog s) (fun r =>
          { r with queued := r.queued ++ [.dcb (u8 p 0) (u8 p 1) (u8 p 2 == 1) (waiterOf o s)] })))
    ∧ (Accepted 0x0904 o p (delayTrimSetCheck o p) s → 8 ≤ u8 p 0 →
      exec (.delayTrimSet o p) s = answerOn 0x0904 o s 0 []
        (capMod (takeLog s) (u8 p 0) (fun c => { c with trimPending := some (s16 p 2) })))
    ∧ (Accepted 0x0904 o p (delayTrimSetCheck o p) s → u8 p 0 < 8 → relayLate s (u8 p 0) = false →
      exec (.delayTrimSet o p) s = answerOn 0x0904 o s 0 []
        (relayDisturb (u8 p 0) (capMod (takeLog s) (u8 p 0) (fun c => { c with trimPending := some (s16 p 2) }))))
    ∧ (Accepted 0x0904 o p (delayTrimSetCheck o p) s → u8 p 0 < 8 → relayLate s (u8 p 0) = true →
      exec (.delayTrimSet o p) s = answerOn 0x0904 o s 10 []
        (relayMod (takeLog s) (fun r => { r with queued := r.queued ++ [.trim (u8 p 0) (s16 p 2) (waiterOf o s)] })))
    ∧ (Accepted 0x0905 o p (micbiasSetCheck o p) s → u8 p 1 = 1 → micOn s (u8 p 0) = false →
      exec (.micbiasSet o p) s = answerOn 0x0905 o s 0 [] (micMute (u8 p 0)
        (auxMod (auxMod (micMod (takeLog s) (u8 p 0) (fun m => { m with st := 1, code := u8 p 2 })) (12 + u8 p 0)
          (fun a => { a with shadow := some (micAuxCode (u8 p 2)) })) (12 + u8 p 0)
          (fun a => { a with enabled := true, pendEnable := some true }))))
    ∧ (Accepted 0x0905 o p (micbiasSetCheck o p) s → u8 p 1 = 1 → micOn s (u8 p 0) = true →
      (micGet s (u8 p 0)).code ≠ u8 p 2 →
      exec (.micbiasSet o p) s = answerOn 0x0905 o s 0 []
        (auxMod (micMod (takeLog s) (u8 p 0) (fun m => { m with st := 1, code := u8 p 2 })) (12 + u8 p 0)
          (fun a => { a with shadow := some (micAuxCode (u8 p 2)) })))
    ∧ (Accepted 0x0905 o p (micbiasSetCheck o p) s → u8 p 1 = 1 → micOn s (u8 p 0) = true →
      (micGet s (u8 p 0)).code = u8 p 2 → exec (.micbiasSet o p) s = answerOn 0x0905 o s 0 [] (takeLog s))
    ∧ (Accepted 0x0905 o p (micbiasSetCheck o p) s → u8 p 1 = 0 → micOn s (u8 p 0) = true →
      exec (.micbiasSet o p) s = answerOn 0x0905 o s 0 []
        (auxMod (micMod (takeLog s) (u8 p 0) (fun m => { m with st := 0 })) (12 + u8 p 0)
          (fun a => { a with
            enabled := false, driving := false, pendEnable := none, shadow := none, present := 0, target := 0 })))
    ∧ (Accepted 0x0905 o p (micbiasSetCheck o p) s → u8 p 1 = 0 → micOn s (u8 p 0) = false →
      exec (.micbiasSet o p) s = answerOn 0x0905 o s 0 [] (takeLog s))
    ∧ (Accepted 0x0908 o p (relaySuspendCheck o p) s → u8 p 1 = 1 → (∀ k < 8, relayLate s k = false ∧ relayEarly s k = false) →
      exec (.relaySuspend o p) s = answerOn 0x0908 o s 0 []
        (relayMod (takeLog s) (fun r => { r with suspended := r.suspended ||| maskOf (bitsOf (u8 p 0) 8) })))
    ∧ (∀ k, Accepted 0x0908 o p (relaySuspendCheck o p) s → u8 p 1 = 1 → u8 p 0 = 2 ^ k → k < 8 → relayEarly s k = true →
      exec (.relaySuspend o p) s = answerOn 0x0908 o s 0 []
        (relayMod (abortStep 2 (takeLog s)) (fun r => { r with suspended := r.suspended ||| 2 ^ k })))
    ∧ (Accepted 0x0908 o p (relaySuspendCheck o p) s → u8 p 1 = 0 → (∀ k < 8, relayLate s k = false) →
      exec (.relaySuspend o p) s = answerOn 0x0908 o s 0 []
        (relayMod (takeLog s) (fun r =>
          { r with suspended := r.suspended - (r.suspended &&& maskOf (bitsOf (u8 p 0) 8)) })))
    ∧ (∀ k, Accepted 0x0908 o p (relaySuspendCheck o p) s → u8 p 0 = 2 ^ k → k < 8 → relayLate s k = true →
      exec (.relaySuspend o p) s = answerOn 0x0908 o s 10 []
        (relayMod (takeLog s) (fun r => { r with queued := r.queued ++ [.suspend k (u8 p 1 == 1) (waiterOf o s)] })))
    ∧ (∀ v, Accepted 0x0909 o p (relayStartCheck o) s → latestValue s 22 = some v → (∃ k < 8, relayEligible s k = true) →
      exec (.relayStart o p) s = answerOn 0x0909 o s 0 []
        (relayMod (takeLog s) (fun r => { r with
          rotating := true, trigger := 3, stepsDone := 0, beat := 0, todo := List.range 8, startTemp := divNear v 100
          started := true, calibratedRelief := false })))
    ∧ (Accepted 0x0909 o p (relayStartCheck o) s →
      ∃ t, exec (.relayStart o p) s = .next t ∧ Replied 0x0909 o s 0 [] t ∧ t.cap.relay.trigger = 3
        ∧ t.cap.relay.stepsDone = 0 ∧ t.cap.relay.started = true ∧ OnlyHost { s with cap := t.cap } t)
    ∧ (Accepted 0x090A o p (thresholdArmCheck p) s →
      exec (.thresholdArm o p) s = answerOn 0x090A o s 0 []
        (capMod (takeLog s) (u8 p 0) (fun c =>
          { c with armed := true, below := u8 p 1 == 1, level := s16 p 2, hold := u16 p 4, run := 0 })))
    ∧ (Accepted 0x090B o p (thresholdDisarmCheck p) s → u8 p 0 ≠ 0xFF →
      exec (.thresholdDisarm o p) s = answerOn 0x090B o s 0 []
        (capMod (takeLog s) (u8 p 0) (fun q => { q with armed := false, run := 0 })))
    ∧ (Accepted 0x090B o p (thresholdDisarmCheck p) s → u8 p 0 = 0xFF → tblWf Capture.reset s.cap.chans = true →
      ∃ t, exec (.thresholdDisarm o p) s = .next t ∧ Replied 0x090B o s 0 [] t
        ∧ (∀ ch < 16, capGet t ch = { capGet s ch with armed := false, run := 0 })
        ∧ OnlyHost { s with cap := { s.cap with chans := t.cap.chans } } t))

/-- R172 to R174, R185, R189, R190, R192, R193: the steps of capture that follow of themselves. A PGA steps by one code
towards its target; a mic bias ramp ends with the output at its target; a reason for silence ends, and a channel with no
other reason fades in from then; a crossfade of delay ends; a threshold block counts, starts over, or triggers and disarms;
an overload is counted, and posted when none has been before. -/
def Obligations.CaptureStepsTakeEffect : Prop :=
  ∀ s : State,
    (∀ k : Fin 8, portEnabled s (17 + k.val) = true → fabricStates s = true → (capGet s k.val).silent = 0 →
      (capGet s k.val).pga < (capGet s k.val).pgaTarget →
      exec (.pgaStep k) s = .next (relayDisturb k.val (capMod s k.val (fun c => { c with pga := (capGet s k.val).pga + 1 }))))
    ∧ (∀ k : Fin 8, portEnabled s (17 + k.val) = true → fabricStates s = true → (capGet s k.val).silent = 0 →
      (capGet s k.val).pgaTarget < (capGet s k.val).pga →
      exec (.pgaStep k) s = .next (relayDisturb k.val (capMod s k.val (fun c => { c with pga := (capGet s k.val).pga - 1 }))))
    ∧ (∀ b : Fin 2, (micGet s b.val).st = 1 → auxHeld s = false → (auxGet s (12 + b.val)).shadow = none →
      exec (.micbiasRampEnd b) s = .next
        (auxMod (micMod s b.val (fun m => { m with st := 2 })) (12 + b.val) (fun a => { a with present := a.target })))
    ∧ (∀ b : Fin 2, (micGet s b.val).settling = true →
      exec (.micbiasSettleEnd b) s = .next ((micInputs s b.val).foldl (fun t i =>
        capMod t i (fun c => if bit c.silent 2 then { c with silent := c.silent - (c.silent &&& 4), fadeK := 0 } else c))
        (micMod s b.val (fun m => { m with settling := false }))))
    ∧ (∀ b : Fin 2, micOn s b.val = true →
      exec (.micbiasOvercurrent b) s = .next (post 0x0906 b.val 0 1 (.res [0x060C + b.val])
        (micMod (auxMod (micMod s b.val (fun m => { m with st := 3 })) (12 + b.val)
          (fun a => { a with
            enabled := false, driving := false, pendEnable := none, shadow := none, present := 0, target := 0 })) b.val
          (fun m => { m with faults := m.faults + 1 }))))
    ∧ (∀ ch : Fin 16, bit (capGet s ch.val).silent 0 = true → 128 ≤ (capGet s ch.val).restartK →
      exec (.chainRestartEnd ch) s = .next (capMod s ch.val (fun c =>
        { c with silent := c.silent - (c.silent &&& 1), fadeK := 0 })))
    ∧ (∀ port : Fin 4, bit (capGet s (8 + 2 * port.val)).silent 1 = true ∨ bit (capGet s (9 + 2 * port.val)).silent 1 = true →
      exec (.pdmWakeEnd port) s = .next
        (capMod (capMod s (8 + 2 * port.val) (fun c =>
            if bit c.silent 1 then { c with silent := c.silent - (c.silent &&& 2), fadeK := 0 } else c))
          (9 + 2 * port.val) (fun c =>
            if bit c.silent 1 then { c with silent := c.silent - (c.silent &&& 2), fadeK := 0 } else c)))
    ∧ (∀ ch : Fin 16, 64 < (capGet s ch.val).trimK →
      exec (.trimCrossfadeEnd ch) s = .next (capMod s ch.val (fun c => { c with trimK := 0, trimOld := c.trim })))
    ∧ (∀ (ch : Fin 16) (peak : Int), thresholdStates s = true → (capGet s ch.val).armed = true →
      (capGet s ch.val).hold ≤ (capGet s ch.val).run + 1 →
      (if (capGet s ch.val).below then peak < (capGet s ch.val).level else (capGet s ch.val).level < peak) →
      exec (.thresholdBlock ch peak) s = .next
        (post 0x0907 ch.val 0 (unsigned 16 peak + 65536 * flag (capGet s ch.val).below) (.res [capResource ch.val])
          (capMod s ch.val (fun c => { c with armed := false, run := 0 }))))
    ∧ (∀ (ch : Fin 16) (peak : Int), thresholdStates s = true → (capGet s ch.val).armed = true →
      (capGet s ch.val).run + 1 < (capGet s ch.val).hold →
      (if (capGet s ch.val).below then peak < (capGet s ch.val).level else (capGet s ch.val).level < peak) →
      exec (.thresholdBlock ch peak) s = .next (capMod s ch.val (fun c => { c with run := (capGet s ch.val).run + 1 })))
    ∧ (∀ (ch : Fin 16) (peak : Int), thresholdStates s = true → (capGet s ch.val).armed = true → (capGet s ch.val).hold ≠ 0 →
      ¬ (if (capGet s ch.val).below then peak < (capGet s ch.val).level else (capGet s ch.val).level < peak) →
      exec (.thresholdBlock ch peak) s = .next (capMod s ch.val (fun c => { c with run := 0 })))
    ∧ (∀ ch : Fin 16, capRuns (capEntry s ch.val) ch.val = true → (capGet s ch.val).overloadPosted = false →
      tblWf Capture.reset s.cap.chans = true →
      exec (.modulatorOverload ch) s = .next
        (post 0x0905 ch.val 0 (min ((capGet s ch.val).overloadFold + 1) 0xFFFFFFFF) (.res [capResource ch.val])
          (capMod (capMod s ch.val (fun c => { c with
            overload := min (c.overload + 1) 0xFFFFFFFF, overloadFold := min (c.overloadFold + 1) 0xFFFFFFFF })) ch.val
            (fun c => { c with overloadFold := 0, overloadPosted := true }))))
    ∧ (∀ ch : Fin 16, capRuns (capEntry s ch.val) ch.val = true → tblWf Capture.reset s.cap.chans = true →
      ∃ t, exec (.modulatorOverload ch) s = .next t
        ∧ (capGet t ch.val).overload = min ((capGet s ch.val).overload + 1) 0xFFFFFFFF)

/-- R176 to R183, Table 8-4: a rotation starts and ends, a step starts with the next eligible input; VREFCAL's corrections
are taken within 0.5 % of full scale, ±0.5 dB and −110 dBFS, else the relief is retired; an estimate needs 250 ms of
usable signal and below −70 dBFS corrects the offset only; a verification freezes the blocker, or runs beats 4 to 6 once
more; beat 9 exchanges the modulators. -/
def Obligations.RelayStepsInBeats : Prop :=
  ∀ s : State,
    (∀ (tr : Fin 3) (t22 : Int), s.pwr.dev = .active → s.pwr.transition = none → s.cs.chart.isSome = true →
      s.cap.relay.rotating = false → s.cap.relay.stopped = false →
      tr ≠ 2 ∨ (s.cap.relay.started = true ∧ 50 < (t22 - s.cap.relay.startTemp).natAbs) →
      (∃ k < 8, relayEligible s k = true) →
      exec (.relayRotationTrigger tr t22) s = .next (relayMod s (fun r => { r with
        rotating := true, trigger := tr.val, stepsDone := 0, beat := 0, todo := List.range 8, startTemp := t22
        started := true, calibratedRelief := false })))
    ∧ (∀ k, s.cap.relay.rotating = true → s.cap.relay.beat = 0 → s.pwr.shelter = false → fabricStates s = true →
      s.cap.relay.todo.find? (relayEligible s) = some k →
      exec .relayStepStart s = .next (relayMod s (fun r => { r with
        input := k, beat := if r.calibratedRelief then 3 else 1, todo := r.todo.filter (fun i => decide (k < i))
        restarts := 0, failures := 0, toVerify := false, held := false })))
    ∧ (s.cap.relay.rotating = true → s.cap.relay.beat = 0 → s.pwr.shelter = false → fabricStates s = true →
      s.cap.relay.todo.find? (relayEligible s) = none →
      exec .relayStepStart s = .next
        (post 0x0903 0 0 (s.cap.relay.stepsDone + 256 * s.cap.relay.trigger) (.res [0x0900]) (relayMod s (fun r =>
          { r with rotating := false, todo := [], beat := 0, held := false, rotations := (r.rotations + 1) % 2 ^ 32 }))))
    ∧ (∀ (m : Nat) (g f n : Int), s.cap.relay.beat = 1 → s.cap.relay.relief = some m →
      f.natAbs ≤ 671088 → -5593912 ≤ g → g ≤ 5925372 → n ≤ -11000 →
      exec (.relayVrefcalEnd g f n) s = .next
        (relayMod (modMod s m (fun q => { q with
            calGain := g, calOffset := f, gain := g, offset := f, calibrated := true, delay := 0, delaySet := false }))
          (fun r => { r with beat := 3, calibratedRelief := true })))
    ∧ (∀ (m : Nat) (g f n : Int), s.cap.relay.beat = 1 → s.cap.relay.relief = some m →
      671088 < f.natAbs ∨ g < -5593912 ∨ 5925372 < g ∨ -11000 < n →
      ∃ t, exec (.relayVrefcalEnd g f n) s = .next t ∧ (modGet t m).retired = true ∧ t.cap.relay.relief = none
        ∧ t.cap.relay.stopped = true ∧ t.cap.relay.rotating = false ∧ t.cap.relay.beat = 0
        ∧ OnlyHost { s with cap := t.cap } t)
    ∧ (s.cap.relay.beat = 3 →
      exec .relaySettleEnd s = .next (relayMod s (fun r =>
        { r with beat := if r.toVerify then 6 else 4, toVerify := false })))
    ∧ (∀ (m u : Nat) (l g f d : Int), s.cap.relay.beat = 4 → s.cap.relay.relief = some m → 250 ≤ u → -7000 ≤ l →
      exec (.relayEstimateEnd u l g f d) s = .next
        (relayMod (modMod s m (fun q => { q with gain := g, offset := f, delay := d, delaySet := true }))
          (fun r => { r with beat := 6 })))
    ∧ (∀ (m u : Nat) (l g f d : Int), s.cap.relay.beat = 4 → s.cap.relay.relief = some m → 250 ≤ u → l < -7000 →
      (modGet s m).calibrated = true →
      exec (.relayEstimateEnd u l g f d) s = .next
        (relayMod (modMod s m (fun q => { q with gain := q.calGain, offset := f, delay := 0, delaySet := false }))
          (fun r => { r with beat := 6 })))
    ∧ (∀ (u : Nat) (l g f d : Int), s.cap.relay.beat = 4 → u < 250 → s.cap.relay.failures = 0 →
      exec (.relayEstimateEnd u l g f d) s = .next (relayMod s (fun r => { r with failures := 1, beat := 4 })))
    ∧ (∀ (u : Nat) (rms mean : Int), s.cap.relay.beat = 6 → 250 ≤ u → rms < -11000 → mean < -12000 →
      exec (.relayVerifyEnd u rms mean) s = .next
        (capMod (relayMod s (fun r => { r with verify := rms, beat := 7 })) s.cap.relay.input
          (fun c => { c with relayFreeze := true })))
    ∧ (∀ (u : Nat) (rms mean : Int), s.cap.relay.beat = 6 → u < 250 ∨ -11000 ≤ rms ∨ -12000 ≤ mean →
      s.cap.relay.failures = 0 →
      exec (.relayVerifyEnd u rms mean) s = .next
        (relayMod s (fun r => { r with verify := rms, failures := 1, beat := 4 })))
    ∧ (∀ mr, s.cap.relay.beat = 8 → 64 < s.cap.relay.crossK → s.cap.relay.relief = some mr → s.cap.relay.queued = [] →
      exec .relayCrossfadeEnd s = .next
        (post 0x0901 s.cap.relay.input 0
          (mr + 256 * servedBy s s.cap.relay.input + 65536 * unsigned 16 s.cap.relay.verify) (.res [0x0900])
          (capMod (relayMod s (fun r => { r with
            map := tset 0 r.map s.cap.relay.input mr, relief := some (servedBy s s.cap.relay.input), beat := 0, crossK := 0
            stepsDone := r.stepsDone + 1, calibratedRelief := false, queued := [] })) s.cap.relay.input
            (fun c => { c with relayFreeze := false }))))

/-! ## Outputs and jacks (chapter 9) -/

/-- What the commands of group 0x0A answer and do (Table 9-13, R205, R210, R211, R219, R221): an enable waits for the tick, a
repeat changes nothing; a classification is answered QUEUED, and waits for the output to mute: on its stop ramp, on the
mute ramp of a load or SHELTER that runs, or not at all; one that comes while another waits goes with it. -/
def Obligations.OutputCommandsTakeEffect : Prop :=
  ∀ (o : Issue) (p : List Byte) (s : State),
    (Accepted 0x0A01 o p (outNumberCheck p) s →
      exec (.outputStatus o p) s = answerOn 0x0A01 o s 0
        (b1 (outState s (u8 p 0))
          ++ b1 (flag (outGet s (u8 p 0)).enabled + 2 * flag (outPresent s (u8 p 0)) + 4 * flag (jackGateOpen s (u8 p 0))
            + 8 * flag (u8 p 0 == 3 && s.out.foldback != 0) + 16 * flag (outGet s (u8 p 0)).awaiting)
          ++ b1 (outGet s (u8 p 0)).lastFault ++ b1 (u8 (outEntry s (u8 p 0)) 1)
          ++ b2 (-centiDb (outGet s (u8 p 0)).gate.present.toNat).toNat
          ++ b2 (if u8 p 0 = 3 then s.out.foldback else 0) ++ b4 (outGet s (u8 p 0)).faults
          ++ sb2 (outGet s (u8 p 0)).residual ++ [0, 0]) (takeLog s))
    ∧ (Accepted 0x0A02 o p (outputEnableCheck o p) s → (outGet s (u8 p 0)).enabled = (u8 p 1 == 1) →
      exec (.outputEnable o p) s = answerOn 0x0A02 o s 0 [] (takeLog s))
    ∧ (Accepted 0x0A02 o p (outputEnableCheck o p) s → (outGet s (u8 p 0)).enabled ≠ (u8 p 1 == 1) →
      exec (.outputEnable o p) s = answerOn 0x0A02 o s 0 []
        (outMod (takeLog s) (u8 p 0) (fun q =>
          { q with enabled := u8 p 1 == 1, pending := some (u8 p 1 == 1), log := s.host.log, cause := 0 })))
    ∧ (Accepted 0x0A03 o p restoreOutputsCheck s →
      exec (.restoreOutputs o p) s = answerOn 0x0A03 o s 0 []
        (restoreOutput s.host.log (restoreOutput s.host.log (restoreOutput s.host.log
          (restoreOutput s.host.log (takeLog s) 0) 1) 2) 3))
    ∧ (Accepted 0x0A04 o p (setAutoRestoreCheck p) s →
      exec (.setAutoRestore o p) s = answerOn 0x0A04 o s 0 []
        { (takeLog s) with out := { s.out with autoRestore := u8 p 0 == 1 } })
    ∧ (Accepted 0x0A05 o p (jackNumberCheck p) s →
      exec (.jackStatus o p) s = answerOn 0x0A05 o s 0
        (b1 (jackGet s (u8 p 0)).st ++ b1 (jackGet s (u8 p 0)).class_ ++ b1 (jackGet s (u8 p 0)).pole
          ++ b1 (jackGet s (u8 p 0)).button ++ b2 (min (jackGet s (u8 p 0)).zt 0xFFFF) ++ b2 (jackGet s (u8 p 0)).va
          ++ b2 (jackGet s (u8 p 0)).vb ++ b1 (if jackLevel1 s (u8 p 0) then 100 else 40) ++ [0]
          ++ b4 (jackGet s (u8 p 0)).insertions) (takeLog s))
    ∧ (Accepted 0x0A06 o p (buttonWindowsSetCheck o p) s →
      exec (.buttonWindowsSet o p) s = answerOn 0x0A06 o s 0 []
        (jackMod (takeLog s) (u8 p 0) (fun q =>
          { q with debounceMs := u8 p 1, u0 := u16 p 2, u1 := u16 p 4, u2 := u16 p 6, u3 := u16 p 8 })))
    ∧ (Accepted 0x0A07 o p (spkFaultClearCheck o) s →
      exec (.spkFaultClear o p) s = answerOn 0x0A07 o s 0 []
        (spkRecover 80 { (takeLog s) with out := { s.out with latched := false } }))
    ∧ (Accepted 0x0A07 o p (spkFaultClearCheck o) s → s.eng.halted = true ∨ s.pwr.thermalShut = true →
      exec (.spkFaultClear o p) s = answerOn 0x0A07 o s 0 []
        (auxFollow { (takeLog s) with out := { s.out with latched := false } }))
    ∧ (Accepted 0x0A08 o p (jackReclassifyCheck o p) s → (jackGet s (u8 p 0)).reclassify ≠ [] →
      exec (.jackReclassify o p) s = answerOn 0x0A08 o s 10 []
        (jackMod (takeLog s) (u8 p 0) (fun q => { q with reclassify := q.reclassify ++ [waiterOf o s] })))
    ∧ (Accepted 0x0A08 o p (jackReclassifyCheck o p) s → (jackGet s (u8 p 0)).reclassify = [] →
      (outGet s (u8 p 0)).st ∈ [2, 3, 4] →
      (outGet s (u8 p 0)).after ∉ [4, 5] →
      exec (.jackReclassify o p) s = answerOn 0x0A08 o s 10 []
        (outMod (jackMod (takeLog s) (u8 p 0) (fun q => { q with reclassify := q.reclassify ++ [waiterOf o s] }))
          (u8 p 0) (fun q => { q with
            rampPending := some (false, startTenths s (u8 p 0)), after := if (outGet s (u8 p 0)).after = 1 then 1 else 3
            cause := 1
            log := s.host.log })))
    ∧ (Accepted 0x0A08 o p (jackReclassifyCheck o p) s → (jackGet s (u8 p 0)).reclassify = [] →
      (outGet s (u8 p 0)).st ∈ [2, 3, 4] →
      (outGet s (u8 p 0)).after ∈ [4, 5] →
      ((outGet s (u8 p 0)).rampPending.isSome = true ∨ (outGet s (u8 p 0)).gate.n ≠ 0
        ∨ (outGet s (u8 p 0)).gate.present ≠ 0) →
      exec (.jackReclassify o p) s = answerOn 0x0A08 o s 10 []
        (jackMod (takeLog s) (u8 p 0) (fun q => { q with reclassify := q.reclassify ++ [waiterOf o s] })))
    ∧ (Accepted 0x0A08 o p (jackReclassifyCheck o p) s → (jackGet s (u8 p 0)).reclassify = [] →
      (outGet s (u8 p 0)).st ∈ [2, 3, 4] →
      (outGet s (u8 p 0)).after ∈ [4, 5] → (outGet s (u8 p 0)).rampPending = none → (outGet s (u8 p 0)).gate.n = 0 →
      (outGet s (u8 p 0)).gate.present = 0 →
      ∃ t, exec (.jackReclassify o p) s = .next t ∧ Replied 0x0A08 o s 10 [] t
        ∧ (jackGet t (u8 p 0)).reclassify = [waiterOf o s] ∧ (jackGet t (u8 p 0)).st = 2
        ∧ (outGet t (u8 p 0)).driving = false)
    ∧ (Accepted 0x0A08 o p (jackReclassifyCheck o p) s → (jackGet s (u8 p 0)).reclassify = [] →
      (outGet s (u8 p 0)).st ∉ [1, 2, 3, 4] → tblWf Output.reset s.out.outs = true →
      ∃ t, exec (.jackReclassify o p) s = .next t ∧ Replied 0x0A08 o s 10 [] t
        ∧ (jackGet t (u8 p 0)).reclassify = [waiterOf o s] ∧ (jackGet t (u8 p 0)).st = 2
        ∧ (outGet t (u8 p 0)).driving = false ∧ (outGet t (u8 p 0)).st = (outGet s (u8 p 0)).st)
    ∧ (Accepted 0x0A08 o p (jackReclassifyCheck o p) s → (jackGet s (u8 p 0)).reclassify = [] →
      (outGet s (u8 p 0)).st = 1 →
      ∃ t, exec (.jackReclassify o p) s = .next t ∧ Replied 0x0A08 o s 10 [] t
        ∧ (jackGet t (u8 p 0)).reclassify = [waiterOf o s] ∧ (jackGet t (u8 p 0)).st = 2
        ∧ (outGet t (u8 p 0)).driving = false)

/-- R200, R201, R206, R212: the servo's end asks for the start ramp. A ramp up ends PLAYING, and for SPK once its channels
have risen too; a ramp to mute ends MUTED, CLAMPED after a disable, FAULT after over-temperature, and with the
classification that waited for it. A load waits no more for an output whose mute ramp has ended. No other output changes
at the end of a gate ramp.

R211 to R214, Table 9-9: an over-current puts an output in FAULT and counts it, and the third of SPK within 10 s
latches; PVDD below 4.5 V puts SPK in FAULT with that rail's lockout, and its recovery ends the lockout; SPK restarts
after its timer when nothing holds it. Foldback grows by 0.5 dB from 115 °C and shrinks by 0.1 dB below 110 °C; from
125 °C SPK ramps to mute over 1.0 ms, or is in FAULT at once when it does not switch. -/
def Obligations.OutputStepsAndFaultsTakeEffect : Prop :=
  (∀ (k : Fin 4) (s : State), tblWf Output.reset s.out.outs = true →
    (∀ r, k.val < 3 → (outGet s k.val).st = 1 →
      exec (.servoEnd k r) s = .next
        (outMod (outMod s k.val (fun q => { q with driving := true, residual := r })) k.val (fun q => { q with
          rampPending := some (true, startTenths s k.val), after := 0, cause := (outGet s k.val).cause
          log := (outGet s k.val).log })))
    ∧ (gateDone (outGet s k.val).gate = true → (outGet s k.val).after ≠ 4 → (outGet s k.val).gate.target ≠ 0 →
      (k.val = 3 → channelRises (channelsOver s) 3 = false) →
      ∃ t, exec (.outputGateRampEnd k) s = .next t
        ∧ outGet t k.val = { outGet s k.val with st := 3, gate := { (outGet s k.val).gate with k := 0, n := 0 } }
        ∧ (∀ e, e ≠ k.val → outGet t e = outGet s e))
    ∧ (gateDone (outGet s k.val).gate = true → (outGet s k.val).after ≠ 4 → (outGet s k.val).gate.target ≠ 0 →
      k.val = 3 → channelRises (channelsOver s) 3 = true →
      exec (.outputGateRampEnd k) s = .next
        (outMod (channelsOver s) 3 (fun q => { q with gate := { q.gate with k := 0, n := 0 } })))
    ∧ (gateDone (outGet s k.val).gate = false → k.val = 3 → gateDone s.out.gateL = true ∨ gateDone s.out.gateR = true →
      ∃ t, exec (.outputGateRampEnd k) s = .next t
        ∧ t.out.gateL = (if gateDone s.out.gateL then { s.out.gateL with k := 0, n := 0 } else s.out.gateL)
        ∧ t.out.gateR = (if gateDone s.out.gateR then { s.out.gateR with k := 0, n := 0 } else s.out.gateR)
        ∧ (∀ e, e ≠ 3 → outGet t e = outGet s e))
    ∧ (gateDone (outGet s k.val).gate = true → (outGet s k.val).after ∈ [0, 5] → (outGet s k.val).gate.target = 0 →
      ∃ t, exec (.outputGateRampEnd k) s = .next t ∧ (outGet t k.val).st = 5
        ∧ (∀ e, e ≠ k.val → outGet t e = outGet s e))
    ∧ (gateDone (outGet s k.val).gate = true → (outGet s k.val).after = 1 → (outGet s k.val).gate.target = 0 →
      ∃ t, exec (.outputGateRampEnd k) s = .next t ∧ (outGet t k.val).st = 0 ∧ (outGet t k.val).driving = false
        ∧ (∀ e, e ≠ k.val → outGet t e = outGet s e))
    ∧ (gateDone (outGet s k.val).gate = true → (outGet s k.val).after = 2 → (outGet s k.val).gate.target = 0 →
      ∃ t, exec (.outputGateRampEnd k) s = .next t ∧ (outGet t k.val).st = 6 ∧ (outGet t k.val).lastFault = 5
        ∧ (outGet t k.val).faults = (outGet s k.val).faults + 1 ∧ t.out.overTemp = true
        ∧ (∀ e, e ≠ k.val → outGet t e = outGet s e))
    ∧ (gateDone (outGet s k.val).gate = true → (outGet s k.val).after = 3 → (outGet s k.val).gate.target = 0 →
      k.val < 2 → (jackGet s k.val).st = 3 → (jackGet s k.val).reclassify ≠ [] →
      ∃ t, exec (.outputGateRampEnd k) s = .next t ∧ (outGet t k.val).st = 5 ∧ (outGet t k.val).driving = false
        ∧ (jackGet t k.val).st = 2 ∧ (∀ e, e ≠ k.val → outGet t e = outGet s e))
    ∧ (gateDone (outGet s k.val).gate = true → (outGet s k.val).after = 4 →
      2 ≤ k.val ∨ (jackGet s k.val).st ≠ 3 ∨ (jackGet s k.val).reclassify = [] →
      exec (.outputLoadRampEnd k) s = .next
        { (outMod s k.val (fun q => { q with gate := { q.gate with k := 0, n := 0 } })) with
          cs := { s.cs with load := s.cs.load.map (fun l => { l with outs := without k.val l.outs }) } })
    ∧ (gateDone (outGet s k.val).gate = true → (outGet s k.val).after = 4 →
      k.val < 2 → (jackGet s k.val).st = 3 → (jackGet s k.val).reclassify ≠ [] →
      ∃ t, exec (.outputLoadRampEnd k) s = .next t ∧ (outGet t k.val).st = 5 ∧ (outGet t k.val).driving = false
        ∧ (jackGet t k.val).st = 2 ∧ t.cs.load = s.cs.load.map (fun l => { l with outs := without k.val l.outs })))
  ∧ (∀ s : State, tblWf Output.reset s.out.outs = true →
    (∀ k : Fin 2, (outGet s k.val).driving = true →
      ∃ t, exec (.hpOvercurrent k) s = .next t ∧ (outGet t k.val).st = 6 ∧ (outGet t k.val).lastFault = 1
        ∧ (outGet t k.val).faults = (outGet s k.val).faults + 1 ∧ (outGet t k.val).driving = false
        ∧ (∀ e, e ≠ k.val → outGet t e = outGet s e))
    ∧ ((outGet s 3).driving = true → 2 ≤ (recentTimes s s.out.overcurrents).length →
      ∃ t, exec .spkOvercurrent s = .next t ∧ (outGet t 3).st = 6 ∧ (outGet t 3).lastFault = 3 ∧ t.out.latched = true
        ∧ (outGet t 3).faults = (outGet s 3).faults + 1 ∧ (outGet t 3).driving = false)
    ∧ ((outGet s 3).driving = true → (recentTimes s s.out.overcurrents).length < 2 →
      ∃ t, exec .spkOvercurrent s = .next t ∧ (outGet t 3).st = 6 ∧ (outGet t 3).lastFault = 2 ∧ t.out.restartWait = true
        ∧ t.out.latched = s.out.latched ∧ (outGet t 3).faults = (outGet s 3).faults + 1 ∧ (outGet t 3).driving = false)
    ∧ (s.out.restartWait = true →
      exec .spkRestartTimer s = .next (spkRecover 80 { s with out := { s.out with restartWait := false } }))
    ∧ (s.out.restartWait = true → s.eng.halted = false → s.pwr.thermalShut = false → (s.out.lockL && s.out.lockR) = false →
      s.out.latched = false → s.out.overTemp = false → (outGet s 3).st = 6 → (outGet s 3).enabled = true →
      s.pwr.shelter = false → fabricStates s = true →
      ∃ t, exec .spkRestartTimer s = .next t ∧ (outGet t 3).st = 1 ∧ (outGet t 3).driving = true
        ∧ (outGet t 3).rampPending = some (true, 80) ∧ (∀ e, e ≠ 3 → outGet t e = outGet s e))
    ∧ (∀ ch : Fin 2, s.pwr.dev ≠ .off → s.pwr.dev ≠ .por → railLocked s ch.val = false →
      ∃ t, exec (.pvddUvlo ch) s = .next t ∧ outState t 3 = 6 ∧ (outGet t 3).lastFault = 4
        ∧ railLocked t ch.val = true ∧ (outGet t 3).faults = (outGet s 3).faults + 1
        ∧ (∀ e, e ≠ 3 → outGet t e = outGet s e))
    ∧ (∀ ch : Fin 2, s.pwr.dev ≠ .off → s.pwr.dev ≠ .por → railLocked s ch.val = true → exec (.pvddUvlo ch) s = .next s)
    ∧ (∀ ch : Fin 2, railLocked s ch.val = true → (outGet s 3).st = 6 →
      exec (.pvddRecover ch) s = .next (spkRecover 100 (setLock ch.val false s)))
    ∧ (s.out.lockL = true → (outGet s 3).st ≠ 6 → (outGet s 3).driving = true →
      exec (.pvddRecover 0) s = .next { s with out := { s.out with lockL := false, riseL := true } })
    ∧ (s.out.lockR = true → (outGet s 3).st ≠ 6 → (outGet s 3).driving = true →
      exec (.pvddRecover 1) s = .next { s with out := { s.out with lockR := false, riseR := true } })
    ∧ (∀ ch : Fin 2, railLocked s ch.val = true → (outGet s 3).st ≠ 6 → (outGet s 3).driving = false →
      ∃ t, exec (.pvddRecover ch) s = .next t ∧ railLocked t ch.val = false ∧ (outGet t 3).st = (outGet s 3).st
        ∧ (∀ e, e ≠ 3 → outGet t e = outGet s e))
    ∧ (∀ t21 : Int, fabricStates s = true ∨ s.pwr.dev = .doze → 1150 ≤ t21 → t21 < 1250 → s.out.foldback = 0 →
      exec (.classdThermalCheck t21) s = .next (post 0x0A06 0 0 (1 + 65536 * unsigned 16 t21) (.res [0x011C])
        { s with out := { s.out with foldback := 50 } }))
    ∧ (∀ t21 : Int, fabricStates s = true ∨ s.pwr.dev = .doze → 1150 ≤ t21 → t21 < 1250 → s.out.foldback ≠ 0 →
      exec (.classdThermalCheck t21) s = .next { s with out := { s.out with foldback := min 1200 (s.out.foldback + 50) } })
    ∧ (∀ t21 : Int, fabricStates s = true ∨ s.pwr.dev = .doze → 1100 ≤ t21 → t21 < 1150 →
      exec (.classdThermalCheck t21) s = .next s)
    ∧ (∀ t21 : Int, fabricStates s = true ∨ s.pwr.dev = .doze → t21 < 1100 → s.out.overTemp = false →
      10 < s.out.foldback ∨ s.out.foldback = 0 →
      exec (.classdThermalCheck t21) s = .next { s with out := { s.out with foldback := s.out.foldback - 10 } })
    ∧ (∀ t21 : Int, fabricStates s = true ∨ s.pwr.dev = .doze → t21 < 1100 → s.out.overTemp = false → 0 < s.out.foldback →
      s.out.foldback ≤ 10 →
      exec (.classdThermalCheck t21) s = .next (post 0x0A06 0 0 (65536 * unsigned 16 t21) (.res [0x011C])
        { s with out := { s.out with foldback := 0 } }))
    ∧ (∀ t21 : Int, fabricStates s = true ∨ s.pwr.dev = .doze → t21 < 1100 → s.out.overTemp = true →
      exec (.classdThermalCheck t21) s = .next
        (spkRecover 100 { s with out := { s.out with overTemp := false, foldback := 1200 } }))
    ∧ (∀ t21 : Int, fabricStates s = true ∨ s.pwr.dev = .doze → 1250 ≤ t21 → s.out.overTemp = false →
      (outGet s 3).driving = true → (outGet s 3).after ≠ 2 →
      exec (.classdThermalCheck t21) s = .next (outMod s 3 (fun q =>
        { q with rampPending := some (false, 10), after := 2, cause := 4, log := 0 })))
    ∧ (∀ t21 : Int, fabricStates s = true ∨ s.pwr.dev = .doze → 1250 ≤ t21 → s.out.overTemp = false →
      (outGet s 3).driving = false →
      ∃ t, exec (.classdThermalCheck t21) s = .next t ∧ (outGet t 3).st = 6 ∧ (outGet t 3).lastFault = 5
        ∧ t.out.overTemp = true ∧ (outGet t 3).faults = (outGet s 3).faults + 1))

/-- R215 to R220, Tables 9-11 and 9-12: a jack whose comparator runs is detected, debounced and classified beat by beat; a
plug that goes absent mutes its output in hardware and is removed after its debounce; a change of JDET wakes the part
from SLEEP. A scan of the buttons debounces a press and a release. -/
def Obligations.JackStepsTakeEffect : Prop :=
  ∀ (j : Fin 2) (s : State), tblWf Output.reset s.out.outs = true →
    (jackDetected j.val s = true → (jackGet s j.val).st = 0 →
      exec (.jdetPresent j) s = .next (wakeFor 2 (jackMod s j.val (fun q => { q with present := true, st := 1 }))))
    ∧ (jackDetected j.val s = true → (jackGet s j.val).st = 4 →
      exec (.jdetPresent j) s = .next (wakeFor 2 (jackMod s j.val (fun q =>
        { q with present := true, st := 1, returning := true }))))
    ∧ (jackDetected j.val s = true → (jackGet s j.val).st ∉ [0, 4] →
      exec (.jdetPresent j) s = .next (wakeFor 2 (jackMod s j.val (fun q => { q with present := true }))))
    ∧ (jackDetected j.val s = true → (jackGet s j.val).st ∈ [1, 2] →
      ∃ u, exec (.jdetAbsent j) s = .next (wakeFor 2 u) ∧ (jackGet u j.val).st = 0 ∧ (jackGet u j.val).class_ = 0
        ∧ (jackGet u j.val).held = 0 ∧ (jackGet u j.val).present = false ∧ (jackGet u j.val).reclassify = []
        ∧ ((jackGet s j.val).present = true → (outGet s j.val).st ∉ [0, 6] → (outGet u j.val).driving = false))
    ∧ (jackDetected j.val s = true → (jackGet s j.val).st = 3 →
      ∃ u, exec (.jdetAbsent j) s = .next (wakeFor 2 u) ∧ (jackGet u j.val).st = 4 ∧ (jackGet u j.val).present = false
        ∧ (jackGet u j.val).held = (jackGet s j.val).held ∧ (jackGet u (1 - j.val)).st = (jackGet s (1 - j.val)).st
        ∧ ((outGet s j.val).st ∉ [0, 6] → (outGet u j.val).driving = false))
    ∧ (jackDetected j.val s = true → (jackGet s j.val).st ∉ [1, 2, 3] →
      ∃ u, exec (.jdetAbsent j) s = .next (wakeFor 2 u)
        ∧ jackGet u j.val = { jackGet s j.val with present := false, button := 0xFF, cand := 0xFF, candMs := 0 }
        ∧ u.out.outs = s.out.outs)
    ∧ (beatsRun s = true → (jackGet s j.val).st = 1 →
      ∃ t, exec (.jackDebounceEnd j) s = .next t ∧ (jackGet t j.val).st = 2
        ∧ ((jackGet t j.val).beat = 2 ∨ (jackGet t j.val).beat = 3) ∧ (jackGet t j.val).button = 0xFF
        ∧ t.out.outs = s.out.outs)
    ∧ (∀ zt, beatsRun s = true → (jackGet s j.val).beat = 3 →
      exec (.classifyTipEnd j zt) s = .next
        (auxStimulus false (jackMod s j.val (fun q => { q with beat := 5, zt := zt, pole := 1 }))))
    ∧ (∀ va, beatsRun s = true → (jackGet s j.val).beat = 5 →
      exec (.classifyCtiaEnd j va) s = .next
        (auxStimulus false (jackMod s j.val (fun q => { q with beat := 6, va := va, pole := 2 }))))
    ∧ (∀ vb, beatsRun s = true → (jackGet s j.val).beat = 6 →
      ∃ t, exec (.classifyDecide j vb) s = .next t ∧ (jackGet t j.val).st = 3 ∧ (jackGet t j.val).vb = vb
        ∧ ((jackGet t j.val).class_, (jackGet t j.val).pole) = decideClass (jackGet s j.val).zt (jackGet s j.val).va vb
        ∧ (jackGet t j.val).insertions = (jackGet s j.val).insertions
          + (if (jackGet s j.val).held = (decideClass (jackGet s j.val).zt (jackGet s j.val).va vb).1 then 0 else 1))
    ∧ (beatsRun s = true → (jackGet s j.val).st = 4 →
      exec (.jackRemovalConfirm j) s = .next (jackWakes j.val 3
        (post 0x0A02 j.val 0 (jackGet s j.val).held (.res [0x0400 + j.val])
          (jackMod s j.val (fun q => { q with st := 0, class_ := 0, held := 0, pole := 0 })))))
    ∧ (∀ line bias, (jackGet s j.val).st = 3 → (jackGet s j.val).class_ = 2 ∨ (jackGet s j.val).class_ = 3 →
      jackMode s j.val ≠ 0 → jackBiasOn s j.val = true →
      buttonWindow (buttonLimits s j.val) line bias = (jackGet s j.val).button →
      exec (.buttonScan j line bias) s = .next (jackMod s j.val (fun q => { q with
        cand := (jackGet s j.val).button, candMs := if q.cand = (jackGet s j.val).button then q.candMs + 1 else 0
        pressedMs := min (q.pressedMs + 1) 0xFFFF })))
    ∧ (∀ line bias, (jackGet s j.val).st = 3 → (jackGet s j.val).class_ = 2 ∨ (jackGet s j.val).class_ = 3 →
      jackMode s j.val ≠ 0 → jackBiasOn s j.val = true → (jackGet s j.val).button = 0xFF →
      buttonWindow (buttonLimits s j.val) line bias ≠ 0xFF →
      buttonWindow (buttonLimits s j.val) line bias = (jackGet s j.val).cand →
      buttonDebounce s j.val ≤ (jackGet s j.val).candMs + 1 →
      ∃ t, exec (.buttonScan j line bias) s = .next t ∧ (jackGet t j.val).button = (jackGet s j.val).cand
        ∧ (jackGet t j.val).pressedMs = 0 ∧ OnlyHost { s with out := t.out, usbA := t.usbA, usbB := t.usbB } t)
    ∧ (∀ line bias, (jackGet s j.val).st = 3 → (jackGet s j.val).class_ = 2 ∨ (jackGet s j.val).class_ = 3 →
      jackMode s j.val ≠ 0 → jackBiasOn s j.val = true → (jackGet s j.val).button ≠ 0xFF →
      buttonWindow (buttonLimits s j.val) line bias = 0xFF → (jackGet s j.val).cand = 0xFF →
      buttonDebounce s j.val ≤ (jackGet s j.val).outMs + 1 →
      ∃ t, exec (.buttonScan j line bias) s = .next t ∧ (jackGet t j.val).button = 0xFF)

/-! ## Serial audio and S/PDIF (chapter 10) -/

/-- What the commands of group 0x06 answer and do (Table 10-7, R230, R239 to R243, R247): the measured rates are open, a
clear bit sets the context's counters to 0, masks wait for the tick, written status and user bits for a block.

R229 to R244: masks reach the BCLK domain; a frame-start edge takes the masks that are due and fixes what the pins carry
in each slot, starts a port (in the FD role after a tick only) and counts a wrong number of BCLK cycles; BCLK is lost and
returns. The S/PDIF receiver locks, loses lock by its cause or the fourth biphase error of a block, changes its domain's
rate where AUTO_RATE asks, holds each subframe for a frame, stores a good block and leaves NON_PCM; the transmitter sends
the block written. -/
def Obligations.SerialCommandsAndStepsTakeEffect : Prop :=
  (∀ (o : Issue) (p : List Byte) (s : State),
    (Accepted 0x0601 o p (saiStatusCheck p) s →
      ∃ hz, exec (.saiStatus o p) s = answerOn 0x0601 o s 0
        (b1 (saiGet s (u8 p 0)).st ++ b1 (u8 (saiEntry s (u8 p 0)) 1) ++ b1 (u8 (saiEntry s (u8 p 0)) 2)
          ++ b1 (u8 (saiEntry s (u8 p 0)) 3)
          ++ b1 (if saiFd (saiEntry s (u8 p 0)) then 2 else flag (saiController (saiEntry s (u8 p 0))))
          ++ b1 (u8 (saiEntry s (u8 p 0)) 7) ++ b1 (flag ((saiGet s (u8 p 0)).commit
            || (saiGet s (u8 p 0)).moving.isSome || (saiGet s (u8 p 0)).dueNow.isSome || (saiGet s (u8 p 0)).dueLater.isSome))
          ++ [0] ++ b4 (saiGet s (u8 p 0)).txMask ++ b4 (saiGet s (u8 p 0)).rxMask ++ b4 hz
          ++ b4 (tget 0 (saiGet s (u8 p 0)).counts (2 * ctxNum o.ctx))
          ++ b4 (tget 0 (saiGet s (u8 p 0)).counts (2 * ctxNum o.ctx + 1)))
        (if u8 p 1 = 1 then saiMod (takeLog s) (u8 p 0) (fun q => { q with
          counts := tset 0 (tset 0 q.counts (2 * ctxNum o.ctx) 0) (2 * ctxNum o.ctx + 1) 0 }) else takeLog s))
    ∧ (Accepted 0x0602 o p (saiSlotMaskCheck o p) s →
      exec (.saiSlotMask o p) s = answerOn 0x0602 o s 0 []
        (saiMod (takeLog s) (u8 p 0) (fun q => { q with shadowTx := u32 p 4, shadowRx := u32 p 8, commit := true })))
    ∧ (Accepted 0x0603 o p (spdifRxStatusCheck p) s →
      ∃ hz, exec (.spdifRxStatus o p) s = answerOn 0x0603 o s 0
        (b1 s.ser.spdif.rxState ++ b1 s.ser.spdif.rxRate ++ b1 s.ser.spdif.validity
          ++ b1 (flag s.ser.spdif.nonPcm + 2 * flag (bit (u8 s.ser.spdif.storedCA 0) 1) + 4 * flag (bit (u8 (rxEntry s) 0) 1))
          ++ b4 hz ++ (List.range 5).flatMap (fun i => b4 (tget 0 s.ser.spdif.counts (8 * ctxNum o.ctx + i))))
        (if u8 p 0 = 1 then spdifMod (takeLog s) (fun q => { q with counts := clearFor 8 (ctxNum o.ctx) q.counts })
          else takeLog s))
    ∧ (Accepted 0x0604 o p (spdifReadCheck p) s →
      exec (.spdifCsRead o p) s = answerOn 0x0604 o s 0
        (if u8 p 0 = 0 then b4 s.ser.spdif.stored ++ s.ser.spdif.storedCA ++ s.ser.spdif.storedCB
          else b4 s.ser.spdif.sent ++ s.ser.spdif.sentCA ++ s.ser.spdif.sentCB) (takeLog s))
    ∧ (Accepted 0x0606 o p (spdifReadCheck p) s →
      exec (.spdifUserRead o p) s = answerOn 0x0606 o s 0
        (if u8 p 0 = 0 then b4 s.ser.spdif.stored ++ s.ser.spdif.storedUA ++ s.ser.spdif.storedUB
          else b4 s.ser.spdif.sent ++ s.ser.spdif.sentUA ++ s.ser.spdif.sentUB) (takeLog s))
    ∧ (Accepted 0x0605 o p (spdifTxCheck o) s →
      exec (.spdifCsWrite o p) s = answerOn 0x0605 o s 0 []
        (spdifMod (takeLog s) (fun q => { q with writtenCA := p.take 24, writtenCB := (p.drop 24).take 24 })))
    ∧ (Accepted 0x0607 o p (spdifTxCheck o) s →
      exec (.spdifUserWrite o p) s = answerOn 0x0607 o s 0 []
        (spdifMod (takeLog s) (fun q => { q with writtenUA := p.take 24, writtenUB := (p.drop 24).take 24 })))
    ∧ (Accepted 0x0608 o p (spdifValiditySetCheck o p) s →
      exec (.spdifValiditySet o p) s = answerOn 0x0608 o s 0 []
        (spdifMod (takeLog s) (fun q => { q with
          validity := if u8 p 0 = 0xFF then q.validity else u8 p 0
          validityTx := if u8 p 1 = 0xFF then q.validityTx else u8 p 1 }))))
  ∧ (∀ s : State,
    (∀ n : Fin 6, (saiGet s n.val).moving ≠ none →
      exec (.saiMaskTransfer n true) s = .next (saiMod s n.val (fun q =>
        { q with dueNow := q.moving, dueLater := none, moving := none })))
    ∧ (∀ n : Fin 6, (saiGet s n.val).moving ≠ none →
      exec (.saiMaskTransfer n false) s = .next (saiMod s n.val (fun q => { q with dueLater := q.moving, moving := none })))
    ∧ (∀ (n : Fin 6) b ws, serialAlive s = true → (saiGet s n.val).st = 1 → tblWf Sai.off s.ser.sais = true →
      saiFd (saiEntry s n.val) = false ∨ (saiGet s n.val).ticked = true →
      ∃ t sent, exec (.saiFrameStart n b ws) s = .next t ∧ sent.length = saiSlots (saiEntry s n.val)
        ∧ saiGet t n.val = { takeMasks { saiGet s n.val with st := 2, resync := false } with sent := sent })
    ∧ (∀ (n : Fin 6) b ws, (saiGet s n.val).st = 1 → saiFd (saiEntry s n.val) = true →
      (saiGet s n.val).ticked = false → exec (.saiFrameStart n b ws) s = .next s)
    ∧ (∀ (n : Fin 6) b ws, serialAlive s = true → (saiGet s n.val).st = 2 → tblWf Sai.off s.ser.sais = true →
      saiController (saiEntry s n.val) = true ∨ b = saiSlots (saiEntry s n.val) * u8 (saiEntry s n.val) 3 →
      ∃ t sent, exec (.saiFrameStart n b ws) s = .next t ∧ sent.length = saiSlots (saiEntry s n.val)
        ∧ saiGet t n.val = { takeMasks (saiGet s n.val) with sent := sent })
    ∧ (∀ (n : Fin 6) b ws, serialAlive s = true → (saiGet s n.val).st = 2 → saiController (saiEntry s n.val) = false →
      b ≠ saiSlots (saiEntry s n.val) * u8 (saiEntry s n.val) 3 → tblWf Sai.off s.ser.sais = true →
      ∃ t, exec (.saiFrameStart n b ws) s = .next t ∧ (saiGet t n.val).st = 2
        ∧ (saiGet t n.val).counts = countAll 2 0 (saiGet s n.val).counts)
    ∧ (∀ (n : Fin 6) b ws, serialAlive s = true → s.pwr.dev = .doze → (saiGet s n.val).st = 2 →
      saiController (saiEntry s n.val) = true ∨ b = saiSlots (saiEntry s n.val) * u8 (saiEntry s n.val) 3 →
      exec (.saiFrameStart n b ws) s = .next (saiMod (saiMod s n.val takeMasks) n.val (fun q =>
        { q with sent := saiSlotsOut (saiEntry s n.val) q.txMask [] })))
    ∧ (∀ (n : Fin 6) b ws, serialAlive s = true → (saiGet s n.val).st = 3 → tblWf Sai.off s.ser.sais = true →
      (saiGet s n.val).resync = false →
      ∃ t, exec (.saiFrameStart n b ws) s = .next t ∧ (saiGet t n.val).st = 3 ∧ (saiGet t n.val).resync = true)
    ∧ (∀ n : Fin 6, serialAlive s = true → (saiGet s n.val).st ∈ [1, 2] → saiController (saiEntry s n.val) = false →
      exec (.saiClockLoss n) s = .next (dropInvalid (post 0x0602 n.val 0 1 (.res [0x0103 + n.val])
        (saiMod s n.val (fun q => { q with st := 3, resync := false, counts := countAll 2 1 q.counts })))))
    ∧ (∀ (n : Fin 6) ws, serialAlive s = true → (saiGet s n.val).st = 3 → tblWf Sai.off s.ser.sais = true →
      ∃ t, exec (.saiClockReturn n ws) s = .next t ∧ (saiGet t n.val).st = 2 ∧ (saiGet t n.val).resync = false
        ∧ (saiGet t n.val).counts = (saiGet s n.val).counts
        ∧ (saiGet t n.val).sent.length = saiSlots (saiEntry s n.val))
    ∧ (∀ r : Fin 7, serialAlive s = true → portEnabled s 9 = true → s.ser.spdif.rxState ≠ 2 →
      ∃ t, exec (.spdifLockAcquire r) s = .next t ∧ t.ser.spdif.rxState = 2 ∧ t.ser.spdif.rxRate = 5 + r.val
        ∧ t.ser.spdif.lastRate = some (5 + r.val) ∧ t.ser.spdif.stored = 0)
    ∧ (∀ c : Fin 4, serialAlive s = true → portEnabled s 9 = true → s.ser.spdif.rxState = 2 →
      c ≠ 2 ∨ s.ser.spdif.biphase = 3 →
      ∃ t, exec (.spdifLockLoss c) s = .next t ∧ t.ser.spdif.rxState = (if c = 0 then 0 else 1)
        ∧ t.ser.spdif.rxRate = 0xFF ∧ t.ser.spdif.lossCause = c.val + 1 ∧ t.ser.spdif.copying = false)
    ∧ (serialAlive s = true → cpRuns s = true → portEnabled s 9 = true → s.ser.spdif.rxState = 2 →
      s.ser.spdif.autoDue = true → rateAsked s s.ser.spdif.rxRate = true →
      exec .spdifAutoRate s = .next (domMod (takeLog (spdifMod s (fun q => { q with autoDue := false })))
        (u8 (rxEntry s) 2) (fun q => { q with pendRate := some s.ser.spdif.rxRate, pendLog := s.host.log })))
    ∧ (∀ (ch : Fin 2) (a : BitVec 24) (v u c : Bool), serialAlive s = true → portEnabled s 9 = true →
      s.ser.spdif.rxState = 2 → s.ser.spdif.biphase < 4 →
      ∃ t, exec (.spdifSubframe ch a v u c true true) s = .next t ∧ (chanGet t ch.val).held = some (a, v, true)
        ∧ (ch = 0 → t.ser.spdif.cA = s.ser.spdif.cA ++ [c] ∧ t.ser.spdif.uA = s.ser.spdif.uA ++ [u]
            ∧ t.ser.spdif.cB = s.ser.spdif.cB ∧ t.ser.spdif.uB = s.ser.spdif.uB)
        ∧ (ch = 1 → t.ser.spdif.cB = s.ser.spdif.cB ++ [c] ∧ t.ser.spdif.uB = s.ser.spdif.uB ++ [u]
            ∧ t.ser.spdif.cA = s.ser.spdif.cA ∧ t.ser.spdif.uA = s.ser.spdif.uA))
    ∧ (∀ (ch : Fin 2) (a : BitVec 24) (v u c par : Bool), serialAlive s = true → portEnabled s 9 = true →
      s.ser.spdif.rxState = 2 → s.ser.spdif.biphase = 3 →
      ∃ t, exec (.spdifSubframe ch a v u c par false) s = .next t ∧ t.ser.spdif.rxState = 1 ∧ t.ser.spdif.lossCause = 3
        ∧ t.ser.spdif.rxRate = 0xFF ∧ t.ser.spdif.cA = [] ∧ t.ser.spdif.cB = [])
    ∧ (serialAlive s = true → portEnabled s 9 = true → s.ser.spdif.rxState = 2 → s.ser.spdif.blockBad = false →
      s.ser.spdif.cA.length = 192 → s.ser.spdif.cB.length = 192 →
      ∃ t, exec (.spdifBlockEnd true) s = .next t ∧ t.ser.spdif.storedCA = blockBytes s.ser.spdif.cA
        ∧ t.ser.spdif.storedCB = blockBytes s.ser.spdif.cB ∧ t.ser.spdif.storedUA = blockBytes s.ser.spdif.uA
        ∧ t.ser.spdif.storedUB = blockBytes s.ser.spdif.uB ∧ t.ser.spdif.stored = (s.ser.spdif.stored + 1) % 2 ^ 32
        ∧ t.ser.spdif.cA = [] ∧ t.ser.spdif.cB = [] ∧ t.ser.spdif.uA = [] ∧ t.ser.spdif.uB = []
        ∧ OnlyHost { s with ser := t.ser } t)
    ∧ (serialAlive s = true → portEnabled s 9 = true → s.ser.spdif.rxState = 2 →
      exec (.spdifBlockEnd false) s = .next (spdifMod s (fun q => { q with
        counts := countAll 8 4 q.counts, cA := [], cB := [], uA := [], uB := [], blockBad := false, biphase := 0
        copying := txDirect s, frame := if txDirect s then none else q.frame })))
    ∧ (s.ser.spdif.nonPcm = true → 8192 ≤ s.ser.spdif.framesSincePa → bit (u8 s.ser.spdif.storedCA 0) 1 = false →
      exec .spdifNonpcmExit s = .next (post 0x0605 0 0 (256 * s.ser.spdif.nonPcmCause) (.res [0x0109]) (spdifMod s (fun q =>
        { q with nonPcm := false, nonPcmCause := 0, chanA := rampFrom true q.chanA, chanB := rampFrom true q.chanB }))))
    ∧ (serialAlive s = true → portEnabled s 10 = true → s.ser.spdif.copying = false → bit (u8 (txEntry s) 0) 2 = false →
      exec .spdifTxBlockStart s = .next (spdifMod s (fun q => { q with
        sentCA := q.writtenCA, sentCB := q.writtenCB, sentUA := q.writtenUA, sentUB := q.writtenUB
        sent := (q.sent + 1) % 2 ^ 32, txStarted := true
        frame := if txDirect s then some ([0, 0], true) else q.frame })))
    ∧ (serialAlive s = true → portEnabled s 10 = true → s.ser.spdif.copying = false → bit (u8 (txEntry s) 0) 2 = true →
      ∃ hz, exec .spdifTxBlockStart s = .next (spdifMod s (fun q => { q with
        sentCA := autoCs hz (u8 (txEntry s) 3) q.writtenCA, sentCB := autoCs hz (u8 (txEntry s) 3) q.writtenCB
        sentUA := q.writtenUA, sentUB := q.writtenUB, sent := (q.sent + 1) % 2 ^ 32, txStarted := true
        frame := if txDirect s then some ([0, 0], true) else q.frame }))))

/-! ## USB (chapter 11) and DFU (R432) -/

/-- What the commands of group 0x07 answer and do (Table 11-8, R250, R253, R267). The samples of the last second, and the
convoy that USB_STREAM_STATUS names at setting 0, are open. -/
def Obligations.UsbCommandsTakeEffect : Prop :=
  ∀ (o : Issue) (p : List Byte) (s : State),
    (Accepted 0x0701 o p (usbStatusCheck p) s →
      exec (.usbStatus o p) s = answerOn 0x0701 o s 0
        (b1 (usbGet s (u8 p 0)).st ++ b1 (usbGet s (u8 p 0)).speed ++ b1 (usbGet s (u8 p 0)).link
          ++ b1 (usbGet s (u8 p 0)).cfg ++ (List.range 4).flatMap (fun i => b1 (usbAlt s (u8 p 0) i))
          ++ b1 (flag (usbGet s (u8 p 0)).wakeEnabled + 2 * flag (isOpen s (2 + u8 p 0)) + 4 * flag (usbGet s (u8 p 0)).byCommand)
          ++ b1 (domainRate s (usbDomain s (u8 p 0))) ++ [0, 0] ++ b4 (usbStream s (u8 p 0) 0).f
          ++ b4 (usbStream s (u8 p 0) 1).f ++ b4 (tget 0 (usbGet s (u8 p 0)).counts (4 * ctxNum o.ctx))
          ++ b4 (tget 0 (usbGet s (u8 p 0)).counts (4 * ctxNum o.ctx + 1))
          ++ b4 (tget 0 (usbGet s (u8 p 0)).counts (4 * ctxNum o.ctx + 2)))
        (if u8 p 1 = 1 then usbMod (takeLog s) (u8 p 0) (fun u => { u with counts := clearFor 4 (ctxNum o.ctx) u.counts })
          else takeLog s))
    ∧ (Accepted 0x0702 o p (usbConnectCheck o p) s →
      exec (.usbConnect o p) s = answerOn 0x0702 o s 0 []
        (usbFollow (u8 p 0) 4 s.host.log (usbMod (takeLog s) (u8 p 0) (fun u => { u with byCommand := u8 p 1 == 0 }))))
    ∧ (Accepted 0x0703 o p (usbHidSendCheck o p) s → u8 p 2 < 2 →
      exec (.usbHidSend o p) s = answerOn 0x0703 o s 0 [] (hidBit (u8 p 0) (u8 p 1) (u8 p 2 == 1) (takeLog s)))
    ∧ (Accepted 0x0703 o p (usbHidSendCheck o p) s → u8 p 2 = 2 →
      exec (.usbHidSend o p) s = answerOn 0x0703 o s 0 []
        (hidBit (u8 p 0) (u8 p 1) false (hidBit (u8 p 0) (u8 p 1) true (takeLog s))))
    ∧ (Accepted 0x0704 o p (usbRemoteWakeCheck o p) s →
      exec (.usbRemoteWake o p) s = answerOn 0x0704 o s 0 []
        (usbMod (takeLog s) (u8 p 0) (fun u => { u with wakeDue := true })))
    ∧ (∀ r, Accepted 0x0705 o p (usbStreamStatusCheck p) s →
      usbRecord s (u8 p 0) (u8 p 1) (usbAlt s (u8 p 0) (u8 p 1)) = some r →
      ∃ n, exec (.usbStreamStatus o p) s = answerOn 0x0705 o s 0
        (b1 (usbAlt s (u8 p 0) (u8 p 1)) ++ b1 (u8 r 3) ++ b1 (u8 r 4) ++ b1 (u8 r 5) ++ b1 (u8 r 6)
          ++ b1 (memGet s (u8 r 6) (u8 r 7)).st ++ [0, 0] ++ b4 n) (takeLog s))
    ∧ (Accepted 0x0705 o p (usbStreamStatusCheck p) s →
      usbRecord s (u8 p 0) (u8 p 1) (usbAlt s (u8 p 0) (u8 p 1)) = none →
      ∃ n, exec (.usbStreamStatus o p) s = answerOn 0x0705 o s 0
        (b1 (usbAlt s (u8 p 0) (u8 p 1)) ++ [0, 0, 0xFF] ++ b1 n ++ [0, 0, 0, 0, 0, 0, 0]) (takeLog s))

/-- R255, R258, R261, R263, R266, R269: control requests on a connected port that is not suspended; each ends the request
that the port still held. The protocol sequencer answers a standard request by itself; one that the CP executes is NAKed
and held while the CP does not run. A setting that the set has is taken, with its rate for the feedback; an absent setting,
a configuration value that the set does not have, a clock entity or a feature unit that it does not have are stalled. That a
setting stalls at a rate that the port does not carry, and how many replies a vendor transfer finds read, are the model's choice
(log entries 126 and 46).

R250 to R253, R259, R264, R265, R267 to R269: a port connects when VBUS rises and detaches when it is lost; a bus reset
leaves it at its speed, unconfigured; suspend keeps its state and resume returns to it; at SuperSpeed remote wake leaves U3
with a Function Wake. Link power is accepted with LPM, all settings 0 and the kind of the speed. Feedback, capture
intervals and reports follow, and a detach request times out. -/
def Obligations.UsbRequestsAndStepsTakeEffect : Prop :=
  (∀ (port : Fin 2) (s : State), usbAlive s = true → (usbGet s port.val).st ≠ 0 → (usbGet s port.val).st ≠ 3 →
    (∀ (rcp : Fin 3) (v i n : BitVec 16),
      exec (.usbStandardRequest port .setAddress rcp v i n) s = .next (usbAnswer port.val []
          (usbMod (usbSetup port.val s) port.val (fun u => { u with addr := v.toNat % 128 })))
      ∧ exec (.usbStandardRequest port .getConfiguration rcp v i n) s = .next
          (usbAnswer port.val ((b1 (usbGet s port.val).cfg).take n.toNat) (usbSetup port.val s))
      ∧ exec (.usbStandardRequest port .setIsochDelay rcp v i n) s = .next (usbAnswer port.val []
          (usbMod (usbSetup port.val s) port.val (fun u => { u with delay := v.toNat })))
      ∧ exec (.usbStandardRequest port .setSel rcp v i n) s = .next (usbAnswer port.val [] (usbSetup port.val s))
      ∧ exec (.usbStandardRequest port .getStatus 0 v i n) s = .next (usbAnswer port.val
          ((b2 (1 + 2 * flag ((usbGet s port.val).wakeEnabled && (usbGet s port.val).speed != 3))).take n.toNat)
          (usbSetup port.val s))
      ∧ exec (.usbStandardRequest port .getStatus 1 v i n) s = .next (usbAnswer port.val
          ((b2 (if (usbGet s port.val).speed = 3 then 1 + 2 * flag (usbGet s port.val).wakeEnabled else 0)).take n.toNat)
          (usbSetup port.val s))
      ∧ exec (.usbStandardRequest port .getStatus 2 v i n) s = .next (usbAnswer port.val
          ((b2 (flag (bit (usbGet s port.val).halted (endpointBit i.toNat)))).take n.toNat) (usbSetup port.val s))
      ∧ exec (.usbStandardRequest port .setFeature 0 1 i n) s = .next (usbAnswer port.val []
          (usbMod (usbSetup port.val s) port.val (fun u => { u with wakeEnabled := true })))
      ∧ exec (.usbStandardRequest port .clearFeature 0 1 i n) s = .next (usbAnswer port.val []
          (usbMod (usbSetup port.val s) port.val (fun u => { u with wakeEnabled := false })))
      ∧ exec (.usbStandardRequest port .setFeature 2 0 i n) s = .next (usbAnswer port.val []
          (usbMod (usbSetup port.val s) port.val (fun u => { u with halted := u.halted ||| 2 ^ endpointBit i.toNat })))
      ∧ ((rcp.val, v.toNat) ∉ [(0, 1), (0, 48), (0, 49), (1, 0), (2, 0)] →
          exec (.usbStandardRequest port .setFeature rcp v i n) s = .next (usbStall port.val (usbSetup port.val s))
          ∧ exec (.usbStandardRequest port .clearFeature rcp v i n) s = .next (usbStall port.val (usbSetup port.val s)))
      ∧ ((usbGet s port.val).cfg = 0 →
          exec (.usbStandardRequest port .getInterface rcp v i n) s = .next (usbStall port.val (usbSetup port.val s)))
      ∧ (∀ k, (usbGet s port.val).cfg ≠ 0 → (List.range 4).find? (fun j => usbIf s port.val j == i.toNat) = some k →
          exec (.usbStandardRequest port .getInterface rcp v i n) s = .next
            (usbAnswer port.val ((b1 (usbAlt s port.val k)).take n.toNat) (usbSetup port.val s)))
      ∧ (∀ d, usbBuiltin s port.val = false → ¬ (v.toNat / 256 = 0x22 ∧ u16 (usbSet s port.val) 26 = 0) →
          chartDescriptor s port.val (v.toNat / 256) (v.toNat % 256) = some d →
          exec (.usbStandardRequest port .getDescriptor rcp v i n) s = .next
            (usbAnswer port.val (d.take n.toNat) (usbSetup port.val s)))
      ∧ (∀ d, usbBuiltin s port.val = true → builtinDescriptor s port.val (v.toNat / 256) (v.toNat % 256) = some d →
          exec (.usbStandardRequest port .getDescriptor rcp v i n) s = .next
            (usbAnswer port.val (d.take n.toNat) (usbSetup port.val s))))
    ∧ (cpRuns s = false →
      (∀ c, exec (.setConfiguration port c) s = .next (usbHold port.val (.setConfiguration c) s))
      ∧ (∀ i a, exec (.setInterface port i a) s = .next (usbHold port.val (.setInterface i a) s))
      ∧ (∀ e hz, exec (.uacSamplingFreqSet port e hz) s = .next (usbHold port.val (.frequency e hz) s))
      ∧ (∀ u c m v, exec (.uacFeatureUnitSet port u c m v) s = .next (usbHold port.val (.feature u c m v) s))
      ∧ exec (.dfuDetach port) s = .next (usbHold port.val .dfuDetach s))
    ∧ (∀ c : Byte, cpRuns s = true → c = 0 ∨ c.toNat = usbConfigValue s port.val → (∀ i < 4, usbAlt s port.val i = 0) →
      exec (.setConfiguration port c) s = .next (usbAnswer port.val [] (usbMod (usbSetup port.val s) port.val (fun u =>
        { u with cfg := c.toNat, halted := 0, st := if u.st = 4 then 4 else if c = 0 then 1 else 2 }))))
    ∧ (∀ c : Byte, cpRuns s = true → c = 0 ∨ c.toNat = usbConfigValue s port.val →
      ∃ t, exec (.setConfiguration port c) s = .next t ∧ (usbGet t port.val).cfg = c.toNat
        ∧ (usbGet t port.val).handshake = 0 ∧ (usbGet t port.val).halted = 0)
    ∧ (∀ c : Byte, cpRuns s = true → c ≠ 0 → c.toNat ≠ usbConfigValue s port.val →
      exec (.setConfiguration port c) s = .next (usbStall port.val (usbSetup port.val s)))
    ∧ (∀ (ifc alt : Byte), cpRuns s = true → (usbGet s port.val).cfg = 0 →
      exec (.setInterface port ifc alt) s = .next (usbStall port.val (usbSetup port.val s)))
    ∧ (∀ (ifc alt : Byte) i r, cpRuns s = true → (usbGet s port.val).cfg ≠ 0 → alt ≠ 0 →
      (List.range 4).find? (fun i => !usbBuiltin s port.val && usbIf s port.val i == ifc.toNat && ifc.toNat != 0xFF) = some i →
      usbRecord s port.val i alt.toNat = some r → u8 r 5 = 0xFF → usbAlt s port.val i = 0 → usbRateFits s port.val = true →
      ∃ t, exec (.setInterface port ifc alt) s = .next t ∧ usbAlt t port.val i = alt.toNat
        ∧ (usbStream t port.val i).f = nominalF (usbHz s port.val) ∧ (usbGet t port.val).handshake = 0
        ∧ t.host.log = nextLog s.host.log)
    ∧ (∀ (ifc alt : Byte) i, cpRuns s = true → (usbGet s port.val).cfg ≠ 0 → alt ≠ 0 →
      (List.range 4).find? (fun i => !usbBuiltin s port.val && usbIf s port.val i == ifc.toNat && ifc.toNat != 0xFF) = some i →
      usbRecord s port.val i alt.toNat = none →
      exec (.setInterface port ifc alt) s = .next (post 0x0702 port.val s.host.log
        (i + 256 * alt.toNat + 65536 * 5 + 16777216) (.res [0x0100 + port.val])
        (usbStall port.val (takeLog (usbSetup port.val s)))))
    ∧ (∀ (ifc alt : Byte) i r, cpRuns s = true → (usbGet s port.val).cfg ≠ 0 → alt ≠ 0 →
      (List.range 4).find? (fun i => !usbBuiltin s port.val && usbIf s port.val i == ifc.toNat && ifc.toNat != 0xFF) = some i →
      usbRecord s port.val i alt.toNat = some r → usbRateFits s port.val = false →
      exec (.setInterface port ifc alt) s = .next (post 0x0702 port.val s.host.log
        (i + 256 * alt.toNat + 65536 * 9 + 16777216) (.res [0x0100 + port.val])
        (usbStall port.val (takeLog (usbSetup port.val s)))))
    ∧ (∀ (e : Byte) hz c, cpRuns s = true → usbBuiltin s port.val = false → e.toNat = u8 (usbSet s port.val) 36 →
      usbRate s port.val hz = some c →
      exec (.uacSamplingFreqSet port e hz) s = .next (post 0x0703 port.val s.host.log c (.res [0x0100 + port.val])
        (usbAnswer port.val []
          (commitRate (usbDomain s port.val) c s.host.log (takeLog (usbSetup port.val s))))))
    ∧ (∀ (e : Byte) hz, cpRuns s = true → usbBuiltin s port.val = true ∨ e.toNat ≠ u8 (usbSet s port.val) 36 →
      exec (.uacSamplingFreqSet port e hz) s = .next (usbStall port.val (usbSetup port.val s)))
    ∧ (∀ (unit ch : Byte) (v : BitVec 16) r, cpRuns s = true → fuFind s port.val unit.toNat ch.toNat = some r →
      tblWf { volume := 0, mute := false } (usbGet s port.val).features = true →
      (∃ t, exec (.uacFeatureUnitSet port unit ch true v) s = .next t ∧ (usbGet t port.val).handshake = 0
        ∧ (fuGet t port.val r).mute = (v.toNat % 256 != 0))
      ∧ (∃ t, exec (.uacFeatureUnitSet port unit ch false v) s = .next t ∧ (usbGet t port.val).handshake = 0
        ∧ (fuGet t port.val r).volume
          = clampInt (s16 (usbEntry s port.val) 4) (s16 (usbEntry s port.val) 6) v.toInt))
    ∧ (∀ (unit ch : Byte) m v, cpRuns s = true → fuFind s port.val unit.toNat ch.toNat = none →
      exec (.uacFeatureUnitSet port unit ch m v) s = .next (usbStall port.val (usbSetup port.val s)))
    ∧ (cpRuns s = true → (usbGet s port.val).st ≠ 4 → isOpen s (2 + port.val) = true →
      canChange s (ctxOf (2 + port.val)) 0x0B00 = true →
      exec (.dfuDetach port) s = .next (usbAnswer port.val []
        (usbMod (usbSetup port.val s) port.val (fun u => { u with detach := true }))))
    ∧ (cpRuns s = true → (usbGet s port.val).st = 4 ∨ isOpen s (2 + port.val) = false
        ∨ canChange s (ctxOf (2 + port.val)) 0x0B00 = false →
      exec (.dfuDetach port) s = .next (usbStall port.val (usbSetup port.val s)))
    ∧ (∀ read bytes w, (usbGet s port.val).st = 2 ∨ (usbGet s port.val).st = 4 → cpPresent s = true →
      w = flushReplies (ctxMod s (2 + port.val) (fun c => { c with replies := c.replies.drop read })) →
      (packetsTaken w (ctxOf (2 + port.val)) = true →
        exec (.usbVendorTransfer port read bytes) s = .next (receivePacket (2 + port.val) bytes bytes.length w))
      ∧ (4 ≤ (ctxGet w (2 + port.val)).replies.length → exec (.usbVendorTransfer port read bytes) s = .next w))
    ∧ (∀ read bytes, (usbGet s port.val).st = 2 ∨ (usbGet s port.val).st = 4 → cpPresent s = false →
      exec (.usbVendorTransfer port read bytes) s = .next
        (ctxMod s (2 + port.val) (fun c => { c with replies := c.replies.drop read }))))
  ∧ (∀ (port : Fin 2) (s : State),
    (s.pwr.dev ≠ .harbour → s.pwr.dev ≠ .sleep → (usbGet s port.val).st = 0 → usbAlive s = true → s.pwr.vusb = true →
      (usbGet s port.val).byCommand = false → (usbGet s port.val).reconnect = false →
      portEnabled s port.val = true ∨ s.cs.chart = none →
      ∃ t, exec (.vbusChange port true) s = .next t ∧ (usbGet t port.val).st = 1 ∧ (usbGet t port.val).vbus = true
        ∧ OnlyHost { s with usbA := t.usbA, usbB := t.usbB } t)
    ∧ (∃ t, exec (.vbusChange port false) s = .next t ∧ (usbGet t port.val).st = 0 ∧ (usbGet t port.val).vbus = false)
    ∧ (∀ sp : Fin 3, usbAlive s = true → (usbGet s port.val).st ≠ 0 → sp ≠ 2 ∨ ssAllowed s port.val = true →
      ∃ t, exec (.usbBusReset port sp) s = .next t ∧ (usbGet t port.val).speed = sp.val + 1 ∧ (usbGet t port.val).cfg = 0
        ∧ (usbGet t port.val).addr = 0 ∧ (usbGet t port.val).wakeEnabled = false ∧ (usbGet t port.val).reports = []
        ∧ (usbGet t port.val).waiting = none)
    ∧ (usbAlive s = true → (usbGet s port.val).st ≠ 0 → (usbGet s port.val).st ≠ 3 →
      ∃ t, exec (.usbSuspend port) s = .next t ∧ (usbGet t port.val).st = 3 ∧ (usbGet t port.val).link = 4
        ∧ (usbGet t port.val).before = (usbGet s port.val).st)
    ∧ (usbAlive s = true → s.pwr.dev ≠ .sleep → (usbGet s port.val).st = 3 →
      ∃ t, exec (.usbResume port) s = .next t ∧ (usbGet t port.val).st = (usbGet s port.val).before
        ∧ (usbGet t port.val).link = 0 ∧ (usbGet t port.val).wakeDue = false)
    ∧ (s.pwr.dev = .sleep → (usbGet s port.val).st = 3 →
      ∃ t, exec (.usbResume port) s = .next t ∧ t = usbResume port.val (wake 3 s) ∧ (usbGet t port.val).link = 0)
    ∧ ((usbGet s port.val).st = 3 → (usbGet s port.val).wakeEnabled = true → (usbGet s port.val).wakeDue = true →
      (usbGet s port.val).speed ≠ 3 →
      exec (.usbRemoteWakeSignal port) s = .next (usbMod s port.val (fun u =>
        { u with wakeSignalled := true, wakeDue := false })))
    ∧ ((usbGet s port.val).st = 3 → (usbGet s port.val).wakeEnabled = true → (usbGet s port.val).wakeDue = true →
      (usbGet s port.val).speed = 3 →
      ∃ t, exec (.usbRemoteWakeSignal port) s = .next t ∧ (usbGet t port.val).functionWake = some 0
        ∧ (usbGet t port.val).st = (usbGet s port.val).before ∧ (usbGet t port.val).link = 0)
    ∧ (∀ k : Fin 3, usbAlive s = true → (usbGet s port.val).st ≠ 0 → (usbGet s port.val).st ≠ 3 →
      bit (u8 (usbEntry s port.val) 0) 2 = true → (∀ i < 4, usbAlt s port.val i = 0) →
      (usbGet s port.val).speed = (if k = 0 then 2 else 3) →
      exec (.usbLinkPowerRequest port k) s = .next (usbMod s port.val (fun u => { u with link := k.val + 1, handshake := 0 })))
    ∧ (∀ k : Fin 3, usbAlive s = true → (usbGet s port.val).st ≠ 0 → (usbGet s port.val).st ≠ 3 →
      bit (u8 (usbEntry s port.val) 0) 2 = false ∨ (∃ i < 4, usbAlt s port.val i ≠ 0)
        ∨ (usbGet s port.val).speed ≠ (if k = 0 then 2 else 3) →
      exec (.usbLinkPowerRequest port k) s = .next (usbMod s port.val (fun u =>
        { u with link := 0, handshake := if k = 0 then 2 else 1 })))
    ∧ ((usbGet s port.val).reconnect = true → s.cs.select = none →
      exec (.usbReconnect port) s = .next (usbFollow port.val 4 0 (usbMod s port.val (fun u => { u with reconnect := false }))))
    ∧ (∀ (i : Fin 2) (rm fill lost : Nat) r, (usbGet s port.val).st = 2 → usbAlt s port.val i.val ≠ 0 →
      usbRateFits s port.val = true →
      usbRecord s port.val i.val (usbAlt s port.val i.val) = some r →
      exec (.usbFeedbackUpdate port i rm fill lost) s = .next (usbStreamMod
        (usbMod s port.val (fun u => { u with counts := addAll 4 1 lost u.counts })) port.val i.val (fun x => { x with
        f := feedbackF (usbHz s port.val) (convoyNominal s (u8 r 6))
          (if x.ms < 1000 then usbHz s port.val * 1000 else rm) fill
        ms := min (x.ms + 1) 1000 })))
    ∧ (∀ i : Fin 2, (usbGet s port.val).st = 2 → usbAlt s port.val (2 + i.val) ≠ 0 → usbRateFits s port.val = true →
      exec (.usbCaptureInterval port i) s = .next (usbStreamMod s port.val (2 + i.val) (fun x => { x with
        sent := (x.acc + usbHz s port.val) / 8000, acc := (x.acc + usbHz s port.val) % 8000 })))
    ∧ (∀ x r, s.host.absent = false → (usbGet s port.val).st = 2 → (usbGet s port.val).reports = x :: r →
      exec (.hidReportSend port) s = .next (usbMod s port.val (fun u => { u with reports := r })))
    ∧ ((usbGet s port.val).detach = true →
      exec (.dfuDetachTimeout port) s = .next (usbMod s port.val (fun u => { u with detach := false }))))

/-- R432, Table 18-11: DFU downloads on a port in DFU mode: a block, taken or held while two others are being written; the
end of a download, an abort, DFU_CLRSTATUS, and the bus reset after manifestation. Status and state codes are those of DFU
1.1, which the model presumes. -/
def Obligations.DfuStepsTakeEffect : Prop :=
  ∀ (port : Fin 2) (s w : State), usbAlive s = true → (usbGet s port.val).st = 4 → cpRuns s = true →
    w = usbSetup port.val s →
    (∀ (k : BitVec 16) (d : List Byte), (usbGet s port.val).dfuState = 2 ∨ (usbGet s port.val).dfuState = 5 →
      d.length = 4096 → dfuOpens s port.val = false →
      (s.fw.session.st = 1 ∧ k = 0) ∨ (s.fw.session.st = 2 ∧ k.toNat < blockCount s.fw.session.header) →
      s.fw.session.jobs.length < 2 → blockRefusal w k.toNat d = none →
      nvmHeld (blockAccepted k.toNat d (.dfu port.val) (dropChunks k.toNat w)) = false →
      exec (.dfuDnload port k d) s = .next (usbAnswer port.val []
        (usbMod (blockAccepted k.toNat d (.dfu port.val) (dropChunks k.toNat w)) port.val
          (fun u => { u with dfuState := 4, dfuStatus := 0 }))))
    ∧ (∀ (k : BitVec 16) (d : List Byte), (usbGet s port.val).dfuState = 2 ∨ (usbGet s port.val).dfuState = 5 →
      d.length = 4096 → dfuOpens s port.val = true → fwBeginAllowed w = true →
      exec (.dfuDnload port k d) s = .next (dfuBlock port.val k.toNat d (fwBegin (dfuCtx port.val) 0 w)))
    ∧ (∀ (k : BitVec 16) (d : List Byte), (usbGet s port.val).dfuState = 2 ∨ (usbGet s port.val).dfuState = 5 →
      d.length = 4096 → dfuOpens s port.val = false → s.fw.session.st = 2 → k.toNat < blockCount s.fw.session.header →
      2 ≤ s.fw.session.jobs.length →
      exec (.dfuDnload port k d) s = .next (usbHold port.val (.dfuDnload k.toNat d) w))
    ∧ (∀ k : BitVec 16, (usbGet s port.val).dfuState = 2 ∨ (usbGet s port.val).dfuState = 5 →
      s.fw.session.owner = some (dfuCtx port.val) → s.fw.session.st = 3 →
      exec (.dfuDnload port k []) s = .next (usbAnswer port.val []
        (usbMod (startVerify (.dfu port.val) w) port.val (fun u => { u with dfuState := 7, dfuStatus := 0 }))))
    ∧ (s.fw.session.owner ≠ some (dfuCtx port.val) →
      exec (.dfuAbort port) s = .next (usbAnswer port.val []
        (usbMod w port.val (fun u => { u with dfuState := 2, dfuStatus := 0 }))))
    ∧ (s.fw.session.owner = some (dfuCtx port.val) → s.fw.session.st ≠ 4 →
      exec (.dfuAbort port) s = .next (usbAnswer port.val []
        (usbMod (fwAbort 0 w) port.val (fun u => { u with dfuState := 2, dfuStatus := 0 }))))
    ∧ (exec (.dfuClrstatus port) s = .next (usbAnswer port.val []
        (usbMod w port.val (fun u => { u with dfuState := 2, dfuStatus := 0 }))))
    ∧ ((usbGet s port.val).manifested = true → s.pwr.dev = .harbour →
      exec (.dfuManifestReset port) s = .next (pwrMod (usbMod s port.val (fun u => { u with manifested := false }))
        (fun q => { q with resetDue := true, resetOther := true })))
    ∧ ((usbGet s port.val).manifested = true → s.pwr.dev ≠ .harbour → (usbGet s port.val).dfuMode = true →
      s.fw.session.st = 5 → s.fw.activate = none →
      ∃ t, exec (.dfuManifestReset port) s = .next t ∧ t.fw.activate = some (none, s.host.log)
        ∧ (usbGet t port.val).st = 1 ∧ (usbGet t port.val).dfuMode = false ∧ t.host.log = nextLog s.host.log
        ∧ OnlyHost { s with usbA := t.usbA, usbB := t.usbB, fw := t.fw } t)

/-! ## Ethernet and AVB (chapters 12 and 13) -/

/-- What the commands of group 0x08 answer and do (Tables 12-12, 12-13, 13-10 to 13-12, R278, R312, R315, R316, R324). The
times that NET_STATUS, GPTP_STATUS and DISC_READ give are open within their bounds; MDIO is answered when it is done;
connecting and disconnecting are answered QUEUED, and a talker that does not fit completes with NO_CAPACITY. -/
def Obligations.NetworkCommandsTakeEffect : Prop :=
  ∀ (o : Issue) (p : List Byte) (s : State),
    (Accepted 0x0801 o p noCheck s →
      ∃ ns, exec (.netStatus o p) s = answerOn 0x0801 o s 0
        (b1 s.net.mac.link ++ b1 (u8 (ethEntry s) 1) ++ b1 s.net.mac.downCause
          ++ b1 (flag (pauseHonor s) + 2 * flag s.net.mac.pause + 4 * flag (bit (u8 (ethEntry s) 0) 2)
            + 8 * flag s.net.mac.mdio.isSome)
          ++ b2 (if ethEntry s = [] then 0 else ethMaxLen s) ++ stationAddress s ++ b4 ns ++ b4 s.net.mac.ups
          ++ b4 s.net.mac.downs ++ b1 (u8 (ethEntry s) 3) ++ b1 s.net.mac.partner ++ [0, 0, 0, 0, 0, 0]) (takeLog s)
        ∧ (s.net.mac.pause = false → ns = 0))
    ∧ (Accepted 0x0802 o p (netCountersCheck p) s →
      exec (.netCounters o p) s = answerOn 0x0802 o s 0
        (b1 (u8 p 0) ++ b1 (groupSize (u8 p 0)) ++ [0, 0] ++ b4 (s.eng.period % 2 ^ 32)
          ++ (List.range 16).flatMap (fun i => b4 (if i < groupSize (u8 p 0) then macCounter s (u8 p 0) i else 0))
          ++ (List.range 16).flatMap (fun i =>
            b1 (if i < groupSize (u8 p 0) then tget 0 s.net.mac.halves (16 * u8 p 0 + i) else 0))) (takeLog s))
    ∧ (Accepted 0x0803 o p (netMdioCheck o p) s →
      exec (.netMdio o p) s = .next (macMod (takeLog s) (fun m => { m with mdio := some (waiterOf o s, o, p) })))
    ∧ (∀ (w : Waiter) (driven : Bool) (d : BitVec 16), s.net.mac.mdio = some (w, o, p) → u8 p 0 = 0 →
      exec (.mdioComplete driven d) s = .next (flushReplies (placeReply (ctxNum o.ctx)
        (replyTo 0x0803 o 0 w.log (b2 (if driven then d.toNat else 0xFFFF) ++ b1 (flag (!driven)) ++ [0]))
        (macMod s (fun m => { m with mdio := none })))))
    ∧ (∀ (w : Waiter) (driven : Bool) (d : BitVec 16), s.net.mac.mdio = some (w, o, p) → u8 p 0 = 1 →
      exec (.mdioComplete driven d) s = .next (flushReplies (placeReply (ctxNum o.ctx)
        (replyTo 0x0803 o 0 w.log (b2 (u16 p 4) ++ [0, 0])) (macMod s (fun m => { m with mdio := none })))))
    ∧ (Accepted 0x0804 o p noCheck s →
      ∃ now, s.net.gptp.time ≤ now ∧ exec (.gptpStatus o p) s = answerOn 0x0804 o s 0
        (b1 s.net.gptp.st ++ b1 (flag s.net.gptp.asCapable + 2 * flag (s.net.gptp.priority1 != 255))
          ++ b1 s.net.gptp.priority1 ++ b1 s.net.gptp.priority2 ++ b8 s.net.gptp.gm.toNat ++ b8 (clockIdentity s).toNat
          ++ sb4 s.net.gptp.offset ++ b4 s.net.gptp.delay ++ b2 s.net.gptp.steps ++ [0, 0] ++ b8 now
          ++ b4 s.net.gptp.timeouts ++ b4 s.net.gptp.stepCount) (takeLog s))
    ∧ (Accepted 0x0805 o p (gptpSetCheck p) s → s.net.gptp.announces = false → u8 p 0 ≠ 255 →
      exec (.gptpSet o p) s = answerOn 0x0805 o s 0 []
        (gptpMod (takeLog s) (fun g => { g with priority1 := u8 p 0, priority2 := u8 p 1, asymmetry := s32 p 4 })))
    ∧ (Accepted 0x0805 o p (gptpSetCheck p) s →
      ∃ t, exec (.gptpSet o p) s = .next t ∧ Replied 0x0805 o s 0 [] t ∧ t.net.gptp.priority1 = u8 p 0
        ∧ t.net.gptp.priority2 = u8 p 1 ∧ t.net.gptp.asymmetry = s32 p 4)
    ∧ (Accepted 0x0806 o p (streamStatusCheck p) s →
      exec (.streamStatus o p) s = answerOn 0x0806 o s 0
        (b1 (streamGet s (u8 p 0)).st ++ b1 (flag (recClassB (streamRec s (u8 p 0)))) ++ b1 (u8 (streamRec s (u8 p 0)) 4)
          ++ b1 (u8 (streamRec s (u8 p 0)) 5) ++ b8 (streamIdOf s (u8 p 0)).toNat
          ++ beBytes 6 (streamGet s (u8 p 0)).dest.toNat ++ [0, 0] ++ b4 (streamGet s (u8 p 0)).acmp
          ++ (List.range 5).flatMap (fun i => b4 (tget 0 (streamGet s (u8 p 0)).counts (8 * ctxNum o.ctx + i)))
          ++ b4 (if u8 p 0 < 32 then talkerSlope s (u8 p 0) else 0))
        (if u8 p 1 = 1 then streamMod (takeLog s) (u8 p 0) (fun q => { q with counts := clearCounts o q.counts })
          else takeLog s))
    ∧ (Accepted 0x0807 o p (streamConnectCheck o p) s →
      ∃ t, exec (.streamConnect o p) s = .next t ∧ Replied 0x0807 o s 10 [] t)
    ∧ (Accepted 0x0807 o p (streamConnectCheck o p) s → (streamGet s (u8 p 0)).st = 0 → 32 ≤ u8 p 0 →
      u8 (streamRec s (u8 p 0)) 1 = 0xFF → linkUp s = false → tblWf Stream.off s.net.streams = true →
      ∃ t, exec (.streamConnect o p) s = .next t ∧ (streamGet t (u8 p 0)).st = 4
        ∧ (streamGet t (u8 p 0)).connected = true ∧ (streamGet t (u8 p 0)).byCommand = true)
    ∧ (∀ u, Accepted 0x0807 o p (streamConnectCheck o p) s → (streamGet s (u8 p 0)).st = 0 → u8 p 0 < 32 →
      u = nameStream (u8 p 0) (beN p 2 6) (BitVec.ofNat 64 (u64 p 8)) (u32 p 16) (takeLog s) →
      slopeFits u (talkerSlope u (u8 p 0)) = false →
      exec (.streamConnect o p) s = answerOn 0x0807 o s 10 [] (complete (waiterOf o s) stNoCapacity u))
    ∧ (Accepted 0x0808 o p (streamDisconnectCheck o p) s → (streamGet s (u8 p 0)).st = 0 →
      tblWf Stream.off s.net.streams = true →
      exec (.streamDisconnect o p) s = answerOn 0x0808 o s 10 [] (complete (waiterOf o s) 0
        (streamMod (takeLog s) (u8 p 0) (fun q => { q with byCommand := false }))))
    ∧ (Accepted 0x0808 o p (streamDisconnectCheck o p) s → u8 p 0 < 32 → (streamGet s (u8 p 0)).acmp ≠ 0 →
      exec (.streamDisconnect o p) s = answerOn 0x0808 o s 10 [] (complete (waiterOf o s) 0
        (streamMod (takeLog s) (u8 p 0) (fun q => { q with byCommand := false }))))
    ∧ (Accepted 0x0808 o p (streamDisconnectCheck o p) s → (streamGet s (u8 p 0)).st ≠ 0 → 32 ≤ u8 p 0 →
      u8 (streamRec s (u8 p 0)) 1 = 0xFF → tblWf Stream.off s.net.streams = true →
      ∃ t, exec (.streamDisconnect o p) s = .next t ∧ Replied 0x0808 o s 10 [] t
        ∧ (streamGet t (u8 p 0)).st = 0 ∧ (streamGet t (u8 p 0)).connected = false)
    ∧ (Accepted 0x0809 o p (crfStatusCheck p) s →
      exec (.crfStatus o p) s = answerOn 0x0809 o s 0
        (b1 (crfGet s (u8 p 0)).st ++ [0, 0, 0, 0, 0, 0, 0] ++ b8 (crfIdOf s (u8 p 0)).toNat
          ++ beBytes 6 (crfGet s (u8 p 0)).dest.toNat ++ [0, 0] ++ b4 (tget 0 (crfGet s (u8 p 0)).counts (8 * ctxNum o.ctx))
          ++ b4 (tget 0 (crfGet s (u8 p 0)).counts (8 * ctxNum o.ctx + 1)))
        (if u8 p 1 = 1 then crfMod (takeLog s) (u8 p 0) (fun q => { q with counts := clearCounts o q.counts })
          else takeLog s))
    ∧ (Accepted 0x080A o p noCheck s →
      exec (.msrpStatus o p) s = answerOn 0x080A o s 0
        (b1 s.net.prioA ++ b1 s.net.prioB ++ b2 s.net.vidA ++ b2 s.net.vidB ++ b1 (flag s.net.boundA + 2 * flag s.net.boundB)
          ++ [0] ++ b4 (classSlope s false) ++ b4 (classSlope s true)) (takeLog s))
    ∧ (∀ l, l = ((s.net.disc.drop (u16 p 0)).take (u8 p 2)).map (·.e) → Accepted 0x080B o p (discReadCheck p) s →
      ∃ left : Nat → Nat, exec (.discRead o p) s = answerOn 0x080B o s 0 (b1 l.length ++ [0, 0, 0]
        ++ (List.range l.length).flatMap (fun i => ((l[i]?).map (fun e =>
          b8 e.entityId.toNat ++ b8 e.modelId.toNat ++ b4 e.capabilities.toNat ++ b2 e.talkerSources.toNat
            ++ b2 e.listenerSinks.toNat ++ b8 e.grandmaster.toNat ++ beBytes 6 e.source.toNat ++ b1 e.validTime.toNat ++ [0]
            ++ b4 e.availableIndex.toNat ++ b2 (left i % (2 * e.validTime.toNat + 1)) ++ [0, 0])).getD []))
        (takeLog s))
    ∧ (Accepted 0x080C o p (discStatusCheck p) s →
      exec (.discStatus o p) s = answerOn 0x080C o s 0
        (b2 s.net.disc.length ++ [0, 0] ++ b4 s.net.discFull ++ b4 s.net.available ++ b8 (entityId s).toNat)
        (if u8 p 0 = 1 then netMod (takeLog s) (fun v => { v with discFull := 0 }) else takeLog s))

/-- R276, R277, R280 to R291, R295, R297 to R302, R311, Table 13-2: the link synchronises, comes UP and goes DOWN with its
queues emptied; a received frame stops at its first outcome; the head of the first eligible queue is sent, A and B while
their credit is 0 or more; late stream frames are discarded; a pause and a fold end. gPTP: a delay, a Sync, an Announce and
their timeouts move it through LISTENING, SYNCING, SLAVE and MASTER. When the receive FIFO delivers, the bytes of gPTP and MSRP
frames and the sign of ASYMMETRY are the model's (log entry 127). -/
def Obligations.LinkAndClockStepsTakeEffect : Prop :=
  ∀ s : State,
    (netAlive s = true → s.net.mac.link = 0 → exec .linkSyncAcquired s = .next (macMod s (fun m => { m with link := 1 })))
    ∧ (∀ r : Fin 3, netAlive s = true → s.net.mac.link = 1 → ethMode s ≠ 0 ∨ r = 1 →
      ∃ t, exec (.linkUp r) s = .next t ∧ t.net.mac.link = 2 ∧ t.net.mac.ups = s.net.mac.ups + 1
        ∧ (s.net.gptp.st = 0 → t.net.gptp.st = 1))
    ∧ (∀ (c : Fin 4) (r : Fin 3), s.net.mac.link ≠ 0 →
      ∃ t, exec (.linkDown c r) s = .next t ∧ t.net.mac.link = 0 ∧ t.net.mac.downCause = 1 + c.val
        ∧ t.net.mac.downs = s.net.mac.downs + 1 ∧ t.net.mac.queueA = [] ∧ t.net.mac.queueB = [] ∧ t.net.mac.queueC = []
        ∧ t.net.mac.pause = false ∧ t.net.gptp.st = 0 ∧ t.net.gptp.asCapable = false)
    ∧ (∀ f fc prompt now, linkUp s = true → f ≠ [] →
      exec (.frameReceived f true fc prompt now) s = .next (macCount 2 3 s)
      ∧ (f.length ≤ 63 → exec (.frameReceived f false fc prompt now) s
          = .next (if fc then macCount 0 7 s else macCount 2 1 s))
      ∧ (64 ≤ f.length → ethMaxLen s < f.length → exec (.frameReceived f false fc prompt now) s
          = .next (if fc then macCount 0 8 s else macCount 2 2 s))
      ∧ (64 ≤ f.length → f.length ≤ ethMaxLen s → exec (.frameReceived f false false prompt now) s = .next (macCount 2 0 s))
      ∧ (64 ≤ f.length → f.length ≤ ethMaxLen s → 32768 < rxFill s + f.length →
          exec (.frameReceived f false true false now) s = .next (macCount 2 4 (countAccepted f s)))
      ∧ (64 ≤ f.length → f.length ≤ ethMaxLen s → rxFill s + f.length ≤ 32768 →
          exec (.frameReceived f false true false now) s = .next (macMod (countAccepted f s) (fun m =>
            { m with rxFifo := s.net.mac.rxFifo ++ [(f, now)] })))
      ∧ (∀ w, 64 ≤ f.length → f.length ≤ ethMaxLen s → w = drainRx (countAccepted f s) → addressAccepted w f = true →
          vidAccepted w f = true → exec (.frameReceived f false true true now) s = .next (deliverFrame f now w)))
    ∧ (s.net.mac.pause = true →
      ∃ t, exec .pauseEnd s = .next t ∧ t.net.mac.pause = false ∧ OnlyHost { s with net := t.net } t)
    ∧ (∀ (g a b : Nat) w, w = shapeQueues g a b (declareMsrp s) → linkUp s = true → s.net.mac.pause = false →
      (∀ x r, w.net.mac.queueA = x :: r → 0 ≤ w.net.mac.creditA →
        exec (.txFrameStart g a b) s = .next (sendFrame x (macMod w (fun m =>
          { m with queueA := r, sending := 1, sendTime := frameTime w x }))))
      ∧ (∀ x r, w.net.mac.queueA = [] ∨ w.net.mac.creditA < 0 → w.net.mac.queueB = x :: r → 0 ≤ w.net.mac.creditB →
        exec (.txFrameStart g a b) s = .next (sendFrame x (macMod w (fun m =>
          { m with queueB := r, sending := 2, sendTime := frameTime w x }))))
      ∧ (∀ x r, w.net.mac.queueA = [] ∨ w.net.mac.creditA < 0 → w.net.mac.queueB = [] ∨ w.net.mac.creditB < 0 →
        w.net.mac.queueC = x :: r →
        exec (.txFrameStart g a b) s = .next (sendFrame x (macMod w (fun m =>
          { m with queueC := r, sending := 3, sendTime := frameTime w x }))))
      ∧ (w.net.mac.queueA = [] ∨ w.net.mac.creditA < 0 → w.net.mac.queueB = [] ∨ w.net.mac.creditB < 0 →
        w.net.mac.queueC = [] →
        exec (.txFrameStart g a b) s = .next (macMod w (fun m => { m with sending := 0, sendTime := 0 }))))
    ∧ (∀ now, ∃ t, exec (.txLateDiscard now) s = .next t
      ∧ t.net.mac.queueA = s.net.mac.queueA.filter (fun f => decide (now < f.time))
      ∧ t.net.mac.queueB = s.net.mac.queueB.filter (fun f => decide (now < f.time))
      ∧ t.net.mac.queueC = s.net.mac.queueC ∧ OnlyHost { s with net := t.net } t)
    ∧ (∀ g : Fin 5, tget 0 s.net.mac.folding g.val = 1 → tget 0 s.net.mac.folds g.val = 0 →
      exec (.counterHalfFoldEnd g) s = .next (macMod s (fun m => { m with folding := tset 0 m.folding g.val 0 })))
    ∧ (∀ g : Fin 5, tget 0 s.net.mac.folding g.val = 1 → tget 0 s.net.mac.folds g.val ≠ 0 →
      exec (.counterHalfFoldEnd g) s = .next (post 0x0881 g.val 0 (tget 0 s.net.mac.folds g.val) (.res [0x0102])
        (macMod s (fun m => { m with folds := tset 0 m.folds g.val 0 }))))
    ∧ (∀ d, linkUp s = true → d ≤ 800 →
      exec (.gptpPdelayComplete true d) s = .next (sendPdelayReq (gptpMod s (fun g => { g with
        bad := 0, delay := d, good := g.good + 1, asCapable := g.asCapable || decide (3 ≤ g.good + 1) }))))
    ∧ (∀ d, linkUp s = true → s.net.gptp.bad < 2 →
      exec (.gptpPdelayComplete false d) s = .next (sendPdelayReq (gptpMod s (fun g => { g with bad := g.bad + 1, good := 0 }))))
    ∧ (∀ d, linkUp s = true → 2 ≤ s.net.gptp.bad →
      ∃ t, exec (.gptpPdelayComplete false d) s = .next t ∧ t.net.gptp.asCapable = false)
    ∧ (∀ (measured off : Int) now, off = measured - s.net.gptp.asymmetry → linkUp s = true →
      (s.net.gptp.st = 3 → -1000 ≤ off → off ≤ 1000 →
        exec (.gptpSyncReceived measured now) s = .next (gptpMod s (fun g =>
          { g with offset := off, time := now, firstOffset := false })))
      ∧ (s.net.gptp.st = 2 → off < -1000 ∨ 1000 < off →
        exec (.gptpSyncReceived measured now) s = .next (post 0x0801 0 0 (2 + 256 * 5) (.res [0x0102]) (gptpMod s (fun g =>
          { g with offset := off, time := now, stepCount := g.stepCount + 1, qualify := 0, firstOffset := false }))))
      ∧ (s.net.gptp.st = 2 → -100 ≤ off → off ≤ 100 → 7 ≤ s.net.gptp.qualify →
        ∃ t, exec (.gptpSyncReceived measured now) s = .next t ∧ t.net.gptp.st = 3 ∧ t.net.gptp.offset = off))
    ∧ (∀ (p1 cl ac : Byte) (va : BitVec 16) (p2 : Byte) (gm : BitVec 64) (st : BitVec 16), linkUp s = true →
      s.net.gptp.asCapable = true → s.net.gptp.st = 1 → s.net.gptp.priority1 = 255 →
      ∃ t, exec (.gptpAnnounceReceived p1 cl ac va p2 gm st) s = .next t ∧ t.net.gptp.st = 2 ∧ t.net.gptp.announces = true
        ∧ t.net.gptp.gm = gm ∧ t.net.gptp.steps = st.toNat + 1)
    ∧ (linkUp s = true → s.net.gptp.st = 2 →
      exec .gptpSyncTimeout s = .next (gptpMod s (fun g => { g with timeouts := g.timeouts + 1, qualify := 0 })))
    ∧ (linkUp s = true → s.net.gptp.st = 3 →
      ∃ t, exec .gptpSyncTimeout s = .next t ∧ t.net.gptp.st = 1 ∧ t.net.gptp.timeouts = s.net.gptp.timeouts + 1)
    ∧ (linkUp s = true → s.net.gptp.st = 1 ∨ s.net.gptp.st = 2 ∨ s.net.gptp.st = 3 → s.net.gptp.priority1 ≠ 255 →
      ∃ t, exec .gptpAnnounceTimeout s = .next t ∧ t.net.gptp.st = 4 ∧ t.net.gptp.gm = clockIdentity s
        ∧ t.net.gptp.steps = 0)

/-- R306, R309, R313 to R323: declarations and their leave timers, the frames of talkers, a listener without frames, ACMP, ADP
and the discovery table, AEM commands and vendor-unique fragments. What the CP executes waits while it does not run; an
AEM command of a controller that H4 shuts out is answered ENTITY_LOCKED, a repeated sequence_id as before. -/
def Obligations.StreamAndDiscoveryStepsTakeEffect : Prop :=
  ∀ s : State,
    (∀ (k : MsrpKind) (id : BitVec 64), linkUp s = true → attributeOf k id ∈ s.net.regs →
      exec (.msrpDeclarationReceived k id true) s = .next
        (netMod s (fun v => { v with leaving := withElem (attributeOf k id) v.leaving })))
    ∧ (∀ (id : BitVec 64), linkUp s = true → ∃ t, exec (.msrpDeclarationReceived .listenerReady id false) s = .next t
        ∧ (2, id) ∈ t.net.regs ∧ (2, id) ∉ t.net.leaving)
    ∧ (∀ (id : BitVec 64) (p : BitVec 3) (vid : BitVec 12), linkUp s = true →
      ∃ t, exec (.msrpDeclarationReceived (.domain true p vid) id false) s = .next t
        ∧ t.net.prioA = p.toNat ∧ t.net.vidA = vid.toNat ∧ t.net.boundA = (p.toNat != s.net.prioA))
    ∧ (∀ (l : Fin 32), linkUp s = true → tblWf Stream.off s.net.streams = true →
      (streamGet s (32 + l.val)).connected = true → recBypass (streamRec s (32 + l.val)) = false →
      classBoundary s (recClassB (streamRec s (32 + l.val))) = false →
      ∃ t, exec (.msrpDeclarationReceived .talkerAdvertise (streamIdOf s (32 + l.val)) false) s = .next t
        ∧ Declaration.listenerReady (streamIdOf s (32 + l.val)) ∈ declarations t)
    ∧ (∀ (k : MsrpKind) (id : BitVec 64), attributeOf k id ∈ s.net.leaving →
      ∃ t, exec (.mrpLeaveTimerExpire k id) s = .next t ∧ attributeOf k id ∉ t.net.regs
        ∧ attributeOf k id ∉ t.net.leaving)
    ∧ (∀ (n : Fin 32) now, blockReady s n.val = true → exec (.talkerBlock n now) s = .next (sendBlock n.val now s))
    ∧ (∀ now, s.eng.ticking = true → (crfGet s 0).st = 3 → crfHz s ≠ 0 → (crfFrame s now).bytes.length + 4 ≤ ethMaxLen s →
      exec (.crfFrameSend now) s = .next (offerStream (recClassB (crfRecord s 0)) [crfFrame s now]
        (crfMod s 0 (fun q => { q with seq := (q.seq + 1) % 256 }))))
    ∧ (∀ now, s.eng.ticking = true → (crfGet s 0).st = 3 → crfHz s ≠ 0 → ethMaxLen s < (crfFrame s now).bytes.length + 4 →
      exec (.crfFrameSend now) s = .next (macCount 4 0 (crfMod s 0 (fun q => { q with seq := (q.seq + 1) % 256 }))))
    ∧ (∀ l : Fin 32, (streamGet s (32 + l.val)).st = 3 → tblWf Stream.off s.net.streams = true →
      ∃ t, exec (.streamReceiveTimeout l) s = .next t ∧ (streamGet t (32 + l.val)).st = 2
        ∧ (streamGet t (32 + l.val)).connected = (streamGet s (32 + l.val)).connected)
    ∧ (∀ (k : Fin 4) (n : Fin 32) (id : BitVec 64) (dst : BitVec 48) (c : BitVec 64), linkUp s = true → cpRuns s = true →
      (entitySection s).isSome = true →
      exec (.acmpCommand k n id dst c) s
        = .next (acmpCommand k.val (n.val + if k.val < 2 then 32 else 0) id dst c s))
    ∧ (∀ (n : Fin 32) (id : BitVec 64) (dst : BitVec 48) (c : BitVec 64), linkUp s = true → cpRuns s = true →
      (entitySection s).isSome = true → streamDefined s (n.val + 32) = true → openMooring s (0x0800 + (n.val + 32)) = true →
      (streamGet s (n.val + 32)).st = 0 → u8 (streamRec s (n.val + 32)) 1 = 0xFF → tblWf Stream.off s.net.streams = true →
      ∃ t, exec (.acmpCommand 0 n id dst c) s = .next t ∧ (streamGet t (n.val + 32)).connected = true
        ∧ (streamGet t (n.val + 32)).st ≠ 0)
    ∧ (∀ (n : Fin 32) (id : BitVec 64) (dst : BitVec 48) (c : BitVec 64), linkUp s = true → cpRuns s = true →
      (entitySection s).isSome = true → streamDefined s (n.val + 32) = true → openMooring s (0x0800 + (n.val + 32)) = false →
      exec (.acmpCommand 0 n id dst c) s = .next
        (acmpSend 0 16 (streamGet s (n.val + 32)).streamId (streamGet s (n.val + 32)).dest c (streamGet s (n.val + 32)).acmp
          (takeLog s)))
    ∧ (netReaches s = true → (entitySection s).isSome = true → cpRuns s = false →
      exec .adpAdvertise s = .next (netHold .advertise s)
      ∧ (∀ (k : Fin 4) (n : Fin 32) (id : BitVec 64) (dst : BitVec 48) (c : BitVec 64),
        exec (.acmpCommand k n id dst c) s
          = .next (netHold (.acmp k.val (n.val + if k.val < 2 then 32 else 0) id dst c) s))
      ∧ (∀ (c : BitVec 64) (q : BitVec 16) cmd, exec (.aemCommand c q cmd) s = .next (netHold (.aem c q cmd) s)))
    ∧ (∀ (gone : Bool) (e : DiscEntry), netReaches s = true → e.entityId ≠ entityId s → cpRuns s = false →
      exec (.adpReceived gone e) s = .next (netHold (.adp gone e) s))
    ∧ (linkUp s = true → cpRuns s = true → (entitySection s).isSome = true →
      ∃ t, exec .adpAdvertise s = .next t ∧ t.net.available = (s.net.available + 1) % 2 ^ 32)
    ∧ (∀ e : DiscEntry, linkUp s = true → cpRuns s = true → e.entityId ≠ entityId s → discFind s e.entityId = none → s.net.disc.length < 2048 →
      ∃ t, exec (.adpReceived false e) s = .next t ∧ t.net.disc = discInsert e s.net.disc)
    ∧ (∀ (e old : DiscEntry), linkUp s = true → cpRuns s = true → e.entityId ≠ entityId s → discFind s e.entityId = some old →
      ∃ t, exec (.adpReceived true e) s = .next t ∧ t.net.disc = discWithout e.entityId s.net.disc)
    ∧ (∀ e : DiscEntry, linkUp s = true → cpRuns s = true → e.entityId ≠ entityId s → discFind s e.entityId = none → 2048 ≤ s.net.disc.length →
      ∃ t, exec (.adpReceived false e) s = .next t ∧ t.net.disc = s.net.disc
        ∧ t.net.discFull = min (s.net.discFull + 1) 0xFFFFFFFF)
    ∧ (∀ (id : BitVec 64) (old : DiscEntry), discFind s id = some old →
      ∃ t, exec (.discEntryExpire id) s = .next t ∧ t.net.disc = discWithout id s.net.disc)
    ∧ (∀ (c : BitVec 64) (q : BitVec 16), linkUp s = true → cpRuns s = true → (entitySection s).isSome = true →
      (aecpGet s c).lastSeq ≠ some q → foreign s c = false →
      (∀ cmd e, e = aemEffect c s.host.log cmd (takeLog s) →
        (e.1 ≠ aemSuccess ∨ aemChanges cmd = false → exec (.aemCommand c q cmd) s = .next (aemRespond c q cmd e.1 e.2))
        ∧ (e.1 = aemSuccess → aemChanges cmd = true →
          exec (.aemCommand c q cmd) s = .next (aemNotify c cmd (aemRespond c q cmd e.1 e.2))))
      ∧ (s.net.acquired = none → ∃ t, exec (.aemCommand c q (.acquireEntity false)) s = .next t ∧ t.net.acquired = some c
          ∧ t.host.log = nextLog s.host.log ∧ (aecpGet t c).lastSeq = some q))
    ∧ (∀ (c : BitVec 64) (q : BitVec 16) cmd, linkUp s = true → cpRuns s = true → (entitySection s).isSome = true →
      (aecpGet s c).lastSeq ≠ some q → foreign s c = true →
      exec (.aemCommand c q cmd) s = .next (aemRespond c q cmd aemLocked s))
    ∧ (∀ (c : BitVec 64) (q : BitVec 16) cmd, linkUp s = true → cpRuns s = true → (entitySection s).isSome = true →
      (aecpGet s c).lastSeq = some q → exec (.aemCommand c q cmd) s = .next (aecpSend c (aecpGet s c).response s))
    ∧ (∀ (c : BitVec 64) (q : BitVec 16) (d : List Byte), linkUp s = true → cpPresent s = true →
      (entitySection s).isSome = true → (aecpGet s c).lastSeq ≠ some q → d.length ≤ 500 →
      exec (.aecpVendorFragment c q 0 0 2 d) s = .next (aecpRespond c q
        (vendorBytes s c q 3 2 0 [])
        (aecpMod c (fun a => { a with assembly := d, frags := 1 }) s)))
    ∧ (∀ (c : BitVec 64) (q : BitVec 16) (i n : Nat) (d : List Byte), linkUp s = true → cpPresent s = true →
      (entitySection s).isSome = true → (aecpGet s c).lastSeq ≠ some q → foreign s c = false →
      exec (.aecpVendorFragment c q 1 i n d) s = .next (aecpRespond c q (replyFragment s c q i (aecpGet s c).reply) s))

/-! ## Auxiliary DAC (chapter 14) -/

/-- R335, R337, R338, R342, Table 14-7: what the commands of group 0x0B answer and commit. Timer and SLEW hold at the commit,
a change of range is pending on a channel that drives and done at once on one that is off, an enable or disable is pending,
a written code waits in the shadow; AUX_WRITE takes all its entries or none. The loads themselves are in
AuxStepsTakeEffect.

R328 to R340, Tables 14-5 and 8-3: a timer's tick loads its channels that no running queue loads (TMR0's takes up the
enables first), and what one load does: the shadow, a range change with its hold, the target and the present code; the slew
limiter steps; a range hold ends; a queue's pace tick (after N fabric ticks) loads its next entry, and its low mark and underrun are posted; and
VAUX below its warning level holds the channels, below its reset level turns channels, queues and mic bias outputs off, and
its return ends the hold and restarts AUX14 and those mic bias outputs. A classification that VAUX interrupts waits to start
again (the model's choice, log entry 123). -/
def Obligations.AuxCommandsAndStepsTakeEffect : Prop :=
  (∀ (o : Issue) (p : List Byte) (s : State),
    (Accepted 0x0B01 o p (auxStatusCheck p) s → hasQueue (u8 p 0) = false →
      exec (.auxStatus o p) s = answerOn 0x0B01 o s 0
        (b1 (auxStateCode s (u8 p 0)) ++ b1 ((auxGet s (u8 p 0)).pendRange.getD (auxRange (auxGet s (u8 p 0))))
          ++ b1 (auxGet s (u8 p 0)).timer ++ b1 (auxGet s (u8 p 0)).slew
          ++ b2 (((auxGet s (u8 p 0)).hold.map (·.2)).getD ((auxGet s (u8 p 0)).present, (auxGet s (u8 p 0)).target)).1
          ++ b2 (((auxGet s (u8 p 0)).hold.map (·.2)).getD ((auxGet s (u8 p 0)).present, (auxGet s (u8 p 0)).target)).2 ++ b2 ((auxGet s (u8 p 0)).shadow.getD 0xFFFF) ++ [0xFF, 0, 0, 0, 0, 0]
          ++ b4 (tget 0 (queueGet s (u8 p 0)).counts (ctxNum o.ctx))) (takeLog s))
    ∧ (Accepted 0x0B01 o p (auxStatusCheck p) s → hasQueue (u8 p 0) = true →
      exec (.auxStatus o p) s = answerOn 0x0B01 o s 0
        (b1 (auxStateCode s (u8 p 0)) ++ b1 ((auxGet s (u8 p 0)).pendRange.getD (auxRange (auxGet s (u8 p 0))))
          ++ b1 (if (queueGet s (u8 p 0)).running || u8 p 0 == 15 then 4 else (auxGet s (u8 p 0)).timer)
          ++ b1 (auxGet s (u8 p 0)).slew
          ++ b2 (((auxGet s (u8 p 0)).hold.map (·.2)).getD ((auxGet s (u8 p 0)).present, (auxGet s (u8 p 0)).target)).1
          ++ b2 (((auxGet s (u8 p 0)).hold.map (·.2)).getD ((auxGet s (u8 p 0)).present, (auxGet s (u8 p 0)).target)).2 ++ b2 ((auxGet s (u8 p 0)).shadow.getD 0xFFFF)
          ++ b1 (flag (queueGet s (u8 p 0)).running) ++ b1 (flag (queueGet s (u8 p 0)).cycle)
          ++ b2 (queueGet s (u8 p 0)).entries.length ++ [0, 0] ++ b4 (tget 0 (queueGet s (u8 p 0)).counts (ctxNum o.ctx)))
        (if u8 p 1 = 1 then queueMod (takeLog s) (u8 p 0) (fun q => { q with counts := tset 0 q.counts (ctxNum o.ctx) 0 })
          else takeLog s))
    ∧ (Accepted 0x0B02 o p (auxConfigCheck o p) s → u8 p 1 = auxRange (auxGet s (u8 p 0)) →
      exec (.auxConfig o p) s = answerOn 0x0B02 o s 0 []
        (auxMod (takeLog s) (u8 p 0) (fun a => { a with timer := u8 p 2, slew := u8 p 3, pendRange := none })))
    ∧ (Accepted 0x0B02 o p (auxConfigCheck o p) s → u8 p 1 ≠ auxRange (auxGet s (u8 p 0)) →
      (auxGet s (u8 p 0)).driving = true →
      exec (.auxConfig o p) s = answerOn 0x0B02 o s 0 []
        (auxMod (takeLog s) (u8 p 0) (fun a => { a with timer := u8 p 2, slew := u8 p 3, pendRange := some (u8 p 1) })))
    ∧ (Accepted 0x0B02 o p (auxConfigCheck o p) s → u8 p 1 ≠ auxRange (auxGet s (u8 p 0)) →
      (auxGet s (u8 p 0)).driving = false →
      exec (.auxConfig o p) s = answerOn 0x0B02 o s 0 []
        (auxMod (takeLog s) (u8 p 0) (fun a => { a with
          timer := u8 p 2, slew := u8 p 3, pendRange := none, range := u8 p 1
          present := convertCode a.range (u8 p 1) a.present, target := convertCode a.range (u8 p 1) a.target })))
    ∧ (Accepted 0x0B03 o p (auxEnableCheck o p) s → u8 p 2 = 1 →
      exec (.auxEnable o p) s = answerOn 0x0B03 o s 0 []
        ((bitsOf (u16 p 0) 16).foldl (fun t c => auxMod t c (fun a => { a with enabled := true, pendEnable := some true }))
          (takeLog s)))
    ∧ (Accepted 0x0B03 o p (auxEnableCheck o p) s → u8 p 2 = 0 →
      exec (.auxEnable o p) s = answerOn 0x0B03 o s 0 []
        ((bitsOf (u16 p 0) 16).foldl (fun t c =>
          if hasQueue c = true then
            queueMod (auxMod t c (fun a => { a with enabled := false, pendEnable := some false })) c
              (fun q => { q with running := false })
          else auxMod t c (fun a => { a with enabled := false, pendEnable := some false })) (takeLog s)))
    ∧ (Accepted 0x0B04 o p (auxWriteCheck p) s → (∀ i < u8 p 0, auxWriteEntry o p s i = none) →
      exec (.auxWrite o p) s = answerOn 0x0B04 o s 0 [0xFF, 0]
        ((List.range (u8 p 0)).foldl (fun t i =>
          auxMod t (u8 p (4 + 4 * i)) (fun a => { a with shadow := some (u16 p (6 + 4 * i)) })) (takeLog s)))
    ∧ (∀ i st, Accepted 0x0B04 o p (auxWriteCheck p) s → i < u8 p 0 → auxWriteEntry o p s i = some st →
      (∀ j < i, auxWriteEntry o p s j = none) →
      exec (.auxWrite o p) s = answerOn 0x0B04 o s st (b1 i ++ b1 st) (takeLog s))
    ∧ (Accepted 0x0B05 o p (auxTimerSetCheck p) s →
      exec (.auxTimerSet o p) s = answerOn 0x0B05 o s 0 []
        { (takeLog s) with aux := { s.aux with timers := tset (0, 1) s.aux.timers (u8 p 0) (u8 p 1, u32 p 4)
                                               timerCounts := tset 0 s.aux.timerCounts (u8 p 0) 0 } })
    ∧ (Accepted 0x0B06 o p (auxQueueConfigCheck o p) s →
      exec (.auxQueueConfig o p) s = answerOn 0x0B06 o s 0 []
        (queueMod (takeLog s) (u8 p 0) (fun q =>
          { q with cycle := u8 p 1 == 1, source := u8 p 2, lowMark := u8 p 3, n := u32 p 4, pos := 0, ticks := 0 })))
    ∧ (Accepted 0x0B07 o p (auxQueueWriteCheck o p) s → (queueGet s (u8 p 0)).cycle = true →
      exec (.auxQueueWrite o p) s = answerOn 0x0B07 o s 0 (b2 (256 - u16 p 2))
        (queueMod (takeLog s) (u8 p 0) (fun q =>
          { q with entries := (List.range (u16 p 2)).map (fun i => u16 p (4 + 2 * i)), pos := 0 })))
    ∧ (Accepted 0x0B07 o p (auxQueueWriteCheck o p) s → (queueGet s (u8 p 0)).cycle = false →
      (queueGet s (u8 p 0)).entries.length + u16 p 2 ≤ 256 →
      exec (.auxQueueWrite o p) s = answerOn 0x0B07 o s 0 (b2 (256 - (queueGet s (u8 p 0)).entries.length - u16 p 2))
        (queueMod (takeLog s) (u8 p 0) (fun q =>
          { q with entries := q.entries ++ (List.range (u16 p 2)).map (fun i => u16 p (4 + 2 * i)) })))
    ∧ (Accepted 0x0B07 o p (auxQueueWriteCheck o p) s → (queueGet s (u8 p 0)).cycle = false →
      256 < (queueGet s (u8 p 0)).entries.length + u16 p 2 →
      exec (.auxQueueWrite o p) s = answerOn 0x0B07 o s 9 (b2 (256 - (queueGet s (u8 p 0)).entries.length)) (takeLog s))
    ∧ (Accepted 0x0B08 o p (auxQueueControlCheck o p) s → u8 p 1 = 0 →
      exec (.auxQueueControl o p) s = answerOn 0x0B08 o s 0 []
        (queueMod (takeLog s) (u8 p 0) (fun q => { q with running := false })))
    ∧ (Accepted 0x0B08 o p (auxQueueControlCheck o p) s → u8 p 1 = 1 →
      exec (.auxQueueControl o p) s = answerOn 0x0B08 o s 0 []
        (queueMod (takeLog s) (u8 p 0) (fun q => { q with running := true, pos := if q.running then q.pos else 0 })))
    ∧ (Accepted 0x0B08 o p (auxQueueControlCheck o p) s → u8 p 1 = 2 →
      exec (.auxQueueControl o p) s = answerOn 0x0B08 o s 0 []
        (queueMod (takeLog s) (u8 p 0) (fun q => { q with running := false, entries := [], pos := 0 })))
    ∧ (Accepted 0x0B09 o p (auxReadbackSetCheck p) s →
      exec (.auxReadbackSet o p) s = answerOn 0x0B09 o s 0 []
        { (takeLog s) with aux := { s.aux with muxA := u8 p 0, muxB := u8 p 1 } }))
  ∧ (∀ s : State,
    (∀ k : Fin 4, timerTicks s k.val = true → auxHeld s = false → k ≠ 0 →
      exec (.auxTimerTick k) s = .next (((List.range 16).filter (auxOnTimer (timerSpend k.val s) k.val)).foldl auxTakeLoad
        (timerSpend k.val s)))
    ∧ (auxHeld s = false →
      exec (.auxTimerTick 0) s = .next (((List.range 16).filter (auxOnTimer ((List.range 16).foldl auxTakeEnable s) 0)).foldl
        auxTakeLoad ((List.range 16).foldl auxTakeEnable s)))
    ∧ (∀ k : Fin 4, timerTicks s k.val = true → auxHeld s = true → exec (.auxTimerTick k) s = .next (timerSpend k.val s))
    ∧ (∀ k : Fin 4, k ≠ 0 → (tget (0, 1) s.aux.timers k.val).1 = 2 → tget 0 s.aux.timerCounts k.val < (tget (0, 1) s.aux.timers k.val).2 →
      timerTicks s k.val = false)
    ∧ (∀ k : Fin 4, timerTicks s k.val = false → exec (.auxTimerTick k) s = .next s)
    ∧ (∀ c x, (auxGet s c).pendRange = none → (auxGet s c).shadow = some x → (auxGet s c).hold = none → x = (auxGet s c).target →
      tblWf Aux.reset s.aux.chans = true → auxGet (auxTakeLoad s c) c = { auxGet s c with shadow := none })
    ∧ (∀ c x, (auxGet s c).pendRange = none → (auxGet s c).shadow = some x → (auxGet s c).hold = none →
      x ≠ (auxGet s c).target → tblWf Aux.reset s.aux.chans = true →
      auxGet (auxTakeLoad s c) c = { auxGet s c with
        shadow := none, target := x
        present := if (auxGet s c).slew = 0 ∧ c ≠ 12 ∧ c ≠ 13 then x else (auxGet s c).present })
    ∧ (∀ c x r pr y, (auxGet s c).pendRange = none → (auxGet s c).shadow = some x → (auxGet s c).hold = some (r, pr, y) →
      tblWf Aux.reset s.aux.chans = true →
      auxGet (auxTakeLoad s c) c = { auxGet s c with shadow := none, hold := some (r, pr, x) })
    ∧ (∀ c r, (auxGet s c).pendRange = some r → (auxGet s c).hold = none → tblWf Aux.reset s.aux.chans = true →
      auxGet (auxTakeLoad s c) c = { auxGet s c with
        shadow := none, pendRange := none
        hold := some (r, convertCode (auxGet s c).range r (auxGet s c).present,
          (auxGet s c).shadow.getD (convertCode (auxGet s c).range r (auxGet s c).target)) })
    ∧ (∀ c, (auxGet s c).pendRange = none → (auxGet s c).shadow = none → auxTakeLoad s c = s)
    ∧ (∀ c, (auxGet s c).pendEnable = some true → tblWf Aux.reset s.aux.chans = true →
      auxGet (auxTakeEnable s c) c = { auxGet s c with driving := true, pendEnable := none })
    ∧ (∀ c, (auxGet s c).pendEnable = some false → (auxGet s c).hold = none → (auxGet s c).pendRange = none →
      tblWf Aux.reset s.aux.chans = true →
      auxGet (auxTakeEnable s c) c = { auxGet s c with driving := false, pendEnable := none })
    ∧ (∀ c : Fin 16, auxHeld s = false → (auxGet s c.val).hold = none → (auxGet s c.val).slew ≠ 0 →
      (auxGet s c.val).present < (auxGet s c.val).target →
      exec (.auxSlewStep c) s = .next (auxMod s c.val (fun a =>
        { a with present := min (auxGet s c.val).target ((auxGet s c.val).present + (auxGet s c.val).slew % 32) })))
    ∧ (∀ c : Fin 16, auxHeld s = false → (auxGet s c.val).hold = none → (auxGet s c.val).slew ≠ 0 →
      (auxGet s c.val).target < (auxGet s c.val).present →
      exec (.auxSlewStep c) s = .next (auxMod s c.val (fun a =>
        { a with present := max (auxGet s c.val).target ((auxGet s c.val).present - (auxGet s c.val).slew % 32) })))
    ∧ (∀ c : Fin 16, (auxHeld s = true ∨ (auxGet s c.val).hold ≠ none ∨ (auxGet s c.val).slew = 0
        ∨ (auxGet s c.val).present = (auxGet s c.val).target) → exec (.auxSlewStep c) s = .next s)
    ∧ (∀ (c : Fin 12) r x y, (auxGet s c.val).hold = some (r, x, y) →
      exec (.auxRangeHoldEnd c) s = .next (auxMod s c.val (fun a =>
        { a with hold := none, range := r, target := y, present := if (auxGet s c.val).slew = 0 then y else x })))
    ∧ (∀ c : Fin 12, (auxGet s c.val).hold = none → exec (.auxRangeHoldEnd c) s = .next s)
    ∧ (∀ q : Fin 3, (queueGet s (queueChannel q.val)).running = false
        ∨ ((queueGet s (queueChannel q.val)).source ≠ 1 ∧ (s.eng.ticking = false
          ∨ (queueGet s (queueChannel q.val)).ticks < (queueGet s (queueChannel q.val)).n)) →
      exec (.auxQueuePaceTick q) s = .next s)
    ∧ (∀ q : Fin 3, paceDue s (queueChannel q.val) = true → auxHeld s = true →
      exec (.auxQueuePaceTick q) s = .next (paceSpend (queueChannel q.val) s))
    ∧ (∀ (q : Fin 3) w, w = paceSpend (queueChannel q.val) s → paceDue s (queueChannel q.val) = true → auxHeld s = false →
      (∀ x l, (queueGet w (queueChannel q.val)).cycle = false → (queueGet w (queueChannel q.val)).entries = x :: l →
        l.length ≠ (queueGet w (queueChannel q.val)).lowMark →
        exec (.auxQueuePaceTick q) s = .next (paceLoad (queueChannel q.val) (some x) (queueMod w (queueChannel q.val) (fun u =>
          { u with entries := l, underrunPosted := false }))))
      ∧ (∀ x l, (queueGet w (queueChannel q.val)).cycle = false → (queueGet w (queueChannel q.val)).entries = x :: l →
        l.length = (queueGet w (queueChannel q.val)).lowMark →
        exec (.auxQueuePaceTick q) s = .next (post 0x0B02 (queueChannel q.val) 0 l.length (.res [0x0600 + queueChannel q.val])
          (paceLoad (queueChannel q.val) (some x) (queueMod w (queueChannel q.val) (fun u =>
            { u with entries := l, underrunPosted := false })))))
      ∧ (∀ x, (queueGet w (queueChannel q.val)).cycle = true →
        (queueGet w (queueChannel q.val)).entries[(queueGet w (queueChannel q.val)).pos]? = some x →
        exec (.auxQueuePaceTick q) s = .next (paceLoad (queueChannel q.val) (some x) (queueMod w (queueChannel q.val) (fun u =>
          { u with pos := if u.pos + 1 < u.entries.length then u.pos + 1 else 0, underrunPosted := false }))))
      ∧ ((queueGet w (queueChannel q.val)).cycle = true →
        (queueGet w (queueChannel q.val)).entries[(queueGet w (queueChannel q.val)).pos]? = none →
        exec (.auxQueuePaceTick q) s = .next (paceLoad (queueChannel q.val) none w))
      ∧ ((queueGet w (queueChannel q.val)).cycle = false → (queueGet w (queueChannel q.val)).entries = [] →
        (auxGet w (queueChannel q.val)).pendRange = none → (queueGet w (queueChannel q.val)).underrunPosted = false →
        exec (.auxQueuePaceTick q) s = .next (post 0x0B03 (queueChannel q.val) 0 (auxGet w (queueChannel q.val)).target
          (.res [0x0600 + queueChannel q.val]) (queueMod w (queueChannel q.val) (fun u =>
            { u with underrunPosted := true, counts := [0, 1, 2, 3, 4].foldl (fun m n => tincrSat 32 m n) u.counts }))))
      ∧ ((queueGet w (queueChannel q.val)).cycle = false → (queueGet w (queueChannel q.val)).entries = [] →
        (auxGet w (queueChannel q.val)).pendRange = none → (queueGet w (queueChannel q.val)).underrunPosted = true →
        exec (.auxQueuePaceTick q) s = .next (queueMod w (queueChannel q.val) (fun u =>
            { u with underrunPosted := true, counts := [0, 1, 2, 3, 4].foldl (fun m n => tincrSat 32 m n) u.counts })))
      ∧ (∀ r, (queueGet w (queueChannel q.val)).cycle = false → (queueGet w (queueChannel q.val)).entries = [] →
        (auxGet w (queueChannel q.val)).pendRange = some r →
        exec (.auxQueuePaceTick q) s = .next (queueUnderrun (queueChannel q.val)
          (auxMod w (queueChannel q.val) (fun a => auxTakeRange a r none)))))
    ∧ (∀ c x, (auxGet s c).pendRange = none → paceLoad c (some x) s = auxLoad c x s)
    ∧ (∀ c x r, (auxGet s c).pendRange = some r → paceLoad c x s = auxMod s c (fun a => auxTakeRange a r x))
    ∧ (∀ c, (auxGet s c).pendRange = none → paceLoad c none s = s)
    ∧ (s.pwr.dev ≠ .off → s.pwr.dev ≠ .por →
      exec .vauxWarning s = .next (postBrown 2 1 (countBrown 2 (jacksBack { s with aux := { s.aux with vauxLow := true } }))))
    ∧ (s.pwr.dev ≠ .off → s.pwr.dev ≠ .por → s.aux.vauxReset = false → tblWf Aux.reset s.aux.chans = true →
      tblWf AuxQueue.reset s.aux.queues = true →
      ∃ t, exec .vauxReset s = .next t ∧ t.aux.vauxLow = true ∧ t.aux.vauxReset = true
        ∧ (∀ c < 16, (auxGet t c).driving = false ∧ (auxGet t c).enabled = false)
        ∧ (∀ c ∈ [10, 11, 15], (queueGet t c).running = false)
        ∧ (∀ b < 2, micOn s b = true → (micGet t b).st = 4 ∧ (micGet t b).wasOn = true
          ∧ (micGet t b).faults = (micGet s b).faults + 1)
        ∧ OnlyHost { s with aux := t.aux, cap := t.cap, out := t.out } t)
    ∧ (s.aux.vauxLow = true → s.aux.vauxReset = false →
      exec .vauxRecover s = .next (serveJacks (postBrown 2 0 { s with aux := { s.aux with vauxLow := false } })))
    ∧ (s.aux.vauxLow = true → s.aux.vauxReset = true → s.aux.fault = true →
      ∃ t, exec .vauxRecover s = .next t ∧ t.aux.vauxLow = false ∧ t.aux.vauxReset = false
        ∧ (∀ b < 2, (micGet s b).wasOn = true → (micGet t b).wasOn = false ∧ (micGet t b).st = (micGet s b).st))
    ∧ (s.aux.vauxLow = true → s.aux.vauxReset = true → s.aux.fault = false →
      tblWf Aux.reset s.aux.chans = true →
      ∃ t, exec .vauxRecover s = .next t ∧ t.aux.vauxLow = false ∧ t.aux.vauxReset = false ∧ (auxGet t 14).driving = true
        ∧ (∀ b < 2, (micGet s b).wasOn = true → (micGet t b).wasOn = false ∧ (micGet t b).st = 1)))

/-! ## Measurement (chapter 15) -/

/-- What the commands of group 0x0C answer and do (Tables 15-7 to 15-9, R347, R349, R350, R356, R360): the scan is set,
stopped, armed (a continuous one starts at once), triggered or its buffer flushed; records are read and taken out in order;
a sequence is set, armed, disarmed or triggered; a calibration is answered QUEUED. The age of a calibration is open.

R344 to R357: a conversion's record, whose code is in the channel's coding and whose value the corrections give, is the
channel's latest and goes to the scan's buffer (which drops its oldest when full) or to its sequence's results; a pair gives
both channels their records; triggers of the scan, of injected sequences and of MTRIG start their work or are overruns, and
an injected one abandons a calibration; the paired clock's tick starts a block; system sequences wait; the plausibility
verdict; a calibration starts and ends; the tracker of exposed channels locks. The bounds of a readback's code are the model's
inference (log entry 129). -/
def Obligations.MeasureCommandsAndStepsTakeEffect : Prop :=
  (∀ (o : Issue) (p : List Byte) (s : State),
    (Accepted 0x0C01 o p (measStatusCheck p) s →
      exec (.measStatus o p) s = answerOn 0x0C01 o s 0
        (b1 (sarCode s.meas.ma) ++ b1 (sarCode s.meas.mb) ++ b1 s.meas.scan ++ b1 (maskBy 4 (fun j => (injGet s j).armed))
          ++ (List.range 8).flatMap (fun i => b4 (tget 0 s.meas.counts (8 * ctxNum o.ctx + i)))
          ++ b2 s.meas.buffer.length ++ [0, 0])
        (if u8 p 0 = 1 then measMod (takeLog s) (fun m => { m with
            counts := (List.range 8).foldl (fun t i => tset 0 t (8 * ctxNum o.ctx + i) 0) m.counts })
          else takeLog s))
    ∧ (Accepted 0x0C02 o p (measScanSetCheck o p) s →
      (s.meas.scan ≠ 1 ∨ u8 p 4 ≠ 0 ∨ u32 p 0 = 0 ∨ s.meas.scanWaits = true) →
      exec (.measScanSet o p) s = answerOn 0x0C02 o s 0 []
        (measMod (takeLog s) (fun m => { m with mask := u32 p 0, source := u8 p 4, interval := u32 p 8 })))
    ∧ (Accepted 0x0C02 o p (measScanSetCheck o p) s → s.meas.scan = 1 → u8 p 4 = 0 → u32 p 0 ≠ 0 → s.meas.scanWaits = false →
      exec (.measScanSet o p) s = answerOn 0x0C02 o s 0 []
        (scanTrigger (measMod (takeLog s) (fun m => { m with mask := u32 p 0, source := u8 p 4, interval := u32 p 8 }))))
    ∧ (Accepted 0x0C03 o p (measScanControlCheck o p) s → u8 p 0 = 0 →
      exec (.measScanControl o p) s = answerOn 0x0C03 o s 0 []
        (measMod (takeLog s) (fun m => { m with scan := 0, single := false, left := [], scanWaits := false })))
    ∧ (Accepted 0x0C03 o p (measScanControlCheck o p) s → u8 p 0 = 1 → s.meas.scan = 2 →
      exec (.measScanControl o p) s = answerOn 0x0C03 o s 0 [] (measMod (takeLog s) (fun m => { m with single := false })))
    ∧ (Accepted 0x0C03 o p (measScanControlCheck o p) s → u8 p 0 = 1 → s.meas.scan ≠ 2 →
      (s.meas.source ≠ 0 ∨ s.meas.mask = 0 ∨ s.meas.scanWaits = true) →
      exec (.measScanControl o p) s = answerOn 0x0C03 o s 0 []
        (measMod (takeLog s) (fun m => { m with scan := 1, single := false })))
    ∧ (Accepted 0x0C03 o p (measScanControlCheck o p) s → u8 p 0 = 1 → s.meas.scan ≠ 2 → s.meas.source = 0 →
      s.meas.mask ≠ 0 → s.meas.scanWaits = false →
      exec (.measScanControl o p) s = answerOn 0x0C03 o s 0 []
        (scanTrigger (measMod (takeLog s) (fun m => { m with scan := 1, single := false }))))
    ∧ (Accepted 0x0C03 o p (measScanControlCheck o p) s → u8 p 0 = 2 →
      exec (.measScanControl o p) s = answerOn 0x0C03 o s 0 []
        (scanTrigger (if s.meas.scan = 0 then measMod (takeLog s) (fun m => { m with single := true }) else takeLog s)))
    ∧ (Accepted 0x0C03 o p (measScanControlCheck o p) s → u8 p 0 = 3 →
      exec (.measScanControl o p) s = answerOn 0x0C03 o s 0 [] (measMod (takeLog s) (fun m => { m with buffer := [] })))
    ∧ (Accepted 0x0C04 o p (measScanReadCheck o p) s →
      exec (.measScanRead o p) s = answerOn 0x0C04 o s 0
        (b1 (min (u8 p 0) s.meas.buffer.length) ++ [0, 0, 0] ++ (s.meas.buffer.take (u8 p 0)).flatMap recordBytes)
        (measMod (takeLog s) (fun m => { m with buffer := m.buffer.drop (u8 p 0) })))
    ∧ (Accepted 0x0C05 o p (measLatestCheck p) s →
      exec (.measLatest o p) s = answerOn 0x0C05 o s 0
        ((List.range (u8 p 1)).flatMap (fun i => recordBytes (tget noRecord s.meas.latest (u8 p 0 + i)))) (takeLog s))
    ∧ (Accepted 0x0C06 o p (measInjSetCheck o p) s →
      exec (.measInjSet o p) s = answerOn 0x0C06 o s 0 []
        (injMod (takeLog s) (u8 p 0) (fun q => { q with
          conv := u8 p 1, channels := (List.range (u8 p 2)).map (fun i => u8 p (4 + i)), source := u8 p 3
          notify := u8 p 8 == 1 })))
    ∧ (Accepted 0x0C07 o p (measInjControlCheck o p) s → u8 p 1 = 0 → s.meas.running ≠ some (u8 p 0) →
      exec (.measInjControl o p) s = answerOn 0x0C07 o s 0 []
        (measMod (injMod (takeLog s) (u8 p 0) (fun q => { q with armed := false })) (fun m =>
          { m with ma := orphan (u8 p 0) m.ma, mb := orphan (u8 p 0) m.mb })))
    ∧ (Accepted 0x0C07 o p (measInjControlCheck o p) s → u8 p 1 = 0 → s.meas.running = some (u8 p 0) →
      exec (.measInjControl o p) s = answerOn 0x0C07 o s 0 []
        (sarNext (injMod (measMod (measMod (injMod (takeLog s) (u8 p 0) (fun q => { q with armed := false })) (fun m =>
          { m with ma := orphan (u8 p 0) m.ma, mb := orphan (u8 p 0) m.mb })) (fun m =>
          { m with running := none, injLeft := [], owed := !m.pairs.isEmpty })) (u8 p 0) (fun q => { q with pending := [] }))))
    ∧ (Accepted 0x0C07 o p (measInjControlCheck o p) s → u8 p 1 = 1 →
      exec (.measInjControl o p) s = answerOn 0x0C07 o s 0 [] (injMod (takeLog s) (u8 p 0) (fun q => { q with armed := true })))
    ∧ (Accepted 0x0C07 o p (measInjControlCheck o p) s → u8 p 1 = 2 →
      exec (.measInjControl o p) s = answerOn 0x0C07 o s 0 [] (injTrigger (u8 p 0) (takeLog s)))
    ∧ (Accepted 0x0C08 o p (measInjReadCheck p) s →
      exec (.measInjRead o p) s = answerOn 0x0C08 o s 0
        (b4 (injGet s (u8 p 0)).completions ++ (injGet s (u8 p 0)).results.flatMap recordBytes) (takeLog s))
    ∧ (Accepted 0x0C09 o p (measCalibrateCheck p) s →
      exec (.measCalibrate o p) s = answerOn 0x0C09 o s 10 []
        ((bitsOf (u8 p 0) 2).foldl (fun t c => sarMod t c (fun q =>
          { q with calRequested := true, calFor := q.calFor ++ [waiterOf o s] })) (takeLog s)))
    ∧ (Accepted 0x0C0A o p (measCalReadCheck p) s →
      ∃ age, exec (.measCalRead o p) s = answerOn 0x0C0A o s 0
        (sb4 (sarGet s (u8 p 0)).offset ++ sb4 (sarGet s (u8 p 0)).gain ++ b4 age ++ sb2 (sarGet s (u8 p 0)).calTemp
          ++ sb2 (sarGet s (u8 p 0)).diff) (takeLog s)))
  ∧ (∀ s : State,
    (∀ (c : Fin 2) (q : Conversion) (code trim code2 trim2 n : Int) (off : Nat) r, (sarGet s c.val).busy = some q →
      q.source < 6 → tblWf noRecord s.meas.latest = true → n = sarCodeOf q.channel (readbackCode s q.channel code) →
      r = sarRecord s c.val (injMark q s).1 n (sarValue (sarGet s c.val) q.channel n trim) off →
      ∃ t, exec (.sarConversionDone c code trim code2 trim2 off) s = .next t
        ∧ tget noRecord t.meas.latest q.channel = r
        ∧ (∀ k, k ≠ q.channel → tget noRecord t.meas.latest k = tget noRecord s.meas.latest k)
        ∧ (q.source = 0 → s.meas.buffer.length < 256 → t.meas.buffer = s.meas.buffer ++ [r])
        ∧ (q.source = 0 → s.meas.buffer.length = 256 → t.meas.buffer = s.meas.buffer.drop 1 ++ [r])
        ∧ (q.source ≠ 0 → t.meas.buffer = s.meas.buffer))
    ∧ (∀ (c : Fin 2) (j : Fin 4) (q : Conversion) (code trim code2 trim2 n : Int) (off : Nat) r,
      (sarGet s c.val).busy = some q →
      q.source = 2 + j.val → tblWf Inj.reset s.meas.injs = true → s.meas.running = some j.val →
      n = sarCodeOf q.channel (readbackCode s q.channel code) →
      r = sarRecord s c.val { q with overrun := (injGet s j.val).overrun } n (sarValue (sarGet s c.val) q.channel n trim) off →
      ∃ t, exec (.sarConversionDone c code trim code2 trim2 off) s = .next t ∧ (injGet t j.val).overrun = false
        ∧ (q.live = false → (injGet t j.val).pending = (injGet s j.val).pending ∧ (injGet t j.val).results = (injGet s j.val).results)
        ∧ (q.live = true → s.meas.injLeft ≠ [] → (injGet t j.val).pending = (injGet s j.val).pending ++ [r]
          ∧ t.meas.running = some j.val ∧ (injGet t j.val).results = (injGet s j.val).results)
        ∧ (q.live = true → s.meas.injLeft = [] → (injGet t j.val).results = (injGet s j.val).pending ++ [r]
          ∧ (injGet t j.val).pending = [] ∧ (injGet t j.val).completions = (injGet s j.val).completions + 1
          ∧ t.meas.running = none))
    ∧ (∀ (q q2 : Conversion) (code trim code2 trim2 : Int) (off : Nat), s.meas.ma.busy = some q → s.meas.mb.busy = some q2 →
      q.source = 6 → q2.source = 6 → q.channel ≠ q2.channel → tblWf noRecord s.meas.latest = true →
      ∃ t, exec (.sarConversionDone 0 code trim code2 trim2 off) s = .next t
        ∧ tget noRecord t.meas.latest q.channel = sarRecord s 0 q (sarCodeOf q.channel (readbackCode s q.channel code))
          (sarValue s.meas.ma q.channel (sarCodeOf q.channel (readbackCode s q.channel code)) trim) off
        ∧ tget noRecord t.meas.latest q2.channel = sarRecord s 1 q2 (sarCodeOf q2.channel code2)
          (sarValue s.meas.mb q2.channel (sarCodeOf q2.channel code2) trim2) off
        ∧ t.meas.buffer = s.meas.buffer)
    ∧ (∀ k : Fin 8, sarAlive s = true → s.meas.scan ≠ 0 → s.meas.source = k.val → k ≠ 0 → k ≠ 7 →
      triggerRuns s k.val = true →
      (s.meas.scan = 2 → exec (.hostScanTrigger k) s = .next (scanOverruns s))
      ∧ (s.meas.scan ≠ 2 → s.meas.sysKind ≠ 0 → s.meas.scanWaits = true →
        exec (.hostScanTrigger k) s = .next (scanOverruns s))
      ∧ (s.meas.scan ≠ 2 → s.meas.sysKind ≠ 0 → s.meas.scanWaits = false →
        exec (.hostScanTrigger k) s = .next (measMod s (fun m => { m with scanWaits := true })))
      ∧ (s.meas.scan ≠ 2 → s.meas.sysKind = 0 →
        exec (.hostScanTrigger k) s = .next (sarNext (scanEnds (measMod s (fun m =>
          { m with scan := 2, left := bitsOf m.mask 32, scanIndex := 0, scanWaits := false, scanMark := m.scanOverrun
                   scanOverrun := false, scanPaused := false }))))))
    ∧ (∀ j : Fin 4, sarAlive s = true → (injGet s j.val).armed = true → (injGet s j.val).source ≠ 7 →
      triggerRuns s (injGet s j.val).source = true →
      s.meas.running = none → (injGet s j.val).channels ≠ [] → s.meas.ma.calRunning = false → s.meas.mb.calRunning = false →
      exec (.injectedTrigger j) s = .next (sarNext (injMod (measMod s (fun m => { m with
        running := some j.val, injLeft := (injGet s j.val).channels, injIndex := 0
        scanPaused := m.scan == 2, sysPaused := m.sysKind != 0 })) j.val (fun q => { q with pending := [] }))))
    ∧ (∀ j : Fin 4, sarAlive s = true → (injGet s j.val).armed = true → (injGet s j.val).source ≠ 7 →
      triggerRuns s (injGet s j.val).source = true →
      s.meas.running = none → (injGet s j.val).channels ≠ [] → s.meas.ma.calRunning = true → s.meas.ma.restarts < 16 →
      s.meas.mb.calRunning = false →
      ∃ t, exec (.injectedTrigger j) s = .next t ∧ t.meas.running = some j.val ∧ t.meas.ma.calRunning = false
        ∧ t.meas.ma.calRequested = s.meas.ma.calRequested ∧ t.meas.ma.restarts = s.meas.ma.restarts + 1)
    ∧ (∀ j : Fin 4, sarAlive s = true → (injGet s j.val).armed = true → (injGet s j.val).source ≠ 7 →
      triggerRuns s (injGet s j.val).source = true →
      s.meas.running = none → (injGet s j.val).channels = [] → exec (.injectedTrigger j) s = .next s)
    ∧ (∀ (j : Fin 4) k, sarAlive s = true → (injGet s j.val).armed = true → (injGet s j.val).source ≠ 7 →
      triggerRuns s (injGet s j.val).source = true →
      s.meas.running = some k →
      exec (.injectedTrigger j) s = .next (postOverrun (1 + j.val)
        (measCount (1 + j.val) (injMod s j.val (fun q => { q with overrun := true })))))
    ∧ (∀ rising : Bool, sarAlive s = true → (∀ j < 4, (injGet s j).armed = false) → s.meas.scan ≠ 0 →
      s.meas.source = (if rising then 2 else 3) → exec (.mtrigEdge rising) s = .next (scanTrigger s))
    ∧ (∀ (rising : Bool) (j : Fin 4), sarAlive s = true → (∀ k < 4, k ≠ j.val → (injGet s k).armed = false) →
      (injGet s j.val).armed = true → (injGet s j.val).source = (if rising then 2 else 3) → s.meas.scan = 0 →
      exec (.mtrigEdge rising) s = .next (injTrigger j.val s))
    ∧ (∀ rising : Bool, (∀ j < 4, (injGet s j).armed = true → (injGet s j).source ≠ (if rising then 2 else 3)) →
      (s.meas.scan = 0 ∨ s.meas.source ≠ (if rising then 2 else 3)) → exec (.mtrigEdge rising) s = .next s)
    ∧ (pairedRuns s = true → s.meas.pairs = [] → sourceBusy s 6 = false →
      exec .pairedClockTick s = .next (sarNext (measMod s (fun m =>
        { m with pairs := blockPairs s }))))
    ∧ (pairedRuns s = true → (s.meas.pairs ≠ [] ∨ sourceBusy s 6 = true) →
      exec .pairedClockTick s = .next (sarNext (measMod (measCount 5 s) (fun m =>
        { m with pairs := blockPairs s }))))
    ∧ (pairedRuns s = false → exec .pairedClockTick s = .next s)
    ∧ (∀ q : Fin 7, sarAlive s = true → systemDue s q.val = true →
      exec (.systemSequenceDue q) s = .next (sarNext (measMod s (fun m => { m with systems := m.systems ++ [q.val] }))))
    ∧ (sarAlive s = true → s.meas.plausCheck = true → -24 ≤ s.meas.plausDiff → s.meas.plausDiff ≤ 24 →
      exec .plausibilityCheck s = .next (measMod s (fun m => { m with
        plausCheck := false, plausOnce := true, ma := { m.ma with diff := s.meas.plausDiff }, mb := { m.mb with diff := s.meas.plausDiff }
        plausFails := 0 })))
    ∧ (sarAlive s = true → s.meas.plausCheck = true → (s.meas.plausDiff < -24 ∨ 24 < s.meas.plausDiff) →
      s.meas.plausFails < 2 →
      exec .plausibilityCheck s = .next (measMod s (fun m => { m with
        plausCheck := false, plausOnce := true, ma := { m.ma with diff := s.meas.plausDiff }, mb := { m.mb with diff := s.meas.plausDiff }
        plausFails := m.plausFails + 1 })))
    ∧ (sarAlive s = true → s.meas.plausCheck = true → (s.meas.plausDiff < -24 ∨ 24 < s.meas.plausDiff) →
      2 ≤ s.meas.plausFails →
      ∃ t, exec .plausibilityCheck s = .next t ∧ t.meas.plausFails = 0 ∧ t.meas.plausCheck = false
        ∧ (bit s.meas.plausBad 0 = true → t.meas.ma.st = 3 ∧ t.meas.ma.calRequested = true)
        ∧ (bit s.meas.plausBad 1 = true → t.meas.mb.st = 3 ∧ t.meas.mb.calRequested = true)
        ∧ (bit s.meas.plausBad 0 = true → bit s.meas.plausBad 1 = false → t.meas.mb.st = s.meas.mb.st)
        ∧ (bit s.meas.plausBad 0 = false → bit s.meas.plausBad 1 = true → t.meas.ma.st = s.meas.ma.st)
        ∧ (bit s.meas.plausBad 0 = false → bit s.meas.plausBad 1 = false →
          t.meas.ma.st = 2 ∧ t.meas.mb.st = 2 ∧ t.meas.ma.calRequested = true ∧ t.meas.mb.calRequested = true))
    ∧ (∀ c : Fin 2, sarAlive s = true → s.meas.ma.calRunning = false → s.meas.mb.calRunning = false →
      s.meas.running = none → s.meas.pairs = [] → (sarGet s c.val).busy = none →
      exec (.sarCalibrationStart c) s = .next (sarMod s c.val (fun q => { q with calRequested := true, calRunning := true })))
    ∧ (∀ (c : Fin 2) (off g : Int), (sarGet s c.val).calRunning = true → (sarGet s c.val).busy = none →
      s.meas.pairs = [] → calCause off g = 0 →
      ∃ t, exec (.sarCalibrationEnd c off g) s = .next t ∧ (sarGet t c.val).st = 0 ∧ (sarGet t c.val).gain = g
        ∧ (sarGet t c.val).offset = off ∧ (sarGet t c.val).calRunning = false ∧ (sarGet t c.val).calFor = [])
    ∧ (∀ (c : Fin 2) (off g : Int), (sarGet s c.val).calRunning = true → (sarGet s c.val).busy = none →
      s.meas.pairs = [] → calCause off g ≠ 0 →
      ∃ t, exec (.sarCalibrationEnd c off g) s = .next t ∧ (sarGet t c.val).st = 3
        ∧ (sarGet t c.val).gain = (sarGet s c.val).gain ∧ (sarGet t c.val).calRunning = false)
    ∧ (bit (u8 (measEntry s) 0) 0 = true → s.meas.trackerLocked = false → sarFailed s 0 = false → sarFailed s 1 = false →
      exec .measurementTrackerLock s = .next (measMod s (fun m => { m with trackerLocked := true }))))

/-! ## Power states and the start (chapter 16) -/

/-- POWER_STATUS and POWER_STATE_SET (Tables 16-11, 16-6), and what the steps of a transition to DOZE, SLEEP or RECOVERY and
of the return to ACTIVE, a wake, a supply warning and its end, and the die's temperature do (R362, R368 to R378, R383). The
status answers its fields where the rails and the core have been measured; a rail with no result yet is open. What a rail's own
recovery does is the model's inference (log entry 133). -/
def Obligations.PowerStepsTakeEffect : Prop :=
  (∀ (o : Issue) (p : List Byte) (s : State),
    (Accepted 0x0D01 o p noCheck s →
      exec (.powerStatus o p) s = answerOn 0x0D01 o s 0 (powerStatusResult (takeLog s)) (takeLog s))
    ∧ (∀ (house : Nat → Option Int) (vcore dvdd avdd vin vaux t20 : Int), Accepted 0x0D01 o p noCheck s →
      (∀ ch, house ch = (s.meas.house.find? (fun e => e.1 == ch)).map (·.2.value)) →
      house 25 = some vcore → house 24 = some dvdd → house 26 = some avdd →
      house 27 = some vin → house 23 = some vaux → latestValue s 20 = some t20 →
      exec (.powerStatus o p) s = answerOn 0x0D01 o s 0
        (b1 (devCode s.pwr.dev) ++ b1 (flag s.pwr.shelter + 2 * flag s.pwr.thermalWarn) ++ b1 s.pwr.cause ++ b1 s.pwr.wake
          ++ b2 (divNear vcore 1000).toNat ++ b2 (divNear dvdd 1000).toNat ++ b2 (divNear avdd 1000).toNat
          ++ b2 (divNear vin 1000).toNat ++ b2 (divNear vaux 1000).toNat ++ sb2 (divNear t20 100)
          ++ b4 (tget 0 s.pwr.warnCounts 0) ++ b4 (tget 0 s.pwr.warnCounts 1) ++ b4 (tget 0 s.pwr.warnCounts 2)
          ++ b2 s.pwr.failedChains ++ b1 s.pwr.selfTest ++ b1 s.pwr.watchdog ++ b4 s.pwr.bootUs) (takeLog s))
    ∧ (Accepted 0x0D02 o p (powerStateSetCheck p) s → u8 p 0 = devCode s.pwr.dev →
      exec (.powerStateSet o p) s = answerOn 0x0D02 o s 0 [] (takeLog s))
    ∧ (∀ w, Accepted 0x0D02 o p (powerStateSetCheck p) s → u8 p 0 ≠ devCode s.pwr.dev →
      w = pwrMod (takeLog s) (fun q => { q with
        transition := some { target := u8 p 0, waiter := waiterOf o s,
                             loads := s.cs.loads.length + flag s.cs.load.isSome, swaps := s.cs.swapCount, muting := false } }) →
      exec (.powerStateSet o p) s = answerOn 0x0D02 o s 10 []
        (if s.pwr.dev = .active ∧ (u8 p 0 = 4 ∨ u8 p 0 = 7) then relayRest w else w)))
  ∧ ∀ s : State,
    (∀ rail : Fin 2, (s.pwr.dev = .active ∨ s.pwr.dev = .doze ∨ s.pwr.dev = .test ∨ s.pwr.dev = .recovery) →
      s.pwr.shelter = false →
      ∃ t, exec (.supplyWarning rail true) s = .next t ∧ t.pwr.shelter = true
        ∧ tget 0 t.pwr.warnCounts rail.val = min (tget 0 s.pwr.warnCounts rail.val + 1) 0xFFFFFFFF
        ∧ (if rail = 0 then t.pwr.warnAvdd = true else t.pwr.warnVin = true) ∧ t.pwr.dev = s.pwr.dev)
    ∧ (∀ rail : Fin 2, supervised s = true →
      ((s.pwr.dev = .active ∨ s.pwr.dev = .doze ∨ s.pwr.dev = .test ∨ s.pwr.dev = .recovery) → s.pwr.shelter = true) →
      ∃ t, exec (.supplyWarning rail true) s = .next t ∧ t.pwr.shelter = s.pwr.shelter
        ∧ tget 0 t.pwr.warnCounts rail.val = min (tget 0 s.pwr.warnCounts rail.val + 1) 0xFFFFFFFF
        ∧ (if rail = 0 then t.pwr.warnAvdd = true else t.pwr.warnVin = true) ∧ t.pwr.dev = s.pwr.dev)
    ∧ (supervised s = true → s.pwr.warnAvdd = true → s.pwr.warnVin = true →
      exec (.supplyWarning 0 false) s = .next (pwrMod s (fun q => { q with warnAvdd := false }))
      ∧ exec (.supplyWarning 1 false) s = .next (pwrMod s (fun q => { q with warnVin := false })))
    ∧ (∀ rail : Fin 2, supervised s = true → (if rail = 0 then s.pwr.warnAvdd = true ∧ s.pwr.warnVin = false
        else s.pwr.warnVin = true ∧ s.pwr.warnAvdd = false) →
      ∃ t, exec (.supplyWarning rail false) s = .next t ∧ t.pwr.shelter = false ∧ t.pwr.warnAvdd = false
        ∧ t.pwr.warnVin = false ∧ t.pwr.dev = s.pwr.dev)
    ∧ (∀ rail : Fin 2, (if rail = 0 then s.pwr.warnAvdd = false else s.pwr.warnVin = false) →
      exec (.supplyWarning rail false) s = .next s)
    ∧ (supervised s = true → (s.pwr.shelter = true ∨ s.pwr.warnAvdd = true ∨ s.pwr.warnVin = true) →
      ∃ t, exec .shelterEnd s = .next t ∧ t.pwr.shelter = false ∧ t.pwr.warnAvdd = false ∧ t.pwr.warnVin = false
        ∧ t.pwr.dev = s.pwr.dev)
    ∧ (∀ tr : Transition, s.pwr.transition = some tr → (cpRuns s = false ∨ waitOver s tr = false
        ∨ (tr.muting = true ∧ restReady tr s = false) ∨ (tr.target = 7 ∧ s.pwr.shelter = true)) →
      exec .powerTransitionProceed s = .next s)
    ∧ (∀ tr : Transition, s.pwr.transition = some tr → tr.target = 6 → tr.muting = false → cpRuns s = true →
      waitOver s tr = true →
      exec .powerTransitionProceed s = .next (transitionDone tr 3 (pwrMod s (fun q => { q with
        dev := .recovery, transition := none }))))
    ∧ (∀ tr : Transition, s.pwr.transition = some tr → tr.target = 4 → tr.muting = false → cpRuns s = true →
      waitOver s tr = true → s.pwr.dev = .active →
      exec .powerTransitionProceed s = .next (outputsRest (relayRest (pwrMod s (fun q => { q with
        transition := some { tr with muting := true } })))))
    ∧ (∀ tr : Transition, s.pwr.transition = some tr → tr.target = 4 → tr.muting = true → cpRuns s = true →
      waitOver s tr = true → outputsAtRest s = true →
      exec .powerTransitionProceed s = .next (transitionDone tr 3 (pwrMod (membersIdle (stopTick (relayRest
        (dropAwaiting s)))) (fun q => { q with dev := .doze, transition := none }))))
    ∧ (∀ tr : Transition, s.pwr.transition = some tr → tr.target = 4 → tr.muting = true → cpRuns s = true →
      waitOver s tr = true → outputsAtRest s = true →
      ∃ t, exec .powerTransitionProceed s = .next t ∧ t.pwr.dev = .doze ∧ t.pwr.transition = none ∧ t.eng.ticking = false)
    ∧ (∀ tr : Transition, s.pwr.transition = some tr → tr.target = 7 → tr.muting = false → cpRuns s = true →
      waitOver s tr = true → s.pwr.shelter = false → s.pwr.dev = .active →
      exec .powerTransitionProceed s = .next (outputsRest (relayRest (askSummary (pwrMod s (fun q => { q with
        transition := some { tr with muting := true } }))))))
    ∧ (∀ tr : Transition, s.pwr.transition = some tr → tr.target = 7 → tr.muting = false → cpRuns s = true →
      s.pwr.shelter = false → s.pwr.dev = .doze →
      exec .powerTransitionProceed s = .next (askSummary (pwrMod s (fun q => { q with
        transition := some { tr with muting := true } }))))
    ∧ (∀ tr : Transition, s.pwr.transition = some tr → tr.target = 7 → tr.muting = true → cpRuns s = true →
      restReady tr s = true →
      ∃ t, exec .powerTransitionProceed s = .next t ∧ t.pwr.dev = .sleep ∧ t.pwr.transition = none ∧ t.eng.ticking = false
        ∧ t.meas.ma.busy = none ∧ t.meas.mb.busy = none)
    ∧ (∀ tr : Transition, s.pwr.transition = some tr → tr.target = 3 → tr.muting = false → cpRuns s = true →
      s.pwr.dev = .doze →
      exec .powerTransitionProceed s = .next (transitionDone tr 4 (returnToActive s)))
    ∧ (∀ src : Fin 3, s.pwr.dev = .sleep → wakePossible s src.val = false → exec (.wakeSource src) s = .next s)
    ∧ (∀ src : Fin 3, s.pwr.dev = .sleep → wakePossible s src.val = true →
      exec (.wakeSource src) s = .next (nvmStart (refreshPins (shelterIfWarned (postSlept (postPowerState 7 (src.val + 1) 0
        (returnToActive (pwrMod s (fun q => { q with wake := src.val + 1 }))))))))
      ∧ ∃ t, exec (.wakeSource src) s = .next t ∧ t.pwr.dev = .active ∧ t.pwr.wake = src.val + 1 ∧ t.pwr.unposted = [])
    ∧ (∀ (port : Fin 2) (a : BitVec 7), s.pwr.dev = .sleep → twPowered s port = true → (twGet s port).addr = a →
      exec (.twWakeMatch port a) s = .next (wake 1 (twMod s port (fun q => { q with acked := false })))
      ∧ ∃ t, exec (.twWakeMatch port a) s = .next t ∧ t.pwr.dev = .active ∧ t.pwr.wake = 1)
    ∧ (∀ c : Int, (s.pwr.dev = .active ∨ s.pwr.dev = .doze ∨ s.pwr.dev = .test ∨ s.pwr.dev = .recovery) →
      (1150 ≤ c → s.pwr.thermalWarn = false →
        exec (.thermalWarning c) s = .next (spanMod (post 0x0D03 0 0 (1 + 65536 * unsigned 16 c) .none
          (pwrMod s (fun q => { q with thermalWarn := true }))) (fun q => { q with tjMax := max q.tjMax c })))
      ∧ (c < 1100 → s.pwr.thermalWarn = true →
        exec (.thermalWarning c) s = .next (post 0x0D03 0 0 (65536 * unsigned 16 c) .none
          (pwrMod s (fun q => { q with thermalWarn := false }))))
      ∧ (1100 ≤ c → s.pwr.thermalWarn = true →
        exec (.thermalWarning c) s = .next (spanMod s (fun q => { q with tjMax := max q.tjMax c })))
      ∧ (c < 1150 → s.pwr.thermalWarn = false → exec (.thermalWarning c) s = .next s))
    ∧ (∀ c : Int, s.pwr.dev = .boot →
      (1150 ≤ c → s.pwr.thermalWarn = false →
        exec (.thermalWarning c) s = .next (post 0x0D03 0 0 (1 + 65536 * unsigned 16 c) .none
          (pwrMod s (fun q => { q with thermalWarn := true }))))
      ∧ (c < 1100 → s.pwr.thermalWarn = true →
        exec (.thermalWarning c) s = .next (post 0x0D03 0 0 (65536 * unsigned 16 c) .none
          (pwrMod s (fun q => { q with thermalWarn := false })))))
    ∧ (s.pwr.thermalShut = false → s.pwr.dev ≠ .off → s.pwr.dev ≠ .por → s.pwr.dev ≠ .sleep →
      tblWf Output.reset s.out.outs = true →
      ∃ t, exec .thermalShutdown s = .next t ∧ t.pwr.thermalShut = true ∧ t.eng.ticking = false
        ∧ (∀ k, k < 4 → (outGet t k).st = 6 ∧ (outGet t k).lastFault = 7))
    ∧ (∀ c : Int, s.pwr.thermalShut = true → c < 1200 → tblWf Output.reset s.out.outs = true → s.eng.halted = false →
      ∃ t, exec (.thermalRecover c) s = .next t ∧ t.pwr.thermalShut = false
        ∧ (∀ k, k < 4 → (outGet t k).st = 0 ∧ (outGet t k).enabled = false
          ∧ (outGet t k).faults = (outGet s k).faults + 1))
    ∧ (∀ c : Int, s.pwr.thermalShut = true → c < 1200 → tblWf Output.reset s.out.outs = true → s.eng.halted = true →
      ∃ t, exec (.thermalRecover c) s = .next t ∧ t.pwr.thermalShut = false ∧ t.eng = s.eng
        ∧ (∀ k, k < 4 → (outGet t k).st = (outGet s k).st ∧ (outGet t k).faults = (outGet s k).faults + 1))
    ∧ (∀ c : Int, (s.pwr.thermalShut = false ∨ 1200 ≤ c) → exec (.thermalRecover c) s = .next s)

/-- R363 to R366, R379 to R381, R414, R70, R192, R143: a reset keeps NVM, and what retained RAM holds unless it is at power-on;
pins are sampled at the release; the loader's reference and its verdict on the image, with the cause of HARBOUR; chart slot
selection, which arms the detectors of the self-test; the self-test's results; the end of BOOT; and the relock of the fabric
PLL at CHART_SELECT now. A RESET command counts as reset cause 2 (Table 16-2). How the rails of POWER_ON and the measurements of
SELF_TEST_END come as operands is the model's (log entries 130 and 112). -/
def Obligations.StartStepsTakeEffect : Prop :=
  ∀ s : State,
    (∀ b u : Bool, ∃ t, exec (.powerOn true b u) s = .next t
      ∧ t = pwrMod (resetPart 0 s) (fun p => { p with ioB := b, vusb := u })
      ∧ t.pwr = { PowerState.reset with ioB := b, vusb := u } ∧ t.host = HostState.reset ∧ t.fw.jobs = []
      ∧ (s.fw.begun = false → t.fw.image = s.fw.image ∧ t.fw.keys = s.fw.keys ∧ t.fw.chartKey = s.fw.chartKey
        ∧ t.fw.counter = s.fw.counter ∧ t.hull.hours = (storedHull s.hull).hours))
    ∧ (∀ b u : Bool, exec (.powerOn false b u) s = .next (ioRails b u s)
      ∧ ∃ t, exec (.powerOn false b u) s = .next t ∧ t.pwr.ioB = b ∧ t.pwr.vusb = u ∧ t.pwr.dev = s.pwr.dev
        ∧ (u = false → t.usbA.st = 0 ∧ t.usbB.st = 0) ∧ (b = false → t.tw1.acked = false))
    ∧ (s.pwr.dev ≠ .off → s.pwr.dev ≠ .por →
      exec .resetNLow s = .next (resetPart 1 s)
      ∧ (∀ rail : Fin 2, exec (.supplyResetLevel rail) s = .next (resetPart (3 + rail.val) s))
      ∧ ∃ t, exec .resetNLow s = .next t ∧ t.pwr.dev = .por ∧ t.pwr.cause = 1 ∧ t.pwr.watchdog = s.pwr.watchdog
        ∧ t.pwr.ioB = s.pwr.ioB ∧ t.pwr.vusb = s.pwr.vusb ∧ t.host = HostState.reset ∧ t.cs.chart = none
        ∧ (s.fw.begun = false → t.fw.image = s.fw.image ∧ t.hull.hours = s.hull.hours
          ∧ t.cs.slotA = s.cs.slotA ∧ t.cs.slotB = s.cs.slotB))
    ∧ (s.pwr.dev ∈ [Dev.loader, Dev.harbour, Dev.boot, Dev.active, Dev.doze, Dev.test, Dev.recovery] →
      ∃ t, exec .watchdogExpire s = .next t ∧ t.pwr.dev = .por ∧ t.pwr.cause = 5
        ∧ t.pwr.watchdog = if s.pwr.settled then s.pwr.watchdog else min (s.pwr.watchdog + 1) 255)
    ∧ ((s.pwr.dev = .active ∨ s.pwr.dev = .test) →
      exec .watchdogCounterClear s = .next (pwrMod s (fun q => { q with watchdog := 0, settled := true })))
    ∧ (∀ (a b : BitVec 2) (c t x y : Bool), s.pwr.resetDue = false → s.pwr.dev = .por →
      exec (.resetRelease a b c t x y) s = .next (release a b c t x y s)
      ∧ ∃ u, exec (.resetRelease a b c t x y) s = .next u ∧ u.pwr.dev = .loader ∧ u.tw0.addr = twAddress 0 a
        ∧ u.tw1.addr = twAddress 1 b ∧ u.pwr.compat = c ∧ u.pwr.testEn = t)
    ∧ (∀ (a b : BitVec 2) (c t x y : Bool), s.pwr.resetDue = true → s.pwr.resetOther = false →
      exec (.resetRelease a b c t x y) s = .next (release a b c t x y (resetPart 2 s)))
    ∧ (∀ (a b : BitVec 2) (c t x y : Bool), s.pwr.resetDue = true → s.pwr.resetOther = true →
      ∃ k, 1 ≤ k ∧ k ≤ 5
        ∧ exec (.resetRelease a b c t x y) s = .next (release a b c t x y (resetPart k { s with free := s.free + 1 })))
    ∧ (∀ (a b : BitVec 2) (c t x y : Bool), s.pwr.resetDue = false → s.pwr.dev ≠ .por →
      exec (.resetRelease a b c t x y) s = .next s)
    ∧ (∀ edges : Nat, s.pwr.dev = .loader → s.pwr.refChosen = false →
      ∃ t, exec (.referenceSelect edges) s = .next t ∧ t.pwr.refChosen = true ∧ t.clk.mclk = decide (64 ≤ edges))
    ∧ (s.pwr.dev = .loader → s.pwr.refChosen = true → 3 ≤ s.pwr.watchdog →
      ∃ t, exec .imageCheckDone s = .next t ∧ t.pwr.dev = .harbour ∧ t.pwr.harbourCause = 4)
    ∧ (s.pwr.dev = .loader → s.pwr.refChosen = true → s.pwr.watchdog < 3 →
      (s.fw.image.aborted = true ∨ s.fw.image.dlDone = false) →
      ∃ t, exec .imageCheckDone s = .next t ∧ t.pwr.dev = .harbour ∧ t.pwr.harbourCause = 1)
    ∧ (s.pwr.dev = .loader → s.pwr.refChosen = true → s.pwr.watchdog < 3 → s.fw.image.aborted = false →
      s.fw.image.dlDone = true → s.fw.image.verified = true → imageWhole s = false →
      ∃ t, exec .imageCheckDone s = .next t ∧ t.pwr.dev = .harbour ∧ t.pwr.harbourCause = 1)
    ∧ (s.pwr.dev = .loader → s.pwr.refChosen = true → s.pwr.watchdog < 3 → s.fw.image.aborted = false →
      s.fw.image.dlDone = true → s.fw.image.verified = true → imageWhole s = true → imageSigned s = false →
      ∃ t, exec .imageCheckDone s = .next t ∧ t.pwr.dev = .harbour ∧ t.pwr.harbourCause = 2)
    ∧ (s.pwr.dev = .loader → s.pwr.refChosen = true → s.pwr.watchdog < 3 → s.fw.image.aborted = false →
      s.fw.image.dlDone = true → s.fw.image.verified = false → (imageWhole s && imageSigned s) = false →
      ∃ t, exec .imageCheckDone s = .next t ∧ t.pwr.dev = .harbour ∧ t.pwr.harbourCause = 3)
    ∧ (s.pwr.dev = .loader → s.pwr.refChosen = true → s.pwr.watchdog < 3 → s.fw.image.aborted = false →
      s.fw.image.dlDone = true → s.fw.image.verified = false → imageWhole s = true → imageSigned s = true →
      (nvmHeld s = false → ∃ t, exec .imageCheckDone s = .next t
        ∧ (t.pwr.dev = .boot ∧ t.fw.image.verified = true ∨ t.pwr.dev = .harbour ∧ t.pwr.harbourCause = 3))
      ∧ (nvmHeld s = true → ∃ t, exec .imageCheckDone s = .next t
        ∧ (t.pwr.dev = .boot ∧ t.fw.image.verified = false ∧ NvmJob.imageVerified ∈ t.fw.jobs
          ∨ t.pwr.dev = .harbour ∧ t.pwr.harbourCause = 3)))
    ∧ (s.pwr.dev = .loader → s.pwr.refChosen = true → s.pwr.watchdog < 3 → s.fw.image.aborted = false →
      s.fw.image.dlDone = true → s.fw.image.verified = true → imageWhole s = true → imageSigned s = true →
      ∃ t, exec .imageCheckDone s = .next t ∧ t.pwr.dev = .boot ∧ t.fw.probation = !s.fw.image.confirmed
        ∧ t.pwr.vcore = max s.pwr.vcore (storedHull s.hull).vcore)
    ∧ (s.pwr.dev = .boot → s.cs.chart = none → s.cs.missing = false →
      (slotOrder s = [] → exec .chartSlotSelect s = .next (armSelfTest (chartMissing s)))
      ∧ (∀ a, slotOrder s = [a] → exec .chartSlotSelect s = .next (armSelfTest (match slotFailure s a with
        | none => bootChart a s
        | some _ => chartMissing (markInvalid a s))))
      ∧ (∀ a b r, slotOrder s = a :: b :: r →
        exec .chartSlotSelect s = .next (armSelfTest (match slotFailure s a, slotFailure (markInvalid a s) b with
          | none, _ => bootChart a s
          | some f, none => post 0x0304 b 0 f .none (bootChart b (markInvalid a s))
          | some _, some _ => chartMissing (markInvalid b (markInvalid a s)))))
      ∧ (tblWf Capture.reset s.cap.chans = true → ∀ ch < 8, (capGet (armSelfTest s) ch).armed = true
        ∧ (capGet (armSelfTest s) ch).level = -2300 ∧ (capGet (armSelfTest s) ch).hold = 5)
      ∧ (armSelfTest s).cap.reliefArmed = true)
    ∧ (∀ (sar : BitVec 2) (fired : Bool) (w : Fin 3) f, s.pwr.dev = .boot → s.pwr.selfTested = false →
      s.cs.chart.isSome = true ∨ s.cs.missing = true → sarsTested s = true →
      f = maskBy 9 (fun m => if m = 8 then s.cap.reliefArmed && !fired else (capGet s m).armed) →
      ∃ t, exec (.selfTestEnd sar fired w) s = .next t ∧ t.pwr.selfTested = true ∧ t.pwr.failedChains = f
        ∧ t.pwr.selfTest = flag (sar != 0 || sarFailed s 0 || sarFailed s 1) + 2 * flag (f != 0) + 4 * flag (w != 0)
        ∧ (sar.getLsbD 0 = true → t.meas.ma.st = 3) ∧ (sar.getLsbD 1 = true → t.meas.mb.st = 3)
        ∧ (w = 2 → t.eng.halted = true))
    ∧ (∀ (sar : BitVec 2) (fired : Bool) (w : Fin 3), sarsTested s = false →
      exec (.selfTestEnd sar fired w) s = .next s)
    ∧ (∀ us : Nat, s.pwr.dev = .boot → s.cs.chart.isSome = true ∨ s.cs.missing = true → s.pwr.selfTested = true →
      exec (.bootComplete us) s = .next (bootComplete us s)
      ∧ ∃ t, exec (.bootComplete us) s = .next t ∧ t.pwr.dev = (if s.pwr.testEn then .test else .active)
        ∧ t.pwr.bootUs = min us 0xFFFFFFFF)
    ∧ (∀ q : Select, s.cs.select = some q → q.phase = 1 → q.relock = true → fabricStates s = true → s.eng.halted = false →
      s.pwr.thermalShut = false →
      ∃ t, exec .fabricPllRelock s = .next t ∧ t.eng.ticking = true
        ∧ t = { selectPlace q s.cs.near s with eng := { (selectPlace q s.cs.near s).eng with ticking := true } })

/-! ## Margin and the hull log (chapter 17) -/

/-- R387 to R401: what the commands of group 0x0D on speed and the hull log answer (places that the specification leaves
open are free within their bounds), the 1 ms interval with the margin, the VCORE, re-plan and SPEED_RISK rows of Table 17-2,
the re-plan itself, the hourly record with the daily and the weekly one that it brings, and the prediction with
HULL_HORIZON. -/
def Obligations.HullCommandsAndStepsTakeEffect : Prop :=
  (∀ (o : Issue) (p : List Byte) (s : State),
    (Accepted 0x0D03 o p noCheck s →
      exec (.speedStatus o p) s = answerOn 0x0D03 o s 0 (speedStatusResult (ctxNum o.ctx) (takeLog s))
        { takeLog s with hull := { s.hull with smallest := tset 0xFFFF s.hull.smallest (ctxNum o.ctx) 0xFFFF } })
    ∧ (Accepted 0x0D03 o p noCheck s → ∀ si r, s.cs.chart.isSome = true → s.hull.sis = si :: r →
      exec (.speedStatus o p) s = answerOn 0x0D03 o s 0
        (b2 s.hull.window ++ b1 s.hull.limiting ++ b1 s.pwr.vcore ++ b2 s.hull.vcoreMv ++ b1 (flag s.cs.reduced)
          ++ b1 (flag s.hull.replanFlag.isSome + 2 * flag (decide (s.hull.since102 < 10000))) ++ b4 (requirement s false 0)
          ++ (List.range 14).flatMap (fun m => b2 (si.getD m 0)) ++ b2 (tget 0xFFFF s.hull.smallest (ctxNum o.ctx)) ++ [0, 0])
        { takeLog s with hull := { s.hull with smallest := tset 0xFFFF s.hull.smallest (ctxNum o.ctx) 0xFFFF } })
    ∧ (Accepted 0x0D04 o p noCheck s →
      ∃ stress used, (stress = s.hull.stress / stressUnit ∨ stress = s.hull.stress / stressUnit + 1)
        ∧ (used = s.hull.stress * 10000 / stressRating ∨ used = s.hull.stress * 10000 / stressRating + 1)
        ∧ exec (.hullSummary o p) s = answerOn 0x0D04 o s 0
          (b4 s.hull.hours ++ b4 stress ++ b2 used ++ b1 (storedHull s.hull).vcore ++ b1 (flag s.hull.restarted)
            ++ b4 (tget 0 s.hull.brownCounts 0) ++ b4 (tget 0 s.hull.brownCounts 1) ++ b4 (tget 0 s.hull.brownCounts 2)
            ++ b4 s0 ++ b2 kv ++ b2 kt
            ++ (List.range 8).flatMap (fun r => b2 (min (regionErases s.hull.erases r) 0xFFFF))
            ++ b4 s.hull.horizon) (takeLog s))
    ∧ (Accepted 0x0D05 o p (hullReadCheck p) s →
      exec (.hullRead o p) s = answerOn 0x0D05 o s 0
        (b1 (min (u8 p 1) ((hullRing s (1 + u8 p 0)).length - u16 p 2)) ++ [0, 0, 0]
          ++ (((hullRing s (1 + u8 p 0)).drop (u16 p 2)).take (u8 p 1)).flatMap hullRecordBytes) (takeLog s))
    ∧ (Accepted 0x0D06 o p noCheck s →
      exec (.hullPredict o p) s = answerOn 0x0D06 o s 0 (hullPredictResult (takeLog s)) (takeLog s))
    ∧ (Accepted 0x0D06 o p noCheck s → ∀ q, q = s.hull.prediction → q.n ≠ 0 →
      exec (.hullPredict o p) s = answerOn 0x0D06 o s 0
        (b1 q.st ++ [0] ++ b2 q.points ++ b4 s.hull.hours ++ b4 (if q.st = 1 then q.hour else 0xFFFFFFFF)
          ++ b4 (if q.st = 1 then q.early else 0xFFFFFFFF) ++ b4 (if q.st = 1 then q.late else 0xFFFFFFFF) ++ b2 q.n
          ++ b2 q.sigma ++ sb2 q.tp ++ [0, 0] ++ b4 q.target) (takeLog s))
    ∧ (Accepted 0x0D07 o p (hullSetHorizonCheck p) s →
      exec (.hullSetHorizon o p) s = .next (askNvm (.hullSummary (.reply o 0x0D07 s.host.log) (some (u32 p 0))) (takeLog s)))
    ∧ (Accepted 0x0D08 o p noCheck s →
      exec (.hullFlush o p) s = .next (askNvm (.hullSummary (.reply o 0x0D08 s.host.log) none) (takeLog s))))
  ∧ ∀ s : State,
    (∀ (l : List Nat) (a b : Int) (mv ua : Nat), accounts s = true → s.host.absent = false →
      ∃ t, exec (.marginInterval l a b mv ua) s = .next t
        ∧ t.hull.sis = ((List.range 14).map (fun m => l.getD m 0) :: s.hull.sis).take 10 ∧ t.hull.vcoreMv = mv
        ∧ t.hull.span.intervals = s.hull.span.intervals + 1
        ∧ (s.cs.chart = none → t.pwr.vcore = s.pwr.vcore)
        ∧ (s.cs.chart.isSome = true →
          t.hull.window = (t.hull.sis.map (fun x => (marginOf s false x).1)).foldl min 0xFFFF
          ∧ t.hull.limiting = (marginOf s false ((List.range 14).map (fun m => l.getD m 0))).2
          ∧ (t.hull.window < 1300 → s.pwr.vcore < 20 → 19 ≤ s.hull.sinceStep →
            t.pwr.vcore = s.pwr.vcore + 1 ∧ t.hull.sinceStep = 0)
          ∧ (t.hull.window < 1300 → (20 ≤ s.pwr.vcore ∨ s.hull.sinceStep < 19) → t.pwr.vcore = s.pwr.vcore)
          ∧ (1300 ≤ t.hull.window → t.hull.window < 1450 → t.pwr.vcore = s.pwr.vcore)
          ∧ (1450 ≤ t.hull.window → 59999 ≤ s.hull.since145 → 8 < s.pwr.vcore → s.cs.reduced = false →
            59999 ≤ s.hull.sinceStep → t.pwr.vcore = s.pwr.vcore - 1)
          ∧ (t.hull.window < 1150 → s.pwr.vcore = 20 → s.cs.reduced = false → t.hull.limiting ≤ 10 →
            ((s.cs.chart.map (·.hasReduced)).getD false = true → s.cs.change = none → t.hull.replanDue = true)
            ∧ ((s.cs.chart.map (·.hasReduced)).getD false = false → t.hull.replanPosted = true))
          ∧ (t.hull.window < 1150 → s.pwr.vcore = 20 → s.cs.reduced = false → 10 < t.hull.limiting →
            t.hull.replanPosted = true)
          ∧ ((marginOf s false ((List.range 14).map (fun m => l.getD m 0))).1 < 1020 →
            (s.hull.sinceRisk < 9999 → t.hull.riskCount = min (s.hull.riskCount + 1) 0xFFFF)
            ∧ (9999 ≤ s.hull.sinceRisk → t.hull.riskCount = 0 ∧ t.hull.sinceRisk = 0 ∧ bit t.hull.span.flags 3 = true))
          ∧ (1020 ≤ (marginOf s false ((List.range 14).map (fun m => l.getD m 0))).1 →
            t.hull.riskCount = s.hull.riskCount)))
    ∧ (∀ (l : List Nat) (a b : Int) (mv ua : Nat), (s.pwr.dev = .off ∨ s.pwr.dev = .por ∨ s.pwr.dev = .sleep) →
      exec (.marginInterval l a b mv ua) s = .next s)
    ∧ (∀ (l : List Nat) (a b : Int) (mv ua : Nat), s.pwr.dev ≠ .off → s.pwr.dev ≠ .por → s.pwr.dev ≠ .sleep →
      (s.host.absent = true ∨ accounts s = false) →
      exec (.marginInterval l a b mv ua) s = .next { s with hull := { s.hull with
        sis := ((List.range 14).map (fun m => l.getD m 0) :: s.hull.sis).take 10, vcoreMv := mv } })
    ∧ (cpRuns s = true → s.hull.replanDue = true → fabricStates s = true → (s.cs.chart.map (·.hasReduced)).getD false = true →
      s.cs.reduced = false → s.cs.change = none → s.cs.select = none →
      exec .replan s = .next (startVariant true 1 s.host.log none (postReplan 1 s.host.log (takeLog s)))
      ∧ ∃ t, exec .replan s = .next t ∧ t.hull.replanDue = false)
    ∧ (s.hull.replanDue = false ∨ s.cs.reduced = true ∨ (s.cs.chart.map (·.hasReduced)).getD false = false →
      exec .replan s = .next s)
    ∧ (s.host.absent = false → (accounts s = true ∨ s.pwr.dev = .sleep) → s.hull.sinceDaily < 23 →
      ∃ t r, exec .hullHourly s = .next t ∧ t.hull.hours = s.hull.hours + 1 ∧ t.hull.span = HullSpan.start
        ∧ t.hull.sinceDaily = s.hull.sinceDaily + 1
        ∧ t.fw.jobs = s.fw.jobs ++ [.hullRecord r, .hullSummary .own none]
        ∧ r = hourlyRecord { s with hull := { s.hull with hours := s.hull.hours + 1 } })
    ∧ (s.host.absent = false → (accounts s = true ∨ s.pwr.dev = .sleep) → s.hull.sinceDaily = 23 → s.hull.sinceWeekly < 6 →
      ∃ t r d, exec .hullHourly s = .next t ∧ t.hull.sinceDaily = 0 ∧ t.hull.sinceWeekly = s.hull.sinceWeekly + 1
        ∧ t.fw.jobs = s.fw.jobs ++ [.hullRecord r, .hullRecord d, .hullSummary .own none]
        ∧ r = hourlyRecord { s with hull := { s.hull with hours := s.hull.hours + 1 } } ∧ d.kind = 2
        ∧ d.endHour = s.hull.hours + 1)
    ∧ (s.host.absent = false → (accounts s = true ∨ s.pwr.dev = .sleep) → s.hull.sinceDaily = 23 → s.hull.sinceWeekly = 6 →
      ∃ t r d w, exec .hullHourly s = .next t ∧ t.hull.sinceDaily = 0 ∧ t.hull.sinceWeekly = 0
        ∧ t.fw.jobs = s.fw.jobs ++ [.hullRecord r, .hullRecord d, .hullRecord w, .hullSummary .own none]
        ∧ r = hourlyRecord { s with hull := { s.hull with hours := s.hull.hours + 1 } } ∧ d.kind = 2 ∧ w.kind = 3
        ∧ w.endHour = s.hull.hours + 1)
    ∧ (∀ q u, s.hull.predictDue = true → s.host.absent = false → accounts s = true → q = predict s →
      u = { s with hull := { s.hull with prediction := q, predictDue := false }, free := s.free + 8 } →
      ∃ t, exec .hullPredictionRecompute s = .next t ∧ t.hull.prediction = q ∧ t.hull.predictDue = false
        ∧ (q.n = 0 → t = u)
        ∧ (q.n ≠ 0 → s.hull.horizon + 720 < q.early - s.hull.hours → t = { u with hull := { u.hull with horizonArmed := true } })
        ∧ (q.n ≠ 0 → q.st = 1 → q.early - s.hull.hours ≤ s.hull.horizon → s.hull.horizonArmed = true →
          t = post 0x0D08 0 0 (q.early - s.hull.hours) .none { u with hull := { u.hull with horizonArmed := false } }))

/-! ## Firmware, settings and non-volatile memory (chapter 18) -/

/-- The commands of group 0x0E (Tables 18-4 to 18-12, R411 to R418, R423 to R431): what they answer and do, each data block
that a chunk completes, block 0 included, and what HARBOUR answers only when the NVM is done. An image with no accepted
block 0, a start without a gangway block and a settings store without a copy leave fields of the reads open. -/
def Obligations.FirmwareCommandsTakeEffect : Prop :=
  ∀ (o : Issue) (p : List Byte) (s : State),
    (Accepted 0x0E01 o p noCheck s →
      exec (.fwStatus o p) s = answerOn 0x0E01 o s 0 (fwStatusResult (takeLog s)) (takeLog s))
    ∧ (Accepted 0x0E01 o p noCheck s → s.fw.session.header ≠ [] → s.fw.gangwayOutcome ≠ 0xFF →
      exec (.fwStatus o p) s = answerOn 0x0E01 o s 0
        (b1 s.fw.session.st ++ b1 (flag s.fw.probation + 2 * flag s.fw.image.dlDone + 4 * flag s.fw.image.verified
            + 8 * flag s.fw.image.confirmed + 16 * flag s.fw.autoConfirm + 32 * flag s.fw.suppressed)
          ++ b1 ((s.fw.session.owner.map ctxNum).getD 0xFF) ++ b1 (if s.pwr.dev = .harbour then s.pwr.harbourCause else 0)
          ++ b4 s.fw.running.fwVersion ++ b4 s.fw.running.security ++ b4 s.fw.counter ++ b2 (blockCount s.fw.session.header)
          ++ b2 s.fw.session.written.length ++ b2 s.fw.session.firstBad ++ b2 (min (s.fw.healthy / 1000) 0xFFFF)
          ++ b4 (regionVersion s) ++ b1 s.fw.counterLeft ++ b1 s.fw.gangwayOutcome ++ [0, 0]) (takeLog s))
    ∧ (Accepted 0x0E02 o p (fwBeginCheck o) s →
      exec (.fwBegin o p) s = answerOn 0x0E02 o s 0 [] (postFwState 0 s.host.log
        (sessMod (takeLog s) (fun _ => { Session.idle with st := 1, owner := some o.ctx }))))
    ∧ (Accepted 0x0E03 o p (fwWriteDataCheck o p) s → completesBlock s p = false →
      exec (.fwWriteData o p) s = answerOn 0x0E03 o s 0 (b2 s.fw.session.written.length ++ [0, 0])
        (sessMod (takeLog s) (fun q => { q with chunks := tset [] q.chunks (u16 p 0 * 8 + u8 p 2) (bytesAt p 8 512) })))
    ∧ (Accepted 0x0E03 o p (fwWriteDataCheck o p) s → completesBlock s p = true → s.fw.session.st = 2 →
      s.pwr.dev ≠ .harbour →
      ∃ b t, b = blockChunks (sessMod s (fun q => { q with
          chunks := tset [] q.chunks (u16 p 0 * 8 + u8 p 2) (bytesAt p 8 512) })) (u16 p 0)
        ∧ exec (.fwWriteData o p) s = .next t ∧ t.fw.session.written = s.fw.session.written ∧ t.fw.session.st = 2
        ∧ (u16 p 0 ≠ 0 → crc32c b = blockEntry s.fw.session.header (u16 p 0) →
          t.fw.session.jobs = s.fw.session.jobs ++ [{ block := u16 p 0, bytes := b, asker := .host (waiterOf o s) }]
          ∧ Replied 0x0E03 o s 10 (b2 s.fw.session.written.length ++ [0, 0]) t)
        ∧ (u16 p 0 ≠ 0 → crc32c b ≠ blockEntry s.fw.session.header (u16 p 0) → t.fw.session.jobs = s.fw.session.jobs
          ∧ Replied 0x0E03 o s 5 (b2 s.fw.session.written.length ++ [1, 0]) t)
        ∧ (u16 p 0 = 0 → b = s.fw.session.header →
          t.fw.session.jobs = s.fw.session.jobs ++ [{ block := 0, bytes := b, asker := .host (waiterOf o s) }]
          ∧ Replied 0x0E03 o s 10 (b2 s.fw.session.written.length ++ [0, 0]) t)
        ∧ (u16 p 0 = 0 → b ≠ s.fw.session.header → t.fw.session.jobs = s.fw.session.jobs
          ∧ Replied 0x0E03 o s 5 (b2 s.fw.session.written.length ++ [1, 0]) t))
    ∧ (Accepted 0x0E03 o p (fwWriteDataCheck o p) s → completesBlock s p = true → s.fw.session.st = 1 → ∀ b w,
      w = sessMod (takeLog s) (fun q => { q with chunks := tset [] q.chunks (u16 p 0 * 8 + u8 p 2) (bytesAt p 8 512) }) →
      b = blockChunks w (u16 p 0) →
      (∀ st, headerCheck (dropChunks (u16 p 0) w) b = some st → ∃ t, exec (.fwWriteData o p) s = .next t
        ∧ t.fw.session = Session.idle ∧ Replied 0x0E03 o s st [] t)
      ∧ (headerCheck (dropChunks (u16 p 0) w) b = none → s.pwr.dev ≠ .harbour → ∃ t, exec (.fwWriteData o p) s = .next t
        ∧ t.fw.session.st = 2 ∧ t.fw.session.header = b ∧ t.fw.session.written = []
        ∧ t.fw.session.jobs = [{ block := 0, bytes := b, asker := .host (waiterOf o s) }]
        ∧ t.fw.image.dlDone = false ∧ t.fw.image.verified = false ∧ t.fw.image.confirmed = false
        ∧ t.fw.image.aborted = false ∧ Replied 0x0E03 o s 10 [0, 0, 0, 0] t)
      ∧ (headerCheck (dropChunks (u16 p 0) w) b = none → s.pwr.dev = .harbour → ∃ t, exec (.fwWriteData o p) s = .next t
        ∧ t.fw.session.st = 2 ∧ t.fw.session.header = b
        ∧ t.fw.session.jobs = [{ block := 0, bytes := b, asker := .reply o 0x0E03 s.host.log }]))
    ∧ (Accepted 0x0E03 o p (fwWriteDataCheck o p) s → completesBlock s p = true → s.fw.session.st = 2 →
      s.pwr.dev = .harbour → u16 p 0 ≠ 0 → ∀ b, b = blockChunks (sessMod s (fun q => { q with
          chunks := tset [] q.chunks (u16 p 0 * 8 + u8 p 2) (bytesAt p 8 512) })) (u16 p 0) →
      crc32c b = blockEntry s.fw.session.header (u16 p 0) → ∃ t, exec (.fwWriteData o p) s = .next t
        ∧ t.fw.session.jobs = s.fw.session.jobs ++ [{ block := u16 p 0, bytes := b, asker := .reply o 0x0E03 s.host.log }])
    ∧ (Accepted 0x0E04 o p (fwVerifyCheck o) s → s.pwr.dev ≠ .harbour →
      exec (.fwVerify o p) s = answerOn 0x0E04 o s 10 [] (postFwState 0 s.host.log
        (sessMod (takeLog s) (fun q => { q with st := 4, verifyFor := .host (waiterOf o s), firstBad := 0xFFFF }))))
    ∧ (Accepted 0x0E04 o p (fwVerifyCheck o) s → s.pwr.dev = .harbour →
      exec (.fwVerify o p) s = .next (postFwState 0 s.host.log
        (sessMod (takeLog s) (fun q => { q with st := 4, verifyFor := .reply o 0x0E04 s.host.log, firstBad := 0xFFFF }))))
    ∧ (Accepted 0x0E05 o p (fwActivateCheck o) s → s.pwr.dev = .harbour →
      exec (.fwActivate o p) s = answerOn 0x0E05 o s 0 []
        { takeLog s with pwr := { s.pwr with resetDue := true, resetOther := true } })
    ∧ (Accepted 0x0E05 o p (fwActivateCheck o) s → s.pwr.dev ≠ .harbour →
      exec (.fwActivate o p) s = answerOn 0x0E05 o s 10 []
        (fwMod (takeLog s) (fun f => { f with activate := some (some (waiterOf o s), s.host.log) })))
    ∧ (Accepted 0x0E06 o p (fwConfirmCheck o) s →
      exec (.fwConfirm o p) s = if s.fw.probation
        then answerOn 0x0E06 o s 10 [] (askNvm (.confirm (some (waiterOf o s)) s.host.log) (takeLog s))
        else answerOn 0x0E06 o s 0 [] (takeLog s))
    ∧ (Accepted 0x0E07 o p (fwAbortCheck o) s →
      (s.fw.session.st = 0 ∨ s.fw.session.st = 6 → exec (.fwAbort o p) s = answerOn 0x0E07 o s 0 [] (takeLog s))
      ∧ (s.fw.session.st = 1 → exec (.fwAbort o p) s = answerOn 0x0E07 o s 0 []
        (postFwState 8 s.host.log (sessMod (takeLog s) (fun _ => Session.idle))))
      ∧ (2 ≤ s.fw.session.st → s.fw.session.st ≠ 6 → exec (.fwAbort o p) s = answerOn 0x0E07 o s 0 []
        (postFwState 8 s.host.log (fwMod (dropSessionWork (takeLog s)) (fun f => { f with
          image := { f.image with aborted := true }, session := { Session.idle with st := 6 } }))))
      ∧ (s.fw.session.st = 2 ∨ s.fw.session.st = 3 ∨ s.fw.session.st = 5 → s.fw.session.jobs = [] → s.fw.activate = none →
        exec (.fwAbort o p) s = answerOn 0x0E07 o s 0 [] (postFwState 8 s.host.log (fwMod (takeLog s) (fun f => { f with
          image := { f.image with aborted := true }, session := { Session.idle with st := 6 } })))))
    ∧ (Accepted 0x0E08 o p noCheck s →
      exec (.settingsStatus o p) s = answerOn 0x0E08 o s 0 (settingsStatusResult (takeLog s)) (takeLog s))
    ∧ (Accepted 0x0E08 o p noCheck s → s.fw.setCopy ≠ 0xFF →
      exec (.settingsStatus o p) s = answerOn 0x0E08 o s 0
        (b1 s.fw.setState ++ b1 s.fw.setCopy ++ b2 (settingsCopy s s.fw.setCopy).format
          ++ b4 (settingsCopy s s.fw.setCopy).sequence ++ b4 (settingsCopy s s.fw.setCopy).chartId ++ b2 s.fw.applied
          ++ b2 s.fw.skipped ++ b2 s.fw.running.settingsFormat ++ b2 s.fw.running.settingsMin) (takeLog s))
    ∧ (Accepted 0x0E09 o p (settingsSaveCheck o p) s →
      exec (.settingsSave o p) s = answerOn 0x0E09 o s 10 []
        (askNvm (.settingsSave (waiterOf o s) (capturedItems (takeLog s) (u8 p 0))) (takeLog s)))
    ∧ (Accepted 0x0E0A o p (settingsDiscardOldCheck o) s →
      exec (.settingsDiscardOld o p) s = answerOn 0x0E0A o s 10 [] (askNvm (.settingsErase (waiterOf o s)) (takeLog s)))
    ∧ (Accepted 0x0E0B o p (settingsEraseCheck o) s →
      exec (.settingsErase o p) s = answerOn 0x0E0B o s 10 [] (askNvm (.settingsErase (waiterOf o s)) (takeLog s)))
    ∧ (Accepted 0x0E0C o p (setAutoConfirmCheck o p) s →
      exec (.setAutoConfirm o p) s = answerOn 0x0E0C o s 0 []
        (fwMod (takeLog s) (fun f => { f with autoConfirm := u8 p 0 == 1 })))
    ∧ (Accepted 0x0E0D o p noCheck s →
      exec (.keyStatus o p) s = answerOn 0x0E0D o s 0
        ((List.range 4).flatMap (fun n =>
            b1 (if (vendorKey s n).isNone then 0 else if bit s.fw.revoked n then 2 else 1))
          ++ b1 (flag s.fw.chartKey.isSome) ++ [0, 0, 0]
          ++ ((s.fw.chartKey.map (fun k => sha256 (keyBytes 32 k.1 ++ keyBytes 32 k.2))).getD (List.replicate 32 0)))
        (takeLog s))
    ∧ (Accepted 0x0E0E o p (chartKeyProgramCheck p) s →
      exec (.chartKeyProgram o p) s = answerOn 0x0E0E o s 10 []
        (askNvm (.chartKey (waiterOf o s) (beN p 0 32) (beN p 32 32)) (takeLog s)))

/-- R404, R413, R416, R418 to R424, R427: steps of NVM writes end, and with the last of them their job, well or with
NVM_ERROR; blocks are written, the last of them ends the download; VERIFY ends; an activation enters its gangway or times
out; the absence ends in the new image or a reset; a sequencer reloads at its safe point; PROBATION ends by itself. What a
ring's record and its sectors do is the model's (log entries 124 and 132). -/
def Obligations.NvmAndActivationStepsTakeEffect : Prop :=
  ∀ s : State,
    (∀ k st rest j r, s.fw.begun = true → s.fw.steps = .erase k :: st :: rest → s.fw.jobs = j :: r →
      exec (.nvmSectorErase true) s = .next (flushReplies (nvmStart (fwMod (eraseEffect k s) (fun f => { f with
        steps := st :: rest, begun := false })))))
    ∧ (∀ k j r, s.fw.begun = true → s.fw.steps = [.erase k] → s.fw.jobs = j :: r → ∀ ok : Bool,
      exec (.nvmSectorErase ok) s = .next (flushReplies (nvmStart ((if ok then jobDone j else jobFailed j)
        (fwMod (eraseEffect k s) (fun f => { f with jobs := r, steps := [], begun := false }))))))
    ∧ (∀ k rest j r, s.fw.begun = true → s.fw.steps = .erase k :: rest → s.fw.jobs = j :: r →
      exec (.nvmSectorErase false) s = .next (flushReplies (nvmStart (jobFailed j
        (fwMod (eraseEffect k s) (fun f => { f with jobs := r, steps := [], begun := false }))))))
    ∧ (∀ st rest j r, s.fw.begun = true → s.fw.steps = .row :: st :: rest → s.fw.jobs = j :: r →
      exec (.nvmRowWriteDone true) s = .next (flushReplies (nvmStart (fwMod s (fun f => { f with
        steps := st :: rest, begun := false })))))
    ∧ (∀ j r, s.fw.begun = true → s.fw.steps = [.row] → s.fw.jobs = j :: r → ∀ ok : Bool,
      exec (.nvmRowWriteDone ok) s = .next (flushReplies (nvmStart ((if ok then jobDone j else jobFailed j)
        (fwMod s (fun f => { f with jobs := r, steps := [], begun := false }))))))
    ∧ (∀ w items r, s.fw.begun = true → s.fw.steps = [.save] → s.fw.jobs = .settingsSave w items :: r →
      exec (.settingsSaveDone true) s = .next (flushReplies (nvmStart (complete w 0
        (fwMod (copyWritten items s) (fun f => { f with jobs := r, steps := [], begun := false })))))
      ∧ exec (.settingsSaveDone false) s = .next (flushReplies (nvmStart (complete w stNvmError
        (fwMod s (fun f => { f with jobs := r, steps := [], begun := false }))))))
    ∧ (∀ w log st rest r, s.fw.begun = true → s.fw.steps = .save :: st :: rest → s.fw.jobs = .confirm w log :: r →
      exec (.settingsSaveDone true) s = .next (flushReplies (nvmStart (fwMod
        (copyWritten (settingsCopy s s.fw.setCopy).items s) (fun f => { f with steps := st :: rest, begun := false })))))
    ∧ (∀ w x y, jobDone (.settingsErase w) s = complete w 0 (copiesErased s)
      ∧ jobDone (.chartKey w x y) s = complete w 0 (fwMod s (fun f => { f with chartKey := some (x, y) }))
      ∧ jobFailed (.settingsErase w) s = complete w stNvmError s ∧ jobFailed (.chartKey w x y) s = complete w stNvmError s)
    ∧ (∀ w slot len st, jobDone (.chartErase w slot len) s = chartEraseDone w slot len s
      ∧ jobDone (.chartClose w slot st) s = chartCloseDone w slot st s
      ∧ jobFailed (.chartErase w slot len) s = complete w stNvmError s
      ∧ jobFailed (.chartClose w slot st) s = chartCloseDone w slot stNvmError s)
    ∧ (∀ w log, s.fw.probation = true →
      ∃ t, jobDone (.confirm w log) s = t ∧ t.fw.probation = false ∧ t.fw.image.confirmed = true
        ∧ t.fw.revoked = s.fw.revoked ||| s.fw.running.revoke % 16
        ∧ (s.fw.counter < s.fw.running.security → 0 < s.fw.counterLeft → t.fw.counter = s.fw.running.security
          ∧ t.fw.counterLeft = s.fw.counterLeft - 1))
    ∧ (∀ a h, (storedHull (jobDone (.hullSummary a h) s).hull).hours = s.hull.hours
      ∧ (storedHull (jobDone (.hullSummary a h) s).hull).stress = s.hull.stress
      ∧ (storedHull (jobDone (.hullSummary a h) s).hull).horizon = h.getD s.hull.horizon
      ∧ (storedHull (jobDone (.hullSummary a h) s).hull).seq = (storedHull s.hull).seq + 1)
    ∧ ((jobDone .imageVerified s).fw.image.verified = true ∧ jobDone .counter s = fwMod s advanceCounter)
    ∧ (∀ n, (chartSlot s n).state = 0x3C → (chartSlot (jobDone (.slotInvalid n) s) n).state = 0)
    ∧ (∀ r : HullRecord, r.kind = 1 → (jobDone (.hullRecord r) s).hull.hourly = (r :: s.hull.hourly).take 1024)
    ∧ (∀ r : HullRecord, r.kind = 2 → (jobDone (.hullRecord r) s).hull.daily = (r :: s.hull.daily).take 2048
      ∧ (r.whole = true → (jobDone (.hullRecord r) s).hull.predictDue = true))
    ∧ (∀ r : HullRecord, r.kind = 3 → (jobDone (.hullRecord r) s).hull.weekly = (r :: s.hull.weekly).take 512)
    ∧ (∀ j r, s.fw.session.jobs = j :: r → nvmHeld s = false → s.fw.session.st = 2 →
      (∀ k < blockCount s.fw.session.header, k = j.block ∨ k ∈ s.fw.session.written) →
      ∃ t, exec (.fwBlockWriteDone false false) s = .next t ∧ t.fw.session.st = 3 ∧ t.fw.image.dlDone = true
        ∧ t.pwr.watchdog = 0)
    ∧ (∀ j r (a b : Bool), s.fw.session.jobs = j :: r → nvmHeld s = false →
      ∃ t, exec (.fwBlockWriteDone a b) s = .next t ∧ t.fw.session.jobs = r
        ∧ t.fw.session.written = (if a && b then without j.block s.fw.session.written else withElem j.block s.fw.session.written)
        ∧ ((a && b) = false → tblWf [] s.fw.image.blocks = true → tget [] t.fw.image.blocks j.block = j.bytes)
        ∧ ((a && b) = true → t.fw.image.blocks = s.fw.image.blocks))
    ∧ (∀ bad : List Nat, s.fw.session.st = 4 → nvmHeld s = false →
      (failingBlocks s bad = [] → ∃ t, exec (.fwVerifyDone bad) s = .next t ∧ t.fw.session.st = 5
        ∧ t.fw.image.verified = true)
      ∧ (∀ k r, failingBlocks s bad = k :: r → ∃ t, exec (.fwVerifyDone bad) s = .next t ∧ t.fw.session.st = 2
        ∧ t.fw.session.firstBad = k ∧ t.fw.image.verified = s.fw.image.verified
        ∧ t.fw.session.written = s.fw.session.written.filter (fun x => !decide (x ∈ k :: r))))
    ∧ (∀ (w : Option Waiter) (log : Nat) (e : Bool), s.fw.activate = some (w, log) → s.fw.session.st = 5 → cpRuns s = true →
      activationClear s = true →
      ∃ t, exec (.fwActivateProceed e) s = .next t ∧ t.host.absent = true ∧ t.fw.gangway = some (gangwayBlock s)
        ∧ t.tw0.busy = true ∧ t.tw1.busy = true)
    ∧ (∀ (w : Option Waiter) (log : Nat), s.fw.activate = some (w, log) → s.fw.session.st = 5 → cpRuns s = true →
      activationClear s = false →
      exec (.fwActivateProceed false) s = .next s ∧ exec (.fwActivateProceed true) s = .next (postFwState 9 log (tellActivate w stTimeout
        (fwMod s (fun f => { f with activate := none })))))
    ∧ (∀ (g : Gangway) (w : Option Waiter) (log : Nat), s.fw.gangway = some g → s.fw.activate = some (w, log) →
      s.host.absent = true →
      exec (.gangwayTake true true) s = .next (endAbsence g w log s)
      ∧ exec (.gangwayTake true false) s = .next (resetOpen s) ∧ exec (.gangwayTake false true) s = .next (resetOpen s)
      ∧ ∃ t, exec (.gangwayTake true true) s = .next t ∧ t.fw.probation = true
        ∧ t.fw.running = imageInfo (storedHeader s) ∧ t.fw.gangway = none)
    ∧ (∀ q : Fin 4, bit s.fw.reload q.val = true → safePoint q.val s = true →
      exec (.sequencerReload q) s = .next (fwMod s (fun f => { f with
        reload := f.reload - 2 ^ q.val, seqCode := tset 0 f.seqCode q.val f.running.fwVersion })))
    ∧ (∀ q : Fin 4, bit s.fw.reload q.val = false ∨ safePoint q.val s = false → exec (.sequencerReload q) s = .next s)
    ∧ (s.fw.probation = true → cpRuns s = true → (s.pwr.dev = .active ∨ s.pwr.dev = .doze) → s.pwr.shelter = false →
      s.fw.autoConfirm = true → s.fw.suppressed = false → confirming s = false →
      exec .probationHealthy s = .next (askNvm (.confirm none s.host.log)
        (takeLog (fwMod s (fun f => { f with healthy := max f.healthy 60000 })))))
    ∧ (s.fw.probation = true → cpRuns s = true → (s.pwr.dev = .active ∨ s.pwr.dev = .doze) → s.pwr.shelter = false →
      (s.fw.autoConfirm = false ∨ s.fw.suppressed = true ∨ confirming s = true) →
      exec .probationHealthy s = .next (fwMod s (fun f => { f with healthy := max f.healthy 60000 })))

end Statements
end

