-- ==== Sys2Proof/Laws/Tbl.lean ====
section
/-! SUPPORT. The laws of sparse tables: a read after a write gives the value written, a write leaves every
other key alone, and the canonical form is kept. -/

namespace Sys2Proof.Machine

variable {α : Type} [DecidableEq α]

theorem tblWfFrom_mono (d : α) {lo hi : Nat} (h : lo ≤ hi) {t : Tbl α} (w : tblWfFrom d hi t = true) :
    tblWfFrom d lo t = true := by
  cases t with
  | nil => rfl
  | cons e r =>
    obtain ⟨k, v⟩ := e
    simp only [tblWfFrom, Bool.and_eq_true, decide_eq_true_eq] at *
    exact ⟨⟨by omega, w.1.2⟩, w.2⟩

/-- A key below the bound reads the default. -/
theorem tget_below (d : α) {lo i : Nat} {t : Tbl α} (w : tblWfFrom d lo t = true) (h : i < lo) : tget d t i = d := by
  cases t with
  | nil => rfl
  | cons e r =>
    obtain ⟨k, v⟩ := e
    simp only [tblWfFrom, Bool.and_eq_true, decide_eq_true_eq] at w
    have : i < k := by omega
    simp [tget, this, Nat.ne_of_lt this]

theorem tget_tset_same_ne (d : α) (t : Tbl α) (i : Nat) {v : α} (h : v ≠ d) : tget d (tset d t i v) i = v := by
  induction t with
  | nil => simp [tset, h, tget]
  | cons e r ih =>
    obtain ⟨k, x⟩ := e
    simp only [tset, h, if_false]
    split
    · simp [tget]
    · split
      · simp [tget]
      · rename_i h1 h2
        simp [tget, h1, h2, ih]

/-- A read after a write to the same key gives the value written. -/
theorem tget_tset_same (d : α) {t : Tbl α} (w : tblWf d t = true) (i : Nat) (v : α) :
    tget d (tset d t i v) i = v := by
  by_cases h : v = d
  · subst h
    unfold tblWf at w
    generalize 0 = lo at w
    induction t generalizing lo with
    | nil => simp [tset, tget]
    | cons e r ih =>
      obtain ⟨k, x⟩ := e
      simp only [tblWfFrom, Bool.and_eq_true, decide_eq_true_eq] at w
      simp only [tset, if_true]
      split
      · rename_i h1
        simp [tget, h1, Nat.ne_of_lt h1]
      · split
        · rename_i h2
          exact tget_below v w.2 (by omega)
        · rename_i h1 h2
          simp [tget, h1, h2, ih _ w.2]
  · exact tget_tset_same_ne d t i h

/-- A write leaves every other key alone. -/
theorem tget_tset_other (d : α) {t : Tbl α} (w : tblWf d t = true) {i j : Nat} (h : j ≠ i) (v : α) :
    tget d (tset d t i v) j = tget d t j := by
  unfold tblWf at w
  generalize 0 = lo at w
  induction t generalizing lo with
  | nil =>
    by_cases hv : v = d <;> simp [tset, hv, tget, h]
  | cons e r ih =>
    obtain ⟨k, x⟩ := e
    simp only [tblWfFrom, Bool.and_eq_true, decide_eq_true_eq] at w
    simp only [tset]
    split
    · rename_i h1
      split
      · rfl
      · by_cases hj : j < i
        · have : j < k := by omega
          simp [tget, h, hj, this, Nat.ne_of_lt this]
        · simp [tget, h, hj]
    · split
      · rename_i h1 h2
        subst h2
        split
        · by_cases hj : j < i
          · simp [tget, h, hj, tget_below d w.2 (Nat.lt_succ_of_lt hj)]
          · simp [tget, h, hj]
        · simp [tget, h]
      · rename_i h1 h2
        simp [tget, ih _ w.2]

theorem tset_wfFrom (d : α) {lo : Nat} {t : Tbl α} (w : tblWfFrom d lo t = true) {i : Nat} (hi : lo ≤ i) (v : α) :
    tblWfFrom d lo (tset d t i v) = true := by
  induction t generalizing lo with
  | nil => by_cases hv : v = d <;> simp [tset, hv, tblWfFrom, hi]
  | cons e r ih =>
    obtain ⟨k, x⟩ := e
    have w0 := w
    simp only [tblWfFrom, Bool.and_eq_true, decide_eq_true_eq] at w
    simp only [tset]
    split
    · rename_i h1
      split
      · exact w0
      · rename_i hv
        simp only [tblWfFrom, Bool.and_eq_true, decide_eq_true_eq]
        exact ⟨⟨hi, by simp [hv]⟩, ⟨⟨by omega, w.1.2⟩, w.2⟩⟩
    · split
      · rename_i h1 h2
        subst h2
        split
        · exact tblWfFrom_mono d (by omega) w.2
        · rename_i hv
          simp only [tblWfFrom, Bool.and_eq_true, decide_eq_true_eq]
          exact ⟨⟨hi, by simp [hv]⟩, w.2⟩
      · rename_i h1 h2
        simp only [tblWfFrom, Bool.and_eq_true, decide_eq_true_eq]
        exact ⟨w.1, ih w.2 (by omega)⟩

/-- A write keeps the canonical form. -/
theorem tset_wf (d : α) {t : Tbl α} (w : tblWf d t = true) (i : Nat) (v : α) : tblWf d (tset d t i v) = true :=
  tset_wfFrom d w (Nat.zero_le i) v

theorem tmod_wf (d : α) {t : Tbl α} (w : tblWf d t = true) (i : Nat) (f : α → α) : tblWf d (tmod d t i f) = true :=
  tset_wf d w i _

theorem tget_tmod_same (d : α) {t : Tbl α} (w : tblWf d t = true) (i : Nat) (f : α → α) :
    tget d (tmod d t i f) i = f (tget d t i) := tget_tset_same d w i _

theorem tget_tmod_other (d : α) {t : Tbl α} (w : tblWf d t = true) {i j : Nat} (h : j ≠ i) (f : α → α) :
    tget d (tmod d t i f) j = tget d t j := tget_tset_other d w h _

theorem tincr_wf (w : Nat) {t : Tbl Nat} (h : tblWf 0 t = true) (i : Nat) : tblWf 0 (tincr w t i) = true :=
  tset_wf 0 h i _

theorem tmodAll_wf (d : α) {t : Tbl α} (w : tblWf d t = true) (ks : List Nat) (f : Nat → α → α) :
    tblWf d (tmodAll d t ks f) = true := by
  unfold tmodAll
  induction ks generalizing t with
  | nil => exact w
  | cons k r ih => exact ih (tset_wf d w k _)

end Sys2Proof.Machine
end

