-- ==== Sys2Proof/Laws/Ops.lean ====
section
/-! SUPPORT. What each shared operation can do, said once. An operation on contexts, events, pins and replies
changes the host part alone; each lemma `…_others` lists the fields that stay. -/

namespace Sys2Proof.Machine

/-! ## Contexts -/

@[simp] theorem ctxMod_others (s : State) (n : Nat) (f : CtxState → CtxState) :
    (ctxMod s n f).tw0 = s.tw0 ∧ (ctxMod s n f).tw1 = s.tw1 ∧ (ctxMod s n f).cs = s.cs ∧ (ctxMod s n f).eng = s.eng
    ∧ (ctxMod s n f).par = s.par ∧ (ctxMod s n f).clk = s.clk ∧ (ctxMod s n f).cap = s.cap ∧ (ctxMod s n f).out = s.out
    ∧ (ctxMod s n f).ser = s.ser ∧ (ctxMod s n f).usbA = s.usbA ∧ (ctxMod s n f).usbB = s.usbB
    ∧ (ctxMod s n f).net = s.net ∧ (ctxMod s n f).aux = s.aux ∧ (ctxMod s n f).meas = s.meas
    ∧ (ctxMod s n f).pwr = s.pwr ∧ (ctxMod s n f).hull = s.hull ∧ (ctxMod s n f).fw = s.fw
    ∧ (ctxMod s n f).free = s.free ∧ (ctxMod s n f).pending = s.pending := by
  refine ⟨?_, ?_, ?_, ?_, ?_, ?_, ?_, ?_, ?_, ?_, ?_, ?_, ?_, ?_, ?_, ?_, ?_, ?_, ?_⟩ <;> rfl

/-- Of the host part, changing a context changes the contexts. -/
theorem ctxMod_host (s : State) (n : Nat) (f : CtxState → CtxState) :
    (ctxMod s n f).host = { s.host with ctxs := tmod CtxState.closed s.host.ctxs n f } := rfl

theorem ctxMod_get_same {s : State} (w : tblWf CtxState.closed s.host.ctxs = true) (n : Nat) (f : CtxState → CtxState) :
    ctxGet (ctxMod s n f) n = f (ctxGet s n) := tget_tmod_same _ w n f

theorem ctxMod_get_other {s : State} (w : tblWf CtxState.closed s.host.ctxs = true) {n m : Nat} (h : m ≠ n)
    (f : CtxState → CtxState) : ctxGet (ctxMod s n f) m = ctxGet s m := tget_tmod_other _ w h f

theorem ctxMod_wf {s : State} (w : tblWf CtxState.closed s.host.ctxs = true) (n : Nat) (f : CtxState → CtxState) :
    tblWf CtxState.closed (ctxMod s n f).host.ctxs = true := tmod_wf _ w n f

theorem setOwner_others (s : State) (id w : Nat) :
    setOwner s id w = { s with host := { s.host with owners := tset 0xFF s.host.owners id w } } := rfl

theorem setOwner_same {s : State} (h : tblWf 0xFF s.host.owners = true) (id w : Nat) : ownerOf (setOwner s id w) id = w :=
  tget_tset_same _ h id w

theorem setOwner_other {s : State} (h : tblWf 0xFF s.host.owners = true) {id j : Nat} (e : j ≠ id) (w : Nat) :
    ownerOf (setOwner s id w) j = ownerOf s j := tget_tset_other _ h e w

/-! ## Pins -/

/-- Only the pins and their holds change. -/
theorem refreshPins_frame (s : State) :
    refreshPins s = { s with host := { s.host with
      irqA := (refreshPins s).host.irqA, irqHoldA := (refreshPins s).host.irqHoldA,
      irqB := (refreshPins s).host.irqB, irqHoldB := (refreshPins s).host.irqHoldB } } := rfl

/-! ## Events -/

/-- Entering an event keeps a queue within R38. -/
theorem enqueue_ok (q : List Event) (e : Event) (h : queueOk q = true) : queueOk (enqueue q e) = true := by
  unfold enqueue
  split
  · rename_i hl
    simp [queueOk]
    omega
  · rename_i hl
    have hq : q.length = 63 ∨ (q.length = 64 ∧ q.getLast?.map (·.code) = some 0x0201) := by
      simp [queueOk] at h
      rcases h with h | h
      · omega
      · right
        simpa using h
    split
    · rename_i l hlast
      split
      · rename_i hc
        rcases hq with h1 | h1
        · simp [queueOk]
          omega
        · simp [queueOk, h1.1, hc]
      · rename_i hc
        rcases hq with h1 | h1
        · simp [queueOk, h1]
        · exfalso
          rw [hlast] at h1
          simp at h1
          exact hc h1.2
    · rfl

/-- Acknowledging keeps a queue within R38. -/
theorem drop_ok (q : List Event) (k : Nat) (h : queueOk q = true) : queueOk (q.drop k) = true := by
  cases k with
  | zero => simpa using h
  | succ k =>
    have : q.length ≤ 64 := by
      simp [queueOk] at h
      omega
    simp [queueOk]
    omega

/-- An event of a queue that has room goes to its end, as it is. -/
theorem enqueue_room (q : List Event) (e : Event) (h : q.length < 63) : enqueue q e = q ++ [e] := by
  simp [enqueue, h]

/-- What a fold over a list leaves when each of its steps leaves it. -/
theorem foldl_keeps {α β γ : Type} (g : α → γ) (f : α → β → α) (h : ∀ a b, g (f a b) = g a) (l : List β) (a : α) :
    g (l.foldl f a) = g a := by
  induction l generalizing a with
  | nil => rfl
  | cons b r ih => simp [ih, h]

/-- A property that each step of a fold keeps is kept by the fold. -/
theorem foldl_inv {α β : Type} (P : α → Prop) (f : α → β → α) (h : ∀ a b, P a → P (f a b)) (l : List β) (a : α) (w : P a) :
    P (l.foldl f a) := by
  induction l generalizing a with
  | nil => exact w
  | cons b r ih => exact ih _ (h a b w)

/-- All but the host part. -/
def rest (s : State) : State := { s with host := HostState.reset }

theorem rest_eq {s t : State} (h : rest t = rest s) : t = { s with host := t.host } := by
  cases s; cases t; simp [rest] at h; simp [h]

theorem enterEvent_rest (code inst stamp log data : Nat) (s : State) (n : Nat) :
    rest (enterEvent code inst stamp log data s n) = rest s := rfl

theorem fireBindings_rest (code inst data : Nat) (s : State) : rest (fireBindings code inst data s) = rest s := by
  unfold fireBindings
  split
  · rfl
  · split <;> rfl

theorem deliver_rest (sel : List Nat) (code inst stamp log data : Nat) (cn : Concern) (s : State) :
    rest (deliver sel code inst stamp log data cn s) = rest s := by
  have h : rest ((sel.filter (eventFor s code cn)).foldl (enterEvent code inst stamp log data) s) = rest s :=
    foldl_keeps rest _ (fun a b => enterEvent_rest code inst stamp log data a b) _ _
  show rest (fireBindings _ _ _ _) = _
  rw [fireBindings_rest, h]

theorem postSel_rest (sel : List Nat) (code inst log data : Nat) (cn : Concern) (s : State) :
    rest (postSel sel code inst log data cn s) = rest s := by
  unfold postSel
  split
  · rfl
  · split
    · split <;> rfl
    · exact deliver_rest _ _ _ _ _ _ _ _

/-- Posting an event changes the host part alone. -/
theorem postSel_frame (sel : List Nat) (code inst log data : Nat) (cn : Concern) (s : State) :
    postSel sel code inst log data cn s = { s with host := (postSel sel code inst log data cn s).host } :=
  rest_eq (postSel_rest sel code inst log data cn s)

theorem complete_rest (w : Waiter) (status : Nat) (s : State) : rest (complete w status s) = rest s :=
  postSel_rest _ _ _ _ _ _ _

theorem completeAll_rest (ws : List Waiter) (status : Nat) (s : State) : rest (completeAll ws status s) = rest s :=
  foldl_keeps rest _ (fun t w => complete_rest w status t) ws s

/-- The fields outside the host part, in one lemma for each operation that leaves them. -/
theorem others_of_rest {s t : State} (h : rest t = rest s) :
    t.tw0 = s.tw0 ∧ t.tw1 = s.tw1 ∧ t.cs = s.cs ∧ t.eng = s.eng ∧ t.par = s.par ∧ t.clk = s.clk ∧ t.cap = s.cap
    ∧ t.out = s.out ∧ t.ser = s.ser ∧ t.usbA = s.usbA ∧ t.usbB = s.usbB ∧ t.net = s.net ∧ t.aux = s.aux
    ∧ t.meas = s.meas ∧ t.pwr = s.pwr ∧ t.hull = s.hull ∧ t.fw = s.fw ∧ t.free = s.free ∧ t.pending = s.pending := by
  rw [rest_eq h]
  refine ⟨?_, ?_, ?_, ?_, ?_, ?_, ?_, ?_, ?_, ?_, ?_, ?_, ?_, ?_, ?_, ?_, ?_, ?_, ?_⟩ <;> rfl

@[simp] theorem postSel_others (sel : List Nat) (code inst log data : Nat) (cn : Concern) (s : State) :
    (postSel sel code inst log data cn s).tw0 = s.tw0 ∧ (postSel sel code inst log data cn s).tw1 = s.tw1
    ∧ (postSel sel code inst log data cn s).cs = s.cs ∧ (postSel sel code inst log data cn s).eng = s.eng
    ∧ (postSel sel code inst log data cn s).par = s.par ∧ (postSel sel code inst log data cn s).clk = s.clk
    ∧ (postSel sel code inst log data cn s).cap = s.cap ∧ (postSel sel code inst log data cn s).out = s.out
    ∧ (postSel sel code inst log data cn s).ser = s.ser ∧ (postSel sel code inst log data cn s).usbA = s.usbA
    ∧ (postSel sel code inst log data cn s).usbB = s.usbB ∧ (postSel sel code inst log data cn s).net = s.net
    ∧ (postSel sel code inst log data cn s).aux = s.aux ∧ (postSel sel code inst log data cn s).meas = s.meas
    ∧ (postSel sel code inst log data cn s).pwr = s.pwr ∧ (postSel sel code inst log data cn s).hull = s.hull
    ∧ (postSel sel code inst log data cn s).fw = s.fw ∧ (postSel sel code inst log data cn s).free = s.free
    ∧ (postSel sel code inst log data cn s).pending = s.pending :=
  others_of_rest (postSel_rest sel code inst log data cn s)

@[simp] theorem post_others (code inst log data : Nat) (cn : Concern) (s : State) :
    (post code inst log data cn s).tw0 = s.tw0 ∧ (post code inst log data cn s).tw1 = s.tw1
    ∧ (post code inst log data cn s).cs = s.cs ∧ (post code inst log data cn s).eng = s.eng
    ∧ (post code inst log data cn s).par = s.par ∧ (post code inst log data cn s).clk = s.clk
    ∧ (post code inst log data cn s).cap = s.cap ∧ (post code inst log data cn s).out = s.out
    ∧ (post code inst log data cn s).ser = s.ser ∧ (post code inst log data cn s).usbA = s.usbA
    ∧ (post code inst log data cn s).usbB = s.usbB ∧ (post code inst log data cn s).net = s.net
    ∧ (post code inst log data cn s).aux = s.aux ∧ (post code inst log data cn s).meas = s.meas
    ∧ (post code inst log data cn s).pwr = s.pwr ∧ (post code inst log data cn s).hull = s.hull
    ∧ (post code inst log data cn s).fw = s.fw ∧ (post code inst log data cn s).free = s.free
    ∧ (post code inst log data cn s).pending = s.pending :=
  others_of_rest (postSel_rest _ code inst log data cn s)

@[simp] theorem complete_others (w : Waiter) (st : Nat) (s : State) :
    (complete w st s).tw0 = s.tw0 ∧ (complete w st s).tw1 = s.tw1
    ∧ (complete w st s).cs = s.cs ∧ (complete w st s).eng = s.eng ∧ (complete w st s).par = s.par
    ∧ (complete w st s).clk = s.clk ∧ (complete w st s).cap = s.cap ∧ (complete w st s).out = s.out
    ∧ (complete w st s).ser = s.ser ∧ (complete w st s).usbA = s.usbA ∧ (complete w st s).usbB = s.usbB
    ∧ (complete w st s).net = s.net ∧ (complete w st s).aux = s.aux ∧ (complete w st s).meas = s.meas
    ∧ (complete w st s).pwr = s.pwr ∧ (complete w st s).hull = s.hull ∧ (complete w st s).fw = s.fw
    ∧ (complete w st s).free = s.free ∧ (complete w st s).pending = s.pending :=
  others_of_rest (complete_rest w st s)

/-- Posting an event leaves these of the host part. -/
@[simp] theorem postSel_host (sel : List Nat) (code inst log data : Nat) (cn : Concern) (s : State) :
    (postSel sel code inst log data cn s).host.log = s.host.log
    ∧ (postSel sel code inst log data cn s).host.logWrapped = s.host.logWrapped
    ∧ (postSel sel code inst log data cn s).host.served = s.host.served
    ∧ (postSel sel code inst log data cn s).host.supervisor = s.host.supervisor
    ∧ (postSel sel code inst log data cn s).host.owners = s.host.owners
    ∧ (postSel sel code inst log data cn s).host.irqSetA = s.host.irqSetA
    ∧ (postSel sel code inst log data cn s).host.irqSetB = s.host.irqSetB
    ∧ (postSel sel code inst log data cn s).host.absent = s.host.absent
    ∧ (postSel sel code inst log data cn s).host.late = s.host.late
    ∧ (postSel sel code inst log data cn s).host.vendor = s.host.vendor
    ∧ (postSel sel code inst log data cn s).host.h4Controller = s.host.h4Controller := by
  have key : ∀ {γ : Type} (g : HostState → γ),
      (∀ h : HostState, ∀ c, g { h with ctxs := c } = g h) →
      (∀ h : HostState, ∀ a b c d, g { h with irqA := a, irqHoldA := b, irqB := c, irqHoldB := d } = g h) →
      (∀ h : HostState, ∀ c, g { h with fired := c } = g h) →
      (∀ h : HostState, ∀ c, g { h with raised := c } = g h) →
      (∀ h : HostState, ∀ c, g { h with raisedLost := c } = g h) →
      g (postSel sel code inst log data cn s).host = g s.host := by
    intro γ g h1 h2 h3 h4 h5
    unfold postSel
    split
    · rfl
    · split
      · split
        · exact h4 _ _
        · exact h5 _ _
      · have hf : g ((sel.filter (eventFor s code cn)).foldl (enterEvent code inst (stampOf s) log data) s).host = g s.host :=
          foldl_keeps (fun t : State => g t.host) (enterEvent code inst (stampOf s) log data) (fun a b => h1 a.host _) _ _
        show g (refreshPins (fireBindings code inst data _)).host = _
        refine (h2 _ _ _ _ _).trans ?_
        rw [← hf]
        unfold fireBindings
        split
        · rfl
        · split
          · rfl
          · exact h3 _ _
  refine ⟨?_, ?_, ?_, ?_, ?_, ?_, ?_, ?_, ?_, ?_, ?_⟩
  · exact key (·.log) (fun _ _ => rfl) (fun _ _ _ _ _ => rfl) (fun _ _ => rfl) (fun _ _ => rfl) (fun _ _ => rfl)
  · exact key (·.logWrapped) (fun _ _ => rfl) (fun _ _ _ _ _ => rfl) (fun _ _ => rfl) (fun _ _ => rfl) (fun _ _ => rfl)
  · exact key (·.served) (fun _ _ => rfl) (fun _ _ _ _ _ => rfl) (fun _ _ => rfl) (fun _ _ => rfl) (fun _ _ => rfl)
  · exact key (·.supervisor) (fun _ _ => rfl) (fun _ _ _ _ _ => rfl) (fun _ _ => rfl) (fun _ _ => rfl) (fun _ _ => rfl)
  · exact key (·.owners) (fun _ _ => rfl) (fun _ _ _ _ _ => rfl) (fun _ _ => rfl) (fun _ _ => rfl) (fun _ _ => rfl)
  · exact key (·.irqSetA) (fun _ _ => rfl) (fun _ _ _ _ _ => rfl) (fun _ _ => rfl) (fun _ _ => rfl) (fun _ _ => rfl)
  · exact key (·.irqSetB) (fun _ _ => rfl) (fun _ _ _ _ _ => rfl) (fun _ _ => rfl) (fun _ _ => rfl) (fun _ _ => rfl)
  · exact key (·.absent) (fun _ _ => rfl) (fun _ _ _ _ _ => rfl) (fun _ _ => rfl) (fun _ _ => rfl) (fun _ _ => rfl)
  · exact key (·.late) (fun _ _ => rfl) (fun _ _ _ _ _ => rfl) (fun _ _ => rfl) (fun _ _ => rfl) (fun _ _ => rfl)
  · exact key (·.vendor) (fun _ _ => rfl) (fun _ _ _ _ _ => rfl) (fun _ _ => rfl) (fun _ _ => rfl) (fun _ _ => rfl)
  · exact key (·.h4Controller) (fun _ _ => rfl) (fun _ _ _ _ _ => rfl) (fun _ _ => rfl) (fun _ _ => rfl) (fun _ _ => rfl)

/-! ## Log numbers and replies -/

/-- The next log number is never 0 and has 32 bits (R29). -/
theorem nextLog_range {n : Nat} (h : n ≤ 0xFFFFFFFF) : 1 ≤ nextLog n ∧ nextLog n ≤ 0xFFFFFFFF := by
  unfold nextLog
  split <;> omega

theorem takeLog_frame (s : State) :
    takeLog s = { s with
      host := { s.host with log := nextLog s.host.log, logWrapped := s.host.logWrapped || s.host.log == 0xFFFFFFFF }
      free := s.free + 1 } := rfl

@[simp] theorem takeLog_others (s : State) :
    (takeLog s).tw0 = s.tw0 ∧ (takeLog s).tw1 = s.tw1 ∧ (takeLog s).cs = s.cs ∧ (takeLog s).eng = s.eng
    ∧ (takeLog s).par = s.par ∧ (takeLog s).clk = s.clk ∧ (takeLog s).cap = s.cap ∧ (takeLog s).out = s.out
    ∧ (takeLog s).ser = s.ser ∧ (takeLog s).usbA = s.usbA ∧ (takeLog s).usbB = s.usbB ∧ (takeLog s).net = s.net
    ∧ (takeLog s).aux = s.aux ∧ (takeLog s).meas = s.meas ∧ (takeLog s).pwr = s.pwr ∧ (takeLog s).hull = s.hull
    ∧ (takeLog s).fw = s.fw ∧ (takeLog s).free = s.free + 1 ∧ (takeLog s).pending = s.pending := by
  refine ⟨?_, ?_, ?_, ?_, ?_, ?_, ?_, ?_, ?_, ?_, ?_, ?_, ?_, ?_, ?_, ?_, ?_, ?_, ?_⟩ <;> rfl

@[simp] theorem takeLog_host (s : State) :
    (takeLog s).host.ctxs = s.host.ctxs ∧ (takeLog s).host.log = nextLog s.host.log
    ∧ (takeLog s).host.supervisor = s.host.supervisor ∧ (takeLog s).host.owners = s.host.owners
    ∧ (takeLog s).host.irqSetA = s.host.irqSetA ∧ (takeLog s).host.irqSetB = s.host.irqSetB
    ∧ (takeLog s).host.absent = s.host.absent ∧ (takeLog s).host.vendor = s.host.vendor := by
  refine ⟨?_, ?_, ?_, ?_, ?_, ?_, ?_, ?_⟩ <;> rfl

@[simp] theorem takeLog_ctxGet (s : State) (n : Nat) : ctxGet (takeLog s) n = ctxGet s n := rfl
@[simp] theorem takeLog_isOpen (s : State) (n : Nat) : isOpen (takeLog s) n = isOpen s n := rfl
@[simp] theorem takeLog_ownerOf (s : State) (id : Nat) : ownerOf (takeLog s) id = ownerOf s id := rfl

theorem ctxNum_le (c : Ctx) : ctxNum c ≤ 4 := by cases c <;> decide

/-- The reply placed is the last reply of its context (R56, R268, R323). -/
theorem lastReply_placeReply (n : Nat) (r : Reply) (s : State) : lastReply (placeReply n r s) n = some r := by
  unfold placeReply lastReply
  by_cases h0 : n = 0
  · simp [h0]
  by_cases h1 : n = 1
  · simp [h1]
  have hne : ∀ c : CtxState, ∀ l : List Reply, ({ c with replies := l ++ [r] } : CtxState) ≠ CtxState.closed := by
    intro c l h
    have := congrArg CtxState.replies h
    simp [CtxState.closed] at this
  by_cases h4 : n = 4
  · simp only [h0, h1, h4, if_true, if_false]
    have : ctxGet (ctxMod s 4 (fun c => { c with replies := [r] })) 4 = { (ctxGet s 4) with replies := [r] } :=
      tget_tset_same_ne _ _ _ (hne (ctxGet s 4) [])
    simp [this]
  · simp only [h0, h1, h4, if_false]
    have : ctxGet (ctxMod s n (fun c => { c with replies := c.replies ++ [r] })) n
        = { (ctxGet s n) with replies := (ctxGet s n).replies ++ [r] } :=
      tget_tset_same_ne _ _ _ (hne (ctxGet s n) _)
    simp [this]

/-- Placing a reply changes the contexts and, at H0 and H1, the port's reply door and flags. -/
@[simp] theorem placeReply_others (n : Nat) (r : Reply) (s : State) :
    (placeReply n r s).cs = s.cs ∧ (placeReply n r s).eng = s.eng ∧ (placeReply n r s).par = s.par
    ∧ (placeReply n r s).clk = s.clk ∧ (placeReply n r s).cap = s.cap ∧ (placeReply n r s).out = s.out
    ∧ (placeReply n r s).ser = s.ser ∧ (placeReply n r s).usbA = s.usbA ∧ (placeReply n r s).usbB = s.usbB
    ∧ (placeReply n r s).net = s.net ∧ (placeReply n r s).aux = s.aux ∧ (placeReply n r s).meas = s.meas
    ∧ (placeReply n r s).pwr = s.pwr ∧ (placeReply n r s).hull = s.hull ∧ (placeReply n r s).fw = s.fw
    ∧ (placeReply n r s).free = s.free ∧ (placeReply n r s).pending = s.pending := by
  unfold placeReply
  refine ⟨?_, ?_, ?_, ?_, ?_, ?_, ?_, ?_, ?_, ?_, ?_, ?_, ?_, ?_, ?_, ?_, ?_⟩ <;> (split <;> (try split) <;> (try split) <;> rfl)

@[simp] theorem placeReply_host (n : Nat) (r : Reply) (s : State) :
    (placeReply n r s).host.log = s.host.log ∧ (placeReply n r s).host.supervisor = s.host.supervisor
    ∧ (placeReply n r s).host.owners = s.host.owners ∧ (placeReply n r s).host.irqSetA = s.host.irqSetA
    ∧ (placeReply n r s).host.irqSetB = s.host.irqSetB ∧ (placeReply n r s).host.absent = s.host.absent
    ∧ (placeReply n r s).host.raised = s.host.raised := by
  unfold placeReply
  refine ⟨?_, ?_, ?_, ?_, ?_, ?_, ?_⟩ <;> (split <;> (try split) <;> (try split) <;> rfl)

/-! ## Taking a command -/

/-- A command that is taken and not refused does what `run` says, under the next log number. -/
theorem hostTake_accepted {op : Nat} {o : Issue} {p : List Byte} {check : State → Option Nat} {s : State}
    (h : Accepted op o p check s) (run : Nat → State → State) :
    hostTake op o p check run s = run s.host.log (takeLog s) := by
  obtain ⟨⟨h1, h2, h3, h4⟩, h5, h6⟩ := h
  unfold hostTake
  by_cases hv : o.v1 = true
  · have := h2 hv
    have h15 : ¬ 15 < op % 256 := by omega
    simp [h1, hv, h15, this.2] 
    simp [hv] at h3
    simp at h4
    simp [h3, h5, h6]
    intro a
    simp [h4 a]
  · simp at hv
    simp [hv] at h3
    simp at h4
    simp [h1, hv, h3, h5, h6]
    intro a
    simp [h4 a]

/-- The outcome of a command that is answered at once. -/
theorem hostCommand_accepted {op : Nat} {o : Issue} {p : List Byte} {check : State → Option Nat} {s : State}
    (h : Accepted op o p check s) (act : Nat → State → Done) :
    hostCommand op o p check act s
      = answerOn op o s (act s.host.log (takeLog s)).status (act s.host.log (takeLog s)).result
          (act s.host.log (takeLog s)).s := by
  unfold hostCommand hostRun
  rw [hostTake_accepted h]
  rfl

/-- A command that the CP takes and refuses has no effect but its log number and its reply (R27, R458). -/
theorem hostTake_refused {op : Nat} {o : Issue} {p : List Byte} {check : State → Option Nat} {s : State} {st : Nat}
    (h : Taken op o p s) (hr : (refusal op o.ctx p (takeLog s)).or (check (takeLog s)) = some st)
    (run : Nat → State → State) :
    hostTake op o p check run s = placeReply (ctxNum o.ctx) (replyTo op o st s.host.log []) (takeLog s) := by
  obtain ⟨h1, h2, h3, h4⟩ := h
  unfold hostTake
  by_cases hv : o.v1 = true
  · have := h2 hv
    have h15 : ¬ 15 < op % 256 := by omega
    simp [h1, hv, h15, this.2]
    simp [hv] at h3
    simp at h4
    simp [h3, hr]
    intro a
    simp [h4 a]
  · simp at hv
    simp [hv] at h3
    simp at h4
    simp [h1, hv, h3, hr]
    intro a
    simp [h4 a]

/-- An answer placed on `u` leaves a reply at the command's context. -/
theorem answerOn_replied {op : Nat} {o : Issue} {s u : State} {status : Nat} {result : List Byte}
    (h : u.host.log = nextLog s.host.log) :
    ∃ t, answerOn op o s status result u = .next t ∧ Replied op o s status result t :=
  ⟨_, rfl, lastReply_placeReply _ _ _, by simp [h]⟩

/-! ## The invariant of the host part -/

theorem HostInv.openBelow {h : HostState} (w : HostInv h) {n : Nat} (hn : n < 2) :
    (tget CtxState.closed h.ctxs n).isOpen = true := by
  rcases (by omega : n = 0 ∨ n = 1) with e | e
  · subst e
    exact w.open0
  · subst e
    exact w.open1

theorem HostInv.ctxMod {s : State} (w : HostInv s.host) (n : Nat) (f : CtxState → CtxState)
    (hq : queueOk (f (ctxGet s n)).queue = true) (ho : n < 2 → (f (ctxGet s n)).isOpen = true) :
    HostInv (Sys2Proof.Machine.ctxMod s n f).host := by
  have g : ∀ m, tget CtxState.closed (Sys2Proof.Machine.ctxMod s n f).host.ctxs m
      = if m = n then f (ctxGet s n) else tget CtxState.closed s.host.ctxs m := by
    intro m
    by_cases h : m = n
    · subst h
      rw [if_pos rfl]
      exact ctxMod_get_same w.ctxsWf m f
    · rw [if_neg h]
      exact ctxMod_get_other w.ctxsWf h f
  refine { ctxsWf := ctxMod_wf w.ctxsWf n f, queues := ?_, logLow := w.logLow, logHigh := w.logHigh,
           raisedMax := w.raisedMax, open0 := ?_, open1 := ?_, ownersWf := w.ownersWf }
  · intro m
    rw [g]
    split
    · exact hq
    · exact w.queues m
  · rw [g]
    split
    · exact ho (by omega)
    · exact w.open0
  · rw [g]
    split
    · exact ho (by omega)
    · exact w.open1

/-- A change of a context that leaves its queue and whether it is open keeps the invariant. -/
theorem HostInv.ctxMod_quiet {s : State} (w : HostInv s.host) (n : Nat) (f : CtxState → CtxState)
    (hq : ∀ c, (f c).queue = c.queue) (ho : ∀ c, (f c).isOpen = c.isOpen) :
    HostInv (Sys2Proof.Machine.ctxMod s n f).host := by
  refine w.ctxMod n f ?_ ?_
  · rw [hq]
    exact w.queues n
  · intro hn
    rw [ho]
    exact w.openBelow hn

/-- A change that leaves every field the invariant speaks of keeps it. -/
theorem HostInv.of_eq {h k : HostState} (w : HostInv h) (h1 : k.ctxs = h.ctxs) (h2 : k.log = h.log)
    (h3 : k.raised = h.raised) (h4 : k.owners = h.owners) : HostInv k := by
  obtain ⟨w1, w2, w3, w4, w5, w6, w7, w8⟩ := w
  constructor <;> simp_all

theorem HostInv.setOwner {s : State} (w : HostInv s.host) (id v : Nat) :
    HostInv (Sys2Proof.Machine.setOwner s id v).host :=
  { w with ownersWf := tset_wf _ w.ownersWf id v }

theorem HostInv.refreshPins {s : State} (w : HostInv s.host) : HostInv (Sys2Proof.Machine.refreshPins s).host :=
  w.of_eq rfl rfl rfl rfl

theorem HostInv.enterEvent {s : State} (w : HostInv s.host) (code inst stamp log data n : Nat) :
    HostInv (Sys2Proof.Machine.enterEvent code inst stamp log data s n).host :=
  w.ctxMod n _ (enqueue_ok _ _ (w.queues n)) (fun hn => w.openBelow hn)

theorem HostInv.fireBindings {s : State} (w : HostInv s.host) (code inst data : Nat) :
    HostInv (Sys2Proof.Machine.fireBindings code inst data s).host := by
  unfold Sys2Proof.Machine.fireBindings
  split
  · exact w
  · split
    · exact w
    · exact w.of_eq rfl rfl rfl rfl

theorem HostInv.deliver {s : State} (w : HostInv s.host) (sel : List Nat) (code inst stamp log data : Nat) (cn : Concern) :
    HostInv (Sys2Proof.Machine.deliver sel code inst stamp log data cn s).host := by
  refine HostInv.refreshPins (HostInv.fireBindings ?_ code inst data)
  exact foldl_inv (fun t : State => HostInv t.host) _ (fun a b h => h.enterEvent code inst stamp log data b) _ _ w

theorem HostInv.postSel {s : State} (w : HostInv s.host) (sel : List Nat) (code inst log data : Nat) (cn : Concern) :
    HostInv (Sys2Proof.Machine.postSel sel code inst log data cn s).host := by
  unfold Sys2Proof.Machine.postSel
  split
  · exact w
  · split
    · split
      · rename_i h
        have hr : (s.host.raised ++ [({ code := code, inst := inst, stamp := stampOf s, log := log, data := data, concern := cn, sel := sel } : Raised)]).length ≤ 32 := by
          simp
          omega
        exact { w with raisedMax := hr }
      · exact w.of_eq rfl rfl rfl rfl
    · exact w.deliver _ _ _ _ _ _ _

theorem HostInv.post {s : State} (w : HostInv s.host) (code inst log data : Nat) (cn : Concern) :
    HostInv (Sys2Proof.Machine.post code inst log data cn s).host := w.postSel _ _ _ _ _ _

theorem HostInv.complete {s : State} (w : HostInv s.host) (x : Waiter) (st : Nat) :
    HostInv (Sys2Proof.Machine.complete x st s).host := w.postSel _ _ _ _ _ _

theorem HostInv.completeAll {s : State} (w : HostInv s.host) (xs : List Waiter) (st : Nat) :
    HostInv (Sys2Proof.Machine.completeAll xs st s).host :=
  foldl_inv (fun t : State => HostInv t.host) _ (fun _ b h => h.complete b st) _ _ w

theorem HostInv.takeLog {s : State} (w : HostInv s.host) : HostInv (Sys2Proof.Machine.takeLog s).host :=
  { w with logLow := (nextLog_range w.logHigh).1, logHigh := (nextLog_range w.logHigh).2 }

theorem HostInv.placeReply {s : State} (w : HostInv s.host) (n : Nat) (r : Reply) :
    HostInv (Sys2Proof.Machine.placeReply n r s).host := by
  unfold Sys2Proof.Machine.placeReply
  split
  · exact w
  · split
    · exact w
    · split <;> exact w.ctxMod_quiet _ _ (fun _ => rfl) (fun _ => rfl)

theorem HostInv.ackEvents {s : State} (w : HostInv s.host) (n count : Nat) :
    HostInv (Sys2Proof.Machine.ackEvents n count s).host := by
  unfold Sys2Proof.Machine.ackEvents
  dsimp only
  split
  · exact w
  · have h1 := w.ctxMod n (fun c => { c with queue := c.queue.drop (min count (ctxGet s n).queue.length) })
      (drop_ok _ _ (w.queues n)) (fun hn => w.openBelow hn)
    exact (h1.of_eq rfl rfl rfl rfl)

/-- Taking a command keeps the invariant when what it does keeps it. -/
theorem HostInv.hostTake {s : State} (w : HostInv s.host) (op : Nat) (o : Issue) (p : List Byte)
    (check : State → Option Nat) (run : Nat → State → State)
    (h : ∀ log (t : State), HostInv t.host → HostInv (run log t).host) :
    HostInv (Sys2Proof.Machine.hostTake op o p check run s).host := by
  unfold Sys2Proof.Machine.hostTake
  dsimp only
  repeat' split
  all_goals first
    | exact w
    | exact w.placeReply _ _
    | exact w.takeLog.placeReply _ _
    | exact h _ _ w.takeLog

/-- A command that is answered at once keeps the invariant when its effect keeps it. -/
theorem HostInv.hostRun {s : State} (w : HostInv s.host) (op : Nat) (o : Issue) (p : List Byte)
    (check : State → Option Nat) (act : Nat → State → Done)
    (h : ∀ log (t : State), HostInv t.host → HostInv (act log t).s.host) :
    HostInv (Sys2Proof.Machine.hostRun op o p check act s).host :=
  w.hostTake op o p check _ (fun log t ht => (h log t ht).placeReply _ _)

/-! ## What an event leaves of a context -/

theorem enterEvent_wf {s : State} (w : tblWf CtxState.closed s.host.ctxs = true) (code inst stamp log data n : Nat) :
    tblWf CtxState.closed (enterEvent code inst stamp log data s n).host.ctxs = true := ctxMod_wf w n _

/-- An event changes the queue and SEQ of a context and nothing else of it. -/
theorem enterEvent_ctx {γ : Type} (g : CtxState → γ) (hg : ∀ c q k, g { c with queue := q, seq := k } = g c) {s : State}
    (w : tblWf CtxState.closed s.host.ctxs = true) (code inst stamp log data n m : Nat) :
    g (ctxGet (enterEvent code inst stamp log data s n) m) = g (ctxGet s m) := by
  by_cases h : m = n
  · subst h
    unfold enterEvent
    rw [ctxMod_get_same w]
    exact hg _ _ _
  · unfold enterEvent
    rw [ctxMod_get_other w h]

theorem fireBindings_ctxs (code inst data : Nat) (s : State) : (fireBindings code inst data s).host.ctxs = s.host.ctxs := by
  unfold fireBindings
  split
  · rfl
  · split <;> rfl

theorem postSel_ctx {γ : Type} (g : CtxState → γ) (hg : ∀ c q k, g { c with queue := q, seq := k } = g c) {s : State}
    (w : tblWf CtxState.closed s.host.ctxs = true) (sel : List Nat) (code inst log data : Nat) (cn : Concern) (m : Nat) :
    tblWf CtxState.closed (postSel sel code inst log data cn s).host.ctxs = true
    ∧ g (ctxGet (postSel sel code inst log data cn s) m) = g (ctxGet s m) := by
  unfold postSel
  split
  · exact ⟨w, rfl⟩
  · split
    · split <;> exact ⟨w, rfl⟩
    · have key : tblWf CtxState.closed
            (List.foldl (enterEvent code inst (stampOf s) log data) s (sel.filter (eventFor s code cn))).host.ctxs = true
          ∧ g (ctxGet (List.foldl (enterEvent code inst (stampOf s) log data) s (sel.filter (eventFor s code cn))) m)
            = g (ctxGet s m) :=
        foldl_inv (fun t : State => tblWf CtxState.closed t.host.ctxs = true ∧ g (ctxGet t m) = g (ctxGet s m)) _
          (fun a b h => ⟨enterEvent_wf h.1 _ _ _ _ _ _, (enterEvent_ctx g hg h.1 _ _ _ _ _ _ _).trans h.2⟩) _ _ ⟨w, rfl⟩
      refine ⟨?_, ?_⟩
      · show tblWf CtxState.closed (fireBindings _ _ _ _).host.ctxs = true
        rw [fireBindings_ctxs]
        exact key.1
      · show g (tget CtxState.closed (fireBindings _ _ _ _).host.ctxs m) = _
        rw [fireBindings_ctxs]
        exact key.2

/-- A mooring change leaves all but the queues and the owners. -/
theorem changeOwner_ctx {γ : Type} (g : CtxState → γ) (hg : ∀ c q k, g { c with queue := q, seq := k } = g c) {s : State}
    (w : tblWf CtxState.closed s.host.ctxs = true) (log id new m : Nat) :
    tblWf CtxState.closed (changeOwner log id new s).host.ctxs = true
    ∧ g (ctxGet (changeOwner log id new s) m) = g (ctxGet s m) := by
  unfold changeOwner
  dsimp only
  split
  · exact ⟨w, rfl⟩
  · exact postSel_ctx g hg (s := setOwner s id new) w _ _ _ _ _ _ _

theorem changeOwner_log (log id new : Nat) (s : State) : (changeOwner log id new s).host.log = s.host.log := by
  unfold changeOwner
  dsimp only
  split
  · rfl
  · simp [setOwner]

theorem changeOwner_rest (log id new : Nat) (s : State) : rest (changeOwner log id new s) = rest s := by
  unfold changeOwner
  dsimp only
  split
  · rfl
  · rw [postSel_rest]
    rfl

/-- The resource has the new owner, and every other its own. -/
theorem changeOwner_owner {s : State} (w : tblWf 0xFF s.host.owners = true) (log id new : Nat) :
    ownerOf (changeOwner log id new s) id = new
    ∧ (∀ j, j ≠ id → ownerOf (changeOwner log id new s) j = ownerOf s j)
    ∧ tblWf 0xFF (changeOwner log id new s).host.owners = true := by
  unfold changeOwner
  dsimp only
  split
  · rename_i h
    exact ⟨h, fun _ _ => rfl, w⟩
  · refine ⟨?_, ?_, ?_⟩
    · show tget 0xFF (postSel _ _ _ _ _ _ _).host.owners id = new
      rw [(postSel_host _ _ _ _ _ _ _).2.2.2.2.1]
      exact setOwner_same w id new
    · intro j hj
      show tget 0xFF (postSel _ _ _ _ _ _ _).host.owners j = _
      rw [(postSel_host _ _ _ _ _ _ _).2.2.2.2.1]
      exact setOwner_other w hj new
    · rw [(postSel_host _ _ _ _ _ _ _).2.2.2.2.1]
      exact tset_wf _ w _ _

theorem HostInv.changeOwner {s : State} (w : HostInv s.host) (log id new : Nat) :
    HostInv (Sys2Proof.Machine.changeOwner log id new s).host := by
  unfold Sys2Proof.Machine.changeOwner
  dsimp only
  split
  · exact w
  · exact (w.setOwner id new).postSel _ _ _ _ _ _

end Sys2Proof.Machine
end

