-- ==== Sys2Proof/Laws/Outputs.lean ====
section
/-! SUPPORT. Frames of the shared operations of the auxiliary DAC, outputs and jacks: which parts of the state each can
change, said once. -/

namespace Sys2Proof.Machine

/-- The state but for the host part, the auxiliary DAC, capture, the jacks and the draws of free values. -/
def restAux (s : State) : State := { State.reset with
  tw0 := s.tw0, tw1 := s.tw1, cs := s.cs, eng := s.eng, par := s.par, clk := s.clk, ser := s.ser
  out := { s.out with jackA := State.reset.out.jackA, jackB := State.reset.out.jackB }
  usbA := s.usbA, usbB := s.usbB, net := s.net, meas := s.meas, pwr := s.pwr, hull := s.hull, fw := s.fw
  pending := s.pending }

theorem restAux_of_rest {s t : State} (h : rest t = rest s) : restAux t = restAux s := by
  rw [rest_eq h]; rfl

theorem post_restAux (code inst log data : Nat) (cn : Concern) (s : State) :
    restAux (post code inst log data cn s) = restAux s := restAux_of_rest (postSel_rest _ _ _ _ _ _ _)

theorem auxMod_restAux (s : State) (c : Nat) (f : Aux → Aux) : restAux (auxMod s c f) = restAux s := rfl
theorem queueMod_restAux (s : State) (c : Nat) (f : AuxQueue → AuxQueue) : restAux (queueMod s c f) = restAux s := rfl

theorem jackMod_restAux (s : State) (j : Nat) (f : Jack → Jack) : restAux (jackMod s j f) = restAux s := by
  unfold jackMod
  split <;> rfl

theorem micMod_restAux (s : State) (o : Nat) (f : MicBias → MicBias) : restAux (micMod s o f) = restAux s := by
  unfold micMod
  split <;> rfl

theorem micStop_restAux (o st : Nat) (s : State) : restAux (micStop o st s) = restAux s := micMod_restAux _ _ _

theorem auxStimulus_restAux (tip : Bool) (s : State) : restAux (auxStimulus tip s) = restAux s := rfl

theorem serveJack_restAux (s : State) (j : Nat) : restAux (serveJack s j) = restAux s := by
  unfold serveJack
  split
  · exact (auxStimulus_restAux _ _).trans (jackMod_restAux _ _ _)
  · rfl

/-- Serving the jacks changes them and AUX15 only. -/
theorem serveJacks_restAux (s : State) : restAux (serveJacks s) = restAux s :=
  (serveJack_restAux _ _).trans (serveJack_restAux _ _)

theorem jacksBack_restAux (s : State) : restAux (jacksBack s) = restAux s :=
  (jackMod_restAux _ _ _).trans (jackMod_restAux _ _ _)

theorem auxAllOff_restAux (s : State) : restAux (auxAllOff s) = restAux s := by
  unfold auxAllOff
  rw [foldl_keeps restAux _ (fun t c => queueMod_restAux t c _), foldl_keeps restAux _ (fun t c => auxMod_restAux t c _)]

theorem offMask_restAux (m : Nat) (s : State) : restAux { s with aux := { s.aux with offMask := m } } = restAux s := rfl

theorem auxGoOff_restAux (cause : Nat) (s : State) : restAux (auxGoOff cause s) = restAux s :=
  (jacksBack_restAux _).trans ((post_restAux _ _ _ _ _ _).trans ((offMask_restAux _ _).trans (auxAllOff_restAux s)))

theorem auxResume_restAux (s : State) : restAux (auxResume s) = restAux s := by
  unfold auxResume
  split
  · rfl
  · dsimp only
    rw [serveJacks_restAux]
    exact post_restAux _ _ _ _ _ _

/-- The follow-up of faults at the auxiliary DAC changes only the auxiliary DAC, mic bias, the jacks that AUX15 serves, and
events. -/
theorem auxFollow_restAux (s : State) : restAux (auxFollow s) = restAux s := by
  unfold auxFollow
  dsimp only
  split
  · rfl
  · split
    · refine (foldl_keeps restAux _ (fun t o => ?_) _ _).trans (auxGoOff_restAux _ _)
      split
      · exact micStop_restAux _ _ _
      · rfl
    · exact auxResume_restAux _

theorem restAux_outs {s t : State} (h : restAux t = restAux s) : t.out.outs = s.out.outs :=
  show (restAux t).out.outs = (restAux s).out.outs by rw [h]

@[simp] theorem auxFollow_outs (s : State) : (auxFollow s).out.outs = s.out.outs := restAux_outs (auxFollow_restAux s)
@[simp] theorem auxFollow_pwr (s : State) : (auxFollow s).pwr = s.pwr :=
  show (restAux (auxFollow s)).pwr = (restAux s).pwr by rw [auxFollow_restAux]
@[simp] theorem auxFollow_eng (s : State) : (auxFollow s).eng = s.eng :=
  show (restAux (auxFollow s)).eng = (restAux s).eng by rw [auxFollow_restAux]
@[simp] theorem auxFollow_clk (s : State) : (auxFollow s).clk = s.clk :=
  show (restAux (auxFollow s)).clk = (restAux s).clk by rw [auxFollow_restAux]
@[simp] theorem auxFollow_cs (s : State) : (auxFollow s).cs = s.cs :=
  show (restAux (auxFollow s)).cs = (restAux s).cs by rw [auxFollow_restAux]

@[simp] theorem auxStimulus_out (tip : Bool) (s : State) : (auxStimulus tip s).out = s.out := rfl
@[simp] theorem auxStimulusEnd_out (s : State) : (auxStimulusEnd s).out = s.out := rfl

/-! ## Outputs -/

theorem outGet_outMod_same {s : State} (w : tblWf Output.reset s.out.outs = true) (o : Nat) (f : Output → Output) :
    outGet (outMod s o f) o = f (outGet s o) := tget_tmod_same _ w o f

theorem outGet_outMod_other {s : State} (w : tblWf Output.reset s.out.outs = true) {o e : Nat} (h : e ≠ o)
    (f : Output → Output) : outGet (outMod s o f) e = outGet s e := tget_tmod_other _ w h f

theorem outMod_wf {s : State} (w : tblWf Output.reset s.out.outs = true) (o : Nat) (f : Output → Output) :
    tblWf Output.reset (outMod s o f).out.outs = true := tmod_wf _ w o f

@[simp] theorem refreshPump_outs (s : State) : (refreshPump s).out.outs = s.out.outs := rfl
@[simp] theorem outGet_refreshPump (s : State) (o : Nat) : outGet (refreshPump s) o = outGet s o := rfl
@[simp] theorem outGet_auxFollow (s : State) (o : Nat) : outGet (auxFollow s) o = outGet s o := by simp [outGet]

@[simp] theorem jackMod_outs (s : State) (j : Nat) (f : Jack → Jack) : (jackMod s j f).out.outs = s.out.outs :=
  restAux_outs (jackMod_restAux s j f)
@[simp] theorem serveJacks_outs (s : State) : (serveJacks s).out.outs = s.out.outs := restAux_outs (serveJacks_restAux s)

/-- A report of HID bits leaves the outputs alone. -/
theorem hidBit_outs (p k : Nat) (on : Bool) (s : State) : (hidBit p k on s).out.outs = s.out.outs := by
  unfold hidBit hidChange usbMod
  dsimp only
  split <;> rfl

theorem hidRelease_outs (j : Nat) (s : State) : (hidRelease j s).out.outs = s.out.outs := by
  unfold hidRelease
  dsimp only
  split
  · exact foldl_keeps (fun t : State => t.out.outs) _ (fun t p => hidBit_outs p _ _ t) _ _
  · rfl

/-- A classification changes no output. -/
theorem classify_outs (j : Nat) (s : State) : (classify j s).out.outs = s.out.outs := by
  unfold classify releaseButton
  rw [serveJacks_outs, jackMod_outs, jackMod_outs, hidRelease_outs]

@[simp] theorem reclassifyNow_outs (j : Nat) (s : State) : (reclassifyNow j s).out.outs = s.out.outs := by
  unfold reclassifyNow
  split
  · exact classify_outs j s
  · rfl

@[simp] theorem outGet_reclassifyNow (j : Nat) (s : State) (o : Nat) : outGet (reclassifyNow j s) o = outGet s o := by
  simp [outGet]
@[simp] theorem outGet_post (code inst log data : Nat) (cn : Concern) (s : State) (o : Nat) :
    outGet (post code inst log data cn s) o = outGet s o := by simp [outGet]
@[simp] theorem outGet_postOutState (o st cause log : Nat) (s : State) (e : Nat) :
    outGet (postOutState o st cause log s) e = outGet s e := by simp [postOutState]
@[simp] theorem outGet_postOutFault (o cause : Nat) (s : State) (e : Nat) : outGet (postOutFault o cause s) e = outGet s e := by
  simp [postOutFault]

/-- Entering a state writes it and nothing else of the outputs. -/
theorem outGet_enterOut {s : State} (w : tblWf Output.reset s.out.outs = true) (o st e : Nat) :
    outGet (enterOut o st s) e = if e = o then { outGet s o with st := st } else outGet s e := by
  have key : outGet (enterOut o st s) e = outGet (outMod s o (fun q => { q with st := st })) e := by
    unfold enterOut
    dsimp only
    rw [outGet_auxFollow]
    split
    · rw [outGet_refreshPump]
    · rw [outGet_postOutState, outGet_refreshPump]
  rw [key]
  split
  · rename_i h
    subst h
    exact outGet_outMod_same w e _
  · exact outGet_outMod_other w ‹_› _

theorem outGet_stopDriving {s : State} (w : tblWf Output.reset s.out.outs = true) (o e : Nat) :
    outGet (stopDriving o s) e
      = if e = o then
          { outGet s o with driving := false, gate := gateMute (outGet s o).gate, rampPending := none, after := 0 }
        else outGet s e := by
  unfold stopDriving
  simp only [outGet_refreshPump]
  split
  · rename_i h
    subst h
    exact outGet_outMod_same w e _
  · exact outGet_outMod_other w ‹_› _

theorem stopDriving_wf {s : State} (w : tblWf Output.reset s.out.outs = true) (o : Nat) :
    tblWf Output.reset (stopDriving o s).out.outs = true := by
  unfold stopDriving
  rw [refreshPump_outs]
  exact outMod_wf w o _

/-- A fault stops an output, counts it and says its cause (R204). -/
theorem outGet_faultOutput {s : State} (w : tblWf Output.reset s.out.outs = true) (o cause e : Nat) :
    outGet (faultOutput o cause s) e
      = if e = o then
          { outGet s o with driving := false, gate := gateMute (outGet s o).gate, rampPending := none, after := 0, st := 6
                            lastFault := cause, faults := (outGet s o).faults + 1, awaiting := false, resumes := false }
        else outGet s e := by
  unfold faultOutput
  simp only [outGet_reclassifyNow, outGet_auxFollow, outGet_refreshPump, outGet_postOutFault]
  split
  · rename_i h
    subst h
    rw [outGet_outMod_same (stopDriving_wf w _), outGet_stopDriving w]
    simp
  · rw [outGet_outMod_other (stopDriving_wf w _) ‹_›, outGet_stopDriving w]
    simp [*]

/-! ## Jacks -/

theorem jackGet_jackMod_same (s : State) (j : Nat) (f : Jack → Jack) : jackGet (jackMod s j f) j = f (jackGet s j) := by
  unfold jackGet jackMod
  split <;> simp_all

end Sys2Proof.Machine
end

