-- ==== Sys2Proof/Laws/State.lean ====
section
/-! SUPPORT. What every named update of State leaves alone, and the part that a whole update replaces, so that no proof
unfolds an update. -/

namespace Sys2Proof.Machine

@[simp] theorem auxMod_others (s : State) (c : Nat) (f : Aux → Aux) :
    (auxMod s c f).host = s.host ∧ (auxMod s c f).tw0 = s.tw0 ∧ (auxMod s c f).tw1 = s.tw1 ∧ (auxMod s c f).cs = s.cs
    ∧ (auxMod s c f).eng = s.eng ∧ (auxMod s c f).par = s.par ∧ (auxMod s c f).clk = s.clk
    ∧ (auxMod s c f).cap = s.cap ∧ (auxMod s c f).out = s.out ∧ (auxMod s c f).ser = s.ser
    ∧ (auxMod s c f).usbA = s.usbA ∧ (auxMod s c f).usbB = s.usbB ∧ (auxMod s c f).net = s.net
    ∧ (auxMod s c f).meas = s.meas ∧ (auxMod s c f).pwr = s.pwr ∧ (auxMod s c f).hull = s.hull
    ∧ (auxMod s c f).fw = s.fw ∧ (auxMod s c f).free = s.free ∧ (auxMod s c f).pending = s.pending := by
  refine ⟨?_, ?_, ?_, ?_, ?_, ?_, ?_, ?_, ?_, ?_, ?_, ?_, ?_, ?_, ?_, ?_, ?_, ?_, ?_⟩ <;> rfl

@[simp] theorem queueMod_others (s : State) (c : Nat) (f : AuxQueue → AuxQueue) :
    (queueMod s c f).host = s.host ∧ (queueMod s c f).tw0 = s.tw0 ∧ (queueMod s c f).tw1 = s.tw1
    ∧ (queueMod s c f).cs = s.cs ∧ (queueMod s c f).eng = s.eng ∧ (queueMod s c f).par = s.par
    ∧ (queueMod s c f).clk = s.clk ∧ (queueMod s c f).cap = s.cap ∧ (queueMod s c f).out = s.out
    ∧ (queueMod s c f).ser = s.ser ∧ (queueMod s c f).usbA = s.usbA ∧ (queueMod s c f).usbB = s.usbB
    ∧ (queueMod s c f).net = s.net ∧ (queueMod s c f).meas = s.meas ∧ (queueMod s c f).pwr = s.pwr
    ∧ (queueMod s c f).hull = s.hull ∧ (queueMod s c f).fw = s.fw ∧ (queueMod s c f).free = s.free
    ∧ (queueMod s c f).pending = s.pending := by
  refine ⟨?_, ?_, ?_, ?_, ?_, ?_, ?_, ?_, ?_, ?_, ?_, ?_, ?_, ?_, ?_, ?_, ?_, ?_, ?_⟩ <;> rfl

@[simp] theorem micMod_others (s : State) (o : Nat) (f : MicBias → MicBias) :
    (micMod s o f).host = s.host ∧ (micMod s o f).tw0 = s.tw0 ∧ (micMod s o f).tw1 = s.tw1 ∧ (micMod s o f).cs = s.cs
    ∧ (micMod s o f).eng = s.eng ∧ (micMod s o f).par = s.par ∧ (micMod s o f).clk = s.clk
    ∧ (micMod s o f).out = s.out ∧ (micMod s o f).ser = s.ser ∧ (micMod s o f).usbA = s.usbA
    ∧ (micMod s o f).usbB = s.usbB ∧ (micMod s o f).net = s.net ∧ (micMod s o f).aux = s.aux
    ∧ (micMod s o f).meas = s.meas ∧ (micMod s o f).pwr = s.pwr ∧ (micMod s o f).hull = s.hull
    ∧ (micMod s o f).fw = s.fw ∧ (micMod s o f).free = s.free ∧ (micMod s o f).pending = s.pending := by
  unfold micMod; refine ⟨?_, ?_, ?_, ?_, ?_, ?_, ?_, ?_, ?_, ?_, ?_, ?_, ?_, ?_, ?_, ?_, ?_, ?_, ?_⟩ <;> first | rfl | (split <;> rfl)

@[simp] theorem capMod_others (s : State) (c : Nat) (f : Capture → Capture) :
    (capMod s c f).host = s.host ∧ (capMod s c f).tw0 = s.tw0 ∧ (capMod s c f).tw1 = s.tw1 ∧ (capMod s c f).cs = s.cs
    ∧ (capMod s c f).eng = s.eng ∧ (capMod s c f).par = s.par ∧ (capMod s c f).clk = s.clk
    ∧ (capMod s c f).out = s.out ∧ (capMod s c f).ser = s.ser ∧ (capMod s c f).usbA = s.usbA
    ∧ (capMod s c f).usbB = s.usbB ∧ (capMod s c f).net = s.net ∧ (capMod s c f).aux = s.aux
    ∧ (capMod s c f).meas = s.meas ∧ (capMod s c f).pwr = s.pwr ∧ (capMod s c f).hull = s.hull
    ∧ (capMod s c f).fw = s.fw ∧ (capMod s c f).free = s.free ∧ (capMod s c f).pending = s.pending := by
  refine ⟨?_, ?_, ?_, ?_, ?_, ?_, ?_, ?_, ?_, ?_, ?_, ?_, ?_, ?_, ?_, ?_, ?_, ?_, ?_⟩ <;> rfl

@[simp] theorem relayMod_others (s : State) (f : Relay → Relay) :
    (relayMod s f).host = s.host ∧ (relayMod s f).tw0 = s.tw0 ∧ (relayMod s f).tw1 = s.tw1 ∧ (relayMod s f).cs = s.cs
    ∧ (relayMod s f).eng = s.eng ∧ (relayMod s f).par = s.par ∧ (relayMod s f).clk = s.clk
    ∧ (relayMod s f).out = s.out ∧ (relayMod s f).ser = s.ser ∧ (relayMod s f).usbA = s.usbA
    ∧ (relayMod s f).usbB = s.usbB ∧ (relayMod s f).net = s.net ∧ (relayMod s f).aux = s.aux
    ∧ (relayMod s f).meas = s.meas ∧ (relayMod s f).pwr = s.pwr ∧ (relayMod s f).hull = s.hull
    ∧ (relayMod s f).fw = s.fw ∧ (relayMod s f).free = s.free ∧ (relayMod s f).pending = s.pending := by
  refine ⟨?_, ?_, ?_, ?_, ?_, ?_, ?_, ?_, ?_, ?_, ?_, ?_, ?_, ?_, ?_, ?_, ?_, ?_, ?_⟩ <;> rfl

@[simp] theorem modMod_others (s : State) (m : Nat) (f : Modulator → Modulator) :
    (modMod s m f).host = s.host ∧ (modMod s m f).tw0 = s.tw0 ∧ (modMod s m f).tw1 = s.tw1 ∧ (modMod s m f).cs = s.cs
    ∧ (modMod s m f).eng = s.eng ∧ (modMod s m f).par = s.par ∧ (modMod s m f).clk = s.clk
    ∧ (modMod s m f).out = s.out ∧ (modMod s m f).ser = s.ser ∧ (modMod s m f).usbA = s.usbA
    ∧ (modMod s m f).usbB = s.usbB ∧ (modMod s m f).net = s.net ∧ (modMod s m f).aux = s.aux
    ∧ (modMod s m f).meas = s.meas ∧ (modMod s m f).pwr = s.pwr ∧ (modMod s m f).hull = s.hull
    ∧ (modMod s m f).fw = s.fw ∧ (modMod s m f).free = s.free ∧ (modMod s m f).pending = s.pending := by
  unfold modMod; refine ⟨?_, ?_, ?_, ?_, ?_, ?_, ?_, ?_, ?_, ?_, ?_, ?_, ?_, ?_, ?_, ?_, ?_, ?_, ?_⟩ <;> first | rfl | (split <;> rfl)

@[simp] theorem domMod_others (s : State) (d : Nat) (f : Domain → Domain) :
    (domMod s d f).host = s.host ∧ (domMod s d f).tw0 = s.tw0 ∧ (domMod s d f).tw1 = s.tw1 ∧ (domMod s d f).cs = s.cs
    ∧ (domMod s d f).eng = s.eng ∧ (domMod s d f).par = s.par ∧ (domMod s d f).cap = s.cap
    ∧ (domMod s d f).out = s.out ∧ (domMod s d f).ser = s.ser ∧ (domMod s d f).usbA = s.usbA
    ∧ (domMod s d f).usbB = s.usbB ∧ (domMod s d f).net = s.net ∧ (domMod s d f).aux = s.aux
    ∧ (domMod s d f).meas = s.meas ∧ (domMod s d f).pwr = s.pwr ∧ (domMod s d f).hull = s.hull
    ∧ (domMod s d f).fw = s.fw ∧ (domMod s d f).free = s.free ∧ (domMod s d f).pending = s.pending := by
  refine ⟨?_, ?_, ?_, ?_, ?_, ?_, ?_, ?_, ?_, ?_, ?_, ?_, ?_, ?_, ?_, ?_, ?_, ?_, ?_⟩ <;> rfl

@[simp] theorem convMod_others (s : State) (k : Nat) (f : Convoy → Convoy) :
    (convMod s k f).host = s.host ∧ (convMod s k f).tw0 = s.tw0 ∧ (convMod s k f).tw1 = s.tw1
    ∧ (convMod s k f).cs = s.cs ∧ (convMod s k f).eng = s.eng ∧ (convMod s k f).par = s.par
    ∧ (convMod s k f).cap = s.cap ∧ (convMod s k f).out = s.out ∧ (convMod s k f).ser = s.ser
    ∧ (convMod s k f).usbA = s.usbA ∧ (convMod s k f).usbB = s.usbB ∧ (convMod s k f).net = s.net
    ∧ (convMod s k f).aux = s.aux ∧ (convMod s k f).meas = s.meas ∧ (convMod s k f).pwr = s.pwr
    ∧ (convMod s k f).hull = s.hull ∧ (convMod s k f).fw = s.fw ∧ (convMod s k f).free = s.free
    ∧ (convMod s k f).pending = s.pending := by
  refine ⟨?_, ?_, ?_, ?_, ?_, ?_, ?_, ?_, ?_, ?_, ?_, ?_, ?_, ?_, ?_, ?_, ?_, ?_, ?_⟩ <;> rfl

@[simp] theorem memMod_others (s : State) (k m : Nat) (f : Member → Member) :
    (memMod s k m f).host = s.host ∧ (memMod s k m f).tw0 = s.tw0 ∧ (memMod s k m f).tw1 = s.tw1
    ∧ (memMod s k m f).cs = s.cs ∧ (memMod s k m f).eng = s.eng ∧ (memMod s k m f).par = s.par
    ∧ (memMod s k m f).cap = s.cap ∧ (memMod s k m f).out = s.out ∧ (memMod s k m f).ser = s.ser
    ∧ (memMod s k m f).usbA = s.usbA ∧ (memMod s k m f).usbB = s.usbB ∧ (memMod s k m f).net = s.net
    ∧ (memMod s k m f).aux = s.aux ∧ (memMod s k m f).meas = s.meas ∧ (memMod s k m f).pwr = s.pwr
    ∧ (memMod s k m f).hull = s.hull ∧ (memMod s k m f).fw = s.fw ∧ (memMod s k m f).free = s.free
    ∧ (memMod s k m f).pending = s.pending := by
  refine ⟨?_, ?_, ?_, ?_, ?_, ?_, ?_, ?_, ?_, ?_, ?_, ?_, ?_, ?_, ?_, ?_, ?_, ?_, ?_⟩ <;> rfl

@[simp] theorem pllMod_others (s : State) (p : Nat) (f : Pll → Pll) :
    (pllMod s p f).host = s.host ∧ (pllMod s p f).tw0 = s.tw0 ∧ (pllMod s p f).tw1 = s.tw1 ∧ (pllMod s p f).cs = s.cs
    ∧ (pllMod s p f).eng = s.eng ∧ (pllMod s p f).par = s.par ∧ (pllMod s p f).cap = s.cap
    ∧ (pllMod s p f).out = s.out ∧ (pllMod s p f).ser = s.ser ∧ (pllMod s p f).usbA = s.usbA
    ∧ (pllMod s p f).usbB = s.usbB ∧ (pllMod s p f).net = s.net ∧ (pllMod s p f).aux = s.aux
    ∧ (pllMod s p f).meas = s.meas ∧ (pllMod s p f).pwr = s.pwr ∧ (pllMod s p f).hull = s.hull
    ∧ (pllMod s p f).fw = s.fw ∧ (pllMod s p f).free = s.free ∧ (pllMod s p f).pending = s.pending := by
  unfold pllMod; refine ⟨?_, ?_, ?_, ?_, ?_, ?_, ?_, ?_, ?_, ?_, ?_, ?_, ?_, ?_, ?_, ?_, ?_, ?_, ?_⟩ <;> first | rfl | (split <;> rfl)

@[simp] theorem sinkMod_others (s : State) (k : Nat) (f : Sink → Sink) :
    (sinkMod s k f).host = s.host ∧ (sinkMod s k f).tw0 = s.tw0 ∧ (sinkMod s k f).tw1 = s.tw1
    ∧ (sinkMod s k f).cs = s.cs ∧ (sinkMod s k f).par = s.par ∧ (sinkMod s k f).clk = s.clk
    ∧ (sinkMod s k f).cap = s.cap ∧ (sinkMod s k f).out = s.out ∧ (sinkMod s k f).ser = s.ser
    ∧ (sinkMod s k f).usbA = s.usbA ∧ (sinkMod s k f).usbB = s.usbB ∧ (sinkMod s k f).net = s.net
    ∧ (sinkMod s k f).aux = s.aux ∧ (sinkMod s k f).meas = s.meas ∧ (sinkMod s k f).pwr = s.pwr
    ∧ (sinkMod s k f).hull = s.hull ∧ (sinkMod s k f).fw = s.fw ∧ (sinkMod s k f).free = s.free
    ∧ (sinkMod s k f).pending = s.pending := by
  refine ⟨?_, ?_, ?_, ?_, ?_, ?_, ?_, ?_, ?_, ?_, ?_, ?_, ?_, ?_, ?_, ?_, ?_, ?_, ?_⟩ <;> rfl

@[simp] theorem laneMod_others (s : State) (l : Nat) (f : Lane → Lane) :
    (laneMod s l f).host = s.host ∧ (laneMod s l f).tw0 = s.tw0 ∧ (laneMod s l f).tw1 = s.tw1
    ∧ (laneMod s l f).cs = s.cs ∧ (laneMod s l f).par = s.par ∧ (laneMod s l f).clk = s.clk
    ∧ (laneMod s l f).cap = s.cap ∧ (laneMod s l f).out = s.out ∧ (laneMod s l f).ser = s.ser
    ∧ (laneMod s l f).usbA = s.usbA ∧ (laneMod s l f).usbB = s.usbB ∧ (laneMod s l f).net = s.net
    ∧ (laneMod s l f).aux = s.aux ∧ (laneMod s l f).meas = s.meas ∧ (laneMod s l f).pwr = s.pwr
    ∧ (laneMod s l f).hull = s.hull ∧ (laneMod s l f).fw = s.fw ∧ (laneMod s l f).free = s.free
    ∧ (laneMod s l f).pending = s.pending := by
  refine ⟨?_, ?_, ?_, ?_, ?_, ?_, ?_, ?_, ?_, ?_, ?_, ?_, ?_, ?_, ?_, ?_, ?_, ?_, ?_⟩ <;> rfl

@[simp] theorem sectionMod_others (s : State) (k : Nat) (f : Section → Section) :
    (sectionMod s k f).host = s.host ∧ (sectionMod s k f).tw0 = s.tw0 ∧ (sectionMod s k f).tw1 = s.tw1
    ∧ (sectionMod s k f).cs = s.cs ∧ (sectionMod s k f).eng = s.eng ∧ (sectionMod s k f).clk = s.clk
    ∧ (sectionMod s k f).cap = s.cap ∧ (sectionMod s k f).out = s.out ∧ (sectionMod s k f).ser = s.ser
    ∧ (sectionMod s k f).usbA = s.usbA ∧ (sectionMod s k f).usbB = s.usbB ∧ (sectionMod s k f).net = s.net
    ∧ (sectionMod s k f).aux = s.aux ∧ (sectionMod s k f).meas = s.meas ∧ (sectionMod s k f).pwr = s.pwr
    ∧ (sectionMod s k f).hull = s.hull ∧ (sectionMod s k f).fw = s.fw ∧ (sectionMod s k f).free = s.free
    ∧ (sectionMod s k f).pending = s.pending := by
  refine ⟨?_, ?_, ?_, ?_, ?_, ?_, ?_, ?_, ?_, ?_, ?_, ?_, ?_, ?_, ?_, ?_, ?_, ?_, ?_⟩ <;> rfl

@[simp] theorem lineMod_others (s : State) (k : Nat) (f : DelayLine → DelayLine) :
    (lineMod s k f).host = s.host ∧ (lineMod s k f).tw0 = s.tw0 ∧ (lineMod s k f).tw1 = s.tw1
    ∧ (lineMod s k f).cs = s.cs ∧ (lineMod s k f).eng = s.eng ∧ (lineMod s k f).clk = s.clk
    ∧ (lineMod s k f).cap = s.cap ∧ (lineMod s k f).out = s.out ∧ (lineMod s k f).ser = s.ser
    ∧ (lineMod s k f).usbA = s.usbA ∧ (lineMod s k f).usbB = s.usbB ∧ (lineMod s k f).net = s.net
    ∧ (lineMod s k f).aux = s.aux ∧ (lineMod s k f).meas = s.meas ∧ (lineMod s k f).pwr = s.pwr
    ∧ (lineMod s k f).hull = s.hull ∧ (lineMod s k f).fw = s.fw ∧ (lineMod s k f).free = s.free
    ∧ (lineMod s k f).pending = s.pending := by
  refine ⟨?_, ?_, ?_, ?_, ?_, ?_, ?_, ?_, ?_, ?_, ?_, ?_, ?_, ?_, ?_, ?_, ?_, ?_, ?_⟩ <;> rfl

@[simp] theorem meterMod_others (s : State) (k : Nat) (f : Meter → Meter) :
    (meterMod s k f).host = s.host ∧ (meterMod s k f).tw0 = s.tw0 ∧ (meterMod s k f).tw1 = s.tw1
    ∧ (meterMod s k f).cs = s.cs ∧ (meterMod s k f).eng = s.eng ∧ (meterMod s k f).clk = s.clk
    ∧ (meterMod s k f).cap = s.cap ∧ (meterMod s k f).out = s.out ∧ (meterMod s k f).ser = s.ser
    ∧ (meterMod s k f).usbA = s.usbA ∧ (meterMod s k f).usbB = s.usbB ∧ (meterMod s k f).net = s.net
    ∧ (meterMod s k f).aux = s.aux ∧ (meterMod s k f).meas = s.meas ∧ (meterMod s k f).pwr = s.pwr
    ∧ (meterMod s k f).hull = s.hull ∧ (meterMod s k f).fw = s.fw ∧ (meterMod s k f).free = s.free
    ∧ (meterMod s k f).pending = s.pending := by
  refine ⟨?_, ?_, ?_, ?_, ?_, ?_, ?_, ?_, ?_, ?_, ?_, ?_, ?_, ?_, ?_, ?_, ?_, ?_, ?_⟩ <;> rfl

@[simp] theorem fwMod_others (s : State) (f : FwState → FwState) :
    (fwMod s f).host = s.host ∧ (fwMod s f).tw0 = s.tw0 ∧ (fwMod s f).tw1 = s.tw1 ∧ (fwMod s f).cs = s.cs
    ∧ (fwMod s f).eng = s.eng ∧ (fwMod s f).par = s.par ∧ (fwMod s f).clk = s.clk ∧ (fwMod s f).cap = s.cap
    ∧ (fwMod s f).out = s.out ∧ (fwMod s f).ser = s.ser ∧ (fwMod s f).usbA = s.usbA ∧ (fwMod s f).usbB = s.usbB
    ∧ (fwMod s f).net = s.net ∧ (fwMod s f).aux = s.aux ∧ (fwMod s f).meas = s.meas ∧ (fwMod s f).pwr = s.pwr
    ∧ (fwMod s f).hull = s.hull ∧ (fwMod s f).free = s.free ∧ (fwMod s f).pending = s.pending := by
  refine ⟨?_, ?_, ?_, ?_, ?_, ?_, ?_, ?_, ?_, ?_, ?_, ?_, ?_, ?_, ?_, ?_, ?_, ?_, ?_⟩ <;> rfl

@[simp] theorem sessMod_others (s : State) (f : Session → Session) :
    (sessMod s f).host = s.host ∧ (sessMod s f).tw0 = s.tw0 ∧ (sessMod s f).tw1 = s.tw1 ∧ (sessMod s f).cs = s.cs
    ∧ (sessMod s f).eng = s.eng ∧ (sessMod s f).par = s.par ∧ (sessMod s f).clk = s.clk ∧ (sessMod s f).cap = s.cap
    ∧ (sessMod s f).out = s.out ∧ (sessMod s f).ser = s.ser ∧ (sessMod s f).usbA = s.usbA
    ∧ (sessMod s f).usbB = s.usbB ∧ (sessMod s f).net = s.net ∧ (sessMod s f).aux = s.aux
    ∧ (sessMod s f).meas = s.meas ∧ (sessMod s f).pwr = s.pwr ∧ (sessMod s f).hull = s.hull
    ∧ (sessMod s f).free = s.free ∧ (sessMod s f).pending = s.pending := by
  refine ⟨?_, ?_, ?_, ?_, ?_, ?_, ?_, ?_, ?_, ?_, ?_, ?_, ?_, ?_, ?_, ?_, ?_, ?_, ?_⟩ <;> rfl

@[simp] theorem gptpMod_others (s : State) (f : Gptp → Gptp) :
    (gptpMod s f).host = s.host ∧ (gptpMod s f).tw0 = s.tw0 ∧ (gptpMod s f).tw1 = s.tw1 ∧ (gptpMod s f).cs = s.cs
    ∧ (gptpMod s f).eng = s.eng ∧ (gptpMod s f).par = s.par ∧ (gptpMod s f).clk = s.clk ∧ (gptpMod s f).cap = s.cap
    ∧ (gptpMod s f).out = s.out ∧ (gptpMod s f).ser = s.ser ∧ (gptpMod s f).usbA = s.usbA
    ∧ (gptpMod s f).usbB = s.usbB ∧ (gptpMod s f).aux = s.aux ∧ (gptpMod s f).meas = s.meas
    ∧ (gptpMod s f).pwr = s.pwr ∧ (gptpMod s f).hull = s.hull ∧ (gptpMod s f).fw = s.fw ∧ (gptpMod s f).free = s.free
    ∧ (gptpMod s f).pending = s.pending := by
  refine ⟨?_, ?_, ?_, ?_, ?_, ?_, ?_, ?_, ?_, ?_, ?_, ?_, ?_, ?_, ?_, ?_, ?_, ?_, ?_⟩ <;> rfl

@[simp] theorem measMod_others (s : State) (f : MeasState → MeasState) :
    (measMod s f).host = s.host ∧ (measMod s f).tw0 = s.tw0 ∧ (measMod s f).tw1 = s.tw1 ∧ (measMod s f).cs = s.cs
    ∧ (measMod s f).eng = s.eng ∧ (measMod s f).par = s.par ∧ (measMod s f).clk = s.clk ∧ (measMod s f).cap = s.cap
    ∧ (measMod s f).out = s.out ∧ (measMod s f).ser = s.ser ∧ (measMod s f).usbA = s.usbA
    ∧ (measMod s f).usbB = s.usbB ∧ (measMod s f).net = s.net ∧ (measMod s f).aux = s.aux ∧ (measMod s f).pwr = s.pwr
    ∧ (measMod s f).hull = s.hull ∧ (measMod s f).fw = s.fw ∧ (measMod s f).free = s.free
    ∧ (measMod s f).pending = s.pending := by
  refine ⟨?_, ?_, ?_, ?_, ?_, ?_, ?_, ?_, ?_, ?_, ?_, ?_, ?_, ?_, ?_, ?_, ?_, ?_, ?_⟩ <;> rfl

@[simp] theorem sarMod_others (s : State) (c : Nat) (f : Sar → Sar) :
    (sarMod s c f).host = s.host ∧ (sarMod s c f).tw0 = s.tw0 ∧ (sarMod s c f).tw1 = s.tw1 ∧ (sarMod s c f).cs = s.cs
    ∧ (sarMod s c f).eng = s.eng ∧ (sarMod s c f).par = s.par ∧ (sarMod s c f).clk = s.clk
    ∧ (sarMod s c f).cap = s.cap ∧ (sarMod s c f).out = s.out ∧ (sarMod s c f).ser = s.ser
    ∧ (sarMod s c f).usbA = s.usbA ∧ (sarMod s c f).usbB = s.usbB ∧ (sarMod s c f).net = s.net
    ∧ (sarMod s c f).aux = s.aux ∧ (sarMod s c f).pwr = s.pwr ∧ (sarMod s c f).hull = s.hull
    ∧ (sarMod s c f).fw = s.fw ∧ (sarMod s c f).free = s.free ∧ (sarMod s c f).pending = s.pending := by
  unfold sarMod; refine ⟨?_, ?_, ?_, ?_, ?_, ?_, ?_, ?_, ?_, ?_, ?_, ?_, ?_, ?_, ?_, ?_, ?_, ?_, ?_⟩ <;> first | rfl | (split <;> rfl)

@[simp] theorem injMod_others (s : State) (j : Nat) (f : Inj → Inj) :
    (injMod s j f).host = s.host ∧ (injMod s j f).tw0 = s.tw0 ∧ (injMod s j f).tw1 = s.tw1 ∧ (injMod s j f).cs = s.cs
    ∧ (injMod s j f).eng = s.eng ∧ (injMod s j f).par = s.par ∧ (injMod s j f).clk = s.clk
    ∧ (injMod s j f).cap = s.cap ∧ (injMod s j f).out = s.out ∧ (injMod s j f).ser = s.ser
    ∧ (injMod s j f).usbA = s.usbA ∧ (injMod s j f).usbB = s.usbB ∧ (injMod s j f).net = s.net
    ∧ (injMod s j f).aux = s.aux ∧ (injMod s j f).pwr = s.pwr ∧ (injMod s j f).hull = s.hull
    ∧ (injMod s j f).fw = s.fw ∧ (injMod s j f).free = s.free ∧ (injMod s j f).pending = s.pending := by
  refine ⟨?_, ?_, ?_, ?_, ?_, ?_, ?_, ?_, ?_, ?_, ?_, ?_, ?_, ?_, ?_, ?_, ?_, ?_, ?_⟩ <;> rfl

@[simp] theorem netMod_others (s : State) (f : NetState → NetState) :
    (netMod s f).host = s.host ∧ (netMod s f).tw0 = s.tw0 ∧ (netMod s f).tw1 = s.tw1 ∧ (netMod s f).cs = s.cs
    ∧ (netMod s f).eng = s.eng ∧ (netMod s f).par = s.par ∧ (netMod s f).clk = s.clk ∧ (netMod s f).cap = s.cap
    ∧ (netMod s f).out = s.out ∧ (netMod s f).ser = s.ser ∧ (netMod s f).usbA = s.usbA ∧ (netMod s f).usbB = s.usbB
    ∧ (netMod s f).aux = s.aux ∧ (netMod s f).meas = s.meas ∧ (netMod s f).pwr = s.pwr ∧ (netMod s f).hull = s.hull
    ∧ (netMod s f).fw = s.fw ∧ (netMod s f).free = s.free ∧ (netMod s f).pending = s.pending := by
  refine ⟨?_, ?_, ?_, ?_, ?_, ?_, ?_, ?_, ?_, ?_, ?_, ?_, ?_, ?_, ?_, ?_, ?_, ?_, ?_⟩ <;> rfl

@[simp] theorem macMod_others (s : State) (f : Mac → Mac) :
    (macMod s f).host = s.host ∧ (macMod s f).tw0 = s.tw0 ∧ (macMod s f).tw1 = s.tw1 ∧ (macMod s f).cs = s.cs
    ∧ (macMod s f).eng = s.eng ∧ (macMod s f).par = s.par ∧ (macMod s f).clk = s.clk ∧ (macMod s f).cap = s.cap
    ∧ (macMod s f).out = s.out ∧ (macMod s f).ser = s.ser ∧ (macMod s f).usbA = s.usbA ∧ (macMod s f).usbB = s.usbB
    ∧ (macMod s f).aux = s.aux ∧ (macMod s f).meas = s.meas ∧ (macMod s f).pwr = s.pwr ∧ (macMod s f).hull = s.hull
    ∧ (macMod s f).fw = s.fw ∧ (macMod s f).free = s.free ∧ (macMod s f).pending = s.pending := by
  refine ⟨?_, ?_, ?_, ?_, ?_, ?_, ?_, ?_, ?_, ?_, ?_, ?_, ?_, ?_, ?_, ?_, ?_, ?_, ?_⟩ <;> rfl

@[simp] theorem spanMod_others (s : State) (f : HullSpan → HullSpan) :
    (spanMod s f).host = s.host ∧ (spanMod s f).tw0 = s.tw0 ∧ (spanMod s f).tw1 = s.tw1 ∧ (spanMod s f).cs = s.cs
    ∧ (spanMod s f).eng = s.eng ∧ (spanMod s f).par = s.par ∧ (spanMod s f).clk = s.clk ∧ (spanMod s f).cap = s.cap
    ∧ (spanMod s f).out = s.out ∧ (spanMod s f).ser = s.ser ∧ (spanMod s f).usbA = s.usbA
    ∧ (spanMod s f).usbB = s.usbB ∧ (spanMod s f).net = s.net ∧ (spanMod s f).aux = s.aux
    ∧ (spanMod s f).meas = s.meas ∧ (spanMod s f).pwr = s.pwr ∧ (spanMod s f).fw = s.fw ∧ (spanMod s f).free = s.free
    ∧ (spanMod s f).pending = s.pending := by
  refine ⟨?_, ?_, ?_, ?_, ?_, ?_, ?_, ?_, ?_, ?_, ?_, ?_, ?_, ?_, ?_, ?_, ?_, ?_, ?_⟩ <;> rfl

@[simp] theorem outMod_others (s : State) (o : Nat) (f : Output → Output) :
    (outMod s o f).host = s.host ∧ (outMod s o f).tw0 = s.tw0 ∧ (outMod s o f).tw1 = s.tw1 ∧ (outMod s o f).cs = s.cs
    ∧ (outMod s o f).eng = s.eng ∧ (outMod s o f).par = s.par ∧ (outMod s o f).clk = s.clk
    ∧ (outMod s o f).cap = s.cap ∧ (outMod s o f).ser = s.ser ∧ (outMod s o f).usbA = s.usbA
    ∧ (outMod s o f).usbB = s.usbB ∧ (outMod s o f).net = s.net ∧ (outMod s o f).aux = s.aux
    ∧ (outMod s o f).meas = s.meas ∧ (outMod s o f).pwr = s.pwr ∧ (outMod s o f).hull = s.hull
    ∧ (outMod s o f).fw = s.fw ∧ (outMod s o f).free = s.free ∧ (outMod s o f).pending = s.pending := by
  refine ⟨?_, ?_, ?_, ?_, ?_, ?_, ?_, ?_, ?_, ?_, ?_, ?_, ?_, ?_, ?_, ?_, ?_, ?_, ?_⟩ <;> rfl

@[simp] theorem jackMod_others (s : State) (j : Nat) (f : Jack → Jack) :
    (jackMod s j f).host = s.host ∧ (jackMod s j f).tw0 = s.tw0 ∧ (jackMod s j f).tw1 = s.tw1
    ∧ (jackMod s j f).cs = s.cs ∧ (jackMod s j f).eng = s.eng ∧ (jackMod s j f).par = s.par
    ∧ (jackMod s j f).clk = s.clk ∧ (jackMod s j f).cap = s.cap ∧ (jackMod s j f).ser = s.ser
    ∧ (jackMod s j f).usbA = s.usbA ∧ (jackMod s j f).usbB = s.usbB ∧ (jackMod s j f).net = s.net
    ∧ (jackMod s j f).aux = s.aux ∧ (jackMod s j f).meas = s.meas ∧ (jackMod s j f).pwr = s.pwr
    ∧ (jackMod s j f).hull = s.hull ∧ (jackMod s j f).fw = s.fw ∧ (jackMod s j f).free = s.free
    ∧ (jackMod s j f).pending = s.pending := by
  unfold jackMod; refine ⟨?_, ?_, ?_, ?_, ?_, ?_, ?_, ?_, ?_, ?_, ?_, ?_, ?_, ?_, ?_, ?_, ?_, ?_, ?_⟩ <;> first | rfl | (split <;> rfl)

@[simp] theorem ovMod_others (s : State) (n : Nat) (f : Overlay → Overlay) :
    (ovMod s n f).host = s.host ∧ (ovMod s n f).tw0 = s.tw0 ∧ (ovMod s n f).tw1 = s.tw1 ∧ (ovMod s n f).eng = s.eng
    ∧ (ovMod s n f).par = s.par ∧ (ovMod s n f).clk = s.clk ∧ (ovMod s n f).cap = s.cap ∧ (ovMod s n f).out = s.out
    ∧ (ovMod s n f).ser = s.ser ∧ (ovMod s n f).usbA = s.usbA ∧ (ovMod s n f).usbB = s.usbB
    ∧ (ovMod s n f).net = s.net ∧ (ovMod s n f).aux = s.aux ∧ (ovMod s n f).meas = s.meas ∧ (ovMod s n f).pwr = s.pwr
    ∧ (ovMod s n f).hull = s.hull ∧ (ovMod s n f).fw = s.fw ∧ (ovMod s n f).free = s.free
    ∧ (ovMod s n f).pending = s.pending := by
  refine ⟨?_, ?_, ?_, ?_, ?_, ?_, ?_, ?_, ?_, ?_, ?_, ?_, ?_, ?_, ?_, ?_, ?_, ?_, ?_⟩ <;> rfl

@[simp] theorem rampMod_others (s : State) (k : Nat) (f : RouteRamp → RouteRamp) :
    (rampMod s k f).host = s.host ∧ (rampMod s k f).tw0 = s.tw0 ∧ (rampMod s k f).tw1 = s.tw1
    ∧ (rampMod s k f).cs = s.cs ∧ (rampMod s k f).par = s.par ∧ (rampMod s k f).clk = s.clk
    ∧ (rampMod s k f).cap = s.cap ∧ (rampMod s k f).out = s.out ∧ (rampMod s k f).ser = s.ser
    ∧ (rampMod s k f).usbA = s.usbA ∧ (rampMod s k f).usbB = s.usbB ∧ (rampMod s k f).net = s.net
    ∧ (rampMod s k f).aux = s.aux ∧ (rampMod s k f).meas = s.meas ∧ (rampMod s k f).pwr = s.pwr
    ∧ (rampMod s k f).hull = s.hull ∧ (rampMod s k f).fw = s.fw ∧ (rampMod s k f).free = s.free
    ∧ (rampMod s k f).pending = s.pending := by
  refine ⟨?_, ?_, ?_, ?_, ?_, ?_, ?_, ?_, ?_, ?_, ?_, ?_, ?_, ?_, ?_, ?_, ?_, ?_, ?_⟩ <;> rfl

@[simp] theorem slotMod_others (s : State) (k : Nat) (f : Slot → Slot) :
    (slotMod s k f).host = s.host ∧ (slotMod s k f).tw0 = s.tw0 ∧ (slotMod s k f).tw1 = s.tw1
    ∧ (slotMod s k f).cs = s.cs ∧ (slotMod s k f).eng = s.eng ∧ (slotMod s k f).clk = s.clk
    ∧ (slotMod s k f).cap = s.cap ∧ (slotMod s k f).out = s.out ∧ (slotMod s k f).ser = s.ser
    ∧ (slotMod s k f).usbA = s.usbA ∧ (slotMod s k f).usbB = s.usbB ∧ (slotMod s k f).net = s.net
    ∧ (slotMod s k f).aux = s.aux ∧ (slotMod s k f).meas = s.meas ∧ (slotMod s k f).pwr = s.pwr
    ∧ (slotMod s k f).hull = s.hull ∧ (slotMod s k f).fw = s.fw ∧ (slotMod s k f).free = s.free
    ∧ (slotMod s k f).pending = s.pending := by
  refine ⟨?_, ?_, ?_, ?_, ?_, ?_, ?_, ?_, ?_, ?_, ?_, ?_, ?_, ?_, ?_, ?_, ?_, ?_, ?_⟩ <;> rfl

@[simp] theorem limiterMod_others (s : State) (k : Nat) (f : Limiter → Limiter) :
    (limiterMod s k f).host = s.host ∧ (limiterMod s k f).tw0 = s.tw0 ∧ (limiterMod s k f).tw1 = s.tw1
    ∧ (limiterMod s k f).cs = s.cs ∧ (limiterMod s k f).eng = s.eng ∧ (limiterMod s k f).clk = s.clk
    ∧ (limiterMod s k f).cap = s.cap ∧ (limiterMod s k f).out = s.out ∧ (limiterMod s k f).ser = s.ser
    ∧ (limiterMod s k f).usbA = s.usbA ∧ (limiterMod s k f).usbB = s.usbB ∧ (limiterMod s k f).net = s.net
    ∧ (limiterMod s k f).aux = s.aux ∧ (limiterMod s k f).meas = s.meas ∧ (limiterMod s k f).pwr = s.pwr
    ∧ (limiterMod s k f).hull = s.hull ∧ (limiterMod s k f).fw = s.fw ∧ (limiterMod s k f).free = s.free
    ∧ (limiterMod s k f).pending = s.pending := by
  refine ⟨?_, ?_, ?_, ?_, ?_, ?_, ?_, ?_, ?_, ?_, ?_, ?_, ?_, ?_, ?_, ?_, ?_, ?_, ?_⟩ <;> rfl

@[simp] theorem protectMod_others (s : State) (i : Nat) (f : Protect → Protect) :
    (protectMod s i f).host = s.host ∧ (protectMod s i f).tw0 = s.tw0 ∧ (protectMod s i f).tw1 = s.tw1
    ∧ (protectMod s i f).cs = s.cs ∧ (protectMod s i f).eng = s.eng ∧ (protectMod s i f).clk = s.clk
    ∧ (protectMod s i f).cap = s.cap ∧ (protectMod s i f).out = s.out ∧ (protectMod s i f).ser = s.ser
    ∧ (protectMod s i f).usbA = s.usbA ∧ (protectMod s i f).usbB = s.usbB ∧ (protectMod s i f).net = s.net
    ∧ (protectMod s i f).aux = s.aux ∧ (protectMod s i f).meas = s.meas ∧ (protectMod s i f).pwr = s.pwr
    ∧ (protectMod s i f).hull = s.hull ∧ (protectMod s i f).fw = s.fw ∧ (protectMod s i f).free = s.free
    ∧ (protectMod s i f).pending = s.pending := by
  unfold protectMod; refine ⟨?_, ?_, ?_, ?_, ?_, ?_, ?_, ?_, ?_, ?_, ?_, ?_, ?_, ?_, ?_, ?_, ?_, ?_, ?_⟩ <;> first | rfl | (split <;> rfl)

@[simp] theorem pwrMod_others (s : State) (f : PowerState → PowerState) :
    (pwrMod s f).host = s.host ∧ (pwrMod s f).tw0 = s.tw0 ∧ (pwrMod s f).tw1 = s.tw1 ∧ (pwrMod s f).cs = s.cs
    ∧ (pwrMod s f).eng = s.eng ∧ (pwrMod s f).par = s.par ∧ (pwrMod s f).clk = s.clk ∧ (pwrMod s f).cap = s.cap
    ∧ (pwrMod s f).out = s.out ∧ (pwrMod s f).ser = s.ser ∧ (pwrMod s f).usbA = s.usbA ∧ (pwrMod s f).usbB = s.usbB
    ∧ (pwrMod s f).net = s.net ∧ (pwrMod s f).aux = s.aux ∧ (pwrMod s f).meas = s.meas ∧ (pwrMod s f).hull = s.hull
    ∧ (pwrMod s f).fw = s.fw ∧ (pwrMod s f).free = s.free ∧ (pwrMod s f).pending = s.pending := by
  refine ⟨?_, ?_, ?_, ?_, ?_, ?_, ?_, ?_, ?_, ?_, ?_, ?_, ?_, ?_, ?_, ?_, ?_, ?_, ?_⟩ <;> rfl

@[simp] theorem saiMod_others (s : State) (n : Nat) (f : Sai → Sai) :
    (saiMod s n f).host = s.host ∧ (saiMod s n f).tw0 = s.tw0 ∧ (saiMod s n f).tw1 = s.tw1 ∧ (saiMod s n f).cs = s.cs
    ∧ (saiMod s n f).eng = s.eng ∧ (saiMod s n f).par = s.par ∧ (saiMod s n f).clk = s.clk
    ∧ (saiMod s n f).cap = s.cap ∧ (saiMod s n f).out = s.out ∧ (saiMod s n f).usbA = s.usbA
    ∧ (saiMod s n f).usbB = s.usbB ∧ (saiMod s n f).net = s.net ∧ (saiMod s n f).aux = s.aux
    ∧ (saiMod s n f).meas = s.meas ∧ (saiMod s n f).pwr = s.pwr ∧ (saiMod s n f).hull = s.hull
    ∧ (saiMod s n f).fw = s.fw ∧ (saiMod s n f).free = s.free ∧ (saiMod s n f).pending = s.pending := by
  refine ⟨?_, ?_, ?_, ?_, ?_, ?_, ?_, ?_, ?_, ?_, ?_, ?_, ?_, ?_, ?_, ?_, ?_, ?_, ?_⟩ <;> rfl

@[simp] theorem spdifMod_others (s : State) (f : Spdif → Spdif) :
    (spdifMod s f).host = s.host ∧ (spdifMod s f).tw0 = s.tw0 ∧ (spdifMod s f).tw1 = s.tw1 ∧ (spdifMod s f).cs = s.cs
    ∧ (spdifMod s f).eng = s.eng ∧ (spdifMod s f).par = s.par ∧ (spdifMod s f).clk = s.clk
    ∧ (spdifMod s f).cap = s.cap ∧ (spdifMod s f).out = s.out ∧ (spdifMod s f).usbA = s.usbA
    ∧ (spdifMod s f).usbB = s.usbB ∧ (spdifMod s f).net = s.net ∧ (spdifMod s f).aux = s.aux
    ∧ (spdifMod s f).meas = s.meas ∧ (spdifMod s f).pwr = s.pwr ∧ (spdifMod s f).hull = s.hull
    ∧ (spdifMod s f).fw = s.fw ∧ (spdifMod s f).free = s.free ∧ (spdifMod s f).pending = s.pending := by
  refine ⟨?_, ?_, ?_, ?_, ?_, ?_, ?_, ?_, ?_, ?_, ?_, ?_, ?_, ?_, ?_, ?_, ?_, ?_, ?_⟩ <;> rfl

@[simp] theorem chanMod_others (s : State) (ch : Nat) (f : SpdifChan → SpdifChan) :
    (chanMod s ch f).host = s.host ∧ (chanMod s ch f).tw0 = s.tw0 ∧ (chanMod s ch f).tw1 = s.tw1
    ∧ (chanMod s ch f).cs = s.cs ∧ (chanMod s ch f).eng = s.eng ∧ (chanMod s ch f).par = s.par
    ∧ (chanMod s ch f).clk = s.clk ∧ (chanMod s ch f).cap = s.cap ∧ (chanMod s ch f).out = s.out
    ∧ (chanMod s ch f).usbA = s.usbA ∧ (chanMod s ch f).usbB = s.usbB ∧ (chanMod s ch f).net = s.net
    ∧ (chanMod s ch f).aux = s.aux ∧ (chanMod s ch f).meas = s.meas ∧ (chanMod s ch f).pwr = s.pwr
    ∧ (chanMod s ch f).hull = s.hull ∧ (chanMod s ch f).fw = s.fw ∧ (chanMod s ch f).free = s.free
    ∧ (chanMod s ch f).pending = s.pending := by
  refine ⟨?_, ?_, ?_, ?_, ?_, ?_, ?_, ?_, ?_, ?_, ?_, ?_, ?_, ?_, ?_, ?_, ?_, ?_, ?_⟩ <;> rfl

@[simp] theorem streamMod_others (s : State) (n : Nat) (f : Stream → Stream) :
    (streamMod s n f).host = s.host ∧ (streamMod s n f).tw0 = s.tw0 ∧ (streamMod s n f).tw1 = s.tw1
    ∧ (streamMod s n f).cs = s.cs ∧ (streamMod s n f).eng = s.eng ∧ (streamMod s n f).par = s.par
    ∧ (streamMod s n f).clk = s.clk ∧ (streamMod s n f).cap = s.cap ∧ (streamMod s n f).out = s.out
    ∧ (streamMod s n f).ser = s.ser ∧ (streamMod s n f).usbA = s.usbA ∧ (streamMod s n f).usbB = s.usbB
    ∧ (streamMod s n f).aux = s.aux ∧ (streamMod s n f).meas = s.meas ∧ (streamMod s n f).pwr = s.pwr
    ∧ (streamMod s n f).hull = s.hull ∧ (streamMod s n f).fw = s.fw ∧ (streamMod s n f).free = s.free
    ∧ (streamMod s n f).pending = s.pending := by
  refine ⟨?_, ?_, ?_, ?_, ?_, ?_, ?_, ?_, ?_, ?_, ?_, ?_, ?_, ?_, ?_, ?_, ?_, ?_, ?_⟩ <;> rfl

@[simp] theorem crfMod_others (s : State) (k : Nat) (f : Stream → Stream) :
    (crfMod s k f).host = s.host ∧ (crfMod s k f).tw0 = s.tw0 ∧ (crfMod s k f).tw1 = s.tw1 ∧ (crfMod s k f).cs = s.cs
    ∧ (crfMod s k f).eng = s.eng ∧ (crfMod s k f).par = s.par ∧ (crfMod s k f).clk = s.clk
    ∧ (crfMod s k f).cap = s.cap ∧ (crfMod s k f).out = s.out ∧ (crfMod s k f).ser = s.ser
    ∧ (crfMod s k f).usbA = s.usbA ∧ (crfMod s k f).usbB = s.usbB ∧ (crfMod s k f).aux = s.aux
    ∧ (crfMod s k f).meas = s.meas ∧ (crfMod s k f).pwr = s.pwr ∧ (crfMod s k f).hull = s.hull
    ∧ (crfMod s k f).fw = s.fw ∧ (crfMod s k f).free = s.free ∧ (crfMod s k f).pending = s.pending := by
  refine ⟨?_, ?_, ?_, ?_, ?_, ?_, ?_, ?_, ?_, ?_, ?_, ?_, ?_, ?_, ?_, ?_, ?_, ?_, ?_⟩ <;> rfl

@[simp] theorem twMod_others (s : State) (p : Fin 2) (f : TwPort → TwPort) :
    (twMod s p f).host = s.host ∧ (twMod s p f).cs = s.cs ∧ (twMod s p f).eng = s.eng ∧ (twMod s p f).par = s.par
    ∧ (twMod s p f).clk = s.clk ∧ (twMod s p f).cap = s.cap ∧ (twMod s p f).out = s.out ∧ (twMod s p f).ser = s.ser
    ∧ (twMod s p f).usbA = s.usbA ∧ (twMod s p f).usbB = s.usbB ∧ (twMod s p f).net = s.net
    ∧ (twMod s p f).aux = s.aux ∧ (twMod s p f).meas = s.meas ∧ (twMod s p f).pwr = s.pwr
    ∧ (twMod s p f).hull = s.hull ∧ (twMod s p f).fw = s.fw ∧ (twMod s p f).free = s.free
    ∧ (twMod s p f).pending = s.pending := by
  unfold twMod; unfold twSet; refine ⟨?_, ?_, ?_, ?_, ?_, ?_, ?_, ?_, ?_, ?_, ?_, ?_, ?_, ?_, ?_, ?_, ?_, ?_⟩ <;> first | rfl | (split <;> rfl)

@[simp] theorem usbMod_others (s : State) (p : Nat) (f : Usb → Usb) :
    (usbMod s p f).host = s.host ∧ (usbMod s p f).tw0 = s.tw0 ∧ (usbMod s p f).tw1 = s.tw1 ∧ (usbMod s p f).cs = s.cs
    ∧ (usbMod s p f).eng = s.eng ∧ (usbMod s p f).par = s.par ∧ (usbMod s p f).clk = s.clk
    ∧ (usbMod s p f).cap = s.cap ∧ (usbMod s p f).out = s.out ∧ (usbMod s p f).ser = s.ser
    ∧ (usbMod s p f).net = s.net ∧ (usbMod s p f).aux = s.aux ∧ (usbMod s p f).meas = s.meas
    ∧ (usbMod s p f).pwr = s.pwr ∧ (usbMod s p f).hull = s.hull ∧ (usbMod s p f).fw = s.fw
    ∧ (usbMod s p f).free = s.free ∧ (usbMod s p f).pending = s.pending := by
  unfold usbMod; refine ⟨?_, ?_, ?_, ?_, ?_, ?_, ?_, ?_, ?_, ?_, ?_, ?_, ?_, ?_, ?_, ?_, ?_, ?_⟩ <;> first | rfl | (split <;> rfl)

@[simp] theorem usbStreamMod_others (s : State) (p i : Nat) (f : UsbStream → UsbStream) :
    (usbStreamMod s p i f).host = s.host ∧ (usbStreamMod s p i f).tw0 = s.tw0 ∧ (usbStreamMod s p i f).tw1 = s.tw1
    ∧ (usbStreamMod s p i f).cs = s.cs ∧ (usbStreamMod s p i f).eng = s.eng ∧ (usbStreamMod s p i f).par = s.par
    ∧ (usbStreamMod s p i f).clk = s.clk ∧ (usbStreamMod s p i f).cap = s.cap ∧ (usbStreamMod s p i f).out = s.out
    ∧ (usbStreamMod s p i f).ser = s.ser ∧ (usbStreamMod s p i f).net = s.net ∧ (usbStreamMod s p i f).aux = s.aux
    ∧ (usbStreamMod s p i f).meas = s.meas ∧ (usbStreamMod s p i f).pwr = s.pwr ∧ (usbStreamMod s p i f).hull = s.hull
    ∧ (usbStreamMod s p i f).fw = s.fw ∧ (usbStreamMod s p i f).free = s.free
    ∧ (usbStreamMod s p i f).pending = s.pending := by
  unfold usbStreamMod; unfold usbMod; refine ⟨?_, ?_, ?_, ?_, ?_, ?_, ?_, ?_, ?_, ?_, ?_, ?_, ?_, ?_, ?_, ?_, ?_, ?_⟩ <;> first | rfl | (split <;> rfl)

@[simp] theorem netMod_net (s : State) (f : NetState → NetState) : (netMod s f).net = f s.net := rfl
@[simp] theorem measMod_meas (s : State) (f : MeasState → MeasState) : (measMod s f).meas = f s.meas := rfl
@[simp] theorem fwMod_fw (s : State) (f : FwState → FwState) : (fwMod s f).fw = f s.fw := rfl
@[simp] theorem pwrMod_pwr (s : State) (f : PowerState → PowerState) : (pwrMod s f).pwr = f s.pwr := rfl
@[simp] theorem macMod_mac (s : State) (f : Mac → Mac) : (macMod s f).net.mac = f s.net.mac := rfl
@[simp] theorem gptpMod_gptp (s : State) (f : Gptp → Gptp) : (gptpMod s f).net.gptp = f s.net.gptp := rfl
@[simp] theorem sessMod_session (s : State) (f : Session → Session) : (sessMod s f).fw.session = f s.fw.session := rfl
@[simp] theorem relayMod_relay (s : State) (f : Relay → Relay) : (relayMod s f).cap.relay = f s.cap.relay := rfl
@[simp] theorem spdifMod_spdif (s : State) (f : Spdif → Spdif) : (spdifMod s f).ser.spdif = f s.ser.spdif := rfl
@[simp] theorem spanMod_span (s : State) (f : HullSpan → HullSpan) : (spanMod s f).hull.span = f s.hull.span := rfl
@[simp] theorem usbMod_get_zero (s : State) (f : Usb → Usb) : usbGet (usbMod s 0 f) 0 = f (usbGet s 0) := rfl
@[simp] theorem usbMod_get_one (s : State) (f : Usb → Usb) : usbGet (usbMod s 1 f) 1 = f (usbGet s 1) := rfl
@[simp] theorem usbMod_keeps_one (s : State) (f : Usb → Usb) : usbGet (usbMod s 0 f) 1 = usbGet s 1 := rfl
@[simp] theorem usbMod_keeps_zero (s : State) (f : Usb → Usb) : usbGet (usbMod s 1 f) 0 = usbGet s 0 := rfl
@[simp] theorem sarMod_get_zero (s : State) (f : Sar → Sar) : sarGet (sarMod s 0 f) 0 = f (sarGet s 0) := rfl
@[simp] theorem sarMod_get_one (s : State) (f : Sar → Sar) : sarGet (sarMod s 1 f) 1 = f (sarGet s 1) := rfl

/-! ## Reads after an update of a table -/

theorem domGet_domMod_same {s : State} (w : tblWf Domain.off s.clk.domains = true) (d : Nat) (f : Domain → Domain) :
    domGet (domMod s d f) d = f (domGet s d) := tget_tmod_same _ w d f

theorem domGet_domMod_other {s : State} (w : tblWf Domain.off s.clk.domains = true) {d e : Nat} (h : e ≠ d)
    (f : Domain → Domain) : domGet (domMod s d f) e = domGet s e := tget_tmod_other _ w h f

theorem auxGet_auxMod_same {s : State} (w : tblWf Aux.reset s.aux.chans = true) (c : Nat) (f : Aux → Aux) :
    auxGet (auxMod s c f) c = f (auxGet s c) := tget_tmod_same _ w c f

theorem auxGet_auxMod_other {s : State} (w : tblWf Aux.reset s.aux.chans = true) {c e : Nat} (h : e ≠ c) (f : Aux → Aux) :
    auxGet (auxMod s c f) e = auxGet s e := tget_tmod_other _ w h f

theorem slotGet_slotMod_same {s : State} (w : tblWf Slot.reset s.par.slots = true) (k : Nat) (f : Slot → Slot) :
    slotGet (slotMod s k f) k = f (slotGet s k) := tget_tmod_same _ w k f

theorem slotGet_slotMod_other {s : State} (w : tblWf Slot.reset s.par.slots = true) {k e : Nat} (h : e ≠ k) (f : Slot → Slot) :
    slotGet (slotMod s k f) e = slotGet s e := tget_tmod_other _ w h f

theorem streamGet_streamMod_same {s : State} (w : tblWf Stream.off s.net.streams = true) (n : Nat) (f : Stream → Stream) :
    streamGet (streamMod s n f) n = f (streamGet s n) := tget_tmod_same _ w n f

theorem streamGet_streamMod_other {s : State} (w : tblWf Stream.off s.net.streams = true) {n e : Nat} (h : e ≠ n)
    (f : Stream → Stream) : streamGet (streamMod s n f) e = streamGet s e := tget_tmod_other _ w h f

theorem convGet_convMod_same {s : State} (w : tblWf Convoy.absent s.clk.convoys = true) (k : Nat) (f : Convoy → Convoy) :
    convGet (convMod s k f) k = f (convGet s k) := tget_tmod_same _ w k f

theorem convGet_convMod_other {s : State} (w : tblWf Convoy.absent s.clk.convoys = true) {k e : Nat} (h : e ≠ k)
    (f : Convoy → Convoy) : convGet (convMod s k f) e = convGet s e := tget_tmod_other _ w h f

theorem capGet_capMod_same {s : State} (w : tblWf Capture.reset s.cap.chans = true) (c : Nat) (f : Capture → Capture) :
    capGet (capMod s c f) c = f (capGet s c) := tget_tmod_same _ w c f

theorem capGet_capMod_other {s : State} (w : tblWf Capture.reset s.cap.chans = true) {c e : Nat} (h : e ≠ c)
    (f : Capture → Capture) : capGet (capMod s c f) e = capGet s e := tget_tmod_other _ w h f

theorem queueGet_queueMod_same {s : State} (w : tblWf AuxQueue.reset s.aux.queues = true) (c : Nat) (f : AuxQueue → AuxQueue) :
    queueGet (queueMod s c f) c = f (queueGet s c) := tget_tmod_same _ w c f

theorem queueGet_queueMod_other {s : State} (w : tblWf AuxQueue.reset s.aux.queues = true) {c e : Nat} (h : e ≠ c)
    (f : AuxQueue → AuxQueue) : queueGet (queueMod s c f) e = queueGet s e := tget_tmod_other _ w h f

theorem saiGet_saiMod_same {s : State} (w : tblWf Sai.off s.ser.sais = true) (n : Nat) (f : Sai → Sai) :
    saiGet (saiMod s n f) n = f (saiGet s n) := tget_tmod_same _ w n f

theorem saiGet_saiMod_other {s : State} (w : tblWf Sai.off s.ser.sais = true) {n e : Nat} (h : e ≠ n)
    (f : Sai → Sai) : saiGet (saiMod s n f) e = saiGet s e := tget_tmod_other _ w h f

theorem sinkGet_sinkMod_same {s : State} (w : tblWf Sink.reset s.eng.sinks = true) (k : Nat) (f : Sink → Sink) :
    sinkGet (sinkMod s k f) k = f (sinkGet s k) := tget_tmod_same _ w k f

theorem sinkGet_sinkMod_other {s : State} (w : tblWf Sink.reset s.eng.sinks = true) {k e : Nat} (h : e ≠ k)
    (f : Sink → Sink) : sinkGet (sinkMod s k f) e = sinkGet s e := tget_tmod_other _ w h f

theorem limiterGet_limiterMod_same {s : State} (w : tblWf Limiter.absent s.par.limiters = true) (k : Nat) (f : Limiter → Limiter) :
    limiterGet (limiterMod s k f) k = f (limiterGet s k) := tget_tmod_same _ w k f

theorem limiterGet_limiterMod_other {s : State} (w : tblWf Limiter.absent s.par.limiters = true) {k e : Nat} (h : e ≠ k)
    (f : Limiter → Limiter) : limiterGet (limiterMod s k f) e = limiterGet s e := tget_tmod_other _ w h f

theorem lineGet_lineMod_same {s : State} (w : tblWf DelayLine.absent s.par.lines = true) (k : Nat) (f : DelayLine → DelayLine) :
    lineGet (lineMod s k f) k = f (lineGet s k) := tget_tmod_same _ w k f

theorem lineGet_lineMod_other {s : State} (w : tblWf DelayLine.absent s.par.lines = true) {k e : Nat} (h : e ≠ k)
    (f : DelayLine → DelayLine) : lineGet (lineMod s k f) e = lineGet s e := tget_tmod_other _ w h f

theorem sectionGet_sectionMod_same {s : State} (w : tblWf Section.reset s.par.sections = true) (k : Nat) (f : Section → Section) :
    sectionGet (sectionMod s k f) k = f (sectionGet s k) := tget_tmod_same _ w k f

theorem sectionGet_sectionMod_other {s : State} (w : tblWf Section.reset s.par.sections = true) {k e : Nat} (h : e ≠ k)
    (f : Section → Section) : sectionGet (sectionMod s k f) e = sectionGet s e := tget_tmod_other _ w h f

theorem meterGet_meterMod_same {s : State} (w : tblWf Meter.absent s.par.meters = true) (k : Nat) (f : Meter → Meter) :
    meterGet (meterMod s k f) k = f (meterGet s k) := tget_tmod_same _ w k f

theorem meterGet_meterMod_other {s : State} (w : tblWf Meter.absent s.par.meters = true) {k e : Nat} (h : e ≠ k)
    (f : Meter → Meter) : meterGet (meterMod s k f) e = meterGet s e := tget_tmod_other _ w h f

theorem ovGet_ovMod_same {s : State} (w : tblWf Overlay.inactive s.cs.overlays = true) (n : Nat) (f : Overlay → Overlay) :
    ovGet (ovMod s n f) n = f (ovGet s n) := tget_tmod_same _ w n f

theorem ovGet_ovMod_other {s : State} (w : tblWf Overlay.inactive s.cs.overlays = true) {n e : Nat} (h : e ≠ n)
    (f : Overlay → Overlay) : ovGet (ovMod s n f) e = ovGet s e := tget_tmod_other _ w h f

theorem injGet_injMod_same {s : State} (w : tblWf Inj.reset s.meas.injs = true) (j : Nat) (f : Inj → Inj) :
    injGet (injMod s j f) j = f (injGet s j) := tget_tmod_same _ w j f

theorem injGet_injMod_other {s : State} (w : tblWf Inj.reset s.meas.injs = true) {j e : Nat} (h : e ≠ j)
    (f : Inj → Inj) : injGet (injMod s j f) e = injGet s e := tget_tmod_other _ w h f

theorem crfGet_crfMod_same {s : State} (w : tblWf Stream.off s.net.crfs = true) (k : Nat) (f : Stream → Stream) :
    crfGet (crfMod s k f) k = f (crfGet s k) := tget_tmod_same _ w k f

theorem crfGet_crfMod_other {s : State} (w : tblWf Stream.off s.net.crfs = true) {k e : Nat} (h : e ≠ k)
    (f : Stream → Stream) : crfGet (crfMod s k f) e = crfGet s e := tget_tmod_other _ w h f

end Sys2Proof.Machine
end

