-- ==== Sys2Proof/Tests/States.lean ====
section
/-! SUPPORT. Small states and payloads that the tests and the witnesses share: they are built by hand, and no run need
reach them. -/

namespace Sys2Proof.Tests

open Sys2Proof Sys2Proof.Machine

def h0 : Issue := { ctx := .h0, tag := 0, v1 := false }
def h1 : Issue := { ctx := .h1, tag := 7, v1 := true }
def h2 : Issue := { ctx := .h2, tag := 1, v1 := false }
def h3 : Issue := { ctx := .h3, tag := 2, v1 := false }

/-- H0, H1 at level 1, and H2 open. -/
def hosts : HostState := { HostState.reset with
  ctxs := [(0, { CtxState.closed with isOpen := true }), (1, { CtxState.closed with isOpen := true, level1 := true }),
    (2, { CtxState.closed with isOpen := true })] }

theorem hosts_inv : HostInv hosts := by
  refine ⟨by decide, ?_, by decide, by decide, by decide, by decide, by decide, by decide⟩
  intro n
  match n with
  | 0 => decide
  | 1 => decide
  | 2 => decide
  | n + 3 => simp [hosts, tget, queueOk, CtxState.closed]

/-- H0 owns instance 1 of class 1. -/
def owned : HostState := { hosts with owners := [(257, 0)] }

theorem owned_inv : HostInv owned :=
  ⟨hosts_inv.ctxsWf, hosts_inv.queues, hosts_inv.logLow, hosts_inv.logHigh, hosts_inv.raisedMax, hosts_inv.open0,
    hosts_inv.open1, by decide⟩

/-- H4 is open beside H0 and H1. -/
def hosts4 : HostState := { hosts with
  ctxs := [(0, { CtxState.closed with isOpen := true }), (1, { CtxState.closed with isOpen := true }),
    (4, { CtxState.closed with isOpen := true })] }

theorem h4_inv : HostInv hosts4 := by
  refine ⟨by decide, ?_, by decide, by decide, by decide, by decide, by decide, by decide⟩
  intro n
  match n with
  | 0 => decide
  | 1 => decide
  | 2 => decide
  | 3 => decide
  | 4 => decide
  | n + 5 => simp [hosts4, tget, queueOk, CtxState.closed]

/-- A part in ACTIVE without a chart. -/
def active : State := { State.reset with host := hosts, pwr := { PowerState.reset with dev := .active } }

theorem clocksWf_of {s : State} (h1 : tblWf Domain.off s.clk.domains = true) (h2 : tblWf Convoy.absent s.clk.convoys = true)
    (h3 : s.clk.convoys.all (fun e => tblWf Member.idle e.2.members) = true) : ClocksWf s := by
  refine ⟨h1, h2, fun k => ?_⟩
  have key : ∀ l : Tbl Convoy, l.all (fun e => tblWf Member.idle e.2.members) = true →
      tblWf Member.idle (tget Convoy.absent l k).members = true := by
    intro l
    induction l with
    | nil => intro _; rfl
    | cons a r ih =>
      intro h
      simp only [List.all_cons, Bool.and_eq_true] at h
      unfold tget
      repeat' split
      all_goals first | exact h.1 | exact ih h.2 | rfl
  exact key _ h3

/-! ## A chart -/

/-- Two parameter slots, three biquad sections, two delay lines of 100 words, limiters 0, 64 and 65, a meter, ASRC engine 0, and every
external port, clock domain and the first two convoys. -/
def baseData : List Byte :=
  [2, 0, 2, 0, 0, 0, 0, 0] ++ zeros 16
  ++ [3, 0, 3, 0, 0, 0, 0, 0] ++ zeros 144
  ++ [4, 0, 2, 0, 0, 0, 0, 0] ++ zeros 32
  ++ [5, 0, 1, 0, 0, 0, 0, 0] ++ zeros 32
  ++ [5, 0, 2, 0, 64, 0, 0, 0] ++ zeros 64
  ++ [6, 0, 1, 0, 0, 0, 0, 0] ++ zeros 8
  ++ [8, 0, 16, 0, 0, 0, 0, 0] ++ zeros 64
  ++ [9, 0, 41, 0, 0, 0, 0, 0] ++ zeros 2624
  ++ [9, 0, 2, 0, 64, 0, 0, 0] ++ zeros 128
  ++ [0]

/-- An overlay with this gate slot and no entries. -/
def ovData (gate : Byte) : List Byte := [0, 0, 0, 0, gate] ++ zeros 1851 ++ [0]

/-- USB port A: interfaces 1 to 4; interfaces 1 and 3 have a setting 1 without an overlay. -/
def usbData : List Byte :=
  [1, 0, 2, 0, 80, 0, 9, 0, 80, 0, 9, 0, 80, 0, 9, 0] ++ zeros 12 ++ [1, 2, 3, 4] ++ zeros 8
  ++ [1, 1, 3, 1, 2, 0xFF, 0, 0] ++ [3, 1, 3, 1, 2, 0xFF, 0, 0] ++ zeros 24 ++ [9, 2, 0, 0, 0, 1, 0, 0, 0] ++ [0]

/-- The network entity: talker 0, listener 0 and the CRF talker with this many timestamps in a frame. -/
def netData (n : Byte) : List Byte :=
  [1, 0, 0, 0, 0, 0, 0, 1] ++ zeros 56 ++ [1, 0xFF, 0, 0, 0, 0, 8, 0] ++ zeros 24 ++ zeros 992
  ++ [1, 0xFF] ++ zeros 30 ++ zeros 992 ++ [1, 0, 160, 0, n] ++ zeros 27 ++ zeros 32 ++ [0]

/-- Overlays 0 and 1 are a switchable pair, binding 0 deactivates overlay 0, and a reduced variant is present. -/
def chart : Chart :=
  { format := 3, chartId := 9, revision := 1, rate := 1, flags := 0, requiredSi := 20000, reducedSi := 20000
    sections := [{ type := 1, index := 0, data := baseData }, { type := 2, index := 0, data := ovData 100 },
      { type := 2, index := 1, data := ovData 101 }, { type := 3, index := 0, data := [0, 0, 1, 0, 0, 0, 0, 0, 0, 1] },
      { type := 4, index := 0, data := [1, 0, 0, 0, 0, 0, 0, 0] ++ [1, 1, 0, 2, 0, 0, 1] ++ zeros 9 },
      { type := 6, index := 0, data := usbData }, { type := 7, index := 0, data := netData 6 },
      { type := 9, index := 0, data := zeros 8 ++ [0] }] }

/-- Overlays 0 and 1, group 0, and every port and unit that a command here needs are shared. -/
def shared : HostState := { hosts with
  owners := ((List.range 29).map (fun i => (0x0100 + i, 0xFE))) ++ [(0x0200, 0xFE), (0x0201, 0xFE), (0x0300, 0xFE)]
    ++ ((List.range 2).map (fun i => (0x0400 + i, 0xFE))) ++ ((List.range 8).map (fun i => (0x0500 + i, 0xFE)))
    ++ ((List.range 16).map (fun i => (0x0600 + i, 0xFE))) ++ ((List.range 2).map (fun i => (0x0700 + i, 0xFE)))
    ++ ((List.range 64).map (fun i => (0x0800 + i, 0xFE))) ++ [(0x0900, 0xFE), (0x0A00, 0xFE), (0x0B00, 0xFE)] }

/-- A part in ACTIVE whose chart is in force, with these port entries in the Near bank. -/
def charted (entries : Tbl (List Byte)) : State := { active with
  host := shared
  cs := { ChartState.reset with chart := some chart, near := { Bank.empty with entries := entries } }
  eng := { EngineState.reset with ticking := true } }

/-- An ingress convoy of ports 6 and 4 that runs at the fabric rate. -/
def convoyEntry : List Byte := [1, 0, 2, 0, 64, 0, 32, 0, 6, 0, 2, 0, 4, 0, 1, 0] ++ zeros 48

/-- A chart with that convoy alone. -/
def convoyChart : Chart := { chart with
  sections := [{ type := 1, index := 0, data := [9, 0, 1, 0, 64, 0, 0, 0] ++ convoyEntry ++ [0] }] }

/-! ## A signed image header -/

/-- Each half of the signature. -/
def signedHalf : List Byte :=
  [0x68, 0x1E, 0x69, 0x88, 0x16, 0xDD, 0xEE, 0xA4, 0x74, 0x2C, 0xDC, 0x61, 0xCE, 0x9F, 0x8B, 0x4E, 0x9B, 0x39, 0x58, 0xD5,
    0x79, 0x91, 0x61, 0x70, 0x84, 0xA0, 0xED, 0x58, 0x80, 0x72, 0x96, 0xD3]

/-- A vendor key under which the header holds. -/
def signedKey : Nat × Nat :=
  (0xa3d331b12b4719534ce1699010ced99ddbc875156c74d72352ec4344481f559a,
    0xacaefe331f08251fedbe266f619ed0954993eebf647fe4438fa5e9f9b44bfccf)

/-- The first chunk of block 0, with the identity, two blocks and the field CRC. -/
def signedFirst : List Byte :=
  [75, 78, 73, 77, 1, 0, 0, 0, 2, 0, 0, 0, 0, 0, 0, 0, 2, 0, 0, 0, 0, 0, 255, 255] ++ zeros 100 ++ [147, 4, 122, 20] ++ zeros 384

def signedChunks : Tbl (List Byte) :=
  [(1, zeros 512), (2, zeros 512), (3, zeros 128 ++ signedHalf ++ signedHalf), (4, [0]), (5, [0]), (6, [0]), (7, [0])]

/-- Block 0; what lies past its end reads as 0. -/
def signedHeader : List Byte :=
  signedFirst ++ (zeros 512 ++ (zeros 512 ++ ((zeros 128 ++ signedHalf ++ signedHalf) ++ [0, 0, 0, 0])))

theorem uN_zero (p : List Byte) (n : Nat) : ∀ i, (∀ k, i ≤ k → u8 p k = 0) → uN p i n = 0 := by
  induction n with
  | zero => intros; rfl
  | succ n ih => intro i h; rw [uN, h i (Nat.le_refl i), ih (i + 1) (fun k hk => h k (by omega))]

theorem signedHeader_length : signedHeader.length = 1732 := by decide +kernel

theorem signedHeader_tail (k : Nat) (h : 1728 ≤ k) : u8 signedHeader k = 0 := by
  by_cases h1 : 1732 ≤ k
  · rw [u8, List.getD_eq_default _ _ (by rw [signedHeader_length]; exact h1)]; rfl
  · have key : u8 signedHeader 1728 = 0 ∧ u8 signedHeader 1729 = 0 ∧ u8 signedHeader 1730 = 0 ∧ u8 signedHeader 1731 = 0 := by
      decide +kernel
    have : k = 1728 ∨ k = 1729 ∨ k = 1730 ∨ k = 1731 := by omega
    rcases this with rfl | rfl | rfl | rfl
    · exact key.1
    · exact key.2.1
    · exact key.2.2.1
    · exact key.2.2.2

theorem signedHeader_crc : crc32c (signedHeader.take 124) = 343540883 := by
  have s0 : signedHeader.take 124
      = [75, 78, 73, 77, 1, 0, 0, 0, 2, 0, 0, 0, 0, 0, 0, 0, 2, 0, 0, 0, 0, 0, 255, 255]
        ++ zeros 20 ++ zeros 20 ++ zeros 20 ++ zeros 20 ++ zeros 20 := by decide +kernel
  have s1 : ([75, 78, 73, 77, 1, 0, 0, 0, 2, 0, 0, 0, 0, 0, 0, 0, 2, 0, 0, 0, 0, 0, 255, 255] : List Byte).foldl crc32cByte 0xFFFFFFFF
      = 1091843673 := by decide +kernel
  have s2 : (zeros 20).foldl crc32cByte 1091843673 = 2142930771 := by decide +kernel
  have s3 : (zeros 20).foldl crc32cByte 2142930771 = 1562181765 := by decide +kernel
  have s4 : (zeros 20).foldl crc32cByte 1562181765 = 137496871 := by decide +kernel
  have s5 : (zeros 20).foldl crc32cByte 137496871 = 3859847986 := by decide +kernel
  have s6 : (zeros 20).foldl crc32cByte 3859847986 = 3951426412 := by decide +kernel
  rw [crc32c, s0]
  simp only [List.foldl_append, s1, s2, s3, s4, s5, s6]
  decide +kernel

theorem signedHeader_shape : headerShape signedHeader = true := by
  rw [headerShape, show zeroAt signedHeader 1728 2368 = true by rw [zeroAt, uN_zero _ _ _ signedHeader_tail]; rfl,
    signedHeader_crc]
  decide +kernel

theorem signedHeader_signature :
    ecdsaValid signedKey (sha256 (signedHeader.take 1664)) (beN signedHeader 1664 32) (beN signedHeader 1696 32) = true := by
  decide +kernel

theorem signedHeader_accepted (s : State) (h1 : s.fw.keys = [(0, signedKey)]) (h2 : s.fw.revoked = 0) (h3 : s.fw.counter = 0)
    (h4 : s.cs.chart = none) : headerCheck s signedHeader = none := by
  have k0 : u8 signedHeader 18 = 0 := by decide +kernel
  have k1 : vendorKey s 0 = some signedKey := by simp [vendorKey, h1]
  have k2 : u8 signedHeader 32 = 0 := by decide +kernel
  simp [headerCheck, signedHeader_shape, headerKey, signatureHolds, headerChart, k0, k1, k2, h2, h3, h4, firstRefusal,
    signedHeader_signature, bit]

theorem signedHeader_whole (s : State) (h : s.fw.image.blocks = [(0, signedHeader)]) : imageWhole s = true := by
  have h0 : storedHeader s = signedHeader := by rw [storedHeader, h]; rfl
  have h1 : blockCount signedHeader = 2 := by decide +kernel
  have h2 : blockEntry signedHeader 1 = 0 := by decide +kernel
  have h3 : tget [] s.fw.image.blocks 1 = [] := by rw [h]; rfl
  simp [imageWhole, h0, h1, signedHeader_shape, List.range_succ, h2, h3, crc32c]

theorem crc_zeros (n : Nat) : (zeros n).foldl crc32cByte 0 = 0 := by
  induction n with
  | zero => rfl
  | succ n ih => rw [zeros, List.replicate_succ, List.foldl_cons, show crc32cByte 0 0 = 0 by decide]; exact ih

theorem crc_block (n : Nat) : crc32c ([0xFF, 0xFF, 0xFF, 0xFF] ++ zeros n) = 0xFFFFFFFF := by
  rw [crc32c, List.foldl_append, show ([0xFF, 0xFF, 0xFF, 0xFF] : List Byte).foldl crc32cByte 0xFFFFFFFF = 0 by decide +kernel,
    crc_zeros]
  rfl

/-- A hull-log record of a kind. -/
def hullRecord (k : Nat) : HullRecord :=
  { kind := k, flags := 0, vcore := 0, limit := 0, endHour := 1, siMin := 0, siMean := 0, marginMin := 0, tjMax := 0, tjMean := 0,
    stress := 0, brown := (0, 0, 0), overrun := 0, monitored := 0, whole := true }

end Sys2Proof.Tests
end

