-- ==== Sys2Proof/Tests/Witnesses.lean ====
section
/-! SUPPORT. For every statement with hypotheses, states and operands that meet the hypotheses of each of its clauses. -/

namespace Sys2Proof.Tests

open Sys2Proof Sys2Proof.Machine

set_option Elab.async false
set_option linter.unusedVariables false

theorem witness_StepRunsFrontCommand :
    (∃ (i : Instr) (l : List Instr) (s : State), s.pending = i :: l) :=
  ⟨.echo h0 [], [], { active with pending := [.echo h0 []] }, by decide +kernel⟩

theorem witness_EmptyQueueIdles :
    (∃ (s : State), s.pending = []) :=
  ⟨active, by decide +kernel⟩

theorem witness_HostInvariantKept :
    (∃ (s t : State), HostInv s.host ∧ step s = .next t) :=
  ⟨active, active, hosts_inv, rfl⟩

theorem witness_QueueTakesOrCountsEvents :
    (∃ (q : List Event) (e : Event), q.length < 63)
    ∧ (∃ (q : List Event) (e : Event) (l : _), q.getLast? = some l ∧ 63 ≤ q.length ∧ l.code = 0x0201)
    ∧ (∃ (q : List Event) (e : Event) (l : _), q.getLast? = some l ∧ 63 ≤ q.length ∧ l.code ≠ 0x0201)
    ∧ (∃ (q : List Event) (e : Event), queueOk q = true)
    ∧ (∃ (q : List Event) (e : Event) (code inst stamp log data n : Nat) (s : State), tblWf CtxState.closed s.host.ctxs = true) :=
  ⟨⟨[], { code := 0x0101, inst := 0, seq := 0, stamp := 0, log := 0, data := 0 }, by decide +kernel⟩,
    ⟨List.replicate 63 { code := 0x0201, inst := 0, seq := 0, stamp := 0, log := 0, data := 1 }, { code := 0x0101, inst := 0, seq := 0, stamp := 0, log := 0, data := 0 }, { code := 0x0201, inst := 0, seq := 0, stamp := 0, log := 0, data := 1 }, by decide +kernel⟩,
    ⟨List.replicate 63 { code := 0x0101, inst := 0, seq := 0, stamp := 0, log := 0, data := 0 }, { code := 0x0101, inst := 0, seq := 0, stamp := 0, log := 0, data := 0 }, { code := 0x0101, inst := 0, seq := 0, stamp := 0, log := 0, data := 0 }, by decide +kernel⟩,
    ⟨[], { code := 0x0101, inst := 0, seq := 0, stamp := 0, log := 0, data := 0 }, by decide +kernel⟩,
    ⟨[], { code := 0x0101, inst := 0, seq := 0, stamp := 0, log := 0, data := 0 }, 0x0D01, 0, 0, 0, 0, 0, active, by decide +kernel⟩⟩

theorem witness_EventGoesToItsContexts :
    (∃ (code inst log data n : Nat) (cn : Concern) (s : State), HostInv s.host ∧ s.pwr.dev ≠ .harbour ∧ s.host.absent = false ∧ n < 5 ∧ eventFor s code cn n = true)
    ∧ (∃ (code inst log data n : Nat) (cn : Concern) (s : State), HostInv s.host ∧ s.pwr.dev ≠ .harbour ∧ s.host.absent = false ∧ n < 5 ∧ eventFor s code cn n = false) :=
  ⟨⟨0x0D01, 0, 0, 0, 0, .none, active, hosts_inv, by decide +kernel, by decide +kernel, by decide +kernel, by decide +kernel⟩,
    ⟨0x0D01, 0, 0, 0, 4, .none, active, hosts_inv, by decide +kernel, by decide +kernel, by decide +kernel, by decide +kernel⟩⟩

theorem witness_SystemReadsAnswer :
    (∃ (o : Issue) (p : List Byte) (s : State) (c : _), s.cs.chart = some c ∧ Accepted 0x0103 o p noCheck s)
    ∧ (∃ (o : Issue) (p : List Byte) (s : State), s.cs.chart = none ∧ Accepted 0x0103 o p noCheck s)
    ∧ (∃ (o : Issue) (p : List Byte) (s : State), Accepted 0x0104 o p noCheck s)
    ∧ (∃ (o : Issue) (p : List Byte) (s : State), Accepted 0x0108 o p (getMooringsCheck p) s)
    ∧ (∃ (o : Issue) (p : List Byte) (s : State), Accepted 0x010B o p noCheck s)
    ∧ (∃ (o : Issue) (p : List Byte) (s : State), Accepted 0x010C o p noCheck s)
    ∧ (∃ (o : Issue) (p : List Byte) (s : State), Accepted 0x0201 o p (eventReadCheck p) s)
    ∧ (∃ (o : Issue) (p : List Byte) (s : State), Accepted 0x0204 o p noCheck s) :=
  ⟨⟨h0, [], { active with cs := { ChartState.reset with chart := some { format := 3, chartId := 1, revision := 0, rate := 1, flags := 0, requiredSi := 0, reducedSi := 0, sections := [] } } }, { format := 3, chartId := 1, revision := 0, rate := 1, flags := 0, requiredSi := 0, reducedSi := 0, sections := [] }, by unfold Accepted Taken; decide +kernel⟩,
    ⟨h0, [], active, by unfold Accepted Taken; decide +kernel⟩,
    ⟨h1, [], active, by unfold Accepted Taken; decide +kernel⟩,
    ⟨h0, [3, 0], active, by unfold Accepted Taken; decide +kernel⟩,
    ⟨h0, [], active, by unfold Accepted Taken; decide +kernel⟩,
    ⟨h0, [1, 2, 3], active, by unfold Accepted Taken; decide +kernel⟩,
    ⟨h0, [63, 0], active, by unfold Accepted Taken; decide +kernel⟩,
    ⟨h0, [], active, by unfold Accepted Taken; decide +kernel⟩⟩

theorem witness_HelloOpensByeCloses :
    (∃ (o : Issue) (p : List Byte) (s : State), HostInv s.host ∧ Accepted 0x0101 o p (helloCheck o p) s ∧ isOpen s (ctxNum o.ctx) = true)
    ∧ (∃ (o : Issue) (p : List Byte) (s : State), HostInv s.host ∧ Accepted 0x0101 o p (helloCheck o p) s ∧ isOpen s (ctxNum o.ctx) = false)
    ∧ (∃ (o : Issue) (p : List Byte) (s : State), HostInv s.host ∧ Accepted 0x0102 o p noCheck s ∧ ctxNum o.ctx < 2)
    ∧ (∃ (o : Issue) (p : List Byte) (s : State), HostInv s.host ∧ Accepted 0x0102 o p noCheck s ∧ 2 ≤ ctxNum o.ctx) :=
  ⟨⟨h0, [1, 0, 0, 0], active, hosts_inv, by unfold Accepted Taken; decide +kernel, by decide +kernel⟩,
    ⟨h3, [0, 0, 0, 0], active, hosts_inv, by unfold Accepted Taken; decide +kernel, by decide +kernel⟩,
    ⟨h0, [], active, hosts_inv, by unfold Accepted Taken; decide +kernel, by decide +kernel⟩,
    ⟨h2, [], active, hosts_inv, by unfold Accepted Taken; decide +kernel, by decide +kernel⟩⟩

theorem witness_MooringCommandsAllOrNone :
    (∃ (o : Issue) (p : List Byte) (s : State), HostInv s.host ∧ Accepted 0x0105 o p (idCountCheck p) s ∧ (∀ id ∈ listedIds p, claimStatus s o.ctx id = 0))
    ∧ (∃ (o : Issue) (p : List Byte) (s : State), HostInv s.host ∧ Accepted 0x0106 o p (idCountCheck p) s ∧ (∀ id ∈ listedIds p, releaseStatus s o.ctx id = 0))
    ∧ (∃ (o : Issue) (p : List Byte) (s : State), HostInv s.host ∧ Accepted 0x0107 o p (idCountCheck p) s ∧ (∀ id ∈ listedIds p, forceStatus s id = 0))
    ∧ (∃ (o : Issue) (p : List Byte) (s : State) (i : Nat), HostInv s.host ∧ i < (listedIds p).length ∧ Accepted 0x0105 o p (idCountCheck p) s ∧ claimStatus s o.ctx ((listedIds p).getD i 0) ≠ 0 ∧ (∀ j < i, claimStatus s o.ctx ((listedIds p).getD j 0) = 0))
    ∧ (∃ (o : Issue) (p : List Byte) (s : State) (i : Nat), HostInv s.host ∧ i < (listedIds p).length ∧ Accepted 0x0106 o p (idCountCheck p) s ∧ releaseStatus s o.ctx ((listedIds p).getD i 0) ≠ 0 ∧ (∀ j < i, releaseStatus s o.ctx ((listedIds p).getD j 0) = 0))
    ∧ (∃ (o : Issue) (p : List Byte) (s : State) (i : Nat), HostInv s.host ∧ i < (listedIds p).length ∧ Accepted 0x0107 o p (idCountCheck p) s ∧ forceStatus s ((listedIds p).getD i 0) ≠ 0 ∧ (∀ j < i, forceStatus s ((listedIds p).getD j 0) = 0)) :=
  ⟨⟨h0, [1, 0, 1, 1], active, hosts_inv, by unfold Accepted Taken; decide +kernel, by decide +kernel⟩,
    ⟨h0, [1, 0, 1, 1], { active with host := owned }, owned_inv, by unfold Accepted Taken; decide +kernel, by decide +kernel⟩,
    ⟨h0, [1, 0, 1, 1], active, hosts_inv, by unfold Accepted Taken; decide +kernel, by decide +kernel⟩,
    ⟨h1, [1, 0, 1, 1], { active with host := owned }, 0, owned_inv, by decide +kernel, by unfold Accepted Taken; decide +kernel, by decide +kernel, by decide +kernel⟩,
    ⟨h0, [1, 0, 1, 1], active, 0, hosts_inv, by decide +kernel, by unfold Accepted Taken; decide +kernel, by decide +kernel, by decide +kernel⟩,
    ⟨h0, [1, 0, 0xFF, 0xFF], active, 0, hosts_inv, by decide +kernel, by unfold Accepted Taken; decide +kernel, by decide +kernel, by decide +kernel⟩⟩

theorem witness_SystemCommandsTakeEffect :
    (∃ (o : Issue) (p : List Byte) (s : State), HostInv s.host ∧ Accepted 0x0109 o p (setSupervisorCheck p) s)
    ∧ (∃ (o : Issue) (p : List Byte) (s : State), HostInv s.host ∧ Accepted 0x010A o p (irqAssignCheck p) s)
    ∧ (∃ (o : Issue) (p : List Byte) (s : State), HostInv s.host ∧ Accepted 0x010D o p (resetCheck p) s)
    ∧ (∃ (o : Issue) (p : List Byte) (s : State), HostInv s.host ∧ Accepted 0x0202 o p (eventAckCheck p) s)
    ∧ (∃ (o : Issue) (p : List Byte) (s : State), HostInv s.host ∧ Accepted 0x0203 o p (eventSubscribeCheck p) s)
    ∧ (∃ (o : Issue) (p : List Byte) (s : State), HostInv s.host ∧ Accepted 0x0205 o p noCheck s) :=
  ⟨⟨h0, [2, 0, 0, 0], active, hosts_inv, by unfold Accepted Taken; decide +kernel⟩,
    ⟨h0, [1, 31, 0, 0], active, hosts_inv, by unfold Accepted Taken; decide +kernel⟩,
    ⟨h0, [0xC3, 0xA5, 0, 0], active, hosts_inv, by unfold Accepted Taken; decide +kernel⟩,
    ⟨h0, [64, 0], active, hosts_inv, by unfold Accepted Taken; decide +kernel⟩,
    ⟨h0, [0, 0], active, hosts_inv, by unfold Accepted Taken; decide +kernel⟩,
    ⟨h0, [], active, hosts_inv, by unfold Accepted Taken; decide +kernel⟩⟩

theorem witness_RefusedCommandHasNoEffect :
    (∃ (i : Instr) (s : State) (op : Nat) (o : Issue) (p : List Byte) (check : State → Option Nat) (st : _), hostRow i = some (op, o, p, check) ∧ Taken op o p s ∧ (refusal op o.ctx p (takeLog s)).or (check (takeLog s)) = some st)
    ∧ (∃ (i : Instr) (s : State) (op : Nat) (o : Issue) (p : List Byte) (check : State → Option Nat), hostRow i = some (op, o, p, check) ∧ cpServes s o.ctx = false) :=
  ⟨⟨.eventRead h0 [0, 0], active, 0x0201, h0, [0, 0], eventReadCheck [0, 0], stBadParam, rfl, by unfold Taken; decide +kernel, by decide +kernel⟩,
    ⟨.echo h0 [], State.reset, 0x010C, h0, [], noCheck, rfl, by decide +kernel⟩⟩

theorem witness_PacketIsHeldOrAnswered :
    (∃ (c : Ctx) (b : List Byte) (v1 : Bool) (s : State), packetsTaken s c = true ∧ packetVersion b = some v1 ∧ packetLength v1 b ≤ 1024 ∧ b.length = packetTotal v1 b ∧ packetCrcOk v1 b = false ∧ (ctxGet s (ctxNum c)).held = [] ∧ replyOwedTo s (ctxNum c) = false)
    ∧ (∃ (c : Ctx) (b : List Byte) (v1 : Bool) (s : State), packetsTaken s c = true ∧ packetVersion b = some v1 ∧ packetLength v1 b ≤ 1024 ∧ b.length = packetTotal v1 b ∧ packetCrcOk v1 b = false ∧ ((ctxGet s (ctxNum c)).held ≠ [] ∨ replyOwedTo s (ctxNum c) = true))
    ∧ (∃ (c : Ctx) (b : List Byte) (v1 : Bool) (s : State), packetsTaken s c = true ∧ packetVersion b = some v1 ∧ packetLength v1 b ≤ 1024 ∧ b.length = packetTotal v1 b ∧ packetCrcOk v1 b = true ∧ (v1 = true → (ctxGet s (ctxNum c)).level1 = true) ∧ opcodeDefined (packetOpcode v1 b) = true ∧ lengthOk v1 (packetOpcode v1 b) (packetPayload v1 b) = true ∧ (commandsHeld (ctxGet s (ctxNum c))).length < heldLimit (ctxNum c)) :=
  ⟨⟨.h0, [0x4B, 0x20, 0x0C, 0x01, 0, 0, 0, 0, 0, 0], false, active, by decide +kernel⟩,
    ⟨.h0, [0x4B, 0x20, 0x0C, 0x01, 0, 0, 0, 0, 0, 0], false, { active with host := { hosts with ctxs := [(0, { CtxState.closed with isOpen := true, held := [{ v1 := false, opcode := 0x010C, tag := 0, payload := [], source := none, failed := none }] })] } }, by decide +kernel⟩,
    ⟨.h0, [0x4B, 0x20, 0x0C, 0x01, 0, 0, 0, 0, 0x05, 0xDE], false, active, by decide +kernel⟩⟩

theorem witness_CommandTakeServesInTurn :
    (∃ (n : Nat) (h : Held) (l : List Held) (s : State), usbFirst s = false ∧ netFirst s = false ∧ (turnOrder s).find? (takeable s) = some n ∧ (ctxGet s n).held = h :: l ∧ foreignHeld n h s = false)
    ∧ (∃ (n : Nat) (h : Held) (l : List Held) (s : State), usbFirst s = false ∧ netFirst s = false ∧ (turnOrder s).find? (takeable s) = some n ∧ (ctxGet s n).held = h :: l ∧ foreignHeld n h s = true)
    ∧ (∃ (s : State), usbFirst s = true)
    ∧ (∃ (s : State), usbFirst s = false ∧ netFirst s = true) :=
  ⟨⟨0, { v1 := false, opcode := 0x010C, tag := 0, payload := [], source := none, failed := none }, [], { active with host := { hosts with ctxs := [(0, { CtxState.closed with isOpen := true, held := [{ v1 := false, opcode := 0x010C, tag := 0, payload := [], source := none, failed := none }] })] } }, by decide +kernel⟩,
    ⟨4, { v1 := false, opcode := 0x010C, tag := 0, payload := [], source := (some (5, 1)), failed := none }, [], { active with host := { hosts4 with h4Controller := some 6, ctxs := [(0, { CtxState.closed with isOpen := true }), (1, { CtxState.closed with isOpen := true }), (4, { CtxState.closed with isOpen := true, held := [{ v1 := false, opcode := 0x010C, tag := 0, payload := [], source := (some (5, 1)), failed := none }] })] } }, by decide +kernel⟩,
    ⟨{ active with usbA := { Usb.reset with waiting := some .dfuClrstatus } }, by decide +kernel⟩,
    ⟨{ active with net := { NetState.reset with waiting := [.advertise] } }, by decide +kernel⟩⟩

theorem witness_HostStepsOfThePart :
    (∃ (s : State), HostInv s.host ∧ s.net.mac.link ≠ 2 ∧ isOpen s 4 = true)
    ∧ (∃ (s u : State) (f : Fired) (r : List Fired) (c : Chart) (b : List Byte) (e : Nat × (State → State)), s.host.fired = f :: r ∧ s.cs.chart = some c ∧ cpRuns s = true ∧ u = takeLog { s with host := { s.host with fired := r } } ∧ b = c.binding f.index ∧ e = bindingOutcome b (bindingRequest c b f.index s.host.log) u)
    ∧ (∃ (s : State) (f : Fired) (r : List Fired) (c : Chart), s.host.fired = f :: r ∧ s.cs.chart = some c ∧ cpRuns s = true ∧ hasOverlay s (u8 (c.binding f.index) 4) = true ∧ u8 (c.binding f.index) 3 = 2 ∧ (ovGet s (u8 (c.binding f.index) 4)).st = 3 ∧ inSwitch s (u8 (c.binding f.index) 4) = false) :=
  ⟨⟨{ active with host := hosts4 }, h4_inv, by decide +kernel, by decide +kernel⟩,
    ⟨{ charted [] with host := { hosts with fired := [{ index := 0, code := 0, inst := 0 }] }, cs := { (charted []).cs with overlays := [(0, { Overlay.inactive with st := 3 })] } }, _, { index := 0, code := 0, inst := 0 }, [], chart, _, _, by decide +kernel, by decide +kernel, by decide +kernel, rfl, rfl, rfl⟩,
    ⟨{ charted [] with host := { hosts with fired := [{ index := 0, code := 0, inst := 0 }] }, cs := { (charted []).cs with overlays := [(0, { Overlay.inactive with st := 3 })] } }, { index := 0, code := 0, inst := 0 }, [], chart, by decide +kernel⟩⟩

theorem witness_TwoWireTransactionOpens :
    (∃ (port : Fin 2) (a : BitVec 7) (hi lo : Byte) (read : Bool) (s : State), s.pwr.dev ≠ .sleep ∧ twPowered s port = true ∧ (twGet s port).addr = a)
    ∧ (∃ (port : Fin 2) (a : BitVec 7) (hi lo : Byte) (read : Bool) (s : State), s.pwr.dev ≠ .sleep ∧ twPowered s port = true ∧ (twGet s port).addr ≠ a)
    ∧ (∃ (port : Fin 2) (a : BitVec 7) (hi lo : Byte) (read : Bool) (s : State), (s.pwr.dev = .sleep ∨ twPowered s port = false))
    ∧ (∃ (port : Fin 2) (a : BitVec 7) (hi lo : Byte) (read : Bool) (s : State), s.pwr.dev ≠ .sleep ∧ (twGet s port).txn = 1 ∧ (twGet s port).ptrBytes = 0) :=
  ⟨⟨0, 0, 0x10, 0x00, false, { active with tw0 := { TwPort.reset with served := true, busy := false } }, by decide +kernel⟩,
    ⟨1, 5, 0, 0, true, { active with tw1 := { TwPort.reset with served := true } }, by decide +kernel⟩,
    ⟨0, 0, 0x10, 0x00, false, { State.reset with pwr := { PowerState.reset with dev := .sleep } }, by decide +kernel⟩,
    ⟨0, 0, 0x10, 0x00, false, { active with tw0 := { TwPort.reset with served := true, busy := false, txn := 1 } }, by decide +kernel⟩⟩

theorem witness_TwoWireWritesTakeEffect :
    (∃ (port : Fin 2) (b : Byte) (s : State), WindowWrite port 0x1000 0x140F s ∧ (twGet s port).busy = false)
    ∧ (∃ (port : Fin 2) (b : Byte) (s : State), WindowWrite port 0x1000 0x140F s ∧ (twGet s port).busy = true)
    ∧ (∃ (port : Fin 2) (b : Byte) (s : State), WindowWrite port 0x0008 0x0008 s ∧ (twGet s port).busy = false ∧ (twGet s port).replyValid = false ∧ b = 1)
    ∧ (∃ (port : Fin 2) (b : Byte) (s : State), WindowWrite port 0x0008 0x0008 s ∧ ((twGet s port).busy = true ∨ (twGet s port).replyValid = true))
    ∧ (∃ (port : Fin 2) (b : Byte) (s : State), WindowWrite port 0x0008 0x000B s ∧ (twGet s port).busy = false ∧ (twGet s port).replyValid = false ∧ (b ≠ 1 ∨ (twGet s port).pointer.toNat ≠ 0x0008))
    ∧ (∃ (port : Fin 2) (b : Byte) (s : State), WindowWrite port 0x0004 0x0007 s ∧ (b.getLsbD 4 = false ∨ (twGet s port).pointer.toNat ≠ 0x0004))
    ∧ (∃ (port : Fin 2) (b : Byte) (s : State), WindowWrite port 0x0004 0x0004 s ∧ b.getLsbD 4 = true)
    ∧ (∃ (port : Fin 2) (b : Byte) (s : State), WindowWrite port 0x000C 0x000E s)
    ∧ (∃ (port : Fin 2) (b : Byte) (s : State), WindowWrite port 0x000F 0x000F s)
    ∧ (∃ (port : Fin 2) (b : Byte) (s : State), WindowWrite port 0x0014 0x0014 s ∧ (twGet s port).busy = false ∧ HostInv s.host)
    ∧ (∃ (port : Fin 2) (b : Byte) (s : State), WindowWrite port 0x0014 0x0014 s ∧ (twGet s port).busy = true)
    ∧ (∃ (port : Fin 2) (b : Byte) (s : State), WindowWrite port 0x0015 0x0017 s)
    ∧ (∃ (port : Fin 2) (b : Byte) (s : State), WindowWrite port 0x0000 0xFFFF s ∧ twDiscards (twGet s port).pointer.toNat = true) :=
  ⟨⟨0, 0x4B, { active with tw0 := { TwPort.reset with served := true, busy := false, txn := 1, ptrBytes := 2, pointer := 0x1000, firstByte := true } }, by unfold WindowWrite; decide +kernel⟩,
    ⟨0, 0x4B, { active with tw0 := { TwPort.reset with served := true, busy := true, txn := 1, ptrBytes := 2, pointer := 0x140F, firstByte := true } }, by unfold WindowWrite; decide +kernel⟩,
    ⟨0, 1, { active with tw0 := { TwPort.reset with served := true, busy := false, txn := 1, ptrBytes := 2, pointer := 0x0008, firstByte := true } }, by unfold WindowWrite; decide +kernel⟩,
    ⟨0, 1, { active with tw0 := { TwPort.reset with served := true, busy := true, txn := 1, ptrBytes := 2, pointer := 0x0008, firstByte := true } }, by unfold WindowWrite; decide +kernel⟩,
    ⟨0, 0xFF, { active with tw0 := { TwPort.reset with served := true, busy := false, txn := 1, ptrBytes := 2, pointer := 0x000B, firstByte := true } }, by unfold WindowWrite; decide +kernel⟩,
    ⟨0, 0x10, { active with tw0 := { TwPort.reset with served := true, busy := false, txn := 1, ptrBytes := 2, pointer := 0x0007, firstByte := true } }, by unfold WindowWrite; decide +kernel⟩,
    ⟨0, 0x10, { active with tw0 := { TwPort.reset with served := true, busy := false, txn := 1, ptrBytes := 2, pointer := 0x0004, firstByte := true } }, by unfold WindowWrite; decide +kernel⟩,
    ⟨0, 0xFF, { active with tw0 := { TwPort.reset with served := true, busy := false, txn := 1, ptrBytes := 2, pointer := 0x000C, firstByte := true } }, by unfold WindowWrite; decide +kernel⟩,
    ⟨0, 0xFF, { active with tw0 := { TwPort.reset with served := true, busy := false, txn := 1, ptrBytes := 2, pointer := 0x000F, firstByte := true } }, by unfold WindowWrite; decide +kernel⟩,
    ⟨0, 3, { active with tw0 := { TwPort.reset with served := true, busy := false, txn := 1, ptrBytes := 2, pointer := 0x0014, firstByte := true } }, by unfold WindowWrite; decide +kernel, by decide +kernel, hosts_inv⟩,
    ⟨0, 3, { active with tw0 := { TwPort.reset with served := true, busy := true, txn := 1, ptrBytes := 2, pointer := 0x0014, firstByte := true } }, by unfold WindowWrite; decide +kernel⟩,
    ⟨0, 3, { active with tw0 := { TwPort.reset with served := true, busy := false, txn := 1, ptrBytes := 2, pointer := 0x0017, firstByte := true } }, by unfold WindowWrite; decide +kernel⟩,
    ⟨0, 0, { active with tw0 := { TwPort.reset with served := true, busy := false, txn := 1, ptrBytes := 2, pointer := 0xFFFF, firstByte := true } }, by unfold WindowWrite; decide +kernel⟩⟩

theorem witness_TwoWireReadsAndEnds :
    (∃ (port : Fin 2) (start : Bool) (s : State), s.pwr.dev ≠ .sleep ∧ (twGet s port).txn = 2)
    ∧ (∃ (port : Fin 2) (start : Bool) (s : State), twPowered s port = true ∧ s.pwr.dev ≠ .sleep)
    ∧ (∃ (port : Fin 2) (start : Bool) (s : State), s.pwr.dev ≠ .sleep ∧ ((twGet s port).txn = 1 ∨ (twGet s port).txn = 2))
    ∧ (∃ (port : Fin 2) (start : Bool) (s : State), s.pwr.dev ≠ .sleep ∧ (twGet s port).txn ≠ 0)
    ∧ (∃ (port : Fin 2) (start : Bool) (s : State), s.pwr.dev = .loader) :=
  ⟨⟨0, false, { active with tw0 := { TwPort.reset with served := true, busy := false, txn := 2 } }, by decide +kernel⟩,
    ⟨1, true, { active with tw1 := { TwPort.reset with served := true } }, by decide +kernel⟩,
    ⟨0, true, { active with tw0 := { TwPort.reset with served := true, busy := false, txn := 1 } }, by decide +kernel⟩,
    ⟨0, true, { active with tw0 := { TwPort.reset with served := true, busy := false, txn := 3 } }, by decide +kernel⟩,
    ⟨0, false, { State.reset with pwr := { PowerState.reset with dev := .loader } }, by decide +kernel⟩⟩

theorem witness_ChartReadsAnswer :
    (∃ (o : Issue) (p : List Byte) (c : Chart) (s : State), Accepted 0x0301 o p (chartInfoCheck p) s ∧ u8 p 0 < 2 ∧ (chartSlot s (u8 p 0)).state = 0x3C)
    ∧ (∃ (o : Issue) (p : List Byte) (c : Chart) (s : State), Accepted 0x0305 o p noCheck s)
    ∧ (∃ (o : Issue) (p : List Byte) (c : Chart) (s : State), s.cs.chart = some c ∧ Accepted 0x0307 o p (bindingListCheck p) s)
    ∧ (∃ (o : Issue) (p : List Byte) (c : Chart) (s : State), Accepted 0x030D o p (chartReadCheck p) s) :=
  ⟨⟨h0, [1, 0, 0, 0], chart, { charted [] with cs := { (charted []).cs with slotB := { ChartSlot.erased with state := 0x3C } } }, by unfold Accepted Taken; decide +kernel⟩,
    ⟨h0, [], chart, charted [], by unfold Accepted Taken; decide +kernel⟩,
    ⟨h0, [0, 63], chart, charted [], by unfold Accepted Taken; decide +kernel⟩,
    ⟨h0, [1, 0, 0, 0, 0xB0, 0xFF, 7, 0, 0x40, 0], chart, active, by unfold Accepted Taken; decide +kernel⟩⟩

theorem witness_OverlayCommandsStartTransitions :
    (∃ (o : Issue) (p : List Byte) (s : State), tblWf Overlay.inactive s.cs.overlays = true ∧ Accepted 0x0302 o p (overlayActivateCheck o p) s ∧ (ovGet s (u8 p 0)).st = 0)
    ∧ (∃ (o : Issue) (p : List Byte) (s : State), tblWf Overlay.inactive s.cs.overlays = true ∧ Accepted 0x0302 o p (overlayActivateCheck o p) s ∧ (ovGet s (u8 p 0)).st = 3)
    ∧ (∃ (o : Issue) (p : List Byte) (s : State), tblWf Overlay.inactive s.cs.overlays = true ∧ Accepted 0x0302 o p (overlayActivateCheck o p) s ∧ ((ovGet s (u8 p 0)).st = 1 ∨ (ovGet s (u8 p 0)).st = 2))
    ∧ (∃ (o : Issue) (p : List Byte) (s : State), tblWf Overlay.inactive s.cs.overlays = true ∧ Accepted 0x0302 o p (overlayActivateCheck o p) s ∧ (ovGet s (u8 p 0)).st = 4)
    ∧ (∃ (o : Issue) (p : List Byte) (s : State), tblWf Overlay.inactive s.cs.overlays = true ∧ Accepted 0x0302 o p (overlayActivateCheck o p) s ∧ (ovGet s (u8 p 0)).st = 5)
    ∧ (∃ (o : Issue) (p : List Byte) (s : State), tblWf Overlay.inactive s.cs.overlays = true ∧ Accepted 0x0303 o p (overlayDeactivateCheck o p) s ∧ (ovGet s (u8 p 0)).st = 1)
    ∧ (∃ (o : Issue) (p : List Byte) (s : State), tblWf Overlay.inactive s.cs.overlays = true ∧ Accepted 0x0303 o p (overlayDeactivateCheck o p) s ∧ (ovGet s (u8 p 0)).st = 2)
    ∧ (∃ (o : Issue) (p : List Byte) (s : State), tblWf Overlay.inactive s.cs.overlays = true ∧ Accepted 0x0303 o p (overlayDeactivateCheck o p) s ∧ ((ovGet s (u8 p 0)).st = 4 ∨ (ovGet s (u8 p 0)).st = 5))
    ∧ (∃ (o : Issue) (p : List Byte) (s : State), tblWf Overlay.inactive s.cs.overlays = true ∧ Accepted 0x0303 o p (overlayDeactivateCheck o p) s ∧ (ovGet s (u8 p 0)).st = 0)
    ∧ (∃ (o : Issue) (p : List Byte) (s : State), tblWf Overlay.inactive s.cs.overlays = true ∧ Accepted 0x0303 o p (overlayDeactivateCheck o p) s ∧ (ovGet s (u8 p 0)).st = 3)
    ∧ (∃ (o : Issue) (p : List Byte) (s : State), tblWf Overlay.inactive s.cs.overlays = true ∧ Accepted 0x0304 o p (overlaySwitchCheck o p) s) :=
  ⟨⟨h0, [0, 0, 0, 0], charted [], by unfold Accepted Taken; decide +kernel⟩,
    ⟨h0, [0, 1, 0xFF, 0xFF], { charted [] with cs := { (charted []).cs with overlays := [(0, { Overlay.inactive with st := 3 })] } }, by unfold Accepted Taken; decide +kernel⟩,
    ⟨h0, [0, 0, 0, 0], { charted [] with cs := { (charted []).cs with overlays := [(0, { Overlay.inactive with st := 1 })] } }, by unfold Accepted Taken; decide +kernel⟩,
    ⟨h0, [0, 0, 0, 0], { charted [] with cs := { (charted []).cs with overlays := [(0, { Overlay.inactive with st := 4 })] } }, by unfold Accepted Taken; decide +kernel⟩,
    ⟨h0, [0, 0, 0, 0], { charted [] with cs := { (charted []).cs with overlays := [(0, { Overlay.inactive with st := 5 })] } }, by unfold Accepted Taken; decide +kernel⟩,
    ⟨h0, [0, 0, 0, 0], { charted [] with cs := { (charted []).cs with overlays := [(0, { Overlay.inactive with st := 1 })] } }, by unfold Accepted Taken; decide +kernel⟩,
    ⟨h0, [0, 0, 0, 0], { charted [] with cs := { (charted []).cs with overlays := [(0, { Overlay.inactive with st := 2 })] } }, by unfold Accepted Taken; decide +kernel⟩,
    ⟨h0, [0, 0, 0, 0], { charted [] with cs := { (charted []).cs with overlays := [(0, { Overlay.inactive with st := 4 })] } }, by unfold Accepted Taken; decide +kernel⟩,
    ⟨h0, [1, 2, 0, 0], charted [], by unfold Accepted Taken; decide +kernel⟩,
    ⟨h0, [0, 0, 0xE8, 3], { charted [] with cs := { (charted []).cs with overlays := [(0, { Overlay.inactive with st := 3 })] } }, by unfold Accepted Taken; decide +kernel⟩,
    ⟨h0, [0, 1, 0, 0, 100, 0], { charted [] with cs := { (charted []).cs with overlays := [(0, { Overlay.inactive with st := 3 })] } }, by unfold Accepted Taken; decide +kernel⟩⟩

theorem witness_ChartCommandsTakeEffect :
    (∃ (o : Issue) (p : List Byte) (w : WriteSession) (s : State), Accepted 0x0306 o p (bindingSetCheck p) s)
    ∧ (∃ (o : Issue) (p : List Byte) (w : WriteSession) (s : State), Accepted 0x0308 o p (setVariantCheck p) s ∧ u8 p 0 = flag s.cs.reduced)
    ∧ (∃ (o : Issue) (p : List Byte) (w : WriteSession) (s : State), Accepted 0x0308 o p (setVariantCheck p) s ∧ u8 p 0 ≠ flag s.cs.reduced)
    ∧ (∃ (o : Issue) (p : List Byte) (w : WriteSession) (s : State), Accepted 0x0309 o p (chartWriteOpenCheck p) s)
    ∧ (∃ (o : Issue) (p : List Byte) (w : WriteSession) (s : State), s.cs.session = some w ∧ Accepted 0x030A o p (chartWriteDataCheck o p) s)
    ∧ (∃ (o : Issue) (p : List Byte) (w : WriteSession) (s : State), s.cs.session = some w ∧ Accepted 0x030B o p (chartWriteCloseCheck o) s)
    ∧ (∃ (o : Issue) (p : List Byte) (w : WriteSession) (s : State), Accepted 0x030C o p (chartSelectCheck p) s ∧ u8 p 1 = 0)
    ∧ (∃ (o : Issue) (p : List Byte) (w : WriteSession) (s : State), Accepted 0x030C o p (chartSelectCheck p) s ∧ u8 p 1 = 1) :=
  ⟨⟨h0, [0, 1, 0, 0], { owner := .h0, slot := 1, length := 100, written := 3 }, charted [], by unfold Accepted Taken; decide +kernel⟩,
    ⟨h0, [0, 0, 0, 0], { owner := .h0, slot := 1, length := 100, written := 3 }, charted [], by unfold Accepted Taken; decide +kernel⟩,
    ⟨h0, [1, 0, 0, 0], { owner := .h0, slot := 1, length := 100, written := 3 }, charted [], by unfold Accepted Taken; decide +kernel⟩,
    ⟨h0, [1, 0, 0, 0, 0xF0, 0xFF, 7, 0], { owner := .h0, slot := 1, length := 100, written := 3 }, active, by unfold Accepted Taken; decide +kernel⟩,
    ⟨h0, [3, 0, 0, 0, 0, 0, 0, 0, 5], { owner := .h0, slot := 1, length := 100, written := 3 }, { active with cs := { ChartState.reset with session := some { owner := .h0, slot := 1, length := 100, written := 3 } } }, by unfold Accepted Taken; decide +kernel⟩,
    ⟨h0, [], { owner := .h0, slot := 1, length := 100, written := 3 }, { active with cs := { ChartState.reset with session := some { owner := .h0, slot := 1, length := 100, written := 3 } } }, by unfold Accepted Taken; decide +kernel⟩,
    ⟨h0, [1, 0, 0, 0], { owner := .h0, slot := 1, length := 100, written := 3 }, { active with cs := { ChartState.reset with slotB := { ChartSlot.erased with state := 0x3C } } }, by unfold Accepted Taken; decide +kernel⟩,
    ⟨h0, [1, 1, 0, 0], { owner := .h0, slot := 1, length := 100, written := 3 }, { active with cs := { ChartState.reset with slotB := { ChartSlot.erased with state := 0x3C } } }, by unfold Accepted Taken; decide +kernel⟩⟩

theorem witness_LoaderStepsTakeEffect :
    (∃ (s : State) (c : Chart) (w : _) (r : _), s.cs.chart = some c ∧ s.cs.load = none ∧ s.cs.select = none ∧ s.cs.loads = w :: r ∧ s.eng.halted = false)
    ∧ (∃ (s : State) (c : Chart) (l : _), s.cs.chart = some c ∧ s.cs.load = some l ∧ l.complete = false)
    ∧ (∃ (s : State) (c : Chart) (ov : Fin 64), (ovGet s ov.val).st = 2 ∧ gateSettled s ov.val = true)
    ∧ (∃ (s : State) (c : Chart) (ov : Fin 64), (ovGet s ov.val).st = 4 ∧ gateSettled s ov.val = true ∧ (overlayRoutes s ov.val).all (routeMuted s) = true)
    ∧ (∃ (s : State) (c : Chart) (k : Fin 64), tblWf RouteRamp.steady s.eng.ramps = true ∧ (rampGet s k.val).n ≠ 0 ∧ (rampGet s k.val).n < (rampGet s k.val).k) :=
  ⟨⟨{ charted [] with cs := { (charted []).cs with loads := [.activate 0] } }, chart, .activate 0, [], by decide +kernel⟩,
    ⟨{ charted [] with cs := { (charted []).cs with load := some { what := .activate 0, complete := false, muted := [], mutedOuts := [], routes := [], outs := [] } } }, chart, { what := .activate 0, complete := false, muted := [], mutedOuts := [], routes := [], outs := [] }, by decide +kernel⟩,
    ⟨{ charted [] with cs := { (charted []).cs with overlays := [(0, { Overlay.inactive with st := 2 })] } }, chart, 0, by decide +kernel⟩,
    ⟨{ charted [] with cs := { (charted []).cs with overlays := [(0, { Overlay.inactive with st := 4 })] } }, chart, 0, by decide +kernel⟩,
    ⟨{ active with eng := { EngineState.reset with ramps := [(63, { RouteRamp.steady with n := 479, k := 480 })] } }, chart, 63, by decide +kernel⟩⟩

theorem witness_LaneWordsTakeEffect :
    (∃ (l : Fin 8) (src : BitVec 10) (par : BitVec 12) (dst : BitVec 10) (acc : BitVec 2) (aux : Byte) (line : BitVec 7) (offset : BitVec 16) (meter : Byte) (p6 : BitVec 6) (u : Bool) (s : State), laneAt s l.val 0 = true)
    ∧ (∃ (l : Fin 8) (src : BitVec 10) (par : BitVec 12) (dst : BitVec 10) (acc : BitVec 2) (aux : Byte) (line : BitVec 7) (offset : BitVec 16) (meter : Byte) (p6 : BitVec 6) (u : Bool) (s : State), laneAt s l.val (encodeWord 0x01 0 0 0 acc.toNat 0 0) = true)
    ∧ (∃ (l : Fin 8) (src : BitVec 10) (par : BitVec 12) (dst : BitVec 10) (acc : BitVec 2) (aux : Byte) (line : BitVec 7) (offset : BitVec 16) (meter : Byte) (p6 : BitVec 6) (u : Bool) (s : State), laneAt s l.val (encodeWord 0x02 src.toNat par.toNat 0 acc.toNat 0 (if u then 0x8000 else 0)) = true)
    ∧ (∃ (l : Fin 8) (src : BitVec 10) (par : BitVec 12) (dst : BitVec 10) (acc : BitVec 2) (aux : Byte) (line : BitVec 7) (offset : BitVec 16) (meter : Byte) (p6 : BitVec 6) (u : Bool) (s : State), laneAt s l.val (encodeWord 0x04 0 0 dst.toNat acc.toNat aux.toNat 0) = true)
    ∧ (∃ (l : Fin 8) (src : BitVec 10) (par : BitVec 12) (dst : BitVec 10) (acc : BitVec 2) (aux : Byte) (line : BitVec 7) (offset : BitVec 16) (meter : Byte) (p6 : BitVec 6) (u : Bool) (s : State), laneAt s l.val (encodeWord 0x0C src.toNat 0 0 0 line.toNat 0) = true ∧ (lineGet s line.toNat).len ≠ 0)
    ∧ (∃ (l : Fin 8) (src : BitVec 10) (par : BitVec 12) (dst : BitVec 10) (acc : BitVec 2) (aux : Byte) (line : BitVec 7) (offset : BitVec 16) (meter : Byte) (p6 : BitVec 6) (u : Bool) (s : State), laneAt s l.val (encodeWord 0x0D 0 par.toNat 0 acc.toNat (line.toNat + 128 * flag u) offset.toNat) = true ∧ (lineGet s line.toNat).sel = none)
    ∧ (∃ (l : Fin 8) (src : BitVec 10) (par : BitVec 12) (dst : BitVec 10) (acc : BitVec 2) (aux : Byte) (line : BitVec 7) (offset : BitVec 16) (meter : Byte) (p6 : BitVec 6) (u : Bool) (s : State), laneAt s l.val (encodeWord 0x14 src.toNat meter.toNat 0 0 0 0) = true ∧ (meterGet s meter.toNat).present = true)
    ∧ (∃ (l : Fin 8) (src : BitVec 10) (par : BitVec 12) (dst : BitVec 10) (acc : BitVec 2) (aux : Byte) (line : BitVec 7) (offset : BitVec 16) (meter : Byte) (p6 : BitVec 6) (u : Bool) (s : State), laneAt s l.val (encodeWord 0x18 0 p6.toNat dst.toNat 0 (flag u) 0) = true) :=
  ⟨⟨3, 1023, 4095, 512, 2, 255, 0, 0xFFFF, 0, 0, true, { charted [] with cs := { (charted []).cs with near := { Bank.empty with words := [(3 * 1024, 0)] } }, eng := { EngineState.reset with ticking := true, lanes := [(3, { Lane.reset with ended := false })] } }, by decide +kernel⟩,
    ⟨3, 1023, 4095, 512, 2, 255, 0, 0xFFFF, 0, 0, true, { charted [] with cs := { (charted []).cs with near := { Bank.empty with words := [(3 * 1024, encodeWord 0x01 0 0 0 2 0 0)] } }, eng := { EngineState.reset with ticking := true, lanes := [(3, { Lane.reset with ended := false })] } }, by decide +kernel⟩,
    ⟨3, 1023, 4095, 512, 2, 255, 0, 0xFFFF, 0, 0, true, { charted [] with cs := { (charted []).cs with near := { Bank.empty with words := [(3 * 1024, encodeWord 0x02 1023 4095 0 2 0 0x8000)] } }, eng := { EngineState.reset with ticking := true, lanes := [(3, { Lane.reset with ended := false })] } }, by decide +kernel⟩,
    ⟨3, 1023, 4095, 512, 2, 255, 0, 0xFFFF, 0, 0, true, { charted [] with cs := { (charted []).cs with near := { Bank.empty with words := [(3 * 1024, encodeWord 0x04 0 0 512 2 255 0)] } }, eng := { EngineState.reset with ticking := true, lanes := [(3, { Lane.reset with ended := false })] } }, by decide +kernel⟩,
    ⟨3, 1023, 4095, 512, 2, 255, 0, 0xFFFF, 0, 0, true, { charted [] with cs := { (charted []).cs with near := { Bank.empty with words := [(3 * 1024, encodeWord 0x0C 1023 0 0 0 0 0)] } }, eng := { EngineState.reset with ticking := true, lanes := [(3, { Lane.reset with ended := false })] }, par := { ParamState.reset with lines := [(0, { DelayLine.absent with len := 100 })] } }, by decide +kernel⟩,
    ⟨3, 1023, 4095, 512, 2, 255, 0, 0xFFFF, 0, 0, true, { charted [] with cs := { (charted []).cs with near := { Bank.empty with words := [(3 * 1024, encodeWord 0x0D 0 4095 0 2 128 0xFFFF)] } }, eng := { EngineState.reset with ticking := true, lanes := [(3, { Lane.reset with ended := false })] } }, by decide +kernel⟩,
    ⟨3, 1023, 4095, 512, 2, 255, 0, 0xFFFF, 0, 0, true, { charted [] with cs := { (charted []).cs with near := { Bank.empty with words := [(3 * 1024, encodeWord 0x14 1023 0 0 0 0 0)] } }, eng := { EngineState.reset with ticking := true, lanes := [(3, { Lane.reset with ended := false })] }, par := { ParamState.reset with meters := [(0, { Meter.absent with present := true })] } }, by decide +kernel⟩,
    ⟨3, 1023, 4095, 512, 2, 255, 0, 0xFFFF, 0, 0, true, { charted [] with cs := { (charted []).cs with near := { Bank.empty with words := [(3 * 1024, encodeWord 0x18 0 0 512 0 1 0)] } }, eng := { EngineState.reset with ticking := true, lanes := [(3, { Lane.reset with ended := false })] } }, by decide +kernel⟩⟩

theorem witness_StoringWordsTakeEffect :
    (∃ (l : Fin 8) (src : BitVec 10) (par : BitVec 12) (p10 dst : BitVec 10) (acc : BitVec 2) (aux : Byte) (u v : Bool) (s : State), laneAt s l.val (encodeWord 0x03 src.toNat par.toNat dst.toNat acc.toNat aux.toNat (if u then 0x8000 else 0)) = true)
    ∧ (∃ (l : Fin 8) (src : BitVec 10) (par : BitVec 12) (p10 dst : BitVec 10) (acc : BitVec 2) (aux : Byte) (u v : Bool) (s : State), laneAt s l.val (encodeWord 0x10 src.toNat p10.toNat dst.toNat 0 0 aux.toNat) = true)
    ∧ (∃ (l : Fin 8) (src : BitVec 10) (par : BitVec 12) (p10 dst : BitVec 10) (acc : BitVec 2) (aux : Byte) (u v : Bool) (s : State), laneAt s l.val (encodeWord 0x08 src.toNat par.toNat dst.toNat acc.toNat (flag u + 2 * flag v) 0) = true) :=
  ⟨⟨3, 1023, 4095, 256, 1023, 1, 4, true, false, { charted [] with cs := { (charted []).cs with near := { Bank.empty with words := [(3 * 1024, encodeWord 0x03 1023 4095 1023 1 4 0x8000)] } }, eng := { EngineState.reset with ticking := true, lanes := [(3, { Lane.reset with ended := false })] } }, by decide +kernel⟩,
    ⟨3, 1023, 4095, 256, 1023, 1, 4, true, false, { charted [] with cs := { (charted []).cs with near := { Bank.empty with words := [(3 * 1024, encodeWord 0x10 1023 256 1023 0 0 4)] } }, eng := { EngineState.reset with ticking := true, lanes := [(3, { Lane.reset with ended := false })] } }, by decide +kernel⟩,
    ⟨3, 1023, 4095, 256, 1023, 1, 4, true, false, { charted [] with cs := { (charted []).cs with near := { Bank.empty with words := [(3 * 1024, encodeWord 0x08 1023 4095 1023 1 1 0)] } }, eng := { EngineState.reset with ticking := true, lanes := [(3, { Lane.reset with ended := false })] } }, by decide +kernel⟩⟩

theorem witness_FencesAndEnd :
    (∃ (l : Fin 8) (lane : BitVec 3) (word : BitVec 10) (s : State), laneAt s l.val (encodeWord 0x20 0 0 0 0 lane.toNat word.toNat) = true ∧ fenceMet s lane.toNat word.toNat = true)
    ∧ (∃ (l : Fin 8) (lane : BitVec 3) (word : BitVec 10) (s : State), laneAt s l.val (encodeWord 0x20 0 0 0 0 lane.toNat word.toNat) = true ∧ fenceMet s lane.toNat word.toNat = false)
    ∧ (∃ (l : Fin 8) (lane : BitVec 3) (word : BitVec 10) (s : State), s.eng.ticking = true ∧ (laneGet s l.val).wait = some (lane.toNat, word.toNat) ∧ fenceMet s lane.toNat word.toNat = true)
    ∧ (∃ (l : Fin 8) (lane : BitVec 3) (word : BitVec 10) (s : State), s.eng.ticking = true ∧ (laneGet s l.val).wait = some (lane.toNat, word.toNat) ∧ fenceMet s lane.toNat word.toNat = false)
    ∧ (∃ (l : Fin 8) (lane : BitVec 3) (word : BitVec 10) (s : State), laneAt s l.val (encodeWord 0x3F 0 0 0 0 0 0) = true) :=
  ⟨⟨7, 2, 5, { charted [] with cs := { (charted []).cs with near := { Bank.empty with words := [(7 * 1024, encodeWord 0x20 0 0 0 0 2 5)] } }, eng := { EngineState.reset with ticking := true, lanes := [(2, { Lane.reset with ended := false, pos := 6 }), (7, { Lane.reset with ended := false })] } }, by decide +kernel⟩,
    ⟨7, 2, 5, { charted [] with cs := { (charted []).cs with near := { Bank.empty with words := [(7 * 1024, encodeWord 0x20 0 0 0 0 2 5)] } }, eng := { EngineState.reset with ticking := true, lanes := [(2, { Lane.reset with ended := false, pos := 5 }), (7, { Lane.reset with ended := false })] } }, by decide +kernel⟩,
    ⟨7, 2, 5, { charted [] with cs := { (charted []).cs with near := { Bank.empty with words := [(7 * 1024, encodeWord 0x20 0 0 0 0 2 5)] } }, eng := { EngineState.reset with ticking := true, lanes := [(2, { Lane.reset with ended := false, pos := 6 }), (7, { Lane.reset with ended := false, wait := some (2, 5) })] } }, by decide +kernel⟩,
    ⟨7, 2, 5, { charted [] with cs := { (charted []).cs with near := { Bank.empty with words := [(7 * 1024, encodeWord 0x20 0 0 0 0 2 5)] } }, eng := { EngineState.reset with ticking := true, lanes := [(2, { Lane.reset with ended := false, pos := 5 }), (7, { Lane.reset with ended := false, wait := some (2, 5) })] } }, by decide +kernel⟩,
    ⟨7, 0, 0, { charted [] with cs := { (charted []).cs with near := { Bank.empty with words := [(7 * 1024, encodeWord 0x3F 0 0 0 0 0 0)] } }, eng := { EngineState.reset with ticking := true, lanes := [(7, { Lane.reset with ended := false })] } }, by decide +kernel⟩⟩

theorem witness_TickStartsLanes :
    (∃ (s : State), s.eng.ticking = true) :=
  ⟨charted [], by decide +kernel⟩

theorem witness_TickCountsPeriods :
    (∃ (s t : State), s.eng.ticking = true ∧ exec .fabricTick s = .next t) :=
  ⟨charted [], fabricTick (charted []), by decide +kernel, congrArg Host.Outcome.next (if_pos (by decide +kernel))⟩

theorem witness_IngressConversion :
    (∃ (x : Word), x.extractLsb' 23 8 = 0xFF#8 ∧ x.extractLsb' 0 23 ≠ 0#23) :=
  ⟨0x7FC00001, by decide +kernel⟩

theorem witness_RoundingIsNearestTiesToEven :
    (∃ (x : Int) (k : Nat), 0 < k ∧ 2 * (rneShift x k * 2 ^ k - x).natAbs = 2 ^ k) :=
  ⟨3, 1, by decide +kernel⟩

theorem witness_SampleAndFaultSteps :
    (∃ (s : State) (a : Fin 256) (w : Word), s.eng.ticking = true ∧ a.val ∈ sourceWriters s.cs.near)
    ∧ (∃ (s : State) (a : Fin 256) (w : Word) (k : _) (m : _) (c : _), s.eng.ticking = true ∧ a.val ∈ sourceWriters s.cs.near ∧ convoyBerth s false a.val = some (k, m, c) ∧ convoyBypass (nearConvoy s k) = true ∧ tblWf none s.eng.landing = true)
    ∧ (∃ (s : State) (a : Fin 256) (w : Word) (i : _) (x : _) (r : _), s.eng.ticking = true ∧ a.val ∈ sourceWriters s.cs.near ∧ convoyBerth s false a.val = none ∧ exposureAt s a.val = none ∧ captureOf s a.val = none ∧ fdSaiSource s a.val = some i ∧ tget none s.eng.ingress a.val = some (x :: r) ∧ tblWf none s.eng.landing = true ∧ tblWf none s.eng.ingress = true)
    ∧ (∃ (s : State) (k : Fin 256), s.eng.ticking = true ∧ (sinkGet s k.val).landed = true ∧ (sinkGet s k.val).done = false)
    ∧ (∃ (s : State) (l : Fin 8), laneRuns s l.val = true) :=
  ⟨⟨charted [(3, [5, 0, 1] ++ zeros 13 ++ [2, 0, 255, 0])], 255, 7, by decide +kernel⟩,
    ⟨charted [(32, [1, 0, 0xFF, 0x0F, 0, 4, 0, 0, 0, 0, 3, 0]), (64, [5, 0, 2, 0, 64, 0, 32, 0, 6, 0, 2, 0, 4, 0, 1, 0])], 2, 7, 0, 1, 0, by decide +kernel⟩,
    ⟨{ charted [(3, [5, 0, 1] ++ zeros 13 ++ [2, 0, 255, 0])] with eng := { EngineState.reset with ticking := true, ingress := [(255, some [7])] } }, 255, 7, 3, 7, [], by decide +kernel⟩,
    ⟨{ charted [] with eng := { EngineState.reset with ticking := true, sinks := [(255, { Sink.reset with landed := true })] } }, 255, by decide +kernel⟩,
    ⟨{ charted [] with cs := { (charted []).cs with near := { Bank.empty with words := [(3 * 1024, 0)] } }, eng := { EngineState.reset with ticking := true, lanes := [(3, { Lane.reset with ended := false })] } }, 3, by decide +kernel⟩⟩

theorem witness_ParameterReadsAnswer :
    (∃ (o : Issue) (p : List Byte) (s : State), Accepted 0x0403 o p (getParamCheck p) s)
    ∧ (∃ (o : Issue) (p : List Byte) (s : State), Accepted 0x0407 o p (bqReadCheck p) s)
    ∧ (∃ (o : Issue) (p : List Byte) (s : State), Accepted 0x0409 o p (delayReadCheck p) s)
    ∧ (∃ (o : Issue) (p : List Byte) (s : State), Accepted 0x040B o p (limiterReadCheck p) s ∧ (limiterGet s (u8 p 0)).pending = none)
    ∧ (∃ (o : Issue) (p : List Byte) (s : State) (f : _), Accepted 0x040B o p (limiterReadCheck p) s ∧ (limiterGet s (u8 p 0)).pending = some f)
    ∧ (∃ (o : Issue) (p : List Byte) (s : State) (q : _), Accepted 0x040D o p (protectReadCheck p) s ∧ q = latchProtect (protectGet s (u8 p 0)))
    ∧ (∃ (o : Issue) (p : List Byte) (s : State), Accepted 0x040E o p (meterReadCheck p) s)
    ∧ (∃ (o : Issue) (p : List Byte) (s : State), Accepted 0x040F o p (clipReadCheck p) s)
    ∧ (∃ (o : Issue) (p : List Byte) (s : State), Accepted 0x0410 o p noCheck s) :=
  ⟨⟨h0, [0xC1, 0x0F, 63, 0], charted [], by unfold Accepted Taken; decide +kernel⟩,
    ⟨h0, [2, 0, 0, 0], charted [], by unfold Accepted Taken; decide +kernel⟩,
    ⟨h0, [1, 0, 0, 0], charted [], by unfold Accepted Taken; decide +kernel⟩,
    ⟨h0, [0, 0, 0, 0], charted [], by unfold Accepted Taken; decide +kernel⟩,
    ⟨h0, [0, 0, 0, 0], { charted [] with par := { ParamState.reset with limiters := [(0, { Limiter.absent with pending := some (1, -1, 5, 1) })] } }, (1, -1, 5, 1), by unfold Accepted Taken; decide +kernel⟩,
    ⟨h0, [1, 0, 0, 0], charted [], latchProtect (protectGet (charted []) 1), by unfold Accepted Taken; decide +kernel, rfl⟩,
    ⟨h0, [0, 1], charted [], by unfold Accepted Taken; decide +kernel⟩,
    ⟨h0, [2, 2, 254, 1, 1, 0, 0, 0], charted [], by unfold Accepted Taken; decide +kernel⟩,
    ⟨h0, [], charted [], by unfold Accepted Taken; decide +kernel⟩⟩

theorem witness_ParameterCommitsTakeEffect :
    (∃ (o : Issue) (p : List Byte) (s : State), Accepted 0x0401 o p (paramCheck o.ctx p) s)
    ∧ (∃ (o : Issue) (p : List Byte) (s : State), Accepted 0x0402 o p (blockCountCheck p) s ∧ (∀ e ∈ blockEntries p, paramCheck o.ctx e s = none))
    ∧ (∃ (o : Issue) (p : List Byte) (s : State) (i : _) (st : _), i < (blockEntries p).length ∧ Accepted 0x0402 o p (blockCountCheck p) s ∧ paramCheck o.ctx ((blockEntries p).getD i []) s = some st ∧ (∀ j < i, paramCheck o.ctx ((blockEntries p).getD j []) s = none))
    ∧ (∃ (o : Issue) (p : List Byte) (s : State), Accepted 0x0404 o p (setRampTimeCheck o p) s) :=
  ⟨⟨h0, [0, 0, 1, 0, 0x68, 0x09, 0, 0, 0xFF, 0xFF, 0, 0], charted [], by unfold Accepted Taken; decide +kernel⟩,
    ⟨h0, [1, 0, 0, 0, 0, 0, 1, 0, 0x68, 0x09, 0, 0, 0xFF, 0xFF, 0, 0], charted [], by unfold Accepted Taken; decide +kernel⟩,
    ⟨h0, [2, 0, 0, 0, 0, 0, 1, 0, 0x68, 0x09, 0, 0, 0xFF, 0xFF, 0, 0, 0, 0, 3, 0, 0, 0, 0, 0, 0, 0, 0, 0], charted [], 1, stBadParam, by unfold Accepted Taken; decide +kernel⟩,
    ⟨h0, [1, 0, 0xE8, 3], charted [], by unfold Accepted Taken; decide +kernel⟩⟩

theorem witness_FilterAndDelayCommandsTakeEffect :
    (∃ (o : Issue) (p : List Byte) (s : State), Accepted 0x0405 o p (bqWriteCheck o p) s)
    ∧ (∃ (o : Issue) (p : List Byte) (s : State), Accepted 0x0406 o p (bqSelectCheck o p) s ∧ (sectionGet s (u16 p 0)).sel = none ∧ (sectionGet s (u16 p 0)).queued = none ∧ (sectionGet s (u16 p 0)).activeB = (u8 p 2 == 1))
    ∧ (∃ (o : Issue) (p : List Byte) (s : State), Accepted 0x0406 o p (bqSelectCheck o p) s ∧ (sectionGet s (u16 p 0)).sel = none ∧ (sectionGet s (u16 p 0)).queued = none ∧ (sectionGet s (u16 p 0)).activeB ≠ (u8 p 2 == 1))
    ∧ (∃ (o : Issue) (p : List Byte) (s : State), Accepted 0x0406 o p (bqSelectCheck o p) s ∧ (sectionGet s (u16 p 0)).sel ≠ none ∧ (sectionGet s (u16 p 0)).queued = none ∧ countsActive (sectionGet s (u16 p 0)) = (u8 p 2 == 1))
    ∧ (∃ (o : Issue) (p : List Byte) (s : State), Accepted 0x0406 o p (bqSelectCheck o p) s ∧ (sectionGet s (u16 p 0)).sel ≠ none ∧ (sectionGet s (u16 p 0)).queued = none ∧ countsActive (sectionGet s (u16 p 0)) ≠ (u8 p 2 == 1))
    ∧ (∃ (o : Issue) (p : List Byte) (s : State) (r : _), Accepted 0x0406 o p (bqSelectCheck o p) s ∧ (sectionGet s (u16 p 0)).queued = some r)
    ∧ (∃ (o : Issue) (p : List Byte) (s : State), Accepted 0x0408 o p (delaySetCheck p) s ∧ (lineGet s (u8 p 0)).sel = none ∧ (lineGet s (u8 p 0)).queued = none ∧ (lineGet s (u8 p 0)).d0 = u32 p 4)
    ∧ (∃ (o : Issue) (p : List Byte) (s : State), Accepted 0x0408 o p (delaySetCheck p) s ∧ (lineGet s (u8 p 0)).sel = none ∧ (lineGet s (u8 p 0)).queued = none ∧ (lineGet s (u8 p 0)).d0 ≠ u32 p 4 ∧ tblWf DelayLine.absent s.par.lines = true)
    ∧ (∃ (o : Issue) (p : List Byte) (s : State), Accepted 0x0408 o p (delaySetCheck p) s ∧ (lineGet s (u8 p 0)).sel ≠ none ∧ (lineGet s (u8 p 0)).queued = none ∧ (lineGet s (u8 p 0)).d0 ≠ u32 p 4)
    ∧ (∃ (o : Issue) (p : List Byte) (s : State), Accepted 0x0408 o p (delaySetCheck p) s ∧ (lineGet s (u8 p 0)).sel ≠ none ∧ (lineGet s (u8 p 0)).queued = none ∧ (lineGet s (u8 p 0)).d0 = u32 p 4)
    ∧ (∃ (o : Issue) (p : List Byte) (s : State) (r : _), Accepted 0x0408 o p (delaySetCheck p) s ∧ (lineGet s (u8 p 0)).queued = some r ∧ (lineGet s (u8 p 0)).d0 = u32 p 4)
    ∧ (∃ (o : Issue) (p : List Byte) (s : State) (r : _), Accepted 0x0408 o p (delaySetCheck p) s ∧ (lineGet s (u8 p 0)).queued = some r ∧ (lineGet s (u8 p 0)).d0 ≠ u32 p 4) :=
  ⟨⟨h0, [2, 0, 1, 0] ++ zeros 20, charted [], by unfold Accepted Taken; decide +kernel⟩,
    ⟨h0, [0, 0, 0, 0, 0, 0, 0, 0], charted [], by unfold Accepted Taken; decide +kernel⟩,
    ⟨h0, [0, 0, 1, 1, 0xE8, 3, 0, 0], charted [], by unfold Accepted Taken; decide +kernel⟩,
    ⟨h0, [0, 0, 1, 1, 1, 0, 0, 0], { charted [] with par := { ParamState.reset with sections := [(0, { Section.reset with sel := some { toB := true, k := 480, n := 480, latched := true, ms := 10, fade := true } })] } }, by unfold Accepted Taken; decide +kernel⟩,
    ⟨h0, [0, 0, 0, 1, 0xE8, 3, 0, 0], { charted [] with par := { ParamState.reset with sections := [(0, { Section.reset with sel := some { toB := true, k := 480, n := 480, latched := true, ms := 10, fade := true } })] } }, by unfold Accepted Taken; decide +kernel⟩,
    ⟨h0, [0, 0, 0, 0, 0, 0, 0, 0], { charted [] with par := { ParamState.reset with sections := [(0, { Section.reset with sel := some { toB := true, k := 480, n := 480, latched := true, ms := 10, fade := true }, queued := some { toB := true, d0 := 5, ms := 10, fade := true, waiter := { ctx := .h0, log := 1 } } })] } }, { toB := true, d0 := 5, ms := 10, fade := true, waiter := { ctx := .h0, log := 1 } }, by unfold Accepted Taken; decide +kernel⟩,
    ⟨h0, [0, 0, 0, 0, 0, 0, 0, 0], { charted [] with par := { ParamState.reset with lines := [(0, { DelayLine.absent with len := 100 })] } }, by unfold Accepted Taken; decide +kernel⟩,
    ⟨h0, [0, 0, 0xFF, 0xFF, 99, 0, 0, 0], { charted [] with par := { ParamState.reset with lines := [(0, { DelayLine.absent with len := 100 })] } }, by unfold Accepted Taken; decide +kernel⟩,
    ⟨h0, [0, 0, 0xE8, 3, 99, 0, 0, 0], { charted [] with par := { ParamState.reset with lines := [(0, { DelayLine.absent with len := 100, sel := some { toB := true, k := 480, n := 480, latched := true, ms := 10, fade := true } })] } }, by unfold Accepted Taken; decide +kernel⟩,
    ⟨h0, [0, 0, 0, 0, 0, 0, 0, 0], { charted [] with par := { ParamState.reset with lines := [(0, { DelayLine.absent with len := 100, sel := some { toB := true, k := 480, n := 480, latched := true, ms := 10, fade := true } })] } }, by unfold Accepted Taken; decide +kernel⟩,
    ⟨h0, [0, 0, 1, 0, 7, 0, 0, 0], { charted [] with par := { ParamState.reset with lines := [(0, { DelayLine.absent with len := 100, d0 := 7, sel := some { toB := true, k := 480, n := 480, latched := true, ms := 10, fade := true }, queued := some { toB := true, d0 := 5, ms := 10, fade := true, waiter := { ctx := .h0, log := 1 } } })] } }, { toB := true, d0 := 5, ms := 10, fade := true, waiter := { ctx := .h0, log := 1 } }, by unfold Accepted Taken; decide +kernel⟩,
    ⟨h0, [0, 0, 1, 0, 9, 0, 0, 0], { charted [] with par := { ParamState.reset with lines := [(0, { DelayLine.absent with len := 100, d0 := 7, sel := some { toB := true, k := 480, n := 480, latched := true, ms := 10, fade := true }, queued := some { toB := true, d0 := 5, ms := 10, fade := true, waiter := { ctx := .h0, log := 1 } } })] } }, { toB := true, d0 := 5, ms := 10, fade := true, waiter := { ctx := .h0, log := 1 } }, by unfold Accepted Taken; decide +kernel⟩⟩

theorem witness_DynamicsCommandsTakeEffect :
    (∃ (o : Issue) (p : List Byte) (s : State), Accepted 0x040A o p (limiterSetCheck o p) s)
    ∧ (∃ (o : Issue) (p : List Byte) (s : State), Accepted 0x040C o p (protectSetCheck p) s) :=
  ⟨⟨h0, [0, 1, 0x60, 0xF0, 5, 0, 0x88, 0x13], charted [], by unfold Accepted Taken; decide +kernel⟩,
    ⟨h0, [1, 1, 0x08, 0x07, 0, 0, 0, 0], charted [], by unfold Accepted Taken; decide +kernel⟩⟩

theorem witness_ParameterStepsTakeEffect :
    (∃ (s : State) (k : Fin 4096), (slotGet s k.val).n ≠ 0 ∧ (slotGet s k.val).n < (slotGet s k.val).k)
    ∧ (∃ (s : State) (k : Fin 512) (f : _), (sectionGet s k.val).sel = some f ∧ f.latched = true ∧ f.n < f.k ∧ (sectionGet s k.val).queued = none ∧ tblWf Section.reset s.par.sections = true)
    ∧ (∃ (s : State) (k : Fin 128) (f : _), (lineGet s k.val).sel = some f ∧ f.latched = true ∧ f.n < f.k ∧ (lineGet s k.val).queued = none ∧ tblWf DelayLine.absent s.par.lines = true)
    ∧ (∃ (s : State), fabricHz s / 10 < s.par.clipPos ∧ s.par.clipped = [])
    ∧ (∃ (s : State), fabricHz s / 10 < s.par.clipPos ∧ s.par.clipped ≠ [])
    ∧ (∃ (s : State) (i : Fin 2), (protectGet s i.val).present = true ∧ (protectGet s i.val).enabled = true ∧ (protectGet s i.val).fault = 0 ∧ spkSwitching s i.val = true ∧ tblWf Protect.absent s.par.protects = true)
    ∧ (∃ (s : State) (i : Fin 2), (protectGet s i.val).present = true ∧ (protectGet s i.val).enabled = true ∧ (protectGet s i.val).degraded = false ∧ (protectGet s i.val).fault = 0 ∧ spkSwitching s i.val = true ∧ tblWf Protect.absent s.par.protects = true)
    ∧ (∃ (s : State) (i : Fin 2), (protectGet s i.val).degraded = true ∧ (protectGet s i.val).fault = 0 ∧ tblWf Protect.absent s.par.protects = true)
    ∧ (∃ (s : State) (i : Fin 2), (protectGet s i.val).degraded = true ∧ (protectGet s i.val).fault ≠ 0 ∧ tblWf Protect.absent s.par.protects = true) :=
  ⟨⟨{ charted [] with par := { ParamState.reset with slots := [(4095, { Slot.reset with n := 479, k := 480 })] } }, 4095, by decide +kernel⟩,
    ⟨{ charted [] with par := { ParamState.reset with sections := [(511, { Section.reset with sel := some { toB := true, k := 480, n := 479, latched := true, ms := 10, fade := true } })] } }, 511, { toB := true, k := 480, n := 479, latched := true, ms := 10, fade := true }, by decide +kernel⟩,
    ⟨{ charted [] with par := { ParamState.reset with lines := [(127, { DelayLine.absent with sel := some { toB := true, k := 480, n := 479, latched := true, ms := 10, fade := true } })] } }, 127, { toB := true, k := 480, n := 479, latched := true, ms := 10, fade := true }, by decide +kernel⟩,
    ⟨{ charted [] with par := { ParamState.reset with clipPos := 4801 } }, by decide +kernel⟩,
    ⟨{ charted [] with par := { ParamState.reset with clipPos := 4801, clipped := [1] } }, by decide +kernel⟩,
    ⟨{ charted [] with par := { ParamState.reset with protects := [(1, { Protect.absent with present := true, enabled := true })] }, out := { OutputState.reset with outs := [(3, { Output.reset with driving := true })] } }, 1, by decide +kernel⟩,
    ⟨{ charted [] with par := { ParamState.reset with protects := [(1, { Protect.absent with present := true, enabled := true })] }, out := { OutputState.reset with outs := [(3, { Output.reset with driving := true })] } }, 1, by decide +kernel⟩,
    ⟨{ charted [] with par := { ParamState.reset with protects := [(1, { Protect.absent with present := true, degraded := true })] }, out := { OutputState.reset with outs := [(3, { Output.reset with driving := true })] } }, 1, by decide +kernel⟩,
    ⟨{ charted [] with par := { ParamState.reset with protects := [(1, { Protect.absent with present := true, degraded := true, fault := 1 })] }, out := { OutputState.reset with outs := [(3, { Output.reset with driving := true })] } }, 1, by decide +kernel⟩⟩

theorem witness_ClockReadsAndCommitsTakeEffect :
    (∃ (o : Issue) (p : List Byte) (s : State), Accepted 0x0501 o p noCheck s)
    ∧ (∃ (o : Issue) (p : List Byte) (s : State), Accepted 0x0502 o p (domainStatusCheck p) s)
    ∧ (∃ (o : Issue) (p : List Byte) (s : State), Accepted 0x0506 o p (asrcStatusCheck p) s ∧ engineChannels s (u8 p 0) = [])
    ∧ (∃ (o : Issue) (p : List Byte) (s : State) (x : _) (r : _), Accepted 0x0506 o p (asrcStatusCheck p) s ∧ engineChannels s (u8 p 0) = x :: r)
    ∧ (∃ (o : Issue) (p : List Byte) (s : State), Accepted 0x0507 o p (convoyStatusCheck p) s)
    ∧ (∃ (o : Issue) (p : List Byte) (s : State), Accepted 0x0503 o p (domainSetRefCheck o p) s ∧ (domGet s (u8 p 0)).pendAlt.getD (domGet s (u8 p 0)).alt ≠ u8 p 1)
    ∧ (∃ (o : Issue) (p : List Byte) (s : State), Accepted 0x0503 o p (domainSetRefCheck o p) s ∧ (domGet s (u8 p 0)).pendAlt.getD (domGet s (u8 p 0)).alt = u8 p 1)
    ∧ (∃ (o : Issue) (p : List Byte) (s : State), Accepted 0x0504 o p (domainSetRateCheck o p) s ∧ (domGet s (u8 p 0)).pendRate.getD (domGet s (u8 p 0)).rate ≠ u8 p 1)
    ∧ (∃ (o : Issue) (p : List Byte) (s : State), Accepted 0x0504 o p (domainSetRateCheck o p) s ∧ (domGet s (u8 p 0)).pendRate.getD (domGet s (u8 p 0)).rate = u8 p 1)
    ∧ (∃ (o : Issue) (p : List Byte) (s : State), Accepted 0x0505 o p (pllDisciplineCheck p) s)
    ∧ (∃ (o : Issue) (p : List Byte) (s : State), Accepted 0x0508 o p (convoySetModeCheck o p) s) :=
  ⟨⟨h0, [], active, by unfold Accepted Taken; decide +kernel⟩,
    ⟨h0, [7, 0, 0, 0], charted [], by unfold Accepted Taken; decide +kernel⟩,
    ⟨h0, [0, 0, 0, 0], charted [], by unfold Accepted Taken; decide +kernel⟩,
    ⟨h0, [0, 0, 0, 0], { charted [] with cs := { (charted []).cs with near := { Bank.empty with asrc := [(15, [3, 0, 1, 0])] } } }, (15, 3), [], by unfold Accepted Taken; decide +kernel⟩,
    ⟨h0, [0, 1, 0, 0], charted [(32, [1, 0, 0xFF, 0x0F, 0, 4, 0, 0, 0, 0, 3, 0]), (64, [1, 0, 2, 0, 64, 0, 32, 0, 6, 0, 2, 0, 4, 0, 1, 0])], by unfold Accepted Taken; decide +kernel⟩,
    ⟨h0, [0, 3, 0, 0], charted [(32, [1, 0, 0xFF, 0x0F, 0, 4, 0, 0, 0, 0, 3, 0]), (64, [1, 0, 2, 0, 64, 0, 32, 0, 6, 0, 2, 0, 4, 0, 1, 0])], by unfold Accepted Taken; decide +kernel⟩,
    ⟨h0, [0, 3, 0, 0], { charted [(32, [1, 0, 0xFF, 0x0F, 0, 4, 0, 0, 0, 0, 3, 0]), (64, [1, 0, 2, 0, 64, 0, 32, 0, 6, 0, 2, 0, 4, 0, 1, 0])] with clk := { ClockState.reset with domains := [(0, { Domain.off with pendAlt := some 3 })] } }, by unfold Accepted Taken; decide +kernel⟩,
    ⟨h0, [0, 7, 0, 0], charted [(32, [1, 0, 0xFF, 0x0F, 0, 4, 0, 0, 0, 0, 3, 0]), (64, [1, 0, 2, 0, 64, 0, 32, 0, 6, 0, 2, 0, 4, 0, 1, 0])], by unfold Accepted Taken; decide +kernel⟩,
    ⟨h0, [0, 7, 0, 0], { charted [(32, [1, 0, 0xFF, 0x0F, 0, 4, 0, 0, 0, 0, 3, 0]), (64, [1, 0, 2, 0, 64, 0, 32, 0, 6, 0, 2, 0, 4, 0, 1, 0])] with clk := { ClockState.reset with domains := [(0, { Domain.off with rate := 7 })] } }, by unfold Accepted Taken; decide +kernel⟩,
    ⟨h0, [1, 0xFF, 2, 0], active, by unfold Accepted Taken; decide +kernel⟩,
    ⟨h0, [0, 1, 0, 0], charted [(32, [1, 0, 0xFF, 0x0F, 0, 4, 0, 0, 0, 0, 3, 0]), (64, [1, 0, 2, 0, 64, 0, 32, 0, 6, 0, 2, 0, 4, 0, 1, 0])], by unfold Accepted Taken; decide +kernel⟩⟩

theorem witness_ClockEventsMoveDomains :
    (∃ (s : State), ClocksWf s ∧ s.pwr.refChosen = true ∧ s.clk.lost = false)
    ∧ (∃ (s : State), ClocksWf s ∧ s.clk.lost = true)
    ∧ (∃ (s : State) (d : Fin 8), ClocksWf s ∧ (domGet s d.val).st = 3 ∧ refPossible s d.val (domAlt s d.val) = true)
    ∧ (∃ (s : State) (d : Fin 8) (off : Int), ClocksWf s ∧ (domGet s d.val).st = 1 ∧ lockPossible s d.val = true ∧ -100000 ≤ off ∧ off ≤ 100000)
    ∧ (∃ (s : State) (d : Fin 8) (cause : Fin 3) (off : Int), ClocksWf s ∧ ((domGet s d.val).st = 2 ∨ ((domGet s d.val).st = 1 ∧ cause = 0)) ∧ (cause = 2 → 100000 < off.natAbs)) :=
  ⟨⟨{ active with pwr := { PowerState.reset with dev := .active, refChosen := true } }, clocksWf_of (by decide +kernel) (by decide +kernel) (by decide +kernel), by decide +kernel, by decide +kernel⟩,
    ⟨{ active with clk := { ClockState.reset with lost := true } }, clocksWf_of (by decide +kernel) (by decide +kernel) (by decide +kernel), by decide +kernel⟩,
    ⟨{ charted [(32, [1, 0, 0xFF, 0x0F, 0, 4, 0, 0, 0, 0, 3, 0]), (64, [1, 0, 2, 0, 64, 0, 32, 0, 6, 0, 2, 0, 4, 0, 1, 0])] with clk := { ClockState.reset with domains := [(0, { Domain.off with st := 3 })] } }, 0, clocksWf_of (by decide +kernel) (by decide +kernel) (by decide +kernel), by decide +kernel, by decide +kernel⟩,
    ⟨{ charted [(32, [1, 0, 0xFF, 0x0F, 0, 4, 0, 0, 0, 0, 3, 0]), (64, [1, 0, 2, 0, 64, 0, 32, 0, 6, 0, 2, 0, 4, 0, 1, 0])] with clk := { ClockState.reset with domains := [(0, { Domain.off with st := 1, refValid := true })] } }, 0, -100000, clocksWf_of (by decide +kernel) (by decide +kernel) (by decide +kernel), by decide +kernel, by decide +kernel, by decide +kernel, by decide +kernel⟩,
    ⟨{ charted [(32, [1, 0, 0xFF, 0x0F, 0, 4, 0, 0, 0, 0, 3, 0]), (64, [1, 0, 2, 0, 64, 0, 32, 0, 6, 0, 2, 0, 4, 0, 1, 0])] with clk := { ClockState.reset with domains := [(0, { Domain.off with st := 1 })] } }, 0, 0, 0, clocksWf_of (by decide +kernel) (by decide +kernel) (by decide +kernel), by decide +kernel, by decide +kernel⟩⟩

theorem witness_ConvoyStepsTakeEffect :
    (∃ (c : Fin 128) (m : Fin 8) (s : State) (x : List Word), ClocksWf s ∧ memberOn s c.val m.val = true ∧ (memGet s c.val m.val).st ≠ 0 ∧ x.length = (memberOf (nearConvoy s c.val) m.val).2.2 ∧ memberTimed s c.val m.val = false ∧ convoyEgress (nearConvoy s c.val) = false ∧ (convGet s c.val).mute ≠ 2 ∧ (memGet s c.val m.val).fifo.length < convoyDepth s c.val)
    ∧ (∃ (c : Fin 128) (m : Fin 8) (s : State) (i : _) (x : List Word), ClocksWf s ∧ memberOn s c.val m.val = true ∧ (memGet s c.val m.val).st ∈ [2, 3, 4, 5, 7] ∧ x.length = (memberOf (nearConvoy s c.val) m.val).2.2 ∧ memberTimed s c.val m.val = true ∧ convoyEgress (nearConvoy s c.val) = false ∧ (convGet s c.val).mute ≠ 2 ∧ (convGet s c.val).index ≤ i ∧ (memGet s c.val m.val).fifo.length < convoyDepth s c.val)
    ∧ (∃ (c : Fin 128) (m : Fin 8) (s : State) (x : List Word) (y : _), ClocksWf s ∧ memberOn s c.val m.val = false ∧ (waitingMembers s).find? (fun y => y.1 == c.val && y.2.1 == m.val && x.length == (memberOf y.2.2 m.val).2.2) = some y)
    ∧ (∃ (c : Fin 128) (m : Fin 8) (s : State) (x : _) (r : _), ClocksWf s ∧ mayRead s c.val m.val false = true ∧ memberTimed s c.val m.val = false ∧ (memGet s c.val m.val).st = 3 ∧ (memGet s c.val m.val).fifo = x :: r ∧ 32 < r.length)
    ∧ (∃ (c : Fin 128) (m : Fin 8) (s : State), ClocksWf s ∧ mayRead s c.val m.val false = true ∧ (memGet s c.val m.val).toIdle = false)
    ∧ (∃ (c : Fin 128) (m : Fin 8) (s : State) (x : _) (r : _), ClocksWf s ∧ mayRead s c.val m.val true = true ∧ portTakes s c.val m.val = true ∧ (memGet s c.val m.val).st = 3 ∧ (memGet s c.val m.val).fifo = x :: r)
    ∧ (∃ (c : Fin 128) (m : Fin 8) (s : State), ClocksWf s ∧ memberOn s c.val m.val = true ∧ (memGet s c.val m.val).st = 2 ∧ 32 ≤ (memGet s c.val m.val).fade)
    ∧ (∃ (c : Fin 128) (m : Fin 8) (s : State), ClocksWf s ∧ memberOn s c.val m.val = true ∧ (memGet s c.val m.val).st = 4 ∧ 32 ≤ (memGet s c.val m.val).fade)
    ∧ (∃ (c : Fin 128) (m : Fin 8) (s : State), ClocksWf s ∧ convoyOn s c.val = true ∧ (convGet s c.val).index % 2 ^ u8 (nearConvoy s c.val) 3 = 0)
    ∧ (∃ (c : Fin 128) (m : Fin 8) (s : State), ClocksWf s ∧ (convGet s c.val).mute = 1 ∧ 32 < (convGet s c.val).muteK) :=
  ⟨⟨0, 1, { charted [(32, [1, 0, 0xFF, 0x0F, 0, 4, 0, 0, 0, 0, 3, 0]), (64, [1, 0, 2, 0, 64, 0, 32, 0, 6, 0, 2, 0, 4, 0, 1, 0])] with clk := { ClockState.reset with convoys := [(0, { Convoy.absent with members := [(1, { Member.idle with st := 7, fifo := List.replicate 63 (0, [1]) })] })] } }, [7], clocksWf_of (by decide +kernel) (by decide +kernel) (by decide +kernel), by decide +kernel, by decide +kernel, by decide +kernel, by decide +kernel, by decide +kernel, by decide +kernel, by decide +kernel⟩,
    ⟨0, 1, { charted [(32, [1, 0, 0xFF, 0x0F, 0, 4, 0, 0, 0, 0, 3, 0]), (64, [1, 0, 2, 0, 64, 0, 32, 0, 6, 0, 2, 0, 2, 0, 1, 0])] with clk := { ClockState.reset with convoys := [(0, { Convoy.absent with members := [(1, { Member.idle with st := 7 })] })] } }, 0, [7], clocksWf_of (by decide +kernel) (by decide +kernel) (by decide +kernel), by decide +kernel, by decide +kernel, by decide +kernel, by decide +kernel, by decide +kernel, by decide +kernel, by decide +kernel, by decide +kernel⟩,
    ⟨0, 0, ({ (charted [(6, [1])]) with cs := { (charted [(6, [1])]).cs with chart := some convoyChart } } : State), [1, 2], (0, 0, convoyEntry), clocksWf_of (by decide +kernel) (by decide +kernel) (by decide +kernel), by decide +kernel, by decide +kernel⟩,
    ⟨0, 1, { charted [(32, [1, 0, 0xFF, 0x0F, 0, 4, 0, 0, 0, 0, 3, 0]), (64, [1, 0, 2, 0, 64, 0, 32, 0, 6, 0, 2, 0, 4, 0, 1, 0])] with clk := { ClockState.reset with convoys := [(0, { Convoy.absent with members := [(1, { Member.idle with st := 3, fifo := (0, [1]) :: List.replicate 33 (0, [1]) })] })] } }, (0, [1]), List.replicate 33 (0, [1]), clocksWf_of (by decide +kernel) (by decide +kernel) (by decide +kernel), by decide +kernel, by decide +kernel, by decide +kernel, by decide +kernel, by decide +kernel⟩,
    ⟨0, 1, { charted [(32, [1, 0, 0xFF, 0x0F, 0, 4, 0, 0, 0, 0, 3, 0]), (64, [1, 0, 2, 0, 64, 0, 32, 0, 6, 0, 2, 0, 4, 0, 1, 0])] with clk := { ClockState.reset with convoys := [(0, { Convoy.absent with members := [(1, { Member.idle with st := 2, fade := 32 })] })] } }, clocksWf_of (by decide +kernel) (by decide +kernel) (by decide +kernel), by decide +kernel, by decide +kernel⟩,
    ⟨0, 1, { charted [(32, [1, 0, 0xFF, 0x0F, 0, 4, 0, 0, 0, 0, 3, 0]), (64, [9, 0, 2, 0, 64, 0, 32, 0, 6, 0, 2, 0, 9, 0, 1, 0])] with clk := { ClockState.reset with convoys := [(0, { Convoy.absent with members := [(1, { Member.idle with st := 3, fifo := [(0, [1])] })] })] } }, (0, [1]), [], clocksWf_of (by decide +kernel) (by decide +kernel) (by decide +kernel), by decide +kernel, by decide +kernel, by decide +kernel, by decide +kernel⟩,
    ⟨0, 1, { charted [(32, [1, 0, 0xFF, 0x0F, 0, 4, 0, 0, 0, 0, 3, 0]), (64, [1, 0, 2, 0, 64, 0, 32, 0, 6, 0, 2, 0, 4, 0, 1, 0])] with clk := { ClockState.reset with convoys := [(0, { Convoy.absent with members := [(1, { Member.idle with st := 2, fade := 32 })] })] } }, clocksWf_of (by decide +kernel) (by decide +kernel) (by decide +kernel), by decide +kernel, by decide +kernel, by decide +kernel⟩,
    ⟨0, 1, { charted [(32, [1, 0, 0xFF, 0x0F, 0, 4, 0, 0, 0, 0, 3, 0]), (64, [1, 0, 2, 0, 64, 0, 32, 0, 6, 0, 2, 0, 4, 0, 1, 0])] with clk := { ClockState.reset with convoys := [(0, { Convoy.absent with members := [(1, { Member.idle with st := 4, fade := 32 })] })] } }, clocksWf_of (by decide +kernel) (by decide +kernel) (by decide +kernel), by decide +kernel, by decide +kernel, by decide +kernel⟩,
    ⟨0, 1, { charted [(32, [1, 0, 0xFF, 0x0F, 0, 4, 0, 0, 0, 0, 3, 0]), (64, [1, 0, 2, 0, 64, 0, 32, 0, 6, 0, 2, 0, 4, 0, 1, 0])] with clk := { ClockState.reset with convoys := [(0, { Convoy.absent with members := [(1, { Member.idle with st := 3 })] })] } }, clocksWf_of (by decide +kernel) (by decide +kernel) (by decide +kernel), by decide +kernel, by decide +kernel⟩,
    ⟨0, 1, { charted [(32, [1, 0, 0xFF, 0x0F, 0, 4, 0, 0, 0, 0, 3, 0]), (64, [1, 0, 2, 0, 64, 0, 32, 0, 6, 0, 2, 0, 4, 0, 1, 0])] with clk := { ClockState.reset with convoys := [(0, { Convoy.absent with mute := 1, muteK := 33 })] } }, clocksWf_of (by decide +kernel) (by decide +kernel) (by decide +kernel), by decide +kernel, by decide +kernel⟩⟩

theorem witness_CaptureReadsAndCommandsTakeEffect :
    (∃ (o : Issue) (p : List Byte) (s : State), Accepted 0x0901 o p (captureStatusCheck p) s)
    ∧ (∃ (o : Issue) (p : List Byte) (s : State) (v : _), Accepted 0x0906 o p (micbiasStatusCheck p) s ∧ latestValue s (29 + u8 p 0) = some v)
    ∧ (∃ (o : Issue) (p : List Byte) (s : State), Accepted 0x0907 o p noCheck s)
    ∧ (∃ (o : Issue) (p : List Byte) (s : State), Accepted 0x090C o p (relayCorrectionsCheck p) s)
    ∧ (∃ (o : Issue) (p : List Byte) (s : State), Accepted 0x0902 o p (pgaSetCheck o p) s)
    ∧ (∃ (o : Issue) (p : List Byte) (s : State), Accepted 0x0903 o p (dcbSetCheck o p) s ∧ (8 ≤ u8 p 0 ∨ relayLate s (u8 p 0) = false))
    ∧ (∃ (o : Issue) (p : List Byte) (s : State), Accepted 0x0903 o p (dcbSetCheck o p) s ∧ u8 p 0 < 8 ∧ relayLate s (u8 p 0) = true)
    ∧ (∃ (o : Issue) (p : List Byte) (s : State), Accepted 0x0904 o p (delayTrimSetCheck o p) s ∧ 8 ≤ u8 p 0)
    ∧ (∃ (o : Issue) (p : List Byte) (s : State), Accepted 0x0904 o p (delayTrimSetCheck o p) s ∧ u8 p 0 < 8 ∧ relayLate s (u8 p 0) = false)
    ∧ (∃ (o : Issue) (p : List Byte) (s : State), Accepted 0x0904 o p (delayTrimSetCheck o p) s ∧ u8 p 0 < 8 ∧ relayLate s (u8 p 0) = true)
    ∧ (∃ (o : Issue) (p : List Byte) (s : State), Accepted 0x0905 o p (micbiasSetCheck o p) s ∧ u8 p 1 = 1 ∧ micOn s (u8 p 0) = false)
    ∧ (∃ (o : Issue) (p : List Byte) (s : State), Accepted 0x0905 o p (micbiasSetCheck o p) s ∧ u8 p 1 = 1 ∧ micOn s (u8 p 0) = true ∧ (micGet s (u8 p 0)).code ≠ u8 p 2)
    ∧ (∃ (o : Issue) (p : List Byte) (s : State), Accepted 0x0905 o p (micbiasSetCheck o p) s ∧ u8 p 1 = 1 ∧ micOn s (u8 p 0) = true ∧ (micGet s (u8 p 0)).code = u8 p 2)
    ∧ (∃ (o : Issue) (p : List Byte) (s : State), Accepted 0x0905 o p (micbiasSetCheck o p) s ∧ u8 p 1 = 0 ∧ micOn s (u8 p 0) = true)
    ∧ (∃ (o : Issue) (p : List Byte) (s : State), Accepted 0x0905 o p (micbiasSetCheck o p) s ∧ u8 p 1 = 0 ∧ micOn s (u8 p 0) = false)
    ∧ (∃ (o : Issue) (p : List Byte) (s : State), Accepted 0x0908 o p (relaySuspendCheck o p) s ∧ u8 p 1 = 1 ∧ (∀ k < 8, relayLate s k = false ∧ relayEarly s k = false))
    ∧ (∃ (o : Issue) (p : List Byte) (s : State) (k : _), Accepted 0x0908 o p (relaySuspendCheck o p) s ∧ u8 p 1 = 1 ∧ u8 p 0 = 2 ^ k ∧ k < 8 ∧ relayEarly s k = true)
    ∧ (∃ (o : Issue) (p : List Byte) (s : State), Accepted 0x0908 o p (relaySuspendCheck o p) s ∧ u8 p 1 = 0 ∧ (∀ k < 8, relayLate s k = false))
    ∧ (∃ (o : Issue) (p : List Byte) (s : State) (k : _), Accepted 0x0908 o p (relaySuspendCheck o p) s ∧ u8 p 0 = 2 ^ k ∧ k < 8 ∧ relayLate s k = true)
    ∧ (∃ (o : Issue) (p : List Byte) (s : State) (v : _), Accepted 0x0909 o p (relayStartCheck o) s ∧ latestValue s 22 = some v ∧ (∃ k < 8, relayEligible s k = true))
    ∧ (∃ (o : Issue) (p : List Byte) (s : State), Accepted 0x090A o p (thresholdArmCheck p) s)
    ∧ (∃ (o : Issue) (p : List Byte) (s : State), Accepted 0x090B o p (thresholdDisarmCheck p) s ∧ u8 p 0 ≠ 0xFF)
    ∧ (∃ (o : Issue) (p : List Byte) (s : State), Accepted 0x090B o p (thresholdDisarmCheck p) s ∧ u8 p 0 = 0xFF ∧ tblWf Capture.reset s.cap.chans = true) :=
  ⟨⟨h0, [7, 0, 0, 0], charted [(11, [7, 0, 0, 0, 0, 0, 10, 0, 11, 0]), (17, [3, 0, 0, 0, 0, 1, 1, 0]), (24, [3, 0, 0, 0, 0, 2, 2, 0])], by unfold Accepted Taken; decide +kernel⟩,
    ⟨h0, [1, 0, 0, 0], { active with meas := { MeasState.reset with latest := [(30, { noRecord with channel := 30, value := 2200 })] } }, 2200, by unfold Accepted Taken; decide +kernel⟩,
    ⟨h0, [], active, by unfold Accepted Taken; decide +kernel⟩,
    ⟨h0, [8, 0, 0, 0], charted [(11, [7, 0, 0, 0, 0, 0, 10, 0, 11, 0]), (17, [3, 0, 0, 0, 0, 1, 1, 0]), (24, [3, 0, 0, 0, 0, 2, 2, 0])], by unfold Accepted Taken; decide +kernel⟩,
    ⟨h0, [7, 96, 0, 0], charted [(11, [7, 0, 0, 0, 0, 0, 10, 0, 11, 0]), (17, [3, 0, 0, 0, 0, 1, 1, 0]), (24, [3, 0, 0, 0, 0, 2, 2, 0])], by unfold Accepted Taken; decide +kernel⟩,
    ⟨h0, [8, 5, 1, 0], charted [(11, [7, 0, 0, 0, 0, 0, 10, 0, 11, 0]), (17, [3, 0, 0, 0, 0, 1, 1, 0]), (24, [3, 0, 0, 0, 0, 2, 2, 0])], by unfold Accepted Taken; decide +kernel⟩,
    ⟨h0, [7, 5, 1, 0], { charted [(11, [7, 0, 0, 0, 0, 0, 10, 0, 11, 0]), (17, [3, 0, 0, 0, 0, 1, 1, 0]), (24, [3, 0, 0, 0, 0, 2, 2, 0])] with cap := { CaptureState.reset with relay := { Relay.reset with rotating := true, input := 7, beat := 7 } } }, by unfold Accepted Taken; decide +kernel⟩,
    ⟨h0, [9, 0, 0, 4], charted [(11, [7, 0, 0, 0, 0, 0, 10, 0, 11, 0]), (17, [3, 0, 0, 0, 0, 1, 1, 0]), (24, [3, 0, 0, 0, 0, 2, 2, 0])], by unfold Accepted Taken; decide +kernel⟩,
    ⟨h0, [7, 0, 0, 0xFC], charted [(11, [7, 0, 0, 0, 0, 0, 10, 0, 11, 0]), (17, [3, 0, 0, 0, 0, 1, 1, 0]), (24, [3, 0, 0, 0, 0, 2, 2, 0])], by unfold Accepted Taken; decide +kernel⟩,
    ⟨h0, [0, 0, 1, 0], { charted [(11, [7, 0, 0, 0, 0, 0, 10, 0, 11, 0]), (17, [3, 0, 0, 0, 0, 1, 1, 0]), (24, [3, 0, 0, 0, 0, 2, 2, 0])] with cap := { CaptureState.reset with relay := { Relay.reset with input := 0, beat := 9 } } }, by unfold Accepted Taken; decide +kernel⟩,
    ⟨h0, [1, 1, 11, 0], charted [(11, [7, 0, 0, 0, 0, 0, 10, 0, 11, 0]), (17, [3, 0, 0, 0, 0, 1, 1, 0]), (24, [3, 0, 0, 0, 0, 2, 2, 0])], by unfold Accepted Taken; decide +kernel⟩,
    ⟨h0, [0, 1, 11, 0], { charted [(11, [7, 0, 0, 0, 0, 0, 10, 0, 11, 0]), (17, [3, 0, 0, 0, 0, 1, 1, 0]), (24, [3, 0, 0, 0, 0, 2, 2, 0])] with cap := { CaptureState.reset with micA := { MicBias.off with st := 2 } } }, by unfold Accepted Taken; decide +kernel⟩,
    ⟨h0, [0, 1, 11, 0], { charted [(11, [7, 0, 0, 0, 0, 0, 10, 0, 11, 0]), (17, [3, 0, 0, 0, 0, 1, 1, 0]), (24, [3, 0, 0, 0, 0, 2, 2, 0])] with cap := { CaptureState.reset with micA := { MicBias.off with st := 1, code := 11 } } }, by unfold Accepted Taken; decide +kernel⟩,
    ⟨h0, [0, 0, 0, 0], { charted [(11, [7, 0, 0, 0, 0, 0, 10, 0, 11, 0]), (17, [3, 0, 0, 0, 0, 1, 1, 0]), (24, [3, 0, 0, 0, 0, 2, 2, 0])] with cap := { CaptureState.reset with micA := { MicBias.off with st := 2 } } }, by unfold Accepted Taken; decide +kernel⟩,
    ⟨h0, [0, 0, 0, 0], charted [(11, [7, 0, 0, 0, 0, 0, 10, 0, 11, 0]), (17, [3, 0, 0, 0, 0, 1, 1, 0]), (24, [3, 0, 0, 0, 0, 2, 2, 0])], by unfold Accepted Taken; decide +kernel⟩,
    ⟨h0, [0xFF, 1, 0, 0], { charted [(11, [7, 0, 0, 0, 0, 0, 10, 0, 11, 0]), (17, [3, 0, 0, 0, 0, 1, 1, 0]), (24, [3, 0, 0, 0, 0, 2, 2, 0])] with cap := { CaptureState.reset with relay := { Relay.reset with input := 0, beat := 0 } } }, by unfold Accepted Taken; decide +kernel⟩,
    ⟨h0, [128, 1, 0, 0], { charted [(11, [7, 0, 0, 0, 0, 0, 10, 0, 11, 0]), (17, [3, 0, 0, 0, 0, 1, 1, 0]), (24, [3, 0, 0, 0, 0, 2, 2, 0])] with cap := { CaptureState.reset with relay := { Relay.reset with input := 7, beat := 6 } } }, 7, by unfold Accepted Taken; decide +kernel⟩,
    ⟨h0, [0xFF, 0, 0, 0], charted [(11, [7, 0, 0, 0, 0, 0, 10, 0, 11, 0]), (17, [3, 0, 0, 0, 0, 1, 1, 0]), (24, [3, 0, 0, 0, 0, 2, 2, 0])], by unfold Accepted Taken; decide +kernel⟩,
    ⟨h0, [1, 1, 0, 0], { charted [(11, [7, 0, 0, 0, 0, 0, 10, 0, 11, 0]), (17, [3, 0, 0, 0, 0, 1, 1, 0]), (24, [3, 0, 0, 0, 0, 2, 2, 0])] with cap := { CaptureState.reset with relay := { Relay.reset with input := 0, beat := 7 } } }, 0, by unfold Accepted Taken; decide +kernel⟩,
    ⟨h0, [], { charted [(11, [7, 0, 0, 0, 0, 0, 10, 0, 11, 0]), (17, [3, 0, 0, 0, 0, 1, 1, 0]), (24, [3, 0, 0, 0, 0, 2, 2, 0])] with meas := { MeasState.reset with latest := [(22, { noRecord with channel := 22, value := 2200 })] } }, 2200, by unfold Accepted Taken; decide +kernel⟩,
    ⟨h0, [7, 1, 0xC0, 0xC7, 0x10, 0x27, 0, 0], { charted [(11, [7, 0, 0, 0, 0, 0, 10, 0, 11, 0]), (17, [3, 0, 0, 0, 0, 1, 1, 0]), (24, [3, 0, 0, 0, 0, 2, 2, 0])] with pwr := { PowerState.reset with dev := .test } }, by unfold Accepted Taken; decide +kernel⟩,
    ⟨h0, [15, 0, 0, 0], charted [(14, [7, 0, 0, 0, 0, 0, 10, 0, 11, 0])], by unfold Accepted Taken; decide +kernel⟩,
    ⟨h0, [0xFF, 0, 0, 0], charted [(11, [7, 0, 0, 0, 0, 0, 10, 0, 11, 0]), (17, [3, 0, 0, 0, 0, 1, 1, 0]), (24, [3, 0, 0, 0, 0, 2, 2, 0])], by unfold Accepted Taken; decide +kernel⟩⟩

theorem witness_CaptureStepsTakeEffect :
    (∃ (s : State) (k : Fin 8), portEnabled s (17 + k.val) = true ∧ fabricStates s = true ∧ (capGet s k.val).silent = 0 ∧ (capGet s k.val).pga < (capGet s k.val).pgaTarget)
    ∧ (∃ (s : State) (k : Fin 8), portEnabled s (17 + k.val) = true ∧ fabricStates s = true ∧ (capGet s k.val).silent = 0 ∧ (capGet s k.val).pgaTarget < (capGet s k.val).pga)
    ∧ (∃ (s : State) (b : Fin 2), (micGet s b.val).st = 1 ∧ auxHeld s = false ∧ (auxGet s (12 + b.val)).shadow = none)
    ∧ (∃ (s : State) (b : Fin 2), (micGet s b.val).settling = true)
    ∧ (∃ (s : State) (b : Fin 2), micOn s b.val = true)
    ∧ (∃ (s : State) (ch : Fin 16), bit (capGet s ch.val).silent 0 = true ∧ 128 ≤ (capGet s ch.val).restartK)
    ∧ (∃ (s : State) (port : Fin 4), (bit (capGet s (8 + 2 * port.val)).silent 1 = true ∨ bit (capGet s (9 + 2 * port.val)).silent 1 = true))
    ∧ (∃ (s : State) (ch : Fin 16), 64 < (capGet s ch.val).trimK)
    ∧ (∃ (s : State) (ch : Fin 16) (peak : Int), thresholdStates s = true ∧ (capGet s ch.val).armed = true ∧ (capGet s ch.val).hold ≤ (capGet s ch.val).run + 1 ∧ (if (capGet s ch.val).below then peak < (capGet s ch.val).level else (capGet s ch.val).level < peak))
    ∧ (∃ (s : State) (ch : Fin 16) (peak : Int), thresholdStates s = true ∧ (capGet s ch.val).armed = true ∧ (capGet s ch.val).run + 1 < (capGet s ch.val).hold ∧ (if (capGet s ch.val).below then peak < (capGet s ch.val).level else (capGet s ch.val).level < peak))
    ∧ (∃ (s : State) (ch : Fin 16) (peak : Int), thresholdStates s = true ∧ (capGet s ch.val).armed = true ∧ (capGet s ch.val).hold ≠ 0 ∧ ¬ (if (capGet s ch.val).below then peak < (capGet s ch.val).level else (capGet s ch.val).level < peak))
    ∧ (∃ (s : State) (ch : Fin 16), capRuns (capEntry s ch.val) ch.val = true ∧ (capGet s ch.val).overloadPosted = false ∧ tblWf Capture.reset s.cap.chans = true) :=
  ⟨⟨{ charted [(11, [7, 0, 0, 0, 0, 0, 10, 0, 11, 0]), (17, [3, 0, 0, 0, 0, 1, 1, 0]), (24, [3, 0, 0, 0, 0, 2, 2, 0])] with cap := { CaptureState.reset with chans := [(7, { Capture.reset with pgaTarget := 96 })] } }, 7, by decide +kernel⟩,
    ⟨{ charted [(11, [7, 0, 0, 0, 0, 0, 10, 0, 11, 0]), (17, [3, 0, 0, 0, 0, 1, 1, 0]), (24, [3, 0, 0, 0, 0, 2, 2, 0])] with cap := { CaptureState.reset with chans := [(0, { Capture.reset with pga := 1 })] } }, 0, by decide +kernel⟩,
    ⟨{ charted [(11, [7, 0, 0, 0, 0, 0, 10, 0, 11, 0]), (17, [3, 0, 0, 0, 0, 1, 1, 0]), (24, [3, 0, 0, 0, 0, 2, 2, 0])] with cap := { CaptureState.reset with micA := { MicBias.off with st := 1 } } }, 0, by decide +kernel⟩,
    ⟨{ charted [(11, [7, 0, 0, 0, 0, 0, 10, 0, 11, 0]), (17, [3, 0, 0, 0, 0, 1, 1, 0]), (24, [3, 0, 0, 0, 0, 2, 2, 0])] with cap := { CaptureState.reset with micA := { MicBias.off with settling := true } } }, 0, by decide +kernel⟩,
    ⟨{ charted [(11, [7, 0, 0, 0, 0, 0, 10, 0, 11, 0]), (17, [3, 0, 0, 0, 0, 1, 1, 0]), (24, [3, 0, 0, 0, 0, 2, 2, 0])] with cap := { CaptureState.reset with micA := { MicBias.off with st := 2 } } }, 0, by decide +kernel⟩,
    ⟨{ charted [(11, [7, 0, 0, 0, 0, 0, 10, 0, 11, 0]), (17, [3, 0, 0, 0, 0, 1, 1, 0]), (24, [3, 0, 0, 0, 0, 2, 2, 0])] with cap := { CaptureState.reset with chans := [(15, { Capture.reset with silent := 7, restartK := 128 })] } }, 15, by decide +kernel⟩,
    ⟨{ charted [(11, [7, 0, 0, 0, 0, 0, 10, 0, 11, 0]), (17, [3, 0, 0, 0, 0, 1, 1, 0]), (24, [3, 0, 0, 0, 0, 2, 2, 0])] with cap := { CaptureState.reset with chans := [(9, { Capture.reset with silent := 2 })] } }, 0, by decide +kernel⟩,
    ⟨{ charted [(11, [7, 0, 0, 0, 0, 0, 10, 0, 11, 0]), (17, [3, 0, 0, 0, 0, 1, 1, 0]), (24, [3, 0, 0, 0, 0, 2, 2, 0])] with cap := { CaptureState.reset with chans := [(15, { Capture.reset with trimK := 65 })] } }, 15, by decide +kernel⟩,
    ⟨{ charted [(11, [7, 0, 0, 0, 0, 0, 10, 0, 11, 0]), (17, [3, 0, 0, 0, 0, 1, 1, 0]), (24, [3, 0, 0, 0, 0, 2, 2, 0])] with cap := { CaptureState.reset with chans := [(7, { Capture.reset with armed := true, level := -1200, hold := 1 })] }, pwr := { PowerState.reset with dev := .test } }, 7, -1199, by decide +kernel⟩,
    ⟨{ charted [(11, [7, 0, 0, 0, 0, 0, 10, 0, 11, 0]), (17, [3, 0, 0, 0, 0, 1, 1, 0]), (24, [3, 0, 0, 0, 0, 2, 2, 0])] with cap := { CaptureState.reset with chans := [(7, { Capture.reset with armed := true, below := true, level := 0, hold := 2 })] }, pwr := { PowerState.reset with dev := .test } }, 7, -1, by decide +kernel⟩,
    ⟨{ charted [(11, [7, 0, 0, 0, 0, 0, 10, 0, 11, 0]), (17, [3, 0, 0, 0, 0, 1, 1, 0]), (24, [3, 0, 0, 0, 0, 2, 2, 0])] with cap := { CaptureState.reset with chans := [(7, { Capture.reset with armed := true, level := 0, hold := 1 })] }, pwr := { PowerState.reset with dev := .test } }, 7, 0, by decide +kernel⟩,
    ⟨charted [(11, [7, 0, 0, 0, 0, 0, 10, 0, 11, 0]), (17, [3, 0, 0, 0, 0, 1, 1, 0]), (24, [3, 0, 0, 0, 0, 2, 2, 0])], 0, by decide +kernel⟩⟩

theorem witness_RelayStepsInBeats :
    (∃ (s : State) (tr : Fin 3) (t22 : Int), s.pwr.dev = .active ∧ s.pwr.transition = none ∧ s.cs.chart.isSome = true ∧ s.cap.relay.rotating = false ∧ s.cap.relay.stopped = false ∧ (tr ≠ 2 ∨ (s.cap.relay.started = true ∧ 50 < (t22 - s.cap.relay.startTemp).natAbs)) ∧ (∃ k < 8, relayEligible s k = true))
    ∧ (∃ (s : State) (k : _), s.cap.relay.rotating = true ∧ s.cap.relay.beat = 0 ∧ s.pwr.shelter = false ∧ fabricStates s = true ∧ s.cap.relay.todo.find? (relayEligible s) = some k)
    ∧ (∃ (s : State), s.cap.relay.rotating = true ∧ s.cap.relay.beat = 0 ∧ s.pwr.shelter = false ∧ fabricStates s = true ∧ s.cap.relay.todo.find? (relayEligible s) = none)
    ∧ (∃ (s : State) (m : Nat) (g f n : Int), s.cap.relay.beat = 1 ∧ s.cap.relay.relief = some m ∧ f.natAbs ≤ 671088 ∧ -5593912 ≤ g ∧ g ≤ 5925372 ∧ n ≤ -11000)
    ∧ (∃ (s : State) (m : Nat) (g f n : Int), s.cap.relay.beat = 1 ∧ s.cap.relay.relief = some m ∧ (671088 < f.natAbs ∨ g < -5593912 ∨ 5925372 < g ∨ -11000 < n))
    ∧ (∃ (s : State), s.cap.relay.beat = 3)
    ∧ (∃ (s : State) (m u : Nat) (l g f d : Int), s.cap.relay.beat = 4 ∧ s.cap.relay.relief = some m ∧ 250 ≤ u ∧ -7000 ≤ l)
    ∧ (∃ (s : State) (m u : Nat) (l g f d : Int), s.cap.relay.beat = 4 ∧ s.cap.relay.relief = some m ∧ 250 ≤ u ∧ l < -7000 ∧ (modGet s m).calibrated = true)
    ∧ (∃ (s : State) (u : Nat) (l g f d : Int), s.cap.relay.beat = 4 ∧ u < 250 ∧ s.cap.relay.failures = 0)
    ∧ (∃ (s : State) (u : Nat) (rms mean : Int), s.cap.relay.beat = 6 ∧ 250 ≤ u ∧ rms < -11000 ∧ mean < -12000)
    ∧ (∃ (s : State) (u : Nat) (rms mean : Int), s.cap.relay.beat = 6 ∧ (u < 250 ∨ -11000 ≤ rms ∨ -12000 ≤ mean) ∧ s.cap.relay.failures = 0)
    ∧ (∃ (s : State) (mr : _), s.cap.relay.beat = 8 ∧ 64 < s.cap.relay.crossK ∧ s.cap.relay.relief = some mr ∧ s.cap.relay.queued = []) :=
  ⟨⟨{ charted [(11, [7, 0, 0, 0, 0, 0, 10, 0, 11, 0]), (17, [3, 0, 0, 0, 0, 1, 1, 0]), (24, [3, 0, 0, 0, 0, 2, 2, 0])] with cap := { CaptureState.reset with relay := { Relay.reset with started := true } } }, 2, 51, by decide +kernel⟩,
    ⟨{ charted [(11, [7, 0, 0, 0, 0, 0, 10, 0, 11, 0]), (17, [3, 0, 0, 0, 0, 1, 1, 0]), (24, [3, 0, 0, 0, 0, 2, 2, 0])] with cap := { CaptureState.reset with relay := { Relay.reset with rotating := true, todo := [7] } } }, 7, by decide +kernel⟩,
    ⟨{ charted [(11, [7, 0, 0, 0, 0, 0, 10, 0, 11, 0]), (17, [3, 0, 0, 0, 0, 1, 1, 0]), (24, [3, 0, 0, 0, 0, 2, 2, 0])] with cap := { CaptureState.reset with relay := { Relay.reset with rotating := true, todo := [1] } } }, by decide +kernel⟩,
    ⟨{ charted [(11, [7, 0, 0, 0, 0, 0, 10, 0, 11, 0]), (17, [3, 0, 0, 0, 0, 1, 1, 0]), (24, [3, 0, 0, 0, 0, 2, 2, 0])] with cap := { CaptureState.reset with relay := { Relay.reset with beat := 1, relief := some 8 } } }, 8, 5925372, -671088, -11000, by decide +kernel⟩,
    ⟨{ charted [(11, [7, 0, 0, 0, 0, 0, 10, 0, 11, 0]), (17, [3, 0, 0, 0, 0, 1, 1, 0]), (24, [3, 0, 0, 0, 0, 2, 2, 0])] with cap := { CaptureState.reset with relay := { Relay.reset with beat := 1, relief := some 8 } } }, 8, -5593913, 0, -11000, by decide +kernel⟩,
    ⟨{ charted [(11, [7, 0, 0, 0, 0, 0, 10, 0, 11, 0]), (17, [3, 0, 0, 0, 0, 1, 1, 0]), (24, [3, 0, 0, 0, 0, 2, 2, 0])] with cap := { CaptureState.reset with relay := { Relay.reset with beat := 3 } } }, by decide +kernel⟩,
    ⟨{ charted [(11, [7, 0, 0, 0, 0, 0, 10, 0, 11, 0]), (17, [3, 0, 0, 0, 0, 1, 1, 0]), (24, [3, 0, 0, 0, 0, 2, 2, 0])] with cap := { CaptureState.reset with relay := { Relay.reset with beat := 4, relief := some 8 } } }, 8, 250, -7000, 0, 0, 0, by decide +kernel⟩,
    ⟨{ charted [(11, [7, 0, 0, 0, 0, 0, 10, 0, 11, 0]), (17, [3, 0, 0, 0, 0, 1, 1, 0]), (24, [3, 0, 0, 0, 0, 2, 2, 0])] with cap := { CaptureState.reset with relay := { Relay.reset with beat := 4, relief := some 8 }, mods := [(8, { Modulator.factory with calibrated := true })] } }, 8, 250, -7001, 0, 0, 0, by decide +kernel⟩,
    ⟨{ charted [(11, [7, 0, 0, 0, 0, 0, 10, 0, 11, 0]), (17, [3, 0, 0, 0, 0, 1, 1, 0]), (24, [3, 0, 0, 0, 0, 2, 2, 0])] with cap := { CaptureState.reset with relay := { Relay.reset with beat := 4 } } }, 249, 0, 0, 0, 0, by decide +kernel⟩,
    ⟨{ charted [(11, [7, 0, 0, 0, 0, 0, 10, 0, 11, 0]), (17, [3, 0, 0, 0, 0, 1, 1, 0]), (24, [3, 0, 0, 0, 0, 2, 2, 0])] with cap := { CaptureState.reset with relay := { Relay.reset with beat := 6 } } }, 250, -11001, -12001, by decide +kernel⟩,
    ⟨{ charted [(11, [7, 0, 0, 0, 0, 0, 10, 0, 11, 0]), (17, [3, 0, 0, 0, 0, 1, 1, 0]), (24, [3, 0, 0, 0, 0, 2, 2, 0])] with cap := { CaptureState.reset with relay := { Relay.reset with beat := 6 } } }, 249, -11001, -12001, by decide +kernel⟩,
    ⟨{ charted [(11, [7, 0, 0, 0, 0, 0, 10, 0, 11, 0]), (17, [3, 0, 0, 0, 0, 1, 1, 0]), (24, [3, 0, 0, 0, 0, 2, 2, 0])] with cap := { CaptureState.reset with relay := { Relay.reset with beat := 8, crossK := 65 } } }, 8, by decide +kernel⟩⟩

theorem witness_OutputCommandsTakeEffect :
    (∃ (o : Issue) (p : List Byte) (s : State), Accepted 0x0A01 o p (outNumberCheck p) s)
    ∧ (∃ (o : Issue) (p : List Byte) (s : State), Accepted 0x0A02 o p (outputEnableCheck o p) s ∧ (outGet s (u8 p 0)).enabled = (u8 p 1 == 1))
    ∧ (∃ (o : Issue) (p : List Byte) (s : State), Accepted 0x0A02 o p (outputEnableCheck o p) s ∧ (outGet s (u8 p 0)).enabled ≠ (u8 p 1 == 1))
    ∧ (∃ (o : Issue) (p : List Byte) (s : State), Accepted 0x0A03 o p restoreOutputsCheck s)
    ∧ (∃ (o : Issue) (p : List Byte) (s : State), Accepted 0x0A04 o p (setAutoRestoreCheck p) s)
    ∧ (∃ (o : Issue) (p : List Byte) (s : State), Accepted 0x0A05 o p (jackNumberCheck p) s)
    ∧ (∃ (o : Issue) (p : List Byte) (s : State), Accepted 0x0A06 o p (buttonWindowsSetCheck o p) s)
    ∧ (∃ (o : Issue) (p : List Byte) (s : State), Accepted 0x0A07 o p (spkFaultClearCheck o) s ∧ (s.eng.halted = true ∨ s.pwr.thermalShut = true))
    ∧ (∃ (o : Issue) (p : List Byte) (s : State), Accepted 0x0A08 o p (jackReclassifyCheck o p) s ∧ (jackGet s (u8 p 0)).reclassify ≠ [])
    ∧ (∃ (o : Issue) (p : List Byte) (s : State), Accepted 0x0A08 o p (jackReclassifyCheck o p) s ∧ (jackGet s (u8 p 0)).reclassify = [] ∧ (outGet s (u8 p 0)).st ∈ [2, 3, 4] ∧ (outGet s (u8 p 0)).after ∉ [4, 5])
    ∧ (∃ (o : Issue) (p : List Byte) (s : State), Accepted 0x0A08 o p (jackReclassifyCheck o p) s ∧ (jackGet s (u8 p 0)).reclassify = [] ∧ (outGet s (u8 p 0)).st ∈ [2, 3, 4] ∧ (outGet s (u8 p 0)).after ∈ [4, 5] ∧ ((outGet s (u8 p 0)).rampPending.isSome = true ∨ (outGet s (u8 p 0)).gate.n ≠ 0 ∨ (outGet s (u8 p 0)).gate.present ≠ 0))
    ∧ (∃ (o : Issue) (p : List Byte) (s : State), Accepted 0x0A08 o p (jackReclassifyCheck o p) s ∧ (jackGet s (u8 p 0)).reclassify = [] ∧ (outGet s (u8 p 0)).st ∈ [2, 3, 4] ∧ (outGet s (u8 p 0)).after ∈ [4, 5] ∧ (outGet s (u8 p 0)).rampPending = none ∧ (outGet s (u8 p 0)).gate.n = 0 ∧ (outGet s (u8 p 0)).gate.present = 0)
    ∧ (∃ (o : Issue) (p : List Byte) (s : State), Accepted 0x0A08 o p (jackReclassifyCheck o p) s ∧ (jackGet s (u8 p 0)).reclassify = [] ∧ (outGet s (u8 p 0)).st ∉ [1, 2, 3, 4] ∧ tblWf Output.reset s.out.outs = true)
    ∧ (∃ (o : Issue) (p : List Byte) (s : State), Accepted 0x0A08 o p (jackReclassifyCheck o p) s ∧ (jackGet s (u8 p 0)).reclassify = [] ∧ (outGet s (u8 p 0)).st = 1) :=
  ⟨⟨h0, [3, 0, 0, 0], active, by unfold Accepted Taken; decide +kernel⟩,
    ⟨h0, [3, 0, 0, 0], charted [(25, [3, 0, 0, 1, 0, 0, 0, 0, 1, 40, 100, 0, 200, 0, 0x2C, 1, 0x90, 1]), (26, [1]), (27, [1]), (28, [1])], by unfold Accepted Taken; decide +kernel⟩,
    ⟨h0, [3, 1, 0, 0], charted [(25, [3, 0, 0, 1, 0, 0, 0, 0, 1, 40, 100, 0, 200, 0, 0x2C, 1, 0x90, 1]), (26, [1]), (27, [1]), (28, [1])], by unfold Accepted Taken; decide +kernel⟩,
    ⟨h0, [], active, by unfold Accepted Taken; decide +kernel⟩,
    ⟨h0, [1, 0, 0, 0], active, by unfold Accepted Taken; decide +kernel⟩,
    ⟨h0, [1, 0, 0, 0], active, by unfold Accepted Taken; decide +kernel⟩,
    ⟨h0, [1, 100, 1, 0, 2, 0, 3, 0, 4, 0, 0, 0], charted [(25, [3, 0, 0, 1, 0, 0, 0, 0, 1, 40, 100, 0, 200, 0, 0x2C, 1, 0x90, 1]), (26, [1]), (27, [1]), (28, [1])], by unfold Accepted Taken; decide +kernel⟩,
    ⟨h0, [], { charted [(25, [3, 0, 0, 1, 0, 0, 0, 0, 1, 40, 100, 0, 200, 0, 0x2C, 1, 0x90, 1]), (26, [1]), (27, [1]), (28, [1])] with out := { OutputState.reset with latched := true }, pwr := { PowerState.reset with dev := .active, thermalShut := true } }, by unfold Accepted Taken; decide +kernel⟩,
    ⟨h0, [0, 0, 0, 0], { charted [(25, [3, 0, 0, 1, 0, 0, 0, 0, 1, 40, 100, 0, 200, 0, 0x2C, 1, 0x90, 1]), (26, [1]), (27, [1]), (28, [1])] with out := { OutputState.reset with jackA := { Jack.empty with st := 3, reclassify := [{ ctx := .h0, log := 1 }] } } }, by unfold Accepted Taken; decide +kernel⟩,
    ⟨h0, [0, 0, 0, 0], { charted [(25, [3, 0, 0, 1, 0, 0, 0, 0, 1, 40, 100, 0, 200, 0, 0x2C, 1, 0x90, 1]), (26, [1]), (27, [1]), (28, [1])] with out := { OutputState.reset with jackA := { Jack.empty with st := 3 }, outs := [(0, { Output.reset with st := 3 })] } }, by unfold Accepted Taken; decide +kernel⟩,
    ⟨h0, [0, 0, 0, 0], { charted [(25, [3, 0, 0, 1, 0, 0, 0, 0, 1, 40, 100, 0, 200, 0, 0x2C, 1, 0x90, 1]), (26, [1]), (27, [1]), (28, [1])] with out := { OutputState.reset with jackA := { Jack.empty with st := 3 }, outs := [(0, { Output.reset with st := 4, after := 4, rampPending := some (false, 480) })] } }, by unfold Accepted Taken; decide +kernel⟩,
    ⟨h0, [0, 0, 0, 0], { charted [(25, [3, 0, 0, 1, 0, 0, 0, 0, 1, 40, 100, 0, 200, 0, 0x2C, 1, 0x90, 1]), (26, [1]), (27, [1]), (28, [1])] with out := { OutputState.reset with jackA := { Jack.empty with st := 3 }, outs := [(0, { Output.reset with st := 4, after := 5 })] } }, by unfold Accepted Taken; decide +kernel⟩,
    ⟨h0, [0, 0, 0, 0], { charted [(25, [3, 0, 0, 1, 0, 0, 0, 0, 1, 40, 100, 0, 200, 0, 0x2C, 1, 0x90, 1]), (26, [1]), (27, [1]), (28, [1])] with out := { OutputState.reset with jackA := { Jack.empty with st := 3 }, outs := [(0, { Output.reset with st := 6 })] } }, by unfold Accepted Taken; decide +kernel⟩,
    ⟨h0, [0, 0, 0, 0], { charted [(25, [3, 0, 0, 1, 0, 0, 0, 0, 1, 40, 100, 0, 200, 0, 0x2C, 1, 0x90, 1]), (26, [1]), (27, [1]), (28, [1])] with out := { OutputState.reset with jackA := { Jack.empty with st := 3 }, outs := [(0, { Output.reset with st := 1 })] } }, by unfold Accepted Taken; decide +kernel⟩⟩

theorem witness_OutputStepsAndFaultsTakeEffect :
    (∃ (k : Fin 4) (s : State), tblWf Output.reset s.out.outs = true ∧ k.val < 3 ∧ (outGet s k.val).st = 1)
    ∧ (∃ (k : Fin 4) (s : State), tblWf Output.reset s.out.outs = true ∧ gateDone (outGet s k.val).gate = true ∧ (outGet s k.val).after ≠ 4 ∧ (outGet s k.val).gate.target ≠ 0 ∧ (k.val = 3 → channelRises (channelsOver s) 3 = false))
    ∧ (∃ (k : Fin 4) (s : State), tblWf Output.reset s.out.outs = true ∧ gateDone (outGet s k.val).gate = true ∧ (outGet s k.val).after ≠ 4 ∧ (outGet s k.val).gate.target ≠ 0 ∧ k.val = 3 ∧ channelRises (channelsOver s) 3 = true)
    ∧ (∃ (k : Fin 4) (s : State), tblWf Output.reset s.out.outs = true ∧ gateDone (outGet s k.val).gate = false ∧ k.val = 3 ∧ (gateDone s.out.gateL = true ∨ gateDone s.out.gateR = true))
    ∧ (∃ (k : Fin 4) (s : State), tblWf Output.reset s.out.outs = true ∧ gateDone (outGet s k.val).gate = true ∧ (outGet s k.val).after ∈ [0, 5] ∧ (outGet s k.val).gate.target = 0)
    ∧ (∃ (k : Fin 4) (s : State), tblWf Output.reset s.out.outs = true ∧ gateDone (outGet s k.val).gate = true ∧ (outGet s k.val).after = 1 ∧ (outGet s k.val).gate.target = 0)
    ∧ (∃ (k : Fin 4) (s : State), tblWf Output.reset s.out.outs = true ∧ gateDone (outGet s k.val).gate = true ∧ (outGet s k.val).after = 2 ∧ (outGet s k.val).gate.target = 0)
    ∧ (∃ (k : Fin 4) (s : State), tblWf Output.reset s.out.outs = true ∧ gateDone (outGet s k.val).gate = true ∧ (outGet s k.val).after = 3 ∧ (outGet s k.val).gate.target = 0 ∧ k.val < 2 ∧ (jackGet s k.val).st = 3 ∧ (jackGet s k.val).reclassify ≠ [])
    ∧ (∃ (k : Fin 4) (s : State), tblWf Output.reset s.out.outs = true ∧ gateDone (outGet s k.val).gate = true ∧ (outGet s k.val).after = 4 ∧ (2 ≤ k.val ∨ (jackGet s k.val).st ≠ 3 ∨ (jackGet s k.val).reclassify = []))
    ∧ (∃ (k : Fin 4) (s : State), tblWf Output.reset s.out.outs = true ∧ gateDone (outGet s k.val).gate = true ∧ (outGet s k.val).after = 4 ∧ k.val < 2 ∧ (jackGet s k.val).st = 3 ∧ (jackGet s k.val).reclassify ≠ [])
    ∧ (∃ (s : State) (k : Fin 2), tblWf Output.reset s.out.outs = true ∧ (outGet s k.val).driving = true)
    ∧ (∃ (s : State), tblWf Output.reset s.out.outs = true ∧ (outGet s 3).driving = true ∧ 2 ≤ (recentTimes s s.out.overcurrents).length)
    ∧ (∃ (s : State), tblWf Output.reset s.out.outs = true ∧ (outGet s 3).driving = true ∧ (recentTimes s s.out.overcurrents).length < 2)
    ∧ (∃ (s : State), tblWf Output.reset s.out.outs = true ∧ s.out.restartWait = true ∧ s.eng.halted = false ∧ s.pwr.thermalShut = false ∧ (s.out.lockL && s.out.lockR) = false ∧ s.out.latched = false ∧ s.out.overTemp = false ∧ (outGet s 3).st = 6 ∧ (outGet s 3).enabled = true ∧ s.pwr.shelter = false ∧ fabricStates s = true)
    ∧ (∃ (s : State) (ch : Fin 2), tblWf Output.reset s.out.outs = true ∧ s.pwr.dev ≠ .off ∧ s.pwr.dev ≠ .por ∧ railLocked s ch.val = false)
    ∧ (∃ (s : State) (ch : Fin 2), tblWf Output.reset s.out.outs = true ∧ s.pwr.dev ≠ .off ∧ s.pwr.dev ≠ .por ∧ railLocked s ch.val = true)
    ∧ (∃ (s : State) (ch : Fin 2), tblWf Output.reset s.out.outs = true ∧ railLocked s ch.val = true ∧ (outGet s 3).st = 6)
    ∧ (∃ (s : State), tblWf Output.reset s.out.outs = true ∧ s.out.lockL = true ∧ (outGet s 3).st ≠ 6 ∧ (outGet s 3).driving = true)
    ∧ (∃ (s : State), tblWf Output.reset s.out.outs = true ∧ s.out.lockR = true ∧ (outGet s 3).st ≠ 6 ∧ (outGet s 3).driving = true)
    ∧ (∃ (s : State) (ch : Fin 2), tblWf Output.reset s.out.outs = true ∧ railLocked s ch.val = true ∧ (outGet s 3).st ≠ 6 ∧ (outGet s 3).driving = false)
    ∧ (∃ (s : State) (t21 : Int), tblWf Output.reset s.out.outs = true ∧ (fabricStates s = true ∨ s.pwr.dev = .doze) ∧ 1150 ≤ t21 ∧ t21 < 1250 ∧ s.out.foldback = 0)
    ∧ (∃ (s : State) (t21 : Int), tblWf Output.reset s.out.outs = true ∧ (fabricStates s = true ∨ s.pwr.dev = .doze) ∧ 1150 ≤ t21 ∧ t21 < 1250 ∧ s.out.foldback ≠ 0)
    ∧ (∃ (s : State) (t21 : Int), tblWf Output.reset s.out.outs = true ∧ (fabricStates s = true ∨ s.pwr.dev = .doze) ∧ 1100 ≤ t21 ∧ t21 < 1150)
    ∧ (∃ (s : State) (t21 : Int), tblWf Output.reset s.out.outs = true ∧ (fabricStates s = true ∨ s.pwr.dev = .doze) ∧ t21 < 1100 ∧ s.out.overTemp = false ∧ (10 < s.out.foldback ∨ s.out.foldback = 0))
    ∧ (∃ (s : State) (t21 : Int), tblWf Output.reset s.out.outs = true ∧ (fabricStates s = true ∨ s.pwr.dev = .doze) ∧ t21 < 1100 ∧ s.out.overTemp = false ∧ 0 < s.out.foldback ∧ s.out.foldback ≤ 10)
    ∧ (∃ (s : State) (t21 : Int), tblWf Output.reset s.out.outs = true ∧ (fabricStates s = true ∨ s.pwr.dev = .doze) ∧ t21 < 1100 ∧ s.out.overTemp = true)
    ∧ (∃ (s : State) (t21 : Int), tblWf Output.reset s.out.outs = true ∧ (fabricStates s = true ∨ s.pwr.dev = .doze) ∧ 1250 ≤ t21 ∧ s.out.overTemp = false ∧ (outGet s 3).driving = true ∧ (outGet s 3).after ≠ 2)
    ∧ (∃ (s : State) (t21 : Int), tblWf Output.reset s.out.outs = true ∧ (fabricStates s = true ∨ s.pwr.dev = .doze) ∧ 1250 ≤ t21 ∧ s.out.overTemp = false ∧ (outGet s 3).driving = false) :=
  ⟨⟨2, { charted [(25, [3, 0, 0, 1, 0, 0, 0, 0, 1, 40, 100, 0, 200, 0, 0x2C, 1, 0x90, 1]), (26, [1]), (27, [1]), (28, [1])] with out := { OutputState.reset with outs := [(2, { Output.reset with st := 1 })] } }, by decide +kernel⟩,
    ⟨3, { charted [(25, [3, 0, 0, 1, 0, 0, 0, 0, 1, 40, 100, 0, 200, 0, 0x2C, 1, 0x90, 1]), (26, [1]), (27, [1]), (28, [1])] with out := { OutputState.reset with outs := [(3, { Output.reset with after := 0, gate := { Slot.reset with n := 240, k := 241, target := 1 } })] } }, by decide +kernel⟩,
    ⟨3, { charted [(25, [3, 0, 0, 1, 0, 0, 0, 0, 1, 40, 100, 0, 200, 0, 0x2C, 1, 0x90, 1]), (26, [1]), (27, [1]), (28, [1])] with out := { OutputState.reset with outs := [(3, { Output.reset with after := 0, gate := { Slot.reset with n := 240, k := 241, target := 1 } })], riseL := true } }, by decide +kernel⟩,
    ⟨3, { charted [(25, [3, 0, 0, 1, 0, 0, 0, 0, 1, 40, 100, 0, 200, 0, 0x2C, 1, 0x90, 1]), (26, [1]), (27, [1]), (28, [1])] with out := { OutputState.reset with gateL := { Slot.reset with n := 240, k := 241 } } }, by decide +kernel⟩,
    ⟨3, { charted [(25, [3, 0, 0, 1, 0, 0, 0, 0, 1, 40, 100, 0, 200, 0, 0x2C, 1, 0x90, 1]), (26, [1]), (27, [1]), (28, [1])] with out := { OutputState.reset with outs := [(3, { Output.reset with after := 5, gate := { Slot.reset with n := 240, k := 241, target := 0 } })] } }, by decide +kernel⟩,
    ⟨3, { charted [(25, [3, 0, 0, 1, 0, 0, 0, 0, 1, 40, 100, 0, 200, 0, 0x2C, 1, 0x90, 1]), (26, [1]), (27, [1]), (28, [1])] with out := { OutputState.reset with outs := [(3, { Output.reset with after := 1, gate := { Slot.reset with n := 240, k := 241, target := 0 } })] } }, by decide +kernel⟩,
    ⟨3, { charted [(25, [3, 0, 0, 1, 0, 0, 0, 0, 1, 40, 100, 0, 200, 0, 0x2C, 1, 0x90, 1]), (26, [1]), (27, [1]), (28, [1])] with out := { OutputState.reset with outs := [(3, { Output.reset with after := 2, gate := { Slot.reset with n := 240, k := 241, target := 0 } })] } }, by decide +kernel⟩,
    ⟨0, { charted [(25, [3, 0, 0, 1, 0, 0, 0, 0, 1, 40, 100, 0, 200, 0, 0x2C, 1, 0x90, 1]), (26, [1]), (27, [1]), (28, [1])] with out := { OutputState.reset with outs := [(0, { Output.reset with after := 3, gate := { Slot.reset with n := 240, k := 241, target := 0 } })], jackA := { Jack.empty with st := 3, reclassify := [{ ctx := .h0, log := 1 }] } } }, by decide +kernel⟩,
    ⟨3, { charted [(25, [3, 0, 0, 1, 0, 0, 0, 0, 1, 40, 100, 0, 200, 0, 0x2C, 1, 0x90, 1]), (26, [1]), (27, [1]), (28, [1])] with out := { OutputState.reset with outs := [(3, { Output.reset with after := 4, gate := { Slot.reset with n := 240, k := 241, target := 0 } })] } }, by decide +kernel⟩,
    ⟨1, { charted [(25, [3, 0, 0, 1, 0, 0, 0, 0, 1, 40, 100, 0, 200, 0, 0x2C, 1, 0x90, 1]), (26, [1]), (27, [1]), (28, [1])] with out := { OutputState.reset with outs := [(1, { Output.reset with after := 4, gate := { Slot.reset with n := 240, k := 241, target := 0 } })], jackB := { Jack.empty with st := 3, reclassify := [{ ctx := .h0, log := 1 }] } } }, by decide +kernel⟩,
    ⟨{ charted [(25, [3, 0, 0, 1, 0, 0, 0, 0, 1, 40, 100, 0, 200, 0, 0x2C, 1, 0x90, 1]), (26, [1]), (27, [1]), (28, [1])] with out := { OutputState.reset with outs := [(1, { Output.reset with driving := true })] } }, 1, by decide +kernel⟩,
    ⟨{ charted [(25, [3, 0, 0, 1, 0, 0, 0, 0, 1, 40, 100, 0, 200, 0, 0x2C, 1, 0x90, 1]), (26, [1]), (27, [1]), (28, [1])] with out := { OutputState.reset with outs := [(3, { Output.reset with driving := true })], overcurrents := [(0, false), (0, false)] } }, by decide +kernel, by decide +kernel, (by show 2 ≤ (List.drop (_ % 1) _).length; rw [Nat.mod_one]; decide)⟩,
    ⟨{ charted [(25, [3, 0, 0, 1, 0, 0, 0, 0, 1, 40, 100, 0, 200, 0, 0x2C, 1, 0x90, 1]), (26, [1]), (27, [1]), (28, [1])] with out := { OutputState.reset with outs := [(3, { Output.reset with driving := true })], overcurrents := [(0, false)] } }, by decide +kernel, by decide +kernel, (by show (List.drop (_ % 1) _).length < 2; rw [Nat.mod_one]; decide)⟩,
    ⟨{ charted [(25, [3, 0, 0, 1, 0, 0, 0, 0, 1, 40, 100, 0, 200, 0, 0x2C, 1, 0x90, 1]), (26, [1]), (27, [1]), (28, [1])] with out := { OutputState.reset with outs := [(3, { Output.reset with st := 6, enabled := true })], restartWait := true } }, by decide +kernel⟩,
    ⟨charted [(25, [3, 0, 0, 1, 0, 0, 0, 0, 1, 40, 100, 0, 200, 0, 0x2C, 1, 0x90, 1]), (26, [1]), (27, [1]), (28, [1])], 1, by decide +kernel⟩,
    ⟨{ charted [(25, [3, 0, 0, 1, 0, 0, 0, 0, 1, 40, 100, 0, 200, 0, 0x2C, 1, 0x90, 1]), (26, [1]), (27, [1]), (28, [1])] with out := { OutputState.reset with lockR := true } }, 1, by decide +kernel⟩,
    ⟨{ charted [(25, [3, 0, 0, 1, 0, 0, 0, 0, 1, 40, 100, 0, 200, 0, 0x2C, 1, 0x90, 1]), (26, [1]), (27, [1]), (28, [1])] with out := { OutputState.reset with outs := [(3, { Output.reset with st := 6 })], lockL := true } }, 0, by decide +kernel⟩,
    ⟨{ charted [(25, [3, 0, 0, 1, 0, 0, 0, 0, 1, 40, 100, 0, 200, 0, 0x2C, 1, 0x90, 1]), (26, [1]), (27, [1]), (28, [1])] with out := { OutputState.reset with outs := [(3, { Output.reset with st := 3, driving := true })], lockL := true } }, by decide +kernel⟩,
    ⟨{ charted [(25, [3, 0, 0, 1, 0, 0, 0, 0, 1, 40, 100, 0, 200, 0, 0x2C, 1, 0x90, 1]), (26, [1]), (27, [1]), (28, [1])] with out := { OutputState.reset with outs := [(3, { Output.reset with st := 3, driving := true })], lockR := true } }, by decide +kernel⟩,
    ⟨{ charted [(25, [3, 0, 0, 1, 0, 0, 0, 0, 1, 40, 100, 0, 200, 0, 0x2C, 1, 0x90, 1]), (26, [1]), (27, [1]), (28, [1])] with out := { OutputState.reset with lockL := true } }, 0, by decide +kernel⟩,
    ⟨charted [(25, [3, 0, 0, 1, 0, 0, 0, 0, 1, 40, 100, 0, 200, 0, 0x2C, 1, 0x90, 1]), (26, [1]), (27, [1]), (28, [1])], 1249, by decide +kernel⟩,
    ⟨{ charted [(25, [3, 0, 0, 1, 0, 0, 0, 0, 1, 40, 100, 0, 200, 0, 0x2C, 1, 0x90, 1]), (26, [1]), (27, [1]), (28, [1])] with out := { OutputState.reset with foldback := 11 } }, 1150, by decide +kernel⟩,
    ⟨{ charted [(25, [3, 0, 0, 1, 0, 0, 0, 0, 1, 40, 100, 0, 200, 0, 0x2C, 1, 0x90, 1]), (26, [1]), (27, [1]), (28, [1])] with out := { OutputState.reset with foldback := 11 } }, 1149, by decide +kernel⟩,
    ⟨{ charted [(25, [3, 0, 0, 1, 0, 0, 0, 0, 1, 40, 100, 0, 200, 0, 0x2C, 1, 0x90, 1]), (26, [1]), (27, [1]), (28, [1])] with out := { OutputState.reset with foldback := 11 } }, 1099, by decide +kernel⟩,
    ⟨{ charted [(25, [3, 0, 0, 1, 0, 0, 0, 0, 1, 40, 100, 0, 200, 0, 0x2C, 1, 0x90, 1]), (26, [1]), (27, [1]), (28, [1])] with out := { OutputState.reset with foldback := 10 } }, 1099, by decide +kernel⟩,
    ⟨{ charted [(25, [3, 0, 0, 1, 0, 0, 0, 0, 1, 40, 100, 0, 200, 0, 0x2C, 1, 0x90, 1]), (26, [1]), (27, [1]), (28, [1])] with out := { OutputState.reset with overTemp := true } }, 1099, by decide +kernel⟩,
    ⟨{ charted [(25, [3, 0, 0, 1, 0, 0, 0, 0, 1, 40, 100, 0, 200, 0, 0x2C, 1, 0x90, 1]), (26, [1]), (27, [1]), (28, [1])] with out := { OutputState.reset with outs := [(3, { Output.reset with driving := true })] } }, 1250, by decide +kernel⟩,
    ⟨charted [(25, [3, 0, 0, 1, 0, 0, 0, 0, 1, 40, 100, 0, 200, 0, 0x2C, 1, 0x90, 1]), (26, [1]), (27, [1]), (28, [1])], 1250, by decide +kernel⟩⟩

theorem witness_JackStepsTakeEffect :
    (∃ (j : Fin 2) (s : State), tblWf Output.reset s.out.outs = true ∧ jackDetected j.val s = true ∧ (jackGet s j.val).st = 0)
    ∧ (∃ (j : Fin 2) (s : State), tblWf Output.reset s.out.outs = true ∧ jackDetected j.val s = true ∧ (jackGet s j.val).st = 4)
    ∧ (∃ (j : Fin 2) (s : State), tblWf Output.reset s.out.outs = true ∧ jackDetected j.val s = true ∧ (jackGet s j.val).st ∉ [0, 4])
    ∧ (∃ (j : Fin 2) (s : State), tblWf Output.reset s.out.outs = true ∧ jackDetected j.val s = true ∧ (jackGet s j.val).st ∈ [1, 2])
    ∧ (∃ (j : Fin 2) (s : State), tblWf Output.reset s.out.outs = true ∧ jackDetected j.val s = true ∧ (jackGet s j.val).st = 3)
    ∧ (∃ (j : Fin 2) (s : State), tblWf Output.reset s.out.outs = true ∧ jackDetected j.val s = true ∧ (jackGet s j.val).st ∉ [1, 2, 3])
    ∧ (∃ (j : Fin 2) (s : State), tblWf Output.reset s.out.outs = true ∧ beatsRun s = true ∧ (jackGet s j.val).st = 1)
    ∧ (∃ (j : Fin 2) (s : State), tblWf Output.reset s.out.outs = true ∧ beatsRun s = true ∧ (jackGet s j.val).beat = 3)
    ∧ (∃ (j : Fin 2) (s : State), tblWf Output.reset s.out.outs = true ∧ beatsRun s = true ∧ (jackGet s j.val).beat = 5)
    ∧ (∃ (j : Fin 2) (s : State), tblWf Output.reset s.out.outs = true ∧ beatsRun s = true ∧ (jackGet s j.val).beat = 6)
    ∧ (∃ (j : Fin 2) (s : State), tblWf Output.reset s.out.outs = true ∧ beatsRun s = true ∧ (jackGet s j.val).st = 4)
    ∧ (∃ (j : Fin 2) (s : State) (line : _) (bias : _), tblWf Output.reset s.out.outs = true ∧ (jackGet s j.val).st = 3 ∧ ((jackGet s j.val).class_ = 2 ∨ (jackGet s j.val).class_ = 3) ∧ jackMode s j.val ≠ 0 ∧ jackBiasOn s j.val = true ∧ buttonWindow (buttonLimits s j.val) line bias = (jackGet s j.val).button)
    ∧ (∃ (j : Fin 2) (s : State) (line : _) (bias : _), tblWf Output.reset s.out.outs = true ∧ (jackGet s j.val).st = 3 ∧ ((jackGet s j.val).class_ = 2 ∨ (jackGet s j.val).class_ = 3) ∧ jackMode s j.val ≠ 0 ∧ jackBiasOn s j.val = true ∧ (jackGet s j.val).button = 0xFF ∧ buttonWindow (buttonLimits s j.val) line bias ≠ 0xFF ∧ buttonWindow (buttonLimits s j.val) line bias = (jackGet s j.val).cand ∧ buttonDebounce s j.val ≤ (jackGet s j.val).candMs + 1)
    ∧ (∃ (j : Fin 2) (s : State) (line : _) (bias : _), tblWf Output.reset s.out.outs = true ∧ (jackGet s j.val).st = 3 ∧ ((jackGet s j.val).class_ = 2 ∨ (jackGet s j.val).class_ = 3) ∧ jackMode s j.val ≠ 0 ∧ jackBiasOn s j.val = true ∧ (jackGet s j.val).button ≠ 0xFF ∧ buttonWindow (buttonLimits s j.val) line bias = 0xFF ∧ (jackGet s j.val).cand = 0xFF ∧ buttonDebounce s j.val ≤ (jackGet s j.val).outMs + 1) :=
  ⟨⟨0, charted [(25, [3, 0, 0, 1, 0, 0, 0, 0, 1, 40, 100, 0, 200, 0, 0x2C, 1, 0x90, 1]), (26, [1]), (27, [1]), (28, [1])], by decide +kernel⟩,
    ⟨0, { charted [(25, [3, 0, 0, 1, 0, 0, 0, 0, 1, 40, 100, 0, 200, 0, 0x2C, 1, 0x90, 1]), (26, [1]), (27, [1]), (28, [1])] with out := { OutputState.reset with jackA := { Jack.empty with st := 4 } } }, by decide +kernel⟩,
    ⟨0, { charted [(25, [3, 0, 0, 1, 0, 0, 0, 0, 1, 40, 100, 0, 200, 0, 0x2C, 1, 0x90, 1]), (26, [1]), (27, [1]), (28, [1])] with out := { OutputState.reset with jackA := { Jack.empty with st := 3 } } }, by decide +kernel⟩,
    ⟨0, { charted [(25, [3, 0, 0, 1, 0, 0, 0, 0, 1, 40, 100, 0, 200, 0, 0x2C, 1, 0x90, 1]), (26, [1]), (27, [1]), (28, [1])] with out := { OutputState.reset with jackA := { Jack.empty with st := 1 } } }, by decide +kernel⟩,
    ⟨0, { charted [(25, [3, 0, 0, 1, 0, 0, 0, 0, 1, 40, 100, 0, 200, 0, 0x2C, 1, 0x90, 1]), (26, [1]), (27, [1]), (28, [1])] with out := { OutputState.reset with jackA := { Jack.empty with st := 3 } } }, by decide +kernel⟩,
    ⟨0, { charted [(25, [3, 0, 0, 1, 0, 0, 0, 0, 1, 40, 100, 0, 200, 0, 0x2C, 1, 0x90, 1]), (26, [1]), (27, [1]), (28, [1])] with out := { OutputState.reset with jackA := { Jack.empty with st := 4 } } }, by decide +kernel⟩,
    ⟨0, { charted [(25, [3, 0, 0, 1, 0, 0, 0, 0, 1, 40, 100, 0, 200, 0, 0x2C, 1, 0x90, 1]), (26, [1]), (27, [1]), (28, [1])] with out := { OutputState.reset with jackA := { Jack.empty with st := 1 } } }, by decide +kernel⟩,
    ⟨0, { charted [(25, [3, 0, 0, 1, 0, 0, 0, 0, 1, 40, 100, 0, 200, 0, 0x2C, 1, 0x90, 1]), (26, [1]), (27, [1]), (28, [1])] with out := { OutputState.reset with jackA := { Jack.empty with st := 2, beat := 3 } } }, by decide +kernel⟩,
    ⟨0, { charted [(25, [3, 0, 0, 1, 0, 0, 0, 0, 1, 40, 100, 0, 200, 0, 0x2C, 1, 0x90, 1]), (26, [1]), (27, [1]), (28, [1])] with out := { OutputState.reset with jackA := { Jack.empty with st := 2, beat := 5 } } }, by decide +kernel⟩,
    ⟨0, { charted [(25, [3, 0, 0, 1, 0, 0, 0, 0, 1, 40, 100, 0, 200, 0, 0x2C, 1, 0x90, 1]), (26, [1]), (27, [1]), (28, [1])] with out := { OutputState.reset with jackA := { Jack.empty with st := 2, beat := 6 } } }, by decide +kernel⟩,
    ⟨0, { charted [(25, [3, 0, 0, 1, 0, 0, 0, 0, 1, 40, 100, 0, 200, 0, 0x2C, 1, 0x90, 1]), (26, [1]), (27, [1]), (28, [1])] with out := { OutputState.reset with jackA := { Jack.empty with st := 4 } } }, by decide +kernel⟩,
    ⟨0, { charted [(25, [3, 0, 0, 1, 0, 0, 0, 0, 1, 40, 100, 0, 200, 0, 0x2C, 1, 0x90, 1]), (26, [1]), (27, [1]), (28, [1])] with out := { OutputState.reset with jackA := { Jack.empty with st := 3, class_ := 3, button := 0xFF } }, cap := { CaptureState.reset with micA := { MicBias.off with st := 2 } } }, 1, 0, by decide +kernel⟩,
    ⟨0, { charted [(25, [3, 0, 0, 1, 0, 0, 0, 0, 1, 40, 100, 0, 200, 0, 0x2C, 1, 0x90, 1]), (26, [1]), (27, [1]), (28, [1])] with out := { OutputState.reset with jackA := { Jack.empty with st := 3, class_ := 3, button := 0xFF, cand := 0, candMs := 39 } }, cap := { CaptureState.reset with micA := { MicBias.off with st := 2 } } }, 0, 1, by decide +kernel⟩,
    ⟨0, { charted [(25, [3, 0, 0, 1, 0, 0, 0, 0, 1, 40, 100, 0, 200, 0, 0x2C, 1, 0x90, 1]), (26, [1]), (27, [1]), (28, [1])] with out := { OutputState.reset with jackA := { Jack.empty with st := 3, class_ := 3, button := 0, cand := 0xFF, outMs := 39 } }, cap := { CaptureState.reset with micA := { MicBias.off with st := 2 } } }, 1, 0, by decide +kernel⟩⟩

theorem witness_SerialCommandsAndStepsTakeEffect :
    (∃ (o : Issue) (p : List Byte) (s : State), Accepted 0x0601 o p (saiStatusCheck p) s)
    ∧ (∃ (o : Issue) (p : List Byte) (s : State), Accepted 0x0602 o p (saiSlotMaskCheck o p) s)
    ∧ (∃ (o : Issue) (p : List Byte) (s : State), Accepted 0x0603 o p (spdifRxStatusCheck p) s)
    ∧ (∃ (o : Issue) (p : List Byte) (s : State), Accepted 0x0604 o p (spdifReadCheck p) s)
    ∧ (∃ (o : Issue) (p : List Byte) (s : State), Accepted 0x0606 o p (spdifReadCheck p) s)
    ∧ (∃ (o : Issue) (p : List Byte) (s : State), Accepted 0x0605 o p (spdifTxCheck o) s)
    ∧ (∃ (o : Issue) (p : List Byte) (s : State), Accepted 0x0607 o p (spdifTxCheck o) s)
    ∧ (∃ (o : Issue) (p : List Byte) (s : State), Accepted 0x0608 o p (spdifValiditySetCheck o p) s)
    ∧ (∃ (s : State) (n : Fin 6), (saiGet s n.val).moving ≠ none)
    ∧ (∃ (s : State) (n : Fin 6), serialAlive s = true ∧ (saiGet s n.val).st = 1 ∧ tblWf Sai.off s.ser.sais = true ∧ (saiFd (saiEntry s n.val) = false ∨ (saiGet s n.val).ticked = true))
    ∧ (∃ (s : State) (n : Fin 6), (saiGet s n.val).st = 1 ∧ saiFd (saiEntry s n.val) = true ∧ (saiGet s n.val).ticked = false)
    ∧ (∃ (s : State) (n : Fin 6) (b : _), serialAlive s = true ∧ (saiGet s n.val).st = 2 ∧ tblWf Sai.off s.ser.sais = true ∧ (saiController (saiEntry s n.val) = true ∨ b = saiSlots (saiEntry s n.val) * u8 (saiEntry s n.val) 3))
    ∧ (∃ (s : State) (n : Fin 6) (b : _), serialAlive s = true ∧ (saiGet s n.val).st = 2 ∧ saiController (saiEntry s n.val) = false ∧ b ≠ saiSlots (saiEntry s n.val) * u8 (saiEntry s n.val) 3 ∧ tblWf Sai.off s.ser.sais = true)
    ∧ (∃ (s : State) (n : Fin 6) (b : _), serialAlive s = true ∧ s.pwr.dev = .doze ∧ (saiGet s n.val).st = 2 ∧ (saiController (saiEntry s n.val) = true ∨ b = saiSlots (saiEntry s n.val) * u8 (saiEntry s n.val) 3))
    ∧ (∃ (s : State) (n : Fin 6), serialAlive s = true ∧ (saiGet s n.val).st = 3 ∧ tblWf Sai.off s.ser.sais = true ∧ (saiGet s n.val).resync = false)
    ∧ (∃ (s : State) (n : Fin 6), serialAlive s = true ∧ (saiGet s n.val).st ∈ [1, 2] ∧ saiController (saiEntry s n.val) = false)
    ∧ (∃ (s : State) (n : Fin 6), serialAlive s = true ∧ (saiGet s n.val).st = 3 ∧ tblWf Sai.off s.ser.sais = true)
    ∧ (∃ (s : State) (r : Fin 7), serialAlive s = true ∧ portEnabled s 9 = true ∧ s.ser.spdif.rxState ≠ 2)
    ∧ (∃ (s : State) (c : Fin 4), serialAlive s = true ∧ portEnabled s 9 = true ∧ s.ser.spdif.rxState = 2 ∧ (c ≠ 2 ∨ s.ser.spdif.biphase = 3))
    ∧ (∃ (s : State), serialAlive s = true ∧ cpRuns s = true ∧ portEnabled s 9 = true ∧ s.ser.spdif.rxState = 2 ∧ s.ser.spdif.autoDue = true ∧ rateAsked s s.ser.spdif.rxRate = true)
    ∧ (∃ (s : State) (ch : Fin 2) (a : BitVec 24) (v u c : Bool), serialAlive s = true ∧ portEnabled s 9 = true ∧ s.ser.spdif.rxState = 2 ∧ s.ser.spdif.biphase < 4)
    ∧ (∃ (s : State) (ch : Fin 2) (a : BitVec 24) (v u c par : Bool), serialAlive s = true ∧ portEnabled s 9 = true ∧ s.ser.spdif.rxState = 2 ∧ s.ser.spdif.biphase = 3)
    ∧ (∃ (s : State), serialAlive s = true ∧ portEnabled s 9 = true ∧ s.ser.spdif.rxState = 2 ∧ s.ser.spdif.blockBad = false ∧ s.ser.spdif.cA.length = 192 ∧ s.ser.spdif.cB.length = 192)
    ∧ (∃ (s : State), s.ser.spdif.nonPcm = true ∧ 8192 ≤ s.ser.spdif.framesSincePa ∧ bit (u8 s.ser.spdif.storedCA 0) 1 = false)
    ∧ (∃ (s : State), serialAlive s = true ∧ portEnabled s 10 = true ∧ s.ser.spdif.copying = false ∧ bit (u8 (txEntry s) 0) 2 = false)
    ∧ (∃ (s : State), serialAlive s = true ∧ portEnabled s 10 = true ∧ s.ser.spdif.copying = false ∧ bit (u8 (txEntry s) 0) 2 = true) :=
  ⟨⟨h0, [0, 1, 0, 0], charted [(3, [1, 0, 2, 32]), (9, [3, 0, 0]), (10, [1]), (32, [1, 0, 0xFF, 0x0F, 0, 4, 0, 0, 3, 0, 3, 0])], by unfold Accepted Taken; decide +kernel⟩,
    ⟨h0, [0, 0, 0, 0, 3, 0, 0, 0, 3, 0, 0, 0], charted [(3, [1, 0, 2, 32]), (9, [3, 0, 0]), (10, [1]), (32, [1, 0, 0xFF, 0x0F, 0, 4, 0, 0, 3, 0, 3, 0])], by unfold Accepted Taken; decide +kernel⟩,
    ⟨h0, [1, 0, 0, 0], charted [(3, [1, 0, 2, 32]), (9, [3, 0, 0]), (10, [1]), (32, [1, 0, 0xFF, 0x0F, 0, 4, 0, 0, 3, 0, 3, 0])], by unfold Accepted Taken; decide +kernel⟩,
    ⟨h0, [1, 0, 0, 0], charted [(3, [1, 0, 2, 32]), (9, [3, 0, 0]), (10, [1]), (32, [1, 0, 0xFF, 0x0F, 0, 4, 0, 0, 3, 0, 3, 0])], by unfold Accepted Taken; decide +kernel⟩,
    ⟨h0, [1, 0, 0, 0], charted [(3, [1, 0, 2, 32]), (9, [3, 0, 0]), (10, [1]), (32, [1, 0, 0xFF, 0x0F, 0, 4, 0, 0, 3, 0, 3, 0])], by unfold Accepted Taken; decide +kernel⟩,
    ⟨h0, zeros 48, charted [(3, [1, 0, 2, 32]), (9, [3, 0, 0]), (10, [1]), (32, [1, 0, 0xFF, 0x0F, 0, 4, 0, 0, 3, 0, 3, 0])], by unfold Accepted Taken; decide +kernel⟩,
    ⟨h0, zeros 48, charted [(3, [1, 0, 2, 32]), (9, [3, 0, 0]), (10, [1]), (32, [1, 0, 0xFF, 0x0F, 0, 4, 0, 0, 3, 0, 3, 0])], by unfold Accepted Taken; decide +kernel⟩,
    ⟨h0, [2, 1, 0, 0], charted [(3, [1, 0, 2, 32]), (9, [3, 0, 0]), (10, [1]), (32, [1, 0, 0xFF, 0x0F, 0, 4, 0, 0, 3, 0, 3, 0])], by unfold Accepted Taken; decide +kernel⟩,
    ⟨{ charted [(3, [1, 0, 2, 32]), (9, [3, 0, 0]), (10, [1]), (32, [1, 0, 0xFF, 0x0F, 0, 4, 0, 0, 3, 0, 3, 0])] with ser := { SerialState.reset with sais := [(0, { Sai.off with st := 3, moving := some (1, 2) })] } }, 0, by decide +kernel⟩,
    ⟨{ charted [(3, [5, 0, 2, 32]), (9, [3, 0, 0]), (10, [1]), (32, [1, 0, 0xFF, 0x0F, 0, 4, 0, 0, 3, 0, 3, 0])] with ser := { SerialState.reset with sais := [(0, { Sai.off with st := 1, ticked := true })] } }, 0, by decide +kernel⟩,
    ⟨{ charted [(3, [5, 0, 2, 32]), (9, [3, 0, 0]), (10, [1]), (32, [1, 0, 0xFF, 0x0F, 0, 4, 0, 0, 3, 0, 3, 0])] with ser := { SerialState.reset with sais := [(0, { Sai.off with st := 1 })] } }, 0, by decide +kernel⟩,
    ⟨{ charted [(3, [1, 0, 2, 32]), (9, [3, 0, 0]), (10, [1]), (32, [1, 0, 0xFF, 0x0F, 0, 4, 0, 0, 3, 0, 3, 0])] with ser := { SerialState.reset with sais := [(0, { Sai.off with st := 2 })] } }, 0, 64, by decide +kernel⟩,
    ⟨{ charted [(3, [1, 0, 2, 32]), (9, [3, 0, 0]), (10, [1]), (32, [1, 0, 0xFF, 0x0F, 0, 4, 0, 0, 3, 0, 3, 0])] with ser := { SerialState.reset with sais := [(0, { Sai.off with st := 2 })] } }, 0, 63, by decide +kernel⟩,
    ⟨{ charted [(3, [1, 0, 2, 32]), (9, [3, 0, 0]), (10, [1]), (32, [1, 0, 0xFF, 0x0F, 0, 4, 0, 0, 3, 0, 3, 0])] with ser := { SerialState.reset with sais := [(0, { Sai.off with st := 2 })] }, pwr := { PowerState.reset with dev := .doze } }, 0, 64, by decide +kernel⟩,
    ⟨{ charted [(3, [1, 0, 2, 32]), (9, [3, 0, 0]), (10, [1]), (32, [1, 0, 0xFF, 0x0F, 0, 4, 0, 0, 3, 0, 3, 0])] with ser := { SerialState.reset with sais := [(0, { Sai.off with st := 3 })] } }, 0, by decide +kernel⟩,
    ⟨{ charted [(3, [1, 0, 2, 32]), (9, [3, 0, 0]), (10, [1]), (32, [1, 0, 0xFF, 0x0F, 0, 4, 0, 0, 3, 0, 3, 0])] with ser := { SerialState.reset with sais := [(0, { Sai.off with st := 2 })] } }, 0, by decide +kernel⟩,
    ⟨{ charted [(3, [1, 0, 2, 32]), (9, [3, 0, 0]), (10, [1]), (32, [1, 0, 0xFF, 0x0F, 0, 4, 0, 0, 3, 0, 3, 0])] with ser := { SerialState.reset with sais := [(0, { Sai.off with st := 3 })] } }, 0, by decide +kernel⟩,
    ⟨charted [(3, [1, 0, 2, 32]), (9, [3, 0, 0]), (10, [1]), (32, [1, 0, 0xFF, 0x0F, 0, 4, 0, 0, 3, 0, 3, 0])], 0, by decide +kernel⟩,
    ⟨{ charted [(3, [1, 0, 2, 32]), (9, [3, 0, 0]), (10, [1]), (32, [1, 0, 0xFF, 0x0F, 0, 4, 0, 0, 3, 0, 3, 0])] with ser := { SerialState.reset with spdif := { Spdif.reset with rxState := 2, biphase := 3 } } }, 2, by decide +kernel⟩,
    ⟨{ charted [(3, [1, 0, 2, 32]), (9, [3, 0, 0]), (10, [1]), (32, [1, 0, 0xFF, 0x0F, 0, 4, 0, 0, 3, 0, 3, 0])] with ser := { SerialState.reset with spdif := { Spdif.reset with rxState := 2, rxRate := 7, autoDue := true } } }, by decide +kernel⟩,
    ⟨{ charted [(3, [1, 0, 2, 32]), (9, [3, 0, 0]), (10, [1]), (32, [1, 0, 0xFF, 0x0F, 0, 4, 0, 0, 3, 0, 3, 0])] with ser := { SerialState.reset with spdif := { Spdif.reset with rxState := 2, biphase := 3 } } }, 0, 0, false, false, false, by decide +kernel⟩,
    ⟨{ charted [(3, [1, 0, 2, 32]), (9, [3, 0, 0]), (10, [1]), (32, [1, 0, 0xFF, 0x0F, 0, 4, 0, 0, 3, 0, 3, 0])] with ser := { SerialState.reset with spdif := { Spdif.reset with rxState := 2, biphase := 3 } } }, 0, 0, false, false, false, false, by decide +kernel⟩,
    ⟨{ charted [(3, [1, 0, 2, 32]), (9, [3, 0, 0]), (10, [1]), (32, [1, 0, 0xFF, 0x0F, 0, 4, 0, 0, 3, 0, 3, 0])] with ser := { SerialState.reset with spdif := { Spdif.reset with rxState := 2, cA := List.replicate 192 false, cB := List.replicate 192 false } } }, by decide +kernel⟩,
    ⟨{ charted [(3, [1, 0, 2, 32]), (9, [3, 0, 0]), (10, [1]), (32, [1, 0, 0xFF, 0x0F, 0, 4, 0, 0, 3, 0, 3, 0])] with ser := { SerialState.reset with spdif := { Spdif.reset with nonPcm := true, framesSincePa := 8192 } } }, by decide +kernel⟩,
    ⟨charted [(3, [1, 0, 2, 32]), (9, [3, 0, 0]), (10, [1]), (32, [1, 0, 0xFF, 0x0F, 0, 4, 0, 0, 3, 0, 3, 0])], by decide +kernel⟩,
    ⟨charted [(10, [5])], by decide +kernel⟩⟩

theorem witness_UsbCommandsTakeEffect :
    (∃ (o : Issue) (p : List Byte) (s : State), Accepted 0x0701 o p (usbStatusCheck p) s)
    ∧ (∃ (o : Issue) (p : List Byte) (s : State), Accepted 0x0702 o p (usbConnectCheck o p) s)
    ∧ (∃ (o : Issue) (p : List Byte) (s : State), Accepted 0x0703 o p (usbHidSendCheck o p) s ∧ u8 p 2 < 2)
    ∧ (∃ (o : Issue) (p : List Byte) (s : State), Accepted 0x0703 o p (usbHidSendCheck o p) s ∧ u8 p 2 = 2)
    ∧ (∃ (o : Issue) (p : List Byte) (s : State), Accepted 0x0704 o p (usbRemoteWakeCheck o p) s)
    ∧ (∃ (o : Issue) (p : List Byte) (s : State) (r : _), Accepted 0x0705 o p (usbStreamStatusCheck p) s ∧ usbRecord s (u8 p 0) (u8 p 1) (usbAlt s (u8 p 0) (u8 p 1)) = some r)
    ∧ (∃ (o : Issue) (p : List Byte) (s : State), Accepted 0x0705 o p (usbStreamStatusCheck p) s ∧ usbRecord s (u8 p 0) (u8 p 1) (usbAlt s (u8 p 0) (u8 p 1)) = none) :=
  ⟨⟨h0, [0, 1, 0, 0], charted [], by unfold Accepted Taken; decide +kernel⟩,
    ⟨h0, [0, 0, 0, 0], charted [(0, [69, 0, 0, 0, 0, 0, 0, 0, 5, 0, 0, 0]), (32, [1, 0, 0xFF, 0x0F, 0, 4, 0, 0, 3, 0, 3, 0])], by unfold Accepted Taken; decide +kernel⟩,
    ⟨h0, [0, 1, 1, 0], charted [(0, [69, 0, 0, 0, 0, 0, 0, 0, 5, 0, 0, 0]), (32, [1, 0, 0xFF, 0x0F, 0, 4, 0, 0, 3, 0, 3, 0])], by unfold Accepted Taken; decide +kernel⟩,
    ⟨h0, [0, 1, 2, 0], charted [(0, [69, 0, 0, 0, 0, 0, 0, 0, 5, 0, 0, 0]), (32, [1, 0, 0xFF, 0x0F, 0, 4, 0, 0, 3, 0, 3, 0])], by unfold Accepted Taken; decide +kernel⟩,
    ⟨h0, [0, 0, 0, 0], { charted [(0, [69, 0, 0, 0, 0, 0, 0, 0, 5, 0, 0, 0]), (32, [1, 0, 0xFF, 0x0F, 0, 4, 0, 0, 3, 0, 3, 0])] with usbA := { Usb.reset with st := 3, wakeEnabled := true } }, by unfold Accepted Taken; decide +kernel⟩,
    ⟨h0, [0, 0, 0, 0], ({ charted [(0, [69, 0, 0, 0, 0, 0, 0, 0, 5, 0, 0, 0]), (32, [1, 0, 0xFF, 0x0F, 0, 4, 0, 0, 3, 0, 3, 0])] with usbA := { Usb.reset with st := 2, speed := 2, cfg := 1, streams := [(0, { alt := 1, f := 0, ms := 0, acc := 0, sent := 0, discard := false })] } } : State), [1, 1, 3, 1, 2, 0xFF, 0, 0], by unfold Accepted Taken; decide +kernel⟩,
    ⟨h0, [0, 1, 0, 0], charted [], by unfold Accepted Taken; decide +kernel⟩⟩

theorem witness_UsbRequestsAndStepsTakeEffect :
    (∃ (port : Fin 2) (s : State) (rcp : Fin 3) (v i n : BitVec 16), usbAlive s = true ∧ (usbGet s port.val).st ≠ 0 ∧ (usbGet s port.val).st ≠ 3 ∧ (rcp.val, v.toNat) ∉ [(0, 1), (0, 48), (0, 49), (1, 0), (2, 0)])
    ∧ (∃ (port : Fin 2) (s : State) (rcp : Fin 3) (v i n : BitVec 16), usbAlive s = true ∧ (usbGet s port.val).st ≠ 0 ∧ (usbGet s port.val).st ≠ 3 ∧ (usbGet s port.val).cfg = 0)
    ∧ (∃ (port : Fin 2) (s : State) (rcp : Fin 3) (v i n : BitVec 16) (k : _), usbAlive s = true ∧ (usbGet s port.val).st ≠ 0 ∧ (usbGet s port.val).st ≠ 3 ∧ (usbGet s port.val).cfg ≠ 0 ∧ (List.range 4).find? (fun j => usbIf s port.val j == i.toNat) = some k)
    ∧ (∃ (port : Fin 2) (s : State) (rcp : Fin 3) (v i n : BitVec 16) (d : _), usbAlive s = true ∧ (usbGet s port.val).st ≠ 0 ∧ (usbGet s port.val).st ≠ 3 ∧ usbBuiltin s port.val = false ∧ ¬ (v.toNat / 256 = 0x22 ∧ u16 (usbSet s port.val) 26 = 0) ∧ chartDescriptor s port.val (v.toNat / 256) (v.toNat % 256) = some d)
    ∧ (∃ (port : Fin 2) (s : State) (rcp : Fin 3) (v i n : BitVec 16) (d : _), usbAlive s = true ∧ (usbGet s port.val).st ≠ 0 ∧ (usbGet s port.val).st ≠ 3 ∧ usbBuiltin s port.val = true ∧ builtinDescriptor s port.val (v.toNat / 256) (v.toNat % 256) = some d)
    ∧ (∃ (port : Fin 2) (s : State), usbAlive s = true ∧ (usbGet s port.val).st ≠ 0 ∧ (usbGet s port.val).st ≠ 3 ∧ cpRuns s = false)
    ∧ (∃ (port : Fin 2) (s : State), usbAlive s = true ∧ (usbGet s port.val).st ≠ 0 ∧ (usbGet s port.val).st ≠ 3 ∧ cpRuns s = false)
    ∧ (∃ (port : Fin 2) (s : State), usbAlive s = true ∧ (usbGet s port.val).st ≠ 0 ∧ (usbGet s port.val).st ≠ 3 ∧ cpRuns s = false)
    ∧ (∃ (port : Fin 2) (s : State), usbAlive s = true ∧ (usbGet s port.val).st ≠ 0 ∧ (usbGet s port.val).st ≠ 3 ∧ cpRuns s = false)
    ∧ (∃ (port : Fin 2) (s : State) (c : Byte), usbAlive s = true ∧ (usbGet s port.val).st ≠ 0 ∧ (usbGet s port.val).st ≠ 3 ∧ cpRuns s = true ∧ (c = 0 ∨ c.toNat = usbConfigValue s port.val) ∧ (∀ i < 4, usbAlt s port.val i = 0))
    ∧ (∃ (port : Fin 2) (s : State) (c : Byte), usbAlive s = true ∧ (usbGet s port.val).st ≠ 0 ∧ (usbGet s port.val).st ≠ 3 ∧ cpRuns s = true ∧ c ≠ 0 ∧ c.toNat ≠ usbConfigValue s port.val)
    ∧ (∃ (port : Fin 2) (s : State) (ifc alt : Byte), usbAlive s = true ∧ (usbGet s port.val).st ≠ 0 ∧ (usbGet s port.val).st ≠ 3 ∧ cpRuns s = true ∧ (usbGet s port.val).cfg = 0)
    ∧ (∃ (port : Fin 2) (s : State) (ifc alt : Byte) (i : _) (r : _), usbAlive s = true ∧ (usbGet s port.val).st ≠ 0 ∧ (usbGet s port.val).st ≠ 3 ∧ cpRuns s = true ∧ (usbGet s port.val).cfg ≠ 0 ∧ alt ≠ 0 ∧ (List.range 4).find? (fun i => !usbBuiltin s port.val && usbIf s port.val i == ifc.toNat && ifc.toNat != 0xFF) = some i ∧ usbRecord s port.val i alt.toNat = some r ∧ u8 r 5 = 0xFF ∧ usbAlt s port.val i = 0 ∧ usbRateFits s port.val = true)
    ∧ (∃ (port : Fin 2) (s : State) (ifc alt : Byte) (i : _), usbAlive s = true ∧ (usbGet s port.val).st ≠ 0 ∧ (usbGet s port.val).st ≠ 3 ∧ cpRuns s = true ∧ (usbGet s port.val).cfg ≠ 0 ∧ alt ≠ 0 ∧ (List.range 4).find? (fun i => !usbBuiltin s port.val && usbIf s port.val i == ifc.toNat && ifc.toNat != 0xFF) = some i ∧ usbRecord s port.val i alt.toNat = none)
    ∧ (∃ (port : Fin 2) (s : State) (ifc alt : Byte) (i : _) (r : _), usbAlive s = true ∧ (usbGet s port.val).st ≠ 0 ∧ (usbGet s port.val).st ≠ 3 ∧ cpRuns s = true ∧ (usbGet s port.val).cfg ≠ 0 ∧ alt ≠ 0 ∧ (List.range 4).find? (fun i => !usbBuiltin s port.val && usbIf s port.val i == ifc.toNat && ifc.toNat != 0xFF) = some i ∧ usbRecord s port.val i alt.toNat = some r ∧ usbRateFits s port.val = false)
    ∧ (∃ (port : Fin 2) (s : State) (e : Byte) (hz : _) (c : _), usbAlive s = true ∧ (usbGet s port.val).st ≠ 0 ∧ (usbGet s port.val).st ≠ 3 ∧ cpRuns s = true ∧ usbBuiltin s port.val = false ∧ e.toNat = u8 (usbSet s port.val) 36 ∧ usbRate s port.val hz = some c)
    ∧ (∃ (port : Fin 2) (s : State) (e : Byte), usbAlive s = true ∧ (usbGet s port.val).st ≠ 0 ∧ (usbGet s port.val).st ≠ 3 ∧ cpRuns s = true ∧ (usbBuiltin s port.val = true ∨ e.toNat ≠ u8 (usbSet s port.val) 36))
    ∧ (∃ (port : Fin 2) (s : State) (unit ch : Byte) (v : BitVec 16) (r : _), usbAlive s = true ∧ (usbGet s port.val).st ≠ 0 ∧ (usbGet s port.val).st ≠ 3 ∧ cpRuns s = true ∧ fuFind s port.val unit.toNat ch.toNat = some r ∧ tblWf { volume := 0, mute := false } (usbGet s port.val).features = true)
    ∧ (∃ (port : Fin 2) (s : State) (unit ch : Byte), usbAlive s = true ∧ (usbGet s port.val).st ≠ 0 ∧ (usbGet s port.val).st ≠ 3 ∧ cpRuns s = true ∧ fuFind s port.val unit.toNat ch.toNat = none)
    ∧ (∃ (port : Fin 2) (s : State), usbAlive s = true ∧ (usbGet s port.val).st ≠ 0 ∧ (usbGet s port.val).st ≠ 3 ∧ cpRuns s = true ∧ (usbGet s port.val).st ≠ 4 ∧ isOpen s (2 + port.val) = true ∧ canChange s (ctxOf (2 + port.val)) 0x0B00 = true)
    ∧ (∃ (port : Fin 2) (s : State), usbAlive s = true ∧ (usbGet s port.val).st ≠ 0 ∧ (usbGet s port.val).st ≠ 3 ∧ cpRuns s = true ∧ ((usbGet s port.val).st = 4 ∨ isOpen s (2 + port.val) = false ∨ canChange s (ctxOf (2 + port.val)) 0x0B00 = false))
    ∧ (∃ (port : Fin 2) (s : State) (read : _) (w : _), usbAlive s = true ∧ (usbGet s port.val).st ≠ 0 ∧ (usbGet s port.val).st ≠ 3 ∧ ((usbGet s port.val).st = 2 ∨ (usbGet s port.val).st = 4) ∧ cpPresent s = true ∧ w = flushReplies (ctxMod s (2 + port.val) (fun c => { c with replies := c.replies.drop read })) ∧ packetsTaken w (ctxOf (2 + port.val)) = true)
    ∧ (∃ (port : Fin 2) (s : State) (read : _) (w : _), usbAlive s = true ∧ (usbGet s port.val).st ≠ 0 ∧ (usbGet s port.val).st ≠ 3 ∧ ((usbGet s port.val).st = 2 ∨ (usbGet s port.val).st = 4) ∧ cpPresent s = true ∧ w = flushReplies (ctxMod s (2 + port.val) (fun c => { c with replies := c.replies.drop read })) ∧ 4 ≤ (ctxGet w (2 + port.val)).replies.length)
    ∧ (∃ (port : Fin 2) (s : State), usbAlive s = true ∧ (usbGet s port.val).st ≠ 0 ∧ (usbGet s port.val).st ≠ 3 ∧ ((usbGet s port.val).st = 2 ∨ (usbGet s port.val).st = 4) ∧ cpPresent s = false)
    ∧ (∃ (port : Fin 2) (s : State), s.pwr.dev ≠ .harbour ∧ s.pwr.dev ≠ .sleep ∧ (usbGet s port.val).st = 0 ∧ usbAlive s = true ∧ s.pwr.vusb = true ∧ (usbGet s port.val).byCommand = false ∧ (usbGet s port.val).reconnect = false ∧ (portEnabled s port.val = true ∨ s.cs.chart = none))
    ∧ (∃ (port : Fin 2) (s : State) (sp : Fin 3), usbAlive s = true ∧ (usbGet s port.val).st ≠ 0 ∧ (sp ≠ 2 ∨ ssAllowed s port.val = true))
    ∧ (∃ (port : Fin 2) (s : State), usbAlive s = true ∧ s.pwr.dev ≠ .sleep ∧ (usbGet s port.val).st = 3)
    ∧ (∃ (port : Fin 2) (s : State), s.pwr.dev = .sleep ∧ (usbGet s port.val).st = 3)
    ∧ (∃ (port : Fin 2) (s : State), (usbGet s port.val).st = 3 ∧ (usbGet s port.val).wakeEnabled = true ∧ (usbGet s port.val).wakeDue = true ∧ (usbGet s port.val).speed ≠ 3)
    ∧ (∃ (port : Fin 2) (s : State), (usbGet s port.val).st = 3 ∧ (usbGet s port.val).wakeEnabled = true ∧ (usbGet s port.val).wakeDue = true ∧ (usbGet s port.val).speed = 3)
    ∧ (∃ (port : Fin 2) (s : State) (k : Fin 3), usbAlive s = true ∧ (usbGet s port.val).st ≠ 0 ∧ (usbGet s port.val).st ≠ 3 ∧ bit (u8 (usbEntry s port.val) 0) 2 = true ∧ (∀ i < 4, usbAlt s port.val i = 0) ∧ (usbGet s port.val).speed = (if k = 0 then 2 else 3))
    ∧ (∃ (port : Fin 2) (s : State) (k : Fin 3), usbAlive s = true ∧ (usbGet s port.val).st ≠ 0 ∧ (usbGet s port.val).st ≠ 3 ∧ (bit (u8 (usbEntry s port.val) 0) 2 = false ∨ (∃ i < 4, usbAlt s port.val i ≠ 0) ∨ (usbGet s port.val).speed ≠ (if k = 0 then 2 else 3)))
    ∧ (∃ (port : Fin 2) (s : State), (usbGet s port.val).reconnect = true ∧ s.cs.select = none)
    ∧ (∃ (port : Fin 2) (s : State) (i : Fin 2) (rm fill lost : Nat) (r : _), (usbGet s port.val).st = 2 ∧ usbAlt s port.val i.val ≠ 0 ∧ usbRateFits s port.val = true ∧ usbRecord s port.val i.val (usbAlt s port.val i.val) = some r)
    ∧ (∃ (port : Fin 2) (s : State) (i : Fin 2), (usbGet s port.val).st = 2 ∧ usbAlt s port.val (2 + i.val) ≠ 0 ∧ usbRateFits s port.val = true)
    ∧ (∃ (port : Fin 2) (s : State) (x : _) (r : _), s.host.absent = false ∧ (usbGet s port.val).st = 2 ∧ (usbGet s port.val).reports = x :: r)
    ∧ (∃ (port : Fin 2) (s : State), (usbGet s port.val).detach = true) :=
  ⟨⟨0, { charted [(0, [69, 0, 0, 0, 0, 0, 0, 0, 5, 0, 0, 0]), (32, [1, 0, 0xFF, 0x0F, 0, 4, 0, 0, 3, 0, 3, 0])] with usbA := { Usb.reset with st := 1, speed := 2 } }, 0, 0, 0, 0, by decide +kernel⟩,
    ⟨0, { charted [(0, [69, 0, 0, 0, 0, 0, 0, 0, 5, 0, 0, 0]), (32, [1, 0, 0xFF, 0x0F, 0, 4, 0, 0, 3, 0, 3, 0])] with usbA := { Usb.reset with st := 1, speed := 2 } }, 0, 0, 0, 1, by decide +kernel⟩,
    ⟨0, { charted [(0, [69, 0, 0, 0, 0, 0, 0, 0, 5, 0, 0, 0]), (32, [1, 0, 0xFF, 0x0F, 0, 4, 0, 0, 3, 0, 3, 0])] with usbA := { Usb.reset with st := 2, speed := 2, cfg := 1 } }, 0, 0, 2, 1, 1, by decide +kernel⟩,
    ⟨0, { charted [(0, [69, 0, 0, 0, 0, 0, 0, 0, 5, 0, 0, 0]), (32, [1, 0, 0xFF, 0x0F, 0, 4, 0, 0, 3, 0, 3, 0])] with usbA := { Usb.reset with st := 1, speed := 2 } }, 0, 0x0200, 0, 9, [9, 2, 0, 0, 0, 1, 0, 0, 0], by decide +kernel⟩,
    ⟨0, ({ active with usbA := { Usb.reset with st := 1, speed := 2 } } : State), 0, 0x0100, 0, 18, ((builtinDescriptor ({ active with usbA := { Usb.reset with st := 1, speed := 2 } } : State) 0 1 0).getD []), by decide +kernel, by decide +kernel, by decide +kernel, by decide +kernel, rfl⟩,
    ⟨0, { charted [(0, [69, 0, 0, 0, 0, 0, 0, 0, 5, 0, 0, 0]), (32, [1, 0, 0xFF, 0x0F, 0, 4, 0, 0, 3, 0, 3, 0])] with usbA := { Usb.reset with st := 1 }, pwr := { PowerState.reset with dev := .sleep } }, by decide +kernel⟩,
    ⟨0, { charted [(0, [69, 0, 0, 0, 0, 0, 0, 0, 5, 0, 0, 0]), (32, [1, 0, 0xFF, 0x0F, 0, 4, 0, 0, 3, 0, 3, 0])] with usbA := { Usb.reset with st := 1 }, pwr := { PowerState.reset with dev := .sleep } }, by decide +kernel⟩,
    ⟨0, { charted [(0, [69, 0, 0, 0, 0, 0, 0, 0, 5, 0, 0, 0]), (32, [1, 0, 0xFF, 0x0F, 0, 4, 0, 0, 3, 0, 3, 0])] with usbA := { Usb.reset with st := 1 }, pwr := { PowerState.reset with dev := .sleep } }, by decide +kernel⟩,
    ⟨0, { charted [(0, [69, 0, 0, 0, 0, 0, 0, 0, 5, 0, 0, 0]), (32, [1, 0, 0xFF, 0x0F, 0, 4, 0, 0, 3, 0, 3, 0])] with usbA := { Usb.reset with st := 1 }, pwr := { PowerState.reset with dev := .sleep } }, by decide +kernel⟩,
    ⟨0, { charted [(0, [69, 0, 0, 0, 0, 0, 0, 0, 5, 0, 0, 0]), (32, [1, 0, 0xFF, 0x0F, 0, 4, 0, 0, 3, 0, 3, 0])] with usbA := { Usb.reset with st := 1, speed := 2 } }, 1, by decide +kernel⟩,
    ⟨0, { charted [(0, [69, 0, 0, 0, 0, 0, 0, 0, 5, 0, 0, 0]), (32, [1, 0, 0xFF, 0x0F, 0, 4, 0, 0, 3, 0, 3, 0])] with usbA := { Usb.reset with st := 1, speed := 2 } }, 5, by decide +kernel⟩,
    ⟨0, { charted [(0, [69, 0, 0, 0, 0, 0, 0, 0, 5, 0, 0, 0]), (32, [1, 0, 0xFF, 0x0F, 0, 4, 0, 0, 3, 0, 3, 0])] with usbA := { Usb.reset with st := 1, speed := 2 } }, 1, 1, by decide +kernel⟩,
    ⟨0, { charted [(0, [69, 0, 0, 0, 0, 0, 0, 0, 5, 0, 0, 0]), (32, [1, 0, 0xFF, 0x0F, 0, 4, 0, 0, 3, 0, 3, 0])] with usbA := { Usb.reset with st := 2, speed := 2, cfg := 1 } }, 1, 1, 0, [1, 1, 3, 1, 2, 0xFF, 0, 0], by decide +kernel⟩,
    ⟨0, { charted [(0, [69, 0, 0, 0, 0, 0, 0, 0, 5, 0, 0, 0]), (32, [1, 0, 0xFF, 0x0F, 0, 4, 0, 0, 3, 0, 3, 0])] with usbA := { Usb.reset with st := 2, speed := 2, cfg := 1 } }, 1, 2, 0, by decide +kernel⟩,
    ⟨0, ({ charted [(0, [69, 0, 0, 0, 0, 0, 0, 0, 5, 0, 0, 0]), (32, [1, 0, 0xFF, 0x0F, 0, 4, 0, 0, 3, 0, 3, 0])] with usbA := { Usb.reset with st := 2, speed := 2, cfg := 1 }, clk := { ClockState.reset with domains := [(0, { Domain.off with rate := 11 })] } } : State), 1, 1, 0, [1, 1, 3, 1, 2, 0xFF, 0, 0], by decide +kernel⟩,
    ⟨0, { charted [(0, [69, 0, 0, 0, 0, 0, 0, 0, 5, 0, 0, 0]), (32, [1, 0, 0xFF, 0x0F, 0, 4, 0, 0, 3, 0, 3, 0])] with usbA := { Usb.reset with st := 2, speed := 2, cfg := 1 } }, 0, 48000, 7, by decide +kernel⟩,
    ⟨0, { charted [(0, [69, 0, 0, 0, 0, 0, 0, 0, 5, 0, 0, 0]), (32, [1, 0, 0xFF, 0x0F, 0, 4, 0, 0, 3, 0, 3, 0])] with usbA := { Usb.reset with st := 2, speed := 2, cfg := 1 } }, 5, by decide +kernel⟩,
    ⟨0, { charted [(0, [69, 0, 0, 0, 0, 0, 0, 0, 5, 0, 0, 0]), (32, [1, 0, 0xFF, 0x0F, 0, 4, 0, 0, 3, 0, 3, 0])] with usbA := { Usb.reset with st := 2, speed := 2, cfg := 1 } }, 5, 0, 7, 0, by decide +kernel⟩,
    ⟨0, { charted [(0, [69, 0, 0, 0, 0, 0, 0, 0, 5, 0, 0, 0]), (32, [1, 0, 0xFF, 0x0F, 0, 4, 0, 0, 3, 0, 3, 0])] with usbA := { Usb.reset with st := 2, speed := 2, cfg := 1 } }, 6, 0, by decide +kernel⟩,
    ⟨0, { ({ charted [(0, [69, 0, 0, 0, 0, 0, 0, 0, 5, 0, 0, 0]), (32, [1, 0, 0xFF, 0x0F, 0, 4, 0, 0, 3, 0, 3, 0])] with usbA := { Usb.reset with st := 2, speed := 2, cfg := 1 } } : State) with host := { shared with ctxs := [(0, { CtxState.closed with isOpen := true }), (2, { CtxState.closed with isOpen := true })] } }, by decide +kernel⟩,
    ⟨0, { charted [(0, [69, 0, 0, 0, 0, 0, 0, 0, 5, 0, 0, 0]), (32, [1, 0, 0xFF, 0x0F, 0, 4, 0, 0, 3, 0, 3, 0])] with usbA := { Usb.reset with st := 4 } }, by decide +kernel⟩,
    ⟨0, ({ charted [(0, [69, 0, 0, 0, 0, 0, 0, 0, 5, 0, 0, 0]), (32, [1, 0, 0xFF, 0x0F, 0, 4, 0, 0, 3, 0, 3, 0])] with usbA := { Usb.reset with st := 2, speed := 2, cfg := 1 }, host := { shared with ctxs := [(0, { CtxState.closed with isOpen := true }), (2, { CtxState.closed with isOpen := true })] } } : State), 0, flushReplies (ctxMod ({ charted [(0, [69, 0, 0, 0, 0, 0, 0, 0, 5, 0, 0, 0]), (32, [1, 0, 0xFF, 0x0F, 0, 4, 0, 0, 3, 0, 3, 0])] with usbA := { Usb.reset with st := 2, speed := 2, cfg := 1 }, host := { shared with ctxs := [(0, { CtxState.closed with isOpen := true }), (2, { CtxState.closed with isOpen := true })] } } : State) 2 (fun c => { c with replies := c.replies.drop 0 })), by decide +kernel, by decide +kernel, by decide +kernel, by decide +kernel, by decide +kernel, rfl, by decide +kernel⟩,
    ⟨0, ({ charted [(0, [69, 0, 0, 0, 0, 0, 0, 0, 5, 0, 0, 0]), (32, [1, 0, 0xFF, 0x0F, 0, 4, 0, 0, 3, 0, 3, 0])] with usbA := { Usb.reset with st := 2, speed := 2, cfg := 1 }, host := { shared with ctxs := [(0, { CtxState.closed with isOpen := true }), (2, { CtxState.closed with isOpen := true, replies := List.replicate 4 { v1 := false, opcode := 0, tag := 0, status := 0, log := 0, result := [] } })] } } : State), 0, flushReplies (ctxMod ({ charted [(0, [69, 0, 0, 0, 0, 0, 0, 0, 5, 0, 0, 0]), (32, [1, 0, 0xFF, 0x0F, 0, 4, 0, 0, 3, 0, 3, 0])] with usbA := { Usb.reset with st := 2, speed := 2, cfg := 1 }, host := { shared with ctxs := [(0, { CtxState.closed with isOpen := true }), (2, { CtxState.closed with isOpen := true, replies := List.replicate 4 { v1 := false, opcode := 0, tag := 0, status := 0, log := 0, result := [] } })] } } : State) 2 (fun c => { c with replies := c.replies.drop 0 })), by decide +kernel, by decide +kernel, by decide +kernel, by decide +kernel, by decide +kernel, rfl, by decide +kernel⟩,
    ⟨0, ({ charted [(0, [69, 0, 0, 0, 0, 0, 0, 0, 5, 0, 0, 0]), (32, [1, 0, 0xFF, 0x0F, 0, 4, 0, 0, 3, 0, 3, 0])] with usbA := { Usb.reset with st := 2, speed := 2, cfg := 1 }, host := { shared with absent := true } } : State), by decide +kernel⟩,
    ⟨0, { charted [(0, [69, 0, 0, 0, 0, 0, 0, 0, 5, 0, 0, 0]), (32, [1, 0, 0xFF, 0x0F, 0, 4, 0, 0, 3, 0, 3, 0])] with usbA := { Usb.reset with vbus := true } }, by decide +kernel⟩,
    ⟨0, { charted [(0, [69, 0, 0, 0, 0, 0, 0, 0, 5, 0, 0, 0]), (32, [1, 0, 0xFF, 0x0F, 0, 4, 0, 0, 3, 0, 3, 0])] with usbA := { Usb.reset with st := 1, speed := 2 } }, 1, by decide +kernel⟩,
    ⟨0, { charted [(0, [69, 0, 0, 0, 0, 0, 0, 0, 5, 0, 0, 0]), (32, [1, 0, 0xFF, 0x0F, 0, 4, 0, 0, 3, 0, 3, 0])] with usbA := { Usb.reset with st := 3 } }, by decide +kernel⟩,
    ⟨0, { charted [(0, [69, 0, 0, 0, 0, 0, 0, 0, 5, 0, 0, 0]), (32, [1, 0, 0xFF, 0x0F, 0, 4, 0, 0, 3, 0, 3, 0])] with usbA := { Usb.reset with st := 3 }, pwr := { PowerState.reset with dev := .sleep } }, by decide +kernel⟩,
    ⟨0, { charted [(0, [69, 0, 0, 0, 0, 0, 0, 0, 5, 0, 0, 0]), (32, [1, 0, 0xFF, 0x0F, 0, 4, 0, 0, 3, 0, 3, 0])] with usbA := { Usb.reset with st := 3, wakeEnabled := true, wakeDue := true } }, by decide +kernel⟩,
    ⟨0, { charted [(0, [69, 0, 0, 0, 0, 0, 0, 0, 5, 0, 0, 0]), (32, [1, 0, 0xFF, 0x0F, 0, 4, 0, 0, 3, 0, 3, 0])] with usbA := { Usb.reset with st := 3, speed := 3, wakeEnabled := true, wakeDue := true } }, by decide +kernel⟩,
    ⟨0, { charted [(0, [69, 0, 0, 0, 0, 0, 0, 0, 5, 0, 0, 0]), (32, [1, 0, 0xFF, 0x0F, 0, 4, 0, 0, 3, 0, 3, 0])] with usbA := { Usb.reset with st := 1, speed := 2 } }, 0, by decide +kernel⟩,
    ⟨0, ({ charted [(0, [69, 0, 0, 0, 0, 0, 0, 0, 5, 0, 0, 0]), (32, [1, 0, 0xFF, 0x0F, 0, 4, 0, 0, 3, 0, 3, 0])] with usbA := { Usb.reset with st := 2, speed := 2, cfg := 1, streams := [(0, { alt := 1, f := 0, ms := 0, acc := 0, sent := 0, discard := false })] } } : State), 0, by decide +kernel⟩,
    ⟨0, { charted [(0, [69, 0, 0, 0, 0, 0, 0, 0, 5, 0, 0, 0]), (32, [1, 0, 0xFF, 0x0F, 0, 4, 0, 0, 3, 0, 3, 0])] with usbA := { Usb.reset with reconnect := true } }, by decide +kernel⟩,
    ⟨0, ({ charted [(0, [69, 0, 0, 0, 0, 0, 0, 0, 5, 0, 0, 0]), (32, [1, 0, 0xFF, 0x0F, 0, 4, 0, 0, 3, 0, 3, 0])] with usbA := { Usb.reset with st := 2, speed := 2, cfg := 1, streams := [(0, { alt := 1, f := 0, ms := 0, acc := 0, sent := 0, discard := false })] } } : State), 0, 0, 0, 0, [1, 1, 3, 1, 2, 0xFF, 0, 0], by decide +kernel⟩,
    ⟨0, ({ charted [(0, [69, 0, 0, 0, 0, 0, 0, 0, 5, 0, 0, 0]), (32, [1, 0, 0xFF, 0x0F, 0, 4, 0, 0, 3, 0, 3, 0])] with usbA := { Usb.reset with st := 2, speed := 2, cfg := 1, streams := [(2, { alt := 1, f := 0, ms := 0, acc := 0, sent := 0, discard := false })] } } : State), 0, by decide +kernel⟩,
    ⟨0, { charted [(0, [69, 0, 0, 0, 0, 0, 0, 0, 5, 0, 0, 0]), (32, [1, 0, 0xFF, 0x0F, 0, 4, 0, 0, 3, 0, 3, 0])] with usbA := { Usb.reset with st := 2, speed := 2, cfg := 1, reports := [3] } }, 3, [], by decide +kernel⟩,
    ⟨0, { charted [(0, [69, 0, 0, 0, 0, 0, 0, 0, 5, 0, 0, 0]), (32, [1, 0, 0xFF, 0x0F, 0, 4, 0, 0, 3, 0, 3, 0])] with usbA := { Usb.reset with st := 2, speed := 2, cfg := 1, detach := true } }, by decide +kernel⟩⟩

theorem witness_DfuStepsTakeEffect :
    (∃ (port : Fin 2) (s w : State) (k : BitVec 16) (d : List Byte), usbAlive s = true ∧ (usbGet s port.val).st = 4 ∧ cpRuns s = true ∧ w = usbSetup port.val s ∧ ((usbGet s port.val).dfuState = 2 ∨ (usbGet s port.val).dfuState = 5) ∧ d.length = 4096 ∧ dfuOpens s port.val = false ∧ ((s.fw.session.st = 1 ∧ k = 0) ∨ (s.fw.session.st = 2 ∧ k.toNat < blockCount s.fw.session.header)) ∧ s.fw.session.jobs.length < 2 ∧ blockRefusal w k.toNat d = none ∧ nvmHeld (blockAccepted k.toNat d (.dfu port.val) (dropChunks k.toNat w)) = false)
    ∧ (∃ (port : Fin 2) (s w : State) (k : BitVec 16) (d : List Byte), usbAlive s = true ∧ (usbGet s port.val).st = 4 ∧ cpRuns s = true ∧ w = usbSetup port.val s ∧ ((usbGet s port.val).dfuState = 2 ∨ (usbGet s port.val).dfuState = 5) ∧ d.length = 4096 ∧ dfuOpens s port.val = true ∧ fwBeginAllowed w = true)
    ∧ (∃ (port : Fin 2) (s w : State) (k : BitVec 16) (d : List Byte), usbAlive s = true ∧ (usbGet s port.val).st = 4 ∧ cpRuns s = true ∧ w = usbSetup port.val s ∧ ((usbGet s port.val).dfuState = 2 ∨ (usbGet s port.val).dfuState = 5) ∧ d.length = 4096 ∧ dfuOpens s port.val = false ∧ s.fw.session.st = 2 ∧ k.toNat < blockCount s.fw.session.header ∧ 2 ≤ s.fw.session.jobs.length)
    ∧ (∃ (port : Fin 2) (s w : State) (k : BitVec 16), usbAlive s = true ∧ (usbGet s port.val).st = 4 ∧ cpRuns s = true ∧ w = usbSetup port.val s ∧ ((usbGet s port.val).dfuState = 2 ∨ (usbGet s port.val).dfuState = 5) ∧ s.fw.session.owner = some (dfuCtx port.val) ∧ s.fw.session.st = 3)
    ∧ (∃ (port : Fin 2) (s w : State), usbAlive s = true ∧ (usbGet s port.val).st = 4 ∧ cpRuns s = true ∧ w = usbSetup port.val s ∧ s.fw.session.owner ≠ some (dfuCtx port.val))
    ∧ (∃ (port : Fin 2) (s w : State), usbAlive s = true ∧ (usbGet s port.val).st = 4 ∧ cpRuns s = true ∧ w = usbSetup port.val s ∧ s.fw.session.owner = some (dfuCtx port.val) ∧ s.fw.session.st ≠ 4)
    ∧ (∃ (port : Fin 2) (s w : State), usbAlive s = true ∧ (usbGet s port.val).st = 4 ∧ cpRuns s = true ∧ w = usbSetup port.val s ∧ (usbGet s port.val).manifested = true ∧ s.pwr.dev = .harbour)
    ∧ (∃ (port : Fin 2) (s w : State), usbAlive s = true ∧ (usbGet s port.val).st = 4 ∧ cpRuns s = true ∧ w = usbSetup port.val s ∧ (usbGet s port.val).manifested = true ∧ s.pwr.dev ≠ .harbour ∧ (usbGet s port.val).dfuMode = true ∧ s.fw.session.st = 5 ∧ s.fw.activate = none) :=
  ⟨⟨0, ({ active with usbA := { Usb.reset with st := 4, dfuMode := true, dfuState := 2 }, fw := { State.reset.fw with session := { Session.idle with st := 2, owner := some .h2, header := zeros 16 ++ [1, 0] ++ zeros 4078 } }, pwr := { PowerState.reset with dev := .active } } : State), (usbSetup 0 ({ active with usbA := { Usb.reset with st := 4, dfuMode := true, dfuState := 2 }, fw := { State.reset.fw with session := { Session.idle with st := 2, owner := some .h2, header := zeros 16 ++ [1, 0] ++ zeros 4078 } }, pwr := { PowerState.reset with dev := .active } } : State)), 0, zeros 16 ++ [1, 0] ++ zeros 4078, by decide +kernel, by decide +kernel, by decide +kernel, rfl, by decide +kernel, by rw [List.length_append, List.length_append, zeros, zeros, List.length_replicate, List.length_replicate]; rfl, by decide +kernel, .inr ⟨rfl, by decide +kernel⟩, by decide +kernel, by simp [blockRefusal, usbSetup, usbMod], by decide +kernel⟩,
    ⟨0, ({ active with usbA := { Usb.reset with st := 4, dfuMode := true, dfuState := 2 }, fw := { State.reset.fw with session := { Session.idle with st := 0 } }, pwr := { PowerState.reset with dev := .active } } : State), (usbSetup 0 ({ active with usbA := { Usb.reset with st := 4, dfuMode := true, dfuState := 2 }, fw := { State.reset.fw with session := { Session.idle with st := 0 } }, pwr := { PowerState.reset with dev := .active } } : State)), 0, zeros 4096, by decide +kernel, by decide +kernel, by decide +kernel, rfl, by decide +kernel, by rw [zeros, List.length_replicate], by decide +kernel, by decide +kernel⟩,
    ⟨0, ({ active with usbA := { Usb.reset with st := 4, dfuMode := true, dfuState := 2 }, fw := { State.reset.fw with session := { Session.idle with st := 2, owner := some .h2, header := zeros 16 ++ [1, 0] ++ zeros 4078, jobs := [{ block := 0, bytes := [], asker := .own }, { block := 0, bytes := [], asker := .own }] } }, pwr := { PowerState.reset with dev := .active } } : State), (usbSetup 0 ({ active with usbA := { Usb.reset with st := 4, dfuMode := true, dfuState := 2 }, fw := { State.reset.fw with session := { Session.idle with st := 2, owner := some .h2, header := zeros 16 ++ [1, 0] ++ zeros 4078, jobs := [{ block := 0, bytes := [], asker := .own }, { block := 0, bytes := [], asker := .own }] } }, pwr := { PowerState.reset with dev := .active } } : State)), 0, zeros 4096, by decide +kernel, by decide +kernel, by decide +kernel, rfl, by decide +kernel, by rw [zeros, List.length_replicate], by decide +kernel, rfl, by decide +kernel, by decide +kernel⟩,
    ⟨0, ({ active with usbA := { Usb.reset with st := 4, dfuMode := true, dfuState := 2 }, fw := { State.reset.fw with session := { Session.idle with st := 3, owner := some .h2 } }, pwr := { PowerState.reset with dev := .active } } : State), (usbSetup 0 ({ active with usbA := { Usb.reset with st := 4, dfuMode := true, dfuState := 2 }, fw := { State.reset.fw with session := { Session.idle with st := 3, owner := some .h2 } }, pwr := { PowerState.reset with dev := .active } } : State)), 0, by decide +kernel, by decide +kernel, by decide +kernel, rfl, by decide +kernel, by decide +kernel, by decide +kernel⟩,
    ⟨0, ({ active with usbA := { Usb.reset with st := 4, dfuMode := true, dfuState := 2 }, fw := { State.reset.fw with session := { Session.idle with st := 0 } }, pwr := { PowerState.reset with dev := .active } } : State), (usbSetup 0 ({ active with usbA := { Usb.reset with st := 4, dfuMode := true, dfuState := 2 }, fw := { State.reset.fw with session := { Session.idle with st := 0 } }, pwr := { PowerState.reset with dev := .active } } : State)), by decide +kernel, by decide +kernel, by decide +kernel, rfl, by decide +kernel⟩,
    ⟨0, ({ active with usbA := { Usb.reset with st := 4, dfuMode := true, dfuState := 2 }, fw := { State.reset.fw with session := { Session.idle with st := 2, owner := some .h2 } }, pwr := { PowerState.reset with dev := .active } } : State), (usbSetup 0 ({ active with usbA := { Usb.reset with st := 4, dfuMode := true, dfuState := 2 }, fw := { State.reset.fw with session := { Session.idle with st := 2, owner := some .h2 } }, pwr := { PowerState.reset with dev := .active } } : State)), by decide +kernel, by decide +kernel, by decide +kernel, rfl, by decide +kernel, by decide +kernel⟩,
    ⟨0, ({ active with usbA := { Usb.reset with st := 4, dfuMode := true, manifested := true }, fw := { State.reset.fw with session := { Session.idle with st := 5 } }, pwr := { PowerState.reset with dev := .harbour } } : State), (usbSetup 0 ({ active with usbA := { Usb.reset with st := 4, dfuMode := true, manifested := true }, fw := { State.reset.fw with session := { Session.idle with st := 5 } }, pwr := { PowerState.reset with dev := .harbour } } : State)), by decide +kernel, by decide +kernel, by decide +kernel, rfl, by decide +kernel, by decide +kernel⟩,
    ⟨0, ({ active with usbA := { Usb.reset with st := 4, dfuMode := true, manifested := true }, fw := { State.reset.fw with session := { Session.idle with st := 5 } }, pwr := { PowerState.reset with dev := .active } } : State), (usbSetup 0 ({ active with usbA := { Usb.reset with st := 4, dfuMode := true, manifested := true }, fw := { State.reset.fw with session := { Session.idle with st := 5 } }, pwr := { PowerState.reset with dev := .active } } : State)), by decide +kernel, by decide +kernel, by decide +kernel, rfl, by decide +kernel, by decide +kernel, by decide +kernel, by decide +kernel, by decide +kernel⟩⟩

theorem witness_NetworkCommandsTakeEffect :
    (∃ (o : Issue) (p : List Byte) (s : State), Accepted 0x0801 o p noCheck s)
    ∧ (∃ (o : Issue) (p : List Byte) (s : State), Accepted 0x0802 o p (netCountersCheck p) s)
    ∧ (∃ (o : Issue) (p : List Byte) (s : State), Accepted 0x0803 o p (netMdioCheck o p) s)
    ∧ (∃ (o : Issue) (p : List Byte) (s : State) (w : Waiter) (driven : Bool) (d : BitVec 16), s.net.mac.mdio = some (w, o, p) ∧ u8 p 0 = 0)
    ∧ (∃ (o : Issue) (p : List Byte) (s : State) (w : Waiter) (driven : Bool) (d : BitVec 16), s.net.mac.mdio = some (w, o, p) ∧ u8 p 0 = 1)
    ∧ (∃ (o : Issue) (p : List Byte) (s : State), Accepted 0x0804 o p noCheck s)
    ∧ (∃ (o : Issue) (p : List Byte) (s : State), Accepted 0x0805 o p (gptpSetCheck p) s ∧ s.net.gptp.announces = false ∧ u8 p 0 ≠ 255)
    ∧ (∃ (o : Issue) (p : List Byte) (s : State), Accepted 0x0806 o p (streamStatusCheck p) s)
    ∧ (∃ (o : Issue) (p : List Byte) (s : State), Accepted 0x0807 o p (streamConnectCheck o p) s ∧ (streamGet s (u8 p 0)).st = 0 ∧ 32 ≤ u8 p 0 ∧ u8 (streamRec s (u8 p 0)) 1 = 0xFF ∧ linkUp s = false ∧ tblWf Stream.off s.net.streams = true)
    ∧ (∃ (o : Issue) (p : List Byte) (s : State) (u : _), Accepted 0x0807 o p (streamConnectCheck o p) s ∧ (streamGet s (u8 p 0)).st = 0 ∧ u8 p 0 < 32 ∧ u = nameStream (u8 p 0) (beN p 2 6) (BitVec.ofNat 64 (u64 p 8)) (u32 p 16) (takeLog s) ∧ slopeFits u (talkerSlope u (u8 p 0)) = false)
    ∧ (∃ (o : Issue) (p : List Byte) (s : State), Accepted 0x0808 o p (streamDisconnectCheck o p) s ∧ (streamGet s (u8 p 0)).st = 0 ∧ tblWf Stream.off s.net.streams = true)
    ∧ (∃ (o : Issue) (p : List Byte) (s : State), Accepted 0x0808 o p (streamDisconnectCheck o p) s ∧ u8 p 0 < 32 ∧ (streamGet s (u8 p 0)).acmp ≠ 0)
    ∧ (∃ (o : Issue) (p : List Byte) (s : State), Accepted 0x0808 o p (streamDisconnectCheck o p) s ∧ (streamGet s (u8 p 0)).st ≠ 0 ∧ 32 ≤ u8 p 0 ∧ u8 (streamRec s (u8 p 0)) 1 = 0xFF ∧ tblWf Stream.off s.net.streams = true)
    ∧ (∃ (o : Issue) (p : List Byte) (s : State), Accepted 0x0809 o p (crfStatusCheck p) s)
    ∧ (∃ (o : Issue) (p : List Byte) (s : State), Accepted 0x080A o p noCheck s)
    ∧ (∃ (o : Issue) (p : List Byte) (s : State) (l : _), l = ((s.net.disc.drop (u16 p 0)).take (u8 p 2)).map (·.e) ∧ Accepted 0x080B o p (discReadCheck p) s)
    ∧ (∃ (o : Issue) (p : List Byte) (s : State), Accepted 0x080C o p (discStatusCheck p) s) :=
  ⟨⟨h0, [], active, by unfold Accepted Taken; decide +kernel⟩,
    ⟨h0, [0, 0, 0, 0], active, by unfold Accepted Taken; decide +kernel⟩,
    ⟨h0, [0, 0, 2, 0, 0, 0, 0, 0], charted [(2, [9, 1, 1, 0, 0, 0, 2, 0, 0, 0, 0, 1]), (32, [1, 0, 0xFF, 0x0F, 0, 4, 0, 0, 3, 0, 3, 0])], by unfold Accepted Taken; decide +kernel⟩,
    ⟨h0, [0, 1, 2, 0, 0, 0, 0, 0], ({ charted [(2, [9, 1, 1, 0, 0, 0, 2, 0, 0, 0, 0, 1]), (32, [1, 0, 0xFF, 0x0F, 0, 4, 0, 0, 3, 0, 3, 0])] with net := { State.reset.net with mac := { State.reset.net.mac with mdio := some ({ ctx := .h0, log := 5 }, h0, [0, 1, 2, 0, 0, 0, 0, 0]) } } } : State), { ctx := .h0, log := 5 }, true, 3, by decide +kernel⟩,
    ⟨h0, [1, 1, 2, 0, 0, 0, 0, 0], ({ charted [(2, [9, 1, 1, 0, 0, 0, 2, 0, 0, 0, 0, 1]), (32, [1, 0, 0xFF, 0x0F, 0, 4, 0, 0, 3, 0, 3, 0])] with net := { State.reset.net with mac := { State.reset.net.mac with mdio := some ({ ctx := .h0, log := 5 }, h0, [1, 1, 2, 0, 0, 0, 0, 0]) } } } : State), { ctx := .h0, log := 5 }, true, 3, by decide +kernel⟩,
    ⟨h0, [], active, by unfold Accepted Taken; decide +kernel⟩,
    ⟨h0, [1, 2, 0, 0, 0, 0, 0, 0], active, by unfold Accepted Taken; decide +kernel⟩,
    ⟨h0, [0, 1, 0, 0], charted [(2, [9, 1, 1, 0, 0, 0, 2, 0, 0, 0, 0, 1]), (32, [1, 0, 0xFF, 0x0F, 0, 4, 0, 0, 3, 0, 3, 0])], by unfold Accepted Taken; decide +kernel⟩,
    ⟨h0, [32] ++ zeros 19, charted [(2, [9, 1, 1, 0, 0, 0, 2, 0, 0, 0, 0, 1]), (32, [1, 0, 0xFF, 0x0F, 0, 4, 0, 0, 3, 0, 3, 0])], by unfold Accepted Taken; decide +kernel⟩,
    ⟨h0, ([0] ++ zeros 19), ({ charted [(2, [9, 1, 1, 0, 0, 0, 2, 0, 0, 0, 0, 1]), (32, [1, 0, 0xFF, 0x0F, 0, 4, 0, 0, 3, 0, 3, 0])] with net := { State.reset.net with mac := { State.reset.net.mac with link := 1 } }, cs := { ChartState.reset with chart := some { chart with sections := [{ type := 7, index := 0, data := [1, 0, 0, 0, 0, 0, 0, 1] ++ zeros 56 ++ [1, 0xFF, 0, 0, 1, 60, 255, 0] ++ zeros 24 ++ zeros 2048 }] }, near := { Bank.empty with entries := [(2, [9, 1, 1, 0, 0, 0, 2, 0, 0, 0, 0, 1]), (32, [1, 0, 0xFF, 0x0F, 0, 4, 0, 0, 3, 0, 3, 0])] } } } : State), (nameStream (u8 ([0] ++ zeros 19) 0) (beN ([0] ++ zeros 19) 2 6) (BitVec.ofNat 64 (u64 ([0] ++ zeros 19) 8)) (u32 ([0] ++ zeros 19) 16) (takeLog ({ charted [(2, [9, 1, 1, 0, 0, 0, 2, 0, 0, 0, 0, 1]), (32, [1, 0, 0xFF, 0x0F, 0, 4, 0, 0, 3, 0, 3, 0])] with net := { State.reset.net with mac := { State.reset.net.mac with link := 1 } }, cs := { ChartState.reset with chart := some { chart with sections := [{ type := 7, index := 0, data := [1, 0, 0, 0, 0, 0, 0, 1] ++ zeros 56 ++ [1, 0xFF, 0, 0, 1, 60, 255, 0] ++ zeros 24 ++ zeros 2048 }] }, near := { Bank.empty with entries := [(2, [9, 1, 1, 0, 0, 0, 2, 0, 0, 0, 0, 1]), (32, [1, 0, 0xFF, 0x0F, 0, 4, 0, 0, 3, 0, 3, 0])] } } } : State))), by unfold Accepted Taken; decide +kernel, by decide +kernel, by decide +kernel, rfl, by decide +kernel⟩,
    ⟨h0, [0, 0, 0, 0], charted [(2, [9, 1, 1, 0, 0, 0, 2, 0, 0, 0, 0, 1]), (32, [1, 0, 0xFF, 0x0F, 0, 4, 0, 0, 3, 0, 3, 0])], by unfold Accepted Taken; decide +kernel⟩,
    ⟨h0, [0, 0, 0, 0], { charted [(2, [9, 1, 1, 0, 0, 0, 2, 0, 0, 0, 0, 1]), (32, [1, 0, 0xFF, 0x0F, 0, 4, 0, 0, 3, 0, 3, 0])] with net := { State.reset.net with streams := [(0, { Stream.off with st := 3, acmp := 1 })] } }, by unfold Accepted Taken; decide +kernel⟩,
    ⟨h0, [32, 0, 0, 0], { charted [(2, [9, 1, 1, 0, 0, 0, 2, 0, 0, 0, 0, 1]), (32, [1, 0, 0xFF, 0x0F, 0, 4, 0, 0, 3, 0, 3, 0])] with net := { State.reset.net with streams := [(32, { Stream.off with st := 2 })] } }, by unfold Accepted Taken; decide +kernel⟩,
    ⟨h0, [0, 1, 0, 0], charted [(2, [9, 1, 1, 0, 0, 0, 2, 0, 0, 0, 0, 1]), (32, [1, 0, 0xFF, 0x0F, 0, 4, 0, 0, 3, 0, 3, 0])], by unfold Accepted Taken; decide +kernel⟩,
    ⟨h0, [], active, by unfold Accepted Taken; decide +kernel⟩,
    ⟨h0, [0, 0, 5, 0], active, [], rfl, by unfold Accepted Taken; decide +kernel⟩,
    ⟨h0, [0, 0, 0, 0], active, by unfold Accepted Taken; decide +kernel⟩⟩

theorem witness_LinkAndClockStepsTakeEffect :
    (∃ (s : State), netAlive s = true ∧ s.net.mac.link = 0)
    ∧ (∃ (s : State) (r : Fin 3), netAlive s = true ∧ s.net.mac.link = 1 ∧ (ethMode s ≠ 0 ∨ r = 1))
    ∧ (∃ (s : State) (c : Fin 4) (r : Fin 3), s.net.mac.link ≠ 0)
    ∧ (∃ (s : State) (f : List Byte), linkUp s = true ∧ f ≠ [] ∧ f.length ≤ 63)
    ∧ (∃ (s : State) (f : List Byte), linkUp s = true ∧ f ≠ [] ∧ 64 ≤ f.length ∧ ethMaxLen s < f.length)
    ∧ (∃ (s : State) (f : List Byte), linkUp s = true ∧ f ≠ [] ∧ 64 ≤ f.length ∧ f.length ≤ ethMaxLen s ∧ 32768 < rxFill s + f.length)
    ∧ (∃ (s : State) (f : List Byte), linkUp s = true ∧ f ≠ [] ∧ 64 ≤ f.length ∧ f.length ≤ ethMaxLen s ∧ rxFill s + f.length ≤ 32768)
    ∧ (∃ (s : State) (f : List Byte) (w : _), linkUp s = true ∧ f ≠ [] ∧ 64 ≤ f.length ∧ f.length ≤ ethMaxLen s ∧ w = drainRx (countAccepted f s) ∧ addressAccepted w f = true ∧ vidAccepted w f = true)
    ∧ (∃ (s : State), s.net.mac.pause = true)
    ∧ (∃ (s : State) (g a b : Nat) (w : _) (x : _) (r : _), w = shapeQueues g a b (declareMsrp s) ∧ linkUp s = true ∧ s.net.mac.pause = false ∧ w.net.mac.queueA = x :: r ∧ 0 ≤ w.net.mac.creditA)
    ∧ (∃ (s : State) (g a b : Nat) (w : _) (x : _) (r : _), w = shapeQueues g a b (declareMsrp s) ∧ linkUp s = true ∧ s.net.mac.pause = false ∧ (w.net.mac.queueA = [] ∨ w.net.mac.creditA < 0) ∧ w.net.mac.queueB = x :: r ∧ 0 ≤ w.net.mac.creditB)
    ∧ (∃ (s : State) (g a b : Nat) (w : _) (x : _) (r : _), w = shapeQueues g a b (declareMsrp s) ∧ linkUp s = true ∧ s.net.mac.pause = false ∧ (w.net.mac.queueA = [] ∨ w.net.mac.creditA < 0) ∧ (w.net.mac.queueB = [] ∨ w.net.mac.creditB < 0) ∧ w.net.mac.queueC = x :: r)
    ∧ (∃ (s : State) (g a b : Nat) (w : _), w = shapeQueues g a b (declareMsrp s) ∧ linkUp s = true ∧ s.net.mac.pause = false ∧ (w.net.mac.queueA = [] ∨ w.net.mac.creditA < 0) ∧ (w.net.mac.queueB = [] ∨ w.net.mac.creditB < 0) ∧ w.net.mac.queueC = [])
    ∧ (∃ (s : State) (g : Fin 5), tget 0 s.net.mac.folding g.val = 1 ∧ tget 0 s.net.mac.folds g.val = 0)
    ∧ (∃ (s : State) (g : Fin 5), tget 0 s.net.mac.folding g.val = 1 ∧ tget 0 s.net.mac.folds g.val ≠ 0)
    ∧ (∃ (s : State) (d : _), linkUp s = true ∧ d ≤ 800)
    ∧ (∃ (s : State), linkUp s = true ∧ s.net.gptp.bad < 2)
    ∧ (∃ (s : State), linkUp s = true ∧ 2 ≤ s.net.gptp.bad)
    ∧ (∃ (s : State) (measured off : Int), off = measured - s.net.gptp.asymmetry ∧ linkUp s = true ∧ s.net.gptp.st = 3 ∧ -1000 ≤ off ∧ off ≤ 1000)
    ∧ (∃ (s : State) (measured off : Int), off = measured - s.net.gptp.asymmetry ∧ linkUp s = true ∧ s.net.gptp.st = 2 ∧ (off < -1000 ∨ 1000 < off))
    ∧ (∃ (s : State) (measured off : Int), off = measured - s.net.gptp.asymmetry ∧ linkUp s = true ∧ s.net.gptp.st = 2 ∧ -100 ≤ off ∧ off ≤ 100 ∧ 7 ≤ s.net.gptp.qualify)
    ∧ (∃ (s : State) (p1 cl ac : Byte) (va : BitVec 16) (p2 : Byte) (gm : BitVec 64) (st : BitVec 16), linkUp s = true ∧ s.net.gptp.asCapable = true ∧ s.net.gptp.st = 1 ∧ s.net.gptp.priority1 = 255)
    ∧ (∃ (s : State), linkUp s = true ∧ (s.net.gptp.st = 1 ∨ s.net.gptp.st = 2 ∨ s.net.gptp.st = 3) ∧ s.net.gptp.priority1 ≠ 255) :=
  ⟨⟨charted [(2, [9, 1, 1, 0, 0, 0, 2, 0, 0, 0, 0, 1]), (32, [1, 0, 0xFF, 0x0F, 0, 4, 0, 0, 3, 0, 3, 0])], by decide +kernel⟩,
    ⟨{ charted [(2, [9, 1, 1, 0, 0, 0, 2, 0, 0, 0, 0, 1]), (32, [1, 0, 0xFF, 0x0F, 0, 4, 0, 0, 3, 0, 3, 0])] with net := { State.reset.net with mac := { State.reset.net.mac with link := 1 } } }, 1, by decide +kernel⟩,
    ⟨{ charted [(2, [9, 1, 1, 0, 0, 0, 2, 0, 0, 0, 0, 1]), (32, [1, 0, 0xFF, 0x0F, 0, 4, 0, 0, 3, 0, 3, 0])] with net := { State.reset.net with mac := { State.reset.net.mac with link := 2 } } }, 0, 0, by decide +kernel⟩,
    ⟨{ charted [(2, [9, 1, 1, 0, 0, 0, 2, 0, 0, 0, 0, 1]), (32, [1, 0, 0xFF, 0x0F, 0, 4, 0, 0, 3, 0, 3, 0])] with net := { State.reset.net with mac := { State.reset.net.mac with link := 2 } } }, [1], by decide +kernel⟩,
    ⟨{ charted [(2, [9, 1, 1, 0, 0, 0, 2, 0, 0, 0, 0, 1]), (32, [1, 0, 0xFF, 0x0F, 0, 4, 0, 0, 3, 0, 3, 0])] with net := { State.reset.net with mac := { State.reset.net.mac with link := 2 } } }, zeros 1600, by decide +kernel⟩,
    ⟨({ charted [(2, [9, 1, 1, 0, 0, 0, 2, 0, 0, 0, 0, 1]), (32, [1, 0, 0xFF, 0x0F, 0, 4, 0, 0, 3, 0, 3, 0])] with net := { State.reset.net with mac := { State.reset.net.mac with link := 2, rxFifo := [(zeros 32000, 0)] } } } : State), zeros 1500, by decide +kernel⟩,
    ⟨({ charted [(2, [9, 1, 1, 0, 0, 0, 2, 0, 0, 0, 0, 1]), (32, [1, 0, 0xFF, 0x0F, 0, 4, 0, 0, 3, 0, 3, 0])] with net := { State.reset.net with mac := { State.reset.net.mac with link := 2 } } } : State), zeros 1500, by decide +kernel⟩,
    ⟨({ charted [(2, [9, 1, 1, 0, 0, 0, 2, 0, 0, 0, 0, 1]), (32, [1, 0, 0xFF, 0x0F, 0, 4, 0, 0, 3, 0, 3, 0])] with net := { State.reset.net with mac := { State.reset.net.mac with link := 2 } } } : State), List.replicate 64 0xFF, drainRx (countAccepted (List.replicate 64 0xFF) ({ charted [(2, [9, 1, 1, 0, 0, 0, 2, 0, 0, 0, 0, 1]), (32, [1, 0, 0xFF, 0x0F, 0, 4, 0, 0, 3, 0, 3, 0])] with net := { State.reset.net with mac := { State.reset.net.mac with link := 2 } } } : State)), by decide +kernel, by decide +kernel, by decide +kernel, by decide +kernel, rfl, by decide +kernel, by decide +kernel⟩,
    ⟨{ charted [(2, [9, 1, 1, 0, 0, 0, 2, 0, 0, 0, 0, 1]), (32, [1, 0, 0xFF, 0x0F, 0, 4, 0, 0, 3, 0, 3, 0])] with net := { State.reset.net with mac := { State.reset.net.mac with pause := true } } }, by decide +kernel⟩,
    ⟨({ charted [(2, [9, 1, 1, 0, 0, 0, 2, 0, 0, 0, 0, 1]), (32, [1, 0, 0xFF, 0x0F, 0, 4, 0, 0, 3, 0, 3, 0])] with net := { State.reset.net with mac := { State.reset.net.mac with link := 2, queueA := [{ bytes := zeros 60, tagged := false, kind := 0, stream := 0xFF, time := 0 }] } } } : State), 1, 2, 3, shapeQueues 1 2 3 (declareMsrp ({ charted [(2, [9, 1, 1, 0, 0, 0, 2, 0, 0, 0, 0, 1]), (32, [1, 0, 0xFF, 0x0F, 0, 4, 0, 0, 3, 0, 3, 0])] with net := { State.reset.net with mac := { State.reset.net.mac with link := 2, queueA := [{ bytes := zeros 60, tagged := false, kind := 0, stream := 0xFF, time := 0 }] } } } : State)), { bytes := zeros 60, tagged := false, kind := 0, stream := 0xFF, time := 0 }, [], rfl, by decide +kernel, by decide +kernel, rfl, by decide +kernel⟩,
    ⟨({ charted [(2, [9, 1, 1, 0, 0, 0, 2, 0, 0, 0, 0, 1]), (32, [1, 0, 0xFF, 0x0F, 0, 4, 0, 0, 3, 0, 3, 0])] with net := { State.reset.net with mac := { State.reset.net.mac with link := 2, queueB := [{ bytes := zeros 60, tagged := false, kind := 0, stream := 0xFF, time := 0 }] } } } : State), 1, 2, 3, shapeQueues 1 2 3 (declareMsrp ({ charted [(2, [9, 1, 1, 0, 0, 0, 2, 0, 0, 0, 0, 1]), (32, [1, 0, 0xFF, 0x0F, 0, 4, 0, 0, 3, 0, 3, 0])] with net := { State.reset.net with mac := { State.reset.net.mac with link := 2, queueB := [{ bytes := zeros 60, tagged := false, kind := 0, stream := 0xFF, time := 0 }] } } } : State)), { bytes := zeros 60, tagged := false, kind := 0, stream := 0xFF, time := 0 }, [], rfl, by decide +kernel, by decide +kernel, by decide +kernel, rfl, by decide +kernel⟩,
    ⟨({ charted [(2, [9, 1, 1, 0, 0, 0, 2, 0, 0, 0, 0, 1]), (32, [1, 0, 0xFF, 0x0F, 0, 4, 0, 0, 3, 0, 3, 0])] with net := { State.reset.net with mac := { State.reset.net.mac with link := 2, queueC := [{ bytes := zeros 60, tagged := false, kind := 0, stream := 0xFF, time := 0 }] }, declared := declarations ({ charted [(2, [9, 1, 1, 0, 0, 0, 2, 0, 0, 0, 0, 1]), (32, [1, 0, 0xFF, 0x0F, 0, 4, 0, 0, 3, 0, 3, 0])] with net := { State.reset.net with mac := { State.reset.net.mac with link := 2 } } } : State) } } : State), 1, 2, 3, shapeQueues 1 2 3 (declareMsrp ({ charted [(2, [9, 1, 1, 0, 0, 0, 2, 0, 0, 0, 0, 1]), (32, [1, 0, 0xFF, 0x0F, 0, 4, 0, 0, 3, 0, 3, 0])] with net := { State.reset.net with mac := { State.reset.net.mac with link := 2, queueC := [{ bytes := zeros 60, tagged := false, kind := 0, stream := 0xFF, time := 0 }] }, declared := declarations ({ charted [(2, [9, 1, 1, 0, 0, 0, 2, 0, 0, 0, 0, 1]), (32, [1, 0, 0xFF, 0x0F, 0, 4, 0, 0, 3, 0, 3, 0])] with net := { State.reset.net with mac := { State.reset.net.mac with link := 2 } } } : State) } } : State)), { bytes := zeros 60, tagged := false, kind := 0, stream := 0xFF, time := 0 }, [], rfl, by decide +kernel, by decide +kernel, by decide +kernel, by decide +kernel, rfl⟩,
    ⟨({ charted [(2, [9, 1, 1, 0, 0, 0, 2, 0, 0, 0, 0, 1]), (32, [1, 0, 0xFF, 0x0F, 0, 4, 0, 0, 3, 0, 3, 0])] with net := { State.reset.net with mac := { State.reset.net.mac with link := 2 }, declared := declarations ({ charted [(2, [9, 1, 1, 0, 0, 0, 2, 0, 0, 0, 0, 1]), (32, [1, 0, 0xFF, 0x0F, 0, 4, 0, 0, 3, 0, 3, 0])] with net := { State.reset.net with mac := { State.reset.net.mac with link := 2 } } } : State) } } : State), 1, 2, 3, shapeQueues 1 2 3 (declareMsrp ({ charted [(2, [9, 1, 1, 0, 0, 0, 2, 0, 0, 0, 0, 1]), (32, [1, 0, 0xFF, 0x0F, 0, 4, 0, 0, 3, 0, 3, 0])] with net := { State.reset.net with mac := { State.reset.net.mac with link := 2 }, declared := declarations ({ charted [(2, [9, 1, 1, 0, 0, 0, 2, 0, 0, 0, 0, 1]), (32, [1, 0, 0xFF, 0x0F, 0, 4, 0, 0, 3, 0, 3, 0])] with net := { State.reset.net with mac := { State.reset.net.mac with link := 2 } } } : State) } } : State)), rfl, by decide +kernel, by decide +kernel, by decide +kernel, by decide +kernel, by decide +kernel⟩,
    ⟨{ charted [(2, [9, 1, 1, 0, 0, 0, 2, 0, 0, 0, 0, 1]), (32, [1, 0, 0xFF, 0x0F, 0, 4, 0, 0, 3, 0, 3, 0])] with net := { State.reset.net with mac := { State.reset.net.mac with folding := [(1, 1)] } } }, 1, by decide +kernel⟩,
    ⟨{ charted [(2, [9, 1, 1, 0, 0, 0, 2, 0, 0, 0, 0, 1]), (32, [1, 0, 0xFF, 0x0F, 0, 4, 0, 0, 3, 0, 3, 0])] with net := { State.reset.net with mac := { State.reset.net.mac with folding := [(1, 1)], folds := [(1, 4)] } } }, 1, by decide +kernel⟩,
    ⟨{ charted [(2, [9, 1, 1, 0, 0, 0, 2, 0, 0, 0, 0, 1]), (32, [1, 0, 0xFF, 0x0F, 0, 4, 0, 0, 3, 0, 3, 0])] with net := { State.reset.net with mac := { State.reset.net.mac with link := 2 } } }, 100, by decide +kernel⟩,
    ⟨{ charted [(2, [9, 1, 1, 0, 0, 0, 2, 0, 0, 0, 0, 1]), (32, [1, 0, 0xFF, 0x0F, 0, 4, 0, 0, 3, 0, 3, 0])] with net := { State.reset.net with mac := { State.reset.net.mac with link := 2 } } }, by decide +kernel⟩,
    ⟨{ charted [(2, [9, 1, 1, 0, 0, 0, 2, 0, 0, 0, 0, 1]), (32, [1, 0, 0xFF, 0x0F, 0, 4, 0, 0, 3, 0, 3, 0])] with net := { State.reset.net with mac := { State.reset.net.mac with link := 2 }, gptp := { State.reset.net.gptp with bad := 2 } } }, by decide +kernel⟩,
    ⟨({ charted [(2, [9, 1, 1, 0, 0, 0, 2, 0, 0, 0, 0, 1]), (32, [1, 0, 0xFF, 0x0F, 0, 4, 0, 0, 3, 0, 3, 0])] with net := { State.reset.net with mac := { State.reset.net.mac with link := 2 }, gptp := { State.reset.net.gptp with st := 3 } } } : State), 900, 900, by decide +kernel⟩,
    ⟨({ charted [(2, [9, 1, 1, 0, 0, 0, 2, 0, 0, 0, 0, 1]), (32, [1, 0, 0xFF, 0x0F, 0, 4, 0, 0, 3, 0, 3, 0])] with net := { State.reset.net with mac := { State.reset.net.mac with link := 2 }, gptp := { State.reset.net.gptp with st := 2 } } } : State), 1500, 1500, by decide +kernel⟩,
    ⟨({ charted [(2, [9, 1, 1, 0, 0, 0, 2, 0, 0, 0, 0, 1]), (32, [1, 0, 0xFF, 0x0F, 0, 4, 0, 0, 3, 0, 3, 0])] with net := { State.reset.net with mac := { State.reset.net.mac with link := 2 }, gptp := { State.reset.net.gptp with st := 2, qualify := 7 } } } : State), 90, 90, by decide +kernel⟩,
    ⟨{ charted [(2, [9, 1, 1, 0, 0, 0, 2, 0, 0, 0, 0, 1]), (32, [1, 0, 0xFF, 0x0F, 0, 4, 0, 0, 3, 0, 3, 0])] with net := { State.reset.net with mac := { State.reset.net.mac with link := 2 }, gptp := { State.reset.net.gptp with st := 1, asCapable := true, priority1 := 255 } } }, 1, 2, 3, 4, 5, 6, 7, by decide +kernel⟩,
    ⟨{ charted [(2, [9, 1, 1, 0, 0, 0, 2, 0, 0, 0, 0, 1]), (32, [1, 0, 0xFF, 0x0F, 0, 4, 0, 0, 3, 0, 3, 0])] with net := { State.reset.net with mac := { State.reset.net.mac with link := 2 }, gptp := { State.reset.net.gptp with st := 1, priority1 := 248 } } }, by decide +kernel⟩⟩

theorem witness_StreamAndDiscoveryStepsTakeEffect :
    (∃ (s : State) (k : MsrpKind) (id : BitVec 64), linkUp s = true ∧ attributeOf k id ∈ s.net.regs)
    ∧ (∃ (s : State) (id : BitVec 64), linkUp s = true)
    ∧ (∃ (s : State) (id : BitVec 64) (p : BitVec 3) (vid : BitVec 12), linkUp s = true)
    ∧ (∃ (s : State) (l : Fin 32), linkUp s = true ∧ tblWf Stream.off s.net.streams = true ∧ (streamGet s (32 + l.val)).connected = true ∧ recBypass (streamRec s (32 + l.val)) = false ∧ classBoundary s (recClassB (streamRec s (32 + l.val))) = false)
    ∧ (∃ (s : State) (k : MsrpKind) (id : BitVec 64), attributeOf k id ∈ s.net.leaving)
    ∧ (∃ (s : State) (n : Fin 32), blockReady s n.val = true)
    ∧ (∃ (s : State) (now : _), s.eng.ticking = true ∧ (crfGet s 0).st = 3 ∧ crfHz s ≠ 0 ∧ (crfFrame s now).bytes.length + 4 ≤ ethMaxLen s)
    ∧ (∃ (s : State) (now : _), s.eng.ticking = true ∧ (crfGet s 0).st = 3 ∧ crfHz s ≠ 0 ∧ ethMaxLen s < (crfFrame s now).bytes.length + 4)
    ∧ (∃ (s : State) (l : Fin 32), (streamGet s (32 + l.val)).st = 3 ∧ tblWf Stream.off s.net.streams = true)
    ∧ (∃ (s : State) (k : Fin 4) (n : Fin 32) (id : BitVec 64) (dst : BitVec 48) (c : BitVec 64), linkUp s = true ∧ cpRuns s = true ∧ (entitySection s).isSome = true)
    ∧ (∃ (s : State) (n : Fin 32) (id : BitVec 64) (dst : BitVec 48) (c : BitVec 64), linkUp s = true ∧ cpRuns s = true ∧ (entitySection s).isSome = true ∧ streamDefined s (n.val + 32) = true ∧ openMooring s (0x0800 + (n.val + 32)) = true ∧ (streamGet s (n.val + 32)).st = 0 ∧ u8 (streamRec s (n.val + 32)) 1 = 0xFF ∧ tblWf Stream.off s.net.streams = true)
    ∧ (∃ (s : State) (n : Fin 32) (id : BitVec 64) (dst : BitVec 48) (c : BitVec 64), linkUp s = true ∧ cpRuns s = true ∧ (entitySection s).isSome = true ∧ streamDefined s (n.val + 32) = true ∧ openMooring s (0x0800 + (n.val + 32)) = false)
    ∧ (∃ (s : State) (k : Fin 4) (n : Fin 32) (id : BitVec 64) (dst : BitVec 48) (c : BitVec 64), netReaches s = true ∧ (entitySection s).isSome = true ∧ cpRuns s = false)
    ∧ (∃ (s : State) (c : BitVec 64) (q : BitVec 16), netReaches s = true ∧ (entitySection s).isSome = true ∧ cpRuns s = false)
    ∧ (∃ (s : State) (gone : Bool) (e : DiscEntry), netReaches s = true ∧ e.entityId ≠ entityId s ∧ cpRuns s = false)
    ∧ (∃ (s : State) (e : DiscEntry), linkUp s = true ∧ cpRuns s = true ∧ e.entityId ≠ entityId s ∧ discFind s e.entityId = none ∧ s.net.disc.length < 2048)
    ∧ (∃ (s : State) (e old : DiscEntry), linkUp s = true ∧ cpRuns s = true ∧ e.entityId ≠ entityId s ∧ discFind s e.entityId = some old)
    ∧ (∃ (s : State) (e : DiscEntry), linkUp s = true ∧ cpRuns s = true ∧ e.entityId ≠ entityId s ∧ discFind s e.entityId = none ∧ 2048 ≤ s.net.disc.length)
    ∧ (∃ (s : State) (id : BitVec 64) (old : DiscEntry), discFind s id = some old)
    ∧ (∃ (s : State) (c : BitVec 64) (q : BitVec 16) (cmd : _) (e : _), linkUp s = true ∧ cpRuns s = true ∧ (entitySection s).isSome = true ∧ (aecpGet s c).lastSeq ≠ some q ∧ foreign s c = false ∧ e = aemEffect c s.host.log cmd (takeLog s) ∧ (e.1 ≠ aemSuccess ∨ aemChanges cmd = false))
    ∧ (∃ (s : State) (c : BitVec 64) (q : BitVec 16) (cmd : _) (e : _), linkUp s = true ∧ cpRuns s = true ∧ (entitySection s).isSome = true ∧ (aecpGet s c).lastSeq ≠ some q ∧ foreign s c = false ∧ e = aemEffect c s.host.log cmd (takeLog s) ∧ e.1 = aemSuccess ∧ aemChanges cmd = true)
    ∧ (∃ (s : State) (c : BitVec 64) (q : BitVec 16), linkUp s = true ∧ cpRuns s = true ∧ (entitySection s).isSome = true ∧ (aecpGet s c).lastSeq ≠ some q ∧ foreign s c = false ∧ s.net.acquired = none)
    ∧ (∃ (s : State) (c : BitVec 64) (q : BitVec 16), linkUp s = true ∧ cpRuns s = true ∧ (entitySection s).isSome = true ∧ (aecpGet s c).lastSeq ≠ some q ∧ foreign s c = true)
    ∧ (∃ (s : State) (c : BitVec 64) (q : BitVec 16), linkUp s = true ∧ cpRuns s = true ∧ (entitySection s).isSome = true ∧ (aecpGet s c).lastSeq = some q)
    ∧ (∃ (s : State) (c : BitVec 64) (q : BitVec 16) (d : List Byte), linkUp s = true ∧ cpPresent s = true ∧ (entitySection s).isSome = true ∧ (aecpGet s c).lastSeq ≠ some q ∧ d.length ≤ 500)
    ∧ (∃ (s : State) (c : BitVec 64) (q : BitVec 16) (i n : Nat) (d : List Byte), linkUp s = true ∧ cpPresent s = true ∧ (entitySection s).isSome = true ∧ (aecpGet s c).lastSeq ≠ some q ∧ foreign s c = false) :=
  ⟨⟨{ charted [(2, [9, 1, 1, 0, 0, 0, 2, 0, 0, 0, 0, 1]), (32, [1, 0, 0xFF, 0x0F, 0, 4, 0, 0, 3, 0, 3, 0])] with net := { State.reset.net with mac := { State.reset.net.mac with link := 2 }, regs := [(2, 9)] } }, .listenerReady, 9, by decide +kernel⟩,
    ⟨{ charted [(2, [9, 1, 1, 0, 0, 0, 2, 0, 0, 0, 0, 1]), (32, [1, 0, 0xFF, 0x0F, 0, 4, 0, 0, 3, 0, 3, 0])] with net := { State.reset.net with mac := { State.reset.net.mac with link := 2 } } }, 9, by decide +kernel⟩,
    ⟨{ charted [(2, [9, 1, 1, 0, 0, 0, 2, 0, 0, 0, 0, 1]), (32, [1, 0, 0xFF, 0x0F, 0, 4, 0, 0, 3, 0, 3, 0])] with net := { State.reset.net with mac := { State.reset.net.mac with link := 2 } } }, 9, 3, 2, by decide +kernel⟩,
    ⟨{ charted [(2, [9, 1, 1, 0, 0, 0, 2, 0, 0, 0, 0, 1]), (32, [1, 0, 0xFF, 0x0F, 0, 4, 0, 0, 3, 0, 3, 0])] with net := { State.reset.net with mac := { State.reset.net.mac with link := 2 }, streams := [(32, { Stream.off with connected := true })] } }, 0, by decide +kernel⟩,
    ⟨{ charted [(2, [9, 1, 1, 0, 0, 0, 2, 0, 0, 0, 0, 1]), (32, [1, 0, 0xFF, 0x0F, 0, 4, 0, 0, 3, 0, 3, 0])] with net := { State.reset.net with leaving := [(2, 9)] } }, .listenerReady, 9, by decide +kernel⟩,
    ⟨{ charted [(2, [9, 1, 1, 0, 0, 0, 2, 0, 0, 0, 0, 1]), (32, [1, 0, 0xFF, 0x0F, 0, 4, 0, 0, 3, 0, 3, 0])] with net := { State.reset.net with streams := [(0, { Stream.off with st := 3, block := List.replicate 8 [] })] } }, 0, by decide +kernel⟩,
    ⟨{ charted [(2, [9, 1, 1, 0, 0, 0, 2, 0, 0, 0, 0, 1]), (32, [1, 0, 0xFF, 0x0F, 0, 4, 0, 0, 3, 0, 3, 0])] with net := { State.reset.net with crfs := [(0, { Stream.off with st := 3 })] }, eng := { State.reset.eng with ticking := true } }, 5, by decide +kernel⟩,
    ⟨{ charted [(2, [9, 1, 1, 0, 0, 0, 2, 0, 0, 0, 0, 1]), (32, [1, 0, 0xFF, 0x0F, 0, 4, 0, 0, 3, 0, 3, 0])] with net := { State.reset.net with crfs := [(0, { Stream.off with st := 3 })] }, cs := { ChartState.reset with chart := some { chart with sections := [{ type := 7, index := 0, data := netData 255 }] }, near := { Bank.empty with entries := [(2, [9, 1, 1, 0, 0, 0, 2, 0, 0, 0, 0, 1]), (32, [1, 0, 0xFF, 0x0F, 0, 4, 0, 0, 3, 0, 3, 0])] } }, eng := { State.reset.eng with ticking := true } }, 5, by decide +kernel⟩,
    ⟨{ charted [(2, [9, 1, 1, 0, 0, 0, 2, 0, 0, 0, 0, 1]), (32, [1, 0, 0xFF, 0x0F, 0, 4, 0, 0, 3, 0, 3, 0])] with net := { State.reset.net with streams := [(32, { Stream.off with st := 3 })] } }, 0, by decide +kernel⟩,
    ⟨{ charted [(2, [9, 1, 1, 0, 0, 0, 2, 0, 0, 0, 0, 1]), (32, [1, 0, 0xFF, 0x0F, 0, 4, 0, 0, 3, 0, 3, 0])] with net := { State.reset.net with mac := { State.reset.net.mac with link := 2 } } }, 1, 0, 9, 9, 9, by decide +kernel⟩,
    ⟨{ charted [(2, [9, 1, 1, 0, 0, 0, 2, 0, 0, 0, 0, 1]), (32, [1, 0, 0xFF, 0x0F, 0, 4, 0, 0, 3, 0, 3, 0])] with net := { State.reset.net with mac := { State.reset.net.mac with link := 2 } } }, 0, 9, 9, 9, by decide +kernel⟩,
    ⟨{ charted [(2, [9, 1, 1, 0, 0, 0, 2, 0, 0, 0, 0, 1]), (32, [1, 0, 0xFF, 0x0F, 0, 4, 0, 0, 3, 0, 3, 0])] with net := { State.reset.net with mac := { State.reset.net.mac with link := 2 } }, host := { shared with owners := [(0x0820, 0)] } }, 0, 9, 9, 9, by decide +kernel⟩,
    ⟨({ charted [(2, [9, 1, 1, 0, 0, 0, 2, 0, 0, 0, 0, 1]), (32, [1, 0, 0xFF, 0x0F, 0, 4, 0, 0, 3, 0, 3, 0])] with net := { State.reset.net with mac := { State.reset.net.mac with link := 2 } }, host := { hosts with absent := true } } : State), 1, 0, 9, 9, 9, by decide +kernel⟩,
    ⟨({ charted [(2, [9, 1, 1, 0, 0, 0, 2, 0, 0, 0, 0, 1]), (32, [1, 0, 0xFF, 0x0F, 0, 4, 0, 0, 3, 0, 3, 0])] with net := { State.reset.net with mac := { State.reset.net.mac with link := 2 } }, host := { hosts with absent := true } } : State), 5, 1, by decide +kernel⟩,
    ⟨({ charted [(2, [9, 1, 1, 0, 0, 0, 2, 0, 0, 0, 0, 1]), (32, [1, 0, 0xFF, 0x0F, 0, 4, 0, 0, 3, 0, 3, 0])] with net := { State.reset.net with mac := { State.reset.net.mac with link := 2 } }, host := { hosts with absent := true } } : State), true, { entityId := 77, modelId := 0, capabilities := 0, talkerSources := 0, listenerSinks := 0, grandmaster := 0, source := 0, validTime := 31, availableIndex := 0 }, by decide +kernel⟩,
    ⟨({ charted [(2, [9, 1, 1, 0, 0, 0, 2, 0, 0, 0, 0, 1]), (32, [1, 0, 0xFF, 0x0F, 0, 4, 0, 0, 3, 0, 3, 0])] with net := { State.reset.net with mac := { State.reset.net.mac with link := 2 } } } : State), { entityId := 77, modelId := 0, capabilities := 0, talkerSources := 0, listenerSinks := 0, grandmaster := 0, source := 0, validTime := 31, availableIndex := 0 }, by decide +kernel⟩,
    ⟨({ charted [(2, [9, 1, 1, 0, 0, 0, 2, 0, 0, 0, 0, 1]), (32, [1, 0, 0xFF, 0x0F, 0, 4, 0, 0, 3, 0, 3, 0])] with net := { State.reset.net with mac := { State.reset.net.mac with link := 2 }, disc := [{ e := { entityId := 77, modelId := 0, capabilities := 0, talkerSources := 0, listenerSinks := 0, grandmaster := 0, source := 0, validTime := 31, availableIndex := 0 } }] } } : State), { entityId := 77, modelId := 0, capabilities := 0, talkerSources := 0, listenerSinks := 0, grandmaster := 0, source := 0, validTime := 31, availableIndex := 0 }, { entityId := 77, modelId := 0, capabilities := 0, talkerSources := 0, listenerSinks := 0, grandmaster := 0, source := 0, validTime := 31, availableIndex := 0 }, by decide +kernel⟩,
    ⟨({ charted [(2, [9, 1, 1, 0, 0, 0, 2, 0, 0, 0, 0, 1]), (32, [1, 0, 0xFF, 0x0F, 0, 4, 0, 0, 3, 0, 3, 0])] with net := { State.reset.net with mac := { State.reset.net.mac with link := 2 }, disc := List.replicate 2048 { e := { entityId := 77, modelId := 0, capabilities := 0, talkerSources := 0, listenerSinks := 0, grandmaster := 0, source := 0, validTime := 31, availableIndex := 0 } } } } : State), { entityId := 78, modelId := 0, capabilities := 0, talkerSources := 0, listenerSinks := 0, grandmaster := 0, source := 0, validTime := 31, availableIndex := 0 }, by decide +kernel⟩,
    ⟨{ charted [(2, [9, 1, 1, 0, 0, 0, 2, 0, 0, 0, 0, 1]), (32, [1, 0, 0xFF, 0x0F, 0, 4, 0, 0, 3, 0, 3, 0])] with net := { State.reset.net with disc := [{ e := { entityId := 77, modelId := 0, capabilities := 0, talkerSources := 0, listenerSinks := 0, grandmaster := 0, source := 0, validTime := 31, availableIndex := 0 } }] } }, 77, { entityId := 77, modelId := 0, capabilities := 0, talkerSources := 0, listenerSinks := 0, grandmaster := 0, source := 0, validTime := 31, availableIndex := 0 }, by decide +kernel⟩,
    ⟨({ charted [(2, [9, 1, 1, 0, 0, 0, 2, 0, 0, 0, 0, 1]), (32, [1, 0, 0xFF, 0x0F, 0, 4, 0, 0, 3, 0, 3, 0])] with net := { State.reset.net with mac := { State.reset.net.mac with link := 2 } } } : State), 5, 1, .entityAvailable, aemEffect 5 ({ charted [(2, [9, 1, 1, 0, 0, 0, 2, 0, 0, 0, 0, 1]), (32, [1, 0, 0xFF, 0x0F, 0, 4, 0, 0, 3, 0, 3, 0])] with net := { State.reset.net with mac := { State.reset.net.mac with link := 2 } } } : State).host.log (.entityAvailable) (takeLog ({ charted [(2, [9, 1, 1, 0, 0, 0, 2, 0, 0, 0, 0, 1]), (32, [1, 0, 0xFF, 0x0F, 0, 4, 0, 0, 3, 0, 3, 0])] with net := { State.reset.net with mac := { State.reset.net.mac with link := 2 } } } : State)), by decide +kernel, by decide +kernel, by decide +kernel, by decide +kernel, by decide +kernel, rfl, Or.inr rfl⟩,
    ⟨({ charted [(2, [9, 1, 1, 0, 0, 0, 2, 0, 0, 0, 0, 1]), (32, [1, 0, 0xFF, 0x0F, 0, 4, 0, 0, 3, 0, 3, 0])] with net := { State.reset.net with mac := { State.reset.net.mac with link := 2 } } } : State), 5, 1, .lockEntity false, aemEffect 5 ({ charted [(2, [9, 1, 1, 0, 0, 0, 2, 0, 0, 0, 0, 1]), (32, [1, 0, 0xFF, 0x0F, 0, 4, 0, 0, 3, 0, 3, 0])] with net := { State.reset.net with mac := { State.reset.net.mac with link := 2 } } } : State).host.log (.lockEntity false) (takeLog ({ charted [(2, [9, 1, 1, 0, 0, 0, 2, 0, 0, 0, 0, 1]), (32, [1, 0, 0xFF, 0x0F, 0, 4, 0, 0, 3, 0, 3, 0])] with net := { State.reset.net with mac := { State.reset.net.mac with link := 2 } } } : State)), by decide +kernel, by decide +kernel, by decide +kernel, by decide +kernel, by decide +kernel, rfl, by decide +kernel, rfl⟩,
    ⟨{ charted [(2, [9, 1, 1, 0, 0, 0, 2, 0, 0, 0, 0, 1]), (32, [1, 0, 0xFF, 0x0F, 0, 4, 0, 0, 3, 0, 3, 0])] with net := { State.reset.net with mac := { State.reset.net.mac with link := 2 } } }, 5, 1, by decide +kernel⟩,
    ⟨({ charted [(2, [9, 1, 1, 0, 0, 0, 2, 0, 0, 0, 0, 1]), (32, [1, 0, 0xFF, 0x0F, 0, 4, 0, 0, 3, 0, 3, 0])] with net := { State.reset.net with mac := { State.reset.net.mac with link := 2 } }, host := { hosts4 with h4Controller := some 6 } } : State), 5, 1, by decide +kernel⟩,
    ⟨{ charted [(2, [9, 1, 1, 0, 0, 0, 2, 0, 0, 0, 0, 1]), (32, [1, 0, 0xFF, 0x0F, 0, 4, 0, 0, 3, 0, 3, 0])] with net := { State.reset.net with mac := { State.reset.net.mac with link := 2 }, aecp := [{ controller := 5, lastSeq := some 1, response := [], assembly := [], frags := 0, reply := [] }] } }, 5, 1, by decide +kernel⟩,
    ⟨{ charted [(2, [9, 1, 1, 0, 0, 0, 2, 0, 0, 0, 0, 1]), (32, [1, 0, 0xFF, 0x0F, 0, 4, 0, 0, 3, 0, 3, 0])] with net := { State.reset.net with mac := { State.reset.net.mac with link := 2 } } }, 5, 1, [1], by decide +kernel⟩,
    ⟨{ charted [(2, [9, 1, 1, 0, 0, 0, 2, 0, 0, 0, 0, 1]), (32, [1, 0, 0xFF, 0x0F, 0, 4, 0, 0, 3, 0, 3, 0])] with net := { State.reset.net with mac := { State.reset.net.mac with link := 2 } } }, 5, 1, 0, 0, [], by decide +kernel⟩⟩

theorem witness_AuxCommandsAndStepsTakeEffect :
    (∃ (o : Issue) (p : List Byte) (s : State), Accepted 0x0B01 o p (auxStatusCheck p) s ∧ hasQueue (u8 p 0) = false)
    ∧ (∃ (o : Issue) (p : List Byte) (s : State), Accepted 0x0B01 o p (auxStatusCheck p) s ∧ hasQueue (u8 p 0) = true)
    ∧ (∃ (o : Issue) (p : List Byte) (s : State), Accepted 0x0B02 o p (auxConfigCheck o p) s ∧ u8 p 1 = auxRange (auxGet s (u8 p 0)))
    ∧ (∃ (o : Issue) (p : List Byte) (s : State), Accepted 0x0B02 o p (auxConfigCheck o p) s ∧ u8 p 1 ≠ auxRange (auxGet s (u8 p 0)) ∧ (auxGet s (u8 p 0)).driving = true)
    ∧ (∃ (o : Issue) (p : List Byte) (s : State), Accepted 0x0B02 o p (auxConfigCheck o p) s ∧ u8 p 1 ≠ auxRange (auxGet s (u8 p 0)) ∧ (auxGet s (u8 p 0)).driving = false)
    ∧ (∃ (o : Issue) (p : List Byte) (s : State), Accepted 0x0B03 o p (auxEnableCheck o p) s ∧ u8 p 2 = 1)
    ∧ (∃ (o : Issue) (p : List Byte) (s : State), Accepted 0x0B03 o p (auxEnableCheck o p) s ∧ u8 p 2 = 0)
    ∧ (∃ (o : Issue) (p : List Byte) (s : State), Accepted 0x0B04 o p (auxWriteCheck p) s ∧ (∀ i < u8 p 0, auxWriteEntry o p s i = none))
    ∧ (∃ (o : Issue) (p : List Byte) (s : State) (i : _) (st : _), Accepted 0x0B04 o p (auxWriteCheck p) s ∧ i < u8 p 0 ∧ auxWriteEntry o p s i = some st ∧ (∀ j < i, auxWriteEntry o p s j = none))
    ∧ (∃ (o : Issue) (p : List Byte) (s : State), Accepted 0x0B05 o p (auxTimerSetCheck p) s)
    ∧ (∃ (o : Issue) (p : List Byte) (s : State), Accepted 0x0B06 o p (auxQueueConfigCheck o p) s)
    ∧ (∃ (o : Issue) (p : List Byte) (s : State), Accepted 0x0B07 o p (auxQueueWriteCheck o p) s ∧ (queueGet s (u8 p 0)).cycle = true)
    ∧ (∃ (o : Issue) (p : List Byte) (s : State), Accepted 0x0B07 o p (auxQueueWriteCheck o p) s ∧ (queueGet s (u8 p 0)).cycle = false ∧ (queueGet s (u8 p 0)).entries.length + u16 p 2 ≤ 256)
    ∧ (∃ (o : Issue) (p : List Byte) (s : State), Accepted 0x0B07 o p (auxQueueWriteCheck o p) s ∧ (queueGet s (u8 p 0)).cycle = false ∧ 256 < (queueGet s (u8 p 0)).entries.length + u16 p 2)
    ∧ (∃ (o : Issue) (p : List Byte) (s : State), Accepted 0x0B08 o p (auxQueueControlCheck o p) s ∧ u8 p 1 = 0)
    ∧ (∃ (o : Issue) (p : List Byte) (s : State), Accepted 0x0B08 o p (auxQueueControlCheck o p) s ∧ u8 p 1 = 1)
    ∧ (∃ (o : Issue) (p : List Byte) (s : State), Accepted 0x0B08 o p (auxQueueControlCheck o p) s ∧ u8 p 1 = 2)
    ∧ (∃ (o : Issue) (p : List Byte) (s : State), Accepted 0x0B09 o p (auxReadbackSetCheck p) s)
    ∧ (∃ (s : State) (k : Fin 4), timerTicks s k.val = true ∧ auxHeld s = false ∧ k ≠ 0)
    ∧ (∃ (s : State) (k : Fin 4), timerTicks s k.val = true ∧ auxHeld s = true)
    ∧ (∃ (s : State) (k : Fin 4), k ≠ 0 ∧ (tget (0, 1) s.aux.timers k.val).1 = 2 ∧ tget 0 s.aux.timerCounts k.val < (tget (0, 1) s.aux.timers k.val).2)
    ∧ (∃ (s : State) (k : Fin 4), timerTicks s k.val = false)
    ∧ (∃ (s : State) (c : _) (x : _), (auxGet s c).pendRange = none ∧ (auxGet s c).shadow = some x ∧ (auxGet s c).hold = none ∧ x = (auxGet s c).target ∧ tblWf Aux.reset s.aux.chans = true)
    ∧ (∃ (s : State) (c : _) (x : _), (auxGet s c).pendRange = none ∧ (auxGet s c).shadow = some x ∧ (auxGet s c).hold = none ∧ x ≠ (auxGet s c).target ∧ tblWf Aux.reset s.aux.chans = true)
    ∧ (∃ (s : State) (c : _) (x : _) (r : _) (pr : _) (y : _), (auxGet s c).pendRange = none ∧ (auxGet s c).shadow = some x ∧ (auxGet s c).hold = some (r, pr, y) ∧ tblWf Aux.reset s.aux.chans = true)
    ∧ (∃ (s : State) (c : _) (r : _), (auxGet s c).pendRange = some r ∧ (auxGet s c).hold = none ∧ tblWf Aux.reset s.aux.chans = true)
    ∧ (∃ (s : State) (c : _), (auxGet s c).pendRange = none ∧ (auxGet s c).shadow = none)
    ∧ (∃ (s : State) (c : _), (auxGet s c).pendEnable = some true ∧ tblWf Aux.reset s.aux.chans = true)
    ∧ (∃ (s : State) (c : _), (auxGet s c).pendEnable = some false ∧ (auxGet s c).hold = none ∧ (auxGet s c).pendRange = none ∧ tblWf Aux.reset s.aux.chans = true)
    ∧ (∃ (s : State) (c : Fin 16), auxHeld s = false ∧ (auxGet s c.val).hold = none ∧ (auxGet s c.val).slew ≠ 0 ∧ (auxGet s c.val).present < (auxGet s c.val).target)
    ∧ (∃ (s : State) (c : Fin 16), auxHeld s = false ∧ (auxGet s c.val).hold = none ∧ (auxGet s c.val).slew ≠ 0 ∧ (auxGet s c.val).target < (auxGet s c.val).present)
    ∧ (∃ (s : State) (c : Fin 16), (auxHeld s = true ∨ (auxGet s c.val).hold ≠ none ∨ (auxGet s c.val).slew = 0 ∨ (auxGet s c.val).present = (auxGet s c.val).target))
    ∧ (∃ (s : State) (c : Fin 12) (r : _) (x : _) (y : _), (auxGet s c.val).hold = some (r, x, y))
    ∧ (∃ (s : State) (c : Fin 12), (auxGet s c.val).hold = none)
    ∧ (∃ (s : State) (q : Fin 3), ((queueGet s (queueChannel q.val)).running = false ∨ ((queueGet s (queueChannel q.val)).source ≠ 1 ∧ (s.eng.ticking = false ∨ (queueGet s (queueChannel q.val)).ticks < (queueGet s (queueChannel q.val)).n))))
    ∧ (∃ (s : State) (q : Fin 3), paceDue s (queueChannel q.val) = true ∧ auxHeld s = true)
    ∧ (∃ (s : State) (q : Fin 3) (w : _) (x : _) (l : _), w = paceSpend (queueChannel q.val) s ∧ paceDue s (queueChannel q.val) = true ∧ auxHeld s = false ∧ (queueGet w (queueChannel q.val)).cycle = false ∧ (queueGet w (queueChannel q.val)).entries = x :: l ∧ l.length ≠ (queueGet w (queueChannel q.val)).lowMark)
    ∧ (∃ (s : State) (q : Fin 3) (w : _) (x : _) (l : _), w = paceSpend (queueChannel q.val) s ∧ paceDue s (queueChannel q.val) = true ∧ auxHeld s = false ∧ (queueGet w (queueChannel q.val)).cycle = false ∧ (queueGet w (queueChannel q.val)).entries = x :: l ∧ l.length = (queueGet w (queueChannel q.val)).lowMark)
    ∧ (∃ (s : State) (q : Fin 3) (w : _) (x : _), w = paceSpend (queueChannel q.val) s ∧ paceDue s (queueChannel q.val) = true ∧ auxHeld s = false ∧ (queueGet w (queueChannel q.val)).cycle = true ∧ (queueGet w (queueChannel q.val)).entries[(queueGet w (queueChannel q.val)).pos]? = some x)
    ∧ (∃ (s : State) (q : Fin 3) (w : _), w = paceSpend (queueChannel q.val) s ∧ paceDue s (queueChannel q.val) = true ∧ auxHeld s = false ∧ (queueGet w (queueChannel q.val)).cycle = true ∧ (queueGet w (queueChannel q.val)).entries[(queueGet w (queueChannel q.val)).pos]? = none)
    ∧ (∃ (s : State) (q : Fin 3) (w : _), w = paceSpend (queueChannel q.val) s ∧ paceDue s (queueChannel q.val) = true ∧ auxHeld s = false ∧ (queueGet w (queueChannel q.val)).cycle = false ∧ (queueGet w (queueChannel q.val)).entries = [] ∧ (auxGet w (queueChannel q.val)).pendRange = none ∧ (queueGet w (queueChannel q.val)).underrunPosted = false)
    ∧ (∃ (s : State) (q : Fin 3) (w : _), w = paceSpend (queueChannel q.val) s ∧ paceDue s (queueChannel q.val) = true ∧ auxHeld s = false ∧ (queueGet w (queueChannel q.val)).cycle = false ∧ (queueGet w (queueChannel q.val)).entries = [] ∧ (auxGet w (queueChannel q.val)).pendRange = none ∧ (queueGet w (queueChannel q.val)).underrunPosted = true)
    ∧ (∃ (s : State) (q : Fin 3) (w : _) (r : _), w = paceSpend (queueChannel q.val) s ∧ paceDue s (queueChannel q.val) = true ∧ auxHeld s = false ∧ (queueGet w (queueChannel q.val)).cycle = false ∧ (queueGet w (queueChannel q.val)).entries = [] ∧ (auxGet w (queueChannel q.val)).pendRange = some r)
    ∧ (∃ (s : State) (c : _) (r : _), (auxGet s c).pendRange = some r)
    ∧ (∃ (s : State), s.pwr.dev ≠ .off ∧ s.pwr.dev ≠ .por ∧ s.aux.vauxReset = false ∧ tblWf Aux.reset s.aux.chans = true ∧ tblWf AuxQueue.reset s.aux.queues = true)
    ∧ (∃ (s : State), s.aux.vauxLow = true ∧ s.aux.vauxReset = false)
    ∧ (∃ (s : State), s.aux.vauxLow = true ∧ s.aux.vauxReset = true ∧ s.aux.fault = true)
    ∧ (∃ (s : State), s.aux.vauxLow = true ∧ s.aux.vauxReset = true ∧ s.aux.fault = false ∧ tblWf Aux.reset s.aux.chans = true) :=
  ⟨⟨h0, [0, 0, 0, 0], active, by unfold Accepted Taken; decide +kernel⟩,
    ⟨h0, [10, 0, 0, 0], active, by unfold Accepted Taken; decide +kernel⟩,
    ⟨h0, [3, 0, 2, 1], charted [(29, [1])], by unfold Accepted Taken; decide +kernel⟩,
    ⟨h0, [3, 1, 2, 1], ({ charted [(29, [1])] with aux := { State.reset.aux with chans := [(3, { Aux.reset with driving := true })] } } : State), by unfold Accepted Taken; decide +kernel⟩,
    ⟨h0, [3, 1, 2, 1], charted [(29, [1])], by unfold Accepted Taken; decide +kernel⟩,
    ⟨h0, [4, 0, 1, 0], charted [(29, [1])], by unfold Accepted Taken; decide +kernel⟩,
    ⟨h0, [4, 0, 0, 0], charted [(29, [1])], by unfold Accepted Taken; decide +kernel⟩,
    ⟨h0, [1, 0, 0, 0, 3, 0, 0xFF, 0x0F], charted [(29, [1])], by unfold Accepted Taken; decide +kernel⟩,
    ⟨h0, [1, 0, 0, 0, 3, 0, 0, 0x10], charted [(29, [1])], 0, stBadParam, by unfold Accepted Taken; decide +kernel⟩,
    ⟨h0, [1, 1, 0, 0, 16, 0, 0, 0], active, by unfold Accepted Taken; decide +kernel⟩,
    ⟨h0, [10, 0, 1, 2, 16, 0, 0, 0], charted [(29, [1])], by unfold Accepted Taken; decide +kernel⟩,
    ⟨h0, [10, 0, 1, 0, 7, 0], { charted [(29, [1])] with aux := { State.reset.aux with queues := [(10, { AuxQueue.reset with cycle := true })] } }, by unfold Accepted Taken; decide +kernel⟩,
    ⟨h0, [10, 0, 1, 0, 7, 0], charted [(29, [1])], by unfold Accepted Taken; decide +kernel⟩,
    ⟨h0, [10, 0, 1, 0, 7, 0], { charted [(29, [1])] with aux := { State.reset.aux with queues := [(10, { AuxQueue.reset with entries := List.replicate 256 5 })] } }, by unfold Accepted Taken; decide +kernel⟩,
    ⟨h0, [10, 0, 0, 0], charted [(29, [1])], by unfold Accepted Taken; decide +kernel⟩,
    ⟨h0, [10, 1, 0, 0], charted [(29, [1])], by unfold Accepted Taken; decide +kernel⟩,
    ⟨h0, [10, 2, 0, 0], charted [(29, [1])], by unfold Accepted Taken; decide +kernel⟩,
    ⟨h0, [1, 0xFF, 0, 0], active, by unfold Accepted Taken; decide +kernel⟩,
    ⟨{ charted [(29, [1])] with aux := { State.reset.aux with timers := [(1, (1, 16))] } }, 1, by decide +kernel⟩,
    ⟨({ charted [(29, [1])] with aux := { State.reset.aux with timers := [(1, (1, 16))] }, pwr := { PowerState.reset with dev := .active, shelter := true } } : State), 1, by decide +kernel⟩,
    ⟨({ charted [(29, [1])] with aux := { State.reset.aux with timers := [(1, (2, 16))], timerCounts := [(1, 15)] } } : State), 1, by decide +kernel⟩,
    ⟨charted [(29, [1])], 1, by decide +kernel⟩,
    ⟨({ charted [(29, [1])] with aux := { State.reset.aux with chans := [(3, { Aux.reset with shadow := some 0 })] } } : State), 3, 0, by decide +kernel⟩,
    ⟨({ charted [(29, [1])] with aux := { State.reset.aux with chans := [(3, { Aux.reset with shadow := some 5 })] } } : State), 3, 5, by decide +kernel⟩,
    ⟨({ charted [(29, [1])] with aux := { State.reset.aux with chans := [(3, { Aux.reset with shadow := some 5, hold := some (1, 2, 3) })] } } : State), 3, 5, 1, 2, 3, by decide +kernel⟩,
    ⟨({ charted [(29, [1])] with aux := { State.reset.aux with chans := [(3, { Aux.reset with pendRange := some 1 })] } } : State), 3, 1, by decide +kernel⟩,
    ⟨charted [(29, [1])], 3, by decide +kernel⟩,
    ⟨({ charted [(29, [1])] with aux := { State.reset.aux with chans := [(3, { Aux.reset with pendEnable := some true })] } } : State), 3, by decide +kernel⟩,
    ⟨({ charted [(29, [1])] with aux := { State.reset.aux with chans := [(3, { Aux.reset with pendEnable := some false })] } } : State), 3, by decide +kernel⟩,
    ⟨{ charted [(29, [1])] with aux := { State.reset.aux with chans := [(3, { Aux.reset with slew := 2, target := 9 })] } }, 3, by decide +kernel⟩,
    ⟨{ charted [(29, [1])] with aux := { State.reset.aux with chans := [(3, { Aux.reset with slew := 2, present := 9 })] } }, 3, by decide +kernel⟩,
    ⟨charted [(29, [1])], 3, by decide +kernel⟩,
    ⟨{ charted [(29, [1])] with aux := { State.reset.aux with chans := [(3, { Aux.reset with hold := some (1, 2, 3) })] } }, 3, 1, 2, 3, by decide +kernel⟩,
    ⟨charted [(29, [1])], 3, by decide +kernel⟩,
    ⟨charted [(29, [1])], 0, by decide +kernel⟩,
    ⟨({ charted [(29, [1])] with aux := { State.reset.aux with queues := [(10, { AuxQueue.reset with running := true, source := 1 })] }, pwr := { PowerState.reset with dev := .active, shelter := true } } : State), 0, by decide +kernel⟩,
    ⟨({ charted [(29, [1])] with aux := { State.reset.aux with queues := [(10, { AuxQueue.reset with running := true, source := 2, n := 16, ticks := 16, entries := [5, 6] })] } } : State), 0, paceSpend 10 ({ charted [(29, [1])] with aux := { State.reset.aux with queues := [(10, { AuxQueue.reset with running := true, source := 2, n := 16, ticks := 16, entries := [5, 6] })] } } : State), 5, [6], rfl, by decide +kernel, by decide +kernel, by decide +kernel, by decide +kernel, by decide +kernel⟩,
    ⟨({ charted [(29, [1])] with aux := { State.reset.aux with queues := [(10, { AuxQueue.reset with running := true, source := 2, n := 16, ticks := 16, entries := [5, 6], lowMark := 1 })] } } : State), 0, paceSpend 10 ({ charted [(29, [1])] with aux := { State.reset.aux with queues := [(10, { AuxQueue.reset with running := true, source := 2, n := 16, ticks := 16, entries := [5, 6], lowMark := 1 })] } } : State), 5, [6], rfl, by decide +kernel, by decide +kernel, by decide +kernel, by decide +kernel, by decide +kernel⟩,
    ⟨({ charted [(29, [1])] with aux := { State.reset.aux with queues := [(10, { AuxQueue.reset with running := true, source := 2, n := 16, ticks := 16, cycle := true, entries := [5, 6], pos := 1 })] } } : State), 0, paceSpend 10 ({ charted [(29, [1])] with aux := { State.reset.aux with queues := [(10, { AuxQueue.reset with running := true, source := 2, n := 16, ticks := 16, cycle := true, entries := [5, 6], pos := 1 })] } } : State), 6, rfl, by decide +kernel, by decide +kernel, by decide +kernel, by decide +kernel⟩,
    ⟨({ charted [(29, [1])] with aux := { State.reset.aux with queues := [(10, { AuxQueue.reset with running := true, source := 2, n := 16, ticks := 16, cycle := true })] } } : State), 0, paceSpend 10 ({ charted [(29, [1])] with aux := { State.reset.aux with queues := [(10, { AuxQueue.reset with running := true, source := 2, n := 16, ticks := 16, cycle := true })] } } : State), rfl, by decide +kernel, by decide +kernel, by decide +kernel, by decide +kernel⟩,
    ⟨({ charted [(29, [1])] with aux := { State.reset.aux with queues := [(10, { AuxQueue.reset with running := true, source := 2, n := 16, ticks := 16 })] } } : State), 0, paceSpend 10 ({ charted [(29, [1])] with aux := { State.reset.aux with queues := [(10, { AuxQueue.reset with running := true, source := 2, n := 16, ticks := 16 })] } } : State), rfl, by decide +kernel, by decide +kernel, by decide +kernel, by decide +kernel, by decide +kernel, by decide +kernel⟩,
    ⟨({ charted [(29, [1])] with aux := { State.reset.aux with queues := [(10, { AuxQueue.reset with running := true, source := 2, n := 16, ticks := 16, underrunPosted := true })] } } : State), 0, paceSpend 10 ({ charted [(29, [1])] with aux := { State.reset.aux with queues := [(10, { AuxQueue.reset with running := true, source := 2, n := 16, ticks := 16, underrunPosted := true })] } } : State), rfl, by decide +kernel, by decide +kernel, by decide +kernel, by decide +kernel, by decide +kernel, by decide +kernel⟩,
    ⟨({ charted [(29, [1])] with aux := { State.reset.aux with queues := [(10, { AuxQueue.reset with running := true, source := 2, n := 16, ticks := 16 })], chans := [(10, { Aux.reset with pendRange := some 1 })] } } : State), 0, paceSpend 10 ({ charted [(29, [1])] with aux := { State.reset.aux with queues := [(10, { AuxQueue.reset with running := true, source := 2, n := 16, ticks := 16 })], chans := [(10, { Aux.reset with pendRange := some 1 })] } } : State), 1, rfl, by decide +kernel, by decide +kernel, by decide +kernel, by decide +kernel, by decide +kernel⟩,
    ⟨({ charted [(29, [1])] with aux := { State.reset.aux with chans := [(3, { Aux.reset with pendRange := some 1 })] } } : State), 3, 1, by decide +kernel⟩,
    ⟨charted [(29, [1])], by decide +kernel⟩,
    ⟨{ charted [(29, [1])] with aux := { State.reset.aux with vauxLow := true } }, by decide +kernel⟩,
    ⟨({ charted [(29, [1])] with aux := { State.reset.aux with vauxLow := true, vauxReset := true, fault := true } } : State), by decide +kernel⟩,
    ⟨{ charted [(29, [1])] with aux := { State.reset.aux with vauxLow := true, vauxReset := true } }, by decide +kernel⟩⟩

theorem witness_MeasureCommandsAndStepsTakeEffect :
    (∃ (o : Issue) (p : List Byte) (s : State), Accepted 0x0C01 o p (measStatusCheck p) s)
    ∧ (∃ (o : Issue) (p : List Byte) (s : State), Accepted 0x0C02 o p (measScanSetCheck o p) s ∧ (s.meas.scan ≠ 1 ∨ u8 p 4 ≠ 0 ∨ u32 p 0 = 0 ∨ s.meas.scanWaits = true))
    ∧ (∃ (o : Issue) (p : List Byte) (s : State), Accepted 0x0C02 o p (measScanSetCheck o p) s ∧ s.meas.scan = 1 ∧ u8 p 4 = 0 ∧ u32 p 0 ≠ 0 ∧ s.meas.scanWaits = false)
    ∧ (∃ (o : Issue) (p : List Byte) (s : State), Accepted 0x0C03 o p (measScanControlCheck o p) s ∧ u8 p 0 = 0)
    ∧ (∃ (o : Issue) (p : List Byte) (s : State), Accepted 0x0C03 o p (measScanControlCheck o p) s ∧ u8 p 0 = 1 ∧ s.meas.scan = 2)
    ∧ (∃ (o : Issue) (p : List Byte) (s : State), Accepted 0x0C03 o p (measScanControlCheck o p) s ∧ u8 p 0 = 1 ∧ s.meas.scan ≠ 2 ∧ (s.meas.source ≠ 0 ∨ s.meas.mask = 0 ∨ s.meas.scanWaits = true))
    ∧ (∃ (o : Issue) (p : List Byte) (s : State), Accepted 0x0C03 o p (measScanControlCheck o p) s ∧ u8 p 0 = 1 ∧ s.meas.scan ≠ 2 ∧ s.meas.source = 0 ∧ s.meas.mask ≠ 0 ∧ s.meas.scanWaits = false)
    ∧ (∃ (o : Issue) (p : List Byte) (s : State), Accepted 0x0C03 o p (measScanControlCheck o p) s ∧ u8 p 0 = 2)
    ∧ (∃ (o : Issue) (p : List Byte) (s : State), Accepted 0x0C03 o p (measScanControlCheck o p) s ∧ u8 p 0 = 3)
    ∧ (∃ (o : Issue) (p : List Byte) (s : State), Accepted 0x0C04 o p (measScanReadCheck o p) s)
    ∧ (∃ (o : Issue) (p : List Byte) (s : State), Accepted 0x0C05 o p (measLatestCheck p) s)
    ∧ (∃ (o : Issue) (p : List Byte) (s : State), Accepted 0x0C06 o p (measInjSetCheck o p) s)
    ∧ (∃ (o : Issue) (p : List Byte) (s : State), Accepted 0x0C07 o p (measInjControlCheck o p) s ∧ u8 p 1 = 0 ∧ s.meas.running ≠ some (u8 p 0))
    ∧ (∃ (o : Issue) (p : List Byte) (s : State), Accepted 0x0C07 o p (measInjControlCheck o p) s ∧ u8 p 1 = 0 ∧ s.meas.running = some (u8 p 0))
    ∧ (∃ (o : Issue) (p : List Byte) (s : State), Accepted 0x0C07 o p (measInjControlCheck o p) s ∧ u8 p 1 = 1)
    ∧ (∃ (o : Issue) (p : List Byte) (s : State), Accepted 0x0C07 o p (measInjControlCheck o p) s ∧ u8 p 1 = 2)
    ∧ (∃ (o : Issue) (p : List Byte) (s : State), Accepted 0x0C08 o p (measInjReadCheck p) s)
    ∧ (∃ (o : Issue) (p : List Byte) (s : State), Accepted 0x0C09 o p (measCalibrateCheck p) s)
    ∧ (∃ (o : Issue) (p : List Byte) (s : State), Accepted 0x0C0A o p (measCalReadCheck p) s)
    ∧ (∃ (s : State) (c : Fin 2) (q : Conversion) (code trim code2 trim2 n : Int) (off : Nat) (r : _), (sarGet s c.val).busy = some q ∧ q.source < 6 ∧ tblWf noRecord s.meas.latest = true ∧ n = sarCodeOf q.channel (readbackCode s q.channel code) ∧ r = sarRecord s c.val (injMark q s).1 n (sarValue (sarGet s c.val) q.channel n trim) off)
    ∧ (∃ (s : State) (c : Fin 2) (j : Fin 4) (q : Conversion) (code trim code2 trim2 n : Int) (off : Nat) (r : _), (sarGet s c.val).busy = some q ∧ q.source = 2 + j.val ∧ tblWf Inj.reset s.meas.injs = true ∧ s.meas.running = some j.val ∧ n = sarCodeOf q.channel (readbackCode s q.channel code) ∧ r = sarRecord s c.val { q with overrun := (injGet s j.val).overrun } n (sarValue (sarGet s c.val) q.channel n trim) off)
    ∧ (∃ (s : State) (q q2 : Conversion) (code trim code2 trim2 : Int) (off : Nat), s.meas.ma.busy = some q ∧ s.meas.mb.busy = some q2 ∧ q.source = 6 ∧ q2.source = 6 ∧ q.channel ≠ q2.channel ∧ tblWf noRecord s.meas.latest = true)
    ∧ (∃ (s : State) (k : Fin 8), sarAlive s = true ∧ s.meas.scan ≠ 0 ∧ s.meas.source = k.val ∧ k ≠ 0 ∧ k ≠ 7 ∧ triggerRuns s k.val = true ∧ s.meas.scan = 2)
    ∧ (∃ (s : State) (k : Fin 8), sarAlive s = true ∧ s.meas.scan ≠ 0 ∧ s.meas.source = k.val ∧ k ≠ 0 ∧ k ≠ 7 ∧ triggerRuns s k.val = true ∧ s.meas.scan ≠ 2 ∧ s.meas.sysKind ≠ 0 ∧ s.meas.scanWaits = true)
    ∧ (∃ (s : State) (k : Fin 8), sarAlive s = true ∧ s.meas.scan ≠ 0 ∧ s.meas.source = k.val ∧ k ≠ 0 ∧ k ≠ 7 ∧ triggerRuns s k.val = true ∧ s.meas.scan ≠ 2 ∧ s.meas.sysKind ≠ 0 ∧ s.meas.scanWaits = false)
    ∧ (∃ (s : State) (k : Fin 8), sarAlive s = true ∧ s.meas.scan ≠ 0 ∧ s.meas.source = k.val ∧ k ≠ 0 ∧ k ≠ 7 ∧ triggerRuns s k.val = true ∧ s.meas.scan ≠ 2 ∧ s.meas.sysKind = 0)
    ∧ (∃ (s : State) (j : Fin 4), sarAlive s = true ∧ (injGet s j.val).armed = true ∧ (injGet s j.val).source ≠ 7 ∧ triggerRuns s (injGet s j.val).source = true ∧ s.meas.running = none ∧ (injGet s j.val).channels ≠ [] ∧ s.meas.ma.calRunning = false ∧ s.meas.mb.calRunning = false)
    ∧ (∃ (s : State) (j : Fin 4), sarAlive s = true ∧ (injGet s j.val).armed = true ∧ (injGet s j.val).source ≠ 7 ∧ triggerRuns s (injGet s j.val).source = true ∧ s.meas.running = none ∧ (injGet s j.val).channels ≠ [] ∧ s.meas.ma.calRunning = true ∧ s.meas.ma.restarts < 16 ∧ s.meas.mb.calRunning = false)
    ∧ (∃ (s : State) (j : Fin 4), sarAlive s = true ∧ (injGet s j.val).armed = true ∧ (injGet s j.val).source ≠ 7 ∧ triggerRuns s (injGet s j.val).source = true ∧ s.meas.running = none ∧ (injGet s j.val).channels = [])
    ∧ (∃ (s : State) (j : Fin 4) (k : _), sarAlive s = true ∧ (injGet s j.val).armed = true ∧ (injGet s j.val).source ≠ 7 ∧ triggerRuns s (injGet s j.val).source = true ∧ s.meas.running = some k)
    ∧ (∃ (s : State) (rising : Bool), sarAlive s = true ∧ (∀ j < 4, (injGet s j).armed = false) ∧ s.meas.scan ≠ 0 ∧ s.meas.source = (if rising then 2 else 3))
    ∧ (∃ (s : State) (rising : Bool) (j : Fin 4), sarAlive s = true ∧ (∀ k < 4, k ≠ j.val → (injGet s k).armed = false) ∧ (injGet s j.val).armed = true ∧ (injGet s j.val).source = (if rising then 2 else 3) ∧ s.meas.scan = 0)
    ∧ (∃ (s : State) (rising : Bool), (∀ j < 4, (injGet s j).armed = true → (injGet s j).source ≠ (if rising then 2 else 3)) ∧ (s.meas.scan = 0 ∨ s.meas.source ≠ (if rising then 2 else 3)))
    ∧ (∃ (s : State), pairedRuns s = true ∧ s.meas.pairs = [] ∧ sourceBusy s 6 = false)
    ∧ (∃ (s : State), pairedRuns s = true ∧ (s.meas.pairs ≠ [] ∨ sourceBusy s 6 = true))
    ∧ (∃ (s : State), pairedRuns s = false)
    ∧ (∃ (s : State) (q : Fin 7), sarAlive s = true ∧ systemDue s q.val = true)
    ∧ (∃ (s : State), sarAlive s = true ∧ s.meas.plausCheck = true ∧ -24 ≤ s.meas.plausDiff ∧ s.meas.plausDiff ≤ 24)
    ∧ (∃ (s : State), sarAlive s = true ∧ s.meas.plausCheck = true ∧ (s.meas.plausDiff < -24 ∨ 24 < s.meas.plausDiff) ∧ s.meas.plausFails < 2)
    ∧ (∃ (s : State), sarAlive s = true ∧ s.meas.plausCheck = true ∧ (s.meas.plausDiff < -24 ∨ 24 < s.meas.plausDiff) ∧ 2 ≤ s.meas.plausFails)
    ∧ (∃ (s : State) (c : Fin 2), sarAlive s = true ∧ s.meas.ma.calRunning = false ∧ s.meas.mb.calRunning = false ∧ s.meas.running = none ∧ s.meas.pairs = [] ∧ (sarGet s c.val).busy = none)
    ∧ (∃ (s : State) (c : Fin 2) (off g : Int), (sarGet s c.val).calRunning = true ∧ (sarGet s c.val).busy = none ∧ s.meas.pairs = [] ∧ calCause off g = 0)
    ∧ (∃ (s : State) (c : Fin 2) (off g : Int), (sarGet s c.val).calRunning = true ∧ (sarGet s c.val).busy = none ∧ s.meas.pairs = [] ∧ calCause off g ≠ 0)
    ∧ (∃ (s : State), bit (u8 (measEntry s) 0) 0 = true ∧ s.meas.trackerLocked = false ∧ sarFailed s 0 = false ∧ sarFailed s 1 = false) :=
  ⟨⟨h0, [0, 0, 0, 0], active, by unfold Accepted Taken; decide +kernel⟩,
    ⟨h0, [3, 0, 0, 0, 1, 0, 0, 0, 10, 0, 0, 0], charted [(29, [1])], by unfold Accepted Taken; decide +kernel⟩,
    ⟨h0, [3, 0, 0, 0, 0, 0, 0, 0, 10, 0, 0, 0], ({ charted [(29, [1])] with meas := { State.reset.meas with scan := 1 } } : State), by unfold Accepted Taken; decide +kernel⟩,
    ⟨h0, [0, 0, 0, 0], charted [(29, [1])], by unfold Accepted Taken; decide +kernel⟩,
    ⟨h0, [1, 0, 0, 0], ({ charted [(29, [1])] with meas := { State.reset.meas with scan := 2 } } : State), by unfold Accepted Taken; decide +kernel⟩,
    ⟨h0, [1, 0, 0, 0], ({ charted [(29, [1])] with meas := { State.reset.meas with source := 2 } } : State), by unfold Accepted Taken; decide +kernel⟩,
    ⟨h0, [1, 0, 0, 0], { charted [(29, [1])] with meas := { State.reset.meas with mask := 6, source := 0 } }, by unfold Accepted Taken; decide +kernel⟩,
    ⟨h0, [2, 0, 0, 0], charted [(29, [1])], by unfold Accepted Taken; decide +kernel⟩,
    ⟨h0, [3, 0, 0, 0], charted [(29, [1])], by unfold Accepted Taken; decide +kernel⟩,
    ⟨h0, [5, 0, 0, 0], charted [(29, [1])], by unfold Accepted Taken; decide +kernel⟩,
    ⟨h0, [30, 2, 0, 0], active, by unfold Accepted Taken; decide +kernel⟩,
    ⟨h0, [1, 0, 2, 2, 3, 4, 0, 0, 1, 0, 0, 0], charted [(29, [1])], by unfold Accepted Taken; decide +kernel⟩,
    ⟨h0, [1, 0, 0, 0], { charted [(29, [1])] with meas := { State.reset.meas with injs := [(1, { Inj.reset with armed := true })] } }, by unfold Accepted Taken; decide +kernel⟩,
    ⟨h0, [1, 0, 0, 0], ({ charted [(29, [1])] with meas := { State.reset.meas with injs := [(1, { Inj.reset with armed := true })], running := some 1 } } : State), by unfold Accepted Taken; decide +kernel⟩,
    ⟨h0, [1, 1, 0, 0], charted [(29, [1])], by unfold Accepted Taken; decide +kernel⟩,
    ⟨h0, [1, 2, 0, 0], { charted [(29, [1])] with meas := { State.reset.meas with injs := [(1, { Inj.reset with armed := true })] } }, by unfold Accepted Taken; decide +kernel⟩,
    ⟨h0, [1, 0, 0, 0], active, by unfold Accepted Taken; decide +kernel⟩,
    ⟨h0, [3, 0, 0, 0], active, by unfold Accepted Taken; decide +kernel⟩,
    ⟨h0, [1, 0, 0, 0], active, by unfold Accepted Taken; decide +kernel⟩,
    ⟨({ charted [(29, [1])] with meas := { State.reset.meas with ma := { Sar.reset with busy := some { source := 1, channel := 3, index := 0, stamp := 4, stopped := false, overrun := false, live := true } } } } : State), 0, { source := 1, channel := 3, index := 0, stamp := 4, stopped := false, overrun := false, live := true }, 5, 1, 5, 1, sarCodeOf 3 (readbackCode ({ charted [(29, [1])] with meas := { State.reset.meas with ma := { Sar.reset with busy := some { source := 1, channel := 3, index := 0, stamp := 4, stopped := false, overrun := false, live := true } } } } : State) 3 5), 0, sarRecord ({ charted [(29, [1])] with meas := { State.reset.meas with ma := { Sar.reset with busy := some { source := 1, channel := 3, index := 0, stamp := 4, stopped := false, overrun := false, live := true } } } } : State) 0 (injMark { source := 1, channel := 3, index := 0, stamp := 4, stopped := false, overrun := false, live := true } ({ charted [(29, [1])] with meas := { State.reset.meas with ma := { Sar.reset with busy := some { source := 1, channel := 3, index := 0, stamp := 4, stopped := false, overrun := false, live := true } } } } : State)).1 (sarCodeOf 3 (readbackCode ({ charted [(29, [1])] with meas := { State.reset.meas with ma := { Sar.reset with busy := some { source := 1, channel := 3, index := 0, stamp := 4, stopped := false, overrun := false, live := true } } } } : State) 3 5)) (sarValue (sarGet ({ charted [(29, [1])] with meas := { State.reset.meas with ma := { Sar.reset with busy := some { source := 1, channel := 3, index := 0, stamp := 4, stopped := false, overrun := false, live := true } } } } : State) 0) 3 (sarCodeOf 3 (readbackCode ({ charted [(29, [1])] with meas := { State.reset.meas with ma := { Sar.reset with busy := some { source := 1, channel := 3, index := 0, stamp := 4, stopped := false, overrun := false, live := true } } } } : State) 3 5)) 1) 0, by decide +kernel, by decide +kernel, by decide +kernel, rfl, rfl⟩,
    ⟨({ charted [(29, [1])] with meas := { State.reset.meas with running := some 1, ma := { Sar.reset with busy := some { source := 3, channel := 3, index := 0, stamp := 4, stopped := false, overrun := false, live := true } } } } : State), 0, 1, { source := 3, channel := 3, index := 0, stamp := 4, stopped := false, overrun := false, live := true }, 5, 1, 5, 1, sarCodeOf 3 (readbackCode ({ charted [(29, [1])] with meas := { State.reset.meas with running := some 1, ma := { Sar.reset with busy := some { source := 3, channel := 3, index := 0, stamp := 4, stopped := false, overrun := false, live := true } } } } : State) 3 5), 0, sarRecord ({ charted [(29, [1])] with meas := { State.reset.meas with running := some 1, ma := { Sar.reset with busy := some { source := 3, channel := 3, index := 0, stamp := 4, stopped := false, overrun := false, live := true } } } } : State) 0 { ({ source := 3, channel := 3, index := 0, stamp := 4, stopped := false, overrun := false, live := true } : Conversion) with overrun := (injGet ({ charted [(29, [1])] with meas := { State.reset.meas with running := some 1, ma := { Sar.reset with busy := some { source := 3, channel := 3, index := 0, stamp := 4, stopped := false, overrun := false, live := true } } } } : State) 1).overrun } (sarCodeOf 3 (readbackCode ({ charted [(29, [1])] with meas := { State.reset.meas with running := some 1, ma := { Sar.reset with busy := some { source := 3, channel := 3, index := 0, stamp := 4, stopped := false, overrun := false, live := true } } } } : State) 3 5)) (sarValue (sarGet ({ charted [(29, [1])] with meas := { State.reset.meas with running := some 1, ma := { Sar.reset with busy := some { source := 3, channel := 3, index := 0, stamp := 4, stopped := false, overrun := false, live := true } } } } : State) 0) 3 (sarCodeOf 3 (readbackCode ({ charted [(29, [1])] with meas := { State.reset.meas with running := some 1, ma := { Sar.reset with busy := some { source := 3, channel := 3, index := 0, stamp := 4, stopped := false, overrun := false, live := true } } } } : State) 3 5)) 1) 0, by decide +kernel, by decide +kernel, by decide +kernel, by decide +kernel, rfl, rfl⟩,
    ⟨({ charted [(29, [1])] with meas := { State.reset.meas with ma := { Sar.reset with busy := some { source := 6, channel := 3, index := 0, stamp := 4, stopped := false, overrun := false, live := true } }, mb := { Sar.reset with busy := some { source := 6, channel := 4, index := 0, stamp := 4, stopped := false, overrun := false, live := true } } } } : State), { source := 6, channel := 3, index := 0, stamp := 4, stopped := false, overrun := false, live := true }, { source := 6, channel := 4, index := 0, stamp := 4, stopped := false, overrun := false, live := true }, 5, 1, 5, 1, 0, by decide +kernel⟩,
    ⟨{ charted [(29, [1])] with meas := { State.reset.meas with scan := 2, source := 2 } }, 2, by decide +kernel⟩,
    ⟨({ charted [(29, [1])] with meas := { State.reset.meas with scan := 1, source := 2, sysKind := 1, scanWaits := true } } : State), 2, by decide +kernel⟩,
    ⟨({ charted [(29, [1])] with meas := { State.reset.meas with scan := 1, source := 2, sysKind := 1 } } : State), 2, by decide +kernel⟩,
    ⟨({ charted [(29, [1])] with meas := { State.reset.meas with scan := 1, source := 2 } } : State), 2, by decide +kernel⟩,
    ⟨({ charted [(29, [1])] with meas := { State.reset.meas with injs := [(1, { Inj.reset with armed := true, source := 2, channels := [3] })] } } : State), 1, by decide +kernel⟩,
    ⟨({ charted [(29, [1])] with meas := { State.reset.meas with injs := [(1, { Inj.reset with armed := true, source := 2, channels := [3] })], ma := { Sar.reset with calRunning := true } } } : State), 1, by decide +kernel⟩,
    ⟨({ charted [(29, [1])] with meas := { State.reset.meas with injs := [(1, { Inj.reset with armed := true, source := 2 })] } } : State), 1, by decide +kernel⟩,
    ⟨{ charted [(29, [1])] with meas := { State.reset.meas with injs := [(1, { Inj.reset with armed := true, source := 2 })], running := some 0 } }, 1, 0, by decide +kernel⟩,
    ⟨{ charted [(29, [1])] with meas := { State.reset.meas with scan := 1, source := 2 } }, true, by decide +kernel⟩,
    ⟨({ charted [(29, [1])] with meas := { State.reset.meas with injs := [(1, { Inj.reset with armed := true, source := 2 })] } } : State), true, 1, by decide +kernel⟩,
    ⟨charted [(29, [1])], true, by decide +kernel⟩,
    ⟨charted [(29, [1])], by decide +kernel⟩,
    ⟨({ charted [(29, [1])] with meas := { State.reset.meas with pairs := [1] } } : State), by decide +kernel⟩,
    ⟨({ charted [(29, [1])] with pwr := { PowerState.reset with dev := .sleep } } : State), by decide +kernel⟩,
    ⟨charted [(29, [1])], 0, by decide +kernel⟩,
    ⟨({ charted [(29, [1])] with meas := { State.reset.meas with plausCheck := true, plausDiff := 5 } } : State), by decide +kernel⟩,
    ⟨({ charted [(29, [1])] with meas := { State.reset.meas with plausCheck := true, plausDiff := 25 } } : State), by decide +kernel⟩,
    ⟨({ charted [(29, [1])] with meas := { State.reset.meas with plausCheck := true, plausDiff := -25, plausFails := 2 } } : State), by decide +kernel⟩,
    ⟨charted [(29, [1])], 0, by decide +kernel⟩,
    ⟨{ charted [(29, [1])] with meas := { State.reset.meas with ma := { Sar.reset with calRunning := true } } }, 0, 5, 6, by decide +kernel⟩,
    ⟨{ charted [(29, [1])] with meas := { State.reset.meas with ma := { Sar.reset with calRunning := true } } }, 0, 40000, 6, by decide +kernel⟩,
    ⟨{ charted [(29, [1])] with meas := { State.reset.meas with trackerLocked := false } }, by decide +kernel⟩⟩

theorem witness_PowerStepsTakeEffect :
    (∃ (o : Issue) (p : List Byte) (s : State) (house : Nat → Option Int) (vcore dvdd avdd vin vaux t20 : Int), Accepted 0x0D01 o p noCheck s ∧ (∀ ch, house ch = (s.meas.house.find? (fun e => e.1 == ch)).map (·.2.value)) ∧ house 25 = some vcore ∧ house 24 = some dvdd ∧ house 26 = some avdd ∧ house 27 = some vin ∧ house 23 = some vaux ∧ latestValue s 20 = some t20)
    ∧ (∃ (o : Issue) (p : List Byte) (s : State), Accepted 0x0D02 o p (powerStateSetCheck p) s ∧ u8 p 0 = devCode s.pwr.dev)
    ∧ (∃ (o : Issue) (p : List Byte) (s : State) (w : _), Accepted 0x0D02 o p (powerStateSetCheck p) s ∧ u8 p 0 ≠ devCode s.pwr.dev ∧ w = pwrMod (takeLog s) (fun q => { q with transition := some { target := u8 p 0, waiter := waiterOf o s, loads := s.cs.loads.length + flag s.cs.load.isSome, swaps := s.cs.swapCount, muting := false } }))
    ∧ (∃ (s : State) (rail : Fin 2), (s.pwr.dev = .active ∨ s.pwr.dev = .doze ∨ s.pwr.dev = .test ∨ s.pwr.dev = .recovery) ∧ s.pwr.shelter = false)
    ∧ (∃ (s : State) (rail : Fin 2), supervised s = true ∧ ((s.pwr.dev = .active ∨ s.pwr.dev = .doze ∨ s.pwr.dev = .test ∨ s.pwr.dev = .recovery) → s.pwr.shelter = true))
    ∧ (∃ (s : State), supervised s = true ∧ s.pwr.warnAvdd = true ∧ s.pwr.warnVin = true)
    ∧ (∃ (s : State) (rail : Fin 2), supervised s = true ∧ (if rail = 0 then s.pwr.warnAvdd = true ∧ s.pwr.warnVin = false else s.pwr.warnVin = true ∧ s.pwr.warnAvdd = false))
    ∧ (∃ (s : State) (rail : Fin 2), (if rail = 0 then s.pwr.warnAvdd = false else s.pwr.warnVin = false))
    ∧ (∃ (s : State), supervised s = true ∧ (s.pwr.shelter = true ∨ s.pwr.warnAvdd = true ∨ s.pwr.warnVin = true))
    ∧ (∃ (s : State) (tr : Transition), s.pwr.transition = some tr ∧ (cpRuns s = false ∨ waitOver s tr = false ∨ (tr.muting = true ∧ restReady tr s = false) ∨ (tr.target = 7 ∧ s.pwr.shelter = true)))
    ∧ (∃ (s : State) (tr : Transition), s.pwr.transition = some tr ∧ tr.target = 6 ∧ tr.muting = false ∧ cpRuns s = true ∧ waitOver s tr = true)
    ∧ (∃ (s : State) (tr : Transition), s.pwr.transition = some tr ∧ tr.target = 4 ∧ tr.muting = false ∧ cpRuns s = true ∧ waitOver s tr = true ∧ s.pwr.dev = .active)
    ∧ (∃ (s : State) (tr : Transition), s.pwr.transition = some tr ∧ tr.target = 4 ∧ tr.muting = true ∧ cpRuns s = true ∧ waitOver s tr = true ∧ outputsAtRest s = true)
    ∧ (∃ (s : State) (tr : Transition), s.pwr.transition = some tr ∧ tr.target = 7 ∧ tr.muting = false ∧ cpRuns s = true ∧ waitOver s tr = true ∧ s.pwr.shelter = false ∧ s.pwr.dev = .active)
    ∧ (∃ (s : State) (tr : Transition), s.pwr.transition = some tr ∧ tr.target = 7 ∧ tr.muting = false ∧ cpRuns s = true ∧ s.pwr.shelter = false ∧ s.pwr.dev = .doze)
    ∧ (∃ (s : State) (tr : Transition), s.pwr.transition = some tr ∧ tr.target = 7 ∧ tr.muting = true ∧ cpRuns s = true ∧ restReady tr s = true)
    ∧ (∃ (s : State) (tr : Transition), s.pwr.transition = some tr ∧ tr.target = 3 ∧ tr.muting = false ∧ cpRuns s = true ∧ s.pwr.dev = .doze)
    ∧ (∃ (s : State) (src : Fin 3), s.pwr.dev = .sleep ∧ wakePossible s src.val = false)
    ∧ (∃ (s : State) (src : Fin 3), s.pwr.dev = .sleep ∧ wakePossible s src.val = true)
    ∧ (∃ (s : State) (port : Fin 2) (a : BitVec 7), s.pwr.dev = .sleep ∧ twPowered s port = true ∧ (twGet s port).addr = a)
    ∧ (∃ (s : State) (c : Int), (s.pwr.dev = .active ∨ s.pwr.dev = .doze ∨ s.pwr.dev = .test ∨ s.pwr.dev = .recovery) ∧ 1150 ≤ c ∧ s.pwr.thermalWarn = false)
    ∧ (∃ (s : State) (c : Int), (s.pwr.dev = .active ∨ s.pwr.dev = .doze ∨ s.pwr.dev = .test ∨ s.pwr.dev = .recovery) ∧ c < 1100 ∧ s.pwr.thermalWarn = true)
    ∧ (∃ (s : State) (c : Int), (s.pwr.dev = .active ∨ s.pwr.dev = .doze ∨ s.pwr.dev = .test ∨ s.pwr.dev = .recovery) ∧ 1100 ≤ c ∧ s.pwr.thermalWarn = true)
    ∧ (∃ (s : State) (c : Int), (s.pwr.dev = .active ∨ s.pwr.dev = .doze ∨ s.pwr.dev = .test ∨ s.pwr.dev = .recovery) ∧ c < 1150 ∧ s.pwr.thermalWarn = false)
    ∧ (∃ (s : State) (c : Int), s.pwr.dev = .boot ∧ 1150 ≤ c ∧ s.pwr.thermalWarn = false)
    ∧ (∃ (s : State) (c : Int), s.pwr.dev = .boot ∧ c < 1100 ∧ s.pwr.thermalWarn = true)
    ∧ (∃ (s : State), s.pwr.thermalShut = false ∧ s.pwr.dev ≠ .off ∧ s.pwr.dev ≠ .por ∧ s.pwr.dev ≠ .sleep ∧ tblWf Output.reset s.out.outs = true)
    ∧ (∃ (s : State) (c : Int), s.pwr.thermalShut = true ∧ c < 1200 ∧ tblWf Output.reset s.out.outs = true ∧ s.eng.halted = false)
    ∧ (∃ (s : State) (c : Int), s.pwr.thermalShut = true ∧ c < 1200 ∧ tblWf Output.reset s.out.outs = true ∧ s.eng.halted = true)
    ∧ (∃ (s : State) (c : Int), (s.pwr.thermalShut = false ∨ 1200 ≤ c)) :=
  ⟨⟨h0, [], ({ active with meas := { State.reset.meas with house := [(20, { noRecord with value := 20000 }), (23, { noRecord with value := 23000 }), (24, { noRecord with value := 24000 }), (25, { noRecord with value := 25000 }), (26, { noRecord with value := 26000 }), (27, { noRecord with value := 27000 })], latest := [(20, { noRecord with value := 20000 })] } } : State), (fun ch => (({ active with meas := { State.reset.meas with house := [(20, { noRecord with value := 20000 }), (23, { noRecord with value := 23000 }), (24, { noRecord with value := 24000 }), (25, { noRecord with value := 25000 }), (26, { noRecord with value := 26000 }), (27, { noRecord with value := 27000 })], latest := [(20, { noRecord with value := 20000 })] } } : State).meas.house.find? (fun e => e.1 == ch)).map (·.2.value)), 25000, 24000, 26000, 27000, 23000, 20000, by unfold Accepted Taken; decide +kernel, fun _ => rfl, by decide +kernel, by decide +kernel, by decide +kernel, by decide +kernel, by decide +kernel, by decide +kernel⟩,
    ⟨h0, [3, 0, 0, 0], active, by unfold Accepted Taken; decide +kernel⟩,
    ⟨h0, [4, 0, 0, 0], active, (pwrMod (takeLog active) (fun q => { q with transition := some { target := 4, waiter := waiterOf h0 active, loads := 0, swaps := 0, muting := false } })), by unfold Accepted Taken; decide +kernel, by decide +kernel, rfl⟩,
    ⟨active, 0, by decide +kernel⟩,
    ⟨({ active with pwr := { PowerState.reset with dev := .active, shelter := true } } : State), 0, by decide +kernel⟩,
    ⟨({ active with pwr := { PowerState.reset with dev := .active, shelter := true, warnAvdd := true, warnVin := true } } : State), by decide +kernel⟩,
    ⟨({ active with pwr := { PowerState.reset with dev := .active, shelter := true, warnAvdd := true } } : State), 0, by decide +kernel⟩,
    ⟨active, 0, by decide +kernel⟩,
    ⟨({ active with pwr := { PowerState.reset with dev := .active, shelter := true } } : State), by decide +kernel⟩,
    ⟨({ active with pwr := { PowerState.reset with dev := .active, transition := some { target := 7, waiter := { ctx := .h0, log := 5 }, loads := 0, swaps := 0, muting := false }, shelter := true } } : State), { target := 7, waiter := { ctx := .h0, log := 5 }, loads := 0, swaps := 0, muting := false }, by decide +kernel⟩,
    ⟨{ active with pwr := { PowerState.reset with dev := .active, transition := some { target := 6, waiter := { ctx := .h0, log := 5 }, loads := 0, swaps := 0, muting := false } } }, { target := 6, waiter := { ctx := .h0, log := 5 }, loads := 0, swaps := 0, muting := false }, by decide +kernel⟩,
    ⟨{ active with pwr := { PowerState.reset with dev := .active, transition := some { target := 4, waiter := { ctx := .h0, log := 5 }, loads := 0, swaps := 0, muting := false } } }, { target := 4, waiter := { ctx := .h0, log := 5 }, loads := 0, swaps := 0, muting := false }, by decide +kernel⟩,
    ⟨{ active with pwr := { PowerState.reset with dev := .active, transition := some { target := 4, waiter := { ctx := .h0, log := 5 }, loads := 0, swaps := 0, muting := true } } }, { target := 4, waiter := { ctx := .h0, log := 5 }, loads := 0, swaps := 0, muting := true }, by decide +kernel⟩,
    ⟨({ active with pwr := { PowerState.reset with dev := .active, transition := some { target := 7, waiter := { ctx := .h0, log := 5 }, loads := 0, swaps := 0, muting := false } } } : State), { target := 7, waiter := { ctx := .h0, log := 5 }, loads := 0, swaps := 0, muting := false }, by decide +kernel⟩,
    ⟨({ active with pwr := { PowerState.reset with dev := .doze, transition := some { target := 7, waiter := { ctx := .h0, log := 5 }, loads := 0, swaps := 0, muting := false } } } : State), { target := 7, waiter := { ctx := .h0, log := 5 }, loads := 0, swaps := 0, muting := false }, by decide +kernel⟩,
    ⟨({ active with pwr := { PowerState.reset with dev := .active, transition := some { target := 7, waiter := { ctx := .h0, log := 5 }, loads := 0, swaps := 0, muting := true } } } : State), { target := 7, waiter := { ctx := .h0, log := 5 }, loads := 0, swaps := 0, muting := true }, by decide +kernel⟩,
    ⟨{ active with pwr := { PowerState.reset with dev := .doze, transition := some { target := 3, waiter := { ctx := .h0, log := 5 }, loads := 0, swaps := 0, muting := false } } }, { target := 3, waiter := { ctx := .h0, log := 5 }, loads := 0, swaps := 0, muting := false }, by decide +kernel⟩,
    ⟨{ active with pwr := { PowerState.reset with dev := .sleep } }, 1, by decide +kernel⟩,
    ⟨({ active with pwr := { PowerState.reset with dev := .sleep }, out := { OutputState.reset with jackA := Jack.empty }, tw0 := { TwPort.reset with served := true } } : State), 0, by decide +kernel⟩,
    ⟨({ active with pwr := { PowerState.reset with dev := .sleep }, tw0 := { TwPort.reset with served := true, addr := 0x34 } } : State), 0, 0x34, by decide +kernel⟩,
    ⟨active, 1150, by decide +kernel⟩,
    ⟨{ active with pwr := { PowerState.reset with dev := .active, thermalWarn := true } }, 1000, by decide +kernel⟩,
    ⟨({ active with pwr := { PowerState.reset with dev := .active, thermalWarn := true } } : State), 1100, by decide +kernel⟩,
    ⟨({ active with pwr := { PowerState.reset with dev := .active } } : State), 1149, by decide +kernel⟩,
    ⟨({ active with pwr := { PowerState.reset with dev := .boot } } : State), 1150, by decide +kernel⟩,
    ⟨({ active with pwr := { PowerState.reset with dev := .boot, thermalWarn := true } } : State), 1099, by decide +kernel⟩,
    ⟨active, by decide +kernel⟩,
    ⟨{ active with pwr := { PowerState.reset with dev := .active, thermalShut := true } }, 1100, by decide +kernel⟩,
    ⟨({ active with pwr := { PowerState.reset with dev := .active, thermalShut := true }, eng := { EngineState.reset with halted := true } } : State), 1100, by decide +kernel⟩,
    ⟨active, 1150, by decide +kernel⟩⟩

theorem witness_StartStepsTakeEffect :
    (∃ (s : State) (b u : Bool), u = false)
    ∧ (∃ (s : State) (b u : Bool), b = false)
    ∧ (∃ (s : State) (rail : Fin 2), s.pwr.dev ≠ .off ∧ s.pwr.dev ≠ .por)
    ∧ (∃ (s : State), s.pwr.dev ≠ .off ∧ s.pwr.dev ≠ .por ∧ s.fw.begun = false)
    ∧ (∃ (s : State), s.pwr.dev ∈ [Dev.loader, Dev.harbour, Dev.boot, Dev.active, Dev.doze, Dev.test, Dev.recovery])
    ∧ (∃ (s : State), (s.pwr.dev = .active ∨ s.pwr.dev = .test))
    ∧ (∃ (s : State) (a b : BitVec 2) (c t x y : Bool), s.pwr.resetDue = false ∧ s.pwr.dev = .por)
    ∧ (∃ (s : State) (a b : BitVec 2) (c t x y : Bool), s.pwr.resetDue = true ∧ s.pwr.resetOther = false)
    ∧ (∃ (s : State) (a b : BitVec 2) (c t x y : Bool), s.pwr.resetDue = true ∧ s.pwr.resetOther = true)
    ∧ (∃ (s : State) (a b : BitVec 2) (c t x y : Bool), s.pwr.resetDue = false ∧ s.pwr.dev ≠ .por)
    ∧ (∃ (s : State) (edges : Nat), s.pwr.dev = .loader ∧ s.pwr.refChosen = false)
    ∧ (∃ (s : State), s.pwr.dev = .loader ∧ s.pwr.refChosen = true ∧ 3 ≤ s.pwr.watchdog)
    ∧ (∃ (s : State), s.pwr.dev = .loader ∧ s.pwr.refChosen = true ∧ s.pwr.watchdog < 3 ∧ (s.fw.image.aborted = true ∨ s.fw.image.dlDone = false))
    ∧ (∃ (s : State), s.pwr.dev = .loader ∧ s.pwr.refChosen = true ∧ s.pwr.watchdog < 3 ∧ s.fw.image.aborted = false ∧ s.fw.image.dlDone = true ∧ s.fw.image.verified = true ∧ imageWhole s = false)
    ∧ (∃ (s : State), s.pwr.dev = .loader ∧ s.pwr.refChosen = true ∧ s.pwr.watchdog < 3 ∧ s.fw.image.aborted = false ∧ s.fw.image.dlDone = true ∧ s.fw.image.verified = true ∧ imageWhole s = true ∧ imageSigned s = false)
    ∧ (∃ (s : State), s.pwr.dev = .loader ∧ s.pwr.refChosen = true ∧ s.pwr.watchdog < 3 ∧ s.fw.image.aborted = false ∧ s.fw.image.dlDone = true ∧ s.fw.image.verified = false ∧ (imageWhole s && imageSigned s) = false)
    ∧ (∃ (s : State), s.pwr.dev = .loader ∧ s.pwr.refChosen = true ∧ s.pwr.watchdog < 3 ∧ s.fw.image.aborted = false ∧ s.fw.image.dlDone = true ∧ s.fw.image.verified = false ∧ imageWhole s = true ∧ imageSigned s = true ∧ nvmHeld s = false)
    ∧ (∃ (s : State), s.pwr.dev = .loader ∧ s.pwr.refChosen = true ∧ s.pwr.watchdog < 3 ∧ s.fw.image.aborted = false ∧ s.fw.image.dlDone = true ∧ s.fw.image.verified = false ∧ imageWhole s = true ∧ imageSigned s = true ∧ nvmHeld s = true)
    ∧ (∃ (s : State), s.pwr.dev = .loader ∧ s.pwr.refChosen = true ∧ s.pwr.watchdog < 3 ∧ s.fw.image.aborted = false ∧ s.fw.image.dlDone = true ∧ s.fw.image.verified = true ∧ imageWhole s = true ∧ imageSigned s = true)
    ∧ (∃ (s : State), s.pwr.dev = .boot ∧ s.cs.chart = none ∧ s.cs.missing = false ∧ slotOrder s = [])
    ∧ (∃ (s : State) (a : _), s.pwr.dev = .boot ∧ s.cs.chart = none ∧ s.cs.missing = false ∧ slotOrder s = [a])
    ∧ (∃ (s : State) (a : _) (b : _) (r : _), s.pwr.dev = .boot ∧ s.cs.chart = none ∧ s.cs.missing = false ∧ slotOrder s = a :: b :: r)
    ∧ (∃ (s : State) (ch : Nat), s.pwr.dev = .boot ∧ s.cs.chart = none ∧ s.cs.missing = false ∧ tblWf Capture.reset s.cap.chans = true ∧ ch < 8)
    ∧ (∃ (s : State) (sar : BitVec 2) (fired : Bool) (w : Fin 3) (f : _), s.pwr.dev = .boot ∧ s.pwr.selfTested = false ∧ (s.cs.chart.isSome = true ∨ s.cs.missing = true) ∧ sarsTested s = true ∧ f = maskBy 9 (fun m => if m = 8 then s.cap.reliefArmed && !fired else (capGet s m).armed))
    ∧ (∃ (s : State) (sar : BitVec 2) (fired : Bool) (w : Fin 3), sarsTested s = false)
    ∧ (∃ (s : State) (us : Nat), s.pwr.dev = .boot ∧ (s.cs.chart.isSome = true ∨ s.cs.missing = true) ∧ s.pwr.selfTested = true)
    ∧ (∃ (s : State) (q : Select), s.cs.select = some q ∧ q.phase = 1 ∧ q.relock = true ∧ fabricStates s = true ∧ s.eng.halted = false ∧ s.pwr.thermalShut = false) :=
  ⟨⟨active, true, false, by decide +kernel⟩,
    ⟨active, false, true, by decide +kernel⟩,
    ⟨active, 0, by decide +kernel⟩,
    ⟨{ active with pwr := { PowerState.reset with dev := .boot } }, by decide +kernel⟩,
    ⟨active, by decide +kernel⟩,
    ⟨active, by decide +kernel⟩,
    ⟨{ active with pwr := { PowerState.reset with dev := .por } }, 1, 2, true, true, false, true, by decide +kernel⟩,
    ⟨{ active with pwr := { PowerState.reset with dev := .active, resetDue := true } }, 1, 2, true, true, false, true, by decide +kernel⟩,
    ⟨({ active with pwr := { PowerState.reset with dev := .active, resetDue := true, resetOther := true } } : State), 1, 2, true, true, false, true, by decide +kernel⟩,
    ⟨active, 1, 2, true, true, false, true, by decide +kernel⟩,
    ⟨{ active with pwr := { PowerState.reset with dev := .loader } }, 64, by decide +kernel⟩,
    ⟨{ active with pwr := { PowerState.reset with dev := .loader, refChosen := true, watchdog := 3 } }, by decide +kernel⟩,
    ⟨({ active with pwr := { PowerState.reset with dev := .loader, refChosen := true }, fw := { FwState.reset with image := { FwState.reset.image with aborted := true } } } : State), by decide +kernel⟩,
    ⟨({ active with pwr := { PowerState.reset with dev := .loader, refChosen := true }, fw := { FwState.reset with image := { FwState.reset.image with factory := false, dlDone := true, verified := true } } } : State), by decide +kernel⟩,
    ⟨({ active with pwr := { PowerState.reset with dev := .loader, refChosen := true }, fw := { FwState.reset with image := { FwState.reset.image with factory := false, dlDone := true, verified := true, blocks := [(0, signedHeader)] } } } : State), by decide +kernel, rfl, by decide, rfl, rfl, rfl, signedHeader_whole _ rfl, by decide +kernel⟩,
    ⟨({ active with pwr := { PowerState.reset with dev := .loader, refChosen := true }, fw := { FwState.reset with image := { FwState.reset.image with factory := false, dlDone := true, verified := false } } } : State), by decide +kernel⟩,
    ⟨({ active with pwr := { PowerState.reset with dev := .loader, refChosen := true }, fw := { FwState.reset with image := { FwState.reset.image with factory := true, dlDone := true, verified := false } } } : State), by decide +kernel⟩,
    ⟨({ active with pwr := { PowerState.reset with dev := .loader, refChosen := true, shelter := true }, fw := { FwState.reset with image := { FwState.reset.image with factory := true, dlDone := true, verified := false } } } : State), by decide +kernel⟩,
    ⟨{ active with pwr := { PowerState.reset with dev := .loader, refChosen := true } }, by decide +kernel⟩,
    ⟨{ active with pwr := { PowerState.reset with dev := .boot } }, by decide +kernel⟩,
    ⟨{ active with pwr := { PowerState.reset with dev := .boot }, cs := { ChartState.reset with slotA := { ChartSlot.erased with state := 0x3C, generation := 1 } } }, 0, by decide +kernel⟩,
    ⟨{ active with pwr := { PowerState.reset with dev := .boot }, cs := { ChartState.reset with slotA := { ChartSlot.erased with state := 0x3C, generation := 1 }, slotB := { ChartSlot.erased with state := 0x3C, generation := 2 } } }, 1, 0, [], by decide +kernel⟩,
    ⟨({ active with pwr := { PowerState.reset with dev := .boot } } : State), 3, by decide +kernel⟩,
    ⟨({ charted [] with pwr := { PowerState.reset with dev := .boot }, meas := { State.reset.meas with ma := { Sar.reset with calOnce := true }, mb := { Sar.reset with calOnce := true }, plausOnce := true } } : State), 0, true, 0, 0, by decide +kernel⟩,
    ⟨active, 0, true, 0, by decide +kernel⟩,
    ⟨{ charted [] with pwr := { PowerState.reset with dev := .boot, selfTested := true } }, 45000, by decide +kernel⟩,
    ⟨{ active with cs := { ChartState.reset with select := some { slot := 1, chart := chart, waiter := { ctx := .h0, log := 5 }, phase := 1, relock := true, entity := false, k := 0, n := 0 } } }, { slot := 1, chart := chart, waiter := { ctx := .h0, log := 5 }, phase := 1, relock := true, entity := false, k := 0, n := 0 }, by decide +kernel⟩⟩

theorem witness_HullCommandsAndStepsTakeEffect :
    (∃ (o : Issue) (p : List Byte) (s : State) (si : _) (r : _), Accepted 0x0D03 o p noCheck s ∧ s.cs.chart.isSome = true ∧ s.hull.sis = si :: r)
    ∧ (∃ (o : Issue) (p : List Byte) (s : State), Accepted 0x0D04 o p noCheck s)
    ∧ (∃ (o : Issue) (p : List Byte) (s : State), Accepted 0x0D05 o p (hullReadCheck p) s)
    ∧ (∃ (o : Issue) (p : List Byte) (s : State) (q : _), Accepted 0x0D06 o p noCheck s ∧ q = s.hull.prediction ∧ q.n ≠ 0)
    ∧ (∃ (o : Issue) (p : List Byte) (s : State), Accepted 0x0D07 o p (hullSetHorizonCheck p) s)
    ∧ (∃ (o : Issue) (p : List Byte) (s : State), Accepted 0x0D08 o p noCheck s)
    ∧ (∃ (s : State) (l : List Nat) (a b : Int) (mv ua : Nat), accounts s = true ∧ s.host.absent = false)
    ∧ (∃ (s : State) (l : List Nat) (a b : Int) (mv ua : Nat), (s.pwr.dev = .off ∨ s.pwr.dev = .por ∨ s.pwr.dev = .sleep))
    ∧ (∃ (s : State) (l : List Nat) (a b : Int) (mv ua : Nat), s.pwr.dev ≠ .off ∧ s.pwr.dev ≠ .por ∧ s.pwr.dev ≠ .sleep ∧ (s.host.absent = true ∨ accounts s = false))
    ∧ (∃ (s : State), cpRuns s = true ∧ s.hull.replanDue = true ∧ fabricStates s = true ∧ (s.cs.chart.map (·.hasReduced)).getD false = true ∧ s.cs.reduced = false ∧ s.cs.change = none ∧ s.cs.select = none)
    ∧ (∃ (s : State), (s.hull.replanDue = false ∨ s.cs.reduced = true ∨ (s.cs.chart.map (·.hasReduced)).getD false = false))
    ∧ (∃ (s : State), s.host.absent = false ∧ (accounts s = true ∨ s.pwr.dev = .sleep) ∧ s.hull.sinceDaily < 23)
    ∧ (∃ (s : State), s.host.absent = false ∧ (accounts s = true ∨ s.pwr.dev = .sleep) ∧ s.hull.sinceDaily = 23 ∧ s.hull.sinceWeekly < 6)
    ∧ (∃ (s : State), s.host.absent = false ∧ (accounts s = true ∨ s.pwr.dev = .sleep) ∧ s.hull.sinceDaily = 23 ∧ s.hull.sinceWeekly = 6)
    ∧ (∃ (s : State) (q : _) (u : _), s.hull.predictDue = true ∧ s.host.absent = false ∧ accounts s = true ∧ q = predict s ∧ u = { s with hull := { s.hull with prediction := q, predictDue := false }, free := s.free + 8 }) :=
  ⟨⟨h0, [], ({ (charted []) with hull := { HullState.reset with sis := [[1]] } } : State), [1], [], by unfold Accepted Taken; decide +kernel⟩,
    ⟨h0, [], active, by unfold Accepted Taken; decide +kernel⟩,
    ⟨h0, [0, 1, 0, 0], active, by unfold Accepted Taken; decide +kernel⟩,
    ⟨h0, [], ({ active with hull := { HullState.reset with prediction := { Prediction.noData with n := 5 } } } : State), { Prediction.noData with n := 5 }, by unfold Accepted Taken; decide +kernel⟩,
    ⟨h0, [0xD0, 2, 0, 0], active, by unfold Accepted Taken; decide +kernel⟩,
    ⟨h0, [], active, by unfold Accepted Taken; decide +kernel⟩,
    ⟨active, [1], 5, 6, 7, 8, by decide +kernel⟩,
    ⟨({ active with pwr := { PowerState.reset with dev := .sleep } } : State), [1], 5, 6, 7, 8, by decide +kernel⟩,
    ⟨({ active with host := { hosts with absent := true } } : State), [1], 5, 6, 7, 8, by decide +kernel⟩,
    ⟨({ charted [] with hull := { HullState.reset with replanDue := true }, cs := { (charted []).cs with reduced := false } } : State), by decide +kernel⟩,
    ⟨active, by decide +kernel⟩,
    ⟨active, by decide +kernel⟩,
    ⟨({ active with hull := { HullState.reset with sinceDaily := 23 } } : State), by decide +kernel⟩,
    ⟨({ active with hull := { HullState.reset with sinceDaily := 23, sinceWeekly := 6 } } : State), by decide +kernel⟩,
    ⟨({ active with hull := { HullState.reset with predictDue := true } } : State), (predict ({ active with hull := { HullState.reset with predictDue := true } } : State)), { ({ active with hull := { HullState.reset with predictDue := true } } : State) with hull := { ({ active with hull := { HullState.reset with predictDue := true } } : State).hull with prediction := predict ({ active with hull := { HullState.reset with predictDue := true } } : State), predictDue := false }, free := ({ active with hull := { HullState.reset with predictDue := true } } : State).free + 8 }, rfl, rfl, by decide, rfl, rfl⟩⟩

theorem witness_FirmwareCommandsTakeEffect :
    (∃ (o : Issue) (p : List Byte) (s : State), Accepted 0x0E01 o p noCheck s ∧ s.fw.session.header ≠ [] ∧ s.fw.gangwayOutcome ≠ 0xFF)
    ∧ (∃ (o : Issue) (p : List Byte) (s : State), Accepted 0x0E02 o p (fwBeginCheck o) s)
    ∧ (∃ (o : Issue) (p : List Byte) (s : State), Accepted 0x0E03 o p (fwWriteDataCheck o p) s ∧ completesBlock s p = false)
    ∧ (∃ (o : Issue) (p : List Byte) (s : State), Accepted 0x0E03 o p (fwWriteDataCheck o p) s ∧ completesBlock s p = true ∧ s.fw.session.st = 2 ∧ s.pwr.dev ≠ .harbour)
    ∧ (∃ (o : Issue) (p : List Byte) (s : State) (b : _) (w : _) (st : _), Accepted 0x0E03 o p (fwWriteDataCheck o p) s ∧ completesBlock s p = true ∧ s.fw.session.st = 1 ∧ w = sessMod (takeLog s) (fun q => { q with chunks := tset [] q.chunks (u16 p 0 * 8 + u8 p 2) (bytesAt p 8 512) }) ∧ b = blockChunks w (u16 p 0) ∧ headerCheck (dropChunks (u16 p 0) w) b = some st)
    ∧ (∃ (o : Issue) (p : List Byte) (s : State) (b : _) (w : _), Accepted 0x0E03 o p (fwWriteDataCheck o p) s ∧ completesBlock s p = true ∧ s.fw.session.st = 1 ∧ w = sessMod (takeLog s) (fun q => { q with chunks := tset [] q.chunks (u16 p 0 * 8 + u8 p 2) (bytesAt p 8 512) }) ∧ b = blockChunks w (u16 p 0) ∧ headerCheck (dropChunks (u16 p 0) w) b = none ∧ s.pwr.dev ≠ .harbour)
    ∧ (∃ (o : Issue) (p : List Byte) (s : State) (b : _) (w : _), Accepted 0x0E03 o p (fwWriteDataCheck o p) s ∧ completesBlock s p = true ∧ s.fw.session.st = 1 ∧ w = sessMod (takeLog s) (fun q => { q with chunks := tset [] q.chunks (u16 p 0 * 8 + u8 p 2) (bytesAt p 8 512) }) ∧ b = blockChunks w (u16 p 0) ∧ headerCheck (dropChunks (u16 p 0) w) b = none ∧ s.pwr.dev = .harbour)
    ∧ (∃ (o : Issue) (p : List Byte) (s : State) (b : _), Accepted 0x0E03 o p (fwWriteDataCheck o p) s ∧ completesBlock s p = true ∧ s.fw.session.st = 2 ∧ s.pwr.dev = .harbour ∧ u16 p 0 ≠ 0 ∧ b = blockChunks (sessMod s (fun q => { q with chunks := tset [] q.chunks (u16 p 0 * 8 + u8 p 2) (bytesAt p 8 512) })) (u16 p 0) ∧ crc32c b = blockEntry s.fw.session.header (u16 p 0))
    ∧ (∃ (o : Issue) (p : List Byte) (s : State), Accepted 0x0E04 o p (fwVerifyCheck o) s ∧ s.pwr.dev ≠ .harbour)
    ∧ (∃ (o : Issue) (p : List Byte) (s : State), Accepted 0x0E04 o p (fwVerifyCheck o) s ∧ s.pwr.dev = .harbour)
    ∧ (∃ (o : Issue) (p : List Byte) (s : State), Accepted 0x0E05 o p (fwActivateCheck o) s ∧ s.pwr.dev = .harbour)
    ∧ (∃ (o : Issue) (p : List Byte) (s : State), Accepted 0x0E05 o p (fwActivateCheck o) s ∧ s.pwr.dev ≠ .harbour)
    ∧ (∃ (o : Issue) (p : List Byte) (s : State), Accepted 0x0E06 o p (fwConfirmCheck o) s)
    ∧ (∃ (o : Issue) (p : List Byte) (s : State), Accepted 0x0E07 o p (fwAbortCheck o) s ∧ (s.fw.session.st = 0 ∨ s.fw.session.st = 6))
    ∧ (∃ (o : Issue) (p : List Byte) (s : State), Accepted 0x0E07 o p (fwAbortCheck o) s ∧ s.fw.session.st = 1)
    ∧ (∃ (o : Issue) (p : List Byte) (s : State), Accepted 0x0E07 o p (fwAbortCheck o) s ∧ 2 ≤ s.fw.session.st ∧ s.fw.session.st ≠ 6)
    ∧ (∃ (o : Issue) (p : List Byte) (s : State), Accepted 0x0E07 o p (fwAbortCheck o) s ∧ (s.fw.session.st = 2 ∨ s.fw.session.st = 3 ∨ s.fw.session.st = 5) ∧ s.fw.session.jobs = [] ∧ s.fw.activate = none)
    ∧ (∃ (o : Issue) (p : List Byte) (s : State), Accepted 0x0E08 o p noCheck s ∧ s.fw.setCopy ≠ 0xFF)
    ∧ (∃ (o : Issue) (p : List Byte) (s : State), Accepted 0x0E09 o p (settingsSaveCheck o p) s)
    ∧ (∃ (o : Issue) (p : List Byte) (s : State), Accepted 0x0E0A o p (settingsDiscardOldCheck o) s)
    ∧ (∃ (o : Issue) (p : List Byte) (s : State), Accepted 0x0E0B o p (settingsEraseCheck o) s)
    ∧ (∃ (o : Issue) (p : List Byte) (s : State), Accepted 0x0E0C o p (setAutoConfirmCheck o p) s)
    ∧ (∃ (o : Issue) (p : List Byte) (s : State), Accepted 0x0E0D o p noCheck s)
    ∧ (∃ (o : Issue) (p : List Byte) (s : State), Accepted 0x0E0E o p (chartKeyProgramCheck p) s) :=
  ⟨⟨h0, [], ({ ({ active with host := shared } : State) with fw := { FwState.reset with session := { Session.idle with header := [1] }, gangwayOutcome := 1 }, pwr := { PowerState.reset with dev := .active } } : State), by unfold Accepted Taken; decide +kernel⟩,
    ⟨h0, [], { active with host := shared }, by unfold Accepted Taken; decide +kernel⟩,
    ⟨h0, zeros 520, { ({ active with host := shared } : State) with fw := { FwState.reset with session := { Session.idle with st := 1, owner := some .h0 } } }, by unfold Accepted Taken; decide +kernel⟩,
    ⟨h0, zeros 520, { ({ active with host := shared } : State) with fw := { FwState.reset with session := { Session.idle with st := 2, owner := some .h0, header := zeros 16 ++ [1, 0], chunks := (List.range 8).map (fun i => (i, [1])) } } }, by unfold Accepted Taken; decide +kernel⟩,
    ⟨h0, (zeros 520), ({ ({ active with host := shared } : State) with fw := { FwState.reset with session := { Session.idle with st := 1, owner := some .h0, chunks := signedChunks } }, pwr := { PowerState.reset with dev := .active } } : State), (blockChunks (sessMod (takeLog ({ ({ active with host := shared } : State) with fw := { FwState.reset with session := { Session.idle with st := 1, owner := some .h0, chunks := signedChunks } }, pwr := { PowerState.reset with dev := .active } } : State)) (fun q => { q with chunks := tset [] q.chunks (u16 (zeros 520) 0 * 8 + u8 (zeros 520) 2) (bytesAt (zeros 520) 8 512) })) (u16 (zeros 520) 0)), (sessMod (takeLog ({ ({ active with host := shared } : State) with fw := { FwState.reset with session := { Session.idle with st := 1, owner := some .h0, chunks := signedChunks } }, pwr := { PowerState.reset with dev := .active } } : State)) (fun q => { q with chunks := tset [] q.chunks (u16 (zeros 520) 0 * 8 + u8 (zeros 520) 2) (bytesAt (zeros 520) 8 512) })), stBadParam, by unfold Accepted Taken; decide +kernel, by decide +kernel, rfl, rfl, rfl, by decide +kernel⟩,
    ⟨h0, (zeros 8 ++ signedFirst), ({ ({ active with host := shared } : State) with fw := { FwState.reset with session := { Session.idle with st := 1, owner := some .h0, chunks := signedChunks }, keys := [(0, signedKey)] }, pwr := { PowerState.reset with dev := .active } } : State), signedHeader, (sessMod (takeLog ({ ({ active with host := shared } : State) with fw := { FwState.reset with session := { Session.idle with st := 1, owner := some .h0, chunks := signedChunks }, keys := [(0, signedKey)] }, pwr := { PowerState.reset with dev := .active } } : State)) (fun q => { q with chunks := tset [] q.chunks (u16 (zeros 8 ++ signedFirst) 0 * 8 + u8 (zeros 8 ++ signedFirst) 2) (bytesAt (zeros 8 ++ signedFirst) 8 512) })), by unfold Accepted Taken; decide +kernel, by decide +kernel, rfl, rfl, by decide +kernel, signedHeader_accepted _ rfl rfl rfl rfl, by decide⟩,
    ⟨h0, (zeros 8 ++ signedFirst), ({ ({ active with host := shared } : State) with fw := { FwState.reset with session := { Session.idle with st := 1, owner := some .h0, chunks := signedChunks }, keys := [(0, signedKey)] }, pwr := { PowerState.reset with dev := .harbour } } : State), signedHeader, (sessMod (takeLog ({ ({ active with host := shared } : State) with fw := { FwState.reset with session := { Session.idle with st := 1, owner := some .h0, chunks := signedChunks }, keys := [(0, signedKey)] }, pwr := { PowerState.reset with dev := .harbour } } : State)) (fun q => { q with chunks := tset [] q.chunks (u16 (zeros 8 ++ signedFirst) 0 * 8 + u8 (zeros 8 ++ signedFirst) 2) (bytesAt (zeros 8 ++ signedFirst) 8 512) })), by unfold Accepted Taken; decide +kernel, by decide +kernel, rfl, rfl, by decide +kernel, signedHeader_accepted _ rfl rfl rfl rfl, rfl⟩,
    ⟨h0, ([1, 0, 7, 0, 0, 0, 0, 0] ++ zeros 512), ({ ({ active with host := shared } : State) with fw := { FwState.reset with session := { Session.idle with st := 2, owner := some .h0, header := zeros 16 ++ [2, 0] ++ zeros 114 ++ [0xFF, 0xFF, 0xFF, 0xFF], chunks := [(8, [0xFF, 0xFF, 0xFF, 0xFF]), (9, [0]), (10, [0]), (11, [0]), (12, [0]), (13, [0]), (14, [0])] } }, pwr := { PowerState.reset with dev := .harbour } } : State), ([0xFF, 0xFF, 0xFF, 0xFF] ++ zeros 518), by unfold Accepted Taken; decide +kernel, by decide +kernel, rfl, rfl, by decide, by decide +kernel, by rw [crc_block]; decide +kernel⟩,
    ⟨h0, [], { ({ active with host := shared } : State) with fw := { FwState.reset with session := { Session.idle with st := 3, owner := some .h0 } } }, by unfold Accepted Taken; decide +kernel⟩,
    ⟨h0, [], ({ ({ active with host := shared } : State) with fw := { FwState.reset with session := { Session.idle with st := 3, owner := some .h0 } }, pwr := { PowerState.reset with dev := .harbour } } : State), by unfold Accepted Taken; decide +kernel⟩,
    ⟨h0, [], ({ ({ active with host := shared } : State) with fw := { FwState.reset with session := { Session.idle with st := 5, owner := some .h0 } }, pwr := { PowerState.reset with dev := .harbour } } : State), by unfold Accepted Taken; decide +kernel⟩,
    ⟨h0, [], { ({ active with host := shared } : State) with fw := { FwState.reset with session := { Session.idle with st := 5, owner := some .h0 } } }, by unfold Accepted Taken; decide +kernel⟩,
    ⟨h0, [], { active with host := shared }, by unfold Accepted Taken; decide +kernel⟩,
    ⟨h0, [], { active with host := shared }, by unfold Accepted Taken; decide +kernel⟩,
    ⟨h0, [], { ({ active with host := shared } : State) with fw := { FwState.reset with session := { Session.idle with st := 1, owner := some .h0 } } }, by unfold Accepted Taken; decide +kernel⟩,
    ⟨h0, [], ({ ({ active with host := shared } : State) with fw := { FwState.reset with session := { Session.idle with st := 3, owner := some .h0 } }, pwr := { PowerState.reset with dev := .active } } : State), by unfold Accepted Taken; decide +kernel⟩,
    ⟨h0, [], { ({ active with host := shared } : State) with fw := { FwState.reset with session := { Session.idle with st := 3, owner := some .h0 } } }, by unfold Accepted Taken; decide +kernel⟩,
    ⟨h0, [], ({ active with fw := { FwState.reset with setCopy := 1 } } : State), by unfold Accepted Taken; decide +kernel⟩,
    ⟨h0, [3, 0, 0, 0], { active with host := shared }, by unfold Accepted Taken; decide +kernel⟩,
    ⟨h0, [], { ({ active with host := shared } : State) with fw := { FwState.reset with setState := 2 } }, by unfold Accepted Taken; decide +kernel⟩,
    ⟨h0, [], { active with host := shared }, by unfold Accepted Taken; decide +kernel⟩,
    ⟨h0, [1, 0, 0, 0], { active with host := shared }, by unfold Accepted Taken; decide +kernel⟩,
    ⟨h0, [], active, by unfold Accepted Taken; decide +kernel⟩,
    ⟨h0, [0x6B, 0x17, 0xD1, 0xF2, 0xE1, 0x2C, 0x42, 0x47, 0xF8, 0xBC, 0xE6, 0xE5, 0x63, 0xA4, 0x40, 0xF2, 0x77, 0x03, 0x7D, 0x81, 0x2D, 0xEB, 0x33, 0xA0, 0xF4, 0xA1, 0x39, 0x45, 0xD8, 0x98, 0xC2, 0x96, 0x4F, 0xE3, 0x42, 0xE2, 0xFE, 0x1A, 0x7F, 0x9B, 0x8E, 0xE7, 0xEB, 0x4A, 0x7C, 0x0F, 0x9E, 0x16, 0x2B, 0xCE, 0x33, 0x57, 0x6B, 0x31, 0x5E, 0xCE, 0xCB, 0xB6, 0x40, 0x68, 0x37, 0xBF, 0x51, 0xF5], active, by unfold Accepted Taken; decide +kernel⟩⟩

theorem witness_NvmAndActivationStepsTakeEffect :
    (∃ (s : State) (k : _) (st : _) (rest : _) (j : _) (r : _), s.fw.begun = true ∧ s.fw.steps = .erase k :: st :: rest ∧ s.fw.jobs = j :: r)
    ∧ (∃ (s : State) (k : _) (j : _) (r : _) (ok : Bool), s.fw.begun = true ∧ s.fw.steps = [.erase k] ∧ s.fw.jobs = j :: r)
    ∧ (∃ (s : State) (k : _) (rest : _) (j : _) (r : _), s.fw.begun = true ∧ s.fw.steps = .erase k :: rest ∧ s.fw.jobs = j :: r)
    ∧ (∃ (s : State) (st : _) (rest : _) (j : _) (r : _), s.fw.begun = true ∧ s.fw.steps = .row :: st :: rest ∧ s.fw.jobs = j :: r)
    ∧ (∃ (s : State) (j : _) (r : _) (ok : Bool), s.fw.begun = true ∧ s.fw.steps = [.row] ∧ s.fw.jobs = j :: r)
    ∧ (∃ (s : State) (w : _) (items : _) (r : _), s.fw.begun = true ∧ s.fw.steps = [.save] ∧ s.fw.jobs = .settingsSave w items :: r)
    ∧ (∃ (s : State) (w : _) (log : _) (st : _) (rest : _) (r : _), s.fw.begun = true ∧ s.fw.steps = .save :: st :: rest ∧ s.fw.jobs = .confirm w log :: r)
    ∧ (∃ (s : State), s.fw.probation = true)
    ∧ (∃ (s : State) (n : _), (chartSlot s n).state = 0x3C)
    ∧ (∃ (s : State) (r : HullRecord), r.kind = 1)
    ∧ (∃ (s : State) (r : HullRecord), r.kind = 2 ∧ r.whole = true)
    ∧ (∃ (s : State) (r : HullRecord), r.kind = 3)
    ∧ (∃ (s : State) (j : _) (r : _), s.fw.session.jobs = j :: r ∧ nvmHeld s = false ∧ s.fw.session.st = 2 ∧ (∀ k < blockCount s.fw.session.header, k = j.block ∨ k ∈ s.fw.session.written))
    ∧ (∃ (s : State) (j : _) (r : _) (a b : Bool), s.fw.session.jobs = j :: r ∧ nvmHeld s = false)
    ∧ (∃ (s : State) (bad : List Nat), s.fw.session.st = 4 ∧ nvmHeld s = false ∧ failingBlocks s bad = [])
    ∧ (∃ (s : State) (bad : List Nat) (k : _) (r : _), s.fw.session.st = 4 ∧ nvmHeld s = false ∧ failingBlocks s bad = k :: r)
    ∧ (∃ (s : State) (w : Option Waiter) (log : Nat) (e : Bool), s.fw.activate = some (w, log) ∧ s.fw.session.st = 5 ∧ cpRuns s = true ∧ activationClear s = true)
    ∧ (∃ (s : State) (w : Option Waiter) (log : Nat), s.fw.activate = some (w, log) ∧ s.fw.session.st = 5 ∧ cpRuns s = true ∧ activationClear s = false)
    ∧ (∃ (s : State) (g : Gangway) (w : Option Waiter) (log : Nat), s.fw.gangway = some g ∧ s.fw.activate = some (w, log) ∧ s.host.absent = true)
    ∧ (∃ (s : State) (q : Fin 4), bit s.fw.reload q.val = true ∧ safePoint q.val s = true)
    ∧ (∃ (s : State) (q : Fin 4), (bit s.fw.reload q.val = false ∨ safePoint q.val s = false))
    ∧ (∃ (s : State), s.fw.probation = true ∧ cpRuns s = true ∧ (s.pwr.dev = .active ∨ s.pwr.dev = .doze) ∧ s.pwr.shelter = false ∧ s.fw.autoConfirm = true ∧ s.fw.suppressed = false ∧ confirming s = false)
    ∧ (∃ (s : State), s.fw.probation = true ∧ cpRuns s = true ∧ (s.pwr.dev = .active ∨ s.pwr.dev = .doze) ∧ s.pwr.shelter = false ∧ (s.fw.autoConfirm = false ∨ s.fw.suppressed = true ∨ confirming s = true)) :=
  ⟨⟨{ active with fw := { FwState.reset with begun := true, steps := [.erase 3, .row], jobs := [.confirm none 5] } }, 3, .row, [], .confirm none 5, [], by decide +kernel⟩,
    ⟨{ active with fw := { FwState.reset with begun := true, steps := [.erase 3], jobs := [.confirm none 5] } }, 3, .confirm none 5, [], true, by decide +kernel⟩,
    ⟨({ active with fw := { FwState.reset with begun := true, steps := [.erase 3, .row], jobs := [.confirm none 5] } } : State), 3, [.row], .confirm none 5, [], by decide +kernel⟩,
    ⟨({ active with fw := { FwState.reset with begun := true, steps := [.row, .row], jobs := [.confirm none 5] } } : State), .row, [], .confirm none 5, [], by decide +kernel⟩,
    ⟨{ active with fw := { FwState.reset with begun := true, steps := [.row], jobs := [.confirm none 5] } }, .confirm none 5, [], true, by decide +kernel⟩,
    ⟨{ active with fw := { FwState.reset with begun := true, steps := [.save], jobs := [.settingsSave { ctx := .h0, log := 5 } []] } }, { ctx := .h0, log := 5 }, [], [], by decide +kernel⟩,
    ⟨({ active with fw := { FwState.reset with begun := true, steps := [.save, .row], jobs := [.confirm none 5] } } : State), none, 5, .row, [], [], by decide +kernel⟩,
    ⟨({ active with fw := { FwState.reset with probation := true } } : State), by decide +kernel⟩,
    ⟨({ active with cs := { ChartState.reset with slotA := { ChartState.reset.slotA with state := 0x3C } } } : State), 0, by decide +kernel⟩,
    ⟨active, (hullRecord 1), by decide +kernel⟩,
    ⟨active, (hullRecord 2), by decide +kernel⟩,
    ⟨active, (hullRecord 3), by decide +kernel⟩,
    ⟨({ ({ active with host := shared } : State) with fw := { FwState.reset with session := { Session.idle with st := 2, header := zeros 16 ++ [1, 0], jobs := [{ block := 0, bytes := [1], asker := .own }] } }, pwr := { PowerState.reset with dev := .active } } : State), { block := 0, bytes := [1], asker := .own }, [], by decide +kernel⟩,
    ⟨{ ({ active with host := shared } : State) with fw := { FwState.reset with session := { Session.idle with jobs := [{ block := 0, bytes := [1], asker := .own }] } } }, { block := 0, bytes := [1], asker := .own }, [], true, true, by decide +kernel⟩,
    ⟨{ ({ active with host := shared } : State) with fw := { FwState.reset with session := { Session.idle with st := 4 } } }, [], by decide +kernel⟩,
    ⟨{ ({ active with host := shared } : State) with fw := { FwState.reset with session := { Session.idle with st := 4, header := zeros 16 ++ [1, 0] } } }, [0], 0, [], by decide +kernel⟩,
    ⟨{ ({ active with host := shared } : State) with fw := { FwState.reset with session := { Session.idle with st := 5 }, activate := some (some { ctx := .h0, log := 5 }, 5) } }, some { ctx := .h0, log := 5 }, 5, false, by decide +kernel⟩,
    ⟨{ ({ active with host := shared } : State) with fw := { FwState.reset with session := { Session.idle with st := 5 }, activate := some (some { ctx := .h0, log := 5 }, 5), jobs := [.settingsErase { ctx := .h0, log := 5 }] } }, some { ctx := .h0, log := 5 }, 5, by decide +kernel⟩,
    ⟨{ active with host := { hosts with absent := true }, fw := { FwState.reset with activate := some (none, 5), gangway := some { format := 1, log := 5, supervisor := .h0, opens := 1, levels := 0, reduced := false, fromVersion := 0, chartId := 0 } } }, { format := 1, log := 5, supervisor := .h0, opens := 1, levels := 0, reduced := false, fromVersion := 0, chartId := 0 }, none, 5, by decide +kernel⟩,
    ⟨({ active with fw := { FwState.reset with reload := 4 } } : State), 2, by decide +kernel⟩,
    ⟨({ active with fw := { FwState.reset with reload := 0 } } : State), 2, by decide +kernel⟩,
    ⟨({ active with fw := { FwState.reset with probation := true, autoConfirm := true } } : State), by decide +kernel⟩,
    ⟨({ active with fw := { FwState.reset with probation := true, autoConfirm := false } } : State), by decide +kernel⟩⟩

end Sys2Proof.Tests
end

