-- ==== Sys2Proof/WellFormed.lean ====
section
/-! DEFINITION. What makes a command of the block one that can be sent or can come about. The operand types say
most of it; these checks say the rest. The meanings do not rest on them: they are total. -/

namespace Sys2Proof

/-- A packet's payload is at most 1,024 bytes (R24), and at most 255 in a version 1 packet (R43). -/
def payloadFits (o : Issue) (p : List Byte) : Bool := decide (p.length ≤ 1024) && (!o.v1 || decide (p.length ≤ 255))

/-- The command is well formed: its payload fits its packet; a margin interval has the figure of each of the 14
speed monitors (R387); a DFU block is at most 4,096 bytes (R432); a sample or a TDM frame has at most 32 slots
(R225); a vendor fragment is one of at most 3 of at most 500 bytes (R323); a frame has its FCS (R280); a bit-density line
brings the bits that fall in one period (R188); a relay window has at most 2,000 usable periods (R179, R180); a
conversion's code is within the room of a 14-bit code and a correction of as many bits (R353), and its instant at most
22,676 ns from its tick (Table 15-5). -/
def Instr.wellFormed (i : Instr) : Bool :=
  match i with
  | .hello o p => payloadFits o p
  | .bye o p => payloadFits o p
  | .getInfo o p => payloadFits o p
  | .getState o p => payloadFits o p
  | .claim o p => payloadFits o p
  | .release o p => payloadFits o p
  | .forceRelease o p => payloadFits o p
  | .getMoorings o p => payloadFits o p
  | .setSupervisor o p => payloadFits o p
  | .irqAssign o p => payloadFits o p
  | .getLogNumber o p => payloadFits o p
  | .echo o p => payloadFits o p
  | .reset o p => payloadFits o p
  | .eventRead o p => payloadFits o p
  | .eventAck o p => payloadFits o p
  | .eventSubscribe o p => payloadFits o p
  | .eventStatus o p => payloadFits o p
  | .eventFlush o p => payloadFits o p
  | .chartInfo o p => payloadFits o p
  | .overlayActivate o p => payloadFits o p
  | .overlayDeactivate o p => payloadFits o p
  | .overlaySwitch o p => payloadFits o p
  | .overlayStatus o p => payloadFits o p
  | .bindingSet o p => payloadFits o p
  | .bindingList o p => payloadFits o p
  | .setVariant o p => payloadFits o p
  | .chartWriteOpen o p => payloadFits o p
  | .chartWriteData o p => payloadFits o p
  | .chartWriteClose o p => payloadFits o p
  | .chartSelect o p => payloadFits o p
  | .chartRead o p => payloadFits o p
  | .setParam o p => payloadFits o p
  | .setParamBlock o p => payloadFits o p
  | .getParam o p => payloadFits o p
  | .setRampTime o p => payloadFits o p
  | .bqWrite o p => payloadFits o p
  | .bqSelect o p => payloadFits o p
  | .bqRead o p => payloadFits o p
  | .delaySet o p => payloadFits o p
  | .delayRead o p => payloadFits o p
  | .limiterSet o p => payloadFits o p
  | .limiterRead o p => payloadFits o p
  | .protectSet o p => payloadFits o p
  | .protectRead o p => payloadFits o p
  | .meterRead o p => payloadFits o p
  | .clipRead o p => payloadFits o p
  | .engineStatus o p => payloadFits o p
  | .clockStatus o p => payloadFits o p
  | .domainStatus o p => payloadFits o p
  | .domainSetRef o p => payloadFits o p
  | .domainSetRate o p => payloadFits o p
  | .pllDiscipline o p => payloadFits o p
  | .asrcStatus o p => payloadFits o p
  | .convoyStatus o p => payloadFits o p
  | .convoySetMode o p => payloadFits o p
  | .saiStatus o p => payloadFits o p
  | .saiSlotMask o p => payloadFits o p
  | .spdifRxStatus o p => payloadFits o p
  | .spdifCsRead o p => payloadFits o p
  | .spdifCsWrite o p => payloadFits o p
  | .spdifUserRead o p => payloadFits o p
  | .spdifUserWrite o p => payloadFits o p
  | .spdifValiditySet o p => payloadFits o p
  | .usbStatus o p => payloadFits o p
  | .usbConnect o p => payloadFits o p
  | .usbHidSend o p => payloadFits o p
  | .usbRemoteWake o p => payloadFits o p
  | .usbStreamStatus o p => payloadFits o p
  | .netStatus o p => payloadFits o p
  | .netCounters o p => payloadFits o p
  | .netMdio o p => payloadFits o p
  | .gptpStatus o p => payloadFits o p
  | .gptpSet o p => payloadFits o p
  | .streamStatus o p => payloadFits o p
  | .streamConnect o p => payloadFits o p
  | .streamDisconnect o p => payloadFits o p
  | .crfStatus o p => payloadFits o p
  | .msrpStatus o p => payloadFits o p
  | .discRead o p => payloadFits o p
  | .discStatus o p => payloadFits o p
  | .captureStatus o p => payloadFits o p
  | .pgaSet o p => payloadFits o p
  | .dcbSet o p => payloadFits o p
  | .delayTrimSet o p => payloadFits o p
  | .micbiasSet o p => payloadFits o p
  | .micbiasStatus o p => payloadFits o p
  | .relayStatus o p => payloadFits o p
  | .relaySuspend o p => payloadFits o p
  | .relayStart o p => payloadFits o p
  | .thresholdArm o p => payloadFits o p
  | .thresholdDisarm o p => payloadFits o p
  | .relayCorrections o p => payloadFits o p
  | .outputStatus o p => payloadFits o p
  | .outputEnable o p => payloadFits o p
  | .restoreOutputs o p => payloadFits o p
  | .setAutoRestore o p => payloadFits o p
  | .jackStatus o p => payloadFits o p
  | .buttonWindowsSet o p => payloadFits o p
  | .spkFaultClear o p => payloadFits o p
  | .jackReclassify o p => payloadFits o p
  | .auxStatus o p => payloadFits o p
  | .auxConfig o p => payloadFits o p
  | .auxEnable o p => payloadFits o p
  | .auxWrite o p => payloadFits o p
  | .auxTimerSet o p => payloadFits o p
  | .auxQueueConfig o p => payloadFits o p
  | .auxQueueWrite o p => payloadFits o p
  | .auxQueueControl o p => payloadFits o p
  | .auxReadbackSet o p => payloadFits o p
  | .measStatus o p => payloadFits o p
  | .measScanSet o p => payloadFits o p
  | .measScanControl o p => payloadFits o p
  | .measScanRead o p => payloadFits o p
  | .measLatest o p => payloadFits o p
  | .measInjSet o p => payloadFits o p
  | .measInjControl o p => payloadFits o p
  | .measInjRead o p => payloadFits o p
  | .measCalibrate o p => payloadFits o p
  | .measCalRead o p => payloadFits o p
  | .powerStatus o p => payloadFits o p
  | .powerStateSet o p => payloadFits o p
  | .speedStatus o p => payloadFits o p
  | .hullSummary o p => payloadFits o p
  | .hullRead o p => payloadFits o p
  | .hullPredict o p => payloadFits o p
  | .hullSetHorizon o p => payloadFits o p
  | .hullFlush o p => payloadFits o p
  | .fwStatus o p => payloadFits o p
  | .fwBegin o p => payloadFits o p
  | .fwWriteData o p => payloadFits o p
  | .fwVerify o p => payloadFits o p
  | .fwActivate o p => payloadFits o p
  | .fwConfirm o p => payloadFits o p
  | .fwAbort o p => payloadFits o p
  | .settingsStatus o p => payloadFits o p
  | .settingsSave o p => payloadFits o p
  | .settingsDiscardOld o p => payloadFits o p
  | .settingsErase o p => payloadFits o p
  | .setAutoConfirm o p => payloadFits o p
  | .keyStatus o p => payloadFits o p
  | .chartKeyProgram o p => payloadFits o p
  | .packetReceived _ _ => true
  | .commandTake => true
  | .irqReassert _ => true
  | .h4LinkTimeout => true
  | .bindingExecute => true
  | .twAddressMatch _ _ _ => true
  | .twPointerWrite _ _ _ => true
  | .commandDoorWrite _ _ => true
  | .doorCommit _ _ => true
  | .errorClear _ _ => true
  | .irqMaskWrite _ _ => true
  | .eventAckRegisterWrite _ _ => true
  | .registerWriteDiscarded _ _ => true
  | .replyConsume _ _ _ => true
  | .eventDoorRefresh _ _ => true
  | .twAckSlotCondition _ _ => true
  | .twByteAbort _ _ => true
  | .twBusStall _ => true
  | .twWakeMatch _ _ => true
  | .twLoaderReady => true
  | .fabricTick => true
  | .nop _ => true
  | .clr _ _ => true
  | .mac _ _ _ _ _ => true
  | .macs _ _ _ _ _ _ _ => true
  | .sto _ _ _ _ => true
  | .bq _ _ _ _ _ _ _ => true
  | .dlw _ _ _ => true
  | .dlr _ _ _ _ _ _ => true
  | .xf _ _ _ _ _ => true
  | .mtr _ _ _ => true
  | .lim _ _ _ _ => true
  | .fen _ _ _ => true
  | .fenRelease _ => true
  | .endWord _ => true
  | .wordFetchFault _ => true
  | .sourceWordLand _ _ line => decide (line.length ≤ 2048)
  | .dynamicsSink _ => true
  | .loadStart => true
  | .loadComplete => true
  | .paramRampEnd _ => true
  | .overlayGateRampEnd _ => true
  | .chainRampEnd _ => true
  | .bqCrossfadeEnd _ => true
  | .delayChangeEnd _ => true
  | .clipIntervalEnd => true
  | .protectEstimate _ => true
  | .protectDegraded _ => true
  | .protectDegradedEnd _ => true
  | .referenceLoss => true
  | .referenceRestore => true
  | .domainRefValid _ => true
  | .domainLock _ _ => true
  | .domainUnlock _ _ _ => true
  | .convoyMuteRampEnd _ => true
  | .memberSampleArrival _ _ _ sample => decide (sample.length ≤ 32)
  | .memberRead _ _ => true
  | .memberFadeEnd _ _ => true
  | .resyncPoint _ => true
  | .egressMemberTake _ _ => true
  | .pgaStep _ => true
  | .micbiasRampEnd _ => true
  | .micbiasSettleEnd _ => true
  | .micbiasOvercurrent _ => true
  | .relayRotationTrigger _ _ => true
  | .relayStepStart => true
  | .relayVrefcalEnd _ _ _ => true
  | .relaySettleEnd => true
  | .relayEstimateEnd usable _ _ _ _ => decide (usable ≤ 2000)
  | .relayVerifyEnd usable _ _ => decide (usable ≤ 2000)
  | .relayCrossfadeEnd => true
  | .chainRestartEnd _ => true
  | .pdmWakeEnd _ => true
  | .trimCrossfadeEnd _ => true
  | .thresholdBlock _ _ => true
  | .modulatorOverload _ => true
  | .outputGateRampEnd _ => true
  | .servoEnd _ _ => true
  | .outputLoadRampEnd _ => true
  | .supplyWarning _ _ => true
  | .shelterEnd => true
  | .spkOvercurrent => true
  | .spkRestartTimer => true
  | .pvddUvlo _ => true
  | .pvddRecover _ => true
  | .classdThermalCheck _ => true
  | .hpOvercurrent _ => true
  | .jdetAbsent _ => true
  | .jdetPresent _ => true
  | .jackDebounceEnd _ => true
  | .classifyTipEnd _ _ => true
  | .classifyCtiaEnd _ _ => true
  | .classifyDecide _ _ => true
  | .jackRemovalConfirm _ => true
  | .buttonScan _ _ _ => true
  | .saiMaskTransfer _ _ => true
  | .saiFrameStart _ _ slots => decide (slots.length ≤ 32)
  | .saiClockLoss _ => true
  | .saiClockReturn _ slots => decide (slots.length ≤ 32)
  | .spdifLockAcquire _ => true
  | .spdifLockLoss _ => true
  | .spdifAutoRate => true
  | .spdifSubframe _ _ _ _ _ _ _ => true
  | .spdifBlockEnd _ => true
  | .spdifNonpcmExit => true
  | .spdifTxBlockStart => true
  | .vbusChange _ _ => true
  | .usbStandardRequest _ _ _ _ _ _ => true
  | .setConfiguration _ _ => true
  | .setInterface _ _ _ => true
  | .usbLinkPowerRequest _ _ => true
  | .usbSuspend _ => true
  | .usbResume _ => true
  | .usbBusReset _ _ => true
  | .usbRemoteWakeSignal _ => true
  | .uacSamplingFreqSet _ _ _ => true
  | .uacFeatureUnitSet _ _ _ _ _ => true
  | .usbFeedbackUpdate _ _ _ _ _ => true
  | .usbCaptureInterval _ _ => true
  | .hidReportSend _ => true
  | .usbVendorTransfer _ _ _ => true
  | .usbReconnect _ => true
  | .dfuDetach _ => true
  | .dfuDnload _ _ data => decide (data.length ≤ 4096)
  | .dfuManifestReset _ => true
  | .dfuAbort _ => true
  | .dfuClrstatus _ => true
  | .linkSyncAcquired => true
  | .linkUp _ => true
  | .linkDown _ _ => true
  | .frameReceived frame _ _ _ _ => decide (4 ≤ frame.length)
  | .pauseEnd => true
  | .txFrameStart _ _ _ => true
  | .txLateDiscard _ => true
  | .mdioComplete _ _ => true
  | .counterHalfFoldEnd _ => true
  | .gptpPdelayComplete _ _ => true
  | .gptpSyncReceived _ _ => true
  | .gptpAnnounceReceived _ _ _ _ _ _ _ => true
  | .gptpSyncTimeout => true
  | .gptpAnnounceTimeout => true
  | .msrpDeclarationReceived _ _ _ => true
  | .talkerBlock _ _ => true
  | .crfFrameSend _ => true
  | .acmpCommand _ _ _ _ _ => true
  | .adpAdvertise => true
  | .adpReceived _ _ => true
  | .discEntryExpire _ => true
  | .aemCommand _ _ _ => true
  | .aecpVendorFragment _ _ _ index count data => decide (index < count) && decide (count ≤ 3) && decide (data.length ≤ 500)
  | .auxTimerTick _ => true
  | .auxSlewStep _ => true
  | .auxQueuePaceTick _ => true
  | .auxRangeHoldEnd _ => true
  | .vauxWarning => true
  | .vauxReset => true
  | .vauxRecover => true
  | .pairedClockTick => true
  | .sarConversionDone _ code _ code2 _ offset =>
    decide (-8192 ≤ code) && decide (code ≤ 16383) && decide (-8192 ≤ code2) && decide (code2 ≤ 16383)
      && decide (offset ≤ 22676)
  | .systemSequenceDue _ => true
  | .hostScanTrigger _ => true
  | .injectedTrigger _ => true
  | .mtrigEdge _ => true
  | .sarCalibrationStart _ => true
  | .sarCalibrationEnd _ _ _ => true
  | .plausibilityCheck => true
  | .powerOn _ _ _ => true
  | .resetNLow => true
  | .supplyResetLevel _ => true
  | .watchdogExpire => true
  | .resetRelease _ _ _ _ _ _ => true
  | .referenceSelect _ => true
  | .imageCheckDone => true
  | .chartSlotSelect => true
  | .selfTestEnd _ _ _ => true
  | .bootComplete _ => true
  | .powerTransitionProceed => true
  | .wakeSource _ => true
  | .thermalWarning _ => true
  | .thermalShutdown => true
  | .thermalRecover _ => true
  | .marginInterval si _ _ _ _ => si.length == 14
  | .replan => true
  | .hullHourly => true
  | .hullPredictionRecompute => true
  | .nvmSectorErase _ => true
  | .fwBlockWriteDone _ _ => true
  | .fwVerifyDone _ => true
  | .fwActivateProceed _ => true
  | .gangwayTake _ _ => true
  | .sequencerReload _ => true
  | .probationHealthy => true
  | .settingsSaveDone _ => true
  | .fabricPllRelock => true
  | .nvmRowWriteDone _ => true
  | .measurementTrackerLock => true
  | .streamReceiveTimeout _ => true
  | .mrpLeaveTimerExpire _ _ => true
  | .dfuDetachTimeout _ => true
  | .watchdogCounterClear => true

end Sys2Proof
end

