-- ==== Sys2Proof/Tests/Slice0.lean ====
section
/-! SUPPORT. Small tests: an ill-formed term for every check of WellFormed, and values that the specification's own
examples and check values give. -/

namespace Sys2Proof.Tests

open Sys2Proof Sys2Proof.Machine

set_option Elab.async false

/-! ## WellFormed refuses -/

theorem test_wf_accepts : (Instr.echo h0 (List.replicate 1024 1)).wellFormed = true := by
  simp only [Instr.wellFormed, payloadFits, List.length_replicate]
  decide

theorem test_wf_payload_too_long : (Instr.echo h0 (List.replicate 1025 1)).wellFormed = false := by
  simp only [Instr.wellFormed, payloadFits, List.length_replicate]
  decide

theorem test_wf_version1_payload_too_long : (Instr.echo h1 (List.replicate 256 1)).wellFormed = false := by
  simp only [Instr.wellFormed, payloadFits, List.length_replicate]
  decide

theorem test_wf_sample_too_wide : (Instr.memberSampleArrival 0 0 0 (List.replicate 33 0)).wellFormed = false := by decide

theorem test_wf_frame_too_wide : (Instr.saiFrameStart 0 0 (List.replicate 33 0)).wellFormed = false := by decide

theorem test_wf_dfu_block_too_long : (Instr.dfuDnload 0 0 (List.replicate 4097 0)).wellFormed = false := by
  simp only [Instr.wellFormed, List.length_replicate]
  decide

theorem test_wf_frame_without_fcs : (Instr.frameReceived [1, 2, 3] false true true 0).wellFormed = false := by decide

theorem test_wf_fragment_index : (Instr.aecpVendorFragment 0 0 0 1 1 []).wellFormed = false := by decide

theorem test_wf_fragment_count : (Instr.aecpVendorFragment 0 0 0 0 4 []).wellFormed = false := by decide

theorem test_wf_fragment_too_long : (Instr.aecpVendorFragment 0 0 0 0 3 (List.replicate 501 0)).wellFormed = false := by
  simp only [Instr.wellFormed, List.length_replicate]
  decide

theorem test_wf_margin_monitors : (Instr.marginInterval (List.replicate 13 0) 0 0 0 0).wellFormed = false := by decide

theorem test_wf_density_line : (Instr.sourceWordLand 0 0 (List.replicate 2049 true)).wellFormed = false := by
  simp only [Instr.wellFormed, List.length_replicate]
  decide

theorem test_wf_estimate_periods : (Instr.relayEstimateEnd 2001 0 0 0 0).wellFormed = false := by decide

theorem test_wf_verify_periods : (Instr.relayVerifyEnd 2001 0 0).wellFormed = false := by decide

theorem test_wf_return_frame : (Instr.saiClockReturn 0 (List.replicate 33 0)).wellFormed = false := by decide

theorem test_wf_sar_code : (Instr.sarConversionDone 0 16384 0 0 0 0).wellFormed = false := by decide

theorem test_wf_sar_second_code : (Instr.sarConversionDone 0 0 0 (-8193) 0 0).wellFormed = false := by decide

theorem test_wf_sar_offset : (Instr.sarConversionDone 0 0 0 0 0 22677).wellFormed = false := by decide

/-! ## Codes that the specification gives check values for -/

/-- R25: CRC-16 over "123456789". -/
theorem test_crc16_check : crc16 [0x31, 0x32, 0x33, 0x34, 0x35, 0x36, 0x37, 0x38, 0x39] = 0x29B1 := by decide +kernel

/-- R44: CRC-8 over "123456789". -/
theorem test_crc8_check : crc8 [0x31, 0x32, 0x33, 0x34, 0x35, 0x36, 0x37, 0x38, 0x39] = 0xF4 := by decide +kernel

/-- The digest of "abc", as FIPS 180-4 gives it. -/
theorem test_sha256_abc : (sha256 [0x61, 0x62, 0x63]).take 4 = [0xBA, 0x78, 0x16, 0xBF] := by decide +kernel

/-- The base point of P-256 is on the curve, and twice itself is not itself. -/
theorem test_p256_base : p256OnCurve p256gx p256gy = true := by decide +kernel

/-! ## Instruction words (Table 5-13) -/

def fields (w : BitVec 64) : List Nat := [wordOp w, wordSrc w, wordPar w, wordDst w, wordAcc w]

theorem test_word_mac : fields 0x080B0C9001000000 = [0x02, 11, 201, 0, 1] := by decide +kernel
theorem test_word_fen : (wordOp 0x800000000001012C, wordAux 0x800000000001012C, wordArg 0x800000000001012C) = (0x20, 1, 300) := by
  decide +kernel
theorem test_word_macs : fields 0x0E640CA805000000 = [0x03, 612, 202, 513, 1] := by decide +kernel
theorem test_word_bq : fields 0x220000D460000000 = [0x08, 512, 13, 280, 0] := by decide +kernel
theorem test_word_mtr : fields 0x500A00A000000000 = [0x14, 10, 10, 0, 0] := by decide +kernel
theorem test_word_lim : fields 0x6000005464000000 = [0x18, 0, 5, 281, 0] := by decide +kernel
theorem test_word_end : wordOp 0xFC00000000000000 = 0x3F := by decide +kernel

/-! ## Arithmetic of the examples -/

/-- The SET_PARAM of chapter 6: −20 dB is 0.1 × 2^27, to the nearest. -/
theorem test_set_param_db : paramTarget [0x78, 0, 1, 0, 0x30, 0xF8, 0xFF, 0xFF, 0xFF, 0xFF, 0, 0] = 13421773 := by decide +kernel

/-- −16 dB, as the example has it: 10^−0.8 × 2^27 is 21,272,076.35. -/
theorem test_db_word : dbWord (-1600) = 21272076 := by decide +kernel

/-- Chapter 11: Rm 44,100.882 Hz and a fill 6 samples below NOMINAL 64. -/
theorem test_usb_feedback : feedbackF 44100 64 44100882 ((64 - 6) * 256) = 0x5893A := by decide +kernel

/-- Chapter 14: code 1,000 of RANGE 1 is 0.5859 V, which RANGE 0 writes as 2,000. -/
theorem test_aux_convert : convertCode 1 0 1000 = 2000 := by decide

/-- R95: a half rounds to the even quotient. -/
theorem test_round_half_even : (rneDiv 3 2, rneDiv 5 2, rneDiv (-3) 2) = (2, 2, -2) := by decide

/-- R96: a word saturates at 0x7FFFFFFF and says so. -/
theorem test_saturates : satWord 0x80000000 = (0x7FFFFFFF, true) := by decide

/-! ## What MSRP declares -/

/-- Without a stream, only the two domains at the values of reset are declared. -/
theorem test_declares_domains : declarations State.reset = [.domain 6 3 2, .domain 5 2 2] := by decide +kernel

/-! ## The queue of commands -/

theorem test_reset_dev : State.reset.pwr.dev = .por ∧ State.reset.pending = [] := ⟨rfl, rfl⟩

theorem test_step_takes_front :
    step { active with pending := [.loadStart, .pauseEnd] } = exec .loadStart { active with pending := [.pauseEnd] } :=
  rfl

theorem test_step_idles : step active = .next active := rfl

theorem test_no_word : decodeTableWord 8 0 = none := rfl

end Sys2Proof.Tests
end

section
/-! PROOF. How an event enters a queue or is counted in EVENT_LOST (R38): one equation of `enqueue` per case, the bound
that `queueOk` puts on a queue's length, and the context that an event entered leaves. -/

namespace Sys2Proof.Machine

/-- An event that finds a full queue with EVENT_LOST newest adds one to that entry's DATA. -/
theorem enqueue_counts {q : List Event} {l : Event} (e : Event) (hlast : q.getLast? = some l) (hfull : 63 ≤ q.length)
    (hlost : l.code = 0x0201) :
    enqueue q e = q.dropLast ++ [{ l with data := min (l.data + 1) 0xFFFFFFFF }] := by
  simp [enqueue, hfull.not_gt, hlast, hlost]

/-- An event that finds a full queue with another entry newest starts an EVENT_LOST after it. -/
theorem enqueue_starts_lost {q : List Event} {l : Event} (e : Event) (hlast : q.getLast? = some l)
    (hfull : 63 ≤ q.length) (hother : l.code ≠ 0x0201) :
    enqueue q e = q ++ [{ e with code := 0x0201, inst := 0, data := 1 }] := by
  simp [enqueue, hfull.not_gt, hlast, hother]

/-- A queue within R38 has no more than 64 entries. -/
theorem queueOk_length_le {q : List Event} (h : queueOk q = true) : q.length ≤ 64 := by
  simp only [queueOk, Bool.or_eq_true, Bool.and_eq_true, decide_eq_true_eq, beq_iff_eq] at h
  omega

/-- The context that an event is entered for queues or counts it, and moves its SEQ on by one modulo 256. -/
theorem ctxGet_enterEvent_same {s : State} (w : tblWf CtxState.closed s.host.ctxs = true)
    (code inst stamp log data n : Nat) :
    ctxGet (enterEvent code inst stamp log data s n) n = { ctxGet s n with
      queue := enqueue (ctxGet s n).queue
        { code := code, inst := inst, seq := (ctxGet s n).seq, stamp := stamp, log := log, data := data }
      seq := ((ctxGet s n).seq + 1) % 256 } :=
  ctxMod_get_same w n _

end Sys2Proof.Machine

namespace Sys2Proof

open Sys2Proof.Machine

/-- Settles O7: each clause on `enqueue` is its equation in that case, the bound follows from `queueOk`, which entering
an event keeps, and the last clause reads the queue and SEQ of the context that the event is entered for. -/
theorem queueTakesOrCountsEvents : Obligations.QueueTakesOrCountsEvents := by
  intro q e
  refine ⟨enqueue_room q e, ?counted, ?startsLost, ?bounded, ?seqTaken⟩
  case counted =>
    intro l hlast hfull hlost
    exact enqueue_counts e hlast hfull hlost
  case startsLost =>
    intro l hlast hfull hother
    exact enqueue_starts_lost e hlast hfull hother
  case bounded =>
    intro h
    have hok : queueOk (enqueue q e) = true := enqueue_ok q e h
    exact ⟨hok, queueOk_length_le hok⟩
  case seqTaken =>
    intro code inst stamp log data n s w
    rw [ctxGet_enterEvent_same w]
    exact ⟨rfl, rfl⟩

end Sys2Proof
end

section
/-! PROOF. What SET_PARAM and SET_PARAM_BLOCK commit (R119, R142): the refusal of an entry does not see the command's log
number, and a block commits every entry or answers for the first that R120 refuses. -/

namespace Sys2Proof.Machine

/-- Nothing that R120 looks at changes with the log number. -/
theorem paramCheck_takeLog (c : Ctx) (e : List Byte) (s : State) :
    paramCheck c e (takeLog s) = paramCheck c e s := rfl

/-- A block of which no entry is refused commits them all, in their order. -/
theorem setParamBlockDo_all {o : Issue} {p : List Byte} {log : Nat} {s : State}
    (hall : ∀ e ∈ blockEntries p, paramCheck o.ctx e s = none) :
    setParamBlockDo o p log s
      = okWith [0xFF, 0] ((blockEntries p).foldl (fun t e => paramEffect log e t) s) := by
  have hnone : (List.range (blockEntries p).length).find?
      (fun i => (paramCheck o.ctx ((blockEntries p).getD i []) s).isSome) = none := by
    rw [List.find?_eq_none]
    intro i hi
    have hlt : i < (blockEntries p).length := List.mem_range.mp hi
    have hmem : (blockEntries p).getD i [] ∈ blockEntries p := by
      rw [List.getD_eq_getElem _ _ hlt]
      exact List.getElem_mem hlt
    rw [hall _ hmem]
    exact Bool.false_ne_true
  simp only [setParamBlockDo, hnone]
  rfl

/-- A block with a refused entry changes nothing, and its answer names the first such entry and its status. -/
theorem setParamBlockDo_first_refused {o : Issue} {p : List Byte} {log : Nat} {s : State} {i st : Nat}
    (hi : i < (blockEntries p).length) (hst : paramCheck o.ctx ((blockEntries p).getD i []) s = some st)
    (hbefore : ∀ j < i, paramCheck o.ctx ((blockEntries p).getD j []) s = none) :
    setParamBlockDo o p log s = { s := s, status := st, result := b1 i ++ b1 st } := by
  have hfirst : (List.range (blockEntries p).length).find?
      (fun i => (paramCheck o.ctx ((blockEntries p).getD i []) s).isSome) = some i := by
    rw [List.find?_range_eq_some]
    refine ⟨by rw [hst]; rfl, List.mem_range.mpr hi, ?_⟩
    intro j hj
    rw [hbefore j hj]
    rfl
  simp only [setParamBlockDo, hfirst, hst, Option.getD_some]

end Sys2Proof.Machine

namespace Sys2Proof

open Sys2Proof.Machine

/-- Settles O34: each accepted command does what its action says (`hostCommand_accepted`); for SET_PARAM_BLOCK the action
is the commit of every entry, or the answer for the first entry that is refused. -/
theorem parameterCommitsTakeEffect : Obligations.ParameterCommitsTakeEffect := by
  intro o p s
  refine ⟨?setParam, ?blockCommits, ?blockRefused, ?setRampTime⟩
  case setParam =>
    intro h
    exact hostCommand_accepted h (setParamDo p)
  case blockCommits =>
    intro h hall
    have hdo := setParamBlockDo_all (log := s.host.log)
      (fun e he => (paramCheck_takeLog o.ctx e s).trans (hall e he))
    exact (hostCommand_accepted h (setParamBlockDo o p)).trans (by rw [hdo]; rfl)
  case blockRefused =>
    intro i st hi h hst hbefore
    have hdo := setParamBlockDo_first_refused (log := s.host.log) hi
      ((paramCheck_takeLog o.ctx _ s).trans hst) (fun j hj => (paramCheck_takeLog o.ctx _ s).trans (hbefore j hj))
    exact (hostCommand_accepted h (setParamBlockDo o p)).trans (by rw [hdo])
  case setRampTime =>
    intro h
    exact hostCommand_accepted h (setRampTimeDo p)

end Sys2Proof
end

section
/-! The proofs below are elaborated one after the other, which bounds the memory that they take together. -/

set_option Elab.async false

section
/-! PROOF. The step and the dispatch of commands: every arm of `exec` answers a next state. -/

namespace Sys2Proof.Machine

/-- The meaning of an opcode answers a next state. -/
theorem hostDispatch_next (op : Nat) (o : Issue) (p : List Byte) (s : State) : ∃ t, hostDispatch op o p s = .next t := by
  unfold hostDispatch
  split <;> exact ⟨_, rfl⟩

theorem runHeld_next (n : Nat) (h : Held) (s : State) : ∃ t, runHeld n h s = .next t := by
  unfold runHeld
  split
  · exact ⟨_, rfl⟩
  · obtain ⟨t, ht⟩ := hostDispatch_next h.opcode { ctx := ctxOf n, tag := h.tag, v1 := h.v1 } h.payload (takeHeld n h s)
    rw [ht]
    exact ⟨_, rfl⟩

theorem execCommandTake_next (s : State) : ∃ t, execCommandTake s = .next t := by
  unfold execCommandTake
  split
  · exact ⟨_, rfl⟩
  split
  · exact ⟨_, rfl⟩
  split
  · exact ⟨_, rfl⟩
  split
  · exact ⟨_, rfl⟩
  · exact runHeld_next _ _ _

/-- Every command answers a next state: only COMMAND_TAKE, which runs the command it takes, is no `.next` by its shape. -/
theorem exec_next (i : Instr) (s : State) : ∃ t, exec i s = .next t := by
  cases i
  case commandTake => exact execCommandTake_next s
  all_goals exact ⟨_, rfl⟩

/-- The command of a row is taken by `hostTake` under the row's opcode, issue, payload and refusal. -/
theorem exec_hostRow {i : Instr} {op : Nat} {o : Issue} {p : List Byte} {check : State → Option Nat}
    (h : hostRow i = some (op, o, p, check)) (s : State) :
    ∃ run, exec i s = .next (hostTake op o p check run s) := by
  cases i <;> cases h <;> exact ⟨_, rfl⟩

theorem hostTake_unserved {op : Nat} {o : Issue} {p : List Byte} {check : State → Option Nat} {s : State}
    (h : cpServes s o.ctx = false) (run : Nat → State → State) : hostTake op o p check run s = s := by
  simp [hostTake, h]

end Sys2Proof.Machine

namespace Sys2Proof

open Sys2Proof.Machine

/-- Settles O1: `step` on a queue with a front. -/
theorem stepRunsFrontCommand : Obligations.StepRunsFrontCommand := by
  intro i l s h
  simp only [step, h]

/-- Settles O2: `step` on an empty queue. -/
theorem emptyQueueIdles : Obligations.EmptyQueueIdles := by
  intro s h
  simp only [step, h]

/-- Settles O3: `exec` answers a next state for every command, and so does the step that runs it. -/
theorem everyCommandCompletes : Obligations.EveryCommandCompletes := by
  refine ⟨exec_next, fun s => ?_⟩
  cases h : s.pending with
  | nil => exact ⟨s, emptyQueueIdles s h⟩
  | cons i l =>
    rw [Safe, stepRunsFrontCommand i l s h]
    exact exec_next i _

/-- Settles O13: a row's command goes through `hostTake`, which turns it away by `hostTake_refused`, and leaves the state
where the CP does not serve the context. -/
theorem refusedCommandHasNoEffect : Obligations.RefusedCommandHasNoEffect := by
  intro i s op o p check hrow
  obtain ⟨run, hexec⟩ := exec_hostRow hrow s
  refine ⟨?refused, ?unserved⟩
  case refused =>
    intro htaken st hst
    rw [hexec, hostTake_refused htaken hst]
    rfl
  case unserved =>
    intro hserves
    rw [hexec, hostTake_unserved hserves]

end Sys2Proof
end

section
/-! PROOF. The host part at reset. -/

namespace Sys2Proof.Machine

/-- At reset H0 and H1 are open, every other context is closed. -/
theorem ctxGet_reset (n : Nat) : ctxGet State.reset n = { CtxState.closed with isOpen := decide (n < 2) } := by
  match n with
  | 0 => rfl
  | 1 => rfl
  | n + 2 =>
    have : decide (n + 2 < 2) = false := by simp
    rw [this]
    rfl

end Sys2Proof.Machine

namespace Sys2Proof

open Sys2Proof.Machine

/-- Settles O4: what a context holds at reset is `ctxGet_reset`; the other fields are read off the record. -/
theorem resetLeavesHostPart : Obligations.ResetLeavesHostPart := by
  refine ⟨rfl, rfl, rfl, rfl, rfl, rfl, fun n => ?context, fun n => ?isOpen, rfl, fun _ => rfl, rfl, rfl⟩
  case context =>
    rw [ctxGet_reset]
    exact ⟨rfl, rfl, rfl⟩
  case isOpen => rw [isOpen, ctxGet_reset]

/-- Settles O5. -/
theorem hostInvariantAtReset : Obligations.HostInvariantAtReset where
  ctxsWf := by decide
  queues n := by
    have hempty : (tget CtxState.closed State.reset.host.ctxs n).queue = [] := congrArg CtxState.queue (ctxGet_reset n)
    rw [hempty]
    rfl
  logLow := by decide
  logHigh := by decide
  raisedMax := by decide
  open0 := rfl
  open1 := rfl
  ownersWf := rfl

end Sys2Proof
end

section
/-! PROOF. Rounding to nearest (R95) and saturation (R94, R96). -/

namespace Sys2Proof.Machine

/-- The rounded quotient is at most half a divisor away, and even at exactly half. -/
theorem rneDiv_nearest (x : Int) {d : Nat} (hd : 0 < d) :
    2 * (rneDiv x d * d - x).natAbs ≤ d ∧ (2 * (rneDiv x d * d - x).natAbs = d → rneDiv x d % 2 = 0) := by
  have hpos : (0 : Int) < d := Int.natCast_pos.mpr hd
  have hlow := Int.emod_nonneg x hpos.ne'
  have hhigh := Int.emod_lt_of_pos x hpos
  have hx := Int.mul_ediv_add_emod x d
  unfold rneDiv
  generalize x / (d : Int) = q at *
  generalize x % (d : Int) = r at *
  have hdown : q * d - x = -r := by rw [← hx]; ring
  have hup : (q + 1) * d - x = d - r := by rw [← hx]; ring
  dsimp only
  split
  · rw [hdown]
    omega
  split
  · rw [hup]
    omega
  split
  · rw [hdown]
    omega
  · rw [hup]
    omega

theorem satAcc_toInt (x : Int) : (satAcc x).1.toInt = max (-2 ^ 47) (min (2 ^ 47 - 1) x) := by
  unfold satAcc
  split
  · rw [max_eq_left (by omega)]
    rfl
  split
  · rw [min_eq_left (by omega)]
    rfl
  · rw [min_eq_right (by omega), max_eq_right (by omega)]
    exact BitVec.toInt_ofInt_eq_self (by decide) (by omega) (by omega)

theorem satAcc_saturated (x : Int) : (satAcc x).2 = true ↔ x < -2 ^ 47 ∨ 2 ^ 47 - 1 < x := by
  unfold satAcc
  split
  · simp only [true_iff]
    omega
  split
  · simp only [true_iff]
    omega
  · simp only [Bool.false_eq_true, false_iff]
    omega

theorem satWord_toInt (x : Int) : (satWord x).1.toInt = max (-2 ^ 31) (min (2 ^ 31 - 1) x) := by
  unfold satWord
  split
  · rw [max_eq_left (by omega)]
    rfl
  split
  · rw [min_eq_left (by omega)]
    rfl
  · rw [min_eq_right (by omega), max_eq_right (by omega)]
    exact BitVec.toInt_ofInt_eq_self (by decide) (by omega) (by omega)

theorem satWord_saturated (x : Int) : (satWord x).2 = true ↔ x < -2 ^ 31 ∨ 2 ^ 31 - 1 < x := by
  unfold satWord
  split
  · simp only [true_iff]
    omega
  split
  · simp only [true_iff]
    omega
  · simp only [Bool.false_eq_true, false_iff]
    omega

end Sys2Proof.Machine

namespace Sys2Proof

open Sys2Proof.Machine

/-- Settles O30: `rneShift` divides by a power of two, and `rneDiv` rounds to nearest with ties to even. -/
theorem roundingIsNearestTiesToEven : Obligations.RoundingIsNearestTiesToEven := by
  intro x k _
  have h := rneDiv_nearest x (Nat.two_pow_pos k)
  rw [Nat.cast_pow, Nat.cast_ofNat] at h
  exact h

/-- Settles O31. -/
theorem saturationIsExact : Obligations.SaturationIsExact := by
  intro x
  exact ⟨satAcc_toInt x, satAcc_saturated x, satWord_toInt x, satWord_saturated x⟩

end Sys2Proof
end

section
/-! PROOF. Where the effects of host commands end: in the host part, the reply doors and the draw counter. -/

namespace Sys2Proof.Machine

theorem OnlyHost.trans {s t u : State} (h : OnlyHost s t) (k : OnlyHost t u) : OnlyHost s u := by
  unfold OnlyHost at *
  rw [k, h]

theorem onlyHost_of_rest {s t : State} (h : rest t = rest s) : OnlyHost s t := by
  rw [rest_eq h]
  rfl

theorem onlyHost_takeLog (s : State) : OnlyHost s (takeLog s) := rfl

theorem onlyHost_placeReply (n : Nat) (r : Reply) (s : State) : OnlyHost s (placeReply n r s) := by
  unfold placeReply
  split
  · rfl
  · split
    · rfl
    · split <;> rfl

/-- A command whose effect ends in the host part is answered there. -/
theorem answerOn_onlyHost {op : Nat} {o : Issue} {s u : State} {status : Nat} {result : List Byte}
    (hlog : u.host.log = nextLog s.host.log) (hu : OnlyHost s u) :
    ∃ t, answerOn op o s status result u = .next t ∧ Replied op o s status result t ∧ OnlyHost s t
      ∧ t = placeReply (ctxNum o.ctx) (replyTo op o status s.host.log result) u :=
  ⟨_, rfl, ⟨lastReply_placeReply _ _ _, by simp [hlog]⟩, hu.trans (onlyHost_placeReply _ _ _), rfl⟩

@[simp] theorem placeReply_ownerOf (n : Nat) (r : Reply) (s : State) (id : Nat) :
    ownerOf (placeReply n r s) id = ownerOf s id := by
  simp [ownerOf]

/-- A reply changes nothing of a context but the replies that wait to be read. -/
theorem placeReply_ctx {γ : Type} (g : CtxState → γ) (hg : ∀ c l, g { c with replies := l } = g c) {s : State}
    (w : tblWf CtxState.closed s.host.ctxs = true) (n : Nat) (r : Reply) (m : Nat) :
    g (ctxGet (placeReply n r s) m) = g (ctxGet s m) := by
  have hmod : ∀ f : CtxState → CtxState, (∀ c, g (f c) = g c) → g (ctxGet (ctxMod s n f) m) = g (ctxGet s m) := by
    intro f hf
    by_cases e : m = n
    · rw [e, ctxMod_get_same w, hf]
    · rw [ctxMod_get_other w e]
  unfold placeReply
  split
  · rfl
  split
  · rfl
  split
  · rename_i e
    subst e
    exact hmod _ (fun c => hg c _)
  · exact hmod _ (fun c => hg c _)

/-- A reply leaves what a context holds but for its replies. -/
theorem replied_frame {γ : Type} (g : CtxState → γ) (hg : ∀ c l, g { c with replies := l } = g c) {s : State}
    (w : tblWf CtxState.closed s.host.ctxs = true) (n : Nat) (r : Reply) (m : Nat) {v : γ} (h : g (ctxGet s m) = v) :
    g (ctxGet (placeReply n r s) m) = v := (placeReply_ctx g hg w n r m).trans h

theorem fw_of_rest {s t : State} (h : rest t = rest s) : t.fw = s.fw := by
  rw [rest_eq h]

theorem onlyHost_ctxMod (s : State) (n : Nat) (f : CtxState → CtxState) : OnlyHost s (ctxMod s n f) := rfl

theorem firstRefusal_eq_none {l : List (Bool × Nat)} (h : firstRefusal l = none) : ∀ e ∈ l, e.1 = false := by
  induction l with
  | nil => exact fun _ he => absurd he List.not_mem_nil
  | cons e r ih =>
    obtain ⟨c, st⟩ := e
    cases c with
    | true => cases h
    | false => exact List.forall_mem_cons.mpr ⟨rfl, ih h⟩

/-- A command other than HELLO is accepted only of a context that is open (R458). -/
theorem accepted_open {op : Nat} {o : Issue} {p : List Byte} {check : State → Option Nat} {s : State}
    (h : Accepted op o p check s) (hop : op ≠ 0x0101) : isOpen s (ctxNum o.ctx) = true := by
  obtain ⟨-, hrefusal, -⟩ := h
  have := firstRefusal_eq_none hrefusal (!isOpen (takeLog s) (ctxNum o.ctx) && op != 0x0101, stWrongState) (by simp)
  simpa [hop] using this

end Sys2Proof.Machine
end

section
/-! PROOF. Which contexts an event reaches (R37). -/

namespace Sys2Proof.Machine

/-- Entering an event for each context of a list without repeats enters it once for each of them. -/
theorem ctxGet_enterEvents {s : State} (w : tblWf CtxState.closed s.host.ctxs = true) (code inst stamp log data n : Nat)
    {l : List Nat} (hl : l.Nodup) :
    ctxGet (l.foldl (enterEvent code inst stamp log data) s) n
      = if n ∈ l then ctxGet (enterEvent code inst stamp log data s n) n else ctxGet s n := by
  induction l generalizing s with
  | nil => simp
  | cons m r ih =>
    obtain ⟨hm, hr⟩ := List.nodup_cons.mp hl
    rw [List.foldl_cons, ih (enterEvent_wf w _ _ _ _ _ _) hr]
    by_cases e : n = m
    · subst e
      simp [hm]
    · have hother : ctxGet (enterEvent code inst stamp log data s m) n = ctxGet s n := ctxMod_get_other w e _
      by_cases hn : n ∈ r
      · simp only [hn, if_true, List.mem_cons, or_true]
        rw [ctxGet_enterEvent_same (enterEvent_wf w _ _ _ _ _ _), ctxGet_enterEvent_same w, hother]
      · simp [hn, e, hother]

/-- While the CP serves, an event posted is entered for the contexts that R37 gives it to. -/
theorem ctxGet_post {s : State} (w : tblWf CtxState.closed s.host.ctxs = true) (hdev : s.pwr.dev ≠ .harbour)
    (habs : s.host.absent = false) (code inst log data : Nat) (cn : Concern) {n : Nat} (hn : n < 5) :
    ctxGet (post code inst log data cn s) n
      = if eventFor s code cn n = true then ctxGet (enterEvent code inst (stampOf s) log data s n) n else ctxGet s n := by
  have hctxs : ctxGet (post code inst log data cn s) n
      = ctxGet ((([0, 1, 2, 3, 4]).filter (eventFor s code cn)).foldl (enterEvent code inst (stampOf s) log data) s) n := by
    simp only [post, postSel, hdev, habs, if_false, Bool.false_eq_true]
    show tget _ (fireBindings _ _ _ _).host.ctxs n = _
    rw [fireBindings_ctxs]
    rfl
  rw [hctxs, ctxGet_enterEvents w _ _ _ _ _ _ (List.Nodup.filter _ (by decide))]
  have hmem : n ∈ [0, 1, 2, 3, 4] := by simp; omega
  simp only [List.mem_filter, hmem, true_and]

end Sys2Proof.Machine

namespace Sys2Proof

open Sys2Proof.Machine

/-- Settles O8: `ctxGet_post` says whose queue the event enters, and `ctxGet_enterEvent_same` what entering it leaves. -/
theorem eventGoesToItsContexts : Obligations.EventGoesToItsContexts := by
  intro code inst log data n cn s w hdev habs hn
  have hget := ctxGet_post w.ctxsWf hdev habs code inst log data cn hn
  refine ⟨?reached, ?passed⟩
  case reached =>
    intro h
    rw [hget, if_pos h, ctxGet_enterEvent_same w.ctxsWf]
    exact ⟨rfl, rfl⟩
  case passed =>
    intro h
    rw [hget, h]
    rfl

end Sys2Proof
end

section
/-! PROOF. Mooring changes, the supervisor, and a context that closes (R22, R35, R36): what each leaves of the host part. -/

namespace Sys2Proof.Machine

/-! ### Mooring changes -/

theorem changeOwner_supervisor (log id new : Nat) (s : State) :
    (changeOwner log id new s).host.supervisor = s.host.supervisor := by
  unfold changeOwner
  dsimp only
  split
  · rfl
  · simp [setOwner]

/-- What a fold of mooring changes leaves of the state: all but the host part, the log number, the supervisor. -/
theorem changeOwners_frame {β : Type} (log : Nat) (id new : β → Nat) (l : List β) (s : State) :
    rest (l.foldl (fun t x => changeOwner log (id x) (new x) t) s) = rest s
    ∧ (l.foldl (fun t x => changeOwner log (id x) (new x) t) s).host.log = s.host.log
    ∧ (l.foldl (fun t x => changeOwner log (id x) (new x) t) s).host.supervisor = s.host.supervisor :=
  ⟨foldl_keeps rest _ (fun _ _ => changeOwner_rest _ _ _ _) l s,
    foldl_keeps (fun t : State => t.host.log) _ (fun _ _ => changeOwner_log _ _ _ _) l s,
    foldl_keeps (fun t : State => t.host.supervisor) _ (fun _ _ => changeOwner_supervisor _ _ _ _) l s⟩

theorem changeOwners_ctx {β γ : Type} (g : CtxState → γ) (hg : ∀ c q k, g { c with queue := q, seq := k } = g c)
    {s : State} (w : tblWf CtxState.closed s.host.ctxs = true) (log : Nat) (id new : β → Nat) (l : List β) (m : Nat) :
    tblWf CtxState.closed (l.foldl (fun t x => changeOwner log (id x) (new x) t) s).host.ctxs = true
    ∧ g (ctxGet (l.foldl (fun t x => changeOwner log (id x) (new x) t) s) m) = g (ctxGet s m) :=
  foldl_inv (fun t : State => tblWf CtxState.closed t.host.ctxs = true ∧ g (ctxGet t m) = g (ctxGet s m)) _
    (fun _ x h => ⟨(changeOwner_ctx g hg h.1 log (id x) (new x) m).1,
      (changeOwner_ctx g hg h.1 log (id x) (new x) m).2.trans h.2⟩) l s ⟨w, rfl⟩

/-- Changing the owners of the listed resources to one owner changes those and no other. -/
theorem ownerOf_changeOwners (log new : Nat) (ids : List Nat) {s : State} (w : tblWf 0xFF s.host.owners = true) (j : Nat) :
    ownerOf (ids.foldl (fun t id => changeOwner log id new t) s) j = if j ∈ ids then new else ownerOf s j := by
  induction ids generalizing s with
  | nil => rfl
  | cons i r ih =>
    obtain ⟨hsame, hother, hwf⟩ := changeOwner_owner w log i new
    rw [List.foldl_cons, ih hwf]
    by_cases e : j = i
    · subst e
      simp [hsame]
    · simp [e, hother j e]

/-! ### Contexts that are not open receive nothing -/

theorem ctxGet_enterEvents_notin {s : State} (w : tblWf CtxState.closed s.host.ctxs = true)
    (code inst stamp log data : Nat) {n : Nat} (l : List Nat) (hn : n ∉ l) :
    ctxGet (l.foldl (enterEvent code inst stamp log data) s) n = ctxGet s n := by
  induction l generalizing s with
  | nil => rfl
  | cons m r ih =>
    rw [List.mem_cons, not_or] at hn
    rw [List.foldl_cons, ih (enterEvent_wf w _ _ _ _ _ _) hn.2]
    exact ctxMod_get_other w hn.1 _

theorem postSel_closed {s : State} (w : tblWf CtxState.closed s.host.ctxs = true) {n : Nat} (h : isOpen s n = false)
    (sel : List Nat) (code inst log data : Nat) (cn : Concern) :
    ctxGet (postSel sel code inst log data cn s) n = ctxGet s n := by
  have hnot : n ∉ sel.filter (eventFor s code cn) := by
    simp only [List.mem_filter, not_and, eventFor]
    intro _
    have : (ctxGet s n).isOpen = false := h
    simp [this]
  unfold postSel
  split
  · rfl
  split
  · split <;> rfl
  · show tget _ (fireBindings _ _ _ _).host.ctxs n = _
    rw [fireBindings_ctxs]
    exact ctxGet_enterEvents_notin w _ _ _ _ _ _ hnot

/-- Mooring changes leave a context that is not open as it is. -/
theorem changeOwner_closed {s : State} (w : tblWf CtxState.closed s.host.ctxs = true) {n : Nat} (h : isOpen s n = false)
    (log id new : Nat) : ctxGet (changeOwner log id new s) n = ctxGet s n := by
  unfold changeOwner
  dsimp only
  split
  · rfl
  · exact postSel_closed (s := setOwner s id new) w h _ _ _ _ _ _

theorem makeSupervisor_closed {s : State} (w : tblWf CtxState.closed s.host.ctxs = true) {n : Nat}
    (h : isOpen s n = false) (c : Ctx) (log : Nat) : ctxGet (makeSupervisor c log s) n = ctxGet s n := by
  unfold makeSupervisor
  split
  · rfl
  · exact postSel_closed (s := { s with host := { s.host with supervisor := c } }) w h _ _ _ _ _ _

theorem makeSupervisor_host (c : Ctx) (log : Nat) (s : State) :
    (makeSupervisor c log s).host.log = s.host.log ∧ (makeSupervisor c log s).host.owners = s.host.owners
    ∧ (makeSupervisor c log s).host.supervisor = c := by
  unfold makeSupervisor
  split
  · rename_i h
    exact ⟨rfl, rfl, h⟩
  · simp [post]

theorem HostInv.makeSupervisor {s : State} (w : HostInv s.host) (c : Ctx) (log : Nat) :
    HostInv (Sys2Proof.Machine.makeSupervisor c log s).host := by
  unfold Sys2Proof.Machine.makeSupervisor
  split
  · exact w
  · refine HostInv.post ?_ _ _ _ _ _
    exact w.of_eq rfl rfl rfl rfl

theorem HostInv.changeOwners {β : Type} {s : State} (w : HostInv s.host) (log : Nat) (id new : β → Nat) (l : List β) :
    HostInv (l.foldl (fun t x => Sys2Proof.Machine.changeOwner log (id x) (new x) t) s).host :=
  foldl_inv (fun t : State => HostInv t.host) _ (fun _ x h => h.changeOwner log (id x) (new x)) l s w

theorem HostInv.releaseAll {s : State} (w : HostInv s.host) (n log : Nat) :
    HostInv (Sys2Proof.Machine.releaseAll n log s).host :=
  w.changeOwners log id (fun _ => 0xFF) _

theorem ownerOf_releaseAll {s : State} (w : tblWf 0xFF s.host.owners = true) (n log : Nat) {id : Nat}
    (hid : id ∈ allResources) (ho : ownerOf s id = n) : ownerOf (releaseAll n log s) id = 0xFF := by
  unfold releaseAll
  rw [ownerOf_changeOwners log 0xFF _ w, if_pos]
  simp [hid, ho]

theorem abandonSessions_host (c : Ctx) (s : State) : (abandonSessions c s).host = s.host := by
  have hcs : ∀ u : State, (if u.fw.session.owner = some c then
      if u.fw.session.st ≤ 1 then { u with fw := { u.fw with session := Session.idle } }
      else { u with fw := { u.fw with session := { u.fw.session with owner := none } } }
    else u).host = u.host := by
    intro u
    split
    · split <;> rfl
    · rfl
  unfold abandonSessions
  refine (hcs _).trans ?_
  split
  · split <;> rfl
  · rfl

/-! ### A context that closes -/

/-- The state in which a context has closed, before its moorings and its supervision are given up and the event posted. -/
def closedState (n : Nat) (s : State) : State :=
  let s1 := ctxMod s n (fun c => { c with isOpen := false, level1 := false, mask := 0xFFFE, queue := [], seq := 0 })
  abandonSessions (ctxOf n) (refreshPins (if n = 4 then { s1 with host := { s1.host with h4Controller := none } } else s1))

theorem closedState_host (n : Nat) (s : State) :
    (closedState n s).host.ctxs
      = tmod CtxState.closed s.host.ctxs n
          (fun c => { c with isOpen := false, level1 := false, mask := 0xFFFE, queue := [], seq := 0 })
    ∧ (closedState n s).host.log = s.host.log ∧ (closedState n s).host.owners = s.host.owners
    ∧ (closedState n s).host.supervisor = s.host.supervisor ∧ (closedState n s).host.raised = s.host.raised := by
  unfold closedState
  simp only [abandonSessions_host]
  split <;> exact ⟨rfl, rfl, rfl, rfl, rfl⟩

theorem closedState_get {s : State} (w : tblWf CtxState.closed s.host.ctxs = true) (n : Nat) :
    ctxGet (closedState n s) n
      = { ctxGet s n with isOpen := false, level1 := false, mask := 0xFFFE, queue := [], seq := 0 } := by
  unfold ctxGet
  rw [(closedState_host n s).1]
  exact tget_tmod_same _ w n _

/-- A context that has closed and given up the supervision. -/
def unsupervised (n log : Nat) (s : State) : State :=
  if (closedState n s).host.supervisor = ctxOf n then makeSupervisor .h0 log (closedState n s) else closedState n s

theorem closeContext_eq {n : Nat} {s : State} (h : isOpen s n = true) (cause log : Nat) :
    closeContext n cause log s = post 0x0102 n log cause .none (releaseAll n log (unsupervised n log s)) := by
  unfold closeContext
  simp only [h]
  rfl

theorem HostInv.closedState {s : State} (w : HostInv s.host) {n : Nat} (hn : 2 ≤ n) :
    HostInv (Sys2Proof.Machine.closedState n s).host := by
  obtain ⟨hctxs, hlog, howners, -, hraised⟩ := closedState_host n s
  exact (w.ctxMod n (fun c => { c with isOpen := false, level1 := false, mask := 0xFFFE, queue := [], seq := 0 })
    rfl (by omega)).of_eq hctxs hlog hraised howners

theorem unsupervised_spec {n : Nat} {s : State} (w : HostInv s.host) (hn : 2 ≤ n) (log : Nat) :
    HostInv (unsupervised n log s).host ∧ isOpen (unsupervised n log s) n = false
    ∧ (ctxGet (unsupervised n log s) n).queue = [] ∧ (unsupervised n log s).host.log = s.host.log
    ∧ (unsupervised n log s).host.owners = s.host.owners
    ∧ (s.host.supervisor = ctxOf n → (unsupervised n log s).host.supervisor = .h0) := by
  obtain ⟨-, hlog, howners, hsup, -⟩ := closedState_host n s
  have wc : HostInv (closedState n s).host := w.closedState hn
  have hget := closedState_get w.ctxsWf n
  have hclosed : isOpen (closedState n s) n = false := by rw [isOpen, hget]
  unfold unsupervised
  split
  · obtain ⟨mlog, mowners, msup⟩ := makeSupervisor_host .h0 log (closedState n s)
    have mget := makeSupervisor_closed wc.ctxsWf hclosed .h0 log
    refine ⟨wc.makeSupervisor _ _, ?_, ?_, mlog.trans hlog, mowners.trans howners, fun _ => msup⟩
    · rw [isOpen, mget]
      exact hclosed
    · rw [mget, hget]
  · rename_i hother
    exact ⟨wc, hclosed, by rw [hget], hlog, howners, fun h => absurd (hsup.trans h) hother⟩

theorem releaseAll_closed {s : State} (w : HostInv s.host) {n : Nat} (h : isOpen s n = false) (m log : Nat) :
    ctxGet (releaseAll m log s) n = ctxGet s n := by
  have key := foldl_inv (fun t : State => HostInv t.host ∧ ctxGet t n = ctxGet s n)
    (fun t id => changeOwner log id 0xFF t)
    (fun t id ht => ⟨ht.1.changeOwner _ _ _,
      (changeOwner_closed ht.1.ctxsWf (by rw [isOpen, ht.2]; exact h) log id 0xFF).trans ht.2⟩)
    (allResources.filter (fun id => ownerOf s id == m)) s ⟨w, rfl⟩
  exact key.2

/-- A context that has closed is not open, has an empty queue and no mooring, and is not the supervisor. -/
theorem closeContext_spec {n : Nat} {s : State} (w : HostInv s.host) (hn : 2 ≤ n) (h : isOpen s n = true)
    (cause log : Nat) :
    isOpen (closeContext n cause log s) n = false ∧ (ctxGet (closeContext n cause log s) n).queue = []
    ∧ (closeContext n cause log s).host.log = s.host.log
    ∧ (s.host.supervisor = ctxOf n → (closeContext n cause log s).host.supervisor = .h0)
    ∧ ∀ id ∈ allResources, ownerOf s id = n → ownerOf (closeContext n cause log s) id = 0xFF := by
  obtain ⟨wu, uopen, uqueue, ulog, uowners, usup⟩ := unsupervised_spec w hn log
  have rget := releaseAll_closed wu uopen n log
  have ropen : isOpen (releaseAll n log (unsupervised n log s)) n = false := by rw [isOpen, rget]; exact uopen
  have hget : ctxGet (closeContext n cause log s) n = ctxGet (unsupervised n log s) n := by
    rw [closeContext_eq h]
    exact (postSel_closed (wu.releaseAll n log).ctxsWf ropen _ _ _ _ _ _).trans rget
  obtain ⟨-, rlog, rsup⟩ := changeOwners_frame log id (fun _ => 0xFF)
    (allResources.filter (fun id => ownerOf (unsupervised n log s) id == n)) (unsupervised n log s)
  obtain ⟨plog, -, -, psup, powners, -⟩ := postSel_host [0, 1, 2, 3, 4] 0x0102 n log cause .none
    (releaseAll n log (unsupervised n log s))
  refine ⟨by rw [isOpen, hget]; exact uopen, by rw [hget]; exact uqueue, ?_, fun hs => ?_, fun id hid ho => ?_⟩
  · rw [closeContext_eq h]
    exact plog.trans (rlog.trans ulog)
  · rw [closeContext_eq h]
    exact psup.trans (rsup.trans (usup hs))
  · rw [closeContext_eq h, ownerOf, post, powners]
    exact ownerOf_releaseAll wu.ownersWf n log hid (by rw [ownerOf, uowners]; exact ho)

theorem HostInv.closeContext {s : State} (w : HostInv s.host) {n : Nat} (hn : 2 ≤ n) (cause log : Nat) :
    HostInv (Sys2Proof.Machine.closeContext n cause log s).host := by
  by_cases h : isOpen s n = true
  · rw [closeContext_eq h]
    exact ((unsupervised_spec w hn log).1.releaseAll n log).post _ _ _ _ _
  · unfold Sys2Proof.Machine.closeContext
    simp only [h]
    exact w

end Sys2Proof.Machine
end

section
/-! PROOF. The commands of groups 0x01 and 0x02: reads, HELLO and BYE, moorings, and the other effects. -/

namespace Sys2Proof.Machine

theorem logBefore_takeLog (s : State) : logBefore (takeLog s) s.host.log
    = if s.host.log = 1 then (if s.host.logWrapped then 0xFFFFFFFF else 0) else s.host.log - 1 := by
  unfold logBefore
  split
  · rename_i h
    simp [takeLog, h]
  · rfl

/-! ### HELLO and BYE -/

/-- The state in which HELLO has opened a closed context and said so. -/
def openedState (n level log : Nat) (s : State) : State :=
  let s1 := ctxMod s n (fun c => { c with isOpen := true, level1 := level == 1, mask := 0xFFFE, queue := [], seq := 0 })
  post 0x0101 n log level .none
    (if n = 4 then { s1 with host := { s1.host with h4Controller := s1.host.vendor.map (·.1) } } else s1)

theorem openedState_spec {s : State} (w : HostInv s.host) (n level log : Nat) :
    rest (openedState n level log s) = rest s ∧ HostInv (openedState n level log s).host
    ∧ (openedState n level log s).host.log = s.host.log
    ∧ (openedState n level log s).host.supervisor = s.host.supervisor
    ∧ isOpen (openedState n level log s) n = true ∧ (ctxGet (openedState n level log s) n).level1 = (level == 1)
    ∧ (ctxGet (openedState n level log s) n).mask = 0xFFFE := by
  have key : ∀ u : State, rest u = rest s → HostInv u.host → u.host.log = s.host.log →
      u.host.supervisor = s.host.supervisor → isOpen u n = true → (ctxGet u n).level1 = (level == 1) →
      (ctxGet u n).mask = 0xFFFE →
      rest (post 0x0101 n log level .none u) = rest s ∧ HostInv (post 0x0101 n log level .none u).host
      ∧ (post 0x0101 n log level .none u).host.log = s.host.log
      ∧ (post 0x0101 n log level .none u).host.supervisor = s.host.supervisor
      ∧ isOpen (post 0x0101 n log level .none u) n = true
      ∧ (ctxGet (post 0x0101 n log level .none u) n).level1 = (level == 1)
      ∧ (ctxGet (post 0x0101 n log level .none u) n).mask = 0xFFFE := by
    intro u hrest hw hlog hsup hopen hlevel hmask
    obtain ⟨plog, -, -, psup, -⟩ := postSel_host [0, 1, 2, 3, 4] 0x0101 n log level .none u
    exact ⟨(postSel_rest _ _ _ _ _ _ _).trans hrest, hw.post _ _ _ _ _, plog.trans hlog, psup.trans hsup,
      (postSel_ctx (·.isOpen) (fun _ _ _ => rfl) hw.ctxsWf _ _ _ _ _ _ n).2.trans hopen,
      (postSel_ctx (·.level1) (fun _ _ _ => rfl) hw.ctxsWf _ _ _ _ _ _ n).2.trans hlevel,
      (postSel_ctx (·.mask) (fun _ _ _ => rfl) hw.ctxsWf _ _ _ _ _ _ n).2.trans hmask⟩
  have hget := ctxMod_get_same w.ctxsWf n
    (fun c => { c with isOpen := true, level1 := level == 1, mask := 0xFFFE, queue := [], seq := 0 })
  have hw := w.ctxMod n
    (fun c => { c with isOpen := true, level1 := level == 1, mask := 0xFFFE, queue := [], seq := 0 }) rfl (fun _ => rfl)
  unfold openedState
  dsimp only
  split
  · exact key _ rfl (hw.of_eq rfl rfl rfl rfl) rfl rfl (congrArg CtxState.isOpen hget) (congrArg CtxState.level1 hget)
      (congrArg CtxState.mask hget)
  · exact key _ rfl hw rfl rfl (congrArg CtxState.isOpen hget) (congrArg CtxState.level1 hget)
      (congrArg CtxState.mask hget)

/-- Claiming the default moorings changes owners and queues alone. -/
theorem claimDefaults_spec {γ : Type} (g : CtxState → γ) (hg : ∀ c q k, g { c with queue := q, seq := k } = g c)
    {s : State} (w : tblWf CtxState.closed s.host.ctxs = true) (n log m : Nat) :
    rest (claimDefaults n log s) = rest s ∧ (claimDefaults n log s).host.log = s.host.log
    ∧ (claimDefaults n log s).host.supervisor = s.host.supervisor
    ∧ tblWf CtxState.closed (claimDefaults n log s).host.ctxs = true
    ∧ g (ctxGet (claimDefaults n log s) m) = g (ctxGet s m) := by
  unfold claimDefaults
  split
  · exact ⟨rfl, rfl, rfl, w, rfl⟩
  · rename_i c _
    obtain ⟨h1, h2, h3⟩ := changeOwners_frame log Prod.fst (fun _ => n)
      (c.moorings.filter (fun m => m.2 == n && ownerOf s m.1 == 0xFF)) s
    exact ⟨h1, h2, h3, changeOwners_ctx g hg w log Prod.fst (fun _ => n) _ m⟩

theorem HostInv.claimDefaults {s : State} (w : HostInv s.host) (n log : Nat) :
    HostInv (Sys2Proof.Machine.claimDefaults n log s).host := by
  unfold Sys2Proof.Machine.claimDefaults
  split
  · exact w
  · exact w.changeOwners log Prod.fst (fun _ => n) _

theorem helloDo_closed {o : Issue} {p : List Byte} {log : Nat} {s : State} (h : isOpen s (ctxNum o.ctx) = false) :
    helloDo o p log s = okWith (b4 Config.deviceId
        ++ b4 (claimDefaults (ctxNum o.ctx) log (openedState (ctxNum o.ctx) (u8 p 0) log s)).fw.running.fwVersion
        ++ b1 (ctxNum o.ctx)
        ++ b1 (ctxNum (claimDefaults (ctxNum o.ctx) log (openedState (ctxNum o.ctx) (u8 p 0) log s)).host.supervisor)
        ++ b1 (u8 p 0) ++ zeros 1)
      (claimDefaults (ctxNum o.ctx) log (openedState (ctxNum o.ctx) (u8 p 0) log s)) := by
  unfold helloDo
  simp only [h]
  rfl

theorem helloDo_open {o : Issue} {p : List Byte} {log : Nat} {s : State} (h : isOpen s (ctxNum o.ctx) = true) :
    helloDo o p log s = okWith (b4 Config.deviceId ++ b4 s.fw.running.fwVersion ++ b1 (ctxNum o.ctx)
        ++ b1 (ctxNum s.host.supervisor) ++ b1 (u8 p 0) ++ zeros 1)
      (ctxMod s (ctxNum o.ctx) (fun c => { c with level1 := u8 p 0 == 1 })) := by
  unfold helloDo
  simp only [h]
  rfl



/-! ### Mooring commands -/

/-- A mooring command of which no listed resource fails does its effect on each, in the order of the list (R34). -/
theorem mooringCommand_all {p : List Byte} {statusOf : Nat → Nat} {effect : Nat → State → State} {s : State}
    (h : ∀ id ∈ listedIds p, statusOf id = 0) :
    mooringCommand p statusOf effect s = okWith [0xFF, 0] ((listedIds p).foldl (fun t id => effect id t) s) := by
  have hnone : (List.range (listedIds p).length).find? (fun i => statusOf ((listedIds p).getD i 0) != stOk) = none := by
    rw [List.find?_eq_none]
    intro i hi
    have hlt : i < (listedIds p).length := List.mem_range.mp hi
    rw [List.getD_eq_getElem _ _ hlt, h _ (List.getElem_mem hlt)]
    exact Bool.false_ne_true
  simp only [mooringCommand, hnone]
  rfl

/-- A mooring command with a listed resource that fails changes nothing and names the first (R34). -/
theorem mooringCommand_first {p : List Byte} {statusOf : Nat → Nat} (effect : Nat → State → State) (s : State) {i : Nat}
    (hi : i < (listedIds p).length) (hfails : statusOf ((listedIds p).getD i 0) ≠ 0)
    (hbefore : ∀ j < i, statusOf ((listedIds p).getD j 0) = 0) :
    mooringCommand p statusOf effect s = {
      s := s
      status := statusOf ((listedIds p).getD i 0)
      result := b1 i ++ b1 (statusOf ((listedIds p).getD i 0)) } := by
  have hfirst : (List.range (listedIds p).length).find? (fun i => statusOf ((listedIds p).getD i 0) != stOk) = some i := by
    rw [List.find?_range_eq_some]
    refine ⟨bne_iff_ne.mpr hfails, List.mem_range.mpr hi, ?_⟩
    intro j hj
    rw [hbefore j hj]
    rfl
  simp only [mooringCommand, hfirst]

/-- The outcome of CLAIM and RELEASE when no listed resource fails: each is given the owner `new`. -/
theorem mooring_changes {op : Nat} {o : Issue} {p : List Byte} {s : State} (w : HostInv s.host) (new : Nat) :
    ∃ t, answerOn op o s 0 [0xFF, 0]
        ((listedIds p).foldl (fun t id => changeOwner s.host.log id new t) (takeLog s)) = .next t
      ∧ Replied op o s 0 [0xFF, 0] t ∧ OnlyHost s t
      ∧ ∀ id, ownerOf t id = if id ∈ listedIds p then new else ownerOf s id := by
  obtain ⟨hrest, hlog, -⟩ := changeOwners_frame s.host.log id (fun _ => new) (listedIds p) (takeLog s)
  obtain ⟨t, ht, hreplied, honly, rfl⟩ := answerOn_onlyHost (op := op) (o := o) (status := 0) (result := [0xFF, 0])
    hlog ((onlyHost_takeLog s).trans (onlyHost_of_rest hrest))
  refine ⟨_, ht, hreplied, honly, fun id => ?_⟩
  rw [placeReply_ownerOf]
  exact ownerOf_changeOwners s.host.log new (listedIds p) w.takeLog.ownersWf id

theorem forceOne_spec {s : State} (w : tblWf 0xFF s.host.owners = true) (log id : Nat) :
    rest (forceOne log id s) = rest s ∧ (forceOne log id s).host.log = s.host.log
    ∧ tblWf 0xFF (forceOne log id s).host.owners = true
    ∧ ∀ j, ownerOf (forceOne log id s) j = if j = id ∧ ownerOf s j < 5 then 0xFF else ownerOf s j := by
  obtain ⟨hsame, hother, hwf⟩ := changeOwner_owner w log id 0xFF
  unfold forceOne
  dsimp only
  split
  · rename_i hlt
    obtain ⟨plog, -, -, -, powners, -⟩ := postSel_host [ownerOf s id] 0x0104 (id % 256) log
      (id + 65536 * ctxNum s.host.supervisor) .none (changeOwner log id 0xFF s)
    refine ⟨(postSel_rest _ _ _ _ _ _ _).trans (changeOwner_rest _ _ _ _), plog.trans (changeOwner_log _ _ _ _),
      by rw [powners]; exact hwf, fun j => ?_⟩
    rw [ownerOf, powners]
    by_cases e : j = id
    · subst e
      simp only [hlt, and_self, if_true]
      exact hsame
    · simp only [e, false_and, if_false]
      exact hother j e
  · rename_i hge
    refine ⟨rfl, rfl, w, fun j => ?_⟩
    by_cases e : j = id
    · subst e
      simp [hge]
    · simp [e]

theorem forceAll_spec (log : Nat) (ids : List Nat) {s : State} (w : tblWf 0xFF s.host.owners = true) :
    rest (ids.foldl (fun t id => forceOne log id t) s) = rest s
    ∧ (ids.foldl (fun t id => forceOne log id t) s).host.log = s.host.log
    ∧ ∀ j, ownerOf (ids.foldl (fun t id => forceOne log id t) s) j
        = if j ∈ ids ∧ ownerOf s j < 5 then 0xFF else ownerOf s j := by
  induction ids generalizing s with
  | nil => exact ⟨rfl, rfl, fun j => by simp⟩
  | cons i r ih =>
    obtain ⟨hrest, hlog, hwf, howner⟩ := forceOne_spec w log i
    obtain ⟨irest, ilog, iowner⟩ := ih hwf
    refine ⟨irest.trans hrest, ilog.trans hlog, fun j => ?_⟩
    rw [List.foldl_cons, iowner, howner]
    by_cases e : j = i
    · subst e
      by_cases hlt : ownerOf s j < 5 <;> simp [hlt]
    · simp [e]

theorem gateTo_host (n : Nat) (up cut : Bool) (ramp : Nat) (s : State) : (gateTo n up cut ramp s).host = s.host := by
  unfold gateTo
  split <;> rfl

theorem askRoutes_host (up : Bool) (ks : List Nat) (s : State) : (askRoutes up ks s).host = s.host := by
  unfold askRoutes
  exact foldl_keeps (fun t : State => t.host) (fun t k => rampMod t k (fun r => { r with pend := some up }))
    (fun _ _ => rfl) ks s

theorem startDeactivation_log (n : Nat) (q : QueuedAct) (s : State) :
    (startDeactivation n q s).host.log = s.host.log := by
  unfold startDeactivation
  rw [askRoutes_host, gateTo_host]
  exact (postSel_host _ _ _ _ _ _ _).1

/-- An ACTIVE overlay starts its deactivation (Table 4-10). -/
theorem deactivateOverlay_active {n : Nat} {q : QueuedAct} {s : State} (h : (ovGet s n).st = 3) :
    deactivateOverlay n q s = (stQueued, startDeactivation n q s) := by
  simp only [deactivateOverlay, h]

/-- The outcome of a binding that deactivates an ACTIVE overlay which is in no switch. -/
theorem bindingOutcome_deactivates {b : List Byte} {q : QueuedAct} {s : State} (hov : hasOverlay s (u8 b 4) = true)
    (hact : u8 b 3 = 2) (hst : (ovGet s (u8 b 4)).st = 3) (hsw : inSwitch s (u8 b 4) = false) :
    bindingOutcome b q s = (stQueued, fun t => (deactivateOverlay (u8 b 4) q t).2) := by
  have hnone : deactivateRefusal s (u8 b 4) = none := by
    simp [deactivateRefusal, firstRefusal, hst, hsw]
  simp only [bindingOutcome, hov, hact, hnone, deactivateOverlay_active hst]
  rfl

/-! ### Acknowledgement and flush -/

theorem ackEvents_frame (n count : Nat) (s : State) :
    rest (ackEvents n count s) = rest s ∧ (ackEvents n count s).host.log = s.host.log := by
  unfold ackEvents
  dsimp only
  split <;> exact ⟨rfl, rfl⟩

/-- Acknowledging drops the oldest entries and keeps the rest of the context (R39). -/
theorem ctxGet_ackEvents {s : State} (w : tblWf CtxState.closed s.host.ctxs = true) (n count : Nat) :
    ctxGet (ackEvents n count s) n = { ctxGet s n with queue := (ctxGet s n).queue.drop count } := by
  unfold ackEvents
  dsimp only
  split
  · rename_i h
    rcases Nat.min_eq_zero_iff.mp h with h0 | h0
    · rw [h0]
      rfl
    · rw [List.drop_eq_nil_of_le (h0 ▸ Nat.zero_le _), ← List.eq_nil_of_length_eq_zero h0]
  · have hdrop : (ctxGet s n).queue.drop (min count (ctxGet s n).queue.length) = (ctxGet s n).queue.drop count := by
      rcases Nat.le_total count (ctxGet s n).queue.length with h | h
      · rw [Nat.min_eq_left h]
      · rw [Nat.min_eq_right h, List.drop_length, List.drop_eq_nil_of_le h]
    have hget := ctxMod_get_same w n (fun c => { c with queue := c.queue.drop (min count (ctxGet s n).queue.length) })
    rw [hdrop] at hget
    exact hget

theorem makeSupervisor_rest (c : Ctx) (log : Nat) (s : State) : rest (makeSupervisor c log s) = rest s := by
  unfold makeSupervisor
  split
  · rfl
  · exact postSel_rest _ _ _ _ _ _ _


/-! ### Packets -/

/-- A packet whose CRC fails is answered BAD_CRC. -/
theorem takePacket_badCrc {source : Option (BitVec 64 × BitVec 16)} {n delivered : Nat} {b : List Byte} {v1 : Bool}
    {s : State} (hversion : packetVersion b = some v1)
    (hlength : (decide (1024 < packetLength v1 b) || delivered != packetTotal v1 b) = false)
    (hcrc : packetCrcOk v1 b = false) :
    takePacket source n b delivered s = failPacket n stBadCrc
      { v1 := v1, opcode := packetOpcode v1 b, tag := packetTag v1 b, payload := [], source := source, failed := none } s := by
  unfold takePacket
  simp only [hversion, hlength, hcrc]
  rfl

theorem failPacket_atOnce {n st : Nat} {h : Held} {s : State} (hempty : (ctxGet s n).held = [])
    (howed : replyOwedTo s n = false) : failPacket n st h s = placeReply n (failReply h st) s := by
  simp [failPacket, hempty, howed]

theorem failPacket_inTurn {n st : Nat} {h : Held} {s : State}
    (hwaits : (ctxGet s n).held ≠ [] ∨ replyOwedTo s n = true) :
    failPacket n st h s = ctxMod s n (fun c => { c with held := c.held ++ [{ h with failed := some st }] }) := by
  rcases hwaits with hheld | howed
  · simp [failPacket, hheld]
  · simp [failPacket, howed]

/-- The oldest fired binding is executed under the next log number (R82). -/
theorem exec_bindingExecute {s : State} {f : Fired} {r : List Fired} {c : Chart} (hfired : s.host.fired = f :: r)
    (hchart : s.cs.chart = some c) (hruns : cpRuns s = true) :
    exec .bindingExecute s = .next
      ((bindingOutcome (c.binding f.index) (bindingRequest c (c.binding f.index) f.index s.host.log)
          (takeLog { s with host := { s.host with fired := r } })).2
        (post 0x0302 f.index s.host.log
          ((bindingOutcome (c.binding f.index) (bindingRequest c (c.binding f.index) f.index s.host.log)
            (takeLog { s with host := { s.host with fired := r } })).1 + 256 * f.code + 16777216 * f.inst)
          (.res [0x0200 + u8 (c.binding f.index) 4]) (takeLog { s with host := { s.host with fired := r } }))) := by
  show execBindingExecute s = _
  simp [execBindingExecute, whenever, bindingExecute, hruns, hfired, hchart]



/-! ### A fired binding that deactivates an overlay -/

theorem gateTo_cs (n : Nat) (up cut : Bool) (ramp : Nat) (s : State) : (gateTo n up cut ramp s).cs = s.cs := by
  unfold gateTo
  split <;> rfl

theorem askRoutes_cs (up : Bool) (ks : List Nat) (s : State) : (askRoutes up ks s).cs = s.cs := by
  unfold askRoutes
  exact foldl_keeps (fun t : State => t.cs) (fun t k => rampMod t k (fun r => { r with pend := some up }))
    (fun _ _ => rfl) ks s

theorem enterOv_cs (n st : Nat) (s : State) :
    (enterOv n st s).cs = (ovMod s n (fun q => { q with st := st })).cs := (post_others _ _ _ _ _ _).2.2.1

/-- An overlay that enters a state other than INACTIVE is in it. -/
theorem ovGet_enterOv_st {n st : Nat} (hst : st ≠ 0) (s : State) : (ovGet (enterOv n st s) n).st = st := by
  have hne : ({ ovGet s n with st := st } : Overlay) ≠ Overlay.inactive := fun h => hst (congrArg Overlay.st h)
  rw [ovGet, enterOv_cs]
  exact congrArg Overlay.st (tget_tset_same_ne Overlay.inactive s.cs.overlays n hne)

theorem ovGet_startDeactivation_st (n : Nat) (q : QueuedAct) (s : State) : (ovGet (startDeactivation n q s) n).st = 4 := by
  unfold startDeactivation ovGet
  rw [askRoutes_cs, gateTo_cs]
  exact ovGet_enterOv_st (by decide) _

end Sys2Proof.Machine
end

section
/-! PROOF. The statements on the host part and on the commands of groups 0x01 and 0x02. -/

namespace Sys2Proof

open Sys2Proof.Machine

/-- Settles O9: each accepted read answers what its `…Result` says (`hostCommand_accepted`); GET_INFO by whether a chart is
in force. -/
theorem systemReadsAnswer : Obligations.SystemReadsAnswer := by
  intro o p s
  refine ⟨?infoChart, ?infoNone, ?state, ?moorings, ?logNumber, ?echo, ?eventRead, ?eventStatus⟩
  case infoChart =>
    intro c hc h
    refine (hostCommand_accepted h getInfoDo).trans ?_
    simp only [getInfoDo, okWith, logBefore_takeLog, takeLog_others, hc]
    rfl
  case infoNone =>
    intro hc h
    refine ⟨openValue (takeLog s) 0, openValue (takeLog s) 1, (hostCommand_accepted h getInfoDo).trans ?_⟩
    simp only [getInfoDo, okWith, logBefore_takeLog, takeLog_others, hc]
    rfl
  case state => exact fun h => hostCommand_accepted h (reads getStateResult)
  case moorings => exact fun h => hostCommand_accepted h (reads (getMooringsResult p))
  case logNumber => exact fun h => hostCommand_accepted h getLogNumberDo
  case echo => exact fun h => hostCommand_accepted h (reads (fun _ => p))
  case eventRead => exact fun h => hostCommand_accepted h (reads (eventReadResult o p))
  case eventStatus => exact fun h => hostCommand_accepted h (reads (eventStatusResult o))

/-- Settles O10: HELLO by whether the context is open (`helloDo_open`, `helloDo_closed` with `openedState_spec`), BYE by
whether the context can close (`closeContext_spec`). -/
theorem helloOpensByeCloses : Obligations.HelloOpensByeCloses := by
  intro o p s w
  have wt : HostInv (takeLog s).host := w.takeLog
  refine ⟨?level, ?opens, ?byeKept, ?byeCloses⟩
  case level =>
    intro h hopen
    refine (hostCommand_accepted h (helloDo o p)).trans ?_
    rw [helloDo_open ((takeLog_isOpen s _).trans hopen)]
    rfl
  case opens =>
    intro h hclosed
    obtain ⟨orest, ow, olog, osup, oopen, olevel, omask⟩ :=
      openedState_spec wt (ctxNum o.ctx) (u8 p 0) s.host.log
    have hc := fun {γ : Type} (g : CtxState → γ) hg =>
      claimDefaults_spec g hg ow.ctxsWf (ctxNum o.ctx) s.host.log (ctxNum o.ctx)
    obtain ⟨crest, clog, csup, cwf, copen⟩ := hc (·.isOpen) (fun _ _ _ => rfl)
    have hrest := crest.trans orest
    obtain ⟨t, ht, hreplied, honly, rfl⟩ := answerOn_onlyHost (op := 0x0101) (o := o) (status := 0)
      (result := b4 0x256000B1 ++ b4 s.fw.running.fwVersion ++ b1 (ctxNum o.ctx) ++ b1 (ctxNum s.host.supervisor)
            ++ b1 (u8 p 0) ++ [0]) (clog.trans olog) ((onlyHost_takeLog s).trans (onlyHost_of_rest hrest))
    refine ⟨_, ?_, hreplied, replied_frame _ (fun _ _ => rfl) cwf _ _ _ (copen.trans oopen),
      replied_frame _ (fun _ _ => rfl) cwf _ _ _ ((hc (·.level1) (fun _ _ _ => rfl)).2.2.2.2.trans olevel),
      replied_frame _ (fun _ _ => rfl) cwf _ _ _ ((hc (·.mask) (fun _ _ _ => rfl)).2.2.2.2.trans omask), honly⟩
    refine (hostCommand_accepted h (helloDo o p)).trans ?_
    rw [helloDo_closed ((takeLog_isOpen s _).trans hclosed), csup, osup, fw_of_rest hrest]
    exact ht
  case byeKept =>
    intro h hn
    have hopen : isOpen (takeLog s) (ctxNum o.ctx) = true := w.openBelow hn
    have hdo : byeDo o s.host.log (takeLog s) = ok (ctxMod (releaseAll (ctxNum o.ctx) s.host.log (takeLog s))
        (ctxNum o.ctx) (fun c => { c with mask := 0xFFFE })) := by
      unfold byeDo
      simp only [hn.not_ge]
      rfl
    obtain ⟨rrest, rlog, -⟩ := changeOwners_frame s.host.log id (fun _ => 0xFF)
      (allResources.filter (fun id => ownerOf (takeLog s) id == ctxNum o.ctx)) (takeLog s)
    obtain ⟨rwf, ropen⟩ := changeOwners_ctx (·.isOpen) (fun _ _ _ => rfl) wt.ctxsWf s.host.log id (fun _ => 0xFF)
      (allResources.filter (fun id => ownerOf (takeLog s) id == ctxNum o.ctx)) (ctxNum o.ctx)
    have hget := ctxMod_get_same rwf (ctxNum o.ctx) (fun c => { c with mask := 0xFFFE })
    obtain ⟨t, ht, hreplied, honly, rfl⟩ := answerOn_onlyHost (op := 0x0102) (o := o) (status := 0) (result := [])
      (u := ctxMod (releaseAll (ctxNum o.ctx) s.host.log (takeLog s)) (ctxNum o.ctx) (fun c => { c with mask := 0xFFFE }))
      rlog ((onlyHost_takeLog s).trans ((onlyHost_of_rest rrest).trans (onlyHost_ctxMod _ _ _)))
    refine ⟨_, ?_, hreplied,
      replied_frame (·.isOpen) (fun _ _ => rfl) (ctxMod_wf rwf _ _) _ _ _
        ((congrArg CtxState.isOpen hget).trans (ropen.trans hopen)),
      replied_frame (·.mask) (fun _ _ => rfl) (ctxMod_wf rwf _ _) _ _ _ (congrArg CtxState.mask hget), honly, ?_⟩
    · refine (hostCommand_accepted h (byeDo o)).trans ?_
      rw [hdo]
      exact ht
    · intro id hid ho
      rw [placeReply_ownerOf]
      exact ownerOf_releaseAll wt.ownersWf _ _ hid ho
  case byeCloses =>
    intro h hn
    have hdo : byeDo o s.host.log (takeLog s) = ok (closeContext (ctxNum o.ctx) 0 s.host.log (takeLog s)) := by
      unfold byeDo
      simp only [hn]
      rfl
    have hopen : isOpen s (ctxNum o.ctx) = true := accepted_open h (by decide)
    obtain ⟨copen, -, clog, -, cowner⟩ := closeContext_spec wt hn hopen 0 s.host.log
    refine ⟨placeReply (ctxNum o.ctx) (replyTo 0x0102 o 0 s.host.log [])
      (closeContext (ctxNum o.ctx) 0 s.host.log (takeLog s)), ?_, ⟨lastReply_placeReply _ _ _, ?_⟩, ?_, ?_⟩
    · refine (hostCommand_accepted h (byeDo o)).trans ?_
      rw [hdo]
      rfl
    · exact (placeReply_host _ _ _).1.trans clog
    · exact replied_frame (·.isOpen) (fun _ _ => rfl) (wt.closeContext hn _ _).ctxsWf _ _ _ copen
    · intro id hid ho
      rw [placeReply_ownerOf]
      exact cowner id hid ho

/-- Settles O11: `mooringCommand` either does its effect on every listed resource or answers for the first that fails. -/
theorem mooringCommandsAllOrNone : Obligations.MooringCommandsAllOrNone := by
  intro o p s w
  refine ⟨?claims, ?releases, ?forces, ?claimFails, ?releaseFails, ?forceFails⟩
  case claims =>
    intro h hall
    have heq : exec (.claim o p) s = _ := hostCommand_accepted h (claimDo o p)
    have hdo : claimDo o p s.host.log (takeLog s) = _ := mooringCommand_all hall
    rw [heq, hdo]
    exact mooring_changes w (ctxNum o.ctx)
  case releases =>
    intro h hall
    have heq : exec (.release o p) s = _ := hostCommand_accepted h (releaseDo o p)
    have hdo : releaseDo o p s.host.log (takeLog s) = _ := mooringCommand_all hall
    rw [heq, hdo]
    exact mooring_changes w 0xFF
  case forces =>
    intro h hall
    have heq : exec (.forceRelease o p) s = _ := hostCommand_accepted h (forceReleaseDo p)
    have hdo : forceReleaseDo p s.host.log (takeLog s) = _ := mooringCommand_all hall
    rw [heq, hdo]
    obtain ⟨hrest, hlog, howner⟩ := forceAll_spec s.host.log (listedIds p) w.takeLog.ownersWf
    obtain ⟨t, ht, hreplied, honly, rfl⟩ := answerOn_onlyHost (op := 0x0107) (o := o) (status := 0) (result := [0xFF, 0])
      hlog ((onlyHost_takeLog s).trans (onlyHost_of_rest hrest))
    refine ⟨_, ht, hreplied, honly, fun id => ?_⟩
    rw [placeReply_ownerOf]
    exact howner id
  case claimFails =>
    intro i hi h hfails hbefore
    have hdo : claimDo o p s.host.log (takeLog s) = _ := mooringCommand_first _ _ hi hfails hbefore
    refine (hostCommand_accepted h (claimDo o p)).trans ?_
    rw [hdo]
    rfl
  case releaseFails =>
    intro i hi h hfails hbefore
    have hdo : releaseDo o p s.host.log (takeLog s) = _ := mooringCommand_first _ _ hi hfails hbefore
    refine (hostCommand_accepted h (releaseDo o p)).trans ?_
    rw [hdo]
    rfl
  case forceFails =>
    intro i hi h hfails hbefore
    have hdo : forceReleaseDo p s.host.log (takeLog s) = _ := mooringCommand_first _ _ hi hfails hbefore
    refine (hostCommand_accepted h (forceReleaseDo p)).trans ?_
    rw [hdo]
    rfl

/-- Settles O12. -/
theorem systemCommandsTakeEffect : Obligations.SystemCommandsTakeEffect := by
  intro o p s w
  have wt : HostInv (takeLog s).host := w.takeLog
  refine ⟨?supervisor, ?pinSet, ?reset, ?ack, ?subscribe, ?flush⟩
  case supervisor =>
    intro h
    obtain ⟨mlog, mowners, msup⟩ := makeSupervisor_host (ctxOf (u8 p 0)) s.host.log (takeLog s)
    obtain ⟨t, ht, hreplied, honly, rfl⟩ := answerOn_onlyHost (op := 0x0109) (o := o) (status := 0) (result := [])
      mlog ((onlyHost_takeLog s).trans (onlyHost_of_rest (makeSupervisor_rest _ _ _)))
    obtain ⟨-, psup, powners, -⟩ := placeReply_host (ctxNum o.ctx) (replyTo 0x0109 o 0 s.host.log [])
      (makeSupervisor (ctxOf (u8 p 0)) s.host.log (takeLog s))
    exact ⟨_, (hostCommand_accepted h (setSupervisorDo p)).trans ht, hreplied, honly, psup.trans msup,
      powners.trans mowners⟩
  case pinSet =>
    intro h
    have hdo : irqAssignDo p s.host.log (takeLog s) = ok (refreshPins { (takeLog s) with host := { (takeLog s).host with
        irqSetA := if u8 p 0 = 0 then u8 p 1 else s.host.irqSetA
        irqSetB := if u8 p 0 = 0 then s.host.irqSetB else u8 p 1 } }) := by
      unfold irqAssignDo
      split <;> rfl
    obtain ⟨t, ht, hreplied, honly, rfl⟩ := answerOn_onlyHost (op := 0x010A) (o := o) (status := 0) (result := [])
      (u := (irqAssignDo p s.host.log (takeLog s)).s) (by rw [hdo]; rfl) (by rw [hdo]; rfl)
    obtain ⟨-, -, -, hA, hB, -⟩ := placeReply_host (ctxNum o.ctx) (replyTo 0x010A o 0 s.host.log [])
      (irqAssignDo p s.host.log (takeLog s)).s
    refine ⟨_, (hostCommand_accepted h (irqAssignDo p)).trans ht, hreplied, honly, ?_⟩
    rw [hA, hB, hdo]
    split <;> rfl
  case reset => exact fun h => hostCommand_accepted h resetDo
  case ack =>
    intro h
    obtain ⟨hrest, hlog⟩ := ackEvents_frame (ctxNum o.ctx) (u8 p 0) (takeLog s)
    have hget := ctxGet_ackEvents wt.ctxsWf (ctxNum o.ctx) (u8 p 0)
    have hqueue : (ctxGet (ackEvents (ctxNum o.ctx) (u8 p 0) (takeLog s)) (ctxNum o.ctx)).queue
        = (ctxGet s (ctxNum o.ctx)).queue.drop (u8 p 0) := by rw [hget]; rfl
    have hseq : (ctxGet (ackEvents (ctxNum o.ctx) (u8 p 0) (takeLog s)) (ctxNum o.ctx)).seq
        = (ctxGet s (ctxNum o.ctx)).seq := by rw [hget]; rfl
    obtain ⟨t, ht, hreplied, honly, rfl⟩ := answerOn_onlyHost (op := 0x0202) (o := o) (status := 0)
      (result := b1 (ctxGet (ackEvents (ctxNum o.ctx) (u8 p 0) (takeLog s)) (ctxNum o.ctx)).queue.length)
      hlog ((onlyHost_takeLog s).trans (onlyHost_of_rest hrest))
    refine ⟨_, (hostCommand_accepted h (eventAckDo o p)).trans ht, ?_, honly,
      replied_frame (·.queue) (fun _ _ => rfl) (wt.ackEvents _ _).ctxsWf _ _ _ hqueue,
      replied_frame (·.seq) (fun _ _ => rfl) (wt.ackEvents _ _).ctxsWf _ _ _ hseq⟩
    rw [← List.length_drop, ← hqueue]
    exact hreplied
  case subscribe => exact fun h => hostCommand_accepted h (eventSubscribeDo o p)
  case flush =>
    intro h
    have hget : ctxGet (refreshPins (ctxMod (takeLog s) (ctxNum o.ctx) (fun c => { c with queue := [] }))) (ctxNum o.ctx)
        = { ctxGet s (ctxNum o.ctx) with queue := [] } :=
      ctxMod_get_same wt.ctxsWf (ctxNum o.ctx) (fun c => { c with queue := [] })
    have hwf : tblWf CtxState.closed
        (refreshPins (ctxMod (takeLog s) (ctxNum o.ctx) (fun c => { c with queue := [] }))).host.ctxs = true :=
      ctxMod_wf wt.ctxsWf (ctxNum o.ctx) (fun c => { c with queue := [] })
    obtain ⟨t, ht, hreplied, honly, rfl⟩ := answerOn_onlyHost (op := 0x0205) (o := o) (status := 0)
      (result := b1 (ctxGet s (ctxNum o.ctx)).queue.length)
      (u := refreshPins (ctxMod (takeLog s) (ctxNum o.ctx) (fun c => { c with queue := [] }))) rfl rfl
    exact ⟨_, (hostCommand_accepted h (eventFlushDo o)).trans ht, hreplied, honly,
      replied_frame (·.queue) (fun _ _ => rfl) hwf _ _ _ (by rw [hget]),
      replied_frame (·.seq) (fun _ _ => rfl) hwf _ _ _ (by rw [hget])⟩

/-- Settles O14: the checks of `takePacket` in their order. -/
theorem packetIsHeldOrAnswered : Obligations.PacketIsHeldOrAnswered := by
  intro c b v1 s htaken hversion hlen htotal
  have hexec : exec (.packetReceived c b) s = .next (takePacket none (ctxNum c) b b.length s) := by
    show execPacketReceived c b s = _
    rw [execPacketReceived, if_pos htaken]
    rfl
  have hlengthOk : (decide (1024 < packetLength v1 b) || b.length != packetTotal v1 b) = false := by
    simp [hlen, htotal]
  refine ⟨?atOnce, ?inTurn, ?held⟩
  case atOnce =>
    intro hcrc hempty howed
    rw [hexec, takePacket_badCrc hversion hlengthOk hcrc, failPacket_atOnce hempty howed]
    rfl
  case inTurn =>
    intro hcrc hwaits
    rw [hexec, takePacket_badCrc hversion hlengthOk hcrc, failPacket_inTurn hwaits]
    rfl
  case held =>
    intro hcrc hlevel hop hlength hroom
    have hlevel1 : (v1 && !(ctxGet s (ctxNum c)).level1) = false := by
      cases v1
      · rfl
      · simp [hlevel rfl]
    rw [hexec, takePacket]
    simp only [hversion, hlengthOk, hcrc, hlevel1, hop, hlength, hroom.not_ge]
    rfl

/-- Settles O15: the branches of `execCommandTake`; the meaning of an opcode answers a next state (`hostDispatch_next`). -/
theorem commandTakeServesInTurn : Obligations.CommandTakeServesInTurn := by
  refine ⟨?inTurn, ?usb, ?net⟩
  case inTurn =>
    intro n h l s husb hnet hfind hheld
    have hexec : exec .commandTake s = runHeld n h s := by
      show execCommandTake s = _
      simp only [execCommandTake, husb, hnet, hfind, hheld]
      rfl
    obtain ⟨t, ht⟩ := hostDispatch_next h.opcode { ctx := ctxOf n, tag := h.tag, v1 := h.v1 } h.payload (takeHeld n h s)
    refine ⟨fun hown => ⟨t, ht, ?_⟩, fun hforeign => ?_⟩
    · simp [hexec, runHeld, hown, ht]
    · simp [hexec, runHeld, hforeign, stDenied]
  case usb =>
    intro s husb
    show execCommandTake s = _
    rw [execCommandTake, if_pos husb]
  case net =>
    intro s husb hnet
    show execCommandTake s = _
    rw [execCommandTake, husb, hnet]
    rfl

/-- Settles O16: the pins by unfolding, H4 by `closeContext_spec`, a fired binding by `exec_bindingExecute`. -/
theorem hostStepsOfThePart : Obligations.HostStepsOfThePart := by
  refine ⟨fun s => ⟨rfl, rfl⟩, ?linkTimeout, ?bindingRuns, ?bindingDeactivates⟩
  case linkTimeout =>
    intro s w hlink hopen
    obtain ⟨copen, cqueue, -, csup, cowner⟩ := closeContext_spec w (by decide) hopen 3 0
    refine ⟨closeContext 4 3 0 s, ?_, copen, cqueue, csup, cowner⟩
    show execH4LinkTimeout s = _
    simp [execH4LinkTimeout, whenever, hlink, hopen]
  case bindingRuns =>
    rintro s _ f r c _ _ hfired hchart hruns rfl rfl rfl
    exact exec_bindingExecute hfired hchart hruns
  case bindingDeactivates =>
    intro s f r c hfired hchart hruns hov hact hst hsw
    have hout := bindingOutcome_deactivates
      (q := bindingRequest c (c.binding f.index) f.index s.host.log)
      (s := takeLog { s with host := { s.host with fired := r } }) hov hact hst hsw
    rw [exec_bindingExecute hfired hchart hruns, hout]
    obtain ⟨-, -, pcs, -⟩ := post_others 0x0302 f.index s.host.log (stQueued + 256 * f.code + 16777216 * f.inst)
      (.res [0x0200 + u8 (c.binding f.index) 4]) (takeLog { s with host := { s.host with fired := r } })
    obtain ⟨plog, -⟩ := postSel_host [0, 1, 2, 3, 4] 0x0302 f.index s.host.log
      (stQueued + 256 * f.code + 16777216 * f.inst) (.res [0x0200 + u8 (c.binding f.index) 4])
      (takeLog { s with host := { s.host with fired := r } })
    have hdeact := fun q => deactivateOverlay_active (q := q) (show _ = 3 by rw [ovGet, pcs]; exact hst)
    refine ⟨_, rfl, ?_, ?_⟩
    · exact (congrArg (fun e : Nat × State => (ovGet e.2 (u8 (c.binding f.index) 4)).st) (hdeact _)).trans
        (ovGet_startDeactivation_st _ _ _)
    · exact (congrArg (fun e : Nat × State => e.2.host.log) (hdeact _)).trans
        ((startDeactivation_log _ _ _).trans plog)

end Sys2Proof
end

section
/-! PROOF. The invariant of the host part through the shared operations. The operands of each rule are implicit: its
conclusion is unified with the goal first, and its premise is the invariant of the state that the operation is given. -/

namespace Sys2Proof.Machine

/-- The outcome is a next state, and its host part is within the invariant. -/
def NextInv : Host.Outcome State Fault Refusal → Prop
  | .next t => HostInv t.host
  | .fault _ => False
  | .refused _ => False

theorem NextInv.next {t : State} (inv : HostInv t.host) : NextInv (.next t) := inv

theorem HostInv.posted {s : State} {code inst log data : Nat} {cn : Concern} (inv : HostInv s.host) :
    HostInv (Machine.post code inst log data cn s).host := inv.post ..

theorem HostInv.postedSel {s : State} {sel : List Nat} {code inst log data : Nat} {cn : Concern} (inv : HostInv s.host) :
    HostInv (Machine.postSel sel code inst log data cn s).host := inv.postSel ..

theorem HostInv.completed {s : State} {x : Waiter} {st : Nat} (inv : HostInv s.host) : HostInv (Machine.complete x st s).host :=
  inv.complete ..

theorem HostInv.completedAll {s : State} {xs : List Waiter} {st : Nat} (inv : HostInv s.host) :
    HostInv (Machine.completeAll xs st s).host := inv.completeAll ..

theorem HostInv.replied {s : State} {n : Nat} {r : Reply} (inv : HostInv s.host) : HostInv (Machine.placeReply n r s).host :=
  inv.placeReply ..

theorem HostInv.acknowledged {s : State} {n count : Nat} (inv : HostInv s.host) : HostInv (Machine.ackEvents n count s).host :=
  inv.ackEvents ..

theorem HostInv.mooringChanged {s : State} {log id new : Nat} (inv : HostInv s.host) :
    HostInv (Machine.changeOwner log id new s).host := inv.changeOwner ..

theorem HostInv.supervised {s : State} {c : Ctx} {log : Nat} (inv : HostInv s.host) :
    HostInv (Machine.makeSupervisor c log s).host := inv.makeSupervisor ..

theorem HostInv.released {s : State} {n log : Nat} (inv : HostInv s.host) : HostInv (Machine.releaseAll n log s).host :=
  inv.releaseAll ..

theorem HostInv.defaultsClaimed {s : State} {n log : Nat} (inv : HostInv s.host) :
    HostInv (Machine.claimDefaults n log s).host := inv.claimDefaults ..

theorem HostInv.owned {s : State} {id owner : Nat} (inv : HostInv s.host) : HostInv (Machine.setOwner s id owner).host :=
  inv.setOwner ..

theorem HostInv.entered {s : State} {code inst stamp log data n : Nat} (inv : HostInv s.host) :
    HostInv (Machine.enterEvent code inst stamp log data s n).host := inv.enterEvent ..

theorem HostInv.delivered {s : State} {sel : List Nat} {code inst stamp log data : Nat} {cn : Concern}
    (inv : HostInv s.host) : HostInv (Machine.deliver sel code inst stamp log data cn s).host := inv.deliver ..

theorem HostInv.contextClosed {s : State} {n cause log : Nat} (hn : 2 ≤ n) (inv : HostInv s.host) :
    HostInv (Machine.closeContext n cause log s).host := inv.closeContext hn ..

/-- A change of a context that leaves its queue and whether it is open keeps the invariant. -/
theorem HostInv.ctxModQuiet {s : State} {n : Nat} {f : CtxState → CtxState} (inv : HostInv s.host)
    (hq : ∀ c, (f c).queue = c.queue) (ho : ∀ c, (f c).isOpen = c.isOpen) : HostInv (Machine.ctxMod s n f).host :=
  inv.ctxMod_quiet n f hq ho

theorem HostInv.ite {c : Prop} {dec : Decidable c} {s t : State} (hs : HostInv s.host) (ht : HostInv t.host) :
    HostInv (if c then s else t).host := by
  split
  · exact hs
  · exact ht

theorem HostInv.pairIte {α : Type} {c : Prop} {dec : Decidable c} {p q : α × State} (hp : HostInv p.2.host)
    (hq : HostInv q.2.host) : HostInv (if c then p else q).2.host := by
  split
  · exact hp
  · exact hq

theorem HostInv.doneIte {c : Prop} {dec : Decidable c} {d e : Done} (hd : HostInv d.s.host) (he : HostInv e.s.host) :
    HostInv (if c then d else e).s.host := by
  split
  · exact hd
  · exact he

/-- A fold keeps the invariant when each of its steps keeps it. -/
theorem HostInv.foldl {s : State} {β : Type} {f : State → β → State} {l : List β} (inv : HostInv s.host)
    (h : ∀ t x, HostInv t.host → HostInv (f t x).host) : HostInv (l.foldl f s).host :=
  foldl_inv (fun t : State => HostInv t.host) f h l s inv

/-- So does a fold that carries a value beside the state. -/
theorem HostInv.foldlPair {α β : Type} {p : α × State} {f : α × State → β → α × State} {l : List β}
    (inv : HostInv p.2.host) (h : ∀ q x, HostInv q.2.host → HostInv (f q x).2.host) : HostInv (l.foldl f p).2.host :=
  foldl_inv (fun q : α × State => HostInv q.2.host) f h l p inv

/-- A command that the CP takes keeps the invariant when what it does keeps it. -/
theorem HostInv.taken {s : State} {op : Nat} {o : Issue} {p : List Byte}
    {check : State → Option Nat} {run : Nat → State → State} (inv : HostInv s.host)
    (h : ∀ log (t : State), HostInv t.host → HostInv (run log t).host) : HostInv (Machine.hostTake op o p check run s).host :=
  inv.hostTake op o p check run h

theorem HostInv.hostCommand {s : State} {op : Nat} {o : Issue} {p : List Byte}
    {check : State → Option Nat} {act : Nat → State → Done} (inv : HostInv s.host)
    (h : ∀ log (t : State), HostInv t.host → HostInv (act log t).s.host) :
    NextInv (Machine.hostCommand op o p check act s) := inv.hostRun op o p check act h

theorem HostInv.whenever {s : State} {cond : State → Bool} {act : State → State} (inv : HostInv s.host)
    (h : ∀ t : State, HostInv t.host → HostInv (act t).host) : NextInv (Machine.whenever cond act s) := by
  show HostInv (if cond s then act s else s).host
  split
  · exact h s inv
  · exact inv

end Sys2Proof.Machine
end

section
/-! PROOF. What a CP absence and its end do to the contexts: the queues emptied, and the events that were lost counted. -/

namespace Sys2Proof.Machine

theorem tmapKeys_wfFrom {α : Type} [DecidableEq α] (d : α) (f : Nat → α → α) {t : Tbl α} {lo : Nat}
    (w : tblWfFrom d lo t = true) : tblWfFrom d lo (tmapKeys d t f) = true := by
  induction t generalizing lo with
  | nil => rfl
  | cons e r ih =>
    obtain ⟨k, v⟩ := e
    simp only [tblWfFrom, Bool.and_eq_true, decide_eq_true_eq] at w
    obtain ⟨⟨hlo, -⟩, hr⟩ := w
    have hrest : tblWfFrom d (k + 1) (tmapKeys d r f) = true := ih hr
    by_cases hd : f k v = d
    · have hcons : tmapKeys d ((k, v) :: r) f = tmapKeys d r f := by simp [tmapKeys, hd]
      rw [hcons]
      exact tblWfFrom_mono d (by omega) hrest
    · have hcons : tmapKeys d ((k, v) :: r) f = (k, f k v) :: tmapKeys d r f := by simp [tmapKeys, hd]
      rw [hcons]
      simp [tblWfFrom, hlo, hd, hrest]

/-- A function that keeps the default, applied at every key of a table. -/
theorem tget_tmapKeys {α : Type} [DecidableEq α] {d : α} {f : Nat → α → α} (hf : ∀ i, f i d = d) {t : Tbl α} {lo : Nat}
    (w : tblWfFrom d lo t = true) (i : Nat) : tget d (tmapKeys d t f) i = f i (tget d t i) := by
  induction t generalizing lo with
  | nil => exact (hf i).symm
  | cons e r ih =>
    obtain ⟨k, v⟩ := e
    simp only [tblWfFrom, Bool.and_eq_true, decide_eq_true_eq] at w
    obtain ⟨-, hr⟩ := w
    have hbelow : ∀ j, j < k + 1 → tget d (tmapKeys d r f) j = d := fun j hj => tget_below d (tmapKeys_wfFrom d f hr) hj
    by_cases hd : f k v = d
    · have hcons : tmapKeys d ((k, v) :: r) f = tmapKeys d r f := by simp [tmapKeys, hd]
      rw [hcons, tget]
      split
      · rename_i e
        rw [e, hd, hbelow k (by omega)]
      split
      · rw [hf, hbelow i (by omega)]
      · exact ih hr
    · have hcons : tmapKeys d ((k, v) :: r) f = (k, f k v) :: tmapKeys d r f := by simp [tmapKeys, hd]
      rw [hcons, tget, tget]
      split
      · rename_i e
        rw [e]
      split
      · rw [hf]
      · exact ih hr

/-- Emptying every queue keeps the invariant. -/
theorem HostInv.queuesEmptied {h : HostState} (inv : HostInv h) :
    HostInv { h with ctxs := tmapKeys CtxState.closed h.ctxs (fun _ c => { c with queue := [], mask := 0xFFFE }) } := by
  have hget := fun i => tget_tmapKeys (f := fun _ c => { c with queue := [], mask := 0xFFFE }) (fun _ => rfl) inv.ctxsWf i
  have hwf : tblWf CtxState.closed (tmapKeys CtxState.closed h.ctxs
      (fun _ c => { c with queue := [], mask := 0xFFFE })) = true := tmapKeys_wfFrom _ _ inv.ctxsWf
  refine { inv with ctxsWf := hwf, queues := fun n => ?_, open0 := ?_, open1 := ?_ }
  · rw [hget]
    rfl
  · rw [hget]
    exact inv.open0
  · rw [hget]
    exact inv.open1

/-- The queue in which `k` more events are counted as lost. -/
def lostQueue (q : List Event) (k : Nat) (e : Event) : List Event :=
  match q.getLast? with
  | some l => if l.code = 0x0201 then q.dropLast ++ [{ l with data := min (l.data + k) 0xFFFFFFFF }]
    else if q.length < 64 then q ++ [e] else q
  | none => [e]

/-- A queue of at most 64 entries that ends in EVENT_LOST is within R38. -/
theorem queueOk_endsLost {q : List Event} {e : Event} (he : e.code = 0x0201) (hlen : q.length ≤ 63) :
    queueOk (q ++ [e]) = true := by
  have hlast : (q ++ [e]).getLast? = some e := by simp
  simp only [queueOk, hlast, Option.map_some, he, List.length_append, List.length_singleton, Bool.or_eq_true,
    Bool.and_eq_true, decide_eq_true_eq, beq_iff_eq, and_true]
  omega

/-- Counting lost events keeps a queue within R38. -/
theorem lostQueue_ok {q : List Event} (k : Nat) {e : Event} (h : queueOk q = true) (he : e.code = 0x0201) :
    queueOk (lostQueue q k e) = true := by
  have hlen : q.length ≤ 64 := queueOk_length_le h
  unfold lostQueue
  split
  · split
    · rename_i hcode
      refine queueOk_endsLost hcode ?_
      rw [List.length_dropLast]
      omega
    split
    · exact queueOk_endsLost he (by omega)
    · exact h
  · rfl

end Sys2Proof.Machine
end

section
/-! PROOF. The invariant of the host part through events and replies. -/

namespace Sys2Proof.Machine

theorem HostInv.drawElapsed {s : State} (inv : HostInv s.host) : HostInv (Machine.drawElapsed s).2.host := inv

theorem HostInv.drawReading {s : State} (inv : HostInv s.host) : HostInv (Machine.drawReading s).2.host := inv

theorem HostInv.drawRound {s : State} (inv : HostInv s.host) : HostInv (Machine.drawRound s).2.host := inv

end Sys2Proof.Machine
end

section
/-! PROOF. The invariant of the host part through berths, lanes and the words of the engine. -/

namespace Sys2Proof.Machine

theorem HostInv.clipEvent {s : State} {b : ℕ} (inv : HostInv s.host) : HostInv (Machine.clipEvent b s).host := inv

theorem HostInv.clipIf {s : State} {c : Bool} {b : ℕ} (inv : HostInv s.host) :
    HostInv (Machine.clipIf c b s).host :=
  .ite (.clipEvent inv) inv

theorem HostInv.sinkMod {s : State} {k : ℕ} {f : Sink → Sink} (inv : HostInv s.host) :
    HostInv (Machine.sinkMod s k f).host :=
  inv

theorem HostInv.storeBerth {s : State} {l dst : ℕ} {x : ℤ} {aux : Byte} (inv : HostInv s.host) :
    HostInv (Machine.storeBerth l dst x aux s).host := by
  unfold Machine.storeBerth
  refine .ite (.sinkMod (.clipIf inv)) ?_
  dsimp only
  exact .clipIf inv

theorem HostInv.laneMod {s : State} {l : ℕ} {f : Lane → Lane} (inv : HostInv s.host) :
    HostInv (Machine.laneMod s l f).host :=
  inv

theorem HostInv.stopTick {s : State} (inv : HostInv s.host) : HostInv (Machine.stopTick s).host := inv

theorem HostInv.runWord {s : State} {l : ℕ} {x : BitVec 64} {act : State → State} (inv : HostInv s.host)
    (h : ∀ t : State, HostInv t.host → HostInv (act t).host) : NextInv (Machine.runWord l x act s) :=
  .next (.ite (h s inv) inv)

theorem HostInv.macEffect {s : State} {l : ℕ} {acc : BitVec 2} {x m : ℤ} (inv : HostInv s.host) :
    HostInv (Machine.macEffect l acc x m s).host :=
  .laneMod inv

theorem HostInv.execNop {s : State} {l : Fin 8} (inv : HostInv s.host) : NextInv (Machine.execNop l s) :=
  HostInv.runWord inv (fun _ h => h)

theorem HostInv.execClr {s : State} {l : Fin 8} {acc : BitVec 2} (inv : HostInv s.host) :
    NextInv (Machine.execClr l acc s) :=
  HostInv.runWord inv (fun _ h => .laneMod h)

theorem HostInv.execMac {s : State} {l : Fin 8} {src : BitVec 10} {par : BitVec 12} {acc : BitVec 2} {unity : Bool}
    (inv : HostInv s.host) : NextInv (Machine.execMac l src par acc unity s) :=
  HostInv.runWord inv (fun _ h => .macEffect h)

theorem HostInv.execMacs {s : State} {l : Fin 8} {src : BitVec 10} {par : BitVec 12} {dst : BitVec 10}
    {acc : BitVec 2} {aux : Byte} {unity : Bool} (inv : HostInv s.host) : NextInv
    (Machine.execMacs l src par dst acc aux unity s) :=
  HostInv.runWord inv (fun _ h => .laneMod (.storeBerth (.macEffect h)))

theorem HostInv.execSto {s : State} {l : Fin 8} {dst : BitVec 10} {acc : BitVec 2} {aux : Byte}
    (inv : HostInv s.host) : NextInv (Machine.execSto l dst acc aux s) :=
  HostInv.runWord inv (fun _ h => .storeBerth h)

theorem HostInv.sectionMod {s : State} {k : ℕ} {f : Section → Section} (inv : HostInv s.host) :
    HostInv (Machine.sectionMod s k f).host :=
  inv

theorem HostInv.execBq {s : State} {l : Fin 8} {src : BitVec 10} {par : BitVec 12} {dst : BitVec 10}
    {acc : BitVec 2} {inAcc outAcc : Bool} (inv : HostInv s.host) : NextInv
    (Machine.execBq l src par dst acc inAcc outAcc s) :=
  HostInv.runWord inv (fun _ h => .ite (.laneMod (.laneMod (.sectionMod h)))
    (.storeBerth (.laneMod (.sectionMod h))))

theorem HostInv.lineMod {s : State} {k : ℕ} {f : DelayLine → DelayLine} (inv : HostInv s.host) :
    HostInv (Machine.lineMod s k f).host :=
  inv

theorem HostInv.execDlw {s : State} {l : Fin 8} {src : BitVec 10} {line : BitVec 7} (inv : HostInv s.host) :
    NextInv (Machine.execDlw l src line s) :=
  HostInv.runWord inv (fun _ h => .ite h h)

theorem HostInv.execDlr {s : State} {l : Fin 8} {par : BitVec 12} {acc : BitVec 2} {unity : Bool} {line : BitVec 7}
    {offset : BitVec 16} (inv : HostInv s.host) : NextInv (Machine.execDlr l par acc unity line offset s) :=
  HostInv.runWord inv (fun _ h => .macEffect h)

theorem HostInv.execXf {s : State} {l : Fin 8} {src par dst : BitVec 10} {pair : Byte} (inv : HostInv s.host) :
    NextInv (Machine.execXf l src par dst pair s) :=
  HostInv.runWord inv (fun _ h => .storeBerth h)

theorem HostInv.meterMod {s : State} {k : ℕ} {f : Meter → Meter} (inv : HostInv s.host) :
    HostInv (Machine.meterMod s k f).host :=
  inv

theorem HostInv.execMtr {s : State} {l : Fin 8} {src : BitVec 10} {meter : Byte} (inv : HostInv s.host) :
    NextInv (Machine.execMtr l src meter s) :=
  HostInv.runWord inv (fun _ h => .meterMod (.drawRound h))

theorem HostInv.execLim {s : State} {l : Fin 8} {par : BitVec 6} {dst : BitVec 10} {protect : Bool}
    (inv : HostInv s.host) : NextInv (Machine.execLim l par dst protect s) :=
  HostInv.runWord inv (fun _ h => h)

theorem HostInv.execFen {s : State} {l : Fin 8} {lane : BitVec 3} {word : BitVec 10} (inv : HostInv s.host) :
    NextInv (Machine.execFen l lane word s) :=
  .next (.ite (.ite (.laneMod inv) (.laneMod inv)) inv)

theorem HostInv.execFenRelease {s : State} {l : Fin 8} (inv : HostInv s.host) :
    NextInv (Machine.execFenRelease l s) := by
  unfold Machine.execFenRelease
  refine .next ?_
  split
  · exact .ite (.laneMod inv) inv
  · exact inv

theorem HostInv.execEndWord {s : State} {l : Fin 8} (inv : HostInv s.host) : NextInv (Machine.execEndWord l s) :=
  .next (.ite (.laneMod inv) inv)

end Sys2Proof.Machine
end

section
/-! PROOF. The invariant of the host part through the jobs of non-volatile memory. -/

namespace Sys2Proof.Machine

theorem HostInv.countErase {s : State} {sector : ℕ} (inv : HostInv s.host) :
    HostInv (Machine.countErase sector s).host :=
  .ite inv (.posted inv)

theorem HostInv.nvmStart {s : State} (inv : HostInv s.host) : HostInv (Machine.nvmStart s).host := by
  unfold Machine.nvmStart
  split
  · exact inv
  · exact .ite inv (.ite inv inv)

theorem HostInv.askNvm {s : State} {j : NvmJob} (inv : HostInv s.host) : HostInv (Machine.askNvm j s).host :=
  .nvmStart inv

theorem HostInv.askSummary {s : State} (inv : HostInv s.host) : HostInv (Machine.askSummary s).host := .askNvm inv

theorem HostInv.blockShelter {s : State} (inv : HostInv s.host) : HostInv (Machine.blockShelter s).host := by
  unfold Machine.blockShelter
  split
  · exact inv
  · exact .ite (.countErase (.drawElapsed inv)) (.drawElapsed inv)

theorem HostInv.nvmShelter {s : State} (inv : HostInv s.host) : HostInv (Machine.nvmShelter s).host := by
  unfold Machine.nvmShelter
  split
  · exact .countErase inv
  · exact inv
  · exact .blockShelter inv

theorem HostInv.spanMod {s : State} {f : HullSpan → HullSpan} (inv : HostInv s.host) :
    HostInv (Machine.spanMod s f).host :=
  inv

theorem HostInv.postBrown {s : State} {rail data : ℕ} (inv : HostInv s.host) :
    HostInv (Machine.postBrown rail data s).host :=
  .ite inv (.ite inv (.posted inv))

theorem HostInv.countBrown {s : State} {rail : ℕ} (inv : HostInv s.host) :
    HostInv (Machine.countBrown rail s).host := by
  unfold Machine.countBrown
  dsimp only
  exact .spanMod inv

end Sys2Proof.Machine
end

section
/-! PROOF. The invariant of the host part through the commands and steps of the host contexts. -/

namespace Sys2Proof.Machine

theorem HostInv.placeMoorings {s : State} {c : Chart} {log : ℕ} (inv : HostInv s.host) :
    HostInv (Machine.placeMoorings c log s).host :=
  .foldl inv (fun _ _ h => .mooringChanged h)

theorem HostInv.helloDo {s : State} {o : Issue} {p : List Byte} {log : ℕ} (inv : HostInv s.host) :
    HostInv (Machine.helloDo o p log s).s.host := by
  cases h : isOpen s (ctxNum o.ctx) with
  | true =>
    rw [helloDo_open h]
    exact .ctxModQuiet inv (fun _ => rfl) (fun _ => rfl)
  | false =>
    rw [helloDo_closed h]
    obtain ⟨-, hopened, -⟩ := openedState_spec inv (ctxNum o.ctx) (u8 p 0) log
    exact .defaultsClaimed hopened

theorem HostInv.execHello {s : State} {o : Issue} {p : List Byte} (inv : HostInv s.host) :
    NextInv (Machine.execHello o p s) :=
  HostInv.hostCommand inv (fun _ _ h => .helloDo h)

theorem HostInv.byeDo {s : State} {o : Issue} {log : ℕ} (inv : HostInv s.host) :
    HostInv (Machine.byeDo o log s).s.host := by
  unfold Machine.byeDo
  dsimp only
  split
  · exact .contextClosed ‹_› inv
  · exact .ctxModQuiet (.released inv) (fun _ => rfl) (fun _ => rfl)

theorem HostInv.execBye {s : State} {o : Issue} {p : List Byte} (inv : HostInv s.host) :
    NextInv (Machine.execBye o p s) :=
  HostInv.hostCommand inv (fun _ _ h => .byeDo h)

theorem HostInv.execGetInfo {s : State} {o : Issue} {p : List Byte} (inv : HostInv s.host) :
    NextInv (Machine.execGetInfo o p s) :=
  HostInv.hostCommand inv (fun _ _ h => h)

theorem HostInv.execGetState {s : State} {o : Issue} {p : List Byte} (inv : HostInv s.host) :
    NextInv (Machine.execGetState o p s) :=
  HostInv.hostCommand inv (fun _ _ h => h)

theorem HostInv.mooringCommand {s : State} {p : List Byte} {statusOf : ℕ → ℕ} {effect : ℕ → State → State}
    (inv : HostInv s.host) (h : ∀ id (t : State), HostInv t.host → HostInv (effect id t).host) : HostInv
    (Machine.mooringCommand p statusOf effect s).s.host := by
  unfold Machine.mooringCommand
  dsimp only
  split
  · exact inv
  · exact .foldl inv (fun t id => h id t)

theorem HostInv.claimDo {s : State} {o : Issue} {p : List Byte} {log : ℕ} (inv : HostInv s.host) :
    HostInv (Machine.claimDo o p log s).s.host :=
  .mooringCommand inv (fun _ _ h => .mooringChanged h)

theorem HostInv.execClaim {s : State} {o : Issue} {p : List Byte} (inv : HostInv s.host) :
    NextInv (Machine.execClaim o p s) :=
  HostInv.hostCommand inv (fun _ _ h => .claimDo h)

theorem HostInv.releaseDo {s : State} {o : Issue} {p : List Byte} {log : ℕ} (inv : HostInv s.host) :
    HostInv (Machine.releaseDo o p log s).s.host :=
  .mooringCommand inv (fun _ _ h => .mooringChanged h)

theorem HostInv.execRelease {s : State} {o : Issue} {p : List Byte} (inv : HostInv s.host) :
    NextInv (Machine.execRelease o p s) :=
  HostInv.hostCommand inv (fun _ _ h => .releaseDo h)

theorem HostInv.forceOne {s : State} {log id : ℕ} (inv : HostInv s.host) :
    HostInv (Machine.forceOne log id s).host :=
  .ite (.postedSel (.mooringChanged inv)) inv

theorem HostInv.forceReleaseDo {s : State} {p : List Byte} {log : ℕ} (inv : HostInv s.host) :
    HostInv (Machine.forceReleaseDo p log s).s.host :=
  .mooringCommand inv (fun _ _ h => .forceOne h)

theorem HostInv.execForceRelease {s : State} {o : Issue} {p : List Byte} (inv : HostInv s.host) :
    NextInv (Machine.execForceRelease o p s) :=
  HostInv.hostCommand inv (fun _ _ h => .forceReleaseDo h)

theorem HostInv.execGetMoorings {s : State} {o : Issue} {p : List Byte} (inv : HostInv s.host) :
    NextInv (Machine.execGetMoorings o p s) :=
  HostInv.hostCommand inv (fun _ _ h => h)

theorem HostInv.setSupervisorDo {s : State} {p : List Byte} {log : ℕ} (inv : HostInv s.host) :
    HostInv (Machine.setSupervisorDo p log s).s.host :=
  .supervised inv

theorem HostInv.execSetSupervisor {s : State} {o : Issue} {p : List Byte} (inv : HostInv s.host) :
    NextInv (Machine.execSetSupervisor o p s) :=
  HostInv.hostCommand inv (fun _ _ h => .setSupervisorDo h)

theorem HostInv.irqAssignDo {s : State} {p : List Byte} {x1 : ℕ} (inv : HostInv s.host) :
    HostInv (Machine.irqAssignDo p x1 s).s.host :=
  .refreshPins (.ite (.of_eq inv rfl rfl rfl rfl) (.of_eq inv rfl rfl rfl rfl))

theorem HostInv.execIrqAssign {s : State} {o : Issue} {p : List Byte} (inv : HostInv s.host) :
    NextInv (Machine.execIrqAssign o p s) :=
  HostInv.hostCommand inv (fun _ _ h => .irqAssignDo h)

theorem HostInv.execGetLogNumber {s : State} {o : Issue} {p : List Byte} (inv : HostInv s.host) :
    NextInv (Machine.execGetLogNumber o p s) :=
  HostInv.hostCommand inv (fun _ _ h => h)

theorem HostInv.execEcho {s : State} {o : Issue} {p : List Byte} (inv : HostInv s.host) :
    NextInv (Machine.execEcho o p s) :=
  HostInv.hostCommand inv (fun _ _ h => h)

theorem HostInv.resetDo {s : State} {x0 : ℕ} (inv : HostInv s.host) : HostInv (Machine.resetDo x0 s).s.host := inv

theorem HostInv.execReset {s : State} {o : Issue} {p : List Byte} (inv : HostInv s.host) :
    NextInv (Machine.execReset o p s) :=
  HostInv.hostCommand inv (fun _ _ h => .resetDo h)

theorem HostInv.execEventRead {s : State} {o : Issue} {p : List Byte} (inv : HostInv s.host) :
    NextInv (Machine.execEventRead o p s) :=
  HostInv.hostCommand inv (fun _ _ h => h)

theorem HostInv.eventAckDo {s : State} {o : Issue} {p : List Byte} {x2 : ℕ} (inv : HostInv s.host) :
    HostInv (Machine.eventAckDo o p x2 s).s.host :=
  .acknowledged inv

theorem HostInv.execEventAck {s : State} {o : Issue} {p : List Byte} (inv : HostInv s.host) :
    NextInv (Machine.execEventAck o p s) :=
  HostInv.hostCommand inv (fun _ _ h => .eventAckDo h)

theorem HostInv.eventSubscribeDo {s : State} {o : Issue} {p : List Byte} {x2 : ℕ} (inv : HostInv s.host) :
    HostInv (Machine.eventSubscribeDo o p x2 s).s.host :=
  .ctxModQuiet inv (fun _ => rfl) (fun _ => rfl)

theorem HostInv.execEventSubscribe {s : State} {o : Issue} {p : List Byte} (inv : HostInv s.host) :
    NextInv (Machine.execEventSubscribe o p s) :=
  HostInv.hostCommand inv (fun _ _ h => .eventSubscribeDo h)

theorem HostInv.execEventStatus {s : State} {o : Issue} {p : List Byte} (inv : HostInv s.host) :
    NextInv (Machine.execEventStatus o p s) :=
  HostInv.hostCommand inv (fun _ _ h => h)

theorem HostInv.eventFlushDo {s : State} {o : Issue} {log : ℕ} (inv : HostInv s.host) :
    HostInv (Machine.eventFlushDo o log s).s.host := by
  refine HostInv.refreshPins ?_
  exact inv.ctxMod (ctxNum o.ctx) (fun c => { c with queue := [] }) rfl (fun hn => inv.openBelow hn)

theorem HostInv.execEventFlush {s : State} {o : Issue} {p : List Byte} (inv : HostInv s.host) :
    NextInv (Machine.execEventFlush o p s) :=
  HostInv.hostCommand inv (fun _ _ h => .eventFlushDo h)

theorem HostInv.failPacket {s : State} {n st : ℕ} {h : Held} (inv : HostInv s.host) :
    HostInv (Machine.failPacket n st h s).host :=
  .ite (.replied inv) (.ctxModQuiet inv (fun _ => rfl) (fun _ => rfl))

theorem HostInv.takePacket {s : State} {source : Option (BitVec 64 × BitVec 16)} {n : ℕ} {b : List Byte}
    {delivered : ℕ} (inv : HostInv s.host) : HostInv (Machine.takePacket source n b delivered s).host := by
  unfold Machine.takePacket
  split
  · exact .failPacket inv
  · exact .ite (.failPacket inv) (.ite (.failPacket inv) (.ite (.failPacket inv)
      (.ite (.failPacket inv) (.ite (.failPacket inv) (.ite (.failPacket inv)
      (.ctxModQuiet inv (fun _ => rfl) (fun _ => rfl)))))))

theorem HostInv.receivePacket {s : State} {n : ℕ} {b : List Byte} {delivered : ℕ} (inv : HostInv s.host) :
    HostInv (Machine.receivePacket n b delivered s).host :=
  .takePacket inv

theorem HostInv.execPacketReceived {s : State} {c : Ctx} {bytes : List Byte} (inv : HostInv s.host) :
    NextInv (Machine.execPacketReceived c bytes s) :=
  .next (.ite (.receivePacket inv) (.ite (.of_eq inv rfl rfl rfl rfl) inv))

theorem HostInv.execIrqReassert {s : State} {pin : Fin 2} (inv : HostInv s.host) :
    NextInv (Machine.execIrqReassert pin s) :=
  .next (.refreshPins (.ite (.of_eq inv rfl rfl rfl rfl) (.of_eq inv rfl rfl rfl rfl)))

theorem HostInv.execH4LinkTimeout {s : State} (inv : HostInv s.host) : NextInv (Machine.execH4LinkTimeout s) :=
  HostInv.whenever inv (fun _ h => .contextClosed (by omega) h)

end Sys2Proof.Machine
end

section
/-! PROOF. The invariant of the host part through parameters, sections, delay lines and dynamics. -/

namespace Sys2Proof.Machine

theorem HostInv.slotMod {s : State} {k : ℕ} {f : Slot → Slot} (inv : HostInv s.host) :
    HostInv (Machine.slotMod s k f).host :=
  inv

theorem HostInv.commitSlot {s : State} {k : ℕ} {target : Word} {ms log : ℕ} (inv : HostInv s.host) :
    HostInv (Machine.commitSlot k target ms log s).host :=
  .slotMod inv

theorem HostInv.loaderCommit {s : State} {k : ℕ} {target : Word} {ms log : ℕ} (inv : HostInv s.host) :
    HostInv (Machine.loaderCommit k target ms log s).host := by
  unfold Machine.loaderCommit
  split
  · exact .ite inv (.commitSlot inv)
  · exact .commitSlot inv

theorem HostInv.paramEffect {s : State} {log : ℕ} {e : List Byte} (inv : HostInv s.host) :
    HostInv (Machine.paramEffect log e s).host :=
  .commitSlot inv

theorem HostInv.setParamDo {s : State} {p : List Byte} {log : ℕ} (inv : HostInv s.host) :
    HostInv (Machine.setParamDo p log s).s.host :=
  .paramEffect inv

theorem HostInv.execSetParam {s : State} {o : Issue} {p : List Byte} (inv : HostInv s.host) :
    NextInv (Machine.execSetParam o p s) :=
  HostInv.hostCommand inv (fun _ _ h => .setParamDo h)

theorem HostInv.setParamBlockDo {s : State} {o : Issue} {p : List Byte} {log : ℕ} (inv : HostInv s.host) :
    HostInv (Machine.setParamBlockDo o p log s).s.host := by
  unfold Machine.setParamBlockDo
  dsimp only
  split
  · exact inv
  · exact .foldl inv (fun _ _ h => .paramEffect h)

theorem HostInv.execSetParamBlock {s : State} {o : Issue} {p : List Byte} (inv : HostInv s.host) :
    NextInv (Machine.execSetParamBlock o p s) :=
  HostInv.hostCommand inv (fun _ _ h => .setParamBlockDo h)

theorem HostInv.execGetParam {s : State} {o : Issue} {p : List Byte} (inv : HostInv s.host) :
    NextInv (Machine.execGetParam o p s) :=
  HostInv.hostCommand inv (fun _ _ h => h)

theorem HostInv.setRampTimeDo {s : State} {p : List Byte} {x1 : ℕ} (inv : HostInv s.host) :
    HostInv (Machine.setRampTimeDo p x1 s).s.host :=
  .slotMod inv

theorem HostInv.execSetRampTime {s : State} {o : Issue} {p : List Byte} (inv : HostInv s.host) :
    NextInv (Machine.execSetRampTime o p s) :=
  HostInv.hostCommand inv (fun _ _ h => .setRampTimeDo h)

theorem HostInv.execParamRampEnd {s : State} {slot : Fin 4096} (inv : HostInv s.host) :
    NextInv (Machine.execParamRampEnd slot s) :=
  HostInv.whenever inv (fun _ h => .slotMod h)

theorem HostInv.bqWriteDo {s : State} {p : List Byte} {x1 : ℕ} (inv : HostInv s.host) :
    HostInv (Machine.bqWriteDo p x1 s).s.host :=
  .sectionMod inv

theorem HostInv.execBqWrite {s : State} {o : Issue} {p : List Byte} (inv : HostInv s.host) :
    NextInv (Machine.execBqWrite o p s) :=
  HostInv.hostCommand inv (fun _ _ h => .bqWriteDo h)

theorem HostInv.dropQueued {s : State} {r : Option QueuedSel} (inv : HostInv s.host) :
    HostInv (Machine.dropQueued r s).host := by
  unfold Machine.dropQueued
  split
  · exact .completed inv
  · exact inv

theorem HostInv.bqSelectDo {s : State} {o : Issue} {p : List Byte} {log : ℕ} (inv : HostInv s.host) :
    HostInv (Machine.bqSelectDo o p log s).s.host :=
  .doneIte (.doneIte inv (.sectionMod inv)) (.doneIte (.dropQueued (.sectionMod inv))
    (.dropQueued (.sectionMod inv)))

theorem HostInv.execBqSelect {s : State} {o : Issue} {p : List Byte} (inv : HostInv s.host) :
    NextInv (Machine.execBqSelect o p s) :=
  HostInv.hostCommand inv (fun _ _ h => .bqSelectDo h)

theorem HostInv.execBqRead {s : State} {o : Issue} {p : List Byte} (inv : HostInv s.host) :
    NextInv (Machine.execBqRead o p s) :=
  HostInv.hostCommand inv (fun _ _ h => h)

theorem HostInv.startQueued {s : State} {k : ℕ} (inv : HostInv s.host) :
    HostInv (Machine.startQueued k s).host := by
  unfold Machine.startQueued
  split
  · exact .completed (.sectionMod inv)
  · exact inv

theorem HostInv.execBqCrossfadeEnd {s : State} {sec : Fin 512} (inv : HostInv s.host) :
    NextInv (Machine.execBqCrossfadeEnd sec s) := by
  unfold Machine.execBqCrossfadeEnd
  refine .next ?_
  split
  · exact .ite (.startQueued (.sectionMod inv)) inv
  · exact inv

theorem HostInv.startDelay {s : State} {k d0 ms : ℕ} (inv : HostInv s.host) :
    HostInv (Machine.startDelay s k d0 ms).host :=
  .lineMod inv

theorem HostInv.delaySetDo {s : State} {o : Issue} {p : List Byte} {log : ℕ} (inv : HostInv s.host) :
    HostInv (Machine.delaySetDo o p log s).s.host :=
  .doneIte (.doneIte inv (.startDelay inv)) (.doneIte (.dropQueued (.lineMod inv)) (.dropQueued (.lineMod inv)))

theorem HostInv.execDelaySet {s : State} {o : Issue} {p : List Byte} (inv : HostInv s.host) :
    NextInv (Machine.execDelaySet o p s) :=
  HostInv.hostCommand inv (fun _ _ h => .delaySetDo h)

theorem HostInv.execDelayRead {s : State} {o : Issue} {p : List Byte} (inv : HostInv s.host) :
    NextInv (Machine.execDelayRead o p s) :=
  HostInv.hostCommand inv (fun _ _ h => h)

theorem HostInv.startQueuedDelay {s : State} {k : ℕ} (inv : HostInv s.host) :
    HostInv (Machine.startQueuedDelay k s).host := by
  unfold Machine.startQueuedDelay
  split
  · exact .completed (.ite (.lineMod inv) (.lineMod (.startDelay (.lineMod inv))))
  · exact inv

theorem HostInv.execDelayChangeEnd {s : State} {line : Fin 128} (inv : HostInv s.host) :
    NextInv (Machine.execDelayChangeEnd line s) := by
  unfold Machine.execDelayChangeEnd
  refine .next ?_
  split
  · exact .ite (.startQueuedDelay (.lineMod inv)) inv
  · exact inv

theorem HostInv.limiterMod {s : State} {k : ℕ} {f : Limiter → Limiter} (inv : HostInv s.host) :
    HostInv (Machine.limiterMod s k f).host :=
  inv

theorem HostInv.limiterSetDo {s : State} {p : List Byte} {x1 : ℕ} (inv : HostInv s.host) :
    HostInv (Machine.limiterSetDo p x1 s).s.host :=
  .limiterMod inv

theorem HostInv.execLimiterSet {s : State} {o : Issue} {p : List Byte} (inv : HostInv s.host) :
    NextInv (Machine.execLimiterSet o p s) :=
  HostInv.hostCommand inv (fun _ _ h => .limiterSetDo h)

theorem HostInv.limiterReadDo {s : State} {o : Issue} {p : List Byte} {x2 : ℕ} (inv : HostInv s.host) :
    HostInv (Machine.limiterReadDo o p x2 s).s.host :=
  .limiterMod inv

theorem HostInv.execLimiterRead {s : State} {o : Issue} {p : List Byte} (inv : HostInv s.host) :
    NextInv (Machine.execLimiterRead o p s) :=
  HostInv.hostCommand inv (fun _ _ h => .limiterReadDo h)

theorem HostInv.protectMod {s : State} {i : ℕ} {f : Protect → Protect} (inv : HostInv s.host) :
    HostInv (Machine.protectMod s i f).host :=
  inv

theorem HostInv.protectSetDo {s : State} {p : List Byte} {x1 : ℕ} (inv : HostInv s.host) :
    HostInv (Machine.protectSetDo p x1 s).s.host :=
  .protectMod inv

theorem HostInv.execProtectSet {s : State} {o : Issue} {p : List Byte} (inv : HostInv s.host) :
    NextInv (Machine.execProtectSet o p s) :=
  HostInv.hostCommand inv (fun _ _ h => .protectSetDo h)

theorem HostInv.execProtectRead {s : State} {o : Issue} {p : List Byte} (inv : HostInv s.host) :
    NextInv (Machine.execProtectRead o p s) :=
  HostInv.hostCommand inv (fun _ _ h => h)

theorem HostInv.postLimit {s : State} {i data : ℕ} (inv : HostInv s.host) :
    HostInv (Machine.postLimit i data s).host :=
  .ite inv (.ite (.posted (.protectMod (.pairIte (.drawElapsed inv) inv))) (.pairIte (.drawElapsed inv) inv))

theorem HostInv.protectFault {s : State} {i : ℕ} (inv : HostInv s.host) : HostInv (Machine.protectFault i s).host :=
  .posted (.protectMod inv)

theorem HostInv.protectPair {s : State} {i : ℕ} {v a : ℤ} {at_ unit : ℕ} (inv : HostInv s.host) :
    HostInv (Machine.protectPair i v a at_ unit s).host :=
  .protectMod inv

theorem HostInv.execProtectEstimate {s : State} {i : Fin 2} (inv : HostInv s.host) :
    NextInv (Machine.execProtectEstimate i s) :=
  HostInv.whenever inv (fun _ h => .ite (.protectFault (.protectMod (.drawReading h)))
    (.ite (.protectMod (.drawReading h)) (.postLimit (.protectMod (.drawReading h)))))

theorem HostInv.execProtectDegraded {s : State} {i : Fin 2} (inv : HostInv s.host) :
    NextInv (Machine.execProtectDegraded i s) :=
  HostInv.whenever inv (fun _ h => .posted (.protectMod h))

theorem HostInv.execProtectDegradedEnd {s : State} {i : Fin 2} (inv : HostInv s.host) :
    NextInv (Machine.execProtectDegradedEnd i s) :=
  HostInv.whenever inv (fun _ h => .posted (.protectMod h))

theorem HostInv.meterReadDo {s : State} {o : Issue} {p : List Byte} {x2 : ℕ} (inv : HostInv s.host) :
    HostInv (Machine.meterReadDo o p x2 s).s.host :=
  .foldl inv (fun _ _ h => .meterMod h)

theorem HostInv.execMeterRead {s : State} {o : Issue} {p : List Byte} (inv : HostInv s.host) :
    NextInv (Machine.execMeterRead o p s) :=
  HostInv.hostCommand inv (fun _ _ h => .meterReadDo h)

theorem HostInv.clipReadDo {s : State} {o : Issue} {p : List Byte} {x2 : ℕ} (inv : HostInv s.host) :
    HostInv (Machine.clipReadDo o p x2 s).s.host :=
  .ite inv inv

theorem HostInv.execClipRead {s : State} {o : Issue} {p : List Byte} (inv : HostInv s.host) :
    NextInv (Machine.execClipRead o p s) :=
  HostInv.hostCommand inv (fun _ _ h => .clipReadDo h)

theorem HostInv.execClipIntervalEnd {s : State} (inv : HostInv s.host) : NextInv (Machine.execClipIntervalEnd s) :=
  HostInv.whenever inv (fun _ h => .ite h (.posted h))

theorem HostInv.engineStatusDo {s : State} {x0 : ℕ} (inv : HostInv s.host) :
    HostInv (Machine.engineStatusDo x0 s).s.host :=
  inv

theorem HostInv.execEngineStatus {s : State} {o : Issue} {p : List Byte} (inv : HostInv s.host) :
    NextInv (Machine.execEngineStatus o p s) :=
  HostInv.hostCommand inv (fun _ _ h => .engineStatusDo h)

end Sys2Proof.Machine
end

section
/-! PROOF. The invariant of the host part through the auxiliary DAC and the mic bias outputs. -/

namespace Sys2Proof.Machine

theorem HostInv.auxMod {s : State} {c : ℕ} {f : Aux → Aux} (inv : HostInv s.host) :
    HostInv (Machine.auxMod s c f).host :=
  inv

theorem HostInv.queueMod {s : State} {c : ℕ} {f : AuxQueue → AuxQueue} (inv : HostInv s.host) :
    HostInv (Machine.queueMod s c f).host :=
  inv

theorem HostInv.auxLoad {s : State} {c code : ℕ} (inv : HostInv s.host) : HostInv (Machine.auxLoad c code s).host :=
  .auxMod inv

theorem HostInv.auxTakeEnable {s : State} {c : ℕ} (inv : HostInv s.host) :
    HostInv (Machine.auxTakeEnable s c).host :=
  .auxMod inv

theorem HostInv.auxTakeLoad {s : State} {c : ℕ} (inv : HostInv s.host) :
    HostInv (Machine.auxTakeLoad s c).host := by
  unfold Machine.auxTakeLoad
  split
  · exact .auxMod inv
  · split
    · exact .auxLoad (.auxMod inv)
    · exact inv

theorem HostInv.timerSpend {s : State} {t : ℕ} (inv : HostInv s.host) : HostInv (Machine.timerSpend t s).host :=
  .ite inv inv

theorem HostInv.timerServe {s : State} {t : ℕ} (inv : HostInv s.host) : HostInv (Machine.timerServe t s).host :=
  .foldl (.ite (.foldl inv (fun _ _ h => .auxTakeEnable h)) inv) (fun _ _ h => .auxTakeLoad h)

theorem HostInv.execAuxTimerTick {s : State} {timer : Fin 4} (inv : HostInv s.host) :
    NextInv (Machine.execAuxTimerTick timer s) :=
  HostInv.whenever inv (fun _ h => .ite (.timerSpend h) (.timerServe (.timerSpend h)))

theorem HostInv.auxFabricTick {s : State} (inv : HostInv s.host) : HostInv (Machine.auxFabricTick s).host := inv

theorem HostInv.execAuxSlewStep {s : State} {ch : Fin 16} (inv : HostInv s.host) :
    NextInv (Machine.execAuxSlewStep ch s) :=
  HostInv.whenever inv (fun _ h => .auxMod h)

theorem HostInv.execAuxRangeHoldEnd {s : State} {ch : Fin 12} (inv : HostInv s.host) :
    NextInv (Machine.execAuxRangeHoldEnd ch s) :=
  HostInv.whenever inv (fun _ h => .auxMod h)

theorem HostInv.queueUnderrun {s : State} {c : ℕ} (inv : HostInv s.host) :
    HostInv (Machine.queueUnderrun c s).host :=
  .ite (.queueMod inv) (.posted (.queueMod inv))

theorem HostInv.paceLoad {s : State} {c : ℕ} {load : Option ℕ} (inv : HostInv s.host) :
    HostInv (Machine.paceLoad c load s).host := by
  unfold Machine.paceLoad
  split
  · exact .auxMod inv
  · exact .auxLoad inv
  · exact inv

theorem HostInv.paceSpend {s : State} {c : ℕ} (inv : HostInv s.host) : HostInv (Machine.paceSpend c s).host :=
  .queueMod inv

theorem HostInv.paceServe {s : State} {c : ℕ} (inv : HostInv s.host) : HostInv (Machine.paceServe c s).host := by
  unfold Machine.paceServe
  split
  · exact .ite (.posted (.paceLoad (.queueMod inv))) (.paceLoad (.queueMod inv))
  · exact .ite (.paceLoad inv) (.queueUnderrun (.paceLoad inv))

theorem HostInv.execAuxQueuePaceTick {s : State} {q : Fin 3} (inv : HostInv s.host) :
    NextInv (Machine.execAuxQueuePaceTick q s) := by
  unfold Machine.execAuxQueuePaceTick
  exact HostInv.whenever inv (fun _ h => .ite (.paceSpend h) (.paceServe (.paceSpend h)))

theorem HostInv.auxStimulus {s : State} {tip : Bool} (inv : HostInv s.host) :
    HostInv (Machine.auxStimulus tip s).host := by
  unfold Machine.auxStimulus
  refine .auxMod ?_
  dsimp only
  exact .queueMod inv

theorem HostInv.jackMod {s : State} {j : ℕ} {f : Jack → Jack} (inv : HostInv s.host) :
    HostInv (Machine.jackMod s j f).host :=
  .ite inv inv

theorem HostInv.serveJack {s : State} {j : ℕ} (inv : HostInv s.host) : HostInv (Machine.serveJack s j).host :=
  .ite (.auxStimulus (.jackMod inv)) inv

theorem HostInv.serveJacks {s : State} (inv : HostInv s.host) : HostInv (Machine.serveJacks s).host :=
  .serveJack (.serveJack inv)

theorem HostInv.jacksBack {s : State} (inv : HostInv s.host) : HostInv (Machine.jacksBack s).host :=
  .jackMod (.jackMod inv)

theorem HostInv.auxStimulusEnd {s : State} (inv : HostInv s.host) : HostInv (Machine.auxStimulusEnd s).host :=
  .auxMod (.queueMod inv)

theorem HostInv.micMod {s : State} {o : ℕ} {f : MicBias → MicBias} (inv : HostInv s.host) :
    HostInv (Machine.micMod s o f).host :=
  .ite inv inv

theorem HostInv.capMod {s : State} {c : ℕ} {f : Capture → Capture} (inv : HostInv s.host) :
    HostInv (Machine.capMod s c f).host :=
  inv

theorem HostInv.micMute {s : State} {o : ℕ} (inv : HostInv s.host) : HostInv (Machine.micMute o s).host :=
  .foldl (.micMod inv) (fun _ _ h => .capMod h)

theorem HostInv.micGoTo {s : State} {o code : ℕ} (inv : HostInv s.host) : HostInv (Machine.micGoTo o code s).host :=
  .auxMod (.micMod inv)

theorem HostInv.micStart {s : State} {o code : ℕ} (inv : HostInv s.host) :
    HostInv (Machine.micStart o code s).host :=
  .micMute (.auxMod (.micGoTo inv))

theorem HostInv.micStop {s : State} {o st : ℕ} (inv : HostInv s.host) : HostInv (Machine.micStop o st s).host :=
  .auxMod (.micMod inv)

theorem HostInv.postMicFault {s : State} {o cause : ℕ} (inv : HostInv s.host) :
    HostInv (Machine.postMicFault o cause s).host :=
  .posted inv

theorem HostInv.execMicbiasRampEnd {s : State} {o : Fin 2} (inv : HostInv s.host) :
    NextInv (Machine.execMicbiasRampEnd o s) :=
  HostInv.whenever inv (fun _ h => .auxMod (.micMod h))

theorem HostInv.execMicbiasSettleEnd {s : State} {o : Fin 2} (inv : HostInv s.host) :
    NextInv (Machine.execMicbiasSettleEnd o s) :=
  HostInv.whenever inv (fun _ h => .foldl (.micMod h) (fun _ _ h => .capMod h))

theorem HostInv.execMicbiasOvercurrent {s : State} {o : Fin 2} (inv : HostInv s.host) :
    NextInv (Machine.execMicbiasOvercurrent o s) :=
  HostInv.whenever inv (fun _ h => .postMicFault (.micMod (.micStop h)))

theorem HostInv.postAuxFault {s : State} {mask cause : ℕ} (inv : HostInv s.host) :
    HostInv (Machine.postAuxFault mask cause s).host :=
  .posted inv

theorem HostInv.auxAllOff {s : State} (inv : HostInv s.host) : HostInv (Machine.auxAllOff s).host :=
  .foldl (.foldl inv (fun _ _ h => .auxMod h)) (fun _ _ h => .queueMod h)

theorem HostInv.auxGoOff {s : State} {cause : ℕ} (inv : HostInv s.host) :
    HostInv (Machine.auxGoOff cause s).host := by
  unfold Machine.auxGoOff
  refine .jacksBack (.postAuxFault ?_)
  dsimp only
  exact .auxAllOff inv

theorem HostInv.auxResume {s : State} (inv : HostInv s.host) : HostInv (Machine.auxResume s).host := by
  unfold Machine.auxResume
  refine .ite inv (.serveJacks (.postAuxFault ?_))
  dsimp only
  exact .auxMod inv

theorem HostInv.auxFollow {s : State} (inv : HostInv s.host) : HostInv (Machine.auxFollow s).host :=
  .ite inv (.ite (.foldl (.auxGoOff inv) (fun _ _ h => .ite (.micStop h) h)) (.auxResume inv))

theorem HostInv.refreshDetRef {s : State} (inv : HostInv s.host) : HostInv (Machine.refreshDetRef s).host :=
  .auxMod inv

theorem HostInv.execVauxWarning {s : State} (inv : HostInv s.host) : NextInv (Machine.execVauxWarning s) :=
  HostInv.whenever inv (fun _ h => .postBrown (.countBrown (.jacksBack h)))

theorem HostInv.execVauxReset {s : State} (inv : HostInv s.host) : NextInv (Machine.execVauxReset s) :=
  HostInv.whenever inv (fun _ h => .foldl (.auxGoOff h) (fun _ _ h => .postMicFault (.micMod (.micStop h))))

theorem HostInv.execVauxRecover {s : State} (inv : HostInv s.host) : NextInv (Machine.execVauxRecover s) :=
  HostInv.whenever inv (fun _ h => .ite (.serveJacks (.postBrown h))
    (.foldl (.auxResume (.postBrown h)) (fun _ _ h => .ite (.micMod h) (.postMicFault (.micStart (.micMod h))))))

theorem HostInv.auxStatusDo {s : State} {o : Issue} {p : List Byte} {x2 : ℕ} (inv : HostInv s.host) :
    HostInv (Machine.auxStatusDo o p x2 s).s.host :=
  .ite (.queueMod inv) inv

theorem HostInv.execAuxStatus {s : State} {o : Issue} {p : List Byte} (inv : HostInv s.host) :
    NextInv (Machine.execAuxStatus o p s) :=
  HostInv.hostCommand inv (fun _ _ h => .auxStatusDo h)

theorem HostInv.auxConfigDo {s : State} {p : List Byte} {x1 : ℕ} (inv : HostInv s.host) :
    HostInv (Machine.auxConfigDo p x1 s).s.host :=
  .auxMod inv

theorem HostInv.execAuxConfig {s : State} {o : Issue} {p : List Byte} (inv : HostInv s.host) :
    NextInv (Machine.execAuxConfig o p s) :=
  HostInv.hostCommand inv (fun _ _ h => .auxConfigDo h)

theorem HostInv.auxEnableDo {s : State} {p : List Byte} {x1 : ℕ} (inv : HostInv s.host) :
    HostInv (Machine.auxEnableDo p x1 s).s.host :=
  .foldl inv (fun _ _ h => .ite (.queueMod (.auxMod h)) (.auxMod h))

theorem HostInv.execAuxEnable {s : State} {o : Issue} {p : List Byte} (inv : HostInv s.host) :
    NextInv (Machine.execAuxEnable o p s) :=
  HostInv.hostCommand inv (fun _ _ h => .auxEnableDo h)

theorem HostInv.auxWriteDo {s : State} {o : Issue} {p : List Byte} {x2 : ℕ} (inv : HostInv s.host) :
    HostInv (Machine.auxWriteDo o p x2 s).s.host := by
  unfold Machine.auxWriteDo
  split
  · exact inv
  · exact .foldl inv (fun _ _ h => .auxMod h)

theorem HostInv.execAuxWrite {s : State} {o : Issue} {p : List Byte} (inv : HostInv s.host) :
    NextInv (Machine.execAuxWrite o p s) :=
  HostInv.hostCommand inv (fun _ _ h => .auxWriteDo h)

theorem HostInv.auxTimerSetDo {s : State} {p : List Byte} {x1 : ℕ} (inv : HostInv s.host) :
    HostInv (Machine.auxTimerSetDo p x1 s).s.host :=
  inv

theorem HostInv.execAuxTimerSet {s : State} {o : Issue} {p : List Byte} (inv : HostInv s.host) :
    NextInv (Machine.execAuxTimerSet o p s) :=
  HostInv.hostCommand inv (fun _ _ h => .auxTimerSetDo h)

theorem HostInv.auxQueueConfigDo {s : State} {p : List Byte} {x1 : ℕ} (inv : HostInv s.host) :
    HostInv (Machine.auxQueueConfigDo p x1 s).s.host :=
  .queueMod inv

theorem HostInv.execAuxQueueConfig {s : State} {o : Issue} {p : List Byte} (inv : HostInv s.host) :
    NextInv (Machine.execAuxQueueConfig o p s) :=
  HostInv.hostCommand inv (fun _ _ h => .auxQueueConfigDo h)

theorem HostInv.auxQueueWriteDo {s : State} {p : List Byte} {x1 : ℕ} (inv : HostInv s.host) :
    HostInv (Machine.auxQueueWriteDo p x1 s).s.host :=
  .doneIte (.queueMod inv) (.doneIte inv (.queueMod inv))

theorem HostInv.execAuxQueueWrite {s : State} {o : Issue} {p : List Byte} (inv : HostInv s.host) :
    NextInv (Machine.execAuxQueueWrite o p s) :=
  HostInv.hostCommand inv (fun _ _ h => .auxQueueWriteDo h)

theorem HostInv.auxQueueControlDo {s : State} {p : List Byte} {x1 : ℕ} (inv : HostInv s.host) :
    HostInv (Machine.auxQueueControlDo p x1 s).s.host :=
  .queueMod inv

theorem HostInv.execAuxQueueControl {s : State} {o : Issue} {p : List Byte} (inv : HostInv s.host) :
    NextInv (Machine.execAuxQueueControl o p s) :=
  HostInv.hostCommand inv (fun _ _ h => .auxQueueControlDo h)

theorem HostInv.auxReadbackSetDo {s : State} {p : List Byte} {x1 : ℕ} (inv : HostInv s.host) :
    HostInv (Machine.auxReadbackSetDo p x1 s).s.host :=
  inv

theorem HostInv.execAuxReadbackSet {s : State} {o : Issue} {p : List Byte} (inv : HostInv s.host) :
    NextInv (Machine.execAuxReadbackSet o p s) :=
  HostInv.hostCommand inv (fun _ _ h => .auxReadbackSetDo h)

end Sys2Proof.Machine
end

section
/-! PROOF. The invariant of the host part through what other units do to a USB port. -/

namespace Sys2Proof.Machine

theorem HostInv.usbMod {s : State} {p : ℕ} {f : Usb → Usb} (inv : HostInv s.host) :
    HostInv (Machine.usbMod s p f).host :=
  .ite inv inv

theorem HostInv.usbStreamMod {s : State} {p i : ℕ} {f : UsbStream → UsbStream} (inv : HostInv s.host) :
    HostInv (Machine.usbStreamMod s p i f).host :=
  .usbMod inv

theorem HostInv.usbDiscard {s : State} {n : ℕ} (inv : HostInv s.host) : HostInv (Machine.usbDiscard n s).host :=
  .foldl inv (fun _ _ h => .foldl h (fun _ _ h => .ite (.usbStreamMod h) h))

theorem HostInv.hidChange {s : State} {p bits : ℕ} (inv : HostInv s.host) :
    HostInv (Machine.hidChange p bits s).host :=
  .usbMod inv

theorem HostInv.hidBit {s : State} {p k : ℕ} {on : Bool} (inv : HostInv s.host) :
    HostInv (Machine.hidBit p k on s).host :=
  .hidChange inv

theorem HostInv.wakeDue {s : State} {p : ℕ} (inv : HostInv s.host) : HostInv (Machine.wakeDue p s).host :=
  .usbMod inv

theorem HostInv.jackWakes {s : State} {j k : ℕ} (inv : HostInv s.host) : HostInv (Machine.jackWakes j k s).host :=
  .foldl inv (fun _ _ h => .wakeDue h)

end Sys2Proof.Machine
end

section
/-! PROOF. The invariant of the host part through outputs and jacks. -/

namespace Sys2Proof.Machine

theorem HostInv.outMod {s : State} {o : ℕ} {f : Output → Output} (inv : HostInv s.host) :
    HostInv (Machine.outMod s o f).host :=
  inv

theorem HostInv.postOutState {s : State} {o st cause log : ℕ} (inv : HostInv s.host) :
    HostInv (Machine.postOutState o st cause log s).host :=
  .posted inv

theorem HostInv.refreshPump {s : State} (inv : HostInv s.host) : HostInv (Machine.refreshPump s).host := inv

theorem HostInv.enterOut {s : State} {o st : ℕ} (inv : HostInv s.host) : HostInv (Machine.enterOut o st s).host :=
  .auxFollow (.ite (.refreshPump (.outMod inv)) (.postOutState (.refreshPump (.outMod inv))))

theorem HostInv.openChannels {s : State} (inv : HostInv s.host) : HostInv (Machine.openChannels s).host := inv

theorem HostInv.askRamp {s : State} {o : ℕ} {up : Bool} {tenths after cause log : ℕ} (inv : HostInv s.host) :
    HostInv (Machine.askRamp o up tenths after cause log s).host :=
  .outMod inv

theorem HostInv.startOutput {s : State} {o tenths cause log : ℕ} (inv : HostInv s.host) :
    HostInv (Machine.startOutput o tenths cause log s).host :=
  .ite (.ite inv (.enterOut (.outMod inv))) (.ite (.ite (.outMod inv)
    (.auxFollow (.askRamp (.openChannels (.outMod inv))))) (.auxFollow (.refreshPump (.outMod inv))))

theorem HostInv.stopDriving {s : State} {o : ℕ} (inv : HostInv s.host) : HostInv (Machine.stopDriving o s).host :=
  .refreshPump (.outMod inv)

theorem HostInv.clampOutput {s : State} {o : ℕ} (inv : HostInv s.host) : HostInv (Machine.clampOutput o s).host :=
  .enterOut (.stopDriving (.outMod inv))

theorem HostInv.takeEnable {s : State} {o : ℕ} (inv : HostInv s.host) : HostInv (Machine.takeEnable o s).host :=
  .ite (.outMod inv) (.ite (.ite (.enterOut (.outMod inv)) (.ite (.enterOut (.outMod inv)) (.startOutput inv)))
    (.ite (.ite (.outMod inv) (.askRamp inv)) inv))

theorem HostInv.takeDisable {s : State} {o : ℕ} (inv : HostInv s.host) : HostInv (Machine.takeDisable o s).host :=
  .ite inv (.ite (.outMod inv) (.ite (.clampOutput (.outMod inv)) (.ite (.outMod inv) (.askRamp (.outMod inv)))))

theorem HostInv.takeRamp {s : State} {o : ℕ} (inv : HostInv s.host) : HostInv (Machine.takeRamp o s).host := by
  unfold Machine.takeRamp
  dsimp only
  split
  · exact inv
  · exact .ite (.outMod inv) (.outMod inv)

theorem HostInv.takeRises {s : State} (inv : HostInv s.host) : HostInv (Machine.takeRises s).host := by
  unfold Machine.takeRises
  refine .ite ?_ inv
  dsimp only
  exact .ite (.outMod inv) inv

theorem HostInv.stepOutput {s : State} {o : ℕ} (inv : HostInv s.host) : HostInv (Machine.stepOutput s o).host := by
  unfold Machine.stepOutput
  refine .ite ?_ (.outMod inv)
  dsimp only
  exact .outMod inv

theorem HostInv.restOutput {s : State} {o : ℕ} (inv : HostInv s.host) : HostInv (Machine.restOutput s o).host :=
  .ite inv (.ite (.enterOut (.stopDriving (.outMod inv))) (.ite (.askRamp inv) inv))

theorem HostInv.latchEnable {s : State} {o : ℕ} (inv : HostInv s.host) :
    HostInv (Machine.latchEnable s o).host := by
  unfold Machine.latchEnable
  split
  · exact .takeEnable (.outMod inv)
  · exact .takeDisable (.outMod inv)
  · exact inv

theorem HostInv.tickOutput {s : State} {o : ℕ} (inv : HostInv s.host) : HostInv (Machine.tickOutput s o).host := by
  unfold Machine.tickOutput
  extract_lets s1 s2 s3
  have hs1 : HostInv s1.host := .latchEnable inv
  have hs2 : HostInv s2.host := .ite (.restOutput hs1) hs1
  have hs3 : HostInv s3.host := .ite hs2 (.takeRamp hs2)
  exact .ite (.takeRises hs3) hs3

theorem HostInv.endStimulus {s : State} {j : ℕ} (inv : HostInv s.host) : HostInv (Machine.endStimulus j s).host :=
  .ite (.auxStimulusEnd inv) inv

theorem HostInv.hidRelease {s : State} {j : ℕ} (inv : HostInv s.host) : HostInv (Machine.hidRelease j s).host :=
  .ite (.foldl inv (fun _ _ h => .hidBit h)) inv

theorem HostInv.releaseButton {s : State} {j : ℕ} (inv : HostInv s.host) :
    HostInv (Machine.releaseButton j s).host :=
  .jackMod (.hidRelease inv)

theorem HostInv.classify {s : State} {j : ℕ} (inv : HostInv s.host) : HostInv (Machine.classify j s).host :=
  .serveJacks (.jackMod (.releaseButton inv))

theorem HostInv.postJack {s : State} {code j data log : ℕ} (inv : HostInv s.host) :
    HostInv (Machine.postJack code j data log s).host :=
  .jackWakes (.posted inv)

theorem HostInv.dropReclassify {s : State} {j : ℕ} (inv : HostInv s.host) :
    HostInv (Machine.dropReclassify j s).host :=
  .completedAll (.jackMod inv)

theorem HostInv.jackStarts {s : State} {j : ℕ} {inserted : Bool} (inv : HostInv s.host) :
    HostInv (Machine.jackStarts j inserted s).host :=
  .ite (.ite (.clampOutput (.outMod inv)) inv) (.ite (.ite (.enterOut (.outMod inv)) inv)
    (.ite (.ite (.ite (.enterOut (.outMod (.outMod inv))) (.outMod (.outMod inv)))
    (.ite (.ite (.askRamp inv) inv) (.startOutput inv))) inv))

theorem HostInv.decideJack {s : State} {j vb : ℕ} (inv : HostInv s.host) :
    HostInv (Machine.decideJack j vb s).host :=
  .serveJacks (.jackStarts (.completedAll (.ite (.ite (.postJack (.jackMod (.endStimulus inv)))
    (.jackMod (.endStimulus inv))) (.postJack (.jackMod (.ite (.postJack (.jackMod (.endStimulus inv)))
    (.jackMod (.endStimulus inv))))))))

theorem HostInv.removalMute {s : State} {j : ℕ} (inv : HostInv s.host) : HostInv (Machine.removalMute j s).host :=
  .ite inv (.ite (.ite (.stopDriving (.outMod inv)) (.enterOut (.stopDriving (.outMod inv))))
    (.enterOut (.stopDriving (.outMod inv))))

theorem HostInv.reclassifyNow {s : State} {j : ℕ} (inv : HostInv s.host) :
    HostInv (Machine.reclassifyNow j s).host :=
  .ite (.classify inv) inv

theorem HostInv.loadWaitsNot {s : State} {o : ℕ} (inv : HostInv s.host) : HostInv (Machine.loadWaitsNot o s).host :=
  inv

theorem HostInv.gateRampEnd {s : State} {o : ℕ} (inv : HostInv s.host) :
    HostInv (Machine.gateRampEnd o s).host := by
  unfold Machine.gateRampEnd
  refine .ite (.ite (.outMod inv) (.enterOut (.outMod inv))) ?_
  split
  · exact .reclassifyNow (.clampOutput (.outMod inv))
  · exact .reclassifyNow (.enterOut (.stopDriving (.outMod inv)))
  · exact .outMod inv
  · exact .reclassifyNow (.enterOut (.ite (.stopDriving (.outMod (.loadWaitsNot (.outMod inv))))
      (.outMod (.loadWaitsNot (.outMod inv)))))

theorem HostInv.execServoEnd {s : State} {o : Fin 4} {residual : ℤ} (inv : HostInv s.host) :
    NextInv (Machine.execServoEnd o residual s) :=
  HostInv.whenever inv (fun _ h => .askRamp (.outMod h))

theorem HostInv.muteReclassify {s : State} {o : ℕ} (inv : HostInv s.host) :
    HostInv (Machine.muteReclassify o s).host :=
  .ite (.classify (.enterOut (.stopDriving inv))) inv

theorem HostInv.execOutputLoadRampEnd {s : State} {o : Fin 4} (inv : HostInv s.host) :
    NextInv (Machine.execOutputLoadRampEnd o s) :=
  HostInv.whenever inv (fun _ h => .muteReclassify (.loadWaitsNot (.outMod h)))

theorem HostInv.shelterOutput {s : State} {o : ℕ} (inv : HostInv s.host) :
    HostInv (Machine.shelterOutput s o).host :=
  .ite inv (.ite (.enterOut (.stopDriving (.outMod inv))) (.ite (.askRamp (.outMod inv)) (.ite (.outMod inv) inv)))

theorem HostInv.outputsShelter {s : State} (inv : HostInv s.host) : HostInv (Machine.outputsShelter s).host :=
  .jacksBack (.foldl inv (fun _ _ h => .shelterOutput h))

theorem HostInv.restoreOutput {s : State} {log o : ℕ} (inv : HostInv s.host) :
    HostInv (Machine.restoreOutput log s o).host :=
  .ite inv (.ite (.outMod inv) (.ite (.startOutput (.outMod inv))
    (.ite (.askRamp (.outMod inv)) (.startOutput (.outMod inv)))))

theorem HostInv.restoreOutputs {s : State} {log : ℕ} (inv : HostInv s.host) :
    HostInv (Machine.restoreOutputs log s).host :=
  .foldl inv (fun _ _ h => .restoreOutput h)

theorem HostInv.outputsAfterShelter {s : State} (inv : HostInv s.host) :
    HostInv (Machine.outputsAfterShelter s).host :=
  .serveJacks (.ite (.restoreOutputs inv) inv)

theorem HostInv.outputsRest {s : State} (inv : HostInv s.host) : HostInv (Machine.outputsRest s).host :=
  .foldl inv (fun _ _ h => .restOutput h)

theorem HostInv.outputsSleep {s : State} (inv : HostInv s.host) : HostInv (Machine.outputsSleep s).host :=
  .refreshPump (.foldl inv (fun _ _ h => .outMod h))

theorem HostInv.outputsWake {s : State} (inv : HostInv s.host) : HostInv (Machine.outputsWake s).host :=
  .foldl inv (fun _ _ h => .ite (.ite (.outMod h) (.startOutput h)) h)

theorem HostInv.postOutFault {s : State} {o cause : ℕ} (inv : HostInv s.host) :
    HostInv (Machine.postOutFault o cause s).host :=
  .posted inv

theorem HostInv.faultOutput {s : State} {o cause : ℕ} (inv : HostInv s.host) :
    HostInv (Machine.faultOutput o cause s).host :=
  .reclassifyNow (.auxFollow (.refreshPump (.postOutFault (.outMod (.stopDriving inv)))))

theorem HostInv.overTempFault {s : State} {o : ℕ} (inv : HostInv s.host) :
    HostInv (Machine.overTempFault o s).host :=
  .faultOutput inv

theorem HostInv.outputRampOver {s : State} {o : ℕ} (inv : HostInv s.host) :
    HostInv (Machine.outputRampOver o s).host :=
  .ite inv (.ite (.overTempFault inv) (.gateRampEnd inv))

theorem HostInv.settleChannels {s : State} (inv : HostInv s.host) : HostInv (Machine.settleChannels s).host := inv

theorem HostInv.channelsOver {s : State} (inv : HostInv s.host) : HostInv (Machine.channelsOver s).host :=
  .ite (.enterOut (.settleChannels inv)) (.settleChannels inv)

theorem HostInv.execOutputGateRampEnd {s : State} {o : Fin 4} (inv : HostInv s.host) :
    NextInv (Machine.execOutputGateRampEnd o s) :=
  HostInv.whenever inv (fun _ h => .outputRampOver (.ite (.channelsOver h) h))

theorem HostInv.spkRecover {s : State} {tenths : ℕ} (inv : HostInv s.host) :
    HostInv (Machine.spkRecover tenths s).host :=
  .ite (.auxFollow inv) (.ite inv (.ite (.ite (.enterOut (.outMod inv)) (.startOutput inv))
    (.clampOutput (.outMod inv))))

theorem HostInv.execSpkRestartTimer {s : State} (inv : HostInv s.host) : NextInv (Machine.execSpkRestartTimer s) :=
  HostInv.whenever inv (fun _ h => .spkRecover h)

theorem HostInv.spkOvercurrent {s : State} (inv : HostInv s.host) : HostInv (Machine.spkOvercurrent s).host :=
  .ite (.faultOutput inv) (.faultOutput inv)

theorem HostInv.execSpkOvercurrent {s : State} (inv : HostInv s.host) : NextInv (Machine.execSpkOvercurrent s) :=
  HostInv.whenever inv (fun _ h => .spkOvercurrent h)

theorem HostInv.execHpOvercurrent {s : State} {o : Fin 2} (inv : HostInv s.host) :
    NextInv (Machine.execHpOvercurrent o s) :=
  HostInv.whenever inv (fun _ h => .faultOutput h)

theorem HostInv.setLock {s : State} {ch : ℕ} {on : Bool} (inv : HostInv s.host) :
    HostInv (Machine.setLock ch on s).host :=
  .ite inv inv

theorem HostInv.stopChannel {s : State} {ch : ℕ} (inv : HostInv s.host) : HostInv (Machine.stopChannel ch s).host :=
  .ite inv inv

theorem HostInv.stopBoth {s : State} (inv : HostInv s.host) : HostInv (Machine.stopBoth s).host :=
  .ite (.outMod (.stopDriving inv)) inv

theorem HostInv.execPvddUvlo {s : State} {ch : Fin 2} (inv : HostInv s.host) :
    NextInv (Machine.execPvddUvlo ch s) :=
  HostInv.whenever inv (fun _ h => .ite h (.auxFollow (.postOutFault
    (.outMod (.stopBoth (.stopChannel (.setLock h)))))))

theorem HostInv.channelReturns {s : State} {ch : ℕ} (inv : HostInv s.host) :
    HostInv (Machine.channelReturns ch s).host :=
  .ite (.spkRecover inv) (.ite (.ite inv inv) (.ite inv (.enterOut (.outMod inv))))

theorem HostInv.execPvddRecover {s : State} {ch : Fin 2} (inv : HostInv s.host) :
    NextInv (Machine.execPvddRecover ch s) :=
  HostInv.whenever inv (fun _ h => .channelReturns (.setLock h))

theorem HostInv.postSpkThermal {s : State} {on : Bool} {t21 : ℤ} (inv : HostInv s.host) :
    HostInv (Machine.postSpkThermal on t21 s).host :=
  .posted inv

theorem HostInv.execClassdThermalCheck {s : State} {t21 : ℤ} (inv : HostInv s.host) :
    NextInv (Machine.execClassdThermalCheck t21 s) :=
  HostInv.whenever inv (fun _ h => .ite (.ite h (.ite (.overTempFault h) (.ite h (.askRamp h))))
    (.ite (.ite (.postSpkThermal h) h) (.ite h (.ite (.spkRecover h) (.ite (.postSpkThermal h) h)))))

theorem HostInv.jdetPresent {s : State} {j : ℕ} (inv : HostInv s.host) : HostInv (Machine.jdetPresent j s).host :=
  .jackMod inv

theorem HostInv.jdetAbsent {s : State} {j : ℕ} (inv : HostInv s.host) : HostInv (Machine.jdetAbsent j s).host := by
  unfold Machine.jdetAbsent
  extract_lets q mutes gone
  have hgone : HostInv gone.host := .jackMod (.releaseButton inv)
  exact .ite (.serveJacks (.dropReclassify (.ite (.removalMute (.jackMod (.endStimulus hgone)))
    (.jackMod (.endStimulus hgone))))) (.ite (.dropReclassify (.removalMute (.jackMod hgone))) hgone)

theorem HostInv.swapJack {s : State} {j : ℕ} (inv : HostInv s.host) : HostInv (Machine.swapJack s j).host :=
  .ite (.serveJacks (.dropReclassify (.jackMod (.endStimulus (.releaseButton inv))))) inv

theorem HostInv.execJackDebounceEnd {s : State} {j : Fin 2} (inv : HostInv s.host) :
    NextInv (Machine.execJackDebounceEnd j s) :=
  HostInv.whenever inv (fun _ h => .classify h)

theorem HostInv.execClassifyTipEnd {s : State} {j : Fin 2} {zt : ℕ} (inv : HostInv s.host) :
    NextInv (Machine.execClassifyTipEnd j zt s) :=
  HostInv.whenever inv (fun _ h => .auxStimulus (.jackMod h))

theorem HostInv.execClassifyCtiaEnd {s : State} {j : Fin 2} {va : ℕ} (inv : HostInv s.host) :
    NextInv (Machine.execClassifyCtiaEnd j va s) :=
  HostInv.whenever inv (fun _ h => .auxStimulus (.jackMod h))

theorem HostInv.execClassifyDecide {s : State} {j : Fin 2} {vb : ℕ} (inv : HostInv s.host) :
    NextInv (Machine.execClassifyDecide j vb s) :=
  HostInv.whenever inv (fun _ h => .decideJack h)

theorem HostInv.execJackRemovalConfirm {s : State} {j : Fin 2} (inv : HostInv s.host) :
    NextInv (Machine.execJackRemovalConfirm j s) :=
  HostInv.whenever inv (fun _ h => .postJack (.jackMod h))

theorem HostInv.execOutputStatus {s : State} {o : Issue} {p : List Byte} (inv : HostInv s.host) :
    NextInv (Machine.execOutputStatus o p s) :=
  HostInv.hostCommand inv (fun _ _ h => h)

theorem HostInv.outputEnableDo {s : State} {p : List Byte} {log : ℕ} (inv : HostInv s.host) :
    HostInv (Machine.outputEnableDo p log s).s.host :=
  .doneIte inv (.outMod inv)

theorem HostInv.execOutputEnable {s : State} {o : Issue} {p : List Byte} (inv : HostInv s.host) :
    NextInv (Machine.execOutputEnable o p s) :=
  HostInv.hostCommand inv (fun _ _ h => .outputEnableDo h)

theorem HostInv.restoreOutputsDo {s : State} {log : ℕ} (inv : HostInv s.host) :
    HostInv (Machine.restoreOutputsDo log s).s.host :=
  .restoreOutputs inv

theorem HostInv.execRestoreOutputs {s : State} {o : Issue} {p : List Byte} (inv : HostInv s.host) :
    NextInv (Machine.execRestoreOutputs o p s) :=
  HostInv.hostCommand inv (fun _ _ h => .restoreOutputsDo h)

theorem HostInv.setAutoRestoreDo {s : State} {p : List Byte} {x1 : ℕ} (inv : HostInv s.host) :
    HostInv (Machine.setAutoRestoreDo p x1 s).s.host :=
  inv

theorem HostInv.execSetAutoRestore {s : State} {o : Issue} {p : List Byte} (inv : HostInv s.host) :
    NextInv (Machine.execSetAutoRestore o p s) :=
  HostInv.hostCommand inv (fun _ _ h => .setAutoRestoreDo h)

theorem HostInv.execJackStatus {s : State} {o : Issue} {p : List Byte} (inv : HostInv s.host) :
    NextInv (Machine.execJackStatus o p s) :=
  HostInv.hostCommand inv (fun _ _ h => h)

theorem HostInv.buttonWindowsSetDo {s : State} {p : List Byte} {x1 : ℕ} (inv : HostInv s.host) :
    HostInv (Machine.buttonWindowsSetDo p x1 s).s.host :=
  .jackMod inv

theorem HostInv.execButtonWindowsSet {s : State} {o : Issue} {p : List Byte} (inv : HostInv s.host) :
    NextInv (Machine.execButtonWindowsSet o p s) :=
  HostInv.hostCommand inv (fun _ _ h => .buttonWindowsSetDo h)

theorem HostInv.spkFaultClearDo {s : State} {x0 : ℕ} (inv : HostInv s.host) :
    HostInv (Machine.spkFaultClearDo x0 s).s.host :=
  .spkRecover inv

theorem HostInv.execSpkFaultClear {s : State} {o : Issue} {p : List Byte} (inv : HostInv s.host) :
    NextInv (Machine.execSpkFaultClear o p s) :=
  HostInv.hostCommand inv (fun _ _ h => .spkFaultClearDo h)

theorem HostInv.jackReclassifyDo {s : State} {o : Issue} {p : List Byte} {log : ℕ} (inv : HostInv s.host) :
    HostInv (Machine.jackReclassifyDo o p log s).s.host := by
  unfold Machine.jackReclassifyDo
  extract_lets j s1 q
  have hs1 : HostInv s1.host := .jackMod inv
  exact .doneIte hs1 (.doneIte (.doneIte (.doneIte (.muteReclassify hs1) hs1) (.askRamp hs1))
    (.doneIte (.classify (.enterOut (.stopDriving (.outMod hs1)))) (.classify (.ite (.stopDriving hs1) hs1))))

theorem HostInv.execJackReclassify {s : State} {o : Issue} {p : List Byte} (inv : HostInv s.host) :
    NextInv (Machine.execJackReclassify o p s) :=
  HostInv.hostCommand inv (fun _ _ h => .jackReclassifyDo h)

end Sys2Proof.Machine
end

section
/-! PROOF. The invariant of the host part through the records of streams. -/

namespace Sys2Proof.Machine

theorem HostInv.netMod {s : State} {f : NetState → NetState} (inv : HostInv s.host) :
    HostInv (Machine.netMod s f).host :=
  inv

theorem HostInv.streamMod {s : State} {n : ℕ} {f : Machine.Stream → Machine.Stream} (inv : HostInv s.host) :
    HostInv (Machine.streamMod s n f).host :=
  .netMod inv

theorem HostInv.streamsRefused {s : State} {ov status log : ℕ} (inv : HostInv s.host) :
    HostInv (Machine.streamsRefused ov status log s).host :=
  .foldl inv (fun _ _ h => .ite (.completedAll (.posted (.streamMod h))) h)

end Sys2Proof.Machine
end

section
/-! PROOF. The invariant of the host part through overlays, bindings and the change of variant. -/

namespace Sys2Proof.Machine

theorem HostInv.ovMod {s : State} {n : ℕ} {f : Overlay → Overlay} (inv : HostInv s.host) :
    HostInv (Machine.ovMod s n f).host :=
  inv

theorem HostInv.ovChanged {s : State} {n st : ℕ} {c : OvCause} (inv : HostInv s.host) :
    HostInv (Machine.ovChanged n st c s).host :=
  .posted inv

theorem HostInv.enterOv {s : State} {n st : ℕ} (inv : HostInv s.host) : HostInv (Machine.enterOv n st s).host :=
  .ovChanged (.ovMod inv)

theorem HostInv.gateTo {s : State} {n : ℕ} {up cut : Bool} {ramp : ℕ} (inv : HostInv s.host) :
    HostInv (Machine.gateTo n up cut ramp s).host := by
  unfold Machine.gateTo
  split
  · exact .commitSlot inv
  · exact inv

theorem HostInv.rampMod {s : State} {k : ℕ} {f : RouteRamp → RouteRamp} (inv : HostInv s.host) :
    HostInv (Machine.rampMod s k f).host :=
  inv

theorem HostInv.askRoutes {s : State} {up : Bool} {ks : List ℕ} (inv : HostInv s.host) :
    HostInv (Machine.askRoutes up ks s).host :=
  .foldl inv (fun _ _ h => .rampMod h)

theorem HostInv.clearRamp {s : State} {k : ℕ} (inv : HostInv s.host) : HostInv (Machine.clearRamp k s).host :=
  .slotMod inv

theorem HostInv.askLoad {s : State} {w : LoadWhat} (inv : HostInv s.host) : HostInv (Machine.askLoad w s).host :=
  inv

theorem HostInv.startActivation {s : State} {n : ℕ} {q : QueuedAct} {ws : List Waiter} (inv : HostInv s.host) :
    HostInv (Machine.startActivation n q ws s).host :=
  .askLoad (.ovMod inv)

theorem HostInv.reverseOverlay {s : State} {n st : ℕ} {q : QueuedAct} (inv : HostInv s.host) :
    HostInv (Machine.reverseOverlay n st q s).host :=
  .askRoutes (.gateTo (.enterOv (.ovMod (.completedAll inv))))

theorem HostInv.activateOverlay {s : State} {n : ℕ} {q : QueuedAct} (inv : HostInv s.host) :
    HostInv (Machine.activateOverlay n q s).2.host := by
  unfold Machine.activateOverlay
  split
  · exact .startActivation inv
  · exact inv
  · exact .reverseOverlay inv
  · exact .ovMod inv
  · exact .ovMod inv

theorem HostInv.dropLoad {s : State} (inv : HostInv s.host) : HostInv (Machine.dropLoad s).host := by
  unfold Machine.dropLoad
  split
  · exact inv
  · exact .foldl (.askRoutes inv) (fun _ _ h => .ite (.askRamp h) h)

theorem HostInv.abandonActivation {s : State} {n : ℕ} (inv : HostInv s.host) :
    HostInv (Machine.abandonActivation n s).host := by
  unfold Machine.abandonActivation
  dsimp only
  split
  · exact .ite (.dropLoad inv) inv
  · exact inv

theorem HostInv.startDeactivation {s : State} {n : ℕ} {q : QueuedAct} (inv : HostInv s.host) :
    HostInv (Machine.startDeactivation n q s).host :=
  .askRoutes (.gateTo (.enterOv (.ovMod inv)))

theorem HostInv.giveUp {s : State} {n log : ℕ} {ws : List Waiter} (inv : HostInv s.host) :
    HostInv (Machine.giveUp n log ws s).host :=
  .streamsRefused (.completedAll inv)

theorem HostInv.startSwitch {s : State} {a b : ℕ} {q : QueuedAct} (inv : HostInv s.host) :
    HostInv (Machine.startSwitch a b q s).host := by
  unfold Machine.startSwitch
  refine .askLoad ?_
  dsimp only
  exact .ovMod (.ovMod inv)

theorem HostInv.concludeOverlay {s : State} {n : ℕ} (inv : HostInv s.host) :
    HostInv (Machine.concludeOverlay n s).host := by
  unfold Machine.concludeOverlay
  refine .ite (.completedAll (.enterOv (.ovMod (.clearRamp inv))))
    (.ite (.ite (.askLoad (.ovMod (.clearRamp inv))) (.clearRamp inv)) ?_)
  split
  · refine .ite (.askLoad ?_) inv
    dsimp only
    exact .ovMod (.clearRamp (.clearRamp inv))
  · exact inv

theorem HostInv.execOverlayGateRampEnd {s : State} {ov : Fin 64} (inv : HostInv s.host) :
    NextInv (Machine.execOverlayGateRampEnd ov s) :=
  HostInv.whenever inv (fun _ h => .concludeOverlay h)

theorem HostInv.chainRampEnd {s : State} {k : ℕ} (inv : HostInv s.host) :
    HostInv (Machine.chainRampEnd k s).host := by
  unfold Machine.chainRampEnd
  refine .foldl ?_ (fun _ _ h => .concludeOverlay h)
  dsimp only
  exact .rampMod inv

theorem HostInv.execChainRampEnd {s : State} {route : Fin 64} (inv : HostInv s.host) :
    NextInv (Machine.execChainRampEnd route s) :=
  HostInv.whenever inv (fun _ h => .chainRampEnd h)

theorem HostInv.overlayActivateDo {s : State} {o : Issue} {p : List Byte} {log : ℕ} (inv : HostInv s.host) :
    HostInv (Machine.overlayActivateDo o p log s).s.host :=
  .activateOverlay inv

theorem HostInv.execOverlayActivate {s : State} {o : Issue} {p : List Byte} (inv : HostInv s.host) :
    NextInv (Machine.execOverlayActivate o p s) :=
  HostInv.hostCommand inv (fun _ _ h => .overlayActivateDo h)

theorem HostInv.deactivateOverlay {s : State} {n : ℕ} {q : QueuedAct} (inv : HostInv s.host) :
    HostInv (Machine.deactivateOverlay n q s).2.host := by
  unfold Machine.deactivateOverlay
  extract_lets v
  split
  · exact inv
  · dsimp only
    exact .usbDiscard (.enterOv (.ovMod (.giveUp (.abandonActivation inv))))
  · exact .reverseOverlay inv
  · exact .startDeactivation inv
  · dsimp only
    exact .giveUp (.ovMod inv)

theorem HostInv.overlayDeactivateDo {s : State} {o : Issue} {p : List Byte} {log : ℕ} (inv : HostInv s.host) :
    HostInv (Machine.overlayDeactivateDo o p log s).s.host :=
  .deactivateOverlay inv

theorem HostInv.execOverlayDeactivate {s : State} {o : Issue} {p : List Byte} (inv : HostInv s.host) :
    NextInv (Machine.execOverlayDeactivate o p s) :=
  HostInv.hostCommand inv (fun _ _ h => .overlayDeactivateDo h)

theorem HostInv.overlaySwitchDo {s : State} {o : Issue} {p : List Byte} {log : ℕ} (inv : HostInv s.host) :
    HostInv (Machine.overlaySwitchDo o p log s).s.host :=
  .startSwitch inv

theorem HostInv.execOverlaySwitch {s : State} {o : Issue} {p : List Byte} (inv : HostInv s.host) :
    NextInv (Machine.execOverlaySwitch o p s) :=
  HostInv.hostCommand inv (fun _ _ h => .overlaySwitchDo h)

theorem HostInv.execOverlayStatus {s : State} {o : Issue} {p : List Byte} (inv : HostInv s.host) :
    NextInv (Machine.execOverlayStatus o p s) :=
  HostInv.hostCommand inv (fun _ _ h => h)

theorem HostInv.bindingSetDo {s : State} {p : List Byte} {x1 : ℕ} (inv : HostInv s.host) :
    HostInv (Machine.bindingSetDo p x1 s).s.host :=
  inv

theorem HostInv.execBindingSet {s : State} {o : Issue} {p : List Byte} (inv : HostInv s.host) :
    NextInv (Machine.execBindingSet o p s) :=
  HostInv.hostCommand inv (fun _ _ h => .bindingSetDo h)

theorem HostInv.execBindingList {s : State} {o : Issue} {p : List Byte} (inv : HostInv s.host) :
    NextInv (Machine.execBindingList o p s) :=
  HostInv.hostCommand inv (fun _ _ h => h)

theorem HostInv.bindingOutcome {b : List Byte} {q : QueuedAct} {s0 s : State} (inv : HostInv s.host) :
    HostInv ((Machine.bindingOutcome b q s0).2 s).host := by
  unfold Machine.bindingOutcome
  extract_lets n give
  have hgive : ∀ r (f : State → ℕ × State), (∀ t, HostInv t.host → HostInv (f t).2.host) →
      HostInv ((give r f).2 s).host := by
    intro r f hf
    cases r with
    | none => exact hf s inv
    | some st => exact inv
  split
  · exact inv
  · split
    · exact hgive _ _ fun _ h => .activateOverlay h
    · exact hgive _ _ fun _ h => .deactivateOverlay h
    · split
      · have hswitch : ∀ t, HostInv t.host → HostInv (stQueued, Machine.startSwitch (u8 b 5) n q t).2.host :=
          fun t h => HostInv.startSwitch (s := t) h
        exact hgive _ _ hswitch
      · exact inv
    · exact inv

theorem HostInv.bindingExecute {s : State} (inv : HostInv s.host) : HostInv (Machine.bindingExecute s).host := by
  unfold Machine.bindingExecute
  split
  next f r c hf hc =>
    extract_lets log v s1 b e
    have hs1 : HostInv s1.host := .takeLog (.of_eq inv rfl rfl rfl rfl)
    exact .bindingOutcome (.posted hs1)
  next => exact .of_eq inv rfl rfl rfl rfl

theorem HostInv.execBindingExecute {s : State} (inv : HostInv s.host) : NextInv (Machine.execBindingExecute s) :=
  HostInv.whenever inv (fun _ h => .bindingExecute h)

theorem HostInv.variantStep {s : State} (inv : HostInv s.host) : HostInv (Machine.variantStep s).host := by
  unfold Machine.variantStep
  split
  · refine .ite inv (.ite (.askLoad ?_) (.foldl inv (fun _ _ h => .ite (.deactivateOverlay h) h)))
    dsimp only
    exact .foldl inv (fun _ _ h => .ite (.deactivateOverlay h) h)
  · exact inv

theorem HostInv.startVariant {s : State} {reduced : Bool} {cause log : ℕ} {w : Option Waiter} (inv : HostInv s.host)
    : HostInv (Machine.startVariant reduced cause log w s).host :=
  .variantStep inv

end Sys2Proof.Machine
end

section
/-! PROOF. The invariant of the host part through the write groups of a bank. -/

namespace Sys2Proof.Machine

theorem HostInv.pushIngress {s : State} {a : ℕ} {w : BitVec 32} (inv : HostInv s.host) :
    HostInv (Machine.pushIngress a w s).host :=
  inv

theorem HostInv.popIngress {s : State} {a : ℕ} (inv : HostInv s.host) :
    HostInv (Machine.popIngress a s).2.host := by
  unfold Machine.popIngress
  split
  · exact inv
  · exact inv

theorem HostInv.popSink {s : State} {k : ℕ} (inv : HostInv s.host) : HostInv (Machine.popSink k s).2.host := by
  unfold Machine.popSink
  split
  · exact .sinkMod inv
  · exact inv

end Sys2Proof.Machine
end

section
/-! PROOF. The invariant of the host part through the clocks and the rate stage. -/

namespace Sys2Proof.Machine

theorem HostInv.domMod {s : State} {d : ℕ} {f : Domain → Domain} (inv : HostInv s.host) :
    HostInv (Machine.domMod s d f).host :=
  inv

theorem HostInv.convMod {s : State} {k : ℕ} {f : Convoy → Convoy} (inv : HostInv s.host) :
    HostInv (Machine.convMod s k f).host :=
  inv

theorem HostInv.memMod {s : State} {k m : ℕ} {f : Member → Member} (inv : HostInv s.host) :
    HostInv (Machine.memMod s k m f).host :=
  .convMod inv

theorem HostInv.pllMod {s : State} {p : ℕ} {f : Pll → Pll} (inv : HostInv s.host) :
    HostInv (Machine.pllMod s p f).host :=
  .ite inv inv

theorem HostInv.postMuted {s : State} {k members cause log : ℕ} (inv : HostInv s.host) :
    HostInv (Machine.postMuted k members cause log s).host :=
  .ite (.posted (.convMod (.pairIte (.drawElapsed (.convMod inv)) (.convMod inv))))
    (.pairIte (.drawElapsed (.convMod inv)) (.convMod inv))

theorem HostInv.convCount {s : State} {k i : ℕ} (inv : HostInv s.host) : HostInv (Machine.convCount k i s).host :=
  .convMod inv

theorem HostInv.muteConvoy {s : State} {log k : ℕ} (inv : HostInv s.host) :
    HostInv (Machine.muteConvoy log s k).host :=
  .ite inv (.postMuted (.convCount (.convMod inv)))

theorem HostInv.postPll {s : State} {p log : ℕ} (inv : HostInv s.host) : HostInv (Machine.postPll p log s).host :=
  .posted inv

theorem HostInv.setPllMode {s : State} {p mode log : ℕ} (inv : HostInv s.host) :
    HostInv (Machine.setPllMode p mode log s).host :=
  .ite (.pllMod inv) (.ite inv (.postPll (.pllMod inv)))

theorem HostInv.pllsFollow {s : State} {d log : ℕ} (inv : HostInv s.host) :
    HostInv (Machine.pllsFollow d log s).host :=
  .foldl inv (fun _ _ h => .ite (.ite (.setPllMode h) (.ite (.setPllMode h) h)) h)

theorem HostInv.takeDiscipline {s : State} {p : ℕ} (inv : HostInv s.host) :
    HostInv (Machine.takeDiscipline p s).host := by
  unfold Machine.takeDiscipline
  split
  · exact inv
  · exact .ite (.postPll (.setPllMode (.pllMod inv))) (.setPllMode (.pllMod inv))

theorem HostInv.tickSteer {s : State} {p : ℕ} (inv : HostInv s.host) : HostInv (Machine.tickSteer s p).host :=
  .ite inv (.ite (.pllMod inv) (.ite (.pllMod (.drawRound inv)) (.drawRound inv)))

theorem HostInv.leaveLocked {s : State} {d cause log : ℕ} (inv : HostInv s.host) :
    HostInv (Machine.leaveLocked d cause log s).host :=
  .pllsFollow (.foldl (.posted inv) (fun _ _ h => .muteConvoy h))

theorem HostInv.unlockFor {s : State} {d cause log : ℕ} (inv : HostInv s.host) :
    HostInv (Machine.unlockFor d cause log s).host :=
  .ite inv (.ite (.leaveLocked (.domMod inv)) (.domMod inv))

theorem HostInv.unlockDomain {s : State} {d cause : ℕ} (inv : HostInv s.host) :
    HostInv (Machine.unlockDomain d cause s).host :=
  .unlockFor inv

theorem HostInv.dropInvalid {s : State} (inv : HostInv s.host) : HostInv (Machine.dropInvalid s).host :=
  .foldl inv (fun _ _ h => .ite h (.unlockDomain h))

theorem HostInv.realign {s : State} {k : ℕ} (inv : HostInv s.host) : HostInv (Machine.realign s k).host :=
  .convMod inv

theorem HostInv.lockDomain {s : State} {d : ℕ} {offset : ℤ} (inv : HostInv s.host) :
    HostInv (Machine.lockDomain d offset s).host :=
  .pllsFollow (.foldl (.posted (.domMod inv)) (fun _ _ h => .realign h))

theorem HostInv.noteStamps {s : State} {kind i : ℕ} {times : List ℕ} (inv : HostInv s.host) :
    HostInv (Machine.noteStamps kind i times s).host :=
  .foldl inv (fun _ _ h => .ite (.domMod h) h)

theorem HostInv.measureOffset {s : State} {d : ℕ} (inv : HostInv s.host) :
    HostInv (Machine.measureOffset d s).2.host :=
  .pairIte inv (.drawReading inv)

theorem HostInv.tickTracker {s : State} {d : ℕ} (inv : HostInv s.host) : HostInv (Machine.tickTracker s d).host :=
  .ite (.ite (.pllsFollow (.domMod (.domMod (.measureOffset inv)))) (.domMod (.measureOffset inv))) inv

theorem HostInv.takeDomain {s : State} {d : ℕ} (inv : HostInv s.host) : HostInv (Machine.takeDomain s d).host :=
  .ite inv (.ite (.domMod inv) (.ite (.leaveLocked (.domMod (.domMod (.domMod inv))))
    (.domMod (.domMod (.domMod inv)))))

theorem HostInv.tickClocks {s : State} (inv : HostInv s.host) : HostInv (Machine.tickClocks s).host := by
  unfold Machine.tickClocks
  exact .tickSteer (.tickSteer (.foldl (.foldl (.takeDiscipline (.takeDiscipline (.dropInvalid inv)))
    (fun _ _ h => .takeDomain h)) (fun _ _ h => .tickTracker h)))

theorem HostInv.startClocks {s : State} (inv : HostInv s.host) : HostInv (Machine.startClocks s).host :=
  .foldl (.foldl inv (fun _ _ h => .domMod h)) (fun _ _ h => .takeDiscipline (.pllMod h))

theorem HostInv.referenceLoss {s : State} (inv : HostInv s.host) : HostInv (Machine.referenceLoss s).host :=
  .foldl (.foldl (.posted inv) (fun _ _ h => .postPll (.pllMod h))) (fun _ _ h => .unlockDomain h)

theorem HostInv.execReferenceLoss {s : State} (inv : HostInv s.host) : NextInv (Machine.execReferenceLoss s) :=
  HostInv.whenever inv (fun _ h => .referenceLoss h)

theorem HostInv.referenceRestore {s : State} (inv : HostInv s.host) : HostInv (Machine.referenceRestore s).host :=
  .posted (.foldl inv (fun _ _ h => .postPll (.pllMod h)))

theorem HostInv.execReferenceRestore {s : State} (inv : HostInv s.host) :
    NextInv (Machine.execReferenceRestore s) :=
  HostInv.whenever inv (fun _ h => .referenceRestore h)

theorem HostInv.execDomainRefValid {s : State} {d : Fin 8} (inv : HostInv s.host) :
    NextInv (Machine.execDomainRefValid d s) :=
  HostInv.whenever inv (fun _ h => .domMod h)

theorem HostInv.execDomainLock {s : State} {d : Fin 8} {offset : ℤ} (inv : HostInv s.host) :
    NextInv (Machine.execDomainLock d offset s) :=
  HostInv.whenever inv (fun _ h => .lockDomain (.pairIte (.measureOffset h) h))

theorem HostInv.execDomainUnlock {s : State} {d : Fin 8} {cause : Fin 3} {offset : ℤ} (inv : HostInv s.host) :
    NextInv (Machine.execDomainUnlock d cause offset s) :=
  HostInv.whenever inv (fun _ h => .unlockDomain (.ite (.domMod h) h))

theorem HostInv.execClockStatus {s : State} {o : Issue} {p : List Byte} (inv : HostInv s.host) :
    NextInv (Machine.execClockStatus o p s) :=
  HostInv.hostCommand inv (fun _ _ h => h)

theorem HostInv.execDomainStatus {s : State} {o : Issue} {p : List Byte} (inv : HostInv s.host) :
    NextInv (Machine.execDomainStatus o p s) :=
  HostInv.hostCommand inv (fun _ _ h => h)

theorem HostInv.commitAlt {s : State} {d alt log : ℕ} (inv : HostInv s.host) :
    HostInv (Machine.commitAlt d alt log s).host :=
  .ite inv (.domMod inv)

theorem HostInv.domainSetRefDo {s : State} {p : List Byte} {log : ℕ} (inv : HostInv s.host) :
    HostInv (Machine.domainSetRefDo p log s).s.host :=
  .commitAlt inv

theorem HostInv.execDomainSetRef {s : State} {o : Issue} {p : List Byte} (inv : HostInv s.host) :
    NextInv (Machine.execDomainSetRef o p s) :=
  HostInv.hostCommand inv (fun _ _ h => .domainSetRefDo h)

theorem HostInv.commitRate {s : State} {d rate log : ℕ} (inv : HostInv s.host) :
    HostInv (Machine.commitRate d rate log s).host :=
  .ite inv (.domMod inv)

theorem HostInv.domainSetRateDo {s : State} {p : List Byte} {log : ℕ} (inv : HostInv s.host) :
    HostInv (Machine.domainSetRateDo p log s).s.host :=
  .commitRate inv

theorem HostInv.execDomainSetRate {s : State} {o : Issue} {p : List Byte} (inv : HostInv s.host) :
    NextInv (Machine.execDomainSetRate o p s) :=
  HostInv.hostCommand inv (fun _ _ h => .domainSetRateDo h)

theorem HostInv.pllDisciplineDo {s : State} {p : List Byte} {log : ℕ} (inv : HostInv s.host) :
    HostInv (Machine.pllDisciplineDo p log s).s.host :=
  .pllMod inv

theorem HostInv.execPllDiscipline {s : State} {o : Issue} {p : List Byte} (inv : HostInv s.host) :
    NextInv (Machine.execPllDiscipline o p s) :=
  HostInv.hostCommand inv (fun _ _ h => .pllDisciplineDo h)

theorem HostInv.execAsrcStatus {s : State} {o : Issue} {p : List Byte} (inv : HostInv s.host) :
    NextInv (Machine.execAsrcStatus o p s) :=
  HostInv.hostCommand inv (fun _ _ h => h)

end Sys2Proof.Machine
end

section
/-! PROOF. The invariant of the host part through convoys and their members. -/

namespace Sys2Proof.Machine

theorem HostInv.startFadeOut {s : State} {k m : ℕ} (inv : HostInv s.host) :
    HostInv (Machine.startFadeOut k m s).host :=
  .memMod inv

theorem HostInv.startFadeIn {s : State} {k m : ℕ} (inv : HostInv s.host) :
    HostInv (Machine.startFadeIn k m s).host :=
  .memMod inv

theorem HostInv.dropMember {s : State} {k m cause : ℕ} (inv : HostInv s.host) :
    HostInv (Machine.dropMember k m cause s).host :=
  .postMuted (.foldl inv (fun _ _ h => .startFadeOut h))

theorem HostInv.memberReady {s : State} {k m : ℕ} (inv : HostInv s.host) :
    HostInv (Machine.memberReady k m s).host :=
  .ite (.memMod inv) (.startFadeIn inv)

theorem HostInv.freeWords {s : State} {n : ℕ} (inv : HostInv s.host) : HostInv (Machine.freeWords n s).2.host := inv

theorem HostInv.startMember {s : State} {k m : ℕ} (inv : HostInv s.host) :
    HostInv (Machine.startMember k m s).host :=
  .ite inv (.memMod inv)

theorem HostInv.stopMember {s : State} {k m : ℕ} (inv : HostInv s.host) : HostInv (Machine.stopMember k m s).host :=
  .ite inv (.ite (.memMod (.foldl inv (fun _ _ h => .startFadeOut h))) (.ite (.memMod inv) (.memMod inv)))

theorem HostInv.startMembers {s : State} {port sub : ℕ} {egress : Bool} (inv : HostInv s.host) :
    HostInv (Machine.startMembers port sub egress s).host :=
  .foldl inv (fun _ _ h => .startMember h)

theorem HostInv.portUnderrun {s : State} {port sub : ℕ} (inv : HostInv s.host) :
    HostInv (Machine.portUnderrun port sub s).host :=
  .foldl inv (fun _ _ h => .ite (.ite (.dropMember (.convCount h)) (.convCount h)) h)

theorem HostInv.blockMember {s : State} {k m : ℕ} (inv : HostInv s.host) :
    HostInv (Machine.blockMember k m s).host :=
  .postMuted (.convCount (.memMod inv))

theorem HostInv.holdSample {s : State} {k m index : ℕ} {timed : Bool} {sample : List (BitVec 32)}
    (inv : HostInv s.host) : HostInv (Machine.holdSample k m index timed sample s).host :=
  .ite (.blockMember (.memMod inv)) (.memMod inv)

theorem HostInv.sampleArrives {s : State} {k m index : ℕ} {sample : List (BitVec 32)} (inv : HostInv s.host) :
    HostInv (Machine.sampleArrives k m index sample s).host :=
  .ite inv (.ite (.convCount inv) (.ite (.ite (.dropMember (.convCount inv)) inv) (.ite inv (.holdSample inv))))

theorem HostInv.earlySample {s : State} {k m : ℕ} {e : List Byte} {sample : List (BitVec 32)} (inv : HostInv s.host)
    : HostInv (Machine.earlySample k m e sample s).host :=
  .convMod inv

theorem HostInv.portSample {s : State} {port sub : ℕ} {sample : List (BitVec 32)} (inv : HostInv s.host) :
    HostInv (Machine.portSample port sub sample s).host :=
  .foldl (.foldl inv (fun _ _ h => .ite h (.sampleArrives h))) (fun _ _ h => .earlySample h)

theorem HostInv.stageSample {s : State} {input : List (BitVec 32)} {ratio : ℕ} (inv : HostInv s.host) :
    HostInv (Machine.stageSample input ratio s).2.host :=
  .pairIte inv (.drawReading inv)

theorem HostInv.stageWrites {s : State} {k m : ℕ} (inv : HostInv s.host) :
    HostInv (Machine.stageWrites k m s).host :=
  .sampleArrives (.foldlPair inv (fun _ _ h => .stageSample h))

theorem HostInv.execMemberSampleArrival {s : State} {c : Fin 128} {m : Fin 8} {index : ℕ} {sample : List Word}
    (inv : HostInv s.host) : NextInv (Machine.execMemberSampleArrival c m index sample s) := by
  unfold Machine.execMemberSampleArrival
  refine .next (.ite ?_ (.ite (.stageWrites inv) (.sampleArrives inv)))
  split
  · exact .earlySample inv
  · exact inv

theorem HostInv.checkRestored {s : State} {k : ℕ} (inv : HostInv s.host) :
    HostInv (Machine.checkRestored k s).host :=
  .ite (.posted (.convMod inv)) inv

theorem HostInv.fadeEnds {s : State} {k m : ℕ} (inv : HostInv s.host) : HostInv (Machine.fadeEnds k m s).host :=
  .ite (.checkRestored (.memMod inv)) (.ite (.memMod inv) (.memMod inv))

theorem HostInv.execMemberFadeEnd {s : State} {c : Fin 128} {m : Fin 8} (inv : HostInv s.host) :
    NextInv (Machine.execMemberFadeEnd c m s) :=
  HostInv.whenever inv (fun _ h => .fadeEnds h)

theorem HostInv.readSample {s : State} {k m : ℕ} (inv : HostInv s.host) :
    HostInv (Machine.readSample k m s).host := by
  unfold Machine.readSample
  refine .memMod ?_
  split
  · exact inv
  · exact .freeWords inv

theorem HostInv.tryAlign {s : State} {k m : ℕ} (inv : HostInv s.host) : HostInv (Machine.tryAlign k m s).host :=
  .ite inv (.ite (.ite (.blockMember inv) (.ite (.memberReady inv) inv)) (.ite (.memberReady (.memMod inv)) inv))

theorem HostInv.readNothing {s : State} {k m : ℕ} (inv : HostInv s.host) :
    HostInv (Machine.readNothing k m s).host :=
  .memMod inv

theorem HostInv.lockstepStart {s : State} {k : ℕ} (inv : HostInv s.host) :
    HostInv (Machine.lockstepStart k s).host :=
  .ite (.foldl inv (fun _ _ h => .startFadeIn h)) inv

theorem HostInv.settleIndex {s : State} {k : ℕ} (inv : HostInv s.host) : HostInv (Machine.settleIndex k s).host :=
  .ite (.lockstepStart (.convMod inv)) inv

theorem HostInv.markRead {s : State} {k m : ℕ} (inv : HostInv s.host) : HostInv (Machine.markRead k m s).host :=
  .settleIndex (.convMod inv)

theorem HostInv.stopMembers {s : State} {port sub : ℕ} {egress : Bool} (inv : HostInv s.host) :
    HostInv (Machine.stopMembers port sub egress s).host :=
  .foldl inv (fun _ _ h => .settleIndex (.stopMember h))

theorem HostInv.readMember {s : State} {k m : ℕ} (inv : HostInv s.host) :
    HostInv (Machine.readMember k m s).host := by
  unfold Machine.readMember
  extract_lets s0 s1 s2 q
  have hs0 : HostInv s0.host := .ite (.fadeEnds inv) inv
  have hs1 : HostInv s1.host := .ite (.memMod hs0) hs0
  have hs2 : HostInv s2.host := .ite (.tryAlign hs1) hs1
  split
  · exact .readSample hs2
  · exact .readSample hs2
  · exact .ite (.dropMember (.convCount (.readSample hs2))) (.readSample hs2)
  · exact .ite (.readNothing (.memMod hs2)) (.readNothing (.memMod hs2))
  · exact .readNothing hs2

theorem HostInv.execMemberRead {s : State} {c : Fin 128} {m : Fin 8} (inv : HostInv s.host) :
    NextInv (Machine.execMemberRead c m s) :=
  HostInv.whenever inv (fun _ h => .markRead (.readMember h))

theorem HostInv.takeEgress {s : State} {k m : ℕ} (inv : HostInv s.host) :
    HostInv (Machine.takeEgress k m s).host := by
  unfold Machine.takeEgress
  extract_lets s0 s1 s2 q
  have hs0 : HostInv s0.host := .ite (.fadeEnds inv) inv
  have hs1 : HostInv s1.host := .ite (.memMod hs0) hs0
  have hs2 : HostInv s2.host := .ite (.tryAlign hs1) hs1
  exact .ite (.ite (.readNothing (.postMuted (.convCount (.memMod hs2)))) (.readSample hs2))
    (.ite (.readNothing (.memMod hs2)) (.readNothing hs2))

theorem HostInv.rampSample {s : State} {float : Bool} {level w : BitVec 32} (inv : HostInv s.host) :
    HostInv (Machine.rampSample float level w s).2.host :=
  .pairIte inv (.pairIte inv (.pairIte (.drawReading inv) inv))

theorem HostInv.memberSample {s : State} {float : Bool} {k m : ℕ} (inv : HostInv s.host) :
    HostInv (Machine.memberSample float k m s).2.host :=
  .foldlPair inv (fun _ _ h => .rampSample h)

theorem HostInv.execResyncPoint {s : State} {c : Fin 128} (inv : HostInv s.host) :
    NextInv (Machine.execResyncPoint c s) :=
  HostInv.whenever inv (fun _ h => .convMod h)

theorem HostInv.execConvoyMuteRampEnd {s : State} {c : Fin 128} (inv : HostInv s.host) :
    NextInv (Machine.execConvoyMuteRampEnd c s) :=
  HostInv.whenever inv (fun _ h => .settleIndex (.convMod h))

theorem HostInv.takeMode {s : State} {k : ℕ} (inv : HostInv s.host) : HostInv (Machine.takeMode s k).host := by
  unfold Machine.takeMode
  split
  · exact inv
  · exact .ite (.convMod inv) (.ite (.ite (.convMod inv) (.convMod
      (.foldl (.convMod inv) (fun _ _ h => .startFadeOut h))))
      (.foldl (.convMod inv) (fun _ _ h => .startFadeIn h)))

theorem HostInv.tickConvoy {s : State} {k : ℕ} (inv : HostInv s.host) : HostInv (Machine.tickConvoy s k).host :=
  .ite (.convMod (.takeMode inv)) (.takeMode inv)

theorem HostInv.swapMember {s : State} {k m : ℕ} (inv : HostInv s.host) : HostInv (Machine.swapMember k m s).host :=
  .ite inv (.ite (.startMember inv) (.ite (.memMod inv) (.tryAlign (.memMod inv))))

theorem HostInv.swapConvoy {s : State} {old : Bank} {running : ℕ → ℕ → Bool → Bool} {k : ℕ} (inv : HostInv s.host) :
    HostInv (Machine.swapConvoy old running s k).host :=
  .ite (.ite (.convMod inv) inv) (.ite inv (.settleIndex (.convMod
    (.foldl (.convMod inv) (fun _ _ h => .ite (.swapMember h) h)))))

theorem HostInv.convoyStatusDo {s : State} {o : Issue} {p : List Byte} {x2 : ℕ} (inv : HostInv s.host) :
    HostInv (Machine.convoyStatusDo o p x2 s).s.host :=
  .ite (.convMod inv) inv

theorem HostInv.execConvoyStatus {s : State} {o : Issue} {p : List Byte} (inv : HostInv s.host) :
    NextInv (Machine.execConvoyStatus o p s) :=
  HostInv.hostCommand inv (fun _ _ h => .convoyStatusDo h)

theorem HostInv.convoySetModeDo {s : State} {p : List Byte} {x1 : ℕ} (inv : HostInv s.host) :
    HostInv (Machine.convoySetModeDo p x1 s).s.host :=
  .convMod inv

theorem HostInv.execConvoySetMode {s : State} {o : Issue} {p : List Byte} (inv : HostInv s.host) :
    NextInv (Machine.execConvoySetMode o p s) :=
  HostInv.hostCommand inv (fun _ _ h => .convoySetModeDo h)

end Sys2Proof.Machine
end

section
/-! PROOF. The invariant of the host part through capture and relay calibration. -/

namespace Sys2Proof.Machine

theorem HostInv.freeDiv {s : State} {x : ℤ} {d : ℕ} (inv : HostInv s.host) :
    HostInv (Machine.freeDiv x d s).2.host :=
  .pairIte inv (.drawRound inv)

theorem HostInv.dcBlock {s : State} {ch : ℕ} {x : Word} (inv : HostInv s.host) :
    HostInv (Machine.dcBlock ch x s).2.host :=
  .pairIte inv (.pairIte (.freeDiv inv) (.capMod (.freeDiv (.freeDiv inv))))

theorem HostInv.relayMod {s : State} {f : Relay → Relay} (inv : HostInv s.host) :
    HostInv (Machine.relayMod s f).host :=
  inv

theorem HostInv.modMod {s : State} {m : ℕ} {f : Modulator → Modulator} (inv : HostInv s.host) :
    HostInv (Machine.modMod s m f).host :=
  inv

theorem HostInv.chainFeed {s : State} {m : ℕ} {tap : Word} (inv : HostInv s.host) :
    HostInv (Machine.chainFeed m tap s).host :=
  .modMod (.drawReading inv)

theorem HostInv.chainOut {s : State} {response : ℕ} {delay : ℤ} {hist : List (BitVec 32)} (inv : HostInv s.host) :
    HostInv (Machine.chainOut response delay hist s).2.host :=
  .pairIte inv (.pairIte inv (.pairIte inv (.drawReading inv)))

theorem HostInv.trimmedOut {s : State} {response : ℕ} {c : Capture} {corr : ℤ} {hist : List (BitVec 32)}
    (inv : HostInv s.host) : HostInv (Machine.trimmedOut response c corr hist s).2.host :=
  .pairIte (.chainOut inv) (.chainOut (.chainOut inv))

theorem HostInv.modulatorWord {s : State} {ch m : ℕ} (inv : HostInv s.host) :
    HostInv (Machine.modulatorWord ch m s).2.host :=
  .dcBlock (.trimmedOut inv)

theorem HostInv.pdmWord {s : State} {ch : ℕ} {line : List Bool} (inv : HostInv s.host) :
    HostInv (Machine.pdmWord ch line s).2.host :=
  .dcBlock (.trimmedOut (.capMod inv))

theorem HostInv.analogueWord {s : State} {ch : ℕ} {pins : Word} (inv : HostInv s.host) :
    HostInv (Machine.analogueWord ch pins s).2.host := by
  unfold Machine.analogueWord
  extract_lets tap mo s1
  have hs1 : HostInv s1.host := .chainFeed inv
  split
  next => exact .modulatorWord hs1
  next mr _ =>
    have ha : HostInv (Machine.modulatorWord ch mo (Machine.chainFeed mr tap s1)).2.host := .modulatorWord
      (.chainFeed hs1)
    refine .pairIte ?_ ha
    dsimp only
    exact .modulatorWord ha

theorem HostInv.captureWord {s : State} {ch : ℕ} {pins : Word} {line : List Bool} (inv : HostInv s.host) :
    HostInv (Machine.captureWord ch pins line s).2.host :=
  .pairIte inv (.pairIte (.pairIte (.analogueWord inv) (.pdmWord inv))
    (.pairIte (.pairIte (.analogueWord inv) (.pdmWord inv)) (.pairIte (.analogueWord inv) (.pdmWord inv))))

theorem HostInv.postRelay {s : State} {code inst data : ℕ} (inv : HostInv s.host) :
    HostInv (Machine.postRelay code inst data s).host :=
  .posted inv

theorem HostInv.endRotation {s : State} {completed : Bool} (inv : HostInv s.host) :
    HostInv (Machine.endRotation completed s).host :=
  .postRelay (.relayMod inv)

theorem HostInv.endStep {s : State} (inv : HostInv s.host) : HostInv (Machine.endStep s).host := by
  unfold Machine.endStep
  refine .relayMod ?_
  split
  · exact .ite (.modMod inv) inv
  · exact inv

theorem HostInv.abortStep {s : State} {cause : ℕ} (inv : HostInv s.host) :
    HostInv (Machine.abortStep cause s).host :=
  .postRelay (.endStep inv)

theorem HostInv.relayDisturb {s : State} {k : ℕ} (inv : HostInv s.host) : HostInv (Machine.relayDisturb k s).host :=
  .ite inv (.ite (.ite (.abortStep inv) (.relayMod inv)) inv)

theorem HostInv.relayShelter {s : State} (inv : HostInv s.host) : HostInv (Machine.relayShelter s).host :=
  .ite (.relayMod (.abortStep inv)) inv

theorem HostInv.relayRest {s : State} (inv : HostInv s.host) : HostInv (Machine.relayRest s).host :=
  .ite inv (.ite inv (.endRotation (.ite (.abortStep inv) inv)))

theorem HostInv.relaySwap {s : State} {changed : List ℕ} (inv : HostInv s.host) :
    HostInv (Machine.relaySwap changed s).host :=
  .ite (.abortStep inv) inv

theorem HostInv.startRotation {s : State} {trigger : ℕ} {t22 : ℤ} (inv : HostInv s.host) :
    HostInv (Machine.startRotation trigger t22 s).host :=
  .ite (.relayMod inv) (.endRotation (.relayMod inv))

theorem HostInv.execRelayRotationTrigger {s : State} {trigger : Fin 3} {t22 : ℤ} (inv : HostInv s.host) :
    NextInv (Machine.execRelayRotationTrigger trigger t22 s) :=
  HostInv.whenever inv (fun _ h => .startRotation h)

theorem HostInv.execRelayStepStart {s : State} (inv : HostInv s.host) : NextInv (Machine.execRelayStepStart s) := by
  unfold Machine.execRelayStepStart
  refine HostInv.whenever inv (fun t h => ?_)
  split
  · exact .relayMod h
  · exact .endRotation h

theorem HostInv.retireRelief {s : State} {m cause : ℕ} (inv : HostInv s.host) :
    HostInv (Machine.retireRelief m cause s).host :=
  .endRotation (.postRelay (.relayMod (.endStep (.relayMod (.modMod inv)))))

theorem HostInv.execRelayVrefcalEnd {s : State} {gain offset noise : ℤ} (inv : HostInv s.host) :
    NextInv (Machine.execRelayVrefcalEnd gain offset noise s) := by
  unfold Machine.execRelayVrefcalEnd
  refine HostInv.whenever inv (fun t h => ?_)
  split
  · exact h
  · exact .ite (.retireRelief h) (.relayMod (.modMod h))

theorem HostInv.execRelaySettleEnd {s : State} (inv : HostInv s.host) : NextInv (Machine.execRelaySettleEnd s) :=
  HostInv.whenever inv (fun _ h => .relayMod h)

theorem HostInv.failWindow {s : State} (inv : HostInv s.host) : HostInv (Machine.failWindow s).host :=
  .ite (.relayMod inv) (.abortStep inv)

theorem HostInv.execRelayEstimateEnd {s : State} {usable : ℕ} {level gain offset delay : ℤ} (inv : HostInv s.host) :
    NextInv (Machine.execRelayEstimateEnd usable level gain offset delay s) := by
  unfold Machine.execRelayEstimateEnd
  refine HostInv.whenever inv (fun t h => ?_)
  refine .ite (.failWindow h) ?_
  split
  · exact h
  · exact .relayMod (.modMod h)

theorem HostInv.execRelayVerifyEnd {s : State} {usable : ℕ} {rms mean : ℤ} (inv : HostInv s.host) :
    NextInv (Machine.execRelayVerifyEnd usable rms mean s) :=
  HostInv.whenever inv (fun _ h => .ite (.capMod (.relayMod (.relayMod h))) (.failWindow (.relayMod h)))

theorem HostInv.applyQueued {s : State} {q : RelayQueued} (inv : HostInv s.host) :
    HostInv (Machine.applyQueued s q).host := by
  unfold Machine.applyQueued
  split
  · exact .completed (.relayMod inv)
  · exact .completed (.capMod inv)
  · exact .completed (.capMod inv)

theorem HostInv.execRelayCrossfadeEnd {s : State} (inv : HostInv s.host) :
    NextInv (Machine.execRelayCrossfadeEnd s) := by
  unfold Machine.execRelayCrossfadeEnd
  refine HostInv.whenever inv (fun t h => ?_)
  split
  · exact h
  · exact .foldl (.postRelay (.capMod (.relayMod h))) (fun _ _ h => .applyQueued h)

theorem HostInv.execPgaStep {s : State} {input : Fin 8} (inv : HostInv s.host) :
    NextInv (Machine.execPgaStep input s) :=
  HostInv.whenever inv (fun _ h => .relayDisturb (.capMod h))

theorem HostInv.execChainRestartEnd {s : State} {ch : Fin 16} (inv : HostInv s.host) :
    NextInv (Machine.execChainRestartEnd ch s) :=
  HostInv.whenever inv (fun _ h => .capMod h)

theorem HostInv.execPdmWakeEnd {s : State} {port : Fin 4} (inv : HostInv s.host) :
    NextInv (Machine.execPdmWakeEnd port s) := by
  unfold Machine.execPdmWakeEnd
  exact HostInv.whenever inv (fun _ h => .foldl h (fun _ _ h => .capMod h))

theorem HostInv.execTrimCrossfadeEnd {s : State} {ch : Fin 16} (inv : HostInv s.host) :
    NextInv (Machine.execTrimCrossfadeEnd ch s) :=
  HostInv.whenever inv (fun _ h => .capMod h)

theorem HostInv.execThresholdBlock {s : State} {ch : Fin 16} {peak : ℤ} (inv : HostInv s.host) :
    NextInv (Machine.execThresholdBlock ch peak s) :=
  HostInv.whenever inv (fun _ h => .ite (.posted (.capMod h)) (.capMod h))

theorem HostInv.execModulatorOverload {s : State} {ch : Fin 16} (inv : HostInv s.host) :
    NextInv (Machine.execModulatorOverload ch s) :=
  HostInv.whenever inv (fun _ h => .ite (.posted (.capMod (.pairIte (.drawElapsed (.capMod h)) (.capMod h))))
    (.pairIte (.drawElapsed (.capMod h)) (.capMod h)))

theorem HostInv.tickCapture {s : State} {ch : ℕ} (inv : HostInv s.host) : HostInv (Machine.tickCapture s ch).host :=
  .capMod inv

theorem HostInv.tickRelay {s : State} (inv : HostInv s.host) : HostInv (Machine.tickRelay s).host := .relayMod inv

theorem HostInv.swapMicBias {s : State} {a b : List Byte} {fresh : Bool} {ch : ℕ} (inv : HostInv s.host) :
    HostInv (Machine.swapMicBias a b fresh s ch).host :=
  .ite inv (.ite (.capMod inv) (.capMod inv))

theorem HostInv.restartChain {s : State} {ch : ℕ} (inv : HostInv s.host) :
    HostInv (Machine.restartChain s ch).host :=
  .ite (.modMod (.capMod inv)) (.capMod inv)

theorem HostInv.swapCapture {s : State} {old : ℕ → List Byte} {ch : ℕ} (inv : HostInv s.host) :
    HostInv (Machine.swapCapture old s ch).host :=
  .ite inv (.swapMicBias (.ite (.capMod (.capMod inv)) (.ite (.restartChain (.capMod inv)) (.capMod inv))))

theorem HostInv.swapCaptures {s : State} {old : ℕ → List Byte} (inv : HostInv s.host) :
    HostInv (Machine.swapCaptures old s).host :=
  .relaySwap (.foldl inv (fun _ _ h => .swapCapture h))

theorem HostInv.startCaptures {s : State} (inv : HostInv s.host) : HostInv (Machine.startCaptures s).host :=
  .foldl inv (fun _ _ h => .swapCapture h)

theorem HostInv.wakeCaptures {s : State} (inv : HostInv s.host) : HostInv (Machine.wakeCaptures s).host :=
  .foldl inv (fun _ _ h => .ite (.capMod h) h)

theorem HostInv.execCaptureStatus {s : State} {o : Issue} {p : List Byte} (inv : HostInv s.host) :
    NextInv (Machine.execCaptureStatus o p s) :=
  HostInv.hostCommand inv (fun _ _ h => h)

theorem HostInv.pgaSetDo {s : State} {p : List Byte} {x1 : ℕ} (inv : HostInv s.host) :
    HostInv (Machine.pgaSetDo p x1 s).s.host :=
  .capMod inv

theorem HostInv.execPgaSet {s : State} {o : Issue} {p : List Byte} (inv : HostInv s.host) :
    NextInv (Machine.execPgaSet o p s) :=
  HostInv.hostCommand inv (fun _ _ h => .pgaSetDo h)

theorem HostInv.queueRelay {s : State} {q : RelayQueued} (inv : HostInv s.host) :
    HostInv (Machine.queueRelay q s).s.host :=
  .relayMod inv

theorem HostInv.dcbSetDo {s : State} {o : Issue} {p : List Byte} {log : ℕ} (inv : HostInv s.host) :
    HostInv (Machine.dcbSetDo o p log s).s.host :=
  .doneIte (.queueRelay inv) (.capMod inv)

theorem HostInv.execDcbSet {s : State} {o : Issue} {p : List Byte} (inv : HostInv s.host) :
    NextInv (Machine.execDcbSet o p s) :=
  HostInv.hostCommand inv (fun _ _ h => .dcbSetDo h)

theorem HostInv.delayTrimSetDo {s : State} {o : Issue} {p : List Byte} {log : ℕ} (inv : HostInv s.host) :
    HostInv (Machine.delayTrimSetDo o p log s).s.host :=
  .doneIte (.queueRelay inv) (.ite (.relayDisturb (.capMod inv)) (.capMod inv))

theorem HostInv.execDelayTrimSet {s : State} {o : Issue} {p : List Byte} (inv : HostInv s.host) :
    NextInv (Machine.execDelayTrimSet o p s) :=
  HostInv.hostCommand inv (fun _ _ h => .delayTrimSetDo h)

theorem HostInv.micbiasSetDo {s : State} {p : List Byte} {x1 : ℕ} (inv : HostInv s.host) :
    HostInv (Machine.micbiasSetDo p x1 s).s.host :=
  .doneIte (.ite (.micStop inv) inv) (.doneIte (.micStart inv) (.doneIte inv (.micGoTo inv)))

theorem HostInv.execMicbiasSet {s : State} {o : Issue} {p : List Byte} (inv : HostInv s.host) :
    NextInv (Machine.execMicbiasSet o p s) :=
  HostInv.hostCommand inv (fun _ _ h => .micbiasSetDo h)

theorem HostInv.execMicbiasStatus {s : State} {o : Issue} {p : List Byte} (inv : HostInv s.host) :
    NextInv (Machine.execMicbiasStatus o p s) :=
  HostInv.hostCommand inv (fun _ _ h => h)

theorem HostInv.execRelayStatus {s : State} {o : Issue} {p : List Byte} (inv : HostInv s.host) :
    NextInv (Machine.execRelayStatus o p s) :=
  HostInv.hostCommand inv (fun _ _ h => h)

theorem HostInv.relaySuspendDo {s : State} {o : Issue} {p : List Byte} {log : ℕ} (inv : HostInv s.host) :
    HostInv (Machine.relaySuspendDo o p log s).s.host := by
  unfold Machine.relaySuspendDo
  dsimp only
  split
  · exact .queueRelay (.relayMod (.ite (.abortStep inv) inv))
  · exact .relayMod (.ite (.abortStep inv) inv)

theorem HostInv.execRelaySuspend {s : State} {o : Issue} {p : List Byte} (inv : HostInv s.host) :
    NextInv (Machine.execRelaySuspend o p s) :=
  HostInv.hostCommand inv (fun _ _ h => .relaySuspendDo h)

theorem HostInv.relayStartDo {s : State} {x0 : ℕ} (inv : HostInv s.host) :
    HostInv (Machine.relayStartDo x0 s).s.host := by
  unfold Machine.relayStartDo
  split
  · exact .startRotation inv
  · exact .startRotation (.drawReading inv)

theorem HostInv.execRelayStart {s : State} {o : Issue} {p : List Byte} (inv : HostInv s.host) :
    NextInv (Machine.execRelayStart o p s) :=
  HostInv.hostCommand inv (fun _ _ h => .relayStartDo h)

theorem HostInv.thresholdArmDo {s : State} {p : List Byte} {x1 : ℕ} (inv : HostInv s.host) :
    HostInv (Machine.thresholdArmDo p x1 s).s.host :=
  .capMod inv

theorem HostInv.execThresholdArm {s : State} {o : Issue} {p : List Byte} (inv : HostInv s.host) :
    NextInv (Machine.execThresholdArm o p s) :=
  HostInv.hostCommand inv (fun _ _ h => .thresholdArmDo h)

theorem HostInv.disarm {s : State} {chs : List ℕ} (inv : HostInv s.host) : HostInv (Machine.disarm chs s).host :=
  .foldl inv (fun _ _ h => .capMod h)

theorem HostInv.disarmAll {s : State} (inv : HostInv s.host) : HostInv (Machine.disarmAll s).host := by
  unfold Machine.disarmAll
  dsimp only
  exact .disarm inv

theorem HostInv.thresholdDisarmDo {s : State} {p : List Byte} {x1 : ℕ} (inv : HostInv s.host) :
    HostInv (Machine.thresholdDisarmDo p x1 s).s.host :=
  .disarm inv

theorem HostInv.execThresholdDisarm {s : State} {o : Issue} {p : List Byte} (inv : HostInv s.host) :
    NextInv (Machine.execThresholdDisarm o p s) :=
  HostInv.hostCommand inv (fun _ _ h => .thresholdDisarmDo h)

theorem HostInv.execRelayCorrections {s : State} {o : Issue} {p : List Byte} (inv : HostInv s.host) :
    NextInv (Machine.execRelayCorrections o p s) :=
  HostInv.hostCommand inv (fun _ _ h => h)

end Sys2Proof.Machine
end

section
/-! PROOF. The invariant of the host part through serial audio and S/PDIF. -/

namespace Sys2Proof.Machine

theorem HostInv.saiMod {s : State} {n : ℕ} {f : Sai → Sai} (inv : HostInv s.host) :
    HostInv (Machine.saiMod s n f).host :=
  inv

theorem HostInv.execSaiMaskTransfer {s : State} {port : Fin 6} {early : Bool} (inv : HostInv s.host) :
    NextInv (Machine.execSaiMaskTransfer port early s) :=
  HostInv.whenever inv (fun _ h => .saiMod h)

theorem HostInv.syncError {s : State} {n : ℕ} (inv : HostInv s.host) : HostInv (Machine.syncError n s).host :=
  .ite (.posted (.saiMod (.pairIte (.drawElapsed (.saiMod inv)) (.saiMod inv))))
    (.pairIte (.drawElapsed (.saiMod inv)) (.saiMod inv))

theorem HostInv.saiReceive {s : State} {n : ℕ} {slots : List Word} (inv : HostInv s.host) :
    HostInv (Machine.saiReceive n slots s).host :=
  .ite inv (.ite (.ite (.foldl inv (fun _ _ h => .pushIngress h)) inv) (.portSample inv))

theorem HostInv.saiTake {s : State} {n : ℕ} (inv : HostInv s.host) : HostInv (Machine.saiTake n s).2.host := by
  unfold Machine.saiTake
  extract_lets e
  refine .pairIte inv (.pairIte (.pairIte (.foldlPair inv fun _ _ h => .popSink h) inv) ?_)
  split
  · refine .pairIte ?_ inv
    dsimp only
    exact .markRead (.memberSample (.takeEgress inv))
  · exact inv

theorem HostInv.saiEdge {s : State} {n : ℕ} (inv : HostInv s.host) : HostInv (Machine.saiEdge n s).host :=
  .saiMod (.saiTake (.saiMod inv))

theorem HostInv.saiRuns {s : State} {n : ℕ} (inv : HostInv s.host) : HostInv (Machine.saiRuns n s).host :=
  .startMembers (.startMembers (.saiMod inv))

theorem HostInv.postSaiClock {s : State} {n lost : ℕ} (inv : HostInv s.host) :
    HostInv (Machine.postSaiClock n lost s).host :=
  .posted inv

theorem HostInv.saiReturn {s : State} {n : ℕ} {slots : List Word} (inv : HostInv s.host) :
    HostInv (Machine.saiReturn n slots s).host :=
  .postSaiClock (.saiReceive (.saiRuns inv))

theorem HostInv.execSaiFrameStart {s : State} {port : Fin 6} {bclks : ℕ} {slots : List Word} (inv : HostInv s.host)
    : NextInv (Machine.execSaiFrameStart port bclks slots s) :=
  HostInv.whenever inv (fun _ h => .saiEdge (.ite (.saiRuns h)
    (.ite (.ite (.saiMod h) (.ite (.saiReturn h) (.syncError h))) (.ite (.saiReceive h) (.syncError h)))))

theorem HostInv.execSaiClockLoss {s : State} {port : Fin 6} (inv : HostInv s.host) :
    NextInv (Machine.execSaiClockLoss port s) :=
  HostInv.whenever inv (fun _ h => .dropInvalid (.postSaiClock (.saiMod h)))

theorem HostInv.execSaiClockReturn {s : State} {port : Fin 6} {slots : List Word} (inv : HostInv s.host) :
    NextInv (Machine.execSaiClockReturn port slots s) :=
  HostInv.whenever inv (fun _ h => .saiEdge (.saiReturn (.ite h (.saiEdge h))))

theorem HostInv.tickSai {s : State} {n : ℕ} (inv : HostInv s.host) : HostInv (Machine.tickSai s n).host :=
  .ite (.saiMod (.ite (.saiMod inv) inv)) (.ite (.saiMod inv) inv)

theorem HostInv.spdifPins {s : State} (inv : HostInv s.host) : HostInv (Machine.spdifPins s).host := inv

theorem HostInv.serialPins {s : State} (inv : HostInv s.host) : HostInv (Machine.serialPins s).host :=
  .spdifPins (.foldl inv (fun _ _ h => .saiMod h))

theorem HostInv.swapSai {s : State} {old : ℕ → List Byte} {n : ℕ} (inv : HostInv s.host) :
    HostInv (Machine.swapSai old s n).host :=
  .ite inv (.ite (.saiMod inv) (.saiMod inv))

theorem HostInv.serialFault {s : State} (inv : HostInv s.host) : HostInv (Machine.serialFault s).host := by
  unfold Machine.serialFault
  dsimp only
  exact .foldl inv (fun _ _ h => .saiMod h)

theorem HostInv.serialDrive {s : State} (inv : HostInv s.host) : HostInv (Machine.serialDrive s).host :=
  .spdifPins (.foldl inv (fun _ _ h => .saiMod h))

theorem HostInv.serialRest {s : State} (inv : HostInv s.host) : HostInv (Machine.serialRest s).host := by
  unfold Machine.serialRest
  dsimp only
  exact .foldl inv (fun _ _ h => .saiMod h)

theorem HostInv.spdifMod {s : State} {f : Spdif → Spdif} (inv : HostInv s.host) :
    HostInv (Machine.spdifMod s f).host :=
  inv

theorem HostInv.postSpdif {s : State} {code data : ℕ} (inv : HostInv s.host) :
    HostInv (Machine.postSpdif code data s).host :=
  .posted inv

theorem HostInv.spdifCount {s : State} {i : ℕ} (inv : HostInv s.host) : HostInv (Machine.spdifCount i s).host :=
  .spdifMod inv

theorem HostInv.execSpdifLockAcquire {s : State} {rate : Fin 7} (inv : HostInv s.host) :
    NextInv (Machine.execSpdifLockAcquire rate s) :=
  HostInv.whenever inv (fun _ h => .postSpdif (.startMembers (.spdifMod h)))

theorem HostInv.directRests {s : State} (inv : HostInv s.host) : HostInv (Machine.directRests s).host :=
  .spdifMod inv

theorem HostInv.spdifLose {s : State} {cause : ℕ} (inv : HostInv s.host) :
    HostInv (Machine.spdifLose cause s).host :=
  .portUnderrun (.dropInvalid (.postSpdif (.ite (.directRests (.spdifCount (.spdifCount (.spdifMod inv))))
    (.spdifCount (.spdifCount (.spdifMod inv))))))

theorem HostInv.biphaseError {s : State} (inv : HostInv s.host) : HostInv (Machine.biphaseError s).host :=
  .spdifCount (.spdifMod inv)

theorem HostInv.execSpdifLockLoss {s : State} {cause : Fin 4} (inv : HostInv s.host) :
    NextInv (Machine.execSpdifLockLoss cause s) :=
  HostInv.whenever inv (fun _ h => .spdifLose (.ite (.biphaseError h) h))

theorem HostInv.execSpdifAutoRate {s : State} (inv : HostInv s.host) : NextInv (Machine.execSpdifAutoRate s) :=
  HostInv.whenever inv (fun _ h => .commitRate (.takeLog (.spdifMod h)))

theorem HostInv.chanMod {s : State} {ch : ℕ} {f : SpdifChan → SpdifChan} (inv : HostInv s.host) :
    HostInv (Machine.chanMod s ch f).host :=
  .spdifMod inv

theorem HostInv.enterNonPcm {s : State} {cause : ℕ} (inv : HostInv s.host) :
    HostInv (Machine.enterNonPcm cause s).host :=
  .ite inv (.postSpdif (.spdifMod inv))

theorem HostInv.watchSync {s : State} {audio : BitVec 24} (inv : HostInv s.host) :
    HostInv (Machine.watchSync audio s).host :=
  .ite (.enterNonPcm (.spdifMod inv)) (.spdifMod inv)

theorem HostInv.passHeld {s : State} {ch : ℕ} (inv : HostInv s.host) : HostInv (Machine.passHeld ch s).host := by
  unfold Machine.passHeld
  split
  · exact inv
  · exact .ite (.chanMod (.ite (.spdifCount inv) inv)) (.portSample (.chanMod (.ite (.spdifCount inv) inv)))

theorem HostInv.execSpdifSubframe {s : State} {ch : Fin 2} {audio : BitVec 24} {v u c parityOk biphaseOk : Bool}
    (inv : HostInv s.host) : NextInv (Machine.execSpdifSubframe ch audio v u c parityOk biphaseOk s) := by
  unfold Machine.execSpdifSubframe
  exact HostInv.whenever inv (fun _ h => .ite (.spdifLose (.ite (.ite h (.spdifCount h))
    (.biphaseError (.ite h (.spdifCount h))))) (.chanMod (.watchSync
    (.passHeld (.ite (.spdifMod (.spdifMod (.ite (.ite h (.spdifCount h))
    (.biphaseError (.ite h (.spdifCount h)))))) (.spdifMod (.ite (.ite h (.spdifCount h))
    (.biphaseError (.ite h (.spdifCount h))))))))))

theorem HostInv.storeBlock {s : State} (inv : HostInv s.host) : HostInv (Machine.storeBlock s).host := by
  unfold Machine.storeBlock
  extract_lets q a t d t1 t2
  have ht : HostInv t.host := .spdifMod inv
  have hd : HostInv d.2.host := .pairIte (.drawElapsed ht) ht
  have ht1 : HostInv t1.host := .ite ht (.ite (.postSpdif (.spdifMod hd)) hd)
  have ht2 : HostInv t2.host := .ite (.enterNonPcm ht1) ht1
  exact .ite (.spdifMod ht2) ht2

theorem HostInv.execSpdifBlockEnd {s : State} {clean : Bool} (inv : HostInv s.host) :
    NextInv (Machine.execSpdifBlockEnd clean s) :=
  HostInv.whenever inv (fun _ h => .spdifMod (.ite (.storeBlock h) (.spdifCount h)))

theorem HostInv.execSpdifNonpcmExit {s : State} (inv : HostInv s.host) : NextInv (Machine.execSpdifNonpcmExit s) :=
  HostInv.whenever inv (fun _ h => .postSpdif (.spdifMod h))

theorem HostInv.execSpdifTxBlockStart {s : State} (inv : HostInv s.host) :
    NextInv (Machine.execSpdifTxBlockStart s) :=
  HostInv.whenever inv (fun _ h => .spdifMod h)

theorem HostInv.swapSpdif {s : State} {old : ℕ → List Byte} (inv : HostInv s.host) :
    HostInv (Machine.swapSpdif old s).host :=
  .ite (.directRests (.ite (.ite inv (.spdifMod inv)) (.spdifPins (.spdifMod (.ite inv (.spdifMod inv))))))
    (.ite (.ite inv (.spdifMod inv)) (.spdifPins (.spdifMod (.ite inv (.spdifMod inv)))))

theorem HostInv.saiStatusDo {s : State} {o : Issue} {p : List Byte} {x2 : ℕ} (inv : HostInv s.host) :
    HostInv (Machine.saiStatusDo o p x2 s).s.host :=
  .ite (.saiMod inv) inv

theorem HostInv.execSaiStatus {s : State} {o : Issue} {p : List Byte} (inv : HostInv s.host) :
    NextInv (Machine.execSaiStatus o p s) :=
  HostInv.hostCommand inv (fun _ _ h => .saiStatusDo h)

theorem HostInv.saiSlotMaskDo {s : State} {p : List Byte} {x1 : ℕ} (inv : HostInv s.host) :
    HostInv (Machine.saiSlotMaskDo p x1 s).s.host :=
  .saiMod inv

theorem HostInv.execSaiSlotMask {s : State} {o : Issue} {p : List Byte} (inv : HostInv s.host) :
    NextInv (Machine.execSaiSlotMask o p s) :=
  HostInv.hostCommand inv (fun _ _ h => .saiSlotMaskDo h)

theorem HostInv.spdifRxStatusDo {s : State} {o : Issue} {p : List Byte} {x2 : ℕ} (inv : HostInv s.host) :
    HostInv (Machine.spdifRxStatusDo o p x2 s).s.host :=
  .ite (.spdifMod inv) inv

theorem HostInv.execSpdifRxStatus {s : State} {o : Issue} {p : List Byte} (inv : HostInv s.host) :
    NextInv (Machine.execSpdifRxStatus o p s) :=
  HostInv.hostCommand inv (fun _ _ h => .spdifRxStatusDo h)

theorem HostInv.execSpdifCsRead {s : State} {o : Issue} {p : List Byte} (inv : HostInv s.host) :
    NextInv (Machine.execSpdifCsRead o p s) :=
  HostInv.hostCommand inv (fun _ _ h => h)

theorem HostInv.spdifCsWriteDo {s : State} {p : List Byte} {x1 : ℕ} (inv : HostInv s.host) :
    HostInv (Machine.spdifCsWriteDo p x1 s).s.host :=
  .spdifMod inv

theorem HostInv.execSpdifCsWrite {s : State} {o : Issue} {p : List Byte} (inv : HostInv s.host) :
    NextInv (Machine.execSpdifCsWrite o p s) :=
  HostInv.hostCommand inv (fun _ _ h => .spdifCsWriteDo h)

theorem HostInv.execSpdifUserRead {s : State} {o : Issue} {p : List Byte} (inv : HostInv s.host) :
    NextInv (Machine.execSpdifUserRead o p s) :=
  HostInv.hostCommand inv (fun _ _ h => h)

theorem HostInv.spdifUserWriteDo {s : State} {p : List Byte} {x1 : ℕ} (inv : HostInv s.host) :
    HostInv (Machine.spdifUserWriteDo p x1 s).s.host :=
  .spdifMod inv

theorem HostInv.execSpdifUserWrite {s : State} {o : Issue} {p : List Byte} (inv : HostInv s.host) :
    NextInv (Machine.execSpdifUserWrite o p s) :=
  HostInv.hostCommand inv (fun _ _ h => .spdifUserWriteDo h)

theorem HostInv.spdifValiditySetDo {s : State} {p : List Byte} {x1 : ℕ} (inv : HostInv s.host) :
    HostInv (Machine.spdifValiditySetDo p x1 s).s.host :=
  .spdifMod inv

theorem HostInv.execSpdifValiditySet {s : State} {o : Issue} {p : List Byte} (inv : HostInv s.host) :
    NextInv (Machine.execSpdifValiditySet o p s) :=
  HostInv.hostCommand inv (fun _ _ h => .spdifValiditySetDo h)

end Sys2Proof.Machine
end

section
/-! PROOF. The invariant of the host part through the USB device ports. -/

namespace Sys2Proof.Machine

theorem HostInv.usbStart {s : State} {p i : ℕ} (inv : HostInv s.host) : HostInv (Machine.usbStart p i s).host :=
  .ite (.startMembers inv) inv

theorem HostInv.usbStop {s : State} {p i : ℕ} (inv : HostInv s.host) : HostInv (Machine.usbStop p i s).host :=
  .stopMembers inv

theorem HostInv.postUsb {s : State} {code p log data : ℕ} (inv : HostInv s.host) :
    HostInv (Machine.postUsb code p log data s).host :=
  .posted inv

theorem HostInv.postUsbState {s : State} {p cause log : ℕ} (inv : HostInv s.host) :
    HostInv (Machine.postUsbState p cause log s).host :=
  .postUsb inv

theorem HostInv.usbLeave {s : State} {n log : ℕ} (inv : HostInv s.host) :
    HostInv (Machine.usbLeave n log s).2.host := by
  unfold Machine.usbLeave
  split
  · exact inv
  · exact .deactivateOverlay inv

theorem HostInv.usbForget {s : State} {p i : ℕ} (inv : HostInv s.host) : HostInv (Machine.usbForget p i s).host :=
  inv

theorem HostInv.usbZero {s : State} {p i log : ℕ} (inv : HostInv s.host) :
    HostInv (Machine.usbZero p i log s).2.host :=
  .pairIte inv (.pairIte (.usbForget (.usbStreamMod (.usbStop inv)))
    (.usbLeave (.usbForget (.usbStreamMod (.usbStop inv)))))

theorem HostInv.usbToZero {s : State} {p log i : ℕ} (inv : HostInv s.host) :
    HostInv (Machine.usbToZero p log s i).host :=
  .usbZero inv

theorem HostInv.usbAllZero {s : State} {p log : ℕ} (inv : HostInv s.host) :
    HostInv (Machine.usbAllZero p log s).host :=
  .foldl inv (fun _ _ h => .usbToZero h)

theorem HostInv.usbDetach {s : State} {p cause log : ℕ} (inv : HostInv s.host) :
    HostInv (Machine.usbDetach p cause log s).host :=
  .ite inv (.postUsbState (.usbMod (.usbAllZero inv)))

theorem HostInv.usbAttach {s : State} {p cause log : ℕ} (inv : HostInv s.host) :
    HostInv (Machine.usbAttach p cause log s).host :=
  .postUsbState (.usbMod inv)

theorem HostInv.usbFollow {s : State} {p cause log : ℕ} (inv : HostInv s.host) :
    HostInv (Machine.usbFollow p cause log s).host :=
  .ite (.usbDetach inv) (.ite (.usbAttach inv) (.ite (.usbAttach (.usbDetach inv)) inv))

theorem HostInv.vbusChange {s : State} {p : ℕ} {up : Bool} (inv : HostInv s.host) :
    HostInv (Machine.vbusChange p up s).host :=
  .usbFollow (.ite (.ite (.contextClosed (by omega) (.usbMod inv)) (.usbMod inv))
    (.ctxModQuiet (.ite (.contextClosed (by omega) (.usbMod inv)) (.usbMod inv)) (fun _ => rfl) (fun _ => rfl)))

theorem HostInv.usbBusReset {s : State} {p speed : ℕ} (inv : HostInv s.host) :
    HostInv (Machine.usbBusReset p speed s).host :=
  .contextClosed (by omega) (.postUsbState (.usbMod (.ctxModQuiet (.usbAllZero inv) (fun _ => rfl) (fun _ => rfl))))

theorem HostInv.execUsbSuspend {s : State} {port : Fin 2} (inv : HostInv s.host) :
    NextInv (Machine.execUsbSuspend port s) :=
  HostInv.whenever inv (fun _ h => .postUsbState (.usbMod (.foldl h (fun _ _ h => .ite h (.usbStop h)))))

theorem HostInv.usbResume {s : State} {p : ℕ} (inv : HostInv s.host) : HostInv (Machine.usbResume p s).host :=
  .foldl (.postUsbState (.usbMod inv)) (fun _ _ h => .ite h (.usbStart h))

theorem HostInv.execUsbRemoteWakeSignal {s : State} {port : Fin 2} (inv : HostInv s.host) :
    NextInv (Machine.execUsbRemoteWakeSignal port s) :=
  HostInv.whenever inv (fun _ h => .ite (.usbMod (.usbResume h)) (.usbMod h))

theorem HostInv.execUsbLinkPowerRequest {s : State} {port : Fin 2} {kind : Fin 3} (inv : HostInv s.host) :
    NextInv (Machine.execUsbLinkPowerRequest port kind s) :=
  HostInv.whenever inv (fun _ h => .usbMod h)

theorem HostInv.execUsbReconnect {s : State} {port : Fin 2} (inv : HostInv s.host) :
    NextInv (Machine.execUsbReconnect port s) :=
  HostInv.whenever inv (fun _ h => .usbFollow (.usbMod h))

theorem HostInv.usbAnswer {s : State} {p : ℕ} {data : List Byte} (inv : HostInv s.host) :
    HostInv (Machine.usbAnswer p data s).host :=
  .usbMod inv

theorem HostInv.usbStall {s : State} {p : ℕ} (inv : HostInv s.host) : HostInv (Machine.usbStall p s).host :=
  .usbMod inv

theorem HostInv.usbNak {s : State} {p : ℕ} (inv : HostInv s.host) : HostInv (Machine.usbNak p s).host := .usbMod inv

theorem HostInv.usbHold {s : State} {p : ℕ} {h : UsbHeld} (inv : HostInv s.host) :
    HostInv (Machine.usbHold p h s).host :=
  .usbNak (.usbMod inv)

theorem HostInv.usbSetup {s : State} {p : ℕ} (inv : HostInv s.host) : HostInv (Machine.usbSetup p s).host :=
  .usbMod inv

theorem HostInv.usbGetDescriptor {s : State} {p type index length : ℕ} (inv : HostInv s.host) :
    HostInv (Machine.usbGetDescriptor p type index length s).host := by
  unfold Machine.usbGetDescriptor
  refine .ite ?_ ?_
  · split
    · exact .usbAnswer inv
    · exact .usbStall inv
  · split
    · exact .usbAnswer inv
    · exact .usbStall inv

theorem HostInv.usbFeature {s : State} {p recipient value index : ℕ} {on : Bool} (inv : HostInv s.host) :
    HostInv (Machine.usbFeature p recipient value index on s).host := by
  unfold Machine.usbFeature
  split
  · exact .usbAnswer (.usbMod inv)
  · exact .usbAnswer inv
  · exact .usbAnswer inv
  · exact .usbAnswer (.usbMod inv)
  · exact .usbAnswer (.usbMod inv)
  · exact .usbStall inv

theorem HostInv.usbStandard {s : State} {p : ℕ} {request : UsbRequest} {recipient v index n : ℕ}
    (inv : HostInv s.host) : HostInv (Machine.usbStandard p request recipient v index n s).host := by
  unfold Machine.usbStandard
  split
  · exact .usbGetDescriptor inv
  · exact .usbAnswer inv
  · exact .usbAnswer (.usbMod inv)
  · exact .usbFeature inv
  · exact .usbFeature inv
  · exact .usbAnswer inv
  · refine .ite (.usbStall inv) ?_
    split
    · exact .usbAnswer inv
    · exact .usbAnswer inv
  · exact .usbAnswer inv
  · exact .usbAnswer (.usbMod inv)
  · exact inv
  · exact inv

theorem HostInv.cpRequest {s : State} {p : ℕ} {r : UsbHeld} {act : State → State} (inv : HostInv s.host)
    (h : ∀ t : State, HostInv t.host → HostInv (act t).host) : HostInv (Machine.cpRequest p r act s).host :=
  .ite inv (.ite (.usbHold inv) (h _ (.usbSetup inv)))

theorem HostInv.usbClass {s : State} {p : ℕ} {get : Bool} {request value index n : ℕ} (inv : HostInv s.host) :
    HostInv (Machine.usbClass p get request value index n s).host := by
  unfold Machine.usbClass
  refine .ite (.ite (.usbStall inv) (.usbAnswer inv)) ?_
  split
  · exact .usbAnswer inv
  · exact .usbStall inv

theorem HostInv.execUsbStandardRequest {s : State} {port : Fin 2} {request : UsbRequest} {recipient : Fin 3}
    {value index length : BitVec 16} (inv : HostInv s.host) : NextInv
    (Machine.execUsbStandardRequest port request recipient value index length s) := by
  unfold Machine.execUsbStandardRequest
  refine .next ?_
  split
  · exact .cpRequest inv (fun _ h => .usbClass h)
  · exact .cpRequest inv (fun _ h => .usbClass h)
  · exact .ite (.usbStandard (.usbSetup inv)) inv

theorem HostInv.setConfigurationDo {s : State} {p cfg : ℕ} (inv : HostInv s.host) :
    HostInv (Machine.setConfigurationDo p cfg s).host :=
  .ite (.usbStall inv) (.usbAnswer (.usbMod (.usbAllZero inv)))

theorem HostInv.execSetConfiguration {s : State} {port : Fin 2} {cfg : Byte} (inv : HostInv s.host) :
    NextInv (Machine.execSetConfiguration port cfg s) :=
  .next (.cpRequest inv (fun _ h => .setConfigurationDo h))

theorem HostInv.postAlt {s : State} {p i alt status : ℕ} {stalled : Bool} {log : ℕ} (inv : HostInv s.host) :
    HostInv (Machine.postAlt p i alt status stalled log s).host :=
  .postUsb inv

theorem HostInv.usbEnter {s : State} {p i n log : ℕ} (inv : HostInv s.host) :
    HostInv (Machine.usbEnter p i n log s).2.host := by
  unfold Machine.usbEnter
  refine .pairIte (.ite (.usbLeave (.usbForget inv)) (.usbForget inv)) ?_
  split
  · split
    · dsimp only
      split
      · exact inv
      · refine .pairIte ?_ (.activateOverlay (.usbLeave (.usbForget inv)))
        dsimp only
        exact .usbLeave (.usbForget inv)
    · dsimp only
      split
      · exact inv
      · refine .pairIte ?_ (.activateOverlay (.usbForget inv))
        dsimp only
        exact .usbForget inv
  · split
    · dsimp only
      split
      · exact inv
      · refine .pairIte ?_ (.activateOverlay (.usbLeave (.usbForget inv)))
        dsimp only
        exact .usbLeave (.usbForget inv)
    · dsimp only
      split
      · exact inv
      · refine .pairIte ?_ (.activateOverlay (.usbForget inv))
        dsimp only
        exact .usbForget inv

theorem HostInv.usbSetAlt {s : State} {p i alt log : ℕ} (inv : HostInv s.host) :
    HostInv (Machine.usbSetAlt p i alt log s).host := by
  unfold Machine.usbSetAlt
  refine .ite (.postAlt (.usbAnswer (.usbZero inv))) ?_
  split
  · exact .postAlt (.usbStall inv)
  · exact .ite (.postAlt (.usbStall inv)) (.postAlt (.usbAnswer
      (.usbStart (.usbStreamMod (.pairIte (.usbEnter (.ite inv (.usbStop inv))) (.ite inv (.usbStop inv)))))))

theorem HostInv.setInterfaceDo {s : State} {p ifc alt : ℕ} (inv : HostInv s.host) :
    HostInv (Machine.setInterfaceDo p ifc alt s).host := by
  unfold Machine.setInterfaceDo
  refine .ite (.usbStall inv) ?_
  split
  · exact .usbSetAlt (.takeLog inv)
  · exact .ite (.usbAnswer inv) (.usbStall inv)

theorem HostInv.execSetInterface {s : State} {port : Fin 2} {ifc alt : Byte} (inv : HostInv s.host) :
    NextInv (Machine.execSetInterface port ifc alt s) :=
  .next (.cpRequest inv (fun _ h => .setInterfaceDo h))

theorem HostInv.frequencyDo {s : State} {p entity hz : ℕ} (inv : HostInv s.host) :
    HostInv (Machine.frequencyDo p entity hz s).host := by
  unfold Machine.frequencyDo
  refine .ite (.usbStall inv) ?_
  split
  · exact .postUsb (.usbAnswer (.commitRate (.takeLog inv)))
  · exact .postUsb (.usbStall (.takeLog inv))

theorem HostInv.execUacSamplingFreqSet {s : State} {port : Fin 2} {entity : Byte} {hz : ℕ} (inv : HostInv s.host) :
    NextInv (Machine.execUacSamplingFreqSet port entity hz s) :=
  .next (.cpRequest inv (fun _ h => .frequencyDo h))

theorem HostInv.volumeCommit {s : State} {slot : ℕ} {w : Word} {log : ℕ} (inv : HostInv s.host) :
    HostInv (Machine.volumeCommit slot w log s).host :=
  .ite inv (.commitSlot inv)

theorem HostInv.featureDo {s : State} {p unit channel : ℕ} {isMute : Bool} {value : BitVec 16}
    (inv : HostInv s.host) : HostInv (Machine.featureDo p unit channel isMute value s).host := by
  unfold Machine.featureDo
  split
  · exact .usbStall inv
  · exact .ite (.usbAnswer (.volumeCommit (.usbMod (.takeLog inv))))
      (.postUsb (.usbAnswer (.volumeCommit (.usbMod (.takeLog inv)))))

theorem HostInv.execUacFeatureUnitSet {s : State} {port : Fin 2} {unit channel : Byte} {isMute : Bool}
    {value : BitVec 16} (inv : HostInv s.host) : NextInv (Machine.execUacFeatureUnitSet port unit channel isMute
    value s) :=
  .next (.cpRequest inv (fun _ h => .featureDo h))

theorem HostInv.execUsbFeedbackUpdate {s : State} {port i : Fin 2} {rm fill lost : ℕ} (inv : HostInv s.host) :
    NextInv (Machine.execUsbFeedbackUpdate port i rm fill lost s) := by
  unfold Machine.execUsbFeedbackUpdate
  exact HostInv.whenever inv (fun _ h => .usbStreamMod (.usbMod h))

theorem HostInv.execUsbCaptureInterval {s : State} {port i : Fin 2} (inv : HostInv s.host) :
    NextInv (Machine.execUsbCaptureInterval port i s) := by
  unfold Machine.execUsbCaptureInterval
  exact HostInv.whenever inv (fun _ h => .usbStreamMod h)

theorem HostInv.execHidReportSend {s : State} {port : Fin 2} (inv : HostInv s.host) :
    NextInv (Machine.execHidReportSend port s) :=
  HostInv.whenever inv (fun _ h => .usbMod h)

theorem HostInv.dfuDetachDo {s : State} {p : ℕ} (inv : HostInv s.host) : HostInv (Machine.dfuDetachDo p s).host :=
  .ite (.usbStall inv) (.ite (.usbAnswer (.usbMod inv)) (.usbStall inv))

theorem HostInv.execDfuDetach {s : State} {port : Fin 2} (inv : HostInv s.host) :
    NextInv (Machine.execDfuDetach port s) :=
  .next (.cpRequest inv (fun _ h => .dfuDetachDo h))

theorem HostInv.execDfuDetachTimeout {s : State} {port : Fin 2} (inv : HostInv s.host) :
    NextInv (Machine.execDfuDetachTimeout port s) :=
  HostInv.whenever inv (fun _ h => .usbMod h)

theorem HostInv.postButton {s : State} {j data : ℕ} (inv : HostInv s.host) :
    HostInv (Machine.postButton j data s).host :=
  .posted inv

theorem HostInv.buttonRelease {s : State} {j : ℕ} (inv : HostInv s.host) :
    HostInv (Machine.buttonRelease j s).host :=
  .ite inv (.foldl (.postButton (.jackMod inv)) (fun _ _ h => .hidBit h))

theorem HostInv.buttonPress {s : State} {j w : ℕ} (inv : HostInv s.host) :
    HostInv (Machine.buttonPress j w s).host :=
  .ite inv (.foldl (.jackWakes (.postButton (.jackMod inv))) (fun _ _ h => .hidBit h))

theorem HostInv.execButtonScan {s : State} {j : Fin 2} {line bias : ℕ} (inv : HostInv s.host) :
    NextInv (Machine.execButtonScan j line bias s) := by
  unfold Machine.execButtonScan
  extract_lets n
  exact HostInv.whenever inv (fun _ h => .ite (.jackMod h) (.ite
    (.ite (.ite (.buttonPress (.buttonRelease (.jackMod (.jackMod (.jackMod h)))))
    (.buttonRelease (.jackMod (.jackMod (.jackMod h))))) (.jackMod (.jackMod h)))
    (.ite (.buttonPress (.jackMod h)) (.jackMod h))))

theorem HostInv.usbStatusDo {s : State} {o : Issue} {p : List Byte} {x2 : ℕ} (inv : HostInv s.host) :
    HostInv (Machine.usbStatusDo o p x2 s).s.host :=
  .ite (.usbMod inv) inv

theorem HostInv.execUsbStatus {s : State} {o : Issue} {p : List Byte} (inv : HostInv s.host) :
    NextInv (Machine.execUsbStatus o p s) :=
  HostInv.hostCommand inv (fun _ _ h => .usbStatusDo h)

theorem HostInv.usbConnectDo {s : State} {p : List Byte} {log : ℕ} (inv : HostInv s.host) :
    HostInv (Machine.usbConnectDo p log s).s.host :=
  .usbFollow (.usbMod inv)

theorem HostInv.execUsbConnect {s : State} {o : Issue} {p : List Byte} (inv : HostInv s.host) :
    NextInv (Machine.execUsbConnect o p s) :=
  HostInv.hostCommand inv (fun _ _ h => .usbConnectDo h)

theorem HostInv.usbHidSendDo {s : State} {p : List Byte} {x1 : ℕ} (inv : HostInv s.host) :
    HostInv (Machine.usbHidSendDo p x1 s).s.host := by
  unfold Machine.usbHidSendDo
  split
  · exact .hidBit inv
  · exact .hidBit inv
  · exact .hidBit (.hidBit inv)

theorem HostInv.execUsbHidSend {s : State} {o : Issue} {p : List Byte} (inv : HostInv s.host) :
    NextInv (Machine.execUsbHidSend o p s) :=
  HostInv.hostCommand inv (fun _ _ h => .usbHidSendDo h)

theorem HostInv.usbRemoteWakeDo {s : State} {p : List Byte} {x1 : ℕ} (inv : HostInv s.host) :
    HostInv (Machine.usbRemoteWakeDo p x1 s).s.host :=
  .wakeDue inv

theorem HostInv.execUsbRemoteWake {s : State} {o : Issue} {p : List Byte} (inv : HostInv s.host) :
    NextInv (Machine.execUsbRemoteWake o p s) :=
  HostInv.hostCommand inv (fun _ _ h => .usbRemoteWakeDo h)

theorem HostInv.execUsbStreamStatus {s : State} {o : Issue} {p : List Byte} (inv : HostInv s.host) :
    NextInv (Machine.execUsbStreamStatus o p s) :=
  HostInv.hostCommand inv (fun _ _ h => h)

end Sys2Proof.Machine
end

section
/-! PROOF. The invariant of the host part through the MAC. -/

namespace Sys2Proof.Machine

theorem HostInv.macMod {s : State} {f : Mac → Mac} (inv : HostInv s.host) : HostInv (Machine.macMod s f).host := inv

theorem HostInv.phyReset {s : State} {low : Bool} (inv : HostInv s.host) : HostInv (Machine.phyReset low s).host :=
  .macMod inv

theorem HostInv.postEthFor {s : State} {log code inst data : ℕ} (inv : HostInv s.host) :
    HostInv (Machine.postEthFor log code inst data s).host :=
  .posted inv

theorem HostInv.postEth {s : State} {code inst data : ℕ} (inv : HostInv s.host) :
    HostInv (Machine.postEth code inst data s).host :=
  .postEthFor inv

theorem HostInv.halfSet {s : State} {g i : ℕ} (inv : HostInv s.host) : HostInv (Machine.halfSet g i s).host :=
  .ite (.macMod (.macMod inv)) (.postEth (.macMod (.macMod inv)))

theorem HostInv.macAdd {s : State} {g i n : ℕ} (inv : HostInv s.host) : HostInv (Machine.macAdd g i n s).host :=
  .ite (.halfSet (.macMod inv)) (.macMod inv)

theorem HostInv.macCount {s : State} {g i : ℕ} (inv : HostInv s.host) : HostInv (Machine.macCount g i s).host :=
  .macAdd inv

theorem HostInv.halfFoldEnd {s : State} {g : ℕ} (inv : HostInv s.host) : HostInv (Machine.halfFoldEnd g s).host :=
  .ite (.macMod inv) (.postEth (.macMod inv))

theorem HostInv.execCounterHalfFoldEnd {s : State} {g : Fin 5} (inv : HostInv s.host) :
    NextInv (Machine.execCounterHalfFoldEnd g s) :=
  HostInv.whenever inv (fun _ h => .halfFoldEnd h)

theorem HostInv.offerControl {s : State} {kind : ℕ} {dest : List Byte} {type : ℕ} {body : List Byte}
    (inv : HostInv s.host) : HostInv (Machine.offerControl kind dest type body s).host :=
  .ite inv (.ite (.macCount inv) (.ite (.macCount inv) (.macMod inv)))

theorem HostInv.freeField {s : State} {n : ℕ} (inv : HostInv s.host) : HostInv (Machine.freeField n s).2.host := inv

theorem HostInv.gptpSend {s : State} {type interval : ℕ} {given : List Byte} {n : ℕ} (inv : HostInv s.host) :
    HostInv (Machine.gptpSend type interval given n s).host :=
  .offerControl (.freeField inv)

theorem HostInv.sendPdelayReq {s : State} (inv : HostInv s.host) : HostInv (Machine.sendPdelayReq s).host :=
  .gptpSend inv

theorem HostInv.answerPdelay {s : State} (inv : HostInv s.host) : HostInv (Machine.answerPdelay s).host :=
  .gptpSend (.gptpSend inv)

theorem HostInv.sendSync {s : State} (inv : HostInv s.host) : HostInv (Machine.sendSync s).host :=
  .gptpSend (.gptpSend inv)

theorem HostInv.sendAnnounce {s : State} (inv : HostInv s.host) : HostInv (Machine.sendAnnounce s).host :=
  .gptpSend (.freeField inv)

theorem HostInv.offerStream {s : State} {classB : Bool} {fs : List TxFrame} (inv : HostInv s.host) :
    HostInv (Machine.offerStream classB fs s).host :=
  .macMod inv

theorem HostInv.streamCount {s : State} {n i : ℕ} (inv : HostInv s.host) :
    HostInv (Machine.streamCount n i s).host :=
  .netMod inv

theorem HostInv.crfCount {s : State} {n i : ℕ} (inv : HostInv s.host) : HostInv (Machine.crfCount n i s).host :=
  .netMod inv

theorem HostInv.sendFrame {s : State} {f : TxFrame} (inv : HostInv s.host) :
    HostInv (Machine.sendFrame f s).host := by
  unfold Machine.sendFrame
  split
  · split
    · split
      · exact .macCount (.macCount (.macCount (.macCount (.macCount (.macAdd (.macMod inv))))))
      · exact .macCount (.macCount (.macCount (.macCount (.macCount (.macAdd (.macMod inv))))))
      · exact .macCount (.ite (.streamCount (.macCount (.macCount (.macCount (.macCount (.macAdd (.macMod inv)))))))
          (.crfCount (.macCount (.macCount (.macCount (.macCount (.macAdd (.macMod inv))))))))
    · split
      · exact .macCount (.macCount (.macCount (.macCount (.macAdd (.macMod inv)))))
      · exact .macCount (.macCount (.macCount (.macCount (.macAdd (.macMod inv)))))
      · exact .macCount (.ite (.streamCount (.macCount (.macCount (.macCount (.macAdd (.macMod inv))))))
          (.crfCount (.macCount (.macCount (.macCount (.macAdd (.macMod inv)))))))
  · split
    · split
      · exact .macCount (.macCount (.macCount (.macCount (.macAdd (.macMod inv)))))
      · exact .macCount (.macCount (.macCount (.macCount (.macAdd (.macMod inv)))))
      · exact .macCount (.ite (.streamCount (.macCount (.macCount (.macCount (.macAdd (.macMod inv))))))
          (.crfCount (.macCount (.macCount (.macCount (.macAdd (.macMod inv)))))))
    · split
      · exact .macCount (.macCount (.macCount (.macAdd (.macMod inv))))
      · exact .macCount (.macCount (.macCount (.macAdd (.macMod inv))))
      · exact .macCount (.ite (.streamCount (.macCount (.macCount (.macAdd (.macMod inv)))))
          (.crfCount (.macCount (.macCount (.macAdd (.macMod inv))))))

theorem HostInv.sendHead {s : State} {k : ℕ} {q : List TxFrame} {put : List TxFrame → Mac → Mac}
    (inv : HostInv s.host) : HostInv (Machine.sendHead k q put s).host := by
  unfold Machine.sendHead
  split
  · exact .macMod inv
  · exact .sendFrame (.macMod inv)

theorem HostInv.frameStart {s : State} (inv : HostInv s.host) : HostInv (Machine.frameStart s).host :=
  .ite (.sendHead inv) (.ite (.sendHead inv) (.sendHead inv))

theorem HostInv.lateDiscard {s : State} {now : ℕ} (inv : HostInv s.host) :
    HostInv (Machine.lateDiscard now s).host :=
  .macAdd (.macMod inv)

theorem HostInv.execTxLateDiscard {s : State} {now : ℕ} (inv : HostInv s.host) :
    NextInv (Machine.execTxLateDiscard now s) :=
  .next (.lateDiscard inv)

theorem HostInv.postPause {s : State} {data : ℕ} (inv : HostInv s.host) : HostInv (Machine.postPause data s).host :=
  .ite (.postEth (.macMod (.pairIte (.drawElapsed inv) inv))) (.pairIte (.drawElapsed inv) inv)

theorem HostInv.endPause {s : State} {zero : Bool} (inv : HostInv s.host) :
    HostInv (Machine.endPause zero s).host :=
  .ite (.postPause (.macMod inv)) inv

theorem HostInv.pauseFrame {s : State} {q : ℕ} (inv : HostInv s.host) : HostInv (Machine.pauseFrame q s).host :=
  .ite inv (.ite (.endPause inv) (.ite (.macMod inv) (.postPause (.macCount (.macMod inv)))))

theorem HostInv.execPauseEnd {s : State} (inv : HostInv s.host) : NextInv (Machine.execPauseEnd s) :=
  HostInv.whenever inv (fun _ h => .endPause h)

theorem HostInv.execNetStatus {s : State} {o : Issue} {p : List Byte} (inv : HostInv s.host) :
    NextInv (Machine.execNetStatus o p s) :=
  HostInv.hostCommand inv (fun _ _ h => h)

theorem HostInv.execNetCounters {s : State} {o : Issue} {p : List Byte} (inv : HostInv s.host) :
    NextInv (Machine.execNetCounters o p s) :=
  HostInv.hostCommand inv (fun _ _ h => h)

theorem HostInv.netMdioRun {s : State} {o : Issue} {p : List Byte} {log : ℕ} (inv : HostInv s.host) :
    HostInv (Machine.netMdioRun o p log s).host :=
  .macMod inv

theorem HostInv.execNetMdio {s : State} {o : Issue} {p : List Byte} (inv : HostInv s.host) :
    NextInv (Machine.execNetMdio o p s) :=
  .next (.taken inv (fun _ _ h => .netMdioRun h))

theorem HostInv.mdioComplete {s : State} {driven : Bool} {data : BitVec 16} (inv : HostInv s.host) :
    HostInv (Machine.mdioComplete driven data s).host := by
  unfold Machine.mdioComplete
  split
  · exact inv
  · exact .replied (.macMod inv)

end Sys2Proof.Machine
end

section
/-! PROOF. The invariant of the host part through streams and their reservation. -/

namespace Sys2Proof.Machine

theorem HostInv.crfMod {s : State} {k : ℕ} {f : Machine.Stream → Machine.Stream} (inv : HostInv s.host) :
    HostInv (Machine.crfMod s k f).host :=
  .netMod inv

theorem HostInv.shapeQueues {s : State} {gap heldA heldB : ℕ} (inv : HostInv s.host) :
    HostInv (Machine.shapeQueues gap heldA heldB s).host :=
  .macMod inv

theorem HostInv.dropReference {s : State} {kind i log : ℕ} (inv : HostInv s.host) :
    HostInv (Machine.dropReference kind i log s).host :=
  .foldl inv (fun _ _ h => .ite (.unlockFor h) h)

theorem HostInv.enterStream {s : State} {n st cause log : ℕ} (inv : HostInv s.host) :
    HostInv (Machine.enterStream n st cause log s).host :=
  .ite inv (.ite (.dropReference (.posted (.streamMod inv))) (.posted (.streamMod inv)))

theorem HostInv.enterCrf {s : State} {k st log : ℕ} (inv : HostInv s.host) :
    HostInv (Machine.enterCrf k st log s).host :=
  .ite inv (.ite (.dropReference (.postEthFor (.crfMod inv))) (.postEthFor (.crfMod inv)))

theorem HostInv.refreshStream {s : State} {cause log n : ℕ} (inv : HostInv s.host) :
    HostInv (Machine.refreshStream cause log s n).host :=
  .ite (.enterStream inv) inv

theorem HostInv.refreshCrf {s : State} {log k : ℕ} (inv : HostInv s.host) :
    HostInv (Machine.refreshCrf log s k).host :=
  .ite (.enterCrf inv) inv

theorem HostInv.refreshStreams {s : State} {cause log : ℕ} (inv : HostInv s.host) :
    HostInv (Machine.refreshStreams cause log s).host :=
  .foldl (.foldl inv (fun _ _ h => .refreshStream h)) (fun _ _ h => .refreshCrf h)

theorem HostInv.streamStart {s : State} {n : ℕ} (inv : HostInv s.host) : HostInv (Machine.streamStart n s).host :=
  .startMembers inv

theorem HostInv.streamStop {s : State} {n : ℕ} (inv : HostInv s.host) : HostInv (Machine.streamStop n s).host :=
  .stopMembers inv

theorem HostInv.connectNow {s : State} {n cause log : ℕ} (inv : HostInv s.host) :
    HostInv (Machine.connectNow n cause log s).host :=
  .completedAll (.streamStart (.enterStream (.streamMod inv)))

theorem HostInv.connectStream {s : State} {n cause log : ℕ} {ws : List Waiter} (inv : HostInv s.host) :
    HostInv (Machine.connectStream n cause log ws s).2.host := by
  unfold Machine.connectStream
  refine .pairIte inv (.pairIte (.connectNow (.streamMod inv))
    (.pairIte (.ite (.connectNow (.streamMod inv)) (.enterStream (.streamMod inv))) ?_))
  split
  · exact inv
  · exact .ite (.connectNow (.streamMod (.activateOverlay inv))) (.enterStream (.streamMod (.activateOverlay inv)))

theorem HostInv.disconnectStream {s : State} {n cause log : ℕ} {leave : Bool} (inv : HostInv s.host) :
    HostInv (Machine.disconnectStream n cause log leave s).host := by
  unfold Machine.disconnectStream
  refine .ite inv (.ite (.enterStream (.completedAll (.streamStop (.streamMod inv)))) ?_)
  split
  · exact .enterStream (.completedAll (.streamStop (.streamMod inv)))
  · exact .deactivateOverlay (.enterStream (.completedAll (.streamStop (.streamMod inv))))

theorem HostInv.streamsPlaced {s : State} {ov : ℕ} (inv : HostInv s.host) :
    HostInv (Machine.streamsPlaced ov s).host :=
  .foldl inv (fun _ _ h => .ite (.connectNow h) h)

theorem HostInv.streamsRemoved {s : State} {ov log : ℕ} (inv : HostInv s.host) :
    HostInv (Machine.streamsRemoved ov log s).host :=
  .foldl inv (fun _ _ h => .ite (.disconnectStream h) h)

theorem HostInv.streamsEnd {s : State} {log : ℕ} (inv : HostInv s.host) : HostInv (Machine.streamsEnd log s).host :=
  .foldl (.foldl inv (fun _ _ h => .disconnectStream h)) (fun _ _ h => .enterCrf (.crfMod h))

theorem HostInv.startStreams {s : State} (inv : HostInv s.host) : HostInv (Machine.startStreams s).host :=
  .foldl (.foldl inv (fun _ _ h => .streamMod h)) (fun _ _ h => .ite (.refreshCrf (.crfMod (.crfMod h)))
    (.crfMod h))

theorem HostInv.giveTalker {s : State} {k m : ℕ} (inv : HostInv s.host) : HostInv (Machine.giveTalker k m s).host :=
  .ite (.streamMod (.memberSample inv)) inv

theorem HostInv.giveSpdif {s : State} {k m : ℕ} (inv : HostInv s.host) : HostInv (Machine.giveSpdif k m s).host :=
  .ite (.spdifMod (.memberSample inv)) inv

theorem HostInv.execEgressMemberTake {s : State} {c : Fin 128} {m : Fin 8} (inv : HostInv s.host) :
    NextInv (Machine.execEgressMemberTake c m s) :=
  HostInv.whenever inv (fun _ h => .markRead (.giveSpdif (.giveTalker (.takeEgress h))))

theorem HostInv.sendBlock {s0 : State} {t now : ℕ} (inv : HostInv s0.host) :
    HostInv (Machine.sendBlock t now s0).host := by
  unfold Machine.sendBlock
  dsimp only
  split
  · exact .macCount (.streamMod (.streamMod inv))
  · exact .offerStream (.streamMod (.streamMod inv))
  · exact .offerStream (.macAdd (.macCount (.streamMod (.streamMod inv))))

theorem HostInv.execTalkerBlock {s : State} {t : Fin 32} {now : ℕ} (inv : HostInv s.host) :
    NextInv (Machine.execTalkerBlock t now s) :=
  HostInv.whenever inv (fun _ h => .sendBlock h)

theorem HostInv.toggleRates {s old : State} (inv : HostInv s.host) : HostInv (Machine.toggleRates old s).host :=
  .foldl inv (fun _ _ h => .ite (.streamMod h) h)

theorem HostInv.sendCrf {s : State} {now : ℕ} (inv : HostInv s.host) : HostInv (Machine.sendCrf now s).host :=
  .ite (.macCount (.crfMod inv)) (.offerStream (.crfMod inv))

theorem HostInv.execCrfFrameSend {s : State} {now : ℕ} (inv : HostInv s.host) :
    NextInv (Machine.execCrfFrameSend now s) :=
  HostInv.whenever inv (fun _ h => .sendCrf h)

theorem HostInv.setDomain {s : State} {classA : Bool} {prio vid : ℕ} {bound : Bool} (inv : HostInv s.host) :
    HostInv (Machine.setDomain classA prio vid bound s).host :=
  .netMod inv

theorem HostInv.postDomain {s : State} {classA : Bool} {prio vid : ℕ} {bound : Bool} (inv : HostInv s.host) :
    HostInv (Machine.postDomain classA prio vid bound s).host :=
  .postEth inv

theorem HostInv.registerDomain {s : State} {classA : Bool} {prio vid : ℕ} (inv : HostInv s.host) :
    HostInv (Machine.registerDomain classA prio vid s).host :=
  .ite (.postDomain (.setDomain inv)) (.setDomain inv)

theorem HostInv.receiveDeclaration {s : State} {k : MsrpKind} {id : BitVec 64} {leave : Bool} (inv : HostInv s.host)
    : HostInv (Machine.receiveDeclaration k id leave s).host := by
  unfold Machine.receiveDeclaration
  refine .ite (.ite (.netMod inv) inv) (.refreshStreams ?_)
  split
  · exact .registerDomain (.netMod inv)
  · exact .netMod inv

theorem HostInv.execMsrpDeclarationReceived {s : State} {kind : MsrpKind} {stream : BitVec 64} {leave : Bool}
    (inv : HostInv s.host) : NextInv (Machine.execMsrpDeclarationReceived kind stream leave s) :=
  HostInv.whenever inv (fun _ h => .receiveDeclaration h)

theorem HostInv.endRegistration {s : State} {k : MsrpKind} {id : BitVec 64} (inv : HostInv s.host) :
    HostInv (Machine.endRegistration k id s).host := by
  unfold Machine.endRegistration
  refine .refreshStreams ?_
  split
  · exact .ite (.postDomain (.setDomain (.netMod inv))) (.setDomain (.netMod inv))
  · exact .netMod inv

theorem HostInv.execMrpLeaveTimerExpire {s : State} {kind : MsrpKind} {stream : BitVec 64} (inv : HostInv s.host) :
    NextInv (Machine.execMrpLeaveTimerExpire kind stream s) :=
  HostInv.whenever inv (fun _ h => .endRegistration h)

theorem HostInv.declareMsrp {s : State} (inv : HostInv s.host) : HostInv (Machine.declareMsrp s).host :=
  .ite inv (.netMod (.offerControl (.freeField inv)))

theorem HostInv.execTxFrameStart {s : State} {gap heldA heldB : ℕ} (inv : HostInv s.host) :
    NextInv (Machine.execTxFrameStart gap heldA heldB s) :=
  HostInv.whenever inv (fun _ h => .frameStart (.shapeQueues (.declareMsrp h)))

theorem HostInv.streamStatusDo {s : State} {o : Issue} {p : List Byte} {x2 : ℕ} (inv : HostInv s.host) :
    HostInv (Machine.streamStatusDo o p x2 s).s.host :=
  .ite (.streamMod inv) inv

theorem HostInv.execStreamStatus {s : State} {o : Issue} {p : List Byte} (inv : HostInv s.host) :
    NextInv (Machine.execStreamStatus o p s) :=
  HostInv.hostCommand inv (fun _ _ h => .streamStatusDo h)

theorem HostInv.nameStream {s : State} {n dest : ℕ} {id : BitVec 64} {pto : ℕ} (inv : HostInv s.host) :
    HostInv (Machine.nameStream n dest id pto s).host :=
  .streamMod inv

theorem HostInv.streamConnectDo {s : State} {o : Issue} {p : List Byte} {log : ℕ} (inv : HostInv s.host) :
    HostInv (Machine.streamConnectDo o p log s).s.host := by
  unfold Machine.streamConnectDo
  exact .doneIte (.doneIte (.streamMod (.connectStream (.nameStream inv)))
    (.completed (.connectStream (.nameStream inv)))) (.doneIte
    (.streamMod (.refreshStream (.streamMod (.nameStream inv))))
    (.completed (.refreshStream (.streamMod (.nameStream inv)))))

theorem HostInv.execStreamConnect {s : State} {o : Issue} {p : List Byte} (inv : HostInv s.host) :
    NextInv (Machine.execStreamConnect o p s) :=
  HostInv.hostCommand inv (fun _ _ h => .streamConnectDo h)

theorem HostInv.streamDisconnectDo {s : State} {o : Issue} {p : List Byte} {log : ℕ} (inv : HostInv s.host) :
    HostInv (Machine.streamDisconnectDo o p log s).s.host :=
  .completed (.ite (.streamMod inv) (.disconnectStream (.streamMod inv)))

theorem HostInv.execStreamDisconnect {s : State} {o : Issue} {p : List Byte} (inv : HostInv s.host) :
    NextInv (Machine.execStreamDisconnect o p s) :=
  HostInv.hostCommand inv (fun _ _ h => .streamDisconnectDo h)

theorem HostInv.crfStatusDo {s : State} {o : Issue} {p : List Byte} {x2 : ℕ} (inv : HostInv s.host) :
    HostInv (Machine.crfStatusDo o p x2 s).s.host :=
  .ite (.crfMod inv) inv

theorem HostInv.execCrfStatus {s : State} {o : Issue} {p : List Byte} (inv : HostInv s.host) :
    NextInv (Machine.execCrfStatus o p s) :=
  HostInv.hostCommand inv (fun _ _ h => .crfStatusDo h)

theorem HostInv.execMsrpStatus {s : State} {o : Issue} {p : List Byte} (inv : HostInv s.host) :
    NextInv (Machine.execMsrpStatus o p s) :=
  HostInv.hostCommand inv (fun _ _ h => h)

theorem HostInv.execStreamReceiveTimeout {s : State} {l : Fin 32} (inv : HostInv s.host) :
    NextInv (Machine.execStreamReceiveTimeout l s) :=
  HostInv.whenever inv (fun _ h => .enterStream h)

end Sys2Proof.Machine
end

section
/-! PROOF. The invariant of the host part through received frames. -/

namespace Sys2Proof.Machine

theorem HostInv.postFormatError {s : State} {inst : ℕ} {cn : Concern} {q : Machine.Stream}
    {put : (Machine.Stream → Machine.Stream) → State → State} (inv : HostInv s.host)
    (h : ∀ f (t : State), HostInv t.host → HostInv (put f t).host) : HostInv
    (Machine.postFormatError inst cn q put s).host := by
  unfold Machine.postFormatError
  extract_lets s1 d
  have hs1 : HostInv s1.host := h _ s inv
  have hd : HostInv d.2.host := .pairIte hs1 hs1
  exact .ite (.posted (h _ d.2 hd)) hd

theorem HostInv.placeSample {s : State} {k m : ℕ} {index : ℤ} {sample : List Word} (inv : HostInv s.host) :
    HostInv (Machine.placeSample k m index sample s).host :=
  .ite (.convCount inv) (.sampleArrives inv)

theorem HostInv.placeFrame {s : State} {n : ℕ} {b : List Byte} {now : ℕ} (inv : HostInv s.host) :
    HostInv (Machine.placeFrame n b now s).host := by
  unfold Machine.placeFrame
  split
  · exact .memMod (.foldl inv (fun _ _ h => .placeSample h))
  · dsimp only
    split
    · exact inv
    · exact .memMod (.foldl inv (fun _ _ h => .placeSample h))

theorem HostInv.listenerFrame {s : State} {l : ℕ} {b : List Byte} {now : ℕ} (inv : HostInv s.host) :
    HostInv (Machine.listenerFrame l b now s).host := by
  unfold Machine.listenerFrame
  extract_lets n q seq mr s1 s2 s3 s4 s5 s6
  have hs1 : HostInv s1.host := .streamCount inv
  have hs2 : HostInv s2.host := .ite hs1 (.streamCount hs1)
  have hs3 : HostInv s3.host := .ite hs2 (.portUnderrun (.streamCount hs2))
  have hs4 : HostInv s4.host := .streamMod hs3
  have hs5 : HostInv s5.host := .ite (.enterStream hs4) hs4
  have hs6 : HostInv s6.host := .ite (.noteStamps hs5) hs5
  exact .ite (.streamCount inv) (.ite (.postFormatError (.streamCount inv) (fun _ _ h => .streamMod h))
    (.placeFrame hs6))

theorem HostInv.crfFrameReceived {s : State} {k : ℕ} {b : List Byte} (inv : HostInv s.host) :
    HostInv (Machine.crfFrameReceived k b s).host :=
  .ite (.crfCount inv) (.ite (.postFormatError (.crfCount inv) (fun _ _ h => .crfMod h))
    (.noteStamps (.ite (.enterCrf (.crfMod (.crfCount inv))) (.crfMod (.crfCount inv)))))

theorem HostInv.gptpFrame {s : State} {b : List Byte} (inv : HostInv s.host) :
    HostInv (Machine.gptpFrame b s).host :=
  .ite (.answerPdelay inv) inv

theorem HostInv.deliverFrame {s : State} {f : List Byte} {now : ℕ} (inv : HostInv s.host) :
    HostInv (Machine.deliverFrame f now s).host := by
  unfold Machine.deliverFrame
  split
  · exact .gptpFrame (.macCount inv)
  · exact .macCount inv
  · refine .ite ?_ (.ite (.macCount inv) (.macCount inv))
    split
    · exact .ite (.listenerFrame (.macCount inv)) (.crfFrameReceived (.macCount inv))
    · exact .listenerFrame (.macCount inv)
    · exact .crfFrameReceived (.macCount inv)
    · exact .macCount inv
  · exact .ite (.pauseFrame (.macCount inv)) (.macCount inv)
  · exact .macCount inv

theorem HostInv.countAccepted {s : State} {f : List Byte} (inv : HostInv s.host) :
    HostInv (Machine.countAccepted f s).host :=
  .ite (.macCount (.macCount (.macAdd (.macCount inv)))) (.macCount (.macAdd (.macCount inv)))

theorem HostInv.passFrame {s : State} {f : List Byte} {now : ℕ} (inv : HostInv s.host) :
    HostInv (Machine.passFrame f now s).host :=
  .ite (.macCount inv) (.ite (.macCount inv) (.deliverFrame inv))

/-- One frame that waited in the receive FIFO is filtered and delivered. -/
def passStored (t : State) (x : List Byte × Nat) : State := passFrame x.1 x.2 t

theorem drainRx_eq (s : State) :
    Machine.drainRx s = s.net.mac.rxFifo.foldl passStored (macMod s fun m => { m with rxFifo := [] }) := rfl

theorem HostInv.passStored {s : State} {x : List Byte × Nat} (inv : HostInv s.host) :
    HostInv (Machine.passStored s x).host := .passFrame inv

theorem HostInv.drainRx {s : State} (inv : HostInv s.host) : HostInv (Machine.drainRx s).host := by
  rw [drainRx_eq]
  exact .foldl (.macMod inv) fun _ _ h => .passStored h

theorem HostInv.fifoFrame {s : State} {f : List Byte} {prompt : Bool} {now : ℕ} (inv : HostInv s.host) :
    HostInv (Machine.fifoFrame f prompt now s).host :=
  .ite (.passFrame (.drainRx inv)) (.ite (.macCount inv) (.macMod inv))

theorem HostInv.receiveFrame {s : State} {f : List Byte} {codeError fcsValid prompt : Bool} {now : ℕ}
    (inv : HostInv s.host) : HostInv (Machine.receiveFrame f codeError fcsValid prompt now s).host :=
  .ite (.macCount inv) (.ite (.ite (.macCount inv) (.macCount inv))
    (.ite (.ite (.macCount inv) (.macCount inv)) (.ite (.macCount inv) (.fifoFrame (.countAccepted inv)))))

theorem HostInv.execFrameReceived {s : State} {frame : List Byte} {codeError fcsValid prompt : Bool} {now : ℕ}
    (inv : HostInv s.host) : NextInv (Machine.execFrameReceived frame codeError fcsValid prompt now s) :=
  HostInv.whenever inv (fun _ h => .receiveFrame h)

theorem HostInv.tickCrf {s : State} {k : ℕ} (inv : HostInv s.host) : HostInv (Machine.tickCrf s k).host :=
  .ite (.ite (.enterCrf (.crfMod inv)) (.crfMod inv)) inv

end Sys2Proof.Machine
end

section
/-! PROOF. The invariant of the host part through the link and gPTP. -/

namespace Sys2Proof.Machine

theorem HostInv.gptpMod {s : State} {f : Gptp → Gptp} (inv : HostInv s.host) : HostInv (Machine.gptpMod s f).host :=
  inv

theorem HostInv.adpSend {s : State} {message : ℕ} (inv : HostInv s.host) :
    HostInv (Machine.adpSend message s).host :=
  .ite inv (.offerControl (.netMod (.freeField (.freeField inv))))

theorem HostInv.departing {s : State} (inv : HostInv s.host) : HostInv (Machine.departing s).host := by
  unfold Machine.departing
  dsimp only
  split
  · exact .adpSend inv
  · exact .sendFrame (.macMod (.adpSend inv))

theorem HostInv.netServe {s : State} {r : NetHeld} {act : State → State} (inv : HostInv s.host)
    (h : ∀ t : State, HostInv t.host → HostInv (act t).host) : HostInv (Machine.netServe r act s).host :=
  .ite (h s inv) inv

theorem HostInv.execAdpAdvertise {s : State} (inv : HostInv s.host) : NextInv (Machine.execAdpAdvertise s) :=
  HostInv.whenever inv (fun _ h => .netServe h (fun _ h => .adpSend h))

theorem HostInv.enterGptp {s : State} {st cause log : ℕ} (inv : HostInv s.host) :
    HostInv (Machine.enterGptp st cause log s).host :=
  .ite inv (.refreshStreams (.postEthFor (.gptpMod inv)))

theorem HostInv.setGrandmaster {s : State} {id : BitVec 64} {steps : ℕ} (inv : HostInv s.host) :
    HostInv (Machine.setGrandmaster id steps s).host :=
  .ite (.gptpMod inv) (.adpSend (.gptpMod inv))

theorem HostInv.becomeGrandmaster {s : State} {log : ℕ} (inv : HostInv s.host) :
    HostInv (Machine.becomeGrandmaster log s).host :=
  .ite (.sendAnnounce (.enterGptp (.setGrandmaster (.gptpMod inv)))) (.enterGptp (.setGrandmaster (.gptpMod inv)))

theorem HostInv.tickGptp {s : State} (inv : HostInv s.host) : HostInv (Machine.tickGptp s).host :=
  .ite inv (.ite (.gptpMod inv) (.ite (.sendAnnounce (.sendSync (.gptpMod inv))) (.sendSync (.gptpMod inv))))

theorem HostInv.becomeListening {s : State} {cause log : ℕ} (inv : HostInv s.host) :
    HostInv (Machine.becomeListening cause log s).host :=
  .enterGptp (.gptpMod inv)

theorem HostInv.followClock {s : State} {steps log : ℕ} (inv : HostInv s.host) :
    HostInv (Machine.followClock steps log s).host :=
  .ite (.enterGptp (.gptpMod (.setGrandmaster inv))) (.ite (.ite (.gptpMod (.setGrandmaster inv))
    (.setGrandmaster inv)) (.ite (.gptpMod (.setGrandmaster inv)) (.setGrandmaster inv)))

theorem HostInv.runBmca {s : State} {steps log : ℕ} (inv : HostInv s.host) :
    HostInv (Machine.runBmca steps log s).host :=
  .ite (.ite inv (.becomeGrandmaster inv)) (.followClock inv)

theorem HostInv.rerunBmca {s : State} {log : ℕ} (inv : HostInv s.host) : HostInv (Machine.rerunBmca log s).host :=
  .ite (.ite (.runBmca inv) inv) (.ite (.becomeListening (.setGrandmaster inv)) inv)

theorem HostInv.execGptpAnnounceReceived {s : State} {priority1 clockClass accuracy : Byte} {variance : BitVec 16}
    {priority2 : Byte} {gm : BitVec 64} {steps : BitVec 16} (inv : HostInv s.host) : NextInv
    (Machine.execGptpAnnounceReceived priority1 clockClass accuracy variance priority2 gm steps s) :=
  HostInv.whenever inv (fun _ h => .runBmca (.gptpMod h))

theorem HostInv.announceTimeout {s : State} (inv : HostInv s.host) : HostInv (Machine.announceTimeout s).host :=
  .ite (.becomeListening (.setGrandmaster (.gptpMod inv))) (.becomeGrandmaster (.gptpMod inv))

theorem HostInv.execGptpAnnounceTimeout {s : State} (inv : HostInv s.host) :
    NextInv (Machine.execGptpAnnounceTimeout s) :=
  HostInv.whenever inv (fun _ h => .announceTimeout h)

theorem HostInv.loseCapable {s : State} (inv : HostInv s.host) : HostInv (Machine.loseCapable s).host :=
  .ite (.gptpMod inv) (.ite (.becomeListening (.gptpMod inv)) (.gptpMod inv))

theorem HostInv.pdelayComplete {s : State} {okay : Bool} {delay : ℕ} (inv : HostInv s.host) :
    HostInv (Machine.pdelayComplete okay delay s).host :=
  .ite (.ite (.loseCapable (.gptpMod inv)) (.gptpMod inv)) (.ite (.loseCapable (.gptpMod inv))
    (.gptpMod (.gptpMod inv)))

theorem HostInv.execGptpPdelayComplete {s : State} {ok : Bool} {delay : ℕ} (inv : HostInv s.host) :
    NextInv (Machine.execGptpPdelayComplete ok delay s) :=
  HostInv.whenever inv (fun _ h => .sendPdelayReq (.pdelayComplete h))

theorem HostInv.stepTime {s : State} (inv : HostInv s.host) : HostInv (Machine.stepTime s).host :=
  .ite (.postEth (.gptpMod inv)) (.enterGptp (.gptpMod inv))

theorem HostInv.syncReceived {s : State} {measured : ℤ} {now : ℕ} (inv : HostInv s.host) :
    HostInv (Machine.syncReceived measured now s).host :=
  .ite (.stepTime (.gptpMod inv)) (.ite (.gptpMod (.gptpMod inv))
    (.ite (.gptpMod (.gptpMod (.gptpMod inv))) (.ite (.enterGptp (.gptpMod (.gptpMod (.gptpMod inv))))
    (.gptpMod (.gptpMod (.gptpMod inv))))))

theorem HostInv.execGptpSyncReceived {s : State} {offset : ℤ} {now : ℕ} (inv : HostInv s.host) :
    NextInv (Machine.execGptpSyncReceived offset now s) :=
  HostInv.whenever inv (fun _ h => .syncReceived h)

theorem HostInv.execGptpSyncTimeout {s : State} (inv : HostInv s.host) : NextInv (Machine.execGptpSyncTimeout s) :=
  HostInv.whenever inv (fun _ h => .ite (.becomeListening (.gptpMod h)) (.gptpMod h))

theorem HostInv.startGptp {s : State} {log : ℕ} (inv : HostInv s.host) : HostInv (Machine.startGptp log s).host :=
  .rerunBmca (.gptpMod inv)

theorem HostInv.postLink {s : State} {up : Bool} {cause log : ℕ} (inv : HostInv s.host) :
    HostInv (Machine.postLink up cause log s).host :=
  .postEthFor inv

theorem HostInv.linkGoesDown {s : State} {cause log : ℕ} (inv : HostInv s.host) :
    HostInv (Machine.linkGoesDown cause log s).host :=
  .ite inv (.enterGptp (.gptpMod (.netMod (.endPause (.postLink
    (.ite (.macCount (.macAdd (.macMod inv))) (.macAdd (.macMod inv))))))))

theorem HostInv.execLinkSyncAcquired {s : State} (inv : HostInv s.host) :
    NextInv (Machine.execLinkSyncAcquired s) :=
  HostInv.whenever inv (fun _ h => .macMod h)

theorem HostInv.linkComesUp {s : State} {partner : ℕ} (inv : HostInv s.host) :
    HostInv (Machine.linkComesUp partner s).host :=
  .adpSend (.sendPdelayReq (.enterGptp (.postLink (.macMod inv))))

theorem HostInv.execLinkUp {s : State} {partner : Fin 3} (inv : HostInv s.host) :
    NextInv (Machine.execLinkUp partner s) :=
  HostInv.whenever inv (fun _ h => .linkComesUp h)

theorem HostInv.execLinkDown {s : State} {cause : Fin 4} {partner : Fin 3} (inv : HostInv s.host) :
    NextInv (Machine.execLinkDown cause partner s) :=
  HostInv.whenever inv (fun _ h => .linkGoesDown (.macMod h))

theorem HostInv.swapPort {s : State} {old : Bank} {log : ℕ} (inv : HostInv s.host) :
    HostInv (Machine.swapPort old log s).host := by
  unfold Machine.swapPort
  refine .ite (.ite (.phyReset inv) (.ite (.linkGoesDown (.phyReset ?_)) inv))
    (.endPause (.ite (.phyReset inv) (.ite (.linkGoesDown (.phyReset ?_)) inv)))
  · dsimp only
    exact .departing inv
  · dsimp only
    exact .departing inv

theorem HostInv.swapIdentity {s : State} {old : Bank} (inv : HostInv s.host) :
    HostInv (Machine.swapIdentity old s).host :=
  .ite (.adpSend (.ite (.gptpMod inv) inv)) (.ite (.gptpMod inv) inv)

theorem HostInv.swapNet {s : State} {old : Bank} {log : ℕ} (inv : HostInv s.host) :
    HostInv (Machine.swapNet old log s).host :=
  .swapIdentity (.swapPort inv)

theorem HostInv.execGptpStatus {s : State} {o : Issue} {p : List Byte} (inv : HostInv s.host) :
    NextInv (Machine.execGptpStatus o p s) :=
  HostInv.hostCommand inv (fun _ _ h => h)

theorem HostInv.gptpSetDo {s : State} {p : List Byte} {log : ℕ} (inv : HostInv s.host) :
    HostInv (Machine.gptpSetDo p log s).s.host :=
  .rerunBmca (.gptpMod inv)

theorem HostInv.execGptpSet {s : State} {o : Issue} {p : List Byte} (inv : HostInv s.host) :
    NextInv (Machine.execGptpSet o p s) :=
  HostInv.hostCommand inv (fun _ _ h => .gptpSetDo h)

end Sys2Proof.Machine
end

section
/-! PROOF. The invariant of the host part through discovery, ACMP and AECP. -/

namespace Sys2Proof.Machine

theorem HostInv.discChanged {s : State} {added removed : ℕ} (inv : HostInv s.host) :
    HostInv (Machine.discChanged added removed s).host :=
  .ite (.posted (.netMod (.pairIte (.drawElapsed (.netMod inv)) (.netMod inv))))
    (.pairIte (.drawElapsed (.netMod inv)) (.netMod inv))

theorem HostInv.discRefused {s : State} (inv : HostInv s.host) : HostInv (Machine.discRefused s).host :=
  .ite (.posted (.netMod (.pairIte (.drawElapsed (.netMod inv)) (.netMod inv))))
    (.pairIte (.drawElapsed (.netMod inv)) (.netMod inv))

theorem HostInv.setDisc {s : State} {l : List Disc} (inv : HostInv s.host) : HostInv (Machine.setDisc l s).host :=
  .netMod inv

theorem HostInv.adpReceived {s : State} {departing : Bool} {e : DiscEntry} (inv : HostInv s.host) :
    HostInv (Machine.adpReceived departing e s).host := by
  unfold Machine.adpReceived
  split
  · exact .ite (.discChanged (.setDisc inv)) (.ite (.discChanged (.setDisc inv)) (.setDisc inv))
  · exact .ite inv (.ite (.discRefused inv) (.discChanged (.setDisc inv)))

theorem HostInv.execAdpReceived {s : State} {departing : Bool} {e : DiscEntry} (inv : HostInv s.host) :
    NextInv (Machine.execAdpReceived departing e s) :=
  HostInv.whenever inv (fun _ h => .netServe h (fun _ h => .adpReceived h))

theorem HostInv.execDiscEntryExpire {s : State} {entity : BitVec 64} (inv : HostInv s.host) :
    NextInv (Machine.execDiscEntryExpire entity s) :=
  HostInv.whenever inv (fun _ h => .discChanged (.setDisc h))

theorem HostInv.execDiscRead {s : State} {o : Issue} {p : List Byte} (inv : HostInv s.host) :
    NextInv (Machine.execDiscRead o p s) :=
  HostInv.hostCommand inv (fun _ _ h => h)

theorem HostInv.discStatusDo {s : State} {p : List Byte} {x1 : ℕ} (inv : HostInv s.host) :
    HostInv (Machine.discStatusDo p x1 s).s.host :=
  .ite (.netMod inv) inv

theorem HostInv.execDiscStatus {s : State} {o : Issue} {p : List Byte} (inv : HostInv s.host) :
    NextInv (Machine.execDiscStatus o p s) :=
  HostInv.hostCommand inv (fun _ _ h => .discStatusDo h)

theorem HostInv.acmpSend {s : State} {kind status : ℕ} {id : BitVec 64} {dest : BitVec 48} {controller : BitVec 64}
    {count : ℕ} (inv : HostInv s.host) : HostInv (Machine.acmpSend kind status id dest controller count s).host :=
  .offerControl (.freeField inv)

theorem HostInv.acmpEffect {s : State} {kind n : ℕ} {id : BitVec 64} {dest : BitVec 48} {log : ℕ}
    (inv : HostInv s.host) : HostInv (Machine.acmpEffect kind n id dest log s).2.host := by
  unfold Machine.acmpEffect
  extract_lets q s1 s2 r s11
  have hs1 : HostInv s1.host := .ite (.nameStream inv) inv
  have hr : HostInv r.2.host := .connectStream hs1
  have hs11 : HostInv s11.host := .streamMod inv
  exact .pairIte inv (.pairIte inv (.pairIte (.pairIte (.refreshStream (.ite (.streamMod hs1) hs1))
    (.pairIte inv (.pairIte (.ite (.streamMod hr) hr) hr))) (.pairIte hs11 (.disconnectStream hs11))))

theorem HostInv.acmpToTalker {s : State} {kind n : ℕ} {controller : BitVec 64} (inv : HostInv s.host) :
    HostInv (Machine.acmpToTalker kind n controller s).host :=
  .ite (.offerControl (.freeField inv)) inv

theorem HostInv.acmpCommand {s : State} {kind n : ℕ} {id : BitVec 64} {dest : BitVec 48} {controller : BitVec 64}
    (inv : HostInv s.host) : HostInv (Machine.acmpCommand kind n id dest controller s).host :=
  .acmpSend (.acmpEffect (.acmpToTalker (.takeLog inv)))

theorem HostInv.execAcmpCommand {s : State} {kind : Fin 4} {stream : Fin 32} {streamId : BitVec 64}
    {dest : BitVec 48} {controller : BitVec 64} (inv : HostInv s.host) : NextInv
    (Machine.execAcmpCommand kind stream streamId dest controller s) := by
  unfold Machine.execAcmpCommand
  exact HostInv.whenever inv (fun _ h => .netServe h (fun _ h => .acmpCommand h))

theorem HostInv.aecpMod {s : State} {c : BitVec 64} {f : Aecp → Aecp} (inv : HostInv s.host) :
    HostInv (Machine.aecpMod c f s).host :=
  .netMod inv

theorem HostInv.aecpSend {s : State} {c : BitVec 64} {bytes : List Byte} (inv : HostInv s.host) :
    HostInv (Machine.aecpSend c bytes s).host :=
  .offerControl (.freeField inv)

theorem HostInv.aecpRespond {s : State} {c : BitVec 64} {seq : BitVec 16} {bytes : List Byte} (inv : HostInv s.host)
    : HostInv (Machine.aecpRespond c seq bytes s).host :=
  .aecpSend (.aecpMod inv)

theorem HostInv.aemOnStream {s : State} {c : BitVec 64} {n : ℕ} {act : State → ℕ × State} (inv : HostInv s.host)
    (h : ∀ t : State, HostInv t.host → HostInv (act t).2.host) : HostInv (Machine.aemOnStream c n act s).2.host :=
    by
  unfold Machine.aemOnStream
  split
  · exact inv
  · exact .pairIte inv (.pairIte inv (h s inv))

theorem HostInv.aemSetFormat {s : State} {n log : ℕ} {format nsr channels : Byte} (inv : HostInv s.host) :
    HostInv (Machine.aemSetFormat n log format nsr channels s).2.host := by
  unfold Machine.aemSetFormat
  dsimp only
  split
  · exact .pairIte inv (.pairIte inv (.pairIte inv (.commitRate inv)))
  · exact inv

theorem HostInv.aemStart {s : State} {n log : ℕ} (inv : HostInv s.host) :
    HostInv (Machine.aemStart n log s).2.host :=
  .pairIte (.streamMod inv) (.pairIte (.streamMod (.connectStream inv)) (.connectStream inv))

theorem HostInv.aemStop {s : State} {n log : ℕ} (inv : HostInv s.host) : HostInv (Machine.aemStop n log s).2.host :=
  .ite (.streamMod inv) (.disconnectStream (.streamMod inv))

theorem HostInv.aemSetClock {s : State} {c : BitVec 64} {d alt log : ℕ} (inv : HostInv s.host) :
    HostInv (Machine.aemSetClock c d alt log s).2.host := by
  unfold Machine.aemSetClock
  split
  · exact inv
  · exact .pairIte inv (.pairIte inv (.pairIte inv (.commitAlt inv)))

theorem HostInv.aemEffect {s : State} {c : BitVec 64} {log : ℕ} {cmd : AemCommand} (inv : HostInv s.host) :
    HostInv (Machine.aemEffect c log cmd s).2.host := by
  unfold Machine.aemEffect
  split
  · exact .pairIte inv (.netMod inv)
  · exact .pairIte inv (.netMod inv)
  · exact inv
  · exact inv
  · exact .pairIte inv inv
  · exact .aemOnStream inv (fun _ h => .aemSetFormat h)
  · exact .pairIte inv inv
  · exact .aemOnStream inv (fun _ h => .refreshStream (.nameStream h))
  · exact .aemOnStream inv (fun _ h => .aemStart h)
  · exact .aemOnStream inv (fun _ h => .aemStop h)
  · exact inv
  · exact inv
  · exact inv
  · exact .pairIte inv inv
  · exact .aemSetClock inv
  · exact .netMod inv
  · exact .netMod inv
  · exact inv

theorem HostInv.asPath {s : State} (inv : HostInv s.host) : HostInv (Machine.asPath s).2.host := by
  unfold Machine.asPath
  extract_lets g n f
  have hf : HostInv f.2.host := .freeField inv
  exact .pairIte inv (.pairIte hf inv)

theorem HostInv.aemBody {s : State} {cmd : AemCommand} (inv : HostInv s.host) :
    HostInv (Machine.aemBody cmd s).2.host := by
  unfold Machine.aemBody
  split
  · exact inv
  · exact inv
  · exact inv
  · exact inv
  · exact inv
  · exact inv
  · exact inv
  · exact inv
  · exact inv
  · exact inv
  · exact inv
  · exact inv
  · exact inv
  · exact inv
  · exact inv
  · exact .asPath inv
  · exact inv
  · exact .freeField inv

theorem HostInv.aemRespond {s : State} {c : BitVec 64} {seq : BitVec 16} {cmd : AemCommand} {status : ℕ}
    (inv : HostInv s.host) : HostInv (Machine.aemRespond c seq cmd status s).host :=
  .aecpRespond (.aemBody inv)

theorem HostInv.aemNotify {s : State} {c : BitVec 64} {cmd : AemCommand} (inv : HostInv s.host) :
    HostInv (Machine.aemNotify c cmd s).host :=
  .foldl inv (fun _ _ h => .aecpSend (.freeField (.aemBody h)))

theorem HostInv.aemCommand {s : State} {c : BitVec 64} {seq : BitVec 16} {cmd : AemCommand} (inv : HostInv s.host) :
    HostInv (Machine.aemCommand c seq cmd s).host :=
  .ite (.aecpSend inv) (.ite (.aemRespond inv) (.ite (.aemNotify (.aemRespond (.aemEffect (.takeLog inv))))
    (.aemRespond (.aemEffect (.takeLog inv)))))

theorem HostInv.execAemCommand {s : State} {controller : BitVec 64} {seq : BitVec 16} {cmd : AemCommand}
    (inv : HostInv s.host) : NextInv (Machine.execAemCommand controller seq cmd s) :=
  HostInv.whenever inv (fun _ h => .netServe h (fun _ h => .aemCommand h))

theorem HostInv.serveNet {s : State} (inv : HostInv s.host) : HostInv (Machine.serveNet s).host := by
  unfold Machine.serveNet
  split
  · exact inv
  · split
    · exact .aemCommand (.netMod inv)
    · exact .acmpCommand (.netMod inv)
    · exact .adpReceived (.netMod inv)
    · exact .adpSend (.netMod inv)

theorem HostInv.vendorReply {s : State} {c : BitVec 64} {seq : BitVec 16} {r : Reply} (inv : HostInv s.host) :
    HostInv (Machine.vendorReply c seq r s).host :=
  .aecpRespond (.aecpMod inv)

theorem HostInv.vendorFlush {s : State} (inv : HostInv s.host) : HostInv (Machine.vendorFlush s).host := by
  unfold Machine.vendorFlush
  split
  · exact .vendorReply (.of_eq inv rfl rfl rfl rfl)
  · exact inv

theorem HostInv.answerFailed {s : State} {n : ℕ} {h : Held} (inv : HostInv s.host) :
    HostInv (Machine.answerFailed n s h).host := by
  unfold Machine.answerFailed
  split
  · exact .vendorReply inv
  · exact .replied inv

theorem HostInv.answerFailures {s : State} {n : ℕ} (inv : HostInv s.host) :
    HostInv (Machine.answerFailures s n).host :=
  .ite inv (.foldl (.ctxModQuiet inv (fun _ => rfl) (fun _ => rfl)) (fun _ _ h => .answerFailed h))

theorem HostInv.flushReplies {s : State} (inv : HostInv s.host) : HostInv (Machine.flushReplies s).host :=
  .foldl (.vendorFlush inv) (fun _ _ h => .answerFailures h)

theorem HostInv.execMdioComplete {s : State} {driven : Bool} {data : BitVec 16} (inv : HostInv s.host) :
    NextInv (Machine.execMdioComplete driven data s) :=
  .next (.flushReplies (.mdioComplete inv))

theorem HostInv.execUsbVendorTransfer {s : State} {port : Fin 2} {read : ℕ} {bytes : List Byte}
    (inv : HostInv s.host) : NextInv (Machine.execUsbVendorTransfer port read bytes s) := by
  unfold Machine.execUsbVendorTransfer
  extract_lets n
  exact HostInv.whenever inv (fun _ h => .ite (.receivePacket
    (.ite (.flushReplies (.ctxModQuiet h (fun _ => rfl) (fun _ => rfl)))
    (.ctxModQuiet h (fun _ => rfl) (fun _ => rfl)))) (.ite (.flushReplies
    (.ctxModQuiet h (fun _ => rfl) (fun _ => rfl))) (.ctxModQuiet h (fun _ => rfl) (fun _ => rfl))))

theorem HostInv.vendorPacket {s : State} {c : BitVec 64} {seq : BitVec 16} {bytes : List Byte}
    (inv : HostInv s.host) : HostInv (Machine.vendorPacket c seq bytes s).host := by
  unfold Machine.vendorPacket
  refine .ite ?_ (.takePacket inv)
  split
  · exact .vendorReply (.takePacket inv)
  · exact .takePacket inv

theorem HostInv.vendorCommand {s : State} {c : BitVec 64} {seq : BitVec 16} {index count : ℕ} {data : List Byte}
    (inv : HostInv s.host) : HostInv (Machine.vendorCommand c seq index count data s).host := by
  unfold Machine.vendorCommand
  extract_lets a got s1 v
  have hs1 : HostInv s1.host := .aecpMod inv
  exact .ite (.aecpRespond (.aecpMod inv)) (.ite (.aecpRespond (.aecpMod inv))
    (.ite (.vendorReply hs1) (.ite (.of_eq hs1 rfl rfl rfl rfl) (.vendorPacket hs1))))

theorem HostInv.vendorFragment {s : State} {c : BitVec 64} {seq : BitVec 16} {fetch : Bool} {index count : ℕ}
    {data : List Byte} (inv : HostInv s.host) : HostInv (Machine.vendorFragment c seq fetch index count data
    s).host :=
  .ite (.ite inv (.aecpSend inv)) (.ite (.vendorCommand inv) (.ite (.aecpRespond inv) (.aecpRespond inv)))

theorem HostInv.execAecpVendorFragment {s : State} {controller : BitVec 64} {seq : BitVec 16} {kind : Fin 2}
    {index count : ℕ} {data : List Byte} (inv : HostInv s.host) : NextInv
    (Machine.execAecpVendorFragment controller seq kind index count data s) :=
  HostInv.whenever inv (fun _ h => .vendorFragment h)

end Sys2Proof.Machine
end

section
/-! PROOF. The invariant of the host part through the measurement converters. -/

namespace Sys2Proof.Machine

theorem HostInv.measMod {s : State} {f : MeasState → MeasState} (inv : HostInv s.host) :
    HostInv (Machine.measMod s f).host :=
  inv

theorem HostInv.sarMod {s : State} {c : ℕ} {f : Sar → Sar} (inv : HostInv s.host) :
    HostInv (Machine.sarMod s c f).host :=
  .ite (.measMod inv) (.measMod inv)

theorem HostInv.injMod {s : State} {j : ℕ} {f : Inj → Inj} (inv : HostInv s.host) :
    HostInv (Machine.injMod s j f).host :=
  .measMod inv

theorem HostInv.measCount {s : State} {i : ℕ} (inv : HostInv s.host) : HostInv (Machine.measCount i s).host :=
  .measMod inv

theorem HostInv.sarStart {s : State} {c source channel index : ℕ} {overrun : Bool} (inv : HostInv s.host) :
    HostInv (Machine.sarStart c source channel index overrun s).host :=
  .sarMod inv

theorem HostInv.startInjected {s : State} (inv : HostInv s.host) : HostInv (Machine.startInjected s).host := by
  unfold Machine.startInjected
  split
  · exact .ite (.measMod (.sarStart inv)) inv
  · exact inv

theorem HostInv.startPair {s : State} (inv : HostInv s.host) : HostInv (Machine.startPair s).host := by
  unfold Machine.startPair
  split
  · exact inv
  · exact .ite (.measMod (.sarStart (.sarStart inv))) inv

theorem HostInv.takeSystem {s : State} (inv : HostInv s.host) : HostInv (Machine.takeSystem s).host := by
  unfold Machine.takeSystem
  split
  · exact inv
  · exact .ite (.measMod inv) inv

theorem HostInv.startRegular {s : State} (inv : HostInv s.host) : HostInv (Machine.startRegular s).host := by
  unfold Machine.startRegular
  refine .ite ?_ (.ite ?_ inv)
  · split
    · exact inv
    · refine .ite inv (.ite (.ite (.measMod (.sarStart (.sarStart inv))) inv) ?_)
      split
      · exact .measMod (.sarStart inv)
      · exact inv
  · split
    · exact .measMod (.sarStart inv)
    · exact inv

theorem HostInv.resumeRegular {s : State} (inv : HostInv s.host) : HostInv (Machine.resumeRegular s).host :=
  .ite inv (.measMod inv)

theorem HostInv.sarNext {s : State} (inv : HostInv s.host) : HostInv (Machine.sarNext s).host :=
  .ite inv (.startRegular (.startRegular (.takeSystem (.resumeRegular (.startPair (.startInjected inv))))))

theorem HostInv.scanLost {s : State} (inv : HostInv s.host) : HostInv (Machine.scanLost s).host :=
  .ite (.posted (.measMod (.pairIte (.drawElapsed (.measCount (.measMod inv))) (.measCount (.measMod inv)))))
    (.pairIte (.drawElapsed (.measCount (.measMod inv))) (.measCount (.measMod inv)))

theorem HostInv.bufferRecord {s : State} {r : MRecord} (inv : HostInv s.host) :
    HostInv (Machine.bufferRecord r s).host :=
  .ite (.scanLost (.measMod inv)) (.measMod inv)

theorem HostInv.keepLatest {s : State} {r : MRecord} (inv : HostInv s.host) :
    HostInv (Machine.keepLatest r s).host :=
  .measMod inv

theorem HostInv.postInjDone {s : State} {j : ℕ} (inv : HostInv s.host) : HostInv (Machine.postInjDone j s).host :=
  .ite (.posted (.injMod (.pairIte (.drawElapsed (.injMod inv)) (.injMod inv))))
    (.pairIte (.drawElapsed (.injMod inv)) (.injMod inv))

theorem HostInv.injRecord {s : State} {j : ℕ} {r : MRecord} (inv : HostInv s.host) :
    HostInv (Machine.injRecord j r s).host :=
  .ite (.ite (.postInjDone (.measMod (.injMod (.injMod inv)))) (.measMod (.injMod (.injMod inv)))) (.injMod inv)

theorem HostInv.scanBegin {s : State} (inv : HostInv s.host) : HostInv (Machine.scanBegin s).host := .measMod inv

theorem HostInv.scanEnds {s : State} (inv : HostInv s.host) : HostInv (Machine.scanEnds s).host :=
  .ite (.ite (.measMod inv) (.ite (.ite (.scanBegin inv) (.measMod inv)) (.measMod inv))) inv

theorem HostInv.systemEnds {s : State} (inv : HostInv s.host) : HostInv (Machine.systemEnds s).host :=
  .ite (.ite (.scanBegin (.measMod inv)) (.measMod inv)) inv

theorem HostInv.plausPair {s : State} {ch : ℕ} {a b : ℤ} (inv : HostInv s.host) :
    HostInv (Machine.plausPair ch a b s).host :=
  .ite (.measMod inv) (.measMod inv)

theorem HostInv.exposeResult {s : State} {ch : ℕ} {code : ℤ} (inv : HostInv s.host) :
    HostInv (Machine.exposeResult ch code s).host :=
  .ite (.measMod inv) inv

theorem HostInv.pairResults {s : State} {ch : ℕ} {code code2 v v2 : ℤ} {stamp offset : ℕ} (inv : HostInv s.host) :
    HostInv (Machine.pairResults ch code code2 v v2 stamp offset s).host :=
  .ite (.protectPair (.exposeResult (.exposeResult inv))) (.exposeResult (.exposeResult inv))

theorem HostInv.tempCals {s : State} {r : MRecord} (inv : HostInv s.host) : HostInv (Machine.tempCals r s).host :=
  .ite (.foldl inv (fun _ _ h => .ite (.sarMod h) h)) inv

theorem HostInv.fileRecord {s : State} {live : Bool} {r : MRecord} (inv : HostInv s.host) :
    HostInv (Machine.fileRecord live r s).host :=
  .ite (.bufferRecord (.tempCals (.keepLatest inv))) (.ite (.measMod (.tempCals (.keepLatest inv)))
    (.ite (.injRecord (.tempCals (.keepLatest inv))) (.tempCals (.keepLatest inv))))

theorem HostInv.injMark {s : State} {q : Conversion} (inv : HostInv s.host) :
    HostInv (Machine.injMark q s).2.host :=
  .pairIte (.injMod inv) inv

theorem HostInv.conversionDone {s : State} {c : ℕ} {code trim code2 trim2 : ℤ} {offset : ℕ} (inv : HostInv s.host) :
    HostInv (Machine.conversionDone c code trim code2 trim2 offset s).host := by
  unfold Machine.conversionDone
  split
  · exact inv
  · refine .ite ?_ (.sarNext (.scanEnds (.systemEnds (.fileRecord (.injMark (.sarMod inv))))))
    split
    · exact .sarNext (.fileRecord (.injMark (.sarMod inv)))
    · exact .sarNext (.systemEnds (.ite (.plausPair (.fileRecord (.sarMod (.fileRecord (.injMark (.sarMod inv))))))
        (.pairResults (.fileRecord (.sarMod (.fileRecord (.injMark (.sarMod inv))))))))

theorem HostInv.execSarConversionDone {s : State} {conv : Fin 2} {code trim code2 trim2 : ℤ} {offset : ℕ}
    (inv : HostInv s.host) : NextInv (Machine.execSarConversionDone conv code trim code2 trim2 offset s) :=
  HostInv.whenever inv (fun _ h => .conversionDone h)

theorem HostInv.postOverrun {s : State} {i : ℕ} (inv : HostInv s.host) : HostInv (Machine.postOverrun i s).host :=
  .ite (.posted (.measMod (.pairIte (.drawElapsed (.measMod inv)) (.measMod inv))))
    (.pairIte (.drawElapsed (.measMod inv)) (.measMod inv))

theorem HostInv.scanOverruns {s : State} (inv : HostInv s.host) : HostInv (Machine.scanOverruns s).host :=
  .postOverrun (.measCount (.measMod inv))

theorem HostInv.scanTrigger {s : State} (inv : HostInv s.host) : HostInv (Machine.scanTrigger s).host :=
  .ite (.scanOverruns inv) (.ite (.ite (.scanOverruns inv) (.measMod inv)) (.sarNext (.scanEnds (.scanBegin inv))))

theorem HostInv.execHostScanTrigger {s : State} {source : Fin 8} (inv : HostInv s.host) :
    NextInv (Machine.execHostScanTrigger source s) :=
  HostInv.whenever inv (fun _ h => .scanTrigger h)

theorem HostInv.calDone {s : State} {c : ℕ} {passed : Bool} (inv : HostInv s.host) :
    HostInv (Machine.calDone c passed s).host :=
  .completedAll (.sarMod inv)

theorem HostInv.postCal {s : State} {c cause : ℕ} (inv : HostInv s.host) :
    HostInv (Machine.postCal c cause s).host :=
  .posted inv

theorem HostInv.abandonCal {s : State} {c : ℕ} (inv : HostInv s.host) : HostInv (Machine.abandonCal c s).host :=
  .ite inv (.ite (.calDone (.sarMod (.postCal (.measCount (.sarMod inv))))) (.sarMod (.measCount (.sarMod inv))))

theorem HostInv.injTrigger {s : State} {j : ℕ} (inv : HostInv s.host) : HostInv (Machine.injTrigger j s).host :=
  .ite (.postOverrun (.measCount (.injMod inv))) (.ite inv (.sarNext
    (.injMod (.measMod (.abandonCal (.abandonCal inv))))))

theorem HostInv.execInjectedTrigger {s : State} {j : Fin 4} (inv : HostInv s.host) :
    NextInv (Machine.execInjectedTrigger j s) :=
  HostInv.whenever inv (fun _ h => .injTrigger h)

theorem HostInv.mtrigEdge {s : State} {src : ℕ} (inv : HostInv s.host) : HostInv (Machine.mtrigEdge src s).host :=
  .ite (.scanTrigger (.foldl inv (fun _ _ h => .ite (.injTrigger h) h)))
    (.foldl inv (fun _ _ h => .ite (.injTrigger h) h))

theorem HostInv.execMtrigEdge {s : State} {rising : Bool} (inv : HostInv s.host) :
    NextInv (Machine.execMtrigEdge rising s) :=
  HostInv.whenever inv (fun _ h => .mtrigEdge h)

theorem HostInv.pairedTick {s : State} (inv : HostInv s.host) : HostInv (Machine.pairedTick s).host :=
  .sarNext (.measMod (.ite (.measCount inv) inv))

theorem HostInv.execPairedClockTick {s : State} (inv : HostInv s.host) : NextInv (Machine.execPairedClockTick s) :=
  HostInv.whenever inv (fun _ h => .pairedTick h)

theorem HostInv.execSystemSequenceDue {s : State} {seq : Fin 7} (inv : HostInv s.host) :
    NextInv (Machine.execSystemSequenceDue seq s) :=
  HostInv.whenever inv (fun _ h => .sarNext (.measMod h))

theorem HostInv.postPlausibility {s : State} {what : ℕ} {diff : ℤ} (inv : HostInv s.host) :
    HostInv (Machine.postPlausibility what diff s).host :=
  .posted inv

theorem HostInv.failSar {s : State} {c : ℕ} {diff : ℤ} (inv : HostInv s.host) :
    HostInv (Machine.failSar c diff s).host :=
  .ite inv (.systemEnds (.postPlausibility (.measMod (.sarMod inv))))

theorem HostInv.failAndCalibrate {s : State} {c : ℕ} {diff : ℤ} (inv : HostInv s.host) :
    HostInv (Machine.failAndCalibrate c diff s).host :=
  .sarMod (.failSar inv)

theorem HostInv.suspectBoth {s : State} {diff : ℤ} (inv : HostInv s.host) :
    HostInv (Machine.suspectBoth diff s).host :=
  .postPlausibility (.foldl inv (fun _ _ h => .sarMod h))

theorem HostInv.plausibility {s : State} (inv : HostInv s.host) : HostInv (Machine.plausibility s).host := by
  unfold Machine.plausibility
  extract_lets diff okA okB s1 s2 s3 s4
  have hs1 : HostInv s1.host := .measMod inv
  have hs2 : HostInv s2.host := .measMod hs1
  have hs3 : HostInv s3.host := .ite hs2 (.failAndCalibrate hs2)
  have hs4 : HostInv s4.host := .ite hs3 (.failAndCalibrate hs3)
  exact .ite (.measMod hs1) (.ite (.measMod hs1) (.sarNext (.ite (.suspectBoth hs4) hs4)))

theorem HostInv.execPlausibilityCheck {s : State} (inv : HostInv s.host) :
    NextInv (Machine.execPlausibilityCheck s) :=
  HostInv.whenever inv (fun _ h => .plausibility h)

theorem HostInv.execSarCalibrationStart {s : State} {conv : Fin 2} (inv : HostInv s.host) :
    NextInv (Machine.execSarCalibrationStart conv s) :=
  HostInv.whenever inv (fun _ h => .sarMod h)

theorem HostInv.calEnds {s : State} {c : ℕ} {offset gain : ℤ} (inv : HostInv s.host) :
    HostInv (Machine.calEnds c offset gain s).host :=
  .sarNext (.calDone (.ite (.ite (.postPlausibility (.sarMod (.sarMod (.postCal inv))))
    (.sarMod (.sarMod (.postCal inv)))) (.failSar (.sarMod (.postCal inv)))))

theorem HostInv.execSarCalibrationEnd {s : State} {conv : Fin 2} {offset gain : ℤ} (inv : HostInv s.host) :
    NextInv (Machine.execSarCalibrationEnd conv offset gain s) :=
  HostInv.whenever inv (fun _ h => .calEnds h)

theorem HostInv.measRest {s : State} (inv : HostInv s.host) : HostInv (Machine.measRest s).host := .measMod inv

theorem HostInv.scanGoesOn {s : State} (inv : HostInv s.host) : HostInv (Machine.scanGoesOn s).host :=
  .ite (.scanTrigger inv) inv

theorem HostInv.execMeasurementTrackerLock {s : State} (inv : HostInv s.host) :
    NextInv (Machine.execMeasurementTrackerLock s) :=
  HostInv.whenever inv (fun _ h => .measMod h)

theorem HostInv.tickMeas {s : State} (inv : HostInv s.host) : HostInv (Machine.tickMeas s).host :=
  .ite (.ite (.measMod inv) inv) (.ite (.measMod inv) inv)

theorem HostInv.gatherExposure {s : State} {i : ℕ} (inv : HostInv s.host) :
    HostInv (Machine.gatherExposure i s).host :=
  .measMod inv

theorem HostInv.exposureWord {s : State} {i : ℕ} (inv : HostInv s.host) :
    HostInv (Machine.exposureWord i s).2.host :=
  .stageSample (.gatherExposure inv)

theorem HostInv.measStatusDo {s : State} {o : Issue} {p : List Byte} {x2 : ℕ} (inv : HostInv s.host) :
    HostInv (Machine.measStatusDo o p x2 s).s.host :=
  .ite (.measMod inv) inv

theorem HostInv.execMeasStatus {s : State} {o : Issue} {p : List Byte} (inv : HostInv s.host) :
    NextInv (Machine.execMeasStatus o p s) :=
  HostInv.hostCommand inv (fun _ _ h => .measStatusDo h)

theorem HostInv.measScanSetDo {s : State} {p : List Byte} {x1 : ℕ} (inv : HostInv s.host) :
    HostInv (Machine.measScanSetDo p x1 s).s.host :=
  .scanGoesOn (.measMod inv)

theorem HostInv.execMeasScanSet {s : State} {o : Issue} {p : List Byte} (inv : HostInv s.host) :
    NextInv (Machine.execMeasScanSet o p s) :=
  HostInv.hostCommand inv (fun _ _ h => .measScanSetDo h)

theorem HostInv.measScanControlDo {s : State} {p : List Byte} {x1 : ℕ} (inv : HostInv s.host) :
    HostInv (Machine.measScanControlDo p x1 s).s.host := by
  unfold Machine.measScanControlDo
  split
  · exact .measMod inv
  · exact .doneIte (.measMod inv) (.scanGoesOn (.measMod inv))
  · exact .scanTrigger (.ite (.measMod inv) inv)
  · exact .measMod inv

theorem HostInv.execMeasScanControl {s : State} {o : Issue} {p : List Byte} (inv : HostInv s.host) :
    NextInv (Machine.execMeasScanControl o p s) :=
  HostInv.hostCommand inv (fun _ _ h => .measScanControlDo h)

theorem HostInv.measScanReadDo {s : State} {p : List Byte} {x1 : ℕ} (inv : HostInv s.host) :
    HostInv (Machine.measScanReadDo p x1 s).s.host :=
  .measMod inv

theorem HostInv.execMeasScanRead {s : State} {o : Issue} {p : List Byte} (inv : HostInv s.host) :
    NextInv (Machine.execMeasScanRead o p s) :=
  HostInv.hostCommand inv (fun _ _ h => .measScanReadDo h)

theorem HostInv.execMeasLatest {s : State} {o : Issue} {p : List Byte} (inv : HostInv s.host) :
    NextInv (Machine.execMeasLatest o p s) :=
  HostInv.hostCommand inv (fun _ _ h => h)

theorem HostInv.measInjSetDo {s : State} {p : List Byte} {x1 : ℕ} (inv : HostInv s.host) :
    HostInv (Machine.measInjSetDo p x1 s).s.host :=
  .injMod inv

theorem HostInv.execMeasInjSet {s : State} {o : Issue} {p : List Byte} (inv : HostInv s.host) :
    NextInv (Machine.execMeasInjSet o p s) :=
  HostInv.hostCommand inv (fun _ _ h => .measInjSetDo h)

theorem HostInv.disarmSeq {s : State} {j : ℕ} (inv : HostInv s.host) : HostInv (Machine.disarmSeq j s).host :=
  .ite (.sarNext (.injMod (.measMod (.measMod (.injMod inv))))) (.measMod (.injMod inv))

theorem HostInv.measInjControlDo {s : State} {p : List Byte} {x1 : ℕ} (inv : HostInv s.host) :
    HostInv (Machine.measInjControlDo p x1 s).s.host := by
  unfold Machine.measInjControlDo
  split
  · exact .disarmSeq inv
  · exact .injMod inv
  · exact .injTrigger inv

theorem HostInv.execMeasInjControl {s : State} {o : Issue} {p : List Byte} (inv : HostInv s.host) :
    NextInv (Machine.execMeasInjControl o p s) :=
  HostInv.hostCommand inv (fun _ _ h => .measInjControlDo h)

theorem HostInv.execMeasInjRead {s : State} {o : Issue} {p : List Byte} (inv : HostInv s.host) :
    NextInv (Machine.execMeasInjRead o p s) :=
  HostInv.hostCommand inv (fun _ _ h => h)

theorem HostInv.measCalibrateDo {s : State} {o : Issue} {p : List Byte} {log : ℕ} (inv : HostInv s.host) :
    HostInv (Machine.measCalibrateDo o p log s).s.host :=
  .foldl inv (fun _ _ h => .sarMod h)

theorem HostInv.execMeasCalibrate {s : State} {o : Issue} {p : List Byte} (inv : HostInv s.host) :
    NextInv (Machine.execMeasCalibrate o p s) :=
  HostInv.hostCommand inv (fun _ _ h => .measCalibrateDo h)

theorem HostInv.execMeasCalRead {s : State} {o : Issue} {p : List Byte} (inv : HostInv s.host) :
    NextInv (Machine.execMeasCalRead o p s) :=
  HostInv.hostCommand inv (fun _ _ h => h)

end Sys2Proof.Machine
end

section
/-! PROOF. The invariant of the host part through the engine loader. -/

namespace Sys2Proof.Machine

theorem HostInv.initEntry {s : State} {e : SegEntry} (inv : HostInv s.host) :
    HostInv (Machine.initEntry s e).host := by
  unfold Machine.initEntry
  split
  · exact .slotMod inv
  · exact .sectionMod (.dropQueued inv)
  · dsimp only
    exact .lineMod (.dropQueued inv)
  · exact .ite (.limiterMod inv) (.protectMod inv)
  · exact .meterMod inv
  · exact inv

theorem HostInv.replaceEntry {s : State} {e : SegEntry} (inv : HostInv s.host) :
    HostInv (Machine.replaceEntry s e).host := by
  unfold Machine.replaceEntry
  split
  · exact .sectionMod inv
  · exact .lineMod inv
  · exact .ite (.limiterMod inv) (.protectMod inv)
  · exact .meterMod inv
  · exact .initEntry inv

theorem HostInv.zeroBerth {s : State} {a : ℕ} (inv : HostInv s.host) : HostInv (Machine.zeroBerth s a).host :=
  .ite (.sinkMod inv) inv

theorem HostInv.initOverlay {s : State} {c : Chart} {n : ℕ} (inv : HostInv s.host) :
    HostInv (Machine.initOverlay c n s).host :=
  .foldl (.slotMod (.foldl (.foldl inv (fun _ _ h => .slotMod h)) (fun _ _ h => .initEntry h)))
    (fun _ _ h => .zeroBerth h)

theorem HostInv.startLoad {s : State} {c : Chart} {w : LoadWhat} (inv : HostInv s.host) :
    HostInv (Machine.startLoad c w s).host := by
  unfold Machine.startLoad
  refine .foldl (.askRoutes ?_) (fun _ _ h => .askRamp h)
  split
  · exact .initOverlay inv
  · exact .initOverlay inv
  · exact inv

theorem HostInv.execLoadStart {s : State} (inv : HostInv s.host) : NextInv (Machine.execLoadStart s) := by
  unfold Machine.execLoadStart
  refine .next ?_
  split
  · exact .ite inv (.startLoad inv)
  · exact inv

theorem HostInv.execLoadComplete {s : State} (inv : HostInv s.host) : NextInv (Machine.execLoadComplete s) := by
  unfold Machine.execLoadComplete
  refine .next ?_
  split
  · exact .ite inv inv
  · exact inv

theorem HostInv.swapIngress {s : State} {old : Bank} (inv : HostInv s.host) :
    HostInv (Machine.swapIngress old s).host :=
  inv

theorem HostInv.swapOutput {s : State} {old : Bank} {o : ℕ} (inv : HostInv s.host) :
    HostInv (Machine.swapOutput old s o).host :=
  .ite (.clampOutput (.outMod inv)) inv

theorem HostInv.followBank {s : State} {old : Bank} {log : ℕ} (inv : HostInv s.host) :
    HostInv (Machine.followBank old log s).host := by
  unfold Machine.followBank
  exact .usbFollow (.usbFollow (.refreshDetRef (.swapJack (.swapJack
    (.swapNet (.swapCaptures (.swapIngress (.foldl (.swapSpdif
    (.foldl (.foldl inv (fun _ _ h => .swapConvoy h)) (fun _ _ h => .swapSai h)))
    (fun _ _ h => .swapOutput h)))))))))

theorem HostInv.restartDelays {s : State} {old : Bank} (inv : HostInv s.host) :
    HostInv (Machine.restartDelays old s).host :=
  inv

theorem HostInv.raiseRoutes {s : State} {old : Bank} (inv : HostInv s.host) :
    HostInv (Machine.raiseRoutes old s).host :=
  .foldl inv (fun _ _ h => .rampMod h)

theorem HostInv.raiseOutputs {s : State} {os : List ℕ} (inv : HostInv s.host) :
    HostInv (Machine.raiseOutputs os s).host :=
  .foldl inv (fun _ _ h => .ite h (.ite (.enterOut (.outMod (.ite (.stopDriving h) h))) (.askRamp h)))

theorem HostInv.exchangeBanks {s : State} (inv : HostInv s.host) : HostInv (Machine.exchangeBanks s).host := inv

theorem HostInv.junctionSwitch {s : State} {c : Chart} {b ms log : ℕ} (inv : HostInv s.host) :
    HostInv (Machine.junctionSwitch c b ms log s).host :=
  .foldl inv (fun _ _ h => .ite (.loaderCommit h) (.ite (.loaderCommit h) h))

theorem HostInv.junctionSet {s : State} {c : Chart} {n log : ℕ} (inv : HostInv s.host) :
    HostInv (Machine.junctionSet c n log s).host :=
  .foldl inv (fun _ _ h => .ite (.loaderCommit h) (.ite (.loaderCommit h) h))

theorem HostInv.activationSwap {s : State} {c : Chart} {n : ℕ} (inv : HostInv s.host) :
    HostInv (Machine.activationSwap c n s).host :=
  .streamsPlaced (.ite (.completedAll (.enterOv (.ovMod (.gateTo (.junctionSet inv)))))
    (.enterOv (.gateTo (.junctionSet inv))))

theorem HostInv.discardFifos {s : State} {c : Chart} {n : ℕ} (inv : HostInv s.host) :
    HostInv (Machine.discardFifos c n s).host :=
  .foldl inv (fun _ _ h => .sinkMod h)

theorem HostInv.readmit {s : State} {n : ℕ} {qs : List QueuedAct} (inv : HostInv s.host) :
    HostInv (Machine.readmit n qs s).host := by
  unfold Machine.readmit
  split
  · exact inv
  · split
    · exact .streamsRefused (.completedAll inv)
    · exact .ite (.startActivation inv) (.activateOverlay inv)

theorem HostInv.removalSwap {s : State} {c : Chart} {n : ℕ} (inv : HostInv s.host) :
    HostInv (Machine.removalSwap c n s).host := by
  unfold Machine.removalSwap
  refine .foldl ?_ (fun _ _ h => .readmit h)
  dsimp only
  exact .readmit (.streamsRemoved (.usbDiscard (.completedAll (.discardFifos (.enterOv (.ovMod inv))))))

theorem HostInv.switchInSwap {s : State} {c : Chart} {a b : ℕ} (inv : HostInv s.host) :
    HostInv (Machine.switchInSwap c a b s).host := by
  unfold Machine.switchInSwap
  split
  · exact inv
  · exact .streamsPlaced (.gateTo (.gateTo (.junctionSwitch (.enterOv (.enterOv inv)))))

theorem HostInv.switchOutSwap {s : State} {c : Chart} {a b : ℕ} (inv : HostInv s.host) :
    HostInv (Machine.switchOutSwap c a b s).host := by
  unfold Machine.switchOutSwap
  refine .streamsRemoved ?_
  split
  · exact .completed (.usbDiscard (.discardFifos (.enterOv (.enterOv inv))))
  · exact .usbDiscard (.discardFifos (.enterOv (.enterOv inv)))

theorem HostInv.variantSwap {s : State} {c : Chart} {r : Bool} (inv : HostInv s.host) :
    HostInv (Machine.variantSwap c r s).host := by
  unfold Machine.variantSwap
  split
  · dsimp only
    split
    · refine .completed (.posted (.askSummary ?_))
      dsimp only
      exact .foldl inv (fun _ _ h => .replaceEntry h)
    · refine .posted (.askSummary ?_)
      dsimp only
      exact .foldl inv (fun _ _ h => .replaceEntry h)
  · dsimp only
    split
    · refine .completed (.posted (.askSummary ?_))
      dsimp only
      exact .foldl inv (fun _ _ h => .replaceEntry h)
    · refine .posted (.askSummary ?_)
      dsimp only
      exact .foldl inv (fun _ _ h => .replaceEntry h)

theorem HostInv.rebuildSwap {s : State} (inv : HostInv s.host) : HostInv (Machine.rebuildSwap s).host := inv

theorem HostInv.freshParams {s : State} {c : Chart} {reduced : Bool} (inv : HostInv s.host) :
    HostInv (Machine.freshParams c reduced s).host := by
  unfold Machine.freshParams
  refine .foldl ?_ (fun _ _ h => .initEntry h)
  dsimp only
  exact .foldl (.foldl inv (fun _ _ h => .dropQueued h)) (fun _ _ h => .dropQueued h)

theorem HostInv.startBase {s : State} {old : Bank} {fresh : Bool} {log : ℕ} (inv : HostInv s.host) :
    HostInv (Machine.startBase old fresh log s).host := by
  unfold Machine.startBase
  refine .followBank ?_
  dsimp only
  exact .startGptp (.ite (.startStreams (.startCaptures (.startClocks inv))) (.startCaptures (.startClocks inv)))

theorem HostInv.placeChart {s : State} {c : Chart} {slot : ℕ} {reduced : Bool} {log : ℕ} {old : Bank}
    (inv : HostInv s.host) : HostInv (Machine.placeChart c slot reduced log old s).host :=
  .placeMoorings (.startBase (.freshParams inv))

theorem HostInv.fadeOverlay {s : State} {log n : ℕ} (inv : HostInv s.host) :
    HostInv (Machine.fadeOverlay log s n).host :=
  .ite inv (.ite (.enterOv (.ovMod (.giveUp inv))) (.ite (.ovMod (.giveUp inv))
    (.askRoutes (.gateTo (.ite (.ovMod (.giveUp inv)) (.enterOv (.ovMod (.giveUp inv))))))))

theorem HostInv.fadeAll {s : State} {log : ℕ} (inv : HostInv s.host) : HostInv (Machine.fadeAll log s).host := by
  unfold Machine.fadeAll
  refine .foldl ?_ (fun _ _ h => .fadeOverlay h)
  dsimp only
  exact .completedAll (.dropLoad inv)

theorem HostInv.selectDetach {s : State} {c : Chart} {log p : ℕ} (inv : HostInv s.host) :
    HostInv (Machine.selectDetach c log s p).host :=
  .ite (.usbMod (.usbDetach inv)) inv

theorem HostInv.selectEntity {s : State} {c : Chart} {log : ℕ} (inv : HostInv s.host) :
    HostInv (Machine.selectEntity c log s).host :=
  .ite inv (.adpSend (.streamsEnd inv))

theorem HostInv.beginSelect {s : State} {slot : ℕ} {c : Chart} {w : Waiter} (inv : HostInv s.host) :
    HostInv (Machine.beginSelect slot c w s).host := by
  unfold Machine.beginSelect
  dsimp only
  exact .fadeAll (.foldl (.selectEntity inv) (fun _ _ h => .selectDetach h))

theorem HostInv.overlaysOut {s : State} {log : ℕ} (inv : HostInv s.host) :
    HostInv (Machine.overlaysOut log s).host :=
  .foldl inv (fun _ _ h => .ite h (.streamsRemoved (.completedAll (.enterOv (.giveUp (.ovMod h))))))

theorem HostInv.reapplyAlt {s : State} {p log i : ℕ} (inv : HostInv s.host) :
    HostInv (Machine.reapplyAlt p log s i).host := by
  unfold Machine.reapplyAlt
  refine .ite inv ?_
  split
  · exact inv
  · exact .ite (.usbStart (.usbStreamMod (.usbEnter inv))) (.usbStreamMod (.usbEnter inv))

theorem HostInv.selectPlace {s : State} {q : Select} {old : Bank} (inv : HostInv s.host) :
    HostInv (Machine.selectPlace q old s).host := by
  unfold Machine.selectPlace
  refine .foldl ?_ (fun _ _ h => .foldl h (fun _ _ h => .reapplyAlt h))
  dsimp only
  exact .placeChart (.ite (.streamsEnd (.overlaysOut inv)) (.overlaysOut inv))

theorem HostInv.selectDone {s : State} {q : Select} (inv : HostInv s.host) :
    HostInv (Machine.selectDone q s).host := by
  unfold Machine.selectDone
  refine .ite (.adpSend ?_) ?_
  · dsimp only
    refine .ite (.askSummary ?_) (.completed inv)
    dsimp only
    exact .completed inv
  · dsimp only
    refine .ite (.askSummary ?_) (.completed inv)
    dsimp only
    exact .completed inv

theorem HostInv.tickSelect {s : State} (inv : HostInv s.host) : HostInv (Machine.tickSelect s).host := by
  unfold Machine.tickSelect
  split
  · exact inv
  · exact .ite (.ite (.ite (.stopTick inv) (.askLoad inv)) inv) (.ite (.ite (.selectDone inv) inv) inv)

theorem HostInv.execFabricPllRelock {s : State} (inv : HostInv s.host) :
    NextInv (Machine.execFabricPllRelock s) := by
  unfold Machine.execFabricPllRelock
  refine .next ?_
  split
  · refine .ite ?_ inv
    dsimp only
    exact .selectPlace inv
  · exact inv

theorem HostInv.swapNow {s : State} (inv : HostInv s.host) : HostInv (Machine.swapNow s).host := by
  unfold Machine.swapNow
  split
  · refine .ite inv (.ite ?_ (.raiseOutputs (.followBank ?_)))
    · split
      · exact .raiseOutputs (.raiseRoutes (.selectPlace (.exchangeBanks inv)))
      · exact inv
    · split
      · exact .activationSwap (.restartDelays (.raiseRoutes (.exchangeBanks inv)))
      · exact .removalSwap (.restartDelays (.raiseRoutes (.exchangeBanks inv)))
      · exact .switchInSwap (.restartDelays (.raiseRoutes (.exchangeBanks inv)))
      · exact .switchOutSwap (.restartDelays (.raiseRoutes (.exchangeBanks inv)))
      · exact .variantSwap (.restartDelays (.raiseRoutes (.exchangeBanks inv)))
      · exact .restartDelays (.raiseRoutes (.exchangeBanks inv))
      · exact .rebuildSwap (.restartDelays (.raiseRoutes (.exchangeBanks inv)))
  · exact inv

end Sys2Proof.Machine
end

section
/-! PROOF. The invariant of the host part through the samples at the edges of the fabric. -/

namespace Sys2Proof.Machine

theorem HostInv.ditherDraw {s : State} (inv : HostInv s.host) : HostInv (Machine.ditherDraw s).2.host := inv

theorem HostInv.toCode {s : State} {sh : ℕ} {top : ℤ} {dither : Bool} {w : ℤ} (inv : HostInv s.host) :
    HostInv (Machine.toCode sh top dither w s).2.host :=
  .pairIte (.ditherDraw inv) inv

theorem HostInv.convertSink {s : State} {f : PortFormat × Bool} {w : ℤ} (inv : HostInv s.host) :
    HostInv (Machine.convertSink f w s).2.host := by
  unfold Machine.convertSink
  split
  · exact .toCode inv
  · exact .toCode inv
  · exact inv
  · exact inv
  · exact inv

theorem HostInv.chainDeliver {s : State} {a : ℕ} {w : Word} {k : ℕ} (inv : HostInv s.host) :
    HostInv (Machine.chainDeliver a w s k).host :=
  .ite (.sinkMod (.clipIf inv)) inv

theorem HostInv.convoyWord {s : State} {x : ℕ × ℕ × ℕ} (inv : HostInv s.host) :
    HostInv (Machine.convoyWord s x).2.host :=
  .pairIte inv (.stageSample inv)

theorem HostInv.gatherClips {s : State} {k m : ℕ} (inv : HostInv s.host) :
    HostInv (Machine.gatherClips k m s).host :=
  .memMod (.foldl inv (fun _ _ h => .foldl h (fun _ _ h => .clipIf h)))

theorem HostInv.gatherConvoy {s : State} {k : ℕ} (inv : HostInv s.host) : HostInv (Machine.gatherConvoy s k).host :=
  .ite inv (.foldl inv (fun _ _ h => .gatherClips h))

theorem HostInv.fdWord {s : State} {a : ℕ} {sample : Word} {line : List Bool} (inv : HostInv s.host) :
    HostInv (Machine.fdWord a sample line s).2.host := by
  unfold Machine.fdWord
  split
  · exact .popIngress (.pushIngress (.captureWord inv))
  · split
    · exact .popIngress inv
    · exact inv

theorem HostInv.landedWord {s : State} {a : ℕ} {sample : Word} {line : List Bool} (inv : HostInv s.host) :
    HostInv (Machine.landedWord a sample line s).2.host := by
  unfold Machine.landedWord
  split
  · exact .convoyWord inv
  · split
    · exact .exposureWord inv
    · exact .fdWord inv

theorem HostInv.landSource {s : State} {a : ℕ} {sample : Word} {line : List Bool} (inv : HostInv s.host) :
    HostInv (Machine.landSource a sample line s).host := by
  unfold Machine.landSource
  dsimp only
  split
  · exact .landedWord inv
  · refine .foldl ?_ (fun _ _ h => .chainDeliver h)
    dsimp only
    exact .clipIf (.landedWord inv)

theorem HostInv.execSourceWordLand {s : State} {berth : Fin 256} {sample : Word} {line : List Bool}
    (inv : HostInv s.host) : NextInv (Machine.execSourceWordLand berth sample line s) :=
  HostInv.whenever inv (fun _ h => .landSource h)

theorem HostInv.stepExcursion {s : State} {i k : ℕ} (inv : HostInv s.host) :
    HostInv (Machine.stepExcursion i k s).host :=
  .ite (.postLimit (.protectMod (.drawRound (.drawReading inv)))) (.protectMod (.drawRound (.drawReading inv)))

theorem HostInv.pilotSample {s : State} {i : ℕ} (inv : HostInv s.host) : HostInv (Machine.pilotSample i s).2.host :=
  .pairIte (.protectMod (.drawRound (.drawReading inv))) (.protectMod inv)

theorem HostInv.finishSink {s : State} {k : ℕ} {gain : ℤ} {w : Word} (inv : HostInv s.host) :
    HostInv (Machine.finishSink k gain w s).host := by
  unfold Machine.finishSink
  refine .sinkMod (.convertSink (.clipIf ?_))
  split
  · exact .pilotSample inv
  · exact inv

theorem HostInv.detectSink {s : State} {k : ℕ} (inv : HostInv s.host) : HostInv (Machine.detectSink k s).host := by
  unfold Machine.detectSink
  split
  · exact .ite (.stepExcursion inv) inv
  · exact inv

theorem HostInv.execDynamicsSink {s : State} {k : Fin 256} (inv : HostInv s.host) :
    NextInv (Machine.execDynamicsSink k s) := by
  unfold Machine.execDynamicsSink
  refine HostInv.whenever inv (fun t h => ?_)
  split
  · exact .ite (.sinkMod (.detectSink h)) (.finishSink (.detectSink h))
  · exact .finishSink (.detectSink h)

theorem HostInv.limiterStep {s : State} {l : ℕ} (inv : HostInv s.host) :
    HostInv (Machine.limiterStep s l).host := by
  unfold Machine.limiterStep
  refine .ite inv (.foldl (.limiterMod ?_) (fun _ _ h => .sinkMod (.finishSink h)))
  dsimp only
  exact .drawRound inv

theorem HostInv.limitersStep {s : State} (inv : HostInv s.host) : HostInv (Machine.limitersStep s).host :=
  .foldl inv (fun _ _ h => .limiterStep h)

end Sys2Proof.Machine
end

section
/-! PROOF. The invariant of the host part through the tick and faults of words. -/

namespace Sys2Proof.Machine

theorem HostInv.postEngineOverrun {s : State} (inv : HostInv s.host) : HostInv (Machine.postEngineOverrun s).host :=
  .ite (.posted inv) inv

theorem HostInv.countOverruns {s : State} (inv : HostInv s.host) : HostInv (Machine.countOverruns s).host := by
  unfold Machine.countOverruns
  refine .ite inv (.postEngineOverrun ?_)
  dsimp only
  exact .foldl inv (fun _ _ h => .laneMod h)

theorem HostInv.nextPeriod {s : State} (inv : HostInv s.host) : HostInv (Machine.nextPeriod s).host := inv

theorem HostInv.mapRoutes {s : State} {f : RouteRamp → RouteRamp} (inv : HostInv s.host) :
    HostInv (Machine.mapRoutes f s).host :=
  inv

theorem HostInv.latchSlots {s : State} (inv : HostInv s.host) : HostInv (Machine.latchSlots s).host := inv

theorem HostInv.latchSectionAt {s : State} {k : ℕ} (inv : HostInv s.host) :
    HostInv (Machine.latchSectionAt s k).host :=
  .ite (.startQueued (.sectionMod inv)) (.sectionMod (.sectionMod inv))

theorem HostInv.latchLineAt {s : State} {k : ℕ} (inv : HostInv s.host) : HostInv (Machine.latchLineAt s k).host :=
  .ite (.startQueuedDelay inv) (.lineMod inv)

theorem HostInv.tickParams {s : State} (inv : HostInv s.host) : HostInv (Machine.tickParams s).host := by
  unfold Machine.tickParams
  dsimp only
  exact .foldl (.foldl (.latchSlots inv) (fun _ _ h => .latchSectionAt h)) (fun _ _ h => .latchLineAt h)

theorem HostInv.tickPorts {s : State} (inv : HostInv s.host) : HostInv (Machine.tickPorts s).host := by
  unfold Machine.tickPorts
  extract_lets s1 s2 s3 s4 s5 s6
  have hs1 : HostInv s1.host := .mapRoutes inv
  have hs2 : HostInv s2.host := .foldl hs1 (fun _ _ h => .tickOutput h)
  have hs3 : HostInv s3.host := .toggleRates (.tickClocks hs2)
  have hs4 : HostInv s4.host := .foldl (.foldl hs3 (fun _ _ h => .gatherConvoy h)) (fun _ _ h => .tickConvoy h)
  have hs5 : HostInv s5.host := .tickRelay (.foldl hs4 (fun _ _ h => .tickCapture h))
  have hs6 : HostInv s6.host := .foldl hs5 (fun _ _ h => .tickSai h)
  exact .tickGptp (.auxFabricTick (.tickMeas (.tickCrf (.tickCrf hs6))))

theorem HostInv.exchangeHalves {s : State} (inv : HostInv s.host) : HostInv (Machine.exchangeHalves s).host := inv

theorem HostInv.setIngress {s : State} (inv : HostInv s.host) : HostInv (Machine.setIngress s).host := inv

theorem HostInv.scatterMember {s : State} {k m : ℕ} (inv : HostInv s.host) :
    HostInv (Machine.scatterMember k s m).host :=
  .ite inv (.ite (.sampleArrives inv) (.memMod inv))

theorem HostInv.scatter {s : State} {bank : Bank} (inv : HostInv s.host) : HostInv (Machine.scatter bank s).host :=
  .foldl (.foldl inv (fun _ _ h => .sinkMod h)) (fun _ _ h => .foldl h (fun _ _ h => .scatterMember h))

theorem HostInv.startLanes {s : State} (inv : HostInv s.host) : HostInv (Machine.startLanes s).host :=
  .foldl inv (fun _ _ h => .laneMod h)

theorem HostInv.settleGates {s : State} (inv : HostInv s.host) : HostInv (Machine.settleGates s).host :=
  .foldl inv (fun _ _ h => .concludeOverlay h)

theorem HostInv.fabricTick {s : State} (inv : HostInv s.host) : HostInv (Machine.fabricTick s).host := by
  unfold Machine.fabricTick
  exact .tickSelect (.variantStep (.settleGates (.startLanes
    (.setIngress (.scatter (.exchangeHalves (.tickPorts (.tickParams
    (.swapNow (.foldl (.mapRoutes (.countOverruns (.nextPeriod (.limitersStep inv))))
    (fun _ _ h => .stepOutput h)))))))))))

theorem HostInv.execFabricTick {s : State} (inv : HostInv s.host) : NextInv (Machine.execFabricTick s) :=
  HostInv.whenever inv (fun _ h => .fabricTick h)

theorem HostInv.haltEngine {s : State} (inv : HostInv s.host) : HostInv (Machine.haltEngine s).host :=
  .auxFollow (.foldl (.phyReset (.serialFault (.stopTick inv))) (fun _ _ h => .faultOutput h))

theorem HostInv.postEngineFault {s : State} {l word cause count : ℕ} (inv : HostInv s.host) :
    HostInv (Machine.postEngineFault l word cause count s).host :=
  .posted inv

theorem HostInv.askRebuild {s : State} (inv : HostInv s.host) : HostInv (Machine.askRebuild s).host := by
  unfold Machine.askRebuild
  split
  · exact .ite inv inv
  · exact .ite inv inv

theorem HostInv.fetchFault {s : State} {l : ℕ} (inv : HostInv s.host) : HostInv (Machine.fetchFault l s).host := by
  unfold Machine.fetchFault
  refine .ite (.laneMod inv) (.ite (.postEngineFault (.haltEngine ?_)) (.askRebuild (.postEngineFault ?_)))
  · dsimp only
    exact .laneMod inv
  · dsimp only
    exact .laneMod inv

theorem HostInv.execWordFetchFault {s : State} {l : Fin 8} (inv : HostInv s.host) :
    NextInv (Machine.execWordFetchFault l s) :=
  HostInv.whenever inv (fun _ h => .fetchFault h)

end Sys2Proof.Machine
end

section
/-! PROOF. The invariant of the host part through chart slots. -/

namespace Sys2Proof.Machine

theorem HostInv.setChartSlot {s : State} {n : ℕ} {f : ChartSlot → ChartSlot} (inv : HostInv s.host) :
    HostInv (Machine.setChartSlot s n f).host :=
  .ite inv inv

theorem HostInv.execChartInfo {s : State} {o : Issue} {p : List Byte} (inv : HostInv s.host) :
    NextInv (Machine.execChartInfo o p s) :=
  HostInv.hostCommand inv (fun _ _ h => h)

theorem HostInv.chartWriteOpenDo {s : State} {o : Issue} {p : List Byte} {log : ℕ} (inv : HostInv s.host) :
    HostInv (Machine.chartWriteOpenDo o p log s).s.host :=
  .askNvm (.setChartSlot inv)

theorem HostInv.execChartWriteOpen {s : State} {o : Issue} {p : List Byte} (inv : HostInv s.host) :
    NextInv (Machine.execChartWriteOpen o p s) :=
  HostInv.hostCommand inv (fun _ _ h => .chartWriteOpenDo h)

theorem HostInv.chartWriteDataDo {s : State} {p : List Byte} {log : ℕ} (inv : HostInv s.host) :
    HostInv (Machine.chartWriteDataDo p log s).s.host := by
  unfold Machine.chartWriteDataDo
  split
  · exact inv
  · exact .of_eq (.setChartSlot inv) rfl rfl rfl rfl

theorem HostInv.execChartWriteData {s : State} {o : Issue} {p : List Byte} (inv : HostInv s.host) :
    NextInv (Machine.execChartWriteData o p s) :=
  HostInv.hostCommand inv (fun _ _ h => .chartWriteDataDo h)

theorem HostInv.chartWriteCloseDo {s : State} {o : Issue} {log : ℕ} (inv : HostInv s.host) :
    HostInv (Machine.chartWriteCloseDo o log s).s.host := by
  unfold Machine.chartWriteCloseDo
  split
  · exact inv
  · exact .askNvm inv

theorem HostInv.execChartWriteClose {s : State} {o : Issue} {p : List Byte} (inv : HostInv s.host) :
    NextInv (Machine.execChartWriteClose o p s) :=
  HostInv.hostCommand inv (fun _ _ h => .chartWriteCloseDo h)

theorem HostInv.chartEraseDone {s : State} {w : Waiter} {slot length : ℕ} (inv : HostInv s.host) :
    HostInv (Machine.chartEraseDone w slot length s).host := by
  unfold Machine.chartEraseDone
  refine .completed ?_
  dsimp only
  exact .setChartSlot inv

theorem HostInv.chartCloseDone {s : State} {w : Waiter} {slot status : ℕ} (inv : HostInv s.host) :
    HostInv (Machine.chartCloseDone w slot status s).host :=
  .completed (.posted (.setChartSlot inv))

theorem HostInv.selectSlot {s : State} {n : ℕ} (inv : HostInv s.host) : HostInv (Machine.selectSlot n s).host :=
  .setChartSlot inv

theorem HostInv.chartSelectDo {s : State} {o : Issue} {p : List Byte} {log : ℕ} (inv : HostInv s.host) :
    HostInv (Machine.chartSelectDo o p log s).s.host :=
  .doneIte (.selectSlot inv) (.beginSelect (.selectSlot inv))

theorem HostInv.execChartSelect {s : State} {o : Issue} {p : List Byte} (inv : HostInv s.host) :
    NextInv (Machine.execChartSelect o p s) :=
  HostInv.hostCommand inv (fun _ _ h => .chartSelectDo h)

theorem HostInv.execChartRead {s : State} {o : Issue} {p : List Byte} (inv : HostInv s.host) :
    NextInv (Machine.execChartRead o p s) :=
  HostInv.hostCommand inv (fun _ _ h => h)

end Sys2Proof.Machine
end

section
/-! PROOF. The invariant of the host part through the speed monitors and class-D stress. -/

namespace Sys2Proof.Machine

theorem HostInv.accountSpan {s : State} {si : List ℕ} {t20 : ℤ} {mv margin : ℕ} (inv : HostInv s.host) :
    HostInv (Machine.accountSpan si t20 mv margin s).host :=
  .spanMod inv

theorem HostInv.accountStress {s : State} {t21 : ℤ} {microamps : ℕ} (inv : HostInv s.host) :
    HostInv (Machine.accountStress t21 microamps s).host := by
  unfold Machine.accountStress
  refine .ite inv (.foldl (.spanMod ?_) (fun _ _ h => .ite (.posted h) h))
  dsimp only
  exact .drawRound inv

theorem HostInv.stepVcore {s : State} {v : ℕ} (inv : HostInv s.host) : HostInv (Machine.stepVcore v s).host :=
  .posted inv

theorem HostInv.actVcore {s : State} (inv : HostInv s.host) : HostInv (Machine.actVcore s).host :=
  .ite (.stepVcore inv) (.ite (.stepVcore inv) inv)

theorem HostInv.postReplan {s : State} {outcome log : ℕ} (inv : HostInv s.host) :
    HostInv (Machine.postReplan outcome log s).host :=
  .posted inv

theorem HostInv.actReplan {s : State} {v : ℕ} (inv : HostInv s.host) : HostInv (Machine.actReplan v s).host :=
  .ite inv (.ite inv (.ite inv (.postReplan inv)))

theorem HostInv.actRisk {s : State} {margin : ℕ} (inv : HostInv s.host) : HostInv (Machine.actRisk margin s).host :=
  .ite inv (.ite inv (.spanMod (.posted inv)))

theorem HostInv.noteMargin {s : State} {m : ℕ × ℕ} (inv : HostInv s.host) : HostInv (Machine.noteMargin m s).host :=
  inv

theorem HostInv.actMargin {s : State} {si : List ℕ} (inv : HostInv s.host) :
    HostInv (Machine.actMargin si s).host :=
  .ite inv (.actRisk (.actReplan (.actVcore (.noteMargin inv))))

theorem HostInv.healthyMs {s : State} (inv : HostInv s.host) : HostInv (Machine.healthyMs s).host := .ite inv inv

theorem HostInv.marginInterval {s : State} {si : List ℕ} {t20 t21 : ℤ} {mv microamps : ℕ} (inv : HostInv s.host) :
    HostInv (Machine.marginInterval si t20 t21 mv microamps s).host :=
  .ite inv (.healthyMs (.actMargin (.accountStress (.accountSpan inv))))

theorem HostInv.execMarginInterval {s : State} {si : List ℕ} {t20 t21 : ℤ} {vcoreMv spkMicroamps : ℕ}
    (inv : HostInv s.host) : NextInv (Machine.execMarginInterval si t20 t21 vcoreMv spkMicroamps s) :=
  HostInv.whenever inv (fun _ h => .marginInterval h)

theorem HostInv.execReplan {s : State} (inv : HostInv s.host) : NextInv (Machine.execReplan s) :=
  HostInv.whenever inv (fun _ h => .startVariant (.postReplan (.takeLog h)))

theorem HostInv.setVariantDo {s : State} {o : Issue} {p : List Byte} {log : ℕ} (inv : HostInv s.host) :
    HostInv (Machine.setVariantDo o p log s).s.host :=
  .doneIte inv (.startVariant inv)

theorem HostInv.execSetVariant {s : State} {o : Issue} {p : List Byte} (inv : HostInv s.host) :
    NextInv (Machine.execSetVariant o p s) :=
  HostInv.hostCommand inv (fun _ _ h => .setVariantDo h)

theorem HostInv.speedStatusDo {s : State} {o : Issue} {x1 : ℕ} (inv : HostInv s.host) :
    HostInv (Machine.speedStatusDo o x1 s).s.host :=
  inv

theorem HostInv.execSpeedStatus {s : State} {o : Issue} {p : List Byte} (inv : HostInv s.host) :
    NextInv (Machine.execSpeedStatus o p s) :=
  HostInv.hostCommand inv (fun _ _ h => .speedStatusDo h)

end Sys2Proof.Machine
end

section
/-! PROOF. The invariant of the host part through the hull log. -/

namespace Sys2Proof.Machine

theorem HostInv.recordWritten {s : State} {r : HullRecord} (inv : HostInv s.host) :
    HostInv (Machine.recordWritten r s).host :=
  .ite inv (.ite inv inv)

theorem HostInv.dailyDue {s : State} (inv : HostInv s.host) : HostInv (Machine.dailyDue s).host := by
  unfold Machine.dailyDue
  refine .ite inv (.ite (.askNvm inv) (.askNvm ?_))
  dsimp only
  exact .askNvm inv

theorem HostInv.hullHour {s : State} (inv : HostInv s.host) : HostInv (Machine.hullHour s).host := by
  unfold Machine.hullHour
  dsimp only
  exact .askSummary (.dailyDue (.askNvm inv))

theorem HostInv.execHullHourly {s : State} (inv : HostInv s.host) : NextInv (Machine.execHullHourly s) :=
  HostInv.whenever inv (fun _ h => .hullHour h)

theorem HostInv.summaryWritten {s : State} {horizon : Option ℕ} (inv : HostInv s.host) :
    HostInv (Machine.summaryWritten horizon s).host :=
  inv

theorem HostInv.execHullSummary {s : State} {o : Issue} {p : List Byte} (inv : HostInv s.host) :
    NextInv (Machine.execHullSummary o p s) :=
  HostInv.hostCommand inv (fun _ _ h => h)

theorem HostInv.execHullRead {s : State} {o : Issue} {p : List Byte} (inv : HostInv s.host) :
    NextInv (Machine.execHullRead o p s) :=
  HostInv.hostCommand inv (fun _ _ h => h)

theorem HostInv.recompute {s : State} (inv : HostInv s.host) : HostInv (Machine.recompute s).host :=
  .ite inv (.ite inv (.ite (.posted inv) inv))

theorem HostInv.execHullPredictionRecompute {s : State} (inv : HostInv s.host) :
    NextInv (Machine.execHullPredictionRecompute s) :=
  HostInv.whenever inv (fun _ h => .recompute h)

theorem HostInv.execHullPredict {s : State} {o : Issue} {p : List Byte} (inv : HostInv s.host) :
    NextInv (Machine.execHullPredict o p s) :=
  HostInv.hostCommand inv (fun _ _ h => h)

theorem HostInv.hullSetHorizonRun {s : State} {o : Issue} {p : List Byte} {log : ℕ} (inv : HostInv s.host) :
    HostInv (Machine.hullSetHorizonRun o p log s).host :=
  .askNvm inv

theorem HostInv.execHullSetHorizon {s : State} {o : Issue} {p : List Byte} (inv : HostInv s.host) :
    NextInv (Machine.execHullSetHorizon o p s) :=
  .next (.taken inv (fun _ _ h => .hullSetHorizonRun h))

theorem HostInv.hullFlushRun {s : State} {o : Issue} {log : ℕ} (inv : HostInv s.host) :
    HostInv (Machine.hullFlushRun o log s).host :=
  .askNvm inv

theorem HostInv.execHullFlush {s : State} {o : Issue} {p : List Byte} (inv : HostInv s.host) :
    NextInv (Machine.execHullFlush o p s) :=
  .next (.taken inv (fun _ _ h => .hullFlushRun h))

end Sys2Proof.Machine
end

section
/-! PROOF. The invariant of the host part through the settings store. -/

namespace Sys2Proof.Machine

theorem HostInv.setCopyOf {s : State} {n : ℕ} {c : SettingsCopy} (inv : HostInv s.host) :
    HostInv (Machine.setCopyOf s n c).host :=
  .ite inv inv

theorem HostInv.copyWritten {s : State} {items : List SettingsItem} (inv : HostInv s.host) :
    HostInv (Machine.copyWritten items s).host := by
  unfold Machine.copyWritten
  dsimp only
  exact .setCopyOf inv

theorem HostInv.copiesErased {s : State} (inv : HostInv s.host) : HostInv (Machine.copiesErased s).host := inv

theorem HostInv.applyItem {s : State} {it : SettingsItem} (inv : HostInv s.host) :
    HostInv (Machine.applyItem s it).host := by
  unfold Machine.applyItem
  split
  · exact .slotMod inv
  · exact .capMod inv
  · exact .sectionMod inv
  · exact .capMod inv
  · exact .jackMod inv
  · exact .gptpMod inv
  · exact inv
  · exact inv

theorem HostInv.applyCopy {s : State} {copy : SettingsCopy} (inv : HostInv s.host) :
    HostInv (Machine.applyCopy copy s).host := by
  unfold Machine.applyCopy
  dsimp only
  exact .foldl inv (fun _ _ h => .applyItem h)

theorem HostInv.postFallback {s : State} {copy cause format : ℕ} (inv : HostInv s.host) :
    HostInv (Machine.postFallback copy cause format s).host :=
  .posted inv

theorem HostInv.settingsLoad {s : State} (inv : HostInv s.host) : HostInv (Machine.settingsLoad s).host := by
  unfold Machine.settingsLoad
  split
  · split
    · dsimp only
      split
      · exact .postFallback inv
      · exact .ite (.applyCopy inv) (.ite (.applyCopy inv) (.postFallback inv))
    · dsimp only
      split
      · exact .postFallback inv
      · exact .ite (.applyCopy inv) (.ite (.applyCopy inv) (.postFallback inv))
  · split
    · dsimp only
      split
      · exact .postFallback inv
      · exact .ite (.applyCopy inv) (.ite (.applyCopy inv) (.postFallback inv))
    · dsimp only
      split
      · exact .postFallback inv
      · exact .ite (.applyCopy inv) (.ite (.applyCopy inv) (.postFallback inv))

theorem HostInv.loadOptions {s : State} (inv : HostInv s.host) : HostInv (Machine.loadOptions s).host := inv

theorem HostInv.execSettingsStatus {s : State} {o : Issue} {p : List Byte} (inv : HostInv s.host) :
    NextInv (Machine.execSettingsStatus o p s) :=
  HostInv.hostCommand inv (fun _ _ h => h)

theorem HostInv.settingsSaveDo {s : State} {o : Issue} {p : List Byte} {log : ℕ} (inv : HostInv s.host) :
    HostInv (Machine.settingsSaveDo o p log s).s.host :=
  .askNvm inv

theorem HostInv.execSettingsSave {s : State} {o : Issue} {p : List Byte} (inv : HostInv s.host) :
    NextInv (Machine.execSettingsSave o p s) :=
  HostInv.hostCommand inv (fun _ _ h => .settingsSaveDo h)

theorem HostInv.settingsEraseDo {s : State} {o : Issue} {log : ℕ} (inv : HostInv s.host) :
    HostInv (Machine.settingsEraseDo o log s).s.host :=
  .askNvm inv

theorem HostInv.execSettingsDiscardOld {s : State} {o : Issue} {p : List Byte} (inv : HostInv s.host) :
    NextInv (Machine.execSettingsDiscardOld o p s) :=
  HostInv.hostCommand inv (fun _ _ h => .settingsEraseDo h)

theorem HostInv.execSettingsErase {s : State} {o : Issue} {p : List Byte} (inv : HostInv s.host) :
    NextInv (Machine.execSettingsErase o p s) :=
  HostInv.hostCommand inv (fun _ _ h => .settingsEraseDo h)

end Sys2Proof.Machine
end

section
/-! PROOF. The invariant of the host part through images and update sessions. -/

namespace Sys2Proof.Machine

theorem HostInv.fwMod {s : State} {f : FwState → FwState} (inv : HostInv s.host) :
    HostInv (Machine.fwMod s f).host :=
  inv

theorem HostInv.sessMod {s : State} {f : Session → Session} (inv : HostInv s.host) :
    HostInv (Machine.sessMod s f).host :=
  .fwMod inv

theorem HostInv.postFwState {s : State} {cause log : ℕ} (inv : HostInv s.host) :
    HostInv (Machine.postFwState cause log s).host :=
  .posted inv

theorem HostInv.dfuDone {s : State} {p : ℕ} {verify : Bool} {status : ℕ} (inv : HostInv s.host) :
    HostInv (Machine.dfuDone p verify status s).host :=
  .usbMod inv

theorem HostInv.finishAsk {s : State} {a : Asker} {verify : Bool} {status : ℕ} {data : List Byte}
    (inv : HostInv s.host) : HostInv (Machine.finishAsk a verify status data s).host := by
  unfold Machine.finishAsk
  split
  · exact inv
  · exact .completed inv
  · exact .replied inv
  · exact .dfuDone inv

theorem HostInv.deferred {s : State} {op : ℕ} {o : Issue} {log : ℕ} {result : List Byte} (inv : HostInv s.host) :
    HostInv (Machine.deferred op o log result s).host :=
  .ite inv (.replied inv)

theorem HostInv.execFwStatus {s : State} {o : Issue} {p : List Byte} (inv : HostInv s.host) :
    NextInv (Machine.execFwStatus o p s) :=
  HostInv.hostCommand inv (fun _ _ h => h)

theorem HostInv.fwBegin {s : State} {c : Ctx} {log : ℕ} (inv : HostInv s.host) :
    HostInv (Machine.fwBegin c log s).host :=
  .postFwState (.sessMod inv)

theorem HostInv.fwBeginDo {s : State} {o : Issue} {log : ℕ} (inv : HostInv s.host) :
    HostInv (Machine.fwBeginDo o log s).s.host :=
  .fwBegin inv

theorem HostInv.execFwBegin {s : State} {o : Issue} {p : List Byte} (inv : HostInv s.host) :
    NextInv (Machine.execFwBegin o p s) :=
  HostInv.hostCommand inv (fun _ _ h => .fwBeginDo h)

theorem HostInv.acceptHeader {s : State} {b : List Byte} {a : Asker} (inv : HostInv s.host) :
    HostInv (Machine.acceptHeader b a s).host :=
  .postFwState (.sessMod (.countErase (.fwMod inv)))

theorem HostInv.blockRefused {s : State} {log : ℕ} (inv : HostInv s.host) :
    HostInv (Machine.blockRefused log s).host :=
  .ite (.postFwState (.sessMod inv)) inv

theorem HostInv.blockAccepted {s : State} {k : ℕ} {b : List Byte} {a : Asker} (inv : HostInv s.host) :
    HostInv (Machine.blockAccepted k b a s).host :=
  .ite (.acceptHeader inv) (.sessMod inv)

theorem HostInv.dropChunks {s : State} {k : ℕ} (inv : HostInv s.host) : HostInv (Machine.dropChunks k s).host :=
  .sessMod inv

theorem HostInv.fwWriteDataRun {s : State} {o : Issue} {p : List Byte} {log : ℕ} (inv : HostInv s.host) :
    HostInv (Machine.fwWriteDataRun o p log s).host := by
  unfold Machine.fwWriteDataRun
  refine .ite (.replied (.sessMod inv)) ?_
  dsimp only
  split
  · exact .ite (.replied (.blockRefused (.dropChunks (.sessMod inv))))
      (.replied (.blockRefused (.dropChunks (.sessMod inv))))
  · exact .deferred (.blockAccepted (.dropChunks (.sessMod inv)))

theorem HostInv.execFwWriteData {s : State} {o : Issue} {p : List Byte} (inv : HostInv s.host) :
    NextInv (Machine.execFwWriteData o p s) :=
  .next (.taken inv (fun _ _ h => .fwWriteDataRun h))

theorem HostInv.downloadDone {s : State} {log : ℕ} (inv : HostInv s.host) :
    HostInv (Machine.downloadDone log s).host := by
  unfold Machine.downloadDone
  refine .ite (.postFwState ?_) inv
  dsimp only
  exact .fwMod inv

theorem HostInv.blockWriteDone {s : State} {bad : Bool} (inv : HostInv s.host) :
    HostInv (Machine.blockWriteDone bad s).host := by
  unfold Machine.blockWriteDone
  split
  · exact inv
  · exact .downloadDone (.finishAsk (.ite (.countErase (.sessMod inv)) (.fwMod (.countErase (.sessMod inv)))))

theorem HostInv.execFwBlockWriteDone {s : State} {differs1 differs2 : Bool} (inv : HostInv s.host) :
    NextInv (Machine.execFwBlockWriteDone differs1 differs2 s) :=
  HostInv.whenever inv (fun _ h => .flushReplies (.blockWriteDone h))

theorem HostInv.startVerify {s : State} {a : Asker} (inv : HostInv s.host) :
    HostInv (Machine.startVerify a s).host :=
  .postFwState (.sessMod inv)

theorem HostInv.fwVerifyRun {s : State} {o : Issue} {log : ℕ} (inv : HostInv s.host) :
    HostInv (Machine.fwVerifyRun o log s).host :=
  .deferred (.startVerify inv)

theorem HostInv.execFwVerify {s : State} {o : Issue} {p : List Byte} (inv : HostInv s.host) :
    NextInv (Machine.execFwVerify o p s) :=
  .next (.taken inv (fun _ _ h => .fwVerifyRun h))

theorem HostInv.verifyDone {s : State} {bad : List ℕ} (inv : HostInv s.host) :
    HostInv (Machine.verifyDone bad s).host := by
  unfold Machine.verifyDone
  split
  · exact .postFwState (.finishAsk (.fwMod inv))
  · exact .postFwState (.finishAsk (.sessMod inv))

theorem HostInv.execFwVerifyDone {s : State} {bad : List ℕ} (inv : HostInv s.host) :
    NextInv (Machine.execFwVerifyDone bad s) :=
  HostInv.whenever inv (fun _ h => .flushReplies (.verifyDone h))

theorem HostInv.dropSessionWork {s : State} (inv : HostInv s.host) : HostInv (Machine.dropSessionWork s).host := by
  unfold Machine.dropSessionWork
  dsimp only
  split
  · exact .completed (.fwMod (.foldl inv (fun _ _ h => .finishAsk h)))
  · exact .fwMod (.foldl inv (fun _ _ h => .finishAsk h))

theorem HostInv.fwAbort {s : State} {log : ℕ} (inv : HostInv s.host) : HostInv (Machine.fwAbort log s).host :=
  .ite inv (.ite (.postFwState (.sessMod inv)) (.postFwState (.fwMod (.dropSessionWork inv))))

theorem HostInv.fwAbortDo {s : State} {x0 : Issue} {log : ℕ} (inv : HostInv s.host) :
    HostInv (Machine.fwAbortDo x0 log s).s.host :=
  .fwAbort inv

theorem HostInv.execFwAbort {s : State} {o : Issue} {p : List Byte} (inv : HostInv s.host) :
    NextInv (Machine.execFwAbort o p s) :=
  HostInv.hostCommand inv (fun _ _ h => .fwAbortDo h)

theorem HostInv.fwActivateDo {s : State} {o : Issue} {log : ℕ} (inv : HostInv s.host) :
    HostInv (Machine.fwActivateDo o log s).s.host :=
  .doneIte inv (.fwMod inv)

theorem HostInv.execFwActivate {s : State} {o : Issue} {p : List Byte} (inv : HostInv s.host) :
    NextInv (Machine.execFwActivate o p s) :=
  HostInv.hostCommand inv (fun _ _ h => .fwActivateDo h)

theorem HostInv.fwConfirmDo {s : State} {o : Issue} {log : ℕ} (inv : HostInv s.host) :
    HostInv (Machine.fwConfirmDo o log s).s.host :=
  .doneIte (.askNvm inv) inv

theorem HostInv.execFwConfirm {s : State} {o : Issue} {p : List Byte} (inv : HostInv s.host) :
    NextInv (Machine.execFwConfirm o p s) :=
  HostInv.hostCommand inv (fun _ _ h => .fwConfirmDo h)

theorem HostInv.execProbationHealthy {s : State} (inv : HostInv s.host) :
    NextInv (Machine.execProbationHealthy s) :=
  HostInv.whenever inv (fun _ h => .ite (.askNvm (.takeLog (.fwMod h))) (.fwMod h))

theorem HostInv.confirmDone {s : State} {w : Option Waiter} {log : ℕ} (inv : HostInv s.host) :
    HostInv (Machine.confirmDone w log s).host := by
  unfold Machine.confirmDone
  refine .ite ?_ (.postFwState ?_)
  · split
    · exact .completed inv
    · exact inv
  · split
    · exact .completed (.fwMod inv)
    · exact .fwMod inv

theorem HostInv.setAutoConfirmDo {s : State} {p : List Byte} {x1 : ℕ} (inv : HostInv s.host) :
    HostInv (Machine.setAutoConfirmDo p x1 s).s.host :=
  .fwMod inv

theorem HostInv.execSetAutoConfirm {s : State} {o : Issue} {p : List Byte} (inv : HostInv s.host) :
    NextInv (Machine.execSetAutoConfirm o p s) :=
  HostInv.hostCommand inv (fun _ _ h => .setAutoConfirmDo h)

theorem HostInv.execKeyStatus {s : State} {o : Issue} {p : List Byte} (inv : HostInv s.host) :
    NextInv (Machine.execKeyStatus o p s) :=
  HostInv.hostCommand inv (fun _ _ h => h)

theorem HostInv.chartKeyProgramDo {s : State} {o : Issue} {p : List Byte} {log : ℕ} (inv : HostInv s.host) :
    HostInv (Machine.chartKeyProgramDo o p log s).s.host :=
  .askNvm inv

theorem HostInv.execChartKeyProgram {s : State} {o : Issue} {p : List Byte} (inv : HostInv s.host) :
    NextInv (Machine.execChartKeyProgram o p s) :=
  HostInv.hostCommand inv (fun _ _ h => .chartKeyProgramDo h)

end Sys2Proof.Machine
end

section
/-! PROOF. The invariant of the host part through the ends of NVM steps. -/

namespace Sys2Proof.Machine

theorem HostInv.eraseLoses {s : State} {sector : ℕ} (inv : HostInv s.host) :
    HostInv (Machine.eraseLoses sector s).host :=
  .ite (.setCopyOf inv) (.ite (.setCopyOf inv) (.ite inv (.ite inv inv)))

theorem HostInv.eraseEffect {s : State} {sector : ℕ} (inv : HostInv s.host) :
    HostInv (Machine.eraseEffect sector s).host :=
  .eraseLoses (.countErase inv)

theorem HostInv.stepEffect {s : State} {j : NvmJob} {st : NvmStep} {ok : Bool} (inv : HostInv s.host) :
    HostInv (Machine.stepEffect j st ok s).host := by
  unfold Machine.stepEffect
  split
  · exact .eraseEffect inv
  · exact .ite (.copyWritten inv) inv
  · exact .ite (.copyWritten inv) inv
  · exact inv

theorem HostInv.ownEffect {s : State} {j : NvmJob} (inv : HostInv s.host) :
    HostInv (Machine.ownEffect j s).host := by
  unfold Machine.ownEffect
  split
  · exact .fwMod inv
  · exact .setChartSlot inv
  · exact .fwMod inv
  · exact inv

theorem HostInv.ownWrite {s : State} {j : NvmJob} (inv : HostInv s.host) : HostInv (Machine.ownWrite j s).host :=
  .ite (.askNvm inv) (.ownEffect inv)

theorem HostInv.jobDone {s : State} {j : NvmJob} (inv : HostInv s.host) : HostInv (Machine.jobDone j s).host := by
  unfold Machine.jobDone
  split
  · exact .chartEraseDone inv
  · exact .chartCloseDone inv
  · exact .completed (.copiesErased inv)
  · exact .completed inv
  · exact .confirmDone inv
  · exact .completed (.fwMod inv)
  · exact .finishAsk (.summaryWritten inv)
  · exact .recordWritten inv
  · exact .ownEffect inv
  · exact .ownEffect inv
  · exact .ownEffect inv

theorem HostInv.jobFailed {s : State} {j : NvmJob} (inv : HostInv s.host) :
    HostInv (Machine.jobFailed j s).host := by
  unfold Machine.jobFailed
  split
  · exact .completed inv
  · exact .chartCloseDone inv
  · exact .completed inv
  · exact .completed inv
  · exact .completed inv
  · exact inv
  · exact .completed inv
  · exact .finishAsk inv
  · exact inv
  · exact inv
  · exact inv
  · exact inv

theorem HostInv.nvmStepDone {s : State} {ok : Bool} (inv : HostInv s.host) :
    HostInv (Machine.nvmStepDone ok s).host := by
  unfold Machine.nvmStepDone
  split
  · exact .ite (.nvmStart (.fwMod (.stepEffect inv))) (.nvmStart
      (.ite (.jobDone (.fwMod (.stepEffect inv))) (.jobFailed (.fwMod (.stepEffect inv)))))
  · exact inv

theorem HostInv.execNvmSectorErase {s : State} {ok : Bool} (inv : HostInv s.host) :
    NextInv (Machine.execNvmSectorErase ok s) :=
  HostInv.whenever inv (fun _ h => .flushReplies (.nvmStepDone h))

theorem HostInv.execNvmRowWriteDone {s : State} {ok : Bool} (inv : HostInv s.host) :
    NextInv (Machine.execNvmRowWriteDone ok s) :=
  HostInv.whenever inv (fun _ h => .flushReplies (.nvmStepDone h))

theorem HostInv.execSettingsSaveDone {s : State} {ok : Bool} (inv : HostInv s.host) :
    NextInv (Machine.execSettingsSaveDone ok s) :=
  HostInv.whenever inv (fun _ h => .flushReplies (.nvmStepDone h))

end Sys2Proof.Machine
end

section
/-! PROOF. The invariant of the host part through the two-wire ports. -/

namespace Sys2Proof.Machine

theorem HostInv.twSet {s : State} {p : Fin 2} {t : TwPort} (inv : HostInv s.host) :
    HostInv (Machine.twSet s p t).host :=
  .ite inv inv

theorem HostInv.twMod {s : State} {p : Fin 2} {f : TwPort → TwPort} (inv : HostInv s.host) :
    HostInv (Machine.twMod s p f).host :=
  .twSet inv

theorem HostInv.refreshDoor {s : State} {p : Fin 2} (inv : HostInv s.host) :
    HostInv (Machine.refreshDoor s p).host :=
  .twMod inv

theorem HostInv.twCondition {s : State} {p : Fin 2} (inv : HostInv s.host) :
    HostInv (Machine.twCondition s p).host :=
  .refreshDoor (.twMod inv)

theorem HostInv.execTwAddressMatch {s : State} {port : Fin 2} {addr : BitVec 7} {read : Bool} (inv : HostInv s.host)
    : NextInv (Machine.execTwAddressMatch port addr read s) :=
  .next (.ite (.twMod inv) (.twMod (.twCondition inv)))

theorem HostInv.execTwPointerWrite {s : State} {port : Fin 2} {hi lo : Byte} (inv : HostInv s.host) :
    NextInv (Machine.execTwPointerWrite port hi lo s) :=
  HostInv.whenever inv (fun _ h => .twMod h)

theorem HostInv.twData {s : State} {port : Fin 2} {lo hi : ℕ} {act : TwPort → State → State} (inv : HostInv s.host)
    (h : ∀ (u : TwPort) (t : State), HostInv t.host → HostInv (act u t).host) : HostInv
    (Machine.twData port lo hi act s).host :=
  .ite inv (.ite (.twMod inv) (h _ s inv))

theorem HostInv.execCommandDoorWrite {s : State} {port : Fin 2} {b : Byte} (inv : HostInv s.host) :
    NextInv (Machine.execCommandDoorWrite port b s) :=
  .next (.twData inv (fun _ _ h => .ite (.twMod h) (.twMod h)))

theorem HostInv.commitDoor {s : State} {port : Fin 2} (inv : HostInv s.host) :
    HostInv (Machine.commitDoor port s).host :=
  .receivePacket (.twMod inv)

theorem HostInv.execDoorCommit {s : State} {port : Fin 2} {b : Byte} (inv : HostInv s.host) :
    NextInv (Machine.execDoorCommit port b s) :=
  .next (.twData inv (fun _ _ h => .ite (.ite (.twMod h) (.ite (.commitDoor (.twMod h)) (.twMod h))) (.twMod h)))

theorem HostInv.execErrorClear {s : State} {port : Fin 2} {b : Byte} (inv : HostInv s.host) :
    NextInv (Machine.execErrorClear port b s) :=
  .next (.twData inv (fun _ _ h => .ite (.twMod h) (.twMod h)))

theorem HostInv.execIrqMaskWrite {s : State} {port : Fin 2} {b : Byte} (inv : HostInv s.host) :
    NextInv (Machine.execIrqMaskWrite port b s) :=
  .next (.twData inv (fun _ _ h => .ite (.refreshPins (.twMod h)) (.twMod h)))

theorem HostInv.execEventAckRegisterWrite {s : State} {port : Fin 2} {b : Byte} (inv : HostInv s.host) :
    NextInv (Machine.execEventAckRegisterWrite port b s) :=
  .next (.twData inv (fun _ _ h => .ite (.ite (.twMod h) (.acknowledged (.twMod h))) (.twMod h)))

theorem HostInv.execRegisterWriteDiscarded {s : State} {port : Fin 2} {x1 : Byte} (inv : HostInv s.host) :
    NextInv (Machine.execRegisterWriteDiscarded port x1 s) :=
  .next (.ite (.twData inv (fun _ _ h => .twMod h)) inv)

theorem HostInv.twReadByte {s : State} {p : Fin 2} (inv : HostInv s.host) : HostInv (Machine.twReadByte p s).host :=
  .twMod inv

theorem HostInv.twReadBytes {s : State} {p : Fin 2} {n : ℕ} (inv : HostInv s.host) :
    HostInv (Machine.twReadBytes p n s).host := by
  induction n generalizing s with
  | zero => exact inv
  | succ n ih => exact ih (.twMod inv)

theorem HostInv.twReadEnds {s : State} {p : Fin 2} {nak : Bool} (inv : HostInv s.host) :
    HostInv (Machine.twReadEnds p nak s).host :=
  .ite (.twMod inv) inv

theorem HostInv.execReplyConsume {s : State} {port : Fin 2} {n : ℕ} {nak : Bool} (inv : HostInv s.host) :
    NextInv (Machine.execReplyConsume port n nak s) :=
  HostInv.whenever inv (fun _ h => .twReadEnds (.twReadBytes h))

theorem HostInv.execEventDoorRefresh {s : State} {port : Fin 2} {x1 : Bool} (inv : HostInv s.host) :
    NextInv (Machine.execEventDoorRefresh port x1 s) :=
  HostInv.whenever inv (fun _ h => .twCondition h)

theorem HostInv.execTwAckSlotCondition {s : State} {port : Fin 2} {x1 : Bool} (inv : HostInv s.host) :
    NextInv (Machine.execTwAckSlotCondition port x1 s) :=
  HostInv.whenever inv (fun _ h => .twCondition (.twReadByte h))

theorem HostInv.execTwByteAbort {s : State} {port : Fin 2} {x1 : Bool} (inv : HostInv s.host) :
    NextInv (Machine.execTwByteAbort port x1 s) :=
  HostInv.whenever inv (fun _ h => .twCondition (.twMod h))

theorem HostInv.execTwBusStall {s : State} {port : Fin 2} (inv : HostInv s.host) :
    NextInv (Machine.execTwBusStall port s) :=
  HostInv.whenever inv (fun _ h => .twMod h)

theorem HostInv.execTwLoaderReady {s : State} (inv : HostInv s.host) : NextInv (Machine.execTwLoaderReady s) :=
  HostInv.whenever inv (fun _ h => h)

end Sys2Proof.Machine
end

section
/-! PROOF. The invariant of the host part through power states. -/

namespace Sys2Proof.Machine

theorem HostInv.pwrMod {s : State} {f : PowerState → PowerState} (inv : HostInv s.host) :
    HostInv (Machine.pwrMod s f).host :=
  inv

theorem HostInv.enterShelter {s : State} {rail : ℕ} (inv : HostInv s.host) :
    HostInv (Machine.enterShelter rail s).host := by
  unfold Machine.enterShelter
  exact .nvmShelter (.relayShelter (.outputsShelter (.spanMod (.postBrown (.pwrMod inv)))))

theorem HostInv.noteWarning {s : State} {rail : ℕ} (inv : HostInv s.host) :
    HostInv (Machine.noteWarning rail s).host :=
  .pwrMod inv

theorem HostInv.supplyWarning {s : State} {rail : ℕ} (inv : HostInv s.host) :
    HostInv (Machine.supplyWarning rail s).host :=
  .ite (.enterShelter (.countBrown (.noteWarning inv))) (.ite (.postBrown (.countBrown (.noteWarning inv)))
    (.nvmShelter (.postBrown (.countBrown (.noteWarning inv)))))

theorem HostInv.shelterEnd {s : State} (inv : HostInv s.host) : HostInv (Machine.shelterEnd s).host :=
  .nvmStart (.ite (.outputsAfterShelter (.foldl (.pwrMod inv) (fun _ _ h => .postBrown h)))
    (.foldl (.pwrMod inv) (fun _ _ h => .postBrown h)))

theorem HostInv.execShelterEnd {s : State} (inv : HostInv s.host) : NextInv (Machine.execShelterEnd s) :=
  HostInv.whenever inv (fun _ h => .shelterEnd h)

theorem HostInv.railRecovers {s : State} {rail : ℕ} (inv : HostInv s.host) :
    HostInv (Machine.railRecovers rail s).host :=
  .ite inv (.ite (.pwrMod inv) (.shelterEnd (.pwrMod inv)))

theorem HostInv.execSupplyWarning {s : State} {rail : Fin 2} {below : Bool} (inv : HostInv s.host) :
    NextInv (Machine.execSupplyWarning rail below s) := by
  unfold Machine.execSupplyWarning
  refine HostInv.whenever inv (fun t h => ?_)
  split
  · exact .supplyWarning h
  · exact .railRecovers h

theorem HostInv.shelterIfWarned {s : State} (inv : HostInv s.host) : HostInv (Machine.shelterIfWarned s).host := by
  unfold Machine.shelterIfWarned
  split
  · exact inv
  · exact .foldl (.enterShelter inv) (fun _ _ h => .postBrown h)

theorem HostInv.resumeTick {s : State} (inv : HostInv s.host) : HostInv (Machine.resumeTick s).host := inv

theorem HostInv.membersIdle {s : State} (inv : HostInv s.host) : HostInv (Machine.membersIdle s).host := inv

theorem HostInv.membersStart {s : State} (inv : HostInv s.host) : HostInv (Machine.membersStart s).host :=
  .foldl inv (fun _ _ h => .foldl h (fun _ _ h => .ite (.startMember h) h))

theorem HostInv.analogueRestart {s : State} (inv : HostInv s.host) : HostInv (Machine.analogueRestart s).host :=
  .foldl inv (fun _ _ h => .ite (.capMod h) h)

theorem HostInv.returnToActive {s : State} (inv : HostInv s.host) : HostInv (Machine.returnToActive s).host := by
  unfold Machine.returnToActive
  extract_lets asleep s0 s1 s2
  have hs0 : HostInv s0.host := .ite (.serialDrive inv) inv
  have hs1 : HostInv s1.host := .resumeTick (.pwrMod (.disarmAll hs0))
  have hs2 : HostInv s2.host := .outputsWake (.analogueRestart (.wakeCaptures (.membersStart hs1)))
  exact .serveJacks (.ite (.scanGoesOn hs2) hs2)

theorem HostInv.powerStateSetDo {s : State} {o : Issue} {p : List Byte} {log : ℕ} (inv : HostInv s.host) :
    HostInv (Machine.powerStateSetDo o p log s).s.host :=
  .doneIte inv (.ite (.relayRest (.pwrMod inv)) (.pwrMod inv))

theorem HostInv.execPowerStateSet {s : State} {o : Issue} {p : List Byte} (inv : HostInv s.host) :
    NextInv (Machine.execPowerStateSet o p s) :=
  HostInv.hostCommand inv (fun _ _ h => .powerStateSetDo h)

theorem HostInv.postPowerState {s : State} {prev cause log : ℕ} (inv : HostInv s.host) :
    HostInv (Machine.postPowerState prev cause log s).host :=
  .posted inv

theorem HostInv.transitionDone {s : State} {t : Transition} {prev : ℕ} (inv : HostInv s.host) :
    HostInv (Machine.transitionDone t prev s).host :=
  .postPowerState (.completed inv)

theorem HostInv.dropAwaiting {s : State} (inv : HostInv s.host) : HostInv (Machine.dropAwaiting s).host :=
  .foldl inv (fun _ _ h => .outMod h)

theorem HostInv.enterDoze {s : State} {t : Transition} (inv : HostInv s.host) :
    HostInv (Machine.enterDoze t s).host :=
  .transitionDone (.pwrMod (.membersIdle (.stopTick (.relayRest (.dropAwaiting inv)))))

theorem HostInv.jacksRest {s : State} (inv : HostInv s.host) : HostInv (Machine.jacksRest s).host :=
  .auxStimulusEnd (.jackMod (.jackMod inv))

theorem HostInv.enterSleep {s : State} {t : Transition} (inv : HostInv s.host) :
    HostInv (Machine.enterSleep t s).host :=
  .refreshPins (.twMod (.twMod (.pwrMod (.linkGoesDown (.departing
    (.membersIdle (.stopTick (.measRest (.serialRest (.jacksRest
    (.completed (.outputsSleep (.relayRest (.dropAwaiting inv))))))))))))))

theorem HostInv.transitionMute {s : State} {t : Transition} (inv : HostInv s.host) :
    HostInv (Machine.transitionMute t s).host :=
  .ite (.outputsRest (.relayRest (.ite (.askSummary (.pwrMod inv)) (.pwrMod inv))))
    (.ite (.askSummary (.pwrMod inv)) (.pwrMod inv))

theorem HostInv.transitionStep {s : State} {t : Transition} (inv : HostInv s.host) :
    HostInv (Machine.transitionStep t s).host :=
  .ite (.ite (.enterSleep inv) (.enterDoze inv)) (.ite (.transitionDone (.returnToActive inv))
    (.ite (.transitionDone (.pwrMod inv)) (.transitionMute inv)))

theorem HostInv.execPowerTransitionProceed {s : State} (inv : HostInv s.host) :
    NextInv (Machine.execPowerTransitionProceed s) := by
  unfold Machine.execPowerTransitionProceed
  refine .next ?_
  split
  · exact .ite (.transitionStep inv) inv
  · exact inv

theorem HostInv.postSlept {s : State} (inv : HostInv s.host) : HostInv (Machine.postSlept s).host :=
  .foldl (.pwrMod inv) (fun _ _ h => .postBrown h)

theorem HostInv.wake {s : State} {cause : ℕ} (inv : HostInv s.host) : HostInv (Machine.wake cause s).host :=
  .nvmStart (.refreshPins (.shelterIfWarned (.postSlept (.postPowerState (.returnToActive (.pwrMod inv))))))

theorem HostInv.execWakeSource {s : State} {source : Fin 3} (inv : HostInv s.host) :
    NextInv (Machine.execWakeSource source s) :=
  HostInv.whenever inv (fun _ h => .wake h)

theorem HostInv.wakeFor {s : State} {cause : ℕ} (inv : HostInv s.host) : HostInv (Machine.wakeFor cause s).host :=
  .ite (.wake inv) inv

theorem HostInv.execJdetPresent {s : State} {j : Fin 2} (inv : HostInv s.host) :
    NextInv (Machine.execJdetPresent j s) :=
  HostInv.whenever inv (fun _ h => .wakeFor (.jdetPresent h))

theorem HostInv.execJdetAbsent {s : State} {j : Fin 2} (inv : HostInv s.host) :
    NextInv (Machine.execJdetAbsent j s) :=
  HostInv.whenever inv (fun _ h => .wakeFor (.jdetAbsent h))

theorem HostInv.execVbusChange {s : State} {port : Fin 2} {up : Bool} (inv : HostInv s.host) :
    NextInv (Machine.execVbusChange port up s) :=
  .next (.vbusChange (.ite (.wakeFor inv) inv))

theorem HostInv.execUsbBusReset {s : State} {port : Fin 2} {speed : Fin 3} (inv : HostInv s.host) :
    NextInv (Machine.execUsbBusReset port speed s) :=
  HostInv.whenever inv (fun _ h => .usbBusReset (.wakeFor h))

theorem HostInv.execUsbResume {s : State} {port : Fin 2} (inv : HostInv s.host) :
    NextInv (Machine.execUsbResume port s) :=
  HostInv.whenever inv (fun _ h => .usbResume (.wakeFor h))

theorem HostInv.execTwWakeMatch {s : State} {port : Fin 2} {addr : BitVec 7} (inv : HostInv s.host) :
    NextInv (Machine.execTwWakeMatch port addr s) :=
  HostInv.whenever inv (fun _ h => .wake (.twMod h))

theorem HostInv.postThermal {s : State} {what : ℕ} {t20 : ℤ} (inv : HostInv s.host) :
    HostInv (Machine.postThermal what t20 s).host :=
  .posted inv

theorem HostInv.recordHeat {s : State} {t20 : ℤ} (inv : HostInv s.host) : HostInv (Machine.recordHeat t20 s).host :=
  .ite (.spanMod inv) inv

theorem HostInv.thermalWarning {s : State} {t20 : ℤ} (inv : HostInv s.host) :
    HostInv (Machine.thermalWarning t20 s).host :=
  .recordHeat (.ite (.postThermal (.pwrMod inv)) (.ite (.postThermal (.pwrMod inv)) inv))

theorem HostInv.execThermalWarning {s : State} {t20 : ℤ} (inv : HostInv s.host) :
    NextInv (Machine.execThermalWarning t20 s) :=
  HostInv.whenever inv (fun _ h => .thermalWarning h)

theorem HostInv.thermalOutput {s : State} {o : ℕ} (inv : HostInv s.host) :
    HostInv (Machine.thermalOutput s o).host :=
  .refreshPump (.outMod (.stopDriving inv))

theorem HostInv.thermalShutdown {s : State} (inv : HostInv s.host) : HostInv (Machine.thermalShutdown s).host :=
  .refreshPins (.auxFollow (.foldl (.phyReset (.serialFault (.stopTick (.pwrMod inv))))
    (fun _ _ h => .thermalOutput h)))

theorem HostInv.execThermalShutdown {s : State} (inv : HostInv s.host) : NextInv (Machine.execThermalShutdown s) :=
  HostInv.whenever inv (fun _ h => .thermalShutdown h)

theorem HostInv.thermalReturn {s : State} {o : ℕ} (inv : HostInv s.host) :
    HostInv (Machine.thermalReturn s o).host :=
  .ite inv (.enterOut (.outMod inv))

theorem HostInv.thermalFault {s : State} {o : ℕ} (inv : HostInv s.host) : HostInv (Machine.thermalFault s o).host :=
  .postOutFault (.outMod inv)

theorem HostInv.thermalRecover {s : State} {t20 : ℤ} (inv : HostInv s.host) :
    HostInv (Machine.thermalRecover t20 s).host :=
  .refreshPins (.postThermal (.foldl (.auxFollow (.foldl (.ite (.pwrMod inv)
    (.phyReset (.serialDrive (.ite (.resumeTick (.pwrMod inv)) (.pwrMod inv))))) (fun _ _ h => .thermalReturn h)))
    (fun _ _ h => .thermalFault h)))

theorem HostInv.execThermalRecover {s : State} {t20 : ℤ} (inv : HostInv s.host) :
    NextInv (Machine.execThermalRecover t20 s) :=
  HostInv.whenever inv (fun _ h => .thermalRecover h)

theorem HostInv.execPowerStatus {s : State} {o : Issue} {p : List Byte} (inv : HostInv s.host) :
    NextInv (Machine.execPowerStatus o p s) :=
  HostInv.hostCommand inv (fun _ _ h => h)

end Sys2Proof.Machine
end

section
/-! PROOF. The invariant of the host part through resets and the start. -/

namespace Sys2Proof.Machine

theorem HostInv.resetPart {s : State} {cause : ℕ} (_inv : HostInv s.host) :
    HostInv (Machine.resetPart cause s).host :=
  hostInvariantAtReset

theorem HostInv.resetOpen {s : State} (inv : HostInv s.host) : HostInv (Machine.resetOpen s).host := .resetPart inv

theorem HostInv.ioRails {s : State} {ioB vusb : Bool} (inv : HostInv s.host) :
    HostInv (Machine.ioRails ioB vusb s).host :=
  .refreshPins (.usbFollow (.usbFollow (.ite (.serialPins (.pwrMod inv)) (.twMod (.serialPins (.pwrMod inv))))))

theorem HostInv.execPowerOn {s : State} {core ioB vusb : Bool} (inv : HostInv s.host) :
    NextInv (Machine.execPowerOn core ioB vusb s) :=
  .next (.ite (.pwrMod (.resetPart inv)) (.ioRails inv))

theorem HostInv.execResetNLow {s : State} (inv : HostInv s.host) : NextInv (Machine.execResetNLow s) :=
  HostInv.whenever inv (fun _ h => .resetPart h)

theorem HostInv.execSupplyResetLevel {s : State} {rail : Fin 2} (inv : HostInv s.host) :
    NextInv (Machine.execSupplyResetLevel rail s) :=
  HostInv.whenever inv (fun _ h => .resetPart h)

theorem HostInv.watchdogExpire {s : State} (inv : HostInv s.host) : HostInv (Machine.watchdogExpire s).host :=
  .resetPart (.pwrMod inv)

theorem HostInv.execWatchdogExpire {s : State} (inv : HostInv s.host) : NextInv (Machine.execWatchdogExpire s) :=
  HostInv.whenever inv (fun _ h => .watchdogExpire h)

theorem HostInv.execWatchdogCounterClear {s : State} (inv : HostInv s.host) :
    NextInv (Machine.execWatchdogCounterClear s) :=
  HostInv.whenever inv (fun _ h => .pwrMod h)

theorem HostInv.release {s : State} {tw0 tw1 : BitVec 2} {compat testEn ioA33 ioB33 : Bool} (inv : HostInv s.host) :
    HostInv (Machine.release tw0 tw1 compat testEn ioA33 ioB33 s).host :=
  .pwrMod (.foldl (.twMod (.twMod inv)) (fun _ _ h => .ctxModQuiet h (fun _ => rfl) (fun _ => rfl)))

theorem HostInv.execResetRelease {s : State} {tw0 tw1 : BitVec 2} {compat testEn ioA33 ioB33 : Bool}
    (inv : HostInv s.host) : NextInv (Machine.execResetRelease tw0 tw1 compat testEn ioA33 ioB33 s) :=
  .next (.ite (.release (.ite inv (.ite (.resetOpen inv) (.resetPart inv))))
    (.ite inv (.ite (.resetOpen inv) (.resetPart inv))))

theorem HostInv.execReferenceSelect {s : State} {edges : ℕ} (inv : HostInv s.host) :
    NextInv (Machine.execReferenceSelect edges s) := by
  unfold Machine.execReferenceSelect
  refine HostInv.whenever inv (fun t h => ?_)
  dsimp only
  exact .pwrMod h

theorem HostInv.startDetRef {s : State} (inv : HostInv s.host) : HostInv (Machine.startDetRef s).host := .auxMod inv

theorem HostInv.clearBusy {s : State} (inv : HostInv s.host) : HostInv (Machine.clearBusy s).host :=
  .twMod (.twMod inv)

theorem HostInv.setBusy {s : State} (inv : HostInv s.host) : HostInv (Machine.setBusy s).host := .twMod (.twMod inv)

theorem HostInv.enterHarbour {s : State} {cause : ℕ} (inv : HostInv s.host) :
    HostInv (Machine.enterHarbour cause s).host :=
  .refreshPins (.usbFollow (.usbFollow (.clearBusy (.startDetRef (.pwrMod inv)))))

theorem HostInv.enterBoot {s : State} (inv : HostInv s.host) : HostInv (Machine.enterBoot s).host :=
  .startDetRef (.pwrMod (.ite (.ownWrite (.ite inv (.ownWrite inv))) (.ite inv (.ownWrite inv))))

theorem HostInv.imageCheckDone {s : State} (inv : HostInv s.host) : HostInv (Machine.imageCheckDone s).host := by
  unfold Machine.imageCheckDone
  dsimp only
  split
  · exact .enterHarbour (.drawRound inv)
  · exact .enterBoot (.drawRound inv)

theorem HostInv.execImageCheckDone {s : State} (inv : HostInv s.host) : NextInv (Machine.execImageCheckDone s) :=
  HostInv.whenever inv (fun _ h => .imageCheckDone h)

theorem HostInv.bootChart {s : State} {n : ℕ} (inv : HostInv s.host) : HostInv (Machine.bootChart n s).host :=
  .placeChart inv

theorem HostInv.markInvalid {s : State} {n : ℕ} (inv : HostInv s.host) : HostInv (Machine.markInvalid n s).host :=
  .ownWrite inv

theorem HostInv.chartMissing {s : State} (inv : HostInv s.host) : HostInv (Machine.chartMissing s).host :=
  .postedSel inv

theorem HostInv.chartSlotSelect {s : State} (inv : HostInv s.host) : HostInv (Machine.chartSlotSelect s).host := by
  unfold Machine.chartSlotSelect
  split
  · exact .chartMissing inv
  · split
    · exact .bootChart inv
    · split
      · exact .chartMissing (.markInvalid inv)
      · exact .ite (.posted (.bootChart (.markInvalid inv))) (.chartMissing (.markInvalid (.markInvalid inv)))

theorem HostInv.armSelfTest {s : State} (inv : HostInv s.host) : HostInv (Machine.armSelfTest s).host := by
  unfold Machine.armSelfTest
  dsimp only
  exact .foldl inv (fun _ _ h => .capMod h)

theorem HostInv.execChartSlotSelect {s : State} (inv : HostInv s.host) : NextInv (Machine.execChartSlotSelect s) :=
  HostInv.whenever inv (fun _ h => .armSelfTest (.chartSlotSelect h))

theorem HostInv.selfTestEnd {s : State} {sar : BitVec 2} {reliefFired : Bool} {words : ℕ} (inv : HostInv s.host) :
    HostInv (Machine.selfTestEnd sar reliefFired words s).host :=
  .ite (.haltEngine (.pwrMod (.foldl (.drawReading inv) (fun _ _ h => .failSar h))))
    (.pwrMod (.foldl (.drawReading inv) (fun _ _ h => .failSar h)))

theorem HostInv.execSelfTestEnd {s : State} {sar : BitVec 2} {reliefFired : Bool} {words : Fin 3}
    (inv : HostInv s.host) : NextInv (Machine.execSelfTestEnd sar reliefFired words s) :=
  HostInv.whenever inv (fun _ h => .selfTestEnd h)

theorem HostInv.newSummary {s : State} (inv : HostInv s.host) : HostInv (Machine.newSummary s).host :=
  .ite inv (.askSummary (.pwrMod inv))

theorem HostInv.postHullReset {s : State} {was : Bool} (inv : HostInv s.host) :
    HostInv (Machine.postHullReset was s).host :=
  .ite inv (.posted inv)

theorem HostInv.postStarted {s : State} (inv : HostInv s.host) : HostInv (Machine.postStarted s).host := .posted inv

theorem HostInv.postStartVariant {s : State} (inv : HostInv s.host) : HostInv (Machine.postStartVariant s).host :=
  .ite (.posted inv) inv

theorem HostInv.bootComplete {s : State} {us : ℕ} (inv : HostInv s.host) :
    HostInv (Machine.bootComplete us s).host :=
  .refreshPins (.nvmStart (.shelterIfWarned (.usbFollow (.usbFollow
    (.postStartVariant (.postHullReset (.postStarted (.clearBusy
    (.resumeTick (.pwrMod (.newSummary (.settingsLoad (.ite inv (.disarmAll inv))))))))))))))

theorem HostInv.execBootComplete {s : State} {us : ℕ} (inv : HostInv s.host) :
    NextInv (Machine.execBootComplete us s) :=
  HostInv.whenever inv (fun _ h => .bootComplete h)

end Sys2Proof.Machine
end

section
/-! PROOF. The invariant of the host part through activation and the CP absence. -/

namespace Sys2Proof.Machine

theorem HostInv.beginAbsence {s : State} (inv : HostInv s.host) : HostInv (Machine.beginAbsence s).host := by
  unfold Machine.beginAbsence
  extract_lets s1 v
  have hs1 : HostInv s1.host := .fwMod inv
  exact .setBusy (.of_eq hs1 rfl rfl rfl rfl)

theorem HostInv.tellActivate {s : State} {w : Option Waiter} {status : ℕ} (inv : HostInv s.host) :
    HostInv (Machine.tellActivate w status s).host := by
  unfold Machine.tellActivate
  split
  · exact .completed inv
  · exact inv

theorem HostInv.activateTimeout {s : State} {w : Option Waiter} {log : ℕ} (inv : HostInv s.host) :
    HostInv (Machine.activateTimeout w log s).host :=
  .postFwState (.tellActivate (.fwMod inv))

theorem HostInv.execFwActivateProceed {s : State} {expired : Bool} (inv : HostInv s.host) :
    NextInv (Machine.execFwActivateProceed expired s) := by
  unfold Machine.execFwActivateProceed
  refine .next ?_
  split
  · exact .ite inv (.ite (.beginAbsence inv) (.ite (.activateTimeout inv) inv))
  · exact inv

theorem HostInv.startImage {s : State} {whole : Bool} (inv : HostInv s.host) :
    HostInv (Machine.startImage whole s).host :=
  .fwMod inv

theorem HostInv.dropBody {s : State} (inv : HostInv s.host) : HostInv (Machine.dropBody s).host := by
  unfold Machine.dropBody
  extract_lets v s1 s2 s3 par
  have hs1 : HostInv s1.host := inv.queuesEmptied
  have hs2 : HostInv s2.host := .foldl hs1 fun _ _ h => .dropQueued h
  have hs3 : HostInv s3.host := .foldl hs2 fun _ _ h => .dropQueued h
  exact hs3

theorem HostInv.preambleOnly {s : State} (inv : HostInv s.host) : HostInv (Machine.preambleOnly s).host := by
  unfold Machine.preambleOnly
  dsimp only
  split
  · exact .placeMoorings (.dropBody (.loadOptions inv))
  · exact .dropBody (.loadOptions inv)

theorem HostInv.addLost {s : State} {k n : ℕ} (inv : HostInv s.host) : HostInv (Machine.addLost k s n).host := by
  unfold Machine.addLost
  split
  · exact inv
  · exact inv.ctxMod n _ (lostQueue_ok _ (inv.queues n) rfl) (fun hn => inv.openBelow hn)

theorem HostInv.deliverRaised {s : State} (inv : HostInv s.host) : HostInv (Machine.deliverRaised s).host := by
  unfold Machine.deliverRaised
  extract_lets rs k v s1 s2
  have hs1 : HostInv s1.host := { inv with raisedMax := Nat.zero_le _ }
  have hs2 : HostInv s2.host := .foldl hs1 fun _ _ h => .delivered h
  exact .refreshPins (.foldl hs2 fun _ _ h => .addLost h)

theorem HostInv.takeLate {s : State} {e : Option (BitVec 64 × BitVec 16) × List Byte} (inv : HostInv s.host) :
    HostInv (Machine.takeLate s e).host := by
  unfold Machine.takeLate
  split
  · exact .vendorPacket inv
  · exact .takePacket inv

theorem HostInv.deliverLate {s : State} (inv : HostInv s.host) : HostInv (Machine.deliverLate s).host :=
  .foldl (.of_eq inv rfl rfl rfl rfl) (fun _ _ h => .takeLate h)

theorem HostInv.postGangway {s : State} {whole : Bool} {format log : ℕ} (inv : HostInv s.host) :
    HostInv (Machine.postGangway whole format log s).host :=
  .posted inv

theorem HostInv.endAbsence {s : State} {g : Gangway} {w : Option Waiter} {log : ℕ} (inv : HostInv s.host) :
    HostInv (Machine.endAbsence g w log s).host := by
  unfold Machine.endAbsence
  extract_lets info whole s1 v s2 s3
  have hs1 : HostInv s1.host := .startImage inv
  have hs2 : HostInv s2.host := .clearBusy (.of_eq hs1 rfl rfl rfl rfl)
  have hs3 : HostInv s3.host := .deliverLate (.deliverRaised (.ite hs2 (.preambleOnly hs2)))
  exact .nvmStart (.postGangway (.postFwState (.tellActivate hs3)))

theorem HostInv.execGangwayTake {s : State} {preambleOk copyOk : Bool} (inv : HostInv s.host) :
    NextInv (Machine.execGangwayTake preambleOk copyOk s) := by
  unfold Machine.execGangwayTake
  refine .next ?_
  split
  · exact .ite inv (.ite (.endAbsence inv) (.resetOpen inv))
  · exact inv

theorem HostInv.execSequencerReload {s : State} {seq : Fin 4} (inv : HostInv s.host) :
    NextInv (Machine.execSequencerReload seq s) :=
  HostInv.whenever inv (fun _ h => .fwMod h)

end Sys2Proof.Machine
end

section
/-! PROOF. The invariant of the host part through DFU downloads. -/

namespace Sys2Proof.Machine

theorem HostInv.dfuOnly {s : State} {p : ℕ} {act : State → State} (inv : HostInv s.host)
    (h : ∀ t : State, HostInv t.host → HostInv (act t).host) : HostInv (Machine.dfuOnly p act s).host :=
  .ite (h s inv) (.usbStall inv)

theorem HostInv.dfuError {s : State} {p status : ℕ} (inv : HostInv s.host) :
    HostInv (Machine.dfuError p status s).host :=
  .usbStall (.usbMod inv)

theorem HostInv.dfuBlock {s : State} {p k : ℕ} {data : List Byte} (inv : HostInv s.host) :
    HostInv (Machine.dfuBlock p k data s).host := by
  unfold Machine.dfuBlock
  refine .ite (.dfuError inv) (.ite (.dfuError inv) (.ite (.usbHold inv) ?_))
  split
  · exact .dfuError (.blockRefused inv)
  · exact .ite (.usbNak (.usbMod (.blockAccepted (.dropChunks inv))))
      (.usbAnswer (.usbMod (.blockAccepted (.dropChunks inv))))

theorem HostInv.dfuEnd {s : State} {p : ℕ} (inv : HostInv s.host) : HostInv (Machine.dfuEnd p s).host :=
  .ite (.usbAnswer (.usbMod (.startVerify inv))) (.dfuError inv)

theorem HostInv.dfuDnload {s : State} {p k : ℕ} {data : List Byte} (inv : HostInv s.host) :
    HostInv (Machine.dfuDnload p k data s).host :=
  .ite (.dfuError inv) (.ite (.dfuEnd inv) (.ite (.dfuError inv)
    (.ite (.dfuBlock inv) (.ite (.dfuBlock (.fwBegin inv)) (.dfuError inv)))))

theorem HostInv.execDfuDnload {s : State} {port : Fin 2} {block : BitVec 16} {data : List Byte}
    (inv : HostInv s.host) : NextInv (Machine.execDfuDnload port block data s) :=
  .next (.cpRequest inv (fun _ h => .dfuOnly h (fun _ h => .dfuDnload h)))

theorem HostInv.dfuRuntime {s : State} {p : ℕ} (inv : HostInv s.host) : HostInv (Machine.dfuRuntime p s).host :=
  .postUsbState (.usbMod inv)

theorem HostInv.dfuManifestReset {s : State} {p : ℕ} (inv : HostInv s.host) :
    HostInv (Machine.dfuManifestReset p s).host :=
  .ite (.pwrMod (.usbMod inv)) (.ite (.fwMod (.takeLog (.ite (.dfuRuntime inv) (.usbMod inv))))
    (.ite (.dfuRuntime inv) (.usbMod inv)))

theorem HostInv.execDfuManifestReset {s : State} {port : Fin 2} (inv : HostInv s.host) :
    NextInv (Machine.execDfuManifestReset port s) :=
  HostInv.whenever inv (fun _ h => .dfuManifestReset h)

theorem HostInv.dfuIdle {s : State} {p : ℕ} (inv : HostInv s.host) : HostInv (Machine.dfuIdle p s).host :=
  .usbMod inv

theorem HostInv.dfuAbort {s : State} {p : ℕ} (inv : HostInv s.host) : HostInv (Machine.dfuAbort p s).host :=
  .ite (.usbAnswer (.dfuIdle inv)) (.ite (.usbStall inv) (.usbAnswer (.dfuIdle (.fwAbort inv))))

theorem HostInv.execDfuAbort {s : State} {port : Fin 2} (inv : HostInv s.host) :
    NextInv (Machine.execDfuAbort port s) :=
  .next (.cpRequest inv (fun _ h => .dfuOnly h (fun _ h => .dfuAbort h)))

theorem HostInv.dfuClear {s : State} {p : ℕ} (inv : HostInv s.host) : HostInv (Machine.dfuClear p s).host :=
  .usbAnswer (.dfuIdle inv)

theorem HostInv.execDfuClrstatus {s : State} {port : Fin 2} (inv : HostInv s.host) :
    NextInv (Machine.execDfuClrstatus port s) :=
  .next (.cpRequest inv (fun _ h => .dfuOnly h (fun _ h => .dfuClear h)))

theorem HostInv.usbServe {s : State} {p : ℕ} {h : UsbHeld} (inv : HostInv s.host) :
    HostInv (Machine.usbServe p h s).host := by
  unfold Machine.usbServe
  split
  · exact .setConfigurationDo inv
  · exact .setInterfaceDo inv
  · exact .frequencyDo inv
  · exact .featureDo inv
  · exact .usbClass inv
  · exact .dfuDetachDo inv
  · exact .dfuOnly inv (fun _ h => .dfuDnload h)
  · exact .dfuOnly inv (fun _ h => .dfuAbort h)
  · exact .dfuOnly inv (fun _ h => .dfuClear h)

theorem HostInv.serveUsb {s : State} {p : ℕ} (inv : HostInv s.host) : HostInv (Machine.serveUsb s p).host := by
  unfold Machine.serveUsb
  split
  · exact .usbServe (.usbSetup inv)
  · exact inv

end Sys2Proof.Machine
end

section
/-! PROOF. The invariant of the host part through the CP's turn. -/

namespace Sys2Proof.Machine

theorem HostInv.hostDispatch {s : State} {op : ℕ} {o : Issue} {p : List Byte} (inv : HostInv s.host) :
    NextInv (Machine.hostDispatch op o p s) := by
  unfold Machine.hostDispatch
  split
  · exact HostInv.execHello inv
  · exact HostInv.execBye inv
  · exact HostInv.execGetInfo inv
  · exact HostInv.execGetState inv
  · exact HostInv.execClaim inv
  · exact HostInv.execRelease inv
  · exact HostInv.execForceRelease inv
  · exact HostInv.execGetMoorings inv
  · exact HostInv.execSetSupervisor inv
  · exact HostInv.execIrqAssign inv
  · exact HostInv.execGetLogNumber inv
  · exact HostInv.execEcho inv
  · exact HostInv.execReset inv
  · exact HostInv.execEventRead inv
  · exact HostInv.execEventAck inv
  · exact HostInv.execEventSubscribe inv
  · exact HostInv.execEventStatus inv
  · exact HostInv.execEventFlush inv
  · exact HostInv.execChartInfo inv
  · exact HostInv.execOverlayActivate inv
  · exact HostInv.execOverlayDeactivate inv
  · exact HostInv.execOverlaySwitch inv
  · exact HostInv.execOverlayStatus inv
  · exact HostInv.execBindingSet inv
  · exact HostInv.execBindingList inv
  · exact HostInv.execSetVariant inv
  · exact HostInv.execChartWriteOpen inv
  · exact HostInv.execChartWriteData inv
  · exact HostInv.execChartWriteClose inv
  · exact HostInv.execChartSelect inv
  · exact HostInv.execChartRead inv
  · exact HostInv.execSetParam inv
  · exact HostInv.execSetParamBlock inv
  · exact HostInv.execGetParam inv
  · exact HostInv.execSetRampTime inv
  · exact HostInv.execBqWrite inv
  · exact HostInv.execBqSelect inv
  · exact HostInv.execBqRead inv
  · exact HostInv.execDelaySet inv
  · exact HostInv.execDelayRead inv
  · exact HostInv.execLimiterSet inv
  · exact HostInv.execLimiterRead inv
  · exact HostInv.execProtectSet inv
  · exact HostInv.execProtectRead inv
  · exact HostInv.execMeterRead inv
  · exact HostInv.execClipRead inv
  · exact HostInv.execEngineStatus inv
  · exact HostInv.execClockStatus inv
  · exact HostInv.execDomainStatus inv
  · exact HostInv.execDomainSetRef inv
  · exact HostInv.execDomainSetRate inv
  · exact HostInv.execPllDiscipline inv
  · exact HostInv.execAsrcStatus inv
  · exact HostInv.execConvoyStatus inv
  · exact HostInv.execConvoySetMode inv
  · exact HostInv.execSaiStatus inv
  · exact HostInv.execSaiSlotMask inv
  · exact HostInv.execSpdifRxStatus inv
  · exact HostInv.execSpdifCsRead inv
  · exact HostInv.execSpdifCsWrite inv
  · exact HostInv.execSpdifUserRead inv
  · exact HostInv.execSpdifUserWrite inv
  · exact HostInv.execSpdifValiditySet inv
  · exact HostInv.execUsbStatus inv
  · exact HostInv.execUsbConnect inv
  · exact HostInv.execUsbHidSend inv
  · exact HostInv.execUsbRemoteWake inv
  · exact HostInv.execUsbStreamStatus inv
  · exact HostInv.execNetStatus inv
  · exact HostInv.execNetCounters inv
  · exact HostInv.execNetMdio inv
  · exact HostInv.execGptpStatus inv
  · exact HostInv.execGptpSet inv
  · exact HostInv.execStreamStatus inv
  · exact HostInv.execStreamConnect inv
  · exact HostInv.execStreamDisconnect inv
  · exact HostInv.execCrfStatus inv
  · exact HostInv.execMsrpStatus inv
  · exact HostInv.execDiscRead inv
  · exact HostInv.execDiscStatus inv
  · exact HostInv.execCaptureStatus inv
  · exact HostInv.execPgaSet inv
  · exact HostInv.execDcbSet inv
  · exact HostInv.execDelayTrimSet inv
  · exact HostInv.execMicbiasSet inv
  · exact HostInv.execMicbiasStatus inv
  · exact HostInv.execRelayStatus inv
  · exact HostInv.execRelaySuspend inv
  · exact HostInv.execRelayStart inv
  · exact HostInv.execThresholdArm inv
  · exact HostInv.execThresholdDisarm inv
  · exact HostInv.execRelayCorrections inv
  · exact HostInv.execOutputStatus inv
  · exact HostInv.execOutputEnable inv
  · exact HostInv.execRestoreOutputs inv
  · exact HostInv.execSetAutoRestore inv
  · exact HostInv.execJackStatus inv
  · exact HostInv.execButtonWindowsSet inv
  · exact HostInv.execSpkFaultClear inv
  · exact HostInv.execJackReclassify inv
  · exact HostInv.execAuxStatus inv
  · exact HostInv.execAuxConfig inv
  · exact HostInv.execAuxEnable inv
  · exact HostInv.execAuxWrite inv
  · exact HostInv.execAuxTimerSet inv
  · exact HostInv.execAuxQueueConfig inv
  · exact HostInv.execAuxQueueWrite inv
  · exact HostInv.execAuxQueueControl inv
  · exact HostInv.execAuxReadbackSet inv
  · exact HostInv.execMeasStatus inv
  · exact HostInv.execMeasScanSet inv
  · exact HostInv.execMeasScanControl inv
  · exact HostInv.execMeasScanRead inv
  · exact HostInv.execMeasLatest inv
  · exact HostInv.execMeasInjSet inv
  · exact HostInv.execMeasInjControl inv
  · exact HostInv.execMeasInjRead inv
  · exact HostInv.execMeasCalibrate inv
  · exact HostInv.execMeasCalRead inv
  · exact HostInv.execPowerStatus inv
  · exact HostInv.execPowerStateSet inv
  · exact HostInv.execSpeedStatus inv
  · exact HostInv.execHullSummary inv
  · exact HostInv.execHullRead inv
  · exact HostInv.execHullPredict inv
  · exact HostInv.execHullSetHorizon inv
  · exact HostInv.execHullFlush inv
  · exact HostInv.execFwStatus inv
  · exact HostInv.execFwBegin inv
  · exact HostInv.execFwWriteData inv
  · exact HostInv.execFwVerify inv
  · exact HostInv.execFwActivate inv
  · exact HostInv.execFwConfirm inv
  · exact HostInv.execFwAbort inv
  · exact HostInv.execSettingsStatus inv
  · exact HostInv.execSettingsSave inv
  · exact HostInv.execSettingsDiscardOld inv
  · exact HostInv.execSettingsErase inv
  · exact HostInv.execSetAutoConfirm inv
  · exact HostInv.execKeyStatus inv
  · exact HostInv.execChartKeyProgram inv
  · exact inv

theorem HostInv.takeHeld {s : State} {n : ℕ} {h : Held} (inv : HostInv s.host) :
    HostInv (Machine.takeHeld n h s).host :=
  (inv.ctxMod_quiet n (fun c => { c with held := c.held.drop 1, replies := if n = 4 then [] else c.replies })
    (fun _ => rfl) (fun _ => rfl)).of_eq rfl rfl rfl rfl

theorem HostInv.runHeld {s : State} {n : ℕ} {h : Held} (inv : HostInv s.host) :
    NextInv (Machine.runHeld n h s) := by
  have hd := HostInv.hostDispatch (op := h.opcode) (o := { ctx := ctxOf n, tag := h.tag, v1 := h.v1 })
    (p := h.payload)
    (HostInv.takeHeld (n := n) (h := h) inv)
  unfold Machine.runHeld
  split
  · exact .next (.flushReplies (.replied (.takeHeld inv)))
  · split
    · rename_i t ht
      rw [ht] at hd
      exact .next (.flushReplies hd)
    · rename_i ht
      rw [ht] at hd
      exact hd.elim
    · rename_i ht
      rw [ht] at hd
      exact hd.elim

theorem HostInv.execCommandTake {s : State} (inv : HostInv s.host) : NextInv (Machine.execCommandTake s) := by
  unfold Machine.execCommandTake
  split
  · exact .next (.serveUsb (.serveUsb inv))
  · split
    · exact .next (.serveNet inv)
    · split
      · exact inv
      · split
        · exact inv
        · exact HostInv.runHeld inv

end Sys2Proof.Machine
end

section
/-! PROOF. The invariant of the host part through every command. -/

namespace Sys2Proof.Machine

theorem HostInv.exec {s : State} {i : Instr} (inv : HostInv s.host) : NextInv (Machine.exec i s) := by
  unfold Machine.exec
  split
  · exact HostInv.execHello inv
  · exact HostInv.execBye inv
  · exact HostInv.execGetInfo inv
  · exact HostInv.execGetState inv
  · exact HostInv.execClaim inv
  · exact HostInv.execRelease inv
  · exact HostInv.execForceRelease inv
  · exact HostInv.execGetMoorings inv
  · exact HostInv.execSetSupervisor inv
  · exact HostInv.execIrqAssign inv
  · exact HostInv.execGetLogNumber inv
  · exact HostInv.execEcho inv
  · exact HostInv.execReset inv
  · exact HostInv.execEventRead inv
  · exact HostInv.execEventAck inv
  · exact HostInv.execEventSubscribe inv
  · exact HostInv.execEventStatus inv
  · exact HostInv.execEventFlush inv
  · exact HostInv.execChartInfo inv
  · exact HostInv.execOverlayActivate inv
  · exact HostInv.execOverlayDeactivate inv
  · exact HostInv.execOverlaySwitch inv
  · exact HostInv.execOverlayStatus inv
  · exact HostInv.execBindingSet inv
  · exact HostInv.execBindingList inv
  · exact HostInv.execSetVariant inv
  · exact HostInv.execChartWriteOpen inv
  · exact HostInv.execChartWriteData inv
  · exact HostInv.execChartWriteClose inv
  · exact HostInv.execChartSelect inv
  · exact HostInv.execChartRead inv
  · exact HostInv.execSetParam inv
  · exact HostInv.execSetParamBlock inv
  · exact HostInv.execGetParam inv
  · exact HostInv.execSetRampTime inv
  · exact HostInv.execBqWrite inv
  · exact HostInv.execBqSelect inv
  · exact HostInv.execBqRead inv
  · exact HostInv.execDelaySet inv
  · exact HostInv.execDelayRead inv
  · exact HostInv.execLimiterSet inv
  · exact HostInv.execLimiterRead inv
  · exact HostInv.execProtectSet inv
  · exact HostInv.execProtectRead inv
  · exact HostInv.execMeterRead inv
  · exact HostInv.execClipRead inv
  · exact HostInv.execEngineStatus inv
  · exact HostInv.execClockStatus inv
  · exact HostInv.execDomainStatus inv
  · exact HostInv.execDomainSetRef inv
  · exact HostInv.execDomainSetRate inv
  · exact HostInv.execPllDiscipline inv
  · exact HostInv.execAsrcStatus inv
  · exact HostInv.execConvoyStatus inv
  · exact HostInv.execConvoySetMode inv
  · exact HostInv.execSaiStatus inv
  · exact HostInv.execSaiSlotMask inv
  · exact HostInv.execSpdifRxStatus inv
  · exact HostInv.execSpdifCsRead inv
  · exact HostInv.execSpdifCsWrite inv
  · exact HostInv.execSpdifUserRead inv
  · exact HostInv.execSpdifUserWrite inv
  · exact HostInv.execSpdifValiditySet inv
  · exact HostInv.execUsbStatus inv
  · exact HostInv.execUsbConnect inv
  · exact HostInv.execUsbHidSend inv
  · exact HostInv.execUsbRemoteWake inv
  · exact HostInv.execUsbStreamStatus inv
  · exact HostInv.execNetStatus inv
  · exact HostInv.execNetCounters inv
  · exact HostInv.execNetMdio inv
  · exact HostInv.execGptpStatus inv
  · exact HostInv.execGptpSet inv
  · exact HostInv.execStreamStatus inv
  · exact HostInv.execStreamConnect inv
  · exact HostInv.execStreamDisconnect inv
  · exact HostInv.execCrfStatus inv
  · exact HostInv.execMsrpStatus inv
  · exact HostInv.execDiscRead inv
  · exact HostInv.execDiscStatus inv
  · exact HostInv.execCaptureStatus inv
  · exact HostInv.execPgaSet inv
  · exact HostInv.execDcbSet inv
  · exact HostInv.execDelayTrimSet inv
  · exact HostInv.execMicbiasSet inv
  · exact HostInv.execMicbiasStatus inv
  · exact HostInv.execRelayStatus inv
  · exact HostInv.execRelaySuspend inv
  · exact HostInv.execRelayStart inv
  · exact HostInv.execThresholdArm inv
  · exact HostInv.execThresholdDisarm inv
  · exact HostInv.execRelayCorrections inv
  · exact HostInv.execOutputStatus inv
  · exact HostInv.execOutputEnable inv
  · exact HostInv.execRestoreOutputs inv
  · exact HostInv.execSetAutoRestore inv
  · exact HostInv.execJackStatus inv
  · exact HostInv.execButtonWindowsSet inv
  · exact HostInv.execSpkFaultClear inv
  · exact HostInv.execJackReclassify inv
  · exact HostInv.execAuxStatus inv
  · exact HostInv.execAuxConfig inv
  · exact HostInv.execAuxEnable inv
  · exact HostInv.execAuxWrite inv
  · exact HostInv.execAuxTimerSet inv
  · exact HostInv.execAuxQueueConfig inv
  · exact HostInv.execAuxQueueWrite inv
  · exact HostInv.execAuxQueueControl inv
  · exact HostInv.execAuxReadbackSet inv
  · exact HostInv.execMeasStatus inv
  · exact HostInv.execMeasScanSet inv
  · exact HostInv.execMeasScanControl inv
  · exact HostInv.execMeasScanRead inv
  · exact HostInv.execMeasLatest inv
  · exact HostInv.execMeasInjSet inv
  · exact HostInv.execMeasInjControl inv
  · exact HostInv.execMeasInjRead inv
  · exact HostInv.execMeasCalibrate inv
  · exact HostInv.execMeasCalRead inv
  · exact HostInv.execPowerStatus inv
  · exact HostInv.execPowerStateSet inv
  · exact HostInv.execSpeedStatus inv
  · exact HostInv.execHullSummary inv
  · exact HostInv.execHullRead inv
  · exact HostInv.execHullPredict inv
  · exact HostInv.execHullSetHorizon inv
  · exact HostInv.execHullFlush inv
  · exact HostInv.execFwStatus inv
  · exact HostInv.execFwBegin inv
  · exact HostInv.execFwWriteData inv
  · exact HostInv.execFwVerify inv
  · exact HostInv.execFwActivate inv
  · exact HostInv.execFwConfirm inv
  · exact HostInv.execFwAbort inv
  · exact HostInv.execSettingsStatus inv
  · exact HostInv.execSettingsSave inv
  · exact HostInv.execSettingsDiscardOld inv
  · exact HostInv.execSettingsErase inv
  · exact HostInv.execSetAutoConfirm inv
  · exact HostInv.execKeyStatus inv
  · exact HostInv.execChartKeyProgram inv
  · exact HostInv.execPacketReceived inv
  · exact HostInv.execCommandTake inv
  · exact HostInv.execIrqReassert inv
  · exact HostInv.execH4LinkTimeout inv
  · exact HostInv.execBindingExecute inv
  · exact HostInv.execTwAddressMatch inv
  · exact HostInv.execTwPointerWrite inv
  · exact HostInv.execCommandDoorWrite inv
  · exact HostInv.execDoorCommit inv
  · exact HostInv.execErrorClear inv
  · exact HostInv.execIrqMaskWrite inv
  · exact HostInv.execEventAckRegisterWrite inv
  · exact HostInv.execRegisterWriteDiscarded inv
  · exact HostInv.execReplyConsume inv
  · exact HostInv.execEventDoorRefresh inv
  · exact HostInv.execTwAckSlotCondition inv
  · exact HostInv.execTwByteAbort inv
  · exact HostInv.execTwBusStall inv
  · exact HostInv.execTwWakeMatch inv
  · exact HostInv.execTwLoaderReady inv
  · exact HostInv.execFabricTick inv
  · exact HostInv.execNop inv
  · exact HostInv.execClr inv
  · exact HostInv.execMac inv
  · exact HostInv.execMacs inv
  · exact HostInv.execSto inv
  · exact HostInv.execBq inv
  · exact HostInv.execDlw inv
  · exact HostInv.execDlr inv
  · exact HostInv.execXf inv
  · exact HostInv.execMtr inv
  · exact HostInv.execLim inv
  · exact HostInv.execFen inv
  · exact HostInv.execFenRelease inv
  · exact HostInv.execEndWord inv
  · exact HostInv.execWordFetchFault inv
  · exact HostInv.execSourceWordLand inv
  · exact HostInv.execDynamicsSink inv
  · exact HostInv.execLoadStart inv
  · exact HostInv.execLoadComplete inv
  · exact HostInv.execParamRampEnd inv
  · exact HostInv.execOverlayGateRampEnd inv
  · exact HostInv.execChainRampEnd inv
  · exact HostInv.execBqCrossfadeEnd inv
  · exact HostInv.execDelayChangeEnd inv
  · exact HostInv.execClipIntervalEnd inv
  · exact HostInv.execProtectEstimate inv
  · exact HostInv.execProtectDegraded inv
  · exact HostInv.execProtectDegradedEnd inv
  · exact HostInv.execReferenceLoss inv
  · exact HostInv.execReferenceRestore inv
  · exact HostInv.execDomainRefValid inv
  · exact HostInv.execDomainLock inv
  · exact HostInv.execDomainUnlock inv
  · exact HostInv.execConvoyMuteRampEnd inv
  · exact HostInv.execMemberSampleArrival inv
  · exact HostInv.execMemberRead inv
  · exact HostInv.execMemberFadeEnd inv
  · exact HostInv.execResyncPoint inv
  · exact HostInv.execEgressMemberTake inv
  · exact HostInv.execPgaStep inv
  · exact HostInv.execMicbiasRampEnd inv
  · exact HostInv.execMicbiasSettleEnd inv
  · exact HostInv.execMicbiasOvercurrent inv
  · exact HostInv.execRelayRotationTrigger inv
  · exact HostInv.execRelayStepStart inv
  · exact HostInv.execRelayVrefcalEnd inv
  · exact HostInv.execRelaySettleEnd inv
  · exact HostInv.execRelayEstimateEnd inv
  · exact HostInv.execRelayVerifyEnd inv
  · exact HostInv.execRelayCrossfadeEnd inv
  · exact HostInv.execChainRestartEnd inv
  · exact HostInv.execPdmWakeEnd inv
  · exact HostInv.execTrimCrossfadeEnd inv
  · exact HostInv.execThresholdBlock inv
  · exact HostInv.execModulatorOverload inv
  · exact HostInv.execOutputGateRampEnd inv
  · exact HostInv.execServoEnd inv
  · exact HostInv.execOutputLoadRampEnd inv
  · exact HostInv.execSupplyWarning inv
  · exact HostInv.execShelterEnd inv
  · exact HostInv.execSpkOvercurrent inv
  · exact HostInv.execSpkRestartTimer inv
  · exact HostInv.execPvddUvlo inv
  · exact HostInv.execPvddRecover inv
  · exact HostInv.execClassdThermalCheck inv
  · exact HostInv.execHpOvercurrent inv
  · exact HostInv.execJdetAbsent inv
  · exact HostInv.execJdetPresent inv
  · exact HostInv.execJackDebounceEnd inv
  · exact HostInv.execClassifyTipEnd inv
  · exact HostInv.execClassifyCtiaEnd inv
  · exact HostInv.execClassifyDecide inv
  · exact HostInv.execJackRemovalConfirm inv
  · exact HostInv.execButtonScan inv
  · exact HostInv.execSaiMaskTransfer inv
  · exact HostInv.execSaiFrameStart inv
  · exact HostInv.execSaiClockLoss inv
  · exact HostInv.execSaiClockReturn inv
  · exact HostInv.execSpdifLockAcquire inv
  · exact HostInv.execSpdifLockLoss inv
  · exact HostInv.execSpdifAutoRate inv
  · exact HostInv.execSpdifSubframe inv
  · exact HostInv.execSpdifBlockEnd inv
  · exact HostInv.execSpdifNonpcmExit inv
  · exact HostInv.execSpdifTxBlockStart inv
  · exact HostInv.execVbusChange inv
  · exact HostInv.execUsbStandardRequest inv
  · exact HostInv.execSetConfiguration inv
  · exact HostInv.execSetInterface inv
  · exact HostInv.execUsbLinkPowerRequest inv
  · exact HostInv.execUsbSuspend inv
  · exact HostInv.execUsbResume inv
  · exact HostInv.execUsbBusReset inv
  · exact HostInv.execUsbRemoteWakeSignal inv
  · exact HostInv.execUacSamplingFreqSet inv
  · exact HostInv.execUacFeatureUnitSet inv
  · exact HostInv.execUsbFeedbackUpdate inv
  · exact HostInv.execUsbCaptureInterval inv
  · exact HostInv.execHidReportSend inv
  · exact HostInv.execUsbVendorTransfer inv
  · exact HostInv.execUsbReconnect inv
  · exact HostInv.execDfuDetach inv
  · exact HostInv.execDfuDnload inv
  · exact HostInv.execDfuManifestReset inv
  · exact HostInv.execDfuAbort inv
  · exact HostInv.execDfuClrstatus inv
  · exact HostInv.execLinkSyncAcquired inv
  · exact HostInv.execLinkUp inv
  · exact HostInv.execLinkDown inv
  · exact HostInv.execFrameReceived inv
  · exact HostInv.execPauseEnd inv
  · exact HostInv.execTxFrameStart inv
  · exact HostInv.execTxLateDiscard inv
  · exact HostInv.execMdioComplete inv
  · exact HostInv.execCounterHalfFoldEnd inv
  · exact HostInv.execGptpPdelayComplete inv
  · exact HostInv.execGptpSyncReceived inv
  · exact HostInv.execGptpAnnounceReceived inv
  · exact HostInv.execGptpSyncTimeout inv
  · exact HostInv.execGptpAnnounceTimeout inv
  · exact HostInv.execMsrpDeclarationReceived inv
  · exact HostInv.execTalkerBlock inv
  · exact HostInv.execCrfFrameSend inv
  · exact HostInv.execAcmpCommand inv
  · exact HostInv.execAdpAdvertise inv
  · exact HostInv.execAdpReceived inv
  · exact HostInv.execDiscEntryExpire inv
  · exact HostInv.execAemCommand inv
  · exact HostInv.execAecpVendorFragment inv
  · exact HostInv.execAuxTimerTick inv
  · exact HostInv.execAuxSlewStep inv
  · exact HostInv.execAuxQueuePaceTick inv
  · exact HostInv.execAuxRangeHoldEnd inv
  · exact HostInv.execVauxWarning inv
  · exact HostInv.execVauxReset inv
  · exact HostInv.execVauxRecover inv
  · exact HostInv.execPairedClockTick inv
  · exact HostInv.execSarConversionDone inv
  · exact HostInv.execSystemSequenceDue inv
  · exact HostInv.execHostScanTrigger inv
  · exact HostInv.execInjectedTrigger inv
  · exact HostInv.execMtrigEdge inv
  · exact HostInv.execSarCalibrationStart inv
  · exact HostInv.execSarCalibrationEnd inv
  · exact HostInv.execPlausibilityCheck inv
  · exact HostInv.execPowerOn inv
  · exact HostInv.execResetNLow inv
  · exact HostInv.execSupplyResetLevel inv
  · exact HostInv.execWatchdogExpire inv
  · exact HostInv.execResetRelease inv
  · exact HostInv.execReferenceSelect inv
  · exact HostInv.execImageCheckDone inv
  · exact HostInv.execChartSlotSelect inv
  · exact HostInv.execSelfTestEnd inv
  · exact HostInv.execBootComplete inv
  · exact HostInv.execPowerTransitionProceed inv
  · exact HostInv.execWakeSource inv
  · exact HostInv.execThermalWarning inv
  · exact HostInv.execThermalShutdown inv
  · exact HostInv.execThermalRecover inv
  · exact HostInv.execMarginInterval inv
  · exact HostInv.execReplan inv
  · exact HostInv.execHullHourly inv
  · exact HostInv.execHullPredictionRecompute inv
  · exact HostInv.execNvmSectorErase inv
  · exact HostInv.execFwBlockWriteDone inv
  · exact HostInv.execFwVerifyDone inv
  · exact HostInv.execFwActivateProceed inv
  · exact HostInv.execGangwayTake inv
  · exact HostInv.execSequencerReload inv
  · exact HostInv.execProbationHealthy inv
  · exact HostInv.execSettingsSaveDone inv
  · exact HostInv.execFabricPllRelock inv
  · exact HostInv.execNvmRowWriteDone inv
  · exact HostInv.execMeasurementTrackerLock inv
  · exact HostInv.execStreamReceiveTimeout inv
  · exact HostInv.execMrpLeaveTimerExpire inv
  · exact HostInv.execDfuDetachTimeout inv
  · exact HostInv.execWatchdogCounterClear inv

end Sys2Proof.Machine
end

section
/-! PROOF. The invariant of the host part through a step. -/

namespace Sys2Proof.Machine

theorem HostInv.step {s : State} (inv : HostInv s.host) : NextInv (Machine.step s) := by
  unfold Machine.step
  split
  · exact inv
  · exact HostInv.exec inv

end Sys2Proof.Machine
end

section
/-! PROOF. Every step keeps the invariant of the host part. -/

namespace Sys2Proof
open Sys2Proof.Machine

/-- Settles O6: every command's effect is made of operations that each keep the invariant. -/
theorem hostInvariantKept : Obligations.HostInvariantKept := by
  intro s t inv h
  have hk : NextInv (Machine.step s) := HostInv.step inv
  rw [h] at hk
  exact hk

end Sys2Proof
end

section
/-! PROOF. The two-wire ports (chapter 3): the state operations of a port, and what its rows do. -/

namespace Sys2Proof.Machine

@[simp] theorem twGet_twSet (s : State) (p : Fin 2) (t : TwPort) : twGet (twSet s p t) p = t := by
  unfold twGet twSet
  split <;> rfl

@[simp] theorem twSet_twSet (s : State) (p : Fin 2) (t u : TwPort) : twSet (twSet s p t) p u = twSet s p u := by
  unfold twSet
  split <;> rfl

@[simp] theorem twSet_pwr (s : State) (p : Fin 2) (t : TwPort) : (twSet s p t).pwr = s.pwr := by
  unfold twSet
  split <;> rfl

@[simp] theorem twSet_host (s : State) (p : Fin 2) (t : TwPort) : (twSet s p t).host = s.host := by
  unfold twSet
  split <;> rfl

theorem onlyHost_twSet (s : State) (p : Fin 2) (t : TwPort) : OnlyHost s (twSet s p t) := by
  unfold twSet
  split <;> rfl

theorem twGet_of_rest {s t : State} (p : Fin 2) (h : rest t = rest s) : twGet t p = twGet s p := by
  rw [rest_eq h]
  rfl

/-- A START or STOP ends the port's transaction and refreshes its event door, and touches nothing else. -/
theorem twCondition_eq (s : State) (p : Fin 2) :
    twCondition s p = twSet s p { endTxn (twGet s p) with eventDoor := (ctxGet s p.val).queue.take 16 } := by
  simp [twCondition, refreshDoor, twMod, ctxGet]

/-- What a data byte does where the write transaction stands in its register and within its page (R49, R51). -/
theorem twData_of_window {port : Fin 2} {lo hi : Nat} {s : State} (act : TwPort → State → State)
    (h : WindowWrite port lo hi s) : twData port lo hi act s = act (twGet s port) s := by
  obtain ⟨hdev, htxn, hptr, hlo, hhi, hend, hpage⟩ := h
  have hserves : twServes s = true := by simpa [twServes] using hdev
  have hwriting : twWriting (twGet s port) = true := by simp [twWriting, htxn, hptr]
  have hin : twPastPage (twGet s port) = false := by
    rcases hpage with hf | hm
    · simp [twPastPage, hend, hf]
    · simp [twPastPage, hend, twAt, hm]
  simp [twData, hserves, hwriting, hin, twAt, Nat.not_lt.mpr hlo, Nat.not_lt.mpr hhi]

/-- A window with one address: the pointer stands at it. -/
theorem WindowWrite.pointer_eq {port : Fin 2} {a : Nat} {s : State} (h : WindowWrite port a a s) :
    (twGet s port).pointer.toNat = a := by
  obtain ⟨-, -, -, hlo, hhi, -, -⟩ := h
  omega

theorem WindowWrite.widen {port : Fin 2} {lo hi lo' hi' : Nat} {s : State} (h : WindowWrite port lo hi s)
    (hlo : lo' ≤ lo) (hhi : hi ≤ hi') : WindowWrite port lo' hi' s := by
  obtain ⟨hdev, htxn, hptr, h1, h2, hrest⟩ := h
  exact ⟨hdev, htxn, hptr, hlo.trans h1, h2.trans hhi, hrest⟩

/-- One byte of a read changes its port alone. -/
theorem twReadByte_eq (s : State) (p : Fin 2) : twReadByte p s = twSet s p (twGet (twReadByte p s) p) := by
  simp [twReadByte, twMod]

/-- What one byte of a read does: the pointer advances, one byte is appended, the transaction stays. -/
theorem twReadByte_spec (s : State) (p : Fin 2) :
    (twGet (twReadByte p s) p).pointer = (twGet s p).pointer + 1 ∧ (twGet (twReadByte p s) p).txn = (twGet s p).txn
    ∧ (twGet (twReadByte p s) p).readBytes.length = (twGet s p).readBytes.length + 1 := by
  simp [twReadByte, twMod]

theorem twReadBytes_spec (p : Fin 2) (n : Nat) (s : State) :
    (twGet (twReadBytes p n s) p).readBytes.length = (twGet s p).readBytes.length + n
    ∧ (twGet (twReadBytes p n s) p).txn = (twGet s p).txn := by
  induction n generalizing s with
  | zero => exact ⟨rfl, rfl⟩
  | succ n ih =>
    obtain ⟨hlen, htxn⟩ := ih (twReadByte p s)
    obtain ⟨-, htxn1, hlen1⟩ := twReadByte_spec s p
    exact ⟨by rw [twReadBytes, hlen, hlen1]; omega, by rw [twReadBytes, htxn, htxn1]⟩

/-- Where its condition holds, a step that waits for it acts. -/
theorem whenever_true {cond : State → Bool} {act : State → State} {s : State} (h : cond s = true) :
    whenever cond act s = .next (act s) := by
  simp [whenever, h]

end Sys2Proof.Machine

namespace Sys2Proof
open Sys2Proof.Machine

/-- Settles O17: the address byte and the pointer bytes, by whether the port answers and the address is its own. -/
theorem twoWireTransactionOpens : Obligations.TwoWireTransactionOpens := by
  intro port a hi lo read s
  refine ⟨?own, ?other, ?silent, ?pointer⟩
  case own =>
    rintro hdev hpow rfl
    refine ⟨_, rfl, ?_⟩
    rw [if_neg (by simp [hdev, hpow])]
    simp [twMod, twCondition_eq, endTxn]
  case other =>
    intro hdev hpow hne
    refine ⟨_, rfl, ?_⟩
    rw [if_neg (by simp [hdev, hpow])]
    simp [twMod, twCondition_eq, endTxn, Ne.symm hne]
  case silent =>
    intro hoff
    refine ⟨_, rfl, ?_⟩
    rw [if_pos hoff]
    simp [twMod, endTxn]
  case pointer =>
    intro hdev htxn hptr
    show execTwPointerWrite port hi lo s = _
    exact whenever_true (by simp [twServes, hdev, htxn, hptr])

/-- Settles O18: each register of the window, through `twData_of_window`. -/
theorem twoWireWritesTakeEffect : Obligations.TwoWireWritesTakeEffect := by
  intro port b s
  refine ⟨?door, ?doorBusy, ?commit, ?commitRefused, ?commitOther, ?errorKept, ?errorCleared, ?maskStaged, ?maskWhole,
    ?ack, ?ackBusy, ?ackOther, ?discarded⟩
  case door =>
    intro h hbusy
    show Host.Outcome.next (twData ..) = _
    rw [twData_of_window _ h, hbusy]
    rfl
  case doorBusy =>
    intro h hbusy
    show Host.Outcome.next (twData ..) = _
    rw [twData_of_window _ h, hbusy]
    rfl
  case commit =>
    rintro h hbusy hvalid rfl
    show Host.Outcome.next (twData ..) = _
    rw [twData_of_window _ (h.widen (Nat.le_refl _) (by decide)), hbusy, hvalid]
    rw [if_pos (show twAt _ = 0x0008 from h.pointer_eq)]
    simp only [Bool.or_false, Bool.false_eq_true, if_false, if_true, commitDoor, twMod, twGet_twSet, twSet_twSet]
    rfl
  case commitRefused =>
    intro h hheld
    show Host.Outcome.next (twData ..) = _
    rw [twData_of_window _ (h.widen (Nat.le_refl _) (by decide))]
    simp only [twAt, h.pointer_eq, if_true, Bool.or_eq_true]
    rw [if_pos hheld]
    rfl
  case commitOther =>
    intro h hbusy hvalid hother
    show Host.Outcome.next (twData ..) = _
    rw [twData_of_window _ h, hbusy, hvalid]
    rcases hother with hb | ha
    · simp only [hb, Bool.or_false, Bool.false_eq_true, if_false, ite_self]
      rfl
    · simp only [twAt, ha, if_false]
      rfl
  case errorKept =>
    intro h hb
    have hno : ¬ (twAt (twGet s port) = 0x0004 ∧ b.getLsbD 4 = true) := by
      rintro ⟨ha, h4⟩
      rcases hb with hb | hb
      · exact absurd h4 (by rw [hb]; exact Bool.false_ne_true)
      · exact hb ha
    show Host.Outcome.next (twData ..) = _
    rw [twData_of_window _ h, if_neg hno]
    rfl
  case errorCleared =>
    intro h hb
    show Host.Outcome.next (twData ..) = _
    rw [twData_of_window _ (h.widen (Nat.le_refl _) (by decide)), if_pos ⟨h.pointer_eq, hb⟩]
    rfl
  case maskStaged =>
    intro h
    have hne : twAt (twGet s port) ≠ 0x000F := by
      obtain ⟨-, -, -, -, hhi, -, -⟩ := h
      exact Nat.ne_of_lt (Nat.lt_succ_of_le hhi)
    show Host.Outcome.next (twData ..) = _
    rw [twData_of_window _ (h.widen (Nat.le_refl _) (by decide)), if_neg hne]
    rfl
  case maskWhole =>
    intro h
    show Host.Outcome.next (twData ..) = _
    rw [twData_of_window _ (h.widen (by decide) (Nat.le_refl _)), if_pos (show twAt _ = 0x000F from h.pointer_eq)]
    rfl
  case ack =>
    intro h hbusy inv
    refine ⟨ackEvents port.val (min b.toNat 64) (twMod s port twAccept), ?_, ?_, ?_, ?_⟩
    · show Host.Outcome.next (twData ..) = _
      rw [twData_of_window _ (h.widen (Nat.le_refl _) (by decide)), if_pos (show twAt _ = 0x0014 from h.pointer_eq), hbusy]
      rfl
    · rw [ctxGet_ackEvents (by simpa using inv.ctxsWf)]
      simp [ctxGet]
    · rw [twGet_of_rest port (ackEvents_frame ..).1, twMod, twGet_twSet]
      rfl
    · exact (onlyHost_twSet s port _).trans (onlyHost_of_rest (ackEvents_frame ..).1)
  case ackBusy =>
    intro h hbusy
    show Host.Outcome.next (twData ..) = _
    rw [twData_of_window _ (h.widen (Nat.le_refl _) (by decide)), if_pos (show twAt _ = 0x0014 from h.pointer_eq), hbusy]
    rfl
  case ackOther =>
    intro h
    have hne : twAt (twGet s port) ≠ 0x0014 := by
      obtain ⟨-, -, -, hlo, -, -, -⟩ := h
      exact Nat.ne_of_gt hlo
    show Host.Outcome.next (twData ..) = _
    rw [twData_of_window _ (h.widen (by decide) (Nat.le_refl _)), if_neg hne]
    rfl
  case discarded =>
    intro h hd
    show Host.Outcome.next (if twDiscards (twAt (twGet s port)) then _ else s) = _
    rw [if_pos (show twDiscards (twAt (twGet s port)) = true from hd), twData_of_window _ h]
    rfl

/-- Settles O19: the bytes of a read, and what ends a transaction. -/
theorem twoWireReadsAndEnds : Obligations.TwoWireReadsAndEnds := by
  intro port start s
  refine ⟨?byte, ?bytes, ?refresh, ?ackSlot, ?abort, ?stall, ?ready⟩
  case byte =>
    intro hdev htxn
    obtain ⟨hptr, htxn1, -⟩ := twReadByte_spec s port
    refine ⟨twReadByte port s, ?_, hptr, htxn1.trans htxn, ?_, ?_, twReadByte_eq s port⟩
    · show execReplyConsume port 1 false s = _
      exact whenever_true (by simp [twServes, hdev, htxn])
    · intro r hr hvalid
      simp [twReadByte, twMod, twReplyBytes, hr, hvalid, twAt]
    · intro hlo hhi
      have h1 : ¬ (twGet s port).pointer.toNat < 0x0018 := by omega
      have h2 : ¬ (twGet s port).pointer.toNat ≤ 0x140F := by omega
      have h3 : ¬ (twGet s port).pointer.toNat ≤ 0x240F := by omega
      simp [twReadByte, twMod, twByte, twAt, h1, h2, h3, hlo, hhi]
  case bytes =>
    intro n nak hdev htxn
    obtain ⟨hlen, htxn1⟩ := twReadBytes_spec port n s
    refine ⟨twReadEnds port (nak && decide (0 < n)) (twReadBytes port n s), ?_, ?_, ?_⟩
    · show execReplyConsume port n nak s = _
      exact whenever_true (by simp [twServes, hdev, htxn])
    · unfold twReadEnds
      split
      · simpa [twMod] using hlen
      · exact hlen
    · unfold twReadEnds
      simp only [Bool.and_eq_true, decide_eq_true_eq]
      split
      · simp [twMod]
      · exact htxn1.trans htxn
  case refresh =>
    intro hpow hdev
    refine ⟨twCondition s port, ?_, ?_⟩
    · show execEventDoorRefresh port start s = _
      exact whenever_true (by simp [hdev, hpow])
    · simp [twCondition_eq, endTxn]
  case ackSlot =>
    intro hdev htxn
    obtain ⟨hptr, -, hlen⟩ := twReadByte_spec s port
    refine ⟨twCondition (twReadByte port s) port, ?_, ?_⟩
    · show execTwAckSlotCondition port start s = _
      exact whenever_true (by simp [twServes, hdev, htxn])
    · rw [twCondition_eq, twGet_twSet]
      refine ⟨rfl, hptr, hlen, ?_⟩
      rw [twReadByte_eq s port, twSet_twSet, twGet_twSet]
  case abort =>
    intro hdev htxn
    refine ⟨twCondition (twMod s port (twError 1)) port, ?_, ?_⟩
    · show execTwByteAbort port start s = _
      exact whenever_true (by simpa [twServes, hdev] using htxn)
    · simp [twCondition_eq, twMod, endTxn, twError]
  case stall =>
    intro hdev htxn
    refine ⟨twMod s port fun t => endTxn (twError 2 t), ?_, ?_⟩
    · show execTwBusStall port s = _
      exact whenever_true (by simp [twServes, hdev, htxn])
    · simp [twMod, endTxn, twError]
  case ready =>
    intro hdev
    show execTwLoaderReady s = _
    exact whenever_true (by simp [hdev])

end Sys2Proof
end

section
/-! PROOF. What a command that is accepted leaves, field by field, and the operations on overlays, gates and routes. -/

namespace Sys2Proof.Machine

/-- Only the host part, the reply doors and the draw counter differ: every other field is the same. -/
theorem onlyHost_iff {s t : State} : OnlyHost s t ↔
    t.cs = s.cs ∧ t.eng = s.eng ∧ t.par = s.par ∧ t.clk = s.clk ∧ t.cap = s.cap ∧ t.out = s.out ∧ t.ser = s.ser
    ∧ t.usbA = s.usbA ∧ t.usbB = s.usbB ∧ t.net = s.net ∧ t.aux = s.aux ∧ t.meas = s.meas ∧ t.pwr = s.pwr
    ∧ t.hull = s.hull ∧ t.fw = s.fw ∧ t.pending = s.pending := by
  cases s
  cases t
  simp [OnlyHost]

/-- The fields that `OnlyHost` keeps, as rewriting rules. -/
theorem OnlyHost.fields {s t : State} (h : OnlyHost s t) :
    t.cs = s.cs ∧ t.eng = s.eng ∧ t.par = s.par ∧ t.clk = s.clk ∧ t.cap = s.cap ∧ t.out = s.out ∧ t.ser = s.ser
    ∧ t.usbA = s.usbA ∧ t.usbB = s.usbB ∧ t.net = s.net ∧ t.aux = s.aux ∧ t.meas = s.meas ∧ t.pwr = s.pwr
    ∧ t.hull = s.hull ∧ t.fw = s.fw ∧ t.pending = s.pending :=
  onlyHost_iff.mp h

/-- A command that is accepted and leaves the log number alone is answered with its status and result, and the reply
changes nothing of what its effect leaves but the host part. -/
theorem hostCommand_leaves {op : Nat} {o : Issue} {p : List Byte} {check : State → Option Nat} {s : State}
    (h : Accepted op o p check s) {act : Nat → State → Done} {u : State} {status : Nat} {result : List Byte}
    (hd : act s.host.log (takeLog s) = { s := u, status := status, result := result })
    (hlog : u.host.log = (takeLog s).host.log) :
    ∃ t, hostCommand op o p check act s = .next t ∧ Replied op o s status result t ∧ OnlyHost u t := by
  refine ⟨_, hostCommand_accepted h act, ⟨?_, ?_⟩, ?_⟩
  · rw [lastReply_placeReply, hd]
  · rw [hd]
    simpa using hlog
  · rw [hd]
    exact onlyHost_placeReply _ _ _

@[simp] theorem post_log (code inst log data : Nat) (cn : Concern) (s : State) :
    (post code inst log data cn s).host.log = s.host.log := by
  simp [post]

@[simp] theorem completeAll_others (ws : List Waiter) (st : Nat) (s : State) :
    (completeAll ws st s).tw0 = s.tw0 ∧ (completeAll ws st s).tw1 = s.tw1 ∧ (completeAll ws st s).cs = s.cs
    ∧ (completeAll ws st s).eng = s.eng ∧ (completeAll ws st s).par = s.par ∧ (completeAll ws st s).clk = s.clk
    ∧ (completeAll ws st s).cap = s.cap ∧ (completeAll ws st s).out = s.out ∧ (completeAll ws st s).ser = s.ser
    ∧ (completeAll ws st s).usbA = s.usbA ∧ (completeAll ws st s).usbB = s.usbB
    ∧ (completeAll ws st s).net = s.net ∧ (completeAll ws st s).aux = s.aux
    ∧ (completeAll ws st s).meas = s.meas ∧ (completeAll ws st s).pwr = s.pwr
    ∧ (completeAll ws st s).hull = s.hull ∧ (completeAll ws st s).fw = s.fw
    ∧ (completeAll ws st s).free = s.free ∧ (completeAll ws st s).pending = s.pending := by
  induction ws generalizing s with
  | nil => simp [completeAll]
  | cons w ws ih => simpa [completeAll] using ih (complete w st s)

@[simp] theorem completeAll_log (ws : List Waiter) (st : Nat) (s : State) :
    (completeAll ws st s).host.log = s.host.log := by
  induction ws generalizing s with
  | nil => rfl
  | cons w ws ih => exact (ih (complete w st s)).trans (by simp [complete])

@[simp] theorem gateTo_others (n : Nat) (up cut : Bool) (ramp : Nat) (s : State) :
    (gateTo n up cut ramp s).host = s.host ∧ (gateTo n up cut ramp s).tw0 = s.tw0
    ∧ (gateTo n up cut ramp s).tw1 = s.tw1 ∧ (gateTo n up cut ramp s).cs = s.cs
    ∧ (gateTo n up cut ramp s).eng = s.eng ∧ (gateTo n up cut ramp s).clk = s.clk
    ∧ (gateTo n up cut ramp s).cap = s.cap ∧ (gateTo n up cut ramp s).out = s.out
    ∧ (gateTo n up cut ramp s).ser = s.ser ∧ (gateTo n up cut ramp s).usbA = s.usbA
    ∧ (gateTo n up cut ramp s).usbB = s.usbB ∧ (gateTo n up cut ramp s).net = s.net
    ∧ (gateTo n up cut ramp s).aux = s.aux ∧ (gateTo n up cut ramp s).meas = s.meas
    ∧ (gateTo n up cut ramp s).pwr = s.pwr ∧ (gateTo n up cut ramp s).hull = s.hull
    ∧ (gateTo n up cut ramp s).fw = s.fw ∧ (gateTo n up cut ramp s).free = s.free
    ∧ (gateTo n up cut ramp s).pending = s.pending := by
  unfold gateTo
  split
  · simp [commitSlot]
  · simp

@[simp] theorem askRoutes_others (up : Bool) (ks : List Nat) (s : State) :
    (askRoutes up ks s).host = s.host ∧ (askRoutes up ks s).tw0 = s.tw0 ∧ (askRoutes up ks s).tw1 = s.tw1
    ∧ (askRoutes up ks s).cs = s.cs ∧ (askRoutes up ks s).par = s.par ∧ (askRoutes up ks s).clk = s.clk
    ∧ (askRoutes up ks s).cap = s.cap ∧ (askRoutes up ks s).out = s.out ∧ (askRoutes up ks s).ser = s.ser
    ∧ (askRoutes up ks s).usbA = s.usbA ∧ (askRoutes up ks s).usbB = s.usbB ∧ (askRoutes up ks s).net = s.net
    ∧ (askRoutes up ks s).aux = s.aux ∧ (askRoutes up ks s).meas = s.meas ∧ (askRoutes up ks s).pwr = s.pwr
    ∧ (askRoutes up ks s).hull = s.hull ∧ (askRoutes up ks s).fw = s.fw ∧ (askRoutes up ks s).free = s.free
    ∧ (askRoutes up ks s).pending = s.pending := by
  induction ks generalizing s with
  | nil => simp [askRoutes]
  | cons k ks ih => simpa [askRoutes] using ih (rampMod s k fun r => { r with pend := some up })

@[simp] theorem streamsRefused_others (ov st log : Nat) (s : State) :
    (streamsRefused ov st log s).tw0 = s.tw0 ∧ (streamsRefused ov st log s).tw1 = s.tw1
    ∧ (streamsRefused ov st log s).cs = s.cs ∧ (streamsRefused ov st log s).eng = s.eng
    ∧ (streamsRefused ov st log s).par = s.par ∧ (streamsRefused ov st log s).clk = s.clk
    ∧ (streamsRefused ov st log s).cap = s.cap ∧ (streamsRefused ov st log s).out = s.out
    ∧ (streamsRefused ov st log s).ser = s.ser ∧ (streamsRefused ov st log s).usbA = s.usbA
    ∧ (streamsRefused ov st log s).usbB = s.usbB ∧ (streamsRefused ov st log s).aux = s.aux
    ∧ (streamsRefused ov st log s).meas = s.meas ∧ (streamsRefused ov st log s).pwr = s.pwr
    ∧ (streamsRefused ov st log s).hull = s.hull ∧ (streamsRefused ov st log s).fw = s.fw
    ∧ (streamsRefused ov st log s).free = s.free ∧ (streamsRefused ov st log s).pending = s.pending := by
  unfold streamsRefused
  generalize List.range 64 = l
  induction l generalizing s with
  | nil => simp
  | cons n l ih =>
    rw [List.foldl_cons]
    dsimp only
    split
    · simpa using ih (completeAll _ st (post 0x0802 n log _ _ (streamMod s n _)))
    · exact ih s

@[simp] theorem streamsRefused_log (ov st log : Nat) (s : State) :
    (streamsRefused ov st log s).host.log = s.host.log := by
  unfold streamsRefused
  refine foldl_keeps (fun t : State => t.host.log) _ (fun t n => ?_) _ _
  dsimp only
  split
  · simp
  · rfl

end Sys2Proof.Machine
end

section
/-! PROOF. Overlays and their transitions: what an activation, a deactivation, a reversal and a switch leave. -/

namespace Sys2Proof.Machine

theorem ovGet_of_cs {s t : State} (h : t.cs = s.cs) (n : Nat) : ovGet t n = ovGet s n := by
  unfold ovGet
  rw [h]

/-- Entering a state changes the overlay's STATE and no other overlay. -/
theorem ovGet_enterOv {s : State} (w : tblWf Overlay.inactive s.cs.overlays = true) (n st m : Nat) :
    ovGet (enterOv n st s) m = if m = n then { ovGet s n with st := st } else ovGet s m := by
  rw [ovGet_of_cs (enterOv_cs n st s) m]
  split
  · next h => rw [h, ovGet_ovMod_same w]
  · next h => rw [ovGet_ovMod_other w h]

@[simp] theorem enterOv_log (n st : Nat) (s : State) : (enterOv n st s).host.log = s.host.log := by
  simp [enterOv, ovChanged]

theorem ovMod_overlaysWf {s : State} (w : tblWf Overlay.inactive s.cs.overlays = true) (n : Nat)
    (f : Overlay → Overlay) : tblWf Overlay.inactive (ovMod s n f).cs.overlays = true :=
  tmod_wf Overlay.inactive w n f

/-- An overlay is changed and then enters a state; the gate and its routes follow. -/
theorem ovGet_entered {s : State} (w : tblWf Overlay.inactive s.cs.overlays = true) (n st m : Nat)
    (f : Overlay → Overlay) :
    ovGet (enterOv n st (ovMod s n f)) m = if m = n then { f (ovGet s n) with st := st } else ovGet s m := by
  rw [ovGet_enterOv (ovMod_overlaysWf w n f)]
  split
  · rw [ovGet_ovMod_same w]
  · next h => rw [ovGet_ovMod_other w h]

/-- A reversal: the overlay enters the state with its new waiter, the others stay, and gates and routes follow. -/
theorem reverseOverlay_spec {s : State} (w : tblWf Overlay.inactive s.cs.overlays = true) (n st : Nat) (q : QueuedAct) :
    (ovGet (reverseOverlay n st q s) n).st = st ∧ (ovGet (reverseOverlay n st q s) n).waiters = optList q.waiter
    ∧ (∀ m, m ≠ n → ovGet (reverseOverlay n st q s) m = ovGet s m)
    ∧ (reverseOverlay n st q s).host.log = s.host.log := by
  have hget (m : Nat) : ovGet (reverseOverlay n st q s) m
      = if m = n then { ovGet s n with cut := q.cut, ramp := q.ramp, cause := q.cause, waiters := optList q.waiter, st := st }
        else ovGet s m := by
    have hcs : (reverseOverlay n st q s).cs = (enterOv n st (ovMod (completeAll (ovGet s n).waiters stConflict s) n
        (fun v => { v with cut := q.cut, ramp := q.ramp, cause := q.cause, waiters := optList q.waiter }))).cs := by
      simp [reverseOverlay]
    rw [ovGet_of_cs hcs, ovGet_entered (by simpa using w)]
    simp [ovGet]
  refine ⟨by simp [hget], by simp [hget], fun m hm => by simp [hget, hm], by simp [reverseOverlay]⟩

theorem startDeactivation_spec {s : State} (w : tblWf Overlay.inactive s.cs.overlays = true) (n : Nat) (q : QueuedAct) :
    (ovGet (startDeactivation n q s) n).st = 4 ∧ (ovGet (startDeactivation n q s) n).waiters = optList q.waiter
    ∧ (∀ m, m ≠ n → ovGet (startDeactivation n q s) m = ovGet s m) := by
  have hget (m : Nat) : ovGet (startDeactivation n q s) m
      = if m = n then { ovGet s n with cut := q.cut, ramp := q.ramp, cause := q.cause, waiters := optList q.waiter, st := 4 }
        else ovGet s m := by
    have hcs : (startDeactivation n q s).cs = (enterOv n 4 (ovMod s n
        (fun v => { v with cut := q.cut, ramp := q.ramp, cause := q.cause, waiters := optList q.waiter }))).cs := by
      simp [startDeactivation]
    rw [ovGet_of_cs hcs, ovGet_entered w]
  exact ⟨by simp [hget], by simp [hget], fun m hm => by simp [hget, hm]⟩

/-- Changes of overlays, gates and routes leave all else. -/
theorem reverseOverlay_onlyHost (n st : Nat) (q : QueuedAct) (s : State) :
    OnlyHost { s with cs := (reverseOverlay n st q s).cs, par := (reverseOverlay n st q s).par
                      eng := (reverseOverlay n st q s).eng } (reverseOverlay n st q s) := by
  rw [onlyHost_iff]
  simp [reverseOverlay, enterOv, ovChanged]

theorem startDeactivation_onlyHost (n : Nat) (q : QueuedAct) (s : State) :
    OnlyHost { s with cs := (startDeactivation n q s).cs, par := (startDeactivation n q s).par
                      eng := (startDeactivation n q s).eng } (startDeactivation n q s) := by
  rw [onlyHost_iff]
  simp [startDeactivation, enterOv, ovChanged]

/-- A load that is dropped is no more under way; the queue of loads, the overlays and the log number stay. -/
theorem dropLoad_keeps (s : State) :
    (dropLoad s).cs = { s.cs with load := none } ∧ (dropLoad s).host = s.host := by
  unfold dropLoad
  split
  · next h => exact ⟨by rw [← h], rfl⟩
  · next l _ =>
    have hkeep : ∀ (t : State) (o : Nat),
        ((if (outGet t o).after = 4 then askRamp o true (startTenths t o) 0 5 0 t else t).cs,
          (if (outGet t o).after = 4 then askRamp o true (startTenths t o) 0 5 0 t else t).host) = (t.cs, t.host) := by
      intro t o
      split <;> simp [askRamp]
    have h := foldl_keeps (fun t : State => (t.cs, t.host)) _ hkeep l.mutedOuts
      (askRoutes true l.muted { s with cs := { s.cs with load := none } })
    obtain ⟨hcs, hhost⟩ := Prod.mk.inj h
    dsimp only
    rw [hcs, hhost]
    simp

theorem abandonActivation_keeps (n : Nat) (s : State) :
    (∃ l, (abandonActivation n s).cs = { s.cs with
      load := l, loads := s.cs.loads.filter (fun w => !decide (w = LoadWhat.activate n)) })
    ∧ (abandonActivation n s).host = s.host := by
  obtain ⟨hcs, hhost⟩ := dropLoad_keeps s
  unfold abandonActivation
  split
  · split
    · exact ⟨⟨none, by dsimp only; rw [hcs]⟩, hhost⟩
    · exact ⟨⟨_, rfl⟩, rfl⟩
  · exact ⟨⟨_, rfl⟩, rfl⟩

@[simp] theorem usbDiscard_keeps (n : Nat) (s : State) :
    (usbDiscard n s).cs = s.cs ∧ (usbDiscard n s).host = s.host := by
  have hkeep : ∀ (p : Nat) (t : State) (i : Nat),
      ((if usbAlt t p i ≠ 0 ∧ usbOverlay t p i = n then usbStreamMod t p i (fun x => { x with discard := true }) else t).cs,
        (if usbAlt t p i ≠ 0 ∧ usbOverlay t p i = n then usbStreamMod t p i (fun x => { x with discard := true }) else t).host)
      = (t.cs, t.host) := by
    intro p t i
    split <;> simp
  have h := foldl_keeps (fun t : State => (t.cs, t.host)) _
    (fun t p => foldl_keeps (fun t : State => (t.cs, t.host)) _ (hkeep p) (List.range 4) t) [0, 1] s
  exact Prod.mk.inj h

end Sys2Proof.Machine

namespace Sys2Proof
open Sys2Proof.Machine

/-- Settles O20: the reads answer what their results say. -/
theorem chartReadsAnswer : Obligations.ChartReadsAnswer := by
  intro o p c s
  refine ⟨?info, ?length, ?overlays, ?bindings, ?read⟩
  case info =>
    intro h hslot hvalid
    refine ⟨readChart (chartSlot s (u8 p 0)).chartBytes,
      if slotInUse s (u8 p 0) then flag s.cs.reduced else openValue (takeLog s) 8,
      if slotInUse s (u8 p 0) then overlaysOn s else openValue (takeLog s) 9, ?_, rfl, ?_⟩
    · have hn : ¬ u8 p 0 = 0xFF := by omega
      have hheld : (chartSlot (takeLog s) (u8 p 0)).state = 0x3C := hvalid
      refine (hostCommand_accepted h (reads (chartInfoResult p))).trans ?_
      simp only [reads, okWith, chartInfoResult, if_neg hn, beq_eq_false_iff_ne.mpr hn, Bool.false_and, hheld,
        Bool.not_false, Bool.and_true, beq_self_eq_true, if_true, Bool.false_eq_true, if_false]
      rfl
    · intro huse
      simp [huse]
  case length =>
    intro h
    refine ⟨_, hostCommand_accepted h (reads (chartInfoResult p)), ?_⟩
    simp [reads, okWith, chartInfoResult, b1, b2, b4, b8, leN]
  case overlays => exact fun h => hostCommand_accepted h (reads overlayStatusResult)
  case bindings =>
    intro hc h
    refine (hostCommand_accepted h (reads (bindingListResult p))).trans ?_
    simp only [reads, okWith, bindingListResult, takeLog_others, hc]
    rfl
  case read => exact fun h => hostCommand_accepted h (reads (chartReadResult p))

end Sys2Proof
end

section
/-! PROOF. The overlay commands, by the state of their overlay (Table 4-10). -/

namespace Sys2Proof.Machine

/-- A pair of a status and a state as an outcome. -/
theorem doneOf_eq {r : Nat × State} {st : Nat} {u : State} (h : r = (st, u)) :
    doneOf r = { s := u, status := st, result := [] } := by
  rw [h]
  rfl

theorem or_eq_none {α : Type} {a b : Option α} (h : a.or b = none) : a = none ∧ b = none := by
  cases a with
  | none => exact ⟨rfl, h⟩
  | some x => exact absurd h (by simp)

/-- A switch that is not refused takes over from an ACTIVE overlay to an INACTIVE one (R77). -/
theorem switch_states {s : State} {a b : Nat} (h : switchRefusal s a b = none) :
    (ovGet s a).st = 3 ∧ (ovGet s b).st = 0 := by
  unfold switchRefusal at h
  split at h
  · exact absurd h (by simp)
  · have hst := firstRefusal_eq_none (or_eq_none h).1 _ (List.mem_cons_of_mem _ List.mem_cons_self)
    simp only [Bool.or_eq_false_iff, bne_eq_false_iff_eq] at hst
    exact ⟨hst.1.1.1, hst.1.1.2⟩

/-- Table 4-10, ACTIVATE of an INACTIVE overlay. -/
theorem activateOverlay_inactive {n : Nat} {q : QueuedAct} {s : State} (h : (ovGet s n).st = 0) :
    activateOverlay n q s = (stQueued, startActivation n q (optList q.waiter) s) := by
  simp only [activateOverlay, h]

theorem activateOverlay_active {n : Nat} {q : QueuedAct} {s : State} (h : (ovGet s n).st = 3) :
    activateOverlay n q s = (stOk, s) := by
  simp only [activateOverlay, h]

theorem activateOverlay_fadingOut {n : Nat} {q : QueuedAct} {s : State} (h : (ovGet s n).st = 4) :
    activateOverlay n q s = (stQueued, reverseOverlay n 2 q s) := by
  simp only [activateOverlay, h]

theorem activateOverlay_unloading {n : Nat} {q : QueuedAct} {s : State} (h : (ovGet s n).st = 5) :
    activateOverlay n q s = (stQueued, ovMod s n (fun v => { v with queued := v.queued ++ [q] })) := by
  simp only [activateOverlay, h]

theorem activateOverlay_joins {n : Nat} {q : QueuedAct} {s : State} (h : (ovGet s n).st = 1 ∨ (ovGet s n).st = 2) :
    activateOverlay n q s = (stQueued, ovMod s n (fun v => { v with waiters := v.waiters ++ optList q.waiter })) := by
  rcases h with h | h <;> simp only [activateOverlay, h]

theorem deactivateOverlay_inactive {n : Nat} {q : QueuedAct} {s : State} (h : (ovGet s n).st = 0) :
    deactivateOverlay n q s = (stOk, s) := by
  simp only [deactivateOverlay, h]

theorem deactivateOverlay_fadingIn {n : Nat} {q : QueuedAct} {s : State} (h : (ovGet s n).st = 2) :
    deactivateOverlay n q s = (stQueued, reverseOverlay n 4 q s) := by
  simp only [deactivateOverlay, h]

/-- A full activation asks for its load, and only its overlay changes (R75). -/
theorem startActivation_spec {s : State} (w : tblWf Overlay.inactive s.cs.overlays = true) (n : Nat) (q : QueuedAct)
    (ws : List Waiter) :
    (ovGet (startActivation n q ws s) n).st = 1 ∧ (ovGet (startActivation n q ws s) n).waiters = ws
    ∧ (∀ m, m ≠ n → ovGet (startActivation n q ws s) m = ovGet s m)
    ∧ (startActivation n q ws s).cs.loads = s.cs.loads ++ [.activate n]
    ∧ (startActivation n q ws s).host.log = s.host.log
    ∧ OnlyHost { s with cs := (startActivation n q ws s).cs } (startActivation n q ws s) := by
  have hget (m : Nat) : ovGet (startActivation n q ws s) m = ovGet (ovMod s n (fun v =>
    { v with st := 1, cut := q.cut, ramp := q.ramp, cause := q.cause, waiters := ws, queued := [] })) m := rfl
  refine ⟨?_, ?_, fun m hm => ?_, rfl, rfl, rfl⟩
  · rw [hget, ovGet_ovMod_same w]
  · rw [hget, ovGet_ovMod_same w]
  · rw [hget, ovGet_ovMod_other w hm]

/-- DEACTIVATE of a LOADING overlay: the activation is abandoned and the overlay INACTIVE. -/
def abandonedState (n : Nat) (q : QueuedAct) (s : State) : State :=
  usbDiscard n (enterOv n 0 (ovMod (giveUp n q.cause.log (ovGet s n).waiters (abandonActivation n s)) n
    (fun v => { v with cause := q.cause, waiters := [], queued := [] })))

theorem deactivateOverlay_loading {n : Nat} {q : QueuedAct} {s : State} (h : (ovGet s n).st = 1) :
    deactivateOverlay n q s = (stOk, abandonedState n q s) := by
  simp only [deactivateOverlay, h]
  rfl

theorem abandonedState_spec {s : State} (w : tblWf Overlay.inactive s.cs.overlays = true) (n : Nat) (q : QueuedAct) :
    (ovGet (abandonedState n q s) n).st = 0 ∧ (ovGet (abandonedState n q s) n).waiters = []
    ∧ (∀ m, m ≠ n → ovGet (abandonedState n q s) m = ovGet s m) ∧ .activate n ∉ (abandonedState n q s).cs.loads
    ∧ (abandonedState n q s).host.log = s.host.log := by
  obtain ⟨⟨l, habandon⟩, hhost⟩ := abandonActivation_keeps n s
  have hgiven : (giveUp n q.cause.log (ovGet s n).waiters (abandonActivation n s)).cs = (abandonActivation n s).cs := by
    simp [giveUp]
  have hcs : (abandonedState n q s).cs = (enterOv n 0 (ovMod (giveUp n q.cause.log (ovGet s n).waiters
      (abandonActivation n s)) n (fun v => { v with cause := q.cause, waiters := [], queued := [] }))).cs := by
    simp [abandonedState]
  have hbase (m : Nat) : ovGet (giveUp n q.cause.log (ovGet s n).waiters (abandonActivation n s)) m = ovGet s m := by
    rw [ovGet_of_cs hgiven, ovGet, habandon]
    rfl
  have hget (m : Nat) : ovGet (abandonedState n q s) m
      = if m = n then { ovGet s n with cause := q.cause, waiters := [], queued := [], st := 0 } else ovGet s m := by
    rw [ovGet_of_cs hcs, ovGet_entered (by rw [hgiven, habandon]; exact w), hbase, hbase]
  refine ⟨by simp [hget], by simp [hget], fun m hm => by simp [hget, hm], ?_, ?_⟩
  · rw [hcs, enterOv_cs]
    simp [ovMod, hgiven, habandon]
  · simp [abandonedState, giveUp, hhost]

/-- DEACTIVATE of a FADING_OUT or UNLOADING overlay: one more waiter, and what was queued is given up. -/
def joinedState (n : Nat) (q : QueuedAct) (s : State) : State :=
  giveUp n q.cause.log ((ovGet s n).queued.flatMap (fun a => optList a.waiter))
    (ovMod s n (fun v => { v with waiters := v.waiters ++ optList q.waiter, queued := [] }))

theorem deactivateOverlay_joins {n : Nat} {q : QueuedAct} {s : State} (h : (ovGet s n).st = 4 ∨ (ovGet s n).st = 5) :
    deactivateOverlay n q s = (stQueued, joinedState n q s) := by
  rcases h with h | h
  · simp only [deactivateOverlay, h]
    rfl
  · simp only [deactivateOverlay, h]
    rfl

theorem joinedState_spec {s : State} (w : tblWf Overlay.inactive s.cs.overlays = true) (n : Nat) (q : QueuedAct) :
    (ovGet (joinedState n q s) n).st = (ovGet s n).st
    ∧ (ovGet (joinedState n q s) n).waiters = (ovGet s n).waiters ++ optList q.waiter
    ∧ (ovGet (joinedState n q s) n).queued = []
    ∧ (∀ m, m ≠ n → ovGet (joinedState n q s) m = ovGet s m) ∧ (joinedState n q s).host.log = s.host.log
    ∧ OnlyHost { s with cs := (joinedState n q s).cs, net := (joinedState n q s).net } (joinedState n q s) := by
  have hget (m : Nat) : ovGet (joinedState n q s) m = ovGet (ovMod s n (fun v =>
      { v with waiters := v.waiters ++ optList q.waiter, queued := [] })) m := ovGet_of_cs (by simp [joinedState, giveUp]) m
  refine ⟨?_, ?_, ?_, fun m hm => ?_, by simp [joinedState, giveUp], ?_⟩
  · rw [hget, ovGet_ovMod_same w]
  · rw [hget, ovGet_ovMod_same w]
  · rw [hget, ovGet_ovMod_same w]
  · rw [hget, ovGet_ovMod_other w hm]
  · rw [onlyHost_iff]
    simp [joinedState, giveUp]

theorem startSwitch_spec {s : State} (w : tblWf Overlay.inactive s.cs.overlays = true) {a b : Nat} (hab : a ≠ b)
    (q : QueuedAct) :
    (ovGet (startSwitch a b q s) b).st = 1 ∧ (ovGet (startSwitch a b q s) a).st = (ovGet s a).st
    ∧ (∀ m, m ≠ a → m ≠ b → ovGet (startSwitch a b q s) m = ovGet s m)
    ∧ (startSwitch a b q s).host.log = s.host.log
    ∧ OnlyHost { s with cs := (startSwitch a b q s).cs } (startSwitch a b q s) := by
  let s1 := ovMod s b (fun v => { v with st := 1, cut := q.cut, ramp := q.ramp, cause := q.cause, waiters := [] })
  have w1 : tblWf Overlay.inactive s1.cs.overlays = true := ovMod_overlaysWf w b _
  have hget (m : Nat) : ovGet (startSwitch a b q s) m = ovGet (ovMod s1 a (fun v => { v with cause := q.cause })) m := rfl
  refine ⟨?_, ?_, fun m ha hb => ?_, rfl, rfl⟩
  · rw [hget, ovGet_ovMod_other w1 hab.symm, ovGet_ovMod_same w]
  · rw [hget, ovGet_ovMod_same w1, ovGet_ovMod_other w hab]
  · rw [hget, ovGet_ovMod_other w1 ha, ovGet_ovMod_other w hb]

end Sys2Proof.Machine

namespace Sys2Proof
open Sys2Proof.Machine

/-- Settles O21: each row of Table 4-10 by the state of the overlay, on the lemmas about reversal, deactivation and
switch. -/
theorem overlayCommandsStartTransitions : Obligations.OverlayCommandsStartTransitions := by
  intro o p s w
  have wt : tblWf Overlay.inactive (takeLog s).cs.overlays = true := w
  let q := ovRequest (takeLog s) o (u8 p 0) (u8 p 1) (u16 p 2) s.host.log
  refine ⟨?actInactive, ?actActive, ?actJoins, ?actFadingOut, ?actUnloading, ?deLoading, ?deFadingIn, ?deJoins,
    ?deInactive, ?deActive, ?switch⟩
  case actInactive =>
    intro h hst
    obtain ⟨hto, hws, hothers, hloads, hlog, honly⟩ := startActivation_spec wt (u8 p 0) q (optList q.waiter)
    obtain ⟨t, ht, hr, k⟩ := hostCommand_leaves (act := overlayActivateDo o p) h
      (doneOf_eq (activateOverlay_inactive (s := takeLog s) (q := q) hst)) hlog
    have hov := ovGet_of_cs k.fields.1
    refine ⟨t, ht, hr, (congrArg Overlay.st (hov _)).trans hto, (congrArg Overlay.waiters (hov _)).trans hws,
      fun n hn => (hov n).trans (hothers n hn), (congrArg ChartState.loads k.fields.1).trans hloads, ?_⟩
    rw [k.fields.1]
    exact honly.trans k
  case actActive =>
    intro h hst
    refine (hostCommand_accepted h (overlayActivateDo o p)).trans ?_
    rw [overlayActivateDo, activateOverlay_active (s := takeLog s) hst]
    rfl
  case actJoins =>
    intro h hst
    refine (hostCommand_accepted h (overlayActivateDo o p)).trans ?_
    rw [overlayActivateDo, activateOverlay_joins (s := takeLog s) hst]
    rfl
  case actFadingOut =>
    intro h hst
    obtain ⟨hto, hws, hothers, hlog⟩ := reverseOverlay_spec wt (u8 p 0) 2 q
    obtain ⟨t, ht, hr, k⟩ := hostCommand_leaves (act := overlayActivateDo o p) h
      (doneOf_eq (activateOverlay_fadingOut (s := takeLog s) (q := q) hst)) hlog
    have hov := ovGet_of_cs k.fields.1
    refine ⟨t, ht, hr, (congrArg Overlay.st (hov _)).trans hto, (congrArg Overlay.waiters (hov _)).trans hws,
      fun n hn => (hov n).trans (hothers n hn), ?_⟩
    rw [k.fields.1, k.fields.2.1, k.fields.2.2.1]
    exact (reverseOverlay_onlyHost _ _ _ (takeLog s)).trans k
  case actUnloading =>
    intro h hst
    refine (hostCommand_accepted h (overlayActivateDo o p)).trans ?_
    rw [overlayActivateDo, activateOverlay_unloading (s := takeLog s) hst]
    rfl
  case deLoading =>
    intro h hst
    obtain ⟨hto, hws, hothers, hloads, hlog⟩ := abandonedState_spec wt (u8 p 0) q
    obtain ⟨t, ht, hr, k⟩ := hostCommand_leaves (act := overlayDeactivateDo o p) h
      (doneOf_eq (deactivateOverlay_loading (s := takeLog s) (q := q) hst)) hlog
    have hov := ovGet_of_cs k.fields.1
    refine ⟨t, ht, hr, (congrArg Overlay.st (hov _)).trans hto, (congrArg Overlay.waiters (hov _)).trans hws,
      fun n hn => (hov n).trans (hothers n hn), ?_⟩
    rw [k.fields.1]
    exact hloads
  case deFadingIn =>
    intro h hst
    obtain ⟨hto, hws, hothers, hlog⟩ := reverseOverlay_spec wt (u8 p 0) 4 q
    obtain ⟨t, ht, hr, k⟩ := hostCommand_leaves (act := overlayDeactivateDo o p) h
      (doneOf_eq (deactivateOverlay_fadingIn (s := takeLog s) (q := q) hst)) hlog
    have hov := ovGet_of_cs k.fields.1
    refine ⟨t, ht, hr, (congrArg Overlay.st (hov _)).trans hto, (congrArg Overlay.waiters (hov _)).trans hws,
      fun n hn => (hov n).trans (hothers n hn), ?_⟩
    rw [k.fields.1, k.fields.2.1, k.fields.2.2.1]
    exact (reverseOverlay_onlyHost _ _ _ (takeLog s)).trans k
  case deJoins =>
    intro h hst
    obtain ⟨hto, hws, hq, hothers, hlog, honly⟩ := joinedState_spec wt (u8 p 0) q
    obtain ⟨t, ht, hr, k⟩ := hostCommand_leaves (act := overlayDeactivateDo o p) h
      (doneOf_eq (deactivateOverlay_joins (s := takeLog s) (q := q) hst)) hlog
    have hov := ovGet_of_cs k.fields.1
    obtain ⟨hcs, -, -, -, -, -, -, -, -, hnet, -⟩ := k.fields
    refine ⟨t, ht, hr, (congrArg Overlay.st (hov _)).trans hto, (congrArg Overlay.waiters (hov _)).trans hws,
      (congrArg Overlay.queued (hov _)).trans hq, fun n hn => (hov n).trans (hothers n hn), ?_⟩
    rw [hcs, hnet]
    exact honly.trans k
  case deInactive =>
    intro h hst
    refine (hostCommand_accepted h (overlayDeactivateDo o p)).trans ?_
    rw [overlayDeactivateDo, deactivateOverlay_inactive (s := takeLog s) hst]
    rfl
  case deActive =>
    intro h hst
    obtain ⟨hto, hws, hothers⟩ := startDeactivation_spec wt (u8 p 0) q
    obtain ⟨t, ht, hr, k⟩ := hostCommand_leaves (act := overlayDeactivateDo o p) h
      (doneOf_eq (deactivateOverlay_active (s := takeLog s) (q := q) hst)) (startDeactivation_log _ _ _)
    have hov := ovGet_of_cs k.fields.1
    refine ⟨t, ht, hr, (congrArg Overlay.st (hov _)).trans hto, (congrArg Overlay.waiters (hov _)).trans hws,
      fun n hn => (hov n).trans (hothers n hn), ?_⟩
    rw [k.fields.1, k.fields.2.1, k.fields.2.2.1]
    exact (startDeactivation_onlyHost _ _ (takeLog s)).trans k
  case switch =>
    intro h
    obtain ⟨ha, hb⟩ := switch_states (or_eq_none h.2.2).2
    have hab : u8 p 0 ≠ u8 p 1 := fun e => by
      rw [e, hb] at ha
      exact absurd ha (by decide)
    obtain ⟨hto, hstays, hothers, hlog, honly⟩ := startSwitch_spec wt hab (ovRequest (takeLog s) o (u8 p 1) (u8 p 2) (u16 p 4) s.host.log)
    obtain ⟨t, ht, hr, k⟩ := hostCommand_leaves (act := overlaySwitchDo o p) h rfl hlog
    have hov := ovGet_of_cs k.fields.1
    have hcs := k.fields.1
    refine ⟨t, ht, hr, (congrArg Overlay.st (hov _)).trans hto, (congrArg Overlay.st (hov _)).trans (hstays.trans ha),
      fun n hn1 hn2 => (hov n).trans (hothers n hn1 hn2), congrArg ChartState.loads hcs,
      ⟨_, congrArg ChartState.switches hcs, rfl, rfl, rfl, rfl⟩, ?_⟩
    rw [hcs]
    exact honly.trans k

end Sys2Proof
end

section
/-! PROOF. The next log number through the shared operations: only the taking of a command moves it (R29). -/

namespace Sys2Proof.Machine

/-- The next log number of a host part: what an operation keeps unless it takes one. -/
def LogAt (v : Nat) (h : HostState) : Prop := h.log = v

theorem LogAt.ite {v : Nat} {c : Prop} {dec : Decidable c} {s t : State} (hs : LogAt v s.host) (ht : LogAt v t.host) :
    LogAt v (if c then s else t).host := by
  split
  · exact hs
  · exact ht

theorem LogAt.pairIte {v : Nat} {α : Type} {c : Prop} {dec : Decidable c} {p q : α × State} (hp : LogAt v p.2.host)
    (hq : LogAt v q.2.host) : LogAt v (if c then p else q).2.host := by
  split
  · exact hp
  · exact hq

theorem LogAt.doneIte {v : Nat} {c : Prop} {dec : Decidable c} {d e : Done} (hd : LogAt v d.s.host)
    (he : LogAt v e.s.host) : LogAt v (if c then d else e).s.host := by
  split
  · exact hd
  · exact he

/-- A fold keeps the log number when each of its steps keeps it. -/
theorem LogAt.foldl {v : Nat} {s : State} {β : Type} {f : State → β → State} {l : List β} (inv : LogAt v s.host)
    (h : ∀ t x, LogAt v t.host → LogAt v (f t x).host) : LogAt v (l.foldl f s).host :=
  foldl_inv (fun t : State => LogAt v t.host) f h l s inv

/-- So does a fold that carries a value beside the state. -/
theorem LogAt.foldlPair {v : Nat} {α β : Type} {p : α × State} {f : α × State → β → α × State} {l : List β}
    (inv : LogAt v p.2.host) (h : ∀ q x, LogAt v q.2.host → LogAt v (f q x).2.host) : LogAt v (l.foldl f p).2.host :=
  foldl_inv (fun q : α × State => LogAt v q.2.host) f h l p inv

theorem LogAt.posted {v : Nat} {s : State} {code inst log data : Nat} {cn : Concern} (inv : LogAt v s.host) :
    LogAt v (Machine.post code inst log data cn s).host := (post_log ..).trans inv

theorem LogAt.postedSel {v : Nat} {s : State} {sel : List Nat} {code inst log data : Nat} {cn : Concern}
    (inv : LogAt v s.host) : LogAt v (Machine.postSel sel code inst log data cn s).host :=
  (postSel_host ..).1.trans inv

theorem LogAt.completed {v : Nat} {s : State} {x : Waiter} {st : Nat} (inv : LogAt v s.host) :
    LogAt v (Machine.complete x st s).host := .postedSel inv

theorem LogAt.completedAll {v : Nat} {s : State} {xs : List Waiter} {st : Nat} (inv : LogAt v s.host) :
    LogAt v (Machine.completeAll xs st s).host := (completeAll_log ..).trans inv

theorem LogAt.mooringChanged {v : Nat} {s : State} {log id new : Nat} (inv : LogAt v s.host) :
    LogAt v (Machine.changeOwner log id new s).host := (changeOwner_log ..).trans inv

theorem LogAt.owned {v : Nat} {s : State} {id owner : Nat} (inv : LogAt v s.host) :
    LogAt v (Machine.setOwner s id owner).host := inv

theorem LogAt.acknowledged {v : Nat} {s : State} {n count : Nat} (inv : LogAt v s.host) :
    LogAt v (Machine.ackEvents n count s).host := (ackEvents_frame ..).2.trans inv

theorem LogAt.released {v : Nat} {s : State} {n log : Nat} (inv : LogAt v s.host) :
    LogAt v (Machine.releaseAll n log s).host := by
  unfold Machine.releaseAll
  exact .foldl inv fun _ _ h => .mooringChanged h

theorem LogAt.supervised {v : Nat} {s : State} {c : Ctx} {log : Nat} (inv : LogAt v s.host) :
    LogAt v (Machine.makeSupervisor c log s).host := (makeSupervisor_host c log s).1.trans inv

theorem LogAt.replied {v : Nat} {s : State} {n : Nat} {r : Reply} (inv : LogAt v s.host) :
    LogAt v (Machine.placeReply n r s).host := (placeReply_host n r s).1.trans inv

theorem LogAt.ctxMod {v : Nat} {s : State} {n : Nat} {f : CtxState → CtxState} (inv : LogAt v s.host) :
    LogAt v (Machine.ctxMod s n f).host := inv

theorem LogAt.refreshPins {v : Nat} {s : State} (inv : LogAt v s.host) : LogAt v (Machine.refreshPins s).host := inv

theorem LogAt.drawElapsed {v : Nat} {s : State} (inv : LogAt v s.host) : LogAt v (Machine.drawElapsed s).2.host :=
  inv

theorem LogAt.nvmStart {v : Nat} {s : State} (inv : LogAt v s.host) : LogAt v (Machine.nvmStart s).host := by
  unfold Machine.nvmStart
  split
  · exact inv
  · exact .ite inv (.ite inv inv)

theorem LogAt.askNvm {v : Nat} {s : State} {j : NvmJob} (inv : LogAt v s.host) :
    LogAt v (Machine.askNvm j s).host :=
  .nvmStart inv

theorem LogAt.slotMod {v : Nat} {s : State} {k : Nat} {f : Slot → Slot} (inv : LogAt v s.host) :
    LogAt v (Machine.slotMod s k f).host :=
  inv

theorem LogAt.commitSlot {v : Nat} {s : State} {k : Nat} {target : Word} {ms log : Nat} (inv : LogAt v s.host) :
    LogAt v (Machine.commitSlot k target ms log s).host :=
  .slotMod inv

theorem LogAt.usbMod {v : Nat} {s : State} {p : Nat} {f : Usb → Usb} (inv : LogAt v s.host) :
    LogAt v (Machine.usbMod s p f).host :=
  .ite inv inv

theorem LogAt.usbStreamMod {v : Nat} {s : State} {p i : Nat} {f : UsbStream → UsbStream} (inv : LogAt v s.host) :
    LogAt v (Machine.usbStreamMod s p i f).host :=
  .usbMod inv

theorem LogAt.usbDiscard {v : Nat} {s : State} {n : Nat} (inv : LogAt v s.host) :
    LogAt v (Machine.usbDiscard n s).host :=
  .foldl inv (fun _ _ h => .foldl h (fun _ _ h => .ite (.usbStreamMod h) h))

theorem LogAt.outMod {v : Nat} {s : State} {o : Nat} {f : Output → Output} (inv : LogAt v s.host) :
    LogAt v (Machine.outMod s o f).host :=
  inv

theorem LogAt.askRamp {v : Nat} {s : State} {o : Nat} {up : Bool} {tenths after cause log : Nat}
    (inv : LogAt v s.host) : LogAt v (Machine.askRamp o up tenths after cause log s).host :=
  .outMod inv

theorem LogAt.netMod {v : Nat} {s : State} {f : NetState → NetState} (inv : LogAt v s.host) :
    LogAt v (Machine.netMod s f).host :=
  inv

theorem LogAt.streamMod {v : Nat} {s : State} {n : Nat} {f : Machine.Stream → Machine.Stream} (inv : LogAt v s.host)
    : LogAt v (Machine.streamMod s n f).host :=
  .netMod inv

theorem LogAt.streamsRefused {v : Nat} {s : State} {ov status log : Nat} (inv : LogAt v s.host) :
    LogAt v (Machine.streamsRefused ov status log s).host :=
  .foldl inv (fun _ _ h => .ite (.completedAll (.posted (.streamMod h))) h)

theorem LogAt.ovMod {v : Nat} {s : State} {n : Nat} {f : Overlay → Overlay} (inv : LogAt v s.host) :
    LogAt v (Machine.ovMod s n f).host :=
  inv

theorem LogAt.ovChanged {v : Nat} {s : State} {n st : Nat} {c : OvCause} (inv : LogAt v s.host) :
    LogAt v (Machine.ovChanged n st c s).host :=
  .posted inv

theorem LogAt.enterOv {v : Nat} {s : State} {n st : Nat} (inv : LogAt v s.host) :
    LogAt v (Machine.enterOv n st s).host :=
  .ovChanged (.ovMod inv)

theorem LogAt.gateTo {v : Nat} {s : State} {n : Nat} {up cut : Bool} {ramp : Nat} (inv : LogAt v s.host) :
    LogAt v (Machine.gateTo n up cut ramp s).host := by
  unfold Machine.gateTo
  split
  · exact .commitSlot inv
  · exact inv

theorem LogAt.rampMod {v : Nat} {s : State} {k : Nat} {f : RouteRamp → RouteRamp} (inv : LogAt v s.host) :
    LogAt v (Machine.rampMod s k f).host :=
  inv

theorem LogAt.askRoutes {v : Nat} {s : State} {up : Bool} {ks : List Nat} (inv : LogAt v s.host) :
    LogAt v (Machine.askRoutes up ks s).host :=
  .foldl inv (fun _ _ h => .rampMod h)

theorem LogAt.askLoad {v : Nat} {s : State} {w : LoadWhat} (inv : LogAt v s.host) :
    LogAt v (Machine.askLoad w s).host :=
  inv

theorem LogAt.reverseOverlay {v : Nat} {s : State} {n st : Nat} {q : QueuedAct} (inv : LogAt v s.host) :
    LogAt v (Machine.reverseOverlay n st q s).host :=
  .askRoutes (.gateTo (.enterOv (.ovMod (.completedAll inv))))

theorem LogAt.dropLoad {v : Nat} {s : State} (inv : LogAt v s.host) : LogAt v (Machine.dropLoad s).host := by
  unfold Machine.dropLoad
  split
  · exact inv
  · exact .foldl (.askRoutes inv) (fun _ _ h => .ite (.askRamp h) h)

theorem LogAt.abandonActivation {v : Nat} {s : State} {n : Nat} (inv : LogAt v s.host) :
    LogAt v (Machine.abandonActivation n s).host := by
  unfold Machine.abandonActivation
  dsimp only
  split
  · exact .ite (.dropLoad inv) inv
  · exact inv

theorem LogAt.startDeactivation {v : Nat} {s : State} {n : Nat} {q : QueuedAct} (inv : LogAt v s.host) :
    LogAt v (Machine.startDeactivation n q s).host :=
  .askRoutes (.gateTo (.enterOv (.ovMod inv)))

theorem LogAt.giveUp {v : Nat} {s : State} {n log : Nat} {ws : List Waiter} (inv : LogAt v s.host) :
    LogAt v (Machine.giveUp n log ws s).host :=
  .streamsRefused (.completedAll inv)

theorem LogAt.deactivateOverlay {v : Nat} {s : State} {n : Nat} {q : QueuedAct} (inv : LogAt v s.host) :
    LogAt v (Machine.deactivateOverlay n q s).2.host := by
  unfold Machine.deactivateOverlay
  extract_lets v
  split
  · exact inv
  · dsimp only
    exact .usbDiscard (.enterOv (.ovMod (.giveUp (.abandonActivation inv))))
  · exact .reverseOverlay inv
  · exact .startDeactivation inv
  · dsimp only
    exact .giveUp (.ovMod inv)

theorem LogAt.variantStep {v : Nat} {s : State} (inv : LogAt v s.host) : LogAt v (Machine.variantStep s).host := by
  unfold Machine.variantStep
  split
  · refine .ite inv (.ite (.askLoad ?_) (.foldl inv (fun _ _ h => .ite (.deactivateOverlay h) h)))
    dsimp only
    exact .foldl inv (fun _ _ h => .ite (.deactivateOverlay h) h)
  · exact inv

theorem LogAt.startVariant {v : Nat} {s : State} {reduced : Bool} {cause log : Nat} {w : Option Waiter}
    (inv : LogAt v s.host) : LogAt v (Machine.startVariant reduced cause log w s).host :=
  .variantStep inv

theorem LogAt.domMod {v : Nat} {s : State} {d : Nat} {f : Domain → Domain} (inv : LogAt v s.host) :
    LogAt v (Machine.domMod s d f).host :=
  inv

theorem LogAt.convMod {v : Nat} {s : State} {k : Nat} {f : Convoy → Convoy} (inv : LogAt v s.host) :
    LogAt v (Machine.convMod s k f).host :=
  inv

theorem LogAt.memMod {v : Nat} {s : State} {k m : Nat} {f : Member → Member} (inv : LogAt v s.host) :
    LogAt v (Machine.memMod s k m f).host :=
  .convMod inv

theorem LogAt.pllMod {v : Nat} {s : State} {p : Nat} {f : Pll → Pll} (inv : LogAt v s.host) :
    LogAt v (Machine.pllMod s p f).host :=
  .ite inv inv

theorem LogAt.postMuted {v : Nat} {s : State} {k members cause log : Nat} (inv : LogAt v s.host) :
    LogAt v (Machine.postMuted k members cause log s).host :=
  .ite (.posted (.convMod (.pairIte (.drawElapsed (.convMod inv)) (.convMod inv))))
    (.pairIte (.drawElapsed (.convMod inv)) (.convMod inv))

theorem LogAt.convCount {v : Nat} {s : State} {k i : Nat} (inv : LogAt v s.host) :
    LogAt v (Machine.convCount k i s).host :=
  .convMod inv

theorem LogAt.muteConvoy {v : Nat} {s : State} {log k : Nat} (inv : LogAt v s.host) :
    LogAt v (Machine.muteConvoy log s k).host :=
  .ite inv (.postMuted (.convCount (.convMod inv)))

theorem LogAt.postPll {v : Nat} {s : State} {p log : Nat} (inv : LogAt v s.host) :
    LogAt v (Machine.postPll p log s).host :=
  .posted inv

theorem LogAt.setPllMode {v : Nat} {s : State} {p mode log : Nat} (inv : LogAt v s.host) :
    LogAt v (Machine.setPllMode p mode log s).host :=
  .ite (.pllMod inv) (.ite inv (.postPll (.pllMod inv)))

theorem LogAt.pllsFollow {v : Nat} {s : State} {d log : Nat} (inv : LogAt v s.host) :
    LogAt v (Machine.pllsFollow d log s).host :=
  .foldl inv (fun _ _ h => .ite (.ite (.setPllMode h) (.ite (.setPllMode h) h)) h)

theorem LogAt.leaveLocked {v : Nat} {s : State} {d cause log : Nat} (inv : LogAt v s.host) :
    LogAt v (Machine.leaveLocked d cause log s).host :=
  .pllsFollow (.foldl (.posted inv) (fun _ _ h => .muteConvoy h))

theorem LogAt.unlockFor {v : Nat} {s : State} {d cause log : Nat} (inv : LogAt v s.host) :
    LogAt v (Machine.unlockFor d cause log s).host :=
  .ite inv (.ite (.leaveLocked (.domMod inv)) (.domMod inv))

theorem LogAt.startFadeOut {v : Nat} {s : State} {k m : Nat} (inv : LogAt v s.host) :
    LogAt v (Machine.startFadeOut k m s).host :=
  .memMod inv

theorem LogAt.startFadeIn {v : Nat} {s : State} {k m : Nat} (inv : LogAt v s.host) :
    LogAt v (Machine.startFadeIn k m s).host :=
  .memMod inv

theorem LogAt.stopMember {v : Nat} {s : State} {k m : Nat} (inv : LogAt v s.host) :
    LogAt v (Machine.stopMember k m s).host :=
  .ite inv (.ite (.memMod (.foldl inv (fun _ _ h => .startFadeOut h))) (.ite (.memMod inv) (.memMod inv)))

theorem LogAt.lockstepStart {v : Nat} {s : State} {k : Nat} (inv : LogAt v s.host) :
    LogAt v (Machine.lockstepStart k s).host :=
  .ite (.foldl inv (fun _ _ h => .startFadeIn h)) inv

theorem LogAt.settleIndex {v : Nat} {s : State} {k : Nat} (inv : LogAt v s.host) :
    LogAt v (Machine.settleIndex k s).host :=
  .ite (.lockstepStart (.convMod inv)) inv

theorem LogAt.stopMembers {v : Nat} {s : State} {port sub : Nat} {egress : Bool} (inv : LogAt v s.host) :
    LogAt v (Machine.stopMembers port sub egress s).host :=
  .foldl inv (fun _ _ h => .settleIndex (.stopMember h))

theorem LogAt.usbStop {v : Nat} {s : State} {p i : Nat} (inv : LogAt v s.host) :
    LogAt v (Machine.usbStop p i s).host :=
  .stopMembers inv

theorem LogAt.postUsb {v : Nat} {s : State} {code p log data : Nat} (inv : LogAt v s.host) :
    LogAt v (Machine.postUsb code p log data s).host :=
  .posted inv

theorem LogAt.postUsbState {v : Nat} {s : State} {p cause log : Nat} (inv : LogAt v s.host) :
    LogAt v (Machine.postUsbState p cause log s).host :=
  .postUsb inv

theorem LogAt.usbLeave {v : Nat} {s : State} {n log : Nat} (inv : LogAt v s.host) :
    LogAt v (Machine.usbLeave n log s).2.host := by
  unfold Machine.usbLeave
  split
  · exact inv
  · exact .deactivateOverlay inv

theorem LogAt.usbForget {v : Nat} {s : State} {p i : Nat} (inv : LogAt v s.host) :
    LogAt v (Machine.usbForget p i s).host :=
  inv

theorem LogAt.usbZero {v : Nat} {s : State} {p i log : Nat} (inv : LogAt v s.host) :
    LogAt v (Machine.usbZero p i log s).2.host :=
  .pairIte inv (.pairIte (.usbForget (.usbStreamMod (.usbStop inv)))
    (.usbLeave (.usbForget (.usbStreamMod (.usbStop inv)))))

theorem LogAt.usbToZero {v : Nat} {s : State} {p log i : Nat} (inv : LogAt v s.host) :
    LogAt v (Machine.usbToZero p log s i).host :=
  .usbZero inv

theorem LogAt.usbAllZero {v : Nat} {s : State} {p log : Nat} (inv : LogAt v s.host) :
    LogAt v (Machine.usbAllZero p log s).host :=
  .foldl inv (fun _ _ h => .usbToZero h)

theorem LogAt.usbDetach {v : Nat} {s : State} {p cause log : Nat} (inv : LogAt v s.host) :
    LogAt v (Machine.usbDetach p cause log s).host :=
  .ite inv (.postUsbState (.usbMod (.usbAllZero inv)))

theorem LogAt.macMod {v : Nat} {s : State} {f : Mac → Mac} (inv : LogAt v s.host) :
    LogAt v (Machine.macMod s f).host :=
  inv

theorem LogAt.postEthFor {v : Nat} {s : State} {log code inst data : Nat} (inv : LogAt v s.host) :
    LogAt v (Machine.postEthFor log code inst data s).host :=
  .posted inv

theorem LogAt.postEth {v : Nat} {s : State} {code inst data : Nat} (inv : LogAt v s.host) :
    LogAt v (Machine.postEth code inst data s).host :=
  .postEthFor inv

theorem LogAt.halfSet {v : Nat} {s : State} {g i : Nat} (inv : LogAt v s.host) :
    LogAt v (Machine.halfSet g i s).host :=
  .ite (.macMod (.macMod inv)) (.postEth (.macMod (.macMod inv)))

theorem LogAt.macAdd {v : Nat} {s : State} {g i n : Nat} (inv : LogAt v s.host) :
    LogAt v (Machine.macAdd g i n s).host :=
  .ite (.halfSet (.macMod inv)) (.macMod inv)

theorem LogAt.macCount {v : Nat} {s : State} {g i : Nat} (inv : LogAt v s.host) :
    LogAt v (Machine.macCount g i s).host :=
  .macAdd inv

theorem LogAt.offerControl {v : Nat} {s : State} {kind : Nat} {dest : List Byte} {type : Nat} {body : List Byte}
    (inv : LogAt v s.host) : LogAt v (Machine.offerControl kind dest type body s).host :=
  .ite inv (.ite (.macCount inv) (.ite (.macCount inv) (.macMod inv)))

theorem LogAt.freeField {v : Nat} {s : State} {n : Nat} (inv : LogAt v s.host) :
    LogAt v (Machine.freeField n s).2.host :=
  inv

theorem LogAt.crfMod {v : Nat} {s : State} {k : Nat} {f : Machine.Stream → Machine.Stream} (inv : LogAt v s.host) :
    LogAt v (Machine.crfMod s k f).host :=
  .netMod inv

theorem LogAt.dropReference {v : Nat} {s : State} {kind i log : Nat} (inv : LogAt v s.host) :
    LogAt v (Machine.dropReference kind i log s).host :=
  .foldl inv (fun _ _ h => .ite (.unlockFor h) h)

theorem LogAt.enterStream {v : Nat} {s : State} {n st cause log : Nat} (inv : LogAt v s.host) :
    LogAt v (Machine.enterStream n st cause log s).host :=
  .ite inv (.ite (.dropReference (.posted (.streamMod inv))) (.posted (.streamMod inv)))

theorem LogAt.enterCrf {v : Nat} {s : State} {k st log : Nat} (inv : LogAt v s.host) :
    LogAt v (Machine.enterCrf k st log s).host :=
  .ite inv (.ite (.dropReference (.postEthFor (.crfMod inv))) (.postEthFor (.crfMod inv)))

theorem LogAt.streamStop {v : Nat} {s : State} {n : Nat} (inv : LogAt v s.host) :
    LogAt v (Machine.streamStop n s).host :=
  .stopMembers inv

theorem LogAt.disconnectStream {v : Nat} {s : State} {n cause log : Nat} {leave : Bool} (inv : LogAt v s.host) :
    LogAt v (Machine.disconnectStream n cause log leave s).host := by
  unfold Machine.disconnectStream
  refine .ite inv (.ite (.enterStream (.completedAll (.streamStop (.streamMod inv)))) ?_)
  split
  · exact .enterStream (.completedAll (.streamStop (.streamMod inv)))
  · exact .deactivateOverlay (.enterStream (.completedAll (.streamStop (.streamMod inv))))

theorem LogAt.streamsEnd {v : Nat} {s : State} {log : Nat} (inv : LogAt v s.host) :
    LogAt v (Machine.streamsEnd log s).host :=
  .foldl (.foldl inv (fun _ _ h => .disconnectStream h)) (fun _ _ h => .enterCrf (.crfMod h))

theorem LogAt.adpSend {v : Nat} {s : State} {message : Nat} (inv : LogAt v s.host) :
    LogAt v (Machine.adpSend message s).host :=
  .ite inv (.offerControl (.netMod (.freeField (.freeField inv))))

theorem LogAt.fadeOverlay {v : Nat} {s : State} {log n : Nat} (inv : LogAt v s.host) :
    LogAt v (Machine.fadeOverlay log s n).host :=
  .ite inv (.ite (.enterOv (.ovMod (.giveUp inv))) (.ite (.ovMod (.giveUp inv))
    (.askRoutes (.gateTo (.ite (.ovMod (.giveUp inv)) (.enterOv (.ovMod (.giveUp inv))))))))

theorem LogAt.fadeAll {v : Nat} {s : State} {log : Nat} (inv : LogAt v s.host) :
    LogAt v (Machine.fadeAll log s).host := by
  unfold Machine.fadeAll
  refine .foldl ?_ (fun _ _ h => .fadeOverlay h)
  dsimp only
  exact .completedAll (.dropLoad inv)

theorem LogAt.selectDetach {v : Nat} {s : State} {c : Chart} {log p : Nat} (inv : LogAt v s.host) :
    LogAt v (Machine.selectDetach c log s p).host :=
  .ite (.usbMod (.usbDetach inv)) inv

theorem LogAt.selectEntity {v : Nat} {s : State} {c : Chart} {log : Nat} (inv : LogAt v s.host) :
    LogAt v (Machine.selectEntity c log s).host :=
  .ite inv (.adpSend (.streamsEnd inv))

theorem LogAt.beginSelect {v : Nat} {s : State} {slot : Nat} {c : Chart} {w : Waiter} (inv : LogAt v s.host) :
    LogAt v (Machine.beginSelect slot c w s).host := by
  unfold Machine.beginSelect
  dsimp only
  exact .fadeAll (.foldl (.selectEntity inv) (fun _ _ h => .selectDetach h))

theorem LogAt.setChartSlot {v : Nat} {s : State} {n : Nat} {f : ChartSlot → ChartSlot} (inv : LogAt v s.host) :
    LogAt v (Machine.setChartSlot s n f).host :=
  .ite inv inv

theorem LogAt.chartWriteOpenDo {v : Nat} {s : State} {o : Issue} {p : List Byte} {log : Nat} (inv : LogAt v s.host)
    : LogAt v (Machine.chartWriteOpenDo o p log s).s.host :=
  .askNvm (.setChartSlot inv)

end Sys2Proof.Machine
end

section
/-! PROOF. Chart slots, write sessions and the variant. -/

namespace Sys2Proof.Machine

/-- A deactivation leaves the change of variant that is under way, and the variant in force. -/
theorem deactivateOverlay_variant (n : Nat) (q : QueuedAct) (s : State) :
    (deactivateOverlay n q s).2.cs.change = s.cs.change ∧ (deactivateOverlay n q s).2.cs.reduced = s.cs.reduced := by
  obtain ⟨⟨l, habandon⟩, -⟩ := abandonActivation_keeps n s
  unfold deactivateOverlay
  dsimp only
  split
  · exact ⟨rfl, rfl⟩
  · simp [enterOv, ovChanged, ovMod, giveUp, habandon]
  · simp [reverseOverlay, enterOv, ovChanged, ovMod]
  · simp [startDeactivation, enterOv, ovChanged, ovMod]
  · simp [giveUp, ovMod]

/-- R83: one overlay that the variant to come forbids is deactivated where that can start. -/
def withdrawOverlay (c : Chart) (log : Nat) (t : State) (n : Nat) : State :=
  if ((ovGet t n).st ∈ [1, 2, 3]) && !inSwitch t n then
    (deactivateOverlay n { waiter := none, cut := c.ovCut n, ramp := c.ovRamp n
                           cause := { code := 2, binding := 0xFF, log := log } } t).2
  else t

theorem withdrawOverlay_variant (c : Chart) (log : Nat) (t : State) (n : Nat) :
    ((withdrawOverlay c log t n).cs.change, (withdrawOverlay c log t n).cs.reduced) = (t.cs.change, t.cs.reduced) := by
  unfold withdrawOverlay
  split
  · exact Prod.ext (deactivateOverlay_variant ..).1 (deactivateOverlay_variant ..).2
  · rfl

/-- The overlays that a change of variant withdraws. -/
def withdrawn (c : Chart) (v : VariantChange) : List Nat := if v.reduced then c.ovs.filter c.forbids else []

/-- R83: a step of a change that asks for no load yet withdraws its overlays, and asks for it when all are INACTIVE. -/
theorem variantStep_eq {s : State} {v : VariantChange} {c : Chart} (h : s.cs.change = some v) (hc : s.cs.chart = some c)
    (hload : v.loading = false) :
    variantStep s = if (withdrawn c v).all (fun n => (ovGet ((withdrawn c v).foldl (withdrawOverlay c v.log) s) n).st == 0)
      then askLoad (.variant v.reduced) { (withdrawn c v).foldl (withdrawOverlay c v.log) s with
        cs := { ((withdrawn c v).foldl (withdrawOverlay c v.log) s).cs with change := some { v with loading := true } } }
      else (withdrawn c v).foldl (withdrawOverlay c v.log) s := by
  unfold variantStep
  rw [h, hc]
  dsimp only
  rw [if_neg (by simp [hload])]
  rfl

/-- R83: a step of the change of variant leaves it under way, for the variant it names. -/
theorem variantStep_change {s : State} {v : VariantChange} (h : s.cs.change = some v) :
    (∃ b, (variantStep s).cs.change = some { v with loading := b }) ∧ (variantStep s).cs.reduced = s.cs.reduced := by
  cases hc : s.cs.chart with
  | none =>
    have hstays : variantStep s = s := by simp only [variantStep, h, hc]
    rw [hstays]
    exact ⟨⟨v.loading, h⟩, rfl⟩
  | some c =>
    cases hload : v.loading with
    | true =>
      have hstays : variantStep s = s := by simp [variantStep, h, hc, hload]
      rw [hstays]
      exact ⟨⟨v.loading, h⟩, rfl⟩
    | false =>
      obtain ⟨hchange, hreduced⟩ := Prod.mk.inj (foldl_keeps (fun t : State => (t.cs.change, t.cs.reduced)) _
        (withdrawOverlay_variant c v.log) (withdrawn c v) s)
      rw [variantStep_eq h hc hload]
      split
      · exact ⟨⟨true, rfl⟩, hreduced⟩
      · exact ⟨⟨v.loading, hchange.trans h⟩, hreduced⟩

/-- A job joins those of the NVM. -/
@[simp] theorem askNvm_jobs (j : NvmJob) (s : State) : (askNvm j s).fw.jobs = s.fw.jobs ++ [j] := by
  unfold askNvm nvmStart
  split
  · rfl
  · split
    · rfl
    · split <;> rfl

@[simp] theorem askNvm_others (j : NvmJob) (s : State) :
    (askNvm j s).host = s.host ∧ (askNvm j s).tw0 = s.tw0 ∧ (askNvm j s).tw1 = s.tw1 ∧ (askNvm j s).cs = s.cs
    ∧ (askNvm j s).eng = s.eng ∧ (askNvm j s).par = s.par ∧ (askNvm j s).clk = s.clk ∧ (askNvm j s).cap = s.cap
    ∧ (askNvm j s).out = s.out ∧ (askNvm j s).ser = s.ser ∧ (askNvm j s).usbA = s.usbA
    ∧ (askNvm j s).usbB = s.usbB ∧ (askNvm j s).net = s.net ∧ (askNvm j s).aux = s.aux
    ∧ (askNvm j s).meas = s.meas ∧ (askNvm j s).pwr = s.pwr ∧ (askNvm j s).hull = s.hull
    ∧ (askNvm j s).free = s.free ∧ (askNvm j s).pending = s.pending := by
  unfold askNvm nvmStart
  split
  · simp
  · split
    · simp
    · split <;> simp

/-- Writing consecutive places of a table. -/
theorem tget_foldl_tset {α : Type} [DecidableEq α] (d : α) {t : Tbl α} (w : tblWf d t = true) (a n : Nat) (f : Nat → α)
    (i : Nat) : tblWf d ((List.range n).foldl (fun t k => tset d t (a + k) (f k)) t) = true
      ∧ tget d ((List.range n).foldl (fun t k => tset d t (a + k) (f k)) t) i
        = if a ≤ i ∧ i < a + n then f (i - a) else tget d t i := by
  induction n with
  | zero => exact ⟨w, by rw [if_neg (by omega)]; rfl⟩
  | succ n ih =>
    obtain ⟨hwf, hget⟩ := ih
    rw [List.range_succ, List.foldl_append]
    refine ⟨tset_wf d hwf _ _, ?_⟩
    simp only [List.foldl_cons, List.foldl_nil]
    by_cases hi : i = a + n
    · subst hi
      rw [tget_tset_same d hwf, if_pos (by omega), Nat.add_sub_cancel_left]
    · rw [tget_tset_other d hwf hi, hget]
      exact if_congr (by omega) rfl rfl

theorem chartSlot_setChartSlot (s : State) (n : Nat) (f : ChartSlot → ChartSlot) :
    chartSlot (setChartSlot s n f) n = f (chartSlot s n) := by
  unfold chartSlot setChartSlot
  split <;> simp [*]

theorem chartSlot_of_cs {s t : State} (h : t.cs = s.cs) (n : Nat) : chartSlot t n = chartSlot s n := by
  unfold chartSlot
  rw [h]

@[simp] theorem setChartSlot_others (s : State) (n : Nat) (f : ChartSlot → ChartSlot) :
    (setChartSlot s n f).host = s.host ∧ (setChartSlot s n f).tw0 = s.tw0 ∧ (setChartSlot s n f).tw1 = s.tw1
    ∧ (setChartSlot s n f).eng = s.eng ∧ (setChartSlot s n f).par = s.par ∧ (setChartSlot s n f).clk = s.clk
    ∧ (setChartSlot s n f).cap = s.cap ∧ (setChartSlot s n f).out = s.out ∧ (setChartSlot s n f).ser = s.ser
    ∧ (setChartSlot s n f).usbA = s.usbA ∧ (setChartSlot s n f).usbB = s.usbB ∧ (setChartSlot s n f).net = s.net
    ∧ (setChartSlot s n f).aux = s.aux ∧ (setChartSlot s n f).meas = s.meas ∧ (setChartSlot s n f).pwr = s.pwr
    ∧ (setChartSlot s n f).hull = s.hull ∧ (setChartSlot s n f).fw = s.fw ∧ (setChartSlot s n f).free = s.free
    ∧ (setChartSlot s n f).pending = s.pending := by
  unfold setChartSlot
  split <;> simp

@[simp] theorem setChartSlot_session (s : State) (n : Nat) (f : ChartSlot → ChartSlot) :
    (setChartSlot s n f).cs.session = s.cs.session := by
  unfold setChartSlot
  split <;> rfl

/-- Bytes put into a slot from an offset on. -/
def putBytes (a : Nat) (d : List Byte) (q : ChartSlot) : ChartSlot :=
  { q with bytes := (List.range d.length).foldl (fun t k => tset 0xFF t (a + k) (d.getD k 0)) q.bytes }

/-- What CHART_WRITE_DATA leaves of an open session: its bytes at the next offset (R85). -/
def storeChartBytes (w : WriteSession) (d : List Byte) (s : State) : State :=
  { setChartSlot s w.slot (putBytes w.written d) with
    cs := { (setChartSlot s w.slot (putBytes w.written d)).cs with
      session := some { w with written := w.written + d.length } } }

theorem chartWriteDataDo_eq {s : State} {w : WriteSession} (h : s.cs.session = some w) (p : List Byte) (log : Nat) :
    chartWriteDataDo p log s = okWith (b4 (w.written + (p.drop 8).length)) (storeChartBytes w (p.drop 8) s) := by
  unfold chartWriteDataDo
  rw [h]
  rfl

theorem storeChartBytes_slot (w : WriteSession) (d : List Byte) (s : State) :
    chartSlot (storeChartBytes w d s) w.slot = putBytes w.written d (chartSlot s w.slot) :=
  (show _ = chartSlot (setChartSlot s w.slot (putBytes w.written d)) w.slot from rfl).trans
    (chartSlot_setChartSlot s w.slot _)

/-- The bytes of a slot after a write: those written, and elsewhere what it held. -/
theorem tget_putBytes {q : ChartSlot} (hwf : tblWf 0xFF q.bytes = true) (a : Nat) (d : List Byte) (k : Nat) :
    tget 0xFF (putBytes a d q).bytes k = if a ≤ k ∧ k < a + d.length then d.getD (k - a) 0 else tget 0xFF q.bytes k :=
  (tget_foldl_tset 0xFF hwf a d.length (fun k => d.getD k 0) k).2

theorem failureStatus_ne_ok (f : Nat) : failureStatus f ≠ stOk := by
  unfold failureStatus
  split <;> decide

/-- R86, step 1: the loads but a rebuild, and the switches, give way to the new chart. -/
theorem fadeOverlay_loads (log : Nat) (s : State) (n : Nat) :
    ((fadeOverlay log s n).cs.loads, (fadeOverlay log s n).cs.switches) = (s.cs.loads, s.cs.switches) := by
  unfold fadeOverlay
  dsimp only
  split
  · rfl
  · split
    · simp [enterOv, ovChanged, ovMod, giveUp]
    · split
      · simp [ovMod, giveUp]
      · split <;> simp [enterOv, ovChanged, ovMod, giveUp]

theorem fadeOverlays_loads (log : Nat) (l : List Nat) (s : State) :
    (l.foldl (fadeOverlay log) s).cs.loads = s.cs.loads ∧ (l.foldl (fadeOverlay log) s).cs.switches = s.cs.switches :=
  Prod.mk.inj (foldl_keeps (fun t : State => (t.cs.loads, t.cs.switches)) _ (fadeOverlay_loads log) l s)

theorem fadeAll_loads (log : Nat) (s : State) :
    (∀ l ∈ (fadeAll log s).cs.loads, l = .rebuild) ∧ (fadeAll log s).cs.switches = [] := by
  unfold fadeAll
  dsimp only
  rw [(fadeOverlays_loads ..).1, (fadeOverlays_loads ..).2]
  refine ⟨fun l hl => ?_, rfl⟩
  have hin : l ∈ rebuilds s := hl
  unfold rebuilds at hin
  split at hin
  · exact List.mem_singleton.mp hin
  · exact absurd hin List.not_mem_nil

theorem beginSelect_loads (slot : Nat) (c : Chart) (w : Waiter) (s : State) :
    (∀ l ∈ (beginSelect slot c w s).cs.loads, l = .rebuild) ∧ (beginSelect slot c w s).cs.switches = [] := by
  unfold beginSelect
  dsimp only
  exact fadeAll_loads w.log _

end Sys2Proof.Machine

namespace Sys2Proof
open Sys2Proof.Machine

/-- Settles O22: each command's effect under `hostCommand_leaves`, the variant by `variantStep_change`. -/
theorem chartCommandsTakeEffect : Obligations.ChartCommandsTakeEffect := by
  intro o p w s
  refine ⟨?binding, ?variantSame, ?variant, ?writeOpen, ?writeData, ?writeClose, ?selectNext, ?selectNow⟩
  case binding => exact fun h => hostCommand_accepted h (bindingSetDo p)
  case variantSame =>
    intro h hsame
    refine (hostCommand_accepted h (setVariantDo o p)).trans ?_
    rw [setVariantDo, if_pos (show u8 p 0 = flag (takeLog s).cs.reduced from hsame)]
    rfl
  case variant =>
    intro h hother
    obtain ⟨⟨b, hchange⟩, hreduced⟩ := variantStep_change (s := { takeLog s with
      hull := { s.hull with replanDue := false }
      cs := { s.cs with change := some { reduced := u8 p 0 == 1, cause := 0, log := s.host.log
                                         waiter := some (waiterOf o s), loading := false } } }) rfl
    have hdo : setVariantDo o p s.host.log (takeLog s)
        = { s := startVariant (u8 p 0 == 1) 0 s.host.log (some (waiterOf o s)) (takeLog s), status := 10, result := [] } :=
      if_neg (show ¬ u8 p 0 = flag (takeLog s).cs.reduced from hother)
    obtain ⟨t, ht, hr, k⟩ := hostCommand_leaves h hdo (LogAt.startVariant rfl)
    refine ⟨t, ht, hr, ⟨_, (congrArg ChartState.change k.fields.1).trans hchange, rfl, rfl, rfl⟩, ?_⟩
    exact (congrArg ChartState.reduced k.fields.1).trans hreduced
  case writeOpen =>
    intro h
    obtain ⟨t, ht, hr, k⟩ := hostCommand_leaves (act := chartWriteOpenDo o p) h rfl (LogAt.askNvm (LogAt.setChartSlot rfl))
    refine ⟨t, ht, hr, ?_, ?_, ?_, ?_⟩
    · rw [k.fields.1]
      simp
    · rw [chartSlot_of_cs k.fields.1, chartSlot_of_cs (askNvm_others _ _).2.2.2.1, chartSlot_setChartSlot]
    · rw [(k.fields).2.2.2.2.2.2.2.2.2.2.2.2.2.2.1]
      simp [waiterOf]
    · simp [onlyHost_iff, k.fields]
  case writeData =>
    intro hw h
    have hlen : (p.drop 8).length = p.length - 8 := List.length_drop
    obtain ⟨t, ht, hr, k⟩ := hostCommand_leaves h (chartWriteDataDo_eq (s := takeLog s) hw p s.host.log)
      (LogAt.setChartSlot rfl)
    rw [hlen] at hr
    refine ⟨t, ht, hr, ?_, fun hwf i => ?_, ?_⟩
    · rw [k.fields.1, ← hlen]
      rfl
    · rw [chartSlot_of_cs k.fields.1, storeChartBytes_slot, tget_putBytes (q := chartSlot (takeLog s) w.slot) hwf, hlen]
      simp only [List.getD_eq_getElem?_getD, List.getElem?_drop]
      rfl
    · simp [onlyHost_iff, k.fields, storeChartBytes]
  case writeClose =>
    intro hw h
    have hdo : chartWriteCloseDo o s.host.log (takeLog s) = queuedDone (askNvm (.chartClose (waiterOf o s) w.slot
        (((chartFailure s (chartSlot s w.slot).chartBytes).map failureStatus).getD stOk))
        { takeLog s with cs := { s.cs with session := none } }) := by
      simp only [chartWriteCloseDo, takeLog_others, hw]
      rfl
    obtain ⟨t, ht, hr, k⟩ := hostCommand_leaves h hdo (LogAt.askNvm rfl)
    refine ⟨t, ((chartFailure s (chartSlot s w.slot).chartBytes).map failureStatus).getD stOk, ht, hr, ?_, ?_, ?_, ?_⟩
    · simp [k.fields]
    · simp [k.fields]
    · cases chartFailure s (chartSlot s w.slot).chartBytes with
      | none => simp [stOk]
      | some f => exact ⟨fun e => absurd e (failureStatus_ne_ok f), fun e => absurd e (by simp)⟩
    · simp [onlyHost_iff, k.fields]
  case selectNext =>
    intro h hnext
    refine (hostCommand_accepted h (chartSelectDo o p)).trans ?_
    rw [chartSelectDo, if_pos hnext]
    rfl
  case selectNow =>
    intro h hnow
    have hdo : chartSelectDo o p s.host.log (takeLog s) = queuedDone (beginSelect (u8 p 0)
        (readChart (chartSlot (selectSlot (u8 p 0) (takeLog s)) (u8 p 0)).chartBytes) (waiterOf o s)
        (selectSlot (u8 p 0) (takeLog s))) := if_neg (by rw [hnow]; decide)
    obtain ⟨t, ht, hr, k⟩ := hostCommand_leaves h hdo (LogAt.beginSelect (LogAt.setChartSlot rfl))
    refine ⟨t, _, ht, hr, congrArg ChartState.select k.fields.1, rfl, rfl, ?_, ?_⟩
    · rw [k.fields.1]
      exact (beginSelect_loads _ _ _ _).1
    · rw [k.fields.1]
      exact (beginSelect_loads _ _ _ _).2

end Sys2Proof
end

section
/-! PROOF. Loads, and the ends of gates' and routes' ramps. -/

namespace Sys2Proof.Machine

@[simp] theorem dropQueued_others (r : Option QueuedSel) (s : State) :
    (dropQueued r s).tw0 = s.tw0 ∧ (dropQueued r s).tw1 = s.tw1 ∧ (dropQueued r s).cs = s.cs
    ∧ (dropQueued r s).eng = s.eng ∧ (dropQueued r s).par = s.par ∧ (dropQueued r s).clk = s.clk
    ∧ (dropQueued r s).cap = s.cap ∧ (dropQueued r s).out = s.out ∧ (dropQueued r s).ser = s.ser
    ∧ (dropQueued r s).usbA = s.usbA ∧ (dropQueued r s).usbB = s.usbB ∧ (dropQueued r s).net = s.net
    ∧ (dropQueued r s).aux = s.aux ∧ (dropQueued r s).meas = s.meas ∧ (dropQueued r s).pwr = s.pwr
    ∧ (dropQueued r s).hull = s.hull ∧ (dropQueued r s).fw = s.fw ∧ (dropQueued r s).free = s.free
    ∧ (dropQueued r s).pending = s.pending := by
  unfold dropQueued
  split <;> simp

@[simp] theorem initEntry_others (s : State) (e : SegEntry) :
    (initEntry s e).tw0 = s.tw0 ∧ (initEntry s e).tw1 = s.tw1 ∧ (initEntry s e).cs = s.cs
    ∧ (initEntry s e).eng = s.eng ∧ (initEntry s e).clk = s.clk ∧ (initEntry s e).cap = s.cap
    ∧ (initEntry s e).out = s.out ∧ (initEntry s e).ser = s.ser ∧ (initEntry s e).usbA = s.usbA
    ∧ (initEntry s e).usbB = s.usbB ∧ (initEntry s e).net = s.net ∧ (initEntry s e).aux = s.aux
    ∧ (initEntry s e).meas = s.meas ∧ (initEntry s e).pwr = s.pwr ∧ (initEntry s e).hull = s.hull
    ∧ (initEntry s e).fw = s.fw ∧ (initEntry s e).free = s.free ∧ (initEntry s e).pending = s.pending := by
  unfold initEntry
  dsimp only
  split
  · simp
  · simp
  · simp
  · split <;> simp
  · simp
  · simp

/-- The initialisation of an overlay's reservation leaves the chart part. -/
theorem initOverlay_cs (c : Chart) (n : Nat) (s : State) : (initOverlay c n s).cs = s.cs := by
  unfold initOverlay
  refine (foldl_keeps (fun t : State => t.cs) zeroBerth (fun t a => ?_) _ _).trans ?_
  · unfold zeroBerth
    split <;> simp
  · refine (slotMod_others _ _ _).2.2.2.1.trans ((foldl_keeps (fun t : State => t.cs) initEntry (fun t e => by simp) _ _).trans ?_)
    exact foldl_keeps (fun t : State => t.cs) (fun t k => slotMod t k fun _ => Slot.reset) (fun t k => by simp) _ _

/-- What the loader starts: the load under way, on a copy of the Near bank or, for a rebuild, on an empty one. -/
def loadStarted (c : Chart) (w : LoadWhat) (s : State) : ChartState :=
  { s.cs with
    far := if w = .rebuild then Bank.empty else s.cs.near
    load := some
      { what := w, complete := false, muted := (changedRoutes s.cs.near (targetBank s c w)).filter (routeOn s.cs.near)
        mutedOuts := (changedOutputs s.cs.near (targetBank s c w)).filter (fun o => (outGet s o).enabled)
        routes := (changedRoutes s.cs.near (targetBank s c w)).filter (routeOn s.cs.near)
        outs := (changedOutputs s.cs.near (targetBank s c w)).filter (fun o => (outGet s o).enabled) } }

theorem startLoad_cs (c : Chart) (w : LoadWhat) (s : State) : (startLoad c w s).cs = loadStarted c w s := by
  unfold startLoad
  refine (foldl_keeps (fun t : State => t.cs) _ (fun t o => by simp [askRamp]) _ _).trans ?_
  rw [askRoutes_cs]
  split
  · exact initOverlay_cs _ _ _
  · exact initOverlay_cs _ _ _
  · rfl

/-- An overlay that is changed to other than INACTIVE is so changed. -/
theorem ovGet_ovMod_same_ne {s : State} {n : Nat} {f : Overlay → Overlay} (h : f (ovGet s n) ≠ Overlay.inactive) :
    ovGet (ovMod s n f) n = f (ovGet s n) :=
  tget_tset_same_ne Overlay.inactive s.cs.overlays n h

/-- An overlay that enters a state other than INACTIVE keeps what else it holds. -/
theorem ovGet_enterOv_ne {n st : Nat} (hst : st ≠ 0) (s : State) :
    ovGet (enterOv n st s) n = { ovGet s n with st := st } := by
  rw [ovGet_of_cs (enterOv_cs n st s)]
  exact ovGet_ovMod_same_ne (fun h => hst (congrArg Overlay.st h))

theorem overlay_ne_inactive {v : Overlay} (h : v.st ≠ 0) : v ≠ Overlay.inactive := fun e => h (congrArg Overlay.st e)

@[simp] theorem clearRamp_cs (k : Nat) (s : State) : (clearRamp k s).cs = s.cs := by simp [clearRamp]

@[simp] theorem clearRamp_eng (k : Nat) (s : State) : (clearRamp k s).eng = s.eng := by simp [clearRamp]

@[simp] theorem clearRamp_host (k : Nat) (s : State) : (clearRamp k s).host = s.host := by simp [clearRamp]

/-- The end of a gate's ramp leaves the engine and the load under way. -/
theorem concludeOverlay_keeps (n : Nat) (s : State) :
    ((concludeOverlay n s).eng, (concludeOverlay n s).cs.load) = (s.eng, s.cs.load) := by
  unfold concludeOverlay
  dsimp only
  split
  · simp [enterOv, ovChanged, ovMod]
  · split
    · split <;> simp [askLoad, ovMod]
    · split
      · split <;> simp [askLoad, ovMod]
      · rfl

theorem rampGet_rampMod_same {s : State} (w : tblWf RouteRamp.steady s.eng.ramps = true) (k : Nat)
    (f : RouteRamp → RouteRamp) : rampGet (rampMod s k f) k = f (rampGet s k) :=
  tget_tmod_same RouteRamp.steady w k f

/-- The end of a route's ramp: the ramp is over, and the load under way waits for the route no more (R113). -/
theorem chainRampEnd_keeps (k : Nat) (s : State) :
    (chainRampEnd k s).eng = (rampMod s k (fun r => { r with k := 0, n := 0 })).eng
    ∧ (chainRampEnd k s).cs.load = s.cs.load.map (fun l => { l with routes := without k l.routes }) :=
  Prod.mk.inj (foldl_keeps (fun t : State => (t.eng, t.cs.load)) (fun t n => concludeOverlay n t)
    (fun t n => concludeOverlay_keeps n t) _ _)

/-- A gate at unity makes a FADING_IN overlay ACTIVE (R75). -/
theorem concludeOverlay_fadingIn {n : Nat} {s : State} (h : (ovGet s n).st = 2) :
    concludeOverlay n s = completeAll (ovGet s n).waiters stOk
      (enterOv n 3 (ovMod (clearRamp (gateSlot s n) s) n (fun v => { v with waiters := [] }))) := by
  unfold concludeOverlay
  dsimp only
  rw [if_pos h]

/-- A gate at mute, with the routes at mute, has a FADING_OUT overlay's removal asked for (R75, R114). -/
theorem concludeOverlay_fadingOut {n : Nat} {s : State} (h : (ovGet s n).st = 4)
    (hroutes : (overlayRoutes s n).all (routeMuted s) = true) :
    concludeOverlay n s = askLoad (.remove n) (ovMod (clearRamp (gateSlot s n) s) n (fun v => { v with st := 5 })) := by
  unfold concludeOverlay
  dsimp only
  rw [if_neg (by rw [h]; decide), if_pos h, if_pos hroutes]

end Sys2Proof.Machine

namespace Sys2Proof
open Sys2Proof.Machine

/-- Settles O23: the loader's steps and the ends of ramps. -/
theorem loaderStepsTakeEffect : Obligations.LoaderStepsTakeEffect := by
  intro s c
  refine ⟨?starts, ?completes, ?fadesIn, ?fadesOut, ?route⟩
  case starts =>
    intro w r hc hload hselect hloads hrun
    have hnext : nextLoad s = some w := by simp [nextLoad, hload, hselect, hloads]
    have hgo : exec .loadStart s = .next (startLoad c w { s with cs := { s.cs with loads := s.cs.loads.erase w } }) := by
      show execLoadStart s = _
      unfold execLoadStart
      rw [hnext, hc]
      exact congrArg Host.Outcome.next (if_neg (by simp [hrun]))
    refine ⟨_, _, hgo, congrArg ChartState.load (startLoad_cs c w _), rfl, rfl, ?_, ?_, ?_, ?_⟩
    · rw [startLoad_cs]
      show s.cs.loads.erase w = r
      rw [hloads, List.erase_cons_head]
    · rw [startLoad_cs]
      rfl
    · rw [startLoad_cs]
      rfl
    · rw [startLoad_cs]
      rfl
  case completes =>
    intro l hc hload hdone
    show execLoadComplete s = _
    unfold execLoadComplete
    rw [hload, hc]
    exact congrArg Host.Outcome.next (if_neg (by simp [hdone]))
  case fadesIn =>
    intro ov hst hgate
    refine ⟨concludeOverlay ov.val s, ?_, ?_, ?_, ?_, congrArg Prod.fst (concludeOverlay_keeps _ _)⟩
    · show execOverlayGateRampEnd ov s = _
      exact whenever_true (by simp [gateRampOver, hst, hgate])
    all_goals rw [concludeOverlay_fadingIn hst]
    · rw [ovGet_of_cs (completeAll_others _ _ _).2.2.1]
      exact ovGet_enterOv_st (by decide) _
    · have hst1 : (ovGet (clearRamp (gateSlot s ov.val) s) ov.val).st = 2 := hst
      rw [ovGet_of_cs (completeAll_others _ _ _).2.2.1, ovGet_enterOv_ne (by decide),
        ovGet_ovMod_same_ne (overlay_ne_inactive (by dsimp only; rw [hst1]; decide))]
    · simp [enterOv, ovChanged, ovMod]
  case fadesOut =>
    intro ov hst hgate hroutes
    refine ⟨concludeOverlay ov.val s, ?_, ?_⟩
    · show execOverlayGateRampEnd ov s = _
      exact whenever_true (by simp [gateRampOver, hst, hgate])
    rw [concludeOverlay_fadingOut hst hroutes]
    refine ⟨?_, by simp [askLoad, ovMod], by simp [askLoad]⟩
    exact congrArg Overlay.st (ovGet_ovMod_same_ne (s := clearRamp (gateSlot s ov.val) s)
      (f := fun v => { v with st := 5 }) (overlay_ne_inactive (Nat.succ_ne_zero 4)))
  case route =>
    intro k w hn hk
    obtain ⟨heng, hload⟩ := chainRampEnd_keeps k.val s
    refine ⟨chainRampEnd k.val s, ?_, ?_, ?_, ?_⟩
    · show execChainRampEnd k s = _
      exact whenever_true (by simp [hn, hk])
    · rw [rampGet, heng]
      exact congrArg RouteRamp.n (rampGet_rampMod_same w k.val _)
    · rw [rampGet, heng]
      exact (congrArg RouteRamp.present (rampGet_rampMod_same w k.val _)).trans rfl
    · rw [hload, Option.map_map]
      rfl

end Sys2Proof
end

section
/-! PROOF. The words of the lanes (chapter 5). -/

namespace Sys2Proof.Machine

/-- A lane that stands at the word executes it and goes on. -/
theorem runWord_at {l : Nat} {w : BitVec 64} {s : State} (h : laneAt s l w = true) (act : State → State) :
    runWord l w act s = .next (laneMod (act s) l advance) := by
  simp [runWord, h]

/-- A meter that is present after a change is so changed. -/
theorem meterGet_meterMod_present {s : State} {k : Nat} {f : Meter → Meter} (h : (f (meterGet s k)).present = true) :
    meterGet (meterMod s k f) k = f (meterGet s k) :=
  tget_tset_same_ne Meter.absent s.par.meters k fun e => by
    have hp : (f (meterGet s k)).present = false := congrArg Meter.present e
    exact absurd h (by rw [hp]; decide)

/-- A lane that has gone on from a word stands past it. -/
theorem laneGet_advanced (s : State) (l : Nat) : laneGet (laneMod s l advance) l = advance (laneGet s l) :=
  tget_tset_same_ne Lane.reset s.eng.lanes l fun e => Nat.succ_ne_zero _ (congrArg Lane.pos e)

/-- A lane that has not ended is as a change leaves it. -/
theorem laneGet_laneMod_running {s : State} {l : Nat} {f : Lane → Lane} (h : (f (laneGet s l)).ended = false) :
    laneGet (laneMod s l f) l = f (laneGet s l) :=
  tget_tset_same_ne Lane.reset s.eng.lanes l fun e => by
    have he : (f (laneGet s l)).ended = true := congrArg Lane.ended e
    exact absurd h (by rw [he]; decide)

theorem accSet_ended (i : BitVec 2) (v : BitVec 48) (a : Lane) : (accSet i v a).ended = a.ended := by
  unfold accSet
  split <;> rfl

theorem accPut_ended (i : BitVec 2) (x : Int) (a : Lane) : (accPut i x a).ended = a.ended := accSet_ended ..

/-- A lane that stands at a word has not ended. -/
theorem laneAt_running {s : State} {l : Nat} {w : BitVec 64} (h : laneAt s l w = true) : (laneGet s l).ended = false := by
  simp only [laneAt, laneRuns, Bool.and_eq_true, Bool.not_eq_true'] at h
  exact h.1.1.1.1.2

/-- A CHART_SELECT now whose fade ends at this tick and that changes the rate of the fabric (R86). -/
def relockingSelect : Select :=
  { slot := 0, chart := readChart [], waiter := { ctx := .h0, log := 1 }, relock := true, entity := false, phase := 0
    k := 1, n := 1 }

/-- The part at reset with its tick running and such a CHART_SELECT under way. -/
def relockingState : State :=
  { State.reset with
    eng := { State.reset.eng with ticking := true }, cs := { State.reset.cs with select := some relockingSelect } }

end Sys2Proof.Machine

namespace Sys2Proof
open Sys2Proof.Machine

/-- Settles O24: each word by its row's effect, through `runWord_at`. -/
theorem laneWordsTakeEffect : Obligations.LaneWordsTakeEffect := by
  intro l src par dst acc aux line offset meter p6 u s
  refine ⟨?nop, ?clr, ?mac, ?sto, ?dlw, ?dlr, ?mtr, ?lim⟩
  case nop =>
    intro h
    show execNop l s = _
    exact runWord_at h _
  case clr =>
    intro h
    show execClr l acc s = _
    exact runWord_at h _
  case mac =>
    intro h
    show execMac l src par acc u s = _
    exact runWord_at h _
  case sto =>
    intro h
    show execSto l dst acc aux s = _
    exact runWord_at h _
  case dlw =>
    intro h hlen
    show execDlw l src line s = _
    refine (runWord_at h _).trans ?_
    dsimp only
    rw [if_neg hlen]
  case dlr =>
    intro h hsel
    have htap : delayTap s (lineGet s line.toNat) offset.toNat
        = (lineTap s (lineGet s line.toNat) ((lineGet s line.toNat).d0 + offset.toNat)).toInt := by
      simp only [delayTap, hsel]
    show execDlr l par acc u line offset s = _
    refine (runWord_at h _).trans ?_
    rw [htap]
    rfl
  case mtr =>
    intro h hpresent
    have hsample := meterGet_meterMod_present (s := (drawRound s).2) (k := meter.toNat)
      (f := fun m => if m.present then
        meterSample m (readBerth s src.toNat).toInt.natAbs (fabricHz s) (drawRound s).1 else m)
      (by rw [if_pos (show (meterGet (drawRound s).2 meter.toNat).present = true from hpresent)]; exact hpresent)
    rw [if_pos (show (meterGet (drawRound s).2 meter.toNat).present = true from hpresent)] at hsample
    refine ⟨_, (show execMtr l src meter s = _ from runWord_at h _), ?_, ?_, laneGet_advanced _ _⟩
    · exact (congrArg Meter.present hsample).trans hpresent
    · exact congrArg Meter.peak hsample
  case lim =>
    intro h
    show execLim l p6 dst u s = _
    exact runWord_at h _

/-- Settles O25: the sum goes into the accumulator that MACS stores, since a lane that stands at a word keeps what is put
into it. -/
theorem storingWordsTakeEffect : Obligations.StoringWordsTakeEffect := by
  intro l src par p10 dst acc aux u v s
  refine ⟨?macs, ?xf, ?bq⟩
  case macs =>
    intro h
    refine ⟨_, rfl, ?_⟩
    have hlane := laneGet_laneMod_running (s := s) (l := l.val)
      (f := fun a => accPut acc ((accGet a acc).toInt
        + mulQ27 (readBerth s src.toNat).toInt (multiplier s u par.toNat)) a)
      (by rw [accPut_ended]; exact laneAt_running h)
    show execMacs l src par dst acc aux u s = _
    refine (runWord_at h _).trans ?_
    dsimp only [macEffect]
    rw [hlane]
    rfl
  case xf =>
    intro h
    show execXf l src p10 dst aux s = _
    exact runWord_at h _
  case bq =>
    intro h
    refine ⟨_, _, _, _, rfl, rfl, ?_⟩
    show execBq l src par dst acc u v s = _
    exact runWord_at h _

/-- Refutes O27: the tick at which the fade of a CHART_SELECT now is over, where the new chart has another rate, is the
tick that stops (R86), so its lanes have ended instead of starting. -/
theorem not_tickStartsLanes : ¬ Obligations.TickStartsLanes := by
  intro h
  obtain ⟨t, ht, hlanes⟩ := h relockingState rfl
  have hgo : exec .fabricTick relockingState = .next (fabricTick relockingState) := by
    show execFabricTick relockingState = _
    exact whenever_true rfl
  have hended : (laneGet (fabricTick relockingState) 0).ended = true := by decide +kernel
  obtain rfl : fabricTick relockingState = t := Host.Outcome.next.inj (hgo.symm.trans ht)
  exact absurd (hlanes 0 (by decide)).2.1 (by rw [hended]; decide)

/-- Settles O26: a fence by its condition, END at once. -/
theorem fencesAndEnd : Obligations.FencesAndEnd := by
  intro l lane word s
  refine ⟨?passes, ?waits, ?released, ?held, ?ends, ?met⟩
  case passes =>
    intro h hmet
    show execFen l lane word s = _
    rw [execFen, if_pos h, if_pos hmet]
  case waits =>
    intro h hmet
    show execFen l lane word s = _
    rw [execFen, if_pos h, if_neg (by rw [hmet]; decide)]
  case released =>
    intro htick hwait hmet
    show execFenRelease l s = _
    rw [execFenRelease, hwait]
    dsimp only
    rw [if_pos (by rw [htick, hmet]; rfl)]
  case held =>
    intro htick hwait hmet
    show execFenRelease l s = _
    rw [execFenRelease, hwait]
    dsimp only
    rw [if_neg (by rw [htick, hmet]; decide)]
  case ends =>
    intro h
    show execEndWord l s = _
    rw [execEndWord, if_pos h]
  case met => simp [fenceMet, or_assoc]

end Sys2Proof
end

section
/-! PROOF. The fabric period count through all that happens at a tick: only the tick itself moves it (R109). -/

namespace Sys2Proof.Machine

/-- The fabric period count of an engine, and whether a tick has run since reset. -/
def PeriodAt (v : Nat × Bool) (e : EngineState) : Prop := (e.period, e.started) = v

theorem PeriodAt.ite {v : Nat × Bool} {c : Prop} {dec : Decidable c} {s t : State} (hs : PeriodAt v s.eng)
    (ht : PeriodAt v t.eng) : PeriodAt v (if c then s else t).eng := by
  split
  · exact hs
  · exact ht

theorem PeriodAt.pairIte {v : Nat × Bool} {α : Type} {c : Prop} {dec : Decidable c} {x y : α × State}
    (hx : PeriodAt v x.2.eng) (hy : PeriodAt v y.2.eng) : PeriodAt v (if c then x else y).2.eng := by
  split
  · exact hx
  · exact hy

theorem PeriodAt.foldl {v : Nat × Bool} {s : State} {β : Type} {f : State → β → State} {l : List β}
    (inv : PeriodAt v s.eng) (h : ∀ t x, PeriodAt v t.eng → PeriodAt v (f t x).eng) :
    PeriodAt v (l.foldl f s).eng :=
  foldl_inv (fun t : State => PeriodAt v t.eng) f h l s inv

theorem PeriodAt.posted {v : Nat × Bool} {s : State} {code inst log data : Nat} {cn : Concern}
    (inv : PeriodAt v s.eng) : PeriodAt v (Machine.post code inst log data cn s).eng := by
  simpa using inv

theorem PeriodAt.completed {v : Nat × Bool} {s : State} {x : Waiter} {st : Nat} (inv : PeriodAt v s.eng) :
    PeriodAt v (Machine.complete x st s).eng := by
  simpa using inv

theorem PeriodAt.completedAll {v : Nat × Bool} {s : State} {xs : List Waiter} {st : Nat}
    (inv : PeriodAt v s.eng) : PeriodAt v (Machine.completeAll xs st s).eng := by
  simpa using inv

theorem PeriodAt.mooringChanged {v : Nat × Bool} {s : State} {log id new : Nat} (inv : PeriodAt v s.eng) :
    PeriodAt v (Machine.changeOwner log id new s).eng := by
  rw [rest_eq (changeOwner_rest log id new s)]
  exact inv

theorem PeriodAt.drawElapsed {v : Nat × Bool} {s : State} (inv : PeriodAt v s.eng) :
    PeriodAt v (Machine.drawElapsed s).2.eng :=
  inv

theorem PeriodAt.drawReading {v : Nat × Bool} {s : State} (inv : PeriodAt v s.eng) :
    PeriodAt v (Machine.drawReading s).2.eng :=
  inv

theorem PeriodAt.drawRound {v : Nat × Bool} {s : State} (inv : PeriodAt v s.eng) :
    PeriodAt v (Machine.drawRound s).2.eng :=
  inv

theorem PeriodAt.clipEvent {v : Nat × Bool} {s : State} {b : Nat} (inv : PeriodAt v s.eng) :
    PeriodAt v (Machine.clipEvent b s).eng :=
  inv

theorem PeriodAt.clipIf {v : Nat × Bool} {s : State} {c : Bool} {b : Nat} (inv : PeriodAt v s.eng) :
    PeriodAt v (Machine.clipIf c b s).eng :=
  .ite (.clipEvent inv) inv

theorem PeriodAt.sinkMod {v : Nat × Bool} {s : State} {k : Nat} {f : Sink → Sink} (inv : PeriodAt v s.eng) :
    PeriodAt v (Machine.sinkMod s k f).eng :=
  inv

theorem PeriodAt.laneMod {v : Nat × Bool} {s : State} {l : Nat} {f : Lane → Lane} (inv : PeriodAt v s.eng) :
    PeriodAt v (Machine.laneMod s l f).eng :=
  inv

theorem PeriodAt.stopTick {v : Nat × Bool} {s : State} (inv : PeriodAt v s.eng) :
    PeriodAt v (Machine.stopTick s).eng :=
  inv

theorem PeriodAt.sectionMod {v : Nat × Bool} {s : State} {k : Nat} {f : Section → Section} (inv : PeriodAt v s.eng)
    : PeriodAt v (Machine.sectionMod s k f).eng :=
  inv

theorem PeriodAt.lineMod {v : Nat × Bool} {s : State} {k : Nat} {f : DelayLine → DelayLine} (inv : PeriodAt v s.eng)
    : PeriodAt v (Machine.lineMod s k f).eng :=
  inv

theorem PeriodAt.meterMod {v : Nat × Bool} {s : State} {k : Nat} {f : Meter → Meter} (inv : PeriodAt v s.eng) :
    PeriodAt v (Machine.meterMod s k f).eng :=
  inv

theorem PeriodAt.nvmStart {v : Nat × Bool} {s : State} (inv : PeriodAt v s.eng) :
    PeriodAt v (Machine.nvmStart s).eng := by
  unfold Machine.nvmStart
  split
  · exact inv
  · exact .ite inv (.ite inv inv)

theorem PeriodAt.askNvm {v : Nat × Bool} {s : State} {j : NvmJob} (inv : PeriodAt v s.eng) :
    PeriodAt v (Machine.askNvm j s).eng :=
  .nvmStart inv

theorem PeriodAt.askSummary {v : Nat × Bool} {s : State} (inv : PeriodAt v s.eng) :
    PeriodAt v (Machine.askSummary s).eng :=
  .askNvm inv

theorem PeriodAt.placeMoorings {v : Nat × Bool} {s : State} {c : Chart} {log : Nat} (inv : PeriodAt v s.eng) :
    PeriodAt v (Machine.placeMoorings c log s).eng :=
  .foldl inv (fun _ _ h => .mooringChanged h)

theorem PeriodAt.slotMod {v : Nat × Bool} {s : State} {k : Nat} {f : Slot → Slot} (inv : PeriodAt v s.eng) :
    PeriodAt v (Machine.slotMod s k f).eng :=
  inv

theorem PeriodAt.commitSlot {v : Nat × Bool} {s : State} {k : Nat} {target : Word} {ms log : Nat}
    (inv : PeriodAt v s.eng) : PeriodAt v (Machine.commitSlot k target ms log s).eng :=
  .slotMod inv

theorem PeriodAt.loaderCommit {v : Nat × Bool} {s : State} {k : Nat} {target : Word} {ms log : Nat}
    (inv : PeriodAt v s.eng) : PeriodAt v (Machine.loaderCommit k target ms log s).eng := by
  unfold Machine.loaderCommit
  split
  · exact .ite inv (.commitSlot inv)
  · exact .commitSlot inv

theorem PeriodAt.dropQueued {v : Nat × Bool} {s : State} {r : Option QueuedSel} (inv : PeriodAt v s.eng) :
    PeriodAt v (Machine.dropQueued r s).eng := by
  unfold Machine.dropQueued
  split
  · exact .completed inv
  · exact inv

theorem PeriodAt.startQueued {v : Nat × Bool} {s : State} {k : Nat} (inv : PeriodAt v s.eng) :
    PeriodAt v (Machine.startQueued k s).eng := by
  unfold Machine.startQueued
  split
  · exact .completed (.sectionMod inv)
  · exact inv

theorem PeriodAt.startDelay {v : Nat × Bool} {s : State} {k d0 ms : Nat} (inv : PeriodAt v s.eng) :
    PeriodAt v (Machine.startDelay s k d0 ms).eng :=
  .lineMod inv

theorem PeriodAt.startQueuedDelay {v : Nat × Bool} {s : State} {k : Nat} (inv : PeriodAt v s.eng) :
    PeriodAt v (Machine.startQueuedDelay k s).eng := by
  unfold Machine.startQueuedDelay
  split
  · exact .completed (.ite (.lineMod inv) (.lineMod (.startDelay (.lineMod inv))))
  · exact inv

theorem PeriodAt.limiterMod {v : Nat × Bool} {s : State} {k : Nat} {f : Limiter → Limiter} (inv : PeriodAt v s.eng)
    : PeriodAt v (Machine.limiterMod s k f).eng :=
  inv

theorem PeriodAt.protectMod {v : Nat × Bool} {s : State} {i : Nat} {f : Protect → Protect} (inv : PeriodAt v s.eng)
    : PeriodAt v (Machine.protectMod s i f).eng :=
  inv

theorem PeriodAt.auxMod {v : Nat × Bool} {s : State} {c : Nat} {f : Aux → Aux} (inv : PeriodAt v s.eng) :
    PeriodAt v (Machine.auxMod s c f).eng :=
  inv

theorem PeriodAt.queueMod {v : Nat × Bool} {s : State} {c : Nat} {f : AuxQueue → AuxQueue} (inv : PeriodAt v s.eng)
    : PeriodAt v (Machine.queueMod s c f).eng :=
  inv

theorem PeriodAt.auxFabricTick {v : Nat × Bool} {s : State} (inv : PeriodAt v s.eng) :
    PeriodAt v (Machine.auxFabricTick s).eng :=
  inv

theorem PeriodAt.auxStimulus {v : Nat × Bool} {s : State} {tip : Bool} (inv : PeriodAt v s.eng) :
    PeriodAt v (Machine.auxStimulus tip s).eng := by
  unfold Machine.auxStimulus
  refine .auxMod ?_
  dsimp only
  exact .queueMod inv

theorem PeriodAt.jackMod {v : Nat × Bool} {s : State} {j : Nat} {f : Jack → Jack} (inv : PeriodAt v s.eng) :
    PeriodAt v (Machine.jackMod s j f).eng :=
  .ite inv inv

theorem PeriodAt.serveJack {v : Nat × Bool} {s : State} {j : Nat} (inv : PeriodAt v s.eng) :
    PeriodAt v (Machine.serveJack s j).eng :=
  .ite (.auxStimulus (.jackMod inv)) inv

theorem PeriodAt.serveJacks {v : Nat × Bool} {s : State} (inv : PeriodAt v s.eng) :
    PeriodAt v (Machine.serveJacks s).eng :=
  .serveJack (.serveJack inv)

theorem PeriodAt.jacksBack {v : Nat × Bool} {s : State} (inv : PeriodAt v s.eng) :
    PeriodAt v (Machine.jacksBack s).eng :=
  .jackMod (.jackMod inv)

theorem PeriodAt.auxStimulusEnd {v : Nat × Bool} {s : State} (inv : PeriodAt v s.eng) :
    PeriodAt v (Machine.auxStimulusEnd s).eng :=
  .auxMod (.queueMod inv)

theorem PeriodAt.micMod {v : Nat × Bool} {s : State} {o : Nat} {f : MicBias → MicBias} (inv : PeriodAt v s.eng) :
    PeriodAt v (Machine.micMod s o f).eng :=
  .ite inv inv

theorem PeriodAt.capMod {v : Nat × Bool} {s : State} {c : Nat} {f : Capture → Capture} (inv : PeriodAt v s.eng) :
    PeriodAt v (Machine.capMod s c f).eng :=
  inv

theorem PeriodAt.micStop {v : Nat × Bool} {s : State} {o st : Nat} (inv : PeriodAt v s.eng) :
    PeriodAt v (Machine.micStop o st s).eng :=
  .auxMod (.micMod inv)

theorem PeriodAt.postAuxFault {v : Nat × Bool} {s : State} {mask cause : Nat} (inv : PeriodAt v s.eng) :
    PeriodAt v (Machine.postAuxFault mask cause s).eng :=
  .posted inv

theorem PeriodAt.auxAllOff {v : Nat × Bool} {s : State} (inv : PeriodAt v s.eng) :
    PeriodAt v (Machine.auxAllOff s).eng :=
  .foldl (.foldl inv (fun _ _ h => .auxMod h)) (fun _ _ h => .queueMod h)

theorem PeriodAt.auxGoOff {v : Nat × Bool} {s : State} {cause : Nat} (inv : PeriodAt v s.eng) :
    PeriodAt v (Machine.auxGoOff cause s).eng := by
  unfold Machine.auxGoOff
  refine .jacksBack (.postAuxFault ?_)
  dsimp only
  exact .auxAllOff inv

theorem PeriodAt.auxResume {v : Nat × Bool} {s : State} (inv : PeriodAt v s.eng) :
    PeriodAt v (Machine.auxResume s).eng := by
  unfold Machine.auxResume
  refine .ite inv (.serveJacks (.postAuxFault ?_))
  dsimp only
  exact .auxMod inv

theorem PeriodAt.auxFollow {v : Nat × Bool} {s : State} (inv : PeriodAt v s.eng) :
    PeriodAt v (Machine.auxFollow s).eng :=
  .ite inv (.ite (.foldl (.auxGoOff inv) (fun _ _ h => .ite (.micStop h) h)) (.auxResume inv))

theorem PeriodAt.refreshDetRef {v : Nat × Bool} {s : State} (inv : PeriodAt v s.eng) :
    PeriodAt v (Machine.refreshDetRef s).eng :=
  .auxMod inv

theorem PeriodAt.usbMod {v : Nat × Bool} {s : State} {p : Nat} {f : Usb → Usb} (inv : PeriodAt v s.eng) :
    PeriodAt v (Machine.usbMod s p f).eng :=
  .ite inv inv

theorem PeriodAt.usbStreamMod {v : Nat × Bool} {s : State} {p i : Nat} {f : UsbStream → UsbStream}
    (inv : PeriodAt v s.eng) : PeriodAt v (Machine.usbStreamMod s p i f).eng :=
  .usbMod inv

theorem PeriodAt.usbDiscard {v : Nat × Bool} {s : State} {n : Nat} (inv : PeriodAt v s.eng) :
    PeriodAt v (Machine.usbDiscard n s).eng :=
  .foldl inv (fun _ _ h => .foldl h (fun _ _ h => .ite (.usbStreamMod h) h))

theorem PeriodAt.hidChange {v : Nat × Bool} {s : State} {p bits : Nat} (inv : PeriodAt v s.eng) :
    PeriodAt v (Machine.hidChange p bits s).eng :=
  .usbMod inv

theorem PeriodAt.hidBit {v : Nat × Bool} {s : State} {p k : Nat} {on : Bool} (inv : PeriodAt v s.eng) :
    PeriodAt v (Machine.hidBit p k on s).eng :=
  .hidChange inv

theorem PeriodAt.outMod {v : Nat × Bool} {s : State} {o : Nat} {f : Output → Output} (inv : PeriodAt v s.eng) :
    PeriodAt v (Machine.outMod s o f).eng :=
  inv

theorem PeriodAt.postOutState {v : Nat × Bool} {s : State} {o st cause log : Nat} (inv : PeriodAt v s.eng) :
    PeriodAt v (Machine.postOutState o st cause log s).eng :=
  .posted inv

theorem PeriodAt.refreshPump {v : Nat × Bool} {s : State} (inv : PeriodAt v s.eng) :
    PeriodAt v (Machine.refreshPump s).eng :=
  inv

theorem PeriodAt.enterOut {v : Nat × Bool} {s : State} {o st : Nat} (inv : PeriodAt v s.eng) :
    PeriodAt v (Machine.enterOut o st s).eng :=
  .auxFollow (.ite (.refreshPump (.outMod inv)) (.postOutState (.refreshPump (.outMod inv))))

theorem PeriodAt.openChannels {v : Nat × Bool} {s : State} (inv : PeriodAt v s.eng) :
    PeriodAt v (Machine.openChannels s).eng :=
  inv

theorem PeriodAt.askRamp {v : Nat × Bool} {s : State} {o : Nat} {up : Bool} {tenths after cause log : Nat}
    (inv : PeriodAt v s.eng) : PeriodAt v (Machine.askRamp o up tenths after cause log s).eng :=
  .outMod inv

theorem PeriodAt.startOutput {v : Nat × Bool} {s : State} {o tenths cause log : Nat} (inv : PeriodAt v s.eng) :
    PeriodAt v (Machine.startOutput o tenths cause log s).eng :=
  .ite (.ite inv (.enterOut (.outMod inv))) (.ite (.ite (.outMod inv)
    (.auxFollow (.askRamp (.openChannels (.outMod inv))))) (.auxFollow (.refreshPump (.outMod inv))))

theorem PeriodAt.stopDriving {v : Nat × Bool} {s : State} {o : Nat} (inv : PeriodAt v s.eng) :
    PeriodAt v (Machine.stopDriving o s).eng :=
  .refreshPump (.outMod inv)

theorem PeriodAt.clampOutput {v : Nat × Bool} {s : State} {o : Nat} (inv : PeriodAt v s.eng) :
    PeriodAt v (Machine.clampOutput o s).eng :=
  .enterOut (.stopDriving (.outMod inv))

theorem PeriodAt.takeEnable {v : Nat × Bool} {s : State} {o : Nat} (inv : PeriodAt v s.eng) :
    PeriodAt v (Machine.takeEnable o s).eng :=
  .ite (.outMod inv) (.ite (.ite (.enterOut (.outMod inv)) (.ite (.enterOut (.outMod inv)) (.startOutput inv)))
    (.ite (.ite (.outMod inv) (.askRamp inv)) inv))

theorem PeriodAt.takeDisable {v : Nat × Bool} {s : State} {o : Nat} (inv : PeriodAt v s.eng) :
    PeriodAt v (Machine.takeDisable o s).eng :=
  .ite inv (.ite (.outMod inv) (.ite (.clampOutput (.outMod inv)) (.ite (.outMod inv) (.askRamp (.outMod inv)))))

theorem PeriodAt.takeRamp {v : Nat × Bool} {s : State} {o : Nat} (inv : PeriodAt v s.eng) :
    PeriodAt v (Machine.takeRamp o s).eng := by
  unfold Machine.takeRamp
  dsimp only
  split
  · exact inv
  · exact .ite (.outMod inv) (.outMod inv)

theorem PeriodAt.takeRises {v : Nat × Bool} {s : State} (inv : PeriodAt v s.eng) :
    PeriodAt v (Machine.takeRises s).eng := by
  unfold Machine.takeRises
  refine .ite ?_ inv
  dsimp only
  exact .ite (.outMod inv) inv

theorem PeriodAt.stepOutput {v : Nat × Bool} {s : State} {o : Nat} (inv : PeriodAt v s.eng) :
    PeriodAt v (Machine.stepOutput s o).eng := by
  unfold Machine.stepOutput
  refine .ite ?_ (.outMod inv)
  dsimp only
  exact .outMod inv

theorem PeriodAt.restOutput {v : Nat × Bool} {s : State} {o : Nat} (inv : PeriodAt v s.eng) :
    PeriodAt v (Machine.restOutput s o).eng :=
  .ite inv (.ite (.enterOut (.stopDriving (.outMod inv))) (.ite (.askRamp inv) inv))

theorem PeriodAt.latchEnable {v : Nat × Bool} {s : State} {o : Nat} (inv : PeriodAt v s.eng) :
    PeriodAt v (Machine.latchEnable s o).eng := by
  unfold Machine.latchEnable
  split
  · exact .takeEnable (.outMod inv)
  · exact .takeDisable (.outMod inv)
  · exact inv

theorem PeriodAt.tickOutput {v : Nat × Bool} {s : State} {o : Nat} (inv : PeriodAt v s.eng) :
    PeriodAt v (Machine.tickOutput s o).eng := by
  unfold Machine.tickOutput
  extract_lets s1 s2 s3
  have hs1 : PeriodAt v s1.eng := .latchEnable inv
  have hs2 : PeriodAt v s2.eng := .ite (.restOutput hs1) hs1
  have hs3 : PeriodAt v s3.eng := .ite hs2 (.takeRamp hs2)
  exact .ite (.takeRises hs3) hs3

theorem PeriodAt.endStimulus {v : Nat × Bool} {s : State} {j : Nat} (inv : PeriodAt v s.eng) :
    PeriodAt v (Machine.endStimulus j s).eng :=
  .ite (.auxStimulusEnd inv) inv

theorem PeriodAt.hidRelease {v : Nat × Bool} {s : State} {j : Nat} (inv : PeriodAt v s.eng) :
    PeriodAt v (Machine.hidRelease j s).eng :=
  .ite (.foldl inv (fun _ _ h => .hidBit h)) inv

theorem PeriodAt.releaseButton {v : Nat × Bool} {s : State} {j : Nat} (inv : PeriodAt v s.eng) :
    PeriodAt v (Machine.releaseButton j s).eng :=
  .jackMod (.hidRelease inv)

theorem PeriodAt.dropReclassify {v : Nat × Bool} {s : State} {j : Nat} (inv : PeriodAt v s.eng) :
    PeriodAt v (Machine.dropReclassify j s).eng :=
  .completedAll (.jackMod inv)

theorem PeriodAt.swapJack {v : Nat × Bool} {s : State} {j : Nat} (inv : PeriodAt v s.eng) :
    PeriodAt v (Machine.swapJack s j).eng :=
  .ite (.serveJacks (.dropReclassify (.jackMod (.endStimulus (.releaseButton inv))))) inv

theorem PeriodAt.netMod {v : Nat × Bool} {s : State} {f : NetState → NetState} (inv : PeriodAt v s.eng) :
    PeriodAt v (Machine.netMod s f).eng :=
  inv

theorem PeriodAt.streamMod {v : Nat × Bool} {s : State} {n : Nat} {f : Machine.Stream → Machine.Stream}
    (inv : PeriodAt v s.eng) : PeriodAt v (Machine.streamMod s n f).eng :=
  .netMod inv

theorem PeriodAt.streamsRefused {v : Nat × Bool} {s : State} {ov status log : Nat} (inv : PeriodAt v s.eng) :
    PeriodAt v (Machine.streamsRefused ov status log s).eng :=
  .foldl inv (fun _ _ h => .ite (.completedAll (.posted (.streamMod h))) h)

theorem PeriodAt.ovMod {v : Nat × Bool} {s : State} {n : Nat} {f : Overlay → Overlay} (inv : PeriodAt v s.eng) :
    PeriodAt v (Machine.ovMod s n f).eng :=
  inv

theorem PeriodAt.ovChanged {v : Nat × Bool} {s : State} {n st : Nat} {c : OvCause} (inv : PeriodAt v s.eng) :
    PeriodAt v (Machine.ovChanged n st c s).eng :=
  .posted inv

theorem PeriodAt.enterOv {v : Nat × Bool} {s : State} {n st : Nat} (inv : PeriodAt v s.eng) :
    PeriodAt v (Machine.enterOv n st s).eng :=
  .ovChanged (.ovMod inv)

theorem PeriodAt.gateTo {v : Nat × Bool} {s : State} {n : Nat} {up cut : Bool} {ramp : Nat} (inv : PeriodAt v s.eng)
    : PeriodAt v (Machine.gateTo n up cut ramp s).eng := by
  unfold Machine.gateTo
  split
  · exact .commitSlot inv
  · exact inv

theorem PeriodAt.rampMod {v : Nat × Bool} {s : State} {k : Nat} {f : RouteRamp → RouteRamp} (inv : PeriodAt v s.eng)
    : PeriodAt v (Machine.rampMod s k f).eng :=
  inv

theorem PeriodAt.askRoutes {v : Nat × Bool} {s : State} {up : Bool} {ks : List Nat} (inv : PeriodAt v s.eng) :
    PeriodAt v (Machine.askRoutes up ks s).eng :=
  .foldl inv (fun _ _ h => .rampMod h)

theorem PeriodAt.clearRamp {v : Nat × Bool} {s : State} {k : Nat} (inv : PeriodAt v s.eng) :
    PeriodAt v (Machine.clearRamp k s).eng :=
  .slotMod inv

theorem PeriodAt.askLoad {v : Nat × Bool} {s : State} {w : LoadWhat} (inv : PeriodAt v s.eng) :
    PeriodAt v (Machine.askLoad w s).eng :=
  inv

theorem PeriodAt.startActivation {v : Nat × Bool} {s : State} {n : Nat} {q : QueuedAct} {ws : List Waiter}
    (inv : PeriodAt v s.eng) : PeriodAt v (Machine.startActivation n q ws s).eng :=
  .askLoad (.ovMod inv)

theorem PeriodAt.reverseOverlay {v : Nat × Bool} {s : State} {n st : Nat} {q : QueuedAct} (inv : PeriodAt v s.eng) :
    PeriodAt v (Machine.reverseOverlay n st q s).eng :=
  .askRoutes (.gateTo (.enterOv (.ovMod (.completedAll inv))))

theorem PeriodAt.activateOverlay {v : Nat × Bool} {s : State} {n : Nat} {q : QueuedAct} (inv : PeriodAt v s.eng) :
    PeriodAt v (Machine.activateOverlay n q s).2.eng := by
  unfold Machine.activateOverlay
  split
  · exact .startActivation inv
  · exact inv
  · exact .reverseOverlay inv
  · exact .ovMod inv
  · exact .ovMod inv

theorem PeriodAt.dropLoad {v : Nat × Bool} {s : State} (inv : PeriodAt v s.eng) :
    PeriodAt v (Machine.dropLoad s).eng := by
  unfold Machine.dropLoad
  split
  · exact inv
  · exact .foldl (.askRoutes inv) (fun _ _ h => .ite (.askRamp h) h)

theorem PeriodAt.abandonActivation {v : Nat × Bool} {s : State} {n : Nat} (inv : PeriodAt v s.eng) :
    PeriodAt v (Machine.abandonActivation n s).eng := by
  unfold Machine.abandonActivation
  dsimp only
  split
  · exact .ite (.dropLoad inv) inv
  · exact inv

theorem PeriodAt.startDeactivation {v : Nat × Bool} {s : State} {n : Nat} {q : QueuedAct} (inv : PeriodAt v s.eng) :
    PeriodAt v (Machine.startDeactivation n q s).eng :=
  .askRoutes (.gateTo (.enterOv (.ovMod inv)))

theorem PeriodAt.giveUp {v : Nat × Bool} {s : State} {n log : Nat} {ws : List Waiter} (inv : PeriodAt v s.eng) :
    PeriodAt v (Machine.giveUp n log ws s).eng :=
  .streamsRefused (.completedAll inv)

theorem PeriodAt.concludeOverlay {v : Nat × Bool} {s : State} {n : Nat} (inv : PeriodAt v s.eng) :
    PeriodAt v (Machine.concludeOverlay n s).eng := by
  unfold Machine.concludeOverlay
  refine .ite (.completedAll (.enterOv (.ovMod (.clearRamp inv))))
    (.ite (.ite (.askLoad (.ovMod (.clearRamp inv))) (.clearRamp inv)) ?_)
  split
  · refine .ite (.askLoad ?_) inv
    dsimp only
    exact .ovMod (.clearRamp (.clearRamp inv))
  · exact inv

theorem PeriodAt.deactivateOverlay {v : Nat × Bool} {s : State} {n : Nat} {q : QueuedAct} (inv : PeriodAt v s.eng) :
    PeriodAt v (Machine.deactivateOverlay n q s).2.eng := by
  unfold Machine.deactivateOverlay
  extract_lets v
  split
  · exact inv
  · dsimp only
    exact .usbDiscard (.enterOv (.ovMod (.giveUp (.abandonActivation inv))))
  · exact .reverseOverlay inv
  · exact .startDeactivation inv
  · dsimp only
    exact .giveUp (.ovMod inv)

theorem PeriodAt.variantStep {v : Nat × Bool} {s : State} (inv : PeriodAt v s.eng) :
    PeriodAt v (Machine.variantStep s).eng := by
  unfold Machine.variantStep
  split
  · refine .ite inv (.ite (.askLoad ?_) (.foldl inv (fun _ _ h => .ite (.deactivateOverlay h) h)))
    dsimp only
    exact .foldl inv (fun _ _ h => .ite (.deactivateOverlay h) h)
  · exact inv

theorem PeriodAt.domMod {v : Nat × Bool} {s : State} {d : Nat} {f : Domain → Domain} (inv : PeriodAt v s.eng) :
    PeriodAt v (Machine.domMod s d f).eng :=
  inv

theorem PeriodAt.convMod {v : Nat × Bool} {s : State} {k : Nat} {f : Convoy → Convoy} (inv : PeriodAt v s.eng) :
    PeriodAt v (Machine.convMod s k f).eng :=
  inv

theorem PeriodAt.memMod {v : Nat × Bool} {s : State} {k m : Nat} {f : Member → Member} (inv : PeriodAt v s.eng) :
    PeriodAt v (Machine.memMod s k m f).eng :=
  .convMod inv

theorem PeriodAt.pllMod {v : Nat × Bool} {s : State} {p : Nat} {f : Pll → Pll} (inv : PeriodAt v s.eng) :
    PeriodAt v (Machine.pllMod s p f).eng :=
  .ite inv inv

theorem PeriodAt.postMuted {v : Nat × Bool} {s : State} {k members cause log : Nat} (inv : PeriodAt v s.eng) :
    PeriodAt v (Machine.postMuted k members cause log s).eng :=
  .ite (.posted (.convMod (.pairIte (.drawElapsed (.convMod inv)) (.convMod inv))))
    (.pairIte (.drawElapsed (.convMod inv)) (.convMod inv))

theorem PeriodAt.convCount {v : Nat × Bool} {s : State} {k i : Nat} (inv : PeriodAt v s.eng) :
    PeriodAt v (Machine.convCount k i s).eng :=
  .convMod inv

theorem PeriodAt.muteConvoy {v : Nat × Bool} {s : State} {log k : Nat} (inv : PeriodAt v s.eng) :
    PeriodAt v (Machine.muteConvoy log s k).eng :=
  .ite inv (.postMuted (.convCount (.convMod inv)))

theorem PeriodAt.postPll {v : Nat × Bool} {s : State} {p log : Nat} (inv : PeriodAt v s.eng) :
    PeriodAt v (Machine.postPll p log s).eng :=
  .posted inv

theorem PeriodAt.setPllMode {v : Nat × Bool} {s : State} {p mode log : Nat} (inv : PeriodAt v s.eng) :
    PeriodAt v (Machine.setPllMode p mode log s).eng :=
  .ite (.pllMod inv) (.ite inv (.postPll (.pllMod inv)))

theorem PeriodAt.pllsFollow {v : Nat × Bool} {s : State} {d log : Nat} (inv : PeriodAt v s.eng) :
    PeriodAt v (Machine.pllsFollow d log s).eng :=
  .foldl inv (fun _ _ h => .ite (.ite (.setPllMode h) (.ite (.setPllMode h) h)) h)

theorem PeriodAt.takeDiscipline {v : Nat × Bool} {s : State} {p : Nat} (inv : PeriodAt v s.eng) :
    PeriodAt v (Machine.takeDiscipline p s).eng := by
  unfold Machine.takeDiscipline
  split
  · exact inv
  · exact .ite (.postPll (.setPllMode (.pllMod inv))) (.setPllMode (.pllMod inv))

theorem PeriodAt.tickSteer {v : Nat × Bool} {s : State} {p : Nat} (inv : PeriodAt v s.eng) :
    PeriodAt v (Machine.tickSteer s p).eng :=
  .ite inv (.ite (.pllMod inv) (.ite (.pllMod (.drawRound inv)) (.drawRound inv)))

theorem PeriodAt.leaveLocked {v : Nat × Bool} {s : State} {d cause log : Nat} (inv : PeriodAt v s.eng) :
    PeriodAt v (Machine.leaveLocked d cause log s).eng :=
  .pllsFollow (.foldl (.posted inv) (fun _ _ h => .muteConvoy h))

theorem PeriodAt.unlockFor {v : Nat × Bool} {s : State} {d cause log : Nat} (inv : PeriodAt v s.eng) :
    PeriodAt v (Machine.unlockFor d cause log s).eng :=
  .ite inv (.ite (.leaveLocked (.domMod inv)) (.domMod inv))

theorem PeriodAt.unlockDomain {v : Nat × Bool} {s : State} {d cause : Nat} (inv : PeriodAt v s.eng) :
    PeriodAt v (Machine.unlockDomain d cause s).eng :=
  .unlockFor inv

theorem PeriodAt.dropInvalid {v : Nat × Bool} {s : State} (inv : PeriodAt v s.eng) :
    PeriodAt v (Machine.dropInvalid s).eng :=
  .foldl inv (fun _ _ h => .ite h (.unlockDomain h))

theorem PeriodAt.measureOffset {v : Nat × Bool} {s : State} {d : Nat} (inv : PeriodAt v s.eng) :
    PeriodAt v (Machine.measureOffset d s).2.eng :=
  .pairIte inv (.drawReading inv)

theorem PeriodAt.tickTracker {v : Nat × Bool} {s : State} {d : Nat} (inv : PeriodAt v s.eng) :
    PeriodAt v (Machine.tickTracker s d).eng :=
  .ite (.ite (.pllsFollow (.domMod (.domMod (.measureOffset inv)))) (.domMod (.measureOffset inv))) inv

theorem PeriodAt.takeDomain {v : Nat × Bool} {s : State} {d : Nat} (inv : PeriodAt v s.eng) :
    PeriodAt v (Machine.takeDomain s d).eng :=
  .ite inv (.ite (.domMod inv) (.ite (.leaveLocked (.domMod (.domMod (.domMod inv))))
    (.domMod (.domMod (.domMod inv)))))

theorem PeriodAt.tickClocks {v : Nat × Bool} {s : State} (inv : PeriodAt v s.eng) :
    PeriodAt v (Machine.tickClocks s).eng := by
  unfold Machine.tickClocks
  exact .tickSteer (.tickSteer (.foldl (.foldl (.takeDiscipline (.takeDiscipline (.dropInvalid inv)))
    (fun _ _ h => .takeDomain h)) (fun _ _ h => .tickTracker h)))

theorem PeriodAt.startClocks {v : Nat × Bool} {s : State} (inv : PeriodAt v s.eng) :
    PeriodAt v (Machine.startClocks s).eng :=
  .foldl (.foldl inv (fun _ _ h => .domMod h)) (fun _ _ h => .takeDiscipline (.pllMod h))

theorem PeriodAt.startFadeOut {v : Nat × Bool} {s : State} {k m : Nat} (inv : PeriodAt v s.eng) :
    PeriodAt v (Machine.startFadeOut k m s).eng :=
  .memMod inv

theorem PeriodAt.startFadeIn {v : Nat × Bool} {s : State} {k m : Nat} (inv : PeriodAt v s.eng) :
    PeriodAt v (Machine.startFadeIn k m s).eng :=
  .memMod inv

theorem PeriodAt.dropMember {v : Nat × Bool} {s : State} {k m cause : Nat} (inv : PeriodAt v s.eng) :
    PeriodAt v (Machine.dropMember k m cause s).eng :=
  .postMuted (.foldl inv (fun _ _ h => .startFadeOut h))

theorem PeriodAt.memberReady {v : Nat × Bool} {s : State} {k m : Nat} (inv : PeriodAt v s.eng) :
    PeriodAt v (Machine.memberReady k m s).eng :=
  .ite (.memMod inv) (.startFadeIn inv)

theorem PeriodAt.startMember {v : Nat × Bool} {s : State} {k m : Nat} (inv : PeriodAt v s.eng) :
    PeriodAt v (Machine.startMember k m s).eng :=
  .ite inv (.memMod inv)

theorem PeriodAt.stopMember {v : Nat × Bool} {s : State} {k m : Nat} (inv : PeriodAt v s.eng) :
    PeriodAt v (Machine.stopMember k m s).eng :=
  .ite inv (.ite (.memMod (.foldl inv (fun _ _ h => .startFadeOut h))) (.ite (.memMod inv) (.memMod inv)))

theorem PeriodAt.startMembers {v : Nat × Bool} {s : State} {port sub : Nat} {egress : Bool} (inv : PeriodAt v s.eng)
    : PeriodAt v (Machine.startMembers port sub egress s).eng :=
  .foldl inv (fun _ _ h => .startMember h)

theorem PeriodAt.blockMember {v : Nat × Bool} {s : State} {k m : Nat} (inv : PeriodAt v s.eng) :
    PeriodAt v (Machine.blockMember k m s).eng :=
  .postMuted (.convCount (.memMod inv))

theorem PeriodAt.holdSample {v : Nat × Bool} {s : State} {k m index : Nat} {timed : Bool}
    {sample : List (BitVec 32)} (inv : PeriodAt v s.eng) : PeriodAt v
    (Machine.holdSample k m index timed sample s).eng :=
  .ite (.blockMember (.memMod inv)) (.memMod inv)

theorem PeriodAt.sampleArrives {v : Nat × Bool} {s : State} {k m index : Nat} {sample : List (BitVec 32)}
    (inv : PeriodAt v s.eng) : PeriodAt v (Machine.sampleArrives k m index sample s).eng :=
  .ite inv (.ite (.convCount inv) (.ite (.ite (.dropMember (.convCount inv)) inv) (.ite inv (.holdSample inv))))

theorem PeriodAt.tryAlign {v : Nat × Bool} {s : State} {k m : Nat} (inv : PeriodAt v s.eng) :
    PeriodAt v (Machine.tryAlign k m s).eng :=
  .ite inv (.ite (.ite (.blockMember inv) (.ite (.memberReady inv) inv)) (.ite (.memberReady (.memMod inv)) inv))

theorem PeriodAt.lockstepStart {v : Nat × Bool} {s : State} {k : Nat} (inv : PeriodAt v s.eng) :
    PeriodAt v (Machine.lockstepStart k s).eng :=
  .ite (.foldl inv (fun _ _ h => .startFadeIn h)) inv

theorem PeriodAt.settleIndex {v : Nat × Bool} {s : State} {k : Nat} (inv : PeriodAt v s.eng) :
    PeriodAt v (Machine.settleIndex k s).eng :=
  .ite (.lockstepStart (.convMod inv)) inv

theorem PeriodAt.stopMembers {v : Nat × Bool} {s : State} {port sub : Nat} {egress : Bool} (inv : PeriodAt v s.eng)
    : PeriodAt v (Machine.stopMembers port sub egress s).eng :=
  .foldl inv (fun _ _ h => .settleIndex (.stopMember h))

theorem PeriodAt.takeMode {v : Nat × Bool} {s : State} {k : Nat} (inv : PeriodAt v s.eng) :
    PeriodAt v (Machine.takeMode s k).eng := by
  unfold Machine.takeMode
  split
  · exact inv
  · exact .ite (.convMod inv) (.ite (.ite (.convMod inv) (.convMod
      (.foldl (.convMod inv) (fun _ _ h => .startFadeOut h))))
      (.foldl (.convMod inv) (fun _ _ h => .startFadeIn h)))

theorem PeriodAt.tickConvoy {v : Nat × Bool} {s : State} {k : Nat} (inv : PeriodAt v s.eng) :
    PeriodAt v (Machine.tickConvoy s k).eng :=
  .ite (.convMod (.takeMode inv)) (.takeMode inv)

theorem PeriodAt.swapMember {v : Nat × Bool} {s : State} {k m : Nat} (inv : PeriodAt v s.eng) :
    PeriodAt v (Machine.swapMember k m s).eng :=
  .ite inv (.ite (.startMember inv) (.ite (.memMod inv) (.tryAlign (.memMod inv))))

theorem PeriodAt.swapConvoy {v : Nat × Bool} {s : State} {old : Bank} {running : Nat → Nat → Bool → Bool} {k : Nat}
    (inv : PeriodAt v s.eng) : PeriodAt v (Machine.swapConvoy old running s k).eng :=
  .ite (.ite (.convMod inv) inv) (.ite inv (.settleIndex (.convMod
    (.foldl (.convMod inv) (fun _ _ h => .ite (.swapMember h) h)))))

theorem PeriodAt.relayMod {v : Nat × Bool} {s : State} {f : Relay → Relay} (inv : PeriodAt v s.eng) :
    PeriodAt v (Machine.relayMod s f).eng :=
  inv

theorem PeriodAt.modMod {v : Nat × Bool} {s : State} {m : Nat} {f : Modulator → Modulator} (inv : PeriodAt v s.eng)
    : PeriodAt v (Machine.modMod s m f).eng :=
  inv

theorem PeriodAt.postRelay {v : Nat × Bool} {s : State} {code inst data : Nat} (inv : PeriodAt v s.eng) :
    PeriodAt v (Machine.postRelay code inst data s).eng :=
  .posted inv

theorem PeriodAt.endStep {v : Nat × Bool} {s : State} (inv : PeriodAt v s.eng) :
    PeriodAt v (Machine.endStep s).eng := by
  unfold Machine.endStep
  refine .relayMod ?_
  split
  · exact .ite (.modMod inv) inv
  · exact inv

theorem PeriodAt.abortStep {v : Nat × Bool} {s : State} {cause : Nat} (inv : PeriodAt v s.eng) :
    PeriodAt v (Machine.abortStep cause s).eng :=
  .postRelay (.endStep inv)

theorem PeriodAt.relaySwap {v : Nat × Bool} {s : State} {changed : List Nat} (inv : PeriodAt v s.eng) :
    PeriodAt v (Machine.relaySwap changed s).eng :=
  .ite (.abortStep inv) inv

theorem PeriodAt.tickCapture {v : Nat × Bool} {s : State} {ch : Nat} (inv : PeriodAt v s.eng) :
    PeriodAt v (Machine.tickCapture s ch).eng :=
  .capMod inv

theorem PeriodAt.tickRelay {v : Nat × Bool} {s : State} (inv : PeriodAt v s.eng) :
    PeriodAt v (Machine.tickRelay s).eng :=
  .relayMod inv

theorem PeriodAt.swapMicBias {v : Nat × Bool} {s : State} {a b : List Byte} {fresh : Bool} {ch : Nat}
    (inv : PeriodAt v s.eng) : PeriodAt v (Machine.swapMicBias a b fresh s ch).eng :=
  .ite inv (.ite (.capMod inv) (.capMod inv))

theorem PeriodAt.restartChain {v : Nat × Bool} {s : State} {ch : Nat} (inv : PeriodAt v s.eng) :
    PeriodAt v (Machine.restartChain s ch).eng :=
  .ite (.modMod (.capMod inv)) (.capMod inv)

theorem PeriodAt.swapCapture {v : Nat × Bool} {s : State} {old : Nat → List Byte} {ch : Nat}
    (inv : PeriodAt v s.eng) : PeriodAt v (Machine.swapCapture old s ch).eng :=
  .ite inv (.swapMicBias (.ite (.capMod (.capMod inv)) (.ite (.restartChain (.capMod inv)) (.capMod inv))))

theorem PeriodAt.swapCaptures {v : Nat × Bool} {s : State} {old : Nat → List Byte} (inv : PeriodAt v s.eng) :
    PeriodAt v (Machine.swapCaptures old s).eng :=
  .relaySwap (.foldl inv (fun _ _ h => .swapCapture h))

theorem PeriodAt.startCaptures {v : Nat × Bool} {s : State} (inv : PeriodAt v s.eng) :
    PeriodAt v (Machine.startCaptures s).eng :=
  .foldl inv (fun _ _ h => .swapCapture h)

theorem PeriodAt.saiMod {v : Nat × Bool} {s : State} {n : Nat} {f : Sai → Sai} (inv : PeriodAt v s.eng) :
    PeriodAt v (Machine.saiMod s n f).eng :=
  inv

theorem PeriodAt.tickSai {v : Nat × Bool} {s : State} {n : Nat} (inv : PeriodAt v s.eng) :
    PeriodAt v (Machine.tickSai s n).eng :=
  .ite (.saiMod (.ite (.saiMod inv) inv)) (.ite (.saiMod inv) inv)

theorem PeriodAt.spdifPins {v : Nat × Bool} {s : State} (inv : PeriodAt v s.eng) :
    PeriodAt v (Machine.spdifPins s).eng :=
  inv

theorem PeriodAt.swapSai {v : Nat × Bool} {s : State} {old : Nat → List Byte} {n : Nat} (inv : PeriodAt v s.eng) :
    PeriodAt v (Machine.swapSai old s n).eng :=
  .ite inv (.ite (.saiMod inv) (.saiMod inv))

theorem PeriodAt.spdifMod {v : Nat × Bool} {s : State} {f : Spdif → Spdif} (inv : PeriodAt v s.eng) :
    PeriodAt v (Machine.spdifMod s f).eng :=
  inv

theorem PeriodAt.directRests {v : Nat × Bool} {s : State} (inv : PeriodAt v s.eng) :
    PeriodAt v (Machine.directRests s).eng :=
  .spdifMod inv

theorem PeriodAt.swapSpdif {v : Nat × Bool} {s : State} {old : Nat → List Byte} (inv : PeriodAt v s.eng) :
    PeriodAt v (Machine.swapSpdif old s).eng :=
  .ite (.directRests (.ite (.ite inv (.spdifMod inv)) (.spdifPins (.spdifMod (.ite inv (.spdifMod inv))))))
    (.ite (.ite inv (.spdifMod inv)) (.spdifPins (.spdifMod (.ite inv (.spdifMod inv)))))

theorem PeriodAt.usbStart {v : Nat × Bool} {s : State} {p i : Nat} (inv : PeriodAt v s.eng) :
    PeriodAt v (Machine.usbStart p i s).eng :=
  .ite (.startMembers inv) inv

theorem PeriodAt.usbStop {v : Nat × Bool} {s : State} {p i : Nat} (inv : PeriodAt v s.eng) :
    PeriodAt v (Machine.usbStop p i s).eng :=
  .stopMembers inv

theorem PeriodAt.postUsb {v : Nat × Bool} {s : State} {code p log data : Nat} (inv : PeriodAt v s.eng) :
    PeriodAt v (Machine.postUsb code p log data s).eng :=
  .posted inv

theorem PeriodAt.postUsbState {v : Nat × Bool} {s : State} {p cause log : Nat} (inv : PeriodAt v s.eng) :
    PeriodAt v (Machine.postUsbState p cause log s).eng :=
  .postUsb inv

theorem PeriodAt.usbLeave {v : Nat × Bool} {s : State} {n log : Nat} (inv : PeriodAt v s.eng) :
    PeriodAt v (Machine.usbLeave n log s).2.eng := by
  unfold Machine.usbLeave
  split
  · exact inv
  · exact .deactivateOverlay inv

theorem PeriodAt.usbForget {v : Nat × Bool} {s : State} {p i : Nat} (inv : PeriodAt v s.eng) :
    PeriodAt v (Machine.usbForget p i s).eng :=
  inv

theorem PeriodAt.usbZero {v : Nat × Bool} {s : State} {p i log : Nat} (inv : PeriodAt v s.eng) :
    PeriodAt v (Machine.usbZero p i log s).2.eng :=
  .pairIte inv (.pairIte (.usbForget (.usbStreamMod (.usbStop inv)))
    (.usbLeave (.usbForget (.usbStreamMod (.usbStop inv)))))

theorem PeriodAt.usbToZero {v : Nat × Bool} {s : State} {p log i : Nat} (inv : PeriodAt v s.eng) :
    PeriodAt v (Machine.usbToZero p log s i).eng :=
  .usbZero inv

theorem PeriodAt.usbAllZero {v : Nat × Bool} {s : State} {p log : Nat} (inv : PeriodAt v s.eng) :
    PeriodAt v (Machine.usbAllZero p log s).eng :=
  .foldl inv (fun _ _ h => .usbToZero h)

theorem PeriodAt.usbDetach {v : Nat × Bool} {s : State} {p cause log : Nat} (inv : PeriodAt v s.eng) :
    PeriodAt v (Machine.usbDetach p cause log s).eng :=
  .ite inv (.postUsbState (.usbMod (.usbAllZero inv)))

theorem PeriodAt.usbAttach {v : Nat × Bool} {s : State} {p cause log : Nat} (inv : PeriodAt v s.eng) :
    PeriodAt v (Machine.usbAttach p cause log s).eng :=
  .postUsbState (.usbMod inv)

theorem PeriodAt.usbFollow {v : Nat × Bool} {s : State} {p cause log : Nat} (inv : PeriodAt v s.eng) :
    PeriodAt v (Machine.usbFollow p cause log s).eng :=
  .ite (.usbDetach inv) (.ite (.usbAttach inv) (.ite (.usbAttach (.usbDetach inv)) inv))

theorem PeriodAt.usbEnter {v : Nat × Bool} {s : State} {p i n log : Nat} (inv : PeriodAt v s.eng) :
    PeriodAt v (Machine.usbEnter p i n log s).2.eng := by
  unfold Machine.usbEnter
  refine .pairIte (.ite (.usbLeave (.usbForget inv)) (.usbForget inv)) ?_
  split
  · split
    · dsimp only
      split
      · exact inv
      · refine .pairIte ?_ (.activateOverlay (.usbLeave (.usbForget inv)))
        dsimp only
        exact .usbLeave (.usbForget inv)
    · dsimp only
      split
      · exact inv
      · refine .pairIte ?_ (.activateOverlay (.usbForget inv))
        dsimp only
        exact .usbForget inv
  · split
    · dsimp only
      split
      · exact inv
      · refine .pairIte ?_ (.activateOverlay (.usbLeave (.usbForget inv)))
        dsimp only
        exact .usbLeave (.usbForget inv)
    · dsimp only
      split
      · exact inv
      · refine .pairIte ?_ (.activateOverlay (.usbForget inv))
        dsimp only
        exact .usbForget inv

theorem PeriodAt.macMod {v : Nat × Bool} {s : State} {f : Mac → Mac} (inv : PeriodAt v s.eng) :
    PeriodAt v (Machine.macMod s f).eng :=
  inv

theorem PeriodAt.phyReset {v : Nat × Bool} {s : State} {low : Bool} (inv : PeriodAt v s.eng) :
    PeriodAt v (Machine.phyReset low s).eng :=
  .macMod inv

theorem PeriodAt.postEthFor {v : Nat × Bool} {s : State} {log code inst data : Nat} (inv : PeriodAt v s.eng) :
    PeriodAt v (Machine.postEthFor log code inst data s).eng :=
  .posted inv

theorem PeriodAt.postEth {v : Nat × Bool} {s : State} {code inst data : Nat} (inv : PeriodAt v s.eng) :
    PeriodAt v (Machine.postEth code inst data s).eng :=
  .postEthFor inv

theorem PeriodAt.halfSet {v : Nat × Bool} {s : State} {g i : Nat} (inv : PeriodAt v s.eng) :
    PeriodAt v (Machine.halfSet g i s).eng :=
  .ite (.macMod (.macMod inv)) (.postEth (.macMod (.macMod inv)))

theorem PeriodAt.macAdd {v : Nat × Bool} {s : State} {g i n : Nat} (inv : PeriodAt v s.eng) :
    PeriodAt v (Machine.macAdd g i n s).eng :=
  .ite (.halfSet (.macMod inv)) (.macMod inv)

theorem PeriodAt.macCount {v : Nat × Bool} {s : State} {g i : Nat} (inv : PeriodAt v s.eng) :
    PeriodAt v (Machine.macCount g i s).eng :=
  .macAdd inv

theorem PeriodAt.offerControl {v : Nat × Bool} {s : State} {kind : Nat} {dest : List Byte} {type : Nat}
    {body : List Byte} (inv : PeriodAt v s.eng) : PeriodAt v (Machine.offerControl kind dest type body s).eng :=
  .ite inv (.ite (.macCount inv) (.ite (.macCount inv) (.macMod inv)))

theorem PeriodAt.freeField {v : Nat × Bool} {s : State} {n : Nat} (inv : PeriodAt v s.eng) :
    PeriodAt v (Machine.freeField n s).2.eng :=
  inv

theorem PeriodAt.gptpSend {v : Nat × Bool} {s : State} {type interval : Nat} {given : List Byte} {n : Nat}
    (inv : PeriodAt v s.eng) : PeriodAt v (Machine.gptpSend type interval given n s).eng :=
  .offerControl (.freeField inv)

theorem PeriodAt.sendSync {v : Nat × Bool} {s : State} (inv : PeriodAt v s.eng) :
    PeriodAt v (Machine.sendSync s).eng :=
  .gptpSend (.gptpSend inv)

theorem PeriodAt.sendAnnounce {v : Nat × Bool} {s : State} (inv : PeriodAt v s.eng) :
    PeriodAt v (Machine.sendAnnounce s).eng :=
  .gptpSend (.freeField inv)

theorem PeriodAt.streamCount {v : Nat × Bool} {s : State} {n i : Nat} (inv : PeriodAt v s.eng) :
    PeriodAt v (Machine.streamCount n i s).eng :=
  .netMod inv

theorem PeriodAt.crfCount {v : Nat × Bool} {s : State} {n i : Nat} (inv : PeriodAt v s.eng) :
    PeriodAt v (Machine.crfCount n i s).eng :=
  .netMod inv

theorem PeriodAt.sendFrame {v : Nat × Bool} {s : State} {f : TxFrame} (inv : PeriodAt v s.eng) :
    PeriodAt v (Machine.sendFrame f s).eng := by
  unfold Machine.sendFrame
  split
  · split
    · split
      · exact .macCount (.macCount (.macCount (.macCount (.macCount (.macAdd (.macMod inv))))))
      · exact .macCount (.macCount (.macCount (.macCount (.macCount (.macAdd (.macMod inv))))))
      · exact .macCount (.ite (.streamCount (.macCount (.macCount (.macCount (.macCount (.macAdd (.macMod inv)))))))
          (.crfCount (.macCount (.macCount (.macCount (.macCount (.macAdd (.macMod inv))))))))
    · split
      · exact .macCount (.macCount (.macCount (.macCount (.macAdd (.macMod inv)))))
      · exact .macCount (.macCount (.macCount (.macCount (.macAdd (.macMod inv)))))
      · exact .macCount (.ite (.streamCount (.macCount (.macCount (.macCount (.macAdd (.macMod inv))))))
          (.crfCount (.macCount (.macCount (.macCount (.macAdd (.macMod inv)))))))
  · split
    · split
      · exact .macCount (.macCount (.macCount (.macCount (.macAdd (.macMod inv)))))
      · exact .macCount (.macCount (.macCount (.macCount (.macAdd (.macMod inv)))))
      · exact .macCount (.ite (.streamCount (.macCount (.macCount (.macCount (.macAdd (.macMod inv))))))
          (.crfCount (.macCount (.macCount (.macCount (.macAdd (.macMod inv)))))))
    · split
      · exact .macCount (.macCount (.macCount (.macAdd (.macMod inv))))
      · exact .macCount (.macCount (.macCount (.macAdd (.macMod inv))))
      · exact .macCount (.ite (.streamCount (.macCount (.macCount (.macAdd (.macMod inv)))))
          (.crfCount (.macCount (.macCount (.macAdd (.macMod inv))))))

theorem PeriodAt.postPause {v : Nat × Bool} {s : State} {data : Nat} (inv : PeriodAt v s.eng) :
    PeriodAt v (Machine.postPause data s).eng :=
  .ite (.postEth (.macMod (.pairIte (.drawElapsed inv) inv))) (.pairIte (.drawElapsed inv) inv)

theorem PeriodAt.endPause {v : Nat × Bool} {s : State} {zero : Bool} (inv : PeriodAt v s.eng) :
    PeriodAt v (Machine.endPause zero s).eng :=
  .ite (.postPause (.macMod inv)) inv

theorem PeriodAt.crfMod {v : Nat × Bool} {s : State} {k : Nat} {f : Machine.Stream → Machine.Stream}
    (inv : PeriodAt v s.eng) : PeriodAt v (Machine.crfMod s k f).eng :=
  .netMod inv

theorem PeriodAt.dropReference {v : Nat × Bool} {s : State} {kind i log : Nat} (inv : PeriodAt v s.eng) :
    PeriodAt v (Machine.dropReference kind i log s).eng :=
  .foldl inv (fun _ _ h => .ite (.unlockFor h) h)

theorem PeriodAt.enterStream {v : Nat × Bool} {s : State} {n st cause log : Nat} (inv : PeriodAt v s.eng) :
    PeriodAt v (Machine.enterStream n st cause log s).eng :=
  .ite inv (.ite (.dropReference (.posted (.streamMod inv))) (.posted (.streamMod inv)))

theorem PeriodAt.enterCrf {v : Nat × Bool} {s : State} {k st log : Nat} (inv : PeriodAt v s.eng) :
    PeriodAt v (Machine.enterCrf k st log s).eng :=
  .ite inv (.ite (.dropReference (.postEthFor (.crfMod inv))) (.postEthFor (.crfMod inv)))

theorem PeriodAt.refreshStream {v : Nat × Bool} {s : State} {cause log n : Nat} (inv : PeriodAt v s.eng) :
    PeriodAt v (Machine.refreshStream cause log s n).eng :=
  .ite (.enterStream inv) inv

theorem PeriodAt.refreshCrf {v : Nat × Bool} {s : State} {log k : Nat} (inv : PeriodAt v s.eng) :
    PeriodAt v (Machine.refreshCrf log s k).eng :=
  .ite (.enterCrf inv) inv

theorem PeriodAt.refreshStreams {v : Nat × Bool} {s : State} {cause log : Nat} (inv : PeriodAt v s.eng) :
    PeriodAt v (Machine.refreshStreams cause log s).eng :=
  .foldl (.foldl inv (fun _ _ h => .refreshStream h)) (fun _ _ h => .refreshCrf h)

theorem PeriodAt.streamStart {v : Nat × Bool} {s : State} {n : Nat} (inv : PeriodAt v s.eng) :
    PeriodAt v (Machine.streamStart n s).eng :=
  .startMembers inv

theorem PeriodAt.streamStop {v : Nat × Bool} {s : State} {n : Nat} (inv : PeriodAt v s.eng) :
    PeriodAt v (Machine.streamStop n s).eng :=
  .stopMembers inv

theorem PeriodAt.connectNow {v : Nat × Bool} {s : State} {n cause log : Nat} (inv : PeriodAt v s.eng) :
    PeriodAt v (Machine.connectNow n cause log s).eng :=
  .completedAll (.streamStart (.enterStream (.streamMod inv)))

theorem PeriodAt.disconnectStream {v : Nat × Bool} {s : State} {n cause log : Nat} {leave : Bool}
    (inv : PeriodAt v s.eng) : PeriodAt v (Machine.disconnectStream n cause log leave s).eng := by
  unfold Machine.disconnectStream
  refine .ite inv (.ite (.enterStream (.completedAll (.streamStop (.streamMod inv)))) ?_)
  split
  · exact .enterStream (.completedAll (.streamStop (.streamMod inv)))
  · exact .deactivateOverlay (.enterStream (.completedAll (.streamStop (.streamMod inv))))

theorem PeriodAt.streamsPlaced {v : Nat × Bool} {s : State} {ov : Nat} (inv : PeriodAt v s.eng) :
    PeriodAt v (Machine.streamsPlaced ov s).eng :=
  .foldl inv (fun _ _ h => .ite (.connectNow h) h)

theorem PeriodAt.streamsRemoved {v : Nat × Bool} {s : State} {ov log : Nat} (inv : PeriodAt v s.eng) :
    PeriodAt v (Machine.streamsRemoved ov log s).eng :=
  .foldl inv (fun _ _ h => .ite (.disconnectStream h) h)

theorem PeriodAt.streamsEnd {v : Nat × Bool} {s : State} {log : Nat} (inv : PeriodAt v s.eng) :
    PeriodAt v (Machine.streamsEnd log s).eng :=
  .foldl (.foldl inv (fun _ _ h => .disconnectStream h)) (fun _ _ h => .enterCrf (.crfMod h))

theorem PeriodAt.startStreams {v : Nat × Bool} {s : State} (inv : PeriodAt v s.eng) :
    PeriodAt v (Machine.startStreams s).eng :=
  .foldl (.foldl inv (fun _ _ h => .streamMod h)) (fun _ _ h => .ite (.refreshCrf (.crfMod (.crfMod h)))
    (.crfMod h))

theorem PeriodAt.toggleRates {v : Nat × Bool} {s old : State} (inv : PeriodAt v s.eng) :
    PeriodAt v (Machine.toggleRates old s).eng :=
  .foldl inv (fun _ _ h => .ite (.streamMod h) h)

theorem PeriodAt.tickCrf {v : Nat × Bool} {s : State} {k : Nat} (inv : PeriodAt v s.eng) :
    PeriodAt v (Machine.tickCrf s k).eng :=
  .ite (.ite (.enterCrf (.crfMod inv)) (.crfMod inv)) inv

theorem PeriodAt.gptpMod {v : Nat × Bool} {s : State} {f : Gptp → Gptp} (inv : PeriodAt v s.eng) :
    PeriodAt v (Machine.gptpMod s f).eng :=
  inv

theorem PeriodAt.adpSend {v : Nat × Bool} {s : State} {message : Nat} (inv : PeriodAt v s.eng) :
    PeriodAt v (Machine.adpSend message s).eng :=
  .ite inv (.offerControl (.netMod (.freeField (.freeField inv))))

theorem PeriodAt.departing {v : Nat × Bool} {s : State} (inv : PeriodAt v s.eng) :
    PeriodAt v (Machine.departing s).eng := by
  unfold Machine.departing
  dsimp only
  split
  · exact .adpSend inv
  · exact .sendFrame (.macMod (.adpSend inv))

theorem PeriodAt.enterGptp {v : Nat × Bool} {s : State} {st cause log : Nat} (inv : PeriodAt v s.eng) :
    PeriodAt v (Machine.enterGptp st cause log s).eng :=
  .ite inv (.refreshStreams (.postEthFor (.gptpMod inv)))

theorem PeriodAt.setGrandmaster {v : Nat × Bool} {s : State} {id : BitVec 64} {steps : Nat} (inv : PeriodAt v s.eng)
    : PeriodAt v (Machine.setGrandmaster id steps s).eng :=
  .ite (.gptpMod inv) (.adpSend (.gptpMod inv))

theorem PeriodAt.becomeGrandmaster {v : Nat × Bool} {s : State} {log : Nat} (inv : PeriodAt v s.eng) :
    PeriodAt v (Machine.becomeGrandmaster log s).eng :=
  .ite (.sendAnnounce (.enterGptp (.setGrandmaster (.gptpMod inv)))) (.enterGptp (.setGrandmaster (.gptpMod inv)))

theorem PeriodAt.tickGptp {v : Nat × Bool} {s : State} (inv : PeriodAt v s.eng) :
    PeriodAt v (Machine.tickGptp s).eng :=
  .ite inv (.ite (.gptpMod inv) (.ite (.sendAnnounce (.sendSync (.gptpMod inv))) (.sendSync (.gptpMod inv))))

theorem PeriodAt.becomeListening {v : Nat × Bool} {s : State} {cause log : Nat} (inv : PeriodAt v s.eng) :
    PeriodAt v (Machine.becomeListening cause log s).eng :=
  .enterGptp (.gptpMod inv)

theorem PeriodAt.followClock {v : Nat × Bool} {s : State} {steps log : Nat} (inv : PeriodAt v s.eng) :
    PeriodAt v (Machine.followClock steps log s).eng :=
  .ite (.enterGptp (.gptpMod (.setGrandmaster inv))) (.ite (.ite (.gptpMod (.setGrandmaster inv))
    (.setGrandmaster inv)) (.ite (.gptpMod (.setGrandmaster inv)) (.setGrandmaster inv)))

theorem PeriodAt.runBmca {v : Nat × Bool} {s : State} {steps log : Nat} (inv : PeriodAt v s.eng) :
    PeriodAt v (Machine.runBmca steps log s).eng :=
  .ite (.ite inv (.becomeGrandmaster inv)) (.followClock inv)

theorem PeriodAt.rerunBmca {v : Nat × Bool} {s : State} {log : Nat} (inv : PeriodAt v s.eng) :
    PeriodAt v (Machine.rerunBmca log s).eng :=
  .ite (.ite (.runBmca inv) inv) (.ite (.becomeListening (.setGrandmaster inv)) inv)

theorem PeriodAt.startGptp {v : Nat × Bool} {s : State} {log : Nat} (inv : PeriodAt v s.eng) :
    PeriodAt v (Machine.startGptp log s).eng :=
  .rerunBmca (.gptpMod inv)

theorem PeriodAt.postLink {v : Nat × Bool} {s : State} {up : Bool} {cause log : Nat} (inv : PeriodAt v s.eng) :
    PeriodAt v (Machine.postLink up cause log s).eng :=
  .postEthFor inv

theorem PeriodAt.linkGoesDown {v : Nat × Bool} {s : State} {cause log : Nat} (inv : PeriodAt v s.eng) :
    PeriodAt v (Machine.linkGoesDown cause log s).eng :=
  .ite inv (.enterGptp (.gptpMod (.netMod (.endPause (.postLink
    (.ite (.macCount (.macAdd (.macMod inv))) (.macAdd (.macMod inv))))))))

theorem PeriodAt.swapPort {v : Nat × Bool} {s : State} {old : Bank} {log : Nat} (inv : PeriodAt v s.eng) :
    PeriodAt v (Machine.swapPort old log s).eng := by
  unfold Machine.swapPort
  refine .ite (.ite (.phyReset inv) (.ite (.linkGoesDown (.phyReset ?_)) inv))
    (.endPause (.ite (.phyReset inv) (.ite (.linkGoesDown (.phyReset ?_)) inv)))
  · dsimp only
    exact .departing inv
  · dsimp only
    exact .departing inv

theorem PeriodAt.swapIdentity {v : Nat × Bool} {s : State} {old : Bank} (inv : PeriodAt v s.eng) :
    PeriodAt v (Machine.swapIdentity old s).eng :=
  .ite (.adpSend (.ite (.gptpMod inv) inv)) (.ite (.gptpMod inv) inv)

theorem PeriodAt.swapNet {v : Nat × Bool} {s : State} {old : Bank} {log : Nat} (inv : PeriodAt v s.eng) :
    PeriodAt v (Machine.swapNet old log s).eng :=
  .swapIdentity (.swapPort inv)

theorem PeriodAt.measMod {v : Nat × Bool} {s : State} {f : MeasState → MeasState} (inv : PeriodAt v s.eng) :
    PeriodAt v (Machine.measMod s f).eng :=
  inv

theorem PeriodAt.tickMeas {v : Nat × Bool} {s : State} (inv : PeriodAt v s.eng) :
    PeriodAt v (Machine.tickMeas s).eng :=
  .ite (.ite (.measMod inv) inv) (.ite (.measMod inv) inv)

theorem PeriodAt.initEntry {v : Nat × Bool} {s : State} {e : SegEntry} (inv : PeriodAt v s.eng) :
    PeriodAt v (Machine.initEntry s e).eng := by
  unfold Machine.initEntry
  split
  · exact .slotMod inv
  · exact .sectionMod (.dropQueued inv)
  · dsimp only
    exact .lineMod (.dropQueued inv)
  · exact .ite (.limiterMod inv) (.protectMod inv)
  · exact .meterMod inv
  · exact inv

theorem PeriodAt.replaceEntry {v : Nat × Bool} {s : State} {e : SegEntry} (inv : PeriodAt v s.eng) :
    PeriodAt v (Machine.replaceEntry s e).eng := by
  unfold Machine.replaceEntry
  split
  · exact .sectionMod inv
  · exact .lineMod inv
  · exact .ite (.limiterMod inv) (.protectMod inv)
  · exact .meterMod inv
  · exact .initEntry inv

theorem PeriodAt.swapIngress {v : Nat × Bool} {s : State} {old : Bank} (inv : PeriodAt v s.eng) :
    PeriodAt v (Machine.swapIngress old s).eng :=
  inv

theorem PeriodAt.swapOutput {v : Nat × Bool} {s : State} {old : Bank} {o : Nat} (inv : PeriodAt v s.eng) :
    PeriodAt v (Machine.swapOutput old s o).eng :=
  .ite (.clampOutput (.outMod inv)) inv

theorem PeriodAt.followBank {v : Nat × Bool} {s : State} {old : Bank} {log : Nat} (inv : PeriodAt v s.eng) :
    PeriodAt v (Machine.followBank old log s).eng := by
  unfold Machine.followBank
  exact .usbFollow (.usbFollow (.refreshDetRef (.swapJack (.swapJack
    (.swapNet (.swapCaptures (.swapIngress (.foldl (.swapSpdif
    (.foldl (.foldl inv (fun _ _ h => .swapConvoy h)) (fun _ _ h => .swapSai h)))
    (fun _ _ h => .swapOutput h)))))))))

theorem PeriodAt.restartDelays {v : Nat × Bool} {s : State} {old : Bank} (inv : PeriodAt v s.eng) :
    PeriodAt v (Machine.restartDelays old s).eng :=
  inv

theorem PeriodAt.raiseRoutes {v : Nat × Bool} {s : State} {old : Bank} (inv : PeriodAt v s.eng) :
    PeriodAt v (Machine.raiseRoutes old s).eng :=
  .foldl inv (fun _ _ h => .rampMod h)

theorem PeriodAt.raiseOutputs {v : Nat × Bool} {s : State} {os : List Nat} (inv : PeriodAt v s.eng) :
    PeriodAt v (Machine.raiseOutputs os s).eng :=
  .foldl inv (fun _ _ h => .ite h (.ite (.enterOut (.outMod (.ite (.stopDriving h) h))) (.askRamp h)))

theorem PeriodAt.exchangeBanks {v : Nat × Bool} {s : State} (inv : PeriodAt v s.eng) :
    PeriodAt v (Machine.exchangeBanks s).eng :=
  inv

theorem PeriodAt.junctionSwitch {v : Nat × Bool} {s : State} {c : Chart} {b ms log : Nat} (inv : PeriodAt v s.eng) :
    PeriodAt v (Machine.junctionSwitch c b ms log s).eng :=
  .foldl inv (fun _ _ h => .ite (.loaderCommit h) (.ite (.loaderCommit h) h))

theorem PeriodAt.junctionSet {v : Nat × Bool} {s : State} {c : Chart} {n log : Nat} (inv : PeriodAt v s.eng) :
    PeriodAt v (Machine.junctionSet c n log s).eng :=
  .foldl inv (fun _ _ h => .ite (.loaderCommit h) (.ite (.loaderCommit h) h))

theorem PeriodAt.activationSwap {v : Nat × Bool} {s : State} {c : Chart} {n : Nat} (inv : PeriodAt v s.eng) :
    PeriodAt v (Machine.activationSwap c n s).eng :=
  .streamsPlaced (.ite (.completedAll (.enterOv (.ovMod (.gateTo (.junctionSet inv)))))
    (.enterOv (.gateTo (.junctionSet inv))))

theorem PeriodAt.discardFifos {v : Nat × Bool} {s : State} {c : Chart} {n : Nat} (inv : PeriodAt v s.eng) :
    PeriodAt v (Machine.discardFifos c n s).eng :=
  .foldl inv (fun _ _ h => .sinkMod h)

theorem PeriodAt.readmit {v : Nat × Bool} {s : State} {n : Nat} {qs : List QueuedAct} (inv : PeriodAt v s.eng) :
    PeriodAt v (Machine.readmit n qs s).eng := by
  unfold Machine.readmit
  split
  · exact inv
  · split
    · exact .streamsRefused (.completedAll inv)
    · exact .ite (.startActivation inv) (.activateOverlay inv)

theorem PeriodAt.removalSwap {v : Nat × Bool} {s : State} {c : Chart} {n : Nat} (inv : PeriodAt v s.eng) :
    PeriodAt v (Machine.removalSwap c n s).eng := by
  unfold Machine.removalSwap
  refine .foldl ?_ (fun _ _ h => .readmit h)
  dsimp only
  exact .readmit (.streamsRemoved (.usbDiscard (.completedAll (.discardFifos (.enterOv (.ovMod inv))))))

theorem PeriodAt.switchInSwap {v : Nat × Bool} {s : State} {c : Chart} {a b : Nat} (inv : PeriodAt v s.eng) :
    PeriodAt v (Machine.switchInSwap c a b s).eng := by
  unfold Machine.switchInSwap
  split
  · exact inv
  · exact .streamsPlaced (.gateTo (.gateTo (.junctionSwitch (.enterOv (.enterOv inv)))))

theorem PeriodAt.switchOutSwap {v : Nat × Bool} {s : State} {c : Chart} {a b : Nat} (inv : PeriodAt v s.eng) :
    PeriodAt v (Machine.switchOutSwap c a b s).eng := by
  unfold Machine.switchOutSwap
  refine .streamsRemoved ?_
  split
  · exact .completed (.usbDiscard (.discardFifos (.enterOv (.enterOv inv))))
  · exact .usbDiscard (.discardFifos (.enterOv (.enterOv inv)))

theorem PeriodAt.variantSwap {v : Nat × Bool} {s : State} {c : Chart} {r : Bool} (inv : PeriodAt v s.eng) :
    PeriodAt v (Machine.variantSwap c r s).eng := by
  unfold Machine.variantSwap
  split
  · dsimp only
    split
    · refine .completed (.posted (.askSummary ?_))
      dsimp only
      exact .foldl inv (fun _ _ h => .replaceEntry h)
    · refine .posted (.askSummary ?_)
      dsimp only
      exact .foldl inv (fun _ _ h => .replaceEntry h)
  · dsimp only
    split
    · refine .completed (.posted (.askSummary ?_))
      dsimp only
      exact .foldl inv (fun _ _ h => .replaceEntry h)
    · refine .posted (.askSummary ?_)
      dsimp only
      exact .foldl inv (fun _ _ h => .replaceEntry h)

theorem PeriodAt.rebuildSwap {v : Nat × Bool} {s : State} (inv : PeriodAt v s.eng) :
    PeriodAt v (Machine.rebuildSwap s).eng :=
  inv

theorem PeriodAt.freshParams {v : Nat × Bool} {s : State} {c : Chart} {reduced : Bool} (inv : PeriodAt v s.eng) :
    PeriodAt v (Machine.freshParams c reduced s).eng := by
  unfold Machine.freshParams
  refine .foldl ?_ (fun _ _ h => .initEntry h)
  dsimp only
  exact .foldl (.foldl inv (fun _ _ h => .dropQueued h)) (fun _ _ h => .dropQueued h)

theorem PeriodAt.startBase {v : Nat × Bool} {s : State} {old : Bank} {fresh : Bool} {log : Nat}
    (inv : PeriodAt v s.eng) : PeriodAt v (Machine.startBase old fresh log s).eng := by
  unfold Machine.startBase
  refine .followBank ?_
  dsimp only
  exact .startGptp (.ite (.startStreams (.startCaptures (.startClocks inv))) (.startCaptures (.startClocks inv)))

theorem PeriodAt.placeChart {v : Nat × Bool} {s : State} {c : Chart} {slot : Nat} {reduced : Bool} {log : Nat}
    {old : Bank} (inv : PeriodAt v s.eng) : PeriodAt v (Machine.placeChart c slot reduced log old s).eng :=
  .placeMoorings (.startBase (.freshParams inv))

theorem PeriodAt.overlaysOut {v : Nat × Bool} {s : State} {log : Nat} (inv : PeriodAt v s.eng) :
    PeriodAt v (Machine.overlaysOut log s).eng :=
  .foldl inv (fun _ _ h => .ite h (.streamsRemoved (.completedAll (.enterOv (.giveUp (.ovMod h))))))

theorem PeriodAt.reapplyAlt {v : Nat × Bool} {s : State} {p log i : Nat} (inv : PeriodAt v s.eng) :
    PeriodAt v (Machine.reapplyAlt p log s i).eng := by
  unfold Machine.reapplyAlt
  refine .ite inv ?_
  split
  · exact inv
  · exact .ite (.usbStart (.usbStreamMod (.usbEnter inv))) (.usbStreamMod (.usbEnter inv))

theorem PeriodAt.selectPlace {v : Nat × Bool} {s : State} {q : Select} {old : Bank} (inv : PeriodAt v s.eng) :
    PeriodAt v (Machine.selectPlace q old s).eng := by
  unfold Machine.selectPlace
  refine .foldl ?_ (fun _ _ h => .foldl h (fun _ _ h => .reapplyAlt h))
  dsimp only
  exact .placeChart (.ite (.streamsEnd (.overlaysOut inv)) (.overlaysOut inv))

theorem PeriodAt.selectDone {v : Nat × Bool} {s : State} {q : Select} (inv : PeriodAt v s.eng) :
    PeriodAt v (Machine.selectDone q s).eng := by
  unfold Machine.selectDone
  refine .ite (.adpSend ?_) ?_
  · dsimp only
    refine .ite (.askSummary ?_) (.completed inv)
    dsimp only
    exact .completed inv
  · dsimp only
    refine .ite (.askSummary ?_) (.completed inv)
    dsimp only
    exact .completed inv

theorem PeriodAt.tickSelect {v : Nat × Bool} {s : State} (inv : PeriodAt v s.eng) :
    PeriodAt v (Machine.tickSelect s).eng := by
  unfold Machine.tickSelect
  split
  · exact inv
  · exact .ite (.ite (.ite (.stopTick inv) (.askLoad inv)) inv) (.ite (.ite (.selectDone inv) inv) inv)

theorem PeriodAt.swapNow {v : Nat × Bool} {s : State} (inv : PeriodAt v s.eng) :
    PeriodAt v (Machine.swapNow s).eng := by
  unfold Machine.swapNow
  split
  · refine .ite inv (.ite ?_ (.raiseOutputs (.followBank ?_)))
    · split
      · exact .raiseOutputs (.raiseRoutes (.selectPlace (.exchangeBanks inv)))
      · exact inv
    · split
      · exact .activationSwap (.restartDelays (.raiseRoutes (.exchangeBanks inv)))
      · exact .removalSwap (.restartDelays (.raiseRoutes (.exchangeBanks inv)))
      · exact .switchInSwap (.restartDelays (.raiseRoutes (.exchangeBanks inv)))
      · exact .switchOutSwap (.restartDelays (.raiseRoutes (.exchangeBanks inv)))
      · exact .variantSwap (.restartDelays (.raiseRoutes (.exchangeBanks inv)))
      · exact .restartDelays (.raiseRoutes (.exchangeBanks inv))
      · exact .rebuildSwap (.restartDelays (.raiseRoutes (.exchangeBanks inv)))
  · exact inv

theorem PeriodAt.ditherDraw {v : Nat × Bool} {s : State} (inv : PeriodAt v s.eng) :
    PeriodAt v (Machine.ditherDraw s).2.eng :=
  inv

theorem PeriodAt.toCode {v : Nat × Bool} {s : State} {sh : Nat} {top : ℤ} {dither : Bool} {w : ℤ}
    (inv : PeriodAt v s.eng) : PeriodAt v (Machine.toCode sh top dither w s).2.eng :=
  .pairIte (.ditherDraw inv) inv

theorem PeriodAt.convertSink {v : Nat × Bool} {s : State} {f : PortFormat × Bool} {w : ℤ} (inv : PeriodAt v s.eng) :
    PeriodAt v (Machine.convertSink f w s).2.eng := by
  unfold Machine.convertSink
  split
  · exact .toCode inv
  · exact .toCode inv
  · exact inv
  · exact inv
  · exact inv

theorem PeriodAt.gatherClips {v : Nat × Bool} {s : State} {k m : Nat} (inv : PeriodAt v s.eng) :
    PeriodAt v (Machine.gatherClips k m s).eng :=
  .memMod (.foldl inv (fun _ _ h => .foldl h (fun _ _ h => .clipIf h)))

theorem PeriodAt.gatherConvoy {v : Nat × Bool} {s : State} {k : Nat} (inv : PeriodAt v s.eng) :
    PeriodAt v (Machine.gatherConvoy s k).eng :=
  .ite inv (.foldl inv (fun _ _ h => .gatherClips h))

theorem PeriodAt.pilotSample {v : Nat × Bool} {s : State} {i : Nat} (inv : PeriodAt v s.eng) :
    PeriodAt v (Machine.pilotSample i s).2.eng :=
  .pairIte (.protectMod (.drawRound (.drawReading inv))) (.protectMod inv)

theorem PeriodAt.finishSink {v : Nat × Bool} {s : State} {k : Nat} {gain : ℤ} {w : Word} (inv : PeriodAt v s.eng) :
    PeriodAt v (Machine.finishSink k gain w s).eng := by
  unfold Machine.finishSink
  refine .sinkMod (.convertSink (.clipIf ?_))
  split
  · exact .pilotSample inv
  · exact inv

theorem PeriodAt.limiterStep {v : Nat × Bool} {s : State} {l : Nat} (inv : PeriodAt v s.eng) :
    PeriodAt v (Machine.limiterStep s l).eng := by
  unfold Machine.limiterStep
  refine .ite inv (.foldl (.limiterMod ?_) (fun _ _ h => .sinkMod (.finishSink h)))
  dsimp only
  exact .drawRound inv

theorem PeriodAt.limitersStep {v : Nat × Bool} {s : State} (inv : PeriodAt v s.eng) :
    PeriodAt v (Machine.limitersStep s).eng :=
  .foldl inv (fun _ _ h => .limiterStep h)

theorem PeriodAt.postEngineOverrun {v : Nat × Bool} {s : State} (inv : PeriodAt v s.eng) :
    PeriodAt v (Machine.postEngineOverrun s).eng :=
  .ite (.posted inv) inv

theorem PeriodAt.countOverruns {v : Nat × Bool} {s : State} (inv : PeriodAt v s.eng) :
    PeriodAt v (Machine.countOverruns s).eng := by
  unfold Machine.countOverruns
  refine .ite inv (.postEngineOverrun ?_)
  dsimp only
  exact .foldl inv (fun _ _ h => .laneMod h)

theorem PeriodAt.mapRoutes {v : Nat × Bool} {s : State} {f : RouteRamp → RouteRamp} (inv : PeriodAt v s.eng) :
    PeriodAt v (Machine.mapRoutes f s).eng :=
  inv

theorem PeriodAt.latchSlots {v : Nat × Bool} {s : State} (inv : PeriodAt v s.eng) :
    PeriodAt v (Machine.latchSlots s).eng :=
  inv

theorem PeriodAt.latchSectionAt {v : Nat × Bool} {s : State} {k : Nat} (inv : PeriodAt v s.eng) :
    PeriodAt v (Machine.latchSectionAt s k).eng :=
  .ite (.startQueued (.sectionMod inv)) (.sectionMod (.sectionMod inv))

theorem PeriodAt.latchLineAt {v : Nat × Bool} {s : State} {k : Nat} (inv : PeriodAt v s.eng) :
    PeriodAt v (Machine.latchLineAt s k).eng :=
  .ite (.startQueuedDelay inv) (.lineMod inv)

theorem PeriodAt.tickParams {v : Nat × Bool} {s : State} (inv : PeriodAt v s.eng) :
    PeriodAt v (Machine.tickParams s).eng := by
  unfold Machine.tickParams
  dsimp only
  exact .foldl (.foldl (.latchSlots inv) (fun _ _ h => .latchSectionAt h)) (fun _ _ h => .latchLineAt h)

theorem PeriodAt.tickPorts {v : Nat × Bool} {s : State} (inv : PeriodAt v s.eng) :
    PeriodAt v (Machine.tickPorts s).eng := by
  unfold Machine.tickPorts
  extract_lets s1 s2 s3 s4 s5 s6
  have hs1 : PeriodAt v s1.eng := .mapRoutes inv
  have hs2 : PeriodAt v s2.eng := .foldl hs1 (fun _ _ h => .tickOutput h)
  have hs3 : PeriodAt v s3.eng := .toggleRates (.tickClocks hs2)
  have hs4 : PeriodAt v s4.eng := .foldl (.foldl hs3 (fun _ _ h => .gatherConvoy h)) (fun _ _ h => .tickConvoy h)
  have hs5 : PeriodAt v s5.eng := .tickRelay (.foldl hs4 (fun _ _ h => .tickCapture h))
  have hs6 : PeriodAt v s6.eng := .foldl hs5 (fun _ _ h => .tickSai h)
  exact .tickGptp (.auxFabricTick (.tickMeas (.tickCrf (.tickCrf hs6))))

theorem PeriodAt.exchangeHalves {v : Nat × Bool} {s : State} (inv : PeriodAt v s.eng) :
    PeriodAt v (Machine.exchangeHalves s).eng :=
  inv

theorem PeriodAt.setIngress {v : Nat × Bool} {s : State} (inv : PeriodAt v s.eng) :
    PeriodAt v (Machine.setIngress s).eng :=
  inv

theorem PeriodAt.scatterMember {v : Nat × Bool} {s : State} {k m : Nat} (inv : PeriodAt v s.eng) :
    PeriodAt v (Machine.scatterMember k s m).eng :=
  .ite inv (.ite (.sampleArrives inv) (.memMod inv))

theorem PeriodAt.scatter {v : Nat × Bool} {s : State} {bank : Bank} (inv : PeriodAt v s.eng) :
    PeriodAt v (Machine.scatter bank s).eng :=
  .foldl (.foldl inv (fun _ _ h => .sinkMod h)) (fun _ _ h => .foldl h (fun _ _ h => .scatterMember h))

theorem PeriodAt.startLanes {v : Nat × Bool} {s : State} (inv : PeriodAt v s.eng) :
    PeriodAt v (Machine.startLanes s).eng :=
  .foldl inv (fun _ _ h => .laneMod h)

theorem PeriodAt.settleGates {v : Nat × Bool} {s : State} (inv : PeriodAt v s.eng) :
    PeriodAt v (Machine.settleGates s).eng :=
  .foldl inv (fun _ _ h => .concludeOverlay h)

end Sys2Proof.Machine
end

section
/-! PROOF. The period count at a tick, and the samples of ports as fabric words. -/

namespace Sys2Proof.Machine

/-- The period count after a tick (R109). -/
theorem fabricTick_period (s : State) :
    PeriodAt (if s.eng.started then s.eng.period + 1 else 0, true) (fabricTick s).eng := by
  have hlimited : PeriodAt (s.eng.period, s.eng.started) (limitersStep s).eng := .limitersStep rfl
  obtain ⟨hperiod, hstarted⟩ := Prod.mk.inj hlimited
  have hnext : PeriodAt (if s.eng.started then s.eng.period + 1 else 0, true) (nextPeriod (limitersStep s)).eng := by
    rw [← hperiod, ← hstarted]
    rfl
  exact .tickSelect (.variantStep (.settleGates (.startLanes (.setIngress (.scatter (.exchangeHalves
    (.tickPorts (.tickParams (.swapNow (.foldl (.mapRoutes (.countOverruns hnext)) fun _ _ h => .stepOutput h))))))))))

/-- A word holds an integer that its range holds. -/
theorem toInt_ofInt_word {x : Int} (hlo : -2 ^ 31 ≤ x) (hhi : x < 2 ^ 31) : (BitVec.ofInt 32 x).toInt = x := by
  rw [BitVec.toInt_ofInt]
  exact Int.bmod_eq_of_le (by simpa using hlo) (by simpa using hhi)

/-- The low `w` bits of a word, read as two's complement. -/
theorem signed_truncate {w : Nat} (hw : 0 < w) (x : Word) : signed w (x.toNat % 2 ^ w) = (x.truncate w).toInt := by
  have hpow : 2 ^ w = 2 * 2 ^ (w - 1) := (mul_pow_sub_one hw.ne' 2).symm
  rw [signed, BitVec.toInt_eq_toNat_cond, BitVec.truncate_eq_setWidth, BitVec.toNat_setWidth]
  exact if_congr (by omega) rfl rfl

theorem truncate_toInt_bounds {w : Nat} (x : Word) :
    -2 ^ (w - 1) ≤ (x.truncate w).toInt ∧ (x.truncate w).toInt < 2 ^ (w - 1) :=
  ⟨BitVec.le_toInt _, BitVec.toInt_lt⟩

end Sys2Proof.Machine

namespace Sys2Proof
open Sys2Proof.Machine

/-- Settles O28: nothing of the tick but its own step moves the count. -/
theorem tickCountsPeriods : Obligations.TickCountsPeriods := by
  intro s t htick h
  have hgo : exec .fabricTick s = .next (fabricTick s) := by
    show execFabricTick s = _
    exact whenever_true htick
  obtain rfl : fabricTick s = t := Host.Outcome.next.inj (hgo.symm.trans h)
  obtain ⟨hperiod, hstarted⟩ := Prod.mk.inj (fabricTick_period s)
  exact ⟨hstarted, hperiod⟩

/-- Settles O29: the conversions stay within a word. -/
theorem ingressConversion : Obligations.IngressConversion := by
  intro x
  refine ⟨?int16, ?int24, ?int32, rfl, ?nan⟩
  case int16 =>
    obtain ⟨hlo, hhi⟩ := truncate_toInt_bounds (w := 16) x
    show (BitVec.ofInt 32 _).toInt = _
    rw [signed_truncate (by decide)]
    exact toInt_ofInt_word (by omega) (by omega)
  case int24 =>
    obtain ⟨hlo, hhi⟩ := truncate_toInt_bounds (w := 24) x
    show (BitVec.ofInt 32 _).toInt = _
    rw [signed_truncate (by decide)]
    exact toInt_ofInt_word (by omega) (by omega)
  case int32 =>
    obtain ⟨hnear, -⟩ := rneDiv_nearest x.toInt (d := 16) (by decide)
    have hlo := BitVec.le_toInt x
    have hhi := BitVec.toInt_lt (x := x)
    show (BitVec.ofInt 32 (rneDiv x.toInt 16)).toInt = _
    exact toInt_ofInt_word (by omega) (by omega)
  case nan =>
    intro he hm
    have hexp : bits x.toNat 30 23 = 255 := by
      have h := congrArg BitVec.toNat he
      rw [BitVec.extractLsb'_toNat, Nat.shiftRight_eq_div_pow] at h
      exact h
    have hman : bits x.toNat 22 0 ≠ 0 := by
      intro h0
      refine hm (BitVec.eq_of_toNat_eq ?_)
      rw [BitVec.extractLsb'_toNat, Nat.shiftRight_zero]
      simpa [bits] using h0
    show floatWord x = _
    unfold floatWord
    dsimp only
    rw [if_pos ⟨hexp, hman⟩]

end Sys2Proof
end

section
/-! PROOF. What a landing word and a halt leave of the engine. -/

namespace Sys2Proof.Machine

/-- The halves and the work berths of an engine: the working half, the work berths, the landing half. -/
def HalvesAt (v : Tbl Word × Tbl Word × Tbl (Option Word)) (e : EngineState) : Prop :=
  (e.working, e.work, e.landing) = v

theorem HalvesAt.ite {v : Tbl Word × Tbl Word × Tbl (Option Word)} {c : Prop} {dec : Decidable c} {s t : State} (hs : HalvesAt v s.eng)
    (ht : HalvesAt v t.eng) : HalvesAt v (if c then s else t).eng := by
  split
  · exact hs
  · exact ht

theorem HalvesAt.pairIte {v : Tbl Word × Tbl Word × Tbl (Option Word)} {α : Type} {c : Prop} {dec : Decidable c} {x y : α × State}
    (hx : HalvesAt v x.2.eng) (hy : HalvesAt v y.2.eng) : HalvesAt v (if c then x else y).2.eng := by
  split
  · exact hx
  · exact hy

theorem HalvesAt.drawReading {v : Tbl Word × Tbl Word × Tbl (Option Word)} {s : State} (inv : HalvesAt v s.eng) :
    HalvesAt v (Machine.drawReading s).2.eng :=
  inv

theorem HalvesAt.drawRound {v : Tbl Word × Tbl Word × Tbl (Option Word)} {s : State} (inv : HalvesAt v s.eng) :
    HalvesAt v (Machine.drawRound s).2.eng :=
  inv

theorem HalvesAt.clipEvent {v : Tbl Word × Tbl Word × Tbl (Option Word)} {s : State} {b : Nat}
    (inv : HalvesAt v s.eng) : HalvesAt v (Machine.clipEvent b s).eng :=
  inv

theorem HalvesAt.clipIf {v : Tbl Word × Tbl Word × Tbl (Option Word)} {s : State} {c : Bool} {b : Nat}
    (inv : HalvesAt v s.eng) : HalvesAt v (Machine.clipIf c b s).eng :=
  .ite (.clipEvent inv) inv

theorem HalvesAt.sinkMod {v : Tbl Word × Tbl Word × Tbl (Option Word)} {s : State} {k : Nat} {f : Sink → Sink}
    (inv : HalvesAt v s.eng) : HalvesAt v (Machine.sinkMod s k f).eng :=
  inv

theorem HalvesAt.capMod {v : Tbl Word × Tbl Word × Tbl (Option Word)} {s : State} {c : Nat} {f : Capture → Capture}
    (inv : HalvesAt v s.eng) : HalvesAt v (Machine.capMod s c f).eng :=
  inv

theorem HalvesAt.pushIngress {v : Tbl Word × Tbl Word × Tbl (Option Word)} {s : State} {a : Nat} {w : BitVec 32}
    (inv : HalvesAt v s.eng) : HalvesAt v (Machine.pushIngress a w s).eng :=
  inv

theorem HalvesAt.popIngress {v : Tbl Word × Tbl Word × Tbl (Option Word)} {s : State} {a : Nat}
    (inv : HalvesAt v s.eng) : HalvesAt v (Machine.popIngress a s).2.eng := by
  unfold Machine.popIngress
  split
  · exact inv
  · exact inv

theorem HalvesAt.stageSample {v : Tbl Word × Tbl Word × Tbl (Option Word)} {s : State} {input : List (BitVec 32)}
    {ratio : Nat} (inv : HalvesAt v s.eng) : HalvesAt v (Machine.stageSample input ratio s).2.eng :=
  .pairIte inv (.drawReading inv)

theorem HalvesAt.freeDiv {v : Tbl Word × Tbl Word × Tbl (Option Word)} {s : State} {x : ℤ} {d : Nat}
    (inv : HalvesAt v s.eng) : HalvesAt v (Machine.freeDiv x d s).2.eng :=
  .pairIte inv (.drawRound inv)

theorem HalvesAt.dcBlock {v : Tbl Word × Tbl Word × Tbl (Option Word)} {s : State} {ch : Nat} {x : Word}
    (inv : HalvesAt v s.eng) : HalvesAt v (Machine.dcBlock ch x s).2.eng :=
  .pairIte inv (.pairIte (.freeDiv inv) (.capMod (.freeDiv (.freeDiv inv))))

theorem HalvesAt.modMod {v : Tbl Word × Tbl Word × Tbl (Option Word)} {s : State} {m : Nat}
    {f : Modulator → Modulator} (inv : HalvesAt v s.eng) : HalvesAt v (Machine.modMod s m f).eng :=
  inv

theorem HalvesAt.chainFeed {v : Tbl Word × Tbl Word × Tbl (Option Word)} {s : State} {m : Nat} {tap : Word}
    (inv : HalvesAt v s.eng) : HalvesAt v (Machine.chainFeed m tap s).eng :=
  .modMod (.drawReading inv)

theorem HalvesAt.chainOut {v : Tbl Word × Tbl Word × Tbl (Option Word)} {s : State} {response : Nat} {delay : ℤ}
    {hist : List (BitVec 32)} (inv : HalvesAt v s.eng) : HalvesAt v
    (Machine.chainOut response delay hist s).2.eng :=
  .pairIte inv (.pairIte inv (.pairIte inv (.drawReading inv)))

theorem HalvesAt.trimmedOut {v : Tbl Word × Tbl Word × Tbl (Option Word)} {s : State} {response : Nat} {c : Capture}
    {corr : ℤ} {hist : List (BitVec 32)} (inv : HalvesAt v s.eng) : HalvesAt v
    (Machine.trimmedOut response c corr hist s).2.eng :=
  .pairIte (.chainOut inv) (.chainOut (.chainOut inv))

theorem HalvesAt.modulatorWord {v : Tbl Word × Tbl Word × Tbl (Option Word)} {s : State} {ch m : Nat}
    (inv : HalvesAt v s.eng) : HalvesAt v (Machine.modulatorWord ch m s).2.eng :=
  .dcBlock (.trimmedOut inv)

theorem HalvesAt.pdmWord {v : Tbl Word × Tbl Word × Tbl (Option Word)} {s : State} {ch : Nat} {line : List Bool}
    (inv : HalvesAt v s.eng) : HalvesAt v (Machine.pdmWord ch line s).2.eng :=
  .dcBlock (.trimmedOut (.capMod inv))

theorem HalvesAt.analogueWord {v : Tbl Word × Tbl Word × Tbl (Option Word)} {s : State} {ch : Nat} {pins : Word}
    (inv : HalvesAt v s.eng) : HalvesAt v (Machine.analogueWord ch pins s).2.eng := by
  unfold Machine.analogueWord
  extract_lets tap mo s1
  have hs1 : HalvesAt v s1.eng := .chainFeed inv
  split
  next => exact .modulatorWord hs1
  next mr _ =>
    have ha : HalvesAt v (Machine.modulatorWord ch mo (Machine.chainFeed mr tap s1)).2.eng := .modulatorWord
      (.chainFeed hs1)
    refine .pairIte ?_ ha
    dsimp only
    exact .modulatorWord ha

theorem HalvesAt.captureWord {v : Tbl Word × Tbl Word × Tbl (Option Word)} {s : State} {ch : Nat} {pins : Word}
    {line : List Bool} (inv : HalvesAt v s.eng) : HalvesAt v (Machine.captureWord ch pins line s).2.eng :=
  .pairIte inv (.pairIte (.pairIte (.analogueWord inv) (.pdmWord inv))
    (.pairIte (.pairIte (.analogueWord inv) (.pdmWord inv)) (.pairIte (.analogueWord inv) (.pdmWord inv))))

theorem HalvesAt.measMod {v : Tbl Word × Tbl Word × Tbl (Option Word)} {s : State} {f : MeasState → MeasState}
    (inv : HalvesAt v s.eng) : HalvesAt v (Machine.measMod s f).eng :=
  inv

theorem HalvesAt.gatherExposure {v : Tbl Word × Tbl Word × Tbl (Option Word)} {s : State} {i : Nat}
    (inv : HalvesAt v s.eng) : HalvesAt v (Machine.gatherExposure i s).eng :=
  .measMod inv

theorem HalvesAt.exposureWord {v : Tbl Word × Tbl Word × Tbl (Option Word)} {s : State} {i : Nat}
    (inv : HalvesAt v s.eng) : HalvesAt v (Machine.exposureWord i s).2.eng :=
  .stageSample (.gatherExposure inv)

theorem HalvesAt.chainDeliver {v : Tbl Word × Tbl Word × Tbl (Option Word)} {s : State} {a : Nat} {w : Word}
    {k : Nat} (inv : HalvesAt v s.eng) : HalvesAt v (Machine.chainDeliver a w s k).eng :=
  .ite (.sinkMod (.clipIf inv)) inv

theorem HalvesAt.convoyWord {v : Tbl Word × Tbl Word × Tbl (Option Word)} {s : State} {x : Nat × Nat × Nat}
    (inv : HalvesAt v s.eng) : HalvesAt v (Machine.convoyWord s x).2.eng :=
  .pairIte inv (.stageSample inv)

theorem HalvesAt.fdWord {v : Tbl Word × Tbl Word × Tbl (Option Word)} {s : State} {a : Nat} {sample : Word}
    {line : List Bool} (inv : HalvesAt v s.eng) : HalvesAt v (Machine.fdWord a sample line s).2.eng := by
  unfold Machine.fdWord
  split
  · exact .popIngress (.pushIngress (.captureWord inv))
  · split
    · exact .popIngress inv
    · exact inv

theorem HalvesAt.landedWord {v : Tbl Word × Tbl Word × Tbl (Option Word)} {s : State} {a : Nat} {sample : Word}
    {line : List Bool} (inv : HalvesAt v s.eng) : HalvesAt v (Machine.landedWord a sample line s).2.eng := by
  unfold Machine.landedWord
  split
  · exact .convoyWord inv
  · split
    · exact .exposureWord inv
    · exact .fdWord inv

/-- The engine is this one: what operations outside the engine leave. -/
def EngAt (v e : EngineState) : Prop := e = v

theorem EngAt.ite {v : EngineState} {c : Prop} {dec : Decidable c} {s t : State} (hs : EngAt v s.eng)
    (ht : EngAt v t.eng) : EngAt v (if c then s else t).eng := by
  split
  · exact hs
  · exact ht

theorem EngAt.foldl {v : EngineState} {s : State} {β : Type} {f : State → β → State} {l : List β}
    (inv : EngAt v s.eng) (h : ∀ t x, EngAt v t.eng → EngAt v (f t x).eng) :
    EngAt v (l.foldl f s).eng :=
  foldl_inv (fun t : State => EngAt v t.eng) f h l s inv

theorem EngAt.posted {v : EngineState} {s : State} {code inst log data : Nat} {cn : Concern}
    (inv : EngAt v s.eng) : EngAt v (Machine.post code inst log data cn s).eng := by
  simpa using inv

theorem EngAt.auxMod {v : EngineState} {s : State} {c : Nat} {f : Aux → Aux} (inv : EngAt v s.eng) :
    EngAt v (Machine.auxMod s c f).eng :=
  inv

theorem EngAt.queueMod {v : EngineState} {s : State} {c : Nat} {f : AuxQueue → AuxQueue} (inv : EngAt v s.eng) :
    EngAt v (Machine.queueMod s c f).eng :=
  inv

theorem EngAt.auxStimulus {v : EngineState} {s : State} {tip : Bool} (inv : EngAt v s.eng) :
    EngAt v (Machine.auxStimulus tip s).eng := by
  unfold Machine.auxStimulus
  refine .auxMod ?_
  dsimp only
  exact .queueMod inv

theorem EngAt.jackMod {v : EngineState} {s : State} {j : Nat} {f : Jack → Jack} (inv : EngAt v s.eng) :
    EngAt v (Machine.jackMod s j f).eng :=
  .ite inv inv

theorem EngAt.serveJack {v : EngineState} {s : State} {j : Nat} (inv : EngAt v s.eng) :
    EngAt v (Machine.serveJack s j).eng :=
  .ite (.auxStimulus (.jackMod inv)) inv

theorem EngAt.serveJacks {v : EngineState} {s : State} (inv : EngAt v s.eng) : EngAt v (Machine.serveJacks s).eng :=
  .serveJack (.serveJack inv)

theorem EngAt.jacksBack {v : EngineState} {s : State} (inv : EngAt v s.eng) : EngAt v (Machine.jacksBack s).eng :=
  .jackMod (.jackMod inv)

theorem EngAt.micMod {v : EngineState} {s : State} {o : Nat} {f : MicBias → MicBias} (inv : EngAt v s.eng) :
    EngAt v (Machine.micMod s o f).eng :=
  .ite inv inv

theorem EngAt.micStop {v : EngineState} {s : State} {o st : Nat} (inv : EngAt v s.eng) :
    EngAt v (Machine.micStop o st s).eng :=
  .auxMod (.micMod inv)

theorem EngAt.postAuxFault {v : EngineState} {s : State} {mask cause : Nat} (inv : EngAt v s.eng) :
    EngAt v (Machine.postAuxFault mask cause s).eng :=
  .posted inv

theorem EngAt.auxAllOff {v : EngineState} {s : State} (inv : EngAt v s.eng) : EngAt v (Machine.auxAllOff s).eng :=
  .foldl (.foldl inv (fun _ _ h => .auxMod h)) (fun _ _ h => .queueMod h)

theorem EngAt.auxGoOff {v : EngineState} {s : State} {cause : Nat} (inv : EngAt v s.eng) :
    EngAt v (Machine.auxGoOff cause s).eng := by
  unfold Machine.auxGoOff
  refine .jacksBack (.postAuxFault ?_)
  dsimp only
  exact .auxAllOff inv

theorem EngAt.auxResume {v : EngineState} {s : State} (inv : EngAt v s.eng) :
    EngAt v (Machine.auxResume s).eng := by
  unfold Machine.auxResume
  refine .ite inv (.serveJacks (.postAuxFault ?_))
  dsimp only
  exact .auxMod inv

theorem EngAt.auxFollow {v : EngineState} {s : State} (inv : EngAt v s.eng) : EngAt v (Machine.auxFollow s).eng :=
  .ite inv (.ite (.foldl (.auxGoOff inv) (fun _ _ h => .ite (.micStop h) h)) (.auxResume inv))

theorem EngAt.usbMod {v : EngineState} {s : State} {p : Nat} {f : Usb → Usb} (inv : EngAt v s.eng) :
    EngAt v (Machine.usbMod s p f).eng :=
  .ite inv inv

theorem EngAt.hidChange {v : EngineState} {s : State} {p bits : Nat} (inv : EngAt v s.eng) :
    EngAt v (Machine.hidChange p bits s).eng :=
  .usbMod inv

theorem EngAt.hidBit {v : EngineState} {s : State} {p k : Nat} {on : Bool} (inv : EngAt v s.eng) :
    EngAt v (Machine.hidBit p k on s).eng :=
  .hidChange inv

theorem EngAt.outMod {v : EngineState} {s : State} {o : Nat} {f : Output → Output} (inv : EngAt v s.eng) :
    EngAt v (Machine.outMod s o f).eng :=
  inv

theorem EngAt.refreshPump {v : EngineState} {s : State} (inv : EngAt v s.eng) :
    EngAt v (Machine.refreshPump s).eng :=
  inv

theorem EngAt.stopDriving {v : EngineState} {s : State} {o : Nat} (inv : EngAt v s.eng) :
    EngAt v (Machine.stopDriving o s).eng :=
  .refreshPump (.outMod inv)

theorem EngAt.hidRelease {v : EngineState} {s : State} {j : Nat} (inv : EngAt v s.eng) :
    EngAt v (Machine.hidRelease j s).eng :=
  .ite (.foldl inv (fun _ _ h => .hidBit h)) inv

theorem EngAt.releaseButton {v : EngineState} {s : State} {j : Nat} (inv : EngAt v s.eng) :
    EngAt v (Machine.releaseButton j s).eng :=
  .jackMod (.hidRelease inv)

theorem EngAt.classify {v : EngineState} {s : State} {j : Nat} (inv : EngAt v s.eng) :
    EngAt v (Machine.classify j s).eng :=
  .serveJacks (.jackMod (.releaseButton inv))

theorem EngAt.reclassifyNow {v : EngineState} {s : State} {j : Nat} (inv : EngAt v s.eng) :
    EngAt v (Machine.reclassifyNow j s).eng :=
  .ite (.classify inv) inv

theorem EngAt.postOutFault {v : EngineState} {s : State} {o cause : Nat} (inv : EngAt v s.eng) :
    EngAt v (Machine.postOutFault o cause s).eng :=
  .posted inv

theorem EngAt.faultOutput {v : EngineState} {s : State} {o cause : Nat} (inv : EngAt v s.eng) :
    EngAt v (Machine.faultOutput o cause s).eng :=
  .reclassifyNow (.auxFollow (.refreshPump (.postOutFault (.outMod (.stopDriving inv)))))

theorem EngAt.saiMod {v : EngineState} {s : State} {n : Nat} {f : Sai → Sai} (inv : EngAt v s.eng) :
    EngAt v (Machine.saiMod s n f).eng :=
  inv

theorem EngAt.serialFault {v : EngineState} {s : State} (inv : EngAt v s.eng) :
    EngAt v (Machine.serialFault s).eng := by
  unfold Machine.serialFault
  dsimp only
  exact .foldl inv (fun _ _ h => .saiMod h)

theorem EngAt.macMod {v : EngineState} {s : State} {f : Mac → Mac} (inv : EngAt v s.eng) :
    EngAt v (Machine.macMod s f).eng :=
  inv

theorem EngAt.phyReset {v : EngineState} {s : State} {low : Bool} (inv : EngAt v s.eng) :
    EngAt v (Machine.phyReset low s).eng :=
  .macMod inv

end Sys2Proof.Machine
end

section
/-! PROOF. Source words, the dynamics stage and faults of fetched words. -/

namespace Sys2Proof.Machine

/-- Delivery by a route leaves the halves, the work berths and the ingress FIFOs. -/
theorem chainDeliver_eng (a : Nat) (w : Word) (s : State) (k : Nat) :
    ((chainDeliver a w s k).eng.landing, (chainDeliver a w s k).eng.working, (chainDeliver a w s k).eng.work,
      (chainDeliver a w s k).eng.ingress) = (s.eng.landing, s.eng.working, s.eng.work, s.eng.ingress) := by
  unfold chainDeliver
  dsimp only
  split
  · unfold clipIf
    split <;> rfl
  · rfl

/-- What a word that lands leaves: it stands in the landing half, and the routes deliver it. -/
theorem landSource_some {a : Nat} {sample : Word} {line : List Bool} {s : State} {w : Word × Bool}
    (h : (landedWord a sample line s).1 = some w) :
    (landSource a sample line s).eng.landing = tset none (landedWord a sample line s).2.eng.landing a (some w.1)
    ∧ (landSource a sample line s).eng.working = (landedWord a sample line s).2.eng.working
    ∧ (landSource a sample line s).eng.work = (landedWord a sample line s).2.eng.work
    ∧ (landSource a sample line s).eng.ingress = (landedWord a sample line s).2.eng.ingress := by
  unfold landSource
  dsimp only
  rw [h]
  dsimp only
  have hkeep := foldl_keeps (fun t : State => (t.eng.landing, t.eng.working, t.eng.work, t.eng.ingress))
    (chainDeliver a w.1) (chainDeliver_eng a w.1) (List.range 64)
  have hclip : (clipIf w.2 a (landedWord a sample line s).2).eng = (landedWord a sample line s).2.eng := by
    unfold clipIf
    split <;> rfl
  simp only [Prod.mk.injEq] at hkeep
  obtain ⟨h1, h2, h3, h4⟩ := hkeep { clipIf w.2 a (landedWord a sample line s).2 with
    eng := { (clipIf w.2 a (landedWord a sample line s).2).eng with
      landing := tset none (clipIf w.2 a (landedWord a sample line s).2).eng.landing a (some w.1) } }
  rw [h1, h2, h3, h4, hclip]
  exact ⟨rfl, rfl, rfl, rfl⟩

theorem landSource_none {a : Nat} {sample : Word} {line : List Bool} {s : State}
    (h : (landedWord a sample line s).1 = none) : landSource a sample line s = (landedWord a sample line s).2 := by
  unfold landSource
  dsimp only
  rw [h]

theorem landedWord_halves (a : Nat) (sample : Word) (line : List Bool) (s : State) :
    (landedWord a sample line s).2.eng.working = s.eng.working ∧ (landedWord a sample line s).2.eng.work = s.eng.work
    ∧ (landedWord a sample line s).2.eng.landing = s.eng.landing := by
  have h : HalvesAt (s.eng.working, s.eng.work, s.eng.landing) (landedWord a sample line s).2.eng := .landedWord rfl
  simpa [HalvesAt] using h

theorem exec_sourceWordLand {a : Fin 256} {w : Word} {line : List Bool} {s : State} (htick : s.eng.ticking = true)
    (ha : a.val ∈ sourceWriters s.cs.near) :
    exec (.sourceWordLand a w line) s = .next (landSource a.val w line s) := by
  show execSourceWordLand a w line s = _
  exact whenever_true (by simp [htick, ha])

/-- A berth of a BYPASS convoy takes its member's last sample, under the fade and the mute, rounded once. -/
theorem landedWord_bypass {a k m c : Nat} {sample : Word} {line : List Bool} {s : State}
    (hb : convoyBerth s false a = some (k, m, c)) (hbypass : convoyBypass (nearConvoy s k) = true) :
    ∃ clip, landedWord a sample line s = (some (BitVec.ofInt 32 (rneShift
      ((portWord (ingressFormat s (memberOf (nearConvoy s k) m).1 (memberOf (nearConvoy s k) m).2.1)
        ((memGet s k m).last.getD c 0)).1.toInt
        * ((memberLevel (memGet s k m)).toInt * (muteFactor (convGet s k)).toInt)) 54), clip), s) := by
  refine ⟨(convoyWord s (k, m, c)).1.2, ?_⟩
  simp only [landedWord, hb, convoyWord, hbypass, if_true]

/-- A berth of an SAI port in the FD role takes the oldest word of its FIFO (R11). -/
theorem landedWord_fdSai {a i : Nat} {x : Word} {r : List Word} {sample : Word} {line : List Bool} {s : State}
    (hb : convoyBerth s false a = none) (hexp : exposureAt s a = none) (hcap : captureOf s a = none)
    (hsai : fdSaiSource s a = some i) (hfifo : tget none s.eng.ingress a = some (x :: r)) :
    landedWord a sample line s = (some (portWord (portFormat s i 0).1 x),
      { s with eng := { s.eng with ingress := tset none s.eng.ingress a (some r) } }) := by
  simp only [landedWord, hb, hexp, fdWord, hcap, hsai, popIngress, hfifo, Option.map_some]

theorem rneDiv_mul_self (x : Int) {d : Nat} (hd : 0 < d) : rneDiv (x * d) d = x := by
  have hd' : (d : Int) ≠ 0 := by omega
  simp only [rneDiv, Int.mul_ediv_cancel _ hd', Int.mul_emod_left]
  rw [if_pos (by simpa using hd)]

/-- The product with 1.0 is the word itself. -/
theorem mulQ27_unity (x : Int) : mulQ27 x unity.toInt = x := by
  have hu : unity.toInt = ((2 ^ 27 : Nat) : Int) := by decide
  rw [mulQ27, rneShift, hu]
  exact rneDiv_mul_self x (by decide)

theorem clampInt_eq {lo hi : Int} (h : lo ≤ hi) (x : Int) : clampInt lo hi x = max lo (min hi x) := by
  unfold clampInt
  split
  · omega
  · split <;> omega

/-- A sink is done when it is finished. -/
theorem sinkGet_sinkMod_done {s : State} {k : Nat} {f : Sink → Sink} (h : (f (sinkGet s k)).done = true) :
    sinkGet (sinkMod s k f) k = f (sinkGet s k) :=
  tget_tset_same_ne Sink.reset s.eng.sinks k fun e => by
    have hd : (f (sinkGet s k)).done = false := congrArg Sink.done e
    exact absurd h (by rw [hd]; decide)

theorem finishSink_done (k : Nat) (gain : Int) (w : Word) (s : State) : (sinkGet (finishSink k gain w s) k).done = true := by
  unfold finishSink
  dsimp only
  rw [sinkGet_sinkMod_done rfl]

/-- A sink of no limiter, no protection and no port gives its clamped word. -/
theorem finishSink_plain {k : Nat} {w : Word} {s : State} (hp : sinkProtect s k = none) (hsel : s.cs.select = none)
    (hf : (sinkFormat s (256 + k)).1 = .fabric) :
    (sinkGet (finishSink k 0 w s) k).out = BitVec.ofInt 32 (max (-2 ^ 27) (min (2 ^ 27) w.toInt)) := by
  have hfactor : selectFactor s = unity := by simp only [selectFactor, hsel]
  unfold finishSink
  dsimp only
  rw [sinkGet_sinkMod_done rfl]
  simp only [hp, hfactor, add_zero, if_true, mulQ27_unity, convertSink, hf, clampInt_eq (show (-(2 ^ 27) : Int) ≤ 2 ^ 27 by decide)]

/-- The dynamics stage is done with a sink that it takes. -/
theorem exec_dynamicsSink {k : Fin 256} {s : State} (htick : s.eng.ticking = true) (hland : (sinkGet s k.val).landed = true)
    (hdone : (sinkGet s k.val).done = false) :
    ∃ t, exec (.dynamicsSink k) s = .next t ∧ (sinkGet t k.val).done = true
      ∧ (sinkLimiter s k.val = none → t = finishSink k.val 0 (sinkGet s k.val).word (detectSink k.val s)) := by
  refine ⟨_, show execDynamicsSink k s = _ from whenever_true (by simp [htick, hland, hdone]), ?_⟩
  dsimp only
  split
  case h_1 l hl =>
    refine ⟨?_, fun h => absurd (hl.symm.trans h) (by simp)⟩
    split
    · rw [sinkGet_sinkMod_done rfl]
    · exact finishSink_done _ _ _ _
  case h_2 => exact ⟨finishSink_done _ _ _ _, fun _ => rfl⟩

theorem tget_cons_same {α : Type} (d : α) (e : Nat × α) (t : Tbl α) : tget d (e :: t) e.1 = e.2 := by simp [tget]

theorem tget_cons_gt {α : Type} (d : α) {e : Nat × α} {i : Nat} (h : e.1 < i) (t : Tbl α) : tget d (e :: t) i = tget d t i := by
  simp [tget, show i ≠ e.1 by omega, show ¬ i < e.1 by omega]

theorem tget_cons_lt {α : Type} (d : α) {e : Nat × α} {i : Nat} (h : i < e.1) (t : Tbl α) : tget d (e :: t) i = d := by
  simp [tget, show i ≠ e.1 by omega, h]

/-- An element that is no default before and after a map of the table is the map's image. -/
theorem tget_tmapKeys_same {α : Type} [DecidableEq α] {d : α} {f : Nat → α → α} {i : Nat} :
    ∀ {t : Tbl α}, tget d t i ≠ d → f i (tget d t i) ≠ d → tget d (tmapKeys d t f) i = f i (tget d t i)
  | [], h, _ => absurd rfl h
  | e :: t, h, hf => by
    rcases Nat.lt_trichotomy e.1 i with hlt | rfl | hgt
    · rw [tget_cons_gt d hlt] at h hf ⊢
      rw [← tget_tmapKeys_same h hf]
      by_cases hd : f e.1 e.2 = d
      · simp [tmapKeys, hd]
      · simpa [tmapKeys, hd] using tget_cons_gt d (e := (e.1, f e.1 e.2)) hlt _
    · rw [tget_cons_same] at hf ⊢
      simpa [tmapKeys, hf] using tget_cons_same d (e.1, f e.1 e.2) _
    · exact absurd (tget_cons_lt d hgt t) h

/-- A lane that a fault has stopped. -/
def stoppedLane (pos : Nat) (a : Lane) : Lane := { a with faulted := true, faultWord := pos, faultSince := true }

theorem lane_ne_reset {a : Lane} (h : a.faulted = true) : a ≠ Lane.reset := fun e => by
  rw [e] at h
  exact absurd h (by decide)

theorem askRebuild_keeps (s : State) :
    (askRebuild s).eng = s.eng ∧ (s.cs.load = none → .rebuild ∈ (askRebuild s).cs.loads) := by
  unfold askRebuild
  split
  case h_1 l hl =>
    refine ⟨?_, fun h => absurd (hl.symm.trans h) (by simp)⟩
    split <;> rfl
  case h_2 =>
    split
    case isTrue h => exact ⟨rfl, fun _ => h⟩
    case isFalse => exact ⟨rfl, fun _ => List.mem_cons_self⟩

theorem postEngineFault_keeps (l word cause count : Nat) (s : State) :
    (postEngineFault l word cause count s).eng = s.eng ∧ (postEngineFault l word cause count s).cs = s.cs := by
  simp [postEngineFault]

/-- A halt stops the tick and leaves the engine else as the tick's stop does (R108). -/
theorem haltEngine_eng (s : State) :
    (haltEngine s).eng = (stopTick { s with eng := { s.eng with halted := true } }).eng :=
  EngAt.auxFollow (EngAt.foldl (EngAt.phyReset (EngAt.serialFault rfl)) fun _ _ h => EngAt.faultOutput h)

/-- The state of a lane at its first faulty word, before the consequences: the lane stands stopped. -/
def faultedState (l : Nat) (near : Bank) (s : State) : State :=
  laneMod { s with cs := { s.cs with near := near } } l (stoppedLane (laneGet s l).pos)

theorem laneGet_faultedState (l : Nat) (near : Bank) (s : State) :
    laneGet (faultedState l near s) l = stoppedLane (laneGet s l).pos (laneGet s l) :=
  tget_tset_same_ne Lane.reset s.eng.lanes l (lane_ne_reset rfl)

/-- A halt leaves a stopped lane stopped at its word (R108). -/
theorem haltEngine_lane {s : State} {l : Nat} (h : (laneGet s l).faulted = true) :
    (haltEngine s).eng.halted = true ∧ (haltEngine s).eng.ticking = false
    ∧ laneGet (haltEngine s) l = { laneGet s l with ended := true, wait := none } := by
  rw [laneGet, haltEngine_eng]
  refine ⟨rfl, rfl, ?_⟩
  exact tget_tmapKeys_same (f := fun _ a => { a with ended := true, wait := none }) (lane_ne_reset h) (lane_ne_reset h)

/-- The near bank after a faulty word: the word's parity is marked, but for a reserved opcode. -/
def markedBank (l : Nat) (s : State) : Bank :=
  if !opcodeKnown (wordOp (bankWord s.cs.near l (laneGet s l).pos)) then s.cs.near
  else { s.cs.near with parity := withElem (l * 1024 + (laneGet s l).pos) s.cs.near.parity }

/-- The state with a new faulty word counted. -/
def countedState (l : Nat) (s : State) : State :=
  let t := faultedState l (markedBank l s) s
  { t with
    free := t.free + 1
    eng := { t.eng with
      faults := recentTimes s s.eng.faults ++ [(0, false)]
      faultedWords := withElem (l * 1024 + (laneGet s l).pos) t.eng.faultedWords } }

theorem fetchFault_known {l : Nat} {s : State} (h : l * 1024 + (laneGet s l).pos ∈ s.eng.faultedWords) :
    fetchFault l s = faultedState l (markedBank l s) s := by
  unfold fetchFault
  dsimp only
  rw [if_pos h]
  rfl

theorem fetchFault_third {l : Nat} {s : State} (h : l * 1024 + (laneGet s l).pos ∉ s.eng.faultedWords)
    (hn : 2 ≤ (recentTimes s s.eng.faults).length) :
    fetchFault l s = postEngineFault l (laneGet s l).pos 3 ((recentTimes s s.eng.faults).length + 1)
      (haltEngine (countedState l s)) := by
  unfold fetchFault
  dsimp only
  rw [if_neg h, if_pos (by rw [List.length_append]; simpa using hn), List.length_append]
  rfl

theorem fetchFault_early {l : Nat} {s : State} (h : l * 1024 + (laneGet s l).pos ∉ s.eng.faultedWords)
    (hn : (recentTimes s s.eng.faults).length < 2) :
    ∃ cause count, fetchFault l s =
      askRebuild (postEngineFault l (laneGet s l).pos cause count (countedState l s)) := by
  refine ⟨if !opcodeKnown (wordOp (bankWord s.cs.near l (laneGet s l).pos)) then 1 else 2,
    (recentTimes s s.eng.faults ++ [(0, false)]).length, ?_⟩
  unfold fetchFault
  dsimp only
  rw [if_neg h, if_neg (by rw [List.length_append]; simpa using hn)]
  rfl

theorem countedState_keeps (l : Nat) (s : State) :
    laneGet (countedState l s) l = stoppedLane (laneGet s l).pos (laneGet s l)
    ∧ (countedState l s).eng.ticking = s.eng.ticking ∧ (countedState l s).cs.load = s.cs.load :=
  ⟨laneGet_faultedState l (markedBank l s) s, rfl, rfl⟩

/-- A lane that fetches a faulty word stands stopped there. -/
theorem fetchFault_lane (l : Nat) (s : State) :
    (laneGet (fetchFault l s) l).faulted = true ∧ (laneGet (fetchFault l s) l).faultWord = (laneGet s l).pos
    ∧ (laneGet (fetchFault l s) l).faultSince = true := by
  obtain ⟨hlane, -, -⟩ := countedState_keeps l s
  by_cases hknown : l * 1024 + (laneGet s l).pos ∈ s.eng.faultedWords
  · rw [fetchFault_known hknown, laneGet_faultedState]
    exact ⟨rfl, rfl, rfl⟩
  · by_cases hn : 2 ≤ (recentTimes s s.eng.faults).length
    · obtain ⟨-, -, hhalt⟩ := haltEngine_lane (s := countedState l s) (l := l) (by rw [hlane]; rfl)
      rw [fetchFault_third hknown hn, laneGet, (postEngineFault_keeps _ _ _ _ _).1]
      change (laneGet (haltEngine (countedState l s)) l).faulted = true
        ∧ (laneGet (haltEngine (countedState l s)) l).faultWord = (laneGet s l).pos
        ∧ (laneGet (haltEngine (countedState l s)) l).faultSince = true
      rw [hhalt, hlane]
      exact ⟨rfl, rfl, rfl⟩
    · obtain ⟨cause, count, hgo⟩ := fetchFault_early hknown (Nat.lt_of_not_le hn)
      rw [hgo, laneGet, (askRebuild_keeps _).1, (postEngineFault_keeps _ _ _ _ _).1]
      change (laneGet (countedState l s) l).faulted = true
        ∧ (laneGet (countedState l s) l).faultWord = (laneGet s l).pos
        ∧ (laneGet (countedState l s) l).faultSince = true
      rw [hlane]
      exact ⟨rfl, rfl, rfl⟩

/-- The third new faulty word within 10 s halts the engine (R108). -/
theorem fetchFault_halts {l : Nat} {s : State} (h : l * 1024 + (laneGet s l).pos ∉ s.eng.faultedWords)
    (hn : 2 ≤ (recentTimes s s.eng.faults).length) :
    (fetchFault l s).eng.halted = true ∧ (fetchFault l s).eng.ticking = false := by
  rw [fetchFault_third h hn, (postEngineFault_keeps _ _ _ _ _).1, haltEngine_eng]
  exact ⟨rfl, rfl⟩

/-- An earlier one asks for the rebuild (R107). -/
theorem fetchFault_rebuilds {l : Nat} {s : State} (h : l * 1024 + (laneGet s l).pos ∉ s.eng.faultedWords)
    (hn : (recentTimes s s.eng.faults).length < 2) (hload : s.cs.load = none) :
    .rebuild ∈ (fetchFault l s).cs.loads ∧ (fetchFault l s).eng.ticking = s.eng.ticking := by
  obtain ⟨cause, count, hgo⟩ := fetchFault_early h hn
  obtain ⟨heng, hcs⟩ := postEngineFault_keeps l (laneGet s l).pos cause count (countedState l s)
  obtain ⟨-, htick, hload'⟩ := countedState_keeps l s
  obtain ⟨hkeep, hask⟩ := askRebuild_keeps (postEngineFault l (laneGet s l).pos cause count (countedState l s))
  rw [hgo]
  exact ⟨hask (by rw [hcs, hload', hload]), by rw [hkeep, heng, htick]⟩

theorem detectSink_none {k : Nat} {s : State} (h : sinkProtect s k = none) : detectSink k s = s := by
  unfold detectSink
  rw [h]

end Sys2Proof.Machine

namespace Sys2Proof

open Sys2Proof.Machine

/-- Settles O32: a source word lands as its berth's kind gives it; the dynamics stage is done with a sink; a faulty word
stops its lane, and the count of the recent faults decides between the rebuild and the halt. -/
theorem sampleAndFaultSteps : Obligations.SampleAndFaultSteps := by
  unfold Obligations.SampleAndFaultSteps
  intro s
  refine ⟨fun a w line htick ha => ?lands, fun a w line k m c htick ha hb hbypass hwf => ?bypass,
    fun a w line i x r htick ha hb hexp hcap hsai hfifo hland hin => ?fd, fun k htick hlanded hdone => ?dynamics,
    fun l hruns => ?fault⟩
  case lands =>
    refine ⟨_, exec_sourceWordLand htick ha, ?_⟩
    obtain ⟨hwork, hberth, hland⟩ := landedWord_halves a.val w line s
    cases hw : (landedWord a.val w line s).1 with
    | none =>
      rw [landSource_none hw]
      exact ⟨hwork, hberth, fun _ b _ => by rw [hland]⟩
    | some v =>
      obtain ⟨h1, h2, h3, -⟩ := landSource_some hw
      refine ⟨h2.trans hwork, h3.trans hberth, fun hwf b hb => ?_⟩
      rw [h1, hland]
      exact tget_tset_other none hwf hb _
  case bypass =>
    obtain ⟨clip, hw⟩ := landedWord_bypass (sample := w) (line := line) hb hbypass
    obtain ⟨h1, -, -, -⟩ := landSource_some (congrArg Prod.fst hw)
    refine ⟨_, exec_sourceWordLand htick ha, ?_⟩
    rw [h1, hw]
    exact tget_tset_same none hwf _ _
  case fd =>
    have hw := landedWord_fdSai (sample := w) (line := line) hb hexp hcap hsai hfifo
    obtain ⟨h1, -, -, h4⟩ := landSource_some (congrArg Prod.fst hw)
    refine ⟨_, exec_sourceWordLand htick ha, ?_, ?_⟩
    · rw [h1, hw]
      exact tget_tset_same none hland _ _
    · rw [h4, hw]
      exact tget_tset_same none hin _ _
  case dynamics =>
    obtain ⟨t, hgo, hdone', hplain⟩ := exec_dynamicsSink htick hlanded hdone
    refine ⟨t, hgo, hdone', fun hlim hprot hsel hfmt => ?_⟩
    rw [hplain hlim, detectSink_none hprot]
    exact finishSink_plain hprot hsel hfmt
  case fault =>
    obtain ⟨h1, h2, h3⟩ := fetchFault_lane l.val s
    refine ⟨fetchFault l.val s, show execWordFetchFault l s = _ from whenever_true hruns, h1, h2, h3,
      fetchFault_halts, fun hnew hn hload => ?_⟩
    obtain ⟨hask, htick⟩ := fetchFault_rebuilds hnew hn hload
    refine ⟨hask, htick.trans ?_⟩
    simp only [laneRuns, Bool.and_eq_true] at hruns
    exact hruns.1.1.1

end Sys2Proof
end

section
/-! PROOF. Parameters, filters and dynamics: reads and commands of group 0x04. -/

namespace Sys2Proof.Machine

theorem protectReadResult_eq (p : List Byte) (s : State) (q : Protect) (hq : q = latchProtect (protectGet s (u8 p 0))) :
    protectReadResult p s
      = b2 q.re ++ sb2 (if q.estimated then q.temp else classDTemp s) ++ b2 (reductionOf (protectGet s (u8 p 0)).gtNow)
        ++ b2 (reductionOf (protectGet s (u8 p 0)).gx)
        ++ b2 (min (((q.peaks.filter (fun x => decide (s.eng.period < x.1 + fabricHz s / 10))).map (·.2)).foldl max 0) 0xFFFF)
        ++ b1 (flag q.enabled + 2 * flag q.degraded + 4 * flag (q.fault != 0) + 8 * flag q.limiting
          + 16 * flag q.exLimiting)
        ++ b1 q.fault ++ [0, 0, 0, 0] := by
  rw [hq, List.foldl_map]
  rfl

theorem bqReadResult_eq (p : List Byte) (s : State) :
    bqReadResult p s
      = b1 (flag (countsActive (sectionGet s (u16 p 0)))) ++ b1 (flag (sectionGet s (u16 p 0)).sel.isSome)
          ++ b1 (((sectionGet s (u16 p 0)).queued.map (fun r => flag r.toB)).getD 0xFF)
          ++ b1 (((sectionGet s (u16 p 0)).queued.map (fun r => flag r.fade)).getD 0)
          ++ b4 (selRemaining (sectionGet s (u16 p 0)).sel)
          ++ coefBytes ((sectionGet s (u16 p 0)).pendA.getD (sectionGet s (u16 p 0)).bankA)
          ++ coefBytes ((sectionGet s (u16 p 0)).pendB.getD (sectionGet s (u16 p 0)).bankB) := by
  unfold bqReadResult
  dsimp only
  cases (sectionGet s (u16 p 0)).queued <;> rfl

theorem delayReadResult_eq (p : List Byte) (s : State) :
    delayReadResult p s
      = b4 (lineGet s (u8 p 0)).base ++ b4 (lineGet s (u8 p 0)).len ++ b4 (lineGet s (u8 p 0)).d0
          ++ b2 (lineGet s (u8 p 0)).maxOffset ++ b1 (flag (lineGet s (u8 p 0)).sel.isSome) ++ [0]
          ++ b4 (((lineGet s (u8 p 0)).queued.map (·.d0)).getD 0xFFFFFFFF) := by
  unfold delayReadResult
  dsimp only
  cases (lineGet s (u8 p 0)).queued <;> rfl

theorem engineRecord_eq (s : State) :
    engineRecord s
      = b4 (s.eng.period % 2 ^ 32) ++ b1 s.cs.nearBank
          ++ b1 ((s.cs.load.map (fun l => if l.complete then 2 else 1)).getD 0
            + 4 * flag (s.eng.ramps.any (fun e => e.2.n != 0)))
          ++ b1 (maskBy 8 (fun i => (laneGet s i).faultSince)) ++ b1 (maskBy 8 (fun i => (laneGet s i).accSat))
          ++ (List.range 8).flatMap (fun l => b4 (laneGet s l).overrun)
          ++ (List.range 8).flatMap (fun l => b2 (laneGet s l).faultWord) ++ b4 s.cs.swapCount ++ [0, 0, 0, 0] := by
  unfold engineRecord
  dsimp only
  rw [List.flatMap_map, List.flatMap_map]
  cases s.cs.load <;> rfl

/-- The clip counters after CLIP_READ (R141). -/
def clipsAfter (o : Issue) (p : List Byte) (clips : Tbl Nat) : Tbl Nat :=
  if u8 p 4 = 1 then (List.range (u16 p 2)).foldl (fun t i => tset 0 t (ctxNum o.ctx * 1024 + u16 p 0 + i) 0) clips
  else clips

theorem clipReadDo_eq (o : Issue) (p : List Byte) (log : Nat) (s : State) :
    clipReadDo o p log s =
      { s := { s with par := { s.par with clips := clipsAfter o p s.par.clips } }
        status := 0
        result := (List.range (u16 p 2)).flatMap (fun i => b2 (tget 0 s.par.clips (ctxNum o.ctx * 1024 + u16 p 0 + i))) } := by
  unfold clipReadDo clipsAfter
  dsimp only
  rw [List.flatMap_map, List.foldl_map]
  split <;> rfl

/-- An accepted command is answered as its effect says. -/
theorem hostCommand_does {op : Nat} {o : Issue} {p : List Byte} {check : State → Option Nat} {s : State}
    (h : Accepted op o p check s) {act : Nat → State → Done} {d : Done} (hd : act s.host.log (takeLog s) = d) :
    hostCommand op o p check act s = answerOn op o s d.status d.result d.s := by
  rw [hostCommand_accepted h act, hd]

/-- BQ_SELECT: at rest it starts or has nothing to do; else it cancels what waits or waits itself (R127). -/
theorem bqSelectDo_rest {o : Issue} {p : List Byte} {log : Nat} {s : State} (hsel : (sectionGet s (u16 p 0)).sel = none)
    (hq : (sectionGet s (u16 p 0)).queued = none) :
    bqSelectDo o p log s = if (sectionGet s (u16 p 0)).activeB == (u8 p 2 == 1) then ok s
      else ok (sectionMod s (u16 p 0) (fun q => { q with
        sel := some (newSelection s (u8 p 2 == 1) (u8 p 3 == 1) (u16 p 4)) })) := by
  simp [bqSelectDo, hsel, hq]

theorem bqSelectDo_busy {o : Issue} {p : List Byte} {log : Nat} {s : State} {r : Option QueuedSel}
    (hq : (sectionGet s (u16 p 0)).queued = r) (h : (sectionGet s (u16 p 0)).sel ≠ none ∨ r ≠ none) :
    bqSelectDo o p log s = if countsActive (sectionGet s (u16 p 0)) == (u8 p 2 == 1) then
        ok (dropQueued r (sectionMod s (u16 p 0) (fun q => { q with queued := none })))
      else queuedDone (dropQueued r (sectionMod s (u16 p 0) (fun q => { q with
        queued := some { toB := u8 p 2 == 1, d0 := 0, ms := u16 p 4, fade := u8 p 3 == 1
                         waiter := { ctx := o.ctx, log := log } } }))) := by
  have hbusy : ((sectionGet s (u16 p 0)).sel.isNone && r.isNone) = false := by
    rcases h with h | h <;> simp [h, Option.isSome_iff_ne_none]
  simp [bqSelectDo, hq, hbusy]

/-- DELAY_SET, in the same way (R129). -/
theorem delaySetDo_rest {o : Issue} {p : List Byte} {log : Nat} {s : State} (hsel : (lineGet s (u8 p 0)).sel = none)
    (hq : (lineGet s (u8 p 0)).queued = none) :
    delaySetDo o p log s = if (lineGet s (u8 p 0)).d0 = u32 p 4 then ok s
      else ok (startDelay s (u8 p 0) (u32 p 4) (if u16 p 2 = 0xFFFF then (lineGet s (u8 p 0)).xfade else u16 p 2)) := by
  simp [delaySetDo, hsel, hq]

theorem delaySetDo_busy {o : Issue} {p : List Byte} {log : Nat} {s : State} {r : Option QueuedSel}
    (hq : (lineGet s (u8 p 0)).queued = r) (h : (lineGet s (u8 p 0)).sel ≠ none ∨ r ≠ none) :
    delaySetDo o p log s = if (lineGet s (u8 p 0)).d0 = u32 p 4 then
        ok (dropQueued r (lineMod s (u8 p 0) (fun q => { q with queued := none })))
      else queuedDone (dropQueued r (lineMod s (u8 p 0) (fun q => { q with
        queued := some {
          toB := true, d0 := u32 p 4, ms := if u16 p 2 = 0xFFFF then (lineGet s (u8 p 0)).xfade else u16 p 2
          fade := (if u16 p 2 = 0xFFFF then (lineGet s (u8 p 0)).xfade else u16 p 2) != 0
          waiter := { ctx := o.ctx, log := log } } }))) := by
  have hbusy : ((lineGet s (u8 p 0)).sel.isNone && r.isNone) = false := by
    rcases h with h | h <;> simp [h, Option.isSome_iff_ne_none]
  simp [delaySetDo, hq, hbusy]

/-- A change of D0 that starts (R129). -/
theorem lineGet_startDelay {s : State} {k : Nat} (w : tblWf DelayLine.absent s.par.lines = true) (d0 ms : Nat) :
    lineGet (startDelay s k d0 ms) k = { lineGet s k with
      old := (lineGet s k).d0, d0 := d0, sel := some (newSelection s true (ms != 0) ms) } :=
  tget_tset_same DelayLine.absent w k _

end Sys2Proof.Machine

namespace Sys2Proof
open Sys2Proof.Machine

/-- Settles O33: the reads answer what their results say, and three of them start a count anew. -/
theorem parameterReadsAnswer : Obligations.ParameterReadsAnswer := by
  intro o p s
  refine ⟨?param, ?bq, ?delay, ?limiter, ?limiterPending, ?protect, ?meter, ?clip, ?engine⟩
  case param => exact fun h => hostCommand_accepted h (reads (getParamResult p))
  case bq =>
    intro h
    refine (hostCommand_accepted h (reads (bqReadResult p))).trans ?_
    rw [reads, bqReadResult_eq]
    rfl
  case delay =>
    intro h
    refine (hostCommand_accepted h (reads (delayReadResult p))).trans ?_
    rw [reads, delayReadResult_eq]
    rfl
  case limiter =>
    intro h hp
    have hp' : (limiterGet (takeLog s) (u8 p 0)).pending = none := hp
    refine (hostCommand_accepted h (limiterReadDo o p)).trans ?_
    simp only [limiterReadDo, hp']
    rfl
  case limiterPending =>
    intro f h hp
    have hp' : (limiterGet (takeLog s) (u8 p 0)).pending = some f := hp
    refine (hostCommand_accepted h (limiterReadDo o p)).trans ?_
    simp only [limiterReadDo, hp']
    rfl
  case protect =>
    intro q h hq
    refine (hostCommand_accepted h (reads (protectReadResult p))).trans ?_
    rw [reads, protectReadResult_eq p (takeLog s) q hq]
    rfl
  case meter =>
    intro h
    refine (hostCommand_accepted h (meterReadDo o p)).trans ?_
    rw [meterReadDo, List.flatMap_map, List.foldl_map]
    rfl
  case clip =>
    intro h
    obtain ⟨t, hgo, hr, k⟩ := hostCommand_leaves h (clipReadDo_eq o p s.host.log (takeLog s)) rfl
    have hpar : t.par = { s.par with clips := clipsAfter o p s.par.clips } := k.fields.2.2.1
    refine ⟨t, hgo, hr, fun hc => ?_, fun hc hwf i => ?_, ?_⟩
    · rw [hpar, clipsAfter, if_neg (by omega)]
    · rw [hpar, clipsAfter, if_pos hc]
      exact (tget_foldl_tset 0 hwf (ctxNum o.ctx * 1024 + u16 p 0) (u16 p 2) (fun _ => 0) i).2
    · rw [onlyHost_iff]
      simp [k.fields]
  case engine =>
    intro h
    refine (hostCommand_accepted h engineStatusDo).trans ?_
    rw [engineStatusDo, engineRecord_eq]
    rfl

/-- Settles O36: both commands put their settings where the next tick takes them. -/
theorem dynamicsCommandsTakeEffect : Obligations.DynamicsCommandsTakeEffect := by
  intro o p s
  exact ⟨fun h => hostCommand_accepted h (limiterSetDo p), fun h => hostCommand_accepted h (protectSetDo p)⟩

/-- Settles O35: a request starts where nothing runs, and else waits, replaces or cancels what waits. -/
theorem filterAndDelayCommandsTakeEffect : Obligations.FilterAndDelayCommandsTakeEffect := by
  intro o p s
  refine ⟨?write, ?selectNone, ?selectStarts, ?selectCancels, ?selectWaits, ?selectReplaces, ?delayNone, ?delayStarts,
    ?delayWaits, ?delayCancels, ?delayDrops, ?delayReplaces⟩
  case write => exact fun h => hostCommand_accepted h (bqWriteDo p)
  case selectNone =>
    intro h hsel hq hb
    exact hostCommand_does h ((bqSelectDo_rest (s := takeLog s) hsel hq).trans (if_pos (beq_iff_eq.mpr hb)))
  case selectStarts =>
    intro h hsel hq hb
    have hn : (if u8 p 3 == 1 then periodsOfMs s (u16 p 4) else 0)
        = if u8 p 3 = 1 then ceilDiv (u16 p 4 * fabricHz s) 1000 else 0 := by simp only [periodsOfMs, beq_iff_eq]
    rw [← hn]
    exact hostCommand_does h
      ((bqSelectDo_rest (s := takeLog s) hsel hq).trans (if_neg fun e => hb (beq_iff_eq.mp e)))
  case selectCancels =>
    intro h hsel hq hb
    exact hostCommand_does h
      ((bqSelectDo_busy (s := takeLog s) hq (.inl hsel)).trans (if_pos (beq_iff_eq.mpr hb)))
  case selectWaits =>
    intro h hsel hq hb
    exact hostCommand_does h
      ((bqSelectDo_busy (s := takeLog s) hq (.inl hsel)).trans (if_neg fun e => hb (beq_iff_eq.mp e)))
  case selectReplaces =>
    intro r h hq
    have hbusy := bqSelectDo_busy (o := o) (p := p) (log := s.host.log) (s := takeLog s) hq (.inr nofun)
    split
    case isTrue hb => exact hostCommand_does h (hbusy.trans (if_pos (beq_iff_eq.mpr hb)))
    case isFalse hb => exact hostCommand_does h (hbusy.trans (if_neg fun e => hb (beq_iff_eq.mp e)))
  case delayNone => exact fun h hsel hq hd => hostCommand_does h ((delaySetDo_rest (s := takeLog s) hsel hq).trans (if_pos hd))
  case delayStarts =>
    intro h hsel hq hd hwf
    obtain ⟨t, hgo, hr, k⟩ := hostCommand_leaves h ((delaySetDo_rest (s := takeLog s) hsel hq).trans (if_neg hd)) rfl
    have hline : lineGet t (u8 p 0) = _ :=
      (congrArg (fun x : ParamState => tget DelayLine.absent x.lines (u8 p 0)) k.fields.2.2.1).trans
        (lineGet_startDelay (s := takeLog s) hwf _ _)
    refine ⟨t, hgo, hr, by rw [hline], by rw [hline]; rfl, by rw [hline]; rfl, ?_⟩
    rw [onlyHost_iff]
    simp [k.fields, startDelay, lineMod]
  case delayWaits =>
    exact fun h hsel hq hd => hostCommand_does h
      ((delaySetDo_busy (s := takeLog s) hq (.inl hsel)).trans (if_neg hd))
  case delayCancels =>
    exact fun h hsel hq hd => hostCommand_does h
      ((delaySetDo_busy (s := takeLog s) hq (.inl hsel)).trans (if_pos hd))
  case delayDrops =>
    exact fun r h hq hd => hostCommand_does h
      ((delaySetDo_busy (s := takeLog s) hq (.inr nofun)).trans (if_pos hd))
  case delayReplaces =>
    exact fun r h hq hd => hostCommand_does h
      ((delaySetDo_busy (s := takeLog s) hq (.inr nofun)).trans (if_neg hd))

end Sys2Proof
end

section
/-! PROOF. Ends of ramps, crossfades and delay changes, the clip interval, and speaker protection. -/

namespace Sys2Proof.Machine

theorem protectGet_protectMod_same {s : State} (w : tblWf Protect.absent s.par.protects = true) (i : Nat)
    (f : Protect → Protect) : protectGet (protectMod s i f) i = f (protectGet s i) :=
  tget_tmod_same Protect.absent w i f

theorem protectMod_wf {s : State} (w : tblWf Protect.absent s.par.protects = true) (i : Nat) (f : Protect → Protect) :
    tblWf Protect.absent (protectMod s i f).par.protects = true :=
  tmod_wf Protect.absent w i f

theorem protectGet_of_par {s t : State} (h : t.par = s.par) (i : Nat) : protectGet t i = protectGet s i := by
  unfold protectGet
  rw [h]

/-- Between the two states only the host part and the protections differ. -/
def OnlyProtect (s t : State) : Prop := OnlyHost { s with par := { s.par with protects := t.par.protects } } t

theorem onlyProtect_iff {s t : State} : OnlyProtect s t ↔
    (t.cs = s.cs ∧ t.eng = s.eng ∧ t.clk = s.clk ∧ t.cap = s.cap ∧ t.out = s.out ∧ t.ser = s.ser
      ∧ t.usbA = s.usbA ∧ t.usbB = s.usbB ∧ t.net = s.net ∧ t.aux = s.aux ∧ t.meas = s.meas ∧ t.pwr = s.pwr
      ∧ t.hull = s.hull ∧ t.fw = s.fw ∧ t.pending = s.pending)
    ∧ t.par = { s.par with protects := t.par.protects } := by
  rw [OnlyProtect, onlyHost_iff]
  tauto

theorem OnlyProtect.trans {s t u : State} (h : OnlyProtect s t) (k : OnlyProtect t u) : OnlyProtect s u := by
  rw [onlyProtect_iff] at *
  obtain ⟨h, hp⟩ := h
  obtain ⟨k, kp⟩ := k
  refine ⟨by simp [h, k], ?_⟩
  rw [kp, hp]

theorem onlyProtect_protectMod (s : State) (i : Nat) (f : Protect → Protect) : OnlyProtect s (protectMod s i f) := by
  rw [onlyProtect_iff]
  simp [protectMod]

theorem onlyProtect_post (code inst log data : Nat) (cn : Concern) (s : State) :
    OnlyProtect s (post code inst log data cn s) := by
  rw [onlyProtect_iff]
  simp

/-- The protection but for the mark that its limit event has been posted. -/
def sameButPosted (p q : Protect) : Prop := q = { p with limitPosted := q.limitPosted }

/-- A limit event marks its protection and changes nothing else of it. -/
theorem postLimit_spec {s : State} (w : tblWf Protect.absent s.par.protects = true) (i data : Nat) :
    sameButPosted (protectGet s i) (protectGet (postLimit i data s) i) ∧ OnlyProtect s (postLimit i data s) := by
  have hdrawn (d : Bool × State) (hpar : d.2.par = s.par) (honly : OnlyProtect s d.2) :
      sameButPosted (protectGet s i) (protectGet (if d.1 then
          post 0x0410 i 0 data .none (protectMod d.2 i (fun q => { q with limitPosted := true })) else d.2) i)
      ∧ OnlyProtect s (if d.1 then
          post 0x0410 i 0 data .none (protectMod d.2 i (fun q => { q with limitPosted := true })) else d.2) := by
    split
    · refine ⟨?_, (honly.trans (onlyProtect_protectMod _ _ _)).trans (onlyProtect_post _ _ _ _ _ _)⟩
      rw [protectGet_of_par (post_others _ _ _ _ _ _).2.2.2.2.1, protectGet_protectMod_same (by rw [hpar]; exact w),
        protectGet_of_par hpar]
      rfl
    · rw [protectGet_of_par hpar]
      exact ⟨rfl, honly⟩
  have hnone : OnlyProtect s s := by
    rw [onlyProtect_iff]
    simp
  unfold postLimit
  split
  · exact ⟨rfl, hnone⟩
  · dsimp only
    refine hdrawn _ ?_ ?_
    · split <;> rfl
    · split
      · rw [onlyProtect_iff]
        simp [drawElapsed]
      · exact hnone

/-- A latched fault keeps the estimate and the count. -/
theorem protectFault_spec {s : State} (w : tblWf Protect.absent s.par.protects = true) (i : Nat) :
    protectGet (protectFault i s) i = { retarget (protectGet s i) (-14400) (periodsOfMs s 1) with
      fault := if (protectGet s i).outsideHigh then 2 else 1 }
    ∧ OnlyProtect s (protectFault i s) := by
  unfold protectFault
  refine ⟨?_, (onlyProtect_protectMod _ _ _).trans (onlyProtect_post _ _ _ _ _ _)⟩
  rw [protectGet_of_par (post_others _ _ _ _ _ _).2.2.2.2.1, protectGet_protectMod_same w]

/-- The resistance that an estimate takes (R134). -/
def estimatedRe (i : Nat) (s : State) : Nat :=
  let q := protectGet s i
  if bit (u8 q.entry 26) 1 then demodRatio q.demod (drawReading s).1 else reOfTemp q.entry (classDTemp s)

/-- The coil's temperature that an estimate takes. -/
def estimatedTemp (i : Nat) (s : State) : Int :=
  let q := protectGet s i
  if bit (u8 q.entry 26) 1 then coilTemp q.entry (estimatedRe i s) (drawReading s).1 else classDTemp s

/-- The protection after an estimate, before G_t follows; the window counts the estimates outside it in succession (R137). -/
def estimatedProtect (i : Nat) (s : State) : Protect :=
  let q := protectGet s i
  let low := decide (estimatedRe i s * 100 < u8 q.entry 22 * u16 q.entry 0)
  let high := decide (u8 q.entry 23 * u16 q.entry 0 < estimatedRe i s * 100)
  { q with re := estimatedRe i s, temp := estimatedTemp i s, estimated := true, demod := (0, 0, 0, 0)
           outside := if low || high then q.outside + 1 else 0, outsideHigh := high }

/-- G_t follows an estimate (R135). -/
def followGt (i : Nat) (s : State) : Protect :=
  let q := protectGet s i
  let g := gtLaw (estimatedProtect i s) (estimatedTemp i s)
  { retarget (estimatedProtect i s) g.1 (if g.2 && decide (q.gt ≠ -14400) then periodsOfMs s 10 else periodsOfMs s 100) with
    limiting := decide (g.1 < 0) }

theorem exec_protectEstimate {i : Fin 2} {s : State} (hon : estimating s i.val = true) :
    ∃ data, exec (.protectEstimate i) s = .next (
      if 3 ≤ (estimatedProtect i.val s).outside then
        protectFault i.val (protectMod (drawReading s).2 i.val (fun _ => estimatedProtect i.val s))
      else if (protectGet s i.val).degraded then protectMod (drawReading s).2 i.val (fun _ => estimatedProtect i.val s)
      else postLimit i.val data (protectMod (drawReading s).2 i.val (fun _ => followGt i.val s))) :=
  ⟨_, show execProtectEstimate i s = _ from whenever_true hon⟩

/-- What an estimate leaves of its protection, however G_t goes on. -/
def EstimateKept (p q : Protect) : Prop :=
  q.re = p.re ∧ q.estimated = p.estimated ∧ q.temp = p.temp ∧ q.outside = p.outside ∧ (p.outside < 3 → q.fault = p.fault)

theorem protectEstimate_kept {i : Fin 2} {s : State} (hon : estimating s i.val = true)
    (w : tblWf Protect.absent s.par.protects = true) :
    ∃ t, exec (.protectEstimate i) s = .next t ∧ EstimateKept (estimatedProtect i.val s) (protectGet t i.val)
      ∧ OnlyProtect s t := by
  obtain ⟨data, hgo⟩ := exec_protectEstimate hon
  refine ⟨_, hgo, ?_⟩
  have hwf (f : Protect → Protect) : tblWf Protect.absent (protectMod (drawReading s).2 i.val f).par.protects = true :=
    protectMod_wf (s := (drawReading s).2) w i.val f
  have hget (f : Protect → Protect) : protectGet (protectMod (drawReading s).2 i.val f) i.val = f (protectGet s i.val) :=
    protectGet_protectMod_same (s := (drawReading s).2) w i.val f
  have honly (f : Protect → Protect) : OnlyProtect s (protectMod (drawReading s).2 i.val f) := by
    rw [onlyProtect_iff]
    simp [protectMod, drawReading]
  split
  case isTrue h3 =>
    obtain ⟨hq, hkeep⟩ := protectFault_spec (hwf fun _ => estimatedProtect i.val s) i.val
    rw [hget] at hq
    rw [hq]
    exact ⟨⟨rfl, rfl, rfl, rfl, fun h => absurd h (by omega)⟩, (honly _).trans hkeep⟩
  case isFalse =>
    split
    · rw [hget]
      exact ⟨⟨rfl, rfl, rfl, rfl, fun _ => rfl⟩, honly _⟩
    · obtain ⟨hq, hkeep⟩ := postLimit_spec (hwf fun _ => followGt i.val s) i.val data
      rw [hget] at hq
      rw [hq]
      exact ⟨⟨rfl, rfl, rfl, rfl, fun _ => rfl⟩, (honly _).trans hkeep⟩

/-- A protection changes under an event. -/
theorem protect_posted {s : State} (w : tblWf Protect.absent s.par.protects = true) (code inst data : Nat) (i : Nat)
    (f : Protect → Protect) :
    protectGet (post code inst 0 data .none (protectMod s i f)) i = f (protectGet s i)
    ∧ OnlyProtect s (post code inst 0 data .none (protectMod s i f)) := by
  refine ⟨?_, (onlyProtect_protectMod _ _ _).trans (onlyProtect_post _ _ _ _ _ _)⟩
  rw [protectGet_of_par (post_others _ _ _ _ _ _).2.2.2.2.1, protectGet_protectMod_same w]

/-- In the degraded mode G_t falls to FALLBACK_ATTEN, or stays where it is lower (R138). -/
theorem fallBack_gt {q : Protect} (h : q.fault = 0) (n : Nat) :
    (fallBack n q).degraded = q.degraded
    ∧ (fallBack n q).gt = if s16 q.entry 24 * 10000 < q.gtNow then s16 q.entry 24 else divNear q.gtNow 10000 := by
  unfold fallBack
  rw [if_neg (by omega)]
  split <;> exact ⟨rfl, rfl⟩

theorem startQueued_idle {k : Nat} {s : State} (h : (sectionGet s k).queued = none) : startQueued k s = s := by
  unfold startQueued
  rw [h]

theorem startQueuedDelay_idle {k : Nat} {s : State} (h : (lineGet s k).queued = none) : startQueuedDelay k s = s := by
  unfold startQueuedDelay
  rw [h]

end Sys2Proof.Machine

namespace Sys2Proof
open Sys2Proof.Machine

/-- Settles O37: what runs ends where its time is over, an event tells what it must, and an estimate is taken from the
pairs or from the temperature. -/
theorem parameterStepsTakeEffect : Obligations.ParameterStepsTakeEffect := by
  intro s
  refine ⟨?ramp, ?crossfade, ?delay, ?quiet, ?alert, ?estimate, ?degraded, ?ends, ?endsFaulty⟩
  case ramp =>
    intro k hn hk
    exact show execParamRampEnd k s = _ from whenever_true (by simp [hn, hk])
  case crossfade =>
    intro k f hsel hlatched hn hq hwf
    show execBqCrossfadeEnd k s = _
    rw [execBqCrossfadeEnd, hsel]
    dsimp only
    rw [if_pos (by simp [hlatched, hn]), startQueued_idle (by rw [sectionGet_sectionMod_same hwf]; exact hq)]
  case delay =>
    intro k f hsel hlatched hn hq hwf
    show execDelayChangeEnd k s = _
    rw [execDelayChangeEnd, hsel]
    dsimp only
    rw [if_pos (by simp [hlatched, hn]), startQueuedDelay_idle (by rw [lineGet_lineMod_same hwf]; exact hq)]
  case quiet =>
    intro hpos hnone
    refine (show execClipIntervalEnd s = _ from whenever_true (by simpa using hpos)).trans ?_
    simp only [hnone, if_true]
  case alert =>
    intro hpos hsome
    refine (show execClipIntervalEnd s = _ from whenever_true (by simpa using hpos)).trans ?_
    simp only [if_neg hsome]
  case estimate =>
    intro i hpresent henabled hfault hspk hwf
    have hon : estimating s i.val = true := by simp [estimating, hpresent, henabled, hfault, hspk]
    obtain ⟨t, hgo, ⟨hre, hest, htemp, hout, hkept⟩, honly⟩ := protectEstimate_kept hon hwf
    refine ⟨t, _, hgo, hre, hest, rfl, fun hpilot => ?_, fun hlow hhigh => ?_, honly⟩
    · rw [htemp]
      simp [estimatedProtect, estimatedTemp, hpilot]
    · have hin : (estimatedProtect i.val s).outside = 0 := by
        have hlow' : ¬ estimatedRe i.val s * 100 < u8 (protectGet s i.val).entry 22 * u16 (protectGet s i.val).entry 0 :=
          Nat.not_lt.mpr hlow
        have hhigh' : ¬ u8 (protectGet s i.val).entry 23 * u16 (protectGet s i.val).entry 0 < estimatedRe i.val s * 100 :=
          Nat.not_lt.mpr hhigh
        simp [estimatedProtect, hlow', hhigh']
      exact ⟨hout.trans hin, (hkept (by omega)).trans hfault⟩
  case degraded =>
    intro i hpresent henabled hdeg hfault hspk hwf
    obtain ⟨hq, honly⟩ := protect_posted hwf 0x0412 i.val 1 i.val
      (fun q => fallBack (periodsOfMs s 10) { q with degraded := true })
    obtain ⟨h1, h2⟩ := fallBack_gt (q := { protectGet s i.val with degraded := true }) hfault (periodsOfMs s 10)
    refine ⟨_, show execProtectDegraded i s = _ from whenever_true (by simp [hpresent, henabled, hdeg, hspk]), ?_, ?_, honly⟩
    · rw [hq, h1]
    · rw [hq, h2]
  case ends =>
    intro i hdeg hfault hwf
    obtain ⟨hq, honly⟩ := protect_posted hwf 0x0412 i.val 0 i.val
      (fun q => if q.fault = 0 then holdGt { q with degraded := false } else { q with degraded := false })
    rw [if_pos hfault] at hq
    refine ⟨_, show execProtectDegradedEnd i s = _ from whenever_true hdeg, ?_, ?_, honly⟩
    · rw [hq]; rfl
    · rw [hq]; rfl
  case endsFaulty =>
    intro i hdeg hfault hwf
    obtain ⟨hq, honly⟩ := protect_posted hwf 0x0412 i.val 0 i.val
      (fun q => if q.fault = 0 then holdGt { q with degraded := false } else { q with degraded := false })
    rw [if_neg hfault] at hq
    exact ⟨_, show execProtectDegradedEnd i s = _ from whenever_true hdeg, hq, honly⟩

end Sys2Proof
end

section
/-! PROOF. Clock reads and commits; what a loss, a return, a lock and an unlock leave of the PLLs and the domains. -/

namespace Sys2Proof.Machine

theorem asrcStatusResult_cons {p : List Byte} {s : State} {x : Nat × Nat} {r : List (Nat × Nat)}
    (h : engineChannels s (u8 p 0) = x :: r) :
    asrcStatusResult p s = b1 (convoyDomain s x.2) ++ b1 (flag (convoyEgress (nearConvoy s x.2)))
      ++ b2 (maskOf ((x :: r).map (·.1))) ++ b4 (ratioQ28 s (convoyDomain s x.2) (convoyEgress (nearConvoy s x.2)))
      ++ [0, 0, 0, 0] := by
  unfold asrcStatusResult
  dsimp only
  rw [h]
  rfl

theorem asrcStatusResult_nil {p : List Byte} {s : State} (h : engineChannels s (u8 p 0) = []) :
    asrcStatusResult p s = [0xFF, 0xFF, 0, 0, 0, 0, 0, 0, 0, 0, 0, 0] := by
  unfold asrcStatusResult
  dsimp only
  rw [h]
  rfl

/-- A function of the state keeps its value through both branches. -/
theorem keeps_ite {α γ : Type} (g : α → γ) {v : γ} {c : Prop} {dec : Decidable c} {x y : α} (hx : g x = v) (hy : g y = v) :
    g (if c then x else y) = v := by
  split
  · exact hx
  · exact hy

theorem inv_ite {α : Type} {P : α → Prop} {c : Prop} {dec : Decidable c} {x y : α} (hx : P x) (hy : P y) :
    P (if c then x else y) := by
  split
  · exact hx
  · exact hy

/-- What every change of mode keeps, the PLLs' following of a domain keeps. -/
theorem pllsFollow_inv (P : State → Prop) (hset : ∀ p mode log t, P t → P (setPllMode p mode log t)) (d log : Nat) {s : State}
    (h : P s) : P (pllsFollow d log s) := by
  refine foldl_inv P _ (fun t p ht => ?_) [0, 1] s h
  exact inv_ite (inv_ite (hset _ _ _ _ ht) (inv_ite (hset _ _ _ _ ht) ht)) ht

/-- The domains and the loss of the reference: what commands and convoys leave of a lock. -/
def domainsOf (s : State) : Tbl Domain × Bool := (s.clk.domains, s.clk.lost)

/-- Both PLLs are UNLOCKED. -/
def PllsOut (s : State) : Prop := s.clk.pll48.mode = 3 ∧ s.clk.pll44.mode = 3

theorem pllMod_domains (s : State) (p : Nat) (f : Pll → Pll) : domainsOf (pllMod s p f) = domainsOf s := by
  unfold pllMod
  split <;> rfl

theorem post_domains (code inst log data : Nat) (cn : Concern) (s : State) :
    domainsOf (post code inst log data cn s) = domainsOf s := by
  simp [domainsOf]

theorem setPllMode_domains (p mode log : Nat) (s : State) : domainsOf (setPllMode p mode log s) = domainsOf s := by
  unfold setPllMode
  dsimp only
  split
  · exact pllMod_domains _ _ _
  · split
    · rfl
    · exact (post_domains _ _ _ _ _ _).trans (pllMod_domains _ _ _)

theorem pllsFollow_domains (d log : Nat) (s : State) : domainsOf (pllsFollow d log s) = domainsOf s :=
  pllsFollow_inv (fun t => domainsOf t = domainsOf s) (fun p mode log t h => (setPllMode_domains p mode log t).trans h) d log rfl

/-- What becomes of the convoys concerns no domain and no PLL. -/
def clocksButConvoys (s : State) : ClockState := { s.clk with convoys := [] }

theorem domainsOf_of_clocks {s t : State} (h : clocksButConvoys t = clocksButConvoys s) : domainsOf t = domainsOf s := by
  have := congrArg (fun c : ClockState => (c.domains, c.lost)) h
  exact this

theorem pllsOut_of_clocks {s t : State} (h : clocksButConvoys t = clocksButConvoys s) (hs : PllsOut s) : PllsOut t := by
  have h48 := congrArg (fun c : ClockState => c.pll48) h
  have h44 := congrArg (fun c : ClockState => c.pll44) h
  exact ⟨(congrArg Pll.mode h48).trans hs.1, (congrArg Pll.mode h44).trans hs.2⟩

theorem post_clocks (code inst log data : Nat) (cn : Concern) (s : State) :
    clocksButConvoys (post code inst log data cn s) = clocksButConvoys s := by
  simp [clocksButConvoys]

theorem postMuted_clocks (k members cause log : Nat) (s : State) :
    clocksButConvoys (postMuted k members cause log s) = clocksButConvoys s := by
  unfold postMuted
  have hdraw (c : Bool) (t : State) : clocksButConvoys (if c then drawElapsed t else (true, t)).2 = clocksButConvoys t :=
    keeps_ite (fun x : Bool × State => clocksButConvoys x.2) rfl rfl
  exact keeps_ite clocksButConvoys ((post_clocks _ _ _ _ _ _).trans (hdraw _ _)) (hdraw _ _)

theorem muteConvoy_clocks (log : Nat) (s : State) (k : Nat) : clocksButConvoys (muteConvoy log s k) = clocksButConvoys s := by
  unfold muteConvoy
  split
  · rfl
  · exact postMuted_clocks _ _ _ _ _

theorem realign_clocks (s : State) (k : Nat) : clocksButConvoys (realign s k) = clocksButConvoys s := rfl

theorem leaveLocked_domains (d cause log : Nat) (s : State) : domainsOf (leaveLocked d cause log s) = domainsOf s :=
  (pllsFollow_domains _ _ _).trans (domainsOf_of_clocks
    ((foldl_keeps clocksButConvoys _ (muteConvoy_clocks log) _ _).trans (post_clocks _ _ _ _ _ _)))

theorem lockDomain_domains (d : Nat) (offset : Int) (s : State) :
    domainsOf (lockDomain d offset s)
      = domainsOf (domMod s d (fun q => { q with st := 2, offset := offset, locks := q.locks + 1 })) :=
  (pllsFollow_domains _ _ _).trans (domainsOf_of_clocks
    ((foldl_keeps clocksButConvoys _ realign_clocks _ _).trans (post_clocks _ _ _ _ _ _)))

theorem domGet_of_domains {s t : State} (h : domainsOf t = domainsOf s) (d : Nat) : domGet t d = domGet s d := by
  rw [domGet, domGet, show t.clk.domains = s.clk.domains from congrArg Prod.fst h]

theorem PllsOut.mode {s : State} (h : PllsOut s) (p : Nat) : (pllGet s p).mode = 3 := by
  unfold pllGet
  split
  · exact h.1
  · exact h.2

/-- An UNLOCKED PLL stays UNLOCKED, whatever mode it is told (R146). -/
theorem setPllMode_out {s : State} (h : PllsOut s) (p mode log : Nat) : PllsOut (setPllMode p mode log s) := by
  unfold setPllMode
  dsimp only
  rw [if_pos (h.mode p)]
  unfold pllMod
  split <;> exact h

theorem pllsFollow_out {s : State} (h : PllsOut s) (d log : Nat) : PllsOut (pllsFollow d log s) :=
  pllsFollow_inv PllsOut (fun p mode log _ ht => setPllMode_out ht p mode log) d log h

theorem leaveLocked_out {s : State} (h : PllsOut s) (d cause log : Nat) : PllsOut (leaveLocked d cause log s) :=
  pllsFollow_out (pllsOut_of_clocks
    ((foldl_keeps clocksButConvoys _ (muteConvoy_clocks log) _ _).trans (post_clocks _ _ _ _ _ _)) h) _ _

theorem domMod_out {s : State} (h : PllsOut s) (d : Nat) (f : Domain → Domain) : PllsOut (domMod s d f) := h

theorem unlockFor_out {s : State} (h : PllsOut s) (d cause log : Nat) : PllsOut (unlockFor d cause log s) := by
  unfold unlockFor
  dsimp only
  split
  · exact h
  · split
    · exact leaveLocked_out (domMod_out h _ _) _ _ _
    · exact domMod_out h _ _

/-- An unlock of a domain that is ACQUIRING or LOCKED. -/
def unlocked (cause : Nat) (q : Domain) : Domain :=
  { q with st := 3, refValid := q.refValid && cause != 1, unlocks := q.unlocks + 1
           stamps := if cause = 1 then [] else q.stamps
           held := if q.st = 2 then some (q.rate, q.offset) else q.held }

theorem unlockFor_domains {d cause log : Nat} {s : State} :
    domainsOf (unlockFor d cause log s) = if (domGet s d).st = 1 ∨ (domGet s d).st = 2 then
        domainsOf (domMod s d (unlocked cause)) else domainsOf s := by
  have hmod : domMod s d (fun q => { q with
      st := 3, refValid := q.refValid && cause != 1, unlocks := q.unlocks + 1
      stamps := if cause = 1 then [] else q.stamps
      held := if (domGet s d).st = 2 then some (q.rate, q.offset) else q.held }) = domMod s d (unlocked cause) := rfl
  unfold unlockFor
  dsimp only
  rw [hmod]
  by_cases h1 : (domGet s d).st = 1
  · simp [h1]
  · by_cases h2 : (domGet s d).st = 2
    · simp [h2, leaveLocked_domains]
    · simp [h1, h2]

theorem domMod_domainsWf {s : State} (w : tblWf Domain.off s.clk.domains = true) (d : Nat) (f : Domain → Domain) :
    tblWf Domain.off (domMod s d f).clk.domains = true :=
  tmod_wf Domain.off w d f

theorem unlockFor_wf {s : State} (w : tblWf Domain.off s.clk.domains = true) (d cause log : Nat) :
    tblWf Domain.off (unlockFor d cause log s).clk.domains = true := by
  have h := congrArg Prod.fst (unlockFor_domains (d := d) (cause := cause) (log := log) (s := s))
  change (unlockFor d cause log s).clk.domains = _ at h
  rw [h]
  split
  · exact domMod_domainsWf w _ _
  · exact w

theorem domGet_unlockFor {s : State} (w : tblWf Domain.off s.clk.domains = true) (d cause log e : Nat) :
    domGet (unlockFor d cause log s) e
      = if e = d ∧ ((domGet s d).st = 1 ∨ (domGet s d).st = 2) then unlocked cause (domGet s d) else domGet s e := by
  by_cases hst : (domGet s d).st = 1 ∨ (domGet s d).st = 2
  · rw [domGet_of_domains (unlockFor_domains.trans (if_pos hst))]
    by_cases he : e = d
    · rw [if_pos ⟨he, hst⟩, he, domGet_domMod_same w]
    · rw [if_neg fun h => he h.1, domGet_domMod_other w he]
  · rw [domGet_of_domains (unlockFor_domains.trans (if_neg hst)), if_neg fun h => hst h.2]

/-- Domains that are told in turn to unlock are UNLOCKED. -/
theorem unlockAll_spec (cause d : Nat) : ∀ (l : List Nat) {s : State}, tblWf Domain.off s.clk.domains = true →
    ((domGet s d).st = 3 → (domGet (l.foldl (fun t e => unlockDomain e cause t) s) d).st = 3)
    ∧ (d ∈ l → (domGet s d).st = 1 ∨ (domGet s d).st = 2 → (domGet (l.foldl (fun t e => unlockDomain e cause t) s) d).st = 3)
  | [], _, _ => ⟨id, fun h => absurd h (by simp)⟩
  | e :: l, s, w => by
    obtain ⟨hkeep, hin⟩ := unlockAll_spec cause d l (unlockFor_wf w e cause 0)
    have hget := domGet_unlockFor w e cause 0 d
    constructor
    · intro h3
      refine hkeep ?_
      rw [hget, if_neg fun h => ?_]
      · exact h3
      · obtain ⟨rfl, h⟩ := h
        omega
    · intro hd hst
      by_cases he : d = e
      · subst he
        exact hkeep (by rw [hget, if_pos ⟨rfl, hst⟩]; rfl)
      · exact hin (by simpa [he] using hd) (by rw [hget, if_neg fun h => he h.1]; exact hst)

theorem unlockAll_out (cause : Nat) (l : List Nat) {s : State} (h : PllsOut s) :
    PllsOut (l.foldl (fun t e => unlockDomain e cause t) s) :=
  foldl_inv PllsOut _ (fun _ d ht => unlockFor_out ht d cause 0) l s h

theorem unlockAll_lost (cause : Nat) (l : List Nat) (s : State) :
    (l.foldl (fun t e => unlockDomain e cause t) s).clk.lost = s.clk.lost := by
  refine foldl_keeps (fun t : State => t.clk.lost) _ (fun _ d => ?_) l s
  refine (congrArg Prod.snd (unlockFor_domains (d := d) (cause := cause) (log := 0))).trans ?_
  split <;> rfl

theorem commitAlt_new {d alt log : Nat} {s : State} (h : (domGet s d).pendAlt.getD (domGet s d).alt ≠ alt) :
    commitAlt d alt log s = domMod s d (fun q => { q with pendAlt := some alt, pendLog := log }) := if_neg h

theorem commitAlt_same {d alt log : Nat} {s : State} (h : (domGet s d).pendAlt.getD (domGet s d).alt = alt) :
    commitAlt d alt log s = s := if_pos h

theorem commitRate_new {d rate log : Nat} {s : State} (h : (domGet s d).pendRate.getD (domGet s d).rate ≠ rate) :
    commitRate d rate log s = domMod s d (fun q => { q with pendRate := some rate, pendLog := log }) := if_neg h

theorem commitRate_same {d rate log : Nat} {s : State} (h : (domGet s d).pendRate.getD (domGet s d).rate = rate) :
    commitRate d rate log s = s := if_pos h

/-- The offset that a lock takes: measured of a reference that the part can measure, else the one given (R151). -/
def lockOffset (d : Nat) (off : Int) (s : State) : Int × State :=
  if (domAlt s d).1 < 3 then measureOffset d s else (off, s)

theorem lockOffset_clk (d : Nat) (off : Int) (s : State) : (lockOffset d off s).2.clk = s.clk := by
  have hmeasure : (measureOffset d s).2.clk = s.clk := keeps_ite (fun x : Int × State => x.2.clk) rfl rfl
  exact keeps_ite (fun x : Int × State => x.2.clk) hmeasure rfl

theorem lockOffset_local {d : Nat} {s : State} (h : (domAlt s d).1 = 0) (off : Int) :
    (lockOffset d off s).1 = localOffset s d := by
  simp [lockOffset, measureOffset, h]

theorem lockOffset_given {d : Nat} {s : State} (h : 3 ≤ (domAlt s d).1) (off : Int) : (lockOffset d off s).1 = off := by
  rw [lockOffset, if_neg (by omega)]

/-- A lock makes the domain LOCKED with its offset and counts it; the others stay. -/
theorem domGet_lockDomain {s : State} (w : tblWf Domain.off s.clk.domains = true) (d : Nat) (off : Int) (e : Nat) :
    domGet (lockDomain d off s) e
      = if e = d then { domGet s d with st := 2, offset := off, locks := (domGet s d).locks + 1 } else domGet s e := by
  rw [domGet_of_domains (lockDomain_domains d off s)]
  split
  · next h => rw [h, domGet_domMod_same w]
  · next h => rw [domGet_domMod_other w h]

/-- The state at a loss of the reference, before the domains follow (R146). -/
def pllsLost (s : State) : State :=
  [0, 1].foldl (fun t p =>
    postPll p 0 (pllMod t p (fun q => { q with resume := if q.mode = 3 then q.resume else q.mode, mode := 3 })))
    (post 0x0501 0 0 1 .none { s with clk := { s.clk with lost := true } })

theorem pllsLost_spec (s : State) : domainsOf (pllsLost s) = (s.clk.domains, true) ∧ PllsOut (pllsLost s) := by
  simp [pllsLost, domainsOf, PllsOut, postPll, pllMod]

end Sys2Proof.Machine

namespace Sys2Proof
open Sys2Proof.Machine

/-- Settles O38: the reads answer what their results say, and commits wait for the next tick. -/
theorem clockReadsAndCommitsTakeEffect : Obligations.ClockReadsAndCommitsTakeEffect := by
  refine ⟨fun o p s => ⟨?clock, ?domain, ?absent, ?asrc, ?convoy⟩,
    fun o p s => ⟨?ref, ?sameRef, ?rate, ?sameRate, ?discipline, ?mode⟩⟩
  case clock => exact fun h => hostCommand_accepted h (reads clockStatusResult)
  case domain => exact fun h => hostCommand_accepted h (reads (domainStatusResult p))
  case absent =>
    intro h hnone
    refine (hostCommand_accepted h (reads (asrcStatusResult p))).trans ?_
    rw [reads, asrcStatusResult_nil (s := takeLog s) hnone]
    rfl
  case asrc =>
    intro x r h hsome
    refine (hostCommand_accepted h (reads (asrcStatusResult p))).trans ?_
    rw [reads, asrcStatusResult_cons (s := takeLog s) hsome]
    rfl
  case convoy => exact fun h => hostCommand_accepted h (convoyStatusDo o p)
  case ref => exact fun h hne => hostCommand_does (act := domainSetRefDo p) h (congrArg ok (commitAlt_new (s := takeLog s) hne))
  case sameRef => exact fun h heq => hostCommand_does (act := domainSetRefDo p) h (congrArg ok (commitAlt_same (s := takeLog s) heq))
  case rate => exact fun h hne => hostCommand_does (act := domainSetRateDo p) h (congrArg ok (commitRate_new (s := takeLog s) hne))
  case sameRate => exact fun h heq => hostCommand_does (act := domainSetRateDo p) h (congrArg ok (commitRate_same (s := takeLog s) heq))
  case discipline => exact fun h => hostCommand_accepted h (pllDisciplineDo p)
  case mode => exact fun h => hostCommand_accepted h (convoySetModeDo p)

/-- Settles O39: domains and PLLs move as Table 7-6 and R146 say, and the others stay. -/
theorem clockEventsMoveDomains : Obligations.ClockEventsMoveDomains := by
  intro s hwf
  obtain ⟨w, -, -⟩ := hwf
  refine ⟨?loss, ?restore, ?valid, ?lock, ?unlock⟩
  case loss =>
    intro hchosen hlost
    obtain ⟨hdom, hout⟩ := pllsLost_spec s
    have hd : (pllsLost s).clk.domains = s.clk.domains := congrArg Prod.fst hdom
    have hgo : exec .referenceLoss s = .next ((List.range 8).foldl (fun t d => unlockDomain d 1 t) (pllsLost s)) :=
      show execReferenceLoss s = _ from whenever_true (by simp [hchosen, hlost])
    obtain ⟨h48, h44⟩ := unlockAll_out 1 (List.range 8) hout
    refine ⟨_, hgo, (unlockAll_lost _ _ _).trans (congrArg Prod.snd hdom), h48, h44, fun d hd8 hst => ?_⟩
    have hget : domGet (pllsLost s) d = domGet s d := by rw [domGet, hd]; rfl
    exact (unlockAll_spec 1 d (List.range 8) (by rw [hd]; exact w)).2 (List.mem_range.mpr hd8) (by rwa [hget])
  case restore =>
    intro hlost
    refine ⟨_, show execReferenceRestore s = _ from whenever_true hlost, ?_⟩
    rw [onlyHost_iff]
    simp [referenceRestore, postPll, pllMod]
  case valid => exact fun d hst hp => show execDomainRefValid d s = _ from whenever_true (by simp [hst, hp])
  case lock =>
    intro d off hst hp hlo hhi
    have hclk := lockOffset_clk d.val off s
    have hold (e : Nat) : domGet (lockOffset d.val off s).2 e = domGet s e := by rw [domGet, hclk]; rfl
    have hget (e : Nat) := domGet_lockDomain (s := (lockOffset d.val off s).2) (by rw [hclk]; exact w) d.val
      (lockOffset d.val off s).1 e
    simp only [hold] at hget
    refine ⟨lockDomain d.val (lockOffset d.val off s).1 (lockOffset d.val off s).2,
      show execDomainLock d off s = _ from whenever_true (by simp [hst, hp, hlo, hhi]), ?_, ?_, ?_, ?_, ?_⟩
    · rw [hget, if_pos rfl]
    · intro hkind
      rw [hget, if_pos rfl, lockOffset_given hkind]
    · intro hkind
      rw [hget, if_pos rfl, lockOffset_local hkind]
    · rw [hget, if_pos rfl]
    · intro e he
      rw [hget, if_neg he]
  case unlock =>
    intro d cause off hst hoff
    have hon : (domGet s d.val).st = 1 ∨ (domGet s d.val).st = 2 := by tauto
    have hgo : exec (.domainUnlock d cause off) s = .next (unlockDomain d.val (1 + cause.val)
        (if cause = 2 then domMod s d.val (fun q => { q with offset := off }) else s)) := by
      refine show execDomainUnlock d cause off s = _ from whenever_true ?_
      have hcause : cause = 2 → 100000 < off.natAbs := hoff
      by_cases h2 : cause = 2 <;> simp_all
    by_cases h2 : cause = 2
    · rw [if_pos h2] at hgo
      have hmod := domGet_domMod_same w d.val (fun q => { q with offset := off })
      have hget := domGet_unlockFor (domMod_domainsWf w d.val (fun q => { q with offset := off })) d.val (1 + cause.val) 0
      rw [hmod] at hget
      refine ⟨_, hgo, ?_, ?_, ?_, fun e he => ?_⟩
      · rw [unlockDomain, hget, if_pos ⟨rfl, hon⟩]; rfl
      · rw [unlockDomain, hget, if_pos ⟨rfl, hon⟩, if_pos h2]; rfl
      · rw [unlockDomain, hget, if_pos ⟨rfl, hon⟩]; rfl
      · rw [unlockDomain, hget, if_neg fun h => he h.1, domGet_domMod_other w he]
    · rw [if_neg h2] at hgo
      have hget := domGet_unlockFor w d.val (1 + cause.val) 0
      refine ⟨_, hgo, ?_, ?_, ?_, fun e he => ?_⟩
      · rw [unlockDomain, hget, if_pos ⟨rfl, hon⟩]; rfl
      · rw [unlockDomain, hget, if_pos ⟨rfl, hon⟩, if_neg h2]; rfl
      · rw [unlockDomain, hget, if_pos ⟨rfl, hon⟩]; rfl
      · rw [unlockDomain, hget, if_neg fun h => he h.1]

end Sys2Proof
end

section
/-! PROOF. Convoys: what a read leaves of the timeline and of the members' states, and the steps of members. -/

namespace Sys2Proof.Machine

/-- The tables of convoy k and of its members are canonical. -/
def ConvWf (k : Nat) (s : State) : Prop :=
  tblWf Convoy.absent s.clk.convoys = true ∧ tblWf Member.idle (convGet s k).members = true

/-- What the index waits for: the Near bank, the index, the reads so far, and which members are not IDLE. -/
def timeline (k : Nat) (s : State) : Bank × Nat × Nat × (Nat → Bool) :=
  (s.cs.near, (convGet s k).index, (convGet s k).read, fun n => (memGet s k n).st != 0)

/-- The convoy's tables stay canonical, and its timeline stays. -/
def Keeps (k : Nat) (s t : State) : Prop := ConvWf k s → ConvWf k t ∧ timeline k t = timeline k s

theorem Keeps.refl (k : Nat) (s : State) : Keeps k s s := fun w => ⟨w, rfl⟩

theorem Keeps.trans {k : Nat} {s t u : State} (h : Keeps k s t) (g : Keeps k t u) : Keeps k s u := fun w =>
  ⟨(g (h w).1).1, (g (h w).1).2.trans (h w).2⟩

theorem Keeps.ite {k : Nat} {s t u : State} {c : Prop} {dec : Decidable c} (ht : Keeps k s t) (hu : Keeps k s u) :
    Keeps k s (if c then t else u) := inv_ite ht hu

theorem Keeps.of_eq {k : Nat} {s t : State} (hcs : t.cs = s.cs) (hclk : t.clk = s.clk) : Keeps k s t := by
  intro w
  have hconv : convGet t k = convGet s k := by rw [convGet, hclk]; rfl
  have hmem (n : Nat) : memGet t k n = memGet s k n := by rw [memGet, hconv]; rfl
  exact ⟨⟨by rw [hclk]; exact w.1, by rw [hconv]; exact w.2⟩, by simp only [timeline, hcs, hconv, hmem]⟩

/-- A change of a convoy that leaves its members, its index and its reads. -/
theorem Keeps.conv {s : State} (k : Nat) {f : Convoy → Convoy}
    (hf : ∀ c, (f c).members = c.members ∧ (f c).index = c.index ∧ (f c).read = c.read) : Keeps k s (convMod s k f) := by
  intro w
  obtain ⟨hm, hi, hr⟩ := hf (convGet s k)
  have hget := convGet_convMod_same w.1 k f
  have hmem (n : Nat) : memGet (convMod s k f) k n = memGet s k n := by rw [memGet, hget, hm]; rfl
  refine ⟨⟨tmod_wf Convoy.absent w.1 k f, by rw [hget, hm]; exact w.2⟩, ?_⟩
  simp only [timeline, hget, hi, hr, hmem]
  rfl

theorem convMod_wf {s : State} (w : tblWf Convoy.absent s.clk.convoys = true) (k : Nat) (f : Convoy → Convoy) :
    tblWf Convoy.absent (convMod s k f).clk.convoys = true := tmod_wf Convoy.absent w k f

theorem convGet_memMod {s : State} (w : tblWf Convoy.absent s.clk.convoys = true) (k m : Nat) (f : Member → Member) :
    convGet (memMod s k m f) k = { convGet s k with members := tmod Member.idle (convGet s k).members m f } :=
  convGet_convMod_same w k _

theorem memGet_memMod_same {s : State} {k : Nat} (w : ConvWf k s) (m : Nat) (f : Member → Member) :
    memGet (memMod s k m f) k m = f (memGet s k m) := by
  rw [memGet, convGet_memMod w.1]
  exact tget_tmod_same Member.idle w.2 m f

theorem memGet_memMod_other {s : State} {k : Nat} (w : ConvWf k s) {m n : Nat} (h : n ≠ m) (f : Member → Member) :
    memGet (memMod s k m f) k n = memGet s k n := by
  rw [memGet, convGet_memMod w.1]
  exact tget_tmod_other Member.idle w.2 h f

theorem memMod_convWf {s : State} {k : Nat} (w : ConvWf k s) (m : Nat) (f : Member → Member) : ConvWf k (memMod s k m f) :=
  ⟨convMod_wf w.1 k _, by rw [convGet_memMod w.1]; exact tmod_wf Member.idle w.2 m f⟩

/-- A change of a member that leaves it IDLE or not. -/
theorem Keeps.mem {s : State} {k m : Nat} {f : Member → Member} (hf : (f (memGet s k m)).st = 0 ↔ (memGet s k m).st = 0) :
    Keeps k s (memMod s k m f) := by
  intro w
  refine ⟨memMod_convWf w m f, ?_⟩
  have hget := convGet_memMod w.1 k m f
  have hmem : (fun n => (memGet (memMod s k m f) k n).st != 0) = fun n => (memGet s k n).st != 0 := by
    funext n
    by_cases hn : n = m
    · rw [hn, memGet_memMod_same w]
      rw [Bool.eq_iff_iff]
      simp [hf]
    · rw [memGet_memMod_other w hn]
  simp only [timeline, hget, hmem]
  rfl

/-- A change that leaves a member that is not IDLE so. -/
theorem Keeps.active {s : State} {k m : Nat} {f : Member → Member} (hs : (memGet s k m).st ≠ 0)
    (hf : (f (memGet s k m)).st ≠ 0) : Keeps k s (memMod s k m f) := .mem (iff_of_false hf hs)

theorem Keeps.post {k : Nat} {s t : State} {code inst log data : Nat} {cn : Concern} (h : Keeps k s t) :
    Keeps k s (post code inst log data cn t) := h.trans (.of_eq (by simp) (by simp))

theorem Keeps.notIdle {k m : Nat} {s t : State} (h : Keeps k s t) (w : ConvWf k s) (hm : (memGet s k m).st ≠ 0) :
    (memGet t k m).st ≠ 0 := by
  have h1 : (fun n => (memGet t k n).st != 0) = fun n => (memGet s k n).st != 0 :=
    congrArg (fun x : Bank × Nat × Nat × (Nat → Bool) => x.2.2.2) (h w).2
  have h2 := congrFun h1 m
  rw [Bool.eq_iff_iff] at h2
  simp only [bne_iff_ne] at h2
  exact h2.mpr hm

theorem postMuted_keeps (k members cause log : Nat) (s : State) : Keeps k s (postMuted k members cause log s) := by
  have hnote : Keeps k s (convMod s k (fun c => { c with toRestore := c.toRestore ||| members, folded := c.folded + 1 })) :=
    .conv k fun _ => ⟨rfl, rfl, rfl⟩
  have hdraw (c : Bool) (t : State) : Keeps k t (if c then drawElapsed t else (true, t)).2 :=
    inv_ite (P := fun x : Bool × State => Keeps k t x.2) (.of_eq rfl rfl) (.refl k t)
  exact .ite ((hnote.trans (hdraw _ _)).trans (.post (.conv k fun _ => ⟨rfl, rfl, rfl⟩))) (hnote.trans (hdraw _ _))

theorem convCount_keeps (k i : Nat) (s : State) : Keeps k s (convCount k i s) := .conv k fun _ => ⟨rfl, rfl, rfl⟩

theorem checkRestored_keeps (k : Nat) (s : State) : Keeps k s (checkRestored k s) :=
  .ite (.post (.conv k fun _ => ⟨rfl, rfl, rfl⟩)) (.refl k s)

theorem fadeEnds_keeps {k m : Nat} {s : State} (hst : (memGet s k m).st ≠ 0) (hidle : (memGet s k m).toIdle = false) :
    Keeps k s (fadeEnds k m s) := by
  have hin : Keeps k s (memMod s k m (fun q => { q with st := 3, fade := 0, level := unity })) :=
    .active hst (show (3 : Nat) ≠ 0 by decide)
  have hout : Keeps k s (memMod s k m (fun q => { q with st := 5, fade := 0, level := 0, last := [] })) :=
    .active hst (show (5 : Nat) ≠ 0 by decide)
  unfold fadeEnds
  dsimp only
  split
  · exact hin.trans (checkRestored_keeps k _)
  · rw [if_neg (by simp [hidle])]
    exact hout

theorem startFadeOut_keeps {k m : Nat} {s : State} (hst : (memGet s k m).st ≠ 0) : Keeps k s (startFadeOut k m s) :=
  .active hst (show (4 : Nat) ≠ 0 by decide)

theorem startFadeIn_keeps {k m : Nat} {s : State} (hst : (memGet s k m).st ≠ 0) : Keeps k s (startFadeIn k m s) :=
  .active hst (show (2 : Nat) ≠ 0 by decide)

/-- Members that are not IDLE fade together. -/
theorem foldFade_keeps {k : Nat} {f : State → Nat → State}
    (hf : ∀ t n, (memGet t k n).st ≠ 0 → Keeps k t (f t n)) :
    ∀ (l : List Nat) {s : State}, (∀ n ∈ l, (memGet s k n).st ≠ 0) → Keeps k s (l.foldl f s)
  | [], s, _ => .refl k s
  | n :: l, s, h => fun w => by
    have hn := hf s n (h n List.mem_cons_self)
    exact (hn.trans (foldFade_keeps hf l fun x hx => hn.notIdle w (h x (List.mem_cons_of_mem _ hx)))) w

theorem fadeGroup_active {s : State} {k m : Nat} (hst : (memGet s k m).st ≠ 0) :
    ∀ n ∈ fadeGroup s k m, (memGet s k n).st ≠ 0 := by
  intro n hn
  have hsound : n ∈ soundingMembers s k → (memGet s k n).st ≠ 0 := by
    intro h
    have h23 : (memGet s k n).st ∈ [2, 3] := by simpa using (List.mem_filter.mp h).2
    rcases List.mem_cons.mp h23 with h2 | h3
    · omega
    · rw [List.mem_singleton.mp h3]
      decide
  unfold fadeGroup at hn
  split at hn
  · unfold withElem at hn
    split at hn
    · exact hsound hn
    · rcases List.mem_append.mp hn with h | h
      · exact hsound h
      · rw [List.mem_singleton.mp h]
        exact hst
  · rw [List.mem_singleton.mp hn]
    exact hst

theorem dropMember_keeps {k m : Nat} {s : State} (hst : (memGet s k m).st ≠ 0) (cause : Nat) :
    Keeps k s (dropMember k m cause s) :=
  (foldFade_keeps (fun _ _ h => startFadeOut_keeps h) _ (fadeGroup_active hst)).trans (postMuted_keeps _ _ _ _ _)

theorem memberReady_keeps {k m : Nat} {s : State} (hst : (memGet s k m).st ≠ 0) : Keeps k s (memberReady k m s) :=
  .ite (.active hst (show (7 : Nat) ≠ 0 by decide)) (startFadeIn_keeps hst)

theorem blockMember_keeps {k m : Nat} {s : State} (hst : (memGet s k m).st ≠ 0) : Keeps k s (blockMember k m s) :=
  ((Keeps.active hst (show (6 : Nat) ≠ 0 by decide)).trans (convCount_keeps _ _ _)).trans (postMuted_keeps _ _ _ _ _)

theorem tryAlign_keeps {k m : Nat} {s : State} (hst : (memGet s k m).st ≠ 0) : Keeps k s (tryAlign k m s) := fun w => by
  have htrim : Keeps k s (memMod s k m (fun q => { q with fifo := trimTo (convoyNominal s k) q.fifo })) := .mem Iff.rfl
  exact Keeps.ite (.refl k s) (.ite (.ite (blockMember_keeps hst) (.ite (memberReady_keeps hst) (.refl k s)))
    (.ite (htrim.trans (memberReady_keeps (htrim.notIdle w hst))) (.refl k s))) w

@[simp] theorem enterStage_st (s : State) (k : Nat) (words : List (BitVec 32)) (level : BitVec 32) (q : Member) :
    (enterStage s k words level q).st = q.st := keeps_ite Member.st rfl rfl

theorem readNothing_keeps (k m : Nat) (s : State) : Keeps k s (readNothing k m s) := .mem (by simp)

theorem readSample_keeps (k m : Nat) (s : State) : Keeps k s (readSample k m s) := by
  unfold readSample
  dsimp only
  split
  · exact .mem (by simp)
  · exact (Keeps.of_eq rfl rfl).trans (.mem (by simp [freeWords]))

/-- A step is followed by another that may lean on what the first keeps. -/
theorem Keeps.andThen {k : Nat} {s t u : State} (h : Keeps k s t) (g : ConvWf k s → Keeps k t u) : Keeps k s u :=
  fun w => (h.trans (g w)) w

/-- A member whose fade is over, and one that is SILENT, before it reads or gives (R160, R161). -/
def fadeSettled (k m : Nat) (s : State) : State := if fadeDue (memGet s k m) then fadeEnds k m s else s
def restarted (k m : Nat) (s : State) : State :=
  if (memGet s k m).st = 5 then memMod s k m (fun q => { q with st := 1, cont := none }) else s
def aligned (k m : Nat) (s : State) : State := if (memGet s k m).st = 1 then tryAlign k m s else s
def readyToRead (k m : Nat) (s : State) : State := aligned k m (restarted k m (fadeSettled k m s))

/-- The read of a member by the state that it has then. -/
def readByState (k m : Nat) (s : State) : State :=
  match (memGet s k m).st with
  | 2 => readSample k m s
  | 4 => readSample k m s
  | 3 =>
    if (memGet (readSample k m s) k m).fifo.length ≤ 32 ∧ (convGet (readSample k m s) k).mute = 0 then
      dropMember k m 1 (convCount k 0 (readSample k m s))
    else readSample k m s
  | 7 =>
    if memberTimed s k m then
      readNothing k m (memMod s k m (fun q => { q with fifo := q.fifo.filter (fun x => decide ((convGet s k).index < x.1)) }))
    else readNothing k m (memMod s k m (fun q => { q with fifo := trimTo (convoyNominal s k) q.fifo }))
  | _ => readNothing k m s

theorem readMember_eq (k m : Nat) (s : State) : readMember k m s = readByState k m (readyToRead k m s) := by
  unfold readMember
  dsimp only
  rw [← fadeSettled.eq_1 k m s, ← restarted.eq_1 k m, ← aligned.eq_1 k m, ← readyToRead.eq_1 k m s]
  generalize readyToRead k m s = t
  rfl

theorem readyToRead_keeps {k m : Nat} {s : State} (hidle : (memGet s k m).toIdle = false) : Keeps k s (readyToRead k m s) := by
  have h0 : Keeps k s (fadeSettled k m s) := by
    unfold fadeSettled
    split
    case isTrue hdue =>
      refine fadeEnds_keeps (fun h => ?_) hidle
      simp [fadeDue, h] at hdue
    case isFalse => exact .refl k s
  have h1 (t : State) : Keeps k t (restarted k m t) := by
    unfold restarted
    split
    case isTrue h5 => exact .active (by omega) (show (1 : Nat) ≠ 0 by decide)
    case isFalse => exact .refl k t
  have h2 (t : State) : Keeps k t (aligned k m t) := by
    unfold aligned
    split
    case isTrue h1 => exact tryAlign_keeps (by omega)
    case isFalse => exact .refl k t
  exact (h0.trans (h1 _)).trans (h2 _)

/-- A read leaves the timeline and the members that are not IDLE (R160), where the member has not to go IDLE. -/
theorem readMember_keeps {k m : Nat} {s : State} (hidle : (memGet s k m).toIdle = false) : Keeps k s (readMember k m s) := by
  rw [readMember_eq]
  refine (readyToRead_keeps hidle).trans ?_
  generalize readyToRead k m s = t
  have hheld (f : Member → Member) (hf : ∀ q, (f q).st = q.st) : Keeps k t (readNothing k m (memMod t k m f)) :=
    (Keeps.mem (by rw [hf])).trans (readNothing_keeps k m _)
  unfold readByState
  split
  · exact readSample_keeps k m t
  · exact readSample_keeps k m t
  · next h3 =>
    have hread := readSample_keeps k m t
    refine .ite (hread.andThen fun w => ?_) hread
    have hst := hread.notIdle w (m := m) (by omega)
    exact (convCount_keeps k 0 _).andThen fun w' => dropMember_keeps ((convCount_keeps k 0 _).notIdle w' hst) 1
  · exact .ite (hheld _ fun _ => rfl) (hheld _ fun _ => rfl)
  · exact readNothing_keeps k m t

/-- The members that all start to fade in at once are those told to; the index stays. -/
theorem foldFadeIn_spec {k : Nat} : ∀ (l : List Nat) {s : State}, ConvWf k s →
    ConvWf k (l.foldl (fun t m => startFadeIn k m t) s)
    ∧ (convGet (l.foldl (fun t m => startFadeIn k m t) s) k).index = (convGet s k).index
    ∧ (convGet (l.foldl (fun t m => startFadeIn k m t) s) k).mute = (convGet s k).mute
    ∧ OnlyHost { s with clk := (l.foldl (fun t m => startFadeIn k m t) s).clk } (l.foldl (fun t m => startFadeIn k m t) s)
    ∧ ∀ n, n ∉ l → memGet (l.foldl (fun t m => startFadeIn k m t) s) k n = memGet s k n
  | [], s, w => ⟨w, rfl, rfl, rfl, fun _ _ => rfl⟩
  | m :: l, s, w => by
    obtain ⟨hwf, hindex, hmute, honly, hmem⟩ := foldFadeIn_spec l (s := startFadeIn k m s) (memMod_convWf w m _)
    have hconv : convGet (startFadeIn k m s) k = _ := convGet_memMod w.1 k m _
    refine ⟨hwf, hindex.trans (by rw [hconv]), hmute.trans (by rw [hconv]), ?_, fun n hn => ?_⟩
    · exact honly
    · rw [List.mem_cons, not_or] at hn
      exact (hmem n hn.2).trans (memGet_memMod_other w hn.1 _)

/-- What happens to the timeline when the index has moved on: the index, the mute and all but the convoys stay, and so does
every member that is not HELD. -/
def IndexKept (k : Nat) (s t : State) : Prop :=
  (convGet t k).index = (convGet s k).index ∧ (convGet t k).mute = (convGet s k).mute ∧ OnlyHost { s with clk := t.clk } t
  ∧ ∀ n, (memGet s k n).st ≠ 7 → memGet t k n = memGet s k n

theorem lockstepStart_kept {k : Nat} {s : State} (w : ConvWf k s) : IndexKept k s (lockstepStart k s) := by
  unfold lockstepStart
  dsimp only
  split
  case isTrue h =>
    obtain ⟨-, hindex, hmute, honly, hmem⟩ := foldFadeIn_spec
      ((List.range (convoyMembers (nearConvoy s k))).filter (fun m => (memGet s k m).st != 0)) w
    refine ⟨hindex, hmute, honly, fun n hn => hmem n fun hin => hn ?_⟩
    simp only [Bool.and_eq_true] at h
    have hall := List.all_eq_true.mp h.2 n hin
    rw [Bool.and_eq_true] at hall
    simpa using hall.1
  case isFalse => exact ⟨rfl, rfl, rfl, fun _ _ => rfl⟩

/-- The index moves on where all that it waits for have read (R159). -/
theorem settleIndex_kept {k : Nat} {s : State} (w : ConvWf k s) :
    (convGet (settleIndex k s) k).index = (convGet s k).index
      + (if (convGet s k).read ≠ 0 ∧ (convGet s k).read &&& indexMembers s k = indexMembers s k then 1 else 0)
    ∧ (convGet (settleIndex k s) k).mute = (convGet s k).mute ∧ OnlyHost { s with clk := (settleIndex k s).clk } (settleIndex k s)
    ∧ ∀ n, (memGet s k n).st ≠ 7 → memGet (settleIndex k s) k n = memGet s k n := by
  unfold settleIndex
  dsimp only
  split
  case isTrue h =>
    have hconv := convGet_convMod_same w.1 k (fun c => { c with read := 0, index := c.index + 1 })
    have hmem (n : Nat) : memGet (convMod s k (fun c => { c with read := 0, index := c.index + 1 })) k n = memGet s k n := by
      rw [memGet, hconv]; rfl
    obtain ⟨hindex, hmute, honly, hkept⟩ := lockstepStart_kept (k := k)
      (s := convMod s k (fun c => { c with read := 0, index := c.index + 1 }))
      ⟨convMod_wf w.1 k _, by rw [hconv]; exact w.2⟩
    refine ⟨by rw [hindex, hconv], by rw [hmute, hconv], honly, fun n hn => ?_⟩
    rw [hkept n (by rwa [hmem]), hmem]
  case isFalse => exact ⟨rfl, rfl, rfl, fun _ _ => rfl⟩

theorem indexMembers_of_timeline {k : Nat} {s t : State} (h : timeline k t = timeline k s) :
    indexMembers t k = indexMembers s k := by
  have hnear : t.cs.near = s.cs.near := congrArg Prod.fst h
  have hmem : (fun n => (memGet t k n).st != 0) = fun n => (memGet s k n).st != 0 :=
    congrArg (fun x : Bank × Nat × Nat × (Nat → Bool) => x.2.2.2) h
  have hconvoy : nearConvoy t k = nearConvoy s k := by rw [nearConvoy, hnear]; rfl
  simp only [indexMembers, activeMembers, hconvoy, hmem]
  rfl

/-- A member that has read is marked, and the index moves on with the last of them. -/
theorem markRead_kept {k : Nat} {s t : State} (w : ConvWf k s) (h : Keeps k s t) (m : Nat) :
    (convGet (markRead k m t) k).index = (convGet s k).index
      + (if ((convGet s k).read ||| 2 ^ m) &&& indexMembers s k = indexMembers s k then 1 else 0)
    ∧ ∀ n, (memGet t k n).st ≠ 7 → memGet (markRead k m t) k n = memGet t k n := by
  obtain ⟨wt, htime⟩ := h w
  have hconv := convGet_convMod_same wt.1 k (fun c => { c with read := c.read ||| 2 ^ m })
  have hmem (n : Nat) : memGet (convMod t k (fun c => { c with read := c.read ||| 2 ^ m })) k n = memGet t k n := by
    rw [memGet, hconv]; rfl
  have hindex : (convGet t k).index = (convGet s k).index :=
    congrArg (fun x : Bank × Nat × Nat × (Nat → Bool) => x.2.1) htime
  have hread : (convGet t k).read = (convGet s k).read :=
    congrArg (fun x : Bank × Nat × Nat × (Nat → Bool) => x.2.2.1) htime
  have hmembers : indexMembers (convMod t k (fun c => { c with read := c.read ||| 2 ^ m })) k = indexMembers s k := by
    rw [← indexMembers_of_timeline htime]
    simp only [indexMembers, activeMembers, hmem]
    rfl
  have hsome : (convGet s k).read ||| 2 ^ m ≠ 0 := by
    have : 2 ^ m ≤ (convGet s k).read ||| 2 ^ m := Nat.right_le_or
    have := Nat.two_pow_pos m
    omega
  obtain ⟨h1, -, -, h2⟩ := settleIndex_kept (k := k)
    (s := convMod t k (fun c => { c with read := c.read ||| 2 ^ m })) ⟨convMod_wf wt.1 k _, by rw [hconv]; exact wt.2⟩
  refine ⟨?_, fun n hn => ?_⟩
  · rw [markRead, h1, hmembers, hconv]
    simp only [hindex, hread, hsome, ne_eq, not_false_eq_true, true_and]
  · rw [markRead, h2 n (by rwa [hmem]), hmem]

/-- Every member of a convoy changes at once. -/
theorem memGet_mapMembers {s : State} {k : Nat} (w : ConvWf k s) {f : Member → Member} (hf : f Member.idle = Member.idle)
    (g : Convoy → Convoy) (hg : ∀ c, (g c).members = tmapKeys Member.idle c.members (fun _ q => f q)) (n : Nat) :
    memGet (convMod s k g) k n = f (memGet s k n) := by
  rw [memGet, convGet_convMod_same w.1, hg]
  exact tget_tmapKeys (fun _ => hf) w.2 n

@[simp] theorem enterStage_held (s : State) (k : Nat) (words : List (BitVec 32)) (level : BitVec 32) (q : Member) :
    (enterStage s k words level q).last = q.last ∧ (enterStage s k words level q).fifo = q.fifo :=
  ⟨keeps_ite Member.last rfl rfl, keeps_ite Member.fifo rfl rfl⟩

theorem takeSample_inOrder (index : Nat) (x : Nat × List (BitVec 32)) (r : List (Nat × List (BitVec 32))) :
    takeSample false index (x :: r) = (some x.2, r) := rfl

/-- A member that takes samples in their order gives the oldest that it holds. -/
theorem readSample_oldest {k m : Nat} {s : State} (w : ConvWf k s)
    (ht : (memberTimed s k m && !convoyEgress (nearConvoy s k)) = false) {x : Nat × List (BitVec 32)}
    {r : List (Nat × List (BitVec 32))} (hf : (memGet s k m).fifo = x :: r) :
    (memGet (readSample k m s) k m).last = x.2 ∧ (memGet (readSample k m s) k m).fifo = r
    ∧ (memGet (readSample k m s) k m).st = (memGet s k m).st := by
  unfold readSample
  dsimp only
  rw [ht, hf, takeSample_inOrder]
  dsimp only
  rw [memGet_memMod_same w]
  simp

theorem readyToRead_running {k m : Nat} {s : State} (h : (memGet s k m).st = 3) : readyToRead k m s = s := by
  have h0 : fadeSettled k m s = s := if_neg (by simp [fadeDue, h])
  have h1 : restarted k m s = s := if_neg (by omega)
  have h2 : aligned k m s = s := if_neg (by omega)
  rw [readyToRead, h0, h1, h2]

/-- A RUNNING member with more than 33 samples reads and goes on RUNNING. -/
theorem readMember_running {k m : Nat} {s : State} (w : ConvWf k s) (hst : (memGet s k m).st = 3)
    (ht : memberTimed s k m = false) {x : Nat × List (BitVec 32)} {r : List (Nat × List (BitVec 32))}
    (hf : (memGet s k m).fifo = x :: r) (hr : 32 < r.length) : readMember k m s = readSample k m s := by
  obtain ⟨-, hrest, -⟩ := readSample_oldest w (by rw [ht]; rfl) hf
  rw [readMember_eq, readyToRead_running hst, readByState, hst, if_neg (by rw [hrest]; omega)]
  rfl

/-- An egress member that holds a sample gives its oldest. -/
theorem takeEgress_running {k m : Nat} {s : State} (hst : (memGet s k m).st = 3) (hf : (memGet s k m).fifo ≠ []) :
    takeEgress k m s = readSample k m s := by
  unfold takeEgress
  dsimp only
  rw [← fadeSettled.eq_1 k m s, ← restarted.eq_1 k m, ← aligned.eq_1 k m, ← readyToRead.eq_1 k m s, readyToRead_running hst,
    if_pos (by simp [hst]), if_neg (by simpa using hf)]

theorem memberSample_keeps (float : Bool) (k m : Nat) (s : State) :
    (memberSample float k m s).2.clk = s.clk ∧ (memberSample float k m s).2.cs = s.cs := by
  have h := foldl_keeps (fun acc : List (BitVec 32) × State => (acc.2.clk, acc.2.cs))
    (fun acc i => ((acc.1 ++ [(rampSample float (memGet s k m).level ((memGet s k m).last.getD i 0) acc.2).1]),
      (rampSample float (memGet s k m).level ((memGet s k m).last.getD i 0) acc.2).2))
    (fun acc i => keeps_ite (fun x : BitVec 32 × State => (x.2.clk, x.2.cs)) rfl
      (keeps_ite (fun x : BitVec 32 × State => (x.2.clk, x.2.cs)) rfl
        (keeps_ite (fun x : BitVec 32 × State => (x.2.clk, x.2.cs)) rfl rfl)))
    (List.range (memberOf (nearConvoy s k) m).2.2) ([], s)
  exact Prod.mk.inj h

theorem giveTalker_keeps (k m : Nat) (s : State) : (giveTalker k m s).clk = s.clk ∧ (giveTalker k m s).cs = s.cs := by
  unfold giveTalker
  dsimp only
  split
  · simp [memberSample_keeps]
  · exact ⟨rfl, rfl⟩

theorem giveSpdif_keeps (k m : Nat) (s : State) : (giveSpdif k m s).clk = s.clk ∧ (giveSpdif k m s).cs = s.cs := by
  unfold giveSpdif
  dsimp only
  split
  · simp [memberSample_keeps]
  · exact ⟨rfl, rfl⟩

theorem checkRestored_mem {k : Nat} {s : State} (w : ConvWf k s) (n : Nat) :
    memGet (checkRestored k s) k n = memGet s k n := by
  unfold checkRestored
  dsimp only
  split
  · have hmod : memGet (convMod s k (fun c => { c with toRestore := 0 })) k n = memGet s k n := by
      rw [memGet, convGet_convMod_same w.1]
      rfl
    rw [memGet, convGet, (post_others _ _ _ _ _ _).2.2.2.2.2.1]
    exact hmod
  · rfl

/-- A member at the end of its convoy's mute (R156). -/
def emptiedMember (q : Member) : Member :=
  if q.st = 0 then q else if q.toIdle then Member.idle
  else { q with st := 5, fifo := [], fade := 0, level := 0, last := [], hist := [] }

/-- A convoy at the end of its mute. -/
def mutedOut (c : Convoy) : Convoy :=
  { c with mute := 2, members := tmapKeys Member.idle c.members (fun _ q => emptiedMember q) }

theorem memGet_of_clk {s t : State} (h : t.clk = s.clk) (k n : Nat) : memGet t k n = memGet s k n := by
  rw [memGet, convGet, h]
  rfl

end Sys2Proof.Machine

namespace Sys2Proof
open Sys2Proof.Machine

/-- Settles O40: samples go where the convoy holds them, a read leaves the timeline but for the index that it may move on,
and fades, resync points and mutes end as R160 to R163 say. -/
theorem convoyStepsTakeEffect : Obligations.ConvoyStepsTakeEffect := by
  intro c m s hclocks
  obtain ⟨-, hconvoys, hmembers⟩ := hclocks
  have w : ConvWf c.val s := ⟨hconvoys, hmembers c.val⟩
  refine ⟨?untimed, ?timed, ?early, ?running, ?read, ?egress, ?fadeIn, ?fadeOut, ?resync, ?muted⟩
  case untimed =>
    intro i x hon hst hlen htimed hegress hmute hdepth
    show execMemberSampleArrival c m i x s = _
    rw [execMemberSampleArrival, if_neg (by simp [hon, hst, hlen]), if_neg (by simp [hegress]), sampleArrives]
    rw [if_neg hmute, if_neg (by simp [htimed]), if_neg (by simpa [hegress] using hdepth), if_neg (by simp [htimed]),
      holdSample, htimed]
    rfl
  case timed =>
    intro i x hon hst hlen htimed hegress hmute hindex hdepth
    have hactive : (memGet s c.val m.val).st ≠ 0 := fun h => absurd hst (by rw [h]; decide)
    have hnot6 : (memGet s c.val m.val).st ≠ 6 := fun h => absurd hst (by rw [h]; decide)
    have hnot1 : (memGet s c.val m.val).st ≠ 1 := fun h => absurd hst (by rw [h]; decide)
    show execMemberSampleArrival c m i x s = _
    rw [execMemberSampleArrival, if_neg (by simp [hon, hactive, hlen]), if_neg (by simp [hegress]), sampleArrives]
    rw [if_neg hmute, if_neg (by simpa [htimed, hegress] using hindex), if_neg (by simpa [hegress] using hdepth),
      if_neg (by simp [hnot6]), htimed, hegress, holdSample, if_neg (by simp [memGet_memMod_same w, hnot1])]
    rfl
  case early =>
    intro i x y hoff hfind
    show execMemberSampleArrival c m i x s = _
    rw [execMemberSampleArrival, if_pos (by simp [hoff]), hfind]
    rfl
  case running =>
    intro x r hmay htimed hst hf hr
    obtain ⟨hlast, hrest, hkeep⟩ := readSample_oldest w (by rw [htimed]; rfl) hf
    have hread := readMember_running w hst htimed hf hr
    obtain ⟨hindex, hmem⟩ := markRead_kept w (readSample_keeps c.val m.val s) m.val
    have hm := hmem m.val (by rw [hkeep, hst]; decide)
    refine ⟨_, show execMemberRead c m s = _ from whenever_true hmay, ?_⟩
    rw [hread, hm]
    exact ⟨hlast, hrest, hkeep.trans hst, hindex⟩
  case read =>
    intro hmay hidle
    exact ⟨_, show execMemberRead c m s = _ from whenever_true hmay, (markRead_kept w (readMember_keeps hidle) m.val).1⟩
  case egress =>
    intro x r hmay hport hst hf
    have hegress : convoyEgress (nearConvoy s c.val) = true := by
      simp only [mayRead, Bool.and_eq_true, beq_iff_eq] at hmay
      exact hmay.1.2
    obtain ⟨hlast, hrest, hkeep⟩ := readSample_oldest w (by simp [hegress]) hf
    have htake := takeEgress_running hst (by rw [hf]; simp)
    obtain ⟨hclk1, hcs1⟩ := giveTalker_keeps c.val m.val (readSample c.val m.val s)
    obtain ⟨hclk2, hcs2⟩ := giveSpdif_keeps c.val m.val (giveTalker c.val m.val (readSample c.val m.val s))
    have hsame := memGet_of_clk (hclk2.trans hclk1) c.val m.val
    obtain ⟨-, hmem⟩ := markRead_kept w ((readSample_keeps c.val m.val s).trans
      (.of_eq (hcs2.trans hcs1) (hclk2.trans hclk1))) m.val
    have hm := hmem m.val (by rw [hsame, hkeep, hst]; decide)
    refine ⟨_, show execEgressMemberTake c m s = _ from whenever_true (by simp [hmay, hport]), ?_⟩
    rw [htake, hm, hsame]
    exact ⟨hlast, hrest⟩
  case fadeIn =>
    intro hon hst hfade
    refine ⟨_, show execMemberFadeEnd c m s = _ from whenever_true (by simp [hon, fadeDue, hst, hfade]), ?_⟩
    rw [fadeEnds, if_pos hst, checkRestored_mem (memMod_convWf w m.val _), memGet_memMod_same w]
    exact ⟨rfl, rfl⟩
  case fadeOut =>
    intro hon hst hfade
    refine ⟨_, show execMemberFadeEnd c m s = _ from whenever_true (by simp [hon, fadeDue, hst, hfade]), ?_⟩
    rw [fadeEnds, if_neg (by omega)]
    split
    · rw [memGet_memMod_same w]; rfl
    · rw [memGet_memMod_same w]
  case resync =>
    intro hon hindex
    have hget := memGet_mapMembers w (f := fun q => if q.st = 6 then { q with st := 1, cont := none } else q) rfl
      (fun q => { q with members := tmapKeys Member.idle q.members (fun _ m =>
        if m.st = 6 then { m with st := 1, cont := none } else m) }) (fun _ => rfl)
    refine ⟨_, show execResyncPoint c s = _ from whenever_true (by simp [hon, hindex]), fun n h6 => ?_, fun n h6 => ?_, rfl⟩
    · rw [hget, if_pos h6]
    · rw [hget, if_neg h6]
  case muted =>
    intro hmute hk
    have hget := memGet_mapMembers w (f := emptiedMember) rfl mutedOut (fun _ => rfl)
    have hconv := convGet_convMod_same hconvoys c.val mutedOut
    obtain ⟨-, hkeep, honly, hmem⟩ := settleIndex_kept (k := c.val) (s := convMod s c.val mutedOut)
      ⟨convMod_wf hconvoys _ _, by rw [hconv]; exact tmapKeys_wfFrom Member.idle (fun _ q => emptiedMember q) w.2⟩
    refine ⟨settleIndex c.val (convMod s c.val mutedOut),
      show execConvoyMuteRampEnd c s = _ from whenever_true (by simp [hmute, hk]), by rw [hkeep, hconv]; rfl,
      fun n hn hidle => ?_, honly⟩
    have hn5 : memGet (convMod s c.val mutedOut) c.val n
        = { memGet s c.val n with st := 5, fifo := [], fade := 0, level := 0, last := [], hist := [] } := by
      rw [hget, emptiedMember, if_neg hn, if_neg (by simp [hidle])]
    rw [hmem n (by rw [hn5]; exact (by decide : (5 : Nat) ≠ 7)), hn5]
    exact ⟨rfl, rfl⟩

end Sys2Proof
end

section
/-! PROOF. Capture: what its reads answer, and what its commands leave. -/

namespace Sys2Proof.Machine

theorem bitsOf_two_pow : ∀ k < 8, bitsOf (2 ^ k) 8 = [k] := by decide

theorem mem_bitsOf {x n k : Nat} (h : k ∈ bitsOf x n) : k < n := List.mem_range.mp (List.mem_filter.mp h).1

theorem relayEarly_not_late {s : State} {k : Nat} (h : relayEarly s k = true) : relayLate s k = false := by
  simp only [relayEarly, Bool.and_eq_true, decide_eq_true_eq] at h
  rw [relayLate, decide_eq_false (by omega : ¬ 7 ≤ s.cap.relay.beat), Bool.and_false]

theorem relayLate_not_early {s : State} {k : Nat} (h : relayLate s k = true) : relayEarly s k = false := by
  simp only [relayLate, Bool.and_eq_true, decide_eq_true_eq] at h
  rw [relayEarly, decide_eq_false (by omega : ¬ s.cap.relay.beat ≤ 6), Bool.and_false]

/-- RELAY_SUSPEND where no input named stands in a late beat (R183). -/
theorem relaySuspendDo_now {o : Issue} {p : List Byte} {log : Nat} {s : State}
    (hlate : ∀ k ∈ bitsOf (u8 p 0) 8, relayLate s k = false) :
    relaySuspendDo o p log s = ok (relayMod
      (if (u8 p 1 == 1 && (bitsOf (u8 p 0) 8).any (relayEarly s)) then abortStep 2 s else s)
      (fun r => { r with suspended := if (u8 p 1 == 1) then r.suspended ||| maskOf (bitsOf (u8 p 0) 8)
        else r.suspended - (r.suspended &&& maskOf (bitsOf (u8 p 0) 8)) })) := by
  have hnone : (bitsOf (u8 p 0) 8).filter (relayLate s) = [] :=
    List.filter_eq_nil_iff.mpr fun k hk => by rw [hlate k hk]; decide
  have hall : (bitsOf (u8 p 0) 8).filter (fun k => !relayLate s k) = bitsOf (u8 p 0) 8 :=
    List.filter_eq_self.mpr fun k hk => by rw [hlate k hk]; rfl
  unfold relaySuspendDo
  dsimp only
  rw [hnone, hall]

/-- RELAY_SUSPEND of one input in a late beat waits for beat 9 (Table 8-5). -/
theorem relaySuspendDo_late {o : Issue} {p : List Byte} {log : Nat} {s : State} {k : Nat} (hp : u8 p 0 = 2 ^ k) (hk : k < 8)
    (hlate : relayLate s k = true) :
    relaySuspendDo o p log s
      = queueRelay (.suspend k (u8 p 1 == 1) { ctx := o.ctx, log := log }) s := by
  unfold relaySuspendDo
  dsimp only
  rw [hp, bitsOf_two_pow k hk]
  simp only [hlate, relayLate_not_early hlate, maskOf, List.filter_cons, List.filter_nil, List.any_cons, List.any_nil,
    if_true, Bool.not_true, Bool.or_self, Bool.and_false, Bool.false_eq_true, if_false, List.foldl_nil, Nat.or_zero,
    Nat.and_zero, Nat.sub_zero, ite_self]
  rfl

/-- A rotation starts; it ends at once with no eligible input, and keeps how it started (R177). -/
theorem startRotation_spec (trigger : Nat) (t22 : Int) (s : State) :
    (startRotation trigger t22 s).cap.relay.trigger = trigger ∧ (startRotation trigger t22 s).cap.relay.stepsDone = 0
    ∧ (startRotation trigger t22 s).cap.relay.started = true
    ∧ (startRotation trigger t22 s).host.log = s.host.log
    ∧ OnlyHost { s with cap := (startRotation trigger t22 s).cap } (startRotation trigger t22 s) := by
  unfold startRotation
  dsimp only
  split
  · exact ⟨rfl, rfl, rfl, rfl, rfl⟩
  · rw [onlyHost_iff]
    simp [endRotation, postRelay, relayMod]

theorem startRotation_eligible {trigger : Nat} {t22 : Int} {s : State} (h : ∃ k < 8, relayEligible s k = true) :
    startRotation trigger t22 s = relayMod s (fun r => { r with
      rotating := true, trigger := trigger, stepsDone := 0, beat := 0, todo := List.range 8, startTemp := t22
      started := true, calibratedRelief := false }) := by
  obtain ⟨k, hk, he⟩ := h
  exact if_pos (List.any_eq_true.mpr ⟨k, List.mem_range.mpr hk, he⟩)

theorem capMod_wf {s : State} (w : tblWf Capture.reset s.cap.chans = true) (c : Nat) (f : Capture → Capture) :
    tblWf Capture.reset (capMod s c f).cap.chans = true := tmod_wf Capture.reset w c f

/-- Channels are disarmed one by one; the others and all but the channels stay. -/
theorem disarm_spec {s : State} (w : tblWf Capture.reset s.cap.chans = true) (l : List Nat) :
    tblWf Capture.reset (disarm l s).cap.chans = true
    ∧ (∀ ch, capGet (disarm l s) ch = if ch ∈ l then { capGet s ch with armed := false, run := 0 } else capGet s ch) := by
  induction l generalizing s with
  | nil => exact ⟨w, fun ch => rfl⟩
  | cons c l ih =>
    obtain ⟨hkeep, hget⟩ := ih (capMod_wf w c _)
    refine ⟨hkeep, fun ch => (hget ch).trans ?_⟩
    by_cases hc : ch = c
    · subst hc
      rw [capGet_capMod_same w]
      simp
    · rw [capGet_capMod_other w hc]
      simp [hc]

theorem disarm_only (l : List Nat) (s : State) :
    disarm l s = { s with cap := { s.cap with chans := (disarm l s).cap.chans } } :=
  foldl_inv (fun t : State => t = { s with cap := { s.cap with chans := t.cap.chans } })
    (fun t c => capMod t c (fun q => { q with armed := false, run := 0 })) (fun t c ht => by rw [ht]; rfl) l s rfl

theorem OnlyHost.of_eq {s t : State} (h : t = s) : OnlyHost s t := by
  subst h
  rfl

theorem OnlyHost.withCap {s t : State} (h : OnlyHost s t) (c : CaptureState) :
    OnlyHost { s with cap := c } { t with cap := c } := by
  unfold OnlyHost at h
  rw [h]
  rfl

theorem disarm_onlyHost (l : List Nat) (s : State) :
    OnlyHost { s with cap := { s.cap with chans := (disarm l s).cap.chans } } (disarm l s)
    ∧ (disarm l s).host.log = s.host.log :=
  ⟨.of_eq (disarm_only l s), by rw [disarm_only l s]⟩

theorem estimateWord_spec (s : State) (e : Int) :
    estimateWord s e = e / 65536 ∨ (e % 65536 ≠ 0 ∧ estimateWord s e = e / 65536 + 1) := by
  unfold estimateWord
  split
  · exact .inl rfl
  · next h =>
    split
    · exact .inr ⟨h, rfl⟩
    · exact .inl (by omega)

end Sys2Proof.Machine

namespace Sys2Proof
open Sys2Proof.Machine

/-- Settles O41: capture's reads answer what is committed, and its commands act at once or wait for beat 9. -/
theorem captureReadsAndCommandsTakeEffect : Obligations.CaptureReadsAndCommandsTakeEffect := by
  refine ⟨fun o p s => ⟨?status, ?mic, ?micOpen, ?relay, ?corrections⟩,
    fun o p s => ⟨?pga, ?dcb, ?dcbLate, ?trimPdm, ?trim, ?trimLate, ?micStart, ?micChange, ?micSame, ?micStop, ?micOff,
      ?suspend, ?suspendEarly, ?resume, ?suspendLate, ?start, ?startAny, ?arm, ?disarm, ?disarmAll⟩⟩
  case status =>
    intro h
    refine ⟨_, estimateWord_spec (takeLog s) _, (hostCommand_accepted h (reads (captureStatusResult p))).trans ?_⟩
    unfold reads captureStatusResult
    simp only [decide_eq_true_eq]
    rfl
  case mic =>
    intro v h hv
    refine (hostCommand_accepted h (reads (micbiasStatusResult p))).trans ?_
    have hmv : micMillivolts (takeLog s) (u8 p 0) = (divNear v 1000).toNat := by
      have hv' : latestValue (takeLog s) (29 + u8 p 0) = some v := hv
      rw [micMillivolts, hv']
    rw [reads, micbiasStatusResult, hmv]
    rfl
  case micOpen => exact fun h => ⟨_, hostCommand_accepted h (reads (micbiasStatusResult p))⟩
  case relay => exact fun h => ⟨_, hostCommand_accepted h (reads relayStatusResult)⟩
  case corrections =>
    intro h
    refine ⟨_, hostCommand_accepted h (reads (relayCorrectionsResult p)), fun hc => ?_, fun hc => ?_⟩
    · exact if_neg (by rw [show (modGet (takeLog s) (u8 p 0)).calibrated = false from hc]; decide)
    · exact ⟨if_pos hc, if_pos hc⟩
  case pga => exact fun h => hostCommand_accepted h (pgaSetDo p)
  case dcb =>
    intro h hnow
    refine hostCommand_does (act := dcbSetDo o p) h (if_neg ?_)
    rcases hnow with h8 | hnot
    · simp only [Bool.and_eq_true, decide_eq_true_eq]
      omega
    · rw [show relayLate (takeLog s) (u8 p 0) = false from hnot]
      simp
  case dcbLate =>
    intro h h8 hlate
    refine hostCommand_does (act := dcbSetDo o p) h (if_pos ?_)
    rw [show relayLate (takeLog s) (u8 p 0) = true from hlate]
    simpa using h8
  case trimPdm =>
    intro h h8
    refine (hostCommand_does (act := delayTrimSetDo o p) h (if_neg ?_)).trans ?_
    · simp only [Bool.and_eq_true, decide_eq_true_eq]
      omega
    · rw [if_neg (by omega)]
      rfl
  case trim =>
    intro h h8 hnot
    refine (hostCommand_does (act := delayTrimSetDo o p) h (if_neg ?_)).trans ?_
    · rw [show relayLate (takeLog s) (u8 p 0) = false from hnot]
      simp
    · rw [if_pos h8]
      rfl
  case trimLate =>
    intro h h8 hlate
    refine hostCommand_does (act := delayTrimSetDo o p) h (if_pos ?_)
    rw [show relayLate (takeLog s) (u8 p 0) = true from hlate]
    simpa using h8
  case micStart =>
    intro h h1 hoff
    exact hostCommand_does (act := micbiasSetDo p) h ((if_neg (by omega)).trans (if_pos hoff))
  case micChange =>
    intro h h1 hon hne
    refine hostCommand_does (act := micbiasSetDo p) h ((if_neg (by omega)).trans ((if_neg ?_).trans (if_neg hne)))
    rw [show micOn (takeLog s) (u8 p 0) = true from hon]
    decide
  case micSame =>
    intro h h1 hon heq
    refine hostCommand_does (act := micbiasSetDo p) h ((if_neg (by omega)).trans ((if_neg ?_).trans (if_pos heq)))
    rw [show micOn (takeLog s) (u8 p 0) = true from hon]
    decide
  case micStop =>
    intro h h0 hon
    exact hostCommand_does (act := micbiasSetDo p) h ((if_pos h0).trans (congrArg ok (if_pos hon)))
  case micOff =>
    intro h h0 hoff
    refine hostCommand_does (act := micbiasSetDo p) h ((if_pos h0).trans (congrArg ok (if_neg ?_)))
    rw [show micOn (takeLog s) (u8 p 0) = false from hoff]
    decide
  case suspend =>
    intro h h1 hfree
    have hearly : (bitsOf (u8 p 0) 8).any (relayEarly s) = false :=
      List.any_eq_false.mpr fun k hk => by rw [(hfree k (mem_bitsOf hk)).2]; decide
    refine (hostCommand_does h (relaySuspendDo_now (s := takeLog s) fun k hk => (hfree k (mem_bitsOf hk)).1)).trans ?_
    rw [show (bitsOf (u8 p 0) 8).any (relayEarly (takeLog s)) = false from hearly, h1]
    rfl
  case suspendEarly =>
    intro k h h1 hp hk hearly
    have hlate : ∀ i ∈ bitsOf (u8 p 0) 8, relayLate (takeLog s) i = false := by
      rw [hp, bitsOf_two_pow k hk]
      intro i hi
      rw [List.mem_singleton.mp hi]
      exact relayEarly_not_late (s := takeLog s) hearly
    refine (hostCommand_does h (relaySuspendDo_now hlate)).trans ?_
    have hany : ([k]).any (relayEarly (takeLog s)) = true := by
      rw [List.any_cons, show relayEarly (takeLog s) k = true from hearly]
      rfl
    rw [hp, bitsOf_two_pow k hk, hany, h1]
    simp [maskOf, ok, stOk]
  case resume =>
    intro h h0 hfree
    refine (hostCommand_does h (relaySuspendDo_now (s := takeLog s) fun k hk => hfree k (mem_bitsOf hk))).trans ?_
    rw [h0]
    rfl
  case suspendLate =>
    exact fun k h hp hk hlate => hostCommand_does h (relaySuspendDo_late (s := takeLog s) hp hk hlate)
  case start =>
    intro v h hv helig
    have hv' : latestValue (takeLog s) 22 = some v := hv
    refine (hostCommand_accepted h relayStartDo).trans ?_
    rw [relayStartDo, hv']
    dsimp only
    rw [startRotation_eligible (s := takeLog s) helig]
    rfl
  case startAny =>
    intro h
    have hdo : ∃ t22 u, relayStartDo s.host.log (takeLog s) = ok (startRotation 3 t22 u) ∧ u.host = (takeLog s).host
        ∧ OnlyHost s u := by
      unfold relayStartDo
      split
      · exact ⟨_, _, rfl, rfl, rfl⟩
      · exact ⟨_, _, rfl, rfl, rfl⟩
    obtain ⟨t22, u, hd, hhost, honly⟩ := hdo
    obtain ⟨h1, h2, h3, hlog, hkeep⟩ := startRotation_spec 3 t22 u
    obtain ⟨t, hgo, hr, k⟩ := hostCommand_leaves h hd (hlog.trans (congrArg HostState.log hhost))
    have hcap : t.cap = (startRotation 3 t22 u).cap := k.fields.2.2.2.2.1
    refine ⟨t, hgo, hr, by rw [hcap, h1], by rw [hcap, h2], by rw [hcap, h3], ?_⟩
    rw [hcap]
    exact ((honly.withCap _).trans hkeep).trans k
  case arm => exact fun h => hostCommand_accepted h (thresholdArmDo p)
  case disarm =>
    intro h hne
    refine (hostCommand_accepted h (thresholdDisarmDo p)).trans ?_
    rw [thresholdDisarmDo, if_neg hne]
    rfl
  case disarmAll =>
    intro h hall hwf
    obtain ⟨honly, hlog⟩ := disarm_onlyHost (List.range 16) (takeLog s)
    obtain ⟨-, hget⟩ := disarm_spec (s := takeLog s) hwf (List.range 16)
    obtain ⟨t, hgo, hr, k⟩ := hostCommand_leaves h (act := thresholdDisarmDo p)
      (congrArg (fun l => ok (disarm l (takeLog s))) (if_pos hall)) hlog
    have hcap : t.cap = (disarm (List.range 16) (takeLog s)).cap := k.fields.2.2.2.2.1
    refine ⟨t, hgo, hr, fun ch hch => ?_, ?_⟩
    · rw [capGet, hcap]
      exact (hget ch).trans (if_pos (List.mem_range.mpr hch))
    · rw [hcap]
      exact honly.trans k

end Sys2Proof
end

section
/-! PROOF. Capture: the steps that follow of themselves. -/

namespace Sys2Proof.Machine

/-- A change of a channel counts by what it makes of the channel's present value. -/
theorem capMod_congr {s : State} {ch : Nat} {f g : Capture → Capture} (h : f (capGet s ch) = g (capGet s ch)) :
    capMod s ch f = capMod s ch g := by
  have ht : tmod Capture.reset s.cap.chans ch f = tmod Capture.reset s.cap.chans ch g :=
    congrArg (tset Capture.reset s.cap.chans ch) h
  rw [capMod, ht]
  rfl

theorem exec_pgaStep {k : Fin 8} {s : State} (hport : portEnabled s (17 + k.val) = true) (hfab : fabricStates s = true)
    (hsilent : (capGet s k.val).silent = 0) (hne : (capGet s k.val).pga ≠ (capGet s k.val).pgaTarget) :
    exec (.pgaStep k) s = .next (relayDisturb k.val (capMod s k.val (fun c =>
      { c with pga := if c.pga < c.pgaTarget then c.pga + 1 else c.pga - 1 }))) :=
  show execPgaStep k s = _ from whenever_true (by simp [hport, hfab, hsilent, hne])

/-- A block's peak reaches the detector's level (R192). -/
theorem thresholdHit_iff (c : Capture) (peak : Int) :
    (if c.below then decide (peak < c.level) else decide (c.level < peak)) = true
      ↔ (if c.below then peak < c.level else c.level < peak) := by
  split <;> exact decide_eq_true_iff

theorem exec_thresholdBlock {ch : Fin 16} {peak : Int} {s : State} (hst : thresholdStates s = true)
    (harmed : (capGet s ch.val).armed = true) {n : Nat}
    (hn : (if (if (capGet s ch.val).below then decide (peak < (capGet s ch.val).level)
      else decide ((capGet s ch.val).level < peak)) then (capGet s ch.val).run + 1 else 0) = n) :
    exec (.thresholdBlock ch peak) s = .next (if (capGet s ch.val).hold ≤ n then
        post 0x0907 ch.val 0 (unsigned 16 peak + 65536 * flag (capGet s ch.val).below) (.res [capResource ch.val])
          (capMod s ch.val (fun c => { c with armed := false, run := 0 }))
      else capMod s ch.val (fun c => { c with run := n })) := by
  subst hn
  exact show execThresholdBlock ch peak s = _ from whenever_true (by simp [hst, harmed])

/-- An overload is counted (R193). -/
def overloaded (c : Capture) : Capture :=
  { c with overload := min (c.overload + 1) 0xFFFFFFFF, overloadFold := min (c.overloadFold + 1) 0xFFFFFFFF }

/-- The event of an overload, and its draw where one has been posted before. -/
def overloadDraw (ch : Nat) (s : State) : Bool × State :=
  if (capGet s ch).overloadPosted then drawElapsed (capMod s ch overloaded) else (true, capMod s ch overloaded)

def overloadDone (ch : Nat) (s : State) : State :=
  if (overloadDraw ch s).1 then
    post 0x0905 ch 0 (capGet (overloadDraw ch s).2 ch).overloadFold (.res [capResource ch])
      (capMod (overloadDraw ch s).2 ch (fun c => { c with overloadFold := 0, overloadPosted := true }))
  else (overloadDraw ch s).2

theorem exec_modulatorOverload {ch : Fin 16} {s : State} (h : capRuns (capEntry s ch.val) ch.val = true) :
    exec (.modulatorOverload ch) s = .next (overloadDone ch.val s) :=
  show execModulatorOverload ch s = _ from whenever_true h

theorem capGet_of_cap {s t : State} (h : t.cap = s.cap) (ch : Nat) : capGet t ch = capGet s ch := by
  rw [capGet, h]
  rfl

/-- Whatever becomes of its event, an overload counts. -/
theorem overloadDone_count {ch : Nat} {s : State} (w : tblWf Capture.reset s.cap.chans = true) :
    (capGet (overloadDone ch s) ch).overload = min ((capGet s ch).overload + 1) 0xFFFFFFFF := by
  have hdraw : (overloadDraw ch s).2.cap = (capMod s ch overloaded).cap :=
    keeps_ite (fun x : Bool × State => x.2.cap) rfl rfl
  have hcount : (capGet (overloadDraw ch s).2 ch) = overloaded (capGet s ch) :=
    (capGet_of_cap hdraw ch).trans (capGet_capMod_same w ch overloaded)
  have hwf : tblWf Capture.reset (overloadDraw ch s).2.cap.chans = true := by
    rw [hdraw]
    exact capMod_wf w ch overloaded
  unfold overloadDone
  split
  · rw [capGet_of_cap (post_others _ _ _ _ _ _).2.2.2.2.2.2.1, capGet_capMod_same hwf, hcount]
    rfl
  · rw [hcount]
    rfl

end Sys2Proof.Machine

namespace Sys2Proof
open Sys2Proof.Machine

/-- Settles O42: each step of capture does to its channel, output or detector what its rule says. -/
theorem captureStepsTakeEffect : Obligations.CaptureStepsTakeEffect := by
  intro s
  refine ⟨?up, ?down, ?ramp, ?settle, ?overcurrent, ?restart, ?wake, ?trim, ?triggers, ?counts, ?startsOver, ?posted, ?counted⟩
  case up =>
    intro k hport hfab hsilent hlt
    rw [exec_pgaStep hport hfab hsilent (by omega)]
    refine congrArg (fun t => Host.Outcome.next (relayDisturb k.val t)) (capMod_congr ?_)
    simp only [if_pos hlt]
  case down =>
    intro k hport hfab hsilent hlt
    rw [exec_pgaStep hport hfab hsilent (by omega)]
    refine congrArg (fun t => Host.Outcome.next (relayDisturb k.val t)) (capMod_congr ?_)
    simp only [if_neg (Nat.lt_asymm hlt)]
  case ramp =>
    exact fun b hst hheld hshadow => show execMicbiasRampEnd b s = _ from whenever_true (by simp [hst, hheld, hshadow])
  case settle => exact fun b hset => show execMicbiasSettleEnd b s = _ from whenever_true hset
  case overcurrent => exact fun b hon => show execMicbiasOvercurrent b s = _ from whenever_true hon
  case restart => exact fun ch hs hk => show execChainRestartEnd ch s = _ from whenever_true (by simp [hs, hk])
  case wake =>
    intro port hsilent
    have hnext : 8 + 2 * port.val + 1 = 9 + 2 * port.val := by omega
    show execPdmWakeEnd port s = _
    unfold execPdmWakeEnd
    dsimp only
    rw [hnext]
    exact whenever_true (by simpa using hsilent)
  case trim => exact fun ch hk => show execTrimCrossfadeEnd ch s = _ from whenever_true (by simpa using hk)
  case triggers =>
    intro ch peak hst harmed hhold hhit
    exact (exec_thresholdBlock hst harmed (if_pos ((thresholdHit_iff _ _).mpr hhit))).trans (congrArg _ (if_pos hhold))
  case counts =>
    intro ch peak hst harmed hhold hhit
    exact (exec_thresholdBlock hst harmed (if_pos ((thresholdHit_iff _ _).mpr hhit))).trans
      (congrArg _ (if_neg (by omega)))
  case startsOver =>
    intro ch peak hst harmed hhold hmiss
    exact (exec_thresholdBlock hst harmed (if_neg (mt (thresholdHit_iff _ _).mp hmiss))).trans
      (congrArg _ (if_neg (by omega)))
  case posted =>
    intro ch hruns hfirst hwf
    have hdraw : overloadDraw ch.val s = (true, capMod s ch.val overloaded) := if_neg (by simp [hfirst])
    rw [exec_modulatorOverload hruns, overloadDone, hdraw, if_pos rfl, capGet_capMod_same hwf]
    rfl
  case counted =>
    exact fun ch hruns hwf => ⟨_, exec_modulatorOverload hruns, overloadDone_count hwf⟩

end Sys2Proof
end

section
/-! PROOF. Relay calibration in its beats. -/

namespace Sys2Proof.Machine

theorem modMod_congr {s : State} {m : Nat} {f g : Modulator → Modulator} (h : f (modGet s m) = g (modGet s m)) :
    modMod s m f = modMod s m g := by
  have ht : tmod Modulator.factory s.cap.mods m f = tmod Modulator.factory s.cap.mods m g :=
    congrArg (tset Modulator.factory s.cap.mods m) h
  rw [modMod, ht]
  rfl

theorem vrefcalFailure_iff (g f n : Int) :
    vrefcalFailure g f n ≠ 0 ↔ 671088 < f.natAbs ∨ g < -5593912 ∨ 5925372 < g ∨ -11000 < n := by
  unfold vrefcalFailure
  split
  · simp [*]
  · split
    · have : g < -5593912 ∨ 5925372 < g := by tauto
      simp only [ne_eq, OfNat.ofNat_ne_zero, not_false_eq_true, true_iff]
      tauto
    · split
      · simp [*]
      · simp only [ne_eq, not_true_eq_false, false_iff]
        tauto

/-- A retired relief is gone, and relay calibration has stopped with its rotation (R182). -/
theorem retireRelief_spec (m cause : Nat) (s : State) :
    (modGet (retireRelief m cause s) m).retired = true ∧ (retireRelief m cause s).cap.relay.relief = none
    ∧ (retireRelief m cause s).cap.relay.stopped = true ∧ (retireRelief m cause s).cap.relay.rotating = false
    ∧ (retireRelief m cause s).cap.relay.beat = 0
    ∧ OnlyHost { s with cap := (retireRelief m cause s).cap } (retireRelief m cause s) := by
  have hmods : (retireRelief m cause s).cap.mods
      = tmod Modulator.factory s.cap.mods m (fun q => { q with retired := true }) := by
    simp [retireRelief, endRotation, postRelay, endStep, relayMod, modMod]
  have hget : modGet (retireRelief m cause s) m = { modGet s m with retired := true } := by
    rw [modGet, hmods]
    refine tget_tset_same_ne Modulator.factory s.cap.mods m fun e => ?_
    have hr : (true : Bool) = Modulator.factory.retired := congrArg Modulator.retired e
    exact absurd hr (by decide)
  rw [onlyHost_iff, hget]
  simp [retireRelief, endRotation, postRelay, endStep, relayMod, modMod]

theorem exec_relayVrefcalEnd {g f n : Int} {s : State} {m : Nat} (hbeat : s.cap.relay.beat = 1)
    (hrelief : s.cap.relay.relief = some m) :
    exec (.relayVrefcalEnd g f n) s = .next (if vrefcalFailure g f n ≠ 0 then retireRelief m (vrefcalFailure g f n) s
      else relayMod (modMod s m (fun q => vrefcalOnly { q with calGain := g, calOffset := f, calibrated := true }))
        (fun r => { r with beat := 3, calibratedRelief := true })) := by
  refine (show execRelayVrefcalEnd g f n s = _ from whenever_true (by simp [hbeat])).trans ?_
  rw [hrelief]

theorem exec_relayEstimateEnd {u : Nat} {l g f d : Int} {s : State} {m : Nat} (hbeat : s.cap.relay.beat = 4)
    (hrelief : s.cap.relay.relief = some m) (hu : 250 ≤ u) :
    exec (.relayEstimateEnd u l g f d) s = .next (relayMod (modMod s m (fun q =>
        if l < -7000 then { vrefcalOnly q with offset := f }
        else { q with gain := g, offset := f, delay := d, delaySet := true })) (fun r => { r with beat := 6 })) := by
  refine (show execRelayEstimateEnd u l g f d s = _ from whenever_true (by simp [hbeat])).trans ?_
  dsimp only
  rw [if_neg (by simpa [windowEnough] using hu), hrelief]

theorem failWindow_first {s : State} (h : s.cap.relay.failures = 0) :
    failWindow s = relayMod s (fun r => { r with failures := 1, beat := 4 }) := if_pos h

end Sys2Proof.Machine

namespace Sys2Proof
open Sys2Proof.Machine

/-- Settles O43: each beat of a relay step takes its figures, or fails, as R178 to R182 say. -/
theorem relayStepsInBeats : Obligations.RelayStepsInBeats := by
  intro s
  refine ⟨?starts, ?step, ?ends, ?calibrated, ?retired, ?settled, ?estimate, ?offsetOnly, ?short, ?verified, ?failed, ?exchange⟩
  case starts =>
    intro tr t22 hdev htr hchart hrot hstop htrigger helig
    refine (show execRelayRotationTrigger tr t22 s = _ from whenever_true ?_).trans
      (congrArg Host.Outcome.next (startRotation_eligible helig))
    rcases htrigger with h2 | ⟨hstarted, hfar⟩
    · simp [hdev, htr, hchart, hrot, hstop, h2]
    · simp [hdev, htr, hchart, hrot, hstop, hstarted, hfar]
  case step =>
    intro k hrot hbeat hshelter hfab hfind
    refine (show execRelayStepStart s = _ from whenever_true (by simp [hrot, hbeat, hshelter, hfab])).trans ?_
    rw [hfind]
  case ends =>
    intro hrot hbeat hshelter hfab hfind
    refine (show execRelayStepStart s = _ from whenever_true (by simp [hrot, hbeat, hshelter, hfab])).trans ?_
    rw [hfind]
    rfl
  case calibrated =>
    intro m g f n hbeat hrelief hf hlo hhi hn
    have hgood : ¬ vrefcalFailure g f n ≠ 0 := by
      rw [vrefcalFailure_iff]
      omega
    rw [exec_relayVrefcalEnd hbeat hrelief, if_neg hgood]
    rfl
  case retired =>
    intro m g f n hbeat hrelief hbad
    refine ⟨_, (exec_relayVrefcalEnd hbeat hrelief).trans (congrArg _ (if_pos ((vrefcalFailure_iff g f n).mpr hbad))), ?_⟩
    exact retireRelief_spec m (vrefcalFailure g f n) s
  case settled => exact fun hbeat => show execRelaySettleEnd s = _ from whenever_true (by simp [hbeat])
  case estimate =>
    intro m u l g f d hbeat hrelief hu hl
    rw [exec_relayEstimateEnd hbeat hrelief hu]
    exact congrArg (fun t => Host.Outcome.next (relayMod t fun r => { r with beat := 6 })) (modMod_congr (if_neg (by omega)))
  case offsetOnly =>
    intro m u l g f d hbeat hrelief hu hl hcal
    rw [exec_relayEstimateEnd hbeat hrelief hu]
    refine congrArg (fun t => Host.Outcome.next (relayMod t fun r => { r with beat := 6 })) (modMod_congr ?_)
    rw [if_pos hl, vrefcalOnly, if_pos hcal]
  case short =>
    intro u l g f d hbeat hu hfail
    refine (show execRelayEstimateEnd u l g f d s = _ from whenever_true (by simp [hbeat])).trans ?_
    dsimp only
    rw [if_pos (by simpa [windowEnough] using hu), failWindow_first hfail]
  case verified =>
    intro u rms mean hbeat hu hrms hmean
    refine (show execRelayVerifyEnd u rms mean s = _ from whenever_true (by simp [hbeat])).trans ?_
    dsimp only
    rw [if_pos (by simp [windowEnough, hu, hrms, hmean])]
    rfl
  case failed =>
    intro u rms mean hbeat hbad hfail
    refine (show execRelayVerifyEnd u rms mean s = _ from whenever_true (by simp [hbeat])).trans ?_
    dsimp only
    rw [if_neg ?_, failWindow_first (show (relayMod s fun r => { r with verify := rms }).cap.relay.failures = 0 from hfail)]
    · rfl
    · simp only [windowEnough, Bool.and_eq_true, decide_eq_true_eq]
      omega
  case exchange =>
    intro mr hbeat hcross hrelief hqueued
    refine (show execRelayCrossfadeEnd s = _ from whenever_true (by simp [hbeat, hcross])).trans ?_
    dsimp only
    rw [hrelief, hqueued]
    rfl

end Sys2Proof
end

section
/-! PROOF. Outputs and jacks leave the log number. -/

namespace Sys2Proof.Machine

theorem LogAt.auxMod {v : Nat} {s : State} {c : Nat} {f : Aux → Aux} (inv : LogAt v s.host) :
    LogAt v (Machine.auxMod s c f).host :=
  inv

theorem LogAt.queueMod {v : Nat} {s : State} {c : Nat} {f : AuxQueue → AuxQueue} (inv : LogAt v s.host) :
    LogAt v (Machine.queueMod s c f).host :=
  inv

theorem LogAt.auxStimulus {v : Nat} {s : State} {tip : Bool} (inv : LogAt v s.host) :
    LogAt v (Machine.auxStimulus tip s).host := by
  unfold Machine.auxStimulus
  refine .auxMod ?_
  dsimp only
  exact .queueMod inv

theorem LogAt.jackMod {v : Nat} {s : State} {j : Nat} {f : Jack → Jack} (inv : LogAt v s.host) :
    LogAt v (Machine.jackMod s j f).host :=
  .ite inv inv

theorem LogAt.serveJack {v : Nat} {s : State} {j : Nat} (inv : LogAt v s.host) :
    LogAt v (Machine.serveJack s j).host :=
  .ite (.auxStimulus (.jackMod inv)) inv

theorem LogAt.serveJacks {v : Nat} {s : State} (inv : LogAt v s.host) : LogAt v (Machine.serveJacks s).host :=
  .serveJack (.serveJack inv)

theorem LogAt.jacksBack {v : Nat} {s : State} (inv : LogAt v s.host) : LogAt v (Machine.jacksBack s).host :=
  .jackMod (.jackMod inv)

theorem LogAt.micMod {v : Nat} {s : State} {o : Nat} {f : MicBias → MicBias} (inv : LogAt v s.host) :
    LogAt v (Machine.micMod s o f).host :=
  .ite inv inv

theorem LogAt.micStop {v : Nat} {s : State} {o st : Nat} (inv : LogAt v s.host) :
    LogAt v (Machine.micStop o st s).host :=
  .auxMod (.micMod inv)

theorem LogAt.postAuxFault {v : Nat} {s : State} {mask cause : Nat} (inv : LogAt v s.host) :
    LogAt v (Machine.postAuxFault mask cause s).host :=
  .posted inv

theorem LogAt.auxAllOff {v : Nat} {s : State} (inv : LogAt v s.host) : LogAt v (Machine.auxAllOff s).host :=
  .foldl (.foldl inv (fun _ _ h => .auxMod h)) (fun _ _ h => .queueMod h)

theorem LogAt.auxGoOff {v : Nat} {s : State} {cause : Nat} (inv : LogAt v s.host) :
    LogAt v (Machine.auxGoOff cause s).host := by
  unfold Machine.auxGoOff
  refine .jacksBack (.postAuxFault ?_)
  dsimp only
  exact .auxAllOff inv

theorem LogAt.auxResume {v : Nat} {s : State} (inv : LogAt v s.host) : LogAt v (Machine.auxResume s).host := by
  unfold Machine.auxResume
  refine .ite inv (.serveJacks (.postAuxFault ?_))
  dsimp only
  exact .auxMod inv

theorem LogAt.auxFollow {v : Nat} {s : State} (inv : LogAt v s.host) : LogAt v (Machine.auxFollow s).host :=
  .ite inv (.ite (.foldl (.auxGoOff inv) (fun _ _ h => .ite (.micStop h) h)) (.auxResume inv))

theorem LogAt.hidChange {v : Nat} {s : State} {p bits : Nat} (inv : LogAt v s.host) :
    LogAt v (Machine.hidChange p bits s).host :=
  .usbMod inv

theorem LogAt.hidBit {v : Nat} {s : State} {p k : Nat} {on : Bool} (inv : LogAt v s.host) :
    LogAt v (Machine.hidBit p k on s).host :=
  .hidChange inv

theorem LogAt.postOutState {v : Nat} {s : State} {o st cause log : Nat} (inv : LogAt v s.host) :
    LogAt v (Machine.postOutState o st cause log s).host :=
  .posted inv

theorem LogAt.refreshPump {v : Nat} {s : State} (inv : LogAt v s.host) : LogAt v (Machine.refreshPump s).host := inv

theorem LogAt.enterOut {v : Nat} {s : State} {o st : Nat} (inv : LogAt v s.host) :
    LogAt v (Machine.enterOut o st s).host :=
  .auxFollow (.ite (.refreshPump (.outMod inv)) (.postOutState (.refreshPump (.outMod inv))))

theorem LogAt.stopDriving {v : Nat} {s : State} {o : Nat} (inv : LogAt v s.host) :
    LogAt v (Machine.stopDriving o s).host :=
  .refreshPump (.outMod inv)

theorem LogAt.hidRelease {v : Nat} {s : State} {j : Nat} (inv : LogAt v s.host) :
    LogAt v (Machine.hidRelease j s).host :=
  .ite (.foldl inv (fun _ _ h => .hidBit h)) inv

theorem LogAt.releaseButton {v : Nat} {s : State} {j : Nat} (inv : LogAt v s.host) :
    LogAt v (Machine.releaseButton j s).host :=
  .jackMod (.hidRelease inv)

theorem LogAt.classify {v : Nat} {s : State} {j : Nat} (inv : LogAt v s.host) :
    LogAt v (Machine.classify j s).host :=
  .serveJacks (.jackMod (.releaseButton inv))

theorem LogAt.muteReclassify {v : Nat} {s : State} {o : Nat} (inv : LogAt v s.host) :
    LogAt v (Machine.muteReclassify o s).host :=
  .ite (.classify (.enterOut (.stopDriving inv))) inv

end Sys2Proof.Machine
end

section
/-! PROOF. Outputs and jacks: the commands of group 0x0A. -/

namespace Sys2Proof.Machine

/-- A jack's state and the reclassifications that wait at it. -/
def jackStand (s : State) (j : Nat) : Nat × List Waiter := ((jackGet s j).st, (jackGet s j).reclassify)

theorem jackStand_of_out {s t : State} (h : t.out = s.out) (j : Nat) : jackStand t j = jackStand s j := by
  simp only [jackStand, jackGet, h]

theorem jackGet_of_out {s t : State} (h : t.out = s.out) (j : Nat) : jackGet t j = jackGet s j := by
  simp only [jackGet, h]

theorem outGet_of_outs {s t : State} (h : t.out.outs = s.out.outs) (o : Nat) : outGet t o = outGet s o := by
  rw [outGet, h]
  rfl

@[simp] theorem takeLog_outGet (s : State) (o : Nat) : outGet (takeLog s) o = outGet s o := rfl
@[simp] theorem takeLog_jackGet (s : State) (j : Nat) : jackGet (takeLog s) j = jackGet s j := rfl

/-- A change of a jack that keeps its state and its waiters. -/
theorem jackMod_stand {s : State} {i : Nat} {f : Jack → Jack} (hf : ∀ q, (f q).st = q.st ∧ (f q).reclassify = q.reclassify)
    (j : Nat) : jackStand (jackMod s i f) j = jackStand s j := by
  unfold jackStand jackGet jackMod
  split <;> split <;> simp [hf]

theorem jacksBack_stand (s : State) (j : Nat) : jackStand (jacksBack s) j = jackStand s j := by
  have hback (q : Jack) : (if 3 ≤ q.beat then { q with beat := 2, pole := 0 } else q).st = q.st
      ∧ (if 3 ≤ q.beat then { q with beat := 2, pole := 0 } else q).reclassify = q.reclassify := by
    split <;> exact ⟨rfl, rfl⟩
  exact (jackMod_stand hback j).trans (jackMod_stand hback j)

theorem serveJack_stand (s : State) (i j : Nat) : jackStand (serveJack s i) j = jackStand s j := by
  unfold serveJack
  split
  · exact (jackStand_of_out (auxStimulus_out _ _) j).trans
      (jackMod_stand (f := fun q => { q with beat := 3, pole := 0 }) (fun _ => ⟨rfl, rfl⟩) j)
  · rfl

theorem serveJacks_stand (s : State) (j : Nat) : jackStand (serveJacks s) j = jackStand s j :=
  (serveJack_stand _ 1 j).trans (serveJack_stand s 0 j)

theorem post_stand (code inst log data : Nat) (cn : Concern) (s : State) (j : Nat) :
    jackStand (post code inst log data cn s) j = jackStand s j := jackStand_of_out (by simp) j

theorem auxAllOff_out (s : State) : (auxAllOff s).out = s.out := by
  unfold auxAllOff
  refine (foldl_keeps (fun t : State => t.out) _ (fun t c => ?_) _ _).trans
    (foldl_keeps (fun t : State => t.out) _ (fun t c => ?_) _ _)
  · rfl
  · rfl

theorem auxGoOff_stand (cause : Nat) (s : State) (j : Nat) : jackStand (auxGoOff cause s) j = jackStand s j := by
  unfold auxGoOff
  refine (jacksBack_stand _ j).trans (jackStand_of_out ?_ j)
  simp [postAuxFault, auxAllOff_out]

theorem auxResume_stand (s : State) (j : Nat) : jackStand (auxResume s) j = jackStand s j := by
  unfold auxResume
  split
  · rfl
  · exact (serveJacks_stand _ j).trans (jackStand_of_out (by simp [postAuxFault]) j)

theorem micStop_out (o st : Nat) (s : State) : (micStop o st s).out = s.out := by simp [micStop]

theorem auxFollow_stand (s : State) (j : Nat) : jackStand (auxFollow s) j = jackStand s j := by
  unfold auxFollow
  dsimp only
  split
  · rfl
  · split
    · have hmics := foldl_keeps (fun t : State => t.out) (fun t o => if micOn t o then micStop o 0 t else t)
        (fun t o => keeps_ite (fun t : State => t.out) (micStop_out o 0 t) rfl) [0, 1]
        (auxGoOff 1 { s with aux := { s.aux with fault := true } })
      exact (jackStand_of_out hmics j).trans (auxGoOff_stand 1 _ j)
    · exact auxResume_stand _ j

theorem outMod_stand (s : State) (o : Nat) (f : Output → Output) (j : Nat) : jackStand (outMod s o f) j = jackStand s j := rfl

theorem stopDriving_stand (o : Nat) (s : State) (j : Nat) : jackStand (stopDriving o s) j = jackStand s j := rfl

theorem enterOut_stand (o st : Nat) (s : State) (j : Nat) : jackStand (enterOut o st s) j = jackStand s j := by
  unfold enterOut
  exact (auxFollow_stand _ j).trans (keeps_ite (fun t => jackStand t j) rfl (post_stand _ _ _ _ _ _ j))

theorem hidRelease_jacks (i : Nat) (s : State) (j : Nat) : jackStand (hidRelease i s) j = jackStand s j := by
  have hout : (hidRelease i s).out = s.out := by
    unfold hidRelease
    dsimp only
    split
    · exact foldl_keeps (fun t : State => t.out) _ (fun t p => by simp [hidBit, hidChange]) _ _
    · rfl
  exact jackStand_of_out hout j

theorem releaseButton_stand (i : Nat) (s : State) (j : Nat) : jackStand (releaseButton i s) j = jackStand s j :=
  (jackMod_stand (f := fun q => { q with button := 0xFF, cand := 0xFF, candMs := 0 }) (fun _ => ⟨rfl, rfl⟩) j).trans
    (hidRelease_jacks i s j)

/-- A classification begins at its jack, which keeps its waiters (R219). -/
theorem classify_stand (j : Nat) (s : State) : jackStand (classify j s) j = (2, (jackStand s j).2) := by
  have hkeep : (jackGet (releaseButton j s) j).reclassify = (jackStand s j).2 :=
    congrArg Prod.snd (releaseButton_stand j s j)
  unfold classify
  rw [serveJacks_stand, jackStand, jackGet_jackMod_same, hkeep]

/-- A reclassification waits at its jack. -/
def waiting (j : Nat) (w : Waiter) (s : State) : State :=
  jackMod s j (fun q => { q with reclassify := q.reclassify ++ [w] })

theorem jackReclassifyDo_waits {o : Issue} {p : List Byte} {log : Nat} {s : State}
    (h : reclassifyWaits s (u8 p 0) = true) :
    jackReclassifyDo o p log s = queuedDone (waiting (u8 p 0) { ctx := o.ctx, log := log } s) := if_pos h

theorem jackReclassifyDo_ramps {o : Issue} {p : List Byte} {log : Nat} {s : State}
    (h : reclassifyWaits s (u8 p 0) = false) (hst : (outGet s (u8 p 0)).st ∈ [2, 3, 4]) :
    jackReclassifyDo o p log s =
      if (outGet s (u8 p 0)).after = 4 ∨ (outGet s (u8 p 0)).after = 5 then
        (if (outGet s (u8 p 0)).rampPending.isNone && (outGet s (u8 p 0)).gate.n == 0 && (outGet s (u8 p 0)).gate.present == 0 then
          queuedDone (muteReclassify (u8 p 0) (waiting (u8 p 0) { ctx := o.ctx, log := log } s))
        else queuedDone (waiting (u8 p 0) { ctx := o.ctx, log := log } s))
      else queuedDone (askRamp (u8 p 0) false (startTenths s (u8 p 0)) (if (outGet s (u8 p 0)).after = 1 then 1 else 3) 1 log
        (waiting (u8 p 0) { ctx := o.ctx, log := log } s)) :=
  (if_neg (by simp [h])).trans (if_pos hst)

theorem jackReclassifyDo_still {o : Issue} {p : List Byte} {log : Nat} {s : State}
    (h : reclassifyWaits s (u8 p 0) = false) (hst : (outGet s (u8 p 0)).st ∉ [2, 3, 4]) :
    jackReclassifyDo o p log s =
      if (outGet s (u8 p 0)).st = 1 then
        queuedDone (classify (u8 p 0) (enterOut (u8 p 0) 5 (stopDriving (u8 p 0)
          (outMod (waiting (u8 p 0) { ctx := o.ctx, log := log } s) (u8 p 0) (fun q => { q with cause := 0, log := log })))))
      else queuedDone (classify (u8 p 0) (if (outGet s (u8 p 0)).driving then
          stopDriving (u8 p 0) (waiting (u8 p 0) { ctx := o.ctx, log := log } s)
        else waiting (u8 p 0) { ctx := o.ctx, log := log } s)) :=
  (if_neg (by simp [h])).trans (if_neg hst)

/-- An accepted JACK_RECLASSIFY names a jack that is classified. -/
theorem jackReclassify_accepted {o : Issue} {p : List Byte} {s : State} (h : Accepted 0x0A08 o p (jackReclassifyCheck o p) s) :
    u8 p 0 < 2 ∧ (jackGet s (u8 p 0)).st = 3 := by
  have hnone := firstRefusal_eq_none h.2.2
  have h1 := hnone (decide (1 < u8 p 0), stBadParam) (by simp)
  have h3 := hnone ((jackGet s (u8 p 0)).st != 3, stWrongState) (by simp [jackGet])
  exact ⟨by simpa [Nat.lt_succ_iff] using h1, by simpa using h3⟩

theorem reclassifyWaits_eq {o : Issue} {p : List Byte} {s : State} (h : Accepted 0x0A08 o p (jackReclassifyCheck o p) s) :
    reclassifyWaits s (u8 p 0) = !(jackGet s (u8 p 0)).reclassify.isEmpty := by
  obtain ⟨h2, h3⟩ := jackReclassify_accepted h
  simp [reclassifyWaits, h2, h3]

theorem waiting_stand {j : Nat} {s : State} (h : (jackGet s j).reclassify = []) (w : Waiter) :
    jackStand (waiting j w s) j = ((jackGet s j).st, [w]) := by
  rw [waiting, jackStand, jackGet_jackMod_same, h]
  rfl

/-- An output that has a state has it in its table, however that came about. -/
theorem outGet_outMod_active {s : State} {o : Nat} {f : Output → Output} (h : (f (outGet s o)).st ≠ 0) :
    outGet (outMod s o f) o = f (outGet s o) :=
  tget_tset_same_ne Output.reset s.out.outs o fun e => h (congrArg Output.st e)

theorem outGet_stopDriving_active {s : State} {o : Nat} (h : (outGet s o).st ≠ 0) :
    outGet (stopDriving o s) o
      = { outGet s o with driving := false, gate := gateMute (outGet s o).gate, rampPending := none, after := 0 } := by
  rw [stopDriving, outGet_refreshPump, outGet_outMod_active h]

theorem outGet_enterOut_active {s : State} {o st : Nat} (h : st ≠ 0) : outGet (enterOut o st s) o = { outGet s o with st := st } := by
  have houts : (enterOut o st s).out.outs = (outMod s o (fun q => { q with st := st })).out.outs := by
    unfold enterOut
    rw [auxFollow_outs]
    exact keeps_ite (fun t : State => t.out.outs) rfl (by simp [postOutState])
  exact (outGet_of_outs houts o).trans (outGet_outMod_active h)

theorem outGet_classify (j : Nat) (s : State) (o : Nat) : outGet (classify j s) o = outGet s o :=
  outGet_of_outs (classify_outs j s) o

theorem outGet_waiting (j : Nat) (w : Waiter) (s : State) (o : Nat) : outGet (waiting j w s) o = outGet s o :=
  outGet_of_outs (jackMod_outs s j _) o

/-- JACK_RECLASSIFY where no other waits. -/
theorem reclassifyFree {o : Issue} {p : List Byte} {s : State} (h : Accepted 0x0A08 o p (jackReclassifyCheck o p) s)
    (hnone : (jackGet s (u8 p 0)).reclassify = []) : reclassifyWaits s (u8 p 0) = false := by
  rw [reclassifyWaits_eq h, hnone]
  rfl

/-- The reclassification that has come to wait begins where its output is mute. -/
theorem muteReclassify_waiting {o : Issue} {p : List Byte} {s : State} (h : Accepted 0x0A08 o p (jackReclassifyCheck o p) s)
    (hnone : (jackGet s (u8 p 0)).reclassify = []) :
    muteReclassify (u8 p 0) (waiting (u8 p 0) (waiterOf o s) (takeLog s))
      = classify (u8 p 0) (enterOut (u8 p 0) 5 (stopDriving (u8 p 0) (waiting (u8 p 0) (waiterOf o s) (takeLog s)))) := by
  obtain ⟨h2, h3⟩ := jackReclassify_accepted h
  have hstand := waiting_stand (s := takeLog s) hnone (waiterOf o s)
  have hw := congrArg Prod.snd hstand
  have hs := congrArg Prod.fst hstand
  simp only [jackStand, takeLog_jackGet, h3] at hw hs
  exact if_pos (by simp [reclassifyWaits, h2, hw, hs])

theorem outs_waiting {j : Nat} {w : Waiter} {s : State} (h : tblWf Output.reset s.out.outs = true) :
    tblWf Output.reset (waiting j w s).out.outs = true := by
  rw [waiting, jackMod_outs]
  exact h

/-- An output that drives stops; its state stays. -/
theorem quieted_driving {o : Nat} {s : State} {b : Bool} (w : tblWf Output.reset s.out.outs = true)
    (hb : (outGet s o).driving = b) :
    (outGet (if b then stopDriving o s else s) o).driving = false ∧ (outGet (if b then stopDriving o s else s) o).st = (outGet s o).st := by
  cases b with
  | true =>
    rw [if_pos rfl, outGet_stopDriving w, if_pos rfl]
    exact ⟨rfl, rfl⟩
  | false => exact ⟨hb, rfl⟩

/-- A command's effect that classifies a jack whose output does not drive. -/
def Classifies (j : Nat) (w : Waiter) (u : State) : Prop :=
  jackStand u j = (2, [w]) ∧ (outGet u j).driving = false

theorem Classifies.of_classify {j : Nat} {w : Waiter} {s : State} (hw : (jackStand s j).2 = [w])
    (hd : (outGet s j).driving = false) : Classifies j w (classify j s) :=
  ⟨by rw [classify_stand, hw], by rw [outGet_classify]; exact hd⟩

theorem Classifies.of_out {j : Nat} {w : Waiter} {s t : State} (h : Classifies j w s) (ht : t.out = s.out) :
    (jackGet t j).reclassify = [w] ∧ (jackGet t j).st = 2 ∧ (outGet t j).driving = false := by
  obtain ⟨hstand, hdriving⟩ := h
  have hjack : jackStand t j = (2, [w]) := (jackStand_of_out ht j).trans hstand
  refine ⟨congrArg Prod.snd hjack, congrArg Prod.fst hjack, ?_⟩
  rw [outGet_of_outs (congrArg OutputState.outs ht)]
  exact hdriving

end Sys2Proof.Machine

namespace Sys2Proof
open Sys2Proof.Machine

/-- Settles O44: outputs and jacks answer what they are, enables wait for the tick, and a reclassification waits for its
output's mute, or begins where there is none to wait for. -/
theorem outputCommandsTakeEffect : Obligations.OutputCommandsTakeEffect := by
  intro o p s
  refine ⟨?status, ?repeats, ?enable, ?restore, ?auto, ?jack, ?windows, ?clear, ?held, ?joins, ?ramps, ?waits, ?muted, ?quiet, ?starting⟩
  case status => exact fun h => hostCommand_accepted h (reads (outputStatusResult p))
  case repeats => exact fun h hsame => hostCommand_does (act := outputEnableDo p) h (if_pos (beq_iff_eq.mpr hsame))
  case enable => exact fun h hne => hostCommand_does (act := outputEnableDo p) h (if_neg fun e => hne (beq_iff_eq.mp e))
  case restore => exact fun h => hostCommand_accepted h restoreOutputsDo
  case auto => exact fun h => hostCommand_accepted h (setAutoRestoreDo p)
  case jack => exact fun h => hostCommand_accepted h (reads (jackStatusResult p))
  case windows => exact fun h => hostCommand_accepted h (buttonWindowsSetDo p)
  case clear => exact fun h => hostCommand_accepted h spkFaultClearDo
  case held =>
    intro h hbarred
    refine hostCommand_does (act := spkFaultClearDo) h (congrArg ok (if_pos ?_))
    rcases hbarred with hhalt | hshut
    · simp [hhalt]
    · simp [hshut]
  case joins =>
    intro h hsome
    have hwaits : reclassifyWaits s (u8 p 0) = true := by
      rw [reclassifyWaits_eq h]
      simpa using hsome
    exact hostCommand_does h (jackReclassifyDo_waits (s := takeLog s) hwaits)
  case ramps =>
    intro h hnone hst hafter
    refine hostCommand_does h ((jackReclassifyDo_ramps (s := takeLog s) (reclassifyFree h hnone) hst).trans (if_neg ?_))
    simpa using hafter
  case waits =>
    intro h hnone hst hafter hgate
    refine hostCommand_does h ((jackReclassifyDo_ramps (s := takeLog s) (reclassifyFree h hnone) hst).trans
      ((if_pos (by simpa using hafter)).trans (if_neg ?_)))
    simp only [takeLog_outGet, Bool.and_eq_true, Option.isNone_iff_eq_none, beq_iff_eq, not_and]
    rintro ⟨hramp, hn⟩ hpresent
    rw [hramp] at hgate
    rcases hgate with h1 | h1 | h1
    · exact absurd h1 (by decide)
    · exact h1 hn
    · exact h1 hpresent
  case muted =>
    intro h hnone hst hafter hramp hn hpresent
    have hactive : (outGet s (u8 p 0)).st ≠ 0 := fun e => absurd hst (by rw [e]; decide)
    have hdo := (jackReclassifyDo_ramps (o := o) (log := s.host.log) (s := takeLog s) (reclassifyFree h hnone) hst).trans
      ((if_pos (by simpa using hafter)).trans (if_pos (by simp [hramp, hn, hpresent])))
    obtain ⟨t, hrun, hr, k⟩ := hostCommand_leaves h hdo (LogAt.muteReclassify (LogAt.jackMod rfl))
    refine ⟨t, hrun, hr, Classifies.of_out (w := waiterOf o s) ?_ k.fields.2.2.2.2.2.1⟩
    change Classifies (u8 p 0) (waiterOf o s) (muteReclassify (u8 p 0) (waiting (u8 p 0) (waiterOf o s) (takeLog s)))
    rw [muteReclassify_waiting h hnone]
    refine .of_classify ?_ ?_
    · rw [enterOut_stand, stopDriving_stand, waiting_stand (s := takeLog s) hnone]
    · rw [outGet_enterOut_active (by decide), outGet_stopDriving_active (by rwa [outGet_waiting])]
  case quiet =>
    intro h hnone hst hwf
    have hst' : (outGet s (u8 p 0)).st ∉ [2, 3, 4] := fun e => hst (List.mem_cons_of_mem _ e)
    have hne1 : (outGet s (u8 p 0)).st ≠ 1 := fun e => hst (by rw [e]; decide)
    have hdo := (jackReclassifyDo_still (o := o) (log := s.host.log) (s := takeLog s) (reclassifyFree h hnone) hst').trans (if_neg hne1)
    obtain ⟨t, hrun, hr, k⟩ := hostCommand_leaves h hdo
      (LogAt.classify (LogAt.ite (LogAt.stopDriving (LogAt.jackMod rfl)) (LogAt.jackMod rfl)))
    have hout : t.out = _ := k.fields.2.2.2.2.2.1
    have hstand := waiting_stand (s := takeLog s) hnone (waiterOf o s)
    have hdrives := congrArg Output.driving (outGet_waiting (u8 p 0) (waiterOf o s) (takeLog s) (u8 p 0))
    obtain ⟨hquiet, hkept⟩ := quieted_driving (outs_waiting (s := takeLog s) hwf) hdrives
    obtain ⟨h1, h2, h3⟩ := Classifies.of_out (w := waiterOf o s) (.of_classify
      ((congrArg Prod.snd (keeps_ite (fun u => jackStand u (u8 p 0)) (stopDriving_stand _ _ _) rfl)).trans
        (congrArg Prod.snd hstand)) hquiet) hout
    refine ⟨t, hrun, hr, h1, h2, h3, ?_⟩
    rw [outGet_of_outs (congrArg OutputState.outs hout), outGet_classify]
    exact hkept.trans (congrArg Output.st (outGet_waiting _ _ _ _))
  case starting =>
    intro h hnone hst
    have hst' : (outGet s (u8 p 0)).st ∉ [2, 3, 4] := by rw [hst]; decide
    have hdo := (jackReclassifyDo_still (o := o) (log := s.host.log) (s := takeLog s) (reclassifyFree h hnone) hst').trans (if_pos hst)
    obtain ⟨t, hrun, hr, k⟩ := hostCommand_leaves h hdo
      (LogAt.classify (LogAt.enterOut (LogAt.stopDriving (LogAt.outMod (LogAt.jackMod rfl)))))
    refine ⟨t, hrun, hr, Classifies.of_out (w := waiterOf o s) (.of_classify ?_ ?_) k.fields.2.2.2.2.2.1⟩
    · rw [enterOut_stand, stopDriving_stand, outMod_stand]
      exact congrArg Prod.snd (waiting_stand (s := takeLog s) hnone (waiterOf o s))
    · have hmod := outGet_outMod_active (s := waiting (u8 p 0) (waiterOf o s) (takeLog s)) (o := u8 p 0)
        (f := fun q => { q with cause := 0, log := s.host.log }) (by rw [outGet_waiting]; simp [hst])
      rw [outGet_enterOut_active (by decide), outGet_stopDriving_active]
      exact ne_of_eq_of_ne (congrArg Output.st hmod) (by rw [outGet_waiting]; simp [hst])

end Sys2Proof
end

section
/-! PROOF. Outputs: ramps that end, faults, restarts and foldback. -/

namespace Sys2Proof.Machine

/-- The output part but its outputs, its jacks and its pump. -/
def outRest (s : State) : OutputState :=
  { s.out with outs := [], jackA := State.reset.out.jackA, jackB := State.reset.out.jackB, pump := false }

theorem outRest_of_out {s t : State} (h : t.out = s.out) : outRest t = outRest s := by rw [outRest, h]; rfl

theorem outRest_of_restAux {s t : State} (h : restAux t = restAux s) : outRest t = outRest s := by
  have hout : (restAux t).out = (restAux s).out := by rw [h]
  have := congrArg (fun x : OutputState => { x with outs := [], pump := false }) hout
  exact this

theorem jackMod_rest (s : State) (j : Nat) (f : Jack → Jack) : outRest (jackMod s j f) = outRest s :=
  keeps_ite outRest rfl rfl

theorem post_outRest (code inst log data : Nat) (cn : Concern) (s : State) :
    outRest (post code inst log data cn s) = outRest s := outRest_of_out (by simp)

theorem auxFollow_outRest (s : State) : outRest (auxFollow s) = outRest s := outRest_of_restAux (auxFollow_restAux s)

theorem enterOut_outRest (o st : Nat) (s : State) : outRest (enterOut o st s) = outRest s :=
  (auxFollow_outRest _).trans (keeps_ite outRest rfl (post_outRest _ _ _ _ _ _))

theorem hidRelease_out (j : Nat) (s : State) : (hidRelease j s).out = s.out := by
  unfold hidRelease
  dsimp only
  split
  · exact foldl_keeps (fun t : State => t.out) _ (fun t p => by simp [hidBit, hidChange]) _ _
  · rfl

theorem hidRelease_cs (j : Nat) (s : State) : (hidRelease j s).cs = s.cs := by
  unfold hidRelease
  dsimp only
  split
  · exact foldl_keeps (fun t : State => t.cs) _ (fun t p => by simp [hidBit, hidChange]) _ _
  · rfl

theorem classify_outRest (j : Nat) (s : State) : outRest (classify j s) = outRest s :=
  (outRest_of_restAux (serveJacks_restAux _)).trans ((jackMod_rest _ _ _).trans
    ((jackMod_rest _ _ _).trans (outRest_of_out (hidRelease_out j s))))

theorem reclassifyNow_outRest (j : Nat) (s : State) : outRest (reclassifyNow j s) = outRest s :=
  keeps_ite outRest (classify_outRest j s) rfl

theorem faultOutput_outRest (o cause : Nat) (s : State) : outRest (faultOutput o cause s) = outRest s :=
  (reclassifyNow_outRest _ _).trans ((auxFollow_outRest _).trans (post_outRest _ _ _ _ _ _))

theorem restAux_cs {s t : State} (h : restAux t = restAux s) : t.cs = s.cs := by
  have := congrArg State.cs h
  exact this

theorem classify_cs (j : Nat) (s : State) : (classify j s).cs = s.cs := by
  unfold classify releaseButton
  rw [restAux_cs (serveJacks_restAux _)]
  simp [hidRelease_cs]

theorem enterOut_cs' (o st : Nat) (s : State) : (enterOut o st s).cs = s.cs := by
  unfold enterOut
  rw [auxFollow_cs]
  exact keeps_ite (fun t : State => t.cs) rfl (by simp [postOutState, refreshPump])

/-- A gate that has come to the end of its ramp. -/
def gateOver (q : Output) : Output := { q with gate := { q.gate with k := 0, n := 0 } }

theorem settleChannels_outs (s : State) (o : Nat) : outGet (settleChannels s) o = outGet s o := rfl

theorem channelsOver_ramping {s : State} (h : gateDone (outGet s 3).gate = true) : channelsOver s = settleChannels s := by
  refine if_neg fun hc => ?_
  have hn : (outGet s 3).gate.n = 0 := hc.2.1
  simp [gateDone, hn] at h

/-- The state in which the end of output k's ramp counts: SPK's channels have settled. -/
def settledFor (k : Nat) (s : State) : State := if k = 3 then settleChannels s else s

theorem settledFor_outs (k : Nat) (s : State) : (settledFor k s).out.outs = s.out.outs :=
  keeps_ite (fun t : State => t.out.outs) rfl rfl

theorem outGet_settledFor (k o : Nat) (s : State) : outGet (settledFor k s) o = outGet s o :=
  outGet_of_outs (settledFor_outs k s) o

theorem jackGet_settledFor (k j : Nat) (s : State) : jackGet (settledFor k s) j = jackGet s j :=
  keeps_ite (fun t => jackGet t j) rfl rfl

theorem channelRises_settledFor {k : Nat} {s : State} (h : k ≠ 3) : channelRises (settledFor k s) k = false := by
  simp [channelRises, h]

/-- The ramp of output k ends: it was no load's, and what is left is what its gate leaves. -/
theorem exec_outputGateRampEnd {k : Fin 4} {s : State} (hdone : gateDone (outGet s k.val).gate = true)
    (hafter : (outGet s k.val).after ≠ 4) :
    exec (.outputGateRampEnd k) s = .next (if (outGet s k.val).after = 2 ∧ (outGet s k.val).gate.target = 0 then
        overTempFault k.val (settledFor k.val s) else gateRampEnd k.val (settledFor k.val s)) := by
  have hover : rampOver k.val s = true := by simp [rampOver, hdone, hafter]
  have hsettled : (if k.val = 3 then channelsOver s else s) = settledFor k.val s := by
    unfold settledFor
    split
    case isTrue h3 => exact channelsOver_ramping (by rw [← h3]; exact hdone)
    case isFalse => rfl
  refine (show execOutputGateRampEnd k s = _ from whenever_true hover).trans ?_
  rw [hsettled, outputRampOver, outGet_settledFor, if_neg (by simp [hdone, hafter])]

theorem gateOver_wf {s : State} (w : tblWf Output.reset s.out.outs = true) (k : Nat) :
    tblWf Output.reset (outMod (settledFor k s) k gateOver).out.outs = true :=
  outMod_wf (by rw [settledFor_outs]; exact w) k gateOver

theorem outGet_gateOver {s : State} (w : tblWf Output.reset s.out.outs = true) (k e : Nat) :
    outGet (outMod (settledFor k s) k gateOver) e = if e = k then gateOver (outGet s k) else outGet s e := by
  have w' : tblWf Output.reset (settledFor k s).out.outs = true := by rw [settledFor_outs]; exact w
  split
  · next h => rw [h, outGet_outMod_same w', outGet_settledFor]
  · next h => rw [outGet_outMod_other w' h, outGet_settledFor]

/-- The end of a ramp, by what waits for it. -/
theorem gateRampEnd_up {k : Nat} {s : State} (h : (outGet s k).gate.target ≠ 0) :
    gateRampEnd k s = if channelRises s k then outMod s k gateOver else enterOut k 3 (outMod s k gateOver) := if_pos h

theorem gateRampEnd_disable {k : Nat} {s : State} (h : (outGet s k).gate.target = 0) (ha : (outGet s k).after = 1) :
    gateRampEnd k s = reclassifyNow k (clampOutput k (outMod s k gateOver)) := by
  refine (if_neg (by simpa using h)).trans ?_
  rw [ha]
  rfl

theorem gateRampEnd_reclassify {k : Nat} {s : State} (h : (outGet s k).gate.target = 0) (ha : (outGet s k).after = 3) :
    gateRampEnd k s = reclassifyNow k (enterOut k 5 (stopDriving k (outMod s k gateOver))) := by
  refine (if_neg (by simpa using h)).trans ?_
  rw [ha]
  rfl

/-- An output at mute, and the load that waits no more for it (R200). -/
def rampedDown (k : Nat) (s : State) : State :=
  outMod (loadWaitsNot k (outMod s k gateOver)) k (fun q => { q with after := 0 })

theorem gateRampEnd_mute {k : Nat} {s : State} (h : (outGet s k).gate.target = 0) (ha : (outGet s k).after ∈ [0, 5]) :
    gateRampEnd k s = reclassifyNow k (enterOut k 5
      (if k = 3 || reclassifyWaits (rampedDown k s) k then stopDriving k (rampedDown k s) else rampedDown k s)) := by
  refine (if_neg (by simpa using h)).trans ?_
  rcases List.mem_cons.mp ha with h0 | h5
  · rw [h0]
    rfl
  · rw [List.mem_singleton.mp h5]
    rfl

/-- An output that is clamped (R201). -/
theorem outGet_clampOutput {s : State} (w : tblWf Output.reset s.out.outs = true) (o e : Nat) :
    (outGet (clampOutput o s) o).st = 0 ∧ (outGet (clampOutput o s) o).driving = false
    ∧ (e ≠ o → outGet (clampOutput o s) e = outGet s e) := by
  unfold clampOutput
  have w1 := outMod_wf w o (fun q => { q with awaiting := false, resumes := false, enabled := q.pending == some true })
  have hget (x : Nat) := outGet_enterOut (stopDriving_wf w1 o) o 0 x
  refine ⟨?_, ?_, fun he => ?_⟩
  · rw [hget, if_pos rfl]
  · rw [hget, if_pos rfl, outGet_stopDriving w1, if_pos rfl]
  · rw [hget, if_neg he, outGet_stopDriving w1, if_neg he, outGet_outMod_other w he]

/-- An output that stops and is MUTED. -/
theorem outGet_stopped {s : State} (w : tblWf Output.reset s.out.outs = true) (o e : Nat) :
    (outGet (enterOut o 5 (stopDriving o s)) o).st = 5 ∧ (outGet (enterOut o 5 (stopDriving o s)) o).driving = false
    ∧ (e ≠ o → outGet (enterOut o 5 (stopDriving o s)) e = outGet s e) := by
  have hget (x : Nat) := outGet_enterOut (stopDriving_wf w o) o 5 x
  refine ⟨?_, ?_, fun he => ?_⟩
  · rw [hget, if_pos rfl]
  · rw [hget, if_pos rfl, outGet_stopDriving w, if_pos rfl]
  · rw [hget, if_neg he, outGet_stopDriving w, if_neg he]

/-- A reclassification that waits begins with its output's stop (R219). -/
theorem reclassifyWaits_of_stand {s t : State} {o : Nat} (h : jackStand t o = jackStand s o) :
    reclassifyWaits t o = reclassifyWaits s o := by
  have h1 : (jackGet t o).st = (jackGet s o).st := congrArg Prod.fst h
  have h2 : (jackGet t o).reclassify = (jackGet s o).reclassify := congrArg Prod.snd h
  rw [reclassifyWaits, h1, h2]
  rfl

theorem reclassifyWaits_iff {s : State} {o : Nat} :
    reclassifyWaits s o = true ↔ o < 2 ∧ (jackGet s o).st = 3 ∧ (jackGet s o).reclassify ≠ [] := by
  simp [reclassifyWaits, and_assoc]

theorem reclassifyNow_waits {s : State} {o : Nat} (h : reclassifyWaits s o = true) : reclassifyNow o s = classify o s := if_pos h

theorem jackGet_classify_st (j : Nat) (s : State) : (jackGet (classify j s) j).st = 2 := congrArg Prod.fst (classify_stand j s)

/-- An output at mute is MUTED, stopped or not. -/
theorem outGet_muted {s : State} (w : tblWf Output.reset s.out.outs = true) (k e : Nat) (b : Bool) :
    (outGet (enterOut k 5 (if b then stopDriving k (rampedDown k s) else rampedDown k s)) k).st = 5
    ∧ (e ≠ k → outGet (enterOut k 5 (if b then stopDriving k (rampedDown k s) else rampedDown k s)) e = outGet s e) := by
  have w1 : tblWf Output.reset (rampedDown k s).out.outs = true := outMod_wf (outMod_wf w k gateOver) k _
  have w2 : tblWf Output.reset (if b then stopDriving k (rampedDown k s) else rampedDown k s).out.outs = true :=
    inv_ite (P := fun t : State => tblWf Output.reset t.out.outs = true) (stopDriving_wf w1 k) w1
  refine ⟨by rw [outGet_enterOut w2, if_pos rfl], fun he => ?_⟩
  have hload : outGet (rampedDown k s) e = outGet s e :=
    (outGet_outMod_other (s := loadWaitsNot k (outMod s k gateOver)) (outMod_wf w k gateOver) he _).trans
      (outGet_outMod_other w he gateOver)
  rw [outGet_enterOut w2, if_neg he, ← hload]
  exact keeps_ite (fun t => outGet t e) (by rw [outGet_stopDriving w1, if_neg he]) rfl

theorem outRest_overTemp {s t : State} (h : outRest t = outRest s) : t.out.overTemp = s.out.overTemp := by
  have := congrArg OutputState.overTemp h
  exact this

theorem outRest_latched {s t : State} (h : outRest t = outRest s) : t.out.latched = s.out.latched := by
  have := congrArg OutputState.latched h
  exact this

theorem outRest_restartWait {s t : State} (h : outRest t = outRest s) : t.out.restartWait = s.out.restartWait := by
  have := congrArg OutputState.restartWait h
  exact this

theorem outRest_gates {s t : State} (h : outRest t = outRest s) : t.out.gateL = s.out.gateL ∧ t.out.gateR = s.out.gateR := by
  have hl := congrArg OutputState.gateL h
  have hr := congrArg OutputState.gateR h
  exact ⟨hl, hr⟩

theorem outRest_locks {s t : State} (h : outRest t = outRest s) (ch : Nat) : railLocked t ch = railLocked s ch := by
  have hl : t.out.lockL = s.out.lockL := by
    have := congrArg OutputState.lockL h
    exact this
  have hr : t.out.lockR = s.out.lockR := by
    have := congrArg OutputState.lockR h
    exact this
  rw [railLocked, hl, hr]
  rfl

/-- An over-temperature fault (R214). -/
theorem overTempFault_spec {s : State} (w : tblWf Output.reset s.out.outs = true) (o e : Nat) :
    (outGet (overTempFault o s) o).st = 6 ∧ (outGet (overTempFault o s) o).lastFault = 5
    ∧ (outGet (overTempFault o s) o).faults = (outGet s o).faults + 1 ∧ (overTempFault o s).out.overTemp = true
    ∧ (e ≠ o → outGet (overTempFault o s) e = outGet s e) := by
  unfold overTempFault
  have hget (x : Nat) := outGet_faultOutput (s := { s with out := { s.out with overTemp := true } }) w o 5 x
  refine ⟨?_, ?_, ?_, outRest_overTemp (faultOutput_outRest _ _ _), fun he => ?_⟩
  · rw [hget, if_pos rfl]
  · rw [hget, if_pos rfl]
  · rw [hget, if_pos rfl]; rfl
  · rw [hget, if_neg he]; rfl

/-- A rail's lockout, and what stops with it: SPK's own outputs, the channel's gate and the lockout apart, nothing else. -/
def lockedOut (ch : Nat) (s : State) : State := stopBoth (stopChannel ch (setLock ch true s))

theorem setLock_outs (ch : Nat) (on : Bool) (s : State) : (setLock ch on s).out.outs = s.out.outs :=
  keeps_ite (fun t : State => t.out.outs) rfl rfl

theorem railLocked_setLock (ch : Nat) (on : Bool) (s : State) : railLocked (setLock ch on s) ch = on := by
  unfold railLocked setLock
  split <;> rfl

theorem stopChannel_outs (ch : Nat) (s : State) : (stopChannel ch s).out.outs = s.out.outs :=
  keeps_ite (fun t : State => t.out.outs) rfl rfl

theorem stopChannel_locks (ch : Nat) (s : State) (c : Nat) : railLocked (stopChannel ch s) c = railLocked s c :=
  keeps_ite (fun t => railLocked t c) rfl rfl

theorem stopBoth_spec {s : State} (w : tblWf Output.reset s.out.outs = true) (e : Nat) :
    tblWf Output.reset (stopBoth s).out.outs = true ∧ (outGet (stopBoth s) 3).faults = (outGet s 3).faults
    ∧ outRest (stopBoth s) = outRest s ∧ (e ≠ 3 → outGet (stopBoth s) e = outGet s e) := by
  have hmod (x : Nat) := outGet_stopDriving w 3 x
  refine ⟨inv_ite (P := fun t : State => tblWf Output.reset t.out.outs = true) (outMod_wf (stopDriving_wf w 3) 3 _) w,
    keeps_ite (fun t => (outGet t 3).faults) ?_ rfl, keeps_ite outRest rfl rfl,
    fun he => keeps_ite (fun t => outGet t e) ?_ rfl⟩
  · rw [outGet_outMod_same (stopDriving_wf w 3), hmod, if_pos rfl]
  · rw [outGet_outMod_other (stopDriving_wf w 3) he, hmod, if_neg he]

theorem lockedOut_spec {s : State} (w : tblWf Output.reset s.out.outs = true) (ch e : Nat) :
    tblWf Output.reset (lockedOut ch s).out.outs = true ∧ (outGet (lockedOut ch s) 3).faults = (outGet s 3).faults
    ∧ railLocked (lockedOut ch s) ch = true ∧ (e ≠ 3 → outGet (lockedOut ch s) e = outGet s e) := by
  have houts : (stopChannel ch (setLock ch true s)).out.outs = s.out.outs := (stopChannel_outs _ _).trans (setLock_outs _ _ _)
  obtain ⟨h1, h2, h3, h4⟩ := stopBoth_spec (s := stopChannel ch (setLock ch true s)) (by rw [houts]; exact w) e
  refine ⟨h1, h2.trans (congrArg Output.faults (outGet_of_outs houts 3)), ?_, fun he => (h4 he).trans (outGet_of_outs houts e)⟩
  rw [lockedOut, outRest_locks h3, stopChannel_locks, railLocked_setLock]

theorem railHeld_of_locked {s : State} {ch : Fin 2} (h : railLocked s ch.val = true) : railHeld s 3 = true := by
  have hch : ch.val = 0 ∨ ch.val = 1 := by omega
  rcases hch with h0 | h1
  · simp_all [railLocked, railHeld]
  · simp_all [railLocked, railHeld]

/-- An output that starts its drivers with its gate at mute (R204). -/
def drivenMuted (q : Output) : Output := { q with st := 1, driving := true, gate := gateMute q.gate }

/-- SPK starts again where nothing holds it (R212, R213). -/
theorem spkRecover_starts {tenths : Nat} {s : State} (w : tblWf Output.reset s.out.outs = true)
    (hhalt : s.eng.halted = false) (hshut : s.pwr.thermalShut = false) (hheld : spkHeld s = false)
    (hst : (outGet s 3).st = 6) (hon : (outGet s 3).enabled = true) (hshelter : s.pwr.shelter = false)
    (hfab : fabricStates s = true) (e : Nat) :
    (outGet (spkRecover tenths s) 3).st = 1 ∧ (outGet (spkRecover tenths s) 3).driving = true
    ∧ (outGet (spkRecover tenths s) 3).rampPending = some (true, tenths)
    ∧ (e ≠ 3 → outGet (spkRecover tenths s) e = outGet s e) := by
  have hstart : spkRecover tenths s = auxFollow (askRamp 3 true tenths 0 4 0
      (openChannels (outMod s 3 drivenMuted))) := by
    unfold spkRecover startOutput
    simp only [hhalt, hshut, hheld, hst, hon, hshelter, hfab, Bool.or_self, Bool.false_eq_true, if_false, ne_eq,
      not_true_eq_false, if_true, Bool.not_true]
    rfl
  have w1 := outMod_wf w 3 drivenMuted
  have hsame := outGet_outMod_same (s := openChannels (outMod s 3 drivenMuted))
    w1 3 (fun q => { q with rampPending := some (true, tenths), after := 0, cause := 4, log := 0 })
  have hopen : outGet (openChannels (outMod s 3 drivenMuted)) 3
      = { outGet s 3 with st := 1, driving := true, gate := gateMute (outGet s 3).gate } := outGet_outMod_same w 3 drivenMuted
  rw [hopen] at hsame
  rw [hstart, outGet_auxFollow, askRamp, hsame]
  refine ⟨rfl, rfl, rfl, fun he => ?_⟩
  rw [outGet_auxFollow]
  exact (outGet_outMod_other (s := openChannels (outMod s 3 drivenMuted))
    w1 he _).trans (outGet_outMod_other w he drivenMuted)

theorem exec_classdThermalCheck {t21 : Int} {s : State} (h : fabricStates s = true ∨ s.pwr.dev = .doze) :
    exec (.classdThermalCheck t21) s = .next (
      if 1250 ≤ t21 then
        if s.out.overTemp then s
        else if !(outGet s 3).driving then overTempFault 3 s
        else if (outGet s 3).after = 2 then s
        else askRamp 3 false 10 2 4 0 s
      else if 1150 ≤ t21 then
        if s.out.foldback = 0 then postSpkThermal true t21 { s with out := { s.out with foldback := min 1200 (s.out.foldback + 50) } }
        else { s with out := { s.out with foldback := min 1200 (s.out.foldback + 50) } }
      else if 1100 ≤ t21 then s
      else if s.out.overTemp then spkRecover 100 { s with out := { s.out with overTemp := false, foldback := 1200 } }
      else if s.out.foldback ≠ 0 ∧ s.out.foldback ≤ 10 then
        postSpkThermal false t21 { s with out := { s.out with foldback := s.out.foldback - 10 } }
      else { s with out := { s.out with foldback := s.out.foldback - 10 } }) :=
  show execClassdThermalCheck t21 s = _ from whenever_true (by simpa using h)

end Sys2Proof.Machine

namespace Sys2Proof
open Sys2Proof.Machine

/-- Settles O45: ramps end in the state that waits for their end, and faults, restarts and foldback do what R211 to R214
say. -/
theorem outputStepsAndFaultsTakeEffect : Obligations.OutputStepsAndFaultsTakeEffect := by
  refine ⟨fun k s w => ⟨?servo, ?up, ?rising, ?channels, ?muted, ?disabled, ?overTemp, ?reclassified, ?load, ?loadReclassified⟩,
    fun s w => ⟨?hp, ?third, ?spk, ?timer, ?restarts, ?uvlo, ?locked, ?recovers, ?riseL, ?riseR, ?unlocked, ?foldStarts, ?folds,
      ?holds, ?unfolds, ?foldEnds, ?cools, ?hotDriving, ?hotStill⟩⟩
  case servo =>
    exact fun r hk hst => show execServoEnd k r s = _ from whenever_true (by simp [hk, hst])
  case up =>
    intro hdone hafter htarget hrises
    have hgate : channelRises (settledFor k.val s) k.val = false := by
      by_cases h3 : k.val = 3
      · rw [h3] at hdone ⊢
        rw [settledFor, if_pos rfl, ← channelsOver_ramping hdone]
        exact hrises h3
      · exact channelRises_settledFor h3
    refine ⟨_, (exec_outputGateRampEnd hdone hafter).trans (congrArg _ ((if_neg fun h => htarget h.2).trans
      ((gateRampEnd_up (by rwa [outGet_settledFor])).trans (if_neg (by simp [hgate]))))), ?_, fun e he => ?_⟩
    · rw [outGet_enterOut (gateOver_wf w k.val), if_pos rfl, outGet_gateOver w, if_pos rfl]
      rfl
    · rw [outGet_enterOut (gateOver_wf w k.val), if_neg he, outGet_gateOver w, if_neg he]
  case rising =>
    intro hdone hafter htarget h3 hrises
    have hsettled : settledFor k.val s = channelsOver s := by
      rw [settledFor, if_pos h3, channelsOver_ramping (by rw [← h3]; exact hdone)]
    refine (exec_outputGateRampEnd hdone hafter).trans (congrArg _ ((if_neg fun h => htarget h.2).trans
      ((gateRampEnd_up (by rwa [outGet_settledFor])).trans ?_)))
    rw [hsettled, h3, if_pos hrises]
    rfl
  case channels =>
    intro hdone h3 hchannel
    have hover : rampOver k.val s = true := by simpa [rampOver, h3] using Or.inr hchannel
    have hgate : gateDone (outGet (channelsOver s) 3).gate = false := by
      rw [h3] at hdone
      have hkeep : (outGet (channelsOver s) 3).gate = (outGet s 3).gate :=
        keeps_ite (fun t => (outGet t 3).gate) (by rw [outGet_enterOut (s := settleChannels s) w]; rfl) rfl
      rw [hkeep, hdone]
    have hrest : outRest (channelsOver s) = outRest (settleChannels s) := keeps_ite outRest (enterOut_outRest 3 3 _) rfl
    obtain ⟨hl, hr⟩ := outRest_gates hrest
    refine ⟨channelsOver s, ?_, hl, hr, fun e he => ?_⟩
    · refine (show execOutputGateRampEnd k s = _ from whenever_true hover).trans ?_
      rw [if_pos h3, outputRampOver, h3, if_pos (by simp [hgate])]
    · exact keeps_ite (fun t => outGet t e) (by rw [outGet_enterOut (s := settleChannels s) w, if_neg he]; rfl) rfl
  case muted =>
    intro hdone hafter htarget
    have hne4 : (outGet s k.val).after ≠ 4 := fun e => absurd hafter (by rw [e]; decide)
    have hne2 : (outGet s k.val).after ≠ 2 := fun e => absurd hafter (by rw [e]; decide)
    have wk : tblWf Output.reset (settledFor k.val s).out.outs = true := by rw [settledFor_outs]; exact w
    refine ⟨_, (exec_outputGateRampEnd hdone hne4).trans (congrArg _ ((if_neg fun h => hne2 h.1).trans
      (gateRampEnd_mute (by rwa [outGet_settledFor]) (by rwa [outGet_settledFor])))), ?_, fun e he => ?_⟩
    · rw [outGet_reclassifyNow, (outGet_muted wk k.val 0 _).1]
    · rw [outGet_reclassifyNow, (outGet_muted wk k.val e _).2 he, outGet_settledFor]
  case disabled =>
    intro hdone hafter htarget
    have hget (e : Nat) := outGet_clampOutput (gateOver_wf w k.val) k.val e
    refine ⟨_, (exec_outputGateRampEnd hdone (by omega)).trans (congrArg _ ((if_neg fun h => by omega).trans
      (gateRampEnd_disable (by rwa [outGet_settledFor]) (by rwa [outGet_settledFor])))), ?_, ?_, fun e he => ?_⟩
    · rw [outGet_reclassifyNow, (hget 0).1]
    · rw [outGet_reclassifyNow, (hget 0).2.1]
    · rw [outGet_reclassifyNow, (hget e).2.2 he, outGet_gateOver w, if_neg he]
  case overTemp =>
    intro hdone hafter htarget
    have hget (e : Nat) := overTempFault_spec (s := settledFor k.val s) (by rw [settledFor_outs]; exact w) k.val e
    obtain ⟨h1, h2, h3, h4, -⟩ := hget 0
    refine ⟨_, (exec_outputGateRampEnd hdone (by omega)).trans (congrArg _ (if_pos ⟨hafter, htarget⟩)), h1, h2, ?_, h4,
      fun e he => ?_⟩
    · rw [h3, outGet_settledFor]
    · rw [(hget e).2.2.2.2 he, outGet_settledFor]
  case reclassified =>
    intro hdone hafter htarget hk hjack hwaiting
    have hwaits : reclassifyWaits (enterOut k.val 5 (stopDriving k.val (outMod (settledFor k.val s) k.val gateOver))) k.val = true := by
      rw [reclassifyWaits_of_stand (enterOut_stand _ _ _ _), reclassifyWaits_iff]
      change k.val < 2 ∧ (jackGet (settledFor k.val s) k.val).st = 3 ∧ (jackGet (settledFor k.val s) k.val).reclassify ≠ []
      rw [jackGet_settledFor]
      exact ⟨hk, hjack, hwaiting⟩
    have hget (e : Nat) := outGet_stopped (gateOver_wf w k.val) k.val e
    refine ⟨_, (exec_outputGateRampEnd hdone (by omega)).trans (congrArg _ ((if_neg fun h => by omega).trans
      (gateRampEnd_reclassify (by rwa [outGet_settledFor]) (by rwa [outGet_settledFor])))), ?_, ?_, ?_, fun e he => ?_⟩
    · rw [outGet_reclassifyNow, (hget 0).1]
    · rw [outGet_reclassifyNow, (hget 0).2.1]
    · rw [reclassifyNow_waits hwaits, jackGet_classify_st]
    · rw [outGet_reclassifyNow, (hget e).2.2 he, outGet_gateOver w, if_neg he]
  case load =>
    intro hdone hafter hfree
    refine (show execOutputLoadRampEnd k s = _ from whenever_true (by simp [hdone, hafter])).trans (congrArg _ (if_neg ?_))
    rw [reclassifyWaits_iff]
    change ¬ (k.val < 2 ∧ (jackGet s k.val).st = 3 ∧ (jackGet s k.val).reclassify ≠ [])
    rintro ⟨h1, h2, h3⟩
    rcases hfree with h | h | h
    · omega
    · exact h h2
    · exact h3 h
  case loadReclassified =>
    intro hdone hafter hk hjack hwaiting
    have hwaits : reclassifyWaits (loadWaitsNot k.val (outMod s k.val gateOver)) k.val = true :=
      reclassifyWaits_iff.mpr ⟨hk, hjack, hwaiting⟩
    obtain ⟨h5, hd, -⟩ := outGet_stopped (s := loadWaitsNot k.val (outMod s k.val gateOver)) (outMod_wf w k.val gateOver) k.val 0
    refine ⟨_, (show execOutputLoadRampEnd k s = _ from whenever_true (by simp [hdone, hafter])).trans
      (congrArg _ (if_pos hwaits)), ?_, ?_, jackGet_classify_st _ _, ?_⟩
    · rw [outGet_classify]
      exact h5
    · rw [outGet_classify]
      exact hd
    · rw [classify_cs, enterOut_cs']
      rfl
  case hp =>
    intro k hdriving
    have hget (e : Nat) := outGet_faultOutput w k.val 1 e
    refine ⟨_, show execHpOvercurrent k s = _ from whenever_true hdriving, ?_, ?_, ?_, ?_, fun e he => ?_⟩
    · rw [hget, if_pos rfl]
    · rw [hget, if_pos rfl]
    · rw [hget, if_pos rfl]
    · rw [hget, if_pos rfl]
    · rw [hget, if_neg he]
  case third =>
    intro hdriving hmany
    have hget := outGet_faultOutput (s := { s with
      free := s.free + 1
      out := { s.out with overcurrents := recentTimes s s.out.overcurrents ++ [(0, false)], latched := true, restartWait := false } }) w 3 3 3
    rw [if_pos rfl] at hget
    refine ⟨_, (show execSpkOvercurrent s = _ from whenever_true hdriving).trans
      (congrArg _ (if_pos (by rw [List.length_append]; simpa using hmany))), ?_, ?_,
      (outRest_latched (faultOutput_outRest _ _ _)).trans rfl, ?_, ?_⟩
    · exact congrArg Output.st hget
    · exact congrArg Output.lastFault hget
    · exact congrArg Output.faults hget
    · exact congrArg Output.driving hget
  case spk =>
    intro hdriving hfew
    have hget := outGet_faultOutput (s := { s with
      free := s.free + 1
      out := { s.out with overcurrents := recentTimes s s.out.overcurrents ++ [(0, false)], restartWait := true } }) w 3 2 3
    rw [if_pos rfl] at hget
    refine ⟨_, (show execSpkOvercurrent s = _ from whenever_true hdriving).trans
      (congrArg _ (if_neg (by rw [List.length_append]; simpa using hfew))), ?_, ?_,
      (outRest_restartWait (faultOutput_outRest _ _ _)).trans rfl, (outRest_latched (faultOutput_outRest _ _ _)).trans rfl, ?_, ?_⟩
    · exact congrArg Output.st hget
    · exact congrArg Output.lastFault hget
    · exact congrArg Output.faults hget
    · exact congrArg Output.driving hget
  case timer => exact fun hwait => show execSpkRestartTimer s = _ from whenever_true hwait
  case restarts =>
    intro hwait hhalt hshut hlocks hlatch htemp hst hon hshelter hfab
    have hget (e : Nat) := spkRecover_starts (tenths := 80) (s := { s with out := { s.out with restartWait := false } }) w hhalt
      hshut (by simp [spkHeld, hlocks, hlatch, htemp]) hst hon hshelter hfab e
    exact ⟨_, show execSpkRestartTimer s = _ from whenever_true hwait, (hget 0).1, (hget 0).2.1, (hget 0).2.2.1,
      fun e he => (hget e).2.2.2 he⟩
  case uvlo =>
    intro ch hoff hpor hfree
    obtain ⟨wl, hfaults, hlock, -⟩ := lockedOut_spec w ch.val 0
    have hget (e : Nat) : outGet (auxFollow (postOutFault 3 4 (outMod (lockedOut ch.val s) 3
        (fun q => { q with lastFault := 4, faults := q.faults + 1 })))) e
        = if e = 3 then { outGet (lockedOut ch.val s) 3 with lastFault := 4, faults := (outGet (lockedOut ch.val s) 3).faults + 1 }
          else outGet (lockedOut ch.val s) e := by
      rw [outGet_auxFollow, outGet_postOutFault]
      split
      · next h => rw [h, outGet_outMod_same wl]
      · next h => rw [outGet_outMod_other wl h]
    have hlocked : railLocked (auxFollow (postOutFault 3 4 (outMod (lockedOut ch.val s) 3
        (fun q => { q with lastFault := 4, faults := q.faults + 1 })))) ch.val = true := by
      exact (outRest_locks ((auxFollow_outRest _).trans (post_outRest _ _ _ _ _ _)) _).trans hlock
    refine ⟨_, (show execPvddUvlo ch s = _ from whenever_true (by simp [hoff, hpor])).trans (congrArg _ (if_neg (by simp [hfree]))),
      if_pos (railHeld_of_locked hlocked), ?_, hlocked, ?_, fun e he => ?_⟩
    · exact (congrArg Output.lastFault (hget 3)).trans rfl
    · refine (congrArg Output.faults (hget 3)).trans ?_
      rw [if_pos rfl, hfaults]
    · refine (hget e).trans ?_
      rw [if_neg he, (lockedOut_spec w ch.val e).2.2.2 he]
  case locked =>
    exact fun ch hoff hpor hlock => (show execPvddUvlo ch s = _ from whenever_true (by simp [hoff, hpor])).trans
      (congrArg _ (if_pos hlock))
  case recovers =>
    intro ch hlock hst
    refine (show execPvddRecover ch s = _ from whenever_true hlock).trans (congrArg _ (if_pos ?_))
    rw [outGet_of_outs (setLock_outs _ _ _), hst]
  case riseL =>
    exact fun hlock hst hdriving => (show execPvddRecover 0 s = _ from whenever_true hlock).trans
      (congrArg _ ((if_neg hst).trans (if_pos hdriving)))
  case riseR =>
    exact fun hlock hst hdriving => (show execPvddRecover 1 s = _ from whenever_true hlock).trans
      (congrArg _ ((if_neg hst).trans (if_pos hdriving)))
  case unlocked =>
    intro ch hlock hst hstill
    have hkeep (e : Nat) : outGet (setLock ch.val false s) e = outGet s e := outGet_of_outs (setLock_outs _ _ _) e
    have hst' : (outGet (setLock ch.val false s) 3).st = (outGet s 3).st := congrArg Output.st (hkeep 3)
    have ws : tblWf Output.reset (setLock ch.val false s).out.outs = true := by rw [setLock_outs]; exact w
    have hcause := outGet_outMod_same ws 3 (fun q => { q with cause := 4, log := 0 })
    have hget (e : Nat) := outGet_enterOut (outMod_wf ws 3 (fun q => { q with cause := 4, log := 0 })) 3
      (outGet (setLock ch.val false s) 3).st e
    refine ⟨_, (show execPvddRecover ch s = _ from whenever_true hlock).trans (congrArg _
      ((if_neg (by rw [hkeep]; exact hst)).trans (if_neg (by rw [hkeep, hstill]; decide)))), ?_, ?_, fun e he => ?_⟩
    · exact keeps_ite (fun t => railLocked t ch.val) (railLocked_setLock _ _ _)
        ((outRest_locks (enterOut_outRest _ _ _) _).trans (railLocked_setLock _ _ _))
    · exact keeps_ite (fun t => (outGet t 3).st) (congrArg Output.st (hkeep 3))
        (show _ = (outGet s 3).st from (congrArg Output.st ((hget 3).trans (if_pos rfl))).trans hst')
    · exact keeps_ite (fun t => outGet t e) (hkeep e)
        ((hget e).trans ((if_neg he).trans ((outGet_outMod_other ws he _).trans (hkeep e))))
  case foldStarts =>
    intro t21 hst hlo hhi hnone
    rw [exec_classdThermalCheck hst, if_neg (by omega), if_pos hlo, if_pos hnone, hnone]
    rfl
  case folds =>
    intro t21 hst hlo hhi hsome
    rw [exec_classdThermalCheck hst, if_neg (by omega), if_pos hlo, if_neg hsome]
  case holds =>
    intro t21 hst hlo hhi
    rw [exec_classdThermalCheck hst, if_neg (by omega), if_neg (by omega), if_pos hlo]
  case unfolds =>
    intro t21 hst hlt hcool hfold
    rw [exec_classdThermalCheck hst, if_neg (by omega), if_neg (by omega), if_neg (by omega), if_neg (by simp [hcool]),
      if_neg (by omega)]
  case foldEnds =>
    intro t21 hst hlt hcool hpos hle
    have hzero : s.out.foldback - 10 = 0 := by omega
    rw [exec_classdThermalCheck hst, if_neg (by omega), if_neg (by omega), if_neg (by omega), if_neg (by simp [hcool]),
      if_pos (by omega), hzero, postSpkThermal]
    simp only [flag, Bool.false_eq_true, if_false, Nat.zero_add]
  case cools =>
    intro t21 hst hlt hhot
    rw [exec_classdThermalCheck hst, if_neg (by omega), if_neg (by omega), if_neg (by omega), if_pos hhot]
  case hotDriving =>
    intro t21 hst hge hcool hdriving hafter
    rw [exec_classdThermalCheck hst, if_pos hge, if_neg (by simp [hcool]), if_neg (by simp [hdriving]), if_neg hafter]
    rfl
  case hotStill =>
    intro t21 hst hge hcool hstill
    obtain ⟨h1, h2, h3, h4, -⟩ := overTempFault_spec w 3 0
    refine ⟨overTempFault 3 s, ?_, h1, h2, h4, h3⟩
    rw [exec_classdThermalCheck hst, if_pos hge, if_neg (by simp [hcool]), if_pos (by simp [hstill])]

end Sys2Proof
end

section
/-! PROOF. Jacks: detection, classification, removal and buttons. -/

namespace Sys2Proof.Machine

/-- A jack that AUX15 does not serve and that does not wait for it. -/
def Resting (q : Jack) : Prop := q.st ≠ 2 ∧ q.beat < 3

/-- The jacks keep all but the beats of their classifications, and a jack at rest keeps all. -/
def JacksKept (s t : State) : Prop :=
  ∀ i, { jackGet t i with beat := 0, pole := 0 } = { jackGet s i with beat := 0, pole := 0 }
    ∧ (Resting (jackGet s i) → jackGet t i = jackGet s i)

theorem JacksKept.of_out {s t : State} (h : t.out = s.out) : JacksKept s t := fun i => by
  rw [jackGet_of_out h]
  exact ⟨rfl, fun _ => rfl⟩

theorem JacksKept.of_same {s t : State} (h : ∀ i, jackGet t i = jackGet s i) : JacksKept s t := fun i => by
  rw [h i]
  exact ⟨rfl, fun _ => rfl⟩

theorem JacksKept.trans {s t u : State} (h : JacksKept s t) (k : JacksKept t u) : JacksKept s u := fun i => by
  refine ⟨(k i).1.trans (h i).1, fun hrest => ?_⟩
  have hst := (h i).2 hrest
  exact ((k i).2 (by rwa [hst])).trans hst

theorem JacksKept.ite {c : Prop} {dec : Decidable c} {s t u : State} (h : JacksKept s t) (k : JacksKept s u) :
    JacksKept s (if c then t else u) := by
  split
  · exact h
  · exact k

/-- The fields of a jack that do not follow its classification's beats. -/
theorem JacksKept.fields {s t : State} (h : JacksKept s t) (i : Nat) :
    (jackGet t i).st = (jackGet s i).st ∧ (jackGet t i).class_ = (jackGet s i).class_ ∧ (jackGet t i).held = (jackGet s i).held
    ∧ (jackGet t i).present = (jackGet s i).present ∧ (jackGet t i).reclassify = (jackGet s i).reclassify
    ∧ (jackGet t i).button = (jackGet s i).button := by
  have hcore := (h i).1
  simp only [Jack.mk.injEq] at hcore
  simp only [hcore, and_self]

/-- What a jack reads after a change of one of them. -/
theorem jackGet_jackMod (s : State) (j i : Nat) (f : Jack → Jack) :
    jackGet (jackMod s j f) i = if (i = 0 ↔ j = 0) then f (jackGet s i) else jackGet s i := by
  unfold jackGet jackMod
  by_cases hi : i = 0 <;> by_cases hj : j = 0 <;> simp [hi, hj]

theorem jackMod_congr {s : State} {j : Nat} {f g : Jack → Jack} (h : f (jackGet s j) = g (jackGet s j)) :
    jackMod s j f = jackMod s j g := by
  unfold jackMod
  unfold jackGet at h
  split
  case isTrue hj => rw [if_pos hj] at h; rw [h]
  case isFalse hj => rw [if_neg hj] at h; rw [h]

/-- A change of a jack that moves its beat only, and none at rest. -/
theorem JacksKept.jackMod {s : State} {j : Nat} {f : Jack → Jack}
    (hcore : ∀ q, { f q with beat := 0, pole := 0 } = { q with beat := 0, pole := 0 })
    (hrest : Resting (jackGet s j) → f (jackGet s j) = jackGet s j) : JacksKept s (jackMod s j f) := fun i => by
  rw [jackGet_jackMod]
  split
  case isTrue h =>
    have hij : jackGet s i = jackGet s j := by unfold jackGet; simp only [h]
    exact ⟨hcore _, fun hr => by rw [hij]; exact hrest (by rwa [← hij])⟩
  case isFalse => exact ⟨rfl, fun _ => rfl⟩

theorem jacksBack_kept (s : State) : JacksKept s (jacksBack s) := by
  have hcore (q : Jack) : { (if 3 ≤ q.beat then { q with beat := 2, pole := 0 } else q) with beat := 0, pole := 0 }
      = { q with beat := 0, pole := 0 } := by split <;> rfl
  have hrest (q : Jack) (h : Resting q) : (if 3 ≤ q.beat then { q with beat := 2, pole := 0 } else q) = q :=
    if_neg (by have := h.2; omega)
  exact (JacksKept.jackMod hcore (hrest _)).trans (JacksKept.jackMod hcore (hrest _))

theorem serveJack_kept (s : State) (j : Nat) : JacksKept s (serveJack s j) := by
  unfold serveJack
  split
  case isTrue h =>
    exact (JacksKept.jackMod (f := fun q => { q with beat := 3, pole := 0 }) (fun _ => rfl)
      fun hr => absurd h.1 hr.1).trans (.of_out (auxStimulus_out _ _))
  case isFalse => exact .of_out rfl

theorem serveJacks_kept (s : State) : JacksKept s (serveJacks s) := (serveJack_kept _ 0).trans (serveJack_kept _ 1)

theorem auxGoOff_kept (cause : Nat) (s : State) : JacksKept s (auxGoOff cause s) :=
  (JacksKept.of_out (by simp [postAuxFault, auxAllOff_out])).trans (jacksBack_kept _)

theorem auxResume_kept (s : State) : JacksKept s (auxResume s) := by
  unfold auxResume
  split
  · exact .of_out rfl
  · exact (JacksKept.of_out (by simp [postAuxFault])).trans (serveJacks_kept _)

theorem auxFollow_kept (s : State) : JacksKept s (auxFollow s) := by
  unfold auxFollow
  dsimp only
  split
  · exact .of_out rfl
  · split
    · have hmics := foldl_keeps (fun t : State => t.out) (fun t o => if micOn t o then micStop o 0 t else t)
        (fun t o => keeps_ite (fun t : State => t.out) (micStop_out o 0 t) rfl) [0, 1]
        (auxGoOff 1 { s with aux := { s.aux with fault := true } })
      exact (auxGoOff_kept 1 { s with aux := { s.aux with fault := true } }).trans (.of_out hmics)
    · exact auxResume_kept { s with aux := { s.aux with fault := false } }

theorem post_kept (code inst log data : Nat) (cn : Concern) (s : State) : JacksKept s (post code inst log data cn s) :=
  .of_out (by simp)

theorem outMod_kept (o : Nat) (f : Output → Output) (s : State) : JacksKept s (outMod s o f) := .of_same fun _ => rfl
theorem refreshPump_kept (s : State) : JacksKept s (refreshPump s) := .of_same fun _ => rfl
theorem openChannels_kept (s : State) : JacksKept s (openChannels s) := .of_same fun _ => rfl
theorem JacksKept.refl (s : State) : JacksKept s s := .of_same fun _ => rfl

theorem enterOut_kept (o st : Nat) (s : State) : JacksKept s (enterOut o st s) := by
  unfold enterOut
  refine JacksKept.trans (.ite ?_ ?_) (auxFollow_kept _)
  · exact (outMod_kept _ _ _).trans (refreshPump_kept _)
  · exact ((outMod_kept _ _ _).trans (refreshPump_kept _)).trans (post_kept _ _ _ _ _ _)

theorem stopDriving_kept (o : Nat) (s : State) : JacksKept s (stopDriving o s) :=
  (outMod_kept _ _ _).trans (refreshPump_kept _)

theorem askRamp_kept (o : Nat) (up : Bool) (tenths after cause log : Nat) (s : State) :
    JacksKept s (askRamp o up tenths after cause log s) := outMod_kept _ _ _

theorem clampOutput_kept (o : Nat) (s : State) : JacksKept s (clampOutput o s) :=
  ((outMod_kept _ _ _).trans (stopDriving_kept _ _)).trans (enterOut_kept _ _ _)

theorem startOutput_kept (o tenths cause log : Nat) (s : State) : JacksKept s (startOutput o tenths cause log s) := by
  unfold startOutput
  refine .ite (.ite (.refl s) ?_) (.ite (.ite ?_ ?_) ?_)
  · exact (outMod_kept _ _ _).trans (enterOut_kept _ _ _)
  · exact outMod_kept _ _ _
  · exact (((outMod_kept _ _ _).trans (openChannels_kept _)).trans (askRamp_kept _ _ _ _ _ _ _)).trans (auxFollow_kept _)
  · exact ((outMod_kept _ _ _).trans (refreshPump_kept _)).trans (auxFollow_kept _)

theorem removalMute_kept (j : Nat) (s : State) : JacksKept s (removalMute j s) := by
  unfold removalMute
  refine .ite (.refl s) (.ite (.ite ?_ ?_) ?_)
  · exact (outMod_kept _ _ _).trans (stopDriving_kept _ _)
  · exact ((outMod_kept _ _ _).trans (stopDriving_kept _ _)).trans (enterOut_kept _ _ _)
  · exact ((outMod_kept _ _ _).trans (stopDriving_kept _ _)).trans (enterOut_kept _ _ _)

theorem jackStarts_kept (j : Nat) (inserted : Bool) (s : State) : JacksKept s (jackStarts j inserted s) := by
  unfold jackStarts
  refine .ite (.ite ?_ (.refl s)) (.ite (.ite ?_ (.refl s)) (.ite (.ite (.ite ?_ ?_) (.ite (.ite ?_ (.refl s)) ?_)) (.refl s)))
  · exact (outMod_kept _ _ _).trans (clampOutput_kept _ _)
  · exact (outMod_kept _ _ _).trans (enterOut_kept _ _ _)
  · exact ((outMod_kept _ _ _).trans (outMod_kept _ _ _)).trans (enterOut_kept _ _ _)
  · exact (outMod_kept _ _ _).trans (outMod_kept _ _ _)
  · exact askRamp_kept _ _ _ _ _ _ _
  · exact startOutput_kept _ _ _ _ _

theorem completeAll_kept (ws : List Waiter) (status : Nat) (s : State) : JacksKept s (completeAll ws status s) :=
  .of_out (by simp)

theorem jackWakes_out (j k : Nat) (s : State) : (jackWakes j k s).out = s.out :=
  foldl_keeps (fun t : State => t.out) _ (fun t p => by simp [wakeDue]) _ _

theorem postJack_kept (code j data log : Nat) (s : State) : JacksKept s (postJack code j data log s) :=
  .of_out ((jackWakes_out _ _ _).trans (by simp))

theorem endStimulus_out (j : Nat) (s : State) : (endStimulus j s).out = s.out :=
  keeps_ite (fun t : State => t.out) (auxStimulusEnd_out s) rfl

/-- What is left of the jack whose plug goes absent: its button is up, and it is not present. -/
def unplugged (q : Jack) : Jack := { q with present := false, button := 0xFF, cand := 0xFF, candMs := 0 }

/-- The state with a jack's plug gone, its class and its output not yet looked at. -/
def plugGone (j : Nat) (s : State) : State := jackMod (releaseButton j s) j (fun q => { q with present := false })

theorem plugGone_jack (j : Nat) (s : State) : jackGet (plugGone j s) j = unplugged (jackGet s j) := by
  rw [plugGone, jackGet_jackMod_same, releaseButton, jackGet_jackMod_same, jackGet_of_out (hidRelease_out j s)]
  rfl

theorem jackGet_jackMod_other {j : Fin 2} (s : State) (f : Jack → Jack) :
    jackGet (jackMod s j.val f) (1 - j.val) = jackGet s (1 - j.val) := by
  rw [jackGet_jackMod, if_neg (by omega)]

theorem plugGone_other (j : Fin 2) (s : State) : jackGet (plugGone j.val s) (1 - j.val) = jackGet s (1 - j.val) := by
  rw [plugGone, jackGet_jackMod_other, releaseButton, jackGet_jackMod_other, jackGet_of_out (hidRelease_out _ s)]

theorem plugGone_outs (j : Nat) (s : State) : (plugGone j s).out.outs = s.out.outs := by
  rw [plugGone, jackMod_outs, releaseButton, jackMod_outs, hidRelease_out]

/-- The removal of a plug stops the output of its jack, unless it is clamped or in FAULT (R219). -/
theorem removalMute_stops {j : Nat} {s : State} (w : tblWf Output.reset s.out.outs = true)
    (hst : (outGet s j).st ∉ [0, 6]) : (outGet (removalMute j s) j).driving = false := by
  have w1 : tblWf Output.reset (outMod s j (fun q => { q with cause := 1, log := 0, awaiting := false, pending := q.pending })).out.outs
      = true := outMod_wf w j _
  have hstop := outGet_stopDriving w1 j j
  rw [if_pos rfl] at hstop
  have henter (st : Nat) := outGet_enterOut (stopDriving_wf w1 j) j st j
  unfold removalMute
  rw [if_neg (by simpa using hst)]
  have hstopped := congrArg Output.driving hstop
  have hentered (st : Nat) : _ = false := (congrArg Output.driving ((henter st).trans (if_pos rfl))).trans hstopped
  exact keeps_ite (fun t => (outGet t j).driving)
    (keeps_ite (fun t => (outGet t j).driving) hstopped (hentered 5)) (hentered 0)

theorem dropReclassify_outs (j : Nat) (s : State) : (dropReclassify j s).out.outs = s.out.outs := by
  rw [dropReclassify, (completeAll_others _ _ _).2.2.2.2.2.2.2.1, jackMod_outs]

/-- The reclassifications that waited are dropped; all else of the jack stays. -/
theorem dropReclassify_jack (j : Nat) (s : State) :
    jackGet (dropReclassify j s) j = { jackGet s j with reclassify := [] } := by
  rw [dropReclassify, jackGet_of_out (completeAll_others _ _ _).2.2.2.2.2.2.2.1, jackGet_jackMod_same]

theorem dropReclassify_other (j : Fin 2) (s : State) :
    jackGet (dropReclassify j.val s) (1 - j.val) = jackGet s (1 - j.val) := by
  rw [dropReclassify, jackGet_of_out (completeAll_others _ _ _).2.2.2.2.2.2.2.1, jackGet_jackMod_other]

/-- A step that leaves all but outputs, jacks, USB ports and the host part. -/
def restUsb (s : State) : State :=
  { s with host := State.reset.host, tw0 := State.reset.tw0, tw1 := State.reset.tw1, free := State.reset.free
           out := State.reset.out, usbA := State.reset.usbA, usbB := State.reset.usbB }

theorem OnlyHost.of_restUsb {s t : State} (h : restUsb t = restUsb s) :
    OnlyHost { s with out := t.out, usbA := t.usbA, usbB := t.usbB } t := by
  simp only [restUsb, State.mk.injEq] at h
  rw [onlyHost_iff]
  simp only [h, and_self]

theorem restUsb_of_rest {s t : State} (h : rest t = rest s) : restUsb t = restUsb s := by
  rw [rest_eq h]
  rfl

theorem usbMod_restUsb (s : State) (p : Nat) (f : Usb → Usb) : restUsb (usbMod s p f) = restUsb s := by
  unfold usbMod
  split <;> rfl

theorem jackMod_restUsb (s : State) (j : Nat) (f : Jack → Jack) : restUsb (jackMod s j f) = restUsb s := by
  unfold jackMod
  split <;> rfl

theorem hidBits_restUsb (k : Nat) (on : Bool) (ps : List Nat) (s : State) :
    restUsb (ps.foldl (fun t p => hidBit p k on t) s) = restUsb s :=
  foldl_keeps restUsb (fun t p => hidBit p k on t) (fun t p => usbMod_restUsb t p _) ps s

theorem jackWakes_restUsb (j k : Nat) (s : State) : restUsb (jackWakes j k s) = restUsb s :=
  foldl_keeps restUsb (fun t p => wakeDue p t) (fun t p => usbMod_restUsb t p _) _ _

theorem hidBits_out (k : Nat) (on : Bool) (ps : List Nat) (s : State) :
    (ps.foldl (fun t p => hidBit p k on t) s).out = s.out :=
  foldl_keeps (fun t : State => t.out) _ (fun _ _ => by simp [hidBit, hidChange]) _ _

theorem buttonPress_restUsb (j w : Nat) (s : State) : restUsb (buttonPress j w s) = restUsb s := by
  unfold buttonPress
  refine keeps_ite restUsb rfl ((hidBits_restUsb _ _ _ _).trans ?_)
  exact (jackWakes_restUsb _ _ _).trans
    ((restUsb_of_rest (postSel_rest _ _ _ _ _ _ _)).trans (jackMod_restUsb _ _ _))

theorem postButton_out (j data : Nat) (s : State) : (postButton j data s).out = s.out := by simp [postButton]

theorem buttonPress_jack {j w : Nat} {s : State} (h : w ≠ 0xFF) :
    jackGet (buttonPress j w s) j = { jackGet s j with button := w, pressedMs := 0 } := by
  rw [buttonPress, if_neg h, jackGet_of_out (hidBits_out _ _ _ _), jackGet_of_out (jackWakes_out _ _ _),
    jackGet_of_out (postButton_out _ _ _), jackGet_jackMod_same]

theorem buttonRelease_up {j : Nat} {s : State} (h : (jackGet s j).button ≠ 0xFF) :
    (jackGet (buttonRelease j s) j).button = 0xFF := by
  rw [buttonRelease, if_neg h, jackGet_of_out (hidBits_out _ _ _ _), jackGet_of_out (postButton_out _ _ _),
    jackGet_jackMod_same]

/-- A jack after one more scan of its buttons, whose window is w. -/
def scannedJack (w : Nat) (q : Jack) : Jack :=
  { q with cand := w, candMs := if q.cand = w then q.candMs + 1 else 0, pressedMs := min (q.pressedMs + 1) 0xFFFF }

/-- A scan of the buttons, by the window that it finds (R220). -/
theorem exec_buttonScan {j : Fin 2} {line bias w : Nat} {s : State} (hst : (jackGet s j.val).st = 3)
    (hclass : (jackGet s j.val).class_ = 2 ∨ (jackGet s j.val).class_ = 3) (hmode : jackMode s j.val ≠ 0)
    (hbias : jackBiasOn s j.val = true) (hw : buttonWindow (buttonLimits s j.val) line bias = w) :
    exec (.buttonScan j line bias) s = .next (
      if w = (jackGet s j.val).button then jackMod s j.val (scannedJack w)
      else if (jackGet s j.val).button ≠ 0xFF then
        if buttonDebounce s j.val ≤ (if (jackGet s j.val).cand = (jackGet s j.val).button then 0 else (jackGet s j.val).outMs + 1) then
          if buttonDebounce s j.val ≤ (scannedJack w (jackGet s j.val)).candMs then
            buttonPress j.val w (buttonRelease j.val (jackMod (jackMod (jackMod s j.val (scannedJack w)) j.val (fun q =>
              { q with outMs := if (jackGet s j.val).cand = (jackGet s j.val).button then 0 else (jackGet s j.val).outMs + 1 }))
              j.val (fun q => { q with outMs := 0 })))
          else buttonRelease j.val (jackMod (jackMod (jackMod s j.val (scannedJack w)) j.val (fun q =>
              { q with outMs := if (jackGet s j.val).cand = (jackGet s j.val).button then 0 else (jackGet s j.val).outMs + 1 }))
              j.val (fun q => { q with outMs := 0 }))
        else jackMod (jackMod s j.val (scannedJack w)) j.val (fun q =>
          { q with outMs := if (jackGet s j.val).cand = (jackGet s j.val).button then 0 else (jackGet s j.val).outMs + 1 })
      else if buttonDebounce s j.val ≤ (scannedJack w (jackGet s j.val)).candMs then
        buttonPress j.val w (jackMod s j.val (scannedJack w))
      else jackMod s j.val (scannedJack w)) := by
  refine (show execButtonScan j line bias s = _ from whenever_true (by simp [buttonsScanned, hst, hclass, hmode, hbias])).trans ?_
  dsimp only
  simp only [hw, jackGet_jackMod_same]
  rfl

/-- What JDET's absence leaves while a classification runs (R219). -/
theorem jdetAbsent_classifying {j : Nat} {s : State} (h : (jackGet s j).st = 1 ∨ (jackGet s j).st = 2) :
    jdetAbsent j s = serveJacks (dropReclassify j (if (jackGet s j).present then
        removalMute j (jackMod (endStimulus j (plugGone j s)) j (fun q =>
          { q with st := 0, beat := 0, pole := 0, class_ := 0, held := 0, returning := false }))
      else jackMod (endStimulus j (plugGone j s)) j (fun q =>
        { q with st := 0, beat := 0, pole := 0, class_ := 0, held := 0, returning := false }))) := by
  rw [jdetAbsent, if_pos h]
  rfl

theorem jdetAbsent_classified {j : Nat} {s : State} (h : (jackGet s j).st = 3) :
    jdetAbsent j s = dropReclassify j (removalMute j (jackMod (plugGone j s) j (fun q => { q with st := 4 }))) := by
  rw [jdetAbsent, if_neg (by omega), if_pos h]
  rfl

theorem jdetAbsent_other {j : Nat} {s : State} (h : (jackGet s j).st ∉ [1, 2, 3]) : jdetAbsent j s = plugGone j s := by
  simp only [List.mem_cons, List.not_mem_nil, or_false, not_or] at h
  rw [jdetAbsent, if_neg (by omega), if_neg (by omega)]
  rfl

theorem exec_jdetAbsent {j : Fin 2} {s : State} (h : jackDetected j.val s = true) :
    exec (.jdetAbsent j) s = .next (wakeFor 2 (jdetAbsent j.val s)) :=
  show execJdetAbsent j s = _ from whenever_true h

/-- The jack whose classification the absence of its plug ends. -/
theorem jdetAbsent_classifying_jack {j : Nat} {s : State} (w : tblWf Output.reset s.out.outs = true)
    (h : (jackGet s j).st = 1 ∨ (jackGet s j).st = 2) :
    (jackGet (jdetAbsent j s) j).st = 0 ∧ (jackGet (jdetAbsent j s) j).class_ = 0 ∧ (jackGet (jdetAbsent j s) j).held = 0
    ∧ (jackGet (jdetAbsent j s) j).present = false ∧ (jackGet (jdetAbsent j s) j).reclassify = []
    ∧ ((jackGet s j).present = true → (outGet s j).st ∉ [0, 6] → (outGet (jdetAbsent j s) j).driving = false) := by
  rw [jdetAbsent_classifying h]
  generalize hu : jackMod (endStimulus j (plugGone j s)) j (fun q =>
    { q with st := 0, beat := 0, pole := 0, class_ := 0, held := 0, returning := false }) = u
  have hjack : jackGet u j = { unplugged (jackGet s j) with st := 0, beat := 0, pole := 0, class_ := 0, held := 0, returning := false } := by
    rw [← hu, jackGet_jackMod_same, jackGet_of_out (endStimulus_out _ _), plugGone_jack]
  have houts : u.out.outs = s.out.outs := by rw [← hu, jackMod_outs, endStimulus_out, plugGone_outs]
  have hmute : JacksKept u (if (jackGet s j).present then removalMute j u else u) := .ite (removalMute_kept j u) (.refl u)
  generalize hv : (if (jackGet s j).present then removalMute j u else u) = v at hmute
  obtain ⟨m1, m2, m3, m4, m5, -⟩ := hmute.fields j
  obtain ⟨k1, k2, k3, k4, k5, -⟩ := (serveJacks_kept (dropReclassify j v)).fields j
  have hdrop := dropReclassify_jack j v
  rw [k1, k2, k3, k4, k5, hdrop]
  refine ⟨?_, ?_, ?_, ?_, rfl, fun hp hst => ?_⟩
  · exact m1.trans (by rw [hjack])
  · exact m2.trans (by rw [hjack])
  · exact m3.trans (by rw [hjack])
  · exact m4.trans (by rw [hjack]; rfl)
  · rw [outGet_of_outs (serveJacks_outs _), outGet_of_outs (dropReclassify_outs _ _), ← hv, if_pos hp]
    exact removalMute_stops (by rw [houts]; exact w) (by rwa [outGet_of_outs houts])

/-- The jack whose plug went absent after its classification. -/
theorem jdetAbsent_classified_jack {j : Fin 2} {s : State} (w : tblWf Output.reset s.out.outs = true)
    (h : (jackGet s j.val).st = 3) :
    (jackGet (jdetAbsent j.val s) j.val).st = 4 ∧ (jackGet (jdetAbsent j.val s) j.val).present = false
    ∧ (jackGet (jdetAbsent j.val s) j.val).held = (jackGet s j.val).held
    ∧ (jackGet (jdetAbsent j.val s) (1 - j.val)).st = (jackGet s (1 - j.val)).st
    ∧ ((outGet s j.val).st ∉ [0, 6] → (outGet (jdetAbsent j.val s) j.val).driving = false) := by
  rw [jdetAbsent_classified h]
  generalize hu : jackMod (plugGone j.val s) j.val (fun q => { q with st := 4 }) = u
  have hjack : jackGet u j.val = { unplugged (jackGet s j.val) with st := 4 } := by
    rw [← hu, jackGet_jackMod_same, plugGone_jack]
  have hother : jackGet u (1 - j.val) = jackGet s (1 - j.val) := by
    rw [← hu, jackGet_jackMod_other, plugGone_other]
  have houts : u.out.outs = s.out.outs := by rw [← hu, jackMod_outs, plugGone_outs]
  obtain ⟨m1, -, m3, m4, -⟩ := (removalMute_kept j.val u).fields j.val
  obtain ⟨o1, -⟩ := (removalMute_kept j.val u).fields (1 - j.val)
  rw [dropReclassify_jack, dropReclassify_other]
  refine ⟨?_, ?_, ?_, ?_, fun hst => ?_⟩
  · exact m1.trans (by rw [hjack])
  · exact m4.trans (by rw [hjack]; rfl)
  · exact m3.trans (by rw [hjack]; rfl)
  · exact o1.trans (by rw [hother])
  · rw [outGet_of_outs (dropReclassify_outs _ _)]
    exact removalMute_stops (by rw [houts]; exact w) (by rwa [outGet_of_outs houts])

/-- Serving a jack starts its beats at most. -/
theorem serveJack_beat {s : State} {i j : Nat} (h : (jackGet s j).beat = 2 ∨ (jackGet s j).beat = 3) :
    (jackGet (serveJack s i) j).beat = 2 ∨ (jackGet (serveJack s i) j).beat = 3 := by
  unfold serveJack
  split
  case isTrue =>
    rw [jackGet_of_out (auxStimulus_out _ _), jackGet_jackMod]
    split
    case isTrue => exact .inr rfl
    case isFalse => exact h
  case isFalse => exact h

theorem classify_begun (j : Nat) (s : State) :
    (jackGet (classify j s) j).st = 2 ∧ ((jackGet (classify j s) j).beat = 2 ∨ (jackGet (classify j s) j).beat = 3)
    ∧ (jackGet (classify j s) j).button = 0xFF := by
  obtain ⟨h1, -, -, -, -, h6⟩ :=
    (serveJacks_kept (jackMod (releaseButton j s) j (fun q => { q with st := 2, beat := 2 }))).fields j
  have hjack := jackGet_jackMod_same (releaseButton j s) j (fun q => { q with st := 2, beat := 2 })
  refine ⟨h1.trans (congrArg Jack.st hjack), serveJack_beat (serveJack_beat (.inl (congrArg Jack.beat hjack))),
    h6.trans ((congrArg Jack.button hjack).trans ?_)⟩
  rw [releaseButton, jackGet_jackMod_same]

/-- The jack whose classification is decided. -/
def decidedJack (vb : Nat) (q : Jack) : Jack :=
  { q with st := 3, beat := 0, vb := vb, class_ := (decideClass q.zt q.va vb).1, pole := (decideClass q.zt q.va vb).2
           held := (decideClass q.zt q.va vb).1, reclassify := [], returning := false }

theorem decideJack_jack (j vb : Nat) (s : State) :
    jackGet (decideJack j vb s) j = { decidedJack vb (jackGet s j) with
      insertions := (jackGet s j).insertions + (if (jackGet s j).held = (decideClass (jackGet s j).zt (jackGet s j).va vb).1 then 0 else 1) } := by
  have hend : jackGet (endStimulus j s) j = jackGet s j := jackGet_of_out (endStimulus_out j s) j
  unfold decideJack
  extract_lets q d log s1 s2 s3
  have h1 : jackGet s1 j = decidedJack vb (jackGet s j) := (jackGet_jackMod_same _ _ _).trans (by rw [hend]; rfl)
  have h2 : jackGet s2 j = decidedJack vb (jackGet s j) :=
    keeps_ite (fun t => jackGet t j) (((postJack_kept _ _ _ _ s1 j).2 (by rw [h1]; exact ⟨Nat.succ_ne_self 2, Nat.zero_lt_succ 2⟩)).trans h1) h1
  have h3 : jackGet s3 j = { decidedJack vb (jackGet s j) with
      insertions := (jackGet s j).insertions + (if (jackGet s j).held = (decideClass (jackGet s j).zt (jackGet s j).va vb).1 then 0 else 1) } := by
    by_cases hheld : (jackGet s j).held = (decideClass (jackGet s j).zt (jackGet s j).va vb).1
    · rw [if_pos hheld]
      exact (congrArg (fun t => jackGet t j) (if_pos hheld)).trans h2
    · rw [if_neg hheld]
      refine (congrArg (fun t => jackGet t j) (if_neg hheld)).trans ((jackGet_of_out ?_ j).trans
        ((jackGet_jackMod_same s2 j (fun q => { q with insertions := q.insertions + 1 })).trans (by rw [h2]; rfl)))
      exact (jackWakes_out _ _ _).trans (by simp)
  have hrest : Resting (jackGet s3 j) := by rw [h3]; exact ⟨Nat.succ_ne_self 2, Nat.zero_lt_succ 2⟩
  exact ((((completeAll_kept _ _ s3).trans (jackStarts_kept _ _ _)).trans (serveJacks_kept _)) j |>.2 hrest).trans h3

end Sys2Proof.Machine

namespace Sys2Proof
open Sys2Proof.Machine

/-- Settles O46: jacks are detected, classified beat by beat, removed, and their buttons debounced. -/
theorem jackStepsTakeEffect : Obligations.JackStepsTakeEffect := by
  intro j s w
  refine ⟨?plugged, ?back, ?still, ?unclassified, ?leaves, ?gone, ?debounced, ?tip, ?ctia, ?decided, ?removed, ?scanned, ?pressed, ?released⟩
  case plugged =>
    exact fun h hst => (show execJdetPresent j s = _ from whenever_true h).trans (congrArg (fun u => Host.Outcome.next (wakeFor 2 u))
      (jackMod_congr (if_pos hst)))
  case back =>
    exact fun h hst => (show execJdetPresent j s = _ from whenever_true h).trans (congrArg (fun u => Host.Outcome.next (wakeFor 2 u))
      (jackMod_congr ((if_neg (by omega)).trans (if_pos hst))))
  case still =>
    intro h hst
    simp only [List.mem_cons, List.not_mem_nil, or_false, not_or] at hst
    exact (show execJdetPresent j s = _ from whenever_true h).trans (congrArg (fun u => Host.Outcome.next (wakeFor 2 u))
      (jackMod_congr ((if_neg hst.1).trans (if_neg hst.2))))
  case unclassified =>
    intro h hst
    exact ⟨_, exec_jdetAbsent h, jdetAbsent_classifying_jack w (by simpa using hst)⟩
  case leaves => exact fun h hst => ⟨_, exec_jdetAbsent h, jdetAbsent_classified_jack w hst⟩
  case gone =>
    intro h hst
    refine ⟨_, exec_jdetAbsent h, ?_, ?_⟩
    · rw [jdetAbsent_other hst, plugGone_jack]
      rfl
    · rw [jdetAbsent_other hst, plugGone_outs]
  case debounced =>
    intro h hst
    obtain ⟨h1, h2, h3⟩ := classify_begun j.val s
    exact ⟨_, show execJackDebounceEnd j s = _ from whenever_true (by simp [h, hst]), h1, h2, h3, classify_outs _ _⟩
  case tip => exact fun zt h hbeat => show execClassifyTipEnd j zt s = _ from whenever_true (by simp [h, hbeat])
  case ctia => exact fun va h hbeat => show execClassifyCtiaEnd j va s = _ from whenever_true (by simp [h, hbeat])
  case decided =>
    intro vb h hbeat
    have hjack := decideJack_jack j.val vb s
    refine ⟨_, show execClassifyDecide j vb s = _ from whenever_true (by simp [h, hbeat]), ?_, ?_, ?_, ?_⟩
    · rw [hjack]; rfl
    · rw [hjack]; rfl
    · rw [hjack]; rfl
    · rw [hjack]
  case removed => exact fun h hst => show execJackRemovalConfirm j s = _ from whenever_true (by simp [h, hst])
  case scanned =>
    intro line bias hst hclass hmode hbias hw
    rw [exec_buttonScan hst hclass hmode hbias hw, if_pos rfl]
    rfl
  case pressed =>
    intro line bias hst hclass hmode hbias hup hne hcand hlong
    rw [exec_buttonScan hst hclass hmode hbias hcand, if_neg (by omega), if_neg (by simp [hup]),
      if_pos (by simpa [scannedJack] using hlong)]
    have hjack := buttonPress_jack (j := j.val) (w := (jackGet s j.val).cand)
      (s := jackMod s j.val (scannedJack (jackGet s j.val).cand)) (by rwa [hcand] at hne)
    refine ⟨_, rfl, ?_, ?_, .of_restUsb ((buttonPress_restUsb _ _ _).trans (jackMod_restUsb _ _ _))⟩
    · rw [hjack]
    · rw [hjack]
  case released =>
    intro line bias hst hclass hmode hbias hdown hw hcand hlong
    have hup := buttonRelease_up (j := j.val) (s := jackMod (jackMod (jackMod s j.val (scannedJack 0xFF)) j.val (fun q =>
      { q with outMs := if (jackGet s j.val).cand = (jackGet s j.val).button then 0 else (jackGet s j.val).outMs + 1 }))
      j.val (fun q => { q with outMs := 0 })) (by simpa only [jackGet_jackMod_same, scannedJack] using hdown)
    rw [exec_buttonScan hst hclass hmode hbias hw, if_neg (fun e => hdown e.symm), if_pos hdown, if_pos (by
      rw [if_neg (by omega)]; exact hlong)]
    exact ⟨_, rfl, keeps_ite (fun t => (jackGet t j.val).button)
      ((congrArg (fun t => (jackGet t j.val).button) (if_pos rfl)).trans hup) hup⟩

end Sys2Proof
end

section
/-! PROOF. What the samples of ports and the clocks leave: the serial ports and the charts. -/

namespace Sys2Proof.Machine

/-- The serial ports and the charts of a state. -/
def WiresAt (v : SerialState × ChartState) (s : State) : Prop := (s.ser, s.cs) = v

theorem WiresAt.ite {v : SerialState × ChartState} {c : Prop} {dec : Decidable c} {s t : State} (hs : WiresAt v s)
    (ht : WiresAt v t) : WiresAt v (if c then s else t) := by
  split
  · exact hs
  · exact ht

theorem WiresAt.pairIte {v : SerialState × ChartState} {α : Type} {c : Prop} {dec : Decidable c} {x y : α × State}
    (hx : WiresAt v x.2) (hy : WiresAt v y.2) : WiresAt v (if c then x else y).2 := by
  split
  · exact hx
  · exact hy

theorem WiresAt.foldl {v : SerialState × ChartState} {s : State} {β : Type} {f : State → β → State} {l : List β}
    (inv : WiresAt v s) (h : ∀ t x, WiresAt v t → WiresAt v (f t x)) :
    WiresAt v (l.foldl f s) :=
  foldl_inv (fun t : State => WiresAt v t) f h l s inv

theorem WiresAt.foldlPair {v : SerialState × ChartState} {α β : Type} {x : α × State} {f : α × State → β → α × State} {l : List β}
    (inv : WiresAt v x.2) (h : ∀ q x, WiresAt v q.2 → WiresAt v (f q x).2) :
    WiresAt v (l.foldl f x).2 :=
  foldl_inv (fun q : α × State => WiresAt v q.2) f h l x inv

theorem WiresAt.posted {v : SerialState × ChartState} {s : State} {code inst log data : Nat} {cn : Concern}
    (inv : WiresAt v s) : WiresAt v (Machine.post code inst log data cn s) := by
  simpa [WiresAt] using inv

theorem WiresAt.drawElapsed {v : SerialState × ChartState} {s : State} (inv : WiresAt v s) :
    WiresAt v (Machine.drawElapsed s).2 :=
  inv

theorem WiresAt.drawReading {v : SerialState × ChartState} {s : State} (inv : WiresAt v s) :
    WiresAt v (Machine.drawReading s).2 :=
  inv

theorem WiresAt.sinkMod {v : SerialState × ChartState} {s : State} {k : Nat} {f : Sink → Sink}
    (inv : WiresAt v s) : WiresAt v (Machine.sinkMod s k f) :=
  inv

theorem WiresAt.pushIngress {v : SerialState × ChartState} {s : State} {a : Nat} {w : BitVec 32}
    (inv : WiresAt v s) : WiresAt v (Machine.pushIngress a w s) :=
  inv

theorem WiresAt.popSink {v : SerialState × ChartState} {s : State} {k : Nat} (inv : WiresAt v s) :
    WiresAt v (Machine.popSink k s).2 := by
  unfold Machine.popSink
  split
  · exact .sinkMod inv
  · exact inv

theorem WiresAt.domMod {v : SerialState × ChartState} {s : State} {d : Nat} {f : Domain → Domain}
    (inv : WiresAt v s) : WiresAt v (Machine.domMod s d f) :=
  inv

theorem WiresAt.convMod {v : SerialState × ChartState} {s : State} {k : Nat} {f : Convoy → Convoy}
    (inv : WiresAt v s) : WiresAt v (Machine.convMod s k f) :=
  inv

theorem WiresAt.memMod {v : SerialState × ChartState} {s : State} {k m : Nat} {f : Member → Member}
    (inv : WiresAt v s) : WiresAt v (Machine.memMod s k m f) :=
  .convMod inv

theorem WiresAt.pllMod {v : SerialState × ChartState} {s : State} {p : Nat} {f : Pll → Pll} (inv : WiresAt v s) :
    WiresAt v (Machine.pllMod s p f) :=
  .ite inv inv

theorem WiresAt.postMuted {v : SerialState × ChartState} {s : State} {k members cause log : Nat}
    (inv : WiresAt v s) : WiresAt v (Machine.postMuted k members cause log s) :=
  .ite (.posted (.convMod (.pairIte (.drawElapsed (.convMod inv)) (.convMod inv))))
    (.pairIte (.drawElapsed (.convMod inv)) (.convMod inv))

theorem WiresAt.convCount {v : SerialState × ChartState} {s : State} {k i : Nat} (inv : WiresAt v s) :
    WiresAt v (Machine.convCount k i s) :=
  .convMod inv

theorem WiresAt.muteConvoy {v : SerialState × ChartState} {s : State} {log k : Nat} (inv : WiresAt v s) :
    WiresAt v (Machine.muteConvoy log s k) :=
  .ite inv (.postMuted (.convCount (.convMod inv)))

theorem WiresAt.postPll {v : SerialState × ChartState} {s : State} {p log : Nat} (inv : WiresAt v s) :
    WiresAt v (Machine.postPll p log s) :=
  .posted inv

theorem WiresAt.setPllMode {v : SerialState × ChartState} {s : State} {p mode log : Nat} (inv : WiresAt v s) :
    WiresAt v (Machine.setPllMode p mode log s) :=
  .ite (.pllMod inv) (.ite inv (.postPll (.pllMod inv)))

theorem WiresAt.pllsFollow {v : SerialState × ChartState} {s : State} {d log : Nat} (inv : WiresAt v s) :
    WiresAt v (Machine.pllsFollow d log s) :=
  .foldl inv (fun _ _ h => .ite (.ite (.setPllMode h) (.ite (.setPllMode h) h)) h)

theorem WiresAt.leaveLocked {v : SerialState × ChartState} {s : State} {d cause log : Nat} (inv : WiresAt v s) :
    WiresAt v (Machine.leaveLocked d cause log s) :=
  .pllsFollow (.foldl (.posted inv) (fun _ _ h => .muteConvoy h))

theorem WiresAt.unlockFor {v : SerialState × ChartState} {s : State} {d cause log : Nat} (inv : WiresAt v s) :
    WiresAt v (Machine.unlockFor d cause log s) :=
  .ite inv (.ite (.leaveLocked (.domMod inv)) (.domMod inv))

theorem WiresAt.unlockDomain {v : SerialState × ChartState} {s : State} {d cause : Nat} (inv : WiresAt v s) :
    WiresAt v (Machine.unlockDomain d cause s) :=
  .unlockFor inv

theorem WiresAt.dropInvalid {v : SerialState × ChartState} {s : State} (inv : WiresAt v s) :
    WiresAt v (Machine.dropInvalid s) :=
  .foldl inv (fun _ _ h => .ite h (.unlockDomain h))

theorem WiresAt.commitRate {v : SerialState × ChartState} {s : State} {d rate log : Nat} (inv : WiresAt v s) :
    WiresAt v (Machine.commitRate d rate log s) :=
  .ite inv (.domMod inv)

theorem WiresAt.startFadeOut {v : SerialState × ChartState} {s : State} {k m : Nat} (inv : WiresAt v s) :
    WiresAt v (Machine.startFadeOut k m s) :=
  .memMod inv

theorem WiresAt.startFadeIn {v : SerialState × ChartState} {s : State} {k m : Nat} (inv : WiresAt v s) :
    WiresAt v (Machine.startFadeIn k m s) :=
  .memMod inv

theorem WiresAt.dropMember {v : SerialState × ChartState} {s : State} {k m cause : Nat} (inv : WiresAt v s) :
    WiresAt v (Machine.dropMember k m cause s) :=
  .postMuted (.foldl inv (fun _ _ h => .startFadeOut h))

theorem WiresAt.memberReady {v : SerialState × ChartState} {s : State} {k m : Nat} (inv : WiresAt v s) :
    WiresAt v (Machine.memberReady k m s) :=
  .ite (.memMod inv) (.startFadeIn inv)

theorem WiresAt.freeWords {v : SerialState × ChartState} {s : State} {n : Nat} (inv : WiresAt v s) :
    WiresAt v (Machine.freeWords n s).2 :=
  inv

theorem WiresAt.startMember {v : SerialState × ChartState} {s : State} {k m : Nat} (inv : WiresAt v s) :
    WiresAt v (Machine.startMember k m s) :=
  .ite inv (.memMod inv)

theorem WiresAt.startMembers {v : SerialState × ChartState} {s : State} {port sub : Nat} {egress : Bool}
    (inv : WiresAt v s) : WiresAt v (Machine.startMembers port sub egress s) :=
  .foldl inv (fun _ _ h => .startMember h)

theorem WiresAt.portUnderrun {v : SerialState × ChartState} {s : State} {port sub : Nat} (inv : WiresAt v s) :
    WiresAt v (Machine.portUnderrun port sub s) :=
  .foldl inv (fun _ _ h => .ite (.ite (.dropMember (.convCount h)) (.convCount h)) h)

theorem WiresAt.blockMember {v : SerialState × ChartState} {s : State} {k m : Nat} (inv : WiresAt v s) :
    WiresAt v (Machine.blockMember k m s) :=
  .postMuted (.convCount (.memMod inv))

theorem WiresAt.holdSample {v : SerialState × ChartState} {s : State} {k m index : Nat} {timed : Bool}
    {sample : List (BitVec 32)} (inv : WiresAt v s) : WiresAt v
    (Machine.holdSample k m index timed sample s) :=
  .ite (.blockMember (.memMod inv)) (.memMod inv)

theorem WiresAt.sampleArrives {v : SerialState × ChartState} {s : State} {k m index : Nat} {sample : List (BitVec 32)}
    (inv : WiresAt v s) : WiresAt v (Machine.sampleArrives k m index sample s) :=
  .ite inv (.ite (.convCount inv) (.ite (.ite (.dropMember (.convCount inv)) inv) (.ite inv (.holdSample inv))))

theorem WiresAt.earlySample {v : SerialState × ChartState} {s : State} {k m : Nat} {e : List Byte}
    {sample : List (BitVec 32)} (inv : WiresAt v s) : WiresAt v (Machine.earlySample k m e sample s) :=
  .convMod inv

theorem WiresAt.portSample {v : SerialState × ChartState} {s : State} {port sub : Nat} {sample : List (BitVec 32)}
    (inv : WiresAt v s) : WiresAt v (Machine.portSample port sub sample s) :=
  .foldl (.foldl inv (fun _ _ h => .ite h (.sampleArrives h))) (fun _ _ h => .earlySample h)

theorem WiresAt.checkRestored {v : SerialState × ChartState} {s : State} {k : Nat} (inv : WiresAt v s) :
    WiresAt v (Machine.checkRestored k s) :=
  .ite (.posted (.convMod inv)) inv

theorem WiresAt.fadeEnds {v : SerialState × ChartState} {s : State} {k m : Nat} (inv : WiresAt v s) :
    WiresAt v (Machine.fadeEnds k m s) :=
  .ite (.checkRestored (.memMod inv)) (.ite (.memMod inv) (.memMod inv))

theorem WiresAt.readSample {v : SerialState × ChartState} {s : State} {k m : Nat} (inv : WiresAt v s) :
    WiresAt v (Machine.readSample k m s) := by
  unfold Machine.readSample
  refine .memMod ?_
  split
  · exact inv
  · exact .freeWords inv

theorem WiresAt.tryAlign {v : SerialState × ChartState} {s : State} {k m : Nat} (inv : WiresAt v s) :
    WiresAt v (Machine.tryAlign k m s) :=
  .ite inv (.ite (.ite (.blockMember inv) (.ite (.memberReady inv) inv)) (.ite (.memberReady (.memMod inv)) inv))

theorem WiresAt.readNothing {v : SerialState × ChartState} {s : State} {k m : Nat} (inv : WiresAt v s) :
    WiresAt v (Machine.readNothing k m s) :=
  .memMod inv

theorem WiresAt.lockstepStart {v : SerialState × ChartState} {s : State} {k : Nat} (inv : WiresAt v s) :
    WiresAt v (Machine.lockstepStart k s) :=
  .ite (.foldl inv (fun _ _ h => .startFadeIn h)) inv

theorem WiresAt.settleIndex {v : SerialState × ChartState} {s : State} {k : Nat} (inv : WiresAt v s) :
    WiresAt v (Machine.settleIndex k s) :=
  .ite (.lockstepStart (.convMod inv)) inv

theorem WiresAt.markRead {v : SerialState × ChartState} {s : State} {k m : Nat} (inv : WiresAt v s) :
    WiresAt v (Machine.markRead k m s) :=
  .settleIndex (.convMod inv)

theorem WiresAt.takeEgress {v : SerialState × ChartState} {s : State} {k m : Nat} (inv : WiresAt v s) :
    WiresAt v (Machine.takeEgress k m s) := by
  unfold Machine.takeEgress
  extract_lets s0 s1 s2 q
  have hs0 : WiresAt v s0 := .ite (.fadeEnds inv) inv
  have hs1 : WiresAt v s1 := .ite (.memMod hs0) hs0
  have hs2 : WiresAt v s2 := .ite (.tryAlign hs1) hs1
  exact .ite (.ite (.readNothing (.postMuted (.convCount (.memMod hs2)))) (.readSample hs2))
    (.ite (.readNothing (.memMod hs2)) (.readNothing hs2))

theorem WiresAt.rampSample {v : SerialState × ChartState} {s : State} {float : Bool} {level w : BitVec 32}
    (inv : WiresAt v s) : WiresAt v (Machine.rampSample float level w s).2 :=
  .pairIte inv (.pairIte inv (.pairIte (.drawReading inv) inv))

theorem WiresAt.memberSample {v : SerialState × ChartState} {s : State} {float : Bool} {k m : Nat}
    (inv : WiresAt v s) : WiresAt v (Machine.memberSample float k m s).2 :=
  .foldlPair inv (fun _ _ h => .rampSample h)

theorem WiresAt.saiReceive {v : SerialState × ChartState} {s : State} {n : Nat} {slots : List Word}
    (inv : WiresAt v s) : WiresAt v (Machine.saiReceive n slots s) :=
  .ite inv (.ite (.ite (.foldl inv (fun _ _ h => .pushIngress h)) inv) (.portSample inv))

theorem WiresAt.saiTake {v : SerialState × ChartState} {s : State} {n : Nat} (inv : WiresAt v s) :
    WiresAt v (Machine.saiTake n s).2 := by
  unfold Machine.saiTake
  extract_lets e
  refine .pairIte inv (.pairIte (.pairIte (.foldlPair inv fun _ _ h => .popSink h) inv) ?_)
  split
  · refine .pairIte ?_ inv
    dsimp only
    exact .markRead (.memberSample (.takeEgress inv))
  · exact inv

end Sys2Proof.Machine
end

section
/-! PROOF. Serial audio and S/PDIF: frames of SAI ports, locks, losses, subframes and blocks. -/

namespace Sys2Proof.Machine

/-- A step whose condition does not hold changes nothing. -/
theorem whenever_false {cond : State → Bool} {act : State → State} {s : State} (h : cond s = false) :
    whenever cond act s = .next s := by
  unfold whenever
  rw [h]
  rfl

theorem WiresAt.ser {s t : State} (h : WiresAt (s.ser, s.cs) t) : t.ser = s.ser := congrArg Prod.fst h
theorem WiresAt.cs {s t : State} (h : WiresAt (s.ser, s.cs) t) : t.cs = s.cs := congrArg Prod.snd h

theorem saiGet_of_ser {s t : State} (h : t.ser = s.ser) (n : Nat) : saiGet t n = saiGet s n := by
  rw [saiGet, h]
  rfl

theorem saiEntry_of_cs {s t : State} (h : t.cs = s.cs) (n : Nat) : saiEntry t n = saiEntry s n := by
  unfold saiEntry entryOf
  rw [h]

theorem saiMod_wf {s : State} (w : tblWf Sai.off s.ser.sais = true) (n : Nat) (f : Sai → Sai) :
    tblWf Sai.off (saiMod s n f).ser.sais = true := tmod_wf Sai.off w n f

/-- What an operation leaves of the SAI ports, their table and their chart entries: port n becomes q, the others stay. -/
structure PortBecomes (n : Nat) (q : Sai) (s t : State) : Prop where
  wf : tblWf Sai.off t.ser.sais = true
  port : saiGet t n = q
  cs : t.cs = s.cs

theorem PortBecomes.of_mod {n : Nat} {s : State} (w : tblWf Sai.off s.ser.sais = true) (f : Sai → Sai) :
    PortBecomes n (f (saiGet s n)) s (saiMod s n f) :=
  ⟨saiMod_wf w n f, saiGet_saiMod_same w n f, rfl⟩

theorem PortBecomes.refl {n : Nat} {s : State} (w : tblWf Sai.off s.ser.sais = true) : PortBecomes n (saiGet s n) s s :=
  ⟨w, rfl, rfl⟩

theorem PortBecomes.wires {n : Nat} {q : Sai} {s t u : State} (h : PortBecomes n q s t) (k : WiresAt (t.ser, t.cs) u) :
    PortBecomes n q s u :=
  ⟨by rw [k.ser]; exact h.wf, by rw [saiGet_of_ser k.ser]; exact h.port, k.cs.trans h.cs⟩

theorem PortBecomes.mod {n : Nat} {q : Sai} {s t : State} (h : PortBecomes n q s t) (f : Sai → Sai) :
    PortBecomes n (f q) s (saiMod t n f) :=
  ⟨saiMod_wf h.wf n f, by rw [saiGet_saiMod_same h.wf, h.port], h.cs⟩

theorem PortBecomes.posted {n : Nat} {q : Sai} {s t : State} (h : PortBecomes n q s t) (code inst log data : Nat) (cn : Concern) :
    PortBecomes n q s (post code inst log data cn t) :=
  h.wires (.posted rfl)

/-- A frame-start edge takes the masks that are due and fixes the words of the frame (R229, R231). -/
theorem PortBecomes.edge {n : Nat} {q : Sai} {s t : State} (h : PortBecomes n q s t) :
    ∃ sent, sent.length = saiSlots (saiEntry s n) ∧ PortBecomes n { takeMasks q with sent := sent } s (saiEdge n t) := by
  have htake : PortBecomes n (takeMasks q) s (saiTake n (saiMod t n takeMasks)).2 :=
    (h.mod takeMasks).wires (.saiTake rfl)
  refine ⟨saiSlotsOut (saiEntry s n) (takeMasks q).txMask (saiTake n (saiMod t n takeMasks)).1, by simp [saiSlotsOut], ?_⟩
  rw [← saiEntry_of_cs h.cs n]
  exact htake.mod (fun q => { q with sent := saiSlotsOut (saiEntry t n) q.txMask (saiTake n (saiMod t n takeMasks)).1 })

theorem PortBecomes.runs {n : Nat} {q : Sai} {s t : State} (h : PortBecomes n q s t) :
    PortBecomes n { q with st := 2, resync := false } s (saiRuns n t) :=
  (h.mod (fun q => { q with st := 2, resync := false })).wires (.startMembers (.startMembers rfl))

theorem PortBecomes.receive {n : Nat} {q : Sai} {s t : State} (h : PortBecomes n q s t) (slots : List Word) :
    PortBecomes n q s (saiReceive n slots t) := h.wires (.saiReceive rfl)

/-- A wrong number of BCLK cycles is counted, and folded into the event of the second (R233). -/
theorem PortBecomes.syncError {n : Nat} {q : Sai} {s t : State} (h : PortBecomes n q s t) :
    ∃ fold posted, PortBecomes n { q with counts := countAll 2 0 q.counts, errFold := fold, errPosted := posted } s
      (Machine.syncError n t) := by
  have hcount := h.mod (fun q => { q with counts := countAll 2 0 q.counts, errFold := min (q.errFold + 1) 0xFFFFFFFF })
  unfold Machine.syncError
  extract_lets t1 d
  have hd : PortBecomes n { q with counts := countAll 2 0 q.counts, errFold := min (q.errFold + 1) 0xFFFFFFFF } s d.2 :=
    hcount.wires (show WiresAt _ (if _ then _ else _ : Bool × State).2 from .pairIte (.drawElapsed rfl) rfl)
  split
  · exact ⟨_, _, (hd.mod (fun q => { q with errFold := 0, errPosted := true })).posted _ _ _ _ _⟩
  · exact ⟨_, _, hd⟩

/-- A frame-start edge of a port that runs, starts after its tick or has lost its clock (R229 to R234). -/
theorem exec_saiFrameStart {n : Fin 6} {b : Nat} {ws : List Word} {s : State} (halive : serialAlive s = true)
    (hst : (saiGet s n.val).st ≠ 0)
    (hready : (saiGet s n.val).st ≠ 1 ∨ saiFd (saiEntry s n.val) = false ∨ (saiGet s n.val).ticked = true) :
    exec (.saiFrameStart n b ws) s = .next (saiEdge n.val (
      if (saiGet s n.val).st = 1 then saiRuns n.val s
      else if (saiGet s n.val).st = 3 then
        if !(saiGet s n.val).resync then saiMod s n.val (fun q => { q with resync := true })
        else if frameWhole (saiEntry s n.val) b then saiReturn n.val ws s
        else syncError n.val s
      else if frameWhole (saiEntry s n.val) b then saiReceive n.val ws s
      else syncError n.val s)) := by
  refine show execSaiFrameStart n b ws s = _ from whenever_true ?_
  simp only [halive, Bool.true_and, Bool.and_eq_true, bne_iff_ne, Bool.or_eq_true, Bool.not_eq_true', ne_eq]
  exact ⟨hst, or_assoc.mpr hready⟩

theorem frameWhole_iff {e : List Byte} {b : Nat} : frameWhole e b = true ↔ saiController e = true ∨ b = saiSlots e * u8 e 3 := by
  simp [frameWhole]

/-- A port that runs receives the frame that ends, where it is whole. -/
theorem exec_saiFrame_whole {n : Fin 6} {b : Nat} {ws : List Word} {s : State} (halive : serialAlive s = true)
    (hst : (saiGet s n.val).st = 2)
    (hwhole : saiController (saiEntry s n.val) = true ∨ b = saiSlots (saiEntry s n.val) * u8 (saiEntry s n.val) 3) :
    exec (.saiFrameStart n b ws) s = .next (saiEdge n.val (saiReceive n.val ws s)) := by
  rw [exec_saiFrameStart halive (by omega) (.inl (by omega)), if_neg (by omega), if_neg (by omega),
    if_pos (frameWhole_iff.mpr hwhole)]

theorem saiTake_doze {n : Nat} {s : State} (h : s.pwr.dev = .doze) : saiTake n s = ([], s) := if_pos h
theorem saiReceive_doze {n : Nat} {ws : List Word} {s : State} (h : s.pwr.dev = .doze) : saiReceive n ws s = s := if_pos h

theorem saiEdge_doze {n : Nat} {s : State} (h : s.pwr.dev = .doze) :
    saiEdge n s = saiMod (saiMod s n takeMasks) n (fun q => { q with sent := saiSlotsOut (saiEntry s n) q.txMask [] }) := by
  unfold saiEdge
  rw [saiTake_doze (s := saiMod s n takeMasks) h]

/-! ## The S/PDIF receiver -/

/-- The bits of the block in progress, by channel. -/
def blockBits (s : State) : List Bool × List Bool × List Bool × List Bool :=
  (s.ser.spdif.cA, s.ser.spdif.cB, s.ser.spdif.uA, s.ser.spdif.uB)

theorem blockBits_of_ser {s t : State} (h : t.ser = s.ser) : blockBits t = blockBits s := by rw [blockBits, h]; rfl

theorem post_ser (code inst log data : Nat) (cn : Concern) (s : State) : (post code inst log data cn s).ser = s.ser := by simp

theorem chanMod_bits (s : State) (ch : Nat) (f : SpdifChan → SpdifChan) : blockBits (chanMod s ch f) = blockBits s := by
  unfold chanMod blockBits
  dsimp only [spdifMod_spdif]
  split <;> rfl

theorem enterNonPcm_bits (cause : Nat) (s : State) : blockBits (enterNonPcm cause s) = blockBits s :=
  keeps_ite blockBits rfl ((blockBits_of_ser (post_ser _ _ _ _ _ _)).trans rfl)

theorem passHeld_bits (ch : Nat) (s : State) : blockBits (passHeld ch s) = blockBits s := by
  unfold passHeld
  split
  case h_1 => rfl
  case h_2 =>
    have hpass {u : State} (f : SpdifChan → SpdifChan) (h : blockBits u = blockBits s) :
        blockBits (chanMod u ch f) = blockBits s := (chanMod_bits u ch f).trans h
    refine keeps_ite blockBits (hpass _ (keeps_ite blockBits rfl rfl)) ?_
    exact (blockBits_of_ser (WiresAt.portSample rfl).ser).trans (hpass _ (keeps_ite blockBits rfl rfl))

theorem watchSync_bits (audio : BitVec 24) (s : State) : blockBits (watchSync audio s) = blockBits s := by
  unfold watchSync
  exact keeps_ite blockBits ((enterNonPcm_bits 2 _).trans rfl) rfl

theorem chanGet_chanMod (s : State) (ch : Nat) (f : SpdifChan → SpdifChan) : chanGet (chanMod s ch f) ch = f (chanGet s ch) := by
  unfold chanGet chanMod
  dsimp only [spdifMod_spdif]
  split <;> rfl

/-- A subframe is passed on, watched and held; the bits of its block are those taken before. -/
theorem subframe_bits (ch : Nat) (audio : BitVec 24) (h : Option (BitVec 24 × Bool × Bool))
    (d : Option (BitVec 24 × Bool × Bool × Bool)) (s : State) :
    blockBits (chanMod (watchSync audio (passHeld ch
      (if s.ser.spdif.copying then spdifMod s (fun q => { q with direct := d }) else s))) ch (fun q => { q with held := h }))
      = blockBits s :=
  (chanMod_bits _ _ _).trans ((watchSync_bits _ _).trans ((passHeld_bits _ _).trans (keeps_ite blockBits rfl rfl)))

/-- What a loss of lock leaves of the receiver (R236). -/
def Lost (cause : Nat) (q : Spdif) : Prop :=
  q.rxState = (if cause = 1 then 0 else 1) ∧ q.rxRate = 0xFF ∧ q.lossCause = cause ∧ q.copying = false ∧ q.cA = [] ∧ q.cB = []

theorem spdifLose_lost (cause : Nat) (s : State) : Lost cause (spdifLose cause s).ser.spdif := by
  unfold spdifLose
  extract_lets s1 s2
  have hser : (portUnderrun 9 0 (dropInvalid (postSpdif 0x0603 (256 * 0xFF + 65536 * cause) s2))).ser = s2.ser :=
    (WiresAt.portUnderrun (.dropInvalid (.posted rfl))).ser
  rw [hser]
  exact inv_ite (P := fun t : State => Lost cause t.ser.spdif) ⟨rfl, rfl, rfl, rfl, rfl, rfl⟩ ⟨rfl, rfl, rfl, rfl, rfl, rfl⟩

theorem lockStarted_ser (data : Nat) (s : State) : (postSpdif 0x0603 data (startMembers 9 0 false s)).ser = s.ser :=
  (post_ser _ _ _ _ _ _).trans (WiresAt.startMembers rfl).ser

/-! ## Blocks -/

/-- The block stored last, and how many have been. -/
def storedBlock (s : State) : List Byte × List Byte × List Byte × List Byte × Nat :=
  (s.ser.spdif.storedCA, s.ser.spdif.storedCB, s.ser.spdif.storedUA, s.ser.spdif.storedUB, s.ser.spdif.stored)

theorem storedBlock_of_ser {s t : State} (h : t.ser = s.ser) : storedBlock t = storedBlock s := by
  rw [storedBlock, h]
  rfl

/-- All but the serial ports and the host part. -/
def restSer (s : State) : State :=
  { s with host := State.reset.host, tw0 := State.reset.tw0, tw1 := State.reset.tw1, free := State.reset.free
           ser := State.reset.ser }

theorem OnlyHost.of_restSer {s t : State} (h : restSer t = restSer s) : OnlyHost { s with ser := t.ser } t := by
  simp only [restSer, State.mk.injEq] at h
  rw [onlyHost_iff]
  simp only [h, and_self]

theorem restSer_of_rest {s t : State} (h : rest t = rest s) : restSer t = restSer s := by
  rw [rest_eq h]
  rfl

theorem post_restSer (code inst log data : Nat) (cn : Concern) (s : State) :
    restSer (post code inst log data cn s) = restSer s := restSer_of_rest (postSel_rest _ _ _ _ _ _ _)

theorem enterNonPcm_block (cause : Nat) (s : State) :
    storedBlock (enterNonPcm cause s) = storedBlock s ∧ restSer (enterNonPcm cause s) = restSer s :=
  ⟨keeps_ite storedBlock rfl ((storedBlock_of_ser (post_ser _ _ _ _ _ _)).trans rfl),
    keeps_ite restSer rfl ((post_restSer _ _ _ _ _ _).trans rfl)⟩

/-- A good block is stored (R240). -/
theorem storeBlock_spec (s : State) :
    storedBlock (storeBlock s) = (blockBytes s.ser.spdif.cA, blockBytes s.ser.spdif.cB, blockBytes s.ser.spdif.uA,
      blockBytes s.ser.spdif.uB, (s.ser.spdif.stored + 1) % 2 ^ 32) ∧ restSer (storeBlock s) = restSer s := by
  unfold storeBlock
  extract_lets q a t d t1 t2
  have hd : storedBlock d.2 = storedBlock t ∧ restSer d.2 = restSer s :=
    ⟨keeps_ite (fun x : Bool × State => storedBlock x.2) rfl rfl, keeps_ite (fun x : Bool × State => restSer x.2) rfl rfl⟩
  have h1 : storedBlock t1 = storedBlock t ∧ restSer t1 = restSer s :=
    ⟨keeps_ite storedBlock rfl (keeps_ite storedBlock ((storedBlock_of_ser (post_ser _ _ _ _ _ _)).trans hd.1) hd.1),
      keeps_ite restSer rfl (keeps_ite restSer ((post_restSer _ _ _ _ _ _).trans hd.2) hd.2)⟩
  have h2 : storedBlock t2 = storedBlock t ∧ restSer t2 = restSer s :=
    ⟨keeps_ite storedBlock ((enterNonPcm_block 1 t1).1.trans h1.1) h1.1,
      keeps_ite restSer ((enterNonPcm_block 1 t1).2.trans h1.2) h1.2⟩
  exact ⟨keeps_ite storedBlock h2.1 h2.1, keeps_ite restSer h2.2 h2.2⟩

theorem execSpdifBlockEnd_eq {clean : Bool} {s : State} (halive : serialAlive s = true) (hport : portEnabled s 9 = true)
    (hlock : s.ser.spdif.rxState = 2) {t : State}
    (ht : (if clean && !s.ser.spdif.blockBad && s.ser.spdif.cA.length == 192 && s.ser.spdif.cB.length == 192 then storeBlock s
      else spdifCount 4 s) = t) :
    exec (.spdifBlockEnd clean) s = .next (spdifMod t (fun q =>
      { q with cA := [], cB := [], uA := [], uB := [], blockBad := false, biphase := 0, copying := txDirect t
               frame := if txDirect t then none else q.frame })) := by
  subst ht
  exact show execSpdifBlockEnd clean s = _ from whenever_true (by simp [halive, hport, hlock])

end Sys2Proof.Machine

namespace Sys2Proof
open Sys2Proof.Machine

/-- Settles O47: the serial ports and S/PDIF answer what they hold, take masks at frame starts, and lock, lose and store. -/
theorem serialCommandsAndStepsTakeEffect : Obligations.SerialCommandsAndStepsTakeEffect := by
  refine ⟨fun o p s => ⟨?status, ?mask, ?rxStatus, ?csRead, ?userRead, ?csWrite, ?userWrite, ?validity⟩,
    fun s => ⟨?early, ?late, ?starts, ?untimed, ?frame, ?broken, ?dozing, ?returns, ?lost, ?back, ?locks, ?loses, ?auto,
      ?subframe, ?biphase, ?stores, ?discards, ?pcm, ?sends, ?sendsAuto⟩⟩
  case status => exact fun h => ⟨_, hostCommand_accepted h (saiStatusDo o p)⟩
  case mask => exact fun h => hostCommand_accepted h (saiSlotMaskDo p)
  case rxStatus => exact fun h => ⟨_, hostCommand_accepted h (spdifRxStatusDo o p)⟩
  case csRead => exact fun h => hostCommand_accepted h (reads (spdifCsReadResult p))
  case userRead => exact fun h => hostCommand_accepted h (reads (spdifUserReadResult p))
  case csWrite => exact fun h => hostCommand_accepted h (spdifCsWriteDo p)
  case userWrite => exact fun h => hostCommand_accepted h (spdifUserWriteDo p)
  case validity => exact fun h => hostCommand_accepted h (spdifValiditySetDo p)
  case early =>
    exact fun n h => show execSaiMaskTransfer n true s = _ from whenever_true (Option.isSome_iff_ne_none.mpr h)
  case late =>
    exact fun n h => show execSaiMaskTransfer n false s = _ from whenever_true (Option.isSome_iff_ne_none.mpr h)
  case starts =>
    intro n b ws halive hst w hready
    rw [exec_saiFrameStart halive (by omega) (.inr hready), if_pos hst]
    have hruns := (PortBecomes.refl w).runs (n := n.val)
    obtain ⟨sent, hlen, hedge⟩ := hruns.edge
    exact ⟨_, sent, rfl, hlen, hedge.port⟩
  case untimed =>
    intro n b ws hst hfd htick
    refine show execSaiFrameStart n b ws s = _ from whenever_false ?_
    simp [hst, hfd, htick]
  case frame =>
    intro n b ws halive hst w hwhole
    rw [exec_saiFrame_whole halive hst hwhole]
    obtain ⟨sent, hlen, hedge⟩ := ((PortBecomes.refl (n := n.val) w).receive ws).edge
    exact ⟨_, sent, rfl, hlen, hedge.port⟩
  case broken =>
    intro n b ws halive hst hctl hb w
    have hbad : frameWhole (saiEntry s n.val) b ≠ true := by
      rw [Ne, frameWhole_iff]
      simp [hctl, hb]
    rw [exec_saiFrameStart halive (by omega) (.inl (by omega)), if_neg (by omega), if_neg (by omega), if_neg hbad]
    obtain ⟨fold, posted, herr⟩ := (PortBecomes.refl (n := n.val) w).syncError
    obtain ⟨sent, -, hedge⟩ := herr.edge
    exact ⟨_, rfl, by rw [hedge.port]; exact hst, by rw [hedge.port]; rfl⟩
  case dozing =>
    intro n b ws halive hdoze hst hwhole
    rw [exec_saiFrame_whole halive hst hwhole, saiReceive_doze hdoze, saiEdge_doze hdoze]
  case returns =>
    intro n b ws halive hst w hresync
    rw [exec_saiFrameStart halive (by omega) (.inl (by omega)), if_neg (by omega), if_pos hst, if_pos (by simp [hresync])]
    obtain ⟨sent, -, hedge⟩ := (PortBecomes.of_mod (n := n.val) w (fun q => { q with resync := true })).edge
    exact ⟨_, rfl, by rw [hedge.port]; exact hst, by rw [hedge.port]; rfl⟩
  case lost =>
    exact fun n halive hst hctl => show execSaiClockLoss n s = _ from whenever_true (by
      simp only [List.mem_cons, List.not_mem_nil, or_false] at hst
      rcases hst with h | h <;> simp [halive, h, hctl])
  case back =>
    intro n ws halive hst w
    have hclock : ∃ q, q.counts = (saiGet s n.val).counts
        ∧ PortBecomes n.val q s (if (saiGet s n.val).resync then s else saiEdge n.val s) := by
      obtain ⟨sent, -, hedge⟩ := (PortBecomes.refl (n := n.val) w).edge
      split
      · exact ⟨saiGet s n.val, rfl, .refl w⟩
      · exact ⟨{ takeMasks (saiGet s n.val) with sent := sent }, rfl, hedge⟩
    obtain ⟨q, hcounts, hq⟩ := hclock
    obtain ⟨sent, hlen, hedge⟩ := ((hq.runs.receive ws).posted 0x0602 n.val 0 0 (.res [saiResource n.val])).edge
    refine ⟨_, show execSaiClockReturn n ws s = _ from whenever_true (by simp [halive, hst]), ?_⟩
    have hport := hedge.port
    refine ⟨(congrArg Sai.st hport).trans rfl, (congrArg Sai.resync hport).trans rfl, (congrArg Sai.counts hport).trans hcounts,
      (congrArg (fun q => q.sent.length) hport).trans hlen⟩
  case locks =>
    intro r halive hport hlock
    have hstarted := lockStarted_ser (1 + 256 * (5 + r.val)) (spdifMod s (fun q =>
      { q with rxState := 2, rxRate := 5 + r.val, biphase := 0, autoDue := rateAsked s (5 + r.val), lastRate := some (5 + r.val)
               stored := 0, cA := [], cB := [], uA := [], uB := [], blockBad := false
               chanA := { q.chanA with held := none }, chanB := { q.chanB with held := none }, sawPa := false }))
    refine ⟨_, show execSpdifLockAcquire r s = _ from whenever_true (by simp [halive, hport, hlock]), ?_⟩
    dsimp only
    rw [hstarted]
    exact ⟨rfl, rfl, rfl, rfl⟩
  case loses =>
    intro c halive hport hlock hc
    obtain ⟨h1, h2, h3, h4, -⟩ := spdifLose_lost (1 + c.val) (if c = 2 then biphaseError s else s)
    refine ⟨_, show execSpdifLockLoss c s = _ from whenever_true (by simpa [halive, hport, hlock] using hc), ?_, h2,
      h3.trans (Nat.add_comm _ _), h4⟩
    rw [h1]
    refine if_congr ?_ rfl rfl
    omega
  case auto =>
    intro halive hcp hport hlock hdue hasked
    refine (show execSpdifAutoRate s = _ from whenever_true (by simp [hcp, autoRateDue, halive, hport, hlock, hdue, hasked])).trans
      (congrArg _ (if_neg ?_))
    simp only [rateAsked, Bool.and_eq_true, bne_iff_ne] at hasked
    exact hasked.2
  case subframe =>
    intro ch a v u c halive hport hlock hgood
    refine ⟨_, (show execSpdifSubframe ch a v u c true true s = _ from whenever_true (by simp [halive, hport, hlock])).trans
      (congrArg _ (if_neg (by simpa using hgood))), chanGet_chanMod _ _ _ ▸ rfl, ?_, ?_⟩
    · rintro rfl
      have hbits := subframe_bits 0 a (some (a, v, true)) (some (a, v, u, c)) (spdifMod s (fun q =>
        { q with cA := q.cA ++ [c], uA := q.uA ++ [u], framesSincePa := q.framesSincePa + 1 }))
      simp only [blockBits, Prod.mk.injEq] at hbits
      exact ⟨hbits.1, hbits.2.2.1, hbits.2.1, hbits.2.2.2⟩
    · rintro rfl
      have hbits := subframe_bits 1 a (some (a, v, true)) (some (a, v, u, c)) (spdifMod s (fun q =>
        { q with cB := q.cB ++ [c], uB := q.uB ++ [u] }))
      simp only [blockBits, Prod.mk.injEq] at hbits
      exact ⟨hbits.2.1, hbits.2.2.2, hbits.1, hbits.2.2.1⟩
  case biphase =>
    intro ch a v u c par halive hport hlock hlast
    obtain ⟨h1, h2, h3, -, h5, h6⟩ := spdifLose_lost 3 (biphaseError (if par then s else spdifCount 0 s))
    have hfour : 4 ≤ (biphaseError (if par then s else spdifCount 0 s)).ser.spdif.biphase := by
      have hkeep : (if par then s else spdifCount 0 s).ser.spdif.biphase = 3 :=
        keeps_ite (fun t : State => t.ser.spdif.biphase) hlast hlast
      exact (Nat.le_of_eq (congrArg (· + 1) hkeep).symm)
    exact ⟨_, (show execSpdifSubframe ch a v u c par false s = _ from whenever_true (by simp [halive, hport, hlock])).trans
      (congrArg _ (if_pos hfour)), h1, h3, h2, h5, h6⟩
  case stores =>
    intro halive hport hlock hgood hA hB
    obtain ⟨hblock, hrest⟩ := storeBlock_spec s
    simp only [storedBlock, Prod.mk.injEq] at hblock
    obtain ⟨h1, h2, h3, h4, h5⟩ := hblock
    exact ⟨_, execSpdifBlockEnd_eq halive hport hlock (if_pos (by simp [hgood, hA, hB])), h1, h2, h3, h4, h5, rfl, rfl, rfl, rfl,
      .of_restSer hrest⟩
  case discards =>
    exact fun halive hport hlock => execSpdifBlockEnd_eq halive hport hlock (if_neg (by simp))
  case pcm =>
    exact fun hnon hlong hbit => show execSpdifNonpcmExit s = _ from whenever_true (by simp [hnon, hlong, hbit])
  case sends =>
    intro halive hport hcopy hbit
    refine (show execSpdifTxBlockStart s = _ from whenever_true (by simp [halive, hport, hcopy])).trans ?_
    simp only [hbit, Bool.false_eq_true, if_false]
  case sendsAuto =>
    intro halive hport hcopy hbit
    refine ⟨if txDirect s then codeHz (s.ser.spdif.lastRate.getD 7) else codeHz (domGet s (u8 (txEntry s) 2)).rate,
      (show execSpdifTxBlockStart s = _ from whenever_true (by simp [halive, hport, hcopy])).trans ?_⟩
    simp only [hbit, if_true]

end Sys2Proof
end

section
/-! PROOF. USB: the commands of group 0x07. -/

namespace Sys2Proof.Machine

theorem usbMod_congr {s : State} {p : Nat} {f g : Usb → Usb} (h : f (usbGet s p) = g (usbGet s p)) :
    usbMod s p f = usbMod s p g := by
  unfold usbMod
  unfold usbGet at h
  split
  case isTrue hp => rw [if_pos hp] at h; rw [h]
  case isFalse hp => rw [if_neg hp] at h; rw [h]

/-- An accepted USB_REMOTE_WAKE finds its port suspended, with remote wake enabled. -/
theorem usbRemoteWake_accepted {o : Issue} {p : List Byte} {s : State} (h : Accepted 0x0704 o p (usbRemoteWakeCheck o p) s) :
    (usbGet s (u8 p 0)).st = 3 ∧ (usbGet s (u8 p 0)).wakeEnabled = true := by
  have hwrong := firstRefusal_eq_none h.2.2 (!portEnabled s (u8 p 0) || ((usbGet s (u8 p 0)).st != 3
    || !(usbGet s (u8 p 0)).wakeEnabled), stWrongState) (List.mem_cons_of_mem _ (List.mem_cons_of_mem _ List.mem_cons_self))
  simp only [Bool.or_eq_false_iff, Bool.not_eq_false', bne_eq_false_iff_eq] at hwrong
  exact hwrong.2

theorem usbHidSendDo_held {p : List Byte} {log : Nat} {s : State} (h : u8 p 2 < 2) :
    usbHidSendDo p log s = ok (hidBit (u8 p 0) (u8 p 1) (u8 p 2 == 1) s) := by
  have hval : u8 p 2 = 0 ∨ u8 p 2 = 1 := by omega
  unfold usbHidSendDo
  rcases hval with h0 | h1
  · simp only [h0]
    rfl
  · simp only [h1]
    rfl

theorem usbHidSendDo_pulse {p : List Byte} {log : Nat} {s : State} (h : u8 p 2 = 2) :
    usbHidSendDo p log s = ok (hidBit (u8 p 0) (u8 p 1) false (hidBit (u8 p 0) (u8 p 1) true s)) := by
  unfold usbHidSendDo
  simp only [h]

theorem usbStreamStatusResult_some {p : List Byte} {s : State} {r : List Byte}
    (h : usbRecord s (u8 p 0) (u8 p 1) (usbAlt s (u8 p 0) (u8 p 1)) = some r) :
    usbStreamStatusResult p s = b1 (usbAlt s (u8 p 0) (u8 p 1)) ++ b1 (u8 r 3) ++ b1 (u8 r 4) ++ b1 (u8 r 5) ++ b1 (u8 r 6)
      ++ b1 (memGet s (u8 r 6) (u8 r 7)).st ++ [0, 0] ++ b4 (openValue s 0) := by
  unfold usbStreamStatusResult
  simp only [h]
  rfl

theorem usbStreamStatusResult_none {p : List Byte} {s : State}
    (h : usbRecord s (u8 p 0) (u8 p 1) (usbAlt s (u8 p 0) (u8 p 1)) = none) :
    usbStreamStatusResult p s
      = b1 (usbAlt s (u8 p 0) (u8 p 1)) ++ [0, 0, 0xFF] ++ b1 (openValue s 1) ++ [0, 0, 0, 0, 0, 0, 0] := by
  unfold usbStreamStatusResult
  simp only [h]
  simp [zeros, b1, b4]
  rfl

end Sys2Proof.Machine

namespace Sys2Proof
open Sys2Proof.Machine

/-- Settles O48: USB ports answer what they are, and connection, HID bits and remote wake take effect. -/
theorem usbCommandsTakeEffect : Obligations.UsbCommandsTakeEffect := by
  intro o p s
  refine ⟨?status, ?connect, ?hid, ?pulse, ?wake, ?carried, ?idle⟩
  case status => exact fun h => hostCommand_accepted h (usbStatusDo o p)
  case connect => exact fun h => hostCommand_accepted h (usbConnectDo p)
  case hid =>
    intro h h2
    exact hostCommand_does (act := usbHidSendDo p) h (usbHidSendDo_held h2)
  case pulse => exact fun h h2 => hostCommand_does (act := usbHidSendDo p) h (usbHidSendDo_pulse h2)
  case wake =>
    intro h
    exact hostCommand_does (act := usbRemoteWakeDo p) h (congrArg ok (usbMod_congr (s := takeLog s)
      (g := fun u => { u with wakeDue := true }) (if_pos (usbRemoteWake_accepted h))))
  case carried =>
    intro r h hrec
    refine ⟨openValue (takeLog s) 0, (hostCommand_accepted h (reads (usbStreamStatusResult p))).trans ?_⟩
    rw [reads, usbStreamStatusResult_some (s := takeLog s) hrec]
    rfl
  case idle =>
    intro h hrec
    refine ⟨openValue (takeLog s) 1, (hostCommand_accepted h (reads (usbStreamStatusResult p))).trans ?_⟩
    rw [reads, usbStreamStatusResult_none (s := takeLog s) hrec]
    rfl

end Sys2Proof
end

section
/-! PROOF. What operations of other parts leave of the USB ports. -/

namespace Sys2Proof.Machine

/-- The USB ports of a state. -/
def UsbPortsAt (v : Usb × Usb) (s : State) : Prop := (s.usbA, s.usbB) = v

theorem UsbPortsAt.ite {v : Usb × Usb} {c : Prop} {dec : Decidable c} {s t : State} (hs : UsbPortsAt v s)
    (ht : UsbPortsAt v t) : UsbPortsAt v (if c then s else t) := by
  split
  · exact hs
  · exact ht

theorem UsbPortsAt.foldl {v : Usb × Usb} {s : State} {β : Type} {f : State → β → State} {l : List β}
    (inv : UsbPortsAt v s) (h : ∀ t x, UsbPortsAt v t → UsbPortsAt v (f t x)) :
    UsbPortsAt v (l.foldl f s) :=
  foldl_inv (fun t : State => UsbPortsAt v t) f h l s inv

theorem UsbPortsAt.convMod {v : Usb × Usb} {s : State} {k : Nat} {f : Convoy → Convoy} (inv : UsbPortsAt v s)
    : UsbPortsAt v (Machine.convMod s k f) :=
  inv

theorem UsbPortsAt.memMod {v : Usb × Usb} {s : State} {k m : Nat} {f : Member → Member} (inv : UsbPortsAt v s)
    : UsbPortsAt v (Machine.memMod s k m f) :=
  .convMod inv

theorem UsbPortsAt.startMember {v : Usb × Usb} {s : State} {k m : Nat} (inv : UsbPortsAt v s) :
    UsbPortsAt v (Machine.startMember k m s) :=
  .ite inv (.memMod inv)

theorem UsbPortsAt.startMembers {v : Usb × Usb} {s : State} {port sub : Nat} {egress : Bool}
    (inv : UsbPortsAt v s) : UsbPortsAt v (Machine.startMembers port sub egress s) :=
  .foldl inv (fun _ _ h => .startMember h)

/-- The USB ports of a state but for their streams. -/
def UsbCoreAt (v : Usb × Usb) (s : State) : Prop := ({ s.usbA with streams := [] }, { s.usbB with streams := [] }) = v

theorem UsbCoreAt.ite {v : Usb × Usb} {c : Prop} {dec : Decidable c} {s t : State} (hs : UsbCoreAt v s)
    (ht : UsbCoreAt v t) : UsbCoreAt v (if c then s else t) := by
  split
  · exact hs
  · exact ht

theorem UsbCoreAt.pairIte {v : Usb × Usb} {α : Type} {c : Prop} {dec : Decidable c} {x y : α × State}
    (hx : UsbCoreAt v x.2) (hy : UsbCoreAt v y.2) : UsbCoreAt v (if c then x else y).2 := by
  split
  · exact hx
  · exact hy

theorem UsbCoreAt.foldl {v : Usb × Usb} {s : State} {β : Type} {f : State → β → State} {l : List β}
    (inv : UsbCoreAt v s) (h : ∀ t x, UsbCoreAt v t → UsbCoreAt v (f t x)) :
    UsbCoreAt v (l.foldl f s) :=
  foldl_inv (fun t : State => UsbCoreAt v t) f h l s inv

theorem UsbCoreAt.posted {v : Usb × Usb} {s : State} {code inst log data : Nat} {cn : Concern}
    (inv : UsbCoreAt v s) : UsbCoreAt v (Machine.post code inst log data cn s) := by
  simpa [UsbCoreAt] using inv

theorem UsbCoreAt.completedAll {v : Usb × Usb} {s : State} {xs : List Waiter} {st : Nat}
    (inv : UsbCoreAt v s) : UsbCoreAt v (Machine.completeAll xs st s) := by
  simpa [UsbCoreAt] using inv

theorem UsbCoreAt.slotMod {v : Usb × Usb} {s : State} {k : Nat} {f : Slot → Slot} (inv : UsbCoreAt v s) :
    UsbCoreAt v (Machine.slotMod s k f) :=
  inv

theorem UsbCoreAt.commitSlot {v : Usb × Usb} {s : State} {k : Nat} {target : Word} {ms log : Nat}
    (inv : UsbCoreAt v s) : UsbCoreAt v (Machine.commitSlot k target ms log s) :=
  .slotMod inv

theorem UsbCoreAt.usbStreamMod {v : Usb × Usb} {s : State} {p i : Nat} {f : UsbStream → UsbStream} (inv : UsbCoreAt v s) :
    UsbCoreAt v (Machine.usbStreamMod s p i f) :=
  .ite inv inv

theorem UsbCoreAt.usbDiscard {v : Usb × Usb} {s : State} {n : Nat} (inv : UsbCoreAt v s) :
    UsbCoreAt v (Machine.usbDiscard n s) :=
  .foldl inv (fun _ _ h => .foldl h (fun _ _ h => .ite (.usbStreamMod h) h))

theorem UsbCoreAt.outMod {v : Usb × Usb} {s : State} {o : Nat} {f : Output → Output} (inv : UsbCoreAt v s) :
    UsbCoreAt v (Machine.outMod s o f) :=
  inv

theorem UsbCoreAt.askRamp {v : Usb × Usb} {s : State} {o : Nat} {up : Bool} {tenths after cause log : Nat}
    (inv : UsbCoreAt v s) : UsbCoreAt v (Machine.askRamp o up tenths after cause log s) :=
  .outMod inv

theorem UsbCoreAt.netMod {v : Usb × Usb} {s : State} {f : NetState → NetState} (inv : UsbCoreAt v s) :
    UsbCoreAt v (Machine.netMod s f) :=
  inv

theorem UsbCoreAt.streamMod {v : Usb × Usb} {s : State} {n : Nat} {f : Machine.Stream → Machine.Stream}
    (inv : UsbCoreAt v s) : UsbCoreAt v (Machine.streamMod s n f) :=
  .netMod inv

theorem UsbCoreAt.streamsRefused {v : Usb × Usb} {s : State} {ov status log : Nat} (inv : UsbCoreAt v s) :
    UsbCoreAt v (Machine.streamsRefused ov status log s) :=
  .foldl inv (fun _ _ h => .ite (.completedAll (.posted (.streamMod h))) h)

theorem UsbCoreAt.ovMod {v : Usb × Usb} {s : State} {n : Nat} {f : Overlay → Overlay} (inv : UsbCoreAt v s) :
    UsbCoreAt v (Machine.ovMod s n f) :=
  inv

theorem UsbCoreAt.ovChanged {v : Usb × Usb} {s : State} {n st : Nat} {c : OvCause} (inv : UsbCoreAt v s) :
    UsbCoreAt v (Machine.ovChanged n st c s) :=
  .posted inv

theorem UsbCoreAt.enterOv {v : Usb × Usb} {s : State} {n st : Nat} (inv : UsbCoreAt v s) :
    UsbCoreAt v (Machine.enterOv n st s) :=
  .ovChanged (.ovMod inv)

theorem UsbCoreAt.gateTo {v : Usb × Usb} {s : State} {n : Nat} {up cut : Bool} {ramp : Nat}
    (inv : UsbCoreAt v s) : UsbCoreAt v (Machine.gateTo n up cut ramp s) := by
  unfold Machine.gateTo
  split
  · exact .commitSlot inv
  · exact inv

theorem UsbCoreAt.rampMod {v : Usb × Usb} {s : State} {k : Nat} {f : RouteRamp → RouteRamp}
    (inv : UsbCoreAt v s) : UsbCoreAt v (Machine.rampMod s k f) :=
  inv

theorem UsbCoreAt.askRoutes {v : Usb × Usb} {s : State} {up : Bool} {ks : List Nat} (inv : UsbCoreAt v s) :
    UsbCoreAt v (Machine.askRoutes up ks s) :=
  .foldl inv (fun _ _ h => .rampMod h)

theorem UsbCoreAt.reverseOverlay {v : Usb × Usb} {s : State} {n st : Nat} {q : QueuedAct}
    (inv : UsbCoreAt v s) : UsbCoreAt v (Machine.reverseOverlay n st q s) :=
  .askRoutes (.gateTo (.enterOv (.ovMod (.completedAll inv))))

theorem UsbCoreAt.dropLoad {v : Usb × Usb} {s : State} (inv : UsbCoreAt v s) :
    UsbCoreAt v (Machine.dropLoad s) := by
  unfold Machine.dropLoad
  split
  · exact inv
  · exact .foldl (.askRoutes inv) (fun _ _ h => .ite (.askRamp h) h)

theorem UsbCoreAt.abandonActivation {v : Usb × Usb} {s : State} {n : Nat} (inv : UsbCoreAt v s) :
    UsbCoreAt v (Machine.abandonActivation n s) := by
  unfold Machine.abandonActivation
  dsimp only
  split
  · exact .ite (.dropLoad inv) inv
  · exact inv

theorem UsbCoreAt.startDeactivation {v : Usb × Usb} {s : State} {n : Nat} {q : QueuedAct}
    (inv : UsbCoreAt v s) : UsbCoreAt v (Machine.startDeactivation n q s) :=
  .askRoutes (.gateTo (.enterOv (.ovMod inv)))

theorem UsbCoreAt.giveUp {v : Usb × Usb} {s : State} {n log : Nat} {ws : List Waiter} (inv : UsbCoreAt v s) :
    UsbCoreAt v (Machine.giveUp n log ws s) :=
  .streamsRefused (.completedAll inv)

theorem UsbCoreAt.deactivateOverlay {v : Usb × Usb} {s : State} {n : Nat} {q : QueuedAct}
    (inv : UsbCoreAt v s) : UsbCoreAt v (Machine.deactivateOverlay n q s).2 := by
  unfold Machine.deactivateOverlay
  extract_lets v
  split
  · exact inv
  · dsimp only
    exact .usbDiscard (.enterOv (.ovMod (.giveUp (.abandonActivation inv))))
  · exact .reverseOverlay inv
  · exact .startDeactivation inv
  · dsimp only
    exact .giveUp (.ovMod inv)

theorem UsbCoreAt.domMod {v : Usb × Usb} {s : State} {d : Nat} {f : Domain → Domain} (inv : UsbCoreAt v s) :
    UsbCoreAt v (Machine.domMod s d f) :=
  inv

theorem UsbCoreAt.convMod {v : Usb × Usb} {s : State} {k : Nat} {f : Convoy → Convoy} (inv : UsbCoreAt v s) :
    UsbCoreAt v (Machine.convMod s k f) :=
  inv

theorem UsbCoreAt.memMod {v : Usb × Usb} {s : State} {k m : Nat} {f : Member → Member} (inv : UsbCoreAt v s) :
    UsbCoreAt v (Machine.memMod s k m f) :=
  .convMod inv

theorem UsbCoreAt.commitRate {v : Usb × Usb} {s : State} {d rate log : Nat} (inv : UsbCoreAt v s) :
    UsbCoreAt v (Machine.commitRate d rate log s) :=
  .ite inv (.domMod inv)

theorem UsbCoreAt.startFadeOut {v : Usb × Usb} {s : State} {k m : Nat} (inv : UsbCoreAt v s) :
    UsbCoreAt v (Machine.startFadeOut k m s) :=
  .memMod inv

theorem UsbCoreAt.startFadeIn {v : Usb × Usb} {s : State} {k m : Nat} (inv : UsbCoreAt v s) :
    UsbCoreAt v (Machine.startFadeIn k m s) :=
  .memMod inv

theorem UsbCoreAt.startMember {v : Usb × Usb} {s : State} {k m : Nat} (inv : UsbCoreAt v s) :
    UsbCoreAt v (Machine.startMember k m s) :=
  .ite inv (.memMod inv)

theorem UsbCoreAt.stopMember {v : Usb × Usb} {s : State} {k m : Nat} (inv : UsbCoreAt v s) :
    UsbCoreAt v (Machine.stopMember k m s) :=
  .ite inv (.ite (.memMod (.foldl inv (fun _ _ h => .startFadeOut h))) (.ite (.memMod inv) (.memMod inv)))

theorem UsbCoreAt.startMembers {v : Usb × Usb} {s : State} {port sub : Nat} {egress : Bool}
    (inv : UsbCoreAt v s) : UsbCoreAt v (Machine.startMembers port sub egress s) :=
  .foldl inv (fun _ _ h => .startMember h)

theorem UsbCoreAt.lockstepStart {v : Usb × Usb} {s : State} {k : Nat} (inv : UsbCoreAt v s) :
    UsbCoreAt v (Machine.lockstepStart k s) :=
  .ite (.foldl inv (fun _ _ h => .startFadeIn h)) inv

theorem UsbCoreAt.settleIndex {v : Usb × Usb} {s : State} {k : Nat} (inv : UsbCoreAt v s) :
    UsbCoreAt v (Machine.settleIndex k s) :=
  .ite (.lockstepStart (.convMod inv)) inv

theorem UsbCoreAt.stopMembers {v : Usb × Usb} {s : State} {port sub : Nat} {egress : Bool}
    (inv : UsbCoreAt v s) : UsbCoreAt v (Machine.stopMembers port sub egress s) :=
  .foldl inv (fun _ _ h => .settleIndex (.stopMember h))

theorem UsbCoreAt.usbStop {v : Usb × Usb} {s : State} {p i : Nat} (inv : UsbCoreAt v s) :
    UsbCoreAt v (Machine.usbStop p i s) :=
  .stopMembers inv

theorem UsbCoreAt.usbLeave {v : Usb × Usb} {s : State} {n log : Nat} (inv : UsbCoreAt v s) :
    UsbCoreAt v (Machine.usbLeave n log s).2 := by
  unfold Machine.usbLeave
  split
  · exact inv
  · exact .deactivateOverlay inv

theorem UsbCoreAt.usbForget {v : Usb × Usb} {s : State} {p i : Nat} (inv : UsbCoreAt v s) :
    UsbCoreAt v (Machine.usbForget p i s) :=
  inv

theorem UsbCoreAt.usbZero {v : Usb × Usb} {s : State} {p i log : Nat} (inv : UsbCoreAt v s) :
    UsbCoreAt v (Machine.usbZero p i log s).2 :=
  .pairIte inv (.pairIte (.usbForget (.usbStreamMod (.usbStop inv)))
    (.usbLeave (.usbForget (.usbStreamMod (.usbStop inv)))))

theorem UsbCoreAt.usbToZero {v : Usb × Usb} {s : State} {p log i : Nat} (inv : UsbCoreAt v s) :
    UsbCoreAt v (Machine.usbToZero p log s i) :=
  .usbZero inv

theorem UsbCoreAt.usbAllZero {v : Usb × Usb} {s : State} {p log : Nat} (inv : UsbCoreAt v s) :
    UsbCoreAt v (Machine.usbAllZero p log s) :=
  .foldl inv (fun _ _ h => .usbToZero h)

theorem UsbCoreAt.volumeCommit {v : Usb × Usb} {s : State} {slot : Nat} {w : Word} {log : Nat}
    (inv : UsbCoreAt v s) : UsbCoreAt v (Machine.volumeCommit slot w log s) :=
  .ite inv (.commitSlot inv)

end Sys2Proof.Machine
end

section
/-! PROOF. USB settings leave the log number. -/

namespace Sys2Proof.Machine

theorem LogAt.startActivation {v : Nat} {s : State} {n : Nat} {q : QueuedAct} {ws : List Waiter}
    (inv : LogAt v s.host) : LogAt v (Machine.startActivation n q ws s).host :=
  .askLoad (.ovMod inv)

theorem LogAt.activateOverlay {v : Nat} {s : State} {n : Nat} {q : QueuedAct} (inv : LogAt v s.host) :
    LogAt v (Machine.activateOverlay n q s).2.host := by
  unfold Machine.activateOverlay
  split
  · exact .startActivation inv
  · exact inv
  · exact .reverseOverlay inv
  · exact .ovMod inv
  · exact .ovMod inv

theorem LogAt.startMember {v : Nat} {s : State} {k m : Nat} (inv : LogAt v s.host) :
    LogAt v (Machine.startMember k m s).host :=
  .ite inv (.memMod inv)

theorem LogAt.startMembers {v : Nat} {s : State} {port sub : Nat} {egress : Bool} (inv : LogAt v s.host) :
    LogAt v (Machine.startMembers port sub egress s).host :=
  .foldl inv (fun _ _ h => .startMember h)

theorem LogAt.usbStart {v : Nat} {s : State} {p i : Nat} (inv : LogAt v s.host) :
    LogAt v (Machine.usbStart p i s).host :=
  .ite (.startMembers inv) inv

theorem LogAt.usbEnter {v : Nat} {s : State} {p i n log : Nat} (inv : LogAt v s.host) :
    LogAt v (Machine.usbEnter p i n log s).2.host := by
  unfold Machine.usbEnter
  refine .pairIte (.ite (.usbLeave (.usbForget inv)) (.usbForget inv)) ?_
  split
  · split
    · dsimp only
      split
      · exact inv
      · refine .pairIte ?_ (.activateOverlay (.usbLeave (.usbForget inv)))
        dsimp only
        exact .usbLeave (.usbForget inv)
    · dsimp only
      split
      · exact inv
      · refine .pairIte ?_ (.activateOverlay (.usbForget inv))
        dsimp only
        exact .usbForget inv
  · split
    · dsimp only
      split
      · exact inv
      · refine .pairIte ?_ (.activateOverlay (.usbLeave (.usbForget inv)))
        dsimp only
        exact .usbLeave (.usbForget inv)
    · dsimp only
      split
      · exact inv
      · refine .pairIte ?_ (.activateOverlay (.usbForget inv))
        dsimp only
        exact .usbForget inv

end Sys2Proof.Machine
end

section
/-! PROOF. USB: control requests, and the steps of a port. -/

namespace Sys2Proof.Machine

@[simp] theorem usbGet_usbMod (s : State) (p : Nat) (f : Usb → Usb) : usbGet (usbMod s p f) p = f (usbGet s p) := by
  unfold usbGet usbMod
  split <;> rfl

theorem usbGet_of_usb {s t : State} (h : UsbPortsAt (s.usbA, s.usbB) t) (p : Nat) : usbGet t p = usbGet s p := by
  have hA : t.usbA = s.usbA := congrArg Prod.fst h
  have hB : t.usbB = s.usbB := congrArg Prod.snd h
  unfold usbGet
  rw [hA, hB]

@[simp] theorem usbGet_post (code inst log data : Nat) (cn : Concern) (s : State) (p : Nat) :
    usbGet (post code inst log data cn s) p = usbGet s p := by simp [usbGet]

/-- The ports of a state but for their streams. -/
def usbCores (s : State) : Usb × Usb := ({ s.usbA with streams := [] }, { s.usbB with streams := [] })

theorem usbCores_get {s t : State} (h : UsbCoreAt (usbCores s) t) (p : Nat) :
    ({ usbGet t p with streams := [] } : Usb) = { usbGet s p with streams := [] } := by
  unfold usbGet
  split
  · exact congrArg Prod.fst h
  · exact congrArg Prod.snd h

/-- The fields of a port that do not follow its streams. -/
theorem UsbCoreAt.fields {s t : State} (h : UsbCoreAt (usbCores s) t) (p : Nat) :
    (usbGet t p).st = (usbGet s p).st ∧ (usbGet t p).before = (usbGet s p).before ∧ (usbGet t p).speed = (usbGet s p).speed
    ∧ (usbGet t p).link = (usbGet s p).link ∧ (usbGet t p).cfg = (usbGet s p).cfg ∧ (usbGet t p).addr = (usbGet s p).addr
    ∧ (usbGet t p).vbus = (usbGet s p).vbus ∧ (usbGet t p).wakeEnabled = (usbGet s p).wakeEnabled
    ∧ (usbGet t p).wakeDue = (usbGet s p).wakeDue ∧ (usbGet t p).reports = (usbGet s p).reports
    ∧ (usbGet t p).waiting = (usbGet s p).waiting ∧ (usbGet t p).handshake = (usbGet s p).handshake
    ∧ (usbGet t p).halted = (usbGet s p).halted ∧ (usbGet t p).features = (usbGet s p).features := by
  have hcore := usbCores_get h p
  simp only [Usb.mk.injEq] at hcore
  simp only [hcore, and_self]

/-! ## What a setup leaves -/

/-- A setup changes nothing that the requests read. -/
theorem usbSetup_reads (port : Fin 2) (s : State) :
    usbBuiltin (usbSetup port.val s) port.val = usbBuiltin s port.val
    ∧ usbConfigValue (usbSetup port.val s) port.val = usbConfigValue s port.val
    ∧ usbRateFits (usbSetup port.val s) port.val = usbRateFits s port.val
    ∧ (∀ i, usbAlt (usbSetup port.val s) port.val i = usbAlt s port.val i)
    ∧ (∀ i alt, usbRecord (usbSetup port.val s) port.val i alt = usbRecord s port.val i alt)
    ∧ (∀ hz, usbRate (usbSetup port.val s) port.val hz = usbRate s port.val hz)
    ∧ (∀ a b, chartDescriptor (usbSetup port.val s) port.val a b = chartDescriptor s port.val a b)
    ∧ (∀ a b, builtinDescriptor (usbSetup port.val s) port.val a b = builtinDescriptor s port.val a b)
    ∧ (∀ a b, fuFind (usbSetup port.val s) port.val a b = fuFind s port.val a b)
    ∧ (∀ i, usbIf (usbSetup port.val s) port.val i = usbIf s port.val i) := by
  match port with
  | 0 => exact ⟨rfl, rfl, rfl, fun _ => rfl, fun _ _ => rfl, fun _ => rfl, fun _ _ => rfl, fun _ _ => rfl,
    fun _ _ => rfl, fun _ => rfl⟩
  | 1 => exact ⟨rfl, rfl, rfl, fun _ => rfl, fun _ _ => rfl, fun _ => rfl, fun _ _ => rfl, fun _ _ => rfl,
    fun _ _ => rfl, fun _ => rfl⟩

theorem usbSetup_others (p : Nat) (s : State) :
    (usbSetup p s).host = s.host ∧ (usbSetup p s).cs = s.cs ∧ (usbSetup p s).pwr = s.pwr ∧ (usbSetup p s).clk = s.clk := by
  simp [usbSetup]

@[simp] theorem usbEntry_usbSetup (p : Nat) (s : State) : usbEntry (usbSetup p s) p = usbEntry s p := by
  simp [usbEntry, entryOf, usbSetup]

@[simp] theorem usbGet_usbSetup (p : Nat) (s : State) : usbGet (usbSetup p s) p = { usbGet s p with waiting := none } :=
  usbGet_usbMod s p _

theorem isOpen_usbSetup (p n : Nat) (s : State) : isOpen (usbSetup p s) n = isOpen s n := by
  rw [isOpen, ctxGet, (usbSetup_others p s).1]
  rfl

theorem canChange_usbSetup (p : Nat) (s : State) (c : Ctx) (id : Nat) : canChange (usbSetup p s) c id = canChange s c id := by
  simp [canChange, usbSetup, ownerOf]

/-- A control request that the protocol sequencer answers itself. -/
theorem exec_usbStandard {port : Fin 2} {s : State} {q : UsbRequest} (halive : usbAlive s = true)
    (hon : (usbGet s port.val).st ≠ 0) (hup : (usbGet s port.val).st ≠ 3) (hget : ∀ r, q ≠ .classGet r)
    (hset : ∀ r, q ≠ .classSet r) (rcp : Fin 3) (v i n : BitVec 16) :
    exec (.usbStandardRequest port q rcp v i n) s
      = .next (usbStandard port.val q rcp.val v.toNat i.toNat n.toNat (usbSetup port.val s)) := by
  have hserve : (usbAlive s && (usbGet s port.val).st != 0 && (usbGet s port.val).st != 3) = true := by simp [halive, hon, hup]
  change execUsbStandardRequest port q rcp v i n s = _
  unfold execUsbStandardRequest
  cases q with
  | classGet r => exact absurd rfl (hget r)
  | classSet r => exact absurd rfl (hset r)
  | _ => exact congrArg _ (if_pos hserve)

/-- A control request that the CP executes, or that is held until it runs. -/
theorem cpRequest_runs {p : Nat} {h : UsbHeld} {act : State → State} {s : State} (halive : usbAlive s = true)
    (hon : (usbGet s p).st ≠ 0) (hup : (usbGet s p).st ≠ 3) (hcp : cpRuns s = true) :
    cpRequest p h act s = act (usbSetup p s) := by
  rw [cpRequest, if_neg (by simp [halive, hon, hup]), if_neg (by simp [hcp])]

theorem cpRequest_held {p : Nat} {h : UsbHeld} {act : State → State} {s : State} (halive : usbAlive s = true)
    (hon : (usbGet s p).st ≠ 0) (hup : (usbGet s p).st ≠ 3) (hcp : cpRuns s = false) :
    cpRequest p h act s = usbHold p h s := by
  rw [cpRequest, if_neg (by simp [halive, hon, hup]), if_pos (by simp [hcp])]

theorem getStatus_device {p v i n : Nat} {s : State} : usbStandard p .getStatus (0 : Fin 3).val v i n s
    = usbAnswer p ((b2 (1 + 2 * flag ((usbGet s p).wakeEnabled && (usbGet s p).speed != 3))).take n) s := rfl

theorem getStatus_interface {p v i n : Nat} {s : State} : usbStandard p .getStatus (1 : Fin 3).val v i n s
    = usbAnswer p ((b2 (if (usbGet s p).speed = 3 then 1 + 2 * flag (usbGet s p).wakeEnabled else 0)).take n) s := rfl

theorem getStatus_endpoint {p v i n : Nat} {s : State} : usbStandard p .getStatus (2 : Fin 3).val v i n s
    = usbAnswer p ((b2 (flag (bit (usbGet s p).halted (endpointBit i)))).take n) s := rfl

/-- A feature that no port has is stalled (R255). -/
theorem usbFeature_other {p rcp v i : Nat} {on : Bool} {s : State} (h : (rcp, v) ∉ [(0, 1), (0, 48), (0, 49), (1, 0), (2, 0)]) :
    usbFeature p rcp v i on s = usbStall p s := by
  unfold usbFeature
  split <;> simp_all

theorem usbGetDescriptor_builtin {p type index len : Nat} {s : State} {d : List Byte} (hb : usbBuiltin s p = true)
    (hd : builtinDescriptor s p type index = some d) :
    usbGetDescriptor p type index len s = usbAnswer p (d.take len) s := by
  rw [usbGetDescriptor, if_pos (.inl hb), hd]

theorem usbGetDescriptor_chart {p type index len : Nat} {s : State} {d : List Byte} (hb : usbBuiltin s p = false)
    (hr : ¬ (type = 0x22 ∧ u16 (usbSet s p) 26 = 0)) (hd : chartDescriptor s p type index = some d) :
    usbGetDescriptor p type index len s = usbAnswer p (d.take len) s := by
  rw [usbGetDescriptor, if_neg (by simp [hb, hr]), hd]

/-- The requests that the CP executes, where it runs. -/
theorem exec_setConfiguration {port : Fin 2} {c : Byte} {s : State} (halive : usbAlive s = true)
    (hon : (usbGet s port.val).st ≠ 0) (hup : (usbGet s port.val).st ≠ 3) (hcp : cpRuns s = true) :
    exec (.setConfiguration port c) s = .next (setConfigurationDo port.val c.toNat (usbSetup port.val s)) :=
  show execSetConfiguration port c s = _ from congrArg Host.Outcome.next (cpRequest_runs halive hon hup hcp)

theorem exec_setInterface {port : Fin 2} {ifc alt : Byte} {s : State} (halive : usbAlive s = true)
    (hon : (usbGet s port.val).st ≠ 0) (hup : (usbGet s port.val).st ≠ 3) (hcp : cpRuns s = true) :
    exec (.setInterface port ifc alt) s = .next (setInterfaceDo port.val ifc.toNat alt.toNat (usbSetup port.val s)) :=
  show execSetInterface port ifc alt s = _ from congrArg Host.Outcome.next (cpRequest_runs halive hon hup hcp)

theorem exec_frequency {port : Fin 2} {e : Byte} {hz : Nat} {s : State} (halive : usbAlive s = true)
    (hon : (usbGet s port.val).st ≠ 0) (hup : (usbGet s port.val).st ≠ 3) (hcp : cpRuns s = true) :
    exec (.uacSamplingFreqSet port e hz) s = .next (frequencyDo port.val e.toNat hz (usbSetup port.val s)) :=
  show execUacSamplingFreqSet port e hz s = _ from congrArg Host.Outcome.next (cpRequest_runs halive hon hup hcp)

theorem exec_feature {port : Fin 2} {unit ch : Byte} {m : Bool} {v : BitVec 16} {s : State} (halive : usbAlive s = true)
    (hon : (usbGet s port.val).st ≠ 0) (hup : (usbGet s port.val).st ≠ 3) (hcp : cpRuns s = true) :
    exec (.uacFeatureUnitSet port unit ch m v) s = .next (featureDo port.val unit.toNat ch.toNat m v (usbSetup port.val s)) :=
  show execUacFeatureUnitSet port unit ch m v s = _ from congrArg Host.Outcome.next (cpRequest_runs halive hon hup hcp)

theorem exec_dfuDetach {port : Fin 2} {s : State} (halive : usbAlive s = true)
    (hon : (usbGet s port.val).st ≠ 0) (hup : (usbGet s port.val).st ≠ 3) (hcp : cpRuns s = true) :
    exec (.dfuDetach port) s = .next (dfuDetachDo port.val (usbSetup port.val s)) :=
  show execDfuDetach port s = _ from congrArg Host.Outcome.next (cpRequest_runs halive hon hup hcp)

theorem frequencyDo_found {p e hz c : Nat} {s : State} (hb : usbBuiltin s p = false) (he : e = u8 (usbSet s p) 36)
    (hc : usbRate s p hz = some c) :
    frequencyDo p e hz s
      = postUsb 0x0703 p s.host.log c (usbAnswer p [] (commitRate (usbDomain s p) c s.host.log (takeLog s))) := by
  rw [frequencyDo, if_neg (by simp [hb, he]), hc]

theorem featureDo_absent {p unit ch : Nat} {m : Bool} {v : BitVec 16} {s : State} (h : fuFind s p unit ch = none) :
    featureDo p unit ch m v s = usbStall p s := by
  rw [featureDo, h]

/-- A vendor transfer: the replies read leave, and what has waited for them goes (R269). -/
def vendorRead (p read : Nat) (s : State) : State := ctxMod s (2 + p) (fun c => { c with replies := c.replies.drop read })

theorem exec_usbVendor {port : Fin 2} {read : Nat} {bytes : List Byte} {s : State}
    (hst : (usbGet s port.val).st = 2 ∨ (usbGet s port.val).st = 4) {w : State}
    (hw : (if cpPresent (vendorRead port.val read s) then flushReplies (vendorRead port.val read s)
      else vendorRead port.val read s) = w) :
    exec (.usbVendorTransfer port read bytes) s = .next (
      if packetsTaken w (ctxOf (2 + port.val)) then receivePacket (2 + port.val) bytes bytes.length w else w) := by
  subst hw
  change execUsbVendorTransfer port read bytes s = _
  unfold execUsbVendorTransfer
  exact whenever_true (by simpa using hst)

/-! ## Settings -/

theorem usbAllZero_still {p log : Nat} {s : State} (h : ∀ i < 4, usbAlt s p i = 0) : usbAllZero p log s = s := by
  have hzero (i : Nat) (hi : i < 4) : usbToZero p log s i = s := by rw [usbToZero, usbZero, if_pos (h i hi)]
  rw [usbAllZero, show List.range 4 = [0, 1, 2, 3] from rfl]
  simp only [List.foldl_cons, List.foldl_nil, hzero 0 (by decide), hzero 1 (by decide), hzero 2 (by decide), hzero 3 (by decide)]

theorem setConfiguration_taken {p cfg : Nat} {s : State} (h : cfg = 0 ∨ cfg = usbConfigValue s p) :
    setConfigurationDo p cfg s = usbAnswer p [] (usbMod (usbAllZero p 0 s) p (fun u =>
      { u with cfg := cfg, halted := 0, st := if u.st = 4 then 4 else if cfg = 0 then 1 else 2 })) := by
  refine if_neg ?_
  rintro ⟨h0, h1⟩
  exact h.elim h0 h1

theorem setInterface_named {p ifc alt i : Nat} {s : State} (hcfg : (usbGet s p).cfg ≠ 0)
    (hi : (List.range 4).find? (fun i => !usbBuiltin s p && usbIf s p i == ifc && ifc != 0xFF) = some i) :
    setInterfaceDo p ifc alt s = usbSetAlt p i alt s.host.log (takeLog s) := by
  rw [setInterfaceDo, if_neg hcfg, hi]

/-- SET_INTERFACE of a setting that is not there, or at a rate that the port does not carry, is stalled (R258, log entry 126). -/
theorem usbSetAlt_absent {p i alt log : Nat} {s : State} (halt : alt ≠ 0) (hr : usbRecord s p i alt = none) :
    usbSetAlt p i alt log s = postAlt p i alt stBadParam true log (usbStall p s) := by
  rw [usbSetAlt, if_neg halt, hr]

theorem usbSetAlt_unfit {p i alt log : Nat} {s : State} {r : List Byte} (halt : alt ≠ 0) (hr : usbRecord s p i alt = some r)
    (hfit : usbRateFits s p = false) : usbSetAlt p i alt log s = postAlt p i alt stWrongState true log (usbStall p s) := by
  rw [usbSetAlt, if_neg halt, hr]
  dsimp only
  rw [hfit]
  rfl

/-- What a setting that is taken asks of its stream. -/
def streamSet (alt f : Nat) (x : UsbStream) : UsbStream := { x with alt := alt, f := f, ms := 0, acc := 0, discard := false }

theorem usbEnter_free {p i log : Nat} {s : State} : (usbEnter p i 0xFF log s).1 = stOk := by
  unfold usbEnter
  extract_lets pend old away l
  exact congrArg Prod.fst (if_pos (.inl rfl))

theorem usbSetAlt_taken {p i alt log : Nat} {s : State} {r : List Byte} (halt : alt ≠ 0) (hr : usbRecord s p i alt = some r)
    (hfree : u8 r 5 = 0xFF) (hoff : usbAlt s p i = 0) (hfit : usbRateFits s p = true) :
    usbSetAlt p i alt log s = postAlt p i alt stOk false log (usbAnswer p [] (usbStart p i
      (usbStreamMod (usbEnter p i 0xFF log s).2 p i (streamSet alt (nominalF (usbHz s p)))))) := by
  have hstalls : usbStalls (usbEnter p i 0xFF log s).1 = false := by rw [usbEnter_free]; decide
  rw [usbSetAlt, if_neg halt, hr]
  dsimp only
  rw [hfit, if_pos hoff, hfree, if_pos rfl, hstalls, usbEnter_free]
  rfl

theorem usbStream_set {p i alt f : Nat} {s : State} (halt : alt ≠ 0) :
    usbStream (usbStreamMod s p i (streamSet alt f)) p i = streamSet alt f (usbStream s p i) := by
  have hget : usbGet (usbStreamMod s p i (streamSet alt f)) p
      = { usbGet s p with streams := tmod UsbStream.zero (usbGet s p).streams i (streamSet alt f) } := usbGet_usbMod _ _ _
  rw [usbStream, hget]
  exact tget_tset_same_ne UsbStream.zero (usbGet s p).streams i fun e => halt (congrArg UsbStream.alt e)

theorem usbStart_ports (p i : Nat) (s : State) : UsbPortsAt (s.usbA, s.usbB) (usbStart p i s) :=
  .ite (.startMembers rfl) rfl

theorem setting_taken {p i alt log f : Nat} {s : State} (halt : alt ≠ 0) :
    usbStream (postAlt p i alt stOk false log (usbAnswer p [] (usbStart p i (usbStreamMod s p i (streamSet alt f))))) p i
      = streamSet alt f (usbStream s p i) := by
  have hget : usbGet (usbStart p i (usbStreamMod s p i (streamSet alt f))) p = usbGet (usbStreamMod s p i (streamSet alt f)) p :=
    usbGet_of_usb (usbStart_ports p i _) p
  rw [← usbStream_set halt, usbStream, postAlt, postUsb, usbGet_post, usbAnswer, usbGet_usbMod, hget]
  rfl

/-- What a stream's setting, started and answered, leaves (R241). -/
theorem settled_spec {p i alt log f : Nat} {u : State} (halt : alt ≠ 0) {t : State}
    (ht : postAlt p i alt stOk false log (usbAnswer p [] (usbStart p i (usbStreamMod u p i (streamSet alt f)))) = t) :
    usbAlt t p i = alt ∧ (usbStream t p i).f = f ∧ (usbGet t p).handshake = 0 ∧ t.host.log = u.host.log := by
  subst ht
  have hset := setting_taken (p := p) (i := i) (log := log) (f := f) (s := u) halt
  refine ⟨(congrArg UsbStream.alt hset).trans rfl, (congrArg UsbStream.f hset).trans rfl, ?_, ?_⟩
  · rw [postAlt, postUsb, usbGet_post, usbAnswer, usbGet_usbMod]
  · rw [postAlt, postUsb, post_log]
    exact LogAt.usbMod (LogAt.usbStart (LogAt.usbStreamMod rfl))

theorem usbHz_usbSetup (port : Fin 2) (s : State) :
    nominalF (usbHz (takeLog (usbSetup port.val s)) port.val) = nominalF (usbHz s port.val) := by
  match port with
  | 0 => rfl
  | 1 => rfl

/-! ## Feature units -/

/-- The feature that a feature unit request asks for. -/
def featureAsked (s : State) (p r : Nat) (isMute : Bool) (value : BitVec 16) : Feature :=
  if isMute then { fuGet s p r with mute := value.toNat % 256 != 0 }
  else { fuGet s p r with volume := clampInt (s16 (usbEntry s p) 4) (s16 (usbEntry s p) 6) value.toInt }

theorem fuGet_post (code inst log data : Nat) (cn : Concern) (s : State) (p r : Nat) :
    fuGet (post code inst log data cn s) p r = fuGet s p r := by rw [fuGet, usbGet_post]; rfl

/-- The request is answered, and feature r is this one. -/
def FeatureSet (p r : Nat) (x : Feature) (u : State) : Prop := (usbGet u p).handshake = 0 ∧ fuGet u p r = x

theorem featureDo_sets {p unit ch r : Nat} {isMute : Bool} {value : BitVec 16} {s : State} (hr : fuFind s p unit ch = some r)
    (w : tblWf { volume := 0, mute := false } (usbGet s p).features = true) :
    FeatureSet p r (featureAsked s p r isMute value) (featureDo p unit ch isMute value s) := by
  unfold featureDo
  split
  case h_1 hnone => exact absurd (hnone.symm.trans hr) (by simp)
  case h_2 r' hr' =>
  obtain rfl : r = r' := Option.some.inj (hr.symm.trans hr')
  extract_lets log e old new w' t t1
  have hfeatures : (usbGet t1 p).features = tset { volume := 0, mute := false } (usbGet s p).features r new := by
    obtain ⟨-, -, -, -, -, -, -, -, -, -, -, -, -, hkept⟩ :=
      (UsbCoreAt.volumeCommit (slot := (fuRecord s p r).2.2) (w := w') (log := log) (s := t) rfl).fields p
    refine (congrArg Usb.features (usbGet_usbMod _ _ _)).trans (hkept.trans ?_)
    exact congrArg Usb.features (usbGet_usbMod _ _ _)
  have hshake : (usbGet t1 p).handshake = 0 := congrArg Usb.handshake (usbGet_usbMod _ _ _)
  have hget : fuGet t1 p r = new := by
    rw [fuGet, hfeatures]
    exact tget_tset_same _ w r new
  exact inv_ite (P := FeatureSet p r new) ⟨hshake, hget⟩
    ⟨(congrArg Usb.handshake (usbGet_post _ _ _ _ _ _ _)).trans hshake, (fuGet_post _ _ _ _ _ _ _ _).trans hget⟩

/-! ## Connection -/

theorem usbFollow_connects {p cause log : Nat} {s : State} (hmay : usbMayConnect s p = true) (hst : (usbGet s p).st = 0) :
    usbFollow p cause log s = usbAttach p cause log s := by
  rw [usbFollow, if_neg (by simp [hmay]), if_pos hst]

theorem usbFollow_gone {p cause log : Nat} {s : State} (hmay : usbMayConnect s p = false) :
    usbFollow p cause log s = usbDetach p cause log s := by
  rw [usbFollow, if_pos (by simp [hmay])]

theorem usbDetach_spec (p cause log : Nat) (s : State) :
    (usbGet (usbDetach p cause log s) p).st = 0 ∧ (usbGet (usbDetach p cause log s) p).vbus = (usbGet s p).vbus := by
  unfold usbDetach
  split
  case isTrue h => exact ⟨h, rfl⟩
  case isFalse =>
    obtain ⟨-, -, -, -, -, -, hvbus, -⟩ := (UsbCoreAt.usbAllZero (p := p) (log := log) (s := s) rfl).fields p
    rw [postUsbState, postUsb, usbGet_post, usbGet_usbMod]
    exact ⟨rfl, hvbus⟩

theorem abandonSessions_ports (c : Ctx) (s : State) : UsbPortsAt (s.usbA, s.usbB) (abandonSessions c s) := by
  have hfw (u : State) (hu : UsbPortsAt (s.usbA, s.usbB) u) : UsbPortsAt (s.usbA, s.usbB) (if u.fw.session.owner = some c then
      if u.fw.session.st ≤ 1 then { u with fw := { u.fw with session := Session.idle } }
      else { u with fw := { u.fw with session := { u.fw.session with owner := none } } }
    else u) := .ite (.ite hu hu) hu
  unfold abandonSessions
  refine hfw _ ?_
  split
  · exact .ite rfl rfl
  · rfl

theorem UsbPortsAt.of_rest {v : Usb × Usb} {s t : State} (h : rest t = rest s) (inv : UsbPortsAt v s) : UsbPortsAt v t := by
  rw [rest_eq h]
  exact inv

theorem unsupervised_ports (n log : Nat) (s : State) : UsbPortsAt (s.usbA, s.usbB) (unsupervised n log s) := by
  have hclosed : UsbPortsAt (s.usbA, s.usbB) (closedState n s) := by
    unfold closedState
    split
    · exact abandonSessions_ports _ _
    · exact abandonSessions_ports _ _
  exact .ite (.of_rest (makeSupervisor_rest _ _ _) hclosed) hclosed

/-- The close of a context leaves the USB ports. -/
theorem closeContext_ports (n cause log : Nat) (s : State) : UsbPortsAt (s.usbA, s.usbB) (closeContext n cause log s) := by
  by_cases h : isOpen s n = true
  · rw [closeContext_eq h]
    refine .of_rest (postSel_rest _ _ _ _ _ _ _) (.of_rest ?_ (unsupervised_ports n log s))
    exact foldl_keeps rest _ (fun t id => changeOwner_rest log id 0xFF t) _ _
  · rw [closeContext, if_pos (by simpa using h)]
    rfl

/-- All but the USB ports and the host part. -/
def restPorts (s : State) : State :=
  { s with host := State.reset.host, tw0 := State.reset.tw0, tw1 := State.reset.tw1, free := State.reset.free
           usbA := State.reset.usbA, usbB := State.reset.usbB }

theorem OnlyHost.of_restPorts {s t : State} (h : restPorts t = restPorts s) :
    OnlyHost { s with usbA := t.usbA, usbB := t.usbB } t := by
  simp only [restPorts, State.mk.injEq] at h
  rw [onlyHost_iff]
  simp only [h, and_self]

theorem usbMod_restPorts (s : State) (p : Nat) (f : Usb → Usb) : restPorts (usbMod s p f) = restPorts s := by
  unfold usbMod
  split <;> rfl

theorem restPorts_of_rest {s t : State} (h : rest t = rest s) : restPorts t = restPorts s := by
  rw [rest_eq h]
  rfl

def vbusUp (u : Usb) : Usb := { u with vbus := true }

/-- A port on whose connector VBUS rises connects (R250). -/
theorem vbusChange_up {p : Nat} {s : State} (halive : usbAlive s = true) (hvusb : s.pwr.vusb = true)
    (hcmd : (usbGet s p).byCommand = false) (hre : (usbGet s p).reconnect = false)
    (hport : portEnabled s p = true ∨ s.cs.chart = none) (hst : (usbGet s p).st = 0) :
    vbusChange p true s = usbAttach p 0 0 (usbMod s p vbusUp) := by
  have halive' : usbAlive (usbMod s p vbusUp) = true := by simpa [usbAlive] using halive
  have hport' : portEnabled (usbMod s p vbusUp) p = true ∨ (usbMod s p vbusUp).cs.chart = none := by
    simpa [portEnabled, entryOf] using hport
  have hmay : usbMayConnect (usbMod s p vbusUp) p = true := by
    rw [usbMayConnect, usbGet_usbMod, halive']
    rcases hport' with h | h
    · simp [h, vbusUp, hvusb, hcmd, hre]
    · rw [h]
      simp [vbusUp, hvusb, hcmd, hre]
  exact (show vbusChange p true s = usbFollow p 0 0 (usbMod s p vbusUp) from rfl).trans
    (usbFollow_connects hmay (by rw [usbGet_usbMod]; exact hst))

/-- A port that attaches outside HARBOUR. -/
theorem usbAttach_spec {p cause log : Nat} {s : State} (h : s.pwr.dev ≠ .harbour) :
    usbGet (usbAttach p cause log s) p = { usbGet s p with st := 1 }
    ∧ restPorts (usbAttach p cause log s) = restPorts s := by
  unfold usbAttach
  simp only [h, if_false]
  refine ⟨(usbGet_post _ _ _ _ _ _ _).trans (usbGet_usbMod s p _), ?_⟩
  exact (restPorts_of_rest (postSel_rest _ _ _ _ _ _ _)).trans (usbMod_restPorts s p _)

theorem vbusChange_down (p : Nat) (s : State) :
    (usbGet (vbusChange p false s) p).st = 0 ∧ (usbGet (vbusChange p false s) p).vbus = false := by
  unfold vbusChange
  extract_lets s1 s2 s3
  have h2 : UsbPortsAt (s1.usbA, s1.usbB) s2 := .ite (closeContext_ports _ _ _ _) rfl
  have h3 : (usbGet s3 p).vbus = false :=
    (congrArg Usb.vbus (usbGet_of_usb h2 p)).trans (congrArg Usb.vbus (usbGet_usbMod s p _))
  rw [usbFollow_gone (by simp [usbMayConnect, h3])]
  obtain ⟨hst, hvbus⟩ := usbDetach_spec p 0 0 s3
  exact ⟨hst, hvbus.trans h3⟩

/-- A bus reset, whatever sleep it ends (R251). -/
theorem usbBusReset_spec (p speed : Nat) (s : State) :
    (usbGet (usbBusReset p speed s) p).speed = speed ∧ (usbGet (usbBusReset p speed s) p).cfg = 0
    ∧ (usbGet (usbBusReset p speed s) p).addr = 0 ∧ (usbGet (usbBusReset p speed s) p).wakeEnabled = false
    ∧ (usbGet (usbBusReset p speed s) p).reports = [] ∧ (usbGet (usbBusReset p speed s) p).waiting = none := by
  unfold usbBusReset
  extract_lets u dfu s1 s2
  have h := usbGet_of_usb (closeContext_ports (2 + p) 1 0 (postUsbState p (if dfu && !u.dfuMode then 5 else 1) 0 s2)) p
  rw [h, postUsbState, postUsb, usbGet_post, usbGet_usbMod]
  exact ⟨rfl, rfl, rfl, rfl, rfl, rfl⟩

/-- Starting the streams of a port leaves the rest of it. -/
theorem usbStreamsStart_core (p : Nat) (s : State) :
    UsbCoreAt (usbCores s) ((List.range 4).foldl (fun t i => if usbAlt t p i = 0 then t else usbStart p i t) s) :=
  .foldl rfl fun _ _ h => .ite h (.ite (.startMembers h) h)

theorem usbStreamsStop_core (p : Nat) (s : State) :
    UsbCoreAt (usbCores s) ((List.range 4).foldl (fun t i => if usbAlt t p i = 0 then t else usbStop p i t) s) :=
  .foldl rfl fun _ _ h => .ite h (.stopMembers h)

theorem usbResume_spec (p : Nat) (s : State) :
    (usbGet (usbResume p s) p).st = (usbGet s p).before ∧ (usbGet (usbResume p s) p).link = 0
    ∧ (usbGet (usbResume p s) p).wakeDue = false := by
  unfold usbResume
  extract_lets s1
  obtain ⟨hst, -, -, hlink, -, -, -, -, hdue, -⟩ := (usbStreamsStart_core p s1).fields p
  have h1 : usbGet s1 p = _ := (usbGet_post _ _ _ _ _ _ _).trans (usbGet_usbMod s p _)
  rw [hst, hlink, hdue, h1]
  exact ⟨rfl, rfl, rfl⟩

theorem wakeFor_awake {cause : Nat} {s : State} (h : s.pwr.dev ≠ .sleep) : wakeFor cause s = s := if_neg h

theorem exec_vbusChange_awake {port : Fin 2} {up : Bool} {s : State} (h : s.pwr.dev ≠ .sleep) :
    exec (.vbusChange port up) s = .next (vbusChange port.val up s) := by
  have hawake : (if up && s.pwr.vusb && (usbGet s port.val).st == 0 && portEnabled s port.val then wakeFor 3 s else s) = s := by
    rw [wakeFor_awake h, ite_self]
  exact congrArg Host.Outcome.next (congrArg (vbusChange port.val up) hawake)

/-- The feedback of a stream that runs, from its convoy's fill and the rate measured (R259). -/
theorem exec_usbFeedback {port i : Fin 2} {rm fill lost : Nat} {s : State} {r : List Byte}
    (hst : (usbGet s port.val).st = 2) (halt : usbAlt s port.val i.val ≠ 0) (hfit : usbRateFits s port.val = true)
    (hr : usbRecord s port.val i.val (usbAlt s port.val i.val) = some r) :
    exec (.usbFeedbackUpdate port i rm fill lost) s = .next (usbStreamMod
      (usbMod s port.val (fun u => { u with counts := addAll 4 1 lost u.counts })) port.val i.val (fun x => { x with
        f := feedbackF (usbHz s port.val) (convoyNominal s (u8 r 6)) (if x.ms < 1000 then usbHz s port.val * 1000 else rm) fill
        ms := min (x.ms + 1) 1000 })) := by
  have hcond : ((usbGet s port.val).st == 2 && usbAlt s port.val i.val != 0 && usbRateFits s port.val) = true := by
    simp [hst, halt, hfit]
  have hhz : usbHz (usbMod s port.val (fun u => { u with counts := addAll 4 1 lost u.counts })) port.val = usbHz s port.val := by
    simp [usbHz, domGet, usbDomain, usbEntry, entryOf]
  have hnominal : convoyNominal (usbMod s port.val (fun u => { u with counts := addAll 4 1 lost u.counts })) (u8 r 6)
      = convoyNominal s (u8 r 6) := by
    simp [convoyNominal, nearConvoy]
  change execUsbFeedbackUpdate port i rm fill lost s = _
  unfold execUsbFeedbackUpdate whenever
  simp only [hcond, if_true, hr, Option.map_some, Option.getD_some, hhz, hnominal]

theorem all_alts_zero {s : State} {p : Nat} (h : ∀ i < 4, usbAlt s p i = 0) :
    ((List.range 4).all fun i => usbAlt s p i == 0) = true := by
  simp only [List.all_eq_true, List.mem_range, beq_iff_eq]
  exact h

/-- A setting that the set has, and whose rate the port carries, is taken (R241, R246). -/
theorem setInterface_taken {port : Fin 2} {s : State} (halive : usbAlive s = true) (hon : (usbGet s port.val).st ≠ 0)
    (hup : (usbGet s port.val).st ≠ 3) {ifc alt : Byte} {i : Nat} {r : List Byte} (hcp : cpRuns s = true)
    (hcfg : (usbGet s port.val).cfg ≠ 0) (halt : alt ≠ 0)
    (hi : (List.range 4).find? (fun i => !usbBuiltin s port.val && usbIf s port.val i == ifc.toNat && ifc.toNat != 0xFF) = some i)
    (hr : usbRecord s port.val i alt.toNat = some r) (hfree : u8 r 5 = 0xFF) (hoff : usbAlt s port.val i = 0)
    (hfit : usbRateFits s port.val = true) :
    ∃ t, exec (.setInterface port ifc alt) s = .next t ∧ usbAlt t port.val i = alt.toNat
      ∧ (usbStream t port.val i).f = nominalF (usbHz s port.val) ∧ (usbGet t port.val).handshake = 0
      ∧ t.host.log = nextLog s.host.log := by
  obtain ⟨rbuiltin, -, rfit, ralt, rrecord, -, -, -, -, rif⟩ := usbSetup_reads port s
  have halt' : alt.toNat ≠ 0 := fun e => halt (BitVec.eq_of_toNat_eq e)
  rw [exec_setInterface halive hon hup hcp, setInterface_named (by rw [usbGet_usbSetup]; exact hcfg)
    (by simp only [rbuiltin, rif]; exact hi), usbSetAlt_taken (s := takeLog (usbSetup port.val s)) halt'
    ((rrecord _ _).trans hr) hfree ((ralt _).trans hoff) (rfit.trans hfit)]
  obtain ⟨ha, hf, hh, hl⟩ := settled_spec (t := _) (p := port.val) (i := i) (log := (usbSetup port.val s).host.log)
    (f := nominalF (usbHz (takeLog (usbSetup port.val s)) port.val))
    (u := (usbEnter port.val i 0xFF (usbSetup port.val s).host.log (takeLog (usbSetup port.val s))).2) halt' rfl
  refine ⟨_, rfl, ha, hf.trans (usbHz_usbSetup port s), hh, hl.trans ?_⟩
  exact (LogAt.usbEnter (s := takeLog (usbSetup port.val s)) rfl).trans
    (congrArg nextLog (congrArg HostState.log (usbSetup_others _ _).1))

end Sys2Proof.Machine

namespace Sys2Proof
open Sys2Proof.Machine

/-- Settles O49: control requests are answered, stalled or held, and the ports connect, reset, suspend, wake and report. -/
theorem usbRequestsAndStepsTakeEffect : Obligations.UsbRequestsAndStepsTakeEffect := by
  refine ⟨fun port s halive hon hup => ⟨?standard, ?held, ?zeroed, ?configured, ?badConfig, ?unconfigured, ?taken, ?absent,
      ?unfit, ?rate, ?notClock, ?feature, ?noFeature, ?detach, ?noDetach, ?vendor, ?vendorLate⟩,
    fun port s => ⟨?connects, ?leaves, ?resets, ?suspends, ?resumes, ?wakes, ?signals, ?functionWake, ?accepts, ?rejects,
      ?reconnects, ?feedback, ?interval, ?report, ?timeout⟩⟩
  case standard =>
    intro rcp v i n
    obtain ⟨rbuiltin, -, -, ralt, -, -, rchart, rrom, -, rif⟩ := usbSetup_reads port s
    have hrun (q : UsbRequest) (h1 : ∀ r, q ≠ .classGet r) (h2 : ∀ r, q ≠ .classSet r) (rcp : Fin 3) (v : BitVec 16) :=
      exec_usbStandard (q := q) halive hon hup h1 h2 rcp v i n
    have hget : usbGet (usbSetup port.val s) port.val = { usbGet s port.val with waiting := none } := usbGet_usbSetup _ _
    refine ⟨?address, ?config, ?delay, ?sel, ?devStatus, ?ifStatus, ?epStatus, ?wakeOn, ?wakeOff, ?halt, ?otherFeature, ?noIf,
      ?alt, ?chart, ?rom⟩
    case address => exact hrun .setAddress nofun nofun rcp v
    case config =>
      refine (hrun .getConfiguration nofun nofun rcp v).trans ?_
      rw [usbStandard, hget]
    case delay => exact hrun .setIsochDelay nofun nofun rcp v
    case sel => exact hrun .setSel nofun nofun rcp v
    case devStatus => exact (hrun .getStatus nofun nofun 0 v).trans (congrArg _ (getStatus_device.trans (by rw [hget])))
    case ifStatus => exact (hrun .getStatus nofun nofun 1 v).trans (congrArg _ (getStatus_interface.trans (by rw [hget])))
    case epStatus => exact (hrun .getStatus nofun nofun 2 v).trans (congrArg _ (getStatus_endpoint.trans (by rw [hget])))
    case wakeOn => exact hrun .setFeature nofun nofun 0 1
    case wakeOff => exact hrun .clearFeature nofun nofun 0 1
    case halt => exact hrun .setFeature nofun nofun 2 0
    case otherFeature =>
      exact fun hno => ⟨(hrun .setFeature nofun nofun rcp v).trans (congrArg _ (usbFeature_other hno)),
        (hrun .clearFeature nofun nofun rcp v).trans (congrArg _ (usbFeature_other hno))⟩
    case noIf =>
      intro hcfg
      refine (hrun .getInterface nofun nofun rcp v).trans (congrArg _ (if_pos ?_))
      rw [hget]
      exact hcfg
    case alt =>
      intro k hcfg hk
      refine (hrun .getInterface nofun nofun rcp v).trans ?_
      rw [usbStandard, if_neg (by rw [hget]; exact hcfg)]
      simp only [rif, hk]
      rw [ralt]
    case chart =>
      intro d hb hr hd
      refine (hrun .getDescriptor nofun nofun rcp v).trans (congrArg _ (usbGetDescriptor_chart (rbuiltin.trans hb) ?_
        ((rchart _ _).trans hd)))
      simpa [usbSet, usbSetup] using hr
    case rom =>
      exact fun d hb hd => (hrun .getDescriptor nofun nofun rcp v).trans (congrArg _
        (usbGetDescriptor_builtin (rbuiltin.trans hb) ((rrom _ _).trans hd)))
  case held =>
    intro hcp
    exact ⟨fun c => congrArg _ (cpRequest_held halive hon hup hcp), fun i a => congrArg _ (cpRequest_held halive hon hup hcp),
      fun e hz => congrArg _ (cpRequest_held halive hon hup hcp), fun u c m v => congrArg _ (cpRequest_held halive hon hup hcp),
      congrArg _ (cpRequest_held halive hon hup hcp)⟩
  case zeroed =>
    intro c hcp hc hzero
    obtain ⟨-, rconfig, -, ralt, -⟩ := usbSetup_reads port s
    have h0 : c.toNat = 0 ↔ c = 0 := ⟨fun e => BitVec.eq_of_toNat_eq e, fun e => by rw [e]; rfl⟩
    rw [exec_setConfiguration halive hon hup hcp, setConfiguration_taken (by rw [rconfig]; exact hc.imp_left h0.mpr),
      usbAllZero_still fun i hi => (ralt i).trans (hzero i hi)]
    simp only [h0]
  case configured =>
    intro c hcp hc
    obtain ⟨-, rconfig, -⟩ := usbSetup_reads port s
    rw [exec_setConfiguration halive hon hup hcp, setConfiguration_taken (by
      rw [rconfig]; exact hc.imp_left fun e => by rw [e]; rfl)]
    refine ⟨_, rfl, ?_⟩
    rw [usbAnswer, usbGet_usbMod, usbGet_usbMod]
    exact ⟨rfl, rfl, rfl⟩
  case badConfig =>
    intro c hcp h0 hne
    obtain ⟨-, rconfig, -⟩ := usbSetup_reads port s
    rw [exec_setConfiguration halive hon hup hcp, setConfigurationDo, if_pos ⟨fun e => h0 (BitVec.eq_of_toNat_eq e), by
      rw [rconfig]; exact hne⟩]
  case unconfigured =>
    intro ifc alt hcp hcfg
    rw [exec_setInterface halive hon hup hcp, setInterfaceDo, if_pos (by rw [usbGet_usbSetup]; exact hcfg)]
  case taken =>
    exact fun ifc alt i r hcp hcfg halt hi hr hfree hoff hfit =>
      setInterface_taken halive hon hup hcp hcfg halt hi hr hfree hoff hfit
  case absent =>
    intro ifc alt i hcp hcfg halt hi hr
    obtain ⟨rbuiltin, -, -, -, rrecord, -, -, -, -, rif⟩ := usbSetup_reads port s
    rw [exec_setInterface halive hon hup hcp, setInterface_named (by rw [usbGet_usbSetup]; exact hcfg)
      (by simp only [rbuiltin, rif]; exact hi), usbSetAlt_absent (s := takeLog (usbSetup port.val s))
      (fun e => halt (BitVec.eq_of_toNat_eq e)) ((rrecord _ _).trans hr), (usbSetup_others _ _).1]
    rfl
  case unfit =>
    intro ifc alt i r hcp hcfg halt hi hr hfit
    obtain ⟨rbuiltin, -, rfit, -, rrecord, -, -, -, -, rif⟩ := usbSetup_reads port s
    rw [exec_setInterface halive hon hup hcp, setInterface_named (by rw [usbGet_usbSetup]; exact hcfg)
      (by simp only [rbuiltin, rif]; exact hi), usbSetAlt_unfit (s := takeLog (usbSetup port.val s))
      (fun e => halt (BitVec.eq_of_toNat_eq e)) ((rrecord _ _).trans hr) (rfit.trans hfit), (usbSetup_others _ _).1]
    rfl
  case rate =>
    intro e hz c hcp hb he hc
    obtain ⟨rbuiltin, -, -, -, -, rrate, -⟩ := usbSetup_reads port s
    rw [exec_frequency halive hon hup hcp, frequencyDo_found (rbuiltin.trans hb) (by simpa [usbSet, usbSetup] using he)
      ((rrate _).trans hc), (usbSetup_others _ _).1, usbDomain, usbEntry_usbSetup]
    rfl
  case notClock =>
    intro e hz hcp hbad
    obtain ⟨rbuiltin, -⟩ := usbSetup_reads port s
    rw [exec_frequency halive hon hup hcp, frequencyDo, if_pos (by rw [rbuiltin]; simpa [usbSet, usbSetup] using hbad)]
  case feature =>
    intro unit ch v r hcp hr w
    obtain ⟨-, -, -, -, -, -, -, -, rfu, -⟩ := usbSetup_reads port s
    have hsets (m : Bool) := featureDo_sets (isMute := m) (value := v) ((rfu _ _).trans hr) (by rw [usbGet_usbSetup]; exact w)
    refine ⟨⟨_, exec_feature halive hon hup hcp, (hsets true).1, congrArg Feature.mute (hsets true).2⟩,
      ⟨_, exec_feature halive hon hup hcp, (hsets false).1, (congrArg Feature.volume (hsets false).2).trans ?_⟩⟩
    rw [featureAsked, if_neg (by decide), usbEntry_usbSetup]
  case noFeature =>
    intro unit ch m v hcp hr
    obtain ⟨-, -, -, -, -, -, -, -, rfu, -⟩ := usbSetup_reads port s
    rw [exec_feature halive hon hup hcp, featureDo_absent ((rfu _ _).trans hr)]
  case detach =>
    intro hcp hst hopen hcan
    rw [exec_dfuDetach halive hon hup hcp, dfuDetachDo, if_neg (by rw [usbGet_usbSetup]; exact hst), if_pos ?_]
    rw [isOpen_usbSetup, canChange_usbSetup, hopen, hcan]
    rfl
  case noDetach =>
    intro hcp hbad
    rw [exec_dfuDetach halive hon hup hcp, dfuDetachDo, usbGet_usbSetup, isOpen_usbSetup, canChange_usbSetup]
    dsimp only
    split
    case isTrue => rfl
    case isFalse hst =>
      refine congrArg _ (if_neg ?_)
      rcases hbad with h | h | h
      · exact absurd h hst
      · simp [h]
      · simp [h]
  case vendor =>
    rintro read bytes w hst hcp rfl
    have hw : (if cpPresent (vendorRead port.val read s) then flushReplies (vendorRead port.val read s)
        else vendorRead port.val read s) = flushReplies (vendorRead port.val read s) := if_pos hcp
    refine ⟨fun htaken => (exec_usbVendor hst hw).trans (congrArg _ (if_pos htaken)),
      fun hfull => (exec_usbVendor hst hw).trans (congrArg _ (if_neg ?_))⟩
    have hnum : ctxNum (ctxOf (2 + port.val)) = 2 + port.val := by
      match port with
      | 0 => rfl
      | 1 => rfl
    have hroom : replyRoom (flushReplies (vendorRead port.val read s)) (2 + port.val) = 0 := by
      rw [replyRoom, if_pos (by omega)]
      exact Nat.sub_eq_zero_of_le hfull
    simp [packetsTaken, hnum, hroom]
  case vendorLate =>
    intro read bytes hst hcp
    have hgone : cpPresent (vendorRead port.val read s) = false := hcp
    refine (exec_usbVendor hst (if_neg (by simp [hgone]))).trans (congrArg _ (if_neg ?_))
    simp [packetsTaken, hgone]
  case connects =>
    intro hharbour hsleep hst halive hvusb hcmd hre hport
    rw [exec_vbusChange_awake hsleep]
    refine ⟨_, rfl, ?_⟩
    rw [vbusChange_up halive hvusb hcmd hre hport hst]
    obtain ⟨hport, hrest⟩ := usbAttach_spec (p := port.val) (cause := 0) (log := 0) (s := usbMod s port.val vbusUp)
      (by simpa using hharbour)
    exact ⟨congrArg Usb.st hport, (congrArg Usb.vbus hport).trans (congrArg Usb.vbus (usbGet_usbMod s port.val vbusUp)),
      .of_restPorts (hrest.trans (usbMod_restPorts _ _ _))⟩
  case leaves =>
    exact ⟨_, rfl, vbusChange_down port.val _⟩
  case resets =>
    intro sp halive hst hsp
    exact ⟨_, show execUsbBusReset port sp s = _ from whenever_true (by simpa [halive, hst] using hsp),
      usbBusReset_spec port.val (sp.val + 1) (wakeFor 3 s)⟩
  case suspends =>
    intro halive hst hup
    obtain ⟨h1, -⟩ := (usbStreamsStop_core port.val s).fields port.val
    refine ⟨_, show execUsbSuspend port s = _ from whenever_true (by simp [halive, hst, hup]), ?_⟩
    rw [postUsbState, postUsb, usbGet_post, usbGet_usbMod]
    exact ⟨rfl, rfl, h1⟩
  case resumes =>
    intro halive hsleep hst
    refine ⟨_, show execUsbResume port s = _ from whenever_true (by simp [halive, hst]), ?_⟩
    rw [wakeFor_awake hsleep]
    exact usbResume_spec port.val s
  case wakes =>
    intro hsleep hst
    refine ⟨usbResume port.val (wake 3 s), (show execUsbResume port s = _ from whenever_true (by simp [usbAlive, hsleep, hst])).trans
      ?_, rfl, (usbResume_spec port.val _).2.1⟩
    exact congrArg (fun u => Host.Outcome.next (usbResume port.val u)) (if_pos hsleep)
  case signals =>
    intro hst hen hdue hspeed
    exact (show execUsbRemoteWakeSignal port s = _ from whenever_true (by simp [hst, hen, hdue])).trans
      (congrArg _ (if_neg hspeed))
  case functionWake =>
    intro hst hen hdue hspeed
    obtain ⟨h1, h2, -⟩ := usbResume_spec port.val s
    refine ⟨_, (show execUsbRemoteWakeSignal port s = _ from whenever_true (by simp [hst, hen, hdue])).trans
      (congrArg _ (if_pos hspeed)), ?_⟩
    rw [usbGet_usbMod]
    exact ⟨rfl, h1, h2⟩
  case accepts =>
    intro k halive hst hup hlpm hzero hspeed
    refine (show execUsbLinkPowerRequest port k s = _ from whenever_true (by simp [halive, hst, hup])).trans ?_
    simp only [hlpm, all_alts_zero hzero, hspeed, Bool.and_self, beq_self_eq_true, if_true]
  case rejects =>
    intro k halive hst hup hbad
    refine (show execUsbLinkPowerRequest port k s = _ from whenever_true (by simp [halive, hst, hup])).trans ?_
    have hno : (bit (u8 (usbEntry s port.val) 0) 2 && (List.range 4).all (fun i => usbAlt s port.val i == 0)
        && (usbGet s port.val).speed == (if k = 0 then 2 else 3)) = false := by
      rcases hbad with h | ⟨i, hi, h⟩ | h
      · simp [h]
      · have hany : (List.range 4).all (fun i => usbAlt s port.val i == 0) = false := by
          rw [List.all_eq_false]
          exact ⟨i, List.mem_range.mpr hi, by simpa using h⟩
        simp [hany]
      · simp [h]
    simp only [hno, Bool.false_eq_true, if_false]
  case reconnects =>
    exact fun hre hsel => show execUsbReconnect port s = _ from whenever_true (by simp [hre, hsel])
  case feedback =>
    intro i rm fill lost r hst halt hfit hr
    exact exec_usbFeedback hst halt hfit hr
  case interval =>
    intro i hst halt hfit
    change execUsbCaptureInterval port i s = _
    unfold execUsbCaptureInterval
    exact whenever_true (by simp [hst, halt, hfit])
  case report =>
    intro x r hcp hst hreports
    refine (show execHidReportSend port s = _ from whenever_true (by simp [hcp, hst, hreports])).trans (congrArg _ (usbMod_congr ?_))
    rw [hreports]
    rfl
  case timeout => exact fun h => show execDfuDetachTimeout port s = _ from whenever_true h

end Sys2Proof
end

section
/-! PROOF. DFU: downloads, their end, an abort, the clearing of a status, and the reset after manifestation. -/

namespace Sys2Proof.Machine

/-- A DFU request on a port in DFU mode, where the CP runs. -/
theorem dfuRequest_runs {p : Nat} {h : UsbHeld} {act : State → State} {s : State} (halive : usbAlive s = true)
    (hst : (usbGet s p).st = 4) (hcp : cpRuns s = true) :
    cpRequest p h (dfuOnly p act) s = act (usbSetup p s) := by
  rw [cpRequest_runs halive (by omega) (by omega) hcp, dfuOnly, if_pos (by rw [usbGet_usbSetup]; exact hst)]

theorem usbSetup_fw (p : Nat) (s : State) : (usbSetup p s).fw = s.fw := by simp [usbSetup]

theorem dfuOpens_usbSetup (p q : Nat) (s : State) : dfuOpens (usbSetup p s) q = dfuOpens s q := by
  rw [dfuOpens, usbSetup_fw]
  rfl

/-- A download of a whole block on a port that expects it. -/
theorem dfuDnload_block {p k : Nat} {d : List Byte} {s : State} (hst : (usbGet s p).dfuState = 2 ∨ (usbGet s p).dfuState = 5)
    (hlen : d.length = 4096) :
    dfuDnload p k d s = if !dfuOpens s p then dfuBlock p k d s
      else if fwBeginAllowed s then dfuBlock p k d (fwBegin (dfuCtx p) 0 s) else dfuError p 15 s := by
  have hne : d ≠ [] := by
    rintro rfl
    simp at hlen
  rw [dfuDnload, if_neg (by rcases hst with h | h <;> simp [h]), if_neg hne, if_neg (by simpa using hlen)]

/-- A block that a session takes, not yet held by the NVM (R432). -/
theorem dfuBlock_taken {p k : Nat} {d : List Byte} {s : State}
    (hses : (s.fw.session.st = 1 ∧ k = 0) ∨ (s.fw.session.st = 2 ∧ k < blockCount s.fw.session.header))
    (hjobs : s.fw.session.jobs.length < 2) (hgood : blockRefusal s k d = none)
    (hfree : nvmHeld (blockAccepted k d (.dfu p) (dropChunks k s)) = false) :
    dfuBlock p k d s = usbAnswer p [] (usbMod (blockAccepted k d (.dfu p) (dropChunks k s)) p
      (fun u => { u with dfuState := 4, dfuStatus := 0 })) := by
  have hopen : (!decide (s.fw.session.st ∈ [1, 2]) || (s.fw.session.st == 1 && k != 0)) = false := by
    rcases hses with ⟨h1, h2⟩ | ⟨h1, -⟩
    · simp [h1, h2]
    · simp [h1]
  have hnum : ¬ (s.fw.session.st = 2 ∧ blockCount s.fw.session.header ≤ k) := by
    rcases hses with ⟨h1, -⟩ | ⟨-, h2⟩
    · omega
    · omega
  unfold dfuBlock
  simp only [hopen, hnum, Nat.not_le.mpr hjobs, hgood, hfree, Bool.false_eq_true, if_false]

/-- A block that finds two others being written is held. -/
theorem dfuBlock_waits {p k : Nat} {d : List Byte} {s : State} (hses : s.fw.session.st = 2)
    (hnum : k < blockCount s.fw.session.header) (hjobs : 2 ≤ s.fw.session.jobs.length) :
    dfuBlock p k d s = usbHold p (.dfuDnload k d) s := by
  unfold dfuBlock
  rw [if_neg (by simp [hses]), if_neg (by omega), if_pos hjobs]

/-- A port that leaves DFU mode is attached again. -/
theorem dfuRuntime_port (p : Nat) (s : State) : usbGet (dfuRuntime p s) p
    = { usbGet s p with st := 1, dfuMode := false, manifested := false, dfuState := 0, dfuStatus := 0 } :=
  (usbGet_post _ _ _ _ _ _ _).trans (usbGet_usbMod s p _)

end Sys2Proof.Machine

namespace Sys2Proof
open Sys2Proof.Machine

/-- Settles O50: DFU downloads, their end, aborts and the reset after manifestation on a port in DFU mode. -/
theorem dfuStepsTakeEffect : Obligations.DfuStepsTakeEffect := by
  rintro port s w halive hst hcp rfl
  have hfw : (usbSetup port.val s).fw = s.fw := usbSetup_fw port.val s
  have hstate : (usbGet (usbSetup port.val s) port.val).dfuState = (usbGet s port.val).dfuState := by rw [usbGet_usbSetup]
  refine ⟨?block, ?begins, ?waits, ?ends, ?foreign, ?aborts, ?clears, ?harbour, ?runtime⟩
  case block =>
    intro k d hdfu hlen hopens hses hjobs hgood hfree
    refine congrArg Host.Outcome.next ((dfuRequest_runs (act := dfuDnload port.val k.toNat d) halive hst hcp).trans ?_)
    rw [dfuDnload_block (by rw [hstate]; exact hdfu) hlen, if_pos (by simp [dfuOpens_usbSetup, hopens]),
      dfuBlock_taken (by rw [hfw]; exact hses.imp_left fun h => ⟨h.1, by rw [h.2]; rfl⟩) (by rw [hfw]; exact hjobs) hgood hfree]
  case begins =>
    intro k d hdfu hlen hopens hallowed
    refine congrArg Host.Outcome.next ((dfuRequest_runs (act := dfuDnload port.val k.toNat d) halive hst hcp).trans ?_)
    rw [dfuDnload_block (by rw [hstate]; exact hdfu) hlen, if_neg (by simp [dfuOpens_usbSetup, hopens]), if_pos hallowed]
  case waits =>
    intro k d hdfu hlen hopens hses hnum hjobs
    refine congrArg Host.Outcome.next ((dfuRequest_runs (act := dfuDnload port.val k.toNat d) halive hst hcp).trans ?_)
    rw [dfuDnload_block (by rw [hstate]; exact hdfu) hlen, if_pos (by simp [dfuOpens_usbSetup, hopens]),
      dfuBlock_waits (by rw [hfw]; exact hses) (by rw [hfw]; exact hnum) (by rw [hfw]; exact hjobs)]
  case ends =>
    intro k hdfu howner hses
    refine congrArg Host.Outcome.next ((dfuRequest_runs (act := dfuDnload port.val k.toNat []) halive hst hcp).trans ?_)
    rw [dfuDnload, if_neg (by rw [hstate]; rcases hdfu with h | h <;> simp [h]), if_pos rfl, dfuEnd, if_pos (by rw [hfw]; exact ⟨howner, hses⟩)]
  case foreign =>
    intro howner
    refine congrArg Host.Outcome.next ((dfuRequest_runs (act := dfuAbort port.val) halive hst hcp).trans ?_)
    rw [dfuAbort, if_pos (by rw [hfw]; exact howner)]
    rfl
  case aborts =>
    intro howner hses
    refine congrArg Host.Outcome.next ((dfuRequest_runs (act := dfuAbort port.val) halive hst hcp).trans ?_)
    rw [dfuAbort, if_neg (by rw [hfw]; exact not_not.mpr howner), if_neg (by rw [hfw]; exact hses)]
    rfl
  case clears => exact congrArg Host.Outcome.next (dfuRequest_runs (act := dfuClear port.val) halive hst hcp)
  case harbour =>
    exact fun hman hdev => (show execDfuManifestReset port s = _ from whenever_true (by simp [hcp, hman])).trans
      (congrArg _ (if_pos hdev))
  case runtime =>
    intro hman hdev hmode hses hnone
    have hfw' : (dfuRuntime port.val s).fw = s.fw := by simp [dfuRuntime, postUsbState, postUsb]
    have hlog : (dfuRuntime port.val s).host.log = s.host.log := by simp [dfuRuntime, postUsbState, postUsb]
    have hport := dfuRuntime_port port.val s
    have hdo : dfuManifestReset port.val s = fwMod (takeLog (dfuRuntime port.val s)) (fun f =>
        { f with activate := some (none, s.host.log) }) := by
      unfold dfuManifestReset
      simp only [hdev, hmode, if_true, if_false]
      rw [if_pos (by rw [hfw', hnone]; exact ⟨hses, rfl⟩), hlog]
    refine ⟨_, (show execDfuManifestReset port s = _ from whenever_true (by simp [hcp, hman])).trans (congrArg _ hdo), rfl,
      congrArg Usb.st hport, congrArg Usb.dfuMode hport, congrArg nextLog hlog, ?_⟩
    rw [onlyHost_iff]
    simp [takeLog, fwMod, dfuRuntime, postUsbState, postUsb]

end Sys2Proof
end

section
/-! PROOF. What the members' starts and a dropped reference leave of the network, and what a change of the clock keeps. -/

namespace Sys2Proof.Machine

/-- The network part of a state. -/
def NetAt (v : NetState) (s : State) : Prop := s.net = v

theorem NetAt.ite {v : NetState} {c : Prop} {dec : Decidable c} {s t : State} (hs : NetAt v s)
    (ht : NetAt v t) : NetAt v (if c then s else t) := by
  split
  · exact hs
  · exact ht

theorem NetAt.pairIte {v : NetState} {α : Type} {c : Prop} {dec : Decidable c} {x y : α × State}
    (hx : NetAt v x.2) (hy : NetAt v y.2) : NetAt v (if c then x else y).2 := by
  split
  · exact hx
  · exact hy

theorem NetAt.foldl {v : NetState} {s : State} {β : Type} {f : State → β → State} {l : List β}
    (inv : NetAt v s) (h : ∀ t x, NetAt v t → NetAt v (f t x)) :
    NetAt v (l.foldl f s) :=
  foldl_inv (fun t : State => NetAt v t) f h l s inv

theorem NetAt.posted {v : NetState} {s : State} {code inst log data : Nat} {cn : Concern}
    (inv : NetAt v s) : NetAt v (Machine.post code inst log data cn s) := by
  simpa [NetAt] using inv

theorem NetAt.drawElapsed {v : NetState} {s : State} (inv : NetAt v s) :
    NetAt v (Machine.drawElapsed s).2 :=
  inv

theorem NetAt.domMod {v : NetState} {s : State} {d : Nat} {f : Domain → Domain} (inv : NetAt v s) :
    NetAt v (Machine.domMod s d f) :=
  inv

theorem NetAt.convMod {v : NetState} {s : State} {k : Nat} {f : Convoy → Convoy} (inv : NetAt v s) :
    NetAt v (Machine.convMod s k f) :=
  inv

theorem NetAt.memMod {v : NetState} {s : State} {k m : Nat} {f : Member → Member} (inv : NetAt v s) :
    NetAt v (Machine.memMod s k m f) :=
  .convMod inv

theorem NetAt.pllMod {v : NetState} {s : State} {p : Nat} {f : Pll → Pll} (inv : NetAt v s) :
    NetAt v (Machine.pllMod s p f) :=
  .ite inv inv

theorem NetAt.postMuted {v : NetState} {s : State} {k members cause log : Nat} (inv : NetAt v s) :
    NetAt v (Machine.postMuted k members cause log s) :=
  .ite (.posted (.convMod (.pairIte (.drawElapsed (.convMod inv)) (.convMod inv))))
    (.pairIte (.drawElapsed (.convMod inv)) (.convMod inv))

theorem NetAt.convCount {v : NetState} {s : State} {k i : Nat} (inv : NetAt v s) :
    NetAt v (Machine.convCount k i s) :=
  .convMod inv

theorem NetAt.muteConvoy {v : NetState} {s : State} {log k : Nat} (inv : NetAt v s) :
    NetAt v (Machine.muteConvoy log s k) :=
  .ite inv (.postMuted (.convCount (.convMod inv)))

theorem NetAt.postPll {v : NetState} {s : State} {p log : Nat} (inv : NetAt v s) :
    NetAt v (Machine.postPll p log s) :=
  .posted inv

theorem NetAt.setPllMode {v : NetState} {s : State} {p mode log : Nat} (inv : NetAt v s) :
    NetAt v (Machine.setPllMode p mode log s) :=
  .ite (.pllMod inv) (.ite inv (.postPll (.pllMod inv)))

theorem NetAt.pllsFollow {v : NetState} {s : State} {d log : Nat} (inv : NetAt v s) :
    NetAt v (Machine.pllsFollow d log s) :=
  .foldl inv (fun _ _ h => .ite (.ite (.setPllMode h) (.ite (.setPllMode h) h)) h)

theorem NetAt.leaveLocked {v : NetState} {s : State} {d cause log : Nat} (inv : NetAt v s) :
    NetAt v (Machine.leaveLocked d cause log s) :=
  .pllsFollow (.foldl (.posted inv) (fun _ _ h => .muteConvoy h))

theorem NetAt.unlockFor {v : NetState} {s : State} {d cause log : Nat} (inv : NetAt v s) :
    NetAt v (Machine.unlockFor d cause log s) :=
  .ite inv (.ite (.leaveLocked (.domMod inv)) (.domMod inv))

theorem NetAt.startFadeOut {v : NetState} {s : State} {k m : Nat} (inv : NetAt v s) :
    NetAt v (Machine.startFadeOut k m s) :=
  .memMod inv

theorem NetAt.startFadeIn {v : NetState} {s : State} {k m : Nat} (inv : NetAt v s) :
    NetAt v (Machine.startFadeIn k m s) :=
  .memMod inv

theorem NetAt.startMember {v : NetState} {s : State} {k m : Nat} (inv : NetAt v s) :
    NetAt v (Machine.startMember k m s) :=
  .ite inv (.memMod inv)

theorem NetAt.stopMember {v : NetState} {s : State} {k m : Nat} (inv : NetAt v s) :
    NetAt v (Machine.stopMember k m s) :=
  .ite inv (.ite (.memMod (.foldl inv (fun _ _ h => .startFadeOut h))) (.ite (.memMod inv) (.memMod inv)))

theorem NetAt.startMembers {v : NetState} {s : State} {port sub : Nat} {egress : Bool} (inv : NetAt v s) :
    NetAt v (Machine.startMembers port sub egress s) :=
  .foldl inv (fun _ _ h => .startMember h)

theorem NetAt.lockstepStart {v : NetState} {s : State} {k : Nat} (inv : NetAt v s) :
    NetAt v (Machine.lockstepStart k s) :=
  .ite (.foldl inv (fun _ _ h => .startFadeIn h)) inv

theorem NetAt.settleIndex {v : NetState} {s : State} {k : Nat} (inv : NetAt v s) :
    NetAt v (Machine.settleIndex k s) :=
  .ite (.lockstepStart (.convMod inv)) inv

theorem NetAt.stopMembers {v : NetState} {s : State} {port sub : Nat} {egress : Bool} (inv : NetAt v s) :
    NetAt v (Machine.stopMembers port sub egress s) :=
  .foldl inv (fun _ _ h => .settleIndex (.stopMember h))

theorem NetAt.dropReference {v : NetState} {s : State} {kind i log : Nat} (inv : NetAt v s) :
    NetAt v (Machine.dropReference kind i log s) :=
  .foldl inv (fun _ _ h => .ite (.unlockFor h) h)

/-- The gPTP settings of a state: its priorities and the asymmetry of its link. -/
def SettingsAt (v : Nat × Nat × Int) (s : State) : Prop :=
  (s.net.gptp.priority1, s.net.gptp.priority2, s.net.gptp.asymmetry) = v

theorem SettingsAt.ite {v : Nat × Nat × Int} {c : Prop} {dec : Decidable c} {s t : State} (hs : SettingsAt v s)
    (ht : SettingsAt v t) : SettingsAt v (if c then s else t) := by
  split
  · exact hs
  · exact ht

theorem SettingsAt.pairIte {v : Nat × Nat × Int} {α : Type} {c : Prop} {dec : Decidable c} {x y : α × State}
    (hx : SettingsAt v x.2) (hy : SettingsAt v y.2) : SettingsAt v (if c then x else y).2 := by
  split
  · exact hx
  · exact hy

theorem SettingsAt.foldl {v : Nat × Nat × Int} {s : State} {β : Type} {f : State → β → State} {l : List β}
    (inv : SettingsAt v s) (h : ∀ t x, SettingsAt v t → SettingsAt v (f t x)) :
    SettingsAt v (l.foldl f s) :=
  foldl_inv (fun t : State => SettingsAt v t) f h l s inv

theorem SettingsAt.posted {v : Nat × Nat × Int} {s : State} {code inst log data : Nat} {cn : Concern}
    (inv : SettingsAt v s) : SettingsAt v (Machine.post code inst log data cn s) := by
  simpa [SettingsAt] using inv

theorem SettingsAt.drawElapsed {v : Nat × Nat × Int} {s : State} (inv : SettingsAt v s) :
    SettingsAt v (Machine.drawElapsed s).2 :=
  inv

theorem SettingsAt.netMod {v : Nat × Nat × Int} {s : State} {f : NetState → NetState} (inv : SettingsAt v s)
    (hf : ∀ n, (f n).gptp = n.gptp := by intros; rfl) : SettingsAt v (Machine.netMod s f) := by
  unfold SettingsAt
  rw [netMod_net, hf]
  exact inv

theorem SettingsAt.streamMod {v : Nat × Nat × Int} {s : State} {n : Nat} {f : Machine.Stream → Machine.Stream}
    (inv : SettingsAt v s) : SettingsAt v (Machine.streamMod s n f) :=
  .netMod inv

theorem SettingsAt.domMod {v : Nat × Nat × Int} {s : State} {d : Nat} {f : Domain → Domain}
    (inv : SettingsAt v s) : SettingsAt v (Machine.domMod s d f) :=
  inv

theorem SettingsAt.convMod {v : Nat × Nat × Int} {s : State} {k : Nat} {f : Convoy → Convoy}
    (inv : SettingsAt v s) : SettingsAt v (Machine.convMod s k f) :=
  inv

theorem SettingsAt.pllMod {v : Nat × Nat × Int} {s : State} {p : Nat} {f : Pll → Pll} (inv : SettingsAt v s) :
    SettingsAt v (Machine.pllMod s p f) :=
  .ite inv inv

theorem SettingsAt.postMuted {v : Nat × Nat × Int} {s : State} {k members cause log : Nat}
    (inv : SettingsAt v s) : SettingsAt v (Machine.postMuted k members cause log s) :=
  .ite (.posted (.convMod (.pairIte (.drawElapsed (.convMod inv)) (.convMod inv))))
    (.pairIte (.drawElapsed (.convMod inv)) (.convMod inv))

theorem SettingsAt.convCount {v : Nat × Nat × Int} {s : State} {k i : Nat} (inv : SettingsAt v s) :
    SettingsAt v (Machine.convCount k i s) :=
  .convMod inv

theorem SettingsAt.muteConvoy {v : Nat × Nat × Int} {s : State} {log k : Nat} (inv : SettingsAt v s) :
    SettingsAt v (Machine.muteConvoy log s k) :=
  .ite inv (.postMuted (.convCount (.convMod inv)))

theorem SettingsAt.postPll {v : Nat × Nat × Int} {s : State} {p log : Nat} (inv : SettingsAt v s) :
    SettingsAt v (Machine.postPll p log s) :=
  .posted inv

theorem SettingsAt.setPllMode {v : Nat × Nat × Int} {s : State} {p mode log : Nat} (inv : SettingsAt v s) :
    SettingsAt v (Machine.setPllMode p mode log s) :=
  .ite (.pllMod inv) (.ite inv (.postPll (.pllMod inv)))

theorem SettingsAt.pllsFollow {v : Nat × Nat × Int} {s : State} {d log : Nat} (inv : SettingsAt v s) :
    SettingsAt v (Machine.pllsFollow d log s) :=
  .foldl inv (fun _ _ h => .ite (.ite (.setPllMode h) (.ite (.setPllMode h) h)) h)

theorem SettingsAt.leaveLocked {v : Nat × Nat × Int} {s : State} {d cause log : Nat} (inv : SettingsAt v s) :
    SettingsAt v (Machine.leaveLocked d cause log s) :=
  .pllsFollow (.foldl (.posted inv) (fun _ _ h => .muteConvoy h))

theorem SettingsAt.unlockFor {v : Nat × Nat × Int} {s : State} {d cause log : Nat} (inv : SettingsAt v s) :
    SettingsAt v (Machine.unlockFor d cause log s) :=
  .ite inv (.ite (.leaveLocked (.domMod inv)) (.domMod inv))

theorem SettingsAt.macMod {v : Nat × Nat × Int} {s : State} {f : Mac → Mac} (inv : SettingsAt v s) :
    SettingsAt v (Machine.macMod s f) :=
  inv

theorem SettingsAt.postEthFor {v : Nat × Nat × Int} {s : State} {log code inst data : Nat}
    (inv : SettingsAt v s) : SettingsAt v (Machine.postEthFor log code inst data s) :=
  .posted inv

theorem SettingsAt.postEth {v : Nat × Nat × Int} {s : State} {code inst data : Nat} (inv : SettingsAt v s) :
    SettingsAt v (Machine.postEth code inst data s) :=
  .postEthFor inv

theorem SettingsAt.halfSet {v : Nat × Nat × Int} {s : State} {g i : Nat} (inv : SettingsAt v s) :
    SettingsAt v (Machine.halfSet g i s) :=
  .ite (.macMod (.macMod inv)) (.postEth (.macMod (.macMod inv)))

theorem SettingsAt.macAdd {v : Nat × Nat × Int} {s : State} {g i n : Nat} (inv : SettingsAt v s) :
    SettingsAt v (Machine.macAdd g i n s) :=
  .ite (.halfSet (.macMod inv)) (.macMod inv)

theorem SettingsAt.macCount {v : Nat × Nat × Int} {s : State} {g i : Nat} (inv : SettingsAt v s) :
    SettingsAt v (Machine.macCount g i s) :=
  .macAdd inv

theorem SettingsAt.offerControl {v : Nat × Nat × Int} {s : State} {kind : Nat} {dest : List Byte} {type : Nat}
    {body : List Byte} (inv : SettingsAt v s) : SettingsAt v
    (Machine.offerControl kind dest type body s) :=
  .ite inv (.ite (.macCount inv) (.ite (.macCount inv) (.macMod inv)))

theorem SettingsAt.freeField {v : Nat × Nat × Int} {s : State} {n : Nat} (inv : SettingsAt v s) :
    SettingsAt v (Machine.freeField n s).2 :=
  inv

theorem SettingsAt.gptpSend {v : Nat × Nat × Int} {s : State} {type interval : Nat} {given : List Byte} {n : Nat}
    (inv : SettingsAt v s) : SettingsAt v (Machine.gptpSend type interval given n s) :=
  .offerControl (.freeField inv)

theorem SettingsAt.sendAnnounce {v : Nat × Nat × Int} {s : State} (inv : SettingsAt v s) :
    SettingsAt v (Machine.sendAnnounce s) :=
  .gptpSend (.freeField inv)

theorem SettingsAt.crfMod {v : Nat × Nat × Int} {s : State} {k : Nat} {f : Machine.Stream → Machine.Stream}
    (inv : SettingsAt v s) : SettingsAt v (Machine.crfMod s k f) :=
  .netMod inv

theorem SettingsAt.dropReference {v : Nat × Nat × Int} {s : State} {kind i log : Nat} (inv : SettingsAt v s) :
    SettingsAt v (Machine.dropReference kind i log s) :=
  .foldl inv (fun _ _ h => .ite (.unlockFor h) h)

theorem SettingsAt.enterStream {v : Nat × Nat × Int} {s : State} {n st cause log : Nat} (inv : SettingsAt v s)
    : SettingsAt v (Machine.enterStream n st cause log s) :=
  .ite inv (.ite (.dropReference (.posted (.streamMod inv))) (.posted (.streamMod inv)))

theorem SettingsAt.enterCrf {v : Nat × Nat × Int} {s : State} {k st log : Nat} (inv : SettingsAt v s) :
    SettingsAt v (Machine.enterCrf k st log s) :=
  .ite inv (.ite (.dropReference (.postEthFor (.crfMod inv))) (.postEthFor (.crfMod inv)))

theorem SettingsAt.refreshStream {v : Nat × Nat × Int} {s : State} {cause log n : Nat} (inv : SettingsAt v s)
    : SettingsAt v (Machine.refreshStream cause log s n) :=
  .ite (.enterStream inv) inv

theorem SettingsAt.refreshCrf {v : Nat × Nat × Int} {s : State} {log k : Nat} (inv : SettingsAt v s) :
    SettingsAt v (Machine.refreshCrf log s k) :=
  .ite (.enterCrf inv) inv

theorem SettingsAt.refreshStreams {v : Nat × Nat × Int} {s : State} {cause log : Nat} (inv : SettingsAt v s) :
    SettingsAt v (Machine.refreshStreams cause log s) :=
  .foldl (.foldl inv (fun _ _ h => .refreshStream h)) (fun _ _ h => .refreshCrf h)

theorem SettingsAt.gptpMod {v : Nat × Nat × Int} {s : State} {f : Gptp → Gptp} (inv : SettingsAt v s)
    (hf : ∀ g, ((f g).priority1, (f g).priority2, (f g).asymmetry) = (g.priority1, g.priority2, g.asymmetry) := by intros; rfl) :
    SettingsAt v (Machine.gptpMod s f) := by
  unfold SettingsAt
  rw [gptpMod_gptp, hf]
  exact inv

theorem SettingsAt.adpSend {v : Nat × Nat × Int} {s : State} {message : Nat} (inv : SettingsAt v s) :
    SettingsAt v (Machine.adpSend message s) :=
  .ite inv (.offerControl (.netMod (.freeField (.freeField inv))))

theorem SettingsAt.enterGptp {v : Nat × Nat × Int} {s : State} {st cause log : Nat} (inv : SettingsAt v s) :
    SettingsAt v (Machine.enterGptp st cause log s) :=
  .ite inv (.refreshStreams (.postEthFor (.gptpMod inv)))

theorem SettingsAt.setGrandmaster {v : Nat × Nat × Int} {s : State} {id : BitVec 64} {steps : Nat}
    (inv : SettingsAt v s) : SettingsAt v (Machine.setGrandmaster id steps s) :=
  .ite (.gptpMod inv) (.adpSend (.gptpMod inv))

theorem SettingsAt.becomeGrandmaster {v : Nat × Nat × Int} {s : State} {log : Nat} (inv : SettingsAt v s) :
    SettingsAt v (Machine.becomeGrandmaster log s) :=
  .ite (.sendAnnounce (.enterGptp (.setGrandmaster (.gptpMod inv)))) (.enterGptp (.setGrandmaster (.gptpMod inv)))

theorem SettingsAt.becomeListening {v : Nat × Nat × Int} {s : State} {cause log : Nat} (inv : SettingsAt v s)
    : SettingsAt v (Machine.becomeListening cause log s) :=
  .enterGptp (.gptpMod inv)

theorem SettingsAt.followClock {v : Nat × Nat × Int} {s : State} {steps log : Nat} (inv : SettingsAt v s) :
    SettingsAt v (Machine.followClock steps log s) :=
  .ite (.enterGptp (.gptpMod (.setGrandmaster inv))) (.ite (.ite (.gptpMod (.setGrandmaster inv))
    (.setGrandmaster inv)) (.ite (.gptpMod (.setGrandmaster inv)) (.setGrandmaster inv)))

theorem SettingsAt.runBmca {v : Nat × Nat × Int} {s : State} {steps log : Nat} (inv : SettingsAt v s) :
    SettingsAt v (Machine.runBmca steps log s) :=
  .ite (.ite inv (.becomeGrandmaster inv)) (.followClock inv)

theorem SettingsAt.rerunBmca {v : Nat × Nat × Int} {s : State} {log : Nat} (inv : SettingsAt v s) :
    SettingsAt v (Machine.rerunBmca log s) :=
  .ite (.ite (.runBmca inv) inv) (.ite (.becomeListening (.setGrandmaster inv)) inv)

end Sys2Proof.Machine
end

section
/-! PROOF. The network leaves the log number. -/

namespace Sys2Proof.Machine

theorem LogAt.gptpSend {v : Nat} {s : State} {type interval : Nat} {given : List Byte} {n : Nat}
    (inv : LogAt v s.host) : LogAt v (Machine.gptpSend type interval given n s).host :=
  .offerControl (.freeField inv)

theorem LogAt.sendAnnounce {v : Nat} {s : State} (inv : LogAt v s.host) : LogAt v (Machine.sendAnnounce s).host :=
  .gptpSend (.freeField inv)

theorem LogAt.refreshStream {v : Nat} {s : State} {cause log n : Nat} (inv : LogAt v s.host) :
    LogAt v (Machine.refreshStream cause log s n).host :=
  .ite (.enterStream inv) inv

theorem LogAt.refreshCrf {v : Nat} {s : State} {log k : Nat} (inv : LogAt v s.host) :
    LogAt v (Machine.refreshCrf log s k).host :=
  .ite (.enterCrf inv) inv

theorem LogAt.refreshStreams {v : Nat} {s : State} {cause log : Nat} (inv : LogAt v s.host) :
    LogAt v (Machine.refreshStreams cause log s).host :=
  .foldl (.foldl inv (fun _ _ h => .refreshStream h)) (fun _ _ h => .refreshCrf h)

theorem LogAt.streamStart {v : Nat} {s : State} {n : Nat} (inv : LogAt v s.host) :
    LogAt v (Machine.streamStart n s).host :=
  .startMembers inv

theorem LogAt.connectNow {v : Nat} {s : State} {n cause log : Nat} (inv : LogAt v s.host) :
    LogAt v (Machine.connectNow n cause log s).host :=
  .completedAll (.streamStart (.enterStream (.streamMod inv)))

theorem LogAt.connectStream {v : Nat} {s : State} {n cause log : Nat} {ws : List Waiter} (inv : LogAt v s.host) :
    LogAt v (Machine.connectStream n cause log ws s).2.host := by
  unfold Machine.connectStream
  refine .pairIte inv (.pairIte (.connectNow (.streamMod inv))
    (.pairIte (.ite (.connectNow (.streamMod inv)) (.enterStream (.streamMod inv))) ?_))
  split
  · exact inv
  · exact .ite (.connectNow (.streamMod (.activateOverlay inv))) (.enterStream (.streamMod (.activateOverlay inv)))

theorem LogAt.gptpMod {v : Nat} {s : State} {f : Gptp → Gptp} (inv : LogAt v s.host) :
    LogAt v (Machine.gptpMod s f).host :=
  inv

theorem LogAt.enterGptp {v : Nat} {s : State} {st cause log : Nat} (inv : LogAt v s.host) :
    LogAt v (Machine.enterGptp st cause log s).host :=
  .ite inv (.refreshStreams (.postEthFor (.gptpMod inv)))

theorem LogAt.setGrandmaster {v : Nat} {s : State} {id : BitVec 64} {steps : Nat} (inv : LogAt v s.host) :
    LogAt v (Machine.setGrandmaster id steps s).host :=
  .ite (.gptpMod inv) (.adpSend (.gptpMod inv))

theorem LogAt.becomeGrandmaster {v : Nat} {s : State} {log : Nat} (inv : LogAt v s.host) :
    LogAt v (Machine.becomeGrandmaster log s).host :=
  .ite (.sendAnnounce (.enterGptp (.setGrandmaster (.gptpMod inv)))) (.enterGptp (.setGrandmaster (.gptpMod inv)))

theorem LogAt.becomeListening {v : Nat} {s : State} {cause log : Nat} (inv : LogAt v s.host) :
    LogAt v (Machine.becomeListening cause log s).host :=
  .enterGptp (.gptpMod inv)

theorem LogAt.followClock {v : Nat} {s : State} {steps log : Nat} (inv : LogAt v s.host) :
    LogAt v (Machine.followClock steps log s).host :=
  .ite (.enterGptp (.gptpMod (.setGrandmaster inv))) (.ite (.ite (.gptpMod (.setGrandmaster inv))
    (.setGrandmaster inv)) (.ite (.gptpMod (.setGrandmaster inv)) (.setGrandmaster inv)))

theorem LogAt.runBmca {v : Nat} {s : State} {steps log : Nat} (inv : LogAt v s.host) :
    LogAt v (Machine.runBmca steps log s).host :=
  .ite (.ite inv (.becomeGrandmaster inv)) (.followClock inv)

theorem LogAt.rerunBmca {v : Nat} {s : State} {log : Nat} (inv : LogAt v s.host) :
    LogAt v (Machine.rerunBmca log s).host :=
  .ite (.ite (.runBmca inv) inv) (.ite (.becomeListening (.setGrandmaster inv)) inv)

end Sys2Proof.Machine
end

section
/-! PROOF. The network: the commands of group 0x08. -/

namespace Sys2Proof.Machine

theorem NetAt.net {s t : State} (h : NetAt s.net t) : t.net = s.net := h

theorem streamGet_of_net {s t : State} (h : t.net = s.net) (n : Nat) : streamGet t n = streamGet s n := by
  rw [streamGet, h]
  rfl

theorem streamGet_streamMod {s : State} (w : tblWf Stream.off s.net.streams = true) (n : Nat) (f : Stream → Stream) :
    streamGet (streamMod s n f) n = f (streamGet s n) := tget_tmod_same _ w n f

theorem streamMod_wf {s : State} (w : tblWf Stream.off s.net.streams = true) (n : Nat) (f : Stream → Stream) :
    tblWf Stream.off (streamMod s n f).net.streams = true := tmod_wf Stream.off w n f

/-- What an operation leaves of stream n and of the table of streams. -/
def StreamIs (n : Nat) (q : Stream) (s : State) : Prop := tblWf Stream.off s.net.streams = true ∧ streamGet s n = q

theorem StreamIs.mod {n : Nat} {q : Stream} {s : State} (h : StreamIs n q s) (f : Stream → Stream) :
    StreamIs n (f q) (streamMod s n f) :=
  ⟨streamMod_wf h.1 n f, by rw [streamGet_streamMod h.1, h.2]⟩

theorem StreamIs.of_net {n : Nat} {q : Stream} {s t : State} (h : StreamIs n q s) (k : t.net = s.net) : StreamIs n q t :=
  ⟨by rw [k]; exact h.1, by rw [streamGet_of_net k]; exact h.2⟩

/-- A stream that enters another state leaves the one that it was in. -/
theorem StreamIs.enter {n : Nat} {q : Stream} {s : State} (h : StreamIs n q s) {st : Nat} (hst : q.st ≠ st) (cause log : Nat) :
    StreamIs n { q with st := st, cause := cause, block := [] } (enterStream n st cause log s) := by
  have hmod := h.mod (fun q => { q with st := st, cause := cause, block := [] })
  unfold enterStream
  rw [h.2]
  dsimp only
  rw [if_neg hst]
  refine inv_ite (P := StreamIs n _) ?_ ?_
  · exact (hmod.of_net (NetAt.posted rfl)).of_net (NetAt.dropReference rfl)
  · exact hmod.of_net (NetAt.posted rfl)

theorem StreamIs.completeAll {n : Nat} {q : Stream} {s : State} (h : StreamIs n q s) (ws : List Waiter) (status : Nat) :
    StreamIs n q (Machine.completeAll ws status s) := h.of_net (by simp)

theorem streamRec_of_cs {s t : State} (h : t.cs = s.cs) (n : Nat) : streamRec t n = streamRec s n := by
  unfold streamRec entityData entitySection
  rw [h]

/-- A listener with no overlay that connects while the link is down (R315). -/
theorem connectStream_listener {n cause log : Nat} {ws : List Waiter} {s : State} (hn : 32 ≤ n)
    (hov : u8 (streamRec s n) 1 = 0xFF) :
    connectStream n cause log ws s = (stOk, connectNow n cause log (streamMod s n (fun q => { q with waiters := ws }))) := by
  unfold connectStream
  simp only [hov, show ¬ n < 32 by omega, decide_false, Bool.false_and, Bool.false_eq_true, if_false, true_or, if_true]

theorem StreamIs.connectNow {n : Nat} {q : Stream} {s : State} (h : StreamIs n q s) (hst : q.st = 0)
    (hlink : linkUp s = false) (cause log : Nat) :
    ∃ q', StreamIs n q' (Machine.connectNow n cause log s) ∧ q'.st = 4 ∧ q'.connected = true := by
  unfold Machine.connectNow
  extract_lets ws s1
  have h1 := h.mod (fun q => { q with connected := true, waiters := [], expected := none, mr := none, block := []
                                      pto := q.pendPto.getD q.pto, pendPto := none })
  have hstate : connectedState s1 (decide (n < 32)) (streamRec s1 n) (streamIdOf s1 n) 0 = 4 := by
    refine if_pos ?_
    rw [show linkUp s1 = linkUp s from rfl, hlink]
    rfl
  rw [hstate]
  have henter := h1.enter (st := 4) (by rw [hst]; decide) cause log
  exact ⟨_, (henter.of_net (NetAt.startMembers rfl)).completeAll _ _, rfl, rfl⟩

/-- A connected listener without an overlay that disconnects. -/
theorem StreamIs.disconnect {n : Nat} {q : Stream} {s : State} (h : StreamIs n q s) (hst : q.st ≠ 0)
    (hov : u8 (streamRec s n) 1 = 0xFF) (cause log : Nat) (leave : Bool) :
    ∃ q', StreamIs n q' (disconnectStream n cause log leave s) ∧ q'.st = 0 ∧ q'.connected = false := by
  have hmod := h.mod (fun q => { q with connected := false, byCommand := false, acmp := 0, waiters := [], expected := none
                                        mr := none, pto := q.pendPto.getD q.pto, pendPto := none })
  have henter := ((hmod.of_net (t := streamStop n _) (NetAt.stopMembers rfl)).completeAll q.waiters stConflict).enter
    (st := 0) hst cause log
  unfold disconnectStream
  rw [h.2]
  dsimp only
  rw [if_neg hst, hov, if_pos (by simp)]
  exact ⟨_, henter, rfl, rfl⟩

theorem mdioComplete_eq {driven : Bool} {d : BitVec 16} {s : State} {w : Waiter} {o : Issue} {p : List Byte}
    (h : s.net.mac.mdio = some (w, o, p)) :
    mdioComplete driven d s = answered 0x0803 o w.log (okWith
      (b2 (if u8 p 0 = 1 then u16 p 4 else if u8 p 0 == 0 && !driven then 0xFFFF else d.toNat)
        ++ b1 (flag (u8 p 0 == 0 && !driven)) ++ zeros 1) (macMod s (fun m => { m with mdio := none }))) := by
  unfold mdioComplete
  rw [h]

/-- Connecting and disconnecting leave the log number. -/
theorem streamConnectDo_log (o : Issue) (p : List Byte) (log : Nat) (s : State) :
    (streamConnectDo o p log s).s.host.log = s.host.log := by
  unfold streamConnectDo
  extract_lets n w st s1 r s2
  have h1 : LogAt s.host.log s1.host := LogAt.streamMod rfl
  have hr : LogAt s.host.log r.2.host := LogAt.connectStream h1
  have h2 : LogAt s.host.log s2.host := LogAt.refreshStream (LogAt.streamMod h1)
  exact LogAt.doneIte (LogAt.doneIte (LogAt.streamMod hr) (LogAt.completed hr))
    (LogAt.doneIte (LogAt.streamMod h2) (LogAt.completed h2))

theorem streamConnectDo_queued (o : Issue) (p : List Byte) (log : Nat) (s : State) :
    streamConnectDo o p log s = queuedDone (streamConnectDo o p log s).s := by
  unfold streamConnectDo
  exact inv_ite (P := fun d : Done => d = queuedDone d.s) (inv_ite (P := fun d : Done => d = queuedDone d.s) rfl rfl)
    (inv_ite (P := fun d : Done => d = queuedDone d.s) rfl rfl)

/-- The stream as STREAM_CONNECT names it. -/
def namedStream (p : List Byte) (s : State) : State :=
  nameStream (u8 p 0) (beN p 2 6) (BitVec.ofNat 64 (u64 p 8)) (u32 p 16) s

theorem streamConnectDo_off {o : Issue} {p : List Byte} {log : Nat} {s : State} (h : (streamGet s (u8 p 0)).st = 0)
    {r : Nat × State} (hr : connectStream (u8 p 0) 0 log [{ ctx := o.ctx, log := log }] (namedStream p s) = r) :
    streamConnectDo o p log s = if r.1 = stOk then queuedDone (streamMod r.2 (u8 p 0) (fun q => { q with byCommand := true }))
      else queuedDone (complete { ctx := o.ctx, log := log } r.1 r.2) := by
  subst hr
  exact if_pos h

theorem stNoCapacity_ne_ok : stNoCapacity ≠ stOk := by decide

theorem connectStream_full {n cause log : Nat} {ws : List Waiter} {s : State} (hn : n < 32)
    (hslope : slopeFits s (talkerSlope s n) = false) : connectStream n cause log ws s = (stNoCapacity, s) := by
  unfold connectStream
  exact if_pos (by simp [hn, hslope])

theorem streamDisconnectDo_log (o : Issue) (p : List Byte) (log : Nat) (s : State) :
    (streamDisconnectDo o p log s).s.host.log = s.host.log :=
  LogAt.completed (LogAt.ite (LogAt.streamMod rfl) (LogAt.disconnectStream (LogAt.streamMod rfl)))

end Sys2Proof.Machine

namespace Sys2Proof
open Sys2Proof.Machine

/-- Settles O51: the network's commands answer what it holds, and MDIO, gPTP settings and streams take effect. -/
theorem networkCommandsTakeEffect : Obligations.NetworkCommandsTakeEffect := by
  intro o p s
  refine ⟨?status, ?counters, ?mdio, ?mdioRead, ?mdioWrite, ?gptp, ?gptpQuiet, ?gptpSet, ?stream, ?connects, ?connected, ?slopes,
    ?offAlready, ?shared, ?disconnects, ?crf, ?msrp, ?disc, ?discStatus⟩
  case status =>
    intro h
    refine ⟨pauseLeft (takeLog s), hostCommand_accepted h (reads netStatusResult), fun hp => if_neg ?_⟩
    simpa using hp
  case counters => exact fun h => hostCommand_accepted h (reads (netCountersResult p))
  case mdio => exact fun h => congrArg Host.Outcome.next (hostTake_accepted h (netMdioRun o p))
  case mdioRead =>
    intro w driven d hm hop
    refine congrArg (fun u => Host.Outcome.next (flushReplies u)) ((mdioComplete_eq hm).trans ?_)
    rw [hop]
    cases driven <;> rfl
  case mdioWrite =>
    intro w driven d hm hop
    refine congrArg (fun u => Host.Outcome.next (flushReplies u)) ((mdioComplete_eq hm).trans ?_)
    rw [hop]
    rfl
  case gptp => exact fun h => ⟨gptpNow (takeLog s), Nat.le_add_right _ _, hostCommand_accepted h (reads gptpStatusResult)⟩
  case gptpQuiet =>
    intro h hquiet hprio
    refine hostCommand_does (act := gptpSetDo p) h (congrArg ok ((if_neg ?_).trans (if_neg ?_)))
    · simpa using hquiet
    · exact fun hc => hprio hc.2
  case gptpSet =>
    intro h
    obtain ⟨t, hrun, hr, k⟩ := hostCommand_leaves (act := gptpSetDo p) h rfl (LogAt.rerunBmca (LogAt.gptpMod rfl))
    have hset : SettingsAt (u8 p 0, u8 p 1, s32 p 4) (rerunBmca s.host.log (gptpMod (takeLog s) (fun g =>
      { g with priority1 := u8 p 0, priority2 := u8 p 1, asymmetry := s32 p 4 }))) := .rerunBmca rfl
    simp only [SettingsAt, Prod.mk.injEq] at hset
    have hnet := k.fields.2.2.2.2.2.2.2.2.2.1
    exact ⟨t, hrun, hr, by rw [hnet]; exact hset.1, by rw [hnet]; exact hset.2.1, by rw [hnet]; exact hset.2.2⟩
  case stream => exact fun h => hostCommand_accepted h (streamStatusDo o p)
  case connects =>
    intro h
    obtain ⟨t, hrun, hr, -⟩ := hostCommand_leaves (act := streamConnectDo o p) h (streamConnectDo_queued o p s.host.log (takeLog s))
      (streamConnectDo_log o p s.host.log (takeLog s))
    exact ⟨t, hrun, hr⟩
  case connected =>
    intro h hst hn hov hlink w
    have hnamed : StreamIs (u8 p 0) _ (namedStream p (takeLog s)) := StreamIs.mod ⟨w, rfl⟩ _
    have hconnect := connectStream_listener (cause := 0) (log := s.host.log) (ws := [waiterOf o s]) (s := namedStream p (takeLog s)) hn
      (by rw [streamRec_of_cs (t := namedStream p (takeLog s)) (s := s) rfl]; exact hov)
    obtain ⟨q', hq, hst', hconn⟩ := (hnamed.mod (fun q => { q with waiters := [waiterOf o s] })).connectNow hst hlink 0 s.host.log
    have hset := hq.mod (fun q => { q with byCommand := true })
    obtain ⟨t, hrun, -, k⟩ := hostCommand_leaves h ((streamConnectDo_off (s := takeLog s) hst hconnect).trans (if_pos rfl))
      (LogAt.streamMod (LogAt.connectNow (LogAt.streamMod (LogAt.streamMod rfl))))
    have hnet := k.fields.2.2.2.2.2.2.2.2.2.1
    refine ⟨t, hrun, ?_⟩
    rw [streamGet_of_net hnet, hset.2]
    exact ⟨hst', hconn, rfl⟩
  case slopes =>
    rintro u h hst hn rfl hslope
    exact hostCommand_does h ((streamConnectDo_off (s := takeLog s) hst (connectStream_full hn hslope)).trans (if_neg stNoCapacity_ne_ok))
  case offAlready =>
    intro h hst w
    refine hostCommand_does (act := streamDisconnectDo o p) h (congrArg (fun u => queuedDone (complete _ stOk u)) ?_)
    have hoff : disconnectStream (u8 p 0) 0 s.host.log true (streamMod (takeLog s) (u8 p 0) (fun q => { q with byCommand := false }))
        = streamMod (takeLog s) (u8 p 0) (fun q => { q with byCommand := false }) := by
      refine if_pos ?_
      rw [streamGet_streamMod (s := takeLog s) w]
      exact hst
    rw [hoff, ite_self]
  case shared =>
    exact fun h hn hacmp => hostCommand_does (act := streamDisconnectDo o p) h
      (congrArg (fun u => queuedDone (complete _ stOk u)) (if_pos ⟨hn, hacmp⟩))
  case disconnects =>
    intro h hst hn hov w
    obtain ⟨q', hq, hst', hconn⟩ := (StreamIs.mod (s := takeLog s) (n := u8 p 0) ⟨w, rfl⟩ (fun q => { q with byCommand := false })).disconnect
      hst ((congrArg (fun r => u8 r 1) (streamRec_of_cs (s := s) rfl _)).trans hov) 0 s.host.log true
    obtain ⟨t, hrun, hr, k⟩ := hostCommand_leaves (act := streamDisconnectDo o p) h
      (congrArg (fun u => queuedDone (complete (waiterOf o s) stOk u)) (if_neg fun hc => absurd hc.1 (by omega)))
      (LogAt.completed (LogAt.disconnectStream (LogAt.streamMod rfl)))
    have hnet := k.fields.2.2.2.2.2.2.2.2.2.1
    refine ⟨t, hrun, hr, ?_⟩
    rw [streamGet_of_net hnet, streamGet_of_net (complete_others _ _ _).2.2.2.2.2.2.2.2.2.2.2.1, hq.2]
    exact ⟨hst', hconn⟩
  case crf => exact fun h => hostCommand_accepted h (crfStatusDo o p)
  case msrp => exact fun h => hostCommand_accepted h (reads msrpStatusResult)
  case disc => exact fun l hl h => ⟨openValue (takeLog s), by rw [hl]; exact hostCommand_accepted h (reads (discReadResult p))⟩
  case discStatus => exact fun h => hostCommand_accepted h (discStatusDo p)

end Sys2Proof
end

section
/-! PROOF. What the link, its queues and the network clock keep through the operations of the others. -/

namespace Sys2Proof.Machine

/-- The state of the link and its counts. -/
def LinkAt (v : Nat × Nat × Nat × Nat) (s : State) : Prop := (s.net.mac.link, s.net.mac.ups, s.net.mac.downCause, s.net.mac.downs) = v

theorem LinkAt.ite {v : Nat × Nat × Nat × Nat} {c : Prop} {dec : Decidable c} {s t : State} (hs : LinkAt v s)
    (ht : LinkAt v t) : LinkAt v (if c then s else t) := by
  split
  · exact hs
  · exact ht

theorem LinkAt.pairIte {v : Nat × Nat × Nat × Nat} {α : Type} {c : Prop} {dec : Decidable c} {x y : α × State}
    (hx : LinkAt v x.2) (hy : LinkAt v y.2) : LinkAt v (if c then x else y).2 := by
  split
  · exact hx
  · exact hy

theorem LinkAt.foldl {v : Nat × Nat × Nat × Nat} {s : State} {β : Type} {f : State → β → State} {l : List β}
    (inv : LinkAt v s) (h : ∀ t x, LinkAt v t → LinkAt v (f t x)) :
    LinkAt v (l.foldl f s) :=
  foldl_inv (fun t : State => LinkAt v t) f h l s inv

theorem LinkAt.posted {v : Nat × Nat × Nat × Nat} {s : State} {code inst log data : Nat} {cn : Concern}
    (inv : LinkAt v s) : LinkAt v (Machine.post code inst log data cn s) := by
  simpa [LinkAt] using inv

theorem LinkAt.drawElapsed {v : Nat × Nat × Nat × Nat} {s : State} (inv : LinkAt v s) :
    LinkAt v (Machine.drawElapsed s).2 :=
  inv

theorem LinkAt.netMod {v : Nat × Nat × Nat × Nat} {s : State} {f : NetState → NetState} (inv : LinkAt v s)
    (hf : ∀ x, ((f x).mac.link, (f x).mac.ups, (f x).mac.downCause, (f x).mac.downs) = (x.mac.link, x.mac.ups, x.mac.downCause, x.mac.downs) := by intros; rfl) : LinkAt v (Machine.netMod s f) := by
  exact (hf _).trans inv

theorem LinkAt.streamMod {v : Nat × Nat × Nat × Nat} {s : State} {n : Nat} {f : Machine.Stream → Machine.Stream}
    (inv : LinkAt v s) : LinkAt v (Machine.streamMod s n f) :=
  .netMod inv

theorem LinkAt.domMod {v : Nat × Nat × Nat × Nat} {s : State} {d : Nat} {f : Domain → Domain}
    (inv : LinkAt v s) : LinkAt v (Machine.domMod s d f) :=
  inv

theorem LinkAt.convMod {v : Nat × Nat × Nat × Nat} {s : State} {k : Nat} {f : Convoy → Convoy}
    (inv : LinkAt v s) : LinkAt v (Machine.convMod s k f) :=
  inv

theorem LinkAt.pllMod {v : Nat × Nat × Nat × Nat} {s : State} {p : Nat} {f : Pll → Pll} (inv : LinkAt v s) :
    LinkAt v (Machine.pllMod s p f) :=
  .ite inv inv

theorem LinkAt.postMuted {v : Nat × Nat × Nat × Nat} {s : State} {k members cause log : Nat}
    (inv : LinkAt v s) : LinkAt v (Machine.postMuted k members cause log s) :=
  .ite (.posted (.convMod (.pairIte (.drawElapsed (.convMod inv)) (.convMod inv))))
    (.pairIte (.drawElapsed (.convMod inv)) (.convMod inv))

theorem LinkAt.convCount {v : Nat × Nat × Nat × Nat} {s : State} {k i : Nat} (inv : LinkAt v s) :
    LinkAt v (Machine.convCount k i s) :=
  .convMod inv

theorem LinkAt.muteConvoy {v : Nat × Nat × Nat × Nat} {s : State} {log k : Nat} (inv : LinkAt v s) :
    LinkAt v (Machine.muteConvoy log s k) :=
  .ite inv (.postMuted (.convCount (.convMod inv)))

theorem LinkAt.postPll {v : Nat × Nat × Nat × Nat} {s : State} {p log : Nat} (inv : LinkAt v s) :
    LinkAt v (Machine.postPll p log s) :=
  .posted inv

theorem LinkAt.setPllMode {v : Nat × Nat × Nat × Nat} {s : State} {p mode log : Nat} (inv : LinkAt v s) :
    LinkAt v (Machine.setPllMode p mode log s) :=
  .ite (.pllMod inv) (.ite inv (.postPll (.pllMod inv)))

theorem LinkAt.pllsFollow {v : Nat × Nat × Nat × Nat} {s : State} {d log : Nat} (inv : LinkAt v s) :
    LinkAt v (Machine.pllsFollow d log s) :=
  .foldl inv (fun _ _ h => .ite (.ite (.setPllMode h) (.ite (.setPllMode h) h)) h)

theorem LinkAt.leaveLocked {v : Nat × Nat × Nat × Nat} {s : State} {d cause log : Nat} (inv : LinkAt v s) :
    LinkAt v (Machine.leaveLocked d cause log s) :=
  .pllsFollow (.foldl (.posted inv) (fun _ _ h => .muteConvoy h))

theorem LinkAt.unlockFor {v : Nat × Nat × Nat × Nat} {s : State} {d cause log : Nat} (inv : LinkAt v s) :
    LinkAt v (Machine.unlockFor d cause log s) :=
  .ite inv (.ite (.leaveLocked (.domMod inv)) (.domMod inv))

theorem LinkAt.macMod {v : Nat × Nat × Nat × Nat} {s : State} {f : Mac → Mac} (inv : LinkAt v s)
    (hf : ∀ x, ((f x).link, (f x).ups, (f x).downCause, (f x).downs) = (x.link, x.ups, x.downCause, x.downs) := by intros; rfl) : LinkAt v (Machine.macMod s f) := by
  exact (hf _).trans inv

theorem LinkAt.postEthFor {v : Nat × Nat × Nat × Nat} {s : State} {log code inst data : Nat}
    (inv : LinkAt v s) : LinkAt v (Machine.postEthFor log code inst data s) :=
  .posted inv

theorem LinkAt.postEth {v : Nat × Nat × Nat × Nat} {s : State} {code inst data : Nat} (inv : LinkAt v s) :
    LinkAt v (Machine.postEth code inst data s) :=
  .postEthFor inv

theorem LinkAt.halfSet {v : Nat × Nat × Nat × Nat} {s : State} {g i : Nat} (inv : LinkAt v s) :
    LinkAt v (Machine.halfSet g i s) :=
  .ite (.macMod (.macMod inv)) (.postEth (.macMod (.macMod inv)))

theorem LinkAt.macAdd {v : Nat × Nat × Nat × Nat} {s : State} {g i n : Nat} (inv : LinkAt v s) :
    LinkAt v (Machine.macAdd g i n s) :=
  .ite (.halfSet (.macMod inv)) (.macMod inv)

theorem LinkAt.macCount {v : Nat × Nat × Nat × Nat} {s : State} {g i : Nat} (inv : LinkAt v s) :
    LinkAt v (Machine.macCount g i s) :=
  .macAdd inv

theorem LinkAt.offerControl {v : Nat × Nat × Nat × Nat} {s : State} {kind : Nat} {dest : List Byte} {type : Nat}
    {body : List Byte} (inv : LinkAt v s) : LinkAt v (Machine.offerControl kind dest type body s) :=
  .ite inv (.ite (.macCount inv) (.ite (.macCount inv) (.macMod inv)))

theorem LinkAt.freeField {v : Nat × Nat × Nat × Nat} {s : State} {n : Nat} (inv : LinkAt v s) :
    LinkAt v (Machine.freeField n s).2 :=
  inv

theorem LinkAt.gptpSend {v : Nat × Nat × Nat × Nat} {s : State} {type interval : Nat} {given : List Byte} {n : Nat}
    (inv : LinkAt v s) : LinkAt v (Machine.gptpSend type interval given n s) :=
  .offerControl (.freeField inv)

theorem LinkAt.sendPdelayReq {v : Nat × Nat × Nat × Nat} {s : State} (inv : LinkAt v s) :
    LinkAt v (Machine.sendPdelayReq s) :=
  .gptpSend inv

theorem LinkAt.postPause {v : Nat × Nat × Nat × Nat} {s : State} {data : Nat} (inv : LinkAt v s) :
    LinkAt v (Machine.postPause data s) :=
  .ite (.postEth (.macMod (.pairIte (.drawElapsed inv) inv))) (.pairIte (.drawElapsed inv) inv)

theorem LinkAt.crfMod {v : Nat × Nat × Nat × Nat} {s : State} {k : Nat} {f : Machine.Stream → Machine.Stream}
    (inv : LinkAt v s) : LinkAt v (Machine.crfMod s k f) :=
  .netMod inv

theorem LinkAt.dropReference {v : Nat × Nat × Nat × Nat} {s : State} {kind i log : Nat} (inv : LinkAt v s) :
    LinkAt v (Machine.dropReference kind i log s) :=
  .foldl inv (fun _ _ h => .ite (.unlockFor h) h)

theorem LinkAt.enterStream {v : Nat × Nat × Nat × Nat} {s : State} {n st cause log : Nat} (inv : LinkAt v s) :
    LinkAt v (Machine.enterStream n st cause log s) :=
  .ite inv (.ite (.dropReference (.posted (.streamMod inv))) (.posted (.streamMod inv)))

theorem LinkAt.enterCrf {v : Nat × Nat × Nat × Nat} {s : State} {k st log : Nat} (inv : LinkAt v s) :
    LinkAt v (Machine.enterCrf k st log s) :=
  .ite inv (.ite (.dropReference (.postEthFor (.crfMod inv))) (.postEthFor (.crfMod inv)))

theorem LinkAt.refreshStream {v : Nat × Nat × Nat × Nat} {s : State} {cause log n : Nat} (inv : LinkAt v s) :
    LinkAt v (Machine.refreshStream cause log s n) :=
  .ite (.enterStream inv) inv

theorem LinkAt.refreshCrf {v : Nat × Nat × Nat × Nat} {s : State} {log k : Nat} (inv : LinkAt v s) :
    LinkAt v (Machine.refreshCrf log s k) :=
  .ite (.enterCrf inv) inv

theorem LinkAt.refreshStreams {v : Nat × Nat × Nat × Nat} {s : State} {cause log : Nat} (inv : LinkAt v s) :
    LinkAt v (Machine.refreshStreams cause log s) :=
  .foldl (.foldl inv (fun _ _ h => .refreshStream h)) (fun _ _ h => .refreshCrf h)

theorem LinkAt.gptpMod {v : Nat × Nat × Nat × Nat} {s : State} {f : Gptp → Gptp} (inv : LinkAt v s) :
    LinkAt v (Machine.gptpMod s f) :=
  inv

theorem LinkAt.adpSend {v : Nat × Nat × Nat × Nat} {s : State} {message : Nat} (inv : LinkAt v s) :
    LinkAt v (Machine.adpSend message s) :=
  .ite inv (.offerControl (.netMod (.freeField (.freeField inv))))

theorem LinkAt.enterGptp {v : Nat × Nat × Nat × Nat} {s : State} {st cause log : Nat} (inv : LinkAt v s) :
    LinkAt v (Machine.enterGptp st cause log s) :=
  .ite inv (.refreshStreams (.postEthFor (.gptpMod inv)))

theorem LinkAt.postLink {v : Nat × Nat × Nat × Nat} {s : State} {up : Bool} {cause log : Nat}
    (inv : LinkAt v s) : LinkAt v (Machine.postLink up cause log s) :=
  .postEthFor inv
/-- The transmit queues of the MAC and its pause. -/
def QueuesAt (v : List TxFrame × List TxFrame × List TxFrame × Bool) (s : State) : Prop := (s.net.mac.queueA, s.net.mac.queueB, s.net.mac.queueC, s.net.mac.pause) = v

theorem QueuesAt.ite {v : List TxFrame × List TxFrame × List TxFrame × Bool} {c : Prop} {dec : Decidable c} {s t : State} (hs : QueuesAt v s)
    (ht : QueuesAt v t) : QueuesAt v (if c then s else t) := by
  split
  · exact hs
  · exact ht

theorem QueuesAt.pairIte {v : List TxFrame × List TxFrame × List TxFrame × Bool} {α : Type} {c : Prop} {dec : Decidable c} {x y : α × State}
    (hx : QueuesAt v x.2) (hy : QueuesAt v y.2) : QueuesAt v (if c then x else y).2 := by
  split
  · exact hx
  · exact hy

theorem QueuesAt.foldl {v : List TxFrame × List TxFrame × List TxFrame × Bool} {s : State} {β : Type} {f : State → β → State} {l : List β}
    (inv : QueuesAt v s) (h : ∀ t x, QueuesAt v t → QueuesAt v (f t x)) :
    QueuesAt v (l.foldl f s) :=
  foldl_inv (fun t : State => QueuesAt v t) f h l s inv

theorem QueuesAt.posted {v : List TxFrame × List TxFrame × List TxFrame × Bool} {s : State} {code inst log data : Nat} {cn : Concern}
    (inv : QueuesAt v s) : QueuesAt v (Machine.post code inst log data cn s) := by
  simpa [QueuesAt] using inv

theorem QueuesAt.drawElapsed {v : List TxFrame × List TxFrame × List TxFrame × Bool} {s : State}
    (inv : QueuesAt v s) : QueuesAt v (Machine.drawElapsed s).2 :=
  inv

theorem QueuesAt.netMod {v : List TxFrame × List TxFrame × List TxFrame × Bool} {s : State} {f : NetState → NetState} (inv : QueuesAt v s)
    (hf : ∀ x, ((f x).mac.queueA, (f x).mac.queueB, (f x).mac.queueC, (f x).mac.pause) = (x.mac.queueA, x.mac.queueB, x.mac.queueC, x.mac.pause) := by intros; rfl) : QueuesAt v (Machine.netMod s f) := by
  exact (hf _).trans inv

theorem QueuesAt.streamMod {v : List TxFrame × List TxFrame × List TxFrame × Bool} {s : State} {n : Nat}
    {f : Machine.Stream → Machine.Stream} (inv : QueuesAt v s) : QueuesAt v (Machine.streamMod s n f) :=
  .netMod inv

theorem QueuesAt.domMod {v : List TxFrame × List TxFrame × List TxFrame × Bool} {s : State} {d : Nat}
    {f : Domain → Domain} (inv : QueuesAt v s) : QueuesAt v (Machine.domMod s d f) :=
  inv

theorem QueuesAt.convMod {v : List TxFrame × List TxFrame × List TxFrame × Bool} {s : State} {k : Nat}
    {f : Convoy → Convoy} (inv : QueuesAt v s) : QueuesAt v (Machine.convMod s k f) :=
  inv

theorem QueuesAt.pllMod {v : List TxFrame × List TxFrame × List TxFrame × Bool} {s : State} {p : Nat}
    {f : Pll → Pll} (inv : QueuesAt v s) : QueuesAt v (Machine.pllMod s p f) :=
  .ite inv inv

theorem QueuesAt.postMuted {v : List TxFrame × List TxFrame × List TxFrame × Bool} {s : State}
    {k members cause log : Nat} (inv : QueuesAt v s) : QueuesAt v
    (Machine.postMuted k members cause log s) :=
  .ite (.posted (.convMod (.pairIte (.drawElapsed (.convMod inv)) (.convMod inv))))
    (.pairIte (.drawElapsed (.convMod inv)) (.convMod inv))

theorem QueuesAt.convCount {v : List TxFrame × List TxFrame × List TxFrame × Bool} {s : State} {k i : Nat}
    (inv : QueuesAt v s) : QueuesAt v (Machine.convCount k i s) :=
  .convMod inv

theorem QueuesAt.muteConvoy {v : List TxFrame × List TxFrame × List TxFrame × Bool} {s : State} {log k : Nat}
    (inv : QueuesAt v s) : QueuesAt v (Machine.muteConvoy log s k) :=
  .ite inv (.postMuted (.convCount (.convMod inv)))

theorem QueuesAt.postPll {v : List TxFrame × List TxFrame × List TxFrame × Bool} {s : State} {p log : Nat}
    (inv : QueuesAt v s) : QueuesAt v (Machine.postPll p log s) :=
  .posted inv

theorem QueuesAt.setPllMode {v : List TxFrame × List TxFrame × List TxFrame × Bool} {s : State} {p mode log : Nat}
    (inv : QueuesAt v s) : QueuesAt v (Machine.setPllMode p mode log s) :=
  .ite (.pllMod inv) (.ite inv (.postPll (.pllMod inv)))

theorem QueuesAt.pllsFollow {v : List TxFrame × List TxFrame × List TxFrame × Bool} {s : State} {d log : Nat}
    (inv : QueuesAt v s) : QueuesAt v (Machine.pllsFollow d log s) :=
  .foldl inv (fun _ _ h => .ite (.ite (.setPllMode h) (.ite (.setPllMode h) h)) h)

theorem QueuesAt.leaveLocked {v : List TxFrame × List TxFrame × List TxFrame × Bool} {s : State} {d cause log : Nat}
    (inv : QueuesAt v s) : QueuesAt v (Machine.leaveLocked d cause log s) :=
  .pllsFollow (.foldl (.posted inv) (fun _ _ h => .muteConvoy h))

theorem QueuesAt.unlockFor {v : List TxFrame × List TxFrame × List TxFrame × Bool} {s : State} {d cause log : Nat}
    (inv : QueuesAt v s) : QueuesAt v (Machine.unlockFor d cause log s) :=
  .ite inv (.ite (.leaveLocked (.domMod inv)) (.domMod inv))

theorem QueuesAt.macMod {v : List TxFrame × List TxFrame × List TxFrame × Bool} {s : State} {f : Mac → Mac} (inv : QueuesAt v s)
    (hf : ∀ x, ((f x).queueA, (f x).queueB, (f x).queueC, (f x).pause) = (x.queueA, x.queueB, x.queueC, x.pause) := by intros; rfl) : QueuesAt v (Machine.macMod s f) := by
  exact (hf _).trans inv

theorem QueuesAt.postEthFor {v : List TxFrame × List TxFrame × List TxFrame × Bool} {s : State}
    {log code inst data : Nat} (inv : QueuesAt v s) : QueuesAt v
    (Machine.postEthFor log code inst data s) :=
  .posted inv

theorem QueuesAt.postEth {v : List TxFrame × List TxFrame × List TxFrame × Bool} {s : State} {code inst data : Nat}
    (inv : QueuesAt v s) : QueuesAt v (Machine.postEth code inst data s) :=
  .postEthFor inv

theorem QueuesAt.halfSet {v : List TxFrame × List TxFrame × List TxFrame × Bool} {s : State} {g i : Nat}
    (inv : QueuesAt v s) : QueuesAt v (Machine.halfSet g i s) :=
  .ite (.macMod (.macMod inv)) (.postEth (.macMod (.macMod inv)))

theorem QueuesAt.macAdd {v : List TxFrame × List TxFrame × List TxFrame × Bool} {s : State} {g i n : Nat}
    (inv : QueuesAt v s) : QueuesAt v (Machine.macAdd g i n s) :=
  .ite (.halfSet (.macMod inv)) (.macMod inv)

theorem QueuesAt.macCount {v : List TxFrame × List TxFrame × List TxFrame × Bool} {s : State} {g i : Nat}
    (inv : QueuesAt v s) : QueuesAt v (Machine.macCount g i s) :=
  .macAdd inv

theorem QueuesAt.postPause {v : List TxFrame × List TxFrame × List TxFrame × Bool} {s : State} {data : Nat}
    (inv : QueuesAt v s) : QueuesAt v (Machine.postPause data s) :=
  .ite (.postEth (.macMod (.pairIte (.drawElapsed inv) inv))) (.pairIte (.drawElapsed inv) inv)

theorem QueuesAt.crfMod {v : List TxFrame × List TxFrame × List TxFrame × Bool} {s : State} {k : Nat}
    {f : Machine.Stream → Machine.Stream} (inv : QueuesAt v s) : QueuesAt v (Machine.crfMod s k f) :=
  .netMod inv

theorem QueuesAt.dropReference {v : List TxFrame × List TxFrame × List TxFrame × Bool} {s : State}
    {kind i log : Nat} (inv : QueuesAt v s) : QueuesAt v (Machine.dropReference kind i log s) :=
  .foldl inv (fun _ _ h => .ite (.unlockFor h) h)

theorem QueuesAt.enterStream {v : List TxFrame × List TxFrame × List TxFrame × Bool} {s : State}
    {n st cause log : Nat} (inv : QueuesAt v s) : QueuesAt v (Machine.enterStream n st cause log s) :=
  .ite inv (.ite (.dropReference (.posted (.streamMod inv))) (.posted (.streamMod inv)))

theorem QueuesAt.enterCrf {v : List TxFrame × List TxFrame × List TxFrame × Bool} {s : State} {k st log : Nat}
    (inv : QueuesAt v s) : QueuesAt v (Machine.enterCrf k st log s) :=
  .ite inv (.ite (.dropReference (.postEthFor (.crfMod inv))) (.postEthFor (.crfMod inv)))

theorem QueuesAt.refreshStream {v : List TxFrame × List TxFrame × List TxFrame × Bool} {s : State}
    {cause log n : Nat} (inv : QueuesAt v s) : QueuesAt v (Machine.refreshStream cause log s n) :=
  .ite (.enterStream inv) inv

theorem QueuesAt.refreshCrf {v : List TxFrame × List TxFrame × List TxFrame × Bool} {s : State} {log k : Nat}
    (inv : QueuesAt v s) : QueuesAt v (Machine.refreshCrf log s k) :=
  .ite (.enterCrf inv) inv

theorem QueuesAt.refreshStreams {v : List TxFrame × List TxFrame × List TxFrame × Bool} {s : State}
    {cause log : Nat} (inv : QueuesAt v s) : QueuesAt v (Machine.refreshStreams cause log s) :=
  .foldl (.foldl inv (fun _ _ h => .refreshStream h)) (fun _ _ h => .refreshCrf h)

theorem QueuesAt.gptpMod {v : List TxFrame × List TxFrame × List TxFrame × Bool} {s : State} {f : Gptp → Gptp}
    (inv : QueuesAt v s) : QueuesAt v (Machine.gptpMod s f) :=
  inv

theorem QueuesAt.enterGptp {v : List TxFrame × List TxFrame × List TxFrame × Bool} {s : State} {st cause log : Nat}
    (inv : QueuesAt v s) : QueuesAt v (Machine.enterGptp st cause log s) :=
  .ite inv (.refreshStreams (.postEthFor (.gptpMod inv)))

theorem QueuesAt.postLink {v : List TxFrame × List TxFrame × List TxFrame × Bool} {s : State} {up : Bool}
    {cause log : Nat} (inv : QueuesAt v s) : QueuesAt v (Machine.postLink up cause log s) :=
  .postEthFor inv
/-- The gPTP state of the port. -/
def ClockAt (v : Gptp) (s : State) : Prop := s.net.gptp = v

theorem ClockAt.ite {v : Gptp} {c : Prop} {dec : Decidable c} {s t : State} (hs : ClockAt v s)
    (ht : ClockAt v t) : ClockAt v (if c then s else t) := by
  split
  · exact hs
  · exact ht

theorem ClockAt.pairIte {v : Gptp} {α : Type} {c : Prop} {dec : Decidable c} {x y : α × State}
    (hx : ClockAt v x.2) (hy : ClockAt v y.2) : ClockAt v (if c then x else y).2 := by
  split
  · exact hx
  · exact hy

theorem ClockAt.foldl {v : Gptp} {s : State} {β : Type} {f : State → β → State} {l : List β}
    (inv : ClockAt v s) (h : ∀ t x, ClockAt v t → ClockAt v (f t x)) :
    ClockAt v (l.foldl f s) :=
  foldl_inv (fun t : State => ClockAt v t) f h l s inv

theorem ClockAt.posted {v : Gptp} {s : State} {code inst log data : Nat} {cn : Concern}
    (inv : ClockAt v s) : ClockAt v (Machine.post code inst log data cn s) := by
  simpa [ClockAt] using inv

theorem ClockAt.drawElapsed {v : Gptp} {s : State} (inv : ClockAt v s) :
    ClockAt v (Machine.drawElapsed s).2 :=
  inv

theorem ClockAt.netMod {v : Gptp} {s : State} {f : NetState → NetState} (inv : ClockAt v s)
    (hf : ∀ x, (f x).gptp = x.gptp := by intros; rfl) : ClockAt v (Machine.netMod s f) := by
  exact (hf _).trans inv

theorem ClockAt.streamMod {v : Gptp} {s : State} {n : Nat} {f : Machine.Stream → Machine.Stream}
    (inv : ClockAt v s) : ClockAt v (Machine.streamMod s n f) :=
  .netMod inv

theorem ClockAt.domMod {v : Gptp} {s : State} {d : Nat} {f : Domain → Domain} (inv : ClockAt v s) :
    ClockAt v (Machine.domMod s d f) :=
  inv

theorem ClockAt.convMod {v : Gptp} {s : State} {k : Nat} {f : Convoy → Convoy} (inv : ClockAt v s) :
    ClockAt v (Machine.convMod s k f) :=
  inv

theorem ClockAt.pllMod {v : Gptp} {s : State} {p : Nat} {f : Pll → Pll} (inv : ClockAt v s) :
    ClockAt v (Machine.pllMod s p f) :=
  .ite inv inv

theorem ClockAt.postMuted {v : Gptp} {s : State} {k members cause log : Nat} (inv : ClockAt v s) :
    ClockAt v (Machine.postMuted k members cause log s) :=
  .ite (.posted (.convMod (.pairIte (.drawElapsed (.convMod inv)) (.convMod inv))))
    (.pairIte (.drawElapsed (.convMod inv)) (.convMod inv))

theorem ClockAt.convCount {v : Gptp} {s : State} {k i : Nat} (inv : ClockAt v s) :
    ClockAt v (Machine.convCount k i s) :=
  .convMod inv

theorem ClockAt.muteConvoy {v : Gptp} {s : State} {log k : Nat} (inv : ClockAt v s) :
    ClockAt v (Machine.muteConvoy log s k) :=
  .ite inv (.postMuted (.convCount (.convMod inv)))

theorem ClockAt.postPll {v : Gptp} {s : State} {p log : Nat} (inv : ClockAt v s) :
    ClockAt v (Machine.postPll p log s) :=
  .posted inv

theorem ClockAt.setPllMode {v : Gptp} {s : State} {p mode log : Nat} (inv : ClockAt v s) :
    ClockAt v (Machine.setPllMode p mode log s) :=
  .ite (.pllMod inv) (.ite inv (.postPll (.pllMod inv)))

theorem ClockAt.pllsFollow {v : Gptp} {s : State} {d log : Nat} (inv : ClockAt v s) :
    ClockAt v (Machine.pllsFollow d log s) :=
  .foldl inv (fun _ _ h => .ite (.ite (.setPllMode h) (.ite (.setPllMode h) h)) h)

theorem ClockAt.leaveLocked {v : Gptp} {s : State} {d cause log : Nat} (inv : ClockAt v s) :
    ClockAt v (Machine.leaveLocked d cause log s) :=
  .pllsFollow (.foldl (.posted inv) (fun _ _ h => .muteConvoy h))

theorem ClockAt.unlockFor {v : Gptp} {s : State} {d cause log : Nat} (inv : ClockAt v s) :
    ClockAt v (Machine.unlockFor d cause log s) :=
  .ite inv (.ite (.leaveLocked (.domMod inv)) (.domMod inv))

theorem ClockAt.macMod {v : Gptp} {s : State} {f : Mac → Mac} (inv : ClockAt v s) :
    ClockAt v (Machine.macMod s f) :=
  inv

theorem ClockAt.postEthFor {v : Gptp} {s : State} {log code inst data : Nat} (inv : ClockAt v s) :
    ClockAt v (Machine.postEthFor log code inst data s) :=
  .posted inv

theorem ClockAt.postEth {v : Gptp} {s : State} {code inst data : Nat} (inv : ClockAt v s) :
    ClockAt v (Machine.postEth code inst data s) :=
  .postEthFor inv

theorem ClockAt.halfSet {v : Gptp} {s : State} {g i : Nat} (inv : ClockAt v s) :
    ClockAt v (Machine.halfSet g i s) :=
  .ite (.macMod (.macMod inv)) (.postEth (.macMod (.macMod inv)))

theorem ClockAt.macAdd {v : Gptp} {s : State} {g i n : Nat} (inv : ClockAt v s) :
    ClockAt v (Machine.macAdd g i n s) :=
  .ite (.halfSet (.macMod inv)) (.macMod inv)

theorem ClockAt.macCount {v : Gptp} {s : State} {g i : Nat} (inv : ClockAt v s) :
    ClockAt v (Machine.macCount g i s) :=
  .macAdd inv

theorem ClockAt.offerControl {v : Gptp} {s : State} {kind : Nat} {dest : List Byte} {type : Nat} {body : List Byte}
    (inv : ClockAt v s) : ClockAt v (Machine.offerControl kind dest type body s) :=
  .ite inv (.ite (.macCount inv) (.ite (.macCount inv) (.macMod inv)))

theorem ClockAt.freeField {v : Gptp} {s : State} {n : Nat} (inv : ClockAt v s) :
    ClockAt v (Machine.freeField n s).2 :=
  inv

theorem ClockAt.gptpSend {v : Gptp} {s : State} {type interval : Nat} {given : List Byte} {n : Nat}
    (inv : ClockAt v s) : ClockAt v (Machine.gptpSend type interval given n s) :=
  .offerControl (.freeField inv)

theorem ClockAt.sendPdelayReq {v : Gptp} {s : State} (inv : ClockAt v s) :
    ClockAt v (Machine.sendPdelayReq s) :=
  .gptpSend inv

theorem ClockAt.sendAnnounce {v : Gptp} {s : State} (inv : ClockAt v s) :
    ClockAt v (Machine.sendAnnounce s) :=
  .gptpSend (.freeField inv)

theorem ClockAt.postPause {v : Gptp} {s : State} {data : Nat} (inv : ClockAt v s) :
    ClockAt v (Machine.postPause data s) :=
  .ite (.postEth (.macMod (.pairIte (.drawElapsed inv) inv))) (.pairIte (.drawElapsed inv) inv)

theorem ClockAt.crfMod {v : Gptp} {s : State} {k : Nat} {f : Machine.Stream → Machine.Stream}
    (inv : ClockAt v s) : ClockAt v (Machine.crfMod s k f) :=
  .netMod inv

theorem ClockAt.dropReference {v : Gptp} {s : State} {kind i log : Nat} (inv : ClockAt v s) :
    ClockAt v (Machine.dropReference kind i log s) :=
  .foldl inv (fun _ _ h => .ite (.unlockFor h) h)

theorem ClockAt.enterStream {v : Gptp} {s : State} {n st cause log : Nat} (inv : ClockAt v s) :
    ClockAt v (Machine.enterStream n st cause log s) :=
  .ite inv (.ite (.dropReference (.posted (.streamMod inv))) (.posted (.streamMod inv)))

theorem ClockAt.enterCrf {v : Gptp} {s : State} {k st log : Nat} (inv : ClockAt v s) :
    ClockAt v (Machine.enterCrf k st log s) :=
  .ite inv (.ite (.dropReference (.postEthFor (.crfMod inv))) (.postEthFor (.crfMod inv)))

theorem ClockAt.refreshStream {v : Gptp} {s : State} {cause log n : Nat} (inv : ClockAt v s) :
    ClockAt v (Machine.refreshStream cause log s n) :=
  .ite (.enterStream inv) inv

theorem ClockAt.refreshCrf {v : Gptp} {s : State} {log k : Nat} (inv : ClockAt v s) :
    ClockAt v (Machine.refreshCrf log s k) :=
  .ite (.enterCrf inv) inv

theorem ClockAt.refreshStreams {v : Gptp} {s : State} {cause log : Nat} (inv : ClockAt v s) :
    ClockAt v (Machine.refreshStreams cause log s) :=
  .foldl (.foldl inv (fun _ _ h => .refreshStream h)) (fun _ _ h => .refreshCrf h)

theorem ClockAt.adpSend {v : Gptp} {s : State} {message : Nat} (inv : ClockAt v s) :
    ClockAt v (Machine.adpSend message s) :=
  .ite inv (.offerControl (.netMod (.freeField (.freeField inv))))

theorem ClockAt.postLink {v : Gptp} {s : State} {up : Bool} {cause log : Nat} (inv : ClockAt v s) :
    ClockAt v (Machine.postLink up cause log s) :=
  .postEthFor inv
/-- The receive FIFO of the MAC. -/
def ReceivedAt (v : List (List Byte × Nat)) (s : State) : Prop := s.net.mac.rxFifo = v

theorem ReceivedAt.ite {v : List (List Byte × Nat)} {c : Prop} {dec : Decidable c} {s t : State} (hs : ReceivedAt v s)
    (ht : ReceivedAt v t) : ReceivedAt v (if c then s else t) := by
  split
  · exact hs
  · exact ht

theorem ReceivedAt.posted {v : List (List Byte × Nat)} {s : State} {code inst log data : Nat} {cn : Concern}
    (inv : ReceivedAt v s) : ReceivedAt v (Machine.post code inst log data cn s) := by
  simpa [ReceivedAt] using inv

theorem ReceivedAt.macMod {v : List (List Byte × Nat)} {s : State} {f : Mac → Mac} (inv : ReceivedAt v s)
    (hf : ∀ x, (f x).rxFifo = x.rxFifo := by intros; rfl) : ReceivedAt v (Machine.macMod s f) := by
  exact (hf _).trans inv

theorem ReceivedAt.postEthFor {v : List (List Byte × Nat)} {s : State} {log code inst data : Nat}
    (inv : ReceivedAt v s) : ReceivedAt v (Machine.postEthFor log code inst data s) :=
  .posted inv

theorem ReceivedAt.postEth {v : List (List Byte × Nat)} {s : State} {code inst data : Nat}
    (inv : ReceivedAt v s) : ReceivedAt v (Machine.postEth code inst data s) :=
  .postEthFor inv

theorem ReceivedAt.halfSet {v : List (List Byte × Nat)} {s : State} {g i : Nat} (inv : ReceivedAt v s) :
    ReceivedAt v (Machine.halfSet g i s) :=
  .ite (.macMod (.macMod inv)) (.postEth (.macMod (.macMod inv)))

theorem ReceivedAt.macAdd {v : List (List Byte × Nat)} {s : State} {g i n : Nat} (inv : ReceivedAt v s) :
    ReceivedAt v (Machine.macAdd g i n s) :=
  .ite (.halfSet (.macMod inv)) (.macMod inv)

theorem ReceivedAt.macCount {v : List (List Byte × Nat)} {s : State} {g i : Nat} (inv : ReceivedAt v s) :
    ReceivedAt v (Machine.macCount g i s) :=
  .macAdd inv

theorem ReceivedAt.countAccepted {v : List (List Byte × Nat)} {s : State} {f : List Byte}
    (inv : ReceivedAt v s) : ReceivedAt v (Machine.countAccepted f s) :=
  .ite (.macCount (.macCount (.macAdd (.macCount inv)))) (.macCount (.macAdd (.macCount inv)))

end Sys2Proof.Machine
end

section
/-! PROOF. The link, its frames and the network clock. -/

namespace Sys2Proof.Machine

/-- All but the network and the host part. -/
def restNet (s : State) : State :=
  { s with host := State.reset.host, tw0 := State.reset.tw0, tw1 := State.reset.tw1, free := State.reset.free
           net := State.reset.net }

theorem OnlyHost.of_restNet {s t : State} (h : restNet t = restNet s) : OnlyHost { s with net := t.net } t := by
  simp only [restNet, State.mk.injEq] at h
  rw [onlyHost_iff]
  simp only [h, and_self]

theorem restNet_of_rest {s t : State} (h : rest t = rest s) : restNet t = restNet s := by
  rw [rest_eq h]
  rfl

theorem post_restNet (code inst log data : Nat) (cn : Concern) (s : State) :
    restNet (post code inst log data cn s) = restNet s := restNet_of_rest (postSel_rest _ _ _ _ _ _ _)

theorem halfSet_restNet (g i : Nat) (s : State) : restNet (halfSet g i s) = restNet s :=
  inv_ite (P := fun t : State => restNet t = restNet s) rfl (post_restNet _ _ _ _ _ _)

theorem macAdd_restNet (g i n : Nat) (s : State) : restNet (macAdd g i n s) = restNet s :=
  inv_ite (P := fun t : State => restNet t = restNet s) (halfSet_restNet _ _ _) rfl

theorem postPause_restNet (data : Nat) (s : State) : restNet (postPause data s) = restNet s := by
  unfold postPause
  extract_lets d
  have hd : restNet d.2 = restNet s := by
    show restNet (if s.net.mac.pausePosted then drawElapsed s else (true, s)).2 = restNet s
    split <;> rfl
  exact inv_ite (P := fun t : State => restNet t = restNet s) ((post_restNet _ _ _ _ _ _).trans hd) hd

theorem LinkAt.fields {t : State} {a b c d : Nat} (h : LinkAt (a, b, c, d) t) :
    t.net.mac.link = a ∧ t.net.mac.ups = b ∧ t.net.mac.downCause = c ∧ t.net.mac.downs = d := by
  simpa [LinkAt] using h

theorem QueuesAt.fields {t : State} {a b c : List TxFrame} {d : Bool} (h : QueuesAt (a, b, c, d) t) :
    t.net.mac.queueA = a ∧ t.net.mac.queueB = b ∧ t.net.mac.queueC = c ∧ t.net.mac.pause = d := by
  simpa [QueuesAt] using h

theorem ClockAt.clock {g : Gptp} {s : State} (h : ClockAt g s) : s.net.gptp = g := h

theorem ClockAt.mod {g : Gptp} {s : State} (h : ClockAt g s) (f : Gptp → Gptp) : ClockAt (f g) (gptpMod s f) :=
  congrArg f h

/-- gPTP in another state keeps the rest of its own part. -/
theorem ClockAt.enterGptp {g : Gptp} {s : State} (h : ClockAt g s) (st cause log : Nat) :
    ClockAt { g with st := st } (Machine.enterGptp st cause log s) := by
  unfold Machine.enterGptp
  split
  · rename_i hst
    have hst' : g.st = st := (congrArg Gptp.st h).symm.trans hst
    rw [← hst']
    exact h
  · exact .refreshStreams (.posted (h.mod (fun g => { g with st := st })))

theorem ClockAt.becomeListening {g : Gptp} {s : State} (h : ClockAt g s) (cause log : Nat) :
    ClockAt { g with st := 1, qualify := 0, firstOffset := false } (Machine.becomeListening cause log s) :=
  (h.mod _).enterGptp 1 cause log

theorem ClockAt.setGrandmaster {g : Gptp} {s : State} (h : ClockAt g s) (id : BitVec 64) (steps : Nat) :
    ClockAt { g with gm := id, steps := steps } (Machine.setGrandmaster id steps s) :=
  .ite (h.mod _) (.adpSend (h.mod (fun g => { g with gm := id, steps := steps })))

theorem linkComesUp_spec (r : Nat) (s : State) (c d : Nat) (hc : s.net.mac.downCause = c) (hd : s.net.mac.downs = d) :
    LinkAt (2, s.net.mac.ups + 1, c, d) (linkComesUp r s)
      ∧ ClockAt { s.net.gptp with st := 1 } (linkComesUp r s) := by
  subst hc hd
  exact ⟨.adpSend (.sendPdelayReq (.enterGptp (.postLink rfl))),
    .adpSend (.sendPdelayReq (ClockAt.enterGptp (.postLink rfl) 1 1 0))⟩

theorem QueuesAt.endPause {a b c : List TxFrame} {p : Bool} {s : State} (h : QueuesAt (a, b, c, p) s) (zero : Bool) :
    QueuesAt (a, b, c, false) (Machine.endPause zero s) := by
  obtain ⟨ha, hb, hc, hp⟩ := h.fields
  unfold Machine.endPause
  split
  case isTrue => exact .postPause (by simp [QueuesAt, ha, hb, hc])
  case isFalse hp => simp [QueuesAt, ha, hb, hc, hp]

/-- What a link that goes down leaves of itself and its queues (R268, R288). -/
theorem linkGoesDown_mac {cause log ups downs : Nat} {s : State} (h : s.net.mac.link ≠ 0) (hu : s.net.mac.ups = ups)
    (hd : s.net.mac.downs = downs) :
    LinkAt (0, ups, cause, downs + 1) (linkGoesDown cause log s) ∧ QueuesAt ([], [], [], false) (linkGoesDown cause log s) := by
  subst hu hd
  unfold linkGoesDown
  extract_lets m held s1 s2 s3
  rw [if_neg h]
  have h1 : LinkAt (0, s.net.mac.ups, cause, s.net.mac.downs + 1) s1 := .macAdd rfl
  have q1 : QueuesAt ([], [], [], s.net.mac.pause) s1 := .macAdd rfl
  have h2 : LinkAt (0, s.net.mac.ups, cause, s.net.mac.downs + 1) s2 := .ite (.macCount h1) h1
  have q2 : QueuesAt ([], [], [], s.net.mac.pause) s2 := .ite (.macCount q1) q1
  exact ⟨.enterGptp (.gptpMod (.netMod (.ite (.postPause (.macMod (.postLink h2))) (.postLink h2)))),
    .enterGptp (.gptpMod (.netMod (QueuesAt.endPause (.postLink q2) false)))⟩

theorem linkGoesDown_clock {cause log : Nat} {s : State} (h : s.net.mac.link ≠ 0) :
    (linkGoesDown cause log s).net.gptp.st = 0 ∧ (linkGoesDown cause log s).net.gptp.asCapable = false := by
  unfold linkGoesDown
  extract_lets m held s1 s2 s3
  rw [if_neg h]
  have hclock := ClockAt.enterGptp (ClockAt.mod (s := netMod s3 (fun v => { v with declared := [] })) rfl (fun g =>
    { g with asCapable := false, good := 0, bad := 0, qualify := 0, firstOffset := false, announces := false })) 0 1 log
  exact ⟨congrArg Gptp.st hclock, congrArg Gptp.asCapable hclock⟩

/-- The partner that a link that went down had (R268). -/
def partnered (r : Nat) (s : State) : State := macMod s (fun m => { m with partner := if ethMode s = 0 then r else 0 })

theorem endPause_restNet (zero : Bool) (s : State) : restNet (endPause zero s) = restNet s :=
  inv_ite (P := fun t : State => restNet t = restNet s) (postPause_restNet _ _) rfl

theorem receiveFrame_code (f : List Byte) (fc prompt : Bool) (now : Nat) (s : State) :
    receiveFrame f true fc prompt now s = macCount 2 3 s := by
  unfold receiveFrame
  rw [if_pos rfl]

theorem receiveFrame_short {f : List Byte} {fc prompt : Bool} {now : Nat} {s : State} (h : f.length ≤ 63) :
    receiveFrame f false fc prompt now s = if fc then macCount 0 7 s else macCount 2 1 s :=
  if_pos h

theorem receiveFrame_long {f : List Byte} {fc prompt : Bool} {now : Nat} {s : State} (h : 64 ≤ f.length)
    (hmax : ethMaxLen s < f.length) :
    receiveFrame f false fc prompt now s = if fc then macCount 0 8 s else macCount 2 2 s :=
  (if_neg (by omega)).trans (if_pos hmax)

theorem receiveFrame_crc {f : List Byte} {prompt : Bool} {now : Nat} {s : State} (h : 64 ≤ f.length)
    (hmax : f.length ≤ ethMaxLen s) : receiveFrame f false false prompt now s = macCount 2 0 s :=
  (if_neg (by omega)).trans (if_neg (by omega))

theorem receiveFrame_good {f : List Byte} {prompt : Bool} {now : Nat} {s : State} (h : 64 ≤ f.length)
    (hmax : f.length ≤ ethMaxLen s) : receiveFrame f false true prompt now s = fifoFrame f prompt now (countAccepted f s) :=
  (if_neg (by omega)).trans (if_neg (by omega))

theorem rxFifo_countAccepted (f : List Byte) (s : State) : (countAccepted f s).net.mac.rxFifo = s.net.mac.rxFifo :=
  ReceivedAt.countAccepted rfl

theorem rxFill_countAccepted (f : List Byte) (s : State) : rxFill (countAccepted f s) = rxFill s := by
  rw [rxFill, rxFifo_countAccepted]
  rfl

theorem fifoFrame_prompt (f : List Byte) (now : Nat) (s : State) : fifoFrame f true now s = passFrame f now (drainRx s) := by
  unfold fifoFrame
  rw [if_pos rfl]

theorem fifoFrame_full {f : List Byte} {now : Nat} {s : State} (h : 32768 < rxFill s + f.length) :
    fifoFrame f false now s = macCount 2 4 s := if_pos h

theorem fifoFrame_held {f : List Byte} {now : Nat} {s : State} (h : rxFill s + f.length ≤ 32768) :
    fifoFrame f false now s = macMod s (fun m => { m with rxFifo := m.rxFifo ++ [(f, now)] }) := by
  unfold fifoFrame
  rw [if_neg (by decide), if_neg (by omega)]

theorem receiveFrame_full {f : List Byte} {now : Nat} {s : State} (h : 64 ≤ f.length) (hmax : f.length ≤ ethMaxLen s)
    (hfull : 32768 < rxFill s + f.length) :
    receiveFrame f false true false now s = macCount 2 4 (countAccepted f s) := by
  rw [receiveFrame_good h hmax, fifoFrame_full (by rw [rxFill_countAccepted]; exact hfull)]

theorem receiveFrame_held {f : List Byte} {now : Nat} {s : State} (h : 64 ≤ f.length) (hmax : f.length ≤ ethMaxLen s)
    (hfill : rxFill s + f.length ≤ 32768) :
    receiveFrame f false true false now s
      = macMod (countAccepted f s) (fun m => { m with rxFifo := s.net.mac.rxFifo ++ [(f, now)] }) := by
  rw [receiveFrame_good h hmax, fifoFrame_held (by rw [rxFill_countAccepted]; exact hfill), ← rxFifo_countAccepted f s]
  rfl

theorem passFrame_accepted {f : List Byte} {now : Nat} {w : State} (ha : addressAccepted w f = true)
    (hv : vidAccepted w f = true) : passFrame f now w = deliverFrame f now w :=
  (if_neg (by simp [ha])).trans (if_neg (by simp [hv]))

theorem frameStart_a {x : TxFrame} {r : List TxFrame} {w : State} (hq : w.net.mac.queueA = x :: r)
    (hc : 0 ≤ w.net.mac.creditA) :
    frameStart w = sendFrame x (macMod w (fun m => { m with queueA := r, sending := 1, sendTime := frameTime w x })) := by
  unfold frameStart
  simp only [hq, hc, decide_true, List.isEmpty_cons, Bool.not_false, Bool.and_self, if_true]
  rfl

theorem not_eligible {c : Int} {q : List TxFrame} (h : q = [] ∨ c < 0) : (decide (0 ≤ c) && !q.isEmpty) = false := by
  obtain rfl | h := h
  · simp
  · simp [Int.not_le.mpr h]

theorem frameStart_b {x : TxFrame} {r : List TxFrame} {w : State} (ha : w.net.mac.queueA = [] ∨ w.net.mac.creditA < 0)
    (hq : w.net.mac.queueB = x :: r) (hc : 0 ≤ w.net.mac.creditB) :
    frameStart w = sendFrame x (macMod w (fun m => { m with queueB := r, sending := 2, sendTime := frameTime w x })) := by
  unfold frameStart
  simp only [not_eligible ha, hq, hc, decide_true, List.isEmpty_cons, Bool.not_false, Bool.and_self, if_true,
    Bool.false_eq_true, if_false]
  rfl

theorem frameStart_c {w : State} (ha : w.net.mac.queueA = [] ∨ w.net.mac.creditA < 0)
    (hb : w.net.mac.queueB = [] ∨ w.net.mac.creditB < 0) :
    frameStart w = sendHead 3 w.net.mac.queueC (fun r m => { m with queueC := r }) w := by
  unfold frameStart
  simp only [not_eligible ha, not_eligible hb, Bool.false_eq_true, if_false]

theorem lateDiscard_queues (now : Nat) (s : State) :
    QueuesAt (s.net.mac.queueA.filter (fun f => decide (now < f.time)), s.net.mac.queueB.filter (fun f => decide (now < f.time)),
      s.net.mac.queueC, s.net.mac.pause) (lateDiscard now s) := by
  have hlate : ∀ f : TxFrame, (!decide (f.time ≤ now)) = decide (now < f.time) := fun f => by
    rw [← decide_not]
    exact decide_eq_decide.mpr Nat.not_le
  unfold lateDiscard
  simp only [hlate]
  exact .macAdd rfl

theorem loseCapable_clock (s : State) : ∃ g, ClockAt g (loseCapable s) ∧ g.asCapable = false := by
  unfold loseCapable
  extract_lets g s1
  split
  · exact ⟨_, rfl, rfl⟩
  · split
    · exact ⟨_, ClockAt.becomeListening (ClockAt.mod rfl _) 2 0, rfl⟩
    · exact ⟨_, rfl, rfl⟩

theorem syncReceived_slave {m : Int} {now : Nat} {s : State} (h3 : s.net.gptp.st = 3) (hlo : -1000 ≤ m - s.net.gptp.asymmetry)
    (hhi : m - s.net.gptp.asymmetry ≤ 1000) :
    syncReceived m now s = gptpMod s (fun g =>
      { g with offset := m - s.net.gptp.asymmetry, time := now, firstOffset := false }) :=
  (if_neg (by omega)).trans (if_pos h3)

theorem syncReceived_step {m : Int} {now : Nat} {s : State} (h2 : s.net.gptp.st = 2)
    (h : m - s.net.gptp.asymmetry < -1000 ∨ 1000 < m - s.net.gptp.asymmetry) :
    syncReceived m now s = post 0x0801 0 0 (2 + 256 * 5) (.res [0x0102]) (gptpMod s (fun g =>
      { g with offset := m - s.net.gptp.asymmetry, time := now, stepCount := g.stepCount + 1, qualify := 0
               firstOffset := false })) :=
  (if_pos h).trans (if_pos h2)

theorem syncReceived_qualified {m : Int} {s : State} (h2 : s.net.gptp.st = 2) (hlo : -100 ≤ m - s.net.gptp.asymmetry)
    (hhi : m - s.net.gptp.asymmetry ≤ 100) (hq : 7 ≤ s.net.gptp.qualify) (now : Nat) :
    ∃ g, ClockAt g (syncReceived m now s) ∧ g.st = 3 ∧ g.offset = m - s.net.gptp.asymmetry := by
  unfold syncReceived
  extract_lets offset s1 s2 s3
  rw [if_neg (by omega), if_neg (by omega), if_neg (by omega), if_pos (show 8 ≤ s3.net.gptp.qualify from Nat.succ_le_succ hq)]
  exact ⟨_, ClockAt.enterGptp rfl 3 6 0, rfl, rfl⟩

/-- The state with a received Announce noted (R300). -/
def announced (p1 cl ac : Byte) (va : BitVec 16) (p2 : Byte) (gm : BitVec 64) (s : State) : State :=
  gptpMod s (fun g => { g with
    announces := true
    gmVector := priorityVector p1.toNat cl.toNat ac.toNat va.toNat p2.toNat gm })

theorem identity_priorityVector (p1 cl ac va p2 : Nat) (gm : BitVec 64) :
    BitVec.ofNat 64 (priorityVector p1 cl ac va p2 gm) = gm := by
  refine BitVec.eq_of_toNat_eq ?_
  rw [BitVec.toNat_ofNat, priorityVector, Nat.mul_add_mod_of_lt gm.isLt]

theorem ClockAt.followClock {g : Gptp} {steps : Nat} {s : State} (h : ClockAt g s) (hst : g.st = 1 ∨ g.st = 4) (log : Nat) :
    ClockAt { g with gm := BitVec.ofNat 64 g.gmVector, steps := steps, qualify := 0, st := 2 } (Machine.followClock steps log s) := by
  subst h
  unfold Machine.followClock
  extract_lets g id fresh s1
  rw [if_pos hst]
  exact ((ClockAt.setGrandmaster rfl _ _).mod (fun x => { x with qualify := 0 })).enterGptp 2 4 log

theorem ClockAt.becomeGrandmaster {g : Gptp} {s : State} (h : ClockAt g s) (log : Nat) :
    ClockAt { g with offset := 0, qualify := 0, firstOffset := false, syncAge := 0, syncs := 0, gm := clockIdentity s
                     steps := 0, st := 4 } (Machine.becomeGrandmaster log s) :=
  have henter := ClockAt.enterGptp (ClockAt.setGrandmaster (h.mod (fun g =>
    { g with offset := 0, qualify := 0, firstOffset := false, syncAge := 0, syncs := 0 })) (clockIdentity s) 0) 4 7 log
  .ite (.sendAnnounce henter) henter

end Sys2Proof.Machine

namespace Sys2Proof
open Sys2Proof.Machine

/-- Settles O52: the link, received and sent frames, PAUSE and gPTP. -/
theorem linkAndClockStepsTakeEffect : Obligations.LinkAndClockStepsTakeEffect := by
  intro s
  refine ⟨?sync, ?up, ?down, ?received, ?pauseEnd, ?frameStart, ?late, ?foldEnds, ?foldPosts, ?pdelay, ?pdelayBad, ?pdelayLost,
    ?offset, ?announce, ?timeout, ?timeoutLost, ?master⟩
  case sync => exact fun ha hl => show execLinkSyncAcquired s = _ from whenever_true (by simp [ha, hl])
  case up =>
    intro r ha hl hm
    obtain ⟨hlink, hclock⟩ := linkComesUp_spec r.val s _ _ rfl rfl
    have hrun : execLinkUp r s = _ := whenever_true (by simpa [ha, hl] using hm)
    exact ⟨_, hrun, hlink.fields.1, hlink.fields.2.1, fun _ => congrArg Gptp.st hclock⟩
  case down =>
    intro c r hl
    have hrun : execLinkDown c r s = _ := whenever_true (by simpa using hl)
    obtain ⟨hlink, hqueue⟩ := linkGoesDown_mac (cause := 1 + c.val) (log := 0) (s := partnered r.val s) hl rfl rfl
    obtain ⟨hst, has⟩ := linkGoesDown_clock (cause := 1 + c.val) (log := 0) (s := partnered r.val s) hl
    obtain ⟨l, -, dc, d⟩ := hlink.fields
    obtain ⟨qa, qb, qc, pz⟩ := hqueue.fields
    exact ⟨_, hrun, l, dc, d, qa, qb, qc, pz, hst, has⟩
  case received =>
    intro f fc prompt now hl hf
    have hrun : ∀ err fc prompt, execFrameReceived f err fc prompt now s = .next (receiveFrame f err fc prompt now s) :=
      fun _ _ _ => whenever_true (by simp [hl, hf])
    refine ⟨?code, ?short, ?long, ?crc, ?full, ?held, ?passed⟩
    case code => exact (hrun true fc prompt).trans (congrArg Host.Outcome.next (receiveFrame_code f fc prompt now s))
    case short => exact fun hs => (hrun false fc prompt).trans (congrArg Host.Outcome.next (receiveFrame_short hs))
    case long => exact fun hs h => (hrun false fc prompt).trans (congrArg Host.Outcome.next (receiveFrame_long hs h))
    case crc => exact fun hs h => (hrun false false prompt).trans (congrArg Host.Outcome.next (receiveFrame_crc hs h))
    case full => exact fun hs h hfull => (hrun false true false).trans (congrArg Host.Outcome.next (receiveFrame_full hs h hfull))
    case held => exact fun hs h hfill => (hrun false true false).trans (congrArg Host.Outcome.next (receiveFrame_held hs h hfill))
    case passed =>
      intro w hs h hw ha hv
      refine (hrun false true true).trans (congrArg Host.Outcome.next ((receiveFrame_good hs h).trans ?_))
      subst hw
      exact (fifoFrame_prompt _ _ _).trans (passFrame_accepted ha hv)
  case pauseEnd =>
    intro hp
    have hrun : execPauseEnd s = .next (endPause false s) := whenever_true hp
    exact ⟨_, hrun, (QueuesAt.endPause rfl false).fields.2.2.2, .of_restNet (endPause_restNet false s)⟩
  case frameStart =>
    rintro g a b w hw hl hp
    have hrun : execTxFrameStart g a b s = .next (Machine.frameStart w) := by
      rw [hw]
      exact whenever_true (by simp [hl, hp])
    refine ⟨fun x r hq hc => ?_, fun x r ha hq hc => ?_, fun x r ha hb hq => ?_, fun ha hb hq => ?_⟩
    · exact hrun.trans (congrArg Host.Outcome.next (frameStart_a hq hc))
    · exact hrun.trans (congrArg Host.Outcome.next (frameStart_b ha hq hc))
    · exact hrun.trans (congrArg Host.Outcome.next ((frameStart_c ha hb).trans (by rw [hq]; rfl)))
    · exact hrun.trans (congrArg Host.Outcome.next ((frameStart_c ha hb).trans (by rw [hq]; rfl)))
  case late =>
    intro now
    obtain ⟨qa, qb, qc, -⟩ := (lateDiscard_queues now s).fields
    exact ⟨_, rfl, qa, qb, qc, .of_restNet (macAdd_restNet _ _ _ _)⟩
  case foldEnds =>
    intro g hg h0
    have hrun : execCounterHalfFoldEnd g s = .next (halfFoldEnd g.val s) := whenever_true (by simp [hg])
    exact hrun.trans (congrArg Host.Outcome.next (if_pos h0))
  case foldPosts =>
    intro g hg h0
    have hrun : execCounterHalfFoldEnd g s = .next (halfFoldEnd g.val s) := whenever_true (by simp [hg])
    exact hrun.trans (congrArg Host.Outcome.next (if_neg h0))
  case pdelay =>
    intro d hl hd
    have hrun : execGptpPdelayComplete true d s = .next (sendPdelayReq (pdelayComplete true d s)) := whenever_true hl
    exact hrun.trans (congrArg (fun u => Host.Outcome.next (sendPdelayReq u)) (if_neg (by omega)))
  case pdelayBad =>
    intro d hl hb
    have hrun : execGptpPdelayComplete false d s = .next (sendPdelayReq (pdelayComplete false d s)) := whenever_true hl
    exact hrun.trans (congrArg (fun u => Host.Outcome.next (sendPdelayReq u)) (if_neg (by omega)))
  case pdelayLost =>
    intro d hl hb
    have hrun : execGptpPdelayComplete false d s = .next (sendPdelayReq (pdelayComplete false d s)) := whenever_true hl
    refine ⟨_, hrun, ?_⟩
    have hlost : pdelayComplete false d s = loseCapable (gptpMod s (fun g => { g with bad := g.bad + 1, good := 0 })) :=
      if_pos (by omega)
    obtain ⟨g, hg, hoff⟩ := loseCapable_clock (gptpMod s (fun g => { g with bad := g.bad + 1, good := 0 }))
    rw [hlost]
    exact (congrArg Gptp.asCapable (ClockAt.sendPdelayReq hg)).trans hoff
  case offset =>
    rintro m off now rfl hl
    have hrun : s.net.gptp.st = 2 ∨ s.net.gptp.st = 3 → execGptpSyncReceived m now s = .next (syncReceived m now s) :=
      fun h => whenever_true (by simpa [hl] using h)
    refine ⟨fun h3 hlo hhi => ?_, fun h2 hbig => ?_, fun h2 hlo hhi hq => ?_⟩
    · exact (hrun (.inr h3)).trans (congrArg Host.Outcome.next (syncReceived_slave h3 hlo hhi))
    · exact (hrun (.inl h2)).trans (congrArg Host.Outcome.next (syncReceived_step h2 hbig))
    · refine ⟨_, hrun (.inl h2), ?_⟩
      obtain ⟨g, hg, hst, hoff⟩ := syncReceived_qualified h2 hlo hhi hq now
      exact ⟨(congrArg Gptp.st hg).trans hst, (congrArg Gptp.offset hg).trans hoff⟩
  case announce =>
    intro p1 cl ac va p2 gm st hl has hst hp
    have hrun : execGptpAnnounceReceived p1 cl ac va p2 gm st s = _ := whenever_true (by simp [hl, has, hst])
    have hself : selectsSelf (announced p1 cl ac va p2 gm s) = false := by simp [selectsSelf, announced, hp]
    have hclock := ClockAt.followClock (steps := st.toNat + 1) (s := announced p1 cl ac va p2 gm s) rfl (.inl hst) 0
    have hbmca : runBmca (st.toNat + 1) 0 (announced p1 cl ac va p2 gm s)
        = followClock (st.toNat + 1) 0 (announced p1 cl ac va p2 gm s) := if_neg (by simp [hself])
    rw [← hbmca] at hclock
    refine ⟨_, hrun, congrArg Gptp.st hclock, congrArg Gptp.announces hclock,
      (congrArg Gptp.gm hclock).trans (identity_priorityVector _ _ _ _ _ gm), congrArg Gptp.steps hclock⟩
  case timeout =>
    intro hl h2
    have hrun : execGptpSyncTimeout s = _ := whenever_true (by simp [hl, h2])
    exact hrun.trans (congrArg Host.Outcome.next (if_neg (by omega)))
  case timeoutLost =>
    intro hl h3
    have hrun : execGptpSyncTimeout s = _ := whenever_true (by simp [hl, h3])
    rw [if_pos h3] at hrun
    have hclock := ClockAt.becomeListening (ClockAt.mod (s := s) rfl (fun g =>
      { g with timeouts := g.timeouts + 1, qualify := 0 })) 3 0
    exact ⟨_, hrun, congrArg Gptp.st hclock, congrArg Gptp.timeouts hclock⟩
  case master =>
    intro hl hst hp
    have hrun : execGptpAnnounceTimeout s = .next (announceTimeout s) := whenever_true (by simpa [hl] using hst)
    have hmaster : announceTimeout s = becomeGrandmaster 0 (gptpMod s (fun g => { g with announces := false })) := if_neg hp
    have hclock := ClockAt.becomeGrandmaster (ClockAt.mod (s := s) rfl (fun g => { g with announces := false })) 0
    rw [← hmaster] at hclock
    have hg := hclock.clock
    exact ⟨_, hrun, by rw [hg], by rw [hg]; rfl, by rw [hg]⟩

end Sys2Proof
end

section
/-! PROOF. What stream reservation, discovery and the entity keep through the operations of the others. -/

namespace Sys2Proof.Machine

/-- The registrations of MSRP, those whose leave timers run, and the domain of class A. -/
def ReservedAt (v : List (Nat × BitVec 64) × List (Nat × BitVec 64) × Nat × Nat × Bool × Bool) (s : State) : Prop := (s.net.regs, s.net.leaving, s.net.prioA, s.net.vidA, s.net.boundA, s.net.boundB) = v

theorem ReservedAt.ite {v : List (Nat × BitVec 64) × List (Nat × BitVec 64) × Nat × Nat × Bool × Bool} {c : Prop} {dec : Decidable c} {s t : State} (hs : ReservedAt v s)
    (ht : ReservedAt v t) : ReservedAt v (if c then s else t) := by
  split
  · exact hs
  · exact ht

theorem ReservedAt.pairIte {v : List (Nat × BitVec 64) × List (Nat × BitVec 64) × Nat × Nat × Bool × Bool} {α : Type} {c : Prop} {dec : Decidable c} {x y : α × State}
    (hx : ReservedAt v x.2) (hy : ReservedAt v y.2) : ReservedAt v (if c then x else y).2 := by
  split
  · exact hx
  · exact hy

theorem ReservedAt.foldl {v : List (Nat × BitVec 64) × List (Nat × BitVec 64) × Nat × Nat × Bool × Bool} {s : State} {β : Type} {f : State → β → State} {l : List β}
    (inv : ReservedAt v s) (h : ∀ t x, ReservedAt v t → ReservedAt v (f t x)) :
    ReservedAt v (l.foldl f s) :=
  foldl_inv (fun t : State => ReservedAt v t) f h l s inv

theorem ReservedAt.posted {v : List (Nat × BitVec 64) × List (Nat × BitVec 64) × Nat × Nat × Bool × Bool} {s : State} {code inst log data : Nat} {cn : Concern}
    (inv : ReservedAt v s) : ReservedAt v (Machine.post code inst log data cn s) := by
  simpa [ReservedAt] using inv

theorem ReservedAt.drawElapsed {v : List (Nat × BitVec 64) × List (Nat × BitVec 64) × Nat × Nat × Bool × Bool}
    {s : State} (inv : ReservedAt v s) : ReservedAt v (Machine.drawElapsed s).2 :=
  inv

theorem ReservedAt.netMod {v : List (Nat × BitVec 64) × List (Nat × BitVec 64) × Nat × Nat × Bool × Bool} {s : State} {f : NetState → NetState} (inv : ReservedAt v s)
    (hf : ∀ x, ((f x).regs, (f x).leaving, (f x).prioA, (f x).vidA, (f x).boundA, (f x).boundB) = (x.regs, x.leaving, x.prioA, x.vidA, x.boundA, x.boundB) := by intros; rfl) : ReservedAt v (Machine.netMod s f) :=
  (hf _).trans inv

theorem ReservedAt.streamMod {v : List (Nat × BitVec 64) × List (Nat × BitVec 64) × Nat × Nat × Bool × Bool}
    {s : State} {n : Nat} {f : Machine.Stream → Machine.Stream} (inv : ReservedAt v s) : ReservedAt v
    (Machine.streamMod s n f) :=
  .netMod inv

theorem ReservedAt.domMod {v : List (Nat × BitVec 64) × List (Nat × BitVec 64) × Nat × Nat × Bool × Bool}
    {s : State} {d : Nat} {f : Domain → Domain} (inv : ReservedAt v s) : ReservedAt v
    (Machine.domMod s d f) :=
  inv

theorem ReservedAt.convMod {v : List (Nat × BitVec 64) × List (Nat × BitVec 64) × Nat × Nat × Bool × Bool}
    {s : State} {k : Nat} {f : Convoy → Convoy} (inv : ReservedAt v s) : ReservedAt v
    (Machine.convMod s k f) :=
  inv

theorem ReservedAt.pllMod {v : List (Nat × BitVec 64) × List (Nat × BitVec 64) × Nat × Nat × Bool × Bool}
    {s : State} {p : Nat} {f : Pll → Pll} (inv : ReservedAt v s) : ReservedAt v
    (Machine.pllMod s p f) :=
  .ite inv inv

theorem ReservedAt.postMuted {v : List (Nat × BitVec 64) × List (Nat × BitVec 64) × Nat × Nat × Bool × Bool}
    {s : State} {k members cause log : Nat} (inv : ReservedAt v s) : ReservedAt v
    (Machine.postMuted k members cause log s) :=
  .ite (.posted (.convMod (.pairIte (.drawElapsed (.convMod inv)) (.convMod inv))))
    (.pairIte (.drawElapsed (.convMod inv)) (.convMod inv))

theorem ReservedAt.convCount {v : List (Nat × BitVec 64) × List (Nat × BitVec 64) × Nat × Nat × Bool × Bool}
    {s : State} {k i : Nat} (inv : ReservedAt v s) : ReservedAt v (Machine.convCount k i s) :=
  .convMod inv

theorem ReservedAt.muteConvoy {v : List (Nat × BitVec 64) × List (Nat × BitVec 64) × Nat × Nat × Bool × Bool}
    {s : State} {log k : Nat} (inv : ReservedAt v s) : ReservedAt v (Machine.muteConvoy log s k) :=
  .ite inv (.postMuted (.convCount (.convMod inv)))

theorem ReservedAt.postPll {v : List (Nat × BitVec 64) × List (Nat × BitVec 64) × Nat × Nat × Bool × Bool}
    {s : State} {p log : Nat} (inv : ReservedAt v s) : ReservedAt v (Machine.postPll p log s) :=
  .posted inv

theorem ReservedAt.setPllMode {v : List (Nat × BitVec 64) × List (Nat × BitVec 64) × Nat × Nat × Bool × Bool}
    {s : State} {p mode log : Nat} (inv : ReservedAt v s) : ReservedAt v
    (Machine.setPllMode p mode log s) :=
  .ite (.pllMod inv) (.ite inv (.postPll (.pllMod inv)))

theorem ReservedAt.pllsFollow {v : List (Nat × BitVec 64) × List (Nat × BitVec 64) × Nat × Nat × Bool × Bool}
    {s : State} {d log : Nat} (inv : ReservedAt v s) : ReservedAt v (Machine.pllsFollow d log s) :=
  .foldl inv (fun _ _ h => .ite (.ite (.setPllMode h) (.ite (.setPllMode h) h)) h)

theorem ReservedAt.leaveLocked {v : List (Nat × BitVec 64) × List (Nat × BitVec 64) × Nat × Nat × Bool × Bool}
    {s : State} {d cause log : Nat} (inv : ReservedAt v s) : ReservedAt v
    (Machine.leaveLocked d cause log s) :=
  .pllsFollow (.foldl (.posted inv) (fun _ _ h => .muteConvoy h))

theorem ReservedAt.unlockFor {v : List (Nat × BitVec 64) × List (Nat × BitVec 64) × Nat × Nat × Bool × Bool}
    {s : State} {d cause log : Nat} (inv : ReservedAt v s) : ReservedAt v
    (Machine.unlockFor d cause log s) :=
  .ite inv (.ite (.leaveLocked (.domMod inv)) (.domMod inv))

theorem ReservedAt.postEthFor {v : List (Nat × BitVec 64) × List (Nat × BitVec 64) × Nat × Nat × Bool × Bool}
    {s : State} {log code inst data : Nat} (inv : ReservedAt v s) : ReservedAt v
    (Machine.postEthFor log code inst data s) :=
  .posted inv

theorem ReservedAt.postEth {v : List (Nat × BitVec 64) × List (Nat × BitVec 64) × Nat × Nat × Bool × Bool}
    {s : State} {code inst data : Nat} (inv : ReservedAt v s) : ReservedAt v
    (Machine.postEth code inst data s) :=
  .postEthFor inv

theorem ReservedAt.crfMod {v : List (Nat × BitVec 64) × List (Nat × BitVec 64) × Nat × Nat × Bool × Bool}
    {s : State} {k : Nat} {f : Machine.Stream → Machine.Stream} (inv : ReservedAt v s) : ReservedAt v
    (Machine.crfMod s k f) :=
  .netMod inv

theorem ReservedAt.dropReference {v : List (Nat × BitVec 64) × List (Nat × BitVec 64) × Nat × Nat × Bool × Bool}
    {s : State} {kind i log : Nat} (inv : ReservedAt v s) : ReservedAt v
    (Machine.dropReference kind i log s) :=
  .foldl inv (fun _ _ h => .ite (.unlockFor h) h)

theorem ReservedAt.enterStream {v : List (Nat × BitVec 64) × List (Nat × BitVec 64) × Nat × Nat × Bool × Bool}
    {s : State} {n st cause log : Nat} (inv : ReservedAt v s) : ReservedAt v
    (Machine.enterStream n st cause log s) :=
  .ite inv (.ite (.dropReference (.posted (.streamMod inv))) (.posted (.streamMod inv)))

theorem ReservedAt.enterCrf {v : List (Nat × BitVec 64) × List (Nat × BitVec 64) × Nat × Nat × Bool × Bool}
    {s : State} {k st log : Nat} (inv : ReservedAt v s) : ReservedAt v (Machine.enterCrf k st log s) :=
  .ite inv (.ite (.dropReference (.postEthFor (.crfMod inv))) (.postEthFor (.crfMod inv)))

theorem ReservedAt.refreshStream {v : List (Nat × BitVec 64) × List (Nat × BitVec 64) × Nat × Nat × Bool × Bool}
    {s : State} {cause log n : Nat} (inv : ReservedAt v s) : ReservedAt v
    (Machine.refreshStream cause log s n) :=
  .ite (.enterStream inv) inv

theorem ReservedAt.refreshCrf {v : List (Nat × BitVec 64) × List (Nat × BitVec 64) × Nat × Nat × Bool × Bool}
    {s : State} {log k : Nat} (inv : ReservedAt v s) : ReservedAt v (Machine.refreshCrf log s k) :=
  .ite (.enterCrf inv) inv

theorem ReservedAt.refreshStreams {v : List (Nat × BitVec 64) × List (Nat × BitVec 64) × Nat × Nat × Bool × Bool}
    {s : State} {cause log : Nat} (inv : ReservedAt v s) : ReservedAt v
    (Machine.refreshStreams cause log s) :=
  .foldl (.foldl inv (fun _ _ h => .refreshStream h)) (fun _ _ h => .refreshCrf h)

theorem ReservedAt.postDomain {v : List (Nat × BitVec 64) × List (Nat × BitVec 64) × Nat × Nat × Bool × Bool}
    {s : State} {classA : Bool} {prio vid : Nat} {bound : Bool} (inv : ReservedAt v s) : ReservedAt v
    (Machine.postDomain classA prio vid bound s) :=
  .postEth inv
/-- The chart in force. -/
def InForceAt (v : ChartState) (s : State) : Prop := s.cs = v

theorem InForceAt.ite {v : ChartState} {c : Prop} {dec : Decidable c} {s t : State} (hs : InForceAt v s)
    (ht : InForceAt v t) : InForceAt v (if c then s else t) := by
  split
  · exact hs
  · exact ht

theorem InForceAt.pairIte {v : ChartState} {α : Type} {c : Prop} {dec : Decidable c} {x y : α × State}
    (hx : InForceAt v x.2) (hy : InForceAt v y.2) : InForceAt v (if c then x else y).2 := by
  split
  · exact hx
  · exact hy

theorem InForceAt.foldl {v : ChartState} {s : State} {β : Type} {f : State → β → State} {l : List β}
    (inv : InForceAt v s) (h : ∀ t x, InForceAt v t → InForceAt v (f t x)) :
    InForceAt v (l.foldl f s) :=
  foldl_inv (fun t : State => InForceAt v t) f h l s inv

theorem InForceAt.posted {v : ChartState} {s : State} {code inst log data : Nat} {cn : Concern}
    (inv : InForceAt v s) : InForceAt v (Machine.post code inst log data cn s) := by
  simpa [InForceAt] using inv

theorem InForceAt.drawElapsed {v : ChartState} {s : State} (inv : InForceAt v s) :
    InForceAt v (Machine.drawElapsed s).2 :=
  inv

theorem InForceAt.netMod {v : ChartState} {s : State} {f : NetState → NetState} (inv : InForceAt v s) :
    InForceAt v (Machine.netMod s f) :=
  inv

theorem InForceAt.streamMod {v : ChartState} {s : State} {n : Nat} {f : Machine.Stream → Machine.Stream}
    (inv : InForceAt v s) : InForceAt v (Machine.streamMod s n f) :=
  .netMod inv

theorem InForceAt.domMod {v : ChartState} {s : State} {d : Nat} {f : Domain → Domain} (inv : InForceAt v s) :
    InForceAt v (Machine.domMod s d f) :=
  inv

theorem InForceAt.convMod {v : ChartState} {s : State} {k : Nat} {f : Convoy → Convoy} (inv : InForceAt v s) :
    InForceAt v (Machine.convMod s k f) :=
  inv

theorem InForceAt.pllMod {v : ChartState} {s : State} {p : Nat} {f : Pll → Pll} (inv : InForceAt v s) :
    InForceAt v (Machine.pllMod s p f) :=
  .ite inv inv

theorem InForceAt.postMuted {v : ChartState} {s : State} {k members cause log : Nat} (inv : InForceAt v s) :
    InForceAt v (Machine.postMuted k members cause log s) :=
  .ite (.posted (.convMod (.pairIte (.drawElapsed (.convMod inv)) (.convMod inv))))
    (.pairIte (.drawElapsed (.convMod inv)) (.convMod inv))

theorem InForceAt.convCount {v : ChartState} {s : State} {k i : Nat} (inv : InForceAt v s) :
    InForceAt v (Machine.convCount k i s) :=
  .convMod inv

theorem InForceAt.muteConvoy {v : ChartState} {s : State} {log k : Nat} (inv : InForceAt v s) :
    InForceAt v (Machine.muteConvoy log s k) :=
  .ite inv (.postMuted (.convCount (.convMod inv)))

theorem InForceAt.postPll {v : ChartState} {s : State} {p log : Nat} (inv : InForceAt v s) :
    InForceAt v (Machine.postPll p log s) :=
  .posted inv

theorem InForceAt.setPllMode {v : ChartState} {s : State} {p mode log : Nat} (inv : InForceAt v s) :
    InForceAt v (Machine.setPllMode p mode log s) :=
  .ite (.pllMod inv) (.ite inv (.postPll (.pllMod inv)))

theorem InForceAt.pllsFollow {v : ChartState} {s : State} {d log : Nat} (inv : InForceAt v s) :
    InForceAt v (Machine.pllsFollow d log s) :=
  .foldl inv (fun _ _ h => .ite (.ite (.setPllMode h) (.ite (.setPllMode h) h)) h)

theorem InForceAt.leaveLocked {v : ChartState} {s : State} {d cause log : Nat} (inv : InForceAt v s) :
    InForceAt v (Machine.leaveLocked d cause log s) :=
  .pllsFollow (.foldl (.posted inv) (fun _ _ h => .muteConvoy h))

theorem InForceAt.unlockFor {v : ChartState} {s : State} {d cause log : Nat} (inv : InForceAt v s) :
    InForceAt v (Machine.unlockFor d cause log s) :=
  .ite inv (.ite (.leaveLocked (.domMod inv)) (.domMod inv))

theorem InForceAt.macMod {v : ChartState} {s : State} {f : Mac → Mac} (inv : InForceAt v s) :
    InForceAt v (Machine.macMod s f) :=
  inv

theorem InForceAt.postEthFor {v : ChartState} {s : State} {log code inst data : Nat} (inv : InForceAt v s) :
    InForceAt v (Machine.postEthFor log code inst data s) :=
  .posted inv

theorem InForceAt.postEth {v : ChartState} {s : State} {code inst data : Nat} (inv : InForceAt v s) :
    InForceAt v (Machine.postEth code inst data s) :=
  .postEthFor inv

theorem InForceAt.halfSet {v : ChartState} {s : State} {g i : Nat} (inv : InForceAt v s) :
    InForceAt v (Machine.halfSet g i s) :=
  .ite (.macMod (.macMod inv)) (.postEth (.macMod (.macMod inv)))

theorem InForceAt.macAdd {v : ChartState} {s : State} {g i n : Nat} (inv : InForceAt v s) :
    InForceAt v (Machine.macAdd g i n s) :=
  .ite (.halfSet (.macMod inv)) (.macMod inv)

theorem InForceAt.macCount {v : ChartState} {s : State} {g i : Nat} (inv : InForceAt v s) :
    InForceAt v (Machine.macCount g i s) :=
  .macAdd inv

theorem InForceAt.offerControl {v : ChartState} {s : State} {kind : Nat} {dest : List Byte} {type : Nat}
    {body : List Byte} (inv : InForceAt v s) : InForceAt v
    (Machine.offerControl kind dest type body s) :=
  .ite inv (.ite (.macCount inv) (.ite (.macCount inv) (.macMod inv)))

theorem InForceAt.freeField {v : ChartState} {s : State} {n : Nat} (inv : InForceAt v s) :
    InForceAt v (Machine.freeField n s).2 :=
  inv

theorem InForceAt.crfMod {v : ChartState} {s : State} {k : Nat} {f : Machine.Stream → Machine.Stream}
    (inv : InForceAt v s) : InForceAt v (Machine.crfMod s k f) :=
  .netMod inv

theorem InForceAt.dropReference {v : ChartState} {s : State} {kind i log : Nat} (inv : InForceAt v s) :
    InForceAt v (Machine.dropReference kind i log s) :=
  .foldl inv (fun _ _ h => .ite (.unlockFor h) h)

theorem InForceAt.enterStream {v : ChartState} {s : State} {n st cause log : Nat} (inv : InForceAt v s) :
    InForceAt v (Machine.enterStream n st cause log s) :=
  .ite inv (.ite (.dropReference (.posted (.streamMod inv))) (.posted (.streamMod inv)))

theorem InForceAt.enterCrf {v : ChartState} {s : State} {k st log : Nat} (inv : InForceAt v s) :
    InForceAt v (Machine.enterCrf k st log s) :=
  .ite inv (.ite (.dropReference (.postEthFor (.crfMod inv))) (.postEthFor (.crfMod inv)))

theorem InForceAt.refreshStream {v : ChartState} {s : State} {cause log n : Nat} (inv : InForceAt v s) :
    InForceAt v (Machine.refreshStream cause log s n) :=
  .ite (.enterStream inv) inv

theorem InForceAt.refreshCrf {v : ChartState} {s : State} {log k : Nat} (inv : InForceAt v s) :
    InForceAt v (Machine.refreshCrf log s k) :=
  .ite (.enterCrf inv) inv

theorem InForceAt.refreshStreams {v : ChartState} {s : State} {cause log : Nat} (inv : InForceAt v s) :
    InForceAt v (Machine.refreshStreams cause log s) :=
  .foldl (.foldl inv (fun _ _ h => .refreshStream h)) (fun _ _ h => .refreshCrf h)

theorem InForceAt.postDomain {v : ChartState} {s : State} {classA : Bool} {prio vid : Nat} {bound : Bool}
    (inv : InForceAt v s) : InForceAt v (Machine.postDomain classA prio vid bound s) :=
  .postEth inv

theorem InForceAt.acmpSend {v : ChartState} {s : State} {kind status : Nat} {id : BitVec 64} {dest : BitVec 48}
    {controller : BitVec 64} {count : Nat} (inv : InForceAt v s) : InForceAt v
    (Machine.acmpSend kind status id dest controller count s) :=
  .offerControl (.freeField inv)

theorem InForceAt.acmpToTalker {v : ChartState} {s : State} {kind n : Nat} {controller : BitVec 64}
    (inv : InForceAt v s) : InForceAt v (Machine.acmpToTalker kind n controller s) :=
  .ite (.offerControl (.freeField inv)) inv
/-- The streams of the network. -/
def StreamsAt (v : Tbl Machine.Stream) (s : State) : Prop := s.net.streams = v

theorem StreamsAt.ite {v : Tbl Machine.Stream} {c : Prop} {dec : Decidable c} {s t : State} (hs : StreamsAt v s)
    (ht : StreamsAt v t) : StreamsAt v (if c then s else t) := by
  split
  · exact hs
  · exact ht

theorem StreamsAt.pairIte {v : Tbl Machine.Stream} {α : Type} {c : Prop} {dec : Decidable c} {x y : α × State}
    (hx : StreamsAt v x.2) (hy : StreamsAt v y.2) : StreamsAt v (if c then x else y).2 := by
  split
  · exact hx
  · exact hy

theorem StreamsAt.foldl {v : Tbl Machine.Stream} {s : State} {β : Type} {f : State → β → State} {l : List β}
    (inv : StreamsAt v s) (h : ∀ t x, StreamsAt v t → StreamsAt v (f t x)) :
    StreamsAt v (l.foldl f s) :=
  foldl_inv (fun t : State => StreamsAt v t) f h l s inv

theorem StreamsAt.posted {v : Tbl Machine.Stream} {s : State} {code inst log data : Nat} {cn : Concern}
    (inv : StreamsAt v s) : StreamsAt v (Machine.post code inst log data cn s) := by
  simpa [StreamsAt] using inv

theorem StreamsAt.drawElapsed {v : Tbl Machine.Stream} {s : State} (inv : StreamsAt v s) :
    StreamsAt v (Machine.drawElapsed s).2 :=
  inv

theorem StreamsAt.netMod {v : Tbl Machine.Stream} {s : State} {f : NetState → NetState} (inv : StreamsAt v s)
    (hf : ∀ x, (f x).streams = x.streams := by intros; rfl) : StreamsAt v (Machine.netMod s f) :=
  (hf _).trans inv

theorem StreamsAt.domMod {v : Tbl Machine.Stream} {s : State} {d : Nat} {f : Domain → Domain}
    (inv : StreamsAt v s) : StreamsAt v (Machine.domMod s d f) :=
  inv

theorem StreamsAt.convMod {v : Tbl Machine.Stream} {s : State} {k : Nat} {f : Convoy → Convoy}
    (inv : StreamsAt v s) : StreamsAt v (Machine.convMod s k f) :=
  inv

theorem StreamsAt.pllMod {v : Tbl Machine.Stream} {s : State} {p : Nat} {f : Pll → Pll} (inv : StreamsAt v s)
    : StreamsAt v (Machine.pllMod s p f) :=
  .ite inv inv

theorem StreamsAt.postMuted {v : Tbl Machine.Stream} {s : State} {k members cause log : Nat}
    (inv : StreamsAt v s) : StreamsAt v (Machine.postMuted k members cause log s) :=
  .ite (.posted (.convMod (.pairIte (.drawElapsed (.convMod inv)) (.convMod inv))))
    (.pairIte (.drawElapsed (.convMod inv)) (.convMod inv))

theorem StreamsAt.convCount {v : Tbl Machine.Stream} {s : State} {k i : Nat} (inv : StreamsAt v s) :
    StreamsAt v (Machine.convCount k i s) :=
  .convMod inv

theorem StreamsAt.muteConvoy {v : Tbl Machine.Stream} {s : State} {log k : Nat} (inv : StreamsAt v s) :
    StreamsAt v (Machine.muteConvoy log s k) :=
  .ite inv (.postMuted (.convCount (.convMod inv)))

theorem StreamsAt.postPll {v : Tbl Machine.Stream} {s : State} {p log : Nat} (inv : StreamsAt v s) :
    StreamsAt v (Machine.postPll p log s) :=
  .posted inv

theorem StreamsAt.setPllMode {v : Tbl Machine.Stream} {s : State} {p mode log : Nat} (inv : StreamsAt v s) :
    StreamsAt v (Machine.setPllMode p mode log s) :=
  .ite (.pllMod inv) (.ite inv (.postPll (.pllMod inv)))

theorem StreamsAt.pllsFollow {v : Tbl Machine.Stream} {s : State} {d log : Nat} (inv : StreamsAt v s) :
    StreamsAt v (Machine.pllsFollow d log s) :=
  .foldl inv (fun _ _ h => .ite (.ite (.setPllMode h) (.ite (.setPllMode h) h)) h)

theorem StreamsAt.leaveLocked {v : Tbl Machine.Stream} {s : State} {d cause log : Nat} (inv : StreamsAt v s) :
    StreamsAt v (Machine.leaveLocked d cause log s) :=
  .pllsFollow (.foldl (.posted inv) (fun _ _ h => .muteConvoy h))

theorem StreamsAt.unlockFor {v : Tbl Machine.Stream} {s : State} {d cause log : Nat} (inv : StreamsAt v s) :
    StreamsAt v (Machine.unlockFor d cause log s) :=
  .ite inv (.ite (.leaveLocked (.domMod inv)) (.domMod inv))

theorem StreamsAt.macMod {v : Tbl Machine.Stream} {s : State} {f : Mac → Mac} (inv : StreamsAt v s) :
    StreamsAt v (Machine.macMod s f) :=
  inv

theorem StreamsAt.postEthFor {v : Tbl Machine.Stream} {s : State} {log code inst data : Nat}
    (inv : StreamsAt v s) : StreamsAt v (Machine.postEthFor log code inst data s) :=
  .posted inv

theorem StreamsAt.postEth {v : Tbl Machine.Stream} {s : State} {code inst data : Nat} (inv : StreamsAt v s) :
    StreamsAt v (Machine.postEth code inst data s) :=
  .postEthFor inv

theorem StreamsAt.halfSet {v : Tbl Machine.Stream} {s : State} {g i : Nat} (inv : StreamsAt v s) :
    StreamsAt v (Machine.halfSet g i s) :=
  .ite (.macMod (.macMod inv)) (.postEth (.macMod (.macMod inv)))

theorem StreamsAt.macAdd {v : Tbl Machine.Stream} {s : State} {g i n : Nat} (inv : StreamsAt v s) :
    StreamsAt v (Machine.macAdd g i n s) :=
  .ite (.halfSet (.macMod inv)) (.macMod inv)

theorem StreamsAt.macCount {v : Tbl Machine.Stream} {s : State} {g i : Nat} (inv : StreamsAt v s) :
    StreamsAt v (Machine.macCount g i s) :=
  .macAdd inv

theorem StreamsAt.offerControl {v : Tbl Machine.Stream} {s : State} {kind : Nat} {dest : List Byte} {type : Nat}
    {body : List Byte} (inv : StreamsAt v s) : StreamsAt v
    (Machine.offerControl kind dest type body s) :=
  .ite inv (.ite (.macCount inv) (.ite (.macCount inv) (.macMod inv)))

theorem StreamsAt.freeField {v : Tbl Machine.Stream} {s : State} {n : Nat} (inv : StreamsAt v s) :
    StreamsAt v (Machine.freeField n s).2 :=
  inv

theorem StreamsAt.crfMod {v : Tbl Machine.Stream} {s : State} {k : Nat} {f : Machine.Stream → Machine.Stream}
    (inv : StreamsAt v s) : StreamsAt v (Machine.crfMod s k f) :=
  .netMod inv

theorem StreamsAt.dropReference {v : Tbl Machine.Stream} {s : State} {kind i log : Nat} (inv : StreamsAt v s)
    : StreamsAt v (Machine.dropReference kind i log s) :=
  .foldl inv (fun _ _ h => .ite (.unlockFor h) h)

theorem StreamsAt.enterCrf {v : Tbl Machine.Stream} {s : State} {k st log : Nat} (inv : StreamsAt v s) :
    StreamsAt v (Machine.enterCrf k st log s) :=
  .ite inv (.ite (.dropReference (.postEthFor (.crfMod inv))) (.postEthFor (.crfMod inv)))

theorem StreamsAt.refreshCrf {v : Tbl Machine.Stream} {s : State} {log k : Nat} (inv : StreamsAt v s) :
    StreamsAt v (Machine.refreshCrf log s k) :=
  .ite (.enterCrf inv) inv

theorem StreamsAt.acmpSend {v : Tbl Machine.Stream} {s : State} {kind status : Nat} {id : BitVec 64}
    {dest : BitVec 48} {controller : BitVec 64} {count : Nat} (inv : StreamsAt v s) : StreamsAt v
    (Machine.acmpSend kind status id dest controller count s) :=
  .offerControl (.freeField inv)

theorem StreamsAt.acmpToTalker {v : Tbl Machine.Stream} {s : State} {kind n : Nat} {controller : BitVec 64}
    (inv : StreamsAt v s) : StreamsAt v (Machine.acmpToTalker kind n controller s) :=
  .ite (.offerControl (.freeField inv)) inv
/-- The index of the entity, its owner and its controllers. -/
def EntityAt (v : Nat × Option (BitVec 64) × List Aecp) (s : State) : Prop := (s.net.available, s.net.acquired, s.net.aecp) = v

theorem EntityAt.ite {v : Nat × Option (BitVec 64) × List Aecp} {c : Prop} {dec : Decidable c} {s t : State} (hs : EntityAt v s)
    (ht : EntityAt v t) : EntityAt v (if c then s else t) := by
  split
  · exact hs
  · exact ht

theorem EntityAt.pairIte {v : Nat × Option (BitVec 64) × List Aecp} {α : Type} {c : Prop} {dec : Decidable c} {x y : α × State}
    (hx : EntityAt v x.2) (hy : EntityAt v y.2) : EntityAt v (if c then x else y).2 := by
  split
  · exact hx
  · exact hy

theorem EntityAt.foldl {v : Nat × Option (BitVec 64) × List Aecp} {s : State} {β : Type} {f : State → β → State} {l : List β}
    (inv : EntityAt v s) (h : ∀ t x, EntityAt v t → EntityAt v (f t x)) :
    EntityAt v (l.foldl f s) :=
  foldl_inv (fun t : State => EntityAt v t) f h l s inv

theorem EntityAt.posted {v : Nat × Option (BitVec 64) × List Aecp} {s : State} {code inst log data : Nat} {cn : Concern}
    (inv : EntityAt v s) : EntityAt v (Machine.post code inst log data cn s) := by
  simpa [EntityAt] using inv

theorem EntityAt.macMod {v : Nat × Option (BitVec 64) × List Aecp} {s : State} {f : Mac → Mac}
    (inv : EntityAt v s) : EntityAt v (Machine.macMod s f) :=
  inv

theorem EntityAt.postEthFor {v : Nat × Option (BitVec 64) × List Aecp} {s : State} {log code inst data : Nat}
    (inv : EntityAt v s) : EntityAt v (Machine.postEthFor log code inst data s) :=
  .posted inv

theorem EntityAt.postEth {v : Nat × Option (BitVec 64) × List Aecp} {s : State} {code inst data : Nat}
    (inv : EntityAt v s) : EntityAt v (Machine.postEth code inst data s) :=
  .postEthFor inv

theorem EntityAt.halfSet {v : Nat × Option (BitVec 64) × List Aecp} {s : State} {g i : Nat}
    (inv : EntityAt v s) : EntityAt v (Machine.halfSet g i s) :=
  .ite (.macMod (.macMod inv)) (.postEth (.macMod (.macMod inv)))

theorem EntityAt.macAdd {v : Nat × Option (BitVec 64) × List Aecp} {s : State} {g i n : Nat}
    (inv : EntityAt v s) : EntityAt v (Machine.macAdd g i n s) :=
  .ite (.halfSet (.macMod inv)) (.macMod inv)

theorem EntityAt.macCount {v : Nat × Option (BitVec 64) × List Aecp} {s : State} {g i : Nat}
    (inv : EntityAt v s) : EntityAt v (Machine.macCount g i s) :=
  .macAdd inv

theorem EntityAt.offerControl {v : Nat × Option (BitVec 64) × List Aecp} {s : State} {kind : Nat} {dest : List Byte}
    {type : Nat} {body : List Byte} (inv : EntityAt v s) : EntityAt v
    (Machine.offerControl kind dest type body s) :=
  .ite inv (.ite (.macCount inv) (.ite (.macCount inv) (.macMod inv)))

theorem EntityAt.freeField {v : Nat × Option (BitVec 64) × List Aecp} {s : State} {n : Nat}
    (inv : EntityAt v s) : EntityAt v (Machine.freeField n s).2 :=
  inv

theorem EntityAt.aecpSend {v : Nat × Option (BitVec 64) × List Aecp} {s : State} {c : BitVec 64} {bytes : List Byte}
    (inv : EntityAt v s) : EntityAt v (Machine.aecpSend c bytes s) :=
  .offerControl (.freeField inv)

theorem EntityAt.asPath {v : Nat × Option (BitVec 64) × List Aecp} {s : State} (inv : EntityAt v s) :
    EntityAt v (Machine.asPath s).2 := by
  unfold Machine.asPath
  extract_lets g n f
  have hf : EntityAt v f.2 := .freeField inv
  exact .pairIte inv (.pairIte hf inv)

theorem EntityAt.aemBody {v : Nat × Option (BitVec 64) × List Aecp} {s : State} {cmd : AemCommand}
    (inv : EntityAt v s) : EntityAt v (Machine.aemBody cmd s).2 := by
  unfold Machine.aemBody
  split
  · exact inv
  · exact inv
  · exact inv
  · exact inv
  · exact inv
  · exact inv
  · exact inv
  · exact inv
  · exact inv
  · exact inv
  · exact inv
  · exact inv
  · exact inv
  · exact inv
  · exact inv
  · exact .asPath inv
  · exact inv
  · exact .freeField inv

theorem EntityAt.aemNotify {v : Nat × Option (BitVec 64) × List Aecp} {s : State} {c : BitVec 64} {cmd : AemCommand}
    (inv : EntityAt v s) : EntityAt v (Machine.aemNotify c cmd s) :=
  .foldl inv (fun _ _ h => .aecpSend (.freeField (.aemBody h)))
/-- The discovery table. -/
def FoundAt (v : List Disc) (s : State) : Prop := s.net.disc = v

theorem FoundAt.ite {v : List Disc} {c : Prop} {dec : Decidable c} {s t : State} (hs : FoundAt v s)
    (ht : FoundAt v t) : FoundAt v (if c then s else t) := by
  split
  · exact hs
  · exact ht

theorem FoundAt.pairIte {v : List Disc} {α : Type} {c : Prop} {dec : Decidable c} {x y : α × State}
    (hx : FoundAt v x.2) (hy : FoundAt v y.2) : FoundAt v (if c then x else y).2 := by
  split
  · exact hx
  · exact hy

theorem FoundAt.posted {v : List Disc} {s : State} {code inst log data : Nat} {cn : Concern}
    (inv : FoundAt v s) : FoundAt v (Machine.post code inst log data cn s) := by
  simpa [FoundAt] using inv

theorem FoundAt.drawElapsed {v : List Disc} {s : State} (inv : FoundAt v s) :
    FoundAt v (Machine.drawElapsed s).2 :=
  inv

theorem FoundAt.netMod {v : List Disc} {s : State} {f : NetState → NetState} (inv : FoundAt v s)
    (hf : ∀ x, (f x).disc = x.disc := by intros; rfl) : FoundAt v (Machine.netMod s f) :=
  (hf _).trans inv

theorem FoundAt.discChanged {v : List Disc} {s : State} {added removed : Nat} (inv : FoundAt v s) :
    FoundAt v (Machine.discChanged added removed s) :=
  .ite (.posted (.netMod (.pairIte (.drawElapsed (.netMod inv)) (.netMod inv))))
    (.pairIte (.drawElapsed (.netMod inv)) (.netMod inv))

theorem FoundAt.discRefused {v : List Disc} {s : State} (inv : FoundAt v s) :
    FoundAt v (Machine.discRefused s) :=
  .ite (.posted (.netMod (.pairIte (.drawElapsed (.netMod inv)) (.netMod inv))))
    (.pairIte (.drawElapsed (.netMod inv)) (.netMod inv))
/-- The owners of the moorings. -/
def OwnersAt (v : Tbl Nat) (s : State) : Prop := s.host.owners = v

theorem OwnersAt.ite {v : Tbl Nat} {c : Prop} {dec : Decidable c} {s t : State} (hs : OwnersAt v s)
    (ht : OwnersAt v t) : OwnersAt v (if c then s else t) := by
  split
  · exact hs
  · exact ht

theorem OwnersAt.posted {v : Tbl Nat} {s : State} {code inst log data : Nat} {cn : Concern}
    (inv : OwnersAt v s) : OwnersAt v (Machine.post code inst log data cn s) :=
  (postSel_host _ _ _ _ _ _ _).2.2.2.2.1.trans inv

theorem OwnersAt.macMod {v : Tbl Nat} {s : State} {f : Mac → Mac} (inv : OwnersAt v s) :
    OwnersAt v (Machine.macMod s f) :=
  inv

theorem OwnersAt.postEthFor {v : Tbl Nat} {s : State} {log code inst data : Nat} (inv : OwnersAt v s) :
    OwnersAt v (Machine.postEthFor log code inst data s) :=
  .posted inv

theorem OwnersAt.postEth {v : Tbl Nat} {s : State} {code inst data : Nat} (inv : OwnersAt v s) :
    OwnersAt v (Machine.postEth code inst data s) :=
  .postEthFor inv

theorem OwnersAt.halfSet {v : Tbl Nat} {s : State} {g i : Nat} (inv : OwnersAt v s) :
    OwnersAt v (Machine.halfSet g i s) :=
  .ite (.macMod (.macMod inv)) (.postEth (.macMod (.macMod inv)))

theorem OwnersAt.macAdd {v : Tbl Nat} {s : State} {g i n : Nat} (inv : OwnersAt v s) :
    OwnersAt v (Machine.macAdd g i n s) :=
  .ite (.halfSet (.macMod inv)) (.macMod inv)

theorem OwnersAt.macCount {v : Tbl Nat} {s : State} {g i : Nat} (inv : OwnersAt v s) :
    OwnersAt v (Machine.macCount g i s) :=
  .macAdd inv

theorem OwnersAt.offerControl {v : Tbl Nat} {s : State} {kind : Nat} {dest : List Byte} {type : Nat}
    {body : List Byte} (inv : OwnersAt v s) : OwnersAt v (Machine.offerControl kind dest type body s) :=
  .ite inv (.ite (.macCount inv) (.ite (.macCount inv) (.macMod inv)))

theorem OwnersAt.freeField {v : Tbl Nat} {s : State} {n : Nat} (inv : OwnersAt v s) :
    OwnersAt v (Machine.freeField n s).2 :=
  inv

theorem OwnersAt.acmpToTalker {v : Tbl Nat} {s : State} {kind n : Nat} {controller : BitVec 64}
    (inv : OwnersAt v s) : OwnersAt v (Machine.acmpToTalker kind n controller s) :=
  .ite (.offerControl (.freeField inv)) inv

end Sys2Proof.Machine
end

section
/-! PROOF. The entity's answers leave the log number. -/

namespace Sys2Proof.Machine

theorem LogAt.aecpMod {v : Nat} {s : State} {c : BitVec 64} {f : Aecp → Aecp} (inv : LogAt v s.host) :
    LogAt v (Machine.aecpMod c f s).host :=
  .netMod inv

theorem LogAt.aecpSend {v : Nat} {s : State} {c : BitVec 64} {bytes : List Byte} (inv : LogAt v s.host) :
    LogAt v (Machine.aecpSend c bytes s).host :=
  .offerControl (.freeField inv)

theorem LogAt.aecpRespond {v : Nat} {s : State} {c : BitVec 64} {seq : BitVec 16} {bytes : List Byte}
    (inv : LogAt v s.host) : LogAt v (Machine.aecpRespond c seq bytes s).host :=
  .aecpSend (.aecpMod inv)

theorem LogAt.asPath {v : Nat} {s : State} (inv : LogAt v s.host) : LogAt v (Machine.asPath s).2.host := by
  unfold Machine.asPath
  extract_lets g n f
  have hf : LogAt v f.2.host := .freeField inv
  exact .pairIte inv (.pairIte hf inv)

theorem LogAt.aemBody {v : Nat} {s : State} {cmd : AemCommand} (inv : LogAt v s.host) :
    LogAt v (Machine.aemBody cmd s).2.host := by
  unfold Machine.aemBody
  split
  · exact inv
  · exact inv
  · exact inv
  · exact inv
  · exact inv
  · exact inv
  · exact inv
  · exact inv
  · exact inv
  · exact inv
  · exact inv
  · exact inv
  · exact inv
  · exact inv
  · exact inv
  · exact .asPath inv
  · exact inv
  · exact .freeField inv

theorem LogAt.aemRespond {v : Nat} {s : State} {c : BitVec 64} {seq : BitVec 16} {cmd : AemCommand} {status : Nat}
    (inv : LogAt v s.host) : LogAt v (Machine.aemRespond c seq cmd status s).host :=
  .aecpRespond (.aemBody inv)

theorem LogAt.aemNotify {v : Nat} {s : State} {c : BitVec 64} {cmd : AemCommand} (inv : LogAt v s.host) :
    LogAt v (Machine.aemNotify c cmd s).host :=
  .foldl inv (fun _ _ h => .aecpSend (.freeField (.aemBody h)))

end Sys2Proof.Machine
end

section
/-! PROOF. Stream reservation, stream frames, ACMP, discovery and the entity's commands. -/

namespace Sys2Proof.Machine

theorem netServe_runs {h : NetHeld} {act : State → State} {s : State} (hcp : cpRuns s = true) :
    netServe h act s = act s := if_pos hcp

theorem netServe_held {h : NetHeld} {act : State → State} {s : State} (hcp : cpRuns s = false) :
    netServe h act s = netHold h s := if_neg (by simp [hcp])

theorem cpPresent_of_runs {s : State} (hcp : cpRuns s = true) : cpPresent s = true := by
  rw [cpRuns, Bool.and_eq_true] at hcp
  exact hcp.1

theorem netReaches_of_runs {s : State} (hl : linkUp s = true) (hcp : cpRuns s = true) : netReaches s = true := by
  simp [netReaches, hl, cpPresent_of_runs hcp]

theorem exec_acmp {k : Fin 4} {n : Fin 32} {id : BitVec 64} {dst : BitVec 48} {c : BitVec 64} {s : State}
    (hr : netReaches s = true) (he : (entitySection s).isSome = true) :
    exec (.acmpCommand k n id dst c) s = .next (netServe (.acmp k.val (n.val + if k.val < 2 then 32 else 0) id dst c)
      (acmpCommand k.val (n.val + if k.val < 2 then 32 else 0) id dst c) s) := by
  change execAcmpCommand k n id dst c s = _
  unfold execAcmpCommand
  exact whenever_true (by simp [hr, he])

theorem exec_aem {c : BitVec 64} {q : BitVec 16} {cmd : AemCommand} {s : State}
    (hr : netReaches s = true) (he : (entitySection s).isSome = true) :
    exec (.aemCommand c q cmd) s = .next (netServe (.aem c q cmd) (aemCommand c q cmd) s) :=
  show execAemCommand c q cmd s = _ from whenever_true (by simp [hr, he])

theorem exec_adp {gone : Bool} {e : DiscEntry} {s : State} (hr : netReaches s = true) (hid : e.entityId ≠ entityId s) :
    exec (.adpReceived gone e) s = .next (netServe (.adp gone e) (adpReceived gone e) s) :=
  show execAdpReceived gone e s = _ from whenever_true (by simp [hr, hid])

/-! ## Stream reservation -/

/-- Where the registrations stand once a declaration has been received (R302). -/
def registeredWith (a : Nat × BitVec 64) (s : State) : State :=
  netMod s (fun v => { v with
    regs := v.regs.filter (fun b => !replaces a b) ++ [a], leaving := v.leaving.filter (fun b => !replaces a b) })

theorem replaces_self (a : Nat × BitVec 64) : replaces a a = true := by
  unfold replaces
  split
  · simp [*]
  · split
    · rename_i h1 h2
      have h2' : 2 ≤ a.1 := Nat.not_lt.mp h1
      simp [h2, h2']
    · simp

theorem receiveDeclaration_leave {k : MsrpKind} {id : BitVec 64} {s : State} (h : attributeOf k id ∈ s.net.regs) :
    receiveDeclaration k id true s = netMod s (fun v => { v with leaving := withElem (attributeOf k id) v.leaving }) := by
  unfold receiveDeclaration
  rw [if_pos rfl, if_pos h]

theorem receiveDeclaration_ready (id : BitVec 64) (s : State) :
    receiveDeclaration .listenerReady id false s = refreshStreams 3 0 (registeredWith (2, id) s) := rfl

theorem receiveDeclaration_advertise (id : BitVec 64) (s : State) :
    receiveDeclaration .talkerAdvertise id false s = refreshStreams 3 0 (registeredWith (0, id) s) := rfl

theorem receiveDeclaration_domain (p : BitVec 3) (vid : BitVec 12) (id : BitVec 64) (s : State) :
    receiveDeclaration (.domain true p vid) id false s
      = refreshStreams 3 0 (registerDomain true p.toNat vid.toNat (registeredWith (5, 0) s)) := rfl

theorem ReservedAt.fields {t : State} {a b : List (Nat × BitVec 64)} {c d : Nat} {e f : Bool} (h : ReservedAt (a, b, c, d, e, f) t) :
    t.net.regs = a ∧ t.net.leaving = b ∧ t.net.prioA = c ∧ t.net.vidA = d ∧ t.net.boundA = e ∧ t.net.boundB = f := by
  simpa [ReservedAt] using h

theorem registered_ready (a : Nat × BitVec 64) (s : State) :
    a ∈ (registeredWith a s).net.regs ∧ a ∉ (registeredWith a s).net.leaving := by
  simp [registeredWith, replaces_self]

theorem registerDomain_classA (p vid : Nat) (s : State) :
    ReservedAt (s.net.regs, s.net.leaving, p, vid, p != s.net.prioA, s.net.boundB) (registerDomain true p vid s) :=
  .ite (.postDomain rfl) rfl

theorem without_not_mem {α : Type} [DecidableEq α] (x : α) (l : List α) : x ∉ without x l := by
  simp [without]

/-- A registration that ends is in neither list. -/
theorem endRegistration_ends (k : MsrpKind) (id : BitVec 64) (s : State) :
    ∃ p v a b, ReservedAt (without (attributeOf k id) s.net.regs, without (attributeOf k id) s.net.leaving, p, v, a, b)
      (endRegistration k id s) := by
  unfold endRegistration
  extract_lets a s1 s2
  suffices h : ∃ p v x y, ReservedAt (without a s.net.regs, without a s.net.leaving, p, v, x, y) s2 by
    obtain ⟨p, v, x, y, h⟩ := h
    exact ⟨p, v, x, y, .refreshStreams h⟩
  cases k with
  | domain classA p vid =>
    cases classA with
    | true => exact ⟨_, _, _, _, .ite (.postDomain rfl) rfl⟩
    | false => exact ⟨_, _, _, _, .ite (.postDomain rfl) rfl⟩
  | talkerAdvertise => exact ⟨_, _, _, _, rfl⟩
  | talkerFailed => exact ⟨_, _, _, _, rfl⟩
  | listenerReady => exact ⟨_, _, _, _, rfl⟩
  | listenerReadyFailed => exact ⟨_, _, _, _, rfl⟩
  | listenerAskingFailed => exact ⟨_, _, _, _, rfl⟩

/-- What a change of its state keeps of stream n: that it is connected, and the stream it names. -/
def NamedAt (n : Nat) (v : Bool × BitVec 64) (s : State) : Prop :=
  tblWf Stream.off s.net.streams = true ∧ ((streamGet s n).connected, (streamGet s n).streamId) = v

theorem NamedAt.of_net {n : Nat} {v : Bool × BitVec 64} {s t : State} (h : NamedAt n v s) (k : t.net.streams = s.net.streams) :
    NamedAt n v t := by
  unfold NamedAt streamGet at h ⊢
  rw [k]
  exact h

theorem NamedAt.state {n : Nat} {v : Bool × BitVec 64} {s : State} (h : NamedAt n v s) (m st cause : Nat) :
    NamedAt n v (streamMod s m (fun q => { q with st := st, cause := cause, block := [] })) := by
  refine ⟨streamMod_wf h.1 m _, ?_⟩
  by_cases hm : n = m
  · subst hm
    rw [streamGet_streamMod h.1]
    exact h.2
  · rw [streamGet, streamMod, netMod_net, tget_tmod_other _ h.1 hm]
    exact h.2

theorem NamedAt.enterStream {n : Nat} {v : Bool × BitVec 64} {s : State} (h : NamedAt n v s) (m st cause log : Nat) :
    NamedAt n v (Machine.enterStream m st cause log s) := by
  unfold Machine.enterStream
  extract_lets was s1
  have h1 : NamedAt n v s1 := (h.state m st cause).of_net (congrArg NetState.streams (NetAt.posted rfl))
  exact inv_ite (P := NamedAt n v) h
    (inv_ite (P := NamedAt n v) (h1.of_net (congrArg NetState.streams (NetAt.dropReference rfl))) h1)

theorem NamedAt.refreshCrf {n : Nat} {v : Bool × BitVec 64} {s : State} (h : NamedAt n v s) (log k : Nat) :
    NamedAt n v (Machine.refreshCrf log s k) :=
  h.of_net (StreamsAt.refreshCrf rfl)

theorem NamedAt.refreshStreams {n : Nat} {v : Bool × BitVec 64} {s : State} (h : NamedAt n v s) (cause log : Nat) :
    NamedAt n v (Machine.refreshStreams cause log s) := by
  refine foldl_inv (NamedAt n v) _ (fun t k ht => ht.refreshCrf log k) _ _ ?_
  exact foldl_inv (NamedAt n v) _ (fun t m ht => inv_ite (P := NamedAt n v) (ht.enterStream m _ cause log) ht) _ _ h

/-- A connected listener whose talker advertises declares that it is ready (R304). -/
theorem declares_ready {s : State} {l : Nat} (w : tblWf Stream.off s.net.streams = true) (hl : l < 32)
    (hc : (streamGet s (32 + l)).connected = true) (hb : recBypass (streamRec s (32 + l)) = false)
    (hclass : classBoundary s (recClassB (streamRec s (32 + l))) = false) :
    Declaration.listenerReady (streamIdOf s (32 + l))
      ∈ declarations (receiveDeclaration .talkerAdvertise (streamIdOf s (32 + l)) false s) := by
  rw [receiveDeclaration_advertise]
  generalize hid : streamIdOf s (32 + l) = id
  have hid' : (streamGet s (32 + l)).streamId = id := by rw [← hid, streamIdOf, if_neg (by omega)]
  have hreserved : ReservedAt ((registeredWith (0, id) s).net.regs, (registeredWith (0, id) s).net.leaving, s.net.prioA, s.net.vidA,
    s.net.boundA, s.net.boundB) (refreshStreams 3 0 (registeredWith (0, id) s)) := .refreshStreams rfl
  have hchart : InForceAt s.cs (refreshStreams 3 0 (registeredWith (0, id) s)) := .refreshStreams rfl
  have hstart : NamedAt (32 + l) (true, id) (registeredWith (0, id) s) := ⟨w, by rw [← hid', ← hc]; rfl⟩
  obtain ⟨-, hname⟩ := hstart.refreshStreams 3 0
  generalize refreshStreams 3 0 (registeredWith (0, id) s) = t at *
  obtain ⟨hregs, -, -, -, hA, hB⟩ := hreserved.fields
  have hrec : streamRec t (32 + l) = streamRec s (32 + l) := streamRec_of_cs hchart _
  have hboundary : classBoundary t (recClassB (streamRec s (32 + l))) = false := by
    rw [← hclass, classBoundary, classBoundary, hA, hB]
  have h1 : registered t 1 id = false := by simp [registered, hregs, registeredWith, replaces]
  have h0 : registered t 0 id = true := by simp [registered, hregs, registeredWith]
  have hdecl : streamDeclares t (32 + l) = [.listenerReady id] := by
    simp only [Prod.mk.injEq] at hname
    unfold streamDeclares listenerDeclares streamIdOf
    simp [hname, hrec, hb, hboundary, h0, h1]
  unfold declarations
  refine List.mem_append_left _ (List.mem_append_right _ (List.mem_flatMap.mpr ⟨32 + l, List.mem_range.mpr (by omega), ?_⟩))
  rw [hdecl]
  exact List.mem_singleton.mpr rfl

/-! ## Discovery and the entity -/

theorem discFind_id {s : State} {id : BitVec 64} {e : DiscEntry} (h : discFind s id = some e) : e.entityId = id := by
  unfold discFind at h
  obtain ⟨x, hx, rfl⟩ := Option.map_eq_some_iff.mp h
  simpa using List.find?_some hx

theorem adpReceived_new {s : State} {e : DiscEntry} (h : discFind s e.entityId = none) (hroom : s.net.disc.length < 2048) :
    adpReceived false e s = discChanged 1 0 (setDisc (discInsert e s.net.disc) s) := by
  unfold adpReceived
  rw [h, if_neg (by decide)]
  exact if_neg (by omega)

theorem adpReceived_full {s : State} {e : DiscEntry} (h : discFind s e.entityId = none) (hfull : 2048 ≤ s.net.disc.length) :
    adpReceived false e s = discRefused s := by
  unfold adpReceived
  rw [h]
  exact if_pos hfull

theorem adpReceived_gone {s : State} {e old : DiscEntry} (h : discFind s e.entityId = some old) :
    adpReceived true e s = discChanged 0 1 (setDisc (discWithout e.entityId s.net.disc) s) := by
  unfold adpReceived
  rw [h]
  exact if_pos rfl

theorem discRefused_count (s : State) : (discRefused s).net.discFull = min (s.net.discFull + 1) 0xFFFFFFFF := by
  unfold discRefused
  extract_lets s1 d
  have hd : d.2.net.discFull = min (s.net.discFull + 1) 0xFFFFFFFF := by
    show (if s.net.discFullPosted then drawElapsed s1 else (true, s1)).2.net.discFull = _
    split <;> rfl
  split
  · exact (congrArg NetState.discFull (NetAt.posted rfl)).trans hd
  · exact hd

/-- An advertisement counts the index of what the entity offers (R318). -/
theorem adpSend_available {message : Nat} {s : State} (hl : linkUp s = true) (he : (entitySection s).isSome = true) :
    ∃ a b, EntityAt ((s.net.available + 1) % 2 ^ 32, a, b) (adpSend message s) := by
  unfold adpSend
  rw [if_neg (by simp [hl, Option.isSome_iff_ne_none.mp he])]
  exact ⟨_, _, .offerControl rfl⟩

theorem aecpGet_controller (s : State) (c : BitVec 64) : (aecpGet s c).controller = c := by
  unfold aecpGet
  cases h : s.net.aecp.find? (fun a => a.controller == c) with
  | none => rfl
  | some a => simpa using List.find?_some h

theorem aecpGet_aecpMod {s : State} {c : BitVec 64} {f : Aecp → Aecp} (hf : ∀ a, (f a).controller = a.controller) :
    aecpGet (aecpMod c f s) c = f (aecpGet s c) := by
  have hc : ((f (aecpGet s c)).controller == c) = true := by rw [hf, aecpGet_controller, beq_self_eq_true]
  have hnone : (s.net.aecp.filter (fun x => x.controller != c)).find? (fun a => a.controller == c) = none := by
    rw [List.find?_eq_none]
    intro x hx
    simpa using (List.mem_filter.mp hx).2
  show (List.find? _ (_ ++ [_])).getD _ = _
  rw [List.find?_append, hnone, List.find?_cons_of_pos (p := fun a : Aecp => a.controller == c) hc]
  rfl

theorem aecpGet_of_list {s t : State} (h : t.net.aecp = s.net.aecp) (c : BitVec 64) : aecpGet t c = aecpGet s c := by
  rw [aecpGet, h]
  rfl

/-! ## ACMP -/

theorem connectedState_ne_zero (s : State) (talker : Bool) (r : List Byte) (id : BitVec 64) (now : Nat) :
    connectedState s talker r id now ≠ 0 := by
  unfold connectedState
  split
  · decide
  · split
    · split <;> decide
    · split <;> decide

theorem StreamIs.connects {n : Nat} {q : Stream} {s : State} (h : StreamIs n q s) (hst : q.st = 0) (cause log : Nat) :
    ∃ q', StreamIs n q' (Machine.connectNow n cause log s) ∧ q'.connected = true ∧ q'.st ≠ 0 := by
  unfold Machine.connectNow
  extract_lets ws s1
  have h1 := h.mod (fun q => { q with connected := true, waiters := [], expected := none, mr := none, block := []
                                      pto := q.pendPto.getD q.pto, pendPto := none })
  generalize hnew : connectedState s1 (decide (n < 32)) (streamRec s1 n) (streamIdOf s1 n) 0 = st
  have hne : st ≠ 0 := hnew ▸ connectedState_ne_zero _ _ _ _ _
  have henter := h1.enter (st := st) (by rw [hst]; exact hne.symm) cause log
  exact ⟨_, (henter.of_net (NetAt.startMembers rfl)).completeAll _ _, rfl, hne⟩

theorem StreamIs.of_streams {n : Nat} {q : Stream} {s t : State} (h : StreamIs n q s) (k : t.net.streams = s.net.streams) :
    StreamIs n q t := by
  unfold StreamIs streamGet at h ⊢
  rw [k]
  exact h

theorem streamDefined_of_cs {s t : State} (h : t.cs = s.cs) (n : Nat) : streamDefined t n = streamDefined s n := by
  unfold streamDefined entitySection
  rw [streamRec_of_cs h, h]

/-- What CONNECT_RX of a listener that is off does (R317). -/
theorem acmpEffect_connects {n : Nat} {id : BitVec 64} {dest : BitVec 48} {log : Nat} {s : State} (hn : 32 ≤ n)
    (hdef : streamDefined s n = true) (hopen : openMooring s (0x0800 + n) = true) (hst : (streamGet s n).st = 0)
    (hov : u8 (streamRec s n) 1 = 0xFF) (w : tblWf Stream.off s.net.streams = true) :
    ∃ q, StreamIs n q (acmpEffect 0 n id dest log s).2 ∧ q.connected = true ∧ q.st ≠ 0 := by
  have hnamed : StreamIs n _ (nameStream n dest.toNat id 0xFFFFFFFF s) := StreamIs.mod ⟨w, rfl⟩ _
  have hconnect := connectStream_listener (cause := 1) (log := log) (ws := [])
    (s := nameStream n dest.toNat id 0xFFFFFFFF s) hn hov
  obtain ⟨q', hq, hconn, hne⟩ := (hnamed.mod (fun q => { q with waiters := [] })).connects hst 1 log
  have heffect : (acmpEffect 0 n id dest log s).2
      = connectNow n 1 log (streamMod (nameStream n dest.toNat id 0xFFFFFFFF s) n (fun q => { q with waiters := [] })) := by
    unfold acmpEffect
    simp only [hdef, hopen, hst, hconnect, show ¬ n < 32 by omega, decide_false, Bool.not_true, Bool.false_eq_true, if_false,
      true_or, if_true, ne_eq, not_true_eq_false, Bool.false_and]
    exact if_neg (by decide)
  rw [heffect]
  exact ⟨q', hq, hconn, hne⟩

theorem openMooring_of_owners {s t : State} (h : t.host.owners = s.host.owners) (id : Nat) :
    openMooring t id = openMooring s id := by
  unfold openMooring ownerOf
  rw [h]

/-- A controller that connects a listener that is off (R317). -/
theorem acmpCommand_connects {n : Nat} {id : BitVec 64} {dest : BitVec 48} {c : BitVec 64} {s : State} (hn : 32 ≤ n)
    (hdef : streamDefined s n = true) (hopen : openMooring s (0x0800 + n) = true) (hst : (streamGet s n).st = 0)
    (hov : u8 (streamRec s n) 1 = 0xFF) (w : tblWf Stream.off s.net.streams = true) :
    (streamGet (acmpCommand 0 n id dest c s) n).connected = true ∧ (streamGet (acmpCommand 0 n id dest c s) n).st ≠ 0 := by
  unfold acmpCommand
  extract_lets r q
  have hchart : InForceAt s.cs (acmpToTalker 0 n c (takeLog s)) := .acmpToTalker rfl
  have hstreams : StreamsAt s.net.streams (acmpToTalker 0 n c (takeLog s)) := .acmpToTalker rfl
  have howners : OwnersAt s.host.owners (acmpToTalker 0 n c (takeLog s)) := .acmpToTalker rfl
  have hsame : StreamIs n (streamGet s n) (acmpToTalker 0 n c (takeLog s)) := StreamIs.of_streams ⟨w, rfl⟩ hstreams
  obtain ⟨q', hq, hconn, hne⟩ := acmpEffect_connects (id := id) (dest := dest) (log := s.host.log) hn
    ((streamDefined_of_cs hchart n).trans hdef) ((openMooring_of_owners howners _).trans hopen)
    ((congrArg Stream.st hsame.2).trans hst) ((congrArg (fun x => u8 x 1) (streamRec_of_cs hchart n)).trans hov) hsame.1
  obtain ⟨-, hend⟩ : StreamIs n q' (acmpSend 0 r.1 (streamIdOf r.2 n) q.dest c q.acmp r.2) := hq.of_streams (StreamsAt.acmpSend rfl)
  rw [hend]
  exact ⟨hconn, hne⟩

theorem acmpCommand_refused {n : Nat} {id : BitVec 64} {dest : BitVec 48} {c : BitVec 64} {s : State} (hn : 32 ≤ n)
    (hdef : streamDefined s n = true) (hopen : openMooring s (0x0800 + n) = false) :
    acmpCommand 0 n id dest c s
      = acmpSend 0 16 (streamGet s n).streamId (streamGet s n).dest c (streamGet s n).acmp (takeLog s) := by
  have htalker : acmpToTalker 0 n c (takeLog s) = takeLog s := by
    refine if_neg fun h => ?_
    have hclosed : openMooring s (0x0800 + n) = true := h.2.2
    simp [hopen] at hclosed
  have heffect : acmpEffect 0 n id dest s.host.log (takeLog s) = (acmpNotAuthorized, takeLog s) := by
    have hdef' : streamDefined (takeLog s) n = true := hdef
    have hopen' : openMooring (takeLog s) (0x0800 + n) = false := hopen
    unfold acmpEffect
    simp only [hdef', hopen', Bool.not_true, Bool.not_false, Bool.false_eq_true, if_false, if_true]
  unfold acmpCommand
  have hid : streamIdOf (takeLog s) n = (streamGet s n).streamId := if_neg (by omega)
  rw [htalker, heffect]
  dsimp only
  rw [hid]
  rfl

/-! ## Commands of the entity -/

theorem aemCommand_executed {c : BitVec 64} {q : BitVec 16} {s : State} (hseq : (aecpGet s c).lastSeq ≠ some q)
    (hf : foreign s c = false) {cmd : AemCommand} {e : Nat × State} (he : e = aemEffect c s.host.log cmd (takeLog s)) :
    aemCommand c q cmd s = if e.1 = aemSuccess ∧ aemChanges cmd = true then aemNotify c cmd (aemRespond c q cmd e.1 e.2)
      else aemRespond c q cmd e.1 e.2 := by
  unfold aemCommand
  rw [if_neg hseq, if_neg (by simp [hf]), he]

/-- What the answer to a command, and its notices, leave of the entity (R320, R321). -/
theorem answered_entity (c : BitVec 64) (bytes : List Byte) (cmd : AemCommand) (m : State) :
    EntityAt (m.net.available, m.net.acquired, m.net.aecp) (aemNotify c cmd (aecpSend c bytes m)) :=
  .aemNotify (.aecpSend rfl)

theorem EntityAt.fields {t : State} {a : Nat} {b : Option (BitVec 64)} {l : List Aecp} (h : EntityAt (a, b, l) t) :
    t.net.available = a ∧ t.net.acquired = b ∧ t.net.aecp = l := by
  simpa [EntityAt] using h

/-- A controller that acquires the entity, which nobody holds (R320). -/
theorem aemCommand_acquires {c : BitVec 64} {q : BitVec 16} {s : State} (hseq : (aecpGet s c).lastSeq ≠ some q)
    (hf : foreign s c = false) (hfree : s.net.acquired = none) :
    (aemCommand c q (.acquireEntity false) s).net.acquired = some c
      ∧ (aemCommand c q (.acquireEntity false) s).host.log = nextLog s.host.log
      ∧ (aecpGet (aemCommand c q (.acquireEntity false) s) c).lastSeq = some q := by
  generalize hu : netMod (takeLog s) (fun v => { v with acquired := some c }) = u
  have heffect : (aemSuccess, u) = aemEffect c s.host.log (.acquireEntity false) (takeLog s) := by
    have hfree' : (takeLog s).net.acquired = none := hfree
    simp only [aemEffect, hfree', Option.isSome_none, Bool.and_false, Bool.false_and, Bool.false_eq_true, if_false, hu]
  have hlog : LogAt (nextLog s.host.log) u.host := by
    rw [← hu]
    exact .netMod rfl
  have hacquired : u.net.acquired = some c := by rw [← hu, netMod_net]
  rw [aemCommand_executed hseq hf heffect, if_pos ⟨rfl, rfl⟩]
  obtain ⟨-, ha, hl⟩ := (answered_entity c _ (.acquireEntity false) (aecpMod c _ u)).fields
  refine ⟨ha.trans hacquired, LogAt.aemNotify (LogAt.aemRespond hlog), ?_⟩
  exact (congrArg Aecp.lastSeq ((aecpGet_of_list hl c).trans (aecpGet_aecpMod fun _ => rfl))).trans rfl

/-- The first fragment of a vendor-unique command of two (R321). -/
theorem vendorFragment_first {c : BitVec 64} {q : BitVec 16} {d : List Byte} {s : State}
    (hseq : (aecpGet s c).lastSeq ≠ some q) (hd : d.length ≤ 500) :
    vendorFragment c q false 0 2 d s = aecpRespond c q (vendorBytes s c q 3 2 0 [])
      (aecpMod c (fun a => { a with assembly := d, frags := 1 }) s) := by
  have horder : fragmentInOrder (aecpGet s c) 0 2 d = true := by simp [fragmentInOrder, hd]
  unfold vendorFragment
  rw [if_neg hseq, Bool.not_false, if_pos rfl]
  unfold vendorCommand
  rw [if_neg (by simp [horder])]
  rfl

theorem vendorFragment_fetch {c : BitVec 64} {q : BitVec 16} {i n : Nat} {d : List Byte} {s : State}
    (hseq : (aecpGet s c).lastSeq ≠ some q) (hf : foreign s c = false) :
    vendorFragment c q true i n d s = aecpRespond c q (replyFragment s c q i (aecpGet s c).reply) s := by
  unfold vendorFragment
  rw [if_neg hseq, if_neg (by decide), if_neg (by simp [hf])]

end Sys2Proof.Machine

namespace Sys2Proof
open Sys2Proof.Machine

/-- Settles O53: MSRP, AAF and CRF frames, ACMP, ADP and AECP. -/
theorem streamAndDiscoveryStepsTakeEffect : Obligations.StreamAndDiscoveryStepsTakeEffect := by
  intro s
  refine ⟨?leave, ?ready, ?domain, ?advertise, ?expires, ?block, ?crf, ?crfLong, ?quiet, ?acmp, ?connects, ?refused, ?held,
    ?adpHeld, ?offers, ?found, ?gone, ?full, ?forgotten, ?aem, ?locked, ?repeated, ?fragment, ?fetch⟩
  case leave =>
    intro k id hl hreg
    exact (show execMsrpDeclarationReceived k id true s = _ from whenever_true hl).trans
      (congrArg Host.Outcome.next (receiveDeclaration_leave hreg))
  case ready =>
    intro id hl
    have hrun : execMsrpDeclarationReceived .listenerReady id false s = _ := whenever_true hl
    rw [receiveDeclaration_ready] at hrun
    have hkeep : ReservedAt _ (refreshStreams 3 0 (registeredWith (2, id) s)) := .refreshStreams rfl
    obtain ⟨hreg, hleave, -⟩ := hkeep.fields
    obtain ⟨h1, h2⟩ := registered_ready (2, id) s
    exact ⟨_, hrun, by rw [hreg]; exact h1, by rw [hleave]; exact h2⟩
  case domain =>
    intro id p vid hl
    have hrun : execMsrpDeclarationReceived (.domain true p vid) id false s = _ := whenever_true hl
    rw [receiveDeclaration_domain] at hrun
    have hkeep : ReservedAt _ (refreshStreams 3 0 (registerDomain true p.toNat vid.toNat (registeredWith (5, 0) s))) :=
      .refreshStreams (registerDomain_classA p.toNat vid.toNat (registeredWith (5, 0) s))
    obtain ⟨-, -, hp, hv, hb, -⟩ := hkeep.fields
    exact ⟨_, hrun, hp, hv, hb⟩
  case advertise =>
    intro l hl w hc hb hclass
    have hrun : execMsrpDeclarationReceived .talkerAdvertise (streamIdOf s (32 + l.val)) false s = _ := whenever_true hl
    exact ⟨_, hrun, declares_ready w l.isLt hc hb hclass⟩
  case expires =>
    intro k id hleave
    have hrun : execMrpLeaveTimerExpire k id s = _ := whenever_true (by simpa using hleave)
    obtain ⟨p, v, a, b, hends⟩ := endRegistration_ends k id s
    obtain ⟨hregs, hleaving, -⟩ := hends.fields
    exact ⟨_, hrun, by rw [hregs]; exact without_not_mem _ _, by rw [hleaving]; exact without_not_mem _ _⟩
  case block => exact fun n now h => show execTalkerBlock n now s = _ from whenever_true h
  case crf =>
    intro now ht hst hz hlen
    exact (show execCrfFrameSend now s = _ from whenever_true (by simp [ht, hst, hz])).trans
      (congrArg Host.Outcome.next (if_neg (by omega)))
  case crfLong =>
    intro now ht hst hz hlen
    exact (show execCrfFrameSend now s = _ from whenever_true (by simp [ht, hst, hz])).trans
      (congrArg Host.Outcome.next (if_pos hlen))
  case quiet =>
    intro l hst w
    have hrun : execStreamReceiveTimeout l s = _ := whenever_true (by simp [hst])
    obtain ⟨-, hq⟩ := StreamIs.enter (n := 32 + l.val) (q := streamGet s (32 + l.val)) ⟨w, rfl⟩ (st := 2)
      (by rw [hst]; decide) (streamGet s (32 + l.val)).cause 0
    exact ⟨_, hrun, by rw [hq], by rw [hq]⟩
  case acmp =>
    intro k n id dst c hl hcp he
    exact (exec_acmp (netReaches_of_runs hl hcp) he).trans (congrArg Host.Outcome.next (netServe_runs hcp))
  case connects =>
    intro n id dst c hl hcp he hdef hopen hst hov w
    have hn : 32 ≤ n.val + 32 := Nat.le_add_left _ _
    exact ⟨_, (exec_acmp (k := 0) (netReaches_of_runs hl hcp) he).trans (congrArg Host.Outcome.next (netServe_runs hcp)),
      acmpCommand_connects hn hdef hopen hst hov w⟩
  case refused =>
    intro n id dst c hl hcp he hdef hopen
    exact (exec_acmp (k := 0) (netReaches_of_runs hl hcp) he).trans (congrArg Host.Outcome.next
      ((netServe_runs hcp).trans (acmpCommand_refused (Nat.le_add_left _ _) hdef hopen)))
  case held =>
    intro hr he hcp
    refine ⟨?_, fun k n id dst c => ?_, fun c q cmd => ?_⟩
    · exact (show execAdpAdvertise s = _ from whenever_true (by simp [hr, he])).trans
        (congrArg Host.Outcome.next (netServe_held hcp))
    · exact (exec_acmp hr he).trans (congrArg Host.Outcome.next (netServe_held hcp))
    · exact (exec_aem hr he).trans (congrArg Host.Outcome.next (netServe_held hcp))
  case adpHeld =>
    exact fun gone e hr hid hcp => (exec_adp hr hid).trans (congrArg Host.Outcome.next (netServe_held hcp))
  case offers =>
    intro hl hcp he
    have hrun : execAdpAdvertise s = _ := whenever_true (by simp [netReaches_of_runs hl hcp, he])
    rw [netServe_runs hcp] at hrun
    obtain ⟨a, b, h⟩ := adpSend_available (message := 0) hl he
    exact ⟨_, hrun, h.fields.1⟩
  case found =>
    intro e hl hcp hid hnone hroom
    exact ⟨_, (exec_adp (netReaches_of_runs hl hcp) hid).trans (congrArg Host.Outcome.next
      ((netServe_runs hcp).trans (adpReceived_new hnone hroom))), FoundAt.discChanged rfl⟩
  case gone =>
    intro e old hl hcp hid hsome
    exact ⟨_, (exec_adp (netReaches_of_runs hl hcp) hid).trans (congrArg Host.Outcome.next
      ((netServe_runs hcp).trans (adpReceived_gone hsome))), FoundAt.discChanged rfl⟩
  case full =>
    intro e hl hcp hid hnone hfull
    exact ⟨_, (exec_adp (netReaches_of_runs hl hcp) hid).trans (congrArg Host.Outcome.next
      ((netServe_runs hcp).trans (adpReceived_full hnone hfull))), FoundAt.discRefused rfl, discRefused_count s⟩
  case forgotten =>
    intro id old hsome
    have hrun : execDiscEntryExpire id s = _ := whenever_true (by simp [hsome])
    exact ⟨_, hrun, FoundAt.discChanged rfl⟩
  case aem =>
    intro c q hl hcp he hseq hf
    have hrun (cmd : AemCommand) : exec (.aemCommand c q cmd) s = .next (aemCommand c q cmd s) :=
      (exec_aem (netReaches_of_runs hl hcp) he).trans (congrArg Host.Outcome.next (netServe_runs hcp))
    refine ⟨fun cmd e heff => ⟨fun hno => ?_, fun hok hch => ?_⟩, fun hfree => ⟨_, hrun _, aemCommand_acquires hseq hf hfree⟩⟩
    · refine (hrun cmd).trans (congrArg Host.Outcome.next ((aemCommand_executed hseq hf heff).trans (if_neg fun h => ?_)))
      obtain hne | hno := hno
      · exact hne h.1
      · simp [h.2] at hno
    · exact (hrun cmd).trans (congrArg Host.Outcome.next ((aemCommand_executed hseq hf heff).trans (if_pos ⟨hok, hch⟩)))
  case locked =>
    intro c q cmd hl hcp he hseq hf
    exact (exec_aem (netReaches_of_runs hl hcp) he).trans (congrArg Host.Outcome.next
      ((netServe_runs hcp).trans ((if_neg hseq).trans (if_pos hf))))
  case repeated =>
    intro c q cmd hl hcp he hseq
    exact (exec_aem (netReaches_of_runs hl hcp) he).trans (congrArg Host.Outcome.next
      ((netServe_runs hcp).trans (if_pos hseq)))
  case fragment =>
    intro c q d hl hcp he hseq hd
    exact (show execAecpVendorFragment c q 0 0 2 d s = _ from whenever_true (by simp [hl, hcp, he])).trans
      (congrArg Host.Outcome.next (vendorFragment_first hseq hd))
  case fetch =>
    intro c q i n d hl hcp he hseq hf
    exact (show execAecpVendorFragment c q 1 i n d s = _ from whenever_true (by simp [hl, hcp, he])).trans
      (congrArg Host.Outcome.next (vendorFragment_fetch hseq hf))

end Sys2Proof
end

section
/-! PROOF. What supply warnings and jacks keep of the auxiliary DAC and the mic bias outputs. -/

namespace Sys2Proof.Machine

/-- The supply and the fault of the auxiliary DAC. -/
def SupplyAt (v : Bool × Bool × Bool) (s : State) : Prop := (s.aux.vauxLow, s.aux.vauxReset, s.aux.fault) = v

theorem SupplyAt.ite {v : Bool × Bool × Bool} {c : Prop} {dec : Decidable c} {s t : State} (hs : SupplyAt v s)
    (ht : SupplyAt v t) : SupplyAt v (if c then s else t) := by
  split
  · exact hs
  · exact ht

theorem SupplyAt.foldl {v : Bool × Bool × Bool} {s : State} {β : Type} {f : State → β → State} {l : List β}
    (inv : SupplyAt v s) (h : ∀ t x, SupplyAt v t → SupplyAt v (f t x)) :
    SupplyAt v (l.foldl f s) :=
  foldl_inv (fun t : State => SupplyAt v t) f h l s inv

theorem SupplyAt.posted {v : Bool × Bool × Bool} {s : State} {code inst log data : Nat} {cn : Concern}
    (inv : SupplyAt v s) : SupplyAt v (Machine.post code inst log data cn s) := by
  simpa [SupplyAt] using inv

theorem SupplyAt.postBrown {v : Bool × Bool × Bool} {s : State} {rail data : Nat} (inv : SupplyAt v s) :
    SupplyAt v (Machine.postBrown rail data s) :=
  .ite inv (.ite inv (.posted inv))

theorem SupplyAt.auxMod {v : Bool × Bool × Bool} {s : State} {c : Nat} {f : Aux → Aux} (inv : SupplyAt v s) :
    SupplyAt v (Machine.auxMod s c f) :=
  inv

theorem SupplyAt.queueMod {v : Bool × Bool × Bool} {s : State} {c : Nat} {f : AuxQueue → AuxQueue}
    (inv : SupplyAt v s) : SupplyAt v (Machine.queueMod s c f) :=
  inv

theorem SupplyAt.auxStimulus {v : Bool × Bool × Bool} {s : State} {tip : Bool} (inv : SupplyAt v s) :
    SupplyAt v (Machine.auxStimulus tip s) :=
  inv

theorem SupplyAt.jackMod {v : Bool × Bool × Bool} {s : State} {j : Nat} {f : Jack → Jack} (inv : SupplyAt v s)
    : SupplyAt v (Machine.jackMod s j f) :=
  .ite inv inv

theorem SupplyAt.serveJack {v : Bool × Bool × Bool} {s : State} {j : Nat} (inv : SupplyAt v s) :
    SupplyAt v (Machine.serveJack s j) :=
  .ite (.auxStimulus (.jackMod inv)) inv

theorem SupplyAt.serveJacks {v : Bool × Bool × Bool} {s : State} (inv : SupplyAt v s) :
    SupplyAt v (Machine.serveJacks s) :=
  .serveJack (.serveJack inv)

theorem SupplyAt.jacksBack {v : Bool × Bool × Bool} {s : State} (inv : SupplyAt v s) :
    SupplyAt v (Machine.jacksBack s) :=
  .jackMod (.jackMod inv)

theorem SupplyAt.micMod {v : Bool × Bool × Bool} {s : State} {o : Nat} {f : MicBias → MicBias}
    (inv : SupplyAt v s) : SupplyAt v (Machine.micMod s o f) :=
  .ite inv inv

theorem SupplyAt.capMod {v : Bool × Bool × Bool} {s : State} {c : Nat} {f : Capture → Capture}
    (inv : SupplyAt v s) : SupplyAt v (Machine.capMod s c f) :=
  inv

theorem SupplyAt.micMute {v : Bool × Bool × Bool} {s : State} {o : Nat} (inv : SupplyAt v s) :
    SupplyAt v (Machine.micMute o s) :=
  .foldl (.micMod inv) (fun _ _ h => .capMod h)

theorem SupplyAt.micGoTo {v : Bool × Bool × Bool} {s : State} {o code : Nat} (inv : SupplyAt v s) :
    SupplyAt v (Machine.micGoTo o code s) :=
  .auxMod (.micMod inv)

theorem SupplyAt.micStart {v : Bool × Bool × Bool} {s : State} {o code : Nat} (inv : SupplyAt v s) :
    SupplyAt v (Machine.micStart o code s) :=
  .micMute (.auxMod (.micGoTo inv))

theorem SupplyAt.micStop {v : Bool × Bool × Bool} {s : State} {o st : Nat} (inv : SupplyAt v s) :
    SupplyAt v (Machine.micStop o st s) :=
  .auxMod (.micMod inv)

theorem SupplyAt.postMicFault {v : Bool × Bool × Bool} {s : State} {o cause : Nat} (inv : SupplyAt v s) :
    SupplyAt v (Machine.postMicFault o cause s) :=
  .posted inv

theorem SupplyAt.postAuxFault {v : Bool × Bool × Bool} {s : State} {mask cause : Nat} (inv : SupplyAt v s) :
    SupplyAt v (Machine.postAuxFault mask cause s) :=
  .posted inv

theorem SupplyAt.auxAllOff {v : Bool × Bool × Bool} {s : State} (inv : SupplyAt v s) :
    SupplyAt v (Machine.auxAllOff s) :=
  .foldl (.foldl inv (fun _ _ h => .auxMod h)) (fun _ _ h => .queueMod h)

theorem SupplyAt.auxGoOff {v : Bool × Bool × Bool} {s : State} {cause : Nat} (inv : SupplyAt v s) :
    SupplyAt v (Machine.auxGoOff cause s) := by
  have h : SupplyAt v (Machine.auxAllOff s) := .auxAllOff inv
  unfold Machine.auxGoOff
  dsimp only
  generalize Machine.auxAllOff s = u at h ⊢
  exact .jacksBack (.postAuxFault h)

theorem SupplyAt.auxResume {v : Bool × Bool × Bool} {s : State} (inv : SupplyAt v s) :
    SupplyAt v (Machine.auxResume s) := by
  have h : SupplyAt v (Machine.auxMod s 14 (fun a => { a with enabled := true, driving := true })) := .auxMod inv
  exact .ite inv (.serveJacks (.postAuxFault h))
/-- The mic bias outputs. -/
def MicsAt (v : MicBias × MicBias) (s : State) : Prop := (s.cap.micA, s.cap.micB) = v

theorem MicsAt.ite {v : MicBias × MicBias} {c : Prop} {dec : Decidable c} {s t : State} (hs : MicsAt v s)
    (ht : MicsAt v t) : MicsAt v (if c then s else t) := by
  split
  · exact hs
  · exact ht

theorem MicsAt.foldl {v : MicBias × MicBias} {s : State} {β : Type} {f : State → β → State} {l : List β}
    (inv : MicsAt v s) (h : ∀ t x, MicsAt v t → MicsAt v (f t x)) :
    MicsAt v (l.foldl f s) :=
  foldl_inv (fun t : State => MicsAt v t) f h l s inv

theorem MicsAt.posted {v : MicBias × MicBias} {s : State} {code inst log data : Nat} {cn : Concern}
    (inv : MicsAt v s) : MicsAt v (Machine.post code inst log data cn s) := by
  simpa [MicsAt] using inv

theorem MicsAt.postBrown {v : MicBias × MicBias} {s : State} {rail data : Nat} (inv : MicsAt v s) :
    MicsAt v (Machine.postBrown rail data s) :=
  .ite inv (.ite inv (.posted inv))

theorem MicsAt.auxMod {v : MicBias × MicBias} {s : State} {c : Nat} {f : Aux → Aux} (inv : MicsAt v s) :
    MicsAt v (Machine.auxMod s c f) :=
  inv

theorem MicsAt.queueMod {v : MicBias × MicBias} {s : State} {c : Nat} {f : AuxQueue → AuxQueue}
    (inv : MicsAt v s) : MicsAt v (Machine.queueMod s c f) :=
  inv

theorem MicsAt.auxStimulus {v : MicBias × MicBias} {s : State} {tip : Bool} (inv : MicsAt v s) :
    MicsAt v (Machine.auxStimulus tip s) :=
  inv

theorem MicsAt.jackMod {v : MicBias × MicBias} {s : State} {j : Nat} {f : Jack → Jack} (inv : MicsAt v s) :
    MicsAt v (Machine.jackMod s j f) :=
  .ite inv inv

theorem MicsAt.serveJack {v : MicBias × MicBias} {s : State} {j : Nat} (inv : MicsAt v s) :
    MicsAt v (Machine.serveJack s j) :=
  .ite (.auxStimulus (.jackMod inv)) inv

theorem MicsAt.serveJacks {v : MicBias × MicBias} {s : State} (inv : MicsAt v s) :
    MicsAt v (Machine.serveJacks s) :=
  .serveJack (.serveJack inv)

theorem MicsAt.jacksBack {v : MicBias × MicBias} {s : State} (inv : MicsAt v s) :
    MicsAt v (Machine.jacksBack s) :=
  .jackMod (.jackMod inv)

theorem MicsAt.postMicFault {v : MicBias × MicBias} {s : State} {o cause : Nat} (inv : MicsAt v s) :
    MicsAt v (Machine.postMicFault o cause s) :=
  .posted inv

theorem MicsAt.postAuxFault {v : MicBias × MicBias} {s : State} {mask cause : Nat} (inv : MicsAt v s) :
    MicsAt v (Machine.postAuxFault mask cause s) :=
  .posted inv

theorem MicsAt.auxAllOff {v : MicBias × MicBias} {s : State} (inv : MicsAt v s) :
    MicsAt v (Machine.auxAllOff s) :=
  .foldl (.foldl inv (fun _ _ h => .auxMod h)) (fun _ _ h => .queueMod h)

theorem MicsAt.auxGoOff {v : MicBias × MicBias} {s : State} {cause : Nat} (inv : MicsAt v s) :
    MicsAt v (Machine.auxGoOff cause s) := by
  have h : MicsAt v (Machine.auxAllOff s) := .auxAllOff inv
  unfold Machine.auxGoOff
  dsimp only
  generalize Machine.auxAllOff s = u at h ⊢
  exact .jacksBack (.postAuxFault h)

theorem MicsAt.auxResume {v : MicBias × MicBias} {s : State} (inv : MicsAt v s) :
    MicsAt v (Machine.auxResume s) := by
  have h : MicsAt v (Machine.auxMod s 14 (fun a => { a with enabled := true, driving := true })) := .auxMod inv
  exact .ite inv (.serveJacks (.postAuxFault h))
/-- The channels and the queues of the auxiliary DAC. -/
def AuxTablesAt (v : Tbl Aux × Tbl AuxQueue) (s : State) : Prop := (s.aux.chans, s.aux.queues) = v

theorem AuxTablesAt.ite {v : Tbl Aux × Tbl AuxQueue} {c : Prop} {dec : Decidable c} {s t : State} (hs : AuxTablesAt v s)
    (ht : AuxTablesAt v t) : AuxTablesAt v (if c then s else t) := by
  split
  · exact hs
  · exact ht

theorem AuxTablesAt.foldl {v : Tbl Aux × Tbl AuxQueue} {s : State} {β : Type} {f : State → β → State} {l : List β}
    (inv : AuxTablesAt v s) (h : ∀ t x, AuxTablesAt v t → AuxTablesAt v (f t x)) :
    AuxTablesAt v (l.foldl f s) :=
  foldl_inv (fun t : State => AuxTablesAt v t) f h l s inv

theorem AuxTablesAt.posted {v : Tbl Aux × Tbl AuxQueue} {s : State} {code inst log data : Nat} {cn : Concern}
    (inv : AuxTablesAt v s) : AuxTablesAt v (Machine.post code inst log data cn s) := by
  simpa [AuxTablesAt] using inv

theorem AuxTablesAt.postBrown {v : Tbl Aux × Tbl AuxQueue} {s : State} {rail data : Nat}
    (inv : AuxTablesAt v s) : AuxTablesAt v (Machine.postBrown rail data s) :=
  .ite inv (.ite inv (.posted inv))

theorem AuxTablesAt.jackMod {v : Tbl Aux × Tbl AuxQueue} {s : State} {j : Nat} {f : Jack → Jack}
    (inv : AuxTablesAt v s) : AuxTablesAt v (Machine.jackMod s j f) :=
  .ite inv inv

theorem AuxTablesAt.jacksBack {v : Tbl Aux × Tbl AuxQueue} {s : State} (inv : AuxTablesAt v s) :
    AuxTablesAt v (Machine.jacksBack s) :=
  .jackMod (.jackMod inv)

theorem AuxTablesAt.micMod {v : Tbl Aux × Tbl AuxQueue} {s : State} {o : Nat} {f : MicBias → MicBias}
    (inv : AuxTablesAt v s) : AuxTablesAt v (Machine.micMod s o f) :=
  .ite inv inv

theorem AuxTablesAt.capMod {v : Tbl Aux × Tbl AuxQueue} {s : State} {c : Nat} {f : Capture → Capture}
    (inv : AuxTablesAt v s) : AuxTablesAt v (Machine.capMod s c f) :=
  inv

theorem AuxTablesAt.micMute {v : Tbl Aux × Tbl AuxQueue} {s : State} {o : Nat} (inv : AuxTablesAt v s) :
    AuxTablesAt v (Machine.micMute o s) :=
  .foldl (.micMod inv) (fun _ _ h => .capMod h)

theorem AuxTablesAt.postMicFault {v : Tbl Aux × Tbl AuxQueue} {s : State} {o cause : Nat}
    (inv : AuxTablesAt v s) : AuxTablesAt v (Machine.postMicFault o cause s) :=
  .posted inv

theorem AuxTablesAt.postAuxFault {v : Tbl Aux × Tbl AuxQueue} {s : State} {mask cause : Nat}
    (inv : AuxTablesAt v s) : AuxTablesAt v (Machine.postAuxFault mask cause s) :=
  .posted inv

end Sys2Proof.Machine
end

section
/-! PROOF. The auxiliary DAC: the commands of group 0x0B, its loads and its supply. -/

namespace Sys2Proof.Machine

theorem auxMod_congr {s : State} {c : Nat} {f g : Aux → Aux} (h : f (auxGet s c) = g (auxGet s c)) :
    auxMod s c f = auxMod s c g := by
  have hf : tmod Aux.reset s.aux.chans c f = tmod Aux.reset s.aux.chans c g := congrArg (tset Aux.reset s.aux.chans c) h
  unfold auxMod
  rw [hf]

theorem queueMod_congr {s : State} {c : Nat} {f g : AuxQueue → AuxQueue} (h : f (queueGet s c) = g (queueGet s c)) :
    queueMod s c f = queueMod s c g := by
  have hf : tmod AuxQueue.reset s.aux.queues c f = tmod AuxQueue.reset s.aux.queues c g :=
    congrArg (tset AuxQueue.reset s.aux.queues c) h
  unfold queueMod
  rw [hf]

theorem auxMod_wf {s : State} (w : tblWf Aux.reset s.aux.chans = true) (c : Nat) (f : Aux → Aux) :
    tblWf Aux.reset (auxMod s c f).aux.chans = true := tmod_wf Aux.reset w c f

theorem queueMod_wf {s : State} (w : tblWf AuxQueue.reset s.aux.queues = true) (c : Nat) (f : AuxQueue → AuxQueue) :
    tblWf AuxQueue.reset (queueMod s c f).aux.queues = true := tmod_wf AuxQueue.reset w c f

/-! ## Commands -/

theorem auxConfigDo_inForce {p : List Byte} {log : Nat} {s : State} (hr : u8 p 1 = auxRange (auxGet s (u8 p 0))) :
    auxConfigDo p log s = ok (auxMod s (u8 p 0) (fun a => { a with timer := u8 p 2, slew := u8 p 3, pendRange := none })) := by
  unfold auxConfigDo
  refine congrArg ok (auxMod_congr ?_)
  exact if_pos hr

theorem auxConfigDo_driving {p : List Byte} {log : Nat} {s : State} (hr : u8 p 1 ≠ auxRange (auxGet s (u8 p 0)))
    (hd : (auxGet s (u8 p 0)).driving = true) :
    auxConfigDo p log s = ok (auxMod s (u8 p 0) (fun a => 
      { a with timer := u8 p 2, slew := u8 p 3, pendRange := some (u8 p 1) })) := by
  unfold auxConfigDo
  refine congrArg ok (auxMod_congr ?_)
  exact (if_neg hr).trans (if_pos hd)

theorem auxConfigDo_off {p : List Byte} {log : Nat} {s : State} (hr : u8 p 1 ≠ auxRange (auxGet s (u8 p 0)))
    (hd : (auxGet s (u8 p 0)).driving = false) :
    auxConfigDo p log s = ok (auxMod s (u8 p 0) (fun a => { a with
      timer := u8 p 2, slew := u8 p 3, pendRange := none, range := u8 p 1
      present := convertCode a.range (u8 p 1) a.present, target := convertCode a.range (u8 p 1) a.target })) := by
  unfold auxConfigDo
  refine congrArg ok (auxMod_congr ?_)
  exact (if_neg hr).trans (if_neg (by simp [hd]))

theorem auxEnableDo_on {p : List Byte} {log : Nat} {s : State} (h : u8 p 2 = 1) :
    auxEnableDo p log s = ok ((bitsOf (u16 p 0) 16).foldl (fun t c =>
      auxMod t c (fun a => { a with enabled := true, pendEnable := some true })) s) := by
  unfold auxEnableDo
  simp only [h, beq_self_eq_true, Bool.not_true, Bool.false_and, Bool.false_eq_true, if_false]

theorem auxEnableDo_off {p : List Byte} {log : Nat} {s : State} (h : u8 p 2 = 0) :
    auxEnableDo p log s = ok ((bitsOf (u16 p 0) 16).foldl (fun t c =>
      if hasQueue c = true then
        queueMod (auxMod t c (fun a => { a with enabled := false, pendEnable := some false })) c
          (fun q => { q with running := false })
      else auxMod t c (fun a => { a with enabled := false, pendEnable := some false })) s) := by
  unfold auxEnableDo
  simp only [h, show (0 == 1) = false from rfl, Bool.not_false, Bool.true_and]

theorem auxQueueControlDo_stop {p : List Byte} {log : Nat} {s : State} (h : u8 p 1 = 0) :
    auxQueueControlDo p log s = ok (queueMod s (u8 p 0) (fun q => { q with running := false })) := by
  unfold auxQueueControlDo
  rw [h]
  rfl

theorem auxQueueControlDo_start {p : List Byte} {log : Nat} {s : State} (h : u8 p 1 = 1) :
    auxQueueControlDo p log s
      = ok (queueMod s (u8 p 0) (fun q => { q with running := true, pos := if q.running then q.pos else 0 })) := by
  unfold auxQueueControlDo
  rw [h]
  rfl

theorem auxQueueControlDo_flush {p : List Byte} {log : Nat} {s : State} (h : u8 p 1 = 2) :
    auxQueueControlDo p log s
      = ok (queueMod s (u8 p 0) (fun q => { q with running := false, entries := [], pos := 0 })) := by
  unfold auxQueueControlDo
  rw [h]
  rfl

theorem auxWrite_entries {o : Issue} {p : List Byte} {log : Nat} {s : State} (h : ∀ i < u8 p 0, auxWriteEntry o p s i = none) :
    auxWriteDo o p log s = okWith [0xFF, 0] ((List.range (u8 p 0)).foldl (fun t i =>
      auxMod t (u8 p (4 + 4 * i)) (fun a => { a with shadow := some (u16 p (6 + 4 * i)) })) s) := by
  have hnone : (List.range (u8 p 0)).find? (fun i => (auxWriteEntry o p s i).isSome) = none := by
    rw [List.find?_eq_none]
    intro i hi
    simp [h i (List.mem_range.mp hi)]
  unfold auxWriteDo
  rw [hnone]
  rfl

theorem find_range_first {n i : Nat} {q : Nat → Bool} (hi : i < n) (hq : q i = true) (hfirst : ∀ j < i, q j = false) :
    (List.range n).find? q = some i := by
  rw [List.find?_range_eq_some]
  exact ⟨hq, List.mem_range.mpr hi, fun j hj => by simp [hfirst j hj]⟩

theorem auxWrite_refused {o : Issue} {p : List Byte} {log i st : Nat} {s : State} (hi : i < u8 p 0)
    (hst : auxWriteEntry o p s i = some st) (hfirst : ∀ j < i, auxWriteEntry o p s j = none) :
    auxWriteDo o p log s = { s := s, status := st, result := b1 i ++ b1 st } := by
  have hfind : (List.range (u8 p 0)).find? (fun i => (auxWriteEntry o p s i).isSome) = some i :=
    find_range_first hi (by rw [hst]; rfl) (fun j hj => by rw [hfirst j hj]; rfl)
  unfold auxWriteDo
  rw [hfind]
  dsimp only
  rw [hst]
  rfl

/-! ## Loads -/

theorem timerTicks_zero (s : State) : timerTicks s 0 = true := by simp [timerTicks, timerRuns]

theorem timerSpend_zero (s : State) : timerSpend 0 s = s := if_neg (by simp)

theorem timerServe_zero (s : State) :
    timerServe 0 s = ((List.range 16).filter (auxOnTimer ((List.range 16).foldl auxTakeEnable s) 0)).foldl auxTakeLoad
      ((List.range 16).foldl auxTakeEnable s) := rfl

theorem timerServe_other {k : Nat} (h : k ≠ 0) (s : State) :
    timerServe k s = ((List.range 16).filter (auxOnTimer s k)).foldl auxTakeLoad s := by
  unfold timerServe
  rw [if_neg h]

theorem timerTicks_early {s : State} {k : Nat} (hk : k ≠ 0) (h2 : (tget (0, 1) s.aux.timers k).1 = 2)
    (hcount : tget 0 s.aux.timerCounts k < (tget (0, 1) s.aux.timers k).2) : timerTicks s k = false := by
  simp [timerTicks, hk, h2, hcount]

theorem auxTakeLoad_pending {s : State} {c r : Nat} (h : (auxGet s c).pendRange = some r) :
    auxTakeLoad s c = auxMod s c (fun a => { auxTakeRange a r a.shadow with shadow := none }) := by
  unfold auxTakeLoad
  rw [h]

theorem auxTakeLoad_written {s : State} {c x : Nat} (h : (auxGet s c).pendRange = none) (hx : (auxGet s c).shadow = some x) :
    auxTakeLoad s c = auxLoad c x (auxMod s c (fun a => { a with shadow := none })) := by
  unfold auxTakeLoad
  rw [h, hx]

theorem auxTakeLoad_nothing {s : State} {c : Nat} (h : (auxGet s c).pendRange = none) (hx : (auxGet s c).shadow = none) :
    auxTakeLoad s c = s := by
  unfold auxTakeLoad
  rw [h, hx]

/-- What a load does to a channel (R329, R330). -/
def loaded (c code : Nat) (a : Aux) : Aux :=
  match a.hold with
  | some h => { a with hold := some (h.1, h.2.1, code) }
  | none =>
    if code = a.target then a else { a with target := code, present := if a.slew = 0 ∧ c ≠ 12 ∧ c ≠ 13 then code else a.present }

theorem auxLoad_eq (c code : Nat) (s : State) : auxLoad c code s = auxMod s c (loaded c code) := rfl

/-- A written code is taken out of the shadow and loaded. -/
theorem auxGet_written {s : State} {c x : Nat} (h : (auxGet s c).pendRange = none) (hx : (auxGet s c).shadow = some x)
    (w : tblWf Aux.reset s.aux.chans = true) :
    auxGet (auxTakeLoad s c) c = loaded c x { auxGet s c with shadow := none } := by
  rw [auxTakeLoad_written h hx, auxLoad_eq, auxGet_auxMod_same (auxMod_wf w c _), auxGet_auxMod_same w]

theorem auxSettle_still {a : Aux} (hh : a.hold = none) (hp : a.pendRange = none) : auxSettle a = a := by
  unfold auxSettle
  rw [hh, hp]

theorem slewStep_up {a : Aux} (h : a.present < a.target) :
    slewStep a = { a with present := min a.target (a.present + a.slew % 32) } := by
  unfold slewStep
  simp only [h, if_true]

theorem slewStep_down {a : Aux} (h : a.target < a.present) :
    slewStep a = { a with present := max a.target (a.present - a.slew % 32) } := by
  unfold slewStep
  simp only [Nat.not_lt.mpr (Nat.le_of_lt h), if_false]

theorem exec_auxSlewStep {c : Fin 16} {s : State} (hheld : auxHeld s = false) (hhold : (auxGet s c.val).hold = none)
    (hslew : (auxGet s c.val).slew ≠ 0) (hne : (auxGet s c.val).present ≠ (auxGet s c.val).target) :
    exec (.auxSlewStep c) s = .next (auxMod s c.val slewStep) :=
  show execAuxSlewStep c s = _ from whenever_true (by simp [hheld, hhold, hslew, hne])

/-! ## Queues -/

theorem paceDue_not {s : State} {c : Nat} (h : (queueGet s c).running = false ∨ ((queueGet s c).source ≠ 1
    ∧ (s.eng.ticking = false ∨ (queueGet s c).ticks < (queueGet s c).n))) : paceDue s c = false := by
  obtain h | ⟨hsrc, h | h⟩ := h
  · simp [paceDue, h]
  · simp [paceDue, hsrc, h]
  · simp [paceDue, hsrc, h]

theorem exec_auxQueuePaceTick {q : Fin 3} {s : State} (h : paceDue s (queueChannel q.val) = true) :
    exec (.auxQueuePaceTick q) s = .next (if auxHeld s then paceSpend (queueChannel q.val) s
      else paceServe (queueChannel q.val) (paceSpend (queueChannel q.val) s)) := by
  change execAuxQueuePaceTick q s = _
  unfold execAuxQueuePaceTick
  exact whenever_true h

theorem queueTake_entry {q : AuxQueue} {x : Nat} {l : List Nat} (hc : q.cycle = false) (hl : q.entries = x :: l) :
    queueTake q = some (x, { q with entries := l, underrunPosted := false }) := by
  unfold queueTake
  rw [hc, hl]
  rfl

theorem queueTake_empty {q : AuxQueue} (hc : q.cycle = false) (hl : q.entries = []) : queueTake q = none := by
  unfold queueTake
  rw [hc, hl]
  rfl

theorem queueTake_cycle {q : AuxQueue} {x : Nat} (hc : q.cycle = true) (hx : q.entries[q.pos]? = some x) :
    queueTake q = some (x, { q with pos := if q.pos + 1 < q.entries.length then q.pos + 1 else 0, underrunPosted := false }) := by
  unfold queueTake
  rw [hc, hx]
  rfl

theorem queueTake_past {q : AuxQueue} (hc : q.cycle = true) (hx : q.entries[q.pos]? = none) : queueTake q = none := by
  unfold queueTake
  rw [hc, hx]
  rfl

theorem paceServe_taken {c x : Nat} {r : AuxQueue} {s : State} (h : queueTake (queueGet s c) = some (x, r)) :
    paceServe c s = if !r.cycle && r.entries.length == r.lowMark then
      post 0x0B02 c 0 r.entries.length (.res [0x0600 + c]) (paceLoad c (some x) (queueMod s c (fun _ => r)))
      else paceLoad c (some x) (queueMod s c (fun _ => r)) := by
  unfold paceServe
  rw [h]

theorem paceServe_none {c : Nat} {s : State} (h : queueTake (queueGet s c) = none) :
    paceServe c s = if (queueGet s c).cycle then paceLoad c none s else queueUnderrun c (paceLoad c none s) := by
  unfold paceServe
  rw [h]

theorem paceLoad_range {s : State} {c r : Nat} (x : Option Nat) (h : (auxGet s c).pendRange = some r) :
    paceLoad c x s = auxMod s c (fun a => auxTakeRange a r x) := by
  unfold paceLoad
  rw [h]

theorem paceLoad_code {s : State} {c : Nat} (x : Nat) (h : (auxGet s c).pendRange = none) :
    paceLoad c (some x) s = auxLoad c x s := by
  unfold paceLoad
  rw [h]

theorem paceLoad_nothing {s : State} {c : Nat} (h : (auxGet s c).pendRange = none) : paceLoad c none s = s := by
  unfold paceLoad
  rw [h]

theorem queueMod_const {s : State} {c : Nat} (f : AuxQueue → AuxQueue) :
    queueMod s c (fun _ => f (queueGet s c)) = queueMod s c f := queueMod_congr rfl

/-! ## Supply -/

theorem foldl_auxMod_spec {P : Aux → Prop} {f : Aux → Aux} (hf : ∀ a, P (f a)) (l : List Nat) {s : State}
    (w : tblWf Aux.reset s.aux.chans = true) :
    tblWf Aux.reset (l.foldl (fun t c => auxMod t c f) s).aux.chans = true
      ∧ ∀ c, c ∈ l ∨ P (auxGet s c) → P (auxGet (l.foldl (fun t c => auxMod t c f) s) c) := by
  induction l generalizing s with
  | nil => exact ⟨w, fun c h => h.resolve_left List.not_mem_nil⟩
  | cons d l ih =>
    obtain ⟨hw, hP⟩ := ih (auxMod_wf w d f)
    refine ⟨hw, fun c hc => hP c ?_⟩
    by_cases hcd : c = d
    · subst hcd
      exact .inr (by rw [auxGet_auxMod_same w]; exact hf _)
    · rw [auxGet_auxMod_other w hcd]
      exact hc.imp_left fun h => (List.mem_cons.mp h).resolve_left hcd

theorem foldl_queueMod_spec {P : AuxQueue → Prop} {f : Nat → AuxQueue → AuxQueue} (hf : ∀ c q, P (f c q)) (l : List Nat)
    {s : State} (w : tblWf AuxQueue.reset s.aux.queues = true) :
    ∀ c, c ∈ l ∨ P (queueGet s c) → P (queueGet (l.foldl (fun t c => queueMod t c (f c)) s) c) := by
  induction l generalizing s with
  | nil => exact fun c h => h.resolve_left List.not_mem_nil
  | cons d l ih =>
    refine fun c hc => ih (queueMod_wf w d (f d)) c ?_
    by_cases hcd : c = d
    · subst hcd
      exact .inr (by rw [queueGet_queueMod_same w]; exact hf _ _)
    · rw [queueGet_queueMod_other w hcd]
      exact hc.imp_left fun h => (List.mem_cons.mp h).resolve_left hcd

/-- No channel drives or is enabled, and no queue runs. -/
def AllOff (s : State) : Prop :=
  tblWf Aux.reset s.aux.chans = true ∧ (∀ c < 16, (auxGet s c).driving = false ∧ (auxGet s c).enabled = false)
    ∧ ∀ c ∈ [10, 11, 15], (queueGet s c).running = false

theorem auxTables_fields {s t : State} (h : AuxTablesAt (s.aux.chans, s.aux.queues) t) :
    t.aux.chans = s.aux.chans ∧ t.aux.queues = s.aux.queues := by
  simpa [AuxTablesAt] using h

theorem AllOff.of_tables {s t : State} (h : AllOff s) (k : AuxTablesAt (s.aux.chans, s.aux.queues) t) : AllOff t := by
  obtain ⟨hc, hq⟩ := auxTables_fields k
  unfold AllOff auxGet queueGet at h ⊢
  rw [hc, hq]
  exact h

theorem AllOff.auxMod {s : State} (h : AllOff s) (c : Nat) {f : Aux → Aux} (hf : ∀ a, (f a).driving = false ∧ (f a).enabled = false) :
    AllOff (Machine.auxMod s c f) := by
  obtain ⟨w, hoff, hq⟩ := h
  refine ⟨auxMod_wf w c f, fun d hd => ?_, hq⟩
  by_cases hdc : d = c
  · subst hdc
    rw [auxGet_auxMod_same w]
    exact hf _
  · rw [auxGet_auxMod_other w hdc]
    exact hoff d hd

theorem auxSettle_off {a : Aux} (hd : a.driving = false) (he : a.enabled = false) :
    (auxSettle a).driving = false ∧ (auxSettle a).enabled = false := by
  unfold auxSettle
  split
  · exact ⟨hd, he⟩
  · exact ⟨hd, he⟩
  · exact ⟨hd, he⟩

/-- Every channel off (R340). -/
def channelsOff (s : State) : State :=
  (List.range 16).foldl (fun t c => auxMod t c (fun a => auxSettle { a with enabled := false, driving := false, pendEnable := none })) s

/-- A queue that stops, and loses its entries but for the one of AUX15. -/
def queueOff (c : Nat) (q : AuxQueue) : AuxQueue :=
  if c = 15 then { q with running := false } else { q with running := false, entries := [], pos := 0 }

theorem auxAllOff_eq (s : State) : auxAllOff s = [10, 11, 15].foldl (fun t c => queueMod t c (queueOff c)) (channelsOff s) := rfl

theorem foldl_auxMod_queues (f : Aux → Aux) (l : List Nat) (s : State) :
    (l.foldl (fun t c => auxMod t c f) s).aux.queues = s.aux.queues :=
  foldl_keeps (fun t : State => t.aux.queues) (fun t c => auxMod t c f) (fun _ _ => rfl) l s

theorem foldl_queueMod_chans (f : Nat → AuxQueue → AuxQueue) (l : List Nat) (s : State) :
    (l.foldl (fun t c => queueMod t c (f c)) s).aux.chans = s.aux.chans :=
  foldl_keeps (fun t : State => t.aux.chans) (fun t c => queueMod t c (f c)) (fun _ _ => rfl) l s

theorem auxAllOff_off {s : State} (w : tblWf Aux.reset s.aux.chans = true) (wq : tblWf AuxQueue.reset s.aux.queues = true) :
    AllOff (auxAllOff s) := by
  obtain ⟨hw, hoff⟩ := foldl_auxMod_spec (P := fun a => a.driving = false ∧ a.enabled = false)
    (f := fun a => auxSettle { a with enabled := false, driving := false, pendEnable := none }) (fun _ => auxSettle_off rfl rfl)
    (List.range 16) w
  have hqueues : (channelsOff s).aux.queues = s.aux.queues := foldl_auxMod_queues _ _ s
  rw [← channelsOff] at hw
  have hstopped := foldl_queueMod_spec (P := fun q => q.running = false) (f := queueOff)
    (fun c q => inv_ite (P := fun q : AuxQueue => q.running = false) rfl rfl) [10, 11, 15] (s := channelsOff s) (by rw [hqueues]; exact wq)
  have hchans := foldl_queueMod_chans queueOff [10, 11, 15] (channelsOff s)
  rw [auxAllOff_eq]
  refine ⟨by rw [hchans]; exact hw, fun c hc => ?_, fun c hc => hstopped c (.inl hc)⟩
  rw [auxGet, hchans]
  exact hoff c (.inl (List.mem_range.mpr hc))

theorem auxGoOff_off {cause : Nat} {s : State} (w : tblWf Aux.reset s.aux.chans = true)
    (wq : tblWf AuxQueue.reset s.aux.queues = true) : AllOff (auxGoOff cause s) := by
  refine (auxAllOff_off w wq).of_tables ?_
  unfold auxGoOff
  dsimp only
  generalize auxAllOff s = u
  exact .jacksBack (.postAuxFault rfl)

/-! ## Mic bias outputs -/

theorem micGet_micMod {o b : Nat} (ho : o < 2) (hb : b < 2) (s : State) (f : MicBias → MicBias) :
    micGet (micMod s o f) b = if b = o then f (micGet s b) else micGet s b := by
  interval_cases b <;> interval_cases o <;> rfl

theorem micGet_of_mics {s t : State} (h : MicsAt (s.cap.micA, s.cap.micB) t) (b : Nat) : micGet t b = micGet s b := by
  simp only [MicsAt, Prod.mk.injEq] at h
  simp only [micGet, h]

/-- Operations on some of the two outputs, one after the other, do to each what its own does. -/
theorem micGet_foldl {I : State → Prop} {f : Nat → State → State} {g : MicBias → MicBias} {q : Nat → Bool}
    (hI : ∀ o t, I t → I (f o t))
    (hf : ∀ o t, o < 2 → I t → ∀ b < 2, micGet (f o t) b = if b = o then g (micGet t b) else micGet t b) {s : State} (hs : I s)
    {b : Nat} (hb : b < 2) :
    micGet (([0, 1].filter q).foldl (fun t o => f o t) s) b = if q b then g (micGet s b) else micGet s b := by
  have h0 := fun t ht => hf 0 t (by decide) ht b hb
  have h1 := fun t ht => hf 1 t (by decide) ht b hb
  rw [List.foldl_filter]
  show micGet (if q 1 then f 1 (if q 0 then f 0 s else s) else if q 0 then f 0 s else s) b = _
  have hI0 : I (if q 0 then f 0 s else s) := inv_ite (P := I) (hI 0 s hs) hs
  interval_cases b
  · have hfirst : micGet (if q 0 then f 0 s else s) 0 = if q 0 then g (micGet s 0) else micGet s 0 := by
      split
      · exact (h0 s hs).trans (if_pos rfl)
      · rfl
    rw [← hfirst]
    exact inv_ite (P := fun t : State => micGet t 0 = micGet (if q 0 then f 0 s else s) 0)
      ((h1 _ hI0).trans (if_neg (by decide))) rfl
  · have hfirst : micGet (if q 0 then f 0 s else s) 1 = micGet s 1 :=
      inv_ite (P := fun t : State => micGet t 1 = micGet s 1) ((h0 s hs).trans (if_neg (by decide))) rfl
    split
    · exact ((h1 _ hI0).trans (if_pos rfl)).trans (congrArg g hfirst)
    · exact hfirst

/-- A mic bias output that VAUX turns off (R175). -/
def micFall (o : Nat) (t : State) : State :=
  postMicFault o 2 (micMod (micStop o 4 t) o (fun m => { m with wasOn := true, faults := m.faults + 1 }))

theorem micGet_micFall {o b : Nat} (ho : o < 2) (hb : b < 2) (t : State) :
    micGet (micFall o t) b = if b = o then { micGet t b with st := 4, wasOn := true, faults := (micGet t b).faults + 1 }
      else micGet t b := by
  rw [micFall, micGet_of_mics (MicsAt.postMicFault rfl), micGet_micMod ho hb, micStop]
  have hstop (f : Aux → Aux) : micGet (auxMod (micMod t o (fun m => { m with st := 4 })) (12 + o) f) b
      = if b = o then { micGet t b with st := 4 } else micGet t b := micGet_micMod ho hb t _
  rw [hstop]
  by_cases h : b = o
  · simp only [h, if_true]
  · simp only [h, if_false]

theorem AllOff.micFall {t : State} (h : AllOff t) (o : Nat) : AllOff (Machine.micFall o t) :=
  (((h.of_tables (t := micMod t o (fun m => { m with st := 4 })) (.micMod rfl)).auxMod (12 + o) (fun _ => ⟨rfl, rfl⟩)).of_tables
    (.postMicFault (.micMod rfl)))

theorem micFall_restAux (o : Nat) (t : State) : restAux (micFall o t) = restAux t :=
  (post_restAux _ _ _ _ _ _).trans ((micMod_restAux _ _ _).trans (micStop_restAux _ _ _))

theorem OnlyHost.of_restAux {s t : State} (h : restAux t = restAux s) :
    OnlyHost { s with aux := t.aux, cap := t.cap, out := t.out } t := by
  simp only [restAux, State.mk.injEq] at h
  rw [onlyHost_iff]
  simp only [h, and_self]

/-- What VAUX below its reset level leaves (R340, R175). -/
def vauxFallen (s : State) : State :=
  ([0, 1].filter (micOn s)).foldl (fun t o => micFall o t)
    (auxGoOff 2 { s with aux := { s.aux with vauxLow := true, vauxReset := true } })

theorem vauxFallen_off {s : State} (w : tblWf Aux.reset s.aux.chans = true) (wq : tblWf AuxQueue.reset s.aux.queues = true) :
    AllOff (vauxFallen s) :=
  foldl_inv AllOff _ (fun _ o h => h.micFall o) _ _ (auxGoOff_off w wq)

theorem vauxFallen_supply (s : State) : SupplyAt (true, true, s.aux.fault) (vauxFallen s) :=
  .foldl (.auxGoOff rfl) (fun _ _ h => .postMicFault (.micMod (.micStop h)))

theorem vauxFallen_mics {s : State} {b : Nat} (hb : b < 2) (hon : micOn s b = true) :
    micGet (vauxFallen s) b = { micGet s b with st := 4, wasOn := true, faults := (micGet s b).faults + 1 } := by
  unfold vauxFallen
  rw [micGet_foldl (I := fun _ => True) (g := fun m => { m with st := 4, wasOn := true, faults := m.faults + 1 })
    (fun _ _ h => h) (fun o t ho _ b hb => micGet_micFall ho hb t) trivial hb, if_pos hon, micGet_of_mics (MicsAt.auxGoOff rfl)]
  rfl

theorem vauxFallen_restAux (s : State) : restAux (vauxFallen s) = restAux s :=
  (foldl_keeps restAux _ (fun t o => micFall_restAux o t) _ _).trans (auxGoOff_restAux _ _)

/-- A mic bias output that VAUX had turned off, when VAUX returns (R175). -/
def micReturn (o : Nat) (t : State) : State :=
  let u := micMod t o (fun m => { m with wasOn := false })
  if t.aux.fault then u else postMicFault o 0 (micStart o (micGet u o).code u)

theorem micGet_micStart {o b : Nat} (ho : o < 2) (hb : b < 2) (code : Nat) (t : State) :
    micGet (micStart o code t) b = if b = o then { micGet t b with st := 1, code := code, settling := true } else micGet t b := by
  have hmute (u : State) : micGet (micMute o u) b = if b = o then { micGet u b with settling := true } else micGet u b := by
    have hkeep : MicsAt _ (micMute o u) := .foldl rfl (fun _ _ h => h)
    rw [micGet_of_mics hkeep, micGet_micMod ho hb]
  have hgo (f g : Aux → Aux) : micGet (auxMod (auxMod (micMod t o (fun m => { m with st := 1, code := code })) (12 + o) f) (12 + o) g) b
      = if b = o then { micGet t b with st := 1, code := code } else micGet t b := micGet_micMod ho hb t _
  rw [micStart, hmute, micGoTo, hgo]
  by_cases h : b = o
  · simp only [h, if_true]
  · simp only [h, if_false]

theorem micGet_micReturn_fault {o b : Nat} (ho : o < 2) (hb : b < 2) {t : State} (hf : t.aux.fault = true) :
    micGet (micReturn o t) b = if b = o then { micGet t b with wasOn := false } else micGet t b := by
  unfold micReturn
  rw [if_pos hf]
  exact micGet_micMod ho hb t _

/-- What the return of VAUX leaves of an output that it had turned off. -/
def returned (m : MicBias) : MicBias := { m with wasOn := false, st := 1, settling := true }

theorem micGet_micReturn {o b : Nat} (ho : o < 2) (hb : b < 2) {t : State} (hf : t.aux.fault = false) :
    micGet (micReturn o t) b = if b = o then returned (micGet t b) else micGet t b := by
  unfold micReturn
  extract_lets u
  have hu : ∀ b < 2, micGet u b = if b = o then { micGet t b with wasOn := false } else micGet t b :=
    fun b hb => micGet_micMod ho hb t _
  rw [if_neg (by simp [hf]), micGet_of_mics (MicsAt.postMicFault rfl), micGet_micStart ho hb, hu b hb, hu o ho]
  by_cases h : b = o
  · subst h
    simp only [if_true]
    rfl
  · simp only [h, if_false]

theorem SupplyAt.micReturn {v : Bool × Bool × Bool} {t : State} (h : SupplyAt v t) (o : Nat) : SupplyAt v (Machine.micReturn o t) :=
  .ite (.micMod h) (.postMicFault (.micStart (.micMod h)))

/-- AUX14 drives. -/
def Drives14 (s : State) : Prop := tblWf Aux.reset s.aux.chans = true ∧ (auxGet s 14).driving = true

theorem Drives14.auxMod {s : State} (h : Drives14 s) {c : Nat} (hc : c ≠ 14) (f : Aux → Aux) : Drives14 (Machine.auxMod s c f) :=
  ⟨auxMod_wf h.1 c f, by rw [auxGet_auxMod_other h.1 hc.symm]; exact h.2⟩

theorem Drives14.of_tables {s t : State} (h : Drives14 s) (k : AuxTablesAt (s.aux.chans, s.aux.queues) t) : Drives14 t := by
  obtain ⟨hc, -⟩ := auxTables_fields k
  unfold Drives14 auxGet at h ⊢
  rw [hc]
  exact h

theorem Drives14.serveJack {s : State} (h : Drives14 s) (j : Nat) : Drives14 (Machine.serveJack s j) :=
  inv_ite (P := Drives14) (Drives14.auxMod (s := { queueMod (jackMod s j _) 15 _ with free := _ })
    (h.of_tables (t := jackMod s j _) (.jackMod rfl)) (by decide) _) h

theorem Drives14.serveJacks {s : State} (h : Drives14 s) : Drives14 (Machine.serveJacks s) := (h.serveJack 0).serveJack 1

theorem Drives14.micReturn {s : State} (h : Drives14 s) {o : Nat} (ho : o < 2) : Drives14 (Machine.micReturn o s) := by
  have hne : 12 + o ≠ 14 := by omega
  have hmod : Drives14 (micMod s o (fun m => { m with wasOn := false })) := h.of_tables (.micMod rfl)
  unfold Machine.micReturn
  refine inv_ite (P := Drives14) hmod (Drives14.of_tables ?_ (.postMicFault (.micMute rfl)))
  exact ((hmod.of_tables (.micMod rfl)).auxMod hne _).auxMod hne _

/-- What the return of VAUX leaves, after a fall below its reset level (R340, R175). -/
def vauxReturned (s : State) : State :=
  ([0, 1].filter (fun o => (micGet s o).wasOn)).foldl (fun t o => micReturn o t)
    (auxResume (postBrown 2 0 { s with aux := { s.aux with vauxLow := false, vauxReset := false } }))

theorem vauxReturned_supply (s : State) : SupplyAt (false, false, s.aux.fault) (vauxReturned s) :=
  .foldl (.auxResume (.postBrown rfl)) (fun _ o h => h.micReturn o)

theorem vauxResumed_mics (s : State) (b : Nat) :
    micGet (auxResume (postBrown 2 0 { s with aux := { s.aux with vauxLow := false, vauxReset := false } })) b = micGet s b :=
  micGet_of_mics (.auxResume (.postBrown rfl)) b

theorem SupplyAt.fault {a b c : Bool} {t : State} (h : SupplyAt (a, b, c) t) : t.aux.fault = c :=
  congrArg (fun x : Bool × Bool × Bool => x.2.2) h

theorem vauxReturned_mics_fault {s : State} (hf : s.aux.fault = true) {b : Nat} (hb : b < 2) (hwas : (micGet s b).wasOn = true) :
    micGet (vauxReturned s) b = { micGet s b with wasOn := false } := by
  unfold vauxReturned
  rw [micGet_foldl (I := SupplyAt (false, false, true)) (g := fun m => { m with wasOn := false })
    (fun o _ h => h.micReturn o) (fun o t ho h b hb => micGet_micReturn_fault ho hb h.fault)
    (hf ▸ .auxResume (.postBrown rfl)) hb, if_pos hwas, vauxResumed_mics]

theorem vauxReturned_mics {s : State} (hf : s.aux.fault = false) {b : Nat} (hb : b < 2) (hwas : (micGet s b).wasOn = true) :
    micGet (vauxReturned s) b = returned (micGet s b) := by
  unfold vauxReturned
  rw [micGet_foldl (I := SupplyAt (false, false, false)) (g := returned)
    (fun o _ h => h.micReturn o) (fun o t ho h b hb => micGet_micReturn ho hb h.fault)
    (hf ▸ .auxResume (.postBrown rfl)) hb, if_pos hwas, vauxResumed_mics]

theorem auxResume_drives {s : State} (w : tblWf Aux.reset s.aux.chans = true) (hf : s.aux.fault = false)
    (hr : s.aux.vauxReset = false) : Drives14 (auxResume s) := by
  have h14 : Drives14 (auxMod s 14 (fun a => { a with enabled := true, driving := true })) :=
    ⟨auxMod_wf w 14 _, by rw [auxGet_auxMod_same w]⟩
  unfold auxResume
  extract_lets u
  have hu : Drives14 { u with aux := { u.aux with offMask := 0 } } := h14
  rw [if_neg (by simp [hf, hr])]
  exact (hu.of_tables (.postAuxFault rfl)).serveJacks

theorem vauxReturned_drives {s : State} (w : tblWf Aux.reset s.aux.chans = true) (hf : s.aux.fault = false) :
    Drives14 (vauxReturned s) := by
  have hstart : AuxTablesAt (s.aux.chans, s.aux.queues)
      (postBrown 2 0 { s with aux := { s.aux with vauxLow := false, vauxReset := false } }) := .postBrown rfl
  have hsupply : SupplyAt (false, false, false)
      (postBrown 2 0 { s with aux := { s.aux with vauxLow := false, vauxReset := false } }) := .postBrown (by simp [SupplyAt, hf])
  refine List.foldlRecOn (motive := Drives14) _ _ ?_ fun t h o ho => h.micReturn ?_
  · exact auxResume_drives (by rw [(auxTables_fields hstart).1]; exact w) hsupply.fault
      (congrArg (fun x : Bool × Bool × Bool => x.2.1) hsupply)
  · have hmem := (List.mem_filter.mp ho).1
    simp only [List.mem_cons, List.not_mem_nil, or_false] at hmem
    omega

end Sys2Proof.Machine

namespace Sys2Proof
open Sys2Proof.Machine

/-- Settles O54: the auxiliary DAC's commands, timers, queues, slew, range holds and supply. -/
theorem auxCommandsAndStepsTakeEffect : Obligations.AuxCommandsAndStepsTakeEffect := by
  refine ⟨fun o p s => ⟨?status, ?statusQueue, ?config, ?configPending, ?configOff, ?enable, ?disable, ?write, ?writeRefused,
    ?timer, ?queueConfig, ?cycle, ?append, ?full, ?stop, ?start, ?flush, ?readback⟩,
    fun s => ⟨?tick, ?tickZero, ?tickHeld, ?tickEarly, ?tickNot, ?same, ?loads, ?held, ?range, ?nothing, ?driven, ?released,
      ?up, ?down, ?still, ?holdEnd, ?noHold, ?notDue, ?spent, ?serves, ?code, ?loadRange, ?loadNothing, ?warning, ?fall, ?recover,
      ?faulted, ?returns⟩⟩
  case status =>
    intro h hq
    refine (hostCommand_accepted h (auxStatusDo o p)).trans ?_
    have hstate : auxStateCode (takeLog s) (u8 p 0) = auxStateCode s (u8 p 0) := rfl
    unfold auxStatusDo
    simp only [hq, Bool.false_and, Bool.false_eq_true, if_false, and_false]
    simp only [List.append_assoc]
    rfl
  case statusQueue =>
    intro h hq
    refine (hostCommand_accepted h (auxStatusDo o p)).trans ?_
    unfold auxStatusDo
    simp only [hq, Bool.true_and, and_true, if_true]
    rfl
  case config => exact fun h hr => hostCommand_does h (auxConfigDo_inForce (s := takeLog s) hr)
  case configPending => exact fun h hr hd => hostCommand_does h (auxConfigDo_driving (s := takeLog s) hr hd)
  case configOff => exact fun h hr hd => hostCommand_does h (auxConfigDo_off (s := takeLog s) hr hd)
  case enable => exact fun h hon => hostCommand_does h (auxEnableDo_on (s := takeLog s) hon)
  case disable => exact fun h hoff => hostCommand_does h (auxEnableDo_off (s := takeLog s) hoff)
  case write => exact fun h hall => hostCommand_does (act := auxWriteDo o p) h (auxWrite_entries (s := takeLog s) hall)
  case writeRefused =>
    exact fun i st h hi hst hfirst => hostCommand_does (act := auxWriteDo o p) h (auxWrite_refused (s := takeLog s) hi hst hfirst)
  case timer => exact fun h => hostCommand_accepted h (auxTimerSetDo p)
  case queueConfig => exact fun h => hostCommand_accepted h (auxQueueConfigDo p)
  case cycle => exact fun h hc => hostCommand_does (act := auxQueueWriteDo p) h (if_pos hc)
  case append =>
    intro h hc hroom
    have hc' : ¬ (queueGet (takeLog s) (u8 p 0)).cycle = true := by simp [show (queueGet (takeLog s) (u8 p 0)).cycle = false from hc]
    exact hostCommand_does (act := auxQueueWriteDo p) h ((if_neg hc').trans (if_neg (Nat.not_lt.mpr hroom)))
  case full =>
    intro h hc hfull
    have hc' : ¬ (queueGet (takeLog s) (u8 p 0)).cycle = true := by simp [show (queueGet (takeLog s) (u8 p 0)).cycle = false from hc]
    exact hostCommand_does (act := auxQueueWriteDo p) h ((if_neg hc').trans (if_pos hfull))
  case stop => exact fun h hx => hostCommand_does h (auxQueueControlDo_stop (s := takeLog s) hx)
  case start => exact fun h hx => hostCommand_does h (auxQueueControlDo_start (s := takeLog s) hx)
  case flush => exact fun h hx => hostCommand_does h (auxQueueControlDo_flush (s := takeLog s) hx)
  case readback => exact fun h => hostCommand_accepted h (auxReadbackSetDo p)
  case tick =>
    intro k ht hheld hk
    have hk' : k.val ≠ 0 := fun e => hk (Fin.ext e)
    have hrun : execAuxTimerTick k s = _ := whenever_true ht
    rw [hheld, timerServe_other hk'] at hrun
    exact hrun
  case tickZero =>
    intro hheld
    have hrun : execAuxTimerTick 0 s = .next (if auxHeld s then timerSpend 0 s else timerServe 0 (timerSpend 0 s)) :=
      whenever_true (timerTicks_zero s)
    rw [hheld, timerSpend_zero, timerServe_zero] at hrun
    exact hrun
  case tickHeld =>
    intro k ht hheld
    have hrun : execAuxTimerTick k s = _ := whenever_true ht
    rw [hheld] at hrun
    exact hrun
  case tickEarly => exact fun k hk h2 hcount => timerTicks_early (fun e => hk (Fin.ext e)) h2 hcount
  case tickNot => exact fun k ht => show execAuxTimerTick k s = _ from whenever_false ht
  case same =>
    intro c x hp hx hh he w
    rw [auxGet_written hp hx w, loaded]
    simp only [hh]
    exact if_pos he
  case loads =>
    intro c x hp hx hh hne w
    rw [auxGet_written hp hx w, loaded]
    simp only [hh]
    exact if_neg hne
  case held =>
    intro c x r pr y hp hx hh w
    rw [auxGet_written hp hx w, loaded]
    simp only [hh]
  case range =>
    intro c r hp hh w
    rw [auxTakeLoad_pending hp, auxGet_auxMod_same w, auxTakeRange, auxRange]
    simp only [hh, Option.map_none, Option.getD_none]
  case nothing => exact fun c hp hx => auxTakeLoad_nothing hp hx
  case driven =>
    intro c he w
    rw [auxTakeEnable, auxGet_auxMod_same w]
    simp only [he, if_true]
  case released =>
    intro c he hh hp w
    rw [auxTakeEnable, auxGet_auxMod_same w]
    simp only [he, Bool.false_eq_true, if_false]
    exact auxSettle_still hh hp
  case up =>
    intro c hheld hhold hslew hlt
    exact (exec_auxSlewStep hheld hhold hslew (Nat.ne_of_lt hlt)).trans
      (congrArg Host.Outcome.next (auxMod_congr (slewStep_up hlt)))
  case down =>
    intro c hheld hhold hslew hlt
    exact (exec_auxSlewStep hheld hhold hslew (Nat.ne_of_gt hlt)).trans
      (congrArg Host.Outcome.next (auxMod_congr (slewStep_down hlt)))
  case still =>
    intro c h
    refine show execAuxSlewStep c s = _ from whenever_false ?_
    rcases h with h | h | h | h
    · simp [h]
    · simp [Option.isNone_iff_eq_none, h]
    · simp [h]
    · simp [h]
  case holdEnd =>
    intro c r x y hh
    refine (show execAuxRangeHoldEnd c s = _ from whenever_true (by simp [hh])).trans
      (congrArg Host.Outcome.next (auxMod_congr ?_))
    rw [hh]
  case noHold => exact fun c hh => show execAuxRangeHoldEnd c s = _ from whenever_false (by simp [hh])
  case notDue =>
    intro q h
    change execAuxQueuePaceTick q s = _
    unfold execAuxQueuePaceTick
    exact whenever_false (paceDue_not h)
  case spent => exact fun q hdue hheld => (exec_auxQueuePaceTick hdue).trans (congrArg Host.Outcome.next (if_pos hheld))
  case serves =>
    rintro q w hw hdue hheld
    have hrun : exec (.auxQueuePaceTick q) s = .next (paceServe (queueChannel q.val) w) := by
      rw [hw]
      exact (exec_auxQueuePaceTick hdue).trans (congrArg Host.Outcome.next (if_neg (by simp [hheld])))
    generalize queueChannel q.val = c at hrun ⊢
    refine ⟨fun x l hc hl hlow => ?_, fun x l hc hl hlow => ?_, fun x hc hx => ?_, fun hc hx => ?_, fun hc hl hp hu => ?_,
      fun hc hl hp hu => ?_, fun r hc hl hp => ?_⟩
    · rw [hrun, paceServe_taken (queueTake_entry hc hl), if_neg (by simpa [hc] using hlow),
        queueMod_const (fun u => { u with entries := l, underrunPosted := false })]
    · rw [hrun, paceServe_taken (queueTake_entry hc hl), if_pos (by simpa [hc] using hlow),
        queueMod_const (fun u => { u with entries := l, underrunPosted := false })]
    · rw [hrun, paceServe_taken (queueTake_cycle hc hx), if_neg (by simp [hc]), queueMod_const (fun u =>
        { u with pos := if u.pos + 1 < u.entries.length then u.pos + 1 else 0, underrunPosted := false })]
    · rw [hrun, paceServe_none (queueTake_past hc hx), if_pos hc]
    · rw [hrun, paceServe_none (queueTake_empty hc hl), if_neg (by simp [hc]), paceLoad_nothing hp]
      exact congrArg Host.Outcome.next (if_neg (by simp [hu]))
    · rw [hrun, paceServe_none (queueTake_empty hc hl), if_neg (by simp [hc]), paceLoad_nothing hp]
      exact congrArg Host.Outcome.next (if_pos hu)
    · rw [hrun, paceServe_none (queueTake_empty hc hl), if_neg (by simp [hc]), paceLoad_range none hp]
  case code => exact fun c x hp => paceLoad_code x hp
  case loadRange => exact fun c x r hp => paceLoad_range x hp
  case loadNothing => exact fun c hp => paceLoad_nothing hp
  case warning => exact fun h1 h2 => show execVauxWarning s = _ from whenever_true (by simp [h1, h2])
  case fall =>
    intro h1 h2 hr w wq
    have hrun : execVauxReset s = .next (vauxFallen s) := whenever_true (by simp [h1, h2, hr])
    obtain ⟨-, hoff, hstop⟩ := vauxFallen_off w wq
    have hsupply := vauxFallen_supply s
    refine ⟨_, hrun, congrArg (fun x : Bool × Bool × Bool => x.1) hsupply, congrArg (fun x : Bool × Bool × Bool => x.2.1) hsupply,
      hoff, hstop, fun b hb hon => ?_, .of_restAux (vauxFallen_restAux s)⟩
    rw [vauxFallen_mics hb hon]
    exact ⟨rfl, rfl, rfl⟩
  case recover =>
    intro hlow hr
    have haux : ({ s.aux with vauxLow := false, vauxReset := false } : AuxState) = { s.aux with vauxLow := false } := by
      dsimp only
      rw [hr]
    have hrun : execVauxRecover s = _ := whenever_true hlow
    rw [hr, haux] at hrun
    exact hrun
  case faulted =>
    intro hlow hr hf
    have hrun : execVauxRecover s = .next (vauxReturned s) := (whenever_true hlow).trans (by rw [hr]; rfl)
    have hsupply := vauxReturned_supply s
    refine ⟨_, hrun, congrArg (fun x : Bool × Bool × Bool => x.1) hsupply, congrArg (fun x : Bool × Bool × Bool => x.2.1) hsupply,
      fun b hb hwas => ?_⟩
    rw [vauxReturned_mics_fault hf hb hwas]
    exact ⟨rfl, rfl⟩
  case returns =>
    intro hlow hr hf w
    have hrun : execVauxRecover s = .next (vauxReturned s) := (whenever_true hlow).trans (by rw [hr]; rfl)
    have hsupply := vauxReturned_supply s
    refine ⟨_, hrun, congrArg (fun x : Bool × Bool × Bool => x.1) hsupply, congrArg (fun x : Bool × Bool × Bool => x.2.1) hsupply,
      (vauxReturned_drives w hf).2, fun b hb hwas => ?_⟩
    rw [vauxReturned_mics hf hb hwas]
    exact ⟨rfl, rfl⟩

end Sys2Proof
end

section
/-! PROOF. What the measurement ADC keeps as its conversions, sequences and calibrations go on. -/

namespace Sys2Proof.Machine

/-- The latest record of each channel. -/
def LatestAt (v : Tbl MRecord) (s : State) : Prop := s.meas.latest = v

theorem LatestAt.ite {v : Tbl MRecord} {c : Prop} {dec : Decidable c} {s t : State} (hs : LatestAt v s)
    (ht : LatestAt v t) : LatestAt v (if c then s else t) := by
  split
  · exact hs
  · exact ht

theorem LatestAt.pairIte {v : Tbl MRecord} {α : Type} {c : Prop} {dec : Decidable c} {x y : α × State}
    (hx : LatestAt v x.2) (hy : LatestAt v y.2) : LatestAt v (if c then x else y).2 := by
  split
  · exact hx
  · exact hy

theorem LatestAt.foldl {v : Tbl MRecord} {s : State} {β : Type} {f : State → β → State} {l : List β}
    (inv : LatestAt v s) (h : ∀ t x, LatestAt v t → LatestAt v (f t x)) :
    LatestAt v (l.foldl f s) :=
  foldl_inv (fun t : State => LatestAt v t) f h l s inv

theorem LatestAt.posted {v : Tbl MRecord} {s : State} {code inst log data : Nat} {cn : Concern}
    (inv : LatestAt v s) : LatestAt v (Machine.post code inst log data cn s) := by
  simpa [LatestAt] using inv

theorem LatestAt.drawElapsed {v : Tbl MRecord} {s : State} (inv : LatestAt v s) :
    LatestAt v (Machine.drawElapsed s).2 :=
  inv

theorem LatestAt.protectMod {v : Tbl MRecord} {s : State} {i : Nat} {f : Protect → Protect}
    (inv : LatestAt v s) : LatestAt v (Machine.protectMod s i f) :=
  inv

theorem LatestAt.protectPair {v : Tbl MRecord} {s : State} {i : Nat} {w a : ℤ} {at_ unit : Nat}
    (inv : LatestAt v s) : LatestAt v (Machine.protectPair i w a at_ unit s) :=
  .protectMod inv

theorem LatestAt.measMod {v : Tbl MRecord} {s : State} {f : MeasState → MeasState} (inv : LatestAt v s)
    (hf : ∀ x, (f x).latest = x.latest := by intros; rfl) : LatestAt v (Machine.measMod s f) :=
  (hf _).trans inv

theorem LatestAt.sarMod {v : Tbl MRecord} {s : State} {c : Nat} {f : Sar → Sar} (inv : LatestAt v s) :
    LatestAt v (Machine.sarMod s c f) :=
  .ite (.measMod inv) (.measMod inv)

theorem LatestAt.injMod {v : Tbl MRecord} {s : State} {j : Nat} {f : Inj → Inj} (inv : LatestAt v s) :
    LatestAt v (Machine.injMod s j f) :=
  .measMod inv

theorem LatestAt.measCount {v : Tbl MRecord} {s : State} {i : Nat} (inv : LatestAt v s) :
    LatestAt v (Machine.measCount i s) :=
  .measMod inv

theorem LatestAt.sarStart {v : Tbl MRecord} {s : State} {c source channel index : Nat} {overrun : Bool}
    (inv : LatestAt v s) : LatestAt v (Machine.sarStart c source channel index overrun s) :=
  .sarMod inv

theorem LatestAt.startInjected {v : Tbl MRecord} {s : State} (inv : LatestAt v s) :
    LatestAt v (Machine.startInjected s) := by
  unfold Machine.startInjected
  split
  · exact .ite (.measMod (.sarStart inv)) inv
  · exact inv

theorem LatestAt.startPair {v : Tbl MRecord} {s : State} (inv : LatestAt v s) :
    LatestAt v (Machine.startPair s) := by
  unfold Machine.startPair
  split
  · exact inv
  · exact .ite (.measMod (.sarStart (.sarStart inv))) inv

theorem LatestAt.takeSystem {v : Tbl MRecord} {s : State} (inv : LatestAt v s) :
    LatestAt v (Machine.takeSystem s) := by
  unfold Machine.takeSystem
  split
  · exact inv
  · exact .ite (.measMod inv) inv

theorem LatestAt.startRegular {v : Tbl MRecord} {s : State} (inv : LatestAt v s) :
    LatestAt v (Machine.startRegular s) := by
  unfold Machine.startRegular
  refine .ite ?_ (.ite ?_ inv)
  · split
    · exact inv
    · refine .ite inv (.ite (.ite (.measMod (.sarStart (.sarStart inv))) inv) ?_)
      split
      · exact .measMod (.sarStart inv)
      · exact inv
  · split
    · exact .measMod (.sarStart inv)
    · exact inv

theorem LatestAt.resumeRegular {v : Tbl MRecord} {s : State} (inv : LatestAt v s) :
    LatestAt v (Machine.resumeRegular s) :=
  .ite inv (.measMod inv)

theorem LatestAt.sarNext {v : Tbl MRecord} {s : State} (inv : LatestAt v s) :
    LatestAt v (Machine.sarNext s) :=
  .ite inv (.startRegular (.startRegular (.takeSystem (.resumeRegular (.startPair (.startInjected inv))))))

theorem LatestAt.scanLost {v : Tbl MRecord} {s : State} (inv : LatestAt v s) :
    LatestAt v (Machine.scanLost s) :=
  .ite (.posted (.measMod (.pairIte (.drawElapsed (.measCount (.measMod inv))) (.measCount (.measMod inv)))))
    (.pairIte (.drawElapsed (.measCount (.measMod inv))) (.measCount (.measMod inv)))

theorem LatestAt.bufferRecord {v : Tbl MRecord} {s : State} {r : MRecord} (inv : LatestAt v s) :
    LatestAt v (Machine.bufferRecord r s) :=
  .ite (.scanLost (.measMod inv)) (.measMod inv)

theorem LatestAt.postInjDone {v : Tbl MRecord} {s : State} {j : Nat} (inv : LatestAt v s) :
    LatestAt v (Machine.postInjDone j s) :=
  .ite (.posted (.injMod (.pairIte (.drawElapsed (.injMod inv)) (.injMod inv))))
    (.pairIte (.drawElapsed (.injMod inv)) (.injMod inv))

theorem LatestAt.injRecord {v : Tbl MRecord} {s : State} {j : Nat} {r : MRecord} (inv : LatestAt v s) :
    LatestAt v (Machine.injRecord j r s) :=
  .ite (.ite (.postInjDone (.measMod (.injMod (.injMod inv)))) (.measMod (.injMod (.injMod inv)))) (.injMod inv)

theorem LatestAt.scanBegin {v : Tbl MRecord} {s : State} (inv : LatestAt v s) :
    LatestAt v (Machine.scanBegin s) :=
  .measMod inv

theorem LatestAt.scanEnds {v : Tbl MRecord} {s : State} (inv : LatestAt v s) :
    LatestAt v (Machine.scanEnds s) :=
  .ite (.ite (.measMod inv) (.ite (.ite (.scanBegin inv) (.measMod inv)) (.measMod inv))) inv

theorem LatestAt.systemEnds {v : Tbl MRecord} {s : State} (inv : LatestAt v s) :
    LatestAt v (Machine.systemEnds s) :=
  .ite (.ite (.scanBegin (.measMod inv)) (.measMod inv)) inv

theorem LatestAt.exposeResult {v : Tbl MRecord} {s : State} {ch : Nat} {code : ℤ} (inv : LatestAt v s) :
    LatestAt v (Machine.exposeResult ch code s) :=
  .ite (.measMod inv) inv

theorem LatestAt.pairResults {v : Tbl MRecord} {s : State} {ch : Nat} {code code2 w w2 : ℤ} {stamp offset : Nat}
    (inv : LatestAt v s) : LatestAt v (Machine.pairResults ch code code2 w w2 stamp offset s) :=
  .ite (.protectPair (.exposeResult (.exposeResult inv))) (.exposeResult (.exposeResult inv))

theorem LatestAt.tempCals {v : Tbl MRecord} {s : State} {r : MRecord} (inv : LatestAt v s) :
    LatestAt v (Machine.tempCals r s) :=
  .ite (.foldl inv (fun _ _ h => .ite (.sarMod h) h)) inv
/-- The buffer of the host scan. -/
def BufferAt (v : List MRecord) (s : State) : Prop := s.meas.buffer = v

theorem BufferAt.ite {v : List MRecord} {c : Prop} {dec : Decidable c} {s t : State} (hs : BufferAt v s)
    (ht : BufferAt v t) : BufferAt v (if c then s else t) := by
  split
  · exact hs
  · exact ht

theorem BufferAt.pairIte {v : List MRecord} {α : Type} {c : Prop} {dec : Decidable c} {x y : α × State}
    (hx : BufferAt v x.2) (hy : BufferAt v y.2) : BufferAt v (if c then x else y).2 := by
  split
  · exact hx
  · exact hy

theorem BufferAt.foldl {v : List MRecord} {s : State} {β : Type} {f : State → β → State} {l : List β}
    (inv : BufferAt v s) (h : ∀ t x, BufferAt v t → BufferAt v (f t x)) :
    BufferAt v (l.foldl f s) :=
  foldl_inv (fun t : State => BufferAt v t) f h l s inv

theorem BufferAt.posted {v : List MRecord} {s : State} {code inst log data : Nat} {cn : Concern}
    (inv : BufferAt v s) : BufferAt v (Machine.post code inst log data cn s) := by
  simpa [BufferAt] using inv

theorem BufferAt.drawElapsed {v : List MRecord} {s : State} (inv : BufferAt v s) :
    BufferAt v (Machine.drawElapsed s).2 :=
  inv

theorem BufferAt.protectMod {v : List MRecord} {s : State} {i : Nat} {f : Protect → Protect}
    (inv : BufferAt v s) : BufferAt v (Machine.protectMod s i f) :=
  inv

theorem BufferAt.protectPair {v : List MRecord} {s : State} {i : Nat} {w a : ℤ} {at_ unit : Nat}
    (inv : BufferAt v s) : BufferAt v (Machine.protectPair i w a at_ unit s) :=
  .protectMod inv

theorem BufferAt.measMod {v : List MRecord} {s : State} {f : MeasState → MeasState} (inv : BufferAt v s)
    (hf : ∀ x, (f x).buffer = x.buffer := by intros; rfl) : BufferAt v (Machine.measMod s f) :=
  (hf _).trans inv

theorem BufferAt.sarMod {v : List MRecord} {s : State} {c : Nat} {f : Sar → Sar} (inv : BufferAt v s) :
    BufferAt v (Machine.sarMod s c f) :=
  .ite (.measMod inv) (.measMod inv)

theorem BufferAt.injMod {v : List MRecord} {s : State} {j : Nat} {f : Inj → Inj} (inv : BufferAt v s) :
    BufferAt v (Machine.injMod s j f) :=
  .measMod inv

theorem BufferAt.measCount {v : List MRecord} {s : State} {i : Nat} (inv : BufferAt v s) :
    BufferAt v (Machine.measCount i s) :=
  .measMod inv

theorem BufferAt.sarStart {v : List MRecord} {s : State} {c source channel index : Nat} {overrun : Bool}
    (inv : BufferAt v s) : BufferAt v (Machine.sarStart c source channel index overrun s) :=
  .sarMod inv

theorem BufferAt.startInjected {v : List MRecord} {s : State} (inv : BufferAt v s) :
    BufferAt v (Machine.startInjected s) := by
  unfold Machine.startInjected
  split
  · exact .ite (.measMod (.sarStart inv)) inv
  · exact inv

theorem BufferAt.startPair {v : List MRecord} {s : State} (inv : BufferAt v s) :
    BufferAt v (Machine.startPair s) := by
  unfold Machine.startPair
  split
  · exact inv
  · exact .ite (.measMod (.sarStart (.sarStart inv))) inv

theorem BufferAt.takeSystem {v : List MRecord} {s : State} (inv : BufferAt v s) :
    BufferAt v (Machine.takeSystem s) := by
  unfold Machine.takeSystem
  split
  · exact inv
  · exact .ite (.measMod inv) inv

theorem BufferAt.startRegular {v : List MRecord} {s : State} (inv : BufferAt v s) :
    BufferAt v (Machine.startRegular s) := by
  unfold Machine.startRegular
  refine .ite ?_ (.ite ?_ inv)
  · split
    · exact inv
    · refine .ite inv (.ite (.ite (.measMod (.sarStart (.sarStart inv))) inv) ?_)
      split
      · exact .measMod (.sarStart inv)
      · exact inv
  · split
    · exact .measMod (.sarStart inv)
    · exact inv

theorem BufferAt.resumeRegular {v : List MRecord} {s : State} (inv : BufferAt v s) :
    BufferAt v (Machine.resumeRegular s) :=
  .ite inv (.measMod inv)

theorem BufferAt.sarNext {v : List MRecord} {s : State} (inv : BufferAt v s) :
    BufferAt v (Machine.sarNext s) :=
  .ite inv (.startRegular (.startRegular (.takeSystem (.resumeRegular (.startPair (.startInjected inv))))))

theorem BufferAt.scanLost {v : List MRecord} {s : State} (inv : BufferAt v s) :
    BufferAt v (Machine.scanLost s) :=
  .ite (.posted (.measMod (.pairIte (.drawElapsed (.measCount (.measMod inv))) (.measCount (.measMod inv)))))
    (.pairIte (.drawElapsed (.measCount (.measMod inv))) (.measCount (.measMod inv)))

theorem BufferAt.keepLatest {v : List MRecord} {s : State} {r : MRecord} (inv : BufferAt v s) :
    BufferAt v (Machine.keepLatest r s) :=
  .measMod inv

theorem BufferAt.postInjDone {v : List MRecord} {s : State} {j : Nat} (inv : BufferAt v s) :
    BufferAt v (Machine.postInjDone j s) :=
  .ite (.posted (.injMod (.pairIte (.drawElapsed (.injMod inv)) (.injMod inv))))
    (.pairIte (.drawElapsed (.injMod inv)) (.injMod inv))

theorem BufferAt.injRecord {v : List MRecord} {s : State} {j : Nat} {r : MRecord} (inv : BufferAt v s) :
    BufferAt v (Machine.injRecord j r s) :=
  .ite (.ite (.postInjDone (.measMod (.injMod (.injMod inv)))) (.measMod (.injMod (.injMod inv)))) (.injMod inv)

theorem BufferAt.scanBegin {v : List MRecord} {s : State} (inv : BufferAt v s) :
    BufferAt v (Machine.scanBegin s) :=
  .measMod inv

theorem BufferAt.scanEnds {v : List MRecord} {s : State} (inv : BufferAt v s) :
    BufferAt v (Machine.scanEnds s) :=
  .ite (.ite (.measMod inv) (.ite (.ite (.scanBegin inv) (.measMod inv)) (.measMod inv))) inv

theorem BufferAt.systemEnds {v : List MRecord} {s : State} (inv : BufferAt v s) :
    BufferAt v (Machine.systemEnds s) :=
  .ite (.ite (.scanBegin (.measMod inv)) (.measMod inv)) inv

theorem BufferAt.exposeResult {v : List MRecord} {s : State} {ch : Nat} {code : ℤ} (inv : BufferAt v s) :
    BufferAt v (Machine.exposeResult ch code s) :=
  .ite (.measMod inv) inv

theorem BufferAt.pairResults {v : List MRecord} {s : State} {ch : Nat} {code code2 w w2 : ℤ} {stamp offset : Nat}
    (inv : BufferAt v s) : BufferAt v (Machine.pairResults ch code code2 w w2 stamp offset s) :=
  .ite (.protectPair (.exposeResult (.exposeResult inv))) (.exposeResult (.exposeResult inv))

theorem BufferAt.tempCals {v : List MRecord} {s : State} {r : MRecord} (inv : BufferAt v s) :
    BufferAt v (Machine.tempCals r s) :=
  .ite (.foldl inv (fun _ _ h => .ite (.sarMod h) h)) inv
/-- The injected sequences, and the one that runs. -/
def InjsAt (v : Tbl Inj × Option Nat) (s : State) : Prop := (s.meas.injs, s.meas.running) = v

theorem InjsAt.ite {v : Tbl Inj × Option Nat} {c : Prop} {dec : Decidable c} {s t : State} (hs : InjsAt v s)
    (ht : InjsAt v t) : InjsAt v (if c then s else t) := by
  split
  · exact hs
  · exact ht

theorem InjsAt.pairIte {v : Tbl Inj × Option Nat} {α : Type} {c : Prop} {dec : Decidable c} {x y : α × State}
    (hx : InjsAt v x.2) (hy : InjsAt v y.2) : InjsAt v (if c then x else y).2 := by
  split
  · exact hx
  · exact hy

theorem InjsAt.foldl {v : Tbl Inj × Option Nat} {s : State} {β : Type} {f : State → β → State} {l : List β}
    (inv : InjsAt v s) (h : ∀ t x, InjsAt v t → InjsAt v (f t x)) :
    InjsAt v (l.foldl f s) :=
  foldl_inv (fun t : State => InjsAt v t) f h l s inv

theorem InjsAt.posted {v : Tbl Inj × Option Nat} {s : State} {code inst log data : Nat} {cn : Concern}
    (inv : InjsAt v s) : InjsAt v (Machine.post code inst log data cn s) := by
  simpa [InjsAt] using inv

theorem InjsAt.completedAll {v : Tbl Inj × Option Nat} {s : State} {xs : List Waiter} {st : Nat}
    (inv : InjsAt v s) : InjsAt v (Machine.completeAll xs st s) := by
  simpa [InjsAt] using inv

theorem InjsAt.drawElapsed {v : Tbl Inj × Option Nat} {s : State} (inv : InjsAt v s) :
    InjsAt v (Machine.drawElapsed s).2 :=
  inv

theorem InjsAt.measMod {v : Tbl Inj × Option Nat} {s : State} {f : MeasState → MeasState} (inv : InjsAt v s)
    (hf : ∀ x, ((f x).injs, (f x).running) = (x.injs, x.running) := by intros; rfl) : InjsAt v (Machine.measMod s f) :=
  (hf _).trans inv

theorem InjsAt.sarMod {v : Tbl Inj × Option Nat} {s : State} {c : Nat} {f : Sar → Sar} (inv : InjsAt v s) :
    InjsAt v (Machine.sarMod s c f) :=
  .ite (.measMod inv) (.measMod inv)

theorem InjsAt.measCount {v : Tbl Inj × Option Nat} {s : State} {i : Nat} (inv : InjsAt v s) :
    InjsAt v (Machine.measCount i s) :=
  .measMod inv

theorem InjsAt.sarStart {v : Tbl Inj × Option Nat} {s : State} {c source channel index : Nat} {overrun : Bool}
    (inv : InjsAt v s) : InjsAt v (Machine.sarStart c source channel index overrun s) :=
  .sarMod inv

theorem InjsAt.startInjected {v : Tbl Inj × Option Nat} {s : State} (inv : InjsAt v s) :
    InjsAt v (Machine.startInjected s) := by
  unfold Machine.startInjected
  split
  · exact .ite (.measMod (.sarStart inv)) inv
  · exact inv

theorem InjsAt.startPair {v : Tbl Inj × Option Nat} {s : State} (inv : InjsAt v s) :
    InjsAt v (Machine.startPair s) := by
  unfold Machine.startPair
  split
  · exact inv
  · exact .ite (.measMod (.sarStart (.sarStart inv))) inv

theorem InjsAt.takeSystem {v : Tbl Inj × Option Nat} {s : State} (inv : InjsAt v s) :
    InjsAt v (Machine.takeSystem s) := by
  unfold Machine.takeSystem
  split
  · exact inv
  · exact .ite (.measMod inv) inv

theorem InjsAt.startRegular {v : Tbl Inj × Option Nat} {s : State} (inv : InjsAt v s) :
    InjsAt v (Machine.startRegular s) := by
  unfold Machine.startRegular
  refine .ite ?_ (.ite ?_ inv)
  · split
    · exact inv
    · refine .ite inv (.ite (.ite (.measMod (.sarStart (.sarStart inv))) inv) ?_)
      split
      · exact .measMod (.sarStart inv)
      · exact inv
  · split
    · exact .measMod (.sarStart inv)
    · exact inv

theorem InjsAt.resumeRegular {v : Tbl Inj × Option Nat} {s : State} (inv : InjsAt v s) :
    InjsAt v (Machine.resumeRegular s) :=
  .ite inv (.measMod inv)

theorem InjsAt.sarNext {v : Tbl Inj × Option Nat} {s : State} (inv : InjsAt v s) :
    InjsAt v (Machine.sarNext s) :=
  .ite inv (.startRegular (.startRegular (.takeSystem (.resumeRegular (.startPair (.startInjected inv))))))

theorem InjsAt.keepLatest {v : Tbl Inj × Option Nat} {s : State} {r : MRecord} (inv : InjsAt v s) :
    InjsAt v (Machine.keepLatest r s) :=
  .measMod inv

theorem InjsAt.scanBegin {v : Tbl Inj × Option Nat} {s : State} (inv : InjsAt v s) :
    InjsAt v (Machine.scanBegin s) :=
  .measMod inv

theorem InjsAt.scanEnds {v : Tbl Inj × Option Nat} {s : State} (inv : InjsAt v s) :
    InjsAt v (Machine.scanEnds s) :=
  .ite (.ite (.measMod inv) (.ite (.ite (.scanBegin inv) (.measMod inv)) (.measMod inv))) inv

theorem InjsAt.systemEnds {v : Tbl Inj × Option Nat} {s : State} (inv : InjsAt v s) :
    InjsAt v (Machine.systemEnds s) :=
  .ite (.ite (.scanBegin (.measMod inv)) (.measMod inv)) inv

theorem InjsAt.tempCals {v : Tbl Inj × Option Nat} {s : State} {r : MRecord} (inv : InjsAt v s) :
    InjsAt v (Machine.tempCals r s) :=
  .ite (.foldl inv (fun _ _ h => .ite (.sarMod h) h)) inv

theorem InjsAt.postOverrun {v : Tbl Inj × Option Nat} {s : State} {i : Nat} (inv : InjsAt v s) :
    InjsAt v (Machine.postOverrun i s) :=
  .ite (.posted (.measMod (.pairIte (.drawElapsed (.measMod inv)) (.measMod inv))))
    (.pairIte (.drawElapsed (.measMod inv)) (.measMod inv))

theorem InjsAt.calDone {v : Tbl Inj × Option Nat} {s : State} {c : Nat} {passed : Bool} (inv : InjsAt v s) :
    InjsAt v (Machine.calDone c passed s) :=
  .completedAll (.sarMod inv)

theorem InjsAt.postCal {v : Tbl Inj × Option Nat} {s : State} {c cause : Nat} (inv : InjsAt v s) :
    InjsAt v (Machine.postCal c cause s) :=
  .posted inv

theorem InjsAt.abandonCal {v : Tbl Inj × Option Nat} {s : State} {c : Nat} (inv : InjsAt v s) :
    InjsAt v (Machine.abandonCal c s) :=
  .ite inv (.ite (.calDone (.sarMod (.postCal (.measCount (.sarMod inv))))) (.sarMod (.measCount (.sarMod inv))))
/-- The converters, but for the conversions in progress. -/
def SarsAt (v : Sar × Sar) (s : State) : Prop := (({ s.meas.ma with busy := none } : Sar), ({ s.meas.mb with busy := none } : Sar)) = v

theorem SarsAt.ite {v : Sar × Sar} {c : Prop} {dec : Decidable c} {s t : State} (hs : SarsAt v s)
    (ht : SarsAt v t) : SarsAt v (if c then s else t) := by
  split
  · exact hs
  · exact ht

theorem SarsAt.posted {v : Sar × Sar} {s : State} {code inst log data : Nat} {cn : Concern}
    (inv : SarsAt v s) : SarsAt v (Machine.post code inst log data cn s) := by
  simpa [SarsAt] using inv

theorem SarsAt.measMod {v : Sar × Sar} {s : State} {f : MeasState → MeasState} (inv : SarsAt v s)
    (hf : ∀ x, (({ (f x).ma with busy := none } : Sar), ({ (f x).mb with busy := none } : Sar)) = (({ x.ma with busy := none } : Sar), ({ x.mb with busy := none } : Sar)) := by intros; rfl) : SarsAt v (Machine.measMod s f) :=
  (hf _).trans inv

theorem SarsAt.sarMod {v : Sar × Sar} {s : State} {c : Nat} {f : Sar → Sar} (inv : SarsAt v s)
    (hf : ∀ x : Sar, { f x with busy := none } = { x with busy := none } := by intros; rfl) : SarsAt v (Machine.sarMod s c f) :=
  .ite (.measMod inv (fun _ => Prod.ext (hf _) rfl)) (.measMod inv (fun _ => Prod.ext rfl (hf _)))

theorem SarsAt.measCount {v : Sar × Sar} {s : State} {i : Nat} (inv : SarsAt v s) :
    SarsAt v (Machine.measCount i s) :=
  .measMod inv

theorem SarsAt.sarStart {v : Sar × Sar} {s : State} {c source channel index : Nat} {overrun : Bool}
    (inv : SarsAt v s) : SarsAt v (Machine.sarStart c source channel index overrun s) :=
  .sarMod inv

theorem SarsAt.startInjected {v : Sar × Sar} {s : State} (inv : SarsAt v s) :
    SarsAt v (Machine.startInjected s) := by
  unfold Machine.startInjected
  split
  · exact .ite (.measMod (.sarStart inv)) inv
  · exact inv

theorem SarsAt.startPair {v : Sar × Sar} {s : State} (inv : SarsAt v s) :
    SarsAt v (Machine.startPair s) := by
  unfold Machine.startPair
  split
  · exact inv
  · exact .ite (.measMod (.sarStart (.sarStart inv))) inv

theorem SarsAt.takeSystem {v : Sar × Sar} {s : State} (inv : SarsAt v s) :
    SarsAt v (Machine.takeSystem s) := by
  unfold Machine.takeSystem
  split
  · exact inv
  · exact .ite (.measMod inv) inv

theorem SarsAt.startRegular {v : Sar × Sar} {s : State} (inv : SarsAt v s) :
    SarsAt v (Machine.startRegular s) := by
  unfold Machine.startRegular
  refine .ite ?_ (.ite ?_ inv)
  · split
    · exact inv
    · refine .ite inv (.ite (.ite (.measMod (.sarStart (.sarStart inv))) inv) ?_)
      split
      · exact .measMod (.sarStart inv)
      · exact inv
  · split
    · exact .measMod (.sarStart inv)
    · exact inv

theorem SarsAt.resumeRegular {v : Sar × Sar} {s : State} (inv : SarsAt v s) :
    SarsAt v (Machine.resumeRegular s) :=
  .ite inv (.measMod inv)

theorem SarsAt.sarNext {v : Sar × Sar} {s : State} (inv : SarsAt v s) : SarsAt v (Machine.sarNext s) :=
  .ite inv (.startRegular (.startRegular (.takeSystem (.resumeRegular (.startPair (.startInjected inv))))))

theorem SarsAt.scanBegin {v : Sar × Sar} {s : State} (inv : SarsAt v s) :
    SarsAt v (Machine.scanBegin s) :=
  .measMod inv

theorem SarsAt.systemEnds {v : Sar × Sar} {s : State} (inv : SarsAt v s) :
    SarsAt v (Machine.systemEnds s) :=
  .ite (.ite (.scanBegin (.measMod inv)) (.measMod inv)) inv

theorem SarsAt.postCal {v : Sar × Sar} {s : State} {c cause : Nat} (inv : SarsAt v s) :
    SarsAt v (Machine.postCal c cause s) :=
  .posted inv

theorem SarsAt.postPlausibility {v : Sar × Sar} {s : State} {what : Nat} {diff : ℤ} (inv : SarsAt v s) :
    SarsAt v (Machine.postPlausibility what diff s) :=
  .posted inv
/-- The failed comparisons, and whether one waits. -/
def PlausAt (v : Nat × Bool) (s : State) : Prop := (s.meas.plausFails, s.meas.plausCheck) = v

theorem PlausAt.ite {v : Nat × Bool} {c : Prop} {dec : Decidable c} {s t : State} (hs : PlausAt v s)
    (ht : PlausAt v t) : PlausAt v (if c then s else t) := by
  split
  · exact hs
  · exact ht

theorem PlausAt.posted {v : Nat × Bool} {s : State} {code inst log data : Nat} {cn : Concern}
    (inv : PlausAt v s) : PlausAt v (Machine.post code inst log data cn s) := by
  simpa [PlausAt] using inv

theorem PlausAt.measMod {v : Nat × Bool} {s : State} {f : MeasState → MeasState} (inv : PlausAt v s)
    (hf : ∀ x, ((f x).plausFails, (f x).plausCheck) = (x.plausFails, x.plausCheck) := by intros; rfl) : PlausAt v (Machine.measMod s f) :=
  (hf _).trans inv

theorem PlausAt.sarMod {v : Nat × Bool} {s : State} {c : Nat} {f : Sar → Sar} (inv : PlausAt v s) :
    PlausAt v (Machine.sarMod s c f) :=
  .ite (.measMod inv) (.measMod inv)

theorem PlausAt.sarStart {v : Nat × Bool} {s : State} {c source channel index : Nat} {overrun : Bool}
    (inv : PlausAt v s) : PlausAt v (Machine.sarStart c source channel index overrun s) :=
  .sarMod inv

theorem PlausAt.startInjected {v : Nat × Bool} {s : State} (inv : PlausAt v s) :
    PlausAt v (Machine.startInjected s) := by
  unfold Machine.startInjected
  split
  · exact .ite (.measMod (.sarStart inv)) inv
  · exact inv

theorem PlausAt.startPair {v : Nat × Bool} {s : State} (inv : PlausAt v s) :
    PlausAt v (Machine.startPair s) := by
  unfold Machine.startPair
  split
  · exact inv
  · exact .ite (.measMod (.sarStart (.sarStart inv))) inv

theorem PlausAt.takeSystem {v : Nat × Bool} {s : State} (inv : PlausAt v s) :
    PlausAt v (Machine.takeSystem s) := by
  unfold Machine.takeSystem
  split
  · exact inv
  · exact .ite (.measMod inv) inv

theorem PlausAt.startRegular {v : Nat × Bool} {s : State} (inv : PlausAt v s) :
    PlausAt v (Machine.startRegular s) := by
  unfold Machine.startRegular
  refine .ite ?_ (.ite ?_ inv)
  · split
    · exact inv
    · refine .ite inv (.ite (.ite (.measMod (.sarStart (.sarStart inv))) inv) ?_)
      split
      · exact .measMod (.sarStart inv)
      · exact inv
  · split
    · exact .measMod (.sarStart inv)
    · exact inv

theorem PlausAt.resumeRegular {v : Nat × Bool} {s : State} (inv : PlausAt v s) :
    PlausAt v (Machine.resumeRegular s) :=
  .ite inv (.measMod inv)

theorem PlausAt.sarNext {v : Nat × Bool} {s : State} (inv : PlausAt v s) :
    PlausAt v (Machine.sarNext s) :=
  .ite inv (.startRegular (.startRegular (.takeSystem (.resumeRegular (.startPair (.startInjected inv))))))

theorem PlausAt.postPlausibility {v : Nat × Bool} {s : State} {what : Nat} {diff : ℤ} (inv : PlausAt v s) :
    PlausAt v (Machine.postPlausibility what diff s) :=
  .posted inv

end Sys2Proof.Machine
end

section
/-! PROOF. The measurement ADC: the commands of group 0x0C, conversions, sequences, plausibility and calibration. -/

namespace Sys2Proof.Machine

/-! ## Commands -/

theorem scanGoesOn_waits {s : State} (h : s.meas.scan ≠ 1 ∨ s.meas.source ≠ 0 ∨ s.meas.mask = 0 ∨ s.meas.scanWaits = true) :
    scanGoesOn s = s := by
  refine if_neg fun ⟨h1, h2, h3, h4⟩ => ?_
  rcases h with h | h | h | h
  · exact h h1
  · exact h h2
  · exact h3 h
  · exact absurd (h4.symm.trans h) (by decide)

theorem scanGoesOn_starts {s : State} (h1 : s.meas.scan = 1) (h2 : s.meas.source = 0) (h3 : s.meas.mask ≠ 0)
    (h4 : s.meas.scanWaits = false) : scanGoesOn s = scanTrigger s := if_pos ⟨h1, h2, h3, h4⟩

theorem measScanControlDo_stop {p : List Byte} {log : Nat} {s : State} (h : u8 p 0 = 0) :
    measScanControlDo p log s
      = ok (measMod s (fun m => { m with scan := 0, single := false, left := [], scanWaits := false })) := by
  unfold measScanControlDo
  rw [h]
  rfl

theorem measScanControlDo_arm {p : List Byte} {log : Nat} {s : State} (h : u8 p 0 = 1) :
    measScanControlDo p log s = if s.meas.scan = 2 then ok (measMod s (fun m => { m with single := false }))
      else ok (scanGoesOn (measMod s (fun m => { m with scan := 1, single := false }))) := by
  unfold measScanControlDo
  rw [h]
  rfl

theorem measScanControlDo_trigger {p : List Byte} {log : Nat} {s : State} (h : u8 p 0 = 2) :
    measScanControlDo p log s
      = ok (scanTrigger (if s.meas.scan = 0 then measMod s (fun m => { m with single := true }) else s)) := by
  unfold measScanControlDo
  rw [h]
  rfl

theorem measScanControlDo_flush {p : List Byte} {log : Nat} {s : State} (h : u8 p 0 = 3) :
    measScanControlDo p log s = ok (measMod s (fun m => { m with buffer := [] })) := by
  unfold measScanControlDo
  rw [h]
  rfl

theorem measInjControlDo_disarm {p : List Byte} {log : Nat} {s : State} (h : u8 p 1 = 0) :
    measInjControlDo p log s = ok (disarmSeq (u8 p 0) s) := by
  unfold measInjControlDo
  rw [h]
  rfl

theorem measInjControlDo_arm {p : List Byte} {log : Nat} {s : State} (h : u8 p 1 = 1) :
    measInjControlDo p log s = ok (injMod s (u8 p 0) (fun q => { q with armed := true })) := by
  unfold measInjControlDo
  rw [h]
  rfl

theorem measInjControlDo_trigger {p : List Byte} {log : Nat} {s : State} (h : u8 p 1 = 2) :
    measInjControlDo p log s = ok (injTrigger (u8 p 0) s) := by
  unfold measInjControlDo
  rw [h]
  rfl

theorem measScanReadDo_eq (p : List Byte) (log : Nat) (s : State) :
    measScanReadDo p log s = okWith (b1 (min (u8 p 0) s.meas.buffer.length) ++ [0, 0, 0]
      ++ (s.meas.buffer.take (u8 p 0)).flatMap recordBytes) (measMod s (fun m => { m with buffer := m.buffer.drop (u8 p 0) })) := by
  unfold measScanReadDo
  simp only [List.length_take]
  rfl

/-! ## Converters -/

theorem sarGet_sarMod_same (s : State) (c : Nat) (f : Sar → Sar) : sarGet (sarMod s c f) c = f (sarGet s c) := by
  unfold sarGet sarMod
  split <;> rfl

theorem injGet_sarMod (s : State) (c : Nat) (f : Sar → Sar) (j : Nat) : injGet (sarMod s c f) j = injGet s j := by
  unfold sarMod
  split <;> rfl

/-- Converter c but for the conversion in progress. -/
def SarAt (c : Nat) (q : Sar) (s : State) : Prop := { sarGet s c with busy := none } = q

/-- Both converters but for their conversions in progress. -/
def sarCores (s : State) : Sar × Sar := ({ s.meas.ma with busy := none }, { s.meas.mb with busy := none })

theorem SarAt.of_sars {c : Nat} {q : Sar} {s t : State} (h : SarAt c q s) (k : SarsAt (sarCores s) t) : SarAt c q t := by
  simp only [SarsAt, sarCores, Prod.mk.injEq] at k
  obtain ⟨ka, kb⟩ := k
  unfold SarAt sarGet at h ⊢
  split
  · rename_i hc
    rw [if_pos hc] at h
    exact ka.trans h
  · rename_i hc
    rw [if_neg hc] at h
    exact kb.trans h

theorem SarAt.mod {c : Nat} {q : Sar} {s : State} (h : SarAt c q s) (f : Sar → Sar)
    (hf : ∀ x : Sar, { f x with busy := none } = f { x with busy := none } := by intros; rfl) : SarAt c (f q) (sarMod s c f) := by
  unfold SarAt at h ⊢
  rw [sarGet_sarMod_same, hf, h]

theorem SarAt.sarNext {c : Nat} {q : Sar} {s : State} (h : SarAt c q s) : SarAt c q (Machine.sarNext s) :=
  h.of_sars (.sarNext rfl)

theorem SarAt.posted {c : Nat} {q : Sar} {s : State} (h : SarAt c q s) {code inst log data : Nat} {cn : Concern} :
    SarAt c q (post code inst log data cn s) := h.of_sars (.posted rfl)

/-! ## Records -/

theorem injMark_injected {q : Conversion} {j : Nat} (h : q.source = 2 + j) (hj : j < 4) (s : State) :
    injMark q s = ({ q with overrun := (injGet s j).overrun }, injMod s j (fun x => { x with overrun := false })) := by
  have hj' : q.source - 2 = j := by omega
  unfold injMark
  rw [if_pos (by omega), hj']

theorem injMark_other {q : Conversion} (h : ¬ (2 ≤ q.source ∧ q.source ≤ 5)) (s : State) : injMark q s = (q, s) := if_neg h

theorem injMark_fst_sarMod (q : Conversion) (s : State) (c : Nat) (f : Sar → Sar) :
    (injMark q (sarMod s c f)).1 = (injMark q s).1 := by
  unfold injMark
  rw [injGet_sarMod]
  split <;> rfl

theorem injMark_conversion (q : Conversion) (s : State) :
    (injMark q s).1.channel = q.channel ∧ (injMark q s).1.source = q.source := by
  unfold injMark
  split <;> exact ⟨rfl, rfl⟩

/-- What a mark of an overrun keeps of the records. -/
theorem injMark_records (q : Conversion) (s : State) :
    (injMark q s).2.meas.latest = s.meas.latest ∧ (injMark q s).2.meas.buffer = s.meas.buffer := by
  unfold injMark
  split <;> exact ⟨rfl, rfl⟩

theorem sarMod_records (s : State) (c : Nat) (f : Sar → Sar) :
    (sarMod s c f).meas.latest = s.meas.latest ∧ (sarMod s c f).meas.buffer = s.meas.buffer := by
  unfold sarMod
  split <;> exact ⟨rfl, rfl⟩

theorem fileRecord_latest (live : Bool) (r : MRecord) (s : State) :
    LatestAt (tset noRecord s.meas.latest r.channel r) (fileRecord live r s) := by
  have h1 : LatestAt (tset noRecord s.meas.latest r.channel r) (tempCals r (keepLatest r s)) := .tempCals rfl
  exact .ite (.bufferRecord h1) (.ite (.measMod h1) (.ite (.injRecord h1) h1))

theorem fileRecord_unbuffered {live : Bool} {r : MRecord} (h : r.source ≠ 0) (s : State) :
    BufferAt s.meas.buffer (fileRecord live r s) := by
  have h1 : BufferAt s.meas.buffer (tempCals r (keepLatest r s)) := .tempCals (.keepLatest rfl)
  unfold fileRecord
  rw [if_neg h]
  exact .ite (.measMod h1) (.ite (.injRecord h1) h1)

theorem BufferAt.buffer {v : List MRecord} {s : State} (h : BufferAt v s) : s.meas.buffer = v := h

/-- The buffer takes a record, and drops its oldest when it is full (R347). -/
theorem bufferRecord_buffer {v : List MRecord} {r : MRecord} {s : State} (h : BufferAt v s) :
    BufferAt (if 256 ≤ v.length then v.drop 1 ++ [r] else v ++ [r]) (bufferRecord r s) := by
  unfold bufferRecord
  rw [h.buffer]
  split
  · exact .scanLost (by rw [← h.buffer]; rfl)
  · exact congrArg (· ++ [r]) h

theorem fileRecord_buffered {live : Bool} {r : MRecord} (h : r.source = 0) (s : State) :
    BufferAt (if 256 ≤ s.meas.buffer.length then s.meas.buffer.drop 1 ++ [r] else s.meas.buffer ++ [r]) (fileRecord live r s) := by
  have h1 : BufferAt s.meas.buffer (tempCals r (keepLatest r s)) := .tempCals (.keepLatest rfl)
  unfold fileRecord
  rw [if_pos h]
  exact bufferRecord_buffer h1

/-- A conversion that is not one of a pair files its record (R344, R346). -/
theorem conversionDone_single {c : Nat} {code trim code2 trim2 : Int} {off : Nat} {s : State} {q : Conversion}
    (hq : (sarGet s c).busy = some q) (hsrc : q.source < 6) {r : MRecord}
    (hr : r = sarRecord s c (injMark q s).1 (sarCodeOf q.channel (readbackCode s q.channel code))
      (sarValue (sarGet s c) q.channel (sarCodeOf q.channel (readbackCode s q.channel code)) trim) off) :
    conversionDone c code trim code2 trim2 off s = sarNext (scanEnds (systemEnds (fileRecord q.live r
      (injMark q (sarMod s c (fun x => { x with busy := none }))).2))) := by
  unfold conversionDone
  rw [hq]
  dsimp only
  rw [if_neg (by omega), injMark_fst_sarMod, hr]

/-- What a record's filing leaves of the latest records and of the scan's buffer, once the next conversions have started. -/
theorem filed_latest {live : Bool} {r : MRecord} {s : State} :
    (sarNext (scanEnds (systemEnds (fileRecord live r s)))).meas.latest = tset noRecord s.meas.latest r.channel r :=
  LatestAt.sarNext (.scanEnds (.systemEnds (fileRecord_latest live r s)))

theorem filed_buffer {live : Bool} {r : MRecord} {s : State} {v : List MRecord} (h : BufferAt v (fileRecord live r s)) :
    (sarNext (scanEnds (systemEnds (fileRecord live r s)))).meas.buffer = v :=
  BufferAt.sarNext (.scanEnds (.systemEnds h))

/-! ## Injected sequences -/

/-- What a sequence holds of its results. -/
def resultsOf (q : Inj) : Bool × List MRecord × List MRecord × Nat := (q.overrun, q.pending, q.results, q.completions)

/-- The results of sequence j, and the sequence that runs. -/
def InjAt (j : Nat) (v : Bool × List MRecord × List MRecord × Nat) (r : Option Nat) (s : State) : Prop :=
  tblWf Inj.reset s.meas.injs = true ∧ resultsOf (injGet s j) = v ∧ s.meas.running = r

theorem InjAt.of_injs {j : Nat} {v : Bool × List MRecord × List MRecord × Nat} {r : Option Nat} {s t : State} (h : InjAt j v r s)
    (k : InjsAt (s.meas.injs, s.meas.running) t) : InjAt j v r t := by
  simp only [InjsAt, Prod.mk.injEq] at k
  unfold InjAt injGet at h ⊢
  rw [k.1, k.2]
  exact h

theorem injGet_injMod {s : State} (w : tblWf Inj.reset s.meas.injs = true) (j : Nat) (f : Inj → Inj) :
    injGet (injMod s j f) j = f (injGet s j) := tget_tmod_same _ w j f

theorem InjAt.mod {j : Nat} {v v' : Bool × List MRecord × List MRecord × Nat} {r : Option Nat} {s : State} (h : InjAt j v r s)
    {f : Inj → Inj} (hf : ∀ q, resultsOf q = v → resultsOf (f q) = v') : InjAt j v' r (injMod s j f) := by
  obtain ⟨w, hv, hr⟩ := h
  exact ⟨tmod_wf Inj.reset w j f, by rw [injGet_injMod w]; exact hf _ hv, hr⟩

theorem InjAt.postInjDone {j : Nat} {v : Bool × List MRecord × List MRecord × Nat} {r : Option Nat} {s : State} (h : InjAt j v r s) :
    InjAt j v r (Machine.postInjDone j s) := by
  unfold Machine.postInjDone
  extract_lets s1 d
  have h1 : InjAt j v r s1 := h.mod fun _ hq => hq
  have hd : InjAt j v r d.2 := by
    show InjAt j v r (if (injGet s j).donePosted then drawElapsed s1 else (true, s1)).2
    split
    · exact h1
    · exact h1
  exact inv_ite (P := InjAt j v r) ((hd.mod (f := fun q => { q with doneFold := 0, donePosted := true }) fun _ hq => hq).of_injs
    (.posted rfl)) hd

/-- A record of a running sequence that has more conversions to make. -/
theorem injRecord_more {j : Nat} {a : Bool} {pend res : List MRecord} {n : Nat} {r : MRecord} {s : State}
    (h : InjAt j (a, pend, res, n) (some j) s) (hleft : s.meas.injLeft ≠ []) :
    InjAt j (a, pend ++ [r], res, n) (some j) (injRecord j r s) := by
  unfold injRecord
  extract_lets s1 s2 s3
  rw [if_neg fun hc => hleft hc.2]
  refine h.mod fun q hq => ?_
  simp only [resultsOf, Prod.mk.injEq] at hq ⊢
  simp only [hq, and_self]

/-- The last record of a running sequence completes it (R350). -/
theorem injRecord_last {j : Nat} {a : Bool} {pend res : List MRecord} {n : Nat} {r : MRecord} {s : State}
    (h : InjAt j (a, pend, res, n) (some j) s) (hleft : s.meas.injLeft = []) :
    InjAt j (a, [], pend ++ [r], n + 1) none (injRecord j r s) := by
  unfold injRecord
  extract_lets s1 s2 s3
  rw [if_pos ⟨h.2.2, hleft⟩]
  have h1 : InjAt j (a, pend ++ [r], res, n) (some j) s1 := h.mod fun q hq => by
    simp only [resultsOf, Prod.mk.injEq] at hq ⊢
    simp only [hq, and_self]
  have h2 : InjAt j (a, [], pend ++ [r], n + 1) (some j) s2 := h1.mod fun q hq => by
    simp only [resultsOf, Prod.mk.injEq] at hq ⊢
    simp only [hq, and_self]
  have h3 : InjAt j (a, [], pend ++ [r], n + 1) none s3 := ⟨h2.1, h2.2.1, rfl⟩
  exact inv_ite (P := InjAt j _ _) h3.postInjDone h3

theorem tempCals_injLeft (r : MRecord) (s : State) : (tempCals r s).meas.injLeft = s.meas.injLeft := by
  unfold tempCals
  refine inv_ite (P := fun t : State => t.meas.injLeft = s.meas.injLeft) ?_ rfl
  refine foldl_keeps (fun t : State => t.meas.injLeft) _ (fun t c => ?_) _ _
  refine inv_ite (P := fun u : State => u.meas.injLeft = t.meas.injLeft) ?_ rfl
  unfold sarMod
  split <;> rfl

theorem fileRecord_injected {j : Nat} {live : Bool} {r : MRecord} (h : r.source = 2 + j) (hj : j < 4) (s : State) :
    fileRecord live r s = if live = true then injRecord j r (tempCals r (keepLatest r s)) else tempCals r (keepLatest r s) := by
  have hj' : r.source - 2 = j := by omega
  unfold fileRecord
  rw [if_neg (by omega), if_neg (by omega), hj']
  cases live with
  | true => exact if_pos ⟨by omega, by omega, rfl⟩
  | false => exact if_neg (by simp)

/-! ## Triggers -/

theorem abandonCal_not {c : Nat} {s : State} (h : (sarGet s c).calRunning = false) : abandonCal c s = s :=
  if_pos (by simp [h])

/-- An injected trigger that finds no sequence running starts its own (R349). -/
theorem injTrigger_starts {j : Nat} {s : State} (hr : s.meas.running = none) (hch : (injGet s j).channels ≠ []) :
    injTrigger j s = sarNext (injMod (measMod (abandonCal 1 (abandonCal 0 s)) (fun m => { m with
      running := some j, injLeft := (injGet s j).channels, injIndex := 0, scanPaused := m.scan == 2, sysPaused := m.sysKind != 0 })) j
      (fun q => { q with pending := [] })) := by
  unfold injTrigger
  rw [hr, if_neg (by simp), if_neg hch]

theorem injTrigger_overrun {j k : Nat} {s : State} (hr : s.meas.running = some k) :
    injTrigger j s = postOverrun (1 + j) (measCount (1 + j) (injMod s j (fun q => { q with overrun := true }))) := by
  unfold injTrigger
  rw [hr, Option.isSome_some, if_pos rfl]

theorem injTrigger_empty {j : Nat} {s : State} (hr : s.meas.running = none) (hch : (injGet s j).channels = []) :
    injTrigger j s = s := by
  unfold injTrigger
  rw [hr, if_neg (by simp), if_pos hch]

theorem sarNext_running (s : State) : (sarNext s).meas.running = s.meas.running :=
  congrArg Prod.snd (InjsAt.sarNext (v := (s.meas.injs, s.meas.running)) rfl : InjsAt (s.meas.injs, s.meas.running) (sarNext s))

/-- A calibration of MA that a trigger abandons is asked for again (R356). -/
theorem abandonCal_again {s : State} (hrun : s.meas.ma.calRunning = true) (hmany : s.meas.ma.restarts < 16) :
    SarsAt ({ s.meas.ma with busy := none, calRunning := false, restarts := s.meas.ma.restarts + 1 }, { s.meas.mb with busy := none })
      (abandonCal 0 s) := by
  have hA : (sarGet s 0).calRunning = true := hrun
  have hB : (sarGet s 0).restarts < 16 := hmany
  unfold abandonCal
  extract_lets s1
  rw [if_neg (by simp [hA]), if_neg (by omega)]
  rfl

theorem SarsAt.fields {a b : Sar} {s : State} (h : SarsAt (a, b) s) :
    s.meas.ma.st = a.st ∧ s.meas.ma.calRequested = a.calRequested ∧ s.meas.ma.calRunning = a.calRunning
      ∧ s.meas.ma.restarts = a.restarts ∧ s.meas.mb.st = b.st ∧ s.meas.mb.calRequested = b.calRequested
      ∧ s.meas.mb.calRunning = b.calRunning := by
  simp only [SarsAt, Prod.mk.injEq] at h
  obtain ⟨ha, hb⟩ := h
  subst ha hb
  exact ⟨rfl, rfl, rfl, rfl, rfl, rfl, rfl⟩

/-- A fold in which one entry alone does anything, and does it once. -/
theorem foldl_once {α : Type} {f : α → Nat → α} {a b : α} {j : Nat} {l : List Nat} (hmem : j ∈ l) (hnd : l.Nodup)
    (hbefore : ∀ k ∈ l, k ≠ j → f a k = a) (hat : f a j = b) (hafter : ∀ k ∈ l, k ≠ j → f b k = b) : l.foldl f a = b := by
  induction l with
  | nil => exact absurd hmem List.not_mem_nil
  | cons k l ih =>
    obtain ⟨hk, hnd⟩ := List.nodup_cons.mp hnd
    rw [List.foldl_cons]
    by_cases hkj : k = j
    · subst hkj
      rw [hat]
      refine List.foldlRecOn (motive := fun t => t = b) l f rfl fun t ht i hi => ?_
      rw [ht]
      exact hafter i (List.mem_cons_of_mem _ hi) fun e => hk (e ▸ hi)
    · rw [hbefore k List.mem_cons_self hkj]
      exact ih ((List.mem_cons.mp hmem).resolve_left fun e => hkj e.symm) hnd
        (fun i hi => hbefore i (List.mem_cons_of_mem _ hi)) (fun i hi => hafter i (List.mem_cons_of_mem _ hi))

theorem mtrigEdge_none {src : Nat} {s : State} (h : ∀ j < 4, ¬ ((injGet s j).armed = true ∧ (injGet s j).source = src)) :
    mtrigEdge src s = if s.meas.scan ≠ 0 ∧ s.meas.source = src then scanTrigger s else s := by
  unfold mtrigEdge
  extract_lets s1
  have hs1 : s1 = s :=
    List.foldlRecOn (motive := fun t => t = s) _ _ rfl fun t ht j hj => by
      rw [ht]
      exact if_neg (h j (List.mem_range.mp hj))
  rw [hs1]

theorem mtrigEdge_one {src j : Nat} {s : State} (hj : j < 4) (hothers : ∀ k < 4, k ≠ j → (injGet s k).armed = false)
    (ha : (injGet s j).armed = true) (hsrc : (injGet s j).source = src) (hscan : s.meas.scan = 0) :
    mtrigEdge src s = injTrigger j s := by
  have hskip : ∀ k ∈ List.range 4, k ≠ j → ¬ ((injGet s k).armed = true ∧ (injGet s k).source = src) :=
    fun k hk hne hc => absurd ((hothers k (List.mem_range.mp hk) hne).symm.trans hc.1) (by decide)
  unfold mtrigEdge
  extract_lets s1
  have hs1 : s1 = injTrigger j s :=
    foldl_once (f := fun t k => if (injGet s k).armed = true ∧ (injGet s k).source = src then injTrigger k t else t)
      (List.mem_range.mpr hj) List.nodup_range (fun k hk hne => if_neg (hskip k hk hne)) (if_pos ⟨ha, hsrc⟩)
      (fun k hk hne => if_neg (hskip k hk hne))
  rw [hs1, if_neg fun h => h.1 hscan]

/-! ## Plausibility and calibration -/

/-- With a converter failed, no comparison waits for its evaluation (R353). -/
theorem systemEnds_plaus {n : Nat} {u : State} (h : PlausAt (n, false) u) (hf : sarFailed u 0 = true ∨ sarFailed u 1 = true) :
    PlausAt (n, false) (systemEnds u) := by
  unfold systemEnds
  split
  case isTrue =>
    extract_lets s1
    have hno : (u.meas.sysKind == 2 && !sarFailed u 0 && !sarFailed u 1) = false := by
      rcases hf with hf | hf
      · simp [hf]
      · simp [hf]
    have h1 : PlausAt (n, false) s1 := by
      simp only [PlausAt, Prod.mk.injEq] at h ⊢
      obtain ⟨hn, hp⟩ := h
      exact ⟨hn, by show (u.meas.plausCheck || _) = false; rw [hp, hno]; rfl⟩
    exact .ite (.measMod h1) h1
  case isFalse => exact h

theorem sarFailed_of_at {c : Nat} {q : Sar} {s : State} (h : SarAt c q s) (hst : q.st = 3) : sarFailed s c = true := by
  unfold SarAt at h
  have hq := congrArg Sar.st h
  simp only [hst] at hq
  rw [sarFailed, hq]
  rfl

/-- A converter that fails stands in state 3, and the comparison waits no more (R353). -/
theorem failSar_spec {c : Nat} (hc : c < 2) (diff : Int) {n : Nat} {u : State} (h : PlausAt (n, false) u) :
    SarsAt (sarCores (sarMod u c (fun q => { q with st := 3 }))) (failSar c diff u) ∧ PlausAt (n, false) (failSar c diff u) := by
  unfold failSar
  split
  case isTrue hf =>
    have hst : (sarGet u c).st = 3 := by simpa [sarFailed] using hf
    have hsame : sarMod u c (fun q => { q with st := 3 }) = u := by
      interval_cases c
      · show { u with meas := { u.meas with ma := { u.meas.ma with st := 3 } } } = u
        rw [← show u.meas.ma.st = 3 from hst]
      · show { u with meas := { u.meas with mb := { u.meas.mb with st := 3 } } } = u
        rw [← show u.meas.mb.st = 3 from hst]
    rw [hsame]
    exact ⟨rfl, h⟩
  case isFalse =>
    refine ⟨.systemEnds (.posted (.measMod rfl)), systemEnds_plaus (.posted ?_) ?_⟩
    · have hn : (sarMod u c (fun q => { q with st := 3 })).meas.plausFails = n := by
        interval_cases c
        · exact congrArg Prod.fst h
        · exact congrArg Prod.fst h
      exact Prod.ext hn rfl
    · have hat (d : Nat) (hd : d = c) : SarAt d { { sarGet u d with busy := none } with st := 3 }
          (sarMod u c (fun q => { q with st := 3 })) := by
        subst hd
        exact SarAt.mod rfl _
      interval_cases c
      · exact .inl (sarFailed_of_at ((hat 0 rfl).of_sars (.posted (.measMod rfl))) rfl)
      · exact .inr (sarFailed_of_at ((hat 1 rfl).of_sars (.posted (.measMod rfl))) rfl)

/-- What a converter that the third comparison fails is left with: failed, and a calibration asked for. -/
def failed (q : Sar) : Sar := { q with st := 3, calRequested := true }

theorem failAndCalibrate_spec {c : Nat} (hc : c < 2) (diff : Int) {n : Nat} {u : State} (h : PlausAt (n, false) u) :
    SarsAt (sarCores (sarMod u c failed)) (failAndCalibrate c diff u) ∧ PlausAt (n, false) (failAndCalibrate c diff u) := by
  obtain ⟨hs, hp⟩ := failSar_spec hc diff h
  unfold failAndCalibrate
  generalize failSar c diff u = t at hs hp ⊢
  interval_cases c
  · simp only [SarsAt, sarCores, Prod.mk.injEq] at hs ⊢
    exact ⟨⟨congrArg (fun q : Sar => { q with calRequested := true }) hs.1, hs.2⟩, hp⟩
  · simp only [SarsAt, sarCores, Prod.mk.injEq] at hs ⊢
    exact ⟨⟨hs.1, congrArg (fun q : Sar => { q with calRequested := true }) hs.2⟩, hp⟩

/-- What the third comparison beyond the limit leaves of the converters (R353). -/
def thirdFails (badA badB : Bool) (v : Sar × Sar) : Sar × Sar :=
  if !badA && !badB then ({ v.1 with st := 2, calRequested := true }, { v.2 with st := 2, calRequested := true })
  else (if badA then failed v.1 else v.1, if badB then failed v.2 else v.2)

/-- The converters as a comparison leaves them before its verdict. -/
def compared (s : State) : Sar × Sar :=
  ({ s.meas.ma with diff := s.meas.plausDiff, busy := none }, { s.meas.mb with diff := s.meas.plausDiff, busy := none })

theorem plausibility_third {s : State} (h : s.meas.plausDiff < -24 ∨ 24 < s.meas.plausDiff) (hmany : 2 ≤ s.meas.plausFails) :
    SarsAt (thirdFails (bit s.meas.plausBad 0) (bit s.meas.plausBad 1) (compared s)) (plausibility s)
      ∧ PlausAt (0, false) (plausibility s) := by
  unfold plausibility
  extract_lets diff okA okB s1 s2 s3 s4
  rw [if_neg (by omega), if_neg (by omega)]
  have h2 : PlausAt (0, false) s2 := rfl
  have c2 : SarsAt (compared s) s2 := rfl
  cases hA : bit s.meas.plausBad 0 with
  | false =>
    have h3 : s3 = s2 := if_pos (by simp [okA, hA])
    cases hB : bit s.meas.plausBad 1 with
    | false =>
      have h4 : s4 = s2 := (if_pos (by simp [okB, hB])).trans h3
      rw [if_pos (by simp [okA, okB, hA, hB]), h4]
      exact ⟨.sarNext (.posted rfl), .sarNext (.posted rfl)⟩
    | true =>
      have h4 : s4 = failAndCalibrate 1 diff s2 := (if_neg (by simp [okB, hB])).trans (congrArg _ h3)
      rw [if_neg (by simp [okB, hB]), h4]
      obtain ⟨hs, hp⟩ := failAndCalibrate_spec (c := 1) (by decide) diff h2
      exact ⟨.sarNext hs, .sarNext hp⟩
  | true =>
    have h3 : s3 = failAndCalibrate 0 diff s2 := if_neg (by simp [okA, hA])
    obtain ⟨hs, hp⟩ := failAndCalibrate_spec (c := 0) (by decide) diff h2
    rw [if_neg (by simp [okA, hA])]
    cases hB : bit s.meas.plausBad 1 with
    | false =>
      have h4 : s4 = s3 := if_pos (by simp [okB, hB])
      rw [h4, h3]
      exact ⟨.sarNext hs, .sarNext hp⟩
    | true =>
      have h4 : s4 = failAndCalibrate 1 diff s3 := if_neg (by simp [okB, hB])
      rw [h4, h3]
      obtain ⟨hs', hp'⟩ := failAndCalibrate_spec (c := 1) (by decide) diff hp
      refine ⟨.sarNext ?_, .sarNext hp'⟩
      generalize failAndCalibrate 0 diff s2 = u at hs hs' ⊢
      have hcores : sarCores (sarMod u 1 failed) = ((sarCores u).1, failed (sarCores u).2) := rfl
      rw [hcores, show sarCores u = _ from hs] at hs'
      exact hs'

theorem SarAt.calDone {c : Nat} {q : Sar} {s : State} (h : SarAt c q s) (passed : Bool) :
    SarAt c { q with calFor := [] } (Machine.calDone c passed s) := by
  have hmod := h.mod (fun q => { q with calFor := [] })
  unfold Machine.calDone
  extract_lets ws s1 ended
  unfold SarAt sarGet at hmod ⊢
  rw [(completeAll_others _ _ _).2.2.2.2.2.2.2.2.2.2.2.2.2.1]
  exact hmod

/-- A calibration within its limits (R356). -/
theorem calEnds_good {c : Nat} {off g : Int} {s : State} (h : calCause off g = 0) :
    ∃ q, SarAt c q (calEnds c off g s) ∧ q.st = 0 ∧ q.gain = g ∧ q.offset = off ∧ q.calRunning = false ∧ q.calFor = [] := by
  unfold calEnds
  extract_lets cause was s1 s2 s4 s3
  have h1 : SarAt c { sarGet s c with busy := none } s1 := SarAt.posted rfl
  have h4 : SarAt c _ s4 := (h1.mod (fun q => { q with calRequested := false, calRunning := false, calOnce := true, restarts := 0 })).mod
    (fun q => { q with st := 0, gain := g, offset := off, calTemp := coreTemp s })
  have h3 : SarAt c _ s3 := (if_pos h : s3 = _).symm ▸ inv_ite (P := SarAt c _) h4.posted h4
  exact ⟨_, (h3.calDone _).sarNext, rfl, rfl, rfl, rfl, rfl⟩

theorem SarAt.failSar {c : Nat} {q : Sar} {s : State} (h : SarAt c q s) (diff : Int) :
    SarAt c { q with st := 3 } (Machine.failSar c diff s) := by
  unfold Machine.failSar
  split
  case isTrue hf =>
    have hst : (sarGet s c).st = 3 := by simpa [sarFailed] using hf
    have hq : q.st = 3 := by
      unfold SarAt at h
      rw [← h]
      exact hst
    rw [← hq]
    exact h
  case isFalse => exact (h.mod (fun q => { q with st := 3 })).of_sars (.systemEnds (.posted (.measMod rfl)))

/-- A calibration beyond its limits (R356). -/
theorem calEnds_bad {c : Nat} {off g : Int} {s : State} (h : calCause off g ≠ 0) :
    ∃ q, SarAt c q (calEnds c off g s) ∧ q.st = 3 ∧ q.gain = (sarGet s c).gain ∧ q.calRunning = false := by
  unfold calEnds
  extract_lets cause was s1 s2 s4 s3
  have h1 : SarAt c { sarGet s c with busy := none } s1 := SarAt.posted rfl
  have h2 : SarAt c _ s2 := h1.mod (fun q => { q with calRequested := false, calRunning := false, calOnce := true, restarts := 0 })
  have h3 : SarAt c _ s3 := (if_neg h : s3 = _).symm ▸ h2.failSar (sarGet s c).diff
  exact ⟨_, (h3.calDone _).sarNext, rfl, rfl, rfl⟩

/-! ## Conversions -/

theorem MRecord_of_sarRecord (s : State) (c : Nat) (q : Conversion) (code value : Int) (off : Nat) :
    (sarRecord s c q code value off).channel = q.channel ∧ (sarRecord s c q code value off).source = q.source := ⟨rfl, rfl⟩

/-- A pair of conversions files both its records (R346). -/
theorem conversionDone_pair {code trim code2 trim2 : Int} {off : Nat} {s : State} {q q2 : Conversion}
    (ha : s.meas.ma.busy = some q) (hb : s.meas.mb.busy = some q2) (hsrc : q.source = 6) (hsrc2 : q2.source = 6) {r r2 : MRecord}
    (hr : r = sarRecord s 0 q (sarCodeOf q.channel (readbackCode s q.channel code))
      (sarValue s.meas.ma q.channel (sarCodeOf q.channel (readbackCode s q.channel code)) trim) off)
    (hr2 : r2 = sarRecord s 1 q2 (sarCodeOf q2.channel code2) (sarValue s.meas.mb q2.channel (sarCodeOf q2.channel code2) trim2) off) :
    LatestAt (tset noRecord (tset noRecord s.meas.latest q.channel r) q2.channel r2) (conversionDone 0 code trim code2 trim2 off s)
      ∧ BufferAt s.meas.buffer (conversionDone 0 code trim code2 trim2 off s) := by
  have hq : (sarGet s 0).busy = some q := ha
  have hc : r.channel = q.channel ∧ r.source = 6 := by rw [hr]; exact ⟨rfl, hsrc⟩
  have hc2 : r2.channel = q2.channel ∧ r2.source = 6 := by rw [hr2]; exact ⟨rfl, hsrc2⟩
  unfold conversionDone
  rw [hq]
  dsimp only
  rw [if_pos (.inl hsrc), hb]
  dsimp only
  rw [if_neg (by omega), injMark_other (by omega)]
  dsimp only
  rw [show sarGet s 0 = s.meas.ma from rfl, ← hr, ← hr2]
  have hl := fileRecord_latest q.live r (sarMod s 0 (fun x => { x with busy := none }))
  have hbuf := fileRecord_unbuffered (live := q.live) (r := r) (by omega) (sarMod s 0 (fun x => { x with busy := none }))
  generalize fileRecord q.live r (sarMod s 0 (fun x => { x with busy := none })) = u at hl hbuf ⊢
  have hl2 := fileRecord_latest true r2 (sarMod u 1 (fun x => { x with busy := none }))
  have hbuf2 := fileRecord_unbuffered (live := true) (r := r2) (by omega) (sarMod u 1 (fun x => { x with busy := none }))
  generalize fileRecord true r2 (sarMod u 1 (fun x => { x with busy := none })) = w at hl2 hbuf2 ⊢
  rw [(sarMod_records u 1 _).1, show u.meas.latest = _ from hl, hc.1, hc2.1] at hl2
  rw [(sarMod_records u 1 _).2, hbuf.buffer] at hbuf2
  exact ⟨.sarNext (.systemEnds (.pairResults hl2)), .sarNext (.systemEnds (.pairResults hbuf2))⟩

theorem exec_sarConversionDone {c : Fin 2} {code trim code2 trim2 : Int} {off : Nat} {s : State} {q : Conversion}
    (hq : (sarGet s c.val).busy = some q) (hsrc : q.source < 6) :
    exec (.sarConversionDone c code trim code2 trim2 off) s = .next (conversionDone c.val code trim code2 trim2 off s) := by
  refine show execSarConversionDone c code trim code2 trim2 off s = _ from whenever_true ?_
  rw [hq]
  have h6 : q.source ≠ 6 := by omega
  have h7 : q.source ≠ 7 := by omega
  simp [h6, h7]

theorem exec_injectedTrigger {j : Fin 4} {s : State} (ha : sarAlive s = true) (harm : (injGet s j.val).armed = true)
    (h7 : (injGet s j.val).source ≠ 7) (ht : triggerRuns s (injGet s j.val).source = true) :
    exec (.injectedTrigger j) s = .next (injTrigger j.val s) :=
  show execInjectedTrigger j s = _ from whenever_true (by simp [ha, harm, h7, ht])

theorem SarAt.fields {c : Nat} {q : Sar} {s : State} (h : SarAt c q s) :
    (sarGet s c).st = q.st ∧ (sarGet s c).calRequested = q.calRequested ∧ (sarGet s c).calRunning = q.calRunning
      ∧ (sarGet s c).restarts = q.restarts ∧ (sarGet s c).gain = q.gain ∧ (sarGet s c).offset = q.offset
      ∧ (sarGet s c).calFor = q.calFor := by
  unfold SarAt at h
  subst h
  exact ⟨rfl, rfl, rfl, rfl, rfl, rfl, rfl⟩

/-- What an injected conversion leaves of its sequence (R349, R350). -/
theorem filed_injected {j : Nat} {live : Bool} {r : MRecord} {s : State} (hso : r.source = 2 + j) (hj : j < 4)
    (w : tblWf Inj.reset s.meas.injs = true) (hrun : s.meas.running = some j) (c : Nat) {t : State}
    (ht : t = sarNext (scanEnds (systemEnds (fileRecord live r (injMod (sarMod s c (fun x => { x with busy := none })) j
      (fun x => { x with overrun := false })))))) :
    (live = false → InjAt j (false, (injGet s j).pending, (injGet s j).results, (injGet s j).completions) (some j) t)
      ∧ (live = true → s.meas.injLeft ≠ [] →
        InjAt j (false, (injGet s j).pending ++ [r], (injGet s j).results, (injGet s j).completions) (some j) t)
      ∧ (live = true → s.meas.injLeft = [] →
        InjAt j (false, [], (injGet s j).pending ++ [r], (injGet s j).completions + 1) none t) := by
  subst ht
  have hstart : InjAt j (false, (injGet s j).pending, (injGet s j).results, (injGet s j).completions) (some j)
      (tempCals r (keepLatest r (injMod (sarMod s c (fun x => { x with busy := none })) j (fun x => { x with overrun := false })))) := by
    have h0 : InjAt j (resultsOf (injGet s j)) (some j) (sarMod s c (fun x => { x with busy := none })) :=
      InjAt.of_injs (s := s) ⟨w, rfl, hrun⟩ (.sarMod rfl)
    exact (h0.mod (f := fun x => { x with overrun := false }) (v' := (false, (injGet s j).pending, (injGet s j).results,
      (injGet s j).completions)) fun q hq => by
        simp only [resultsOf, Prod.mk.injEq] at hq ⊢
        simp only [hq, and_self]).of_injs (.tempCals (.keepLatest rfl))
  have hleft : (tempCals r (keepLatest r (injMod (sarMod s c (fun x => { x with busy := none })) j
      (fun x => { x with overrun := false })))).meas.injLeft = s.meas.injLeft := by
    rw [tempCals_injLeft]
    show (sarMod s c _).meas.injLeft = _
    unfold sarMod
    split <;> rfl
  have hends {v : Bool × List MRecord × List MRecord × Nat} {x : Option Nat} {u : State} (h : InjAt j v x u) :
      InjAt j v x (sarNext (scanEnds (systemEnds u))) := h.of_injs (.sarNext (.scanEnds (.systemEnds rfl)))
  rw [fileRecord_injected hso hj]
  refine ⟨fun hl => ?_, fun hl hne => ?_, fun hl he => ?_⟩
  · rw [if_neg (by simp [hl])]
    exact hends hstart
  · rw [if_pos hl]
    exact hends (injRecord_more hstart (by rw [hleft]; exact hne))
  · rw [if_pos hl]
    exact hends (injRecord_last hstart (by rw [hleft]; exact he))

theorem InjAt.fields {j : Nat} {a : Bool} {p r : List MRecord} {n : Nat} {x : Option Nat} {s : State} (h : InjAt j (a, p, r, n) x s) :
    (injGet s j).overrun = a ∧ (injGet s j).pending = p ∧ (injGet s j).results = r ∧ (injGet s j).completions = n
      ∧ s.meas.running = x := by
  obtain ⟨-, hv, hr⟩ := h
  simp only [resultsOf, Prod.mk.injEq] at hv
  exact ⟨hv.1, hv.2.1, hv.2.2.1, hv.2.2.2, hr⟩

end Sys2Proof.Machine

namespace Sys2Proof
open Sys2Proof.Machine

/-- Settles O55: scans, injected sequences, pairs, system sequences, plausibility and calibration. -/
theorem measureCommandsAndStepsTakeEffect : Obligations.MeasureCommandsAndStepsTakeEffect := by
  refine ⟨fun o p s => ⟨?status, ?scanSet, ?scanSetGoes, ?stop, ?armRunning, ?armWaits, ?armGoes, ?trigger, ?flush, ?scanRead, ?latest,
      ?injSet, ?disarm, ?disarmRunning, ?arm, ?injNow, ?injRead, ?calibrate, ?calRead⟩,
    fun s => ⟨?single, ?injected, ?pair, ?hostTrigger, ?injStarts, ?injAbandons, ?injEmpty, ?injOverrun, ?edgeScan, ?edgeInj, ?edgeNone,
      ?block, ?blockLate, ?blockNot, ?system, ?near, ?far, ?third, ?calStart, ?calGood, ?calBad, ?tracker⟩⟩
  case status => exact fun h => hostCommand_accepted h (measStatusDo o p)
  case scanSet =>
    exact fun h hw => hostCommand_does (act := measScanSetDo p) h (congrArg ok (scanGoesOn_waits hw))
  case scanSetGoes =>
    exact fun h h1 h2 h3 h4 => hostCommand_does (act := measScanSetDo p) h (congrArg ok (scanGoesOn_starts h1 h2 h3 h4))
  case stop => exact fun h hx => hostCommand_does h (measScanControlDo_stop (s := takeLog s) hx)
  case armRunning =>
    exact fun h hx h2 => hostCommand_does h ((measScanControlDo_arm (s := takeLog s) hx).trans (if_pos h2))
  case armWaits =>
    intro h hx h2 hw
    exact hostCommand_does h ((measScanControlDo_arm (s := takeLog s) hx).trans ((if_neg h2).trans (congrArg ok (scanGoesOn_waits (.inr hw)))))
  case armGoes =>
    intro h hx h2 hs hm hw
    exact hostCommand_does h ((measScanControlDo_arm (s := takeLog s) hx).trans ((if_neg h2).trans
      (congrArg ok (scanGoesOn_starts rfl hs hm hw))))
  case trigger => exact fun h hx => hostCommand_does h (measScanControlDo_trigger (s := takeLog s) hx)
  case flush => exact fun h hx => hostCommand_does h (measScanControlDo_flush (s := takeLog s) hx)
  case scanRead => exact fun h => hostCommand_does h (measScanReadDo_eq p s.host.log (takeLog s))
  case latest => exact fun h => hostCommand_accepted h (reads (measLatestResult p))
  case injSet => exact fun h => hostCommand_accepted h (measInjSetDo p)
  case disarm =>
    exact fun h hx hr => hostCommand_does h ((measInjControlDo_disarm (s := takeLog s) hx).trans (congrArg ok (if_neg hr)))
  case disarmRunning =>
    exact fun h hx hr => hostCommand_does h ((measInjControlDo_disarm (s := takeLog s) hx).trans (congrArg ok (if_pos hr)))
  case arm => exact fun h hx => hostCommand_does h (measInjControlDo_arm (s := takeLog s) hx)
  case injNow => exact fun h hx => hostCommand_does h (measInjControlDo_trigger (s := takeLog s) hx)
  case injRead => exact fun h => hostCommand_accepted h (reads (measInjReadResult p))
  case calibrate => exact fun h => hostCommand_accepted h (measCalibrateDo o p)
  case calRead => exact fun h => ⟨openValue (takeLog s) 0, hostCommand_accepted h (reads (measCalReadResult p))⟩
  case single =>
    intro c q code trim code2 trim2 n off r hq hsrc w hn hr
    subst hn
    have hdone := conversionDone_single (code2 := code2) (trim2 := trim2) hq hsrc hr
    obtain ⟨hmc, hms⟩ := injMark_conversion q s
    have hch : r.channel = q.channel := by rw [hr]; exact hmc
    have hso : r.source = q.source := by rw [hr]; exact hms
    have hrun := (exec_sarConversionDone (trim := trim) (code := code) (code2 := code2) (trim2 := trim2) (off := off) hq hsrc).trans
      (congrArg Host.Outcome.next hdone)
    obtain ⟨hl, hb⟩ := injMark_records q (sarMod s c.val (fun x => { x with busy := none }))
    obtain ⟨hl', hb'⟩ := sarMod_records s c.val (fun x => { x with busy := none })
    refine ⟨_, hrun, ?_, fun k hk => ?_, fun h0 hlen => ?_, fun h0 hlen => ?_, fun h0 => ?_⟩
    · rw [filed_latest, hl, hl', hch, tget_tset_same _ w]
    · rw [filed_latest, hl, hl', hch, tget_tset_other _ w hk]
    · rw [filed_buffer (fileRecord_buffered (hso.trans h0) _), hb, hb', if_neg (by omega)]
    · rw [filed_buffer (fileRecord_buffered (hso.trans h0) _), hb, hb', if_pos (by omega)]
    · rw [filed_buffer (fileRecord_unbuffered (fun e => h0 (hso.symm.trans e)) _), hb, hb']
  case injected =>
    intro c j q code trim code2 trim2 n off r hq hsrc w hrunning hn hr
    subst hn
    have hmark := injMark_injected hsrc j.isLt s
    have hdone := conversionDone_single (code := code) (trim := trim) (code2 := code2) (trim2 := trim2) (off := off) hq (by omega) (r := r)
      (by rw [hmark]; exact hr)
    rw [injMark_injected hsrc j.isLt] at hdone
    have hrun := (exec_sarConversionDone (trim := trim) (code := code) (code2 := code2) (trim2 := trim2) (off := off) hq (by omega)).trans
      (congrArg Host.Outcome.next hdone)
    have hso : r.source = 2 + j.val := by rw [hr]; exact hsrc
    obtain ⟨hdead, hmore, hlast⟩ := filed_injected (live := q.live) hso j.isLt w hrunning c.val rfl
    refine ⟨_, hrun, ?_, fun hlive => ?_, fun hlive hleft => ?_, fun hlive hleft => ?_⟩
    · cases hlive : q.live with
      | false => rw [hlive] at hdead; exact (hdead rfl).fields.1
      | true =>
        rw [hlive] at hmore hlast
        by_cases hleft : s.meas.injLeft = []
        · exact (hlast rfl hleft).fields.1
        · exact (hmore rfl hleft).fields.1
    · obtain ⟨-, h1, h2, -⟩ := (hdead hlive).fields
      exact ⟨h1, h2⟩
    · obtain ⟨-, h1, h2, -, h3⟩ := (hmore hlive hleft).fields
      exact ⟨h1, h3, h2⟩
    · obtain ⟨-, h1, h2, h3, h4⟩ := (hlast hlive hleft).fields
      exact ⟨h2, h1, h3, h4⟩
  case pair =>
    intro q q2 code trim code2 trim2 off ha hb hsrc hsrc2 hne w
    obtain ⟨hl, hbuf⟩ := conversionDone_pair (code := code) (trim := trim) (code2 := code2) (trim2 := trim2) (off := off) ha hb hsrc hsrc2 rfl rfl
    have hrun : execSarConversionDone 0 code trim code2 trim2 off s = _ := whenever_true (by
      rw [show (sarGet s (0 : Fin 2).val).busy = some q from ha]
      rfl)
    refine ⟨_, hrun, ?_, ?_, hbuf⟩
    · rw [show (conversionDone (0 : Fin 2).val code trim code2 trim2 off s).meas.latest = _ from hl,
        tget_tset_other _ (tset_wf _ w _ _) hne, tget_tset_same _ w]
    · rw [show (conversionDone (0 : Fin 2).val code trim code2 trim2 off s).meas.latest = _ from hl,
        tget_tset_same _ (tset_wf _ w _ _)]
  case hostTrigger =>
    intro k ha hscan hsrc h0 h7 ht
    have h7' : k.val ≠ 7 := fun e => h7 (Fin.ext e)
    have hrun : exec (.hostScanTrigger k) s = .next (scanTrigger s) :=
      show execHostScanTrigger k s = _ from whenever_true (by simp [ha, hscan, hsrc, ht, h0, h7'])
    exact ⟨fun h2 => hrun.trans (congrArg Host.Outcome.next (if_pos h2)),
      fun h2 hk hw => hrun.trans (congrArg Host.Outcome.next ((if_neg h2).trans ((if_pos hk).trans (if_pos hw)))),
      fun h2 hk hw => hrun.trans (congrArg Host.Outcome.next ((if_neg h2).trans ((if_pos hk).trans (if_neg (by simp [hw]))))),
      fun h2 hk => hrun.trans (congrArg Host.Outcome.next ((if_neg h2).trans (if_neg fun h => h hk)))⟩
  case injStarts =>
    intro j ha harm h7 ht hr hch hA hB
    refine (exec_injectedTrigger ha harm h7 ht).trans (congrArg Host.Outcome.next ((injTrigger_starts hr hch).trans ?_))
    rw [abandonCal_not (c := 0) hA, abandonCal_not (c := 1) hB]
  case injAbandons =>
    intro j ha harm h7 ht hr hch hA hmany hB
    have hexec := (exec_injectedTrigger ha harm h7 ht).trans (congrArg Host.Outcome.next (injTrigger_starts hr hch))
    have h0 := abandonCal_again hA hmany
    rw [abandonCal_not (c := 1) (h0.fields.2.2.2.2.2.2.trans hB)] at hexec
    have hstarted : SarsAt _ (injMod (measMod (abandonCal 0 s) (fun m => { m with
        running := some j.val, injLeft := (injGet s j.val).channels, injIndex := 0, scanPaused := m.scan == 2,
        sysPaused := m.sysKind != 0 })) j.val (fun q => { q with pending := [] })) := h0
    obtain ⟨-, h1, h2, h3, -⟩ := hstarted.sarNext.fields
    exact ⟨_, hexec, (sarNext_running _).trans rfl, h2, h1, h3⟩
  case injEmpty =>
    exact fun j ha harm h7 ht hr hch => (exec_injectedTrigger ha harm h7 ht).trans (congrArg Host.Outcome.next (injTrigger_empty hr hch))
  case injOverrun =>
    exact fun j k ha harm h7 ht hr => (exec_injectedTrigger ha harm h7 ht).trans (congrArg Host.Outcome.next (injTrigger_overrun hr))
  case edgeScan =>
    intro rising ha hinj hscan hsrc
    refine (show execMtrigEdge rising s = _ from whenever_true ha).trans (congrArg Host.Outcome.next
      ((mtrigEdge_none fun j hj h => ?_).trans (if_pos ⟨hscan, hsrc⟩)))
    exact absurd ((hinj j hj).symm.trans h.1) (by decide)
  case edgeInj =>
    exact fun rising j ha hothers harm hsrc hscan => (show execMtrigEdge rising s = _ from whenever_true ha).trans
      (congrArg Host.Outcome.next (mtrigEdge_one j.isLt hothers harm hsrc hscan))
  case edgeNone =>
    intro rising hinj hscan
    cases ha : sarAlive s with
    | false => exact show execMtrigEdge rising s = _ from whenever_false ha
    | true =>
      refine (show execMtrigEdge rising s = _ from whenever_true ha).trans (congrArg Host.Outcome.next
        ((mtrigEdge_none fun j hj h => hinj j hj h.1 h.2).trans (if_neg fun h => ?_)))
      exact hscan.elim h.1 fun hne => hne h.2
  case block =>
    intro hp hpairs hbusy
    refine (show execPairedClockTick s = _ from whenever_true hp).trans (congrArg Host.Outcome.next ?_)
    unfold pairedTick
    rw [hpairs, hbusy]
    rfl
  case blockLate =>
    intro hp hlate
    refine (show execPairedClockTick s = _ from whenever_true hp).trans (congrArg Host.Outcome.next ?_)
    have hl : (!s.meas.pairs.isEmpty || sourceBusy s 6) = true := by
      rcases hlate with h | h
      · simp [h]
      · simp [h]
    unfold pairedTick
    rw [hl]
    rfl
  case blockNot => exact fun hp => show execPairedClockTick s = _ from whenever_false hp
  case system => exact fun q ha hd => show execSystemSequenceDue q s = _ from whenever_true (by simp [ha, hd])
  case near =>
    exact fun ha hc hlo hhi => (show execPlausibilityCheck s = _ from whenever_true (by simp [ha, hc])).trans
      (congrArg Host.Outcome.next (if_pos ⟨hlo, hhi⟩))
  case far =>
    exact fun ha hc hbig hfew => (show execPlausibilityCheck s = _ from whenever_true (by simp [ha, hc])).trans
      (congrArg Host.Outcome.next ((if_neg (by omega)).trans (if_pos (by omega))))
  case third =>
    intro ha hc hbig hmany
    have hrun : execPlausibilityCheck s = _ := whenever_true (by simp [ha, hc])
    obtain ⟨hs, hp⟩ := plausibility_third hbig hmany
    simp only [PlausAt, Prod.mk.injEq] at hp
    refine ⟨_, hrun, hp.1, hp.2, fun hA => ?_, fun hB => ?_, fun hA hB => ?_, fun hA hB => ?_, fun hA hB => ?_⟩
    · simp only [thirdFails, hA, Bool.not_true, Bool.false_and, Bool.false_eq_true, if_false, if_true] at hs
      exact ⟨hs.fields.1, hs.fields.2.1⟩
    · simp only [thirdFails, hB, Bool.not_true, Bool.and_false, Bool.false_eq_true, if_false, if_true] at hs
      exact ⟨hs.fields.2.2.2.2.1, hs.fields.2.2.2.2.2.1⟩
    · simp only [thirdFails, hA, hB, Bool.not_true, Bool.false_and, Bool.false_eq_true, if_false, if_true] at hs
      exact hs.fields.2.2.2.2.1
    · simp only [thirdFails, hA, hB, Bool.not_true, Bool.and_false, Bool.false_eq_true, if_false, if_true] at hs
      exact hs.fields.1
    · simp only [thirdFails, hA, hB, Bool.not_false, Bool.and_self, if_true] at hs
      exact ⟨hs.fields.1, hs.fields.2.2.2.2.1, hs.fields.2.1, hs.fields.2.2.2.2.2.1⟩
  case calStart =>
    intro c ha hA hB hr hp hb
    exact show execSarCalibrationStart c s = _ from whenever_true (by simp [ha, hA, hB, hb, higherWaits, hr, hp])
  case calGood =>
    intro c off g hrun hb hp hc
    have hexec : execSarCalibrationEnd c off g s = _ := whenever_true (by simp [hrun, hb, hp])
    obtain ⟨q, hq, h1, h2, h3, h4, h5⟩ := calEnds_good (c := c.val) hc
    obtain ⟨e1, -, e4, -, e2, e3, e5⟩ := hq.fields
    exact ⟨_, hexec, e1.trans h1, e2.trans h2, e3.trans h3, e4.trans h4, e5.trans h5⟩
  case calBad =>
    intro c off g hrun hb hp hc
    have hexec : execSarCalibrationEnd c off g s = _ := whenever_true (by simp [hrun, hb, hp])
    obtain ⟨q, hq, h1, h2, h4⟩ := calEnds_bad (c := c.val) hc
    obtain ⟨e1, -, e4, -, e2, -⟩ := hq.fields
    exact ⟨_, hexec, e1.trans h1, e2.trans h2, e4.trans h4⟩
  case tracker =>
    intro hb hl hA hB
    exact show execMeasurementTrackerLock s = _ from whenever_true (by simp [hb, hl, hA, hB])

end Sys2Proof
end

section
/-! PROOF. What the steps of power and start leave of the power state, the engine and the converters. -/

namespace Sys2Proof.Machine

/-- The power state. -/
def PowerAt (v : PowerState) (s : State) : Prop := s.pwr = v

theorem PowerAt.ite {v : PowerState} {c : Prop} {dec : Decidable c} {s t : State} (hs : PowerAt v s)
    (ht : PowerAt v t) : PowerAt v (if c then s else t) := by
  split
  · exact hs
  · exact ht

theorem PowerAt.pairIte {v : PowerState} {α : Type} {c : Prop} {dec : Decidable c} {x y : α × State}
    (hx : PowerAt v x.2) (hy : PowerAt v y.2) : PowerAt v (if c then x else y).2 := by
  split
  · exact hx
  · exact hy

theorem PowerAt.foldl {v : PowerState} {s : State} {β : Type} {f : State → β → State} {l : List β}
    (inv : PowerAt v s) (h : ∀ t x, PowerAt v t → PowerAt v (f t x)) :
    PowerAt v (l.foldl f s) :=
  foldl_inv (fun t : State => PowerAt v t) f h l s inv

theorem PowerAt.posted {v : PowerState} {s : State} {code inst log data : Nat} {cn : Concern}
    (inv : PowerAt v s) : PowerAt v (Machine.post code inst log data cn s) := by
  simpa [PowerAt] using inv

theorem PowerAt.completed {v : PowerState} {s : State} {x : Waiter} {st : Nat} (inv : PowerAt v s) :
    PowerAt v (Machine.complete x st s) := by
  simpa [PowerAt] using inv

theorem PowerAt.drawElapsed {v : PowerState} {s : State} (inv : PowerAt v s) :
    PowerAt v (Machine.drawElapsed s).2 :=
  inv

theorem PowerAt.stopTick {v : PowerState} {s : State} (inv : PowerAt v s) :
    PowerAt v (Machine.stopTick s) :=
  inv

theorem PowerAt.countErase {v : PowerState} {s : State} {sector : Nat} (inv : PowerAt v s) :
    PowerAt v (Machine.countErase sector s) :=
  .ite inv (.posted inv)

theorem PowerAt.nvmStart {v : PowerState} {s : State} (inv : PowerAt v s) :
    PowerAt v (Machine.nvmStart s) := by
  unfold Machine.nvmStart
  split
  · exact inv
  · exact .ite inv (.ite inv inv)

theorem PowerAt.askNvm {v : PowerState} {s : State} {j : NvmJob} (inv : PowerAt v s) :
    PowerAt v (Machine.askNvm j s) :=
  .nvmStart inv

theorem PowerAt.askSummary {v : PowerState} {s : State} (inv : PowerAt v s) :
    PowerAt v (Machine.askSummary s) :=
  .askNvm inv

theorem PowerAt.blockShelter {v : PowerState} {s : State} (inv : PowerAt v s) :
    PowerAt v (Machine.blockShelter s) := by
  unfold Machine.blockShelter
  split
  · exact inv
  · exact .ite (.countErase (.drawElapsed inv)) (.drawElapsed inv)

theorem PowerAt.nvmShelter {v : PowerState} {s : State} (inv : PowerAt v s) :
    PowerAt v (Machine.nvmShelter s) := by
  unfold Machine.nvmShelter
  split
  · exact .countErase inv
  · exact inv
  · exact .blockShelter inv

theorem PowerAt.spanMod {v : PowerState} {s : State} {f : HullSpan → HullSpan} (inv : PowerAt v s) :
    PowerAt v (Machine.spanMod s f) :=
  inv

theorem PowerAt.auxMod {v : PowerState} {s : State} {c : Nat} {f : Aux → Aux} (inv : PowerAt v s) :
    PowerAt v (Machine.auxMod s c f) :=
  inv

theorem PowerAt.queueMod {v : PowerState} {s : State} {c : Nat} {f : AuxQueue → AuxQueue} (inv : PowerAt v s)
    : PowerAt v (Machine.queueMod s c f) :=
  inv

theorem PowerAt.jackMod {v : PowerState} {s : State} {j : Nat} {f : Jack → Jack} (inv : PowerAt v s) :
    PowerAt v (Machine.jackMod s j f) :=
  .ite inv inv

theorem PowerAt.serveJacks {v : PowerState} {s : State} (inv : PowerAt v s) : PowerAt v (Machine.serveJacks s) :=
  (congrArg State.pwr (serveJacks_restAux s)).trans inv

theorem PowerAt.jacksBack {v : PowerState} {s : State} (inv : PowerAt v s) : PowerAt v (Machine.jacksBack s) :=
  (congrArg State.pwr (jacksBack_restAux s)).trans inv

theorem PowerAt.auxStimulusEnd {v : PowerState} {s : State} (inv : PowerAt v s) :
    PowerAt v (Machine.auxStimulusEnd s) :=
  .auxMod (.queueMod inv)

theorem PowerAt.capMod {v : PowerState} {s : State} {c : Nat} {f : Capture → Capture} (inv : PowerAt v s) :
    PowerAt v (Machine.capMod s c f) :=
  inv

theorem PowerAt.auxFollow {v : PowerState} {s : State} (inv : PowerAt v s) : PowerAt v (Machine.auxFollow s) :=
  (congrArg State.pwr (auxFollow_restAux s)).trans inv

theorem PowerAt.outMod {v : PowerState} {s : State} {o : Nat} {f : Output → Output} (inv : PowerAt v s) :
    PowerAt v (Machine.outMod s o f) :=
  inv

theorem PowerAt.postOutState {v : PowerState} {s : State} {o st cause log : Nat} (inv : PowerAt v s) :
    PowerAt v (Machine.postOutState o st cause log s) :=
  .posted inv

theorem PowerAt.refreshPump {v : PowerState} {s : State} (inv : PowerAt v s) :
    PowerAt v (Machine.refreshPump s) :=
  inv

theorem PowerAt.enterOut {v : PowerState} {s : State} {o st : Nat} (inv : PowerAt v s) :
    PowerAt v (Machine.enterOut o st s) :=
  .auxFollow (.ite (.refreshPump (.outMod inv)) (.postOutState (.refreshPump (.outMod inv))))

theorem PowerAt.openChannels {v : PowerState} {s : State} (inv : PowerAt v s) :
    PowerAt v (Machine.openChannels s) :=
  inv

theorem PowerAt.askRamp {v : PowerState} {s : State} {o : Nat} {up : Bool} {tenths after cause log : Nat}
    (inv : PowerAt v s) : PowerAt v (Machine.askRamp o up tenths after cause log s) :=
  .outMod inv

theorem PowerAt.startOutput {v : PowerState} {s : State} {o tenths cause log : Nat} (inv : PowerAt v s) :
    PowerAt v (Machine.startOutput o tenths cause log s) :=
  .ite (.ite inv (.enterOut (.outMod inv))) (.ite (.ite (.outMod inv)
    (.auxFollow (.askRamp (.openChannels (.outMod inv))))) (.auxFollow (.refreshPump (.outMod inv))))

theorem PowerAt.stopDriving {v : PowerState} {s : State} {o : Nat} (inv : PowerAt v s) :
    PowerAt v (Machine.stopDriving o s) :=
  .refreshPump (.outMod inv)

theorem PowerAt.restOutput {v : PowerState} {s : State} {o : Nat} (inv : PowerAt v s) :
    PowerAt v (Machine.restOutput s o) :=
  .ite inv (.ite (.enterOut (.stopDriving (.outMod inv))) (.ite (.askRamp inv) inv))

theorem PowerAt.shelterOutput {v : PowerState} {s : State} {o : Nat} (inv : PowerAt v s) :
    PowerAt v (Machine.shelterOutput s o) :=
  .ite inv (.ite (.enterOut (.stopDriving (.outMod inv))) (.ite (.askRamp (.outMod inv)) (.ite (.outMod inv) inv)))

theorem PowerAt.outputsShelter {v : PowerState} {s : State} (inv : PowerAt v s) :
    PowerAt v (Machine.outputsShelter s) :=
  .jacksBack (.foldl inv (fun _ _ h => .shelterOutput h))

theorem PowerAt.restoreOutput {v : PowerState} {s : State} {log o : Nat} (inv : PowerAt v s) :
    PowerAt v (Machine.restoreOutput log s o) :=
  .ite inv (.ite (.outMod inv) (.ite (.startOutput (.outMod inv))
    (.ite (.askRamp (.outMod inv)) (.startOutput (.outMod inv)))))

theorem PowerAt.restoreOutputs {v : PowerState} {s : State} {log : Nat} (inv : PowerAt v s) :
    PowerAt v (Machine.restoreOutputs log s) :=
  .foldl inv (fun _ _ h => .restoreOutput h)

theorem PowerAt.outputsAfterShelter {v : PowerState} {s : State} (inv : PowerAt v s) :
    PowerAt v (Machine.outputsAfterShelter s) :=
  .serveJacks (.ite (.restoreOutputs inv) inv)

theorem PowerAt.outputsRest {v : PowerState} {s : State} (inv : PowerAt v s) :
    PowerAt v (Machine.outputsRest s) :=
  .foldl inv (fun _ _ h => .restOutput h)

theorem PowerAt.outputsSleep {v : PowerState} {s : State} (inv : PowerAt v s) :
    PowerAt v (Machine.outputsSleep s) :=
  .refreshPump (.foldl inv (fun _ _ h => .outMod h))

theorem PowerAt.outputsWake {v : PowerState} {s : State} (inv : PowerAt v s) :
    PowerAt v (Machine.outputsWake s) :=
  .foldl inv (fun _ _ h => .ite (.ite (.outMod h) (.startOutput h)) h)

theorem PowerAt.postOutFault {v : PowerState} {s : State} {o cause : Nat} (inv : PowerAt v s) :
    PowerAt v (Machine.postOutFault o cause s) :=
  .posted inv

theorem PowerAt.netMod {v : PowerState} {s : State} {f : NetState → NetState} (inv : PowerAt v s) :
    PowerAt v (Machine.netMod s f) :=
  inv

theorem PowerAt.streamMod {v : PowerState} {s : State} {n : Nat} {f : Machine.Stream → Machine.Stream}
    (inv : PowerAt v s) : PowerAt v (Machine.streamMod s n f) :=
  .netMod inv

theorem PowerAt.domMod {v : PowerState} {s : State} {d : Nat} {f : Domain → Domain} (inv : PowerAt v s) :
    PowerAt v (Machine.domMod s d f) :=
  inv

theorem PowerAt.convMod {v : PowerState} {s : State} {k : Nat} {f : Convoy → Convoy} (inv : PowerAt v s) :
    PowerAt v (Machine.convMod s k f) :=
  inv

theorem PowerAt.memMod {v : PowerState} {s : State} {k m : Nat} {f : Member → Member} (inv : PowerAt v s) :
    PowerAt v (Machine.memMod s k m f) :=
  .convMod inv

theorem PowerAt.pllMod {v : PowerState} {s : State} {p : Nat} {f : Pll → Pll} (inv : PowerAt v s) :
    PowerAt v (Machine.pllMod s p f) :=
  .ite inv inv

theorem PowerAt.postMuted {v : PowerState} {s : State} {k members cause log : Nat} (inv : PowerAt v s) :
    PowerAt v (Machine.postMuted k members cause log s) :=
  .ite (.posted (.convMod (.pairIte (.drawElapsed (.convMod inv)) (.convMod inv))))
    (.pairIte (.drawElapsed (.convMod inv)) (.convMod inv))

theorem PowerAt.convCount {v : PowerState} {s : State} {k i : Nat} (inv : PowerAt v s) :
    PowerAt v (Machine.convCount k i s) :=
  .convMod inv

theorem PowerAt.muteConvoy {v : PowerState} {s : State} {log k : Nat} (inv : PowerAt v s) :
    PowerAt v (Machine.muteConvoy log s k) :=
  .ite inv (.postMuted (.convCount (.convMod inv)))

theorem PowerAt.postPll {v : PowerState} {s : State} {p log : Nat} (inv : PowerAt v s) :
    PowerAt v (Machine.postPll p log s) :=
  .posted inv

theorem PowerAt.setPllMode {v : PowerState} {s : State} {p mode log : Nat} (inv : PowerAt v s) :
    PowerAt v (Machine.setPllMode p mode log s) :=
  .ite (.pllMod inv) (.ite inv (.postPll (.pllMod inv)))

theorem PowerAt.pllsFollow {v : PowerState} {s : State} {d log : Nat} (inv : PowerAt v s) :
    PowerAt v (Machine.pllsFollow d log s) :=
  .foldl inv (fun _ _ h => .ite (.ite (.setPllMode h) (.ite (.setPllMode h) h)) h)

theorem PowerAt.leaveLocked {v : PowerState} {s : State} {d cause log : Nat} (inv : PowerAt v s) :
    PowerAt v (Machine.leaveLocked d cause log s) :=
  .pllsFollow (.foldl (.posted inv) (fun _ _ h => .muteConvoy h))

theorem PowerAt.unlockFor {v : PowerState} {s : State} {d cause log : Nat} (inv : PowerAt v s) :
    PowerAt v (Machine.unlockFor d cause log s) :=
  .ite inv (.ite (.leaveLocked (.domMod inv)) (.domMod inv))

theorem PowerAt.startMember {v : PowerState} {s : State} {k m : Nat} (inv : PowerAt v s) :
    PowerAt v (Machine.startMember k m s) :=
  .ite inv (.memMod inv)

theorem PowerAt.relayMod {v : PowerState} {s : State} {f : Relay → Relay} (inv : PowerAt v s) :
    PowerAt v (Machine.relayMod s f) :=
  inv

theorem PowerAt.modMod {v : PowerState} {s : State} {m : Nat} {f : Modulator → Modulator} (inv : PowerAt v s)
    : PowerAt v (Machine.modMod s m f) :=
  inv

theorem PowerAt.postRelay {v : PowerState} {s : State} {code inst data : Nat} (inv : PowerAt v s) :
    PowerAt v (Machine.postRelay code inst data s) :=
  .posted inv

theorem PowerAt.endRotation {v : PowerState} {s : State} {completed : Bool} (inv : PowerAt v s) :
    PowerAt v (Machine.endRotation completed s) :=
  .postRelay (.relayMod inv)

theorem PowerAt.endStep {v : PowerState} {s : State} (inv : PowerAt v s) :
    PowerAt v (Machine.endStep s) := by
  unfold Machine.endStep
  refine .relayMod ?_
  split
  · exact .ite (.modMod inv) inv
  · exact inv

theorem PowerAt.abortStep {v : PowerState} {s : State} {cause : Nat} (inv : PowerAt v s) :
    PowerAt v (Machine.abortStep cause s) :=
  .postRelay (.endStep inv)

theorem PowerAt.relayShelter {v : PowerState} {s : State} (inv : PowerAt v s) :
    PowerAt v (Machine.relayShelter s) :=
  .ite (.relayMod (.abortStep inv)) inv

theorem PowerAt.relayRest {v : PowerState} {s : State} (inv : PowerAt v s) :
    PowerAt v (Machine.relayRest s) :=
  .ite inv (.ite inv (.endRotation (.ite (.abortStep inv) inv)))

theorem PowerAt.wakeCaptures {v : PowerState} {s : State} (inv : PowerAt v s) :
    PowerAt v (Machine.wakeCaptures s) :=
  .foldl inv (fun _ _ h => .ite (.capMod h) h)

theorem PowerAt.disarm {v : PowerState} {s : State} {chs : List Nat} (inv : PowerAt v s) :
    PowerAt v (Machine.disarm chs s) :=
  .foldl inv (fun _ _ h => .capMod h)

theorem PowerAt.disarmAll {v : PowerState} {s : State} (inv : PowerAt v s) : PowerAt v (Machine.disarmAll s) := by
  have disarmed : PowerAt v (Machine.disarm (List.range 16) s) := .disarm inv
  unfold Machine.disarmAll
  generalize Machine.disarm (List.range 16) s = t at disarmed ⊢
  exact disarmed

theorem PowerAt.saiMod {v : PowerState} {s : State} {n : Nat} {f : Sai → Sai} (inv : PowerAt v s) :
    PowerAt v (Machine.saiMod s n f) :=
  inv

theorem PowerAt.spdifPins {v : PowerState} {s : State} (inv : PowerAt v s) :
    PowerAt v (Machine.spdifPins s) :=
  inv

theorem PowerAt.serialFault {v : PowerState} {s : State} (inv : PowerAt v s) :
    PowerAt v (Machine.serialFault s) := by
  unfold Machine.serialFault
  dsimp only
  exact .foldl inv (fun _ _ h => .saiMod h)

theorem PowerAt.serialDrive {v : PowerState} {s : State} (inv : PowerAt v s) :
    PowerAt v (Machine.serialDrive s) :=
  .spdifPins (.foldl inv (fun _ _ h => .saiMod h))

theorem PowerAt.serialRest {v : PowerState} {s : State} (inv : PowerAt v s) :
    PowerAt v (Machine.serialRest s) := by
  unfold Machine.serialRest
  dsimp only
  exact .foldl inv (fun _ _ h => .saiMod h)

theorem PowerAt.macMod {v : PowerState} {s : State} {f : Mac → Mac} (inv : PowerAt v s) :
    PowerAt v (Machine.macMod s f) :=
  inv

theorem PowerAt.phyReset {v : PowerState} {s : State} {low : Bool} (inv : PowerAt v s) :
    PowerAt v (Machine.phyReset low s) :=
  .macMod inv

theorem PowerAt.postEthFor {v : PowerState} {s : State} {log code inst data : Nat} (inv : PowerAt v s) :
    PowerAt v (Machine.postEthFor log code inst data s) :=
  .posted inv

theorem PowerAt.postEth {v : PowerState} {s : State} {code inst data : Nat} (inv : PowerAt v s) :
    PowerAt v (Machine.postEth code inst data s) :=
  .postEthFor inv

theorem PowerAt.halfSet {v : PowerState} {s : State} {g i : Nat} (inv : PowerAt v s) :
    PowerAt v (Machine.halfSet g i s) :=
  .ite (.macMod (.macMod inv)) (.postEth (.macMod (.macMod inv)))

theorem PowerAt.macAdd {v : PowerState} {s : State} {g i n : Nat} (inv : PowerAt v s) :
    PowerAt v (Machine.macAdd g i n s) :=
  .ite (.halfSet (.macMod inv)) (.macMod inv)

theorem PowerAt.macCount {v : PowerState} {s : State} {g i : Nat} (inv : PowerAt v s) :
    PowerAt v (Machine.macCount g i s) :=
  .macAdd inv

theorem PowerAt.offerControl {v : PowerState} {s : State} {kind : Nat} {dest : List Byte} {type : Nat}
    {body : List Byte} (inv : PowerAt v s) : PowerAt v (Machine.offerControl kind dest type body s) :=
  .ite inv (.ite (.macCount inv) (.ite (.macCount inv) (.macMod inv)))

theorem PowerAt.freeField {v : PowerState} {s : State} {n : Nat} (inv : PowerAt v s) :
    PowerAt v (Machine.freeField n s).2 :=
  inv

theorem PowerAt.streamCount {v : PowerState} {s : State} {n i : Nat} (inv : PowerAt v s) :
    PowerAt v (Machine.streamCount n i s) :=
  .netMod inv

theorem PowerAt.crfCount {v : PowerState} {s : State} {n i : Nat} (inv : PowerAt v s) :
    PowerAt v (Machine.crfCount n i s) :=
  .netMod inv

theorem PowerAt.sendFrame {v : PowerState} {s : State} {f : TxFrame} (inv : PowerAt v s) :
    PowerAt v (Machine.sendFrame f s) := by
  unfold Machine.sendFrame
  split
  · split
    · split
      · exact .macCount (.macCount (.macCount (.macCount (.macCount (.macAdd (.macMod inv))))))
      · exact .macCount (.macCount (.macCount (.macCount (.macCount (.macAdd (.macMod inv))))))
      · exact .macCount (.ite (.streamCount (.macCount (.macCount (.macCount (.macCount (.macAdd (.macMod inv)))))))
          (.crfCount (.macCount (.macCount (.macCount (.macCount (.macAdd (.macMod inv))))))))
    · split
      · exact .macCount (.macCount (.macCount (.macCount (.macAdd (.macMod inv)))))
      · exact .macCount (.macCount (.macCount (.macCount (.macAdd (.macMod inv)))))
      · exact .macCount (.ite (.streamCount (.macCount (.macCount (.macCount (.macAdd (.macMod inv))))))
          (.crfCount (.macCount (.macCount (.macCount (.macAdd (.macMod inv)))))))
  · split
    · split
      · exact .macCount (.macCount (.macCount (.macCount (.macAdd (.macMod inv)))))
      · exact .macCount (.macCount (.macCount (.macCount (.macAdd (.macMod inv)))))
      · exact .macCount (.ite (.streamCount (.macCount (.macCount (.macCount (.macAdd (.macMod inv))))))
          (.crfCount (.macCount (.macCount (.macCount (.macAdd (.macMod inv)))))))
    · split
      · exact .macCount (.macCount (.macCount (.macAdd (.macMod inv))))
      · exact .macCount (.macCount (.macCount (.macAdd (.macMod inv))))
      · exact .macCount (.ite (.streamCount (.macCount (.macCount (.macAdd (.macMod inv)))))
          (.crfCount (.macCount (.macCount (.macAdd (.macMod inv))))))

theorem PowerAt.postPause {v : PowerState} {s : State} {data : Nat} (inv : PowerAt v s) :
    PowerAt v (Machine.postPause data s) :=
  .ite (.postEth (.macMod (.pairIte (.drawElapsed inv) inv))) (.pairIte (.drawElapsed inv) inv)

theorem PowerAt.endPause {v : PowerState} {s : State} {zero : Bool} (inv : PowerAt v s) :
    PowerAt v (Machine.endPause zero s) :=
  .ite (.postPause (.macMod inv)) inv

theorem PowerAt.crfMod {v : PowerState} {s : State} {k : Nat} {f : Machine.Stream → Machine.Stream}
    (inv : PowerAt v s) : PowerAt v (Machine.crfMod s k f) :=
  .netMod inv

theorem PowerAt.dropReference {v : PowerState} {s : State} {kind i log : Nat} (inv : PowerAt v s) :
    PowerAt v (Machine.dropReference kind i log s) :=
  .foldl inv (fun _ _ h => .ite (.unlockFor h) h)

theorem PowerAt.enterStream {v : PowerState} {s : State} {n st cause log : Nat} (inv : PowerAt v s) :
    PowerAt v (Machine.enterStream n st cause log s) :=
  .ite inv (.ite (.dropReference (.posted (.streamMod inv))) (.posted (.streamMod inv)))

theorem PowerAt.enterCrf {v : PowerState} {s : State} {k st log : Nat} (inv : PowerAt v s) :
    PowerAt v (Machine.enterCrf k st log s) :=
  .ite inv (.ite (.dropReference (.postEthFor (.crfMod inv))) (.postEthFor (.crfMod inv)))

theorem PowerAt.refreshStream {v : PowerState} {s : State} {cause log n : Nat} (inv : PowerAt v s) :
    PowerAt v (Machine.refreshStream cause log s n) :=
  .ite (.enterStream inv) inv

theorem PowerAt.refreshCrf {v : PowerState} {s : State} {log k : Nat} (inv : PowerAt v s) :
    PowerAt v (Machine.refreshCrf log s k) :=
  .ite (.enterCrf inv) inv

theorem PowerAt.refreshStreams {v : PowerState} {s : State} {cause log : Nat} (inv : PowerAt v s) :
    PowerAt v (Machine.refreshStreams cause log s) :=
  .foldl (.foldl inv (fun _ _ h => .refreshStream h)) (fun _ _ h => .refreshCrf h)

theorem PowerAt.gptpMod {v : PowerState} {s : State} {f : Gptp → Gptp} (inv : PowerAt v s) :
    PowerAt v (Machine.gptpMod s f) :=
  inv

theorem PowerAt.adpSend {v : PowerState} {s : State} {message : Nat} (inv : PowerAt v s) :
    PowerAt v (Machine.adpSend message s) :=
  .ite inv (.offerControl (.netMod (.freeField (.freeField inv))))

theorem PowerAt.departing {v : PowerState} {s : State} (inv : PowerAt v s) :
    PowerAt v (Machine.departing s) := by
  unfold Machine.departing
  dsimp only
  split
  · exact .adpSend inv
  · exact .sendFrame (.macMod (.adpSend inv))

theorem PowerAt.enterGptp {v : PowerState} {s : State} {st cause log : Nat} (inv : PowerAt v s) :
    PowerAt v (Machine.enterGptp st cause log s) :=
  .ite inv (.refreshStreams (.postEthFor (.gptpMod inv)))

theorem PowerAt.postLink {v : PowerState} {s : State} {up : Bool} {cause log : Nat} (inv : PowerAt v s) :
    PowerAt v (Machine.postLink up cause log s) :=
  .postEthFor inv

theorem PowerAt.linkGoesDown {v : PowerState} {s : State} {cause log : Nat} (inv : PowerAt v s) :
    PowerAt v (Machine.linkGoesDown cause log s) :=
  .ite inv (.enterGptp (.gptpMod (.netMod (.endPause (.postLink
    (.ite (.macCount (.macAdd (.macMod inv))) (.macAdd (.macMod inv))))))))

theorem PowerAt.measMod {v : PowerState} {s : State} {f : MeasState → MeasState} (inv : PowerAt v s) :
    PowerAt v (Machine.measMod s f) :=
  inv

theorem PowerAt.sarMod {v : PowerState} {s : State} {c : Nat} {f : Sar → Sar} (inv : PowerAt v s) :
    PowerAt v (Machine.sarMod s c f) :=
  .ite (.measMod inv) (.measMod inv)

theorem PowerAt.measCount {v : PowerState} {s : State} {i : Nat} (inv : PowerAt v s) :
    PowerAt v (Machine.measCount i s) :=
  .measMod inv

theorem PowerAt.sarStart {v : PowerState} {s : State} {c source channel index : Nat} {overrun : Bool}
    (inv : PowerAt v s) : PowerAt v (Machine.sarStart c source channel index overrun s) :=
  .sarMod inv

theorem PowerAt.startInjected {v : PowerState} {s : State} (inv : PowerAt v s) :
    PowerAt v (Machine.startInjected s) := by
  unfold Machine.startInjected
  split
  · exact .ite (.measMod (.sarStart inv)) inv
  · exact inv

theorem PowerAt.startPair {v : PowerState} {s : State} (inv : PowerAt v s) :
    PowerAt v (Machine.startPair s) := by
  unfold Machine.startPair
  split
  · exact inv
  · exact .ite (.measMod (.sarStart (.sarStart inv))) inv

theorem PowerAt.takeSystem {v : PowerState} {s : State} (inv : PowerAt v s) :
    PowerAt v (Machine.takeSystem s) := by
  unfold Machine.takeSystem
  split
  · exact inv
  · exact .ite (.measMod inv) inv

theorem PowerAt.startRegular {v : PowerState} {s : State} (inv : PowerAt v s) :
    PowerAt v (Machine.startRegular s) := by
  unfold Machine.startRegular
  refine .ite ?_ (.ite ?_ inv)
  · split
    · exact inv
    · refine .ite inv (.ite (.ite (.measMod (.sarStart (.sarStart inv))) inv) ?_)
      split
      · exact .measMod (.sarStart inv)
      · exact inv
  · split
    · exact .measMod (.sarStart inv)
    · exact inv

theorem PowerAt.resumeRegular {v : PowerState} {s : State} (inv : PowerAt v s) :
    PowerAt v (Machine.resumeRegular s) :=
  .ite inv (.measMod inv)

theorem PowerAt.sarNext {v : PowerState} {s : State} (inv : PowerAt v s) :
    PowerAt v (Machine.sarNext s) :=
  .ite inv (.startRegular (.startRegular (.takeSystem (.resumeRegular (.startPair (.startInjected inv))))))

theorem PowerAt.scanBegin {v : PowerState} {s : State} (inv : PowerAt v s) :
    PowerAt v (Machine.scanBegin s) :=
  .measMod inv

theorem PowerAt.scanEnds {v : PowerState} {s : State} (inv : PowerAt v s) :
    PowerAt v (Machine.scanEnds s) :=
  .ite (.ite (.measMod inv) (.ite (.ite (.scanBegin inv) (.measMod inv)) (.measMod inv))) inv

theorem PowerAt.postOverrun {v : PowerState} {s : State} {i : Nat} (inv : PowerAt v s) :
    PowerAt v (Machine.postOverrun i s) :=
  .ite (.posted (.measMod (.pairIte (.drawElapsed (.measMod inv)) (.measMod inv))))
    (.pairIte (.drawElapsed (.measMod inv)) (.measMod inv))

theorem PowerAt.scanOverruns {v : PowerState} {s : State} (inv : PowerAt v s) :
    PowerAt v (Machine.scanOverruns s) :=
  .postOverrun (.measCount (.measMod inv))

theorem PowerAt.scanTrigger {v : PowerState} {s : State} (inv : PowerAt v s) :
    PowerAt v (Machine.scanTrigger s) :=
  .ite (.scanOverruns inv) (.ite (.ite (.scanOverruns inv) (.measMod inv)) (.sarNext (.scanEnds (.scanBegin inv))))

theorem PowerAt.measRest {v : PowerState} {s : State} (inv : PowerAt v s) :
    PowerAt v (Machine.measRest s) :=
  .measMod inv

theorem PowerAt.scanGoesOn {v : PowerState} {s : State} (inv : PowerAt v s) :
    PowerAt v (Machine.scanGoesOn s) :=
  .ite (.scanTrigger inv) inv

theorem PowerAt.twSet {v : PowerState} {s : State} {p : Fin 2} {t : TwPort} (inv : PowerAt v s) :
    PowerAt v (Machine.twSet s p t) :=
  .ite inv inv

theorem PowerAt.twMod {v : PowerState} {s : State} {p : Fin 2} {f : TwPort → TwPort} (inv : PowerAt v s) :
    PowerAt v (Machine.twMod s p f) :=
  .twSet inv

theorem PowerAt.resumeTick {v : PowerState} {s : State} (inv : PowerAt v s) :
    PowerAt v (Machine.resumeTick s) :=
  inv

theorem PowerAt.membersIdle {v : PowerState} {s : State} (inv : PowerAt v s) :
    PowerAt v (Machine.membersIdle s) :=
  inv

theorem PowerAt.membersStart {v : PowerState} {s : State} (inv : PowerAt v s) :
    PowerAt v (Machine.membersStart s) :=
  .foldl inv (fun _ _ h => .foldl h (fun _ _ h => .ite (.startMember h) h))

theorem PowerAt.analogueRestart {v : PowerState} {s : State} (inv : PowerAt v s) :
    PowerAt v (Machine.analogueRestart s) :=
  .foldl inv (fun _ _ h => .ite (.capMod h) h)

theorem PowerAt.postPowerState {v : PowerState} {s : State} {prev cause log : Nat} (inv : PowerAt v s) :
    PowerAt v (Machine.postPowerState prev cause log s) :=
  .posted inv

theorem PowerAt.transitionDone {v : PowerState} {s : State} {t : Transition} {prev : Nat} (inv : PowerAt v s)
    : PowerAt v (Machine.transitionDone t prev s) :=
  .postPowerState (.completed inv)

theorem PowerAt.dropAwaiting {v : PowerState} {s : State} (inv : PowerAt v s) :
    PowerAt v (Machine.dropAwaiting s) :=
  .foldl inv (fun _ _ h => .outMod h)

theorem PowerAt.jacksRest {v : PowerState} {s : State} (inv : PowerAt v s) :
    PowerAt v (Machine.jacksRest s) :=
  .auxStimulusEnd (.jackMod (.jackMod inv))

theorem PowerAt.postThermal {v : PowerState} {s : State} {what : Nat} {t20 : ℤ} (inv : PowerAt v s) :
    PowerAt v (Machine.postThermal what t20 s) :=
  .posted inv

theorem PowerAt.recordHeat {v : PowerState} {s : State} {t20 : ℤ} (inv : PowerAt v s) :
    PowerAt v (Machine.recordHeat t20 s) :=
  .ite (.spanMod inv) inv

theorem PowerAt.thermalOutput {v : PowerState} {s : State} {o : Nat} (inv : PowerAt v s) :
    PowerAt v (Machine.thermalOutput s o) :=
  .refreshPump (.outMod (.stopDriving inv))

theorem PowerAt.thermalReturn {v : PowerState} {s : State} {o : Nat} (inv : PowerAt v s) :
    PowerAt v (Machine.thermalReturn s o) :=
  .ite inv (.enterOut (.outMod inv))

theorem PowerAt.thermalFault {v : PowerState} {s : State} {o : Nat} (inv : PowerAt v s) :
    PowerAt v (Machine.thermalFault s o) :=
  .postOutFault (.outMod inv)
/-- The engine. -/
def EngineAt (v : EngineState) (s : State) : Prop := s.eng = v

theorem EngineAt.ite {v : EngineState} {c : Prop} {dec : Decidable c} {s t : State} (hs : EngineAt v s)
    (ht : EngineAt v t) : EngineAt v (if c then s else t) := by
  split
  · exact hs
  · exact ht

theorem EngineAt.pairIte {v : EngineState} {α : Type} {c : Prop} {dec : Decidable c} {x y : α × State}
    (hx : EngineAt v x.2) (hy : EngineAt v y.2) : EngineAt v (if c then x else y).2 := by
  split
  · exact hx
  · exact hy

theorem EngineAt.foldl {v : EngineState} {s : State} {β : Type} {f : State → β → State} {l : List β}
    (inv : EngineAt v s) (h : ∀ t x, EngineAt v t → EngineAt v (f t x)) :
    EngineAt v (l.foldl f s) :=
  foldl_inv (fun t : State => EngineAt v t) f h l s inv

theorem EngineAt.posted {v : EngineState} {s : State} {code inst log data : Nat} {cn : Concern}
    (inv : EngineAt v s) : EngineAt v (Machine.post code inst log data cn s) := by
  simpa [EngineAt] using inv

theorem EngineAt.completed {v : EngineState} {s : State} {x : Waiter} {st : Nat} (inv : EngineAt v s) :
    EngineAt v (Machine.complete x st s) := by
  simpa [EngineAt] using inv

theorem EngineAt.drawElapsed {v : EngineState} {s : State} (inv : EngineAt v s) :
    EngineAt v (Machine.drawElapsed s).2 :=
  inv

theorem EngineAt.auxFollow {v : EngineState} {s : State} (inv : EngineAt v s) : EngineAt v (Machine.auxFollow s) :=
  (congrArg State.eng (auxFollow_restAux s)).trans inv

theorem EngineAt.outMod {v : EngineState} {s : State} {o : Nat} {f : Output → Output} (inv : EngineAt v s) :
    EngineAt v (Machine.outMod s o f) :=
  inv

theorem EngineAt.postOutState {v : EngineState} {s : State} {o st cause log : Nat} (inv : EngineAt v s) :
    EngineAt v (Machine.postOutState o st cause log s) :=
  .posted inv

theorem EngineAt.refreshPump {v : EngineState} {s : State} (inv : EngineAt v s) :
    EngineAt v (Machine.refreshPump s) :=
  inv

theorem EngineAt.enterOut {v : EngineState} {s : State} {o st : Nat} (inv : EngineAt v s) :
    EngineAt v (Machine.enterOut o st s) :=
  .auxFollow (.ite (.refreshPump (.outMod inv)) (.postOutState (.refreshPump (.outMod inv))))

theorem EngineAt.stopDriving {v : EngineState} {s : State} {o : Nat} (inv : EngineAt v s) :
    EngineAt v (Machine.stopDriving o s) :=
  .refreshPump (.outMod inv)

theorem EngineAt.postOutFault {v : EngineState} {s : State} {o cause : Nat} (inv : EngineAt v s) :
    EngineAt v (Machine.postOutFault o cause s) :=
  .posted inv

theorem EngineAt.netMod {v : EngineState} {s : State} {f : NetState → NetState} (inv : EngineAt v s) :
    EngineAt v (Machine.netMod s f) :=
  inv

theorem EngineAt.streamMod {v : EngineState} {s : State} {n : Nat} {f : Machine.Stream → Machine.Stream}
    (inv : EngineAt v s) : EngineAt v (Machine.streamMod s n f) :=
  .netMod inv

theorem EngineAt.domMod {v : EngineState} {s : State} {d : Nat} {f : Domain → Domain} (inv : EngineAt v s) :
    EngineAt v (Machine.domMod s d f) :=
  inv

theorem EngineAt.convMod {v : EngineState} {s : State} {k : Nat} {f : Convoy → Convoy} (inv : EngineAt v s) :
    EngineAt v (Machine.convMod s k f) :=
  inv

theorem EngineAt.pllMod {v : EngineState} {s : State} {p : Nat} {f : Pll → Pll} (inv : EngineAt v s) :
    EngineAt v (Machine.pllMod s p f) :=
  .ite inv inv

theorem EngineAt.postMuted {v : EngineState} {s : State} {k members cause log : Nat} (inv : EngineAt v s) :
    EngineAt v (Machine.postMuted k members cause log s) :=
  .ite (.posted (.convMod (.pairIte (.drawElapsed (.convMod inv)) (.convMod inv))))
    (.pairIte (.drawElapsed (.convMod inv)) (.convMod inv))

theorem EngineAt.convCount {v : EngineState} {s : State} {k i : Nat} (inv : EngineAt v s) :
    EngineAt v (Machine.convCount k i s) :=
  .convMod inv

theorem EngineAt.muteConvoy {v : EngineState} {s : State} {log k : Nat} (inv : EngineAt v s) :
    EngineAt v (Machine.muteConvoy log s k) :=
  .ite inv (.postMuted (.convCount (.convMod inv)))

theorem EngineAt.postPll {v : EngineState} {s : State} {p log : Nat} (inv : EngineAt v s) :
    EngineAt v (Machine.postPll p log s) :=
  .posted inv

theorem EngineAt.setPllMode {v : EngineState} {s : State} {p mode log : Nat} (inv : EngineAt v s) :
    EngineAt v (Machine.setPllMode p mode log s) :=
  .ite (.pllMod inv) (.ite inv (.postPll (.pllMod inv)))

theorem EngineAt.pllsFollow {v : EngineState} {s : State} {d log : Nat} (inv : EngineAt v s) :
    EngineAt v (Machine.pllsFollow d log s) :=
  .foldl inv (fun _ _ h => .ite (.ite (.setPllMode h) (.ite (.setPllMode h) h)) h)

theorem EngineAt.leaveLocked {v : EngineState} {s : State} {d cause log : Nat} (inv : EngineAt v s) :
    EngineAt v (Machine.leaveLocked d cause log s) :=
  .pllsFollow (.foldl (.posted inv) (fun _ _ h => .muteConvoy h))

theorem EngineAt.unlockFor {v : EngineState} {s : State} {d cause log : Nat} (inv : EngineAt v s) :
    EngineAt v (Machine.unlockFor d cause log s) :=
  .ite inv (.ite (.leaveLocked (.domMod inv)) (.domMod inv))

theorem EngineAt.saiMod {v : EngineState} {s : State} {n : Nat} {f : Sai → Sai} (inv : EngineAt v s) :
    EngineAt v (Machine.saiMod s n f) :=
  inv

theorem EngineAt.spdifPins {v : EngineState} {s : State} (inv : EngineAt v s) :
    EngineAt v (Machine.spdifPins s) :=
  inv

theorem EngineAt.serialFault {v : EngineState} {s : State} (inv : EngineAt v s) :
    EngineAt v (Machine.serialFault s) := by
  unfold Machine.serialFault
  dsimp only
  exact .foldl inv (fun _ _ h => .saiMod h)

theorem EngineAt.serialDrive {v : EngineState} {s : State} (inv : EngineAt v s) :
    EngineAt v (Machine.serialDrive s) :=
  .spdifPins (.foldl inv (fun _ _ h => .saiMod h))

theorem EngineAt.macMod {v : EngineState} {s : State} {f : Mac → Mac} (inv : EngineAt v s) :
    EngineAt v (Machine.macMod s f) :=
  inv

theorem EngineAt.phyReset {v : EngineState} {s : State} {low : Bool} (inv : EngineAt v s) :
    EngineAt v (Machine.phyReset low s) :=
  .macMod inv

theorem EngineAt.postEthFor {v : EngineState} {s : State} {log code inst data : Nat} (inv : EngineAt v s) :
    EngineAt v (Machine.postEthFor log code inst data s) :=
  .posted inv

theorem EngineAt.postEth {v : EngineState} {s : State} {code inst data : Nat} (inv : EngineAt v s) :
    EngineAt v (Machine.postEth code inst data s) :=
  .postEthFor inv

theorem EngineAt.halfSet {v : EngineState} {s : State} {g i : Nat} (inv : EngineAt v s) :
    EngineAt v (Machine.halfSet g i s) :=
  .ite (.macMod (.macMod inv)) (.postEth (.macMod (.macMod inv)))

theorem EngineAt.macAdd {v : EngineState} {s : State} {g i n : Nat} (inv : EngineAt v s) :
    EngineAt v (Machine.macAdd g i n s) :=
  .ite (.halfSet (.macMod inv)) (.macMod inv)

theorem EngineAt.macCount {v : EngineState} {s : State} {g i : Nat} (inv : EngineAt v s) :
    EngineAt v (Machine.macCount g i s) :=
  .macAdd inv

theorem EngineAt.offerControl {v : EngineState} {s : State} {kind : Nat} {dest : List Byte} {type : Nat}
    {body : List Byte} (inv : EngineAt v s) : EngineAt v (Machine.offerControl kind dest type body s) :=
  .ite inv (.ite (.macCount inv) (.ite (.macCount inv) (.macMod inv)))

theorem EngineAt.freeField {v : EngineState} {s : State} {n : Nat} (inv : EngineAt v s) :
    EngineAt v (Machine.freeField n s).2 :=
  inv

theorem EngineAt.streamCount {v : EngineState} {s : State} {n i : Nat} (inv : EngineAt v s) :
    EngineAt v (Machine.streamCount n i s) :=
  .netMod inv

theorem EngineAt.crfCount {v : EngineState} {s : State} {n i : Nat} (inv : EngineAt v s) :
    EngineAt v (Machine.crfCount n i s) :=
  .netMod inv

theorem EngineAt.sendFrame {v : EngineState} {s : State} {f : TxFrame} (inv : EngineAt v s) :
    EngineAt v (Machine.sendFrame f s) := by
  unfold Machine.sendFrame
  split
  · split
    · split
      · exact .macCount (.macCount (.macCount (.macCount (.macCount (.macAdd (.macMod inv))))))
      · exact .macCount (.macCount (.macCount (.macCount (.macCount (.macAdd (.macMod inv))))))
      · exact .macCount (.ite (.streamCount (.macCount (.macCount (.macCount (.macCount (.macAdd (.macMod inv)))))))
          (.crfCount (.macCount (.macCount (.macCount (.macCount (.macAdd (.macMod inv))))))))
    · split
      · exact .macCount (.macCount (.macCount (.macCount (.macAdd (.macMod inv)))))
      · exact .macCount (.macCount (.macCount (.macCount (.macAdd (.macMod inv)))))
      · exact .macCount (.ite (.streamCount (.macCount (.macCount (.macCount (.macAdd (.macMod inv))))))
          (.crfCount (.macCount (.macCount (.macCount (.macAdd (.macMod inv)))))))
  · split
    · split
      · exact .macCount (.macCount (.macCount (.macCount (.macAdd (.macMod inv)))))
      · exact .macCount (.macCount (.macCount (.macCount (.macAdd (.macMod inv)))))
      · exact .macCount (.ite (.streamCount (.macCount (.macCount (.macCount (.macAdd (.macMod inv))))))
          (.crfCount (.macCount (.macCount (.macCount (.macAdd (.macMod inv)))))))
    · split
      · exact .macCount (.macCount (.macCount (.macAdd (.macMod inv))))
      · exact .macCount (.macCount (.macCount (.macAdd (.macMod inv))))
      · exact .macCount (.ite (.streamCount (.macCount (.macCount (.macAdd (.macMod inv)))))
          (.crfCount (.macCount (.macCount (.macAdd (.macMod inv))))))

theorem EngineAt.postPause {v : EngineState} {s : State} {data : Nat} (inv : EngineAt v s) :
    EngineAt v (Machine.postPause data s) :=
  .ite (.postEth (.macMod (.pairIte (.drawElapsed inv) inv))) (.pairIte (.drawElapsed inv) inv)

theorem EngineAt.endPause {v : EngineState} {s : State} {zero : Bool} (inv : EngineAt v s) :
    EngineAt v (Machine.endPause zero s) :=
  .ite (.postPause (.macMod inv)) inv

theorem EngineAt.crfMod {v : EngineState} {s : State} {k : Nat} {f : Machine.Stream → Machine.Stream}
    (inv : EngineAt v s) : EngineAt v (Machine.crfMod s k f) :=
  .netMod inv

theorem EngineAt.dropReference {v : EngineState} {s : State} {kind i log : Nat} (inv : EngineAt v s) :
    EngineAt v (Machine.dropReference kind i log s) :=
  .foldl inv (fun _ _ h => .ite (.unlockFor h) h)

theorem EngineAt.enterStream {v : EngineState} {s : State} {n st cause log : Nat} (inv : EngineAt v s) :
    EngineAt v (Machine.enterStream n st cause log s) :=
  .ite inv (.ite (.dropReference (.posted (.streamMod inv))) (.posted (.streamMod inv)))

theorem EngineAt.enterCrf {v : EngineState} {s : State} {k st log : Nat} (inv : EngineAt v s) :
    EngineAt v (Machine.enterCrf k st log s) :=
  .ite inv (.ite (.dropReference (.postEthFor (.crfMod inv))) (.postEthFor (.crfMod inv)))

theorem EngineAt.refreshStream {v : EngineState} {s : State} {cause log n : Nat} (inv : EngineAt v s) :
    EngineAt v (Machine.refreshStream cause log s n) :=
  .ite (.enterStream inv) inv

theorem EngineAt.refreshCrf {v : EngineState} {s : State} {log k : Nat} (inv : EngineAt v s) :
    EngineAt v (Machine.refreshCrf log s k) :=
  .ite (.enterCrf inv) inv

theorem EngineAt.refreshStreams {v : EngineState} {s : State} {cause log : Nat} (inv : EngineAt v s) :
    EngineAt v (Machine.refreshStreams cause log s) :=
  .foldl (.foldl inv (fun _ _ h => .refreshStream h)) (fun _ _ h => .refreshCrf h)

theorem EngineAt.gptpMod {v : EngineState} {s : State} {f : Gptp → Gptp} (inv : EngineAt v s) :
    EngineAt v (Machine.gptpMod s f) :=
  inv

theorem EngineAt.adpSend {v : EngineState} {s : State} {message : Nat} (inv : EngineAt v s) :
    EngineAt v (Machine.adpSend message s) :=
  .ite inv (.offerControl (.netMod (.freeField (.freeField inv))))

theorem EngineAt.departing {v : EngineState} {s : State} (inv : EngineAt v s) :
    EngineAt v (Machine.departing s) := by
  unfold Machine.departing
  dsimp only
  split
  · exact .adpSend inv
  · exact .sendFrame (.macMod (.adpSend inv))

theorem EngineAt.enterGptp {v : EngineState} {s : State} {st cause log : Nat} (inv : EngineAt v s) :
    EngineAt v (Machine.enterGptp st cause log s) :=
  .ite inv (.refreshStreams (.postEthFor (.gptpMod inv)))

theorem EngineAt.postLink {v : EngineState} {s : State} {up : Bool} {cause log : Nat} (inv : EngineAt v s) :
    EngineAt v (Machine.postLink up cause log s) :=
  .postEthFor inv

theorem EngineAt.linkGoesDown {v : EngineState} {s : State} {cause log : Nat} (inv : EngineAt v s) :
    EngineAt v (Machine.linkGoesDown cause log s) :=
  .ite inv (.enterGptp (.gptpMod (.netMod (.endPause (.postLink
    (.ite (.macCount (.macAdd (.macMod inv))) (.macAdd (.macMod inv))))))))

theorem EngineAt.twSet {v : EngineState} {s : State} {p : Fin 2} {t : TwPort} (inv : EngineAt v s) :
    EngineAt v (Machine.twSet s p t) :=
  .ite inv inv

theorem EngineAt.twMod {v : EngineState} {s : State} {p : Fin 2} {f : TwPort → TwPort} (inv : EngineAt v s) :
    EngineAt v (Machine.twMod s p f) :=
  .twSet inv

theorem EngineAt.membersIdle {v : EngineState} {s : State} (inv : EngineAt v s) :
    EngineAt v (Machine.membersIdle s) :=
  inv

theorem EngineAt.postPowerState {v : EngineState} {s : State} {prev cause log : Nat} (inv : EngineAt v s) :
    EngineAt v (Machine.postPowerState prev cause log s) :=
  .posted inv

theorem EngineAt.transitionDone {v : EngineState} {s : State} {t : Transition} {prev : Nat}
    (inv : EngineAt v s) : EngineAt v (Machine.transitionDone t prev s) :=
  .postPowerState (.completed inv)

theorem EngineAt.thermalOutput {v : EngineState} {s : State} {o : Nat} (inv : EngineAt v s) :
    EngineAt v (Machine.thermalOutput s o) :=
  .refreshPump (.outMod (.stopDriving inv))

theorem EngineAt.thermalReturn {v : EngineState} {s : State} {o : Nat} (inv : EngineAt v s) :
    EngineAt v (Machine.thermalReturn s o) :=
  .ite inv (.enterOut (.outMod inv))

theorem EngineAt.thermalFault {v : EngineState} {s : State} {o : Nat} (inv : EngineAt v s) :
    EngineAt v (Machine.thermalFault s o) :=
  .postOutFault (.outMod inv)
/-- The conversions in progress. -/
def BusyAt (v : Option Conversion × Option Conversion) (s : State) : Prop := (s.meas.ma.busy, s.meas.mb.busy) = v

theorem BusyAt.ite {v : Option Conversion × Option Conversion} {c : Prop} {dec : Decidable c} {s t : State} (hs : BusyAt v s)
    (ht : BusyAt v t) : BusyAt v (if c then s else t) := by
  split
  · exact hs
  · exact ht

theorem BusyAt.pairIte {v : Option Conversion × Option Conversion} {α : Type} {c : Prop} {dec : Decidable c} {x y : α × State}
    (hx : BusyAt v x.2) (hy : BusyAt v y.2) : BusyAt v (if c then x else y).2 := by
  split
  · exact hx
  · exact hy

theorem BusyAt.foldl {v : Option Conversion × Option Conversion} {s : State} {β : Type} {f : State → β → State} {l : List β}
    (inv : BusyAt v s) (h : ∀ t x, BusyAt v t → BusyAt v (f t x)) :
    BusyAt v (l.foldl f s) :=
  foldl_inv (fun t : State => BusyAt v t) f h l s inv

theorem BusyAt.posted {v : Option Conversion × Option Conversion} {s : State} {code inst log data : Nat} {cn : Concern}
    (inv : BusyAt v s) : BusyAt v (Machine.post code inst log data cn s) := by
  simpa [BusyAt] using inv

theorem BusyAt.drawElapsed {v : Option Conversion × Option Conversion} {s : State} (inv : BusyAt v s) :
    BusyAt v (Machine.drawElapsed s).2 :=
  inv

theorem BusyAt.stopTick {v : Option Conversion × Option Conversion} {s : State} (inv : BusyAt v s) :
    BusyAt v (Machine.stopTick s) :=
  inv

theorem BusyAt.netMod {v : Option Conversion × Option Conversion} {s : State} {f : NetState → NetState}
    (inv : BusyAt v s) : BusyAt v (Machine.netMod s f) :=
  inv

theorem BusyAt.streamMod {v : Option Conversion × Option Conversion} {s : State} {n : Nat}
    {f : Machine.Stream → Machine.Stream} (inv : BusyAt v s) : BusyAt v (Machine.streamMod s n f) :=
  .netMod inv

theorem BusyAt.domMod {v : Option Conversion × Option Conversion} {s : State} {d : Nat} {f : Domain → Domain}
    (inv : BusyAt v s) : BusyAt v (Machine.domMod s d f) :=
  inv

theorem BusyAt.convMod {v : Option Conversion × Option Conversion} {s : State} {k : Nat} {f : Convoy → Convoy}
    (inv : BusyAt v s) : BusyAt v (Machine.convMod s k f) :=
  inv

theorem BusyAt.pllMod {v : Option Conversion × Option Conversion} {s : State} {p : Nat} {f : Pll → Pll}
    (inv : BusyAt v s) : BusyAt v (Machine.pllMod s p f) :=
  .ite inv inv

theorem BusyAt.postMuted {v : Option Conversion × Option Conversion} {s : State} {k members cause log : Nat}
    (inv : BusyAt v s) : BusyAt v (Machine.postMuted k members cause log s) :=
  .ite (.posted (.convMod (.pairIte (.drawElapsed (.convMod inv)) (.convMod inv))))
    (.pairIte (.drawElapsed (.convMod inv)) (.convMod inv))

theorem BusyAt.convCount {v : Option Conversion × Option Conversion} {s : State} {k i : Nat}
    (inv : BusyAt v s) : BusyAt v (Machine.convCount k i s) :=
  .convMod inv

theorem BusyAt.muteConvoy {v : Option Conversion × Option Conversion} {s : State} {log k : Nat}
    (inv : BusyAt v s) : BusyAt v (Machine.muteConvoy log s k) :=
  .ite inv (.postMuted (.convCount (.convMod inv)))

theorem BusyAt.postPll {v : Option Conversion × Option Conversion} {s : State} {p log : Nat}
    (inv : BusyAt v s) : BusyAt v (Machine.postPll p log s) :=
  .posted inv

theorem BusyAt.setPllMode {v : Option Conversion × Option Conversion} {s : State} {p mode log : Nat}
    (inv : BusyAt v s) : BusyAt v (Machine.setPllMode p mode log s) :=
  .ite (.pllMod inv) (.ite inv (.postPll (.pllMod inv)))

theorem BusyAt.pllsFollow {v : Option Conversion × Option Conversion} {s : State} {d log : Nat}
    (inv : BusyAt v s) : BusyAt v (Machine.pllsFollow d log s) :=
  .foldl inv (fun _ _ h => .ite (.ite (.setPllMode h) (.ite (.setPllMode h) h)) h)

theorem BusyAt.leaveLocked {v : Option Conversion × Option Conversion} {s : State} {d cause log : Nat}
    (inv : BusyAt v s) : BusyAt v (Machine.leaveLocked d cause log s) :=
  .pllsFollow (.foldl (.posted inv) (fun _ _ h => .muteConvoy h))

theorem BusyAt.unlockFor {v : Option Conversion × Option Conversion} {s : State} {d cause log : Nat}
    (inv : BusyAt v s) : BusyAt v (Machine.unlockFor d cause log s) :=
  .ite inv (.ite (.leaveLocked (.domMod inv)) (.domMod inv))

theorem BusyAt.macMod {v : Option Conversion × Option Conversion} {s : State} {f : Mac → Mac}
    (inv : BusyAt v s) : BusyAt v (Machine.macMod s f) :=
  inv

theorem BusyAt.postEthFor {v : Option Conversion × Option Conversion} {s : State} {log code inst data : Nat}
    (inv : BusyAt v s) : BusyAt v (Machine.postEthFor log code inst data s) :=
  .posted inv

theorem BusyAt.postEth {v : Option Conversion × Option Conversion} {s : State} {code inst data : Nat}
    (inv : BusyAt v s) : BusyAt v (Machine.postEth code inst data s) :=
  .postEthFor inv

theorem BusyAt.halfSet {v : Option Conversion × Option Conversion} {s : State} {g i : Nat} (inv : BusyAt v s)
    : BusyAt v (Machine.halfSet g i s) :=
  .ite (.macMod (.macMod inv)) (.postEth (.macMod (.macMod inv)))

theorem BusyAt.macAdd {v : Option Conversion × Option Conversion} {s : State} {g i n : Nat} (inv : BusyAt v s)
    : BusyAt v (Machine.macAdd g i n s) :=
  .ite (.halfSet (.macMod inv)) (.macMod inv)

theorem BusyAt.macCount {v : Option Conversion × Option Conversion} {s : State} {g i : Nat} (inv : BusyAt v s)
    : BusyAt v (Machine.macCount g i s) :=
  .macAdd inv

theorem BusyAt.offerControl {v : Option Conversion × Option Conversion} {s : State} {kind : Nat} {dest : List Byte}
    {type : Nat} {body : List Byte} (inv : BusyAt v s) : BusyAt v
    (Machine.offerControl kind dest type body s) :=
  .ite inv (.ite (.macCount inv) (.ite (.macCount inv) (.macMod inv)))

theorem BusyAt.freeField {v : Option Conversion × Option Conversion} {s : State} {n : Nat} (inv : BusyAt v s)
    : BusyAt v (Machine.freeField n s).2 :=
  inv

theorem BusyAt.streamCount {v : Option Conversion × Option Conversion} {s : State} {n i : Nat}
    (inv : BusyAt v s) : BusyAt v (Machine.streamCount n i s) :=
  .netMod inv

theorem BusyAt.crfCount {v : Option Conversion × Option Conversion} {s : State} {n i : Nat} (inv : BusyAt v s)
    : BusyAt v (Machine.crfCount n i s) :=
  .netMod inv

theorem BusyAt.sendFrame {v : Option Conversion × Option Conversion} {s : State} {f : TxFrame}
    (inv : BusyAt v s) : BusyAt v (Machine.sendFrame f s) := by
  unfold Machine.sendFrame
  split
  · split
    · split
      · exact .macCount (.macCount (.macCount (.macCount (.macCount (.macAdd (.macMod inv))))))
      · exact .macCount (.macCount (.macCount (.macCount (.macCount (.macAdd (.macMod inv))))))
      · exact .macCount (.ite (.streamCount (.macCount (.macCount (.macCount (.macCount (.macAdd (.macMod inv)))))))
          (.crfCount (.macCount (.macCount (.macCount (.macCount (.macAdd (.macMod inv))))))))
    · split
      · exact .macCount (.macCount (.macCount (.macCount (.macAdd (.macMod inv)))))
      · exact .macCount (.macCount (.macCount (.macCount (.macAdd (.macMod inv)))))
      · exact .macCount (.ite (.streamCount (.macCount (.macCount (.macCount (.macAdd (.macMod inv))))))
          (.crfCount (.macCount (.macCount (.macCount (.macAdd (.macMod inv)))))))
  · split
    · split
      · exact .macCount (.macCount (.macCount (.macCount (.macAdd (.macMod inv)))))
      · exact .macCount (.macCount (.macCount (.macCount (.macAdd (.macMod inv)))))
      · exact .macCount (.ite (.streamCount (.macCount (.macCount (.macCount (.macAdd (.macMod inv))))))
          (.crfCount (.macCount (.macCount (.macCount (.macAdd (.macMod inv)))))))
    · split
      · exact .macCount (.macCount (.macCount (.macAdd (.macMod inv))))
      · exact .macCount (.macCount (.macCount (.macAdd (.macMod inv))))
      · exact .macCount (.ite (.streamCount (.macCount (.macCount (.macAdd (.macMod inv)))))
          (.crfCount (.macCount (.macCount (.macAdd (.macMod inv))))))

theorem BusyAt.postPause {v : Option Conversion × Option Conversion} {s : State} {data : Nat}
    (inv : BusyAt v s) : BusyAt v (Machine.postPause data s) :=
  .ite (.postEth (.macMod (.pairIte (.drawElapsed inv) inv))) (.pairIte (.drawElapsed inv) inv)

theorem BusyAt.endPause {v : Option Conversion × Option Conversion} {s : State} {zero : Bool}
    (inv : BusyAt v s) : BusyAt v (Machine.endPause zero s) :=
  .ite (.postPause (.macMod inv)) inv

theorem BusyAt.crfMod {v : Option Conversion × Option Conversion} {s : State} {k : Nat}
    {f : Machine.Stream → Machine.Stream} (inv : BusyAt v s) : BusyAt v (Machine.crfMod s k f) :=
  .netMod inv

theorem BusyAt.dropReference {v : Option Conversion × Option Conversion} {s : State} {kind i log : Nat}
    (inv : BusyAt v s) : BusyAt v (Machine.dropReference kind i log s) :=
  .foldl inv (fun _ _ h => .ite (.unlockFor h) h)

theorem BusyAt.enterStream {v : Option Conversion × Option Conversion} {s : State} {n st cause log : Nat}
    (inv : BusyAt v s) : BusyAt v (Machine.enterStream n st cause log s) :=
  .ite inv (.ite (.dropReference (.posted (.streamMod inv))) (.posted (.streamMod inv)))

theorem BusyAt.enterCrf {v : Option Conversion × Option Conversion} {s : State} {k st log : Nat}
    (inv : BusyAt v s) : BusyAt v (Machine.enterCrf k st log s) :=
  .ite inv (.ite (.dropReference (.postEthFor (.crfMod inv))) (.postEthFor (.crfMod inv)))

theorem BusyAt.refreshStream {v : Option Conversion × Option Conversion} {s : State} {cause log n : Nat}
    (inv : BusyAt v s) : BusyAt v (Machine.refreshStream cause log s n) :=
  .ite (.enterStream inv) inv

theorem BusyAt.refreshCrf {v : Option Conversion × Option Conversion} {s : State} {log k : Nat}
    (inv : BusyAt v s) : BusyAt v (Machine.refreshCrf log s k) :=
  .ite (.enterCrf inv) inv

theorem BusyAt.refreshStreams {v : Option Conversion × Option Conversion} {s : State} {cause log : Nat}
    (inv : BusyAt v s) : BusyAt v (Machine.refreshStreams cause log s) :=
  .foldl (.foldl inv (fun _ _ h => .refreshStream h)) (fun _ _ h => .refreshCrf h)

theorem BusyAt.gptpMod {v : Option Conversion × Option Conversion} {s : State} {f : Gptp → Gptp}
    (inv : BusyAt v s) : BusyAt v (Machine.gptpMod s f) :=
  inv

theorem BusyAt.adpSend {v : Option Conversion × Option Conversion} {s : State} {message : Nat}
    (inv : BusyAt v s) : BusyAt v (Machine.adpSend message s) :=
  .ite inv (.offerControl (.netMod (.freeField (.freeField inv))))

theorem BusyAt.departing {v : Option Conversion × Option Conversion} {s : State} (inv : BusyAt v s) :
    BusyAt v (Machine.departing s) := by
  unfold Machine.departing
  dsimp only
  split
  · exact .adpSend inv
  · exact .sendFrame (.macMod (.adpSend inv))

theorem BusyAt.enterGptp {v : Option Conversion × Option Conversion} {s : State} {st cause log : Nat}
    (inv : BusyAt v s) : BusyAt v (Machine.enterGptp st cause log s) :=
  .ite inv (.refreshStreams (.postEthFor (.gptpMod inv)))

theorem BusyAt.postLink {v : Option Conversion × Option Conversion} {s : State} {up : Bool} {cause log : Nat}
    (inv : BusyAt v s) : BusyAt v (Machine.postLink up cause log s) :=
  .postEthFor inv

theorem BusyAt.linkGoesDown {v : Option Conversion × Option Conversion} {s : State} {cause log : Nat}
    (inv : BusyAt v s) : BusyAt v (Machine.linkGoesDown cause log s) :=
  .ite inv (.enterGptp (.gptpMod (.netMod (.endPause (.postLink
    (.ite (.macCount (.macAdd (.macMod inv))) (.macAdd (.macMod inv))))))))

theorem BusyAt.twSet {v : Option Conversion × Option Conversion} {s : State} {p : Fin 2} {t : TwPort}
    (inv : BusyAt v s) : BusyAt v (Machine.twSet s p t) :=
  .ite inv inv

theorem BusyAt.twMod {v : Option Conversion × Option Conversion} {s : State} {p : Fin 2} {f : TwPort → TwPort}
    (inv : BusyAt v s) : BusyAt v (Machine.twMod s p f) :=
  .twSet inv

theorem BusyAt.membersIdle {v : Option Conversion × Option Conversion} {s : State} (inv : BusyAt v s) :
    BusyAt v (Machine.membersIdle s) :=
  inv
/-- The outputs. -/
def OutsAt (v : Tbl Output) (s : State) : Prop := s.out.outs = v

theorem OutsAt.foldl {v : Tbl Output} {s : State} {β : Type} {f : State → β → State} {l : List β}
    (inv : OutsAt v s) (h : ∀ t x, OutsAt v t → OutsAt v (f t x)) :
    OutsAt v (l.foldl f s) :=
  foldl_inv (fun t : State => OutsAt v t) f h l s inv

theorem OutsAt.stopTick {v : Tbl Output} {s : State} (inv : OutsAt v s) :
    OutsAt v (Machine.stopTick s) :=
  inv

theorem OutsAt.saiMod {v : Tbl Output} {s : State} {n : Nat} {f : Sai → Sai} (inv : OutsAt v s) :
    OutsAt v (Machine.saiMod s n f) :=
  inv

theorem OutsAt.spdifPins {v : Tbl Output} {s : State} (inv : OutsAt v s) :
    OutsAt v (Machine.spdifPins s) :=
  inv

theorem OutsAt.serialFault {v : Tbl Output} {s : State} (inv : OutsAt v s) :
    OutsAt v (Machine.serialFault s) := by
  unfold Machine.serialFault
  dsimp only
  exact .foldl inv (fun _ _ h => .saiMod h)

theorem OutsAt.serialDrive {v : Tbl Output} {s : State} (inv : OutsAt v s) :
    OutsAt v (Machine.serialDrive s) :=
  .spdifPins (.foldl inv (fun _ _ h => .saiMod h))

theorem OutsAt.macMod {v : Tbl Output} {s : State} {f : Mac → Mac} (inv : OutsAt v s) :
    OutsAt v (Machine.macMod s f) :=
  inv

theorem OutsAt.phyReset {v : Tbl Output} {s : State} {low : Bool} (inv : OutsAt v s) :
    OutsAt v (Machine.phyReset low s) :=
  .macMod inv

end Sys2Proof.Machine
end

section
/-! PROOF. The power commands, transitions, warnings, wakes and the die's temperature (chapter 16). -/

namespace Sys2Proof.Machine

theorem PowerAt.refreshPins {v : PowerState} {s : State} (inv : PowerAt v s) : PowerAt v (Machine.refreshPins s) := inv

theorem EngineAt.refreshPins {v : EngineState} {s : State} (inv : EngineAt v s) : EngineAt v (Machine.refreshPins s) := inv

theorem BusyAt.refreshPins {v : Option Conversion × Option Conversion} {s : State} (inv : BusyAt v s) :
    BusyAt v (Machine.refreshPins s) := inv

theorem PowerAt.pwrMod {v : PowerState} {s : State} {f : PowerState → PowerState} (inv : PowerAt v s) :
    PowerAt (f v) (Machine.pwrMod s f) := congrArg f inv

/-! ## Supply warnings -/

theorem shelterStates_of {s : State} (h : s.pwr.dev = .active ∨ s.pwr.dev = .doze ∨ s.pwr.dev = .test ∨ s.pwr.dev = .recovery) :
    shelterStates s = true := by simpa [shelterStates] using h

theorem supervised_of_shelterStates {s : State} (h : shelterStates s = true) : supervised s = true := by
  have hd : s.pwr.dev ∈ [Dev.active, Dev.doze, Dev.test, Dev.recovery] := of_decide_eq_true h
  cases hc : s.pwr.dev <;> simp_all [supervised]

/-- Where the state is not SLEEP, BROWNOUT_WARN is posted or not, and nothing else changes. -/
theorem PowerAt.postBrown {v : PowerState} {s : State} {rail data : Nat} (hd : v.dev ≠ .sleep) (inv : PowerAt v s) :
    PowerAt v (Machine.postBrown rail data s) := by
  have hs : s.pwr.dev ≠ .sleep := (congrArg PowerState.dev inv).trans_ne hd
  unfold Machine.postBrown
  rw [if_neg hs]
  exact .ite inv (.posted inv)

/-- The power state but for what BROWNOUT_WARN itself has still to say. -/
def spoken (q : PowerState) : PowerState := { q with unposted := [], sawAvdd := false, sawVin := false }

theorem spoken_of {s : State} {v : PowerState} (h : PowerAt v s) : spoken s.pwr = spoken v := congrArg spoken h

theorem postBrown_spoken (rail data : Nat) (s : State) : spoken (postBrown rail data s).pwr = spoken s.pwr := by
  by_cases hd : s.pwr.dev = .sleep
  · unfold postBrown
    rw [if_pos hd]
    rfl
  · exact spoken_of (.postBrown hd rfl)

theorem enterShelter_spoken (rail : Nat) (s : State) :
    spoken (enterShelter rail s).pwr = spoken { s.pwr with shelter := true } := by
  unfold enterShelter
  extract_lets s1
  have hrest : PowerAt s1.pwr (nvmShelter (relayShelter (outputsShelter (spanMod s1 (fun q => { q with flags := q.flags ||| 2 }))))) :=
    .nvmShelter (.relayShelter (.outputsShelter (.spanMod rfl)))
  exact (spoken_of hrest).trans (postBrown_spoken _ _ _)

/-- A warning is noted and counted (R371). -/
def warned (rail : Nat) (q : PowerState) : PowerState :=
  { (if rail = 0 then { q with warnAvdd := true, sawAvdd := true } else { q with warnVin := true, sawVin := true }) with
    warnCounts := tincrSat 32 q.warnCounts rail }

theorem countBrown_pwr (rail : Nat) (s : State) : (countBrown rail (noteWarning rail s)).pwr = warned rail s.pwr := by
  unfold countBrown noteWarning warned
  by_cases h : rail = 0 <;> simp [h, pwrMod, spanMod]

theorem tget_tincrSat (w : Nat) (hw : 0 < w) (t : Tbl Nat) (i : Nat) :
    tget 0 (tincrSat w t i) i = min (tget 0 t i + 1) (2 ^ w - 1) := by
  have : 2 ≤ 2 ^ w := Nat.le_self_pow (by omega) 2
  exact tget_tset_same_ne 0 t i (by omega)

theorem warned_spec (rail : Fin 2) (q : PowerState) :
    tget 0 (warned rail.val q).warnCounts rail.val = min (tget 0 q.warnCounts rail.val + 1) 0xFFFFFFFF
      ∧ (if rail = 0 then (warned rail.val q).warnAvdd = true else (warned rail.val q).warnVin = true)
      ∧ (warned rail.val q).dev = q.dev ∧ (warned rail.val q).shelter = q.shelter := by
  refine ⟨tget_tincrSat 32 (by decide) _ _, ?_⟩
  fin_cases rail <;> simp [warned]

theorem supplyWarning_shelters {rail : Nat} {s : State} (hs : shelterStates s = true) (h : s.pwr.shelter = false) :
    spoken (supplyWarning rail s).pwr = spoken { warned rail s.pwr with shelter := true } := by
  have hrun : supplyWarning rail s = enterShelter rail (countBrown rail (noteWarning rail s)) := if_pos ⟨hs, h⟩
  rw [hrun, enterShelter_spoken, countBrown_pwr]

theorem supplyWarning_sheltered {rail : Nat} {s : State} (h : shelterStates s = true → s.pwr.shelter = true) :
    spoken (supplyWarning rail s).pwr = spoken (warned rail s.pwr) := by
  unfold supplyWarning
  extract_lets s1 s2
  rw [if_neg (fun hs => by simp [h hs.1] at hs), ← countBrown_pwr]
  have hrest : PowerAt s2.pwr (if shelterStates s = true then s2 else nvmShelter s2) := .ite rfl (.nvmShelter rfl)
  exact (spoken_of hrest).trans (postBrown_spoken _ _ _)

/-- The end of the shelter (R376). -/
theorem shelterEnd_spoken (s : State) :
    spoken (shelterEnd s).pwr = spoken { s.pwr with shelter := false, warnAvdd := false, warnVin := false } := by
  unfold shelterEnd
  extract_lets s1
  have hrest : PowerAt s1.pwr (nvmStart (if s.pwr.shelter then outputsAfterShelter s1 else s1)) :=
    .nvmStart (.ite (.outputsAfterShelter rfl) rfl)
  refine (spoken_of hrest).trans ?_
  exact foldl_keeps (fun t : State => spoken t.pwr) _ (fun t r => postBrown_spoken r 0 t) _ _

theorem railRecovers_ends {rail : Fin 2} {s : State} (h : if rail = 0 then s.pwr.warnAvdd = true ∧ s.pwr.warnVin = false
    else s.pwr.warnVin = true ∧ s.pwr.warnAvdd = false) :
    ∃ t, railRecovers rail.val s = shelterEnd t ∧ t.pwr.dev = s.pwr.dev := by
  fin_cases rail <;> obtain ⟨h1, h2⟩ := h
  · exact ⟨pwrMod s (fun p => { p with warnAvdd := false }), by simp [railRecovers, h1, h2, pwrMod], rfl⟩
  · exact ⟨pwrMod s (fun p => { p with warnVin := false }), by simp [railRecovers, h1, h2, pwrMod], rfl⟩

/-! ## Transitions and wakes -/

theorem exec_powerTransition {tr : Transition} {s : State} (h : s.pwr.transition = some tr) :
    exec .powerTransitionProceed s = .next (if cpRuns s && waitOver s tr && (!tr.muting || restReady tr s)
      && !(tr.target == 7 && s.pwr.shelter) then transitionStep tr s else s) := by
  change execPowerTransitionProceed s = _
  unfold execPowerTransitionProceed
  rw [h]

/-- While a condition of a transition is missing, it waits. -/
theorem exec_powerTransition_waits {tr : Transition} {s : State} (h : s.pwr.transition = some tr)
    (hw : cpRuns s = false ∨ waitOver s tr = false ∨ (tr.muting = true ∧ restReady tr s = false)
      ∨ (tr.target = 7 ∧ s.pwr.shelter = true)) : exec .powerTransitionProceed s = .next s := by
  rw [exec_powerTransition h, if_neg]
  rcases hw with h | h | ⟨h1, h2⟩ | ⟨h1, h2⟩ <;> simp [*]

/-- Before it mutes, a transition goes on as soon as the commands and the loads allow it. -/
theorem exec_powerTransition_unmuted {tr : Transition} {s : State} (h : s.pwr.transition = some tr) (hm : tr.muting = false)
    (hcp : cpRuns s = true) (hw : waitOver s tr = true) (hs : tr.target = 7 → s.pwr.shelter = false) :
    exec .powerTransitionProceed s = .next (if tr.target = 3 then transitionDone tr 4 (returnToActive s)
      else if tr.target = 6 then transitionDone tr 3 (pwrMod s (fun q => { q with dev := .recovery, transition := none }))
      else transitionMute tr s) := by
  have hgo : transitionStep tr s = _ := if_neg (by simp [hm])
  rw [exec_powerTransition h, if_pos, hgo]
  simpa [hcp, hw, hm, imp_iff_not_or] using hs

theorem exec_powerTransition_muted {tr : Transition} {s : State} (h : s.pwr.transition = some tr) (hm : tr.muting = true)
    (hcp : cpRuns s = true) (hr : restReady tr s = true) :
    exec .powerTransitionProceed s = .next (if tr.target = 7 then enterSleep tr s else enterDoze tr s) := by
  have hgo : transitionStep tr s = _ := if_pos hm
  obtain ⟨⟨-, hw⟩, h7⟩ : (outputsAtRest s = true ∧ waitOver s tr = true)
      ∧ (¬tr.target = 7 ∨ (nvmIdle s = true ∧ s.pwr.shelter = false) ∧ usbResting s = true) := by
    simpa [restReady] using hr
  have hs : tr.target = 7 → s.pwr.shelter = false := fun e => (h7.resolve_left (fun hne => hne e)).1.2
  rw [exec_powerTransition h, if_pos, hgo]
  simpa [hcp, hw, hr, imp_iff_not_or] using hs

theorem restReady_doze {tr : Transition} {s : State} (ht : tr.target = 4) (hw : waitOver s tr = true)
    (ho : outputsAtRest s = true) : restReady tr s = true := by
  simp [restReady, ht, hw, ho]

theorem waitOver_doze {tr : Transition} {s : State} (h : s.pwr.dev = .doze) : waitOver s tr = true := by
  simp [waitOver, h]

/-- The fabric tick stands still after `stopTick`, and DOZE keeps it so. -/
theorem enterDoze_spec (tr : Transition) (s : State) :
    (enterDoze tr s).pwr.dev = .doze ∧ (enterDoze tr s).pwr.transition = none ∧ (enterDoze tr s).eng.ticking = false := by
  unfold enterDoze
  extract_lets s1
  have hp : PowerAt { s1.pwr with dev := .doze, transition := none } (transitionDone tr 3
      (pwrMod s1 (fun p => { p with dev := .doze, transition := none }))) := .transitionDone rfl
  have he : EngineAt s1.eng (transitionDone tr 3 (pwrMod s1 (fun p => { p with dev := .doze, transition := none }))) :=
    .transitionDone rfl
  exact ⟨congrArg PowerState.dev hp, congrArg PowerState.transition hp, congrArg EngineState.ticking he⟩

theorem enterSleep_spec (tr : Transition) (s : State) :
    (enterSleep tr s).pwr.dev = .sleep ∧ (enterSleep tr s).pwr.transition = none ∧ (enterSleep tr s).eng.ticking = false
      ∧ (enterSleep tr s).meas.ma.busy = none ∧ (enterSleep tr s).meas.mb.busy = none := by
  unfold enterSleep
  extract_lets s1 s2
  have he : EngineAt (stopTick (measRest (serialRest (jacksRest s1)))).eng s2 := .linkGoesDown (.departing (.membersIdle rfl))
  have hb : BusyAt (none, none) s2 := .linkGoesDown (.departing (.membersIdle rfl))
  have hoff : (stopTick (measRest (serialRest (jacksRest s1)))).eng.ticking = false := rfl
  generalize (stopTick (measRest (serialRest (jacksRest s1)))).eng = e at he hoff
  clear_value s2
  have hp : PowerAt { s2.pwr with dev := .sleep, transition := none } (pwrMod s2 (fun p =>
    { p with dev := .sleep, transition := none })) := rfl
  have he1 : EngineAt e (pwrMod s2 (fun p => { p with dev := .sleep, transition := none })) := he
  have hb1 : BusyAt (none, none) (pwrMod s2 (fun p => { p with dev := .sleep, transition := none })) := hb
  generalize pwrMod s2 (fun p => { p with dev := .sleep, transition := none }) = s3 at hp he1 hb1 ⊢
  have hp' := PowerAt.refreshPins ((hp.twMod (p := 0) (f := endTxn)).twMod (p := 1) (f := endTxn))
  have he' := EngineAt.refreshPins ((he1.twMod (p := 0) (f := endTxn)).twMod (p := 1) (f := endTxn))
  have hb' := BusyAt.refreshPins ((hb1.twMod (p := 0) (f := endTxn)).twMod (p := 1) (f := endTxn))
  exact ⟨congrArg PowerState.dev hp', congrArg PowerState.transition hp', (congrArg EngineState.ticking he').trans hoff,
    congrArg Prod.fst hb', congrArg Prod.snd hb'⟩

theorem PowerAt.returnToActive {v : PowerState} {s : State} (inv : PowerAt v s) :
    PowerAt { v with dev := .active, transition := none } (Machine.returnToActive s) := by
  unfold Machine.returnToActive
  extract_lets asleep s0 s1 s2
  have h0 : PowerAt v (Machine.disarmAll s0) := .disarmAll (.ite (.serialDrive inv) inv)
  have h1 : PowerAt { v with dev := .active, transition := none } s1 := .resumeTick h0.pwrMod
  have h2 : PowerAt { v with dev := .active, transition := none } s2 :=
    .outputsWake (.analogueRestart (.wakeCaptures (.membersStart h1)))
  exact .serveJacks (.ite (.scanGoesOn h2) h2)

theorem PowerAt.postSlept {v : PowerState} {s : State} (hd : v.dev ≠ .sleep) (inv : PowerAt v s) :
    PowerAt { v with unposted := [] } (Machine.postSlept s) := by
  unfold Machine.postSlept
  exact .foldl inv.pwrMod (fun _ _ h => h.postBrown hd)

/-- Out of SLEEP, with this wake cause and nothing left to post. -/
def Awake (cause : Nat) (q : PowerState) : Prop := q.dev = .active ∧ q.wake = cause ∧ q.unposted = []

theorem PowerAt.enterShelter {v : PowerState} {rail : Nat} {s : State} (hd : v.dev ≠ .sleep) (inv : PowerAt v s) :
    PowerAt { v with shelter := true, sawAvdd := v.sawAvdd || v.warnAvdd, sawVin := v.sawVin || v.warnVin }
      (Machine.enterShelter rail s) := by
  unfold Machine.enterShelter
  exact .nvmShelter (.relayShelter (.outputsShelter (.spanMod (.postBrown hd inv.pwrMod))))

theorem shelterIfWarned_pwr {s : State} (hd : s.pwr.dev ≠ .sleep) :
    ∃ a b c, (shelterIfWarned s).pwr = { s.pwr with shelter := a, sawAvdd := b, sawVin := c } := by
  unfold shelterIfWarned
  cases warnedRails s with
  | nil => exact ⟨_, _, _, rfl⟩
  | cons r rest =>
    have hfold : PowerAt _ (rest.foldl (fun t q => postBrown q 1 t) (enterShelter r s)) :=
      .foldl (PowerAt.enterShelter (rail := r) hd rfl) (fun _ _ ht => ht.postBrown hd)
    exact ⟨_, _, _, hfold⟩

theorem shelterIfWarned_awake {cause : Nat} {s : State} (h : Awake cause s.pwr) : Awake cause (shelterIfWarned s).pwr := by
  obtain ⟨a, b, c, hp⟩ := shelterIfWarned_pwr (s := s) (by simp [h.1])
  exact hp ▸ h

/-- A wake returns to ACTIVE, with its cause, and posts the warnings of SLEEP (R373, R377). -/
theorem wake_awake (cause : Nat) (s : State) : Awake cause (wake cause s).pwr := by
  unfold wake
  extract_lets s1
  have h1 : PowerAt _ s1 := PowerAt.returnToActive rfl
  have h2 : PowerAt _ (postSlept (postPowerState 7 cause 0 s1)) :=
    PowerAt.postSlept (by simp) (.postPowerState h1)
  have h3 : Awake cause (postSlept (postPowerState 7 cause 0 s1)).pwr := h2.symm ▸ ⟨rfl, rfl, rfl⟩
  have h4 : PowerAt _ (nvmStart (refreshPins (shelterIfWarned (postSlept (postPowerState 7 cause 0 s1))))) :=
    .nvmStart (.refreshPins rfl)
  exact h4.symm ▸ shelterIfWarned_awake h3

/-! ## Temperature -/

theorem recordHeat_warm {t20 : Int} {s : State} (hs : shelterStates s = true) (hw : s.pwr.thermalWarn = true) :
    recordHeat t20 s = spanMod s (fun q => { q with tjMax := max q.tjMax t20 }) :=
  if_pos (by simp only [Bool.and_eq_true]; exact ⟨hs, hw⟩)

theorem recordHeat_cool {t20 : Int} {s : State} (hw : s.pwr.thermalWarn = false) : recordHeat t20 s = s :=
  if_neg (by simp [hw])

theorem recordHeat_boot {t20 : Int} {s : State} (hb : s.pwr.dev = .boot) : recordHeat t20 s = s :=
  if_neg (by simp [accounts, hb])

/-- What one operation on output `o` does, where the state keeps `I`: `g` of that output, and no other. -/
def ActsOn (I : State → Prop) (F : State → Nat → State) (g : Output → Output) : Prop :=
  ∀ s o, tblWf Output.reset s.out.outs = true → I s → tblWf Output.reset (F s o).out.outs = true ∧ I (F s o)
    ∧ ∀ e, outGet (F s o) e = if e = o then g (outGet s o) else outGet s e

theorem ActsOn.foldl {I : State → Prop} {F : State → Nat → State} {g : Output → Output} (h : ActsOn I F g) (l : List Nat)
    (hl : l.Nodup) {s : State} (w : tblWf Output.reset s.out.outs = true) (hI : I s) :
    tblWf Output.reset (l.foldl F s).out.outs = true ∧ I (l.foldl F s)
      ∧ ∀ e, outGet (l.foldl F s) e = if e ∈ l then g (outGet s e) else outGet s e := by
  induction l generalizing s with
  | nil => exact ⟨w, hI, fun e => by simp⟩
  | cons o l ih =>
    obtain ⟨ho, hl'⟩ := List.nodup_cons.mp hl
    obtain ⟨w1, hI1, h1⟩ := h s o w hI
    obtain ⟨w2, hI2, h2⟩ := ih hl' w1 hI1
    refine ⟨w2, hI2, fun e => ?_⟩
    rw [List.foldl_cons, h2, h1]
    by_cases he : e = o
    · subst he
      simp [ho]
    · simp [he]

/-- Over the four outputs. -/
theorem ActsOn.all {I : State → Prop} {F : State → Nat → State} {g : Output → Output} (h : ActsOn I F g) {s : State}
    (w : tblWf Output.reset s.out.outs = true) (hI : I s) :
    tblWf Output.reset ((List.range 4).foldl F s).out.outs = true ∧ I ((List.range 4).foldl F s)
      ∧ ∀ k, k < 4 → outGet ((List.range 4).foldl F s) k = g (outGet s k) := by
  obtain ⟨w', hI', h'⟩ := h.foldl (List.range 4) List.nodup_range w hI
  exact ⟨w', hI', fun k hk => (h' k).trans (if_pos (List.mem_range.mpr hk))⟩

theorem post_outs (code inst log data : Nat) (cn : Concern) (s : State) :
    (post code inst log data cn s).out.outs = s.out.outs := by simp

theorem enterOut_wf {s : State} (w : tblWf Output.reset s.out.outs = true) (o st : Nat) :
    tblWf Output.reset (enterOut o st s).out.outs = true := by
  unfold enterOut
  dsimp only
  rw [auxFollow_outs]
  split
  · rw [refreshPump_outs]
    exact outMod_wf w o _
  · rw [postOutState, post_outs, refreshPump_outs]
    exact outMod_wf w o _

theorem thermalOutput_acts : ActsOn (fun _ => True) thermalOutput (fun q => { q with
    driving := false, gate := gateMute q.gate, rampPending := none, after := 0, st := 6, lastFault := 7, awaiting := false
    pending := none }) := by
  intro s o w _
  unfold thermalOutput
  refine ⟨by rw [refreshPump_outs]; exact outMod_wf (stopDriving_wf w o) o _, trivial, fun e => ?_⟩
  rw [outGet_refreshPump]
  by_cases he : e = o
  · subst he
    rw [outGet_outMod_same (stopDriving_wf w e), outGet_stopDriving w, if_pos rfl, if_pos rfl]
  · rw [outGet_outMod_other (stopDriving_wf w o) he, outGet_stopDriving w, if_neg he, if_neg he]

theorem thermalReturn_acts : ActsOn (fun s => s.eng.halted = false) thermalReturn (fun q => { q with
    enabled := false, cause := 4, log := 0, st := 0 }) := by
  intro s o w hI
  have hrun : thermalReturn s o = enterOut o 0 (outMod s o (fun q => { q with enabled := false, cause := 4, log := 0 })) :=
    if_neg (by simp [hI])
  have he : EngineAt s.eng (thermalReturn s o) := .thermalReturn rfl
  have w1 := outMod_wf w o (fun q => { q with enabled := false, cause := 4, log := 0 })
  refine ⟨hrun ▸ enterOut_wf w1 o 0, (congrArg EngineState.halted he).trans hI, fun e => ?_⟩
  rw [hrun, outGet_enterOut w1]
  by_cases he : e = o
  · subst he
    rw [if_pos rfl, if_pos rfl, outGet_outMod_same w]
  · rw [if_neg he, if_neg he, outGet_outMod_other w he]

theorem thermalFault_acts : ActsOn (fun _ => True) thermalFault (fun q => { q with faults := q.faults + 1 }) := by
  intro s o w _
  unfold thermalFault
  refine ⟨?_, trivial, fun e => ?_⟩
  · rw [postOutFault, post_outs]
    exact outMod_wf w o _
  · rw [outGet_postOutFault]
    by_cases he : e = o
    · subst he
      rw [if_pos rfl, outGet_outMod_same w]
    · rw [if_neg he, outGet_outMod_other w he]

theorem thermalShutdown_spec {s : State} (w : tblWf Output.reset s.out.outs = true) :
    (thermalShutdown s).pwr.thermalShut = true ∧ (thermalShutdown s).eng.ticking = false
      ∧ ∀ k, k < 4 → (outGet (thermalShutdown s) k).st = 6 ∧ (outGet (thermalShutdown s) k).lastFault = 7 := by
  unfold thermalShutdown
  have hp : PowerAt { s.pwr with thermalShut := true } (phyReset true (serialFault (stopTick (pwrMod s (fun p =>
      { p with thermalShut := true }))))) := .phyReset (.serialFault rfl)
  have he : EngineAt (stopTick s).eng (phyReset true (serialFault (stopTick (pwrMod s (fun p =>
      { p with thermalShut := true }))))) := .phyReset (.serialFault rfl)
  have ho : OutsAt s.out.outs (phyReset true (serialFault (stopTick (pwrMod s (fun p =>
      { p with thermalShut := true }))))) := .phyReset (.serialFault rfl)
  have hoff : (stopTick s).eng.ticking = false := rfl
  generalize (stopTick s).eng = e at he hoff
  generalize phyReset true (serialFault (stopTick (pwrMod s (fun p => { p with thermalShut := true })))) = u at hp he ho ⊢
  have hp' : PowerAt _ (refreshPins (auxFollow ((List.range 4).foldl thermalOutput u))) :=
    .refreshPins (.auxFollow (.foldl hp (fun _ _ h => .thermalOutput h)))
  have he' : EngineAt e (refreshPins (auxFollow ((List.range 4).foldl thermalOutput u))) :=
    .refreshPins (.auxFollow (.foldl he (fun _ _ h => .thermalOutput h)))
  have hw : tblWf Output.reset u.out.outs = true := (congrArg _ ho).trans w
  obtain ⟨-, -, hall⟩ := thermalOutput_acts.all hw trivial
  refine ⟨congrArg PowerState.thermalShut hp', (congrArg EngineState.ticking he').trans hoff, fun k hk => ?_⟩
  have hk' : outGet (refreshPins (auxFollow ((List.range 4).foldl thermalOutput u))) k = _ :=
    (outGet_auxFollow _ k).trans (hall k hk)
  rw [hk']
  exact ⟨rfl, rfl⟩

/-- The end of the thermal shutdown, once the fabric and the pins are back. -/
def thermalBack (t20 : Int) (s : State) : State :=
  refreshPins (postThermal 2 t20 ((List.range 4).foldl thermalFault (auxFollow ((List.range 4).foldl thermalReturn s))))

theorem PowerAt.thermalBack {v : PowerState} {t20 : Int} {s : State} (inv : PowerAt v s) :
    PowerAt v (Machine.thermalBack t20 s) :=
  .refreshPins (.postThermal (.foldl (.auxFollow (.foldl inv (fun _ _ h => .thermalReturn h))) (fun _ _ h => .thermalFault h)))

theorem EngineAt.thermalBack {v : EngineState} {t20 : Int} {s : State} (inv : EngineAt v s) :
    EngineAt v (Machine.thermalBack t20 s) :=
  .refreshPins (.posted (.foldl (.auxFollow (.foldl inv (fun _ _ h => .thermalReturn h))) (fun _ _ h => .thermalFault h)))

theorem outGet_refreshPins (s : State) (o : Nat) : outGet (refreshPins s) o = outGet s o := rfl

/-- Each output's thermal FAULT is counted, after what the return has made of the outputs. -/
theorem outGet_thermalBack {t20 : Int} {s u : State} (hu : auxFollow ((List.range 4).foldl thermalReturn s) = u)
    (w : tblWf Output.reset u.out.outs = true) {k : Nat} (hk : k < 4) :
    outGet (thermalBack t20 s) k = { outGet u k with faults := (outGet u k).faults + 1 } := by
  obtain ⟨-, -, hall⟩ := thermalFault_acts.all w trivial
  rw [thermalBack, outGet_refreshPins, postThermal, outGet_post, hu]
  exact hall k hk

theorem outGet_thermalBack_running {t20 : Int} {s : State} (w : tblWf Output.reset s.out.outs = true)
    (hh : s.eng.halted = false) {k : Nat} (hk : k < 4) :
    (outGet (thermalBack t20 s) k).st = 0 ∧ (outGet (thermalBack t20 s) k).enabled = false
      ∧ (outGet (thermalBack t20 s) k).faults = (outGet s k).faults + 1 := by
  obtain ⟨w', -, hall⟩ := thermalReturn_acts.all w hh
  rw [outGet_thermalBack rfl (by rw [auxFollow_outs]; exact w') hk, outGet_auxFollow, hall k hk]
  exact ⟨rfl, rfl, rfl⟩

theorem thermalReturn_halted {s : State} (hh : s.eng.halted = true) (l : List Nat) : l.foldl thermalReturn s = s := by
  induction l with
  | nil => rfl
  | cons o l ih =>
    have h : thermalReturn s o = s := if_pos hh
    rw [List.foldl_cons, h, ih]

theorem outGet_thermalBack_halted {t20 : Int} {s : State} (w : tblWf Output.reset s.out.outs = true)
    (hh : s.eng.halted = true) {k : Nat} (hk : k < 4) :
    (outGet (thermalBack t20 s) k).st = (outGet s k).st
      ∧ (outGet (thermalBack t20 s) k).faults = (outGet s k).faults + 1 := by
  rw [outGet_thermalBack rfl (by rw [auxFollow_outs, thermalReturn_halted hh]; exact w) hk, outGet_auxFollow,
    thermalReturn_halted hh]
  exact ⟨rfl, rfl⟩

/-- What the return of the fabric and of the pins after a thermal shutdown makes of the state. -/
def fabricBack (s : State) : State := phyReset false (serialDrive (if fabricStates s then resumeTick s else s))

theorem thermalRecover_running {t20 : Int} {s : State} (hh : s.eng.halted = false) :
    thermalRecover t20 s = thermalBack t20 (fabricBack (pwrMod s (fun p => { p with thermalShut := false }))) := by
  unfold thermalRecover
  extract_lets s1 s2 s3
  have h2 : s2 = fabricBack s1 := if_neg (by simp [hh])
  rw [show s3 = auxFollow ((List.range 4).foldl thermalReturn s2) from rfl, h2]
  rfl

theorem thermalRecover_halted {t20 : Int} {s : State} (hh : s.eng.halted = true) :
    thermalRecover t20 s = thermalBack t20 (pwrMod s (fun p => { p with thermalShut := false })) := by
  unfold thermalRecover
  extract_lets s1 s2 s3
  have h2 : s2 = s1 := if_pos hh
  rw [show s3 = auxFollow ((List.range 4).foldl thermalReturn s2) from rfl, h2]
  rfl

theorem fabricBack_spec (s : State) : PowerAt s.pwr (fabricBack s) ∧ OutsAt s.out.outs (fabricBack s)
    ∧ (fabricBack s).eng.halted = s.eng.halted := by
  unfold fabricBack
  have hpin : ∀ u : State, EngineAt u.eng (phyReset false (serialDrive u)) := fun u => .phyReset (.serialDrive rfl)
  refine ⟨.phyReset (.serialDrive (.ite rfl rfl)), .phyReset (.serialDrive (inv_ite (P := OutsAt s.out.outs) rfl rfl)), ?_⟩
  refine (congrArg EngineState.halted (hpin _)).trans ?_
  exact keeps_ite (fun u : State => u.eng.halted) rfl rfl

end Sys2Proof.Machine

end

section
/-! PROOF. POWER_STATUS and POWER_STATE_SET, and the steps of power assembled (chapter 16). -/

namespace Sys2Proof.Machine

theorem railMv_measured {s : State} {house : Nat → Option Int} (h : ∀ ch, house ch = (s.meas.house.find? (fun e => e.1 == ch)).map (·.2.value))
    {k ch : Nat} {v : Int} (hv : house ch = some v) : railMv s k ch = (divNear v 1000).toNat := by
  obtain ⟨e, he, rfl⟩ := Option.map_eq_some_iff.mp ((h ch).symm.trans hv)
  unfold railMv
  rw [he]

theorem coreTemp_measured {s : State} {v : Int} (hv : latestValue s 20 = some v) : coreTemp s = divNear v 100 := by
  unfold coreTemp
  rw [hv]

theorem powerStateSetDo_same {o : Issue} {p : List Byte} {log : Nat} {s : State} (h : u8 p 0 = devCode s.pwr.dev) :
    powerStateSetDo o p log s = ok s := if_pos h

theorem powerStateSetDo_other {o : Issue} {p : List Byte} {log : Nat} {s w : State} (h : u8 p 0 ≠ devCode s.pwr.dev)
    (hw : w = pwrMod s (fun q => { q with
      transition := some { target := u8 p 0, waiter := { ctx := o.ctx, log := log },
                           loads := s.cs.loads.length + flag s.cs.load.isSome, swaps := s.cs.swapCount, muting := false } })) :
    powerStateSetDo o p log s = queuedDone (if s.pwr.dev = .active ∧ (u8 p 0 = 4 ∨ u8 p 0 = 7) then relayRest w else w) := by
  subst hw
  exact if_neg h

theorem exec_supplyWarning {rail : Fin 2} {s : State} (h : supervised s = true) :
    exec (.supplyWarning rail true) s = .next (supplyWarning rail.val s) := whenever_true h

theorem exec_railRecovers {rail : Fin 2} {s : State} (h : supervised s = true) :
    exec (.supplyWarning rail false) s = .next (railRecovers rail.val s) := whenever_true h

theorem railRecovers_none {rail : Fin 2} {s : State} (h : if rail = 0 then s.pwr.warnAvdd = false else s.pwr.warnVin = false) :
    railRecovers rail.val s = s := by
  fin_cases rail <;> exact if_pos (by simpa using h)

theorem exec_railRecovers_none {rail : Fin 2} {s : State} (h : if rail = 0 then s.pwr.warnAvdd = false else s.pwr.warnVin = false) :
    exec (.supplyWarning rail false) s = .next s := by
  cases hs : supervised s with
  | false => exact whenever_false hs
  | true => rw [exec_railRecovers hs, railRecovers_none h]

/-- The fields that a shelter's end clears, and the state that it keeps. -/
theorem shelterEnd_spec (s : State) : (shelterEnd s).pwr.shelter = false ∧ (shelterEnd s).pwr.warnAvdd = false
    ∧ (shelterEnd s).pwr.warnVin = false ∧ (shelterEnd s).pwr.dev = s.pwr.dev := by
  have h := shelterEnd_spoken s
  have hd : (shelterEnd s).pwr.dev = s.pwr.dev := (congrArg PowerState.dev h :)
  exact ⟨congrArg PowerState.shelter h, congrArg PowerState.warnAvdd h, congrArg PowerState.warnVin h, hd⟩

theorem noted_of {rail : Fin 2} {q r : PowerState} (h : spoken q = spoken r)
    (hr : if rail = 0 then r.warnAvdd = true else r.warnVin = true) :
    if rail = 0 then q.warnAvdd = true else q.warnVin = true := by
  have hA : q.warnAvdd = r.warnAvdd := (congrArg PowerState.warnAvdd h :)
  have hV : q.warnVin = r.warnVin := (congrArg PowerState.warnVin h :)
  rw [hA, hV]
  exact hr

theorem exec_thermalWarning {c : Int} {s : State} (h : shelterStates s = true ∨ s.pwr.dev = .boot) :
    exec (.thermalWarning c) s = .next (thermalWarning c s) :=
  show execThermalWarning c s = _ from whenever_true (by simpa using h)

theorem thermalWarning_begins {c : Int} {s : State} (hc : 1150 ≤ c) (hw : s.pwr.thermalWarn = false) :
    thermalWarning c s = recordHeat c (post 0x0D03 0 0 (1 + 65536 * unsigned 16 c) .none
      (pwrMod s (fun q => { q with thermalWarn := true }))) :=
  congrArg (recordHeat c) (if_pos ⟨hc, hw⟩)

theorem thermalWarning_ends {c : Int} {s : State} (hc : c < 1100) (hw : s.pwr.thermalWarn = true) :
    thermalWarning c s = post 0x0D03 0 0 (65536 * unsigned 16 c) .none (pwrMod s (fun q => { q with thermalWarn := false })) := by
  have hrun : thermalWarning c s = recordHeat c (postThermal 0 c (pwrMod s (fun q => { q with thermalWarn := false }))) :=
    congrArg (recordHeat c) ((if_neg (by simp [hw])).trans (if_pos ⟨hc, hw⟩))
  rw [hrun, recordHeat_cool (by simp [postThermal, pwrMod]), postThermal, Nat.zero_add]

theorem thermalWarning_stays {c : Int} {s : State} (h1 : 1150 ≤ c → s.pwr.thermalWarn = true)
    (h2 : c < 1100 → s.pwr.thermalWarn = false) : thermalWarning c s = recordHeat c s :=
  congrArg (recordHeat c) ((if_neg fun h => by simp [h1 h.1] at h).trans (if_neg fun h => by simp [h2 h.1] at h))

theorem postedWarm {c : Int} {x : Nat} {s : State} (hs : shelterStates s = true) :
    recordHeat c (post 0x0D03 0 0 x .none (pwrMod s (fun q => { q with thermalWarn := true })))
      = spanMod (post 0x0D03 0 0 x .none (pwrMod s (fun q => { q with thermalWarn := true }))) (fun q => { q with tjMax := max q.tjMax c }) := by
  have hp : (post 0x0D03 0 0 x .none (pwrMod s (fun q => { q with thermalWarn := true }))).pwr = { s.pwr with thermalWarn := true } :=
    PowerAt.posted rfl
  refine recordHeat_warm ?_ (congrArg PowerState.thermalWarn hp)
  rw [shelterStates, hp]
  exact hs

end Sys2Proof.Machine

namespace Sys2Proof

open Sys2Proof.Machine

/-- Settles O56: POWER_STATUS and POWER_STATE_SET, then warnings, transitions, wakes and the die's temperature step by step. -/
theorem powerStepsTakeEffect : Obligations.PowerStepsTakeEffect := by
  refine ⟨fun o p s => ⟨?status, ?measured, ?same, ?other⟩, fun s => ⟨?warns, ?warnsAgain, ?bothWarn, ?recovers, ?noWarning, ?ended,
    ?waits, ?recovery, ?muteDoze, ?doze, ?dozeSpec, ?muteSleep, ?dozeSleep, ?sleep, ?active, ?wakeNot, ?wakes, ?twWakes, ?heat, ?heatBoot,
    ?shutdown, ?recover, ?recoverHalted, ?recoverNot⟩⟩
  case status => exact fun h => hostCommand_accepted h (reads powerStatusResult)
  case measured =>
    intro house vcore dvdd avdd vin vaux t20 h hh h25 h24 h26 h27 h23 h20
    refine (hostCommand_accepted h (reads powerStatusResult)).trans (congrArg (answerOn 0x0D01 o s 0 · (takeLog s)) ?_)
    change powerStatusResult (takeLog s) = _
    unfold powerStatusResult
    dsimp only
    rw [show railMv (takeLog s) 2 25 = _ from railMv_measured (s := takeLog s) hh h25,
      show railMv (takeLog s) 3 24 = _ from railMv_measured (s := takeLog s) hh h24,
      show railMv (takeLog s) 4 26 = _ from railMv_measured (s := takeLog s) hh h26,
      show railMv (takeLog s) 5 27 = _ from railMv_measured (s := takeLog s) hh h27,
      show railMv (takeLog s) 6 23 = _ from railMv_measured (s := takeLog s) hh h23,
      show coreTemp (takeLog s) = _ from coreTemp_measured (s := takeLog s) h20]
    rfl
  case same => exact fun h hsame => hostCommand_does h (powerStateSetDo_same (s := takeLog s) hsame)
  case other => exact fun w h hne hw => hostCommand_does h (powerStateSetDo_other (s := takeLog s) hne hw)
  case warns =>
    intro rail hdev hsh
    have hs := shelterStates_of hdev
    have h := supplyWarning_shelters (rail := rail.val) hs hsh
    obtain ⟨h1, h2, h3, -⟩ := warned_spec rail s.pwr
    refine ⟨_, exec_supplyWarning (supervised_of_shelterStates hs), congrArg PowerState.shelter h,
      (congrArg (fun q : PowerState => tget 0 q.warnCounts rail.val) h).trans h1,
      noted_of h h2, (congrArg PowerState.dev h).trans h3⟩
  case warnsAgain =>
    intro rail hsup hsh
    have h := supplyWarning_sheltered (rail := rail.val) (s := s) fun hs => hsh (by simpa [shelterStates] using hs)
    obtain ⟨h1, h2, h3, h4⟩ := warned_spec rail s.pwr
    refine ⟨_, exec_supplyWarning hsup, (congrArg PowerState.shelter h).trans h4,
      (congrArg (fun q : PowerState => tget 0 q.warnCounts rail.val) h).trans h1,
      noted_of h h2, (congrArg PowerState.dev h).trans h3⟩
  case bothWarn =>
    intro hsup hA hV
    constructor
    · refine (exec_railRecovers (rail := 0) hsup).trans (congrArg Host.Outcome.next ?_)
      simp [railRecovers, hA, hV, pwrMod]
    · refine (exec_railRecovers (rail := 1) hsup).trans (congrArg Host.Outcome.next ?_)
      simp [railRecovers, hA, hV, pwrMod]
  case recovers =>
    intro rail hsup h
    obtain ⟨t, ht, hdev⟩ := railRecovers_ends h
    obtain ⟨h1, h2, h3, h4⟩ := shelterEnd_spec t
    exact ⟨_, (exec_railRecovers hsup).trans (congrArg Host.Outcome.next ht), h1, h2, h3, h4.trans hdev⟩
  case noWarning => exact fun rail h => exec_railRecovers_none h
  case ended =>
    intro hsup h
    exact ⟨_, show execShelterEnd s = _ from whenever_true (by rcases h with h | h | h <;> simp [hsup, h]), shelterEnd_spec s⟩
  case waits => exact fun tr htr h => exec_powerTransition_waits htr h
  case recovery =>
    intro tr htr h6 hm hcp hw
    rw [exec_powerTransition_unmuted htr hm hcp hw (by simp [h6]), if_neg (by simp [h6]), if_pos h6]
  case muteDoze =>
    intro tr htr h4 hm hcp hw hdev
    rw [exec_powerTransition_unmuted htr hm hcp hw (by simp [h4]), if_neg (by simp [h4]), if_neg (by simp [h4])]
    exact congrArg Host.Outcome.next ((if_pos hdev).trans (congrArg (fun u => outputsRest (relayRest u)) (if_neg (by simp [h4]))))
  case doze =>
    intro tr htr h4 hm hcp hw hrest
    rw [exec_powerTransition_muted htr hm hcp (restReady_doze h4 hw hrest), if_neg (by simp [h4])]
    rfl
  case dozeSpec =>
    intro tr htr h4 hm hcp hw hrest
    refine ⟨enterDoze tr s, ?_, enterDoze_spec tr s⟩
    rw [exec_powerTransition_muted htr hm hcp (restReady_doze h4 hw hrest), if_neg (by simp [h4])]
  case muteSleep =>
    intro tr htr h7 hm hcp hw hsh hdev
    rw [exec_powerTransition_unmuted htr hm hcp hw (fun _ => hsh), if_neg (by simp [h7]), if_neg (by simp [h7])]
    exact congrArg Host.Outcome.next ((if_pos hdev).trans (congrArg (fun u => outputsRest (relayRest u)) (if_pos h7)))
  case dozeSleep =>
    intro tr htr h7 hm hcp hsh hdev
    rw [exec_powerTransition_unmuted htr hm hcp (waitOver_doze hdev) (fun _ => hsh), if_neg (by simp [h7]), if_neg (by simp [h7])]
    exact congrArg Host.Outcome.next ((if_neg (by simp [hdev])).trans (if_pos h7))
  case sleep =>
    intro tr htr h7 hm hcp hrest
    refine ⟨enterSleep tr s, ?_, enterSleep_spec tr s⟩
    rw [exec_powerTransition_muted htr hm hcp hrest, if_pos h7]
  case active =>
    intro tr htr h3 hm hcp hdev
    rw [exec_powerTransition_unmuted htr hm hcp (waitOver_doze hdev) (by simp [h3]), if_pos h3]
  case wakeNot => exact fun src hd hw => show execWakeSource src s = _ from whenever_false (by simp [hw])
  case wakes =>
    intro src hd hw
    have hrun : exec (.wakeSource src) s = .next (wake (src.val + 1) s) :=
      show execWakeSource src s = _ from whenever_true (by simp [hd, hw])
    exact ⟨hrun, _, hrun, wake_awake _ s⟩
  case twWakes =>
    intro port a hd hp ha
    have hrun : exec (.twWakeMatch port a) s = .next (wake 1 (twMod s port (fun q => { q with acked := false }))) :=
      show execTwWakeMatch port a s = _ from whenever_true (by simp [hd, hp, ha])
    obtain ⟨h1, h2, -⟩ := wake_awake 1 (twMod s port (fun q => { q with acked := false }))
    exact ⟨hrun, _, hrun, h1, h2⟩
  case heat =>
    intro c hdev
    have hs := shelterStates_of hdev
    have hrun := exec_thermalWarning (c := c) (.inl hs)
    refine ⟨fun hc hw => ?_, fun hc hw => ?_, fun hc hw => ?_, fun hc hw => ?_⟩
    · rw [hrun, thermalWarning_begins hc hw, postedWarm hs]
    · rw [hrun, thermalWarning_ends hc hw]
    · rw [hrun, thermalWarning_stays (fun _ => hw) (fun h => by omega), recordHeat_warm hs hw]
    · rw [hrun, thermalWarning_stays (fun h => by omega) (fun _ => hw), recordHeat_cool hw]
  case heatBoot =>
    intro c hb
    have hrun := exec_thermalWarning (c := c) (.inr hb)
    refine ⟨fun hc hw => ?_, fun hc hw => ?_⟩
    · have hp : PowerAt { s.pwr with thermalWarn := true } (post 0x0D03 0 0 (1 + 65536 * unsigned 16 c) .none
        (pwrMod s (fun q => { q with thermalWarn := true }))) := .posted rfl
      rw [hrun, thermalWarning_begins hc hw, recordHeat_boot ((congrArg PowerState.dev hp).trans hb)]
    · rw [hrun, thermalWarning_ends hc hw]
  case shutdown =>
    intro hno hoff hpor hsl w
    exact ⟨_, show execThermalShutdown s = _ from whenever_true (by simp [supervised, hno, hoff, hpor, hsl]), thermalShutdown_spec w⟩
  case recover =>
    intro c hsh hc w hh
    obtain ⟨hp, ho, he⟩ := fabricBack_spec (pwrMod s (fun p => { p with thermalShut := false }))
    have hrun : exec (.thermalRecover c) s = .next (thermalRecover c s) :=
      show execThermalRecover c s = _ from whenever_true (by simp [hsh, hc])
    refine ⟨_, hrun.trans (congrArg Host.Outcome.next (thermalRecover_running hh)), congrArg PowerState.thermalShut hp.thermalBack, fun k hk => ?_⟩
    obtain ⟨h1, h2, h3⟩ := outGet_thermalBack_running (t20 := c) ((congrArg (tblWf Output.reset) ho).trans w) (he.trans hh) hk
    exact ⟨h1, h2, h3.trans (congrArg (fun q : Output => q.faults + 1) (outGet_of_outs ho k))⟩
  case recoverHalted =>
    intro c hsh hc w hh
    have hrun : exec (.thermalRecover c) s = .next (thermalRecover c s) :=
      show execThermalRecover c s = _ from whenever_true (by simp [hsh, hc])
    have hp : PowerAt { s.pwr with thermalShut := false } (pwrMod s (fun p => { p with thermalShut := false })) := rfl
    have he : EngineAt s.eng (pwrMod s (fun p => { p with thermalShut := false })) := rfl
    exact ⟨_, hrun.trans (congrArg Host.Outcome.next (thermalRecover_halted hh)), congrArg PowerState.thermalShut hp.thermalBack,
      he.thermalBack, fun k hk => outGet_thermalBack_halted (s := pwrMod s (fun p => { p with thermalShut := false })) w hh hk⟩
  case recoverNot =>
    intro c h
    refine show execThermalRecover c s = _ from whenever_false ?_
    rcases h with h | h
    · simp [h]
    · simp [h]

end Sys2Proof

end

section
/-! PROOF. What resets and the steps of the start leave of the power state, the engine, the converters and capture. -/

namespace Sys2Proof.Machine

theorem PowerAt.replied {v : PowerState} {s : State} {n : Nat} {r : Reply} (inv : PowerAt v s) :
    PowerAt v (Machine.placeReply n r s) := by
  simpa [PowerAt] using inv

theorem PowerAt.completedAll {v : PowerState} {s : State} {xs : List Waiter} {st : Nat}
    (inv : PowerAt v s) : PowerAt v (Machine.completeAll xs st s) := by
  simpa [PowerAt] using inv

theorem PowerAt.drawReading {v : PowerState} {s : State} (inv : PowerAt v s) :
    PowerAt v (Machine.drawReading s).2 :=
  inv

theorem PowerAt.drawRound {v : PowerState} {s : State} (inv : PowerAt v s) :
    PowerAt v (Machine.drawRound s).2 :=
  inv

theorem PowerAt.sectionMod {v : PowerState} {s : State} {k : Nat} {f : Section → Section} (inv : PowerAt v s)
    : PowerAt v (Machine.sectionMod s k f) :=
  inv

theorem PowerAt.slotMod {v : PowerState} {s : State} {k : Nat} {f : Slot → Slot} (inv : PowerAt v s) :
    PowerAt v (Machine.slotMod s k f) :=
  inv

theorem PowerAt.commitSlot {v : PowerState} {s : State} {k : Nat} {target : Word} {ms log : Nat}
    (inv : PowerAt v s) : PowerAt v (Machine.commitSlot k target ms log s) :=
  .slotMod inv

theorem PowerAt.usbMod {v : PowerState} {s : State} {p : Nat} {f : Usb → Usb} (inv : PowerAt v s) :
    PowerAt v (Machine.usbMod s p f) :=
  .ite inv inv

theorem PowerAt.usbStreamMod {v : PowerState} {s : State} {p i : Nat} {f : UsbStream → UsbStream}
    (inv : PowerAt v s) : PowerAt v (Machine.usbStreamMod s p i f) :=
  .usbMod inv

theorem PowerAt.usbDiscard {v : PowerState} {s : State} {n : Nat} (inv : PowerAt v s) :
    PowerAt v (Machine.usbDiscard n s) :=
  .foldl inv (fun _ _ h => .foldl h (fun _ _ h => .ite (.usbStreamMod h) h))

theorem PowerAt.hidChange {v : PowerState} {s : State} {p bits : Nat} (inv : PowerAt v s) :
    PowerAt v (Machine.hidChange p bits s) :=
  .usbMod inv

theorem PowerAt.hidBit {v : PowerState} {s : State} {p k : Nat} {on : Bool} (inv : PowerAt v s) :
    PowerAt v (Machine.hidBit p k on s) :=
  .hidChange inv

theorem PowerAt.hidRelease {v : PowerState} {s : State} {j : Nat} (inv : PowerAt v s) :
    PowerAt v (Machine.hidRelease j s) :=
  .ite (.foldl inv (fun _ _ h => .hidBit h)) inv

theorem PowerAt.releaseButton {v : PowerState} {s : State} {j : Nat} (inv : PowerAt v s) :
    PowerAt v (Machine.releaseButton j s) :=
  .jackMod (.hidRelease inv)

theorem PowerAt.classify {v : PowerState} {s : State} {j : Nat} (inv : PowerAt v s) :
    PowerAt v (Machine.classify j s) :=
  .serveJacks (.jackMod (.releaseButton inv))

theorem PowerAt.reclassifyNow {v : PowerState} {s : State} {j : Nat} (inv : PowerAt v s) :
    PowerAt v (Machine.reclassifyNow j s) :=
  .ite (.classify inv) inv

theorem PowerAt.faultOutput {v : PowerState} {s : State} {o cause : Nat} (inv : PowerAt v s) :
    PowerAt v (Machine.faultOutput o cause s) :=
  .reclassifyNow (.auxFollow (.refreshPump (.postOutFault (.outMod (.stopDriving inv)))))

theorem PowerAt.streamsRefused {v : PowerState} {s : State} {ov status log : Nat} (inv : PowerAt v s) :
    PowerAt v (Machine.streamsRefused ov status log s) :=
  .foldl inv (fun _ _ h => .ite (.completedAll (.posted (.streamMod h))) h)

theorem PowerAt.ovMod {v : PowerState} {s : State} {n : Nat} {f : Overlay → Overlay} (inv : PowerAt v s) :
    PowerAt v (Machine.ovMod s n f) :=
  inv

theorem PowerAt.ovChanged {v : PowerState} {s : State} {n st : Nat} {c : OvCause} (inv : PowerAt v s) :
    PowerAt v (Machine.ovChanged n st c s) :=
  .posted inv

theorem PowerAt.enterOv {v : PowerState} {s : State} {n st : Nat} (inv : PowerAt v s) :
    PowerAt v (Machine.enterOv n st s) :=
  .ovChanged (.ovMod inv)

theorem PowerAt.gateTo {v : PowerState} {s : State} {n : Nat} {up cut : Bool} {ramp : Nat} (inv : PowerAt v s)
    : PowerAt v (Machine.gateTo n up cut ramp s) := by
  unfold Machine.gateTo
  split
  · exact .commitSlot inv
  · exact inv

theorem PowerAt.rampMod {v : PowerState} {s : State} {k : Nat} {f : RouteRamp → RouteRamp} (inv : PowerAt v s)
    : PowerAt v (Machine.rampMod s k f) :=
  inv

theorem PowerAt.askRoutes {v : PowerState} {s : State} {up : Bool} {ks : List Nat} (inv : PowerAt v s) :
    PowerAt v (Machine.askRoutes up ks s) :=
  .foldl inv (fun _ _ h => .rampMod h)

theorem PowerAt.reverseOverlay {v : PowerState} {s : State} {n st : Nat} {q : QueuedAct} (inv : PowerAt v s) :
    PowerAt v (Machine.reverseOverlay n st q s) :=
  .askRoutes (.gateTo (.enterOv (.ovMod (.completedAll inv))))

theorem PowerAt.dropLoad {v : PowerState} {s : State} (inv : PowerAt v s) :
    PowerAt v (Machine.dropLoad s) := by
  unfold Machine.dropLoad
  split
  · exact inv
  · exact .foldl (.askRoutes inv) (fun _ _ h => .ite (.askRamp h) h)

theorem PowerAt.abandonActivation {v : PowerState} {s : State} {n : Nat} (inv : PowerAt v s) :
    PowerAt v (Machine.abandonActivation n s) := by
  unfold Machine.abandonActivation
  dsimp only
  split
  · exact .ite (.dropLoad inv) inv
  · exact inv

theorem PowerAt.startDeactivation {v : PowerState} {s : State} {n : Nat} {q : QueuedAct} (inv : PowerAt v s) :
    PowerAt v (Machine.startDeactivation n q s) :=
  .askRoutes (.gateTo (.enterOv (.ovMod inv)))

theorem PowerAt.giveUp {v : PowerState} {s : State} {n log : Nat} {ws : List Waiter} (inv : PowerAt v s) :
    PowerAt v (Machine.giveUp n log ws s) :=
  .streamsRefused (.completedAll inv)

theorem PowerAt.deactivateOverlay {v : PowerState} {s : State} {n : Nat} {q : QueuedAct} (inv : PowerAt v s) :
    PowerAt v (Machine.deactivateOverlay n q s).2 := by
  unfold Machine.deactivateOverlay
  extract_lets v
  split
  · exact inv
  · dsimp only
    exact .usbDiscard (.enterOv (.ovMod (.giveUp (.abandonActivation inv))))
  · exact .reverseOverlay inv
  · exact .startDeactivation inv
  · dsimp only
    exact .giveUp (.ovMod inv)

theorem PowerAt.startFadeOut {v : PowerState} {s : State} {k m : Nat} (inv : PowerAt v s) :
    PowerAt v (Machine.startFadeOut k m s) :=
  .memMod inv

theorem PowerAt.startFadeIn {v : PowerState} {s : State} {k m : Nat} (inv : PowerAt v s) :
    PowerAt v (Machine.startFadeIn k m s) :=
  .memMod inv

theorem PowerAt.stopMember {v : PowerState} {s : State} {k m : Nat} (inv : PowerAt v s) :
    PowerAt v (Machine.stopMember k m s) :=
  .ite inv (.ite (.memMod (.foldl inv (fun _ _ h => .startFadeOut h))) (.ite (.memMod inv) (.memMod inv)))

theorem PowerAt.lockstepStart {v : PowerState} {s : State} {k : Nat} (inv : PowerAt v s) :
    PowerAt v (Machine.lockstepStart k s) :=
  .ite (.foldl inv (fun _ _ h => .startFadeIn h)) inv

theorem PowerAt.settleIndex {v : PowerState} {s : State} {k : Nat} (inv : PowerAt v s) :
    PowerAt v (Machine.settleIndex k s) :=
  .ite (.lockstepStart (.convMod inv)) inv

theorem PowerAt.stopMembers {v : PowerState} {s : State} {port sub : Nat} {egress : Bool} (inv : PowerAt v s)
    : PowerAt v (Machine.stopMembers port sub egress s) :=
  .foldl inv (fun _ _ h => .settleIndex (.stopMember h))

theorem PowerAt.serialPins {v : PowerState} {s : State} (inv : PowerAt v s) :
    PowerAt v (Machine.serialPins s) :=
  .spdifPins (.foldl inv (fun _ _ h => .saiMod h))

theorem PowerAt.usbStop {v : PowerState} {s : State} {p i : Nat} (inv : PowerAt v s) :
    PowerAt v (Machine.usbStop p i s) :=
  .stopMembers inv

theorem PowerAt.postUsb {v : PowerState} {s : State} {code p log data : Nat} (inv : PowerAt v s) :
    PowerAt v (Machine.postUsb code p log data s) :=
  .posted inv

theorem PowerAt.postUsbState {v : PowerState} {s : State} {p cause log : Nat} (inv : PowerAt v s) :
    PowerAt v (Machine.postUsbState p cause log s) :=
  .postUsb inv

theorem PowerAt.usbLeave {v : PowerState} {s : State} {n log : Nat} (inv : PowerAt v s) :
    PowerAt v (Machine.usbLeave n log s).2 := by
  unfold Machine.usbLeave
  split
  · exact inv
  · exact .deactivateOverlay inv

theorem PowerAt.usbForget {v : PowerState} {s : State} {p i : Nat} (inv : PowerAt v s) :
    PowerAt v (Machine.usbForget p i s) :=
  inv

theorem PowerAt.usbZero {v : PowerState} {s : State} {p i log : Nat} (inv : PowerAt v s) :
    PowerAt v (Machine.usbZero p i log s).2 :=
  .pairIte inv (.pairIte (.usbForget (.usbStreamMod (.usbStop inv)))
    (.usbLeave (.usbForget (.usbStreamMod (.usbStop inv)))))

theorem PowerAt.usbToZero {v : PowerState} {s : State} {p log i : Nat} (inv : PowerAt v s) :
    PowerAt v (Machine.usbToZero p log s i) :=
  .usbZero inv

theorem PowerAt.usbAllZero {v : PowerState} {s : State} {p log : Nat} (inv : PowerAt v s) :
    PowerAt v (Machine.usbAllZero p log s) :=
  .foldl inv (fun _ _ h => .usbToZero h)

theorem PowerAt.usbDetach {v : PowerState} {s : State} {p cause log : Nat} (inv : PowerAt v s) :
    PowerAt v (Machine.usbDetach p cause log s) :=
  .ite inv (.postUsbState (.usbMod (.usbAllZero inv)))

theorem PowerAt.usbAttach {v : PowerState} {s : State} {p cause log : Nat} (inv : PowerAt v s) :
    PowerAt v (Machine.usbAttach p cause log s) :=
  .postUsbState (.usbMod inv)

theorem PowerAt.usbFollow {v : PowerState} {s : State} {p cause log : Nat} (inv : PowerAt v s) :
    PowerAt v (Machine.usbFollow p cause log s) :=
  .ite (.usbDetach inv) (.ite (.usbAttach inv) (.ite (.usbAttach (.usbDetach inv)) inv))

theorem PowerAt.systemEnds {v : PowerState} {s : State} (inv : PowerAt v s) :
    PowerAt v (Machine.systemEnds s) :=
  .ite (.ite (.scanBegin (.measMod inv)) (.measMod inv)) inv

theorem PowerAt.postPlausibility {v : PowerState} {s : State} {what : Nat} {diff : ℤ} (inv : PowerAt v s) :
    PowerAt v (Machine.postPlausibility what diff s) :=
  .posted inv

theorem PowerAt.failSar {v : PowerState} {s : State} {c : Nat} {diff : ℤ} (inv : PowerAt v s) :
    PowerAt v (Machine.failSar c diff s) :=
  .ite inv (.systemEnds (.postPlausibility (.measMod (.sarMod inv))))

theorem PowerAt.haltEngine {v : PowerState} {s : State} (inv : PowerAt v s) : PowerAt v (Machine.haltEngine s) := by
  have halted : PowerAt v (Machine.stopTick { s with eng := { s.eng with halted := true } }) := inv
  unfold Machine.haltEngine
  exact .auxFollow (.foldl (.phyReset (.serialFault halted)) (fun _ _ h => .faultOutput h))

theorem PowerAt.setChartSlot {v : PowerState} {s : State} {n : Nat} {f : ChartSlot → ChartSlot}
    (inv : PowerAt v s) : PowerAt v (Machine.setChartSlot s n f) :=
  .ite inv inv

theorem PowerAt.chartEraseDone {v : PowerState} {s : State} {w : Waiter} {slot length : Nat}
    (inv : PowerAt v s) : PowerAt v (Machine.chartEraseDone w slot length s) := by
  unfold Machine.chartEraseDone
  refine .completed ?_
  dsimp only
  exact .setChartSlot inv

theorem PowerAt.chartCloseDone {v : PowerState} {s : State} {w : Waiter} {slot status : Nat}
    (inv : PowerAt v s) : PowerAt v (Machine.chartCloseDone w slot status s) :=
  .completed (.posted (.setChartSlot inv))

theorem PowerAt.recordWritten {v : PowerState} {s : State} {r : HullRecord} (inv : PowerAt v s) :
    PowerAt v (Machine.recordWritten r s) :=
  .ite inv (.ite inv inv)

theorem PowerAt.summaryWritten {v : PowerState} {s : State} {horizon : Option Nat} (inv : PowerAt v s) :
    PowerAt v (Machine.summaryWritten horizon s) :=
  inv

theorem PowerAt.setCopyOf {v : PowerState} {s : State} {n : Nat} {c : SettingsCopy} (inv : PowerAt v s) :
    PowerAt v (Machine.setCopyOf s n c) :=
  .ite inv inv

theorem PowerAt.copyWritten {v : PowerState} {s : State} {items : List SettingsItem} (inv : PowerAt v s) :
    PowerAt v (Machine.copyWritten items s) := by
  unfold Machine.copyWritten
  dsimp only
  exact .setCopyOf inv

theorem PowerAt.copiesErased {v : PowerState} {s : State} (inv : PowerAt v s) :
    PowerAt v (Machine.copiesErased s) :=
  inv

theorem PowerAt.applyItem {v : PowerState} {s : State} {it : SettingsItem} (inv : PowerAt v s) :
    PowerAt v (Machine.applyItem s it) := by
  unfold Machine.applyItem
  split
  · exact .slotMod inv
  · exact .capMod inv
  · exact .sectionMod inv
  · exact .capMod inv
  · exact .jackMod inv
  · exact .gptpMod inv
  · exact inv
  · exact inv

theorem PowerAt.applyCopy {v : PowerState} {s : State} {copy : SettingsCopy} (inv : PowerAt v s) :
    PowerAt v (Machine.applyCopy copy s) := by
  unfold Machine.applyCopy
  dsimp only
  exact .foldl inv (fun _ _ h => .applyItem h)

theorem PowerAt.postFallback {v : PowerState} {s : State} {copy cause format : Nat} (inv : PowerAt v s) :
    PowerAt v (Machine.postFallback copy cause format s) :=
  .posted inv

theorem PowerAt.settingsLoad {v : PowerState} {s : State} (inv : PowerAt v s) :
    PowerAt v (Machine.settingsLoad s) := by
  unfold Machine.settingsLoad
  split
  · split
    · dsimp only
      split
      · exact .postFallback inv
      · exact .ite (.applyCopy inv) (.ite (.applyCopy inv) (.postFallback inv))
    · dsimp only
      split
      · exact .postFallback inv
      · exact .ite (.applyCopy inv) (.ite (.applyCopy inv) (.postFallback inv))
  · split
    · dsimp only
      split
      · exact .postFallback inv
      · exact .ite (.applyCopy inv) (.ite (.applyCopy inv) (.postFallback inv))
    · dsimp only
      split
      · exact .postFallback inv
      · exact .ite (.applyCopy inv) (.ite (.applyCopy inv) (.postFallback inv))

theorem PowerAt.fwMod {v : PowerState} {s : State} {f : FwState → FwState} (inv : PowerAt v s) :
    PowerAt v (Machine.fwMod s f) :=
  inv

theorem PowerAt.postFwState {v : PowerState} {s : State} {cause log : Nat} (inv : PowerAt v s) :
    PowerAt v (Machine.postFwState cause log s) :=
  .posted inv

theorem PowerAt.dfuDone {v : PowerState} {s : State} {p : Nat} {verify : Bool} {status : Nat}
    (inv : PowerAt v s) : PowerAt v (Machine.dfuDone p verify status s) :=
  .usbMod inv

theorem PowerAt.finishAsk {v : PowerState} {s : State} {a : Asker} {verify : Bool} {status : Nat} {data : List Byte}
    (inv : PowerAt v s) : PowerAt v (Machine.finishAsk a verify status data s) := by
  unfold Machine.finishAsk
  split
  · exact inv
  · exact .completed inv
  · exact .replied inv
  · exact .dfuDone inv

theorem PowerAt.confirmDone {v : PowerState} {s : State} {w : Option Waiter} {log : Nat} (inv : PowerAt v s) :
    PowerAt v (Machine.confirmDone w log s) := by
  unfold Machine.confirmDone
  refine .ite ?_ (.postFwState ?_)
  · split
    · exact .completed inv
    · exact inv
  · split
    · exact .completed (.fwMod inv)
    · exact .fwMod inv

theorem PowerAt.eraseLoses {v : PowerState} {s : State} {sector : Nat} (inv : PowerAt v s) :
    PowerAt v (Machine.eraseLoses sector s) :=
  .ite (.setCopyOf inv) (.ite (.setCopyOf inv) (.ite inv (.ite inv inv)))

theorem PowerAt.eraseEffect {v : PowerState} {s : State} {sector : Nat} (inv : PowerAt v s) :
    PowerAt v (Machine.eraseEffect sector s) :=
  .eraseLoses (.countErase inv)

theorem PowerAt.stepEffect {v : PowerState} {s : State} {j : NvmJob} {st : NvmStep} {ok : Bool}
    (inv : PowerAt v s) : PowerAt v (Machine.stepEffect j st ok s) := by
  unfold Machine.stepEffect
  split
  · exact .eraseEffect inv
  · exact .ite (.copyWritten inv) inv
  · exact .ite (.copyWritten inv) inv
  · exact inv

theorem PowerAt.ownEffect {v : PowerState} {s : State} {j : NvmJob} (inv : PowerAt v s) :
    PowerAt v (Machine.ownEffect j s) := by
  unfold Machine.ownEffect
  split
  · exact .fwMod inv
  · exact .setChartSlot inv
  · exact .fwMod inv
  · exact inv

theorem PowerAt.ownWrite {v : PowerState} {s : State} {j : NvmJob} (inv : PowerAt v s) :
    PowerAt v (Machine.ownWrite j s) :=
  .ite (.askNvm inv) (.ownEffect inv)

theorem PowerAt.jobDone {v : PowerState} {s : State} {j : NvmJob} (inv : PowerAt v s) :
    PowerAt v (Machine.jobDone j s) := by
  unfold Machine.jobDone
  split
  · exact .chartEraseDone inv
  · exact .chartCloseDone inv
  · exact .completed (.copiesErased inv)
  · exact .completed inv
  · exact .confirmDone inv
  · exact .completed (.fwMod inv)
  · exact .finishAsk (.summaryWritten inv)
  · exact .recordWritten inv
  · exact .ownEffect inv
  · exact .ownEffect inv
  · exact .ownEffect inv

theorem PowerAt.jobFailed {v : PowerState} {s : State} {j : NvmJob} (inv : PowerAt v s) :
    PowerAt v (Machine.jobFailed j s) := by
  unfold Machine.jobFailed
  split
  · exact .completed inv
  · exact .chartCloseDone inv
  · exact .completed inv
  · exact .completed inv
  · exact .completed inv
  · exact inv
  · exact .completed inv
  · exact .finishAsk inv
  · exact inv
  · exact inv
  · exact inv
  · exact inv

theorem PowerAt.nvmStepDone {v : PowerState} {s : State} {ok : Bool} (inv : PowerAt v s) :
    PowerAt v (Machine.nvmStepDone ok s) := by
  unfold Machine.nvmStepDone
  split
  · exact .ite (.nvmStart (.fwMod (.stepEffect inv))) (.nvmStart
      (.ite (.jobDone (.fwMod (.stepEffect inv))) (.jobFailed (.fwMod (.stepEffect inv)))))
  · exact inv

theorem PowerAt.tornRow {v : PowerState} {s : State} {j : NvmJob} (inv : PowerAt v s) :
    PowerAt v (Machine.tornRow j s) := by
  unfold Machine.tornRow
  split
  · exact .recordWritten inv
  · exact inv

theorem PowerAt.cutStep {v : PowerState} {s : State} (inv : PowerAt v s) :
    PowerAt v (Machine.cutStep s) := by
  unfold Machine.cutStep
  split
  · exact .eraseLoses inv
  · exact .ite (.nvmStepDone (.drawRound inv)) (.tornRow (.drawRound inv))
  · exact inv

theorem PowerAt.startDetRef {v : PowerState} {s : State} (inv : PowerAt v s) :
    PowerAt v (Machine.startDetRef s) :=
  .auxMod inv

theorem PowerAt.clearBusy {v : PowerState} {s : State} (inv : PowerAt v s) :
    PowerAt v (Machine.clearBusy s) :=
  .twMod (.twMod inv)

theorem PowerAt.postHullReset {v : PowerState} {s : State} {was : Bool} (inv : PowerAt v s) :
    PowerAt v (Machine.postHullReset was s) :=
  .ite inv (.posted inv)

theorem PowerAt.postStarted {v : PowerState} {s : State} (inv : PowerAt v s) :
    PowerAt v (Machine.postStarted s) :=
  .posted inv

theorem PowerAt.postStartVariant {v : PowerState} {s : State} (inv : PowerAt v s) :
    PowerAt v (Machine.postStartVariant s) :=
  .ite (.posted inv) inv
theorem EngineAt.jackMod {v : EngineState} {s : State} {j : Nat} {f : Jack → Jack} (inv : EngineAt v s) :
    EngineAt v (Machine.jackMod s j f) :=
  .ite inv inv

theorem EngineAt.serveJacks {v : EngineState} {s : State} (inv : EngineAt v s) : EngineAt v (Machine.serveJacks s) :=
  (congrArg State.eng (serveJacks_restAux s)).trans inv

theorem EngineAt.usbMod {v : EngineState} {s : State} {p : Nat} {f : Usb → Usb} (inv : EngineAt v s) :
    EngineAt v (Machine.usbMod s p f) :=
  .ite inv inv

theorem EngineAt.hidChange {v : EngineState} {s : State} {p bits : Nat} (inv : EngineAt v s) :
    EngineAt v (Machine.hidChange p bits s) :=
  .usbMod inv

theorem EngineAt.hidBit {v : EngineState} {s : State} {p k : Nat} {on : Bool} (inv : EngineAt v s) :
    EngineAt v (Machine.hidBit p k on s) :=
  .hidChange inv

theorem EngineAt.hidRelease {v : EngineState} {s : State} {j : Nat} (inv : EngineAt v s) :
    EngineAt v (Machine.hidRelease j s) :=
  .ite (.foldl inv (fun _ _ h => .hidBit h)) inv

theorem EngineAt.releaseButton {v : EngineState} {s : State} {j : Nat} (inv : EngineAt v s) :
    EngineAt v (Machine.releaseButton j s) :=
  .jackMod (.hidRelease inv)

theorem EngineAt.classify {v : EngineState} {s : State} {j : Nat} (inv : EngineAt v s) :
    EngineAt v (Machine.classify j s) :=
  .serveJacks (.jackMod (.releaseButton inv))

theorem EngineAt.reclassifyNow {v : EngineState} {s : State} {j : Nat} (inv : EngineAt v s) :
    EngineAt v (Machine.reclassifyNow j s) :=
  .ite (.classify inv) inv

theorem EngineAt.faultOutput {v : EngineState} {s : State} {o cause : Nat} (inv : EngineAt v s) :
    EngineAt v (Machine.faultOutput o cause s) :=
  .reclassifyNow (.auxFollow (.refreshPump (.postOutFault (.outMod (.stopDriving inv)))))

theorem EngineAt.measMod {v : EngineState} {s : State} {f : MeasState → MeasState} (inv : EngineAt v s) :
    EngineAt v (Machine.measMod s f) :=
  inv

theorem EngineAt.sarMod {v : EngineState} {s : State} {c : Nat} {f : Sar → Sar} (inv : EngineAt v s) :
    EngineAt v (Machine.sarMod s c f) :=
  .ite (.measMod inv) (.measMod inv)

theorem EngineAt.scanBegin {v : EngineState} {s : State} (inv : EngineAt v s) :
    EngineAt v (Machine.scanBegin s) :=
  .measMod inv

theorem EngineAt.systemEnds {v : EngineState} {s : State} (inv : EngineAt v s) :
    EngineAt v (Machine.systemEnds s) :=
  .ite (.ite (.scanBegin (.measMod inv)) (.measMod inv)) inv

theorem EngineAt.postPlausibility {v : EngineState} {s : State} {what : Nat} {diff : ℤ} (inv : EngineAt v s) :
    EngineAt v (Machine.postPlausibility what diff s) :=
  .posted inv

theorem EngineAt.failSar {v : EngineState} {s : State} {c : Nat} {diff : ℤ} (inv : EngineAt v s) :
    EngineAt v (Machine.failSar c diff s) :=
  .ite inv (.systemEnds (.postPlausibility (.measMod (.sarMod inv))))
/-- The measurement ADC. -/
def MeasAt (v : MeasState) (s : State) : Prop := s.meas = v

theorem MeasAt.ite {v : MeasState} {c : Prop} {dec : Decidable c} {s t : State} (hs : MeasAt v s)
    (ht : MeasAt v t) : MeasAt v (if c then s else t) := by
  split
  · exact hs
  · exact ht

theorem MeasAt.foldl {v : MeasState} {s : State} {β : Type} {f : State → β → State} {l : List β}
    (inv : MeasAt v s) (h : ∀ t x, MeasAt v t → MeasAt v (f t x)) :
    MeasAt v (l.foldl f s) :=
  foldl_inv (fun t : State => MeasAt v t) f h l s inv

theorem MeasAt.posted {v : MeasState} {s : State} {code inst log data : Nat} {cn : Concern}
    (inv : MeasAt v s) : MeasAt v (Machine.post code inst log data cn s) := by
  simpa [MeasAt] using inv

theorem MeasAt.jackMod {v : MeasState} {s : State} {j : Nat} {f : Jack → Jack} (inv : MeasAt v s) :
    MeasAt v (Machine.jackMod s j f) :=
  .ite inv inv

theorem MeasAt.serveJacks {v : MeasState} {s : State} (inv : MeasAt v s) : MeasAt v (Machine.serveJacks s) :=
  (congrArg State.meas (serveJacks_restAux s)).trans inv

theorem MeasAt.auxFollow {v : MeasState} {s : State} (inv : MeasAt v s) : MeasAt v (Machine.auxFollow s) :=
  (congrArg State.meas (auxFollow_restAux s)).trans inv

theorem MeasAt.usbMod {v : MeasState} {s : State} {p : Nat} {f : Usb → Usb} (inv : MeasAt v s) :
    MeasAt v (Machine.usbMod s p f) :=
  .ite inv inv

theorem MeasAt.hidChange {v : MeasState} {s : State} {p bits : Nat} (inv : MeasAt v s) :
    MeasAt v (Machine.hidChange p bits s) :=
  .usbMod inv

theorem MeasAt.hidBit {v : MeasState} {s : State} {p k : Nat} {on : Bool} (inv : MeasAt v s) :
    MeasAt v (Machine.hidBit p k on s) :=
  .hidChange inv

theorem MeasAt.outMod {v : MeasState} {s : State} {o : Nat} {f : Output → Output} (inv : MeasAt v s) :
    MeasAt v (Machine.outMod s o f) :=
  inv

theorem MeasAt.refreshPump {v : MeasState} {s : State} (inv : MeasAt v s) :
    MeasAt v (Machine.refreshPump s) :=
  inv

theorem MeasAt.stopDriving {v : MeasState} {s : State} {o : Nat} (inv : MeasAt v s) :
    MeasAt v (Machine.stopDriving o s) :=
  .refreshPump (.outMod inv)

theorem MeasAt.hidRelease {v : MeasState} {s : State} {j : Nat} (inv : MeasAt v s) :
    MeasAt v (Machine.hidRelease j s) :=
  .ite (.foldl inv (fun _ _ h => .hidBit h)) inv

theorem MeasAt.releaseButton {v : MeasState} {s : State} {j : Nat} (inv : MeasAt v s) :
    MeasAt v (Machine.releaseButton j s) :=
  .jackMod (.hidRelease inv)

theorem MeasAt.classify {v : MeasState} {s : State} {j : Nat} (inv : MeasAt v s) :
    MeasAt v (Machine.classify j s) :=
  .serveJacks (.jackMod (.releaseButton inv))

theorem MeasAt.reclassifyNow {v : MeasState} {s : State} {j : Nat} (inv : MeasAt v s) :
    MeasAt v (Machine.reclassifyNow j s) :=
  .ite (.classify inv) inv

theorem MeasAt.postOutFault {v : MeasState} {s : State} {o cause : Nat} (inv : MeasAt v s) :
    MeasAt v (Machine.postOutFault o cause s) :=
  .posted inv

theorem MeasAt.faultOutput {v : MeasState} {s : State} {o cause : Nat} (inv : MeasAt v s) :
    MeasAt v (Machine.faultOutput o cause s) :=
  .reclassifyNow (.auxFollow (.refreshPump (.postOutFault (.outMod (.stopDriving inv)))))

theorem MeasAt.saiMod {v : MeasState} {s : State} {n : Nat} {f : Sai → Sai} (inv : MeasAt v s) :
    MeasAt v (Machine.saiMod s n f) :=
  inv

theorem MeasAt.serialFault {v : MeasState} {s : State} (inv : MeasAt v s) :
    MeasAt v (Machine.serialFault s) := by
  unfold Machine.serialFault
  dsimp only
  exact .foldl inv (fun _ _ h => .saiMod h)

theorem MeasAt.macMod {v : MeasState} {s : State} {f : Mac → Mac} (inv : MeasAt v s) :
    MeasAt v (Machine.macMod s f) :=
  inv

theorem MeasAt.phyReset {v : MeasState} {s : State} {low : Bool} (inv : MeasAt v s) :
    MeasAt v (Machine.phyReset low s) :=
  .macMod inv

theorem MeasAt.haltEngine {v : MeasState} {s : State} (inv : MeasAt v s) : MeasAt v (Machine.haltEngine s) := by
  have halted : MeasAt v (Machine.stopTick { s with eng := { s.eng with halted := true } }) := inv
  unfold Machine.haltEngine
  exact .auxFollow (.foldl (.phyReset (.serialFault halted)) (fun _ _ h => .faultOutput h))
/-- Capture. -/
def ChainsAt (v : CaptureState) (s : State) : Prop := s.cap = v

theorem ChainsAt.ite {v : CaptureState} {c : Prop} {dec : Decidable c} {s t : State} (hs : ChainsAt v s)
    (ht : ChainsAt v t) : ChainsAt v (if c then s else t) := by
  split
  · exact hs
  · exact ht

theorem ChainsAt.posted {v : CaptureState} {s : State} {code inst log data : Nat} {cn : Concern}
    (inv : ChainsAt v s) : ChainsAt v (Machine.post code inst log data cn s) := by
  simpa [ChainsAt] using inv

theorem ChainsAt.measMod {v : CaptureState} {s : State} {f : MeasState → MeasState} (inv : ChainsAt v s) :
    ChainsAt v (Machine.measMod s f) :=
  inv

theorem ChainsAt.sarMod {v : CaptureState} {s : State} {c : Nat} {f : Sar → Sar} (inv : ChainsAt v s) :
    ChainsAt v (Machine.sarMod s c f) :=
  .ite (.measMod inv) (.measMod inv)

theorem ChainsAt.scanBegin {v : CaptureState} {s : State} (inv : ChainsAt v s) :
    ChainsAt v (Machine.scanBegin s) :=
  .measMod inv

theorem ChainsAt.systemEnds {v : CaptureState} {s : State} (inv : ChainsAt v s) :
    ChainsAt v (Machine.systemEnds s) :=
  .ite (.ite (.scanBegin (.measMod inv)) (.measMod inv)) inv

theorem ChainsAt.postPlausibility {v : CaptureState} {s : State} {what : Nat} {diff : ℤ} (inv : ChainsAt v s)
    : ChainsAt v (Machine.postPlausibility what diff s) :=
  .posted inv

theorem ChainsAt.failSar {v : CaptureState} {s : State} {c : Nat} {diff : ℤ} (inv : ChainsAt v s) :
    ChainsAt v (Machine.failSar c diff s) :=
  .ite inv (.systemEnds (.postPlausibility (.measMod (.sarMod inv))))
/-- The second two-wire port. -/
def PortAt (v : TwPort) (s : State) : Prop := s.tw1 = v

theorem PortAt.ite {v : TwPort} {c : Prop} {dec : Decidable c} {s t : State} (hs : PortAt v s)
    (ht : PortAt v t) : PortAt v (if c then s else t) := by
  split
  · exact hs
  · exact ht

theorem PortAt.pairIte {v : TwPort} {α : Type} {c : Prop} {dec : Decidable c} {x y : α × State}
    (hx : PortAt v x.2) (hy : PortAt v y.2) : PortAt v (if c then x else y).2 := by
  split
  · exact hx
  · exact hy

theorem PortAt.foldl {v : TwPort} {s : State} {β : Type} {f : State → β → State} {l : List β}
    (inv : PortAt v s) (h : ∀ t x, PortAt v t → PortAt v (f t x)) :
    PortAt v (l.foldl f s) :=
  foldl_inv (fun t : State => PortAt v t) f h l s inv

theorem PortAt.posted {v : TwPort} {s : State} {code inst log data : Nat} {cn : Concern}
    (inv : PortAt v s) : PortAt v (Machine.post code inst log data cn s) := by
  simpa [PortAt] using inv

theorem PortAt.completedAll {v : TwPort} {s : State} {xs : List Waiter} {st : Nat}
    (inv : PortAt v s) : PortAt v (Machine.completeAll xs st s) := by
  simpa [PortAt] using inv

theorem PortAt.slotMod {v : TwPort} {s : State} {k : Nat} {f : Slot → Slot} (inv : PortAt v s) :
    PortAt v (Machine.slotMod s k f) :=
  inv

theorem PortAt.commitSlot {v : TwPort} {s : State} {k : Nat} {target : Word} {ms log : Nat} (inv : PortAt v s)
    : PortAt v (Machine.commitSlot k target ms log s) :=
  .slotMod inv

theorem PortAt.usbMod {v : TwPort} {s : State} {p : Nat} {f : Usb → Usb} (inv : PortAt v s) :
    PortAt v (Machine.usbMod s p f) :=
  .ite inv inv

theorem PortAt.usbStreamMod {v : TwPort} {s : State} {p i : Nat} {f : UsbStream → UsbStream}
    (inv : PortAt v s) : PortAt v (Machine.usbStreamMod s p i f) :=
  .usbMod inv

theorem PortAt.usbDiscard {v : TwPort} {s : State} {n : Nat} (inv : PortAt v s) :
    PortAt v (Machine.usbDiscard n s) :=
  .foldl inv (fun _ _ h => .foldl h (fun _ _ h => .ite (.usbStreamMod h) h))

theorem PortAt.outMod {v : TwPort} {s : State} {o : Nat} {f : Output → Output} (inv : PortAt v s) :
    PortAt v (Machine.outMod s o f) :=
  inv

theorem PortAt.askRamp {v : TwPort} {s : State} {o : Nat} {up : Bool} {tenths after cause log : Nat}
    (inv : PortAt v s) : PortAt v (Machine.askRamp o up tenths after cause log s) :=
  .outMod inv

theorem PortAt.netMod {v : TwPort} {s : State} {f : NetState → NetState} (inv : PortAt v s) :
    PortAt v (Machine.netMod s f) :=
  inv

theorem PortAt.streamMod {v : TwPort} {s : State} {n : Nat} {f : Machine.Stream → Machine.Stream}
    (inv : PortAt v s) : PortAt v (Machine.streamMod s n f) :=
  .netMod inv

theorem PortAt.streamsRefused {v : TwPort} {s : State} {ov status log : Nat} (inv : PortAt v s) :
    PortAt v (Machine.streamsRefused ov status log s) :=
  .foldl inv (fun _ _ h => .ite (.completedAll (.posted (.streamMod h))) h)

theorem PortAt.ovMod {v : TwPort} {s : State} {n : Nat} {f : Overlay → Overlay} (inv : PortAt v s) :
    PortAt v (Machine.ovMod s n f) :=
  inv

theorem PortAt.ovChanged {v : TwPort} {s : State} {n st : Nat} {c : OvCause} (inv : PortAt v s) :
    PortAt v (Machine.ovChanged n st c s) :=
  .posted inv

theorem PortAt.enterOv {v : TwPort} {s : State} {n st : Nat} (inv : PortAt v s) :
    PortAt v (Machine.enterOv n st s) :=
  .ovChanged (.ovMod inv)

theorem PortAt.gateTo {v : TwPort} {s : State} {n : Nat} {up cut : Bool} {ramp : Nat} (inv : PortAt v s) :
    PortAt v (Machine.gateTo n up cut ramp s) := by
  unfold Machine.gateTo
  split
  · exact .commitSlot inv
  · exact inv

theorem PortAt.rampMod {v : TwPort} {s : State} {k : Nat} {f : RouteRamp → RouteRamp} (inv : PortAt v s) :
    PortAt v (Machine.rampMod s k f) :=
  inv

theorem PortAt.askRoutes {v : TwPort} {s : State} {up : Bool} {ks : List Nat} (inv : PortAt v s) :
    PortAt v (Machine.askRoutes up ks s) :=
  .foldl inv (fun _ _ h => .rampMod h)

theorem PortAt.reverseOverlay {v : TwPort} {s : State} {n st : Nat} {q : QueuedAct} (inv : PortAt v s) :
    PortAt v (Machine.reverseOverlay n st q s) :=
  .askRoutes (.gateTo (.enterOv (.ovMod (.completedAll inv))))

theorem PortAt.dropLoad {v : TwPort} {s : State} (inv : PortAt v s) :
    PortAt v (Machine.dropLoad s) := by
  unfold Machine.dropLoad
  split
  · exact inv
  · exact .foldl (.askRoutes inv) (fun _ _ h => .ite (.askRamp h) h)

theorem PortAt.abandonActivation {v : TwPort} {s : State} {n : Nat} (inv : PortAt v s) :
    PortAt v (Machine.abandonActivation n s) := by
  unfold Machine.abandonActivation
  dsimp only
  split
  · exact .ite (.dropLoad inv) inv
  · exact inv

theorem PortAt.startDeactivation {v : TwPort} {s : State} {n : Nat} {q : QueuedAct} (inv : PortAt v s) :
    PortAt v (Machine.startDeactivation n q s) :=
  .askRoutes (.gateTo (.enterOv (.ovMod inv)))

theorem PortAt.giveUp {v : TwPort} {s : State} {n log : Nat} {ws : List Waiter} (inv : PortAt v s) :
    PortAt v (Machine.giveUp n log ws s) :=
  .streamsRefused (.completedAll inv)

theorem PortAt.deactivateOverlay {v : TwPort} {s : State} {n : Nat} {q : QueuedAct} (inv : PortAt v s) :
    PortAt v (Machine.deactivateOverlay n q s).2 := by
  unfold Machine.deactivateOverlay
  extract_lets v
  split
  · exact inv
  · dsimp only
    exact .usbDiscard (.enterOv (.ovMod (.giveUp (.abandonActivation inv))))
  · exact .reverseOverlay inv
  · exact .startDeactivation inv
  · dsimp only
    exact .giveUp (.ovMod inv)

theorem PortAt.convMod {v : TwPort} {s : State} {k : Nat} {f : Convoy → Convoy} (inv : PortAt v s) :
    PortAt v (Machine.convMod s k f) :=
  inv

theorem PortAt.memMod {v : TwPort} {s : State} {k m : Nat} {f : Member → Member} (inv : PortAt v s) :
    PortAt v (Machine.memMod s k m f) :=
  .convMod inv

theorem PortAt.startFadeOut {v : TwPort} {s : State} {k m : Nat} (inv : PortAt v s) :
    PortAt v (Machine.startFadeOut k m s) :=
  .memMod inv

theorem PortAt.startFadeIn {v : TwPort} {s : State} {k m : Nat} (inv : PortAt v s) :
    PortAt v (Machine.startFadeIn k m s) :=
  .memMod inv

theorem PortAt.stopMember {v : TwPort} {s : State} {k m : Nat} (inv : PortAt v s) :
    PortAt v (Machine.stopMember k m s) :=
  .ite inv (.ite (.memMod (.foldl inv (fun _ _ h => .startFadeOut h))) (.ite (.memMod inv) (.memMod inv)))

theorem PortAt.lockstepStart {v : TwPort} {s : State} {k : Nat} (inv : PortAt v s) :
    PortAt v (Machine.lockstepStart k s) :=
  .ite (.foldl inv (fun _ _ h => .startFadeIn h)) inv

theorem PortAt.settleIndex {v : TwPort} {s : State} {k : Nat} (inv : PortAt v s) :
    PortAt v (Machine.settleIndex k s) :=
  .ite (.lockstepStart (.convMod inv)) inv

theorem PortAt.stopMembers {v : TwPort} {s : State} {port sub : Nat} {egress : Bool} (inv : PortAt v s) :
    PortAt v (Machine.stopMembers port sub egress s) :=
  .foldl inv (fun _ _ h => .settleIndex (.stopMember h))

theorem PortAt.usbStop {v : TwPort} {s : State} {p i : Nat} (inv : PortAt v s) :
    PortAt v (Machine.usbStop p i s) :=
  .stopMembers inv

theorem PortAt.postUsb {v : TwPort} {s : State} {code p log data : Nat} (inv : PortAt v s) :
    PortAt v (Machine.postUsb code p log data s) :=
  .posted inv

theorem PortAt.postUsbState {v : TwPort} {s : State} {p cause log : Nat} (inv : PortAt v s) :
    PortAt v (Machine.postUsbState p cause log s) :=
  .postUsb inv

theorem PortAt.usbLeave {v : TwPort} {s : State} {n log : Nat} (inv : PortAt v s) :
    PortAt v (Machine.usbLeave n log s).2 := by
  unfold Machine.usbLeave
  split
  · exact inv
  · exact .deactivateOverlay inv

theorem PortAt.usbForget {v : TwPort} {s : State} {p i : Nat} (inv : PortAt v s) :
    PortAt v (Machine.usbForget p i s) :=
  inv

theorem PortAt.usbZero {v : TwPort} {s : State} {p i log : Nat} (inv : PortAt v s) :
    PortAt v (Machine.usbZero p i log s).2 :=
  .pairIte inv (.pairIte (.usbForget (.usbStreamMod (.usbStop inv)))
    (.usbLeave (.usbForget (.usbStreamMod (.usbStop inv)))))

theorem PortAt.usbToZero {v : TwPort} {s : State} {p log i : Nat} (inv : PortAt v s) :
    PortAt v (Machine.usbToZero p log s i) :=
  .usbZero inv

theorem PortAt.usbAllZero {v : TwPort} {s : State} {p log : Nat} (inv : PortAt v s) :
    PortAt v (Machine.usbAllZero p log s) :=
  .foldl inv (fun _ _ h => .usbToZero h)

theorem PortAt.usbDetach {v : TwPort} {s : State} {p cause log : Nat} (inv : PortAt v s) :
    PortAt v (Machine.usbDetach p cause log s) :=
  .ite inv (.postUsbState (.usbMod (.usbAllZero inv)))

theorem PortAt.usbAttach {v : TwPort} {s : State} {p cause log : Nat} (inv : PortAt v s) :
    PortAt v (Machine.usbAttach p cause log s) :=
  .postUsbState (.usbMod inv)

theorem PortAt.usbFollow {v : TwPort} {s : State} {p cause log : Nat} (inv : PortAt v s) :
    PortAt v (Machine.usbFollow p cause log s) :=
  .ite (.usbDetach inv) (.ite (.usbAttach inv) (.ite (.usbAttach (.usbDetach inv)) inv))

end Sys2Proof.Machine
end

section
/-! PROOF. Resets, the loader's verdict, chart selection, the self-test and the end of BOOT (chapter 16). -/

namespace Sys2Proof.Machine

/-! ## Resets -/

theorem cutStep_idle {s : State} (h : s.fw.begun = false) : cutStep s = s := by
  unfold cutStep
  rw [h]

theorem resetPart_pwr (cause : Nat) (s : State) : (resetPart cause s).pwr = keptPwr cause s.pwr :=
  congrArg (keptPwr cause) (PowerAt.cutStep rfl)

theorem resetPart_powerOn (s : State) : (resetPart 0 s).pwr = { PowerState.reset with ioB := s.pwr.ioB, vusb := s.pwr.vusb } :=
  resetPart_pwr 0 s

/-- What any other reset keeps of the power state (R365, R366). -/
theorem resetPart_kept {cause : Nat} (h : cause ≠ 0) (s : State) : (resetPart cause s).pwr.dev = .por
    ∧ (resetPart cause s).pwr.cause = cause ∧ (resetPart cause s).pwr.watchdog = s.pwr.watchdog
    ∧ (resetPart cause s).pwr.ioB = s.pwr.ioB ∧ (resetPart cause s).pwr.vusb = s.pwr.vusb := by
  have hk : keptPwr cause s.pwr = _ := if_neg h
  rw [resetPart_pwr, hk]
  exact ⟨rfl, rfl, rfl, rfl, rfl⟩

/-- With no NVM step in progress a reset keeps NVM (R405), and a reset other than power-on the hull's accounting (R395). -/
theorem resetPart_nvm {cause : Nat} {s : State} (h : s.fw.begun = false) : (resetPart cause s).fw.image = s.fw.image
    ∧ (resetPart cause s).fw.keys = s.fw.keys ∧ (resetPart cause s).fw.chartKey = s.fw.chartKey
    ∧ (resetPart cause s).fw.counter = s.fw.counter ∧ (resetPart cause s).cs.slotA = s.cs.slotA
    ∧ (resetPart cause s).cs.slotB = s.cs.slotB ∧ (resetPart cause s).hull = keptHull cause s.hull := by
  unfold resetPart
  rw [cutStep_idle h]
  exact ⟨rfl, rfl, rfl, rfl, rfl, rfl, rfl⟩

theorem keptHull_hours {cause : Nat} (h : cause ≠ 0) (q : HullState) : (keptHull cause q).hours = q.hours := by
  have hk : keptHull cause q = _ := if_neg h
  rw [hk]

/-! ## The rails of the pins -/

theorem usbGet_usbMod_other {p q : Nat} (hp : p = 0 ∨ p = 1) (hq : q = 0 ∨ q = 1) (hne : q ≠ p) {s : State} {f : Usb → Usb} :
    usbGet (usbMod s p f) q = usbGet s q := by
  rcases hp with rfl | rfl <;> rcases hq with rfl | rfl
  · exact absurd rfl hne
  · rfl
  · rfl
  · exact absurd rfl hne

theorem usbDetach_other {p q : Nat} (hp : p = 0 ∨ p = 1) (hq : q = 0 ∨ q = 1) (hne : q ≠ p) (cause log : Nat) (s : State) :
    (usbGet (usbDetach p cause log s) q).st = (usbGet s q).st := by
  unfold usbDetach
  split
  case isTrue => rfl
  case isFalse =>
    obtain ⟨hst, -⟩ := (UsbCoreAt.usbAllZero (p := p) (log := log) (s := s) rfl).fields q
    rw [postUsbState, postUsb, usbGet_post, usbGet_usbMod_other hp hq hne]
    exact hst

theorem usbMayConnect_unpowered {s : State} (h : s.pwr.vusb = false) (p : Nat) : usbMayConnect s p = false := by
  simp [usbMayConnect, h]

/-- Without VUSB33 both ports are detached (R250). -/
theorem usbFollow_unpowered {s : State} (h : s.pwr.vusb = false) :
    (usbFollow 1 0 0 (usbFollow 0 0 0 s)).usbA.st = 0 ∧ (usbFollow 1 0 0 (usbFollow 0 0 0 s)).usbB.st = 0 := by
  have h1 : (usbDetach 0 0 0 s).pwr.vusb = false := (congrArg PowerState.vusb (PowerAt.usbDetach rfl)).trans h
  rw [usbFollow_gone (usbMayConnect_unpowered h 0), usbFollow_gone (usbMayConnect_unpowered h1 1)]
  exact ⟨(usbDetach_other (.inr rfl) (.inl rfl) (by decide) 0 0 _).trans (usbDetach_spec 0 0 0 s).1, (usbDetach_spec 1 0 0 _).1⟩

theorem ioRails_spec (ioB vusb : Bool) (s : State) : (ioRails ioB vusb s).pwr = { s.pwr with ioB := ioB, vusb := vusb }
    ∧ (vusb = false → (ioRails ioB vusb s).usbA.st = 0 ∧ (ioRails ioB vusb s).usbB.st = 0)
    ∧ (ioB = false → (ioRails ioB vusb s).tw1.acked = false) := by
  unfold ioRails
  extract_lets s1 s2
  have h1 : PowerAt { s.pwr with ioB := ioB, vusb := vusb } s1 := .serialPins rfl
  have h2 : PowerAt { s.pwr with ioB := ioB, vusb := vusb } s2 := .ite h1 (.twMod h1)
  refine ⟨PowerAt.refreshPins (.usbFollow (.usbFollow h2)), fun hv => ?_, fun hb => ?_⟩
  · exact usbFollow_unpowered ((congrArg PowerState.vusb h2).trans hv)
  · have hs2 : s2 = twMod s1 1 (fun t => { endTxn t with acked := false }) := if_neg (by simp [hb])
    have ht : PortAt s2.tw1 (usbFollow 1 0 0 (usbFollow 0 0 0 s2)) := .usbFollow (.usbFollow rfl)
    exact (congrArg TwPort.acked ht).trans (by rw [hs2]; rfl)

/-! ## The loader's verdict -/

theorem PowerAt.enterHarbour {v : PowerState} {s : State} {cause : Nat} (inv : PowerAt v s) :
    PowerAt { v with dev := .harbour, harbourCause := cause } (Machine.enterHarbour cause s) := by
  unfold Machine.enterHarbour
  exact .refreshPins (.usbFollow (.usbFollow (.clearBusy (.startDetRef inv.pwrMod))))

theorem exec_imageCheck {s : State} (hd : s.pwr.dev = .loader) (hr : s.pwr.refChosen = true) :
    exec .imageCheckDone s = .next (imageCheckDone s) :=
  show execImageCheckDone s = _ from whenever_true (by simp [hd, hr])

theorem imageCheck_harbour {s : State} {c : Nat} (h : harbourCause (drawRound s).1 s = some c) :
    (imageCheckDone s).pwr.dev = .harbour ∧ (imageCheckDone s).pwr.harbourCause = c := by
  have hp : PowerAt _ (enterHarbour c (drawRound s).2) := PowerAt.enterHarbour (v := s.pwr) rfl
  have hrun : imageCheckDone s = enterHarbour c (drawRound s).2 := by
    unfold imageCheckDone
    dsimp only
    rw [h]
  rw [hrun]
  exact ⟨congrArg PowerState.dev hp, congrArg PowerState.harbourCause hp⟩

/-- The image state as BOOT takes it. -/
def bootFw (s : State) : FwState :=
  let i := s.fw.image
  let info := if i.factory then ImageInfo.factory else imageInfo (storedHeader s)
  { s.fw with
    running := info, seqCode := (List.range 5).foldl (fun t k => tset 0 t k info.fwVersion) s.fw.seqCode
    probation := !i.confirmed, healthy := 0 }

/-- What waits for the NVM or is done at once at the start, before the image runs. -/
def bootWrites (s : State) : State :=
  let s1 := if s.fw.image.verified then { s with fw := bootFw s } else ownWrite .imageVerified { s with fw := bootFw s }
  if s.fw.image.confirmed then ownWrite .counter s1 else s1

theorem enterBoot_eq (s : State) : enterBoot s = startDetRef (pwrMod (bootWrites s) (fun p =>
    { p with dev := .boot, vcore := max p.vcore (storedHull s.hull).vcore })) := rfl

theorem imageCheck_boot {s : State} (h : harbourCause (drawRound s).1 s = none) : imageCheckDone s = enterBoot (drawRound s).2 := by
  unfold imageCheckDone
  dsimp only
  rw [h]

theorem nvmStart_held {s : State} (h : nvmHeld s = true) : nvmStart s = s := by
  unfold nvmStart
  split
  · rfl
  · exact if_pos h

theorem ownWrite_held {j : NvmJob} {s : State} (h : nvmHeld s = true) :
    ownWrite j s = { s with fw := { s.fw with jobs := s.fw.jobs ++ [j] } } :=
  (if_pos h).trans (nvmStart_held (s := { s with fw := { s.fw with jobs := s.fw.jobs ++ [j] } }) h)

theorem ownWrite_free {j : NvmJob} {s : State} (h : nvmHeld s = false) : ownWrite j s = ownEffect j s := if_neg (by simp [h])

theorem advanceCounter_kept (f : FwState) : (advanceCounter f).image = f.image ∧ (advanceCounter f).jobs = f.jobs
    ∧ (advanceCounter f).probation = f.probation := by
  unfold advanceCounter
  dsimp only
  split <;> exact ⟨rfl, rfl, rfl⟩

/-- The counter's write leaves PROBATION and the jobs that wait. -/
theorem ownWrite_counter (s : State) : (ownWrite .counter s).fw.image = s.fw.image
    ∧ (ownWrite .counter s).fw.probation = s.fw.probation ∧ ∀ j ∈ s.fw.jobs, j ∈ (ownWrite .counter s).fw.jobs := by
  cases h : nvmHeld s with
  | true =>
    rw [ownWrite_held h]
    exact ⟨rfl, rfl, fun j hj => List.mem_append_left _ hj⟩
  | false =>
    rw [ownWrite_free h]
    obtain ⟨h1, h2, h3⟩ := advanceCounter_kept s.fw
    exact ⟨h1, h3, fun j hj => h2 ▸ hj⟩

theorem bootWrites_counter {s t : State} (ht : (if s.fw.image.verified then { s with fw := bootFw s }
      else ownWrite .imageVerified { s with fw := bootFw s }) = t) :
    (bootWrites s).fw.image = t.fw.image ∧ (bootWrites s).fw.probation = t.fw.probation
      ∧ ∀ j ∈ t.fw.jobs, j ∈ (bootWrites s).fw.jobs := by
  have hrun : bootWrites s = if s.fw.image.confirmed then ownWrite .counter t else t := ht ▸ rfl
  rw [hrun]
  split
  · exact ownWrite_counter t
  · exact ⟨rfl, rfl, fun _ => id⟩

theorem enterBoot_dev (s : State) : (enterBoot s).pwr.dev = .boot := rfl

/-- An image that is verified now is marked so, at once where the NVM is free. -/
theorem enterBoot_verifies {s : State} (hv : s.fw.image.verified = false) (hn : nvmHeld s = false) :
    (enterBoot s).fw.image.verified = true := by
  obtain ⟨himage, -⟩ := bootWrites_counter ((if_neg (by simp [hv])).trans (ownWrite_free (s := { s with fw := bootFw s }) hn))
  exact congrArg Image.verified himage

theorem enterBoot_asks {s : State} (hv : s.fw.image.verified = false) (hn : nvmHeld s = true) :
    (enterBoot s).fw.image.verified = false ∧ NvmJob.imageVerified ∈ (enterBoot s).fw.jobs := by
  obtain ⟨himage, -, hjobs⟩ := bootWrites_counter
    ((if_neg (by simp [hv])).trans (ownWrite_held (j := .imageVerified) (s := { s with fw := bootFw s }) hn))
  exact ⟨(congrArg Image.verified himage).trans hv, hjobs _ (List.mem_append_right _ (List.mem_singleton.mpr rfl))⟩

theorem enterBoot_verified {s : State} (hv : s.fw.image.verified = true) :
    (enterBoot s).fw.probation = !s.fw.image.confirmed
      ∧ (enterBoot s).pwr.vcore = max s.pwr.vcore (storedHull s.hull).vcore := by
  obtain ⟨-, hprob, -⟩ := bootWrites_counter (if_pos hv)
  have hp : PowerAt s.pwr (bootWrites s) := by
    unfold bootWrites
    rw [if_pos hv]
    exact .ite (.ownWrite rfl) rfl
  refine ⟨hprob, ?_⟩
  rw [enterBoot_eq]
  exact congrArg (max · (storedHull s.hull).vcore) (congrArg PowerState.vcore hp)

/-! ## Chart slots and the self-test -/

theorem chartSlotSelect_boots {s : State} {a : Nat} {r : List Nat} (h : slotOrder s = a :: r) (ha : slotFailure s a = none) :
    chartSlotSelect s = bootChart a s := by
  simp [chartSlotSelect, h, ha]

theorem chartSlotSelect_alone {s : State} {a f : Nat} (h : slotOrder s = [a]) (ha : slotFailure s a = some f) :
    chartSlotSelect s = chartMissing (markInvalid a s) := by
  simp [chartSlotSelect, h, ha]

theorem chartSlotSelect_second {s : State} {a b f : Nat} {r : List Nat} (h : slotOrder s = a :: b :: r)
    (ha : slotFailure s a = some f) (hb : slotFailure (markInvalid a s) b = none) :
    chartSlotSelect s = post 0x0304 b 0 f .none (bootChart b (markInvalid a s)) := by
  simp [chartSlotSelect, h, ha, hb]

theorem chartSlotSelect_both {s : State} {a b f g : Nat} {r : List Nat} (h : slotOrder s = a :: b :: r)
    (ha : slotFailure s a = some f) (hb : slotFailure (markInvalid a s) b = some g) :
    chartSlotSelect s = chartMissing (markInvalid b (markInvalid a s)) := by
  simp [chartSlotSelect, h, ha, hb]

/-- The detector of one chain as the self-test arms it (R192). -/
def armedChain (c : Capture) : Capture := { c with armed := true, below := false, level := -2300, hold := 5, run := 0 }

theorem capMod_foldl_get {f : Capture → Capture} (l : List Nat) (hl : l.Nodup) {s : State}
    (w : tblWf Capture.reset s.cap.chans = true) (e : Nat) :
    capGet (l.foldl (fun t ch => capMod t ch f) s) e = if e ∈ l then f (capGet s e) else capGet s e := by
  induction l generalizing s with
  | nil => simp
  | cons c l ih =>
    obtain ⟨hc, hl'⟩ := List.nodup_cons.mp hl
    rw [List.foldl_cons, ih hl' (capMod_wf w c f)]
    by_cases he : e = c
    · subst he
      simp [hc, capGet_capMod_same w]
    · simp [he, capGet_capMod_other w he]

theorem capGet_armSelfTest {s : State} (w : tblWf Capture.reset s.cap.chans = true) {ch : Nat} (h : ch < 8) :
    capGet (armSelfTest s) ch = armedChain (capGet s ch) :=
  (capMod_foldl_get (f := armedChain) (List.range 8) List.nodup_range w ch).trans (if_pos (List.mem_range.mpr h))

theorem sarGet_of_sars {v : Sar × Sar} {s : State} (h : SarsAt v s) (e : Nat) :
    (sarGet s e).st = if e = 0 then v.1.st else v.2.st := by
  unfold sarGet
  split
  · exact congrArg (fun q : Sar × Sar => q.1.st) h
  · exact congrArg (fun q : Sar × Sar => q.2.st) h

/-- A SAR that fails is FAILED, and the other stays as it is (R355). -/
theorem failSar_st {c e : Nat} (hc : c < 2) (he : e < 2) (d : Int) (s : State) :
    (sarGet (failSar c d s) e).st = if e = c then 3 else (sarGet s e).st := by
  unfold failSar
  by_cases h : sarFailed s c = true
  · rw [if_pos h]
    split
    case isTrue hec => exact hec ▸ beq_iff_eq.mp h
    case isFalse => rfl
  · rw [if_neg h]
    unfold postPlausibility
    rw [sarGet_of_sars (SarsAt.systemEnds (.posted rfl))]
    interval_cases c <;> interval_cases e <;> rfl

theorem failSars_st {d : Int} (l : List Nat) (hl : ∀ c ∈ l, c < 2) (s : State) {e : Nat} (he : e < 2) :
    (sarGet (l.foldl (fun t c => failSar c d t) s) e).st = if e ∈ l then 3 else (sarGet s e).st := by
  induction l generalizing s with
  | nil => simp
  | cons c l ih =>
    rw [List.foldl_cons, ih (fun x hx => hl x (List.mem_cons_of_mem c hx)), failSar_st (hl c List.mem_cons_self) he]
    by_cases hel : e ∈ l
    · simp [hel]
    · simp [hel]

/-- The two SARs after the self-test's failures `sar`. -/
theorem failedSars (sar : BitVec 2) (d : Int) (s : State) {e : Nat} (he : e < 2) :
    (sarGet ((bitsOf sar.toNat 2).foldl (fun t c => failSar c d t) s) e).st
      = if sar.getLsbD e then 3 else (sarGet s e).st := by
  rw [failSars_st _ (fun c hc => mem_bitsOf hc) s he]
  have hmem : e ∈ bitsOf sar.toNat 2 ↔ sar.getLsbD e = true := by
    simp only [bitsOf, List.mem_filter, List.mem_range, he, true_and]
    rfl
  simp only [hmem]

theorem bitVec2_ne_zero (sar : BitVec 2) : (sar != 0) = (sar.getLsbD 0 || sar.getLsbD 1) := by
  revert sar
  decide

theorem selfTestEnd_spec {sar : BitVec 2} {fired : Bool} {words f : Nat} {s : State}
    (hf : f = maskBy 9 (fun m => if m = 8 then s.cap.reliefArmed && !fired else (capGet s m).armed)) :
    (selfTestEnd sar fired words s).pwr.selfTested = true ∧ (selfTestEnd sar fired words s).pwr.failedChains = f
      ∧ (selfTestEnd sar fired words s).pwr.selfTest
        = flag (sar != 0 || sarFailed s 0 || sarFailed s 1) + 2 * flag (f != 0) + 4 * flag (words != 0)
      ∧ (sar.getLsbD 0 = true → (selfTestEnd sar fired words s).meas.ma.st = 3)
      ∧ (sar.getLsbD 1 = true → (selfTestEnd sar fired words s).meas.mb.st = 3)
      ∧ (words = 2 → (selfTestEnd sar fired words s).eng.halted = true) := by
  unfold selfTestEnd
  extract_lets d s1 failed s2
  have hst : ∀ e < 2, (sarGet s1 e).st = if sar.getLsbD e then 3 else (sarGet s e).st := fun e he => failedSars sar _ d.2 he
  have hfail : ∀ e < 2, sarFailed s1 e = (sar.getLsbD e || sarFailed s e) := by
    intro e he
    rw [sarFailed, hst e he]
    cases sar.getLsbD e <;> rfl
  have hcap : ChainsAt s.cap s1 := foldl_inv (ChainsAt s.cap) _ (fun _ _ h => .failSar h) _ _ rfl
  have hfailed : failed = f := by
    have hget : ∀ m, capGet s1 m = capGet s m := capGet_of_cap hcap
    rw [hf]
    simp only [failed, show s1.cap.reliefArmed = s.cap.reliefArmed from congrArg _ hcap, hget]
  have hor : (sarFailed s1 0 || sarFailed s1 1) = (sar != 0 || sarFailed s 0 || sarFailed s 1) := by
    rw [hfail 0 (by decide), hfail 1 (by decide), bitVec2_ne_zero]
    cases sar.getLsbD 0 <;> cases sar.getLsbD 1 <;> simp
  have htest : s2.pwr.selfTest = flag (sarFailed s1 0 || sarFailed s1 1) + 2 * flag (failed != 0) + 4 * flag (words != 0) := rfl
  have hA : sar.getLsbD 0 = true → s2.meas.ma.st = 3 := fun h => (hst 0 (by decide)).trans (if_pos h)
  have hB : sar.getLsbD 1 = true → s2.meas.mb.st = 3 := fun h => (hst 1 (by decide)).trans (if_pos h)
  have hdone : s2.pwr.selfTested = true := rfl
  have hchains : s2.pwr.failedChains = failed := rfl
  clear_value s2
  have hp : PowerAt s2.pwr (if words = 2 then haltEngine s2 else s2) := .ite (.haltEngine rfl) rfl
  have hm : MeasAt s2.meas (if words = 2 then haltEngine s2 else s2) := .ite (.haltEngine rfl) rfl
  refine ⟨(congrArg PowerState.selfTested hp).trans hdone, (congrArg PowerState.failedChains hp).trans (hchains.trans hfailed),
    (congrArg PowerState.selfTest hp).trans ?_, fun h => (congrArg (fun m : MeasState => m.ma.st) hm).trans (hA h),
    fun h => (congrArg (fun m : MeasState => m.mb.st) hm).trans (hB h), fun h => ?_⟩
  · rw [htest, hor, hfailed]
  · rw [if_pos h, haltEngine_eng]
    rfl

/-! ## The end of BOOT -/

theorem newSummary_pwr (s : State) : ∃ v, (newSummary s).pwr = { s.pwr with vcore := v } := by
  unfold newSummary
  split
  · exact ⟨_, rfl⟩
  · exact ⟨8, PowerAt.askSummary rfl⟩

theorem bootComplete_spec (us : Nat) (s : State) :
    (bootComplete us s).pwr.dev = (if s.pwr.testEn then .test else .active) ∧ (bootComplete us s).pwr.bootUs = min us 0xFFFFFFFF := by
  unfold bootComplete
  extract_lets s0 s1 s2 s3 s4
  have h0 : PowerAt s.pwr (settingsLoad s0) := .settingsLoad (.ite rfl (.disarmAll rfl))
  obtain ⟨v, hv⟩ := newSummary_pwr (settingsLoad s0)
  have h1 : s1.pwr.testEn = (settingsLoad s0).pwr.testEn := (congrArg PowerState.testEn hv :)
  have htest : s1.pwr.testEn = s.pwr.testEn := h1.trans (congrArg PowerState.testEn h0)
  have h2 : PowerAt { s1.pwr with dev := if s1.pwr.testEn then .test else .active, bootUs := min us 0xFFFFFFFF } s2 :=
    .clearBusy (.resumeTick rfl)
  have h4 : PowerAt s2.pwr s4 := .usbFollow (.usbFollow (.postStartVariant (.postHullReset (.postStarted rfl))))
  have hdev : s4.pwr.dev = if s.pwr.testEn then .test else .active :=
    (congrArg PowerState.dev (h4.trans h2)).trans (by rw [htest])
  have hus : s4.pwr.bootUs = min us 0xFFFFFFFF := congrArg PowerState.bootUs (h4.trans h2)
  obtain ⟨a, b, c, hp⟩ := shelterIfWarned_pwr (s := s4) (by rw [hdev]; split <;> decide)
  have h5 : PowerAt _ (refreshPins (nvmStart (shelterIfWarned s4))) := .refreshPins (.nvmStart hp)
  exact ⟨(congrArg PowerState.dev h5).trans hdev, (congrArg PowerState.bootUs h5).trans hus⟩

end Sys2Proof.Machine

namespace Sys2Proof

open Sys2Proof.Machine

/-- Settles O57: resets, the release, the loader's verdict, slot selection, the self-test and the end of BOOT in turn. -/
theorem startStepsTakeEffect : Obligations.StartStepsTakeEffect := by
  refine fun s => ⟨?powerOn, ?rails, ?resets, ?watchdog, ?clear, ?release, ?due, ?dueOther, ?notHeld, ?reference, ?cause4, ?cause1,
    ?notWhole, ?notSigned, ?cause3, ?verifies, ?boot, ?slots, ?selfTest, ?untested, ?bootEnd, ?relock⟩
  case powerOn =>
    intro b u
    refine ⟨_, rfl, rfl, ?_, rfl, rfl, fun hidle => ?_⟩
    · exact congrArg (fun q : PowerState => { q with ioB := b, vusb := u }) (resetPart_powerOn s)
    · obtain ⟨h1, h2, h3, h4, -, -, hhull⟩ := resetPart_nvm (cause := 0) hidle
      exact ⟨h1, h2, h3, h4, congrArg HullState.hours hhull⟩
  case rails =>
    intro b u
    obtain ⟨hp, husb, htw⟩ := ioRails_spec b u s
    have hdev : (ioRails b u s).pwr.dev = s.pwr.dev := (congrArg PowerState.dev hp :)
    exact ⟨rfl, ioRails b u s, rfl, congrArg PowerState.ioB hp, congrArg PowerState.vusb hp, hdev, husb, htw⟩
  case resets =>
    intro hoff hpor
    have hs : supervised s = true := by simp [supervised, hoff, hpor]
    have hrun : exec .resetNLow s = .next (resetPart 1 s) := show execResetNLow s = _ from whenever_true hs
    obtain ⟨h1, h2, h3, h4, h5⟩ := resetPart_kept (cause := 1) (by decide) s
    refine ⟨hrun, fun rail => show execSupplyResetLevel rail s = _ from whenever_true hs, _, hrun, h1, h2, h3, h4, h5, rfl, rfl, ?_⟩
    intro hidle
    obtain ⟨himage, -, -, -, hA, hB, hhull⟩ := resetPart_nvm (cause := 1) hidle
    exact ⟨himage, (congrArg HullState.hours hhull).trans (keptHull_hours (by decide) _), hA, hB⟩
  case watchdog =>
    intro hd
    obtain ⟨h1, h2, h3, -⟩ := resetPart_kept (cause := 5) (by decide)
      (pwrMod s (fun p => { p with watchdog := if p.settled then p.watchdog else min (p.watchdog + 1) 255 }))
    exact ⟨_, show execWatchdogExpire s = _ from whenever_true (decide_eq_true hd), h1, h2, h3⟩
  case clear => exact fun h => show execWatchdogCounterClear s = _ from whenever_true (by simpa using h)
  case release =>
    intro a b c t x y hdue hd
    have hrun : exec (.resetRelease a b c t x y) s = .next (release a b c t x y s) := by
      change execResetRelease a b c t x y s = _
      simp [execResetRelease, hdue, hd]
    exact ⟨hrun, _, hrun, rfl, rfl, rfl, rfl, rfl⟩
  case due =>
    intro a b c t x y hdue hother
    obtain ⟨hd, -⟩ := resetPart_kept (cause := 2) (by decide) s
    change execResetRelease a b c t x y s = _
    simp [execResetRelease, hdue, hother, hd]
  case dueOther =>
    intro a b c t x y hdue hother
    obtain ⟨hd, -⟩ := resetPart_kept (cause := 1 + openValue s 0 % 5) (by omega) { s with free := s.free + 1 }
    refine ⟨1 + openValue s 0 % 5, by omega, by omega, ?_⟩
    change execResetRelease a b c t x y s = _
    simp [execResetRelease, hdue, hother, resetOpen, hd]
  case notHeld =>
    intro a b c t x y hdue hd
    change execResetRelease a b c t x y s = _
    simp [execResetRelease, hdue, hd]
  case reference =>
    exact fun edges hd hr => ⟨_, show execReferenceSelect edges s = _ from whenever_true (by simp [hd, hr]), rfl, rfl⟩
  case cause4 => exact fun hd hr hw => ⟨_, exec_imageCheck hd hr, imageCheck_harbour (if_pos hw)⟩
  case cause1 =>
    intro hd hr hw h
    refine ⟨_, exec_imageCheck hd hr, imageCheck_harbour ?_⟩
    rcases h with h | h <;> simp [harbourCause, Nat.not_le.mpr hw, h]
  case notWhole =>
    intro hd hr hw ha hdl hv hwhole
    refine ⟨_, exec_imageCheck hd hr, imageCheck_harbour ?_⟩
    simp [harbourCause, Nat.not_le.mpr hw, ha, hdl, hv, hwhole]
  case notSigned =>
    intro hd hr hw ha hdl hv hwhole hsig
    refine ⟨_, exec_imageCheck hd hr, imageCheck_harbour ?_⟩
    simp [harbourCause, Nat.not_le.mpr hw, ha, hdl, hv, hwhole, hsig]
  case cause3 =>
    intro hd hr hw ha hdl hv h
    refine ⟨_, exec_imageCheck hd hr, imageCheck_harbour ?_⟩
    simp [harbourCause, Nat.not_le.mpr hw, ha, hdl, hv, h]
  case verifies =>
    intro hd hr hw ha hdl hv hwhole hsig
    have hcause : harbourCause (drawRound s).1 s = if (drawRound s).1 then none else some 3 := by
      simp [harbourCause, Nat.not_le.mpr hw, ha, hdl, hv, hwhole, hsig]
    constructor
    · intro hn
      refine ⟨_, exec_imageCheck hd hr, ?_⟩
      cases hm : (drawRound s).1 with
      | true =>
        rw [imageCheck_boot (hcause.trans (if_pos hm))]
        exact .inl ⟨enterBoot_dev _, enterBoot_verifies (s := (drawRound s).2) hv hn⟩
      | false => exact .inr (imageCheck_harbour (hcause.trans (if_neg (by simp [hm]))))
    · intro hn
      refine ⟨_, exec_imageCheck hd hr, ?_⟩
      cases hm : (drawRound s).1 with
      | true =>
        rw [imageCheck_boot (hcause.trans (if_pos hm))]
        exact .inl ⟨enterBoot_dev _, enterBoot_asks (s := (drawRound s).2) hv hn⟩
      | false => exact .inr (imageCheck_harbour (hcause.trans (if_neg (by simp [hm]))))
  case boot =>
    intro hd hr hw ha hdl hv hwhole hsig
    have hcause : harbourCause (drawRound s).1 s = none := by
      simp [harbourCause, Nat.not_le.mpr hw, ha, hdl, hv, hwhole, hsig]
    refine ⟨_, exec_imageCheck hd hr, ?_⟩
    rw [imageCheck_boot hcause]
    exact ⟨enterBoot_dev _, enterBoot_verified (s := (drawRound s).2) hv⟩
  case slots =>
    intro hd hchart hmiss
    have hrun : exec .chartSlotSelect s = .next (armSelfTest (chartSlotSelect s)) :=
      show execChartSlotSelect s = _ from whenever_true (by simp [hd, hchart, hmiss])
    refine ⟨fun h => ?_, fun a h => ?_, fun a b r h => ?_, fun w ch hch => ?_, rfl⟩
    · rw [hrun, chartSlotSelect, h]
    · refine hrun.trans (congrArg (fun t => Host.Outcome.next (armSelfTest t)) ?_)
      cases ha : slotFailure s a with
      | none => exact chartSlotSelect_boots h ha
      | some f => exact chartSlotSelect_alone h ha
    · refine hrun.trans (congrArg (fun t => Host.Outcome.next (armSelfTest t)) ?_)
      cases ha : slotFailure s a with
      | none => exact chartSlotSelect_boots h ha
      | some f =>
        cases hb : slotFailure (markInvalid a s) b with
        | none => exact chartSlotSelect_second h ha hb
        | some g => exact chartSlotSelect_both h ha hb
    · rw [capGet_armSelfTest w hch]
      exact ⟨rfl, rfl, rfl⟩
  case selfTest =>
    intro sar fired w f hd hno hchart htested hf
    obtain ⟨h1, h2, h3, hA, hB, hh⟩ := selfTestEnd_spec (sar := sar) (words := w.val) hf
    refine ⟨_, show execSelfTestEnd sar fired w s = _ from whenever_true (by rcases hchart with h | h <;> simp [hd, hno, h, htested]),
      h1, h2, h3.trans ?_, hA, hB, fun hw => hh (congrArg Fin.val hw)⟩
    fin_cases w <;> rfl
  case untested => exact fun sar fired w h => show execSelfTestEnd sar fired w s = _ from whenever_false (by simp [h])
  case bootEnd =>
    intro us hd hchart htest
    have hrun : exec (.bootComplete us) s = .next (bootComplete us s) :=
      show execBootComplete us s = _ from whenever_true (by rcases hchart with h | h <;> simp [hd, h, htest])
    exact ⟨hrun, _, hrun, bootComplete_spec us s⟩
  case relock =>
    intro q hq hphase hrelock hfab hh ht
    refine ⟨_, ?_, rfl, rfl⟩
    change execFabricPllRelock s = _
    simp only [execFabricPllRelock, hq]
    rw [if_pos ⟨hphase, hrelock, hfab, hh, ht⟩]

end Sys2Proof

end

section
/-! PROOF. A change of the variant leaves the hull log. -/

namespace Sys2Proof.Machine

/-- The hull log. -/
def HullAt (v : HullState) (s : State) : Prop := s.hull = v

theorem HullAt.ite {v : HullState} {c : Prop} {dec : Decidable c} {s t : State} (hs : HullAt v s)
    (ht : HullAt v t) : HullAt v (if c then s else t) := by
  split
  · exact hs
  · exact ht

theorem HullAt.foldl {v : HullState} {s : State} {β : Type} {f : State → β → State} {l : List β}
    (inv : HullAt v s) (h : ∀ t x, HullAt v t → HullAt v (f t x)) :
    HullAt v (l.foldl f s) :=
  foldl_inv (fun t : State => HullAt v t) f h l s inv

theorem HullAt.posted {v : HullState} {s : State} {code inst log data : Nat} {cn : Concern}
    (inv : HullAt v s) : HullAt v (Machine.post code inst log data cn s) := by
  simpa [HullAt] using inv

theorem HullAt.completedAll {v : HullState} {s : State} {xs : List Waiter} {st : Nat}
    (inv : HullAt v s) : HullAt v (Machine.completeAll xs st s) := by
  simpa [HullAt] using inv

theorem HullAt.slotMod {v : HullState} {s : State} {k : Nat} {f : Slot → Slot} (inv : HullAt v s) :
    HullAt v (Machine.slotMod s k f) :=
  inv

theorem HullAt.commitSlot {v : HullState} {s : State} {k : Nat} {target : Word} {ms log : Nat}
    (inv : HullAt v s) : HullAt v (Machine.commitSlot k target ms log s) :=
  .slotMod inv

theorem HullAt.usbMod {v : HullState} {s : State} {p : Nat} {f : Usb → Usb} (inv : HullAt v s) :
    HullAt v (Machine.usbMod s p f) :=
  .ite inv inv

theorem HullAt.usbStreamMod {v : HullState} {s : State} {p i : Nat} {f : UsbStream → UsbStream}
    (inv : HullAt v s) : HullAt v (Machine.usbStreamMod s p i f) :=
  .usbMod inv

theorem HullAt.usbDiscard {v : HullState} {s : State} {n : Nat} (inv : HullAt v s) :
    HullAt v (Machine.usbDiscard n s) :=
  .foldl inv (fun _ _ h => .foldl h (fun _ _ h => .ite (.usbStreamMod h) h))

theorem HullAt.outMod {v : HullState} {s : State} {o : Nat} {f : Output → Output} (inv : HullAt v s) :
    HullAt v (Machine.outMod s o f) :=
  inv

theorem HullAt.askRamp {v : HullState} {s : State} {o : Nat} {up : Bool} {tenths after cause log : Nat}
    (inv : HullAt v s) : HullAt v (Machine.askRamp o up tenths after cause log s) :=
  .outMod inv

theorem HullAt.netMod {v : HullState} {s : State} {f : NetState → NetState} (inv : HullAt v s) :
    HullAt v (Machine.netMod s f) :=
  inv

theorem HullAt.streamMod {v : HullState} {s : State} {n : Nat} {f : Machine.Stream → Machine.Stream}
    (inv : HullAt v s) : HullAt v (Machine.streamMod s n f) :=
  .netMod inv

theorem HullAt.streamsRefused {v : HullState} {s : State} {ov status log : Nat} (inv : HullAt v s) :
    HullAt v (Machine.streamsRefused ov status log s) :=
  .foldl inv (fun _ _ h => .ite (.completedAll (.posted (.streamMod h))) h)

theorem HullAt.ovMod {v : HullState} {s : State} {n : Nat} {f : Overlay → Overlay} (inv : HullAt v s) :
    HullAt v (Machine.ovMod s n f) :=
  inv

theorem HullAt.ovChanged {v : HullState} {s : State} {n st : Nat} {c : OvCause} (inv : HullAt v s) :
    HullAt v (Machine.ovChanged n st c s) :=
  .posted inv

theorem HullAt.enterOv {v : HullState} {s : State} {n st : Nat} (inv : HullAt v s) :
    HullAt v (Machine.enterOv n st s) :=
  .ovChanged (.ovMod inv)

theorem HullAt.gateTo {v : HullState} {s : State} {n : Nat} {up cut : Bool} {ramp : Nat} (inv : HullAt v s) :
    HullAt v (Machine.gateTo n up cut ramp s) := by
  unfold Machine.gateTo
  split
  · exact .commitSlot inv
  · exact inv

theorem HullAt.rampMod {v : HullState} {s : State} {k : Nat} {f : RouteRamp → RouteRamp} (inv : HullAt v s) :
    HullAt v (Machine.rampMod s k f) :=
  inv

theorem HullAt.askRoutes {v : HullState} {s : State} {up : Bool} {ks : List Nat} (inv : HullAt v s) :
    HullAt v (Machine.askRoutes up ks s) :=
  .foldl inv (fun _ _ h => .rampMod h)

theorem HullAt.askLoad {v : HullState} {s : State} {w : LoadWhat} (inv : HullAt v s) :
    HullAt v (Machine.askLoad w s) :=
  inv

theorem HullAt.reverseOverlay {v : HullState} {s : State} {n st : Nat} {q : QueuedAct} (inv : HullAt v s) :
    HullAt v (Machine.reverseOverlay n st q s) :=
  .askRoutes (.gateTo (.enterOv (.ovMod (.completedAll inv))))

theorem HullAt.dropLoad {v : HullState} {s : State} (inv : HullAt v s) :
    HullAt v (Machine.dropLoad s) := by
  unfold Machine.dropLoad
  split
  · exact inv
  · exact .foldl (.askRoutes inv) (fun _ _ h => .ite (.askRamp h) h)

theorem HullAt.abandonActivation {v : HullState} {s : State} {n : Nat} (inv : HullAt v s) :
    HullAt v (Machine.abandonActivation n s) := by
  unfold Machine.abandonActivation
  dsimp only
  split
  · exact .ite (.dropLoad inv) inv
  · exact inv

theorem HullAt.startDeactivation {v : HullState} {s : State} {n : Nat} {q : QueuedAct} (inv : HullAt v s) :
    HullAt v (Machine.startDeactivation n q s) :=
  .askRoutes (.gateTo (.enterOv (.ovMod inv)))

theorem HullAt.giveUp {v : HullState} {s : State} {n log : Nat} {ws : List Waiter} (inv : HullAt v s) :
    HullAt v (Machine.giveUp n log ws s) :=
  .streamsRefused (.completedAll inv)

theorem HullAt.deactivateOverlay {v : HullState} {s : State} {n : Nat} {q : QueuedAct} (inv : HullAt v s) :
    HullAt v (Machine.deactivateOverlay n q s).2 := by
  unfold Machine.deactivateOverlay
  extract_lets v
  split
  · exact inv
  · dsimp only
    exact .usbDiscard (.enterOv (.ovMod (.giveUp (.abandonActivation inv))))
  · exact .reverseOverlay inv
  · exact .startDeactivation inv
  · dsimp only
    exact .giveUp (.ovMod inv)

theorem HullAt.variantStep {v : HullState} {s : State} (inv : HullAt v s) :
    HullAt v (Machine.variantStep s) := by
  unfold Machine.variantStep
  split
  · refine .ite inv (.ite (.askLoad ?_) (.foldl inv (fun _ _ h => .ite (.deactivateOverlay h) h)))
    dsimp only
    exact .foldl inv (fun _ _ h => .ite (.deactivateOverlay h) h)
  · exact inv

end Sys2Proof.Machine
end

section
/-! PROOF. The 1 ms interval and its margin rows, the hull log's hour and the prediction (chapter 17). -/

namespace Sys2Proof.Machine

/-! ## The interval's accounting -/

/-- What the interval's accounting of the span and of class-D stress leaves, and the intervals that it counts. -/
def spanSeen (s : State) : ChartState × PowerState × HullState × Nat :=
  (s.cs, s.pwr, { s.hull with span := HullSpan.start, stress := 0, stressPosted := 0 }, s.hull.span.intervals)

theorem post_spanSeen (code inst log data : Nat) (cn : Concern) (s : State) :
    spanSeen (post code inst log data cn s) = spanSeen s := by simp [spanSeen]

theorem accountStress_spanSeen (t21 : Int) (microamps : Nat) (s : State) :
    spanSeen (accountStress t21 microamps s) = spanSeen s := by
  unfold accountStress
  split
  · rfl
  · refine (foldl_keeps spanSeen _ (fun t k => ?_) _ _).trans rfl
    exact keeps_ite spanSeen (post_spanSeen ..) rfl

/-- The hull log as the margin rows find it. -/
def noted (l : List Nat) (mv : Nat) (h : HullState) : HullState := { h with sis := (l :: h.sis).take 10, vcoreMv := mv }

theorem accounted_spanSeen (l : List Nat) (a b : Int) (mv microamps margin : Nat) (s : State) :
    spanSeen (accountStress b microamps (accountSpan l a mv margin { s with hull := noted l mv s.hull }))
      = (s.cs, s.pwr, { noted l mv s.hull with span := HullSpan.start, stress := 0, stressPosted := 0 }, s.hull.span.intervals + 1) :=
  (accountStress_spanSeen _ _ _).trans rfl

/-! ## The rows of Table 17-2 -/

theorem stepVcore_hull (v : Nat) (s : State) : (stepVcore v s).hull = { s.hull with sinceStep := 0 }
    ∧ (stepVcore v s).pwr = { s.pwr with vcore := v } ∧ (stepVcore v s).cs = s.cs := by
  unfold stepVcore
  simp

/-- A VCORE step leaves the rest of the hull log, and the chart. -/
theorem actVcore_kept (s : State) : (∃ k, (actVcore s).hull = { s.hull with sinceStep := k }) ∧ (actVcore s).cs = s.cs := by
  unfold actVcore
  dsimp only
  have hstep : ∀ v, (∃ k, (stepVcore v s).hull = { s.hull with sinceStep := k }) ∧ (stepVcore v s).cs = s.cs := fun v =>
    ⟨⟨0, (stepVcore_hull v s).1⟩, (stepVcore_hull v s).2.2⟩
  split
  · exact hstep _
  · split
    · exact hstep _
    · exact ⟨⟨_, rfl⟩, rfl⟩

theorem actVcore_up {s : State} (hw : s.hull.window < 1300) (hv : s.pwr.vcore < 20) (ht : 20 ≤ s.hull.sinceStep) :
    actVcore s = stepVcore (s.pwr.vcore + 1) s := if_pos ⟨hw, hv, ht⟩

theorem actVcore_down {s : State} (hw : 1300 ≤ s.hull.window) (h145 : 60000 ≤ s.hull.since145) (hv : 8 < s.pwr.vcore)
    (hr : s.cs.reduced = false) (ht : 60000 ≤ s.hull.sinceStep) : actVcore s = stepVcore (s.pwr.vcore - 1) s :=
  (if_neg fun h => absurd h.1 (by omega)).trans (if_pos ⟨h145, hv, hr, ht⟩)

theorem actVcore_stays {s : State} (h1 : s.hull.window < 1300 → 20 ≤ s.pwr.vcore ∨ s.hull.sinceStep < 20)
    (h2 : s.hull.since145 < 60000) : actVcore s = s := by
  refine (if_neg ?_).trans (if_neg ?_)
  · intro ⟨hw, hv, ht⟩
    rcases h1 hw with h | h <;> omega
  · intro ⟨h, _⟩
    omega

/-- The re-plan rows set the re-plan that is due and the one that is posted, and nothing else of the hull log. -/
theorem actReplan_kept (v : Nat) (s : State) :
    (∃ a b, (actReplan v s).hull = { s.hull with replanDue := a, replanPosted := b }) ∧ (actReplan v s).cs = s.cs
      ∧ (actReplan v s).pwr = s.pwr := by
  unfold actReplan
  extract_lets outcome h
  clear_value outcome
  split
  · exact ⟨⟨_, _, rfl⟩, rfl, rfl⟩
  · split
    · exact ⟨⟨_, _, rfl⟩, rfl, rfl⟩
    · split
      · exact ⟨⟨_, _, rfl⟩, rfl, rfl⟩
      · exact ⟨⟨s.hull.replanDue, true, by simp [postReplan, h]⟩, by simp [postReplan], by simp [postReplan]⟩

theorem actReplan_due {s : State} (hw : s.hull.window < 1150) (hr : s.cs.reduced = false) (hl : s.hull.limiting ≤ 10)
    (hc : (s.cs.chart.map (·.hasReduced)).getD false = true) (hch : s.cs.change = none) :
    (actReplan 20 s).hull.replanDue = true := by
  unfold actReplan
  rw [if_neg (by simp [hw, hr])]
  simp [Nat.not_lt.mpr hl, hc, hch]

/-- Where no re-plan can help, it is posted (R392). -/
theorem actReplan_posts {s : State} (hw : s.hull.window < 1150) (hr : s.cs.reduced = false)
    (h : 10 < s.hull.limiting ∨ (s.cs.chart.map (·.hasReduced)).getD false = false) :
    (actReplan 20 s).hull.replanPosted = true := by
  unfold actReplan
  extract_lets outcome
  have hout : outcome ≠ 1 := by
    by_cases hl : 10 < s.hull.limiting
    · simp [outcome, hl]
    · simp [outcome, hl, h.resolve_left hl]
  rw [if_neg (by simp [hw, hr]), if_neg hout]
  split
  case isTrue h => exact h
  case isFalse => simp [postReplan]

/-- SPEED_RISK leaves the rest of the hull log. -/
theorem actRisk_kept (m : Nat) (s : State) :
    (∃ a b c f, (actRisk m s).hull = { s.hull with riskCount := a, riskMin := b, sinceRisk := c, span := f }
      ∧ f.intervals = s.hull.span.intervals) ∧ (actRisk m s).pwr = s.pwr := by
  unfold actRisk
  split
  · exact ⟨⟨_, _, _, _, rfl, rfl⟩, rfl⟩
  · dsimp only
    split
    · exact ⟨⟨_, _, _, _, rfl, rfl⟩, rfl⟩
    · refine ⟨⟨0, 0xFFFF, 0, { s.hull.span with flags := s.hull.span.flags ||| 8 }, ?_, rfl⟩, ?_⟩
      · simp [spanMod]
      · simp [spanMod]

theorem actRisk_safe {m : Nat} {s : State} (h : 1020 ≤ m) : actRisk m s = s := if_pos h

theorem actRisk_counts {m : Nat} {s : State} (h : m < 1020) (ht : s.hull.sinceRisk < 10000) :
    (actRisk m s).hull.riskCount = min (s.hull.riskCount + 1) 0xFFFF := by
  unfold actRisk
  rw [if_neg (by omega), if_pos ht]

theorem actRisk_posts {m : Nat} {s : State} (h : m < 1020) (ht : 10000 ≤ s.hull.sinceRisk) :
    (actRisk m s).hull.riskCount = 0 ∧ (actRisk m s).hull.sinceRisk = 0 ∧ bit (actRisk m s).hull.span.flags 3 = true := by
  unfold actRisk
  rw [if_neg (by omega), if_neg (by simpa using ht)]
  refine ⟨by simp [spanMod], by simp [spanMod], ?_⟩
  simp only [spanMod, bit, Nat.testBit_or]
  exact Bool.or_eq_true_iff.mpr (.inr (by decide))

/-! ## The interval -/

/-- The interval's margin and the counts that the rows look at, as `noteMargin` leaves them (R388). -/
theorem noteMargin_hull (m : Nat × Nat) (s : State) : (noteMargin m s).hull.window = windowMargin s false
    ∧ (noteMargin m s).hull.limiting = m.2 ∧ (noteMargin m s).hull.sinceStep = min (s.hull.sinceStep + 1) 60000
    ∧ (noteMargin m s).hull.since145 = countUp (decide (1450 ≤ windowMargin s false)) s.hull.since145 60000
    ∧ (noteMargin m s).hull.sinceRisk = min (s.hull.sinceRisk + 1) 10000
    ∧ (noteMargin m s).hull.riskCount = s.hull.riskCount ∧ (noteMargin m s).hull.sis = s.hull.sis
    ∧ (noteMargin m s).hull.vcoreMv = s.hull.vcoreMv ∧ (noteMargin m s).hull.span = s.hull.span :=
  ⟨rfl, rfl, rfl, rfl, rfl, rfl, rfl, rfl, rfl⟩

/-- The rows of one interval in order, on the state `n` that its margin has left. -/
def actRows (margin : Nat) (n : State) : State := actRisk margin (actReplan n.pwr.vcore (actVcore n))

theorem actMargin_chart {l : List Nat} {s : State} (h : s.cs.chart.isSome = true) :
    actMargin l s = actRows (marginOf s false l).1 (noteMargin (marginOf s false l) s) := by
  refine (if_neg ?_).trans rfl
  obtain ⟨c, hc⟩ := Option.isSome_iff_exists.mp h
  simp [hc]

/-- What the rows leave of the hull log. -/
theorem actRows_kept (margin : Nat) (n : State) : (actRows margin n).hull.window = n.hull.window
    ∧ (actRows margin n).hull.limiting = n.hull.limiting ∧ (actRows margin n).hull.sis = n.hull.sis
    ∧ (actRows margin n).hull.vcoreMv = n.hull.vcoreMv ∧ (actRows margin n).hull.span.intervals = n.hull.span.intervals := by
  obtain ⟨⟨k, hk⟩, -⟩ := actVcore_kept n
  obtain ⟨⟨a, b, hab⟩, -, -⟩ := actReplan_kept n.pwr.vcore (actVcore n)
  obtain ⟨⟨c, d, e, f, hr, hf⟩, -⟩ := actRisk_kept margin (actReplan n.pwr.vcore (actVcore n))
  unfold actRows
  rw [hr, hf, hab, hk]
  exact ⟨rfl, rfl, rfl, rfl, rfl⟩

theorem actRows_vcore (margin : Nat) (n : State) : (actRows margin n).pwr = (actVcore n).pwr :=
  (actRisk_kept margin _).2.trans (actReplan_kept _ _).2.2

/-- The steps that end a count are VCORE's own. -/
theorem actRows_sinceStep (margin : Nat) (n : State) : (actRows margin n).hull.sinceStep = (actVcore n).hull.sinceStep := by
  obtain ⟨⟨a, b, hab⟩, -, -⟩ := actReplan_kept n.pwr.vcore (actVcore n)
  obtain ⟨⟨c, d, e, f, hr, -⟩, -⟩ := actRisk_kept margin (actReplan n.pwr.vcore (actVcore n))
  unfold actRows
  rw [hr, hab]

theorem actRows_replan (margin : Nat) (n : State) :
    (actRows margin n).hull.replanDue = (actReplan n.pwr.vcore (actVcore n)).hull.replanDue
      ∧ (actRows margin n).hull.replanPosted = (actReplan n.pwr.vcore (actVcore n)).hull.replanPosted := by
  obtain ⟨⟨c, d, e, f, hr, -⟩, -⟩ := actRisk_kept margin (actReplan n.pwr.vcore (actVcore n))
  unfold actRows
  rw [hr]
  exact ⟨rfl, rfl⟩

/-- Before the last row SPEED_RISK's counts stand as the interval has left them. -/
theorem beforeRisk (n : State) : (actReplan n.pwr.vcore (actVcore n)).hull.sinceRisk = n.hull.sinceRisk
    ∧ (actReplan n.pwr.vcore (actVcore n)).hull.riskCount = n.hull.riskCount := by
  obtain ⟨⟨k, hk⟩, -⟩ := actVcore_kept n
  obtain ⟨⟨a, b, hab⟩, -, -⟩ := actReplan_kept n.pwr.vcore (actVcore n)
  rw [hab, hk]
  exact ⟨rfl, rfl⟩

/-- The rows of Table 17-2 on a state whose margin has just been noted. -/
theorem actRows_spec {margin : Nat} {n : State} (h145 : n.hull.window < 1450 → n.hull.since145 = 0) :
    (n.hull.window < 1300 → n.pwr.vcore < 20 → 20 ≤ n.hull.sinceStep →
        (actRows margin n).pwr.vcore = n.pwr.vcore + 1 ∧ (actRows margin n).hull.sinceStep = 0)
    ∧ (n.hull.window < 1300 → (20 ≤ n.pwr.vcore ∨ n.hull.sinceStep < 20) → (actRows margin n).pwr.vcore = n.pwr.vcore)
    ∧ (1300 ≤ n.hull.window → n.hull.window < 1450 → (actRows margin n).pwr.vcore = n.pwr.vcore)
    ∧ (1450 ≤ n.hull.window → 60000 ≤ n.hull.since145 → 8 < n.pwr.vcore → n.cs.reduced = false →
        60000 ≤ n.hull.sinceStep → (actRows margin n).pwr.vcore = n.pwr.vcore - 1)
    ∧ (n.hull.window < 1150 → n.pwr.vcore = 20 → n.cs.reduced = false → n.hull.limiting ≤ 10 →
        ((n.cs.chart.map (·.hasReduced)).getD false = true → n.cs.change = none → (actRows margin n).hull.replanDue = true)
        ∧ ((n.cs.chart.map (·.hasReduced)).getD false = false → (actRows margin n).hull.replanPosted = true))
    ∧ (n.hull.window < 1150 → n.pwr.vcore = 20 → n.cs.reduced = false → 10 < n.hull.limiting →
        (actRows margin n).hull.replanPosted = true)
    ∧ (margin < 1020 →
        (n.hull.sinceRisk < 10000 → (actRows margin n).hull.riskCount = min (n.hull.riskCount + 1) 0xFFFF)
        ∧ (10000 ≤ n.hull.sinceRisk → (actRows margin n).hull.riskCount = 0 ∧ (actRows margin n).hull.sinceRisk = 0
          ∧ bit (actRows margin n).hull.span.flags 3 = true))
    ∧ (1020 ≤ margin → (actRows margin n).hull.riskCount = n.hull.riskCount) := by
  have hat20 : n.hull.window < 1150 → n.pwr.vcore = 20 → actVcore n = n := fun hw hv =>
    actVcore_stays (fun _ => .inl (by omega)) (by rw [h145 (by omega)]; decide)
  obtain ⟨hrisk, hcount⟩ := beforeRisk n
  obtain ⟨hdue, hposted⟩ := actRows_replan margin n
  rw [actRows_vcore, actRows_sinceStep, hdue, hposted]
  refine ⟨fun hw hv ht => ?_, fun hw h => ?_, fun h1 h2 => ?_, fun hw h1 hv hr ht => ?_, fun hw hv hr hl => ?_,
    fun hw hv hr hl => ?_, fun hm => ⟨fun ht => ?_, fun ht => ?_⟩, fun hm => ?_⟩
  · obtain ⟨hh, hp, -⟩ := stepVcore_hull (n.pwr.vcore + 1) n
    rw [actVcore_up hw hv ht, hp, hh]
    exact ⟨rfl, rfl⟩
  · rw [actVcore_stays (fun _ => h) (by rw [h145 (by omega)]; decide)]
  · rw [actVcore_stays (fun h => by omega) (by rw [h145 h2]; decide)]
  · rw [actVcore_down (by omega) h1 hv hr ht, (stepVcore_hull _ n).2.1]
  · rw [hat20 hw hv, hv]
    exact ⟨fun hc hch => actReplan_due hw hr hl hc hch, fun hc => actReplan_posts hw hr (.inr hc)⟩
  · rw [hat20 hw hv, hv]
    exact actReplan_posts hw hr (.inl hl)
  · exact (actRisk_counts hm (by rw [hrisk]; exact ht)).trans (by rw [hcount])
  · exact actRisk_posts hm (by rw [hrisk]; exact ht)
  · exact (congrArg (fun t : State => t.hull.riskCount) (actRisk_safe hm)).trans hcount

end Sys2Proof.Machine

end

section
/-! PROOF. The commands on speed and the hull log, and chapter 17 assembled. -/

namespace Sys2Proof.Machine

theorem marginOf_cs {s t : State} (h : t.cs = s.cs) (full : Bool) (l : List Nat) : marginOf t full l = marginOf s full l := by
  unfold marginOf monitorMargin requirement
  rw [h]

theorem healthyMs_kept (s : State) : (healthyMs s).hull = s.hull ∧ (healthyMs s).pwr = s.pwr := by
  unfold healthyMs
  split <;> exact ⟨rfl, rfl⟩

/-- The state on which the interval's rows act. -/
def accounted (l : List Nat) (a b : Int) (mv ua : Nat) (s : State) : State :=
  let s1 := { s with hull := noted l mv s.hull }
  accountStress b ua (accountSpan l a mv (if s.cs.chart.isSome then (marginOf s1 false l).1 else 0xFFFF) s1)

theorem marginInterval_runs {l : List Nat} {a b : Int} {mv ua : Nat} {s : State} (hacc : accounts s = true) (habs : s.host.absent = false) :
    marginInterval l a b mv ua s = healthyMs (actMargin l (accounted l a b mv ua s)) := if_neg (by simp [hacc, habs])

theorem marginInterval_rests {l : List Nat} {a b : Int} {mv ua : Nat} {s : State} (h : s.host.absent = true ∨ accounts s = false) :
    marginInterval l a b mv ua s = { s with hull := noted l mv s.hull } := if_pos (by rcases h with h | h <;> simp [h])

/-- What the rows find after the accounting. -/
theorem accounted_spec (l : List Nat) (a b : Int) (mv ua : Nat) (s : State) : (accounted l a b mv ua s).cs = s.cs
    ∧ (accounted l a b mv ua s).pwr = s.pwr ∧ (accounted l a b mv ua s).hull.sis = (l :: s.hull.sis).take 10
    ∧ (accounted l a b mv ua s).hull.vcoreMv = mv ∧ (accounted l a b mv ua s).hull.sinceStep = s.hull.sinceStep
    ∧ (accounted l a b mv ua s).hull.since145 = s.hull.since145 ∧ (accounted l a b mv ua s).hull.sinceRisk = s.hull.sinceRisk
    ∧ (accounted l a b mv ua s).hull.riskCount = s.hull.riskCount
    ∧ (accounted l a b mv ua s).hull.span.intervals = s.hull.span.intervals + 1 := by
  have h := accounted_spanSeen l a b mv ua (if s.cs.chart.isSome then (marginOf { s with hull := noted l mv s.hull } false l).1 else 0xFFFF) s
  change spanSeen (accounted l a b mv ua s) = _ at h
  generalize accounted l a b mv ua s = u at h ⊢
  simp only [spanSeen, noted, Prod.mk.injEq, HullState.mk.injEq] at h
  obtain ⟨hcs, hpwr, hhull, hspan⟩ := h
  simp only [hcs, hpwr, hhull, hspan, and_self]

theorem exec_marginInterval {l : List Nat} {a b : Int} {mv ua : Nat} {s : State}
    (h : s.pwr.dev ≠ .off ∧ s.pwr.dev ≠ .por ∧ s.pwr.dev ≠ .sleep) :
    exec (.marginInterval l a b mv ua) s = .next (marginInterval ((List.range 14).map (fun m => l.getD m 0)) a b mv ua s) :=
  show execMarginInterval l a b mv ua s = _ from whenever_true (by simp [h.1, h.2.1, h.2.2])

theorem accounts_dev {s : State} (h : accounts s = true) : s.pwr.dev ≠ .off ∧ s.pwr.dev ≠ .por ∧ s.pwr.dev ≠ .sleep := by
  have hd : s.pwr.dev ∈ [Dev.active, Dev.doze, Dev.test, Dev.recovery] := of_decide_eq_true h
  cases hc : s.pwr.dev <;> simp_all

/-- The margin's window and rows of one interval, from the state before it. -/
theorem interval_rows {l : List Nat} {a b : Int} {mv ua : Nat} {s n : State} (hchart : s.cs.chart.isSome = true)
    (hn : n = noteMargin (marginOf s false l) (accounted l a b mv ua s)) :
    actMargin l (accounted l a b mv ua s) = actRows (marginOf s false l).1 n
      ∧ n.cs = s.cs ∧ n.pwr = s.pwr ∧ n.hull.sis = (l :: s.hull.sis).take 10 ∧ n.hull.vcoreMv = mv
      ∧ n.hull.window = (n.hull.sis.map (fun x => (marginOf s false x).1)).foldl min 0xFFFF
      ∧ n.hull.limiting = (marginOf s false l).2 ∧ n.hull.sinceStep = min (s.hull.sinceStep + 1) 60000
      ∧ n.hull.since145 = countUp (decide (1450 ≤ n.hull.window)) s.hull.since145 60000
      ∧ n.hull.sinceRisk = min (s.hull.sinceRisk + 1) 10000 ∧ n.hull.riskCount = s.hull.riskCount
      ∧ n.hull.span.intervals = s.hull.span.intervals + 1 := by
  obtain ⟨hcs, hpwr, hsis, hmv, hstep, h145, hrisk, hcount, hspan⟩ := accounted_spec l a b mv ua s
  generalize accounted l a b mv ua s = u at *
  obtain ⟨k1, k2, k3, k4, k5, k6, k7, k8, k9⟩ := noteMargin_hull (marginOf s false l) u
  rw [← hn] at k1 k2 k3 k4 k5 k6 k7 k8 k9
  have hm : ∀ x, marginOf u false x = marginOf s false x := fun x => marginOf_cs hcs false x
  refine ⟨?_, ?_, ?_, k7.trans hsis, k8.trans hmv, ?_, k2, by rw [k3, hstep], by rw [k4, h145, k1], by rw [k5, hrisk], k6.trans hcount,
    by rw [k9, hspan]⟩
  · rw [actMargin_chart (by rw [hcs]; exact hchart), hm, hn]
  · rw [hn]
    exact hcs
  · rw [hn]
    exact hpwr
  · rw [k1, k7]
    simp only [windowMargin, hm]

theorem le_capped {k x c : Nat} (hk : k ≤ c) (h : k ≤ x + 1) : k ≤ min (x + 1) c := Nat.le_min.mpr ⟨h, hk⟩

theorem capped_lt {k x c : Nat} (h : x + 1 < k) : min (x + 1) c < k := lt_of_le_of_lt (Nat.min_le_left _ _) h

theorem countUp_restarts {keep : Bool} (h : keep = false) (x c : Nat) : countUp keep x c = 0 := by
  rw [h]
  rfl

theorem countUp_counts {keep : Bool} (h : keep = true) (x c : Nat) : countUp keep x c = min (x + 1) c := by
  rw [h]
  rfl

/-- The rows of the interval, from the counts before it (R390). -/
theorem interval_acts {margin : Nat} {s n : State} (hcs : n.cs = s.cs) (hpwr : n.pwr = s.pwr)
    (hstep : n.hull.sinceStep = min (s.hull.sinceStep + 1) 60000)
    (h145 : n.hull.since145 = countUp (decide (1450 ≤ n.hull.window)) s.hull.since145 60000)
    (hrisk : n.hull.sinceRisk = min (s.hull.sinceRisk + 1) 10000) (hcount : n.hull.riskCount = s.hull.riskCount) :
    (n.hull.window < 1300 → s.pwr.vcore < 20 → 19 ≤ s.hull.sinceStep →
        (actRows margin n).pwr.vcore = s.pwr.vcore + 1 ∧ (actRows margin n).hull.sinceStep = 0)
    ∧ (n.hull.window < 1300 → (20 ≤ s.pwr.vcore ∨ s.hull.sinceStep < 19) → (actRows margin n).pwr.vcore = s.pwr.vcore)
    ∧ (1300 ≤ n.hull.window → n.hull.window < 1450 → (actRows margin n).pwr.vcore = s.pwr.vcore)
    ∧ (1450 ≤ n.hull.window → 59999 ≤ s.hull.since145 → 8 < s.pwr.vcore → s.cs.reduced = false →
        59999 ≤ s.hull.sinceStep → (actRows margin n).pwr.vcore = s.pwr.vcore - 1)
    ∧ (n.hull.window < 1150 → s.pwr.vcore = 20 → s.cs.reduced = false → n.hull.limiting ≤ 10 →
        ((s.cs.chart.map (·.hasReduced)).getD false = true → s.cs.change = none → (actRows margin n).hull.replanDue = true)
        ∧ ((s.cs.chart.map (·.hasReduced)).getD false = false → (actRows margin n).hull.replanPosted = true))
    ∧ (n.hull.window < 1150 → s.pwr.vcore = 20 → s.cs.reduced = false → 10 < n.hull.limiting →
        (actRows margin n).hull.replanPosted = true)
    ∧ (margin < 1020 →
        (s.hull.sinceRisk < 9999 → (actRows margin n).hull.riskCount = min (s.hull.riskCount + 1) 0xFFFF)
        ∧ (9999 ≤ s.hull.sinceRisk → (actRows margin n).hull.riskCount = 0 ∧ (actRows margin n).hull.sinceRisk = 0
          ∧ bit (actRows margin n).hull.span.flags 3 = true))
    ∧ (1020 ≤ margin → (actRows margin n).hull.riskCount = s.hull.riskCount) := by
  have hv : n.pwr.vcore = s.pwr.vcore := congrArg PowerState.vcore hpwr
  obtain ⟨r1, r2, r3, r4, r5, r6, r7, r8⟩ := actRows_spec (margin := margin) (n := n)
    (fun h => h145.trans (countUp_restarts (decide_eq_false (Nat.not_le.mpr h)) _ _))
  generalize actRows margin n = t at *
  rw [hv] at r1 r2 r3 r4 r5 r6
  rw [hcs] at r4 r5 r6
  rw [hstep] at r1 r2 r4
  rw [hrisk, hcount] at r7
  rw [hcount] at r8
  refine ⟨fun hw hlt ht => r1 hw hlt (le_capped (by decide) (Nat.succ_le_succ ht)),
    fun hw ht => r2 hw (ht.imp id fun h => capped_lt (Nat.succ_lt_succ h)), r3, fun hw h1 h2 h3 h4 => r4 hw ?_ h2 h3 ?_, r5, r6,
    fun hm => ⟨fun ht => (r7 hm).1 (capped_lt (Nat.succ_lt_succ ht)), fun ht => (r7 hm).2 ?_⟩, r8⟩
  · rw [h145, countUp_counts (decide_eq_true hw)]
    exact le_capped (le_refl _) (Nat.succ_le_succ h1)
  · exact le_capped (le_refl _) (Nat.succ_le_succ h4)
  · exact le_capped (le_refl _) (Nat.succ_le_succ ht)

/-! ## Reads -/

theorem speedStatusResult_measured {n : Nat} {s : State} {si : List Nat} {r : List (List Nat)} (hc : s.cs.chart.isSome = true)
    (hs : s.hull.sis = si :: r) : speedStatusResult n s = b2 s.hull.window ++ b1 s.hull.limiting ++ b1 s.pwr.vcore ++ b2 s.hull.vcoreMv
      ++ b1 (flag s.cs.reduced) ++ b1 (flag s.hull.replanFlag.isSome + 2 * flag (decide (s.hull.since102 < 10000)))
      ++ b4 (requirement s false 0) ++ (List.range 14).flatMap (fun m => b2 (si.getD m 0)) ++ b2 (tget 0xFFFF s.hull.smallest n)
      ++ [0, 0] := by
  unfold speedStatusResult
  dsimp only
  rw [hc, hs]
  rfl

theorem openDiv_bounds (s : State) (k x d : Nat) : openDiv s k x d = x / d ∨ openDiv s k x d = x / d + 1 := by
  unfold openDiv flag
  split
  · exact .inr rfl
  · exact .inl rfl

theorem hullReadResult_eq (p : List Byte) (s : State) : hullReadResult p s =
    b1 (min (u8 p 1) ((hullRing s (1 + u8 p 0)).length - u16 p 2)) ++ [0, 0, 0]
      ++ (((hullRing s (1 + u8 p 0)).drop (u16 p 2)).take (u8 p 1)).flatMap hullRecordBytes := by
  unfold hullReadResult
  dsimp only
  rw [List.length_take, List.length_drop]
  rfl

theorem hullPredictResult_fitted {s : State} (h : s.hull.prediction.n ≠ 0) : hullPredictResult s =
    b1 s.hull.prediction.st ++ [0] ++ b2 s.hull.prediction.points ++ b4 s.hull.hours
      ++ b4 (if s.hull.prediction.st = 1 then s.hull.prediction.hour else 0xFFFFFFFF)
      ++ b4 (if s.hull.prediction.st = 1 then s.hull.prediction.early else 0xFFFFFFFF)
      ++ b4 (if s.hull.prediction.st = 1 then s.hull.prediction.late else 0xFFFFFFFF) ++ b2 s.hull.prediction.n
      ++ b2 s.hull.prediction.sigma ++ sb2 s.hull.prediction.tp ++ [0, 0] ++ b4 s.hull.prediction.target := by
  unfold hullPredictResult
  have hfit : (s.hull.prediction.n != 0) = true := by simpa using h
  dsimp only
  rw [hfit]
  rfl

/-! ## The hour and the prediction -/

/-- A write that the part asks for waits behind those before it, and changes nothing else but the step it may begin. -/
theorem askNvm_kept (j : NvmJob) (s : State) : (askNvm j s).hull = s.hull ∧ (askNvm j s).fw.jobs = s.fw.jobs ++ [j] := by
  unfold askNvm nvmStart
  split
  · exact ⟨rfl, rfl⟩
  · split
    · exact ⟨rfl, rfl⟩
    · split <;> exact ⟨rfl, rfl⟩

theorem combine_kind (s : State) (kind : Nat) (rs : List HullRecord) : (combine s kind rs).kind = kind
    ∧ (combine s kind rs).endHour = s.hull.hours := ⟨rfl, rfl⟩

/-- The record of the hour that ends. -/
def hourRecord (s : State) : HullRecord := hourlyRecord { s with hull := { s.hull with hours := s.hull.hours + 1 } }

/-- The record of the hour has been asked for. -/
def hourAsked (s : State) : State :=
  askNvm (.hullRecord (hourRecord s))
    { s with hull := { s.hull with hours := s.hull.hours + 1, span := HullSpan.start, sinceDaily := s.hull.sinceDaily + 1 } }

theorem hourAsked_spec (s : State) : (hourAsked s).hull =
      { s.hull with hours := s.hull.hours + 1, span := HullSpan.start, sinceDaily := s.hull.sinceDaily + 1 }
    ∧ (hourAsked s).fw.jobs = s.fw.jobs ++ [.hullRecord (hourRecord s)] := askNvm_kept _ _

theorem hullHour_spec (s : State) : (hullHour s).hull = (dailyDue (hourAsked s)).hull
    ∧ (hullHour s).fw.jobs = (dailyDue (hourAsked s)).fw.jobs ++ [.hullSummary .own none] :=
  askNvm_kept (.hullSummary .own none) (dailyDue (hourAsked s))

theorem dailyDue_none {s : State} (h : s.hull.sinceDaily < 24) : dailyDue s = s := if_pos h

/-- The state with the day's record asked for. -/
def dayAsked (s : State) : State :=
  askNvm (.hullRecord (combine s 2 (lastRecords s 1 24)))
    { s with hull := { s.hull with sinceDaily := 0, sinceWeekly := s.hull.sinceWeekly + 1 } }

theorem dayAsked_spec (s : State) :
    (dayAsked s).hull = { s.hull with sinceDaily := 0, sinceWeekly := s.hull.sinceWeekly + 1 }
      ∧ (dayAsked s).fw.jobs = s.fw.jobs ++ [.hullRecord (combine s 2 (lastRecords s 1 24))] := askNvm_kept _ _

theorem dailyDue_day {s : State} (h : 24 ≤ s.hull.sinceDaily) (hw : s.hull.sinceWeekly < 6) : dailyDue s = dayAsked s := by
  have hlt : (dayAsked s).hull.sinceWeekly < 7 := by
    rw [(dayAsked_spec s).1]
    exact Nat.succ_lt_succ hw
  exact (if_neg (by omega)).trans (if_pos hlt)

theorem dailyDue_week {s : State} (h : 24 ≤ s.hull.sinceDaily) (hw : 6 ≤ s.hull.sinceWeekly) :
    dailyDue s = askNvm (.hullRecord (combine (dayAsked s) 3 (lastRecords (dayAsked s) 2 7)))
      { dayAsked s with hull := { (dayAsked s).hull with sinceWeekly := 0 } } := by
  have hge : ¬(dayAsked s).hull.sinceWeekly < 7 := by
    rw [(dayAsked_spec s).1]
    exact Nat.not_lt.mpr (Nat.succ_le_succ hw)
  exact (if_neg (by omega)).trans (if_neg hge)

theorem exec_hullHourly {s : State} (habs : s.host.absent = false) (h : accounts s = true ∨ s.pwr.dev = .sleep) :
    exec .hullHourly s = .next (hullHour s) :=
  show execHullHourly s = _ from whenever_true (by rcases h with h | h <;> simp [habs, h])

/-- The prediction as recomputed, before the horizon is looked at (R399, R401). -/
def predicted (s : State) : State :=
  { s with hull := { s.hull with prediction := predict s, predictDue := false }, free := s.free + 8 }

theorem recompute_unfitted {s : State} (h : (predict s).n = 0) : recompute s = predicted s := if_pos h

theorem recompute_far {s : State} (h : (predict s).n ≠ 0) (hf : s.hull.horizon + 720 < (predict s).early - s.hull.hours) :
    recompute s = { predicted s with hull := { (predicted s).hull with horizonArmed := true } } :=
  (if_neg h).trans (if_pos hf)

theorem recompute_near {s : State} (h : (predict s).n ≠ 0) (hst : (predict s).st = 1)
    (hf : (predict s).early - s.hull.hours ≤ s.hull.horizon) (ha : s.hull.horizonArmed = true) :
    recompute s = post 0x0D08 0 0 ((predict s).early - s.hull.hours) .none
      { predicted s with hull := { (predicted s).hull with horizonArmed := false } } :=
  (if_neg h).trans ((if_neg (by omega)).trans (if_pos ⟨hst, hf, ha⟩))

theorem recompute_prediction (s : State) : (recompute s).hull.prediction = predict s ∧ (recompute s).hull.predictDue = false := by
  unfold recompute
  extract_lets
  split
  · exact ⟨rfl, rfl⟩
  · split
    · exact ⟨rfl, rfl⟩
    · split
      · exact ⟨congrArg HullState.prediction (HullAt.posted rfl), congrArg HullState.predictDue (HullAt.posted rfl)⟩
      · exact ⟨rfl, rfl⟩

end Sys2Proof.Machine

namespace Sys2Proof

open Sys2Proof.Machine

/-- Settles O58: the commands, then the interval row by row, the re-plan, the hour and the prediction. -/
theorem hullCommandsAndStepsTakeEffect : Obligations.HullCommandsAndStepsTakeEffect := by
  refine ⟨fun o p s => ⟨?speed, ?measured, ?summary, ?read, ?predict, ?fitted, ?horizon, ?flush⟩,
    fun s => ⟨?interval, ?stopped, ?rests, ?replan, ?noReplan, ?hour, ?day, ?week, ?recompute⟩⟩
  case speed => exact fun h => hostCommand_does h rfl
  case measured =>
    exact fun h si r hc hs => (hostCommand_does h rfl).trans
      (congrArg (answerOn 0x0D03 o s 0 · _) (speedStatusResult_measured (s := takeLog s) hc hs))
  case summary =>
    exact fun h => ⟨_, _, openDiv_bounds (takeLog s) 0 s.hull.stress stressUnit,
      openDiv_bounds (takeLog s) 1 (s.hull.stress * 10000) stressRating, hostCommand_accepted h (reads hullSummaryResult)⟩
  case read =>
    exact fun h => (hostCommand_accepted h (reads (hullReadResult p))).trans
      (congrArg (answerOn 0x0D05 o s 0 · (takeLog s)) (hullReadResult_eq p (takeLog s)))
  case predict => exact fun h => hostCommand_accepted h (reads hullPredictResult)
  case fitted =>
    intro h q hq hn
    subst hq
    exact (hostCommand_accepted h (reads hullPredictResult)).trans
      (congrArg (answerOn 0x0D06 o s 0 · (takeLog s)) (hullPredictResult_fitted (s := takeLog s) hn))
  case horizon => exact fun h => congrArg Host.Outcome.next (hostTake_accepted h _)
  case flush => exact fun h => congrArg Host.Outcome.next (hostTake_accepted h _)
  case interval =>
    intro l a b mv ua hacc habs
    have hrun := exec_marginInterval (l := l) (a := a) (b := b) (mv := mv) (ua := ua) (accounts_dev hacc)
    generalize (List.range 14).map (fun m => l.getD m 0) = L at hrun ⊢
    rw [marginInterval_runs hacc habs] at hrun
    obtain ⟨hh, hp⟩ := healthyMs_kept (actMargin L (accounted L a b mv ua s))
    refine ⟨_, hrun, ?_⟩
    rw [hh, hp]
    cases hc : s.cs.chart.isSome with
    | false =>
      obtain ⟨hcs, hpwr, hsis, hmv, -, -, -, -, hspan⟩ := accounted_spec L a b mv ua s
      have hnone : actMargin L (accounted L a b mv ua s) = accounted L a b mv ua s :=
        if_pos (by rw [hcs]; simpa using hc)
      rw [hnone]
      exact ⟨hsis, hmv, hspan, fun _ => congrArg PowerState.vcore hpwr, fun h => absurd h (by decide)⟩
    | true =>
      obtain ⟨hrows, hcs, hpwr, hsis, hmv, hwin, hlim, hstep, h145, hrisk, hcount, hspan⟩ :=
        interval_rows (a := a) (b := b) (mv := mv) (ua := ua) hc rfl
      generalize noteMargin (marginOf s false L) (accounted L a b mv ua s) = n at hrows hcs hpwr hsis hmv hwin hlim hstep h145 hrisk hcount hspan
      obtain ⟨k1, k2, k3, k4, k5⟩ := actRows_kept (marginOf s false L).1 n
      rw [hrows, k1, k2, k3, k4, k5]
      exact ⟨hsis, hmv, hspan, fun h => by simp [h] at hc, fun _ =>
        ⟨hwin, hlim, interval_acts hcs hpwr hstep h145 hrisk hcount⟩⟩
  case stopped =>
    intro l a b mv ua h
    refine show execMarginInterval l a b mv ua s = _ from whenever_false ?_
    rcases h with h | h | h <;> simp [h]
  case rests =>
    intro l a b mv ua h1 h2 h3 h
    exact (exec_marginInterval ⟨h1, h2, h3⟩).trans (congrArg Host.Outcome.next (marginInterval_rests h))
  case replan =>
    intro hcp hdue hfab hred hr hch hsel
    have hrun : exec .replan s = .next (startVariant true 1 s.host.log none (postReplan 1 s.host.log (takeLog s))) :=
      show execReplan s = _ from whenever_true (by simp [replanReady, hcp, hdue, hfab, hred, hr, hch, hsel])
    have hh : HullAt _ (startVariant true 1 s.host.log none (postReplan 1 s.host.log (takeLog s))) := HullAt.variantStep rfl
    exact ⟨hrun, _, hrun, congrArg HullState.replanDue hh⟩
  case noReplan =>
    intro h
    refine show execReplan s = _ from whenever_false ?_
    rcases h with h | h | h <;> simp [replanReady, h]
  case hour =>
    intro habs hacc hd
    obtain ⟨h1, h2⟩ := hullHour_spec s
    obtain ⟨g1, g2⟩ := hourAsked_spec s
    have hnone : dailyDue (hourAsked s) = hourAsked s := dailyDue_none (by rw [g1]; exact Nat.succ_lt_succ hd)
    refine ⟨_, hourRecord s, exec_hullHourly habs hacc, ?_⟩
    rw [h1, h2, hnone, g1, g2, List.append_assoc]
    exact ⟨rfl, rfl, rfl, rfl, rfl⟩
  case day =>
    intro habs hacc hd hw
    obtain ⟨h1, h2⟩ := hullHour_spec s
    obtain ⟨g1, g2⟩ := hourAsked_spec s
    have hday : dailyDue (hourAsked s) = dayAsked (hourAsked s) :=
      dailyDue_day (by rw [g1]; exact Nat.succ_le_succ hd.ge) (by rw [g1]; exact hw)
    obtain ⟨d1, d2⟩ := dayAsked_spec (hourAsked s)
    obtain ⟨c1, c2⟩ := combine_kind (hourAsked s) 2 (lastRecords (hourAsked s) 1 24)
    refine ⟨_, hourRecord s, combine (hourAsked s) 2 (lastRecords (hourAsked s) 1 24), exec_hullHourly habs hacc, ?_⟩
    rw [h1, h2, hday, d1, d2, c1, c2, g1, g2, List.append_assoc, List.append_assoc]
    exact ⟨rfl, rfl, rfl, rfl, rfl, rfl⟩
  case week =>
    intro habs hacc hd hw
    obtain ⟨h1, h2⟩ := hullHour_spec s
    obtain ⟨g1, g2⟩ := hourAsked_spec s
    have hweek := dailyDue_week (s := hourAsked s) (by rw [g1]; exact Nat.succ_le_succ hd.ge) (by rw [g1]; exact hw.ge)
    obtain ⟨d1, d2⟩ := dayAsked_spec (hourAsked s)
    obtain ⟨w1, w2⟩ := askNvm_kept (.hullRecord (combine (dayAsked (hourAsked s)) 3 (lastRecords (dayAsked (hourAsked s)) 2 7)))
      { dayAsked (hourAsked s) with hull := { (dayAsked (hourAsked s)).hull with sinceWeekly := 0 } }
    obtain ⟨c1, -⟩ := combine_kind (hourAsked s) 2 (lastRecords (hourAsked s) 1 24)
    obtain ⟨e1, e2⟩ := combine_kind (dayAsked (hourAsked s)) 3 (lastRecords (dayAsked (hourAsked s)) 2 7)
    refine ⟨_, hourRecord s, combine (hourAsked s) 2 (lastRecords (hourAsked s) 1 24),
      combine (dayAsked (hourAsked s)) 3 (lastRecords (dayAsked (hourAsked s)) 2 7), exec_hullHourly habs hacc, ?_⟩
    rw [h1, h2, hweek, w1, w2, d2, c1, e1, e2, d1, g1, g2, List.append_assoc, List.append_assoc, List.append_assoc]
    exact ⟨rfl, rfl, rfl, rfl, rfl, rfl, rfl⟩
  case recompute =>
    intro q u hdue habs hacc hq hu
    subst hq hu
    obtain ⟨h1, h2⟩ := recompute_prediction s
    exact ⟨_, show execHullPredictionRecompute s = _ from whenever_true (by simp [hdue, habs, hacc]), h1, h2, recompute_unfitted,
      recompute_far, recompute_near⟩

end Sys2Proof

end

section
/-! PROOF. The commands on firmware, settings and keys (chapter 18). -/

namespace Sys2Proof.Machine

/-! ## Reads -/

theorem fwStatusResult_complete {s : State} (hh : s.fw.session.header ≠ []) (hg : s.fw.gangwayOutcome ≠ 0xFF) :
    fwStatusResult s = b1 s.fw.session.st ++ b1 (flag s.fw.probation + 2 * flag s.fw.image.dlDone + 4 * flag s.fw.image.verified
        + 8 * flag s.fw.image.confirmed + 16 * flag s.fw.autoConfirm + 32 * flag s.fw.suppressed)
      ++ b1 ((s.fw.session.owner.map ctxNum).getD 0xFF) ++ b1 (if s.pwr.dev = .harbour then s.pwr.harbourCause else 0)
      ++ b4 s.fw.running.fwVersion ++ b4 s.fw.running.security ++ b4 s.fw.counter ++ b2 (blockCount s.fw.session.header)
      ++ b2 s.fw.session.written.length ++ b2 s.fw.session.firstBad ++ b2 (min (s.fw.healthy / 1000) 0xFFFF)
      ++ b4 (regionVersion s) ++ b1 s.fw.counterLeft ++ b1 s.fw.gangwayOutcome ++ [0, 0] := by
  unfold fwStatusResult
  dsimp only
  rw [if_neg hh, if_neg hg]
  generalize s.fw.session.owner = c
  cases c <;> rfl

theorem settingsStatusResult_copy {s : State} (h : s.fw.setCopy ≠ 0xFF) : settingsStatusResult s =
    b1 s.fw.setState ++ b1 s.fw.setCopy ++ b2 (settingsCopy s s.fw.setCopy).format
      ++ b4 (settingsCopy s s.fw.setCopy).sequence ++ b4 (settingsCopy s s.fw.setCopy).chartId ++ b2 s.fw.applied
      ++ b2 s.fw.skipped ++ b2 s.fw.running.settingsFormat ++ b2 s.fw.running.settingsMin := by
  unfold settingsStatusResult
  dsimp only
  simp only [if_neg h]

theorem keyStatusResult_eq (s : State) : keyStatusResult s =
    (List.range 4).flatMap (fun n => b1 (if (vendorKey s n).isNone then 0 else if bit s.fw.revoked n then 2 else 1))
      ++ b1 (flag s.fw.chartKey.isSome) ++ [0, 0, 0]
      ++ ((s.fw.chartKey.map (fun k => sha256 (keyBytes 32 k.1 ++ keyBytes 32 k.2))).getD (List.replicate 32 0)) := by
  unfold keyStatusResult
  generalize s.fw.chartKey = k
  cases k <;> rfl

/-! ## FW_WRITE_DATA -/

/-- The chunk of FW_WRITE_DATA stands with those before it. -/
def chunkPut (p : List Byte) (s : State) : State :=
  sessMod s (fun q => { q with chunks := tset [] q.chunks (u16 p 0 * 8 + u8 p 2) (bytesAt p 8 512) })

theorem fwWriteDataRun_chunk {o : Issue} {p : List Byte} {log : Nat} {s : State} (h : completesBlock s p = false) :
    fwWriteDataRun o p log s = placeReply (ctxNum o.ctx)
      (replyTo 0x0E03 o 0 log (b2 s.fw.session.written.length ++ [0, 0])) (chunkPut p s) := by
  unfold fwWriteDataRun
  extract_lets k last s1 reply
  refine (if_pos (by simp [last, h])).trans ?_
  rfl

/-- The session as the chunk that completes a block leaves it: without the block's chunks. -/
def blockTaken (p : List Byte) (s : State) : State := dropChunks (u16 p 0) (chunkPut p s)

/-- The block that this chunk completes. -/
def blockOf (p : List Byte) (s : State) : List Byte := blockChunks (chunkPut p s) (u16 p 0)

theorem fwWriteDataRun_refused {o : Issue} {p : List Byte} {log st : Nat} {s : State} (h : completesBlock s p = true)
    (hr : blockRefusal (blockTaken p s) (u16 p 0) (blockOf p s) = some st) :
    fwWriteDataRun o p log s = if s.fw.session.st = 1
      then placeReply (ctxNum o.ctx) (replyTo 0x0E03 o st log []) (blockRefused log (blockTaken p s))
      else placeReply (ctxNum o.ctx)
        (replyTo 0x0E03 o st log (b2 (blocksWritten (blockRefused log (blockTaken p s))) ++ b1 1 ++ zeros 1))
        (blockRefused log (blockTaken p s)) := by
  unfold fwWriteDataRun
  extract_lets k last s1 reply b s2
  refine (if_neg (by simp [last, h])).trans ?_
  rw [show blockRefusal s2 k b = some st from hr]
  rfl

theorem fwWriteDataRun_accepted {o : Issue} {p : List Byte} {log : Nat} {s : State} (h : completesBlock s p = true)
    (hr : blockRefusal (blockTaken p s) (u16 p 0) (blockOf p s) = none) :
    fwWriteDataRun o p log s = deferred 0x0E03 o log
      (b2 (blocksWritten (blockAccepted (u16 p 0) (blockOf p s) (askerOf o 0x0E03 log s) (blockTaken p s))) ++ zeros 2)
      (blockAccepted (u16 p 0) (blockOf p s) (askerOf o 0x0E03 log s) (blockTaken p s)) := by
  unfold fwWriteDataRun
  extract_lets k last s1 reply b s2
  refine (if_neg (by simp [last, h])).trans ?_
  rw [show blockRefusal s2 k b = none from hr]
  rfl

/-- A refused block of an open download. -/
theorem fwWriteDataRun_bad {o : Issue} {p : List Byte} {log : Nat} {s : State} (h : completesBlock s p = true)
    (hst : s.fw.session.st = 2) (hr : blockRefusal (blockTaken p s) (u16 p 0) (blockOf p s) = some stBadParam) :
    fwWriteDataRun o p log s = placeReply (ctxNum o.ctx) (replyTo 0x0E03 o 5 log (b2 s.fw.session.written.length ++ [1, 0]))
      (blockTaken p s) := by
  have hkept : blockRefused log (blockTaken p s) = blockTaken p s := if_neg (by simp [blockTaken, dropChunks, chunkPut, sessMod, fwMod, hst])
  rw [fwWriteDataRun_refused h hr, hkept, if_neg (by simp [hst])]
  rfl

/-- The block waits to be written. -/
def blockQueued (p : List Byte) (a : Asker) (s : State) : State :=
  sessMod (blockTaken p s) (fun q => { q with jobs := q.jobs ++ [{ block := u16 p 0, bytes := blockOf p s, asker := a }] })

theorem fwWriteDataRun_good {o : Issue} {p : List Byte} {log : Nat} {s : State} (h : completesBlock s p = true)
    (hst : s.fw.session.st = 2) (hr : blockRefusal (blockTaken p s) (u16 p 0) (blockOf p s) = none) :
    fwWriteDataRun o p log s = deferred 0x0E03 o log (b2 s.fw.session.written.length ++ [0, 0])
      (blockQueued p (askerOf o 0x0E03 log s) s) := by
  have hacc : blockAccepted (u16 p 0) (blockOf p s) (askerOf o 0x0E03 log s) (blockTaken p s)
      = blockQueued p (askerOf o 0x0E03 log s) s := if_neg (by simp [blockTaken, dropChunks, chunkPut, sessMod, fwMod, hst])
  rw [fwWriteDataRun_accepted h hr, hacc]
  rfl

/-- A later block of the download is judged by its CRC, block 0 by the header that was accepted (R413). -/
theorem blockRefusal_later {s : State} {k : Nat} {b : List Byte} (hst : s.fw.session.st = 2) (hk : k ≠ 0) :
    blockRefusal s k b = if crc32c b = blockEntry s.fw.session.header k then none else some stBadParam :=
  (if_neg (by simp [hst])).trans (if_neg hk)

theorem blockRefusal_header {s : State} {b : List Byte} (hst : s.fw.session.st = 2) :
    blockRefusal s 0 b = if b = s.fw.session.header then none else some stBadParam :=
  (if_neg (by simp [hst])).trans (if_pos rfl)

theorem blockTaken_session (p : List Byte) (s : State) : (blockTaken p s).fw.session.st = s.fw.session.st
    ∧ (blockTaken p s).fw.session.header = s.fw.session.header ∧ (blockTaken p s).fw.session.written = s.fw.session.written
    ∧ (blockTaken p s).fw.session.jobs = s.fw.session.jobs ∧ (blockTaken p s).host = s.host ∧ (blockTaken p s).pwr = s.pwr :=
  ⟨rfl, rfl, rfl, rfl, rfl, rfl⟩

theorem deferred_away {op : Nat} {o : Issue} {log : Nat} {r : List Byte} {s : State} (h : s.pwr.dev ≠ .harbour) :
    deferred op o log r s = placeReply (ctxNum o.ctx) (replyTo op o stQueued log r) s := if_neg h

theorem deferred_harbour {op : Nat} {o : Issue} {log : Nat} {r : List Byte} {s : State} (h : s.pwr.dev = .harbour) :
    deferred op o log r s = s := if_pos h

theorem askerOf_away {o : Issue} {op log : Nat} {s : State} (h : s.pwr.dev ≠ .harbour) :
    askerOf o op log s = .host { ctx := o.ctx, log := log } := if_neg h

theorem askerOf_harbour {o : Issue} {op log : Nat} {s : State} (h : s.pwr.dev = .harbour) :
    askerOf o op log s = .reply o op log := if_pos h

/-- A reply placed on a state that the command's log number has reached. -/
theorem replied_place {op : Nat} {o : Issue} {s u : State} {st : Nat} {r : List Byte} (hlog : u.host.log = nextLog s.host.log) :
    Replied op o s st r (placeReply (ctxNum o.ctx) (replyTo op o st s.host.log r) u) :=
  ⟨lastReply_placeReply _ _ _, (placeReply_host _ _ _).1.trans hlog⟩

theorem placeReply_fw (n : Nat) (r : Reply) (s : State) : (placeReply n r s).fw = s.fw := by simp

theorem post_fw (code inst log data : Nat) (cn : Concern) (s : State) : (post code inst log data cn s).fw = s.fw := by simp

theorem postFwState_keeps (cause log : Nat) (s : State) : (postFwState cause log s).fw = s.fw
    ∧ (postFwState cause log s).host.log = s.host.log ∧ (postFwState cause log s).pwr = s.pwr := by
  unfold postFwState
  simp

theorem countErase_keeps (sector : Nat) (s : State) : (countErase sector s).fw = s.fw
    ∧ (countErase sector s).host.log = s.host.log := by
  unfold countErase
  extract_lets
  split
  · exact ⟨rfl, rfl⟩
  · exact ⟨post_fw .., post_log ..⟩

/-- The image store as an accepted header leaves it: erased, and to be written anew (R413). -/
def newImage (i : Image) : Image := { i with factory := false, dlDone := false, verified := false, confirmed := false, aborted := false }

/-- A download whose header has been accepted. -/
def openSession (b : List Byte) (a : Asker) (q : Session) : Session :=
  { q with st := 2, header := b, written := [], jobs := [{ block := 0, bytes := b, asker := a }], firstBad := 0xFFFF }

theorem acceptHeader_eq (b : List Byte) (a : Asker) (s : State) : acceptHeader b a s = postFwState 1 (askerLog a)
    (sessMod (countErase 399 (fwMod s (fun f => { f with image := newImage f.image }))) (openSession b a)) := rfl

theorem acceptHeader_keeps (b : List Byte) (a : Asker) (s : State) :
    (acceptHeader b a s).fw.session = openSession b a s.fw.session ∧ (acceptHeader b a s).fw.image = newImage s.fw.image
      ∧ (acceptHeader b a s).host.log = s.host.log ∧ (acceptHeader b a s).pwr = s.pwr := by
  have hp : PowerAt s.pwr (countErase 399 (fwMod s (fun f => { f with image := newImage f.image }))) := .countErase rfl
  obtain ⟨hfw, hlog⟩ := countErase_keeps 399 (fwMod s (fun f => { f with image := newImage f.image }))
  obtain ⟨p1, p2, p3⟩ := postFwState_keeps 1 (askerLog a)
    (sessMod (countErase 399 (fwMod s (fun f => { f with image := newImage f.image }))) (openSession b a))
  rw [acceptHeader_eq, p1, p2, p3]
  generalize countErase 399 (fwMod s (fun f => { f with image := newImage f.image })) = u at hp hfw hlog ⊢
  have hsession : openSession b a u.fw.session = openSession b a s.fw.session :=
    (congrArg (fun f : FwState => openSession b a f.session) hfw :)
  exact ⟨hsession, (congrArg FwState.image hfw :), hlog, hp⟩

/-! ## The header that opens a download (R412) -/

theorem blockRefusal_first {s : State} {k : Nat} {b : List Byte} (hst : s.fw.session.st = 1) :
    blockRefusal s k b = headerCheck s b := if_pos hst

/-- A header that is refused ends the session. -/
theorem fwWriteDataRun_noHeader {o : Issue} {p : List Byte} {log st : Nat} {s : State} (h : completesBlock s p = true)
    (hst : s.fw.session.st = 1) (hr : headerCheck (blockTaken p s) (blockOf p s) = some st) :
    fwWriteDataRun o p log s = placeReply (ctxNum o.ctx) (replyTo 0x0E03 o st log [])
      (postFwState 0 log (sessMod (blockTaken p s) (fun _ => Session.idle))) := by
  have hbad : blockRefused log (blockTaken p s) = postFwState 0 log (sessMod (blockTaken p s) (fun _ => Session.idle)) := if_pos hst
  rw [fwWriteDataRun_refused h ((blockRefusal_first hst).trans hr), if_pos hst, hbad]

theorem fwWriteDataRun_header {o : Issue} {p : List Byte} {log : Nat} {s : State} (h : completesBlock s p = true)
    (hst : s.fw.session.st = 1) (hr : headerCheck (blockTaken p s) (blockOf p s) = none) :
    fwWriteDataRun o p log s = deferred 0x0E03 o log [0, 0, 0, 0]
      (acceptHeader (blockOf p s) (askerOf o 0x0E03 log s) (blockTaken p s)) := by
  have hacc : blockAccepted (u16 p 0) (blockOf p s) (askerOf o 0x0E03 log s) (blockTaken p s)
      = acceptHeader (blockOf p s) (askerOf o 0x0E03 log s) (blockTaken p s) := if_pos hst
  obtain ⟨hs, -⟩ := acceptHeader_keeps (blockOf p s) (askerOf o 0x0E03 log s) (blockTaken p s)
  rw [fwWriteDataRun_accepted h ((blockRefusal_first hst).trans hr), hacc, blocksWritten, hs]
  exact congrArg (deferred 0x0E03 o log · _) (show b2 ([] : List Nat).length ++ zeros 2 = _ by decide)

/-! ## VERIFY, abort and the NVM -/

theorem fwVerifyRun_away {o : Issue} {log : Nat} {s : State} (h : s.pwr.dev ≠ .harbour) :
    fwVerifyRun o log s = placeReply (ctxNum o.ctx) (replyTo 0x0E04 o stQueued log []) (postFwState 0 log
      (sessMod s (fun q => { q with st := 4, verifyFor := .host { ctx := o.ctx, log := log }, firstBad := 0xFFFF }))) := by
  have hrun : startVerify (askerOf o 0x0E04 log s) s = postFwState 0 log
      (sessMod s (fun q => { q with st := 4, verifyFor := .host { ctx := o.ctx, log := log }, firstBad := 0xFFFF })) := by
    rw [askerOf_away h]
    rfl
  unfold fwVerifyRun
  rw [hrun]
  exact deferred_away (by rw [(postFwState_keeps _ _ _).2.2]; exact h)

theorem fwVerifyRun_harbour {o : Issue} {log : Nat} {s : State} (h : s.pwr.dev = .harbour) :
    fwVerifyRun o log s = postFwState 0 log
      (sessMod s (fun q => { q with st := 4, verifyFor := .reply o 0x0E04 log, firstBad := 0xFFFF })) := by
  have hrun : startVerify (askerOf o 0x0E04 log s) s = postFwState 0 log
      (sessMod s (fun q => { q with st := 4, verifyFor := .reply o 0x0E04 log, firstBad := 0xFFFF })) := by
    rw [askerOf_harbour h]
    rfl
  unfold fwVerifyRun
  rw [hrun]
  exact deferred_harbour (by rw [(postFwState_keeps _ _ _).2.2]; exact h)

theorem fwAbort_none {log : Nat} {s : State} (h : s.fw.session.st = 0 ∨ s.fw.session.st = 6) : fwAbort log s = s :=
  if_pos (by simpa using h)

theorem fwAbort_header {log : Nat} {s : State} (h : s.fw.session.st = 1) :
    fwAbort log s = postFwState 8 log (sessMod s (fun _ => Session.idle)) :=
  (if_neg (by simp [h])).trans (if_pos h)

theorem fwAbort_session {log : Nat} {s : State} (h2 : 2 ≤ s.fw.session.st) (h6 : s.fw.session.st ≠ 6) :
    fwAbort log s = postFwState 8 log (fwMod (dropSessionWork s) (fun f => { f with
      image := { f.image with aborted := true }, session := { Session.idle with st := 6 } })) :=
  (if_neg (by simp [h6]; omega)).trans (if_neg (by omega))

theorem dropSessionWork_none {s : State} (hj : s.fw.session.jobs = []) (ha : s.fw.activate = none) : dropSessionWork s = s := by
  unfold dropSessionWork
  rw [hj]
  dsimp only [List.foldl_nil]
  rw [ha]
  exact congrArg (fun f => { s with fw := f }) (show ({ s.fw with activate := none } : FwState) = s.fw by rw [← ha])

theorem fwAbortDo_of {o : Issue} {log : Nat} {s t : State} (h : fwAbort log s = t) : fwAbortDo o log s = ok t := congrArg ok h

theorem fwConfirmDo_probation {o : Issue} {log : Nat} {s : State} (h : s.fw.probation = true) :
    fwConfirmDo o log s = queuedDone (askNvm (.confirm (some { ctx := o.ctx, log := log }) log) s) := if_pos h

theorem fwConfirmDo_none {o : Issue} {log : Nat} {s : State} (h : s.fw.probation = false) : fwConfirmDo o log s = ok s :=
  if_neg (by simp [h])

theorem fwActivateDo_harbour {o : Issue} {log : Nat} {s : State} (h : s.pwr.dev = .harbour) :
    fwActivateDo o log s = ok { s with pwr := { s.pwr with resetDue := true, resetOther := true } } := if_pos h

theorem fwActivateDo_away {o : Issue} {log : Nat} {s : State} (h : s.pwr.dev ≠ .harbour) :
    fwActivateDo o log s = queuedDone (fwMod s (fun f => { f with activate := some (some { ctx := o.ctx, log := log }, log) })) :=
  if_neg h

/-! ## FW_WRITE_DATA as the host sees it -/

theorem exec_fwWriteData {o : Issue} {p : List Byte} {s : State} (h : Accepted 0x0E03 o p (fwWriteDataCheck o p) s) :
    exec (.fwWriteData o p) s = .next (fwWriteDataRun o p s.host.log (takeLog s)) :=
  congrArg Host.Outcome.next (hostTake_accepted h _)

/-- A good block of an open download is answered QUEUED and waits to be written. -/
theorem fwWriteData_good {o : Issue} {p : List Byte} {s : State} (h : Accepted 0x0E03 o p (fwWriteDataCheck o p) s)
    (hc : completesBlock s p = true) (hst : s.fw.session.st = 2) (hd : s.pwr.dev ≠ .harbour)
    (hr : blockRefusal (blockTaken p (takeLog s)) (u16 p 0) (blockOf p (takeLog s)) = none) :
    ∃ t, exec (.fwWriteData o p) s = .next t ∧ t.fw.session.written = s.fw.session.written ∧ t.fw.session.st = 2
      ∧ t.fw.session.jobs = s.fw.session.jobs ++ [{ block := u16 p 0, bytes := blockOf p (takeLog s), asker := .host (waiterOf o s) }]
      ∧ Replied 0x0E03 o s 10 (b2 s.fw.session.written.length ++ [0, 0]) t := by
  have hrun := (fwWriteDataRun_good (s := takeLog s) (o := o) (log := s.host.log) hc hst hr).trans
    (deferred_away (s := blockQueued p (askerOf o 0x0E03 s.host.log (takeLog s)) (takeLog s)) hd)
  rw [askerOf_away (s := takeLog s) hd] at hrun
  refine ⟨_, (exec_fwWriteData h).trans (congrArg Host.Outcome.next hrun), ?_, ?_, ?_, replied_place rfl⟩
  · rw [placeReply_fw]
    rfl
  · rw [placeReply_fw]
    exact hst
  · rw [placeReply_fw]
    rfl

theorem fwWriteData_bad {o : Issue} {p : List Byte} {s : State} (h : Accepted 0x0E03 o p (fwWriteDataCheck o p) s)
    (hc : completesBlock s p = true) (hst : s.fw.session.st = 2)
    (hr : blockRefusal (blockTaken p (takeLog s)) (u16 p 0) (blockOf p (takeLog s)) = some stBadParam) :
    ∃ t, exec (.fwWriteData o p) s = .next t ∧ t.fw.session.written = s.fw.session.written ∧ t.fw.session.st = 2
      ∧ t.fw.session.jobs = s.fw.session.jobs ∧ Replied 0x0E03 o s 5 (b2 s.fw.session.written.length ++ [1, 0]) t := by
  refine ⟨_, (exec_fwWriteData h).trans (congrArg Host.Outcome.next (fwWriteDataRun_bad (s := takeLog s) hc hst hr)), ?_, ?_, ?_,
    replied_place rfl⟩
  · rw [placeReply_fw]
    rfl
  · rw [placeReply_fw]
    exact hst
  · rw [placeReply_fw]
    rfl

theorem fwWriteData_queuedInHarbour {o : Issue} {p : List Byte} {s : State} (h : Accepted 0x0E03 o p (fwWriteDataCheck o p) s)
    (hc : completesBlock s p = true) (hst : s.fw.session.st = 2) (hd : s.pwr.dev = .harbour)
    (hr : blockRefusal (blockTaken p (takeLog s)) (u16 p 0) (blockOf p (takeLog s)) = none) :
    exec (.fwWriteData o p) s = .next (blockQueued p (.reply o 0x0E03 s.host.log) (takeLog s)) := by
  have hrun := (fwWriteDataRun_good (s := takeLog s) (o := o) (log := s.host.log) hc hst hr).trans
    (deferred_harbour (s := blockQueued p (askerOf o 0x0E03 s.host.log (takeLog s)) (takeLog s)) hd)
  rw [askerOf_harbour (s := takeLog s) hd] at hrun
  exact (exec_fwWriteData h).trans (congrArg Host.Outcome.next hrun)

theorem fwWriteData_noHeader {o : Issue} {p : List Byte} {s : State} {st : Nat} (h : Accepted 0x0E03 o p (fwWriteDataCheck o p) s)
    (hc : completesBlock s p = true) (hst : s.fw.session.st = 1)
    (hr : headerCheck (blockTaken p (takeLog s)) (blockOf p (takeLog s)) = some st) :
    ∃ t, exec (.fwWriteData o p) s = .next t ∧ t.fw.session = Session.idle ∧ Replied 0x0E03 o s st [] t := by
  obtain ⟨h1, h2, -⟩ := postFwState_keeps 0 s.host.log (sessMod (blockTaken p (takeLog s)) (fun _ => Session.idle))
  exact ⟨_, (exec_fwWriteData h).trans (congrArg Host.Outcome.next (fwWriteDataRun_noHeader (s := takeLog s) hc hst hr)),
    (congrArg FwState.session ((placeReply_fw _ _ _).trans h1) :), replied_place h2⟩

theorem fwWriteData_header {o : Issue} {p : List Byte} {s : State} (h : Accepted 0x0E03 o p (fwWriteDataCheck o p) s)
    (hc : completesBlock s p = true) (hst : s.fw.session.st = 1) (hd : s.pwr.dev ≠ .harbour)
    (hr : headerCheck (blockTaken p (takeLog s)) (blockOf p (takeLog s)) = none) :
    ∃ t, exec (.fwWriteData o p) s = .next t
      ∧ t.fw.session = openSession (blockOf p (takeLog s)) (.host (waiterOf o s)) (blockTaken p (takeLog s)).fw.session
      ∧ t.fw.image = newImage s.fw.image ∧ Replied 0x0E03 o s 10 [0, 0, 0, 0] t := by
  obtain ⟨h1, h2, h3, h4⟩ := acceptHeader_keeps (blockOf p (takeLog s)) (.host (waiterOf o s)) (blockTaken p (takeLog s))
  have hrun := fwWriteDataRun_header (s := takeLog s) (o := o) (log := s.host.log) hc hst hr
  rw [askerOf_away (s := takeLog s) hd] at hrun
  have haway := deferred_away (op := 0x0E03) (o := o) (log := s.host.log) (r := [0, 0, 0, 0])
    (s := acceptHeader (blockOf p (takeLog s)) (.host (waiterOf o s)) (blockTaken p (takeLog s))) (by rw [h4]; exact hd)
  refine ⟨_, (exec_fwWriteData h).trans (congrArg Host.Outcome.next (hrun.trans haway)), ?_, ?_, replied_place h3⟩
  · rw [placeReply_fw]
    exact h1
  · rw [placeReply_fw]
    exact h2

theorem fwWriteData_headerInHarbour {o : Issue} {p : List Byte} {s : State} (h : Accepted 0x0E03 o p (fwWriteDataCheck o p) s)
    (hc : completesBlock s p = true) (hst : s.fw.session.st = 1) (hd : s.pwr.dev = .harbour)
    (hr : headerCheck (blockTaken p (takeLog s)) (blockOf p (takeLog s)) = none) :
    ∃ t, exec (.fwWriteData o p) s = .next t ∧ t.fw.session
      = openSession (blockOf p (takeLog s)) (.reply o 0x0E03 s.host.log) (blockTaken p (takeLog s)).fw.session := by
  obtain ⟨h1, h2, h3, h4⟩ := acceptHeader_keeps (blockOf p (takeLog s)) (.reply o 0x0E03 s.host.log) (blockTaken p (takeLog s))
  have hrun := fwWriteDataRun_header (s := takeLog s) (o := o) (log := s.host.log) hc hst hr
  rw [askerOf_harbour (s := takeLog s) hd, deferred_harbour (by rw [h4]; exact hd)] at hrun
  exact ⟨_, (exec_fwWriteData h).trans (congrArg Host.Outcome.next hrun), h1⟩

end Sys2Proof.Machine

namespace Sys2Proof

open Sys2Proof.Machine

/-- Settles O59: the reads, FW_WRITE_DATA chunk by chunk, VERIFY, activation and abort, then settings and keys. -/
theorem firmwareCommandsTakeEffect : Obligations.FirmwareCommandsTakeEffect := by
  refine fun o p s => ⟨?status, ?statusFull, ?begins, ?chunk, ?block, ?header, ?blockHarbour, ?verify, ?verifyHarbour, ?activateHarbour,
    ?activate, ?confirm, ?abort, ?settings, ?settingsCopy, ?save, ?discard, ?erase, ?auto, ?keys, ?chartKey⟩
  case status => exact fun h => hostCommand_accepted h (reads fwStatusResult)
  case statusFull =>
    exact fun h hh hg => (hostCommand_accepted h (reads fwStatusResult)).trans
      (congrArg (answerOn 0x0E01 o s 0 · (takeLog s)) (fwStatusResult_complete (s := takeLog s) hh hg))
  case begins => exact fun h => hostCommand_does h rfl
  case chunk =>
    exact fun h hc => congrArg Host.Outcome.next ((hostTake_accepted h _).trans (fwWriteDataRun_chunk (s := takeLog s) hc))
  case block =>
    intro h hc hst hd
    refine ⟨blockOf p (takeLog s), ?_⟩
    by_cases hk : u16 p 0 = 0
    · by_cases hb : blockOf p (takeLog s) = s.fw.session.header
      · obtain ⟨t, h1, h2, h3, h4, h5⟩ := fwWriteData_good h hc hst hd (by rw [hk, blockRefusal_header (s := blockTaken p (takeLog s)) hst]; exact if_pos hb)
        rw [hk] at h4
        exact ⟨t, rfl, h1, h2, h3, fun h => absurd hk h, fun h => absurd hk h, fun _ _ => ⟨h4, h5⟩, fun _ h => absurd hb h⟩
      · obtain ⟨t, h1, h2, h3, h4, h5⟩ := fwWriteData_bad h hc hst (by rw [hk, blockRefusal_header (s := blockTaken p (takeLog s)) hst]; exact if_neg hb)
        exact ⟨t, rfl, h1, h2, h3, fun h => absurd hk h, fun h => absurd hk h, fun _ h => absurd h hb, fun _ _ => ⟨h4, h5⟩⟩
    · by_cases hb : crc32c (blockOf p (takeLog s)) = blockEntry s.fw.session.header (u16 p 0)
      · obtain ⟨t, h1, h2, h3, h4, h5⟩ := fwWriteData_good h hc hst hd ((blockRefusal_later (s := blockTaken p (takeLog s)) hst hk).trans (if_pos hb))
        exact ⟨t, rfl, h1, h2, h3, fun _ _ => ⟨h4, h5⟩, fun _ h => absurd hb h, fun h => absurd h hk, fun h => absurd h hk⟩
      · obtain ⟨t, h1, h2, h3, h4, h5⟩ := fwWriteData_bad h hc hst ((blockRefusal_later (s := blockTaken p (takeLog s)) hst hk).trans (if_neg hb))
        exact ⟨t, rfl, h1, h2, h3, fun _ h => absurd h hb, fun _ _ => ⟨h4, h5⟩, fun h => absurd h hk, fun h => absurd h hk⟩
  case header =>
    intro h hc hst b w hw hb
    subst hw hb
    refine ⟨fun st hr => fwWriteData_noHeader h hc hst hr, fun hr hd => ?_, fun hr hd => ?_⟩
    · obtain ⟨t, h1, h2, h3, h4⟩ := fwWriteData_header h hc hst hd hr
      refine ⟨t, h1, ?_⟩
      rw [h2, h3]
      exact ⟨rfl, rfl, rfl, rfl, rfl, rfl, rfl, rfl, h4⟩
    · obtain ⟨t, h1, h2⟩ := fwWriteData_headerInHarbour h hc hst hd hr
      refine ⟨t, h1, ?_⟩
      rw [h2]
      exact ⟨rfl, rfl, rfl⟩
  case blockHarbour =>
    intro h hc hst hd hk b hb hcrc
    subst hb
    exact ⟨_, fwWriteData_queuedInHarbour h hc hst hd ((blockRefusal_later (s := blockTaken p (takeLog s)) hst hk).trans (if_pos hcrc)), rfl⟩
  case verify =>
    exact fun h hd => congrArg Host.Outcome.next ((hostTake_accepted h _).trans (fwVerifyRun_away (s := takeLog s) hd))
  case verifyHarbour =>
    exact fun h hd => congrArg Host.Outcome.next ((hostTake_accepted h _).trans (fwVerifyRun_harbour (s := takeLog s) hd))
  case activateHarbour => exact fun h hd => hostCommand_does h (fwActivateDo_harbour (s := takeLog s) hd)
  case activate => exact fun h hd => hostCommand_does h (fwActivateDo_away (s := takeLog s) hd)
  case confirm =>
    intro h
    split
    case isTrue hp => exact hostCommand_does h (fwConfirmDo_probation (s := takeLog s) hp)
    case isFalse hp => exact hostCommand_does h (fwConfirmDo_none (s := takeLog s) (Bool.eq_false_iff.mpr hp))
  case abort =>
    intro h
    refine ⟨fun hst => ?_, fun hst => ?_, fun h2 h6 => ?_, fun hst hj ha => ?_⟩
    · exact hostCommand_does h (fwAbortDo_of (fwAbort_none (s := takeLog s) hst))
    · exact hostCommand_does h (fwAbortDo_of (fwAbort_header (s := takeLog s) hst))
    · exact hostCommand_does h (fwAbortDo_of (fwAbort_session (s := takeLog s) h2 h6))
    · have habort := fwAbort_session (log := s.host.log) (s := takeLog s) (show 2 ≤ s.fw.session.st by omega)
        (show s.fw.session.st ≠ 6 by omega)
      rw [dropSessionWork_none (s := takeLog s) hj ha] at habort
      exact hostCommand_does h (fwAbortDo_of habort)
  case settings => exact fun h => hostCommand_accepted h (reads settingsStatusResult)
  case settingsCopy =>
    exact fun h hc => (hostCommand_accepted h (reads settingsStatusResult)).trans
      (congrArg (answerOn 0x0E08 o s 0 · (takeLog s)) (settingsStatusResult_copy (s := takeLog s) hc))
  case save => exact fun h => hostCommand_does h rfl
  case discard => exact fun h => hostCommand_does h rfl
  case erase => exact fun h => hostCommand_does h rfl
  case auto => exact fun h => hostCommand_does h rfl
  case keys =>
    exact fun h => (hostCommand_accepted h (reads keyStatusResult)).trans
      (congrArg (answerOn 0x0E0D o s 0 · (takeLog s)) (keyStatusResult_eq (takeLog s)))
  case chartKey => exact fun h => hostCommand_does h rfl

end Sys2Proof

end

section
/-! PROOF. What answers and the end of a CP absence leave of the firmware's state. -/

namespace Sys2Proof.Machine

theorem PowerAt.ctxMod {v : PowerState} {s : State} {n : Nat} {f : CtxState → CtxState} (inv : PowerAt v s) : PowerAt v (Machine.ctxMod s n f) := inv

theorem PowerAt.aecpMod {v : PowerState} {s : State} {c : BitVec 64} {f : Aecp → Aecp} (inv : PowerAt v s) :
    PowerAt v (Machine.aecpMod c f s) :=
  .netMod inv

theorem PowerAt.aecpSend {v : PowerState} {s : State} {c : BitVec 64} {bytes : List Byte} (inv : PowerAt v s)
    : PowerAt v (Machine.aecpSend c bytes s) :=
  .offerControl (.freeField inv)

theorem PowerAt.aecpRespond {v : PowerState} {s : State} {c : BitVec 64} {seq : BitVec 16} {bytes : List Byte}
    (inv : PowerAt v s) : PowerAt v (Machine.aecpRespond c seq bytes s) :=
  .aecpSend (.aecpMod inv)

theorem PowerAt.vendorReply {v : PowerState} {s : State} {c : BitVec 64} {seq : BitVec 16} {r : Reply}
    (inv : PowerAt v s) : PowerAt v (Machine.vendorReply c seq r s) :=
  .aecpRespond (.aecpMod inv)

theorem PowerAt.vendorFlush {v : PowerState} {s : State} (inv : PowerAt v s) : PowerAt v (Machine.vendorFlush s) := by
  have sent : PowerAt v { s with host := { s.host with vendor := none } } := inv
  unfold Machine.vendorFlush
  split
  · exact .vendorReply sent
  · exact inv

theorem PowerAt.answerFailed {v : PowerState} {s : State} {n : Nat} {h : Held} (inv : PowerAt v s) :
    PowerAt v (Machine.answerFailed n s h) := by
  unfold Machine.answerFailed
  split
  · exact .vendorReply inv
  · exact .replied inv

theorem PowerAt.answerFailures {v : PowerState} {s : State} {n : Nat} (inv : PowerAt v s) :
    PowerAt v (Machine.answerFailures s n) :=
  .ite inv (.foldl (.ctxMod inv ) (fun _ _ h => .answerFailed h))

theorem PowerAt.flushReplies {v : PowerState} {s : State} (inv : PowerAt v s) :
    PowerAt v (Machine.flushReplies s) :=
  .foldl (.vendorFlush inv) (fun _ _ h => .answerFailures h)
/-- The state of the firmware and the settings. -/
def FirmwareAt (v : FwState) (s : State) : Prop := s.fw = v

theorem FirmwareAt.ctxMod {v : FwState} {s : State} {n : Nat} {f : CtxState → CtxState} (inv : FirmwareAt v s) : FirmwareAt v (Machine.ctxMod s n f) := inv

theorem FirmwareAt.replied {v : FwState} {s : State} {n : Nat} {r : Reply} (inv : FirmwareAt v s) :
    FirmwareAt v (Machine.placeReply n r s) := by
  simpa [FirmwareAt] using inv

theorem FirmwareAt.ite {v : FwState} {c : Prop} {dec : Decidable c} {s t : State} (hs : FirmwareAt v s)
    (ht : FirmwareAt v t) : FirmwareAt v (if c then s else t) := by
  split
  · exact hs
  · exact ht

theorem FirmwareAt.foldl {v : FwState} {s : State} {β : Type} {f : State → β → State} {l : List β}
    (inv : FirmwareAt v s) (h : ∀ t x, FirmwareAt v t → FirmwareAt v (f t x)) :
    FirmwareAt v (l.foldl f s) :=
  foldl_inv (fun t : State => FirmwareAt v t) f h l s inv

theorem FirmwareAt.posted {v : FwState} {s : State} {code inst log data : Nat} {cn : Concern}
    (inv : FirmwareAt v s) : FirmwareAt v (Machine.post code inst log data cn s) := by
  simpa [FirmwareAt] using inv

theorem FirmwareAt.completed {v : FwState} {s : State} {x : Waiter} {st : Nat} (inv : FirmwareAt v s) :
    FirmwareAt v (Machine.complete x st s) := by
  simpa [FirmwareAt] using inv

theorem FirmwareAt.usbMod {v : FwState} {s : State} {p : Nat} {f : Usb → Usb} (inv : FirmwareAt v s) :
    FirmwareAt v (Machine.usbMod s p f) :=
  .ite inv inv

theorem FirmwareAt.netMod {v : FwState} {s : State} {f : NetState → NetState} (inv : FirmwareAt v s) :
    FirmwareAt v (Machine.netMod s f) :=
  inv

theorem FirmwareAt.macMod {v : FwState} {s : State} {f : Mac → Mac} (inv : FirmwareAt v s) :
    FirmwareAt v (Machine.macMod s f) :=
  inv

theorem FirmwareAt.postEthFor {v : FwState} {s : State} {log code inst data : Nat} (inv : FirmwareAt v s) :
    FirmwareAt v (Machine.postEthFor log code inst data s) :=
  .posted inv

theorem FirmwareAt.postEth {v : FwState} {s : State} {code inst data : Nat} (inv : FirmwareAt v s) :
    FirmwareAt v (Machine.postEth code inst data s) :=
  .postEthFor inv

theorem FirmwareAt.halfSet {v : FwState} {s : State} {g i : Nat} (inv : FirmwareAt v s) :
    FirmwareAt v (Machine.halfSet g i s) :=
  .ite (.macMod (.macMod inv)) (.postEth (.macMod (.macMod inv)))

theorem FirmwareAt.macAdd {v : FwState} {s : State} {g i n : Nat} (inv : FirmwareAt v s) :
    FirmwareAt v (Machine.macAdd g i n s) :=
  .ite (.halfSet (.macMod inv)) (.macMod inv)

theorem FirmwareAt.macCount {v : FwState} {s : State} {g i : Nat} (inv : FirmwareAt v s) :
    FirmwareAt v (Machine.macCount g i s) :=
  .macAdd inv

theorem FirmwareAt.offerControl {v : FwState} {s : State} {kind : Nat} {dest : List Byte} {type : Nat}
    {body : List Byte} (inv : FirmwareAt v s) : FirmwareAt v
    (Machine.offerControl kind dest type body s) :=
  .ite inv (.ite (.macCount inv) (.ite (.macCount inv) (.macMod inv)))

theorem FirmwareAt.freeField {v : FwState} {s : State} {n : Nat} (inv : FirmwareAt v s) :
    FirmwareAt v (Machine.freeField n s).2 :=
  inv

theorem FirmwareAt.aecpMod {v : FwState} {s : State} {c : BitVec 64} {f : Aecp → Aecp} (inv : FirmwareAt v s)
    : FirmwareAt v (Machine.aecpMod c f s) :=
  .netMod inv

theorem FirmwareAt.aecpSend {v : FwState} {s : State} {c : BitVec 64} {bytes : List Byte}
    (inv : FirmwareAt v s) : FirmwareAt v (Machine.aecpSend c bytes s) :=
  .offerControl (.freeField inv)

theorem FirmwareAt.aecpRespond {v : FwState} {s : State} {c : BitVec 64} {seq : BitVec 16} {bytes : List Byte}
    (inv : FirmwareAt v s) : FirmwareAt v (Machine.aecpRespond c seq bytes s) :=
  .aecpSend (.aecpMod inv)

theorem FirmwareAt.vendorReply {v : FwState} {s : State} {c : BitVec 64} {seq : BitVec 16} {r : Reply}
    (inv : FirmwareAt v s) : FirmwareAt v (Machine.vendorReply c seq r s) :=
  .aecpRespond (.aecpMod inv)

theorem FirmwareAt.vendorFlush {v : FwState} {s : State} (inv : FirmwareAt v s) : FirmwareAt v (Machine.vendorFlush s) := by
  have sent : FirmwareAt v { s with host := { s.host with vendor := none } } := inv
  unfold Machine.vendorFlush
  split
  · exact .vendorReply sent
  · exact inv

theorem FirmwareAt.answerFailed {v : FwState} {s : State} {n : Nat} {h : Held} (inv : FirmwareAt v s) :
    FirmwareAt v (Machine.answerFailed n s h) := by
  unfold Machine.answerFailed
  split
  · exact .vendorReply inv
  · exact .replied inv

theorem FirmwareAt.answerFailures {v : FwState} {s : State} {n : Nat} (inv : FirmwareAt v s) :
    FirmwareAt v (Machine.answerFailures s n) :=
  .ite inv (.foldl (.ctxMod inv ) (fun _ _ h => .answerFailed h))

theorem FirmwareAt.flushReplies {v : FwState} {s : State} (inv : FirmwareAt v s) :
    FirmwareAt v (Machine.flushReplies s) :=
  .foldl (.vendorFlush inv) (fun _ _ h => .answerFailures h)

theorem FirmwareAt.dfuDone {v : FwState} {s : State} {p : Nat} {verify : Bool} {status : Nat}
    (inv : FirmwareAt v s) : FirmwareAt v (Machine.dfuDone p verify status s) :=
  .usbMod inv

theorem FirmwareAt.finishAsk {v : FwState} {s : State} {a : Asker} {verify : Bool} {status : Nat} {data : List Byte}
    (inv : FirmwareAt v s) : FirmwareAt v (Machine.finishAsk a verify status data s) := by
  unfold Machine.finishAsk
  split
  · exact inv
  · exact .completed inv
  · exact .replied inv
  · exact .dfuDone inv
/-- The image that runs, in PROBATION or not, and the gangway block. -/
def ImageRuns (v : Bool × ImageInfo × Option Gangway) (s : State) : Prop := (s.fw.probation, s.fw.running, s.fw.gangway) = v

theorem ImageRuns.ctxMod {v : Bool × ImageInfo × Option Gangway} {s : State} {n : Nat} {f : CtxState → CtxState} (inv : ImageRuns v s) : ImageRuns v (Machine.ctxMod s n f) := inv

theorem ImageRuns.refreshPins {v : Bool × ImageInfo × Option Gangway} {s : State} (inv : ImageRuns v s) : ImageRuns v (Machine.refreshPins s) := inv

theorem ImageRuns.delivered {v : Bool × ImageInfo × Option Gangway} {s : State} {sel : List Nat} {code inst stamp log data : Nat} {cn : Concern} (inv : ImageRuns v s) :
    ImageRuns v (Machine.deliver sel code inst stamp log data cn s) := by
  rw [rest_eq (deliver_rest sel code inst stamp log data cn s)]
  exact inv

theorem ImageRuns.replied {v : Bool × ImageInfo × Option Gangway} {s : State} {n : Nat} {r : Reply} (inv : ImageRuns v s) :
    ImageRuns v (Machine.placeReply n r s) := by
  simpa [ImageRuns] using inv

theorem ImageRuns.ite {v : Bool × ImageInfo × Option Gangway} {c : Prop} {dec : Decidable c} {s t : State} (hs : ImageRuns v s)
    (ht : ImageRuns v t) : ImageRuns v (if c then s else t) := by
  split
  · exact hs
  · exact ht

theorem ImageRuns.foldl {v : Bool × ImageInfo × Option Gangway} {s : State} {β : Type} {f : State → β → State} {l : List β}
    (inv : ImageRuns v s) (h : ∀ t x, ImageRuns v t → ImageRuns v (f t x)) :
    ImageRuns v (l.foldl f s) :=
  foldl_inv (fun t : State => ImageRuns v t) f h l s inv

theorem ImageRuns.posted {v : Bool × ImageInfo × Option Gangway} {s : State} {code inst log data : Nat} {cn : Concern}
    (inv : ImageRuns v s) : ImageRuns v (Machine.post code inst log data cn s) := by
  simpa [ImageRuns] using inv

theorem ImageRuns.completed {v : Bool × ImageInfo × Option Gangway} {s : State} {x : Waiter} {st : Nat} (inv : ImageRuns v s) :
    ImageRuns v (Machine.complete x st s) := by
  simpa [ImageRuns] using inv

theorem ImageRuns.mooringChanged {v : Bool × ImageInfo × Option Gangway} {s : State} {log id new : Nat} (inv : ImageRuns v s) :
    ImageRuns v (Machine.changeOwner log id new s) := by
  rw [rest_eq (changeOwner_rest log id new s)]
  exact inv

theorem ImageRuns.nvmStart {v : Bool × ImageInfo × Option Gangway} {s : State} (inv : ImageRuns v s) :
    ImageRuns v (Machine.nvmStart s) := by
  unfold Machine.nvmStart
  split
  · exact inv
  · exact .ite inv (.ite inv inv)

theorem ImageRuns.placeMoorings {v : Bool × ImageInfo × Option Gangway} {s : State} {c : Chart} {log : Nat}
    (inv : ImageRuns v s) : ImageRuns v (Machine.placeMoorings c log s) :=
  .foldl inv (fun _ _ h => .mooringChanged h)

theorem ImageRuns.failPacket {v : Bool × ImageInfo × Option Gangway} {s : State} {n st : Nat} {h : Held}
    (inv : ImageRuns v s) : ImageRuns v (Machine.failPacket n st h s) :=
  .ite (.replied inv) (.ctxMod inv )

theorem ImageRuns.takePacket {v : Bool × ImageInfo × Option Gangway} {s : State}
    {source : Option (BitVec 64 × BitVec 16)} {n : Nat} {b : List Byte} {delivered : Nat}
    (inv : ImageRuns v s) : ImageRuns v (Machine.takePacket source n b delivered s) := by
  unfold Machine.takePacket
  split
  · exact .failPacket inv
  · exact .ite (.failPacket inv) (.ite (.failPacket inv) (.ite (.failPacket inv)
      (.ite (.failPacket inv) (.ite (.failPacket inv) (.ite (.failPacket inv) (.ctxMod inv ))))))

theorem ImageRuns.dropQueued {v : Bool × ImageInfo × Option Gangway} {s : State} {r : Option QueuedSel}
    (inv : ImageRuns v s) : ImageRuns v (Machine.dropQueued r s) := by
  unfold Machine.dropQueued
  split
  · exact .completed inv
  · exact inv

theorem ImageRuns.netMod {v : Bool × ImageInfo × Option Gangway} {s : State} {f : NetState → NetState}
    (inv : ImageRuns v s) : ImageRuns v (Machine.netMod s f) :=
  inv

theorem ImageRuns.macMod {v : Bool × ImageInfo × Option Gangway} {s : State} {f : Mac → Mac}
    (inv : ImageRuns v s) : ImageRuns v (Machine.macMod s f) :=
  inv

theorem ImageRuns.postEthFor {v : Bool × ImageInfo × Option Gangway} {s : State} {log code inst data : Nat}
    (inv : ImageRuns v s) : ImageRuns v (Machine.postEthFor log code inst data s) :=
  .posted inv

theorem ImageRuns.postEth {v : Bool × ImageInfo × Option Gangway} {s : State} {code inst data : Nat}
    (inv : ImageRuns v s) : ImageRuns v (Machine.postEth code inst data s) :=
  .postEthFor inv

theorem ImageRuns.halfSet {v : Bool × ImageInfo × Option Gangway} {s : State} {g i : Nat}
    (inv : ImageRuns v s) : ImageRuns v (Machine.halfSet g i s) :=
  .ite (.macMod (.macMod inv)) (.postEth (.macMod (.macMod inv)))

theorem ImageRuns.macAdd {v : Bool × ImageInfo × Option Gangway} {s : State} {g i n : Nat}
    (inv : ImageRuns v s) : ImageRuns v (Machine.macAdd g i n s) :=
  .ite (.halfSet (.macMod inv)) (.macMod inv)

theorem ImageRuns.macCount {v : Bool × ImageInfo × Option Gangway} {s : State} {g i : Nat}
    (inv : ImageRuns v s) : ImageRuns v (Machine.macCount g i s) :=
  .macAdd inv

theorem ImageRuns.offerControl {v : Bool × ImageInfo × Option Gangway} {s : State} {kind : Nat} {dest : List Byte}
    {type : Nat} {body : List Byte} (inv : ImageRuns v s) : ImageRuns v
    (Machine.offerControl kind dest type body s) :=
  .ite inv (.ite (.macCount inv) (.ite (.macCount inv) (.macMod inv)))

theorem ImageRuns.freeField {v : Bool × ImageInfo × Option Gangway} {s : State} {n : Nat}
    (inv : ImageRuns v s) : ImageRuns v (Machine.freeField n s).2 :=
  inv

theorem ImageRuns.aecpMod {v : Bool × ImageInfo × Option Gangway} {s : State} {c : BitVec 64} {f : Aecp → Aecp}
    (inv : ImageRuns v s) : ImageRuns v (Machine.aecpMod c f s) :=
  .netMod inv

theorem ImageRuns.aecpSend {v : Bool × ImageInfo × Option Gangway} {s : State} {c : BitVec 64} {bytes : List Byte}
    (inv : ImageRuns v s) : ImageRuns v (Machine.aecpSend c bytes s) :=
  .offerControl (.freeField inv)

theorem ImageRuns.aecpRespond {v : Bool × ImageInfo × Option Gangway} {s : State} {c : BitVec 64} {seq : BitVec 16}
    {bytes : List Byte} (inv : ImageRuns v s) : ImageRuns v (Machine.aecpRespond c seq bytes s) :=
  .aecpSend (.aecpMod inv)

theorem ImageRuns.vendorReply {v : Bool × ImageInfo × Option Gangway} {s : State} {c : BitVec 64} {seq : BitVec 16}
    {r : Reply} (inv : ImageRuns v s) : ImageRuns v (Machine.vendorReply c seq r s) :=
  .aecpRespond (.aecpMod inv)

theorem ImageRuns.vendorPacket {v : Bool × ImageInfo × Option Gangway} {s : State} {c : BitVec 64} {seq : BitVec 16}
    {bytes : List Byte} (inv : ImageRuns v s) : ImageRuns v (Machine.vendorPacket c seq bytes s) := by
  unfold Machine.vendorPacket
  refine .ite ?_ (.takePacket inv)
  split
  · exact .vendorReply (.takePacket inv)
  · exact .takePacket inv

theorem ImageRuns.loadOptions {v : Bool × ImageInfo × Option Gangway} {s : State} (inv : ImageRuns v s) :
    ImageRuns v (Machine.loadOptions s) :=
  inv

theorem ImageRuns.postFwState {v : Bool × ImageInfo × Option Gangway} {s : State} {cause log : Nat}
    (inv : ImageRuns v s) : ImageRuns v (Machine.postFwState cause log s) :=
  .posted inv

theorem ImageRuns.twSet {v : Bool × ImageInfo × Option Gangway} {s : State} {p : Fin 2} {t : TwPort}
    (inv : ImageRuns v s) : ImageRuns v (Machine.twSet s p t) :=
  .ite inv inv

theorem ImageRuns.twMod {v : Bool × ImageInfo × Option Gangway} {s : State} {p : Fin 2} {f : TwPort → TwPort}
    (inv : ImageRuns v s) : ImageRuns v (Machine.twMod s p f) :=
  .twSet inv

theorem ImageRuns.clearBusy {v : Bool × ImageInfo × Option Gangway} {s : State} (inv : ImageRuns v s) :
    ImageRuns v (Machine.clearBusy s) :=
  .twMod (.twMod inv)

theorem ImageRuns.tellActivate {v : Bool × ImageInfo × Option Gangway} {s : State} {w : Option Waiter}
    {status : Nat} (inv : ImageRuns v s) : ImageRuns v (Machine.tellActivate w status s) := by
  unfold Machine.tellActivate
  split
  · exact .completed inv
  · exact inv

theorem ImageRuns.dropBody {v : Bool × ImageInfo × Option Gangway} {s : State} (inv : ImageRuns v s) : ImageRuns v (Machine.dropBody s) := by
  unfold Machine.dropBody
  extract_lets host s1 s2 s3 par
  have hs2 : ImageRuns v s2 := .foldl (s := s1) inv fun _ _ h => .dropQueued h
  have hs3 : ImageRuns v s3 := .foldl hs2 fun _ _ h => .dropQueued h
  exact hs3

theorem ImageRuns.preambleOnly {v : Bool × ImageInfo × Option Gangway} {s : State} (inv : ImageRuns v s) :
    ImageRuns v (Machine.preambleOnly s) := by
  unfold Machine.preambleOnly
  dsimp only
  split
  · exact .placeMoorings (.dropBody (.loadOptions inv))
  · exact .dropBody (.loadOptions inv)

theorem ImageRuns.addLost {v : Bool × ImageInfo × Option Gangway} {s : State} {k n : Nat} (inv : ImageRuns v s) : ImageRuns v (Machine.addLost k s n) :=
  .ite inv inv.ctxMod

theorem ImageRuns.deliverRaised {v : Bool × ImageInfo × Option Gangway} {s : State} (inv : ImageRuns v s) : ImageRuns v (Machine.deliverRaised s) := by
  unfold Machine.deliverRaised
  extract_lets rs k host s1 s2
  have hs2 : ImageRuns v s2 := .foldl (s := s1) inv fun _ _ h => .delivered h
  exact .refreshPins (.foldl hs2 fun _ _ h => .addLost h)

theorem ImageRuns.takeLate {v : Bool × ImageInfo × Option Gangway} {s : State}
    {e : Option (BitVec 64 × BitVec 16) × List Byte} (inv : ImageRuns v s) : ImageRuns v
    (Machine.takeLate s e) := by
  unfold Machine.takeLate
  split
  · exact .vendorPacket inv
  · exact .takePacket inv

theorem ImageRuns.deliverLate {v : Bool × ImageInfo × Option Gangway} {s : State} (inv : ImageRuns v s) : ImageRuns v (Machine.deliverLate s) := by
  have emptied : ImageRuns v { s with host := { s.host with late := [] } } := inv
  exact .foldl emptied (fun _ _ h => .takeLate h)

theorem ImageRuns.postGangway {v : Bool × ImageInfo × Option Gangway} {s : State} {whole : Bool} {format log : Nat}
    (inv : ImageRuns v s) : ImageRuns v (Machine.postGangway whole format log s) :=
  .posted inv

end Sys2Proof.Machine
end

section
/-! PROOF. NVM writes, downloads and VERIFY, activation, the CP absence and PROBATION (chapter 18). -/

namespace Sys2Proof.Machine

/-! ## Steps of NVM writes -/

/-- The step at the head ends well, and another of its job is to come. -/
theorem nvmStepDone_more {j : NvmJob} {st next : NvmStep} {r : List NvmJob} {rest : List NvmStep} {s : State}
    (hj : s.fw.jobs = j :: r) (hs : s.fw.steps = st :: next :: rest) :
    nvmStepDone true s = nvmStart (fwMod (stepEffect j st true s) (fun f => { f with steps := next :: rest, begun := false })) := by
  unfold nvmStepDone
  rw [hj, hs]
  rfl

/-- The last step ends, and with it the job. -/
theorem nvmStepDone_last {j : NvmJob} {st : NvmStep} {r : List NvmJob} {s : State} (ok : Bool)
    (hj : s.fw.jobs = j :: r) (hs : s.fw.steps = [st]) :
    nvmStepDone ok s = nvmStart ((if ok then jobDone j else jobFailed j)
      (fwMod (stepEffect j st ok s) (fun f => { f with jobs := r, steps := [], begun := false }))) := by
  unfold nvmStepDone
  rw [hj, hs]
  cases ok <;> rfl

theorem nvmStepDone_failed {j : NvmJob} {st : NvmStep} {r : List NvmJob} {rest : List NvmStep} {s : State}
    (hj : s.fw.jobs = j :: r) (hs : s.fw.steps = st :: rest) :
    nvmStepDone false s = nvmStart (jobFailed j
      (fwMod (stepEffect j st false s) (fun f => { f with jobs := r, steps := [], begun := false }))) := by
  unfold nvmStepDone
  rw [hj, hs]
  rfl

theorem stepEffect_erase (j : NvmJob) (k : Nat) (ok : Bool) (s : State) : stepEffect j (.erase k) ok s = eraseEffect k s := by
  cases j <;> rfl

theorem stepEffect_row (j : NvmJob) (ok : Bool) (s : State) : stepEffect j .row ok s = s := by
  cases j <;> rfl

theorem copyItems_eq (s : State) : copyItems s = (settingsCopy s s.fw.setCopy).items := by
  unfold copyItems settingsCopy
  split <;> rfl

/-- A confirmation writes the settings copy in force once more, in the new format (R423, R427). -/
theorem stepEffect_confirm (w : Option Waiter) (log : Nat) (s : State) :
    stepEffect (.confirm w log) .save true s = copyWritten (settingsCopy s s.fw.setCopy).items s :=
  congrArg (copyWritten · s) (copyItems_eq s)

theorem underWay_head {f : NvmStep → Bool} {st : NvmStep} {rest : List NvmStep} {s : State} (hb : s.fw.begun = true)
    (hs : s.fw.steps = st :: rest) (hf : f st = true) : underWay s f = true := by
  simp [underWay, hb, hs, hf]

theorem exec_sectorErase {k : Nat} {rest : List NvmStep} {s : State} (ok : Bool) (hb : s.fw.begun = true)
    (hs : s.fw.steps = .erase k :: rest) : exec (.nvmSectorErase ok) s = .next (flushReplies (nvmStepDone ok s)) :=
  show execNvmSectorErase ok s = _ from whenever_true (underWay_head hb hs rfl)

theorem exec_rowWriteDone {rest : List NvmStep} {s : State} (ok : Bool) (hb : s.fw.begun = true)
    (hs : s.fw.steps = .row :: rest) : exec (.nvmRowWriteDone ok) s = .next (flushReplies (nvmStepDone ok s)) :=
  show execNvmRowWriteDone ok s = _ from whenever_true (underWay_head hb hs rfl)

theorem exec_settingsSaveDone {rest : List NvmStep} {s : State} (ok : Bool) (hb : s.fw.begun = true)
    (hs : s.fw.steps = .save :: rest) : exec (.settingsSaveDone ok) s = .next (flushReplies (nvmStepDone ok s)) :=
  show execSettingsSaveDone ok s = _ from whenever_true (underWay_head hb hs rfl)

/-! ## Jobs that end -/

theorem advanceCounter_revoked (f : FwState) : (advanceCounter f).revoked = f.revoked ||| f.running.revoke % 16
    ∧ (f.counter < f.running.security → 0 < f.counterLeft →
      (advanceCounter f).counter = f.running.security ∧ (advanceCounter f).counterLeft = f.counterLeft - 1) := by
  unfold advanceCounter
  dsimp only
  split
  case isTrue => exact ⟨rfl, fun _ _ => ⟨rfl, rfl⟩⟩
  case isFalse h => exact ⟨rfl, fun h1 h2 => absurd ⟨h1, h2⟩ h⟩

theorem FirmwareAt.told {v : FwState} {s : State} {w : Option Waiter} (inv : FirmwareAt v s) :
    FirmwareAt v (match w with | some x => complete x stOk s | none => s) := by
  cases w with
  | none => exact inv
  | some x => exact .completed inv

/-- The image as a confirmation leaves it (R423). -/
def confirmedFw (f : FwState) : FwState :=
  advanceCounter { f with probation := false, healthy := 0, image := { f.image with confirmed := true } }

theorem confirmDone_fw {w : Option Waiter} {log : Nat} {s : State} (h : s.fw.probation = true) :
    FirmwareAt (confirmedFw s.fw) (confirmDone w log s) := by
  unfold confirmDone
  extract_lets told s1
  rw [if_neg (by simp [h])]
  have hs1 : FirmwareAt (confirmedFw s.fw) s1 := rfl
  exact .posted hs1.told

theorem storedHull_summary (h : Option Nat) (s : State) :
    (storedHull (summaryWritten h s).hull).hours = s.hull.hours ∧ (storedHull (summaryWritten h s).hull).stress = s.hull.stress
      ∧ (storedHull (summaryWritten h s).hull).horizon = h.getD s.hull.horizon
      ∧ (storedHull (summaryWritten h s).hull).seq = (storedHull s.hull).seq + 1 := by
  unfold summaryWritten summaryTarget storedHull
  dsimp only
  cases hA : s.hull.sumA with
  | none => cases hB : s.hull.sumB <;> simp
  | some a =>
    cases hB : s.hull.sumB with
    | none => simp
    | some b => by_cases hab : a.seq < b.seq <;> simp [hab]

theorem jobDone_summary (a : Asker) (h : Option Nat) (s : State) :
    (jobDone (.hullSummary a h) s).hull = (summaryWritten h s).hull := by
  change (finishAsk a false stOk [] (summaryWritten h s)).hull = _
  unfold finishAsk
  split
  · rfl
  · simp
  · simp
  · exact HullAt.usbMod rfl

theorem slotInvalid_state {n : Nat} {s : State} (h : (chartSlot s n).state = 0x3C) :
    (chartSlot (jobDone (.slotInvalid n) s) n).state = 0 := by
  change (chartSlot (setChartSlot s n _) n).state = 0
  unfold chartSlot setChartSlot at *
  by_cases hn : n = 0
  · simp only [hn, if_true] at h ⊢
    rw [if_pos h]
  · simp only [hn, if_false] at h ⊢
    rw [if_pos h]

theorem recordWritten_hourly {r : HullRecord} {s : State} (h : r.kind = 1) :
    (recordWritten r s).hull.hourly = (r :: s.hull.hourly).take 1024 := by
  simp [recordWritten, h, ringOf, ringSize]

theorem recordWritten_daily {r : HullRecord} {s : State} (h : r.kind = 2) :
    (recordWritten r s).hull.daily = (r :: s.hull.daily).take 2048
      ∧ (r.whole = true → (recordWritten r s).hull.predictDue = true) := by
  refine ⟨by simp [recordWritten, h, ringOf, ringSize], fun hw => by simp [recordWritten, h, hw]⟩

theorem recordWritten_weekly {r : HullRecord} {s : State} (h : r.kind = 3) :
    (recordWritten r s).hull.weekly = (r :: s.hull.weekly).take 512 := by
  simp [recordWritten, h, ringOf, ringSize]

/-! ## Blocks and VERIFY -/

/-- The state once the oldest block has been written or has failed, before its asker is told. -/
def blockStored (bad : Bool) (j : FwJob) (r : List FwJob) (f : FwState) : FwState :=
  { f with
    session := { f.session with
      jobs := r, written := if bad then without j.block f.session.written else withElem j.block f.session.written }
    image := if bad then f.image else { f.image with blocks := tset [] f.image.blocks j.block j.bytes } }

theorem blockWriteDone_stored {bad : Bool} {j : FwJob} {r : List FwJob} {s : State} (h : s.fw.session.jobs = j :: r) :
    ∃ log u, FirmwareAt (blockStored bad j r s.fw) u ∧ blockWriteDone bad s = downloadDone log u := by
  unfold blockWriteDone
  rw [h]
  dsimp only
  refine ⟨_, _, .finishAsk ?_, rfl⟩
  obtain ⟨hfw, -⟩ := countErase_keeps (16 + j.block) (sessMod s (fun q => { q with
      jobs := r, written := if bad then without j.block q.written else withElem j.block q.written }))
  generalize countErase (16 + j.block) (sessMod s (fun q => { q with
      jobs := r, written := if bad then without j.block q.written else withElem j.block q.written })) = u at hfw ⊢
  cases bad with
  | true => exact hfw
  | false => exact congrArg (fun f : FwState => { f with image := { f.image with blocks := tset [] f.image.blocks j.block j.bytes } }) hfw

/-- The end of a download sets DL_DONE and nothing else of the image or the session but its state. -/
theorem downloadDone_kept (log : Nat) (s : State) : (downloadDone log s).fw.session.jobs = s.fw.session.jobs
    ∧ (downloadDone log s).fw.session.written = s.fw.session.written ∧ (downloadDone log s).fw.image.blocks = s.fw.image.blocks := by
  unfold downloadDone
  dsimp only
  split
  · rw [(postFwState_keeps _ _ _).1]
    exact ⟨rfl, rfl, rfl⟩
  · exact ⟨rfl, rfl, rfl⟩

theorem downloadDone_ends {log : Nat} {s : State} (hst : s.fw.session.st = 2)
    (hall : ∀ k < blockCount s.fw.session.header, k ∈ s.fw.session.written) : (downloadDone log s).fw.session.st = 3
    ∧ (downloadDone log s).fw.image.dlDone = true ∧ (downloadDone log s).pwr.watchdog = 0 := by
  unfold downloadDone
  dsimp only
  rw [if_pos ⟨hst, by simpa using hall⟩, (postFwState_keeps _ _ _).1, (postFwState_keeps _ _ _).2.2]
  exact ⟨rfl, rfl, rfl⟩

theorem mem_withElem {x y : Nat} {l : List Nat} (h : x = y ∨ x ∈ l) : x ∈ withElem y l := by
  unfold withElem
  split
  case isTrue hy => exact h.elim (fun e => e ▸ hy) id
  case isFalse => exact List.mem_append.mpr (h.symm.imp id fun e => List.mem_singleton.mpr e)

theorem exec_blockWriteDone {j : FwJob} {r : List FwJob} {a b : Bool} {s : State} (h : s.fw.session.jobs = j :: r)
    (hn : nvmHeld s = false) : exec (.fwBlockWriteDone a b) s = .next (flushReplies (blockWriteDone (a && b) s)) :=
  show execFwBlockWriteDone a b s = _ from whenever_true (by simp [h, hn])

theorem exec_verifyDone {bad : List Nat} {s : State} (h : s.fw.session.st = 4) (hn : nvmHeld s = false) :
    exec (.fwVerifyDone bad) s = .next (flushReplies (verifyDone bad s)) :=
  show execFwVerifyDone bad s = _ from whenever_true (by simp [h, hn])

theorem verifyDone_good {bad : List Nat} {s : State} (h : failingBlocks s bad = []) : FirmwareAt { s.fw with
      image := { s.fw.image with verified := true }, session := { s.fw.session with st := 5, verifyFor := .own } } (verifyDone bad s) := by
  unfold verifyDone
  rw [h]
  exact .posted (.finishAsk rfl)

theorem verifyDone_bad {bad : List Nat} {k : Nat} {r : List Nat} {s : State} (h : failingBlocks s bad = k :: r) :
    FirmwareAt { s.fw with session := { s.fw.session with
      st := 2, verifyFor := .own, firstBad := k, written := s.fw.session.written.filter (fun x => !decide (x ∈ k :: r)) } }
      (verifyDone bad s) := by
  unfold verifyDone
  rw [h]
  exact .posted (.finishAsk rfl)

/-! ## Activation and PROBATION -/

theorem exec_activate {w : Option Waiter} {log : Nat} {e : Bool} {s : State} (h : s.fw.activate = some (w, log))
    (hst : s.fw.session.st = 5) (hcp : cpRuns s = true) : exec (.fwActivateProceed e) s = .next
      (if activationClear s then beginAbsence s else if e then activateTimeout w log s else s) := by
  change execFwActivateProceed e s = _
  unfold execFwActivateProceed
  rw [h]
  simp only [hcp, hst]
  rfl

theorem exec_gangwayTake {g : Gangway} {w : Option Waiter} {log : Nat} {a b : Bool} {s : State} (hg : s.fw.gangway = some g)
    (hw : s.fw.activate = some (w, log)) (habs : s.host.absent = true) :
    exec (.gangwayTake a b) s = .next (if a && b then endAbsence g w log s else resetOpen s) := by
  change execGangwayTake a b s = _
  unfold execGangwayTake
  rw [hg, hw]
  simp only [habs]
  rfl

theorem endAbsence_runs (g : Gangway) (w : Option Waiter) (log : Nat) (s : State) :
    ImageRuns (true, imageInfo (storedHeader s), none) (endAbsence g w log s) := by
  unfold endAbsence
  extract_lets info whole s1 host s2 s3
  have h1 : ImageRuns (true, imageInfo (storedHeader s), none) s1 := rfl
  have h2 : ImageRuns (true, imageInfo (storedHeader s), none) s2 := .clearBusy (s := { s1 with host := { s1.host with absent := false } }) h1
  have h3 : ImageRuns (true, imageInfo (storedHeader s), none) s3 := .deliverLate (.deliverRaised (.ite h2 (.preambleOnly h2)))
  exact .nvmStart (.postGangway (.postFwState (.tellActivate h3)))

theorem exec_probation {s : State} (hp : s.fw.probation = true) (hcp : cpRuns s = true)
    (hd : s.pwr.dev = .active ∨ s.pwr.dev = .doze) (hs : s.pwr.shelter = false) :
    exec .probationHealthy s = .next (if s.fw.autoConfirm && !s.fw.suppressed && !confirming s then
      askNvm (.confirm none s.host.log) (takeLog (fwMod s (fun f => { f with healthy := max f.healthy 60000 })))
      else fwMod s (fun f => { f with healthy := max f.healthy 60000 })) :=
  show execProbationHealthy s = _ from whenever_true (by rcases hd with h | h <;> simp [hp, hcp, h, hs])

end Sys2Proof.Machine

namespace Sys2Proof

open Sys2Proof.Machine

/-- Settles O60: the steps and ends of NVM jobs, blocks and VERIFY, activation and the absence, reloads and PROBATION. -/
theorem nvmAndActivationStepsTakeEffect : Obligations.NvmAndActivationStepsTakeEffect := by
  refine fun s => ⟨?erases, ?lastErase, ?eraseFails, ?rows, ?lastRow, ?saves, ?savesMore, ?settingsJobs, ?chartJobs, ?confirms, ?summary,
    ?own, ?slot, ?hourly, ?daily, ?weekly, ?downloaded, ?block, ?verify, ?activates, ?waits, ?gangway, ?reload, ?noReload, ?confirmsItself,
    ?healthy⟩
  case erases =>
    intro k st rest j r hb hs hj
    rw [exec_sectorErase true hb hs, nvmStepDone_more hj hs, stepEffect_erase]
  case lastErase =>
    intro k j r hb hs hj ok
    rw [exec_sectorErase ok hb hs, nvmStepDone_last ok hj hs, stepEffect_erase]
  case eraseFails =>
    intro k rest j r hb hs hj
    rw [exec_sectorErase false hb hs, nvmStepDone_failed hj hs, stepEffect_erase]
  case rows =>
    intro st rest j r hb hs hj
    rw [exec_rowWriteDone true hb hs, nvmStepDone_more hj hs, stepEffect_row]
  case lastRow =>
    intro j r hb hs hj ok
    rw [exec_rowWriteDone ok hb hs, nvmStepDone_last ok hj hs, stepEffect_row]
  case saves =>
    intro w items r hb hs hj
    constructor
    · rw [exec_settingsSaveDone true hb hs, nvmStepDone_last true hj hs]
      rfl
    · rw [exec_settingsSaveDone false hb hs, nvmStepDone_last false hj hs]
      rfl
  case savesMore =>
    intro w log st rest r hb hs hj
    rw [exec_settingsSaveDone true hb hs, nvmStepDone_more hj hs, stepEffect_confirm]
  case settingsJobs => exact fun w x y => ⟨rfl, rfl, rfl, rfl⟩
  case chartJobs => exact fun w slot len st => ⟨rfl, rfl, rfl, rfl⟩
  case confirms =>
    intro w log hp
    have hf : (jobDone (.confirm w log) s).fw = confirmedFw s.fw := confirmDone_fw hp
    obtain ⟨h1, -, h3⟩ := advanceCounter_kept
      { s.fw with probation := false, healthy := 0, image := { s.fw.image with confirmed := true } }
    obtain ⟨h4, h5⟩ := advanceCounter_revoked
      { s.fw with probation := false, healthy := 0, image := { s.fw.image with confirmed := true } }
    refine ⟨_, rfl, ?_⟩
    rw [hf]
    exact ⟨h3, congrArg Image.confirmed h1, h4, h5⟩
  case summary =>
    intro a h
    rw [jobDone_summary]
    exact storedHull_summary h s
  case own => exact ⟨rfl, rfl⟩
  case slot => exact fun n h => slotInvalid_state h
  case hourly => exact fun r h => recordWritten_hourly h
  case daily => exact fun r h => recordWritten_daily h
  case weekly => exact fun r h => recordWritten_weekly h
  case downloaded =>
    intro j r hj hn hst hall
    obtain ⟨log, u, hu, hrun⟩ := blockWriteDone_stored (bad := false) hj
    have hd := downloadDone_ends (log := log) (s := u) ((congrArg (fun f : FwState => f.session.st) hu).trans hst) (by
      rw [show u.fw = _ from hu]
      exact fun k hk => mem_withElem (hall k hk))
    rw [← hrun] at hd
    obtain ⟨h1, h2, h3⟩ := hd
    have hf : FirmwareAt _ (flushReplies (blockWriteDone false s)) := .flushReplies rfl
    have hp : PowerAt _ (flushReplies (blockWriteDone false s)) := .flushReplies rfl
    exact ⟨_, exec_blockWriteDone hj hn, (congrArg (fun f : FwState => f.session.st) hf).trans h1,
      (congrArg (fun f : FwState => f.image.dlDone) hf).trans h2, (congrArg PowerState.watchdog hp).trans h3⟩
  case block =>
    intro j r a b hj hn
    obtain ⟨log, u, hu, hrun⟩ := blockWriteDone_stored (bad := a && b) hj
    obtain ⟨h1, h2, h3⟩ := downloadDone_kept log u
    rw [← hrun, show u.fw = _ from hu] at h1 h2 h3
    have hf : FirmwareAt _ (flushReplies (blockWriteDone (a && b) s)) := .flushReplies rfl
    have hblocks := (congrArg (fun f : FwState => f.image.blocks) hf).trans h3
    refine ⟨_, exec_blockWriteDone hj hn, (congrArg (fun f : FwState => f.session.jobs) hf).trans h1,
      (congrArg (fun f : FwState => f.session.written) hf).trans h2, fun hgood w => ?_, fun hbad => ?_⟩
    · refine (congrArg (fun t => tget [] t j.block) hblocks).trans ?_
      simp only [blockStored, hgood]
      exact tget_tset_same [] w _ _
    · refine hblocks.trans ?_
      simp only [blockStored, hbad]
      rfl
  case verify =>
    intro bad hst hn
    have hf : FirmwareAt _ (flushReplies (verifyDone bad s)) := .flushReplies rfl
    refine ⟨fun h => ⟨_, exec_verifyDone hst hn, ?_⟩, fun k r h => ⟨_, exec_verifyDone hst hn, ?_⟩⟩
    · rw [show (flushReplies (verifyDone bad s)).fw = _ from hf.trans (verifyDone_good h)]
      exact ⟨rfl, rfl⟩
    · rw [show (flushReplies (verifyDone bad s)).fw = _ from hf.trans (verifyDone_bad h)]
      exact ⟨rfl, rfl, rfl, rfl⟩
  case activates =>
    intro w log e h hst hcp hclear
    exact ⟨beginAbsence s, (exec_activate h hst hcp).trans (congrArg Host.Outcome.next (if_pos hclear)), rfl, rfl, rfl, rfl⟩
  case waits =>
    intro w log h hst hcp hclear
    have hno : ¬activationClear s = true := by simp [hclear]
    exact ⟨(exec_activate h hst hcp).trans (congrArg Host.Outcome.next (if_neg hno)),
      (exec_activate h hst hcp).trans (congrArg Host.Outcome.next (if_neg hno))⟩
  case gangway =>
    intro g w log hg hw habs
    have hr := endAbsence_runs g w log s
    exact ⟨exec_gangwayTake hg hw habs, exec_gangwayTake hg hw habs, exec_gangwayTake hg hw habs, _, exec_gangwayTake hg hw habs,
      congrArg Prod.fst hr, congrArg (fun q => q.2.1) hr, congrArg (fun q => q.2.2) hr⟩
  case reload =>
    exact fun q hbit hsafe => show execSequencerReload q s = _ from whenever_true (by simp [hbit, hsafe])
  case noReload =>
    intro q h
    refine show execSequencerReload q s = _ from whenever_false ?_
    rcases h with h | h <;> simp [h]
  case confirmsItself =>
    intro hp hcp hd hs ha hsup hc
    exact (exec_probation hp hcp hd hs).trans (congrArg Host.Outcome.next (if_pos (by simp [ha, hsup, hc])))
  case healthy =>
    intro hp hcp hd hs h
    refine (exec_probation hp hcp hd hs).trans (congrArg Host.Outcome.next (if_neg ?_))
    rcases h with h | h | h <;> simp [h]

end Sys2Proof

end

end
